-- ==== Sys2Proof/Pages.lean ====
section
/-! DEFINITION. The wings, the blocks that have a control page, and a page (R13, R50, R51). -/

namespace Sys2Proof

/-- The two wings of the head (R13): East is wing 0, West is wing 1. -/
inductive Wing | east | west
  deriving DecidableEq, Repr

/-- The blocks that have a control page (R51), by the prefix of their registers. -/
inductive Block
  | chp | frm | evt | pwr | foy | foq | mft | vit | anx | cat | cch | rgs | dge | cdc | cph | gal | plk 
  | dsp | cur | csv | rpl | dma | cpu | mem | hbm | doc | key | msr | prv | arc | upd | alm | rsv | wdg
  deriving DecidableEq, Repr

/-- A control page: its block, its wing and its instance number (R50). -/
structure Page where
  block : Block
  wing : Wing
  inst : Nat
  deriving DecidableEq, Repr

/-- Who makes a register access (R50, R53): a hart (0 to 25 East, 26 to 51 West), the management endpoint, the DMA
engine, Docent, or the hardware itself. -/
inductive Initiator
  | hart (n : Nat)
  | mgmt
  | dma
  | docent
  | hardware
  deriving DecidableEq, Repr

end Sys2Proof
end

