-- ==== Sys2Proof/Operands.lean ====
section
/-! DEFINITION. The compound operands of the commands: host capsules, labels, Annex entries, descriptors. -/

namespace Sys2Proof

/-- A status code of R68. -/
inductive Status
  | done | doneNote | aborted | collMismatch | labelFail | checkFail | mediaFail | limit | timeout | fenced | keyInvalid
  | noResource | protocol | internal
  deriving DecidableEq, Repr

/-- The NVMe commands a host capsule may carry (R91): those executed in hardware, the I/O commands passed to array software, admin and
fabrics commands, which array software takes too, and those not supported. -/
inductive HostOp
  | read | write | writeZeroes | flush | compare | compareWrite | verify | toSoftware | admin | fabrics | unsupported
  deriving DecidableEq, Repr

/-- The operation by which a capsule comes on RoCEv2 (R89): SEND and SEND with invalidate, by which capsules travel; RDMA WRITE and READ,
which the head itself uses for data; and what the head does not support. On NVMe/TCP a capsule comes in a PDU. -/
inductive TransOp
  | send | sendInvalidate | rdmaWrite | rdmaRead | unsupported
  deriving DecidableEq, Repr

/-- A namespace's protection format (R92): no metadata, Type 1 with a 16-bit guard in 8 bytes, or with a 64-bit guard in 16. No register
of the head holds it: array software formats namespaces. -/
inductive PiFormat
  | none | guard16 | guard64
  deriving DecidableEq, Repr

/-- The protection information of one LBA (R92): guard, application tag, reference tag. -/
structure PiTuple where
  guard : Nat
  app : Nat
  ref : Nat
  deriving DecidableEq, Repr

/-- A command capsule as it arrives (R93): the port and context it arrives on, its submission queue and command identifier,
the host's identity, the command, its namespace, first LBA and length in granules. `reserved` is the reservation check of
array software's state against this host (R91, R93); `appTag`, `chkGuard` and `chkRef` are what PRCHK asks for, `pract` is PRACT, `fmt`
the namespace's protection format (R92); `trans` is the operation it came by, `inCapsule` its bytes of in-capsule data (R89), and
`intact` whether its digests, or its TLS record's tag, hold (R90, R93 step 1). -/
structure Capsule where
  wing : Wing
  port : Nat
  ctx : Nat
  queue : Nat
  cid : Nat
  host : Nat
  op : HostOp
  nsid : Nat
  slba : Nat
  count : Nat
  reserved : Bool
  appTag : Bool
  chkGuard : Bool
  chkRef : Bool
  pract : Bool
  fmt : PiFormat
  trans : TransOp
  inCapsule : Nat
  intact : Bool
  deriving DecidableEq, Repr

/-- What a completion to a host ends (R91, R108): a command that holds a host tag, with the result of the head's own work; or a command
that array software took from the exception ring, by its context, queue and identifier, with the NVMe status software gives. -/
inductive HostEnd
  | tag (n : Nat) (status : Status)
  | software (ctx queue cid sct sc : Nat) (dnr : Bool)
  deriving DecidableEq, Repr

/-- How a connection authenticates (R87, R90): in-band, or by a TLS 1.3 handshake, whose ClientHello offers the head's one cipher suite
with PSK and ephemeral secp384r1, and needs no more, or does not. -/
inductive AuthKind
  | inBand
  | tls (offered : Bool)
  deriving DecidableEq, Repr

/-- A fused record (R106). -/
structure FusedRec where
  host : Nat
  nsid : Nat
  slba : Nat
  cid : Nat
  wing : Wing
  ctx : Nat
  queue : Nat
  sct : Nat
  sc : Nat
  dnr : Bool
  deriving DecidableEq, Repr

/-- A granule's label (R253). -/
structure Label where
  guard : Nat
  fptag : Nat
  coll : Nat
  raw : Bool
  system : Bool
  sheet : Nat
  gidx : Nat
  panel : Nat
  glen : Nat
  serial : Nat
  lcrc : Nat
  deriving DecidableEq, Repr

/-- An entry of a MIRROR or RESILVER message with its granule (R156). The 4 KiB of a granule are one number, byte 0 lowest. -/
structure MirrorEntry where
  label : Label
  nsid : Nat
  granule : Nat
  wseq : Nat
  data : Nat
  deriving DecidableEq, Repr

/-- An entry of a CAT_UPDATE message (R156, R191, R311). Flag bit 0 is reference-only and bit 1 edition point; an entry with
namespace ID 0xFFFF_FFFF is a hall change, which the flags name. -/
structure CatEntry where
  nsid : Nat
  flags : Nat
  granule : Nat
  wseq : Nat
  newLoc : Nat
  oldLoc : Nat
  deriving DecidableEq, Repr

/-- A 64-byte engine descriptor (R64), byte 0 lowest. -/
abbrev Desc := BitVec 512

/-- Where a descriptor comes from: the head of a ring, an internal requester, or one of Docent's own rings (R216, R226). -/
inductive Source
  | ring (n : Nat)
  | internal (d : Desc)
  | docent (d : Desc)
  deriving DecidableEq, Repr

/-- A Mehror packet (R120, R121) with its UDP port: base header, extension fields, payload. Extension fields an opcode does not
carry are 0. `tagOk` is whether the GCM tag verifies, `ce` the CE mark of its IP header (R122, R133). -/
structure MftPacket where
  port : Nat
  version : Nat
  opcode : Nat
  ackReq : Bool
  first : Bool
  last : Bool
  solicited : Bool
  paylen : Nat
  srcNode : Nat
  dstNode : Nat
  collId : Nat
  retry : Nat
  dstConn : Nat
  psn : Nat
  txc : Nat
  ts : Nat
  rkey : Nat
  len : Nat
  offset : Nat
  addend : Nat
  swap : Nat
  msgId : Nat
  msgLen : Nat
  imm : Nat
  nextPsn : Nat
  rwin : Nat
  ceCount : Nat
  tsEcho : Nat
  sack : Nat
  code : Nat
  data : Nat
  tagOk : Bool
  ce : Bool
  deriving DecidableEq, Repr

/-- A plinth-link command record (R282), with its data bytes (R281). -/
structure PlkCmd where
  opcode : Nat
  labels : Bool
  slc : Bool
  mgmt : Bool
  gen : Nat
  slot : Nat
  frame : Nat
  start : Nat
  channel : Nat
  die : Nat
  block : Nat
  row : Nat
  first : Nat
  sheets : Nat
  epoch : Nat
  addr : Nat
  arg : Nat
  dlen : Nat
  data : Nat
  deriving DecidableEq, Repr

/-- A plinth-link completion record (R291), with its data bytes. -/
structure PlkDone where
  mgmt : Bool
  gen : Nat
  slot : Nat
  status : Status
  suspended : Bool
  labelsSent : Bool
  wide : Bool
  corrected : Nat
  maxCw : Nat
  suspends : Nat
  retries : Nat
  startFrame : Nat
  startSlot : Nat
  busy : Nat
  word : Nat
  dlen : Nat
  data : Nat
  deriving DecidableEq, Repr

/-- What a replication message carries after its header (R343). -/
inductive RplBody
  /-- Granule, GUARD64, data. -/
  | syncWrite (es : List (Nat × Nat × Nat))
  | begin (edition base : Nat)
  /-- Granule, fingerprint. -/
  | offer (edition : Nat) (es : List (Nat × Nat))
  /-- Granule, GUARD64, fingerprint; then the case image, or one raw granule. -/
  | case (edition : Nat) (es : List (Nat × Nat × Nat)) (raw : Bool) (image : Nat)
  /-- First granule, count, kind. -/
  | unmap (runs : List (Nat × Nat × Nat))
  | commit (edition base changed : Nat)
  /-- A reply's bitmap: HAVE for each entry of an OFFER; empty for every other reply. -/
  | reply (have' : List Bool)
  deriving DecidableEq, Repr

/-- How a die operation of a bridge ends (R288, R291): its port and slot, whether it failed, the bits corrected, the read-retry
levels used, and the die's time in units of 100 ns. -/
structure BrEnd where
  port : Nat
  slot : Nat
  fail : Bool
  corrected : Nat
  maxCw : Nat
  retries : Nat
  busy : Nat
  deriving DecidableEq, Repr

/-- The privilege mode a hart executes in (R367). -/
inductive HartMode | m | s | u | vs | vu
  deriving DecidableEq, Repr

/-- What an uncorrectable HBM error lies in (R383): a Vitrine slot or its record, by namespace, granule and write sequence; the
staging region, read by an engine operation or by a core; or data that nothing reads. -/
inductive HbmUe
  | slot (nsid granule wseq : Nat)
  | engine (cls : Block) (tag : Nat)
  | core (hart : Nat)
  | unread
  deriving DecidableEq, Repr

/-- What an agreement between Docents is for (R418): a Mehror connection of a collection or of the system, the pair transfer key, or a
key manager's import key. -/
inductive AgreePurpose
  | collection (coll : Nat)
  | system
  | pair
  | keyManager
  deriving DecidableEq, Repr

/-- A peer's message of an agreement (R418): its UID and node, the purpose, both connection IDs, its nonce and ephemeral public key, and
whether its certificate chain and its signature verify, and whether its head holds the pair's seal and label keys (R520). -/
structure AgreeMsg where
  uid : Nat
  node : Nat
  purpose : AgreePurpose
  ids : Nat
  nonce : Nat
  pub : Nat
  chainOk : Bool
  sigOk : Bool
  held : Bool
  deriving DecidableEq, Repr

/-- One step of R418 in a PEER_AGREE request: this side's message is asked for; the peer's message arrives, with the data slot that a
Mehror key goes to and the agreement's epoch; the peer's seal and label keys arrive, wrapped under private slot 5. -/
inductive AgreeStep
  | start (purpose : AgreePurpose) (ids : Nat)
  | finish (msg : AgreeMsg) (slot epoch : Nat)
  | pairKeys (sealKey labelKey : Nat)
  deriving DecidableEq, Repr

/-- What every custodian-signed request carries (R415, R416): its entry of the request area, the head's UID, the custodian counter,
whether the signature verifies under the custodian's key, and the SHA-384 of the request. -/
structure SignedReq where
  entry : Nat
  uid : Nat
  counter : Nat
  sigOk : Bool
  digest : Nat
  deriving DecidableEq, Repr

/-- Who an Archive operation is for (R437): Docent's queue, with the descriptor's TAG and QUIET; the UPD engine. -/
inductive ArcJob
  | queue (tag : Nat) (quiet : Bool)
  | upd
  deriving DecidableEq, Repr

/-- A power island with a rung that software sees (R465): a page's block, or an application core, by its hart. -/
inductive Island
  | page (p : Page)
  | core (hart : Nat)
  deriving DecidableEq, Repr

/-- How an Archive operation's pulses end (R431, R432): the most pulses that a word or sector needed, and the index of the word or
sector that fails, if one does. -/
structure PulseEnd where
  pulses : Nat
  fails : Option Nat
  deriving DecidableEq, Repr

end Sys2Proof
end

