-- ==== Sys2Proof/Syntax.lean ====
section
/-! DEFINITION. The commands, one constructor per row of spec/opcode_table.json, with what arrives with each. -/

namespace Sys2Proof

/-- A command of the block: a register access, a packet, flit, message or capsule that arrives, a descriptor taken from a
ring, a timer or tick that falls due, or a change at a pin. Each constructor's text is its row's. -/
inductive Instr
  /-- REGISTER_WRITE (R8): A write to a register that has no row of its own is applied, held or refused according to the access class of each field. A write of one aligned word at an address. -/
  | registerWrite (ini : Initiator) (addr : Nat) (value : Word)
  /-- PARTIAL_ACCESS (R6): A register access that is not an aligned 32-bit word ends in a bus error, leaves the register unchanged and records the address. The bytes accessed, from an address. -/
  | partialAccess (ini : Initiator) (addr : Nat) (size : Nat) (write : Bool)
  /-- PAIR_LO_READ (R7): A read of a _LO register latches a copy of its _HI half for the next _HI read. A read of one aligned word. -/
  | pairLoRead (ini : Initiator) (addr : Nat)
  /-- PAIR_HI_WRITE (R7): A write to a _HI register is held until the next _LO write, and both halves then take effect together. -/
  | pairHiWrite (ini : Initiator) (addr : Nat) (value : Word)
  /-- UNDECODED_ACCESS (R52): An access to an undecoded address in a control window ends in a bus error and is recorded in CHP_BUS_ERR of the decoding wing. -/
  | undecodedAccess (ini : Initiator) (addr : Nat) (write : Bool)
  /-- FIREWALL_ACCESS (R52): An access by a non-Docent initiator to the Docent window, or any write to the mirror window, is refused and recorded with code FIREWALL. -/
  | firewallAccess (ini : Initiator) (addr : Nat) (write : Bool)
  /-- ERR_INFO_CLEAR (R60): Clearing ERR_INFO.VALID clears COUNT and rearms capture of the first error. -/
  | errInfoClear (ini : Initiator) (page : Page)
  /-- COMMIT_GO (R57): A write of COMMIT.GO requests that the pending RWF values of the page apply at the next frame tick. -/
  | commitGo (ini : Initiator) (page : Page)
  /-- BLOCK_RESET (R55): CTRL.BLOCK_RESET returns a quiesced page and its block to reset state and leaves QUIESCE at 1, or is refused while the page is not quiesced. -/
  | blockReset (ini : Initiator) (page : Page)
  /-- QUIESCE_REQUEST (R54): A write of QUIESCE or ENABLE that stops the block accepting new work while it completes the work in progress. The values CTRL.ENABLE and CTRL.QUIESCE are written with. -/
  | quiesceRequest (ini : Initiator) (page : Page) (enable : Bool) (quiesce : Bool)
  /-- QUIESCE_DONE (R54): When the last operation in progress completes, STATUS.QUIESCED becomes 1. -/
  | quiesceDone (page : Page)
  /-- BLOCK_ENABLE (R54): A write of CTRL.ENABLE to 1 with QUIESCE at 0 lets the block accept work again. -/
  | blockEnable (ini : Initiator) (page : Page)
  /-- INSTANCE_FENCE (R513): A write of 1 to CTRL.FENCE of a quiesced FOY or PLK page fences the instance and moves it to rung 4. -/
  | instanceFence (ini : Initiator) (page : Page)
  /-- INSTANCE_UNFENCE (R513): A write of 0 to CTRL.FENCE unfences the instance, which returns as after a block reset. -/
  | instanceUnfence (ini : Initiator) (page : Page)
  /-- BLOCK_FAULT (R56): A block that detects an internal fault sets FAULT, completes the affected operations with INTERNAL and quiesces itself. The tags of the operations in progress that the fault affects. -/
  | blockFault (page : Page) (tags : List Nat)
  /-- EVT_STATUS_CLEAR (R70): A W1C write to EVT_STATUS clears event bits, and an enabled bit that the hardware set again in the same cycle is delivered again. The bits written 1, and the bits the hardware sets again in the same cycle. -/
  | evtStatusClear (ini : Initiator) (page : Page) (mask : Word) (again : Word)
  /-- EVT_ENABLE_WRITE (R70): A write to EVT_ENABLE delivers every newly enabled event whose status bit is already 1. -/
  | evtEnableWrite (ini : Initiator) (page : Page) (value : Word)
  /-- EVT_FORCE (R53): A write of 1 to an EVT_FORCE bit sets the event as if its source had raised it. -/
  | evtForce (ini : Initiator) (page : Page) (mask : Word)
  /-- EVT_SW_RAISE (R73): A write to EVT_SW_RAISE raises software event 992 + N on the wing of the EVT page written. -/
  | evtSwRaise (ini : Initiator) (wing : Wing) (value : Word)
  /-- ROUTE_DATA_WRITE (R72): A write to EVT_ROUTE_DATA updates the selected route entry, unless the entry is locked or the write names a forbidden responder. -/
  | routeDataWrite (ini : Initiator) (wing : Wing) (value : Word)
  /-- ROUTE_ERROR (R80): A parity error in the route table zeroes the entry and raises ROUTE_ERROR. -/
  | routeError (wing : Wing) (entry : Nat)
  /-- WG_STALL (R76): A wait group that stays quiet for EVT_WG_TIMEOUT is marked stalled, and Docent and the rescue hart are signalled. -/
  | wgStall (group : Nat)
  /-- WG_WAKE (R76): A write of EVT_WG_WAKE by the rescue hart or Docent ends every member's WAIT with a forced wake and restarts the group's timer. -/
  | wgWake (ini : Initiator) (wing : Wing) (value : Word)
  /-- WG_MEMBERS_WRITE (R76): A change of wait-group membership restarts the group's stall timer. -/
  | wgMembersWrite (ini : Initiator) (wing : Wing) (lo : Word) (hi : Word)
  /-- KEY_ERASE (R222): The key-erase responder zeroes every key slot, tile key register, digest key state, fingerprint state and context-wrap key within 1 µs and aborts keyed operations. -/
  | keyErase
  /-- QUOTA_SHRINK (R147): The QUOTA_SHRINK responder starts the Vitrine's stepwise reduction of the dirty quota. -/
  | quotaShrink (wing : Wing)
  /-- FOYER_PAUSE (R102): The FOYER_PAUSE responder sets FOQ_FETCH.PAUSED, and the wing takes no new capsule. -/
  | foyerPause (wing : Wing)
  /-- ACCESSION_HOLD (R73): The ACCESSION_HOLD responder holds new accession batches on the event's wing. -/
  | accessionHold (wing : Wing)
  /-- FRAME_TICK (R30): The frame counter reaches the end of a frame, and the local tick advances FRM_FRAME and begins a new frame. Whether a wing's Dispatcher misses the deadline with the next frame's schedule: then how many programs and erases of it are sent by then. -/
  | frameTick (lateE : Option Nat) (lateW : Option Nat)
  /-- SLOT_BOUNDARY (R27): The frame timebase reaches the start of the next slot. -/
  | slotBoundary
  /-- SCHEDULE_DEADLINE (R33): The deadline slot passes with the Dispatcher's next schedule incomplete, so the next frame becomes a late-schedule frame. -/
  | scheduleDeadline (wing : Wing)
  /-- TICK_MARKER (R42): A follower receives a tick marker and tracks, slips, declares the timebase lost or advances relocking. The marker with the Annex port it arrives on, whether the link resent it, and its arrival in ns after the local tick that began the current frame. -/
  | tickMarker (port : Wing) (payload : Word) (flagged : Bool) (arrival : Nat)
  /-- MISSED_TICK (R42): No marker arrives within half a slot of a local tick, and the eighth miss in a row declares the timebase lost. -/
  | missedTick
  /-- LENGTH_SET_CHANGE (R44): A write of FRM_LENGTH_SET.CHANGE on a master or solo head starts a 15-tick countdown announcing the new frame length. -/
  | lengthSetChange (ini : Initiator) (wing : Wing)
  /-- LENGTH_CHANGED (R44): The countdown ends and the new frame length applies from that tick. -/
  | lengthChanged
  /-- PTP_OFFSET_WRITE (R46): A write of FRM_PTP_OFFSET replaces the offset that remains to be absorbed. -/
  | ptpOffsetWrite (ini : Initiator) (value : Word)
  /-- CLR_COUNTS (R49): FRM_CTRL.CLR_COUNTS clears the page's slip and loss counters. -/
  | clrCounts (ini : Initiator) (wing : Wing)
  /-- FOY_LINK_CHANGE (R83): A Foyer logical link goes up or down. -/
  | foyLinkChange (wing : Wing) (port : Nat) (link : Nat) (up : Bool)
  /-- FEC_DEGRADED (R83): A link's post-FEC error ratio has stayed above 10^-6 for one second, so the link is marked FEC_DEGRADED. -/
  | fecDegraded (wing : Wing) (port : Nat) (link : Nat)
  /-- PAUSE_FRAME (R84): A PFC pause frame arrives for an enabled priority. On: a pause; off: the peer releases the priority. -/
  | pauseFrame (wing : Wing) (port : Nat) (prio : Nat) (on : Bool)
  /-- PFC_STORM (R84): A priority has been paused continuously for STORM_MS, so the port stops honouring pauses on it and raises PFC_STORM. -/
  | pfcStorm (wing : Wing) (port : Nat) (prio : Nat)
  /-- PFC_STORM_END (R84): No pause frame has arrived for STORM_MS, so the port honours pauses on the priority again. -/
  | pfcStormEnd (wing : Wing) (port : Nat) (prio : Nat)
  /-- CE_MARKED_PACKET (R85): A RoCEv2 packet marked CE arrives, and the port sends a congestion notification packet when CNP_EN is 1. -/
  | ceMarkedPacket (wing : Wing) (port : Nat) (ctx : Nat)
  /-- CNP_RECEIVED (R85): A congestion notification packet cuts the queue pair's send rate by RATE_CUT/256. -/
  | cnpReceived (wing : Wing) (port : Nat) (ctx : Nat)
  /-- RATE_RECOVER (R85): RECOVER_US elapses and the queue pair's send rate rises by one additive step. -/
  | rateRecover (wing : Wing) (port : Nat) (ctx : Nat)
  /-- PTP_EVENT_MESSAGE (R85): An IEEE 1588 event message is timestamped at the PHY and delivered on the management receive ring. The time of the message at the PHY, on FRM time, in ns. -/
  | ptpEventMessage (wing : Wing) (port : Nat) (time : Nat)
  /-- CONNECTION_REQUEST (R86): A connection request takes a free transport context of the port's wing or is refused with CTX_EXHAUSTED. The context type asked for: 1 RoCEv2, 2 NVMe/TCP, 3 Mehror; on RoCEv2, the path MTU. -/
  | connectionRequest (wing : Wing) (port : Nat) (type : Nat) (pmtu : Nat)
  /-- AUTH_COMPLETE (R87): An authentication or TLS handshake completes in a digest lane and sets AUTHENTICATED and COLL, or fails and raises AUTH_FAIL. Whether the host's response or handshake is right, and which it was. -/
  | authComplete (wing : Wing) (ctx : Nat) (good : Bool) (kind : AuthKind)
  /-- CTX_BIND_WRITE (R88): A write to FOQ_CTX_BIND sets up, binds or frees a context, or is ignored with CONFIG. -/
  | ctxBindWrite (ini : Initiator) (wing : Wing) (value : Word)
  /-- COLL_ENTRY_WRITE (R115): A write to FOQ_COLL_RATE or FOQ_COLL_BURST adds a pending entry, or is ignored when 256 entries are already pending. FOQ_COLL_BURST, or FOQ_COLL_RATE. -/
  | collEntryWrite (ini : Initiator) (wing : Wing) (burst : Bool) (value : Word)
  /-- COMMAND_CAPSULE (R93): A command capsule arrives and is checked for identifier, collection, reservation and ANA state in order. -/
  | commandCapsule (cap : Capsule)
  /-- KEEP_ALIVE (R91): A Keep Alive command is answered in hardware. -/
  | keepAlive (cap : Capsule)
  /-- COMMAND_ADMIT (R95): A waiting command is admitted when credit, a host tag and quota allow, and its cost is charged. The data that a write or a compare transfers, granule by granule (a fused pair's compare data first), with the protection information of each. -/
  | commandAdmit (wing : Wing) (ctx : Nat) (queue : Nat) (cid : Nat) (data : List Nat) (pi : List PiTuple)
  /-- BOUND_LONG (R101): The wing has stalled for FOQ_STALL_THRESH consecutive frames, so BOUND_LONG is raised. -/
  | boundLong (wing : Wing)
  /-- RESUME (R102): FOQ_CTRL.RESUME clears PAUSED. Whether the FOYER_PAUSE responder acts again in the same cycle. -/
  | foqResume (ini : Initiator) (wing : Wing) (again : Bool)
  /-- FUSED_RECORD_ACK (R106): The transport acknowledges a fused completion, or a later capsule arrives on its queue, and the fused record is deleted. -/
  | fusedRecordAck (host : Nat) (nsid : Nat) (slba : Nat) (cid : Nat)
  /-- FUSED_HOLD_EXPIRY (R106): A fused record reaches FOQ_FUSED.HOLD_MS and is deleted. -/
  | fusedHoldExpiry (host : Nat) (nsid : Nat) (slba : Nat) (cid : Nat)
  /-- HOST_COMPLETION (R108): A command's completion condition is met, and the Foyer sends its data and completion to the host. -/
  | hostCompletion (wing : Wing) (fin : HostEnd)
  /-- MFT_DESC_WRITE (R138): A Mehror WRITE descriptor is split into packets and sent. -/
  | mftDescWrite (wing : Wing) (src : Source)
  /-- MFT_DESC_READ (R138): A Mehror READ descriptor is issued as READ requests of up to 64 chunks. -/
  | mftDescRead (wing : Wing) (src : Source)
  /-- MFT_DESC_SEND (R138): A Mehror SEND descriptor is split into SEND packets of a message. -/
  | mftDescSend (wing : Wing) (src : Source)
  /-- MFT_DESC_ATOMIC_ADD (R138): A Mehror ATOMIC_ADD descriptor sends an ATOMIC_ADD request. -/
  | mftDescAtomicAdd (wing : Wing) (src : Source)
  /-- MFT_DESC_ATOMIC_CAS (R138): A Mehror ATOMIC_CAS descriptor sends an ATOMIC_CAS request. -/
  | mftDescAtomicCas (wing : Wing) (src : Source)
  /-- POST_RECV (R135): A POST_RECV descriptor adds a receive buffer to a Mehror context, up to 1,024. -/
  | postRecv (wing : Wing) (src : Source)
  /-- MFT_WRITE_PACKET (R129): A received Mehror WRITE packet is checked, sequenced and placed in its region. -/
  | mftWritePacket (wing : Wing) (p : MftPacket)
  /-- MFT_READ_PACKET (R128): A received Mehror READ request is checked and answered with READ_RESP chunks. -/
  | mftReadPacket (wing : Wing) (p : MftPacket)
  /-- READ_RESP (R129): A READ_RESP chunk arrives and is placed, and the READ completes when every chunk is placed. -/
  | readResp (wing : Wing) (p : MftPacket)
  /-- MFT_SEND_PACKET (R135): A received SEND packet goes into its message's posted buffer, or is answered with NAK RNR or LENGTH. -/
  | mftSendPacket (wing : Wing) (p : MftPacket)
  /-- MFT_ATOMIC_ADD_PACKET (R131): A received ATOMIC_ADD executes once, in order, records the replay cache and sends ATOMIC_RESP. -/
  | mftAtomicAddPacket (wing : Wing) (p : MftPacket)
  /-- MFT_ATOMIC_CAS_PACKET (R131): A received ATOMIC_CAS executes once, in order, records the replay cache and sends ATOMIC_RESP. -/
  | mftAtomicCasPacket (wing : Wing) (p : MftPacket)
  /-- ATOMIC_RESP (R138): An ATOMIC_RESP completes its atomic and writes ORIGINAL at the local offset. -/
  | atomicResp (wing : Wing) (p : MftPacket)
  /-- MFT_ACK (R133): A received ACK acknowledges PSNs, adjusts the congestion window, completes operations and may trigger fast retransmission. Its arrival on FRM_TIME, in ns. -/
  | mftAck (wing : Wing) (p : MftPacket) (time : Nat)
  /-- MFT_NAK (R125): A received NAK completes or retries the operation as its code gives. Its arrival on FRM_TIME, in ns. -/
  | mftNak (wing : Wing) (p : MftPacket) (time : Nat)
  /-- ACK_DELAY (R130): ACK_DELAY elapses after the first unacknowledged accepted packet, and an ACK is sent. -/
  | ackDelay (wing : Wing) (ctx : Nat)
  /-- RTO_EXPIRY (R136): A PSN's retransmission timer expires, and the PSN is retransmitted or the connection fails. -/
  | rtoExpiry (wing : Wing) (ctx : Nat) (psn : Nat)
  /-- RNR_DELAY (R135): RNR_DELAY expires after a NAK RNR, and the message packet is retransmitted. -/
  | rnrDelay (wing : Wing) (ctx : Nat) (psn : Nat)
  /-- MFT_OPEN (R139): MFT_CTX_CMD OPEN opens an authenticated, valid context or is ignored with CONFIG. -/
  | mftOpen (ini : Initiator) (wing : Wing)
  /-- MFT_CLOSE (R139): MFT_CTX_CMD CLOSE moves the context to CLOSING and aborts its outstanding operations. -/
  | mftClose (ini : Initiator) (wing : Wing)
  /-- CLOSE_DONE (R139): A CLOSING context's INFLIGHT reaches 0, and it becomes IDLE. -/
  | closeDone (wing : Wing) (ctx : Nat)
  /-- GRANULE_PLACE (R144): A granule is placed in a new slot of the home wing under the next write sequence once the mirror queue has room. The command by its host tag, and the granule's index in it. -/
  | granulePlace (wing : Wing) (tag : Nat) (idx : Nat)
  /-- MIRROR (R159): A received MIRROR or duplicate is written as MIRROR slots and acknowledged, or refused with NO_RESOURCE or LABEL_FAIL. Its granules, and the fused record that shares their commit. -/
  | anxMirror (port : Wing) (mtag : Nat) (coll : Nat) (es : List MirrorEntry) (fused : List FusedRec)
  /-- MIRROR_ACK (R159): A MIRROR_ACK with status DONE gives its granules their mirror commit. The commit's time in ns, as R161 measures it. -/
  | mirrorAck (mtag : Nat) (status : Status) (latency : Nat)
  /-- MIRROR_RESEND (R159): 1 µs after a NO_RESOURCE acknowledgement, the granule is resent. -/
  | mirrorResend (mtag : Nat)
  /-- CAT_UPDATE (R165): The peer applies a CAT_UPDATE message whole, frees the matching MIRROR slots and answers CAT_ACK, or raises COHERENCE_FAULT. -/
  | catUpdate (port : Wing) (mtag : Nat) (coll : Nat) (es : List CatEntry)
  /-- CAT_ACK (R165): A CAT_ACK with DONE lets the owner free its DIRTY slots, or with CHECK_FAIL stops accession for the namespaces. -/
  | catAck (mtag : Nat) (status : Status)
  /-- FORWARD (R164): The owner executes a forwarded command once and answers with FORWARD_RESP. The command capsule, and the data of a write or a compare. -/
  | anxForward (port : Wing) (mtag : Nat) (coll : Nat) (cap : Capsule) (data : List Nat)
  /-- FORWARD_RESP (R164): The non-owner records its staging slots as MIRROR with the owner's write sequences and completes the command to the host. The NVMe status, the owner's write sequences, the read data. -/
  | forwardResp (mtag : Nat) (sct : Nat) (sc : Nat) (dnr : Bool) (wseqs : List Nat) (data : List Nat)
  /-- HEARTBEAT (R168): A received HEARTBEAT keeps the pair alive, or with pair state STOPPED sends the receiver to SOLO or counts as no heartbeat. The peer's pair state, PREFER and epoch. -/
  | heartbeat (state : Nat) (prefer : Bool) (epoch : Nat)
  /-- HEARTBEAT_SEND (R168): PERIOD_US elapses and a HEARTBEAT is sent on VC0. -/
  | heartbeatSend
  /-- HEARTBEAT_LOSS (R171): No HEARTBEAT has arrived for LOSS_US, so the head enters SUSPECT. -/
  | heartbeatLoss
  /-- OWNERSHIP (R176): A received OWNERSHIP message moves the listed namespaces and is answered with OWNERSHIP_ACK. -/
  | ownership (port : Wing) (mtag : Nat) (coll : Nat) (give : Bool) (nsids : List Nat)
  /-- OWNERSHIP_ACK (R176): An OWNERSHIP_ACK completes an ownership move, and the giving head frees its DIRTY slots of the namespaces. -/
  | ownershipAck (mtag : Nat) (status : Status)
  /-- RESILVER (R175): A received RESILVER message is held as MIRROR slots and acknowledged as a MIRROR. -/
  | resilver (port : Wing) (mtag : Nat) (coll : Nat) (es : List MirrorEntry)
  /-- ANX_FLIT (R154): An Annex flit is accepted in sequence, or discarded and NAKed. Whether the CRC holds after correction, the header's fields, the credits a LINK flit returns on each channel, and the MTYPE of the message that the flit completes, if it completes one. -/
  | anxFlit (wing : Wing) (good : Bool) (ftype : Nat) (vc : Nat) (lseq : Nat) (acktype : Nat) (ackseq : Nat) (credits : List Nat) (mtype : Option Nat)
  /-- ANX_REPLAY_TIMER (R154): The oldest unacknowledged Annex flit has waited 400 ns, and the transmitter resends from it. -/
  | anxReplayTimer (wing : Wing)
  /-- ANX_RETRAIN_TIMEOUT (R155): A retrain has not succeeded within 32 µs, so the port is down and its messages are resent on the other port. -/
  | anxRetrainTimeout (wing : Wing)
  /-- ANX_TRAINED (R150): An Annex port completes training, measures its delay and sets UP. The measured one-way delay in ns, the lanes, and the link sequence the peer expects next. -/
  | anxTrained (wing : Wing) (delay : Nat) (lanes : Nat) (expected : Nat)
  /-- ANX_TRAIN_TIMEOUT (R150): A port is not up 50 ms after enable, so LINK_CHANGE is raised while it keeps training. -/
  | anxTrainTimeout (wing : Wing)
  /-- ANX_RETRAIN_CMD (R180): ANX_CTRL.RETRAIN retrains the port. -/
  | anxRetrainCmd (ini : Initiator) (wing : Wing)
  /-- ANX_CLR_STATS (R180): ANX_CTRL.CLR_STATS clears ANX_COMMIT_MAX and the retry and retrain counters. -/
  | anxClrStats (ini : Initiator) (wing : Wing)
  /-- LEASE_RENEW (R169): RENEW_US elapses, and the head renews its lease in every present witness register. -/
  | leaseRenew
  /-- LEASE_LAPSE (R170): The head has not renewed in a quorum for LEASE_US / 2, so it stops writes and enters STOPPED. -/
  | leaseLapse
  /-- WITNESS_POLL (R171): In SUSPECT, every 20 µs, the head reads the peer's lease in every present witness register. -/
  | witnessPoll
  /-- TAKEOVER (R173): With claims standing in a quorum, the head becomes master, adopts MIRROR slots, takes the namespaces, marks the open ring and enters SOLO. The time since TAKEOVER_START, in µs. -/
  | takeover (micros : Nat)
  /-- ISOLATE_TIMEOUT (R172): The heartbeat has been lost for ANX_ISOLATE.MS with the peer's lease live, so the head enters ISOLATED and either stops or waits by PREFER. -/
  | isolateTimeout
  /-- JOIN (R175): ANX_PAIR_CMD JOIN forms or rejoins the pair: training, epoch, Catalogue load and resilver. -/
  | pairJoin (ini : Initiator) (wing : Wing)
  /-- RESILVER_DONE (R175): The resilver copy completes, and both heads enter MIRRORED. -/
  | resilverDone
  /-- GIVEBACK (R176): ANX_PAIR_CMD GIVEBACK returns the joiner's preferred namespaces in batches. -/
  | giveback (ini : Initiator) (wing : Wing)
  /-- GIVEBACK_BATCH (R176): A batch's in-flight commands complete, and its ownership moves in both Catalogues. -/
  | givebackBatch
  /-- LEAVE (R518): ANX_PAIR_CMD LEAVE gives every namespace to the peer and enters STOPPED. -/
  | pairLeave (ini : Initiator) (wing : Wing)
  /-- SHRINK_START (R147): VIT_CTRL.SHRINK_START starts a dirty-quota shrink. -/
  | shrinkStart (ini : Initiator) (wing : Wing)
  /-- SHRINK_RESTORE (R147): VIT_CTRL.SHRINK_RESTORE ends the shrink and restores the quota at the next tick. -/
  | shrinkRestore (ini : Initiator) (wing : Wing)
  /-- OVER_QUOTA_LONG (R148): A write has waited on the quota for 1,024 frames, so OVER_QUOTA is raised again. -/
  | overQuotaLong
  /-- ADOPT (R177): VIT_RETAIN.ADOPT turns retained DIRTY, ACCESSION and MIRROR records into DIRTY on a SOLO head. -/
  | retainAdopt (ini : Initiator) (wing : Wing)
  /-- DISCARD (R177): VIT_RETAIN.DISCARD frees the retained slots. -/
  | retainDiscard (ini : Initiator) (wing : Wing)
  /-- SLOT_ECC (R178): An uncorrectable slot-record error retires the slot, and the peer's copy is resent. -/
  | slotEcc (wing : Wing) (nsid : Nat) (granule : Nat) (wseq : Nat)
  /-- CREATE (R184): CAT_NS_CMD CREATE makes a namespace on the owner and sends it in the CAT_UPDATE stream. -/
  | nsCreate (ini : Initiator) (wing : Wing)
  /-- DELETE (R184): CAT_NS_CMD DELETE removes a namespace on the owner. -/
  | nsDelete (ini : Initiator) (wing : Wing)
  /-- RESIZE (R184): CAT_NS_CMD RESIZE changes a namespace's size on the owner. -/
  | nsResize (ini : Initiator) (wing : Wing)
  /-- FREEZE (R193): CAT_NS_CMD FREEZE makes an edition, sending the edition point and recording the root and freeze serial. -/
  | nsFreeze (ini : Initiator) (wing : Wing)
  /-- EDITION_DELETE (R195): CAT_NS_CMD EDITION_DELETE walks the edition against its neighbours and releases pages that only it holds. -/
  | editionDelete (ini : Initiator) (wing : Wing)
  /-- EXPOSE (R195): CAT_NS_CMD EXPOSE makes an edition readable as a read-only namespace. -/
  | nsExpose (ini : Initiator) (wing : Wing)
  /-- UNEXPOSE (R195): CAT_NS_CMD UNEXPOSE withdraws an exposed edition. -/
  | nsUnexpose (ini : Initiator) (wing : Wing)
  /-- CKPT_NOW (R190): CAT_CTRL.CKPT_NOW starts a checkpoint. -/
  | ckptNow (ini : Initiator) (wing : Wing)
  /-- CKPT_INTERVAL (R190): INTERVAL × 1,000 frames have passed, so a checkpoint starts. -/
  | ckptInterval
  /-- CKPT_DONE (R190): The checkpoint record is acknowledged, so the marker is sent, the journal is trimmed and CKPT_DONE is raised. The checkpoint record's locator, and the time the checkpoint took, in ms. -/
  | ckptDone (loc : Nat) (ms : Nat)
  /-- PAGE_IN (R188): A Catalogue or index page read from flash arrives, its seal is checked and waiting lookups continue. Whether the page's seal holds, and where it does not, whether that of the page rebuilt from its gallery does. -/
  | pageIn (nsid : Nat) (leaf : Nat) (sealOk : Bool) (rebuiltOk : Bool)
  /-- WAY_EN_WRITE (R197): A change of CCH_WAY_EN removes or restores a way, and a removed way is cleaned. -/
  | wayEnWrite (ini : Initiator) (wing : Wing) (value : Word)
  /-- WAY_CLEAN_DONE (R197): A way's dirty lines are written back, and the way goes to rung 3 and raises CLEAN_DONE. -/
  | wayCleanDone (wing : Wing) (way : Nat) (micros : Nat)
  /-- WAY_ECC_FENCE (R198): A way exceeds CCH_ECC_THRESH corrected errors, so it is cleaned and fenced. The corrected errors that the way takes. -/
  | wayEccFence (wing : Wing) (way : Nat) (errors : Nat)
  /-- LINE_ECC (R198): An uncorrectable Catalogue cache line error refetches a clean line or loses a dirty one, which is rebuilt from flash and the journal. -/
  | lineEcc (wing : Wing) (set : Nat) (way : Nat)
  /-- ACCESSION_BATCH (R203): The Registrar takes up to RGS_BUDGET granules of the frame, fingerprints them and sorts them into duplicates and unique granules. -/
  | accessionBatch (wing : Wing)
  /-- COMPARE_READ_DONE (R205): A compare-mode read completes and the granule rejoins the batch of that frame. The granule by its write sequence, the read's result, whether the bytes are the same, and whether the lane's doubled pair is faulty. -/
  | compareReadDone (wing : Wing) (wseq : Nat) (status : Status) (same : Bool) (faulty : Bool)
  /-- REINDEX (R201): RGS_CTRL.REINDEX re-fingerprints the selected collection's blind entries. -/
  | rgsReindex (ini : Initiator) (wing : Wing)
  /-- REPLAY_DONE (R192): The takeover journal replay through the Registrar ends. -/
  | replayDone
  /-- UNIT_FAILED (R217): An engine unit fails a check and becomes FAILED, its operation is restarted, and a spare is substituted if one remains. The cause: 1 test, 2 parity, 3 lock-step, 4 doubled flag. -/
  | unitFailed (cls : Block) (wing : Wing) (unit : Nat) (cause : Nat)
  /-- UNIT_FENCE (R219): XXX_UNIT_CMD FENCE moves a unit to DRAINING. -/
  | unitFence (ini : Initiator) (cls : Block) (wing : Wing)
  /-- UNIT_UNFENCE (R219): XXX_UNIT_CMD UNFENCE moves a FENCED unit through TESTING to SPARE. -/
  | unitUnfence (ini : Initiator) (cls : Block) (wing : Wing)
  /-- UNIT_DRAINED (R219): A DRAINING unit completes its operations, becomes FENCED and is replaced by a spare. -/
  | unitDrained (cls : Block) (wing : Wing) (unit : Nat)
  /-- HASH (R223): A digest HASH descriptor computes SHA-256 or SHA-384, with or without measurement routing. -/
  | dgeHash (wing : Wing) (src : Source)
  /-- HMAC (R223): A digest HMAC descriptor computes a MAC under an HMAC slot. -/
  | dgeHmac (wing : Wing) (src : Source)
  /-- COMPARE (R228): A digest COMPARE descriptor compares two buffers in constant time. The doubled pair of a faulty lane, both bits alike; none from a sound one. -/
  | dgeCompare (wing : Wing) (src : Source) (faulty : Option Bool)
  /-- HMAC_VERIFY (R228): A digest HMAC_VERIFY descriptor computes an HMAC and compares it with the expected MAC. The doubled pair of a faulty lane, both bits alike; none from a sound one. -/
  | hmacVerify (wing : Wing) (src : Source) (faulty : Option Bool)
  /-- STATE_SAVE (R226): A digest STATE_SAVE descriptor writes the lane's state record, wrapped for HMAC. -/
  | stateSave (wing : Wing) (src : Source)
  /-- STATE_RESTORE (R226): A digest STATE_RESTORE descriptor reloads a lane from a state record after checking it. -/
  | stateRestore (wing : Wing) (src : Source)
  /-- HKDF_TO_SLOT (R223): A digest HKDF_TO_SLOT descriptor derives a key into a slot for permitted requesters. -/
  | hkdfToSlot (wing : Wing) (src : Source)
  /-- APPEND (R232): A codec APPEND adds a granule to its stream's open case, closing it at the eighth granule. -/
  | cdcAppend (wing : Wing) (src : Source)
  /-- FLUSH (R232): A codec FLUSH closes the stream's open case. -/
  | cdcFlush (wing : Wing) (src : Source)
  /-- EXPAND (R235): A codec EXPAND checks a case and produces one granule checked against GUARD64. -/
  | cdcExpand (wing : Wing) (src : Source)
  /-- BUF_COMPRESS (R236): A codec BUF_COMPRESS writes a DEFLATE stream of a buffer, up to LIMIT. -/
  | bufCompress (wing : Wing) (src : Source)
  /-- BUF_EXPAND (R236): A codec BUF_EXPAND decodes a DEFLATE stream, up to LIMIT. -/
  | bufExpand (wing : Wing) (src : Source)
  /-- STREAM_FLUSH_TIMEOUT (R232): An open case's first granule has waited FLUSH_FRAMES ticks, so the case closes. -/
  | streamFlushTimeout (wing : Wing) (stream : Nat)
  /-- CASE_COMPRESSED (R233): A closed case's compression ends, it is written compressed or raw, and its APPENDs complete. -/
  | caseCompressed (wing : Wing) (stream : Nat)
  /-- XTS_ENC (R238): A cipher XTS_ENC descriptor encrypts in media or general XTS. -/
  | xtsEnc (wing : Wing) (src : Source)
  /-- XTS_DEC (R238): A cipher XTS_DEC descriptor decrypts in media or general XTS. -/
  | xtsDec (wing : Wing) (src : Source)
  /-- XTS_RECRYPT (R238): A cipher XTS_RECRYPT descriptor re-encrypts a case from old to new locator tweaks inside the tile. -/
  | xtsRecrypt (wing : Wing) (src : Source)
  /-- GCM_ENC (R240): A cipher GCM_ENC descriptor encrypts with a hardware nonce and appends the tag. -/
  | gcmEnc (wing : Wing) (src : Source)
  /-- GCM_DEC (R240): A cipher GCM_DEC descriptor decrypts and writes the plaintext only if the tag verifies. -/
  | gcmDec (wing : Wing) (src : Source)
  /-- CMAC (R241): A cipher CMAC descriptor computes AES-CMAC. -/
  | cphCmac (wing : Wing) (src : Source)
  /-- CMAC_VERIFY (R241): A cipher CMAC_VERIFY descriptor compares a MAC in constant time. The doubled pair of a faulty tile, both bits alike; none from a sound one. -/
  | cmacVerify (wing : Wing) (src : Source) (faulty : Option Bool)
  /-- CTX_SAVE (R242): A cipher CTX_SAVE descriptor writes the wrapped chaining state. -/
  | ctxSave (wing : Wing) (src : Source)
  /-- CTX_RESTORE (R242): A cipher CTX_RESTORE descriptor reloads a wrapped chaining state after checking it. -/
  | ctxRestore (wing : Wing) (src : Source)
  /-- KEY_WRAP (R237): A cipher KEY_WRAP descriptor wraps a key on Docent's rings. -/
  | keyWrap (wing : Wing) (src : Source)
  /-- KEY_UNWRAP (R237): A cipher KEY_UNWRAP descriptor unwraps a key on Docent's rings. -/
  | keyUnwrap (wing : Wing) (src : Source)
  /-- ENGINE_COMPLETION (R66): An engine operation ends, and its completion entry is written when the queue has room, with an optional MSI. Which of the ready operations of that TAG, where a duplicate TAG waits beside it. -/
  | engineCompletion (cls : Block) (wing : Wing) (tag : Nat) (nth : Nat)
  /-- GALLERY_FLUSH_TIMEOUT (R261): A gallery's first case has waited FLUSH_FRAMES ticks, so the gallery closes and its panels go to the Dispatcher. -/
  | galleryFlushTimeout (serial : Nat)
  /-- CLOSE_NOW (R261): GAL_CTRL.CLOSE_NOW closes every open gallery of the wing. -/
  | closeNow (ini : Initiator) (wing : Wing)
  /-- RESYNC_DONE (R265): Resynchronisation ends, the serial counter is recovered and the background verify starts. -/
  | resyncDone
  /-- VERIFY_DONE (R265): The background parity verify ends. -/
  | verifyDone
  /-- REBUILD_START (R269): GAL_REBUILD.START, or a lost plinth, starts rebuilding the galleries with a panel on that plinth. -/
  | rebuildStart (ini : Initiator) (wing : Wing) (plinth : Nat)
  /-- PLINTH_REBUILD_DONE (R269): The last gallery of a plinth rebuild is moved. -/
  | plinthRebuildDone
  /-- RESHAPE_START (R271): GAL_RESHAPE.START begins changing the array's width to TARGET_N. -/
  | reshapeStart (ini : Initiator) (wing : Wing) (target : Nat)
  /-- RESHAPE_ABORT (R272): GAL_RESHAPE.ABORT stops the reshape walk at the current hall. -/
  | reshapeAbort (ini : Initiator) (wing : Wing)
  /-- RESHAPE_DONE (R271): No hall of another width remains, so GAL_WIDTH.N takes TARGET_N. -/
  | reshapeDone
  /-- PLINTH_PRESENT (R298): PLK_PRSNT_N has stayed low for 100 ms, so PRESENT is set and PERST is released when LINK_EN is 1. -/
  | plinthPresent (plinth : Nat)
  /-- PLINTH_REMOVED (R299): PLK_PRSNT_N rises without a release, so the link goes down and outstanding commands complete with TIMEOUT. -/
  | plinthRemoved (plinth : Nat)
  /-- PLK_TRAINED (R298): A plinth link trains, the head reads the bridge identity and admits the plinth or not. The lanes, the one-way delay in ns, the bridge port reached, and the link sequence the bridge expects next. -/
  | plkTrained (plinth : Nat) (lanes : Nat) (delay : Nat) (port : Nat) (expected : Nat)
  /-- PLK_RELEASE (R299): PLK_CTRL.RELEASE fences new die commands and begins removing the plinth. -/
  | plkRelease (ini : Initiator) (plinth : Nat)
  /-- PLK_RELEASED (R299): Outstanding commands of a released plinth complete, so PERST is driven low and RELEASED is set. -/
  | plkReleased (plinth : Nat)
  /-- PLK_COMPLETION (R291): A bridge completion arrives and is matched to its slot's TAG, and the operation completes towards the Dispatcher. The completion, and the time since the current slot began. -/
  | plkCompletion (plinth : Nat) (done : PlkDone) (ns : Nat)
  /-- PLK_TIMEOUT (R292): A die command is outstanding for PLK_TIMEOUT.MS, so it is resent once or completes with TIMEOUT. -/
  | plkTimeout (plinth : Nat) (slot : Nat)
  /-- PLK_ALERT (R296): A bridge ALERT arrives and is captured in PLK_ALERT. -/
  | plkAlert (plinth : Nat) (code : Nat) (detail : Nat)
  /-- PLK_FLIT (R278): A plinth-link flit is accepted in sequence, or discarded and NAKed. Whether the CRC holds, the header fields, the MTYPE of the message it completes, and the credits a LINK flit returns. -/
  | plkFlit (plinth : Nat) (good : Bool) (ftype : Nat) (vc : Nat) (mtype : Nat) (lseq : Nat) (acktype : Nat) (ackseq : Nat) (credits : List Nat)
  /-- PLK_REPLAY_TIMER (R278): An unacknowledged plinth-link flit times out and is resent, retraining at the eighth attempt. -/
  | plkReplayTimer (plinth : Nat)
  /-- PLK_RETRAIN_TIMEOUT (R278): A plinth link has not retrained within 32 µs and is down. -/
  | plkRetrainTimeout (plinth : Nat)
  /-- PLK_RETRAIN_CMD (R303): PLK_CTRL.RETRAIN retrains the link. -/
  | plkRetrainCmd (ini : Initiator) (plinth : Nat)
  /-- PLK_READ (R288): The bridge's READ command reads sheets with LDPC correction and the label area on request. -/
  | plkRead (plinth : Nat) (port : Nat) (cmd : PlkCmd)
  /-- PLK_PROGRAM (R285): The bridge's PROGRAM command programs the next row of a block, or completes with PROTOCOL. -/
  | plkProgram (plinth : Nat) (port : Nat) (cmd : PlkCmd)
  /-- PLK_ERASE (R284): The bridge's ERASE command erases a block, optionally for SLC mode. -/
  | plkErase (plinth : Nat) (port : Nat) (cmd : PlkCmd)
  /-- CHECK_ERASED (R290): The bridge reports whether a panel is erased, programmed or partly programmed. -/
  | checkErased (plinth : Nat) (port : Nat) (cmd : PlkCmd)
  /-- WITNESS_RENEW (R293): The bridge renews the port's witness lease with epoch and expiry, or refuses it while fenced by a claim. -/
  | witnessRenew (plinth : Nat) (port : Nat) (cmd : PlkCmd)
  /-- WITNESS_READ (R293): The bridge returns both witness entries. -/
  | witnessRead (plinth : Nat) (port : Nat) (cmd : PlkCmd)
  /-- WITNESS_CLAIM (R294): The bridge accepts a claim when the other lease has expired, fencing that port, or completes with LIMIT. -/
  | witnessClaim (plinth : Nat) (port : Nat) (cmd : PlkCmd)
  /-- REG_READ (R284): The bridge returns the register at ADDR. -/
  | regRead (plinth : Nat) (port : Nat) (cmd : PlkCmd)
  /-- REG_WRITE (R297): The bridge writes a register as its access class allows. -/
  | regWrite (plinth : Nat) (port : Nat) (cmd : PlkCmd)
  /-- BRIDGE_SLOT_BOUNDARY (R286): At each slot boundary the bridge suspends, starts or resumes die operations per die. The die operations that have ended since the last boundary. -/
  | bridgeSlotBoundary (plinth : Nat) (ends : List BrEnd)
  /-- BRIDGE_TICK_MARKER (R280): The bridge follows the master's tick markers, slipping or relocking and shifting lease expiries. As for TICK_MARKER. -/
  | bridgeTickMarker (plinth : Nat) (port : Nat) (payload : Word) (flagged : Bool) (arrival : Nat)
  /-- LEASE_EXPIRY (R293): At the tick whose wire count equals EXPIRY, the witness entry becomes EXPIRED. -/
  | leaseExpiry (plinth : Nat) (port : Nat)
  /-- MOUNT (R332): CUR_CTRL.MOUNT finds the anchor, restores a dump if any, reads the checkpoint and resynchronises. -/
  | curMount (ini : Initiator) (wing : Wing)
  /-- HALL_SCORE (R320): Every 1,024th frame the Curator scores its full halls and starts reclaiming the best. -/
  | hallScore
  /-- EVACUATE (R324): CUR_PLINTH EVACUATE moves the valid cases off a plinth. -/
  | curEvacuate (ini : Initiator) (wing : Wing) (plinth : Nat)
  /-- REMOVE (R324): CUR_PLINTH REMOVE drops an evacuated plinth from the members. -/
  | curRemove (ini : Initiator) (wing : Wing) (plinth : Nat)
  /-- CANCEL (R324): CUR_PLINTH CANCEL ends an evacuation. -/
  | curCancel (ini : Initiator) (wing : Wing) (plinth : Nat)
  /-- VAULT_PREPARE (R330): With KEY_FRESH at 1, the Curator chooses and erases vault blocks, writes the anchor and then sets CUR_VAULT.READY. -/
  | vaultPrepare
  /-- HOST_READ_DISPATCH (R316): A HOST read is sent as soon as the die's limit allows, at the first slot boundary past the guard. The granule's locator, its collection, its case's sheets, and the time since the current slot began. -/
  | hostReadDispatch (loc : Nat) (coll : Nat) (sheets : Nat) (ns : Nat)
  /-- SHIP (R352): RPL_CMD SHIP ships an edition as a consignment from the base. The ORIGINALs that the keeper answers with, in order; none is a TIMEOUT. -/
  | rplShip (ini : Initiator) (wing : Wing) (lock : List (Option Nat))
  /-- FREEZE_NUMBERED (R350): RPL_CMD FREEZE_NUMBERED increments the keeper's counter and freezes the collection at the returned number. The counter's ORIGINAL; none is a TIMEOUT. -/
  | freezeNumbered (ini : Initiator) (wing : Wing) (original : Option Nat)
  /-- RESUME_SYNC (R349): RPL_CMD RESUME_SYNC holds writes, makes and ships an edition and returns the collection to SYNC. As for SHIP and FREEZE_NUMBERED. -/
  | resumeSync (ini : Initiator) (wing : Wing) (lock : List (Option Nat)) (original : Option Nat)
  /-- PROMOTE (R357): RPL_CMD PROMOTE acquires the site lock and makes the target a source. As for SHIP. -/
  | rplPromote (ini : Initiator) (wing : Wing) (force : Bool) (lock : List (Option Nat))
  /-- DEMOTE (R358): RPL_CMD DEMOTE reverts the live map to the new source's base and sets TARGET. -/
  | rplDemote (ini : Initiator) (wing : Wing)
  /-- RPL_ABORT (R356): RPL_CMD ABORT stops a consignment. -/
  | rplAbort (ini : Initiator) (wing : Wing)
  /-- SYNC_WRITE (R346): A target checks and places the granules of a SYNC_WRITE and answers after its mirror commit. Granule, GUARD64, data. -/
  | syncWrite (coll : Nat) (nsid : Nat) (rtag : Nat) (entries : List (Nat × Nat × Nat))
  /-- BEGIN (R352): A target accepts a BEGIN when its newest edition is the base, or answers LIMIT. -/
  | rplBegin (coll : Nat) (rtag : Nat) (edition : Nat) (base : Nat)
  /-- OFFER (R353): A target answers each offered fingerprint HAVE or NEED and references the matches. Granule, fingerprint. -/
  | rplOffer (coll : Nat) (nsid : Nat) (rtag : Nat) (edition : Nat) (entries : List (Nat × Nat))
  /-- CASE (R354): A target checks a shipped case's granules, stores it under its own keys and files index entries. Granule, GUARD64, fingerprint; the case image, or one raw granule. -/
  | rplCase (coll : Nat) (nsid : Nat) (rtag : Nat) (edition : Nat) (entries : List (Nat × Nat × Nat)) (raw : Bool) (image : Nat)
  /-- UNMAP (R343): A target maps the given granule runs to UNMAPPED or ZERO. First granule, count, kind. -/
  | rplUnmap (coll : Nat) (nsid : Nat) (rtag : Nat) (runs : List (Nat × Nat × Nat))
  /-- COMMIT (R355): A target freezes the edition after applying every earlier message of the consignment. -/
  | rplCommit (coll : Nat) (rtag : Nat) (edition : Nat) (base : Nat) (changed : Nat)
  /-- RPL_REPLY (R342): A replication reply arrives at the source and advances the sync write or consignment. The reply's status and bitmap, and the round trip in µs. -/
  | rplReply (coll : Nat) (rtag : Nat) (status : Status) (have' : List Bool) (micros : Nat)
  /-- SYNC_TIMEOUT (R347): A sync message is unanswered after its timeout, so the collection enters DIVERGED. -/
  | syncTimeout (coll : Nat) (rtag : Nat)
  /-- ASYNC_TIMEOUT (R356): A consignment message is unanswered after ASYNC_MS, so the consignment ends with SHIP_FAIL. -/
  | asyncTimeout (coll : Nat) (rtag : Nat)
  /-- HNY_POST (R368): HNY.POST retires and writes a descriptor to a ring, or returns FULL or REFUSED. rs1, and the physical address of the descriptor, none where its translation faults. -/
  | hnyPost (hart : Nat) (mode : HartMode) (rs1 : Nat) (addr : Option Nat)
  /-- HNY_WAIT (R372): HNY.WAIT puts the hart at rung 1 until a wake cause. -/
  | hnyWait (hart : Nat) (mode : HartMode) (timeout : Nat)
  /-- WAIT_WAKE (R372): An interrupt, a forced wake or the timeout ends a hart's WAIT with its cause. The causes that arise together. -/
  | waitWake (hart : Nat) (irq : Bool) (forced : Bool) (timeout : Bool)
  /-- CORE_ENABLE (R366): CPU_CORE_CMD ENABLE moves a SPARE or FENCED core to TESTING. -/
  | coreEnable (ini : Initiator) (wing : Wing)
  /-- CORE_FENCE (R366): CPU_CORE_CMD FENCE halts a core, flushes its caches and fences it. -/
  | coreFence (ini : Initiator) (wing : Wing)
  /-- CORE_READY (R366): A core's 50 µs test completes and it starts at CPU_START. -/
  | coreReady (wing : Wing) (core : Nat)
  /-- CORE_FAILED (R366): An uncorrectable cache or register-file error makes the core FAILED. 1 test, 2 ECC. -/
  | coreFailed (wing : Wing) (core : Nat) (cause : Nat)
  /-- CORE_ACCESS_FAULT (R375): A core access to an undecoded address, invalid segment or protected HBM raises a precise access fault. -/
  | coreAccessFault (hart : Nat) (addr : Nat) (load : Bool)
  /-- CQ_HEAD_WRITE (R371): A write of CPU_CQ_PTR.HEAD frees completion-queue entries and releases held completions. -/
  | cqHeadWrite (ini : Initiator) (wing : Wing) (head : Nat)
  /-- COPY (R386): A DMA COPY descriptor moves bytes with wrap and priority pre-emption. -/
  | dmaCopy (wing : Wing) (src : Source)
  /-- FILL (R386): A DMA FILL descriptor writes a repeated 8-byte pattern. -/
  | dmaFill (wing : Wing) (src : Source)
  /-- DMA_DISABLE (R390): DMA_CHAN_CMD DISABLE stops the channel and aborts its transfers. -/
  | dmaDisable (ini : Initiator) (wing : Wing)
  /-- DMA_ENABLE (R390): DMA_CHAN_CMD ENABLE returns the channel to service. -/
  | dmaEnable (ini : Initiator) (wing : Wing)
  /-- DMA_HALT (R390): A write of DMA_CTRL.HALT stops, or restarts, every channel. -/
  | dmaHalt (ini : Initiator) (wing : Wing) (on : Bool)
  /-- MIGRATE_START (R379): MEM_MIGRATE.START moves a DDR5 segment to a new channel set while it is in use. -/
  | migrateStart (ini : Initiator) (wing : Wing) (segment : Nat)
  /-- MIGRATE_DONE (R379): The last unit of a migration is copied and the segment entry takes the new set and base. -/
  | migrateDone (wing : Wing)
  /-- CHANNEL_FENCE (R380): MEM_CHAN_CMD FENCE removes a channel with no valid segment from service. -/
  | channelFence (ini : Initiator) (wing : Wing) (chan : Nat)
  /-- CHANNEL_UNFENCE (R380): MEM_CHAN_CMD UNFENCE retrains a channel and returns it to service. -/
  | channelUnfence (ini : Initiator) (wing : Wing) (chan : Nat)
  /-- DDR_UE (R377): An uncorrectable DDR5 error poisons the line, retires the page and raises UE. -/
  | ddrUe (addr : Nat)
  /-- DDR_CE (R381): A corrected DDR5 error is counted, and a page passing MEM_CE_THRESH is retired to the spare area. -/
  | ddrCe (addr : Nat)
  /-- MEM_SCRUB_PASS (R382): A DDR5 patrol scrub pass completes. -/
  | memScrubPass (wing : Wing)
  /-- PCH_FENCE (R384): HBM_PCH_CMD FENCE moves a pseudo-channel's units elsewhere and fences it. -/
  | pchFence (ini : Initiator) (wing : Wing)
  /-- HBM_CE_FENCE (R384): A pseudo-channel passes HBM_CE_THRESH and fences itself, or raises UE at the third. The errors of the pseudo-channel within 1,024 frames. -/
  | hbmCeFence (wing : Wing) (pch : Nat) (errors : Nat)
  /-- PCH_MOVE_DONE (R384): A pseudo-channel move completes and PCH_FENCED is raised. -/
  | pchMoveDone (wing : Wing) (pch : Nat)
  /-- HBM_UE (R383): An uncorrectable HBM error is handled as SLOT_ECC, MEDIA_FAIL or an access fault. -/
  | hbmUe (wing : Wing) (addr : Nat) (what : HbmUe)
  /-- RELEASE_E (R399): DOC_CTRL.RELEASE_E releases the East ACTIVE cores. -/
  | releaseE (ini : Initiator)
  /-- RELEASE_W (R399): DOC_CTRL.RELEASE_W releases the West ACTIVE cores. -/
  | releaseW (ini : Initiator)
  /-- DOC_CHIP_RESET (R423): DOC_CTRL.CHIP_RESET resets the chip with cause DOCENT. -/
  | docChipReset (ini : Initiator)
  /-- MSR_EXTEND (R400): MSR_CTRL.EXTEND extends the selected register with MSR_INPUT. -/
  | msrExtend (ini : Initiator)
  /-- MSR_ARM (R402): A write to MSR_ARMED arms one routed extend of a register. -/
  | msrArm (ini : Initiator) (mask : Nat)
  /-- GET_VERSION (R408): Docent answers an SPDM GET_VERSION request. -/
  | getVersion
  /-- GET_CAPABILITIES (R408): Docent answers an SPDM GET_CAPABILITIES request. -/
  | getCapabilities
  /-- NEGOTIATE_ALGORITHMS (R408): Docent answers an SPDM NEGOTIATE_ALGORITHMS request. -/
  | negotiateAlgorithms
  /-- GET_DIGESTS (R408): Docent answers an SPDM GET_DIGESTS request. -/
  | getDigests
  /-- GET_CERTIFICATE (R408): Docent returns the certificate chain. -/
  | getCertificate (off : Nat) (len : Nat)
  /-- CHALLENGE (R408): Docent answers an SPDM CHALLENGE with a signature under the attestation key. -/
  | spdmChallenge (nonce : Nat)
  /-- GET_MEASUREMENTS (R408): Docent returns signed live measurement blocks. -/
  | getMeasurements (index : Nat) (nonce : Nat)
  /-- LOAD (R411): KEY_CMD LOAD moves key bytes from Docent SRAM into an EMPTY slot and zeroes the source. -/
  | keyLoad (ini : Initiator)
  /-- GENERATE (R411): KEY_CMD GENERATE draws a key from the DRBG into an EMPTY slot. -/
  | keyGenerate (ini : Initiator)
  /-- UNWRAP (R411): KEY_CMD UNWRAP unwraps a blob into an EMPTY slot under a private WRAP slot. -/
  | keyUnwrapCmd (ini : Initiator)
  /-- ACTIVATE (R411): KEY_CMD ACTIVATE makes a LOADED slot ACTIVE and recomputes bound fingerprint states. -/
  | keyActivate (ini : Initiator)
  /-- REVOKE (R412): KEY_CMD REVOKE revokes an ACTIVE slot that no binding names. -/
  | keyRevoke (ini : Initiator)
  /-- ZEROISE (R412): KEY_CMD ZEROISE empties a slot that no binding names and invalidates cached copies. -/
  | keyZeroise (ini : Initiator)
  /-- EXPORT (R411): KEY_CMD EXPORT writes an ACTIVE slot's key wrapped under a private WRAP slot. -/
  | keyExport (ini : Initiator)
  /-- BIND_COMMIT (R414): KEY_BIND_CMD COMMIT applies a staged binding entry, extends register 24 and computes fingerprint states. -/
  | bindCommit (ini : Initiator)
  /-- UNBIND (R414): KEY_BIND_CMD UNBIND clears a binding whose collection has no namespace. -/
  | keyUnbind (ini : Initiator)
  /-- IMPORT_KEY (R415): A signed IMPORT_KEY request puts a wrapped key into a named slot. The slot, its attributes, and the key wrapped under the key manager's. -/
  | importKey (req : SignedReq) (slot : Nat) (kind : Nat) (usage : Nat) (system : Bool) (coll : Nat) (blob : Nat)
  /-- BIND (R415): A signed BIND request sets a binding entry and its permitted peer UIDs. The collection index, the words as KEY_BIND_ID and KEY_BIND_SLOTS take them, and the permitted peers. -/
  | reqBind (req : SignedReq) (index : Nat) (entry : Word × Word) (uids : List Nat)
  /-- REQ_UNBIND (R415): A signed UNBIND request removes a binding. -/
  | reqUnbind (req : SignedReq) (index : Nat)
  /-- REQ_ZEROISE (R415): A signed ZEROISE request zeroises a slot. -/
  | reqZeroise (req : SignedReq) (slot : Nat)
  /-- ARM_MEASURE (R415): An ARM_MEASURE request arms a routed extend of registers 10 to 23. -/
  | armMeasure (entry : Nat) (mask : Nat)
  /-- QUOTE (R415): A QUOTE request returns a signature over the caller's nonce and the registers. -/
  | reqQuote (entry : Nat) (nonce : Nat)
  /-- PEER_AGREE (R418): A PEER_AGREE request carries one step of key agreement between Docents. -/
  | peerAgree (entry : Nat) (step : AgreeStep)
  /-- CLEAR_RECORDER (R415): A signed CLEAR_RECORDER request clears the recorder's circulating area. -/
  | clearRecorder (req : SignedReq)
  /-- LIFECYCLE (R420): A signed LIFECYCLE request changes the lifecycle state. The state asked for, and the custodian's digest where it is enrolled. -/
  | reqLifecycle (req : SignedReq) (target : Nat) (custodian : Nat)
  /-- CUSTODIAN (R415): A request signed by the current custodian writes a new custodian digest into a spare fuse row. -/
  | reqCustodian (req : SignedReq) (digest : Nat)
  /-- FEDERATION (R415): A signed FEDERATION request sets the UIDs permitted for system connections. -/
  | reqFederation (req : SignedReq) (uids : List Nat)
  /-- CONFIGURE (R415): A CONFIGURE request sets mirrors and system rings within policy. Rings by 1,024 × wing + ring. -/
  | reqConfigure (entry : Nat) (mirrors : Nat) (rings : List Nat)
  /-- ALARM (R419): An alarm source trips, so keys are erased, the alarm is latched and the reset hold starts. -/
  | almAlarm (n : Nat)
  /-- ALARM_RESET (R419): ALM_HOLD.RESET_US after an alarm, the chip resets with cause ALARM. -/
  | alarmReset
  /-- ALM_FORCE (R426): ALM_FORCE.FORCE raises alarm 11. -/
  | almForce (ini : Initiator)
  /-- DEBUG_CHALLENGE (R421): The debugger reads a challenge of UID and fresh nonce from the DBG TAP. -/
  | debugChallenge
  /-- DEBUG_TOKEN (R421): A custodian-signed token opens a debug session after key erasure, or is refused. The token's UID, nonce, whether it verifies, and its SHA-384. -/
  | debugToken (uid : Nat) (nonce : Nat) (sigOk : Bool) (digest : Nat)
  /-- ARC_READ (R436): An Archive READ descriptor copies bytes to memory. -/
  | arcRead
  /-- ARC_PROGRAM (R431): An Archive PROGRAM descriptor programs words by pulse and verify. -/
  | arcProgram
  /-- ARC_ERASE (R432): An Archive ERASE descriptor erases sectors by pulse and verify and programs ERASE_DONE. -/
  | arcErase
  /-- ARC_CLOSE (R436): An Archive CLOSE descriptor programs a sector's CLOSED marker. -/
  | arcClose
  /-- SECTOR_STATE (R436): An Archive SECTOR_STATE descriptor reports a sector as INCOMPLETE, ERASED or CLOSED. -/
  | sectorState
  /-- ARC_STOP (R434): STOP is asserted, so the Archive ramps down the pulse in progress and aborts every queued operation. The words or sectors of the operation in progress that have verified. -/
  | arcStop (verified : Nat)
  /-- BROWN_OUT_DETECT (R435): An Archive or Docent rail falls below 95 %, so STOP is asserted and BOR is set. -/
  | brownOutDetect
  /-- BOR_RELEASE (R435): Both rails have stayed above 97 % for 1 ms, so STOP is released. -/
  | borRelease
  /-- XO_LOCK (R438): ARC_XO_CFG.LOCK locks an execute-only region until chip reset. -/
  | xoLock (ini : Initiator)
  /-- RECORD (R443): The RECORD responder places an event's record in the recorder buffer, or adds a repeat, or counts a loss. The event, and the wing of the page that raised it. -/
  | prvRecord (ev : Nat) (wing : Wing)
  /-- REC_WRITE (R443): PRV_REC_CMD.WRITE buffers a firmware record. -/
  | recWrite (ini : Initiator)
  /-- RECORD_HOLD_EXPIRY (R443): A buffered record's HOLD_MS elapses, and it no longer absorbs repeats. -/
  | recordHoldExpiry (seq : Nat)
  /-- RECORD_PROGRAM (R442): The Archive programs the next buffered record into its slot, word 0 then word 1 with the valid mark. Whether both words verify. -/
  | recordProgram (ok : Bool)
  /-- HOUR_TICK (R445): An operating hour completes and the next hour-tally word is programmed. -/
  | hourTick
  /-- PRV_CLEAR (R447): PRV_CTRL.CLEAR drains the buffer, erases the circulating area and writes a clear record. -/
  | prvClear (ini : Initiator)
  /-- UPD_WRITE (R450): UPD_CTRL.WRITE fills a firmware slot from the staging area, or is refused with LIMIT. -/
  | updWrite (ini : Initiator) (slot : Nat)
  /-- UPD_ABORT (R451): UPD_CTRL.ABORT stops a slot write and leaves the slot not usable. -/
  | updAbort (ini : Initiator)
  /-- WRITE_OS (R451): An update request WRITE_OS writes the inactive OS slot. -/
  | writeOs
  /-- WRITE_DOCENT (R451): An update request WRITE_DOCENT writes the inactive Docent slot. -/
  | writeDocent
  /-- CONFIRM_OS (R451): An update request CONFIRM_OS confirms the OS image on trial. -/
  | confirmOs
  /-- UPD_REQ_ABORT (R451): An update request ABORT stops a write in progress. -/
  | updReqAbort
  /-- UPD_CONFIRM_DOC (R453): UPD_CONFIRM.DOC programs CONFIRMED for the Docent image, raising the floor if requested. -/
  | updConfirmDoc (ini : Initiator) (up : Bool)
  /-- UPD_CONFIRM_OS (R453): UPD_CONFIRM.OS programs CONFIRMED for the OS image, raising the floor if requested. -/
  | updConfirmOs (ini : Initiator) (up : Bool)
  /-- TRIAL_EXPIRY (R453): The trial timer expires with an image unconfirmed, so TRIAL_EXPIRED is raised and the chip resets. -/
  | trialExpiry
  /-- RECOVERY_WRITE (R455): A recovery MCTP WRITE puts image bytes into Docent SRAM. -/
  | recoveryWrite (off : Nat) (len : Nat) (data : Nat)
  /-- RECOVERY_RUN (R455): A recovery MCTP RUN checks and measures the loaded image and continues the boot. The image's length in bytes. -/
  | recoveryRun (len : Nat)
  /-- RECOVERY_STATUS (R455): A recovery MCTP STATUS returns the recovery state. -/
  | recoveryStatus
  /-- WDG_FEED (R456): A WDG_FEED write, or delivery of FEED_EVENT, restarts a watchdog. -/
  | wdgFeed (ini : Initiator) (bits : Nat)
  /-- WDG_WARN (R456): A watchdog reaches half its timeout and raises WARN. -/
  | wdgWarn (n : Nat)
  /-- WDG_EXPIRY (R457): A watchdog expires, raising EXPIRED and, with RESET, asserting STOP. -/
  | wdgExpiry (n : Nat)
  /-- WDG_GRACE_EXPIRY (R457): WDG_GRACE.RESET_US after expiry, the chip resets with cause WATCHDOG. -/
  | wdgGraceExpiry
  /-- RUNG_REQUEST (R467): A write of RUNG.REQUEST moves a quiesced island to a lower rung or starts an exit. -/
  | rungRequest (ini : Initiator) (page : Page) (value : Nat)
  /-- RUNG_EXIT_DONE (R470): An island's exit completes and CURRENT reaches 0, as a block reset when leaving rung 4. -/
  | rungExitDone (island : Island)
  /-- SIGNAL_DETECT (R470): Signal detect on a FOY port at rung 4 with its PWR_WAKE bit set starts an exit with cause HOST. -/
  | signalDetect (wing : Wing) (port : Nat)
  /-- UNIT_IDLE_GATE (R468): An engine unit idle for GATE_NS enters rung 1. -/
  | unitIdleGate (cls : Block) (wing : Wing) (unit : Nat)
  /-- UNIT_IDLE_RETAIN (R468): An engine unit idle for a further RETAIN_US enters rung 2. -/
  | unitIdleRetain (cls : Block) (wing : Wing) (unit : Nat)
  /-- CORE_RUNG_REQUEST (R469): A write of PWR_CORE_RUNG.REQUEST moves a core to rung 3 or 4 at its next WAIT, or wakes it. -/
  | coreRungRequest (ini : Initiator) (wing : Wing) (value : Nat)
  /-- SERVE (R473): PWR_MODE.CMD SERVE brings the islands to rung 0 and trains memory. -/
  | pwrServe (ini : Initiator)
  /-- STANDBY (R473): PWR_MODE.CMD STANDBY puts the head into Standby when it owns nothing and holds no dirty data. -/
  | pwrStandby (ini : Initiator)
  /-- SERVE_DONE (R473): The head enters Serving, raises MODE and applies any held RELEASE. -/
  | serveDone
  /-- DROOP (R474): A droop detector sees its rail 4 % low and stretches its region's clock. -/
  | pwrDroop (wing : Wing) (detector : Nat)
  /-- SAG (R475): A sag lasts 1 µs, so an AVS raise or an operating-point cut is requested and SAG is raised. Rail 0 CORE, 1 ENG, 2 MESH. -/
  | pwrSag (wing : Wing) (rail : Nat)
  /-- AVS_WINDOW (R475): A further WINDOW_US of sag raises the AVS request again or lowers the operating point. -/
  | avsWindow (wing : Wing) (rail : Nat)
  /-- DROOP_RECOVER (R476): RECOVER_MS without a trip raises the operating point or lowers the AVS request by one step. -/
  | droopRecover (wing : Wing) (rail : Nat)
  /-- TEMP_SAMPLE (R478): The junction sensors are read every 100 µs and compared with the thermal limits. The wing's hottest junction and HBM stack in °C, and the junction's sensor. -/
  | tempSample (wing : Wing) (die : Int) (hbm : Int) (sensor : Nat)
  /-- THERMAL_THROTTLE_STEP (R479): Every 10 ms above THROTTLE_C, CORE and ENG are lowered one operating-point step. -/
  | thermalThrottleStep (wing : Wing)
  /-- RSV_SAMPLE (R489): The Reservoir samples its inputs and runs the control program, committing duties at 400 ns. The codes converted, none where one is missing, and carrier A's count at the trigger. -/
  | rsvSample (vbus : Option Nat) (vbank : Option Nat) (ia : Option Nat) (ib : Option Nat) (carrier : Nat)
  /-- CARRIER_RELOAD (R487): A phase's carrier reaches count 0 and takes its pending duty. The phase, and whether its interlock meets a rising command that it refuses. -/
  | carrierReload (phaseB : Bool) (clash : Bool)
  /-- CURRENT_TRIP (R486): A phase current passes ±TRIP and the conducting pulse ends for the period. The phase, and whether its current is positive. -/
  | currentTrip (phaseB : Bool) (positive : Bool)
  /-- RSV_MODE_WRITE (R488): A write of RSV_CTRL.MODE requests a Reservoir mode, subject to the LIMP and OPEN rules. -/
  | rsvModeWrite (ini : Initiator) (mode : Nat)
  /-- CLEAR_FAULT (R511): RSV_CTRL.CLEAR_FAULT clears latched faults. -/
  | clearFault (ini : Initiator)
  /-- RSV_COMMIT_GO (R493): RSV_COMMIT.GO commits RSV_DUTY in OPEN mode. With carrier A's count at the commit. -/
  | rsvCommitGo (ini : Initiator) (carrier : Nat)
  /-- HEALTH_START (R508): RSV_HEALTH.START in STANDBY starts a bank discharge test. -/
  | healthStart (ini : Initiator)
  /-- HEALTH_END (R508): The test's MS elapses, so capacitance and ESR are computed and STANDBY returns. -/
  | healthEnd
  /-- LIMP_TIMEOUT (R495): LIMP has lasted MAX_MS, so both phases turn off and LIMP_TIMEOUT is latched. -/
  | limpTimeout
  /-- ALLOWANCE_UPDATE (R507): Every 1,024 samples the dump allowance is recomputed and BANK_LOW raised if it is below the quota. -/
  | allowanceUpdate
  /-- MAINS_LOST (R496): MAINS_OK falls, and MAINS_LOST is raised and routed to QUOTA_SHRINK. -/
  | mainsLost
  /-- MAINS_BACK (R496): MAINS_OK rises and MAINS_BACK is raised. -/
  | mainsBack
  /-- BUS_TRIP (R496): The bus falls below TRIP past the glitch filter, so DISCHARGE is forced and DUMP_ARM acts. -/
  | busTrip
  /-- DUMP_DONE (R502): The dump's marker panel is acknowledged, so DUMP_DONE is raised and leases lapse. -/
  | dumpDone
  /-- DUMP_RESTART (R504): 100 ms of good mains after DUMP_DONE lets Docent reset the chip. -/
  | dumpRestart
  /-- KEY_FRESH_WRITE (R502): A write of RSV_DUMP.KEY_FRESH marks this boot's dump key in place. -/
  | keyFreshWrite (ini : Initiator)
  /-- POWER_ON (R528): Group A rails reach tolerance, and the power-on reset holds the chip with the gate outputs low. -/
  | powerOn
  /-- RESET_RELEASE (R528): RESET_N is released with every rail and clock good, and the head releases RESET_OUT_N. -/
  | resetRelease
  /-- RESET_ASSERT (R529): RESET_N falls, so STOP is asserted, HBM self-refreshes and an external reset follows. Whether group A, VDD_HBMPHY and the HBM rails stay in tolerance (R529). -/
  | resetAssert (stayed : Bool)
  /-- RAIL_BROWN_OUT (R529): A group B or C rail stays below 90 % for 10 µs, causing a brown-out reset. As for RESET_ASSERT. -/
  | railBrownOut (stayed : Bool)
  /-- ANX_LANE_FAIL (R149): A lane of an Annex port fails, and the port retrains at 8 lanes when HALF_WIDTH_OK is 1 and raises LINK_CHANGE. -/
  | anxLaneFail (wing : Wing)
  /-- PLK_LANE_FAIL (R276): A lane of a plinth link fails, and the link retrains on one lane at 8 GB/s when HALF_WIDTH_OK is 1 and raises LINK_CHANGE. -/
  | plkLaneFail (plinth : Nat)
  /-- MASTER_MARKER_LOSS (R41): No marker with MASTER = 1 has arrived at a plinth bridge for 2 frames, so the bridge follows the other port's markers. -/
  | masterMarkerLoss (plinth : Nat)
  /-- RUNG_ENTRY_DONE (R471): An island's descent into a lower rung completes, and any exit cause that arose meanwhile then starts its exit. -/
  | rungEntryDone (island : Island)
  /-- STANDBY_DONE (R473): An accepted STANDBY completes within 5 ms with the islands in the Standby pattern, PWR_MODE shows Standby and MODE is raised. -/
  | standbyDone
  /-- DROOP_END (R474): A drooping rail recovers, the clock stretch of its region ends within 2 cycles, and the sag of R475 ends. With the stretch averages measured, in parts per million. -/
  | droopEnd (wing : Wing) (detector : Nat) (corePpm : Nat) (engMeshPpm : Nat)
  /-- RAILS_REMOVED (R530): The board removes the package rails, and the head goes Off, as an unclean stop unless Standby or the end of a dump came first. -/
  | railsRemoved
  /-- CRYSTAL_STABLE (R528): The 32.768 kHz crystal becomes stable and the always-on domain changes to it from the RC oscillator without a step in operating hours. -/
  | crystalStable
  /-- ARC_OPERATION_END (R437): An Archive program, erase or close operation ends, and the array takes the next: a recorder record, then Docent's queue, then the UPD engine's next step. -/
  | arcOperationEnd (e : PulseEnd)
  deriving DecidableEq, Repr

end Sys2Proof
end

