-- ==== Sys2Proof/Machine/Tab.lean ====
section
/-! DEFINITION. Sparse tables: lists of (key, value) pairs with keys strictly rising, by which the state holds register
files, memories and the blocks' tables. -/

namespace Sys2Proof.Machine

/-- A sparse table: pairs of a key and a value, keys strictly rising. -/
abbrev Tab (α : Type) := List (Nat × α)

variable {α β : Type}

/-- The entry at a key, if the table lists one. -/
def tabGet? : Tab α → Nat → Option α
  | [], _ => none
  | (k, v) :: t, x => if k = x then some v else tabGet? t x

/-- Whether the table lists the key. -/
def tabHas (t : Tab α) (x : Nat) : Bool := (tabGet? t x).isSome

/-- The table with the entry at a key set. -/
def tabPut : Tab α → Nat → α → Tab α
  | [], x, v => [(x, v)]
  | (k, u) :: t, x, v =>
    if x < k then (x, v) :: (k, u) :: t
    else if x = k then (x, v) :: t
    else (k, u) :: tabPut t x v

/-- The table without the entry at a key. -/
def tabDel : Tab α → Nat → Tab α
  | [], _ => []
  | (k, u) :: t, x => if k = x then tabDel t x else (k, u) :: tabDel t x

/-- The entry at a key, or what an unlisted key reads as. -/
def tabGet (t : Tab α) (d : α) (x : Nat) : α := (tabGet? t x).getD d

/-- The table with the entry at a key set, listing no entry equal to what an unlisted key reads as. -/
def tabStore [DecidableEq α] (t : Tab α) (d : α) (x : Nat) (v : α) : Tab α :=
  if v = d then tabDel t x else tabPut t x v

/-- Keys strictly rising. -/
def tabSorted : Tab α → Bool
  | [] => true
  | [_] => true
  | (k, _) :: (k', v') :: t => decide (k < k') && tabSorted ((k', v') :: t)

/-- The canonical form: keys strictly rising and no entry equal to what an unlisted key reads as. -/
def tabCanon [DecidableEq α] (d : Nat → α) (t : Tab α) : Bool :=
  tabSorted t && t.all (fun e => decide (e.2 ≠ d e.1))

/-- The table with every listed value changed. -/
def tabMap (t : Tab α) (f : Nat → α → β) : Tab β := t.map (fun e => (e.1, f e.1 e.2))

/-- The table with the entry at a key changed, if it lists one. -/
def tabUpd (t : Tab α) (x : Nat) (f : α → α) : Tab α :=
  match tabGet? t x with
  | none => t
  | some v => tabPut t x (f v)

/-- The listed entries that a test keeps. -/
def tabKeep (t : Tab α) (p : Nat → α → Bool) : Tab α := t.filter (fun e => p e.1 e.2)

/-- How many listed entries a test keeps. -/
def tabCount (t : Tab α) (p : Nat → α → Bool) : Nat := (tabKeep t p).length

/-- The least number below a bound that the table does not list. -/
def tabFree (t : Tab α) (bound : Nat) : Option Nat := (List.range bound).find? (fun k => !tabHas t k)

/-- A list in pieces of at most n. -/
def piecesOf (n : Nat) : Nat → List α → List (List α)
  | 0, _ => []
  | fuel + 1, l => if l.isEmpty then [] else l.take n :: piecesOf n fuel (l.drop n)

/-! ### Least elements -/

/-- Lists of numbers in lexicographic order. -/
def lexLe : List Nat → List Nat → Bool
  | [], _ => true
  | _ :: _, [] => false
  | a :: s, b :: t => if a < b then true else if b < a then false else lexLe s t

/-- An element put in its place in a sorted list. -/
def insertBy (f : α → List Nat) (x : α) : List α → List α
  | [] => [x]
  | y :: t => if lexLe (f x) (f y) then x :: y :: t else y :: insertBy f x t

/-- A list sorted by a key. -/
def sortOn (f : α → List Nat) (l : List α) : List α := l.foldr (insertBy f) []

/-- The first element whose key is least. -/
def minOn (f : α → List Nat) (l : List α) : Option α := (sortOn f l).head?

end Sys2Proof.Machine
end

