-- ==== Sys2Proof/Machine/State.lean ====
section
/-! DEFINITION. The state of the head and of the machine. -/

namespace Sys2Proof.Machine

/-- An event being delivered: its number and the wing of the page whose status bit raised it (R73). -/
structure Delivery where
  ev : Nat
  wing : Wing
  deriving DecidableEq, Repr

/-- The last bus reply: whether the access ended in a bus error, and the word a read returned. -/
structure BusReply where
  error : Bool
  data : Word
  deriving DecidableEq, Repr

/-- The frame timebase beside its registers (R27 to R47). -/
structure FrameState where
  /-- FRM_TIME at the last local tick, in ns. -/
  tickTime : Nat
  /-- Trim of slot 31 of the current frame and of the next one, in ns, positive lengthening (R42). -/
  trimNow : Int
  trimNext : Int
  /-- PTP offset still to be absorbed, the part of a ns carried, and what slot 31 of the current frame absorbs, in ps (R47). -/
  slewLeft : Int
  slewCarry : Int
  slewNow : Int
  /-- Ticks still to come before the announced length applies, 16 right after CHANGE is written, 0 when none (R44). -/
  countdown : Nat
  /-- The announced length code (R44), and whether the countdown has ended and the length is due. -/
  announced : Nat
  lengthDue : Bool
  /-- FCOUNT of the last marker counted while relocking (R43). -/
  lastCount : Nat
  /-- Frames of the slips of each kind within the last 1,024 frames (R35): tick, East build, West build, East work, West work. -/
  slipsTick : List Nat
  slipsBuildE : List Nat
  slipsBuildW : List Nat
  slipsWorkE : List Nat
  slipsWorkW : List Nat
  /-- Whether a block of the wing carried work over out of the current frame (R34). -/
  carriedE : Bool
  carriedW : Bool
  /-- The wing's Dispatcher has completed the next frame's schedule (R33). -/
  builtE : Bool
  builtW : Bool
  /-- The wing's next frame is a late-schedule frame (R33). -/
  lateE : Bool
  lateW : Bool
  /-- The Annex hardware makes the head master at its next local tick (R40). -/
  masterDue : Bool
  /-- No tick has come since chip reset (R81, R178). -/
  firstTick : Bool
  deriving DecidableEq, Repr

/-- An NVMe status (R110): type, code, DNR. -/
structure NvmeStatus where
  sct : Nat
  sc : Nat
  dnr : Bool
  deriving DecidableEq, Repr

/-- What an Annex message carries after its header (R156). -/
inductive AnxBody
  | mirror (es : List MirrorEntry) (fused : List FusedRec)
  | mirrorAck (n : Nat) (st : Status)
  | catUpdate (es : List CatEntry)
  | catAck (st : Status)
  | forward (cap : Capsule) (data : List Nat)
  | forwardResp (st : NvmeStatus) (wseqs : List Nat) (data : List Nat)
  | heartbeat (state node : Nat) (prefer : Bool) (epoch ownLive peerExpired wire : Nat)
  | ownership (give : Bool) (nsids : List Nat)
  | ownershipAck (st : Status)
  | resilver (es : List MirrorEntry)
  deriving DecidableEq, Repr

/-- Bytes of a wire format in the order of transmission, the first lowest: how many, and the bytes (R4). -/
structure Wire where
  len : Nat
  num : Nat
  deriving DecidableEq, Repr

/-- What carries a Mehror packet (R119): the Foyer port and its link, the next hop, the IP addresses, IPv4 and its DF, DSCP and ECN, the UDP
ports, the Foyer priority. -/
structure MftNet where
  port : Nat
  link : Nat
  mac : Nat
  src : Nat
  dst : Nat
  v4 : Bool
  df : Bool
  dscp : Nat
  ecn : Nat
  srcPort : Nat
  dstPort : Nat
  prio : Nat
  deriving DecidableEq, Repr

/-- A message the head sends, by where it goes. -/
inductive Msg
  /-- An MSI to a hart's interrupt file (R71): hart, machine-level file, identity. -/
  | msi (hart : Nat) (machine : Bool) (identity : Nat)
  /-- An event number to Docent, as a copy (R71) or because no hart can receive it (R74). -/
  | docentEvent (ev : Nat)
  /-- A stalled wait group, to Docent on its own line (R76). -/
  | docentStall (group : Nat)
  /-- A tick marker (R36, R37): wing, the plinth link (none: the Annex), the 32-bit payload. -/
  | tickMarker (w : Wing) (link : Option Nat) (payload : Nat)
  /-- Read data to a host, by RDMA WRITE or in C2HData PDUs (R111), in so many TLS records (R90), with the protection information that
  PRACT asks for (R92); and the completion, which follows (R108, R110): port, priority (R84), context, queue, command identifier. -/
  | hostData (w : Wing) (port prio ctx queue cid : Nat) (rdma : Bool) (records : Nat) (data : List Nat) (pi : List PiTuple)
  | hostCompletion (w : Wing) (port prio ctx queue cid : Nat) (st : NvmeStatus)
  /-- A command passed to array software on the wing's exception ring (R91). -/
  | exception (w : Wing) (cap : Capsule)
  /-- A congestion notification packet, and on NVMe/TCP an acknowledgement with ECN-Echo (R85): wing, port, context. -/
  | cnp (w : Wing) (port ctx : Nat)
  | tcpEcho (w : Wing) (port ctx : Nat)
  /-- A fatal TLS alert (R90, R113). -/
  | tlsAlert (w : Wing) (port ctx : Nat)
  /-- A PTP event message with its timestamp, on the management receive ring (R85): wing, port, ns. -/
  | ptpEvent (w : Wing) (port time : Nat)
  /-- A connection request accepted or refused (R86): wing, port, context. -/
  | connection (w : Wing) (port : Nat) (ctx : Option Nat)
  /-- An Annex message (R156): the port it leaves by, MTAG, collection, body. -/
  | annex (port : Wing) (mtag coll : Nat) (body : AnxBody)
  /-- A Mehror packet (R119 to R122): wing and context it leaves, its fields, what carries it, and its bytes. -/
  | mehror (w : Wing) (ctx : Nat) (p : MftPacket) (net : MftNet) (bytes : Wire)
  /-- The message a plinth link carries to its bridge (R281): plinth, command. -/
  | plk (plinth : Nat) (c : PlkCmd)
  /-- A NAK for a link sequence, and flits sent again (R154, R278): wing, the plinth link (none: the Annex), the first LSEQ. -/
  | nak (w : Wing) (link : Option Nat) (lseq : Nat)
  | replay (w : Wing) (link : Option Nat) (lseqs : List Nat)
  /-- An IDLE flit that acknowledges every flit up to an LSEQ, and a LINK flit with its own LSEQ and the credits it returns (R151, R152,
  R154). -/
  | ack (w : Wing) (link : Option Nat) (lseq : Nat)
  | credit (w : Wing) (link : Option Nat) (lseq acked : Nat) (ret : List Nat)
  /-- A plinth bridge's completion (R291) and alert (R296), on one of its ports. -/
  | bridgeDone (plinth port : Nat) (d : PlkDone)
  | bridgeAlert (plinth port code detail : Nat)
  /-- A replication message on a collection's data context (R342): its type as sent, STATUS, NSID, RTAG and body. -/
  | rpl (coll ctx rtype status nsid rtag : Nat) (body : RplBody)
  /-- An atomic to the keeper (R350, R351) on the keeper context: RKEY, whether it is ATOMIC_CAS, the offset, COMPARE or the addend,
  and SWAP. -/
  | keeper (coll ctx rkey : Nat) (cas : Bool) (offset arg swap : Nat)
  /-- What a hart gets of the head: the rd value of HNY.POST or HNY.WAIT, a precise exception (illegal instruction, or an access
  fault), and its start in M mode (R366 to R375). -/
  | hartResult (hart value : Nat)
  | hartTrap (hart : Nat) (illegal : Bool)
  | hartStart (hart addr : Nat)
  /-- Docent's reply to a request of the request area (R415): entry, code, status, and what the reply carries. -/
  | docentReply (entry code : Nat) (st : Status) (data : Wire)
  /-- Docent's response on SPDM (R408): the request's name, as a number in the table's order, and what the response carries. -/
  | spdm (request : Nat) (fields : List Nat)
  /-- A challenge on the DBG TAP: UID and nonce (R421). -/
  | debugChallenge (uid nonce : Nat)
  /-- The reply to a recovery STATUS (R455). -/
  | recovery (stage recovered : Nat)
  deriving DecidableEq, Repr

/-- A host command the Foyer holds, waiting or admitted (R93 to R99). -/
structure HostCmd where
  cap : Capsule
  coll : Nat
  /-- The namespace is owned by the peer, and the command is forwarded (R93 step 5). -/
  fwd : Bool
  /-- The data that came with a write or a compare, granule by granule; a fused pair's compare data come first. -/
  data : List Nat
  /-- A fused pair's compare has found the same data (R91), or different data. -/
  compared : Bool
  miscompare : Bool
  /-- The granules placed so far: granule and write sequence (R144). -/
  placed : List (Nat × Nat)
  /-- The FORWARD's MTAG once it has been sent (R107). -/
  mtag : Option Nat
  /-- A granule's label failed twice on the way to the peer (R254), or the peer is gone for good (R158). -/
  failed : Option Status
  inaccessible : Bool
  /-- The frame in which the write began to wait on the quota, and whether that wait has been reported as long (R148). -/
  overSince : Option Nat
  overLong : Bool
  /-- The owner runs it for the peer (R94, R107): the port the FORWARD came by, and its MTAG. -/
  via : Option (Wing × Nat)
  deriving DecidableEq, Repr

/-- What a transport context holds beside its registers: its port, its queue pair's send rate in Mb/s (R85, R86) and path MTU (R89); on
NVMe/TCP, whether ECN-Echo goes back (R85), and the TLS records sent, which their nonces count (R90). -/
structure CtxInfo where
  port : Nat
  rate : Nat
  pmtu : Nat
  ece : Bool
  records : Nat
  deriving DecidableEq, Repr

/-- The Foyer beside its registers. Commands are keyed by host tag, the West wing's from 32,768 on. -/
structure FoyState where
  waiting : List HostCmd
  cmds : Tab HostCmd
  /-- Commands that array software has taken and not completed (R91, R104). -/
  passed : List Capsule
  fused : List FusedRec
  ctx : Tab CtxInfo
  /-- Priorities paused by the peer, and priorities whose pauses are no longer honoured (R84): key 8 × port page + priority. -/
  paused : List Nat
  storm : List Nat
  /-- What waits to be sent on a paused priority, oldest first. -/
  pausedOut : List (Nat × Msg)
  /-- The wing spent time of this frame at a bound or paused, and how many frames in a row have counted (R101). -/
  stalledE : Bool
  stalledW : Bool
  runE : Nat
  runW : Nat
  /-- A command was admitted on the wing since its last tick (R112). -/
  admittedE : Bool
  admittedW : Bool
  /-- The wing admitted no command in its last whole frame (R112). -/
  quietE : Bool
  quietW : Bool
  deriving DecidableEq, Repr

/-- The states of a Vitrine slot (R143). A FREE slot is not listed. -/
inductive SlotState | clean | dirty | accession | mirror | staging
  deriving DecidableEq, Repr

/-- A Vitrine slot with its record (R142, R143). -/
structure Slot where
  wing : Wing
  st : SlotState
  nsid : Nat
  granule : Nat
  wseq : Nat
  label : Label
  data : Nat
  /-- The mirror commit has returned (R159), or the peer is absent and R109 holds. -/
  committed : Bool
  /-- A newer version, or a Write Zeroes, has taken the version's place (R91, R144): it is read no more, and its Catalogue update is
  discarded. -/
  superseded : Bool
  /-- The slot's content was retained through a reset (R177). -/
  retained : Bool
  /-- A CLEAN slot has been read since the clock last passed it (R145). -/
  used : Bool
  deriving DecidableEq, Repr

/-- A message whose reply has not come (R158): the wing it was made on, its MTAG and collection, its body, and whether it has been
resent after a LABEL_FAIL (R254). -/
structure Unacked where
  wing : Wing
  mtag : Nat
  coll : Nat
  body : AnxBody
  resent : Bool
  deriving DecidableEq, Repr

/-- A message on its way into a link (R151, R152): its virtual channel, the flits of it still to be sent, and what leaves with the last. -/
structure LinkMsg where
  vc : Nat
  left : Nat
  msg : Msg
  deriving DecidableEq, Repr

/-- One direction pair of an Annex or plinth link (R152, R154, R278): the next LSEQ expected and to be sent, the flits sent and not
acknowledged with the attempts of each, whether a NAK has been sent and the replay not yet come; the messages that wait, oldest first;
the credits each virtual channel has, those owed to the other end, and how many flits in a row the heavier of the two channels that
share the link has sent. -/
structure LinkState where
  rxNext : Nat
  txNext : Nat
  replay : List (Nat × Nat)
  nakSent : Bool
  queue : List LinkMsg
  credits : List Nat
  owed : List Nat
  turn : Nat
  deriving DecidableEq, Repr

/-- A link with nothing sent. -/
def LinkState.idle : LinkState := ⟨0, 0, [], false, [], [0, 0, 0, 0], [0, 0, 0, 0], 0⟩

/-- A FORWARD that waits for its execution (R94, R107): the port it came by, its MTAG, its collection, the capsule, the data. -/
structure FwdReq where
  port : Wing
  mtag : Nat
  coll : Nat
  cap : Capsule
  data : List Nat
  deriving DecidableEq, Repr

/-- The Vitrine and the Annex beside their registers. -/
structure VitState where
  slots : List Slot
  /-- Granules placed and not yet in a MIRROR message (R159): wing and write sequence. -/
  toMirror : List (Wing × Nat)
  /-- Fused records that leave with the MIRROR of a granule (R106): its wing and write sequence, the record. -/
  fusedOut : List (Wing × Nat × FusedRec)
  unacked : List Unacked
  /-- MIRROR messages refused with NO_RESOURCE, to be resent (R159). -/
  refused : List Nat
  /-- The next MTAG counter of each wing (R156). -/
  mtagE : Nat
  mtagW : Nat
  /-- FORWARD messages answered, by MTAG, with the answer (R107). -/
  answered : List (Nat × AnxBody)
  /-- FORWARD messages taken and not yet begun, in arrival order (R94, R107). -/
  forwards : List FwdReq
  /-- The Annex's links (R150 to R155). -/
  linkE : LinkState
  linkW : LinkState
  /-- The value a shrink has reached (R147). -/
  shrinkAt : Nat
  /-- CAT_UPDATEs received and applied, newest last, for R157: MTAGs. -/
  applied : List Nat
  /-- Dirty versions whose CAT_UPDATE entries have been applied (R157): namespace, granule, write sequence. -/
  appliedSeqs : List (Nat × Nat × Nat)
  /-- The pair: lost heartbeat (R168), whether the peer's last HEARTBEAT showed STOPPED with a namespace owned, retained
  content after a reset (R177), namespaces being given back or given up in batches (R176, R518). -/
  hbLost : Bool
  retained : Bool
  giveback : List Nat
  leaving : Bool
  /-- Member bridges whose lease renewal succeeded last (R169), that showed the peer's lease expired at the last poll (R171),
  and that hold this head's claim (R173). -/
  renewed : List Nat
  peerExpired : List Nat
  claims : List Nat
  /-- Renewals are stopped (R172, R518). -/
  noRenew : Bool
  /-- CAT_ACKs held until reads issued to halls the peer has reclaimed complete (R311): port, MTAG, halls. -/
  ackWait : List (Wing × Nat × List Nat)
  /-- The state a SUSPECT head was in before, and whether the epoch of the JOIN under way has been taken (R171, R175). -/
  suspectFrom : Nat
  joined : Bool
  /-- Namespaces whose admission is held for a give-back batch (R176), and whether the batch's OWNERSHIP has been sent. -/
  batch : List Nat
  batchSent : Bool
  /-- Claims are due when the lease of a head that left expires (R518). -/
  claimDue : Bool
  /-- Slots of each wing retired by SLOT_ECC (R178). -/
  retiredE : Nat
  retiredW : Nat
  /-- Versions whose slot SLOT_ECC retired: the peer's copy is to come back (R178). -/
  lost : List (Nat × Nat × Nat)
  /-- The JOIN under way found this head serving (R175). -/
  serving : Bool
  /-- SHRINK_RESTORE is written, and its tick is to come (R147). -/
  restoring : Bool
  deriving DecidableEq, Repr

/-- One version of a leaf page of a map (R185): its version number and its mapped locators. -/
structure Leaf where
  ver : Nat
  ents : Tab Nat
  deriving DecidableEq, Repr

/-- Where a page of a tree stands on flash, and its seal (R186). -/
structure PageRef where
  loc : Nat
  cmac : Nat
  deriving DecidableEq, Repr, Inhabited

/-- A page of a map that a store holds (R188), and whether it has been used since the clock's hand last passed it. -/
structure ResPage where
  nsid : Nat
  level : Nat
  page : Nat
  used : Bool
  deriving DecidableEq, Repr

/-- A valid line of the Catalogue cache (R196). -/
structure CacheLine where
  line : Nat
  dirty : Bool
  deriving DecidableEq, Repr

/-- An edition of a namespace (R193): number, freeze serial, root locator and seal, its leaves and where its pages stand, and the NSID it
is exposed as. -/
structure Edition where
  number : Nat
  freezeSerial : Nat
  rootLoc : Nat
  rootSeal : Nat
  leaves : Tab Leaf
  pages : Tab PageRef
  exposedAs : Option Nat
  deriving DecidableEq, Repr

/-- A namespace (R183). -/
structure Namespace where
  nsid : Nat
  coll : Nat
  home : Wing
  prefThis : Bool
  owned : Bool
  size : Nat
  readOnly : Bool
  lastEdition : Nat
  editions : List Edition
  leaves : Tab Leaf
  /-- Where the map's pages stand on flash, the root's among them (R185): by level and number. -/
  pages : Tab PageRef
  /-- Ownership is changing hands: the namespace reports Asymmetric Access Transition (R173, R176). -/
  changing : Bool
  /-- Accession is stopped until array software has resynchronised the namespace (R166). -/
  accStop : Bool
  deriving DecidableEq, Repr

/-- An entry of a collection's index (R200), with the granule's data for compare mode (R205). -/
structure IndexEntry where
  fp : Nat
  loc : Nat
  ref : Nat
  blind : Bool
  collided : Bool
  suspect : Bool
  epoch : Nat
  pending : Bool
  moving : Bool
  deriving DecidableEq, Repr

/-- A change that an update makes to the counts of its owner's index (R207, R209). -/
inductive RefChange
  | up (loc : Nat)
  | down (loc : Nat)
  | move (old new : Nat)
  deriving DecidableEq, Repr

/-- What the Catalogue journal records (R189): an update sent or applied, an applied one with the changes that a replay makes through the
Registrar (R192), or an index entry inserted. -/
inductive JournalEntry
  | update (mine : Bool) (e : CatEntry) (refs : List RefChange)
  | inserted (coll : Nat) (e : IndexEntry)
  deriving DecidableEq, Repr

/-- A block's record (R305): STATE 0 FREE, 1 MEMBER, 2 ERASING, 3 VAULT, 4 ANCHOR, 5 RETIRED, 6 UNKNOWN. -/
structure BlockRec where
  st : Nat
  erases : Nat
  reads : Nat
  hall : Nat
  progHours : Nat
  /-- It failed a program or erase, or reached its wear limit, and retires when its hall is reclaimed (R307). -/
  retire : Bool
  deriving DecidableEq, Repr

/-- A hall's entry (R308): STATE 0 FILLING, 1 FULL, 2 RECLAIMING, 3 ERASING; its rows that are committed, and VOID. -/
structure Hall where
  mine : Bool
  st : Nat
  system : Bool
  wing : Wing
  n : Nat
  rows : Nat
  assigned : Nat
  done : List Nat
  voids : List Nat
  placed : Nat
  valid : Nat
  formed : Nat
  members : List Nat
  deriving DecidableEq, Repr

/-- An entry of the serial map (R310): state 1 assigned, 2 committed, 3 VOID. -/
structure SerialRec where
  hall : Nat
  row : Nat
  st : Nat
  deriving DecidableEq, Repr

/-- What a checkpoint holds (R190, R310): its number, the namespace table with maps and editions, the indexes with where their pages stand,
the root of each collection's bucket directory, the journal position of the cut, and the Curator's tables. -/
structure CatSnap where
  number : Nat
  nss : Tab Namespace
  index : Tab (List IndexEntry)
  bucketPages : Tab (Tab PageRef)
  roots : Tab PageRef
  cut : Nat
  blocks : Tab BlockRec
  halls : Tab Hall
  serials : Tab SerialRec
  nextHall : Nat
  /-- The reshape boundary the hall table records (R272). -/
  boundary : Nat
  /-- The roots of the hall table, the block records and the serial map (R310). -/
  hallRoot : PageRef
  blockRoot : PageRef
  serialRoot : PageRef
  deriving DecidableEq, Repr, Inhabited

/-- The Catalogue and the Registrar beside their registers. -/
structure CatState where
  /-- The namespace table, by entry (R183). -/
  nss : Tab Namespace
  /-- The version number of the next leaf version. -/
  nextVer : Nat
  journal : List JournalEntry
  /-- The journal's length at the running checkpoint's cut, and frames since the last checkpoint began (R190). -/
  cut : Nat
  frames : Nat
  /-- Catalogue pages changed since the last checkpoint: namespace and leaf (R188). -/
  dirtyPages : List (Nat × Nat)
  /-- Bucket pages changed since the last checkpoint, by collection and bucket, and where each collection's index pages stand (R188,
  R200). -/
  dirtyBuckets : List (Nat × Nat)
  bucketPages : Tab (Tab PageRef)
  /-- The pages the stores hold (R188), in the order in which the clock's hand meets them. -/
  resident : List ResPage
  /-- The valid lines of the Catalogue caches (R196): key (49,152 × wing + set) × 16 + way. -/
  lines : Tab CacheLine
  /-- The peer's latest checkpoint, as its marker names it (R191): number and locator. -/
  peerCkpt : Option (Nat × Nat)
  /-- The walk of an EDITION_DELETE under way (R195): namespace and edition. -/
  busy : Option (Nat × Nat)
  /-- The collections' indexes, by collection (R200). -/
  index : Tab (List IndexEntry)
  /-- The bits set in each collection's filter region (R202). -/
  filter : Tab (List Nat)
  /-- Granules of an accession batch that wait for a compare read: wing, write sequence, fingerprint (R205). -/
  comparing : List (Wing × Nat × Nat)
  /-- Granules held under an ACCESSION_HOLD on each wing (R73). -/
  holdE : Bool
  holdW : Bool
  /-- Duplicates whose update waits for an entry that is PENDING or MOVING (R204): wing, write sequence, collection, fingerprint. -/
  dupWait : List (Wing × Nat × Nat × Nat)
  /-- The journal replay after a takeover runs (R192). -/
  replaying : Bool
  /-- Collections whose deaccession is stopped (R210), and whose blind entries are being re-fingerprinted (R201). -/
  noDeaccession : List Nat
  reindexing : List Nat
  /-- Frames of the corrected errors of each Catalogue cache way in the last 1,024 frames: key 16 × wing + way (R198). -/
  wayErrors : Tab (List Nat)
  /-- Editions held by a consignment (R352): collection and edition. -/
  heldEditions : List (Nat × Nat)
  /-- Leaf versions that only a discarded live map held (R357), by collection, until the walk releases them. -/
  discarded : List (Nat × Leaf)
  /-- Accession granules each wing has taken in this frame (R31), and whether its last batch of the frame left some (R32). -/
  accE : Nat
  accW : Nat
  accLeftE : Nat
  accLeftW : Nat
  /-- The running checkpoint's cut, and the latest completed checkpoint as flash holds it (R190). -/
  cutSnap : Option CatSnap
  /-- The seal of the running checkpoint's record, and of the latest one (R190 step 3). -/
  cutSeal : Nat
  flashSeal : Nat
  flash : Option CatSnap
  deriving DecidableEq, Repr

/-- Bytes an operation places in memory as it ends: address, length, and the bytes as one number, the first lowest. -/
structure Placed where
  addr : Nat
  len : Nat
  data : Nat
  deriving DecidableEq, Repr

/-- A descriptor taken from a ring or from an internal requester and not yet complete (R65, R216): its engine class and wing,
what its completion entry will hold (R66), the unit and key it works with, and what it places in memory. -/
structure EngOp where
  cls : Block
  wing : Wing
  tag : Nat
  cq : Nat
  ring : Option Nat
  unit : Nat
  coll : Nat
  key : Option Nat
  status : Status
  bytes : Nat
  word : Nat
  extra : Nat
  event : Bool
  quiet : Bool
  /-- It continues a chain, and depends on state held in its unit (R218). -/
  chained : Bool
  /-- Its work can end: a Mehror operation or an APPEND is not ready until its own condition holds. -/
  ready : Bool
  place : List Placed
  /-- Ranges of its destination that take its source's poison (R377): address, length. -/
  poison : List (Nat × Nat)
  /-- DMA: the channel and the ring's priority (R388). Mehror: the context, and 1 where it counts in the context's INFLIGHT. -/
  chan : Nat
  prio : Nat
  /-- Its completion entry waits for room in its queue (R67). -/
  held : Bool
  deriving DecidableEq, Repr

/-- A digest or cipher chain under way on a wing (R225, R241): the unit that holds it and its state. -/
structure Chain where
  cls : Block
  wing : Wing
  ring : Option Nat
  unit : Nat
  mode : Nat
  coll : Nat
  key : Option Nat
  gen : Nat
  count : Nat
  aad : Nat
  value : Nat
  /-- GCM: the nonce, and the AAD's length. -/
  nonce : Nat
  aadLen : Nat
  /-- The unit that held it failed (R218): every later descriptor of the chain completes with INTERNAL. -/
  broken : Bool
  deriving DecidableEq, Repr

/-- A granule appended to a case stream (R232): the descriptor's TAG, or none for a granule of an accession batch, which is
named by its Vitrine slot's wing and write sequence. -/
structure Appended where
  tag : Option Nat
  src : Nat
  label : Label
  wing : Wing
  wseq : Nat
  nsid : Nat
  granule : Nat
  data : Nat
  deriving DecidableEq, Repr

/-- An open or closed case of a stream (R232, R233). -/
structure CaseStream where
  wing : Wing
  stream : Nat
  coll : Nat
  dst : Nat
  static : Bool
  items : List Appended
  /-- Frame ticks its first granule has waited. -/
  age : Nat
  closed : Bool
  /-- The tile that compresses it once it is closed; none while no tile is ACTIVE. -/
  unit : Option Nat
  deriving DecidableEq, Repr

/-- A receive buffer posted to a Mehror context (R135): the descriptor's TAG, and the buffer's address and length. -/
structure Post where
  tag : Nat
  /-- The MSG_ID of the message it will take. -/
  msgId : Nat
  addr : Nat
  len : Nat
  deriving DecidableEq, Repr

/-- A packet a Mehror context has sent and keeps (R132): its PSNs, its operation's TAG, how often it has been sent and has been
put off by RNR, the time its retransmission timer runs for, in ns (R136), whether it is acknowledged, and the chunks of a READ still
missing. -/
structure MftOut where
  pkt : MftPacket
  n : Nat
  tag : Nat
  sent : Nat
  rnr : Nat
  rto : Nat
  acked : Bool
  /-- A response is still to come; for a READ, the chunks missing. -/
  wait : Bool
  chunks : List Nat
  /-- An ACK has shown it missing (R132). -/
  shown : Bool
  /-- For a READ, where its first chunk goes. -/
  laddr : Nat
  /-- Its operation has not ended (R139). -/
  live : Bool
  deriving DecidableEq, Repr

/-- A SEND message arriving (R135): its MSG_ID, length, the bytes its buffer takes of it, IMM, bytes placed, greatest PSN, and SOLICITED. -/
structure InMsg where
  msgId : Nat
  msgLen : Nat
  need : Nat
  imm : Nat
  bytes : Nat
  psn : Nat
  solicited : Bool
  deriving DecidableEq, Repr

/-- An operation a Mehror context works on: TAG, opcode, local address and length. -/
structure MftOp where
  tag : Nat
  opcode : Nat
  addr : Nat
  len : Nat
  deriving DecidableEq, Repr

/-- A Mehror transport context beside its registers (R118 to R139). -/
structure MftCtx where
  /-- CWND in 1/256 packets (R133). -/
  cwnd : Nat
  /-- Smoothed round trip and its variation in ns, and whether a sample has come. -/
  srtt : Nat
  rttvar : Nat
  sampled : Bool
  /-- The last RWIN received, and the PSN that must be acknowledged before a further cut. -/
  rwin : Nat
  cutUntil : Option Nat
  out : List MftOut
  /-- Packets of posted work not yet sent, whose PSNs they take when they are. -/
  queue : List MftOut
  ops : List MftOp
  /-- PSNs at or above RCV_NEXT already received. -/
  marked : List Nat
  /-- Accepted packets since the last ACK, CE marks since it, and the TS to echo. -/
  accepted : Nat
  ceSeen : Nat
  echo : Nat
  /-- Atomics that wait for a lower PSN (R129). -/
  atomics : List MftPacket
  /-- Duplicates held while their atomic is accepted and not yet executed (R131). -/
  held : List MftPacket
  posts : List Post
  /-- The MSG_ID the next posted buffer will take, and that of the next message sent. -/
  rcvMsg : Nat
  sndMsg : Nat
  msgs : List InMsg
  /-- The RWIN advertised last was 0. -/
  closed : Bool
  deriving DecidableEq, Repr

/-- The engines beside their registers. -/
structure EngState where
  ops : List EngOp
  chains : List Chain
  /-- The units under their known-answer tests since an UNFENCE (R219). -/
  testing : List (Block × Wing × Nat)
  cases : List CaseStream
  /-- Collections whose fingerprint states the wings hold (R227). -/
  fpStates : List Nat
  /-- The invocation counter of each GCM slot (R240), and each tile's most recently used slots (R221): key 64 × wing + unit. -/
  gcmCount : Tab Nat
  tileKeys : Tab (List (Nat × Nat))
  deriving DecidableEq, Repr

/-- The key store beside its registers (R409): key values by slot, the private slots from 8,192 on, and the binding table. -/
structure Binding where
  collId : Nat
  fpShared : Bool
  home : Wing
  fpSlot : Nat
  mediaSlot : Nat
  deriving DecidableEq, Repr

/-- The classes of die operation (R314). -/
inductive DieClass | host | background | program | erase
  deriving DecidableEq, Repr

/-- Work that reads panels to move cases or to check rows: the Conservator's in the order of R325, deaccession, evacuation, a plinth
rebuild, and the verify. -/
inductive Job | failedDie | report | threshold | refresh | retain | reindex | scrub | reclaim | evacuate | rebuild | verify | ship
  deriving DecidableEq, Repr

/-- A read for a job: a panel's label area, whose valid cases (or only the one at a sheet) are then to be read; a case, by its locator,
collection and sheets; for the verify and the scrub, a panel of a row whole. -/
structure Work where
  job : Job
  hall : Nat
  row : Nat
  panel : Nat
  only : Option Nat
  case : Option (Nat × Nat × Nat)
  deriving DecidableEq, Repr

/-- What a plinth-link command is for. -/
inductive Purpose
  /-- Witness commands (R169, R171, R173). -/
  | renew
  | poll
  | claim
  /-- The identity registers read at admission (R298): the offset. -/
  | identity (addr : Nat)
  /-- A read for hosts (R316): the locator wanted, its collection, and the case's sheets. -/
  | hostRead (loc coll sheets : Nat)
  /-- A read for a reconstruction (R266): the locator wanted, the panel read, and whether it reads sheets 96 to 127. -/
  | recon (loc panel : Nat) (labels : Bool)
  /-- A read for a job (R265, R321, R325). -/
  | work (w : Work)
  /-- A panel of a gallery (R315): serial, panel index. -/
  | panel (serial index : Nat)
  /-- Resynchronisation (R265): hall, row, member. -/
  | check (hall row member : Nat)
  | zero (hall row member : Nat)
  /-- A block erased (R305, R330): its member address, whether for the vault. -/
  | eraseBlock (block : Nat) (vault : Bool)
  /-- An anchor record (R312), an anchor block's erase, and the checks and reads of MOUNT (R332): the anchor block, and its row. -/
  | anchor (seq : Nat)
  | anchorErase (block : Nat)
  | anchorCheck (block row : Nat)
  | anchorRead (block row : Nat)
  /-- A panel of the dump (R502). -/
  | dump (index : Nat)
  deriving DecidableEq, Repr

/-- A command a plinth link has outstanding (R283): its plinth, record, class, whether it has been sent again after its timeout
(R292), what it is for, and the time it was accepted, in ns. -/
structure PlkOp where
  plinth : Nat
  cmd : PlkCmd
  cls : DieClass
  resent : Bool
  purpose : Purpose
  accepted : Nat
  deriving DecidableEq, Repr

/-- A die operation that waits in the Dispatcher (R314), with the time it was accepted, and whether a frame carried it over (R32). -/
structure DieReq where
  plinth : Nat
  cmd : PlkCmd
  cls : DieClass
  purpose : Purpose
  accepted : Nat
  carried : Bool
  deriving DecidableEq, Repr

/-- The plinth links beside their registers: commands outstanding, the next GEN of each slot, and the flits of each link. -/
structure PlkState where
  ops : List PlkOp
  gens : Tab Nat
  links : Tab LinkState
  /-- BR_GEOMETRY and BR_TIMING as read at admission (R298), by plinth. -/
  geom : Tab Nat
  timing : Tab Nat
  deriving DecidableEq, Repr

/-- The Dispatchers beside their registers: what waits, in arrival order, and the dies removed from scheduling (R318). -/
structure DspState where
  waiting : List DieReq
  failed : List Nat
  deriving DecidableEq, Repr

/-- A granule of a case in a gallery: the label it is stored with, the namespace granule it is a version of, with its write sequence
and wing, and its fingerprint. A moved granule (R209) carries the locator it leaves instead. -/
structure GalItem where
  label : Label
  nsid : Nat
  granule : Nat
  wseq : Nat
  wing : Wing
  oldLoc : Nat
  fp : Nat
  data : Nat
  deriving DecidableEq, Repr

/-- A case in a gallery (R260): where it lies, and its bytes as stored, before encryption. -/
structure GalCase where
  coll : Nat
  panel : Nat
  sheet : Nat
  sheets : Nat
  raw : Bool
  moved : Bool
  bytes : Nat
  items : List GalItem
  deriving DecidableEq, Repr

/-- An open gallery, in the open ring (R264): its place, its cases, the frame ticks its first case has waited, the panels sent and
acknowledged. -/
structure Gallery where
  wing : Wing
  serial : Nat
  hall : Nat
  row : Nat
  n : Nat
  cases : List GalCase
  age : Nat
  closed : Bool
  sent : List Nat
  acked : List Nat
  /-- Data panels closed to further cases (R250). -/
  shut : List Nat
  deriving DecidableEq, Repr

/-- A reconstruction under way (R266): the locator wanted, its collection, the case's sheets (0 for a label area alone), the work it is
for (none: a host read), the panels asked for, by 2 × panel, plus 1 for sheets 96 to 127, and what has come, none where a read failed. -/
structure Recon where
  loc : Nat
  coll : Nat
  sheets : Nat
  work : Option Work
  asked : List Nat
  got : Tab (Option Nat)
  deriving DecidableEq, Repr

/-- A granule read for a host: the collection it was read for, and its bytes, or the status it failed with (R25). -/
structure Assembled where
  coll : Nat
  st : Status
  data : Nat
  deriving DecidableEq, Repr

/-- The galleries beside their registers: the open ring of both wings, cases that wait for a gallery (R264), rows still to
resynchronise with the panels checked and zeroed (R265), halls still to verify, and serials still to rebuild (R269). -/
structure GalState where
  opens : List Gallery
  queued : List (Wing × GalCase)
  resync : List (Nat × Nat)
  verify : List Nat
  rebuild : List Nat
  /-- Galleries already reported beyond reconstruction (R270). -/
  lost : List Nat
  /-- Reconstructions under way (R266). -/
  recons : List Recon
  /-- Rows whose resynchronisation has begun (R265): hall, row. `verify` holds the ring's halls until the verify starts, which takes them
  first. -/
  checking : List (Nat × Nat)
  /-- Panels of a row read by the verify or the scrub (R265, R329), bytes or none where the read failed. -/
  rowReads : List (Work × Option Nat)
  /-- Granules read for hosts, by locator, until their command takes them. -/
  assembled : Tab Assembled
  /-- Work still to be issued, and the plinths whose loss or GAL_REBUILD.START is being rebuilt (R269). -/
  work : List Work
  lostPlinths : List Nat
  /-- Work that the last frame carried over (R32), and panel reads of the rebuild that are still to be charged to each wing's budget
  (R269). -/
  carried : List Work
  owedE : Nat
  owedW : Nat
  /-- A reshape's width is in force for new halls: from the tick after its START (R271). -/
  reshaping : Bool
  /-- Halls the reshape has moved since the hall table last recorded its boundary, and that boundary (R272). -/
  walked : Nat
  boundary : Nat
  deriving DecidableEq, Repr

/-- A dump as the vault holds it (R502): whether its marker has been acknowledged, and what the restore takes from it. -/
structure Dump where
  marked : Bool
  slots : List Slot
  journal : List JournalEntry
  ring : List Gallery
  serial : Nat
  wseqE : Nat
  wseqW : Nat
  deriving DecidableEq, Repr

/-- A scrub's place (R329): hall and row; the FRM_TIME at which its pass began, and the rows it has done. -/
structure Scrub where
  hall : Nat
  row : Nat
  start : Nat
  done : Nat
  deriving DecidableEq, Repr

/-- The Curator and the Conservator beside their registers. -/
structure CurState where
  /-- Member plinths (R298, R304), those evacuating and those whose evacuation is complete (R324). -/
  members : List Nat
  evacuating : List Nat
  evacuated : List Nat
  /-- Member plinths lost since they were last erased (R273, R516). -/
  wasLost : List Nat
  /-- Plinths whose shelf has lost its hold-up (R300). -/
  noHoldup : List Nat
  /-- Block records by member address (R305, R308); an unlisted block of a member is UNKNOWN. -/
  blocks : Tab BlockRec
  halls : Tab Hall
  serials : Tab SerialRec
  nextHall : Nat
  /-- The hall each wing took last, of the data halls it takes in turn (R309). -/
  turnE : Nat
  turnW : Nat
  mounted : Bool
  mounting : Bool
  /-- The anchor record of the highest SEQ that the mount under way has found (R332): its bytes, its block and row. -/
  anchorBest : Option (Nat × Nat × Nat)
  /-- VERIFY_DONE has followed the last MOUNT (R333). -/
  verified : Bool
  /-- The next row of the current anchor block, which of the head's two blocks it is, and the copies acknowledged (R312). -/
  anchorRow : Nat
  anchorHalf : Nat
  anchorAcks : Nat
  /-- The vault's blocks in dump order, those not yet erased, and those of the restored dump (R330, R331). -/
  vault : List Nat
  vaultErase : List Nat
  oldVault : List Nat
  /-- The anchor record under way carries a change of the vault. -/
  vaultAnchor : Bool
  /-- An acknowledged anchor record lists the vault (R330). -/
  vaultListed : Bool
  /-- SEQ of the last anchor record (R312). -/
  anchorSeq : Nat
  /-- What the vault holds (R502). -/
  dump : Option Dump
  /-- The locator of the latest checkpoint's record (R190). -/
  ckptLoc : Nat
  /-- Cases queued for rewrite, by locator, with the moves each has failed (R327, R335), and blocks for refresh (R326). -/
  rewrite : List (Nat × Nat)
  refresh : List Nat
  /-- Each wing's scrub (R329). -/
  scrubE : Scrub
  scrubW : Scrub
  wearMode : Bool
  /-- Host granules each wing has admitted in this frame and the last, and write granules in this frame (R319, R323). -/
  admittedE : Nat
  admittedW : Nat
  lastE : Nat
  lastW : Nat
  writesE : Nat
  writesW : Nat
  /-- Operating hours (R445). -/
  hours : Nat
  deriving DecidableEq, Repr

/-- A witness entry of a bridge (R293, R294, R297). -/
structure WitEntry where
  valid : Bool
  claim : Bool
  fenced : Bool
  expired : Bool
  node : Nat
  claimEpoch : Nat
  epoch : Nat
  expiry : Nat
  deriving DecidableEq, Repr

/-- What a bridge keeps for a command slot of a port (R283): the GEN last received, and the completion last sent. -/
structure BrSlot where
  gen : Nat
  done : Option PlkDone
  deriving DecidableEq, Repr

/-- A die command a bridge holds (R286): its port, whether the die has started it and has it suspended, and where it started. -/
structure BrJob where
  port : Nat
  cmd : PlkCmd
  started : Bool
  held : Bool
  startFrame : Nat
  startSlot : Nat
  suspends : Nat
  deriving DecidableEq, Repr

/-- A plinth bridge: its timebase (R280), witness entries by port, alert masks, command slots, die commands, and what its dies
hold: the row that each block programs next and its SLC mode, the panels, and those partly programmed. -/
structure Bridge where
  wire : Nat
  slot : Nat
  len : Nat
  phaseErr : Nat
  follow : Nat
  tick : Nat
  /-- A marker with MASTER = 1 has arrived since bridge reset (R41), frames since the last one, markers of the relock run, the last
  FCOUNT, a marker has come since the last tick, and ticks missed in a row. -/
  led : Bool
  quiet : Nat
  run : Nat
  lastCount : Nat
  seen : Bool
  missed : Nat
  wit0 : WitEntry
  wit1 : WitEntry
  /-- The node ID learned at training from each port's head (R279). -/
  node0 : Option Nat
  node1 : Option Nat
  /-- The one-way delay of each port's link, in ns, as measured at training (R279, R280). -/
  delay0 : Option Nat
  delay1 : Option Nat
  /-- The countdown of a frame length that the markers announce, and that length (R44). -/
  countdown : Nat
  announced : Nat
  alert0 : Nat
  alert1 : Nat
  slots : Tab BrSlot
  jobs : List BrJob
  blocks : Tab (Nat × Bool)
  panels : Tab Nat
  partly : List Nat
  deriving DecidableEq, Repr

/-- A replication request that is not answered (R342): its collection, RTAG, NSID and body, and whether it has been sent again
(R354). -/
structure RplReq where
  coll : Nat
  rtag : Nat
  nsid : Nat
  body : RplBody
  resent : Bool
  deriving DecidableEq, Repr

/-- A granule whose data a consignment must carry (R352): namespace, granule, and its fingerprint where its entry holds one. -/
structure RplGranule where
  nsid : Nat
  granule : Nat
  fp : Option Nat
  deriving DecidableEq, Repr

/-- A consignment under way (R352): edition and base, whether RESUME_SYNC made it, whether BEGIN has been answered and COMMIT sent,
the messages still to send, the granules whose data must travel, the granules changed, and those not yet answered. -/
structure Ship where
  edition : Nat
  base : Nat
  resume : Bool
  begun : Bool
  committing : Bool
  todo : List (Nat × RplBody)
  need : List RplGranule
  changed : Nat
  left : Nat
  deriving DecidableEq, Repr

/-- A replicated collection beside its map entry: the next RTAG, the lock word last seen (R351), the consignment it ships, the
edition of a BEGIN without COMMIT (R355), whether SYNC_WRITEs feed the replica (R357), whether its writes are held (R349), and
whether it is DIVERGED (R347). -/
structure RplColl where
  rtag : Nat
  lock : Nat
  ship : Option Ship
  begun : Option Nat
  sync : Bool
  hold : Bool
  diverged : Bool
  deriving DecidableEq, Repr

/-- What a SYNC collection still has to send (R344, R350): a granule placed, or, where `commit` says so, an edition point with its
base and its granules changed. -/
structure SyncItem where
  coll : Nat
  nsid : Nat
  granule : Nat
  wseq : Nat
  data : Nat
  commit : Option (Nat × Nat × Nat)
  deriving DecidableEq, Repr

/-- The replication engine beside its registers. -/
structure RplState where
  reqs : List RplReq
  queue : List SyncItem
  /-- Granules in a SYNC_WRITE that is not answered, by its RTAG. -/
  flight : List (Nat × SyncItem)
  colls : Tab RplColl
  /-- Requests received that wait for room, or for what must come first: collection, NSID, RTAG, body. -/
  incoming : List (Nat × Nat × Nat × RplBody)
  /-- SYNC_WRITEs placed whose mirror commit is to come (R346): collection, NSID, RTAG, write sequences. -/
  acks : List (Nat × Nat × Nat × List Nat)
  /-- Granules read for a consignment, by locator, and the cases that could not be read. -/
  shipped : Tab Nat
  lost : List (Nat × Status)
  /-- Bytes of consignment messages charged to the frame, by wing (R352). -/
  spentE : Nat
  spentW : Nat
  deriving DecidableEq, Repr

/-- The cores, memory and DMA beside their registers: the harts in HNY.WAIT with their timeouts in µs, the migration under way on each
wing (segment, new set, new BASE), corrected DDR5 errors of the last 1,024 frames (page, frame), retired pages with their spare
pages, and the disabled DMA channels (8 × wing + channel). -/
structure CoreState where
  waits : Tab Nat
  migE : Option (Nat × Nat × Nat)
  migW : Option (Nat × Nat × Nat)
  ce : List (Nat × Nat)
  retired : List (Nat × Nat)
  dmaOff : List Nat
  deriving DecidableEq, Repr

/-- A key as the key image in the Archive holds it (R417): slot, the private slots from 8,192 on, its attribute word, its value. -/
structure ImageKey where
  slot : Nat
  attr : Nat
  value : Nat
  deriving DecidableEq, Repr

/-- An agreement under way (R418): purpose, both connection IDs, this side's nonce and ephemeral private key. -/
structure Agree where
  purpose : AgreePurpose
  ids : Nat
  nonce : Nat
  eph : Nat
  deriving DecidableEq, Repr

/-- Docent beside its registers. -/
structure DocState where
  /-- The last custodian counter accepted, the key image's generation, and the image (R416, R417): they lie in the Archive. -/
  counter : Nat
  imageGen : Nat
  image : List ImageKey
  imageBinds : Tab Binding
  /-- Peer UIDs permitted to a collection, and to system connections (R415, R418). -/
  peers : Tab (List Nat)
  federation : List Nat
  /-- The custodian digests in the fuse rows, first row first, and the lifecycle state in the fuses (R415, R420). -/
  custodians : List Nat
  fused : Nat
  /-- The challenge nonce that a debug token may answer once (R421), and whether keys are refused until chip reset. -/
  nonce : Option Nat
  noKeys : Bool
  agree : Option Agree
  /-- The key agreed with a key manager (R415, R418). -/
  importKey : Option Nat
  /-- Words written to MSR_INPUT (R425), the first lowest; the staged binding entry (R414). -/
  msrInput : Nat
  stageId : Word
  stageSlots : Word
  /-- RELEASE written for each wing (R399), and held while the head is in Standby (R473). -/
  releasedE : Bool
  releasedW : Bool
  heldE : Bool
  heldW : Bool
  /-- An alarm's reset hold runs (R419). -/
  alarmHold : Bool
  /-- The attestation key's private scalar (R406). -/
  attest : Nat
  /-- The Provenance chain: the next BOOT_SEQ and the digest of the last record (R403 to R405). -/
  bootSeq : Nat
  prevProv : Nat
  /-- Docent's ROM has run its boot since chip reset (R398). -/
  booted : Bool
  deriving DecidableEq, Repr

/-- What an Archive operation does (R436): words programmed from an offset, sectors erased, a sector closed. -/
inductive ArcWork
  | program (words : List Nat)
  | erase (sectors : Nat)
  | close
  deriving DecidableEq, Repr

/-- An Archive operation in progress (R437): for Docent's queue, with its TAG and whether DONE needs no entry; for the UPD engine; or a
recorder record. -/
structure ArcOp where
  job : ArcJob
  offset : Nat
  work : ArcWork
  deriving DecidableEq, Repr

/-- A recorder record in the buffer (R441, R443). `hold` says whether it still absorbs repeats, `firmware` whether PRV_REC_CMD wrote
it. -/
structure RecEntry where
  seq : Nat
  hours : Nat
  cycles : Nat
  source : Nat
  code : Nat
  rep : Nat
  lost : Nat
  payload : Nat
  hold : Bool
  firmware : Bool
  deriving DecidableEq, Repr

/-- A slot write (R450): the slot, the image's length, the phase (0 control sector erased, 1 sectors erased, 2 a sector programmed, 3 a
sector closed, 4 WRITTEN programmed), the sector, and whether an update request waits for its end. -/
structure UpdWrite where
  slot : Nat
  length : Nat
  phase : Nat
  sector : Nat
  request : Bool
  gen : Nat
  deriving DecidableEq, Repr

/-- The Archive, the recorder, the update engine and the watchdogs beside their registers. -/
structure ArcState where
  /-- Words of 32 bytes by number, unlisted ones erased; sectors by number: 0 INCOMPLETE, 1 ERASED, 2 CLOSED, unlisted ones 1. -/
  words : Tab Nat
  sectors : Tab Nat
  op : Option ArcOp
  /-- Completion entries written since reset, for PHASE, and entries that wait for room (R67). -/
  entries : Nat
  held : List Nat
  recs : List RecEntry
  /-- Slots used of the permanent and of the circulating area; the circulating slots that hold a valid record, with its SEQ. -/
  perm : Nat
  circNext : Nat
  circ : Tab Nat
  nextSeq : Nat
  lostNext : Nat
  /-- POWER_CYCLES of the newest record programmed (R445). -/
  newestCycles : Nat
  recPayload : Nat
  /-- The hour-tally sector in use, its BASE and its words used (R445). -/
  tally : Nat
  tallyBase : Nat
  tallyUsed : Nat
  upd : Option UpdWrite
  trial : Bool
  /-- STOP asserted by a watchdog (R457), whose grace then runs. -/
  grace : Bool
  /-- Word 1 of the option area as loaded at chip reset, where it was good (R12, R439). -/
  options : Option Nat
  deriving DecidableEq, Repr

/-- Whether the chip runs, is held in reset (R479, R528, R529), or has no rails (R530). -/
inductive Hold | running | reset | off
  deriving DecidableEq, Repr

/-- Power beside its registers. An island is a page's number, or 65,536 + hart for a core. -/
structure PwrState where
  hold : Hold
  /-- THERMTRIP_N is asserted: only the removal of the rails ends the reset (R479). -/
  thermTrip : Bool
  /-- The group A and HBM rails have stayed in tolerance through the reset under way (R529). -/
  railsStayed : Bool
  /-- The always-on domain counts on the crystal (R528). -/
  crystal : Bool
  /-- Islands whose exit runs; islands whose entry runs, with the rung and the causes that have arisen meanwhile (R470, R471). -/
  exits : List Nat
  /-- Islands whose RUNG.REQUEST is to be applied when the exit under way ends (R471), with the initiator that wrote it. -/
  requests : Tab Nat
  entries : Tab (Nat × Nat)
  /-- A mode change under way: to Serving, or to Standby (R473). -/
  toServing : Option Bool
  /-- The AVS raise in force, in mV, by 3 × wing + rail: 0 CORE, 1 ENG, 2 MESH (R475). -/
  avs : Tab Nat
  /-- Rails whose sag has lasted 1 µs, and the detectors that see their rail low, by 64 × wing + detector (R474). -/
  sags : List Nat
  droops : List Nat
  /-- Thermal limits exceeded at the last sample (R479), by 8 × wing + limit: 0 WARN, 1 THROTTLE, 2 HBM_THROTTLE, 3 alarm 2, 4 alarm 3. -/
  warm : List Nat
  /-- Engine units at rung 1 or 2 (R468), by 64 × (2 × class + wing) + unit. -/
  units : Tab Nat
  deriving DecidableEq, Repr

/-- A bank test (R508): samples since its onset; bank codes summed over the 64 and the 16 samples before it; the charge and, at sample
20, the bank current, as sums of current × duty; the codes of samples 20 to 35 summed; and the codes after its end. -/
structure HealthTest where
  n : Nat
  before64 : Nat
  before16 : Nat
  charge : Int
  onset : Int
  during16 : Nat
  tail : Option (List Nat)
  deriving DecidableEq, Repr

/-- The Reservoir beside its registers. -/
structure RsvState where
  /-- The control program's variables (R491): the integrators and the last current reference. -/
  iv : Int
  iiA : Int
  iiB : Int
  iref : Int
  /-- The pending duties, with whether a phase takes its own one reload later, and the active duties (R487). -/
  pendA : Option (Nat × Bool)
  pendB : Option (Nat × Bool)
  /-- A duty of the last sample that its commit makes pending only after the phase's next reload (R487, R489). -/
  nextA : Option Nat
  nextB : Option Nat
  actA : Nat
  actB : Nat
  /-- A pulse that the current limit has ended in the phase's period: the high-side one where true (R486). -/
  cutA : Option Bool
  cutB : Option Bool
  /-- Samples in a row without a conversion: VBUS, VBANK, IA, IB (R494). -/
  missV : Nat
  missK : Nat
  missA : Nat
  missB : Nat
  /-- VBUS, IA and IB: the last code and how many samples in a row it has held; the duty changes of the last 64 samples (R494). -/
  stillV : Nat × Nat
  stillA : Nat × Nat
  stillB : Nat × Nat
  moveA : List Nat
  moveB : List Nat
  /-- The last completed sample: the phase currents, the bank code used; the last good bus and bank codes. -/
  iA : Int
  iB : Int
  vk : Nat
  goodV : Nat
  goodK : Nat
  /-- Samples in a row with every channel good; samples in LIMP since the last decay (R495). -/
  good : Nat
  decay : Nat
  /-- A bus trip holds DISCHARGE; LIMP runs with a discharge; LIMP has lasted MAX_MS. -/
  tripDis : Bool
  limpDis : Bool
  limpOver : Bool
  /-- A requested mode that the next sample takes (R511). -/
  due : Option Nat
  /-- The allowance is below the quota (R507). -/
  low : Bool
  /-- The last 64 bank codes, oldest first. -/
  banks : List Nat
  health : Option HealthTest
  /-- The dump: its start on FRM_TIME, its panels, and those acknowledged. -/
  dumpStart : Nat
  dumpPanels : Nat
  dumpAcked : Nat
  deriving DecidableEq, Repr

/-- Power right after reset. -/
def PwrState.reset : PwrState := ⟨.running, false, true, false, [], [], [], none, [], [], [], [], []⟩

/-- The Reservoir right after reset. -/
def RsvState.reset : RsvState :=
  ⟨0, 0, 0, 0, none, none, none, none, 0, 0, none, none, 0, 0, 0, 0, (0, 0), (0, 0), (0, 0), [], [], 0, 0, 0, 0, 0, 0, 0, false, false, false, none, false,
    [], none, 0, 0, 0⟩

/-- The state of one HNY-G8400 head. -/
structure Head where
  /-- The register file: every register of every page, keyed by page, offset and table entry. -/
  regs : Tab Word
  /-- RWF values written and not yet committed (R57): value and mask of the bits written. -/
  pend : Tab (Word × Word)
  /-- HI halves written and held until the LO write (R7). -/
  hiHold : Tab Word
  /-- HI halves latched by a LO read, kept apart for mirror reads (R7, R63). -/
  hiLatch : Tab Word
  /-- Events raised by the command under way whose delivery is still to come (R70). -/
  evq : List Delivery
  /-- Bit n: the West page raised the software event of EVT_SW_STATUS bit n (R73). -/
  swWest : Nat
  /-- FRM_TIME at which each wait group's timer last restarted (R75, R76). -/
  groupTimes : Tab Nat
  /-- Messages sent, oldest first. -/
  out : List Msg
  /-- The reply to the last register access. -/
  bus : BusReply
  /-- How many free values have been taken. -/
  freeCtr : Nat
  /-- The frame timebase. -/
  frm : FrameState
  /-- The Foyer. -/
  foy : FoyState
  /-- The Vitrine and the Annex. -/
  vit : VitState
  /-- The Catalogue and the Registrar. -/
  cat : CatState
  /-- The engines. -/
  eng : EngState
  /-- Physical memory, DDR5 and HBM, by address: addresses strictly rising, no byte 0 listed. -/
  mem : List Host.Cell
  /-- Poisoned lines of 64 bytes, by address / 64 (R377). -/
  poison : List Nat
  /-- Docent SRAM by offset, in the same form as memory. -/
  sram : List Host.Cell
  /-- The Mehror contexts in use, by context key (R118). -/
  mft : Tab MftCtx
  /-- The transmit counter of each context (R120, R122): it outlives the context's OPEN, CLOSE and release. -/
  mftTxc : Tab Nat
  /-- Key values by slot, private slots from 8,192 on (R409). -/
  keys : Tab Nat
  /-- The collection binding table: the valid entries, by collection index (R24, R414). -/
  bindings : Tab Binding
  /-- The plinth links. -/
  plk : PlkState
  /-- The Dispatchers. -/
  dsp : DspState
  /-- The galleries. -/
  gal : GalState
  /-- The Curator and the Conservator. -/
  cur : CurState
  /-- The plinth bridges, by plinth. -/
  bridges : Tab Bridge
  /-- The replication engine. -/
  rpl : RplState
  /-- The cores, memory and DMA. -/
  core : CoreState
  /-- Docent. -/
  doc : DocState
  /-- The Archive, the recorder, the update engine and the watchdogs. -/
  arc : ArcState
  /-- Power. -/
  pwr : PwrState
  /-- The Reservoir. -/
  rsv : RsvState
  deriving DecidableEq, Repr

/-- The head right after chip reset by power-on. -/
def Head.reset : Head where
  regs := []
  pend := []
  hiHold := []
  hiLatch := []
  evq := []
  swWest := 0
  groupTimes := []
  out := []
  bus := ⟨false, 0⟩
  freeCtr := 0
  frm := ⟨0, 0, 0, 0, 0, 0, 0, 0, false, 0, [], [], [], [], [], false, false, false, false, false, false, false, true⟩
  foy := ⟨[], [], [], [], [], [], [], [], false, false, 0, 0, false, false, false, false⟩
  vit := ⟨[], [], [], [], [], 0, 0, [], [], .idle, .idle, 24576, [], [], false, false, [], false, [], [], [], false, [], 0, false, [], false, false, 0, 0, [], false, false⟩
  cat := ⟨[], 1, [], 0, 0, [], [], [], [], [], none, none, [], [], [], false, false, [], false, [], [], [], [], [], 0, 0, 0, 0, none, 0, 0, none⟩
  eng := ⟨[], [], [], [], [], [], []⟩
  mem := []
  poison := []
  sram := []
  mft := []
  mftTxc := []
  keys := []
  bindings := []
  plk := ⟨[], [], [], [], []⟩
  dsp := ⟨[], []⟩
  gal := ⟨[], [], [], [], [], [], [], [], [], [], [], [], [], 0, 0, false, 0, 0⟩
  cur := ⟨[], [], [], [], [], [], [], [], 0, 0, 0, false, false, none, true, 0, 0, 0, [], [], [], false, false, 0, none, 0, [], [], ⟨0, 0, 0, 0⟩, ⟨0, 0, 0, 0⟩, false, 0, 0, 0, 0, 0, 0, 0⟩
  bridges := []
  rpl := ⟨[], [], [], [], [], [], [], [], 0, 0⟩
  core := ⟨[], none, none, [], [], []⟩
  doc := ⟨0, 0, [], [], [], [], [], 1, none, false, none, none, 0, 0, 0, false, false, false, false, false, 0, 0, 0, false⟩
  arc := ⟨[], [], none, 0, [], [], 0, 0, [], 0, 0, 0, 0, 0, 0, 0, none, false, false, none⟩
  pwr := PwrState.reset
  rsv := RsvState.reset

/-- The whole machine: the head, and the commands that wait, first in, first out. -/
structure State where
  dev : Head
  pending : List Instr
  deriving DecidableEq, Repr

/-- Reasons the machine stops with a fault. -/
inductive Fault
  /-- No meaning raises this fault; the type needs a constructor. Safe. -/
  | none
  deriving DecidableEq, Repr

/-- Reasons a command has no outcome. -/
inductive Refusal
  /-- No meaning yet for the command, raised by its arm of exec. Safe. -/
  | notModelled (mnemonic : String)
  deriving DecidableEq, Repr

/-- The machine right after reset: no command waits. -/
def State.reset : State := ⟨Head.reset, []⟩

end Sys2Proof.Machine
end

