-- ==== Sys2Proof/Machine/Flash.lean ====
section
/-! DEFINITION. What the head reads from flash that its state does not hold: constants without a body. -/

namespace Sys2Proof.Config

open Sys2Proof.Machine

/-- The Catalogue a joining head loads from flash (R175): the serving head's latest checkpoint, which that head wrote. -/
opaque joinCatalogue : Nat → CatSnap

/-- The checkpoint that the peer has written at a locator, as its marker names it (R191). -/
opaque peerCatalogue : Nat → CatSnap

/-- The record of a checkpoint as it is stored, its length and its bytes (R190 step 3): the spec gives what it holds and no layout. -/
opaque recordBytes : CatSnap → Nat × Nat

/-- The checkpoint of a number that flash holds and the state does not (R332): one that another head of the same PREFER wrote. -/
opaque flashCatalogue : Nat → CatSnap

end Sys2Proof.Config
end

