-- ==== Sys2Proof/Config.lean ====
section
/-! DEFINITION. What an implementation fixes and what the spec leaves open: constants without a body, so that no proof can
see a value; and the published functions the spec names without giving them, on bytes held as one number, the first lowest. -/

namespace Sys2Proof.Config

/-! ### Values the spec leaves open, each taken at the number of a counter of the state -/

/-- Which free transport context a connection request takes (R86 names none): the number from which the search begins. -/
opaque freeContext : Nat → Nat

/-- The additive step by which a queue pair's send rate rises, in Mb/s (R85 gives none). -/
opaque rateStep : Nat

/-- Which ACTIVE unit takes an operation (R216: any). -/
opaque unitChoice : Nat → Nat

/-- Which of its four slots a cipher tile replaces (R221: at random). -/
opaque tileChoice : Nat → Nat

/-- How many bytes an aborted operation has written (R222, R390). -/
opaque abortBytes : Nat → Nat

/-- Random bytes drawn from Docent's DRBG (R240, R411). -/
opaque random : Nat → Nat

/-- The staging region's 4 KiB units within the HBM windows (R142 gives sizes, R374 only the windows). -/
opaque isStaging : Nat → Bool

/-- A DDR5 channel's capacity in units of 128 MiB (R376: 16 to 512 GiB), by 8 × wing + channel. -/
opaque channelCapacity : Nat → Nat

/-- A plinth bridge's stepping (BR_ID[15:0]), geometry, timing and HOLDUP_OK, by plinth (R297: hw). -/
opaque bridgeStepping : Nat → Nat
opaque bridgeGeometry : Nat → Nat
opaque bridgeTiming : Nat → Nat
opaque bridgeHoldup : Nat → Bool

/-- The delay that a bridge measured towards a head other than this one, in ns, and that head's node ID, by plinth and port. -/
opaque portDelay : Nat → Nat → Nat
opaque portNode : Nat → Nat → Nat

/-- The head's unique number, from fuses, and its strap balls (R81, R532). -/
opaque uid : Nat
opaque straps : Nat

/-- Docent's fixed measurements and secrets (R398, R406, R407, R420): the ROM digest, the digest of the Trolvasa firmware key in the ROM,
the firmware's configuration, the unique device secret, the test secret of the TEST state, and what the read-blocked rows of a returned
part give. -/
opaque romDigest : Nat
opaque firmwareKey : Nat
opaque firmwareConfig : Nat
opaque uds : Nat
opaque testSecret : Nat
opaque blockedSecret : Nat

/-- Whether an image's signature verifies under the key of a digest (R398): the digest, the image's length, its bytes. An image's security
version; an OS image's manifest: length, bytes. -/
opaque imageOk : Nat → Nat → Nat → Bool
opaque imageSvn : Bool → Nat → Nat → Nat
opaque osManifest : Nat → Nat → Nat

/-- What Docent firmware sets at boot by its own policy (R398 step 7, R493): the mirrors, the system rings (1,024 × wing + ring), the
ripple scale of each feed-forward entry and the ripple offset of each phase entry. -/
opaque bootMirrors : Nat
opaque bootRings : List Nat
opaque rippleScale : Nat → Nat
opaque rippleOffset : Nat → Nat

/-- Docent firmware's policy on a CONFIGURE request (R415): the mirrors asked for, and the rings. -/
opaque configureAllowed : Nat → List Nat → Bool

/-- The flits that a link's receiver can hold on each virtual channel (R152). -/
opaque linkBuffers : Nat → Nat

/-- The UDP source port of a Mehror connection from its two connection IDs (R119: a hash, not given). -/
opaque portHash : Nat → Nat → Nat

/-- The Reed–Solomon parity of a flit's first 264 bytes (R151 gives neither the generator nor the field polynomial); the 64-byte NVMe
command capsule of opcode, CID, NSID, SLBA and count, and the 16-byte NVMe completion of a status (R156); the bytes of a heartbeat,
whose layout R156 does not give: pair state, node ID, PREFER, epoch, own and peer lease views, wire count. -/
opaque flitParity : Nat → Nat
opaque nvmeCapsule : List Nat → Nat
opaque nvmeCompletion : Nat → Nat
opaque heartbeatBytes : List Nat → Nat

/-- A free number, for the other values the spec leaves open. -/
opaque freeNat : Nat → Nat

/-! ### Published functions -/

/-- SHA-2 (FIPS 180-4), by algorithm (false: SHA-256, true: SHA-384): the chaining value after whole blocks are absorbed, and
the digest once the last bytes are in. The chaining value, the count absorbed before, the bytes' count and the bytes. -/
opaque shaInit : Bool → Nat
opaque shaAbsorb : Bool → Nat → Nat → Nat → Nat → Nat
opaque shaFinish : Bool → Nat → Nat → Nat → Nat → Nat

/-- HMAC (FIPS 198-1): the inner state under a key, and the MAC from the inner state's end. -/
opaque hmacInit : Bool → Nat → Nat
opaque hmacFinish : Bool → Nat → Nat → Nat → Nat → Nat → Nat

/-- HKDF-SHA-384 (RFC 5869): the key derived under a key from input bytes. -/
opaque hkdf : Nat → Nat → Nat → Nat

/-- AES-256-XTS (SP 800-38E) of one data unit: encrypt or decrypt, key, tweak, length, bytes. -/
opaque xts : Bool → Nat → Nat → Nat → Nat → Nat

/-- AES-256-GCM (SP 800-38D): the bytes en- or decrypted from a position, and the tag: key, IV, position, length, bytes; and the
GHASH accumulator over what has been processed. -/
opaque gcmCrypt : Nat → Nat → Nat → Nat → Nat → Nat
opaque gcmHash : Nat → Nat → Nat → Nat → Nat
opaque gcmTag : Nat → Nat → Nat → Nat → Nat → Nat

/-- AES-CMAC (SP 800-38B): the chaining value after whole blocks, and the 128-bit MAC: key, chaining value, length, bytes. -/
opaque cmacAbsorb : Nat → Nat → Nat → Nat → Nat
opaque cmacFinish : Nat → Nat → Nat → Nat → Nat

/-- AES key wrap (RFC 3394): the wrapped bytes, 8 longer; and the unwrapped bytes, none where the integrity check fails. -/
opaque keyWrap : Nat → Nat → Nat → Nat
opaque keyUnwrap : Nat → Nat → Nat → Option Nat

/-- DEFLATE (RFC 1951): the stream's length and bytes for static or dynamic tables; and the output of a stream, its bytes
produced up to a limit, and whether the stream is well formed that far. -/
opaque deflate : Bool → Nat → Nat → Nat × Nat
opaque inflate : Nat → Nat → Nat → Nat × Nat × Bool

/-- CRC-32C of bytes, and the NVMe 64-bit guard of bytes: length, bytes. -/
opaque crc32c : Nat → Nat → Nat
opaque guard64 : Nat → Nat → Nat

/-- ECDSA P-384: a signature under a key, and whether one verifies. -/
opaque ecdsaSign : Nat → Nat → Nat
opaque ecdsaVerify : Nat → Nat → Nat → Bool

/-- HMAC-SHA-384 of bytes under a key: key, length, bytes. -/
opaque hmac384 : Nat → Nat → Nat → Nat

/-- The P-384 public key of a private one, and the ECDH shared secret of a private and a public key (SP 800-56A). -/
opaque ecPublic : Nat → Nat
opaque ecdh : Nat → Nat → Nat

/-- The certificate chain of R407 for an attestation public key, as one number. -/
opaque certChain : Nat → Nat

end Sys2Proof.Config
end

