-- ==== Sys2Proof/Machine/Labels.lean ====
section
/-! DEFINITION. Labels (R253): their bytes, LCRC, and the changes a block makes to a label it has checked (R254). -/

namespace Sys2Proof.Machine

/-- One bit of the CRC-16 of R253: polynomial 0x8BB7, no reflection. -/
def crc16Bit (c : Nat) : Nat := if c.testBit 15 then (c <<< 1 ^^^ 0x8BB7) % 65536 else (c <<< 1) % 65536

/-- One byte of the CRC-16. -/
def crc16Byte (c b : Nat) : Nat :=
  crc16Bit (crc16Bit (crc16Bit (crc16Bit (crc16Bit (crc16Bit (crc16Bit (crc16Bit (c ^^^ b <<< 8))))))))

/-- The CRC-16 of bytes, initial value 0. -/
def crc16 (bytes : List Nat) : Nat := bytes.foldl crc16Byte 0

/-- The low bytes of a number, byte 0 first. -/
def bytesOf (n len : Nat) : List Nat := (List.range len).map (fun i => n >>> (8 * i) % 256)

/-- A number from bytes, byte 0 lowest. -/
def numOf : List Nat → Nat
  | [] => 0
  | b :: t => b % 256 + 256 * numOf t

/-- A number with its bytes in the other order. -/
def swapBytes (n len : Nat) : Nat := numOf (bytesOf n len).reverse

/-- Bytes 16 and 17 of a label: COLL, RAW and SYSTEM. -/
def labelColl (l : Label) : Nat := l.coll % 4096 + (if l.raw then 4096 else 0) + (if l.system then 8192 else 0)

/-- Bytes 0 to 27 of a label, as one number. -/
def labelBody (l : Label) : Nat :=
  l.guard % 2 ^ 64 + (l.fptag % 2 ^ 64) <<< 64 + labelColl l <<< 128 +
    (l.sheet % 128 + (l.gidx % 8) <<< 7 + (l.panel % 32) <<< 10) <<< 144 + (l.glen % 64) <<< 160 + (l.serial % 2 ^ 48) <<< 176

/-- A label's 32 bytes, as one number (R253). -/
def labelNum (l : Label) : Nat := labelBody l + (l.lcrc % 65536) <<< 224

/-- LCRC as it should be: over bytes 0 to 27 and 30 to 31, which are 0. -/
def labelCrc (l : Label) : Nat := crc16 (bytesOf (labelBody l) 28 ++ [0, 0])

/-- LCRC is right. -/
def labelOk (l : Label) : Bool := l.lcrc == labelCrc l

/-- A label with a new LCRC. -/
def withCrc (l : Label) : Label := { l with lcrc := labelCrc l }

/-- The label the Foyer creates for a host granule (R92, R254). -/
def hostLabel (coll data : Nat) : Label :=
  withCrc ⟨Config.guard64 4096 data % 2 ^ 64, 0, coll, false, false, 0, 0, 0, 0, 0, 0⟩

/-- A granule's locator from its label (R253). -/
def labelLoc (l : Label) : Nat := l.serial <<< 16 + l.panel <<< 11 + l.sheet <<< 4 + l.gidx <<< 1 + (if l.raw then 1 else 0)

end Sys2Proof.Machine
end

