-- ==== Sys2Proof/Machine/RegTypes.lean ====
section
/-! DEFINITION. The shape of the register tables: access classes (R8), encodings a field admits (R11, R59), fields and
registers, and the references by which the meanings name a field or an event. -/

namespace Sys2Proof.Machine

/-- The access classes of R8. -/
inductive Acc | ro | rw | rwl | rwf | rwq | w1c | w1s | wo
  deriving DecidableEq, Repr

/-- The values a field admits. A value outside `within` or `oneOf` is a reserved encoding (R11); a value below `atLeast`
is refused with code 8 (R59). -/
inductive Enc
  | any
  | within (lo hi : Nat)
  | atLeast (m : Nat)
  | oneOf (l : List Nat)
  deriving DecidableEq, Repr

/-- One field of a register: bits hi to lo, access class, reset entry, admitted values. -/
structure FieldDef where
  hi : Nat
  lo : Nat
  acc : Acc
  reset : Nat
  enc : Enc
  deriving DecidableEq, Repr

/-- Which page holds a register: each wing's own; the East page, the West page reading it (read-only there); or one
head-wide register that both wings' pages reach. -/
inductive Share | own | east | shared
  deriving DecidableEq, Repr

/-- The two halves of a 64-bit pair (R7). -/
inductive Half | single | lo | hi
  deriving DecidableEq, Repr

/-- Bits hi to lo of the register at an offset of the common page header. -/
structure HBits where
  off : Nat
  hi : Nat
  lo : Nat
  deriving DecidableEq, Repr

/-- One row of a register table. `bank` is the index field of the page that selects the entry the register reaches. -/
structure RegDef where
  off : Nat
  fields : List FieldDef
  share : Share
  bank : Option HBits
  half : Half
  deriving DecidableEq, Repr

/-- A field of a block's page: bits hi to lo of the register at an offset. -/
structure Fld where
  block : Block
  off : Nat
  hi : Nat
  lo : Nat
  deriving DecidableEq, Repr

/-- An event of a block's page: bit n of EVT_STATUS (R53). -/
structure EvRef where
  block : Block
  n : Nat
  deriving DecidableEq, Repr

end Sys2Proof.Machine
end

