-- ==== Sys2Proof/Machine/Events.lean ====
section
/-! DEFINITION. The events each page raises, named as the pages' event tables name them, and each page's EVT_BASE and
EVT_COUNT (R48, R69, R80, R81, R113, R140, R178, R211, R244, R274, R302, R335, R360, R392, R422, R459, R480, R510). -/

namespace Sys2Proof.Machine
namespace Ev

def CHP_BUS_ERROR : EvRef := ⟨.chp, 0⟩
def CHP_FIREWALL : EvRef := ⟨.chp, 1⟩
def CHP_RESET_NOTED : EvRef := ⟨.chp, 2⟩
def CHP_CONFIG : EvRef := ⟨.chp, 3⟩
def FRM_TICK : EvRef := ⟨.frm, 0⟩
def FRM_SLIP : EvRef := ⟨.frm, 1⟩
def FRM_BUILD_LATE : EvRef := ⟨.frm, 2⟩
def FRM_TIMEBASE_LOST : EvRef := ⟨.frm, 3⟩
def FRM_TIMEBASE_REGAINED : EvRef := ⟨.frm, 4⟩
def FRM_LENGTH_CHANGED : EvRef := ⟨.frm, 5⟩
def FRM_PTP_UNLOCKED : EvRef := ⟨.frm, 6⟩
def FRM_CONFIG : EvRef := ⟨.frm, 7⟩
def EVT_WG_STALL : EvRef := ⟨.evt, 0⟩
def EVT_FALLBACK : EvRef := ⟨.evt, 1⟩
def EVT_ROUTE_ERROR : EvRef := ⟨.evt, 2⟩
def EVT_CONFIG : EvRef := ⟨.evt, 3⟩
def PWR_SAG : EvRef := ⟨.pwr, 0⟩
def PWR_THERMAL : EvRef := ⟨.pwr, 1⟩
def PWR_MODE : EvRef := ⟨.pwr, 2⟩
def PWR_CONFIG : EvRef := ⟨.pwr, 3⟩
def FOY_LINK_CHANGE : EvRef := ⟨.foy, 0⟩
def FOY_PI_ERROR : EvRef := ⟨.foy, 1⟩
def FOY_TLS_ALERT : EvRef := ⟨.foy, 2⟩
def FOY_PFC_STORM : EvRef := ⟨.foy, 3⟩
def FOY_DUPLICATE_CID : EvRef := ⟨.foy, 4⟩
def FOY_AUTH_FAIL : EvRef := ⟨.foy, 5⟩
def FOY_CONFIG : EvRef := ⟨.foy, 6⟩
def FOQ_TAG_BOUND : EvRef := ⟨.foq, 0⟩
def FOQ_BOUND_LONG : EvRef := ⟨.foq, 1⟩
def FOQ_COLL_REFUSED : EvRef := ⟨.foq, 2⟩
def FOQ_CTX_EXHAUSTED : EvRef := ⟨.foq, 3⟩
def FOQ_FORWARD_FAIL : EvRef := ⟨.foq, 4⟩
def FOQ_PAUSED : EvRef := ⟨.foq, 5⟩
def FOQ_FUSED_REPLAY : EvRef := ⟨.foq, 6⟩
def FOQ_CONFIG : EvRef := ⟨.foq, 7⟩
def MFT_PROTECTION : EvRef := ⟨.mft, 0⟩
def MFT_AUTH_DROP : EvRef := ⟨.mft, 1⟩
def MFT_CONN_FAILED : EvRef := ⟨.mft, 2⟩
def MFT_WINDOW_CLOSED : EvRef := ⟨.mft, 3⟩
def MFT_STALE_DROP : EvRef := ⟨.mft, 4⟩
def MFT_RNR_EXHAUSTED : EvRef := ⟨.mft, 5⟩
def MFT_CACHE_ERROR : EvRef := ⟨.mft, 6⟩
def MFT_CONFIG : EvRef := ⟨.mft, 7⟩
def VIT_QUOTA_HIGH : EvRef := ⟨.vit, 0⟩
def VIT_OVER_QUOTA : EvRef := ⟨.vit, 1⟩
def VIT_SHRINK_START : EvRef := ⟨.vit, 2⟩
def VIT_SLOT_ECC : EvRef := ⟨.vit, 3⟩
def VIT_RETAINED : EvRef := ⟨.vit, 4⟩
def VIT_MIRROR_NACK : EvRef := ⟨.vit, 5⟩
def VIT_CONFIG : EvRef := ⟨.vit, 6⟩
def ANX_LINK_CHANGE : EvRef := ⟨.anx, 0⟩
def ANX_LINK_RETRY : EvRef := ⟨.anx, 1⟩
def ANX_LINK_RETRAIN : EvRef := ⟨.anx, 2⟩
def ANX_HB_LOST : EvRef := ⟨.anx, 3⟩
def ANX_TAKEOVER_START : EvRef := ⟨.anx, 4⟩
def ANX_TAKEOVER_DONE : EvRef := ⟨.anx, 5⟩
def ANX_PEER_JOINED : EvRef := ⟨.anx, 6⟩
def ANX_GIVEBACK_DONE : EvRef := ⟨.anx, 7⟩
def ANX_ISOLATED : EvRef := ⟨.anx, 8⟩
def ANX_COHERENCE_FAULT : EvRef := ⟨.anx, 9⟩
def ANX_LEASE_FAULT : EvRef := ⟨.anx, 10⟩
def ANX_CONFIG : EvRef := ⟨.anx, 11⟩
def CAT_CKPT_DONE : EvRef := ⟨.cat, 0⟩
def CAT_SEAL_FAIL : EvRef := ⟨.cat, 1⟩
def CAT_JOURNAL_HIGH : EvRef := ⟨.cat, 2⟩
def CAT_EDITION_LIMIT : EvRef := ⟨.cat, 3⟩
def CAT_NS_CMD_DONE : EvRef := ⟨.cat, 4⟩
def CAT_CONFIG : EvRef := ⟨.cat, 5⟩
def CCH_WAY_FENCED : EvRef := ⟨.cch, 0⟩
def CCH_LINE_LOST : EvRef := ⟨.cch, 1⟩
def CCH_CLEAN_DONE : EvRef := ⟨.cch, 2⟩
def CCH_CONFIG : EvRef := ⟨.cch, 3⟩
def RGS_COLLIDED : EvRef := ⟨.rgs, 0⟩
def RGS_COMPARE_FAULT : EvRef := ⟨.rgs, 1⟩
def RGS_REFCOUNT_FAULT : EvRef := ⟨.rgs, 2⟩
def RGS_PINNED : EvRef := ⟨.rgs, 3⟩
def RGS_REPLAY_DONE : EvRef := ⟨.rgs, 4⟩
def RGS_FILTER_SATURATED : EvRef := ⟨.rgs, 5⟩
def RGS_CONFIG : EvRef := ⟨.rgs, 6⟩
def DGE_UNIT_FAILED : EvRef := ⟨.dge, 0⟩
def DGE_SPARE_USED : EvRef := ⟨.dge, 1⟩
def DGE_SPARES_EXHAUSTED : EvRef := ⟨.dge, 2⟩
def DGE_COLL_MISMATCH : EvRef := ⟨.dge, 3⟩
def DGE_KEY_REFUSED : EvRef := ⟨.dge, 4⟩
def DGE_COMPARE_FAULT : EvRef := ⟨.dge, 5⟩
def DGE_MEASURE_REFUSED : EvRef := ⟨.dge, 6⟩
def DGE_CONFIG : EvRef := ⟨.dge, 7⟩
def CDC_UNIT_FAILED : EvRef := ⟨.cdc, 0⟩
def CDC_SPARE_USED : EvRef := ⟨.cdc, 1⟩
def CDC_SPARES_EXHAUSTED : EvRef := ⟨.cdc, 2⟩
def CDC_COLL_MISMATCH : EvRef := ⟨.cdc, 3⟩
def CDC_STREAM_ERROR : EvRef := ⟨.cdc, 4⟩
def CDC_CONFIG : EvRef := ⟨.cdc, 5⟩
def CPH_UNIT_FAILED : EvRef := ⟨.cph, 0⟩
def CPH_SPARE_USED : EvRef := ⟨.cph, 1⟩
def CPH_SPARES_EXHAUSTED : EvRef := ⟨.cph, 2⟩
def CPH_COLL_MISMATCH : EvRef := ⟨.cph, 3⟩
def CPH_KEY_REFUSED : EvRef := ⟨.cph, 4⟩
def CPH_NONCE_EXHAUSTED : EvRef := ⟨.cph, 5⟩
def CPH_KEYS_ERASED : EvRef := ⟨.cph, 6⟩
def CPH_COMPARE_FAULT : EvRef := ⟨.cph, 7⟩
def CPH_CONFIG : EvRef := ⟨.cph, 8⟩
def GAL_REBUILT : EvRef := ⟨.gal, 0⟩
def GAL_REBUILD_FAIL : EvRef := ⟨.gal, 1⟩
def GAL_LOCATED : EvRef := ⟨.gal, 2⟩
def GAL_LABEL_FAULT : EvRef := ⟨.gal, 3⟩
def GAL_RING_FULL : EvRef := ⟨.gal, 4⟩
def GAL_RESYNC_DONE : EvRef := ⟨.gal, 5⟩
def GAL_VERIFY_DONE : EvRef := ⟨.gal, 6⟩
def GAL_PLINTH_REBUILD_DONE : EvRef := ⟨.gal, 7⟩
def GAL_DATA_LOSS : EvRef := ⟨.gal, 8⟩
def GAL_RESHAPE_DONE : EvRef := ⟨.gal, 9⟩
def GAL_CONFIG : EvRef := ⟨.gal, 10⟩
def PLK_LINK_CHANGE : EvRef := ⟨.plk, 0⟩
def PLK_LINK_RETRAIN : EvRef := ⟨.plk, 1⟩
def PLK_BRIDGE_ALERT : EvRef := ⟨.plk, 2⟩
def PLK_CONFIG : EvRef := ⟨.plk, 3⟩
def DSP_PROG_SLOW : EvRef := ⟨.dsp, 0⟩
def DSP_DIE_FAILED : EvRef := ⟨.dsp, 1⟩
def DSP_HOLD : EvRef := ⟨.dsp, 2⟩
def DSP_CONFIG : EvRef := ⟨.dsp, 3⟩
def CUR_FOREGROUND : EvRef := ⟨.cur, 0⟩
def CUR_NORMAL : EvRef := ⟨.cur, 1⟩
def CUR_NO_SPACE : EvRef := ⟨.cur, 2⟩
def CUR_BLOCK_RETIRED : EvRef := ⟨.cur, 3⟩
def CUR_WEAR_MODE : EvRef := ⟨.cur, 4⟩
def CUR_VAULT_READY : EvRef := ⟨.cur, 5⟩
def CUR_VAULT_SHORT : EvRef := ⟨.cur, 6⟩
def CUR_ANCHOR_FAIL : EvRef := ⟨.cur, 7⟩
def CUR_MOUNT_DONE : EvRef := ⟨.cur, 8⟩
def CUR_MEMBER_CHANGE : EvRef := ⟨.cur, 9⟩
def CUR_CONFIG : EvRef := ⟨.cur, 10⟩
def CSV_SCRUB_PASS : EvRef := ⟨.csv, 0⟩
def CSV_SCRUB_LAG : EvRef := ⟨.csv, 1⟩
def CSV_REWRITE_FAIL : EvRef := ⟨.csv, 2⟩
def CSV_CONFIG : EvRef := ⟨.csv, 3⟩
def RPL_SHIP_DONE : EvRef := ⟨.rpl, 0⟩
def RPL_SHIP_FAIL : EvRef := ⟨.rpl, 1⟩
def RPL_SYNC_BROKEN : EvRef := ⟨.rpl, 2⟩
def RPL_SYNC_RESTORED : EvRef := ⟨.rpl, 3⟩
def RPL_LOCK_REFUSED : EvRef := ⟨.rpl, 4⟩
def RPL_PROMOTED : EvRef := ⟨.rpl, 5⟩
def RPL_CONFIG : EvRef := ⟨.rpl, 6⟩
def DMA_ABORTED : EvRef := ⟨.dma, 0⟩
def DMA_CONFIG : EvRef := ⟨.dma, 1⟩
def CPU_CORE_FAILED : EvRef := ⟨.cpu, 0⟩
def CPU_CORE_READY : EvRef := ⟨.cpu, 1⟩
def CPU_POST_REFUSED : EvRef := ⟨.cpu, 2⟩
def CPU_CQ_FULL : EvRef := ⟨.cpu, 3⟩
def CPU_CONFIG : EvRef := ⟨.cpu, 4⟩
def MEM_CE_THRESH : EvRef := ⟨.mem, 0⟩
def MEM_UE : EvRef := ⟨.mem, 1⟩
def MEM_PAGE_RETIRED : EvRef := ⟨.mem, 2⟩
def MEM_RETIRE_FULL : EvRef := ⟨.mem, 3⟩
def MEM_MIGRATE_DONE : EvRef := ⟨.mem, 4⟩
def MEM_CHANNEL_FENCED : EvRef := ⟨.mem, 5⟩
def MEM_SCRUB_PASS : EvRef := ⟨.mem, 6⟩
def MEM_CONFIG : EvRef := ⟨.mem, 7⟩
def HBM_CE_THRESH : EvRef := ⟨.hbm, 0⟩
def HBM_UE : EvRef := ⟨.hbm, 1⟩
def HBM_PCH_FENCED : EvRef := ⟨.hbm, 2⟩
def HBM_CONFIG : EvRef := ⟨.hbm, 3⟩
def DOC_RELEASED : EvRef := ⟨.doc, 0⟩
def DOC_RECOVERY : EvRef := ⟨.doc, 1⟩
def DOC_CONFIG : EvRef := ⟨.doc, 2⟩
def KEY_SLOT_CHANGED : EvRef := ⟨.key, 0⟩
def KEY_BIND_CHANGED : EvRef := ⟨.key, 1⟩
def KEY_ERASED : EvRef := ⟨.key, 2⟩
def KEY_CONFIG : EvRef := ⟨.key, 3⟩
def MSR_EXTENDED : EvRef := ⟨.msr, 0⟩
def MSR_CONFIG : EvRef := ⟨.msr, 1⟩
def PRV_CLEARED : EvRef := ⟨.prv, 0⟩
def PRV_LOST : EvRef := ⟨.prv, 1⟩
def PRV_BUFFER_HIGH : EvRef := ⟨.prv, 2⟩
def PRV_CONFIG : EvRef := ⟨.prv, 3⟩
def ARC_PROG_FAIL : EvRef := ⟨.arc, 0⟩
def ARC_ERASE_FAIL : EvRef := ⟨.arc, 1⟩
def ARC_STOPPED : EvRef := ⟨.arc, 2⟩
def ARC_XO_REFUSED : EvRef := ⟨.arc, 3⟩
def ARC_CONFIG : EvRef := ⟨.arc, 4⟩
def UPD_WRITE_DONE : EvRef := ⟨.upd, 0⟩
def UPD_WRITE_FAIL : EvRef := ⟨.upd, 1⟩
def UPD_CONFIRMED : EvRef := ⟨.upd, 2⟩
def UPD_TRIAL_EXPIRED : EvRef := ⟨.upd, 3⟩
def UPD_FLOOR_RAISED : EvRef := ⟨.upd, 4⟩
def UPD_RECOVERED : EvRef := ⟨.upd, 5⟩
def UPD_CONFIG : EvRef := ⟨.upd, 6⟩
def ALM_ALARM0 : EvRef := ⟨.alm, 0⟩
def ALM_ALARM1 : EvRef := ⟨.alm, 1⟩
def ALM_ALARM2 : EvRef := ⟨.alm, 2⟩
def ALM_ALARM3 : EvRef := ⟨.alm, 3⟩
def ALM_ALARM4 : EvRef := ⟨.alm, 4⟩
def ALM_ALARM5 : EvRef := ⟨.alm, 5⟩
def ALM_ALARM6 : EvRef := ⟨.alm, 6⟩
def ALM_ALARM7 : EvRef := ⟨.alm, 7⟩
def ALM_ALARM8 : EvRef := ⟨.alm, 8⟩
def ALM_ALARM9 : EvRef := ⟨.alm, 9⟩
def ALM_ALARM10 : EvRef := ⟨.alm, 10⟩
def ALM_ALARM11 : EvRef := ⟨.alm, 11⟩
def ALM_CONFIG : EvRef := ⟨.alm, 12⟩
def RSV_BUS_TRIP : EvRef := ⟨.rsv, 0⟩
def RSV_MAINS_LOST : EvRef := ⟨.rsv, 1⟩
def RSV_MAINS_BACK : EvRef := ⟨.rsv, 2⟩
def RSV_BANK_LOW : EvRef := ⟨.rsv, 3⟩
def RSV_LIMP : EvRef := ⟨.rsv, 4⟩
def RSV_FAULT : EvRef := ⟨.rsv, 5⟩
def RSV_CHARGED : EvRef := ⟨.rsv, 6⟩
def RSV_DUMP_DONE : EvRef := ⟨.rsv, 7⟩
def RSV_DUMP_FAIL : EvRef := ⟨.rsv, 8⟩
def RSV_HEALTH_DONE : EvRef := ⟨.rsv, 9⟩
def RSV_BANK_WEAK : EvRef := ⟨.rsv, 10⟩
def RSV_LATE : EvRef := ⟨.rsv, 11⟩
def RSV_CONFIG : EvRef := ⟨.rsv, 12⟩
def WDG_EXPIRED0 : EvRef := ⟨.wdg, 0⟩
def WDG_EXPIRED1 : EvRef := ⟨.wdg, 1⟩
def WDG_EXPIRED2 : EvRef := ⟨.wdg, 2⟩
def WDG_WARN0 : EvRef := ⟨.wdg, 3⟩
def WDG_WARN1 : EvRef := ⟨.wdg, 4⟩
def WDG_WARN2 : EvRef := ⟨.wdg, 5⟩
def WDG_CONFIG : EvRef := ⟨.wdg, 6⟩

end Ev

/-- CAP.EVT_COUNT: how many events the block's page raises. -/
def evtCount : Block → Nat
  | .chp => 4
  | .frm => 8
  | .evt => 4
  | .pwr => 4
  | .foy => 7
  | .foq => 8
  | .mft => 8
  | .vit => 7
  | .anx => 12
  | .cat => 6
  | .cch => 4
  | .rgs => 7
  | .dge => 8
  | .cdc => 6
  | .cph => 9
  | .gal => 11
  | .plk => 4
  | .dsp => 4
  | .cur => 11
  | .csv => 4
  | .rpl => 7
  | .dma => 2
  | .cpu => 5
  | .mem => 8
  | .hbm => 4
  | .doc => 3
  | .key => 4
  | .msr => 2
  | .prv => 4
  | .arc => 5
  | .upd => 7
  | .alm => 13
  | .rsv => 13
  | .wdg => 7

/-- The bit of the page's configuration event (R59): the last of its events. -/
def configBit (b : Block) : Nat := evtCount b - 1

/-- EVT_BASE: the event number of bit 0 of a page (R69). -/
def evtBase (p : Page) : Nat :=
  match p.block, p.wing with
  | .chp, .east => 0
  | .chp, .west => 4
  | .frm, .east => 8
  | .frm, .west => 16
  | .evt, .east => 32
  | .evt, .west => 40
  | .pwr, .east => 24
  | .pwr, .west => 28
  | .foy, .east => 64 + 7 * p.inst
  | .foy, .west => 128 + 7 * p.inst
  | .foq, .east => 120
  | .foq, .west => 184
  | .mft, .east => 192
  | .mft, .west => 208
  | .vit, .east => 224
  | .vit, .west => 240
  | .anx, .east => 256
  | .anx, .west => 272
  | .cat, .east => 288
  | .cat, .west => 296
  | .cch, .east => 304
  | .cch, .west => 312
  | .rgs, .east => 320
  | .rgs, .west => 336
  | .dge, .east => 352
  | .dge, .west => 368
  | .cdc, .east => 384
  | .cdc, .west => 400
  | .cph, .east => 416
  | .cph, .west => 432
  | .gal, .east => 448
  | .gal, .west => 464
  | .plk, .east => 480 + 4 * p.inst
  | .plk, .west => 608 + 4 * p.inst
  | .dsp, .east => 736
  | .dsp, .west => 744
  | .cur, .east => 752
  | .cur, .west => 768
  | .csv, .east => 784
  | .csv, .west => 792
  | .rpl, .east => 800
  | .rpl, .west => 816
  | .dma, .east => 880
  | .dma, .west => 888
  | .cpu, .east => 832
  | .cpu, .west => 840
  | .mem, .east => 848
  | .mem, .west => 856
  | .hbm, .east => 864
  | .hbm, .west => 872
  | .doc, _ => 896
  | .key, _ => 904
  | .msr, _ => 912
  | .prv, _ => 944
  | .arc, _ => 936
  | .upd, _ => 952
  | .alm, _ => 920
  | .rsv, _ => 960
  | .wdg, _ => 48

end Sys2Proof.Machine
end

