-- ==== Sys2Proof/Machine/PageMap.lean ====
section
/-! DEFINITION. The page map of R50 and R51: block codes, windows and instance counts. -/

namespace Sys2Proof.Machine

/-- The wing's number in a page address (R50). -/
def wingNum : Wing → Nat
  | .east => 0
  | .west => 1

/-- The other wing. -/
def otherWing : Wing → Wing
  | .east => .west
  | .west => .east

/-- The block code of a page address (R51). -/
def blockCode : Block → Nat
  | .chp => 0x01
  | .frm => 0x02
  | .evt => 0x03
  | .pwr => 0x04
  | .foy => 0x08
  | .foq => 0x09
  | .mft => 0x0a
  | .vit => 0x10
  | .anx => 0x11
  | .cat => 0x18
  | .cch => 0x19
  | .rgs => 0x1a
  | .dge => 0x20
  | .cdc => 0x21
  | .cph => 0x22
  | .gal => 0x28
  | .plk => 0x30
  | .dsp => 0x31
  | .cur => 0x32
  | .csv => 0x33
  | .rpl => 0x38
  | .dma => 0x3c
  | .cpu => 0x3d
  | .mem => 0x3e
  | .hbm => 0x3f
  | .doc => 0x01
  | .key => 0x02
  | .msr => 0x03
  | .prv => 0x04
  | .arc => 0x05
  | .upd => 0x06
  | .alm => 0x07
  | .rsv => 0x08
  | .wdg => 0x09

/-- Whether the block's page lies in the Docent window (R14, R51). -/
def isDocent : Block → Bool
  | .doc => true
  | .key => true
  | .msr => true
  | .prv => true
  | .arc => true
  | .upd => true
  | .alm => true
  | .rsv => true
  | .wdg => true
  | _ => false

/-- A number of its own for each block, for the register file's keys. -/
def blockNum : Block → Nat
  | .chp => 0
  | .frm => 1
  | .evt => 2
  | .pwr => 3
  | .foy => 4
  | .foq => 5
  | .mft => 6
  | .vit => 7
  | .anx => 8
  | .cat => 9
  | .cch => 10
  | .rgs => 11
  | .dge => 12
  | .cdc => 13
  | .cph => 14
  | .gal => 15
  | .plk => 16
  | .dsp => 17
  | .cur => 18
  | .csv => 19
  | .rpl => 20
  | .dma => 21
  | .cpu => 22
  | .mem => 23
  | .hbm => 24
  | .doc => 25
  | .key => 26
  | .msr => 27
  | .prv => 28
  | .arc => 29
  | .upd => 30
  | .alm => 31
  | .rsv => 32
  | .wdg => 33

/-- Instances of the block per wing (R51). -/
def blockInstances : Block → Nat
  | .foy => 8
  | .plk => 32
  | _ => 1

/-- The block an array-window code names (R51). -/
def blockOfArray : Nat → Option Block
  | 0x01 => some .chp
  | 0x02 => some .frm
  | 0x03 => some .evt
  | 0x04 => some .pwr
  | 0x08 => some .foy
  | 0x09 => some .foq
  | 0x0a => some .mft
  | 0x10 => some .vit
  | 0x11 => some .anx
  | 0x18 => some .cat
  | 0x19 => some .cch
  | 0x1a => some .rgs
  | 0x20 => some .dge
  | 0x21 => some .cdc
  | 0x22 => some .cph
  | 0x28 => some .gal
  | 0x30 => some .plk
  | 0x31 => some .dsp
  | 0x32 => some .cur
  | 0x33 => some .csv
  | 0x38 => some .rpl
  | 0x3c => some .dma
  | 0x3d => some .cpu
  | 0x3e => some .mem
  | 0x3f => some .hbm
  | _ => none

/-- The block a Docent-window code names (R51). -/
def blockOfDocent : Nat → Option Block
  | 0x01 => some .doc
  | 0x02 => some .key
  | 0x03 => some .msr
  | 0x04 => some .prv
  | 0x05 => some .arc
  | 0x06 => some .upd
  | 0x07 => some .alm
  | 0x08 => some .rsv
  | 0x09 => some .wdg
  | _ => none

end Sys2Proof.Machine
end

