-- ==== Sys2Proof/Machine/RegNames.lean ====
section
/-! DEFINITION. The names of the registers' fields, as the spec's register tables give them: for each field its block,
the offset of its register in the page (R50, R53) and its bits (R3). One definition per field, named
REGISTER_FIELD; the header fields (R53) are without a block. -/

namespace Sys2Proof.Machine.Reg

def ID_BLOCK : HBits := ⟨0x000, 31, 26⟩
def ID_DWIN : HBits := ⟨0x000, 25, 25⟩
def ID_WING : HBits := ⟨0x000, 24, 24⟩
def ID_INSTANCE : HBits := ⟨0x000, 20, 16⟩
def ID_MAJOR : HBits := ⟨0x000, 15, 8⟩
def ID_MINOR : HBits := ⟨0x000, 7, 0⟩
def CAP_EVT_COUNT : HBits := ⟨0x004, 31, 24⟩
def CAP_BLOCK_CAP : HBits := ⟨0x004, 23, 0⟩
def CTRL_FENCE : HBits := ⟨0x008, 3, 3⟩
def CTRL_BLOCK_RESET : HBits := ⟨0x008, 2, 2⟩
def CTRL_QUIESCE : HBits := ⟨0x008, 1, 1⟩
def CTRL_ENABLE : HBits := ⟨0x008, 0, 0⟩
def STATUS_FENCED : HBits := ⟨0x00c, 4, 4⟩
def STATUS_CFG_LOCKED : HBits := ⟨0x00c, 3, 3⟩
def STATUS_FAULT : HBits := ⟨0x00c, 2, 2⟩
def STATUS_QUIESCED : HBits := ⟨0x00c, 1, 1⟩
def STATUS_RUNNING : HBits := ⟨0x00c, 0, 0⟩
def EVT_STATUS_EVENTS : HBits := ⟨0x010, 31, 0⟩
def EVT_ENABLE_EVENTS : HBits := ⟨0x014, 31, 0⟩
def EVT_FORCE_EVENTS : HBits := ⟨0x018, 31, 0⟩
def EVT_BASE_BASE : HBits := ⟨0x01c, 9, 0⟩
def ERR_INFO_VALID : HBits := ⟨0x020, 31, 31⟩
def ERR_INFO_COUNT : HBits := ⟨0x020, 30, 24⟩
def ERR_INFO_SOURCE : HBits := ⟨0x020, 23, 16⟩
def ERR_INFO_WRITE : HBits := ⟨0x020, 15, 15⟩
def ERR_INFO_CODE : HBits := ⟨0x020, 3, 0⟩
def ERR_ADDR_LO_ADDR : HBits := ⟨0x024, 31, 0⟩
def ERR_ADDR_HI_ADDR : HBits := ⟨0x028, 15, 0⟩
def RUNG_IN_TRANSIT : HBits := ⟨0x030, 31, 31⟩
def RUNG_CURRENT : HBits := ⟨0x030, 18, 16⟩
def RUNG_CAUSE : HBits := ⟨0x030, 15, 8⟩
def RUNG_REQUEST : HBits := ⟨0x030, 2, 0⟩
def OWNER_DOCENT_HELD : HBits := ⟨0x034, 31, 31⟩
def OWNER_ENFORCE : HBits := ⟨0x034, 30, 30⟩
def OWNER_HART : HBits := ⟨0x034, 7, 0⟩
def SCRATCH_SCRATCH : HBits := ⟨0x038, 31, 0⟩
def COMMIT_LAST_FRAME : HBits := ⟨0x03c, 31, 16⟩
def COMMIT_GO : HBits := ⟨0x03c, 0, 0⟩

/-! CHP page, rules R81 -/
def CHP_PART_PART : Fld := ⟨.chp, 0x040, 15, 0⟩
def CHP_STEPPING_MAJOR : Fld := ⟨.chp, 0x044, 15, 8⟩
def CHP_STEPPING_MINOR : Fld := ⟨.chp, 0x044, 7, 0⟩
def CHP_WING_WING : Fld := ⟨.chp, 0x048, 0, 0⟩
def CHP_STRAPS_STRAPS : Fld := ⟨.chp, 0x04c, 15, 0⟩
def CHP_UID_LO_UID : Fld := ⟨.chp, 0x050, 31, 0⟩
def CHP_UID_HI_UID : Fld := ⟨.chp, 0x054, 31, 0⟩
def CHP_LIFECYCLE_DEBUG_OPEN : Fld := ⟨.chp, 0x058, 31, 31⟩
def CHP_LIFECYCLE_STATE : Fld := ⟨.chp, 0x058, 2, 0⟩
def CHP_RESET_CAUSE_ALARM : Fld := ⟨.chp, 0x068, 5, 5⟩
def CHP_RESET_CAUSE_BROWN_OUT : Fld := ⟨.chp, 0x068, 4, 4⟩
def CHP_RESET_CAUSE_DOCENT : Fld := ⟨.chp, 0x068, 3, 3⟩
def CHP_RESET_CAUSE_WATCHDOG : Fld := ⟨.chp, 0x068, 2, 2⟩
def CHP_RESET_CAUSE_EXTERNAL : Fld := ⟨.chp, 0x068, 1, 1⟩
def CHP_RESET_CAUSE_POWER_ON : Fld := ⟨.chp, 0x068, 0, 0⟩
def CHP_BUS_ERR_INFO_VALID : Fld := ⟨.chp, 0x05c, 31, 31⟩
def CHP_BUS_ERR_INFO_COUNT : Fld := ⟨.chp, 0x05c, 30, 24⟩
def CHP_BUS_ERR_INFO_SOURCE : Fld := ⟨.chp, 0x05c, 23, 16⟩
def CHP_BUS_ERR_INFO_WRITE : Fld := ⟨.chp, 0x05c, 15, 15⟩
def CHP_BUS_ERR_INFO_CODE : Fld := ⟨.chp, 0x05c, 3, 0⟩
def CHP_BUS_ERR_ADDR_LO_ADDR : Fld := ⟨.chp, 0x060, 31, 0⟩
def CHP_BUS_ERR_ADDR_HI_ADDR : Fld := ⟨.chp, 0x064, 15, 0⟩

/-! FRM page, rules R49 -/
def FRM_CTRL_CLR_COUNTS : Fld := ⟨.frm, 0x040, 12, 12⟩
def FRM_CTRL_PTP_EN : Fld := ⟨.frm, 0x040, 8, 8⟩
def FRM_CTRL_LENGTH : Fld := ⟨.frm, 0x040, 5, 4⟩
def FRM_CTRL_ROLE : Fld := ⟨.frm, 0x040, 1, 0⟩
def FRM_LENGTH_SET_COUNTDOWN : Fld := ⟨.frm, 0x044, 19, 16⟩
def FRM_LENGTH_SET_CHANGE : Fld := ⟨.frm, 0x044, 8, 8⟩
def FRM_LENGTH_SET_NEXT_LENGTH : Fld := ⟨.frm, 0x044, 1, 0⟩
def FRM_LOCK_PHASE_ERR : Fld := ⟨.frm, 0x048, 31, 16⟩
def FRM_LOCK_RUN : Fld := ⟨.frm, 0x048, 11, 8⟩
def FRM_LOCK_MISSED : Fld := ⟨.frm, 0x048, 7, 4⟩
def FRM_LOCK_STATE : Fld := ⟨.frm, 0x048, 1, 0⟩
def FRM_SLOT_SLOT_NS : Fld := ⟨.frm, 0x04c, 24, 16⟩
def FRM_SLOT_SLOT : Fld := ⟨.frm, 0x04c, 4, 0⟩
def FRM_FRAME_LO_FRAME : Fld := ⟨.frm, 0x050, 31, 0⟩
def FRM_FRAME_HI_FRAME : Fld := ⟨.frm, 0x054, 15, 0⟩
def FRM_WIRE_WIRE_COUNT : Fld := ⟨.frm, 0x058, 31, 16⟩
def FRM_WIRE_WIRE_OFFSET : Fld := ⟨.frm, 0x058, 15, 0⟩
def FRM_TRIM_MAX_TRIM : Fld := ⟨.frm, 0x05c, 5, 0⟩
def FRM_SLIP_TICK_LOST : Fld := ⟨.frm, 0x060, 31, 24⟩
def FRM_SLIP_TICK_COUNT : Fld := ⟨.frm, 0x060, 23, 0⟩
def FRM_SLIP_BUILD_LOST : Fld := ⟨.frm, 0x064, 31, 24⟩
def FRM_SLIP_BUILD_COUNT : Fld := ⟨.frm, 0x064, 23, 0⟩
def FRM_SLIP_WORK_LOST : Fld := ⟨.frm, 0x068, 31, 24⟩
def FRM_SLIP_WORK_COUNT : Fld := ⟨.frm, 0x068, 23, 0⟩
def FRM_SLIP_THRESH_THRESH : Fld := ⟨.frm, 0x06c, 10, 0⟩
def FRM_PTP_OFFSET_OFFSET : Fld := ⟨.frm, 0x070, 31, 0⟩
def FRM_PTP_CTRL_PTP_LOCKED : Fld := ⟨.frm, 0x074, 31, 31⟩
def FRM_PTP_CTRL_LOCK_WINDOW : Fld := ⟨.frm, 0x074, 23, 16⟩
def FRM_PTP_CTRL_MAX_SLEW : Fld := ⟨.frm, 0x074, 11, 0⟩
def FRM_TIME_LO_TIME : Fld := ⟨.frm, 0x078, 31, 0⟩
def FRM_TIME_HI_TIME : Fld := ⟨.frm, 0x07c, 31, 0⟩

/-! EVT page, rules R80 -/
def EVT_CTRL_FALLBACK_HART : Fld := ⟨.evt, 0x040, 5, 0⟩
def EVT_ROUTE_INDEX_AUTOINC : Fld := ⟨.evt, 0x044, 16, 16⟩
def EVT_ROUTE_INDEX_INDEX : Fld := ⟨.evt, 0x044, 9, 0⟩
def EVT_ROUTE_DATA_DOC_COPY : Fld := ⟨.evt, 0x048, 31, 31⟩
def EVT_ROUTE_DATA_LOCKED : Fld := ⟨.evt, 0x048, 30, 30⟩
def EVT_ROUTE_DATA_KIND : Fld := ⟨.evt, 0x048, 29, 28⟩
def EVT_ROUTE_DATA_RESPONDER : Fld := ⟨.evt, 0x048, 27, 24⟩
def EVT_ROUTE_DATA_MLEVEL : Fld := ⟨.evt, 0x048, 22, 22⟩
def EVT_ROUTE_DATA_HART : Fld := ⟨.evt, 0x048, 21, 16⟩
def EVT_ROUTE_DATA_IDENTITY : Fld := ⟨.evt, 0x048, 10, 0⟩
def EVT_SW_RAISE_N : Fld := ⟨.evt, 0x04c, 4, 0⟩
def EVT_SW_STATUS_EVENTS : Fld := ⟨.evt, 0x050, 31, 0⟩
def EVT_SW_ENABLE_EVENTS : Fld := ⟨.evt, 0x054, 31, 0⟩
def EVT_WG_INDEX_GROUP : Fld := ⟨.evt, 0x058, 5, 0⟩
def EVT_WG_MEMBERS_LO_HARTS : Fld := ⟨.evt, 0x05c, 31, 0⟩
def EVT_WG_MEMBERS_HI_HARTS : Fld := ⟨.evt, 0x060, 19, 0⟩
def EVT_WG_TIMEOUT_MICROS : Fld := ⟨.evt, 0x064, 19, 0⟩
def EVT_WG_RESCUE_VALID : Fld := ⟨.evt, 0x068, 31, 31⟩
def EVT_WG_RESCUE_IDENTITY : Fld := ⟨.evt, 0x068, 26, 16⟩
def EVT_WG_RESCUE_HART : Fld := ⟨.evt, 0x068, 5, 0⟩
def EVT_WG_STATE_STALLED : Fld := ⟨.evt, 0x06c, 31, 31⟩
def EVT_WG_STATE_WAITING : Fld := ⟨.evt, 0x06c, 25, 20⟩
def EVT_WG_STATE_QUIET_MICROS : Fld := ⟨.evt, 0x06c, 19, 0⟩
def EVT_WG_WAKE_GROUP : Fld := ⟨.evt, 0x070, 5, 0⟩
def EVT_WG_STALLED_LO_GROUPS : Fld := ⟨.evt, 0x074, 31, 0⟩
def EVT_WG_STALLED_HI_GROUPS : Fld := ⟨.evt, 0x078, 31, 0⟩
def EVT_FALLBACK_COUNT_COUNT : Fld := ⟨.evt, 0x07c, 31, 0⟩

/-! PWR page, rules R481 -/
def PWR_MODE_IN_TRANSIT : Fld := ⟨.pwr, 0x040, 31, 31⟩
def PWR_MODE_CMD : Fld := ⟨.pwr, 0x040, 9, 8⟩
def PWR_MODE_MODE : Fld := ⟨.pwr, 0x040, 1, 0⟩
def PWR_IDLE_GATE_NS : Fld := ⟨.pwr, 0x044, 31, 16⟩
def PWR_IDLE_RETAIN_US : Fld := ⟨.pwr, 0x044, 15, 0⟩
def PWR_CORE_INDEX_CORE : Fld := ⟨.pwr, 0x048, 4, 0⟩
def PWR_CORE_RUNG_IN_TRANSIT : Fld := ⟨.pwr, 0x04c, 31, 31⟩
def PWR_CORE_RUNG_CURRENT : Fld := ⟨.pwr, 0x04c, 18, 16⟩
def PWR_CORE_RUNG_CAUSE : Fld := ⟨.pwr, 0x04c, 15, 8⟩
def PWR_CORE_RUNG_REQUEST : Fld := ⟨.pwr, 0x04c, 2, 0⟩
def PWR_WAKE_FOY_SIGNAL : Fld := ⟨.pwr, 0x050, 7, 0⟩
def PWR_DROOP_RECOVER_MS : Fld := ⟨.pwr, 0x054, 15, 8⟩
def PWR_DROOP_OPP_EN : Fld := ⟨.pwr, 0x054, 1, 1⟩
def PWR_DROOP_AVS_EN : Fld := ⟨.pwr, 0x054, 0, 0⟩
def PWR_AVS_WINDOW_US : Fld := ⟨.pwr, 0x058, 31, 16⟩
def PWR_AVS_MAX_MV : Fld := ⟨.pwr, 0x058, 15, 8⟩
def PWR_AVS_STEP_MV : Fld := ⟨.pwr, 0x058, 7, 0⟩
def PWR_OPP_FLOOR : Fld := ⟨.pwr, 0x05c, 25, 24⟩
def PWR_OPP_MESH : Fld := ⟨.pwr, 0x05c, 9, 8⟩
def PWR_OPP_ENG : Fld := ⟨.pwr, 0x05c, 5, 4⟩
def PWR_OPP_CORE : Fld := ⟨.pwr, 0x05c, 1, 0⟩
def PWR_STRETCH_CORE_PPM : Fld := ⟨.pwr, 0x060, 31, 16⟩
def PWR_STRETCH_ENG_MESH_PPM : Fld := ⟨.pwr, 0x060, 15, 0⟩
def PWR_TEMP_HBM_MAX_C : Fld := ⟨.pwr, 0x064, 31, 24⟩
def PWR_TEMP_DIE_MAX_C : Fld := ⟨.pwr, 0x064, 23, 16⟩
def PWR_TEMP_SENSOR : Fld := ⟨.pwr, 0x064, 4, 0⟩
def PWR_THERM_HBM_THROTTLE_C : Fld := ⟨.pwr, 0x068, 23, 16⟩
def PWR_THERM_THROTTLE_C : Fld := ⟨.pwr, 0x068, 15, 8⟩
def PWR_THERM_WARN_C : Fld := ⟨.pwr, 0x068, 7, 0⟩
def PWR_CNT_SAG_COUNT : Fld := ⟨.pwr, 0x06c, 31, 0⟩

/-! FOY page, rules R114 -/
def FOY_PORT_MODE_LINK_EN : Fld := ⟨.foy, 0x040, 11, 8⟩
def FOY_PORT_MODE_AN_EN : Fld := ⟨.foy, 0x040, 4, 4⟩
def FOY_PORT_MODE_LOOPBACK : Fld := ⟨.foy, 0x040, 3, 2⟩
def FOY_PORT_MODE_BREAKOUT : Fld := ⟨.foy, 0x040, 1, 0⟩
def FOY_LINK_STATUS_FEC_DEGRADED : Fld := ⟨.foy, 0x044, 31, 28⟩
def FOY_LINK_STATUS_TRAINING : Fld := ⟨.foy, 0x044, 15, 12⟩
def FOY_LINK_STATUS_UP : Fld := ⟨.foy, 0x044, 3, 0⟩
def FOY_PFC_STORM_MS : Fld := ⟨.foy, 0x048, 31, 24⟩
def FOY_PFC_PFC_EN : Fld := ⟨.foy, 0x048, 23, 16⟩
def FOY_PFC_PRIO_MFT : Fld := ⟨.foy, 0x048, 10, 8⟩
def FOY_PFC_PRIO_NVME : Fld := ⟨.foy, 0x048, 2, 0⟩
def FOY_ECN_CNP_EN : Fld := ⟨.foy, 0x04c, 16, 16⟩
def FOY_ECN_RATE_CUT : Fld := ⟨.foy, 0x04c, 15, 8⟩
def FOY_ECN_RECOVER_US : Fld := ⟨.foy, 0x04c, 7, 0⟩
def FOY_MTU_MTU : Fld := ⟨.foy, 0x050, 13, 0⟩
def FOY_TS_PTP_TS_EN : Fld := ⟨.foy, 0x054, 0, 0⟩
def FOY_CNT_BAD_COUNT : Fld := ⟨.foy, 0x058, 31, 0⟩
def FOY_CNT_PI_COUNT : Fld := ⟨.foy, 0x05c, 31, 0⟩
def FOY_CNT_CID_COUNT : Fld := ⟨.foy, 0x060, 31, 0⟩

/-! FOQ page, rules R116 -/
def FOQ_CTRL_RESUME : Fld := ⟨.foq, 0x040, 8, 8⟩
def FOQ_CTRL_CREDITS_EN : Fld := ⟨.foq, 0x040, 0, 0⟩
def FOQ_FETCH_PAUSED : Fld := ⟨.foq, 0x044, 31, 31⟩
def FOQ_FETCH_ENGINE_TAGS : Fld := ⟨.foq, 0x044, 2, 2⟩
def FOQ_FETCH_DIE_OPS : Fld := ⟨.foq, 0x044, 1, 1⟩
def FOQ_FETCH_HOST_TAGS : Fld := ⟨.foq, 0x044, 0, 0⟩
def FOQ_TAGS_HIGH_WATER : Fld := ⟨.foq, 0x048, 31, 16⟩
def FOQ_TAGS_IN_USE : Fld := ⟨.foq, 0x048, 15, 0⟩
def FOQ_BOUND_HYST_HYST : Fld := ⟨.foq, 0x04c, 11, 0⟩
def FOQ_STALL_FRAMES_COUNT : Fld := ⟨.foq, 0x050, 31, 0⟩
def FOQ_STALL_THRESH_FRAMES : Fld := ⟨.foq, 0x054, 15, 0⟩
def FOQ_CTX_INDEX_INDEX : Fld := ⟨.foq, 0x058, 14, 0⟩
def FOQ_CTX_BIND_TYPE : Fld := ⟨.foq, 0x05c, 31, 30⟩
def FOQ_CTX_BIND_DISCOVERY : Fld := ⟨.foq, 0x05c, 29, 29⟩
def FOQ_CTX_BIND_CRED_SLOT : Fld := ⟨.foq, 0x05c, 12, 0⟩
def FOQ_CTX_STATE_AUTHENTICATED : Fld := ⟨.foq, 0x060, 31, 31⟩
def FOQ_CTX_STATE_TLS : Fld := ⟨.foq, 0x060, 30, 30⟩
def FOQ_CTX_STATE_COLL : Fld := ⟨.foq, 0x060, 27, 16⟩
def FOQ_CTX_STATE_INFLIGHT : Fld := ⟨.foq, 0x060, 15, 0⟩
def FOQ_COLL_INDEX_INDEX : Fld := ⟨.foq, 0x064, 11, 0⟩
def FOQ_COLL_RATE_CREDIT : Fld := ⟨.foq, 0x068, 15, 0⟩
def FOQ_COLL_BURST_ELASTIC : Fld := ⟨.foq, 0x06c, 31, 31⟩
def FOQ_COLL_BURST_BURST : Fld := ⟨.foq, 0x06c, 19, 0⟩
def FOQ_COLL_BANK_BANK : Fld := ⟨.foq, 0x070, 23, 0⟩
def FOQ_POOL_MAX : Fld := ⟨.foq, 0x074, 31, 16⟩
def FOQ_POOL_LEVEL : Fld := ⟨.foq, 0x074, 15, 0⟩
def FOQ_FUSED_RECORDS : Fld := ⟨.foq, 0x078, 31, 16⟩
def FOQ_FUSED_HOLD_MS : Fld := ⟨.foq, 0x078, 15, 0⟩

/-! MFT page, rules R141 -/
def MFT_CTRL_DSCP : Fld := ⟨.mft, 0x040, 13, 8⟩
def MFT_CTRL_ACCEPT : Fld := ⟨.mft, 0x040, 0, 0⟩
def MFT_NODE_NODE_ID : Fld := ⟨.mft, 0x044, 13, 0⟩
def MFT_UDP_PORT : Fld := ⟨.mft, 0x048, 15, 0⟩
def MFT_CC_MAX_WIN : Fld := ⟨.mft, 0x04c, 31, 19⟩
def MFT_CC_INIT_WIN : Fld := ⟨.mft, 0x04c, 15, 4⟩
def MFT_CC_AI_STEP : Fld := ⟨.mft, 0x04c, 3, 0⟩
def MFT_CC_MD_MD_LOSS : Fld := ⟨.mft, 0x050, 23, 16⟩
def MFT_CC_MD_MD_ECN : Fld := ⟨.mft, 0x050, 15, 8⟩
def MFT_CC_MD_MIN_WIN : Fld := ⟨.mft, 0x050, 7, 0⟩
def MFT_TIMER_RTO_MAX : Fld := ⟨.mft, 0x054, 31, 16⟩
def MFT_TIMER_RTO_MIN : Fld := ⟨.mft, 0x054, 15, 0⟩
def MFT_RETRY_RNR_DELAY : Fld := ⟨.mft, 0x058, 31, 24⟩
def MFT_RETRY_RNR_MAX : Fld := ⟨.mft, 0x058, 19, 16⟩
def MFT_RETRY_RETRY_MAX : Fld := ⟨.mft, 0x058, 3, 0⟩
def MFT_ACK_ACK_DELAY : Fld := ⟨.mft, 0x05c, 15, 8⟩
def MFT_ACK_ACK_EVERY : Fld := ⟨.mft, 0x05c, 7, 0⟩
def MFT_CTX_INDEX_INDEX : Fld := ⟨.mft, 0x060, 14, 0⟩
def MFT_CTX_PEER_NODE : Fld := ⟨.mft, 0x064, 13, 0⟩
def MFT_CTX_CONN_REMOTE_CONN : Fld := ⟨.mft, 0x068, 23, 0⟩
def MFT_CTX_PATH_REMOTE_ADDR : Fld := ⟨.mft, 0x06c, 31, 20⟩
def MFT_CTX_PATH_LOCAL_ADDR : Fld := ⟨.mft, 0x06c, 19, 8⟩
def MFT_CTX_PATH_MAX_PAYLOAD : Fld := ⟨.mft, 0x06c, 7, 6⟩
def MFT_CTX_PATH_PORT : Fld := ⟨.mft, 0x06c, 5, 3⟩
def MFT_CTX_PATH_LINK : Fld := ⟨.mft, 0x06c, 2, 1⟩
def MFT_CTX_CACHE_LO_ADDR : Fld := ⟨.mft, 0x070, 31, 16⟩
def MFT_CTX_CACHE_HI_ADDR : Fld := ⟨.mft, 0x074, 15, 0⟩
def MFT_CTX_CMD_CMD : Fld := ⟨.mft, 0x078, 1, 0⟩
def MFT_CTX_STATE_STATE : Fld := ⟨.mft, 0x07c, 31, 30⟩
def MFT_CTX_STATE_GEN : Fld := ⟨.mft, 0x07c, 23, 16⟩
def MFT_CTX_STATE_CWND : Fld := ⟨.mft, 0x07c, 12, 0⟩
def MFT_CTX_COLL_SYSTEM : Fld := ⟨.mft, 0x080, 31, 31⟩
def MFT_CTX_COLL_COLL_ID : Fld := ⟨.mft, 0x080, 23, 0⟩
def MFT_CTX_SND_NEXT_PSN : Fld := ⟨.mft, 0x084, 31, 0⟩
def MFT_CTX_RCV_NEXT_PSN : Fld := ⟨.mft, 0x088, 31, 0⟩
def MFT_CTX_RECV_POSTED : Fld := ⟨.mft, 0x08c, 10, 0⟩
def MFT_REGION_INDEX_INDEX : Fld := ⟨.mft, 0x090, 13, 0⟩
def MFT_REGION_BASE_LO_ADDR : Fld := ⟨.mft, 0x094, 31, 12⟩
def MFT_REGION_BASE_HI_ADDR : Fld := ⟨.mft, 0x098, 15, 0⟩
def MFT_REGION_LEN_PAGES : Fld := ⟨.mft, 0x09c, 23, 0⟩
def MFT_REGION_ATTR_VALID : Fld := ⟨.mft, 0x0a0, 31, 31⟩
def MFT_REGION_ATTR_SYSTEM : Fld := ⟨.mft, 0x0a0, 27, 27⟩
def MFT_REGION_ATTR_ATOMIC : Fld := ⟨.mft, 0x0a0, 26, 26⟩
def MFT_REGION_ATTR_READ : Fld := ⟨.mft, 0x0a0, 25, 25⟩
def MFT_REGION_ATTR_WRITE : Fld := ⟨.mft, 0x0a0, 24, 24⟩
def MFT_REGION_ATTR_KEY : Fld := ⟨.mft, 0x0a0, 23, 16⟩
def MFT_REGION_ATTR_COLL : Fld := ⟨.mft, 0x0a0, 11, 0⟩
def MFT_ADDR_INDEX_INDEX : Fld := ⟨.mft, 0x0a4, 11, 0⟩
def MFT_ADDR_IP0_IP : Fld := ⟨.mft, 0x0a8, 31, 0⟩
def MFT_ADDR_IP1_IP : Fld := ⟨.mft, 0x0ac, 31, 0⟩
def MFT_ADDR_IP2_IP : Fld := ⟨.mft, 0x0b0, 31, 0⟩
def MFT_ADDR_IP3_IP : Fld := ⟨.mft, 0x0b4, 31, 0⟩
def MFT_ADDR_MAC_LO_MAC : Fld := ⟨.mft, 0x0b8, 31, 0⟩
def MFT_ADDR_MAC_HI_VALID : Fld := ⟨.mft, 0x0bc, 31, 31⟩
def MFT_ADDR_MAC_HI_MAC : Fld := ⟨.mft, 0x0bc, 15, 0⟩
def MFT_CNT_RETX_COUNT : Fld := ⟨.mft, 0x0c0, 31, 0⟩
def MFT_CNT_DUP_COUNT : Fld := ⟨.mft, 0x0c4, 31, 0⟩
def MFT_CNT_REPLAY_COUNT : Fld := ⟨.mft, 0x0c8, 31, 0⟩
def MFT_CNT_AUTH_COUNT : Fld := ⟨.mft, 0x0cc, 31, 0⟩
def MFT_CNT_STALE_COUNT : Fld := ⟨.mft, 0x0d0, 31, 0⟩
def MFT_CNT_REFUSED_COUNT : Fld := ⟨.mft, 0x0d4, 31, 0⟩

/-! VIT page, rules R179 -/
def VIT_CTRL_SHRINKING : Fld := ⟨.vit, 0x040, 16, 16⟩
def VIT_CTRL_SHRINK_RESTORE : Fld := ⟨.vit, 0x040, 9, 9⟩
def VIT_CTRL_SHRINK_START : Fld := ⟨.vit, 0x040, 8, 8⟩
def VIT_CTRL_CLEAN_EN : Fld := ⟨.vit, 0x040, 0, 0⟩
def VIT_DIRTY_QUOTA_QUOTA_MIB : Fld := ⟨.vit, 0x044, 15, 0⟩
def VIT_HIGH_MARK_MIB : Fld := ⟨.vit, 0x048, 15, 0⟩
def VIT_SHRINK_FLOOR_MIB : Fld := ⟨.vit, 0x04c, 31, 16⟩
def VIT_SHRINK_STEP_MIB : Fld := ⟨.vit, 0x04c, 15, 0⟩
def VIT_QUOTA_NOW_PAIR_DIRTY_MIB : Fld := ⟨.vit, 0x050, 31, 16⟩
def VIT_QUOTA_NOW_QUOTA_MIB : Fld := ⟨.vit, 0x050, 15, 0⟩
def VIT_DIRTY_OWN_GRANULES : Fld := ⟨.vit, 0x054, 22, 0⟩
def VIT_MIRROR_USED_GRANULES : Fld := ⟨.vit, 0x058, 22, 0⟩
def VIT_CLEAN_GRANULES : Fld := ⟨.vit, 0x05c, 24, 0⟩
def VIT_WSEQ_LO_WSEQ : Fld := ⟨.vit, 0x060, 31, 0⟩
def VIT_WSEQ_HI_WSEQ : Fld := ⟨.vit, 0x064, 31, 0⟩
def VIT_RETAIN_RETAINED_MIB : Fld := ⟨.vit, 0x068, 23, 8⟩
def VIT_RETAIN_DISCARD : Fld := ⟨.vit, 0x068, 2, 2⟩
def VIT_RETAIN_ADOPT : Fld := ⟨.vit, 0x068, 1, 1⟩
def VIT_RETAIN_RETAINED : Fld := ⟨.vit, 0x068, 0, 0⟩
def VIT_HIT_COUNT_COUNT : Fld := ⟨.vit, 0x06c, 31, 0⟩
def VIT_MISS_COUNT_COUNT : Fld := ⟨.vit, 0x070, 31, 0⟩

/-! ANX page, rules R180 -/
def ANX_CTRL_CLR_STATS : Fld := ⟨.anx, 0x040, 4, 4⟩
def ANX_CTRL_HALF_WIDTH_OK : Fld := ⟨.anx, 0x040, 2, 2⟩
def ANX_CTRL_RETRAIN : Fld := ⟨.anx, 0x040, 1, 1⟩
def ANX_CTRL_LINK_EN : Fld := ⟨.anx, 0x040, 0, 0⟩
def ANX_LINK_STATUS_DELAY_NS : Fld := ⟨.anx, 0x044, 31, 16⟩
def ANX_LINK_STATUS_LANES : Fld := ⟨.anx, 0x044, 15, 8⟩
def ANX_LINK_STATUS_TRAINING : Fld := ⟨.anx, 0x044, 1, 1⟩
def ANX_LINK_STATUS_UP : Fld := ⟨.anx, 0x044, 0, 0⟩
def ANX_PAIR_PREFER : Fld := ⟨.anx, 0x048, 31, 31⟩
def ANX_PAIR_PEER_NODE : Fld := ⟨.anx, 0x048, 13, 0⟩
def ANX_PAIR_CMD_CMD : Fld := ⟨.anx, 0x04c, 1, 0⟩
def ANX_PAIR_STATE_EPOCH : Fld := ⟨.anx, 0x050, 31, 16⟩
def ANX_PAIR_STATE_STATE : Fld := ⟨.anx, 0x050, 2, 0⟩
def ANX_HB_LOSS_US : Fld := ⟨.anx, 0x054, 31, 16⟩
def ANX_HB_PERIOD_US : Fld := ⟨.anx, 0x054, 7, 0⟩
def ANX_LEASE_LEASE_US : Fld := ⟨.anx, 0x058, 31, 16⟩
def ANX_LEASE_RENEW_US : Fld := ⟨.anx, 0x058, 15, 0⟩
def ANX_ISOLATE_MS : Fld := ⟨.anx, 0x05c, 15, 0⟩
def ANX_WITNESS_PRESENT : Fld := ⟨.anx, 0x060, 31, 24⟩
def ANX_WITNESS_QUORUM : Fld := ⟨.anx, 0x060, 23, 16⟩
def ANX_WITNESS_PEER_EXPIRED : Fld := ⟨.anx, 0x060, 15, 8⟩
def ANX_WITNESS_OWN_LIVE : Fld := ⟨.anx, 0x060, 7, 0⟩
def ANX_TAKEOVER_US_MICROS : Fld := ⟨.anx, 0x064, 15, 0⟩
def ANX_COMMIT_MAX_NS : Fld := ⟨.anx, 0x068, 31, 0⟩
def ANX_RETRY_COUNT_COUNT : Fld := ⟨.anx, 0x06c, 31, 0⟩
def ANX_RETRAIN_COUNT_COUNT : Fld := ⟨.anx, 0x070, 31, 0⟩

/-! CAT page, rules R212 -/
def CAT_CTRL_CKPT_NOW : Fld := ⟨.cat, 0x040, 8, 8⟩
def CAT_CKPT_INTERVAL : Fld := ⟨.cat, 0x044, 31, 16⟩
def CAT_CKPT_JOURNAL_MIB : Fld := ⟨.cat, 0x044, 15, 0⟩
def CAT_CKPT_LAST_NUMBER : Fld := ⟨.cat, 0x048, 31, 0⟩
def CAT_CKPT_STATUS_IN_PROGRESS : Fld := ⟨.cat, 0x04c, 31, 31⟩
def CAT_CKPT_STATUS_LAST_MS : Fld := ⟨.cat, 0x04c, 15, 0⟩
def CAT_JOURNAL_PEAK_MIB : Fld := ⟨.cat, 0x050, 31, 16⟩
def CAT_JOURNAL_USED_MIB : Fld := ⟨.cat, 0x050, 15, 0⟩
def CAT_STORE_DIRTY_GIB : Fld := ⟨.cat, 0x054, 31, 16⟩
def CAT_STORE_SIZE_GIB : Fld := ⟨.cat, 0x054, 15, 0⟩
def CAT_NS_INDEX_INDEX : Fld := ⟨.cat, 0x058, 14, 0⟩
def CAT_NS_ID_NSID : Fld := ⟨.cat, 0x05c, 31, 0⟩
def CAT_NS_ATTR_VALID : Fld := ⟨.cat, 0x060, 31, 31⟩
def CAT_NS_ATTR_READ_ONLY : Fld := ⟨.cat, 0x060, 30, 30⟩
def CAT_NS_ATTR_OWNED : Fld := ⟨.cat, 0x060, 29, 29⟩
def CAT_NS_ATTR_PREF_THIS : Fld := ⟨.cat, 0x060, 28, 28⟩
def CAT_NS_ATTR_HOME_WING : Fld := ⟨.cat, 0x060, 27, 27⟩
def CAT_NS_ATTR_COLL : Fld := ⟨.cat, 0x060, 11, 0⟩
def CAT_NS_SIZE_LO_SIZE : Fld := ⟨.cat, 0x064, 31, 0⟩
def CAT_NS_SIZE_HI_SIZE : Fld := ⟨.cat, 0x068, 9, 0⟩
def CAT_NS_EDITION_NUMBER : Fld := ⟨.cat, 0x06c, 31, 0⟩
def CAT_NS_CMD_CMD : Fld := ⟨.cat, 0x070, 2, 0⟩
def CAT_NS_STATUS_BUSY : Fld := ⟨.cat, 0x074, 31, 31⟩
def CAT_NS_STATUS_RESULT : Fld := ⟨.cat, 0x074, 23, 16⟩
def CAT_NS_STATUS_EDITIONS : Fld := ⟨.cat, 0x074, 14, 0⟩
def CAT_NS_LAST_EDITION_NUMBER : Fld := ⟨.cat, 0x078, 31, 0⟩
def CAT_EDITIONS_PAIR : Fld := ⟨.cat, 0x07c, 20, 0⟩
def CAT_CNT_PAGEIN_COUNT : Fld := ⟨.cat, 0x080, 31, 0⟩
def CAT_CNT_SEAL_COUNT : Fld := ⟨.cat, 0x084, 31, 0⟩

/-! CCH page, rules R213 -/
def CCH_WAY_EN_WAYS : Fld := ⟨.cch, 0x040, 15, 0⟩
def CCH_WAY_STATE_CLEANING : Fld := ⟨.cch, 0x044, 31, 16⟩
def CCH_WAY_STATE_DARK : Fld := ⟨.cch, 0x044, 15, 0⟩
def CCH_FENCED_WAYS : Fld := ⟨.cch, 0x048, 15, 0⟩
def CCH_ECC_THRESH_COUNT : Fld := ⟨.cch, 0x04c, 15, 0⟩
def CCH_ECC_LAST_WAY : Fld := ⟨.cch, 0x050, 31, 28⟩
def CCH_ECC_CORRECTED : Fld := ⟨.cch, 0x050, 15, 0⟩
def CCH_HIT_COUNT : Fld := ⟨.cch, 0x054, 31, 0⟩
def CCH_MISS_COUNT : Fld := ⟨.cch, 0x058, 31, 0⟩
def CCH_CLEAN_MAX_MICROS : Fld := ⟨.cch, 0x05c, 31, 0⟩
def CCH_LOST_COUNT : Fld := ⟨.cch, 0x060, 31, 0⟩

/-! RGS page, rules R214 -/
def RGS_CTRL_REINDEX : Fld := ⟨.rgs, 0x040, 8, 8⟩
def RGS_CTRL_DEDUP_EN : Fld := ⟨.rgs, 0x040, 0, 0⟩
def RGS_BUDGET_GRANULES : Fld := ⟨.rgs, 0x044, 15, 0⟩
def RGS_COLL_INDEX_INDEX : Fld := ⟨.rgs, 0x048, 11, 0⟩
def RGS_COLL_CFG_BUCKET_LOG2 : Fld := ⟨.rgs, 0x04c, 21, 16⟩
def RGS_COLL_CFG_DEDUP_EN : Fld := ⟨.rgs, 0x04c, 8, 8⟩
def RGS_COLL_CFG_VERIFY : Fld := ⟨.rgs, 0x04c, 1, 0⟩
def RGS_COLL_FILTER_SIZE_MIB : Fld := ⟨.rgs, 0x050, 31, 16⟩
def RGS_COLL_FILTER_BASE_MIB : Fld := ⟨.rgs, 0x050, 15, 0⟩
def RGS_COLL_SLOT_BOUND : Fld := ⟨.rgs, 0x054, 31, 31⟩
def RGS_COLL_SLOT_FP_SLOT : Fld := ⟨.rgs, 0x054, 12, 0⟩
def RGS_COLL_ENTRIES_LO_ENTRIES : Fld := ⟨.rgs, 0x058, 31, 0⟩
def RGS_COLL_ENTRIES_HI_ENTRIES : Fld := ⟨.rgs, 0x05c, 7, 0⟩
def RGS_COLL_BLIND_COUNT : Fld := ⟨.rgs, 0x060, 31, 0⟩
def RGS_CNT_UNIQUE_COUNT : Fld := ⟨.rgs, 0x064, 31, 0⟩
def RGS_CNT_DUP_COUNT : Fld := ⟨.rgs, 0x068, 31, 0⟩
def RGS_CNT_FALSE_COUNT : Fld := ⟨.rgs, 0x06c, 31, 0⟩
def RGS_CNT_COMPARE_COUNT : Fld := ⟨.rgs, 0x070, 31, 0⟩
def RGS_CARRY_GRANULES : Fld := ⟨.rgs, 0x074, 15, 0⟩

/-! DGE page, rules R245, R246 -/
def DGE_FP_STATES_HELD : Fld := ⟨.dge, 0x05c, 12, 0⟩
def DGE_CNT_COMPARE_COUNT : Fld := ⟨.dge, 0x060, 31, 0⟩
def DGE_CNT_MEASURE_COUNT : Fld := ⟨.dge, 0x064, 31, 0⟩
def DGE_CTRL_SW_SHARE : Fld := ⟨.dge, 0x040, 13, 8⟩
def DGE_CTRL_SPARE_AUTO : Fld := ⟨.dge, 0x040, 0, 0⟩
def DGE_UNITS_FAILED : Fld := ⟨.dge, 0x044, 23, 16⟩
def DGE_UNITS_SPARE : Fld := ⟨.dge, 0x044, 15, 8⟩
def DGE_UNITS_ACTIVE : Fld := ⟨.dge, 0x044, 7, 0⟩
def DGE_UNIT_INDEX_INDEX : Fld := ⟨.dge, 0x048, 5, 0⟩
def DGE_UNIT_STATE_CAUSE : Fld := ⟨.dge, 0x04c, 11, 8⟩
def DGE_UNIT_STATE_STATE : Fld := ⟨.dge, 0x04c, 2, 0⟩
def DGE_UNIT_CMD_CMD : Fld := ⟨.dge, 0x050, 1, 0⟩
def DGE_CNT_OPS_COUNT : Fld := ⟨.dge, 0x054, 31, 0⟩
def DGE_CNT_ERR_COUNT : Fld := ⟨.dge, 0x058, 31, 0⟩

/-! CDC page, rules R245, R247 -/
def CDC_STREAM_FLUSH_FRAMES : Fld := ⟨.cdc, 0x05c, 31, 24⟩
def CDC_STREAM_OPEN : Fld := ⟨.cdc, 0x05c, 9, 0⟩
def CDC_COLL_INDEX_INDEX : Fld := ⟨.cdc, 0x060, 11, 0⟩
def CDC_COLL_CFG_TABLES : Fld := ⟨.cdc, 0x064, 1, 0⟩
def CDC_CNT_GRANULES_COUNT : Fld := ⟨.cdc, 0x068, 31, 0⟩
def CDC_CNT_SHEETS_COUNT : Fld := ⟨.cdc, 0x06c, 31, 0⟩
def CDC_CNT_RAW_COUNT : Fld := ⟨.cdc, 0x070, 31, 0⟩
def CDC_CTRL_SW_SHARE : Fld := ⟨.cdc, 0x040, 13, 8⟩
def CDC_CTRL_SPARE_AUTO : Fld := ⟨.cdc, 0x040, 0, 0⟩
def CDC_UNITS_FAILED : Fld := ⟨.cdc, 0x044, 23, 16⟩
def CDC_UNITS_SPARE : Fld := ⟨.cdc, 0x044, 15, 8⟩
def CDC_UNITS_ACTIVE : Fld := ⟨.cdc, 0x044, 7, 0⟩
def CDC_UNIT_INDEX_INDEX : Fld := ⟨.cdc, 0x048, 5, 0⟩
def CDC_UNIT_STATE_CAUSE : Fld := ⟨.cdc, 0x04c, 11, 8⟩
def CDC_UNIT_STATE_STATE : Fld := ⟨.cdc, 0x04c, 2, 0⟩
def CDC_UNIT_CMD_CMD : Fld := ⟨.cdc, 0x050, 1, 0⟩
def CDC_CNT_OPS_COUNT : Fld := ⟨.cdc, 0x054, 31, 0⟩
def CDC_CNT_ERR_COUNT : Fld := ⟨.cdc, 0x058, 31, 0⟩

/-! CPH page, rules R245, R248 -/
def CPH_CNT_KEYLOAD_COUNT : Fld := ⟨.cph, 0x05c, 31, 0⟩
def CPH_CNT_TAG_FAIL_COUNT : Fld := ⟨.cph, 0x060, 31, 0⟩
def CPH_ERASE_ERASED : Fld := ⟨.cph, 0x064, 31, 31⟩
def CPH_ERASE_COUNT : Fld := ⟨.cph, 0x064, 15, 0⟩
def CPH_CTRL_SW_SHARE : Fld := ⟨.cph, 0x040, 13, 8⟩
def CPH_CTRL_SPARE_AUTO : Fld := ⟨.cph, 0x040, 0, 0⟩
def CPH_UNITS_FAILED : Fld := ⟨.cph, 0x044, 23, 16⟩
def CPH_UNITS_SPARE : Fld := ⟨.cph, 0x044, 15, 8⟩
def CPH_UNITS_ACTIVE : Fld := ⟨.cph, 0x044, 7, 0⟩
def CPH_UNIT_INDEX_INDEX : Fld := ⟨.cph, 0x048, 5, 0⟩
def CPH_UNIT_STATE_CAUSE : Fld := ⟨.cph, 0x04c, 11, 8⟩
def CPH_UNIT_STATE_STATE : Fld := ⟨.cph, 0x04c, 2, 0⟩
def CPH_UNIT_CMD_CMD : Fld := ⟨.cph, 0x050, 1, 0⟩
def CPH_CNT_OPS_COUNT : Fld := ⟨.cph, 0x054, 31, 0⟩
def CPH_CNT_ERR_COUNT : Fld := ⟨.cph, 0x058, 31, 0⟩

/-! GAL page, rules R275 -/
def GAL_CTRL_CLOSE_NOW : Fld := ⟨.gal, 0x040, 8, 8⟩
def GAL_CTRL_LOCATE_EN : Fld := ⟨.gal, 0x040, 1, 1⟩
def GAL_CTRL_VERIFY_EN : Fld := ⟨.gal, 0x040, 0, 0⟩
def GAL_WIDTH_N : Fld := ⟨.gal, 0x044, 4, 0⟩
def GAL_FILL_FLUSH_FRAMES : Fld := ⟨.gal, 0x048, 7, 0⟩
def GAL_RING_LIMIT : Fld := ⟨.gal, 0x04c, 24, 16⟩
def GAL_RING_OPEN : Fld := ⟨.gal, 0x04c, 8, 0⟩
def GAL_SERIAL_LO_NEXT : Fld := ⟨.gal, 0x050, 31, 0⟩
def GAL_SERIAL_HI_NEXT : Fld := ⟨.gal, 0x054, 15, 0⟩
def GAL_RESYNC_RUNNING : Fld := ⟨.gal, 0x058, 31, 31⟩
def GAL_RESYNC_VERIFYING : Fld := ⟨.gal, 0x058, 30, 30⟩
def GAL_RESYNC_LEFT : Fld := ⟨.gal, 0x058, 23, 0⟩
def GAL_REBUILD_BUSY : Fld := ⟨.gal, 0x05c, 31, 31⟩
def GAL_REBUILD_START : Fld := ⟨.gal, 0x05c, 8, 8⟩
def GAL_REBUILD_PLINTH : Fld := ⟨.gal, 0x05c, 5, 0⟩
def GAL_REBUILD_LEFT_GALLERIES : Fld := ⟨.gal, 0x060, 23, 0⟩
def GAL_BUDGET_PANEL_READS : Fld := ⟨.gal, 0x064, 15, 0⟩
def GAL_RESHAPE_RUNNING : Fld := ⟨.gal, 0x068, 31, 31⟩
def GAL_RESHAPE_ABORT : Fld := ⟨.gal, 0x068, 9, 9⟩
def GAL_RESHAPE_START : Fld := ⟨.gal, 0x068, 8, 8⟩
def GAL_RESHAPE_TARGET_N : Fld := ⟨.gal, 0x068, 4, 0⟩
def GAL_RESHAPE_BOUND_HALL : Fld := ⟨.gal, 0x06c, 23, 0⟩
def GAL_RESHAPE_CKPT_HALLS : Fld := ⟨.gal, 0x070, 15, 0⟩
def GAL_CNT_REBUILT_COUNT : Fld := ⟨.gal, 0x074, 31, 0⟩
def GAL_CNT_LOCATED_COUNT : Fld := ⟨.gal, 0x078, 31, 0⟩
def GAL_CNT_LOST_COUNT : Fld := ⟨.gal, 0x07c, 31, 0⟩

/-! PLK page, rules R303 -/
def PLK_CTRL_VC_WEIGHT : Fld := ⟨.plk, 0x040, 11, 8⟩
def PLK_CTRL_ATTN : Fld := ⟨.plk, 0x040, 4, 4⟩
def PLK_CTRL_RELEASE : Fld := ⟨.plk, 0x040, 3, 3⟩
def PLK_CTRL_HALF_WIDTH_OK : Fld := ⟨.plk, 0x040, 2, 2⟩
def PLK_CTRL_RETRAIN : Fld := ⟨.plk, 0x040, 1, 1⟩
def PLK_CTRL_LINK_EN : Fld := ⟨.plk, 0x040, 0, 0⟩
def PLK_STATUS_DELAY_NS : Fld := ⟨.plk, 0x044, 31, 16⟩
def PLK_STATUS_BRIDGE_PORT : Fld := ⟨.plk, 0x044, 11, 11⟩
def PLK_STATUS_FENCED_BY_CLAIM : Fld := ⟨.plk, 0x044, 10, 10⟩
def PLK_STATUS_LANES : Fld := ⟨.plk, 0x044, 7, 6⟩
def PLK_STATUS_ADMITTED : Fld := ⟨.plk, 0x044, 4, 4⟩
def PLK_STATUS_RELEASED : Fld := ⟨.plk, 0x044, 3, 3⟩
def PLK_STATUS_PRESENT : Fld := ⟨.plk, 0x044, 2, 2⟩
def PLK_STATUS_TRAINING : Fld := ⟨.plk, 0x044, 1, 1⟩
def PLK_STATUS_UP : Fld := ⟨.plk, 0x044, 0, 0⟩
def PLK_WARN_BITS : Fld := ⟨.plk, 0x048, 7, 0⟩
def PLK_TIMEOUT_MS : Fld := ⟨.plk, 0x04c, 15, 0⟩
def PLK_SLOTS_HIGH_WATER : Fld := ⟨.plk, 0x050, 23, 16⟩
def PLK_SLOTS_IN_USE : Fld := ⟨.plk, 0x050, 7, 0⟩
def PLK_BRIDGE_ID : Fld := ⟨.plk, 0x054, 31, 0⟩
def PLK_ALERT_VALID : Fld := ⟨.plk, 0x058, 31, 31⟩
def PLK_ALERT_CODE : Fld := ⟨.plk, 0x058, 23, 16⟩
def PLK_ALERT_DETAIL : Fld := ⟨.plk, 0x058, 15, 0⟩
def PLK_WITNESS_OWN_LIVE : Fld := ⟨.plk, 0x05c, 31, 31⟩
def PLK_WITNESS_PEER_EXPIRED : Fld := ⟨.plk, 0x05c, 30, 30⟩
def PLK_WITNESS_CLAIMED : Fld := ⟨.plk, 0x05c, 29, 29⟩
def PLK_WITNESS_OWN_EXPIRY : Fld := ⟨.plk, 0x05c, 15, 0⟩
def PLK_CNT_RETRY_COUNT : Fld := ⟨.plk, 0x060, 31, 0⟩
def PLK_CNT_RETRAIN_COUNT : Fld := ⟨.plk, 0x064, 31, 0⟩
def PLK_CNT_WARN_COUNT : Fld := ⟨.plk, 0x068, 31, 0⟩
def PLK_CNT_MEDIA_COUNT : Fld := ⟨.plk, 0x06c, 31, 0⟩
def PLK_CNT_SUSPEND_COUNT : Fld := ⟨.plk, 0x070, 31, 0⟩

/-! DSP page, rules R336 -/
def DSP_CTRL_DEADLINE_SLOT : Fld := ⟨.dsp, 0x040, 28, 24⟩
def DSP_CTRL_STARTS_PER_SLOT : Fld := ⟨.dsp, 0x040, 18, 16⟩
def DSP_CTRL_BG_PER_DIE : Fld := ⟨.dsp, 0x040, 11, 8⟩
def DSP_CTRL_READ_DEPTH : Fld := ⟨.dsp, 0x040, 3, 0⟩
def DSP_TIMING_PROG_SLOW_MS : Fld := ⟨.dsp, 0x044, 31, 16⟩
def DSP_TIMING_GUARD_NS : Fld := ⟨.dsp, 0x044, 15, 0⟩
def DSP_OPS_PROG_ERASE : Fld := ⟨.dsp, 0x048, 28, 16⟩
def DSP_OPS_READS : Fld := ⟨.dsp, 0x048, 12, 0⟩
def DSP_READ_WAIT_MAX_NS : Fld := ⟨.dsp, 0x04c, 31, 0⟩
def DSP_PROG_MAX_BUSY : Fld := ⟨.dsp, 0x050, 31, 0⟩
def DSP_CNT_CARRY_COUNT : Fld := ⟨.dsp, 0x054, 31, 0⟩
def DSP_CNT_HOLD_COUNT : Fld := ⟨.dsp, 0x058, 31, 0⟩

/-! CUR page, rules R337 -/
def CUR_CTRL_MOUNT : Fld := ⟨.cur, 0x040, 8, 8⟩
def CUR_CTRL_EFFECTIVE : Fld := ⟨.cur, 0x040, 5, 4⟩
def CUR_CTRL_MODE : Fld := ⟨.cur, 0x040, 1, 0⟩
def CUR_GEOM_SLC_ROWS : Fld := ⟨.cur, 0x044, 27, 16⟩
def CUR_GEOM_ROWS : Fld := ⟨.cur, 0x044, 11, 0⟩
def CUR_GEOM_BLOCKS_BLOCKS : Fld := ⟨.cur, 0x048, 19, 0⟩
def CUR_FREE_BLOCKS : Fld := ⟨.cur, 0x04c, 27, 0⟩
def CUR_MARKS_FG : Fld := ⟨.cur, 0x050, 25, 16⟩
def CUR_MARKS_NORMAL : Fld := ⟨.cur, 0x050, 9, 0⟩
def CUR_BUDGET_FG_PANELS : Fld := ⟨.cur, 0x054, 31, 16⟩
def CUR_BUDGET_IDLE_PANELS : Fld := ⟨.cur, 0x054, 15, 8⟩
def CUR_BUDGET_NORMAL_PANELS : Fld := ⟨.cur, 0x054, 7, 0⟩
def CUR_THROTTLE_IDLE_GRANULES : Fld := ⟨.cur, 0x058, 27, 16⟩
def CUR_THROTTLE_GRANULES : Fld := ⟨.cur, 0x058, 15, 0⟩
def CUR_SCORE_MAX_UTIL : Fld := ⟨.cur, 0x05c, 31, 20⟩
def CUR_SCORE_WEAR_WEIGHT : Fld := ⟨.cur, 0x05c, 19, 16⟩
def CUR_SCORE_AGE_BIAS : Fld := ⟨.cur, 0x05c, 15, 0⟩
def CUR_WEAR_SPREAD : Fld := ⟨.cur, 0x060, 31, 16⟩
def CUR_WEAR_LIMIT : Fld := ⟨.cur, 0x060, 15, 0⟩
def CUR_WEAR_STAT_MEAN : Fld := ⟨.cur, 0x064, 31, 16⟩
def CUR_WEAR_STAT_SPREAD : Fld := ⟨.cur, 0x064, 15, 0⟩
def CUR_HALLS_FILLING : Fld := ⟨.cur, 0x068, 31, 24⟩
def CUR_HALLS_OWNED : Fld := ⟨.cur, 0x068, 23, 0⟩
def CUR_FILL_HALLS : Fld := ⟨.cur, 0x06c, 3, 0⟩
def CUR_RECLAIM_ACTIVE : Fld := ⟨.cur, 0x070, 31, 31⟩
def CUR_RECLAIM_HALL : Fld := ⟨.cur, 0x070, 23, 0⟩
def CUR_VAULT_READY : Fld := ⟨.cur, 0x074, 31, 31⟩
def CUR_VAULT_GEN : Fld := ⟨.cur, 0x074, 21, 14⟩
def CUR_VAULT_BLOCKS : Fld := ⟨.cur, 0x074, 13, 0⟩
def CUR_ANCHOR_SEQ : Fld := ⟨.cur, 0x078, 31, 4⟩
def CUR_ANCHOR_COPIES : Fld := ⟨.cur, 0x078, 3, 0⟩
def CUR_PLINTH_CMD : Fld := ⟨.cur, 0x07c, 9, 8⟩
def CUR_PLINTH_PLINTH : Fld := ⟨.cur, 0x07c, 5, 0⟩
def CUR_CNT_RECLAIMED_COUNT : Fld := ⟨.cur, 0x080, 31, 0⟩
def CUR_CNT_RETIRED_COUNT : Fld := ⟨.cur, 0x084, 31, 0⟩

/-! CSV page, rules R338 -/
def CSV_CTRL_RETAIN_EN : Fld := ⟨.csv, 0x040, 2, 2⟩
def CSV_CTRL_REFRESH_EN : Fld := ⟨.csv, 0x040, 1, 1⟩
def CSV_CTRL_SCRUB_EN : Fld := ⟨.csv, 0x040, 0, 0⟩
def CSV_BUDGET_PANEL_READS : Fld := ⟨.csv, 0x044, 15, 0⟩
def CSV_READ_LIMIT : Fld := ⟨.csv, 0x048, 23, 0⟩
def CSV_RETAIN_HOURS : Fld := ⟨.csv, 0x04c, 15, 0⟩
def CSV_SCRUB_PASSES : Fld := ⟨.csv, 0x050, 31, 16⟩
def CSV_SCRUB_DAYS : Fld := ⟨.csv, 0x050, 15, 0⟩
def CSV_QUEUE_CASES : Fld := ⟨.csv, 0x054, 31, 16⟩
def CSV_QUEUE_BLOCKS : Fld := ⟨.csv, 0x054, 15, 0⟩
def CSV_CNT_REWRITE_COUNT : Fld := ⟨.csv, 0x058, 31, 0⟩
def CSV_CNT_REFRESH_COUNT : Fld := ⟨.csv, 0x05c, 31, 0⟩
def CSV_CNT_SCRUB_COUNT : Fld := ⟨.csv, 0x060, 31, 0⟩

/-! RPL page, rules R361 -/
def RPL_CTRL_ACCEPT : Fld := ⟨.rpl, 0x040, 0, 0⟩
def RPL_SITE_SITE : Fld := ⟨.rpl, 0x044, 13, 0⟩
def RPL_TIMER_ASYNC_MS : Fld := ⟨.rpl, 0x048, 31, 16⟩
def RPL_TIMER_SYNC_MS : Fld := ⟨.rpl, 0x048, 15, 0⟩
def RPL_RATE_KIB : Fld := ⟨.rpl, 0x04c, 15, 0⟩
def RPL_MAP_INDEX_INDEX : Fld := ⟨.rpl, 0x050, 11, 0⟩
def RPL_MAP_MODE_STATE : Fld := ⟨.rpl, 0x054, 31, 29⟩
def RPL_MAP_MODE_FP_SHARED : Fld := ⟨.rpl, 0x054, 8, 8⟩
def RPL_MAP_MODE_DEGRADE : Fld := ⟨.rpl, 0x054, 4, 4⟩
def RPL_MAP_MODE_MODE : Fld := ⟨.rpl, 0x054, 1, 0⟩
def RPL_MAP_CONN_CONTEXT : Fld := ⟨.rpl, 0x058, 15, 0⟩
def RPL_MAP_KEEPER_CONTEXT : Fld := ⟨.rpl, 0x05c, 15, 0⟩
def RPL_MAP_RKEY_RKEY : Fld := ⟨.rpl, 0x060, 31, 0⟩
def RPL_MAP_BASE_EDITION : Fld := ⟨.rpl, 0x064, 31, 0⟩
def RPL_CMD_FORCE : Fld := ⟨.rpl, 0x068, 8, 8⟩
def RPL_CMD_CMD : Fld := ⟨.rpl, 0x068, 2, 0⟩
def RPL_EDITION_NUMBER : Fld := ⟨.rpl, 0x06c, 31, 0⟩
def RPL_PROGRESS_RESULT : Fld := ⟨.rpl, 0x070, 31, 24⟩
def RPL_PROGRESS_LEFT : Fld := ⟨.rpl, 0x070, 23, 0⟩
def RPL_CNT_OFFER_COUNT : Fld := ⟨.rpl, 0x074, 31, 0⟩
def RPL_CNT_HAVE_COUNT : Fld := ⟨.rpl, 0x078, 31, 0⟩
def RPL_CNT_CASES_COUNT : Fld := ⟨.rpl, 0x07c, 31, 0⟩
def RPL_SYNC_MAX_MICROS : Fld := ⟨.rpl, 0x080, 31, 0⟩

/-! DMA page, rules R396 -/
def DMA_CTRL_HALT : Fld := ⟨.dma, 0x040, 0, 0⟩
def DMA_CHAN_INDEX_INDEX : Fld := ⟨.dma, 0x044, 2, 0⟩
def DMA_CHAN_STATE_TAG : Fld := ⟨.dma, 0x048, 31, 16⟩
def DMA_CHAN_STATE_OPEN : Fld := ⟨.dma, 0x048, 15, 12⟩
def DMA_CHAN_STATE_PRIO : Fld := ⟨.dma, 0x048, 5, 4⟩
def DMA_CHAN_STATE_STATE : Fld := ⟨.dma, 0x048, 2, 0⟩
def DMA_CHAN_CMD_CMD : Fld := ⟨.dma, 0x04c, 1, 0⟩
def DMA_CNT_OPS_COUNT : Fld := ⟨.dma, 0x050, 31, 0⟩
def DMA_CNT_PREEMPT_COUNT : Fld := ⟨.dma, 0x054, 31, 0⟩
def DMA_CNT_ABORT_COUNT : Fld := ⟨.dma, 0x058, 31, 0⟩

/-! CPU page, rules R393 -/
def CPU_CORE_INDEX_INDEX : Fld := ⟨.cpu, 0x040, 4, 0⟩
def CPU_CORE_STATE_RUNG : Fld := ⟨.cpu, 0x044, 18, 16⟩
def CPU_CORE_STATE_CAUSE : Fld := ⟨.cpu, 0x044, 11, 8⟩
def CPU_CORE_STATE_STATE : Fld := ⟨.cpu, 0x044, 2, 0⟩
def CPU_CORE_CMD_CMD : Fld := ⟨.cpu, 0x048, 1, 0⟩
def CPU_START_LO_ADDR : Fld := ⟨.cpu, 0x04c, 31, 2⟩
def CPU_START_HI_ADDR : Fld := ⟨.cpu, 0x050, 15, 0⟩
def CPU_RING_INDEX_INDEX : Fld := ⟨.cpu, 0x054, 9, 0⟩
def CPU_RING_BASE_LO_ADDR : Fld := ⟨.cpu, 0x058, 31, 12⟩
def CPU_RING_BASE_HI_ADDR : Fld := ⟨.cpu, 0x05c, 15, 0⟩
def CPU_RING_CFG_ENABLE : Fld := ⟨.cpu, 0x060, 31, 31⟩
def CPU_RING_CFG_SYSTEM : Fld := ⟨.cpu, 0x060, 30, 30⟩
def CPU_RING_CFG_CLASS : Fld := ⟨.cpu, 0x060, 29, 27⟩
def CPU_RING_CFG_PRIO : Fld := ⟨.cpu, 0x060, 25, 24⟩
def CPU_RING_CFG_LOG2_SIZE : Fld := ⟨.cpu, 0x060, 23, 20⟩
def CPU_RING_CFG_ANY_HART : Fld := ⟨.cpu, 0x060, 6, 6⟩
def CPU_RING_CFG_OWNER : Fld := ⟨.cpu, 0x060, 5, 0⟩
def CPU_RING_PTR_HEAD : Fld := ⟨.cpu, 0x064, 31, 16⟩
def CPU_RING_PTR_TAIL : Fld := ⟨.cpu, 0x064, 15, 0⟩
def CPU_CQ_INDEX_INDEX : Fld := ⟨.cpu, 0x068, 11, 0⟩
def CPU_CQ_BASE_LO_ADDR : Fld := ⟨.cpu, 0x06c, 31, 9⟩
def CPU_CQ_BASE_HI_ADDR : Fld := ⟨.cpu, 0x070, 15, 0⟩
def CPU_CQ_CFG_ENABLE : Fld := ⟨.cpu, 0x074, 31, 31⟩
def CPU_CQ_CFG_LOG2_SIZE : Fld := ⟨.cpu, 0x074, 27, 24⟩
def CPU_CQ_CFG_MLEVEL : Fld := ⟨.cpu, 0x074, 22, 22⟩
def CPU_CQ_CFG_HART : Fld := ⟨.cpu, 0x074, 21, 16⟩
def CPU_CQ_CFG_IDENTITY : Fld := ⟨.cpu, 0x074, 10, 0⟩
def CPU_CQ_PTR_TAIL : Fld := ⟨.cpu, 0x078, 31, 16⟩
def CPU_CQ_PTR_HEAD : Fld := ⟨.cpu, 0x078, 15, 0⟩
def CPU_CNT_POST_COUNT : Fld := ⟨.cpu, 0x07c, 31, 0⟩
def CPU_CNT_FULL_COUNT : Fld := ⟨.cpu, 0x080, 31, 0⟩

/-! MEM page, rules R394 -/
def MEM_CTRL_SCRUB_HOURS : Fld := ⟨.mem, 0x040, 15, 8⟩
def MEM_CTRL_SCRUB_EN : Fld := ⟨.mem, 0x040, 0, 0⟩
def MEM_CHAN_STATUS_FENCED : Fld := ⟨.mem, 0x044, 23, 16⟩
def MEM_CHAN_STATUS_TRAINED : Fld := ⟨.mem, 0x044, 15, 8⟩
def MEM_CHAN_STATUS_PRESENT : Fld := ⟨.mem, 0x044, 7, 0⟩
def MEM_CHAN_CMD_CHAN : Fld := ⟨.mem, 0x048, 10, 8⟩
def MEM_CHAN_CMD_CMD : Fld := ⟨.mem, 0x048, 1, 0⟩
def MEM_SEG_INDEX_INDEX : Fld := ⟨.mem, 0x04c, 11, 0⟩
def MEM_SEG_ENTRY_VALID : Fld := ⟨.mem, 0x050, 31, 31⟩
def MEM_SEG_ENTRY_MIGRATING : Fld := ⟨.mem, 0x050, 30, 30⟩
def MEM_SEG_ENTRY_SET : Fld := ⟨.mem, 0x050, 23, 16⟩
def MEM_SEG_ENTRY_BASE : Fld := ⟨.mem, 0x050, 11, 0⟩
def MEM_MIGRATE_TO_SET : Fld := ⟨.mem, 0x054, 23, 16⟩
def MEM_MIGRATE_TO_BASE : Fld := ⟨.mem, 0x054, 11, 0⟩
def MEM_MIGRATE_BUSY : Fld := ⟨.mem, 0x058, 31, 31⟩
def MEM_MIGRATE_START : Fld := ⟨.mem, 0x058, 16, 16⟩
def MEM_MIGRATE_SEGMENT : Fld := ⟨.mem, 0x058, 11, 0⟩
def MEM_MIGRATE_BOUND_UNITS : Fld := ⟨.mem, 0x05c, 17, 0⟩
def MEM_CE_THRESH_COUNT : Fld := ⟨.mem, 0x060, 15, 0⟩
def MEM_SPARE_LO_ADDR : Fld := ⟨.mem, 0x064, 31, 20⟩
def MEM_SPARE_HI_ADDR : Fld := ⟨.mem, 0x068, 15, 0⟩
def MEM_RETIRE_USED : Fld := ⟨.mem, 0x06c, 8, 0⟩
def MEM_CNT_CE_COUNT : Fld := ⟨.mem, 0x070, 31, 0⟩
def MEM_CNT_UE_COUNT : Fld := ⟨.mem, 0x074, 31, 0⟩

/-! HBM page, rules R395 -/
def HBM_CTRL_SCRUB_EN : Fld := ⟨.hbm, 0x040, 0, 0⟩
def HBM_PCH_INDEX_INDEX : Fld := ⟨.hbm, 0x044, 6, 0⟩
def HBM_PCH_STATE_CORRECTED : Fld := ⟨.hbm, 0x048, 31, 16⟩
def HBM_PCH_STATE_STATE : Fld := ⟨.hbm, 0x048, 1, 0⟩
def HBM_PCH_CMD_FENCE : Fld := ⟨.hbm, 0x04c, 0, 0⟩
def HBM_CE_THRESH_COUNT : Fld := ⟨.hbm, 0x050, 15, 0⟩
def HBM_CNT_CE_COUNT : Fld := ⟨.hbm, 0x054, 31, 0⟩
def HBM_CNT_UE_COUNT : Fld := ⟨.hbm, 0x058, 31, 0⟩

/-! DOC page, rules R423 -/
def DOC_CTRL_CHIP_RESET : Fld := ⟨.doc, 0x040, 8, 8⟩
def DOC_CTRL_RELEASE_W : Fld := ⟨.doc, 0x040, 1, 1⟩
def DOC_CTRL_RELEASE_E : Fld := ⟨.doc, 0x040, 0, 0⟩
def DOC_STATUS_ROM_VER : Fld := ⟨.doc, 0x044, 31, 24⟩
def DOC_STATUS_STAGE : Fld := ⟨.doc, 0x044, 18, 16⟩
def DOC_STATUS_FALLBACK : Fld := ⟨.doc, 0x044, 4, 4⟩
def DOC_STATUS_OS_TRIAL : Fld := ⟨.doc, 0x044, 3, 3⟩
def DOC_STATUS_DOC_TRIAL : Fld := ⟨.doc, 0x044, 2, 2⟩
def DOC_STATUS_OS_SLOT : Fld := ⟨.doc, 0x044, 1, 1⟩
def DOC_STATUS_DOC_SLOT : Fld := ⟨.doc, 0x044, 0, 0⟩
def DOC_MIRROR_PAGES : Fld := ⟨.doc, 0x048, 8, 0⟩
def DOC_RING_SEL_SYSTEM : Fld := ⟨.doc, 0x04c, 31, 31⟩
def DOC_RING_SEL_WING : Fld := ⟨.doc, 0x04c, 10, 10⟩
def DOC_RING_SEL_RING : Fld := ⟨.doc, 0x04c, 9, 0⟩
def DOC_REQ_BASE_LO_ADDR : Fld := ⟨.doc, 0x050, 31, 20⟩
def DOC_REQ_BASE_HI_ADDR : Fld := ⟨.doc, 0x054, 15, 0⟩
def DOC_REQ_CFG_DOORBELL : Fld := ⟨.doc, 0x058, 4, 0⟩

/-! KEY page, rules R424 -/
def KEY_CTRL_ERASE : Fld := ⟨.key, 0x040, 0, 0⟩
def KEY_SLOT_INDEX_PRIVATE : Fld := ⟨.key, 0x044, 13, 13⟩
def KEY_SLOT_INDEX_SLOT : Fld := ⟨.key, 0x044, 12, 0⟩
def KEY_SLOT_ATTR_STATE : Fld := ⟨.key, 0x048, 31, 30⟩
def KEY_SLOT_ATTR_KIND : Fld := ⟨.key, 0x048, 29, 27⟩
def KEY_SLOT_ATTR_USAGE : Fld := ⟨.key, 0x048, 26, 24⟩
def KEY_SLOT_ATTR_SYSTEM : Fld := ⟨.key, 0x048, 23, 23⟩
def KEY_SLOT_ATTR_COLL : Fld := ⟨.key, 0x048, 11, 0⟩
def KEY_SLOT_GEN_GEN : Fld := ⟨.key, 0x04c, 15, 0⟩
def KEY_SRC_OFFSET : Fld := ⟨.key, 0x050, 18, 0⟩
def KEY_WRAP_SLOT : Fld := ⟨.key, 0x054, 5, 0⟩
def KEY_CMD_CMD : Fld := ⟨.key, 0x058, 2, 0⟩
def KEY_STATUS_BUSY : Fld := ⟨.key, 0x05c, 31, 31⟩
def KEY_STATUS_RESULT : Fld := ⟨.key, 0x05c, 23, 16⟩
def KEY_STATUS_ACTIVE : Fld := ⟨.key, 0x05c, 13, 0⟩
def KEY_BIND_INDEX_INDEX : Fld := ⟨.key, 0x060, 11, 0⟩
def KEY_BIND_ID_VALID : Fld := ⟨.key, 0x064, 31, 31⟩
def KEY_BIND_ID_COLL_ID : Fld := ⟨.key, 0x064, 23, 0⟩
def KEY_BIND_SLOTS_FP_SHARED : Fld := ⟨.key, 0x068, 31, 31⟩
def KEY_BIND_SLOTS_HOME_WING : Fld := ⟨.key, 0x068, 30, 30⟩
def KEY_BIND_SLOTS_FP_SLOT : Fld := ⟨.key, 0x068, 28, 16⟩
def KEY_BIND_SLOTS_MEDIA_SLOT : Fld := ⟨.key, 0x068, 12, 0⟩
def KEY_BIND_CMD_CMD : Fld := ⟨.key, 0x06c, 1, 0⟩
def KEY_CNT_LOAD_COUNT : Fld := ⟨.key, 0x070, 31, 0⟩

/-! MSR page, rules R425 -/
def MSR_INDEX_REG : Fld := ⟨.msr, 0x040, 4, 0⟩
def MSR_CTRL_EXTEND : Fld := ⟨.msr, 0x044, 0, 0⟩
def MSR_ARMED_ARMED : Fld := ⟨.msr, 0x0a8, 23, 10⟩
def MSR_COUNT_COUNT : Fld := ⟨.msr, 0x0ac, 31, 0⟩
def MSR_USED_USED : Fld := ⟨.msr, 0x0b0, 31, 0⟩
def MSR_VALUE0_WORD : Fld := ⟨.msr, 0x048, 31, 0⟩
def MSR_INPUT0_WORD : Fld := ⟨.msr, 0x078, 31, 0⟩
def MSR_VALUE1_WORD : Fld := ⟨.msr, 0x04c, 31, 0⟩
def MSR_INPUT1_WORD : Fld := ⟨.msr, 0x07c, 31, 0⟩
def MSR_VALUE2_WORD : Fld := ⟨.msr, 0x050, 31, 0⟩
def MSR_INPUT2_WORD : Fld := ⟨.msr, 0x080, 31, 0⟩
def MSR_VALUE3_WORD : Fld := ⟨.msr, 0x054, 31, 0⟩
def MSR_INPUT3_WORD : Fld := ⟨.msr, 0x084, 31, 0⟩
def MSR_VALUE4_WORD : Fld := ⟨.msr, 0x058, 31, 0⟩
def MSR_INPUT4_WORD : Fld := ⟨.msr, 0x088, 31, 0⟩
def MSR_VALUE5_WORD : Fld := ⟨.msr, 0x05c, 31, 0⟩
def MSR_INPUT5_WORD : Fld := ⟨.msr, 0x08c, 31, 0⟩
def MSR_VALUE6_WORD : Fld := ⟨.msr, 0x060, 31, 0⟩
def MSR_INPUT6_WORD : Fld := ⟨.msr, 0x090, 31, 0⟩
def MSR_VALUE7_WORD : Fld := ⟨.msr, 0x064, 31, 0⟩
def MSR_INPUT7_WORD : Fld := ⟨.msr, 0x094, 31, 0⟩
def MSR_VALUE8_WORD : Fld := ⟨.msr, 0x068, 31, 0⟩
def MSR_INPUT8_WORD : Fld := ⟨.msr, 0x098, 31, 0⟩
def MSR_VALUE9_WORD : Fld := ⟨.msr, 0x06c, 31, 0⟩
def MSR_INPUT9_WORD : Fld := ⟨.msr, 0x09c, 31, 0⟩
def MSR_VALUE10_WORD : Fld := ⟨.msr, 0x070, 31, 0⟩
def MSR_INPUT10_WORD : Fld := ⟨.msr, 0x0a0, 31, 0⟩
def MSR_VALUE11_WORD : Fld := ⟨.msr, 0x074, 31, 0⟩
def MSR_INPUT11_WORD : Fld := ⟨.msr, 0x0a4, 31, 0⟩

/-! PRV page, rules R461 -/
def PRV_CTRL_HOLD_MS : Fld := ⟨.prv, 0x040, 31, 16⟩
def PRV_CTRL_CLEAR : Fld := ⟨.prv, 0x040, 8, 8⟩
def PRV_NEWEST_SEQ : Fld := ⟨.prv, 0x044, 31, 0⟩
def PRV_OLDEST_SEQ : Fld := ⟨.prv, 0x048, 31, 0⟩
def PRV_BUFFER_HIGH_WATER : Fld := ⟨.prv, 0x04c, 22, 16⟩
def PRV_BUFFER_HELD : Fld := ⟨.prv, 0x04c, 6, 0⟩
def PRV_LOST_COUNT : Fld := ⟨.prv, 0x050, 31, 0⟩
def PRV_HOURS_HOURS : Fld := ⟨.prv, 0x054, 31, 0⟩
def PRV_CYCLES_COUNT : Fld := ⟨.prv, 0x058, 31, 0⟩
def PRV_REC_HDR_SOURCE : Fld := ⟨.prv, 0x05c, 25, 16⟩
def PRV_REC_HDR_CODE : Fld := ⟨.prv, 0x05c, 15, 0⟩
def PRV_REC_CMD_WRITE : Fld := ⟨.prv, 0x080, 0, 0⟩
def PRV_REC_PAYLOAD0_WORD : Fld := ⟨.prv, 0x060, 31, 0⟩
def PRV_REC_PAYLOAD1_WORD : Fld := ⟨.prv, 0x064, 31, 0⟩
def PRV_REC_PAYLOAD2_WORD : Fld := ⟨.prv, 0x068, 31, 0⟩
def PRV_REC_PAYLOAD3_WORD : Fld := ⟨.prv, 0x06c, 31, 0⟩
def PRV_REC_PAYLOAD4_WORD : Fld := ⟨.prv, 0x070, 31, 0⟩
def PRV_REC_PAYLOAD5_WORD : Fld := ⟨.prv, 0x074, 31, 0⟩
def PRV_REC_PAYLOAD6_WORD : Fld := ⟨.prv, 0x078, 31, 0⟩
def PRV_REC_PAYLOAD7_WORD : Fld := ⟨.prv, 0x07c, 31, 0⟩

/-! ARC page, rules R460 -/
def ARC_QUEUE_BASE_OFFSET : Fld := ⟨.arc, 0x040, 18, 12⟩
def ARC_QUEUE_PTR_HEAD : Fld := ⟨.arc, 0x044, 21, 16⟩
def ARC_QUEUE_PTR_TAIL : Fld := ⟨.arc, 0x044, 5, 0⟩
def ARC_CQ_BASE_OFFSET : Fld := ⟨.arc, 0x048, 18, 10⟩
def ARC_CQ_PTR_TAIL : Fld := ⟨.arc, 0x04c, 21, 16⟩
def ARC_CQ_PTR_HEAD : Fld := ⟨.arc, 0x04c, 5, 0⟩
def ARC_PULSE_ERASE_MAX : Fld := ⟨.arc, 0x050, 11, 8⟩
def ARC_PULSE_PROG_MAX : Fld := ⟨.arc, 0x050, 3, 0⟩
def ARC_STATUS_BUSY : Fld := ⟨.arc, 0x054, 31, 31⟩
def ARC_STATUS_STOPPED : Fld := ⟨.arc, 0x054, 30, 30⟩
def ARC_STATUS_BOR : Fld := ⟨.arc, 0x054, 29, 29⟩
def ARC_STATUS_STOP : Fld := ⟨.arc, 0x054, 28, 28⟩
def ARC_STATUS_OFFSET : Fld := ⟨.arc, 0x054, 27, 0⟩
def ARC_FAIL_VALID : Fld := ⟨.arc, 0x058, 31, 31⟩
def ARC_FAIL_ERASE : Fld := ⟨.arc, 0x058, 30, 30⟩
def ARC_FAIL_OFFSET : Fld := ⟨.arc, 0x058, 27, 0⟩
def ARC_XO_INDEX_REGION : Fld := ⟨.arc, 0x05c, 2, 0⟩
def ARC_XO_BASE_SECTOR : Fld := ⟨.arc, 0x060, 27, 12⟩
def ARC_XO_CFG_LOCK : Fld := ⟨.arc, 0x064, 31, 31⟩
def ARC_XO_CFG_LOCKED : Fld := ⟨.arc, 0x064, 30, 30⟩
def ARC_XO_CFG_FETCH : Fld := ⟨.arc, 0x064, 29, 28⟩
def ARC_XO_CFG_SECTORS : Fld := ⟨.arc, 0x064, 15, 0⟩
def ARC_CNT_PROG_COUNT : Fld := ⟨.arc, 0x068, 31, 0⟩
def ARC_CNT_ERASE_COUNT : Fld := ⟨.arc, 0x06c, 31, 0⟩

/-! UPD page, rules R462 -/
def UPD_CTRL_ABORT : Fld := ⟨.upd, 0x040, 9, 9⟩
def UPD_CTRL_WRITE : Fld := ⟨.upd, 0x040, 8, 8⟩
def UPD_CTRL_SLOT : Fld := ⟨.upd, 0x040, 1, 0⟩
def UPD_STAGE_LO_ADDR : Fld := ⟨.upd, 0x044, 31, 12⟩
def UPD_STAGE_HI_ADDR : Fld := ⟨.upd, 0x048, 15, 0⟩
def UPD_LENGTH_BYTES : Fld := ⟨.upd, 0x04c, 31, 0⟩
def UPD_STATUS_BUSY : Fld := ⟨.upd, 0x050, 31, 31⟩
def UPD_STATUS_RECOVERED : Fld := ⟨.upd, 0x050, 30, 30⟩
def UPD_STATUS_RESULT : Fld := ⟨.upd, 0x050, 23, 16⟩
def UPD_STATUS_SECTORS_LEFT : Fld := ⟨.upd, 0x050, 15, 0⟩
def UPD_SLOTS_STATE : Fld := ⟨.upd, 0x054, 15, 0⟩
def UPD_CONFIRM_RAISE_OS : Fld := ⟨.upd, 0x058, 5, 5⟩
def UPD_CONFIRM_RAISE_DOC : Fld := ⟨.upd, 0x058, 4, 4⟩
def UPD_CONFIRM_OS : Fld := ⟨.upd, 0x058, 1, 1⟩
def UPD_CONFIRM_DOC : Fld := ⟨.upd, 0x058, 0, 0⟩
def UPD_TRIAL_LEFT : Fld := ⟨.upd, 0x05c, 31, 16⟩
def UPD_TRIAL_SECONDS : Fld := ⟨.upd, 0x05c, 15, 0⟩
def UPD_SVN_OS_SVN : Fld := ⟨.upd, 0x060, 31, 16⟩
def UPD_SVN_DOC_SVN : Fld := ⟨.upd, 0x060, 15, 0⟩
def UPD_FLOOR_OS : Fld := ⟨.upd, 0x064, 13, 8⟩
def UPD_FLOOR_DOC : Fld := ⟨.upd, 0x064, 5, 0⟩
def UPD_MAILBOX_DOORBELL : Fld := ⟨.upd, 0x068, 4, 0⟩

/-! ALM page, rules R426 -/
def ALM_ENABLE_ALARMS : Fld := ⟨.alm, 0x040, 11, 0⟩
def ALM_STATUS_ACTIVE : Fld := ⟨.alm, 0x044, 11, 0⟩
def ALM_LAST_VALID : Fld := ⟨.alm, 0x048, 31, 31⟩
def ALM_LAST_ALARM : Fld := ⟨.alm, 0x048, 4, 0⟩
def ALM_COUNT_COUNT : Fld := ⟨.alm, 0x04c, 15, 0⟩
def ALM_TEMP_TRIP_C : Fld := ⟨.alm, 0x050, 7, 0⟩
def ALM_FORCE_FORCE : Fld := ⟨.alm, 0x054, 0, 0⟩
def ALM_HOLD_RESET_US : Fld := ⟨.alm, 0x058, 15, 0⟩

/-! RSV page, rules R511 -/
def RSV_CTRL_CLEAR_FAULT : Fld := ⟨.rsv, 0x040, 8, 8⟩
def RSV_CTRL_MODE : Fld := ⟨.rsv, 0x040, 2, 0⟩
def RSV_STATUS_MODE : Fld := ⟨.rsv, 0x044, 31, 29⟩
def RSV_STATUS_PHASE_A_OFF : Fld := ⟨.rsv, 0x044, 28, 28⟩
def RSV_STATUS_PHASE_B_OFF : Fld := ⟨.rsv, 0x044, 27, 27⟩
def RSV_STATUS_FAULTS : Fld := ⟨.rsv, 0x044, 21, 16⟩
def RSV_STATUS_STALE : Fld := ⟨.rsv, 0x044, 15, 12⟩
def RSV_STATUS_FROZEN : Fld := ⟨.rsv, 0x044, 11, 8⟩
def RSV_STATUS_MAINS_OK : Fld := ⟨.rsv, 0x044, 1, 1⟩
def RSV_STATUS_BUS_TRIPPED : Fld := ⟨.rsv, 0x044, 0, 0⟩
def RSV_ADC_V_VBUS : Fld := ⟨.rsv, 0x048, 27, 16⟩
def RSV_ADC_V_VBANK : Fld := ⟨.rsv, 0x048, 11, 0⟩
def RSV_ADC_I_IA : Fld := ⟨.rsv, 0x04c, 27, 16⟩
def RSV_ADC_I_IB : Fld := ⟨.rsv, 0x04c, 11, 0⟩
def RSV_SET_VBUS_SET : Fld := ⟨.rsv, 0x050, 27, 16⟩
def RSV_SET_VBANK_TARGET : Fld := ⟨.rsv, 0x050, 11, 0⟩
def RSV_CHARGE_HYST : Fld := ⟨.rsv, 0x054, 27, 16⟩
def RSV_CHARGE_CURRENT : Fld := ⟨.rsv, 0x054, 11, 0⟩
def RSV_DUTY_LIM_D_MAX : Fld := ⟨.rsv, 0x058, 31, 16⟩
def RSV_DUTY_LIM_D_MIN : Fld := ⟨.rsv, 0x058, 15, 0⟩
def RSV_IMAX_TRIP : Fld := ⟨.rsv, 0x05c, 27, 16⟩
def RSV_IMAX_IMAX : Fld := ⟨.rsv, 0x05c, 11, 0⟩
def RSV_PWM_SETUP : Fld := ⟨.rsv, 0x060, 31, 24⟩
def RSV_PWM_DEAD : Fld := ⟨.rsv, 0x060, 23, 16⟩
def RSV_PWM_PERIOD : Fld := ⟨.rsv, 0x060, 15, 0⟩
def RSV_DUTY_A : Fld := ⟨.rsv, 0x064, 31, 16⟩
def RSV_DUTY_B : Fld := ⟨.rsv, 0x064, 15, 0⟩
def RSV_COMMIT_GO : Fld := ⟨.rsv, 0x068, 0, 0⟩
def RSV_BAND_V_T2 : Fld := ⟨.rsv, 0x06c, 27, 16⟩
def RSV_BAND_V_T1 : Fld := ⟨.rsv, 0x06c, 11, 0⟩
def RSV_BAND_W_LOAD : Fld := ⟨.rsv, 0x070, 27, 16⟩
def RSV_BAND_W_T3 : Fld := ⟨.rsv, 0x070, 11, 0⟩
def RSV_COEF_INDEX_WORD : Fld := ⟨.rsv, 0x074, 4, 4⟩
def RSV_COEF_INDEX_SET : Fld := ⟨.rsv, 0x074, 3, 0⟩
def RSV_COEF_DATA_DATA : Fld := ⟨.rsv, 0x078, 31, 0⟩
def RSV_FF_INDEX_ENTRY : Fld := ⟨.rsv, 0x07c, 5, 0⟩
def RSV_FF_DATA_RECIP : Fld := ⟨.rsv, 0x080, 31, 16⟩
def RSV_FF_DATA_SCALE : Fld := ⟨.rsv, 0x080, 15, 0⟩
def RSV_PH_INDEX_ENTRY : Fld := ⟨.rsv, 0x084, 4, 0⟩
def RSV_PH_DATA_CORR : Fld := ⟨.rsv, 0x088, 15, 0⟩
def RSV_FAIL_TRIP : Fld := ⟨.rsv, 0x08c, 27, 16⟩
def RSV_FAIL_I_PRESET : Fld := ⟨.rsv, 0x08c, 11, 0⟩
def RSV_LIMP_MAX_MS : Fld := ⟨.rsv, 0x090, 31, 16⟩
def RSV_LIMP_DECAY : Fld := ⟨.rsv, 0x090, 15, 8⟩
def RSV_LIMP_MOVE : Fld := ⟨.rsv, 0x090, 7, 0⟩
def RSV_BANK_CAP_MF : Fld := ⟨.rsv, 0x094, 31, 16⟩
def RSV_BANK_VMIN_MV : Fld := ⟨.rsv, 0x094, 15, 0⟩
def RSV_BANK_LIM_CAP_MIN_MF : Fld := ⟨.rsv, 0x098, 31, 16⟩
def RSV_BANK_LIM_ESR_MAX : Fld := ⟨.rsv, 0x098, 15, 0⟩
def RSV_ALLOW_CFG_POWER_W : Fld := ⟨.rsv, 0x09c, 31, 20⟩
def RSV_ALLOW_CFG_RESERVE_MS : Fld := ⟨.rsv, 0x09c, 19, 8⟩
def RSV_ALLOW_CFG_RATE : Fld := ⟨.rsv, 0x09c, 7, 0⟩
def RSV_ALLOW_MIB : Fld := ⟨.rsv, 0x0a0, 31, 16⟩
def RSV_ALLOW_TIME_MS : Fld := ⟨.rsv, 0x0a0, 15, 0⟩
def RSV_DUMP_STATE : Fld := ⟨.rsv, 0x0a4, 31, 29⟩
def RSV_DUMP_READY : Fld := ⟨.rsv, 0x0a4, 28, 28⟩
def RSV_DUMP_KEY_FRESH : Fld := ⟨.rsv, 0x0a4, 27, 27⟩
def RSV_DUMP_KEY_SLOT : Fld := ⟨.rsv, 0x0a4, 21, 16⟩
def RSV_DUMP_MIB_DONE : Fld := ⟨.rsv, 0x0a4, 15, 0⟩
def RSV_DUMP_TIME_MS : Fld := ⟨.rsv, 0x0a8, 31, 0⟩
def RSV_HEALTH_BUSY : Fld := ⟨.rsv, 0x0ac, 31, 31⟩
def RSV_HEALTH_START : Fld := ⟨.rsv, 0x0ac, 30, 30⟩
def RSV_HEALTH_CURRENT : Fld := ⟨.rsv, 0x0ac, 27, 16⟩
def RSV_HEALTH_MS : Fld := ⟨.rsv, 0x0ac, 9, 0⟩
def RSV_HEALTH_RESULT_VALID : Fld := ⟨.rsv, 0x0b0, 31, 31⟩
def RSV_HEALTH_RESULT_CAP_MF : Fld := ⟨.rsv, 0x0b0, 30, 16⟩
def RSV_HEALTH_RESULT_ESR : Fld := ⟨.rsv, 0x0b0, 15, 0⟩
def RSV_CNT_LATE_COUNT : Fld := ⟨.rsv, 0x0b4, 31, 0⟩
def RSV_CNT_DEFER_COUNT : Fld := ⟨.rsv, 0x0b8, 31, 0⟩
def RSV_CNT_TRIP_COUNT : Fld := ⟨.rsv, 0x0bc, 31, 0⟩

/-! WDG page, rules R463 -/
def WDG_INDEX_WATCHDOG : Fld := ⟨.wdg, 0x040, 1, 0⟩
def WDG_CFG_ENABLE : Fld := ⟨.wdg, 0x044, 31, 31⟩
def WDG_CFG_RESET : Fld := ⟨.wdg, 0x044, 30, 30⟩
def WDG_CFG_EVENT_FEED : Fld := ⟨.wdg, 0x044, 29, 29⟩
def WDG_CFG_FEED_EVENT : Fld := ⟨.wdg, 0x044, 25, 16⟩
def WDG_CFG_TIMEOUT_MS : Fld := ⟨.wdg, 0x044, 15, 0⟩
def WDG_FEED_FEED : Fld := ⟨.wdg, 0x048, 2, 0⟩
def WDG_LEFT_MICROS : Fld := ⟨.wdg, 0x04c, 31, 0⟩
def WDG_GRACE_RESET_US : Fld := ⟨.wdg, 0x050, 15, 0⟩
def WDG_EXPIRED_COUNT : Fld := ⟨.wdg, 0x054, 31, 0⟩

end Sys2Proof.Machine.Reg
end

