-- ==== Sys2Proof/Machine/RegTable.lean ====
section
/-! DEFINITION. The register tables of the spec, one row per register: offset, fields (bits, access class, reset entry,
encodings the field admits), which wing's page holds the register, and the index field that selects its entry where the
register is a window onto a table. Read from the "Bits | Field | Access | Reset" tables of the pages' rules (R53, R80, R81,
R49, R114, R116, R141, R179, R180, R212 to R214, R245 to R248, R275, R303, R336 to R338, R361, R393 to R396, R423 to R426,
R460 to R463, R481, R511). Reserved bits (RSV) are the bits no field names. -/

namespace Sys2Proof.Machine

/-- The common page header (R53). -/
def regsHdr : List RegDef := [
  -- ID
  ⟨0x000, [⟨31, 26, .ro, 0, .any⟩, ⟨25, 25, .ro, 0, .any⟩, ⟨24, 24, .ro, 0, .any⟩, ⟨20, 16, .ro, 0, .any⟩, ⟨15, 8, .ro, 0, .any⟩, ⟨7, 0, .ro, 0, .any⟩], .own, none, .single⟩,
  -- CAP
  ⟨0x004, [⟨31, 24, .ro, 0, .any⟩, ⟨23, 0, .ro, 0, .any⟩], .own, none, .single⟩,
  -- CTRL
  ⟨0x008, [⟨3, 3, .rwl, 0, .any⟩, ⟨2, 2, .w1s, 0, .any⟩, ⟨1, 1, .rwl, 0, .any⟩, ⟨0, 0, .rwl, 0, .any⟩], .own, none, .single⟩,
  -- STATUS
  ⟨0x00c, [⟨4, 4, .ro, 0, .any⟩, ⟨3, 3, .ro, 0, .any⟩, ⟨2, 2, .ro, 0, .any⟩, ⟨1, 1, .ro, 0, .any⟩, ⟨0, 0, .ro, 0, .any⟩], .own, none, .single⟩,
  -- EVT_STATUS
  ⟨0x010, [⟨31, 0, .w1c, 0, .any⟩], .own, none, .single⟩,
  -- EVT_ENABLE
  ⟨0x014, [⟨31, 0, .rw, 0, .any⟩], .own, none, .single⟩,
  -- EVT_FORCE
  ⟨0x018, [⟨31, 0, .wo, 0, .any⟩], .own, none, .single⟩,
  -- EVT_BASE
  ⟨0x01c, [⟨9, 0, .ro, 0, .any⟩], .own, none, .single⟩,
  -- ERR_INFO
  ⟨0x020, [⟨31, 31, .w1c, 0, .any⟩, ⟨30, 24, .ro, 0, .any⟩, ⟨23, 16, .ro, 0, .any⟩, ⟨15, 15, .ro, 0, .any⟩, ⟨3, 0, .ro, 0, .any⟩], .own, none, .single⟩,
  -- ERR_ADDR_LO
  ⟨0x024, [⟨31, 0, .ro, 0, .any⟩], .own, none, .lo⟩,
  -- ERR_ADDR_HI
  ⟨0x028, [⟨15, 0, .ro, 0, .any⟩], .own, none, .hi⟩,
  -- RUNG
  ⟨0x030, [⟨31, 31, .ro, 0, .any⟩, ⟨18, 16, .ro, 0, .any⟩, ⟨15, 8, .ro, 0, .any⟩, ⟨2, 0, .rwl, 0, .within 0 4⟩], .own, none, .single⟩,
  -- OWNER
  ⟨0x034, [⟨31, 31, .ro, 0, .any⟩, ⟨30, 30, .rw, 0, .any⟩, ⟨7, 0, .rw, 255, .oneOf (255 :: List.range 52)⟩], .own, none, .single⟩,
  -- SCRATCH
  ⟨0x038, [⟨31, 0, .rw, 0, .any⟩], .own, none, .single⟩,
  -- COMMIT
  ⟨0x03c, [⟨31, 16, .ro, 0, .any⟩, ⟨0, 0, .w1s, 0, .any⟩], .own, none, .single⟩]

/-- The registers of the CHP page after the header. -/
def regsChp : List RegDef := [
  -- CHP_PART
  ⟨0x040, [⟨15, 0, .ro, 33792, .any⟩], .own, none, .single⟩,
  -- CHP_STEPPING
  ⟨0x044, [⟨15, 8, .ro, 10, .any⟩, ⟨7, 0, .ro, 1, .any⟩], .own, none, .single⟩,
  -- CHP_WING
  ⟨0x048, [⟨0, 0, .ro, 0, .any⟩], .own, none, .single⟩,
  -- CHP_STRAPS
  ⟨0x04c, [⟨15, 0, .ro, 0, .any⟩], .own, none, .single⟩,
  -- CHP_UID_LO
  ⟨0x050, [⟨31, 0, .ro, 0, .any⟩], .own, none, .lo⟩,
  -- CHP_UID_HI
  ⟨0x054, [⟨31, 0, .ro, 0, .any⟩], .own, none, .hi⟩,
  -- CHP_LIFECYCLE
  ⟨0x058, [⟨31, 31, .ro, 0, .any⟩, ⟨2, 0, .ro, 0, .any⟩], .own, none, .single⟩,
  -- CHP_BUS_ERR_INFO
  ⟨0x05c, [⟨31, 31, .w1c, 0, .any⟩, ⟨30, 24, .ro, 0, .any⟩, ⟨23, 16, .ro, 0, .any⟩, ⟨15, 15, .ro, 0, .any⟩, ⟨3, 0, .ro, 0, .any⟩], .own, none, .single⟩,
  -- CHP_BUS_ERR_ADDR_LO
  ⟨0x060, [⟨31, 0, .ro, 0, .any⟩], .own, none, .lo⟩,
  -- CHP_BUS_ERR_ADDR_HI
  ⟨0x064, [⟨15, 0, .ro, 0, .any⟩], .own, none, .hi⟩,
  -- CHP_RESET_CAUSE
  ⟨0x068, [⟨5, 5, .w1c, 0, .any⟩, ⟨4, 4, .w1c, 0, .any⟩, ⟨3, 3, .w1c, 0, .any⟩, ⟨2, 2, .w1c, 0, .any⟩, ⟨1, 1, .w1c, 0, .any⟩, ⟨0, 0, .w1c, 0, .any⟩], .own, none, .single⟩]

/-- The registers of the FRM page after the header. -/
def regsFrm : List RegDef := [
  -- FRM_CTRL
  ⟨0x040, [⟨12, 12, .w1s, 0, .any⟩, ⟨8, 8, .rwl, 0, .any⟩, ⟨5, 4, .ro, 1, .any⟩, ⟨1, 0, .rwf, 0, .within 0 2⟩], .east, none, .single⟩,
  -- FRM_LENGTH_SET
  ⟨0x044, [⟨19, 16, .ro, 0, .any⟩, ⟨8, 8, .w1s, 0, .any⟩, ⟨1, 0, .rw, 1, .within 0 2⟩], .east, none, .single⟩,
  -- FRM_LOCK
  ⟨0x048, [⟨31, 16, .ro, 0, .any⟩, ⟨11, 8, .ro, 0, .any⟩, ⟨7, 4, .ro, 0, .any⟩, ⟨1, 0, .ro, 0, .any⟩], .own, none, .single⟩,
  -- FRM_SLOT
  ⟨0x04c, [⟨24, 16, .ro, 250, .any⟩, ⟨4, 0, .ro, 0, .any⟩], .own, none, .single⟩,
  -- FRM_FRAME_LO
  ⟨0x050, [⟨31, 0, .ro, 0, .any⟩], .own, none, .lo⟩,
  -- FRM_FRAME_HI
  ⟨0x054, [⟨15, 0, .ro, 0, .any⟩], .own, none, .hi⟩,
  -- FRM_WIRE
  ⟨0x058, [⟨31, 16, .ro, 0, .any⟩, ⟨15, 0, .ro, 0, .any⟩], .own, none, .single⟩,
  -- FRM_TRIM
  ⟨0x05c, [⟨5, 0, .rwf, 32, .any⟩], .east, none, .single⟩,
  -- FRM_SLIP_TICK
  ⟨0x060, [⟨31, 24, .ro, 0, .any⟩, ⟨23, 0, .ro, 0, .any⟩], .own, none, .single⟩,
  -- FRM_SLIP_BUILD
  ⟨0x064, [⟨31, 24, .ro, 0, .any⟩, ⟨23, 0, .ro, 0, .any⟩], .own, none, .single⟩,
  -- FRM_SLIP_WORK
  ⟨0x068, [⟨31, 24, .ro, 0, .any⟩, ⟨23, 0, .ro, 0, .any⟩], .own, none, .single⟩,
  -- FRM_SLIP_THRESH
  ⟨0x06c, [⟨10, 0, .rwf, 16, .any⟩], .east, none, .single⟩,
  -- FRM_PTP_OFFSET
  ⟨0x070, [⟨31, 0, .rwl, 0, .any⟩], .east, none, .single⟩,
  -- FRM_PTP_CTRL
  ⟨0x074, [⟨31, 31, .ro, 0, .any⟩, ⟨23, 16, .rw, 50, .any⟩, ⟨11, 0, .rw, 400, .any⟩], .east, none, .single⟩,
  -- FRM_TIME_LO
  ⟨0x078, [⟨31, 0, .ro, 0, .any⟩], .own, none, .lo⟩,
  -- FRM_TIME_HI
  ⟨0x07c, [⟨31, 0, .ro, 0, .any⟩], .own, none, .hi⟩]

/-- The registers of the EVT page after the header. -/
def regsEvt : List RegDef := [
  -- EVT_CTRL
  ⟨0x040, [⟨5, 0, .rwl, 0, .any⟩], .own, none, .single⟩,
  -- EVT_ROUTE_INDEX
  ⟨0x044, [⟨16, 16, .rw, 0, .any⟩, ⟨9, 0, .rw, 0, .any⟩], .own, none, .single⟩,
  -- EVT_ROUTE_DATA
  ⟨0x048, [⟨31, 31, .rwl, 0, .any⟩, ⟨30, 30, .ro, 0, .any⟩, ⟨29, 28, .rwl, 0, .any⟩, ⟨27, 24, .rwl, 0, .any⟩, ⟨22, 22, .rwl, 0, .any⟩, ⟨21, 16, .rwl, 0, .any⟩, ⟨10, 0, .rwl, 0, .any⟩], .shared, some ⟨0x044, 9, 0⟩, .single⟩,
  -- EVT_SW_RAISE
  ⟨0x04c, [⟨4, 0, .wo, 0, .any⟩], .own, none, .single⟩,
  -- EVT_SW_STATUS
  ⟨0x050, [⟨31, 0, .w1c, 0, .any⟩], .shared, none, .single⟩,
  -- EVT_SW_ENABLE
  ⟨0x054, [⟨31, 0, .rw, 0, .any⟩], .shared, none, .single⟩,
  -- EVT_WG_INDEX
  ⟨0x058, [⟨5, 0, .rw, 0, .any⟩], .own, none, .single⟩,
  -- EVT_WG_MEMBERS_LO
  ⟨0x05c, [⟨31, 0, .rwl, 0, .any⟩], .shared, some ⟨0x058, 5, 0⟩, .lo⟩,
  -- EVT_WG_MEMBERS_HI
  ⟨0x060, [⟨19, 0, .rwl, 0, .any⟩], .shared, some ⟨0x058, 5, 0⟩, .hi⟩,
  -- EVT_WG_TIMEOUT
  ⟨0x064, [⟨19, 0, .rwl, 1000, .atLeast 10⟩], .shared, some ⟨0x058, 5, 0⟩, .single⟩,
  -- EVT_WG_RESCUE
  ⟨0x068, [⟨31, 31, .rwl, 0, .any⟩, ⟨26, 16, .rwl, 0, .any⟩, ⟨5, 0, .rwl, 0, .any⟩], .shared, some ⟨0x058, 5, 0⟩, .single⟩,
  -- EVT_WG_STATE
  ⟨0x06c, [⟨31, 31, .ro, 0, .any⟩, ⟨25, 20, .ro, 0, .any⟩, ⟨19, 0, .ro, 0, .any⟩], .shared, some ⟨0x058, 5, 0⟩, .single⟩,
  -- EVT_WG_WAKE
  ⟨0x070, [⟨5, 0, .wo, 0, .any⟩], .own, none, .single⟩,
  -- EVT_WG_STALLED_LO
  ⟨0x074, [⟨31, 0, .w1c, 0, .any⟩], .shared, none, .lo⟩,
  -- EVT_WG_STALLED_HI
  ⟨0x078, [⟨31, 0, .w1c, 0, .any⟩], .shared, none, .hi⟩,
  -- EVT_FALLBACK_COUNT
  ⟨0x07c, [⟨31, 0, .ro, 0, .any⟩], .own, none, .single⟩]

/-- The registers of the PWR page after the header. -/
def regsPwr : List RegDef := [
  -- PWR_MODE
  ⟨0x040, [⟨31, 31, .ro, 0, .any⟩, ⟨9, 8, .wo, 0, .any⟩, ⟨1, 0, .ro, 0, .any⟩], .east, none, .single⟩,
  -- PWR_IDLE
  ⟨0x044, [⟨31, 16, .rwf, 100, .atLeast 10⟩, ⟨15, 0, .rwf, 50, .any⟩], .own, none, .single⟩,
  -- PWR_CORE_INDEX
  ⟨0x048, [⟨4, 0, .rw, 0, .within 0 25⟩], .own, none, .single⟩,
  -- PWR_CORE_RUNG
  ⟨0x04c, [⟨31, 31, .ro, 0, .any⟩, ⟨18, 16, .ro, 0, .any⟩, ⟨15, 8, .ro, 0, .any⟩, ⟨2, 0, .rwl, 0, .oneOf [0, 3, 4]⟩], .own, some ⟨0x048, 4, 0⟩, .single⟩,
  -- PWR_WAKE
  ⟨0x050, [⟨7, 0, .rwl, 0, .any⟩], .east, none, .single⟩,
  -- PWR_DROOP
  ⟨0x054, [⟨15, 8, .rwf, 10, .within 1 255⟩, ⟨1, 1, .rwl, 1, .any⟩, ⟨0, 0, .rwl, 1, .any⟩], .own, none, .single⟩,
  -- PWR_AVS
  ⟨0x058, [⟨31, 16, .rwf, 50, .atLeast 10⟩, ⟨15, 8, .rwf, 30, .within 0 50⟩, ⟨7, 0, .rwf, 10, .within 1 255⟩], .own, none, .single⟩,
  -- PWR_OPP
  ⟨0x05c, [⟨25, 24, .rwf, 3, .any⟩, ⟨9, 8, .ro, 0, .any⟩, ⟨5, 4, .ro, 0, .any⟩, ⟨1, 0, .ro, 0, .any⟩], .own, none, .single⟩,
  -- PWR_STRETCH
  ⟨0x060, [⟨31, 16, .ro, 0, .any⟩, ⟨15, 0, .ro, 0, .any⟩], .own, none, .single⟩,
  -- PWR_TEMP
  ⟨0x064, [⟨31, 24, .ro, 0, .any⟩, ⟨23, 16, .ro, 0, .any⟩, ⟨4, 0, .ro, 0, .any⟩], .own, none, .single⟩,
  -- PWR_THERM
  ⟨0x068, [⟨23, 16, .rwf, 95, .within 85 100⟩, ⟨15, 8, .rwf, 103, .within 90 105⟩, ⟨7, 0, .rwf, 95, .within 70 105⟩], .own, none, .single⟩,
  -- PWR_CNT_SAG
  ⟨0x06c, [⟨31, 0, .ro, 0, .any⟩], .own, none, .single⟩]

/-- The registers of the FOY page after the header. -/
def regsFoy : List RegDef := [
  -- FOY_PORT_MODE
  ⟨0x040, [⟨11, 8, .rwq, 15, .any⟩, ⟨4, 4, .rwq, 1, .any⟩, ⟨3, 2, .rwq, 0, .within 0 2⟩, ⟨1, 0, .rwq, 0, .within 0 2⟩], .own, none, .single⟩,
  -- FOY_LINK_STATUS
  ⟨0x044, [⟨31, 28, .ro, 0, .any⟩, ⟨15, 12, .ro, 0, .any⟩, ⟨3, 0, .ro, 0, .any⟩], .own, none, .single⟩,
  -- FOY_PFC
  ⟨0x048, [⟨31, 24, .rwl, 100, .any⟩, ⟨23, 16, .rwq, 24, .any⟩, ⟨10, 8, .rwq, 4, .any⟩, ⟨2, 0, .rwq, 3, .any⟩], .own, none, .single⟩,
  -- FOY_ECN
  ⟨0x04c, [⟨16, 16, .rwl, 1, .any⟩, ⟨15, 8, .rwl, 128, .any⟩, ⟨7, 0, .rwl, 55, .within 1 255⟩], .own, none, .single⟩,
  -- FOY_MTU
  ⟨0x050, [⟨13, 0, .rwq, 9216, .within 1500 9216⟩], .own, none, .single⟩,
  -- FOY_TS
  ⟨0x054, [⟨0, 0, .rwl, 0, .any⟩], .own, none, .single⟩,
  -- FOY_CNT_BAD
  ⟨0x058, [⟨31, 0, .ro, 0, .any⟩], .own, none, .single⟩,
  -- FOY_CNT_PI
  ⟨0x05c, [⟨31, 0, .ro, 0, .any⟩], .own, none, .single⟩,
  -- FOY_CNT_CID
  ⟨0x060, [⟨31, 0, .ro, 0, .any⟩], .own, none, .single⟩]

/-- The registers of the FOQ page after the header. -/
def regsFoq : List RegDef := [
  -- FOQ_CTRL
  ⟨0x040, [⟨8, 8, .w1s, 0, .any⟩, ⟨0, 0, .rwl, 1, .any⟩], .own, none, .single⟩,
  -- FOQ_FETCH
  ⟨0x044, [⟨31, 31, .ro, 0, .any⟩, ⟨2, 2, .ro, 0, .any⟩, ⟨1, 1, .ro, 0, .any⟩, ⟨0, 0, .ro, 0, .any⟩], .own, none, .single⟩,
  -- FOQ_TAGS
  ⟨0x048, [⟨31, 16, .ro, 0, .any⟩, ⟨15, 0, .ro, 0, .any⟩], .own, none, .single⟩,
  -- FOQ_BOUND_HYST
  ⟨0x04c, [⟨11, 0, .rwf, 256, .within 1 4095⟩], .own, none, .single⟩,
  -- FOQ_STALL_FRAMES
  ⟨0x050, [⟨31, 0, .ro, 0, .any⟩], .own, none, .single⟩,
  -- FOQ_STALL_THRESH
  ⟨0x054, [⟨15, 0, .rwf, 125, .any⟩], .own, none, .single⟩,
  -- FOQ_CTX_INDEX
  ⟨0x058, [⟨14, 0, .rw, 0, .any⟩], .own, none, .single⟩,
  -- FOQ_CTX_BIND
  ⟨0x05c, [⟨31, 30, .rwl, 0, .any⟩, ⟨29, 29, .rwl, 0, .any⟩, ⟨12, 0, .rwl, 0, .any⟩], .own, some ⟨0x058, 14, 0⟩, .single⟩,
  -- FOQ_CTX_STATE
  ⟨0x060, [⟨31, 31, .ro, 0, .any⟩, ⟨30, 30, .ro, 0, .any⟩, ⟨27, 16, .ro, 0, .any⟩, ⟨15, 0, .ro, 0, .any⟩], .own, some ⟨0x058, 14, 0⟩, .single⟩,
  -- FOQ_COLL_INDEX
  ⟨0x064, [⟨11, 0, .rw, 0, .any⟩], .own, none, .single⟩,
  -- FOQ_COLL_RATE
  ⟨0x068, [⟨15, 0, .rwf, 0, .any⟩], .shared, some ⟨0x064, 11, 0⟩, .single⟩,
  -- FOQ_COLL_BURST
  ⟨0x06c, [⟨31, 31, .rwf, 0, .any⟩, ⟨19, 0, .rwf, 512, .any⟩], .shared, some ⟨0x064, 11, 0⟩, .single⟩,
  -- FOQ_COLL_BANK
  ⟨0x070, [⟨23, 0, .ro, 0, .any⟩], .shared, some ⟨0x064, 11, 0⟩, .single⟩,
  -- FOQ_POOL
  ⟨0x074, [⟨31, 16, .rwf, 4096, .any⟩, ⟨15, 0, .ro, 0, .any⟩], .own, none, .single⟩,
  -- FOQ_FUSED
  ⟨0x078, [⟨31, 16, .ro, 0, .any⟩, ⟨15, 0, .rw, 30000, .atLeast 1000⟩], .own, none, .single⟩]

/-- The registers of the MFT page after the header. -/
def regsMft : List RegDef := [
  -- MFT_CTRL
  ⟨0x040, [⟨13, 8, .rwq, 26, .any⟩, ⟨0, 0, .rwl, 0, .any⟩], .own, none, .single⟩,
  -- MFT_NODE
  ⟨0x044, [⟨13, 0, .rwq, 0, .any⟩], .east, none, .single⟩,
  -- MFT_UDP
  ⟨0x048, [⟨15, 0, .rwq, 49713, .any⟩], .east, none, .single⟩,
  -- MFT_CC
  ⟨0x04c, [⟨31, 19, .rwf, 4096, .within 1 4096⟩, ⟨15, 4, .rwf, 64, .within 1 4095⟩, ⟨3, 0, .rwf, 1, .within 1 15⟩], .own, none, .single⟩,
  -- MFT_CC_MD
  ⟨0x050, [⟨23, 16, .rwf, 128, .any⟩, ⟨15, 8, .rwf, 64, .any⟩, ⟨7, 0, .rwf, 1, .within 1 255⟩], .own, none, .single⟩,
  -- MFT_TIMER
  ⟨0x054, [⟨31, 16, .rwf, 1000, .any⟩, ⟨15, 0, .rwf, 25, .atLeast 25⟩], .own, none, .single⟩,
  -- MFT_RETRY
  ⟨0x058, [⟨31, 24, .rwf, 20, .any⟩, ⟨19, 16, .rwf, 7, .any⟩, ⟨3, 0, .rwf, 7, .any⟩], .own, none, .single⟩,
  -- MFT_ACK
  ⟨0x05c, [⟨15, 8, .rwf, 40, .within 1 60⟩, ⟨7, 0, .rwf, 16, .within 1 255⟩], .own, none, .single⟩,
  -- MFT_CTX_INDEX
  ⟨0x060, [⟨14, 0, .rw, 0, .any⟩], .own, none, .single⟩,
  -- MFT_CTX_PEER
  ⟨0x064, [⟨13, 0, .rw, 0, .any⟩], .own, some ⟨0x060, 14, 0⟩, .single⟩,
  -- MFT_CTX_CONN
  ⟨0x068, [⟨23, 0, .rw, 0, .any⟩], .own, some ⟨0x060, 14, 0⟩, .single⟩,
  -- MFT_CTX_PATH
  ⟨0x06c, [⟨31, 20, .rw, 0, .any⟩, ⟨19, 8, .rw, 0, .any⟩, ⟨7, 6, .rw, 2, .within 0 2⟩, ⟨5, 3, .rw, 0, .any⟩, ⟨2, 1, .rw, 0, .any⟩], .own, some ⟨0x060, 14, 0⟩, .single⟩,
  -- MFT_CTX_CACHE_LO
  ⟨0x070, [⟨31, 16, .rw, 0, .any⟩], .own, some ⟨0x060, 14, 0⟩, .lo⟩,
  -- MFT_CTX_CACHE_HI
  ⟨0x074, [⟨15, 0, .rw, 0, .any⟩], .own, some ⟨0x060, 14, 0⟩, .hi⟩,
  -- MFT_CTX_CMD
  ⟨0x078, [⟨1, 0, .wo, 0, .any⟩], .own, some ⟨0x060, 14, 0⟩, .single⟩,
  -- MFT_CTX_STATE
  ⟨0x07c, [⟨31, 30, .ro, 0, .any⟩, ⟨23, 16, .ro, 0, .any⟩, ⟨12, 0, .ro, 0, .any⟩], .own, some ⟨0x060, 14, 0⟩, .single⟩,
  -- MFT_CTX_COLL
  ⟨0x080, [⟨31, 31, .ro, 0, .any⟩, ⟨23, 0, .ro, 0, .any⟩], .own, some ⟨0x060, 14, 0⟩, .single⟩,
  -- MFT_CTX_SND_NEXT
  ⟨0x084, [⟨31, 0, .rwq, 0, .any⟩], .own, some ⟨0x060, 14, 0⟩, .single⟩,
  -- MFT_CTX_RCV_NEXT
  ⟨0x088, [⟨31, 0, .rwq, 0, .any⟩], .own, some ⟨0x060, 14, 0⟩, .single⟩,
  -- MFT_CTX_RECV
  ⟨0x08c, [⟨10, 0, .ro, 0, .any⟩], .own, some ⟨0x060, 14, 0⟩, .single⟩,
  -- MFT_REGION_INDEX
  ⟨0x090, [⟨13, 0, .rw, 0, .any⟩], .own, none, .single⟩,
  -- MFT_REGION_BASE_LO
  ⟨0x094, [⟨31, 12, .rwl, 0, .any⟩], .own, some ⟨0x090, 13, 0⟩, .lo⟩,
  -- MFT_REGION_BASE_HI
  ⟨0x098, [⟨15, 0, .rwl, 0, .any⟩], .own, some ⟨0x090, 13, 0⟩, .hi⟩,
  -- MFT_REGION_LEN
  ⟨0x09c, [⟨23, 0, .rwl, 0, .any⟩], .own, some ⟨0x090, 13, 0⟩, .single⟩,
  -- MFT_REGION_ATTR
  ⟨0x0a0, [⟨31, 31, .rwl, 0, .any⟩, ⟨27, 27, .rwl, 0, .any⟩, ⟨26, 26, .rwl, 0, .any⟩, ⟨25, 25, .rwl, 0, .any⟩, ⟨24, 24, .rwl, 0, .any⟩, ⟨23, 16, .rwl, 0, .any⟩, ⟨11, 0, .rwl, 0, .any⟩], .own, some ⟨0x090, 13, 0⟩, .single⟩,
  -- MFT_ADDR_INDEX
  ⟨0x0a4, [⟨11, 0, .rw, 0, .any⟩], .own, none, .single⟩,
  -- MFT_ADDR_IP0
  ⟨0x0a8, [⟨31, 0, .rwl, 0, .any⟩], .own, some ⟨0x0a4, 11, 0⟩, .single⟩,
  -- MFT_ADDR_IP1
  ⟨0x0ac, [⟨31, 0, .rwl, 0, .any⟩], .own, some ⟨0x0a4, 11, 0⟩, .single⟩,
  -- MFT_ADDR_IP2
  ⟨0x0b0, [⟨31, 0, .rwl, 0, .any⟩], .own, some ⟨0x0a4, 11, 0⟩, .single⟩,
  -- MFT_ADDR_IP3
  ⟨0x0b4, [⟨31, 0, .rwl, 0, .any⟩], .own, some ⟨0x0a4, 11, 0⟩, .single⟩,
  -- MFT_ADDR_MAC_LO
  ⟨0x0b8, [⟨31, 0, .rwl, 0, .any⟩], .own, some ⟨0x0a4, 11, 0⟩, .lo⟩,
  -- MFT_ADDR_MAC_HI
  ⟨0x0bc, [⟨31, 31, .rwl, 0, .any⟩, ⟨15, 0, .rwl, 0, .any⟩], .own, some ⟨0x0a4, 11, 0⟩, .hi⟩,
  -- MFT_CNT_RETX
  ⟨0x0c0, [⟨31, 0, .ro, 0, .any⟩], .own, none, .single⟩,
  -- MFT_CNT_DUP
  ⟨0x0c4, [⟨31, 0, .ro, 0, .any⟩], .own, none, .single⟩,
  -- MFT_CNT_REPLAY
  ⟨0x0c8, [⟨31, 0, .ro, 0, .any⟩], .own, none, .single⟩,
  -- MFT_CNT_AUTH
  ⟨0x0cc, [⟨31, 0, .ro, 0, .any⟩], .own, none, .single⟩,
  -- MFT_CNT_STALE
  ⟨0x0d0, [⟨31, 0, .ro, 0, .any⟩], .own, none, .single⟩,
  -- MFT_CNT_REFUSED
  ⟨0x0d4, [⟨31, 0, .ro, 0, .any⟩], .own, none, .single⟩]

/-- The registers of the VIT page after the header. -/
def regsVit : List RegDef := [
  -- VIT_CTRL
  ⟨0x040, [⟨16, 16, .ro, 0, .any⟩, ⟨9, 9, .w1s, 0, .any⟩, ⟨8, 8, .w1s, 0, .any⟩, ⟨0, 0, .rwl, 1, .any⟩], .own, none, .single⟩,
  -- VIT_DIRTY_QUOTA
  ⟨0x044, [⟨15, 0, .rwf, 24576, .within 0 24576⟩], .east, none, .single⟩,
  -- VIT_HIGH_MARK
  ⟨0x048, [⟨15, 0, .rwf, 20480, .any⟩], .east, none, .single⟩,
  -- VIT_SHRINK
  ⟨0x04c, [⟨31, 16, .rwf, 4096, .any⟩, ⟨15, 0, .rwf, 256, .within 1 65535⟩], .east, none, .single⟩,
  -- VIT_QUOTA_NOW
  ⟨0x050, [⟨31, 16, .ro, 0, .any⟩, ⟨15, 0, .ro, 24576, .any⟩], .east, none, .single⟩,
  -- VIT_DIRTY_OWN
  ⟨0x054, [⟨22, 0, .ro, 0, .any⟩], .own, none, .single⟩,
  -- VIT_MIRROR_USED
  ⟨0x058, [⟨22, 0, .ro, 0, .any⟩], .own, none, .single⟩,
  -- VIT_CLEAN
  ⟨0x05c, [⟨24, 0, .ro, 0, .any⟩], .own, none, .single⟩,
  -- VIT_WSEQ_LO
  ⟨0x060, [⟨31, 0, .ro, 0, .any⟩], .own, none, .lo⟩,
  -- VIT_WSEQ_HI
  ⟨0x064, [⟨31, 0, .ro, 0, .any⟩], .own, none, .hi⟩,
  -- VIT_RETAIN
  ⟨0x068, [⟨23, 8, .ro, 0, .any⟩, ⟨2, 2, .w1s, 0, .any⟩, ⟨1, 1, .w1s, 0, .any⟩, ⟨0, 0, .ro, 0, .any⟩], .own, none, .single⟩,
  -- VIT_HIT_COUNT
  ⟨0x06c, [⟨31, 0, .ro, 0, .any⟩], .own, none, .single⟩,
  -- VIT_MISS_COUNT
  ⟨0x070, [⟨31, 0, .ro, 0, .any⟩], .own, none, .single⟩]

/-- The registers of the ANX page after the header. -/
def regsAnx : List RegDef := [
  -- ANX_CTRL
  ⟨0x040, [⟨4, 4, .w1s, 0, .any⟩, ⟨2, 2, .rwq, 1, .any⟩, ⟨1, 1, .w1s, 0, .any⟩, ⟨0, 0, .rwq, 0, .any⟩], .own, none, .single⟩,
  -- ANX_LINK_STATUS
  ⟨0x044, [⟨31, 16, .ro, 0, .any⟩, ⟨15, 8, .ro, 0, .any⟩, ⟨1, 1, .ro, 0, .any⟩, ⟨0, 0, .ro, 0, .any⟩], .own, none, .single⟩,
  -- ANX_PAIR
  ⟨0x048, [⟨31, 31, .rwq, 0, .any⟩, ⟨13, 0, .rwq, 0, .any⟩], .east, none, .single⟩,
  -- ANX_PAIR_CMD
  ⟨0x04c, [⟨1, 0, .wo, 0, .any⟩], .east, none, .single⟩,
  -- ANX_PAIR_STATE
  ⟨0x050, [⟨31, 16, .ro, 0, .any⟩, ⟨2, 0, .ro, 0, .any⟩], .east, none, .single⟩,
  -- ANX_HB
  ⟨0x054, [⟨31, 16, .rwf, 100, .atLeast 32⟩, ⟨7, 0, .rwf, 20, .within 1 255⟩], .east, none, .single⟩,
  -- ANX_LEASE
  ⟨0x058, [⟨31, 16, .rwq, 400, .atLeast 400⟩, ⟨15, 0, .rwf, 100, .any⟩], .east, none, .single⟩,
  -- ANX_ISOLATE
  ⟨0x05c, [⟨15, 0, .rwf, 20, .atLeast 1⟩], .east, none, .single⟩,
  -- ANX_WITNESS
  ⟨0x060, [⟨31, 24, .ro, 0, .any⟩, ⟨23, 16, .ro, 0, .any⟩, ⟨15, 8, .ro, 0, .any⟩, ⟨7, 0, .ro, 0, .any⟩], .east, none, .single⟩,
  -- ANX_TAKEOVER_US
  ⟨0x064, [⟨15, 0, .ro, 0, .any⟩], .east, none, .single⟩,
  -- ANX_COMMIT_MAX
  ⟨0x068, [⟨31, 0, .ro, 0, .any⟩], .own, none, .single⟩,
  -- ANX_RETRY_COUNT
  ⟨0x06c, [⟨31, 0, .ro, 0, .any⟩], .own, none, .single⟩,
  -- ANX_RETRAIN_COUNT
  ⟨0x070, [⟨31, 0, .ro, 0, .any⟩], .own, none, .single⟩]

/-- The registers of the CAT page after the header. -/
def regsCat : List RegDef := [
  -- CAT_CTRL
  ⟨0x040, [⟨8, 8, .w1s, 0, .any⟩], .own, none, .single⟩,
  -- CAT_CKPT
  ⟨0x044, [⟨31, 16, .rwf, 125, .within 1 65535⟩, ⟨15, 0, .rwf, 512, .within 64 768⟩], .east, none, .single⟩,
  -- CAT_CKPT_LAST
  ⟨0x048, [⟨31, 0, .ro, 0, .any⟩], .east, none, .single⟩,
  -- CAT_CKPT_STATUS
  ⟨0x04c, [⟨31, 31, .ro, 0, .any⟩, ⟨15, 0, .ro, 0, .any⟩], .east, none, .single⟩,
  -- CAT_JOURNAL
  ⟨0x050, [⟨31, 16, .ro, 0, .any⟩, ⟨15, 0, .ro, 0, .any⟩], .east, none, .single⟩,
  -- CAT_STORE
  ⟨0x054, [⟨31, 16, .ro, 0, .any⟩, ⟨15, 0, .rwq, 256, .within 1 65535⟩], .own, none, .single⟩,
  -- CAT_NS_INDEX
  ⟨0x058, [⟨14, 0, .rw, 0, .any⟩], .east, none, .single⟩,
  -- CAT_NS_ID
  ⟨0x05c, [⟨31, 0, .rw, 0, .within 1 4294967294⟩], .east, none, .single⟩,
  -- CAT_NS_ATTR
  ⟨0x060, [⟨31, 31, .ro, 0, .any⟩, ⟨30, 30, .ro, 0, .any⟩, ⟨29, 29, .ro, 0, .any⟩, ⟨28, 28, .rw, 0, .any⟩, ⟨27, 27, .rw, 0, .any⟩, ⟨11, 0, .rw, 0, .any⟩], .east, none, .single⟩,
  -- CAT_NS_SIZE_LO
  ⟨0x064, [⟨31, 0, .rw, 0, .any⟩], .east, none, .lo⟩,
  -- CAT_NS_SIZE_HI
  ⟨0x068, [⟨9, 0, .rw, 0, .any⟩], .east, none, .hi⟩,
  -- CAT_NS_EDITION
  ⟨0x06c, [⟨31, 0, .rw, 0, .any⟩], .east, none, .single⟩,
  -- CAT_NS_CMD
  ⟨0x070, [⟨2, 0, .wo, 0, .any⟩], .east, none, .single⟩,
  -- CAT_NS_STATUS
  ⟨0x074, [⟨31, 31, .ro, 0, .any⟩, ⟨23, 16, .ro, 0, .any⟩, ⟨14, 0, .ro, 0, .any⟩], .east, none, .single⟩,
  -- CAT_NS_LAST_EDITION
  ⟨0x078, [⟨31, 0, .ro, 0, .any⟩], .east, none, .single⟩,
  -- CAT_EDITIONS
  ⟨0x07c, [⟨20, 0, .ro, 0, .any⟩], .east, none, .single⟩,
  -- CAT_CNT_PAGEIN
  ⟨0x080, [⟨31, 0, .ro, 0, .any⟩], .own, none, .single⟩,
  -- CAT_CNT_SEAL
  ⟨0x084, [⟨31, 0, .ro, 0, .any⟩], .own, none, .single⟩]

/-- The registers of the CCH page after the header. -/
def regsCch : List RegDef := [
  -- CCH_WAY_EN
  ⟨0x040, [⟨15, 0, .rwl, 65535, .within 1 65535⟩], .own, none, .single⟩,
  -- CCH_WAY_STATE
  ⟨0x044, [⟨31, 16, .ro, 0, .any⟩, ⟨15, 0, .ro, 0, .any⟩], .own, none, .single⟩,
  -- CCH_FENCED
  ⟨0x048, [⟨15, 0, .ro, 0, .any⟩], .own, none, .single⟩,
  -- CCH_ECC_THRESH
  ⟨0x04c, [⟨15, 0, .rwf, 64, .within 1 65535⟩], .own, none, .single⟩,
  -- CCH_ECC
  ⟨0x050, [⟨31, 28, .ro, 0, .any⟩, ⟨15, 0, .ro, 0, .any⟩], .own, none, .single⟩,
  -- CCH_HIT
  ⟨0x054, [⟨31, 0, .ro, 0, .any⟩], .own, none, .single⟩,
  -- CCH_MISS
  ⟨0x058, [⟨31, 0, .ro, 0, .any⟩], .own, none, .single⟩,
  -- CCH_CLEAN_MAX
  ⟨0x05c, [⟨31, 0, .ro, 0, .any⟩], .own, none, .single⟩,
  -- CCH_LOST
  ⟨0x060, [⟨31, 0, .ro, 0, .any⟩], .own, none, .single⟩]

/-- The registers of the RGS page after the header. -/
def regsRgs : List RegDef := [
  -- RGS_CTRL
  ⟨0x040, [⟨8, 8, .w1s, 0, .any⟩, ⟨0, 0, .rwl, 1, .any⟩], .own, none, .single⟩,
  -- RGS_BUDGET
  ⟨0x044, [⟨15, 0, .rwf, 512, .any⟩], .own, none, .single⟩,
  -- RGS_COLL_INDEX
  ⟨0x048, [⟨11, 0, .rw, 0, .any⟩], .own, none, .single⟩,
  -- RGS_COLL_CFG
  ⟨0x04c, [⟨21, 16, .rwq, 20, .within 10 28⟩, ⟨8, 8, .rwl, 1, .any⟩, ⟨1, 0, .rwl, 0, .within 0 1⟩], .shared, some ⟨0x048, 11, 0⟩, .single⟩,
  -- RGS_COLL_FILTER
  ⟨0x050, [⟨31, 16, .rwq, 0, .any⟩, ⟨15, 0, .rwq, 0, .any⟩], .shared, some ⟨0x048, 11, 0⟩, .single⟩,
  -- RGS_COLL_SLOT
  ⟨0x054, [⟨31, 31, .ro, 0, .any⟩, ⟨12, 0, .ro, 0, .any⟩], .shared, some ⟨0x048, 11, 0⟩, .single⟩,
  -- RGS_COLL_ENTRIES_LO
  ⟨0x058, [⟨31, 0, .ro, 0, .any⟩], .shared, some ⟨0x048, 11, 0⟩, .lo⟩,
  -- RGS_COLL_ENTRIES_HI
  ⟨0x05c, [⟨7, 0, .ro, 0, .any⟩], .shared, some ⟨0x048, 11, 0⟩, .hi⟩,
  -- RGS_COLL_BLIND
  ⟨0x060, [⟨31, 0, .ro, 0, .any⟩], .shared, some ⟨0x048, 11, 0⟩, .single⟩,
  -- RGS_CNT_UNIQUE
  ⟨0x064, [⟨31, 0, .ro, 0, .any⟩], .own, none, .single⟩,
  -- RGS_CNT_DUP
  ⟨0x068, [⟨31, 0, .ro, 0, .any⟩], .own, none, .single⟩,
  -- RGS_CNT_FALSE
  ⟨0x06c, [⟨31, 0, .ro, 0, .any⟩], .own, none, .single⟩,
  -- RGS_CNT_COMPARE
  ⟨0x070, [⟨31, 0, .ro, 0, .any⟩], .own, none, .single⟩,
  -- RGS_CARRY
  ⟨0x074, [⟨15, 0, .ro, 0, .any⟩], .own, none, .single⟩]

/-- The registers of the DGE page after the header. -/
def regsDge : List RegDef := [
  -- DGE_CTRL
  ⟨0x040, [⟨13, 8, .rwf, 8, .any⟩, ⟨0, 0, .rwl, 1, .any⟩], .own, none, .single⟩,
  -- DGE_UNITS
  ⟨0x044, [⟨23, 16, .ro, 0, .any⟩, ⟨15, 8, .ro, 0, .any⟩, ⟨7, 0, .ro, 0, .any⟩], .own, none, .single⟩,
  -- DGE_UNIT_INDEX
  ⟨0x048, [⟨5, 0, .rw, 0, .within 0 47⟩], .own, none, .single⟩,
  -- DGE_UNIT_STATE
  ⟨0x04c, [⟨11, 8, .ro, 0, .any⟩, ⟨2, 0, .ro, 0, .any⟩], .own, some ⟨0x048, 5, 0⟩, .single⟩,
  -- DGE_UNIT_CMD
  ⟨0x050, [⟨1, 0, .wo, 0, .any⟩], .own, none, .single⟩,
  -- DGE_CNT_OPS
  ⟨0x054, [⟨31, 0, .ro, 0, .any⟩], .own, none, .single⟩,
  -- DGE_CNT_ERR
  ⟨0x058, [⟨31, 0, .ro, 0, .any⟩], .own, none, .single⟩,
  -- DGE_FP_STATES
  ⟨0x05c, [⟨12, 0, .ro, 0, .any⟩], .own, none, .single⟩,
  -- DGE_CNT_COMPARE
  ⟨0x060, [⟨31, 0, .ro, 0, .any⟩], .own, none, .single⟩,
  -- DGE_CNT_MEASURE
  ⟨0x064, [⟨31, 0, .ro, 0, .any⟩], .own, none, .single⟩]

/-- The registers of the CDC page after the header. -/
def regsCdc : List RegDef := [
  -- CDC_CTRL
  ⟨0x040, [⟨13, 8, .rwf, 8, .any⟩, ⟨0, 0, .rwl, 1, .any⟩], .own, none, .single⟩,
  -- CDC_UNITS
  ⟨0x044, [⟨23, 16, .ro, 0, .any⟩, ⟨15, 8, .ro, 0, .any⟩, ⟨7, 0, .ro, 0, .any⟩], .own, none, .single⟩,
  -- CDC_UNIT_INDEX
  ⟨0x048, [⟨5, 0, .rw, 0, .within 0 47⟩], .own, none, .single⟩,
  -- CDC_UNIT_STATE
  ⟨0x04c, [⟨11, 8, .ro, 0, .any⟩, ⟨2, 0, .ro, 0, .any⟩], .own, some ⟨0x048, 5, 0⟩, .single⟩,
  -- CDC_UNIT_CMD
  ⟨0x050, [⟨1, 0, .wo, 0, .any⟩], .own, none, .single⟩,
  -- CDC_CNT_OPS
  ⟨0x054, [⟨31, 0, .ro, 0, .any⟩], .own, none, .single⟩,
  -- CDC_CNT_ERR
  ⟨0x058, [⟨31, 0, .ro, 0, .any⟩], .own, none, .single⟩,
  -- CDC_STREAM
  ⟨0x05c, [⟨31, 24, .rwf, 2, .within 1 255⟩, ⟨9, 0, .ro, 0, .any⟩], .own, none, .single⟩,
  -- CDC_COLL_INDEX
  ⟨0x060, [⟨11, 0, .rw, 0, .any⟩], .own, none, .single⟩,
  -- CDC_COLL_CFG
  ⟨0x064, [⟨1, 0, .rwl, 0, .within 0 1⟩], .shared, some ⟨0x060, 11, 0⟩, .single⟩,
  -- CDC_CNT_GRANULES
  ⟨0x068, [⟨31, 0, .ro, 0, .any⟩], .own, none, .single⟩,
  -- CDC_CNT_SHEETS
  ⟨0x06c, [⟨31, 0, .ro, 0, .any⟩], .own, none, .single⟩,
  -- CDC_CNT_RAW
  ⟨0x070, [⟨31, 0, .ro, 0, .any⟩], .own, none, .single⟩]

/-- The registers of the CPH page after the header. -/
def regsCph : List RegDef := [
  -- CPH_CTRL
  ⟨0x040, [⟨13, 8, .rwf, 8, .any⟩, ⟨0, 0, .rwl, 1, .any⟩], .own, none, .single⟩,
  -- CPH_UNITS
  ⟨0x044, [⟨23, 16, .ro, 0, .any⟩, ⟨15, 8, .ro, 0, .any⟩, ⟨7, 0, .ro, 0, .any⟩], .own, none, .single⟩,
  -- CPH_UNIT_INDEX
  ⟨0x048, [⟨5, 0, .rw, 0, .within 0 55⟩], .own, none, .single⟩,
  -- CPH_UNIT_STATE
  ⟨0x04c, [⟨11, 8, .ro, 0, .any⟩, ⟨2, 0, .ro, 0, .any⟩], .own, some ⟨0x048, 5, 0⟩, .single⟩,
  -- CPH_UNIT_CMD
  ⟨0x050, [⟨1, 0, .wo, 0, .any⟩], .own, none, .single⟩,
  -- CPH_CNT_OPS
  ⟨0x054, [⟨31, 0, .ro, 0, .any⟩], .own, none, .single⟩,
  -- CPH_CNT_ERR
  ⟨0x058, [⟨31, 0, .ro, 0, .any⟩], .own, none, .single⟩,
  -- CPH_CNT_KEYLOAD
  ⟨0x05c, [⟨31, 0, .ro, 0, .any⟩], .own, none, .single⟩,
  -- CPH_CNT_TAG_FAIL
  ⟨0x060, [⟨31, 0, .ro, 0, .any⟩], .own, none, .single⟩,
  -- CPH_ERASE
  ⟨0x064, [⟨31, 31, .ro, 0, .any⟩, ⟨15, 0, .ro, 0, .any⟩], .own, none, .single⟩]

/-- The registers of the GAL page after the header. -/
def regsGal : List RegDef := [
  -- GAL_CTRL
  ⟨0x040, [⟨8, 8, .w1s, 0, .any⟩, ⟨1, 1, .rwl, 1, .any⟩, ⟨0, 0, .rwl, 1, .any⟩], .own, none, .single⟩,
  -- GAL_WIDTH
  ⟨0x044, [⟨4, 0, .rwf, 22, .within 4 30⟩], .east, none, .single⟩,
  -- GAL_FILL
  ⟨0x048, [⟨7, 0, .rwf, 4, .within 1 255⟩], .own, none, .single⟩,
  -- GAL_RING
  ⟨0x04c, [⟨24, 16, .rwf, 128, .within 1 256⟩, ⟨8, 0, .ro, 0, .any⟩], .own, none, .single⟩,
  -- GAL_SERIAL_LO
  ⟨0x050, [⟨31, 0, .ro, 0, .any⟩], .east, none, .lo⟩,
  -- GAL_SERIAL_HI
  ⟨0x054, [⟨15, 0, .ro, 0, .any⟩], .east, none, .hi⟩,
  -- GAL_RESYNC
  ⟨0x058, [⟨31, 31, .ro, 0, .any⟩, ⟨30, 30, .ro, 0, .any⟩, ⟨23, 0, .ro, 0, .any⟩], .own, none, .single⟩,
  -- GAL_REBUILD
  ⟨0x05c, [⟨31, 31, .ro, 0, .any⟩, ⟨8, 8, .w1s, 0, .any⟩, ⟨5, 0, .rw, 0, .any⟩], .east, none, .single⟩,
  -- GAL_REBUILD_LEFT
  ⟨0x060, [⟨23, 0, .ro, 0, .any⟩], .own, none, .single⟩,
  -- GAL_BUDGET
  ⟨0x064, [⟨15, 0, .rwf, 16, .within 1 65535⟩], .own, none, .single⟩,
  -- GAL_RESHAPE
  ⟨0x068, [⟨31, 31, .ro, 0, .any⟩, ⟨9, 9, .w1s, 0, .any⟩, ⟨8, 8, .w1s, 0, .any⟩, ⟨4, 0, .rw, 22, .within 4 30⟩], .east, none, .single⟩,
  -- GAL_RESHAPE_BOUND
  ⟨0x06c, [⟨23, 0, .ro, 0, .any⟩], .east, none, .single⟩,
  -- GAL_RESHAPE_CKPT
  ⟨0x070, [⟨15, 0, .rwf, 16, .within 1 65535⟩], .east, none, .single⟩,
  -- GAL_CNT_REBUILT
  ⟨0x074, [⟨31, 0, .ro, 0, .any⟩], .own, none, .single⟩,
  -- GAL_CNT_LOCATED
  ⟨0x078, [⟨31, 0, .ro, 0, .any⟩], .own, none, .single⟩,
  -- GAL_CNT_LOST
  ⟨0x07c, [⟨31, 0, .ro, 0, .any⟩], .own, none, .single⟩]

/-- The registers of the PLK page after the header. -/
def regsPlk : List RegDef := [
  -- PLK_CTRL
  ⟨0x040, [⟨11, 8, .rwf, 1, .within 1 15⟩, ⟨4, 4, .rwl, 0, .any⟩, ⟨3, 3, .w1s, 0, .any⟩, ⟨2, 2, .rwq, 1, .any⟩, ⟨1, 1, .w1s, 0, .any⟩, ⟨0, 0, .rwq, 0, .any⟩], .own, none, .single⟩,
  -- PLK_STATUS
  ⟨0x044, [⟨31, 16, .ro, 0, .any⟩, ⟨11, 11, .ro, 0, .any⟩, ⟨10, 10, .ro, 0, .any⟩, ⟨7, 6, .ro, 0, .any⟩, ⟨4, 4, .ro, 0, .any⟩, ⟨3, 3, .ro, 0, .any⟩, ⟨2, 2, .ro, 0, .any⟩, ⟨1, 1, .ro, 0, .any⟩, ⟨0, 0, .ro, 0, .any⟩], .own, none, .single⟩,
  -- PLK_WARN
  ⟨0x048, [⟨7, 0, .rwf, 48, .within 1 255⟩], .own, none, .single⟩,
  -- PLK_TIMEOUT
  ⟨0x04c, [⟨15, 0, .rwf, 100, .atLeast 1⟩], .own, none, .single⟩,
  -- PLK_SLOTS
  ⟨0x050, [⟨23, 16, .ro, 0, .any⟩, ⟨7, 0, .ro, 0, .any⟩], .own, none, .single⟩,
  -- PLK_BRIDGE
  ⟨0x054, [⟨31, 0, .ro, 0, .any⟩], .own, none, .single⟩,
  -- PLK_ALERT
  ⟨0x058, [⟨31, 31, .w1c, 0, .any⟩, ⟨23, 16, .ro, 0, .any⟩, ⟨15, 0, .ro, 0, .any⟩], .own, none, .single⟩,
  -- PLK_WITNESS
  ⟨0x05c, [⟨31, 31, .ro, 0, .any⟩, ⟨30, 30, .ro, 0, .any⟩, ⟨29, 29, .ro, 0, .any⟩, ⟨15, 0, .ro, 0, .any⟩], .own, none, .single⟩,
  -- PLK_CNT_RETRY
  ⟨0x060, [⟨31, 0, .ro, 0, .any⟩], .own, none, .single⟩,
  -- PLK_CNT_RETRAIN
  ⟨0x064, [⟨31, 0, .ro, 0, .any⟩], .own, none, .single⟩,
  -- PLK_CNT_WARN
  ⟨0x068, [⟨31, 0, .ro, 0, .any⟩], .own, none, .single⟩,
  -- PLK_CNT_MEDIA
  ⟨0x06c, [⟨31, 0, .ro, 0, .any⟩], .own, none, .single⟩,
  -- PLK_CNT_SUSPEND
  ⟨0x070, [⟨31, 0, .ro, 0, .any⟩], .own, none, .single⟩]

/-- The registers of the DSP page after the header. -/
def regsDsp : List RegDef := [
  -- DSP_CTRL
  ⟨0x040, [⟨28, 24, .rwf, 28, .within 1 30⟩, ⟨18, 16, .rwf, 2, .within 1 7⟩, ⟨11, 8, .rwf, 2, .within 1 15⟩, ⟨3, 0, .rwf, 4, .within 1 8⟩], .own, none, .single⟩,
  -- DSP_TIMING
  ⟨0x044, [⟨31, 16, .rwf, 20, .within 1 65535⟩, ⟨15, 0, .rwf, 60, .any⟩], .own, none, .single⟩,
  -- DSP_OPS
  ⟨0x048, [⟨28, 16, .ro, 0, .any⟩, ⟨12, 0, .ro, 0, .any⟩], .own, none, .single⟩,
  -- DSP_READ_WAIT_MAX
  ⟨0x04c, [⟨31, 0, .ro, 0, .any⟩], .own, none, .single⟩,
  -- DSP_PROG_MAX
  ⟨0x050, [⟨31, 0, .ro, 0, .any⟩], .own, none, .single⟩,
  -- DSP_CNT_CARRY
  ⟨0x054, [⟨31, 0, .ro, 0, .any⟩], .own, none, .single⟩,
  -- DSP_CNT_HOLD
  ⟨0x058, [⟨31, 0, .ro, 0, .any⟩], .own, none, .single⟩]

/-- The registers of the CUR page after the header. -/
def regsCur : List RegDef := [
  -- CUR_CTRL
  ⟨0x040, [⟨8, 8, .w1s, 0, .any⟩, ⟨5, 4, .ro, 0, .any⟩, ⟨1, 0, .rwl, 1, .within 0 2⟩], .own, none, .single⟩,
  -- CUR_GEOM
  ⟨0x044, [⟨27, 16, .rwq, 170, .within 105 4095⟩, ⟨11, 0, .rwq, 512, .within 1 4095⟩], .east, none, .single⟩,
  -- CUR_GEOM_BLOCKS
  ⟨0x048, [⟨19, 0, .rwq, 0, .any⟩], .east, none, .single⟩,
  -- CUR_FREE
  ⟨0x04c, [⟨27, 0, .ro, 0, .any⟩], .east, none, .single⟩,
  -- CUR_MARKS
  ⟨0x050, [⟨25, 16, .rwf, 50, .any⟩, ⟨9, 0, .rwf, 120, .any⟩], .east, none, .single⟩,
  -- CUR_BUDGET
  ⟨0x054, [⟨31, 16, .rwf, 64, .any⟩, ⟨15, 8, .rwf, 32, .any⟩, ⟨7, 0, .rwf, 8, .any⟩], .east, none, .single⟩,
  -- CUR_THROTTLE
  ⟨0x058, [⟨27, 16, .rwf, 64, .any⟩, ⟨15, 0, .rwf, 2048, .within 1 65535⟩], .east, none, .single⟩,
  -- CUR_SCORE
  ⟨0x05c, [⟨31, 20, .rwf, 3891, .any⟩, ⟨19, 16, .rwf, 4, .any⟩, ⟨15, 0, .rwf, 24, .any⟩], .east, none, .single⟩,
  -- CUR_WEAR
  ⟨0x060, [⟨31, 16, .rwf, 1000, .any⟩, ⟨15, 0, .rwf, 10000, .any⟩], .east, none, .single⟩,
  -- CUR_WEAR_STAT
  ⟨0x064, [⟨31, 16, .ro, 0, .any⟩, ⟨15, 0, .ro, 0, .any⟩], .east, none, .single⟩,
  -- CUR_HALLS
  ⟨0x068, [⟨31, 24, .ro, 0, .any⟩, ⟨23, 0, .ro, 0, .any⟩], .own, none, .single⟩,
  -- CUR_FILL
  ⟨0x06c, [⟨3, 0, .rwf, 4, .within 1 8⟩], .own, none, .single⟩,
  -- CUR_RECLAIM
  ⟨0x070, [⟨31, 31, .ro, 0, .any⟩, ⟨23, 0, .ro, 0, .any⟩], .own, none, .single⟩,
  -- CUR_VAULT
  ⟨0x074, [⟨31, 31, .ro, 0, .any⟩, ⟨21, 14, .ro, 0, .any⟩, ⟨13, 0, .ro, 0, .any⟩], .east, none, .single⟩,
  -- CUR_ANCHOR
  ⟨0x078, [⟨31, 4, .ro, 0, .any⟩, ⟨3, 0, .rwf, 4, .within 2 8⟩], .east, none, .single⟩,
  -- CUR_PLINTH
  ⟨0x07c, [⟨9, 8, .wo, 0, .any⟩, ⟨5, 0, .rw, 0, .any⟩], .east, none, .single⟩,
  -- CUR_CNT_RECLAIMED
  ⟨0x080, [⟨31, 0, .ro, 0, .any⟩], .own, none, .single⟩,
  -- CUR_CNT_RETIRED
  ⟨0x084, [⟨31, 0, .ro, 0, .any⟩], .own, none, .single⟩]

/-- The registers of the CSV page after the header. -/
def regsCsv : List RegDef := [
  -- CSV_CTRL
  ⟨0x040, [⟨2, 2, .rwl, 1, .any⟩, ⟨1, 1, .rwl, 1, .any⟩, ⟨0, 0, .rwl, 1, .any⟩], .own, none, .single⟩,
  -- CSV_BUDGET
  ⟨0x044, [⟨15, 0, .rwf, 8, .within 1 65535⟩], .own, none, .single⟩,
  -- CSV_READ
  ⟨0x048, [⟨23, 0, .rwf, 200000, .within 2 16777215⟩], .own, none, .single⟩,
  -- CSV_RETAIN
  ⟨0x04c, [⟨15, 0, .rwf, 8760, .within 1 65535⟩], .own, none, .single⟩,
  -- CSV_SCRUB
  ⟨0x050, [⟨31, 16, .ro, 0, .any⟩, ⟨15, 0, .rwf, 30, .within 1 65535⟩], .own, none, .single⟩,
  -- CSV_QUEUE
  ⟨0x054, [⟨31, 16, .ro, 0, .any⟩, ⟨15, 0, .ro, 0, .any⟩], .own, none, .single⟩,
  -- CSV_CNT_REWRITE
  ⟨0x058, [⟨31, 0, .ro, 0, .any⟩], .own, none, .single⟩,
  -- CSV_CNT_REFRESH
  ⟨0x05c, [⟨31, 0, .ro, 0, .any⟩], .own, none, .single⟩,
  -- CSV_CNT_SCRUB
  ⟨0x060, [⟨31, 0, .ro, 0, .any⟩], .own, none, .single⟩]

/-- The registers of the RPL page after the header. -/
def regsRpl : List RegDef := [
  -- RPL_CTRL
  ⟨0x040, [⟨0, 0, .rwl, 0, .any⟩], .own, none, .single⟩,
  -- RPL_SITE
  ⟨0x044, [⟨13, 0, .rwq, 0, .any⟩], .shared, none, .single⟩,
  -- RPL_TIMER
  ⟨0x048, [⟨31, 16, .rwf, 200, .atLeast 32⟩, ⟨15, 0, .rwf, 40, .atLeast 32⟩], .own, none, .single⟩,
  -- RPL_RATE
  ⟨0x04c, [⟨15, 0, .rwf, 32, .within 1 65535⟩], .own, none, .single⟩,
  -- RPL_MAP_INDEX
  ⟨0x050, [⟨11, 0, .rw, 0, .any⟩], .own, none, .single⟩,
  -- RPL_MAP_MODE
  ⟨0x054, [⟨31, 29, .ro, 0, .any⟩, ⟨8, 8, .ro, 0, .any⟩, ⟨4, 4, .rwl, 0, .any⟩, ⟨1, 0, .rwq, 0, .any⟩], .shared, some ⟨0x050, 11, 0⟩, .single⟩,
  -- RPL_MAP_CONN
  ⟨0x058, [⟨15, 0, .rwq, 0, .any⟩], .shared, some ⟨0x050, 11, 0⟩, .single⟩,
  -- RPL_MAP_KEEPER
  ⟨0x05c, [⟨15, 0, .rwq, 0, .any⟩], .shared, some ⟨0x050, 11, 0⟩, .single⟩,
  -- RPL_MAP_RKEY
  ⟨0x060, [⟨31, 0, .rwq, 0, .any⟩], .shared, some ⟨0x050, 11, 0⟩, .single⟩,
  -- RPL_MAP_BASE
  ⟨0x064, [⟨31, 0, .ro, 0, .any⟩], .shared, some ⟨0x050, 11, 0⟩, .single⟩,
  -- RPL_CMD
  ⟨0x068, [⟨8, 8, .wo, 0, .any⟩, ⟨2, 0, .wo, 0, .any⟩], .own, none, .single⟩,
  -- RPL_EDITION
  ⟨0x06c, [⟨31, 0, .rw, 0, .any⟩], .shared, some ⟨0x050, 11, 0⟩, .single⟩,
  -- RPL_PROGRESS
  ⟨0x070, [⟨31, 24, .ro, 0, .any⟩, ⟨23, 0, .ro, 0, .any⟩], .shared, some ⟨0x050, 11, 0⟩, .single⟩,
  -- RPL_CNT_OFFER
  ⟨0x074, [⟨31, 0, .ro, 0, .any⟩], .own, none, .single⟩,
  -- RPL_CNT_HAVE
  ⟨0x078, [⟨31, 0, .ro, 0, .any⟩], .own, none, .single⟩,
  -- RPL_CNT_CASES
  ⟨0x07c, [⟨31, 0, .ro, 0, .any⟩], .own, none, .single⟩,
  -- RPL_SYNC_MAX
  ⟨0x080, [⟨31, 0, .ro, 0, .any⟩], .own, none, .single⟩]

/-- The registers of the DMA page after the header. -/
def regsDma : List RegDef := [
  -- DMA_CTRL
  ⟨0x040, [⟨0, 0, .rwl, 0, .any⟩], .own, none, .single⟩,
  -- DMA_CHAN_INDEX
  ⟨0x044, [⟨2, 0, .rw, 0, .any⟩], .own, none, .single⟩,
  -- DMA_CHAN_STATE
  ⟨0x048, [⟨31, 16, .ro, 0, .any⟩, ⟨15, 12, .ro, 0, .any⟩, ⟨5, 4, .ro, 0, .any⟩, ⟨2, 0, .ro, 0, .any⟩], .own, some ⟨0x044, 2, 0⟩, .single⟩,
  -- DMA_CHAN_CMD
  ⟨0x04c, [⟨1, 0, .wo, 0, .any⟩], .own, none, .single⟩,
  -- DMA_CNT_OPS
  ⟨0x050, [⟨31, 0, .ro, 0, .any⟩], .own, none, .single⟩,
  -- DMA_CNT_PREEMPT
  ⟨0x054, [⟨31, 0, .ro, 0, .any⟩], .own, none, .single⟩,
  -- DMA_CNT_ABORT
  ⟨0x058, [⟨31, 0, .ro, 0, .any⟩], .own, none, .single⟩]

/-- The registers of the CPU page after the header. -/
def regsCpu : List RegDef := [
  -- CPU_CORE_INDEX
  ⟨0x040, [⟨4, 0, .rw, 0, .within 0 25⟩], .own, none, .single⟩,
  -- CPU_CORE_STATE
  ⟨0x044, [⟨18, 16, .ro, 0, .any⟩, ⟨11, 8, .ro, 0, .any⟩, ⟨2, 0, .ro, 0, .any⟩], .own, some ⟨0x040, 4, 0⟩, .single⟩,
  -- CPU_CORE_CMD
  ⟨0x048, [⟨1, 0, .wo, 0, .any⟩], .own, none, .single⟩,
  -- CPU_START_LO
  ⟨0x04c, [⟨31, 2, .rw, 0, .any⟩], .own, none, .lo⟩,
  -- CPU_START_HI
  ⟨0x050, [⟨15, 0, .rw, 0, .any⟩], .own, none, .hi⟩,
  -- CPU_RING_INDEX
  ⟨0x054, [⟨9, 0, .rw, 0, .any⟩], .own, none, .single⟩,
  -- CPU_RING_BASE_LO
  ⟨0x058, [⟨31, 12, .rwq, 0, .any⟩], .own, some ⟨0x054, 9, 0⟩, .lo⟩,
  -- CPU_RING_BASE_HI
  ⟨0x05c, [⟨15, 0, .rwq, 0, .any⟩], .own, some ⟨0x054, 9, 0⟩, .hi⟩,
  -- CPU_RING_CFG
  ⟨0x060, [⟨31, 31, .rwl, 0, .any⟩, ⟨30, 30, .ro, 0, .any⟩, ⟨29, 27, .rwq, 0, .within 0 4⟩, ⟨25, 24, .rwq, 0, .any⟩, ⟨23, 20, .rwq, 6, .within 6 15⟩, ⟨6, 6, .rwq, 0, .any⟩, ⟨5, 0, .rwq, 0, .within 0 51⟩], .own, some ⟨0x054, 9, 0⟩, .single⟩,
  -- CPU_RING_PTR
  ⟨0x064, [⟨31, 16, .ro, 0, .any⟩, ⟨15, 0, .ro, 0, .any⟩], .own, some ⟨0x054, 9, 0⟩, .single⟩,
  -- CPU_CQ_INDEX
  ⟨0x068, [⟨11, 0, .rw, 0, .any⟩], .own, none, .single⟩,
  -- CPU_CQ_BASE_LO
  ⟨0x06c, [⟨31, 9, .rwq, 0, .any⟩], .own, some ⟨0x068, 11, 0⟩, .lo⟩,
  -- CPU_CQ_BASE_HI
  ⟨0x070, [⟨15, 0, .rwq, 0, .any⟩], .own, some ⟨0x068, 11, 0⟩, .hi⟩,
  -- CPU_CQ_CFG
  ⟨0x074, [⟨31, 31, .rwl, 0, .any⟩, ⟨27, 24, .rwq, 6, .within 6 15⟩, ⟨22, 22, .rwq, 0, .any⟩, ⟨21, 16, .rwq, 0, .any⟩, ⟨10, 0, .rwq, 0, .within 1 2047⟩], .own, some ⟨0x068, 11, 0⟩, .single⟩,
  -- CPU_CQ_PTR
  ⟨0x078, [⟨31, 16, .ro, 0, .any⟩, ⟨15, 0, .rwl, 0, .any⟩], .own, some ⟨0x068, 11, 0⟩, .single⟩,
  -- CPU_CNT_POST
  ⟨0x07c, [⟨31, 0, .ro, 0, .any⟩], .own, none, .single⟩,
  -- CPU_CNT_FULL
  ⟨0x080, [⟨31, 0, .ro, 0, .any⟩], .own, none, .single⟩]

/-- The registers of the MEM page after the header. -/
def regsMem : List RegDef := [
  -- MEM_CTRL
  ⟨0x040, [⟨15, 8, .rwf, 24, .within 1 255⟩, ⟨0, 0, .rwl, 1, .any⟩], .own, none, .single⟩,
  -- MEM_CHAN_STATUS
  ⟨0x044, [⟨23, 16, .ro, 0, .any⟩, ⟨15, 8, .ro, 0, .any⟩, ⟨7, 0, .ro, 0, .any⟩], .own, none, .single⟩,
  -- MEM_CHAN_CMD
  ⟨0x048, [⟨10, 8, .wo, 0, .any⟩, ⟨1, 0, .wo, 0, .any⟩], .own, none, .single⟩,
  -- MEM_SEG_INDEX
  ⟨0x04c, [⟨11, 0, .rw, 0, .any⟩], .own, none, .single⟩,
  -- MEM_SEG_ENTRY
  ⟨0x050, [⟨31, 31, .rwl, 0, .any⟩, ⟨30, 30, .ro, 0, .any⟩, ⟨23, 16, .rwl, 0, .any⟩, ⟨11, 0, .rwl, 0, .any⟩], .own, some ⟨0x04c, 11, 0⟩, .single⟩,
  -- MEM_MIGRATE_TO
  ⟨0x054, [⟨23, 16, .rw, 0, .any⟩, ⟨11, 0, .rw, 0, .any⟩], .own, none, .single⟩,
  -- MEM_MIGRATE
  ⟨0x058, [⟨31, 31, .ro, 0, .any⟩, ⟨16, 16, .w1s, 0, .any⟩, ⟨11, 0, .rw, 0, .any⟩], .own, none, .single⟩,
  -- MEM_MIGRATE_BOUND
  ⟨0x05c, [⟨17, 0, .ro, 0, .any⟩], .own, none, .single⟩,
  -- MEM_CE_THRESH
  ⟨0x060, [⟨15, 0, .rwf, 16, .within 1 65535⟩], .own, none, .single⟩,
  -- MEM_SPARE_LO
  ⟨0x064, [⟨31, 20, .rwq, 0, .any⟩], .own, none, .lo⟩,
  -- MEM_SPARE_HI
  ⟨0x068, [⟨15, 0, .rwq, 0, .any⟩], .own, none, .hi⟩,
  -- MEM_RETIRE
  ⟨0x06c, [⟨8, 0, .ro, 0, .any⟩], .own, none, .single⟩,
  -- MEM_CNT_CE
  ⟨0x070, [⟨31, 0, .ro, 0, .any⟩], .own, none, .single⟩,
  -- MEM_CNT_UE
  ⟨0x074, [⟨31, 0, .ro, 0, .any⟩], .own, none, .single⟩]

/-- The registers of the HBM page after the header. -/
def regsHbm : List RegDef := [
  -- HBM_CTRL
  ⟨0x040, [⟨0, 0, .rwl, 1, .any⟩], .own, none, .single⟩,
  -- HBM_PCH_INDEX
  ⟨0x044, [⟨6, 0, .rw, 0, .within 0 95⟩], .own, none, .single⟩,
  -- HBM_PCH_STATE
  ⟨0x048, [⟨31, 16, .ro, 0, .any⟩, ⟨1, 0, .ro, 0, .any⟩], .own, some ⟨0x044, 6, 0⟩, .single⟩,
  -- HBM_PCH_CMD
  ⟨0x04c, [⟨0, 0, .wo, 0, .any⟩], .own, none, .single⟩,
  -- HBM_CE_THRESH
  ⟨0x050, [⟨15, 0, .rwf, 256, .within 1 65535⟩], .own, none, .single⟩,
  -- HBM_CNT_CE
  ⟨0x054, [⟨31, 0, .ro, 0, .any⟩], .own, none, .single⟩,
  -- HBM_CNT_UE
  ⟨0x058, [⟨31, 0, .ro, 0, .any⟩], .own, none, .single⟩]

/-- The registers of the DOC page after the header. -/
def regsDoc : List RegDef := [
  -- DOC_CTRL
  ⟨0x040, [⟨8, 8, .w1s, 0, .any⟩, ⟨1, 1, .w1s, 0, .any⟩, ⟨0, 0, .w1s, 0, .any⟩], .own, none, .single⟩,
  -- DOC_STATUS
  ⟨0x044, [⟨31, 24, .ro, 1, .any⟩, ⟨18, 16, .ro, 0, .any⟩, ⟨4, 4, .ro, 0, .any⟩, ⟨3, 3, .ro, 0, .any⟩, ⟨2, 2, .ro, 0, .any⟩, ⟨1, 1, .ro, 0, .any⟩, ⟨0, 0, .ro, 0, .any⟩], .own, none, .single⟩,
  -- DOC_MIRROR
  ⟨0x048, [⟨8, 0, .rwl, 0, .any⟩], .own, none, .single⟩,
  -- DOC_RING_SEL
  ⟨0x04c, [⟨31, 31, .rwl, 0, .any⟩, ⟨10, 10, .rw, 0, .any⟩, ⟨9, 0, .rw, 0, .any⟩], .own, none, .single⟩,
  -- DOC_REQ_BASE_LO
  ⟨0x050, [⟨31, 20, .rw, 0, .any⟩], .own, none, .lo⟩,
  -- DOC_REQ_BASE_HI
  ⟨0x054, [⟨15, 0, .rw, 0, .any⟩], .own, none, .hi⟩,
  -- DOC_REQ_CFG
  ⟨0x058, [⟨4, 0, .rw, 31, .any⟩], .own, none, .single⟩]

/-- The registers of the KEY page after the header. -/
def regsKey : List RegDef := [
  -- KEY_CTRL
  ⟨0x040, [⟨0, 0, .w1s, 0, .any⟩], .own, none, .single⟩,
  -- KEY_SLOT_INDEX
  ⟨0x044, [⟨13, 13, .rw, 0, .any⟩, ⟨12, 0, .rw, 0, .any⟩], .own, none, .single⟩,
  -- KEY_SLOT_ATTR
  ⟨0x048, [⟨31, 30, .ro, 0, .any⟩, ⟨29, 27, .rwq, 0, .within 0 5⟩, ⟨26, 24, .rwq, 0, .any⟩, ⟨23, 23, .rwq, 0, .any⟩, ⟨11, 0, .rwq, 0, .any⟩], .own, some ⟨0x044, 13, 0⟩, .single⟩,
  -- KEY_SLOT_GEN
  ⟨0x04c, [⟨15, 0, .ro, 0, .any⟩], .own, some ⟨0x044, 13, 0⟩, .single⟩,
  -- KEY_SRC
  ⟨0x050, [⟨18, 0, .rw, 0, .any⟩], .own, none, .single⟩,
  -- KEY_WRAP
  ⟨0x054, [⟨5, 0, .rw, 4, .any⟩], .own, none, .single⟩,
  -- KEY_CMD
  ⟨0x058, [⟨2, 0, .wo, 0, .any⟩], .own, none, .single⟩,
  -- KEY_STATUS
  ⟨0x05c, [⟨31, 31, .ro, 0, .any⟩, ⟨23, 16, .ro, 0, .any⟩, ⟨13, 0, .ro, 0, .any⟩], .own, none, .single⟩,
  -- KEY_BIND_INDEX
  ⟨0x060, [⟨11, 0, .rw, 0, .any⟩], .own, none, .single⟩,
  -- KEY_BIND_ID
  ⟨0x064, [⟨31, 31, .ro, 0, .any⟩, ⟨23, 0, .rw, 0, .any⟩], .own, some ⟨0x060, 11, 0⟩, .single⟩,
  -- KEY_BIND_SLOTS
  ⟨0x068, [⟨31, 31, .rw, 0, .any⟩, ⟨30, 30, .rw, 0, .any⟩, ⟨28, 16, .rw, 0, .any⟩, ⟨12, 0, .rw, 0, .any⟩], .own, some ⟨0x060, 11, 0⟩, .single⟩,
  -- KEY_BIND_CMD
  ⟨0x06c, [⟨1, 0, .wo, 0, .any⟩], .own, none, .single⟩,
  -- KEY_CNT_LOAD
  ⟨0x070, [⟨31, 0, .ro, 0, .any⟩], .own, none, .single⟩]

/-- The registers of the MSR page after the header. -/
def regsMsr : List RegDef := [
  -- MSR_INDEX
  ⟨0x040, [⟨4, 0, .rw, 0, .any⟩], .own, none, .single⟩,
  -- MSR_CTRL
  ⟨0x044, [⟨0, 0, .w1s, 0, .any⟩], .own, none, .single⟩,
  -- MSR_VALUE0
  ⟨0x048, [⟨31, 0, .ro, 0, .any⟩], .own, some ⟨0x040, 4, 0⟩, .single⟩,
  -- MSR_VALUE1
  ⟨0x04c, [⟨31, 0, .ro, 0, .any⟩], .own, some ⟨0x040, 4, 0⟩, .single⟩,
  -- MSR_VALUE2
  ⟨0x050, [⟨31, 0, .ro, 0, .any⟩], .own, some ⟨0x040, 4, 0⟩, .single⟩,
  -- MSR_VALUE3
  ⟨0x054, [⟨31, 0, .ro, 0, .any⟩], .own, some ⟨0x040, 4, 0⟩, .single⟩,
  -- MSR_VALUE4
  ⟨0x058, [⟨31, 0, .ro, 0, .any⟩], .own, some ⟨0x040, 4, 0⟩, .single⟩,
  -- MSR_VALUE5
  ⟨0x05c, [⟨31, 0, .ro, 0, .any⟩], .own, some ⟨0x040, 4, 0⟩, .single⟩,
  -- MSR_VALUE6
  ⟨0x060, [⟨31, 0, .ro, 0, .any⟩], .own, some ⟨0x040, 4, 0⟩, .single⟩,
  -- MSR_VALUE7
  ⟨0x064, [⟨31, 0, .ro, 0, .any⟩], .own, some ⟨0x040, 4, 0⟩, .single⟩,
  -- MSR_VALUE8
  ⟨0x068, [⟨31, 0, .ro, 0, .any⟩], .own, some ⟨0x040, 4, 0⟩, .single⟩,
  -- MSR_VALUE9
  ⟨0x06c, [⟨31, 0, .ro, 0, .any⟩], .own, some ⟨0x040, 4, 0⟩, .single⟩,
  -- MSR_VALUE10
  ⟨0x070, [⟨31, 0, .ro, 0, .any⟩], .own, some ⟨0x040, 4, 0⟩, .single⟩,
  -- MSR_VALUE11
  ⟨0x074, [⟨31, 0, .ro, 0, .any⟩], .own, some ⟨0x040, 4, 0⟩, .single⟩,
  -- MSR_INPUT0
  ⟨0x078, [⟨31, 0, .wo, 0, .any⟩], .own, none, .single⟩,
  -- MSR_INPUT1
  ⟨0x07c, [⟨31, 0, .wo, 0, .any⟩], .own, none, .single⟩,
  -- MSR_INPUT2
  ⟨0x080, [⟨31, 0, .wo, 0, .any⟩], .own, none, .single⟩,
  -- MSR_INPUT3
  ⟨0x084, [⟨31, 0, .wo, 0, .any⟩], .own, none, .single⟩,
  -- MSR_INPUT4
  ⟨0x088, [⟨31, 0, .wo, 0, .any⟩], .own, none, .single⟩,
  -- MSR_INPUT5
  ⟨0x08c, [⟨31, 0, .wo, 0, .any⟩], .own, none, .single⟩,
  -- MSR_INPUT6
  ⟨0x090, [⟨31, 0, .wo, 0, .any⟩], .own, none, .single⟩,
  -- MSR_INPUT7
  ⟨0x094, [⟨31, 0, .wo, 0, .any⟩], .own, none, .single⟩,
  -- MSR_INPUT8
  ⟨0x098, [⟨31, 0, .wo, 0, .any⟩], .own, none, .single⟩,
  -- MSR_INPUT9
  ⟨0x09c, [⟨31, 0, .wo, 0, .any⟩], .own, none, .single⟩,
  -- MSR_INPUT10
  ⟨0x0a0, [⟨31, 0, .wo, 0, .any⟩], .own, none, .single⟩,
  -- MSR_INPUT11
  ⟨0x0a4, [⟨31, 0, .wo, 0, .any⟩], .own, none, .single⟩,
  -- MSR_ARMED
  ⟨0x0a8, [⟨23, 10, .w1s, 0, .any⟩], .own, none, .single⟩,
  -- MSR_COUNT
  ⟨0x0ac, [⟨31, 0, .ro, 0, .any⟩], .own, some ⟨0x040, 4, 0⟩, .single⟩,
  -- MSR_USED
  ⟨0x0b0, [⟨31, 0, .ro, 0, .any⟩], .own, none, .single⟩]

/-- The registers of the PRV page after the header. -/
def regsPrv : List RegDef := [
  -- PRV_CTRL
  ⟨0x040, [⟨31, 16, .rwf, 1000, .within 1 60000⟩, ⟨8, 8, .w1s, 0, .any⟩], .own, none, .single⟩,
  -- PRV_NEWEST
  ⟨0x044, [⟨31, 0, .ro, 0, .any⟩], .own, none, .single⟩,
  -- PRV_OLDEST
  ⟨0x048, [⟨31, 0, .ro, 0, .any⟩], .own, none, .single⟩,
  -- PRV_BUFFER
  ⟨0x04c, [⟨22, 16, .ro, 0, .any⟩, ⟨6, 0, .ro, 0, .any⟩], .own, none, .single⟩,
  -- PRV_LOST
  ⟨0x050, [⟨31, 0, .ro, 0, .any⟩], .own, none, .single⟩,
  -- PRV_HOURS
  ⟨0x054, [⟨31, 0, .ro, 0, .any⟩], .own, none, .single⟩,
  -- PRV_CYCLES
  ⟨0x058, [⟨31, 0, .ro, 0, .any⟩], .own, none, .single⟩,
  -- PRV_REC_HDR
  ⟨0x05c, [⟨25, 16, .rw, 0, .any⟩, ⟨15, 0, .rw, 0, .within 256 65535⟩], .own, none, .single⟩,
  -- PRV_REC_PAYLOAD0
  ⟨0x060, [⟨31, 0, .wo, 0, .any⟩], .own, none, .single⟩,
  -- PRV_REC_PAYLOAD1
  ⟨0x064, [⟨31, 0, .wo, 0, .any⟩], .own, none, .single⟩,
  -- PRV_REC_PAYLOAD2
  ⟨0x068, [⟨31, 0, .wo, 0, .any⟩], .own, none, .single⟩,
  -- PRV_REC_PAYLOAD3
  ⟨0x06c, [⟨31, 0, .wo, 0, .any⟩], .own, none, .single⟩,
  -- PRV_REC_PAYLOAD4
  ⟨0x070, [⟨31, 0, .wo, 0, .any⟩], .own, none, .single⟩,
  -- PRV_REC_PAYLOAD5
  ⟨0x074, [⟨31, 0, .wo, 0, .any⟩], .own, none, .single⟩,
  -- PRV_REC_PAYLOAD6
  ⟨0x078, [⟨31, 0, .wo, 0, .any⟩], .own, none, .single⟩,
  -- PRV_REC_PAYLOAD7
  ⟨0x07c, [⟨31, 0, .wo, 0, .any⟩], .own, none, .single⟩,
  -- PRV_REC_CMD
  ⟨0x080, [⟨0, 0, .w1s, 0, .any⟩], .own, none, .single⟩]

/-- The registers of the ARC page after the header. -/
def regsArc : List RegDef := [
  -- ARC_QUEUE_BASE
  ⟨0x040, [⟨18, 12, .rwq, 0, .any⟩], .own, none, .single⟩,
  -- ARC_QUEUE_PTR
  ⟨0x044, [⟨21, 16, .ro, 0, .any⟩, ⟨5, 0, .rwl, 0, .any⟩], .own, none, .single⟩,
  -- ARC_CQ_BASE
  ⟨0x048, [⟨18, 10, .rwq, 0, .any⟩], .own, none, .single⟩,
  -- ARC_CQ_PTR
  ⟨0x04c, [⟨21, 16, .ro, 0, .any⟩, ⟨5, 0, .rwl, 0, .any⟩], .own, none, .single⟩,
  -- ARC_PULSE
  ⟨0x050, [⟨11, 8, .rwf, 8, .within 1 8⟩, ⟨3, 0, .rwf, 8, .within 1 8⟩], .own, none, .single⟩,
  -- ARC_STATUS
  ⟨0x054, [⟨31, 31, .ro, 0, .any⟩, ⟨30, 30, .ro, 0, .any⟩, ⟨29, 29, .ro, 0, .any⟩, ⟨28, 28, .ro, 0, .any⟩, ⟨27, 0, .ro, 0, .any⟩], .own, none, .single⟩,
  -- ARC_FAIL
  ⟨0x058, [⟨31, 31, .w1c, 0, .any⟩, ⟨30, 30, .ro, 0, .any⟩, ⟨27, 0, .ro, 0, .any⟩], .own, none, .single⟩,
  -- ARC_XO_INDEX
  ⟨0x05c, [⟨2, 0, .rw, 0, .any⟩], .own, none, .single⟩,
  -- ARC_XO_BASE
  ⟨0x060, [⟨27, 12, .rwl, 0, .any⟩], .own, some ⟨0x05c, 2, 0⟩, .single⟩,
  -- ARC_XO_CFG
  ⟨0x064, [⟨31, 31, .w1s, 0, .any⟩, ⟨30, 30, .ro, 0, .any⟩, ⟨29, 28, .rwl, 0, .within 0 2⟩, ⟨15, 0, .rwl, 0, .within 1 65535⟩], .own, some ⟨0x05c, 2, 0⟩, .single⟩,
  -- ARC_CNT_PROG
  ⟨0x068, [⟨31, 0, .ro, 0, .any⟩], .own, none, .single⟩,
  -- ARC_CNT_ERASE
  ⟨0x06c, [⟨31, 0, .ro, 0, .any⟩], .own, none, .single⟩]

/-- The registers of the UPD page after the header. -/
def regsUpd : List RegDef := [
  -- UPD_CTRL
  ⟨0x040, [⟨9, 9, .w1s, 0, .any⟩, ⟨8, 8, .w1s, 0, .any⟩, ⟨1, 0, .rw, 0, .any⟩], .own, none, .single⟩,
  -- UPD_STAGE_LO
  ⟨0x044, [⟨31, 12, .rw, 0, .any⟩], .own, none, .lo⟩,
  -- UPD_STAGE_HI
  ⟨0x048, [⟨15, 0, .rw, 0, .any⟩], .own, none, .hi⟩,
  -- UPD_LENGTH
  ⟨0x04c, [⟨31, 0, .rw, 0, .any⟩], .own, none, .single⟩,
  -- UPD_STATUS
  ⟨0x050, [⟨31, 31, .ro, 0, .any⟩, ⟨30, 30, .ro, 0, .any⟩, ⟨23, 16, .ro, 0, .any⟩, ⟨15, 0, .ro, 0, .any⟩], .own, none, .single⟩,
  -- UPD_SLOTS
  ⟨0x054, [⟨15, 0, .ro, 0, .any⟩], .own, none, .single⟩,
  -- UPD_CONFIRM
  ⟨0x058, [⟨5, 5, .rw, 0, .any⟩, ⟨4, 4, .rw, 0, .any⟩, ⟨1, 1, .w1s, 0, .any⟩, ⟨0, 0, .w1s, 0, .any⟩], .own, none, .single⟩,
  -- UPD_TRIAL
  ⟨0x05c, [⟨31, 16, .ro, 0, .any⟩, ⟨15, 0, .rwf, 600, .atLeast 10⟩], .own, none, .single⟩,
  -- UPD_SVN
  ⟨0x060, [⟨31, 16, .rw, 0, .any⟩, ⟨15, 0, .ro, 0, .any⟩], .own, none, .single⟩,
  -- UPD_FLOOR
  ⟨0x064, [⟨13, 8, .ro, 0, .any⟩, ⟨5, 0, .ro, 0, .any⟩], .own, none, .single⟩,
  -- UPD_MAILBOX
  ⟨0x068, [⟨4, 0, .rw, 30, .any⟩], .own, none, .single⟩]

/-- The registers of the ALM page after the header. -/
def regsAlm : List RegDef := [
  -- ALM_ENABLE
  ⟨0x040, [⟨11, 0, .rwl, 4095, .any⟩], .own, none, .single⟩,
  -- ALM_STATUS
  ⟨0x044, [⟨11, 0, .ro, 0, .any⟩], .own, none, .single⟩,
  -- ALM_LAST
  ⟨0x048, [⟨31, 31, .w1c, 0, .any⟩, ⟨4, 0, .ro, 0, .any⟩], .own, none, .single⟩,
  -- ALM_COUNT
  ⟨0x04c, [⟨15, 0, .ro, 0, .any⟩], .own, none, .single⟩,
  -- ALM_TEMP
  ⟨0x050, [⟨7, 0, .rwf, 115, .within 110 125⟩], .own, none, .single⟩,
  -- ALM_FORCE
  ⟨0x054, [⟨0, 0, .w1s, 0, .any⟩], .own, none, .single⟩,
  -- ALM_HOLD
  ⟨0x058, [⟨15, 0, .rwf, 20, .within 10 1000⟩], .own, none, .single⟩]

/-- The registers of the RSV page after the header. -/
def regsRsv : List RegDef := [
  -- RSV_CTRL
  ⟨0x040, [⟨8, 8, .w1s, 0, .any⟩, ⟨2, 0, .rwl, 0, .within 0 4⟩], .own, none, .single⟩,
  -- RSV_STATUS
  ⟨0x044, [⟨31, 29, .ro, 0, .any⟩, ⟨28, 28, .ro, 0, .any⟩, ⟨27, 27, .ro, 0, .any⟩, ⟨21, 16, .ro, 0, .any⟩, ⟨15, 12, .ro, 0, .any⟩, ⟨11, 8, .ro, 0, .any⟩, ⟨1, 1, .ro, 0, .any⟩, ⟨0, 0, .ro, 0, .any⟩], .own, none, .single⟩,
  -- RSV_ADC_V
  ⟨0x048, [⟨27, 16, .ro, 0, .any⟩, ⟨11, 0, .ro, 0, .any⟩], .own, none, .single⟩,
  -- RSV_ADC_I
  ⟨0x04c, [⟨27, 16, .ro, 2048, .any⟩, ⟨11, 0, .ro, 2048, .any⟩], .own, none, .single⟩,
  -- RSV_SET
  ⟨0x050, [⟨27, 16, .rwl, 2850, .any⟩, ⟨11, 0, .rwl, 3000, .within 0 3050⟩], .own, none, .single⟩,
  -- RSV_CHARGE
  ⟨0x054, [⟨27, 16, .rwl, 32, .any⟩, ⟨11, 0, .rwl, 320, .any⟩], .own, none, .single⟩,
  -- RSV_DUTY_LIM
  ⟨0x058, [⟨31, 16, .rwq, 57344, .any⟩, ⟨15, 0, .rwq, 2048, .any⟩], .own, none, .single⟩,
  -- RSV_IMAX
  ⟨0x05c, [⟨27, 16, .rwq, 960, .any⟩, ⟨11, 0, .rwq, 640, .any⟩], .own, none, .single⟩,
  -- RSV_PWM
  ⟨0x060, [⟨31, 24, .rwq, 64, .any⟩, ⟨23, 16, .rwq, 128, .within 32 255⟩, ⟨15, 0, .ro, 12800, .any⟩], .own, none, .single⟩,
  -- RSV_DUTY
  ⟨0x064, [⟨31, 16, .rwl, 0, .any⟩, ⟨15, 0, .rwl, 0, .any⟩], .own, none, .single⟩,
  -- RSV_COMMIT
  ⟨0x068, [⟨0, 0, .w1s, 0, .any⟩], .own, none, .single⟩,
  -- RSV_BAND_V
  ⟨0x06c, [⟨27, 16, .rwq, 2000, .any⟩, ⟨11, 0, .rwq, 1500, .any⟩], .own, none, .single⟩,
  -- RSV_BAND_W
  ⟨0x070, [⟨27, 16, .rwq, 160, .any⟩, ⟨11, 0, .rwq, 2500, .any⟩], .own, none, .single⟩,
  -- RSV_COEF_INDEX
  ⟨0x074, [⟨4, 4, .rw, 0, .any⟩, ⟨3, 0, .rw, 0, .any⟩], .own, none, .single⟩,
  -- RSV_COEF_DATA
  ⟨0x078, [⟨31, 0, .rwq, 0, .any⟩], .own, some ⟨0x074, 4, 0⟩, .single⟩,
  -- RSV_FF_INDEX
  ⟨0x07c, [⟨5, 0, .rw, 0, .any⟩], .own, none, .single⟩,
  -- RSV_FF_DATA
  ⟨0x080, [⟨31, 16, .rwq, 0, .any⟩, ⟨15, 0, .rwq, 0, .any⟩], .own, some ⟨0x07c, 5, 0⟩, .single⟩,
  -- RSV_PH_INDEX
  ⟨0x084, [⟨4, 0, .rw, 0, .any⟩], .own, none, .single⟩,
  -- RSV_PH_DATA
  ⟨0x088, [⟨15, 0, .rwq, 0, .any⟩], .own, some ⟨0x084, 4, 0⟩, .single⟩,
  -- RSV_FAIL
  ⟨0x08c, [⟨27, 16, .rwq, 2800, .any⟩, ⟨11, 0, .rwq, 448, .any⟩], .own, none, .single⟩,
  -- RSV_LIMP
  ⟨0x090, [⟨31, 16, .rwq, 500, .within 1 500⟩, ⟨15, 8, .rwq, 4, .any⟩, ⟨7, 0, .rwq, 4, .within 1 255⟩], .own, none, .single⟩,
  -- RSV_BANK
  ⟨0x094, [⟨31, 16, .rwq, 1000, .any⟩, ⟨15, 0, .rwq, 16000, .any⟩], .own, none, .single⟩,
  -- RSV_BANK_LIM
  ⟨0x098, [⟨31, 16, .rwl, 762, .any⟩, ⟨15, 0, .rwl, 400, .any⟩], .own, none, .single⟩,
  -- RSV_ALLOW_CFG
  ⟨0x09c, [⟨31, 20, .rwl, 260, .any⟩, ⟨19, 8, .rwl, 2500, .any⟩, ⟨7, 0, .rwl, 60, .any⟩], .own, none, .single⟩,
  -- RSV_ALLOW
  ⟨0x0a0, [⟨31, 16, .ro, 0, .any⟩, ⟨15, 0, .ro, 0, .any⟩], .own, none, .single⟩,
  -- RSV_DUMP
  ⟨0x0a4, [⟨31, 29, .ro, 0, .any⟩, ⟨28, 28, .ro, 0, .any⟩, ⟨27, 27, .rwl, 0, .any⟩, ⟨21, 16, .rwq, 6, .any⟩, ⟨15, 0, .ro, 0, .any⟩], .own, none, .single⟩,
  -- RSV_DUMP_TIME
  ⟨0x0a8, [⟨31, 0, .ro, 0, .any⟩], .own, none, .single⟩,
  -- RSV_HEALTH
  ⟨0x0ac, [⟨31, 31, .ro, 0, .any⟩, ⟨30, 30, .w1s, 0, .any⟩, ⟨27, 16, .rwl, 400, .any⟩, ⟨9, 0, .rwl, 200, .within 50 500⟩], .own, none, .single⟩,
  -- RSV_HEALTH_RESULT
  ⟨0x0b0, [⟨31, 31, .ro, 0, .any⟩, ⟨30, 16, .ro, 0, .any⟩, ⟨15, 0, .ro, 0, .any⟩], .own, none, .single⟩,
  -- RSV_CNT_LATE
  ⟨0x0b4, [⟨31, 0, .ro, 0, .any⟩], .own, none, .single⟩,
  -- RSV_CNT_DEFER
  ⟨0x0b8, [⟨31, 0, .ro, 0, .any⟩], .own, none, .single⟩,
  -- RSV_CNT_TRIP
  ⟨0x0bc, [⟨31, 0, .ro, 0, .any⟩], .own, none, .single⟩]

/-- The registers of the WDG page after the header. -/
def regsWdg : List RegDef := [
  -- WDG_INDEX
  ⟨0x040, [⟨1, 0, .rw, 0, .within 0 2⟩], .own, none, .single⟩,
  -- WDG_CFG
  ⟨0x044, [⟨31, 31, .rwl, 0, .any⟩, ⟨30, 30, .rwl, 0, .any⟩, ⟨29, 29, .rwl, 0, .any⟩, ⟨25, 16, .rwl, 0, .any⟩, ⟨15, 0, .rwl, 1000, .atLeast 1⟩], .own, some ⟨0x040, 1, 0⟩, .single⟩,
  -- WDG_FEED
  ⟨0x048, [⟨2, 0, .wo, 0, .any⟩], .own, none, .single⟩,
  -- WDG_LEFT
  ⟨0x04c, [⟨31, 0, .ro, 0, .any⟩], .own, some ⟨0x040, 1, 0⟩, .single⟩,
  -- WDG_GRACE
  ⟨0x050, [⟨15, 0, .rwf, 10, .atLeast 10⟩], .own, none, .single⟩,
  -- WDG_EXPIRED
  ⟨0x054, [⟨31, 0, .ro, 0, .any⟩], .own, none, .single⟩]

/-- The registers of a block's page after the header. -/
def blockRegs : Block → List RegDef
  | .chp => regsChp
  | .frm => regsFrm
  | .evt => regsEvt
  | .pwr => regsPwr
  | .foy => regsFoy
  | .foq => regsFoq
  | .mft => regsMft
  | .vit => regsVit
  | .anx => regsAnx
  | .cat => regsCat
  | .cch => regsCch
  | .rgs => regsRgs
  | .dge => regsDge
  | .cdc => regsCdc
  | .cph => regsCph
  | .gal => regsGal
  | .plk => regsPlk
  | .dsp => regsDsp
  | .cur => regsCur
  | .csv => regsCsv
  | .rpl => regsRpl
  | .dma => regsDma
  | .cpu => regsCpu
  | .mem => regsMem
  | .hbm => regsHbm
  | .doc => regsDoc
  | .key => regsKey
  | .msr => regsMsr
  | .prv => regsPrv
  | .arc => regsArc
  | .upd => regsUpd
  | .alm => regsAlm
  | .rsv => regsRsv
  | .wdg => regsWdg

end Sys2Proof.Machine
end

