-- ==== Sys2Proof/Machine/Ops.lean ====
section
/-! DEFINITION. The named operations over the register file (R6 to R12, R53 to R61), the events (R69 to R74), the messages
sent and the free values. Every meaning reads and writes registers through these. -/

namespace Sys2Proof.Machine

open Reg

/-! ### Bits -/

/-- Bits hi to lo of a word, as a number (R3). -/
def bitsOf (w : Word) (hi lo : Nat) : Nat := (w.toNat >>> lo) % 2 ^ (hi - lo + 1)

/-- The word with ones in bits hi to lo. -/
def maskOf (hi lo : Nat) : Word := BitVec.ofNat 32 ((2 ^ (hi - lo + 1) - 1) <<< lo)

/-- The word with bits hi to lo set to the low bits of a number. -/
def putBits (w : Word) (hi lo v : Nat) : Word :=
  (w &&& ~~~ maskOf hi lo) ||| BitVec.ofNat 32 ((v % 2 ^ (hi - lo + 1)) <<< lo)

/-- A number as a signed value of a width, in two's complement. -/
def toSigned (bits n : Nat) : Int :=
  if n % 2 ^ bits < 2 ^ (bits - 1) then (n % 2 ^ bits : Nat) else ((n % 2 ^ bits : Nat) : Int) - (2 ^ bits : Nat)

/-- A signed value in two's complement of a width. -/
def ofSigned (bits : Nat) (i : Int) : Nat := (i % ((2 ^ bits : Nat) : Int)).toNat

/-- The sum, held at the greatest value of the width: a saturating counter. -/
def satAdd (bits a b : Nat) : Nat := min (a + b) (2 ^ bits - 1)

/-- One as a number, from a test. -/
def ofBool (b : Bool) : Nat := if b then 1 else 0

/-! ### The register file -/

/-- The register table's row for an offset of a block's page, the header's rows first (R53). -/
def regDef? (b : Block) (off : Nat) : Option RegDef :=
  if off < 0x40 then regsHdr.find? (fun r => r.off == off) else (blockRegs b).find? (fun r => r.off == off)

/-- The page that holds a register: a register held on the East page, or shared by both wings, has one home. -/
def homePage (p : Page) (off : Nat) : Page :=
  match regDef? p.block off with
  | some r => match r.share with
    | .own => p
    | _ => { p with wing := .east }
  | none => p

/-- The number of a page, by which the keys of the register file begin. -/
def pageNum (p : Page) : Nat := (blockNum p.block * 2 + wingNum p.wing) * 32 + p.inst % 32

/-- The key of a register entry: page, offset, and the entry of a windowed table. -/
def regKey (p : Page) (off bank : Nat) : Nat := (pageNum p * 4096 + off % 4096) * 65536 + bank % 65536

/-- The page number a key belongs to. -/
def keyPage (k : Nat) : Nat := k / 65536 / 4096

/-- The offset a key belongs to. -/
def keyOff (k : Nat) : Nat := k / 65536 % 4096

/-- The table entry a key belongs to. -/
def keyBank (k : Nat) : Nat := k % 65536

/-- The reset entries of a row's fields, as one word (R12). -/
def resetFields (r : RegDef) : Word := r.fields.foldl (fun w f => putBits w f.hi f.lo f.reset) 0

/-- Whether CTRL.ENABLE is 1 at reset (R53): on CHP, FRM, EVT, PWR and every Docent-window page. -/
def enabledAtReset (b : Block) : Bool := isDocent b || b == .chp || b == .frm || b == .evt || b == .pwr

/-- Whether the events of a number are locked in the route table (R72). -/
def routeLocked (ev : Nat) : Bool := (decide (48 ≤ ev) && decide (ev ≤ 55)) || (decide (896 ≤ ev) && decide (ev ≤ 991))

/-- Units of an engine class per wing that are ACTIVE at reset (R13): 44, 44 and 52. -/
def activeUnits (b : Block) : Nat := if b == .cph then 52 else 44

/-- Units of an engine class per wing (R13): 48, 48 and 56. -/
def totalUnits (b : Block) : Nat := if b == .cph then 56 else 48

/-- The reset word of a register: its table's entries, and what the hardware computes for the *hw* entries. -/
def resetWord (p : Page) (off bank : Nat) : Word :=
  match off, p.block with
  | 0x000, b =>
    BitVec.ofNat 32 (blockCode b <<< 26 + ofBool (isDocent b) <<< 25 + wingNum p.wing <<< 24 + p.inst <<< 16 + 1 <<< 8)
  | 0x004, b => BitVec.ofNat 32 (evtCount b <<< 24)
  | 0x008, b => BitVec.ofNat 32 (ofBool (enabledAtReset b))
  | 0x00c, b => BitVec.ofNat 32 (if enabledAtReset b then 1 else 2)
  | 0x01c, _ => BitVec.ofNat 32 (evtBase p)
  | 0x030, b => BitVec.ofNat 32 (if enabledAtReset b then 0 else 4 <<< 16)
  | 0x034, b => BitVec.ofNat 32 (ofBool (isDocent b) <<< 31 + 0xFF)
  | 0x048, .evt => if routeLocked bank then 0xC0000000 else 0
  | 0x048, .chp => BitVec.ofNat 32 (wingNum p.wing)
  | 0x04c, .chp => BitVec.ofNat 32 (Config.straps % 2 ^ 16)
  | 0x050, .chp => BitVec.ofNat 32 Config.uid
  | 0x054, .chp => BitVec.ofNat 32 (Config.uid >>> 32)
  | 0x058, .chp => 1
  | 0x068, .chp => 1
  | 0x044, .rsv => 2
  | 0x044, .mem => 0xFFFF
  | 0x044, .cpu => if bank < 24 then 0 else 1
  | 0x044, .dge => BitVec.ofNat 32 ((totalUnits .dge - activeUnits .dge) <<< 8 + activeUnits .dge)
  | 0x044, .cdc => BitVec.ofNat 32 ((totalUnits .cdc - activeUnits .cdc) <<< 8 + activeUnits .cdc)
  | 0x044, .cph => BitVec.ofNat 32 ((totalUnits .cph - activeUnits .cph) <<< 8 + activeUnits .cph)
  | 0x04c, .dge => if bank < activeUnits .dge then 0 else 1
  | 0x04c, .cdc => if bank < activeUnits .cdc then 0 else 1
  | 0x04c, .cph => if bank < activeUnits .cph then 0 else 1
  | 0x060, .vit => 1
  | 0x050, .gal => 2
  | 0x064, .vit => BitVec.ofNat 32 (wingNum p.wing <<< 31)
  | 0x044, .wdg => if bank = 0 then 0xC00003E8 else 0x3E8
  | o, b => match regDef? b o with
    | some r => resetFields r
    | none => 0

/-- The fields of the option area's word 1 (R439), with their values. -/
def optionFields (w : Nat) : List (Fld × Nat) :=
  (if w >>> 32 % 4 < 3 then [(FRM_CTRL_LENGTH, w >>> 32 % 4)] else []) ++
    [(WDG_CFG_TIMEOUT_MS, w >>> 48 % 65536), (UPD_TRIAL_SECONDS, w >>> 64 % 65536), (PRV_CTRL_HOLD_MS, w >>> 80 % 65536)]

/-- The Reset entry of a register (R12): an *opt* entry is what the option area held at chip reset. -/
def resetNow (h : Head) (p : Page) (off bank : Nat) : Word :=
  match h.arc.options with
  | some w => (optionFields w).foldl (fun v f =>
      if f.1.block = p.block ∧ f.1.off = off ∧ bank = 0 then putBits v f.1.hi f.1.lo f.2 else v) (resetWord p off bank)
  | none => resetWord p off bank

/-- A register's word: the value in force. -/
def rd (h : Head) (p : Page) (off bank : Nat) : Word :=
  let q := homePage p off
  tabGet h.regs (resetWord q off bank) (regKey q off bank)

/-- A register's word set. -/
def wr (h : Head) (p : Page) (off bank : Nat) (v : Word) : Head :=
  let q := homePage p off
  { h with regs := tabStore h.regs (resetWord q off bank) (regKey q off bank) v }

/-- The page of a block's first instance on a wing. -/
def pg (b : Block) (w : Wing) (inst : Nat := 0) : Page := ⟨b, w, inst⟩

/-- A field of a block's page, as a number. -/
def fget (h : Head) (w : Wing) (f : Fld) (bank : Nat := 0) (inst : Nat := 0) : Nat :=
  bitsOf (rd h (pg f.block w inst) f.off bank) f.hi f.lo

/-- A field of a block's page, set. -/
def fset (h : Head) (w : Wing) (f : Fld) (v : Nat) (bank : Nat := 0) (inst : Nat := 0) : Head :=
  wr h (pg f.block w inst) f.off bank (putBits (rd h (pg f.block w inst) f.off bank) f.hi f.lo v)

/-- A one-bit field as a test. -/
def fbit (h : Head) (w : Wing) (f : Fld) (bank : Nat := 0) (inst : Nat := 0) : Bool := fget h w f bank inst != 0

/-- A counter field advanced, saturating. -/
def fadd (h : Head) (w : Wing) (f : Fld) (n : Nat := 1) (bank : Nat := 0) (inst : Nat := 0) : Head :=
  fset h w f (satAdd (f.hi - f.lo + 1) (fget h w f bank inst) n) bank inst

/-- A high-water field: raised to a value if it is below it. -/
def fmax (h : Head) (w : Wing) (f : Fld) (v : Nat) (bank : Nat := 0) (inst : Nat := 0) : Head :=
  fset h w f (max (fget h w f bank inst) (min v (2 ^ (f.hi - f.lo + 1) - 1))) bank inst

/-- A field of a page's common header, as a number. -/
def hget (h : Head) (p : Page) (f : HBits) : Nat := bitsOf (rd h p f.off 0) f.hi f.lo

/-- A field of a page's common header, set. -/
def hset (h : Head) (p : Page) (f : HBits) (v : Nat) : Head := wr h p f.off 0 (putBits (rd h p f.off 0) f.hi f.lo v)

/-- A 64-bit pair read as one number: the fields of the LO and the HI half. -/
def pget (h : Head) (w : Wing) (lo hi : Fld) (bank : Nat := 0) : Nat :=
  (fget h w hi bank <<< (32 - lo.lo)) + fget h w lo bank

/-- A 64-bit pair set from one number. -/
def pset (h : Head) (w : Wing) (lo hi : Fld) (v : Nat) (bank : Nat := 0) : Head :=
  fset (fset h w lo v bank) w hi (v >>> (32 - lo.lo)) bank

/-- STATUS.RUNNING (R54, R471): ENABLE 1, QUIESCE 0, FENCED 0, and the island at rung 0. -/
def running (h : Head) (p : Page) : Bool :=
  hget h p CTRL_ENABLE == 1 && hget h p CTRL_QUIESCE == 0 && hget h p STATUS_FENCED == 0 && hget h p RUNG_CURRENT == 0

/-- STATUS.RUNNING kept equal to what R54 says of it. A block that accepts work is not quiesced. -/
def setRunning (h : Head) (p : Page) : Head :=
  if running h p then hset (hset h p STATUS_RUNNING 1) p STATUS_QUIESCED 0 else hset h p STATUS_RUNNING 0

/-! ### Events and errors -/

/-- An event of a page raised: its EVT_STATUS bit becomes 1, and where EVT_STATUS AND EVT_ENABLE rises the fabric
delivers it (R70). The delivery waits in `evq` until the command's own effect is done. -/
def raiseAt (h : Head) (p : Page) (n : Nat) : Head :=
  let st := hget h p EVT_STATUS_EVENTS
  if st.testBit n then h
  else
    let h := hset h p EVT_STATUS_EVENTS (st ||| 1 <<< n)
    if (hget h p EVT_ENABLE_EVENTS).testBit n then { h with evq := h.evq ++ [⟨evtBase p + n, p.wing⟩] } else h

/-- An event raised on a block's page of a wing. -/
def raise (h : Head) (w : Wing) (e : EvRef) (inst : Nat := 0) : Head := raiseAt h (pg e.block w inst) e.n

/-- A counted event (R70): delivered at every raise while its enable bit is 1, whether or not its bit is still set. -/
def raiseCounted (h : Head) (w : Wing) (e : EvRef) (inst : Nat := 0) : Head :=
  let p := pg e.block w inst
  let h := hset h p EVT_STATUS_EVENTS (hget h p EVT_STATUS_EVENTS ||| 1 <<< e.n)
  if (hget h p EVT_ENABLE_EVENTS).testBit e.n then { h with evq := h.evq ++ [⟨evtBase p + e.n, w⟩] } else h

/-- A head-wide event raised on the East page, with its copy on the West page in the same cycle (R48). -/
def raiseBoth (h : Head) (e : EvRef) : Head := raise (raise h .east e) .west e

/-- The number by which ERR_INFO.SOURCE names an initiator (R53). -/
def sourceCode : Initiator → Nat
  | .hart n => n
  | .mgmt => 0xFC
  | .dma => 0xFD
  | .docent => 0xFE
  | .hardware => 0xFF

/-- What an error record says: code, initiator, direction, address. -/
structure ErrRec where
  code : Nat
  src : Nat
  write : Bool
  addr : Nat
  deriving DecidableEq, Repr

/-- An error captured in ERR_INFO and ERR_ADDR (R60): the first is kept, later ones only advance COUNT. -/
def capture (h : Head) (p : Page) (e : ErrRec) : Head :=
  if hget h p ERR_INFO_VALID = 1 then hset h p ERR_INFO_COUNT (satAdd 7 (hget h p ERR_INFO_COUNT) 1)
  else
    let h := wr h p 0x020 0 (BitVec.ofNat 32 (1 <<< 31 + 1 <<< 24 + (e.src % 256) <<< 16 + ofBool e.write <<< 15 + e.code % 16))
    let h := hset h p ERR_ADDR_LO_ADDR e.addr
    hset h p ERR_ADDR_HI_ADDR (e.addr >>> 32)

/-- A page's configuration event, with its capture in ERR_INFO (R59). Both FRM pages raise the event of either (R48). -/
def config (h : Head) (p : Page) (e : ErrRec) : Head :=
  let h := capture h p e
  if p.block = .frm then raiseAt (raiseAt h (pg .frm .east) (configBit .frm)) (pg .frm .west) (configBit .frm)
  else raiseAt h p (configBit p.block)

/-- The configuration event of a received message that is ignored (R59): SOURCE 0xFF, WRITE 0, ERR_ADDR 0. -/
def configMsg (h : Head) (w : Wing) (b : Block) (inst : Nat := 0) : Head := config h (pg b w inst) ⟨11, 0xFF, false, 0⟩

/-! ### Messages and free values -/

/-- A message sent, at the end of the outbox. -/
def send (h : Head) (m : Msg) : Head := { h with out := h.out ++ [m] }

/-- The next free value's number, and the head with the counter advanced. -/
def fresh (h : Head) : Nat × Head := (h.freeCtr, { h with freeCtr := h.freeCtr + 1 })

/-- The operations applied one after another. -/
def foldHead {α : Type} (h : Head) (l : List α) (f : Head → α → Head) : Head := l.foldl f h

/-- The operation applied where a test holds. -/
def onlyIf (c : Bool) (h : Head) (f : Head → Head) : Head := if c then f h else h

/-- Both wings. -/
def wings : List Wing := [.east, .west]

end Sys2Proof.Machine
end

