-- ==== Sys2Proof/Machine/Access.lean ====
section
/-! DEFINITION. Register accesses: the decoding of an address (R50 to R52), the checks a write passes (R6, R56, R61, R62,
R543), and the effect of a write by the access class of each field (R7 to R11, R57 to R59, R78). -/

namespace Sys2Proof.Machine

open Reg

/-- The three windows of control pages (R50). -/
inductive Window | array | docent | mirror
  deriving DecidableEq, Repr

/-- What an address names: an offset of a page in a window; nothing, within a window; or nothing, outside them. -/
inductive Decoded
  | page (win : Window) (p : Page) (off : Nat)
  | hole (win : Window) (w : Wing)
  | outside
  deriving DecidableEq, Repr

/-- The bytes a window spans (R374). -/
def windowSize : Nat := 0x2000000

/-- The address of a page (R50). -/
def pageAddr (p : Page) : Nat :=
  (if isDocent p.block then 0x00F400000000 else 0x00F000000000) + wingNum p.wing <<< 24 + blockCode p.block <<< 18 + p.inst <<< 12

/-- The wing a bit of an address names. -/
def wingOf (n : Nat) : Wing := if n % 2 = 0 then .east else .west

/-- The page of a decoded window address, or a hole: the code names no block, or the instance does not exist, or a
Docent-window page is named at wing 1 (R14, R51). -/
def decodeWindow (win : Window) (a : Nat) : Decoded :=
  let w := wingOf (a >>> 24)
  let code := a >>> 18 % 64
  let inst := a >>> 12 % 64
  match win with
  | .array => match blockOfArray code with
    | some b => if inst < blockInstances b then .page win ⟨b, w, inst⟩ (a % 4096) else .hole win w
    | none => .hole win w
  | _ => match blockOfDocent code with
    | some b => if inst = 0 ∧ w = .east then .page win ⟨b, w, 0⟩ (a % 4096) else .hole win .east
    | none => .hole win .east

/-- The decoding of an address (R50, R51, R374). -/
def decodeAddr (addr : Nat) : Decoded :=
  if 0x00F000000000 ≤ addr ∧ addr < 0x00F000000000 + windowSize then decodeWindow .array (addr - 0x00F000000000)
  else if 0x00F400000000 ≤ addr ∧ addr < 0x00F400000000 + windowSize then decodeWindow .docent (addr - 0x00F400000000)
  else if 0x00F800000000 ≤ addr ∧ addr < 0x00F800000000 + windowSize then decodeWindow .mirror (addr - 0x00F800000000)
  else .outside

/-- Whether Docent firmware has mirrored the page (R63): bit n of DOC_MIRROR is the n-th page of R51's Docent window. -/
def mirrored (h : Head) (b : Block) : Bool := (fget h .east DOC_MIRROR_PAGES).testBit (blockCode b - 1)

/-- The reply to an access: bus error or not, and the data. -/
def reply (h : Head) (error : Bool) (data : Word := 0) : Head := { h with bus := ⟨error, data⟩ }

/-- A refused access recorded in CHP_BUS_ERR of a wing (R52, R81): code 9 undecoded with BUS_ERROR, 10 FIREWALL. -/
def busErr (h : Head) (w : Wing) (firewall : Bool) (ini : Initiator) (write : Bool) (addr : Nat) : Head :=
  let h := if fget h w CHP_BUS_ERR_INFO_VALID = 1 then fadd h w CHP_BUS_ERR_INFO_COUNT
    else
      let h := fset h w CHP_BUS_ERR_INFO_VALID 1
      let h := fset h w CHP_BUS_ERR_INFO_COUNT 1
      let h := fset h w CHP_BUS_ERR_INFO_SOURCE (sourceCode ini)
      let h := fset h w CHP_BUS_ERR_INFO_WRITE (ofBool write)
      let h := fset h w CHP_BUS_ERR_INFO_CODE (if firewall then 10 else 9)
      pset h w CHP_BUS_ERR_ADDR_LO_ADDR CHP_BUS_ERR_ADDR_HI_ADDR addr
  reply (raise h w (if firewall then Ev.CHP_FIREWALL else Ev.CHP_BUS_ERROR)) true

/-- Where an access that is let through goes: the page and the offset. -/
inductive Gate
  | pass (win : Window) (p : Page) (off : Nat) (h : Head)
  | stop (h : Head)

/-- The checks every access passes: the firewall and the decoding (R52, R62, R63), and whether it is one aligned word (R6).
An address of the mirror window decodes where Docent firmware has mirrored the page, and a read through it leaves the page as it is. -/
def gateAccess (h : Head) (ini : Initiator) (addr size : Nat) (write : Bool) : Gate :=
  match decodeAddr addr with
  | .outside => .stop (reply h true)
  | .hole .docent w => .stop (busErr h w (decide (ini ≠ .docent)) ini write addr)
  | .hole .mirror w => .stop (busErr h w write ini write addr)
  | .hole .array w => .stop (busErr h w false ini write addr)
  | .page win p off =>
    if win = .docent ∧ ini ≠ .docent then .stop (busErr h .east true ini write addr)
    else if win = .mirror ∧ write then .stop (busErr h .east true ini write addr)
    else if win = .mirror ∧ mirrored h p.block = false then .stop (busErr h .east false ini write addr)
    else if addr % 4 ≠ 0 ∨ size ≠ 4 then
      .stop (reply (if win = .mirror then h else capture h p ⟨1, sourceCode ini, write, addr⟩) true)
    else .pass win p off (reply h false)

/-- Whether OWNER refuses a write (R61): Docent and the management endpoint are never refused. The DMA engine is refused as a hart that
is not the owner. -/
def ownerRefuses (h : Head) (ini : Initiator) (p : Page) : Bool :=
  match ini with
  | .docent | .mgmt | .hardware => false
  | _ => hget h p OWNER_ENFORCE == 1 && sourceCode ini != hget h p OWNER_HART

/-- The checks a write to a decoded register passes: OWNER (R61), a fenced page (R56), rung 4 (R543). -/
def gateWrite (h : Head) (ini : Initiator) (p : Page) (off : Nat) : Gate :=
  let addr := pageAddr p + off
  let e (code : Nat) : ErrRec := ⟨code, sourceCode ini, true, addr⟩
  if ownerRefuses h ini p then .stop (reply (capture h p (e 2)) true)
  else if 0x40 ≤ off ∧ hget h p STATUS_FENCED = 1 then .stop (config h p (e 7))
  else if 0x40 ≤ off ∧ hget h p RUNG_CURRENT = 4 then .stop (config h p (e 3))
  else .pass .array p off h

/-- A write by an initiator to a register of a page through both gates, with an effect where it passes. -/
def withWrite (h : Head) (ini : Initiator) (p : Page) (off : Nat) (f : Head → Head) : Head :=
  match gateAccess h ini (pageAddr p + off) 4 true with
  | .stop h => h
  | .pass _ p off h => match gateWrite h ini p off with
    | .stop h => h
    | .pass _ _ _ h => f h

/-- What became of the fields of a written word. -/
structure Written where
  /-- The register's word after the write. -/
  word : Word
  /-- Bits written to RWF fields, held pending (R57). -/
  pendVal : Word
  pendMask : Word
  /-- The codes of the configuration events raised (R59). -/
  codes : List Nat
  deriving DecidableEq, Repr

/-- A value a field is written with: as the encoding admits it (R11), or none where it is below its minimum (R59, R78). -/
def accepted (f : FieldDef) (n : Nat) : Option Nat × List Nat :=
  match f.enc with
  | .any => (some n, [])
  | .within a b => if a ≤ n ∧ n ≤ b then (some n, []) else (some f.reset, [4])
  | .oneOf l => if l.contains n then (some n, []) else (some f.reset, [4])
  | .atLeast m => if n < m then (none, [8]) else (some n, [])

/-- One field of a written word, by its access class (R8). `mayChange` says whether an RWQ field may change now. A W1S or WO field starts
its action, which is the register's own effect. -/
def writeField (val : Word) (mayChange : Bool) (acc : Written) (f : FieldDef) : Written :=
  let n := bitsOf val f.hi f.lo
  let cur := bitsOf acc.word f.hi f.lo
  match f.acc with
  | .ro | .wo | .w1s => acc
  | .w1c => { acc with word := putBits acc.word f.hi f.lo (cur &&& (n ^^^ (2 ^ (f.hi - f.lo + 1) - 1))) }
  | .rw | .rwl => match accepted f n with
    | (some v, c) => { acc with word := putBits acc.word f.hi f.lo v, codes := acc.codes ++ c }
    | (none, c) => { acc with codes := acc.codes ++ c }
  | .rwf => match accepted f n with
    | (some v, c) => { acc with
        pendVal := putBits acc.pendVal f.hi f.lo v
        pendMask := acc.pendMask ||| maskOf f.hi f.lo
        codes := acc.codes ++ c }
    | (none, c) => { acc with codes := acc.codes ++ c }
  | .rwq => match accepted f n with
    | (some v, c) =>
      if v = cur then { acc with codes := acc.codes ++ c }
      else if mayChange then { acc with word := putBits acc.word f.hi f.lo v, codes := acc.codes ++ c }
      else { acc with codes := acc.codes ++ [3] ++ c }
    | (none, c) => { acc with codes := acc.codes ++ c }

/-- The fields of a written word, one after another. -/
def writeFields (r : RegDef) (cur val : Word) (mayChange : Bool) : Written :=
  r.fields.foldl (writeField val mayChange) ⟨cur, 0, 0, []⟩

/-- The table entry a register of a page reaches now: its index field's value on the page accessed. -/
def bankOf (h : Head) (p : Page) (r : RegDef) : Nat :=
  match r.bank with
  | none => 0
  | some b => bitsOf (rd h p b.off 0) b.hi b.lo

/-- A pending RWF value joined with the bits written after it (R57). -/
def joinPend (old : Word × Word) (val mask : Word) : Word × Word :=
  ((old.1 &&& ~~~ mask) ||| (val &&& mask), old.2 ||| mask)

/-- The configuration events of a write, one for each cause, with STATUS.CFG_LOCKED for a refused RWQ write (R8, R58, R59). -/
def writeCodes (h : Head) (p : Page) (src addr : Nat) (codes : List Nat) : Head :=
  foldHead h codes.eraseDups (fun h c =>
    let h := if c = 3 then hset h p STATUS_CFG_LOCKED 1 else h
    config h p ⟨c, src, true, addr⟩)

/-- A word written to one register, by the class of each field. A West page's copy of an East register is read-only. -/
def putReg (h : Head) (src : Nat) (p : Page) (r : RegDef) (bank : Nat) (val : Word) (mayChange : Bool) : Head :=
  if r.share = .east ∧ p.wing = .west then h
  else
    let rst := resetNow h p r.off bank
    let o := writeFields { r with fields := r.fields.map (fun f => { f with reset := bitsOf rst f.hi f.lo }) } (rd h p r.off bank) val mayChange
    let h := wr h p r.off bank o.word
    let k := regKey p r.off bank
    let h := if o.pendMask = 0 then h
      else { h with pend := tabPut h.pend k (joinPend (tabGet h.pend (0, 0) k) o.pendVal o.pendMask) }
    writeCodes h p src (pageAddr p + r.off) o.codes

/-- The offset of the other half of a pair. -/
def pairHi (off : Nat) : Nat := off + 4

/-- A word written to a register of a page: a HI half is held (R7), one for each pair of a page whatever its index register selects; a LO
half takes effect with the HI half held before it, and alone where none is held. A page has no register at an offset that its table does
not name. -/
def writeReg (h : Head) (src : Nat) (p : Page) (off : Nat) (val : Word) (mayChange : Bool) : Head :=
  match regDef? p.block off with
  | none => h
  | some r =>
    let bank := bankOf h p r
    match r.half with
    | .single => putReg h src p r bank val mayChange
    | .hi => { h with hiHold := tabPut h.hiHold (regKey p off 0) val }
    | .lo =>
      let kh := regKey p (pairHi off) 0
      let h := putReg h src p r bank val mayChange
      match tabGet? h.hiHold kh, regDef? p.block (pairHi off) with
      | some v, some rh => putReg { h with hiHold := tabDel h.hiHold kh } src p rh bank v mayChange
      | _, _ => h

/-- What a read of a register returns: the word in force, with RWF bits as last written through the page (R8, R115); WO fields and
reserved bits read 0. -/
def readWord (h : Head) (p : Page) (off : Nat) : Word :=
  match regDef? p.block off with
  | none => 0
  | some r =>
    let bank := bankOf h p r
    let w := rd h p off bank
    let pv := tabGet h.pend (0, 0) (regKey (if r.share = .shared then p else homePage p off) off bank)
    (w &&& ~~~ pv.2) ||| (pv.1 &&& pv.2)

/-- The pending RWF values of a page applied together (R57). -/
def applyPending (h : Head) (p : Page) : Head :=
  let mine := h.pend.filter (fun e => keyPage e.1 == pageNum p)
  let h := { h with pend := h.pend.filter (fun e => keyPage e.1 != pageNum p) }
  foldHead h mine (fun h e =>
    let old := rd h p (keyOff e.1) (keyBank e.1)
    wr h p (keyOff e.1) (keyBank e.1) ((old &&& ~~~ e.2.2) ||| (e.2.1 &&& e.2.2)))

/-- Every page of the head. -/
def allPages : List Page :=
  let blocks : List Block := [.chp, .frm, .evt, .pwr, .foq, .mft, .vit, .anx, .cat, .cch, .rgs, .dge, .cdc, .cph, .gal,
    .dsp, .cur, .csv, .rpl, .dma, .cpu, .mem, .hbm]
  let one (w : Wing) : List Page := blocks.map (fun b => ⟨b, w, 0⟩)
  let many (b : Block) (w : Wing) : List Page := (List.range (blockInstances b)).map (fun i => ⟨b, w, i⟩)
  let doc : List Block := [.doc, .key, .msr, .prv, .arc, .upd, .alm, .rsv, .wdg]
  one .east ++ one .west ++ many .foy .east ++ many .foy .west ++ many .plk .east ++ many .plk .west ++
    doc.map (fun b => ⟨b, .east, 0⟩)

/-- The page a page number names, if it is one of the head's. -/
def pageOfNum (n : Nat) : Option Page := allPages.find? (fun p => pageNum p == n)

/-- A committed page at the tick (R57): its pending values apply, GO clears, LAST_FRAME takes the frame count. -/
def commitPage (h : Head) (p : Page) : Head :=
  if hget h p COMMIT_GO = 1 then
    let h := applyPending h p
    let h := hset h p COMMIT_GO 0
    hset h p COMMIT_LAST_FRAME (fget h p.wing FRM_FRAME_LO_FRAME)
  else h

end Sys2Proof.Machine
end

