-- ==== Sys2Proof/Machine/Links.lean ====
section
/-! DEFINITION. The link layer that the Annex and the plinth links share (R150 to R155, R278): the transmit queue with its virtual
channels and credits, the replay buffer, the receiver. -/

namespace Sys2Proof.Machine

/-- How the virtual channels of a link share it: the channels in strict order, then the two that share what is left with a weight; and
the flits its replay buffer holds. -/
structure LinkRule where
  strict : List Nat
  heavy : Nat
  light : Nat
  weight : Nat
  window : Nat
  deriving DecidableEq, Repr

/-- The Annex (R152, R154). -/
def anxRule : LinkRule := ⟨[0, 1], 2, 3, 3, 512⟩

/-- A number added to one entry of a list. -/
def addAt (l : List Nat) (k n : Nat) : List Nat := l.mapIdx (fun i x => if i = k then x + n else x)

/-- One taken from one entry of a list. -/
def takeAt (l : List Nat) (k : Nat) : List Nat := l.mapIdx (fun i x => if i = k then x - 1 else x)

/-- A message behind those that wait. -/
def LinkState.push (l : LinkState) (m : LinkMsg) : LinkState := { l with queue := l.queue ++ [m] }

/-- A tick marker. -/
def isMarker (m : LinkMsg) : Bool :=
  match m.msg with
  | .tickMarker .. => true
  | _ => false

/-- A tick marker before all else that waits (R37), in the place of one that has not left. -/
def LinkState.pushMarker (l : LinkState) (m : Msg) : LinkState := { l with queue := ⟨0, 1, m⟩ :: l.queue.filter (fun x => !isMarker x) }

/-- The flits of a channel that wait. -/
def LinkState.waiting (l : LinkState) (vc : Nat) : Nat := ((l.queue.filter (fun m => m.vc == vc)).map (·.left)).sum

/-- A channel has a flit waiting and a credit for it. -/
def LinkState.channelReady (l : LinkState) (vc : Nat) : Bool := l.queue.any (fun m => m.vc == vc) && decide (0 < l.credits.getD vc 0)

/-- The channel whose flit is sent next (R152): strict order first, then the weighted round robin while both others wait. -/
def nextChannel (r : LinkRule) (l : LinkState) : Option Nat :=
  match r.strict.find? l.channelReady with
  | some v => some v
  | none => match l.channelReady r.heavy, l.channelReady r.light with
    | true, true => some (if l.turn < r.weight then r.heavy else r.light)
    | true, false => some r.heavy
    | false, true => some r.light
    | false, false => none

/-- One flit of a channel's oldest message taken from the queue, with what leaves with a message's last flit. -/
def takeFlit (vc : Nat) : List LinkMsg → List LinkMsg × Option Msg
  | [] => ([], none)
  | m :: t =>
    if m.vc = vc then (if m.left ≤ 1 then (t, some m.msg) else ({ m with left := m.left - 1 } :: t, none))
    else
      let r := takeFlit vc t
      (m :: r.1, r.2)

/-- A flit sent: it takes the next LSEQ and stays in the replay buffer with its first attempt (R154). -/
def LinkState.flitSent (l : LinkState) : LinkState := { l with txNext := (l.txNext + 1) % 1024, replay := l.replay ++ [(l.txNext, 1)] }

/-- A flit of a channel sent against a credit (R152). -/
def sendFlit (r : LinkRule) (l : LinkState) (vc : Nat) : LinkState × Option Msg :=
  let both := l.channelReady r.heavy && l.channelReady r.light
  let (q, m) := takeFlit vc l.queue
  ({ l.flitSent with
      queue := q
      credits := takeAt l.credits vc
      turn := if vc = r.heavy ∧ both then l.turn + 1 else if vc = r.light then 0 else l.turn }, m)

/-- Flits sent as long as a channel has one and a credit and the replay buffer has room: the link, and what has left whole. -/
def pumpLink (r : LinkRule) : Nat → LinkState → LinkState × List Msg
  | 0, l => (l, [])
  | fuel + 1, l =>
    if r.window ≤ l.replay.length then (l, [])
    else match nextChannel r l with
      | none => (l, [])
      | some vc =>
        let (l, m) := sendFlit r l vc
        let (l, ms) := pumpLink r fuel l
        (l, m.toList ++ ms)

/-- Every flit that can be sent. -/
def drainLink (r : LinkRule) (l : LinkState) : LinkState × List Msg := pumpLink r (l.queue.map (·.left)).sum l

/-- A link that is down (R155, R156, R158): what it had begun is lost, and its credits are granted anew when it has trained. -/
def LinkState.dropped (l : LinkState) : LinkState := { LinkState.idle with rxNext := l.rxNext, txNext := l.txNext }

/-- The distance from one link sequence to a later one. -/
def seqDist (a b : Nat) : Nat := (b + 1024 - a % 1024) % 1024

/-- A link trained (R150): each end tells the LSEQ it expects, from which the transmitter resumes; the flits that are sent again. -/
def LinkState.trained (l : LinkState) (expected : Nat) : LinkState × List Nat :=
  let left := l.replay.dropWhile (fun e => decide (0 < seqDist e.1 expected) && decide (seqDist e.1 expected < 512))
  ({ l with
      replay := left.map (fun e => (e.1, 1))
      txNext := if l.replay = [] then expected % 1024 else l.txNext
      nakSent := false }, left.map (·.1))

/-- What a link does with a flit, and what it then has to send: a NAK, an acknowledgement, credits, flits once more, or a retrain. -/
structure FlitResult where
  link : LinkState
  nak : Bool
  ack : Bool
  resent : List Nat
  retrain : Bool
  deriving DecidableEq, Repr

/-- The flits of a replay buffer sent once more; the eighth attempt of one having failed, the link retrains (R155). -/
def replayAll (l : LinkState) : FlitResult :=
  if l.replay.any (fun e => decide (8 ≤ e.2)) then ⟨l, false, false, [], true⟩
  else ⟨{ l with replay := l.replay.map (fun e => (e.1, e.2 + 1)) }, false, false, l.replay.map (·.1), false⟩

/-- What the header and body of a flit bring (R151). -/
structure FlitHdr where
  ftype : Nat
  vc : Nat
  lseq : Nat
  acktype : Nat
  ackseq : Nat
  credits : List Nat
  deriving DecidableEq, Repr

/-- An accepted flit: a LINK flit's credits are taken; the buffer of a flit of a channel is free again, and its credit is owed. -/
def LinkState.accept (l : LinkState) (f : FlitHdr) : LinkState :=
  let l := { l with rxNext := (f.lseq + 1) % 1024, nakSent := false }
  if f.ftype = 3 then { l with credits := l.credits.mapIdx (fun i x => x + f.credits.getD i 0) } else { l with owed := addAt l.owed f.vc 1 }

/-- A flit received (R151, R154): `good` is whether its CRC holds after correction; a reserved FTYPE, or a channel the link does not
use, counts as a CRC failure. Acknowledgement first, then the sequence. -/
def receiveFlit (l : LinkState) (good : Bool) (f : FlitHdr) : FlitResult :=
  if !good then ⟨{ l with nakSent := true }, !l.nakSent, false, [], false⟩
  else
    let r : FlitResult := match f.acktype with
      | 1 => ⟨{ l with replay := l.replay.dropWhile (fun e => decide (seqDist e.1 f.ackseq < 512)) }, false, false, [], false⟩
      | 2 =>
        let l := { l with replay := l.replay.dropWhile (fun e => decide (0 < seqDist e.1 f.ackseq) && decide (seqDist e.1 f.ackseq < 512)) }
        replayAll l
      | _ => ⟨l, false, false, [], false⟩
    if f.ftype = 0 then r
    else if f.lseq = r.link.rxNext then { r with link := r.link.accept f, ack := true }
    else if seqDist f.lseq r.link.rxNext ≤ 512 then r
    else { r with link := { r.link with nakSent := true }, nak := !r.link.nakSent }

/-- What acknowledges an accepted flit: a LINK flit where credits are owed and the replay buffer has room for it, else an IDLE flit. -/
def acknowledge (r : LinkRule) (l : LinkState) (w : Wing) (link : Option Nat) : LinkState × Msg :=
  let seq := (l.rxNext + 1023) % 1024
  if l.owed.any (fun n => n != 0) && decide (l.replay.length < r.window) then
    ({ l.flitSent with owed := l.owed.map (fun _ => 0) }, .credit w link l.txNext seq l.owed)
  else (l, .ack w link seq)

/-- The LINK flit by which a link that has come up grants the other end a credit for each buffer of its own (R152). How many it has on
a channel the spec does not say. -/
def grant (l : LinkState) (w : Wing) (link : Option Nat) : LinkState × Msg :=
  (l.flitSent, .credit w link l.txNext ((l.rxNext + 1023) % 1024) ((List.range 4).map Config.linkBuffers))

end Sys2Proof.Machine
end

