-- ==== Sys2Proof/Machine/Lookup.lean ====
section
/-! DEFINITION. What the blocks look up in one another: namespaces, keys, the pair's state, the in-flight bounds
(R99 to R101), the Annex's messages (R156). -/

namespace Sys2Proof.Machine

open Reg

/-! ### Namespaces -/

/-- The table entry that holds a namespace. -/
def nsIndex? (h : Head) (nsid : Nat) : Option Nat := (h.cat.nss.find? (fun e => e.2.nsid == nsid)).map (·.1)

/-- A namespace by NSID. -/
def nsGet? (h : Head) (nsid : Nat) : Option Namespace := (h.cat.nss.find? (fun e => e.2.nsid == nsid)).map (·.2)

/-- A namespace changed. -/
def nsUpd (h : Head) (nsid : Nat) (f : Namespace → Namespace) : Head :=
  { h with cat := { h.cat with nss := tabMap h.cat.nss (fun _ n => if n.nsid = nsid then f n else n) } }

/-- Whether this head owns a namespace (R163). -/
def ownsNs (h : Head) (nsid : Nat) : Bool :=
  match nsGet? h nsid with
  | some n => n.owned
  | none => false

/-- The home wing of a namespace (R15), East where it is unknown. -/
def homeOf (h : Head) (nsid : Nat) : Wing :=
  match nsGet? h nsid with
  | some n => n.home
  | none => .east

/-- The home wing the binding table records for a collection, East where it is not bound (R95). -/
def collHome (h : Head) (coll : Nat) : Wing :=
  match tabGet? h.bindings coll with
  | some b => b.home
  | none => .east

/-! ### Keys -/

/-- A key slot's number in the register file and the key table: a private slot follows the 8,192 data slots (R409). -/
def keySlotId (priv : Bool) (slot : Nat) : Nat := if priv then 8192 + slot else slot

/-- The key of the dump (R502): the private slot in RSV_DUMP.KEY_SLOT. -/
def dumpKey (h : Head) : Nat := keySlotId true (fget h .east RSV_DUMP_KEY_SLOT)

/-- A slot's STATE: 0 EMPTY, 1 LOADED, 2 ACTIVE, 3 REVOKED (R411). -/
def keyState (h : Head) (id : Nat) : Nat := fget h .east KEY_SLOT_ATTR_STATE id

/-- A slot's KIND (R409). -/
def keyKind (h : Head) (id : Nat) : Nat := fget h .east KEY_SLOT_ATTR_KIND id

/-- A slot's USAGE (R409). -/
def keyUsage (h : Head) (id : Nat) : Nat := fget h .east KEY_SLOT_ATTR_USAGE id

/-- A slot's COLL. -/
def keyColl (h : Head) (id : Nat) : Nat := fget h .east KEY_SLOT_ATTR_COLL id

/-- A slot's generation (R411). -/
def keyGen (h : Head) (id : Nat) : Nat := fget h .east KEY_SLOT_GEN_GEN id

/-- A slot's key value. -/
def keyValue (h : Head) (id : Nat) : Nat := tabGet h.keys 0 id

/-- The collection a data slot belongs to: the one whose binding names it (R24), else the slot's own COLL (R409). -/
def slotColl (h : Head) (slot : Nat) : Nat :=
  match h.bindings.find? (fun e => e.2.fpSlot == slot || e.2.mediaSlot == slot) with
  | some e => e.1
  | none => keyColl h slot

/-! ### The pair -/

/-- A collection's replication state (R361): 0 OFF, 1 SYNC, 2 ASYNC, 3 SHIPPING, 4 DIVERGED, 5 TARGET, 6 PROMOTING. -/
def rplState (h : Head) (coll : Nat) : Nat := fget h .east RPL_MAP_MODE_STATE coll

/-- The pair state (R167). -/
def pairState (h : Head) : Nat := fget h .east ANX_PAIR_STATE_STATE

/-- The pair state set. -/
def setPair (h : Head) (n : Nat) : Head := fset h .east ANX_PAIR_STATE_STATE n

/-- Writes are mirrored: the peer is present or may still be (RESILVER, MIRRORED, SUSPECT, TAKEOVER, ISOLATED). -/
def hasPeer (h : Head) : Bool := decide (2 ≤ pairState h) && decide (pairState h ≤ 6)

/-- The dump is armed (R109): RSV_DUMP.READY. -/
def dumpReady (h : Head) : Bool := fbit h .east RSV_DUMP_READY

/-- The head is in Dump (R472). -/
def inDump (h : Head) : Bool := fget h .east PWR_MODE_MODE == 2

/-- The Annex port of a wing is up. -/
def anxUp (h : Head) (w : Wing) : Bool := fbit h w ANX_LINK_STATUS_UP

/-- The port a wing's messages leave by: its own while it is up, else the other wing's (R149, R158). -/
def anxPort (h : Head) (w : Wing) : Option Wing :=
  if anxUp h w then some w else if anxUp h (otherWing w) then some (otherWing w) else none

/-- The bytes of a message after its header (R156). -/
def anxLength : AnxBody → Nat
  | .mirror es _ => 240 + 4096 * es.length
  | .resilver es => 240 + 4096 * es.length
  | .catUpdate es => 40 * es.length
  | .forward _ data => 64 + 4096 * data.length
  | .forwardResp _ ws data => 16 + 8 * ws.length + 4096 * data.length
  | .heartbeat .. => 32
  | .ownership _ ns => 4 * ns.length
  | .mirrorAck .. | .catAck _ | .ownershipAck _ => 0

/-- The flits a message fills, 256 bytes of body each (R151, R156). -/
def anxFlits (b : AnxBody) : Nat := (16 + anxLength b + 255) / 256

/-- The link state of a wing's Annex port. -/
def anxLink (h : Head) (w : Wing) : LinkState := if w = .east then h.vit.linkE else h.vit.linkW

/-- The link state of a wing's Annex port set. -/
def setAnxLink (h : Head) (w : Wing) (l : LinkState) : Head :=
  { h with vit := if w = .east then { h.vit with linkE := l } else { h.vit with linkW := l } }

/-- The virtual channel of a message (R152, R156). -/
def anxVc : AnxBody → Nat
  | .mirror .. => 1
  | .catUpdate _ | .ownership .. => 2
  | .forward .. | .forwardResp .. | .resilver _ => 3
  | .mirrorAck .. | .catAck _ | .heartbeat .. | .ownershipAck _ => 0

/-- A port sends: it is up, and no retrain is under way (R155). -/
def anxSends (h : Head) (w : Wing) : Bool := anxUp h w && !fbit h w ANX_LINK_STATUS_TRAINING

/-- What a port can send is sent. -/
def drainAnx (h : Head) (w : Wing) : Head :=
  if anxSends h w then
    let (l, ms) := drainLink anxRule (anxLink h w)
    foldHead (setAnxLink h w l) ms send
  else h

/-- A message put on a port's queue, with its MTAG, and sent as far as the port can. -/
def anxPut (h : Head) (port : Wing) (mtag coll : Nat) (b : AnxBody) : Head :=
  drainAnx (setAnxLink h port ((anxLink h port).push ⟨anxVc b, anxFlits b, .annex port mtag coll b⟩)) port

/-- A message sent on the port of a wing, if any port is up. -/
def anxSend (h : Head) (w : Wing) (mtag coll : Nat) (b : AnxBody) : Head :=
  match anxPort h w with
  | some p => anxPut h p mtag coll b
  | none => h

/-- The next MTAG of a wing (R156): bit 31 the wing, bits 30 to 0 rising by one a message. -/
def takeMtag (h : Head) (w : Wing) : Nat × Head :=
  match w with
  | .east => (h.vit.mtagE, { h with vit := { h.vit with mtagE := (h.vit.mtagE + 1) % 2 ^ 31 } })
  | .west => (2 ^ 31 + h.vit.mtagW, { h with vit := { h.vit with mtagW := (h.vit.mtagW + 1) % 2 ^ 31 } })

/-- A message that is kept until its reply arrives (R158), sent on the wing's port; with both ports down it waits. -/
def anxRequest (h : Head) (w : Wing) (coll : Nat) (b : AnxBody) : Nat × Head :=
  let (t, h) := takeMtag h w
  let h := { h with vit := { h.vit with unacked := h.vit.unacked ++ [⟨w, t, coll, b, false⟩] } }
  (t, anxSend h w t coll b)

/-! ### In-flight bounds -/

/-- Descriptors of an engine class outstanding on a wing (R65, R99). -/
def engCount (h : Head) (w : Wing) (cls : Block) : Nat :=
  (h.eng.ops.filter (fun o => o.cls == cls && o.wing == w)).length

/-- The engine classes that share the bound of 4,096 descriptors (R65, R370). -/
def engClasses : List Block := [.dge, .cdc, .cph, .mft, .dma]

/-- Die operations in flight on a wing (R99). -/
def dieOps (h : Head) (w : Wing) : Nat := fget h w DSP_OPS_READS + fget h w DSP_OPS_PROG_ERASE

/-- The wing is at a bound (R99). -/
def atBound (h : Head) (w : Wing) : Bool :=
  fbit h w FOQ_FETCH_HOST_TAGS || fbit h w FOQ_FETCH_DIE_OPS || fbit h w FOQ_FETCH_ENGINE_TAGS

/-- The wing takes no new capsule: at a bound, or paused (R99, R102). -/
def fetchHeld (h : Head) (w : Wing) : Bool := atBound h w || fbit h w FOQ_FETCH_PAUSED

/-- The wing spends time of this frame at a bound (R101). -/
def markStalled (h : Head) (w : Wing) : Head :=
  { h with foy := if w = .east then { h.foy with stalledE := true } else { h.foy with stalledW := true } }

/-- A cause of a bound set (R99, R101): TAG_BOUND where the wing was at none, and the wing's Mehror contexts begin
advertising RWIN = 0 where it was not yet held (R134). -/
def enterBound (h : Head) (w : Wing) (f : Fld) : Head :=
  if fbit h w f then h
  else
    let was := atBound h w
    let held := fetchHeld h w
    let h := markStalled (fset h w f 1) w
    let h := if was then h else raise h w Ev.FOQ_TAG_BOUND
    if held then h else raise h w Ev.MFT_WINDOW_CLOSED

/-- A counter that caused a bound has fallen HYST below its limit (R100). -/
def clearedBy (h : Head) (w : Wing) (f : Fld) (count limit : Nat) : Bool :=
  !fbit h w f || decide (count + fget h w FOQ_BOUND_HYST_HYST ≤ limit)

/-- The greatest engine-class count of a wing. -/
def engMax (h : Head) (w : Wing) : Nat := (engClasses.map (engCount h w)).foldl max 0

/-- The bounds of a wing brought up to date (R99, R100). -/
def updateBounds (h : Head) (w : Wing) : Head :=
  let tags := fget h w FOQ_TAGS_IN_USE
  let h := if 32768 ≤ tags then enterBound h w FOQ_FETCH_HOST_TAGS else h
  let h := if 4096 ≤ dieOps h w then enterBound h w FOQ_FETCH_DIE_OPS else h
  let h := if 4096 ≤ engMax h w then enterBound h w FOQ_FETCH_ENGINE_TAGS else h
  if atBound h w && clearedBy h w FOQ_FETCH_HOST_TAGS tags 32768 && clearedBy h w FOQ_FETCH_DIE_OPS (dieOps h w) 4096 &&
      clearedBy h w FOQ_FETCH_ENGINE_TAGS (engMax h w) 4096 then
    fset (fset (fset h w FOQ_FETCH_HOST_TAGS 0) w FOQ_FETCH_DIE_OPS 0) w FOQ_FETCH_ENGINE_TAGS 0
  else h

end Sys2Proof.Machine
end

