-- ==== Sys2Proof/Machine/CatPages.lean ====
section
/-! DEFINITION. The Catalogue's pages: the trees of the maps and of the bucket directories, page images and seals (R185 to R188, R200), the
pages a wing's store holds, and the lines of the Catalogue cache (R196). -/

namespace Sys2Proof.Machine

open Reg

/-! ### Seals (R187) -/

/-- The key of seals and anchor records: private slot 0 (R410). -/
def sealKey (h : Head) : Nat := keyValue h (keySlotId true 0)

/-- An AES-CMAC of bytes under the seal key. -/
def sealMac (h : Head) (len bytes : Nat) : Nat := Config.cmacFinish (sealKey h) 0 len bytes % 2 ^ 128

/-- The kinds of page (R187). -/
inductive PageKind | leaf | interior | index | bucketDir | tables | serialMap
  deriving DecidableEq, Repr

def PageKind.num : PageKind → Nat
  | .leaf => 0
  | .interior => 1
  | .index => 2
  | .bucketDir => 3
  | .tables => 4
  | .serialMap => 5

/-- A page's seal: the leftmost 64 bits of the CMAC over its 4,096 bytes and the 16 bytes of its context, which are its NSID or
collection, level, kind, and first granule or bucket. -/
def pageSeal (h : Head) (id level : Nat) (kind : PageKind) (first image : Nat) : Nat :=
  sealMac h 4112 (image % 2 ^ 32768 + (id % 2 ^ 32 + level <<< 32 + kind.num <<< 40 + first <<< 64) <<< 32768) % 2 ^ 64

/-! ### Trees (R185, R186) -/

/-- A page of a tree: its level and its number there. Page i of a level holds pages 256 i to 256 i + 255 of the level below. -/
def pageKey (level i : Nat) : Nat := level <<< 40 + i

/-- Where a page stands on flash; UNMAPPED with seal 0 where it does not (R186). -/
def refOf (refs : Tab PageRef) (level i : Nat) : PageRef := tabGet refs ⟨0, 0⟩ (pageKey level i)

/-- The image of a leaf page: 512 locators (R186). -/
def leafImage (lf : Leaf) : Nat := (lf.ents.map (fun e => (e.2 % 2 ^ 64) <<< (64 * e.1))).sum

/-- The image of an interior page: of each child its locator and its seal (R186). -/
def interiorImage (refs : Tab PageRef) (level i : Nat) : Nat :=
  ((List.range 256).map (fun j =>
    let r := refOf refs (level - 1) (256 * i + j)
    (r.loc + r.cmac <<< 64) <<< (128 * j))).sum

/-- A new place for a page: the locator of a raw one-granule case (R188). Which case the assembler gives it is left open. -/
def newPlace (h : Head) : Nat × Head :=
  let (k, h) := fresh h
  let x := Config.freeNat k
  ((x >>> 12 % (2 ^ 48 - 1) + 1) <<< 16 + (x % 2 ^ 12) <<< 4 + 1, h)

/-- A page written: sealed, in a new place. -/
def writePage (h : Head) (id level : Nat) (kind : PageKind) (first image : Nat) : PageRef × Head :=
  let (loc, h) := newPlace h
  (⟨loc, pageSeal h id level kind first image⟩, h)

/-- The parents of some pages, each once. -/
def parentsOf (l : List Nat) : List Nat := (l.map (· / 256)).eraseDups

/-- The pages of the given levels above some that have been written, written in turn, each level from the one below (R190 step 2).
`shift` is the number of bits by which a leaf's number stands above that of its first entry. -/
def writeUp (id : Nat) (kind : PageKind) (shift : Nat) : List Nat → List Nat → Tab PageRef × Head → Tab PageRef × Head
  | [], _, acc => acc
  | level :: rest, below, acc =>
    let l := parentsOf below
    writeUp id kind shift rest l (l.foldl (fun (acc : Tab PageRef × Head) i =>
      let (r, h) := writePage acc.2 id level kind (i <<< (8 * level + shift)) (interiorImage acc.1 level i)
      (tabPut acc.1 (pageKey level i) r, h)) acc)

/-- Some leaves of a namespace's map written with every page above them (R185, R190, R193). -/
def writeNs (h : Head) (n : Namespace) (leaves : List Nat) : Tab PageRef × Head :=
  let acc := leaves.foldl (fun (acc : Tab PageRef × Head) i =>
    let (r, h) := writePage acc.2 n.nsid 0 .leaf (512 * i) (((tabGet? n.leaves i).map leafImage).getD 0)
    (tabPut acc.1 (pageKey 0 i) r, h)) (n.pages, h)
  writeUp n.nsid .interior 9 [1, 2, 3, 4] leaves acc

/-- The root of a namespace's map (R185). -/
def rootOf (refs : Tab PageRef) : PageRef := refOf refs 4 0

/-- The pages of a map that a leaf's walk meets, root first (R185). -/
def pathOf (leaf : Nat) : List (Nat × Nat) := [4, 3, 2, 1, 0].map (fun level => (level, leaf >>> (8 * level)))

/-! ### Bucket pages (R200) -/

/-- An index entry's 48 bytes. -/
def entryNum (e : IndexEntry) : Nat :=
  e.fp % 2 ^ 256 + (e.loc % 2 ^ 64) <<< 256 + (e.ref % 2 ^ 32) <<< 320 +
    packLow [true, e.blind, e.collided, e.suspect, e.epoch.testBit 0, e.epoch.testBit 1, e.pending, e.moving] <<< 352
where
  /-- Bits, the lowest first. -/
  packLow : List Bool → Nat
    | [] => 0
    | b :: t => ofBool b + 2 * packLow t

/-- FPTAG: fingerprint bytes 0 to 7, byte 0 most significant (R199). -/
def fpTag (fp : Nat) : Nat := swapBytes (fp % 2 ^ 64) 8

/-- The bucket of an entry: the low bits of its FPTAG. -/
def bucketOf (h : Head) (coll : Nat) (e : IndexEntry) : Nat := fpTag e.fp % 2 ^ fget h .east RGS_COLL_CFG_BUCKET_LOG2 coll

/-- A bucket page's image: header and entries. -/
def bucketImage (coll bucket number : Nat) (next : PageRef) (es : List IndexEntry) : Nat :=
  coll + es.length <<< 16 + bucket <<< 32 + (number % 2 ^ 32) <<< 64 + next.loc <<< 128 + next.cmac <<< 192 +
    (es.zipIdx.map (fun e => entryNum e.1 <<< (512 + 384 * e.2))).sum

/-- A bucket's pages, of 84 entries each, the last written first so that each page holds the next one's place and seal. -/
def writeBucket (coll bucket number : Nat) : List (List IndexEntry) → Head → PageRef × Head
  | [], h => (⟨0, 0⟩, h)
  | es :: rest, h =>
    let (next, h) := writeBucket coll bucket number rest h
    writePage h coll 0 .index bucket (bucketImage coll bucket number next es)

/-- The entries of a bucket; a blind one lives only in the locator directory (R201). -/
def bucketEntries (h : Head) (coll bucket : Nat) : List IndexEntry :=
  (tabGet h.cat.index [] coll).filter (fun e => !e.blind && bucketOf h coll e == bucket)

/-- Some buckets of a collection written with the directory pages above them (R190, R200). -/
def writeIndex (h : Head) (coll number : Nat) (buckets : List Nat) : Tab PageRef × Head :=
  let acc := buckets.foldl (fun (acc : Tab PageRef × Head) b =>
    let (r, h) := writeBucket coll b number (piecesOf 84 (bucketEntries h coll b).length (bucketEntries h coll b)) acc.2
    (tabPut acc.1 (pageKey 0 b) r, h)) (tabGet h.cat.bucketPages [] coll, h)
  let levels := (fget h .east RGS_COLL_CFG_BUCKET_LOG2 coll + 7) / 8
  writeUp coll .bucketDir 0 ((List.range levels).map (· + 1)) buckets acc

/-- The root of a collection's bucket directory (R190). -/
def indexRoot (h : Head) (coll : Nat) (refs : Tab PageRef) : PageRef :=
  refOf refs ((fget h .east RGS_COLL_CFG_BUCKET_LOG2 coll + 7) / 8) 0

/-! ### The Curator's tables (R305, R308, R310) -/

/-- A block record's 16 bytes (R305). -/
def blockRecNum (b : BlockRec) : Nat :=
  b.st + (b.erases % 2 ^ 20) <<< 4 + (b.reads % 2 ^ 24) <<< 32 + (b.hall % 2 ^ 24) <<< 64 + (b.progHours % 2 ^ 32) <<< 96

/-- A hall's entry as its 256 bytes (R308). -/
def hallEntryNum (hall : Nat) (x : Hall) : Nat :=
  let ready := ((List.range x.rows).takeWhile (fun r => x.done.contains r || x.voids.contains r)).length
  hall + x.st <<< 24 + ofBool x.system <<< 26 + wingNum x.wing <<< 27 + x.n <<< 32 + x.rows <<< 48 + x.assigned <<< 64 +
    ready <<< 80 + x.voids.length <<< 96 + x.placed <<< 128 + x.valid <<< 160 + x.formed <<< 192 +
    (x.members.zipIdx.map (fun e => e.1 <<< (512 + 48 * e.2))).sum

/-- A serial map entry's 8 bytes (R310). -/
def serialNum (r : SerialRec) : Nat := r.hall + r.row <<< 24 + r.st <<< 36

/-- A page of a table of entries of some bits, 2^shift to a page. -/
def tableImage {α : Type} (t : Tab α) (bits shift i : Nat) (num : Nat → α → Nat) : Nat :=
  ((t.filter (fun e => e.1 >>> shift == i)).map (fun e => num e.1 e.2 <<< (bits * (e.1 % 2 ^ shift)))).sum

/-- A table written as sealed pages with the directory above them, and its root (R310). A page whose entries are all absent is not
there. -/
def writeTable {α : Type} (h : Head) (id : Nat) (kind : PageKind) (t : Tab α) (bits shift levels : Nat) (num : Nat → α → Nat) :
    PageRef × Head :=
  let pages := (t.map (fun e => e.1 >>> shift)).eraseDups
  let acc := pages.foldl (fun (acc : Tab PageRef × Head) i =>
    let (r, h) := writePage acc.2 id 0 kind (i <<< shift) (tableImage t bits shift i num)
    (tabPut acc.1 (pageKey 0 i) r, h)) ([], h)
  let (refs, h) := writeUp id kind shift ((List.range levels).map (· + 1)) pages acc
  (refOf refs levels 0, h)

/-- The Curator's tables written at a checkpoint (R310): the roots of the hall table, the block records and the serial map. -/
def writeTables (h : Head) : (PageRef × PageRef × PageRef) × Head :=
  let (a, h) := writeTable h 0 .tables h.cur.halls 2048 4 3 hallEntryNum
  let (b, h) := writeTable h 1 .tables h.cur.blocks 128 8 4 (fun _ => blockRecNum)
  let (c, h) := writeTable h 0 .serialMap h.cur.serials 64 9 5 (fun _ => serialNum)
  ((a, b, c), h)

/-! ### Dirty pages (R188) -/

/-- The leaves of a namespace changed since they were last written. -/
def dirtyLeaves (h : Head) (nsid : Nat) : List Nat := (h.cat.dirtyPages.filter (fun p => p.1 == nsid)).map (·.2)

/-- The dirty pages of a map: the dirty leaves and every page above them, which will name their new places. -/
def dirtyTree (h : Head) (nsid : Nat) : List (Nat × Nat) := ((dirtyLeaves h nsid).map pathOf).flatten.eraseDups

/-- The dirty buckets of a collection. -/
def dirtyBucketsOf (h : Head) (coll : Nat) : List Nat := (h.cat.dirtyBuckets.filter (fun b => b.1 == coll)).map (·.2)

/-- The dirty pages of a wing's store: maps and indexes lie on their home wing. -/
def dirtyPagesOf (h : Head) (w : Wing) : Nat :=
  (((h.cat.nss.map (·.2)).filter (fun n => n.home == w)).map (fun n => (dirtyTree h n.nsid).length)).sum +
    (h.cat.dirtyBuckets.filter (fun b => collHome h b.1 == w)).length

/-! ### The pages a store holds (R188) -/

/-- A page of the store is dirty. -/
def isDirtyPage (h : Head) (p : ResPage) : Bool := (dirtyTree h p.nsid).contains (p.level, p.page)

/-- A page of a map. -/
def isPage (nsid level page : Nat) (p : ResPage) : Bool := p.nsid == nsid && p.level == level && p.page == page

/-- The clock's hand over the pages of a wing's store, in the order in which it meets them: a page used since it last passed is marked
again, a dirty one passed, the first other one evicted (R188). -/
def clockEvict (h : Head) (w : Wing) : Nat → List ResPage → List ResPage
  | 0, l => l
  | _, [] => []
  | fuel + 1, p :: t =>
    if homeOf h p.nsid ≠ w ∨ isDirtyPage h p then clockEvict h w fuel (t ++ [p])
    else if p.used then clockEvict h w fuel (t ++ [{ p with used := false }])
    else t

/-- The pages that a wing's store holds at most. -/
def storePages (h : Head) (w : Wing) : Nat := fget h w CAT_STORE_SIZE_GIB * 2 ^ 18

/-- A page in use: marked where the store holds it, else brought in, with a clean page evicted where the store is full. -/
def usePage (h : Head) (nsid : Nat) (p : Nat × Nat) : Head :=
  let l := h.cat.resident
  if l.any (isPage nsid p.1 p.2) then
    { h with cat := { h.cat with resident := l.map (fun r => if isPage nsid p.1 p.2 r then { r with used := true } else r) } }
  else
    let w := homeOf h nsid
    let l := if (l.filter (fun r => homeOf h r.nsid == w)).length < storePages h w then l else clockEvict h w (2 * l.length) l
    { h with cat := { h.cat with resident := l ++ [⟨nsid, p.1, p.2, true⟩] } }

/-- Every page of a leaf's walk in use. -/
def usePath (h : Head) (nsid leaf : Nat) : Head := foldHead h (pathOf leaf) (fun h p => usePage h nsid p)

/-- A lookup of a granule can go on: no page of its walk lies on flash alone (R188). -/
def walkable (h : Head) (n : Namespace) (granule : Nat) : Bool :=
  (pathOf (granule / 512)).all (fun p => !tabHas n.pages (pageKey p.1 p.2) || h.cat.resident.any (isPage n.nsid p.1 p.2))

/-! ### The Catalogue cache (R196) -/

/-- The sets of a wing's cache. -/
def cacheSets : Nat := 49152

/-- The line of a page that holds an entry, as a number: entries of 8 bytes in a leaf, of 16 above it. -/
def lineOf (nsid leaf granule level : Nat) : Nat :=
  let entry := if level = 0 then granule % 512 / 16 else leaf >>> (8 * level - 8) % 256 / 8
  ((nsid <<< 3 + level) <<< 33 + leaf >>> (8 * level)) <<< 5 + entry

/-- A line of a wing's cache: by wing, set and way. -/
def lineKey (w : Wing) (set way : Nat) : Nat := (wingNum w * cacheSets + set) * 16 + way

/-- The ways of a wing's cache that take fills (R196, R197): enabled and not fenced. -/
def fillWays (h : Head) (w : Wing) : List Nat :=
  (List.range 16).filter (fun k => (fget h w CCH_WAY_EN_WAYS).testBit k && !(fget h w CCH_FENCED_WAYS).testBit k)

/-- A line used (R196): on a miss it takes an invalid line of its set, else the line of an enabled, unfenced way chosen at random, which is
written back. A write makes it dirty. -/
def useLine (h : Head) (w : Wing) (line : Nat) (write : Bool) : Head :=
  let set := line % cacheSets
  let at' (k : Nat) : Option CacheLine := tabGet? h.cat.lines (lineKey w set k)
  let put (h : Head) (k : Nat) (dirty : Bool) : Head :=
    { h with cat := { h.cat with lines := tabPut h.cat.lines (lineKey w set k) ⟨line, dirty⟩ } }
  match (List.range 16).find? (fun k => (at' k).any (fun x => x.line == line)) with
  | some k => put h k (write || (at' k).any (·.dirty))
  | none => match (fillWays h w).find? (fun k => (at' k).isNone) with
    | some k => put h k write
    | none =>
      let (x, h) := fresh h
      match (fillWays h w)[Config.freeNat x % (fillWays h w).length]? with
      | some k => put h k write
      | none => h

/-- The lines of a granule's walk used; an update writes the leaf's. -/
def walkLines (h : Head) (nsid granule : Nat) (write : Bool) : Head :=
  foldHead h [4, 3, 2, 1, 0] (fun h level =>
    useLine h (homeOf h nsid) (lineOf nsid (granule / 512) granule level) (write && level == 0))

/-- A lookup of a granule: the pages and the lines of its walk are used. -/
def walk (h : Head) (nsid granule : Nat) : Head := walkLines (usePath h nsid (granule / 512)) nsid granule false

/-- The lines of a way gone: written back and invalidated (R197). -/
def emptyWay (h : Head) (w : Wing) (k : Nat) : Head :=
  { h with cat := { h.cat with lines := h.cat.lines.filter (fun e => !(e.1 / 16 / cacheSets == wingNum w && e.1 % 16 == k)) } }

end Sys2Proof.Machine
end

