-- ==== Sys2Proof/Machine/Halls.lean ====
section
/-! DEFINITION. The Curator's tables (R304 to R311): block records, the hall table, the serial map, and the hall changes that
the CAT_UPDATE stream carries. -/

namespace Sys2Proof.Machine

open Reg

/-! ### Member addresses (R308) -/

/-- A block's address: plinth, channel, die and block. -/
def memberAddr (plinth chan die block : Nat) : Nat := plinth + chan <<< 6 + die <<< 10 + block <<< 13

def memPlinth (a : Nat) : Nat := a % 64
def memChan (a : Nat) : Nat := a >>> 6 % 16
def memDie (a : Nat) : Nat := a >>> 10 % 8
def memBlock (a : Nat) : Nat := a >>> 13 % 2 ^ 20

/-- The number of the die a block lies on, 128 to a plinth (R296). -/
def memDieKey (a : Nat) : Nat := memPlinth a * 128 + memChan a * 8 + memDie a

/-- Blocks 0 to 3 of channel 0, die 0 are ANCHOR blocks (R312). -/
def isAnchor (a : Nat) : Bool := memChan a == 0 && memDie a == 0 && decide (memBlock a < 4)

/-- The record of a block nothing is known of: UNKNOWN, or ANCHOR (R305). -/
def blankBlock (a : Nat) : BlockRec := ⟨if isAnchor a then 4 else 6, 0, 0, 0, 0, false⟩

/-- A block's record. -/
def blockRec (h : Head) (a : Nat) : BlockRec := tabGet h.cur.blocks (blankBlock a) a

/-- This head's PREFER, the parity of its blocks, halls and serials (R256, R306). -/
def parity (h : Head) : Nat := fget h .east ANX_PAIR_PREFER

/-- Dies of a plinth, from BR_GEOMETRY (R297). -/
def plinthDies (h : Head) (n : Nat) : Nat :=
  let g := tabGet h.plk.geom 0 n
  (g >>> 28 % 16 + 1) * (g >>> 25 % 8 + 1)

/-- The blocks of one parity on a plinth, without its anchor blocks. -/
def shareOf (h : Head) (n : Nat) : Nat :=
  plinthDies h n * ((fget h .east CUR_GEOM_BLOCKS_BLOCKS + 1 - parity h) / 2) - 2

/-- The head's share of member blocks (R319). -/
def blockShare (h : Head) : Nat := (h.cur.members.map (shareOf h)).sum

/-- FREE blocks of the head's parity (R319). -/
def freeBlocks (h : Head) : Nat := (h.cur.blocks.filter (fun e => e.2.st == 0 && memBlock e.1 % 2 == parity h)).length

/-! ### Registers that follow the tables -/

/-- The automatic mode (R319), and FOREGROUND from MOUNT until VERIFY_DONE (R333). -/
def autoMode (h : Head) : Nat :=
  if !h.cur.verified then 2
  else if !h.cur.mounted then 0
  else if 1000 * freeBlocks h ≤ fget h .east CUR_MARKS_FG * blockShare h then 2
  else if 1000 * freeBlocks h ≤ fget h .east CUR_MARKS_NORMAL * blockShare h then 1
  else 0

/-- The effective mode of a wing's Curator brought up to date, with its events (R319, R335). -/
def syncMode (h : Head) (w : Wing) : Head :=
  let was := fget h w CUR_CTRL_EFFECTIVE
  let now := if h.cur.mounted || h.cur.mounting then max (fget h w CUR_CTRL_MODE) (autoMode h) else 0
  let h := fset h w CUR_CTRL_EFFECTIVE now
  if was < 2 ∧ now = 2 then raise h .east Ev.CUR_FOREGROUND
  else if was = 2 ∧ now < 2 then raise h .east Ev.CUR_NORMAL
  else h

/-- Mean ERASES of FREE and MEMBER blocks, and their spread (R337). -/
def wearStat (h : Head) : Nat × Nat :=
  let l := (h.cur.blocks.filter (fun e => e.2.st == 0 || e.2.st == 1)).map (fun e => e.2.erases)
  match l with
  | [] => (0, 0)
  | x :: t => (l.sum / l.length, t.foldl max x - t.foldl min x)

/-- CUR_FREE, CUR_WEAR_STAT, CUR_HALLS, CUR_VAULT.BLOCKS, CSV_QUEUE and the effective modes brought up to date; wear mode turned
on or off (R320). -/
def syncCur (h : Head) : Head :=
  let h := fset h .east CUR_FREE_BLOCKS (freeBlocks h)
  let (mean, spread) := wearStat h
  let h := fset (fset h .east CUR_WEAR_STAT_MEAN (min mean 65535)) .east CUR_WEAR_STAT_SPREAD (min spread 65535)
  let wear := decide (fget h .east CUR_WEAR_SPREAD < spread)
  let h := if wear && !h.cur.wearMode then raise h .east Ev.CUR_WEAR_MODE else h
  let h := { h with cur := { h.cur with wearMode := wear } }
  let mine := h.cur.halls.filter (fun e => e.2.mine)
  let h := foldHead h wings (fun h w =>
    let h := fset h w CUR_HALLS_OWNED mine.length
    fset h w CUR_HALLS_FILLING (mine.filter (fun e => e.2.wing == w && e.2.st == 0)).length)
  let h := fset h .east CUR_VAULT_BLOCKS h.cur.vault.length
  let h := foldHead h wings (fun h w =>
    let h := fset h w CSV_QUEUE_CASES (min 65535 h.cur.rewrite.length)
    fset h w CSV_QUEUE_BLOCKS (min 65535 h.cur.refresh.length))
  foldHead h wings syncMode

/-- The Curator's tables changed. -/
def curUpd (h : Head) (f : CurState → CurState) : Head := syncCur { h with cur := f h.cur }

/-- A block's record set. -/
def setBlock (h : Head) (a : Nat) (b : BlockRec) : Head :=
  curUpd h (fun c => { c with blocks := tabStore c.blocks (blankBlock a) a b })

/-- A hall's entry set. -/
def setHall (h : Head) (n : Nat) (x : Hall) : Head := curUpd h (fun c => { c with halls := tabPut c.halls n x })

/-- A hall's entry changed, if the table holds it. -/
def updHall (h : Head) (n : Nat) (f : Hall → Hall) : Head := curUpd h (fun c => { c with halls := tabUpd c.halls n f })

/-- The members, with PRESENT and QUORUM (R169, R324). -/
def setMembers (h : Head) (l : List Nat) : Head :=
  let h := curUpd h (fun c => { c with members := l })
  fset (fset h .east ANX_WITNESS_PRESENT l.length) .east ANX_WITNESS_QUORUM (l.length / 2 + 1)

/-! ### Halls and serials -/

/-- The hall of a serial (R310). -/
def serialHall (h : Head) (serial : Nat) : Option SerialRec := tabGet? h.cur.serials serial

/-- The member of a panel of a row (R259): panel k of row r lies on member (k + r) mod W. -/
def panelMember (x : Hall) (row k : Nat) : Nat := x.members.getD ((k + row) % (x.n + 2)) 0

/-- The block a panel of a serial's gallery lies in, and its row. -/
def panelPlace (h : Head) (serial k : Nat) : Option (Nat × Nat) :=
  match serialHall h serial with
  | none => none
  | some r => (tabGet? h.cur.halls r.hall).map (fun x => (panelMember x r.row k, r.row))

/-- A hall becomes FULL when all its rows are committed or VOID (R309). -/
def fullIfDone (x : Hall) : Hall :=
  if x.st = 0 ∧ x.rows ≤ x.done.length + x.voids.length ∧ x.rows ≠ 0 then { x with st := 1 } else x

/-- A row recorded as committed (R265). -/
def commitSerial (h : Head) (serial : Nat) : Head :=
  match serialHall h serial with
  | none => h
  | some r =>
    let h := curUpd h (fun c => { c with serials := tabPut c.serials serial { r with st := 2 } })
    updHall h r.hall (fun x => fullIfDone (if x.done.contains r.row then x else { x with done := x.done ++ [r.row] }))

/-- A row recorded as VOID (R265). -/
def voidSerial (h : Head) (hall row serial : Nat) : Head :=
  let h := curUpd h (fun c => { c with serials := tabPut c.serials serial ⟨hall, row, 3⟩ })
  updHall h hall (fun x => fullIfDone
    (if x.voids.contains row then x else { x with voids := x.voids ++ [row], done := x.done.filter (· != row) }))

/-- A granule placed in the hall of a serial adds 1 to PLACED and to VALID (R308). -/
def hallPlaced (h : Head) (serial : Nat) : Head :=
  match serialHall h serial with
  | none => h
  | some r => updHall h r.hall (fun x => { x with placed := x.placed + 1, valid := x.valid + 1 })

/-- The Registrar reports an entry's count leaving or reaching 0 (R308). -/
def hallValid (h : Head) (serial : Nat) (up : Bool) : Head :=
  match serialHall h serial with
  | none => h
  | some r => updHall h r.hall (fun x => { x with valid := if up then x.valid + 1 else x.valid - 1 })

/-- A block whose erase has completed (R307): one erase more, FREE or RETIRED. -/
def blockErased (h : Head) (a : Nat) : Head :=
  let b := blockRec h a
  let n := min (b.erases + 1) (2 ^ 20 - 1)
  let old := b.retire || decide (fget h .east CUR_WEAR_LIMIT ≤ n)
  let h := setBlock h a ⟨if isAnchor a then 4 else if old then 5 else 0, n, 0, 0, 0, false⟩
  if old && !isAnchor a then
    let w : Wing := if memPlinth a < 32 then .east else .west
    raise (fadd h w CUR_CNT_RETIRED_COUNT) w Ev.CUR_BLOCK_RETIRED
  else h

/-- An erased block leaves its hall, whose entry is freed with its last member (R321). -/
def leaveHall (h : Head) (a : Nat) : Head :=
  let n := (blockRec h a).hall
  match tabGet? h.cur.halls n with
  | none => h
  | some x =>
    if x.st ≠ 3 ∨ !x.members.contains a then h
    else
      let l := x.members.filter (· != a)
      if l = [] then curUpd h (fun c => { c with halls := tabDel c.halls n }) else setHall h n { x with members := l }

/-- The serials of a hall leave the serial map (R321). -/
def dropSerials (h : Head) (hall : Nat) : Head :=
  curUpd h (fun c => { c with serials := c.serials.filter (fun e => e.2.hall != hall) })

/-- A hall entry with nothing filled in, of the peer's (R311). -/
def blankHall : Hall := ⟨false, 0, false, .east, 0, 0, 0, [], [], 0, 0, 0, []⟩

/-- A member put in a hall's entry at its index. -/
def putMember (l : List Nat) (k a : Nat) : List Nat :=
  (l ++ List.replicate (k + 1 - l.length) 0).mapIdx (fun i x => if i = k then a else x)

/-- A hall change of the CAT_UPDATE stream applied on the peer (R311). -/
def applyHallEntry (h : Head) (e : CatEntry) : Head :=
  let hall := e.granule % 2 ^ 24
  let row := e.granule >>> 24 % 2 ^ 12
  let serial := e.newLoc >>> 16
  match e.flags % 16 with
  | 1 =>
    let a := e.newLoc % 2 ^ 48
    let x := tabGet h.cur.halls blankHall hall
    let h := setHall h hall { x with members := putMember x.members (e.granule >>> 24 % 32) a }
    setBlock h a { blockRec h a with st := 1, hall := hall, progHours := h.cur.hours }
  | 2 =>
    let x := tabGet h.cur.halls blankHall hall
    setHall h hall { x with
      n := e.granule >>> 24 % 256
      rows := fget h .east CUR_GEOM_ROWS
      system := e.granule.testBit 32
      wing := if e.granule.testBit 33 then .west else .east
      formed := h.cur.hours }
  | 3 =>
    let h := curUpd h (fun c => { c with serials := tabPut c.serials serial ⟨hall, row, 1⟩ })
    updHall h hall (fun x => { x with assigned := max x.assigned (row + 1) })
  | 4 => voidSerial h hall row serial
  | 5 => updHall (dropSerials h hall) hall (fun x => { x with st := 3 })
  | 6 =>
    let a := e.granule % 2 ^ 48
    blockErased (leaveHall h a) a
  | _ => h

/-- Reads this head has issued to a hall's blocks and not yet completed (R311). -/
def readsHall (h : Head) (hall : Nat) : Bool :=
  match tabGet? h.cur.halls hall with
  | none => false
  | some x =>
    let hit (n : Nat) (c : PlkCmd) : Bool :=
      (c.opcode == 1 || c.opcode == 4) && !c.mgmt && x.members.contains (memberAddr n c.channel c.die c.block)
    h.plk.ops.any (fun o => hit o.plinth o.cmd) || h.dsp.waiting.any (fun r => hit r.plinth r.cmd)

end Sys2Proof.Machine
end

