-- ==== Sys2Proof/Machine/CatOps.lean ====
section
/-! DEFINITION. The operations over the map, the indexes and the journal (R181 to R210), which the Foyer, the Vitrine, the
Registrar and deaccession share. -/

namespace Sys2Proof.Machine

open Reg

/-! ### Locators (R181, R182) -/

/-- UNMAPPED. -/
def locUnmapped : Nat := 0

/-- ZERO. -/
def locZero : Nat := 2

/-- The serial of a locator. -/
def locSerial (l : Nat) : Nat := l >>> 16

/-- The panel index of a locator. -/
def locPanel (l : Nat) : Nat := l >>> 11 % 32

/-- The first sheet of a locator. -/
def locSheet (l : Nat) : Nat := l >>> 4 % 128

/-- The granule index of a locator. -/
def locGidx (l : Nat) : Nat := l >>> 1 % 8

/-- The RAW bit of a locator. -/
def locRaw (l : Nat) : Bool := l % 2 == 1

/-- A locator from its fields. -/
def mkLoc (serial panel sheet gidx : Nat) (raw : Bool) : Nat :=
  serial <<< 16 + panel <<< 11 + sheet <<< 4 + gidx <<< 1 + ofBool raw

/-! ### Reference counts (R207 to R210) -/

/-- The open checkpoint interval, modulo 4 (R208): the one after the checkpoint that runs, or after the last one. -/
def openInterval (h : Head) : Nat :=
  (fget h .east CAT_CKPT_LAST_NUMBER + 1 + fget h .east CAT_CKPT_STATUS_IN_PROGRESS) % 4

/-- The entries of a collection's index. -/
def indexOf (h : Head) (coll : Nat) : List IndexEntry := tabGet h.cat.index [] coll

/-- The registers that count a collection's entries, brought up to date (R214). -/
def syncColl (h : Head) (coll : Nat) : Head :=
  let l := indexOf h coll
  let h := pset h .east RGS_COLL_ENTRIES_LO_ENTRIES RGS_COLL_ENTRIES_HI_ENTRIES l.length coll
  fset h .east RGS_COLL_BLIND_COUNT ((l.filter (·.blind)).length) coll

/-- The buckets in which two states of a collection's index differ. -/
def changedBuckets (h : Head) (coll : Nat) (a b : List IndexEntry) : List (Nat × Nat) :=
  (((a.filter (fun e => !b.contains e) ++ b.filter (fun e => !a.contains e)).filter (fun e => !e.blind)).map
    (fun e => (coll, bucketOf h coll e))).eraseDups

/-- A collection's index replaced; the pages of the buckets that change are dirty (R188). -/
def setIndex (h : Head) (coll : Nat) (l : List IndexEntry) : Head :=
  let new := (changedBuckets h coll (indexOf h coll) l).filter (fun b => !h.cat.dirtyBuckets.contains b)
  let h := { h with cat := { h.cat with dirtyBuckets := h.cat.dirtyBuckets ++ new } }
  syncColl { h with cat := { h.cat with index := if l = [] then tabDel h.cat.index coll else tabPut h.cat.index coll l } } coll

/-- One reference added to, or dropped from, the entry of a locator (R207), with the bounds of R210. UNMAPPED and ZERO hold
no reference (R182). -/
def refChange (h : Head) (coll loc : Nat) (up : Bool) : Head :=
  if locSerial loc = 0 then h
  else
    let w := collHome h coll
    let ep := openInterval h
    let l := indexOf h coll
    match l.find? (fun e => e.loc == loc) with
    | none => h
    | some e =>
      let e' : IndexEntry :=
        if up then { e with ref := min (e.ref + 1) 0xFFFFFFFF, epoch := ep }
        else if e.ref = 0xFFFFFFFF then e
        else if e.ref = 0 then { e with suspect := true, epoch := ep }
        else { e with ref := e.ref - 1, epoch := ep }
      let h := setIndex h coll (l.map (fun x => if x.loc = loc then e' else x))
      let h := if (e.ref = 0) ≠ (e'.ref = 0) then hallValid h (locSerial loc) up else h
      if up && e'.ref == 0xFFFFFFFF && e.ref != 0xFFFFFFFF then raise h w Ev.RGS_PINNED
      else if !up && e.ref == 0 then
        raise { h with cat := { h.cat with noDeaccession := coll :: h.cat.noDeaccession } } w Ev.RGS_REFCOUNT_FAULT
      else h

/-- One reference added to each of a list of locators. -/
def refUpAll (h : Head) (coll : Nat) (locs : List Nat) : Head := foldHead h locs (fun h l => refChange h coll l true)

/-- One reference dropped from each of a list of locators. -/
def refDownAll (h : Head) (coll : Nat) (locs : List Nat) : Head := foldHead h locs (fun h l => refChange h coll l false)

/-! ### The map (R185, R194) -/

/-- A granule's locator in a namespace's live map. -/
def mapGet (n : Namespace) (granule : Nat) : Nat :=
  match tabGet? n.leaves (granule / 512) with
  | some lf => tabGet lf.ents locUnmapped (granule % 512)
  | none => locUnmapped

/-- The newest edition of a namespace: the one with the greatest number. -/
def newestEdition? (n : Namespace) : Option Edition :=
  n.editions.foldl (fun (b : Option Edition) e => match b with
    | some x => if x.number < e.number then some e else some x
    | none => some e) none

/-- Whether a leaf of the live map is shared with the namespace's newest edition (R194). -/
def leafShared (n : Namespace) (i : Nat) : Bool :=
  match newestEdition? n, tabGet? n.leaves i with
  | some e, some lf => match tabGet? e.leaves i with
    | some lf' => lf'.ver == lf.ver
    | none => false
  | _, _ => false

/-- A leaf page changed where the store holds it, with its walk, and marked dirty once (R188). -/
def markDirty (h : Head) (nsid leaf : Nat) : Head :=
  let h := usePath h nsid leaf
  if h.cat.dirtyPages.contains (nsid, leaf) then h
  else { h with cat := { h.cat with dirtyPages := h.cat.dirtyPages ++ [(nsid, leaf)] } }

/-- A granule's locator set in the live map: an unshared leaf in place, a shared leaf in a new copy (R194). `counted` says
whether this head applies the reference changes (R207). -/
def mapPut (h : Head) (nsid granule loc : Nat) (counted : Bool) : Head :=
  match nsGet? h nsid with
  | none => h
  | some n =>
    let i := granule / 512
    let old := mapGet n granule
    let lf := (tabGet? n.leaves i).getD ⟨0, []⟩
    let shared := leafShared n i
    let fresh := shared || lf.ver == 0
    let ents := tabStore lf.ents locUnmapped (granule % 512) loc
    let lf' : Leaf := ⟨if fresh then h.cat.nextVer else lf.ver, ents⟩
    let kept := ((tabDel lf.ents (granule % 512)).map (·.2))
    let h := { h with cat := { h.cat with nextVer := h.cat.nextVer + ofBool fresh } }
    let h := nsUpd h nsid (fun n => { n with leaves := tabPut n.leaves i lf' })
    let h := markDirty (walkLines h nsid granule true) nsid i
    if counted then
      let h := if shared then refUpAll h n.coll kept else h
      let h := refChange h n.coll loc true
      if shared then h else refChange h n.coll old false
    else h

/-- A moved granule's locator replaced wherever a leaf version of a namespace names it, editions included (R209). Counts do not
change. -/
def moveInNs (h : Head) (nsid old new : Nat) : Head :=
  let leaf (lf : Leaf) : Leaf := { lf with ents := tabMap lf.ents (fun _ l => if l = old then new else l) }
  nsUpd h nsid (fun n => { n with
    leaves := tabMap n.leaves (fun _ lf => leaf lf)
    editions := n.editions.map (fun e => { e with leaves := tabMap e.leaves (fun _ lf => leaf lf) }) })

/-- An entry of the stream that moves a case (R209): it carries no write sequence and is not reference-only. -/
def isMove (e : CatEntry) : Bool := e.wseq == 0 && e.flags == 0 && locSerial e.newLoc != 0 && locSerial e.oldLoc != 0

/-- The granules of a namespace's live map that a locator stands at. -/
def granulesAt (n : Namespace) (loc : Nat) : List Nat :=
  (n.leaves.map (fun lf => (lf.2.ents.filter (fun e => e.2 == loc)).map (fun e => 512 * lf.1 + e.1))).flatten

/-! ### The journal (R189) -/

/-- The bytes a journal entry takes: an update 40, an inserted entry 48 (R156, R200). -/
def journalBytes : JournalEntry → Nat
  | .update .. => 40
  | .inserted .. => 48

/-- The journal's size in whole MiB, rounded up. -/
def journalMib (l : List JournalEntry) : Nat := ((l.map journalBytes).sum + 2 ^ 20 - 1) / 2 ^ 20

/-- CAT_JOURNAL brought up to date. -/
def syncJournal (h : Head) : Head :=
  let m := journalMib h.cat.journal
  fmax (fset h .east CAT_JOURNAL_USED_MIB m) .east CAT_JOURNAL_PEAK_MIB m

/-- The dirty pages of a namespace's map written (R190, R193). -/
def writeMap (h : Head) (nsid : Nat) : Head :=
  match nsGet? h nsid with
  | none => h
  | some n =>
    let (refs, h) := writeNs h n (dirtyLeaves h nsid)
    let h := nsUpd h nsid (fun n => { n with pages := refs })
    { h with cat := { h.cat with dirtyPages := h.cat.dirtyPages.filter (fun p => p.1 != nsid) } }

/-- The dirty index pages of a collection written, as of a checkpoint (R190). -/
def writeBuckets (h : Head) (coll number : Nat) : Head :=
  let (refs, h) := writeIndex h coll number (dirtyBucketsOf h coll)
  { h with cat := { h.cat with
    bucketPages := tabPut h.cat.bucketPages coll refs
    dirtyBuckets := h.cat.dirtyBuckets.filter (fun b => b.1 != coll) } }

/-- Every dirty page written, leaves first, each in a new place (R188, R190 step 2). -/
def writePages (h : Head) (number : Nat) : Head :=
  let h := foldHead h (h.cat.dirtyPages.map (·.1)).eraseDups writeMap
  foldHead h (h.cat.dirtyBuckets.map (·.1)).eraseDups (fun h c => writeBuckets h c number)

/-- The tables as a checkpoint holds them, with the root of each collection's bucket directory and of the Curator's tables (R190 step 3,
R310). -/
def snapNow (h : Head) (number : Nat) (roots : PageRef × PageRef × PageRef) : CatSnap :=
  ⟨number, h.cat.nss, h.cat.index, h.cat.bucketPages, tabMap h.cat.bucketPages (fun c refs => indexRoot h c refs), h.cat.journal.length,
    h.cur.blocks, h.cur.halls, h.cur.serials, h.cur.nextHall, h.gal.boundary, roots.1, roots.2.1, roots.2.2⟩

/-- CAT_STORE.DIRTY_GIB brought up to date: pages of 4 KiB, rounded up. Pages that a running checkpoint writes still count. -/
def syncStore (h : Head) : Head :=
  foldHead h wings (fun h w =>
    let gib := (4096 * dirtyPagesOf h w + 2 ^ 30 - 1) / 2 ^ 30
    if fbit h .east CAT_CKPT_STATUS_IN_PROGRESS then fmax h w CAT_STORE_DIRTY_GIB gib else fset h w CAT_STORE_DIRTY_GIB gib)

/-- Dirty pages fill half of a wing's store (R188). -/
def storeHalf (h : Head) : Bool :=
  wings.any (fun w => decide (fget h w CAT_STORE_SIZE_GIB * 2 ^ 30 ≤ 2 * (4096 * dirtyPagesOf h w)))

/-- A checkpoint begun (R190): the journal is cut, the pages dirty at the cut are written, and the record, sealed with the full CMAC. It
never starts while the previous one runs. -/
def startCheckpoint (h : Head) : Head :=
  if fbit h .east CAT_CKPT_STATUS_IN_PROGRESS then h
  else
    let number := (fget h .east CAT_CKPT_LAST_NUMBER + 1) % 2 ^ 32
    let h := writePages (fset h .east CAT_CKPT_STATUS_IN_PROGRESS 1) number
    let (roots, h) := writeTables h
    let s := snapNow h number roots
    let record := Config.recordBytes s
    { h with cat := { h.cat with
      cut := h.cat.journal.length
      frames := 0
      cutSnap := some s
      cutSeal := sealMac h record.1 record.2 } }

/-- Entries recorded in the journal; at three quarters of the limit JOURNAL_HIGH is raised and a checkpoint starts (R189), as one does
when dirty pages fill half of a store (R188). -/
def journalAdd (h : Head) (l : List JournalEntry) : Head :=
  let was := journalMib h.cat.journal
  let h := syncJournal { syncStore h with cat := { h.cat with journal := h.cat.journal ++ l } }
  let now := journalMib h.cat.journal
  let limit := fget h .east CAT_CKPT_JOURNAL_MIB
  let h := if 4 * was < 3 * limit ∧ 3 * limit ≤ 4 * now then startCheckpoint (raise h .east Ev.CAT_JOURNAL_HIGH) else h
  if storeHalf h then startCheckpoint h else h

/-- The journal has reached its limit, and accession waits (R189). -/
def journalFull (h : Head) : Bool := decide (fget h .east CAT_CKPT_JOURNAL_MIB ≤ journalMib h.cat.journal)

/-! ### The Vitrine's slots -/

/-- Granules of a state on a wing. -/
def slotCount (l : List Slot) (w : Wing) (p : SlotState → Bool) : Nat := (l.filter (fun s => s.wing == w && p s.st)).length

/-- DIRTY or ACCESSION. -/
def isOwnDirty : SlotState → Bool
  | .dirty | .accession => true
  | _ => false

/-- DIRTY, ACCESSION or MIRROR: what counts in the pair dirty total (R146). -/
def isPairDirty : SlotState → Bool
  | .dirty | .accession | .mirror => true
  | _ => false

/-- The pair dirty total in granules (R146). -/
def pairDirty (h : Head) : Nat := (h.vit.slots.filter (fun s => isPairDirty s.st)).length

/-- Granules in whole MiB, rounded up. -/
def granMib (n : Nat) : Nat := (n + 255) / 256

/-- The slots replaced, the registers that count them brought up to date, and QUOTA_HIGH raised where the pair dirty total
rises through its mark (R148). -/
def setSlots (h : Head) (l : List Slot) : Head :=
  let was := pairDirty h
  let h := { h with vit := { h.vit with slots := l } }
  let now := pairDirty h
  let h := foldHead h wings (fun h w =>
    let h := fset h w VIT_DIRTY_OWN_GRANULES (slotCount l w isOwnDirty)
    let h := fset h w VIT_MIRROR_USED_GRANULES (slotCount l w (fun s => s == .mirror))
    fset h w VIT_CLEAN_GRANULES (slotCount l w (fun s => s == .clean)))
  let h := fset h .east VIT_QUOTA_NOW_PAIR_DIRTY_MIB (granMib now)
  let mark := 256 * fget h .east VIT_HIGH_MARK_MIB
  if was < mark ∧ mark ≤ now then raise h .east Ev.VIT_QUOTA_HIGH else h

/-- The slots of a version freed. -/
def freeSlots (h : Head) (p : Slot → Bool) : Head := setSlots h (h.vit.slots.filter (fun s => !p s))

/-- Bits 62 to 0 of a write sequence, by which write sequences are compared (R144). -/
def seqNum (w : Nat) : Nat := w % 2 ^ 63

/-- VIT_WSEQ of a wing. -/
def wseqNext (h : Head) (w : Wing) : Nat := pget h w VIT_WSEQ_LO_WSEQ VIT_WSEQ_HI_WSEQ

/-- Both wings' sequences raised above a received or adopted one (R144). -/
def raiseSeq (h : Head) (seq : Nat) : Head :=
  foldHead h wings (fun h w =>
    if seqNum (wseqNext h w) ≤ seqNum seq then
      pset h w VIT_WSEQ_LO_WSEQ VIT_WSEQ_HI_WSEQ (wingNum w <<< 63 + (seqNum seq + 1) % 2 ^ 63)
    else h)

/-- The head's serial counter raised above a serial seen (R257). -/
def serialCounter (h : Head) : Nat := (pget h .east GAL_SERIAL_LO_NEXT GAL_SERIAL_HI_NEXT) / 2

/-- GAL_SERIAL set from the counter: bit 0 is ANX_PAIR.PREFER (R256). -/
def setSerialCounter (h : Head) (c : Nat) : Head :=
  pset h .east GAL_SERIAL_LO_NEXT GAL_SERIAL_HI_NEXT (2 * c + fget h .east ANX_PAIR_PREFER)

/-- The counter raised above a received locator's serial (R257). -/
def raiseSerial (h : Head) (loc : Nat) : Head :=
  let c := locSerial loc / 2
  if serialCounter h ≤ c then setSerialCounter h (c + 1) else h

/-! ### Updates (R165) -/

/-- An update acknowledged with DONE, or with no peer at once (R165, R158): the DIRTY slots its entries name are freed, and a hall
it reclaims becomes ERASING (R321). -/
def freeUpdated (h : Head) (es : List CatEntry) : Head :=
  let h := foldHead h (es.filter (fun e => e.nsid == 0xFFFFFFFF && e.flags == 5)) (fun h e =>
    updHall h (e.granule % 2 ^ 24) (fun x => if x.mine then { x with st := 3 } else x))
  freeSlots h (fun s => isOwnDirty s.st &&
    es.any (fun e => e.wseq != 0 && !e.flags.testBit 1 && e.nsid == s.nsid && e.granule == s.granule && e.wseq == s.wseq))

/-- Changes applied to the head's own Catalogue and sent to the peer in one CAT_UPDATE (R165), or, where they are more than its 4,096
entries (R156), in as many as they need, in order (DEDUCED). With no peer the dirty slots are freed at once. -/
def sendUpdate (h : Head) (w : Wing) (coll : Nat) (es : List CatEntry) : Head :=
  let h := journalAdd h (es.map (fun e => .update true e []))
  if hasPeer h then foldHead h (piecesOf 4096 es.length es) (fun h l => (anxRequest h w coll (.catUpdate l)).2) else freeUpdated h es

/-- A granule's update under R165: the new locator in the owner's map, and the entry for the peer. -/
def updateGranule (h : Head) (nsid granule wseq loc : Nat) (refOnly : Bool) : Head × Option CatEntry :=
  match nsGet? h nsid with
  | none => (h, none)
  | some n => (mapPut h nsid granule loc true, some ⟨nsid, ofBool refOnly, granule, wseq, loc, mapGet n granule⟩)

end Sys2Proof.Machine
end

