-- ==== Sys2Proof/Machine/Frame.lean ====
section
/-! DEFINITION. Frame and slot (R27 to R49): slots, late schedules, tick markers, the frame length, PTP discipline. -/

namespace Sys2Proof.Machine

open Reg

/-- The length of a frame in ns, by its length code (R27). -/
def frameNs (len : Nat) : Nat := if len = 0 then 4000 else if len = 2 then 16000 else 8000

/-- The frame length code in force. -/
def frameLen (h : Head) : Nat := fget h .east FRM_CTRL_LENGTH

/-- The nominal length of a slot in ns (R27). -/
def slotNs (h : Head) : Nat := frameNs (frameLen h) / 32

/-- FRM_FRAME, the 48-bit local frame count (R30). -/
def frameCount (h : Head) (w : Wing := .east) : Nat := pget h w FRM_FRAME_LO_FRAME FRM_FRAME_HI_FRAME

/-- The wire count of the current frame (R30). -/
def wireCount (h : Head) : Nat := fget h .east FRM_WIRE_WIRE_COUNT

/-- FRM_TIME in ns. -/
def frmTime (h : Head) : Nat := pget h .east FRM_TIME_LO_TIME FRM_TIME_HI_TIME

/-- A value written to a field of each wing's FRM page. -/
def frmBoth (h : Head) (f : Fld) (v : Nat) : Head := fset (fset h .east f v) .west f v

/-- A budget held in units of the 8 µs frame, as a frame of the length in force grants it (R31). -/
def frameBudget (h : Head) (bits budget : Nat) : Nat :=
  if frameLen h = 0 then (if budget = 0 then 0 else max 1 (budget / 2))
  else if frameLen h = 2 then min (2 * budget) (2 ^ bits - 1)
  else budget

/-- FRM_SLOT.SLOT and FRM_TIME at the start of a slot. -/
def enterSlot (h : Head) (slot : Nat) : Head :=
  let t := h.frm.tickTime + slot * slotNs h
  foldHead h wings (fun h w => pset (fset h w FRM_SLOT_SLOT slot) w FRM_TIME_LO_TIME FRM_TIME_HI_TIME t)

/-- SLOT_BOUNDARY (R27): the timebase reaches the start of the next slot. Slot 31 is the last; slot 0 begins at the tick. -/
def slotBoundary (h : Head) : Head :=
  let slot := fget h .east FRM_SLOT_SLOT
  if slot < 31 then enterSlot h (slot + 1) else h

/-- The slips of one kind in the last 1,024 frames, with a slip of this frame added (R35). -/
def slipWindow (h : Head) (l : List Nat) : List Nat :=
  (l.filter (fun f => decide (frameCount h < f + 1024))) ++ [frameCount h]

/-- The slip event of a wing (R35): at the first slip of any kind since the event was cleared, and each time the slips of
one kind within 1,024 frames reach FRM_SLIP_THRESH. The event is counted. -/
def slipEvent (h : Head) (w : Wing) (inWindow : Nat) : Head :=
  let th := fget h .east FRM_SLIP_THRESH_THRESH
  let first := (hget h (pg .frm w) EVT_STATUS_EVENTS).testBit 1 = false
  if first ∨ (th ≠ 0 ∧ inWindow = th) then raiseCounted h w Ev.FRM_SLIP else h

/-- A tick slip (R42). Events 0 to 2 report each wing's own; the timebase that slips is the head's, so both pages count. -/
def tickSlip (h : Head) : Head :=
  let l := slipWindow h h.frm.slipsTick
  let h := { h with frm := { h.frm with slipsTick := l } }
  foldHead h wings (fun h w => slipEvent (fadd h w FRM_SLIP_TICK_COUNT) w l.length)

/-- A late-schedule frame of a wing's Dispatcher counted (R33), with BUILD_LATE. -/
def buildSlip (h : Head) (w : Wing) : Head :=
  let l := slipWindow h (if w = .east then h.frm.slipsBuildE else h.frm.slipsBuildW)
  let f := if w = .east then { h.frm with slipsBuildE := l } else { h.frm with slipsBuildW := l }
  let h := fadd { h with frm := f } w FRM_SLIP_BUILD_COUNT
  raise (slipEvent h w l.length) w Ev.FRM_BUILD_LATE

/-- A frame in which a block of the wing carried work over, counted once (R34). -/
def workSlip (h : Head) (w : Wing) : Head :=
  let l := slipWindow h (if w = .east then h.frm.slipsWorkE else h.frm.slipsWorkW)
  let f := if w = .east then { h.frm with slipsWorkE := l } else { h.frm with slipsWorkW := l }
  slipEvent (fadd { h with frm := f } w FRM_SLIP_WORK_COUNT) w l.length

/-- A block of a wing carries work over out of the current frame (R32, R34). -/
def carryOver (h : Head) (w : Wing) : Head :=
  { h with frm := if w = .east then { h.frm with carriedE := true } else { h.frm with carriedW := true } }

/-- SCHEDULE_DEADLINE (R33): with the next schedule incomplete at the deadline slot, the next frame is a late-schedule frame. -/
def scheduleDeadline (h : Head) (w : Wing) : Head :=
  match w with
  | .east => { h with frm := { h.frm with lateE := h.frm.lateE || !h.frm.builtE } }
  | .west => { h with frm := { h.frm with lateW := h.frm.lateW || !h.frm.builtW } }

/-- A wing's late-schedule frame begins (R33, R48). -/
def lateTick (h : Head) (w : Wing) : Head :=
  if !(if w = .east then h.frm.lateE else h.frm.lateW) then h
  else buildSlip { h with frm := if w = .east then { h.frm with lateE := false } else { h.frm with lateW := false } } w

/-- FRM_LOCK.STATE: 0 free-running, 1 locked, 2 lost, 3 relocking. -/
def lockState (h : Head) : Nat := fget h .east FRM_LOCK_STATE

/-- The head is a follower (R39). -/
def isFollower (h : Head) : Bool := fget h .east FRM_CTRL_ROLE == 2

/-- The timebase is lost (R42): STATE LOST, the loss counted, the event on both pages, no trim. -/
def timebaseLost (h : Head) : Head :=
  let h := frmBoth (frmBoth h FRM_LOCK_STATE 2) FRM_LOCK_RUN 0
  let h := fadd (fadd h .east FRM_SLIP_TICK_LOST) .west FRM_SLIP_TICK_LOST
  let h := { h with frm := { h.frm with trimNow := 0, trimNext := 0 } }
  raiseBoth h Ev.FRM_TIMEBASE_LOST

/-- The phase error limited to the greatest trim (R42). -/
def limitTrim (h : Head) (phase : Int) : Int :=
  let m : Int := (fget h .east FRM_TRIM_MAX_TRIM : Nat)
  max (-m) (min m phase)

/-- The trim of slot 31 of the frame that begins at the nearest local tick (R42). -/
def setTrim (h : Head) (next : Bool) (t : Int) : Head :=
  { h with frm := if next then { h.frm with trimNext := t } else { h.frm with trimNow := t } }

/-- The count difference d of a marker (R42): FCOUNT minus the wire count of the nearest local tick, signed modulo 2^16. -/
def countDiff (h : Head) (payload : Word) (next : Bool) : Int :=
  toSigned 16 (bitsOf payload 31 16 + 2 ^ 16 + 2 ^ 16 - (wireCount h + ofBool next))

/-- The wire count of the current frame: FRM_FRAME plus the wire offset (R30). -/
def syncWire (h : Head) : Head :=
  frmBoth h FRM_WIRE_WIRE_COUNT ((frameCount h + fget h .east FRM_WIRE_WIRE_OFFSET) % 2 ^ 16)

/-- The wire offset changed, and the wire count with it (R30). -/
def addOffset (h : Head) (d : Int) : Head :=
  syncWire (frmBoth h FRM_WIRE_WIRE_OFFSET (ofSigned 16 ((fget h .east FRM_WIRE_WIRE_OFFSET : Nat) + d)))

/-- One marker while the follower is LOST or RELOCKING (R43). A flagged marker neither adds to nor breaks the run: one that continues it
stands for its tick. The 16th marker of a run gives its own tick its FCOUNT, so the tick after that one carries FCOUNT plus 1, and trims
the frame that begins at its tick. -/
def relockMarker (h : Head) (payload : Word) (flagged next : Bool) (phase : Int) : Head :=
  let fcount := bitsOf payload 31 16
  let entering := lockState h = 2
  let h := frmBoth h FRM_LOCK_STATE 3
  if flagged then
    if fcount = (h.frm.lastCount + 1) % 2 ^ 16 then { h with frm := { h.frm with lastCount := fcount } } else h
  else
    let inPhase := decide (2 * phase.natAbs ≤ slotNs h)
    let run := fget h .east FRM_LOCK_RUN
    let follows := entering = false ∧ run ≠ 0 ∧ fcount = (h.frm.lastCount + 1) % 2 ^ 16
    let run' := if inPhase = false then 0 else if follows then run + 1 else 1
    let h := { h with frm := { h.frm with lastCount := fcount } }
    if run' < 16 then frmBoth h FRM_LOCK_RUN run'
    else
      let h := setTrim (addOffset h (countDiff h payload next)) next (limitTrim h phase)
      let h := frmBoth (frmBoth h FRM_LOCK_RUN 0) FRM_LOCK_STATE 1
      raiseBoth h Ev.FRM_TIMEBASE_REGAINED

/-- The announced change of length, as a follower takes it from a marker (R44). -/
def takeCountdown (h : Head) (payload : Word) (next : Bool) : Head :=
  let n := bitsOf payload 13 10
  if n = 0 ∨ bitsOf payload 9 8 = 3 then h
  else
    let h := { h with frm := { h.frm with countdown := n + ofBool next, announced := bitsOf payload 9 8 } }
    fset h .east FRM_LENGTH_SET_COUNTDOWN (min 15 (n + ofBool next))

/-- A follower uses the markers of the lowest-numbered wing whose Annex port is up (R153). -/
def usesPort (h : Head) (port : Wing) : Bool :=
  fbit h port ANX_LINK_STATUS_UP && (port == .east || !fbit h .east ANX_LINK_STATUS_UP)

/-- The local tick nearest to a marker's compensated arrival (R38, R42), `true` for the tick that ends the current frame, and the phase
error in ns. The arrival is in ns after the tick that began the frame; the link's delay is taken from it. -/
def markerPlace (h : Head) (port : Wing) (arrival : Nat) : Bool × Int :=
  let t : Int := (arrival : Int) - (fget h port ANX_LINK_STATUS_DELAY_NS : Nat)
  let len : Int := (frameNs (frameLen h) : Nat) + h.frm.trimNow
  if 2 * t ≤ len then (false, t) else (true, t - len)

/-- TICK_MARKER (R42, R43, R153): a follower tracks, slips, loses its timebase or advances relocking. -/
def tickMarker (h : Head) (port : Wing) (payload : Word) (flagged : Bool) (arrival : Nat) : Head :=
  if isFollower h = false ∨ usesPort h port = false then h
  else
    let (next, phase) := markerPlace h port arrival
    let h := takeCountdown h payload next
    let h := frmBoth h FRM_LOCK_MISSED 0
    let h := if flagged then h else fset h .east FRM_LOCK_PHASE_ERR (ofSigned 16 phase)
    if lockState h = 2 ∨ lockState h = 3 then relockMarker h payload flagged next phase
    else
      let d := countDiff h payload next
      let inPhase := flagged ∨ 2 * phase.natAbs ≤ slotNs h
      if 2 ≤ d.natAbs ∨ ¬ inPhase then timebaseLost h
      else
        let h := if flagged then h else setTrim h next (limitTrim h phase)
        if d = 0 then h else tickSlip (addOffset h d)

/-- MISSED_TICK (R42): the eighth missed tick in a row declares the timebase lost. -/
def missedTick (h : Head) : Head :=
  if isFollower h = false then h
  else
    let n := min (fget h .east FRM_LOCK_MISSED + 1) 15
    let h := frmBoth h FRM_LOCK_MISSED n
    if 8 ≤ n ∧ lockState h = 1 then timebaseLost h else h

/-- CHANGE written 1 on FRM.E (R44, R45): the countdown starts, unless the head is a follower, locked or not, or a countdown runs (R10),
its own or one announced to it. -/
def changeEffect (h : Head) (src : Nat) : Head :=
  let p := pg .frm .east
  if isFollower h then config h p ⟨11, src, true, pageAddr p + 0x044⟩
  else if fbit h .east FRM_LENGTH_SET_CHANGE ∨ 0 < h.frm.countdown then h
  else
    let h := fset h .east FRM_LENGTH_SET_CHANGE 1
    { h with frm := { h.frm with countdown := 16, announced := fget h .east FRM_LENGTH_SET_NEXT_LENGTH } }

/-- LENGTH_SET_CHANGE. On FRM.W the bit is read-only (R49). -/
def lengthSetChange (h : Head) (ini : Initiator) (w : Wing) : Head :=
  withWrite h ini (pg .frm w) 0x044 (fun h => if w = .west then h else changeEffect h (sourceCode ini))

/-- LENGTH_CHANGED (R44): the countdown has ended and the new length applies from this tick. A NEXT_LENGTH equal to the
length in force completes the countdown with no change (R45). -/
def lengthChanged (h : Head) : Head :=
  if h.frm.lengthDue = false then h
  else
    let n := h.frm.announced
    let changed := n ≠ frameLen h
    let h := { h with frm := { h.frm with lengthDue := false, countdown := 0 } }
    let h := fset (fset h .east FRM_LENGTH_SET_CHANGE 0) .east FRM_LENGTH_SET_COUNTDOWN 0
    let h := fset h .east FRM_CTRL_LENGTH n
    let h := frmBoth h FRM_SLOT_SLOT_NS (frameNs n / 32)
    if changed then raiseBoth h Ev.FRM_LENGTH_CHANGED else h

/-- FRM_PTP_CTRL.PTP_LOCKED: 1 while PTP_EN is 1 and the last written |OFFSET| is below LOCK_WINDOW. -/
def ptpLockedNow (h : Head) : Bool :=
  fbit h .east FRM_CTRL_PTP_EN &&
    decide ((toSigned 32 (fget h .east FRM_PTP_OFFSET_OFFSET)).natAbs < fget h .east FRM_PTP_CTRL_LOCK_WINDOW)

/-- PTP_LOCKED brought up to date; its fall raises PTP_UNLOCKED (R48). -/
def updatePtpLock (h : Head) : Head :=
  let was := fbit h .east FRM_PTP_CTRL_PTP_LOCKED
  let now := ptpLockedNow h
  let h := fset h .east FRM_PTP_CTRL_PTP_LOCKED (ofBool now)
  if was ∧ now = false then raiseBoth h Ev.FRM_PTP_UNLOCKED else h

/-- A written offset replaces what remains of the one before (R47), the current frame's part with it: it is absorbed from the following
frame on. -/
def takeOffset (h : Head) (v : Word) : Head :=
  updatePtpLock { h with frm := { h.frm with slewLeft := 1000 * toSigned 32 v.toNat, slewNow := 0 } }

/-- PTP_OFFSET_WRITE (R46). -/
def ptpOffsetWrite (h : Head) (ini : Initiator) (v : Word) : Head :=
  withWrite h ini (pg .frm .east) 0x070 (fun h => takeOffset (fset h .east FRM_PTP_OFFSET_OFFSET v.toNat) v)

/-- CLR_COUNTS (R49): the page's slip and loss counters clear together. -/
def clrCounts (h : Head) (ini : Initiator) (w : Wing) : Head :=
  withWrite h ini (pg .frm w) 0x040 (fun h =>
    let h := fset (fset h w FRM_SLIP_TICK_COUNT 0) w FRM_SLIP_TICK_LOST 0
    fset (fset h w FRM_SLIP_BUILD_COUNT 0) w FRM_SLIP_WORK_COUNT 0)

/-- PTP discipline is in force (R47): on a follower PTP_EN has no effect. -/
def ptpOn (h : Head) : Bool := fbit h .east FRM_CTRL_PTP_EN && !isFollower h

/-- The slew of slot 31 of a frame that begins (R47), in ps: at most MAX_SLEW, shortening the slot for a positive offset. -/
def slewOf (h : Head) : Int :=
  if ptpOn h then
    let m : Int := (fget h .east FRM_PTP_CTRL_MAX_SLEW : Nat)
    max (-m) (min m h.frm.slewLeft)
  else 0

/-- The tick marker's payload (R36). -/
def markerPayload (h : Head) : Nat :=
  wireCount h <<< 16 + frameLen h <<< 14 + (if h.frm.countdown < 16 then h.frm.countdown else 0) <<< 10 +
    (if 0 < h.frm.countdown ∧ h.frm.countdown < 16 then h.frm.announced else 0) <<< 8 + ofBool (isFollower h = false) <<< 7 +
    fget h .east FRM_PTP_CTRL_PTP_LOCKED <<< 6

/-- The timebase at a local tick (R30, R42, R44, R47): the frame count rises by one, slot 0 begins, FRM_TIME advances by the
frame as trimmed and slewed, the countdown runs. -/
def tickTimebase (h : Head) : Head :=
  let slew := if ptpOn h then h.frm.slewNow else 0
  let ps := h.frm.slewCarry - slew
  let ns : Int := (frameNs (frameLen h) : Nat) + h.frm.trimNow + ps / 1000
  let n := frameCount h + 1
  let cd := h.frm.countdown - 1
  let h := { h with frm := { h.frm with
    tickTime := h.frm.tickTime + ns.toNat
    trimNow := h.frm.trimNext
    trimNext := 0
    slewLeft := h.frm.slewLeft - slew
    slewCarry := ps % 1000
    slewNow := 0
    countdown := cd
    lengthDue := h.frm.lengthDue || h.frm.countdown == 1 } }
  let h := fset h .east FRM_LENGTH_SET_COUNTDOWN cd
  let h := foldHead h wings (fun h w => pset h w FRM_FRAME_LO_FRAME FRM_FRAME_HI_FRAME n)
  let h := enterSlot (syncWire h) 0
  { h with frm := { h.frm with slewNow := slewOf h } }

/-- The West wing's alignment at a tick (R29): its error against the East tick, at most 2 ns either way, is measured. -/
def westAlign (h : Head) : Head :=
  let (k, h) := fresh h
  fset h .west FRM_LOCK_PHASE_ERR (ofSigned 16 (((Config.freeNat k % 5 : Nat) : Int) - 2))

/-- A role in force: FRM_LOCK.STATE becomes LOST for a follower, without event or count, and free-running for a solo head
or a master (R39). -/
def roleEffect (h : Head) (was : Nat) : Head :=
  let now := fget h .east FRM_CTRL_ROLE
  if now = was then h
  else if now = 2 then frmBoth (frmBoth h FRM_LOCK_STATE 2) FRM_LOCK_RUN 0
  else frmBoth h FRM_LOCK_STATE 0

/-- The role the Annex hardware sets at takeover (R40). -/
def takeMaster (h : Head) : Head :=
  if h.frm.masterDue then fset { h with frm := { h.frm with masterDue := false } } .east FRM_CTRL_ROLE 1 else h

end Sys2Proof.Machine
end

