-- ==== Sys2Proof/Machine/PlkCore.lean ====
section
/-! DEFINITION. The plinth links' command slots (R282, R283, R298, R299), by which the other blocks send commands to the
bridges. -/

namespace Sys2Proof.Machine

open Reg

/-- The wing and instance of a plinth's link (R276). -/
def plkWing (n : Nat) : Wing := if n < 32 then .east else .west
def plkInst (n : Nat) : Nat := n % 32

/-- A field of a plinth's link page. -/
def plkGet (h : Head) (n : Nat) (f : Fld) : Nat := fget h (plkWing n) f 0 (plkInst n)
def plkSet (h : Head) (n : Nat) (f : Fld) (v : Nat) : Head := fset h (plkWing n) f v 0 (plkInst n)
def plkBit (h : Head) (n : Nat) (f : Fld) : Bool := plkGet h n f != 0
def plkAdd (h : Head) (n : Nat) (f : Fld) : Head := fadd h (plkWing n) f 1 0 (plkInst n)
def plkRaise (h : Head) (n : Nat) (k : Nat) : Head := raise h (plkWing n) ⟨.plk, k⟩ (plkInst n)

/-- A plinth takes die commands: its link is up, it is admitted and not being released (R298, R299), and its page runs (R54). -/
def plkTakesDie (h : Head) (n : Nat) : Bool :=
  plkBit h n PLK_STATUS_UP && plkBit h n PLK_STATUS_ADMITTED && !plkBit h n PLK_CTRL_RELEASE &&
    running h (pg .plk (plkWing n) (plkInst n))

/-- PLK_PERST_N[n] is high, which takes the bridge's port out of reset: LINK_EN and PRESENT are 1, and the plinth is not released (R277,
R298, R299). -/
def perstHigh (h : Head) (n : Nat) : Bool :=
  plkBit h n PLK_CTRL_LINK_EN && plkBit h n PLK_STATUS_PRESENT && !plkBit h n PLK_STATUS_RELEASED

/-- PLK_ATTN_N[n] is low, which lights the plinth's indicator (R277, R303). -/
def attnLow (h : Head) (n : Nat) : Bool := plkBit h n PLK_CTRL_ATTN

/-- The number of a link's slot. -/
def slotKey (n : Nat) (mgmt : Bool) (slot : Nat) : Nat := (n * 2 + ofBool mgmt) * 128 + slot

/-- A die's number (R296), as the die table counts it: 128 of each plinth. -/
def dieKey (n : Nat) (c : PlkCmd) : Nat := n * 128 + c.channel * 8 + c.die

/-- A READ or CHECK_ERASED. -/
def isRead (c : PlkCmd) : Bool := c.opcode == 1 || c.opcode == 4

/-- Slots in use of a link. -/
def slotsUsed (h : Head) (n : Nat) (mgmt : Bool) : List Nat :=
  (h.plk.ops.filter (fun o => o.plinth == n && o.cmd.mgmt == mgmt)).map (·.cmd.slot)

/-- PLK_SLOTS and DSP_OPS brought up to date (R303, R336), and with them the wing's bound (R99). -/
def syncPlk (h : Head) (n : Nat) : Head :=
  let used := (slotsUsed h n false).length
  let w := plkWing n
  let mine := h.plk.ops.filter (fun o => plkWing o.plinth == w && !o.cmd.mgmt)
  let h := plkSet h n PLK_SLOTS_IN_USE used
  let h := plkSet h n PLK_SLOTS_HIGH_WATER (max used (plkGet h n PLK_SLOTS_HIGH_WATER))
  let h := fset h w DSP_OPS_READS (mine.filter (fun o => isRead o.cmd)).length
  let h := fset h w DSP_OPS_PROG_ERASE (mine.filter (fun o => !isRead o.cmd)).length
  updateBounds h w

/-- A free slot of a link: 128 for die commands, 16 for management (R283). -/
def freeSlot (h : Head) (n : Nat) (mgmt : Bool) : Option Nat :=
  (List.range (if mgmt then 16 else 128)).find? (fun s => !(slotsUsed h n mgmt).contains s)

/-- The link state of a plinth. -/
def plkLink (h : Head) (n : Nat) : LinkState := tabGet h.plk.links LinkState.idle n

/-- The link state of a plinth set. -/
def setPlkLink (h : Head) (n : Nat) (l : LinkState) : Head := { h with plk := { h.plk with links := tabPut h.plk.links n l } }

/-- The flits of a message on a plinth link (R281): 8 bytes of header, the record, the data. -/
def plkFlits (c : PlkCmd) : Nat := (8 + 64 + c.dlen + 255) / 256

/-- The virtual channel of a command (R278). -/
def plkVc (c : PlkCmd) : Nat := if c.mgmt then 0 else if isRead c then 1 else 2

/-- How the channels of a plinth link share it (R278). -/
def plkRule (h : Head) (n : Nat) : LinkRule := ⟨[0], 1, 2, plkGet h n PLK_CTRL_VC_WEIGHT, 256⟩

/-- What a link can send is sent: it is up, and no retrain is under way. -/
def drainPlk (h : Head) (n : Nat) : Head :=
  if plkBit h n PLK_STATUS_UP && !plkBit h n PLK_STATUS_TRAINING then
    let (l, ms) := drainLink (plkRule h n) (plkLink h n)
    foldHead (setPlkLink h n l) ms send
  else h

/-- A command put on a link's queue, and sent as far as the link can. -/
def plkPut (h : Head) (n : Nat) (c : PlkCmd) : Head :=
  drainPlk (setPlkLink h n ((plkLink h n).push ⟨plkVc c, plkFlits c, .plk n c⟩)) n

/-- A command sent in a free slot with the slot's next GEN (R283); none free: it is not sent. -/
def plkSend (h : Head) (n : Nat) (c : PlkCmd) (cls : DieClass) (p : Purpose) (accepted : Nat := 0) : Option Head :=
  match freeSlot h n c.mgmt with
  | none => none
  | some s =>
    let k := slotKey n c.mgmt s
    let g := (tabGet h.plk.gens 0 k + 1) % 256
    let c := { c with slot := s, gen := g }
    let h := { h with plk := { h.plk with ops := h.plk.ops ++ [⟨n, c, cls, false, p, accepted⟩], gens := tabPut h.plk.gens k g } }
    some (syncPlk (plkPut h n c) n)

/-- A command record with no field set. -/
def emptyCmd (opcode : Nat) (mgmt : Bool) : PlkCmd where
  opcode := opcode
  labels := false
  slc := false
  mgmt := mgmt
  gen := 0
  slot := 0
  frame := 0
  start := 0
  channel := 0
  die := 0
  block := 0
  row := 0
  first := 0
  sheets := 0
  epoch := 0
  addr := 0
  arg := 0
  dlen := 0
  data := 0

/-- A management command sent on an up link (R284). -/
def plkMgmt (h : Head) (n : Nat) (c : PlkCmd) (p : Purpose) : Head :=
  if plkBit h n PLK_STATUS_UP then (plkSend h n c .host p).getD h else h

/-- The plinths of both wings. -/
def allPlinths : List Nat := List.range 64

/-- The plinths present and up. -/
def upPlinths (h : Head) : List Nat := allPlinths.filter (fun n => plkBit h n PLK_STATUS_UP)

end Sys2Proof.Machine
end

