-- ==== Sys2Proof/Machine/Foyer.lean ====
section
/-! DEFINITION. The Foyer (R82 to R116): ports, transport contexts, admission, completion to the host. -/

namespace Sys2Proof.Machine

open Reg

/-! ### Ports (R82 to R85) -/

/-- Logical links of a port (R82). -/
def linkCount (h : Head) (w : Wing) (port : Nat) : Nat :=
  match fget h w FOY_PORT_MODE_BREAKOUT 0 port with
  | 0 => 1
  | 1 => 2
  | _ => 4

/-- The rate of a logical link in Mb/s (R82). -/
def linkRate (h : Head) (w : Wing) (port : Nat) : Nat := 400000 / linkCount h w port

/-- One bit of a field set or cleared. -/
def fsetBit (h : Head) (w : Wing) (f : Fld) (k : Nat) (on : Bool) (inst : Nat := 0) : Head :=
  let v := fget h w f 0 inst
  fset h w f (if on then v ||| 1 <<< k else if v.testBit k then v - 1 <<< k else v) 0 inst

/-- FOY_LINK_CHANGE (R83): a logical link the port has goes up, where LINK_EN enables it, or goes down; a port at rung 4 has
no link (R466). -/
def foyLinkChange (h : Head) (w : Wing) (port link : Nat) (up : Bool) : Head :=
  if linkCount h w port ≤ link ∨ hget h (pg .foy w port) RUNG_CURRENT = 4 then h
  else if up && !(fget h w FOY_PORT_MODE_LINK_EN 0 port).testBit link then h
  else
    let h := fsetBit h w FOY_LINK_STATUS_UP link up port
    let h := fsetBit h w FOY_LINK_STATUS_TRAINING link false port
    let h := if up then h else fsetBit h w FOY_LINK_STATUS_FEC_DEGRADED link false port
    raise h w Ev.FOY_LINK_CHANGE port

/-- FEC_DEGRADED (R83): the link is marked and the link event raised; the link stays up. -/
def fecDegraded (h : Head) (w : Wing) (port link : Nat) : Head :=
  if (fget h w FOY_LINK_STATUS_UP 0 port).testBit link then
    raise (fsetBit h w FOY_LINK_STATUS_FEC_DEGRADED link true port) w Ev.FOY_LINK_CHANGE port
  else h

/-- A priority of a port, as one number. -/
def prioKey (w : Wing) (port prio : Nat) : Nat := (wingNum w * 8 + port) * 8 + prio

/-- A number added to a set, or taken from it. -/
def setIn (l : List Nat) (k : Nat) (on : Bool) : List Nat :=
  if on then (if l.contains k then l else l ++ [k]) else l.filter (· != k)

/-- The priority of a port's NVMe or Mehror traffic (R84). -/
def prioOf (h : Head) (w : Wing) (port : Nat) (mft : Bool) : Nat := fget h w (if mft then FOY_PFC_PRIO_MFT else FOY_PFC_PRIO_NVME) 0 port

/-- A message sent by a port on a priority. While the peer pauses the priority it waits (R84). -/
def portSend (h : Head) (w : Wing) (port prio : Nat) (m : Msg) : Head :=
  let k := prioKey w port prio
  if h.foy.paused.contains k then { h with foy := { h.foy with pausedOut := h.foy.pausedOut ++ [(k, m)] } } else send h m

/-- A priority is paused no longer: what waited on it is sent. -/
def unpause (h : Head) (k : Nat) : Head :=
  let l := h.foy.pausedOut.filter (fun e => e.1 == k)
  foldHead { h with foy := { h.foy with
    paused := setIn h.foy.paused k false
    pausedOut := h.foy.pausedOut.filter (fun e => e.1 != k) } } l (fun h e => send h e.2)

/-- PAUSE_FRAME (R84): honoured on an enabled priority whose pauses are not ignored. -/
def pauseFrame (h : Head) (w : Wing) (port prio : Nat) (on : Bool) : Head :=
  let k := prioKey w port prio
  if (fget h w FOY_PFC_PFC_EN 0 port).testBit prio && !h.foy.storm.contains k then
    (if on then { h with foy := { h.foy with paused := setIn h.foy.paused k true } } else unpause h k)
  else h

/-- PFC_STORM (R84): pauses on the priority are no longer honoured. STORM_MS 0 disables the watchdog. -/
def pfcStorm (h : Head) (w : Wing) (port prio : Nat) : Head :=
  let k := prioKey w port prio
  if h.foy.paused.contains k && fget h w FOY_PFC_STORM_MS 0 port != 0 then
    raise { unpause h k with foy := { (unpause h k).foy with storm := setIn h.foy.storm k true } } w Ev.FOY_PFC_STORM port
  else h

/-- PFC_STORM_END (R84). -/
def pfcStormEnd (h : Head) (w : Wing) (port prio : Nat) : Head :=
  { h with foy := { h.foy with storm := setIn h.foy.storm (prioKey w port prio) false } }

/-- The key of a context in the context table: bit 15 the wing (R86). -/
def ctxKey (w : Wing) (ctx : Nat) : Nat := wingNum w * 32768 + ctx

/-- What a context holds beside its registers. -/
def ctxInfo (h : Head) (w : Wing) (ctx : Nat) : CtxInfo := tabGet h.foy.ctx ⟨0, 0, 0, false, 0⟩ (ctxKey w ctx)

/-- What a context holds changed. -/
def ctxUpd (h : Head) (w : Wing) (ctx : Nat) (f : CtxInfo → CtxInfo) : Head :=
  { h with foy := { h.foy with ctx := tabPut h.foy.ctx (ctxKey w ctx) (f (ctxInfo h w ctx)) } }

/-- A queue pair's send rate set (R85). -/
def setRate (h : Head) (w : Wing) (ctx r : Nat) : Head := ctxUpd h w ctx (fun x => { x with rate := r })

/-- A context's TYPE (R88): 0 free, 1 RoCEv2, 2 NVMe/TCP, 3 Mehror. -/
def ctxType (h : Head) (w : Wing) (ctx : Nat) : Nat := fget h w FOQ_CTX_BIND_TYPE ctx

/-- CE_MARKED_PACKET (R85): on RoCEv2 a notification packet goes back when CNP_EN is 1; on NVMe/TCP the acknowledgement carries ECN-Echo
(RFC 3168). -/
def ceMarkedPacket (h : Head) (w : Wing) (port ctx : Nat) : Head :=
  match ctxType h w ctx with
  | 1 => if fbit h w FOY_ECN_CNP_EN 0 port then send h (.cnp w port ctx) else h
  | 2 => send (ctxUpd h w ctx (fun x => { x with ece := true })) (.tcpEcho w port ctx)
  | _ => h

/-- CNP_RECEIVED (R85): a RoCEv2 queue pair's send rate is multiplied by (256 − RATE_CUT)/256. -/
def cnpReceived (h : Head) (w : Wing) (port ctx : Nat) : Head :=
  if ctxType h w ctx = 1 then setRate h w ctx ((ctxInfo h w ctx).rate * (256 - fget h w FOY_ECN_RATE_CUT 0 port) / 256) else h

/-- RATE_RECOVER (R85): one additive step of a queue pair's rate, no higher than the link's rate (DESIGN CHOICE). -/
def rateRecover (h : Head) (w : Wing) (port ctx : Nat) : Head :=
  if ctxType h w ctx = 1 then setRate h w ctx (min (linkRate h w port) ((ctxInfo h w ctx).rate + Config.rateStep)) else h

/-- PTP_EVENT_MESSAGE (R85): with PTP_TS_EN 1, the message is delivered with its timestamp. -/
def ptpEventMessage (h : Head) (w : Wing) (port time : Nat) : Head :=
  if fbit h w FOY_TS_PTP_TS_EN 0 port then send h (.ptpEvent w port time) else h

/-! ### Transport contexts (R86 to R88) -/

/-- The first free context of a wing at or after a number, wrapping. -/
def freeContextFrom (h : Head) (w : Wing) (n : Nat) : Option Nat :=
  ((List.range 32768).find? (fun k => fget h w FOQ_CTX_BIND_TYPE ((n + k) % 32768) == 0)).map (fun k => (n + k) % 32768)

/-- A context freed (R88): AUTHENTICATED, TLS and COLL clear. -/
def freeContext (h : Head) (w : Wing) (ctx : Nat) : Head :=
  let h := fset (fset (fset h w FOQ_CTX_STATE_AUTHENTICATED 0 ctx) w FOQ_CTX_STATE_TLS 0 ctx) w FOQ_CTX_STATE_COLL 0 ctx
  let h := wr h (pg .foq w) 0x05C ctx 0
  { h with foy := { h.foy with ctx := tabDel h.foy.ctx (ctxKey w ctx) } }

/-- What the head supports of a connection (R89): on RoCEv2 a path MTU of 1,024, 2,048 or 4,096 bytes. -/
def connectable (type pmtu : Nat) : Bool :=
  type == 2 || type == 3 || (type == 1 && (pmtu == 1024 || pmtu == 2048 || pmtu == 4096))

/-- CONNECTION_REQUEST (R86): a free context of the port's wing is taken, which one the spec leaves open; with none free the
request is refused and CTX_EXHAUSTED raised. A fenced port accepts none (R513). The context starts unauthenticated, and its queue pair
at the link's rate (DESIGN CHOICE). -/
def connectionRequest (h : Head) (w : Wing) (port type pmtu : Nat) : Head :=
  if hget h (pg .foy w port) STATUS_FENCED = 1 ∨ !connectable type pmtu then send h (.connection w port none)
  else
  let (n, h) := fresh h
  match freeContextFrom h w (Config.freeContext n) with
  | none => raise (send h (.connection w port none)) w Ev.FOQ_CTX_EXHAUSTED
  | some c =>
    let h := fset (freeContext h w c) w FOQ_CTX_BIND_TYPE type c
    let h := ctxUpd h w c (fun _ => ⟨port, linkRate h w port, if type = 1 then pmtu else 0, false, 0⟩)
    send h (.connection w port (some c))

/-- The slot a context names is an ACTIVE HMAC slot of usage credential (R87, R409). -/
def credentialUsable (h : Head) (slot : Nat) : Bool :=
  keyState h slot == 2 && keyKind h slot == 4 && keyUsage h slot == 2

/-- A TLS handshake, and one that the head can complete (R90). -/
def isTls : AuthKind → Bool
  | .tls _ => true
  | .inBand => false
def authOffered : AuthKind → Bool
  | .tls offered => offered
  | .inBand => true

/-- A context's connection authenticates this way (R87): in-band on RoCEv2 and NVMe/TCP, by TLS on NVMe/TCP. -/
def authCarried (h : Head) (w : Wing) (ctx : Nat) (kind : AuthKind) : Bool :=
  ctxType h w ctx == 2 || (ctxType h w ctx == 1 && !isTls kind)

/-- AUTH_COMPLETE (R87, R88): success in the lane sets AUTHENTICATED, COLL and, for a TLS handshake, TLS; any failure leaves
AUTHENTICATED at 0 and raises AUTH_FAIL on the port's page, and a failed handshake ends with a fatal alert (R113). An unusable slot also
raises KEY_REFUSED (R220). -/
def authComplete (h : Head) (w : Wing) (ctx : Nat) (good : Bool) (kind : AuthKind) : Head :=
  if !authCarried h w ctx kind then h
  else
    let slot := fget h w FOQ_CTX_BIND_CRED_SLOT ctx
    let port := (ctxInfo h w ctx).port
    if good && authOffered kind && credentialUsable h slot then
      let h := fset h w FOQ_CTX_STATE_AUTHENTICATED 1 ctx
      let h := fset h w FOQ_CTX_STATE_COLL (slotColl h slot) ctx
      if isTls kind then fset h w FOQ_CTX_STATE_TLS 1 ctx else h
    else
      let h := if credentialUsable h slot then h else raise h w Ev.DGE_KEY_REFUSED
      let h := if isTls kind then raise (send h (.tlsAlert w port ctx)) w Ev.FOY_TLS_ALERT port else h
      raise (fset h w FOQ_CTX_STATE_AUTHENTICATED 0 ctx) w Ev.FOY_AUTH_FAIL port

/-- A Mehror context freed or rebound raises its generation (R118). -/
def bumpGen (h : Head) (w : Wing) (ctx : Nat) : Head :=
  fset h w MFT_CTX_STATE_GEN ((fget h w MFT_CTX_STATE_GEN ctx + 1) % 256) ctx

/-- A freed Mehror context is IDLE and carries no collection (R118, R137). -/
def freeMehror (h : Head) (w : Wing) (ctx : Nat) : Head :=
  let h := fset (fset h w MFT_CTX_STATE_STATE 0 ctx) w MFT_CTX_STATE_CWND 0 ctx
  let h := fset (wr h (pg .mft w) 0x080 ctx 0) w MFT_CTX_RECV_POSTED 0 ctx
  { h with mft := tabDel h.mft (ctxKey w ctx) }

/-- A Mehror context's collection and whether it is authenticated. -/
def setMehror (h : Head) (w : Wing) (ctx auth coll sys collId : Nat) : Head :=
  let h := fset (fset h w FOQ_CTX_STATE_AUTHENTICATED auth ctx) w FOQ_CTX_STATE_COLL coll ctx
  fset (fset (fset h w FOQ_CTX_STATE_TLS 0 ctx) w MFT_CTX_COLL_SYSTEM sys ctx) w MFT_CTX_COLL_COLL_ID collId ctx

/-- A context bound as Mehror (R123): a Mehror connection key of the binding table, or a head key, authenticates it and gives it its
collection; any other slot leaves it unauthenticated. -/
def bindMehror (h : Head) (w : Wing) (ctx slot : Nat) : Head :=
  let coll := slotColl h slot
  if keyState h slot = 2 ∧ keyKind h slot = 2 ∧ keyUsage h slot = 2 then
    if fbit h .east KEY_SLOT_ATTR_SYSTEM slot then setMehror h w ctx 1 0 1 0
    else match tabGet? h.bindings coll with
      | some b => setMehror h w ctx 1 coll 0 b.collId
      | none => setMehror h w ctx 0 0 0 0
  else setMehror h w ctx 0 0 0 0

/-- The effect of a word written to FOQ_CTX_BIND of the selected context (R88). -/
def ctxBindEffect (h : Head) (src : Nat) (w : Wing) (v : Word) : Head :=
  let ctx := fget h w FOQ_CTX_INDEX_INDEX
  let type := bitsOf v 31 30
  let slot := bitsOf v 12 0
  let bad := config h (pg .foq w) ⟨11, src, true, pageAddr (pg .foq w) + 0x05C⟩
  let was := fget h w FOQ_CTX_BIND_TYPE ctx
  if type = 0 then
    if fget h w FOQ_CTX_STATE_INFLIGHT ctx ≠ 0 then bad
    else
      let h := if was = 3 then freeMehror (bumpGen h w ctx) w ctx else h
      freeContext h w ctx
  else if fbit h w FOQ_CTX_STATE_AUTHENTICATED ctx ∧ slot ≠ fget h w FOQ_CTX_BIND_CRED_SLOT ctx then bad
  else
    let h := fset h w FOQ_CTX_BIND_TYPE type ctx
    let h := fset h w FOQ_CTX_BIND_DISCOVERY (bitsOf v 29 29) ctx
    let h := fset h w FOQ_CTX_BIND_CRED_SLOT slot ctx
    if type = 3 then bindMehror h w ctx slot else h

/-- CTX_BIND_WRITE (R88). -/
def ctxBindWrite (h : Head) (ini : Initiator) (w : Wing) (v : Word) : Head :=
  withWrite h ini (pg .foq w) 0x05C (fun h => ctxBindEffect h (sourceCode ini) w v)

/-- The pending entries of R115: those of FOQ_COLL_RATE and FOQ_COLL_BURST. -/
def pendingEntries (h : Head) : Nat :=
  (h.pend.filter (fun e => (keyPage e.1 == pageNum (pg .foq .east) || keyPage e.1 == pageNum (pg .foq .west)) &&
    (keyOff e.1 == 0x068 || keyOff e.1 == 0x06C))).length

/-- The effect of a word written to FOQ_COLL_RATE or FOQ_COLL_BURST (R115): a pending entry under the collection index in force
at the write; a 257th entry is ignored and raises CONFIG. -/
def collEntryEffect (h : Head) (src : Nat) (w : Wing) (burst : Bool) (v : Word) : Head :=
  let off := if burst then 0x06C else 0x068
  let k := regKey (pg .foq w) off (fget h w FOQ_COLL_INDEX_INDEX)
  if 256 ≤ pendingEntries h ∧ tabHas h.pend k = false then
    config h (pg .foq w) ⟨11, src, true, pageAddr (pg .foq w) + off⟩
  else writeReg h src (pg .foq w) off v false

/-- COLL_ENTRY_WRITE (R115). -/
def collEntryWrite (h : Head) (ini : Initiator) (w : Wing) (burst : Bool) (v : Word) : Head :=
  withWrite h ini (pg .foq w) (if burst then 0x06C else 0x068) (fun h => collEntryEffect h (sourceCode ini) w burst v)

/-! ### Completion (R108 to R111) -/

/-- The NVMe status of the head's result (R110). ABORTED, PROTOCOL and LIMIT, which the table does not name, take the status
of an internal failure. -/
def nvmeOf : Status → NvmeStatus
  | .done | .doneNote => ⟨0, 0x00, false⟩
  | .collMismatch => ⟨0, 0x0B, true⟩
  | .noResource => ⟨0, 0x81, true⟩
  | .timeout => ⟨0, 0x21, false⟩
  | .fenced | .internal | .aborted | .limit | .protocol => ⟨0, 0x06, false⟩
  | .labelFail | .checkFail | .mediaFail => ⟨2, 0x81, true⟩
  | .keyInvalid => ⟨2, 0x86, true⟩

/-- TLS records that a context sends, counted (R90). -/
def countRecords (h : Head) (w : Wing) (ctx n : Nat) : Head :=
  if fbit h w FOQ_CTX_STATE_TLS ctx then ctxUpd h w ctx (fun x => { x with records := x.records + n }) else h

/-- A completion sent to the host (R108, R111). -/
def endCapsule (h : Head) (c : Capsule) (st : NvmeStatus) : Head :=
  let p := prioOf h c.wing c.port false
  portSend (countRecords h c.wing c.ctx 1) c.wing c.port p (.hostCompletion c.wing c.port p c.ctx c.queue c.cid st)

/-- The TLS records of a context that bytes take, of at most 16 KiB each (R90). -/
def tlsRecords (h : Head) (w : Wing) (ctx bytes : Nat) : Nat := if fbit h w FOQ_CTX_STATE_TLS ctx then (bytes + 16383) / 16384 else 0

/-- The guard of a granule in a protection format (R92). -/
def guardOf (f : PiFormat) (data : Nat) : Nat :=
  match f with
  | .none => 0
  | .guard16 => crc16 (bytesOf data 4096)
  | .guard64 => Config.guard64 4096 data % 2 ^ 64

/-- The reference tag of a granule under Type 1 (R92): the low bits of its LBA. -/
def refTagOf (f : PiFormat) (lba : Nat) : Nat := lba % (if f = .guard64 then 2 ^ 48 else 2 ^ 32)

/-- The protection information that a read with PRACT carries to the host (R92). The application tag is not stored: it is free. -/
def insertPi (h : Head) (c : Capsule) (data : List Nat) : List PiTuple × Head :=
  if !c.pract ∨ c.fmt = .none then ([], h)
  else
    let (k, h) := fresh h
    (data.zipIdx.map (fun e => ⟨guardOf c.fmt e.1, Config.freeNat k % 65536, refTagOf c.fmt (c.slba + e.2)⟩), h)

/-- A read's data sent to the host, before its completion (R111). -/
def sendData (h : Head) (c : Capsule) (data : List Nat) : Head :=
  if data = [] then h
  else
    let (pi, h) := insertPi h c data
    let p := prioOf h c.wing c.port false
    let n := tlsRecords h c.wing c.ctx (4096 * data.length + 16 * pi.length)
    portSend (countRecords h c.wing c.ctx n) c.wing c.port p
      (.hostData c.wing c.port p c.ctx c.queue c.cid (ctxType h c.wing c.ctx == 1) n data pi)

/-- The same fused pair (R106). -/
def samePair (host nsid slba cid : Nat) (r : FusedRec) : Bool := r.host == host && r.nsid == nsid && r.slba == slba && r.cid == cid

/-- The fused record a capsule matches (R106). -/
def fusedOf (h : Head) (c : Capsule) : Option FusedRec := h.foy.fused.find? (samePair c.host c.nsid c.slba c.cid)

/-- The status a fused record holds. -/
def fusedStatus (r : FusedRec) : NvmeStatus := ⟨r.sct, r.sc, r.dnr⟩

/-- The fused records replaced, and FOQ_FUSED.RECORDS on both pages (R106). -/
def setFused (h : Head) (l : List FusedRec) : Head :=
  let h := { h with foy := { h.foy with fused := l } }
  fset (fset h .east FOQ_FUSED_RECORDS l.length) .west FOQ_FUSED_RECORDS l.length

/-- A capsule acknowledges the completion whose command identifier it takes again on its submission queue: that record is deleted
(R106). -/
def ackByQueue (h : Head) (c : Capsule) : Head :=
  let hit (r : FusedRec) : Bool := r.wing == c.wing && r.ctx == c.ctx && r.queue == c.queue && r.cid == c.cid
  if h.foy.fused.any hit then setFused h (h.foy.fused.filter (fun r => !hit r)) else h

/-- FUSED_RECORD_ACK and FUSED_HOLD_EXPIRY (R106): the record is deleted. -/
def dropFused (h : Head) (host nsid slba cid : Nat) : Head := setFused h (h.foy.fused.filter (fun r => !samePair host nsid slba cid r))

/-- A fused record added, once. -/
def addFused (h : Head) (r : FusedRec) : Head := setFused h (h.foy.fused.filter (fun x => !samePair r.host r.nsid r.slba r.cid x) ++ [r])

/-- A fused pair's record of its status. One that runs for the peer belongs to no queue of this head. -/
def fusedRecord (c : HostCmd) (st : NvmeStatus) : FusedRec :=
  ⟨c.cap.host, c.cap.nsid, c.cap.slba, c.cap.cid, c.cap.wing, c.cap.ctx, if c.via.isSome then 65536 else c.cap.queue, st.sct, st.sc, st.dnr⟩

/-- Whether a command writes granules the dirty quota counts (R146). -/
def isWrite : HostOp → Bool
  | .write | .compareWrite => true
  | _ => false

/-- The key of a host tag in the command table, and the wing of a key. -/
def tagKey (w : Wing) (tag : Nat) : Nat := wingNum w * 32768 + tag
def keyWing (key : Nat) : Wing := if key < 32768 then .east else .west

/-- Whether an NVMe status is success. -/
def isSuccess (st : NvmeStatus) : Bool := st.sct == 0 && st.sc == 0

/-- A command's host tag freed, with which a bound may be left (R100). -/
def freeHostTag (h : Head) (key : Nat) : Head :=
  let w := keyWing key
  let h := { h with foy := { h.foy with cmds := tabDel h.foy.cmds key } }
  updateBounds (fset h w FOQ_TAGS_IN_USE (fget h w FOQ_TAGS_IN_USE - 1)) w

/-- An admitted command ended: its host tag is free, its context has one command fewer, and its data and completion go to the host
(R108, R111). One that runs for the peer is answered by FORWARD_RESP, which is kept (R107, R164). -/
def finishCmd (h : Head) (key : Nat) (c : HostCmd) (st : NvmeStatus) (data : List Nat) : Head :=
  let h := freeHostTag h key
  match c.via with
  | some (port, mtag) =>
    let b := AnxBody.forwardResp st (if isSuccess st then c.placed.map (·.2) else []) data
    anxPut { h with vit := { h.vit with answered := h.vit.answered ++ [(mtag, b)] } } port mtag c.coll b
  | none =>
    let w := c.cap.wing
    let h := fset h w FOQ_CTX_STATE_INFLIGHT (fget h w FOQ_CTX_STATE_INFLIGHT c.cap.ctx - 1) c.cap.ctx
    endCapsule (sendData h c.cap data) c.cap st

/-- Asymmetric Access Inaccessible and Transition (R93 step 5, R110). -/
def anaInaccessible : NvmeStatus := ⟨3, 0x02, false⟩
def anaChange : NvmeStatus := ⟨3, 0x03, false⟩

/-! ### Arrival (R93, R94) -/

/-- A replica of a collection replicated to this site (R355): its live map is reached only through exposed editions. -/
def isReplica (h : Head) (coll : Nat) : Bool := fget h .east RPL_MAP_MODE_MODE coll == 3

/-- Step 5 of R93: the ANA state of a namespace on this head, or none where the command goes on, with whether it is
forwarded. -/
def anaCheck (h : Head) (n : Namespace) : Option NvmeStatus × Bool :=
  if pairState h = 7 then (some anaInaccessible, false)
  else if isReplica h n.coll && !n.readOnly then (some anaInaccessible, false)
  else if n.changing then (some anaChange, false)
  else if n.owned then (none, false)
  else if hasPeer h then (none, true)
  else (some anaInaccessible, false)

/-- A command as it arrives. -/
def newCmd (c : Capsule) (coll : Nat) (fwd : Bool) : HostCmd where
  cap := c
  coll := coll
  fwd := fwd
  data := []
  compared := false
  miscompare := false
  placed := []
  mtag := none
  failed := none
  inaccessible := false
  overSince := none
  overLong := false
  via := none

/-- A command that waits for admission (R93 step 6). -/
def awaitAdmission (h : Head) (c : Capsule) (coll : Nat) (fwd : Bool) : Head :=
  { h with foy := { h.foy with waiting := h.foy.waiting ++ [newCmd c coll fwd] } }

/-- A command passed to array software on the wing's exception ring (R91): it is outstanding until software completes it (R104). -/
def passToSoftware (h : Head) (c : Capsule) : Head := send { h with foy := { h.foy with passed := h.foy.passed ++ [c] } } (.exception c.wing c)

/-- A command that transfers data (R95). -/
def transfers : HostOp → Bool
  | .read | .write | .compare | .compareWrite => true
  | _ => false

/-- A command that the head does not take whatever its namespace's state: one that transfers more than 512 granules (R91, R97), or a
Read that asks for an application-tag check (R92). -/
def invalidField (c : Capsule) : Bool := (transfers c.op && decide (512 < c.count)) || (c.op == .read && c.appTag)

/-- The cost of a command in credits (R95): the granules transferred, and 1 where no data is. -/
def cmdCost (c : Capsule) : Nat := if transfers c.op then c.count else 1

/-- A command that changes what a namespace holds. -/
def altersNs : HostOp → Bool
  | .write | .writeZeroes | .compareWrite => true
  | _ => false

/-- Steps 4 and 5 of R93, and the fused records (R106), for a command whose namespace passed step 3. An exposed edition is read-only
(R195). -/
def capsuleForNs (h : Head) (c : Capsule) (n : Namespace) : Head :=
  if invalidField c then endCapsule h c ⟨0, 0x02, false⟩
  else if c.reserved then endCapsule h c ⟨0, 0x83, true⟩
  else match anaCheck h n with
    | (some st, _) => endCapsule h c st
    | (none, fwd) => match (if c.op = .compareWrite then fusedOf h c else none) with
      | some r => raise (endCapsule h c (fusedStatus r)) c.wing Ev.FOQ_FUSED_REPLAY
      | none => match c.op with
        | .toSoftware | .admin | .fabrics => passToSoftware h c
        | .unsupported => endCapsule h c ⟨0, 0x01, false⟩
        | _ => if n.readOnly && altersNs c.op then endCapsule h c ⟨0, 0x20, false⟩ else awaitAdmission h c n.coll fwd

/-- The same command on the same submission queue. -/
def sameCid (c x : Capsule) : Bool := x.wing == c.wing && x.ctx == c.ctx && x.queue == c.queue && x.cid == c.cid

/-- An outstanding command of the same submission queue has the capsule's identifier (R104). -/
def cidInUse (h : Head) (c : Capsule) : Bool :=
  h.foy.waiting.any (fun x => sameCid c x.cap) || h.foy.cmds.any (fun x => x.2.via.isNone && sameCid c x.2.cap) ||
    h.foy.passed.any (sameCid c)

/-- Step 1 of R93: what the transport does not deliver as a command: a context without a host connection; a digest or record tag that
does not hold (R90); on RoCEv2 another operation than SEND, or more than 8 KiB of in-capsule data (R89). -/
def notDelivered (h : Head) (c : Capsule) : Bool :=
  match ctxType h c.wing c.ctx with
  | 1 => !c.intact || !(c.trans == .send || c.trans == .sendInvalidate) || decide (8192 < c.inCapsule)
  | 2 => !c.intact
  | _ => true

/-- A capsule as far as step 2 of R93 (R99, R102, R104, R106): a wing at a bound or paused takes none, nor does one whose pages do not
run (R54). What follows for one that passes. -/
def capsuleArrives (h : Head) (c : Capsule) (next : Head → Head) : Head :=
  if fetchHeld h c.wing || !running h (pg .foq c.wing) || !running h (pg .foy c.wing c.port) || notDelivered h c then h
  else
    let h := ackByQueue h c
    if cidInUse h c then
      let h := fadd h c.wing FOY_CNT_CID_COUNT 1 0 c.port
      raise (endCapsule h c ⟨0, 0x03, true⟩) c.wing Ev.FOY_DUPLICATE_CID c.port
    else next h

/-- A context reaches a controller (R88): it is authenticated, or it may reach the discovery controller. -/
def ctxReaches (h : Head) (c : Capsule) : Bool :=
  fbit h c.wing FOQ_CTX_STATE_AUTHENTICATED c.ctx || fbit h c.wing FOQ_CTX_BIND_DISCOVERY c.ctx

/-- Step 3 of R93 for an I/O command (R94). -/
def capsuleChecked (h : Head) (c : Capsule) : Head :=
  if fget h c.wing FOQ_CTX_STATE_AUTHENTICATED c.ctx = 0 then endCapsule h c ⟨0, 0x0B, true⟩
  else match nsGet? h c.nsid with
    | none => endCapsule h c ⟨0, 0x0B, true⟩
    | some n =>
      if n.coll ≠ fget h c.wing FOQ_CTX_STATE_COLL c.ctx then
        raise (endCapsule h c ⟨0, 0x0B, true⟩) c.wing Ev.FOQ_COLL_REFUSED
      else capsuleForNs h c n

/-- COMMAND_CAPSULE (R91, R93, R94, R104, R106). Fabrics commands, by which a connection authenticates, and admin commands name no
namespace: they pass to array software, admin commands of a context that is not authenticated only where it may reach the discovery
controller (R88). -/
def commandCapsule (h : Head) (c : Capsule) : Head :=
  capsuleArrives h c (fun h => match c.op with
    | .fabrics => passToSoftware h c
    | .admin => if ctxReaches h c then passToSoftware h c else endCapsule h c ⟨0, 0x0B, true⟩
    | _ => capsuleChecked h c)

/-- KEEP_ALIVE (R91): answered in hardware. -/
def keepAlive (h : Head) (c : Capsule) : Head :=
  capsuleArrives h c (fun h => endCapsule h c (if ctxReaches h c then ⟨0, 0x00, false⟩ else ⟨0, 0x0B, true⟩))

/-! ### Admission (R95 to R98) -/

/-- A collection's bank, signed (R95). -/
def collBank (h : Head) (coll : Nat) : Int := toSigned 24 (fget h .east FOQ_COLL_BANK_BANK coll)

/-- A collection's bank set. -/
def setBank (h : Head) (coll : Nat) (v : Int) : Head := fset h .east FOQ_COLL_BANK_BANK (ofSigned 24 v) coll

/-- The credit check (R95, R96): the head with the cost taken, or none where the command waits. -/
def takeCredit (h : Head) (w : Wing) (coll cost : Nat) : Option Head :=
  if !fbit h w FOQ_CTRL_CREDITS_EN || fget h .east FOQ_COLL_RATE_CREDIT coll == 0 then some h
  else if 0 < collBank h coll then some (setBank h coll (collBank h coll - cost))
  else if fbit h .east FOQ_COLL_BURST_ELASTIC coll && decide (cost ≤ fget h w FOQ_POOL_LEVEL) then
    some (fset h w FOQ_POOL_LEVEL (fget h w FOQ_POOL_LEVEL - cost))
  else none

/-- The quota in force, in granules (R146). -/
def quotaGranules (h : Head) : Nat := 256 * fget h .east VIT_QUOTA_NOW_QUOTA_MIB

/-- The write does not fit the dirty quota (R146). -/
def overQuota (h : Head) (c : HostCmd) : Bool :=
  isWrite c.cap.op && decide (quotaGranules h < pairDirty h + c.cap.count)

/-- The command a queue's identifier names, with the commands that wait before it. -/
def findWaiting (h : Head) (w : Wing) (ctx queue cid : Nat) : Option (HostCmd × List HostCmd) :=
  let p (x : HostCmd) : Bool := x.cap.wing == w && x.cap.ctx == ctx && x.cap.queue == queue && x.cap.cid == cid
  match h.foy.waiting.find? p with
  | none => none
  | some c => some (c, h.foy.waiting.takeWhile (fun x => !p x))

/-- Admission order (R95): no earlier command of the collection waits, except writes that wait on the quota (R146). -/
def inOrder (h : Head) (c : HostCmd) (before : List HostCmd) : Bool :=
  before.all (fun x => x.coll != c.coll || (overQuota h x && !isWrite c.cap.op))

/-- The least free host tag of a wing. -/
def freeTag (h : Head) (w : Wing) : Option Nat := (List.range 32768).find? (fun t => !tabHas h.foy.cmds (tagKey w t))

/-- What the protection check of a granule finds wrong (R92, R93 step 7). -/
def tupleFails (c : Capsule) (i data : Nat) (t : PiTuple) : Option NvmeStatus :=
  if c.fmt = .none then none
  else if c.chkGuard ∧ t.guard ≠ guardOf c.fmt data then some ⟨2, 0x82, true⟩
  else if c.chkRef ∧ t.ref ≠ refTagOf c.fmt (c.slba + i) then some ⟨2, 0x84, true⟩
  else none

/-- The first failure of the protection check of a command's data. A fused pair checks its compare data first. -/
def piFails (c : Capsule) (data : List Nat) (pi : List PiTuple) : Option NvmeStatus :=
  (data.zip pi).zipIdx.findSome? (fun e => tupleFails c (e.2 % c.count) e.1.1 e.1.2)

/-- Step 7 of R93: a command whose data fails the host protection check ends with no data placed. -/
def piFailure (h : Head) (key : Nat) (c : HostCmd) (st : NvmeStatus) : Head :=
  let h := fadd h c.cap.wing FOY_CNT_PI_COUNT 1 0 c.cap.port
  finishCmd (raise h c.cap.wing Ev.FOY_PI_ERROR c.cap.port) key c st []

/-- A forwarded command that carries no data to place goes to the owner at once (R164). -/
def forwardNow (h : Head) (key : Nat) (c : HostCmd) : Head :=
  if c.fwd && !isWrite c.cap.op then
    let (t, h) := anxRequest h (homeOf h c.cap.nsid) c.coll (.forward c.cap c.data)
    { h with foy := { h.foy with cmds := tabPut h.foy.cmds key { c with mtag := some t } } }
  else h

/-- The host granules a command moves (R319). -/
def hostGranules (c : Capsule) : Nat := if transfers c.op then c.count else 0

/-- Host write granules a wing has admitted in this frame. -/
def writesNow (h : Head) (w : Wing) : Nat := if w = .east then h.cur.writesE else h.cur.writesW

/-- In FOREGROUND, a write beyond the wing's ration waits (R323). -/
def rationed (h : Head) (w : Wing) (c : Capsule) : Bool :=
  isWrite c.op && fget h w CUR_CTRL_EFFECTIVE == 2 && decide (fget h w CUR_THROTTLE_GRANULES < writesNow h w + c.count)

/-- An admitted command's granules counted (R319, R323). -/
def countAdmitted (h : Head) (w : Wing) (c : Capsule) : Head :=
  let a := hostGranules c
  let b := if isWrite c.op then c.count else 0
  { h with cur := if w = .east then { h.cur with admittedE := h.cur.admittedE + a, writesE := h.cur.writesE + b }
                  else { h.cur with admittedW := h.cur.admittedW + a, writesW := h.cur.writesW + b } }

/-- A SYNC collection's write sequence is answered by its target (R344), or is owed to none. -/
def syncAcked (h : Head) (c : HostCmd) (seq : Nat) : Bool :=
  rplState h c.coll != 1 || (!h.rpl.queue.any (fun q => q.coll == c.coll && q.nsid == c.cap.nsid && q.wseq == seq) &&
    !h.rpl.flight.any (fun q => q.2.coll == c.coll && q.2.nsid == c.cap.nsid && q.2.wseq == seq))

/-- A write of a DIVERGED collection whose map entry has DEGRADE 0 (R347). -/
def syncBroken (h : Head) (coll : Nat) : Bool :=
  (tabGet? h.rpl.colls coll).any (·.diverged) && !fbit h .east RPL_MAP_MODE_DEGRADE coll

/-- RESUME_SYNC holds the admission of a collection's writes (R349). -/
def writesHeld (h : Head) (coll : Nat) : Bool := (tabGet? h.rpl.colls coll).any (·.hold)

/-- A command that reads or changes granules of its range. -/
def touchesRange : HostOp → Bool
  | .read | .write | .writeZeroes | .compare | .compareWrite | .verify => true
  | _ => false

/-- Two commands whose ranges meet. -/
def rangesMeet (a b : Capsule) : Bool :=
  a.nsid == b.nsid && touchesRange a.op && touchesRange b.op && decide (a.slba < b.slba + b.count) && decide (b.slba < a.slba + a.count)

/-- The range lock of a fused pair (R91): a pair waits for the commands in flight on its range, and they wait for it. -/
def rangeLocked (h : Head) (c : Capsule) : Bool :=
  h.foy.cmds.any (fun e => (e.2.cap.op == .compareWrite || c.op == .compareWrite) && rangesMeet e.2.cap c)

/-- Fused records in use, those of the pairs in flight among them (R106). -/
def fusedInUse (h : Head) : Nat := h.foy.fused.length + tabCount h.foy.cmds (fun _ c => c.cap.op == .compareWrite)

/-- The same fused pair is in flight (R106): a pair is executed at most once. -/
def pairInFlight (h : Head) (c : Capsule) : Bool :=
  h.foy.cmds.any (fun e => e.2.cap.op == .compareWrite && e.2.cap.host == c.host && e.2.cap.nsid == c.nsid && e.2.cap.slba == c.slba &&
    e.2.cap.cid == c.cid)

/-- A fused pair waits: for the same pair, or for a record (R106). -/
def fusedWaits (h : Head) (c : Capsule) : Bool := c.op == .compareWrite && (pairInFlight h c || decide (4096 ≤ fusedInUse h))

/-- The pages that admit a command are quiesced (R54, R112): nothing is admitted. -/
def admissionClosed (h : Head) (c : Capsule) : Bool :=
  hget h (pg .foq c.wing) STATUS_QUIESCED == 1 || hget h (pg .foy c.wing c.port) STATUS_QUIESCED == 1

/-- A command leaves those that wait. -/
def dropWaiting (h : Head) (c : Capsule) : Head := { h with foy := { h.foy with waiting := h.foy.waiting.filter (fun x => !sameCid c x.cap) } }

/-- A host tag taken for a command (R93 step 6, R99). -/
def takeTag (h : Head) (w : Wing) (t : Nat) (c : HostCmd) : Head :=
  let h := fadd { h with foy := { h.foy with cmds := tabPut h.foy.cmds (tagKey w t) c } } w FOQ_TAGS_IN_USE
  updateBounds (fmax h w FOQ_TAGS_HIGH_WATER (fget h w FOQ_TAGS_IN_USE)) w

/-- A write that does not fit the quota begins to wait (R146, R148). -/
def waitOnQuota (h : Head) (c : HostCmd) : Head :=
  if c.overSince.isSome then h
  else raiseCounted { h with foy := { h.foy with waiting := h.foy.waiting.map (fun x =>
    if sameCid c.cap x.cap then { x with overSince := some (frameCount h) } else x) } } .east Ev.VIT_OVER_QUOTA

/-- What else a command waits for beside credit, a tag and the quota: the pair (R171), its collection's replication (R349), the ration
(R323), a give-back (R176). -/
def heldBack (h : Head) (w : Wing) (c : HostCmd) : Bool :=
  (c.fwd && decide (4 ≤ pairState h)) || (isWrite c.cap.op && writesHeld h c.coll) || rationed h w c.cap || h.vit.batch.contains c.cap.nsid

/-- COMMAND_ADMIT (R91 to R93, R95, R96, R99, R106, R146, R323): with a free tag, room in the quota and credit, the command is admitted,
and its data are transferred and checked. -/
def commandAdmit (h : Head) (w : Wing) (ctx queue cid : Nat) (data : List Nat) (pi : List PiTuple) : Head :=
  match findWaiting h w ctx queue cid with
  | none => h
  | some (c, before) =>
    if !inOrder h c before || admissionClosed h c.cap then h
    else match (if c.cap.op = .compareWrite then fusedOf h c.cap else none) with
      | some r => raise (endCapsule (dropWaiting h c.cap) c.cap (fusedStatus r)) w Ev.FOQ_FUSED_REPLAY
      | none =>
        if fusedWaits h c.cap || rangeLocked h c.cap then h
        else if overQuota h c then waitOnQuota h c
        else if heldBack h w c then h
        else match freeTag h w, takeCredit h w c.coll (cmdCost c.cap) with
          | some t, some h =>
            let key := tagKey w t
            let c := { c with data := data }
            let h := { h with foy := { h.foy with
              admittedE := h.foy.admittedE || w == .east
              admittedW := h.foy.admittedW || w == .west } }
            let h := fadd (takeTag (dropWaiting h c.cap) w t c) w FOQ_CTX_STATE_INFLIGHT 1 ctx
            let h := countAdmitted h w c.cap
            match piFails c.cap data pi with
            | none => forwardNow h key c
            | some st => piFailure h key c st
          | _, _ => h

/-- The credit of one collection at the East tick (R95, R98): CREDIT as the frame length scales it, up to BURST, the rest to the
pool of its home wing. -/
def refillColl (h : Head) (coll credit : Nat) : Head :=
  let burst : Int := (fget h .east FOQ_COLL_BURST_BURST coll : Nat)
  let b := collBank h coll + (credit : Nat)
  let past := if burst < b then (b - burst).toNat else 0
  let h := setBank h coll (min b burst)
  let w := collHome h coll
  fset h w FOQ_POOL_LEVEL (min (fget h w FOQ_POOL_MAX) (fget h w FOQ_POOL_LEVEL + past))

/-- The collections whose CREDIT is not 0, of the entries the register file lists. -/
def shapedColls (h : Head) : List Nat :=
  (h.regs.filter (fun e => keyPage e.1 == pageNum (pg .foq .east) && keyOff e.1 == 0x068)).map (fun e => keyBank e.1)

/-- A commit that changes a collection's entry clamps its bank into −511 to the new BURST (R98). -/
def clampBank (h : Head) (coll : Nat) : Head :=
  let burst : Int := (fget h .east FOQ_COLL_BURST_BURST coll : Nat)
  setBank h coll (max (-511) (min burst (collBank h coll)))

/-- BOUND_LONG (R101): the wing has stalled for FOQ_STALL_THRESH consecutive frames. 0 never raises it. -/
def boundLong (h : Head) (w : Wing) : Head :=
  let t := fget h w FOQ_STALL_THRESH_FRAMES
  if t ≠ 0 ∧ t ≤ (if w = .east then h.foy.runE else h.foy.runW) then raise h w Ev.FOQ_BOUND_LONG else h

/-- The stall count of a wing at its tick (R101): a frame that spent any time at a bound or paused counts. -/
def stallTick (h : Head) (w : Wing) : Head :=
  let st := if w = .east then h.foy.stalledE else h.foy.stalledW
  let held := fetchHeld h w
  let h := if st then fadd h w FOQ_STALL_FRAMES_COUNT else h
  let run := if st then (if w = .east then h.foy.runE else h.foy.runW) + 1 else 0
  { h with foy := if w = .east then { h.foy with stalledE := held, runE := run, admittedE := false, quietE := !h.foy.admittedE }
                  else { h.foy with stalledW := held, runW := run, admittedW := false, quietW := !h.foy.admittedW } }

/-- The effect of RESUME (R102): PAUSED clears, unless the responder acts in the same cycle. -/
def resumeEffect (h : Head) (w : Wing) (again : Bool) : Head :=
  if again then h else fset h w FOQ_FETCH_PAUSED 0

/-- RESUME (R102). -/
def foqResume (h : Head) (ini : Initiator) (w : Wing) (again : Bool) : Head :=
  withWrite h ini (pg .foq w) 0x040 (fun h => resumeEffect h w again)

/-! ### HOST_COMPLETION (R108) -/

/-- The newest version of a granule a host read may return (R145): one whose mirror commit has returned, or a CLEAN copy. -/
def vitSlot (h : Head) (nsid granule : Nat) : Option Slot :=
  let l := h.vit.slots.filter (fun s => s.nsid == nsid && s.granule == granule && !s.superseded &&
    (s.st == .clean || (isPairDirty s.st && s.committed)))
  l.foldl (fun (b : Option Slot) s => match b with
    | some x => if (x.st == .clean && s.st != .clean) || (x.st != .clean && s.st != .clean && seqNum x.wseq < seqNum s.wseq)
        then some s else some x
    | none => some s) none
def vitRead (h : Head) (nsid granule : Nat) : Option Nat := (vitSlot h nsid granule).map (·.data)

/-- A granule of a command's range as the head has it: from the Vitrine; from the map where it names no flash (R182); from what has been
read and checked for the command's collection (R25). None while it has not come, or a page of its walk has not (R188). -/
def granuleNow (h : Head) (c : Capsule) (coll : Nat) (n : Namespace) (i : Nat) : Option (Status × Nat) :=
  match vitRead h c.nsid (c.slba + i) with
  | some d => some (.done, d)
  | none =>
    let loc := mapGet n (c.slba + i)
    if !walkable h n (c.slba + i) then none
    else if locSerial loc = 0 then some (if loc = locUnmapped ∨ loc = locZero then .done else .internal, 0)
    else match tabGet? h.gal.assembled loc with
      | none => none
      | some a => some (if a.coll = coll then (a.st, a.data) else (.collMismatch, 0))

/-- The status of the first granule of a range that failed on its way (R25, R182, R266). -/
def readFailure (h : Head) (c : Capsule) (coll : Nat) (n : Namespace) : Option Status :=
  (List.range c.count).findSome? (fun i => match granuleNow h c coll n i with
    | some (st, _) => if st = .done then none else some st
    | none => none)

/-- The data of a range, granule by granule. None while a granule has not come. -/
def readData (h : Head) (c : Capsule) (coll : Nat) (n : Namespace) : Option (List Nat) :=
  ((List.range c.count).mapM (fun i => granuleNow h c coll n i)).map (fun l => l.map (·.2))

/-- A COLLECTION_MISMATCH of a read is always reported (R25). -/
def reportMismatch (h : Head) (w : Wing) (st : Status) : Head := if st = .collMismatch then raise h w Ev.CDC_COLL_MISMATCH else h

/-- The granules a read has taken leave the read path. -/
def dropAssembled (h : Head) (c : Capsule) (n : Namespace) : Head :=
  { h with gal := { h.gal with assembled := (List.range c.count).foldl (fun t i => tabDel t (mapGet n (c.slba + i))) h.gal.assembled } }

/-- The label of a granule read for a host (R253), as far as a CLEAN slot needs it. -/
def plainLabel (coll : Nat) : Label := ⟨0, 0, coll, false, false, 0, 0, 0, 0, 0, 0⟩

def pchState (h : Head) (w : Wing) (p : Nat) : Nat := fget h w HBM_PCH_STATE_STATE p

/-- Pseudo-channels of a wing that are fenced, or being moved off (R384). -/
def pchGone (h : Head) (w : Wing) : Nat := ((List.range 96).filter (fun p => pchState h w p != 0)).length

/-- The clean cache of a wing, in slots: 70 GiB (R142), less 1.125 GiB for each pseudo-channel that is gone (R384). -/
def cleanLimit (h : Head) (w : Wing) : Nat := 18350080 - 294912 * pchGone h w

/-- A CLEAN slot of a wing. -/
def isCleanOn (w : Wing) (s : Slot) : Bool := s.wing == w && s.st == .clean

/-- One CLEAN slot of a wing replaced by the clock (R145): the hand passes the slots read since it last passed them, clearing their
mark, and takes the first other one. The slots stand in the order in which the hand meets them. -/
def evictClean (l : List Slot) (w : Wing) : List Slot :=
  let clean := l.filter (isCleanOn w)
  let passed := clean.takeWhile (·.used)
  let rest := clean.drop passed.length
  let fresh := passed.map (fun s => { s with used := false })
  l.filter (fun s => !isCleanOn w s) ++ (if rest.isEmpty then fresh.drop 1 else rest.drop 1 ++ fresh)

/-- A granule read from flash kept as CLEAN (R145). -/
def keepClean (h : Head) (w : Wing) (nsid granule coll data : Nat) : Head :=
  let l := if slotCount h.vit.slots w (fun s => s == .clean) < cleanLimit h w then h.vit.slots else evictClean h.vit.slots w
  setSlots h (l ++ [⟨w, .clean, nsid, granule, 0, plainLabel coll, data, true, false, false, false⟩])

/-- A read has used a CLEAN slot (R145). -/
def markUsed (h : Head) (nsid granule : Nat) : Head :=
  { h with vit := { h.vit with slots := h.vit.slots.map (fun s =>
    if s.st = .clean ∧ s.nsid = nsid ∧ s.granule = granule then { s with used := true } else s) } }

/-- The counts of a read and its CLEAN copies (R145): what the Vitrine served, what went to flash, and with CLEAN_EN 1 the
plaintext kept. -/
def readCounts (h : Head) (c : Capsule) (n : Namespace) (data : List Nat) : Head :=
  let miss := (List.range c.count).filter (fun i => (vitRead h c.nsid (c.slba + i)).isNone && locSerial (mapGet n (c.slba + i)) != 0)
  let hit := (List.range c.count).filter (fun i => (vitRead h c.nsid (c.slba + i)).isSome)
  let h := fadd (fadd h n.home VIT_HIT_COUNT_COUNT hit.length) n.home VIT_MISS_COUNT_COUNT miss.length
  let h := foldHead h miss (fun h i => walk h c.nsid (c.slba + i))
  let h := foldHead h hit (fun h i => markUsed h c.nsid (c.slba + i))
  if fbit h n.home VIT_CTRL_CLEAN_EN then
    foldHead h miss (fun h i => keepClean h n.home c.nsid (c.slba + i) n.coll (data.getD i 0))
  else h

/-- A version is on its way to the peer: it waits for a MIRROR, or its MIRROR has no acknowledgement (R159). -/
def mirrorPending (h : Head) (nsid seq : Nat) : Bool :=
  h.vit.toMirror.any (fun e => e.2 == seq) || h.vit.unacked.any (fun u => match u.body with
    | .mirror es _ => es.any (fun e => e.nsid == nsid && e.wseq == seq)
    | _ => false)

/-- A version has its mirror commit, or none is to come (R22, R159). -/
def mirrorDone (h : Head) (nsid seq : Nat) : Bool :=
  !mirrorPending h nsid seq && h.vit.slots.all (fun s => s.wseq != seq || s.nsid != nsid || s.committed)

/-- The completion condition of a command (R22, R108, R109): a write's granules are placed and have their mirror commit, or with
the peer absent the dump is armed. A head in SUSPECT holds its writes (R171). -/
def writeDone (h : Head) (c : HostCmd) : Bool :=
  !isWrite c.cap.op ||
    (decide (c.placed.length = c.cap.count) &&
      c.placed.all (fun p => mirrorDone h c.cap.nsid p.2 && syncAcked h c p.2) &&
      (hasPeer h || dumpReady h))

/-- The committed dirty versions of a granule, oldest first. -/
def versionsOf (h : Head) (nsid granule : Nat) : List Slot :=
  sortOn (fun s => [seqNum s.wseq]) (h.vit.slots.filter (fun s => s.nsid == nsid && s.granule == granule && isOwnDirty s.st && s.committed))

/-- The entries of a granule mapped to ZERO (R91, R165): each names a dirty version whose place ZERO takes, so that both heads free it;
one entry where there is none. -/
def zeroEntries (h : Head) (n : Namespace) (nsid granule : Nat) : List CatEntry :=
  match versionsOf h nsid granule with
  | [] => [⟨nsid, 0, granule, 0, locZero, mapGet n granule⟩]
  | v :: t => ⟨nsid, 0, granule, v.wseq, locZero, mapGet n granule⟩ :: t.map (fun s => ⟨nsid, 0, granule, s.wseq, locZero, locZero⟩)

/-- A range mapped to ZERO (R91 Write Zeroes): its committed versions are superseded, and freed when the peer has the new locators (R23,
R165). -/
def zeroRange (h : Head) (n : Namespace) (c : Capsule) : Head :=
  let es := ((List.range c.count).map (fun i => zeroEntries h n c.nsid (c.slba + i))).flatten
  let r := foldHead h (List.range c.count) (fun h i => (updateGranule h c.nsid (c.slba + i) 0 locZero false).1)
  let inRange (s : Slot) : Bool := s.nsid == c.nsid && decide (c.slba ≤ s.granule) && decide (s.granule < c.slba + c.count)
  let h := setSlots r ((r.vit.slots.filter (fun s => !(inRange s && s.st == .clean))).map (fun s =>
    if inRange s ∧ isOwnDirty s.st ∧ s.committed then { s with superseded := true } else s))
  sendUpdate h n.home n.coll es

/-- The fused record of a Compare and Write's completion, in both Vitrines (R106). A pair that has written sent its record with its last
granule; one that fails sends it alone. For a forwarded pair both heads have it from FORWARD and FORWARD_RESP. -/
def recordFused (h : Head) (c : HostCmd) (st : NvmeStatus) : Head :=
  if c.cap.op ≠ .compareWrite then h
  else
    let r := fusedRecord c st
    let h := addFused h r
    if isSuccess st || c.fwd || c.via.isSome || !hasPeer h then h
    else (anxRequest h (homeOf h c.cap.nsid) c.coll (.mirror [] [r])).2

/-- The end of a command whose data a read must bring first (R91): Read, Compare, Verify. -/
def endRead (h : Head) (key : Nat) (c : HostCmd) (n : Namespace) : Head :=
  match readFailure h c.cap c.coll n with
  | some st => finishCmd (dropAssembled (reportMismatch h n.home st) c.cap n) key c (nvmeOf st) []
  | none => match readData h c.cap c.coll n with
    | none => h
    | some data =>
      let h := dropAssembled (readCounts h c.cap n data) c.cap n
      match c.cap.op with
      | .read => finishCmd h key c ⟨0, 0x00, false⟩ data
      | .compare => finishCmd h key c (if data = c.data then ⟨0, 0x00, false⟩ else ⟨2, 0x85, true⟩) []
      | _ => finishCmd h key c ⟨0, 0x00, false⟩ []

/-- A command's own end, where no failure has ended it (R22, R91, R108). -/
def endCmd (h : Head) (key : Nat) (c : HostCmd) (n : Namespace) : Head :=
  match c.cap.op with
  | .read | .compare | .verify => endRead h key c n
  | .writeZeroes => finishCmd (zeroRange h n c.cap) key c ⟨0, 0x00, false⟩ []
  | _ => finishCmd (recordFused h c ⟨0, 0x00, false⟩) key c ⟨0, 0x00, false⟩ []

/-- A command with a host tag ends where its condition is met (R108 to R111). One whose condition is not met goes on. -/
def completeCmd (h : Head) (key : Nat) (status : Status) : Head :=
  match tabGet? h.foy.cmds key with
  | none => h
  | some c =>
    let fail (st : NvmeStatus) : Head := finishCmd (recordFused h c st) key c st []
    if c.inaccessible then finishCmd h key c anaInaccessible []
    else match c.failed with
      | some st => fail (nvmeOf st)
      | none =>
        if c.fwd then h
        else if c.miscompare then fail ⟨2, 0x85, true⟩
        else if status ≠ .done ∧ status ≠ .doneNote then fail (nvmeOf status)
        else if isWrite c.cap.op && syncBroken h c.coll then fail (nvmeOf .timeout)
        else if !writeDone h c then h
        else match nsGet? h c.cap.nsid with
          | none => finishCmd h key c ⟨0, 0x0B, true⟩ []
          | some n => endCmd h key c n

/-- Array software completes a command of the exception ring (R91). -/
def softwareDone (h : Head) (w : Wing) (ctx queue cid : Nat) (st : NvmeStatus) : Head :=
  let hit (x : Capsule) : Bool := x.wing == w && x.ctx == ctx && x.queue == queue && x.cid == cid
  match h.foy.passed.find? hit with
  | none => h
  | some c => endCapsule { h with foy := { h.foy with passed := h.foy.passed.filter (fun x => !hit x) } } c st

/-- What HOST_COMPLETION ends (R91, R108). -/
def hostEnd (h : Head) (w : Wing) : HostEnd → Head
  | .tag t status => completeCmd h (tagKey w t) status
  | .software ctx queue cid sct sc dnr => softwareDone h w ctx queue cid ⟨sct, sc, dnr⟩

end Sys2Proof.Machine
end

