-- ==== Sys2Proof/Machine/NsOps.lean ====
section
/-! DEFINITION. Changes of the namespace table that both heads make: on the owner by command (R184, R193, R195), on the peer
from the CAT_UPDATE stream (R191). -/

namespace Sys2Proof.Machine

open Reg

/-- What marks a namespace change in a CAT_UPDATE entry (R191). -/
def nsChange : Nat := 2 ^ 64 - 1

/-- The least free entry of the namespace table, of 32,768 (R183). -/
def freeNs (h : Head) : Option Nat := tabFree h.cat.nss 32768

/-- A namespace made: its attributes as CAT_NS_ATTR is written, its size. Every granule is UNMAPPED (R186). -/
def newNs (nsid attr size : Nat) (owned prefThis : Bool) : Namespace where
  nsid := nsid
  coll := attr % 4096
  home := if attr.testBit 27 then .west else .east
  prefThis := prefThis
  owned := owned
  size := size
  readOnly := false
  lastEdition := 0
  editions := []
  leaves := []
  pages := []
  changing := false
  accStop := false

/-- A namespace entered in the table. -/
def addNs (h : Head) (n : Namespace) : Head :=
  match freeNs h with
  | none => h
  | some k => { h with cat := { h.cat with nss := tabPut h.cat.nss k n } }

/-- A namespace removed from the table, with what the Vitrine holds of it. -/
def removeNs (h : Head) (nsid : Nat) : Head :=
  let h := { h with cat := { h.cat with
    dirtyPages := h.cat.dirtyPages.filter (fun p => p.1 != nsid)
    resident := h.cat.resident.filter (fun p => p.nsid != nsid) } }
  let h := { syncStore h with cat := { h.cat with nss := h.cat.nss.filter (fun e => e.2.nsid != nsid) } }
  freeSlots h (fun s => s.nsid == nsid)

/-- The editions the pair holds (R212), brought up to date. -/
def syncEditions (h : Head) : Head :=
  fset h .east CAT_EDITIONS_PAIR ((h.cat.nss.map (fun e => e.2.editions.length)).sum)

/-- The highest gallery serial issued so far: the one below the next (R193, R256). -/
def lastSerial (h : Head) : Nat := 2 * (serialCounter h - 1) + fget h .east ANX_PAIR_PREFER

/-- An edition made of a namespace (R193): its leaves as they stand, its pages, and its root's locator and seal. -/
def addEdition (h : Head) (nsid number : Nat) : Head :=
  let e (n : Namespace) : Edition :=
    ⟨number, lastSerial h, (rootOf n.pages).loc, (rootOf n.pages).cmac, n.leaves, n.pages, none⟩
  syncEditions (nsUpd h nsid (fun n => { n with lastEdition := number, editions := n.editions ++ [e n] }))

/-- An edition removed from a namespace's table. -/
def dropEdition (h : Head) (nsid number : Nat) : Head :=
  syncEditions (nsUpd h nsid (fun n => { n with editions := n.editions.filter (fun e => e.number != number) }))

/-- The namespaces of a collection. -/
def nsOfColl (h : Head) (coll : Nat) : List Namespace := (h.cat.nss.map (·.2)).filter (fun n => n.coll == coll)

/-- The leaf versions a namespace and its editions hold, each once (R207). -/
def leafVersions (n : Namespace) : List Leaf :=
  (((n.leaves.map (·.2)) ++ (n.editions.map (fun e => e.leaves.map (·.2))).flatten).foldl
    (fun (acc : List Leaf) lf => if acc.any (fun x => x.ver == lf.ver) then acc else acc ++ [lf]) [])

/-- An edition of a namespace. -/
def editionOf (n : Namespace) (number : Nat) : Option Edition := n.editions.find? (fun e => e.number == number)

/-- The leaves of the edition next above a number (or of the live map), and of the one next below. -/
def newerLeaves (n : Namespace) (number : Nat) : Tab Leaf :=
  match (n.editions.filter (fun e => decide (number < e.number))).foldl (fun (b : Option Edition) e => match b with
    | some x => if e.number < x.number then some e else some x
    | none => some e) none with
  | some e => e.leaves
  | none => n.leaves
def olderLeaves (n : Namespace) (number : Nat) : Tab Leaf :=
  match newestEdition? { n with editions := n.editions.filter (fun e => decide (e.number < number)) } with
  | some e => e.leaves
  | none => []

/-- Leaf versions that an edition alone holds (R195). -/
def ownLeaves (n : Namespace) (e : Edition) : List Leaf :=
  let same (t : Tab Leaf) (i v : Nat) : Bool := match tabGet? t i with
    | some lf => lf.ver == v
    | none => false
  (e.leaves.filter (fun x => !same (newerLeaves n e.number) x.1 x.2.ver && !same (olderLeaves n e.number) x.1 x.2.ver)).map (·.2)

/-- An update that the peer sent: it stays in the journal until a checkpoint of the peer, its owner (R189). -/
def isPeerEntry : JournalEntry → Bool
  | .update mine _ _ => !mine
  | .inserted .. => false

end Sys2Proof.Machine
end

