-- ==== Sys2Proof/Machine/Vitrine.lean ====
section
/-! DEFINITION. The Vitrine (R142 to R148, R159 to R162, R177): placement, the mirror commit, the dirty quota, retained
content. -/

namespace Sys2Proof.Machine

open Reg

/-! ### Slots -/

/-- DIRTY and MIRROR slots of a wing: 24 GiB of 4 KiB slots (R142), less those retired. -/
def slotLimit (h : Head) (w : Wing) : Nat := 6291456 - (if w = .east then h.vit.retiredE else h.vit.retiredW)

/-- STAGING slots of a wing: 8 GiB of 4 KiB slots (R142). -/
def stagingLimit : Nat := 2097152

/-- DIRTY, ACCESSION and MIRROR slots of a wing. -/
def slotsHeld (h : Head) (w : Wing) : Nat := slotCount h.vit.slots w isPairDirty

/-- A version named by namespace, granule and write sequence. -/
def isVersion (nsid granule seq : Nat) (s : Slot) : Bool := s.nsid == nsid && s.granule == granule && s.wseq == seq

/-- The next value of a wing's write sequence taken (R144). -/
def takeSeq (h : Head) (w : Wing) : Nat × Head :=
  let v := wseqNext h w
  (v, pset h w VIT_WSEQ_LO_WSEQ VIT_WSEQ_HI_WSEQ (wingNum w <<< 63 + (seqNum v + 1) % 2 ^ 63))

/-- A slot just written. -/
def newSlot (w : Wing) (st : SlotState) (nsid granule seq : Nat) (label : Label) (data : Nat) (committed : Bool) : Slot where
  wing := w
  st := st
  nsid := nsid
  granule := granule
  wseq := seq
  label := label
  data := data
  committed := committed
  superseded := false
  retained := false
  used := false

/-- A slot of a granule. -/
def isGranule (nsid granule : Nat) (s : Slot) : Bool := s.nsid == nsid && s.granule == granule

/-- A committed version of a granule that a newer committed one has made old (R144). -/
def outdated (l : List Slot) (s : Slot) : Bool :=
  isOwnDirty s.st && s.committed && l.any (fun x => isOwnDirty x.st && x.committed && isGranule s.nsid s.granule x &&
    decide (seqNum s.wseq < seqNum x.wseq))

/-- A version has its mirror commit (R159): it is what a read may return (R145). Committed versions that are older are freed; one in an
accession batch stays until accession has finished with it, its update discarded (R144). Clean copies of the granule go. -/
def commitVersion (h : Head) (nsid granule seq : Nat) : Head :=
  let l := h.vit.slots.map (fun s => if isVersion nsid granule seq s then { s with committed := true } else s)
  let old (s : Slot) : Bool := isGranule nsid granule s && outdated l s
  let l' := l.filter (fun s => !(isGranule nsid granule s && s.st == .clean) && !(old s && s.st == .dirty))
  setSlots h (l'.map (fun s => if old s then { s with superseded := true } else s))

/-- What waits for a mirror commit no longer can have one: it is committed (R109, R158). -/
def commitAll (h : Head) : Head :=
  foldHead { h with vit := { h.vit with toMirror := [], fusedOut := [] } }
    (h.vit.slots.filter (fun s => !s.committed && isPairDirty s.st)) (fun h s => commitVersion h s.nsid s.granule s.wseq)

/-! ### Mirroring (R159, R160) -/

/-- The entry of a slot in a MIRROR or RESILVER message. -/
def entryOf (s : Slot) : MirrorEntry := ⟨s.label, s.nsid, s.granule, s.wseq, s.data⟩

/-- The collection that the header of a MIRROR or RESILVER names: that of its first granule. -/
def collOf (es : List MirrorEntry) : Nat := (es.map (fun e => e.label.coll)).headD 0

/-- A MIRROR formed of the first granules of a wing that wait, up to four (R159), with the fused records that share their commit
(R106). -/
def formMirror (h : Head) (w : Wing) : Head :=
  let mine := (h.vit.toMirror.filter (fun e => e.1 == w)).take 4
  let es := mine.filterMap (fun e => (h.vit.slots.find? (fun s => s.wing == w && s.wseq == e.2 && isOwnDirty s.st)).map entryOf)
  let goes (f : Wing × Nat × FusedRec) : Bool := mine.contains (f.1, f.2.1)
  let recs := (h.vit.fusedOut.filter goes).map (·.2.2)
  let h := { h with vit := { h.vit with
    toMirror := h.vit.toMirror.filter (fun e => !mine.contains e)
    fusedOut := h.vit.fusedOut.filter (fun f => !goes f) } }
  if es = [] then h else (anxRequest h w (collOf es) (.mirror es recs)).2

/-- A wing's MIRROR can be formed: the port it leaves by is up, and no MIRROR waits on it. -/
def mirrorReady (h : Head) (w : Wing) : Bool :=
  h.vit.toMirror.any (fun e => e.1 == w) && (match anxPort h w with
    | some p => !(anxLink h p).queue.any (fun m => m.vc == 1)
    | none => false)

/-- MIRRORs formed as long as the wing's can be. -/
def mirrorLoop : Nat → Head → Wing → Head
  | 0, h, _ => h
  | fuel + 1, h, w => if mirrorReady h w then mirrorLoop fuel (formMirror h w) w else h

/-- What a wing can mirror now is sent. -/
def mirrorSend (h : Head) (w : Wing) : Head := mirrorLoop h.vit.toMirror.length h w

/-- A port that can send again sends what waits on it, and then the MIRRORs that its queue kept from being formed. -/
def pumpPort (h : Head) (w : Wing) : Head := foldHead (drainAnx h w) wings mirrorSend

/-- The flits of a MIRROR of n granules (R156). -/
def mirrorLen (n : Nat) : Nat := 1 + 16 * n

/-- MIRROR flits that a wing has queued (R160): those of its MIRRORs on either port, and those of the granules that wait for theirs. -/
def mirrorFlits (h : Head) (w : Wing) : Nat :=
  let mine (m : LinkMsg) : Bool := match m.msg with
    | .annex _ t _ (.mirror _ _) => decide (2 ^ 31 ≤ t) == (w == .west)
    | _ => false
  let queued := (wings.map (fun p => (((anxLink h p).queue.filter mine).map (·.left)).sum)).sum
  let waits := (h.vit.toMirror.filter (fun e => e.1 == w)).length
  queued + 16 * waits + (waits + 3) / 4

/-- A granule placed as DIRTY under the home wing's next write sequence (R144): mirrored, or with no peer committed at once. The fused
record of a pair goes with its last granule. -/
def placeDirty (h : Head) (nsid granule data coll : Nat) (committed : Bool) (record : Option FusedRec := none) : Nat × Head :=
  let w := homeOf h nsid
  let (seq, h) := takeSeq h w
  let h := setSlots h (h.vit.slots ++ [newSlot w .dirty nsid granule seq (hostLabel coll data) data false])
  let h := if rplState h coll = 1 then { h with rpl := { h.rpl with queue := h.rpl.queue ++ [⟨coll, nsid, granule, seq, data, none⟩] } } else h
  if committed || !hasPeer h then (seq, commitVersion h nsid granule seq)
  else (seq, mirrorSend { h with vit := { h.vit with
    toMirror := h.vit.toMirror ++ [(w, seq)]
    fusedOut := h.vit.fusedOut ++ (record.map (fun r => (w, seq, r))).toList } } w)

/-- A command's record changed. -/
def setCmd (h : Head) (key : Nat) (c : HostCmd) : Head := { h with foy := { h.foy with cmds := tabPut h.foy.cmds key c } }

/-- A granule of an admitted write that cannot be placed now (R142, R160): it is no granule of the command's, or is placed; 256 MIRROR
flits are queued on the home wing; no slot of the region is left. -/
def placementHeld (h : Head) (c : HostCmd) (idx : Nat) : Bool :=
  let home := homeOf h c.cap.nsid
  !isWrite c.cap.op || decide (c.cap.count ≤ idx) || c.placed.any (fun p => p.1 == c.cap.slba + idx) ||
    c.inaccessible || c.failed.isSome || c.miscompare || !running h (pg .vit home) || decide (256 ≤ mirrorFlits h home) ||
    (if c.fwd then decide (stagingLimit ≤ slotCount h.vit.slots home (fun s => s == .staging))
      else decide (slotLimit h home ≤ slotsHeld h home))

/-- The data a write brings for a granule: a fused pair's follow its compare data. -/
def writeData (c : HostCmd) (idx : Nat) : Nat := c.data.getD ((if c.cap.op = .compareWrite then c.cap.count else 0) + idx) 0

/-- A forwarded write's granule goes to a STAGING slot, and the command to the owner once all have come (R164). -/
def stageGranule (h : Head) (key : Nat) (c : HostCmd) (idx : Nat) : Head :=
  let home := homeOf h c.cap.nsid
  let g := c.cap.slba + idx
  let data := writeData c idx
  let c := { c with placed := c.placed ++ [(g, key)] }
  let h := setCmd (setSlots h (h.vit.slots ++ [newSlot home .staging c.cap.nsid g key (hostLabel c.coll data) data false])) key c
  if c.placed.length < c.cap.count then h
  else
    let (t, h) := anxRequest h home c.coll (.forward c.cap c.data)
    setCmd h key { c with mtag := some t }

/-- A fused pair's compare (R91), before its first granule is placed: none while what it compares with has not come. -/
def compareFirst (h : Head) (c : HostCmd) (n : Namespace) : Option HostCmd :=
  if c.cap.op ≠ .compareWrite ∨ c.compared then some c
  else match readFailure h c.cap c.coll n with
    | some st => some { c with failed := some st }
    | none => (readData h c.cap c.coll n).map (fun d =>
      if d = c.data.take c.cap.count then { c with compared := true } else { c with miscompare := true })

/-- The end of a pair's compare: what it read is used, and a COLLECTION_MISMATCH reported (R25). -/
def endCompare (h : Head) (c : HostCmd) (n : Namespace) : Head :=
  if c.cap.op = .compareWrite then dropAssembled (reportMismatch h n.home (c.failed.getD .done)) c.cap n else h

/-- A granule of a write placed by the namespace's owner. What it places for the peer is committed at once (R164). -/
def placeOwned (h : Head) (key : Nat) (c : HostCmd) (idx : Nat) : Head :=
  let g := c.cap.slba + idx
  let last := decide (c.placed.length + 1 = c.cap.count)
  let record := if c.cap.op = .compareWrite ∧ last then some (fusedRecord c ⟨0, 0x00, false⟩) else none
  let (seq, h) := placeDirty h c.cap.nsid g (writeData c idx) c.coll c.via.isSome record
  setCmd h key { c with placed := c.placed ++ [(g, seq)] }

/-- One granule of an admitted write placed (R91, R144, R159, R160, R164), or held back. -/
def placeGranule (h : Head) (key idx : Nat) : Head :=
  match tabGet? h.foy.cmds key with
  | none => h
  | some c =>
    if placementHeld h c idx then h
    else if c.fwd then stageGranule h key c idx
    else match nsGet? h c.cap.nsid with
      | none => h
      | some n => match compareFirst h c n with
        | none => h
        | some c' =>
          let h := if c.compared then h else endCompare h c' n
          if c'.failed.isSome || c'.miscompare then setCmd h key c' else placeOwned h key c' idx

/-- GRANULE_PLACE. -/
def granulePlace (h : Head) (w : Wing) (tag idx : Nat) : Head := placeGranule h (tagKey w tag) idx

/-- The state in which a head takes mirror copies: it has, or is forming, a pair. -/
def inPair (h : Head) : Bool := decide (1 ≤ pairState h) && decide (pairState h ≤ 6)

/-- A received entry passes the peer's checks (R254): LCRC, and COLL equals the namespace's collection. -/
def entryOk (h : Head) (e : MirrorEntry) : Bool :=
  labelOk e.label && (match nsGet? h e.nsid with
    | some n => e.label.coll == n.coll
    | none => false)

/-- A MIRROR copy of the version is held already, or a newer one of the granule (R144, R157). -/
def superseded (h : Head) (e : MirrorEntry) : Bool :=
  h.vit.slots.any (fun s => s.st == .mirror && isGranule e.nsid e.granule s && decide (seqNum e.wseq ≤ seqNum s.wseq))

/-- A received entry is this head's own version, whose slot was lost (R178). -/
def isLost (h : Head) (e : MirrorEntry) : Bool := h.vit.lost.contains (e.nsid, e.granule, e.wseq)

/-- A received entry written as a MIRROR slot, its older copies freed (R144, R159). A version that SLOT_ECC lost is DIRTY again
(R178). -/
def holdMirror (h : Head) (e : MirrorEntry) : Head :=
  if isLost h e then
    let h := { h with vit := { h.vit with lost := h.vit.lost.filter (fun v => v != (e.nsid, e.granule, e.wseq)) } }
    commitVersion (setSlots h (h.vit.slots ++ [newSlot (homeOf h e.nsid) .dirty e.nsid e.granule e.wseq e.label e.data false]))
      e.nsid e.granule e.wseq
  else if superseded h e then h
  else
    let l := h.vit.slots.filter (fun s => !(isGranule e.nsid e.granule s && (s.st == .mirror || s.st == .clean)))
    setSlots h (l ++ [newSlot (homeOf h e.nsid) .mirror e.nsid e.granule e.wseq e.label e.data true])

/-- MIRROR and RESILVER (R106, R144, R156, R157, R159, R254): both sequences raised, the granules and the fused record held and
acknowledged, or refused. -/
def mirrorMsg (h : Head) (port : Wing) (mtag coll : Nat) (es : List MirrorEntry) (fused : List FusedRec) : Head :=
  let ack (h : Head) (st : Status) : Head := anxPut h port mtag coll (.mirrorAck es.length st)
  if !inPair h then h
  else
    let h := foldHead h es (fun h e => raiseSeq h e.wseq)
    if inDump h then ack h .noResource
    else if es.any (fun e => !entryOk h e) then ack h .labelFail
    else if wings.any (fun w =>
        decide (slotLimit h w < slotsHeld h w + (es.filter (fun e => homeOf h e.nsid == w && !superseded h e)).length)) then
      ack h .noResource
    else ack (foldHead (foldHead h es holdMirror) fused addFused) .done

/-- The unanswered message of an MTAG. -/
def unackedOf (h : Head) (mtag : Nat) : Option Unacked := h.vit.unacked.find? (fun u => u.mtag == mtag)

/-- A message's reply has come. -/
def dropUnacked (h : Head) (mtag : Nat) : Head :=
  { h with vit := { h.vit with unacked := h.vit.unacked.filter (fun u => u.mtag != mtag) } }

/-- A message sent once more with its MTAG and entries (R157). -/
def resendMsg (h : Head) (u : Unacked) : Head := anxSend h u.wing u.mtag u.coll u.body

/-- A granule whose label failed twice on the way to the peer (R254): its command fails, and the version is dropped. -/
def labelFault (h : Head) (e : MirrorEntry) : Head :=
  let h := { h with foy := { h.foy with cmds := tabMap h.foy.cmds (fun _ c =>
    if c.cap.nsid = e.nsid ∧ c.placed.contains (e.granule, e.wseq) then { c with failed := some .internal } else c) } }
  freeSlots h (fun s => s.st == .dirty && !s.committed && isVersion e.nsid e.granule e.wseq s)

/-- The granules of a MIRROR or RESILVER, and whether it is a MIRROR. -/
def granulesOfMsg : AnxBody → Option (List MirrorEntry × Bool)
  | .mirror es _ => some (es, true)
  | .resilver es => some (es, false)
  | _ => none

/-- MIRROR_ACK (R159, R254): DONE commits the granules; NO_RESOURCE leaves them to be resent; LABEL_FAIL is resent once. -/
def mirrorAck (h : Head) (mtag : Nat) (st : Status) (latency : Nat) : Head :=
  match unackedOf h mtag with
  | none => h
  | some u =>
    match granulesOfMsg u.body with
    | none => h
    | some (es, isMirror) => match st with
      | .done | .doneNote =>
        let h := dropUnacked h mtag
        if isMirror then
          foldHead (fmax h u.wing ANX_COMMIT_MAX_NS latency) es (fun h e => commitVersion h e.nsid e.granule e.wseq)
        else h
      | .noResource =>
        raise { h with vit := { h.vit with refused := setIn h.vit.refused mtag true } } u.wing Ev.VIT_MIRROR_NACK
      | _ =>
        if u.resent then
          let h := raise (dropUnacked h mtag) u.wing Ev.GAL_LABEL_FAULT
          if isMirror then foldHead h es labelFault else h
        else
          let u := { u with resent := true }
          resendMsg { h with vit := { h.vit with unacked := h.vit.unacked.map (fun x => if x.mtag = mtag then u else x) } } u

/-- MIRROR_RESEND (R159): 1 µs after a refusal for want of room. -/
def mirrorResend (h : Head) (mtag : Nat) : Head :=
  match unackedOf h mtag with
  | some u => if h.vit.refused.contains mtag then
      resendMsg { h with vit := { h.vit with refused := setIn h.vit.refused mtag false } } u
    else h
  | none => h

/-! ### The dirty quota (R146 to R148) -/

/-- A shrink is in force. -/
def shrinking (h : Head) : Bool := fbit h .east VIT_CTRL_SHRINKING

/-- VIT_CTRL.SHRINKING, on both pages. -/
def setShrinking (h : Head) (on : Bool) : Head :=
  fset (fset h .east VIT_CTRL_SHRINKING (ofBool on)) .west VIT_CTRL_SHRINKING (ofBool on)

/-- A shrink started (R147): nothing is lowered at the start itself. -/
def shrinkStart (h : Head) (w : Wing) : Head :=
  if shrinking h then h
  else
    let h := setShrinking h true
    raise { h with vit := { h.vit with restoring := false, shrinkAt := fget h .east VIT_QUOTA_NOW_QUOTA_MIB } } w
      Ev.VIT_SHRINK_START

/-- The shrink ended, the quota to be restored at the next tick (R147). -/
def shrinkRestore (h : Head) : Head :=
  if shrinking h then setShrinking { h with vit := { h.vit with restoring := true } } false else h

/-- The quota in force at a tick, after the commits of the tick (R147). Between the end of a shrink and the tick it stays. -/
def quotaTick (h : Head) : Head :=
  let q := fget h .east VIT_DIRTY_QUOTA_QUOTA_MIB
  if shrinking h then
    let floor := fget h .east VIT_SHRINK_FLOOR_MIB
    let v := h.vit.shrinkAt
    let v := min q (if v ≤ floor then v else max floor (v - fget h .east VIT_SHRINK_STEP_MIB))
    fset { h with vit := { h.vit with shrinkAt := v } } .east VIT_QUOTA_NOW_QUOTA_MIB v
  else fset { h with vit := { h.vit with restoring := false } } .east VIT_QUOTA_NOW_QUOTA_MIB q

/-- SHRINK_START by a register write. -/
def shrinkStartCmd (h : Head) (ini : Initiator) (w : Wing) : Head := withWrite h ini (pg .vit w) 0x040 (fun h => shrinkStart h w)

/-- SHRINK_RESTORE by a register write. -/
def shrinkRestoreCmd (h : Head) (ini : Initiator) (w : Wing) : Head := withWrite h ini (pg .vit w) 0x040 shrinkRestore

/-- The write has waited for the quota for 1,024 frames, and that is not reported yet (R148). -/
def longWait (h : Head) (c : HostCmd) : Bool :=
  !c.overLong && (match c.overSince with
    | some f => decide (f + 1024 ≤ frameCount h)
    | none => false)

/-- OVER_QUOTA_LONG (R148): one raise for each write whose wait has become long. -/
def overQuotaLong (h : Head) : Head :=
  let l := h.foy.waiting.filter (longWait h)
  let h := { h with foy := { h.foy with waiting := h.foy.waiting.map (fun c => if longWait h c then { c with overLong := true } else c) } }
  foldHead h l (fun h _ => raiseCounted h .east Ev.VIT_OVER_QUOTA)

/-! ### Retained content, and slots lost (R177, R178) -/

/-- The versions of a list, the newest of each granule (R173 step 3). -/
def newestOnly (l : List Slot) : List Slot :=
  l.filter (fun s => !isPairDirty s.st || l.all (fun x =>
    !(isPairDirty x.st && x.nsid == s.nsid && x.granule == s.granule && decide (seqNum s.wseq < seqNum x.wseq))))

/-- Slots that pass a test turned into DIRTY, the newest of each granule kept, both sequences raised (R144, R173 step 3). -/
def adoptSlots (h : Head) (p : Slot → Bool) : Head :=
  let seqs := (h.vit.slots.filter (fun s => p s && isPairDirty s.st)).map (·.wseq)
  let h := foldHead h seqs raiseSeq
  setSlots h (newestOnly (h.vit.slots.map (fun s =>
    if p s && isPairDirty s.st then { s with st := .dirty, committed := true, retained := false } else s)))

/-- VIT_RETAIN cleared once retained content is adopted or freed. -/
def clearRetained (h : Head) : Head :=
  foldHead { h with vit := { h.vit with retained := false } } wings (fun h w =>
    fset (fset h w VIT_RETAIN_RETAINED 0) w VIT_RETAIN_RETAINED_MIB 0)

/-- The effect of ADOPT (R177): outside SOLO it is ignored and raises CONFIG. -/
def adoptEffect (h : Head) (src : Nat) (w : Wing) : Head :=
  if pairState h ≠ 0 then config h (pg .vit w) ⟨11, src, true, pageAddr (pg .vit w) + 0x068⟩
  else if h.vit.retained then clearRetained (adoptSlots h (·.retained))
  else h

/-- Retained slots freed (R175, R177), and none that has been written since. -/
def discardRetained (h : Head) : Head := if h.vit.retained then clearRetained (freeSlots h (·.retained)) else h

/-- ADOPT (R177). -/
def retainAdopt (h : Head) (ini : Initiator) (w : Wing) : Head :=
  withWrite h ini (pg .vit w) 0x068 (fun h => adoptEffect h (sourceCode ini) w)

/-- DISCARD (R177). -/
def retainDiscard (h : Head) (ini : Initiator) (w : Wing) : Head := withWrite h ini (pg .vit w) 0x068 discardRetained

/-- A slot that SLOT_ECC takes held a version that no peer has (R178): its command fails. -/
def slotLost (h : Head) (s : Slot) : Head :=
  if !isOwnDirty s.st then h
  else if h.vit.toMirror.contains (s.wing, s.wseq) then
    { h with foy := { h.foy with cmds := tabMap h.foy.cmds (fun _ c =>
      if c.cap.nsid = s.nsid ∧ c.placed.contains (s.granule, s.wseq) then { c with failed := some .mediaFail } else c) } }
  else if hasPeer h then { h with vit := { h.vit with lost := h.vit.lost ++ [(s.nsid, s.granule, s.wseq)] } }
  else h

/-- SLOT_ECC (R178): the slot is retired. The peer's copy of a version comes back by resilver. -/
def slotEcc (h : Head) (w : Wing) (nsid granule seq : Nat) : Head :=
  let hit (s : Slot) : Bool := s.wing == w && isVersion nsid granule seq s
  match h.vit.slots.find? hit with
  | none => h
  | some s =>
    let h := freeSlots (slotLost h s) hit
    raise { h with vit := if w = .east then { h.vit with retiredE := h.vit.retiredE + 1 }
                          else { h.vit with retiredW := h.vit.retiredW + 1 } } w Ev.VIT_SLOT_ECC

end Sys2Proof.Machine
end

