-- ==== Sys2Proof/Machine/Annex.lean ====
section
/-! DEFINITION. The Annex and the pair (R149 to R176, R518): the coherence stream, forwarding, heartbeats and leases, takeover,
joining, give-back. -/

namespace Sys2Proof.Machine

open Reg

/-! ### The coherence stream (R165, R166, R191, R311) -/

/-- A hall change (R311). -/
def isHallEntry (e : CatEntry) : Bool := e.nsid == 0xFFFFFFFF

/-- The peer's checkpoint marker (R191): the journal is trimmed of that owner's entries, and the checkpoint is the one its pages are read
through. -/
def peerMarker (h : Head) (e : CatEntry) : Head :=
  raiseSerial (syncJournal { h with cat := { h.cat with
    journal := h.cat.journal.filter (fun j => !isPeerEntry j)
    peerCkpt := some (e.granule, e.newLoc) } }) e.newLoc

/-- A namespace change of the stream (R191): create, delete or resize; none where the old size differs. -/
def applyNsChange (h : Head) (e : CatEntry) : Option Head :=
  match nsGet? h e.nsid with
  | none =>
    if e.oldLoc ≠ 0 then none
    else some (addNs h (newNs e.nsid (e.wseq % 2 ^ 32) e.newLoc false (!(e.wseq % 2 ^ 32).testBit 28)))
  | some n =>
    if e.oldLoc ≠ n.size then none
    else if e.newLoc = 0 then some (removeNs h e.nsid)
    else some (nsUpd h e.nsid (fun n => { n with size := e.newLoc }))

/-- A granule's entry (R165): a version applied before changes nothing (R157); else it is applied where the map holds the old locator; the MIRROR slot it names is freed, the sequences and the
serial counter are raised (R144, R257), and the serial is committed (R265). -/
def applyGranule (h : Head) (e : CatEntry) : Option Head :=
  match nsGet? h e.nsid with
  | none => none
  | some n =>
    if e.wseq ≠ 0 ∧ h.vit.appliedSeqs.contains (e.nsid, e.granule, e.wseq) = true then some h
    else if mapGet n e.granule ≠ e.oldLoc then none
    else
      let h := if e.wseq = 0 then h
        else { h with vit := { h.vit with appliedSeqs := h.vit.appliedSeqs ++ [(e.nsid, e.granule, e.wseq)] } }
      let h := if isMove e then moveInNs (markDirty h e.nsid (e.granule / 512)) e.nsid e.oldLoc e.newLoc
        else mapPut h e.nsid e.granule e.newLoc false
      let h := if e.wseq = 0 then h
        else raiseSeq (freeSlots h (fun s => s.st == .mirror && isVersion e.nsid e.granule e.wseq s)) e.wseq
      let h := raiseSerial h e.newLoc
      some (match serialHall h (locSerial e.newLoc) with
        | some r => if r.st = 1 then commitSerial h (locSerial e.newLoc) else h
        | none => h)

/-- One entry of a CAT_UPDATE applied, or none where it does not match. -/
def applyEntry (h : Head) (e : CatEntry) : Option Head :=
  if isHallEntry e then some (applyHallEntry h e)
  else if e.nsid = 0 then some (peerMarker h e)
  else if e.granule = nsChange then applyNsChange h e
  else if e.flags.testBit 1 then
    some (if e.oldLoc = 1 then dropEdition h e.nsid e.granule else addEdition h e.nsid e.granule)
  else applyGranule h e

/-- What the owner's index gains and loses by an entry (R195, R207, R209), as the map stands before it is applied. -/
def refChanges (h : Head) (e : CatEntry) : List RefChange :=
  match nsGet? h e.nsid with
  | none => []
  | some n =>
    if isHallEntry e then []
    else if e.granule = nsChange then
      (if e.newLoc = 0 then ((leafVersions n).map (fun lf => lf.ents.map (fun x => .down x.2))).flatten else [])
    else if e.flags.testBit 1 then
      (if e.oldLoc = 1 then (match editionOf n e.granule with
        | some d => ((ownLeaves n d).map (fun lf => lf.ents.map (fun x => .down x.2))).flatten
        | none => []) else [])
    else if isMove e then [.move e.oldLoc e.newLoc]
    else if leafShared n (e.granule / 512) then
      ((tabDel ((tabGet? n.leaves (e.granule / 512)).getD ⟨0, []⟩).ents (e.granule % 512)).map (fun x => .up x.2)) ++ [.up e.newLoc]
    else [.up e.newLoc, .down e.oldLoc]

/-- An entry applied and recorded in the journal (R189): markers are not. -/
def applyOne (o : Option (Head × List JournalEntry)) (e : CatEntry) : Option (Head × List JournalEntry) :=
  o.bind (fun x => (applyEntry x.1 e).map (fun h => (h, if e.nsid = 0 then x.2 else x.2 ++ [.update false e (refChanges x.1 e)])))

/-- A CAT_UPDATE applied whole, with what the journal records of it, or none. -/
def applyAll (h : Head) (es : List CatEntry) : Option (Head × List JournalEntry) := es.foldl applyOne (some (h, []))

/-- Halls of an update that the peer has reclaimed. -/
def reclaimedIn (es : List CatEntry) : List Nat :=
  (es.filter (fun e => isHallEntry e && e.flags % 16 == 5)).map (fun e => e.granule % 2 ^ 24)

/-- CAT_ACKs held for reads of reclaimed halls, sent once those reads have completed (R311). -/
def releaseAcks (h : Head) : Head :=
  let ready (a : Wing × Nat × List Nat) : Bool := a.2.2.all (fun n => !readsHall h n)
  let l := h.vit.ackWait
  foldHead { h with vit := { h.vit with ackWait := l.filter (fun a => !ready a) } } (l.filter ready)
    (fun h a => anxPut h a.1 a.2.1 0 (.catAck .done))

/-- An entry of a CAT_UPDATE carries a write sequence: it is of a granule, not of a hall, a checkpoint, a namespace or an edition
(R156, R191, R311). -/
def carriesSeq (e : CatEntry) : Bool :=
  !isHallEntry e && e.nsid != 0 && e.granule != nsChange && !e.flags.testBit 1 && e.wseq != 0

/-- CAT_UPDATE (R144, R157, R165, R166): both sequences raised; applied whole and acknowledged once, or CHECK_FAIL with
COHERENCE_FAULT. One sent again while its acknowledgement is held (R311) is answered with it. -/
def catUpdateMsg (h : Head) (port : Wing) (mtag coll : Nat) (es : List CatEntry) : Head :=
  if !inPair h then h
  else if h.vit.applied.contains mtag then
    (if h.vit.ackWait.any (fun a => a.2.1 == mtag) then h else anxPut h port mtag coll (.catAck .done))
  else
    let h := foldHead h (es.filter carriesSeq) (fun h e => raiseSeq h e.wseq)
    match applyAll h es with
    | none => anxPut (raise h port Ev.ANX_COHERENCE_FAULT) port mtag coll (.catAck .checkFail)
    | some (h, l) =>
      let h := journalAdd h l
      let h := { h with vit := { h.vit with applied := h.vit.applied ++ [mtag] } }
      let halls := (reclaimedIn es).filter (readsHall h)
      if halls = [] then anxPut h port mtag coll (.catAck .done)
      else { h with vit := { h.vit with ackWait := h.vit.ackWait ++ [(port, mtag, halls)] } }

/-- CAT_ACK (R165, R166). -/
def catAckMsg (h : Head) (mtag : Nat) (st : Status) : Head :=
  match unackedOf h mtag with
  | some u => match u.body with
    | .catUpdate es =>
      let h := dropUnacked h mtag
      if st = .done then freeUpdated h es
      else foldHead h es (fun h e => nsUpd h e.nsid (fun n => { n with accStop := true }))
    | _ => h
  | none => h

/-! ### Forwarding (R107, R113, R164) -/

/-- Why the owner refuses a FORWARD, if it does (R107, R164, R170, R500). -/
def forwardRefusal (h : Head) (c : Capsule) : Option NvmeStatus :=
  match nsGet? h c.nsid with
  | none => some ⟨0, 0x0B, true⟩
  | some n =>
    if !n.owned || inDump h || pairState h == 7 then some anaInaccessible
    else if n.changing then some anaChange
    else none

/-- A FORWARD answered without being run, and the answer kept (R107). -/
def answerForward (h : Head) (f : FwdReq) (st : NvmeStatus) : Head :=
  let b := AnxBody.forwardResp st [] []
  anxPut { h with vit := { h.vit with answered := h.vit.answered ++ [(f.mtag, b)] } } f.port f.mtag f.coll b

/-- The command that runs a FORWARD. -/
def forwardedCmd (f : FwdReq) : HostCmd := { newCmd f.cap f.coll false with data := f.data, via := some (f.port, f.mtag) }

/-- A forwarded command begun under its host tag (R94): the owner places a write's granules at once (R164), and answers what can be
answered. A read goes on as a host's read does. -/
def runForward (h : Head) (key : Nat) (c : Capsule) : Head :=
  let h := if isWrite c.op then foldHead h (List.range c.count) (fun h i => placeGranule h key i) else h
  completeCmd h key .done

/-- A forwarded command waits: for the same fused pair, a fused record or a range (R91, R106), or for a give-back's OWNERSHIP (R176). -/
def forwardWaits (h : Head) (c : Capsule) : Bool :=
  fusedWaits h c || rangeLocked h c || (h.vit.batchSent && h.vit.batch.contains c.nsid)

/-- A FORWARD begun, refused, or answered from a fused record (R106); none where it waits, for a host tag among other things (R94). -/
def startForward (h : Head) (f : FwdReq) : Option Head :=
  match forwardRefusal h f.cap with
  | some st => some (answerForward h f st)
  | none =>
    let w := homeOf h f.cap.nsid
    match (if f.cap.op = .compareWrite then fusedOf h f.cap else none) with
    | some r => some (raise (answerForward h f (fusedStatus r)) w Ev.FOQ_FUSED_REPLAY)
    | none =>
      if forwardWaits h f.cap then none
      else (freeTag h w).map (fun t => runForward (takeTag h w t (forwardedCmd f)) (tagKey w t) f.cap)

/-- The FORWARDs that can begin do, in the order they came. -/
def admitForwards (h : Head) : Head :=
  let l := h.vit.forwards
  foldHead { h with vit := { h.vit with forwards := [] } } l (fun h f => match startForward h f with
    | some h => h
    | none => { h with vit := { h.vit with forwards := h.vit.forwards ++ [f] } })

/-- A FORWARD with this MTAG waits or runs. -/
def forwardHeld (h : Head) (mtag : Nat) : Bool :=
  h.vit.forwards.any (fun f => f.mtag == mtag) || h.foy.cmds.any (fun e => match e.2.via with
    | some v => v.2 == mtag
    | none => false)

/-- FORWARD (R107, R164): executed once. One already answered is answered again; one the head holds is not taken twice. -/
def anxForward (h : Head) (port : Wing) (mtag coll : Nat) (c : Capsule) (data : List Nat) : Head :=
  if !inPair h then h
  else match h.vit.answered.find? (fun a => a.1 == mtag) with
    | some a => anxPut h port mtag coll a.2
    | none =>
      if forwardHeld h mtag then h
      else admitForwards { h with vit := { h.vit with forwards := h.vit.forwards ++ [⟨port, mtag, coll, c, data⟩] } }

/-- HOST_COMPLETION (R91, R108): with the host tag that it may free, a FORWARD that waits for one begins. -/
def hostCompletion (h : Head) (w : Wing) (fin : HostEnd) : Head := admitForwards (hostEnd h w fin)

/-- Commands that run for a peer that has gone end without an answer. -/
def dropForwards (h : Head) : Head :=
  let h := { h with vit := { h.vit with forwards := [] } }
  foldHead h (h.foy.cmds.filter (fun e => e.2.via.isSome)) (fun h e => freeHostTag h e.1)

/-- A STAGING slot of a forwarded write becomes MIRROR with the owner's sequence, or goes where a newer copy is held already (R144,
R164). -/
def stageToMirror (h : Head) (key nsid granule seq : Nat) : Head :=
  let newer := h.vit.slots.any (fun s => s.st == .mirror && isGranule nsid granule s && decide (seqNum seq ≤ seqNum s.wseq))
  let mine (s : Slot) : Bool := s.st == .staging && isVersion nsid granule key s
  if newer then freeSlots h mine
  else
    let l := h.vit.slots.filter (fun s => !(isGranule nsid granule s && (s.st == .mirror || s.st == .clean)))
    setSlots h (l.map (fun s => if mine s then { s with st := .mirror, wseq := seq, committed := true } else s))

/-- The STAGING slots of a forwarded write become MIRROR with the owner's sequences (R164). -/
def stagingToMirror (h : Head) (key : Nat) (c : Capsule) (wseqs : List Nat) : Head :=
  foldHead (foldHead h wseqs raiseSeq) (List.range c.count) (fun h i => stageToMirror h key c.nsid (c.slba + i) (wseqs.getD i 0))

/-- A forwarded command's staging slots returned to FREE. -/
def dropStaging (h : Head) (key : Nat) : Head := freeSlots h (fun s => s.st == .staging && s.wseq == key)

/-- The owner refused the command: its status is of the path (R110, R113). -/
def refused (st : NvmeStatus) : Bool := st.sct == 3

/-- FORWARD_RESP (R164): the record is written, and the command completes to the host. FORWARD_FAIL is raised where the command was
refused (R113), not where it ended with a status of its own. -/
def forwardRespMsg (h : Head) (mtag : Nat) (st : NvmeStatus) (wseqs data : List Nat) : Head :=
  match h.foy.cmds.find? (fun e => e.2.mtag == some mtag) with
  | none => h
  | some (key, c) =>
    let h := dropUnacked h mtag
    if isSuccess st then
      let h := if isWrite c.cap.op then stagingToMirror h key c.cap wseqs else h
      finishCmd (recordFused h c st) key c st data
    else
      let h := dropStaging h key
      let h := if refused st then raise h c.cap.wing Ev.FOQ_FORWARD_FAIL else h
      finishCmd (recordFused h c st) key c st []

/-! ### Pair states (R158, R167 to R173) -/

/-- Whether this head still owns a namespace, and whether the peer does. -/
def ownsAny (h : Head) : Bool := h.cat.nss.any (fun e => e.2.owned)
def peerOwnsAny (h : Head) : Bool := h.cat.nss.any (fun e => !e.2.owned)

/-- The pair's fields in a HEARTBEAT (R156). -/
def heartbeatBody (h : Head) (state : Nat) : AnxBody :=
  .heartbeat state (fget h .east MFT_NODE_NODE_ID) (fbit h .east ANX_PAIR_PREFER) (fget h .east ANX_PAIR_STATE_EPOCH)
    h.vit.renewed.length h.vit.peerExpired.length (wireCount h)

/-- A HEARTBEAT sent on every port that is up (R168). -/
def sendHeartbeat (h : Head) (state : Nat) : Head :=
  foldHead h wings (fun h w => if anxUp h w then
      let (t, h) := takeMtag h w
      anxPut h w t 0 (heartbeatBody h state)
    else h)

/-- A command that was to be forwarded runs on this head (R158): its STAGING granules are placed as its own. A fused pair compares first,
and its granules are placed after that. -/
def localise (h : Head) (key : Nat) (c : HostCmd) : Head :=
  if !c.fwd then h
  else if c.cap.op = .compareWrite then setCmd (dropStaging h key) key { c with fwd := false, mtag := none, placed := [] }
  else
    let l := h.vit.slots.filter (fun s => s.st == .staging && s.wseq == key)
    let h := dropStaging h key
    let (h, placed) := l.foldl (fun (acc : Head × List (Nat × Nat)) s =>
      let (seq, h) := placeDirty acc.1 s.nsid s.granule s.data c.coll true
      (h, acc.2 ++ [(s.granule, seq)])) (h, [])
    setCmd h key { c with fwd := false, mtag := none, placed := placed }

/-- Commands that wait for admission take the owner their namespaces have now (R176). -/
def retarget (h : Head) : Head :=
  { h with foy := { h.foy with waiting := h.foy.waiting.map (fun c =>
    match nsGet? h c.cap.nsid with
    | some n => { c with fwd := !n.owned }
    | none => c) } }

/-- The unanswered messages of a head that settles in SOLO (R158): mirrored granules complete, updates count as acknowledged,
forwarded commands run here. The memories of answered and applied messages end with the pair (DESIGN CHOICE). -/
def settleSolo (h : Head) : Head :=
  let l := h.vit.unacked
  let h := { h with vit := { h.vit with unacked := [], refused := [], answered := [], applied := [], appliedSeqs := [] } }
  let h := foldHead h l (fun h u => match u.body with
    | .catUpdate es => freeUpdated h es
    | _ => h)
  let h := retarget (dropForwards (commitAll h))
  foldHead h h.foy.cmds (fun h e => localise h e.1 e.2)

/-- The commands that wait end with Asymmetric Access Inaccessible (R170, R172): those not admitted at once, the admitted ones at
their completion. -/
def failWaiting (h : Head) : Head :=
  let l := h.foy.waiting
  let h := { h with foy := { h.foy with
    waiting := []
    cmds := tabMap h.foy.cmds (fun _ c => { c with inaccessible := true }) } }
  foldHead h l (fun h c => endCapsule h c.cap anaInaccessible)

/-- The head enters STOPPED (R158, R170, R172, R518). The STAGING slots of the FORWARDs that fail are FREE (R164). -/
def enterStopped (h : Head) : Head :=
  let h := { h with vit := { h.vit with unacked := [], refused := [], giveback := [], batch := [], batchSent := false, leaving := false } }
  failWaiting (setPair (freeSlots (dropForwards h) (fun s => s.st == .staging)) 7)

/-- Claims sent to every present witness register (R173 step 1). -/
def sendClaims (h : Head) : Head :=
  foldHead h (upPlinths h) (fun h n =>
    plkMgmt h n { emptyCmd 0x0A true with epoch := fget h .east ANX_PAIR_STATE_EPOCH } .claim)

/-- A count reaches the quorum (R169). -/
def quorum (h : Head) (l : List Nat) : Bool := decide (fget h .east ANX_WITNESS_QUORUM ≤ l.length) && decide (0 < l.length)

/-- TAKEOVER starts when the heartbeat is lost and the peer's lease has expired in a quorum (R171); after a LEAVE the claims are
written when the leaver's lease has expired (R518). -/
def checkTakeover (h : Head) : Head :=
  if inDump h then h
  else if pairState h = 4 ∧ h.vit.hbLost ∧ quorum h h.vit.peerExpired then
    sendClaims (raise (setPair { h with vit := { h.vit with claims := [] } } 5) .east Ev.ANX_TAKEOVER_START)
  else if h.vit.claimDue ∧ quorum h h.vit.peerExpired then
    sendClaims { h with vit := { h.vit with claimDue := false, claims := [] } }
  else h

/-- HEARTBEAT_LOSS (R168, R171). -/
def heartbeatLoss (h : Head) : Head :=
  if pairState h = 2 ∨ pairState h = 3 then
    let h := { h with vit := { h.vit with hbLost := true, suspectFrom := pairState h, peerExpired := [] } }
    checkTakeover (raise (setPair h 4) .east Ev.ANX_HB_LOST)
  else h

/-- HEARTBEAT_SEND (R168): none in Dump (R500). -/
def heartbeatSend (h : Head) : Head := if inDump h then h else sendHeartbeat h (pairState h)

/-- Lease renewals (R169), with LEASE_FAULT where an earlier witness command has had no completion (R178). -/
def leaseRenew (h : Head) : Head :=
  if h.vit.noRenew ∨ pairState h = 7 then h
  else
    let late := h.plk.ops.any (fun o => o.purpose == .renew || o.purpose == .poll)
    let h := if late then raise h .east Ev.ANX_LEASE_FAULT else h
    let c := { emptyCmd 0x08 true with
      epoch := fget h .east ANX_PAIR_STATE_EPOCH
      arg := fget h .east ANX_LEASE_LEASE_US }
    foldHead h (upPlinths h) (fun h n => plkMgmt h n c .renew)

/-- A renewal's completion (R169, R178). -/
def renewDone (h : Head) (n : Nat) (st : Status) : Head :=
  let ok := decide (st = .done)
  let h := { h with vit := { h.vit with renewed := setIn h.vit.renewed n ok } }
  let h := fset h .east ANX_WITNESS_OWN_LIVE h.vit.renewed.length
  let h := plkSet h n PLK_WITNESS_OWN_LIVE (ofBool ok)
  if ok then h else raise h .east Ev.ANX_LEASE_FAULT

/-- One 32-bit word of a WITNESS_READ's data: both entries, port 0 first, HOLDER, EPOCH and EXPIRY each (R293). -/
def witWord (data port k : Nat) : Nat := data >>> (32 * (3 * port + k)) % 2 ^ 32

/-- A WITNESS_READ's completion (R171, R303). -/
def pollDone (h : Head) (n : Nat) (st : Status) (data : Nat) : Head :=
  if st ≠ .done then
    let h := { h with vit := { h.vit with peerExpired := setIn h.vit.peerExpired n false } }
    raise (fset h .east ANX_WITNESS_PEER_EXPIRED h.vit.peerExpired.length) .east Ev.ANX_LEASE_FAULT
  else
    let me := plkGet h n PLK_STATUS_BRIDGE_PORT
    let peer := witWord data (1 - me) 0
    let own := witWord data me 0
    let expired := peer.testBit 28 || !peer.testBit 31
    let h := { h with vit := { h.vit with peerExpired := setIn h.vit.peerExpired n expired } }
    let h := fset h .east ANX_WITNESS_PEER_EXPIRED h.vit.peerExpired.length
    let h := plkSet h n PLK_WITNESS_PEER_EXPIRED (ofBool expired)
    let h := plkSet h n PLK_WITNESS_CLAIMED (ofBool (own.testBit 30))
    let h := plkSet h n PLK_WITNESS_OWN_EXPIRY (witWord data me 2)
    checkTakeover (plkSet h n PLK_STATUS_FENCED_BY_CLAIM (ofBool (own.testBit 29)))

/-- A WITNESS_CLAIM's completion (R173). -/
def claimDone (h : Head) (n : Nat) (st : Status) : Head :=
  let ok := decide (st = .done)
  let h := { h with vit := { h.vit with claims := setIn h.vit.claims n ok } }
  plkSet h n PLK_WITNESS_CLAIMED (ofBool ok)

/-- LEASE_LAPSE (R170). -/
def leaseLapse (h : Head) : Head :=
  if pairState h = 7 then h else enterStopped (raise h .east Ev.ANX_LEASE_FAULT)

/-- WITNESS_POLL (R171), in SUSPECT, and after a LEAVE until the claims are written (R518). -/
def witnessPoll (h : Head) : Head :=
  if pairState h = 4 ∨ h.vit.claimDue then
    checkTakeover (foldHead h (upPlinths h) (fun h n => plkMgmt h n (emptyCmd 0x09 true) .poll))
  else h

/-- A head with no peer: SOLO. -/
def enterSolo (h : Head) : Head :=
  settleSolo (setPair { h with vit := { h.vit with hbLost := false, giveback := [], batch := [], batchSent := false } } 0)

/-- The rows of the peer's filling halls that the serial map holds as assigned, marked for resynchronisation (R173 step 5, R265). -/
def markResync (h : Head) (mine : Bool) : Head :=
  let rows := h.cur.serials.filter (fun e => e.2.st == 1 && (match tabGet? h.cur.halls e.2.hall with
    | some x => x.mine == mine && x.st == 0
    | none => false))
  let h := { h with gal := { h.gal with resync := h.gal.resync ++ rows.map (fun e => (e.2.hall, e.2.row)) } }
  let h := fset h .east GAL_RESYNC_LEFT h.gal.resync.length
  fset h .east GAL_RESYNC_RUNNING 1

/-- Ownership of namespaces taken (R173 step 4, R176): the serial counter rises by 1,024 first (R257). -/
def takeNamespaces (h : Head) (p : Namespace → Bool) : Head :=
  let h := { h with cat := { h.cat with nss := tabMap h.cat.nss (fun _ n =>
    if p n then { n with owned := true, changing := false } else n) } }
  retarget h

/-- The index of the peer's collections as its latest checkpoint holds it, from which the replay goes on (R192). -/
def takePeerIndex (h : Head) : Head :=
  match h.cat.peerCkpt with
  | none => h
  | some (_, loc) =>
    let s := Config.peerCatalogue loc
    let colls := (((h.cat.nss.map (·.2)).filter (fun n => !n.owned)).map (·.coll)).eraseDups
    foldHead h colls (fun h c =>
      let h := { h with cat := { h.cat with bucketPages := tabPut h.cat.bucketPages c (tabGet s.bucketPages [] c) } }
      setIndex h c (tabGet s.index [] c))

/-- TAKEOVER (R173), once claims stand in a quorum: the role at the next tick, MIRROR slots adopted, the namespaces taken, the
peer's open ring marked, SOLO. -/
def takeover (h : Head) (micros : Nat) : Head :=
  if pairState h ≠ 5 ∨ !quorum h h.vit.claims ∨ inDump h then h
  else
    let h := { h with frm := { h.frm with masterDue := true } }
    let h := setSerialCounter h (serialCounter h + 1024)
    let h := adoptSlots h (fun s => s.st == .mirror)
    let h := takePeerIndex { h with cat := { h.cat with replaying := true } }
    let h := takeNamespaces h (fun _ => true)
    let h := markResync h false
    let h := enterSolo h
    raise (fset h .east ANX_TAKEOVER_US_MICROS (min micros 65535)) .east Ev.ANX_TAKEOVER_DONE

/-- ISOLATE_TIMEOUT (R172): with the peer's lease live in a quorum. PREFER 1 stays in SUSPECT. -/
def isolateTimeout (h : Head) : Head :=
  let live := fget h .east ANX_WITNESS_PRESENT - h.vit.peerExpired.length
  if pairState h = 4 ∧ fget h .east ANX_WITNESS_QUORUM ≤ live then
    let h := raise h .east Ev.ANX_ISOLATED
    if fbit h .east ANX_PAIR_PREFER then h
    else enterStopped { (setPair h 6) with vit := { h.vit with noRenew := true } }
  else h

/-! ### Joining (R175) -/

/-- The head that serves at a JOIN: it is in service, SOLO with its plinths mounted, and owns a namespace; where there is none, the
preferred head (DEDUCED: the spec names no test). -/
def serves (h : Head) : Bool :=
  pairState h == 0 && h.cur.mounted && (ownsAny h || (h.cat.nss == [] && fbit h .east ANX_PAIR_PREFER))

/-- The serving head's copy of its dirty slots, and of its updates since its last checkpoint (R175 steps 2 and 3). -/
def startResilver (h : Head) : Head :=
  let h := setPair h 2
  let ups := h.cat.journal.filterMap (fun j => match j with
    | .update true e _ => some e
    | _ => none)
  let h := foldHead h (piecesOf 4096 ups.length ups) (fun h es => (anxRequest h .east 0 (.catUpdate es)).2)
  foldHead h wings (fun h w =>
    let l := (h.vit.slots.filter (fun s => s.wing == w && isOwnDirty s.st)).map entryOf
    foldHead h (piecesOf 4 l.length l) (fun h es =>
      (anxRequest h w ((es.map (fun e => e.label.coll)).headD 0) (.resilver es)).2))

/-- A HEARTBEAT while JOINING (R172, R175), from a peer that forms the pair too: equal PREFERs form no pair; the epoch is taken once;
the joiner is joined when its peer shows MIRRORED. -/
def joinHeartbeat (h : Head) (state : Nat) (prefer : Bool) (epoch : Nat) : Head :=
  if state = 0 ∨ 3 < state then h
  else if prefer = fbit h .east ANX_PAIR_PREFER then configMsg (setPair h 0) .east .anx
  else if !h.vit.joined then
    let h := fset h .east ANX_PAIR_STATE_EPOCH ((max epoch (fget h .east ANX_PAIR_STATE_EPOCH) + 1) % 65536)
    let h := leaseRenew { h with vit := { h.vit with joined := true } }
    if h.vit.serving then startResilver h else h
  else if state = 3 then raise (setPair h 3) .east Ev.ANX_PEER_JOINED
  else h

/-- HEARTBEAT (R168, R175, R518). -/
def heartbeatMsg (h : Head) (state : Nat) (prefer : Bool) (epoch : Nat) : Head :=
  if pairState h = 0 ∨ pairState h = 7 then h
  else if state = 7 then
    if peerOwnsAny h ∨ pairState h = 1 then h
    else
      let h := enterSolo h
      { h with vit := { h.vit with claimDue := true, peerExpired := [] } }
  else
    let h := { h with vit := { h.vit with hbLost := false } }
    match pairState h with
    | 1 => joinHeartbeat h state prefer epoch
    | 4 | 6 => setPair h h.vit.suspectFrom
    | _ => h

/-- What a joining head holds of its own given up: retained content, and the Catalogue, which is loaded from flash (R175 step 2). -/
def joinerStart (h : Head) : Head :=
  let h := discardRetained h
  let (k, h) := fresh h
  let s := Config.joinCatalogue k
  curUpd { h with cat := { h.cat with
    nss := s.nss
    index := s.index
    bucketPages := s.bucketPages
    dirtyPages := []
    dirtyBuckets := []
    resident := [] } } (fun c => { c with
    blocks := s.blocks
    halls := s.halls
    serials := s.serials })

/-- The effect of JOIN (R175), in SOLO or STOPPED. -/
def joinEffect (h : Head) (src : Nat) : Head :=
  if pairState h ≠ 0 ∧ pairState h ≠ 7 then config h (pg .anx .east) ⟨11, src, true, pageAddr (pg .anx .east) + 0x04C⟩
  else
    let serving := serves h
    let h := setPair { h with vit := { h.vit with
      joined := false, serving := serving, noRenew := false, hbLost := false, leaving := false, answered := [], applied := []
      appliedSeqs := [] } } 1
    if serving then h else joinerStart h

/-- RESILVER_DONE (R175 step 4). -/
def resilverDone (h : Head) : Head :=
  if pairState h = 2 ∧ h.vit.unacked.all (fun u => match u.body with
      | .resilver _ => false
      | _ => true) then
    raise (setPair h 3) .east Ev.ANX_PEER_JOINED
  else h

/-! ### Give-back and leaving (R176, R518) -/

/-- The first collections of a list of namespaces, whole, up to 64 namespaces. -/
def takeBatch (h : Head) (l : List Nat) : List Nat :=
  let colls := (l.filterMap (fun n => (nsGet? h n).map (·.coll))).eraseDups
  colls.foldl (fun acc c =>
    let g := l.filter (fun n => (match nsGet? h n with
      | some x => x.coll == c
      | none => false))
    if acc.length + g.length ≤ 64 then acc ++ g else acc) []

/-- The last batch is done: GIVEBACK_DONE, or the end of a LEAVE. -/
def endGive (h : Head) : Head :=
  if h.vit.leaving then
    let h := sendHeartbeat h 7
    enterStopped { h with vit := { h.vit with noRenew := true } }
  else raise h .east Ev.ANX_GIVEBACK_DONE

/-- The next batch: its admission is held (R176). -/
def nextBatch (h : Head) : Head :=
  let b := takeBatch h h.vit.giveback
  let h := { h with vit := { h.vit with
    batch := b
    batchSent := false
    giveback := h.vit.giveback.filter (fun n => !b.contains n) } }
  if b = [] then endGive h else h

/-- The effect of GIVEBACK (R176): outside MIRRORED it is ignored and raises CONFIG. A collection goes whole (R183) where a namespace of it
names the peer as preferred owner. -/
def givebackEffect (h : Head) (src : Nat) : Head :=
  if pairState h ≠ 3 then config h (pg .anx .east) ⟨11, src, true, pageAddr (pg .anx .east) + 0x04C⟩
  else if h.vit.batch ≠ [] then h
  else nextBatch { h with vit := { h.vit with
    giveback := (h.cat.nss.filter (fun e => e.2.owned && (nsOfColl h e.2.coll).any (fun n => !n.prefThis))).map (fun e => e.2.nsid) } }

/-- The effect of LEAVE (R518). -/
def leaveEffect (h : Head) (src : Nat) : Head :=
  if pairState h ≠ 3 then config h (pg .anx .east) ⟨11, src, true, pageAddr (pg .anx .east) + 0x04C⟩
  else nextBatch { h with vit := { h.vit with
    leaving := true
    giveback := (h.cat.nss.filter (fun e => e.2.owned)).map (fun e => e.2.nsid) } }

/-- A pair command written to ANX_PAIR_CMD; on ANX.W the register is read-only (R180). -/
def pairCmd (h : Head) (ini : Initiator) (w : Wing) (f : Head → Nat → Head) : Head :=
  withWrite h ini (pg .anx w) 0x04C (fun h => if w = .west then h else f h (sourceCode ini))

/-- GIVEBACK_BATCH (R176): the batch's commands in flight have completed, and OWNERSHIP goes to the peer. -/
def givebackBatch (h : Head) : Head :=
  if h.vit.batch = [] ∨ h.vit.batchSent ∨ h.foy.cmds.any (fun e => h.vit.batch.contains e.2.cap.nsid) then h
  else (anxRequest { h with vit := { h.vit with batchSent := true } } .east 0 (.ownership true h.vit.batch)).2

/-- OWNERSHIP (R176, R257, R518): the receiver's namespaces, and its MIRROR slots of them become DIRTY. -/
def ownershipMsg (h : Head) (port : Wing) (mtag coll : Nat) (give : Bool) (nsids : List Nat) : Head :=
  if !inPair h then h
  else
    let h := if give then
        let h := setSerialCounter h (serialCounter h + 1024)
        let h := takeNamespaces h (fun n => nsids.contains n.nsid)
        adoptSlots h (fun s => s.st == .mirror && nsids.contains s.nsid)
      else retarget (foldHead h nsids (fun h k => nsUpd h k (fun n => { n with owned := false })))
    anxPut h port mtag coll (.ownershipAck .done)

/-- What the giving head does with its DIRTY slots of the namespaces it has given: at a LEAVE they are freed (R518); at a GIVEBACK they
are the mirror of what the receiver now holds as DIRTY (R142, R176). -/
def giveSlots (h : Head) (ns : List Nat) : Head :=
  let mine (s : Slot) : Bool := isOwnDirty s.st && ns.contains s.nsid
  if h.vit.leaving then freeSlots h mine
  else setSlots h (h.vit.slots.map (fun s => if mine s then { s with st := .mirror } else s))

/-- OWNERSHIP_ACK (R176, R518): the move is complete. -/
def ownershipAckMsg (h : Head) (mtag : Nat) (st : Status) : Head :=
  match unackedOf h mtag with
  | some u => match u.body with
    | .ownership _ ns =>
      let h := dropUnacked h mtag
      if st ≠ .done then { h with vit := { h.vit with batch := [], batchSent := false, giveback := [], leaving := false } }
      else
        let h := foldHead h ns (fun h k => nsUpd h k (fun n => { n with owned := false, changing := false }))
        nextBatch (admitForwards (retarget (giveSlots h ns)))
    | _ => h
  | none => h

/-! ### The links (R149 to R155, R278) -/

/-- A wing's Annex port retrains (R155): the retrain is counted. -/
def anxRetrain (h : Head) (w : Wing) : Head := fset (fadd h w ANX_RETRAIN_COUNT_COUNT) w ANX_LINK_STATUS_TRAINING 1

/-- What a flit or timer of a wing's Annex port leads to (R154, R155): NAK, replay, an acknowledgement with what credits are owed,
retrain; and what can be sent then is. -/
def anxLinkResult (h : Head) (w : Wing) (r : FlitResult) : Head :=
  let h := setAnxLink h w r.link
  let h := if r.nak then send h (.nak w none r.link.rxNext) else h
  let h := if r.resent = [] then h
    else raise (send (fadd h w ANX_RETRY_COUNT_COUNT r.resent.length) (.replay w none r.resent)) w Ev.ANX_LINK_RETRY
  let h := if r.ack then
      let (l, m) := acknowledge anxRule (anxLink h w) w none
      send (setAnxLink h w l) m
    else h
  pumpPort (if r.retrain then raise (anxRetrain h w) w Ev.ANX_LINK_RETRAIN else h) w

/-- ANX_FLIT (R151, R152, R154, R156): a message of another type than R156's is discarded and raises CONFIG. -/
def anxFlit (h : Head) (w : Wing) (good : Bool) (ftype vc lseq acktype ackseq : Nat) (credits : List Nat) (mtype : Option Nat) : Head :=
  if !anxUp h w then h
  else
    let ok := good && decide (ftype < 4)
    let was := (anxLink h w).rxNext
    let h := anxLinkResult h w (receiveFlit (anxLink h w) ok ⟨ftype, vc, lseq, acktype, ackseq, credits⟩)
    if ok && ftype == 1 && lseq == was && mtype.any (fun m => m == 0 || decide (10 < m)) then configMsg h w .anx else h

/-- ANX_REPLAY_TIMER (R154, R155). -/
def anxReplayTimer (h : Head) (w : Wing) : Head :=
  if (anxLink h w).replay = [] ∨ fbit h w ANX_LINK_STATUS_TRAINING then h else anxLinkResult h w (replayAll (anxLink h w))

/-- A wing's messages sent again on the port they can leave by (R158). -/
def resendAll (h : Head) (p : Unacked → Bool) : Head := foldHead h (h.vit.unacked.filter p) resendMsg

/-- A message still waits on a link, by its MTAG. -/
def waitsOn (l : LinkState) (mtag : Nat) : Bool :=
  l.queue.any (fun m => match m.msg with
    | .annex _ t _ _ => t == mtag
    | _ => false)

/-- A port that goes down (R155, R158, R164): what it had begun is lost (R156); its wing's unanswered messages, and those of the other
wing that waited on it, go to the other port. With none up, forwarded commands that wait raise FORWARD_FAIL. -/
def anxDown (h : Head) (w : Wing) : Head :=
  let l := anxLink h w
  let h := setAnxLink h w l.dropped
  let h := fset (fset h w ANX_LINK_STATUS_UP 0) w ANX_LINK_STATUS_LANES 0
  let h := raise h w Ev.ANX_LINK_CHANGE
  if anxUp h (otherWing w) then pumpPort (resendAll h (fun u => u.wing == w || waitsOn l u.mtag)) (otherWing w)
  else foldHead h wings (fun h v =>
    if h.foy.cmds.any (fun e => e.2.mtag.isSome && e.2.cap.wing == v) then raise h v Ev.FOQ_FORWARD_FAIL else h)

/-- ANX_RETRAIN_TIMEOUT (R155). -/
def anxRetrainTimeout (h : Head) (w : Wing) : Head :=
  if anxUp h w && fbit h w ANX_LINK_STATUS_TRAINING then anxDown h w else h

/-- ANX_TRAINED (R150, R152, R155): the port is up; each end tells the sequence it expects next, from which the transmitter resumes: what
has not come is sent again. A port that was down grants its credits anew. 8 lanes need HALF_WIDTH_OK (R149). -/
def anxTrained (h : Head) (w : Wing) (delay lanes expected : Nat) : Head :=
  if !fbit h w ANX_CTRL_LINK_EN || !(lanes == 16 || (lanes == 8 && fbit h w ANX_CTRL_HALF_WIDTH_OK)) then h
  else
    let fresh := !anxUp h w
    let none' := wings.all (fun v => !anxUp h v)
    let changed := fresh || fget h w ANX_LINK_STATUS_LANES != lanes
    let (l, again) := (anxLink h w).trained expected
    let h := setAnxLink h w l
    let h := fset (fset h w ANX_LINK_STATUS_DELAY_NS delay) w ANX_LINK_STATUS_LANES lanes
    let h := fset (fset h w ANX_LINK_STATUS_TRAINING 0) w ANX_LINK_STATUS_UP 1
    let h := if changed then raise h w Ev.ANX_LINK_CHANGE else h
    let h := if again = [] then h
      else raise (send (fadd h w ANX_RETRY_COUNT_COUNT again.length) (.replay w none again)) w Ev.ANX_LINK_RETRY
    let h := if fresh then
        let (l, m) := grant (anxLink h w) w none
        send (setAnxLink h w l) m
      else h
    pumpPort (if none' then resendAll h (fun _ => true) else h) w

/-- ANX_TRAIN_TIMEOUT (R150): the port keeps training. -/
def anxTrainTimeout (h : Head) (w : Wing) : Head :=
  if fbit h w ANX_CTRL_LINK_EN && !anxUp h w then raise (fset h w ANX_LINK_STATUS_TRAINING 1) w Ev.ANX_LINK_CHANGE else h

/-- ANX_LANE_FAIL (R149): the port retrains at 8 lanes; where that is not permitted it goes down and trains. -/
def anxLaneFail (h : Head) (w : Wing) : Head :=
  if !anxUp h w then h
  else if fbit h w ANX_CTRL_HALF_WIDTH_OK then raise (fset (anxRetrain h w) w ANX_LINK_STATUS_LANES 8) w Ev.ANX_LINK_CHANGE
  else anxDown (fset h w ANX_LINK_STATUS_TRAINING 1) w

/-- The effect of ANX_CTRL.RETRAIN (R180), on an enabled port. While a retrain is under way it is ignored (R10). -/
def anxRetrainEffect (h : Head) (w : Wing) : Head :=
  if fbit h w ANX_CTRL_LINK_EN && !fbit h w ANX_LINK_STATUS_TRAINING then anxRetrain h w else h

/-- The effect of ANX_CTRL.CLR_STATS (R180). -/
def anxClrEffect (h : Head) (w : Wing) : Head :=
  fset (fset (fset h w ANX_COMMIT_MAX_NS 0) w ANX_RETRY_COUNT_COUNT 0) w ANX_RETRAIN_COUNT_COUNT 0

/-- A command bit of ANX_CTRL. -/
def anxCtrlCmd (h : Head) (ini : Initiator) (w : Wing) (f : Head → Wing → Head) : Head :=
  withWrite h ini (pg .anx w) 0x040 (fun h => f h w)

end Sys2Proof.Machine
end

