-- ==== Sys2Proof/Machine/Gf.lean ====
section
/-! DEFINITION. The parity arithmetic of R263: products in GF(2^8) with the polynomial 0x11D and g = 0x02, byte by byte over
panels held as one number. -/

namespace Sys2Proof.Machine

/-- The byte v in each of n bytes. -/
def everyByte (n v : Nat) : Nat := (256 ^ n - 1) / 255 * v

/-- Each of n bytes times g. -/
def gfDouble (n x : Nat) : Nat := (x &&& everyByte n 0x7F) <<< 1 ^^^ ((x >>> 7 &&& everyByte n 1) * 0x1D)

/-- Each of n bytes times a constant. -/
def gfScale (n c x : Nat) : Nat :=
  ((List.range 8).foldl (fun (acc : Nat × Nat) i => (if c.testBit i then acc.1 ^^^ acc.2 else acc.1, gfDouble n acc.2)) (0, x)).1

/-- The product of two bytes. -/
def gmul (a b : Nat) : Nat := gfScale 1 a b

/-- A byte to a power. -/
def gpow (a : Nat) : Nat → Nat
  | 0 => 1
  | k + 1 => gmul a (gpow a k)

/-- The inverse of a non-zero byte. -/
def ginv (a : Nat) : Nat := gpow a 254

/-- P over data panels (R263). -/
def parityP (d : List Nat) : Nat := d.foldl (fun a b => a ^^^ b) 0

/-- Q over n-byte data panels, panel 0 first: Horner's rule in g (R263). -/
def parityQ (n : Nat) (d : List Nat) : Nat := d.foldr (fun x acc => x ^^^ gfDouble n acc) 0

/-- The data panels with those lost read as 0. -/
def knownData (n : Nat) (d : List (Option Nat)) : List Nat := (d.map (fun x => x.getD 0)).map (fun x => x % 256 ^ n)

/-- A lost data panel from P. -/
def rebuildP (n : Nat) (d : List (Option Nat)) (p : Nat) : Nat := p ^^^ parityP (knownData n d)

/-- The lost data panel x from Q: g^(−x) · Qx. -/
def rebuildQ (n x : Nat) (d : List (Option Nat)) (q : Nat) : Nat :=
  gfScale n (ginv (gpow 2 x)) (q ^^^ parityQ n (knownData n d))

/-- The lost data panels x and y, x < y, from P and Q (R263). -/
def rebuildPQ (n x y : Nat) (d : List (Option Nat)) (p q : Nat) : Nat × Nat :=
  let px := p ^^^ parityP (knownData n d)
  let qx := q ^^^ parityQ n (knownData n d)
  let w := ginv (gpow 2 (y - x) ^^^ 1)
  let dx := gfScale n (gmul (gpow 2 (y - x)) w) px ^^^ gfScale n (gmul (ginv (gpow 2 x)) w) qx
  (dx, px ^^^ dx)

end Sys2Proof.Machine
end

