-- ==== Sys2Proof/Machine/Memory.lean ====
section
/-! DEFINITION. Physical memory (R374 to R378): reads and writes of bytes as one number, the first byte lowest (R4); what
addresses are decoded; poisoned lines (R377). -/

namespace Sys2Proof.Machine

open Reg

/-- What a byte of memory that nothing has written reads as. The spec gives no contents; 0 is the model's (DESIGN CHOICE). -/
def memDefault : BitVec 8 := 0

/-- One byte of memory. -/
def memByte (m : List Host.Cell) (a : Nat) : BitVec 8 := tabGet m memDefault a

/-- One byte of memory set. -/
def memSet (m : List Host.Cell) (a : Nat) (b : BitVec 8) : List Host.Cell := tabStore m memDefault a b

/-- The canonical form of memory: addresses strictly rising, no byte listed that an unlisted address reads as. -/
abbrev Memory.wf (m : List Host.Cell) : Prop := tabCanon (fun _ => memDefault) m = true

/-- The bytes from an address as one number. -/
def memNum (m : List Host.Cell) (a n : Nat) : Nat :=
  ((m.filter (fun c => decide (a ≤ c.1) && decide (c.1 < a + n))).map (fun c => c.2.toNat <<< (8 * (c.1 - a)))).sum

/-- Bytes from an address set from one number. -/
def memPut (m : List Host.Cell) (a : Nat) : Nat → Nat → List Host.Cell
  | 0, _ => m
  | n + 1, v => memPut (memSet m a (BitVec.ofNat 8 v)) (a + 1) n (v / 256)

/-- Bytes of the head's memory as one number. -/
def memRead (h : Head) (a n : Nat) : Nat := memNum h.mem a n

/-- The lines of 64 bytes a range touches. -/
def linesOf (a n : Nat) : List Nat := (List.range ((a % 64 + n + 63) / 64)).map (· + a / 64)

/-- Whether a range holds a poisoned line (R377). -/
def isPoisoned (h : Head) (a n : Nat) : Bool := h.poison.any (fun l => decide (l * 64 < a + n) && decide (a < l * 64 + 64))

/-- A range's lines marked poisoned. -/
def setPoison (h : Head) (a n : Nat) : Head :=
  { h with poison := h.poison ++ ((linesOf a n).filter (fun l => !h.poison.contains l)) }

/-- Bytes written to the head's memory. A line written whole is poisoned no longer. -/
def memWrite (h : Head) (a n v : Nat) : Head :=
  { h with
    mem := memPut h.mem a n v
    poison := h.poison.filter (fun l => !(decide (a ≤ l * 64) && decide (l * 64 + 64 ≤ a + n))) }

/-- What an operation places. -/
def placeAll (h : Head) (l : List Placed) : Head := foldHead h l (fun h p => memWrite h p.addr p.len p.data)

/-- The DDR5 segment an address lies in: wing and segment (R374, R378). -/
def ddrSeg (a : Nat) : Option (Wing × Nat) :=
  if 0x010000000000 ≤ a ∧ a < 0x050000000000 then some (.east, (a - 0x010000000000) / 2 ^ 30)
  else if 0x050000000000 ≤ a ∧ a < 0x090000000000 then some (.west, (a - 0x050000000000) / 2 ^ 30)
  else none

/-- An address of DDR5 whose segment is VALID. -/
def ddrValid (h : Head) (a : Nat) : Bool :=
  match ddrSeg a with
  | some (w, s) => fbit h w MEM_SEG_ENTRY_VALID s
  | none => false

/-- An address of a wing's 108 GiB of HBM (R374). -/
def hbmWing (a : Nat) : Option Wing :=
  if 0x0A0000000000 ≤ a ∧ a < 0x0A0000000000 + 108 * 2 ^ 30 then some .east
  else if 0x0A2000000000 ≤ a ∧ a < 0x0A2000000000 + 108 * 2 ^ 30 then some .west
  else none

/-- An address an engine reaches: DDR5 that is VALID, or HBM (R375). -/
def engineReach (h : Head) (a : Nat) : Bool := ddrValid h a || (hbmWing a).isSome

/-- An address a core or the DMA engine reaches as memory: DDR5 that is VALID, or the staging region (R375). -/
def coreReach (h : Head) (a : Nat) : Bool := ddrValid h a || ((hbmWing a).isSome && Config.isStaging (a / 4096))

/-- Whether every 4 KiB unit of a range satisfies a test. -/
def rangeAll (a n : Nat) (p : Nat → Bool) : Bool :=
  (List.range ((a % 4096 + n + 4095) / 4096)).all (fun k => p ((a / 4096 + k) * 4096))

/-- The first address of a range in a control window (R50, R374). -/
def firstControl (a n : Nat) : Option Nat :=
  [0x00F000000000, 0x00F400000000, 0x00F800000000].findSome? (fun b =>
    if a < b + windowSize ∧ b < a + n then some (max a b) else none)

/-- A range that names a control window, which a transfer does not reach: the access is refused and recorded as any other (R6, R52, R62,
R375). -/
def controlRefused (h : Head) (ini : Initiator) (a n : Nat) (write : Bool) : Head :=
  match firstControl a n with
  | none => h
  | some x => match gateAccess h ini x 64 write with
    | .stop h' => { h' with bus := h.bus }
    | .pass _ _ _ _ => h

/-- The same for each piece of a transfer's side. -/
def refusePieces (h : Head) (ini : Initiator) (l : List (Nat × Nat)) (write : Bool) : Head :=
  foldHead h l (fun h p => controlRefused h ini p.1 p.2 write)

end Sys2Proof.Machine
end

