-- ==== Sys2Proof/Machine/EngCore.lean ====
section
/-! DEFINITION. What every engine shares (R64 to R68, R215 to R222, R370, R371): descriptors, rings, units, keys, completion
queues. -/

namespace Sys2Proof.Machine

open Reg

/-! ### Descriptors (R64) -/

/-- Bits of a descriptor from a byte. -/
def dBits (d : Desc) (byte n : Nat) : Nat := (d.toNat >>> (8 * byte)) % 2 ^ n

/-- One bit of a descriptor. -/
def dBit (d : Desc) (byte k : Nat) : Bool := d.toNat.testBit (8 * byte + k)

def dOpcode (d : Desc) : Nat := dBits d 0 8
def dFence (d : Desc) : Bool := dBit d 1 0
def dEvent (d : Desc) : Bool := dBit d 1 1
def dQuiet (d : Desc) : Bool := dBit d 1 2
def dChain (d : Desc) : Bool := dBit d 1 3
/-- EFLAGS[k], k from 4 to 7. -/
def dFlag (d : Desc) (k : Nat) : Bool := dBit d 1 k
def dColl (d : Desc) : Nat := dBits d 2 12
def dSystem (d : Desc) : Bool := dBit d 2 12
/-- CFLAGS[k], k 14 or 15. -/
def dCflag (d : Desc) (k : Nat) : Bool := dBit d 2 k
def dTag (d : Desc) : Nat := dBits d 4 16
def dCq (d : Desc) : Nat := dBits d 60 12

/-- The bytes of a status code (R68). -/
def statusCode : Status → Nat
  | .done => 0x00
  | .doneNote => 0x01
  | .aborted => 0x02
  | .collMismatch => 0x03
  | .labelFail => 0x04
  | .checkFail => 0x05
  | .mediaFail => 0x06
  | .limit => 0x07
  | .timeout => 0x08
  | .fenced => 0x09
  | .keyInvalid => 0x0A
  | .noResource => 0x0B
  | .protocol => 0x0C
  | .internal => 0x0F

/-- CPU_RING_CFG.CLASS of an engine's block (R393). -/
def classCode : Block → Nat
  | .dge => 0
  | .cdc => 1
  | .cph => 2
  | .mft => 3
  | _ => 4

/-- The block of a ring class. -/
def classBlock : Nat → Option Block
  | 0 => some .dge
  | 1 => some .cdc
  | 2 => some .cph
  | 3 => some .mft
  | 4 => some .dma
  | _ => none

/-- The opcodes an engine class defines (R138, R223, R231, R237, R386). -/
def classOpcodes : Block → List Nat
  | .dge => [1, 2, 3, 4, 5, 6, 8]
  | .cdc => [1, 2, 3, 4, 5]
  | .cph => [1, 2, 3, 4, 5, 6, 7, 8, 9, 10, 11]
  | .mft => [1, 2, 3, 4, 5, 16]
  | _ => [1, 2]

/-! ### Rings (R370) -/

def ringSize (h : Head) (w : Wing) (n : Nat) : Nat := 2 ^ fget h w CPU_RING_CFG_LOG2_SIZE n
def ringBase (h : Head) (w : Wing) (n : Nat) : Nat := pget h w CPU_RING_BASE_LO_ADDR CPU_RING_BASE_HI_ADDR n * 4096
def ringUsed (h : Head) (w : Wing) (n : Nat) : Nat :=
  (fget h w CPU_RING_PTR_TAIL n + 65536 - fget h w CPU_RING_PTR_HEAD n) % 65536

/-- The descriptor at a ring's head: of an enabled ring of the class that holds one. -/
def ringHead? (h : Head) (w : Wing) (cls : Block) (n : Nat) : Option Desc :=
  if n < 1024 ∧ fbit h w CPU_RING_CFG_ENABLE n ∧ fget h w CPU_RING_CFG_CLASS n = classCode cls ∧ ringUsed h w n ≠ 0 then
    some (BitVec.ofNat 512 (memRead h (ringBase h w n + 64 * (fget h w CPU_RING_PTR_HEAD n % ringSize h w n)) 64))
  else none

/-- A descriptor about to start: its bits, the ring it came from, and what that ring may ask for. -/
structure Taken where
  d : Desc
  ring : Option Nat
  /-- On a system ring, on Docent's own rings, or from an internal requester (R64, R220). -/
  system : Bool
  docent : Bool
  internal : Bool
  deriving DecidableEq, Repr

/-- Docent's own ring of a class (R226), numbered after the 1,024 rings of a wing (R370). -/
def docentRing : Nat := 1024

/-- The descriptor a source offers, with the head after it is consumed. -/
def offered? (h : Head) (w : Wing) (cls : Block) (src : Source) : Option (Taken × Head) :=
  match src with
  | .internal d => some (⟨d, none, true, false, true⟩, h)
  | .docent d => some (⟨d, some docentRing, true, true, false⟩, h)
  | .ring n => match ringHead? h w cls n with
    | none => none
    | some d =>
      some (⟨d, some n, fbit h w CPU_RING_CFG_SYSTEM n, false, false⟩,
        fset h w CPU_RING_PTR_HEAD ((fget h w CPU_RING_PTR_HEAD n + 1) % 65536) n)

/-- A descriptor may start (R54, R64, R65): the page runs, no earlier descriptor of the ring is outstanding where FENCE is set, and
the class is below its bound. -/
def mayStart (h : Head) (w : Wing) (cls : Block) (t : Taken) : Bool :=
  running h (pg cls w) && decide (engCount h w cls < 4096) &&
    !(dFence t.d && t.ring.isSome && h.eng.ops.any (fun o => o.cls == cls && o.wing == w && o.ring == t.ring))

/-! ### Operations -/

/-- A new operation of a descriptor, DONE with nothing placed. -/
def newOp (cls : Block) (w : Wing) (t : Taken) : EngOp where
  cls := cls
  wing := w
  tag := dTag t.d
  cq := dCq t.d
  ring := t.ring
  unit := 0
  coll := dColl t.d
  key := none
  status := .done
  bytes := 0
  word := 0
  extra := 0
  event := dEvent t.d
  quiet := dQuiet t.d
  chained := false
  ready := true
  place := []
  poison := []
  chan := 0
  prio := 0
  held := false

/-- A DMA transfer that its channel holds (R385). -/
def inChannel (w : Wing) (c : Nat) (o : EngOp) : Bool :=
  o.cls == .dma && o.wing == w && o.chan == c && !o.held && (o.place != [] || o.poison != []) && o.status != .aborted

/-- The priority a DMA channel moves: the highest it holds (R388). -/
def movingPrio (h : Head) (w : Wing) (c : Nat) : Nat := ((h.eng.ops.filter (inChannel w c)).map (·.prio)).foldl max 0

/-- A DMA channel's state, and which of its transfers can end: the one that moves (R388, R396). -/
def syncDma (h : Head) (w : Wing) (c : Nat) : Head :=
  let l := h.eng.ops.filter (inChannel w c)
  let p := movingPrio h w c
  let h := { h with eng := { h.eng with ops := h.eng.ops.map (fun o => if inChannel w c o then { o with ready := o.prio == p } else o) } }
  let moving := l.find? (fun o => o.prio == p)
  let h := fset h w DMA_CHAN_STATE_TAG ((moving.map (·.tag)).getD 0) c
  let h := fset h w DMA_CHAN_STATE_OPEN ((List.range 4).map (fun q => if l.any (fun o => o.prio == q) then 2 ^ q else 0)).sum c
  let h := fset h w DMA_CHAN_STATE_PRIO p c
  fset h w DMA_CHAN_STATE_STATE (if fbit h w DMA_CTRL_HALT then 3 else if h.core.dmaOff.contains (8 * wingNum w + c) then 2
    else if l = [] then 0 else 1) c

/-- An operation's DMA channel brought up to date. -/
def dmaSync (h : Head) (o : EngOp) : Head := if o.cls = .dma then syncDma h o.wing o.chan else h

/-- An operation outstanding, and the bounds of its wing brought up to date. -/
def pushOp (h : Head) (o : EngOp) : Head := dmaSync (updateBounds { h with eng := { h.eng with ops := h.eng.ops ++ [o] } } o.wing) o

/-- A chain's place: the class, wing and ring of a descriptor. -/
def sameChain (cls : Block) (w : Wing) (ring : Option Nat) (c : Chain) : Bool := c.cls == cls && c.wing == w && c.ring == ring

/-- The chain under way on a descriptor's ring. -/
def chainOf (h : Head) (cls : Block) (w : Wing) (ring : Option Nat) : Option Chain := h.eng.chains.find? (sameChain cls w ring)

/-- A chain set, or ended. -/
def setChain (h : Head) (cls : Block) (w : Wing) (ring : Option Nat) (c : Option Chain) : Head :=
  { h with eng := { h.eng with chains := h.eng.chains.filter (fun x => !sameChain cls w ring x) ++ c.toList } }

/-- An operation that ends with an error status and writes nothing. A chain under way on its ring ends with it (R225). -/
def failOp (h : Head) (o : EngOp) (st : Status) : Head :=
  pushOp (setChain h o.cls o.wing o.ring none)
    { o with status := st, bytes := 0, word := 0, extra := 0, place := [], poison := [], ready := true }

/-- A descriptor is taken and, where its opcode is the command's own, runs; an opcode the class does not define completes with
PROTOCOL, as does a TAG already outstanding (R64, R65); SYSTEM off a system ring completes with COLLECTION_MISMATCH (R64). A
descriptor of another opcode, or that may not start, is left where it is. -/
def runDesc (h : Head) (w : Wing) (cls : Block) (src : Source) (opcode : Nat) (f : Head → Taken → EngOp → Head) : Head :=
  match offered? h w cls src with
  | none => h
  | some (t, h') =>
    if !mayStart h w cls t then h
    else
      let o := newOp cls w t
      if !(classOpcodes cls).contains (dOpcode t.d) then failOp h' o .protocol
      else if dOpcode t.d ≠ opcode then h
      else if h.eng.ops.any (fun x => x.cls == cls && x.wing == w && x.tag == o.tag) then failOp h' o .protocol
      else if dSystem t.d && !t.system then failOp h' o .collMismatch
      else f h' t o

/-! ### Units (R215 to R219) -/

/-- The fields of the three engine pages' unit registers (R245). -/
def unitState : Block → Fld
  | .dge => DGE_UNIT_STATE_STATE
  | .cdc => CDC_UNIT_STATE_STATE
  | _ => CPH_UNIT_STATE_STATE

def unitCause : Block → Fld
  | .dge => DGE_UNIT_STATE_CAUSE
  | .cdc => CDC_UNIT_STATE_CAUSE
  | _ => CPH_UNIT_STATE_CAUSE

/-- The units of a state on a wing. -/
def unitsIn (h : Head) (cls : Block) (w : Wing) (st : Nat) : List Nat :=
  (List.range (totalUnits cls)).filter (fun u => fget h w (unitState cls) u == st)

/-- XXX_UNITS brought up to date (R245). -/
def syncUnits (h : Head) (cls : Block) (w : Wing) : Head :=
  let (fa, fs, ff) : Fld × Fld × Fld := match cls with
    | .dge => (DGE_UNITS_ACTIVE, DGE_UNITS_SPARE, DGE_UNITS_FAILED)
    | .cdc => (CDC_UNITS_ACTIVE, CDC_UNITS_SPARE, CDC_UNITS_FAILED)
    | _ => (CPH_UNITS_ACTIVE, CPH_UNITS_SPARE, CPH_UNITS_FAILED)
  let h := fset h w fa (unitsIn h cls w 0).length
  let h := fset h w fs (unitsIn h cls w 1).length
  fset h w ff ((unitsIn h cls w 3).length + (unitsIn h cls w 4).length)

/-- A unit's state and cause set. -/
def setUnit (h : Head) (cls : Block) (w : Wing) (u st cause : Nat) : Head :=
  syncUnits (fset (fset h w (unitState cls) st u) w (unitCause cls) cause u) cls w

/-- A unit's number among all. -/
def unitKey (cls : Block) (w : Wing) (u : Nat) : Nat := 64 * (2 * blockNum cls + wingNum w) + u

/-- A unit at rung 1 or 2 that is given an operation wakes (R468). -/
def wakeUnit (h : Head) (cls : Block) (w : Wing) (u : Nat) : Head :=
  { h with pwr := { h.pwr with units := tabDel h.pwr.units (unitKey cls w u) } }

/-- An ACTIVE unit for an operation: any (R216), as a free value chooses. -/
def pickUnit (h : Head) (cls : Block) (w : Wing) : Option (Nat × Head) :=
  let (n, h) := fresh h
  let l := unitsIn h cls w 0
  match l[Config.unitChoice n % l.length]? with
  | some u => some (u, wakeUnit h cls w u)
  | none => none

/-- An operation given a unit: the chain's own where it continues one; with no ACTIVE unit the descriptor waits. -/
def onUnit (h0 h : Head) (o : EngOp) (c : Option Chain) (f : Head → EngOp → Head) : Head :=
  match c with
  | some c => f h { o with unit := c.unit, chained := true }
  | none => match pickUnit h o.cls o.wing with
    | some (u, h) => f h { o with unit := u }
    | none => h0

/-! ### Keys (R220, R221) -/

/-- The KEY_REFUSED event of an engine's page. -/
def keyRefused (cls : Block) : EvRef := if cls = .cph then Ev.CPH_KEY_REFUSED else Ev.DGE_KEY_REFUSED

/-- PRIVATE is accepted only together with SYSTEM on a system ring, or from an internal requester (R220). -/
def privateOk (t : Taken) : Bool := !dCflag t.d 14 || t.internal || (dSystem t.d && t.system)

/-- The checks of R220 on the key a descriptor names: the slot's number and the head, or the status it fails with. -/
def checkKey (h : Head) (cls : Block) (w : Wing) (t : Taken) (key kind : Nat) : Except (Status × Head) Nat :=
  let priv := dCflag t.d 14
  let id := keySlotId priv key
  if !privateOk t then .error (.protocol, h)
  else if (priv && decide (64 ≤ key)) || keyState h id != 2 || keyKind h id != kind then
    .error (.keyInvalid, raise h w (keyRefused cls))
  else if !priv && !(fbit h .east KEY_SLOT_ATTR_SYSTEM id && dSystem t.d) &&
      (slotColl h id != dColl t.d || fbit h .east KEY_SLOT_ATTR_SYSTEM id || dSystem t.d) then .error (.collMismatch, h)
  else .ok id

/-- The most recently used slots of a cipher tile, with their generations. -/
def tileSlots (h : Head) (w : Wing) (u : Nat) : List (Nat × Nat) := tabGet h.eng.tileKeys [] (64 * wingNum w + u)

/-- A key loaded into a cipher tile that does not hold it, in place of one of four at random, and counted (R221). -/
def loadKey (h : Head) (w : Wing) (u id : Nat) : Head :=
  let l := tileSlots h w u
  let e := (id, keyGen h id)
  if l.contains e then h
  else
    let (n, h) := fresh h
    let l' := if l.length < 4 then l ++ [e] else l.set (Config.tileChoice n % 4) e
    fadd { h with eng := { h.eng with tileKeys := tabPut h.eng.tileKeys (64 * wingNum w + u) l' } } w CPH_CNT_KEYLOAD_COUNT

/-- Every tile register and chain that holds a slot's key invalidated (R221, R412). -/
def dropKey (h : Head) (id : Nat) : Head :=
  { h with eng := { h.eng with
    tileKeys := (tabMap h.eng.tileKeys (fun _ l => l.filter (fun e => e.1 != id))).filter (fun e => e.2 != []) } }

/-! ### Completion (R66, R67, R371) -/

def cqSize (h : Head) (w : Wing) (q : Nat) : Nat := 2 ^ fget h w CPU_CQ_CFG_LOG2_SIZE q
def cqBase (h : Head) (w : Wing) (q : Nat) : Nat := pget h w CPU_CQ_BASE_LO_ADDR CPU_CQ_BASE_HI_ADDR q * 512
def cqUsed (h : Head) (w : Wing) (q : Nat) : Nat :=
  (fget h w CPU_CQ_PTR_TAIL q + 65536 - fget h w CPU_CQ_PTR_HEAD q) % 65536

/-- A queue takes an entry: it is enabled and not full. -/
def cqRoom (h : Head) (w : Wing) (q : Nat) : Bool := fbit h w CPU_CQ_CFG_ENABLE q && decide (cqUsed h w q < cqSize h w q)

/-- A completion entry (R66) as one number of 16 bytes. -/
def cqEntry (h : Head) (o : EngOp) : Nat :=
  let phase := 1 - fget h o.wing CPU_CQ_PTR_TAIL o.cq / cqSize h o.wing o.cq % 2
  o.tag % 65536 + statusCode o.status <<< 16 + (phase + (o.extra % 16) <<< 4) <<< 24 + (o.bytes % 2 ^ 32) <<< 32 +
    (o.word % 2 ^ 64) <<< 64

/-- The entry of an operation written at its queue's tail. -/
def writeEntry (h : Head) (o : EngOp) : Head :=
  let t := fget h o.wing CPU_CQ_PTR_TAIL o.cq
  let h := memWrite h (cqBase h o.wing o.cq + 16 * (t % cqSize h o.wing o.cq)) 16 (cqEntry h o)
  fset h o.wing CPU_CQ_PTR_TAIL ((t + 1) % 65536) o.cq

/-- The MSI of a queue, which bypasses the route table (R371). -/
def cqMsi (h : Head) (w : Wing) (q : Nat) : Head :=
  send h (.msi (fget h w CPU_CQ_CFG_HART q) (fbit h w CPU_CQ_CFG_MLEVEL q) (fget h w CPU_CQ_CFG_IDENTITY q))

/-- DONE or DONE_NOTE. -/
def isDone : Status → Bool
  | .done | .doneNote => true
  | _ => false

/-- The counters and events of a completion on its page (R140, R244, R245, R396). -/
def countOp (h : Head) (o : EngOp) : Head :=
  let bad := !isDone o.status
  let mm := o.status == .collMismatch
  let w := o.wing
  match o.cls with
  | .dge =>
    let h := fadd h w DGE_CNT_OPS_COUNT
    let h := if bad then fadd h w DGE_CNT_ERR_COUNT else h
    if mm then raise h w Ev.DGE_COLL_MISMATCH else h
  | .cdc =>
    let h := fadd h w CDC_CNT_OPS_COUNT
    let h := if bad then fadd h w CDC_CNT_ERR_COUNT else h
    if mm then raise h w Ev.CDC_COLL_MISMATCH else h
  | .cph =>
    let h := fadd h w CPH_CNT_OPS_COUNT
    let h := if bad then fadd h w CPH_CNT_ERR_COUNT else h
    if mm then raise h w Ev.CPH_COLL_MISMATCH else h
  | .mft => if mm then raise h w Ev.MFT_PROTECTION else h
  | _ => if o.status = .aborted then fadd h w DMA_CNT_ABORT_COUNT else fadd h w DMA_CNT_OPS_COUNT

/-- The context of a Mehror operation that counts in its INFLIGHT has one operation fewer (R139). -/
def leaveCtx (h : Head) (o : EngOp) : Head :=
  if o.cls = .mft ∧ o.prio = 1 then fset h o.wing FOQ_CTX_STATE_INFLIGHT (fget h o.wing FOQ_CTX_STATE_INFLIGHT o.chan - 1) o.chan else h

/-- What a completion leaves behind: the operation has left the class, and a bound may be left. -/
def retireOp (h : Head) (k : Nat) (o : EngOp) : Head :=
  dmaSync (updateBounds (leaveCtx { h with eng := { h.eng with ops := h.eng.ops.eraseIdx k } } o) o.wing) o

/-- The operation at an index completes: what it writes is placed; its entry is written where its queue has room, else held, the
first held entry of the queue raising CQ_FULL; QUIET writes none for DONE (R64, R66, R67). -/
def completeAt (h : Head) (k : Nat) (o : EngOp) : Head :=
  let h := if o.held then h else
    let h := countOp (placeAll h o.place) o
    foldHead h o.poison (fun h p => setPoison h p.1 p.2)
  if o.quiet && o.status == .done then retireOp (if o.event then cqMsi h o.wing o.cq else h) k o
  else if cqRoom h o.wing o.cq then
    let h := writeEntry h o
    retireOp (if o.event then cqMsi h o.wing o.cq else h) k o
  else
    let firstHeld := !h.eng.ops.any (fun x => x.held && x.wing == o.wing && x.cq == o.cq)
    let h := { h with eng := { h.eng with ops := h.eng.ops.set k { o with held := true } } }
    let h := dmaSync h o
    if firstHeld && fbit h o.wing CPU_CQ_CFG_ENABLE o.cq then raise h o.wing Ev.CPU_CQ_FULL else h

/-- The places of a list that a test keeps. -/
def indicesOf {α : Type} (l : List α) (p : α → Bool) : List Nat :=
  (l.zipIdx.filter (fun e => p e.1)).map (·.2)

/-- ENGINE_COMPLETION (R66): the k-th ready operation of a class, wing and TAG ends. -/
def engineCompletion (h : Head) (cls : Block) (w : Wing) (tag k : Nat) : Head :=
  match (indicesOf h.eng.ops (fun o => o.cls == cls && o.wing == w && o.tag == tag && o.ready && !o.held))[k]? with
  | none => h
  | some i => match h.eng.ops[i]? with
    | none => h
    | some o => completeAt h i o

/-- The held entries of a queue written while it has room, in order; at most as many as operations are held. -/
def releaseHeld (h : Head) (w : Wing) (q : Nat) : Nat → Head
  | 0 => h
  | n + 1 =>
    match (indicesOf h.eng.ops (fun o => o.held && o.wing == w && o.cq == q))[0]? with
    | none => h
    | some i => match h.eng.ops[i]? with
      | none => h
      | some o => if cqRoom h w q then releaseHeld (completeAt h i o) w q n else h

/-- The operations a test names made ready with a status and changes. -/
def readyOps (h : Head) (p : EngOp → Bool) (f : EngOp → EngOp) : Head :=
  { h with eng := { h.eng with ops := h.eng.ops.map (fun o => if p o && !o.held then { f o with ready := true } else o) } }

/-- The first bytes of what an operation places: those an aborted operation has written. -/
def takePlaced : List Placed → Nat → List Placed
  | [], _ => []
  | p :: t, n => if n = 0 then [] else if p.len ≤ n then p :: takePlaced t (n - p.len) else [⟨p.addr, n, p.data % 2 ^ (8 * n)⟩]

/-- The bytes an operation places. -/
def placedLen (l : List Placed) : Nat := (l.map (·.len)).sum

/-- Operations aborted (R222, R390): each stops having written a number of bytes the spec leaves open, in whole steps, and completes
with ABORTED. -/
def abortOps (h : Head) (p : EngOp → Bool) (step : Nat) : Head :=
  let n := h.freeCtr
  let h := { h with freeCtr := n + h.eng.ops.length }
  { h with eng := { h.eng with ops := h.eng.ops.zipIdx.map (fun e =>
      let o := e.1
      if p o && !o.held then
        let b := Config.abortBytes (n + e.2) % (placedLen o.place / step + 1) * step
        let kept := takePlaced o.place b
        { o with status := .aborted, bytes := b, word := 0, extra := 0, place := kept, ready := true
                 poison := o.poison.filter (fun r => kept.any (fun p => decide (p.addr ≤ r.1) && decide (r.1 + r.2 ≤ p.addr + p.len))) }
      else o) } }

end Sys2Proof.Machine
end

