-- ==== Sys2Proof/Machine/Engines.lean ====
section
/-! DEFINITION. The digest, codec and cipher engines (R215 to R248). -/

namespace Sys2Proof.Machine

open Reg

/-! ### Units (R217 to R219) -/

/-- The unit events of an engine's page (R244): UNIT_FAILED 0, SPARE_USED 1, SPARES_EXHAUSTED 2. -/
def unitEvent (cls : Block) (n : Nat) : EvRef := ⟨cls, n⟩

/-- XXX_CTRL.SPARE_AUTO of a page. -/
def spareAuto (h : Head) (cls : Block) (w : Wing) : Bool :=
  match cls with
  | .dge => fbit h w DGE_CTRL_SPARE_AUTO
  | .cdc => fbit h w CDC_CTRL_SPARE_AUTO
  | _ => fbit h w CPH_CTRL_SPARE_AUTO

/-- A spare tested and made ACTIVE in a unit's place where SPARE_AUTO is 1 (R217), which of them the spec leaves open; with none left,
SPARES_EXHAUSTED. -/
def useSpare (h : Head) (cls : Block) (w : Wing) : Head :=
  let l := unitsIn h cls w 1
  let (n, h) := fresh h
  match l[Config.unitChoice n % l.length]? with
  | some u => if spareAuto h cls w then raise (setUnit h cls w u 0 0) w (unitEvent cls 1) else h
  | none => raise h w (unitEvent cls 2)

/-- A unit in this state, of this cause, is replaced when it leaves: an ACTIVE one, or one that a FENCE took out of ACTIVE. One fenced
as a spare carries cause 5 while it drains. -/
def replaced (st cause : Nat) : Bool := st == 0 || (st == 5 && cause != 5)

/-- The engine classes that have units. -/
def isUnitClass (cls : Block) : Bool := cls == .dge || cls == .cdc || cls == .cph

/-- The operations and chains of a failed unit (R218): one that continues a chain ends with INTERNAL and breaks it; the others start
again on another ACTIVE unit. -/
def moveOps (h : Head) (cls : Block) (w : Wing) (u : Nat) : Head :=
  let mine (o : EngOp) : Bool := o.cls == cls && o.wing == w && o.unit == u
  let h := readyOps h (fun o => mine o && o.chained)
    (fun o => { o with status := .internal, bytes := 0, word := 0, extra := 0, place := [] })
  let h := { h with eng := { h.eng with
    chains := h.eng.chains.map (fun c => if c.cls = cls ∧ c.wing = w ∧ c.unit = u then { c with broken := true } else c) } }
  match pickUnit h cls w with
  | none => h
  | some (v, h) => { h with eng := { h.eng with
      ops := h.eng.ops.map (fun o => if mine o && !o.chained then { o with unit := v } else o)
      cases := h.eng.cases.map (fun c => if cls = .cdc ∧ c.wing = w ∧ c.unit = some u then { c with unit := some v } else c) } }

/-- UNIT_FAILED (R217, R218). -/
def unitFailed (h : Head) (cls : Block) (w : Wing) (u cause : Nat) : Head :=
  if !isUnitClass cls || decide (totalUnits cls ≤ u) || fget h w (unitState cls) u == 3 then h
  else
    let leaves := replaced (fget h w (unitState cls) u) (fget h w (unitCause cls) u)
    let h := raise (setUnit h cls w u 3 cause) w (unitEvent cls 0)
    let h := if leaves then useSpare h cls w else h
    moveOps h cls w u

/-- The unit an XXX_UNIT_INDEX selects. -/
def selectedUnit (h : Head) (cls : Block) (w : Wing) : Nat :=
  match cls with
  | .dge => fget h w DGE_UNIT_INDEX_INDEX
  | .cdc => fget h w CDC_UNIT_INDEX_INDEX
  | _ => fget h w CPH_UNIT_INDEX_INDEX

/-- A unit command (R219): 1 FENCE, which drains the unit; 2 UNFENCE, which puts a FENCED unit under test; 0 and 3 are reserved, as is
fencing the last ACTIVE unit. -/
def unitCmdEffect (h : Head) (src : Nat) (cls : Block) (w : Wing) (cmd : Nat) : Head :=
  let u := selectedUnit h cls w
  let st := fget h w (unitState cls) u
  let bad (c : Nat) : Head := config h (pg cls w) ⟨c, src, true, pageAddr (pg cls w) + 0x050⟩
  if cmd = 1 then
    if st = 3 then bad 11
    else if unitsIn h cls w 0 = [u] then bad 4
    else setUnit h cls w u 5 (if replaced st (fget h w (unitCause cls) u) then fget h w (unitCause cls) u else 5)
  else if cmd = 2 then
    if st ≠ 4 then bad 11
    else
      let h := setUnit h cls w u 2 0
      { h with eng := { h.eng with testing := h.eng.testing ++ [(cls, w, u)] } }
  else bad 4

/-- The known-answer tests of the units under test end (R215, R219): a unit that no failure has taken meanwhile becomes SPARE. -/
def endTests (h : Head) : Head :=
  foldHead { h with eng := { h.eng with testing := [] } } h.eng.testing (fun h e =>
    if fget h e.2.1 (unitState e.1) e.2.2 = 2 then setUnit h e.1 e.2.1 e.2.2 1 0 else h)

/-- UNIT_FENCE and UNIT_UNFENCE (R219). -/
def unitCommand (h : Head) (ini : Initiator) (cls : Block) (w : Wing) (cmd : Nat) : Head :=
  if !isUnitClass cls then h
  else withWrite h ini (pg cls w) 0x050 (fun h => unitCmdEffect h (sourceCode ini) cls w cmd)

/-- A unit holds work: an operation, a chain or a case. -/
def unitBusy (h : Head) (cls : Block) (w : Wing) (u : Nat) : Bool :=
  h.eng.ops.any (fun o => o.cls == cls && o.wing == w && o.unit == u && !o.held) ||
    h.eng.chains.any (fun c => c.cls == cls && c.wing == w && c.unit == u) ||
    (cls == .cdc && h.eng.cases.any (fun c => c.wing == w && c.closed && c.unit == some u))

/-- UNIT_DRAINED (R219): a DRAINING unit that holds nothing becomes FENCED, and a spare replaces one that was ACTIVE. -/
def unitDrained (h : Head) (cls : Block) (w : Wing) (u : Nat) : Head :=
  if isUnitClass cls && fget h w (unitState cls) u == 5 && !unitBusy h cls w u then
    let leaves := replaced 5 (fget h w (unitCause cls) u)
    let h := setUnit h cls w u 4 5
    if leaves then useSpare h cls w else h
  else h

/-! ### Measurement registers (R400) -/

/-- A measurement register's 48 bytes, the first lowest; each word holds its first byte in bits 31 to 24 (R425). -/
def msrValue (h : Head) (r : Nat) : Nat :=
  ((List.range 12).map (fun k => swapBytes (rd h (pg .msr .east) (0x048 + 4 * k) r).toNat 4 <<< (32 * k))).sum

/-- A measurement register set. -/
def setMsr (h : Head) (r v : Nat) : Head :=
  foldHead h (List.range 12) (fun h k => wr h (pg .msr .east) (0x048 + 4 * k) r (BitVec.ofNat 32 (swapBytes (v >>> (32 * k) % 2 ^ 32) 4)))

/-- SHA-384 of bytes: length, bytes. -/
def sha384 (len bytes : Nat) : Nat := Config.shaFinish true (Config.shaInit true) 0 len bytes % 2 ^ 384

/-- An extend (R400): SHA-384 of the old value followed by the 48-byte input, counted. -/
def msrExtend (h : Head) (r input : Nat) : Head :=
  let h := setMsr h r (sha384 96 (msrValue h r + (input % 2 ^ 384) <<< 384))
  let h := raiseCounted h .east Ev.MSR_EXTENDED
  let h := fadd h .east MSR_COUNT_COUNT 1 r
  fset h .east MSR_USED_USED (fget h .east MSR_USED_USED ||| 1 <<< r)

/-! ### Sources -/

/-- Bytes an engine reads, or the status the read ends with: an address it does not reach is a malformed descriptor (R375), a poisoned
line MEDIA_FAIL (R377). -/
def engineRead (h : Head) (a n : Nat) : Except Status Nat :=
  if !rangeAll a n (engineReach h) then .error .protocol
  else if isPoisoned h a n then .error .mediaFail
  else .ok (memRead h a n)

/-- An operation that goes on with the bytes it reads. A read of a control window is refused there too (R52, R62). -/
def withRead (h : Head) (o : EngOp) (a n : Nat) (f : Nat → Head) : Head :=
  match engineRead h a n with
  | .ok v => f v
  | .error st => failOp (controlRefused h .hardware a n false) o st

/-- An operation that goes on where it reaches its destination. A control window refuses it too (R52, R62). -/
def withDst (h : Head) (o : EngOp) (a n : Nat) (f : Head) : Head :=
  if rangeAll a n (engineReach h) then f else failOp (controlRefused h .hardware a n true) o .protocol

/-! ### Digest lanes (R223 to R229) -/

def dgSrc (d : Desc) : Nat := dBits d 8 48
def dgLen (d : Desc) : Nat := dBits d 16 32
def dgKey (d : Desc) : Nat := dBits d 20 13
def dgMsr (d : Desc) : Nat := dBits d 22 5
def dgDst (d : Desc) : Nat := dBits d 24 48
def dgState (d : Desc) : Nat := dBits d 32 48

/-- Bytes of a digest: 32 or 48. -/
def digestLen (alg : Bool) : Nat := if alg then 48 else 32

/-- The block size of an algorithm. -/
def blockLen (alg : Bool) : Nat := if alg then 128 else 64

/-- The mode of a digest chain: the algorithm, and whether it is keyed. -/
def dgMode (d : Desc) (key : Option Nat) : Nat := ofBool (dFlag d 4) + 2 * ofBool key.isSome

/-- The first digest state of a message: plain, or the HMAC inner state of a key. -/
def dgInit (h : Head) (alg : Bool) (key : Option Nat) : Nat :=
  match key with
  | none => Config.shaInit alg
  | some id => Config.hmacInit alg (keyValue h id)

/-- The result of a message from its state: digest or MAC. -/
def dgFinish (h : Head) (alg : Bool) (key : Option Nat) (state count len data : Nat) : Nat :=
  (match key with
  | none => Config.shaFinish alg state count len data
  | some id => Config.hmacFinish alg (keyValue h id) state count len data) % 2 ^ (8 * digestLen alg)

/-- A descriptor continues the chain under way: the same message with the same ALG, KEY and COLL (R225). -/
def continues (c : Chain) (o : EngOp) (mode : Nat) (key : Option Nat) : Bool :=
  c.mode == mode && c.coll == o.coll && c.key == key

/-- A descriptor meets the chain under way on its ring: a broken chain ends it with INTERNAL (R218), another message with PROTOCOL, which
ends the chain (R225), and a slot replaced meanwhile with KEY_INVALID (R243). -/
def meetChain (h : Head) (t : Taken) (o : EngOp) (mode : Nat) (key : Option Nat) (f : Option Chain → Head) : Head :=
  match chainOf h o.cls o.wing t.ring with
  | none => f none
  | some c =>
    if c.broken then
      let h := failOp h o .internal
      if dChain t.d then setChain h o.cls o.wing t.ring (some c) else h
    else if !continues c o mode key then failOp h o .protocol
    else if key.any (fun id => keyGen h id != c.gen) then failOp h o .keyInvalid
    else f (some c)

/-- A descriptor that is no segment of a message meets the chain under way on its ring: it completes with PROTOCOL, which ends the chain
(R225), or with INTERNAL where the chain is broken (R218). -/
def noChain (h : Head) (t : Taken) (o : EngOp) (f : Head) : Head :=
  match chainOf h o.cls o.wing t.ring with
  | none => f
  | some c =>
    if c.broken then
      let h := failOp h o .internal
      if dChain t.d then setChain h o.cls o.wing t.ring (some c) else h
    else failOp h o .protocol

/-- The generation of a key named, 0 where none is. -/
def genOf (h : Head) (key : Option Nat) : Nat := match key with
  | some id => keyGen h id
  | none => 0

/-- A message or a segment of one (R223, R225): a CONTINUE segment absorbs whole blocks and writes nothing; the last gives the result
to `fin`. -/
def digestMessage (h0 h : Head) (t : Taken) (o : EngOp) (key : Option Nat) (fin : Head → EngOp → Nat → Head) : Head :=
  let d := t.d
  let alg := dFlag d 4
  meetChain h t o (dgMode d key) key (fun c =>
    let count := (c.map (·.count)).getD 0
    let state := match c with
      | some c => c.value
      | none => dgInit h alg key
    if 2 ^ 24 < dgLen d then failOp h o .protocol
    else if dFlag d 5 ∧ (dgLen d % blockLen alg ≠ 0 ∨ dChain d = false) then failOp h o .protocol
    else withRead h o (dgSrc d) (dgLen d) (fun data =>
      onUnit h0 h o c (fun h o =>
        if dFlag d 5 then
          let c' : Chain := ⟨.dge, o.wing, t.ring, o.unit, dgMode d key, o.coll, key, genOf h key, count + dgLen d, 0,
            Config.shaAbsorb alg state count (dgLen d) data, 0, 0, false⟩
          pushOp (setChain h .dge o.wing t.ring (some c')) { o with key := key, chained := true }
        else
          fin (setChain h .dge o.wing t.ring none) { o with key := key } (dgFinish h alg key state count (dgLen d) data))))

/-- MEASURE is accepted on Docent's rings and system rings while its register is armed (R229). -/
def measureOk (h : Head) (t : Taken) (r : Nat) : Bool :=
  (t.docent || (t.ring.isSome && t.system)) && (decide (10 ≤ r) && decide (r ≤ 23)) &&
    (fget h .east MSR_ARMED_ARMED).testBit (r - 10)

/-- The result of a HASH or HMAC placed at DST (R223). -/
def digestResult (h : Head) (d : Desc) (o : EngOp) (v : Nat) : Head :=
  let n := digestLen (dFlag d 4)
  withDst h o (dgDst d) n
    (pushOp h { o with bytes := n, word := v % 2 ^ 64, place := [⟨dgDst d, n, v⟩] })

/-- The extend of a measured HASH (R229): it consumes the register's arm. -/
def measure (h : Head) (w : Wing) (r v : Nat) : Head :=
  let h := msrExtend h r v
  let h := fset h .east MSR_ARMED_ARMED (fget h .east MSR_ARMED_ARMED - 1 <<< (r - 10))
  fadd h w DGE_CNT_MEASURE_COUNT

/-- HASH (R223, R229). -/
def dgeHash (h0 : Head) (w : Wing) (src : Source) : Head :=
  runDesc h0 w .dge src 1 (fun h t o =>
    let d := t.d
    if dFlag d 6 && !measureOk h t (dgMsr d) then raise (failOp h o .protocol) w Ev.DGE_MEASURE_REFUSED
    else digestMessage h0 h t o none (fun h o v =>
      digestResult (if dFlag d 6 && rangeAll (dgDst d) (digestLen (dFlag d 4)) (engineReach h) then measure h w (dgMsr d) v else h) d o v))

/-- The HMAC key of a descriptor; a fingerprint slot whose held state is missing is KEY_INVALID (R227). -/
def withHmacKey (h : Head) (w : Wing) (t : Taken) (o : EngOp) (key : Nat) (f : Nat → Head) : Head :=
  match checkKey h .dge w t key 4 with
  | .error (st, h) => failOp h o st
  | .ok id =>
    if keyUsage h id = 1 ∧ (tabHas h.bindings (slotColl h id)) ∧ h.eng.fpStates.contains (slotColl h id) = false then
      failOp h o .keyInvalid
    else f id

/-- HMAC (R223). -/
def dgeHmac (h0 : Head) (w : Wing) (src : Source) : Head :=
  runDesc h0 w .dge src 2 (fun h t o =>
    withHmacKey h w t o (dgKey t.d) (fun id =>
      digestMessage h0 h t o (some id) (fun h o v => digestResult h t.d o v)))

/-- The end of a compare (R228): the doubled pair in completion byte 3. A faulty pair (both bits alike) ends with INTERNAL, and the lane
fails. -/
def compareResult (h : Head) (o : EngOp) (same : Bool) (faulty : Option Bool) (ev : EvRef) : Head :=
  match faulty with
  | none => pushOp h { o with status := if same then .done else .checkFail, extra := if same then 1 else 2 }
  | some b =>
    let h := pushOp h { o with status := .internal, extra := if b then 3 else 0 }
    unitFailed (raise h o.wing ev) o.cls o.wing o.unit 4

/-- COMPARE (R228). `faulty` is what a faulty lane's doubled pair reports. -/
def dgeCompare (h0 : Head) (w : Wing) (src : Source) (faulty : Option Bool) : Head :=
  runDesc h0 w .dge src 3 (fun h t o =>
    let d := t.d
    if dgLen d = 0 ∨ 2 ^ 24 < dgLen d then failOp h o .protocol
    else noChain h t o (withRead h o (dgSrc d) (dgLen d) (fun a => withRead h o (dgDst d) (dgLen d) (fun b =>
      onUnit h0 (fadd h w DGE_CNT_COMPARE_COUNT) o none (fun h o =>
        compareResult h o (a == b) faulty Ev.DGE_COMPARE_FAULT)))))

/-- HMAC_VERIFY (R228). -/
def dgeHmacVerify (h0 : Head) (w : Wing) (src : Source) (faulty : Option Bool) : Head :=
  runDesc h0 w .dge src 4 (fun h t o =>
    let d := t.d
    withHmacKey h w t o (dgKey d) (fun id => digestMessage h0 h t o (some id) (fun h o v =>
      withRead h o (dgDst d) (digestLen (dFlag d 4)) (fun exp =>
        compareResult (fadd h w DGE_CNT_COMPARE_COUNT) o (v == exp) faulty Ev.DGE_COMPARE_FAULT))))

/-- A wing's context-wrap key: private slot 2 or 3 (R410). -/
def ctxWrapSlot (w : Wing) : Nat := keySlotId true (2 + wingNum w)

/-- Bytes of Docent SRAM (R398). -/
def inSram (a n : Nat) : Bool := decide (a + n ≤ 2 ^ 19)

/-- A digest state record of 96 bytes (R226). -/
def stateRecord (c : Chain) : Nat :=
  c.mode % 2 + ofBool c.key.isSome <<< 8 + c.coll <<< 16 + (c.key.getD 0 % 8192) <<< 32 + (c.gen % 65536) <<< 48 +
    (c.count % 2 ^ 128) <<< 64 + (c.value % 2 ^ 512) <<< 192

/-- A record written wrapped under the wing's context-wrap key, or in the clear where it is unkeyed; CLEAR on Docent's rings writes a
keyed one in the clear in Docent SRAM (R226, R242). -/
def saveRecord (h : Head) (t : Taken) (o : EngOp) (addr n rec : Nat) (keyed : Bool) : Head :=
  if dCflag t.d 15 then
    if t.docent && inSram addr n then pushOp { h with sram := memPut h.sram addr n rec } { o with bytes := n, chained := true }
    else failOp h o .protocol
  else if !keyed then withDst h o addr n (pushOp h { o with bytes := n, chained := true, place := [⟨addr, n, rec⟩] })
  else if keyState h (ctxWrapSlot o.wing) ≠ 2 then failOp (raise h o.wing (keyRefused o.cls)) o .keyInvalid
  else
    withDst h o addr (n + 8) (pushOp h { o with
      bytes := n + 8
      chained := true
      key := some (ctxWrapSlot o.wing)
      place := [⟨addr, n + 8, Config.keyWrap (keyValue h (ctxWrapSlot o.wing)) n rec⟩] })

/-- STATE_SAVE (R225, R226): the state of the chain under way. -/
def dgeStateSave (h0 : Head) (w : Wing) (src : Source) : Head :=
  runDesc h0 w .dge src 5 (fun h t o => match chainOf h .dge w t.ring with
    | none => failOp h o .protocol
    | some c =>
      let h := setChain h .dge w t.ring none
      if c.broken then failOp h o .internal
      else if c.coll ≠ o.coll then failOp h o .collMismatch
      else saveRecord h t { o with unit := c.unit, key := c.key } (dgState t.d) 96 (stateRecord c) c.key.isSome)

/-- A record's COLL, slot and generation checked, and its chain loaded (R226); `kind` is the kind of key its slot must hold, none for an
unkeyed record. -/
def loadRecord (h0 h : Head) (t : Taken) (o : EngOp) (coll slot gen : Nat) (kind : Option Nat) (key : Nat)
    (mk : EngOp → Option Nat → Chain) : Head :=
  let load (id : Option Nat) : Head := onUnit h0 h o none (fun h o =>
    let c := mk o id
    pushOp (setChain h o.cls o.wing t.ring (some c)) { o with chained := true, key := c.key })
  if coll ≠ o.coll then failOp h o .collMismatch
  else match kind with
    | none => load none
    | some kind =>
      if slot ≠ key then failOp h o .collMismatch
      else match checkKey h o.cls o.wing t key kind with
        | .error (st, h) => failOp h o st
        | .ok id => if keyGen h id % 65536 = gen then load (some id) else failOp h o .keyInvalid

/-- STATE_RESTORE (R226). A record whose unwrap fails is an unkeyed one only where its KEYED and reserved bits read 0. -/
def dgeStateRestore (h0 : Head) (w : Wing) (src : Source) : Head :=
  runDesc h0 w .dge src 6 (fun h t o =>
    let d := t.d
    let load (rec : Nat) : Head :=
      loadRecord h0 h t o (rec >>> 16 % 4096) (rec >>> 32 % 65536) (rec >>> 48 % 65536) (if rec.testBit 8 then some 4 else none) (dgKey d)
        (fun o key => ⟨.dge, w, t.ring, o.unit, rec % 2 + 2 * ofBool key.isSome, o.coll, key, rec >>> 48 % 65536,
          rec >>> 64 % 2 ^ 128, 0, rec >>> 192 % 2 ^ 512, 0, 0, false⟩)
    if dCflag d 15 then
      if t.docent && inSram (dgState d) 96 then noChain h t o (load (memNum h.sram (dgState d) 96)) else failOp h o .protocol
    else if !privateOk t then failOp h o .protocol
    else noChain h t o (withRead h o (dgState d) 104 (fun rec =>
      match (if keyState h (ctxWrapSlot w) = 2 then Config.keyUnwrap (keyValue h (ctxWrapSlot w)) 104 rec else none) with
      | some r => load r
      | none => if rec.testBit 8 ∨ rec / 2 ^ 704 % 2 ^ 64 ≠ 0 ∨ rec / 2 % 2 ^ 15 ≠ 0 then failOp h o .checkFail
          else load (rec % 2 ^ 768))))

/-- HKDF_TO_SLOT (R223): accepted from the Foyer's internal queue and Docent's rings. The key derived under KEY from SRC goes into the
slot DST names. -/
def dgeHkdf (h0 : Head) (w : Wing) (src : Source) : Head :=
  runDesc h0 w .dge src 8 (fun h t o =>
    let d := t.d
    if !(t.internal || t.docent) then failOp h o .protocol
    else noChain h t o (withHmacKey h w t o (dgKey d) (fun id => withRead h o (dgSrc d) (dgLen d) (fun data =>
      let slot := dgDst d % 8192
      if keyState h slot ≠ 0 ∨ keyKind h slot = 0 then failOp h o .protocol
      else onUnit h0 h o none (fun h o =>
        let h := { h with keys := tabStore h.keys 0 slot (Config.hkdf (keyValue h id) (dgLen d) data) }
        let h := fset h .east KEY_SLOT_ATTR_STATE 1 slot
        let h := fset h .east KEY_SLOT_GEN_GEN ((keyGen h slot + 1) % 65536) slot
        pushOp h { o with key := some id })))))

/-! ### Codec tiles (R230 to R236) -/

/-- A label's 32 bytes as fields (R253). -/
def labelOf (n : Nat) : Label where
  guard := n % 2 ^ 64
  fptag := n >>> 64 % 2 ^ 64
  coll := n >>> 128 % 4096
  raw := n.testBit 140
  system := n.testBit 141
  sheet := n >>> 144 % 128
  gidx := n >>> 151 % 8
  panel := n >>> 154 % 32
  glen := n >>> 160 % 64
  serial := n >>> 176 % 2 ^ 48
  lcrc := n >>> 224 % 2 ^ 16

/-- The open case of a stream. -/
def openCase (h : Head) (w : Wing) (stream : Nat) : Option CaseStream :=
  h.eng.cases.find? (fun c => c.wing == w && c.stream == stream && !c.closed)

/-- The cases replaced, and CDC_STREAM.OPEN brought up to date. -/
def setCases (h : Head) (l : List CaseStream) : Head :=
  let h := { h with eng := { h.eng with cases := l } }
  foldHead h wings (fun h w => fset h w CDC_STREAM_OPEN (l.filter (fun c => c.wing == w && !c.closed)).length)

/-- The open case of a stream closed, to be compressed whole on one tile (R232). -/
def closeCase (h : Head) (w : Wing) (stream : Nat) : Head :=
  let (u, h) : Option Nat × Head := match pickUnit h .cdc w with
    | none => (none, h)
    | some (u, h) => (some u, h)
  setCases h (h.eng.cases.map (fun c =>
    if c.wing = w ∧ c.stream = stream ∧ c.closed = false then { c with closed := true, unit := u } else c))

/-- The code tables a case opens with (R231): the collection's default, static or dynamic. -/
def staticTables (h : Head) (coll tables : Nat) : Bool := tables == 1 || (tables == 0 && fget h .east CDC_COLL_CFG_TABLES coll == 1)

/-- A granule appended to a stream (R232): the first opens the case, the eighth closes it. None where the case is another
collection's. -/
def appendGranule (h : Head) (w : Wing) (stream coll dst : Nat) (static : Bool) (a : Appended) : Option Head :=
  let h := fadd h w CDC_CNT_GRANULES_COUNT
  match openCase h w stream with
  | none => some (setCases h (h.eng.cases ++ [⟨w, stream, coll, dst, static, [a], 0, false, none⟩]))
  | some c =>
    if c.coll ≠ coll then none
    else
      let h := setCases h (h.eng.cases.map (fun x => if x = c then { x with items := x.items ++ [a] } else x))
      some (if c.items.length = 7 then closeCase h w stream else h)

/-- APPEND (R231, R232). -/
def cdcAppend (h0 : Head) (w : Wing) (src : Source) : Head :=
  runDesc h0 w .cdc src 1 (fun h t o =>
    let d := t.d
    let tables := dBits d 1 8 / 16 % 4
    let label := labelOf (dBits d 28 256)
    let a : Appended := ⟨some o.tag, dBits d 8 48, label, w, 0, 0, 0, 0⟩
    if dBits d 8 48 % 64 ≠ 0 ∨ dBits d 16 48 % 512 ≠ 0 ∨ tables = 3 then failOp h o .protocol
    else withRead h o (dBits d 8 48) 4096 (fun _ => withDst h o (dBits d 16 48) 32768 (
    if label.coll ≠ o.coll then failOp h o .collMismatch
    else match appendGranule h w (dBits d 24 9) o.coll (dBits d 16 48) (staticTables h o.coll tables) a with
      | none => failOp h o .collMismatch
      | some h => pushOp h { o with ready := false })))

/-- FLUSH (R232). -/
def cdcFlush (h0 : Head) (w : Wing) (src : Source) : Head :=
  runDesc h0 w .cdc src 2 (fun h t o => pushOp (closeCase h w (dBits t.d 24 9)) o)

/-- STREAM_FLUSH_TIMEOUT (R232): the open case's first granule has waited FLUSH_FRAMES ticks. -/
def streamFlushTimeout (h : Head) (w : Wing) (stream : Nat) : Head :=
  match openCase h w stream with
  | some c => if fget h w CDC_STREAM_FLUSH_FRAMES ≤ c.age then closeCase h w stream else h
  | none => h

/-- A compressed case's bytes (R230): the 64-byte header, then the stream. -/
def caseBytes (coll count : Nat) (static : Bool) (sheets slen stream : Nat) : Nat :=
  0xCA5E + 1 <<< 16 + (count + 16 * ofBool static) <<< 24 + coll <<< 32 + sheets <<< 48 + slen <<< 64 +
    Config.crc32c slen stream <<< 96 + stream <<< 512

/-- A case as it is stored: compressed, with its sheets and bytes; or raw (R233). -/
structure Stored where
  raw : Bool
  sheets : Nat
  bytes : Nat
  deriving DecidableEq, Repr

/-- The compress pipe's result for a case's granules in GIDX order (R230, R233). -/
def compressCase (coll : Nat) (static : Bool) (granules : List Nat) : Stored :=
  let n := granules.length
  let plain := (granules.zipIdx.map (fun e => (e.1 % 2 ^ 32768) <<< (32768 * e.2))).sum
  let (slen, stream) := Config.deflate static (4096 * n) plain
  let sheets := (64 + slen + 511) / 512
  if sheets < 8 * n then ⟨false, sheets, caseBytes coll n static sheets slen (stream % 2 ^ (8 * slen))⟩ else ⟨true, 8, 0⟩

/-- The completion word of an APPEND (R233). A raw case has no tables: its STATIC reads 0. -/
def appendWord (raw static : Bool) (gidx sheet sheets : Nat) : Nat :=
  gidx + ofBool raw <<< 3 + sheet <<< 4 + sheets <<< 11 + ofBool static <<< 18

/-- Where a written case goes (R230, R233): whole at DST, or each raw granule 4,096 bytes after the one before. -/
def casePlaces (c : CaseStream) (s : Stored) (granules : List Nat) : List Placed :=
  if s.raw then granules.zipIdx.map (fun e => ⟨c.dst + 4096 * e.2, 4096, e.1⟩) else [⟨c.dst, 512 * s.sheets, s.bytes⟩]

/-- The operation of an APPEND of a case, while the case is not written. -/
def appendOf (c : CaseStream) (a : Appended) (o : EngOp) : Bool :=
  o.cls == .cdc && o.wing == c.wing && a.tag == some o.tag && !o.ready

/-- The APPENDs of a case that reads a poisoned line end with MEDIA_FAIL (R377). -/
def failAppends (h : Head) (c : CaseStream) : Head :=
  readyOps h (fun o => c.items.any (fun a => appendOf c a o)) (fun o => { o with status := .mediaFail })

/-- The APPENDs of a written case end (R233): where each granule lies is what its completion says. -/
def finishAppends (h : Head) (c : CaseStream) (s : Stored) : Head :=
  foldHead h c.items.zipIdx (fun h e => readyOps h (appendOf c e.1) (fun o =>
    if s.raw then { o with status := .doneNote, bytes := 4096, word := appendWord true false 0 (8 * e.2) 8 }
    else { o with bytes := 512 * s.sheets, word := appendWord false c.static e.2 0 s.sheets }))

/-- EXPAND of a case (R235): the checks in order, and the granule. The status, whether STREAM_ERROR is raised, and the bytes. -/
def expandCase (coll gidx guard stored data : Nat) : Status × Bool × Option Nat :=
  let slen := data >>> 64 % 2 ^ 32
  if data % 65536 ≠ 0xCA5E ∨ data >>> 16 % 256 ≠ 1 ∨ data >>> 24 % 16 ≤ gidx ∨ stored < 64 + slen then (.checkFail, true, none)
  else if data >>> 32 % 4096 ≠ coll then (.collMismatch, false, none)
  else
    let stream := data >>> 512 % 2 ^ (8 * slen)
    if data >>> 96 % 2 ^ 32 ≠ Config.crc32c slen stream % 2 ^ 32 then (.checkFail, true, none)
    else
      let r := Config.inflate slen stream ((gidx + 1) * 4096)
      if r.1 < (gidx + 1) * 4096 ∨ r.2.2 = false then (.checkFail, true, none)
      else
        let g := r.2.1 >>> (32768 * gidx) % 2 ^ 32768
        if Config.guard64 4096 g % 2 ^ 64 = guard then (.done, false, some g) else (.checkFail, false, some g)

/-- EXPAND (R235). -/
def cdcExpand (h0 : Head) (w : Wing) (src : Source) : Head :=
  runDesc h0 w .cdc src 3 (fun h t o =>
    let d := t.d
    let dst := dBits d 16 48
    let n := if dFlag d 6 then 4096 else dBits d 36 32
    withRead h o (dBits d 8 48) n (fun data => withDst h o dst 4096 (onUnit h0 h o none (fun h o =>
      let r := if dFlag d 6 then
          (if Config.guard64 4096 data % 2 ^ 64 = dBits d 28 64 then (Status.done, false, some data)
           else (Status.checkFail, false, some data))
        else expandCase o.coll (dBits d 24 3) (dBits d 28 64) n data
      let h := if r.2.1 then raise h w Ev.CDC_STREAM_ERROR else h
      match r.2.2 with
      | some g => pushOp h { o with status := r.1, bytes := 4096, place := [⟨dst, 4096, g⟩] }
      | none => pushOp h { o with status := r.1 }))))

/-- A buffer's result of a length and bytes, up to LIMIT (R236). -/
def limited (h : Head) (o : EngOp) (dst limit n v : Nat) (short : Bool) : Head :=
  if limit < n then pushOp h { o with status := .limit, bytes := limit, place := [⟨dst, limit, v % 2 ^ (8 * limit)⟩] }
  else pushOp h { o with status := if short ∧ n < limit then .limit else .done, bytes := n, place := [⟨dst, n, v⟩] }

/-- BUF_COMPRESS (R236). -/
def cdcBufCompress (h0 : Head) (w : Wing) (src : Source) : Head :=
  runDesc h0 w .cdc src 4 (fun h t o =>
    let d := t.d
    let len := dBits d 24 32
    let tables := dBits d 1 8 / 16 % 4
    if len = 0 ∨ 2 ^ 20 < len ∨ tables = 3 then failOp h o .protocol
    else withRead h o (dBits d 8 48) len (fun data => withDst h o (dBits d 16 48) (dBits d 28 32)
      (onUnit h0 h o none (fun h o =>
        let r := Config.deflate (staticTables h o.coll tables) len data
        limited h o (dBits d 16 48) (dBits d 28 32) r.1 (r.2 % 2 ^ (8 * r.1)) false))))

/-- BUF_EXPAND (R236). -/
def cdcBufExpand (h0 : Head) (w : Wing) (src : Source) : Head :=
  runDesc h0 w .cdc src 5 (fun h t o =>
    let d := t.d
    let len := dBits d 24 32
    let limit := dBits d 28 32
    if len = 0 ∨ 2 ^ 20 < len then failOp h o .protocol
    else withRead h o (dBits d 8 48) len (fun data => withDst h o (dBits d 16 48) limit
      (onUnit h0 h o none (fun h o =>
        let r := Config.inflate len data (limit + 1)
        if r.2.2 = false then pushOp h { o with status := .checkFail }
        else limited h o (dBits d 16 48) limit r.1 (r.2.1 % 2 ^ (8 * r.1)) true))))

/-! ### Cipher tiles (R237 to R242) -/

def cpSrc (d : Desc) : Nat := dBits d 8 48
def cpDst (d : Desc) : Nat := dBits d 16 48
def cpLen (d : Desc) : Nat := dBits d 24 32
def cpKey (d : Desc) : Nat := dBits d 28 13
def cpAux (d : Desc) : Nat := dBits d 48 48
def cpAuxLen (d : Desc) : Nat := dBits d 56 32

/-- The tweak of sheet j of a case (R238): the locator with bits 3:0 cleared and bits 10:4 SHEET + j, and COLL in bits 75:64. -/
def mediaTweak (loc coll j : Nat) : Nat := loc / 2 ^ 11 * 2 ^ 11 + ((loc >>> 4 + j) % 128) <<< 4 + (coll % 4096) <<< 64

/-- Media XTS over the sheets of a case. -/
def mediaXts (enc : Bool) (key loc coll len data : Nat) : Nat :=
  ((List.range (len / 512)).map (fun j =>
    (Config.xts enc key (mediaTweak loc coll j) 512 (data >>> (4096 * j) % 2 ^ 4096) % 2 ^ 4096) <<< (4096 * j))).sum

/-- A media length and its sheets are in range (R238). -/
def mediaOk (loc len : Nat) : Bool :=
  len % 512 == 0 && decide (512 ≤ len) && decide (len ≤ 32768) && decide (loc >>> 4 % 128 + len / 512 ≤ 128)

/-- A cipher operation's key, loaded in its tile (R220, R221). -/
def withCipherKey (h : Head) (w : Wing) (t : Taken) (o : EngOp) (kind : Nat) (f : Nat → Head) : Head :=
  match checkKey h .cph w t (cpKey t.d) kind with
  | .error (st, h) => failOp h o st
  | .ok id => f id

/-- A one-to-one cipher operation of LEN bytes from SRC to DST. -/
def cipherMove (h0 h : Head) (w : Wing) (t : Taken) (o : EngOp) (f : Nat → Nat → Nat) : Head :=
  let d := t.d
  noChain h t o (withCipherKey h w t o 1 (fun id => withRead h o (cpSrc d) (cpLen d) (fun data => withDst h o (cpDst d) (cpLen d)
    (onUnit h0 h o none (fun h o =>
      pushOp (loadKey h w o.unit id) { o with
        key := some id
        bytes := cpLen d
        place := [⟨cpDst d, cpLen d, f (keyValue h id) data⟩] })))))

/-- XTS_ENC and XTS_DEC (R238, R239). -/
def cphXts (h0 : Head) (w : Wing) (src : Source) (enc : Bool) : Head :=
  runDesc h0 w .cph src (if enc then 1 else 2) (fun h t o =>
    let d := t.d
    let len := cpLen d
    if dFlag d 4 then
      if len < 16 ∨ 2 ^ 24 < len then failOp h o .protocol
      else cipherMove h0 h w t o (fun k data => Config.xts enc k (dBits d 32 128) len data % 2 ^ (8 * len))
    else if !mediaOk (dBits d 32 64) len then failOp h o .protocol
    else cipherMove h0 h w t o (fun k data => mediaXts enc k (dBits d 32 64) o.coll len data))

/-- XTS_RECRYPT (R238). -/
def cphRecrypt (h0 : Head) (w : Wing) (src : Source) : Head :=
  runDesc h0 w .cph src 3 (fun h t o =>
    let d := t.d
    let len := cpLen d
    if !(mediaOk (dBits d 32 64) len && mediaOk (dBits d 40 64) len) then failOp h o .protocol
    else cipherMove h0 h w t o (fun k data =>
      mediaXts true k (dBits d 40 64) o.coll len (mediaXts false k (dBits d 32 64) o.coll len data)))

/-- The modes of a cipher chain (R242), as their records name them. -/
def gcmMode : Nat := 4
def cmacMode : Nat := 6

/-- The GCM key of a slot's value, and its salt (R240, R409). -/
def gcmKey (v : Nat) : Nat := v % 2 ^ 256
def gcmSalt (v : Nat) : Nat := v >>> 256 % 2 ^ 32

/-- GCM_ENC (R240): the hardware's nonce, LEN bytes of ciphertext and the tag. -/
def cphGcmEnc (h0 : Head) (w : Wing) (src : Source) : Head :=
  runDesc h0 w .cph src 4 (fun h t o =>
    let d := t.d
    let len := cpLen d
    withCipherKey h w t o 2 (fun id => meetChain h t o gcmMode (some id) (fun c =>
      let k := gcmKey (keyValue h id)
      let ctr := tabGet h.eng.gcmCount 0 id
      if c.isNone ∧ 2 ^ 48 ≤ ctr then raise (failOp h o .keyInvalid) w Ev.CPH_NONCE_EXHAUSTED
      else if 65536 < cpAuxLen d ∨ (dFlag d 6 ∧ (len % 16 ≠ 0 ∨ dChain d = false)) then failOp h o .protocol
      else withRead h o (cpSrc d) len (fun data => withRead h o (cpAux d) (if c.isNone then cpAuxLen d else 0) (fun aad =>
        withDst h o (cpDst d) ((if c.isNone then 12 else 0) + len + (if dFlag d 6 then 0 else 16)) (onUnit h0 h o c (fun h o =>
          let h := loadKey h w o.unit id
          let nonce := match c with
            | some c => c.nonce
            | none => gcmSalt (keyValue h id) + ctr <<< 32
          let pos := (c.map (·.count)).getD 0
          let alen := match c with
            | some c => c.aadLen
            | none => cpAuxLen d
          let acc := match c with
            | some c => c.value
            | none => Config.gcmHash k 0 (cpAuxLen d) aad
          let ct := Config.gcmCrypt k nonce pos len data % 2 ^ (8 * len)
          let acc := Config.gcmHash k acc len ct
          let h := if c.isNone then { h with eng := { h.eng with gcmCount := tabPut h.eng.gcmCount id (ctr + 1) } } else h
          let pre : List Placed := if c.isNone then [⟨cpDst d, 12, nonce⟩] else []
          let at' := cpDst d + (if c.isNone then 12 else 0)
          let o := { o with key := some id, word := nonce >>> 32 }
          if dFlag d 6 then
            let c' : Chain := ⟨.cph, w, t.ring, o.unit, gcmMode, o.coll, some id, keyGen h id, pos + len, alen, acc, nonce, alen, false⟩
            pushOp (setChain h .cph w t.ring (some c')) { o with
              chained := true
              bytes := placedLen pre + len
              place := pre ++ [⟨at', len, ct⟩] }
          else
            let tag := Config.gcmTag k nonce acc alen (pos + len) % 2 ^ 128
            pushOp (setChain h .cph w t.ring none) { o with
              bytes := placedLen pre + len + 16
              place := pre ++ [⟨at', len, ct⟩, ⟨at' + len, 16, tag⟩] }))))))) 

/-- GCM_DEC (R240): the plaintext is written only after the tag has verified. -/
def cphGcmDec (h0 : Head) (w : Wing) (src : Source) : Head :=
  runDesc h0 w .cph src 5 (fun h t o =>
    let d := t.d
    let len := cpLen d
    if 16384 < len ∨ dFlag d 6 ∨ 65536 < cpAuxLen d then failOp h o .protocol
    else noChain h t o (withCipherKey h w t o 2 (fun id => withRead h o (cpSrc d) (len + 28) (fun m => withRead h o (cpAux d) (cpAuxLen d) (fun aad =>
      withDst h o (cpDst d) len (onUnit h0 h o none (fun h o =>
        let h := loadKey h w o.unit id
        let k := gcmKey (keyValue h id)
        let nonce := m % 2 ^ 96
        let ct := m >>> 96 % 2 ^ (8 * len)
        let acc := Config.gcmHash k (Config.gcmHash k 0 (cpAuxLen d) aad) len ct
        if Config.gcmTag k nonce acc (cpAuxLen d) len % 2 ^ 128 = m >>> (96 + 8 * len) then
          pushOp h { o with
            key := some id
            bytes := len
            place := [⟨cpDst d, len, Config.gcmCrypt k nonce 0 len ct % 2 ^ (8 * len)⟩] }
        else pushOp (fadd h w CPH_CNT_TAG_FAIL_COUNT) { o with key := some id, status := .checkFail })))))))

/-- A CMAC message or a segment of one (R241); the last gives the 128-bit MAC to `fin`. -/
def cmacMessage (h0 h : Head) (w : Wing) (t : Taken) (o : EngOp) (fin : Head → EngOp → Nat → Head) : Head :=
  let d := t.d
  let len := cpLen d
  withCipherKey h w t o 3 (fun id => meetChain h t o cmacMode (some id) (fun c =>
    let v := (c.map (·.value)).getD 0
    if dFlag d 6 ∧ (len % 16 ≠ 0 ∨ dChain d = false) then failOp h o .protocol
    else withRead h o (cpSrc d) len (fun data => onUnit h0 h o c (fun h o =>
      let h := loadKey h w o.unit id
      let k := keyValue h id
      if dFlag d 6 then
        let n := (c.map (·.count)).getD 0 + len
        let c' : Chain := ⟨.cph, w, t.ring, o.unit, cmacMode, o.coll, some id, keyGen h id, n, 0, Config.cmacAbsorb k v len data, 0, 0, false⟩
        pushOp (setChain h .cph w t.ring (some c')) { o with chained := true, key := some id }
      else fin (setChain h .cph w t.ring none) { o with key := some id } (Config.cmacFinish k v len data % 2 ^ 128)))))

/-- CMAC (R241): WORD is the leftmost 64 bits; with CMAC128 DST receives all 128. -/
def cphCmac (h0 : Head) (w : Wing) (src : Source) : Head :=
  runDesc h0 w .cph src 6 (fun h t o => cmacMessage h0 h w t o (fun h o mac =>
    if dFlag t.d 5 then
      withDst h o (cpDst t.d) 16 (pushOp h { o with bytes := 16, word := mac % 2 ^ 64, place := [⟨cpDst t.d, 16, mac⟩] })
    else pushOp h { o with word := mac % 2 ^ 64 }))

/-- CMAC_VERIFY (R241): compared with the 8 or 16 bytes at AUX. -/
def cphCmacVerify (h0 : Head) (w : Wing) (src : Source) (faulty : Option Bool) : Head :=
  runDesc h0 w .cph src 7 (fun h t o =>
    let n := if dFlag t.d 5 then 16 else 8
    cmacMessage h0 h w t o (fun h o mac => withRead h o (cpAux t.d) n (fun exp =>
      let same := mac % 2 ^ (8 * n) == exp
      compareResult (if same then h else fadd h w CPH_CNT_TAG_FAIL_COUNT) o same faulty Ev.CPH_COMPARE_FAULT)))

/-- A cipher chain's record of 80 bytes (R242). -/
def ctxRecord (c : Chain) : Nat :=
  c.mode + c.coll <<< 16 + (c.key.getD 0 % 8192) <<< 32 + (c.gen % 65536) <<< 48 + (c.count % 2 ^ 64) <<< 64 +
    (c.aadLen % 2 ^ 64) <<< 128 + (c.nonce % 2 ^ 128) <<< 192 + (c.value % 2 ^ 128) <<< 320

/-- CTX_SAVE (R242). -/
def cphCtxSave (h0 : Head) (w : Wing) (src : Source) : Head :=
  runDesc h0 w .cph src 8 (fun h t o => match chainOf h .cph w t.ring with
    | none => failOp h o .protocol
    | some c =>
      let h := setChain h .cph w t.ring none
      if c.broken then failOp h o .internal
      else if c.coll ≠ o.coll then failOp h o .collMismatch
      else saveRecord h t { o with unit := c.unit, key := c.key } (cpAux t.d) 80 (ctxRecord c) true)

/-- CTX_RESTORE (R242). -/
def cphCtxRestore (h0 : Head) (w : Wing) (src : Source) : Head :=
  runDesc h0 w .cph src 9 (fun h t o =>
    let d := t.d
    let load (rec : Nat) : Head :=
      loadRecord h0 h t o (rec >>> 16 % 4096) (rec >>> 32 % 65536) (rec >>> 48 % 65536) (some (if rec % 256 = gcmMode then 2 else 3)) (cpKey d)
        (fun o key => ⟨.cph, w, t.ring, o.unit, rec % 256, o.coll, key, rec >>> 48 % 65536, rec >>> 64 % 2 ^ 64,
          rec >>> 128 % 2 ^ 64, rec >>> 320 % 2 ^ 128, rec >>> 192 % 2 ^ 128, rec >>> 128 % 2 ^ 64, false⟩)
    if dCflag d 15 then
      if t.docent && inSram (cpAux d) 80 then noChain h t o (load (memNum h.sram (cpAux d) 80)) else failOp h o .protocol
    else if !privateOk t then failOp h o .protocol
    else if keyState h (ctxWrapSlot w) ≠ 2 then failOp (raise h w Ev.CPH_KEY_REFUSED) o .keyInvalid
    else noChain h t o (withRead h o (cpAux d) 88 (fun rec =>
      match Config.keyUnwrap (keyValue h (ctxWrapSlot w)) 88 rec with
      | some r => load r
      | none => failOp h o .checkFail)))

/-- KEY_WRAP and KEY_UNWRAP (R237): Docent's own rings only; SRC and DST lie in Docent SRAM. -/
def cphKeyWrap (h0 : Head) (w : Wing) (src : Source) (wrap : Bool) : Head :=
  runDesc h0 w .cph src (if wrap then 10 else 11) (fun h t o =>
    let d := t.d
    let len := cpLen d
    let n := if wrap then len + 8 else len - 8
    if !t.docent || !inSram (cpSrc d) len || !inSram (cpDst d) n then failOp h o .protocol
    else noChain h t o (withCipherKey h w t o 5 (fun id => onUnit h0 h o none (fun h o =>
      let h := loadKey h w o.unit id
      let v := memNum h.sram (cpSrc d) len
      let r := if wrap then some (Config.keyWrap (keyValue h id) len v) else Config.keyUnwrap (keyValue h id) len v
      match r with
      | some x => pushOp { h with sram := memPut h.sram (cpDst d) n x } { o with key := some id, bytes := n }
      | none => pushOp h { o with key := some id, status := .checkFail }))))

/-! ### Key erasure (R222) -/

/-- KEY_ERASE (R222, R413): every slot, tile register, digest key state, fingerprint state and context-wrap key is zeroed, the operations
in progress on the three families' units end with ABORTED, and KEYS_ERASED is raised on both CPH pages. A key a slot held is gone; its
attributes, its generation and the binding table stay. A case of an accession batch, an internal requester's, is compressed again. The
chaining state of an unkeyed message is lost with its unit's (R218); an APPEND whose case is written is no longer in progress. -/
def keyErase (h : Head) : Head :=
  let h := { h with keys := [] }
  let h := foldHead h (List.range 8256) (fun h id => if keyState h id = 0 then h else fset h .east KEY_SLOT_ATTR_STATE 0 id)
  let h := fset h .east KEY_STATUS_ACTIVE 0
  let closedTags (o : EngOp) : Bool := !h.eng.cases.any (fun c => !c.closed && c.wing == o.wing && c.items.any (fun a => a.tag == some o.tag))
  let h := abortOps h (fun o => o.cls == .dge || o.cls == .cph || (o.cls == .cdc && (if o.ready then o.place != [] else closedTags o))) 16
  let h := setCases h (h.eng.cases.filter (fun c => !c.closed || c.items.any (fun a => a.tag.isNone)))
  let h := { h with eng := { h.eng with
    chains := (h.eng.chains.filter (fun c => c.key.isNone)).map (fun c => { c with broken := true })
    fpStates := []
    tileKeys := [] } }
  let h := foldHead h wings (fun h w =>
    let h := fset h w DGE_FP_STATES_HELD 0
    let h := fset h w CPH_ERASE_ERASED 1
    fadd h w CPH_ERASE_COUNT)
  raise (raiseBoth h Ev.CPH_KEYS_ERASED) .east Ev.KEY_ERASED

end Sys2Proof.Machine
end

