-- ==== Sys2Proof/Machine/Catalogue.lean ====
section
/-! DEFINITION. The Catalogue (R183 to R198, R212, R213): namespace commands, editions, checkpoints, page-ins, the Catalogue cache. -/

namespace Sys2Proof.Machine

open Reg

/-! ### Namespace commands (R184, R193, R195, R212) -/

/-- The arguments of a namespace command, as the CAT page's registers hold them. -/
def argNsid (h : Head) : Nat := fget h .east CAT_NS_ID_NSID
def argAttr (h : Head) : Nat := (rd h (pg .cat .east) 0x060 0).toNat
def argSize (h : Head) : Nat := pget h .east CAT_NS_SIZE_LO_SIZE CAT_NS_SIZE_HI_SIZE
def argEdition (h : Head) : Nat := fget h .east CAT_NS_EDITION_NUMBER

/-- The NSID of the namespace CAT_NS_INDEX selects, 0 where its entry is free. -/
def selectedNs (h : Head) : Option Namespace := tabGet? h.cat.nss (fget h .east CAT_NS_INDEX_INDEX)

/-- A namespace command's result (R212). -/
def nsResult (h : Head) (st : Status) : Head :=
  raise (fset (fset h .east CAT_NS_STATUS_BUSY 0) .east CAT_NS_STATUS_RESULT (statusCode st)) .east Ev.CAT_NS_CMD_DONE

/-- A namespace command written to CAT_NS_CMD; on CAT.W the register is read-only, and while one runs a write is ignored and raises
CONFIG (R212). -/
def nsCommand (h : Head) (ini : Initiator) (w : Wing) (f : Head → Head) : Head :=
  withWrite h ini (pg .cat w) 0x070 (fun h =>
    if w = .west then h
    else if h.cat.busy.isSome then config h (pg .cat w) ⟨11, sourceCode ini, true, pageAddr (pg .cat w) + 0x070⟩
    else f h)

/-- A CREATE or EXPOSE of a namespace breaks no limit of R183. -/
def nsFits (h : Head) (nsid coll : Nat) (home : Wing) (size : Nat) : Bool :=
  decide (1 ≤ nsid) && decide (nsid ≤ 0xFFFFFFFE) && (nsGet? h nsid).isNone && (freeNs h).isSome &&
    decide (1 ≤ size) && decide (size ≤ 2 ^ 41) && decide ((nsOfColl h coll).length < 64) &&
    (nsOfColl h coll).all (fun n => n.home == home) && (match tabGet? h.bindings coll with
      | some b => b.home == home
      | none => true)

/-- A namespace change sent to the peer (R191). -/
def sendNsChange (h : Head) (n : Namespace) (attr newSize oldSize : Nat) : Head :=
  sendUpdate h n.home n.coll [⟨n.nsid, 0, nsChange, attr % 2 ^ 32, newSize, oldSize⟩]

/-- CREATE (R183, R184). -/
def nsCreate (h : Head) : Head :=
  let attr := argAttr h
  let coll := attr % 4096
  let n := newNs (argNsid h) attr (argSize h) true (attr.testBit 28)
  if (nsOfColl h coll).any (fun n => !n.owned) then nsResult h .fenced
  else if !nsFits h n.nsid coll n.home n.size then nsResult h .limit
  else nsResult (sendNsChange (addNs h n) n attr n.size 0) .done

/-- A command on the namespace CAT_NS_ID names: FENCED where this head does not own it (R184). -/
def onOwned (h : Head) (f : Head → Namespace → Head) : Head :=
  match nsGet? h (argNsid h) with
  | none => nsResult h .protocol
  | some n => if n.owned then f h n else nsResult h .fenced

/-- A leaf version released: one reference dropped for each mapped locator (R195). -/
def releaseLeaf (h : Head) (coll : Nat) (lf : Leaf) : Head := refDownAll h coll (lf.ents.map (·.2))

/-- DELETE (R184): the table entry goes, with the references its leaf versions hold (R207). An exposed edition goes by UNEXPOSE. -/
def nsDelete (h : Head) : Head :=
  onOwned h (fun h n =>
    if n.readOnly then nsResult h .protocol
    else
      let h := foldHead h (leafVersions n) (fun h lf => releaseLeaf h n.coll lf)
      nsResult (sendNsChange (syncEditions (removeNs h n.nsid)) n (argAttr h) 0 n.size) .done)

/-- RESIZE (R183, R184). -/
def nsResize (h : Head) : Head :=
  onOwned h (fun h n =>
    let size := argSize h
    if size = 0 ∨ 2 ^ 41 < size then nsResult h .limit
    else nsResult (sendNsChange (nsUpd h n.nsid (fun n => { n with size := size })) n (argAttr h) size n.size) .done)

/-- Editions of the pair. -/
def pairEditions (h : Head) : Nat := (h.cat.nss.map (fun e => e.2.editions.length)).sum

/-- A namespace frozen at an edition number (R193): the edition point goes to the peer, the namespace's dirty pages are written, and the
edition takes their root. -/
def freezeNs (h : Head) (n : Namespace) (number : Nat) : Head :=
  let h := syncStore (addEdition (writeMap h n.nsid) n.nsid number)
  sendUpdate h n.home n.coll [⟨n.nsid, 2, number, 0, 0, 0⟩]

/-- FREEZE (R193). -/
def nsFreeze (h : Head) : Head :=
  onOwned h (fun h n =>
    if argEdition h ≤ n.lastEdition then nsResult h .protocol
    else if 16384 ≤ n.editions.length ∨ 1048576 ≤ pairEditions h then
      raise (nsResult h .noResource) .east Ev.CAT_EDITION_LIMIT
    else nsResult (freezeNs h n (argEdition h)) .done)

/-- EDITION_DELETE (R195, R359): the walk starts; it ends in the deaccession budget. -/
def editionDelete (h : Head) : Head :=
  onOwned h (fun h n =>
    match editionOf n (argEdition h) with
    | none => nsResult h .protocol
    | some e =>
      if e.exposedAs.isSome ∨ h.cat.heldEditions.contains (n.coll, e.number) then nsResult h .protocol
      else fset { h with cat := { h.cat with busy := some (n.nsid, e.number) } } .east CAT_NS_STATUS_BUSY 1)

/-- The walk of an EDITION_DELETE ends (R195): what only the edition held is released, and "edition deleted" is sent. -/
def endWalk (h : Head) : Head :=
  match h.cat.busy with
  | none => h
  | some (nsid, number) =>
    let h := { h with cat := { h.cat with busy := none } }
    match nsGet? h nsid with
    | none => nsResult h .protocol
    | some n => match editionOf n number with
      | none => nsResult h .protocol
      | some e =>
        let h := foldHead h (ownLeaves n e) (fun h lf => releaseLeaf h n.coll lf)
        nsResult (sendUpdate (dropEdition h nsid number) n.home n.coll [⟨nsid, 2, number, 0, 0, 1⟩]) .done

/-- The walk of a discarded live map ends (R357): what only it held is released. -/
def endDiscard (h : Head) : Head :=
  foldHead { h with cat := { h.cat with discarded := [] } } h.cat.discarded (fun h x => releaseLeaf h x.1 x.2)

/-- A namespace's edition marked as exposed or not. -/
def setExposed (h : Head) (nsid number : Nat) (as : Option Nat) : Head :=
  nsUpd h nsid (fun n => { n with editions := n.editions.map (fun e => if e.number = number then { e with exposedAs := as } else e) })

/-- A command on an edition of the namespace CAT_NS_INDEX selects. -/
def onEdition (h : Head) (f : Head → Namespace → Edition → Head) : Head :=
  match selectedNs h with
  | none => nsResult h .protocol
  | some n =>
    if !n.owned then nsResult h .fenced
    else match editionOf n (argEdition h) with
      | none => nsResult h .protocol
      | some e => f h n e

/-- EXPOSE (R195): an edition of the selected namespace becomes the read-only namespace CAT_NS_ID names. It counts no references. -/
def nsExpose (h : Head) : Head :=
  onEdition h (fun h n e =>
    if e.exposedAs.isSome then nsResult h .protocol
    else if !nsFits h (argNsid h) n.coll n.home n.size then nsResult h .limit
    else
      let x : Namespace := { n with
        nsid := argNsid h, readOnly := true, lastEdition := 0, editions := [], leaves := e.leaves, pages := e.pages }
      nsResult (addNs (setExposed h n.nsid e.number (some x.nsid)) x) .done)

/-- UNEXPOSE (R195). -/
def nsUnexpose (h : Head) : Head :=
  onEdition h (fun h n e =>
    match e.exposedAs with
    | none => nsResult h .protocol
    | some x => nsResult (removeNs (setExposed h n.nsid e.number none) x) .done)

/-- What the CAT page's argument registers and the namespace's own show when read: the namespace CAT_NS_INDEX selects (R212). None
for any other register. -/
def nsView (h : Head) (off : Nat) : Option Nat :=
  let n := selectedNs h
  match off with
  | 0x05C => some ((n.map (·.nsid)).getD 0)
  | 0x060 => some (match n with
    | none => 0
    | some n => 1 <<< 31 + ofBool n.readOnly <<< 30 + ofBool n.owned <<< 29 + ofBool n.prefThis <<< 28 + wingNum n.home <<< 27 + n.coll)
  | 0x064 => some ((n.map (·.size)).getD 0 % 2 ^ 32)
  | 0x068 => some ((n.map (·.size)).getD 0 >>> 32)
  | 0x074 => some (putBits (rd h (pg .cat .east) 0x074 0) 14 0 ((n.map (·.editions.length)).getD 0)).toNat
  | 0x078 => some ((n.map (·.lastEdition)).getD 0)
  | _ => none

/-! ### Checkpoints (R188 to R191) -/

/-- CKPT_NOW (R190). -/
def ckptNow (h : Head) (ini : Initiator) (w : Wing) : Head := withWrite h ini (pg .cat w) 0x040 startCheckpoint

/-- CKPT_INTERVAL (R190): INTERVAL × 1,000 frames since the last one began. -/
def ckptInterval (h : Head) : Head :=
  if 1000 * fget h .east CAT_CKPT_INTERVAL ≤ h.cat.frames then startCheckpoint h else h

/-- CKPT_DONE (R190, R191): the record is acknowledged at its locator; the marker goes to the peer, the journal is trimmed of the head's
own entries up to the cut, and the checkpoint is what flash holds. -/
def ckptDone (h : Head) (loc ms : Nat) : Head :=
  if !fbit h .east CAT_CKPT_STATUS_IN_PROGRESS then h
  else
    let c := (fget h .east CAT_CKPT_LAST_NUMBER + 1) % 2 ^ 32
    let h := fset (fset h .east CAT_CKPT_STATUS_IN_PROGRESS 0) .east CAT_CKPT_STATUS_LAST_MS (min ms 65535)
    let h := fset h .east CAT_CKPT_LAST_NUMBER c
    let h := if hasPeer h then (anxRequest h .east 0 (.catUpdate [⟨0, 0, c, 0, loc, 0⟩])).2 else h
    let h := syncJournal { syncStore h with cat := { h.cat with
      journal := (h.cat.journal.take h.cat.cut).filter isPeerEntry ++ h.cat.journal.drop h.cat.cut
      cut := 0
      flash := h.cat.cutSnap
      flashSeal := h.cat.cutSeal
      cutSnap := none } }
    raise h .east Ev.CAT_CKPT_DONE

/-- PAGE_IN (R187, R188): a page read from flash arrives, and the lookups that wait for it go on. A page whose seal fails is rebuilt once;
where the rebuilt one fails too, the commands that need it end with CHECK_FAIL. -/
def pageIn (h : Head) (nsid leaf : Nat) (sealOk rebuiltOk : Bool) : Head :=
  let w := homeOf h nsid
  let h := fadd h w CAT_CNT_PAGEIN_COUNT
  if sealOk then usePath h nsid leaf
  else
    let h := raise (fadd h w CAT_CNT_SEAL_COUNT) w Ev.CAT_SEAL_FAIL
    if rebuiltOk then usePath h nsid leaf
    else
      let needs (c : Capsule) : Bool := c.nsid == nsid && decide (c.slba < 512 * (leaf + 1)) && decide (512 * leaf < c.slba + c.count)
      { h with foy := { h.foy with cmds := tabMap h.foy.cmds (fun _ c =>
        if needs c.cap then { c with failed := some .checkFail } else c) } }

/-! ### The Catalogue cache (R196 to R198, R213) -/

/-- A bit of a way field set or cleared. -/
def wayBit (h : Head) (w : Wing) (f : Fld) (k : Nat) (on : Bool) : Head := fsetBit h w f k on

/-- Ways on their way out of allocation are cleaned (R197). -/
def cleanWay (h : Head) (w : Wing) (k : Nat) : Head := wayBit h w CCH_WAY_STATE_CLEANING k true

/-- The effect of a word written to CCH_WAY_EN (R197, R198): a fenced way is not enabled; no way left is a reserved encoding. -/
def wayEnEffect (h : Head) (src : Nat) (w : Wing) (v : Word) : Head :=
  let addr := pageAddr (pg .cch w) + 0x040
  let fenced := fget h w CCH_FENCED_WAYS
  let was := fget h w CCH_WAY_EN_WAYS
  let want := bitsOf v 15 0
  if want &&& fenced ≠ 0 then config h (pg .cch w) ⟨11, src, true, addr⟩
  else
    let h := if want = 0 then config h (pg .cch w) ⟨4, src, true, addr⟩ else h
    let now := if want = 0 then 0xFFFF &&& (0xFFFF ^^^ fenced) else want
    let h := fset h w CCH_WAY_EN_WAYS now
    foldHead h (List.range 16) (fun h k =>
      if was.testBit k && !now.testBit k then cleanWay h w k
      else if !was.testBit k && now.testBit k then wayBit h w CCH_WAY_STATE_DARK k false
      else h)

/-- WAY_EN_WRITE (R197). -/
def wayEnWrite (h : Head) (ini : Initiator) (w : Wing) (v : Word) : Head :=
  withWrite h ini (pg .cch w) 0x040 (fun h => wayEnEffect h (sourceCode ini) w v)

/-- WAY_CLEAN_DONE (R197): the way goes dark, unless it was enabled again while it was cleaned. -/
def wayCleanDone (h : Head) (w : Wing) (k micros : Nat) : Head :=
  if !(fget h w CCH_WAY_STATE_CLEANING).testBit k then h
  else
    let h := wayBit (emptyWay h w k) w CCH_WAY_STATE_CLEANING k false
    let h := if (fget h w CCH_WAY_EN_WAYS).testBit k then h else wayBit h w CCH_WAY_STATE_DARK k true
    raise (fmax h w CCH_CLEAN_MAX_MICROS micros) w Ev.CCH_CLEAN_DONE

/-- WAY_ECC_FENCE (R198, R213): corrected errors of a way; above the threshold within 1,024 frames it is cleaned and fenced. -/
def wayEccFence (h : Head) (w : Wing) (k errors : Nat) : Head :=
  let key := 16 * wingNum w + k
  let now := frameCount h
  let l := (tabGet h.cat.wayErrors [] key).filter (fun f => decide (now < f + 1024)) ++ List.replicate errors now
  let h := { h with cat := { h.cat with wayErrors := tabPut h.cat.wayErrors key l } }
  let h := fset (fadd h w CCH_ECC_CORRECTED errors) w CCH_ECC_LAST_WAY k
  if l.length ≤ fget h w CCH_ECC_THRESH_COUNT ∨ (fget h w CCH_FENCED_WAYS).testBit k then h
  else
    let h := wayBit h w CCH_WAY_EN_WAYS k false
    raise (wayBit (cleanWay h w k) w CCH_FENCED_WAYS k true) w Ev.CCH_WAY_FENCED

/-- The page a cache line is of (R196). -/
def pageOfLine (line : Nat) (p : ResPage) : Bool :=
  p.nsid == line >>> 41 && p.level == line >>> 38 % 8 && p.page == line >>> 5 % 2 ^ 33

/-- LINE_ECC (R198): an uncorrectable error on a line of a set and way. A clean line is fetched again. A dirty one is lost: its page is
loaded again from flash and rebuilt from the journal, and what needs it waits for that page-in. -/
def lineEcc (h : Head) (w : Wing) (set way : Nat) : Head :=
  match tabGet? h.cat.lines (lineKey w set way) with
  | none => h
  | some l =>
    if !l.dirty then h
    else
      let h := { h with cat := { h.cat with
        lines := tabDel h.cat.lines (lineKey w set way)
        resident := h.cat.resident.filter (fun p => !pageOfLine l.line p) } }
      raise (fadd h w CCH_LOST_COUNT) w Ev.CCH_LINE_LOST

end Sys2Proof.Machine
end

