-- ==== Sys2Proof/Machine/Registrar.lean ====
section
/-! DEFINITION. The Registrar (R199 to R210): accession batches, duplicates, the summary filter, compare mode, reindexing, the replay
after a takeover. -/

namespace Sys2Proof.Machine

open Reg

/-! ### Fingerprints and the filter (R199, R202) -/

/-- A granule's fingerprint under its collection's fingerprint key, byte 0 lowest (R199). -/
def fingerprint (h : Head) (slot data : Nat) : Nat := dgFinish h false (some slot) (dgInit h false (some slot)) 0 4096 data

/-- The 64-byte block of a collection's filter region that a fingerprint uses: bytes 8 to 15 modulo the region's block count. -/
def filterBlock (fp mib : Nat) : Nat := swapBytes (fp >>> 64 % 2 ^ 64) 8 % (16384 * mib)

/-- The six bits set and tested, as bit numbers of the region: the six 9-bit fields at the top of bytes 16 to 23. -/
def filterBits (fp mib : Nat) : List Nat :=
  let v := swapBytes (fp >>> 128 % 2 ^ 64) 8
  (List.range 6).map (fun i => 512 * filterBlock fp mib + v >>> (55 - 9 * i) % 512)

/-- The size of a collection's region, in MiB. -/
def filterMib (h : Head) (coll : Nat) : Nat := fget h .east RGS_COLL_FILTER_SIZE_MIB coll

/-- The filter says that a fingerprint may be indexed; with no region every lookup reads its bucket (R214). -/
def filterHit (h : Head) (coll fp : Nat) : Bool :=
  filterMib h coll == 0 || (filterBits fp (filterMib h coll)).all (fun b => (tabGet h.cat.filter [] coll).contains b)

/-- A fingerprint's bits set; FILTER_SATURATED when half of the region's bits are. -/
def filterInsert (h : Head) (w : Wing) (coll fp : Nat) : Head :=
  let mib := filterMib h coll
  if mib = 0 then h
  else
    let old := tabGet h.cat.filter [] coll
    let new := (filterBits fp mib).foldl (fun l b => if l.contains b then l else l ++ [b]) old
    let half := mib * 2 ^ 22
    let h := { h with cat := { h.cat with filter := tabPut h.cat.filter coll new } }
    if old.length < half ∧ half ≤ new.length then raise h w Ev.RGS_FILTER_SATURATED else h

/-! ### Accession (R203 to R206) -/

/-- A locator's case reported to the Conservator (R205, R266, R327). -/
def reportCase (h : Head) (job : Job) (loc : Nat) : Head :=
  match serialHall h (locSerial loc) with
  | none => h
  | some r => { h with gal := { h.gal with work := h.gal.work ++ [⟨job, r.hall, r.row, locPanel loc, some (locSheet loc), none⟩] } }

/-- A version of a slot. -/
def slotOf (h : Head) (w : Wing) (seq : Nat) : Option Slot :=
  h.vit.slots.find? (fun s => s.wing == w && s.wseq == seq && isOwnDirty s.st)

/-- A newer version of the granule has committed, or a Write Zeroes has taken its place (R91, R144): this one's Catalogue update is
discarded. -/
def stale (h : Head) (s : Slot) : Bool := s.superseded || outdated h.vit.slots s

/-- Accession of a namespace is stopped (R166): its dirty slots stay dirty. -/
def accStopped (h : Head) (nsid : Nat) : Bool := (nsGet? h nsid).any (·.accStop)

/-- A slot's state set. -/
def setSlotState (h : Head) (w : Wing) (seq : Nat) (st : SlotState) : Head :=
  setSlots h (h.vit.slots.map (fun s => if s.wing = w ∧ s.wseq = seq ∧ isOwnDirty s.st then { s with st := st } else s))

/-- A slot's label given its FPTAG (R254). -/
def setFptag (h : Head) (w : Wing) (seq fp : Nat) : Head :=
  { h with vit := { h.vit with slots := h.vit.slots.map (fun s =>
    if s.wing = w ∧ s.wseq = seq ∧ isOwnDirty s.st then { s with label := withCrc { s.label with fptag := fp % 2 ^ 64 } } else s) } }

/-- Accession has finished with a version that is no longer the newest (R144). Its slot is free, but for one that waits for the CAT_ACK of
the entry that superseded it (R165). -/
def discardStale (h : Head) (s : Slot) : Head :=
  let waits := h.vit.unacked.any (fun u => match u.body with
    | .catUpdate es => es.any (fun e => e.nsid == s.nsid && e.granule == s.granule && e.wseq == s.wseq)
    | _ => false)
  if waits then h else freeSlots h (fun x => x.wing == s.wing && x.wseq == s.wseq && isOwnDirty x.st)

/-- The map update of a slot's granule (R165): sent to the peer; discarded where the slot is stale; none where the namespace's accession
is stopped, whose slot is DIRTY again (R166). -/
def accessionUpdate (h : Head) (s : Slot) (loc : Nat) (refOnly : Bool) : Head :=
  if stale h s then discardStale h s
  else if accStopped h s.nsid then setSlotState h s.wing s.wseq .dirty
  else match updateGranule h s.nsid s.granule s.wseq loc refOnly with
    | (h, some e) => sendUpdate h s.wing s.label.coll [e]
    | (h, none) => h

/-- The index entry of a unique granule (R203): PENDING, one reference. -/
def newEntry (h : Head) (fp : Nat) : IndexEntry := ⟨fp, 0, 1, false, false, false, openInterval h, true, false⟩

/-- The internal case stream of a collection on a wing, above the streams that descriptors name. -/
def ownStream (coll : Nat) : Nat := 512 + coll

/-- A unique granule (R203): a new entry, its filter bits, and the codec. -/
def takeUnique (h : Head) (s : Slot) (fp : Nat) : Head :=
  let coll := s.label.coll
  let h := fadd h s.wing RGS_CNT_UNIQUE_COUNT
  let h := setIndex h coll (indexOf h coll ++ [newEntry h fp])
  let h := setFptag (setSlotState (filterInsert h s.wing coll fp) s.wing s.wseq .accession) s.wing s.wseq fp
  let label := withCrc { s.label with fptag := fp % 2 ^ 64 }
  let a : Appended := ⟨none, 0, label, s.wing, s.wseq, s.nsid, s.granule, s.data⟩
  (appendGranule h s.wing (ownStream coll) coll 0 (staticTables h coll 0) a).getD h

/-- A duplicate (R203, R204): it references the entry's locator, or waits for one that is PENDING or MOVING. -/
def takeDup (h : Head) (s : Slot) (e : IndexEntry) : Head :=
  let h := setFptag (fadd h s.wing RGS_CNT_DUP_COUNT) s.wing s.wseq e.fp
  if e.pending ∨ e.moving then
    let h := setSlotState h s.wing s.wseq .accession
    { h with cat := { h.cat with dupWait := h.cat.dupWait ++ [(s.wing, s.wseq, s.label.coll, e.fp)] } }
  else accessionUpdate h s e.loc true

/-- An entry of a fingerprint changed. -/
def updEntry (h : Head) (coll fp : Nat) (f : IndexEntry → IndexEntry) : Head :=
  setIndex h coll ((indexOf h coll).map (fun e => if e.fp = fp ∧ e.blind = false then f e else e))

/-- A usable entry (R203 step 5). -/
def usable (e : IndexEntry) : Bool := !e.blind && !e.suspect && !e.collided && decide (0 < e.ref)

/-- The Vitrine's clean copy of what a locator stores (R205). -/
def cleanCopy (h : Head) (loc : Nat) : Option Nat :=
  (h.vit.slots.find? (fun s => s.st == .clean && (match nsGet? h s.nsid with
    | some n => mapGet n s.granule == loc
    | none => false))).map (·.data)

/-- The result of a byte compare (R205, R206). `faulty` is a doubled pair whose bits are alike. -/
def compared (h : Head) (s : Slot) (e : IndexEntry) (same faulty : Bool) : Head :=
  let h := fadd h s.wing RGS_CNT_COMPARE_COUNT
  if faulty then
    let h := takeUnique (raise h s.wing Ev.RGS_COMPARE_FAULT) s e.fp
    match pickUnit h .dge s.wing with
    | some (u, h) => unitFailed h .dge s.wing u 4
    | none => h
  else if same then takeDup h s e
  else takeUnique (raise (updEntry h s.label.coll e.fp (fun x => { x with collided := true })) s.wing Ev.RGS_COLLIDED) s e.fp

/-- Steps 3 to 7 of R203 on a granule with its fingerprint. -/
def lookupGranule (h : Head) (s : Slot) (fp : Nat) : Head :=
  let coll := s.label.coll
  if !fbit h s.wing RGS_CTRL_DEDUP_EN || !fbit h .east RGS_COLL_CFG_DEDUP_EN coll || !filterHit h coll fp then takeUnique h s fp
  else match (indexOf h coll).filter (fun e => e.fp == fp && !e.blind) with
    | [] => takeUnique (fadd h s.wing RGS_CNT_FALSE_COUNT) s fp
    | l => match l.find? usable with
      | none => takeUnique h s fp
      | some e =>
        if fget h .east RGS_COLL_CFG_VERIFY coll = 1 ∧ !e.pending then match cleanCopy h e.loc with
          | some d => compared h s e (d == s.data) false
          | none =>
            let h := setSlotState h s.wing s.wseq .accession
            { h with cat := { h.cat with comparing := h.cat.comparing ++ [(s.wing, s.wseq, fp)] } }
        else takeDup h s e

/-- One granule of a batch (R203). A label that fails is handled as SLOT_ECC (R254). -/
def accessGranule (h : Head) (s : Slot) : Head :=
  match tabGet? h.bindings s.label.coll with
  | none => h
  | some b =>
    if !labelOk s.label || s.label.guard != Config.guard64 4096 s.data % 2 ^ 64 then
      raise (slotEcc h s.wing s.nsid s.granule s.wseq) s.wing Ev.GAL_LABEL_FAULT
    else if s.data = 0 then accessionUpdate h s locZero false
    else lookupGranule h s (fingerprint h b.fpSlot s.data)

/-- The free blocks have reached the reserve of R268: the share of the largest member plinth. -/
def atReserve (h : Head) : Bool := decide (freeBlocks h ≤ (h.cur.members.map (shareOf h)).foldl max 0)

/-- A granule accession may take: DIRTY, committed and not superseded, of a namespace this head runs it for, whose fingerprint key is held
(R163, R166, R227). -/
def accessible (h : Head) (w : Wing) (s : Slot) : Bool :=
  s.wing == w && s.st == .dirty && s.committed && !s.superseded && h.eng.fpStates.contains s.label.coll && (match nsGet? h s.nsid with
    | some n => n.owned && !n.accStop && !n.readOnly
    | none => false)

/-- A stack of the wing is above HBM_THROTTLE_C (R479). -/
def hbmHot (h : Head) (w : Wing) : Bool :=
  decide (((fget h w PWR_THERM_HBM_THROTTLE_C : Nat) : Int) < toSigned 8 (fget h w PWR_TEMP_HBM_MAX_C))

/-- Accession on a wing waits: its page does not run, an ACCESSION_HOLD stands (R73), the journal is full (R189), or free space is at
the reserve (R323). -/
def accessionWaits (h : Head) (w : Wing) : Bool :=
  !running h (pg .rgs w) || inDump h || hbmHot h w || (if w = .east then h.cat.holdE else h.cat.holdW) || journalFull h || atReserve h

/-- The accession granules a wing has taken in this frame, and what its last batch left. -/
def accUsed (h : Head) (w : Wing) : Nat := if w = .east then h.cat.accE else h.cat.accW
def setAcc (h : Head) (w : Wing) (used left : Nat) : Head :=
  { h with cat := if w = .east then { h.cat with accE := used, accLeftE := left } else { h.cat with accW := used, accLeftW := left } }

/-- ACCESSION_BATCH (R203): granules within what is left of the frame's budget (R31), oldest first. What is left carries over (R32). -/
def accessionBatch (h : Head) (w : Wing) : Head :=
  if accessionWaits h w then h
  else
    let l := h.vit.slots.filter (accessible h w)
    let n := frameBudget h 16 (fget h w RGS_BUDGET_GRANULES) - accUsed h w
    let left := l.length - n
    let h := setAcc h w (accUsed h w + min n l.length) left
    let h := if left = 0 then h else carryOver h w
    foldHead h (l.take n) accessGranule

/-- A frame begins: the budget is whole again, and RGS_CARRY shows the granules carried into the frame (R31, R32, R214). -/
def accTick (h : Head) (w : Wing) : Head :=
  let left := if w = .east then h.cat.accLeftE else h.cat.accLeftW
  setAcc (fset h w RGS_CARRY_GRANULES (min left 65535)) w 0 0

/-- COMPARE_READ_DONE (R205, R206): the granule rejoins the batch. A read that ends in MEDIA_FAIL makes it unique, and the old entry
SUSPECT. -/
def compareReadDone (h : Head) (w : Wing) (seq : Nat) (status : Status) (same faulty : Bool) : Head :=
  match h.cat.comparing.find? (fun c => c.1 == w && c.2.1 == seq), slotOf h w seq with
  | some (_, _, fp), some s =>
    let h := { h with cat := { h.cat with comparing := h.cat.comparing.filter (fun c => !(c.1 == w && c.2.1 == seq)) } }
    match (indexOf h s.label.coll).find? (fun e => e.fp == fp && usable e) with
    | none => takeUnique h s fp
    | some e =>
      if status = .done ∨ status = .doneNote then compared h s e same faulty
      else takeUnique (reportCase (updEntry h s.label.coll fp (fun x => { x with suspect := true })) .report e.loc) s fp
  | _, _ => h

/-- The duplicates that waited for an entry take its locator (R204). -/
def releaseDups (h : Head) (coll fp loc : Nat) : Head :=
  let hit (d : Wing × Nat × Nat × Nat) : Bool := d.2.2.1 == coll && d.2.2.2 == fp
  let l := h.cat.dupWait.filter hit
  foldHead { h with cat := { h.cat with dupWait := h.cat.dupWait.filter (fun d => !hit d) } } l (fun h d =>
    match slotOf h d.1 d.2.1 with
    | some s => accessionUpdate h s loc true
    | none => h)

/-! ### Reindexing and replay (R192, R201) -/

/-- The effect of REINDEX (R201, R202): the blind entries of the selected collection are to be fingerprinted, and its filter region is
rebuilt from its entries. -/
def reindexEffect (h : Head) (w : Wing) : Head :=
  let coll := fget h w RGS_COLL_INDEX_INDEX
  let h := { h with cat := { h.cat with
    reindexing := if h.cat.reindexing.contains coll then h.cat.reindexing else h.cat.reindexing ++ [coll]
    filter := tabDel h.cat.filter coll } }
  foldHead h ((indexOf h coll).filter (fun e => !e.blind)) (fun h e => filterInsert h w coll e.fp)

/-- REINDEX by a register write. -/
def rgsReindex (h : Head) (ini : Initiator) (w : Wing) : Head := withWrite h ini (pg .rgs w) 0x040 (fun h => reindexEffect h w)

/-- A blind entry's granule has been read (R201): it is fingerprinted and filed. -/
def fileBlind (h : Head) (coll loc data : Nat) : Head :=
  match tabGet? h.bindings coll with
  | none => h
  | some b =>
    let fp := fingerprint h b.fpSlot data
    let h := setIndex h coll ((indexOf h coll).map (fun e => if e.loc = loc ∧ e.blind then { e with fp := fp, blind := false } else e))
    filterInsert h b.home coll fp

/-- A change of an entry's counts replayed (R192): a granule the peer inserted since its checkpoint gets a blind entry (R201), which the
journal records as inserted (R189). -/
def replayChange (h : Head) (coll : Nat) : RefChange → Head
  | .up loc =>
    if locSerial loc = 0 ∨ (indexOf h coll).any (fun x => x.loc == loc) = true then refChange h coll loc true
    else
      let e : IndexEntry := ⟨0, loc, 1, true, false, false, openInterval h, false, false⟩
      journalAdd (hallPlaced (setIndex h coll (indexOf h coll ++ [e])) (locSerial loc)) [.inserted coll e]
  | .down loc => refChange h coll loc false
  | .move old new => setIndex h coll ((indexOf h coll).map (fun x => if x.loc = old then { x with loc := new, moving := false } else x))

/-- One journal entry of the peer's replayed through this head's Registrar (R192). A namespace deleted since has no table entry. -/
def replayEntry (h : Head) (e : CatEntry) (refs : List RefChange) : Head :=
  match (nsGet? h e.nsid).map (·.coll) with
  | some c => foldHead h refs (fun h r => replayChange h c r)
  | none => h

/-- REPLAY_DONE (R192). -/
def replayDone (h : Head) : Head :=
  if !h.cat.replaying then h
  else
    let es := h.cat.journal.filterMap (fun j => match j with
      | .update false e refs => some (e, refs)
      | _ => none)
    let h := foldHead h es (fun h e => replayEntry h e.1 e.2)
    let own : JournalEntry → JournalEntry := fun j => match j with
      | .update _ e _ => .update true e []
      | .inserted c e => .inserted c e
    let h := { h with cat := { h.cat with replaying := false, journal := h.cat.journal.map own } }
    foldHead h wings (fun h w => raise h w Ev.RGS_REPLAY_DONE)

end Sys2Proof.Machine
end

