-- ==== Sys2Proof/Machine/Galleries.lean ====
section
/-! DEFINITION. Halls formed, galleries opened, filled, closed and committed (R249 to R264, R309 to R313, R318). -/

namespace Sys2Proof.Machine

open Reg

/-! ### Forming halls (R306, R309, R313) -/

/-- Members of the FILLING halls of this head. -/
def fillingMembers (h : Head) : List Nat := ((h.cur.halls.filter (fun e => e.2.mine && e.2.st == 0)).map (fun e => e.2.members)).flatten

/-- A plinth that can take a new hall member (R268, R313). -/
def canJoinHall (h : Head) (n : Nat) : Bool :=
  plkTakesDie h n && !h.cur.evacuating.contains n && !h.cur.evacuated.contains n && !h.cur.noHoldup.contains n

/-- The FREE blocks of a plinth that this head may take: of its parity, or while SOLO of either (R306). -/
def freeOn (h : Head) (n : Nat) : List (Nat × BlockRec) :=
  h.cur.blocks.filter (fun e => e.2.st == 0 && memPlinth e.1 == n && !h.dsp.failed.contains (memDieKey e.1) &&
    (memBlock e.1 % 2 == parity h || pairState h == 0))

/-- The block a candidate plinth offers (R313 step 2): lowest ERASES, then a die with no FILLING member, then the lower die. -/
def offerBlock (h : Head) (n : Nat) : Option (Nat × BlockRec) :=
  let busy := (fillingMembers h).map memDieKey
  minOn (fun e => [e.2.erases, ofBool (busy.contains (memDieKey e.1)), memDieKey e.1, memBlock e.1]) (freeOn h n)

/-- N of halls formed now (R259), a reshape's from the tick after its start (R271). -/
def newWidth (h : Head) : Nat :=
  if h.gal.reshaping && fbit h .east GAL_RESHAPE_RUNNING then fget h .east GAL_RESHAPE_TARGET_N else fget h .east GAL_WIDTH_N

/-- The members of a new hall (R313 step 3), or none where fewer than W candidates qualify. -/
def pickMembers (h : Head) (width : Nat) : Option (List Nat) :=
  let fill := (fillingMembers h).map memPlinth
  let l := (h.cur.members.filter (canJoinHall h)).filterMap (offerBlock h)
  let l := sortOn (fun e => [e.2.erases, (fill.filter (· == memPlinth e.1)).length, memPlinth e.1]) l
  if l.length < width then none else some ((l.take width).map (·.1))

/-- The CAT_UPDATE entries of a new hall (R311). -/
def hallEntries (hall : Nat) (x : Hall) : List CatEntry :=
  x.members.zipIdx.map (fun e => ⟨0xFFFFFFFF, 1, hall + e.2 <<< 24, 0, e.1, 0⟩) ++
    [⟨0xFFFFFFFF, 2, hall + x.n <<< 24 + ofBool x.system <<< 32 + wingNum x.wing <<< 33, 0, 0, 0⟩]

/-- A hall formed for a wing (R313); NO_SPACE where it cannot be. -/
def formHall (h : Head) (w : Wing) (system : Bool) : Head :=
  let n := newWidth h
  match pickMembers h (n + 2) with
  | none => raise h .east Ev.CUR_NO_SPACE
  | some ms =>
    let hall := 2 * h.cur.nextHall + parity h
    let x : Hall := ⟨true, 0, system, w, n, fget h .east CUR_GEOM_ROWS, 0, [], [], 0, 0, h.cur.hours, ms⟩
    let h := foldHead h ms (fun h a => setBlock h a { blockRec h a with st := 1, hall := hall, progHours := h.cur.hours })
    let h := setHall (curUpd h (fun c => { c with nextHall := c.nextHall + 1 })) hall x
    sendUpdate h w 0 (hallEntries hall x)

/-- The filling halls of a wing with rows left to assign. -/
def fillingHalls (h : Head) (w : Wing) (system : Bool) : List (Nat × Hall) :=
  h.cur.halls.filter (fun e => e.2.mine && e.2.st == 0 && e.2.wing == w && e.2.system == system && decide (e.2.assigned < e.2.rows))

/-- Each wing keeps CUR_FILL.HALLS filling data halls and one system hall (R309). -/
def ensureHalls (h : Head) (w : Wing) : Head :=
  if !h.cur.mounted || pairState h == 7 then h
  else
    let want := fget h w CUR_FILL_HALLS - (fillingHalls h w false).length
    let h := foldHead h (List.range want) (fun h _ => formHall h w false)
    if (fillingHalls h w true).isEmpty then formHall h w true else h

/-- The data hall whose turn it is: the next number above the one taken last, else the lowest. -/
def nextTurn (h : Head) (w : Wing) : Option (Nat × Hall) :=
  let last := if w = .east then h.cur.turnE else h.cur.turnW
  let l := fillingHalls h w false
  match l.find? (fun e => decide (last < e.1)) with
  | some e => some e
  | none => l.head?

/-! ### Panels (R249 to R252) -/

/-- Label sheets for a number of labels: slot 15 is the trailer's (R250). -/
def labelSheets (n : Nat) : Nat := (n + 16) / 16

/-- The label slot of the j-th label of a panel. -/
def labelSlot (j : Nat) : Nat := if j < 15 then j else j + 1

/-- The cases of a panel, in the order laid. -/
def panelCases (g : Gallery) (k : Nat) : List GalCase := g.cases.filter (fun c => c.panel == k)

/-- The fill boundary of a panel, and its labels. -/
def panelFill (g : Gallery) (k : Nat) : Nat := ((panelCases g k).map (·.sheets)).sum
def panelLabels (g : Gallery) (k : Nat) : List Label := ((panelCases g k).map (fun c => c.items.map (·.label))).flatten

/-- Whether a case of some sheets and labels fits in a panel (R249, R250). -/
def panelFits (g : Gallery) (k sheets labels : Nat) : Bool :=
  let n := (panelLabels g k).length + labels
  !g.shut.contains k && decide (n ≤ 511) && decide (panelFill g k + sheets + labelSheets n ≤ 128)

/-- The key of the labels: private slot 1 (R252). -/
def labelKey (h : Head) : Nat := keyValue h (keySlotId true 1)

/-- The media key of a collection, while its binding names an ACTIVE slot (R24, R238). -/
def mediaKey (h : Head) (coll : Nat) : Option Nat :=
  match tabGet? h.bindings coll with
  | some b => if keyState h b.mediaSlot = 2 then some (keyValue h b.mediaSlot) else none
  | none => none

/-- A label sheet encrypted or decrypted (R252): sheet 127's bytes 0 to 479 as one general data unit, its trailer in the clear. -/
def labelXts (enc : Bool) (key serial panel sheet data : Nat) : Nat :=
  let loc := mkLoc serial panel sheet 0 false
  if sheet = 127 then
    Config.xts enc key (mediaTweak loc 0 0) 480 (data % 2 ^ 3840) % 2 ^ 3840 + data >>> 3840 <<< 3840
  else mediaXts enc key loc 0 512 data

/-- A panel's trailer (R251). -/
def trailerOf (serial panel n labels fill cases hall row : Nat) : Nat :=
  let body := serial + panel <<< 48 + n <<< 56 + labels <<< 64 + labelSheets labels <<< 80 + fill <<< 88 + cases <<< 96 +
    hall <<< 128 + row <<< 160
  body + crc16 (bytesOf body 30) <<< 240

/-- A data panel as stored (R249 to R252): cases encrypted in place, zero sheets, label area, trailer. -/
def panelBytes (h : Head) (g : Gallery) (k : Nat) : Nat :=
  let labels := panelLabels g k
  let cases := ((panelCases g k).map (fun c =>
    mediaXts true ((mediaKey h c.coll).getD 0) (mkLoc g.serial k c.sheet 0 false) c.coll (512 * c.sheets) c.bytes <<< (4096 * c.sheet))).sum
  let trailer := trailerOf g.serial k g.n labels.length (panelFill g k) (panelCases g k).length g.hall g.row
  let slots := labels.zipIdx.map (fun e => (labelSlot e.2, labelNum e.1)) ++ [(15, trailer)]
  let sheet (i : Nat) : Nat := ((slots.filter (fun s => s.1 / 16 == i)).map (fun s => s.2 <<< (256 * (s.1 % 16)))).sum
  cases + ((List.range (labelSheets labels.length)).map (fun i =>
    labelXts true (labelKey h) g.serial k (127 - i) (sheet i) <<< (4096 * (127 - i)))).sum

/-! ### The open ring (R256, R264) -/

/-- The open galleries changed, and GAL_RING.OPEN. -/
def setOpens (h : Head) (l : List Gallery) : Head :=
  let h := { h with gal := { h.gal with opens := l } }
  foldHead h wings (fun h w => fset h w GAL_RING_OPEN (l.filter (fun g => g.wing == w)).length)

/-- An open gallery, by serial. -/
def galleryOf (h : Head) (serial : Nat) : Option Gallery := h.gal.opens.find? (fun g => g.serial == serial)

/-- An open gallery changed. -/
def updGallery (h : Head) (serial : Nat) (f : Gallery → Gallery) : Head :=
  setOpens h (h.gal.opens.map (fun g => if g.serial = serial then f g else g))

/-- The open ring of a wing is full. -/
def ringFull (h : Head) (w : Wing) : Bool :=
  decide (fget h w GAL_RING_LIMIT ≤ (h.gal.opens.filter (fun g => g.wing == w)).length) || decide (256 ≤ h.gal.opens.length)

/-- The next serial taken (R256). -/
def takeSerial (h : Head) : Nat × Head :=
  let c := serialCounter h
  (2 * c + parity h, setSerialCounter h (c + 1))

/-- No gallery opens before a resynchronisation of this head's own rows is done (R265). -/
def mayOpen (h : Head) : Bool :=
  h.cur.mounted && pairState h != 7 && h.gal.resync.all (fun r => match tabGet? h.cur.halls r.1 with
    | some x => !x.mine
    | none => true)

/-- A gallery opened for a wing in the next row of a hall (R256, R264, R309), or none: the ring is full, or no hall has a row. -/
def openGallery (h : Head) (w : Wing) : Option (Nat × Head) :=
  let h := ensureHalls h w
  match nextTurn h w with
  | none => none
  | some (hall, x) =>
    let (serial, h) := takeSerial h
    let row := x.assigned
    let h := curUpd h (fun c => { c with
      serials := tabPut c.serials serial ⟨hall, row, 1⟩
      turnE := if w = .east then hall else c.turnE
      turnW := if w = .west then hall else c.turnW })
    let h := updHall h hall (fun x => { x with assigned := x.assigned + 1 })
    some (serial, setOpens h (h.gal.opens ++ [⟨w, serial, hall, row, x.n, [], 0, false, [], [], []⟩]))

/-! ### Closing (R261, R262) -/

/-- A command record for a die operation on a block's row. -/
def dieCmd (opcode a row : Nat) : PlkCmd :=
  { emptyCmd opcode false with
    channel := memChan a
    die := memDie a
    block := memBlock a
    row := row }

/-- A die operation that waits in the Dispatcher. -/
def waitDie (h : Head) (a : Nat) (c : PlkCmd) (cls : DieClass) (p : Purpose) (accepted : Nat := 0) : Head :=
  { h with dsp := { h.dsp with waiting := h.dsp.waiting ++ [⟨memPlinth a, c, cls, p, accepted, false⟩] } }

/-- All W panels of a gallery passed to the Dispatcher together. -/
def sendPanels (h : Head) (g : Gallery) : Head :=
  match tabGet? h.cur.halls g.hall with
  | none => h
  | some x =>
    let d := (List.range g.n).map (panelBytes h g)
    let all := d ++ [parityP d, parityQ 65536 d]
    foldHead h all.zipIdx (fun h e =>
      let a := panelMember x g.row e.2
      waitDie h a { dieCmd 2 a g.row with dlen := 65536, data := e.1 } .program (.panel g.serial e.2))

/-- One gallery closed. -/
def closeOne (h : Head) (serial : Nat) : Head :=
  match galleryOf h serial with
  | some g => if g.closed then h else sendPanels (updGallery h serial (fun g => { g with closed := true })) g
  | none => h

/-- A gallery closed, after every open gallery of an earlier row of its hall (R262). -/
def closeGallery (h : Head) (serial : Nat) : Head :=
  match galleryOf h serial with
  | none => h
  | some g =>
    let l := sortOn (fun x => [x.row]) (h.gal.opens.filter (fun x => x.hall == g.hall && !x.closed && decide (x.row ≤ g.row)))
    foldHead h (l.map (·.serial)) closeOne

/-- Every open gallery of a wing closed (R261). -/
def closeAll (h : Head) (w : Wing) : Head :=
  foldHead h ((h.gal.opens.filter (fun g => g.wing == w && !g.closed)).map (·.serial)) closeGallery

/-- GALLERY_FLUSH_TIMEOUT (R261). -/
def galleryFlush (h : Head) (serial : Nat) : Head :=
  match galleryOf h serial with
  | some g => if g.cases ≠ [] ∧ fget h g.wing GAL_FILL_FLUSH_FRAMES ≤ g.age then closeGallery h serial else h
  | none => h

/-- CLOSE_NOW (R261). -/
def closeNow (h : Head) (ini : Initiator) (w : Wing) : Head := withWrite h ini (pg .gal w) 0x040 (fun h => closeAll h w)

/-! ### Placing cases (R254, R260) -/

/-- A granule whose placement fails returns to the next batch (R254): its slot is DIRTY again, its PENDING entry goes, and the
duplicates that wait for it return too. -/
def returnItem (h : Head) (coll : Nat) (i : GalItem) : Head :=
  let h := setSlotState h i.wing i.wseq .dirty
  let waits := h.cat.dupWait.filter (fun d => d.2.2.1 == coll && d.2.2.2 % 2 ^ 64 == i.fp)
  let h := foldHead h waits (fun h d => setSlotState h d.1 d.2.1 .dirty)
  let h := { h with cat := { h.cat with dupWait := h.cat.dupWait.filter (fun d => !waits.contains d) } }
  setIndex h coll ((indexOf h coll).filter (fun e => !(e.pending && e.fp % 2 ^ 64 == i.fp)))

/-- A case that the assembler does not place (R254): its granules return to the next batch, and a moved case stays where it lies. -/
def rejectCase (h : Head) (c : GalCase) : Head :=
  if c.moved then setIndex h c.coll ((indexOf h c.coll).map (fun e =>
    if c.items.any (fun i => i.oldLoc == e.loc) then { e with moving := false } else e))
  else foldHead h c.items (fun h i => returnItem h c.coll i)

/-- A case's labels as the assembler writes them (R254). -/
def placedLabels (c : GalCase) (serial panel sheet : Nat) : List GalItem :=
  c.items.zipIdx.map (fun e => { e.1 with label := withCrc { e.1.label with
    serial := serial
    panel := panel
    sheet := sheet
    gidx := e.2
    glen := c.sheets
    raw := c.raw } })

/-- The lowest-numbered data panel of a gallery with room for a case, and the panels closed to further cases with those it does not fit
(R250, R260). -/
def findPanel (g : Gallery) (c : GalCase) : Option Nat × List Nat :=
  let fit (k : Nat) : Bool := panelFits g k c.sheets c.items.length
  ((List.range g.n).find? fit, g.shut ++ ((List.range g.n).takeWhile (fun k => !fit k)).filter (fun k => !g.shut.contains k))

/-- Where a case goes among the open galleries of a wing, oldest first; galleries passed over close the panels that did not fit. -/
def findPlace (h : Head) (w : Wing) (c : GalCase) : Option (Nat × Nat) × Head :=
  (h.gal.opens.filter (fun g => g.wing == w && !g.closed)).foldl (fun (acc : Option (Nat × Nat) × Head) g =>
    match acc.1 with
    | some _ => acc
    | none =>
      let (k, shut) := findPanel g c
      (k.map (fun k => (g.serial, k)), updGallery acc.2 g.serial (fun g => { g with shut := shut }))) (none, h)

/-- A case laid in a panel; the gallery closes where no data panel can take another case of the minimum size (R261). -/
def layCase (h : Head) (serial k : Nat) (c : GalCase) : Head :=
  match galleryOf h serial with
  | none => h
  | some g =>
    let sheet := panelFill g k
    let c' := { c with panel := k, sheet := sheet, items := placedLabels c serial k sheet }
    let g' := { g with cases := g.cases ++ [c'] }
    let h := updGallery h serial (fun _ => g')
    if (List.range g'.n).any (fun j => panelFits g' j 1 1) then h else closeGallery h serial

/-- A case passes the assembler's checks (R254): each label's LCRC, and its COLL equals the case's. -/
def caseOk (c : GalCase) : Bool := c.items.all (fun i => labelOk i.label && i.label.coll == c.coll)

/-- A case placed (R260), or queued for the wing's next free entry, with RING_FULL where the ring is full (R264). A label that fails raises
LABEL_FAULT (R254); without its media key a case cannot be encrypted (R220) and is not placed either. -/
def placeCase (h : Head) (w : Wing) (c : GalCase) : Head :=
  if !caseOk c then raise (rejectCase h c) w Ev.GAL_LABEL_FAULT
  else if (mediaKey h c.coll).isNone then rejectCase h c
  else
    let wait (h : Head) : Head := { h with gal := { h.gal with queued := h.gal.queued ++ [(w, c)] } }
    if !running h (pg .gal w) || !mayOpen h then wait h
    else match findPlace h w c with
      | (some (serial, k), h) => layCase h serial k c
      | (none, h) =>
        if ringFull h w then raise (wait h) w Ev.GAL_RING_FULL
        else match openGallery h w with
          | some (serial, h) => layCase h serial 0 c
          | none => wait h

/-- The cases that wait for a gallery, tried again in order. -/
def placeQueued (h : Head) : Head :=
  let l := h.gal.queued
  foldHead { h with gal := { h.gal with queued := [] } } l (fun h e => placeCase h e.1 e.2)

/-- A case of accession granules as the assembler receives it. -/
def newCase (coll : Nat) (raw : Bool) (sheets bytes : Nat) (items : List Appended) : GalCase :=
  ⟨coll, 0, 0, sheets, raw, false, bytes,
    items.map (fun a => ⟨a.label, a.nsid, a.granule, a.wseq, a.wing, 0, a.label.fptag, a.data⟩)⟩

/-- A closed case of accession granules goes to the gallery assembler: one case, or one raw case for each granule (R233). -/
def placeStream (h : Head) (c : CaseStream) (s : Stored) : Head :=
  if s.raw then foldHead h c.items (fun h a => placeCase h c.wing (newCase c.coll true 8 a.data [a]))
  else placeCase h c.wing (newCase c.coll false s.sheets s.bytes c.items)

/-- A closed case compressed and written, and its APPENDs' end (R233). -/
def writeCase (h : Head) (c : CaseStream) : Head :=
  let w := c.wing
  let data (a : Appended) : Nat := match a.tag with
    | some _ => memRead h a.src 4096
    | none => a.data
  let granules := c.items.map data
  let s := compressCase c.coll c.static granules
  let n := c.items.length
  let rest (l : List Appended) : Head :=
    setCases h (h.eng.cases.flatMap (fun x => if x = c then (if l = [] then [] else [{ c with items := l }]) else [x]))
  if c.items.any (fun a => a.tag.isSome && isPoisoned h a.src 4096) then
    failAppends (rest (c.items.filter (fun a => a.tag.isNone))) c
  else
    let h := rest []
    let h := if s.raw then fadd (fadd h w CDC_CNT_SHEETS_COUNT (8 * n)) w CDC_CNT_RAW_COUNT n
      else fadd h w CDC_CNT_SHEETS_COUNT s.sheets
    let h := if c.items.any (fun a => a.tag.isSome) then placeAll h (casePlaces c s granules) else h
    let h := finishAppends h c s
    if c.items.any (fun a => a.tag.isNone) then placeStream h c s else h

/-- CASE_COMPRESSED (R233): the first closed case of a stream is written compressed or raw, and its APPENDs complete. One that closed while
no tile was ACTIVE takes one now. -/
def caseCompressed (h : Head) (w : Wing) (stream : Nat) : Head :=
  match h.eng.cases.find? (fun c => c.wing == w && c.stream == stream && c.closed) with
  | none => h
  | some c =>
    if c.unit.isSome then writeCase h c
    else match pickUnit h .cdc w with
      | some (_, h) => writeCase h c
      | none => h

/-! ### Commit and failure (R165, R204, R209, R264, R318) -/

/-- A granule of a committed gallery: its index entry filled, and its map update; the discard of a stale one (R144); none where the
namespace's accession is stopped (R166). -/
def commitItem (acc : Head × List CatEntry) (coll : Nat) (i : GalItem) : Head × List CatEntry :=
  let h := acc.1
  let loc := labelLoc i.label
  let fp := ((indexOf h coll).find? (fun e => e.pending && e.fp % 2 ^ 64 == i.fp)).map (·.fp)
  let h := setIndex h coll ((indexOf h coll).map (fun e =>
    if e.pending ∧ some e.fp = fp then { e with loc := loc, pending := false } else e))
  let h := match (indexOf h coll).find? (fun e => e.loc == loc) with
    | some e => journalAdd h [.inserted coll e]
    | none => h
  let h := hallPlaced h (locSerial loc)
  match slotOf h i.wing i.wseq with
  | none =>
    -- a shipped granule (R354) has no Vitrine slot and no write sequence
    let h := refChange h coll loc false
    if i.wseq ≠ 0 then (h, acc.2)
    else match updateGranule h i.nsid i.granule 0 loc false with
      | (h, some e) => (h, acc.2 ++ [e])
      | (h, none) => (h, acc.2)
  | some s =>
    if stale h s then (refChange (discardStale h s) coll loc false, acc.2)
    else if accStopped h s.nsid then (refChange (setSlotState h s.wing s.wseq .dirty) coll loc false, acc.2)
    else
      -- the entry already holds this reference, so the map change adds none
      let h := refChange h coll loc false
      match updateGranule h i.nsid i.granule i.wseq loc false with
      | (h, some e) => (h, acc.2 ++ [e])
      | (h, none) => (h, acc.2)

/-- A moved granule of a committed gallery (R209): the maps, the index and the counts of both halls, where the old locator is still
in use. -/
def commitMove (acc : Head × List CatEntry) (coll : Nat) (i : GalItem) : Head × List CatEntry :=
  let h := acc.1
  let loc := labelLoc i.label
  match (indexOf h coll).find? (fun e => e.loc == i.oldLoc) with
  | none => acc
  | some x =>
    let h := setIndex h coll ((indexOf h coll).map (fun e => if e.loc = i.oldLoc then
      { e with loc := loc, moving := false, suspect := e.suspect && h.cat.noDeaccession.contains coll } else e))
    let h := hallPlaced h (locSerial loc)
    let h := if x.ref = 0 then hallValid h (locSerial loc) false else hallValid h (locSerial i.oldLoc) false
    let due := h.cur.rewrite.any (fun r => r.1 == i.oldLoc)
    let h := curUpd h (fun c => { c with rewrite := c.rewrite.filter (fun r => r.1 != i.oldLoc) })
    let h := if due then fadd h (collHome h coll) CSV_CNT_REWRITE_COUNT else h
    (nsOfColl h coll).foldl (fun (acc : Head × List CatEntry) n =>
      let es := if n.readOnly then [] else (granulesAt n i.oldLoc).map (fun g => (⟨n.nsid, 0, g, 0, loc, i.oldLoc⟩ : CatEntry))
      (moveInNs (foldHead acc.1 es (fun h e => markDirty h n.nsid (e.granule / 512))) n.nsid i.oldLoc loc, acc.2 ++ es)) (h, acc.2)

/-- A gallery committed (R165, R265): every panel is acknowledged, the new locators are applied and sent in one CAT_UPDATE, and
duplicates that waited follow. -/
def commitGallery (h : Head) (g : Gallery) : Head :=
  let (h, es) := g.cases.foldl (fun (acc : Head × List CatEntry) c =>
    c.items.foldl (fun acc i => if c.moved then commitMove acc c.coll i else commitItem acc c.coll i) acc) (h, [])
  let row : CatEntry := ⟨0xFFFFFFFF, 3, g.hall + g.row <<< 24, 0, g.serial <<< 16, 0⟩
  let h := sendUpdate h g.wing ((g.cases.map (·.coll)).headD 0) (row :: es)
  let h := commitSerial h g.serial
  let h := setOpens h (h.gal.opens.filter (fun x => x.serial != g.serial))
  let h := foldHead h g.cases (fun h c => foldHead h c.items (fun h i =>
    let fp := (((indexOf h c.coll).find? (fun e => e.loc == labelLoc i.label)).map (·.fp)).getD i.fp
    releaseDups h c.coll fp (labelLoc i.label)))
  placeQueued (ensureHalls h g.wing)

/-- A case whose move has failed (R327, R335): three times raises REWRITE_FAIL. -/
def moveFailed (h : Head) (w : Wing) (c : GalCase) : Head :=
  foldHead h (c.items.take 1) (fun h i =>
    let n := ((h.cur.rewrite.find? (fun r => r.1 == i.oldLoc)).map (·.2)).getD 0 + 1
    let h := { h with cur := { h.cur with rewrite := h.cur.rewrite.map (fun r => if r.1 = i.oldLoc then (r.1, n) else r) } }
    if n = 3 then raise h w Ev.CSV_REWRITE_FAIL else h)

/-- A gallery a program of which failed (R318): its row is VOID, its hall FULL, and its cases go into a new gallery. -/
def failGallery (h : Head) (g : Gallery) : Head :=
  let mine (p : Purpose) : Bool := match p with
    | .panel s _ => s == g.serial
    | _ => false
  let h := { h with dsp := { h.dsp with waiting := h.dsp.waiting.filter (fun r => !mine r.purpose) } }
  let h := setOpens h (h.gal.opens.filter (fun x => x.serial != g.serial))
  let h := voidSerial h g.hall g.row g.serial
  let h := sendUpdate h g.wing 0 [⟨0xFFFFFFFF, 4, g.hall + g.row <<< 24, 0, g.serial <<< 16, 0⟩]
  let h := updHall h g.hall (fun x => if x.st = 0 then { x with st := 1 } else x)
  let h := foldHead h g.cases (fun h c => if c.moved then moveFailed h g.wing c else h)
  let again (c : GalCase) : GalCase := { c with
    panel := 0
    sheet := 0
    items := c.items.map (fun i => { i with label := withCrc { i.label with serial := 0, panel := 0, sheet := 0, gidx := 0, glen := 0 } }) }
  let h := foldHead (ensureHalls h g.wing) g.cases (fun h c => placeCase h g.wing (again c))
  placeQueued h

/-- A panel's program has completed (R264, R318). A block whose program fails retires with its hall (R307). -/
def panelDone (h : Head) (serial k : Nat) (a : Nat) (st : Status) : Head :=
  let h := if st = .mediaFail then setBlock h a { blockRec h a with retire := true } else h
  match galleryOf h serial with
  | none => h
  | some g =>
    if st = .done ∨ st = .doneNote then
      let g := { g with acked := setIn g.acked k true }
      let h := updGallery h serial (fun _ => g)
      if g.acked.length = g.n + 2 then commitGallery h g else h
    else failGallery h g

end Sys2Proof.Machine
end

