-- ==== Sys2Proof/Machine/Reads.lean ====
section
/-! DEFINITION. Panels read back: the checks of R25, reconstruction (R266, R267, R270), and the moves of cases that deaccession, the
Conservator, an evacuation and a plinth rebuild share (R269, R321, R324, R325). -/

namespace Sys2Proof.Machine

open Reg

/-! ### A panel's bytes as read (R249 to R252, R289) -/

/-- The bytes of a read placed where they lie in their panel, zero elsewhere: the sheets asked for, then those of the label area that the
read had not covered. -/
def imageOf (first sheets dlen data : Nat) : Nat :=
  let extra := dlen / 512 - sheets
  let lo := if first + sheets = 128 then first - extra else 128 - extra
  (data % 2 ^ (4096 * sheets)) <<< (4096 * first) + (data >>> (4096 * sheets) % 2 ^ (4096 * extra)) <<< (4096 * lo)

/-- One sheet of a panel. -/
def sheetOf (image k : Nat) : Nat := image >>> (4096 * k) % 2 ^ 4096

/-- The sheets of a case in a panel. -/
def caseBytesOf (image sheet sheets : Nat) : Nat := image >>> (4096 * sheet) % 2 ^ (4096 * sheets)

/-- A panel's trailer as one number (R251). -/
def trailerIn (image : Nat) : Nat := sheetOf image 127 >>> 3840

/-- A trailer's CRC and place are right. -/
def trailerOk (t serial panel : Nat) : Bool :=
  t >>> 240 == crc16 (bytesOf t 30) && t % 2 ^ 48 == serial && t >>> 48 % 256 == panel

/-- The labels of a panel, decrypted (R250, R252). -/
def labelsIn (h : Head) (serial panel image : Nat) : List Label :=
  let n := min 511 (trailerIn image >>> 64 % 65536)
  let area := (List.range (labelSheets n)).map (fun i => labelXts false (labelKey h) serial panel (127 - i) (sheetOf image (127 - i)))
  (List.range n).map (fun j => labelOf (area.getD (labelSlot j / 16) 0 >>> (256 * (labelSlot j % 16)) % 2 ^ 256))

/-- A case's plaintext bytes, as stored before encryption; none where its media key is not usable. -/
def casePlain (h : Head) (loc coll sheets image : Nat) : Option Nat :=
  (mediaKey h coll).map (fun k => mediaXts false k loc coll (512 * sheets) (caseBytesOf image (locSheet loc) sheets))

/-- The checks of R25 on a granule of a case (R253), and the granule. -/
def checkGranule (h : Head) (loc coll sheets image : Nat) : Status × Nat :=
  match (labelsIn h (locSerial loc) (locPanel loc) image).find? (fun l => l.sheet == locSheet loc && l.gidx == locGidx loc) with
  | none => (.labelFail, 0)
  | some l =>
    if !labelOk l || l.serial != locSerial loc then (.labelFail, 0)
    else if l.coll ≠ coll then (.collMismatch, 0)
    else match casePlain h loc coll sheets image with
      | none => (.keyInvalid, 0)
      | some d =>
        if locRaw loc then (if Config.guard64 4096 d % 2 ^ 64 = l.guard then .done else .checkFail, d)
        else
          let r := expandCase coll (locGidx loc) l.guard (512 * sheets) d
          (r.1, r.2.2.getD 0)

/-- A case's locator: that of its first granule. -/
def caseLoc (loc : Nat) : Nat := loc - locGidx loc <<< 1

/-- The locators of a case's granules, by its labels. -/
def granulesOf (h : Head) (loc image : Nat) : List (Nat × Label) :=
  ((labelsIn h (locSerial loc) (locPanel loc) image).filter (fun l => l.sheet == locSheet loc)).map (fun l =>
    (caseLoc loc + l.gidx <<< 1, l))

/-- Every granule of a case passes R25 (R254): the first status other than DONE, else DONE. -/
def checkCase (h : Head) (loc coll sheets image : Nat) : Status :=
  match granulesOf h loc image with
  | [] => .labelFail
  | l => (l.findSome? (fun g =>
      let st := (checkGranule h g.1 coll sheets image).1
      if st = .done then none else some st)).getD .done

/-- Every label of a panel is right, with its trailer (R267, R329). -/
def checkLabels (h : Head) (serial panel image : Nat) : Bool :=
  trailerOk (trailerIn image) serial panel &&
    (labelsIn h serial panel image).all (fun l => labelOk l && l.serial == serial && l.panel == panel)

/-! ### Where panels lie -/

/-- A block can be read: its plinth takes die commands and its die is in service. -/
def blockReadable (h : Head) (a : Nat) : Bool := plkTakesDie h (memPlinth a) && !h.dsp.failed.contains (memDieKey a)

/-- A member block can be read: it still holds its hall's panels. -/
def panelReadable (h : Head) (a : Nat) : Bool := blockReadable h a && (blockRec h a).st == 1

/-- The block of a panel of a hall's row. -/
def workBlock (h : Head) (hall row panel : Nat) : Nat :=
  match tabGet? h.cur.halls hall with
  | some x => panelMember x row panel
  | none => 0

/-- The serial of a row of a hall. -/
def rowSerial (h : Head) (hall row : Nat) : Option Nat :=
  (h.cur.serials.find? (fun e => e.2.hall == hall && e.2.row == row)).map (·.1)

/-- The wing that fills a serial's hall, and its N. -/
def serialWing (h : Head) (serial : Nat) : Wing :=
  match (serialHall h serial).bind (fun r => tabGet? h.cur.halls r.hall) with
  | some x => x.wing
  | none => .east
def serialN (h : Head) (serial : Nat) : Nat :=
  match (serialHall h serial).bind (fun r => tabGet? h.cur.halls r.hall) with
  | some x => x.n
  | none => 0

/-- Panels of a gallery that cannot be read (R270). -/
def lostPanels (h : Head) (serial : Nat) : List Nat :=
  (List.range (serialN h serial + 2)).filter (fun k => match panelPlace h serial k with
    | some (a, _) => !panelReadable h a
    | none => true)

/-- A READ of sheets of a block's row. -/
def readCmd (a row first sheets : Nat) (labels : Bool) : PlkCmd :=
  { dieCmd 1 a row with first := first, sheets := sheets, labels := labels }

/-! ### Which cases are valid (R208, R209, R321) -/

/-- An entry is unsettled (R208). -/
def unsettled (h : Head) (e : IndexEntry) : Bool :=
  e.epoch == openInterval h || h.cat.replaying ||
    (fbit h .east CAT_CKPT_STATUS_IN_PROGRESS && e.epoch == (fget h .east CAT_CKPT_LAST_NUMBER + 1) % 4)

/-- An entry keeps its case (R209). -/
def keepsCase (h : Head) (e : IndexEntry) : Bool := decide (0 < e.ref) || e.pending || e.moving || e.suspect || unsettled h e

/-- A granule's entry keeps its case. A system case stays while the latest checkpoint or an edition names it (R322). -/
def granuleValid (h : Head) (l : Label) (loc : Nat) : Bool :=
  if l.system then
    caseLoc h.cur.ckptLoc == caseLoc loc || h.cat.nss.any (fun n => n.2.editions.any (fun e => caseLoc e.rootLoc == caseLoc loc))
  else (indexOf h l.coll).any (fun e => e.loc == loc && keepsCase h e)

/-- Entries of a case changed. -/
def updCase (h : Head) (coll loc : Nat) (f : IndexEntry → IndexEntry) : Head :=
  setIndex h coll ((indexOf h coll).map (fun e => if locSerial e.loc ≠ 0 ∧ caseLoc e.loc = caseLoc loc then f e else e))

/-! ### Reconstruction (R266, R270) -/

/-- A gallery with three or more lost panels (R270): reported and counted once. -/
def dataLoss (h : Head) (serial : Nat) : Head :=
  if h.gal.lost.contains serial ∨ (lostPanels h serial).length < 3 then h
  else
    let w := serialWing h serial
    raise (fadd { h with gal := { h.gal with lost := h.gal.lost ++ [serial] } } w GAL_CNT_LOST_COUNT) w Ev.GAL_DATA_LOSS

/-- A reconstruction's record set, by its locator and work. -/
def setRecon (h : Head) (r : Recon) : Head :=
  { h with gal := { h.gal with recons := h.gal.recons.map (fun x => if x.loc = r.loc ∧ x.work = r.work then r else x) } }

/-- The keys of a panel's reads: its case sheets, and sheets 96 to 127. -/
def partKeys (r : Recon) (k : Nat) : List Nat := if r.sheets = 0 then [2 * k + 1] else [2 * k, 2 * k + 1]

/-- Another panel asked for. One that cannot be read has failed its read at once. -/
def askPanel (acc : Head × Recon) (k : Nat) : Head × Recon :=
  let (h, r) := acc
  let keys := partKeys r k
  let r := { r with asked := r.asked ++ keys }
  match panelPlace h (locSerial r.loc) k with
  | none => (h, { r with got := keys.foldl (fun t x => tabPut t x none) r.got })
  | some (a, row) =>
    if !panelReadable h a then (h, { r with got := keys.foldl (fun t x => tabPut t x none) r.got })
    else
      let cls : DieClass := if r.work.isNone then .host else .background
      (foldHead h keys (fun h x =>
        let c := if x % 2 = 1 then readCmd a row 96 32 false else readCmd a row (locSheet r.loc) r.sheets false
        waitDie h a c cls (.recon r.loc k (x % 2 == 1))), r)

/-- What a panel's reads have brought, or none where one failed. -/
def reconPanel (r : Recon) (k : Nat) : Option Nat :=
  (partKeys r k).foldl (fun (acc : Option Nat) x => acc.bind (fun i => (tabGet r.got none x).map (fun d => i + d))) (some 0)

/-- What a reconstruction must yield: the granule of a host read; a label area; a case. -/
def reconCheck (h : Head) (r : Recon) (image : Nat) : Status × Nat :=
  if r.sheets = 0 then (if checkLabels h (locSerial r.loc) (locPanel r.loc) image then .done else .labelFail, 0)
  else match r.work with
    | none => checkGranule h r.loc r.coll r.sheets image
    | some _ => (checkCase h r.loc r.coll r.sheets image, 0)

/-- The lost panel x rebuilt with another data panel z taken as lost too (R266 step 3). -/
def rebuildWith (x z : Nat) (d : List (Option Nat)) (p q : Nat) : Nat :=
  let d := d.mapIdx (fun i v => if i = z then none else v)
  if x < z then (rebuildPQ 65536 x z d p q).1 else (rebuildPQ 65536 z x d p q).2

/-- Where a reconstruction stands once every read asked for has come. -/
inductive ReconStep
  | askQ
  /-- The panel's bytes and the granule, the panel located, and the second lost panel. -/
  | good (image granule : Nat) (located second : Option Nat)
  | bad (st : Status)
  deriving DecidableEq, Repr

/-- Steps 1 to 3 of R266. -/
def reconStep (h : Head) (r : Recon) : ReconStep :=
  let n := serialN h (locSerial r.loc)
  let x := locPanel r.loc
  let haveQ := r.asked.contains (2 * (n + 1) + 1)
  let d := (List.range n).map (fun k => if k = x then none else reconPanel r k)
  let lost := (List.range n).filter (fun k => k != x && (d.getD k none).isNone)
  let p := reconPanel r n
  let q := reconPanel r (n + 1)
  let image : Option Nat := match lost, p, q with
    | [], some p, _ => some (rebuildP 65536 d p)
    | [], none, some q => some (rebuildQ 65536 x d q)
    | [y], some p, some q => some (rebuildWith x y d p q)
    | _, _, _ => none
  match image with
  | none => if haveQ ∨ 1 < lost.length then .bad .mediaFail else .askQ
  | some i =>
    let (st, g) := reconCheck h r i
    if st = .done then .good i g none lost.head?
    else if st = .collMismatch ∨ st = .keyInvalid then .bad st
    else if lost ≠ [] ∨ p.isNone ∨ !fbit h (serialWing h (locSerial r.loc)) GAL_CTRL_LOCATE_EN then .bad st
    else match q with
      | none => if haveQ then .bad st else .askQ
      | some q =>
        let try1 (z : Nat) : Option (Nat × Nat × Nat) :=
          let i := rebuildWith x z d (p.getD 0) q
          let (s, g) := reconCheck h r i
          if z ≠ x ∧ s = .done then some (z, i, g) else none
        match (List.range n).findSome? try1 with
        | some (z, i, g) => .good i g (some z) none
        | none => .bad st

/-- A reconstruction begun (R266 step 1): the other data panels and P. -/
def startRecon (h : Head) (loc coll sheets : Nat) (work : Option Work) : Head :=
  if h.gal.recons.any (fun r => r.loc == loc && r.work == work) then h
  else
    let n := serialN h (locSerial loc)
    let h := dataLoss h (locSerial loc)
    let ks := (List.range (n + 1)).filter (· != locPanel loc)
    let (h, r) := ks.foldl askPanel (h, ⟨loc, coll, sheets, work, [], []⟩)
    { h with gal := { h.gal with recons := h.gal.recons ++ [r] } }

/-! ### Moves -/

/-- A case read for a move enters a new gallery of its home wing (R321 step 3). -/
def placeMove (h : Head) (loc coll sheets image : Nat) : Head :=
  match casePlain h loc coll sheets image with
  | none => h
  | some d =>
    let w := collHome h coll
    let items := (granulesOf h loc image).map (fun g => (⟨g.2, 0, 0, 0, w, g.1, g.2.fptag, 0⟩ : GalItem))
    placeCase (updCase h coll loc (fun e => { e with moving := true })) w ⟨coll, 0, 0, sheets, locRaw loc, true, d, items⟩

/-- A blind case read for REINDEX (R201). -/
def reindexCase (h : Head) (loc coll sheets image : Nat) : Head :=
  foldHead h (granulesOf h loc image) (fun h g =>
    let (st, d) := checkGranule h g.1 coll sheets image
    if st = .done then fileBlind h coll g.1 d else h)

/-- A case that a consignment cannot read, named by its locator with RAW clear. -/
def lostShip (h : Head) (loc : Nat) (st : Status) : Head :=
  { h with rpl := { h.rpl with lost := h.rpl.lost ++ [(caseLoc loc / 2 * 2, st)] } }

/-- A case read for a consignment (R352): its granules that pass their checks are kept by locator. -/
def shipCase (h : Head) (loc coll sheets image : Nat) : Head :=
  foldHead h (granulesOf h loc image) (fun h g =>
    let (st, d) := checkGranule h g.1 coll sheets image
    if st = .done then { h with rpl := { h.rpl with shipped := tabPut h.rpl.shipped g.1 d } } else lostShip h g.1 st)

/-- A job's case in hand. -/
def takeCase (h : Head) (w : Work) (loc coll sheets image : Nat) : Head :=
  match w.job with
  | .reindex => reindexCase h loc coll sheets image
  | .ship => shipCase h loc coll sheets image
  | _ => placeMove h loc coll sheets image

/-- A job takes a case of a label area. -/
def wantsCase (h : Head) (w : Work) (labels : List Label) (l : Label) : Bool :=
  let loc (g : Label) : Nat := mkLoc g.serial g.panel g.sheet g.gidx g.raw
  l.gidx == 0 && (w.only.isNone || w.only == some l.sheet) && !l.system && labels.any (fun g => g.sheet == l.sheet &&
    (match w.job with
      | .reindex => (indexOf h g.coll).any (fun e => e.loc == loc g && e.blind)
      | .ship => true
      | _ => granuleValid h g (loc g)))

/-- A label area in hand (R321 step 2): the cases the job takes are read next, unless their move is under way. -/
def takeLabels (h : Head) (w : Work) (serial image : Nat) : Head :=
  let labels := labelsIn h serial w.panel image
  let cases := labels.filter (wantsCase h w labels)
  let reads := cases.map (fun l => ({ w with case := some (mkLoc serial w.panel l.sheet 0 l.raw, l.coll, l.glen) } : Work))
  let fresh := reads.filter (fun x => !h.gal.work.contains x && (match x.case with
    | some (loc, coll, _) => w.job == .ship || !(indexOf h coll).any (fun e => e.moving && caseLoc e.loc == loc)
    | none => false))
  { h with gal := { h.gal with work := fresh ++ h.gal.work } }

/-- The panel of a located or reconstructed read reported to the Conservator (R266). -/
def reportPanel (h : Head) (serial panel : Nat) (only : Option Nat) : Head :=
  match serialHall h serial with
  | none => h
  | some r =>
    let w : Work := ⟨.report, r.hall, r.row, panel, only, none⟩
    if h.gal.work.contains w then h else { h with gal := { h.gal with work := h.gal.work ++ [w] } }

/-- A reconstruction ends. -/
def endRecon (h : Head) (r : Recon) (s : ReconStep) : Head :=
  let w := serialWing h (locSerial r.loc)
  let h := { h with gal := { h.gal with recons := h.gal.recons.filter (fun x => !(x.loc == r.loc && x.work == r.work)) } }
  match s with
  | .askQ => h
  | .good image g z y =>
    let h := raise (fadd h w GAL_CNT_REBUILT_COUNT) w Ev.GAL_REBUILT
    let h := match z with
      | some z =>
        let h := raise (fadd h w GAL_CNT_LOCATED_COUNT) w Ev.GAL_LOCATED
        foldHead (reportPanel h (locSerial r.loc) z none) (List.range (serialN h (locSerial r.loc))) (fun h k =>
          reportPanel h (locSerial r.loc) k none)
      | none => h
    match r.work with
    | none =>
      let h := { h with gal := { h.gal with assembled := tabPut h.gal.assembled r.loc ⟨r.coll, .done, g⟩ } }
      foldHead (reportPanel h (locSerial r.loc) (locPanel r.loc) (some (locSheet r.loc))) y.toList (fun h y =>
        reportPanel h (locSerial r.loc) y none)
    | some x => match x.case with
      | none => takeLabels h x (locSerial r.loc) image
      | some (loc, coll, sheets) => takeCase h x loc coll sheets image
  | .bad st =>
    let h := raise (dataLoss h (locSerial r.loc)) w Ev.GAL_REBUILD_FAIL
    match r.work with
    | none => { h with gal := { h.gal with assembled := tabPut h.gal.assembled r.loc ⟨r.coll, st, 0⟩ } }
    | some x =>
      let h := if x.job = .ship then lostShip h (mkLoc (locSerial r.loc) x.panel (x.only.getD 0) 0 false) st else h
      match x.case with
      | some (loc, coll, _) => updCase h coll loc (fun e => { e with suspect := true })
      | none => h

/-- A reconstruction whose reads have all come goes on. The second round, with Q, comes at most once. -/
def driveRecon (h : Head) (r : Recon) : Head :=
  if r.asked.any (fun k => !tabHas r.got k) then setRecon h r
  else match reconStep h r with
    | .askQ =>
      let (h, r) := askPanel (h, r) (serialN h (locSerial r.loc) + 1)
      if r.asked.any (fun k => !tabHas r.got k) then setRecon h r else endRecon h r (reconStep h r)
    | s => endRecon h r s

/-- Every reconstruction that can go on does. -/
def driveRecons (h : Head) : Head := foldHead h h.gal.recons driveRecon

/-- A piece of a reconstruction has come, or its read failed. -/
def reconPiece (h : Head) (loc panel : Nat) (labels : Bool) (data : Option Nat) : Head :=
  let k := 2 * panel + ofBool labels
  let h := { h with gal := { h.gal with recons := h.gal.recons.map (fun r =>
    if r.loc = loc ∧ r.asked.contains k ∧ !tabHas r.got k then
      { r with got := tabPut r.got k (data.map (fun d => if labels then d <<< (4096 * 96) else d <<< (4096 * locSheet r.loc))) }
    else r) } }
  driveRecons h

/-- Reconstructions begun with every panel out of reach end at once. -/
def reconNow (h : Head) (loc coll sheets : Nat) (work : Option Work) : Head := driveRecons (startRecon h loc coll sheets work)

/-! ### Reads that end -/

/-- A read's data can be used. -/
def readOk (st : Status) : Bool := st == .done || st == .doneNote

/-- A read near its threshold queues its case for rewrite, once (R327). -/
def queueRewrite (h : Head) (loc : Nat) : Head :=
  if h.cur.rewrite.any (fun r => r.1 == caseLoc loc) then h
  else reportCase (curUpd h (fun c => { c with rewrite := c.rewrite ++ [(caseLoc loc, 0)] })) .threshold loc

/-- A host's read ends (R25, R266, R327). -/
def hostReadDone (h : Head) (loc coll sheets : Nat) (st : Status) (image : Nat) : Head :=
  let h := if st = .doneNote then queueRewrite h loc else h
  if !readOk st then reconNow h loc coll sheets none
  else
    let (s, g) := checkGranule h loc coll sheets image
    if s = .done ∨ s = .collMismatch ∨ s = .keyInvalid then
      { h with gal := { h.gal with assembled := tabPut h.gal.assembled loc ⟨coll, s, g⟩ } }
    else reconNow h loc coll sheets none

/-- The panels of a row that the verify or the scrub has read. -/
def rowDone (h : Head) (w : Work) : List (Nat × Option Nat) :=
  (h.gal.rowReads.filter (fun e => e.1.job == w.job && e.1.hall == w.hall && e.1.row == w.row)).map (fun e => (e.1.panel, e.2))

/-- The cases of a row marked SUSPECT (R267). -/
def suspectRow (h : Head) (serial : Nat) : Head :=
  foldHead h (h.cat.index.map (·.1)) (fun h coll =>
    setIndex h coll ((indexOf h coll).map (fun e => if locSerial e.loc = serial then { e with suspect := true } else e)))

/-- A row whose W panels have been read is checked: P and Q (R265, R267), and by the scrub every label too (R329). -/
def checkRow (h : Head) (serial n : Nat) (scrub : Bool) (l : List (Nat × Option Nat)) : Head :=
  let w := serialWing h serial
  let get (k : Nat) : Option Nat := ((l.find? (fun e => e.1 == k)).map (·.2)).getD none
  let d := (List.range n).map get
  let full := d.map (fun x => x.getD 0)
  let good (z v : Nat) : Bool := checkLabels h serial z v
  match get n, get (n + 1) with
  | some p, some q =>
    if d.any (fun x => x.isNone) then foldHead h ((List.range n).filter (fun k => (get k).isNone)) (fun h k => reportPanel h serial k none)
    else if parityP full = p ∧ parityQ 65536 full = q ∧ (!scrub || (List.range n).all (fun k => good k (full.getD k 0))) then h
    else
      let found := if !fbit h w GAL_CTRL_LOCATE_EN then none else (List.range n).find? (fun z =>
        let v := rebuildP 65536 (d.mapIdx (fun i x => if i = z then none else x)) p
        let all := full.mapIdx (fun i x => if i = z then v else x)
        parityQ 65536 all == q && (List.range n).all (fun k => good k (all.getD k 0)))
      match found with
      | some _ =>
        let h := raise (fadd h w GAL_CNT_LOCATED_COUNT) w Ev.GAL_LOCATED
        foldHead h (List.range n) (fun h k => reportPanel h serial k none)
      | none => raise (suspectRow h serial) w Ev.GAL_REBUILD_FAIL
  | _, _ => foldHead h ((List.range n).filter (fun k => (get k).isNone)) (fun h k => reportPanel h serial k none)

/-- A panel of a row read by the verify or the scrub. -/
def rowRead (h : Head) (w : Work) (data : Option Nat) : Head :=
  let h := { h with gal := { h.gal with rowReads := h.gal.rowReads ++ [(w, data)] } }
  match tabGet? h.cur.halls w.hall, rowSerial h w.hall w.row with
  | some x, some serial =>
    let l := rowDone h w
    if l.length < x.n + 2 then h
    else
      let h := { h with gal := { h.gal with rowReads := h.gal.rowReads.filter (fun e =>
        !(e.1.job == w.job && e.1.hall == w.hall && e.1.row == w.row)) } }
      let h := if w.job = .scrub then fadd h x.wing CSV_CNT_SCRUB_COUNT else h
      checkRow h serial x.n (w.job == .scrub) l
  | _, _ => { h with gal := { h.gal with rowReads := h.gal.rowReads.filter (fun e => !(e.1.hall == w.hall && e.1.row == w.row)) } }

/-- Whether work reads whole rows. -/
def isRow (w : Work) : Bool := w.job == .verify || w.job == .scrub

/-- The locator by which a reconstruction serves a job's read. -/
def workLoc (w : Work) (serial : Nat) : Nat × Nat × Nat :=
  match w.case with
  | some (loc, coll, sheets) => (loc, coll, sheets)
  | none => (mkLoc serial w.panel 0 0 false, 0, 0)

/-- A job's read ends. -/
def workDone (h : Head) (w : Work) (st : Status) (image : Nat) : Head :=
  if isRow w then rowRead h w (if readOk st then some image else none)
  else match rowSerial h w.hall w.row with
    | none => h
    | some serial =>
      let (loc, coll, sheets) := workLoc w serial
      let h := if st = .doneNote ∧ sheets ≠ 0 then queueRewrite h loc else h
      if !readOk st then reconNow h loc coll sheets (some w)
      else if sheets = 0 then
        (if checkLabels h serial w.panel image then takeLabels h w serial image else reconNow h loc coll sheets (some w))
      else match checkCase h loc coll sheets image with
        | .done => takeCase h w loc coll sheets image
        | .collMismatch => if w.job = .ship then lostShip h (mkLoc serial w.panel (w.only.getD 0) 0 false) .collMismatch else h
        | _ => reconNow h loc coll sheets (some w)

/-- A job's read issued: to its block, or, where the block cannot be read, as a reconstruction. -/
def issueWork (h : Head) (w : Work) : Head :=
  match rowSerial h w.hall w.row with
  | none => h
  | some _ =>
    let a := workBlock h w.hall w.row w.panel
    if !panelReadable h a then workDone h w .fenced 0
    else
      let c := if isRow w then readCmd a w.row 0 128 false
        else match w.case with
          | some (loc, _, sheets) => readCmd a w.row (locSheet loc) sheets true
          | none => readCmd a w.row 127 1 true
      waitDie h a c .background (.work w)

end Sys2Proof.Machine
end

