-- ==== Sys2Proof/Machine/Curator.lean ====
section
/-! DEFINITION. The Curator and the Conservator (R265 to R273, R304 to R333): reclaim, evacuation, plinth rebuild, reshape,
resynchronisation, verify, scrub, anchors, the vault, and the budgets in which their reads are issued. -/

namespace Sys2Proof.Machine

open Reg

/-! ### Work (R325) -/

/-- The committed rows of a hall. -/
def doneRows (x : Hall) : List Nat := x.done

/-- The panels of a hall's committed rows, read for a job (R321 step 2). -/
def hallWork (hall : Nat) (x : Hall) (job : Job) : List Work :=
  ((doneRows x).map (fun r => (List.range x.n).map (fun k => (⟨job, hall, r, k, none, none⟩ : Work)))).flatten

/-- The data panels that lie on some of a hall's members, read for a job. -/
def memberWork (hall : Nat) (x : Hall) (job : Job) (p : Nat → Bool) : List Work :=
  (hallWork hall x job).filter (fun w => p (panelMember x w.row w.panel))

/-- The halls this head owns. -/
def ownHalls (h : Head) : List (Nat × Hall) := h.cur.halls.filter (fun e => e.2.mine)

/-- Work added, each item once. -/
def addWork (h : Head) (l : List Work) : Head :=
  { h with gal := { h.gal with work := h.gal.work ++ l.filter (fun w => !h.gal.work.contains w) } }

/-- Work dropped. -/
def dropWork (h : Head) (p : Work → Bool) : Head := { h with gal := { h.gal with work := h.gal.work.filter (fun w => !p w) } }

/-- The work a command's purpose serves. -/
def purposeWork : Purpose → Option Work
  | .work w => some w
  | _ => none

/-- Work of some kind waits or is under way. -/
def workBusy (h : Head) (p : Work → Bool) : Bool :=
  let q (o : Option Work) : Bool := match o with
    | some w => p w
    | none => false
  h.gal.work.any p || h.dsp.waiting.any (fun r => q (purposeWork r.purpose)) || h.plk.ops.any (fun o => q (purposeWork o.purpose)) ||
    h.gal.recons.any (fun r => q r.work)

/-- A move of a case of some serial has not committed. -/
def moveBusy (h : Head) (p : Nat → Bool) : Bool :=
  let hit (c : GalCase) : Bool := c.moved && c.items.any (fun i => p (locSerial i.oldLoc))
  h.gal.queued.any (fun q => hit q.2) || h.gal.opens.any (fun g => g.cases.any hit)

/-- Entries that keep a case at a place. -/
def keptAt (h : Head) (p : Nat → Bool) : Bool :=
  h.cat.index.any (fun e => e.2.any (fun x => locSerial x.loc != 0 && keepsCase h x && p x.loc))

/-- The hall of a locator. -/
def hallOfLoc (h : Head) (loc : Nat) : Option Nat := (serialHall h (locSerial loc)).map (·.hall)

/-! ### Deaccession (R319 to R321) -/

/-- A hall becomes RECLAIMING (R321 step 1). The Conservator drops its queued work on it (R334). -/
def startReclaim (h : Head) (hall : Nat) (x : Hall) : Head :=
  let h := updHall h hall (fun x => { x with st := 2 })
  let h := fset (fset h x.wing CUR_RECLAIM_ACTIVE 1) x.wing CUR_RECLAIM_HALL hall
  let h := dropWork h (fun w => w.hall == hall && w.job != .rebuild && w.job != .verify)
  addWork h (hallWork hall x .reclaim)

/-- A reclaim of this head runs (R320: one at a time). -/
def reclaiming (h : Head) : Option (Nat × Hall) := (ownHalls h).find? (fun e => e.2.st == 2)

/-- The index entries of a reclaimed hall, all dead, are removed (R209). -/
def dropEntries (h : Head) (hall : Nat) : Head :=
  foldHead h (h.cat.index.map (·.1)) (fun h coll =>
    setIndex h coll ((indexOf h coll).filter (fun e => locSerial e.loc == 0 || hallOfLoc h e.loc != some hall)))

/-- The reshape has moved a hall of another width: every GAL_RESHAPE_CKPT.HALLS halls the hall table records the boundary, no hall below
which remains at the old width (R272). -/
def walkedHall (h : Head) (x : Hall) : Head :=
  if !fbit h .east GAL_RESHAPE_RUNNING ∨ x.n = fget h .east GAL_RESHAPE_TARGET_N then h
  else
    let n := h.gal.walked + 1
    if n < fget h .east GAL_RESHAPE_CKPT_HALLS then { h with gal := { h.gal with walked := n } }
    else { h with gal := { h.gal with walked := 0, boundary := fget h .east GAL_RESHAPE_BOUND_HALL } }

/-- The reclaim under way (R321): a case whose move failed is moved again; with no valid case left RECLAIMED is sent. With no peer
the hall is ERASING at once. -/
def reclaimTick (h : Head) : Head :=
  match reclaiming h with
  | none => h
  | some (hall, x) =>
    let here (s : Nat) : Bool := (serialHall h s).map (·.hall) == some hall
    if !fbit h x.wing CUR_RECLAIM_ACTIVE ∨ workBusy h (fun w => w.hall == hall) ∨ moveBusy h here then h
    else if keptAt h (fun l => here (locSerial l)) then addWork h (hallWork hall x .reclaim)
    else
      let h := dropSerials (dropEntries h hall) hall
      let h := fadd (fset h x.wing CUR_RECLAIM_ACTIVE 0) x.wing CUR_CNT_RECLAIMED_COUNT
      let h := walkedHall h x
      sendUpdate h x.wing 0 [⟨0xFFFFFFFF, 5, hall, 0, 0, 0⟩]

/-- The score of a full hall (R320). -/
def hallScore (h : Head) (x : Hall) : Nat :=
  let u := if x.placed = 0 then 0 else x.valid * 4096 / x.placed
  if fget h .east CUR_SCORE_MAX_UTIL ≤ u then 0
  else
    let age := min (h.cur.hours - x.formed) 65535
    let s := (4096 - u) * (age + fget h .east CUR_SCORE_AGE_BIAS) / (u + 64)
    let es := x.members.map (fun a => (blockRec h a).erases)
    let least := es.foldl min (es.headD 0)
    let mean := (wearStat h).1
    let s := if h.cur.wearMode && decide (least < mean) then s + fget h .east CUR_SCORE_WEAR_WEIGHT * (mean - least) * 64 else s
    min s 0xFFFFFFFF

/-- Deaccession of a collection's halls is stopped (R210). -/
def deaccessionStopped (h : Head) (hall : Nat) : Bool :=
  h.cat.noDeaccession.any (fun coll => (indexOf h coll).any (fun e => hallOfLoc h e.loc == some hall))

/-- The halls that may be reclaimed, with their scores. -/
def scored (h : Head) : List (Nat × Hall × Nat) :=
  ((ownHalls h).filter (fun e => e.2.st == 1 && !deaccessionStopped h e.1)).map (fun e => (e.1, e.2, hallScore h e.2))

/-- Host writes that wait end with NO_RESOURCE, since no reclaim can make room (R323). -/
def noRoom (h : Head) : Head :=
  let l := h.foy.waiting.filter (fun c => isWrite c.cap.op)
  let h := { h with foy := { h.foy with waiting := h.foy.waiting.filter (fun c => !isWrite c.cap.op) } }
  raise (foldHead h l (fun h c => endCapsule h c.cap (nvmeOf .noResource))) .east Ev.CUR_NO_SPACE

/-- HALL_SCORE (R320, R323): at every 1,024th frame. -/
def hallScoring (h : Head) : Head :=
  if !h.cur.mounted ∨ frameCount h % 1024 ≠ 0 ∨ !running h (pg .cur .east) then h
  else match minOn (fun e => [0xFFFFFFFF - e.2.2, e.1]) (scored h) with
    | some (hall, x, s) =>
      if s = 0 then (if atReserve h ∧ fget h .east CUR_CTRL_EFFECTIVE = 2 then noRoom h else h)
      else if (reclaiming h).isSome ∨ fbit h .east GAL_RESHAPE_RUNNING then h
      else startReclaim h hall x
    | none => if atReserve h ∧ fget h .east CUR_CTRL_EFFECTIVE = 2 then noRoom h else h

/-! ### Evacuation (R324) -/

/-- EVACUATE's effect: a member that is not evacuating. -/
def evacuateEffect (h : Head) (refuse : Head → Head) (n : Nat) : Head :=
  if !h.cur.members.contains n ∨ h.cur.evacuating.contains n ∨ h.cur.evacuated.contains n then refuse h
  else
    let h := curUpd h (fun c => { c with evacuating := c.evacuating ++ [n] })
    addWork h ((ownHalls h).map (fun e => memberWork e.1 e.2 .evacuate (fun a => memPlinth a == n))).flatten

/-- A plinth's cases that are still valid, of this head's halls. -/
def keptOn (h : Head) (n : Nat) : Bool :=
  keptAt h (fun l => match serialHall h (locSerial l) with
    | none => false
    | some r => match tabGet? h.cur.halls r.hall with
      | none => false
      | some x => x.mine && memPlinth (panelMember x r.row (locPanel l)) == n)

/-- Evacuations under way: complete once no valid case remains. -/
def evacuateTick (h : Head) : Head :=
  foldHead h h.cur.evacuating (fun h n =>
    let mine (w : Work) : Bool := w.job == .evacuate && memPlinth (workBlock h w.hall w.row w.panel) == n
    let from' (s : Nat) : Bool := match serialHall h s with
      | some r => (match tabGet? h.cur.halls r.hall with
        | some x => x.members.any (fun a => memPlinth a == n)
        | none => false)
      | none => false
    if workBusy h mine ∨ moveBusy h from' then h
    else if keptOn h n then
      addWork h ((ownHalls h).map (fun e => memberWork e.1 e.2 .evacuate (fun a => memPlinth a == n))).flatten
    else
      -- no valid case is left on its blocks: they are FREE, but no hall takes one
      let free := (h.cur.blocks.filter (fun e => memPlinth e.1 == n && e.2.st == 1 &&
        ((tabGet? h.cur.halls e.2.hall).map (·.mine)).getD false)).map (·.1)
      let h := foldHead h free (fun h a => setBlock h a { blockRec h a with st := 0, hall := 0 })
      let h := curUpd h (fun c => { c with evacuating := c.evacuating.filter (· != n), evacuated := c.evacuated ++ [n] })
      raise h .east Ev.CUR_MEMBER_CHANGE)

/-- REMOVE's effect: an evacuated plinth leaves the members. -/
def removeEffect (h : Head) (refuse : Head → Head) (n : Nat) : Head :=
  if !h.cur.evacuated.contains n then refuse h
  else
    let h := curUpd h (fun c => { c with
      evacuated := c.evacuated.filter (· != n)
      blocks := c.blocks.filter (fun e => memPlinth e.1 != n) })
    raise (setMembers h (h.cur.members.filter (· != n))) .east Ev.CUR_MEMBER_CHANGE

/-- CANCEL's effect: an evacuation ends. After a complete one the plinth's blocks still hold old panels: they are erased before use. -/
def cancelEffect (h : Head) (refuse : Head → Head) (n : Nat) : Head :=
  if !h.cur.evacuating.contains n ∧ !h.cur.evacuated.contains n then refuse h
  else
    let h := dropWork h (fun w => w.job == .evacuate && memPlinth (workBlock h w.hall w.row w.panel) == n)
    let used := if h.cur.evacuated.contains n then (h.cur.blocks.filter (fun e => memPlinth e.1 == n && e.2.st == 0)).map (·.1) else []
    let h := foldHead h used (fun h a => setBlock h a { blockRec h a with st := 6 })
    curUpd h (fun c => { c with evacuating := c.evacuating.filter (· != n), evacuated := c.evacuated.filter (· != n) })

/-- The effect of a word's CMD field on CUR_PLINTH. -/
def curPlinthEffect (h : Head) (src cmd n : Nat) : Head :=
  let bad (code : Nat) (h : Head) : Head := config h (pg .cur .east) ⟨code, src, true, pageAddr (pg .cur .east) + 0x07C⟩
  match cmd with
  | 1 => evacuateEffect h (bad 11) n
  | 2 => removeEffect h (bad 11) n
  | 3 => cancelEffect h (bad 11) n
  | _ => bad 4 h

/-- A command written to CUR_PLINTH with its plinth; on CUR.W the register is read-only. -/
def curPlinthCmd (h : Head) (ini : Initiator) (w : Wing) (cmd n : Nat) : Head :=
  withWrite h ini (pg .cur w) 0x07C (fun h =>
    if w = .west then h else curPlinthEffect (fset h .east CUR_PLINTH_PLINTH n) (sourceCode ini) cmd (n % 64))

/-! ### A plinth rebuild (R269, R270, R273) -/

/-- The head rebuilds the galleries of a hall: its own, and in SOLO those of either owner (R269, R521). -/
def rebuildsHall (h : Head) (x : Hall) : Bool := x.mine || pairState h == 0

/-- Galleries this head rebuilds, committed, with a panel on a plinth: serial, hall, row, panel. -/
def galleriesOn (h : Head) (n : Nat) : List (Nat × Nat × Nat × Nat) :=
  (h.cur.serials.filterMap (fun e =>
    match tabGet? h.cur.halls e.2.hall with
    | none => none
    | some x =>
      if e.2.st ≠ 2 ∨ !rebuildsHall h x then none
      else ((List.range (x.n + 2)).find? (fun k => memPlinth (panelMember x e.2.row k) == n)).map (fun k =>
        (e.1, e.2.hall, e.2.row, k))))

/-- GAL_REBUILD_LEFT of both wings. -/
def syncRebuild (h : Head) : Head :=
  foldHead h wings (fun h w =>
    fset h w GAL_REBUILD_LEFT_GALLERIES (h.gal.rebuild.filter (fun s => serialWing h s == w)).length)

/-- The galleries rebuilt first are those with two lost panels (R269, R273). -/
def sortRebuild (h : Head) (l : List Nat) : List Nat := sortOn (fun s => [ofBool ((lostPanels h s).length < 2)]) l

/-- A plinth rebuild begun, or its galleries joined to the one under way (R269). -/
def rebuildPlinth (h : Head) (n : Nat) : Head :=
  let l := galleriesOn h n
  let h := foldHead h l (fun h g => dataLoss h g.1)
  let l := l.filter (fun g => !h.gal.lost.contains g.1)
  let h := { h with gal := { h.gal with
    rebuild := sortRebuild h (h.gal.rebuild ++ (l.map (·.1)).filter (fun s => !h.gal.rebuild.contains s))
    lostPlinths := if h.gal.lostPlinths.contains n then h.gal.lostPlinths else h.gal.lostPlinths ++ [n] } }
  let items := (sortOn (fun g => [ofBool ((lostPanels h g.1).length < 2)]) l).filterMap (fun g =>
    if g.2.2.2 < serialN h g.1 then some (⟨.rebuild, g.2.1, g.2.2.1, g.2.2.2, none, none⟩ : Work) else none)
  syncRebuild (addWork (fset h .east GAL_REBUILD_BUSY 1) items)

/-- REBUILD_START (R269, R275): a write of START is ignored while BUSY is 1. On GAL.W the register is read-only. -/
def rebuildStartEffect (h : Head) (n : Nat) : Head := if fbit h .east GAL_REBUILD_BUSY then h else rebuildPlinth h n

def rebuildStart (h : Head) (ini : Initiator) (w : Wing) (n : Nat) : Head :=
  withWrite h ini (pg .gal w) 0x05C (fun h =>
    if w = .west then h
    else rebuildStartEffect (fset h .east GAL_REBUILD_PLINTH n) (n % 64))

/-- A lost plinth that has returned: every block of it is UNKNOWN again, to be erased (R273, R517). -/
def forgetBlocks (h : Head) (n : Nat) : Head :=
  if !h.cur.wasLost.contains n then h
  else curUpd h (fun c => { c with wasLost := c.wasLost.filter (· != n), blocks := c.blocks.filter (fun e => memPlinth e.1 != n) })

/-- The peer's part of a plinth rebuild (R521): a head alone takes up the peer's galleries that still hold a case on a lost plinth, and
a mirrored pair leaves each head its own halls. -/
def rebuildShare (h : Head) : Head :=
  let peers (s : Nat) : Bool := match serialHall h s with
    | none => false
    | some r => match tabGet? h.cur.halls r.hall with
      | none => false
      | some x => !x.mine
  if pairState h = 3 then
    if h.gal.rebuild.any peers then syncRebuild { h with gal := { h.gal with rebuild := h.gal.rebuild.filter (fun s => !peers s) } } else h
  else if pairState h = 0 then
    let away := (h.cur.wasLost.filter (fun n => !h.gal.lostPlinths.contains n && h.cur.members.contains n)) ++ h.gal.lostPlinths
    foldHead h away (fun h n =>
      if (galleriesOn h n).any (fun g => peers g.1 && !h.gal.rebuild.contains g.1 && !h.gal.lost.contains g.1 &&
          keptAt h (fun l => locSerial l == g.1 && locPanel l == g.2.2.2)) then rebuildPlinth h n else h)
  else h

/-- Galleries of the rebuild whose lost panels hold no valid case any more. -/
def rebuildTick (h : Head) : Head :=
  let h := rebuildShare h
  let onLost (x : Hall) (row k : Nat) : Bool := h.gal.lostPlinths.contains (memPlinth (panelMember x row k))
  foldHead h h.gal.rebuild (fun h s =>
    let leave (h : Head) : Head := syncRebuild { h with gal := { h.gal with rebuild := h.gal.rebuild.filter (· != s) } }
    match serialHall h s with
    | none => leave h
    | some r => match tabGet? h.cur.halls r.hall with
      | none => leave h
      | some x =>
        if h.gal.lost.contains s then leave h
        else if workBusy h (fun w => w.job == .rebuild && w.hall == r.hall && w.row == r.row) ∨ moveBusy h (· == s) then h
        else if keptAt h (fun l => locSerial l == s && onLost x r.row (locPanel l)) then
          addWork h (((List.range x.n).filter (onLost x r.row)).map (fun k => ⟨.rebuild, r.hall, r.row, k, none, none⟩))
        else leave h)

/-- PLINTH_REBUILD_DONE (R269). -/
def rebuildDone (h : Head) : Head :=
  if !fbit h .east GAL_REBUILD_BUSY ∨ h.gal.rebuild ≠ [] then h
  else
    let back := h.gal.lostPlinths.filter (fun n => plkBit h n PLK_STATUS_ADMITTED)
    let h := foldHead { h with gal := { h.gal with lostPlinths := [] } } back forgetBlocks
    raise (fset h .east GAL_REBUILD_BUSY 0) .east Ev.GAL_PLINTH_REBUILD_DONE

/-! ### Reshape (R271, R272) -/

/-- The halls of another width than the reshape's. -/
def otherWidth (h : Head) : List (Nat × Hall) := (ownHalls h).filter (fun e => e.2.n != fget h .east GAL_RESHAPE_TARGET_N && e.2.st != 3)

/-- GAL_RESHAPE_BOUND: no hall below it remains at the old width. -/
def syncBound (h : Head) : Head :=
  fset h .east GAL_RESHAPE_BOUND_HALL (match otherWidth h with
    | e :: _ => e.1
    | [] => 2 * h.cur.nextHall + parity h)

/-- RESHAPE_START's effect (R271, R275): ignored while RUNNING; a width above the plinths present is a reserved encoding, which leaves
TARGET_N at its reset entry (R11). -/
def reshapeStartEffect (h : Head) (src target : Nat) : Head :=
  if fbit h .east GAL_RESHAPE_RUNNING then h
  else
    let present := (allPlinths.filter (fun n => plkBit h n PLK_STATUS_PRESENT)).length
    let bad := decide (target < 4) || decide (30 < target) || decide (present < target + 2)
    let h := if bad then config h (pg .gal .east) ⟨4, src, true, pageAddr (pg .gal .east) + 0x068⟩ else h
    let h := fset h .east GAL_RESHAPE_TARGET_N (if bad then 22 else target)
    syncBound (fset h .east GAL_RESHAPE_RUNNING 1)

def reshapeStart (h : Head) (ini : Initiator) (w : Wing) (target : Nat) : Head :=
  withWrite h ini (pg .gal w) 0x068 (fun h => if w = .west then h else reshapeStartEffect h (sourceCode ini) (target % 32))

/-- RESHAPE_ABORT (R272): the walk stops at the current hall. -/
def reshapeAbortEffect (h : Head) : Head := fset { h with gal := { h.gal with reshaping := false } } .east GAL_RESHAPE_RUNNING 0

def reshapeAbort (h : Head) (ini : Initiator) (w : Wing) : Head :=
  withWrite h ini (pg .gal w) 0x068 (fun h => if w = .west then h else reshapeAbortEffect h)

/-- The walk takes its next hall, lowest first, when no reclaim runs and no plinth rebuild does (R273). -/
def reshapeTick (h : Head) : Head :=
  if !fbit h .east GAL_RESHAPE_RUNNING ∨ fbit h .east GAL_REBUILD_BUSY ∨ (reclaiming h).isSome then h
  else
    let h := syncBound h
    match otherWidth h with
    | (hall, x) :: _ => if x.st = 1 then startReclaim h hall x else h
    | [] => h

/-- RESHAPE_DONE (R271). -/
def reshapeDone (h : Head) : Head :=
  if !fbit h .east GAL_RESHAPE_RUNNING ∨ (ownHalls h).any (fun e => e.2.n != fget h .east GAL_RESHAPE_TARGET_N) then h
  else
    let h := fset (syncBound h) .east GAL_WIDTH_N (fget h .east GAL_RESHAPE_TARGET_N)
    raise (fset { h with gal := { h.gal with reshaping := false } } .east GAL_RESHAPE_RUNNING 0) .east Ev.GAL_RESHAPE_DONE

/-! ### Resynchronisation and verify (R265) -/

/-- A purpose that resynchronises a row. -/
def isResync (hall row : Nat) : Purpose → Bool
  | .check a b _ | .zero a b _ => a == hall && b == row
  | _ => false

/-- A row's members asked whether they are programmed. -/
def checkRowErased (h : Head) (hall row : Nat) : Head :=
  match tabGet? h.cur.halls hall with
  | none => h
  | some x => foldHead h x.members.zipIdx (fun h e =>
      if panelReadable h e.1 then waitDie h e.1 (dieCmd 4 e.1 row) .background (.check hall row e.2) else h)

/-- A member's answer (R290): an unprogrammed panel is programmed with zeros. -/
def checkDone (h : Head) (hall row m a word : Nat) (st : Status) : Head :=
  if readOk st ∧ word % 4 = 0 then waitDie h a { dieCmd 2 a row with dlen := 65536 } .program (.zero hall row m) else h

/-- Rows to resynchronise: those not begun are, and those all of whose members have answered become VOID. -/
def resyncTick (h : Head) : Head :=
  foldHead h h.gal.resync (fun h r =>
    if !h.gal.checking.contains r then
      checkRowErased { h with gal := { h.gal with checking := h.gal.checking ++ [r] } } r.1 r.2
    else if h.dsp.waiting.any (fun q => isResync r.1 r.2 q.purpose) ∨ h.plk.ops.any (fun o => isResync r.1 r.2 o.purpose) then h
    else
      let h := { h with gal := { h.gal with
        resync := h.gal.resync.filter (· != r)
        checking := h.gal.checking.filter (· != r) } }
      let h := fset h .east GAL_RESYNC_LEFT h.gal.resync.length
      match rowSerial h r.1 r.2 with
      | none => h
      | some s => sendUpdate (voidSerial h r.1 r.2 s) (serialWing h s) 0 [⟨0xFFFFFFFF, 4, r.1 + r.2 <<< 24, 0, s <<< 16, 0⟩])

/-- The halls that the head fills, the ring's first, whose rows the verify reads. -/
def verifyHalls (h : Head) : List Nat :=
  let l := ((ownHalls h).filter (fun e => e.2.st == 0)).map (·.1)
  l.filter h.gal.verify.contains ++ l.filter (fun n => !h.gal.verify.contains n)

/-- The reads of a row by the verify or the scrub. -/
def rowWork (job : Job) (hall : Nat) (x : Hall) (row : Nat) : List Work :=
  (List.range (x.n + 2)).map (fun k => ⟨job, hall, row, k, none, none⟩)

/-- RESYNC_DONE (R265): after an unclean stop the serial counter is recovered, 1,024 above the highest serial the hall table records
(R257), and MOUNT_DONE follows (R332); the verify starts. -/
def resyncDone (h : Head) : Head :=
  if !fbit h .east GAL_RESYNC_RUNNING ∨ h.gal.resync ≠ [] then h
  else
    let h := raise (fset h .east GAL_RESYNC_RUNNING 0) .east Ev.GAL_RESYNC_DONE
    let h := if !h.cur.mounting then h
      else
        let top := (h.cur.serials.map (·.1)).foldl max 0 / 2
        let h := setSerialCounter h (max (serialCounter h) (top + 1) + 1024)
        raise (curUpd h (fun c => { c with mounting := false, mounted := true })) .east Ev.CUR_MOUNT_DONE
    let l := if fbit h .east GAL_CTRL_VERIFY_EN then verifyHalls h else []
    let h := { h with gal := { h.gal with verify := l } }
    let h := fset (fset h .east GAL_RESYNC_VERIFYING 1) .east GAL_RESYNC_LEFT l.length
    addWork h (l.map (fun n => match tabGet? h.cur.halls n with
      | some x => ((doneRows x).map (rowWork .verify n x)).flatten
      | none => [])).flatten

/-- Halls whose verify is complete. -/
def verifyTick (h : Head) : Head :=
  let l := h.gal.verify.filter (fun n => workBusy h (fun w => w.job == .verify && w.hall == n))
  if fbit h .east GAL_RESYNC_VERIFYING then fset { h with gal := { h.gal with verify := l } } .east GAL_RESYNC_LEFT l.length else h

/-- VERIFY_DONE (R265, R333). -/
def verifyDone (h : Head) : Head :=
  let h := verifyTick h
  if !fbit h .east GAL_RESYNC_VERIFYING ∨ h.gal.verify ≠ [] then h
  else
    let h := fset h .east GAL_RESYNC_VERIFYING 0
    raise (curUpd h (fun c => { c with verified := true })) .east Ev.GAL_VERIFY_DONE

/-! ### The Conservator's own work (R201, R318, R325 to R329) -/

/-- The valid cases of a block moved. -/
def blockWork (h : Head) (job : Job) (a : Nat) : List Work :=
  match tabGet? h.cur.halls (blockRec h a).hall with
  | none => []
  | some x => if !x.mine ∨ 2 ≤ x.st then [] else memberWork (blockRec h a).hall x job (· == a)

/-- A block read once more (R305): at half of the limit its cases are moved (R326). -/
def countRead (h : Head) (a : Nat) : Head :=
  let b := blockRec h a
  if b.st ≠ 1 then h
  else
    let n := min (b.reads + 1) (2 ^ 24 - 1)
    let h := setBlock h a { b with reads := n }
    let w := plkWing (memPlinth a)
    if fbit h w CSV_CTRL_REFRESH_EN ∧ n = fget h w CSV_READ_LIMIT / 2 then
      let l := blockWork h .refresh a
      if l = [] then h
      else addWork (fadd (curUpd h (fun c => { c with refresh := c.refresh ++ [a] })) w CSV_CNT_REFRESH_COUNT) l
    else h

/-- Refreshes whose work has been issued leave the queue. -/
def refreshTick (h : Head) : Head :=
  let l := h.cur.refresh.filter (fun a => workBusy h (fun w => w.job == .refresh && workBlock h w.hall w.row w.panel == a))
  if l = h.cur.refresh then h else curUpd h (fun c => { c with refresh := l })

/-- Member blocks programmed too long ago (R328). -/
def retainTick (h : Head) : Head :=
  let due := h.cur.blocks.filter (fun e =>
    let w := plkWing (memPlinth e.1)
    e.2.st == 1 && fbit h w CSV_CTRL_RETAIN_EN && decide (e.2.progHours + fget h w CSV_RETAIN_HOURS < h.cur.hours) &&
      !workBusy h (fun x => x.job == .retain && workBlock h x.hall x.row x.panel == e.1))
  let kept := due.filter (fun e => keptAt h (fun l => match panelPlace h (locSerial l) (locPanel l) with
    | some (a, _) => a == e.1
    | none => false))
  addWork h (kept.map (fun e => blockWork h .retain e.1)).flatten

/-- A die removed from scheduling (R318): its member blocks are treated as lost. -/
def dieLost (h : Head) (die : Nat) : Head :=
  if h.dsp.failed.contains die then h
  else
    let h := { h with dsp := { h.dsp with failed := h.dsp.failed ++ [die] } }
    let w := plkWing (die / 128)
    let bs := (h.cur.blocks.filter (fun e => e.2.st == 1 && memDieKey e.1 == die)).map (·.1)
    addWork (raise h w Ev.DSP_DIE_FAILED) (bs.map (blockWork h .failedDie)).flatten

/-- Blind entries of the collections that REINDEX names, read in the Conservator's budget (R201). -/
def reindexTick (h : Head) : Head :=
  foldHead h h.cat.reindexing (fun h coll =>
    let l := (indexOf h coll).filter (fun e => e.blind && locSerial e.loc != 0)
    if l = [] then { h with cat := { h.cat with reindexing := h.cat.reindexing.filter (· != coll) } }
    else foldHead h l (fun h e => match serialHall h (locSerial e.loc) with
      | none => h
      | some r =>
        let same (w : Work) : Bool := w.job == .reindex && w.hall == r.hall && w.row == r.row && w.panel == locPanel e.loc
        if workBusy h same then h else reportCase h .reindex e.loc))

/-- A wing's scrub, read and set. -/
def scrubOf (h : Head) (w : Wing) : Scrub := if w = .east then h.cur.scrubE else h.cur.scrubW
def setScrub (h : Head) (w : Wing) (s : Scrub) : Head :=
  { h with cur := if w = .east then { h.cur with scrubE := s } else { h.cur with scrubW := s } }

/-- The committed rows of the head's halls that a wing fills, in hall order. -/
def scrubRows (h : Head) (w : Wing) : List (Nat × Nat) :=
  (((ownHalls h).filter (fun e => e.2.wing == w)).map (fun e => (sortOn (fun r => [r]) (doneRows e.2)).map (fun r => (e.1, r)))).flatten

/-- The hall of a job lies with a wing. -/
def hallWingIs (h : Head) (w : Wing) (x : Work) : Bool := ((tabGet? h.cur.halls x.hall).map (·.wing)).any (· == w)

/-- A scrub falls more than a tenth behind its target (R329). -/
def scrubLags (h : Head) (w : Wing) (total : Nat) : Bool :=
  let s := scrubOf h w
  decide (10 * s.done * (fget h w CSV_SCRUB_DAYS * 86400 * 10 ^ 9) < 9 * total * (frmTime h - s.start))

/-- The next row of a wing's scrub, once the last one has been checked; the end of a pass (R329). -/
def scrubTick (h : Head) (w : Wing) : Head :=
  if !fbit h w CSV_CTRL_SCRUB_EN ∨ !h.cur.mounted ∨ workBusy h (fun x => x.job == .scrub && hallWingIs h w x) then h
  else
    let rows := scrubRows h w
    let s := scrubOf h w
    let h := if scrubLags h w rows.length then raise h w Ev.CSV_SCRUB_LAG else h
    match rows.find? (fun r => decide (s.hall < r.1) || (r.1 == s.hall && decide (s.row ≤ r.2))) with
    | some (hall, row) => match tabGet? h.cur.halls hall with
      | none => h
      | some x => addWork (setScrub h w { s with hall := hall, row := row + 1, done := s.done + 1 }) (rowWork .scrub hall x row)
    | none =>
      if rows = [] then h else raise (fadd (setScrub h w ⟨0, 0, frmTime h, 0⟩) w CSV_SCRUB_PASSES) w Ev.CSV_SCRUB_PASS

/-! ### Budgets (R31, R269, R319, R325) -/

/-- The order in which work is taken: the Conservator's by R325, then the verify, deaccession and rebuild in their own budgets. -/
def jobRank : Job → Nat
  | .failedDie => 0
  | .report => 1
  | .threshold => 2
  | .refresh => 3
  | .retain => 4
  | .reindex => 5
  | .scrub => 6
  | .verify => 7
  | .reclaim => 8
  | .evacuate => 9
  | .rebuild => 10
  | .ship => 11

/-- A wing's budgets of a frame: the Conservator's panel reads, deaccession's sheets, the rebuild's panel reads less those owed. -/
structure Budgets where
  csv : Nat
  cur : Nat
  gal : Int
  deriving DecidableEq, Repr

/-- The reclaim budget of a wing, in panels (R319). -/
def reclaimPanels (h : Head) (w : Wing) : Nat :=
  let last := if w = .east then h.cur.lastE else h.cur.lastW
  let idle := decide (last ≤ fget h w CUR_THROTTLE_IDLE_GRANULES)
  match fget h w CUR_CTRL_EFFECTIVE with
  | 0 => if idle then frameBudget h 8 (fget h w CUR_BUDGET_IDLE_PANELS) else 0
  | 1 => if idle then frameBudget h 8 (fget h w CUR_BUDGET_IDLE_PANELS) else frameBudget h 8 (fget h w CUR_BUDGET_NORMAL_PANELS)
  | _ => frameBudget h 16 (fget h w CUR_BUDGET_FG_PANELS)

def wingBudgets (h : Head) (w : Wing) : Budgets where
  csv := if running h (pg .csv w) then frameBudget h 16 (fget h w CSV_BUDGET_PANEL_READS) else 0
  cur := if running h (pg .cur w) then 128 * reclaimPanels h w else 0
  gal := (if running h (pg .gal w) then frameBudget h 16 (fget h w GAL_BUDGET_PANEL_READS) else 0 : Nat) -
    ((if w = .east then h.gal.owedE else h.gal.owedW : Nat) : Int)

/-- The sheets a read asks for. -/
def workSheets (w : Work) : Nat :=
  match w.case with
  | some (_, _, n) => n
  | none => if isRow w then 128 else 1

/-- The panels that the rebuild reads for a job's read (R269): a panel it must reconstruct takes N reads. -/
def workPanels (h : Head) (w : Work) : Nat :=
  if panelReadable h (workBlock h w.hall w.row w.panel) then 1 else ((tabGet? h.cur.halls w.hall).map (·.n)).getD 1

/-- A read charged to its budget, or none where the budget does not cover it. A reconstruction begins in the frame that has a read
left, and the reads the frame does not cover are charged to the next ones (R32). -/
def charge (h : Head) (b : Budgets) (w : Work) : Option Budgets :=
  match w.job with
  | .reclaim | .evacuate => if b.cur < workSheets w then none else some { b with cur := b.cur - workSheets w }
  | .rebuild => if b.gal ≤ 0 then none else some { b with gal := b.gal - (workPanels h w : Nat) }
  | .ship => some b
  | _ => if b.csv = 0 then none else some { b with csv := b.csv - 1 }

/-- A job of a block that R31 lists: the Curator or the Conservator. -/
def slipsWork (w : Work) : Bool := w.job != .rebuild && w.job != .ship

/-- The frame's reads issued within the budgets of both wings, those carried over from the last frame first; what is left carries over
(R32, R34). -/
def issueTick (h : Head) : Head :=
  let l := sortOn (fun w => [ofBool (!h.gal.carried.contains w), jobRank w.job]) h.gal.work
  let wing (w : Work) : Wing := plkWing (memPlinth (workBlock h w.hall w.row w.panel))
  let r := l.foldl (fun (acc : Budgets × Budgets × List Work × List Work) w =>
    let (e, u, go, stay) := acc
    match wing w with
    | .east => match charge h e w with
      | some e => (e, u, go ++ [w], stay)
      | none => (e, u, go, stay ++ [w])
    | .west => match charge h u w with
      | some u => (e, u, go ++ [w], stay)
      | none => (e, u, go, stay ++ [w])) (wingBudgets h .east, wingBudgets h .west, [], [])
  let h := { h with gal := { h.gal with
    work := r.2.2.2
    carried := r.2.2.2
    owedE := (-r.1.gal).toNat
    owedW := (-r.2.1.gal).toNat } }
  let h := foldHead h wings (fun h w => if r.2.2.2.any (fun x => slipsWork x && wing x == w) then carryOver h w else h)
  foldHead h r.2.2.1 issueWork

/-! ### Erases (R305, R306, R321) -/

/-- An erase of a block waits or is under way. -/
def erasing (h : Head) (a : Nat) : Bool :=
  let hit (p : Purpose) : Bool := match p with
    | .eraseBlock b _ => b == a
    | _ => false
  h.dsp.waiting.any (fun r => hit r.purpose) || h.plk.ops.any (fun o => hit o.purpose)

/-- A die has an erase waiting or under way. -/
def dieErasing (h : Head) (die : Nat) : Bool :=
  let hit (p : Purpose) : Bool := match p with
    | .eraseBlock b _ => memDieKey b == die
    | _ => false
  h.dsp.waiting.any (fun r => hit r.purpose) || h.plk.ops.any (fun o => hit o.purpose)

/-- The dies of a member plinth (R297), as channel and die. -/
def diesOf (h : Head) (n : Nat) : List (Nat × Nat) :=
  let g := tabGet h.plk.geom 0 n
  ((List.range (g >>> 28 % 16 + 1)).map (fun c => (List.range (g >>> 25 % 8 + 1)).map (fun d => (c, d)))).flatten

/-- The lowest UNKNOWN block of a die that this head may erase: of its parity, or while SOLO of either. -/
def unknownOn (h : Head) (n c d : Nat) : Option Nat :=
  ((List.range (fget h .east CUR_GEOM_BLOCKS_BLOCKS)).map (memberAddr n c d)).find? (fun a =>
    (blockRec h a).st == 6 && (memBlock a % 2 == parity h || pairState h == 0))

/-- One erase of a block. -/
def eraseOne (h : Head) (a : Nat) : Head :=
  if !blockReadable h a ∨ erasing h a then h
  else waitDie (setBlock h a { blockRec h a with st := 2 }) a (dieCmd 3 a 0) .erase (.eraseBlock a false)

/-- The members of ERASING halls, and one UNKNOWN block of each die, scheduled for erase. -/
def eraseTick (h : Head) : Head :=
  if !h.cur.mounted then h
  else
    let h := foldHead h ((ownHalls h).filter (fun e => e.2.st == 3)) (fun h e => foldHead h e.2.members eraseOne)
    foldHead h (h.cur.members.filter (fun n => !h.cur.evacuated.contains n)) (fun h n =>
      foldHead h (diesOf h n) (fun h cd =>
        if dieErasing h (n * 128 + cd.1 * 8 + cd.2) then h
        else match unknownOn h n cd.1 cd.2 with
          | some a => eraseOne h a
          | none => h))

/-! ### Anchors (R312) -/

/-- The anchor record's 65,536 bytes. -/
def anchorBytes (h : Head) (seq gen : Nat) : Nat :=
  let entry := match serialHall h (locSerial h.cur.ckptLoc) with
    | some r => (match tabGet? h.cur.halls r.hall with
      | some x => hallEntryNum r.hall x
      | none => 0)
    | none => 0
  let body := 0x5E1FA4C0 + (seq % 2 ^ 32) <<< 32 + fget h .east CAT_CKPT_LAST_NUMBER <<< 64 + parity h <<< 96 + gen <<< 104 +
    h.cur.vault.length <<< 112 + h.cur.ckptLoc <<< 128 + entry <<< 512 +
    (h.cur.vault.zipIdx.map (fun e => e.1 <<< (2560 + 48 * e.2))).sum
  body + sealMac h 65520 body <<< 524160

/-- The plinths that take an anchor record's copies. -/
def anchorPlinths (h : Head) : List Nat :=
  ((sortOn (fun n => [n]) h.cur.members).filter (fun n => plkBit h n PLK_STATUS_PRESENT)).take (fget h .east CUR_ANCHOR_COPIES)

/-- The head's current anchor block on a plinth: 0 or 1 for PREFER 0, 2 or 3 for PREFER 1. -/
def anchorBlock (h : Head) (n : Nat) : Nat := memberAddr n 0 0 (2 * parity h + h.cur.anchorHalf)

/-- A copy of the record sent to one plinth. -/
def sendAnchor (h : Head) (n : Nat) : Head :=
  let a := anchorBlock h n
  let d := anchorBytes h h.cur.anchorSeq (fget h .east CUR_VAULT_GEN)
  waitDie h a { dieCmd 2 a h.cur.anchorRow with slc := true, dlen := 65536, data := d } .program (.anchor h.cur.anchorSeq)

/-- An anchor record written (R312), with a change of the vault or without. A full block gives way to the other one, erased first. -/
def writeAnchor (h : Head) (vault : Bool) : Head :=
  let h := { h with cur := { h.cur with
    anchorSeq := h.cur.anchorSeq + 1
    anchorAcks := 0
    vaultAnchor := h.cur.vaultAnchor || vault } }
  let h := if vault then fset h .east CUR_VAULT_GEN ((fget h .east CUR_VAULT_GEN + 1) % 256) else h
  let h := fset h .east CUR_ANCHOR_SEQ h.cur.anchorSeq
  let ps := anchorPlinths h
  if h.cur.anchorRow + 1 < fget h .east CUR_GEOM_SLC_ROWS then
    foldHead { h with cur := { h.cur with anchorRow := h.cur.anchorRow + 1 } } ps sendAnchor
  else
    let h := { h with cur := { h.cur with anchorRow := 0, anchorHalf := 1 - h.cur.anchorHalf } }
    foldHead h ps (fun h n => waitDie h (anchorBlock h n) { dieCmd 3 (anchorBlock h n) 0 with slc := true } .erase
      (.anchorErase (anchorBlock h n)))

/-- CUR_VAULT.READY as R330 gives it: the vault erased, listed in an acknowledged record, and KEY_FRESH 1. -/
def vaultReady (h : Head) : Head :=
  if h.cur.vault ≠ [] ∧ h.cur.vaultErase = [] ∧ h.cur.vaultListed ∧ fbit h .east RSV_DUMP_KEY_FRESH ∧ !fbit h .east CUR_VAULT_READY then
    raise (fset h .east CUR_VAULT_READY 1) .east Ev.CUR_VAULT_READY
  else h

/-- Copies of the record still to be acknowledged. -/
def anchorPending (h : Head) : Bool :=
  let hit (p : Purpose) : Bool := match p with
    | .anchor _ | .anchorErase _ => true
    | _ => false
  h.dsp.waiting.any (fun r => hit r.purpose) || h.plk.ops.any (fun o => hit o.purpose)

/-- The old vault's blocks go back for erase once a new vault is listed (R331). -/
def returnOldVault (h : Head) : Head :=
  foldHead { h with cur := { h.cur with oldVault := [] } } h.cur.oldVault (fun h a => setBlock h a { blockRec h a with st := 6 })

/-- A copy acknowledged, or failed; with the last one, ANCHOR_FAIL where copies are missing, and the vault's change is listed. -/
def anchorAck (h : Head) (st : Status) : Head :=
  let h := if st = .done then { h with cur := { h.cur with anchorAcks := h.cur.anchorAcks + 1 } } else h
  if anchorPending h then h
  else
    let h := if h.cur.anchorAcks < fget h .east CUR_ANCHOR_COPIES then raise h .east Ev.CUR_ANCHOR_FAIL else h
    if h.cur.vaultAnchor ∧ 0 < h.cur.anchorAcks then
      returnOldVault (vaultReady { h with cur := { h.cur with vaultAnchor := false, vaultListed := true } })
    else h

/-- An anchor block's erase done, which is counted and recorded as every erase (R307): the record goes into its row 0. -/
def anchorErased (h : Head) (n : Nat) (st : Status) : Head :=
  if st = .done then
    let a := anchorBlock h n
    sendAnchor (sendUpdate (blockErased h a) (plkWing n) 0 [⟨0xFFFFFFFF, 6, a, 0, 0, 0⟩]) n
  else anchorAck h st

/-! ### The vault (R330, R331) -/

/-- The blocks of a vault. -/
def vaultCount (h : Head) : Nat := (1048576 + fget h .east CUR_GEOM_SLC_ROWS - 1) / fget h .east CUR_GEOM_SLC_ROWS

/-- FREE blocks in the order the vault takes them: one on each die before a second on any, the least worn first. -/
def vaultOrder (h : Head) (used : List Nat) : List Nat :=
  let l := sortOn (fun e => [e.2.erases, e.1])
    (h.cur.blocks.filter (fun e => e.2.st == 0 && memBlock e.1 % 2 == parity h && h.cur.members.contains (memPlinth e.1) &&
      blockReadable h e.1))
  let ranked := l.foldl (fun (acc : List (Nat × Nat × Nat) × List Nat) e =>
    let d := memDieKey e.1
    (acc.1 ++ [((acc.2.filter (· == d)).length, e.2.erases, e.1)], acc.2 ++ [d])) ([], used.map memDieKey)
  (sortOn (fun e => [e.1, e.2.1, e.2.2]) ranked.1).map (·.2.2)

/-- Blocks taken for the vault and erased in SLC mode. -/
def takeVault (h : Head) (l : List Nat) : Head :=
  let h := curUpd h (fun c => { c with vault := c.vault ++ l, vaultErase := c.vaultErase ++ l, vaultListed := false })
  foldHead h l (fun h a =>
    waitDie (setBlock h a { blockRec h a with st := 3 }) a { dieCmd 3 a 0 with slc := true } .erase (.eraseBlock a true))

/-- The vault filled up to its count, where enough blocks are FREE; else VAULT_SHORT. -/
def fillVault (h : Head) : Head :=
  let want := vaultCount h - h.cur.vault.length
  let l := (vaultOrder h h.cur.vault).take want
  if l.length < want then raise h .east Ev.CUR_VAULT_SHORT else if want = 0 then h else takeVault h l

/-- VAULT_PREPARE (R330, R331): a new vault is chosen; after a restored dump the old one is kept until the new one is listed. -/
def vaultPrepare (h : Head) : Head :=
  if !h.cur.mounted ∨ !fbit h .east RSV_DUMP_KEY_FRESH ∨ h.cur.vault ≠ [] then h else fillVault h

/-- A vault block's erase done (R330): after the last one the anchor lists the vault. A block that fails is replaced. -/
def vaultErased (h : Head) (a : Nat) (st : Status) : Head :=
  let h := curUpd h (fun c => { c with vaultErase := c.vaultErase.filter (· != a) })
  let b := blockRec h a
  let h := if st = .done then
      let h := setBlock h a { b with erases := min (b.erases + 1) (2 ^ 20 - 1), reads := 0 }
      sendUpdate h (plkWing (memPlinth a)) 0 [⟨0xFFFFFFFF, 6, a, 0, 0, 0⟩]
    else
      let w := plkWing (memPlinth a)
      let h := raise (fadd (setBlock h a { b with st := 5, retire := true }) w CUR_CNT_RETIRED_COUNT) w Ev.CUR_BLOCK_RETIRED
      fillVault (curUpd h (fun c => { c with vault := c.vault.filter (· != a) }))
  if h.cur.vaultErase = [] then writeAnchor h true else h

/-- Vault blocks lost with their plinth are replaced (R331). -/
def vaultLost (h : Head) (p : Nat → Bool) : Head :=
  if !h.cur.vault.any p then h
  else
    let h := raise (fset h .east CUR_VAULT_READY 0) .east Ev.CUR_VAULT_SHORT
    fillVault (curUpd h (fun c => { c with
      vault := c.vault.filter (fun a => !p a)
      vaultErase := c.vaultErase.filter (fun a => !p a)
      vaultListed := false }))

/-! ### Plinths lost and returned (R298, R299, R309, R516) -/

/-- FILLING halls with a member on a plinth become FULL (R309). -/
def fullOn (h : Head) (n : Nat) : Head :=
  foldHead h ((ownHalls h).filter (fun e => e.2.st == 0 && e.2.members.any (fun a => memPlinth a == n))) (fun h e =>
    updHall h e.1 (fun x => { x with st := 1 }))

/-- A plinth lost (R516): halls, the vault, and the rebuild of its panels. -/
def plinthLost (h : Head) (n : Nat) : Head :=
  if !h.cur.members.contains n then h
  else
    let h := { h with cur := { h.cur with wasLost := n :: h.cur.wasLost.filter (· != n) } }
    rebuildPlinth (vaultLost (fullOn h n) (fun a => memPlinth a == n)) n

/-- An admitted plinth joins the members (R298, R304, R517), with every block UNKNOWN, unless its dies differ in capacity. One that returns
after it was lost has its blocks erased once its rebuild is complete (R273). -/
def joinMember (h : Head) (n : Nat) : Head :=
  if h.cur.members.contains n then (if h.gal.lostPlinths.contains n then h else forgetBlocks h n)
  else
    let gb (n : Nat) : Nat := tabGet h.plk.geom 0 n % 65536
    if h.cur.members.any (fun m => gb m != gb n) then raise h .east Ev.CUR_MEMBER_CHANGE
    else setMembers h (sortOn (fun n => [n]) (h.cur.members ++ [n]))

/-! ### A head's frame -/

/-- The Curator's and the Conservator's part of a frame. -/
def curatorTick (h : Head) : Head :=
  let h := { h with cur := { h.cur with
    lastE := h.cur.admittedE
    lastW := h.cur.admittedW
    admittedE := 0
    admittedW := 0
    writesE := 0
    writesW := 0 } }
  let h := { h with gal := { h.gal with reshaping := fbit h .east GAL_RESHAPE_RUNNING } }
  let h := foldHead h wings ensureHalls
  let h := verifyTick (resyncTick (refreshTick (retainTick (reindexTick (foldHead h wings scrubTick)))))
  let h := reshapeTick (rebuildTick (evacuateTick (reclaimTick h)))
  let h := placeQueued (issueTick h)
  eraseTick h

end Sys2Proof.Machine
end

