-- ==== Sys2Proof/Machine/Mount.lean ====
section
/-! DEFINITION. MOUNT (R332): the anchors found, a dump restored (R505), the checkpoint loaded, the journal replayed (R210). -/

namespace Sys2Proof.Machine

open Reg

/-! ### Replay of the head's journal (R210) -/

/-- A hall's owner set from its number's parity, after a hall change is replayed. -/
def ownByParity (h : Head) (e : CatEntry) : Head :=
  updHall (applyHallEntry h e) (e.granule % 2 ^ 24) (fun x => { x with mine := e.granule % 2 == parity h })

/-- A granule's entry replayed: the map, and the counts of what this head owns. -/
def replayGranule (h : Head) (mine : Bool) (e : CatEntry) : Head :=
  if isMove e then
    let h := moveInNs (markDirty h e.nsid (e.granule / 512)) e.nsid e.oldLoc e.newLoc
    match nsGet? h e.nsid with
    | some n => setIndex h n.coll ((indexOf h n.coll).map (fun x => if x.loc = e.oldLoc then { x with loc := e.newLoc } else x))
    | none => h
  else
    let h := mapPut h e.nsid e.granule e.newLoc mine
    match serialHall h (locSerial e.newLoc) with
    | some r => if r.st = 1 then commitSerial h (locSerial e.newLoc) else h
    | none => h

/-- A namespace change replayed. -/
def replayNs (h : Head) (mine : Bool) (e : CatEntry) : Head :=
  match nsGet? h e.nsid with
  | none => addNs h (newNs e.nsid (e.wseq % 2 ^ 32) e.newLoc mine ((e.wseq % 2 ^ 32).testBit 28 == mine))
  | some _ => if e.newLoc = 0 then removeNs h e.nsid else nsUpd h e.nsid (fun n => { n with size := e.newLoc })

/-- One entry of the journal replayed. An inserted entry comes with the one reference that its update adds again. -/
def replayJournalEntry (h : Head) : JournalEntry → Head
  | .inserted coll e =>
    setIndex h coll ((indexOf h coll).filter (fun x => x.fp != e.fp || x.blind) ++ [{ e with ref := e.ref - 1, pending := false }])
  | .update mine e _ =>
    if isHallEntry e then ownByParity h e
    else if e.nsid = 0 then h
    else if e.granule = nsChange then replayNs h mine e
    else if e.flags.testBit 1 then (if e.oldLoc = 1 then dropEdition h e.nsid e.granule else addEdition h e.nsid e.granule)
    else replayGranule h mine e

/-! ### The dump (R505) -/

/-- A dump restored: Vitrine content, retained; the journal, the ring, the serial counter and the sequences. -/
def restoreDump (h : Head) (d : Dump) : Head :=
  let h := setSlots { h with vit := { h.vit with retained := true } } d.slots
  let h := foldHead h wings (fun h w => raise (fset h w VIT_RETAIN_RETAINED 1) w Ev.VIT_RETAINED)
  let h := setSerialCounter h (d.serial / 2)
  let h := pset (pset h .east VIT_WSEQ_LO_WSEQ VIT_WSEQ_HI_WSEQ d.wseqE) .west VIT_WSEQ_LO_WSEQ VIT_WSEQ_HI_WSEQ d.wseqW
  let h := foldHead h d.journal replayJournalEntry
  syncJournal { h with cat := { h.cat with journal := d.journal, cut := 0 } }

/-! ### Anchors found (R332 step 1) -/

/-- Anchor checks and reads of the mount are outstanding. -/
def anchorsOut (h : Head) : Bool :=
  let hit (p : Purpose) : Bool := match p with
    | .anchorCheck .. | .anchorRead .. => true
    | _ => false
  h.dsp.waiting.any (fun r => hit r.purpose) || h.plk.ops.any (fun o => hit o.purpose)

/-- A field of an anchor record, by byte and length. -/
def anchorField (d byte len : Nat) : Nat := d >>> (8 * byte) % 2 ^ (8 * len)

/-- An anchor record's magic and MAC are right. -/
def anchorValid (h : Head) (d : Nat) : Bool :=
  anchorField d 0 4 == 0x5E1FA4C0 && anchorField d 65520 16 == sealMac h 65520 (d % 2 ^ 524160)

/-- The vault blocks a record lists. -/
def anchorVault (d : Nat) : List Nat := (List.range (anchorField d 14 2)).map (fun i => anchorField d (320 + 6 * i) 6)

/-! ### The load (R332 steps 2 to 4) -/

/-- The rows to resynchronise set (R265). -/
def setResync (h : Head) (l : List (Nat × Nat)) : Head :=
  let h := { h with gal := { h.gal with resync := l, checking := [], verify := (l.map (·.1)).eraseDups } }
  fset (fset h .east GAL_RESYNC_LEFT l.length) .east GAL_RESYNC_RUNNING 1

/-- The rows of the head's own filling halls that the serial map holds as assigned. -/
def assignedRows (h : Head) : List (Nat × Nat) :=
  (h.cur.serials.filter (fun e => e.2.st == 1 && (match tabGet? h.cur.halls e.2.hall with
    | some x => x.mine && x.st == 0
    | none => false))).map (fun e => (e.2.hall, e.2.row))

/-- A checkpoint's tables taken up. -/
def loadSnap (h : Head) (s : CatSnap) : Head :=
  let h := { h with gal := { h.gal with boundary := s.boundary, walked := 0 } }
  let h := if fbit h .east GAL_RESHAPE_RUNNING then fset h .east GAL_RESHAPE_BOUND_HALL s.boundary else h
  curUpd { h with cat := { h.cat with
    nss := s.nss
    index := s.index
    bucketPages := s.bucketPages
    dirtyPages := []
    dirtyBuckets := []
    resident := [] } } (fun c => { c with
    blocks := s.blocks
    halls := s.halls
    serials := s.serials
    nextHall := s.nextHall })

/-- The checkpoint an anchor names. -/
def loadCheckpoint (h : Head) (number loc : Nat) : Head :=
  let h := fset { h with cur := { h.cur with ckptLoc := loc } } .east CAT_CKPT_LAST_NUMBER number
  if number = 0 then h
  else match h.cat.flash with
    | some s => loadSnap h (if s.number = number then s else Config.flashCatalogue number)
    | none => loadSnap h (Config.flashCatalogue number)

/-- The vault an anchor lists: where it holds a dump it becomes the old vault (R331), else it is the vault. -/
def takeUpVault (h : Head) (l : List Nat) : Head :=
  let h := foldHead h l (fun h a => setBlock h a { blockRec h a with st := 3 })
  if h.cur.dump.isSome then { h with cur := { h.cur with oldVault := l } }
  else curUpd h (fun c => { c with vault := l, vaultListed := l != [] })

/-- Step 4 with what step 2 restored: the ring's rows after a dump, else every assigned row of the filling halls. -/
def loadRest (h : Head) : Head :=
  match h.cur.dump with
  | none => setResync h (assignedRows h)
  | some d =>
    if d.marked then setResync (restoreDump h d) (d.ring.map (fun g => (g.hall, g.row)))
    else setResync (raise h .east Ev.RSV_DUMP_FAIL) (assignedRows h)

/-- The mount goes on once every anchor block has been searched. With no valid anchor the tables are empty, and the first record
erases its block. -/
def mountLoad (h : Head) : Head :=
  if !h.cur.mounting ∨ anchorsOut h then h
  else match h.cur.anchorBest with
    | none => setResync { h with cur := { h.cur with anchorRow := fget h .east CUR_GEOM_SLC_ROWS } } []
    | some (d, a, row) =>
      let h := { h with cur := { h.cur with
        anchorBest := none
        anchorRow := row
        anchorHalf := memBlock a % 2
        anchorSeq := anchorField d 4 4 } }
      let h := fset (fset h .east CUR_ANCHOR_SEQ (anchorField d 4 4)) .east CUR_VAULT_GEN (anchorField d 13 1)
      let h := loadCheckpoint h (anchorField d 8 4) (anchorField d 16 8)
      syncStore (loadRest (takeUpVault h (anchorVault d)))

/-- The last programmed row of an anchor block is looked for from row 0 on. -/
def anchorCheckDone (h : Head) (a row word : Nat) (st : Status) : Head :=
  let ask (row : Nat) : Head := waitDie h a { dieCmd 4 a row with slc := true } .background (.anchorCheck a row)
  let read (row : Nat) : Head := waitDie h a { readCmd a row 0 128 false with slc := true } .background (.anchorRead a row)
  if readOk st ∧ word % 4 = 1 then (if row + 1 < fget h .east CUR_GEOM_SLC_ROWS then ask (row + 1) else read row)
  else if row = 0 then mountLoad h
  else read (row - 1)

/-- An anchor record read: the valid one of the highest SEQ is kept. -/
def anchorReadDone (h : Head) (a row : Nat) (st : Status) (d : Nat) : Head :=
  let better := match h.cur.anchorBest with
    | some (b, _, _) => decide (anchorField b 4 4 < anchorField d 4 4)
    | none => true
  mountLoad (if readOk st && anchorValid h d && better then { h with cur := { h.cur with anchorBest := some (d, a, row) } } else h)

/-- MOUNT's effect (R332, R333): ignored, with CONFIG, while BLOCKS is 0 or a mount runs or has run. -/
def mountEffect (h : Head) (src : Nat) : Head :=
  if fget h .east CUR_GEOM_BLOCKS_BLOCKS = 0 ∨ h.cur.mounting ∨ h.cur.mounted then
    config h (pg .cur .east) ⟨11, src, true, pageAddr (pg .cur .east) + 0x040⟩
  else
    let h := curUpd h (fun c => { c with mounting := true, verified := false, anchorBest := none })
    let ps := allPlinths.filter (fun n => plkBit h n PLK_STATUS_ADMITTED)
    let h := foldHead h ps (fun h n => foldHead h [0, 1] (fun h b =>
      let a := memberAddr n 0 0 (2 * parity h + b)
      waitDie h a { dieCmd 4 a 0 with slc := true } .background (.anchorCheck a 0)))
    mountLoad h

/-- MOUNT by a register write. The bit acts on either wing's page, whose CUR_CTRL is its own. -/
def curMount (h : Head) (ini : Initiator) (w : Wing) : Head :=
  withWrite h ini (pg .cur w) 0x040 (fun h => mountEffect h (sourceCode ini))

/-! ### Checkpoints and anchors -/

/-- CKPT_DONE (R190, R312): the checkpoint's record stands at its locator, and an anchor record names it. -/
def checkpointDone (h : Head) (loc ms : Nat) : Head :=
  if !fbit h .east CAT_CKPT_STATUS_IN_PROGRESS then h
  else
    let h := ckptDone { h with cur := { h.cur with ckptLoc := loc } } loc ms
    if h.cur.mounted then writeAnchor h false else h

end Sys2Proof.Machine
end

