-- ==== Sys2Proof/Machine/Dump.lean ====
section
/-! DEFINITION. The dump (R499 to R505): its panels, their ends, and the end of the dump. -/

namespace Sys2Proof.Machine

open Reg

/-- RSV_DUMP.STATE: 0 IDLE, 1 RUNNING, 2 DONE, 3 FAILED. -/
def dumpState (h : Head) : Nat := fget h .east RSV_DUMP_STATE

def setRsv (h : Head) (f : RsvState → RsvState) : Head := { h with rsv := f h.rsv }

/-- RSV_DUMP.READY as R501 gives it. -/
def readyNow (h : Head) : Bool :=
  fbit h .east CUR_VAULT_READY && fget h .east RSV_STATUS_FAULTS == 0 &&
    decide (fget h .east VIT_QUOTA_NOW_PAIR_DIRTY_MIB ≤ fget h .east RSV_ALLOW_MIB) &&
    [1, 2, 3].contains (fget h .east RSV_STATUS_MODE)

def syncReadyBit (h : Head) : Head := fset h .east RSV_DUMP_READY (ofBool (readyNow h))

/-- The slots that the dump holds. -/
def dumpSlots (h : Head) : List Slot := h.vit.slots.filter (fun s => s.st = .dirty ∨ s.st = .accession ∨ s.st = .mirror)

/-- What the vault comes to hold. -/
def dumpNow (h : Head) : Dump where
  marked := false
  slots := dumpSlots h
  journal := h.cat.journal
  ring := h.gal.opens
  serial := pget h .east GAL_SERIAL_LO_NEXT GAL_SERIAL_HI_NEXT
  wseqE := pget h .east VIT_WSEQ_LO_WSEQ VIT_WSEQ_HI_WSEQ
  wseqW := pget h .west VIT_WSEQ_LO_WSEQ VIT_WSEQ_HI_WSEQ

/-- A panel's plain bytes, as far as the spec gives them: the header's MAGIC, the granules, and free values for what it gives no layout. -/
def dumpGroup (h : Head) (l : List Slot) : List Nat × Head :=
  let (k, h) := fresh h
  let panel (g : List Slot) : Nat := (g.zipIdx.map (fun e => (e.1.data % 2 ^ 32768) <<< (32768 * e.2))).sum
  (Config.freeNat k % 2 ^ 524288 :: (piecesOf 16 l.length l).map panel, h)

/-- Panels of free contents. -/
def freePanels (h : Head) (n : Nat) : List Nat × Head :=
  ((List.range n).map (fun i => Config.freeNat (h.freeCtr + i) % 2 ^ 524288), { h with freeCtr := h.freeCtr + n })

/-- The panels before the marker, in order: header, metadata, and the slots in groups of 1,024 (R502). -/
def dumpPlain (h : Head) : List Nat × Head :=
  let (k, h) := fresh h
  let header := 0xD0A57E01 + (Config.freeNat k % 2 ^ 524256) <<< 32
  let (meta', h) := freePanels h (1 + ((h.cat.journal.map journalBytes).sum + 65535) / 65536)
  let slots := dumpSlots h
  (piecesOf 1024 slots.length slots).foldl (fun (acc : List Nat × Head) g =>
    let (l, h) := dumpGroup acc.2 g
    (acc.1 ++ l, h)) (header :: meta', h)

/-- A panel of the dump passed to the Dispatcher: panel i lies in block i modulo the vault's blocks, in the row that follows. -/
def sendDump (h : Head) (i data : Nat) : Head :=
  let b := max 1 h.cur.vault.length
  let a := h.cur.vault.getD (i % b) 0
  let bytes := Config.xts true (keyValue h (dumpKey h)) i 65536 data % 2 ^ 524288
  waitDie h a { dieCmd 2 a (i / b) with slc := true, dlen := 65536, data := bytes } .program (.dump i)

/-- The dump ends (R500, R502): DUMP_TIME, its event, and the leases are renewed no more. -/
def dumpEnd (h : Head) (ok : Bool) : Head :=
  if dumpState h ≠ 1 then h
  else
    let h := fset h .east RSV_DUMP_STATE (if ok then 2 else 3)
    let h := fset h .east RSV_DUMP_TIME_MS (min (2 ^ 32 - 1) ((frmTime h - h.rsv.dumpStart) / 1000000))
    let h := { h with vit := { h.vit with noRenew := true } }
    let h := if ok then { h with cur := { h.cur with dump := h.cur.dump.map (fun d => { d with marked := true }) } } else h
    raise h .east (if ok then Ev.RSV_DUMP_DONE else Ev.RSV_DUMP_FAIL)

/-- The marker panel is passed to the Dispatcher once every other panel is acknowledged. -/
def dumpNext (h : Head) : Head :=
  if h.rsv.dumpAcked + 1 = h.rsv.dumpPanels then
    let (k, h) := fresh h
    sendDump h h.rsv.dumpAcked (Config.freeNat k % 2 ^ 524288)
  else h

/-- A panel of the dump ends. A panel that fails leaves no valid marker, and the dump fails. -/
def dumpPanelDone (h : Head) (i : Nat) (st : Status) : Head :=
  if dumpState h ≠ 1 then h
  else if st ≠ .done ∧ st ≠ .doneNote then dumpEnd h false
  else
    let h := setRsv h (fun r => { r with dumpAcked := r.dumpAcked + 1 })
    let h := fset h .east RSV_DUMP_MIB_DONE (min 65535 (h.rsv.dumpAcked / 16))
    if i + 1 = h.rsv.dumpPanels then dumpEnd h true else dumpNext h

/-- DUMP_DONE (R502): the marker is acknowledged. -/
def dumpDone (h : Head) : Head :=
  if dumpState h = 1 ∧ h.rsv.dumpAcked + 1 = h.rsv.dumpPanels then dumpPanelDone h h.rsv.dumpAcked .done else h

/-- The dump starts (R501): with the vault not ready, or no key, it fails at once. -/
def dumpStart (h : Head) : Head :=
  let h := fset (fset h .east RSV_DUMP_STATE 1) .east RSV_DUMP_MIB_DONE 0
  let h := setRsv h (fun r => { r with dumpStart := frmTime h, dumpAcked := 0, dumpPanels := 0 })
  if !fbit h .east CUR_VAULT_READY || keyState h (dumpKey h) != 2 then dumpEnd h false
  else
    let h := { h with cur := { h.cur with dump := some (dumpNow h) } }
    let (l, h) := dumpPlain h
    let h := setRsv h (fun r => { r with dumpPanels := l.length + 1 })
    foldHead h l.zipIdx (fun h e => sendDump h e.2 e.1)

/-- The keys are erased while the dump runs (R509). -/
def dumpKeyCheck (h : Head) : Head := if dumpState h = 1 ∧ keyState h (dumpKey h) ≠ 2 then dumpEnd h false else h

end Sys2Proof.Machine
end

