-- ==== Sys2Proof/Machine/Dispatcher.lean ====
section
/-! DEFINITION. The Dispatchers (R314 to R318): what a die operation's end does, reads sent at once, the frame schedule. -/

namespace Sys2Proof.Machine

open Reg

/-! ### Ends of operations -/

/-- One of the identity registers has been read (R298): with the third, the plinth is admitted or not. -/
def identityDone (h : Head) (n addr : Nat) (st : Status) (word : Nat) : Head :=
  if st ≠ .done then h
  else
    let h := match addr with
      | 0 => plkSet h n PLK_BRIDGE_ID word
      | 4 => { h with plk := { h.plk with geom := tabPut h.plk.geom n word } }
      | _ => { h with plk := { h.plk with timing := tabPut h.plk.timing n word } }
    match tabGet? h.plk.geom n, tabGet? h.plk.timing n with
    | some g, some t =>
      let ok := plkGet h n PLK_BRIDGE_ID >>> 16 == 0x1600 && decide (g % 65536 ≤ 1000) && decide (t >>> 16 ≤ 20000)
      if !ok ∨ plkBit h n PLK_STATUS_ADMITTED ∨ addr ≠ 8 then h
      else joinMember (plkRaise (plkSet h n PLK_STATUS_ADMITTED 1) n 0) n
    | _, _ => h

/-- A block's erase has ended (R307, R311): FREE or RETIRED, and ERASED goes to the peer; one that failed retires. -/
def eraseDone (h : Head) (a : Nat) (st : Status) : Head :=
  let b := blockRec h a
  if st = .done ∨ st = .mediaFail then
    let h := if st = .mediaFail then setBlock h a { b with retire := true } else h
    sendUpdate (blockErased (leaveHall h a) a) (plkWing (memPlinth a)) 0 [⟨0xFFFFFFFF, 6, a, 0, 0, 0⟩]
  else setBlock h a { b with st := if b.hall = 0 then 6 else b.st }

/-- What the end of a command does (R314), by what it was for. -/
def purposeDone (h : Head) (o : PlkOp) (st : Status) (word dlen data : Nat) : Head :=
  let a := memberAddr o.plinth o.cmd.channel o.cmd.die o.cmd.block
  let image := imageOf o.cmd.first o.cmd.sheets dlen data
  match o.purpose with
  | .renew => renewDone h o.plinth st
  | .poll => pollDone h o.plinth st data
  | .claim => claimDone h o.plinth st
  | .identity addr => identityDone h o.plinth addr st word
  | .hostRead loc coll sheets => hostReadDone h loc coll sheets st image
  | .recon loc panel labels => reconPiece h loc panel labels (if readOk st then some (data % 2 ^ (4096 * o.cmd.sheets)) else none)
  | .work w => workDone h w st image
  | .panel serial k => panelDone h serial k a st
  | .check hall row m => checkDone h hall row m a word st
  | .zero .. => h
  | .eraseBlock b vault => if vault then vaultErased h b st else eraseDone h b st
  | .anchor _ => anchorAck h st
  | .anchorErase b => anchorErased h (memPlinth b) st
  | .anchorCheck b row => anchorCheckDone h b row word st
  | .anchorRead b row => anchorReadDone h b row st (data % 2 ^ 524288)
  | .dump i => dumpPanelDone h i st

/-- The records a die operation's end brings up to date (R305, R307, R318, R326): reads counted, the hours of a first program, the
slowest program. -/
def recordDone (h : Head) (o : PlkOp) (st : Status) (busy : Nat) : Head :=
  let a := memberAddr o.plinth o.cmd.channel o.cmd.die o.cmd.block
  let w := plkWing o.plinth
  if o.cmd.mgmt then h
  else if isRead o.cmd then (if readOk st ∨ st = .mediaFail then countRead h a else h)
  else if o.cmd.opcode ≠ 2 then h
  else
    let h := if st = .done ∧ o.cmd.row = 0 then setBlock h a { blockRec h a with progHours := h.cur.hours } else h
    let h := fmax h w DSP_PROG_MAX_BUSY busy
    if fget h w DSP_TIMING_PROG_SLOW_MS * 10000 < busy then raise h w Ev.DSP_PROG_SLOW else h

/-- A request that no bridge is asked to run ends here. -/
def requestDone (h : Head) (r : DieReq) (st : Status) : Head := purposeDone h ⟨r.plinth, r.cmd, r.cls, false, r.purpose, r.accepted⟩ st 0 0 0

/-- A request that cannot be sent: its plinth takes no die command (R298, R299, R513), or its die is out of service (R318). -/
def refusedReq (h : Head) (r : DieReq) : Option Status :=
  if !plkTakesDie h r.plinth then some .fenced
  else if h.dsp.failed.contains (dieKey r.plinth r.cmd) then some .mediaFail
  else none

/-! ### Reads sent at once (R316) -/

/-- Reads outstanding on a die. -/
def dieReads (h : Head) (die : Nat) : Nat :=
  (h.plk.ops.filter (fun o => !o.cmd.mgmt && isRead o.cmd && dieKey o.plinth o.cmd == die)).length

/-- The time in ns at an offset into the current slot. -/
def nowNs (h : Head) (ns : Nat) : Nat := h.frm.tickTime + fget h .east FRM_SLOT_SLOT * slotNs h + ns

/-- FRAME and START of the first slot boundary that lies at least the guard and the link's delay after an offset into the current
slot. -/
def firstBoundary (h : Head) (n ns : Nat) : Nat × Nat :=
  let lead := fget h (plkWing n) DSP_TIMING_GUARD_NS + plkGet h n PLK_STATUS_DELAY_NS
  let k := fget h .east FRM_SLOT_SLOT + (ns + lead + slotNs h - 1) / slotNs h
  ((wireCount h + k / 32) % 65536, k % 32)

/-- A HOST read sent, or none where its die or its link has no room. -/
def sendRead (h : Head) (r : DieReq) (ns : Nat) : Option Head :=
  if fget h (plkWing r.plinth) DSP_CTRL_READ_DEPTH ≤ dieReads h (dieKey r.plinth r.cmd) then none
  else
    let (f, s) := firstBoundary h r.plinth ns
    plkSend h r.plinth { r.cmd with frame := f, start := s } r.cls r.purpose r.accepted

/-- HOST reads sent as far as their dies' limits allow, in arrival order. A Dispatcher that is not running sends none. -/
def pumpReads (h : Head) (ns : Nat) : Head :=
  let l := h.dsp.waiting.filter (fun r => r.cls == .host)
  let h := { h with dsp := { h.dsp with waiting := h.dsp.waiting.filter (fun r => r.cls != .host) } }
  foldHead h l (fun h r =>
    let keep (h : Head) : Head := { h with dsp := { h.dsp with waiting := h.dsp.waiting ++ [r] } }
    match refusedReq h r with
    | some st => requestDone h r st
    | none =>
      if !running h (pg .dsp (plkWing r.plinth)) then keep h
      else match sendRead h r ns with
        | some h => h
        | none => keep h)

/-- HOST_READ_DISPATCH (R266, R316): a read of a case for a host or a forwarded command; a panel that cannot be read is
reconstructed. -/
def hostReadDispatch (h : Head) (loc coll sheets ns : Nat) : Head :=
  match panelPlace h (locSerial loc) (locPanel loc) with
  | none => h
  | some (a, row) =>
    if !panelReadable h a then pumpReads (reconNow h loc coll sheets none) ns
    else
      let c := readCmd a row (locSheet loc) sheets true
      pumpReads (waitDie h a c .host (.hostRead loc coll sheets) (nowNs h ns)) ns

/-- The longest wait of a HOST read (R316): from its acceptance to the start of the slot the completion reports. -/
def recordWait (h : Head) (o : PlkOp) (startFrame startSlot : Nat) : Head :=
  if o.cls ≠ .host ∨ o.cmd.mgmt then h
  else
    let d := toSigned 16 (startFrame + 2 ^ 16 - wireCount h)
    let at' : Int := (h.frm.tickTime : Int) + d * (frameNs (frameLen h) : Nat) + (startSlot * slotNs h : Nat)
    fmax h (plkWing o.plinth) DSP_READ_WAIT_MAX_NS (at' - (o.accepted : Nat)).toNat

/-! ### The frame schedule (R315, R317) -/

/-- A schedule being built: dies with a program or erase outstanding or placed, those a carried operation keeps waiting, the starts
placed on each plinth, the BACKGROUND reads placed on each die, and what carries over. -/
structure Plan where
  head : Head
  dies : List Nat
  blocked : List Nat
  starts : List Nat
  reads : List Nat
  carried : List DieReq

/-- The requests of one gallery together, every other request by itself, in arrival order. -/
def groupReqs (l : List DieReq) : List (List DieReq) :=
  let key (r : DieReq) : Option Nat := match r.purpose with
    | .panel s _ => some s
    | _ => none
  (l.foldl (fun (acc : List (Option Nat × List DieReq)) r =>
    match key r with
    | none => acc ++ [(none, [r])]
    | some s =>
      if acc.any (fun g => g.1 == some s) then acc.map (fun g => if g.1 = some s then (g.1, g.2 ++ [r]) else g)
      else acc ++ [(some s, [r])]) []).map (·.2)

/-- Program and erase starts a plinth may take in a frame: none has START 31. -/
def startsLimit (h : Head) (n : Nat) : Nat := 31 * fget h (plkWing n) DSP_CTRL_STARTS_PER_SLOT

/-- A program or erase can be placed. A Dispatcher that is not running sends none. -/
def canPlace (p : Plan) (r : DieReq) : Bool :=
  let d := dieKey r.plinth r.cmd
  running p.head (pg .dsp (plkWing r.plinth)) && !p.dies.contains d && !p.blocked.contains d && decide ((p.starts.filter (· == r.plinth)).length < startsLimit p.head r.plinth) &&
    decide ((slotsUsed p.head r.plinth false).length < 128)

/-- A program or erase placed in the frame after the current one. -/
def placeOne (p : Plan) (r : DieReq) : Plan :=
  let s := (p.starts.filter (· == r.plinth)).length / fget p.head (plkWing r.plinth) DSP_CTRL_STARTS_PER_SLOT
  let c := { r.cmd with frame := (wireCount p.head + 1) % 65536, start := s }
  match plkSend p.head r.plinth c r.cls r.purpose r.accepted with
  | none => { p with carried := p.carried ++ [r] }
  | some h => { p with head := h, dies := p.dies ++ [dieKey r.plinth r.cmd], starts := p.starts ++ [r.plinth] }

/-- A request carried over to a later frame; what waits behind it on its die stays behind it. -/
def carryReq (p : Plan) (r : DieReq) : Plan :=
  { p with carried := p.carried ++ [r], blocked := p.blocked ++ [dieKey r.plinth r.cmd] }

/-- A gallery's panels placed whole, or carried over whole. Only a missed deadline splits a gallery: what a late Dispatcher has not sent
moves on (R33, R315). `late` gives how many programs and erases a late wing's Dispatcher sends. -/
def placeGroup (late : Wing → Option Nat) (p : Plan) (g : List DieReq) : Plan :=
  if g.all (canPlace p) then
    g.foldl (fun p r =>
      let sent := (p.starts.filter (fun n => plkWing n == plkWing r.plinth)).length
      match late (plkWing r.plinth) with
      | some k => if sent < k then placeOne p r else carryReq p r
      | none => placeOne p r) p
  else g.foldl carryReq p

/-- A BACKGROUND read placed on a die with no program or erase of this head; held otherwise (R317). A late schedule sends reads as any
other (R33). -/
def placeRead (p : Plan) (r : DieReq) : Plan :=
  let d := dieKey r.plinth r.cmd
  let w := plkWing r.plinth
  let carry (p : Plan) : Plan := { p with carried := p.carried ++ [r] }
  if !running p.head (pg .dsp w) then carry p
  else if p.dies.contains d then carry { p with head := raise (fadd p.head w DSP_CNT_HOLD_COUNT) w Ev.DSP_HOLD }
  else if frameBudget p.head 4 (fget p.head w DSP_CTRL_BG_PER_DIE) ≤ (p.reads.filter (· == d)).length ∨
      fget p.head w DSP_CTRL_READ_DEPTH ≤ dieReads p.head d then carry p
  else match plkSend p.head r.plinth { r.cmd with frame := (wireCount p.head + 1) % 65536 } r.cls r.purpose r.accepted with
    | none => carry p
    | some h => { p with head := h, reads := p.reads ++ [d] }

/-- Dies with a program or erase outstanding. -/
def busyDies (h : Head) : List Nat :=
  (h.plk.ops.filter (fun o => !o.cmd.mgmt && !isRead o.cmd)).map (fun o => dieKey o.plinth o.cmd)

/-- A panel of a dump. -/
def isDump (r : DieReq) : Bool := match r.purpose with
  | .dump _ => true
  | _ => false

/-- An erase stands behind the programs of its frame, unless its wing's Curator is in foreground reclaim (R315). -/
def standsBehind (h : Head) (r : DieReq) : Bool := r.cls == .erase && fget h (plkWing r.plinth) CUR_CTRL_EFFECTIVE != 2

/-- The programs and erases in the order the schedule takes them: what was carried over first (R32, R33), programs before erases. A head
in STOPPED programs and erases nothing (R170) but a dump. -/
def orderReqs (h : Head) (l : List DieReq) : List (List DieReq) :=
  let w := l.filter (fun r => (r.cls == .program || r.cls == .erase) && (pairState h != 7 || isDump r))
  let part (carried behind : Bool) : List (List DieReq) :=
    groupReqs (w.filter (fun r => r.carried == carried && standsBehind h r == behind))
  part true false ++ part true true ++ part false false ++ part false true

/-- The schedule of the frame after the current one, built and sent over both wings (R315). A wing named late does not complete its
schedule by its deadline. -/
def buildSchedule (h : Head) (lateE lateW : Option Nat) : Head :=
  let stopped := h.dsp.waiting.filter (fun r => r.cls != .host && (refusedReq h r).isSome)
  let h := { h with dsp := { h.dsp with waiting := h.dsp.waiting.filter (fun r => !(r.cls != .host && (refusedReq h r).isSome)) } }
  let h := foldHead h stopped (fun h r => requestDone h r ((refusedReq h r).getD .fenced))
  let late (w : Wing) : Option Nat := if w = .east then lateE else lateW
  let l := h.dsp.waiting.filter (fun r => r.cls != .host)
  let rest := h.dsp.waiting.filter (fun r => r.cls == .host)
  let groups := orderReqs h l
  let placed := groups.foldl (placeGroup late) ⟨h, busyDies h, [], [], [], []⟩
  let p := (l.filter (fun r => r.cls == .background)).foldl placeRead placed
  let left := l.filter (fun r => p.carried.contains r || (r.cls != .background && !groups.any (fun g => g.contains r)))
  let h := p.head
  let h := { h with dsp := { h.dsp with waiting := rest ++ left.map (fun r => { r with carried := true }) } }
  let h := foldHead h wings (fun h w =>
    let n := (p.carried.filter (fun r => plkWing r.plinth == w)).length
    if n = 0 then h else carryOver (fadd h w DSP_CNT_CARRY_COUNT n) w)
  { h with frm := { h.frm with builtE := lateE.isNone, builtW := lateW.isNone } }

end Sys2Proof.Machine
end

