-- ==== Sys2Proof/Machine/Archive.lean ====
section
/-! DEFINITION. The Archive (spec/15_archive_provenance_update.md): its array and queue, execute-only regions, the event recorder, the
update engine, and the watchdogs. -/

namespace Sys2Proof.Machine

open Reg

/-! ### Layout and words (R427 to R430) -/

/-- The regions of R427. -/
inductive ArcRegion
  | options | control | tally | permanent | circulating | docSlot | keys | provenance | osSlot | data | reserved
  deriving DecidableEq, Repr

def arcRegion (a : Nat) : ArcRegion :=
  if a < 0x1000 then .options
  else if a < 0x5000 then .control
  else if a < 0x7000 then .tally
  else if a < 0x10000 then .reserved
  else if a < 0x50000 then .permanent
  else if a < 0x91000 then .circulating
  else if a < 0x100000 then .reserved
  else if a < 0x300000 then .docSlot
  else if a < 0x500000 then .keys
  else if a < 0xD00000 then .provenance
  else if a < 0x1000000 then .reserved
  else if a < 0x9000000 then .osSlot
  else if a < 0x10000000 then .data
  else .reserved

/-- The regions that cores and DMA may read. -/
def arcReadable : ArcRegion → Bool
  | .options | .control | .permanent | .circulating | .provenance | .osSlot => true
  | _ => false

/-- What an erased word reads as (R429). -/
def erasedWord : Nat := 2 ^ 256 - 1

def arcWord (h : Head) (n : Nat) : Nat := tabGet h.arc.words erasedWord n
def setWord (h : Head) (n v : Nat) : Head := { h with arc := { h.arc with words := tabStore h.arc.words erasedWord n (v % 2 ^ 256) } }

/-- A word programmed: a program can only clear bits (R429). -/
def programWord (h : Head) (n v : Nat) : Head := fadd (setWord h n (arcWord h n &&& v)) .east ARC_CNT_PROG_COUNT

/-- A sector's state (R430): 0 INCOMPLETE, 1 ERASED, 2 CLOSED. -/
def sectorState (h : Head) (s : Nat) : Nat := tabGet h.arc.sectors 1 s
def setSector (h : Head) (s st : Nat) : Head := { h with arc := { h.arc with sectors := tabStore h.arc.sectors 1 s st } }

/-- A sector erased whole, its ERASE_DONE marker programmed (R432). -/
def eraseSector (h : Head) (s : Nat) : Head :=
  let h := { h with arc := { h.arc with words := tabKeep h.arc.words (fun n _ => n / 128 != s) } }
  fadd (setSector h s 1) .east ARC_CNT_ERASE_COUNT

/-- Bytes of the Archive as one number. -/
def arcBytes (h : Head) (a n : Nat) : Nat :=
  let words := (List.range ((a % 32 + n + 31) / 32)).map (fun i => arcWord h (a / 32 + i))
  (words.zipIdx.foldl (fun v e => v + e.1 <<< (256 * e.2)) 0) >>> (8 * (a % 32)) % 2 ^ (8 * n)

/-- A marker (R430): MAGIC, content, CRC-32C over both. -/
def marker (magic content : Nat) : Nat :=
  let body := magic + (content % 2 ^ 192) <<< 32
  body + (Config.crc32c 28 body % 2 ^ 32) <<< 224

def markerGood (magic w : Nat) : Bool := w % 2 ^ 32 == magic && w >>> 224 == Config.crc32c 28 (w % 2 ^ 224) % 2 ^ 32
def markerPresent (w : Nat) : Bool := w != erasedWord

/-! ### Execute-only regions (R438) -/

/-- A range touches a locked execute-only region. -/
def inXo (h : Head) (a n : Nat) : Bool :=
  (List.range 8).any (fun r => fbit h .east ARC_XO_CFG_LOCKED r &&
    (let s := fget h .east ARC_XO_BASE_SECTOR r * 4096
     decide (s < a + n) && decide (a < s + fget h .east ARC_XO_CFG_SECTORS r * 4096)))

/-- ARC_XO_CFG.LOCK (R438, R460): a region already locked, and one of 0 sectors, are not locked; CONFIG is raised. -/
def xoLockEffect (h : Head) (src : Nat) : Head :=
  let r := fget h .east ARC_XO_INDEX_REGION
  let bad (c : Nat) : Head := config h (pg .arc .east) ⟨c, src, true, pageAddr (pg .arc .east) + 0x064⟩
  if fbit h .east ARC_XO_CFG_LOCKED r then bad 11
  else if fget h .east ARC_XO_CFG_SECTORS r = 0 then bad 4
  else fset h .east ARC_XO_CFG_LOCKED 1 r

def xoLock (h : Head) (ini : Initiator) : Head :=
  withWrite h ini (pg .arc .east) 0x064 (fun h => xoLockEffect h (sourceCode ini))

/-- A data read that a region's rule refuses (R428): recorded with code 2, and XO_REFUSED. -/
def xoRefused (h : Head) (src a : Nat) : Head :=
  raise (capture h (pg .arc .east) ⟨2, src, false, a⟩) .east Ev.ARC_XO_REFUSED

/-- A range of the read window that cores and DMA may read (R428). -/
def windowReadable (h : Head) (a n : Nat) : Bool :=
  decide (0x40000000 ≤ a) && decide (a + n ≤ 0x50000000) &&
    rangeAll (a - 0x40000000) n (fun x => arcReadable (arcRegion x)) && !inXo h (a - 0x40000000) n

/-! ### Completions of Docent's queue (R436, R66, R67) -/

/-- A completion entry of 16 bytes, without PHASE: TAG, status, BYTES, WORD. -/
def arcEntry (tag : Nat) (st : Status) (bytes word : Nat) : Nat :=
  tag % 65536 + statusCode st <<< 16 + (bytes % 2 ^ 32) <<< 32 + (word % 2 ^ 64) <<< 64

/-- The queue has room for an entry: no unread entry is overwritten. -/
def arcRoom (h : Head) : Bool :=
  decide ((fget h .east ARC_CQ_PTR_TAIL + 64 - fget h .east ARC_CQ_PTR_HEAD) % 64 < 63)

/-- An entry written at the queue's tail with its PHASE. -/
def arcWriteEntry (h : Head) (e : Nat) : Head :=
  let t := fget h .east ARC_CQ_PTR_TAIL
  let phase := 1 - h.arc.entries / 64 % 2
  let h := { h with
    sram := memPut h.sram (fget h .east ARC_CQ_BASE_OFFSET * 1024 + 16 * t) 16 (e + phase <<< 24)
    arc := { h.arc with entries := h.arc.entries + 1 } }
  fset h .east ARC_CQ_PTR_TAIL ((t + 1) % 64)

/-- Entries that wait for room, written in order. -/
def arcRelease (h : Head) : Head :=
  h.arc.held.foldl (fun h e =>
    if arcRoom h then arcWriteEntry { h with arc := { h.arc with held := h.arc.held.drop 1 } } e else h) h

/-- A descriptor of Docent's queue completes. QUIET writes no entry for DONE. -/
def arcComplete (h : Head) (tag : Nat) (quiet : Bool) (st : Status) (bytes word : Nat) : Head :=
  if quiet ∧ st = .done then h
  else
    let e := arcEntry tag st bytes word
    if h.arc.held = [] ∧ arcRoom h = true then arcWriteEntry h e else { h with arc := { h.arc with held := h.arc.held ++ [e] } }

/-! ### Operations (R431 to R437) -/

/-- No operation is in progress, and the page runs. -/
def arcReady (h : Head) : Bool := h.arc.op.isNone && running h (pg .arc .east)

/-- The Archive takes no new program, erase or close while STOP is asserted; reads continue (R434, R435). -/
def arcIdle (h : Head) : Bool := arcReady h && !fbit h .east ARC_STATUS_STOP

/-- The descriptor at the head of Docent's queue. -/
def arcHead? (h : Head) : Option Desc :=
  if fget h .east ARC_QUEUE_PTR_HEAD = fget h .east ARC_QUEUE_PTR_TAIL then none
  else some (BitVec.ofNat 512 (memNum h.sram (fget h .east ARC_QUEUE_BASE_OFFSET * 4096 + 64 * fget h .east ARC_QUEUE_PTR_HEAD) 64))

def arcTake (h : Head) : Head := fset h .east ARC_QUEUE_PTR_HEAD ((fget h .east ARC_QUEUE_PTR_HEAD + 1) % 64)

def acOffset (d : Desc) : Nat := dBits d 8 28
def acLen (d : Desc) : Nat := dBits d 12 32
def acAddr (d : Desc) : Nat := dBits d 16 64

/-- The lifecycle state (R420). -/
def lifecycle (h : Head) : Nat := fget h .east CHP_LIFECYCLE_STATE

/-- A range that R433 refuses from Docent's queue: off the Archive or its listed regions, in an execute-only region, or of the option
area, the hour tally or the permanent area once the lifecycle state is past PROVISION. -/
def arcProtected (h : Head) (a n : Nat) : Bool :=
  decide (2 ^ 28 < a + n) || inXo h a n || !rangeAll a n (fun x => match arcRegion x with
    | .reserved => false
    | .options | .permanent | .tally => decide (lifecycle h ≤ 1)
    | _ => true)

/-- The words of a PROGRAM from memory, in Docent SRAM or DDR5 (R436). -/
def arcSource (h : Head) (a n : Nat) : Nat := if a + n ≤ 2 ^ 19 then memNum h.sram a n else memRead h a n
def arcMemory (h : Head) (a n : Nat) : Bool := decide (a + n ≤ 2 ^ 19) || rangeAll a n (ddrValid h)

/-- A PROGRAM's or CLOSE's sector takes it (R433). -/
def arcFits (h : Head) (a : Nat) : ArcWork → Bool
  | .program ws => decide (a / 4096 = (a + 32 * ws.length - 1) / 4096) && sectorState h (a / 4096) == 1 &&
      (List.range ws.length).all (fun i => arcWord h (a / 32 + i) == erasedWord)
  | .erase _ => true
  | .close => sectorState h (a / 4096) == 1

/-- The operation a descriptor asks for, or none where it is malformed or refused (R433, R436). -/
def arcAsked (h : Head) (d : Desc) : Option ArcOp :=
  let a := acOffset d
  let n := acLen d
  let job : ArcJob := .queue (dTag d) (dQuiet d)
  let ok (w : ArcWork) (len : Nat) : Option ArcOp :=
    if arcProtected h a len || !arcFits h a w then none else some ⟨job, a, w⟩
  match dOpcode d with
  | 2 =>
    if n = 0 ∨ n % 32 ≠ 0 ∨ a % 32 ≠ 0 ∨ arcMemory h (acAddr d) n = false then none
    else ok (.program ((List.range (n / 32)).map (fun i => arcSource h (acAddr d + 32 * i) 32))) n
  | 3 => if n = 0 ∨ n % 4096 ≠ 0 ∨ a % 4096 ≠ 0 then none else ok (.erase (n / 4096)) n
  | 4 => if n ≠ 0 then none else ok .close 1
  | _ => none

/-- An operation in progress. -/
def arcStart (h : Head) (o : ArcOp) : Head :=
  fset (fset { h with arc := { h.arc with op := some o } } .east ARC_STATUS_BUSY 1) .east ARC_STATUS_OFFSET o.offset

def arcClear (h : Head) : Head :=
  fset (fset { h with arc := { h.arc with op := none } } .east ARC_STATUS_BUSY 0) .east ARC_STATUS_OFFSET 0

/-- A record of the buffer is due (R437, R443): it holds no more. -/
def recordDue (h : Head) : Bool := match h.arc.recs with
  | r :: _ => !r.hold
  | [] => false

/-- A failure captured in ARC_FAIL (R431, R432) until it is cleared. -/
def arcFail (h : Head) (erase : Bool) (a : Nat) : Head :=
  let h := if fbit h .east ARC_FAIL_VALID then h
    else fset (fset (fset h .east ARC_FAIL_VALID 1) .east ARC_FAIL_ERASE (ofBool erase)) .east ARC_FAIL_OFFSET a
  raise h .east (if erase then Ev.ARC_ERASE_FAIL else Ev.ARC_PROG_FAIL)

/-- A word whose pulse did not verify holds some of its bits (R434); a sector so left is INCOMPLETE, its words open. -/
def halfWord (h : Head) (n v : Nat) : Head :=
  let (k, h) := fresh h
  setWord h n (arcWord h n &&& (v ||| Config.freeNat k % 2 ^ 256))
def halfSector (h : Head) (s : Nat) : Head :=
  let h := setSector h s 0
  foldHead h (List.range 128) (fun h i =>
    let (k, h) := fresh h
    setWord h (s * 128 + i) (arcWord h (s * 128 + i) ||| Config.freeNat k % 2 ^ 256))

/-- What an operation leaves on the array, with the index of the word or sector at which it ended short, if it did. -/
def arcApply (h : Head) (o : ArcOp) (short : Option Nat) : Head :=
  match o.work with
  | .program ws =>
    let n := short.getD ws.length
    let h := foldHead h (ws.take n).zipIdx (fun h e => programWord h (o.offset / 32 + e.2) e.1)
    (match ws[n]? with
      | some v => halfWord h (o.offset / 32 + n) v
      | none => h)
  | .erase k =>
    let n := min (short.getD k) k
    let h := foldHead h (List.range n) (fun h i => eraseSector h (o.offset / 4096 + i))
    if n < k then halfSector h (o.offset / 4096 + n) else h
  | .close =>
    let (k, h) := fresh h
    setSector h (o.offset / 4096) (match short with
      | none => 2
      | some _ => Config.freeNat k % 2)

/-- The bytes that an operation has verified. -/
def arcDone (o : ArcOp) (short : Option Nat) : Nat :=
  match o.work with
  | .program ws => 32 * (short.getD ws.length)
  | .erase k => 4096 * (short.getD k)
  | .close => 0

/-- The offset of the word or sector an operation ends short at. -/
def arcAt (o : ArcOp) (i : Nat) : Nat :=
  match o.work with
  | .program _ => o.offset + 32 * i
  | .erase _ => o.offset + 4096 * i
  | .close => o.offset

def isErase : ArcWork → Bool
  | .erase _ => true
  | _ => false

/-- The most pulses that a word or a sector takes (R431, R432). -/
def pulseLimit (h : Head) (w : ArcWork) : Nat := if isErase w then fget h .east ARC_PULSE_ERASE_MAX else fget h .east ARC_PULSE_PROG_MAX

/-! ### The update engine (R449, R450) -/

def slotBase : Nat → Nat
  | 0 => 0x100000
  | 1 => 0x200000
  | 2 => 0x1000000
  | _ => 0x5000000
def slotSize (s : Nat) : Nat := if s < 2 then 0x100000 else 0x4000000
def controlWord (s k : Nat) : Nat := (0x1000 + 0x1000 * s) / 32 + k
def slotMagic (k : Nat) : Nat := 0x510E0001 + k

/-- A marker of a slot: WRITTEN 0, TRIAL 1, CONFIRMED 2, REJECTED 3. -/
def slotMark (h : Head) (s k : Nat) : Nat := arcWord h (controlWord s k)
def markGood (h : Head) (s k : Nat) : Bool := markerGood (slotMagic k) (slotMark h s k)
def markPresent (h : Head) (s k : Nat) : Bool := markerPresent (slotMark h s k)
def slotGen (h : Head) (s : Nat) : Nat := slotMark h s 0 >>> 32 % 2 ^ 32
def slotLength (h : Head) (s : Nat) : Nat := slotMark h s 0 >>> 64 % 2 ^ 32
def imageSectors (len : Nat) : Nat := (len + 4095) / 4096

/-- Every sector that holds part of the image is CLOSED. -/
def imageClosed (h : Head) (s : Nat) : Bool :=
  (List.range (imageSectors (slotLength h s))).all (fun i => sectorState h (slotBase s / 4096 + i) == 2)

/-- A usable slot (R449). -/
def slotUsable (h : Head) (s : Nat) : Bool :=
  sectorState h (1 + s) != 0 && markGood h s 0 && !markPresent h s 3 && imageClosed h s

/-- UPD_SLOTS' code of a slot (R462). -/
def slotCode (h : Head) (s : Nat) : Nat :=
  if sectorState h (1 + s) = 0 then 5
  else if !markGood h s 0 then 0
  else if !imageClosed h s then 5
  else if markPresent h s 3 then 4
  else if markGood h s 2 then 3
  else if markPresent h s 1 then 2
  else 1

def syncSlots (h : Head) : Head :=
  fset h .east UPD_SLOTS_STATE ((List.range 4).map (fun s => slotCode h s <<< (4 * s))).sum

/-- The slot of a kind in force. -/
def slotInForce (h : Head) (os : Bool) : Nat := if os then 2 + fget h .east DOC_STATUS_OS_SLOT else fget h .east DOC_STATUS_DOC_SLOT

def stageAddr (h : Head) : Nat := pget h .east UPD_STAGE_LO_ADDR UPD_STAGE_HI_ADDR * 4096

/-- The generation of an image written to a slot (R450 step 4): one more than the higher of its kind's two slots. -/
def nextGen (h : Head) (s : Nat) : Nat :=
  let other := if s % 2 = 0 then s + 1 else s - 1
  let gen (s : Nat) : Nat := if markGood h s 0 then slotGen h s else 0
  max (gen s) (gen other) + 1

/-- The next operation of a slot write (R450). -/
def updStep (h : Head) (u : UpdWrite) : ArcOp :=
  let base := slotBase u.slot + 4096 * u.sector
  match u.phase with
  | 0 => ⟨.upd, 0x1000 + 0x1000 * u.slot, .erase 1⟩
  | 1 => ⟨.upd, base, .erase 1⟩
  | 2 =>
    let n := min 4096 (u.length - 4096 * u.sector) / 32
    ⟨.upd, base, .program ((List.range n).map (fun i => memRead h (stageAddr h + 4096 + 4096 * u.sector + 32 * i) 32))⟩
  | 3 => ⟨.upd, base, .close⟩
  | _ =>
    ⟨.upd, 0x1000 + 0x1000 * u.slot, .program [marker (slotMagic 0) (u.gen % 2 ^ 32 + u.length <<< 32)]⟩

/-- What follows an operation of a slot write that ended well; none once the write is done. -/
def updNext (u : UpdWrite) : Option UpdWrite :=
  let last := decide (imageSectors u.length ≤ u.sector + 1)
  match u.phase with
  | 0 => some { u with phase := 1, sector := 0 }
  | 1 => some (if last then { u with phase := 2, sector := 0 } else { u with sector := u.sector + 1 })
  | 2 => some { u with phase := 3 }
  | 3 => some (if last then { u with phase := 4 } else { u with phase := 2, sector := u.sector + 1 })
  | _ => none

/-- The sectors of a slot write that are still to do. -/
def updLeft (u : UpdWrite) : Nat :=
  let n := imageSectors u.length
  if u.phase < 2 then n else if u.phase = 4 then 0 else n - u.sector

/-- The STATUS byte of the update request block (R451). -/
def updReply (h : Head) (st : Status) : Head := memWrite h (stageAddr h + 1) 1 (statusCode st)

/-- A slot write ends. -/
def updEnd (h : Head) (u : UpdWrite) (st : Status) : Head :=
  let h := { h with arc := { h.arc with upd := none } }
  let h := fset (fset (fset h .east UPD_STATUS_BUSY 0) .east UPD_STATUS_RESULT (statusCode st)) .east UPD_STATUS_SECTORS_LEFT 0
  let h := if u.request then updReply h st else h
  match st with
  | .done => raise h .east Ev.UPD_WRITE_DONE
  | .aborted => h
  | _ => raise h .east Ev.UPD_WRITE_FAIL

/-- A descriptor that completes at once. -/
def arcAnswer (h : Head) (d : Desc) (st : Status) (bytes word : Nat) : Head := arcComplete (arcTake h) (dTag d) (dQuiet d) st bytes word

/-- Descriptors at the head of Docent's queue whose opcode R436 does not list are answered (R64, R436). -/
def arcSkip (h : Head) : Nat → Head
  | 0 => h
  | n + 1 => match arcHead? h with
    | none => h
    | some d =>
      if 1 ≤ dOpcode d ∧ dOpcode d ≤ 5 then h
      else arcSkip (arcAnswer h d (if dSystem d then .protocol else .collMismatch) 0 0) n

/-- The update engine's next step, which an execute-only region refuses (R433): the write then fails (R450). -/
def updGo (h : Head) : Head :=
  match h.arc.upd with
  | none => h
  | some u =>
    let o := updStep h u
    if inXo h o.offset 1 then updEnd h u .mediaFail else arcStart h o

/-- The next operation taken (R437): none while a record is due; the head of Docent's queue; the update engine's step. -/
def arcNext (h : Head) : Head :=
  if !arcIdle h || recordDue h then h
  else
    let h := arcSkip h 64
    match arcHead? h with
    | some d => match arcAsked h d with
      | some o => if dSystem d then arcStart (arcTake h) o else h
      | none => h
    | none => updGo h

/-- An operation's end made known to whom it was for. -/
def arcReport (h : Head) (o : ArcOp) (st : Status) (bytes word : Nat) : Head :=
  match o.job with
  | .queue tag quiet => arcComplete h tag quiet st bytes word
  | .upd => match h.arc.upd with
    | none => fset h .east UPD_STATUS_BUSY 0
    | some u =>
      if st ≠ .done then updEnd h u st
      else match updNext u with
        | some v => fset { h with arc := { h.arc with upd := some v } } .east UPD_STATUS_SECTORS_LEFT (min (updLeft v) 65535)
        | none => updEnd h u .done

/-- ARC_OPERATION_END (R431, R432, R437): the operation in progress ends, and the next is taken. -/
def arcOperationEnd (h : Head) (e : PulseEnd) : Head :=
  match h.arc.op with
  | none => h
  | some o =>
    if fbit h .east ARC_STATUS_STOP then h
    else
      let size := match o.work with
        | .program ws => ws.length
        | .erase k => k
        | .close => 1
      let short := e.fails.bind (fun i => if i < size then some i else none)
      let h := syncSlots (arcApply (arcClear h) o short)
      arcNext (match short with
        | some i => arcReport (arcFail h (isErase o.work) (arcAt o i)) o .mediaFail (arcDone o short) (arcAt o i)
        | none => arcReport h o .done (arcDone o none) (min e.pulses (pulseLimit h o.work)))

/-- The head of Docent's queue where it has an opcode, no earlier operation of the queue being in progress: R437 serves it in order. -/
def arcTurn (h : Head) (opcode : Nat) : Option Desc :=
  if !arcReady h then none else (arcHead? h).bind (fun d => if dOpcode d = opcode then some d else none)

/-- ARC_PROGRAM, ARC_ERASE and ARC_CLOSE (R431 to R437): the descriptor's operation starts, or is refused. -/
def arcOperate (h : Head) (opcode : Nat) : Head :=
  match arcTurn h opcode with
  | none => h
  | some d =>
    if recordDue h || !arcIdle h then h
    else if !dSystem d then arcAnswer h d .collMismatch 0 0
    else match arcAsked h d with
      | some o => arcStart (arcTake h) o
      | none => arcAnswer h d .protocol 0 0

/-- ARC_READ (R428, R436): bytes copied to Docent SRAM or DDR5. A locked execute-only region refuses Docent too. -/
def arcRead (h : Head) : Head :=
  match arcTurn h 1 with
  | none => h
  | some d =>
    let a := acOffset d
    let n := acLen d
    if !dSystem d then arcAnswer h d .collMismatch 0 0
    else if n = 0 ∨ 2 ^ 20 < n ∨ 2 ^ 28 < a + n ∨ arcMemory h (acAddr d) n = false then arcAnswer h d .protocol 0 0
    else if inXo h a n then arcAnswer (xoRefused h 0xFE (0x40000000 + a)) d .protocol 0 0
    else
      let v := arcBytes h a n
      let h := if acAddr d + n ≤ 2 ^ 19 then { h with sram := memPut h.sram (acAddr d) n v } else memWrite h (acAddr d) n v
      arcAnswer h d .done n 0

/-- SECTOR_STATE (R436). -/
def arcSectorState (h : Head) : Head :=
  match arcTurn h 5 with
  | none => h
  | some d =>
    if !dSystem d then arcAnswer h d .collMismatch 0 0
    else if acLen d ≠ 0 then arcAnswer h d .protocol 0 0
    else arcAnswer h d .done 0 (sectorState h (acOffset d / 4096))

/-- Descriptors that wait in the queue, aborted (R434). -/
def abortQueue (h : Head) : Nat → Head
  | 0 => h
  | n + 1 => match arcHead? h with
    | none => h
    | some d => abortQueue (arcAnswer h d .aborted 0 0) n

/-- ARC_STOP (R434): the pulse in progress ramps down after some words or sectors have verified; everything ends with ABORTED. -/
def arcStop (h : Head) (verified : Nat) : Head :=
  let h := match h.arc.op with
    | none => h
    | some o =>
      let (k, h) := fresh h
      let h := syncSlots (arcApply (arcClear h) o (some verified))
      arcReport h o .aborted (arcDone o (some (match o.work with
        | .program ws => min verified ws.length
        | .erase k => min verified k
        | .close => 0))) (Config.freeNat k % (pulseLimit h o.work + 1))
  let h := abortQueue h 64
  let h := match h.arc.upd with
    | some u => updEnd h u .aborted
    | none => h
  raise (fset h .east ARC_STATUS_STOPPED 1) .east Ev.ARC_STOPPED

/-- BROWN_OUT_DETECT and BOR_RELEASE (R435). -/
def brownOutDetect (h : Head) : Head := fset (fset h .east ARC_STATUS_BOR 1) .east ARC_STATUS_STOP 1
def borRelease (h : Head) : Head :=
  if fbit h .east ARC_STATUS_BOR then
    arcNext (fset (fset h .east ARC_STATUS_BOR 0) .east ARC_STATUS_STOP (ofBool h.arc.grace))
  else h

/-! ### The recorder (R441 to R447) -/

/-- PRV_BUFFER brought up to date. -/
def syncRecs (h : Head) : Head :=
  fmax (fset h .east PRV_BUFFER_HELD h.arc.recs.length) .east PRV_BUFFER_HIGH_WATER h.arc.recs.length

/-- An occurrence reaches the recorder (R443): a repeat, a record, or a loss. -/
def record (h : Head) (source code payload : Nat) (firmware : Bool) : Head :=
  let same (r : RecEntry) : Bool := r.hold && r.source == source && r.code == code
  if h.arc.recs.any same then
    { h with arc := { h.arc with recs := h.arc.recs.map (fun r =>
        if same r then { r with rep := satAdd 16 r.rep 1, firmware := r.firmware || firmware } else r) } }
  else if 64 ≤ h.arc.recs.length then
    let h := fadd { h with arc := { h.arc with lostNext := satAdd 16 h.arc.lostNext 1 } } .east PRV_LOST_COUNT
    raise (if firmware then fset h .east PRV_REC_CMD_WRITE 0 else h) .east Ev.PRV_LOST
  else
    let r : RecEntry := ⟨h.arc.nextSeq, fget h .east PRV_HOURS_HOURS, fget h .east PRV_CYCLES_COUNT, source % 1024, code % 65536, 0,
      h.arc.lostNext, payload % 2 ^ 256, true, firmware⟩
    let h := syncRecs { h with arc := { h.arc with
      recs := h.arc.recs ++ [r]
      nextSeq := (h.arc.nextSeq + 1) % 2 ^ 32
      lostNext := 0 } }
    if h.arc.recs.length = 48 then raise h .east Ev.PRV_BUFFER_HIGH else h

/-- The page that raises an event, and the EVT page of a wing for a software event (R69). -/
def pageOfEvent (ev : Nat) (w : Wing) : Page :=
  ((allPages.find? (fun p => decide (evtBase p ≤ ev) && decide (ev < evtBase p + evtCount p.block)))).getD (pg .evt w)

/-- RECORD (R73, R444): the RECORD responder's payload is of the page that raised the event. -/
def recordEvent (h : Head) (ev : Nat) (w : Wing) : Head :=
  let p := pageOfEvent ev w
  let payload := (rd h p EVT_STATUS_EVENTS.off 0).toNat + (rd h p ERR_INFO_CODE.off 0).toNat <<< 32 +
    (hget h p ERR_ADDR_LO_ADDR) <<< 64 + (hget h p ERR_ADDR_HI_ADDR) <<< 96 +
    (pget h w FRM_FRAME_LO_FRAME FRM_FRAME_HI_FRAME) <<< 128
  record h ev 0 payload false

/-- PRV_REC_CMD.WRITE (R443, R461): ignored while an earlier record's mark has not verified (R10). -/
def recWriteEffect (h : Head) : Head :=
  if fbit h .east PRV_REC_CMD_WRITE then h
  else record (fset h .east PRV_REC_CMD_WRITE 1) (fget h .east PRV_REC_HDR_SOURCE) (fget h .east PRV_REC_HDR_CODE) h.arc.recPayload true

def recWrite (h : Head) (ini : Initiator) : Head := withWrite h ini (pg .prv .east) 0x080 recWriteEffect

/-- RECORD_HOLD_EXPIRY (R443). -/
def recordHoldExpiry (h : Head) (seq : Nat) : Head :=
  { h with arc := { h.arc with recs := h.arc.recs.map (fun r => if r.seq = seq then { r with hold := false } else r) } }

/-- A record's two words (R441). -/
def recordWords (r : RecEntry) : Nat × Nat :=
  let body := r.seq + r.hours <<< 32 + r.cycles <<< 64 + r.source <<< 96 + r.code <<< 112 + r.rep <<< 128 + r.lost <<< 144 +
    r.payload <<< 192
  let all := body + (Config.crc32c 56 body % 2 ^ 32) <<< 448 + 0xC3A55A3C <<< 480
  (all % 2 ^ 256, all >>> 256)

/-- The oldest SEQ in the circulating area (R446). -/
def oldestSeq (l : Tab Nat) (d : Nat) : Nat := (l.map (·.2)).foldl min d

/-- A record programmed in its slot, or stopped in one of its words and written again in the next slot (R442, R443). -/
def programRecord (h : Head) (r : RecEntry) (ok : Bool) : Head :=
  let (w0, w1) := recordWords r
  let place := if h.arc.perm < 4096 then 0x10000 + 64 * h.arc.perm else 0x50000 + 64 * h.arc.circNext
  let c := h.arc.circNext
  let circ := decide (4096 ≤ h.arc.perm)
  let h := if circ && c % 64 == 0 then
      let left := tabKeep h.arc.circ (fun k _ => k / 64 != c / 64)
      let h := fset { h with arc := { h.arc with circ := left } } .east PRV_OLDEST_SEQ (oldestSeq left r.seq)
      eraseSector h (place / 4096)
    else h
  let h := { h with arc := if circ then { h.arc with circNext := (c + 1) % 4160 } else { h.arc with perm := h.arc.perm + 1 } }
  if ok then
    let h := programWord (programWord h (place / 32) w0) (place / 32 + 1) w1
    let h := { h with arc := { h.arc with
      recs := h.arc.recs.drop 1
      newestCycles := r.cycles
      circ := if circ then tabPut h.arc.circ c r.seq else h.arc.circ } }
    let h := if r.firmware then fset h .east PRV_REC_CMD_WRITE 0 else h
    syncRecs (fset h .east PRV_NEWEST_SEQ r.seq)
  else
    let (k, h) := fresh h
    if Config.freeNat k % 2 = 0 then halfWord h (place / 32) w0 else halfWord (programWord h (place / 32) w0) (place / 32 + 1) w1

/-- RECORD_PROGRAM (R442, R443): the next buffered record, once it holds no more. -/
def recordProgram (h : Head) (ok : Bool) : Head :=
  match h.arc.recs with
  | [] => h
  | r :: _ => if r.hold || !arcIdle h then h else arcNext (programRecord h r ok)

/-- The buffer drained. -/
def drainRecords (h : Head) : Head := foldHead h h.arc.recs (fun h r => programRecord h r true)

/-- A new hour-tally sector (R445). -/
def startTally (h : Head) (sector base : Nat) : Head :=
  let h := eraseSector h (5 + sector)
  programWord { h with arc := { h.arc with tally := sector, tallyBase := base, tallyUsed := 0 } } ((5 + sector) * 128) (marker 0x7A110000 base)

/-- HOUR_TICK (R445). -/
def hourTick (h : Head) : Head :=
  let h := if arcWord h ((5 + h.arc.tally) * 128) = erasedWord then startTally h h.arc.tally 0 else h
  let h := if h.arc.tallyUsed = 127 then startTally h (1 - h.arc.tally) (h.arc.tallyBase + 127) else h
  let h := programWord h ((5 + h.arc.tally) * 128 + 1 + h.arc.tallyUsed) (marker 0x7A110001 0)
  let h := { h with arc := { h.arc with tallyUsed := h.arc.tallyUsed + 1 } }
  let hours := h.arc.tallyBase + h.arc.tallyUsed
  fset { h with cur := { h.cur with hours := hours } } .east PRV_HOURS_HOURS (hours * 256 % 2 ^ 32)

/-- PRV_CTRL.CLEAR (R447): the buffer drained, the circulating area erased, the clear record written in its first slot. -/
def prvClearEffect (h : Head) : Head :=
  let h := drainRecords h
  let top := fget h .east PRV_NEWEST_SEQ
  let h := foldHead h (List.range 65) (fun h i => eraseSector h (0x50 + i))
  let r : RecEntry := ⟨h.arc.nextSeq, fget h .east PRV_HOURS_HOURS, fget h .east PRV_CYCLES_COUNT, 944, 2, 0, h.arc.lostNext,
    top + h.doc.counter <<< 32, false, false⟩
  let (w0, w1) := recordWords r
  let h := programWord (programWord h (0x50000 / 32) w0) (0x50000 / 32 + 1) w1
  let h := { h with arc := { h.arc with circ := [(0, r.seq)], circNext := 1, nextSeq := (r.seq + 1) % 2 ^ 32, lostNext := 0, newestCycles := r.cycles } }
  raise (fset (fset h .east PRV_NEWEST_SEQ r.seq) .east PRV_OLDEST_SEQ r.seq) .east Ev.PRV_CLEARED

def prvClear (h : Head) (ini : Initiator) : Head := withWrite h ini (pg .prv .east) 0x040 prvClearEffect

/-! ### Updates (R450 to R454) -/

/-- A slot write asked for (R450): started, or refused with LIMIT. -/
def updWrite (h : Head) (slot len : Nat) (request : Bool) : Head :=
  let os := decide (2 ≤ slot)
  let trial := if os then fbit h .east DOC_STATUS_OS_TRIAL else fbit h .east DOC_STATUS_DOC_TRIAL
  let inForce := slot == slotInForce h os && (os || !fbit h .east UPD_STATUS_RECOVERED)
  if inForce || trial || len == 0 || len % 32 != 0 || decide (slotSize slot < len) then
    let h := fset h .east UPD_STATUS_RESULT (statusCode .limit)
    if request then updReply h .limit else h
  else
    let u : UpdWrite := ⟨slot, len, 0, 0, request, nextGen h slot⟩
    let h := fset { h with arc := { h.arc with upd := some u } } .east UPD_STATUS_BUSY 1
    arcNext (fset h .east UPD_STATUS_SECTORS_LEFT (min (updLeft u) 65535))

/-- UPD_CTRL.WRITE: ignored while a write runs (R10). -/
def updWriteEffect (h : Head) : Head :=
  if fbit h .east UPD_STATUS_BUSY || !running h (pg .upd .east) then h
  else updWrite h (fget h .east UPD_CTRL_SLOT) (fget h .east UPD_LENGTH_BYTES) false

def updWriteCmd (h : Head) (ini : Initiator) (slot : Nat) : Head :=
  withWrite h ini (pg .upd .east) 0x040 (fun h => updWriteEffect (fset h .east UPD_CTRL_SLOT (slot % 4)))

/-- UPD_CTRL.ABORT (R451): the operation in progress finishes, and the slot stays not usable. -/
def updAbortEffect (h : Head) : Head :=
  match h.arc.upd with
  | none => h
  | some u =>
    let h := updEnd h u .aborted
    match h.arc.op with
    | some o => if o.job = .upd then fset h .east UPD_STATUS_BUSY 1 else h
    | none => h

def updAbort (h : Head) (ini : Initiator) : Head := withWrite h ini (pg .upd .east) 0x040 updAbortEffect

/-- Docent firmware runs (R398): STAGE FIRMWARE or RELEASED. -/
def firmwareRuns (h : Head) : Bool := fget h .east DOC_STATUS_STAGE == 1 || fget h .east DOC_STATUS_STAGE == 2

/-- WRITE_OS and WRITE_DOCENT (R451): the inactive slot of the kind, with the LENGTH of the request block. -/
def updRequest (h : Head) (os : Bool) : Head :=
  if !firmwareRuns h then h
  else if fbit h .east UPD_STATUS_BUSY then updReply h .limit
  else
    let len := memRead h (stageAddr h + 4) 4
    let s := slotInForce h os
    let slot := if s % 2 = 0 then s + 1 else s - 1
    updWrite (fset (fset h .east UPD_CTRL_SLOT slot) .east UPD_LENGTH_BYTES len) slot len true

/-- ABORT of an update request (R451). -/
def updReqAbort (h : Head) : Head := if firmwareRuns h then updReply (updAbortEffect h) .done else h

/-- A kind's floor (R440). -/
def floorAt (h : Head) (os : Bool) : Nat := if os then fget h .east UPD_FLOOR_OS else fget h .east UPD_FLOOR_DOC

/-- A kind's floor raised to the running image's security version, at most 40 (R454). -/
def raiseFloor (h : Head) (os : Bool) : Head :=
  let svn := min 40 (if os then fget h .east UPD_SVN_OS_SVN else fget h .east UPD_SVN_DOC_SVN)
  let first := if os then 76 else 36
  let old := floorAt h os
  let h := foldHead h ((List.range svn).filter (fun i => decide (old ≤ i))) (fun h i => programWord h (first + i) (marker 0x5F100001 0))
  raise (fset h .east (if os then UPD_FLOOR_OS else UPD_FLOOR_DOC) (max old svn)) .east Ev.UPD_FLOOR_RAISED

/-- The trial timer stops once every image on trial is confirmed (R453). -/
def syncTrial (h : Head) : Head :=
  if fbit h .east DOC_STATUS_DOC_TRIAL || fbit h .east DOC_STATUS_OS_TRIAL then h
  else fset { h with arc := { h.arc with trial := false } } .east UPD_TRIAL_LEFT 0

/-- A confirm of the image of a kind that runs on trial (R453, R454). -/
def updConfirm (h : Head) (os up : Bool) : Head :=
  let f := if os then DOC_STATUS_OS_TRIAL else DOC_STATUS_DOC_TRIAL
  if !fbit h .east f then h
  else
    let h := programWord h (controlWord (slotInForce h os) 2) (marker (slotMagic 2) 0)
    let h := raise (syncTrial (syncSlots (fset h .east f 0))) .east Ev.UPD_CONFIRMED
    if up then raiseFloor h os else h

def updConfirmEffect (h : Head) (os : Bool) : Head :=
  updConfirm h os (if os then fbit h .east UPD_CONFIRM_RAISE_OS else fbit h .east UPD_CONFIRM_RAISE_DOC)

def updConfirmCmd (h : Head) (ini : Initiator) (os up : Bool) : Head :=
  withWrite h ini (pg .upd .east) 0x058 (fun h =>
    updConfirmEffect (fset h .east (if os then UPD_CONFIRM_RAISE_OS else UPD_CONFIRM_RAISE_DOC) (ofBool up)) os)

/-- CONFIRM_OS (R451). -/
def confirmOs (h : Head) : Head :=
  if firmwareRuns h then updReply (updConfirmEffect h true) .done else h

/-! ### Recovery (R455) -/

/-- RECOVERY_WRITE. -/
def recoveryWrite (h : Head) (off len data : Nat) : Head :=
  if fget h .east DOC_STATUS_STAGE = 3 ∧ len ≤ 1024 ∧ off + len ≤ 2 ^ 19 then { h with sram := memPut h.sram off len data } else h

/-- RECOVERY_STATUS. -/
def recoveryStatus (h : Head) : Head :=
  if fget h .east DOC_STATUS_STAGE = 3 then send h (.recovery 3 (fget h .east UPD_STATUS_RECOVERED)) else h

/-! ### Watchdogs (R456, R457) -/

def wdgExpired : Nat → EvRef
  | 0 => Ev.WDG_EXPIRED0
  | 1 => Ev.WDG_EXPIRED1
  | _ => Ev.WDG_EXPIRED2
def wdgWarnEv : Nat → EvRef
  | 0 => Ev.WDG_WARN0
  | 1 => Ev.WDG_WARN1
  | _ => Ev.WDG_WARN2

/-- A watchdog fed: it counts down from its timeout again. -/
def wdgFeed (h : Head) (n : Nat) : Head :=
  if n < 3 then fset h .east WDG_LEFT_MICROS (1000 * fget h .east WDG_CFG_TIMEOUT_MS n) n else h

/-- A write of WDG_FEED. -/
def wdgFeedEffect (h : Head) (bits : Nat) : Head := foldHead h (List.range 3) (fun h n => if bits.testBit n then wdgFeed h n else h)
def wdgFeedCmd (h : Head) (ini : Initiator) (bits : Nat) : Head := withWrite h ini (pg .wdg .east) 0x048 (fun h => wdgFeedEffect h bits)

/-- Delivery of FEED_EVENT. -/
def wdgEventFeed (h : Head) (ev : Nat) : Head :=
  foldHead h (List.range 3) (fun h n =>
    if fbit h .east WDG_CFG_EVENT_FEED n && fget h .east WDG_CFG_FEED_EVENT n == ev then wdgFeed h n else h)

/-- WDG_WARN: half the timeout has passed. -/
def wdgWarn (h : Head) (n : Nat) : Head :=
  if n < 3 ∧ fbit h .east WDG_CFG_ENABLE n then
    raise (fset h .east WDG_LEFT_MICROS (500 * fget h .east WDG_CFG_TIMEOUT_MS n) n) .east (wdgWarnEv n)
  else h

/-- WDG_EXPIRY (R457). -/
def wdgExpiry (h : Head) (n : Nat) : Head :=
  if n < 3 ∧ fbit h .east WDG_CFG_ENABLE n then
    let h := fadd (fset h .east WDG_LEFT_MICROS 0 n) .east WDG_EXPIRED_COUNT
    let h := if fbit h .east WDG_CFG_RESET n then fset { h with arc := { h.arc with grace := true } } .east ARC_STATUS_STOP 1 else h
    raise h .east (wdgExpired n)
  else h

end Sys2Proof.Machine
end

