-- ==== Sys2Proof/Machine/Cores.lean ====
section
/-! DEFINITION. Cores, memory and DMA (spec/13_cores_memory_dma.md). -/

namespace Sys2Proof.Machine

open Reg

/-! ### Cores (R363, R366) -/

/-- A hart's wing and core: core c of wing w is hart 26w + c. -/
def hartWing (n : Nat) : Wing := if n < 26 then .east else .west
def hartCore (n : Nat) : Nat := n % 26
def hartOf (w : Wing) (c : Nat) : Nat := 26 * wingNum w + c

def coreState (h : Head) (w : Wing) (c : Nat) : Nat := fget h w CPU_CORE_STATE_STATE c

/-- A core that executes: ACTIVE, its wing released (R399), and not in HNY.WAIT. -/
def hartRuns (h : Head) (n : Nat) : Bool :=
  decide (n < 52) && coreState h (hartWing n) (hartCore n) == 0 && !tabHas h.core.waits n &&
    (if n < 26 then h.doc.releasedE && !h.doc.heldE else h.doc.releasedW && !h.doc.heldW)

/-- The ACTIVE cores of the head. -/
def activeCores (h : Head) : Nat := ((List.range 52).filter (fun n => coreState h (hartWing n) (hartCore n) == 0)).length

/-! ### Core rungs (R469, R470) -/

/-- A core's rung, as PWR_CORE_RUNG and CPU_CORE_STATE show it. -/
def setCoreRung (h : Head) (n r : Nat) : Head :=
  fset (fset h (hartWing n) CPU_CORE_STATE_RUNG r (hartCore n)) (hartWing n) PWR_CORE_RUNG_CURRENT r (hartCore n)

def coreRung (h : Head) (n : Nat) : Nat := fget h (hartWing n) PWR_CORE_RUNG_CURRENT (hartCore n)

/-- A core's island. -/
def coreIsland (n : Nat) : Nat := 65536 + n

/-- The core is at rung 3 or 4, or on its way to or from it: its interrupts do not wake it. -/
def coreDeep (h : Head) (n : Nat) : Bool :=
  decide (3 ≤ coreRung h n) || fbit h (hartWing n) PWR_CORE_RUNG_IN_TRANSIT (hartCore n)

/-- A waiting core whose REQUEST is 3 or 4 starts its descent. -/
def coreDescend (h : Head) (n : Nat) : Head :=
  let r := fget h (hartWing n) PWR_CORE_RUNG_REQUEST (hartCore n)
  if r < 3 || !tabHas h.core.waits n || coreDeep h n then h
  else
    let h := { h with pwr := { h.pwr with entries := tabPut h.pwr.entries (coreIsland n) (r, 0) } }
    fset h (hartWing n) PWR_CORE_RUNG_IN_TRANSIT 1 (hartCore n)

/-- A cause by which a core leaves rung 3 or 4 (R470): it joins an exit, waits for the end of an entry, or starts an exit. -/
def coreWake (h : Head) (n cause : Nat) : Head :=
  let w := hartWing n
  let c := hartCore n
  if h.pwr.exits.contains (coreIsland n) then fset h w PWR_CORE_RUNG_CAUSE (fget h w PWR_CORE_RUNG_CAUSE c ||| 1 <<< cause) c
  else match tabGet? h.pwr.entries (coreIsland n) with
    | some (r, cs) => { h with pwr := { h.pwr with entries := tabPut h.pwr.entries (coreIsland n) (r, cs ||| 1 <<< cause) } }
    | none =>
      if coreRung h n < 3 then h
      else
        let h := { h with pwr := { h.pwr with exits := h.pwr.exits ++ [coreIsland n] } }
        fset (fset h w PWR_CORE_RUNG_CAUSE (1 <<< cause) c) w PWR_CORE_RUNG_IN_TRANSIT 1 c

/-- A core's state and cause; a core that leaves ACTIVE waits no longer. -/
def setCore (h : Head) (w : Wing) (c st cause : Nat) : Head :=
  let h := fset (fset h w CPU_CORE_STATE_STATE st c) w CPU_CORE_STATE_CAUSE cause c
  if st = 0 then h
  else setCoreRung { h with core := { h.core with waits := tabDel h.core.waits (hartOf w c) } } (hartOf w c) 0

/-- CPU_CORE_CMD (R366): 1 ENABLE, 2 FENCE; 0 and 3 are reserved. -/
def coreCmdEffect (h : Head) (src : Nat) (w : Wing) (cmd : Nat) : Head :=
  let c := fget h w CPU_CORE_INDEX_INDEX
  let st := coreState h w c
  let bad (code : Nat) : Head := config h (pg .cpu w) ⟨code, src, true, pageAddr (pg .cpu w) + 0x048⟩
  if cmd = 1 then (if st = 1 ∨ st = 4 then setCore h w c 2 0 else h)
  else if cmd = 2 then
    if wings.any (fun v => fget h v EVT_CTRL_FALLBACK_HART == hartOf w c) ∨ (st = 0 ∧ activeCores h = 1) then bad 11
    else if st = 0 then setCore h w c 4 3
    else h
  else bad 4

def coreCommand (h : Head) (ini : Initiator) (w : Wing) (cmd : Nat) : Head :=
  withWrite h ini (pg .cpu w) 0x048 (fun h => coreCmdEffect h (sourceCode ini) w cmd)

/-- CORE_READY (R366): a core's test ends well and it starts at CPU_START. -/
def coreReady (h : Head) (w : Wing) (c : Nat) : Head :=
  if c < 26 ∧ coreState h w c = 2 then
    raise (send (setCore h w c 0 0) (.hartStart (hartOf w c) (pget h w CPU_START_LO_ADDR CPU_START_HI_ADDR * 4))) w Ev.CPU_CORE_READY
  else h

/-- CORE_FAILED (R366): FAILED until chip reset. The cause is 1 test or 2 ECC. -/
def coreFailed (h : Head) (w : Wing) (c cause : Nat) : Head :=
  if c < 26 ∧ coreState h w c ≠ 3 then raise (setCore h w c 3 cause) w Ev.CPU_CORE_FAILED else h

/-! ### HNY.POST and HNY.WAIT (R367 to R372) -/

/-- The modes in which the Xhnypost instructions raise an illegal-instruction exception (R367). -/
def illegalMode : HartMode → Bool
  | .m | .s => false
  | .u | .vs | .vu => true

/-- A precise exception of a hart. -/
def hartTrap (h : Head) (n : Nat) (illegal : Bool) : Head := send h (.hartTrap n illegal)

/-- HNY.POST refuses a ring (R369): disabled, of an undefined class, or not the hart's. -/
def postRefused (h : Head) (w : Wing) (r hart : Nat) : Bool :=
  !fbit h w CPU_RING_CFG_ENABLE r || decide (4 < fget h w CPU_RING_CFG_CLASS r) ||
    !(fbit h w CPU_RING_CFG_ANY_HART r || fget h w CPU_RING_CFG_OWNER r == hart)

/-- HNY_POST (R367 to R369): rs1, and the descriptor's physical address, none where its translation faults. -/
def hnyPost (h : Head) (n : Nat) (mode : HartMode) (rs1 : Nat) (addr : Option Nat) : Head :=
  let w : Wing := if rs1.testBit 10 then .west else .east
  let r := rs1 % 1024
  if !hartRuns h n then h
  else if illegalMode mode then hartTrap h n true
  else match addr with
    | none => hartTrap h n false
    | some a =>
      if !rangeAll a 64 (coreReach h) || isPoisoned h a 64 then hartTrap h n false
      else if postRefused h w r n then send (raise h w Ev.CPU_POST_REFUSED) (.hartResult n 2)
      else if ringSize h w r ≤ ringUsed h w r then send (fadd h w CPU_CNT_FULL_COUNT) (.hartResult n 1)
      else
        let t := fget h w CPU_RING_PTR_TAIL r
        let h := memWrite h (ringBase h w r + 64 * (t % ringSize h w r)) 64 (memRead h a 64)
        send (fadd (fset h w CPU_RING_PTR_TAIL ((t + 1) % 65536) r) w CPU_CNT_POST_COUNT) (.hartResult n 0)

/-- HNY_WAIT (R372): the hart stops at rung 1. The timeout is in µs, 0 for none. -/
def hnyWait (h : Head) (n : Nat) (mode : HartMode) (timeout : Nat) : Head :=
  if !hartRuns h n then h
  else if illegalMode mode then hartTrap h n true
  else coreDescend (setCoreRung { h with core := { h.core with waits := tabPut h.core.waits n timeout } } n 1) n

/-- A hart's WAIT ends with a cause. -/
def endWait (h : Head) (n cause : Nat) : Head :=
  if tabHas h.core.waits n then
    send (setCoreRung { h with core := { h.core with waits := tabDel h.core.waits n } } n 0) (.hartResult n cause)
  else h

/-- A forced wake of a hart's wait group (R76, R469). -/
def forceWake (h : Head) (n : Nat) : Head := if coreDeep h n then coreWake h n 3 else endWait h n 1

/-- WAIT_WAKE (R372): of the causes that arise together, the least. A hart with no timeout has no cause 2; one at rung 3 or 4 is woken
by a forced wake alone. -/
def waitWake (h : Head) (n : Nat) (irq forced timeout : Bool) : Head :=
  if coreDeep h n then (if forced then forceWake h n else h)
  else if irq then endWait h n 0
  else if forced then forceWake h n
  else if timeout && tabGet h.core.waits 0 n != 0 then endWait h n 2
  else h

/-! ### Completion queues (R371) -/

/-- What follows a write of CPU_CQ_PTR.HEAD, or the enabling of a queue: held entries are written while there is room. -/
def cqRelease (h : Head) (w : Wing) (q : Nat) : Head := releaseHeld h w q h.eng.ops.length

/-- CQ_HEAD_WRITE (R371), on the queue CPU_CQ_INDEX selects. -/
def cqHeadWrite (h : Head) (ini : Initiator) (w : Wing) (v : Nat) : Head :=
  let q := fget h w CPU_CQ_INDEX_INDEX
  withWrite h ini (pg .cpu w) 0x078 (fun h => cqRelease (fset h w CPU_CQ_PTR_HEAD (v % 65536) q) w q)

/-! ### The physical memory map (R374, R375) -/

/-- An address that a core reaches outside memory: an interrupt file, mtimecmp, the archive window, or a control window. -/
def deviceReach (a : Nat) : Bool :=
  (decide (0x10000000 ≤ a) && decide (a < 0x10000000 + 0x1000 * 52)) ||
  (decide (0x11000000 ≤ a) && decide (a < 0x11000000 + 0x8000 * 52) && decide (a % 0x8000 < 0x5000)) ||
  (decide (0x20000000 ≤ a) && decide (a < 0x20000000 + 8 * 52)) ||
  (decide (0x40000000 ≤ a) && decide (a < 0x50000000)) ||
  [0x00F000000000, 0x00F400000000, 0x00F800000000].any (fun b => decide (b ≤ a) && decide (a < b + windowSize))

/-- CORE_ACCESS_FAULT (R375, R377): a core's access that memory refuses raises a precise access fault. -/
def coreAccess (h : Head) (n a : Nat) (load : Bool) : Head :=
  if !hartRuns h n then h
  else if decide (0x40000000 ≤ a) && decide (a < 0x50000000) then
    if load && windowReadable h a 1 then h
    else hartTrap (if load then xoRefused h n a else h) n false
  else if !deviceReach a && (!coreReach h a || (load && isPoisoned h a 1)) then hartTrap h n false
  else h

/-! ### DMA (R385 to R391) -/

def dmSrc (d : Desc) : Nat := dBits d 8 48
def dmDst (d : Desc) : Nat := dBits d 16 48
def dmLen (d : Desc) : Nat := dBits d 24 32
def dmSrcW (d : Desc) : Nat := dBits d 28 6
def dmDstW (d : Desc) : Nat := dBits d 29 6
def dmSrcWrap (d : Desc) : Bool := dFlag d 4
def dmDstWrap (d : Desc) : Bool := dFlag d 5
def dmPattern (d : Desc) : Nat := dBits d 32 64

/-- The pieces of a wrapped range in order (R387): address, length. -/
def wrapPieces (base w off : Nat) : Nat → Nat → List (Nat × Nat)
  | _, 0 => []
  | 0, _ => []
  | fuel + 1, len =>
    let n := min len (2 ^ w - off)
    (base + off, n) :: wrapPieces base w 0 fuel (len - n)

/-- The pieces of memory that a transfer's side touches, in order. -/
def dmaPieces (a len : Nat) (wrap : Bool) (w : Nat) : List (Nat × Nat) :=
  if wrap then wrapPieces (a / 2 ^ w * 2 ^ w) w (a % 2 ^ w) (len / 2 ^ w + 2) len else [(a, len)]

/-- The Archive's read window (R428, R374). -/
def inWindow (a : Nat) : Bool := decide (0x40000000 ≤ a) && decide (a < 0x50000000)

/-- The bytes of a list of pieces as one number. -/
def readPieces (h : Head) : List (Nat × Nat) → Nat
  | [] => 0
  | (a, n) :: t => (if inWindow a then arcBytes h (a - 0x40000000) n else memRead h a n) + readPieces h t <<< (8 * n)

/-- A number's bytes laid over a list of pieces. -/
def placePieces : List (Nat × Nat) → Nat → List Placed
  | [], _ => []
  | (a, n) :: t, v => ⟨a, n, v % 2 ^ (8 * n)⟩ :: placePieces t (v >>> (8 * n))

/-- A range of byte positions of a transfer as ranges of a list of pieces. -/
def subPieces : List (Nat × Nat) → Nat → Nat → List (Nat × Nat)
  | [], _, _ => []
  | (a, n) :: t, from', len =>
    if n ≤ from' then subPieces t (from' - n) len
    else
      let k := min len (n - from')
      if len = 0 then [] else (a + from', k) :: subPieces t 0 (len - k)

/-- The byte positions of a list of pieces that lie in poisoned lines: start, length. -/
def poisonedIn (h : Head) (pieces : List (Nat × Nat)) : List (Nat × Nat) :=
  (pieces.foldl (fun (acc : Nat × List (Nat × Nat)) p =>
    let lines := h.poison.filter (fun l => decide (l * 64 < p.1 + p.2) && decide (p.1 < l * 64 + 64))
    (acc.1 + p.2, acc.2 ++ lines.map (fun l =>
      (acc.1 + (max (l * 64) p.1 - p.1), min (l * 64 + 64) (p.1 + p.2) - max (l * 64) p.1)))) (0, [])).2

/-- A pattern of 8 bytes repeated over a length. -/
def fillBytes (pattern len : Nat) : Nat :=
  ((List.range ((len + 7) / 8)).foldl (fun v i => v + pattern <<< (64 * i)) 0) % 2 ^ (8 * len)

/-- A wrap's window size is one that R386 gives. -/
def wrapOk (wrap : Bool) (w : Nat) : Bool := !wrap || (decide (12 ≤ w) && decide (w ≤ 32))

/-- The channel a transfer of a priority takes (R388): in service with its context free; one that moves a lower priority, or nothing,
before a busy one; the lower number first. -/
def pickChannel (h : Head) (w : Wing) (p : Nat) : Option Nat :=
  let l := (List.range 8).filter (fun c => !fbit h w DMA_CTRL_HALT && !h.core.dmaOff.contains (8 * wingNum w + c) &&
    !h.eng.ops.any (fun o => inChannel w c o && o.prio == p))
  let free (c : Nat) : Bool := !h.eng.ops.any (inChannel w c) || decide (movingPrio h w c < p)
  match l.find? free with
  | some c => some c
  | none => l.head?

/-- A transfer starts: its checks (R52, R375, R386, R387), its channel, and its source's bytes, read once (R389). Poison in the source ends
it with MEDIA_FAIL: no data is written (R68), and the destination's lines take the poison (R377). -/
def dmaStart (h0 h : Head) (w : Wing) (t : Taken) (o : EngOp) (copy : Bool) : Head :=
  let d := t.d
  let len := dmLen d
  let dst := dmaPieces (dmDst d) len (dmDstWrap d) (dmDstW d)
  let src := dmaPieces (dmSrc d) len (dmSrcWrap d) (dmSrcW d)
  let reach (l : List (Nat × Nat)) : Bool := l.all (fun p => rangeAll p.1 p.2 (coreReach h))
  let shut := if copy then src.find? (fun p => inWindow p.1 && !windowReadable h p.1 p.2) else none
  if len = 0 || decide (2 ^ 30 < len) || !wrapOk (dmDstWrap d) (dmDstW d) || (copy && !wrapOk (dmSrcWrap d) (dmSrcW d)) ||
      (dmDstWrap d && decide (2 ^ dmDstW d < len)) || !reach dst || (copy && !reach (src.filter (fun p => !inWindow p.1))) then
    failOp (refusePieces (if copy then refusePieces h .dma src false else h) .dma dst true) o .protocol
  else match shut with
    | some p => failOp (xoRefused h (sourceCode .dma) p.1) o .protocol
    | none =>
      let prio := match t.ring with
        | some n => if t.docent then 0 else fget h w CPU_RING_CFG_PRIO n
        | none => 0
      match pickChannel h w prio with
      | none => h0
      | some c =>
        let bad := if copy then poisonedIn h src else []
        let v := if copy then readPieces h src else fillBytes (dmPattern d) len
        let h := if h.eng.ops.any (inChannel w c) && decide (movingPrio h w c < prio) then fadd h w DMA_CNT_PREEMPT_COUNT else h
        pushOp h { o with
          bytes := if bad = [] then len else 0
          status := if bad = [] then .done else .mediaFail
          place := if bad = [] then placePieces dst v else []
          poison := (bad.map (fun b => subPieces dst b.1 b.2)).flatten
          chan := c
          prio := prio }

def dmaCopy (h : Head) (w : Wing) (src : Source) : Head := runDesc h w .dma src 1 (fun h' t o => dmaStart h h' w t o true)
def dmaFill (h : Head) (w : Wing) (src : Source) : Head := runDesc h w .dma src 2 (fun h' t o => dmaStart h h' w t o false)

/-- A channel stops (R390): every transfer it holds is aborted. -/
def stopChannel (h : Head) (w : Wing) (c : Nat) : Head :=
  let any := h.eng.ops.any (inChannel w c)
  let h := syncDma (abortOps h (inChannel w c) 64) w c
  if any then raise h w Ev.DMA_ABORTED else h

/-- DMA_CHAN_CMD (R390): 1 DISABLE, 2 ENABLE; 0 and 3 are reserved. -/
def dmaCmdEffect (h : Head) (src : Nat) (w : Wing) (cmd : Nat) : Head :=
  let c := fget h w DMA_CHAN_INDEX_INDEX
  let k := 8 * wingNum w + c
  let setOff (h : Head) (l : List Nat) : Head := { h with core := { h.core with dmaOff := l } }
  if cmd = 1 then stopChannel (setOff h (setIn h.core.dmaOff k true)) w c
  else if cmd = 2 then syncDma (setOff h (setIn h.core.dmaOff k false)) w c
  else config h (pg .dma w) ⟨4, src, true, pageAddr (pg .dma w) + 0x04C⟩

def dmaCommand (h : Head) (ini : Initiator) (w : Wing) (cmd : Nat) : Head :=
  withWrite h ini (pg .dma w) 0x04C (fun h => dmaCmdEffect h (sourceCode ini) w cmd)

/-- What follows a write of DMA_CTRL.HALT (R390). -/
def haltEffect (h : Head) (w : Wing) : Head :=
  foldHead h (List.range 8) (fun h c => if fbit h w DMA_CTRL_HALT then stopChannel h w c else syncDma h w c)

def dmaHalt (h : Head) (ini : Initiator) (w : Wing) (on : Bool) : Head :=
  withWrite h ini (pg .dma w) 0x040 (fun h => haltEffect (fset h w DMA_CTRL_HALT (ofBool on)) w)

/-! ### DDR5 (R376 to R382) -/

def setSize (set : Nat) : Nat := ((List.range 8).filter (fun c => set.testBit c)).length

/-- The units of 128 MiB that a segment takes on each member of a set. -/
def shareUnits (set : Nat) : Nat := 8 / max (setSize set) 1

/-- A set and BASE that R378 allows for a segment: 1, 2, 4 or 8 channels, within each member's capacity, off every other VALID
segment's share. -/
def placeOkSeg (h : Head) (w : Wing) (seg set base : Nat) : Bool :=
  [1, 2, 4, 8].contains (setSize set) &&
    (List.range 8).all (fun c => !set.testBit c || decide (base + shareUnits set ≤ Config.channelCapacity (8 * wingNum w + c))) &&
    (List.range 4096).all (fun s =>
      let set' := fget h w MEM_SEG_ENTRY_SET s
      let base' := fget h w MEM_SEG_ENTRY_BASE s
      s == seg || !fbit h w MEM_SEG_ENTRY_VALID s || set &&& set' == 0 ||
        decide (base + shareUnits set ≤ base') || decide (base' + shareUnits set' ≤ base))

def migration (h : Head) (w : Wing) : Option (Nat × Nat × Nat) := if w = .east then h.core.migE else h.core.migW
def setMigration (h : Head) (w : Wing) (m : Option (Nat × Nat × Nat)) : Head :=
  { h with core := if w = .east then { h.core with migE := m } else { h.core with migW := m } }

/-- MEM_MIGRATE.START (R379) on the segment it names. A segment that is not VALID, and a place that R378 reserves, move nothing and
raise CONFIG. -/
def migrateEffect (h : Head) (src : Nat) (w : Wing) : Head :=
  let seg := fget h w MEM_MIGRATE_SEGMENT
  let set := fget h w MEM_MIGRATE_TO_SET
  let base := fget h w MEM_MIGRATE_TO_BASE
  if fbit h w MEM_MIGRATE_BUSY then h
  else if !fbit h w MEM_SEG_ENTRY_VALID seg || !placeOkSeg h w seg set base then
    config h (pg .mem w) ⟨11, src, true, pageAddr (pg .mem w) + 0x058⟩
  else
    let h := setMigration h w (some (seg, set, base))
    fset (fset (fset h w MEM_MIGRATE_BUSY 1) w MEM_MIGRATE_BOUND_UNITS 0) w MEM_SEG_ENTRY_MIGRATING 1 seg

def migrateStart (h : Head) (ini : Initiator) (w : Wing) (seg : Nat) : Head :=
  withWrite h ini (pg .mem w) 0x058 (fun h => migrateEffect (fset h w MEM_MIGRATE_SEGMENT (seg % 4096)) (sourceCode ini) w)

/-- MIGRATE_DONE (R379). -/
def migrateDone (h : Head) (w : Wing) : Head :=
  match migration h w with
  | none => h
  | some (seg, set, base) =>
    let h := fset (fset (setMigration h w none) w MEM_SEG_ENTRY_SET set seg) w MEM_SEG_ENTRY_BASE base seg
    let h := fset (fset h w MEM_SEG_ENTRY_MIGRATING 0 seg) w MEM_MIGRATE_BUSY 0
    raise h w Ev.MEM_MIGRATE_DONE

/-- MEM_CHAN_CMD (R380): 1 FENCE, 2 UNFENCE; 0 and 3 are reserved. -/
def chanCmdEffect (h : Head) (src : Nat) (w : Wing) (cmd c : Nat) : Head :=
  let bad (code : Nat) : Head := config h (pg .mem w) ⟨code, src, true, pageAddr (pg .mem w) + 0x048⟩
  let fenced := fget h w MEM_CHAN_STATUS_FENCED
  if cmd = 1 then
    if (List.range 4096).any (fun s => fbit h w MEM_SEG_ENTRY_VALID s && (fget h w MEM_SEG_ENTRY_SET s).testBit c) then bad 11
    else raise (fset h w MEM_CHAN_STATUS_FENCED (fenced ||| 2 ^ c)) w Ev.MEM_CHANNEL_FENCED
  else if cmd = 2 then fset h w MEM_CHAN_STATUS_FENCED (if fenced.testBit c then fenced - 2 ^ c else fenced)
  else bad 4

def chanCommand (h : Head) (ini : Initiator) (w : Wing) (cmd c : Nat) : Head :=
  withWrite h ini (pg .mem w) 0x048 (fun h => chanCmdEffect h (sourceCode ini) w cmd (c % 8))

/-- A write of MEM_SEG_ENTRY (R378, R394): SET and BASE of a VALID entry stay, with CONFIG; a place that R378 reserves is stored as its
reset value, with CONFIG. -/
def segEntryEffect (h : Head) (src : Nat) (w : Wing) (v : Word) : Head :=
  let seg := fget h w MEM_SEG_INDEX_INDEX
  let bad (h : Head) (code : Nat) : Head := config h (pg .mem w) ⟨code, src, true, pageAddr (pg .mem w) + 0x050⟩
  let valid := bitsOf v 31 31
  let set := bitsOf v 23 16
  let base := bitsOf v 11 0
  if fbit h w MEM_SEG_ENTRY_VALID seg then
    let h := if set = fget h w MEM_SEG_ENTRY_SET seg ∧ base = fget h w MEM_SEG_ENTRY_BASE seg then h else bad h 11
    fset h w MEM_SEG_ENTRY_VALID valid seg
  else
    let ok := placeOkSeg h w seg set base || (valid == 0 && set == 0)
    let h := fset (fset h w MEM_SEG_ENTRY_SET (if ok then set else 0) seg) w MEM_SEG_ENTRY_BASE (if ok then base else 0) seg
    let h := fset h w MEM_SEG_ENTRY_VALID (if ok then valid else 0) seg
    if ok then h else bad h 4

/-- The wing's spare area (R381). -/
def spareArea (h : Head) (w : Wing) : Nat := pget h w MEM_SPARE_LO_ADDR MEM_SPARE_HI_ADDR * 2 ^ 20

/-- A page retired (R381): the next spare page holds it from then on. A spare area of 0 retires none. -/
def retirePage (h : Head) (w : Wing) (page : Nat) : Head :=
  let used := fget h w MEM_RETIRE_USED
  if spareArea h w = 0 then h
  else if 256 ≤ used then raise h w Ev.MEM_RETIRE_FULL
  else
    let h := { h with core := { h.core with
      retired := h.core.retired.filter (fun r => r.1 != page) ++ [(page, spareArea h w + 4096 * used)]
      ce := h.core.ce.filter (fun r => r.1 != page) } }
    raise (fset h w MEM_RETIRE_USED (used + 1)) w Ev.MEM_PAGE_RETIRED

/-- The capture of a memory error that no initiator caused. -/
def faultAt (h : Head) (b : Block) (w : Wing) (a : Nat) : Head := capture h (pg b w) ⟨6, 0xFF, false, a⟩

/-- DDR_UE (R377, R381). -/
def ddrUe (h : Head) (a : Nat) : Head :=
  match ddrSeg a with
  | none => h
  | some (w, _) =>
    let h := setPoison (fadd h w MEM_CNT_UE_COUNT) (a / 64 * 64) 64
    retirePage (raise (faultAt h .mem w a) w Ev.MEM_UE) w (a / 4096)

/-- DDR_CE (R381): counted, and a page that takes MEM_CE_THRESH within 1,024 frames is retired. -/
def ddrCe (h : Head) (a : Nat) : Head :=
  match ddrSeg a with
  | none => h
  | some (w, _) =>
    let now := frameCount h
    let page := a / 4096
    let l := h.core.ce.filter (fun r => decide (now < r.2 + 1024)) ++ [(page, now)]
    let h := { (fadd h w MEM_CNT_CE_COUNT) with core := { h.core with ce := l } }
    if fget h w MEM_CE_THRESH_COUNT ≤ (l.filter (fun r => r.1 == page)).length then
      retirePage (raise { h with core := { h.core with ce := l.filter (fun r => r.1 != page) } } w Ev.MEM_CE_THRESH) w page
    else h

/-- MEM_SCRUB_PASS (R382). -/
def memScrubPass (h : Head) (w : Wing) : Head := if fbit h w MEM_CTRL_SCRUB_EN then raise h w Ev.MEM_SCRUB_PASS else h

/-! ### HBM (R383, R384) -/

/-- CLEAN slots beyond what the wing's clean cache holds go (R384). -/
def trimClean (h : Head) (w : Wing) (l : List Slot) : List Slot :=
  (List.range (slotCount l w (fun s => s == .clean) - cleanLimit h w)).foldl (fun l _ => evictClean l w) l

/-- The move off a pseudo-channel starts (R384): the Vitrine drops the clean slots it held there, which the spec does not place, and the
clean cache shrinks. -/
def pchMove (h : Head) (w : Wing) (p : Nat) : Head :=
  let (n, h) := fresh h
  let kept := h.vit.slots.zipIdx.filter (fun e => !(e.1.wing == w && e.1.st == .clean && (Config.freeNat n).testBit e.2))
  let h := fset h w HBM_PCH_STATE_STATE 1 p
  setSlots h (trimClean h w (kept.map (·.1)))

/-- HBM_PCH_CMD.FENCE (R384). -/
def pchFenceEffect (h : Head) (src : Nat) (w : Wing) : Head :=
  let p := fget h w HBM_PCH_INDEX_INDEX
  if pchState h w p ≠ 0 then h
  else if 2 ≤ pchGone h w then config h (pg .hbm w) ⟨11, src, true, pageAddr (pg .hbm w) + 0x04C⟩
  else pchMove h w p

def pchFence (h : Head) (ini : Initiator) (w : Wing) : Head :=
  withWrite h ini (pg .hbm w) 0x04C (fun h => pchFenceEffect h (sourceCode ini) w)

/-- HBM_CE_FENCE (R384): corrected errors of a pseudo-channel within 1,024 frames. -/
def hbmCe (h : Head) (w : Wing) (p errors : Nat) : Head :=
  if 96 ≤ p then h
  else
    let h := fadd (fadd h w HBM_CNT_CE_COUNT errors) w HBM_PCH_STATE_CORRECTED errors p
    if errors < fget h w HBM_CE_THRESH_COUNT then h
    else
      let h := raise h w Ev.HBM_CE_THRESH
      if pchState h w p ≠ 0 then h
      else if 2 ≤ pchGone h w then raise (faultAt h .hbm w 0) w Ev.HBM_UE
      else pchMove h w p

/-- PCH_MOVE_DONE (R384). -/
def pchMoveDone (h : Head) (w : Wing) (p : Nat) : Head :=
  if p < 96 ∧ pchState h w p = 1 then raise (fset h w HBM_PCH_STATE_STATE 2 p) w Ev.HBM_PCH_FENCED else h

/-- HBM_UE (R383). -/
def hbmUe (h : Head) (w : Wing) (a : Nat) (what : HbmUe) : Head :=
  let h := raise (faultAt (fadd h w HBM_CNT_UE_COUNT) .hbm w a) w Ev.HBM_UE
  match what with
  | .slot nsid granule seq => slotEcc h w nsid granule seq
  | .engine cls tag => readyOps h (fun o => o.cls == cls && o.wing == w && o.tag == tag && isDone o.status) (fun o =>
      { o with status := .mediaFail, bytes := 0, word := 0, extra := 0, place := [] })
  | .core hart => if hartRuns h hart then hartTrap h hart false else h
  | .unread => h

end Sys2Proof.Machine
end

