-- ==== Sys2Proof/Machine/Wire.lean ====
section
/-! DEFINITION. The bytes of the head's own wire formats (R4): Mehror packets (R120 to R122), Annex and plinth-link flits and messages
(R36, R151, R156, R278, R281, R282, R291, R296). Bytes stand in one number in the order of transmission, the first lowest; fields
go out most significant byte first. -/

namespace Sys2Proof.Machine

open Reg

/-- A value of so many bytes, its most significant byte first. -/
def msb (len v : Nat) : Wire := ⟨len, swapBytes v len⟩

/-- Bytes as they stand in memory. -/
def raw (len v : Nat) : Wire := ⟨len, v % 2 ^ (8 * len)⟩

/-- Bytes of 0, for what is reserved. -/
def zeros (len : Nat) : Wire := ⟨len, 0⟩

/-- Bytes one after another. -/
def Wire.cat (a b : Wire) : Wire := ⟨a.len + b.len, a.num + b.num <<< (8 * a.len)⟩

/-- Parts one after another. -/
def wires (l : List Wire) : Wire := l.foldl Wire.cat ⟨0, 0⟩

/-- Bytes filled up with zeros to a length. -/
def Wire.fill (a : Wire) (len : Nat) : Wire := ⟨len, a.num⟩

/-- Fields of some bits each, the most significant field first. -/
def packBits (l : List (Nat × Nat)) : Nat := l.foldl (fun acc f => acc <<< f.1 + f.2 % 2 ^ f.1) 0

/-! ### Mehror -/

/-- The base header (R120). -/
def mehrorHeader (p : MftPacket) : Wire :=
  msb 32 (packBits [(4, p.version), (4, p.opcode), (1, ofBool p.ackReq), (1, ofBool p.first), (1, ofBool p.last), (1, ofBool p.solicited),
    (7, 0), (13, p.paylen), (2, 0), (14, p.srcNode), (2, 0), (14, p.dstNode), (24, p.collId), (8, p.retry), (24, p.dstConn), (8, 0),
    (32, p.psn), (64, p.txc), (32, p.ts)])

/-- The SACK bits in bytes 48 to 79: bit i is bit 7 − (i mod 8) of byte 48 + ⌊i / 8⌋ (R121). -/
def sackBytes (sack : Nat) : Nat :=
  numOf ((List.range 32).map (fun k => ((List.range 8).map (fun i => ofBool (sack.testBit (8 * k + i)) <<< (7 - i))).sum))

/-- The extension header of an opcode (R121). -/
def mehrorExtension (p : MftPacket) : Wire :=
  match p.opcode with
  | 1 => wires [msb 4 p.rkey, zeros 4, msb 8 p.offset]
  | 2 => wires [msb 4 p.rkey, msb 4 p.len, msb 8 p.offset]
  | 4 => wires [msb 4 p.msgId, msb 4 p.msgLen, msb 4 p.offset, msb 4 p.imm]
  | 5 => wires [msb 4 p.rkey, zeros 4, msb 8 p.offset, msb 8 p.addend, zeros 8]
  | 6 => wires [msb 4 p.rkey, zeros 4, msb 8 p.offset, msb 8 p.addend, msb 8 p.swap]
  | 7 => msb 8 p.data
  | 8 => wires [msb 4 p.nextPsn, msb 2 p.rwin, msb 2 p.ceCount, msb 4 p.tsEcho, zeros 4, ⟨32, sackBytes p.sack⟩]
  | 9 => wires [msb 4 p.nextPsn, msb 1 p.code, zeros 3, msb 4 p.tsEcho, zeros 4]
  | _ => zeros 0

/-- The initialisation vector of a packet (R122): 0b00, SRC_NODE, DST_CONN[15:0], TXC. -/
def mehrorIv (p : MftPacket) : Wire := msb 12 (packBits [(2, 0), (14, p.srcNode), (16, p.dstConn), (64, p.txc)])

/-- A packet's datagram (R119, R122): the base header, which is authenticated; the extension header and the payload, enciphered under
the connection's key; the tag. -/
def mehrorBytes (key : Nat) (p : MftPacket) : Wire :=
  let head := mehrorHeader p
  let body := (mehrorExtension p).cat (raw (if p.opcode = 7 then 0 else p.paylen) p.data)
  let iv := (mehrorIv p).num
  let text := Config.gcmCrypt key iv 0 body.len body.num % 2 ^ (8 * body.len)
  let acc := Config.gcmHash key (Config.gcmHash key 0 head.len head.num) body.len text
  wires [head, ⟨body.len, text⟩, ⟨16, Config.gcmTag key iv acc head.len body.len % 2 ^ 128⟩]

/-- What carries a Mehror packet (R119): addresses from the address table, the ports, DSCP, ECN, DF on IPv4, the priority. -/
def mehrorNet (h : Head) (w : Wing) (ctx : Nat) : MftNet :=
  let ip (e : Nat) : Nat := packBits [(32, fget h w MFT_ADDR_IP0_IP e), (32, fget h w MFT_ADDR_IP1_IP e),
    (32, fget h w MFT_ADDR_IP2_IP e), (32, fget h w MFT_ADDR_IP3_IP e)]
  let remote := fget h w MFT_CTX_PATH_REMOTE_ADDR ctx
  let own := packBits [(8, fget h w MFT_CTX_STATE_GEN ctx), (1, wingNum w), (15, ctx)]
  { port := fget h w MFT_CTX_PATH_PORT ctx
    link := fget h w MFT_CTX_PATH_LINK ctx
    mac := fget h w MFT_ADDR_MAC_LO_MAC remote + fget h w MFT_ADDR_MAC_HI_MAC remote <<< 32
    src := ip (fget h w MFT_CTX_PATH_LOCAL_ADDR ctx)
    dst := ip remote
    v4 := ip remote >>> 32 == 0xFFFF
    df := ip remote >>> 32 == 0xFFFF
    dscp := fget h w MFT_CTRL_DSCP
    ecn := 2
    srcPort := Config.portHash own (fget h w MFT_CTX_CONN_REMOTE_CONN ctx) % 2 ^ 16
    dstPort := fget h .east MFT_UDP_PORT
    prio := fget h w FOY_PFC_PRIO_MFT 0 (fget h w MFT_CTX_PATH_PORT ctx) }

/-! ### Flits -/

/-- The fields of a flit's header that its sender chooses (R151), and its body. -/
structure FlitTx where
  ftype : Nat
  vc : Nat
  resent : Bool
  som : Bool
  eom : Bool
  lseq : Nat
  acktype : Nat
  ackseq : Nat
  body : Wire
  deriving DecidableEq, Repr

/-- A flit's 272 bytes (R151): header, body, CRC-32C over both, and the Reed–Solomon parity. -/
def flitBytes (f : FlitTx) : Wire :=
  let head := msb 4 (packBits [(4, f.ftype), (2, f.vc), (1, ofBool f.resent), (1, ofBool f.som), (1, ofBool f.eom), (1, 0), (10, f.lseq),
    (2, f.acktype), (10, f.ackseq)])
  let all := head.cat (f.body.fill 256)
  let all := all.cat (msb 4 (Config.crc32c all.len all.num))
  all.cat ⟨8, Config.flitParity all.num % 2 ^ 64⟩

/-- The body of a TICK flit: the marker's payload, most significant byte first (R36, R151). -/
def tickBody (payload : Nat) : Wire := msb 4 payload

/-- The body of a LINK flit: the credits returned on each channel (R151, R278). -/
def linkBody (ret : List Nat) : Wire := wires (ret.map (msb 2))

/-- The MSG flits of a message (R156): 256 bytes of body each, SOM on the first, EOM on the last, from an LSEQ on. -/
def msgFlits (vc lseq acktype ackseq : Nat) (m : Wire) : List FlitTx :=
  let n := (m.len + 255) / 256
  (List.range n).map (fun i =>
    ⟨1, vc, false, i == 0, i + 1 == n, (lseq + i) % 1024, acktype, ackseq, raw 256 (m.num >>> (2048 * i))⟩)

/-! ### Annex messages -/

/-- A host operation's number among the arguments of Config.nvmeCapsule. -/
def hostOpNum : HostOp → Nat
  | .read => 0
  | .write => 1
  | .writeZeroes => 2
  | .flush => 3
  | .compare => 4
  | .compareWrite => 5
  | .verify => 6
  | .toSoftware => 7
  | .admin => 8
  | .fabrics => 9
  | .unsupported => 10

/-- A message's MTYPE (R156). -/
def anxType : AnxBody → Nat
  | .mirror .. => 1
  | .mirrorAck .. => 2
  | .catUpdate _ => 3
  | .catAck _ => 4
  | .forward .. => 5
  | .forwardResp .. => 6
  | .heartbeat .. => 7
  | .ownership .. => 8
  | .ownershipAck _ => 9
  | .resilver _ => 10

/-- An NVMe status in 16 bits: SC, SCT and DNR where a completion's status field has them. -/
def statusField (st : NvmeStatus) : Nat := st.sc + st.sct <<< 8 + ofBool st.dnr <<< 14

/-- A message's type word (R156). -/
def anxTypeWord : AnxBody → Nat
  | .mirror es _ | .resilver es => es.length
  | .mirrorAck n st => n + statusCode st <<< 8
  | .catUpdate es => es.length
  | .catAck st | .ownershipAck st => statusCode st
  | .forward cap _ => cap.ctx
  | .forwardResp st _ _ => statusField st
  | .heartbeat state .. => state
  | .ownership give _ => ofBool give

/-- A MIRROR entry: the 32-byte label, namespace ID, granule, write sequence, 4 reserved bytes (R156). -/
def mirrorEntryBytes (e : MirrorEntry) : Wire := wires [⟨32, labelNum e.label⟩, msb 4 e.nsid, msb 8 e.granule, msb 8 e.wseq, zeros 4]

/-- A MIRROR's entries, which fill its first flit after the header, and its granules (R156). -/
def mirrorBytes (es : List MirrorEntry) : Wire := ((wires (es.map mirrorEntryBytes)).fill 240).cat (wires (es.map (fun e => raw 4096 e.data)))

/-- A CAT_UPDATE entry (R156). -/
def catEntryBytes (e : CatEntry) : Wire := wires [msb 4 e.nsid, msb 4 e.flags, msb 8 e.granule, msb 8 e.wseq, msb 8 e.newLoc, msb 8 e.oldLoc]

/-- What follows a message's header (R156). The capsule and the completion are NVMe's own formats; the order of a heartbeat's fields in
their 32 bytes the spec does not give. -/
def anxBodyBytes : AnxBody → Wire
  | .mirror es _ | .resilver es => mirrorBytes es
  | .catUpdate es => wires (es.map catEntryBytes)
  | .forward cap data => wires (raw 64 (Config.nvmeCapsule [hostOpNum cap.op, cap.cid, cap.nsid, cap.slba, cap.count]) :: data.map (raw 4096))
  | .forwardResp st ws data => wires (raw 16 (Config.nvmeCompletion (statusField st)) :: ws.map (msb 8) ++ data.map (raw 4096))
  | .heartbeat state node prefer epoch own peer wire =>
    raw 32 (Config.heartbeatBytes [state, node, ofBool prefer, epoch, own, peer, wire])
  | .ownership _ ns => wires (ns.map (msb 4))
  | .mirrorAck .. | .catAck _ | .ownershipAck _ => zeros 0

/-- An Annex message (R156): the 16-byte header and the body. -/
def anxBytes (mtag coll : Nat) (b : AnxBody) : Wire :=
  wires [msb 1 (anxType b), zeros 1, msb 2 (coll % 4096), msb 4 mtag, msb 4 (anxLength b), msb 4 (anxTypeWord b), anxBodyBytes b]

/-! ### Plinth-link messages -/

/-- The 8-byte header, record and data bytes of a plinth-link message (R281). -/
def plkMessage (mtype : Nat) (record : Wire) (dlen data : Nat) : Wire := wires [msb 1 mtype, zeros 3, msb 4 dlen, record, raw dlen data]

/-- A command or completion's TAG: MGMT, GEN, SLOT (R282). -/
def plkTag (mgmt : Bool) (gen slot : Nat) : Nat := packBits [(1, ofBool mgmt), (8, gen), (7, slot)]

/-- A command record (R282). Bytes 16 to 19 hold EPOCH in a witness command and ADDR in a register command. -/
def plkRecord (c : PlkCmd) : Wire :=
  (wires [msb 1 c.opcode, msb 1 (ofBool c.labels + 2 * ofBool c.slc), msb 2 (plkTag c.mgmt c.gen c.slot), msb 2 c.frame,
    msb 1 (c.start % 32), msb 1 (packBits [(1, 0), (4, c.channel), (3, c.die)]), msb 4 (c.block % 2 ^ 20), msb 2 (c.row % 4096),
    msb 1 (c.first % 128), msb 1 c.sheets, (if c.opcode = 0x0C ∨ c.opcode = 0x0D then msb 4 c.addr else (msb 2 c.epoch).fill 4),
    msb 4 c.arg]).fill 64

/-- A COMMAND message (R281, R282). -/
def plkCmdBytes (c : PlkCmd) : Wire := plkMessage 1 (plkRecord c) c.dlen c.data

/-- A COMPLETION message (R281, R291). -/
def plkDoneBytes (d : PlkDone) : Wire :=
  plkMessage 2 (wires [msb 2 (plkTag d.mgmt d.gen d.slot), msb 1 (statusCode d.status),
    msb 1 (ofBool d.suspended + 2 * ofBool d.labelsSent + 4 * ofBool d.wide), msb 2 d.corrected, msb 2 d.maxCw, msb 1 d.suspends,
    msb 1 d.retries, msb 2 d.startFrame, msb 1 (d.startSlot % 32), zeros 3, msb 4 d.busy, zeros 4, msb 8 d.word]) d.dlen d.data

/-- An ALERT message (R281, R296). -/
def plkAlertBytes (code detail : Nat) : Wire := plkMessage 3 ((wires [msb 1 code, zeros 1, msb 2 detail]).fill 32) 0 0

/-! ### Replication messages -/

/-- Bits in bytes: bit i is bit 7 − (i mod 8) of byte ⌊i / 8⌋ (R343). -/
def bitmapBytes (len : Nat) (l : List Bool) : Wire :=
  ⟨len, numOf ((List.range len).map (fun k => ((List.range 8).map (fun i => ofBool (l.getD (8 * k + i) false) <<< (7 - i))).sum))⟩

/-- The entries that follow a replication message's header (R342, R343); a reply is given none. -/
def rplCount : RplBody → Nat
  | .syncWrite es => es.length
  | .offer _ es => es.length
  | .case _ es _ _ => es.length
  | .unmap runs => runs.length
  | .begin _ _ | .commit _ _ _ | .reply _ => 0

/-- The bytes of a case image, in whole sheets (R230). -/
def imageLen (image : Nat) : Nat := 512 * ((64 + image >>> 64 % 2 ^ 32 + 511) / 512)

/-- What follows a replication message's header (R343). -/
def rplBodyBytes : RplBody → Wire
  | .syncWrite es => wires (es.map (fun e => wires [msb 8 e.1, msb 8 e.2.1]) ++ es.map (fun e => raw 4096 e.2.2))
  | .begin edition base => wires [msb 4 edition, msb 4 base]
  | .offer edition es => wires (msb 4 edition :: zeros 4 :: es.map (fun e => wires [msb 8 e.1, raw 32 e.2]))
  | .case edition es isRaw image =>
    wires (msb 4 edition :: zeros 4 :: es.map (fun e => wires [msb 8 e.1, msb 8 e.2.1, raw 32 e.2.2]) ++
      [raw (if isRaw then 4096 else imageLen image) image])
  | .unmap runs => wires (runs.map (fun r => wires [msb 8 r.1, msb 4 r.2.1, msb 4 r.2.2]))
  | .commit edition base changed => wires [msb 4 edition, msb 4 base, msb 8 changed]
  | .reply l => if l = [] then zeros 0 else bitmapBytes 8 l

/-- A replication message (R342): the 16-byte header and the body. -/
def rplMessage (rtype status nsid rtag : Nat) (b : RplBody) : Wire :=
  wires [msb 1 rtype, msb 1 status, msb 2 (rplCount b), msb 4 nsid, msb 8 rtag, rplBodyBytes b]

/-! ### The bytes of what the head sends -/

/-- The bytes of a message on the head's own wire formats, before they are cut into flits (R4); none for any other. -/
def Msg.wire : Msg → Option Wire
  | .annex _ mtag coll b => some (anxBytes mtag coll b)
  | .mehror _ _ _ _ b => some b
  | .plk _ c => some (plkCmdBytes c)
  | .bridgeDone _ _ d => some (plkDoneBytes d)
  | .bridgeAlert _ _ code detail => some (plkAlertBytes code detail)
  | .tickMarker _ _ payload => some (tickBody payload)
  | .credit _ _ _ _ ret => some (linkBody ret)
  | .rpl _ _ rtype status nsid rtag b => some (rplMessage rtype status nsid rtag b)
  | _ => none

end Sys2Proof.Machine
end

