-- ==== Sys2Proof/Machine/Docent.lean ====
section
/-! DEFINITION. Docent (spec/14_docent_and_trust.md): release, measurement registers, SPDM, the key store, the binding table, requests,
agreement, alarms and debug. -/

namespace Sys2Proof.Machine

open Reg

/-- A configuration event of a Docent page (R59). -/
def docConfig (h : Head) (b : Block) (src code off : Nat) : Head :=
  config h (pg b .east) ⟨code, src, true, pageAddr (pg b .east) + off⟩

/-! ### Release (R399, R473) -/

/-- The mode of the head (R472): 0 Standby, 1 Serving, 2 Dump. -/
def chipMode (h : Head) : Nat := fget h .east PWR_MODE_MODE

def released (h : Head) (w : Wing) : Bool := if w = .east then h.doc.releasedE else h.doc.releasedW

/-- The ACTIVE cores of a wing start (R366, R399); the first release takes STAGE to RELEASED (R398 step 9). -/
def releaseNow (h : Head) (w : Wing) : Head :=
  let h := { h with doc := if w = .east then { h.doc with heldE := false } else { h.doc with heldW := false } }
  let start := pget h w CPU_START_LO_ADDR CPU_START_HI_ADDR * 4
  let h := foldHead h (List.range 26) (fun h c => if coreState h w c = 0 then send h (.hartStart (hartOf w c) start) else h)
  if fget h .east DOC_STATUS_STAGE = 1 then raise (fset h .east DOC_STATUS_STAGE 2) .east Ev.DOC_RELEASED else h

/-- DOC_CTRL.RELEASE_E and RELEASE_W: once for each wing; held while the head is in Standby. -/
def releaseEffect (h : Head) (src : Nat) (w : Wing) : Head :=
  if released h w then docConfig h .doc src 11 0x040
  else
    let h := { h with doc := if w = .east then { h.doc with releasedE := true } else { h.doc with releasedW := true } }
    if chipMode h = 0 then
      { h with doc := if w = .east then { h.doc with heldE := true } else { h.doc with heldW := true } }
    else releaseNow h w

def releaseCmd (h : Head) (ini : Initiator) (w : Wing) : Head :=
  withWrite h ini (pg .doc .east) 0x040 (fun h => releaseEffect h (sourceCode ini) w)

/-! ### Measurement registers (R400 to R402) -/

/-- MSR_CTRL.EXTEND: registers 6 and 7 are never extended (R401). -/
def msrExtendEffect (h : Head) (src : Nat) : Head :=
  let r := fget h .east MSR_INDEX_REG
  if r = 6 ∨ r = 7 then docConfig h .msr src 11 0x044 else msrExtend h r h.doc.msrInput

def msrExtendCmd (h : Head) (ini : Initiator) : Head :=
  withWrite h ini (pg .msr .east) 0x044 (fun h => msrExtendEffect h (sourceCode ini))

/-- A write of MSR_ARMED: bits of registers 10 to 23 (R401, R402). -/
def msrArmEffect (h : Head) (mask : Nat) : Head :=
  fset h .east MSR_ARMED_ARMED (fget h .east MSR_ARMED_ARMED ||| mask >>> 10 % 2 ^ 14)

def msrArm (h : Head) (ini : Initiator) (mask : Nat) : Head := withWrite h ini (pg .msr .east) 0x0A8 (fun h => msrArmEffect h mask)

/-- All 32 registers' bytes as one number. -/
def msrAll (h : Head) : Nat := ((List.range 32).map (fun r => msrValue h r <<< (384 * r))).sum

/-! ### SPDM (R408) -/

/-- Docent answers an SPDM request from STAGE FIRMWARE on; in RECOVERY only GET_VERSION (R398 step 3). -/
def spdmAnswer (h : Head) (request : Nat) (fields : List Nat) : Head :=
  if firmwareRuns h || (request == 0 && fget h .east DOC_STATUS_STAGE == 3) then send h (.spdm request fields) else h

/-- A measurement block: registers 0 to 31, then the digest of the newest Provenance record. -/
def measurement (h : Head) (index : Nat) : Option Nat :=
  if 1 ≤ index ∧ index ≤ 32 then some (msrValue h (index - 1)) else if index = 33 then some h.doc.prevProv else none

/-- The version, 1.3. -/
def spdmVersion (h : Head) : Head := spdmAnswer h 0 [0x13]
/-- CTExponent; CERT_CAP, CHAL_CAP, MEAS_CAP with signature. -/
def spdmCapabilities (h : Head) : Head := spdmAnswer h 1 [15, 1, 1, 2]
/-- ECDSA on NIST P-384, SHA-384, measurement hash SHA-384. -/
def spdmAlgorithms (h : Head) : Head := spdmAnswer h 2 [384, 384, 384]
/-- SHA-384 of the certificate chain in slot 0 (R407). -/
def spdmDigests (h : Head) : Head := spdmAnswer h 3 [sha384 4096 (Config.certChain h.doc.attest)]
/-- Bytes of the certificate chain, at most a message of 4,096. -/
def spdmCertificate (h : Head) (off len : Nat) : Head :=
  spdmAnswer h 4 [Config.certChain h.doc.attest >>> (8 * off) % 2 ^ (8 * min len 4096)]
/-- A signature under the attestation key over the challenge. -/
def spdmChallenge (h : Head) (nonce : Nat) : Head :=
  let (k, h) := fresh h
  let own := Config.random k % 2 ^ 256
  spdmAnswer h 5 [own, Config.ecdsaSign h.doc.attest (sha384 64 (nonce % 2 ^ 256 + own <<< 256))]
/-- Signed measurement blocks: one, or all (0xFF). -/
def spdmMeasurements (h : Head) (index nonce : Nat) : Head :=
  let blocks := if index = 0xFF then (List.range 33).filterMap (fun i => measurement h (i + 1)) else (measurement h index).toList
  let body := (blocks.zipIdx.map (fun b => b.1 <<< (384 * b.2))).sum
  spdmAnswer h 6 (blocks ++ [Config.ecdsaSign h.doc.attest (sha384 (32 + 48 * blocks.length) (nonce % 2 ^ 256 + body <<< 256))])

/-! ### The key store (R409 to R413) -/

/-- The slot KEY_SLOT_INDEX names, if it names one (R424). -/
def keyIndex? (h : Head) : Option Nat :=
  let s := fget h .east KEY_SLOT_INDEX_SLOT
  if fbit h .east KEY_SLOT_INDEX_PRIVATE then (if s < 64 then some (8192 + s) else none) else some s

/-- The bytes of a key of a kind. -/
def keyBytes : Nat → Nat
  | 1 => 64
  | 4 => 48
  | _ => 32

def keyResult (h : Head) (st : Status) : Head := fset h .east KEY_STATUS_RESULT (statusCode st)

/-- A slot's STATE moved, and ACTIVE counted. -/
def setKeyState (h : Head) (id st : Nat) : Head :=
  let was := keyState h id
  if was = st then h
  else
    let n := fget h .east KEY_STATUS_ACTIVE
    let h := fset h .east KEY_STATUS_ACTIVE (if st = 2 then n + 1 else if was = 2 then n - 1 else n)
    raise (fset h .east KEY_SLOT_ATTR_STATE st id) .east Ev.KEY_SLOT_CHANGED

/-- A valid binding names the data slot. -/
def boundSlot (h : Head) (id : Nat) : Bool := h.bindings.any (fun e => e.2.fpSlot == id || e.2.mediaSlot == id)

/-- DGE_FP_STATES brought up to date: the states held on each wing are those of the collections at home there (R227). -/
def syncFpStates (h : Head) : Head :=
  foldHead h wings (fun h w => fset h w DGE_FP_STATES_HELD (h.eng.fpStates.filter (fun c => collHome h c == w)).length)

/-- A collection's fingerprint states computed from its slot, or cleared (R227). -/
def setFpState (h : Head) (coll : Nat) (on : Bool) : Head :=
  let l := h.eng.fpStates.filter (fun c => c != coll)
  syncFpStates { h with eng := { h.eng with fpStates := if on then l ++ [coll] else l } }

/-- A key put into an EMPTY slot: its generation rises, a GCM slot draws its salt and restarts its counter (R240). -/
def fillSlot (h : Head) (id v : Nat) : Head :=
  let n := keyBytes (keyKind h id)
  let (k, h) := fresh h
  let salt := if keyKind h id = 2 then Config.random k % 2 ^ 32 else 0
  let h := { h with keys := tabStore h.keys 0 id (v % 2 ^ (8 * n) + salt <<< (8 * n)) }
  let h := { h with eng := { h.eng with gcmCount := tabDel h.eng.gcmCount id } }
  setKeyState (fset h .east KEY_SLOT_GEN_GEN ((keyGen h id + 1) % 65536) id) id 1

/-- LOAD, GENERATE and UNWRAP take an EMPTY slot with a kind. -/
def takesKey (h : Head) (id : Nat) : Bool := keyState h id == 0 && keyKind h id != 0

/-- The private WRAP slot that KEY_WRAP names, if it is ACTIVE and of its kind. -/
def wrapSlot? (h : Head) : Option Nat :=
  let id := 8192 + fget h .east KEY_WRAP_SLOT
  if keyState h id = 2 ∧ keyKind h id = 5 then some id else none

def keySrc (h : Head) : Nat := fget h .east KEY_SRC_OFFSET / 8 * 8

/-- LOAD: the bytes at KEY_SRC, zeroed in the same command. -/
def loadSlot (h : Head) (id : Nat) : Status × Head :=
  let n := keyBytes (keyKind h id)
  if !takesKey h id || decide (2 ^ 19 < keySrc h + n) then (.protocol, h)
  else
    let v := memNum h.sram (keySrc h) n
    (.done, fillSlot { h with sram := memPut h.sram (keySrc h) n 0 } id v)

/-- GENERATE: the DRBG's bytes. -/
def generateSlot (h : Head) (id : Nat) : Status × Head :=
  if !takesKey h id then (.protocol, h)
  else
    let (k, h) := fresh h
    (.done, fillSlot h id (Config.random k))

/-- UNWRAP: an RFC 3394 blob at KEY_SRC. -/
def unwrapSlot (h : Head) (id : Nat) : Status × Head :=
  let n := keyBytes (keyKind h id) + 8
  if !takesKey h id || decide (2 ^ 19 < keySrc h + n) then (.protocol, h)
  else match wrapSlot? h with
    | none => (.keyInvalid, h)
    | some w => match Config.keyUnwrap (keyValue h w) n (memNum h.sram (keySrc h) n) with
      | some v => (.done, fillSlot h id v)
      | none => (.checkFail, h)

/-- ACTIVATE, with the fingerprint states of the bindings that name the slot (R413). -/
def activateSlot (h : Head) (id : Nat) : Status × Head :=
  if keyState h id ≠ 1 then (.protocol, h)
  else
    let h := setKeyState h id 2
    (.done, foldHead h (h.bindings.filter (fun e => e.2.fpSlot == id)) (fun h e => setFpState h e.1 true))

/-- A slot's key cached nowhere any longer (R412). -/
def forgetKey (h : Head) (id : Nat) : Head :=
  let h := dropKey h id
  { h with eng := { h.eng with chains := h.eng.chains.filter (fun c => c.key != some id) } }

/-- REVOKE. -/
def revokeSlot (h : Head) (id : Nat) : Status × Head :=
  if keyState h id ≠ 2 then (.protocol, h)
  else if boundSlot h id then (.limit, h)
  else (.done, setKeyState (forgetKey h id) id 3)

/-- ZEROISE. -/
def zeroiseSlot (h : Head) (id : Nat) : Status × Head :=
  if boundSlot h id || (decide (8192 ≤ id) && decide (id ≤ 8196)) then (.limit, h)
  else if keyState h id = 0 then (.done, h)
  else (.done, setKeyState { forgetKey h id with keys := tabDel h.keys id } id 0)

/-- EXPORT: the key wrapped to KEY_SRC. -/
def exportSlot (h : Head) (id : Nat) : Status × Head :=
  let n := keyBytes (keyKind h id)
  if keyState h id ≠ 2 ∨ 2 ^ 19 < keySrc h + n + 8 then (.protocol, h)
  else match wrapSlot? h with
    | none => (.keyInvalid, h)
    | some w => (.done, { h with
        sram := memPut h.sram (keySrc h) (n + 8) (Config.keyWrap (keyValue h w) n (keyValue h id % 2 ^ (8 * n))) })

/-- A command on a slot. -/
def slotCommand (h : Head) (cmd id : Nat) : Status × Head :=
  match cmd with
  | 1 => loadSlot h id
  | 2 => generateSlot h id
  | 3 => unwrapSlot h id
  | 4 => activateSlot h id
  | 5 => revokeSlot h id
  | 6 => zeroiseSlot h id
  | _ => exportSlot h id

/-- The key image written to the Archive: the ACTIVE data slots, private slots 0, 1 and 5 and the dump key's, and the binding table
(R410, R417, R502). -/
def writeImage (h : Head) : Head :=
  let keep (id : Nat) : Bool := keyState h id == 2 && (decide (id < 8192) || [8192, 8193, 8197, dumpKey h].contains id)
  { h with doc := { h.doc with
    imageGen := h.doc.imageGen + 1
    image := (h.keys.filter (fun e => keep e.1)).map (fun e => ⟨e.1, (rd h (pg .key .east) 0x048 e.1).toNat % 2 ^ 30, e.2⟩)
    imageBinds := h.bindings } }

/-- KEY_CMD (R411, R424): LOAD, GENERATE and UNWRAP are counted. -/
def keyCmdEffect (h : Head) (src cmd : Nat) : Head :=
  if cmd = 0 then docConfig h .key src 4 0x058
  else
    let h := if cmd ≤ 3 then fadd h .east KEY_CNT_LOAD_COUNT else h
    match keyIndex? h with
    | none => keyResult h .protocol
    | some id =>
      let (st, h) := slotCommand h cmd id
      keyResult (if cmd = 4 ∧ st = .done ∧ id = dumpKey h then writeImage h else h) st

def keyCmd (h : Head) (ini : Initiator) (cmd : Nat) : Head :=
  withWrite h ini (pg .key .east) 0x058 (fun h => keyCmdEffect h (sourceCode ini) cmd)

/-! ### The binding table (R414) -/

/-- The 16-byte entry that register 24 takes: its ID word, its slot word, the index. -/
def bindEntry (i : Nat) (b : Binding) : Nat :=
  (1 <<< 31 + b.collId % 2 ^ 24) +
    (ofBool b.fpShared <<< 31 + wingNum b.home <<< 30 + (b.fpSlot % 8192) <<< 16 + b.mediaSlot % 8192) <<< 32 + (i % 4096) <<< 64

/-- A slot that a binding of an index may name: ACTIVE, of the kind and usage, the index's own. -/
def bindable (h : Head) (i id kind usage : Nat) : Bool :=
  keyState h id == 2 && keyKind h id == kind && keyUsage h id == usage && keyColl h id == i && !fbit h .east KEY_SLOT_ATTR_SYSTEM id

/-- KEY_BIND_ID and KEY_BIND_SLOTS of an index, RGS_COLL_SLOT and the replication map's FP_SHARED show the entry in force. -/
def syncBinding (h : Head) (i : Nat) : Head :=
  match tabGet? h.bindings i with
  | none =>
    let h := fset (fset h .east RGS_COLL_SLOT_BOUND 0 i) .east RGS_COLL_SLOT_FP_SLOT 0 i
    fset (fset h .east KEY_BIND_ID_VALID 0 i) .east RPL_MAP_MODE_FP_SHARED 0 i
  | some b =>
    let h := fset (fset h .east RGS_COLL_SLOT_BOUND 1 i) .east RGS_COLL_SLOT_FP_SLOT b.fpSlot i
    let h := fset (fset h .east KEY_BIND_ID_VALID 1 i) .east KEY_BIND_ID_COLL_ID b.collId i
    let h := fset (fset h .east KEY_BIND_SLOTS_FP_SHARED (ofBool b.fpShared) i) .east KEY_BIND_SLOTS_HOME_WING (wingNum b.home) i
    let h := fset (fset h .east KEY_BIND_SLOTS_FP_SLOT b.fpSlot i) .east KEY_BIND_SLOTS_MEDIA_SLOT b.mediaSlot i
    fset h .east RPL_MAP_MODE_FP_SHARED (ofBool b.fpShared) i

/-- A commit of an entry: refused with LIMIT, or applied in one cycle. -/
def commitBinding (h : Head) (i : Nat) (b : Binding) : Status × Head :=
  let clash := match tabGet? h.bindings i with
    | some o => o.collId != b.collId || o.fpSlot != b.fpSlot || o.mediaSlot != b.mediaSlot
    | none => false
  if !bindable h i b.mediaSlot 1 0 || !bindable h i b.fpSlot 4 1 || clash then (.limit, h)
  else
    let h := syncBinding { h with bindings := tabPut h.bindings i b } i
    let h := msrExtend (setFpState h i true) 24 (sha384 16 (bindEntry i b))
    (.done, raise h .east Ev.KEY_BIND_CHANGED)

/-- UNBIND. -/
def unbind (h : Head) (i : Nat) : Status × Head :=
  if h.cat.nss.any (fun e => e.2.coll == i) then (.limit, h)
  else if !tabHas h.bindings i then (.done, h)
  else
    let h := setFpState h i false
    (.done, raise (syncBinding (syncFpStates { h with bindings := tabDel h.bindings i }) i) .east Ev.KEY_BIND_CHANGED)

/-- The staged entry. -/
def staged (h : Head) : Binding where
  collId := bitsOf h.doc.stageId 23 0
  fpShared := h.doc.stageSlots.getLsbD 31
  home := if h.doc.stageSlots.getLsbD 30 then .west else .east
  fpSlot := bitsOf h.doc.stageSlots 28 16
  mediaSlot := bitsOf h.doc.stageSlots 12 0

/-- KEY_BIND_CMD: 1 COMMIT, 2 UNBIND. -/
def bindCmdEffect (h : Head) (src cmd : Nat) : Head :=
  let i := fget h .east KEY_BIND_INDEX_INDEX
  if cmd = 1 then
    let (st, h) := commitBinding h i (staged h)
    keyResult h st
  else if cmd = 2 then
    let (st, h) := unbind h i
    keyResult h st
  else docConfig h .key src 4 0x06C

def bindCmd (h : Head) (ini : Initiator) (cmd : Nat) : Head :=
  withWrite h ini (pg .key .east) 0x06C (fun h => bindCmdEffect h (sourceCode ini) cmd)

/-! ### Requests (R415 to R417) -/

/-- A reply that carries nothing but its status. -/
def noReply : Wire := ⟨0, 0⟩

/-- An entry of the request area (R415). -/
def reqEntry (h : Head) (entry : Nat) : Nat := pget h .east DOC_REQ_BASE_LO_ADDR DOC_REQ_BASE_HI_ADDR * 2 ^ 20 + 4096 * (entry % 64)

/-- Docent's reply: what it carries, after the header of the request's entry, and STATUS last. -/
def docReply (h : Head) (entry code : Nat) (st : Status) (data : Wire) : Head :=
  let a := reqEntry h entry
  let h := if data.len = 0 then h else memWrite h (a + 16) data.len data.num
  send (memWrite h (a + 1) 1 (statusCode st)) (.docentReply (entry % 64) code st data)

/-- A request that Docent firmware acts on. -/
def docRequest (h : Head) (entry code : Nat) (f : Head → Status × Wire × Head) : Head :=
  if !firmwareRuns h then h
  else
    let (st, data, h) := f h
    docReply h entry code st data

/-- A signed request (R416): PROTOCOL for another head's UID or an old counter, CHECK_FAIL where the signature does not verify. -/
def signedRequest (h : Head) (r : SignedReq) (code : Nat) (f : Head → Status × Head) : Head :=
  docRequest h r.entry code (fun h =>
    if r.uid ≠ pget h .east CHP_UID_LO_UID CHP_UID_HI_UID ∨ r.counter ≤ h.doc.counter then (.protocol, noReply, h)
    else if !r.sigOk then (.checkFail, noReply, h)
    else
      let (st, h) := f { h with doc := { h.doc with counter := r.counter % 2 ^ 32 } }
      (st, noReply, h))

/-- The image written where a request was carried out. -/
def withImage (p : Status × Head) (f : Head → Head) : Status × Head := if p.1 = .done then (.done, writeImage (f p.2)) else p

/-- A slot's attributes written while it is EMPTY. -/
def setAttr (h : Head) (id kind usage : Nat) (system : Bool) (coll : Nat) : Head :=
  let h := fset (fset h .east KEY_SLOT_ATTR_KIND kind id) .east KEY_SLOT_ATTR_USAGE usage id
  fset (fset h .east KEY_SLOT_ATTR_SYSTEM (ofBool system) id) .east KEY_SLOT_ATTR_COLL coll id

/-- A key put into an EMPTY slot with its attributes, and made ACTIVE: a LOAD and an ACTIVATE of Docent firmware's. -/
def placeKey (h : Head) (id kind usage : Nat) (system : Bool) (coll v : Nat) : Status × Head :=
  if keyState h id ≠ 0 ∨ kind = 0 ∨ h.doc.noKeys then (.protocol, h)
  else activateSlot (fillSlot (fadd (setAttr h id kind usage system coll) .east KEY_CNT_LOAD_COUNT) id v) id

/-- The kinds and usages of a data slot (R409). -/
def dataUsage (kind usage : Nat) : Bool :=
  match kind with
  | 1 => decide (usage ≤ 1)
  | 2 | 4 => decide (usage ≤ 2)
  | 3 => usage == 0
  | _ => false

/-- IMPORT_KEY: a key wrapped under the key manager's, into a named data slot. -/
def importKey (h : Head) (r : SignedReq) (slot kind usage : Nat) (system : Bool) (coll blob : Nat) : Head :=
  signedRequest h r 1 (fun h => withImage (
    if 8192 ≤ slot ∨ 4096 ≤ coll ∨ dataUsage kind usage = false ∨ keyState h slot ≠ 0 then (.protocol, h)
    else match h.doc.importKey with
      | none => (.keyInvalid, h)
      | some k => match Config.keyUnwrap k (keyBytes kind + 8) blob with
        | none => (.checkFail, h)
        | some v => placeKey h slot kind usage system coll v)
    (fun h => msrExtend h 25 r.digest))

/-- BIND, with the peers permitted for Mehror agreement. -/
def reqBind (h : Head) (r : SignedReq) (i : Nat) (b : Word × Word) (uids : List Nat) : Head :=
  signedRequest h r 2 (fun h => withImage (
    if 16 < uids.length ∨ 4096 ≤ i then (.protocol, h)
    else
      let h := { h with doc := { h.doc with stageId := b.1, stageSlots := b.2 } }
      commitBinding h i (staged h))
    (fun h => { h with doc := { h.doc with peers := tabPut h.doc.peers i uids } }))

/-- UNBIND. -/
def reqUnbind (h : Head) (r : SignedReq) (i : Nat) : Head :=
  signedRequest h r 3 (fun h => withImage (if 4096 ≤ i then (.protocol, h) else unbind h i)
    (fun h => { h with doc := { h.doc with peers := tabDel h.doc.peers i } }))

/-- ZEROISE. -/
def reqZeroise (h : Head) (r : SignedReq) (slot : Nat) : Head :=
  signedRequest h r 4 (fun h => withImage (if 8192 ≤ slot then (.protocol, h) else zeroiseSlot h slot) (fun h => msrExtend h 25 r.digest))

/-- ARM_MEASURE (R402): registers 10 to 23. -/
def reqArm (h : Head) (entry mask : Nat) : Head :=
  docRequest h entry 5 (fun h =>
    if mask % 2 ^ 10 ≠ 0 ∨ 2 ^ 24 ≤ mask then (.protocol, noReply, h) else (.done, noReply, msrArmEffect h mask))

/-- QUOTE: a signature, r and s, over the caller's nonce and the registers. -/
def reqQuote (h : Head) (entry nonce : Nat) : Head :=
  docRequest h entry 6 (fun h =>
    (.done, raw 96 (Config.ecdsaSign h.doc.attest (sha384 (32 + 48 * 32) (nonce % 2 ^ 256 + msrAll h <<< 256))), h))

/-- CLEAR_RECORDER (R447). -/
def reqClear (h : Head) (r : SignedReq) : Head :=
  signedRequest h r 8 (fun h => (.done, msrExtend (prvClearEffect h) 31 r.digest))

/-- The lifecycle state as both CHP pages show it (R81, R420): DEBUG_OPEN in TEST, DEBUG_SESSION and RETURNED. -/
def setLifecycle (h : Head) (n : Nat) : Head :=
  foldHead h wings (fun h w =>
    fset (fset h w CHP_LIFECYCLE_STATE n) w CHP_LIFECYCLE_DEBUG_OPEN (ofBool (n == 0 || n == 3 || n == 4)))

/-- LIFECYCLE (R420): enrolment from PROVISION to SECURE, with the custodian's digest; RETURNED from any state. -/
def reqLifecycle (h : Head) (r : SignedReq) (target custodian : Nat) : Head :=
  signedRequest h r 9 (fun h =>
    if target = 2 ∧ lifecycle h = 1 then
      let h := setLifecycle { h with doc := { h.doc with fused := 2, custodians := [custodian] } } 2
      (.done, msrExtend h 31 r.digest)
    else if target = 4 ∧ lifecycle h ≠ 4 then
      (.done, msrExtend (setLifecycle { h with doc := { h.doc with fused := 4 } } 4) 31 r.digest)
    else (.protocol, h))

/-- CUSTODIAN: the next of 7 spare fuse rows. -/
def reqCustodian (h : Head) (r : SignedReq) (digest : Nat) : Head :=
  signedRequest h r 10 (fun h =>
    if 8 ≤ h.doc.custodians.length then (.limit, h)
    else (.done, msrExtend { h with doc := { h.doc with custodians := h.doc.custodians ++ [digest] } } 31 r.digest))

/-- FEDERATION. -/
def reqFederation (h : Head) (r : SignedReq) (uids : List Nat) : Head :=
  signedRequest h r 11 (fun h => (.done, { h with doc := { h.doc with federation := uids } }))

/-- DOC_RING_SEL.SYSTEM (R370, R423): refused while the ring's ENABLE is 1. -/
def ringSystem (h : Head) (src : Nat) (w : Wing) (n : Nat) (on : Bool) : Head :=
  if fbit h w CPU_RING_CFG_ENABLE n then docConfig h .doc src 11 0x04C else fset h w CPU_RING_CFG_SYSTEM (ofBool on) n

/-- CONFIGURE: mirrors and system rings, by 1,024 × wing + ring, within the firmware's policy. -/
def reqConfigure (h : Head) (entry mirrors : Nat) (rings : List Nat) : Head :=
  docRequest h entry 12 (fun h =>
    if !Config.configureAllowed mirrors rings || rings.any (fun n => fbit h (wingOf (n / 1024)) CPU_RING_CFG_ENABLE (n % 1024)) then
      (.protocol, noReply, h)
    else
      let h := fset h .east DOC_MIRROR_PAGES mirrors
      (.done, noReply, foldHead h rings (fun h n => ringSystem h 0xFE (wingOf (n / 1024)) (n % 1024) true)))

/-! ### Agreement between Docents (R418) -/

/-- A purpose as a number, for what is derived and measured from it. -/
def purposeNum : AgreePurpose → Nat
  | .collection c => 1 + (c % 4096) <<< 8
  | .system => 2
  | .pair => 3
  | .keyManager => 4

/-- The peer is permitted for the purpose. -/
def peerPermitted (h : Head) (m : AgreeMsg) : Bool :=
  match m.purpose with
  | .collection c => (tabGet h.doc.peers [] c).contains m.uid
  | .system => h.doc.federation.contains m.uid
  | .pair => m.node == fget h .east ANX_PAIR_PEER_NODE
  | .keyManager => true

/-- The key both sides derive (R418): the first 32 bytes of HKDF-SHA-384 of the shared secret, with both nonces as the salt and the
purpose, both UIDs and the connection IDs as the info. The side with the lower UID comes first. -/
def agreedKey (own : Nat) (a : Agree) (m : AgreeMsg) : Nat :=
  let mine := own % 2 ^ 64
  let theirs := m.uid % 2 ^ 64
  let pair (x y n : Nat) : Nat := if mine ≤ theirs then x + y <<< n else y + x <<< n
  let salt := pair (a.nonce % 2 ^ 128) (m.nonce % 2 ^ 128) 128
  let info := purposeNum m.purpose % 2 ^ 32 + pair mine theirs 64 <<< 32 + (m.ids % 2 ^ 96) <<< 160
  let prk := Config.hmac384 salt 48 (Config.ecdh a.eph m.pub) % 2 ^ 384
  Config.hmac384 prk 33 (info + 1 <<< 256) % 2 ^ 256

/-- A private slot filled by Docent firmware. -/
def placePrivate (h : Head) (n kind v : Nat) : Status × Head :=
  let id := 8192 + n
  let h := if keyState h id = 0 then h else (zeroiseSlot h id).2
  placeKey h id kind 0 true 0 v

/-- This head holds the pair's seal and label keys (R410). -/
def pairKeysHeld (h : Head) : Bool := keyState h 8192 == 2 && keyState h 8193 == 2

/-- The preferred head's seal and label keys, generated at an agreement where neither head holds them (R418, R520). -/
def pairKeysMade (h : Head) (peerHeld : Bool) : Head :=
  if !fbit h .east ANX_PAIR_PREFER || peerHeld then h
  else foldHead h [(0, 3), (1, 1)] (fun h e =>
    if keyState h (8192 + e.1) ≠ 0 then h
    else
      let (k, h) := fresh h
      (placePrivate h e.1 e.2 (Config.random k)).2)

/-- The agreed key placed: as a Mehror key of the collection or the system, as private slot 5, or as the import key. -/
def placeAgreed (h : Head) (m : AgreeMsg) (slot key : Nat) : Status × Head :=
  match m.purpose with
  | .collection c => if 8192 ≤ slot then (.protocol, h) else placeKey h slot 2 2 false c key
  | .system => if 8192 ≤ slot then (.protocol, h) else placeKey h slot 2 2 true 0 key
  | .pair =>
    let p := placePrivate h 5 5 key
    if p.1 = .done then (.done, pairKeysMade p.2 m.held) else p
  | .keyManager => (.done, { h with doc := { h.doc with importKey := some key } })

/-- What the head that holds the pair's keys sends to a peer that does not, after their agreement (R418, R520): the seal and label keys,
wrapped under slot 5. -/
def pairKeysSent (h : Head) : Wire :=
  let w := keyValue h 8197
  wires [raw 40 (Config.keyWrap w 32 (keyValue h 8192)), raw 72 (Config.keyWrap w 64 (keyValue h 8193))]

/-- The most bytes of the certificate chain that an agreement message carries within its entry. -/
def chainRoom : Nat := 3840

/-- What this head sends to agree a key (R418): its UID, the purpose, the connection IDs, the nonce, the ephemeral public key and the
attestation certificate chain, and whether it holds the pair's keys (R520), signed by the attestation key. The spec gives the message no
layout. -/
def agreeSent (h : Head) (a : Agree) : Wire :=
  let body := wires [raw 8 (pget h .east CHP_UID_LO_UID CHP_UID_HI_UID), raw 4 (purposeNum a.purpose), raw 12 a.ids, raw 16 a.nonce,
    raw 96 (Config.ecPublic a.eph), raw 4 (ofBool (pairKeysHeld h)), raw chainRoom (Config.certChain h.doc.attest)]
  body.cat (raw 96 (Config.ecdsaSign h.doc.attest (sha384 body.len body.num)))

/-- PEER_AGREE. -/
def peerAgree (h : Head) (entry : Nat) (step : AgreeStep) : Head :=
  docRequest h entry 7 (fun h =>
    match step with
    | .start p ids =>
      let (k, h) := fresh h
      let (e, h) := fresh h
      let a : Agree := ⟨p, ids, Config.random k % 2 ^ 128, Config.random e % 2 ^ 384⟩
      (.done, agreeSent h a, { h with doc := { h.doc with agree := some a } })
    | .finish m slot epoch => match h.doc.agree with
      | none => (.protocol, noReply, h)
      | some a =>
        if a.purpose ≠ m.purpose ∨ a.ids ≠ m.ids then (.protocol, noReply, h)
        else if !m.chainOk || !m.sigOk then (.checkFail, noReply, h)
        else if !peerPermitted h m then (.protocol, noReply, h)
        else
          let own := pget h .east CHP_UID_LO_UID CHP_UID_HI_UID
          let (st, h) := placeAgreed h m slot (agreedKey own a m)
          if st ≠ .done then (st, noReply, h)
          else
            let h := { h with doc := { h.doc with agree := none } }
            let h := msrExtend h 26 (sha384 16 (m.uid % 2 ^ 64 + purposeNum m.purpose <<< 64 + epoch <<< 96))
            let sent := if m.purpose = .pair ∧ pairKeysHeld h = true ∧ m.held = false then pairKeysSent h else noReply
            (.done, sent, if m.purpose = .keyManager then h else writeImage h)
    | .pairKeys s l =>
      if keyState h 8197 ≠ 2 then (.keyInvalid, noReply, h)
      else match Config.keyUnwrap (keyValue h 8197) 40 s, Config.keyUnwrap (keyValue h 8197) 72 l with
        | some sv, some lv =>
          if keyState h 8192 ≠ 0 ∨ keyState h 8193 ≠ 0 then (.protocol, noReply, h)
          else
            let p := placePrivate h 0 3 sv
            let q := placePrivate p.2 1 1 lv
            (q.1, noReply, if q.1 = .done then writeImage q.2 else q.2)
        | _, _ => (.checkFail, noReply, h))

/-- Docent firmware generates the two context-wrap keys afresh (R410, R418). -/
def contextKeys (h : Head) : Head :=
  if !firmwareRuns h || h.doc.alarmHold then h
  else foldHead h [2, 3] (fun h n =>
    let (k, h) := fresh h
    (placePrivate h n 5 (Config.random k)).2)

/-- KEY_ERASE (R73, R222), after which the context-wrap keys are generated again. -/
def eraseKeys (h : Head) : Head := contextKeys (keyErase h)

/-! ### Alarms (R419) -/

/-- An alarm trips: keys are erased, the alarm is latched, its event raised, and the reset hold starts. -/
def tripAlarm (h : Head) (n : Nat) : Head :=
  let h := keyErase h
  let h := fset (fset h .east ALM_LAST_VALID 1) .east ALM_LAST_ALARM n
  raiseAt (fadd { h with doc := { h.doc with alarmHold := true } } .east ALM_COUNT_COUNT) (pg .alm .east) n

/-- ALARM: a source of alarms 0 to 11 trips; ALM_STATUS shows a source that stays tripped. -/
def alarm (h : Head) (n : Nat) : Head :=
  if n < 12 then
    let h := if n = 11 then h else fset h .east ALM_STATUS_ACTIVE (fget h .east ALM_STATUS_ACTIVE ||| 1 <<< n)
    if (fget h .east ALM_ENABLE_ALARMS).testBit n then tripAlarm h n else h
  else h

/-- ALM_FORCE.FORCE. -/
def almForce (h : Head) (ini : Initiator) : Head := withWrite h ini (pg .alm .east) 0x054 (fun h => alarm h 11)

/-! ### Debug (R421) -/

/-- DEBUG_CHALLENGE: the UID and a fresh nonce. -/
def debugChallenge (h : Head) : Head :=
  if firmwareRuns h then
    let (k, h) := fresh h
    let n := Config.random k % 2 ^ 128
    send { h with doc := { h.doc with nonce := some n } } (.debugChallenge (pget h .east CHP_UID_LO_UID CHP_UID_HI_UID) n)
  else h

/-- The head serves no namespace: STOPPED, or SOLO with none owned. -/
def servesNone (h : Head) : Bool := pairState h == 7 || (pairState h == 0 && !h.cat.nss.any (fun e => e.2.owned))

/-- DEBUG_TOKEN: each nonce serves one attempt. -/
def debugToken (h : Head) (uid nonce : Nat) (sigOk : Bool) (digest : Nat) : Head :=
  if !firmwareRuns h then h
  else
    let good := sigOk && uid == pget h .east CHP_UID_LO_UID CHP_UID_HI_UID && h.doc.nonce == some nonce && lifecycle h == 2 &&
      servesNone h
    let h := { h with doc := { h.doc with nonce := none } }
    if good then
      let h := msrExtend (keyErase h) 31 digest
      setLifecycle (record { h with doc := { h.doc with noKeys := true } } 896 0x0101 0 false) 3
    else h

end Sys2Proof.Machine
end

