-- ==== Sys2Proof/Machine/Mehror.lean ====
section
/-! DEFINITION. Mehror (R117 to R141): contexts, packets, sequence and replay, atomics, messages, congestion. -/

namespace Sys2Proof.Machine

open Reg

/-! ### Contexts -/

/-- A congestion window within MIN_WIN and MAX_WIN (R133), in 1/256 packets. -/
def clampWin (h : Head) (w : Wing) (c : Nat) : Nat :=
  min (256 * fget h w MFT_CC_MAX_WIN) (max (256 * fget h w MFT_CC_MD_MIN_WIN) c)

/-- A context as OPEN makes it (R133): CWND at INIT_WIN. -/
def freshMft (h : Head) (w : Wing) : MftCtx where
  cwnd := clampWin h w (256 * fget h w MFT_CC_INIT_WIN)
  srtt := 0
  rttvar := 0
  sampled := false
  rwin := 4096
  cutUntil := none
  out := []
  queue := []
  ops := []
  marked := []
  accepted := 0
  ceSeen := 0
  echo := 0
  atomics := []
  held := []
  posts := []
  rcvMsg := 0
  sndMsg := 0
  msgs := []
  closed := false

/-- A context. -/
def mftGet (h : Head) (w : Wing) (ctx : Nat) : MftCtx := (tabGet? h.mft (ctxKey w ctx)).getD (freshMft h w)

/-- A context replaced, and the registers that show it (R141). -/
def mftPut (h : Head) (w : Wing) (ctx : Nat) (c : MftCtx) : Head :=
  let h := { h with mft := tabPut h.mft (ctxKey w ctx) c }
  fset (fset h w MFT_CTX_STATE_CWND (min 4096 (c.cwnd / 256)) ctx) w MFT_CTX_RECV_POSTED c.posts.length ctx

/-- A context changed. -/
def mftUpd (h : Head) (w : Wing) (ctx : Nat) (f : MftCtx → MftCtx) : Head := mftPut h w ctx (f (mftGet h w ctx))

def mftState (h : Head) (w : Wing) (ctx : Nat) : Nat := fget h w MFT_CTX_STATE_STATE ctx
def sndNext (h : Head) (w : Wing) (ctx : Nat) : Nat := fget h w MFT_CTX_SND_NEXT_PSN ctx
def rcvNext (h : Head) (w : Wing) (ctx : Nat) : Nat := fget h w MFT_CTX_RCV_NEXT_PSN ctx

/-- The bytes of a packet's payload at most (R141). -/
def maxPayload (h : Head) (w : Wing) (ctx : Nat) : Nat := 1024 <<< fget h w MFT_CTX_PATH_MAX_PAYLOAD ctx

/-- The signed difference of two PSNs (R128). -/
def psnDiff (a b : Nat) : Int := toSigned 32 (a + 2 ^ 32 - b % 2 ^ 32)

/-- A PSN some places on. -/
def psnAdd (a n : Nat) : Nat := (a + n) % 2 ^ 32

/-! ### Sending -/

/-- A packet of a context with its base header (R120); the extension and payload fields are 0. -/
def basePacket (h : Head) (w : Wing) (ctx opcode : Nat) : MftPacket where
  port := fget h .east MFT_UDP_PORT
  version := 1
  opcode := opcode
  ackReq := false
  first := false
  last := false
  solicited := false
  paylen := 0
  srcNode := fget h .east MFT_NODE_NODE_ID
  dstNode := fget h w MFT_CTX_PEER_NODE ctx
  collId := fget h w MFT_CTX_COLL_COLL_ID ctx
  retry := 0
  dstConn := fget h w MFT_CTX_CONN_REMOTE_CONN ctx
  psn := sndNext h w ctx
  txc := 0
  ts := 0
  rkey := 0
  len := 0
  offset := 0
  addend := 0
  swap := 0
  msgId := 0
  msgLen := 0
  imm := 0
  nextPsn := 0
  rwin := 0
  ceCount := 0
  tsEcho := 0
  sack := 0
  code := 0
  data := 0
  tagOk := true
  ce := false

/-- The transmit counter of a context's next packet (R120). -/
def mftTxc (h : Head) (w : Wing) (ctx : Nat) : Nat := tabGet h.mftTxc 0 (ctxKey w ctx)

/-- A packet as it is sent: with the next TXC of its direction (R79, R120) and the time of sending. -/
def stamped (h : Head) (w : Wing) (ctx : Nat) (p : MftPacket) : MftPacket :=
  { p with txc := mftTxc h w ctx, ts := frmTime h % 2 ^ 32 }

/-- The connection key of a context (R122). -/
def mftKey (h : Head) (w : Wing) (ctx : Nat) : Nat := keyValue h (keySlotId false (fget h w FOQ_CTX_BIND_CRED_SLOT ctx)) % 2 ^ 256

/-- A packet sent on PRIO_MFT of its port (R119), under the connection's key (R122). -/
def mftSend (h : Head) (w : Wing) (ctx : Nat) (p : MftPacket) : Head :=
  let q := stamped h w ctx p
  let net := mehrorNet h w ctx
  portSend { h with mftTxc := tabPut h.mftTxc (ctxKey w ctx) (mftTxc h w ctx + 1) } w net.port net.prio
    (.mehror w ctx q net (mehrorBytes (mftKey h w ctx) q))

/-- The window a wing's contexts advertise (R134). -/
def advertised (h : Head) (w : Wing) : Nat := if fetchHeld h w then 0 else 4096

/-- The SACK bits (R121): bit i stands for PSN NEXT_PSN + 1 + i. -/
def sackOf (h : Head) (w : Wing) (ctx : Nat) (c : MftCtx) : Nat :=
  ((List.range 256).map (fun i => ofBool (c.marked.contains (psnAdd (rcvNext h w ctx) (1 + i))) <<< i)).sum

/-- An ACK (R130, R134): what has been received, the window, and the CE marks since the last. -/
def sendAck (h : Head) (w : Wing) (ctx : Nat) (ackReq : Bool := false) : Head :=
  let c := mftGet h w ctx
  let p := { basePacket h w ctx 8 with
    ackReq := ackReq
    nextPsn := rcvNext h w ctx
    rwin := advertised h w
    ceCount := c.ceSeen
    tsEcho := c.echo
    sack := sackOf h w ctx c }
  mftSend (mftPut h w ctx { c with accepted := 0, ceSeen := 0, closed := fetchHeld h w }) w ctx p

/-- The retransmission timeout of a packet now sent (R136), in ns; RTO_MAX is the largest. -/
def rtoNow (h : Head) (w : Wing) (c : MftCtx) : Nat :=
  min (1000 * fget h w MFT_TIMER_RTO_MAX) (max (1000 * fget h w MFT_TIMER_RTO_MIN) (c.srtt + 4 * c.rttvar))

/-- The effective window (R133): the smaller of CWND, the last RWIN and MAX_WIN, at most 4,096. -/
def effWindow (h : Head) (w : Wing) (c : MftCtx) : Nat := min (min (c.cwnd / 256) c.rwin) (min (fget h w MFT_CC_MAX_WIN) 4096)

/-- The span outstanding, from the oldest unacknowledged PSN to the next PSN (R132). -/
def spanOf (h : Head) (w : Wing) (ctx : Nat) (c : MftCtx) : Nat :=
  ((c.out.filter (fun o => !o.acked)).map (fun o => (psnDiff (sndNext h w ctx) o.pkt.psn).toNat)).foldl max 0

/-- Queued packets sent while the window has room and the wing is not held (R132, R134). A READ that would not fit is issued for the
chunks that do. -/
def pump (h : Head) (w : Wing) (ctx : Nat) : Nat → Head
  | 0 => h
  | fuel + 1 =>
    let c := mftGet h w ctx
    match c.queue with
    | [] => h
    | q :: rest =>
      let room := effWindow h w c - spanOf h w ctx c
      if fetchHeld h w || mftState h w ctx != 1 || room == 0 then h
      else
        let mp := maxPayload h w ctx
        let n := min q.n room
        let part := decide (q.pkt.opcode = 2 ∧ n < q.n)
        let psn := sndNext h w ctx
        let pkt := { q.pkt with psn := psn, len := if part then n * mp else q.pkt.len }
        let o := { q with pkt := pkt, n := n, rto := rtoNow h w c, chunks := if q.pkt.opcode = 2 then List.range n else [] }
        let more : List MftOut :=
          if part then [{ q with
            n := q.n - n
            pkt := { q.pkt with offset := q.pkt.offset + n * mp, len := q.pkt.len - n * mp }
            laddr := q.laddr + n * mp }]
          else []
        let h := mftPut h w ctx { c with queue := more ++ rest, out := c.out ++ [o] }
        let h := fset h w MFT_CTX_SND_NEXT_PSN (psnAdd psn n) ctx
        pump (mftSend h w ctx pkt) w ctx fuel

/-- Queued packets sent as far as the window allows. -/
def pumpAll (h : Head) (w : Wing) (ctx : Nat) : Head :=
  pump h w ctx (((mftGet h w ctx).queue.map (·.n)).sum + 1)

/-! ### Operations and their ends -/

/-- An operation of a context ends: it is ready for its completion entry. -/
def mftEnd (h : Head) (w : Wing) (tag : Nat) (st : Status) (bytes word : Nat) (place : List Placed) : Head :=
  readyOps h (fun o => o.cls == .mft && o.wing == w && o.tag == tag && !o.ready)
    (fun o => { o with status := st, bytes := bytes, word := word, place := place })

/-- Packets still to be kept: a PSN until it is acknowledged, a READ or an atomic until its responses have come too (R132). -/
def keepOut (l : List MftOut) : List MftOut := l.filter (fun o => !o.acked || o.wait)

/-- An operation's packets once it has ended: no response is awaited, and none is taken (R139). -/
def settleOut (tag : Nat) (l : List MftOut) : List MftOut :=
  keepOut (l.map (fun o => if o.live ∧ o.tag = tag then { o with live := false, wait := false, chunks := [] } else o))

/-- An operation ends and leaves its context; what it has not sent is not sent. A PSN that has been sent stays outstanding until it is
acknowledged (R132). -/
def mftFinish (h : Head) (w : Wing) (ctx tag : Nat) (st : Status) (bytes word : Nat) (place : List Placed) : Head :=
  let h := mftUpd h w ctx (fun c => { c with
    ops := c.ops.filter (fun o => o.tag != tag)
    out := settleOut tag c.out
    queue := c.queue.filter (fun o => o.tag != tag) })
  mftEnd h w tag st bytes word place

/-- A packet that its operation still needs: a WRITE or SEND not yet acknowledged, a READ or atomic without its responses (R138). -/
def MftOut.pending (o : MftOut) : Bool := o.live && if o.pkt.opcode == 1 || o.pkt.opcode == 4 then !o.acked else o.wait

/-- The WRITE, SEND and READ operations whose every packet is acknowledged, or every chunk placed, complete (R138). -/
def mftDone (h : Head) (w : Wing) (ctx : Nat) : Head :=
  let c := mftGet h w ctx
  let done := c.ops.filter (fun o => !c.queue.any (fun q => q.tag == o.tag) && !c.out.any (fun q => q.tag == o.tag && q.pending))
  foldHead h done (fun h o => mftFinish h w ctx o.tag .done o.len 0 [])

/-- A cut of CWND by n/256 (R133), once in a round trip. -/
def cutWindow (h : Head) (w : Wing) (ctx n : Nat) : Head :=
  let c := mftGet h w ctx
  if c.cutUntil.isSome then h
  else mftPut h w ctx { c with
    cwnd := clampWin h w (c.cwnd * (256 - n) / 256)
    cutUntil := some (sndNext h w ctx) }

/-- A context that has failed or is closing: it works on nothing (R137, R139). -/
def MftCtx.ended (c : MftCtx) : MftCtx :=
  { c with ops := [], posts := [], out := [], queue := [], atomics := [], held := [], msgs := [] }

/-- The connection fails (R137). -/
def mftFail (h : Head) (w : Wing) (ctx : Nat) : Head :=
  let c := mftGet h w ctx
  let h := fset h w MFT_CTX_STATE_STATE 2 ctx
  let h := foldHead h c.ops (fun h o => mftEnd h w o.tag .timeout 0 0 [])
  let h := foldHead h c.posts (fun h p => mftEnd h w p.tag .aborted 0 0 [])
  raise (mftPut h w ctx c.ended) w Ev.MFT_CONN_FAILED

/-- A packet retransmitted (R132) with the same PSN and the next TXC. A READ is issued again from its first missing chunk. -/
def retransmit (h : Head) (w : Wing) (ctx : Nat) (o : MftOut) (change : MftOut → MftOut) : Head :=
  let k := o.chunks.headD 0
  let mp := maxPayload h w ctx
  let o' := change (if o.pkt.opcode = 2 then { o with
      pkt := { o.pkt with psn := psnAdd o.pkt.psn k, offset := o.pkt.offset + k * mp, len := o.pkt.len - k * mp }
      n := o.n - k
      laddr := o.laddr + k * mp
      chunks := o.chunks.map (· - k) }
    else o)
  let h := mftUpd h w ctx (fun c => { c with out := c.out.map (fun x => if x.pkt.psn = o.pkt.psn then o' else x) })
  let h := cutWindow (fadd h w MFT_CNT_RETX_COUNT) w ctx (fget h w MFT_CC_MD_MD_LOSS)
  mftSend h w ctx { o'.pkt with retry := min 255 (o'.sent + o'.rnr - 1) }

/-- A packet sent again with its count raised; where it would be sent a (RETRY_MAX + 1)-th time the connection fails instead (R137). One
that has failed sends nothing more. -/
def resend (h : Head) (w : Wing) (ctx : Nat) (o : MftOut) (change : MftOut → MftOut) : Head :=
  if mftState h w ctx ≠ 1 then h
  else if fget h w MFT_RETRY_RETRY_MAX ≤ o.sent then mftFail h w ctx
  else retransmit h w ctx o (fun o => change { o with sent := o.sent + 1 })

/-- RTO_EXPIRY (R134, R136, R137): the PSN is sent again with its RTO doubled, up to RTO_MAX, or the connection fails; facing RWIN = 0 the
sender probes. -/
def rtoExpiry (h : Head) (w : Wing) (ctx psn : Nat) : Head :=
  if mftState h w ctx ≠ 1 then h
  else
    let c := mftGet h w ctx
    let h := if c.rwin = 0 then sendAck h w ctx true else h
    match c.out.find? (fun o => o.pkt.psn == psn && (!o.acked || o.wait)) with
    | none => h
    | some o => resend h w ctx o (fun o => { o with rto := min (1000 * fget h w MFT_TIMER_RTO_MAX) (2 * o.rto) })

/-- RNR_DELAY (R135): the packet put off by NAK RNR is sent again. The wait does not count towards RETRY_MAX. -/
def rnrDelay (h : Head) (w : Wing) (ctx psn : Nat) : Head :=
  if mftState h w ctx ≠ 1 then h
  else match (mftGet h w ctx).out.find? (fun o => o.pkt.psn == psn && o.rnr != 0) with
    | none => h
    | some o => retransmit h w ctx o id

/-! ### Regions (R126, R127) -/

/-- The address an RKEY or LKEY and an offset name, where the entry is valid, has the key, is of the collection, has the right and holds
every byte (R127). `right` is the right's field, none for a local access. -/
def regionAddr (h : Head) (rkey offset len coll : Nat) (sys : Bool) (right : Option Fld) : Option Nat :=
  let w : Wing := if rkey.testBit 14 then .west else .east
  let i := rkey % 2 ^ 14
  let rsys := fbit h w MFT_REGION_ATTR_SYSTEM i
  let base := pget h w MFT_REGION_BASE_LO_ADDR MFT_REGION_BASE_HI_ADDR i * 4096
  let ok := fbit h w MFT_REGION_ATTR_VALID i && fget h w MFT_REGION_ATTR_KEY i == rkey >>> 24 % 256 && rsys == sys &&
    (sys || fget h w MFT_REGION_ATTR_COLL i == coll) && (right.map (fun f => fbit h w f i)).getD true &&
    decide (offset + len ≤ 4096 * fget h w MFT_REGION_LEN_PAGES i)
  if ok then some (base + offset) else none

/-! ### Receiving (R124 to R131) -/

/-- The replay cache's entry of a PSN (R131). -/
def cacheAddr (h : Head) (w : Wing) (ctx psn : Nat) : Nat :=
  pget h w MFT_CTX_CACHE_LO_ADDR MFT_CTX_CACHE_HI_ADDR ctx * 65536 + 16 * (psn % 4096)

/-- A cache entry written: PSN, KIND, NAK code, ORIGINAL. -/
def cachePut (h : Head) (w : Wing) (ctx psn kind code orig : Nat) : Head :=
  memWrite h (cacheAddr h w ctx psn) 16 (psn + kind <<< 32 + code <<< 40 + orig <<< 64)

/-- A NAK sent (R125); PROTECTION is raised with that code (R140). -/
def nakAgain (h : Head) (w : Wing) (ctx psn code : Nat) : Head :=
  let h := if code = 1 then raise h w Ev.MFT_PROTECTION else h
  mftSend h w ctx { basePacket h w ctx 9 with nextPsn := psn, code := code, tsEcho := (mftGet h w ctx).echo }

/-- A NAK (R125). Except for RNR it is recorded in the cache (R131). -/
def sendNak (h : Head) (w : Wing) (ctx psn code : Nat) : Head :=
  nakAgain (if code = 2 then h else cachePut h w ctx psn 2 code 0) w ctx psn code

/-- A stale packet counted (R124, R128). -/
def mftStale (h : Head) (w : Wing) (ev : Bool) : Head :=
  let h := fadd h w MFT_CNT_STALE_COUNT
  if ev then raise h w Ev.MFT_STALE_DROP else h

/-- A packet that passed steps 1 to 4 seen by its context: the TS to echo and the CE marks to report (R130, R133). -/
def mftSeen (h : Head) (w : Wing) (ctx : Nat) (p : MftPacket) : Head :=
  mftUpd h w ctx (fun c => { c with echo := p.ts, ceSeen := min 65535 (c.ceSeen + ofBool p.ce) })

/-- RCV_NEXT advanced over the marked run (R128). -/
def advance (h : Head) (w : Wing) (ctx : Nat) : Nat → Head
  | 0 => h
  | n + 1 =>
    let r := rcvNext h w ctx
    let c := mftGet h w ctx
    if c.marked.contains r then
      advance (fset (mftPut h w ctx { c with marked := c.marked.filter (· != r) }) w MFT_CTX_RCV_NEXT_PSN (psnAdd r 1) ctx) w ctx n
    else h

/-- The answer to an atomic from what it found, counted where it is given again (R131). -/
def atomicAnswer (h : Head) (w : Wing) (ctx psn old : Nat) (again : Bool) : Head :=
  mftSend (if again then fadd h w MFT_CNT_REPLAY_COUNT else h) w ctx { basePacket h w ctx 7 with psn := psn, data := old }

/-- An atomic executed (R131): indivisible, recorded in the cache, answered, and with it the duplicates that were held. The packet's
offset is the address its check gave. -/
def atomicRun (h : Head) (w : Wing) (ctx : Nat) (p : MftPacket) : Head :=
  let old := memRead h p.offset 8
  let new := if p.opcode = 5 then (old + p.addend) % 2 ^ 64 else if old = p.addend then p.swap % 2 ^ 64 else old
  let h := cachePut (memWrite h p.offset 8 new) w ctx p.psn 1 0 old
  let again := (mftGet h w ctx).held.filter (fun q => q.psn == p.psn)
  let h := mftUpd h w ctx (fun c => { c with held := c.held.filter (fun q => q.psn != p.psn) })
  foldHead (atomicAnswer h w ctx p.psn old false) again (fun h _ => atomicAnswer h w ctx p.psn old true)

/-- A message whose bytes are placed, as far as its buffer takes them, and that has every lower PSN received completes in its buffer
(R129, R135): with LIMIT where it is longer than the buffer. -/
def messageDone (h : Head) (w : Wing) (ctx : Nat) (m : InMsg) : Head :=
  let c := mftGet h w ctx
  match c.posts.find? (fun b => b.msgId == m.msgId) with
  | none => h
  | some b =>
    let h := mftPut h w ctx { c with
      posts := c.posts.filter (fun x => x.msgId != m.msgId)
      msgs := c.msgs.filter (fun x => x.msgId != m.msgId) }
    if m.need < m.msgLen then mftEnd h w b.tag .limit m.need 0 []
    else
      readyOps h (fun o => o.cls == .mft && o.wing == w && o.tag == b.tag && !o.ready)
        (fun o => { o with status := .done, bytes := m.msgLen, word := m.msgId <<< 32 + m.imm, event := o.event || m.solicited })

/-- What waited for a lower PSN happens, atomics in PSN order (R129). -/
def releaseOrdered (h : Head) (w : Wing) (ctx : Nat) : Head :=
  let c := mftGet h w ctx
  let r := rcvNext h w ctx
  let due := c.atomics.filter (fun p => decide (psnDiff p.psn r < 0))
  let sorted := due.mergeSort (fun a b => decide (psnDiff a.psn b.psn ≤ 0))
  let h := mftPut h w ctx { c with atomics := c.atomics.filter (fun p => decide (0 ≤ psnDiff p.psn r)) }
  let h := foldHead h sorted (fun h p => atomicRun h w ctx p)
  let msgs := c.msgs.filter (fun m => m.bytes == m.need && decide (psnDiff m.psn r < 0))
  foldHead h msgs (fun h m => messageDone h w ctx m)

/-- An ACK at once for a packet that asks for one (R130). -/
def ackNow (h : Head) (w : Wing) (ctx : Nat) (p : MftPacket) : Head :=
  if p.ackReq ∧ mftState h w ctx = 1 then sendAck h w ctx else h

/-- A packet accepted: its PSNs marked, RCV_NEXT advanced, what waited released, and an ACK where R130 asks for one. -/
def acceptPacket (h : Head) (w : Wing) (ctx : Nat) (p : MftPacket) (n : Nat) : Head :=
  let c := mftGet h w ctx
  let h := mftPut h w ctx { c with
    marked := c.marked ++ (List.range n).map (psnAdd p.psn)
    accepted := c.accepted + 1 }
  let h := releaseOrdered (advance h w ctx 4097) w ctx
  let gap := decide (0 ≤ psnDiff p.psn (rcvNext h w ctx))
  if p.ackReq || gap || decide (fget h w MFT_ACK_ACK_EVERY ≤ (mftGet h w ctx).accepted) then sendAck h w ctx else h

/-- The PSNs that a request takes (R121). -/
def psnSpan (h : Head) (w : Wing) (ctx : Nat) (p : MftPacket) : Nat :=
  let n := (p.len + maxPayload h w ctx - 1) / maxPayload h w ctx
  if p.opcode = 2 ∧ 1 ≤ n ∧ n ≤ 64 then n else 1

/-- A PSN within the map and not yet received (R128). -/
def isNew (h : Head) (w : Wing) (ctx psn : Nat) : Bool :=
  decide (0 ≤ psnDiff psn (rcvNext h w ctx)) && decide (psnDiff psn (rcvNext h w ctx) < 4096) && !(mftGet h w ctx).marked.contains psn

/-- A packet of another collection (R124 step 4): a request is answered NAK PROTECTION, which marks its PSN (R125). -/
def collRefused (h : Head) (w : Wing) (ctx : Nat) (p : MftPacket) : Head :=
  if [1, 2, 4, 5, 6].contains p.opcode then
    let h := sendNak h w ctx p.psn 1
    if isNew h w ctx p.psn then acceptPacket h w ctx p (psnSpan h w ctx p) else h
  else raise h w Ev.MFT_PROTECTION

/-- Steps 1 to 4 of R124. -/
def mftGate (h : Head) (w : Wing) (p : MftPacket) (f : Head → Nat → Head) : Head :=
  let ctx := p.dstConn % 2 ^ 15
  if !fbit h w MFT_CTRL_ACCEPT then mftStale h w false
  else if p.port ≠ fget h .east MFT_UDP_PORT ∨ p.version ≠ 1 ∨ p.dstNode ≠ fget h .east MFT_NODE_NODE_ID then mftStale h w true
  else if p.dstConn.testBit 15 ≠ decide (w = .west) ∨ fget h w FOQ_CTX_BIND_TYPE ctx ≠ 3 ∨ mftState h w ctx ≠ 1 ∨
      fget h w MFT_CTX_STATE_GEN ctx ≠ p.dstConn >>> 16 % 256 ∨ fget h w MFT_CTX_PEER_NODE ctx ≠ p.srcNode then mftStale h w true
  else if p.tagOk = false then raise (fadd h w MFT_CNT_AUTH_COUNT) w Ev.MFT_AUTH_DROP
  else if p.collId ≠ fget h w MFT_CTX_COLL_COLL_ID ctx then collRefused (mftSeen h w ctx p) w ctx p
  else f (mftSeen h w ctx p) ctx

/-- A duplicate (R128, R131): counted, never executed again; an atomic, or one that was NAKed, is answered from the cache, an atomic not
yet executed once it is; an uncorrectable cache read fails the connection. It causes an immediate ACK. -/
def duplicate (h : Head) (w : Wing) (ctx : Nat) (p : MftPacket) (again : Head → Head) : Head :=
  let h := fadd h w MFT_CNT_DUP_COUNT
  let a := cacheAddr h w ctx p.psn
  if isPoisoned h a 16 then raise (mftFail h w ctx) w Ev.MFT_CACHE_ERROR
  else
    let e := memRead h a 16
    let kind := e >>> 32 % 256
    let h := if e % 2 ^ 32 = p.psn ∧ kind = 1 ∧ (p.opcode = 5 ∨ p.opcode = 6) then
        atomicAnswer h w ctx p.psn (e >>> 64 % 2 ^ 64) true
      else if e % 2 ^ 32 = p.psn ∧ kind = 2 then nakAgain (fadd h w MFT_CNT_REPLAY_COUNT) w ctx p.psn (e >>> 40 % 256)
      else if e % 2 ^ 32 = p.psn ∧ kind = 3 then mftUpd h w ctx (fun c => { c with held := c.held ++ [p] })
      else again h
    sendAck h w ctx

/-- Step 5 of R124 and R128 for a packet that consumes PSNs: beyond the map it is stale, below it or marked a duplicate. -/
def sequenced (h : Head) (w : Wing) (ctx : Nat) (p : MftPacket) (again : Head → Head) (f : Head → Head) : Head :=
  let d := psnDiff p.psn (rcvNext h w ctx)
  if 4096 ≤ d then mftStale h w false
  else if d < 0 ∨ (mftGet h w ctx).marked.contains p.psn then duplicate h w ctx p again
  else f h

/-- A region's refusal of a packet: counted, captured, answered NAK PROTECTION (R127). -/
def regionNak (h : Head) (w : Wing) (ctx : Nat) (p : MftPacket) : Head :=
  sendNak (capture (fadd h w MFT_CNT_REFUSED_COUNT) (pg .mft w) ⟨11, 0xFF, false, 0⟩) w ctx p.psn 1

/-- A request refused by its region takes its PSNs (R125, R127). -/
def regionRefused (h : Head) (w : Wing) (ctx : Nat) (p : MftPacket) (n : Nat) : Head := acceptPacket (regionNak h w ctx p) w ctx p n

/-- A packet of an opcode R121 does not define takes its PSN and is answered INVALID_OP (R124 step 6). -/
def invalidOp (h : Head) (w : Wing) (ctx : Nat) (p : MftPacket) : Head := acceptPacket (sendNak h w ctx p.psn 3) w ctx p 1

/-- An opcode R121 defines. -/
def definedOp (n : Nat) : Bool := decide (1 ≤ n) && decide (n ≤ 9)

/-- A received request of an opcode: the gate, the sequence, and an undefined opcode; a packet of another opcode is not this command. -/
def mftRequest (h : Head) (w : Wing) (p : MftPacket) (opcode : Nat) (again : Head → Nat → Head) (f : Head → Nat → Head) : Head :=
  if definedOp p.opcode && p.opcode != opcode then h
  else mftGate h w p (fun h ctx => sequenced h w ctx p (fun h => again h ctx) (fun h =>
    if definedOp p.opcode then f h ctx else invalidOp h w ctx p))

/-- The collection of a context, and whether it is a system connection. -/
def ctxColl (h : Head) (w : Wing) (ctx : Nat) : Nat := fget h w FOQ_CTX_STATE_COLL ctx
def ctxSystem (h : Head) (w : Wing) (ctx : Nat) : Bool := fbit h w MFT_CTX_COLL_SYSTEM ctx

/-- MFT_WRITE_PACKET (R127, R129): placed in its region as it arrives. -/
def mftWritePacket (h : Head) (w : Wing) (p : MftPacket) : Head :=
  mftRequest h w p 1 (fun h _ => h) (fun h ctx =>
    if p.paylen = 0 ∨ maxPayload h w ctx < p.paylen then invalidOp h w ctx p
    else match regionAddr h p.rkey p.offset p.paylen (ctxColl h w ctx) (ctxSystem h w ctx) (some MFT_REGION_ATTR_WRITE) with
      | none => regionRefused h w ctx p 1
      | some a => acceptPacket (memWrite h a p.paylen p.data) w ctx p 1)

/-- The chunks of a READ answered (R121): chunk k carries the request's PSN + k. -/
def answerRead (h : Head) (w : Wing) (ctx : Nat) (p : MftPacket) (a : Nat) : Head :=
  let mp := maxPayload h w ctx
  foldHead h (List.range ((p.len + mp - 1) / mp)) (fun h k =>
    let n := min mp (p.len - k * mp)
    mftSend h w ctx { basePacket h w ctx 3 with psn := psnAdd p.psn k, paylen := n, data := memRead h (a + k * mp) n })

/-- The region of a READ. -/
def readRegion (h : Head) (w : Wing) (ctx : Nat) (p : MftPacket) : Option Nat :=
  regionAddr h p.rkey p.offset p.len (ctxColl h w ctx) (ctxSystem h w ctx) (some MFT_REGION_ATTR_READ)

/-- MFT_READ_PACKET (R127, R128): all of its PSNs are marked; a duplicate is executed again, with its region checked again (R139). -/
def mftReadPacket (h : Head) (w : Wing) (p : MftPacket) : Head :=
  mftRequest h w p 2
    (fun h ctx => match readRegion h w ctx p with
      | some a => answerRead h w ctx p a
      | none => regionNak h w ctx p)
    (fun h ctx =>
      let n := (p.len + maxPayload h w ctx - 1) / maxPayload h w ctx
      if p.paylen ≠ 0 ∨ p.len = 0 ∨ 64 < n then invalidOp h w ctx p
      else match readRegion h w ctx p with
        | none => regionRefused h w ctx p n
        | some a => acceptPacket (answerRead h w ctx p a) w ctx p n)

/-- MFT_ATOMIC_ADD_PACKET and MFT_ATOMIC_CAS_PACKET (R129, R131): executed once, when every lower PSN has been received; until then its
cache entry says that it is executing. -/
def mftAtomicPacket (h : Head) (w : Wing) (p : MftPacket) (opcode : Nat) : Head :=
  mftRequest h w p opcode (fun h _ => h) (fun h ctx =>
    if p.paylen ≠ 0 ∨ p.offset % 8 ≠ 0 then invalidOp h w ctx p
    else match regionAddr h p.rkey p.offset 8 (ctxColl h w ctx) (ctxSystem h w ctx) (some MFT_REGION_ATTR_ATOMIC) with
      | none => regionRefused h w ctx p 1
      | some a =>
      acceptPacket (mftUpd (cachePut h w ctx p.psn 3 0 0) w ctx (fun c => { c with atomics := c.atomics ++ [{ p with offset := a }] }))
        w ctx p 1)

/-- The bytes of a packet that fit in a buffer. -/
def fitIn (len offset n : Nat) : Nat := if len ≤ offset then 0 else min n (len - offset)

/-- MFT_SEND_PACKET (R135): into its message's posted buffer; RNR with none posted. Of a message longer than its buffer the buffer takes
the first bytes, and the packets that reach beyond it are answered LENGTH. -/
def mftSendPacket (h : Head) (w : Wing) (p : MftPacket) : Head :=
  mftRequest h w p 4 (fun h _ => h) (fun h ctx =>
    let c := mftGet h w ctx
    if p.paylen = 0 ∨ maxPayload h w ctx < p.paylen ∨ 2 ^ 20 < p.msgLen ∨ p.msgLen < p.offset + p.paylen then invalidOp h w ctx p
    else match c.posts.find? (fun b => b.msgId == p.msgId) with
      | none =>
        if psnDiff p.msgId c.rcvMsg < 0 then acceptPacket (sendNak h w ctx p.psn 4) w ctx p 1
        else ackNow (sendNak h w ctx p.psn 2) w ctx p
      | some b =>
        let n := fitIn b.len p.offset p.paylen
        let h := memWrite h (b.addr + p.offset) n (p.data % 2 ^ (8 * n))
        let m : InMsg := match c.msgs.find? (fun m => m.msgId == p.msgId) with
          | some m => { m with
              bytes := m.bytes + n
              psn := if n = 0 then m.psn else if psnDiff m.psn p.psn < 0 then p.psn else m.psn
              solicited := m.solicited || p.solicited }
          | none => ⟨p.msgId, p.msgLen, min p.msgLen b.len, p.imm, n, p.psn, p.solicited⟩
        let h := mftPut h w ctx { c with msgs := c.msgs.filter (fun x => x.msgId != p.msgId) ++ [m] }
        acceptPacket (if n < p.paylen then sendNak h w ctx p.psn 4 else h) w ctx p 1)

/-- A response that answers nothing outstanding (R139). -/
def strayResponse (h : Head) (w : Wing) : Head := fadd h w MFT_CNT_DUP_COUNT

/-- A received response, ACK or NAK of an opcode: the gate, then its effect, and an ACK where it asks for one (R124, R130). -/
def mftAnswer (h : Head) (w : Wing) (p : MftPacket) (opcode : Nat) (f : Head → Nat → Head) : Head :=
  if p.opcode ≠ opcode then h else mftGate h w p (fun h ctx => ackNow (f h ctx) w ctx p)

/-- A response, ACK or NAK whose PAYLEN does not agree with R121: it takes no PSN, so its NAK INVALID_OP marks and records none. -/
def badLength (h : Head) (w : Wing) (ctx : Nat) (p : MftPacket) : Head := nakAgain h w ctx p.psn 3

/-- READ_RESP (R129, R138): the chunk is placed; the READ completes when every chunk is. -/
def mftReadResp (h : Head) (w : Wing) (p : MftPacket) : Head :=
  mftAnswer h w p 3 (fun h ctx =>
    let c := mftGet h w ctx
    let mp := maxPayload h w ctx
    match c.out.find? (fun o => o.pkt.opcode == 2 && o.live && o.chunks.any (fun k => psnAdd o.pkt.psn k == p.psn)) with
    | none => strayResponse h w
    | some o =>
      let k := (psnDiff p.psn o.pkt.psn).toNat
      if p.paylen ≠ min mp (o.pkt.len - k * mp) then badLength h w ctx p
      else
        let h := memWrite h (o.laddr + k * mp) p.paylen p.data
        let o' := { o with chunks := o.chunks.filter (· != k), wait := decide (o.chunks.filter (· != k) ≠ []) }
        pumpAll (mftDone (mftPut h w ctx { c with out := keepOut (c.out.map (fun x => if x = o then o' else x)) }) w ctx) w ctx)

/-- ATOMIC_RESP (R138): the atomic completes; ORIGINAL goes to the local offset. -/
def mftAtomicResp (h : Head) (w : Wing) (p : MftPacket) : Head :=
  mftAnswer h w p 7 (fun h ctx =>
    let c := mftGet h w ctx
    match c.out.find? (fun o => (o.pkt.opcode == 5 || o.pkt.opcode == 6) && o.live && o.wait && o.pkt.psn == p.psn) with
    | none => strayResponse h w
    | some o => match c.ops.find? (fun x => x.tag == o.tag) with
      | none => strayResponse h w
      | some x =>
        if p.paylen ≠ 0 then badLength h w ctx p
        else pumpAll (mftFinish h w ctx o.tag .done 8 (p.data % 2 ^ 64) [⟨x.addr, 8, p.data % 2 ^ 64⟩]) w ctx)

/-- A round-trip sample (R133, R136), with gains 1/8 and 1/4. -/
def rttSample (c : MftCtx) (s : Nat) : MftCtx :=
  let d : Int := (s : Int) - c.srtt
  { c with
    srtt := ((c.srtt : Int) + d / 8).toNat
    rttvar := ((c.rttvar : Int) + ((d.natAbs : Int) - c.rttvar) / 4).toNat
    sampled := true }

/-- Whether an ACK acknowledges a PSN: below NEXT_PSN, or by its SACK bit (R130). -/
def ackCovers (p : MftPacket) (psn : Nat) : Bool :=
  let d := psnDiff psn p.nextPsn
  decide (d < 0) || (decide (1 ≤ d) && decide (d ≤ 256) && p.sack.testBit (d - 1).toNat)

/-- The packets an ACK first shows missing below at least three received PSNs (R132). -/
def shownMissing (c : MftCtx) (p : MftPacket) : List MftOut :=
  c.out.filter (fun o => !o.acked && !o.shown &&
    decide (3 ≤ ((List.range 256).filter (fun i => p.sack.testBit i && decide (psnDiff o.pkt.psn (psnAdd p.nextPsn (1 + i)) < 0))).length))

/-- MFT_ACK (R132, R133): PSNs acknowledged, the window adjusted, operations completed, losses shown sent again. `time` is its arrival on
FRM_TIME, in ns. -/
def mftAck (h : Head) (w : Wing) (p : MftPacket) (time : Nat) : Head :=
  mftAnswer h w p 8 (fun h ctx =>
    if p.paylen ≠ 0 then badLength h w ctx p else
    let c := rttSample (mftGet h w ctx) ((time + 2 ^ 32 - p.tsEcho % 2 ^ 32) % 2 ^ 32)
    let new := c.out.filter (fun o => !o.acked && ackCovers p o.pkt.psn)
    let free := c.cutUntil.any (fun q => new.any (fun o => decide (0 ≤ psnDiff o.pkt.psn q)))
    let out := keepOut (c.out.map (fun o => if ackCovers p o.pkt.psn then { o with acked := true } else o))
    let pk := max 1 (c.cwnd / 256)
    let grown := clampWin h w (c.cwnd + fget h w MFT_CC_AI_STEP * new.length * 256 / pk)
    let h := mftPut h w ctx { c with
      rwin := p.rwin
      out := out
      cwnd := if p.ceCount = 0 then grown else c.cwnd
      cutUntil := if free then none else c.cutUntil }
    let h := if p.ceCount = 0 then h else cutWindow h w ctx (fget h w MFT_CC_MD_MD_ECN)
    let h := foldHead h (shownMissing (mftGet h w ctx) p) (fun h o => resend h w ctx o (fun o => { o with shown := true }))
    pumpAll (mftDone h w ctx) w ctx)

/-- The status a NAK code gives its operation (R125). -/
def nakStatus : Nat → Status
  | 1 => .collMismatch
  | 4 => .limit
  | _ => .protocol

/-- MFT_NAK (R125, R135): RNR puts the packet off, up to RNR_MAX times; any other code marks its PSN as received and ends its operation.
Of an operation that has ended it is stray (R139). -/
def mftNak (h : Head) (w : Wing) (p : MftPacket) (time : Nat) : Head :=
  mftAnswer h w p 9 (fun h ctx =>
    if p.paylen ≠ 0 then badLength h w ctx p else
    let h := mftPut h w ctx (rttSample (mftGet h w ctx) ((time + 2 ^ 32 - p.tsEcho % 2 ^ 32) % 2 ^ 32))
    let c := mftGet h w ctx
    match c.out.find? (fun o => o.pkt.psn == p.nextPsn) with
    | none => strayResponse h w
    | some o =>
      if p.code = 2 then
        if !o.live then strayResponse h w
        else if fget h w MFT_RETRY_RNR_MAX ≤ o.rnr then
          pumpAll (raise (mftFinish h w ctx o.tag .noResource 0 0 []) w Ev.MFT_RNR_EXHAUSTED) w ctx
        else mftPut h w ctx { c with out := c.out.map (fun x => if x = o then { x with rnr := x.rnr + 1 } else x) }
      else
        let drop := mftPut h w ctx { c with out := c.out.filter (fun x => x != o) }
        let h := if p.code = 1 then raise drop w Ev.MFT_PROTECTION else drop
        pumpAll (if o.live then mftFinish h w ctx o.tag (nakStatus p.code) 0 0 [] else strayResponse h w) w ctx)

/-- ACK_DELAY (R130): packets accepted and not yet acknowledged are acknowledged. -/
def ackDelay (h : Head) (w : Wing) (ctx : Nat) : Head :=
  if mftState h w ctx = 1 ∧ 0 < (mftGet h w ctx).accepted then sendAck h w ctx else h

/-! ### Descriptors (R138) -/

def mdCtx (d : Desc) : Nat := dBits d 8 16
def mdLen (d : Desc) : Nat := dBits d 12 32
def mdLkey (d : Desc) : Nat := dBits d 16 32
def mdLoff (d : Desc) : Nat := dBits d 20 64
def mdRkey (d : Desc) : Nat := dBits d 28 32
def mdRoff (d : Desc) : Nat := dBits d 32 64

/-- The checks of R138 on a Mehror descriptor: its length, its context, the collections, the local region; then the operation goes on with
the local address. -/
def mftDesc (h0 : Head) (w : Wing) (src : Source) (opcode : Nat) (lenOk : Nat → Bool) (f : Head → Taken → EngOp → Nat → Nat → Head) : Head :=
  runDesc h0 w .mft src opcode (fun h t o =>
    let d := t.d
    let ctx := mdCtx d
    if !lenOk (mdLen d) || decide (32768 ≤ ctx) || mftState h w ctx != 1 then failOp h o .protocol
    else if dSystem d ≠ ctxSystem h w ctx ∨ (dSystem d = false ∧ dColl d ≠ ctxColl h w ctx) then failOp h o .collMismatch
    else match regionAddr h (mdLkey d) (mdLoff d) (mdLen d) (dColl d) (dSystem d) none with
      | none => failOp h o .collMismatch
      | some a =>
        let o := { o with chan := ctx, prio := 1, ready := false }
        f (fadd h w FOQ_CTX_STATE_INFLIGHT 1 ctx) t o ctx a)

/-- A packet of an operation, before it is sent. -/
def outOf (pkt : MftPacket) (n tag laddr : Nat) (wait : Bool) : MftOut := ⟨pkt, n, tag, 1, 0, 0, false, wait, [], false, laddr, true⟩

/-- An operation's packets queued, and sent as far as the window allows. -/
def mftStart (h : Head) (w : Wing) (ctx : Nat) (o : EngOp) (opcode addr len : Nat) (pkts : List MftOut) : Head :=
  let h := mftUpd (pushOp h o) w ctx (fun c => { c with ops := c.ops ++ [⟨o.tag, opcode, addr, len⟩], queue := c.queue ++ pkts })
  pumpAll h w ctx

/-- A length of 1 byte to a bound. -/
def lenWithin (m n : Nat) : Bool := decide (1 ≤ n) && decide (n ≤ m)

/-- MFT_DESC_WRITE (R138): split into packets of MAX_PAYLOAD. -/
def mftDescWrite (h0 : Head) (w : Wing) (src : Source) : Head :=
  mftDesc h0 w src 1 (lenWithin (2 ^ 24)) (fun h t o ctx a =>
    let mp := maxPayload h w ctx
    let len := mdLen t.d
    let k := (len + mp - 1) / mp
    mftStart h w ctx o 1 a len ((List.range k).map (fun i =>
      let n := min mp (len - i * mp)
      outOf { basePacket h w ctx 1 with
        first := i == 0, last := i + 1 == k, paylen := n, rkey := mdRkey t.d, offset := mdRoff t.d + i * mp
        data := memRead h (a + i * mp) n } 1 o.tag 0 false)))

/-- MFT_DESC_SEND (R138): split into the packets of one message. -/
def mftDescSend (h0 : Head) (w : Wing) (src : Source) : Head :=
  mftDesc h0 w src 3 (lenWithin (2 ^ 20)) (fun h t o ctx a =>
    let mp := maxPayload h w ctx
    let len := mdLen t.d
    let k := (len + mp - 1) / mp
    let id := (mftGet h w ctx).sndMsg
    let h := mftUpd h w ctx (fun c => { c with sndMsg := (c.sndMsg + 1) % 2 ^ 32 })
    mftStart h w ctx o 3 a len ((List.range k).map (fun i =>
      let n := min mp (len - i * mp)
      outOf { basePacket h w ctx 4 with
        first := i == 0, last := i + 1 == k, solicited := dEvent t.d, paylen := n, msgId := id, msgLen := len, offset := i * mp
        imm := dBits t.d 40 32
        data := memRead h (a + i * mp) n } 1 o.tag 0 false)))

/-- MFT_DESC_READ (R138): requests of at most 64 chunks. -/
def mftDescRead (h0 : Head) (w : Wing) (src : Source) : Head :=
  mftDesc h0 w src 2 (lenWithin (2 ^ 24)) (fun h t o ctx a =>
    let mp := maxPayload h w ctx
    let len := mdLen t.d
    mftStart h w ctx o 2 a len ((List.range ((len + 64 * mp - 1) / (64 * mp))).map (fun i =>
      let n := min (64 * mp) (len - i * 64 * mp)
      outOf { basePacket h w ctx 2 with rkey := mdRkey t.d, len := n, offset := mdRoff t.d + i * 64 * mp }
        ((n + mp - 1) / mp) o.tag (a + i * 64 * mp) true)))

/-- MFT_DESC_ATOMIC_ADD and MFT_DESC_ATOMIC_CAS (R138). -/
def mftDescAtomic (h0 : Head) (w : Wing) (src : Source) (cas : Bool) : Head :=
  mftDesc h0 w src (if cas then 5 else 4) (· == 8) (fun h t o ctx a =>
    mftStart h w ctx o (if cas then 5 else 4) a 8 [outOf { basePacket h w ctx (if cas then 6 else 5) with
      rkey := mdRkey t.d, offset := mdRoff t.d, addend := dBits t.d 40 64, swap := if cas then dBits t.d 48 64 else 0 } 1 o.tag a true])

/-- POST_RECV (R135): a receive buffer added, up to 1,024. -/
def postRecv (h0 : Head) (w : Wing) (src : Source) : Head :=
  mftDesc h0 w src 16 (lenWithin (2 ^ 24)) (fun h t o ctx a =>
    let c := mftGet h w ctx
    if 1024 ≤ c.posts.length then failOp h o .noResource
    else pushOp (mftPut h w ctx { c with
      posts := c.posts ++ [⟨o.tag, c.rcvMsg, a, mdLen t.d⟩]
      rcvMsg := (c.rcvMsg + 1) % 2 ^ 32 }) o)

/-! ### OPEN and CLOSE (R139) -/

/-- The effect of a word written to MFT_CTX_CMD: 1 OPEN, 2 CLOSE; 0 and 3 are reserved. -/
def mftCmdEffect (h : Head) (src : Nat) (w : Wing) (cmd : Nat) : Head :=
  let ctx := fget h w MFT_CTX_INDEX_INDEX
  let bad (c : Nat) : Head := config h (pg .mft w) ⟨c, src, true, pageAddr (pg .mft w) + 0x078⟩
  if cmd = 1 then
    if mftState h w ctx ≠ 0 ∨ fget h w FOQ_CTX_BIND_TYPE ctx ≠ 3 ∨ fbit h w FOQ_CTX_STATE_AUTHENTICATED ctx = false ∨
        fget h w MFT_CTX_PEER_NODE ctx = fget h .east MFT_NODE_NODE_ID ∨
        pget h w MFT_CTX_CACHE_LO_ADDR MFT_CTX_CACHE_HI_ADDR ctx = 0 ∨
        fget h w FOY_MTU_MTU 0 (fget h w MFT_CTX_PATH_PORT ctx) < maxPayload h w ctx + 112 then bad 11
    else mftPut (fset h w MFT_CTX_STATE_STATE 1 ctx) w ctx (freshMft h w)
  else if cmd = 2 then
    if mftState h w ctx ≠ 1 then h
    else
      let c := mftGet h w ctx
      let h := fset h w MFT_CTX_STATE_STATE 3 ctx
      let h := foldHead h c.ops (fun h o => mftEnd h w o.tag .aborted 0 0 [])
      let h := foldHead h c.posts (fun h p => mftEnd h w p.tag .aborted 0 0 [])
      mftPut h w ctx c.ended
  else bad 4

/-- MFT_OPEN and MFT_CLOSE (R139). -/
def mftCommand (h : Head) (ini : Initiator) (w : Wing) (cmd : Nat) : Head :=
  withWrite h ini (pg .mft w) 0x078 (fun h => mftCmdEffect h (sourceCode ini) w cmd)

/-- CLOSE_DONE (R139): INFLIGHT has reached 0. -/
def closeDone (h : Head) (w : Wing) (ctx : Nat) : Head :=
  if mftState h w ctx = 3 ∧ fget h w FOQ_CTX_STATE_INFLIGHT ctx = 0 then fset h w MFT_CTX_STATE_STATE 0 ctx else h

/-- The windows a wing's contexts advertise brought up to date after a bound is entered or left (R134). -/
def syncWindows (h : Head) : Head :=
  foldHead h h.mft (fun h e =>
    let w : Wing := if e.1 < 32768 then .east else .west
    let ctx := e.1 % 32768
    if mftState h w ctx = 1 ∧ e.2.closed ≠ fetchHeld h w then pumpAll (sendAck h w ctx) w ctx else h)

end Sys2Proof.Machine
end

