-- ==== Sys2Proof/Machine/Replication.lean ====
section
/-! DEFINITION. Replication (spec/12_replication.md): synchronous writes, numbered editions and the site lock, consignments at the
source and at the target, failover. -/

namespace Sys2Proof.Machine

open Reg

/-! ### A collection's entry -/

/-- A replicated collection's record (R339). -/
def rplColl (h : Head) (coll : Nat) : RplColl := (tabGet? h.rpl.colls coll).getD ⟨0, 0, none, none, false, false, false⟩

def rplMode (h : Head) (coll : Nat) : Nat := fget h .east RPL_MAP_MODE_MODE coll

/-- STATE as it follows from the mode and the record (R361). -/
def rplStateNow (h : Head) (coll : Nat) : Nat :=
  let c := rplColl h coll
  match rplMode h coll with
  | 0 => 0
  | 3 => 5
  | m => if c.ship.isSome then 3 else if c.diverged then 4 else m

def syncRpl (h : Head) (coll : Nat) : Head := fset h .east RPL_MAP_MODE_STATE (rplStateNow h coll) coll

def rplUpd (h : Head) (coll : Nat) (f : RplColl → RplColl) : Head :=
  syncRpl { h with rpl := { h.rpl with colls := tabPut h.rpl.colls coll (f (rplColl h coll)) } } coll

/-- A command's result (R361). -/
def rplResult (h : Head) (coll : Nat) (st : Status) : Head := fset h .east RPL_PROGRESS_RESULT (statusCode st) coll

def setLeft (h : Head) (coll n : Nat) : Head := fset h .east RPL_PROGRESS_LEFT (min n (2 ^ 24 - 1)) coll

/-- The namespaces of a replicated collection: those that are no exposed edition. -/
def rplNs (h : Head) (coll : Nat) : List Namespace := (nsOfColl h coll).filter (fun n => !n.readOnly)

/-- The newest edition number of a collection, 0 where it has none. -/
def newestNumber (h : Head) (coll : Nat) : Nat := ((rplNs h coll).map (fun n => ((newestEdition? n).map (·.number)).getD 0)).foldl max 0

/-- Something of the collection is unanswered (R359, R361), at the source or at the target. -/
def rplOutstanding (h : Head) (coll : Nat) : Bool :=
  h.rpl.reqs.any (fun r => r.coll == coll) || (rplColl h coll).ship.isSome ||
    h.rpl.incoming.any (fun q => q.1 == coll) || h.rpl.acks.any (fun a => a.1 == coll)

/-! ### Messages (R342, R343) -/

def rtypeOf : RplBody → Nat
  | .syncWrite _ => 1
  | .begin _ _ => 2
  | .offer _ _ => 3
  | .case _ _ _ _ => 4
  | .unmap _ => 5
  | .commit _ _ _ => 6
  | .reply _ => 0x80

/-- The bytes of a request's message. -/
def rplBytes (b : RplBody) : Nat := 16 + (rplBodyBytes b).len

def rplSend (h : Head) (coll rtype status nsid rtag : Nat) (b : RplBody) : Head :=
  send h (.rpl coll (fget h .east RPL_MAP_CONN_CONTEXT coll) rtype status nsid rtag b)

/-- A new request sent, with the collection's next RTAG. -/
def rplRequest (h : Head) (coll nsid : Nat) (b : RplBody) : Nat × Head :=
  let t := (rplColl h coll).rtag
  let h := rplUpd h coll (fun c => { c with rtag := t + 1 })
  (t, rplSend { h with rpl := { h.rpl with reqs := h.rpl.reqs ++ [⟨coll, t, nsid, b, false⟩] } } coll (rtypeOf b) 0 nsid t b)

/-- The reply to a request. -/
def rplReply (h : Head) (coll nsid rtag rtype : Nat) (st : Status) (have' : List Bool := []) : Head :=
  rplSend h coll (rtype + 0x80) (statusCode st) nsid rtag (.reply have')

/-! ### The keeper (R350, R351) -/

def keeperSend (h : Head) (coll : Nat) (cas : Bool) (offset arg swap : Nat) : Head :=
  send h (.keeper coll (fget h .east RPL_MAP_KEEPER_CONTEXT coll) (fget h .east RPL_MAP_RKEY_RKEY coll) cas offset arg swap)

def lockHeld (v : Nat) : Bool := v.testBit 63
def lockSite (v : Nat) : Nat := v >>> 49 % 2 ^ 14
def mySite (h : Head) : Nat := fget h .east RPL_SITE_SITE

/-- The lock word shows this site as its holder. -/
def lockMine (h : Head) (v : Nat) : Bool := lockHeld v && lockSite v == mySite h

/-- The word a CAS swaps in: held by this site, its epoch one more where the compared word does not show this site as holder. -/
def lockWord (h : Head) (v : Nat) : Nat :=
  2 ^ 63 + mySite h <<< 49 + (v % 2 ^ 32 + ofBool (!lockMine h v)) % 2 ^ 32

/-- The lock acquired or checked (R351), with the ORIGINALs that come back, none for a TIMEOUT. With `force` the holder found is no
bar. A word last seen under another holder is compared as free, so that the lock is not taken from a holder without FORCE. -/
def takeLock (h : Head) (coll : Nat) (force : Bool) (answers : List (Option Nat)) : Head × Status :=
  let seen := (rplColl h coll).lock
  let cmp := if lockHeld seen && !lockMine h seen && !force then seen % 2 ^ 32 else seen
  let keep (h : Head) (v : Nat) : Head := rplUpd h coll (fun c => { c with lock := v })
  let refused (h : Head) (v : Nat) : Head × Status := (raise (keep h v) (collHome h coll) Ev.RPL_LOCK_REFUSED, .limit)
  let h := keeperSend h coll true 8 cmp (lockWord h cmp)
  match answers with
  | [] | none :: _ => (h, .timeout)
  | some o :: rest =>
    if o = cmp then (keep h (lockWord h cmp), .done)
    else if lockHeld o && !lockMine h o && !force then refused h o
    else
      let h := keeperSend (keep h o) coll true 8 o (lockWord h o)
      match rest with
      | [] | none :: _ => (h, .timeout)
      | some o' :: _ => if o' = o then (keep h (lockWord h o), .done) else refused h o'

/-- The site lock as last seen is held here (R358). -/
def holdsLock (h : Head) (coll : Nat) : Bool := lockMine h (rplColl h coll).lock

/-! ### Synchronous replication (R344 to R348) -/

/-- A SYNC collection enters DIVERGED (R347): what waited to be sent is dropped. -/
def diverge (h : Head) (coll : Nat) : Head :=
  if (rplColl h coll).diverged then h
  else
    let h := { h with rpl := { h.rpl with
      reqs := h.rpl.reqs.filter (fun r => r.coll != coll)
      queue := h.rpl.queue.filter (fun q => q.coll != coll)
      flight := h.rpl.flight.filter (fun q => q.2.coll != coll) } }
    raise (rplUpd h coll (fun c => { c with diverged := true })) (collHome h coll) Ev.RPL_SYNC_BROKEN

/-- An item of the queue may be sent (R345, R350): an edition point with nothing of its collection before it and none unanswered; a
granule with no edition point and no version of it before it, and none of it unanswered. -/
def syncReady (h : Head) (before : List SyncItem) (i : SyncItem) : Bool :=
  let mine := before.filter (fun q => q.coll == i.coll)
  running h (pg .rpl (collHome h i.coll)) &&
    (if i.commit.isSome then mine == [] && !h.rpl.flight.any (fun q => q.2.coll == i.coll)
     else mine.all (fun q => q.commit.isNone && !(q.nsid == i.nsid && q.granule == i.granule)) &&
       !h.rpl.flight.any (fun q => q.2.coll == i.coll && q.2.nsid == i.nsid && q.2.granule == i.granule))

/-- The items of the queue that may be sent, in order. -/
def syncSendable (h : Head) : List SyncItem :=
  ((List.range h.rpl.queue.length).filterMap (fun k =>
    (h.rpl.queue[k]?).bind (fun i => if syncReady h (h.rpl.queue.take k) i then some i else none)))

/-- One message of the queue: an edition point, or up to eight granules of one namespace (R344). -/
def syncSendOne (h : Head) : Head :=
  let ready := syncSendable h
  match ready with
  | [] => h
  | i :: _ => match i.commit with
    | some (edition, base, changed) =>
      let h := { h with rpl := { h.rpl with queue := h.rpl.queue.filter (fun q => q != i) } }
      (rplRequest h i.coll 0 (.commit edition base changed)).2
    | none =>
      let l := (ready.filter (fun q => q.commit.isNone && q.coll == i.coll && q.nsid == i.nsid)).take 8
      let h := { h with rpl := { h.rpl with queue := h.rpl.queue.filter (fun q => !l.contains q) } }
      let (t, h) := rplRequest h i.coll i.nsid (.syncWrite (l.map (fun q => (q.granule, Config.guard64 4096 q.data % 2 ^ 64, q.data))))
      { h with rpl := { h.rpl with flight := h.rpl.flight ++ l.map (fun q => (t, q)) } }

/-- Everything that may be sent is sent. -/
def syncPump (h : Head) : Head := (List.range h.rpl.queue.length).foldl (fun h _ => syncSendOne h) h

/-- The dirty granules of SYNC collections that a takeover adopts, sent again (R348). -/
def syncResend (h : Head) (adopted : List Slot) : Head :=
  let l := adopted.filter (fun s => rplState h s.label.coll == 1 && h.vit.slots.any (fun x => x.wing == s.wing && x.nsid == s.nsid && x.wseq == s.wseq))
  { h with rpl := { h.rpl with queue := h.rpl.queue ++ l.map (fun s => ⟨s.label.coll, s.nsid, s.granule, s.wseq, s.data, none⟩) } }

/-! ### Numbered editions (R350) -/

/-- Every namespace of a collection can be frozen at a number. -/
def mayFreeze (h : Head) (coll number : Nat) : Status :=
  let l := rplNs h coll
  if l.any (fun n => decide (number ≤ n.lastEdition)) then .protocol
  else if l.any (fun n => decide (16384 ≤ n.editions.length)) || decide (1048576 < pairEditions h + l.length) then .noResource
  else .done

/-- Every namespace of a collection frozen at a number. -/
def freezeColl (h : Head) (coll number : Nat) : Head × Status :=
  match mayFreeze h coll number with
  | .done => (foldHead h (rplNs h coll) (fun h n => freezeNs h n number), .done)
  | .noResource => (raise h .east Ev.CAT_EDITION_LIMIT, .noResource)
  | st => (h, st)

/-- The granules that differ between an edition of a namespace and its base (R352 step 3), by leaf, subtrees alike skipped: granule and
the edition's locator. -/
def diffLeaves (now base : Tab Leaf) : List (Nat × Nat) :=
  let idx := (now.map (·.1)) ++ ((base.map (·.1)).filter (fun i => !tabHas now i))
  ((sortOn (fun i => [i]) idx).map (fun i =>
    let a := (tabGet? now i).getD ⟨0, []⟩
    let b := (tabGet? base i).getD ⟨0, []⟩
    if a.ver = b.ver then []
    else
      let slots := (a.ents.map (·.1)) ++ ((b.ents.map (·.1)).filter (fun k => !tabHas a.ents k))
      (sortOn (fun k => [k]) slots).filterMap (fun k =>
        let x := tabGet a.ents locUnmapped k
        if x = tabGet b.ents locUnmapped k then none else some (512 * i + k, x)))).flatten

/-- The changed granules of a namespace in an edition against a base, 0 for none. -/
def nsDiff (n : Namespace) (edition base : Nat) : List (Nat × Nat) :=
  let leaves (k : Nat) : Tab Leaf := ((editionOf n k).map (·.leaves)).getD []
  diffLeaves (leaves edition) (leaves base)

/-- FREEZE_NUMBERED (R350), with the counter's ORIGINAL. In SYNC the edition point travels too. -/
def freezeNumbered (h : Head) (coll : Nat) (original : Option Nat) : Head × Status :=
  let h := keeperSend h coll false 0 1 0
  match original with
  | none => (h, .timeout)
  | some o =>
    let number := (o + 1) % 2 ^ 32
    let base := newestNumber h coll
    let (h, st) := freezeColl h coll number
    if st ≠ .done then (h, st)
    else
      let h := fset h .east RPL_EDITION_NUMBER number coll
      if rplState h coll ≠ 1 then (h, .done)
      else
        let changed := ((rplNs h coll).map (fun n => (nsDiff n number base).length)).sum
        ({ h with rpl := { h.rpl with queue := h.rpl.queue ++ [⟨coll, 0, 0, 0, 0, some (number, base, changed)⟩] } }, .done)

/-! ### The consignment at the source (R352, R354, R356) -/

def setShip (h : Head) (coll : Nat) (s : Option Ship) : Head := rplUpd h coll (fun c => { c with ship := s })

/-- A consignment ends: nothing of it stays held or wanted, and with RESUME_SYNC admission goes on. -/
def clearShip (h : Head) (coll : Nat) (s : Ship) : Head :=
  let h := { h with
    rpl := { h.rpl with reqs := h.rpl.reqs.filter (fun r => r.coll != coll), shipped := [], lost := [] }
    cat := { h.cat with heldEditions := h.cat.heldEditions.filter (fun e => e.1 != coll) } }
  let h := if (h.rpl.colls.filter (fun e => e.1 != coll)).any (fun e => e.2.ship.isSome) then h else dropWork h (fun w => w.job == .ship)
  rplUpd h coll (fun c => { c with ship := none, hold := if s.resume then false else c.hold })

/-- A consignment that stops (R356). -/
def endShip (h : Head) (coll : Nat) (st : Status) : Head :=
  match (rplColl h coll).ship with
  | none => h
  | some s => raise (rplResult (clearShip h coll s) coll st) (collHome h coll) Ev.RPL_SHIP_FAIL

/-- COMMIT has been answered (R352 step 6, R349 step 4). -/
def shipDone (h : Head) (coll : Nat) (s : Ship) : Head :=
  let w := collHome h coll
  let h := fset (clearShip h coll s) .east RPL_MAP_BASE_EDITION s.edition coll
  let h := raise (rplResult h coll .done) w Ev.RPL_SHIP_DONE
  if s.resume then raise (rplUpd h coll (fun c => { c with diverged := false })) w Ev.RPL_SYNC_RESTORED else h

/-- Runs of granules of one kind, in order (R343 UNMAP): first granule, count, kind. -/
def runsOf : List (Nat × Nat) → List (Nat × Nat × Nat)
  | [] => []
  | (g, k) :: rest => match runsOf rest with
    | (g', c, k') :: tail => if g' = g + 1 ∧ k' = k then (g, c + 1, k) :: tail else (g, 1, k) :: (g', c, k') :: tail
    | [] => [(g, 1, k)]

/-- The fingerprint a locator's entry holds. -/
def fpAt (h : Head) (coll loc : Nat) : Option Nat := ((indexOf h coll).find? (fun e => e.loc == loc && !e.blind)).map (·.fp)

/-- A namespace's share of a consignment (R352 step 4): its UNMAP and OFFER messages, its granules that are NEED at once, and how many
granules changed. -/
def nsShare (h : Head) (coll edition base : Nat) (n : Namespace) : List (Nat × RplBody) × List RplGranule × Nat :=
  let shared := fbit h .east RPL_MAP_MODE_FP_SHARED coll
  let diff := nsDiff n edition base
  let holes := diff.filter (fun g => locSerial g.2 == 0)
  let data := (diff.filter (fun g => locSerial g.2 != 0)).map (fun g => (g.1, if shared then fpAt h coll g.2 else none))
  let offers := data.filterMap (fun g => g.2.map (fun fp => (g.1, fp)))
  let runs := runsOf (holes.map (fun g => (g.1, if g.2 = locZero then 2 else 0)))
  ((piecesOf 255 (runs.length + 1) runs).map (fun l => (n.nsid, RplBody.unmap l)) ++
      (piecesOf 64 (offers.length + 1) offers).map (fun l => (n.nsid, RplBody.offer edition l)),
    (data.filter (fun g => g.2.isNone)).map (fun g => ⟨n.nsid, g.1, none⟩), diff.length)

/-- The locator of a granule in an edition of its namespace. -/
def editionLoc (h : Head) (nsid edition granule : Nat) : Nat :=
  match nsGet? h nsid with
  | none => 0
  | some n => match editionOf n edition with
    | none => 0
    | some e => match tabGet? e.leaves (granule / 512) with
      | none => 0
      | some lf => tabGet lf.ents locUnmapped (granule % 512)

/-- The data of a granule that has been read. -/
def shippedAt (h : Head) (edition : Nat) (g : RplGranule) : Option Nat := tabGet? h.rpl.shipped (editionLoc h g.nsid edition g.granule)

/-- The read of a NEED granule's case (R352 step 5), unless it has been read or is being read. -/
def askShip (h : Head) (edition : Nat) (g : RplGranule) : Head :=
  let loc := editionLoc h g.nsid edition g.granule
  if (tabGet? h.rpl.shipped loc).isSome || h.rpl.lost.any (fun l => l.1 == caseLoc loc / 2 * 2) then h
  else match serialHall h (locSerial loc) with
    | none => lostShip h loc .mediaFail
    | some r =>
      let mine (w : Work) : Bool := w.job == .ship && w.hall == r.hall && w.row == r.row && w.panel == locPanel loc && w.only == some (locSheet loc)
      if workBusy h mine then h else addWork h [⟨.ship, r.hall, r.row, locPanel loc, some (locSheet loc), none⟩]

/-- The next CASE of a namespace's transit stream (R352 step 5): eight granules that have been read, or, with no OFFER unanswered, the
granules that are left; as one case, or one raw granule. -/
def transitCase (h : Head) (coll : Nat) (s : Ship) (nsid : Nat) : Option (RplBody × List RplGranule) :=
  let mine := (s.need.filter (fun g => g.nsid == nsid)).take 8
  let data := mine.filterMap (shippedAt h s.edition)
  let offered := h.rpl.reqs.any (fun r => r.coll == coll && rtypeOf r.body == 3) || s.todo != []
  if mine = [] ∨ data.length < mine.length ∨ (mine.length < 8 ∧ offered = true) then none
  else
    let st := compressCase coll (staticTables h coll 0) data
    let entry (g : RplGranule) (d : Nat) : Nat × Nat × Nat := (g.granule, Config.guard64 4096 d % 2 ^ 64, g.fp.getD 0)
    if st.raw then some (.case s.edition ((mine.zip data).take 1 |>.map (fun e => entry e.1 e.2)) true (data.headD 0), mine.take 1)
    else some (.case s.edition ((mine.zip data).map (fun e => entry e.1 e.2)) false st.bytes, mine)

def rplSpent (h : Head) (w : Wing) : Nat := if w = .east then h.rpl.spentE else h.rpl.spentW
def setSpent (h : Head) (w : Wing) (n : Nat) : Head :=
  { h with rpl := if w = .east then { h.rpl with spentE := n } else { h.rpl with spentW := n } }

/-- RPL_RATE in bytes of a frame (R31, R352). -/
def rplRate (h : Head) (w : Wing) : Nat := 1024 * frameBudget h 16 (fget h w RPL_RATE_KIB)

/-- A consignment message sent where the frame's rate has room; a message longer than a frame's rate goes first in a frame and is
charged to those that follow. None where there is no room. -/
def shipSend (h : Head) (coll nsid : Nat) (b : RplBody) : Option Head :=
  let w := collHome h coll
  let spent := rplSpent h w
  if !running h (pg .rpl w) || (spent != 0 && decide (rplRate h w < spent + rplBytes b)) then none
  else
    let h := match b with
      | .offer _ es => fadd h w RPL_CNT_OFFER_COUNT es.length
      | .case _ _ _ _ => fadd h w RPL_CNT_CASES_COUNT
      | _ => h
    some (rplRequest (setSpent h w (spent + rplBytes b)) coll nsid b).2

/-- The next message of a consignment sent, where there is one and it has room. -/
def shipStep (h : Head) (coll : Nat) : Head :=
  match (rplColl h coll).ship with
  | none => h
  | some s =>
    if !s.begun || s.committing then h
    else match s.todo with
      | (nsid, b) :: rest => match shipSend h coll nsid b with
        | some h => setShip h coll (some { s with todo := rest })
        | none => h
      | [] =>
        match (s.need.map (·.nsid)).findSome? (fun nsid => (transitCase h coll s nsid).map (fun c => (nsid, c))) with
        | some (nsid, b, gs) => match shipSend h coll nsid b with
          | some h => setShip h coll (some { s with need := s.need.filter (fun g => !gs.contains g) })
          | none => h
        | none =>
          if s.need = [] ∧ h.rpl.reqs.any (fun r => r.coll == coll) = false then
            match shipSend h coll 0 (.commit s.edition s.base s.changed) with
            | some h => setShip h coll (some { s with committing := true })
            | none => h
          else h

/-- A consignment driven on: reads asked for, a case that cannot be read ends it, messages sent as the rate allows. -/
def shipPump (h : Head) (coll : Nat) : Head :=
  match (rplColl h coll).ship with
  | none => h
  | some s =>
    let h := foldHead h s.need (fun h g => askShip h s.edition g)
    let wanted := s.need.map (fun g => caseLoc (editionLoc h g.nsid s.edition g.granule) / 2 * 2)
    match h.rpl.lost.find? (fun l => wanted.contains l.1) with
    | some (_, st) => endShip h coll st
    | none => (List.range (s.todo.length + s.need.length + 1)).foldl (fun h _ => shipStep h coll) h

/-- A consignment starts with BEGIN (R352), its base and edition held. -/
def startShip (h : Head) (coll edition : Nat) (resume : Bool) : Head :=
  let base := fget h .east RPL_MAP_BASE_EDITION coll
  let shares := (rplNs h coll).map (nsShare h coll edition base)
  let todo := (shares.map (·.1)).flatten
  let changed := (shares.map (fun x => x.2.2)).sum
  let h := { h with cat := { h.cat with heldEditions := h.cat.heldEditions ++ [(coll, base), (coll, edition)] } }
  let s : Ship := ⟨edition, base, resume, false, false, todo, (shares.map (fun x => x.2.1)).flatten, changed, changed⟩
  (rplRequest (setLeft (setShip h coll (some s)) coll changed) coll 0 (.begin edition base)).2

/-- Every namespace of the collection has the edition, and the base where it is not 0. -/
def mayShip (h : Head) (coll edition : Nat) : Bool :=
  let base := fget h .east RPL_MAP_BASE_EDITION coll
  rplNs h coll != [] && (rplNs h coll).all (fun n => (editionOf n edition).isSome && (base == 0 || (editionOf n base).isSome))

/-! ### Commands (R349 to R352, R356 to R358) -/

/-- A write of RPL_CMD on the collection that RPL_MAP_INDEX selects. The command runs on the head that owns the collection. -/
def rplCommand (h : Head) (ini : Initiator) (w : Wing) (f : Head → Nat → Head) : Head :=
  withWrite h ini (pg .rpl w) 0x068 (fun h =>
    let coll := fget h w RPL_MAP_INDEX_INDEX
    if (rplNs h coll).any (fun n => !n.owned) then rplResult h coll .fenced else f h coll)

/-- SHIP (R352). -/
def shipCmd (h : Head) (coll : Nat) (lock : List (Option Nat)) : Head :=
  let edition := fget h .east RPL_EDITION_NUMBER coll
  if rplOutstanding h coll ∨ (rplState h coll ≠ 2 ∧ rplState h coll ≠ 4) ∨ mayShip h coll edition = false then rplResult h coll .protocol
  else
    let (h, st) := takeLock h coll false lock
    if st ≠ .done then rplResult h coll st else startShip h coll edition false

/-- FREEZE_NUMBERED (R350). -/
def freezeNumberedCmd (h : Head) (coll : Nat) (original : Option Nat) : Head :=
  if rplMode h coll = 0 ∨ rplMode h coll = 3 then rplResult h coll .protocol
  else
    let (h, st) := freezeNumbered h coll original
    rplResult h coll st

/-- RESUME_SYNC (R349). -/
def resumeSyncCmd (h : Head) (coll : Nat) (lock : List (Option Nat)) (original : Option Nat) : Head :=
  if rplOutstanding h coll ∨ rplState h coll ≠ 4 ∨ rplMode h coll ≠ 1 then rplResult h coll .protocol
  else
    let (h, st) := takeLock h coll false lock
    if st ≠ .done then rplResult h coll st
    else
      let (h', st) := freezeNumbered (rplUpd h coll (fun c => { c with hold := true })) coll original
      if st ≠ .done then rplResult (rplUpd h' coll (fun c => { c with hold := false })) coll st
      else
        let edition := fget h' .east RPL_EDITION_NUMBER coll
        if mayShip h' coll edition then startShip h' coll edition true
        else rplResult (rplUpd h' coll (fun c => { c with hold := false })) coll .protocol

/-- The live map of a namespace set to an edition's root (R357, R358): what only the live map held waits for the walk that releases it,
and what the Vitrine held of it is discarded. -/
def revertNs (h : Head) (n : Namespace) (e : Edition) : Head :=
  let own := n.leaves.filter (fun x => match tabGet? e.leaves x.1 with
    | some lf => lf.ver != x.2.ver
    | none => true)
  let kept := own.filter (fun x => !n.editions.any (fun d => (tabGet? d.leaves x.1).any (fun lf => lf.ver == x.2.ver)))
  let h := { h with cat := { h.cat with discarded := h.cat.discarded ++ kept.map (fun x => (n.coll, x.2)) } }
  let h := nsUpd h n.nsid (fun n => { n with leaves := e.leaves, pages := e.pages })
  freeSlots h (fun s => s.nsid == n.nsid && (isOwnDirty s.st || s.st == .clean))

/-- Every namespace of a collection reverted to the edition of a number. -/
def revertColl (h : Head) (coll number : Nat) : Head :=
  foldHead h (rplNs h coll) (fun h n => match editionOf n number with
    | some e => revertNs h n e
    | none => h)

/-- PROMOTE (R357). -/
def promoteCmd (h : Head) (coll : Nat) (force : Bool) (lock : List (Option Nat)) : Head :=
  if rplMode h coll ≠ 3 then rplResult h coll .protocol
  else
    let (h, st) := takeLock h coll force lock
    if st ≠ .done then rplResult h coll st
    else
      let c := rplColl h coll
      let newest := newestNumber h coll
      let h := if !c.sync || c.begun.isSome then revertColl h coll newest else h
      let late := h.rpl.incoming.filter (fun q => q.1 == coll)
      let h := { h with rpl := { h.rpl with incoming := h.rpl.incoming.filter (fun q => q.1 != coll) } }
      let h := foldHead h late (fun h q => rplReply h coll q.2.1 q.2.2.1 (rtypeOf q.2.2.2) .fenced)
      let h := fset (fset h .east RPL_MAP_MODE_MODE 2 coll) .east RPL_MAP_BASE_EDITION newest coll
      let h := rplUpd h coll (fun c => { c with begun := none, sync := false, diverged := false })
      raise (rplResult h coll .done) (collHome h coll) Ev.RPL_PROMOTED

/-- DEMOTE (R358). -/
def demoteCmd (h : Head) (coll : Nat) : Head :=
  let number := fget h .east RPL_EDITION_NUMBER coll
  if holdsLock h coll then rplResult h coll .limit
  else if rplOutstanding h coll ∨ (rplNs h coll).all (fun n => (editionOf n number).isSome) = false then rplResult h coll .protocol
  else
    let h := fset (revertColl h coll number) .east RPL_MAP_MODE_MODE 3 coll
    let h := { h with rpl := { h.rpl with queue := h.rpl.queue.filter (fun q => q.coll != coll) } }
    rplResult (rplUpd h coll (fun c => { c with begun := none, sync := false, diverged := false })) coll .done

/-- ABORT (R356). -/
def abortCmd (h : Head) (coll : Nat) : Head :=
  match (rplColl h coll).ship with
  | none => rplResult h coll .protocol
  | some _ => endShip h coll .aborted

/-- What follows a write of RPL_MAP_MODE.MODE (R361): the collection's record starts afresh. -/
def rplModeEffect (h : Head) (coll was : Nat) : Head :=
  if rplMode h coll = was then h
  else
    let h := { h with rpl := { h.rpl with queue := h.rpl.queue.filter (fun q => q.coll != coll) } }
    rplUpd h coll (fun c => { c with begun := none, sync := false, diverged := false, hold := false })

/-! ### Replies at the source -/

/-- A reply to a message of a consignment. -/
def shipReply (h : Head) (coll : Nat) (s : Ship) (r : RplReq) (st : Status) (bits : List Bool) : Head :=
  let less (h : Head) (s : Ship) (n : Nat) : Head := setLeft (setShip h coll (some { s with left := s.left - n })) coll (s.left - n)
  if st ≠ .done then match r.body, st with
    | .case _ _ _ _, .checkFail =>
      if r.resent then endShip h coll .checkFail
      else rplSend { h with rpl := { h.rpl with reqs := h.rpl.reqs ++ [{ r with resent := true }] } } coll 4 0 r.nsid r.rtag r.body
    | _, _ => endShip h coll st
  else match r.body with
    | .begin _ _ => setShip h coll (some { s with begun := true })
    | .offer _ es =>
      let l := es.zipIdx
      let need := (l.filter (fun e => !bits.getD e.2 false)).map (fun e => (⟨r.nsid, e.1.1, some e.1.2⟩ : RplGranule))
      let got := es.length - need.length
      less (fadd h (collHome h coll) RPL_CNT_HAVE_COUNT got) { s with need := s.need ++ need } got
    | .case _ es _ _ => less h s es.length
    | .unmap runs => less h s ((runs.map (fun x => x.2.1)).sum)
    | .commit _ _ _ => shipDone h coll s
    | _ => h

/-- RPL_REPLY (R342, R347, R352, R354). -/
def rplReplyMsg (h : Head) (coll rtag : Nat) (st : Status) (bits : List Bool) (micros : Nat) : Head :=
  match h.rpl.reqs.find? (fun r => r.coll == coll && r.rtag == rtag) with
  | none => h
  | some r =>
    let h := { h with rpl := { h.rpl with reqs := h.rpl.reqs.filter (fun x => !(x.coll == coll && x.rtag == rtag)) } }
    match (rplColl h coll).ship with
    | some s => shipReply h coll s r st bits
    | none => match r.body with
      | .syncWrite _ =>
        let h := fmax h (collHome h coll) RPL_SYNC_MAX_MICROS (min micros (2 ^ 32 - 1))
        let h := { h with rpl := { h.rpl with flight := h.rpl.flight.filter (fun q => !(q.1 == rtag && q.2.coll == coll)) } }
        if st = .done then h else diverge h coll
      | .commit edition _ _ => if st = .done then fset h .east RPL_MAP_BASE_EDITION edition coll else diverge h coll
      | _ => h

/-- A message unanswered after its timeout, or whose context has failed (R347, R356). -/
def rplTimeout (h : Head) (coll rtag : Nat) : Head :=
  match h.rpl.reqs.find? (fun r => r.coll == coll && r.rtag == rtag) with
  | none => h
  | some _ => if (rplColl h coll).ship.isSome then endShip h coll .timeout else diverge h coll

/-- SYNC_TIMEOUT and ASYNC_TIMEOUT, each for its own kind of message. -/
def syncTimeout (h : Head) (coll rtag : Nat) : Head := if (rplColl h coll).ship.isSome then h else rplTimeout h coll rtag
def asyncTimeout (h : Head) (coll rtag : Nat) : Head := if (rplColl h coll).ship.isSome then rplTimeout h coll rtag else h

/-- Collections with a message unanswered whose data context has failed. -/
def rplFailed (h : Head) : Head :=
  foldHead h h.rpl.reqs (fun h r =>
    if fget h (collHome h r.coll) MFT_CTX_STATE_STATE (fget h .east RPL_MAP_CONN_CONTEXT r.coll) = 2 then rplTimeout h r.coll r.rtag else h)

/-! ### The target (R346, R352 to R355) -/

/-- The granules of a request lie in its namespace. -/
def rplInside (n : Namespace) (l : List Nat) : Bool := l.all (fun g => decide (g < n.size))

/-- The wait for the mirror commit of a SYNC_WRITE is over (R346). -/
def ackDone (h : Head) (nsid : Nat) (seqs : List Nat) : Bool :=
  seqs.all (mirrorDone h nsid) && (hasPeer h || dumpReady h)

/-- SYNC_ACKs whose granules have their mirror commit. -/
def rplAcks (h : Head) : Head :=
  let done := h.rpl.acks.filter (fun a => ackDone h a.2.1 a.2.2.2)
  let h := { h with rpl := { h.rpl with acks := h.rpl.acks.filter (fun a => !done.contains a) } }
  foldHead h done (fun h a => rplReply h a.1 a.2.1 a.2.2.1 1 .done)

/-- What the Vitrine holds of a granule that a consignment changes goes. -/
def dropGranule (h : Head) (nsid granule : Nat) : Head :=
  freeSlots h (fun s => s.nsid == nsid && s.granule == granule && (isOwnDirty s.st || s.st == .clean))

/-- The entry of an offered fingerprint that answers HAVE (R353). -/
def offerMatch (h : Head) (coll fp : Nat) : Option IndexEntry :=
  if fget h .east RGS_COLL_CFG_VERIFY coll = 1 then none
  else (indexOf h coll).find? (fun e => e.fp == fp && usable e && !e.pending)

/-- An OFFER applied: for each entry, whether HAVE. -/
def applyOffer (h : Head) (coll nsid : Nat) (es : List (Nat × Nat)) : Head × List Bool :=
  let r := es.foldl (fun (acc : Head × List Bool × List CatEntry) e =>
    let (h, bits, cs) := acc
    match offerMatch h coll e.2 with
    | none => (h, bits ++ [false], cs)
    | some x => match updateGranule (dropGranule h nsid e.1) nsid e.1 0 x.loc true with
      | (h, some c) => (h, bits ++ [true], cs ++ [c])
      | (h, none) => (h, bits ++ [false], cs)) (h, [], [])
  let w := homeOf r.1 nsid
  (if r.2.2 = [] then r.1 else sendUpdate r.1 w coll r.2.2, r.2.1)

/-- UNMAP runs applied (R343). -/
def applyUnmap (h : Head) (coll nsid : Nat) (runs : List (Nat × Nat × Nat)) : Head :=
  let gs := (runs.map (fun r => (List.range r.2.1).map (fun i => (r.1 + i, if r.2.2 = 2 then locZero else locUnmapped)))).flatten
  let r := gs.foldl (fun (acc : Head × List CatEntry) g =>
    match updateGranule (dropGranule acc.1 nsid g.1) nsid g.1 0 g.2 false with
    | (h, some c) => (h, acc.2 ++ [c])
    | (h, none) => (h, acc.2)) (h, [])
  sendUpdate r.1 (homeOf r.1 nsid) coll r.2

/-- The granules of a shipped case, each checked against its GUARD64 (R354); none where one fails. -/
def caseGranules (es : List (Nat × Nat × Nat)) (raw : Bool) (image : Nat) : Option (List Nat) :=
  if raw then
    (if es.all (fun e => Config.guard64 4096 (image % 2 ^ 32768) % 2 ^ 64 == e.2.1) then some [image % 2 ^ 32768] else none)
  else
    let stored := imageLen image
    let l := es.zipIdx.filterMap (fun e => match expandCase (image >>> 32 % 4096) e.2 e.1.2.1 stored image with
      | (.done, _, some d) => some d
      | _ => none)
    if l.length = es.length ∧ image >>> 24 % 16 = es.length then some l else none

/-- A shipped case stored (R354): COLL is the local index, the entries are filed from the shipped fingerprints or from computed ones,
and the case goes to the gallery assembler. -/
def storeCase (h : Head) (coll nsid : Nat) (es : List (Nat × Nat × Nat)) (raw : Bool) (image : Nat) (data : List Nat) : Head :=
  let w := homeOf h nsid
  let slot := ((tabGet? h.bindings coll).map (·.fpSlot)).getD 0
  let shared := fbit h .east RPL_MAP_MODE_FP_SHARED coll
  let items := (es.zip data).map (fun e =>
    let fp := if shared && e.1.2.2 != 0 then e.1.2.2 else fingerprint h slot e.2
    (fp, (⟨withCrc { hostLabel coll e.2 with fptag := fp % 2 ^ 64 }, nsid, e.1.1, 0, w, 0, fp % 2 ^ 64, e.2⟩ : GalItem)))
  let h := foldHead h items (fun h i =>
    filterInsert (setIndex (dropGranule h nsid i.2.granule) coll (indexOf h coll ++ [newEntry h i.1])) w coll i.1)
  let bytes := if raw then image % 2 ^ 32768 else image - (image >>> 32 % 4096) <<< 32 + coll <<< 32
  let sheets := if raw then 8 else (64 + image >>> 64 % 2 ^ 32 + 511) / 512
  placeCase h w ⟨coll, 0, 0, sheets, raw, false, bytes, items.map (·.2)⟩

/-- A shipped case of the collection is not committed yet. -/
def shippedOpen (h : Head) (coll : Nat) : Bool :=
  let hit (c : GalCase) : Bool := c.coll == coll && !c.moved && c.items.any (fun i => i.wseq == 0)
  h.gal.queued.any (fun q => hit q.2) || h.gal.opens.any (fun g => g.cases.any hit)

/-- A request applied at the target, or none where it must wait: for room in the quota, for the fingerprint key, or, a COMMIT, for
everything before it (R346, R354, R355). -/
def applyRpl (h : Head) (coll nsid rtag : Nat) (b : RplBody) : Option Head :=
  let answer (h : Head) (st : Status) : Option Head := some (rplReply h coll nsid rtag (rtypeOf b) st)
  match b with
  | .syncWrite es =>
    if es.any (fun e => Config.guard64 4096 e.2.2 % 2 ^ 64 != e.2.1) then answer h .checkFail
    else if quotaGranules h < pairDirty h + es.length then none
    else
      let (h, seqs) := es.foldl (fun (acc : Head × List Nat) e =>
        let (q, h) := placeDirty acc.1 nsid e.1 e.2.2 coll false
        (h, acc.2 ++ [q])) (h, [])
      let h := rplUpd h coll (fun c => { c with sync := true })
      some { h with rpl := { h.rpl with acks := h.rpl.acks ++ [(coll, nsid, rtag, seqs)] } }
  | .begin edition base =>
    if (rplNs h coll).any (fun n => ((newestEdition? n).map (·.number)).getD 0 != base) then answer h .limit
    else answer (rplUpd h coll (fun c => { c with begun := some edition, sync := false })) .done
  | .offer _ es =>
    let (h, bits) := applyOffer h coll nsid es
    some (rplReply h coll nsid rtag 3 .done bits)
  | .case _ es raw image =>
    match caseGranules es raw image with
    | none => answer h .checkFail
    | some data =>
      if (mediaKey h coll).isNone then answer h .keyInvalid
      else if !h.eng.fpStates.contains coll then none
      else answer (storeCase h coll nsid es raw image data) .done
  | .unmap runs => answer (applyUnmap h coll nsid runs) .done
  | .commit edition _ _ =>
    if shippedOpen h coll || h.rpl.acks.any (fun a => a.1 == coll) then none
    else if edition ≤ newestNumber h coll then answer (rplUpd h coll (fun c => { c with begun := none })) .done
    else
      let (h, st) := freezeColl h coll edition
      answer (if st = .done then rplUpd h coll (fun c => { c with begun := none }) else h) st
  | .reply _ => some h

/-- The entries of a request, and the most its type allows (R343). -/
def rplCounts : RplBody → Nat × Nat
  | .syncWrite es => (es.length, 8)
  | .offer _ es => (es.length, 64)
  | .case _ es raw _ => (es.length, if raw then 1 else 8)
  | .unmap runs => (runs.length, 255)
  | _ => (1, 1)

/-- The granules a request names. -/
def rplGranules : RplBody → List Nat
  | .syncWrite es => es.map (·.1)
  | .offer _ es => es.map (·.1)
  | .case _ es _ _ => es.map (·.1)
  | .unmap runs => runs.map (fun r => r.1 + r.2.1 - 1)
  | _ => []

/-- A request's form as R343 has it. -/
def rplForm (b : RplBody) : Bool :=
  let (n, most) := rplCounts b
  decide (1 ≤ n) && decide (n ≤ most) && (match b with
    | .unmap runs => runs.all (fun r => decide (1 ≤ r.2.1) && (r.2.2 == 0 || r.2.2 == 2))
    | _ => true)

/-- A request for one namespace: its COUNT and its namespace are checked. BEGIN and COMMIT name none. -/
def rplNsCheck (h : Head) (coll nsid : Nat) (b : RplBody) : Status :=
  match b with
  | .begin _ _ | .commit _ _ _ => .done
  | _ =>
    if !rplForm b then .protocol
    else match nsGet? h nsid with
      | none => .collMismatch
      | some n => if n.coll ≠ coll ∨ n.readOnly then .collMismatch else if rplInside n (rplGranules b) then .done else .protocol

/-- A replication request arrives (R340, R346): answered FENCED but in mode TARGET with ACCEPT 1 on the owner head; kept in order. -/
def rplArrives (h : Head) (coll nsid rtag : Nat) (b : RplBody) : Head :=
  let fenced := !fbit h (collHome h coll) RPL_CTRL_ACCEPT || rplMode h coll != 3 || (rplNs h coll).any (fun n => !n.owned)
  if fenced then rplReply h coll nsid rtag (rtypeOf b) .fenced
  else match rplNsCheck h coll nsid b with
    | .done =>
      let wait (h : Head) : Head := { h with rpl := { h.rpl with incoming := h.rpl.incoming ++ [(coll, nsid, rtag, b)] } }
      if h.rpl.incoming.any (fun q => q.1 == coll) then wait h else (applyRpl h coll nsid rtag b).getD (wait h)
    | st => rplReply h coll nsid rtag (rtypeOf b) st

/-- The requests that wait, tried again in order; a collection's stop at its first that must go on waiting. -/
def rplIncoming (h : Head) : Head :=
  let l := h.rpl.incoming
  (l.foldl (fun (acc : Head × List Nat) q =>
    let (h, stopped) := acc
    let keep (h : Head) : Head := { h with rpl := { h.rpl with incoming := h.rpl.incoming ++ [q] } }
    if stopped.contains q.1 then (keep h, stopped)
    else match applyRpl h q.1 q.2.1 q.2.2.1 q.2.2.2 with
      | some h => (h, stopped)
      | none => (keep h, stopped ++ [q.1])) ({ h with rpl := { h.rpl with incoming := [] } }, [])).1

/-! ### The engine at work -/

/-- What the replication engine does after each command: acknowledgements, waiting requests, failed contexts, messages to send. -/
def rplRun (h : Head) : Head :=
  let h := rplFailed (rplIncoming (rplAcks h))
  foldHead (syncPump h) (h.rpl.colls.map (·.1)) shipPump

/-- A frame's start: the rate of the frame is free again (R352). -/
def rplTick (h : Head) : Head :=
  foldHead h wings (fun h w => setSpent h w (rplSpent h w - rplRate h w))

/-- TAKEOVER (R173) with its effect on replication (R348, R356). -/
def takeoverRpl (h : Head) (micros : Nat) : Head :=
  let t := takeover h micros
  if pairState h = 5 ∧ pairState t = 0 then
    syncResend (foldHead t (t.rpl.colls.map (·.1)) (fun h coll => endShip h coll .aborted)) (h.vit.slots.filter (fun s => s.st == .mirror))
  else t

end Sys2Proof.Machine
end

