-- ==== Sys2Proof/Machine/BlockReset.lean ====
section
/-! DEFINITION. Block reset (R12, R55): which fields survive one, which a chip reset, and what a block loses with its page. -/

namespace Sys2Proof.Machine

open Reg

/-! ### What survives -/

/-- Fields whose description, or whose page's rule, says that they survive block reset (R12, R49, R80, R116, R213, R413). -/
def blockKept : List Fld :=
  [FRM_CTRL_LENGTH, FRM_CTRL_ROLE, FRM_LENGTH_SET_COUNTDOWN, FRM_LENGTH_SET_CHANGE, FRM_LOCK_PHASE_ERR, FRM_LOCK_RUN, FRM_LOCK_MISSED,
    FRM_LOCK_STATE, FRM_FRAME_LO_FRAME, FRM_FRAME_HI_FRAME, FRM_WIRE_WIRE_COUNT, FRM_WIRE_WIRE_OFFSET, FRM_TIME_LO_TIME,
    FRM_TIME_HI_TIME, FRM_SLOT_SLOT, FRM_SLOT_SLOT_NS] ++
  [EVT_ROUTE_DATA_DOC_COPY, EVT_ROUTE_DATA_LOCKED, EVT_ROUTE_DATA_KIND, EVT_ROUTE_DATA_RESPONDER, EVT_ROUTE_DATA_MLEVEL,
    EVT_ROUTE_DATA_HART, EVT_ROUTE_DATA_IDENTITY, EVT_SW_STATUS_EVENTS, EVT_SW_ENABLE_EVENTS, EVT_WG_MEMBERS_LO_HARTS,
    EVT_WG_MEMBERS_HI_HARTS, EVT_WG_TIMEOUT_MICROS, EVT_WG_RESCUE_VALID, EVT_WG_RESCUE_IDENTITY, EVT_WG_RESCUE_HART,
    EVT_WG_STATE_STALLED, EVT_WG_STATE_WAITING, EVT_WG_STATE_QUIET_MICROS, EVT_WG_STALLED_LO_GROUPS, EVT_WG_STALLED_HI_GROUPS] ++
  [CHP_RESET_CAUSE_POWER_ON, CHP_RESET_CAUSE_EXTERNAL, CHP_RESET_CAUSE_WATCHDOG, CHP_RESET_CAUSE_ALARM, CHP_RESET_CAUSE_DOCENT,
    CHP_RESET_CAUSE_BROWN_OUT] ++
  [FOQ_COLL_RATE_CREDIT, FOQ_COLL_BURST_ELASTIC, FOQ_COLL_BURST_BURST, FOQ_COLL_BANK_BANK] ++
  [MFT_CTX_STATE_GEN, VIT_WSEQ_LO_WSEQ, VIT_WSEQ_HI_WSEQ, ANX_PAIR_STATE_EPOCH, CAT_CKPT_LAST_NUMBER, CCH_FENCED_WAYS,
    DGE_CNT_MEASURE_COUNT, CPH_ERASE_ERASED, CPH_ERASE_COUNT, GAL_SERIAL_LO_NEXT, GAL_SERIAL_HI_NEXT, GAL_RESHAPE_BOUND_HALL,
    GAL_CNT_LOST_COUNT, CUR_CNT_RECLAIMED_COUNT, CUR_CNT_RETIRED_COUNT, CSV_SCRUB_PASSES, MEM_CHAN_STATUS_FENCED, MEM_RETIRE_USED,
    MEM_CNT_CE_COUNT, MEM_CNT_UE_COUNT, HBM_PCH_STATE_STATE, HBM_CNT_CE_COUNT, HBM_CNT_UE_COUNT] ++
  [KEY_SLOT_ATTR_STATE, KEY_SLOT_ATTR_KIND, KEY_SLOT_ATTR_USAGE, KEY_SLOT_ATTR_SYSTEM, KEY_SLOT_ATTR_COLL, KEY_SLOT_GEN_GEN,
    KEY_BIND_ID_VALID, KEY_BIND_ID_COLL_ID, KEY_BIND_SLOTS_FP_SHARED, KEY_BIND_SLOTS_HOME_WING, KEY_BIND_SLOTS_FP_SLOT,
    KEY_BIND_SLOTS_MEDIA_SLOT, KEY_CNT_LOAD_COUNT, MSR_COUNT_COUNT, MSR_USED_USED, MSR_VALUE0_WORD, MSR_VALUE1_WORD, MSR_VALUE2_WORD,
    MSR_VALUE3_WORD, MSR_VALUE4_WORD, MSR_VALUE5_WORD, MSR_VALUE6_WORD, MSR_VALUE7_WORD, MSR_VALUE8_WORD, MSR_VALUE9_WORD,
    MSR_VALUE10_WORD, MSR_VALUE11_WORD, ALM_LAST_VALID, ALM_LAST_ALARM, ALM_COUNT_COUNT, ARC_STATUS_STOPPED, ARC_XO_CFG_LOCK,
    ARC_CNT_PROG_COUNT, ARC_CNT_ERASE_COUNT, PRV_NEWEST_SEQ, PRV_OLDEST_SEQ, PRV_LOST_COUNT, PRV_HOURS_HOURS, PRV_CYCLES_COUNT,
    WDG_EXPIRED_COUNT, PWR_WAKE_FOY_SIGNAL, PWR_CNT_SAG_COUNT, RSV_STATUS_BUS_TRIPPED, RSV_DUMP_KEY_FRESH, RSV_DUMP_TIME_MS,
    RSV_CNT_TRIP_COUNT]

/-- Read-only fields that show state held outside the page's block, or state that a block reset does not touch: they go on showing it. -/
def blockShown : List Fld :=
  [CHP_LIFECYCLE_STATE, CHP_LIFECYCLE_DEBUG_OPEN, FOQ_FUSED_RECORDS, VIT_QUOTA_NOW_PAIR_DIRTY_MIB, VIT_DIRTY_OWN_GRANULES,
    VIT_MIRROR_USED_GRANULES, VIT_CLEAN_GRANULES, VIT_RETAIN_RETAINED, VIT_RETAIN_RETAINED_MIB, CAT_JOURNAL_USED_MIB,
    CAT_STORE_DIRTY_GIB, CAT_EDITIONS_PAIR, RGS_COLL_SLOT_BOUND, RGS_COLL_SLOT_FP_SLOT, RGS_COLL_ENTRIES_LO_ENTRIES, RGS_COLL_ENTRIES_HI_ENTRIES,
    RGS_COLL_BLIND_COUNT, DGE_UNITS_ACTIVE, DGE_UNITS_SPARE, DGE_UNITS_FAILED, DGE_UNIT_STATE_STATE, DGE_UNIT_STATE_CAUSE,
    CDC_UNITS_ACTIVE, CDC_UNITS_SPARE, CDC_UNITS_FAILED, CDC_UNIT_STATE_STATE, CDC_UNIT_STATE_CAUSE, CPH_UNITS_ACTIVE, CPH_UNITS_SPARE,
    CPH_UNITS_FAILED, CPH_UNIT_STATE_STATE, CPH_UNIT_STATE_CAUSE, DGE_FP_STATES_HELD, GAL_RING_OPEN, GAL_RESYNC_RUNNING, GAL_RESYNC_VERIFYING, GAL_RESYNC_LEFT, GAL_REBUILD_BUSY,
    GAL_REBUILD_LEFT_GALLERIES, GAL_RESHAPE_RUNNING, GAL_RESHAPE_TARGET_N, PLK_STATUS_PRESENT, DSP_OPS_PROG_ERASE, DSP_OPS_READS,
    CUR_FREE_BLOCKS, CUR_WEAR_STAT_MEAN, CUR_WEAR_STAT_SPREAD, CUR_HALLS_FILLING, CUR_HALLS_OWNED, CUR_RECLAIM_ACTIVE, CUR_RECLAIM_HALL,
    CUR_VAULT_READY, CUR_VAULT_GEN, CUR_VAULT_BLOCKS, CUR_ANCHOR_SEQ, CSV_QUEUE_CASES, CSV_QUEUE_BLOCKS, CPU_CORE_STATE_RUNG,
    CPU_CORE_STATE_CAUSE, CPU_CORE_STATE_STATE, MEM_CHAN_STATUS_PRESENT, MEM_CHAN_STATUS_TRAINED, DOC_STATUS_ROM_VER, DOC_STATUS_STAGE,
    DOC_STATUS_FALLBACK, DOC_STATUS_OS_TRIAL, DOC_STATUS_DOC_TRIAL, DOC_STATUS_OS_SLOT, DOC_STATUS_DOC_SLOT, KEY_STATUS_ACTIVE,
    ALM_STATUS_ACTIVE, ARC_STATUS_BUSY, ARC_STATUS_BOR, ARC_STATUS_STOP, ARC_STATUS_OFFSET, ARC_XO_BASE_SECTOR, ARC_XO_CFG_LOCKED,
    ARC_XO_CFG_FETCH, ARC_XO_CFG_SECTORS, PRV_BUFFER_HELD, UPD_STATUS_BUSY, UPD_STATUS_RECOVERED, UPD_STATUS_RESULT,
    UPD_STATUS_SECTORS_LEFT, UPD_SLOTS_STATE, UPD_TRIAL_LEFT, UPD_SVN_OS_SVN, UPD_SVN_DOC_SVN, UPD_FLOOR_OS, UPD_FLOOR_DOC, PWR_MODE_MODE,
    PWR_MODE_IN_TRANSIT, PWR_CORE_RUNG_CURRENT, PWR_CORE_RUNG_IN_TRANSIT,
    PWR_TEMP_HBM_MAX_C, PWR_TEMP_DIE_MAX_C, PWR_TEMP_SENSOR, RSV_STATUS_MAINS_OK, RSV_DUMP_STATE, RSV_DUMP_MIB_DONE]

/-- Fields that survive a chip reset that is not power-on (R12, R81, R177, R413, R461). -/
def chipKept : List Fld :=
  [CHP_RESET_CAUSE_POWER_ON, CHP_RESET_CAUSE_EXTERNAL, CHP_RESET_CAUSE_WATCHDOG, CHP_RESET_CAUSE_ALARM, CHP_RESET_CAUSE_DOCENT,
    CHP_RESET_CAUSE_BROWN_OUT, ANX_PAIR_STATE_EPOCH, CAT_CKPT_LAST_NUMBER, GAL_RESHAPE_RUNNING, GAL_RESHAPE_TARGET_N,
    GAL_RESHAPE_BOUND_HALL, CPH_ERASE_COUNT, KEY_SLOT_ATTR_KIND, KEY_SLOT_ATTR_USAGE, KEY_SLOT_ATTR_SYSTEM, KEY_SLOT_ATTR_COLL,
    KEY_SLOT_GEN_GEN, ALM_LAST_VALID, ALM_LAST_ALARM, ALM_COUNT_COUNT, ARC_CNT_PROG_COUNT, ARC_CNT_ERASE_COUNT, PRV_NEWEST_SEQ,
    PRV_OLDEST_SEQ, PRV_LOST_COUNT, PRV_HOURS_HOURS, PRV_CYCLES_COUNT, WDG_EXPIRED_COUNT, RSV_STATUS_MAINS_OK, RSV_DUMP_TIME_MS,
    RSV_CNT_TRIP_COUNT, PLK_STATUS_PRESENT]

/-- Fields that survive power-on too (R12, R190, R271, R461). -/
def powerKept : List Fld :=
  [CAT_CKPT_LAST_NUMBER, GAL_RESHAPE_RUNNING, GAL_RESHAPE_TARGET_N, GAL_RESHAPE_BOUND_HALL, PRV_NEWEST_SEQ, PRV_OLDEST_SEQ,
    PRV_LOST_COUNT, PRV_HOURS_HOURS, PRV_CYCLES_COUNT, RSV_STATUS_MAINS_OK, PLK_STATUS_PRESENT]

/-- The bits of a register that a list of fields keeps. -/
def keepMask (l : List Fld) (b : Block) (off : Nat) : Word :=
  l.foldl (fun m f => if f.block = b ∧ f.off = off then m ||| maskOf f.hi f.lo else m) 0

/-- A register's word with the kept bits as they were and the rest at their reset entries. -/
def resetEntry (l : List Fld) (p : Page) (off bank : Nat) (v : Word) : Word :=
  let m := if off < 0x40 then 0 else keepMask l p.block off
  (resetWord p off bank &&& ~~~ m) ||| (v &&& m)

/-- The registers of the pages that a test names, from an offset on, reset but for the kept fields. -/
def resetRegs (h : Head) (l : List Fld) (start : Nat) (mine : Page → Bool) : Head :=
  { h with
    regs := h.regs.filterMap (fun e => match pageOfNum (keyPage e.1) with
      | none => some e
      | some p =>
        if mine p ∧ start ≤ keyOff e.1 then
          let v := resetEntry l p (keyOff e.1) (keyBank e.1) e.2
          if v = resetWord p (keyOff e.1) (keyBank e.1) then none else some (e.1, v)
        else some e)
    pend := h.pend.filter (fun e => match pageOfNum (keyPage e.1) with | none => true | some p => !mine p)
    hiHold := h.hiHold.filter (fun e => match pageOfNum (keyPage e.1) with | none => true | some p => !mine p)
    hiLatch := h.hiLatch.filter (fun e => match pageOfNum (keyPage e.1) with | none => true | some p => !mine p) }

/-- A page's header at its reset entries. -/
def resetHeader (h : Head) (p : Page) : Head :=
  { h with regs := h.regs.filter (fun e => decide (keyPage e.1 ≠ pageNum p) || decide (0x40 ≤ keyOff e.1)) }

/-- The *opt* entries of the pages that a test names (R12, R439), as word 1 of the option area held them at chip reset; the defaults stand
where it was not good. -/
def loadOptions (h : Head) (mine : Page → Bool) : Head :=
  match h.arc.options with
  | some w => foldHead h ((optionFields w).filter (fun f => mine (pg f.1.block .east))) (fun h f => fset h .east f.1 f.2)
  | none => h

/-! ### What a block loses with its page -/

/-- An FOQ page's reset frees every transport context of its wing (R116). -/
def foqBlockReset (h : Head) (w : Wing) : Head :=
  let used := h.regs.filter (fun e => decide (keyPage e.1 = pageNum (pg .foq w)) && decide (keyOff e.1 = 0x05C))
  foldHead h (used.map (fun e => keyBank e.1)) (fun h c =>
    let h := if fget h w FOQ_CTX_BIND_TYPE c = 3 then
        let h := if mftState h w c ≠ 0 then mftFail h w c else h
        freeMehror (bumpGen h w c) w c
      else h
    freeContext h w c)

/-- The state beside its registers that a block loses in a block reset. -/
def blockLoss (h : Head) (p : Page) : Head :=
  let w := p.wing
  match p.block with
  | .frm => if w = .east then { h with frm := { h.frm with slewLeft := 0, slewCarry := 0, slewNow := 0 } } else h
  | .foy => { h with foy := { h.foy with
      paused := h.foy.paused.filter (fun k => decide (k / 8 ≠ prioKey w p.inst 0 / 8))
      storm := h.foy.storm.filter (fun k => decide (k / 8 ≠ prioKey w p.inst 0 / 8)) } }
  | .foq => foqBlockReset h w
  | .mft => { h with mft := h.mft.filter (fun e => decide (wingOf (e.1 / ctxKey .west 0) ≠ w)) }
  | .rgs => { h with cat := if w = .east then { h.cat with holdE := false } else { h.cat with holdW := false } }
  | .anx => settleSolo (setAnxLink h w .idle)
  | .dge | .cdc => { h with eng := { h.eng with chains := h.eng.chains.filter (fun c => !(c.cls == p.block && c.wing == w)) } }
  | .cph => { h with eng := { h.eng with
      chains := h.eng.chains.filter (fun c => !(c.cls == .cph && c.wing == w))
      tileKeys := h.eng.tileKeys.filter (fun e => decide (e.1 / 64 ≠ wingNum w)) } }
  | .plk => { h with plk := { h.plk with links := tabDel h.plk.links (32 * wingNum w + p.inst) } }
  | .rpl => if w = .east then { h with rpl := ⟨[], [], [], [], [], [], [], [], 0, 0⟩ } else h
  | .pwr => { h with pwr := { h.pwr with avs := h.pwr.avs.filter (fun e => decide (e.1 / 3 ≠ wingNum w)) } }
  | .dma => { h with core := { h.core with dmaOff := h.core.dmaOff.filter (fun c => decide (c / 8 ≠ wingNum w)) } }
  | .msr => { h with doc := { h.doc with msrInput := 0 } }
  | .key => { h with doc := { h.doc with stageId := 0, stageSlots := 0 } }
  | .arc => { h with arc := { h.arc with entries := 0, held := [] } }
  | .prv => { h with arc := { h.arc with recPayload := 0 } }
  | .rsv => { h with rsv := { RsvState.reset with
      dumpStart := h.rsv.dumpStart, dumpPanels := h.rsv.dumpPanels, dumpAcked := h.rsv.dumpAcked } }
  | _ => h

/-- What a block reset does beyond the page's header: an island at rung 4 reads so too (R543). -/
def blockBody (h : Head) (p : Page) : Head := resetRegs (blockLoss h p) (blockKept ++ blockShown) 0x40 (fun q => q == p)

/-- A block reset of a page (R12, R55): pending values are discarded, fields return to their reset entries but for those that survive,
and QUIESCE is left at 1. The island stays at the rung in force (R467, R473). Leaving rung 4 acts as one and leaves the island at rung 0. -/
def blockReset (h : Head) (p : Page) (leaving : Bool) : Head :=
  let h := blockBody h p
  let rung := rd h p 0x030 0
  let scratch := rd h p 0x038 0
  let fence := hget h p CTRL_FENCE
  let fenced := hget h p STATUS_FENCED
  let h := resetHeader (loadOptions h (fun q => q == p && p.block != .frm)) p
  let h := wr h p 0x030 0 (if leaving then 0 else rung &&& (maskOf 31 31 ||| maskOf 18 16))
  let h := hset (hset (wr h p 0x038 0 scratch) p CTRL_FENCE fence) p STATUS_FENCED fenced
  hset (hset (hset h p CTRL_QUIESCE 1) p STATUS_QUIESCED 1) p STATUS_RUNNING 0

end Sys2Proof.Machine
end

