-- ==== Sys2Proof/Machine/Bridge.lean ====
section
/-! DEFINITION. The plinth bridge (R280 to R297): commands and their slots, the die schedule, reads, witness entries, its timebase. -/

namespace Sys2Proof.Machine

open Reg

/-! ### The bridge's state -/

/-- A witness entry at bridge reset (R297). -/
def blankWit : WitEntry := ⟨false, false, false, true, 0, 0, 0, 0⟩

/-- A bridge at its reset. -/
def blankBridge : Bridge where
  wire := 0
  slot := 0
  len := 1
  phaseErr := 0
  follow := 0
  tick := 0
  led := false
  quiet := 0
  run := 0
  lastCount := 0
  seen := false
  missed := 0
  wit0 := blankWit
  wit1 := blankWit
  node0 := none
  node1 := none
  delay0 := none
  delay1 := none
  countdown := 0
  announced := 0
  alert0 := 0x3F
  alert1 := 0x3F
  slots := []
  jobs := []
  blocks := []
  panels := []
  partly := []

/-- A plinth's bridge. -/
def bridge (h : Head) (n : Nat) : Bridge := tabGet h.bridges blankBridge n

/-- A bridge changed. -/
def setBridge (h : Head) (n : Nat) (b : Bridge) : Head := { h with bridges := tabPut h.bridges n b }
def updBridge (h : Head) (n : Nat) (f : Bridge → Bridge) : Head := setBridge h n (f (bridge h n))

/-- The witness entry of a port, and one set. -/
def wit (b : Bridge) (p : Nat) : WitEntry := if p = 0 then b.wit0 else b.wit1
def setWit (b : Bridge) (p : Nat) (e : WitEntry) : Bridge := if p = 0 then { b with wit0 := e } else { b with wit1 := e }

/-- The node ID of a port's head: as this head sent it at training, else what the other head sent. -/
def portNode (b : Bridge) (n p : Nat) : Nat := (if p = 0 then b.node0 else b.node1).getD (Config.portNode n p % 16384)

/-- An alert raised on a port where its enable bit allows (R296, R297). -/
def brAlert (h : Head) (n p code detail : Nat) : Head :=
  let b := bridge h n
  if (if p = 0 then b.alert0 else b.alert1).testBit (code - 1) then send h (.bridgeAlert n p code detail) else h

/-! ### Completions and slots (R283, R291) -/

/-- A completion with nothing to report but its status. -/
def plainDone (c : PlkCmd) (st : Status) : PlkDone where
  mgmt := c.mgmt
  gen := c.gen
  slot := c.slot
  status := st
  suspended := false
  labelsSent := false
  wide := false
  corrected := 0
  maxCw := 0
  suspends := 0
  retries := 0
  startFrame := 0
  startSlot := 0
  busy := 0
  word := 0
  dlen := 0
  data := 0

/-- The number of a port's slot. -/
def brSlotKey (p : Nat) (c : PlkCmd) : Nat := p * 256 + ofBool c.mgmt * 128 + c.slot

/-- A command of a slot completes: its completion is kept, and sent on the command's port. -/
def brDone (h : Head) (n p : Nat) (c : PlkCmd) (d : PlkDone) : Head :=
  let h := updBridge h n (fun b => { b with slots := tabPut b.slots (brSlotKey p c) ⟨c.gen, some d⟩ })
  send h (.bridgeDone n p d)

/-- A command received on a port (R283): a repeat of the outstanding command is not executed again, a repeat of the last one is
answered with a copy, a new GEN on a slot in use completes with PROTOCOL; any other is taken. -/
def brTake (h : Head) (n p : Nat) (c : PlkCmd) (f : Head → Head) : Head :=
  let b := bridge h n
  let k := brSlotKey p c
  let go (_ : Unit) : Head := f (setBridge h n { b with slots := tabPut b.slots k ⟨c.gen, none⟩ })
  match tabGet? b.slots k with
  | none => go ()
  | some s =>
    if s.gen = c.gen then (match s.done with
      | some d => send h (.bridgeDone n p d)
      | none => h)
    else match s.done with
      | none => send h (.bridgeDone n p (plainDone c .protocol))
      | some _ => go ()

/-- Every field of a die command is in the range R282 gives, and its data as R284 asks. -/
def dieFieldsOk (c : PlkCmd) : Bool :=
  decide (c.slot < 128) && decide (c.start < 32) && decide (c.channel < 16) && decide (c.die < 8) && decide (c.block < 2 ^ 20) &&
    decide (c.row < 4096) && (c.opcode != 1 || (decide (1 ≤ c.sheets) && decide (c.first + c.sheets ≤ 128))) &&
    c.dlen == (if c.opcode = 2 then 65536 else 0)

/-- A management command's slot is in range. -/
def mgmtFieldsOk (c : PlkCmd) : Bool := decide (c.slot < 16)

/-! ### Die commands (R284, R285, R294) -/

/-- A block of a bridge's dies, and a panel of it. -/
def brBlock (c : PlkCmd) : Nat := (c.channel * 8 + c.die) * 2 ^ 20 + c.block
def brPanel (c : PlkCmd) : Nat := brBlock c * 4096 + c.row

/-- The row a block programs next, and whether it is in SLC mode. A block nothing is known of is erased. -/
def brNext (b : Bridge) (c : PlkCmd) : Nat × Bool := tabGet b.blocks (0, false) (brBlock c)

/-- The same once every command accepted before this one has run. -/
def brAfter (b : Bridge) (c : PlkCmd) : Nat × Bool :=
  (b.jobs.filter (fun j => brBlock j.cmd == brBlock c)).foldl (fun s j => match j.cmd.opcode with
    | 2 => (j.cmd.row + 1, s.2)
    | 3 => (0, j.cmd.slc)
    | _ => s) (brNext b c)

/-- A die command held until its slot (R286). -/
def brQueue (h : Head) (n p : Nat) (c : PlkCmd) : Head :=
  updBridge h n (fun b => { b with jobs := b.jobs ++ [⟨p, c, false, false, 0, 0, 0⟩] })

/-- A die command accepted, or completed at once: PROTOCOL for a field out of range, FENCED for a port that a claim has fenced. -/
def brDieCmd (h : Head) (n p : Nat) (c : PlkCmd) (writes : Bool) (f : Head → Head) : Head :=
  brTake h n p c (fun h =>
    if !dieFieldsOk c then brDone h n p c (plainDone c .protocol)
    else if writes && (wit (bridge h n) p).fenced then brDone h n p c (plainDone c .fenced)
    else f h)

/-- PLK_READ (R284, R288). -/
def brRead (h : Head) (n p : Nat) (c : PlkCmd) : Head :=
  let c := { c with opcode := 1, mgmt := false }
  brDieCmd h n p c false (fun h => brQueue h n p c)

/-- CHECK_ERASED (R290). -/
def brCheck (h : Head) (n p : Nat) (c : PlkCmd) : Head :=
  let c := { c with opcode := 4, mgmt := false }
  brDieCmd h n p c false (fun h => brQueue h n p c)

/-- PLK_PROGRAM (R285): only the row that follows the block's last one. -/
def brProgram (h : Head) (n p : Nat) (c : PlkCmd) : Head :=
  let c := { c with opcode := 2, mgmt := false }
  brDieCmd h n p c true (fun h =>
    if c.row ≠ (brAfter (bridge h n) c).1 then brDone h n p c (plainDone c .protocol) else brQueue h n p c)

/-- PLK_ERASE (R284). -/
def brErase (h : Head) (n p : Nat) (c : PlkCmd) : Head :=
  let c := { c with opcode := 3, mgmt := false }
  brDieCmd h n p c true (fun h => brQueue h n p c)

/-- Queued commands of a port that a test names leave the queue, and their slots are free: the bridge starts no queued command after its
port goes down (R299). -/
def dropQueued (b : Bridge) (p : Nat) (mine : BrJob → Bool) : Bridge :=
  let gone (j : BrJob) : Bool := j.port == p && !j.started && mine j
  { b with
    jobs := b.jobs.filter (fun j => !gone j)
    slots := b.slots.filter (fun e => !b.jobs.any (fun j => gone j && brSlotKey p j.cmd == e.1)) }

/-- The queued PROGRAM and ERASE commands of a port that a claim has fenced complete with FENCED (R294). -/
def fenceQueued (h : Head) (n p : Nat) : Head :=
  let mine (j : BrJob) : Bool := j.cmd.opcode == 2 || j.cmd.opcode == 3
  let l := (bridge h n).jobs.filter (fun j => j.port == p && !j.started && mine j)
  foldHead (updBridge h n (fun b => dropQueued b p mine)) l (fun h j => brDone h n p j.cmd (plainDone j.cmd .fenced))

/-! ### The die schedule (R286) -/

/-- Whether a job reads. -/
def jobReads (j : BrJob) : Bool := j.cmd.opcode == 1 || j.cmd.opcode == 4

/-- A job's slot has come: its frame is past, or it is the current one and its slot has begun. -/
def jobDue (b : Bridge) (j : BrJob) : Bool :=
  let d := (b.wire + 65536 - j.cmd.frame % 65536) % 65536
  decide (d < 32768) && (decide (0 < d) || decide (j.cmd.start ≤ b.slot))

/-- A READ or CHECK_ERASED of a row whose PROGRAM has not completed waits (R285). -/
def jobWaits (b : Bridge) (j : BrJob) : Bool := jobReads j && b.jobs.any (fun x => x.cmd.opcode == 2 && brPanel x.cmd == brPanel j.cmd)

/-- A job that may start at this boundary. -/
def jobEligible (b : Bridge) (j : BrJob) : Bool := !j.started && jobDue b j && !jobWaits b j

/-- The port that owns the current slot: even slots belong to the followed port. -/
def slotPort (b : Bridge) : Nat := if b.slot % 2 = 0 then b.follow else 1 - b.follow

/-- The job the die takes: the slot's port first, then the older. -/
def pickJob (b : Bridge) (l : List BrJob) : Option BrJob :=
  match l.find? (fun j => j.port == slotPort b) with
  | some j => some j
  | none => l.head?

/-- A job replaced. -/
def putJob (b : Bridge) (j k : BrJob) : Bridge := { b with jobs := b.jobs.map (fun x => if x = j then k else x) }

/-- A job started at this boundary. -/
def startJob (b : Bridge) (j : BrJob) : Bridge := putJob b j { j with started := true, startFrame := b.wire, startSlot := b.slot }

/-- What a bridge does with one die at a slot boundary (R286 steps 1 to 4). -/
def dieBoundary (b : Bridge) (die : Nat) : Bridge :=
  let on (b : Bridge) : List BrJob := b.jobs.filter (fun j => j.cmd.channel * 8 + j.cmd.die == die)
  let reads (b : Bridge) : List BrJob := (on b).filter (fun j => jobReads j && jobEligible b j)
  let b := match (on b).find? (fun j => j.started && !j.held && !jobReads j) with
    | some j => if (reads b).isEmpty then b else putJob b j { j with held := true, suspends := j.suspends + 1 }
    | none => b
  let free := (on b).all (fun j => !j.started || j.held)
  let b := if free then (match pickJob b (reads b) with
      | some j => startJob b j
      | none => b) else b
  let reading := (on b).any (fun j => j.started && jobReads j)
  match (on b).find? (fun j => j.held) with
  | some j => if reading then b else putJob b j { j with held := false }
  | none =>
    if (on b).any (fun j => j.started) then b
    else
      let first := sortOn (fun j => [(j.cmd.frame + 65536 - b.wire + 32768) % 65536, j.cmd.start])
        ((on b).filter (fun j => !jobReads j && jobEligible b j))
      match pickJob b first with
      | some j => startJob b (match first.find? (fun x => brBlock x.cmd == brBlock j.cmd) with
        | some x => x
        | none => j)
      | none => b

/-- The sheets a READ returns (R289), with their count, whether the label area was sent, and whether it was WIDE. -/
def readSheets (panel : Nat) (c : PlkCmd) : Nat × Nat × Bool × Bool :=
  let main := panel >>> (4096 * c.first) % 2 ^ (4096 * c.sheets)
  if !c.labels then (main, c.sheets, false, false)
  else
    let l := panel >>> (4096 * 127 + 8 * 490) % 256
    let wide := l == 0 || decide (32 < l)
    let lo := if wide then 96 else 128 - l
    let extra := (List.range 128).filter (fun s => decide (lo ≤ s) && !(decide (c.first ≤ s) && decide (s < c.first + c.sheets)))
    let tail := (extra.zipIdx.map (fun e => (panel >>> (4096 * e.1) % 2 ^ 4096) <<< (4096 * (c.sheets + e.2)))).sum
    (main + tail, c.sheets + extra.length, true, wide)

/-- One die operation ends (R288 to R291). -/
def jobEnd (h : Head) (n : Nat) (e : BrEnd) : Head :=
  let b := bridge h n
  match b.jobs.find? (fun j => j.port == e.port && j.cmd.slot == e.slot && j.started && !j.held) with
  | none => h
  | some j =>
    let c := j.cmd
    let b := { b with jobs := b.jobs.filter (fun x => x != j) }
    let d : PlkDone := { plainDone c .done with
      suspended := decide (0 < j.suspends)
      suspends := min j.suspends 255
      startFrame := j.startFrame
      startSlot := j.startSlot
      busy := e.busy }
    match c.opcode with
    | 1 => match e.fail, tabGet? b.panels (brPanel c) with
      | false, some x =>
        let (data, sheets, labels, wide) := readSheets x c
        brDone (setBridge h n b) n e.port c { d with
          corrected := min e.corrected 65535
          maxCw := e.maxCw
          retries := e.retries
          labelsSent := labels
          wide := wide
          dlen := 512 * sheets
          data := data }
      | _, _ => brDone (setBridge h n b) n e.port c { d with status := .mediaFail }
    | 2 =>
      let b := { b with blocks := tabPut b.blocks (brBlock c) (c.row + 1, (brNext b c).2) }
      if e.fail then brDone (setBridge h n { b with partly := brPanel c :: b.partly }) n e.port c { d with status := .mediaFail }
      else brDone (setBridge h n { b with panels := tabPut b.panels (brPanel c) c.data }) n e.port c d
    | 3 =>
      if e.fail then brDone (setBridge h n b) n e.port c { d with status := .mediaFail }
      else brDone (setBridge h n { b with
        blocks := tabPut b.blocks (brBlock c) (0, c.slc)
        panels := b.panels.filter (fun x => x.1 / 4096 != brBlock c)
        partly := b.partly.filter (fun x => x / 4096 != brBlock c) }) n e.port c d
    | _ =>
      let w := if b.partly.contains (brPanel c) then 2 else if tabHas b.panels (brPanel c) then 1 else 0
      brDone (setBridge h n b) n e.port c { d with word := w }

/-! ### The timebase (R41, R280) -/

/-- BR_TICK.STATE set; each change is reported. -/
def setTickState (h : Head) (n st : Nat) : Head :=
  if (bridge h n).tick = st then h
  else
    let h := updBridge h n (fun b => { b with tick := st })
    brAlert (brAlert h n 0 1 st) n 1 1 st

/-- The count difference of a marker for the current tick or the next (R42, R280). -/
def wireDiff (b : Bridge) (fcount : Nat) (next : Bool) : Int := toSigned 16 (fcount + 2 ^ 16 + 2 ^ 16 - (b.wire + ofBool next))

/-- A wire count stepped, and with it the EXPIRY of every VALID entry whose lease has not expired. -/
def stepWire (b : Bridge) (d : Int) : Bridge :=
  let step (x : Nat) : Nat := ofSigned 16 ((x : Int) + d)
  let shift (e : WitEntry) : WitEntry := if e.valid && !e.expired then { e with expiry := step e.expiry } else e
  { b with wire := step b.wire, wit0 := shift b.wit0, wit1 := shift b.wit1 }

/-- Leases recomputed for a new frame length (R293): what was still to run, rounded up to whole new frames. -/
def relength (b : Bridge) (len : Nat) : Bridge :=
  let f := frameNs b.len
  let f' := frameNs len
  let fix (e : WitEntry) : WitEntry :=
    let left := (e.expiry + 65536 - b.wire) % 65536
    if e.valid && !e.expired && decide (left < 32768) then { e with expiry := (b.wire + (left * f + f' - 1) / f') % 65536 } else e
  { b with len := len, wit0 := fix b.wit0, wit1 := fix b.wit1 }

/-- The announced change of length goes on by one tick, and takes effect at its own (R44). -/
def countBridge (b : Bridge) : Bridge :=
  let b' := { b with countdown := b.countdown - 1 }
  if b.countdown = 1 ∧ b.announced ≠ b.len then relength b' b.announced else b'

/-- A bridge's own tick: the frame length as announced; a missed marker, eight of which lose the timebase. -/
def bridgeTick (h : Head) (n : Nat) : Head :=
  let b := bridge h n
  let b := countBridge { b with wire := (b.wire + 1) % 65536 }
  let missed := if b.seen then 0 else min (b.missed + 1) 8
  let h := setBridge h n { b with
    slot := 0
    seen := false
    missed := missed
    quiet := b.quiet + 1 }
  if b.tick = 1 ∧ missed = 8 then setTickState h n 2 else h

/-- MASTER_MARKER_LOSS (R41): two frames without a marker of the master, and the bridge follows the other port. -/
def masterLoss (h : Head) (n : Nat) : Head :=
  updBridge h n (fun b => if b.led && decide (2 ≤ b.quiet) then { b with quiet := 0, follow := 1 - b.follow } else b)

/-- BRIDGE_SLOT_BOUNDARY (R286): operations that have ended complete, then each die suspends, starts or resumes. Slot 0 begins at the
bridge's tick. -/
def bridgeSlotBoundary (h : Head) (n : Nat) (ends : List BrEnd) : Head :=
  let h := foldHead h ends (fun h e => jobEnd h n e)
  let h := if (bridge h n).slot < 31 then updBridge h n (fun b => { b with slot := b.slot + 1 }) else bridgeTick h n
  let dies := ((bridge h n).jobs.map (fun j => j.cmd.channel * 8 + j.cmd.die)).eraseDups
  updBridge h n (fun b => dies.foldl dieBoundary b)

/-- A marker on the followed port while the timebase is lost or not yet taken (R43, R280). A flagged one neither adds to nor breaks the
run: one that continues it stands for its tick. -/
def bridgeRelock (h : Head) (n fcount : Nat) (flagged next inPhase : Bool) : Head :=
  let entering := (bridge h n).tick != 3
  let h := setTickState h n 3
  let b := bridge h n
  if flagged then
    if fcount = (b.lastCount + 1) % 65536 then setBridge h n { b with lastCount := fcount } else h
  else
    let follows := !entering && b.run != 0 && fcount == (b.lastCount + 1) % 65536
    let run := if !inPhase then 0 else if follows then b.run + 1 else 1
    let h := setBridge h n { b with run := run, lastCount := fcount }
    if run < 16 then h
    else setTickState (updBridge h n (fun b => { stepWire b (wireDiff b fcount next) with run := 0 })) n 1

/-- The delay of a port's link (R279), free where this head has not trained it. -/
def portDelay (b : Bridge) (n p : Nat) : Nat := (if p = 0 then b.delay0 else b.delay1).getD (Config.portDelay n p)

/-- The bridge's tick nearest to a marker's compensated arrival, `true` for the tick that ends the current frame, and the phase error in
ns (R38, R280). The arrival is in ns after the tick that began the frame. -/
def bridgePlace (b : Bridge) (n p arrival : Nat) : Bool × Int :=
  let t : Int := (arrival : Int) - (portDelay b n p : Nat)
  if 2 * t ≤ (frameNs b.len : Nat) then (false, t) else (true, t - (frameNs b.len : Nat))

/-- What a marker says of the frame length (R36, R44): a running countdown; and to a bridge that is not locked, the length itself. -/
def takeLength (b : Bridge) (payload : Word) (next : Bool) : Bridge :=
  let n := bitsOf payload 13 10
  let len := bitsOf payload 15 14
  let b := if n = 0 ∨ bitsOf payload 9 8 = 3 then b else { b with countdown := n + ofBool next, announced := bitsOf payload 9 8 }
  if b.tick ≠ 1 ∧ len < 3 ∧ len ≠ b.len then relength b len else b

/-- BRIDGE_TICK_MARKER (R41, R44, R280). -/
def bridgeMarker (h : Head) (n p : Nat) (payload : Word) (flagged : Bool) (arrival : Nat) : Head :=
  let b := bridge h n
  let master := payload.getLsbD 7
  if !b.led && !master then h
  else
    let b := if b.led then b else { b with led := true, follow := p }
    let b := if master && p == b.follow then { b with quiet := 0 } else b
    let h := setBridge h n b
    if p ≠ b.follow then h
    else
      let fcount := bitsOf payload 31 16
      let (next, phase) := bridgePlace b n p arrival
      let b := takeLength b payload next
      let b := { b with seen := true, missed := 0, phaseErr := if flagged then b.phaseErr else ofSigned 16 phase }
      let h := setBridge h n b
      let inPhase := decide (2 * phase.natAbs ≤ frameNs b.len / 32)
      if b.tick ≠ 1 then bridgeRelock h n fcount flagged next inPhase
      else
        let d := wireDiff b fcount next
        if 2 ≤ d.natAbs ∨ (!flagged ∧ !inPhase) then setTickState (updBridge h n (fun b => { b with run := 0 })) n 2
        else if d = 0 then h
        else updBridge h n (fun b => stepWire b d)

/-- LEASE_EXPIRY (R293): at the tick whose wire count equals EXPIRY. -/
def leaseExpiry (h : Head) (n p : Nat) : Head :=
  let b := bridge h n
  let e := wit b p
  if e.valid && !e.expired && e.expiry == b.wire then setBridge h n (setWit b p { e with expired := true }) else h

/-! ### Management commands (R284, R293 to R297) -/

/-- A management command executed as it arrives. -/
def brMgmt (h : Head) (n p : Nat) (c : PlkCmd) (f : Head → Head × PlkDone) : Head :=
  brTake h n p c (fun h =>
    if !mgmtFieldsOk c then brDone h n p c (plainDone c .protocol)
    else
      let (h, d) := f h
      brDone h n p c d)

/-- WITNESS_RENEW (R293, R294). -/
def witnessRenew (h : Head) (n p : Nat) (c : PlkCmd) : Head :=
  let c := { c with opcode := 8, mgmt := true }
  brMgmt h n p c (fun h =>
    let b := bridge h n
    let o := wit b (1 - p)
    if o.claim ∧ c.epoch ≤ o.claimEpoch then (h, plainDone c .fenced)
    else
      let f := frameNs b.len / 1000
      let e : WitEntry := { wit b p with
        valid := true
        expired := false
        fenced := (wit b p).fenced && !o.claim
        node := portNode b n p
        epoch := c.epoch
        expiry := (b.wire + 1 + (c.arg + f - 1) / f) % 65536 }
      (setBridge h n (setWit (setWit b (1 - p) { o with claim := false }) p e), plainDone c .done))

/-- A witness entry's three words. -/
def witNum (e : WitEntry) : Nat :=
  (ofBool e.valid <<< 31 + ofBool e.claim <<< 30 + ofBool e.fenced <<< 29 + ofBool e.expired <<< 28 + e.node) +
    (e.claimEpoch <<< 16 + e.epoch) <<< 32 + e.expiry <<< 64

/-- WITNESS_READ (R293): both entries, port 0 first. -/
def witnessRead (h : Head) (n p : Nat) (c : PlkCmd) : Head :=
  let c := { c with opcode := 9, mgmt := true }
  brMgmt h n p c (fun h =>
    let b := bridge h n
    (h, { plainDone c .done with dlen := 24, data := witNum b.wit0 + witNum b.wit1 <<< 96 }))

/-- WITNESS_CLAIM (R294). -/
def witnessClaim (h : Head) (n p : Nat) (c : PlkCmd) : Head :=
  let c := { c with opcode := 10, mgmt := true }
  brMgmt h n p c (fun h =>
    let b := bridge h n
    let o := wit b (1 - p)
    if o.valid && !o.expired then (h, plainDone c .limit)
    else
      let b := setWit b p { wit b p with claim := true, claimEpoch := c.epoch }
      let h := setBridge h n (setWit b (1 - p) { o with fenced := true })
      (brAlert (fenceQueued h n (1 - p)) n (1 - p) 6 (portNode b n p), plainDone c .done))

/-- A bridge register (R297), or none at an offset that is not listed. -/
def bridgeReg (h : Head) (n p addr : Nat) : Option Nat :=
  let b := bridge h n
  match addr with
  | 0x00 => some (0x16000000 + Config.bridgeStepping n % 65536)
  | 0x04 => some (Config.bridgeGeometry n % 2 ^ 32 &&& 0xFE00FFFF)
  | 0x08 => some (Config.bridgeTiming n % 2 ^ 32)
  | 0x10 => some (b.phaseErr <<< 16 + b.follow <<< 2 + b.tick)
  | 0x14 => some (ofBool (Config.bridgeHoldup n))
  | 0x20 => some (witNum b.wit0 % 2 ^ 32)
  | 0x24 => some (witNum b.wit0 >>> 32 % 2 ^ 32)
  | 0x28 => some (witNum b.wit0 >>> 64)
  | 0x30 => some (witNum b.wit1 % 2 ^ 32)
  | 0x34 => some (witNum b.wit1 >>> 32 % 2 ^ 32)
  | 0x38 => some (witNum b.wit1 >>> 64)
  | 0x40 => some ((if p = 0 then b.alert0 else b.alert1) <<< 1)
  | _ => none

/-- REG_READ (R284, R297). -/
def brRegRead (h : Head) (n p : Nat) (c : PlkCmd) : Head :=
  let c := { c with opcode := 12, mgmt := true }
  brMgmt h n p c (fun h => match bridgeReg h n p c.addr with
    | some v => (h, { plainDone c .done with word := v })
    | none => (h, plainDone c .protocol))

/-- REG_WRITE (R297): only BR_ALERT_EN is written. -/
def brRegWrite (h : Head) (n p : Nat) (c : PlkCmd) : Head :=
  let c := { c with opcode := 13, mgmt := true }
  brMgmt h n p c (fun h =>
    if c.addr ≠ 0x40 then (h, plainDone c .protocol)
    else
      let v := c.arg >>> 1 % 64
      (updBridge h n (fun b => if p = 0 then { b with alert0 := v } else { b with alert1 := v }), plainDone c .done))

end Sys2Proof.Machine
end

