-- ==== Sys2Proof/Machine/PlkLink.lean ====
section
/-! DEFINITION. The plinth links from the head's side (R276 to R303): plinths that arrive and leave, completions, timeouts, alerts, flits. -/

namespace Sys2Proof.Machine

open Reg

/-! ### Arrival and departure (R298, R299) -/

/-- PERST is released, so that the link trains (R298 step 2). -/
def plkStart (h : Head) (n : Nat) : Head :=
  if perstHigh h n && !plkBit h n PLK_STATUS_UP then plkSet h n PLK_STATUS_TRAINING 1 else h

/-- PLINTH_PRESENT (R298 step 1). -/
def plinthPresent (h : Head) (n : Nat) : Head :=
  if plkBit h n PLK_STATUS_PRESENT then h
  else plkStart (plkRaise (plkSet (plkSet h n PLK_STATUS_PRESENT 1) n PLK_STATUS_RELEASED 0) n 0) n

/-- The link goes down: not up, not training, no lanes; what it had begun is lost, and what the bridge had queued of it (R299). -/
def plkDown (h : Head) (n : Nat) : Head :=
  let h := updBridge h n (fun b => dropQueued b (plkGet h n PLK_STATUS_BRIDGE_PORT) (fun _ => true))
  let h := setPlkLink h n (plkLink h n).dropped
  let h := plkSet (plkSet (plkSet h n PLK_STATUS_UP 0) n PLK_STATUS_TRAINING 0) n PLK_STATUS_LANES 0
  plkRaise h n 0

/-- Every outstanding command of a plinth ended with a status. -/
def endAll (h : Head) (n : Nat) (st : Status) : Head :=
  let l := h.plk.ops.filter (fun o => o.plinth == n)
  let h := syncPlk { h with plk := { h.plk with ops := h.plk.ops.filter (fun o => o.plinth != n) } } n
  pumpReads (releaseAcks (foldHead h l (fun h o => purposeDone h o st 0 0 0))) 0

/-- What the head knew of a plinth that has left is forgotten. -/
def forgetIdentity (h : Head) (n : Nat) : Head :=
  let h := { h with
    dsp := { h.dsp with failed := h.dsp.failed.filter (fun d => d / 128 != n) }
    cur := { h.cur with noHoldup := h.cur.noHoldup.filter (· != n) } }
  { h with plk := { h.plk with
    geom := tabDel h.plk.geom n
    timing := tabDel h.plk.timing n
    links := tabDel h.plk.links n } }

/-- PLINTH_REMOVED (R299, R516): without a release the plinth is lost. -/
def plinthRemoved (h : Head) (n : Nat) : Head :=
  if !plkBit h n PLK_STATUS_PRESENT then h
  else
    let h := plkSet (plkSet h n PLK_STATUS_PRESENT 0) n PLK_CTRL_RELEASE 0
    if plkBit h n PLK_STATUS_RELEASED then forgetIdentity (plkRaise h n 0) n
    else
      let h := plkDown (plkSet h n PLK_STATUS_ADMITTED 0) n
      forgetIdentity (plinthLost (endAll h n .timeout) n) n

/-- Flits of a link sent once more, counted (R278, R303). -/
def plkAgain (h : Head) (n : Nat) (l : List Nat) : Head :=
  if l = [] then h
  else send (fadd h (plkWing n) PLK_CNT_RETRY_COUNT l.length 0 (plkInst n)) (.replay (plkWing n) (some (plkInst n)) l)

/-- PLK_TRAINED (R276, R279, R298): the link is up on 2 lanes, or on 1 where HALF_WIDTH_OK is 1; a plinth not yet admitted is asked
for its identity. -/
def plkTrained (h : Head) (n lanes delay port expected : Nat) : Head :=
  if !plkBit h n PLK_CTRL_LINK_EN || !plkBit h n PLK_STATUS_PRESENT || !plkBit h n PLK_STATUS_TRAINING ||
      !(lanes == 2 || (lanes == 1 && plkBit h n PLK_CTRL_HALF_WIDTH_OK)) then h
  else
    let fresh := !plkBit h n PLK_STATUS_UP
    let changed := fresh || plkGet h n PLK_STATUS_LANES != lanes
    let (l, again) := (plkLink h n).trained expected
    let h := setPlkLink h n l
    let h := plkSet (plkSet (plkSet h n PLK_STATUS_DELAY_NS delay) n PLK_STATUS_LANES lanes) n PLK_STATUS_BRIDGE_PORT port
    let h := plkSet (plkSet h n PLK_STATUS_TRAINING 0) n PLK_STATUS_UP 1
    let h := if changed then plkRaise h n 0 else h
    let h := plkAgain h n again
    let h := if fresh then
        let (l, m) := grant (plkLink h n) (plkWing n) (some (plkInst n))
        send (setPlkLink h n l) m
      else h
    let h := drainPlk h n
    let id := fget h .east MFT_NODE_NODE_ID
    let h := updBridge h n (fun b =>
      if port = 0 then { b with node0 := some id, delay0 := some delay } else { b with node1 := some id, delay1 := some delay })
    if plkBit h n PLK_STATUS_ADMITTED then h
    else foldHead h [0, 4, 8] (fun h a => plkMgmt h n { emptyCmd 0x0C true with addr := a } (.identity a))

/-- The effect of PLK_CTRL.RELEASE (R299): new die commands are fenced from now on. -/
def plkReleaseEffect (h : Head) (n : Nat) : Head := plkSet h n PLK_CTRL_RELEASE 1

/-- A command bit of a link's PLK_CTRL. -/
def plkCtrlCmd (h : Head) (ini : Initiator) (n : Nat) (f : Head → Nat → Head) : Head :=
  withWrite h ini (pg .plk (plkWing n) (plkInst n)) 0x040 (fun h => f h n)

/-- Die commands of a link are outstanding. -/
def dieOut (h : Head) (n : Nat) : Bool := h.plk.ops.any (fun o => o.plinth == n && !o.cmd.mgmt)

/-- PLK_RELEASED (R299): with nothing outstanding, PERST is driven low. -/
def plkReleased (h : Head) (n : Nat) : Head :=
  if !plkBit h n PLK_CTRL_RELEASE ∨ dieOut h n then h
  else
    let h := plkSet (plkSet (plkSet h n PLK_CTRL_RELEASE 0) n PLK_STATUS_RELEASED 1) n PLK_STATUS_ADMITTED 0
    endAll (plkDown h n) n .timeout

/-! ### Completions, timeouts, alerts (R288, R291, R292, R296) -/

/-- The status of a completion towards the Dispatcher, with the link's counts (R288, R303). -/
def plkStatus (h : Head) (n : Nat) (c : PlkCmd) (d : PlkDone) : Status × Head :=
  let h := if d.suspended then plkAdd h n PLK_CNT_SUSPEND_COUNT else h
  let h := if d.status = .mediaFail then plkAdd h n PLK_CNT_MEDIA_COUNT else h
  if !c.mgmt && c.opcode == 1 && d.status == .done && decide (plkGet h n PLK_WARN_BITS ≤ d.maxCw) then
    (.doneNote, plkAdd h n PLK_CNT_WARN_COUNT)
  else (d.status, h)

/-- PLK_STATUS.FENCED_BY_CLAIM as a completion shows it: a program or erase refused, or a renewal that ended the claim (R294). -/
def claimSeen (h : Head) (n : Nat) (c : PlkCmd) (st : Status) : Head :=
  if st = .fenced ∧ (c.mgmt ∨ c.opcode = 2 ∨ c.opcode = 3) then plkSet h n PLK_STATUS_FENCED_BY_CLAIM 1
  else if c.mgmt ∧ c.opcode = 8 ∧ st = .done then plkSet h n PLK_STATUS_FENCED_BY_CLAIM 0
  else h

/-- PLK_COMPLETION (R291): matched to its slot's TAG, else discarded. -/
def plkCompletion (h : Head) (n : Nat) (d : PlkDone) (ns : Nat) : Head :=
  match h.plk.ops.find? (fun o => o.plinth == n && o.cmd.mgmt == d.mgmt && o.cmd.slot == d.slot && o.cmd.gen == d.gen) with
  | none => h
  | some o =>
    let h := { h with plk := { h.plk with ops := h.plk.ops.filter (fun x => x != o) } }
    let (st, h) := plkStatus (syncPlk h n) n o.cmd d
    let h := recordWait (recordDone (claimSeen h n o.cmd st) o st d.busy) o d.startFrame d.startSlot
    pumpReads (releaseAcks (purposeDone h o st d.word d.dlen d.data)) ns

/-- PLK_TIMEOUT (R292): a die command is sent once more with its TAG; the second time it ends with TIMEOUT. -/
def plkTimeout (h : Head) (n slot : Nat) : Head :=
  match h.plk.ops.find? (fun o => o.plinth == n && !o.cmd.mgmt && o.cmd.slot == slot) with
  | none => h
  | some o =>
    if o.resent then
      let h := syncPlk { h with plk := { h.plk with ops := h.plk.ops.filter (fun x => x != o) } } n
      pumpReads (releaseAcks (purposeDone h o .timeout 0 0 0)) 0
    else
      plkPut { h with plk := { h.plk with ops := h.plk.ops.map (fun x => if x = o then { x with resent := true } else x) } } n o.cmd

/-- What an alert tells the other blocks (R294, R300, R316, R318). -/
def alertEffect (h : Head) (n code detail : Nat) : Head :=
  match code with
  | 2 => { h with cur := { h.cur with noHoldup := if h.cur.noHoldup.contains n then h.cur.noHoldup else h.cur.noHoldup ++ [n] } }
  | 4 =>
    let h := dieLost h (n * 128 + detail % 128)
    let all := (diesOf h n).all (fun cd => h.dsp.failed.contains (n * 128 + cd.1 * 8 + cd.2))
    if all ∧ tabHas h.plk.geom n then plinthLost h n else h
  | 6 => plkSet h n PLK_STATUS_FENCED_BY_CLAIM 1
  | _ => h

/-- PLK_ALERT (R296): the first alert is kept. -/
def plkAlert (h : Head) (n code detail : Nat) : Head :=
  let h := if plkBit h n PLK_ALERT_VALID then h
    else plkSet (plkSet (plkSet h n PLK_ALERT_VALID 1) n PLK_ALERT_CODE code) n PLK_ALERT_DETAIL detail
  alertEffect (plkRaise h n 2) n code detail

/-! ### Flits (R278) -/

/-- The link retrains: the retrain is counted. -/
def plkRetrain (h : Head) (n : Nat) : Head := plkSet (plkAdd h n PLK_CNT_RETRAIN_COUNT) n PLK_STATUS_TRAINING 1

/-- What a flit or timer of a link leads to: NAK, replay, an acknowledgement with what credits are owed, retrain; and what can be sent
then is. -/
def plkLinkResult (h : Head) (n : Nat) (r : FlitResult) : Head :=
  let w := plkWing n
  let h := setPlkLink h n r.link
  let h := if r.nak then send h (.nak w (some (plkInst n)) r.link.rxNext) else h
  let h := plkAgain h n r.resent
  let h := if r.ack then
      let (l, m) := acknowledge (plkRule h n) (plkLink h n) w (some (plkInst n))
      send (setPlkLink h n l) m
    else h
  drainPlk (if r.retrain then plkRaise (plkRetrain h n) n 1 else h) n

/-- PLK_FLIT (R278): a flit on VC3 is discarded and counted as a CRC failure; a message of another type raises CONFIG (R281). -/
def plkFlit (h : Head) (n : Nat) (good : Bool) (ftype vc mtype lseq acktype ackseq : Nat) (credits : List Nat) : Head :=
  if !plkBit h n PLK_STATUS_UP then h
  else
    let ok := good && decide (ftype < 4) && !(ftype == 1 && vc == 3)
    let was := (plkLink h n).rxNext
    let h := plkLinkResult h n (receiveFlit (plkLink h n) ok ⟨ftype, vc, lseq, acktype, ackseq, credits⟩)
    let taken := ok && ftype == 1 && lseq == was
    if taken && (mtype == 0 || decide (3 < mtype)) then configMsg h (plkWing n) .plk (plkInst n) else h

/-- PLK_REPLAY_TIMER (R278). -/
def plkReplayTimer (h : Head) (n : Nat) : Head :=
  if (plkLink h n).replay = [] ∨ plkBit h n PLK_STATUS_TRAINING then h else plkLinkResult h n (replayAll (plkLink h n))

/-- PLK_RETRAIN_TIMEOUT (R278): not retrained within 32 µs, the link is down. It goes on training (R516). -/
def plkRetrainTimeout (h : Head) (n : Nat) : Head :=
  if plkBit h n PLK_STATUS_UP && plkBit h n PLK_STATUS_TRAINING then plkStart (plkDown h n) n else h

/-- PLK_LANE_FAIL (R276): the link retrains on one lane; where that is not permitted it goes down and trains. -/
def plkLaneFail (h : Head) (n : Nat) : Head :=
  if !plkBit h n PLK_STATUS_UP then h
  else if plkBit h n PLK_CTRL_HALF_WIDTH_OK then plkRaise (plkSet (plkRetrain h n) n PLK_STATUS_LANES 1) n 0
  else plkStart (plkDown h n) n

/-- The effect of PLK_CTRL.RETRAIN (R303), on a link that is up. While a retrain is under way it is ignored (R10). -/
def plkRetrainEffect (h : Head) (n : Nat) : Head :=
  if plkBit h n PLK_STATUS_UP && !plkBit h n PLK_STATUS_TRAINING then plkRetrain h n else h

end Sys2Proof.Machine
end

