-- ==== Sys2Proof/Machine/Power.lean ====
section
/-! DEFINITION. The power ladder and supply sag (spec/16_power_ladder.md): rungs, chip modes, droop, temperature. -/

namespace Sys2Proof.Machine

open Reg

/-! ### Page rungs (R464 to R471) -/

/-- The rungs that a page's RUNG.REQUEST may take (R466). -/
def rungPermitted (b : Block) (r : Nat) : Bool :=
  match b with
  | .foy | .plk => r == 0 || r == 4
  | .mft | .dge | .cdc | .cph | .rpl | .dma => decide (r ≤ 4)
  | _ => r == 0

/-- The pages that always run (R466). -/
def alwaysOn (b : Block) : Bool := isDocent b || b == .chp || b == .frm || b == .evt || b == .pwr

def setExits (h : Head) (l : List Nat) : Head := { h with pwr := { h.pwr with exits := l } }
def setRequests (h : Head) (l : Tab Nat) : Head := { h with pwr := { h.pwr with requests := l } }
def setEntries (h : Head) (l : Tab (Nat × Nat)) : Head := { h with pwr := { h.pwr with entries := l } }

/-- An island below rung 0 starts its exit (R470). -/
def startExit (h : Head) (p : Page) (causes : Nat) : Head :=
  hset (hset (setExits h (h.pwr.exits ++ [pageNum p])) p RUNG_CAUSE causes) p RUNG_IN_TRANSIT 1

/-- A cause of an exit (R470, R471): it joins the exit under way, waits for the end of an entry, or starts an exit. A fenced instance
leaves rung 4 only by being unfenced (R513). -/
def islandWake (h : Head) (p : Page) (cause : Nat) : Head :=
  if h.pwr.exits.contains (pageNum p) then hset h p RUNG_CAUSE (hget h p RUNG_CAUSE ||| 1 <<< cause)
  else match tabGet? h.pwr.entries (pageNum p) with
    | some (r, cs) => setEntries h (tabPut h.pwr.entries (pageNum p) (r, cs ||| 1 <<< cause))
    | none => if hget h p RUNG_CURRENT = 0 ∨ hget h p STATUS_FENCED = 1 then h else startExit h p (1 <<< cause)

/-- An island's entry into a rung starts (R467). -/
def startEntry (h : Head) (p : Page) (r : Nat) : Head :=
  hset (setEntries h (tabPut h.pwr.entries (pageNum p) (r, 0))) p RUNG_IN_TRANSIT 1

/-- The link of a FOY or PLK page goes down with its SerDes (R466). -/
def linkDark (h : Head) (p : Page) : Head :=
  if p.block = .plk ∧ fbit h p.wing PLK_STATUS_UP 0 p.inst then plkDown h (32 * wingNum p.wing + p.inst) else h

/-- An island at a rung; at rung 4 its page reads as after the block reset that its exit will be (R543). -/
def atRung (h : Head) (p : Page) (r : Nat) : Head :=
  let h := if r = 4 then blockBody (linkDark h p) p else h
  setRunning (hset (hset h p RUNG_CURRENT r) p RUNG_IN_TRANSIT 0) p

/-- A request that waits for the end of the exit under way (R471). -/
def requestLater (h : Head) (src : Nat) (p : Page) : Head := setRequests h (tabPut h.pwr.requests (pageNum p) src)

/-- The cause that a request gives (R470): DOCENT or SOFTWARE. -/
def requestCause (src : Nat) : Nat := if src = 0xFE then 5 else 0

/-- A non-zero request in a quiesced island (R467, R471): lower than CURRENT it is a SOFTWARE cause, higher it is an entry. -/
def applyRequest (h : Head) (src : Nat) (p : Page) (r : Nat) : Head :=
  let cause := requestCause src
  let h := hset h p RUNG_REQUEST r
  match tabGet? h.pwr.entries (pageNum p) with
  | some (k, _) => if r < k then requestLater (islandWake h p cause) src p else h
  | none =>
    let cur := hget h p RUNG_CURRENT
    if r < cur then requestLater (islandWake h p cause) src p else if cur < r then startEntry h p r else h

/-- A word written to RUNG.REQUEST. -/
def rungEffect (h : Head) (src : Nat) (p : Page) (v : Nat) : Head :=
  let bad (h : Head) (code : Nat) : Head := config h p ⟨code, src, true, pageAddr p + 0x030⟩
  if v = 0 ∨ !rungPermitted p.block v then
    let h := hset (setRequests h (tabDel h.pwr.requests (pageNum p))) p RUNG_REQUEST 0
    let h := islandWake h p (requestCause src)
    if v = 0 then h else bad h 4
  else if h.pwr.exits.contains (pageNum p) then requestLater (hset h p RUNG_REQUEST v) src p
  else if hget h p STATUS_QUIESCED = 0 then bad h 3
  else applyRequest h src p v

/-- RUNG_REQUEST (R467). -/
def rungRequest (h : Head) (ini : Initiator) (p : Page) (v : Nat) : Head :=
  withWrite h ini p 0x030 (fun h => rungEffect h (sourceCode ini) p (v % 8))

/-- A page's exit ends (R467, R470, R471): from rung 4 as a block reset; a request written meanwhile is then applied. -/
def pageExitDone (h : Head) (p : Page) : Head :=
  let causes := hget h p RUNG_CAUSE
  let req := if tabHas h.pwr.requests (pageNum p) then hget h p RUNG_REQUEST else 0
  let src := tabGet h.pwr.requests 0xFF (pageNum p)
  let h := setRequests (setExits h (h.pwr.exits.filter (· != pageNum p))) (tabDel h.pwr.requests (pageNum p))
  let h := if hget h p RUNG_CURRENT = 4 then blockReset h p true else hset (hset h p RUNG_CURRENT 0) p RUNG_IN_TRANSIT 0
  let h := setRunning (hset (hset h p RUNG_CAUSE causes) p RUNG_REQUEST 0) p
  if req = 0 then h
  else if hget h p STATUS_QUIESCED = 1 then applyRequest h src p req
  else config h p ⟨3, src, true, pageAddr p + 0x030⟩

/-- A core's exit ends (R469): from rung 3 its WAIT ends with result 0; from rung 4 it restarts at CPU_START. -/
def coreExitDone (h : Head) (n : Nat) : Head :=
  let dark := coreRung h n == 4
  let h := fset (setExits h (h.pwr.exits.filter (· != coreIsland n))) (hartWing n) PWR_CORE_RUNG_IN_TRANSIT 0 (hartCore n)
  if dark then
    let h := setCoreRung { h with core := { h.core with waits := tabDel h.core.waits n } } n 0
    send h (.hartStart n (pget h (hartWing n) CPU_START_LO_ADDR CPU_START_HI_ADDR * 4))
  else endWait h n 0

/-- RUNG_EXIT_DONE (R470). -/
def rungExitDone (h : Head) (i : Island) : Head :=
  match i with
  | .page p => if h.pwr.exits.contains (pageNum p) then pageExitDone h p else h
  | .core n => if h.pwr.exits.contains (coreIsland n) then coreExitDone h n else h

/-- RUNG_ENTRY_DONE (R471): the entry completes; the causes that arose meanwhile then start the exit. -/
def rungEntryDone (h : Head) (i : Island) : Head :=
  match i with
  | .page p => match tabGet? h.pwr.entries (pageNum p) with
    | none => h
    | some (r, causes) =>
      let h := atRung (setEntries h (tabDel h.pwr.entries (pageNum p))) p r
      if causes ≠ 0 then startExit h p causes
      else if r < hget h p RUNG_REQUEST then startEntry h p (hget h p RUNG_REQUEST)
      else h
  | .core n => match tabGet? h.pwr.entries (coreIsland n) with
    | none => h
    | some (r, causes) =>
      let w := hartWing n
      let c := hartCore n
      let h := setCoreRung (setEntries h (tabDel h.pwr.entries (coreIsland n))) n r
      let h := fset h w PWR_CORE_RUNG_IN_TRANSIT 0 c
      if causes = 0 then h
      else fset (fset (setExits h (h.pwr.exits ++ [coreIsland n])) w PWR_CORE_RUNG_CAUSE causes c) w PWR_CORE_RUNG_IN_TRANSIT 1 c

/-- SIGNAL_DETECT (R470): a FOY port whose PWR_WAKE bit is 1. -/
def signalDetect (h : Head) (w : Wing) (port : Nat) : Head :=
  if port < 8 ∧ (fget h .east PWR_WAKE_FOY_SIGNAL).testBit port then islandWake h (pg .foy w port) 1 else h

/-- UNIT_IDLE_GATE and UNIT_IDLE_RETAIN (R468). -/
def unitIdle (h : Head) (cls : Block) (w : Wing) (u : Nat) (retain : Bool) : Head :=
  let rung := tabGet h.pwr.units 0 (unitKey cls w u)
  if !isUnitClass cls || decide (totalUnits cls ≤ u) || fget h w (unitState cls) u != 0 || unitBusy h cls w u then h
  else if retain then
    if rung = 1 ∧ fget h w PWR_IDLE_RETAIN_US ≠ 0 then { h with pwr := { h.pwr with units := tabPut h.pwr.units (unitKey cls w u) 2 } } else h
  else if rung = 0 then { h with pwr := { h.pwr with units := tabPut h.pwr.units (unitKey cls w u) 1 } }
  else h

/-- A word written to PWR_CORE_RUNG (R469): REQUEST of 3 or 4 at the core's next WAIT, or at once if it waits; 0 wakes it. -/
def coreRungEffect (h : Head) (src : Nat) (w : Wing) (v : Nat) : Head :=
  let c := fget h w PWR_CORE_INDEX_CORE
  let n := hartOf w c
  let cause := if src = 0xFE then 5 else 0
  let ok := v == 0 || v == 3 || v == 4
  let r := if ok then v else 0
  let h := fset h w PWR_CORE_RUNG_REQUEST r c
  let h := if r = 0 ∨ r < coreRung h n then coreWake h n cause else coreDescend h n
  if ok then h else config h (pg .pwr w) ⟨4, src, true, pageAddr (pg .pwr w) + 0x04C⟩

/-- CORE_RUNG_REQUEST (R469). -/
def coreRungRequest (h : Head) (ini : Initiator) (w : Wing) (v : Nat) : Head :=
  withWrite h ini (pg .pwr w) 0x04C (fun h => coreRungEffect h (sourceCode ini) w (v % 8))

/-! ### Chip modes (R472, R473) -/

/-- The pages of islands that the modes move. -/
def islands : List Page := allPages.filter (fun p => !alwaysOn p.block)

/-- An island put at rung 4 at once, whatever it did. -/
def darken (h : Head) (p : Page) : Head :=
  let h := setRequests (setExits h (h.pwr.exits.filter (· != pageNum p))) (tabDel h.pwr.requests (pageNum p))
  atRung (setEntries h (tabDel h.pwr.entries (pageNum p))) p 4

/-- An ACTIVE core put at rung 4 at once. -/
def darkenCore (h : Head) (n : Nat) : Head :=
  if coreState h (hartWing n) (hartCore n) ≠ 0 then h
  else
    let h := setEntries (setExits h (h.pwr.exits.filter (· != coreIsland n))) (tabDel h.pwr.entries (coreIsland n))
    fset (setCoreRung { h with core := { h.core with waits := tabPut h.core.waits n 0 } } n 4) (hartWing n) PWR_CORE_RUNG_IN_TRANSIT 0
      (hartCore n)

/-- The mode of the head, with its event on the East page (R473, R480). -/
def setMode (h : Head) (m : Nat) : Head :=
  let h := fset (fset { h with pwr := { h.pwr with toServing := none } } .east PWR_MODE_MODE m) .east PWR_MODE_IN_TRANSIT 0
  raise h .east Ev.PWR_MODE

/-- STANDBY is accepted. -/
def standbyAllowed (h : Head) : Bool :=
  (pairState h == 0 || pairState h == 7) && !h.cat.nss.any (fun e => e.2.owned) && fget h .east VIT_QUOTA_NOW_PAIR_DIRTY_MIB == 0

/-- PWR_MODE.CMD: 1 SERVE, 2 STANDBY; 0 and 3 are reserved. -/
def modeCmdEffect (h : Head) (src cmd : Nat) : Head :=
  let bad (code : Nat) : Head := config h (pg .pwr .east) ⟨code, src, true, pageAddr (pg .pwr .east) + 0x040⟩
  let m := chipMode h
  if fbit h .east PWR_MODE_IN_TRANSIT then h
  else if cmd ≠ 1 ∧ cmd ≠ 2 then bad 4
  else if m = 2 then bad 3
  else if (cmd = 1 ∧ m = 1) ∨ (cmd = 2 ∧ m = 0) then h
  else if cmd = 2 ∧ !standbyAllowed h then bad 3
  else
    let h := fset { h with pwr := { h.pwr with toServing := some (cmd == 1) } } .east PWR_MODE_IN_TRANSIT 1
    if cmd = 1 then foldHead h islands (fun h p => islandWake h p 4) else h

/-- SERVE and STANDBY. PWR.W's register is read-only. -/
def modeCmd (h : Head) (ini : Initiator) (cmd : Nat) : Head :=
  withWrite h ini (pg .pwr .east) 0x040 (fun h => modeCmdEffect h (sourceCode ini) cmd)

/-- Released cores at rung 4 start at CPU_START (R473). -/
def restartCores (h : Head) : Head :=
  foldHead h (List.range 52) (fun h n =>
    if coreRung h n = 4 ∧ coreState h (hartWing n) (hartCore n) = 0 ∧ released h (hartWing n) = true then
      fset (coreExitDone h n) (hartWing n) PWR_CORE_RUNG_CAUSE (1 <<< 4) (hartCore n)
    else h)

/-- SERVE_DONE (R473): the exits still under way complete, the head is Serving, and a RELEASE that was held takes effect (R399). -/
def serveDone (h : Head) : Head :=
  if h.pwr.toServing ≠ some true then h
  else
    let h := foldHead h islands (fun h p => if h.pwr.exits.contains (pageNum p) then pageExitDone h p else h)
    let h := restartCores (setMode h 1)
    let h := if h.doc.heldE then releaseNow h .east else h
    if h.doc.heldW then releaseNow h .west else h

/-- STANDBY_DONE (R473): the cores at rung 4, the other islands in the Standby pattern. -/
def standbyDone (h : Head) : Head :=
  if h.pwr.toServing ≠ some false then h
  else setMode (foldHead (foldHead h (List.range 52) darkenCore) islands darken) 0

/-! ### Supply sag (R474 to R477) -/

/-- The rail a detector watches: 32 in CORE, 24 in ENG, 8 in MESH; and a rail's number among both wings'. -/
def detectorRail (d : Nat) : Nat := if d < 32 then 0 else if d < 56 then 1 else 2
def railKey (w : Wing) (r : Nat) : Nat := 3 * wingNum w + r
def railOpp (r : Nat) : Fld := if r = 0 then PWR_OPP_CORE else if r = 1 then PWR_OPP_ENG else PWR_OPP_MESH

def avsNow (h : Head) (w : Wing) (r : Nat) : Nat := tabGet h.pwr.avs 0 (railKey w r)
def setAvs (h : Head) (w : Wing) (r v : Nat) : Head := { h with pwr := { h.pwr with avs := tabStore h.pwr.avs 0 (railKey w r) v } }
def sagging (h : Head) (w : Wing) (r : Nat) : Bool := h.pwr.sags.contains (railKey w r)

/-- A detector of the rail sees it low. -/
def railLow (h : Head) (w : Wing) (r : Nat) : Bool :=
  h.pwr.droops.any (fun k => decide (k / 64 = wingNum w) && decide (detectorRail (k % 64) = r))

/-- DROOP (R474): the detector's region is stretched. -/
def droop (h : Head) (w : Wing) (d : Nat) : Head :=
  if d < 64 then { h with pwr := { h.pwr with droops := setIn h.pwr.droops (64 * wingNum w + d) true } } else h

/-- DROOP_END (R474): the stretch ends, and with the rail's last low detector its sag; PWR_STRETCH shows the averages measured. -/
def droopEnd (h : Head) (w : Wing) (d core engMesh : Nat) : Head :=
  if d < 64 then
    let h := { h with pwr := { h.pwr with droops := setIn h.pwr.droops (64 * wingNum w + d) false } }
    let r := detectorRail d
    let h := if railLow h w r then h else { h with pwr := { h.pwr with sags := setIn h.pwr.sags (railKey w r) false } }
    fset (fset h w PWR_STRETCH_CORE_PPM (min core 65535)) w PWR_STRETCH_ENG_MESH_PPM (min engMesh 65535)
  else h

/-- The domain of a rail lowered by one operating point, down to FLOOR. -/
def oppDown (h : Head) (w : Wing) (r : Nat) : Head :=
  if fget h w (railOpp r) < fget h w PWR_OPP_FLOOR then fset h w (railOpp r) (fget h w (railOpp r) + 1) else h

/-- What each window of a sag does once the sag has been counted (R475): another step of AVS up to MAX_MV, and from then on an
operating point. -/
def sagStep (h : Head) (w : Wing) (r : Nat) : Head :=
  let v := avsNow h w r
  let m := fget h w PWR_AVS_MAX_MV
  if fbit h w PWR_DROOP_AVS_EN ∧ v < m then setAvs h w r (min m (v + fget h w PWR_AVS_STEP_MV))
  else if fbit h w PWR_DROOP_OPP_EN then oppDown h w r
  else h

/-- SAG (R475): a sag has lasted 1 µs on a rail. -/
def sag (h : Head) (w : Wing) (r : Nat) : Head :=
  if 3 ≤ r ∨ sagging h w r ∨ !railLow h w r then h
  else
    let h := { h with pwr := { h.pwr with sags := setIn h.pwr.sags (railKey w r) true } }
    let h := if fbit h w PWR_DROOP_AVS_EN ∧ fget h w PWR_AVS_MAX_MV ≤ avsNow h w r then h else sagStep h w r
    raise (fadd h w PWR_CNT_SAG_COUNT) w Ev.PWR_SAG

/-- AVS_WINDOW (R475): a further window with the sag still present. -/
def avsWindow (h : Head) (w : Wing) (r : Nat) : Head := if sagging h w r ∧ r < 3 then sagStep h w r else h

/-- The junction is above THROTTLE_C, or has not yet cooled 3 °C below it (R479): limit k of a wing. -/
def warm (h : Head) (w : Wing) (k : Nat) : Bool := h.pwr.warm.contains (8 * wingNum w + k)

/-- DROOP_RECOVER (R476): first the operating point, then the AVS request. CORE and ENG stay lowered while the junction is hot. -/
def droopRecover (h : Head) (w : Wing) (r : Nat) : Head :=
  if 3 ≤ r ∨ railLow h w r then h
  else
    let o := fget h w (railOpp r)
    if 0 < o then (if r < 2 ∧ warm h w 1 then h else fset h w (railOpp r) (o - 1))
    else setAvs h w r (avsNow h w r - fget h w PWR_AVS_STEP_MV)

/-! ### Temperature (R478, R479) -/

def dieTemp (h : Head) (w : Wing) : Int := toSigned 8 (fget h w PWR_TEMP_DIE_MAX_C)
def hbmTemp (h : Head) (w : Wing) : Int := toSigned 8 (fget h w PWR_TEMP_HBM_MAX_C)

/-- The hotter wing's junction. -/
def hotDie (h : Head) : Int := max (dieTemp h .east) (dieTemp h .west)

def setWarm (h : Head) (w : Wing) (k : Nat) (on : Bool) : Head :=
  { h with pwr := { h.pwr with warm := setIn h.pwr.warm (8 * wingNum w + k) on } }

/-- A limit of a wing's page: THERMAL is raised when it is crossed upward; it is left once the temperature is down by a margin. -/
def thermLimit (h : Head) (w : Wing) (k : Nat) (t limit margin : Int) : Head :=
  if limit < t then
    if warm h w k then h else raise (setWarm h w k true) w Ev.PWR_THERMAL
  else if t ≤ limit - margin then setWarm h w k false
  else h

/-- An alarm's temperature limit, crossed: alarm 2 above ALM_TEMP.TRIP_C, alarm 3 below −30 °C (R419). Back within it, the source is
tripped no longer. -/
def thermAlarm (h : Head) (n : Nat) (on : Bool) : Head :=
  match on, warm h .east (n + 1) with
  | true, false => alarm (setWarm h .east (n + 1) true) n
  | false, true =>
    let st := fget h .east ALM_STATUS_ACTIVE
    fset (setWarm h .east (n + 1) false) .east ALM_STATUS_ACTIVE (if st.testBit n then st - 1 <<< n else st)
  | _, _ => h

/-- TEMP_SAMPLE (R478, R479): a wing's hottest junction sensor and HBM stack. At 125 °C THERMTRIP_N holds the chip in reset. -/
def tempSample (h : Head) (w : Wing) (die hbm : Int) (sensor : Nat) : Head :=
  let h := fset h w PWR_TEMP_HBM_MAX_C (ofSigned 8 (max (-128) (min 127 hbm)))
  let h := fset (fset h w PWR_TEMP_DIE_MAX_C (ofSigned 8 (max (-128) (min 127 die)))) w PWR_TEMP_SENSOR sensor
  let h := foldHead h wings (fun h w =>
    let h := thermLimit h w 0 (hotDie h) (fget h w PWR_THERM_WARN_C : Nat) 0
    let h := thermLimit h w 1 (hotDie h) (fget h w PWR_THERM_THROTTLE_C : Nat) 3
    thermLimit h w 2 (hbmTemp h w) (fget h w PWR_THERM_HBM_THROTTLE_C : Nat) 0)
  let h := thermAlarm h 2 (decide (((fget h .east ALM_TEMP_TRIP_C : Nat) : Int) < hotDie h))
  let h := thermAlarm h 3 (decide (min (dieTemp h .east) (dieTemp h .west) < -30))
  if 125 ≤ hotDie h then { h with pwr := { h.pwr with hold := .reset, thermTrip := true } } else h

/-- THERMAL_THROTTLE_STEP (R479): every 10 ms above THROTTLE_C. -/
def throttleStep (h : Head) (w : Wing) : Head :=
  if ((fget h w PWR_THERM_THROTTLE_C : Nat) : Int) < hotDie h then raise (oppDown (oppDown h w 0) w 1) w Ev.PWR_THERMAL else h

end Sys2Proof.Machine
end

