-- ==== Sys2Proof/Machine/Reservoir.lean ====
section
/-! DEFINITION. The Reservoir (spec/17_reservoir.md): samples, the control program, lost feedback, power failure, energy, bank health. -/

namespace Sys2Proof.Machine

open Reg

/-- A field of the RSV page, as a number and as an integer. -/
def rg (h : Head) (f : Fld) (bank : Nat := 0) : Nat := fget h .east f bank
def rgI (h : Head) (f : Fld) (bank : Nat := 0) : Int := (fget h .east f bank : Nat)

/-- The mode in force (R488): 0 OFF, 1 CHARGE, 2 STANDBY, 3 DISCHARGE, 4 OPEN, 5 LIMP, 6 HEALTH. -/
def rsvMode (h : Head) : Nat := rg h RSV_STATUS_MODE
def setRsvMode (h : Head) (m : Nat) : Head := fset h .east RSV_STATUS_MODE m

/-- A configuration event of the RSV page. -/
def rsvConfig (h : Head) (src code off : Nat) : Head := docConfig h .rsv src code off

/-- An integer held between two bounds. -/
def clampI (x lo hi : Int) : Int := max lo (min hi x)

/-! ### Phases and duties (R484 to R487) -/

def phaseOff (h : Head) (b : Bool) : Bool := fbit h .east (if b then RSV_STATUS_PHASE_B_OFF else RSV_STATUS_PHASE_A_OFF)

/-- A fault latched (R485, R486, R495), with the phases it turns off. -/
def latchFault (h : Head) (bit : Nat) (a b : Bool) : Head :=
  let h := fset h .east RSV_STATUS_FAULTS (rg h RSV_STATUS_FAULTS ||| 1 <<< bit)
  let h := if a then fset h .east RSV_STATUS_PHASE_A_OFF 1 else h
  let h := if b then fset h .east RSV_STATUS_PHASE_B_OFF 1 else h
  raise h .east Ev.RSV_FAULT

/-- Counts from a commit to a phase's reload, the commit at a count of carrier A; B lags by half a period. -/
def toReload (pos : Nat) (b : Bool) : Nat :=
  let p := (pos + (if b then 6400 else 0)) % 12800
  (12800 - p) % 12800

/-- One phase's half of a commit. -/
def commitPhase (h : Head) (pos d : Nat) (b : Bool) : Head :=
  if phaseOff h b then h
  else
    let late := decide (toReload pos b < rg h RSV_PWM_SETUP)
    let h := if late then fadd h .east RSV_CNT_DEFER_COUNT else h
    setRsv h (fun r => if b then { r with pendB := some (d, late) } else { r with pendA := some (d, late) })

/-- A commit of both duties at a count of carrier A (R487). -/
def commitDuties (h : Head) (pos da db : Nat) : Head := commitPhase (commitPhase h pos da false) pos db true

/-- One phase's half of the commit that a sample makes 400 ns, 2,560 counts, after its trigger at a count of carrier A. A reload in
between comes before the commit. -/
def commitSampled (h : Head) (carrier d : Nat) (b : Bool) : Head :=
  let r := toReload carrier b
  if 0 < r ∧ r ≤ 2560 then
    if phaseOff h b then h else setRsv h (fun x => if b then { x with nextB := some d } else { x with nextA := some d })
  else commitPhase h (carrier + 2560) d b

/-- A sample's commit of both duties (R487, R489). -/
def commitSample (h : Head) (carrier da db : Nat) : Head := commitSampled (commitSampled h carrier da false) carrier db true

/-- A pending duty at its phase's reload: what becomes active, and what is pending after it. -/
def reloadOne (act : Nat) (next : Option Nat) : Option (Nat × Bool) → Nat × Option (Nat × Bool)
  | some (d, false) => (d, next.map (fun x => (x, false)))
  | some (d, true) => (act, some (next.getD d, false))
  | none => (act, next.map (fun x => (x, false)))

/-- CARRIER_RELOAD (R485, R487): the phase takes its pending duty; `clash` says that its interlock refuses a rising command. -/
def carrierReload (h : Head) (b clash : Bool) : Head :=
  let h := setRsv h (fun r => if b then { r with cutB := none } else { r with cutA := none })
  if phaseOff h b then h
  else if clash then latchFault h (if b then 1 else 0) (!b) b
  else setRsv h (fun r =>
    if b then
      let (d, p) := reloadOne r.actB r.nextB r.pendB
      { r with actB := d, pendB := p, nextB := none }
    else
      let (d, p) := reloadOne r.actA r.nextA r.pendA
      { r with actA := d, pendA := p, nextA := none })

/-- CURRENT_TRIP (R486): a positive current ends the high-side pulse, a negative one the low-side pulse, in the current period. The
limit latches nothing. -/
def currentTrip (h : Head) (b positive : Bool) : Head :=
  if phaseOff h b then h
  else setRsv h (fun r => if b then { r with cutB := some positive } else { r with cutA := some positive })

/-- A phase's compare value (R484): its active duty in counts of the carrier. -/
def compareOf (h : Head) (b : Bool) : Nat := ((if b then h.rsv.actB else h.rsv.actA) * 12800) / 65536

/-- A phase's gates, high side and low side, at a count of its carrier (R484): off where the phase is off or the mode is OFF
(R485, R488). A pulse that the current limit has ended is off from there to the reload; the count of the trip is in its past. -/
def gates (h : Head) (b : Bool) (n : Nat) : Bool × Bool :=
  if phaseOff h b ∨ rsvMode h = 0 then (false, false)
  else
    let c := compareOf h b
    let dead := rg h RSV_PWM_DEAD
    let cut := if b then h.rsv.cutB else h.rsv.cutA
    (decide (dead ≤ n) && decide (n < c) && cut != some true, decide (c + dead ≤ n) && decide (n < 12800) && cut != some false)

/-! ### The control program (R491 to R493) -/

/-- The reciprocal and the ripple scale at a bank code. -/
def ffRecip (h : Head) (vk : Nat) : Int :=
  let n := vk / 64
  let m := min (n + 1) 63
  let a := rgI h RSV_FF_DATA_RECIP n
  a + ((rgI h RSV_FF_DATA_RECIP m - a) * ((vk % 64 : Nat) : Int)) / 64

def ffScale (h : Head) (vk : Nat) : Int := rgI h RSV_FF_DATA_SCALE (vk / 64)

/-- The feed-forward duty. -/
def feedForward (h : Head) (vref : Int) (vk : Nat) : Int := (vref * ffRecip h vk) / 1024

/-- The ripple taken from a phase current at the sample phase. -/
def ripple (h : Head) (th vk : Nat) : Int := (toSigned 16 (rg h RSV_PH_DATA_CORR (th % 32)) * ffScale h vk) / 16384

/-- The band of a bank code (R492). -/
def bandOf (h : Head) (vk : Nat) : Nat :=
  ([RSV_BAND_V_T1, RSV_BAND_V_T2, RSV_BAND_W_T3].filter (fun f => decide (rg h f ≤ vk))).length

/-- The coefficients of a set. -/
structure Coefs where
  kpV : Int
  kiV : Int
  kpI : Int
  kiI : Int
  deriving DecidableEq, Repr

def coefs (h : Head) (vk : Nat) (dir load : Bool) : Coefs :=
  let set := bandOf h vk * 4 + ofBool dir * 2 + ofBool load
  let w0 := rg h RSV_COEF_DATA_DATA set
  let w1 := rg h RSV_COEF_DATA_DATA (16 + set)
  ⟨toSigned 16 (w0 >>> 16), toSigned 16 w0, toSigned 16 (w1 >>> 16), toSigned 16 w1⟩

/-- A duty within D_MIN and D_MAX. -/
def clampDuty (h : Head) (d : Int) : Nat := (clampI d (rgI h RSV_DUTY_LIM_D_MIN) (rgI h RSV_DUTY_LIM_D_MAX)).toNat

/-- What one run of the control program leaves: its variables and both duties. -/
structure Program where
  iv : Int
  iiA : Int
  iiB : Int
  iref : Int
  dA : Nat
  dB : Nat
  deriving DecidableEq, Repr

/-- The control program of R491, on a bus code, a bank code and the phase currents with the ripple taken off. -/
def controlProgram (h : Head) (vb vk : Nat) (iA iB : Int) : Program :=
  let m := rsvMode h
  let set := rgI h RSV_SET_VBUS_SET
  let imax := rgI h RSV_IMAX_IMAX
  let load := decide (2 * rg h RSV_BAND_W_LOAD ≤ h.rsv.iref.natAbs)
  let k := coefs h vk (m == 3 || m == 6) load
  let dff := feedForward h (if m = 3 then set else (vb : Int)) vk
  let e := set - (vb : Int)
  let iv := if m = 3 then clampI (h.rsv.iv + (k.kiV * e) / 1024) 0 (2 * imax) else h.rsv.iv
  let iref : Int :=
    if m = 3 then clampI ((k.kpV * e) / 1024 + iv) 0 (2 * imax)
    else if m = 1 then -2 * rgI h RSV_CHARGE_CURRENT
    else if m = 6 then 2 * rgI h RSV_HEALTH_CURRENT
    else 0
  let eA := iref / 2 - iA
  let eB := iref / 2 - iB
  let iiA := clampI (h.rsv.iiA + (k.kiI * eA) / 16) (-8192) 8192
  let iiB := clampI (h.rsv.iiB + (k.kiI * eB) / 16) (-8192) 8192
  ⟨iv, iiA, iiB, iref, clampDuty h (dff + (k.kpI * eA) / 16 + iiA), clampDuty h (dff + (k.kpI * eB) / 16 + iiB)⟩

/-- RSV_DUTY shows the duties computed last, and their movement is kept (R494). -/
def newDuties (h : Head) (dA dB : Nat) : Head :=
  let move (f : Fld) (d : Nat) : Nat := ((d : Int) - rgI h f).natAbs
  let a := move RSV_DUTY_A dA
  let b := move RSV_DUTY_B dB
  let keep (l : List Nat) : List Nat := l.drop (l.length - 63)
  let h := setRsv h (fun r => { r with moveA := keep r.moveA ++ [a], moveB := keep r.moveB ++ [b] })
  fset (fset h .east RSV_DUTY_A dA) .east RSV_DUTY_B dB

/-! ### Modes (R488) -/

/-- A bank test given up: it has no valid results (R509). -/
def dropHealth (h : Head) : Head :=
  if h.rsv.health.isSome then fset (setRsv h (fun r => { r with health := none })) .east RSV_HEALTH_BUSY 0 else h

/-- The requested mode that is due takes effect (R511). In OFF all gates are low. -/
def applyDue (h : Head) : Head :=
  match h.rsv.due with
  | none => h
  | some m =>
    let h := dropHealth (setRsvMode h m)
    setRsv h (fun r => { r with
      due := none, tripDis := false, limpDis := false, limpOver := false
      pendA := if m = 0 then none else r.pendA
      pendB := if m = 0 then none else r.pendB
      nextA := if m = 0 then none else r.nextA
      nextB := if m = 0 then none else r.nextB
      actA := if m = 0 then 0 else r.actA
      actB := if m = 0 then 0 else r.actB })

/-- A word written to RSV_CTRL.MODE (R488, R495): OPEN only in Standby; LIMP is left only after 16 good samples. -/
def rsvModeEffect (h : Head) (src v : Nat) : Head :=
  let v' := if 4 < v then 0 else v
  let h := if 4 < v then rsvConfig h src 4 0x040 else h
  if (v' = 4 ∧ chipMode h ≠ 0) ∨ (rsvMode h = 5 ∧ h.rsv.good < 16) then rsvConfig h src 11 0x040
  else
    let h := if v' = rg h RSV_CTRL_MODE then h else setRsv h (fun r => { r with iv := 0, iiA := 0, iiB := 0 })
    setRsv (fset h .east RSV_CTRL_MODE v') (fun r => { r with due := some v' })

/-- RSV_MODE_WRITE. -/
def rsvModeWrite (h : Head) (ini : Initiator) (v : Nat) : Head :=
  withWrite h ini (pg .rsv .east) 0x040 (fun h => rsvModeEffect h (sourceCode ini) (v % 8))

/-- What the sample's bank code does to the mode: the end of a discharge after the dump (R504), CHARGE and STANDBY (R488). -/
def followMode (h : Head) (bank : Option Nat) (vk : Nat) : Head :=
  if (h.rsv.tripDis ∨ h.rsv.limpDis) ∧ dumpState h = 2 ∧ vk * 16 ≤ rg h RSV_BANK_VMIN_MV then
    setRsv (setRsvMode h 0) (fun r => { r with
      tripDis := false, limpDis := false, limpOver := false, pendA := none, pendB := none, nextA := none, nextB := none
      actA := 0, actB := 0 })
  else match bank with
    | none => h
    | some v =>
      if rg h RSV_CTRL_MODE ≠ 1 ∨ h.rsv.tripDis then h
      else if rsvMode h = 1 ∧ rg h RSV_SET_VBANK_TARGET ≤ v then raise (setRsvMode h 2) .east Ev.RSV_CHARGED
      else if rsvMode h = 2 ∧ v + rg h RSV_CHARGE_HYST < rg h RSV_SET_VBANK_TARGET ∧ h.rsv.health.isNone then setRsvMode h 1
      else h

/-! ### Lost feedback (R494, R495) -/

/-- How many samples in a row a code has held. -/
def holdCode (s : Nat × Nat) : Option Nat → Nat × Nat
  | some v => if v = s.1 ∧ s.2 ≠ 0 then (v, s.2 + 1) else (v, 1)
  | none => (s.1, 0)

/-- The four channels of a sample, as converted or missing: the last codes, and the judgement of stale and frozen channels. -/
def takeSample (h : Head) (vbus vbank ia ib : Option Nat) : Head :=
  let put (h : Head) (f : Fld) (v : Option Nat) : Head := match v with | some v => fset h .east f v | none => h
  let h := put (put (put (put h RSV_ADC_V_VBUS vbus) RSV_ADC_V_VBANK vbank) RSV_ADC_I_IA ia) RSV_ADC_I_IB ib
  let miss (n : Nat) (v : Option Nat) : Nat := if v.isSome then 0 else n + 1
  let h := setRsv h (fun r => { r with
    missV := miss r.missV vbus, missK := miss r.missK vbank, missA := miss r.missA ia, missB := miss r.missB ib
    stillV := holdCode r.stillV vbus, stillA := holdCode r.stillA ia, stillB := holdCode r.stillB ib
    goodV := vbus.getD r.goodV, goodK := vbank.getD r.goodK })
  let late := !(vbus.isSome && vbank.isSome && ia.isSome && ib.isSome)
  let h := if late then raise (fadd h .east RSV_CNT_LATE_COUNT) .east Ev.RSV_LATE else h
  let r := h.rsv
  let limit := 64 * rg h RSV_LIMP_MOVE
  let frozen (s : Nat × Nat) (move : Nat) : Bool := decide (64 ≤ s.2) && decide (limit ≤ move)
  let stale := ofBool (decide (2 ≤ r.missV)) * 8 + ofBool (decide (2 ≤ r.missK)) * 4 + ofBool (decide (2 ≤ r.missA)) * 2 +
    ofBool (decide (2 ≤ r.missB))
  let froze := ofBool (frozen r.stillV (max r.moveA.sum r.moveB.sum)) * 8 + ofBool (frozen r.stillA r.moveA.sum) * 2 +
    ofBool (frozen r.stillB r.moveB.sum)
  let h := fset (fset h .east RSV_STATUS_STALE stale) .east RSV_STATUS_FROZEN froze
  setRsv h (fun r => { r with good := if late ∨ stale ≠ 0 ∨ froze ≠ 0 then 0 else r.good + 1 })

/-- LIMP entered (R495) from the closed loop when a channel is stale or frozen. -/
def limpCheck (h : Head) : Head :=
  if (rg h RSV_STATUS_STALE ≠ 0 ∨ rg h RSV_STATUS_FROZEN ≠ 0) ∧ [1, 2, 3, 6].contains (rsvMode h) = true then
    let h := setRsv (dropHealth h) (fun r => { r with limpDis := rsvMode h == 3, limpOver := false, decay := 0 })
    raise (setRsvMode h 5) .east Ev.RSV_LIMP
  else h

/-- The bank code LIMP works with, lowered while VBANK is stale in a discharge. -/
def limpBank (h : Head) (vbank : Option Nat) : Head :=
  if vbank.isSome ∨ h.rsv.missK < 2 ∨ !(h.rsv.tripDis || h.rsv.limpDis) then h
  else
    let n := h.rsv.decay + 1
    setRsv h (fun r => { r with decay := n, goodK := if n % 1024 = 0 then r.goodK - rg h RSV_LIMP_DECAY else r.goodK })

/-- LIMP's duty: feed-forward alone. -/
def limpDuty (h : Head) : Nat :=
  let vref : Int := if h.rsv.tripDis ∨ h.rsv.limpDis then rgI h RSV_SET_VBUS_SET else (h.rsv.goodV : Int)
  clampDuty h (feedForward h vref h.rsv.goodK)

/-- LIMP_TIMEOUT (R495). -/
def limpTimeout (h : Head) : Head :=
  if rsvMode h = 5 then latchFault (setRsv h (fun r => { r with limpOver := true })) 2 true true else h

/-- CLEAR_FAULT (R511): a fault whose cause persists latches again. -/
def clearFaultEffect (h : Head) : Head :=
  let h := fset (fset (fset h .east RSV_STATUS_FAULTS 0) .east RSV_STATUS_PHASE_A_OFF 0) .east RSV_STATUS_PHASE_B_OFF 0
  let h := if 3100 < h.rsv.goodK then latchFault h 3 true true else h
  if rsvMode h = 5 ∧ h.rsv.limpOver then latchFault h 2 true true else h

def clearFault (h : Head) (ini : Initiator) : Head := withWrite h ini (pg .rsv .east) 0x040 clearFaultEffect

/-! ### Bank health (R508) -/

/-- A sample of a bank test: the charge drawn, the current at sample 20, the bank codes of samples 20 to 35. -/
def healthSample (h : Head) (iA iB : Int) (vk : Nat) : Head :=
  match h.rsv.health with
  | none => h
  | some t =>
    match t.tail with
    | none =>
      let id := iA * rgI h RSV_DUTY_A + iB * rgI h RSV_DUTY_B
      setRsv h (fun r => { r with health := some { t with
        n := t.n + 1
        charge := t.charge + id
        onset := if t.n = 20 then id else t.onset
        during16 := if 20 ≤ t.n ∧ t.n ≤ 35 then t.during16 + vk else t.during16 } })
    | some l => setRsv h (fun r => { r with health := some { t with tail := some (l ++ [vk]) } })

/-- A quotient of a measurement; where its divisor is not positive, or it is negative, a free value. -/
def measured (h : Head) (num den : Int) (bits : Nat) : Nat × Head :=
  if den ≤ 0 ∨ num < 0 then
    let (k, h) := fresh h
    (Config.freeNat k % 2 ^ bits, h)
  else (min (2 ^ bits - 1) (num / den).toNat, h)

/-- The results written once 64 samples have followed the test. -/
def healthResult (h : Head) : Head :=
  match h.rsv.health with
  | none => h
  | some t => match t.tail with
    | none => h
    | some l =>
      if l.length < 64 then h
      else
        let (cap, h) := measured h t.charge (655360 * ((t.before64 : Int) - (l.sum : Nat))) 15
        let (esr, h) := measured h (400 * 65536 * ((t.before16 : Int) - (t.during16 : Nat))) t.onset 16
        let h := fset (fset (fset h .east RSV_HEALTH_RESULT_CAP_MF cap) .east RSV_HEALTH_RESULT_ESR esr) .east RSV_HEALTH_RESULT_VALID 1
        let h := fset (setRsv h (fun r => { r with health := none })) .east RSV_HEALTH_BUSY 0
        let h := raise h .east Ev.RSV_HEALTH_DONE
        if cap < rg h RSV_BANK_LIM_CAP_MIN_MF ∨ rg h RSV_BANK_LIM_ESR_MAX < esr then raise h .east Ev.RSV_BANK_WEAK else h

/-- RSV_HEALTH.START: only in STANDBY. -/
def healthStartEffect (h : Head) (src : Nat) : Head :=
  if rsvMode h ≠ 2 ∨ h.rsv.health.isSome then rsvConfig h src 11 0x0AC
  else
    let l := h.rsv.banks
    let t : HealthTest := ⟨0, l.sum * 64 / max 1 l.length, (l.drop (l.length - 16)).sum * 16 / max 1 (min 16 l.length), 0, 0, 0, none⟩
    let h := setRsv h (fun r => { r with health := some t })
    setRsvMode (fset (fset h .east RSV_HEALTH_BUSY 1) .east RSV_HEALTH_RESULT_VALID 0) 6

def healthStart (h : Head) (ini : Initiator) : Head :=
  withWrite h ini (pg .rsv .east) 0x0AC (fun h => healthStartEffect h (sourceCode ini))

/-- HEALTH_END: MS milliseconds have passed, and the mode in force is STANDBY again. -/
def healthEnd (h : Head) : Head :=
  if rsvMode h ≠ 6 then h
  else setRsvMode (setRsv h (fun r => { r with health := r.health.map (fun t => { t with tail := some [] }) })) 2

/-! ### Samples (R489, R490) -/

/-- RSV_SAMPLE: the four codes, or none where a conversion is missing, and the count of carrier A at the trigger. The duties are
committed 400 ns, 2,560 counts, later. -/
def rsvSample (h : Head) (vbus vbank ia ib : Option Nat) (carrier : Nat) : Head :=
  let h := takeSample (applyDue h) (vbus.map (· % 4096)) (vbank.map (· % 4096)) (ia.map (· % 4096)) (ib.map (· % 4096))
  let h := if (match vbank with | some v => decide (3100 < v % 4096) | none => false) && !(rg h RSV_STATUS_FAULTS).testBit 3 then
      latchFault h 3 true true
    else h
  let h := limpCheck h
  let h := if rsvMode h = 5 then limpBank h vbank else h
  let vk := h.rsv.goodK
  let th := carrier % 12800 / 400
  let h := match ia, ib with
    | some a, some b => setRsv h (fun r => { r with
        iA := ((a % 4096 : Nat) : Int) - 2048 - ripple h th vk, iB := ((b % 4096 : Nat) : Int) - 2048 - ripple h (th + 16) vk })
    | _, _ => h
  let h := setRsv h (fun r => { r with vk := vk, banks := r.banks.drop (r.banks.length - 63) ++ [vk] })
  let late := !(vbus.isSome && vbank.isSome && ia.isSome && ib.isSome)
  let m := rsvMode h
  let h :=
    if m = 5 then commitSample (newDuties h (limpDuty h) (limpDuty h)) carrier (limpDuty h) (limpDuty h)
    else if m = 0 ∨ m = 4 then newDuties h (rg h RSV_DUTY_A) (rg h RSV_DUTY_B)
    else if late then
      let a := rg h RSV_DUTY_A
      let b := rg h RSV_DUTY_B
      commitSample (newDuties h a b) carrier a b
    else
      let p := controlProgram h h.rsv.goodV vk h.rsv.iA h.rsv.iB
      let h := setRsv h (fun r => { r with iv := p.iv, iiA := p.iiA, iiB := p.iiB, iref := p.iref })
      commitSample (newDuties h p.dA p.dB) carrier p.dA p.dB
  followMode (healthResult (healthSample h h.rsv.iA h.rsv.iB vk)) vbank vk

/-- RSV_COMMIT.GO (R493): in OPEN, RSV_DUTY is committed at a count of carrier A. -/
def rsvCommitEffect (h : Head) (carrier : Nat) : Head :=
  if rsvMode h = 4 then commitDuties h carrier (rg h RSV_DUTY_A) (rg h RSV_DUTY_B) else h

def rsvCommit (h : Head) (ini : Initiator) (carrier : Nat) : Head :=
  withWrite h ini (pg .rsv .east) 0x068 (fun h => rsvCommitEffect h carrier)

/-! ### Energy (R507) -/

/-- The smaller of the nominal and a measured capacitance. -/
def bankCap (h : Head) : Nat :=
  let c := rg h RSV_BANK_CAP_MF
  if fbit h .east RSV_HEALTH_RESULT_VALID then min c (rg h RSV_HEALTH_RESULT_CAP_MF) else c

/-- ALLOWANCE_UPDATE. A dump power of 0 leaves the time open. -/
def allowance (h : Head) : Head :=
  let v := h.rsv.vk * 16
  let vmin := rg h RSV_BANK_VMIN_MV
  let e := if v ≤ vmin then 0 else bankCap h * (v * v - vmin * vmin) / 2000000
  let p := rg h RSV_ALLOW_CFG_POWER_W
  let (t, h) : Nat × Head := if p = 0 then (Config.freeNat h.freeCtr, (fresh h).2) else (e / p, h)
  let a : Int := ((t : Int) - rgI h RSV_ALLOW_CFG_RESERVE_MS) * rgI h RSV_ALLOW_CFG_RATE - 1024
  let mib := (clampI a 0 24576).toNat
  let h := fset (fset h .east RSV_ALLOW_MIB mib) .east RSV_ALLOW_TIME_MS (min t 65535)
  let low := decide (mib < fget h .east VIT_QUOTA_NOW_QUOTA_MIB)
  let was := h.rsv.low
  let h := setRsv h (fun r => { r with low := low })
  if low ∧ !was then raise h .east Ev.RSV_BANK_LOW else h

/-! ### Power failure (R496 to R501) -/

/-- MAINS_LOST and MAINS_BACK: MAINS_OK falls, or rises. -/
def mainsChange (h : Head) (ok : Bool) : Head :=
  if fbit h .east RSV_STATUS_MAINS_OK = ok then h
  else raise (fset h .east RSV_STATUS_MAINS_OK (ofBool ok)) .east (if ok then Ev.RSV_MAINS_BACK else Ev.RSV_MAINS_LOST)

/-- BUS_TRIP: the bus stays below TRIP past the glitch filter. DISCHARGE is in force, or LIMP with a discharge (R488, R509); the event
goes to DUMP_ARM. -/
def busTrip (h : Head) : Head :=
  let h := fadd (fset h .east RSV_STATUS_BUS_TRIPPED 1) .east RSV_CNT_TRIP_COUNT
  let h := setRsv (dropHealth h) (fun r => { r with due := none })
  let h := if rsvMode h = 5 then setRsv h (fun r => { r with limpDis := true })
    else setRsv (setRsvMode h 3) (fun r => { r with tripDis := true })
  raise h .east Ev.RSV_BUS_TRIP

/-- The fail computation, with its forced reload (R496). -/
def failCompute (h : Head) : Head :=
  let vk := h.rsv.vk
  let ff := feedForward h (rgI h RSV_SET_VBUS_SET) vk
  let pre := rgI h RSV_FAIL_I_PRESET
  let k := coefs h vk true true
  let limp := rsvMode h == 5
  let duty (i : Int) : Nat := clampDuty h (if limp then ff else ff + (k.kpI * (pre - i)) / 16)
  let a := duty h.rsv.iA
  let b := duty h.rsv.iB
  let h := if limp then h else setRsv (setRsvMode h 3) (fun r => { r with iv := 2 * pre, iiA := 0, iiB := 0, tripDis := true })
  let offA := phaseOff h false
  let offB := phaseOff h true
  setRsv (newDuties h a b) (fun r => { r with
    pendA := none, pendB := none, nextA := none, nextB := none
    actA := if offA then r.actA else a
    actB := if offB then r.actB else b })

/-- The islands that Dump keeps (R499), beside those that always run. -/
def dumpKeeps (b : Block) : Bool := [Block.vit, .hbm, .mem, .cph, .dsp, .cur, .plk, .anx].contains b

/-- DUMP_ARM (R73, R496, R499): Dump mode, the dump, the fail computation. A second DUMP_ARM in Dump does nothing. -/
def dumpArm (h : Head) : Head :=
  if inDump h then h
  else
    let h := failCompute h
    let h := setMode h 2
    let h := foldHead h (islands.filter (fun p => !dumpKeeps p.block)) darken
    dumpStart (foldHead h (List.range 52) darkenCore)

/-- KEY_FRESH_WRITE (R502): a write of 1; the vault may then be READY (R330). -/
def keyFreshEffect (h : Head) : Head := vaultReady (fset h .east RSV_DUMP_KEY_FRESH 1)

def keyFreshWrite (h : Head) (ini : Initiator) : Head := withWrite h ini (pg .rsv .east) 0x0A4 keyFreshEffect

end Sys2Proof.Machine
end

