-- ==== Sys2Proof/Machine/Boot.lean ====
section
/-! DEFINITION. The boot (R398, R403 to R406, R452, R455): slot selection, measurement, keys, locked routes, the Provenance record,
release. -/

namespace Sys2Proof.Machine

open Reg

/-! ### Slot selection (R449, R452) -/

/-- The slots of a kind. -/
def kindSlots (os : Bool) : List Nat := if os then [2, 3] else [0, 1]

def setFallback (h : Head) : Head := fset h .east DOC_STATUS_FALLBACK 1

/-- A slot rejected: 1 trial unconfirmed, 2 signature, 3 security version. -/
def rejectSlot (h : Head) (s reason : Nat) : Head := setFallback (programWord h (controlWord s 3) (marker (slotMagic 3) reason))

/-- Trials that were not confirmed are rejected. -/
def rejectTrials (h : Head) (os : Bool) : Head :=
  foldHead h (kindSlots os) (fun h s => if slotUsable h s && markPresent h s 1 && !markGood h s 2 then rejectSlot h s 1 else h)

/-- The slot of the highest generation. -/
def higherGen (h : Head) (l : List Nat) : Option Nat :=
  l.foldl (fun best s => match best with
    | none => some s
    | some b => if slotGen h b < slotGen h s then some s else some b) none

/-- The slot to run, and whether it is new: new images first, then the confirmed ones. -/
def pickSlot (h : Head) (os : Bool) : Option (Nat × Bool) :=
  let l := (kindSlots os).filter (slotUsable h)
  match higherGen h (l.filter (fun s => !markPresent h s 1)) with
  | some s => some (s, true)
  | none => (higherGen h (l.filter (fun s => markGood h s 2))).map (fun s => (s, false))

def slotImage (h : Head) (s : Nat) : Nat := arcBytes h (slotBase s) (slotLength h s)

/-- The digest of the key that signs a kind's images: the ROM's, or the option area's (R398). -/
def signerDigest (h : Head) (os : Bool) : Nat := if os then arcBytes h 64 48 else Config.firmwareKey

/-- Why an image is refused (R398 steps 3 and 8): none where it is not. -/
def imageFault (h : Head) (os : Bool) (len bytes : Nat) : Option Nat :=
  if !Config.imageOk (signerDigest h os) len bytes then some 2
  else if Config.imageSvn os len bytes < floorAt h os then some 3
  else none

/-- The slot of a kind that boots, if one does: a slot whose image is refused is rejected, and the rule runs again. -/
def selectSlot (h : Head) (os : Bool) : Nat → Option (Nat × Bool) × Head
  | 0 => (none, h)
  | n + 1 => match pickSlot h os with
    | none => (none, h)
    | some (s, new) =>
      let h := if new then programWord h (controlWord s 1) (marker (slotMagic 1) 0) else h
      match imageFault h os (slotLength h s) (slotImage h s) with
      | some reason => selectSlot (rejectSlot h s reason) os n
      | none => (some (s, new), h)

/-- The rule of R452 from its first line. -/
def bootSlot (h : Head) (os : Bool) : Option (Nat × Bool) × Head := selectSlot (rejectTrials h os) os 2

/-! ### Steps of R398 -/

/-- The fuse record: lifecycle state, floors, custodian row, debug state. -/
def fuseRecord (h : Head) : Nat :=
  lifecycle h + fget h .east UPD_FLOOR_DOC <<< 8 + fget h .east UPD_FLOOR_OS <<< 16 +
    fget h .east CHP_LIFECYCLE_DEBUG_OPEN <<< 24 + (h.doc.custodians.getLast?.getD 0) <<< 32

/-- Step 2: registers 0, 1 and 3. -/
def bootMeasure (h : Head) : Head :=
  msrExtend (msrExtend (msrExtend h 0 Config.romDigest) 1 (sha384 4096 (arcBytes h 0 4096))) 3 (sha384 52 (fuseRecord h))

/-- RECOVERY (step 3): Docent waits for a recovery load. -/
def enterRecovery (h : Head) : Head := raise (fset h .east DOC_STATUS_STAGE 3) .east Ev.DOC_RECOVERY

/-- The device secret that the lifecycle state lets the ROM read (R406, R407, R420). -/
def deviceSecret (h : Head) : Nat :=
  if lifecycle h = 0 then Config.testSecret else if lifecycle h = 4 then Config.blockedSecret else Config.uds

/-- ASCII names as byte strings. -/
def textAttest : Nat := 0x747365747461
def textStore : Nat := 0x65726F7473

/-- Step 5 (R406): the attestation key, the storage key in private slot 4, and the jump to the firmware. -/
def bootSecrets (h : Head) : Head :=
  let s := deviceSecret h
  let cdi := Config.hmac384 s 96 (msrValue h 2 + msrValue h 3 <<< 384)
  let h := { h with doc := { h.doc with attest := Config.hmac384 cdi 6 textAttest } }
  fset (placePrivate h 4 5 (Config.hmac384 s 5 textStore % 2 ^ 256)).2 .east DOC_STATUS_STAGE 1

/-- A key of the image restored with its attributes, by UNWRAP and ACTIVATE. -/
def restoreKey (h : Head) (k : ImageKey) : Head :=
  let h := wr (fadd h .east KEY_CNT_LOAD_COUNT) (pg .key .east) 0x048 k.slot (BitVec.ofNat 32 (k.attr % 2 ^ 30))
  (activateSlot (fillSlot h k.slot k.value) k.slot).2

/-- Step 6: the firmware's configuration, the key image, the binding table, the context-wrap keys. No key image opens on a returned
part (R420). -/
def bootKeys (h : Head) : Head :=
  let h := msrExtend h 5 Config.firmwareConfig
  let open' := decide (lifecycle h ≠ 4)
  let h := if open' then foldHead h (h.doc.image.filter (fun k => decide (8192 ≤ k.slot))) restoreKey else h
  let h := contextKeys h
  let h := if open' then foldHead h (h.doc.image.filter (fun k => decide (k.slot < 8192))) restoreKey else h
  let h := if open' then foldHead h h.doc.imageBinds (fun h e => (commitBinding h e.1 e.2).2) else h
  msrExtend h 4 (sha384 12 (h.doc.imageGen % 2 ^ 32 + (h.doc.counter % 2 ^ 32) <<< 32 + (h.doc.image.length) <<< 64))

/-- A locked route entry set by Docent firmware: a responder, with the copy to Docent kept (R72, R498). -/
def lockRoute (h : Head) (ev responder : Nat) : Head :=
  fset (fset h .east EVT_ROUTE_DATA_KIND 2 ev) .east EVT_ROUTE_DATA_RESPONDER responder ev

/-- The responder of each RSV event (R498). -/
def rsvResponder (n : Nat) : Nat :=
  if n = Ev.RSV_BUS_TRIP.n then 2 else if n = Ev.RSV_MAINS_LOST.n ∨ n = Ev.RSV_BANK_LOW.n then 3 else 6

/-- A page's events all enabled. -/
def enableEvents (h : Head) (b : Block) : Head := hset h (pg b .east) EVT_ENABLE_EVENTS (2 ^ evtCount b - 1)

/-- The locked routes: of the RSV events as R498 gives; of the watchdogs' and the alarms' to RECORD, as the examples of R457 and R419
show. -/
def bootRoutes (h : Head) : Head :=
  let h := foldHead h (List.range (evtCount .rsv)) (fun h n => lockRoute h (evtBase (pg .rsv .east) + n) (rsvResponder n))
  let h := foldHead h [Block.wdg, Block.alm] (fun h b =>
    foldHead h (List.range (evtCount b)) (fun h n => lockRoute h (evtBase (pg b .east) + n) 6))
  foldHead h [Block.rsv, Block.wdg, Block.alm] enableEvents

/-- The feed-forward and the phase tables loaded (R493), and CHARGE asked for. -/
def bootReservoir (h : Head) : Head :=
  let h := foldHead h (List.range 64) (fun h n =>
    let v := if n = 0 then 65535 else min 65535 ((2 * 2 ^ 18 + n) / (2 * n))
    fset (fset h .east RSV_FF_DATA_RECIP v n) .east RSV_FF_DATA_SCALE (Config.rippleScale n) n)
  let h := foldHead h (List.range 32) (fun h n => fset h .east RSV_PH_DATA_CORR (Config.rippleOffset n) n)
  rsvModeEffect h 0xFE 1

/-- Step 7. -/
def bootConfig (h : Head) : Head :=
  let h := bootReservoir (bootRoutes h)
  let h := foldHead h Config.bootRings (fun h n => ringSystem h 0xFE (wingOf (n / 1024)) (n % 1024) true)
  let h := fset h .east DOC_MIRROR_PAGES Config.bootMirrors
  let routes := ((List.range 1024).filter routeLocked).map (fun e => (rd h (pg .evt .east) 0x048 e).toNat)
  let config := Config.bootMirrors + (routes ++ Config.bootRings).foldl (fun v w => v * 2 ^ 32 + w) 0 <<< 32
  msrExtend h 27 (sha384 (4 * (routes.length + Config.bootRings.length + 1)) config)

/-- Step 8: the OS slot, registers 8 and 9. -/
def bootOs (h : Head) : Bool × Head :=
  match bootSlot h true with
  | (none, h) => (false, h)
  | (some (s, trial), h) =>
    let len := slotLength h s
    let image := slotImage h s
    let h := fset (fset h .east DOC_STATUS_OS_SLOT (s - 2)) .east DOC_STATUS_OS_TRIAL (ofBool trial)
    let h := fset h .east UPD_SVN_OS_SVN (min 65535 (Config.imageSvn true len image))
    let h := msrExtend h 8 (sha384 len image)
    (true, msrExtend h 9 (Config.osManifest len image))

/-! ### The Provenance record (R403, R404, R448) -/

/-- A field of a record at a byte offset, of so many bytes. -/
def recField (off len v : Nat) : Nat := (v % 2 ^ (8 * len)) <<< (8 * off)

/-- Bytes 0 to 1,951 of the record, with its nonce. -/
def provBody (h : Head) (nonce : Nat) : Nat :=
  let st (f : Fld) : Nat := fget h .east f
  let slots := st DOC_STATUS_DOC_SLOT + 2 * st DOC_STATUS_OS_SLOT + 4 * st DOC_STATUS_DOC_TRIAL + 8 * st DOC_STATUS_OS_TRIAL +
    16 * st DOC_STATUS_FALLBACK
  let cause := (rd h (pg .chp .east) 0x068 0).toNat % 64
  let alarm := if cause.testBit 5 then 128 + st ALM_LAST_ALARM else 0
  recField 0 4 0x3C0DE5A1 + recField 4 2 1 + recField 6 2 2048 + recField 8 4 h.doc.bootSeq + recField 12 4 (st PRV_CYCLES_COUNT) +
    recField 16 4 (st PRV_HOURS_HOURS) + recField 20 8 (pget h .east CHP_UID_LO_UID CHP_UID_HI_UID) + recField 28 2 0x8400 +
    recField 30 2 0x0A01 + recField 32 1 (lifecycle h) + recField 33 1 slots + recField 34 1 cause + recField 35 1 alarm +
    recField 36 4 (st UPD_SVN_DOC_SVN) + recField 40 4 (st UPD_SVN_OS_SVN) + recField 44 4 (st MSR_USED_USED) + recField 48 16 nonce +
    recField 64 48 h.doc.prevProv + recField 112 48 (sha384 97 (Config.ecPublic h.doc.attest)) + recField 160 1536 (msrAll h)

/-- The record written to its slot of the Provenance area, whose sector is erased before its first slot; its event-recorder record. -/
def writeProvenance (h : Head) : Head :=
  let (k, h) := fresh h
  let body := provBody h (Config.random k)
  let rec' := body + (Config.ecdsaSign h.doc.attest (sha384 1952 body) % 2 ^ 768) <<< (8 * 1952)
  let at' := 0x500000 + 2048 * (h.doc.bootSeq % 4096)
  let h := if at' % 4096 = 0 then eraseSector h (at' / 4096) else h
  let h := foldHead h (List.range 64) (fun h i => programWord h (at' / 32 + i) (rec' >>> (256 * i) % 2 ^ 256))
  let d := sha384 2048 rec'
  let h := { h with doc := { h.doc with bootSeq := (h.doc.bootSeq + 1) % 2 ^ 32, prevProv := d } }
  record h 896 0x0100 (d % 2 ^ 256) true

/-- Step 9: the record, SERVE, and the release of both wings, held until Serving is entered (R473). -/
def bootRelease (h : Head) : Head :=
  releaseEffect (releaseEffect (modeCmdEffect (writeProvenance h) 0xFE 1) 0xFE .east) 0xFE .west

/-- The trial timer (R453). -/
def startTrial (h : Head) : Head :=
  if fbit h .east DOC_STATUS_DOC_TRIAL || fbit h .east DOC_STATUS_OS_TRIAL then
    fset { h with arc := { h.arc with trial := true } } .east UPD_TRIAL_LEFT (fget h .east UPD_TRIAL_SECONDS)
  else h

/-- Steps 5 to 9. With both OS slots refused, no core is released and the head stays in Standby. -/
def bootFirmware (h : Head) : Head :=
  let (os, h) := bootOs (bootConfig (bootKeys (startTrial (bootSecrets h))))
  if os then bootRelease (startTrial h) else syncSlots h

/-- Step 4: register 2, and the slot made execute-only until chip reset, in region 0. -/
def bootImage (h : Head) (s : Nat) (trial : Bool) : Head :=
  let len := slotLength h s
  let image := slotImage h s
  let h := fset (fset h .east DOC_STATUS_DOC_SLOT s) .east DOC_STATUS_DOC_TRIAL (ofBool trial)
  let h := msrExtend (fset h .east UPD_SVN_DOC_SVN (min 65535 (Config.imageSvn false len image))) 2 (sha384 len image)
  let h := fset (fset h .east ARC_XO_BASE_SECTOR (slotBase s / 4096) 0) .east ARC_XO_CFG_SECTORS (slotSize s / 4096) 0
  fset h .east ARC_XO_CFG_LOCKED 1 0

/-- The ROM's known-answer tests fail (R398 step 1): the ENTROPY or the LOCKSTEP alarm is tripped. -/
def selfTestFails (h : Head) : Bool := (fget h .east ALM_STATUS_ACTIVE).testBit 10 || (fget h .east ALM_STATUS_ACTIVE).testBit 5

/-- The boot (R398). With a known-answer test failed Docent stops. The strap BOOT = 1 forces RECOVERY; 2 holds Docent in ROM in the TEST
state (R532). -/
def boot (h : Head) : Head :=
  let h := { h with doc := { h.doc with booted := true } }
  let strap := fget h .east CHP_STRAPS_STRAPS % 4
  if selfTestFails h || strap == 2 && lifecycle h == 0 then h
  else
    let h := bootMeasure h
    if strap = 1 then enterRecovery h
    else match bootSlot h false with
      | (none, h) => enterRecovery (syncSlots h)
      | (some (s, trial), h) => syncSlots (bootFirmware (bootImage h s trial))

/-- RECOVERY_RUN (R455): the image loaded into Docent SRAM, checked, measured and run; a refused image changes nothing. -/
def recoveryRun (h : Head) (len : Nat) : Head :=
  let image := memNum h.sram 0 len
  if fget h .east DOC_STATUS_STAGE ≠ 3 ∨ 448 * 1024 < len ∨ (imageFault h false len image).isSome = true then h
  else
    let h := fset (setFallback h) .east UPD_SVN_DOC_SVN (min 65535 (Config.imageSvn false len image))
    let h := raise (fset h .east UPD_STATUS_RECOVERED 1) .east Ev.UPD_RECOVERED
    bootFirmware (msrExtend h 2 (sha384 len image))

end Sys2Proof.Machine
end

