-- ==== Sys2Proof/Machine/Reset.lean ====
section
/-! DEFINITION. Chip reset (R177, R419, R445, R453, R457, R504, R529). -/

namespace Sys2Proof.Machine

open Reg

/-! ### What a chip reset leaves -/

/-- The causes of a chip reset, as bits of CHP_RESET_CAUSE (R81). -/
inductive Cause | powerOn | external | watchdog | docent | brownOut | alarm
  deriving DecidableEq, Repr

def causeBit : Cause → Nat
  | .powerOn => 0
  | .external => 1
  | .watchdog => 2
  | .docent => 3
  | .brownOut => 4
  | .alarm => 5

/-- CHP_RESET_CAUSE of both pages (R81): power-on sets its bit and clears the rest, every other cause joins what is set. -/
def setCause (h : Head) (c : Cause) : Head :=
  foldHead h wings (fun h w =>
    let old := if c = .powerOn then 0 else (rd h (pg .chp w) 0x068 0).toNat
    wr h (pg .chp w) 0x068 0 (BitVec.ofNat 32 (old ||| 1 <<< causeBit c)))

/-- STOP driven by the reset (R434): the operation in progress ends short, at a point the spec leaves open. -/
def stopArchive (h : Head) : Head :=
  let (k, h) := fresh h
  arcStop h (Config.freeNat k)

/-- The Archive and the recorder after a reset: the array, the buffer and their bookkeeping stay (R443, R445). -/
def arcAfter (a : ArcState) : ArcState :=
  { a with op := none, entries := 0, held := [], recPayload := 0, upd := none, trial := false, grace := false }

/-- Docent after a reset: what the fuses and the Archive hold stays. -/
def docAfter (d : DocState) : DocState :=
  { Head.reset.doc with
    counter := d.counter, imageGen := d.imageGen, image := d.image, imageBinds := d.imageBinds, peers := d.peers,
    federation := d.federation, custodians := d.custodians, fused := d.fused, bootSeq := d.bootSeq, prevProv := d.prevProv }

/-- The head's state beside its registers after a chip reset. Content of HBM outlives one whose rails stayed (R177, R529), and all of
memory but HBM every one but power-on. -/
def stateAfter (h : Head) (kept powerOn : Bool) : Head :=
  { Head.reset with
    regs := h.regs
    out := h.out
    bus := h.bus
    freeCtr := h.freeCtr
    mem := if powerOn then [] else if kept then h.mem else h.mem.filter (fun c => (hbmWing c.1).isNone)
    poison := if powerOn then [] else h.poison
    cat := { Head.reset.cat with flash := h.cat.flash, flashSeal := h.cat.flashSeal }
    cur := { Head.reset.cur with dump := h.cur.dump, hours := h.cur.hours }
    bridges := h.bridges
    doc := docAfter h.doc
    arc := arcAfter h.arc
    pwr := { PwrState.reset with
      hold := h.pwr.hold
      thermTrip := h.pwr.thermTrip
      crystal := h.pwr.crystal && !powerOn
      droops := if powerOn then [] else h.pwr.droops } }

/-- Retained Vitrine content (R177): the pair-dirty slots, and the write sequences above them. -/
def retainSlots (h : Head) (l : List Slot) : Head :=
  let l := (l.filter (fun s => isPairDirty s.st)).map (fun s => { s with retained := true })
  if l = [] then h
  else
    let h := foldHead (setSlots { h with vit := { h.vit with retained := true } } l) (l.map (·.wseq)) raiseSeq
    foldHead h wings (fun h w =>
      fset (fset h w VIT_RETAIN_RETAINED 1) w VIT_RETAIN_RETAINED_MIB (granMib (l.filter (fun s => s.wing == w)).length))

/-- A kind's floor: the good words from the start of its field (R440). -/
def floorCount (h : Head) (first : Nat) : Nat :=
  ((List.range 40).takeWhile (fun i => markerGood 0x5F100001 (arcWord h (first + i)))).length

/-- The fields that the hardware computes at chip reset from what survives it: the option area's (R439), floors, slots, hours, the
lifecycle state of the fuses (R420). -/
def loadReset (h : Head) : Head :=
  let w := arcWord h 1
  let h := { h with arc := { h.arc with options := if markerGood 0x0A5E0002 w then some w else none } }
  let h := loadOptions h (fun _ => true)
  let h := fset (fset h .east UPD_FLOOR_DOC (floorCount h 36)) .east UPD_FLOOR_OS (floorCount h 76)
  let hours := h.arc.tallyBase + h.arc.tallyUsed
  let h := fset { h with cur := { h.cur with hours := hours } } .east PRV_HOURS_HOURS (hours * 256 % 2 ^ 32)
  syncSlots (setLifecycle h h.doc.fused)

/-- The recorder at a reset (R443 to R445): at power-on the buffer is lost, SEQ and POWER_CYCLES follow the newest record; else the buffer
is drained, with the reset's own record. -/
def recorderReset (h : Head) (powerOn : Bool) : Head :=
  let cause := (rd h (pg .chp .east) 0x068 0).toNat
  if powerOn then
    let none' := h.arc.perm = 0 ∧ h.arc.circ = []
    let next := if none' then 0 else (fget h .east PRV_NEWEST_SEQ + 1) % 2 ^ 32
    let h := { h with arc := { h.arc with recs := [], nextSeq := next, lostNext := 0 } }
    record (fset h .east PRV_CYCLES_COUNT (h.arc.newestCycles + 1)) 944 1 cause false
  else drainRecords (record (drainRecords h) 944 3 cause false)

/-- A chip reset (R12, R177, R413, R473): Docent is in ROM, the head in Standby. -/
def chipReset (h : Head) (c : Cause) (railsStayed : Bool) : Head :=
  let power := decide (c = .powerOn)
  let kept := railsStayed && !power
  let slots := if kept then h.vit.slots else []
  let h := stateAfter (setCause (stopArchive h) c) kept power
  let h := resetRegs h (if power then powerKept else chipKept) 0 (fun _ => true)
  let h := if power then setCause h c else h
  let h := recorderReset (loadReset h) power
  { retainSlots h slots with pwr := { h.pwr with railsStayed := kept }, evq := [] }

/-- A reset from within, after which the boot follows at once. -/
def internalReset (h : Head) (c : Cause) : Head := boot (chipReset h c true)

/-! ### Resets from within -/

/-- DOC_CTRL.CHIP_RESET. -/
def docChipReset (h : Head) (ini : Initiator) : Head := withWrite h ini (pg .doc .east) 0x040 (fun h => internalReset h .docent)

/-- ALARM_RESET (R419). -/
def alarmReset (h : Head) : Head := if h.doc.alarmHold then internalReset h .alarm else h

/-- TRIAL_EXPIRY (R453). -/
def trialExpiry (h : Head) : Head :=
  if h.arc.trial then internalReset (raise h .east Ev.UPD_TRIAL_EXPIRED) .watchdog else h

/-- WDG_GRACE_EXPIRY (R457). A brown-out that holds STOP with it is a cause too (R458). -/
def wdgGrace (h : Head) : Head :=
  if h.arc.grace then internalReset (onlyIf (fbit h .east ARC_STATUS_BOR) h (fun h => setCause h .brownOut)) .watchdog else h

/-- DUMP_RESTART (R502, R504): 100 ms of good mains after the dump's end. -/
def dumpRestart (h : Head) : Head :=
  if (dumpState h = 2 ∨ dumpState h = 3) ∧ fbit h .east RSV_STATUS_MAINS_OK = true then internalReset h .docent else h

end Sys2Proof.Machine
end

