-- ==== Sys2Proof/Machine/Rails.lean ====
section
/-! DEFINITION. The rails and the reset ball (R528 to R530). -/

namespace Sys2Proof.Machine

open Reg

/-- POWER_ON (R528 step 1): the power-on reset holds the chip. -/
def powerOn (h : Head) : Head :=
  let h := chipReset h .powerOn false
  { h with pwr := { h.pwr with hold := .reset, thermTrip := false } }

/-- RESET_RELEASE (R528 steps 5 and 6): Docent starts in ROM. THERMTRIP_N holds the chip until the rails are removed. -/
def resetRelease (h : Head) : Head :=
  match h.pwr.hold with
  | .off => h
  | .reset => if h.pwr.thermTrip then h else boot { h with pwr := { h.pwr with hold := .running } }
  | .running => if h.doc.booted then h else boot h

/-- The level of RESET_OUT_N: released once Docent starts in ROM (R528 step 6). -/
def resetOutN (h : Head) : Bool := h.pwr.hold == .running

/-- The chip held in reset for a cause: a first reset, or a further cause of the one under way (R529). A watchdog's
grace that a brown-out cuts short is a cause too (R458), and so is an alarm whose hold it cuts short. -/
def heldReset (h : Head) (c : Cause) (railsStayed : Bool) : Head :=
  match h.pwr.hold with
  | .off => h
  | .running =>
    let h := if c = .brownOut ∧ h.arc.grace then setCause h .watchdog else h
    let h := if c = .brownOut ∧ h.doc.alarmHold then setCause h .alarm else h
    let h := chipReset h c railsStayed
    { h with pwr := { h.pwr with hold := .reset } }
  | .reset =>
    if (rd h (pg .chp .east) 0x068 0).toNat = 1 then h
    else
      let h := setCause h c
      if railsStayed then h
      else
        let h := clearRetained (freeSlots h (fun _ => true))
        { h with pwr := { h.pwr with railsStayed := false }, mem := h.mem.filter (fun e => (hbmWing e.1).isNone) }

/-- RESET_ASSERT (R529). -/
def resetAssert (h : Head) (railsStayed : Bool) : Head := heldReset h .external railsStayed

/-- RAIL_BROWN_OUT (R529). -/
def railBrownOut (h : Head) (railsStayed : Bool) : Head := heldReset h .brownOut railsStayed

/-- RAILS_REMOVED (R530): the head goes Off; an Archive operation under way ends short. -/
def railsRemoved (h : Head) : Head :=
  let h := stopArchive h
  { h with pwr := { h.pwr with hold := .off }, evq := [] }

/-- CRYSTAL_STABLE (R528): operating hours go on without a step. -/
def crystalStable (h : Head) : Head := if h.pwr.hold = .off then h else { h with pwr := { h.pwr with crystal := true } }

end Sys2Proof.Machine
end

