-- ==== Sys2Proof/Machine/Responders.lean ====
section
/-! DEFINITION. The event fabric (R70 to R76): delivery, the hardware responders, wait groups; and the form of every meaning. -/

namespace Sys2Proof.Machine

open Reg

/-! ### Wait groups (R75, R76) -/

/-- A hart is a member of a wait group. -/
def inGroup (h : Head) (g n : Nat) : Bool :=
  if n < 32 then (fget h .east EVT_WG_MEMBERS_LO_HARTS g).testBit n else (fget h .east EVT_WG_MEMBERS_HI_HARTS g).testBit (n - 32)

def groupMembers (h : Head) (g : Nat) : List Nat := (List.range 52).filter (inGroup h g)

/-- Groups that have members. -/
def liveGroups (h : Head) : List Nat :=
  ((h.regs.filter (fun e => decide (keyPage e.1 = pageNum (pg .evt .east)) && (decide (keyOff e.1 = 0x05C) || decide (keyOff e.1 = 0x060)))).map
    (fun e => keyBank e.1)).eraseDups

/-- A member that waits, or lies at rung 3 or 4. -/
def memberWaits (h : Head) (n : Nat) : Bool := tabHas h.core.waits n || decide (3 ≤ coreRung h n)

/-- A group's timer restarts, and it is stalled no longer. -/
def groupTimer (h : Head) (g : Nat) : Head :=
  fset { h with groupTimes := tabStore h.groupTimes 0 g (frmTime h) } .east EVT_WG_STATE_STALLED 0 g

/-- No MSI and no forced wake has reached a member of a group for its EVT_WG_TIMEOUT, on FRM time (R75). -/
def groupQuiet (h : Head) (g : Nat) : Bool :=
  decide (tabGet h.groupTimes 0 g + 1000 * fget h .east EVT_WG_TIMEOUT_MICROS g ≤ frmTime h)

/-- EVT_WG_STATE.WAITING of every group. -/
def syncGroups (h : Head) : Head :=
  foldHead h (liveGroups h) (fun h g => fset h .east EVT_WG_STATE_WAITING ((groupMembers h g).filter (memberWaits h)).length g)

/-- A delivery to a hart restarts the timers of its group. -/
def heard (h : Head) (n : Nat) : Head :=
  foldHead h ((liveGroups h).filter (fun g => inGroup h g n)) groupTimer

/-! ### Delivery (R70, R71, R74) -/

/-- A hart that an MSI reaches (R74): not fenced or failed, not a spare still to be enabled, not at rung 3 or 4. -/
def hartHears (h : Head) (n : Nat) : Bool :=
  let st := coreState h (hartWing n) (hartCore n)
  decide (n < 52) && (st == 0 || st == 2) && decide (coreRung h n < 3)

/-- An event passed to Docent for want of a hart: its firmware writes a record of it. -/
def toDocent (h : Head) (ev : Nat) : Head :=
  let h := send h (.docentEvent ev)
  if firmwareRuns h then record h ev 0x0100 0 true else h

/-- An MSI of an event to a hart, redirected where the hart cannot take it, through the EVT page of the hart's wing: a number that no hart
has counts as West's. -/
def msiTo (h : Head) (ev hart : Nat) (machine : Bool) (identity : Nat) : Head :=
  if hartHears h hart then heard (send h (.msi hart machine identity)) hart
  else
    let f := fget h (hartWing hart) EVT_CTRL_FALLBACK_HART
    let h := if hartHears h f then heard (send h (.msi f machine identity)) f else toDocent h ev
    raise (fadd h (hartWing hart) EVT_FALLBACK_COUNT_COUNT) (hartWing hart) Ev.EVT_FALLBACK

/-- FOYER_PAUSE (R102). A wing that was not held begins advertising RWIN = 0 (R134, R140). -/
def foyerPause (h : Head) (w : Wing) : Head :=
  let held := fetchHeld h w
  let h := raise (fset (markStalled h w) w FOQ_FETCH_PAUSED 1) w Ev.FOQ_PAUSED
  if held then h else raise h w Ev.MFT_WINDOW_CLOSED

/-- ACCESSION_HOLD (R73). -/
def accessionHold (h : Head) (w : Wing) : Head :=
  { h with cat := if w = .east then { h.cat with holdE := true } else { h.cat with holdW := true } }

/-- The hardware responders (R73). -/
def respond (h : Head) (r ev : Nat) (w : Wing) : Head :=
  match r with
  | 1 => eraseKeys h
  | 2 => dumpArm h
  | 3 => shrinkStart h w
  | 4 => foyerPause h w
  | 5 => accessionHold h w
  | 6 => recordEvent h ev w
  | _ => h

/-- One event delivered by its route entry (R71): the responder, the MSI, the copy to Docent. An entry with IDENTITY 0 sends no MSI
(R74). -/
def deliver (h : Head) (d : Delivery) : Head :=
  let f (x : Fld) : Nat := fget h .east x d.ev
  let kind := f EVT_ROUTE_DATA_KIND
  let hart := f EVT_ROUTE_DATA_HART
  let machine := f EVT_ROUTE_DATA_MLEVEL == 1
  let identity := f EVT_ROUTE_DATA_IDENTITY
  let responder := f EVT_ROUTE_DATA_RESPONDER
  let copy := f EVT_ROUTE_DATA_DOC_COPY == 1
  let h := wdgEventFeed h d.ev
  let h := if kind = 2 ∨ kind = 3 then respond h responder d.ev d.wing else h
  let h := if copy then send h (.docentEvent d.ev) else h
  if (kind = 1 ∨ kind = 3) ∧ identity ≠ 0 then msiTo h d.ev hart machine identity else h

/-- The events that wait, delivered in order with those they raise in turn. A status bit that is set already raises none, so they end. -/
def deliverAll : Nat → Head → Head
  | 0, h => h
  | n + 1, h => match h.evq with
    | [] => h
    | d :: l => deliverAll n (deliver { h with evq := l } d)

/-! ### What follows every command -/

/-- What the blocks do at once on what a command has changed: windows advertised (R134), replication (R342 to R357), the vault and the
dump (R330, R501, R509), the wait groups. -/
def follow (h : Head) : Head := syncGroups (syncReadyBit (dumpKeyCheck (vaultReady (rplRun (syncWindows h)))))

/-- A command's effect brought to its end: the events it raised are delivered. -/
def settle (h : Head) : Head :=
  if h.pwr.hold = .running then syncReadyBit (deliverAll 4096 (follow h)) else h

/-- A command's effect on the head as a meaning. The queue of waiting commands stays as it is. -/
def liftAny (f : Head → Head) (s : State) : Host.Outcome State Fault Refusal := .next { s with dev := settle (f s.dev) }

/-- A command that reaches a running chip: one held in reset, or without rails, does nothing. -/
def lift (f : Head → Head) (s : State) : Host.Outcome State Fault Refusal :=
  liftAny (fun h => if h.pwr.hold = .running then f h else h) s

/-! ### The rows of the fabric -/

/-- EVT_SW_RAISE (R73): event 992 + N on the wing of the page written. Bits 5 and above are reserved. -/
def swRaiseEffect (h : Head) (w : Wing) (v : Word) : Head :=
  let n := v.toNat % 32
  let st := fget h .east EVT_SW_STATUS_EVENTS
  if st.testBit n then h
  else
    let h := fset h .east EVT_SW_STATUS_EVENTS (st ||| 1 <<< n)
    let h := { h with swWest := if w = .west then h.swWest ||| 1 <<< n else h.swWest &&& (h.swWest ^^^ 1 <<< n) }
    if (fget h .east EVT_SW_ENABLE_EVENTS).testBit n then { h with evq := h.evq ++ [⟨992 + n, w⟩] } else h

def swRaise (h : Head) (ini : Initiator) (w : Wing) (v : Word) : Head :=
  withWrite h ini (pg .evt w) 0x04C (fun h => swRaiseEffect h w v)

/-- EVT_ROUTE_DATA (R72, R74): a locked entry takes Docent's write alone; only Docent routes to responders 1 and 2. Responders 7 to 15
are reserved (R11). -/
def routeEffect (h : Head) (ini : Initiator) (w : Wing) (v : Word) : Head :=
  let p := pg .evt w
  let ev := fget h w EVT_ROUTE_INDEX_INDEX
  let src := sourceCode ini
  let addr := pageAddr p + 0x048
  let kind := bitsOf v 29 28
  let r := bitsOf v 27 24
  let forbidden := decide (ini ≠ .docent) && (routeLocked ev || (decide (2 ≤ kind) && (r == 1 || r == 2)))
  let h := if forbidden then capture h p ⟨2, src, true, addr⟩
    else
      let v := putBits (v &&& (maskOf 31 31 ||| maskOf 29 24 ||| maskOf 22 16 ||| maskOf 10 0)) 30 30 (ofBool (routeLocked ev))
      let h := wr h p 0x048 ev (if 6 < r then putBits v 27 24 0 else v)
      let h := if 6 < r then config h p ⟨4, src, true, addr⟩ else h
      if (kind = 1 ∨ kind = 3) ∧ bitsOf v 10 0 = 0 then config h p ⟨4, src, true, addr⟩ else h
  if fbit h w EVT_ROUTE_INDEX_AUTOINC then fset h w EVT_ROUTE_INDEX_INDEX (ev + 1) else h

def routeWrite (h : Head) (ini : Initiator) (w : Wing) (v : Word) : Head :=
  withWrite h ini (pg .evt w) 0x048 (fun h => routeEffect h ini w v)

/-- ROUTE_ERROR (R80): the entry reads 0 until it is rewritten. -/
def routeError (h : Head) (w : Wing) (ev : Nat) : Head :=
  if ev < 1024 then raise (wr h (pg .evt w) 0x048 ev 0) w Ev.EVT_ROUTE_ERROR else h

/-- WG_STALL (R75, R76): a group of which every member waits, quiet for its timeout. The MSI of a rescue hart that cannot take it is
redirected (R514). -/
def wgStall (h : Head) (g : Nat) : Head :=
  let l := groupMembers h g
  if 64 ≤ g ∨ l = [] ∨ !l.all (memberWaits h) ∨ !groupQuiet h g ∨ fbit h .east EVT_WG_STATE_STALLED g then h
  else
    let h := fset h .east EVT_WG_STATE_STALLED 1 g
    let h := if g < 32 then fset h .east EVT_WG_STALLED_LO_GROUPS (fget h .east EVT_WG_STALLED_LO_GROUPS ||| 1 <<< g)
      else fset h .east EVT_WG_STALLED_HI_GROUPS (fget h .east EVT_WG_STALLED_HI_GROUPS ||| 1 <<< (g - 32))
    let h := send h (.docentStall g)
    let h := if fbit h .east EVT_WG_RESCUE_VALID g then
        msiTo h 32 (fget h .east EVT_WG_RESCUE_HART g) false (fget h .east EVT_WG_RESCUE_IDENTITY g)
      else h
    foldHead h ((l.map hartWing).eraseDups) (fun h w => raise h w Ev.EVT_WG_STALL)

/-- EVT_WG_WAKE (R76): by the group's rescue hart or Docent; a write from any other hart is recorded with code 2. -/
def wakeEffect (h : Head) (ini : Initiator) (w : Wing) (v : Word) : Head :=
  let g := v.toNat % 64
  let allowed := match ini with
    | .docent => true
    | .hart n => fbit h .east EVT_WG_RESCUE_VALID g && fget h .east EVT_WG_RESCUE_HART g == n
    | _ => false
  if !allowed then capture h (pg .evt w) ⟨2, sourceCode ini, true, pageAddr (pg .evt w) + 0x070⟩
  else groupTimer (foldHead h (groupMembers h g) forceWake) g

def wgWake (h : Head) (ini : Initiator) (w : Wing) (v : Word) : Head :=
  withWrite h ini (pg .evt w) 0x070 (fun h => wakeEffect h ini w v)

/-- A group's members set (R75, R76): a hart of another group is a reserved encoding, and so is the group's rescue hart; the field then
stores its reset entry (R11). -/
def membersEffect (h : Head) (src : Nat) (w : Wing) (lo hi : Word) : Head :=
  let g := fget h w EVT_WG_INDEX_GROUP
  let m := lo.toNat + (hi.toNat % 2 ^ 20) <<< 32
  let clash := (List.range 52).any (fun n => m.testBit n &&
    ((liveGroups h).any (fun k => decide (k ≠ g) && inGroup h k n) ||
      (fbit h .east EVT_WG_RESCUE_VALID g && fget h .east EVT_WG_RESCUE_HART g == n)))
  let v := if clash then 0 else m
  let h := fset (fset h .east EVT_WG_MEMBERS_LO_HARTS v g) .east EVT_WG_MEMBERS_HI_HARTS (v >>> 32) g
  let h := groupTimer (if v = 0 then fset h .east EVT_WG_STATE_WAITING 0 g else h) g
  if clash then config h (pg .evt w) ⟨4, src, true, pageAddr (pg .evt w) + 0x05C⟩ else h

/-- WG_MEMBERS_WRITE: both halves of the pair, HI first (R7). -/
def wgMembers (h : Head) (ini : Initiator) (w : Wing) (lo hi : Word) : Head :=
  withWrite h ini (pg .evt w) 0x05C (fun h =>
    membersEffect { h with hiHold := tabDel h.hiHold (regKey (pg .evt w) 0x060 0) } (sourceCode ini) w lo hi)

end Sys2Proof.Machine
end

