-- ==== Sys2Proof/Machine/AnnexCommands.lean ====
section
/-! DEFINITION. The meanings of the commands whose effects stand in Machine/Annex.lean. -/

namespace Sys2Proof.Machine

/-- The meaning of CAT_UPDATE (R165). -/
def execCatUpdate (port : Wing) (mtag : Nat) (coll : Nat) (es : List CatEntry) (s : State) : Host.Outcome State Fault Refusal :=
  lift (fun h => catUpdateMsg h port mtag coll es) s

/-- The meaning of CAT_ACK (R165). -/
def execCatAck (mtag : Nat) (status : Status) (s : State) : Host.Outcome State Fault Refusal :=
  lift (fun h => catAckMsg h mtag status) s

/-- The meaning of FORWARD (R164). -/
def execAnxForward (port : Wing) (mtag : Nat) (coll : Nat) (cap : Capsule) (data : List Nat) (s : State) : Host.Outcome State Fault Refusal :=
  lift (fun h => anxForward h port mtag coll cap data) s

/-- The meaning of FORWARD_RESP (R164). -/
def execForwardResp (mtag : Nat) (sct : Nat) (sc : Nat) (dnr : Bool) (wseqs : List Nat) (data : List Nat) (s : State) : Host.Outcome State Fault Refusal :=
  lift (fun h => forwardRespMsg h mtag ⟨sct, sc, dnr⟩ wseqs data) s

/-- The meaning of HEARTBEAT (R168). -/
def execHeartbeat (state : Nat) (prefer : Bool) (epoch : Nat) (s : State) : Host.Outcome State Fault Refusal :=
  lift (fun h => heartbeatMsg h state prefer epoch) s

/-- The meaning of HEARTBEAT_SEND (R168). -/
def execHeartbeatSend (s : State) : Host.Outcome State Fault Refusal := lift heartbeatSend s

/-- The meaning of HEARTBEAT_LOSS (R171). -/
def execHeartbeatLoss (s : State) : Host.Outcome State Fault Refusal := lift heartbeatLoss s

/-- The meaning of OWNERSHIP (R176). -/
def execOwnership (port : Wing) (mtag : Nat) (coll : Nat) (give : Bool) (nsids : List Nat) (s : State) : Host.Outcome State Fault Refusal :=
  lift (fun h => ownershipMsg h port mtag coll give nsids) s

/-- The meaning of OWNERSHIP_ACK (R176). -/
def execOwnershipAck (mtag : Nat) (status : Status) (s : State) : Host.Outcome State Fault Refusal :=
  lift (fun h => ownershipAckMsg h mtag status) s

/-- The meaning of ANX_FLIT (R154). -/
def execAnxFlit (wing : Wing) (good : Bool) (ftype : Nat) (vc : Nat) (lseq : Nat) (acktype : Nat) (ackseq : Nat) (credits : List Nat) (mtype : Option Nat) (s : State) : Host.Outcome State Fault Refusal :=
  lift (fun h => anxFlit h wing good ftype vc lseq acktype ackseq credits mtype) s

/-- The meaning of ANX_REPLAY_TIMER (R154). -/
def execAnxReplayTimer (wing : Wing) (s : State) : Host.Outcome State Fault Refusal :=
  lift (fun h => anxReplayTimer h wing) s

/-- The meaning of ANX_RETRAIN_TIMEOUT (R155). -/
def execAnxRetrainTimeout (wing : Wing) (s : State) : Host.Outcome State Fault Refusal :=
  lift (fun h => anxRetrainTimeout h wing) s

/-- The meaning of ANX_TRAINED (R150). -/
def execAnxTrained (wing : Wing) (delay : Nat) (lanes : Nat) (expected : Nat) (s : State) : Host.Outcome State Fault Refusal :=
  lift (fun h => anxTrained h wing delay lanes expected) s

/-- The meaning of ANX_TRAIN_TIMEOUT (R150). -/
def execAnxTrainTimeout (wing : Wing) (s : State) : Host.Outcome State Fault Refusal :=
  lift (fun h => anxTrainTimeout h wing) s

/-- The meaning of ANX_RETRAIN_CMD (R180). -/
def execAnxRetrainCmd (ini : Initiator) (wing : Wing) (s : State) : Host.Outcome State Fault Refusal :=
  lift (fun h => anxCtrlCmd h ini wing anxRetrainEffect) s

/-- The meaning of ANX_CLR_STATS (R180). -/
def execAnxClrStats (ini : Initiator) (wing : Wing) (s : State) : Host.Outcome State Fault Refusal :=
  lift (fun h => anxCtrlCmd h ini wing anxClrEffect) s

/-- The meaning of LEASE_RENEW (R169). -/
def execLeaseRenew (s : State) : Host.Outcome State Fault Refusal := lift leaseRenew s

/-- The meaning of LEASE_LAPSE (R170). -/
def execLeaseLapse (s : State) : Host.Outcome State Fault Refusal := lift leaseLapse s

/-- The meaning of WITNESS_POLL (R171). -/
def execWitnessPoll (s : State) : Host.Outcome State Fault Refusal := lift witnessPoll s

/-- The meaning of ISOLATE_TIMEOUT (R172). -/
def execIsolateTimeout (s : State) : Host.Outcome State Fault Refusal := lift isolateTimeout s

/-- The meaning of JOIN (R175). -/
def execPairJoin (ini : Initiator) (wing : Wing) (s : State) : Host.Outcome State Fault Refusal :=
  lift (fun h => pairCmd h ini wing joinEffect) s

/-- The meaning of RESILVER_DONE (R175). -/
def execResilverDone (s : State) : Host.Outcome State Fault Refusal := lift resilverDone s

/-- The meaning of GIVEBACK (R176). -/
def execGiveback (ini : Initiator) (wing : Wing) (s : State) : Host.Outcome State Fault Refusal :=
  lift (fun h => pairCmd h ini wing givebackEffect) s

/-- The meaning of GIVEBACK_BATCH (R176). -/
def execGivebackBatch (s : State) : Host.Outcome State Fault Refusal := lift givebackBatch s

/-- The meaning of LEAVE (R518). -/
def execPairLeave (ini : Initiator) (wing : Wing) (s : State) : Host.Outcome State Fault Refusal :=
  lift (fun h => pairCmd h ini wing leaveEffect) s

end Sys2Proof.Machine
end

