-- ==== Sys2Proof/Machine/ArchiveCommands.lean ====
section
/-! DEFINITION. The meanings of the commands whose effects stand in Machine/Archive.lean. -/

namespace Sys2Proof.Machine

/-- The meaning of ARC_READ (R436). -/
def execArcRead (s : State) : Host.Outcome State Fault Refusal := lift arcRead s

/-- The meaning of ARC_PROGRAM (R431). -/
def execArcProgram (s : State) : Host.Outcome State Fault Refusal := lift (fun h => arcOperate h 2) s

/-- The meaning of ARC_ERASE (R432). -/
def execArcErase (s : State) : Host.Outcome State Fault Refusal := lift (fun h => arcOperate h 3) s

/-- The meaning of ARC_CLOSE (R436). -/
def execArcClose (s : State) : Host.Outcome State Fault Refusal := lift (fun h => arcOperate h 4) s

/-- The meaning of SECTOR_STATE (R436). -/
def execSectorState (s : State) : Host.Outcome State Fault Refusal := lift arcSectorState s

/-- The meaning of ARC_OPERATION_END (R437). -/
def execArcOperationEnd (e : PulseEnd) (s : State) : Host.Outcome State Fault Refusal :=
  lift (fun h => arcOperationEnd h e) s

/-- The meaning of ARC_STOP (R434). -/
def execArcStop (verified : Nat) (s : State) : Host.Outcome State Fault Refusal := lift (fun h => arcStop h verified) s

/-- The meaning of BROWN_OUT_DETECT (R435). -/
def execBrownOutDetect (s : State) : Host.Outcome State Fault Refusal := lift brownOutDetect s

/-- The meaning of BOR_RELEASE (R435). -/
def execBorRelease (s : State) : Host.Outcome State Fault Refusal := lift borRelease s

/-- The meaning of XO_LOCK (R438). -/
def execXoLock (ini : Initiator) (s : State) : Host.Outcome State Fault Refusal := lift (fun h => xoLock h ini) s

/-- The meaning of RECORD (R443). -/
def execPrvRecord (ev : Nat) (wing : Wing) (s : State) : Host.Outcome State Fault Refusal :=
  lift (fun h => recordEvent h ev wing) s

/-- The meaning of REC_WRITE (R443). -/
def execRecWrite (ini : Initiator) (s : State) : Host.Outcome State Fault Refusal := lift (fun h => recWrite h ini) s

/-- The meaning of RECORD_HOLD_EXPIRY (R443). -/
def execRecordHoldExpiry (seq : Nat) (s : State) : Host.Outcome State Fault Refusal :=
  lift (fun h => recordHoldExpiry h seq) s

/-- The meaning of RECORD_PROGRAM (R442). -/
def execRecordProgram (ok : Bool) (s : State) : Host.Outcome State Fault Refusal := lift (fun h => recordProgram h ok) s

/-- The meaning of HOUR_TICK (R445). -/
def execHourTick (s : State) : Host.Outcome State Fault Refusal := lift hourTick s

/-- The meaning of PRV_CLEAR (R447). -/
def execPrvClear (ini : Initiator) (s : State) : Host.Outcome State Fault Refusal := lift (fun h => prvClear h ini) s

/-- The meaning of UPD_WRITE (R450). -/
def execUpdWrite (ini : Initiator) (slot : Nat) (s : State) : Host.Outcome State Fault Refusal :=
  lift (fun h => updWriteCmd h ini slot) s

/-- The meaning of UPD_ABORT (R451). -/
def execUpdAbort (ini : Initiator) (s : State) : Host.Outcome State Fault Refusal := lift (fun h => updAbort h ini) s

/-- The meaning of WRITE_OS (R451). -/
def execWriteOs (s : State) : Host.Outcome State Fault Refusal := lift (fun h => updRequest h true) s

/-- The meaning of WRITE_DOCENT (R451). -/
def execWriteDocent (s : State) : Host.Outcome State Fault Refusal := lift (fun h => updRequest h false) s

/-- The meaning of CONFIRM_OS (R451). -/
def execConfirmOs (s : State) : Host.Outcome State Fault Refusal := lift confirmOs s

/-- The meaning of UPD_REQ_ABORT (R451). -/
def execUpdReqAbort (s : State) : Host.Outcome State Fault Refusal := lift updReqAbort s

/-- The meaning of UPD_CONFIRM_DOC (R453). -/
def execUpdConfirmDoc (ini : Initiator) (up : Bool) (s : State) : Host.Outcome State Fault Refusal :=
  lift (fun h => updConfirmCmd h ini false up) s

/-- The meaning of UPD_CONFIRM_OS (R453). -/
def execUpdConfirmOs (ini : Initiator) (up : Bool) (s : State) : Host.Outcome State Fault Refusal :=
  lift (fun h => updConfirmCmd h ini true up) s

/-- The meaning of RECOVERY_WRITE (R455). -/
def execRecoveryWrite (off : Nat) (len : Nat) (data : Nat) (s : State) : Host.Outcome State Fault Refusal :=
  lift (fun h => recoveryWrite h off len data) s

/-- The meaning of RECOVERY_STATUS (R455). -/
def execRecoveryStatus (s : State) : Host.Outcome State Fault Refusal := lift recoveryStatus s

/-- The meaning of WDG_FEED (R456). -/
def execWdgFeed (ini : Initiator) (bits : Nat) (s : State) : Host.Outcome State Fault Refusal :=
  lift (fun h => wdgFeedCmd h ini bits) s

/-- The meaning of WDG_WARN (R456). -/
def execWdgWarn (n : Nat) (s : State) : Host.Outcome State Fault Refusal := lift (fun h => wdgWarn h n) s

/-- The meaning of WDG_EXPIRY (R457). -/
def execWdgExpiry (n : Nat) (s : State) : Host.Outcome State Fault Refusal := lift (fun h => wdgExpiry h n) s

end Sys2Proof.Machine
end

