-- ==== Sys2Proof/Machine/BridgeCommands.lean ====
section
/-! DEFINITION. The meanings of the commands whose effects stand in Machine/Bridge.lean. -/

namespace Sys2Proof.Machine

/-- The meaning of PLK_READ (R288). -/
def execPlkRead (plinth : Nat) (port : Nat) (cmd : PlkCmd) (s : State) : Host.Outcome State Fault Refusal :=
  liftAny (fun h => brRead h plinth (port % 2) cmd) s

/-- The meaning of PLK_PROGRAM (R285). -/
def execPlkProgram (plinth : Nat) (port : Nat) (cmd : PlkCmd) (s : State) : Host.Outcome State Fault Refusal :=
  liftAny (fun h => brProgram h plinth (port % 2) cmd) s

/-- The meaning of PLK_ERASE (R284). -/
def execPlkErase (plinth : Nat) (port : Nat) (cmd : PlkCmd) (s : State) : Host.Outcome State Fault Refusal :=
  liftAny (fun h => brErase h plinth (port % 2) cmd) s

/-- The meaning of CHECK_ERASED (R290). -/
def execCheckErased (plinth : Nat) (port : Nat) (cmd : PlkCmd) (s : State) : Host.Outcome State Fault Refusal :=
  liftAny (fun h => brCheck h plinth (port % 2) cmd) s

/-- The meaning of WITNESS_RENEW (R293). -/
def execWitnessRenew (plinth : Nat) (port : Nat) (cmd : PlkCmd) (s : State) : Host.Outcome State Fault Refusal :=
  liftAny (fun h => witnessRenew h plinth (port % 2) cmd) s

/-- The meaning of WITNESS_READ (R293). -/
def execWitnessRead (plinth : Nat) (port : Nat) (cmd : PlkCmd) (s : State) : Host.Outcome State Fault Refusal :=
  liftAny (fun h => witnessRead h plinth (port % 2) cmd) s

/-- The meaning of WITNESS_CLAIM (R294). -/
def execWitnessClaim (plinth : Nat) (port : Nat) (cmd : PlkCmd) (s : State) : Host.Outcome State Fault Refusal :=
  liftAny (fun h => witnessClaim h plinth (port % 2) cmd) s

/-- The meaning of REG_READ (R284). -/
def execRegRead (plinth : Nat) (port : Nat) (cmd : PlkCmd) (s : State) : Host.Outcome State Fault Refusal :=
  liftAny (fun h => brRegRead h plinth (port % 2) cmd) s

/-- The meaning of REG_WRITE (R297). -/
def execRegWrite (plinth : Nat) (port : Nat) (cmd : PlkCmd) (s : State) : Host.Outcome State Fault Refusal :=
  liftAny (fun h => brRegWrite h plinth (port % 2) cmd) s

/-- The meaning of BRIDGE_SLOT_BOUNDARY (R286). -/
def execBridgeSlotBoundary (plinth : Nat) (ends : List BrEnd) (s : State) : Host.Outcome State Fault Refusal :=
  liftAny (fun h => bridgeSlotBoundary h plinth ends) s

/-- The meaning of BRIDGE_TICK_MARKER (R280). -/
def execBridgeTickMarker (plinth : Nat) (port : Nat) (payload : Word) (flagged : Bool) (arrival : Nat) (s : State) : Host.Outcome State Fault Refusal :=
  liftAny (fun h => bridgeMarker h plinth (port % 2) payload flagged arrival) s

/-- The meaning of LEASE_EXPIRY (R293). -/
def execLeaseExpiry (plinth : Nat) (port : Nat) (s : State) : Host.Outcome State Fault Refusal :=
  liftAny (fun h => leaseExpiry h plinth (port % 2)) s

/-- The meaning of MASTER_MARKER_LOSS (R41). -/
def execMasterMarkerLoss (plinth : Nat) (s : State) : Host.Outcome State Fault Refusal :=
  liftAny (fun h => masterLoss h plinth) s

end Sys2Proof.Machine
end

