-- ==== Sys2Proof/Machine/CatalogueCommands.lean ====
section
/-! DEFINITION. The meanings of the commands whose effects stand in Machine/Catalogue.lean. -/

namespace Sys2Proof.Machine

/-- The meaning of CREATE (R184). -/
def execNsCreate (ini : Initiator) (wing : Wing) (s : State) : Host.Outcome State Fault Refusal :=
  lift (fun h => nsCommand h ini wing nsCreate) s

/-- The meaning of DELETE (R184). -/
def execNsDelete (ini : Initiator) (wing : Wing) (s : State) : Host.Outcome State Fault Refusal :=
  lift (fun h => nsCommand h ini wing nsDelete) s

/-- The meaning of RESIZE (R184). -/
def execNsResize (ini : Initiator) (wing : Wing) (s : State) : Host.Outcome State Fault Refusal :=
  lift (fun h => nsCommand h ini wing nsResize) s

/-- The meaning of FREEZE (R193). -/
def execNsFreeze (ini : Initiator) (wing : Wing) (s : State) : Host.Outcome State Fault Refusal :=
  lift (fun h => nsCommand h ini wing nsFreeze) s

/-- The meaning of EDITION_DELETE (R195). -/
def execEditionDelete (ini : Initiator) (wing : Wing) (s : State) : Host.Outcome State Fault Refusal :=
  lift (fun h => nsCommand h ini wing editionDelete) s

/-- The meaning of EXPOSE (R195). -/
def execNsExpose (ini : Initiator) (wing : Wing) (s : State) : Host.Outcome State Fault Refusal :=
  lift (fun h => nsCommand h ini wing nsExpose) s

/-- The meaning of UNEXPOSE (R195). -/
def execNsUnexpose (ini : Initiator) (wing : Wing) (s : State) : Host.Outcome State Fault Refusal :=
  lift (fun h => nsCommand h ini wing nsUnexpose) s

/-- The meaning of CKPT_NOW (R190). -/
def execCkptNow (ini : Initiator) (wing : Wing) (s : State) : Host.Outcome State Fault Refusal :=
  lift (fun h => ckptNow h ini wing) s

/-- The meaning of CKPT_INTERVAL (R190). -/
def execCkptInterval (s : State) : Host.Outcome State Fault Refusal := lift ckptInterval s

/-- The meaning of PAGE_IN (R188). -/
def execPageIn (nsid : Nat) (leaf : Nat) (sealOk : Bool) (rebuiltOk : Bool) (s : State) : Host.Outcome State Fault Refusal :=
  lift (fun h => pageIn h nsid leaf sealOk rebuiltOk) s

/-- The meaning of WAY_EN_WRITE (R197). -/
def execWayEnWrite (ini : Initiator) (wing : Wing) (value : Word) (s : State) : Host.Outcome State Fault Refusal :=
  lift (fun h => wayEnWrite h ini wing value) s

/-- The meaning of WAY_CLEAN_DONE (R197). -/
def execWayCleanDone (wing : Wing) (way : Nat) (micros : Nat) (s : State) : Host.Outcome State Fault Refusal :=
  lift (fun h => wayCleanDone h wing way micros) s

/-- The meaning of WAY_ECC_FENCE (R198). -/
def execWayEccFence (wing : Wing) (way : Nat) (errors : Nat) (s : State) : Host.Outcome State Fault Refusal :=
  lift (fun h => wayEccFence h wing way errors) s

/-- The meaning of LINE_ECC (R198). -/
def execLineEcc (wing : Wing) (set : Nat) (way : Nat) (s : State) : Host.Outcome State Fault Refusal :=
  lift (fun h => lineEcc h wing set way) s

end Sys2Proof.Machine
end

