-- ==== Sys2Proof/Machine/CoresCommands.lean ====
section
/-! DEFINITION. The meanings of the commands whose effects stand in Machine/Cores.lean. -/

namespace Sys2Proof.Machine

/-- The meaning of HNY_POST (R368). -/
def execHnyPost (hart : Nat) (mode : HartMode) (rs1 : Nat) (addr : Option Nat) (s : State) : Host.Outcome State Fault Refusal :=
  lift (fun h => hnyPost h hart mode rs1 addr) s

/-- The meaning of HNY_WAIT (R372). -/
def execHnyWait (hart : Nat) (mode : HartMode) (timeout : Nat) (s : State) : Host.Outcome State Fault Refusal :=
  lift (fun h => hnyWait h hart mode timeout) s

/-- The meaning of WAIT_WAKE (R372). -/
def execWaitWake (hart : Nat) (irq : Bool) (forced : Bool) (timeout : Bool) (s : State) : Host.Outcome State Fault Refusal :=
  lift (fun h => waitWake h hart irq forced timeout) s

/-- The meaning of CORE_ENABLE (R366). -/
def execCoreEnable (ini : Initiator) (wing : Wing) (s : State) : Host.Outcome State Fault Refusal :=
  lift (fun h => coreCommand h ini wing 1) s

/-- The meaning of CORE_FENCE (R366). -/
def execCoreFence (ini : Initiator) (wing : Wing) (s : State) : Host.Outcome State Fault Refusal :=
  lift (fun h => coreCommand h ini wing 2) s

/-- The meaning of CORE_READY (R366). -/
def execCoreReady (wing : Wing) (core : Nat) (s : State) : Host.Outcome State Fault Refusal :=
  lift (fun h => coreReady h wing core) s

/-- The meaning of CORE_FAILED (R366). -/
def execCoreFailed (wing : Wing) (core : Nat) (cause : Nat) (s : State) : Host.Outcome State Fault Refusal :=
  lift (fun h => coreFailed h wing core cause) s

/-- The meaning of CORE_ACCESS_FAULT (R375). -/
def execCoreAccessFault (hart : Nat) (addr : Nat) (load : Bool) (s : State) : Host.Outcome State Fault Refusal :=
  lift (fun h => coreAccess h hart addr load) s

/-- The meaning of CQ_HEAD_WRITE (R371). -/
def execCqHeadWrite (ini : Initiator) (wing : Wing) (head : Nat) (s : State) : Host.Outcome State Fault Refusal :=
  lift (fun h => cqHeadWrite h ini wing head) s

/-- The meaning of COPY (R386). -/
def execDmaCopy (wing : Wing) (src : Source) (s : State) : Host.Outcome State Fault Refusal :=
  lift (fun h => dmaCopy h wing src) s

/-- The meaning of FILL (R386). -/
def execDmaFill (wing : Wing) (src : Source) (s : State) : Host.Outcome State Fault Refusal :=
  lift (fun h => dmaFill h wing src) s

/-- The meaning of DMA_DISABLE (R390). -/
def execDmaDisable (ini : Initiator) (wing : Wing) (s : State) : Host.Outcome State Fault Refusal :=
  lift (fun h => dmaCommand h ini wing 1) s

/-- The meaning of DMA_ENABLE (R390). -/
def execDmaEnable (ini : Initiator) (wing : Wing) (s : State) : Host.Outcome State Fault Refusal :=
  lift (fun h => dmaCommand h ini wing 2) s

/-- The meaning of DMA_HALT (R390). -/
def execDmaHalt (ini : Initiator) (wing : Wing) (on : Bool) (s : State) : Host.Outcome State Fault Refusal :=
  lift (fun h => dmaHalt h ini wing on) s

/-- The meaning of MIGRATE_START (R379). -/
def execMigrateStart (ini : Initiator) (wing : Wing) (segment : Nat) (s : State) : Host.Outcome State Fault Refusal :=
  lift (fun h => migrateStart h ini wing segment) s

/-- The meaning of MIGRATE_DONE (R379). -/
def execMigrateDone (wing : Wing) (s : State) : Host.Outcome State Fault Refusal := lift (fun h => migrateDone h wing) s

/-- The meaning of CHANNEL_FENCE (R380). -/
def execChannelFence (ini : Initiator) (wing : Wing) (chan : Nat) (s : State) : Host.Outcome State Fault Refusal :=
  lift (fun h => chanCommand h ini wing 1 chan) s

/-- The meaning of CHANNEL_UNFENCE (R380). -/
def execChannelUnfence (ini : Initiator) (wing : Wing) (chan : Nat) (s : State) : Host.Outcome State Fault Refusal :=
  lift (fun h => chanCommand h ini wing 2 chan) s

/-- The meaning of DDR_UE (R377). -/
def execDdrUe (addr : Nat) (s : State) : Host.Outcome State Fault Refusal := lift (fun h => ddrUe h addr) s

/-- The meaning of DDR_CE (R381). -/
def execDdrCe (addr : Nat) (s : State) : Host.Outcome State Fault Refusal := lift (fun h => ddrCe h addr) s

/-- The meaning of MEM_SCRUB_PASS (R382). -/
def execMemScrubPass (wing : Wing) (s : State) : Host.Outcome State Fault Refusal :=
  lift (fun h => memScrubPass h wing) s

/-- The meaning of PCH_FENCE (R384). -/
def execPchFence (ini : Initiator) (wing : Wing) (s : State) : Host.Outcome State Fault Refusal :=
  lift (fun h => pchFence h ini wing) s

/-- The meaning of HBM_CE_FENCE (R384). -/
def execHbmCeFence (wing : Wing) (pch : Nat) (errors : Nat) (s : State) : Host.Outcome State Fault Refusal :=
  lift (fun h => hbmCe h wing pch errors) s

/-- The meaning of PCH_MOVE_DONE (R384). -/
def execPchMoveDone (wing : Wing) (pch : Nat) (s : State) : Host.Outcome State Fault Refusal :=
  lift (fun h => pchMoveDone h wing pch) s

/-- The meaning of HBM_UE (R383). -/
def execHbmUe (wing : Wing) (addr : Nat) (what : HbmUe) (s : State) : Host.Outcome State Fault Refusal :=
  lift (fun h => hbmUe h wing addr what) s

end Sys2Proof.Machine
end

