-- ==== Sys2Proof/Machine/CuratorCommands.lean ====
section
/-! DEFINITION. The meanings of the commands whose effects stand in Machine/Curator.lean. -/

namespace Sys2Proof.Machine

/-- The meaning of RESYNC_DONE (R265). -/
def execResyncDone (s : State) : Host.Outcome State Fault Refusal := lift resyncDone s

/-- The meaning of VERIFY_DONE (R265). -/
def execVerifyDone (s : State) : Host.Outcome State Fault Refusal := lift verifyDone s

/-- The meaning of REBUILD_START (R269). -/
def execRebuildStart (ini : Initiator) (wing : Wing) (plinth : Nat) (s : State) : Host.Outcome State Fault Refusal :=
  lift (fun h => rebuildStart h ini wing plinth) s

/-- The meaning of PLINTH_REBUILD_DONE (R269). -/
def execPlinthRebuildDone (s : State) : Host.Outcome State Fault Refusal := lift rebuildDone s

/-- The meaning of RESHAPE_START (R271). -/
def execReshapeStart (ini : Initiator) (wing : Wing) (target : Nat) (s : State) : Host.Outcome State Fault Refusal :=
  lift (fun h => reshapeStart h ini wing target) s

/-- The meaning of RESHAPE_ABORT (R272). -/
def execReshapeAbort (ini : Initiator) (wing : Wing) (s : State) : Host.Outcome State Fault Refusal :=
  lift (fun h => reshapeAbort h ini wing) s

/-- The meaning of RESHAPE_DONE (R271). -/
def execReshapeDone (s : State) : Host.Outcome State Fault Refusal := lift reshapeDone s

/-- The meaning of HALL_SCORE (R320). -/
def execHallScore (s : State) : Host.Outcome State Fault Refusal := lift hallScoring s

/-- The meaning of EVACUATE (R324). -/
def execCurEvacuate (ini : Initiator) (wing : Wing) (plinth : Nat) (s : State) : Host.Outcome State Fault Refusal :=
  lift (fun h => curPlinthCmd h ini wing 1 plinth) s

/-- The meaning of REMOVE (R324). -/
def execCurRemove (ini : Initiator) (wing : Wing) (plinth : Nat) (s : State) : Host.Outcome State Fault Refusal :=
  lift (fun h => curPlinthCmd h ini wing 2 plinth) s

/-- The meaning of CANCEL (R324). -/
def execCurCancel (ini : Initiator) (wing : Wing) (plinth : Nat) (s : State) : Host.Outcome State Fault Refusal :=
  lift (fun h => curPlinthCmd h ini wing 3 plinth) s

/-- The meaning of VAULT_PREPARE (R330). -/
def execVaultPrepare (s : State) : Host.Outcome State Fault Refusal := lift vaultPrepare s

end Sys2Proof.Machine
end

