-- ==== Sys2Proof/Machine/DispatcherCommands.lean ====
section
/-! DEFINITION. The meanings of the commands whose effects stand in Machine/Dispatcher.lean. -/

namespace Sys2Proof.Machine

/-- The meaning of HOST_READ_DISPATCH (R316). -/
def execHostReadDispatch (loc : Nat) (coll : Nat) (sheets : Nat) (ns : Nat) (s : State) : Host.Outcome State Fault Refusal :=
  lift (fun h => hostReadDispatch h loc coll sheets ns) s

end Sys2Proof.Machine
end

