-- ==== Sys2Proof/Machine/DocentCommands.lean ====
section
/-! DEFINITION. The meanings of the commands whose effects stand in Machine/Docent.lean. -/

namespace Sys2Proof.Machine

/-- The meaning of RELEASE_E (R399). -/
def execReleaseE (ini : Initiator) (s : State) : Host.Outcome State Fault Refusal :=
  lift (fun h => releaseCmd h ini .east) s

/-- The meaning of RELEASE_W (R399). -/
def execReleaseW (ini : Initiator) (s : State) : Host.Outcome State Fault Refusal :=
  lift (fun h => releaseCmd h ini .west) s

/-- The meaning of MSR_EXTEND (R400). -/
def execMsrExtend (ini : Initiator) (s : State) : Host.Outcome State Fault Refusal :=
  lift (fun h => msrExtendCmd h ini) s

/-- The meaning of MSR_ARM (R402). -/
def execMsrArm (ini : Initiator) (mask : Nat) (s : State) : Host.Outcome State Fault Refusal :=
  lift (fun h => msrArm h ini mask) s

/-- The meaning of GET_VERSION (R408). -/
def execGetVersion (s : State) : Host.Outcome State Fault Refusal := lift spdmVersion s

/-- The meaning of GET_CAPABILITIES (R408). -/
def execGetCapabilities (s : State) : Host.Outcome State Fault Refusal := lift spdmCapabilities s

/-- The meaning of NEGOTIATE_ALGORITHMS (R408). -/
def execNegotiateAlgorithms (s : State) : Host.Outcome State Fault Refusal := lift spdmAlgorithms s

/-- The meaning of GET_DIGESTS (R408). -/
def execGetDigests (s : State) : Host.Outcome State Fault Refusal := lift spdmDigests s

/-- The meaning of GET_CERTIFICATE (R408). -/
def execGetCertificate (off : Nat) (len : Nat) (s : State) : Host.Outcome State Fault Refusal :=
  lift (fun h => spdmCertificate h off len) s

/-- The meaning of CHALLENGE (R408). -/
def execSpdmChallenge (nonce : Nat) (s : State) : Host.Outcome State Fault Refusal :=
  lift (fun h => spdmChallenge h nonce) s

/-- The meaning of GET_MEASUREMENTS (R408). -/
def execGetMeasurements (index : Nat) (nonce : Nat) (s : State) : Host.Outcome State Fault Refusal :=
  lift (fun h => spdmMeasurements h index nonce) s

/-- The meaning of LOAD (R411). -/
def execKeyLoad (ini : Initiator) (s : State) : Host.Outcome State Fault Refusal := lift (fun h => keyCmd h ini 1) s

/-- The meaning of GENERATE (R411). -/
def execKeyGenerate (ini : Initiator) (s : State) : Host.Outcome State Fault Refusal := lift (fun h => keyCmd h ini 2) s

/-- The meaning of UNWRAP (R411). -/
def execKeyUnwrapCmd (ini : Initiator) (s : State) : Host.Outcome State Fault Refusal :=
  lift (fun h => keyCmd h ini 3) s

/-- The meaning of ACTIVATE (R411). -/
def execKeyActivate (ini : Initiator) (s : State) : Host.Outcome State Fault Refusal := lift (fun h => keyCmd h ini 4) s

/-- The meaning of REVOKE (R412). -/
def execKeyRevoke (ini : Initiator) (s : State) : Host.Outcome State Fault Refusal := lift (fun h => keyCmd h ini 5) s

/-- The meaning of ZEROISE (R412). -/
def execKeyZeroise (ini : Initiator) (s : State) : Host.Outcome State Fault Refusal := lift (fun h => keyCmd h ini 6) s

/-- The meaning of EXPORT (R411). -/
def execKeyExport (ini : Initiator) (s : State) : Host.Outcome State Fault Refusal := lift (fun h => keyCmd h ini 7) s

/-- The meaning of BIND_COMMIT (R414). -/
def execBindCommit (ini : Initiator) (s : State) : Host.Outcome State Fault Refusal := lift (fun h => bindCmd h ini 1) s

/-- The meaning of UNBIND (R414). -/
def execKeyUnbind (ini : Initiator) (s : State) : Host.Outcome State Fault Refusal := lift (fun h => bindCmd h ini 2) s

/-- The meaning of IMPORT_KEY (R415). -/
def execImportKey (req : SignedReq) (slot : Nat) (kind : Nat) (usage : Nat) (system : Bool) (coll : Nat) (blob : Nat) (s : State) : Host.Outcome State Fault Refusal :=
  lift (fun h => importKey h req slot kind usage system coll blob) s

/-- The meaning of BIND (R415). -/
def execReqBind (req : SignedReq) (index : Nat) (entry : Word × Word) (uids : List Nat) (s : State) : Host.Outcome State Fault Refusal :=
  lift (fun h => reqBind h req index entry uids) s

/-- The meaning of REQ_UNBIND (R415). -/
def execReqUnbind (req : SignedReq) (index : Nat) (s : State) : Host.Outcome State Fault Refusal :=
  lift (fun h => reqUnbind h req index) s

/-- The meaning of REQ_ZEROISE (R415). -/
def execReqZeroise (req : SignedReq) (slot : Nat) (s : State) : Host.Outcome State Fault Refusal :=
  lift (fun h => reqZeroise h req slot) s

/-- The meaning of ARM_MEASURE (R415). -/
def execArmMeasure (entry : Nat) (mask : Nat) (s : State) : Host.Outcome State Fault Refusal :=
  lift (fun h => reqArm h entry mask) s

/-- The meaning of QUOTE (R415). -/
def execReqQuote (entry : Nat) (nonce : Nat) (s : State) : Host.Outcome State Fault Refusal :=
  lift (fun h => reqQuote h entry nonce) s

/-- The meaning of PEER_AGREE (R418). -/
def execPeerAgree (entry : Nat) (step : AgreeStep) (s : State) : Host.Outcome State Fault Refusal :=
  lift (fun h => peerAgree h entry step) s

/-- The meaning of CLEAR_RECORDER (R415). -/
def execClearRecorder (req : SignedReq) (s : State) : Host.Outcome State Fault Refusal :=
  lift (fun h => reqClear h req) s

/-- The meaning of LIFECYCLE (R420). -/
def execReqLifecycle (req : SignedReq) (target : Nat) (custodian : Nat) (s : State) : Host.Outcome State Fault Refusal :=
  lift (fun h => reqLifecycle h req target custodian) s

/-- The meaning of CUSTODIAN (R415). -/
def execReqCustodian (req : SignedReq) (digest : Nat) (s : State) : Host.Outcome State Fault Refusal :=
  lift (fun h => reqCustodian h req digest) s

/-- The meaning of FEDERATION (R415). -/
def execReqFederation (req : SignedReq) (uids : List Nat) (s : State) : Host.Outcome State Fault Refusal :=
  lift (fun h => reqFederation h req uids) s

/-- The meaning of CONFIGURE (R415). -/
def execReqConfigure (entry : Nat) (mirrors : Nat) (rings : List Nat) (s : State) : Host.Outcome State Fault Refusal :=
  lift (fun h => reqConfigure h entry mirrors rings) s

/-- The meaning of ALARM (R419). -/
def execAlmAlarm (n : Nat) (s : State) : Host.Outcome State Fault Refusal := lift (fun h => alarm h n) s

/-- The meaning of ALM_FORCE (R426). -/
def execAlmForce (ini : Initiator) (s : State) : Host.Outcome State Fault Refusal := lift (fun h => almForce h ini) s

/-- The meaning of DEBUG_CHALLENGE (R421). -/
def execDebugChallenge (s : State) : Host.Outcome State Fault Refusal := lift debugChallenge s

/-- The meaning of DEBUG_TOKEN (R421). -/
def execDebugToken (uid : Nat) (nonce : Nat) (sigOk : Bool) (digest : Nat) (s : State) : Host.Outcome State Fault Refusal :=
  lift (fun h => debugToken h uid nonce sigOk digest) s

/-- The meaning of KEY_ERASE (R222). -/
def execKeyErase (s : State) : Host.Outcome State Fault Refusal := lift eraseKeys s

end Sys2Proof.Machine
end

