-- ==== Sys2Proof/Machine/EnginesCommands.lean ====
section
/-! DEFINITION. The meanings of the commands whose effects stand in Machine/Engines.lean. -/

namespace Sys2Proof.Machine

/-- The meaning of UNIT_FAILED (R217). -/
def execUnitFailed (cls : Block) (wing : Wing) (unit : Nat) (cause : Nat) (s : State) : Host.Outcome State Fault Refusal :=
  lift (fun h => unitFailed h cls wing unit cause) s

/-- The meaning of UNIT_FENCE (R219). -/
def execUnitFence (ini : Initiator) (cls : Block) (wing : Wing) (s : State) : Host.Outcome State Fault Refusal :=
  lift (fun h => unitCommand h ini cls wing 1) s

/-- The meaning of UNIT_UNFENCE (R219). -/
def execUnitUnfence (ini : Initiator) (cls : Block) (wing : Wing) (s : State) : Host.Outcome State Fault Refusal :=
  lift (fun h => unitCommand h ini cls wing 2) s

/-- The meaning of UNIT_DRAINED (R219). -/
def execUnitDrained (cls : Block) (wing : Wing) (unit : Nat) (s : State) : Host.Outcome State Fault Refusal :=
  lift (fun h => unitDrained h cls wing unit) s

/-- The meaning of HASH (R223). -/
def execDgeHash (wing : Wing) (src : Source) (s : State) : Host.Outcome State Fault Refusal :=
  lift (fun h => dgeHash h wing src) s

/-- The meaning of HMAC (R223). -/
def execDgeHmac (wing : Wing) (src : Source) (s : State) : Host.Outcome State Fault Refusal :=
  lift (fun h => dgeHmac h wing src) s

/-- The meaning of COMPARE (R228). -/
def execDgeCompare (wing : Wing) (src : Source) (faulty : Option Bool) (s : State) : Host.Outcome State Fault Refusal :=
  lift (fun h => dgeCompare h wing src faulty) s

/-- The meaning of HMAC_VERIFY (R228). -/
def execHmacVerify (wing : Wing) (src : Source) (faulty : Option Bool) (s : State) : Host.Outcome State Fault Refusal :=
  lift (fun h => dgeHmacVerify h wing src faulty) s

/-- The meaning of STATE_SAVE (R226). -/
def execStateSave (wing : Wing) (src : Source) (s : State) : Host.Outcome State Fault Refusal :=
  lift (fun h => dgeStateSave h wing src) s

/-- The meaning of STATE_RESTORE (R226). -/
def execStateRestore (wing : Wing) (src : Source) (s : State) : Host.Outcome State Fault Refusal :=
  lift (fun h => dgeStateRestore h wing src) s

/-- The meaning of HKDF_TO_SLOT (R223). -/
def execHkdfToSlot (wing : Wing) (src : Source) (s : State) : Host.Outcome State Fault Refusal :=
  lift (fun h => dgeHkdf h wing src) s

/-- The meaning of APPEND (R232). -/
def execCdcAppend (wing : Wing) (src : Source) (s : State) : Host.Outcome State Fault Refusal :=
  lift (fun h => cdcAppend h wing src) s

/-- The meaning of FLUSH (R232). -/
def execCdcFlush (wing : Wing) (src : Source) (s : State) : Host.Outcome State Fault Refusal :=
  lift (fun h => cdcFlush h wing src) s

/-- The meaning of EXPAND (R235). -/
def execCdcExpand (wing : Wing) (src : Source) (s : State) : Host.Outcome State Fault Refusal :=
  lift (fun h => cdcExpand h wing src) s

/-- The meaning of BUF_COMPRESS (R236). -/
def execBufCompress (wing : Wing) (src : Source) (s : State) : Host.Outcome State Fault Refusal :=
  lift (fun h => cdcBufCompress h wing src) s

/-- The meaning of BUF_EXPAND (R236). -/
def execBufExpand (wing : Wing) (src : Source) (s : State) : Host.Outcome State Fault Refusal :=
  lift (fun h => cdcBufExpand h wing src) s

/-- The meaning of STREAM_FLUSH_TIMEOUT (R232). -/
def execStreamFlushTimeout (wing : Wing) (stream : Nat) (s : State) : Host.Outcome State Fault Refusal :=
  lift (fun h => streamFlushTimeout h wing stream) s

/-- The meaning of XTS_ENC (R238). -/
def execXtsEnc (wing : Wing) (src : Source) (s : State) : Host.Outcome State Fault Refusal :=
  lift (fun h => cphXts h wing src true) s

/-- The meaning of XTS_DEC (R238). -/
def execXtsDec (wing : Wing) (src : Source) (s : State) : Host.Outcome State Fault Refusal :=
  lift (fun h => cphXts h wing src false) s

/-- The meaning of XTS_RECRYPT (R238). -/
def execXtsRecrypt (wing : Wing) (src : Source) (s : State) : Host.Outcome State Fault Refusal :=
  lift (fun h => cphRecrypt h wing src) s

/-- The meaning of GCM_ENC (R240). -/
def execGcmEnc (wing : Wing) (src : Source) (s : State) : Host.Outcome State Fault Refusal :=
  lift (fun h => cphGcmEnc h wing src) s

/-- The meaning of GCM_DEC (R240). -/
def execGcmDec (wing : Wing) (src : Source) (s : State) : Host.Outcome State Fault Refusal :=
  lift (fun h => cphGcmDec h wing src) s

/-- The meaning of CMAC (R241). -/
def execCphCmac (wing : Wing) (src : Source) (s : State) : Host.Outcome State Fault Refusal :=
  lift (fun h => cphCmac h wing src) s

/-- The meaning of CMAC_VERIFY (R241). -/
def execCmacVerify (wing : Wing) (src : Source) (faulty : Option Bool) (s : State) : Host.Outcome State Fault Refusal :=
  lift (fun h => cphCmacVerify h wing src faulty) s

/-- The meaning of CTX_SAVE (R242). -/
def execCtxSave (wing : Wing) (src : Source) (s : State) : Host.Outcome State Fault Refusal :=
  lift (fun h => cphCtxSave h wing src) s

/-- The meaning of CTX_RESTORE (R242). -/
def execCtxRestore (wing : Wing) (src : Source) (s : State) : Host.Outcome State Fault Refusal :=
  lift (fun h => cphCtxRestore h wing src) s

/-- The meaning of KEY_WRAP (R237). -/
def execKeyWrap (wing : Wing) (src : Source) (s : State) : Host.Outcome State Fault Refusal :=
  lift (fun h => cphKeyWrap h wing src true) s

/-- The meaning of KEY_UNWRAP (R237). -/
def execKeyUnwrap (wing : Wing) (src : Source) (s : State) : Host.Outcome State Fault Refusal :=
  lift (fun h => cphKeyWrap h wing src false) s

/-- The meaning of ENGINE_COMPLETION (R66). -/
def execEngineCompletion (cls : Block) (wing : Wing) (tag : Nat) (nth : Nat) (s : State) : Host.Outcome State Fault Refusal :=
  lift (fun h => engineCompletion h cls wing tag nth) s

end Sys2Proof.Machine
end

