-- ==== Sys2Proof/Machine/FoyerCommands.lean ====
section
/-! DEFINITION. The meanings of the commands whose effects stand in Machine/Foyer.lean. -/

namespace Sys2Proof.Machine

/-- The meaning of FOY_LINK_CHANGE (R83). -/
def execFoyLinkChange (wing : Wing) (port : Nat) (link : Nat) (up : Bool) (s : State) : Host.Outcome State Fault Refusal :=
  lift (fun h => foyLinkChange h wing port link up) s

/-- The meaning of FEC_DEGRADED (R83). -/
def execFecDegraded (wing : Wing) (port : Nat) (link : Nat) (s : State) : Host.Outcome State Fault Refusal :=
  lift (fun h => fecDegraded h wing port link) s

/-- The meaning of PAUSE_FRAME (R84). -/
def execPauseFrame (wing : Wing) (port : Nat) (prio : Nat) (on : Bool) (s : State) : Host.Outcome State Fault Refusal :=
  lift (fun h => pauseFrame h wing port prio on) s

/-- The meaning of PFC_STORM (R84). -/
def execPfcStorm (wing : Wing) (port : Nat) (prio : Nat) (s : State) : Host.Outcome State Fault Refusal :=
  lift (fun h => pfcStorm h wing port prio) s

/-- The meaning of PFC_STORM_END (R84). -/
def execPfcStormEnd (wing : Wing) (port : Nat) (prio : Nat) (s : State) : Host.Outcome State Fault Refusal :=
  lift (fun h => pfcStormEnd h wing port prio) s

/-- The meaning of CE_MARKED_PACKET (R85). -/
def execCeMarkedPacket (wing : Wing) (port : Nat) (ctx : Nat) (s : State) : Host.Outcome State Fault Refusal :=
  lift (fun h => ceMarkedPacket h wing port ctx) s

/-- The meaning of CNP_RECEIVED (R85). -/
def execCnpReceived (wing : Wing) (port : Nat) (ctx : Nat) (s : State) : Host.Outcome State Fault Refusal :=
  lift (fun h => cnpReceived h wing port ctx) s

/-- The meaning of RATE_RECOVER (R85). -/
def execRateRecover (wing : Wing) (port : Nat) (ctx : Nat) (s : State) : Host.Outcome State Fault Refusal :=
  lift (fun h => rateRecover h wing port ctx) s

/-- The meaning of PTP_EVENT_MESSAGE (R85). -/
def execPtpEventMessage (wing : Wing) (port : Nat) (time : Nat) (s : State) : Host.Outcome State Fault Refusal :=
  lift (fun h => ptpEventMessage h wing port time) s

/-- The meaning of CONNECTION_REQUEST (R86). -/
def execConnectionRequest (wing : Wing) (port : Nat) (type : Nat) (pmtu : Nat) (s : State) : Host.Outcome State Fault Refusal :=
  lift (fun h => connectionRequest h wing port type pmtu) s

/-- The meaning of AUTH_COMPLETE (R87). -/
def execAuthComplete (wing : Wing) (ctx : Nat) (good : Bool) (kind : AuthKind) (s : State) : Host.Outcome State Fault Refusal :=
  lift (fun h => authComplete h wing ctx good kind) s

/-- The meaning of CTX_BIND_WRITE (R88). -/
def execCtxBindWrite (ini : Initiator) (wing : Wing) (value : Word) (s : State) : Host.Outcome State Fault Refusal :=
  lift (fun h => ctxBindWrite h ini wing value) s

/-- The meaning of COLL_ENTRY_WRITE (R115). -/
def execCollEntryWrite (ini : Initiator) (wing : Wing) (burst : Bool) (value : Word) (s : State) : Host.Outcome State Fault Refusal :=
  lift (fun h => collEntryWrite h ini wing burst value) s

/-- The meaning of COMMAND_CAPSULE (R93). -/
def execCommandCapsule (cap : Capsule) (s : State) : Host.Outcome State Fault Refusal :=
  lift (fun h => commandCapsule h cap) s

/-- The meaning of KEEP_ALIVE (R91). -/
def execKeepAlive (cap : Capsule) (s : State) : Host.Outcome State Fault Refusal := lift (fun h => keepAlive h cap) s

/-- The meaning of COMMAND_ADMIT (R95). -/
def execCommandAdmit (wing : Wing) (ctx : Nat) (queue : Nat) (cid : Nat) (data : List Nat) (pi : List PiTuple) (s : State) : Host.Outcome State Fault Refusal :=
  lift (fun h => commandAdmit h wing ctx queue cid data pi) s

/-- The meaning of BOUND_LONG (R101). -/
def execBoundLong (wing : Wing) (s : State) : Host.Outcome State Fault Refusal := lift (fun h => boundLong h wing) s

/-- The meaning of RESUME (R102). -/
def execFoqResume (ini : Initiator) (wing : Wing) (again : Bool) (s : State) : Host.Outcome State Fault Refusal :=
  lift (fun h => foqResume h ini wing again) s

/-- The meaning of FUSED_RECORD_ACK (R106). -/
def execFusedRecordAck (host : Nat) (nsid : Nat) (slba : Nat) (cid : Nat) (s : State) : Host.Outcome State Fault Refusal :=
  lift (fun h => dropFused h host nsid slba cid) s

/-- The meaning of FUSED_HOLD_EXPIRY (R106). -/
def execFusedHoldExpiry (host : Nat) (nsid : Nat) (slba : Nat) (cid : Nat) (s : State) : Host.Outcome State Fault Refusal :=
  lift (fun h => dropFused h host nsid slba cid) s

/-- The meaning of HOST_COMPLETION (R108). -/
def execHostCompletion (wing : Wing) (fin : HostEnd) (s : State) : Host.Outcome State Fault Refusal :=
  lift (fun h => hostCompletion h wing fin) s

end Sys2Proof.Machine
end

