-- ==== Sys2Proof/Machine/FrameCommands.lean ====
section
/-! DEFINITION. The meanings of the commands whose effects stand in Machine/Frame.lean. -/

namespace Sys2Proof.Machine

/-- The meaning of SLOT_BOUNDARY (R27). -/
def execSlotBoundary (s : State) : Host.Outcome State Fault Refusal := lift slotBoundary s

/-- The meaning of SCHEDULE_DEADLINE (R33). -/
def execScheduleDeadline (wing : Wing) (s : State) : Host.Outcome State Fault Refusal :=
  lift (fun h => scheduleDeadline h wing) s

/-- The meaning of TICK_MARKER (R42). -/
def execTickMarker (port : Wing) (payload : Word) (flagged : Bool) (arrival : Nat) (s : State) : Host.Outcome State Fault Refusal :=
  lift (fun h => tickMarker h port payload flagged arrival) s

/-- The meaning of MISSED_TICK (R42). -/
def execMissedTick (s : State) : Host.Outcome State Fault Refusal := lift missedTick s

/-- The meaning of LENGTH_SET_CHANGE (R44). -/
def execLengthSetChange (ini : Initiator) (wing : Wing) (s : State) : Host.Outcome State Fault Refusal :=
  lift (fun h => lengthSetChange h ini wing) s

/-- The meaning of LENGTH_CHANGED (R44). -/
def execLengthChanged (s : State) : Host.Outcome State Fault Refusal := lift lengthChanged s

/-- The meaning of PTP_OFFSET_WRITE (R46). -/
def execPtpOffsetWrite (ini : Initiator) (value : Word) (s : State) : Host.Outcome State Fault Refusal :=
  lift (fun h => ptpOffsetWrite h ini value) s

/-- The meaning of CLR_COUNTS (R49). -/
def execClrCounts (ini : Initiator) (wing : Wing) (s : State) : Host.Outcome State Fault Refusal :=
  lift (fun h => clrCounts h ini wing) s

end Sys2Proof.Machine
end

