-- ==== Sys2Proof/Machine/GalleriesCommands.lean ====
section
/-! DEFINITION. The meanings of the commands whose effects stand in Machine/Galleries.lean. -/

namespace Sys2Proof.Machine

/-- The meaning of CASE_COMPRESSED (R233). -/
def execCaseCompressed (wing : Wing) (stream : Nat) (s : State) : Host.Outcome State Fault Refusal :=
  lift (fun h => caseCompressed h wing stream) s

/-- The meaning of GALLERY_FLUSH_TIMEOUT (R261). -/
def execGalleryFlushTimeout (serial : Nat) (s : State) : Host.Outcome State Fault Refusal :=
  lift (fun h => galleryFlush h serial) s

/-- The meaning of CLOSE_NOW (R261). -/
def execCloseNow (ini : Initiator) (wing : Wing) (s : State) : Host.Outcome State Fault Refusal :=
  lift (fun h => closeNow h ini wing) s

end Sys2Proof.Machine
end

