-- ==== Sys2Proof/Machine/MehrorCommands.lean ====
section
/-! DEFINITION. The meanings of the commands whose effects stand in Machine/Mehror.lean. -/

namespace Sys2Proof.Machine

/-- The meaning of MFT_DESC_WRITE (R138). -/
def execMftDescWrite (wing : Wing) (src : Source) (s : State) : Host.Outcome State Fault Refusal :=
  lift (fun h => mftDescWrite h wing src) s

/-- The meaning of MFT_DESC_READ (R138). -/
def execMftDescRead (wing : Wing) (src : Source) (s : State) : Host.Outcome State Fault Refusal :=
  lift (fun h => mftDescRead h wing src) s

/-- The meaning of MFT_DESC_SEND (R138). -/
def execMftDescSend (wing : Wing) (src : Source) (s : State) : Host.Outcome State Fault Refusal :=
  lift (fun h => mftDescSend h wing src) s

/-- The meaning of MFT_DESC_ATOMIC_ADD (R138). -/
def execMftDescAtomicAdd (wing : Wing) (src : Source) (s : State) : Host.Outcome State Fault Refusal :=
  lift (fun h => mftDescAtomic h wing src false) s

/-- The meaning of MFT_DESC_ATOMIC_CAS (R138). -/
def execMftDescAtomicCas (wing : Wing) (src : Source) (s : State) : Host.Outcome State Fault Refusal :=
  lift (fun h => mftDescAtomic h wing src true) s

/-- The meaning of POST_RECV (R135). -/
def execPostRecv (wing : Wing) (src : Source) (s : State) : Host.Outcome State Fault Refusal :=
  lift (fun h => postRecv h wing src) s

/-- The meaning of MFT_WRITE_PACKET (R129). -/
def execMftWritePacket (wing : Wing) (p : MftPacket) (s : State) : Host.Outcome State Fault Refusal :=
  lift (fun h => mftWritePacket h wing p) s

/-- The meaning of MFT_READ_PACKET (R128). -/
def execMftReadPacket (wing : Wing) (p : MftPacket) (s : State) : Host.Outcome State Fault Refusal :=
  lift (fun h => mftReadPacket h wing p) s

/-- The meaning of READ_RESP (R129). -/
def execReadResp (wing : Wing) (p : MftPacket) (s : State) : Host.Outcome State Fault Refusal :=
  lift (fun h => mftReadResp h wing p) s

/-- The meaning of MFT_SEND_PACKET (R135). -/
def execMftSendPacket (wing : Wing) (p : MftPacket) (s : State) : Host.Outcome State Fault Refusal :=
  lift (fun h => mftSendPacket h wing p) s

/-- The meaning of MFT_ATOMIC_ADD_PACKET (R131). -/
def execMftAtomicAddPacket (wing : Wing) (p : MftPacket) (s : State) : Host.Outcome State Fault Refusal :=
  lift (fun h => mftAtomicPacket h wing p 5) s

/-- The meaning of MFT_ATOMIC_CAS_PACKET (R131). -/
def execMftAtomicCasPacket (wing : Wing) (p : MftPacket) (s : State) : Host.Outcome State Fault Refusal :=
  lift (fun h => mftAtomicPacket h wing p 6) s

/-- The meaning of ATOMIC_RESP (R138). -/
def execAtomicResp (wing : Wing) (p : MftPacket) (s : State) : Host.Outcome State Fault Refusal :=
  lift (fun h => mftAtomicResp h wing p) s

/-- The meaning of MFT_ACK (R133). -/
def execMftAck (wing : Wing) (p : MftPacket) (time : Nat) (s : State) : Host.Outcome State Fault Refusal :=
  lift (fun h => mftAck h wing p time) s

/-- The meaning of MFT_NAK (R125). -/
def execMftNak (wing : Wing) (p : MftPacket) (time : Nat) (s : State) : Host.Outcome State Fault Refusal :=
  lift (fun h => mftNak h wing p time) s

/-- The meaning of ACK_DELAY (R130). -/
def execAckDelay (wing : Wing) (ctx : Nat) (s : State) : Host.Outcome State Fault Refusal :=
  lift (fun h => ackDelay h wing ctx) s

/-- The meaning of RTO_EXPIRY (R136). -/
def execRtoExpiry (wing : Wing) (ctx : Nat) (psn : Nat) (s : State) : Host.Outcome State Fault Refusal :=
  lift (fun h => rtoExpiry h wing ctx psn) s

/-- The meaning of RNR_DELAY (R135). -/
def execRnrDelay (wing : Wing) (ctx : Nat) (psn : Nat) (s : State) : Host.Outcome State Fault Refusal :=
  lift (fun h => rnrDelay h wing ctx psn) s

/-- The meaning of MFT_OPEN (R139). -/
def execMftOpen (ini : Initiator) (wing : Wing) (s : State) : Host.Outcome State Fault Refusal :=
  lift (fun h => mftCommand h ini wing 1) s

/-- The meaning of MFT_CLOSE (R139). -/
def execMftClose (ini : Initiator) (wing : Wing) (s : State) : Host.Outcome State Fault Refusal :=
  lift (fun h => mftCommand h ini wing 2) s

/-- The meaning of CLOSE_DONE (R139). -/
def execCloseDone (wing : Wing) (ctx : Nat) (s : State) : Host.Outcome State Fault Refusal :=
  lift (fun h => closeDone h wing ctx) s

end Sys2Proof.Machine
end

