-- ==== Sys2Proof/Machine/MountCommands.lean ====
section
/-! DEFINITION. The meanings of the commands whose effects stand in Machine/Mount.lean. -/

namespace Sys2Proof.Machine

/-- The meaning of MOUNT (R332). -/
def execCurMount (ini : Initiator) (wing : Wing) (s : State) : Host.Outcome State Fault Refusal :=
  lift (fun h => curMount h ini wing) s

/-- The meaning of CKPT_DONE (R190). -/
def execCkptDone (loc : Nat) (ms : Nat) (s : State) : Host.Outcome State Fault Refusal :=
  lift (fun h => checkpointDone h loc ms) s

end Sys2Proof.Machine
end

