-- ==== Sys2Proof/Machine/Tick.lean ====
section
/-! DEFINITION. FRAME_TICK (R30): the local tick, with all that begins or ends at it. -/

namespace Sys2Proof.Machine

open Reg

/-- Collections whose FOQ_COLL_RATE or FOQ_COLL_BURST a commit of this tick changes (R98, R115). -/
def committedColls (h : Head) : List Nat :=
  let due (w : Wing) : Bool := hget h (pg .foq w) COMMIT_GO == 1
  ((h.pend.filter (fun e =>
    wings.any (fun w => due w && keyPage e.1 == pageNum (pg .foq w)) && (keyOff e.1 == 0x068 || keyOff e.1 == 0x06C))).map
      (fun e => keyBank e.1)).eraseDups

/-- The commits of every page (R57), and what follows a changed field at once: the clamp of R98, the role (R39), the PTP lock (R48),
bounds (R99, R100). -/
def tickCommits (h : Head) : Head :=
  let was := fget h .east FRM_CTRL_ROLE
  let colls := committedColls h
  let h := foldHead (takeMaster h) allPages commitPage
  let h := updatePtpLock (roleEffect (foldHead h colls clampBank) was)
  foldHead h wings updateBounds

/-- The first tick after chip reset: RESET_NOTED (R81), and RETAINED (R177, R178). -/
def firstTick (h : Head) : Head :=
  if !h.frm.firstTick then h
  else foldHead { h with frm := { h.frm with firstTick := false } } wings (fun h w =>
    let h := raise h w Ev.CHP_RESET_NOTED
    if fbit h w VIT_RETAIN_RETAINED then raise h w Ev.VIT_RETAINED else h)

/-- The tick markers sent on every Annex port and plinth link that is up (R36, R37, R153, R280), as TICK flits (R151). -/
def sendMarkers (h : Head) : Head :=
  let m := markerPayload h
  let h := foldHead h wings (fun h w =>
    if anxUp h w then drainAnx (setAnxLink h w ((anxLink h w).pushMarker (.tickMarker w none m))) w else h)
  foldHead h (upPlinths h) (fun h n =>
    drainPlk (setPlkLink h n ((plkLink h n).pushMarker (.tickMarker (plkWing n) (some (plkInst n)) m))) n)

/-- TICK on a wing (R48), if it is enabled. -/
def tickEvent (h : Head) (w : Wing) : Head :=
  if (hget h (pg .frm w) EVT_ENABLE_EVENTS).testBit Ev.FRM_TICK.n then raise h w Ev.FRM_TICK else h

/-- The slip of a frame out of which a wing carried work over (R34). -/
def workTick (h : Head) (w : Wing) : Head :=
  let carried := if w = .east then h.frm.carriedE else h.frm.carriedW
  if carried then
    workSlip { h with frm := if w = .east then { h.frm with carriedE := false } else { h.frm with carriedW := false } } w
  else h

/-- The credit of every shaped collection (R95), as the frame's length scales it (R31). -/
def creditTick (h : Head) : Head :=
  foldHead h (shapedColls h) (fun h c => refillColl h c (frameBudget h 16 (fget h .east FOQ_COLL_RATE_CREDIT c)))

/-- Open cases and galleries wait one frame more (R233, R264), and the frames since the last checkpoint are counted (R190). -/
def ageTick (h : Head) : Head :=
  { h with
    cat := { h.cat with frames := h.cat.frames + 1 }
    eng := { h.eng with cases := h.eng.cases.map (fun c => { c with age := c.age + 1 }) }
    gal := { h.gal with opens := h.gal.opens.map (fun g => if g.cases = [] then g else { g with age := g.age + 1 }) } }

/-- The walks of an EDITION_DELETE (R195) and of a discarded live map (R357) go on in the Curator's frames. -/
def walkTick (h : Head) : Head :=
  if wings.any (fun w => decide (0 < (wingBudgets h w).cur)) then endDiscard (endWalk h) else h

/-- What a tick brings after the timebase has entered the new frame. -/
def tickRest (h : Head) (lateE lateW : Option Nat) : Head :=
  let h := foldHead (lengthChanged (tickCommits (westAlign h))) wings lateTick
  let h := sendMarkers (foldHead (firstTick h) wings tickEvent)
  let h := quotaTick (creditTick (foldHead (foldHead h wings workTick) wings accTick))
  let h := foldHead (foldHead h wings stallTick) wings boundLong
  let h := rplTick (curatorTick (walkTick (endTests (ageTick h))))
  let h := buildSchedule h lateE lateW
  foldHead h wings syncMode

/-- FRAME_TICK (R30 to R36, R57, R95, R101, R147, R315, R325). A wing named late does not complete the next schedule in time: it sends that
many programs and erases by the deadline. -/
def frameTick (h : Head) (lateE lateW : Option Nat) : Head := tickRest (tickTimebase h) lateE lateW

end Sys2Proof.Machine
end

