-- ==== Sys2Proof/Machine/Pages.lean ====
section
/-! DEFINITION. The control pages as a bus access meets them (R6 to R11, R50 to R63): reads and pairs, the common header, quiescing and
block reset, fencing, the conditions under which a register is written, and what a write starts. -/

namespace Sys2Proof.Machine

open Reg

/-! ### Reads (R7, R63) -/

/-- The W1S bits of a register whose action is under way and is shown by other state (R8). -/
def pendingBits (h : Head) (p : Page) (off : Nat) : Word :=
  let w := p.wing
  let bit (k : Nat) (b : Bool) : Word := if b then BitVec.ofNat 32 (1 <<< k) else 0
  match p.block, off with
  | .vit, 0x040 => bit 9 h.vit.restoring
  | .anx, 0x040 => bit 1 (fbit h w ANX_LINK_STATUS_UP && fbit h w ANX_LINK_STATUS_TRAINING)
  | .cat, 0x040 => bit 8 (fbit h .east CAT_CKPT_STATUS_IN_PROGRESS)
  | .rgs, 0x040 => bit 8 (h.cat.reindexing.contains (fget h w RGS_COLL_INDEX_INDEX))
  | .gal, 0x05C => bit 8 (fbit h .east GAL_REBUILD_BUSY)
  | .gal, 0x068 => bit 8 (fbit h .east GAL_RESHAPE_RUNNING)
  | .plk, 0x040 => bit 1 (fbit h w PLK_STATUS_UP 0 p.inst && fbit h w PLK_STATUS_TRAINING 0 p.inst)
  | .cur, 0x040 => bit 8 h.cur.mounting
  | .mem, 0x058 => bit 16 (fbit h w MEM_MIGRATE_BUSY)
  | .doc, 0x040 => bit 0 h.doc.heldE ||| bit 1 h.doc.heldW
  | .upd, 0x040 => bit 8 h.arc.upd.isSome
  | .rsv, 0x0AC => bit 30 h.rsv.health.isSome
  | _, _ => 0

/-- EVT_WG_STATE.QUIET_MICROS of the selected group (R80): the time since its timer restarted. -/
def quietMicros (h : Head) (g : Nat) : Nat := min ((frmTime h - tabGet h.groupTimes 0 g) / 1000) (2 ^ 20 - 1)

/-- What a register shows when read: the namespace's view of CAT_NS_INDEX (R212), the SYSTEM bit of a ring (R423), a group's quiet time
(R80), or its word, with the actions that are pending. -/
def readView (h : Head) (p : Page) (off : Nat) : Word :=
  let v := readWord h p off ||| pendingBits h p off
  match p.block, off with
  | .cat, _ => match nsView h off with
    | some n => BitVec.ofNat 32 n
    | none => v
  | .doc, 0x04C =>
    putBits v 31 31 (fget h (wingOf (fget h .east DOC_RING_SEL_WING)) CPU_RING_CFG_SYSTEM (fget h .east DOC_RING_SEL_RING))
  | .evt, 0x06C => putBits v 19 0 (quietMicros h (fget h p.wing EVT_WG_INDEX_GROUP))
  | _, _ => v

/-- Counters of what no command shows: hits and misses of the Catalogue cache, which the lookups of no one command alone make (R196),
frames a port discards, the units a migration has moved (R379), the operating hours' fraction (R445), and what is left of a trial (R453) or
a watchdog's time (R456). -/
def unseenCounter (b : Block) (off : Nat) : Option Fld :=
  match b, off with
  | .cch, 0x054 => some CCH_HIT_COUNT
  | .cch, 0x058 => some CCH_MISS_COUNT
  | .foy, 0x058 => some FOY_CNT_BAD_COUNT
  | .mem, 0x05C => some MEM_MIGRATE_BOUND_UNITS
  | .prv, 0x054 => some PRV_HOURS_HOURS
  | .upd, 0x05C => some UPD_TRIAL_LEFT
  | .wdg, 0x04C => some WDG_LEFT_MICROS
  | _, _ => none

/-- Such a counter stands: on a page at rung 4; with no migration; with no trial; with the watchdog not enabled. -/
def unseenStands (h : Head) (p : Page) : Bool :=
  hget h p RUNG_CURRENT == 4 || (match p.block with
    | .mem => !fbit h p.wing MEM_MIGRATE_BUSY
    | .upd => !h.arc.trial
    | .wdg => !fbit h .east WDG_CFG_ENABLE (fget h .east WDG_INDEX_WATCHDOG)
    | _ => false)

/-- Such a counter moved by a number: time left falls, an hour's fraction rises within its hour, every other count rises. -/
def moveUnseen (h : Head) (p : Page) (f : Fld) (n : Nat) : Head :=
  match p.block with
  | .upd => fset h .east f (n % (fget h .east f + 1))
  | .wdg =>
    let k := fget h .east WDG_INDEX_WATCHDOG
    fset h .east f (n % (fget h .east f k + 1)) k
  | .prv => fset h .east f (fget h .east f + n % (256 - fget h .east f % 256))
  | _ => fadd h p.wing f n 0 p.inst

/-- Such a counter has moved since it was last read by a number the spec leaves open. -/
def countUnseen (h : Head) (p : Page) (off : Nat) : Head :=
  match unseenCounter p.block off with
  | none => h
  | some f =>
    if unseenStands h p then h
    else
      let (k, h) := fresh h
      moveUnseen h p f (Config.freeNat k)

/-- A read of a decoded register: LO latches a copy of HI, which the next read of HI returns, once; a read of HI with none latched returns
its present value. A page keeps one latch for each pair, the mirror one of its own. An offset that no table names reads 0. -/
def readRegister (h : Head) (mirror : Bool) (p : Page) (off : Nat) : Head :=
  let key (o : Nat) : Nat := regKey p o (ofBool mirror)
  match regDef? p.block off with
  | none => reply h false
  | some r => match r.half with
    | .single =>
      let h := countUnseen h p off
      reply h false (readView h p off)
    | .lo => reply { h with hiLatch := tabPut h.hiLatch (key (pairHi off)) (readView h p (pairHi off)) } false (readView h p off)
    | .hi => match tabGet? h.hiLatch (key off) with
      | some v => reply { h with hiLatch := tabDel h.hiLatch (key off) } false v
      | none => reply h false (readView h p off)

/-- PAIR_LO_READ, and any other read of one aligned word. -/
def readAccess (h : Head) (ini : Initiator) (addr : Nat) : Head :=
  match gateAccess h ini addr 4 false with
  | .stop h => h
  | .pass win p off h => readRegister h (decide (win = .mirror)) p off

/-! ### The header: events and errors (R53, R58, R60, R70) -/

/-- An event of a page delivered again, or delivered for its enable. -/
def redeliver (h : Head) (p : Page) (bits : Nat) : Head :=
  foldHead h ((List.range (evtCount p.block)).filter (fun n => bits.testBit n)) (fun h n =>
    { h with evq := h.evq ++ [⟨evtBase p + n, p.wing⟩] })

/-- The bits of a word that name events of a page. -/
def eventBits (p : Page) (v : Word) : Nat := v.toNat % 2 ^ evtCount p.block

/-- A W1C write to EVT_STATUS. A bit that the hardware sets again in the same cycle stays set, and is delivered again where it is
enabled (R9, R70). CFG_LOCKED is cleared with the configuration event's bit (R58). -/
def statusClear (h : Head) (p : Page) (mask again : Word) : Head :=
  let m := eventBits p mask
  let a := eventBits p again
  let st := hget h p EVT_STATUS_EVENTS
  let stay := st &&& m &&& a
  let h := hset h p EVT_STATUS_EVENTS ((st &&& (st ^^^ m)) ||| stay)
  let h := if m.testBit (configBit p.block) && !(stay.testBit (configBit p.block)) then hset h p STATUS_CFG_LOCKED 0 else h
  let h := redeliver h p (stay &&& hget h p EVT_ENABLE_EVENTS)
  foldHead h ((List.range (evtCount p.block)).filter (fun n => a.testBit n && !(stay.testBit n))) (fun h n => raiseAt h p n)

/-- A write of EVT_ENABLE delivers the events that are newly enabled and already set (R70). -/
def enableEffect (h : Head) (p : Page) (v : Word) : Head :=
  let old := hget h p EVT_ENABLE_EVENTS
  let now := eventBits p v
  redeliver (hset h p EVT_ENABLE_EVENTS now) p (now &&& (now ^^^ old) &&& hget h p EVT_STATUS_EVENTS)

/-- An event of a page that its source raises at every cause (R35, R148, R402). -/
def isCounted (b : Block) (n : Nat) : Bool :=
  (b == .frm && n == Ev.FRM_SLIP.n) || (b == .vit && n == Ev.VIT_OVER_QUOTA.n) || (b == .msr && n == Ev.MSR_EXTENDED.n)

/-- A write of EVT_FORCE: events set as if their source had raised them (R53). -/
def forceEffect (h : Head) (p : Page) (mask : Word) : Head :=
  foldHead h ((List.range (evtCount p.block)).filter (fun n => (eventBits p mask).testBit n)) (fun h n =>
    if isCounted p.block n then raiseCounted h p.wing ⟨p.block, n⟩ p.inst else raiseAt h p n)

/-- ERR_INFO.VALID cleared: COUNT clears and the capture is armed again (R60). -/
def errClear (h : Head) (p : Page) : Head := hset (hset h p ERR_INFO_VALID 0) p ERR_INFO_COUNT 0

/-- COMMIT.GO (R57): a write while one is pending starts nothing more (R10). -/
def goEffect (h : Head) (p : Page) : Head := hset h p COMMIT_GO 1

/-! ### Running and quiescing (R54, R112, R140, R179, R180, R188, R213, R214, R245, R275, R303, R336, R337, R338, R360, R393, R460) -/

/-- The jobs of the Conservator (R325). -/
def conservatorJobs : List Job := [.failedDie, .report, .threshold, .refresh, .retain, .reindex, .scrub]

/-- A read of one of some jobs is to be made, or is outstanding. -/
def jobsOut (h : Head) (js : List Job) : Bool :=
  let of (q : Purpose) : Bool := match q with
    | .work w => js.contains w.job
    | _ => false
  h.gal.work.any (fun w => js.contains w.job) || h.gal.recons.any (fun r => r.work.any (fun w => js.contains w.job)) ||
    h.dsp.waiting.any (fun r => of r.purpose) || h.plk.ops.any (fun o => of o.purpose)

/-- Moved cases that no gallery has committed yet. -/
def movesOut (h : Head) : Bool :=
  h.gal.queued.any (fun e => e.2.moved) || h.gal.opens.any (fun g => g.cases.any (·.moved))

/-- Operations of an engine class on a wing that have not completed: one whose entry waits for room in its queue (R67) counts. -/
def opsOut (h : Head) (cls : Block) (w : Wing) : Bool := h.eng.ops.any (fun o => o.cls == cls && o.wing == w)

/-- Messages of a wing that are sent and not acknowledged. -/
def messagesOut (h : Head) (w : Wing) : Bool := h.vit.unacked.any (fun u => u.wing == w)

/-- A page's block holds no work in progress. -/
def blockIdle (h : Head) (p : Page) : Bool :=
  let w := p.wing
  match p.block with
  | .foy => !h.foy.cmds.any (fun e => e.2.cap.wing == w && e.2.cap.port == p.inst)
  | .foq => !h.foy.cmds.any (fun e => e.2.cap.wing == w) &&
      (if w = .east then h.foy.quietE && !h.foy.admittedE else h.foy.quietW && !h.foy.admittedW)
  | .mft => h.mft.all (fun e => decide (wingOf (e.1 / 32768) ≠ w) || e.2.ops.isEmpty)
  | .vit => !h.vit.toMirror.any (fun e => e.1 == w) && !messagesOut h w
  | .anx => !messagesOut h w
  | .cat => !fbit h .east CAT_CKPT_STATUS_IN_PROGRESS && h.cat.busy.isNone && h.vit.unacked.all (fun u => match u.body with
      | .catUpdate _ => false
      | _ => true)
  | .cch => fget h w CCH_WAY_STATE_CLEANING == 0
  | .rgs => !h.cat.comparing.any (fun e => e.1 == w)
  | .dge | .cph | .dma => !opsOut h p.block w
  | .cdc => !opsOut h .cdc w && !h.eng.cases.any (fun c => c.wing == w)
  | .gal => !h.gal.opens.any (fun g => g.wing == w && g.closed)
  | .plk => !h.plk.ops.any (fun o => o.plinth == 32 * wingNum w + p.inst)
  | .dsp => !h.plk.ops.any (fun o => plkWing o.plinth == w && !o.cmd.mgmt)
  | .cur => !jobsOut h [.reclaim] && !movesOut h
  | .csv => !jobsOut h conservatorJobs && !movesOut h
  | .rpl => h.rpl.reqs.isEmpty
  | .mem => !fbit h w MEM_MIGRATE_BUSY
  | .hbm => !(List.range 96).any (fun k => pchState h w k == 1)
  | .arc => h.arc.op.isNone
  | .upd => h.arc.upd.isNone && h.arc.op.all (fun o => o.job != .upd)
  | .rsv => rsvMode h == 0
  | .chp | .frm | .evt | .pwr | .cpu | .doc | .key | .msr | .prv | .alm | .wdg => true

/-- QUIESCED once a block that accepts no work holds none. -/
def quiesceNow (h : Head) (p : Page) : Head :=
  if !running h p ∧ blockIdle h p = true then hset h p STATUS_QUIESCED 1 else h

/-- What a block does as it stops: galleries close (R261), open cases close (R233). -/
def stopBlock (h : Head) (p : Page) : Head :=
  match p.block with
  | .gal => closeAll h p.wing
  | .cdc => foldHead h ((h.eng.cases.filter (fun c => c.wing == p.wing && !c.closed)).map (·.stream)) (fun h s => closeCase h p.wing s)
  | _ => h

/-- ENABLE and QUIESCE written (R54). QUIESCE written 0 starts the exit of an island below rung 0, with SOFTWARE (R471). -/
def runEffect (h : Head) (p : Page) (enable quiesce : Bool) : Head :=
  let was := running h p
  let h := setRunning (hset (hset h p CTRL_ENABLE (ofBool enable)) p CTRL_QUIESCE (ofBool quiesce)) p
  let h := if was ∧ !running h p then stopBlock h p else h
  let h := quiesceNow h p
  if quiesce then h else islandWake h p 0

/-- QUIESCE_DONE: the last operation in progress has completed. -/
def quiesceDone (h : Head) (p : Page) : Head := if allPages.contains p then quiesceNow h p else h

/-! ### Block reset, fencing, faults (R55, R56, R513) -/

/-- CTRL.BLOCK_RESET, while QUIESCED was 1 before the write. -/
def resetEffect (h : Head) (src : Nat) (p : Page) (quiesced : Bool) : Head :=
  if quiesced then blockReset h p false else config h p ⟨5, src, true, pageAddr p + 0x008⟩

/-- Pages whose instance can be fenced. -/
def fenceable (b : Block) : Bool := b == .foy || b == .plk

/-- CTRL.FENCE written 1, while QUIESCED was 1 before the write: the port or link moves to rung 4. -/
def fenceEffect (h : Head) (src : Nat) (p : Page) (quiesced : Bool) : Head :=
  if !fenceable p.block ∨ hget h p CTRL_FENCE = 1 then h
  else if !quiesced then config h p ⟨3, src, true, pageAddr p + 0x008⟩
  else
    let h := setRunning (hset (hset h p CTRL_FENCE 1) p STATUS_FENCED 1) p
    let h := { h with pwr := { h.pwr with
      exits := h.pwr.exits.filter (· != pageNum p)
      requests := tabDel h.pwr.requests (pageNum p) } }
    if hget h p RUNG_CURRENT = 4 then hset h p RUNG_IN_TRANSIT 0 else startEntry h p 4

/-- CTRL.FENCE written 0: the instance leaves rung 4, which acts as a block reset. -/
def unfenceEffect (h : Head) (p : Page) : Head :=
  if !fenceable p.block ∨ hget h p CTRL_FENCE = 0 then h
  else
    let h := hset (hset h p CTRL_FENCE 0) p STATUS_FENCED 0
    islandWake (hset (hset h p CTRL_QUIESCE 1) p STATUS_RUNNING 0) p 0

/-- A word written to CTRL. BLOCK_RESET and FENCE are judged by STATUS as it stood before. -/
def ctrlEffect (h : Head) (src : Nat) (p : Page) (v : Word) : Head :=
  let quiesced := hget h p STATUS_QUIESCED == 1
  let unfence := hget h p CTRL_FENCE == 1 && bitsOf v 3 3 == 0
  let h := runEffect h p (bitsOf v 0 0 == 1) (bitsOf v 1 1 == 1)
  let h := if bitsOf v 3 3 = 1 then fenceEffect h src p quiesced else h
  let h := if bitsOf v 2 2 = 1 then resetEffect h src p quiesced else h
  if unfence then unfenceEffect h p else h

/-- The elements of a list at some places. -/
def namedAt {α : Type} (tags : List Nat) (l : List α) : List α := (l.zipIdx.filter (fun e => tags.contains e.2)).map (·.1)

/-- The running work of the Catalogue, a walk or a checkpoint, ended by a fault. -/
def faultCat (h : Head) : Head :=
  let h := if h.cat.busy.isSome then nsResult { h with cat := { h.cat with busy := none } } .internal else h
  if fbit h .east CAT_CKPT_STATUS_IN_PROGRESS then
    fset { h with cat := { h.cat with cut := 0, cutSnap := none } } .east CAT_CKPT_STATUS_IN_PROGRESS 0
  else h

/-- Reads of jobs that are not yet made, ended by a fault. -/
def faultJobs (h : Head) (tags : List Nat) (js : List Job) : Head :=
  let l := namedAt tags (h.gal.work.filter (fun w => js.contains w.job))
  foldHead { h with gal := { h.gal with work := h.gal.work.filter (fun w => !l.contains w) } } l (fun h w => workDone h w .internal 0)

/-- A forwarded command ended by a fault of the Annex (R113, R164). -/
def faultForward (h : Head) (key : Nat) (c : HostCmd) : Head :=
  let h := match c.mtag with
    | some t => dropUnacked h t
    | none => h
  finishCmd (raise (dropStaging h key) c.cap.wing Ev.FOQ_FORWARD_FAIL) key c (nvmeOf .internal) []

/-- The segment move of a wing ended by a fault: the segment stays where it was (R379). -/
def faultMigration (h : Head) (w : Wing) : Head :=
  match migration h w with
  | none => h
  | some (seg, _, _) => fset (fset (setMigration h w none) w MEM_SEG_ENTRY_MIGRATING 0 seg) w MEM_MIGRATE_BUSY 0

/-- The operations of a block that a fault affects completed with INTERNAL (R56): engine operations by TAG, commands by host tag, plinth
commands by slot, replication requests by RTAG, and what has no number by its place in its queue. -/
def faultOps (h : Head) (p : Page) (tags : List Nat) : Head :=
  let w := p.wing
  let h := readyOps h (fun o => o.cls == p.block && o.wing == w && tags.contains o.tag && !o.held) (fun o =>
    { o with status := .internal, bytes := 0, word := 0, place := [], poison := [], ready := true })
  match p.block with
  | .vit => { h with foy := { h.foy with cmds := tabMap h.foy.cmds (fun k c =>
      if isWrite c.cap.op ∧ homeOf h c.cap.nsid = w ∧ tags.contains (k % 32768) then { c with failed := some .internal } else c) } }
  | .anx => foldHead h (h.foy.cmds.filter (fun e => e.2.fwd && e.2.cap.wing == w && tags.contains (e.1 % 32768))) (fun h e =>
      faultForward h e.1 e.2)
  | .cat => if tags = [] then h else faultCat h
  | .rgs => foldHead h (namedAt tags (h.cat.comparing.filter (fun e => e.1 == w))) (fun h e =>
      compareReadDone h w e.2.1 .internal false false)
  | .gal => foldHead h (namedAt tags (h.gal.recons.filter (fun r => serialWing h (locSerial r.loc) == w))) (fun h r =>
      endRecon h r (.bad .internal))
  | .dsp =>
    let l := namedAt tags (h.dsp.waiting.filter (fun r => plkWing r.plinth == w))
    let h := { h with dsp := { h.dsp with waiting := h.dsp.waiting.filter (fun r => !l.contains r) } }
    foldHead h l (fun h r => purposeDone h ⟨r.plinth, r.cmd, r.cls, false, r.purpose, r.accepted⟩ .internal 0 0 0)
  | .cur => faultJobs h tags [.reclaim]
  | .csv => faultJobs h tags conservatorJobs
  | .rpl => foldHead h (h.rpl.reqs.filter (fun r => collHome h r.coll == w && tags.contains r.rtag)) (fun h r =>
      if (rplColl h r.coll).ship.isSome then endShip h r.coll .internal else diverge h r.coll)
  | .mem => if tags = [] then h else faultMigration h w
  | .foy | .foq =>
    foldHead h (h.foy.cmds.filter (fun e => e.2.cap.wing == w && (p.block == .foq || e.2.cap.port == p.inst) &&
        tags.contains (e.1 % 32768))) (fun h e => finishCmd h e.1 e.2 (nvmeOf .internal) [])
  | .plk =>
    let mine (o : PlkOp) : Bool := o.plinth == 32 * wingNum w + p.inst && !o.cmd.mgmt && tags.contains o.cmd.slot
    let l := h.plk.ops.filter mine
    let h := syncPlk { h with plk := { h.plk with ops := h.plk.ops.filter (fun o => !mine o) } } (32 * wingNum w + p.inst)
    pumpReads (releaseAcks (foldHead h l (fun h o => purposeDone h o .internal 0 0 0))) 0
  | .arc => match h.arc.op with
    | some o => if tags = [] then h else arcReport { h with arc := { h.arc with op := none } } o .internal 0 0
    | none => h
  | .upd => match h.arc.upd with
    | some u => if tags = [] then h else updEnd h u .internal
    | none => h
  | _ => h

/-- BLOCK_FAULT (R56): recorded with code 6; the block quiesces itself. -/
def blockFault (h : Head) (p : Page) (tags : List Nat) : Head :=
  if !allPages.contains p then h
  else
    let h := capture (hset h p STATUS_FAULT 1) p ⟨6, 0xFF, false, 0⟩
    runEffect (faultOps h p tags) p (hget h p CTRL_ENABLE == 1) true

/-! ### Conditions of a write (R58, R59 and the pages' rules) -/

/-- An RWQ field of a register may change now: STATUS.QUIESCED, or the condition its page states in its place. -/
def mayChange (h : Head) (p : Page) (off bank : Nat) : Bool :=
  let w := p.wing
  let quiesced := hget h p STATUS_QUIESCED == 1
  match p.block with
  | .mft => if off = 0x084 ∨ off = 0x088 then mftState h w bank == 0 else quiesced
  | .anx => if off = 0x048 then pairState h == 0 || pairState h == 7 else quiesced
  | .rgs => if off = 0x04C ∨ off = 0x050 then (indexOf h bank).isEmpty else quiesced
  | .cur => if off = 0x044 ∨ off = 0x048 then !h.cur.mounting && !h.cur.mounted else quiesced
  | .rpl => if 0x054 ≤ off ∧ off ≤ 0x060 then [0, 4, 5].contains (rplState h bank) && !rplOutstanding h bank else quiesced
  | .cpu =>
    if 0x058 ≤ off ∧ off ≤ 0x060 then !fbit h w CPU_RING_CFG_ENABLE bank
    else if 0x06C ≤ off ∧ off ≤ 0x074 then !fbit h w CPU_CQ_CFG_ENABLE bank
    else quiesced
  | .key => if off = 0x048 then keyState h bank == 0 else quiesced
  | .rsv => rsvMode h == 0 || rsvMode h == 2 || rsvMode h == 4
  | _ => quiesced

/-- A write that its page's rules ignore whole, with the configuration event (R59 code 11). -/
def ignoredWhole (h : Head) (p : Page) (off bank : Nat) (v : Word) : Bool :=
  match p.block with
  | .mft => decide (0x064 ≤ off) && decide (off ≤ 0x074) && mftState h p.wing bank != 0
  | .key => off == 0x048 && (keyIndex? h).isNone
  | .arc => (off == 0x060 || off == 0x064) && fbit h .east ARC_XO_CFG_LOCKED bank
  | .upd => off == 0x060 && (h.doc.releasedE || h.doc.releasedW)
  | .wdg => off == 0x044 && bank == 0 && fbit h .east WDG_CFG_RESET 0 && fbit h .east WDG_CFG_ENABLE 0 && bitsOf v 31 31 == 0
  | .alm => off == 0x040 && (fget h .east CHP_LIFECYCLE_STATE == 1 || fget h .east CHP_LIFECYCLE_STATE == 2) &&
      bitsOf (rd h p 0x040 0) 10 0 &&& bitsOf v 10 0 != bitsOf (rd h p 0x040 0) 10 0
  | _ => false

/-- The filter region written for a collection lies within its wing's 4,096 MiB and off every other region of the wing (R202, R214). -/
def filterFits (h : Head) (w : Wing) (coll base size : Nat) : Bool :=
  let others := ((h.regs.filter (fun e => decide (keyPage e.1 = pageNum (pg .rgs .east)) && decide (keyOff e.1 = 0x050))).map
    (fun e => keyBank e.1)).filter (fun k => k != coll && ((tabGet? h.bindings k).map (·.home)).getD w == w)
  size == 0 || (decide (base + size ≤ 4096) && others.all (fun k =>
    let b := fget h .east RGS_COLL_FILTER_BASE_MIB k
    let s := fget h .east RGS_COLL_FILTER_SIZE_MIB k
    s == 0 || decide (base + size ≤ b) || decide (b + s ≤ base)))

/-- Encodings that the rules reserve for what other fields or registers hold: the word with such a field at its reset entry (R11), or,
for a minimum that another field states, as it was (R59), and the code. -/
def cleanWord (h : Head) (p : Page) (off bank : Nat) (v : Word) : Word × List Nat :=
  let w := p.wing
  let f (hi lo : Nat) : Nat := bitsOf v hi lo
  let fix (bad : Bool) (hi lo : Nat) : Word × List Nat := if bad then (putBits v hi lo (bitsOf (resetNow h p off 0) hi lo), [4]) else (v, [])
  let present := (allPlinths.filter (fun n => plkBit h n PLK_STATUS_PRESENT)).length
  match p.block, off with
  | .evt, 0x068 => fix (f 31 31 == 1 && inGroup h bank (f 5 0)) 5 0
  | .mft, 0x054 =>
    let was := readWord h p off
    let least := if f 15 0 < 25 then bitsOf was 15 0 else f 15 0
    if least ≤ f 31 16 then (v, [])
    else if f 15 0 ≤ bitsOf was 31 16 then (putBits v 31 16 (bitsOf was 31 16), [8])
    else (was, [8])
  | .anx, 0x058 =>
    let lease := if 400 ≤ f 31 16 ∧ hget h p STATUS_QUIESCED = 1 then f 31 16 else fget h .east ANX_LEASE_LEASE_US
    fix (decide (f 15 0 < 10) || decide (lease < 4 * f 15 0)) 15 0
  | .cur, 0x050 => fix (decide (f 9 0 ≤ f 25 16)) 25 16
  | .gal, 0x044 => fix (decide (present < f 4 0 + 2)) 4 0
  | .gal, 0x04C => fix (decide (256 < f 24 16 + bitsOf (readWord h (pg .gal (otherWing w)) 0x04C) 24 16)) 24 16
  | .gal, 0x068 =>
    if fbit h .east GAL_RESHAPE_RUNNING then (putBits v 4 0 (fget h .east GAL_RESHAPE_TARGET_N), [])
    else fix (decide (present < f 4 0 + 2)) 4 0
  | .rgs, 0x050 =>
    if filterFits h (((tabGet? h.bindings bank).map (·.home)).getD w) bank (f 15 0) (f 31 16) then (v, [])
    else (resetWord p off 0, [4])
  | .key, 0x048 => fix (f 29 27 == 5 && !fbit h .east KEY_SLOT_INDEX_PRIVATE) 29 27
  | .mem, 0x054 => fix (!([1, 2, 4, 8].contains (setSize (f 23 16))) && f 23 16 != 0) 23 16
  | .rsv, 0x08C => fix (decide (fget h .east RSV_SET_VBUS_SET ≤ f 27 16)) 27 16
  | .rsv, 0x0A4 => (if fbit h .east RSV_DUMP_KEY_FRESH then putBits v 27 27 1 else v, [])
  | _, _ => (v, [])

/-! ### What a write starts -/

/-- The links of a Foyer port after FOY_PORT_MODE is written: enabled links train, disabled ones go down (R82, R83). -/
def portModeEffect (h : Head) (w : Wing) (port : Nat) : Head :=
  let on := fget h w FOY_PORT_MODE_LINK_EN 0 port % 2 ^ linkCount h w port
  let up := fget h w FOY_LINK_STATUS_UP 0 port
  let h := fset h w FOY_LINK_STATUS_TRAINING (on &&& (on ^^^ up)) 0 port
  if up &&& on = up then h
  else raise (fset (fset h w FOY_LINK_STATUS_UP (up &&& on) 0 port) w FOY_LINK_STATUS_FEC_DEGRADED
    (fget h w FOY_LINK_STATUS_FEC_DEGRADED 0 port &&& on) 0 port) w Ev.FOY_LINK_CHANGE port

/-- An Annex port whose LINK_EN was written (R150). -/
def anxEnableEffect (h : Head) (w : Wing) (was : Bool) : Head :=
  match was, fbit h w ANX_CTRL_LINK_EN with
  | false, true => fset h w ANX_LINK_STATUS_TRAINING 1
  | true, false =>
    let h := fset h w ANX_LINK_STATUS_TRAINING 0
    if fbit h w ANX_LINK_STATUS_UP then anxDown h w else h
  | _, _ => h

/-- A plinth link whose LINK_EN was written (R298). -/
def plkEnableEffect (h : Head) (n : Nat) (was : Bool) : Head :=
  match was, plkBit h n PLK_CTRL_LINK_EN with
  | false, true => plkStart h n
  | true, false =>
    let h := plkSet h n PLK_STATUS_ADMITTED 0
    if plkBit h n PLK_STATUS_UP then plkDown h n else plkSet h n PLK_STATUS_TRAINING 0
  | _, _ => h

/-- A command of RPL_CMD (R361). What the keeper answers is not known to a register write: it answers nothing. -/
def rplCmdEffect (h : Head) (src : Nat) (w : Wing) (v : Word) : Head :=
  let coll := fget h w RPL_MAP_INDEX_INDEX
  let cmd := bitsOf v 2 0
  if cmd = 0 ∨ cmd = 7 then config h (pg .rpl w) ⟨4, src, true, pageAddr (pg .rpl w) + 0x068⟩
  else if (rplNs h coll).any (fun n => !n.owned) then rplResult h coll .fenced
  else match cmd with
    | 1 => shipCmd h coll []
    | 2 => freezeNumberedCmd h coll none
    | 3 => resumeSyncCmd h coll [] none
    | 4 => promoteCmd h coll (bitsOf v 8 8 == 1) []
    | 5 => demoteCmd h coll
    | _ => abortCmd h coll

/-- A namespace command (R212); on CAT.W the register is read-only. -/
def nsCmdEffect (h : Head) (src cmd : Nat) : Head :=
  let bad (c : Nat) : Head := config h (pg .cat .east) ⟨c, src, true, pageAddr (pg .cat .east) + 0x070⟩
  if h.cat.busy.isSome then bad 11
  else match cmd with
    | 1 => nsCreate h
    | 2 => nsDelete h
    | 3 => nsResize h
    | 4 => nsFreeze h
    | 5 => editionDelete h
    | 6 => nsExpose h
    | 7 => nsUnexpose h
    | _ => bad 4

/-- A 32-bit word put at a place of a number. -/
def putWordAt (n k : Nat) (v : Word) : Nat :=
  n % 2 ^ (32 * k) + v.toNat <<< (32 * k) + (n >>> (32 * k + 32)) <<< (32 * k + 32)

/-- What a written register of the array window starts, after its fields have taken their values. `was` is its word before. -/
def arrayAction (h : Head) (src : Nat) (p : Page) (off bank : Nat) (v was : Word) : Head :=
  let w := p.wing
  let b (k : Nat) : Bool := v.getLsbD k
  match p.block, off with
  | .chp, 0x05C => onlyIf (b 31) h (fun h => fset h w CHP_BUS_ERR_INFO_COUNT 0)
  | .frm, 0x040 => updatePtpLock (onlyIf (b 12) h (fun h =>
      fset (fset (fset (fset h w FRM_SLIP_TICK_COUNT 0) w FRM_SLIP_TICK_LOST 0) w FRM_SLIP_BUILD_COUNT 0) w FRM_SLIP_WORK_COUNT 0))
  | .frm, 0x044 => onlyIf (b 8 && w == .east) h (fun h => changeEffect h src)
  | .frm, 0x070 => onlyIf (w == .east) h (fun h => takeOffset h v)
  | .frm, 0x074 => updatePtpLock h
  | .evt, 0x04C => swRaiseEffect h w v
  | .evt, 0x054 =>
    let now := v.toNat &&& (v.toNat ^^^ was.toNat) &&& fget h .east EVT_SW_STATUS_EVENTS
    foldHead h ((List.range 32).filter (fun n => now.testBit n)) (fun h n =>
      { h with evq := h.evq ++ [⟨992 + n, if h.swWest.testBit n then .west else .east⟩] })
  | .pwr, 0x040 => onlyIf (w == .east) h (fun h => modeCmdEffect h src (bitsOf v 9 8))
  | .foy, 0x040 => portModeEffect h w p.inst
  | .foq, 0x040 => onlyIf (b 8) h (fun h => resumeEffect h w false)
  | .mft, 0x078 => mftCmdEffect h src w (bitsOf v 1 0)
  | .vit, 0x040 => onlyIf (b 9) (onlyIf (b 8) h (fun h => shrinkStart h w)) shrinkRestore
  | .vit, 0x068 => onlyIf (b 2) (onlyIf (b 1) h (fun h => adoptEffect h src w)) discardRetained
  | .anx, 0x040 =>
    let h := anxEnableEffect h w (was.getLsbD 0)
    onlyIf (b 4) (onlyIf (b 1) h (fun h => anxRetrainEffect h w)) (fun h => anxClrEffect h w)
  | .anx, 0x048 => onlyIf (w == .east) h (fun h => setSerialCounter h (serialCounter h))
  | .anx, 0x04C => onlyIf (w == .east) h (fun h => match bitsOf v 1 0 with
      | 1 => joinEffect h src
      | 2 => givebackEffect h src
      | 3 => leaveEffect h src
      | _ => config h p ⟨4, src, true, pageAddr p + 0x04C⟩)
  | .cat, 0x040 => onlyIf (b 8) h startCheckpoint
  | .cat, 0x064 => onlyIf (w == .east) h (fun h =>
      let n := pget h .east CAT_NS_SIZE_LO_SIZE CAT_NS_SIZE_HI_SIZE
      if n = 0 ∨ 2 ^ 41 < n then config (pset h .east CAT_NS_SIZE_LO_SIZE CAT_NS_SIZE_HI_SIZE 0) p ⟨4, src, true, pageAddr p + 0x064⟩
      else h)
  | .cat, 0x070 => onlyIf (w == .east) h (fun h => nsCmdEffect h src (bitsOf v 2 0))
  | .rgs, 0x040 => onlyIf (b 8) h (fun h => reindexEffect h w)
  | .dge, 0x050 | .cdc, 0x050 | .cph, 0x050 => unitCmdEffect h src p.block w (bitsOf v 1 0)
  | .gal, 0x040 => onlyIf (b 8) h (fun h => closeAll h w)
  | .gal, 0x05C => onlyIf (b 8 && w == .east) h (fun h => rebuildStartEffect h (bitsOf v 5 0))
  | .gal, 0x068 => onlyIf (b 9 && w == .east) (onlyIf (b 8 && w == .east) h (fun h =>
      reshapeStartEffect h src (fget h .east GAL_RESHAPE_TARGET_N))) reshapeAbortEffect
  | .plk, 0x040 =>
    let n := 32 * wingNum w + p.inst
    let h := plkEnableEffect h n (was.getLsbD 0)
    onlyIf (b 3) (onlyIf (b 1) h (fun h => plkRetrainEffect h n)) (fun h => plkReleaseEffect h n)
  | .cur, 0x040 => onlyIf (b 8) h (fun h => mountEffect h src)
  | .cur, 0x07C => onlyIf (w == .east) h (fun h => curPlinthEffect h src (bitsOf v 9 8) (bitsOf v 5 0))
  | .rpl, 0x054 => rplModeEffect h bank (bitsOf was 1 0)
  | .rpl, 0x068 => rplCmdEffect h src w v
  | .dma, 0x040 => haltEffect h w
  | .dma, 0x04C => dmaCmdEffect h src w (bitsOf v 1 0)
  | .cpu, 0x048 => coreCmdEffect h src w (bitsOf v 1 0)
  | .cpu, 0x074 | .cpu, 0x078 => cqRelease h w bank
  | .mem, 0x048 => chanCmdEffect h src w (bitsOf v 1 0) (bitsOf v 10 8)
  | .mem, 0x058 => onlyIf (b 16) h (fun h => migrateEffect h src w)
  | .hbm, 0x04C => onlyIf (b 0) h (fun h => pchFenceEffect h src w)
  | _, _ => h

/-- The same for the Docent window. -/
def docentAction (h : Head) (src : Nat) (p : Page) (off bank : Nat) (v was : Word) : Head :=
  let b (k : Nat) : Bool := v.getLsbD k
  match p.block, off with
  | .doc, 0x040 =>
    let h := onlyIf (b 0) h (fun h => releaseEffect h src .east)
    let h := onlyIf (b 1) h (fun h => releaseEffect h src .west)
    onlyIf (b 8) h (fun h => internalReset h .docent)
  | .doc, 0x04C => ringSystem h src (wingOf (bitsOf v 10 10)) (bitsOf v 9 0) (b 31)
  | .key, 0x040 => onlyIf (b 0) h eraseKeys
  | .key, 0x058 => keyCmdEffect h src (bitsOf v 2 0)
  | .key, 0x06C => bindCmdEffect h src (bitsOf v 1 0)
  | .msr, 0x044 => onlyIf (b 0) h (fun h => msrExtendEffect h src)
  | .msr, 0x0A8 => msrArmEffect h v.toNat
  | .msr, o =>
    if 0x078 ≤ o ∧ o ≤ 0x0A4 then { h with doc := { h.doc with msrInput := putWordAt h.doc.msrInput ((o - 0x078) / 4) v } } else h
  | .alm, 0x054 => onlyIf (b 0) h (fun h => alarm h 11)
  | .arc, 0x044 => arcNext h
  | .arc, 0x04C => arcRelease h
  | .arc, 0x064 => onlyIf (b 31) h (fun h => xoLockEffect h src)
  | .prv, 0x040 => onlyIf (b 8) h prvClearEffect
  | .prv, 0x080 => onlyIf (b 0) h recWriteEffect
  | .prv, o =>
    if 0x060 ≤ o ∧ o ≤ 0x07C then { h with arc := { h.arc with recPayload := putWordAt h.arc.recPayload ((o - 0x060) / 4) v } } else h
  | .upd, 0x040 => onlyIf (b 9) (onlyIf (b 8) h updWriteEffect) updAbortEffect
  | .upd, 0x058 => onlyIf (b 1) (onlyIf (b 0) h (fun h => updConfirmEffect h false)) (fun h => updConfirmEffect h true)
  | .wdg, 0x044 => onlyIf (b 31 && !(was.getLsbD 31)) h (fun h => wdgFeed h bank)
  | .wdg, 0x048 => wdgFeedEffect h (bitsOf v 2 0)
  | .rsv, 0x068 =>
    if b 0 then
      let (n, h) := fresh h
      rsvCommitEffect h (Config.freeNat n)
    else h
  | .rsv, 0x0A4 => onlyIf (b 27) h keyFreshEffect
  | .rsv, 0x0AC => onlyIf (b 30) h (fun h => healthStartEffect h src)
  | _, _ => h

/-- Registers whose whole write is one operation, which sets their fields itself. -/
def ownWrite (h : Head) (ini : Initiator) (p : Page) (off : Nat) (v : Word) : Option Head :=
  let w := p.wing
  let src := sourceCode ini
  match p.block, off with
  | .evt, 0x048 => some (routeEffect h ini w v)
  | .evt, 0x05C =>
    let k := regKey p 0x060 0
    let hi := (tabGet? h.hiHold k).getD (rd h p 0x060 (fget h w EVT_WG_INDEX_GROUP))
    some (membersEffect { h with hiHold := tabDel h.hiHold k } src w v hi)
  | .evt, 0x070 => some (wakeEffect h ini w v)
  | .pwr, 0x04C => some (coreRungEffect h src w (bitsOf v 2 0))
  | .foq, 0x05C => some (ctxBindEffect h src w v)
  | .foq, 0x068 => some (collEntryEffect h src w false v)
  | .foq, 0x06C => some (collEntryEffect h src w true v)
  | .cch, 0x040 => some (wayEnEffect h src w v)
  | .mem, 0x050 => some (segEntryEffect h src w v)
  | .rsv, 0x040 => some (onlyIf (v.getLsbD 8) (rsvModeEffect h src (bitsOf v 2 0)) clearFaultEffect)
  | .key, 0x064 => some { h with doc := { h.doc with stageId := v } }
  | .key, 0x068 => some { h with doc := { h.doc with stageSlots := v } }
  | _, _ => none

/-! ### Writes -/

/-- A word written to a register after the header, through both gates. -/
def pageWrite (h : Head) (ini : Initiator) (p : Page) (off : Nat) (v : Word) : Head :=
  let src := sourceCode ini
  match regDef? p.block off with
  | none => h
  | some r =>
    let bank := bankOf h p r
    if ignoredWhole h p off bank v then config h p ⟨11, src, true, pageAddr p + off⟩
    else match ownWrite h ini p off v with
      | some h => h
      | none =>
        let was := rd h p off bank
        let (v, codes) := cleanWord h p off bank v
        let h := writeReg h src p off v (mayChange h p off bank)
        let h := if r.share = .east ∧ p.wing = .west then h else writeCodes h p src (pageAddr p + off) codes
        if r.half = .hi then h
        else if isDocent p.block then docentAction h src p off bank v was
        else arrayAction h src p off bank v was

/-- A word written to a register of a page's header. -/
def headerWrite (h : Head) (ini : Initiator) (p : Page) (off : Nat) (v : Word) : Head :=
  let src := sourceCode ini
  match off with
  | 0x008 => ctrlEffect h src p v
  | 0x010 => statusClear h p v 0
  | 0x014 => enableEffect h p v
  | 0x018 => forceEffect h p v
  | 0x020 => onlyIf (v.getLsbD 31) h (fun h => errClear h p)
  | 0x030 => rungEffect h src p (bitsOf v 2 0)
  | 0x03C => onlyIf (v.getLsbD 0) h (fun h => goEffect h p)
  | _ => writeReg h src p off v false

/-- A write of one aligned word at an address. -/
def writeAccess (h : Head) (ini : Initiator) (addr : Nat) (v : Word) : Head :=
  match gateAccess h ini addr 4 true with
  | .stop h => h
  | .pass _ p off h => match gateWrite h ini p off with
    | .stop h => h
    | .pass _ _ _ h => if off < 0x40 then headerWrite h ini p off v else pageWrite h ini p off v

/-- A write of a header register of a page, with an effect on the page that the address decodes to. -/
def withHeader (h : Head) (ini : Initiator) (p : Page) (off : Nat) (f : Head → Page → Head) : Head :=
  match gateAccess h ini (pageAddr p + off) 4 true with
  | .stop h => h
  | .pass _ p off h => match gateWrite h ini p off with
    | .stop h => h
    | .pass _ _ _ h => f h p

/-! ### The rows -/

/-- REGISTER_WRITE (R8). -/
def registerWrite (h : Head) (ini : Initiator) (addr : Nat) (v : Word) : Head := writeAccess h ini addr v

/-- PAIR_HI_WRITE (R7): held until the LO half is written. -/
def pairHiWrite (h : Head) (ini : Initiator) (addr : Nat) (v : Word) : Head := writeAccess h ini addr v

/-- An access that a gate stops (R6, R52); one that passes is another row's. -/
def stoppedAccess (h : Head) (ini : Initiator) (addr size : Nat) (write : Bool) : Head :=
  match gateAccess h ini addr size write with
  | .stop h => h
  | .pass _ _ _ _ => h

/-- ERR_INFO_CLEAR (R60). -/
def errInfoClear (h : Head) (ini : Initiator) (p : Page) : Head := withHeader h ini p 0x020 errClear

/-- COMMIT_GO (R57). -/
def commitGo (h : Head) (ini : Initiator) (p : Page) : Head := withHeader h ini p 0x03C goEffect

/-- BLOCK_RESET (R55). -/
def blockResetCmd (h : Head) (ini : Initiator) (p : Page) : Head :=
  withHeader h ini p 0x008 (fun h p => resetEffect h (sourceCode ini) p (hget h p STATUS_QUIESCED == 1))

/-- QUIESCE_REQUEST (R54). -/
def quiesceRequest (h : Head) (ini : Initiator) (p : Page) (enable quiesce : Bool) : Head :=
  withHeader h ini p 0x008 (fun h p => runEffect h p enable quiesce)

/-- BLOCK_ENABLE (R54). -/
def blockEnable (h : Head) (ini : Initiator) (p : Page) : Head := withHeader h ini p 0x008 (fun h p => runEffect h p true false)

/-- INSTANCE_FENCE (R513). -/
def instanceFence (h : Head) (ini : Initiator) (p : Page) : Head :=
  withHeader h ini p 0x008 (fun h p => fenceEffect h (sourceCode ini) p (hget h p STATUS_QUIESCED == 1))

/-- INSTANCE_UNFENCE (R513). -/
def instanceUnfence (h : Head) (ini : Initiator) (p : Page) : Head := withHeader h ini p 0x008 unfenceEffect

/-- EVT_STATUS_CLEAR (R70). -/
def evtStatusClear (h : Head) (ini : Initiator) (p : Page) (mask again : Word) : Head :=
  withHeader h ini p 0x010 (fun h p => statusClear h p mask again)

/-- EVT_ENABLE_WRITE (R70). -/
def evtEnableWrite (h : Head) (ini : Initiator) (p : Page) (v : Word) : Head := withHeader h ini p 0x014 (fun h p => enableEffect h p v)

/-- EVT_FORCE (R53). -/
def evtForce (h : Head) (ini : Initiator) (p : Page) (mask : Word) : Head := withHeader h ini p 0x018 (fun h p => forceEffect h p mask)

end Sys2Proof.Machine
end

