-- ==== Sys2Proof/Machine/PagesCommands.lean ====
section
/-! DEFINITION. The meanings of the commands whose effects stand in Machine/Pages.lean. -/

namespace Sys2Proof.Machine

/-- The meaning of REGISTER_WRITE (R8). -/
def execRegisterWrite (ini : Initiator) (addr : Nat) (value : Word) (s : State) : Host.Outcome State Fault Refusal :=
  lift (fun h => registerWrite h ini addr value) s

/-- The meaning of PARTIAL_ACCESS (R6). -/
def execPartialAccess (ini : Initiator) (addr : Nat) (size : Nat) (write : Bool) (s : State) : Host.Outcome State Fault Refusal :=
  lift (fun h => stoppedAccess h ini addr size write) s

/-- The meaning of PAIR_LO_READ (R7). -/
def execPairLoRead (ini : Initiator) (addr : Nat) (s : State) : Host.Outcome State Fault Refusal :=
  lift (fun h => readAccess h ini addr) s

/-- The meaning of PAIR_HI_WRITE (R7). -/
def execPairHiWrite (ini : Initiator) (addr : Nat) (value : Word) (s : State) : Host.Outcome State Fault Refusal :=
  lift (fun h => pairHiWrite h ini addr value) s

/-- The meaning of UNDECODED_ACCESS (R52). -/
def execUndecodedAccess (ini : Initiator) (addr : Nat) (write : Bool) (s : State) : Host.Outcome State Fault Refusal :=
  lift (fun h => stoppedAccess h ini addr 4 write) s

/-- The meaning of FIREWALL_ACCESS (R52). -/
def execFirewallAccess (ini : Initiator) (addr : Nat) (write : Bool) (s : State) : Host.Outcome State Fault Refusal :=
  lift (fun h => stoppedAccess h ini addr 4 write) s

/-- The meaning of ERR_INFO_CLEAR (R60). -/
def execErrInfoClear (ini : Initiator) (page : Page) (s : State) : Host.Outcome State Fault Refusal :=
  lift (fun h => errInfoClear h ini page) s

/-- The meaning of COMMIT_GO (R57). -/
def execCommitGo (ini : Initiator) (page : Page) (s : State) : Host.Outcome State Fault Refusal :=
  lift (fun h => commitGo h ini page) s

/-- The meaning of BLOCK_RESET (R55). -/
def execBlockReset (ini : Initiator) (page : Page) (s : State) : Host.Outcome State Fault Refusal :=
  lift (fun h => blockResetCmd h ini page) s

/-- The meaning of QUIESCE_REQUEST (R54). -/
def execQuiesceRequest (ini : Initiator) (page : Page) (enable : Bool) (quiesce : Bool) (s : State) : Host.Outcome State Fault Refusal :=
  lift (fun h => quiesceRequest h ini page enable quiesce) s

/-- The meaning of QUIESCE_DONE (R54). -/
def execQuiesceDone (page : Page) (s : State) : Host.Outcome State Fault Refusal := lift (fun h => quiesceDone h page) s

/-- The meaning of BLOCK_ENABLE (R54). -/
def execBlockEnable (ini : Initiator) (page : Page) (s : State) : Host.Outcome State Fault Refusal :=
  lift (fun h => blockEnable h ini page) s

/-- The meaning of INSTANCE_FENCE (R513). -/
def execInstanceFence (ini : Initiator) (page : Page) (s : State) : Host.Outcome State Fault Refusal :=
  lift (fun h => instanceFence h ini page) s

/-- The meaning of INSTANCE_UNFENCE (R513). -/
def execInstanceUnfence (ini : Initiator) (page : Page) (s : State) : Host.Outcome State Fault Refusal :=
  lift (fun h => instanceUnfence h ini page) s

/-- The meaning of BLOCK_FAULT (R56). -/
def execBlockFault (page : Page) (tags : List Nat) (s : State) : Host.Outcome State Fault Refusal :=
  lift (fun h => blockFault h page tags) s

/-- The meaning of EVT_STATUS_CLEAR (R70). -/
def execEvtStatusClear (ini : Initiator) (page : Page) (mask : Word) (again : Word) (s : State) : Host.Outcome State Fault Refusal :=
  lift (fun h => evtStatusClear h ini page mask again) s

/-- The meaning of EVT_ENABLE_WRITE (R70). -/
def execEvtEnableWrite (ini : Initiator) (page : Page) (value : Word) (s : State) : Host.Outcome State Fault Refusal :=
  lift (fun h => evtEnableWrite h ini page value) s

/-- The meaning of EVT_FORCE (R53). -/
def execEvtForce (ini : Initiator) (page : Page) (mask : Word) (s : State) : Host.Outcome State Fault Refusal :=
  lift (fun h => evtForce h ini page mask) s

end Sys2Proof.Machine
end

