-- ==== Sys2Proof/Machine/PlkLinkCommands.lean ====
section
/-! DEFINITION. The meanings of the commands whose effects stand in Machine/PlkLink.lean. -/

namespace Sys2Proof.Machine

/-- The meaning of PLINTH_PRESENT (R298). -/
def execPlinthPresent (plinth : Nat) (s : State) : Host.Outcome State Fault Refusal :=
  lift (fun h => plinthPresent h (plinth % 64)) s

/-- The meaning of PLINTH_REMOVED (R299). -/
def execPlinthRemoved (plinth : Nat) (s : State) : Host.Outcome State Fault Refusal :=
  lift (fun h => plinthRemoved h (plinth % 64)) s

/-- The meaning of PLK_TRAINED (R298). -/
def execPlkTrained (plinth : Nat) (lanes : Nat) (delay : Nat) (port : Nat) (expected : Nat) (s : State) : Host.Outcome State Fault Refusal :=
  lift (fun h => plkTrained h (plinth % 64) lanes delay port expected) s

/-- The meaning of PLK_RELEASE (R299). -/
def execPlkRelease (ini : Initiator) (plinth : Nat) (s : State) : Host.Outcome State Fault Refusal :=
  lift (fun h => plkCtrlCmd h ini (plinth % 64) plkReleaseEffect) s

/-- The meaning of PLK_RELEASED (R299). -/
def execPlkReleased (plinth : Nat) (s : State) : Host.Outcome State Fault Refusal :=
  lift (fun h => plkReleased h (plinth % 64)) s

/-- The meaning of PLK_COMPLETION (R291). -/
def execPlkCompletion (plinth : Nat) (done : PlkDone) (ns : Nat) (s : State) : Host.Outcome State Fault Refusal :=
  lift (fun h => plkCompletion h (plinth % 64) done ns) s

/-- The meaning of PLK_TIMEOUT (R292). -/
def execPlkTimeout (plinth : Nat) (slot : Nat) (s : State) : Host.Outcome State Fault Refusal :=
  lift (fun h => plkTimeout h (plinth % 64) slot) s

/-- The meaning of PLK_ALERT (R296). -/
def execPlkAlert (plinth : Nat) (code : Nat) (detail : Nat) (s : State) : Host.Outcome State Fault Refusal :=
  lift (fun h => plkAlert h (plinth % 64) code detail) s

/-- The meaning of PLK_FLIT (R278). -/
def execPlkFlit (plinth : Nat) (good : Bool) (ftype : Nat) (vc : Nat) (mtype : Nat) (lseq : Nat) (acktype : Nat) (ackseq : Nat) (credits : List Nat) (s : State) : Host.Outcome State Fault Refusal :=
  lift (fun h => plkFlit h (plinth % 64) good ftype vc mtype lseq acktype ackseq credits) s

/-- The meaning of PLK_REPLAY_TIMER (R278). -/
def execPlkReplayTimer (plinth : Nat) (s : State) : Host.Outcome State Fault Refusal :=
  lift (fun h => plkReplayTimer h (plinth % 64)) s

/-- The meaning of PLK_RETRAIN_TIMEOUT (R278). -/
def execPlkRetrainTimeout (plinth : Nat) (s : State) : Host.Outcome State Fault Refusal :=
  lift (fun h => plkRetrainTimeout h (plinth % 64)) s

/-- The meaning of PLK_RETRAIN_CMD (R303). -/
def execPlkRetrainCmd (ini : Initiator) (plinth : Nat) (s : State) : Host.Outcome State Fault Refusal :=
  lift (fun h => plkCtrlCmd h ini (plinth % 64) plkRetrainEffect) s

end Sys2Proof.Machine
end

