-- ==== Sys2Proof/Machine/PowerCommands.lean ====
section
/-! DEFINITION. The meanings of the commands whose effects stand in Machine/Power.lean. -/

namespace Sys2Proof.Machine

/-- The meaning of RUNG_REQUEST (R467). -/
def execRungRequest (ini : Initiator) (page : Page) (value : Nat) (s : State) : Host.Outcome State Fault Refusal :=
  lift (fun h => rungRequest h ini page value) s

/-- The meaning of RUNG_EXIT_DONE (R470). -/
def execRungExitDone (island : Island) (s : State) : Host.Outcome State Fault Refusal :=
  lift (fun h => rungExitDone h island) s

/-- The meaning of SIGNAL_DETECT (R470). -/
def execSignalDetect (wing : Wing) (port : Nat) (s : State) : Host.Outcome State Fault Refusal :=
  lift (fun h => signalDetect h wing port) s

/-- The meaning of UNIT_IDLE_GATE (R468). -/
def execUnitIdleGate (cls : Block) (wing : Wing) (unit : Nat) (s : State) : Host.Outcome State Fault Refusal :=
  lift (fun h => unitIdle h cls wing unit false) s

/-- The meaning of UNIT_IDLE_RETAIN (R468). -/
def execUnitIdleRetain (cls : Block) (wing : Wing) (unit : Nat) (s : State) : Host.Outcome State Fault Refusal :=
  lift (fun h => unitIdle h cls wing unit true) s

/-- The meaning of CORE_RUNG_REQUEST (R469). -/
def execCoreRungRequest (ini : Initiator) (wing : Wing) (value : Nat) (s : State) : Host.Outcome State Fault Refusal :=
  lift (fun h => coreRungRequest h ini wing value) s

/-- The meaning of SERVE (R473). -/
def execPwrServe (ini : Initiator) (s : State) : Host.Outcome State Fault Refusal := lift (fun h => modeCmd h ini 1) s

/-- The meaning of STANDBY (R473). -/
def execPwrStandby (ini : Initiator) (s : State) : Host.Outcome State Fault Refusal := lift (fun h => modeCmd h ini 2) s

/-- The meaning of SERVE_DONE (R473). -/
def execServeDone (s : State) : Host.Outcome State Fault Refusal := lift serveDone s

/-- The meaning of DROOP (R474). -/
def execPwrDroop (wing : Wing) (detector : Nat) (s : State) : Host.Outcome State Fault Refusal :=
  lift (fun h => droop h wing detector) s

/-- The meaning of SAG (R475). -/
def execPwrSag (wing : Wing) (rail : Nat) (s : State) : Host.Outcome State Fault Refusal :=
  lift (fun h => sag h wing rail) s

/-- The meaning of AVS_WINDOW (R475). -/
def execAvsWindow (wing : Wing) (rail : Nat) (s : State) : Host.Outcome State Fault Refusal :=
  lift (fun h => avsWindow h wing rail) s

/-- The meaning of DROOP_RECOVER (R476). -/
def execDroopRecover (wing : Wing) (rail : Nat) (s : State) : Host.Outcome State Fault Refusal :=
  lift (fun h => droopRecover h wing rail) s

/-- The meaning of TEMP_SAMPLE (R478). -/
def execTempSample (wing : Wing) (die : Int) (hbm : Int) (sensor : Nat) (s : State) : Host.Outcome State Fault Refusal :=
  lift (fun h => tempSample h wing die hbm sensor) s

/-- The meaning of THERMAL_THROTTLE_STEP (R479). -/
def execThermalThrottleStep (wing : Wing) (s : State) : Host.Outcome State Fault Refusal :=
  lift (fun h => throttleStep h wing) s

/-- The meaning of RUNG_ENTRY_DONE (R471). -/
def execRungEntryDone (island : Island) (s : State) : Host.Outcome State Fault Refusal :=
  lift (fun h => rungEntryDone h island) s

/-- The meaning of STANDBY_DONE (R473). -/
def execStandbyDone (s : State) : Host.Outcome State Fault Refusal := lift standbyDone s

/-- The meaning of DROOP_END (R474). -/
def execDroopEnd (wing : Wing) (detector : Nat) (corePpm : Nat) (engMeshPpm : Nat) (s : State) : Host.Outcome State Fault Refusal :=
  lift (fun h => droopEnd h wing detector corePpm engMeshPpm) s

end Sys2Proof.Machine
end

