-- ==== Sys2Proof/Machine/RailsCommands.lean ====
section
/-! DEFINITION. The meanings of the commands whose effects stand in Machine/Rails.lean. -/

namespace Sys2Proof.Machine

/-- The meaning of POWER_ON (R528). -/
def execPowerOn (s : State) : Host.Outcome State Fault Refusal := liftAny powerOn s

/-- The meaning of RESET_RELEASE (R528). -/
def execResetRelease (s : State) : Host.Outcome State Fault Refusal := liftAny resetRelease s

/-- The meaning of RESET_ASSERT (R529). -/
def execResetAssert (stayed : Bool) (s : State) : Host.Outcome State Fault Refusal :=
  liftAny (fun h => resetAssert h stayed) s

/-- The meaning of RAIL_BROWN_OUT (R529). -/
def execRailBrownOut (stayed : Bool) (s : State) : Host.Outcome State Fault Refusal :=
  liftAny (fun h => railBrownOut h stayed) s

/-- The meaning of RAILS_REMOVED (R530). -/
def execRailsRemoved (s : State) : Host.Outcome State Fault Refusal := liftAny railsRemoved s

/-- The meaning of CRYSTAL_STABLE (R528). -/
def execCrystalStable (s : State) : Host.Outcome State Fault Refusal := liftAny crystalStable s

end Sys2Proof.Machine
end

