-- ==== Sys2Proof/Machine/RegistrarCommands.lean ====
section
/-! DEFINITION. The meanings of the commands whose effects stand in Machine/Registrar.lean. -/

namespace Sys2Proof.Machine

/-- The meaning of ACCESSION_BATCH (R203). -/
def execAccessionBatch (wing : Wing) (s : State) : Host.Outcome State Fault Refusal :=
  lift (fun h => accessionBatch h wing) s

/-- The meaning of COMPARE_READ_DONE (R205). -/
def execCompareReadDone (wing : Wing) (wseq : Nat) (status : Status) (same : Bool) (faulty : Bool) (s : State) : Host.Outcome State Fault Refusal :=
  lift (fun h => compareReadDone h wing wseq status same faulty) s

/-- The meaning of REINDEX (R201). -/
def execRgsReindex (ini : Initiator) (wing : Wing) (s : State) : Host.Outcome State Fault Refusal :=
  lift (fun h => rgsReindex h ini wing) s

/-- The meaning of REPLAY_DONE (R192). -/
def execReplayDone (s : State) : Host.Outcome State Fault Refusal := lift replayDone s

end Sys2Proof.Machine
end

