-- ==== Sys2Proof/Machine/ReplicationCommands.lean ====
section
/-! DEFINITION. The meanings of the commands whose effects stand in Machine/Replication.lean. -/

namespace Sys2Proof.Machine

/-- The meaning of TAKEOVER (R173). -/
def execTakeover (micros : Nat) (s : State) : Host.Outcome State Fault Refusal := lift (fun h => takeoverRpl h micros) s

/-- The meaning of SHIP (R352). -/
def execRplShip (ini : Initiator) (wing : Wing) (lock : List (Option Nat)) (s : State) : Host.Outcome State Fault Refusal :=
  lift (fun h => rplCommand h ini wing (fun h c => shipCmd h c lock)) s

/-- The meaning of FREEZE_NUMBERED (R350). -/
def execFreezeNumbered (ini : Initiator) (wing : Wing) (original : Option Nat) (s : State) : Host.Outcome State Fault Refusal :=
  lift (fun h => rplCommand h ini wing (fun h c => freezeNumberedCmd h c original)) s

/-- The meaning of RESUME_SYNC (R349). -/
def execResumeSync (ini : Initiator) (wing : Wing) (lock : List (Option Nat)) (original : Option Nat) (s : State) : Host.Outcome State Fault Refusal :=
  lift (fun h => rplCommand h ini wing (fun h c => resumeSyncCmd h c lock original)) s

/-- The meaning of PROMOTE (R357). -/
def execRplPromote (ini : Initiator) (wing : Wing) (force : Bool) (lock : List (Option Nat)) (s : State) : Host.Outcome State Fault Refusal :=
  lift (fun h => rplCommand h ini wing (fun h c => promoteCmd h c force lock)) s

/-- The meaning of DEMOTE (R358). -/
def execRplDemote (ini : Initiator) (wing : Wing) (s : State) : Host.Outcome State Fault Refusal :=
  lift (fun h => rplCommand h ini wing demoteCmd) s

/-- The meaning of RPL_ABORT (R356). -/
def execRplAbort (ini : Initiator) (wing : Wing) (s : State) : Host.Outcome State Fault Refusal :=
  lift (fun h => rplCommand h ini wing abortCmd) s

/-- The meaning of SYNC_WRITE (R346). -/
def execSyncWrite (coll : Nat) (nsid : Nat) (rtag : Nat) (entries : List (Nat × Nat × Nat)) (s : State) : Host.Outcome State Fault Refusal :=
  lift (fun h => rplArrives h (coll % 4096) nsid rtag (.syncWrite entries)) s

/-- The meaning of BEGIN (R352). -/
def execRplBegin (coll : Nat) (rtag : Nat) (edition : Nat) (base : Nat) (s : State) : Host.Outcome State Fault Refusal :=
  lift (fun h => rplArrives h (coll % 4096) 0 rtag (.begin edition base)) s

/-- The meaning of OFFER (R353). -/
def execRplOffer (coll : Nat) (nsid : Nat) (rtag : Nat) (edition : Nat) (entries : List (Nat × Nat)) (s : State) : Host.Outcome State Fault Refusal :=
  lift (fun h => rplArrives h (coll % 4096) nsid rtag (.offer edition entries)) s

/-- The meaning of CASE (R354). -/
def execRplCase (coll : Nat) (nsid : Nat) (rtag : Nat) (edition : Nat) (entries : List (Nat × Nat × Nat)) (raw : Bool) (image : Nat) (s : State) : Host.Outcome State Fault Refusal :=
  lift (fun h => rplArrives h (coll % 4096) nsid rtag (.case edition entries raw image)) s

/-- The meaning of UNMAP (R343). -/
def execRplUnmap (coll : Nat) (nsid : Nat) (rtag : Nat) (runs : List (Nat × Nat × Nat)) (s : State) : Host.Outcome State Fault Refusal :=
  lift (fun h => rplArrives h (coll % 4096) nsid rtag (.unmap runs)) s

/-- The meaning of COMMIT (R355). -/
def execRplCommit (coll : Nat) (rtag : Nat) (edition : Nat) (base : Nat) (changed : Nat) (s : State) : Host.Outcome State Fault Refusal :=
  lift (fun h => rplArrives h (coll % 4096) 0 rtag (.commit edition base changed)) s

/-- The meaning of RPL_REPLY (R342). -/
def execRplReply (coll : Nat) (rtag : Nat) (status : Status) (have' : List Bool) (micros : Nat) (s : State) : Host.Outcome State Fault Refusal :=
  lift (fun h => rplReplyMsg h (coll % 4096) rtag status have' micros) s

/-- The meaning of SYNC_TIMEOUT (R347). -/
def execSyncTimeout (coll : Nat) (rtag : Nat) (s : State) : Host.Outcome State Fault Refusal :=
  lift (fun h => syncTimeout h (coll % 4096) rtag) s

/-- The meaning of ASYNC_TIMEOUT (R356). -/
def execAsyncTimeout (coll : Nat) (rtag : Nat) (s : State) : Host.Outcome State Fault Refusal :=
  lift (fun h => asyncTimeout h (coll % 4096) rtag) s

end Sys2Proof.Machine
end

