-- ==== Sys2Proof/Machine/ReservoirCommands.lean ====
section
/-! DEFINITION. The meanings of the commands whose effects stand in Machine/Reservoir.lean. -/

namespace Sys2Proof.Machine

/-- The meaning of RSV_SAMPLE (R489). -/
def execRsvSample (vbus : Option Nat) (vbank : Option Nat) (ia : Option Nat) (ib : Option Nat) (carrier : Nat) (s : State) : Host.Outcome State Fault Refusal :=
  lift (fun h => rsvSample h vbus vbank ia ib carrier) s

/-- The meaning of CARRIER_RELOAD (R487). -/
def execCarrierReload (phaseB : Bool) (clash : Bool) (s : State) : Host.Outcome State Fault Refusal :=
  lift (fun h => carrierReload h phaseB clash) s

/-- The meaning of CURRENT_TRIP (R486). -/
def execCurrentTrip (phaseB : Bool) (positive : Bool) (s : State) : Host.Outcome State Fault Refusal :=
  lift (fun h => currentTrip h phaseB positive) s

/-- The meaning of RSV_MODE_WRITE (R488). -/
def execRsvModeWrite (ini : Initiator) (mode : Nat) (s : State) : Host.Outcome State Fault Refusal :=
  lift (fun h => rsvModeWrite h ini mode) s

/-- The meaning of CLEAR_FAULT (R511). -/
def execClearFault (ini : Initiator) (s : State) : Host.Outcome State Fault Refusal :=
  lift (fun h => clearFault h ini) s

/-- The meaning of RSV_COMMIT_GO (R493). -/
def execRsvCommitGo (ini : Initiator) (carrier : Nat) (s : State) : Host.Outcome State Fault Refusal :=
  lift (fun h => rsvCommit h ini carrier) s

/-- The meaning of HEALTH_START (R508). -/
def execHealthStart (ini : Initiator) (s : State) : Host.Outcome State Fault Refusal :=
  lift (fun h => healthStart h ini) s

/-- The meaning of HEALTH_END (R508). -/
def execHealthEnd (s : State) : Host.Outcome State Fault Refusal := lift healthEnd s

/-- The meaning of LIMP_TIMEOUT (R495). -/
def execLimpTimeout (s : State) : Host.Outcome State Fault Refusal := lift limpTimeout s

/-- The meaning of ALLOWANCE_UPDATE (R507). -/
def execAllowanceUpdate (s : State) : Host.Outcome State Fault Refusal := lift allowance s

/-- The meaning of MAINS_LOST (R496). -/
def execMainsLost (s : State) : Host.Outcome State Fault Refusal := lift (fun h => mainsChange h false) s

/-- The meaning of MAINS_BACK (R496). -/
def execMainsBack (s : State) : Host.Outcome State Fault Refusal := lift (fun h => mainsChange h true) s

/-- The meaning of BUS_TRIP (R496). -/
def execBusTrip (s : State) : Host.Outcome State Fault Refusal := lift busTrip s

/-- The meaning of DUMP_DONE (R502). -/
def execDumpDone (s : State) : Host.Outcome State Fault Refusal := lift dumpDone s

/-- The meaning of KEY_FRESH_WRITE (R502). -/
def execKeyFreshWrite (ini : Initiator) (s : State) : Host.Outcome State Fault Refusal :=
  lift (fun h => keyFreshWrite h ini) s

end Sys2Proof.Machine
end

