-- ==== Sys2Proof/Machine/ResetCommands.lean ====
section
/-! DEFINITION. The meanings of the commands whose effects stand in Machine/Reset.lean. -/

namespace Sys2Proof.Machine

/-- The meaning of DOC_CHIP_RESET (R423). -/
def execDocChipReset (ini : Initiator) (s : State) : Host.Outcome State Fault Refusal :=
  lift (fun h => docChipReset h ini) s

/-- The meaning of ALARM_RESET (R419). -/
def execAlarmReset (s : State) : Host.Outcome State Fault Refusal := lift alarmReset s

/-- The meaning of TRIAL_EXPIRY (R453). -/
def execTrialExpiry (s : State) : Host.Outcome State Fault Refusal := lift trialExpiry s

/-- The meaning of RECOVERY_RUN (R455). -/
def execRecoveryRun (len : Nat) (s : State) : Host.Outcome State Fault Refusal := lift (fun h => recoveryRun h len) s

/-- The meaning of WDG_GRACE_EXPIRY (R457). -/
def execWdgGraceExpiry (s : State) : Host.Outcome State Fault Refusal := lift wdgGrace s

/-- The meaning of DUMP_RESTART (R504). -/
def execDumpRestart (s : State) : Host.Outcome State Fault Refusal := lift dumpRestart s

/-- The meaning of ANX_LANE_FAIL (R149). -/
def execAnxLaneFail (wing : Wing) (s : State) : Host.Outcome State Fault Refusal := lift (fun h => anxLaneFail h wing) s

/-- The meaning of PLK_LANE_FAIL (R276). -/
def execPlkLaneFail (plinth : Nat) (s : State) : Host.Outcome State Fault Refusal :=
  lift (fun h => plkLaneFail h (plinth % 64)) s

end Sys2Proof.Machine
end

