-- ==== Sys2Proof/Machine/RespondersCommands.lean ====
section
/-! DEFINITION. The meanings of the commands whose effects stand in Machine/Responders.lean. -/

namespace Sys2Proof.Machine

/-- The meaning of EVT_SW_RAISE (R73). -/
def execEvtSwRaise (ini : Initiator) (wing : Wing) (value : Word) (s : State) : Host.Outcome State Fault Refusal :=
  lift (fun h => swRaise h ini wing value) s

/-- The meaning of ROUTE_DATA_WRITE (R72). -/
def execRouteDataWrite (ini : Initiator) (wing : Wing) (value : Word) (s : State) : Host.Outcome State Fault Refusal :=
  lift (fun h => routeWrite h ini wing value) s

/-- The meaning of ROUTE_ERROR (R80). -/
def execRouteError (wing : Wing) (entry : Nat) (s : State) : Host.Outcome State Fault Refusal :=
  lift (fun h => routeError h wing (entry % 1024)) s

/-- The meaning of WG_STALL (R76). -/
def execWgStall (group : Nat) (s : State) : Host.Outcome State Fault Refusal := lift (fun h => wgStall h group) s

/-- The meaning of WG_WAKE (R76). -/
def execWgWake (ini : Initiator) (wing : Wing) (value : Word) (s : State) : Host.Outcome State Fault Refusal :=
  lift (fun h => wgWake h ini wing value) s

/-- The meaning of WG_MEMBERS_WRITE (R76). -/
def execWgMembersWrite (ini : Initiator) (wing : Wing) (lo : Word) (hi : Word) (s : State) : Host.Outcome State Fault Refusal :=
  lift (fun h => wgMembers h ini wing lo hi) s

/-- The meaning of QUOTA_SHRINK (R147). -/
def execQuotaShrink (wing : Wing) (s : State) : Host.Outcome State Fault Refusal := lift (fun h => shrinkStart h wing) s

/-- The meaning of FOYER_PAUSE (R102). -/
def execFoyerPause (wing : Wing) (s : State) : Host.Outcome State Fault Refusal := lift (fun h => foyerPause h wing) s

/-- The meaning of ACCESSION_HOLD (R73). -/
def execAccessionHold (wing : Wing) (s : State) : Host.Outcome State Fault Refusal :=
  lift (fun h => accessionHold h wing) s

end Sys2Proof.Machine
end

