-- ==== Sys2Proof/Machine/TickCommands.lean ====
section
/-! DEFINITION. The meanings of the commands whose effects stand in Machine/Tick.lean. -/

namespace Sys2Proof.Machine

/-- The meaning of FRAME_TICK (R30). -/
def execFrameTick (lateE : Option Nat) (lateW : Option Nat) (s : State) : Host.Outcome State Fault Refusal :=
  lift (fun h => frameTick h lateE lateW) s

end Sys2Proof.Machine
end

