-- ==== Sys2Proof/Machine/VitrineCommands.lean ====
section
/-! DEFINITION. The meanings of the commands whose effects stand in Machine/Vitrine.lean. -/

namespace Sys2Proof.Machine

/-- The meaning of GRANULE_PLACE (R144). -/
def execGranulePlace (wing : Wing) (tag : Nat) (idx : Nat) (s : State) : Host.Outcome State Fault Refusal :=
  lift (fun h => granulePlace h wing tag idx) s

/-- The meaning of MIRROR (R159). -/
def execAnxMirror (port : Wing) (mtag : Nat) (coll : Nat) (es : List MirrorEntry) (fused : List FusedRec) (s : State) : Host.Outcome State Fault Refusal :=
  lift (fun h => mirrorMsg h port mtag coll es fused) s

/-- The meaning of MIRROR_ACK (R159). -/
def execMirrorAck (mtag : Nat) (status : Status) (latency : Nat) (s : State) : Host.Outcome State Fault Refusal :=
  lift (fun h => mirrorAck h mtag status latency) s

/-- The meaning of MIRROR_RESEND (R159). -/
def execMirrorResend (mtag : Nat) (s : State) : Host.Outcome State Fault Refusal :=
  lift (fun h => mirrorResend h mtag) s

/-- The meaning of RESILVER (R175). -/
def execResilver (port : Wing) (mtag : Nat) (coll : Nat) (es : List MirrorEntry) (s : State) : Host.Outcome State Fault Refusal :=
  lift (fun h => mirrorMsg h port mtag coll es []) s

/-- The meaning of SHRINK_START (R147). -/
def execShrinkStart (ini : Initiator) (wing : Wing) (s : State) : Host.Outcome State Fault Refusal :=
  lift (fun h => shrinkStartCmd h ini wing) s

/-- The meaning of SHRINK_RESTORE (R147). -/
def execShrinkRestore (ini : Initiator) (wing : Wing) (s : State) : Host.Outcome State Fault Refusal :=
  lift (fun h => shrinkRestoreCmd h ini wing) s

/-- The meaning of OVER_QUOTA_LONG (R148). -/
def execOverQuotaLong (s : State) : Host.Outcome State Fault Refusal := lift overQuotaLong s

/-- The meaning of ADOPT (R177). -/
def execRetainAdopt (ini : Initiator) (wing : Wing) (s : State) : Host.Outcome State Fault Refusal :=
  lift (fun h => retainAdopt h ini wing) s

/-- The meaning of DISCARD (R177). -/
def execRetainDiscard (ini : Initiator) (wing : Wing) (s : State) : Host.Outcome State Fault Refusal :=
  lift (fun h => retainDiscard h ini wing) s

/-- The meaning of SLOT_ECC (R178). -/
def execSlotEcc (wing : Wing) (nsid : Nat) (granule : Nat) (wseq : Nat) (s : State) : Host.Outcome State Fault Refusal :=
  lift (fun h => slotEcc h wing nsid granule wseq) s

end Sys2Proof.Machine
end

