-- ==== Sys2Proof/Machine/Dispatch.lean ====
section
/-! DEFINITION. exec: one arm per command, each a direct call of that command's meaning. -/

namespace Sys2Proof.Machine

def exec (i : Instr) (s : State) : Host.Outcome State Fault Refusal :=
  match i with
  | .registerWrite ini addr value => Sys2Proof.Machine.execRegisterWrite ini addr value s
  | .partialAccess ini addr size write => Sys2Proof.Machine.execPartialAccess ini addr size write s
  | .pairLoRead ini addr => Sys2Proof.Machine.execPairLoRead ini addr s
  | .pairHiWrite ini addr value => Sys2Proof.Machine.execPairHiWrite ini addr value s
  | .undecodedAccess ini addr write => Sys2Proof.Machine.execUndecodedAccess ini addr write s
  | .firewallAccess ini addr write => Sys2Proof.Machine.execFirewallAccess ini addr write s
  | .errInfoClear ini page => Sys2Proof.Machine.execErrInfoClear ini page s
  | .commitGo ini page => Sys2Proof.Machine.execCommitGo ini page s
  | .blockReset ini page => Sys2Proof.Machine.execBlockReset ini page s
  | .quiesceRequest ini page enable quiesce => Sys2Proof.Machine.execQuiesceRequest ini page enable quiesce s
  | .quiesceDone page => Sys2Proof.Machine.execQuiesceDone page s
  | .blockEnable ini page => Sys2Proof.Machine.execBlockEnable ini page s
  | .instanceFence ini page => Sys2Proof.Machine.execInstanceFence ini page s
  | .instanceUnfence ini page => Sys2Proof.Machine.execInstanceUnfence ini page s
  | .blockFault page tags => Sys2Proof.Machine.execBlockFault page tags s
  | .evtStatusClear ini page mask again => Sys2Proof.Machine.execEvtStatusClear ini page mask again s
  | .evtEnableWrite ini page value => Sys2Proof.Machine.execEvtEnableWrite ini page value s
  | .evtForce ini page mask => Sys2Proof.Machine.execEvtForce ini page mask s
  | .evtSwRaise ini wing value => Sys2Proof.Machine.execEvtSwRaise ini wing value s
  | .routeDataWrite ini wing value => Sys2Proof.Machine.execRouteDataWrite ini wing value s
  | .routeError wing entry => Sys2Proof.Machine.execRouteError wing entry s
  | .wgStall group => Sys2Proof.Machine.execWgStall group s
  | .wgWake ini wing value => Sys2Proof.Machine.execWgWake ini wing value s
  | .wgMembersWrite ini wing lo hi => Sys2Proof.Machine.execWgMembersWrite ini wing lo hi s
  | .keyErase => Sys2Proof.Machine.execKeyErase s
  | .quotaShrink wing => Sys2Proof.Machine.execQuotaShrink wing s
  | .foyerPause wing => Sys2Proof.Machine.execFoyerPause wing s
  | .accessionHold wing => Sys2Proof.Machine.execAccessionHold wing s
  | .frameTick lateE lateW => Sys2Proof.Machine.execFrameTick lateE lateW s
  | .slotBoundary => Sys2Proof.Machine.execSlotBoundary s
  | .scheduleDeadline wing => Sys2Proof.Machine.execScheduleDeadline wing s
  | .tickMarker port payload flagged arrival => Sys2Proof.Machine.execTickMarker port payload flagged arrival s
  | .missedTick => Sys2Proof.Machine.execMissedTick s
  | .lengthSetChange ini wing => Sys2Proof.Machine.execLengthSetChange ini wing s
  | .lengthChanged => Sys2Proof.Machine.execLengthChanged s
  | .ptpOffsetWrite ini value => Sys2Proof.Machine.execPtpOffsetWrite ini value s
  | .clrCounts ini wing => Sys2Proof.Machine.execClrCounts ini wing s
  | .foyLinkChange wing port link up => Sys2Proof.Machine.execFoyLinkChange wing port link up s
  | .fecDegraded wing port link => Sys2Proof.Machine.execFecDegraded wing port link s
  | .pauseFrame wing port prio on => Sys2Proof.Machine.execPauseFrame wing port prio on s
  | .pfcStorm wing port prio => Sys2Proof.Machine.execPfcStorm wing port prio s
  | .pfcStormEnd wing port prio => Sys2Proof.Machine.execPfcStormEnd wing port prio s
  | .ceMarkedPacket wing port ctx => Sys2Proof.Machine.execCeMarkedPacket wing port ctx s
  | .cnpReceived wing port ctx => Sys2Proof.Machine.execCnpReceived wing port ctx s
  | .rateRecover wing port ctx => Sys2Proof.Machine.execRateRecover wing port ctx s
  | .ptpEventMessage wing port time => Sys2Proof.Machine.execPtpEventMessage wing port time s
  | .connectionRequest wing port type pmtu => Sys2Proof.Machine.execConnectionRequest wing port type pmtu s
  | .authComplete wing ctx good kind => Sys2Proof.Machine.execAuthComplete wing ctx good kind s
  | .ctxBindWrite ini wing value => Sys2Proof.Machine.execCtxBindWrite ini wing value s
  | .collEntryWrite ini wing burst value => Sys2Proof.Machine.execCollEntryWrite ini wing burst value s
  | .commandCapsule cap => Sys2Proof.Machine.execCommandCapsule cap s
  | .keepAlive cap => Sys2Proof.Machine.execKeepAlive cap s
  | .commandAdmit wing ctx queue cid data pi => Sys2Proof.Machine.execCommandAdmit wing ctx queue cid data pi s
  | .boundLong wing => Sys2Proof.Machine.execBoundLong wing s
  | .foqResume ini wing again => Sys2Proof.Machine.execFoqResume ini wing again s
  | .fusedRecordAck host nsid slba cid => Sys2Proof.Machine.execFusedRecordAck host nsid slba cid s
  | .fusedHoldExpiry host nsid slba cid => Sys2Proof.Machine.execFusedHoldExpiry host nsid slba cid s
  | .hostCompletion wing fin => Sys2Proof.Machine.execHostCompletion wing fin s
  | .mftDescWrite wing src => Sys2Proof.Machine.execMftDescWrite wing src s
  | .mftDescRead wing src => Sys2Proof.Machine.execMftDescRead wing src s
  | .mftDescSend wing src => Sys2Proof.Machine.execMftDescSend wing src s
  | .mftDescAtomicAdd wing src => Sys2Proof.Machine.execMftDescAtomicAdd wing src s
  | .mftDescAtomicCas wing src => Sys2Proof.Machine.execMftDescAtomicCas wing src s
  | .postRecv wing src => Sys2Proof.Machine.execPostRecv wing src s
  | .mftWritePacket wing p => Sys2Proof.Machine.execMftWritePacket wing p s
  | .mftReadPacket wing p => Sys2Proof.Machine.execMftReadPacket wing p s
  | .readResp wing p => Sys2Proof.Machine.execReadResp wing p s
  | .mftSendPacket wing p => Sys2Proof.Machine.execMftSendPacket wing p s
  | .mftAtomicAddPacket wing p => Sys2Proof.Machine.execMftAtomicAddPacket wing p s
  | .mftAtomicCasPacket wing p => Sys2Proof.Machine.execMftAtomicCasPacket wing p s
  | .atomicResp wing p => Sys2Proof.Machine.execAtomicResp wing p s
  | .mftAck wing p time => Sys2Proof.Machine.execMftAck wing p time s
  | .mftNak wing p time => Sys2Proof.Machine.execMftNak wing p time s
  | .ackDelay wing ctx => Sys2Proof.Machine.execAckDelay wing ctx s
  | .rtoExpiry wing ctx psn => Sys2Proof.Machine.execRtoExpiry wing ctx psn s
  | .rnrDelay wing ctx psn => Sys2Proof.Machine.execRnrDelay wing ctx psn s
  | .mftOpen ini wing => Sys2Proof.Machine.execMftOpen ini wing s
  | .mftClose ini wing => Sys2Proof.Machine.execMftClose ini wing s
  | .closeDone wing ctx => Sys2Proof.Machine.execCloseDone wing ctx s
  | .granulePlace wing tag idx => Sys2Proof.Machine.execGranulePlace wing tag idx s
  | .anxMirror port mtag coll es fused => Sys2Proof.Machine.execAnxMirror port mtag coll es fused s
  | .mirrorAck mtag status latency => Sys2Proof.Machine.execMirrorAck mtag status latency s
  | .mirrorResend mtag => Sys2Proof.Machine.execMirrorResend mtag s
  | .catUpdate port mtag coll es => Sys2Proof.Machine.execCatUpdate port mtag coll es s
  | .catAck mtag status => Sys2Proof.Machine.execCatAck mtag status s
  | .anxForward port mtag coll cap data => Sys2Proof.Machine.execAnxForward port mtag coll cap data s
  | .forwardResp mtag sct sc dnr wseqs data => Sys2Proof.Machine.execForwardResp mtag sct sc dnr wseqs data s
  | .heartbeat state prefer epoch => Sys2Proof.Machine.execHeartbeat state prefer epoch s
  | .heartbeatSend => Sys2Proof.Machine.execHeartbeatSend s
  | .heartbeatLoss => Sys2Proof.Machine.execHeartbeatLoss s
  | .ownership port mtag coll give nsids => Sys2Proof.Machine.execOwnership port mtag coll give nsids s
  | .ownershipAck mtag status => Sys2Proof.Machine.execOwnershipAck mtag status s
  | .resilver port mtag coll es => Sys2Proof.Machine.execResilver port mtag coll es s
  | .anxFlit wing good ftype vc lseq acktype ackseq credits mtype => Sys2Proof.Machine.execAnxFlit wing good ftype vc lseq acktype ackseq credits mtype s
  | .anxReplayTimer wing => Sys2Proof.Machine.execAnxReplayTimer wing s
  | .anxRetrainTimeout wing => Sys2Proof.Machine.execAnxRetrainTimeout wing s
  | .anxTrained wing delay lanes expected => Sys2Proof.Machine.execAnxTrained wing delay lanes expected s
  | .anxTrainTimeout wing => Sys2Proof.Machine.execAnxTrainTimeout wing s
  | .anxRetrainCmd ini wing => Sys2Proof.Machine.execAnxRetrainCmd ini wing s
  | .anxClrStats ini wing => Sys2Proof.Machine.execAnxClrStats ini wing s
  | .leaseRenew => Sys2Proof.Machine.execLeaseRenew s
  | .leaseLapse => Sys2Proof.Machine.execLeaseLapse s
  | .witnessPoll => Sys2Proof.Machine.execWitnessPoll s
  | .takeover micros => Sys2Proof.Machine.execTakeover micros s
  | .isolateTimeout => Sys2Proof.Machine.execIsolateTimeout s
  | .pairJoin ini wing => Sys2Proof.Machine.execPairJoin ini wing s
  | .resilverDone => Sys2Proof.Machine.execResilverDone s
  | .giveback ini wing => Sys2Proof.Machine.execGiveback ini wing s
  | .givebackBatch => Sys2Proof.Machine.execGivebackBatch s
  | .pairLeave ini wing => Sys2Proof.Machine.execPairLeave ini wing s
  | .shrinkStart ini wing => Sys2Proof.Machine.execShrinkStart ini wing s
  | .shrinkRestore ini wing => Sys2Proof.Machine.execShrinkRestore ini wing s
  | .overQuotaLong => Sys2Proof.Machine.execOverQuotaLong s
  | .retainAdopt ini wing => Sys2Proof.Machine.execRetainAdopt ini wing s
  | .retainDiscard ini wing => Sys2Proof.Machine.execRetainDiscard ini wing s
  | .slotEcc wing nsid granule wseq => Sys2Proof.Machine.execSlotEcc wing nsid granule wseq s
  | .nsCreate ini wing => Sys2Proof.Machine.execNsCreate ini wing s
  | .nsDelete ini wing => Sys2Proof.Machine.execNsDelete ini wing s
  | .nsResize ini wing => Sys2Proof.Machine.execNsResize ini wing s
  | .nsFreeze ini wing => Sys2Proof.Machine.execNsFreeze ini wing s
  | .editionDelete ini wing => Sys2Proof.Machine.execEditionDelete ini wing s
  | .nsExpose ini wing => Sys2Proof.Machine.execNsExpose ini wing s
  | .nsUnexpose ini wing => Sys2Proof.Machine.execNsUnexpose ini wing s
  | .ckptNow ini wing => Sys2Proof.Machine.execCkptNow ini wing s
  | .ckptInterval => Sys2Proof.Machine.execCkptInterval s
  | .ckptDone loc ms => Sys2Proof.Machine.execCkptDone loc ms s
  | .pageIn nsid leaf sealOk rebuiltOk => Sys2Proof.Machine.execPageIn nsid leaf sealOk rebuiltOk s
  | .wayEnWrite ini wing value => Sys2Proof.Machine.execWayEnWrite ini wing value s
  | .wayCleanDone wing way micros => Sys2Proof.Machine.execWayCleanDone wing way micros s
  | .wayEccFence wing way errors => Sys2Proof.Machine.execWayEccFence wing way errors s
  | .lineEcc wing set way => Sys2Proof.Machine.execLineEcc wing set way s
  | .accessionBatch wing => Sys2Proof.Machine.execAccessionBatch wing s
  | .compareReadDone wing wseq status same faulty => Sys2Proof.Machine.execCompareReadDone wing wseq status same faulty s
  | .rgsReindex ini wing => Sys2Proof.Machine.execRgsReindex ini wing s
  | .replayDone => Sys2Proof.Machine.execReplayDone s
  | .unitFailed cls wing unit cause => Sys2Proof.Machine.execUnitFailed cls wing unit cause s
  | .unitFence ini cls wing => Sys2Proof.Machine.execUnitFence ini cls wing s
  | .unitUnfence ini cls wing => Sys2Proof.Machine.execUnitUnfence ini cls wing s
  | .unitDrained cls wing unit => Sys2Proof.Machine.execUnitDrained cls wing unit s
  | .dgeHash wing src => Sys2Proof.Machine.execDgeHash wing src s
  | .dgeHmac wing src => Sys2Proof.Machine.execDgeHmac wing src s
  | .dgeCompare wing src faulty => Sys2Proof.Machine.execDgeCompare wing src faulty s
  | .hmacVerify wing src faulty => Sys2Proof.Machine.execHmacVerify wing src faulty s
  | .stateSave wing src => Sys2Proof.Machine.execStateSave wing src s
  | .stateRestore wing src => Sys2Proof.Machine.execStateRestore wing src s
  | .hkdfToSlot wing src => Sys2Proof.Machine.execHkdfToSlot wing src s
  | .cdcAppend wing src => Sys2Proof.Machine.execCdcAppend wing src s
  | .cdcFlush wing src => Sys2Proof.Machine.execCdcFlush wing src s
  | .cdcExpand wing src => Sys2Proof.Machine.execCdcExpand wing src s
  | .bufCompress wing src => Sys2Proof.Machine.execBufCompress wing src s
  | .bufExpand wing src => Sys2Proof.Machine.execBufExpand wing src s
  | .streamFlushTimeout wing stream => Sys2Proof.Machine.execStreamFlushTimeout wing stream s
  | .caseCompressed wing stream => Sys2Proof.Machine.execCaseCompressed wing stream s
  | .xtsEnc wing src => Sys2Proof.Machine.execXtsEnc wing src s
  | .xtsDec wing src => Sys2Proof.Machine.execXtsDec wing src s
  | .xtsRecrypt wing src => Sys2Proof.Machine.execXtsRecrypt wing src s
  | .gcmEnc wing src => Sys2Proof.Machine.execGcmEnc wing src s
  | .gcmDec wing src => Sys2Proof.Machine.execGcmDec wing src s
  | .cphCmac wing src => Sys2Proof.Machine.execCphCmac wing src s
  | .cmacVerify wing src faulty => Sys2Proof.Machine.execCmacVerify wing src faulty s
  | .ctxSave wing src => Sys2Proof.Machine.execCtxSave wing src s
  | .ctxRestore wing src => Sys2Proof.Machine.execCtxRestore wing src s
  | .keyWrap wing src => Sys2Proof.Machine.execKeyWrap wing src s
  | .keyUnwrap wing src => Sys2Proof.Machine.execKeyUnwrap wing src s
  | .engineCompletion cls wing tag nth => Sys2Proof.Machine.execEngineCompletion cls wing tag nth s
  | .galleryFlushTimeout serial => Sys2Proof.Machine.execGalleryFlushTimeout serial s
  | .closeNow ini wing => Sys2Proof.Machine.execCloseNow ini wing s
  | .resyncDone => Sys2Proof.Machine.execResyncDone s
  | .verifyDone => Sys2Proof.Machine.execVerifyDone s
  | .rebuildStart ini wing plinth => Sys2Proof.Machine.execRebuildStart ini wing plinth s
  | .plinthRebuildDone => Sys2Proof.Machine.execPlinthRebuildDone s
  | .reshapeStart ini wing target => Sys2Proof.Machine.execReshapeStart ini wing target s
  | .reshapeAbort ini wing => Sys2Proof.Machine.execReshapeAbort ini wing s
  | .reshapeDone => Sys2Proof.Machine.execReshapeDone s
  | .plinthPresent plinth => Sys2Proof.Machine.execPlinthPresent plinth s
  | .plinthRemoved plinth => Sys2Proof.Machine.execPlinthRemoved plinth s
  | .plkTrained plinth lanes delay port expected => Sys2Proof.Machine.execPlkTrained plinth lanes delay port expected s
  | .plkRelease ini plinth => Sys2Proof.Machine.execPlkRelease ini plinth s
  | .plkReleased plinth => Sys2Proof.Machine.execPlkReleased plinth s
  | .plkCompletion plinth done ns => Sys2Proof.Machine.execPlkCompletion plinth done ns s
  | .plkTimeout plinth slot => Sys2Proof.Machine.execPlkTimeout plinth slot s
  | .plkAlert plinth code detail => Sys2Proof.Machine.execPlkAlert plinth code detail s
  | .plkFlit plinth good ftype vc mtype lseq acktype ackseq credits => Sys2Proof.Machine.execPlkFlit plinth good ftype vc mtype lseq acktype ackseq credits s
  | .plkReplayTimer plinth => Sys2Proof.Machine.execPlkReplayTimer plinth s
  | .plkRetrainTimeout plinth => Sys2Proof.Machine.execPlkRetrainTimeout plinth s
  | .plkRetrainCmd ini plinth => Sys2Proof.Machine.execPlkRetrainCmd ini plinth s
  | .plkRead plinth port cmd => Sys2Proof.Machine.execPlkRead plinth port cmd s
  | .plkProgram plinth port cmd => Sys2Proof.Machine.execPlkProgram plinth port cmd s
  | .plkErase plinth port cmd => Sys2Proof.Machine.execPlkErase plinth port cmd s
  | .checkErased plinth port cmd => Sys2Proof.Machine.execCheckErased plinth port cmd s
  | .witnessRenew plinth port cmd => Sys2Proof.Machine.execWitnessRenew plinth port cmd s
  | .witnessRead plinth port cmd => Sys2Proof.Machine.execWitnessRead plinth port cmd s
  | .witnessClaim plinth port cmd => Sys2Proof.Machine.execWitnessClaim plinth port cmd s
  | .regRead plinth port cmd => Sys2Proof.Machine.execRegRead plinth port cmd s
  | .regWrite plinth port cmd => Sys2Proof.Machine.execRegWrite plinth port cmd s
  | .bridgeSlotBoundary plinth ends => Sys2Proof.Machine.execBridgeSlotBoundary plinth ends s
  | .bridgeTickMarker plinth port payload flagged arrival => Sys2Proof.Machine.execBridgeTickMarker plinth port payload flagged arrival s
  | .leaseExpiry plinth port => Sys2Proof.Machine.execLeaseExpiry plinth port s
  | .curMount ini wing => Sys2Proof.Machine.execCurMount ini wing s
  | .hallScore => Sys2Proof.Machine.execHallScore s
  | .curEvacuate ini wing plinth => Sys2Proof.Machine.execCurEvacuate ini wing plinth s
  | .curRemove ini wing plinth => Sys2Proof.Machine.execCurRemove ini wing plinth s
  | .curCancel ini wing plinth => Sys2Proof.Machine.execCurCancel ini wing plinth s
  | .vaultPrepare => Sys2Proof.Machine.execVaultPrepare s
  | .hostReadDispatch loc coll sheets ns => Sys2Proof.Machine.execHostReadDispatch loc coll sheets ns s
  | .rplShip ini wing lock => Sys2Proof.Machine.execRplShip ini wing lock s
  | .freezeNumbered ini wing original => Sys2Proof.Machine.execFreezeNumbered ini wing original s
  | .resumeSync ini wing lock original => Sys2Proof.Machine.execResumeSync ini wing lock original s
  | .rplPromote ini wing force lock => Sys2Proof.Machine.execRplPromote ini wing force lock s
  | .rplDemote ini wing => Sys2Proof.Machine.execRplDemote ini wing s
  | .rplAbort ini wing => Sys2Proof.Machine.execRplAbort ini wing s
  | .syncWrite coll nsid rtag entries => Sys2Proof.Machine.execSyncWrite coll nsid rtag entries s
  | .rplBegin coll rtag edition base => Sys2Proof.Machine.execRplBegin coll rtag edition base s
  | .rplOffer coll nsid rtag edition entries => Sys2Proof.Machine.execRplOffer coll nsid rtag edition entries s
  | .rplCase coll nsid rtag edition entries raw image => Sys2Proof.Machine.execRplCase coll nsid rtag edition entries raw image s
  | .rplUnmap coll nsid rtag runs => Sys2Proof.Machine.execRplUnmap coll nsid rtag runs s
  | .rplCommit coll rtag edition base changed => Sys2Proof.Machine.execRplCommit coll rtag edition base changed s
  | .rplReply coll rtag status have' micros => Sys2Proof.Machine.execRplReply coll rtag status have' micros s
  | .syncTimeout coll rtag => Sys2Proof.Machine.execSyncTimeout coll rtag s
  | .asyncTimeout coll rtag => Sys2Proof.Machine.execAsyncTimeout coll rtag s
  | .hnyPost hart mode rs1 addr => Sys2Proof.Machine.execHnyPost hart mode rs1 addr s
  | .hnyWait hart mode timeout => Sys2Proof.Machine.execHnyWait hart mode timeout s
  | .waitWake hart irq forced timeout => Sys2Proof.Machine.execWaitWake hart irq forced timeout s
  | .coreEnable ini wing => Sys2Proof.Machine.execCoreEnable ini wing s
  | .coreFence ini wing => Sys2Proof.Machine.execCoreFence ini wing s
  | .coreReady wing core => Sys2Proof.Machine.execCoreReady wing core s
  | .coreFailed wing core cause => Sys2Proof.Machine.execCoreFailed wing core cause s
  | .coreAccessFault hart addr load => Sys2Proof.Machine.execCoreAccessFault hart addr load s
  | .cqHeadWrite ini wing head => Sys2Proof.Machine.execCqHeadWrite ini wing head s
  | .dmaCopy wing src => Sys2Proof.Machine.execDmaCopy wing src s
  | .dmaFill wing src => Sys2Proof.Machine.execDmaFill wing src s
  | .dmaDisable ini wing => Sys2Proof.Machine.execDmaDisable ini wing s
  | .dmaEnable ini wing => Sys2Proof.Machine.execDmaEnable ini wing s
  | .dmaHalt ini wing on => Sys2Proof.Machine.execDmaHalt ini wing on s
  | .migrateStart ini wing segment => Sys2Proof.Machine.execMigrateStart ini wing segment s
  | .migrateDone wing => Sys2Proof.Machine.execMigrateDone wing s
  | .channelFence ini wing chan => Sys2Proof.Machine.execChannelFence ini wing chan s
  | .channelUnfence ini wing chan => Sys2Proof.Machine.execChannelUnfence ini wing chan s
  | .ddrUe addr => Sys2Proof.Machine.execDdrUe addr s
  | .ddrCe addr => Sys2Proof.Machine.execDdrCe addr s
  | .memScrubPass wing => Sys2Proof.Machine.execMemScrubPass wing s
  | .pchFence ini wing => Sys2Proof.Machine.execPchFence ini wing s
  | .hbmCeFence wing pch errors => Sys2Proof.Machine.execHbmCeFence wing pch errors s
  | .pchMoveDone wing pch => Sys2Proof.Machine.execPchMoveDone wing pch s
  | .hbmUe wing addr what => Sys2Proof.Machine.execHbmUe wing addr what s
  | .releaseE ini => Sys2Proof.Machine.execReleaseE ini s
  | .releaseW ini => Sys2Proof.Machine.execReleaseW ini s
  | .docChipReset ini => Sys2Proof.Machine.execDocChipReset ini s
  | .msrExtend ini => Sys2Proof.Machine.execMsrExtend ini s
  | .msrArm ini mask => Sys2Proof.Machine.execMsrArm ini mask s
  | .getVersion => Sys2Proof.Machine.execGetVersion s
  | .getCapabilities => Sys2Proof.Machine.execGetCapabilities s
  | .negotiateAlgorithms => Sys2Proof.Machine.execNegotiateAlgorithms s
  | .getDigests => Sys2Proof.Machine.execGetDigests s
  | .getCertificate off len => Sys2Proof.Machine.execGetCertificate off len s
  | .spdmChallenge nonce => Sys2Proof.Machine.execSpdmChallenge nonce s
  | .getMeasurements index nonce => Sys2Proof.Machine.execGetMeasurements index nonce s
  | .keyLoad ini => Sys2Proof.Machine.execKeyLoad ini s
  | .keyGenerate ini => Sys2Proof.Machine.execKeyGenerate ini s
  | .keyUnwrapCmd ini => Sys2Proof.Machine.execKeyUnwrapCmd ini s
  | .keyActivate ini => Sys2Proof.Machine.execKeyActivate ini s
  | .keyRevoke ini => Sys2Proof.Machine.execKeyRevoke ini s
  | .keyZeroise ini => Sys2Proof.Machine.execKeyZeroise ini s
  | .keyExport ini => Sys2Proof.Machine.execKeyExport ini s
  | .bindCommit ini => Sys2Proof.Machine.execBindCommit ini s
  | .keyUnbind ini => Sys2Proof.Machine.execKeyUnbind ini s
  | .importKey req slot kind usage system coll blob => Sys2Proof.Machine.execImportKey req slot kind usage system coll blob s
  | .reqBind req index entry uids => Sys2Proof.Machine.execReqBind req index entry uids s
  | .reqUnbind req index => Sys2Proof.Machine.execReqUnbind req index s
  | .reqZeroise req slot => Sys2Proof.Machine.execReqZeroise req slot s
  | .armMeasure entry mask => Sys2Proof.Machine.execArmMeasure entry mask s
  | .reqQuote entry nonce => Sys2Proof.Machine.execReqQuote entry nonce s
  | .peerAgree entry step => Sys2Proof.Machine.execPeerAgree entry step s
  | .clearRecorder req => Sys2Proof.Machine.execClearRecorder req s
  | .reqLifecycle req target custodian => Sys2Proof.Machine.execReqLifecycle req target custodian s
  | .reqCustodian req digest => Sys2Proof.Machine.execReqCustodian req digest s
  | .reqFederation req uids => Sys2Proof.Machine.execReqFederation req uids s
  | .reqConfigure entry mirrors rings => Sys2Proof.Machine.execReqConfigure entry mirrors rings s
  | .almAlarm n => Sys2Proof.Machine.execAlmAlarm n s
  | .alarmReset => Sys2Proof.Machine.execAlarmReset s
  | .almForce ini => Sys2Proof.Machine.execAlmForce ini s
  | .debugChallenge => Sys2Proof.Machine.execDebugChallenge s
  | .debugToken uid nonce sigOk digest => Sys2Proof.Machine.execDebugToken uid nonce sigOk digest s
  | .arcRead => Sys2Proof.Machine.execArcRead s
  | .arcProgram => Sys2Proof.Machine.execArcProgram s
  | .arcErase => Sys2Proof.Machine.execArcErase s
  | .arcClose => Sys2Proof.Machine.execArcClose s
  | .sectorState => Sys2Proof.Machine.execSectorState s
  | .arcStop verified => Sys2Proof.Machine.execArcStop verified s
  | .brownOutDetect => Sys2Proof.Machine.execBrownOutDetect s
  | .borRelease => Sys2Proof.Machine.execBorRelease s
  | .xoLock ini => Sys2Proof.Machine.execXoLock ini s
  | .prvRecord ev wing => Sys2Proof.Machine.execPrvRecord ev wing s
  | .recWrite ini => Sys2Proof.Machine.execRecWrite ini s
  | .recordHoldExpiry seq => Sys2Proof.Machine.execRecordHoldExpiry seq s
  | .recordProgram ok => Sys2Proof.Machine.execRecordProgram ok s
  | .hourTick => Sys2Proof.Machine.execHourTick s
  | .prvClear ini => Sys2Proof.Machine.execPrvClear ini s
  | .updWrite ini slot => Sys2Proof.Machine.execUpdWrite ini slot s
  | .updAbort ini => Sys2Proof.Machine.execUpdAbort ini s
  | .writeOs => Sys2Proof.Machine.execWriteOs s
  | .writeDocent => Sys2Proof.Machine.execWriteDocent s
  | .confirmOs => Sys2Proof.Machine.execConfirmOs s
  | .updReqAbort => Sys2Proof.Machine.execUpdReqAbort s
  | .updConfirmDoc ini up => Sys2Proof.Machine.execUpdConfirmDoc ini up s
  | .updConfirmOs ini up => Sys2Proof.Machine.execUpdConfirmOs ini up s
  | .trialExpiry => Sys2Proof.Machine.execTrialExpiry s
  | .recoveryWrite off len data => Sys2Proof.Machine.execRecoveryWrite off len data s
  | .recoveryRun len => Sys2Proof.Machine.execRecoveryRun len s
  | .recoveryStatus => Sys2Proof.Machine.execRecoveryStatus s
  | .wdgFeed ini bits => Sys2Proof.Machine.execWdgFeed ini bits s
  | .wdgWarn n => Sys2Proof.Machine.execWdgWarn n s
  | .wdgExpiry n => Sys2Proof.Machine.execWdgExpiry n s
  | .wdgGraceExpiry => Sys2Proof.Machine.execWdgGraceExpiry s
  | .rungRequest ini page value => Sys2Proof.Machine.execRungRequest ini page value s
  | .rungExitDone island => Sys2Proof.Machine.execRungExitDone island s
  | .signalDetect wing port => Sys2Proof.Machine.execSignalDetect wing port s
  | .unitIdleGate cls wing unit => Sys2Proof.Machine.execUnitIdleGate cls wing unit s
  | .unitIdleRetain cls wing unit => Sys2Proof.Machine.execUnitIdleRetain cls wing unit s
  | .coreRungRequest ini wing value => Sys2Proof.Machine.execCoreRungRequest ini wing value s
  | .pwrServe ini => Sys2Proof.Machine.execPwrServe ini s
  | .pwrStandby ini => Sys2Proof.Machine.execPwrStandby ini s
  | .serveDone => Sys2Proof.Machine.execServeDone s
  | .pwrDroop wing detector => Sys2Proof.Machine.execPwrDroop wing detector s
  | .pwrSag wing rail => Sys2Proof.Machine.execPwrSag wing rail s
  | .avsWindow wing rail => Sys2Proof.Machine.execAvsWindow wing rail s
  | .droopRecover wing rail => Sys2Proof.Machine.execDroopRecover wing rail s
  | .tempSample wing die hbm sensor => Sys2Proof.Machine.execTempSample wing die hbm sensor s
  | .thermalThrottleStep wing => Sys2Proof.Machine.execThermalThrottleStep wing s
  | .rsvSample vbus vbank ia ib carrier => Sys2Proof.Machine.execRsvSample vbus vbank ia ib carrier s
  | .carrierReload phaseB clash => Sys2Proof.Machine.execCarrierReload phaseB clash s
  | .currentTrip phaseB positive => Sys2Proof.Machine.execCurrentTrip phaseB positive s
  | .rsvModeWrite ini mode => Sys2Proof.Machine.execRsvModeWrite ini mode s
  | .clearFault ini => Sys2Proof.Machine.execClearFault ini s
  | .rsvCommitGo ini carrier => Sys2Proof.Machine.execRsvCommitGo ini carrier s
  | .healthStart ini => Sys2Proof.Machine.execHealthStart ini s
  | .healthEnd => Sys2Proof.Machine.execHealthEnd s
  | .limpTimeout => Sys2Proof.Machine.execLimpTimeout s
  | .allowanceUpdate => Sys2Proof.Machine.execAllowanceUpdate s
  | .mainsLost => Sys2Proof.Machine.execMainsLost s
  | .mainsBack => Sys2Proof.Machine.execMainsBack s
  | .busTrip => Sys2Proof.Machine.execBusTrip s
  | .dumpDone => Sys2Proof.Machine.execDumpDone s
  | .dumpRestart => Sys2Proof.Machine.execDumpRestart s
  | .keyFreshWrite ini => Sys2Proof.Machine.execKeyFreshWrite ini s
  | .powerOn => Sys2Proof.Machine.execPowerOn s
  | .resetRelease => Sys2Proof.Machine.execResetRelease s
  | .resetAssert stayed => Sys2Proof.Machine.execResetAssert stayed s
  | .railBrownOut stayed => Sys2Proof.Machine.execRailBrownOut stayed s
  | .anxLaneFail wing => Sys2Proof.Machine.execAnxLaneFail wing s
  | .plkLaneFail plinth => Sys2Proof.Machine.execPlkLaneFail plinth s
  | .masterMarkerLoss plinth => Sys2Proof.Machine.execMasterMarkerLoss plinth s
  | .rungEntryDone island => Sys2Proof.Machine.execRungEntryDone island s
  | .standbyDone => Sys2Proof.Machine.execStandbyDone s
  | .droopEnd wing detector corePpm engMeshPpm => Sys2Proof.Machine.execDroopEnd wing detector corePpm engMeshPpm s
  | .railsRemoved => Sys2Proof.Machine.execRailsRemoved s
  | .crystalStable => Sys2Proof.Machine.execCrystalStable s
  | .arcOperationEnd e => Sys2Proof.Machine.execArcOperationEnd e s

end Sys2Proof.Machine
end

