-- ==== Sys2Proof/WellFormed.lean ====
section
/-! DEFINITION. What a well-formed command is: every operand within the width or the count that the spec gives what it names. The
meanings are total and do not rest on it; it says which commands a sender can send. -/

namespace Sys2Proof

open Machine (blockInstances isDocent)

/-- An initiator on the fabric (R13, R53): 52 harts. The hardware itself makes no access. -/
def iniOk : Initiator → Bool
  | .hart n => decide (n < 52)
  | .hardware => false
  | _ => true

/-- A page that exists (R14, R51): eight FOY and 32 PLK pages per wing, one of every other block, the Docent window's on no wing. -/
def pageOk (p : Page) : Bool := decide (p.inst < blockInstances p.block) && (!isDocent p.block || p.wing == .east)

/-- The engine classes that have units (R13, R226). -/
def unitClass (b : Block) : Bool := b == .dge || b == .cdc || b == .cph

/-- A unit of a class on one wing (R13): 48 digest, 48 codec and 56 cipher units. -/
def unitOk (b : Block) (n : Nat) : Bool := decide (n < (if b == .cph then 56 else 48))

/-- A descriptor's source: one of a wing's 1,024 rings (R370), or none. -/
def sourceOk : Source → Bool
  | .ring n => decide (n < 1024)
  | _ => true

/-- The protection information of an LBA (R92): a guard of up to 64 bits, a 16-bit application tag, a reference tag. -/
def tupleOk (t : PiTuple) : Bool := decide (t.guard < 2 ^ 64) && decide (t.app < 2 ^ 16) && decide (t.ref < 2 ^ 48)

/-- What a completion ends (R91, R108). -/
def endOk : HostEnd → Bool
  | .tag n _ => decide (n < 2 ^ 32)
  | .software ctx queue cid sct sc _ =>
    decide (ctx < 32768) && decide (queue < 2 ^ 16) && decide (cid < 2 ^ 16) && decide (sct < 8) && decide (sc < 256)

/-- A fused record (R106). -/
def fusedOk (r : FusedRec) : Bool :=
  decide (r.nsid < 2 ^ 32) && decide (r.cid < 2 ^ 16) && decide (r.ctx < 32768) && decide (r.queue < 2 ^ 16) && decide (r.sct < 8) &&
    decide (r.sc < 256)

/-- A command capsule (R86, R93): eight ports, 32,768 contexts, 16-bit queues and command identifiers, at least one granule. -/
def capsuleOk (c : Capsule) : Bool :=
  decide (c.port < 8) && decide (c.ctx < 32768) && decide (c.queue < 2 ^ 16) && decide (c.cid < 2 ^ 16) && decide (c.nsid < 2 ^ 32) &&
    decide (0 < c.count) && decide (c.inCapsule < 2 ^ 32)

/-- A Mehror packet's header fields (R120). -/
def packetOk (p : MftPacket) : Bool :=
  decide (p.version < 16) && decide (p.opcode < 16) && decide (p.paylen < 2 ^ 13) && decide (p.srcNode < 2 ^ 14) &&
    decide (p.dstNode < 2 ^ 14) && decide (p.dstConn < 2 ^ 24) && decide (p.psn < 2 ^ 32)

/-- A plinth-link command record (R282). -/
def plkCmdOk (c : PlkCmd) : Bool :=
  decide (c.opcode < 256) && decide (c.gen < 256) && decide (c.slot < (if c.mgmt then 16 else 128)) && decide (c.start < 32) &&
    decide (c.channel < 16) && decide (c.die < 8)

/-- A plinth-link completion record (R291). -/
def plkDoneOk (d : PlkDone) : Bool := decide (d.gen < 256) && decide (d.slot < (if d.mgmt then 16 else 128))

/-- A label's fields (R253). -/
def labelOk (l : Label) : Bool :=
  decide (l.guard < 2 ^ 64) && decide (l.coll < 4096) && decide (l.sheet < 128) && decide (l.gidx < 8) && decide (l.panel < 32) &&
    decide (l.glen < 64)

/-- A granule of a MIRROR or RESILVER message (R156). -/
def mirrorOk (e : MirrorEntry) : Bool := labelOk e.label && decide (e.nsid < 2 ^ 32) && decide (e.data < 2 ^ 32768)

/-- An entry of a CAT_UPDATE message (R156). -/
def catEntryOk (e : CatEntry) : Bool := decide (e.nsid < 2 ^ 32)

/-- The end of a die operation at a bridge (R275): one of two ports, one of 128 command slots. -/
def brEndOk (e : BrEnd) : Bool := decide (e.port < 2) && decide (e.slot < 128)

/-- Where an HBM error lies (R383). -/
def hbmUeOk : HbmUe → Bool
  | .slot nsid _ _ => decide (nsid < 2 ^ 32)
  | .engine cls _ => unitClass cls
  | .core hart => decide (hart < 52)
  | .unread => true

/-- An island (R465). -/
def islandOk : Island → Bool
  | .page p => pageOk p
  | .core hart => decide (hart < 52)

/-- A signed request (R415): one of 64 entries of the request area. -/
def signedOk (r : SignedReq) : Bool := decide (r.entry < 64)

/-- A well-formed command. -/
def Instr.wf (c : Instr) : Bool :=
  match c with
  | .registerWrite ini addr _ => iniOk ini && decide (addr < 2 ^ 48)
  | .partialAccess ini addr size _ => iniOk ini && decide (addr < 2 ^ 48) && decide (0 < size)
  | .pairLoRead ini addr => iniOk ini && decide (addr < 2 ^ 48)
  | .pairHiWrite ini addr _ => iniOk ini && decide (addr < 2 ^ 48)
  | .undecodedAccess ini addr _ => iniOk ini && decide (addr < 2 ^ 48)
  | .firewallAccess ini addr _ => iniOk ini && decide (addr < 2 ^ 48)
  | .errInfoClear ini page => iniOk ini && pageOk page
  | .commitGo ini page => iniOk ini && pageOk page
  | .blockReset ini page => iniOk ini && pageOk page
  | .quiesceRequest ini page _ _ => iniOk ini && pageOk page
  | .quiesceDone page => pageOk page
  | .blockEnable ini page => iniOk ini && pageOk page
  | .instanceFence ini page => iniOk ini && pageOk page
  | .instanceUnfence ini page => iniOk ini && pageOk page
  | .blockFault page _ => pageOk page
  | .evtStatusClear ini page _ _ => iniOk ini && pageOk page
  | .evtEnableWrite ini page _ => iniOk ini && pageOk page
  | .evtForce ini page _ => iniOk ini && pageOk page
  | .evtSwRaise ini _ _ => iniOk ini
  | .routeDataWrite ini _ _ => iniOk ini
  | .routeError _ entry => decide (entry < 1024)
  | .wgStall group => decide (group < 64)
  | .wgWake ini _ _ => iniOk ini
  | .wgMembersWrite ini _ _ _ => iniOk ini
  | .keyErase => true
  | .quotaShrink _ => true
  | .foyerPause _ => true
  | .accessionHold _ => true
  | .frameTick _ _ => true
  | .slotBoundary => true
  | .scheduleDeadline _ => true
  | .tickMarker _ _ _ _ => true
  | .missedTick => true
  | .lengthSetChange ini _ => iniOk ini
  | .lengthChanged => true
  | .ptpOffsetWrite ini _ => iniOk ini
  | .clrCounts ini _ => iniOk ini
  | .foyLinkChange _ port link _ => decide (port < 8) && decide (link < 4)
  | .fecDegraded _ port link => decide (port < 8) && decide (link < 4)
  | .pauseFrame _ port prio _ => decide (port < 8) && decide (prio < 8)
  | .pfcStorm _ port prio => decide (port < 8) && decide (prio < 8)
  | .pfcStormEnd _ port prio => decide (port < 8) && decide (prio < 8)
  | .ceMarkedPacket _ port ctx => decide (port < 8) && decide (ctx < 32768)
  | .cnpReceived _ port ctx => decide (port < 8) && decide (ctx < 32768)
  | .rateRecover _ port ctx => decide (port < 8) && decide (ctx < 32768)
  | .ptpEventMessage _ port time => decide (port < 8) && decide (time < 2 ^ 64)
  | .connectionRequest _ port type pmtu => decide (port < 8) && decide (type < 4) && decide (pmtu < 2 ^ 16)
  | .authComplete _ ctx _ _ => decide (ctx < 32768)
  | .ctxBindWrite ini _ _ => iniOk ini
  | .collEntryWrite ini _ _ _ => iniOk ini
  | .commandCapsule cap => capsuleOk cap
  | .keepAlive cap => capsuleOk cap
  | .commandAdmit _ ctx queue cid data pi => decide (ctx < 32768) && decide (queue < 2 ^ 16) && decide (cid < 2 ^ 16) && decide (data.length ≤ 512) && data.all (fun x => decide (x < 2 ^ 32768)) && pi.all tupleOk
  | .boundLong _ => true
  | .foqResume ini _ _ => iniOk ini
  | .fusedRecordAck _ nsid _ cid => decide (nsid < 2 ^ 32) && decide (cid < 2 ^ 16)
  | .fusedHoldExpiry _ nsid _ cid => decide (nsid < 2 ^ 32) && decide (cid < 2 ^ 16)
  | .hostCompletion _ fin => endOk fin
  | .mftDescWrite _ src => sourceOk src
  | .mftDescRead _ src => sourceOk src
  | .mftDescSend _ src => sourceOk src
  | .mftDescAtomicAdd _ src => sourceOk src
  | .mftDescAtomicCas _ src => sourceOk src
  | .postRecv _ src => sourceOk src
  | .mftWritePacket _ p => packetOk p
  | .mftReadPacket _ p => packetOk p
  | .readResp _ p => packetOk p
  | .mftSendPacket _ p => packetOk p
  | .mftAtomicAddPacket _ p => packetOk p
  | .mftAtomicCasPacket _ p => packetOk p
  | .atomicResp _ p => packetOk p
  | .mftAck _ p time => packetOk p && decide (time < 2 ^ 64)
  | .mftNak _ p time => packetOk p && decide (time < 2 ^ 64)
  | .ackDelay _ ctx => decide (ctx < 32768)
  | .rtoExpiry _ ctx psn => decide (ctx < 32768) && decide (psn < 2 ^ 32)
  | .rnrDelay _ ctx psn => decide (ctx < 32768) && decide (psn < 2 ^ 32)
  | .mftOpen ini _ => iniOk ini
  | .mftClose ini _ => iniOk ini
  | .closeDone _ ctx => decide (ctx < 32768)
  | .granulePlace _ tag idx => decide (tag < 2 ^ 32) && decide (idx < 512)
  | .anxMirror _ mtag coll es fused => decide (mtag < 2 ^ 32) && decide (coll < 4096) && decide (es.length ≤ 4) && es.all mirrorOk && (!es.isEmpty || !fused.isEmpty) && fused.all fusedOk
  | .mirrorAck mtag _ _ => decide (mtag < 2 ^ 32)
  | .mirrorResend mtag => decide (mtag < 2 ^ 32)
  | .catUpdate _ mtag coll es => decide (mtag < 2 ^ 32) && decide (coll < 4096) && es.all catEntryOk
  | .catAck mtag _ => decide (mtag < 2 ^ 32)
  | .anxForward _ mtag coll cap data => decide (mtag < 2 ^ 32) && decide (coll < 4096) && capsuleOk cap && data.all (fun x => decide (x < 2 ^ 32768))
  | .forwardResp mtag _ _ _ _ _ => decide (mtag < 2 ^ 32)
  | .heartbeat _ _ _ => true
  | .heartbeatSend => true
  | .heartbeatLoss => true
  | .ownership _ mtag coll _ _ => decide (mtag < 2 ^ 32) && decide (coll < 4096)
  | .ownershipAck mtag _ => decide (mtag < 2 ^ 32)
  | .resilver _ mtag coll es => decide (mtag < 2 ^ 32) && decide (coll < 4096) && decide (1 ≤ es.length) && decide (es.length ≤ 4) && es.all mirrorOk
  | .anxFlit _ _ _ vc lseq _ ackseq credits _ => decide (vc < 4) && decide (lseq < 1024) && decide (ackseq < 1024) && decide (credits.length ≤ 4)
  | .anxReplayTimer _ => true
  | .anxRetrainTimeout _ => true
  | .anxTrained _ _ _ _ => true
  | .anxTrainTimeout _ => true
  | .anxRetrainCmd ini _ => iniOk ini
  | .anxClrStats ini _ => iniOk ini
  | .leaseRenew => true
  | .leaseLapse => true
  | .witnessPoll => true
  | .takeover _ => true
  | .isolateTimeout => true
  | .pairJoin ini _ => iniOk ini
  | .resilverDone => true
  | .giveback ini _ => iniOk ini
  | .givebackBatch => true
  | .pairLeave ini _ => iniOk ini
  | .shrinkStart ini _ => iniOk ini
  | .shrinkRestore ini _ => iniOk ini
  | .overQuotaLong => true
  | .retainAdopt ini _ => iniOk ini
  | .retainDiscard ini _ => iniOk ini
  | .slotEcc _ nsid _ _ => decide (nsid < 2 ^ 32)
  | .nsCreate ini _ => iniOk ini
  | .nsDelete ini _ => iniOk ini
  | .nsResize ini _ => iniOk ini
  | .nsFreeze ini _ => iniOk ini
  | .editionDelete ini _ => iniOk ini
  | .nsExpose ini _ => iniOk ini
  | .nsUnexpose ini _ => iniOk ini
  | .ckptNow ini _ => iniOk ini
  | .ckptInterval => true
  | .ckptDone _ _ => true
  | .pageIn nsid _ _ _ => decide (nsid < 2 ^ 32)
  | .wayEnWrite ini _ _ => iniOk ini
  | .wayCleanDone _ way _ => decide (way < 16)
  | .wayEccFence _ way _ => decide (way < 16)
  | .lineEcc _ set way => decide (set < 49152) && decide (way < 16)
  | .accessionBatch _ => true
  | .compareReadDone _ _ _ _ _ => true
  | .rgsReindex ini _ => iniOk ini
  | .replayDone => true
  | .unitFailed cls _ unit _ => unitClass cls && unitOk cls unit
  | .unitFence ini cls _ => iniOk ini && unitClass cls
  | .unitUnfence ini cls _ => iniOk ini && unitClass cls
  | .unitDrained cls _ unit => unitClass cls && unitOk cls unit
  | .dgeHash _ src => sourceOk src
  | .dgeHmac _ src => sourceOk src
  | .dgeCompare _ src _ => sourceOk src
  | .hmacVerify _ src _ => sourceOk src
  | .stateSave _ src => sourceOk src
  | .stateRestore _ src => sourceOk src
  | .hkdfToSlot _ src => sourceOk src
  | .cdcAppend _ src => sourceOk src
  | .cdcFlush _ src => sourceOk src
  | .cdcExpand _ src => sourceOk src
  | .bufCompress _ src => sourceOk src
  | .bufExpand _ src => sourceOk src
  | .streamFlushTimeout _ _ => true
  | .caseCompressed _ _ => true
  | .xtsEnc _ src => sourceOk src
  | .xtsDec _ src => sourceOk src
  | .xtsRecrypt _ src => sourceOk src
  | .gcmEnc _ src => sourceOk src
  | .gcmDec _ src => sourceOk src
  | .cphCmac _ src => sourceOk src
  | .cmacVerify _ src _ => sourceOk src
  | .ctxSave _ src => sourceOk src
  | .ctxRestore _ src => sourceOk src
  | .keyWrap _ src => sourceOk src
  | .keyUnwrap _ src => sourceOk src
  | .engineCompletion cls _ tag _ => unitClass cls && decide (tag < 2 ^ 32)
  | .galleryFlushTimeout _ => true
  | .closeNow ini _ => iniOk ini
  | .resyncDone => true
  | .verifyDone => true
  | .rebuildStart ini _ plinth => iniOk ini && decide (plinth < 64)
  | .plinthRebuildDone => true
  | .reshapeStart ini _ _ => iniOk ini
  | .reshapeAbort ini _ => iniOk ini
  | .reshapeDone => true
  | .plinthPresent plinth => decide (plinth < 64)
  | .plinthRemoved plinth => decide (plinth < 64)
  | .plkTrained plinth _ _ port _ => decide (plinth < 64) && decide (port < 2)
  | .plkRelease ini plinth => iniOk ini && decide (plinth < 64)
  | .plkReleased plinth => decide (plinth < 64)
  | .plkCompletion plinth done _ => decide (plinth < 64) && plkDoneOk done
  | .plkTimeout plinth _ => decide (plinth < 64)
  | .plkAlert plinth _ _ => decide (plinth < 64)
  | .plkFlit plinth _ _ vc _ lseq _ ackseq credits => decide (plinth < 64) && decide (vc < 4) && decide (lseq < 2 ^ 16) && decide (ackseq < 2 ^ 16) && decide (credits.length ≤ 3)
  | .plkReplayTimer plinth => decide (plinth < 64)
  | .plkRetrainTimeout plinth => decide (plinth < 64)
  | .plkRetrainCmd ini plinth => iniOk ini && decide (plinth < 64)
  | .plkRead plinth port cmd => decide (plinth < 64) && decide (port < 2) && plkCmdOk cmd
  | .plkProgram plinth port cmd => decide (plinth < 64) && decide (port < 2) && plkCmdOk cmd
  | .plkErase plinth port cmd => decide (plinth < 64) && decide (port < 2) && plkCmdOk cmd
  | .checkErased plinth port cmd => decide (plinth < 64) && decide (port < 2) && plkCmdOk cmd
  | .witnessRenew plinth port cmd => decide (plinth < 64) && decide (port < 2) && plkCmdOk cmd
  | .witnessRead plinth port cmd => decide (plinth < 64) && decide (port < 2) && plkCmdOk cmd
  | .witnessClaim plinth port cmd => decide (plinth < 64) && decide (port < 2) && plkCmdOk cmd
  | .regRead plinth port cmd => decide (plinth < 64) && decide (port < 2) && plkCmdOk cmd
  | .regWrite plinth port cmd => decide (plinth < 64) && decide (port < 2) && plkCmdOk cmd
  | .bridgeSlotBoundary plinth ends => decide (plinth < 64) && ends.all brEndOk
  | .bridgeTickMarker plinth port _ _ _ => decide (plinth < 64) && decide (port < 2)
  | .leaseExpiry plinth port => decide (plinth < 64) && decide (port < 2)
  | .curMount ini _ => iniOk ini
  | .hallScore => true
  | .curEvacuate ini _ plinth => iniOk ini && decide (plinth < 64)
  | .curRemove ini _ plinth => iniOk ini && decide (plinth < 64)
  | .curCancel ini _ plinth => iniOk ini && decide (plinth < 64)
  | .vaultPrepare => true
  | .hostReadDispatch _ coll _ _ => decide (coll < 4096)
  | .rplShip ini _ _ => iniOk ini
  | .freezeNumbered ini _ _ => iniOk ini
  | .resumeSync ini _ _ _ => iniOk ini
  | .rplPromote ini _ _ _ => iniOk ini
  | .rplDemote ini _ => iniOk ini
  | .rplAbort ini _ => iniOk ini
  | .syncWrite coll nsid rtag entries => decide (coll < 4096) && decide (nsid < 2 ^ 32) && decide (rtag < 2 ^ 64) && decide (1 ≤ entries.length) && decide (entries.length ≤ 8)
  | .rplBegin coll rtag edition base => decide (coll < 4096) && decide (rtag < 2 ^ 64) && decide (edition < 2 ^ 32) && decide (base < 2 ^ 32)
  | .rplOffer coll nsid rtag edition entries => decide (coll < 4096) && decide (nsid < 2 ^ 32) && decide (rtag < 2 ^ 64) && decide (edition < 2 ^ 32) && decide (1 ≤ entries.length) && decide (entries.length ≤ 64)
  | .rplCase coll nsid rtag edition entries _ _ => decide (coll < 4096) && decide (nsid < 2 ^ 32) && decide (rtag < 2 ^ 64) && decide (edition < 2 ^ 32) && decide (1 ≤ entries.length) && decide (entries.length ≤ 8)
  | .rplUnmap coll nsid rtag runs => decide (coll < 4096) && decide (nsid < 2 ^ 32) && decide (rtag < 2 ^ 64) && decide (1 ≤ runs.length) && decide (runs.length ≤ 255)
  | .rplCommit coll rtag edition base _ => decide (coll < 4096) && decide (rtag < 2 ^ 64) && decide (edition < 2 ^ 32) && decide (base < 2 ^ 32)
  | .rplReply coll rtag _ _ _ => decide (coll < 4096) && decide (rtag < 2 ^ 64)
  | .syncTimeout coll rtag => decide (coll < 4096) && decide (rtag < 2 ^ 64)
  | .asyncTimeout coll rtag => decide (coll < 4096) && decide (rtag < 2 ^ 64)
  | .hnyPost hart _ _ _ => decide (hart < 52)
  | .hnyWait hart _ _ => decide (hart < 52)
  | .waitWake hart _ _ _ => decide (hart < 52)
  | .coreEnable ini _ => iniOk ini
  | .coreFence ini _ => iniOk ini
  | .coreReady _ core => decide (core < 26)
  | .coreFailed _ core _ => decide (core < 26)
  | .coreAccessFault hart addr _ => decide (hart < 52) && decide (addr < 2 ^ 48)
  | .cqHeadWrite ini _ head => iniOk ini && decide (head < 2 ^ 32)
  | .dmaCopy _ src => sourceOk src
  | .dmaFill _ src => sourceOk src
  | .dmaDisable ini _ => iniOk ini
  | .dmaEnable ini _ => iniOk ini
  | .dmaHalt ini _ _ => iniOk ini
  | .migrateStart ini _ segment => iniOk ini && decide (segment < 4096)
  | .migrateDone _ => true
  | .channelFence ini _ chan => iniOk ini && decide (chan < 8)
  | .channelUnfence ini _ chan => iniOk ini && decide (chan < 8)
  | .ddrUe addr => decide (addr < 2 ^ 48)
  | .ddrCe addr => decide (addr < 2 ^ 48)
  | .memScrubPass _ => true
  | .pchFence ini _ => iniOk ini
  | .hbmCeFence _ pch _ => decide (pch < 96)
  | .pchMoveDone _ pch => decide (pch < 96)
  | .hbmUe _ addr what => decide (addr < 2 ^ 48) && hbmUeOk what
  | .releaseE ini => iniOk ini
  | .releaseW ini => iniOk ini
  | .docChipReset ini => iniOk ini
  | .msrExtend ini => iniOk ini
  | .msrArm ini mask => iniOk ini && decide (mask < 2 ^ 32)
  | .getVersion => true
  | .getCapabilities => true
  | .negotiateAlgorithms => true
  | .getDigests => true
  | .getCertificate _ _ => true
  | .spdmChallenge _ => true
  | .getMeasurements _ _ => true
  | .keyLoad ini => iniOk ini
  | .keyGenerate ini => iniOk ini
  | .keyUnwrapCmd ini => iniOk ini
  | .keyActivate ini => iniOk ini
  | .keyRevoke ini => iniOk ini
  | .keyZeroise ini => iniOk ini
  | .keyExport ini => iniOk ini
  | .bindCommit ini => iniOk ini
  | .keyUnbind ini => iniOk ini
  | .importKey req _ _ _ _ coll _ => signedOk req && decide (coll < 4096)
  | .reqBind req _ _ _ => signedOk req
  | .reqUnbind req _ => signedOk req
  | .reqZeroise req _ => signedOk req
  | .armMeasure entry mask => decide (entry < 64) && decide (mask < 2 ^ 32)
  | .reqQuote entry _ => decide (entry < 64)
  | .peerAgree entry _ => decide (entry < 64)
  | .clearRecorder req => signedOk req
  | .reqLifecycle req _ _ => signedOk req
  | .reqCustodian req _ => signedOk req
  | .reqFederation req _ => signedOk req
  | .reqConfigure entry _ _ => decide (entry < 64)
  | .almAlarm n => decide (n < 12)
  | .alarmReset => true
  | .almForce ini => iniOk ini
  | .debugChallenge => true
  | .debugToken _ _ _ _ => true
  | .arcRead => true
  | .arcProgram => true
  | .arcErase => true
  | .arcClose => true
  | .sectorState => true
  | .arcStop _ => true
  | .brownOutDetect => true
  | .borRelease => true
  | .xoLock ini => iniOk ini
  | .prvRecord ev _ => decide (ev < 1024)
  | .recWrite ini => iniOk ini
  | .recordHoldExpiry _ => true
  | .recordProgram _ => true
  | .hourTick => true
  | .prvClear ini => iniOk ini
  | .updWrite ini _ => iniOk ini
  | .updAbort ini => iniOk ini
  | .writeOs => true
  | .writeDocent => true
  | .confirmOs => true
  | .updReqAbort => true
  | .updConfirmDoc ini _ => iniOk ini
  | .updConfirmOs ini _ => iniOk ini
  | .trialExpiry => true
  | .recoveryWrite _ _ _ => true
  | .recoveryRun _ => true
  | .recoveryStatus => true
  | .wdgFeed ini _ => iniOk ini
  | .wdgWarn n => decide (n < 3)
  | .wdgExpiry n => decide (n < 3)
  | .wdgGraceExpiry => true
  | .rungRequest ini page _ => iniOk ini && pageOk page
  | .rungExitDone island => islandOk island
  | .signalDetect _ port => decide (port < 8)
  | .unitIdleGate cls _ unit => unitClass cls && unitOk cls unit
  | .unitIdleRetain cls _ unit => unitClass cls && unitOk cls unit
  | .coreRungRequest ini _ _ => iniOk ini
  | .pwrServe ini => iniOk ini
  | .pwrStandby ini => iniOk ini
  | .serveDone => true
  | .pwrDroop _ detector => decide (detector < 64)
  | .pwrSag _ rail => decide (rail < 3)
  | .avsWindow _ rail => decide (rail < 3)
  | .droopRecover _ rail => decide (rail < 3)
  | .tempSample _ _ _ sensor => decide (sensor < 32)
  | .thermalThrottleStep _ => true
  | .rsvSample vbus vbank ia ib carrier => vbus.all (fun x => decide (x < 4096)) && vbank.all (fun x => decide (x < 4096)) && ia.all (fun x => decide (x < 4096)) && ib.all (fun x => decide (x < 4096)) && decide (carrier < 2 ^ 64)
  | .carrierReload _ _ => true
  | .currentTrip _ _ => true
  | .rsvModeWrite ini _ => iniOk ini
  | .clearFault ini => iniOk ini
  | .rsvCommitGo ini carrier => iniOk ini && decide (carrier < 2 ^ 64)
  | .healthStart ini => iniOk ini
  | .healthEnd => true
  | .limpTimeout => true
  | .allowanceUpdate => true
  | .mainsLost => true
  | .mainsBack => true
  | .busTrip => true
  | .dumpDone => true
  | .dumpRestart => true
  | .keyFreshWrite ini => iniOk ini
  | .powerOn => true
  | .resetRelease => true
  | .resetAssert _ => true
  | .railBrownOut _ => true
  | .anxLaneFail _ => true
  | .plkLaneFail plinth => decide (plinth < 64)
  | .masterMarkerLoss plinth => decide (plinth < 64)
  | .rungEntryDone island => islandOk island
  | .standbyDone => true
  | .droopEnd _ detector _ _ => decide (detector < 64)
  | .railsRemoved => true
  | .crystalStable => true
  | .arcOperationEnd _ => true

end Sys2Proof
end

