-- ==== Sys2Proof/Safety.lean ====
section
/-! DEFINITION. The terms claims use: how a command ends, which accesses reach a register, and what an operation leaves alone. -/

namespace Sys2Proof

open Machine Machine.Reg

/-- A command completes with an effect of a kind: it answers a next state with the queue unchanged, in which the head is what its own
effect leaves after the event fabric has delivered the events the effect raised and the blocks have done what follows (settle). The
property is of the head that the effect leaves. -/
def Completes (c : Instr) (s : State) (effect : Head → Prop) : Prop :=
  ∃ h, exec c s = .next { s with dev := settle h } ∧ effect h

/-- The chip runs: it is not held in reset and has its rails (R528 to R530). -/
abbrev Runs (h : Head) : Prop := h.pwr.hold = .running

/-- A write by an initiator to a register of a page reaches the register: the page exists, the offset is a word's, the firewall lets it
through (R62), OWNER allows it (R61), and past the header the page is neither fenced (R56) nor at rung 4 (R543). -/
structure Writable (h : Head) (ini : Initiator) (p : Page) (off : Nat) : Prop where
  page : pageOk p = true
  word : off % 4 = 0
  inPage : off < 4096
  firewall : isDocent p.block = true → ini = .docent
  owner : ownerRefuses h ini p = false
  live : 0x40 ≤ off → hget h p STATUS_FENCED ≠ 1 ∧ hget h p RUNG_CURRENT ≠ 4

/-- An event's bit of its page's EVT_STATUS is 1. -/
def EventSet (h : Head) (w : Wing) (e : EvRef) (inst : Nat := 0) : Prop :=
  (hget h (pg e.block w inst) EVT_STATUS_EVENTS).testBit e.n = true

/-- ERR_INFO and ERR_ADDR of a page hold an error (R60): its code, initiator, direction and address. -/
structure Captured (h : Head) (p : Page) (code src : Nat) (write : Bool) (addr : Nat) : Prop where
  valid : hget h p ERR_INFO_VALID = 1
  code : hget h p ERR_INFO_CODE = code
  source : hget h p ERR_INFO_SOURCE = src
  write : hget h p ERR_INFO_WRITE = ofBool write
  low : hget h p ERR_ADDR_LO_ADDR = addr % 2 ^ 32
  high : hget h p ERR_ADDR_HI_ADDR = addr / 2 ^ 32 % 2 ^ 16

/-- Everything but the register file and the events to deliver is the same. -/
def SameButRegs (h g : Head) : Prop := g = { h with regs := g.regs, evq := g.evq }

/-- Every register but those at some offsets of some block's pages reads the same, in every table entry. -/
def RegsBut (h g : Head) (touched : List (Block × Nat)) : Prop :=
  ∀ (p : Page) (off bank : Nat), off < 4096 → (p.block, off) ∉ touched → rd g p off bank = rd h p off bank

/-- The commands that reach a chip held in reset or without rails: the rails, the crystal and the reset pin (R528 to R530), and those of the
plinth bridges, which are powered apart from the head. -/
def reachesHeldChip : Instr → Bool
  | .powerOn | .resetRelease | .resetAssert _ | .railBrownOut _ | .railsRemoved | .crystalStable => true
  | .plkRead .. | .plkProgram .. | .plkErase .. | .checkErased .. | .witnessRenew .. | .witnessRead .. | .witnessClaim .. => true
  | .regRead .. | .regWrite .. | .bridgeSlotBoundary .. | .bridgeTickMarker .. | .leaseExpiry .. | .masterMarkerLoss _ => true
  | _ => false

/-- The completion that a host gets of a capsule (R110, R111). -/
def hostAnswer (h : Head) (c : Capsule) (st : NvmeStatus) : Msg :=
  .hostCompletion c.wing c.port (prioOf h c.wing c.port false) c.ctx c.queue c.cid st

/-- The peer of a capsule's port does not pause the priority of its NVMe traffic (R84). -/
def HostListens (h : Head) (c : Capsule) : Prop := h.foy.paused.contains (prioKey c.wing c.port (prioOf h c.wing c.port false)) = false

/-- A wing takes a capsule (R54, R93 step 1, R99, R102): it is neither at a bound nor paused, its pages run, and the transport delivers a
command. -/
structure CapsuleTaken (h : Head) (c : Capsule) : Prop where
  free : fetchHeld h c.wing = false
  foq : running h (pg .foq c.wing) = true
  foy : running h (pg .foy c.wing c.port) = true
  delivered : notDelivered h c = false

/-- An admitted command of this head's own hosts, with no failure so far (R108): its host tag, and a port that sends. -/
structure CmdEnds (h : Head) (w : Wing) (tag : Nat) (c : HostCmd) : Prop where
  key : tabGet? h.foy.cmds (tagKey w tag) = some c
  tag : tag < 32768
  wing : c.cap.wing = w
  own : c.fwd = false
  direct : c.via = none
  accessible : c.inaccessible = false
  sound : c.failed = none
  same : c.miscompare = false
  listens : HostListens h c.cap

/-- A message joins the queue of an Annex port, which sends what it can (R151, R152, R154, R155): while it is up and not training, as far
as its credits and its replay buffer allow, in the order of its channels. -/
def AnxSent (g h : Head) (port : Wing) (mtag coll : Nat) (b : AnxBody) : Prop :=
  let l := (anxLink g port).push ⟨anxVc b, anxFlits b, .annex port mtag coll b⟩
  let r := drainLink anxRule l
  anxLink h (otherWing port) = anxLink g (otherWing port) ∧
    (anxSends g port = true → anxLink h port = r.1 ∧ h.out = g.out ++ r.2) ∧
    (anxSends g port = false → anxLink h port = l ∧ h.out = g.out)

/-- A granule of an admitted write can be placed (R142, R144, R160): it is one of the command's, not placed yet, and nothing has failed;
the home wing has fewer than 256 MIRROR flits queued, and a slot is left in its region. -/
structure Placeable (h : Head) (c : HostCmd) (idx : Nat) : Prop where
  write : isWrite c.cap.op = true
  within : idx < c.cap.count
  new : ∀ p ∈ c.placed, p.1 ≠ c.cap.slba + idx
  accessible : c.inaccessible = false
  sound : c.failed = none
  same : c.miscompare = false
  runs : running h (pg .vit (homeOf h c.cap.nsid)) = true
  flits : mirrorFlits h (homeOf h c.cap.nsid) < 256
  room : c.fwd = false → slotsHeld h (homeOf h c.cap.nsid) < slotLimit h (homeOf h c.cap.nsid)
  staging : c.fwd = true → slotCount h.vit.slots (homeOf h c.cap.nsid) (fun s => s == .staging) < stagingLimit

/-- A FORWARD can run at once (R91, R94, R106, R107, R164, R176): the head owns the namespace, nothing else waits, and a host tag is
free. -/
structure ForwardRuns (h : Head) (mtag : Nat) (c : Capsule) (n : Namespace) : Prop where
  pair : inPair h = true
  new : h.vit.answered.find? (fun a => a.1 == mtag) = none
  once : forwardHeld h mtag = false
  namespaceOf : nsGet? h c.nsid = some n
  owned : n.owned = true
  stays : n.changing = false
  notInDump : inDump h = false
  first : h.vit.forwards = []
  unlocked : rangeLocked h c = false
  notGiven : h.vit.batch.contains c.nsid = false
  tag : (freeTag h (homeOf h c.nsid)).isSome = true

/-- The Vitrine's registers that count its slots (R148, R179), and its write sequences (R144). -/
def slotRegs : List (Block × Nat) := [(.vit, 0x010), (.vit, 0x050), (.vit, 0x054), (.vit, 0x058), (.vit, 0x05C)]
def seqRegs : List (Block × Nat) := [(.vit, 0x060), (.vit, 0x064)]

/-- The same table entry but for where flash holds its pages, which a checkpoint changes (R190). -/
def SameButPages (a b : Option Namespace) : Prop :=
  a.map (fun n => { n with pages := [] }) = b.map (fun n => { n with pages := [] })

/-- A checkpoint has begun (R190): the journal is cut, every dirty page of a namespace and of an index has been written, and the record
holds the tables as they stand, sealed. -/
structure CheckpointBegun (g h : Head) : Prop where
  running : fget h .east CAT_CKPT_STATUS_IN_PROGRESS = 1
  cut : h.cat.cut = g.cat.journal.length
  journal : h.cat.journal = g.cat.journal
  frames : h.cat.frames = 0
  written : (∀ p ∈ h.cat.dirtyPages, nsGet? g p.1 = none) ∧ h.cat.dirtyBuckets = []
  namespaces : ∀ k, SameButPages (nsGet? h k) (nsGet? g k)
  index : h.cat.index = g.cat.index
  record : ∃ x, h.cat.cutSnap = some x ∧ x.number = (fget g .east CAT_CKPT_LAST_NUMBER + 1) % 2 ^ 32 ∧ x.nss = h.cat.nss ∧
    x.index = g.cat.index ∧ x.bucketPages = h.cat.bucketPages ∧ x.blocks = g.cur.blocks ∧ x.halls = g.cur.halls ∧
    x.serials = g.cur.serials ∧ h.cat.cutSeal = sealMac g (Config.recordBytes x).1 (Config.recordBytes x).2
  flash : h.cat.flash = g.cat.flash
  regs : RegsBut g h [(.cat, 0x04C)]

/-- A source offers a descriptor of an opcode that its class starts now (R54, R64, R65): the class runs below its bound, the TAG is free,
and SYSTEM comes from a system ring. h' is the head with the descriptor consumed. -/
structure Starts (h : Head) (w : Wing) (cls : Block) (src : Source) (opcode : Nat) (t : Taken) (h' : Head) : Prop where
  offered : offered? h w cls src = some (t, h')
  may : mayStart h w cls t = true
  opcode : dOpcode t.d = opcode
  tag : ∀ o ∈ h.eng.ops, o.cls = cls → o.wing = w → o.tag ≠ dTag t.d
  system : dSystem t.d = true → t.system = true

/-- An operation joins those outstanding, behind the others, and nothing else changes but the bounds of its wing and their events (R65,
R99): no memory, no key, no message. -/
structure Joined (g h : Head) (o : EngOp) : Prop where
  ops : h.eng = { g.eng with ops := g.eng.ops ++ [o] }
  regs : RegsBut g h [(.foq, 0x010), (.foq, 0x044), (.mft, 0x010)]
  foy : h.foy = { g.foy with stalledE := h.foy.stalledE, stalledW := h.foy.stalledW }
  same : h = { g with eng := h.eng, regs := h.regs, evq := h.evq, foy := h.foy }

/-- An ACTIVE unit of a class takes an operation (R216), and wakes (R468): only the free values taken and the unit's rung change. -/
def UnitTaken (h g : Head) (cls : Block) (w : Wing) (u : Nat) : Prop :=
  u ∈ unitsIn h cls w 0 ∧ g = { h with freeCtr := g.freeCtr, pwr := { h.pwr with units := g.pwr.units } }

/-- A Mehror packet passes steps 1 to 4 of R124 at a context of its wing. -/
structure MftTakes (h : Head) (w : Wing) (p : MftPacket) (ctx : Nat) : Prop where
  accept : fget h w MFT_CTRL_ACCEPT = 1
  port : p.port = fget h .east MFT_UDP_PORT
  version : p.version = 1
  node : p.dstNode = fget h .east MFT_NODE_NODE_ID
  index : ctx = p.dstConn % 2 ^ 15
  wing : p.dstConn.testBit 15 = decide (w = .west)
  bound : fget h w FOQ_CTX_BIND_TYPE ctx = 3
  opened : fget h w MFT_CTX_STATE_STATE ctx = 1
  gen : fget h w MFT_CTX_STATE_GEN ctx = p.dstConn >>> 16 % 256
  peer : fget h w MFT_CTX_PEER_NODE ctx = p.srcNode
  tagOk : p.tagOk = true
  coll : p.collId = fget h w MFT_CTX_COLL_COLL_ID ctx

/-- A Mehror descriptor passes the checks of R138: its context is OPEN, the collections agree, and its local region holds it at a. -/
structure MftPosted (h : Head) (w : Wing) (t : Taken) (a : Nat) : Prop where
  number : mdCtx t.d < 32768
  opened : mftState h w (mdCtx t.d) = 1
  system : dSystem t.d = ctxSystem h w (mdCtx t.d)
  coll : dSystem t.d = false → dColl t.d = ctxColl h w (mdCtx t.d)
  region : regionAddr h (mdLkey t.d) (mdLoff t.d) (mdLen t.d) (dColl t.d) (dSystem t.d) none = some a

/-- A Mehror packet as a context sends it (R119 to R122): the fields of what carries it, and its bytes under the connection's key. -/
def mftMsg (h : Head) (w : Wing) (ctx : Nat) (q : MftPacket) : Msg :=
  .mehror w ctx q (mehrorNet h w ctx) (mehrorBytes (mftKey h w ctx) q)

/-- The peer of a context's port does not pause PRIO_MFT (R84). -/
def MftListens (h : Head) (w : Wing) (ctx : Nat) : Prop :=
  h.foy.paused.contains (prioKey w (mehrorNet h w ctx).port (mehrorNet h w ctx).prio) = false

/-- A packet sent again (R132): the same opcode, PSN and data under the next TXC; a READ from its first missing chunk. -/
structure SentAgain (h : Head) (w : Wing) (ctx : Nat) (o : MftOut) (q : MftPacket) : Prop where
  opcode : q.opcode = o.pkt.opcode
  data : q.data = o.pkt.data
  txc : q.txc = mftTxc h w ctx
  psn : q.psn = if o.pkt.opcode = 2 then psnAdd o.pkt.psn (o.chunks.headD 0) else o.pkt.psn
  offset : q.offset = if o.pkt.opcode = 2 then o.pkt.offset + o.chunks.headD 0 * maxPayload h w ctx else o.pkt.offset
  len : q.len = if o.pkt.opcode = 2 then o.pkt.len - o.chunks.headD 0 * maxPayload h w ctx else o.pkt.len

/-- A request's PSN lies in the map of R128 and has not been received. -/
structure MftNew (h : Head) (w : Wing) (p : MftPacket) (ctx : Nat) : Prop where
  notBelow : 0 ≤ psnDiff p.psn (rcvNext h w ctx)
  within : psnDiff p.psn (rcvNext h w ctx) < 4096
  unmarked : (mftGet h w ctx).marked.contains p.psn = false

/-- A plinth bridge takes a command as new (R283): its slot holds no command in progress, and not this one. -/
def BrFresh (h : Head) (n p : Nat) (c : PlkCmd) : Prop :=
  ∀ x, tabGet? (bridge h n).slots (brSlotKey p c) = some x → x.gen ≠ c.gen ∧ x.done ≠ none

/-- Only one bridge changes, beside what it sends. -/
def OnlyBridge (g h : Head) (n : Nat) : Prop :=
  h = { g with bridges := h.bridges, out := h.out } ∧ ∀ m, m ≠ n → bridge h m = bridge g m

/-- A plinth link is down, and nothing changed beside but registers (R299, R516): what it had begun is lost, its next link sequences stand,
and its port's commands that the bridge has not started have left the bridge's queue. -/
structure PortDown (h g : Head) (n : Nat) : Prop where
  link : plkLink g n = (plkLink h n).dropped
  queue : bridge g n = dropQueued (bridge h n) (plkGet h n Reg.PLK_STATUS_BRIDGE_PORT) (fun _ => true)
  others : ∀ m, m ≠ n → plkLink g m = plkLink h m ∧ bridge g m = bridge h m
  rest : SameButRegs { h with plk := { h.plk with links := g.plk.links }, bridges := g.bridges } g

/-- A custodian-signed request passes R416's checks while Docent firmware runs (R398): this head's UID, a counter above the last one
accepted, a signature that verifies. -/
structure SignedTaken (h : Head) (r : SignedReq) : Prop where
  firmware : firmwareRuns h = true
  uid : r.uid = pget h .east CHP_UID_LO_UID CHP_UID_HI_UID
  above : h.doc.counter < r.counter
  width : r.counter < 2 ^ 32
  signature : r.sigOk = true

/-- Docent answers a request (R415): its reply, last of what it sends, with what it carries at byte 16 of the request's entry and STATUS
at byte 1, and no other byte of memory changed. -/
structure Answers (g h : Head) (entry code : Nat) (st : Status) (data : Wire) : Prop where
  out : h.out = g.out ++ [.docentReply (entry % 64) code st data]
  mem : h.mem = memPut (if data.len = 0 then g.mem else memPut g.mem (reqEntry g entry + 16) data.len data.num) (reqEntry g entry + 1) 1
    (statusCode st)

/-- A measurement register is extended with an input (R400): SHA-384 of its old value and the 48-byte input. -/
def Extended (g h : Head) (r input : Nat) : Prop := msrValue h r = sha384 96 (msrValue g r + (input % 2 ^ 384) <<< 384)

/-- A descriptor of Docent's Archive queue is answered (R66, R67, R436): QUIET writes no entry for DONE; else an entry is written at the
tail of the completion queue, or waits, in order, for room. -/
structure ArcAnswers (g h : Head) (tag : Nat) (quiet : Bool) (st : Status) (bytes word : Nat) : Prop where
  silent : quiet = true → st = .done → h.sram = g.sram ∧ h.arc.held = g.arc.held
  written : ¬(quiet = true ∧ st = .done) → g.arc.held = [] → arcRoom g = true →
    h.sram = memPut g.sram (fget g .east ARC_CQ_BASE_OFFSET * 1024 + 16 * fget g .east ARC_CQ_PTR_TAIL) 16
      (arcEntry tag st bytes word + (1 - g.arc.entries / 64 % 2) <<< 24) ∧
    h.arc.held = [] ∧ fget h .east ARC_CQ_PTR_TAIL = (fget g .east ARC_CQ_PTR_TAIL + 1) % 64
  waits : ¬(quiet = true ∧ st = .done) → g.arc.held ≠ [] ∨ arcRoom g = false →
    h.sram = g.sram ∧ h.arc.held = g.arc.held ++ [arcEntry tag st bytes word]

/-- An occurrence joins the recorder's buffer as a new record (R441, R443): the next SEQ, the losses before it, and its hold. -/
def Recorded (g h : Head) (source code payload : Nat) (firmware : Bool) : Prop :=
  h.arc.recs = g.arc.recs ++ [⟨g.arc.nextSeq, fget g .east PRV_HOURS_HOURS, fget g .east PRV_CYCLES_COUNT, source % 1024, code % 65536, 0,
      g.arc.lostNext, payload % 2 ^ 256, true, firmware⟩] ∧
    h.arc.nextSeq = (g.arc.nextSeq + 1) % 2 ^ 32 ∧ h.arc.lostNext = 0 ∧ fget h .east PRV_BUFFER_HELD = g.arc.recs.length + 1

/-- The buffer has room, and no held record is of the same source and code (R443). -/
def Recordable (h : Head) (source code : Nat) : Prop :=
  h.arc.recs.length < 64 ∧ ∀ r ∈ h.arc.recs, r.hold = true → r.source = source → r.code = code → False

/-- An island starts to leave its rung for a cause (R470): it is below rung 0, neither leaves nor enters one already, and is not fenced. -/
def Sleeps (h : Head) (p : Page) : Prop :=
  hget h p RUNG_CURRENT ≠ 0 ∧ pageNum p ∉ h.pwr.exits ∧ tabGet? h.pwr.entries (pageNum p) = none ∧ hget h p STATUS_FENCED ≠ 1

/-- The exit under way that Sleeps allows. -/
def Wakes (g h : Head) (p : Page) (cause : Nat) : Prop :=
  h.pwr = { g.pwr with exits := g.pwr.exits ++ [pageNum p], requests := h.pwr.requests } ∧ hget h p RUNG_IN_TRANSIT = 1 ∧
    hget h p RUNG_CAUSE = 2 ^ cause ∧ hget h p RUNG_CURRENT = hget g p RUNG_CURRENT

/-- The memories (DDR5 and HBM, and Docent SRAM) hold their canonical form: addresses strictly rising, no byte listed that an unlisted
address reads as. -/
def MemoryWf (h : Head) : Prop := Memory.wf h.mem ∧ Memory.wf h.sram

/-- The four conditions of R501: the vault is ready, no fault is latched, the allowance covers the pair dirty total, and the mode in
force is CHARGE, STANDBY or DISCHARGE. -/
def DumpConditions (h : Head) : Prop :=
  fget h .east CUR_VAULT_READY = 1 ∧ fget h .east RSV_STATUS_FAULTS = 0 ∧
    fget h .east VIT_QUOTA_NOW_PAIR_DIRTY_MIB ≤ fget h .east RSV_ALLOW_MIB ∧
    (fget h .east RSV_STATUS_MODE = 1 ∨ fget h .east RSV_STATUS_MODE = 2 ∨ fget h .east RSV_STATUS_MODE = 3)

/-- RSV_DUMP.READY of a running head says what R501 says of it. -/
def DumpReadyTrue (s : State) : Prop := Runs s.dev → (fget s.dev .east RSV_DUMP_READY = 1 ↔ DumpConditions s.dev)

/-- Every command that waits is well formed. -/
def PendingWf (s : State) : Prop := ∀ c ∈ s.pending, c.wf = true

end Sys2Proof
end

