-- ==== Sys2Proof/Certificates/Slice0/Obligations.lean ====
section
/-! DEFINITION. The statements for the provers, in the spec's order: the queue, the registers, and the commands family by family. -/

open Sys2Proof Sys2Proof.Machine Sys2Proof.Machine.Reg

/-- A step runs the command at the front of the queue on the state with the queue's rest. -/
def Obligations.StepRunsFrontCommand : Prop :=
  ∀ (c : Instr) (rest : List Instr) (s : State), s.pending = c :: rest → step s = exec c { s with pending := rest }

/-- With no command waiting the block idles: the model's choice (assumption 1). -/
def Obligations.EmptyQueueIdles : Prop :=
  ∀ s : State, s.pending = [] → step s = .next s

/-- Commands leave the queue first in, first out: as many steps as commands wait take exactly those commands, and what stands behind them
is untouched. No command ends in a fault or a refusal. What a command does to the head does not depend on the commands that wait behind
it. -/
def Obligations.QueueDrainsInOrder : Prop :=
  (∀ (l rest : List Instr) (h : Head), ∃ g : Head, Sys2Proof.core.run l.length (⟨h, l ++ rest⟩ : State) = .next (⟨g, rest⟩ : State)) ∧
  (∀ (c : Instr) (h : Head) (p q : List Instr), ∃ g : Head, exec c ⟨h, p⟩ = .next ⟨g, p⟩ ∧ exec c ⟨h, q⟩ = .next ⟨g, q⟩)

/-- A chip that is held in reset or has no rails takes no command but those of its rails, its reset and its plinth bridges: a whole queue
of others leaves it as it was. -/
def Obligations.HeldChipIgnoresCommands : Prop :=
  ∀ (l : List Instr) (h : Head), ¬ Runs h → (∀ c ∈ l, reachesHeldChip c = false) →
    Sys2Proof.core.run l.length (⟨h, l⟩ : State) = .next (⟨h, []⟩ : State)

/-- RSV_DUMP.READY is 1 exactly while the four conditions of R501 hold, in every state that a step reaches from one in which it is. -/
def Obligations.DumpReadyKeptByEveryStep : Prop :=
  ∀ s t : State, DumpReadyTrue s → step s = .next t → DumpReadyTrue t

/-- The state after reset: no command waits, memory lists nothing, RSV_DUMP.READY is true of it, the engine units of each family are
ACTIVE up to their number (R215), and the registers named hold the reset entries of their tables. It rests on choices of the model: log
entries 11, 12. -/
def Obligations.ResetLeavesStatedValues : Prop :=
  State.reset.pending = [] ∧ MemoryWf State.reset.dev ∧ DumpReadyTrue State.reset ∧ Runs State.reset.dev ∧
    (∀ w, fget State.reset.dev w CHP_PART_PART = 0x8400 ∧ fget State.reset.dev w CHP_STEPPING_MAJOR = 0x0A ∧
      fget State.reset.dev w CHP_STEPPING_MINOR = 0x01 ∧ fget State.reset.dev w CHP_WING_WING = wingNum w) ∧
    (∀ w, fget State.reset.dev w DGE_UNITS_ACTIVE = 44 ∧ fget State.reset.dev w CDC_UNITS_ACTIVE = 44 ∧
      fget State.reset.dev w CPH_UNITS_ACTIVE = 52 ∧
      ∀ u, u < 48 → fget State.reset.dev w DGE_UNIT_STATE_STATE u = if u < 44 then 0 else 1) ∧
    (∀ p : Page, pageOk p = true → hget State.reset.dev p CTRL_ENABLE = ofBool (enabledAtReset p.block) ∧
      hget State.reset.dev p EVT_STATUS_EVENTS = 0 ∧ hget State.reset.dev p EVT_ENABLE_EVENTS = 0 ∧
      hget State.reset.dev p OWNER_HART = 0xFF ∧ hget State.reset.dev p ID_BLOCK = blockCode p.block)

/-- R14: the Docent-owned pages exist only at wing 0, and no page of the Docent window is decoded at wing 1. -/
def Obligations.DocentPagesOnlyAtWingZero : Prop :=
  (∀ (a off : Nat) (win : Window) (p : Page), decodeAddr a = .page win p off → isDocent p.block = true → p.wing = .east) ∧
    (∀ (a : Nat), 0x00F401000000 ≤ a → a < 0x00F402000000 → ∀ win p off, decodeAddr a ≠ .page win p off)

/-- Every page that exists is reached at the address R50 gives it, and no two registers share an address. -/
def Obligations.PageAddressesDecode : Prop :=
  (∀ (p : Page) (off : Nat), pageOk p = true → off < 4096 →
    decodeAddr (pageAddr p + off) = .page (if isDocent p.block then .docent else .array) p off) ∧
  (∀ (p q : Page) (m n : Nat), pageOk p = true → pageOk q = true → m < 4096 → n < 4096 →
    pageAddr p + m = pageAddr q + n → p = q ∧ m = n)

/-- The classes of R8 as a written word meets them, for every field of every register of the tables: RO, WO and W1S fields keep their
value; a W1C field clears the bits written 1; RW and RWL fields take the value their encoding admits (R11, R59); an RWF field keeps its
value and holds the written one pending (R57); an RWQ field changes only while it may (R58). Bits that no field names do not change. -/
def Obligations.FieldsFollowTheirClass : Prop :=
  ∀ (b : Block) (r : RegDef), r ∈ regsHdr ++ blockRegs b → ∀ (cur val : Word) (may : Bool),
    let o := writeFields r cur val may
    (∀ f ∈ r.fields,
      let n := bitsOf val f.hi f.lo
      let was := bitsOf cur f.hi f.lo
      let now := bitsOf o.word f.hi f.lo
      match f.acc with
      | .ro | .wo | .w1s => now = was
      | .w1c => ∀ i, i ≤ f.hi - f.lo → now.testBit i = (was.testBit i && !(n.testBit i))
      | .rw | .rwl => now = ((accepted f n).1).getD was
      | .rwf => now = was ∧ (∀ v, (accepted f n).1 = some v → bitsOf o.pendVal f.hi f.lo = v % 2 ^ (f.hi - f.lo + 1) ∧
          bitsOf o.pendMask f.hi f.lo = 2 ^ (f.hi - f.lo + 1) - 1)
      | .rwq => now = (if may then ((accepted f n).1).getD was else was)) ∧
    (∀ i, i < 32 → (∀ f ∈ r.fields, ¬ (f.lo ≤ i ∧ i ≤ f.hi)) → o.word.getLsbD i = cur.getLsbD i)

/-- R60: the first error after VALID was last cleared is captured, with VALID set and COUNT 1; later errors only advance COUNT, which
holds at its greatest value. -/
def Obligations.FirstErrorIsKept : Prop :=
  ∀ (h : Head) (p : Page) (e : ErrRec), e.code < 16 → e.src < 256 →
    (hget h p ERR_INFO_VALID = 0 → Captured (capture h p e) p e.code e.src e.write e.addr ∧ hget (capture h p e) p ERR_INFO_COUNT = 1) ∧
    (hget h p ERR_INFO_VALID = 1 →
      (∀ f ∈ [ERR_INFO_VALID, ERR_INFO_SOURCE, ERR_INFO_WRITE, ERR_INFO_CODE, ERR_ADDR_LO_ADDR, ERR_ADDR_HI_ADDR],
        hget (capture h p e) p f = hget h p f) ∧
      hget (capture h p e) p ERR_INFO_COUNT = min (hget h p ERR_INFO_COUNT + 1) 127)

/-- A write of SCRATCH stores the word, on every page, and changes no other register; a HI half is held until its LO half is written (R7),
and no register changes; a read of a LO half returns it and latches its HI half (R7). An access that is not one aligned word ends in a bus
error, leaves the register and every other alone and is recorded on its page (R6); an access to an undecoded address of the array window,
and one to the Docent window by another initiator, end in a bus error and are recorded in CHP_BUS_ERR of the decoding wing with code 9 or
10 and their event (R52). -/
def Obligations.RegisterAccessesReachOrAreRecorded : Prop :=
  (∀ (s : State) (ini : Initiator) (p : Page) (v : Word), Runs s.dev → Writable s.dev ini p 0x038 →
    Completes (.registerWrite ini (pageAddr p + 0x038) v) s (fun h =>
      rd h p 0x038 0 = v ∧ h.bus.error = false ∧ RegsBut s.dev h [(p.block, 0x038)] ∧ SameButRegs (reply s.dev false) h)) ∧
  (∀ (s : State) (ini : Initiator) (p : Page) (off : Nat) (r : RegDef) (v : Word), Runs s.dev → Writable s.dev ini p off →
    0x40 ≤ off → regDef? p.block off = some r → r.half = .hi → ignoredWhole s.dev p off (bankOf s.dev p r) v = false →
    Completes (.pairHiWrite ini (pageAddr p + off) v) s (fun h =>
      tabGet? h.hiHold (regKey p off 0) = some v ∧ h.bus.error = false ∧
        h = { reply s.dev false with hiHold := tabPut s.dev.hiHold (regKey p off 0) v })) ∧
  (∀ (s : State) (ini : Initiator) (p : Page) (off : Nat) (r : RegDef), Runs s.dev → pageOk p = true → off < 4096 → off % 4 = 0 →
    (isDocent p.block = true → ini = .docent) → regDef? p.block off = some r → r.half = .lo →
    Completes (.pairLoRead ini (pageAddr p + off)) s (fun h =>
      h.bus = ⟨false, readView s.dev p off⟩ ∧ tabGet? h.hiLatch (regKey p (off + 4) 0) = some (readView s.dev p (off + 4)) ∧
        h.regs = s.dev.regs ∧ h = { s.dev with bus := h.bus, hiLatch := h.hiLatch })) ∧
  (∀ (s : State) (ini : Initiator) (p : Page) (off size : Nat) (write : Bool), Runs s.dev → pageOk p = true → off < 4096 →
    (isDocent p.block = true → ini = .docent) → sourceCode ini < 256 → size ≠ 4 ∨ off % 4 ≠ 0 →
    Completes (.partialAccess ini (pageAddr p + off) size write) s (fun h =>
      h.bus.error = true ∧ (hget s.dev p ERR_INFO_VALID = 0 → Captured h p 1 (sourceCode ini) write (pageAddr p + off)) ∧
        RegsBut s.dev h [(p.block, 0x020), (p.block, 0x024), (p.block, 0x028)] ∧ SameButRegs (reply s.dev true) h)) ∧
  (∀ (s : State) (ini : Initiator) (addr : Nat) (w : Wing) (write : Bool), Runs s.dev → decodeAddr addr = .hole .array w →
    Completes (.undecodedAccess ini addr write) s (fun h =>
      h.bus.error = true ∧ EventSet h w Ev.CHP_BUS_ERROR ∧
        (fget s.dev w CHP_BUS_ERR_INFO_VALID = 0 → fget h w CHP_BUS_ERR_INFO_CODE = 9 ∧ fget h w CHP_BUS_ERR_INFO_VALID = 1 ∧
          fget h w CHP_BUS_ERR_INFO_COUNT = 1 ∧ fget h w CHP_BUS_ERR_INFO_WRITE = ofBool write ∧
          fget h w CHP_BUS_ERR_ADDR_LO_ADDR = addr % 2 ^ 32) ∧
        RegsBut s.dev h [(.chp, 0x010), (.chp, 0x05C), (.chp, 0x060), (.chp, 0x064)])) ∧
  (∀ (s : State) (ini : Initiator) (p : Page) (off : Nat) (write : Bool), Runs s.dev → pageOk p = true → off < 4096 →
    isDocent p.block = true → ini ≠ .docent →
    Completes (.firewallAccess ini (pageAddr p + off) write) s (fun h =>
      h.bus.error = true ∧ EventSet h .east Ev.CHP_FIREWALL ∧
        (fget s.dev .east CHP_BUS_ERR_INFO_VALID = 0 → fget h .east CHP_BUS_ERR_INFO_CODE = 10 ∧
          fget h .east CHP_BUS_ERR_INFO_VALID = 1 ∧ fget h .east CHP_BUS_ERR_INFO_COUNT = 1) ∧
        RegsBut s.dev h [(.chp, 0x010), (.chp, 0x05C), (.chp, 0x060), (.chp, 0x064)]))

/-- ERR_INFO_CLEAR arms the capture again (R60); COMMIT_GO makes the commit pending (R57); BLOCK_RESET of a quiesced page leaves it
quiesced, with QUIESCE 1 (R55), and of one that is not quiesced is refused with code 5. Each writes a header register that the gates let
through. A block whose work is done stops at once when QUIESCE is written 1: RUNNING 0, QUIESCED 1 (R54). QUIESCE_DONE sets QUIESCED of a
stopped block that holds no work. A block at rung 0 that is not fenced accepts work again when ENABLE is written 1 with QUIESCE 0.
CTRL.FENCE written 1 to a quiesced FOY or PLK page fences it and starts its entry into rung 4; written 0 it unfences the page, which then
leaves rung 4 (R513). A FOY or PLK page that is not quiesced keeps FENCE and records code 3. A block fault sets STATUS.FAULT, is captured
with code 6, and the block quiesces itself (R56). It rests on choices of the model: log entries 21, 22, 23. -/
def Obligations.HeaderQuiesceAndFences : Prop :=
  (∀ (s : State) (ini : Initiator) (p : Page), Runs s.dev → Writable s.dev ini p 0x020 →
    Completes (.errInfoClear ini p) s (fun h =>
      hget h p ERR_INFO_VALID = 0 ∧ hget h p ERR_INFO_COUNT = 0 ∧ hget h p ERR_INFO_CODE = hget s.dev p ERR_INFO_CODE ∧
        RegsBut s.dev h [(p.block, 0x020)] ∧ SameButRegs (reply s.dev false) h)) ∧
  (∀ (s : State) (ini : Initiator) (p : Page), Runs s.dev → Writable s.dev ini p 0x03C →
    Completes (.commitGo ini p) s (fun h =>
      hget h p COMMIT_GO = 1 ∧ hget h p COMMIT_LAST_FRAME = hget s.dev p COMMIT_LAST_FRAME ∧
        RegsBut s.dev h [(p.block, 0x03C)] ∧ SameButRegs (reply s.dev false) h)) ∧
  (∀ (s : State) (ini : Initiator) (p : Page), Runs s.dev → Writable s.dev ini p 0x008 → hget s.dev p STATUS_QUIESCED = 1 →
    Completes (.blockReset ini p) s (fun h =>
      hget h p CTRL_QUIESCE = 1 ∧ hget h p STATUS_QUIESCED = 1 ∧ hget h p STATUS_RUNNING = 0)) ∧
  (∀ (s : State) (ini : Initiator) (p : Page), Runs s.dev → Writable s.dev ini p 0x008 → hget s.dev p STATUS_QUIESCED = 0 →
    hget s.dev p ERR_INFO_VALID = 0 → sourceCode ini < 256 →
    Completes (.blockReset ini p) s (fun h =>
      Captured h p 5 (sourceCode ini) true (pageAddr p + 0x008) ∧ EventSet h p.wing ⟨p.block, configBit p.block⟩ p.inst ∧
        RegsBut s.dev h [(p.block, 0x010), (p.block, 0x020), (p.block, 0x024), (p.block, 0x028)] ∧
        SameButRegs (reply s.dev false) h)) ∧
  (∀ (s : State) (ini : Initiator) (p : Page) (enable : Bool), Runs s.dev → Writable s.dev ini p 0x008 →
    blockIdle s.dev p = true → (p.block = .gal → s.dev.gal.opens = []) → (p.block = .cdc → s.dev.eng.cases = []) →
    Completes (.quiesceRequest ini p enable true) s (fun h =>
      hget h p CTRL_ENABLE = ofBool enable ∧ hget h p CTRL_QUIESCE = 1 ∧ hget h p STATUS_RUNNING = 0 ∧
        hget h p STATUS_QUIESCED = 1)) ∧
  (∀ (s : State) (p : Page), Runs s.dev → pageOk p = true → running s.dev p = false → blockIdle s.dev p = true →
    Completes (.quiesceDone p) s (fun h =>
      hget h p STATUS_QUIESCED = 1 ∧ RegsBut s.dev h [(p.block, 0x00C)] ∧ SameButRegs s.dev h)) ∧
  (∀ (s : State) (ini : Initiator) (p : Page), Runs s.dev → Writable s.dev ini p 0x008 → hget s.dev p STATUS_FENCED = 0 →
    hget s.dev p RUNG_CURRENT = 0 → s.dev.pwr.exits.contains (pageNum p) = false → tabGet? s.dev.pwr.entries (pageNum p) = none →
    Completes (.blockEnable ini p) s (fun h =>
      hget h p CTRL_ENABLE = 1 ∧ hget h p CTRL_QUIESCE = 0 ∧ hget h p STATUS_RUNNING = 1 ∧ hget h p STATUS_QUIESCED = 0 ∧
        RegsBut s.dev h [(p.block, 0x008), (p.block, 0x00C)] ∧ SameButRegs (reply s.dev false) h)) ∧
  (∀ (s : State) (ini : Initiator) (p : Page), Runs s.dev → Writable s.dev ini p 0x008 → p.block = .foy ∨ p.block = .plk →
    hget s.dev p CTRL_FENCE = 0 → hget s.dev p STATUS_QUIESCED = 1 → hget s.dev p RUNG_CURRENT = 0 →
    Completes (.instanceFence ini p) s (fun h =>
      hget h p CTRL_FENCE = 1 ∧ hget h p STATUS_FENCED = 1 ∧ hget h p STATUS_RUNNING = 0 ∧ hget h p RUNG_IN_TRANSIT = 1 ∧
        tabGet? h.pwr.entries (pageNum p) = some (4, 0) ∧
        RegsBut s.dev h [(p.block, 0x008), (p.block, 0x00C), (p.block, 0x030)])) ∧
  (∀ (s : State) (ini : Initiator) (p : Page), Runs s.dev → Writable s.dev ini p 0x008 → p.block = .foy ∨ p.block = .plk →
    hget s.dev p CTRL_FENCE = 0 → hget s.dev p STATUS_QUIESCED = 0 → hget s.dev p ERR_INFO_VALID = 0 → sourceCode ini < 256 →
    Completes (.instanceFence ini p) s (fun h =>
      Captured h p 3 (sourceCode ini) true (pageAddr p + 0x008) ∧ EventSet h p.wing ⟨p.block, configBit p.block⟩ p.inst ∧
        RegsBut s.dev h [(p.block, 0x010), (p.block, 0x020), (p.block, 0x024), (p.block, 0x028)])) ∧
  (∀ (s : State) (ini : Initiator) (p : Page), Runs s.dev → Writable s.dev ini p 0x008 → p.block = .foy ∨ p.block = .plk →
    hget s.dev p CTRL_FENCE = 1 → hget s.dev p RUNG_CURRENT = 4 → s.dev.pwr.exits.contains (pageNum p) = false →
    tabGet? s.dev.pwr.entries (pageNum p) = none →
    Completes (.instanceUnfence ini p) s (fun h =>
      hget h p CTRL_FENCE = 0 ∧ hget h p STATUS_FENCED = 0 ∧ hget h p CTRL_QUIESCE = 1 ∧ pageNum p ∈ h.pwr.exits ∧
        hget h p RUNG_IN_TRANSIT = 1 ∧ RegsBut s.dev h [(p.block, 0x008), (p.block, 0x00C), (p.block, 0x030)])) ∧
  (∀ (s : State) (p : Page) (tags : List Nat), Runs s.dev → pageOk p = true → hget s.dev p ERR_INFO_VALID = 0 →
    Completes (.blockFault p tags) s (fun h => ∃ g : Head,
      hget g p STATUS_FAULT = 1 ∧ Captured g p 6 0xFF false 0 ∧
        RegsBut s.dev g [(p.block, 0x00C), (p.block, 0x020), (p.block, 0x024), (p.block, 0x028)] ∧ SameButRegs s.dev g ∧
        h = runEffect (faultOps g p tags) p (hget g p CTRL_ENABLE == 1) true))

/-- The event registers of a page. A W1C write to EVT_STATUS clears the bits written 1, but a bit that the hardware sets in the same cycle
stays or becomes set (R9, R70). EVT_ENABLE takes the word, and the newly enabled events whose bit is set wait for delivery (R70).
EVT_FORCE sets bits as their sources would (R53). EVT_SW_RAISE sets bit N of EVT_SW_STATUS and, where it is enabled and was not set, event
992 + N waits for delivery (R73). An event of a page with EVT_STATUS 0 and EVT_ENABLE 1 that is raised waits for delivery; one whose bit
is already set does not (R70). It rests on choices of the model: log entry 26. -/
def Obligations.EventsRiseAndAreDelivered : Prop :=
  (∀ (s : State) (ini : Initiator) (p : Page) (mask again : Word), Runs s.dev → Writable s.dev ini p 0x010 →
    Completes (.evtStatusClear ini p mask again) s (fun h =>
      (∀ n, n < evtCount p.block → (hget h p EVT_STATUS_EVENTS).testBit n =
        (((hget s.dev p EVT_STATUS_EVENTS).testBit n && !(mask.getLsbD n)) || again.getLsbD n)) ∧
      RegsBut s.dev h [(p.block, 0x010), (p.block, 0x00C)] ∧ SameButRegs (reply s.dev false) h)) ∧
  (∀ (s : State) (ini : Initiator) (p : Page) (v : Word), Runs s.dev → Writable s.dev ini p 0x014 →
    Completes (.evtEnableWrite ini p v) s (fun h =>
      (∀ n, n < evtCount p.block → (hget h p EVT_ENABLE_EVENTS).testBit n = v.getLsbD n) ∧
      (∀ n, n < evtCount p.block → v.getLsbD n = true → (hget s.dev p EVT_ENABLE_EVENTS).testBit n = false →
        (hget s.dev p EVT_STATUS_EVENTS).testBit n = true → (⟨evtBase p + n, p.wing⟩ : Delivery) ∈ h.evq) ∧
      RegsBut s.dev h [(p.block, 0x014)] ∧ SameButRegs (reply s.dev false) h)) ∧
  (∀ (s : State) (ini : Initiator) (p : Page) (mask : Word), Runs s.dev → Writable s.dev ini p 0x018 →
    Completes (.evtForce ini p mask) s (fun h =>
      (∀ n, n < evtCount p.block → (hget h p EVT_STATUS_EVENTS).testBit n =
        ((hget s.dev p EVT_STATUS_EVENTS).testBit n || mask.getLsbD n)) ∧
      RegsBut s.dev h [(p.block, 0x010)] ∧ SameButRegs (reply s.dev false) h)) ∧
  (∀ (s : State) (ini : Initiator) (w : Wing) (v : Word), Runs s.dev → Writable s.dev ini (pg .evt w) 0x04C →
    Completes (.evtSwRaise ini w v) s (fun h =>
      (fget h .east EVT_SW_STATUS_EVENTS).testBit (v.toNat % 32) = true ∧
      ((fget s.dev .east EVT_SW_STATUS_EVENTS).testBit (v.toNat % 32) = false →
        (fget s.dev .east EVT_SW_ENABLE_EVENTS).testBit (v.toNat % 32) = true → (⟨992 + v.toNat % 32, w⟩ : Delivery) ∈ h.evq) ∧
      RegsBut s.dev h [(.evt, 0x050)])) ∧
  (∀ (h : Head) (p : Page) (n : Nat), n < 32 →
     ((hget h p EVT_STATUS_EVENTS).testBit n = false → (hget h p EVT_ENABLE_EVENTS).testBit n = true →
       (raiseAt h p n).evq = h.evq ++ [⟨evtBase p + n, p.wing⟩]) ∧
     ((hget h p EVT_ENABLE_EVENTS).testBit n = false → (raiseAt h p n).evq = h.evq) ∧
     ((hget h p EVT_STATUS_EVENTS).testBit n = true → raiseAt h p n = h) ∧
     (hget (raiseAt h p n) p EVT_STATUS_EVENTS).testBit n = true ∧
     (∀ m, m ≠ n → (hget (raiseAt h p n) p EVT_STATUS_EVENTS).testBit m = (hget h p EVT_STATUS_EVENTS).testBit m))

/-- The route table and the wait groups. A write of EVT_ROUTE_DATA to an entry that is not locked, naming neither responder 1 nor 2,
stores the entry (R72); a locked entry takes no write from another initiator than Docent. A parity error zeroes the entry and raises
ROUTE_ERROR (R80). A group whose members all wait, and that has been quiet for its timeout, is marked stalled (R75, R76); a wake by Docent
restarts the group's timer (R76); new members restart it too. The hardware responders (R73): FOYER_PAUSE sets FOQ_FETCH.PAUSED with its
event, and WINDOW_CLOSED where the wing was not held (R134), ACCESSION_HOLD holds the wing's batches, QUOTA_SHRINK starts the reduction
from the quota in force with its event, unless one runs, and KEY_ERASE leaves no data slot, private slot or tile key with a value. It
rests on choices of the model: log entries 28, 29, 80, 165. -/
def Obligations.RoutesGroupsAndResponders : Prop :=
  (∀ (s : State) (ini : Initiator) (w : Wing) (v : Word), Runs s.dev → Writable s.dev ini (pg .evt w) 0x048 →
    routeLocked (fget s.dev w EVT_ROUTE_INDEX_INDEX) = false → bitsOf v 29 28 = 1 → bitsOf v 27 24 ≤ 6 → bitsOf v 10 0 ≠ 0 →
    Completes (.routeDataWrite ini w v) s (fun h =>
      let ev := fget s.dev w EVT_ROUTE_INDEX_INDEX
      fget h .east EVT_ROUTE_DATA_KIND ev = 1 ∧ fget h .east EVT_ROUTE_DATA_HART ev = bitsOf v 21 16 ∧
        fget h .east EVT_ROUTE_DATA_IDENTITY ev = bitsOf v 10 0 ∧ fget h .east EVT_ROUTE_DATA_MLEVEL ev = bitsOf v 22 22 ∧
        fget h .east EVT_ROUTE_DATA_DOC_COPY ev = bitsOf v 31 31 ∧ RegsBut s.dev h [(.evt, 0x044), (.evt, 0x048)])) ∧
  (∀ (s : State) (ini : Initiator) (w : Wing) (v : Word), Runs s.dev → Writable s.dev ini (pg .evt w) 0x048 → ini ≠ .docent →
    routeLocked (fget s.dev w EVT_ROUTE_INDEX_INDEX) = true →
    Completes (.routeDataWrite ini w v) s (fun h => ∀ ev, rd h (pg .evt .east) 0x048 ev = rd s.dev (pg .evt .east) 0x048 ev)) ∧
  (∀ (s : State) (w : Wing) (ev : Nat), Runs s.dev → ev < 1024 →
    Completes (.routeError w ev) s (fun h =>
      rd h (pg .evt .east) 0x048 ev = 0 ∧ EventSet h w Ev.EVT_ROUTE_ERROR ∧ RegsBut s.dev h [(.evt, 0x010), (.evt, 0x048)] ∧
        (∀ e, e % 65536 ≠ ev → rd h (pg .evt .east) 0x048 e = rd s.dev (pg .evt .east) 0x048 e) ∧ SameButRegs s.dev h)) ∧
  (∀ (s : State) (g : Nat), Runs s.dev → g < 64 → groupMembers s.dev g ≠ [] → (groupMembers s.dev g).all (memberWaits s.dev) = true →
    groupQuiet s.dev g = true → fbit s.dev .east EVT_WG_STATE_STALLED g = false → fbit s.dev .east EVT_WG_RESCUE_VALID g = false →
    Completes (.wgStall g) s (fun h =>
      fget h .east EVT_WG_STATE_STALLED g = 1 ∧ h.out = s.dev.out ++ [.docentStall g] ∧
        (∀ n ∈ groupMembers s.dev g, EventSet h (hartWing n) Ev.EVT_WG_STALL))) ∧
  (∀ (s : State) (w : Wing) (v : Word), Runs s.dev → Writable s.dev .docent (pg .evt w) 0x070 →
    Completes (.wgWake .docent w v) s (fun h =>
      quietMicros h (v.toNat % 64) = 0 ∧ fget h .east EVT_WG_STATE_STALLED (v.toNat % 64) = 0)) ∧
  (∀ (s : State) (ini : Initiator) (w : Wing) (lo hi : Word), Runs s.dev → Writable s.dev ini (pg .evt w) 0x05C →
    (∀ n, n < 52 → (lo.toNat + (hi.toNat % 2 ^ 20) <<< 32).testBit n = true →
      (∀ k ∈ liveGroups s.dev, k ≠ fget s.dev w EVT_WG_INDEX_GROUP → inGroup s.dev k n = false) ∧
      ¬ (fbit s.dev .east EVT_WG_RESCUE_VALID (fget s.dev w EVT_WG_INDEX_GROUP) = true ∧
        fget s.dev .east EVT_WG_RESCUE_HART (fget s.dev w EVT_WG_INDEX_GROUP) = n)) →
    Completes (.wgMembersWrite ini w lo hi) s (fun h =>
      let g := fget s.dev w EVT_WG_INDEX_GROUP
      fget h .east EVT_WG_MEMBERS_LO_HARTS g = lo.toNat ∧ fget h .east EVT_WG_MEMBERS_HI_HARTS g = hi.toNat % 2 ^ 20 ∧
        quietMicros h g = 0 ∧ fget h .east EVT_WG_STATE_STALLED g = 0 ∧
        RegsBut s.dev h [(.evt, 0x05C), (.evt, 0x060), (.evt, 0x06C)])) ∧
  (∀ (s : State) (w : Wing), Runs s.dev →
    Completes (.foyerPause w) s (fun h =>
      fget h w FOQ_FETCH_PAUSED = 1 ∧ EventSet h w Ev.FOQ_PAUSED ∧ (fetchHeld s.dev w = false → EventSet h w Ev.MFT_WINDOW_CLOSED) ∧
        RegsBut s.dev h [(.foq, 0x010), (.foq, 0x044), (.mft, 0x010)])) ∧
  (∀ (s : State) (w : Wing), Runs s.dev →
    Completes (.accessionHold w) s (fun h =>
      (if w = .east then h.cat.holdE else h.cat.holdW) = true ∧ h = { s.dev with cat := h.cat } ∧
        h.cat = (if w = .east then { s.dev.cat with holdE := true } else { s.dev.cat with holdW := true }))) ∧
  (∀ (s : State) (w : Wing), Runs s.dev → shrinking s.dev = false →
    Completes (.quotaShrink w) s (fun h =>
      shrinking h = true ∧ h.vit.shrinkAt = fget s.dev .east VIT_QUOTA_NOW_QUOTA_MIB ∧ EventSet h w Ev.VIT_SHRINK_START)) ∧
  (∀ (s : State), Runs s.dev →
    Completes .keyErase s (fun h => ∃ g : Head,
      g.keys = [] ∧ g.eng.tileKeys = [] ∧ g.eng.fpStates = [] ∧ (∀ w, fget g w CPH_ERASE_ERASED = 1 ∧ EventSet g w Ev.CPH_KEYS_ERASED) ∧
        EventSet g .east Ev.KEY_ERASED ∧ g.mem = s.dev.mem ∧ g.sram = s.dev.sram ∧
        g.cat = s.dev.cat ∧ g.vit = s.dev.vit ∧ h = contextKeys g))

/-- FRAME_TICK begins with the timebase (R27, R30): FRM_FRAME advances by 1 modulo 2^48 on both pages, slot 0 begins, the wire count is
the frame count plus WIRE_OFFSET modulo 2^16, and the running countdown falls by 1; the rest of the tick runs on the head so left.
SLOT_BOUNDARY enters the next slot of the frame on both pages, with FRM_TIME at its start. At the deadline with the schedule incomplete,
the next frame is a late-schedule frame (R33): it counts a build slip and raises BUILD_LATE as it begins (R48). It rests on choices of the
model: log entries 32, 188. -/
def Obligations.FrameAndSlotAdvance : Prop :=
  (∀ (s : State) (lateE lateW : Option Nat), Runs s.dev →
    Completes (.frameTick lateE lateW) s (fun h => ∃ g : Head,
      (∀ w, frameCount g w = (frameCount s.dev .east + 1) % 2 ^ 48 ∧ fget g w FRM_SLOT_SLOT = 0) ∧
      wireCount g = ((frameCount s.dev .east + 1) + fget s.dev .east FRM_WIRE_WIRE_OFFSET) % 2 ^ 16 ∧
      g.frm.countdown = s.dev.frm.countdown - 1 ∧ g.frm.tickTime = s.dev.frm.tickTime +
        ((frameNs (fget s.dev .east FRM_CTRL_LENGTH) : Nat) + s.dev.frm.trimNow +
          (s.dev.frm.slewCarry - (if ptpOn s.dev then s.dev.frm.slewNow else 0)) / 1000).toNat ∧
      g = { s.dev with regs := g.regs, frm := g.frm } ∧ h = tickRest g lateE lateW)) ∧
  (∀ (s : State), Runs s.dev → fget s.dev .east FRM_SLOT_SLOT < 31 →
    Completes .slotBoundary s (fun h =>
      (∀ w, fget h w FRM_SLOT_SLOT = fget s.dev .east FRM_SLOT_SLOT + 1) ∧
      frmTime h = (s.dev.frm.tickTime + (fget s.dev .east FRM_SLOT_SLOT + 1) * slotNs s.dev) % 2 ^ 64 ∧
      RegsBut s.dev h [(.frm, 0x04C), (.frm, 0x078), (.frm, 0x07C)] ∧ SameButRegs s.dev h)) ∧
  (∀ (s : State), Runs s.dev → fget s.dev .east FRM_SLOT_SLOT = 31 → Completes .slotBoundary s (fun h => h = s.dev)) ∧
  (∀ (s : State) (w : Wing), Runs s.dev → (if w = .east then s.dev.frm.builtE else s.dev.frm.builtW) = false →
    Completes (.scheduleDeadline w) s (fun h => h = { s.dev with
      frm := if w = .east then { s.dev.frm with lateE := true } else { s.dev.frm with lateW := true } })) ∧
  (∀ (g : Head) (w : Wing), (if w = .east then g.frm.lateE else g.frm.lateW) = true →
    let h := lateTick g w
    fget h w FRM_SLIP_BUILD_COUNT = min (fget g w FRM_SLIP_BUILD_COUNT + 1) (2 ^ 24 - 1) ∧ EventSet h w Ev.FRM_BUILD_LATE ∧
      EventSet h w Ev.FRM_SLIP ∧ (if w = .east then h.frm.lateE else h.frm.lateW) = false ∧
      RegsBut g h [(.frm, 0x010), (.frm, 0x064)] ∧ h = { g with regs := h.regs, evq := h.evq, frm := h.frm }) ∧
  (∀ (s : State) (w : Wing), Runs s.dev → (if w = .east then s.dev.frm.builtE else s.dev.frm.builtW) = true →
    Completes (.scheduleDeadline w) s (fun h => h = s.dev))

/-- R45 with R10 and R44: CHANGE written on a master or solo head with no countdown under way starts one of 15 markers with the length
announced; on a follower, locked or not, it is ignored with the configuration event (code 11); while a countdown runs, the head's own or
one that it took from the markers as a follower, it is ignored. At its end the announced length applies, CHANGE and COUNTDOWN clear, and
LENGTH_CHANGED is raised on both pages only where the length differs. -/
def Obligations.LengthChanges : Prop :=
  (∀ (s : State) (ini : Initiator), Runs s.dev → Writable s.dev ini (pg .frm .east) 0x044 →
    fget s.dev .east FRM_LENGTH_SET_CHANGE = 0 → s.dev.frm.countdown = 0 → fget s.dev .east FRM_CTRL_ROLE ≠ 2 →
    Completes (.lengthSetChange ini .east) s (fun h =>
      fget h .east FRM_LENGTH_SET_CHANGE = 1 ∧ h.frm.countdown = 16 ∧
        h.frm.announced = fget s.dev .east FRM_LENGTH_SET_NEXT_LENGTH ∧ RegsBut s.dev h [(.frm, 0x044)] ∧
        h = { reply s.dev false with regs := h.regs, frm := h.frm })) ∧
  (∀ (s : State) (ini : Initiator), Runs s.dev → Writable s.dev ini (pg .frm .east) 0x044 → sourceCode ini < 256 →
    fget s.dev .east FRM_CTRL_ROLE = 2 →
    Completes (.lengthSetChange ini .east) s (fun h =>
      (hget s.dev (pg .frm .east) ERR_INFO_VALID = 0 →
        Captured h (pg .frm .east) 11 (sourceCode ini) true (pageAddr (pg .frm .east) + 0x044)) ∧ (∀ w, EventSet h w Ev.FRM_CONFIG) ∧
        h.frm = s.dev.frm ∧ RegsBut s.dev h [(.frm, 0x010), (.frm, 0x020), (.frm, 0x024), (.frm, 0x028)])) ∧
  (∀ (s : State) (ini : Initiator), Runs s.dev → Writable s.dev ini (pg .frm .east) 0x044 →
    fget s.dev .east FRM_CTRL_ROLE ≠ 2 → fget s.dev .east FRM_LENGTH_SET_CHANGE = 1 ∨ 0 < s.dev.frm.countdown →
    Completes (.lengthSetChange ini .east) s (fun h => h = reply s.dev false)) ∧
  (∀ (s : State), Runs s.dev → s.dev.frm.lengthDue = true → s.dev.frm.announced < 3 →
    Completes .lengthChanged s (fun h =>
      fget h .east FRM_CTRL_LENGTH = s.dev.frm.announced ∧ fget h .east FRM_LENGTH_SET_CHANGE = 0 ∧
        fget h .east FRM_LENGTH_SET_COUNTDOWN = 0 ∧ h.frm.lengthDue = false ∧ h.frm.countdown = 0 ∧
        (∀ w, fget h w FRM_SLOT_SLOT_NS = frameNs s.dev.frm.announced / 32) ∧
        (s.dev.frm.announced ≠ fget s.dev .east FRM_CTRL_LENGTH → ∀ w, EventSet h w Ev.FRM_LENGTH_CHANGED) ∧
        (s.dev.frm.announced = fget s.dev .east FRM_CTRL_LENGTH → ∀ w, rd h (pg .frm w) 0x010 0 = rd s.dev (pg .frm w) 0x010 0) ∧
        RegsBut s.dev h [(.frm, 0x010), (.frm, 0x040), (.frm, 0x044), (.frm, 0x04C)]))

/-- A follower on a marker (R42), whose arrival, less the link's delay (R38), lies at its nearest local tick with a phase error: not
flagged, in phase and with the count it expects, it records the phase error, trims by at most MAX_TRIM and clears MISSED; one count apart
it slips, so that the tick the marker stands for has the marker's FCOUNT; two counts or more apart, or out of phase, it declares the
timebase lost on both pages. The eighth missed tick in a row of a locked follower does so too. A head that is no follower, or a marker of
a port it does not use (R153), changes nothing. It rests on choices of the model: log entries 35, 36, 37. -/
def Obligations.FollowerTracksMarkers : Prop :=
  (∀ (s : State) (port : Wing) (payload : Word) (arrival : Nat) (next : Bool) (phase : Int), Runs s.dev → isFollower s.dev = true →
    usesPort s.dev port = true → lockState s.dev = 1 → bitsOf payload 13 10 = 0 → markerPlace s.dev port arrival = (next, phase) →
    countDiff s.dev payload next = 0 → 2 * phase.natAbs ≤ slotNs s.dev →
    Completes (.tickMarker port payload false arrival) s (fun h =>
      (∀ w, fget h w FRM_LOCK_MISSED = 0 ∧ fget h w FRM_LOCK_STATE = fget s.dev w FRM_LOCK_STATE) ∧
      fget h .east FRM_LOCK_PHASE_ERR = ofSigned 16 phase ∧
      (if next then h.frm.trimNext else h.frm.trimNow) = limitTrim s.dev phase ∧
      (limitTrim s.dev phase).natAbs ≤ fget s.dev .east FRM_TRIM_MAX_TRIM ∧
      RegsBut s.dev h [(.frm, 0x048)] ∧ h = { s.dev with regs := h.regs, frm := h.frm })) ∧
  (∀ (s : State) (port : Wing) (payload : Word) (flagged : Bool) (arrival : Nat) (next : Bool) (phase : Int), Runs s.dev →
    isFollower s.dev = true → usesPort s.dev port = true → lockState s.dev = 1 → bitsOf payload 13 10 = 0 →
    markerPlace s.dev port arrival = (next, phase) → (countDiff s.dev payload next).natAbs = 1 →
    flagged = true ∨ 2 * phase.natAbs ≤ slotNs s.dev →
    wireCount s.dev = (frameCount s.dev + fget s.dev .east FRM_WIRE_WIRE_OFFSET) % 2 ^ 16 →
    Completes (.tickMarker port payload flagged arrival) s (fun h =>
      (wireCount h + ofBool next) % 2 ^ 16 = bitsOf payload 31 16 ∧
      wireCount h = (frameCount h + fget h .east FRM_WIRE_WIRE_OFFSET) % 2 ^ 16 ∧ frameCount h = frameCount s.dev ∧
      (∀ w, fget h w FRM_SLIP_TICK_COUNT = min (fget s.dev w FRM_SLIP_TICK_COUNT + 1) (2 ^ 24 - 1) ∧ EventSet h w Ev.FRM_SLIP ∧
        fget h w FRM_LOCK_MISSED = 0 ∧ fget h w FRM_LOCK_STATE = fget s.dev w FRM_LOCK_STATE) ∧
      (if next then h.frm.trimNext else h.frm.trimNow) =
        (if flagged then (if next then s.dev.frm.trimNext else s.dev.frm.trimNow) else limitTrim s.dev phase) ∧
      RegsBut s.dev h [(.frm, 0x010), (.frm, 0x048), (.frm, 0x058), (.frm, 0x060)] ∧
      h = { s.dev with regs := h.regs, evq := h.evq, frm := h.frm })) ∧
  (∀ (s : State) (port : Wing) (payload : Word) (flagged : Bool) (arrival : Nat) (next : Bool) (phase : Int), Runs s.dev →
    isFollower s.dev = true → usesPort s.dev port = true → lockState s.dev = 1 → bitsOf payload 13 10 = 0 →
    markerPlace s.dev port arrival = (next, phase) →
    2 ≤ (countDiff s.dev payload next).natAbs ∨ (flagged = false ∧ slotNs s.dev < 2 * phase.natAbs) →
    Completes (.tickMarker port payload flagged arrival) s (fun h =>
      ∀ w, fget h w FRM_LOCK_STATE = 2 ∧ fget h w FRM_LOCK_RUN = 0 ∧ EventSet h w Ev.FRM_TIMEBASE_LOST ∧
        fget h w FRM_SLIP_TICK_LOST = min (fget s.dev w FRM_SLIP_TICK_LOST + 1) 255)) ∧
  (∀ (s : State) (port : Wing) (payload : Word) (flagged : Bool) (arrival : Nat), Runs s.dev →
    isFollower s.dev = false ∨ usesPort s.dev port = false →
    Completes (.tickMarker port payload flagged arrival) s (fun h => h = s.dev)) ∧
  (∀ (s : State), Runs s.dev → isFollower s.dev = true → fget s.dev .east FRM_LOCK_MISSED < 7 →
    Completes .missedTick s (fun h =>
      (∀ w, fget h w FRM_LOCK_MISSED = fget s.dev .east FRM_LOCK_MISSED + 1) ∧ RegsBut s.dev h [(.frm, 0x048)] ∧
        SameButRegs s.dev h)) ∧
  (∀ (s : State), Runs s.dev → isFollower s.dev = true → fget s.dev .east FRM_LOCK_MISSED = 7 → lockState s.dev = 1 →
    Completes .missedTick s (fun h =>
      (∀ w, fget h w FRM_LOCK_STATE = 2 ∧ EventSet h w Ev.FRM_TIMEBASE_LOST) ∧ h.frm.trimNow = 0 ∧ h.frm.trimNext = 0)) ∧
  (∀ (s : State) (ini : Initiator) (v : Word), Runs s.dev → Writable s.dev ini (pg .frm .east) 0x070 →
    Completes (.ptpOffsetWrite ini v) s (fun h =>
      fget h .east FRM_PTP_OFFSET_OFFSET = v.toNat ∧ h.frm.slewLeft = 1000 * toSigned 32 v.toNat ∧ h.frm.slewNow = 0 ∧
        fget h .east FRM_PTP_CTRL_PTP_LOCKED = ofBool (fbit s.dev .east FRM_CTRL_PTP_EN &&
          decide ((toSigned 32 v.toNat).natAbs < fget s.dev .east FRM_PTP_CTRL_LOCK_WINDOW)) ∧
        RegsBut s.dev h [(.frm, 0x010), (.frm, 0x070), (.frm, 0x074)])) ∧
  (∀ (s : State) (ini : Initiator) (w : Wing), Runs s.dev → Writable s.dev ini (pg .frm w) 0x040 →
    Completes (.clrCounts ini w) s (fun h =>
      fget h w FRM_SLIP_TICK_COUNT = 0 ∧ fget h w FRM_SLIP_TICK_LOST = 0 ∧ fget h w FRM_SLIP_BUILD_COUNT = 0 ∧
        fget h w FRM_SLIP_WORK_COUNT = 0 ∧ RegsBut s.dev h [(.frm, 0x060), (.frm, 0x064), (.frm, 0x068)] ∧
        SameButRegs (reply s.dev false) h))

/-- A port's links, pauses and notifications (R82 to R85): an enabled link comes up or goes down with LINK_CHANGE; a degraded link is
marked; a pause is honoured on an enabled priority outside a storm, and what it held back is sent when it ends; a storm ends the pause
with PFC_STORM; a marked packet is answered with a CNP on RoCEv2 and with ECN-Echo on NVMe/TCP, and a CNP cuts a RoCEv2 queue pair's rate,
which recovers in steps; PTP event messages are delivered. It rests on choices of the model: log entries 41, 205. -/
def Obligations.FoyerPortsFollowTheirLinks : Prop :=
  (∀ (s : State) (w : Wing) (port link : Nat), Runs s.dev → link < linkCount s.dev w port →
    hget s.dev (pg .foy w port) RUNG_CURRENT ≠ 4 → (fget s.dev w FOY_PORT_MODE_LINK_EN 0 port).testBit link = true →
    Completes (.foyLinkChange w port link true) s (fun h =>
      (fget h w FOY_LINK_STATUS_UP 0 port).testBit link = true ∧ (fget h w FOY_LINK_STATUS_TRAINING 0 port).testBit link = false ∧
        EventSet h w Ev.FOY_LINK_CHANGE port ∧ RegsBut s.dev h [(.foy, 0x010), (.foy, 0x044)] ∧ SameButRegs s.dev h)) ∧
  (∀ (s : State) (w : Wing) (port link : Nat), Runs s.dev → link < linkCount s.dev w port →
    hget s.dev (pg .foy w port) RUNG_CURRENT ≠ 4 →
    Completes (.foyLinkChange w port link false) s (fun h =>
      (fget h w FOY_LINK_STATUS_UP 0 port).testBit link = false ∧ EventSet h w Ev.FOY_LINK_CHANGE port ∧
        RegsBut s.dev h [(.foy, 0x010), (.foy, 0x044)] ∧ SameButRegs s.dev h)) ∧
  (∀ (s : State) (w : Wing) (port link : Nat), Runs s.dev → (fget s.dev w FOY_LINK_STATUS_UP 0 port).testBit link = true →
    Completes (.fecDegraded w port link) s (fun h =>
      (fget h w FOY_LINK_STATUS_FEC_DEGRADED 0 port).testBit link = true ∧
        fget h w FOY_LINK_STATUS_UP 0 port = fget s.dev w FOY_LINK_STATUS_UP 0 port ∧ EventSet h w Ev.FOY_LINK_CHANGE port ∧
        RegsBut s.dev h [(.foy, 0x010), (.foy, 0x044)] ∧ SameButRegs s.dev h)) ∧
  (∀ (s : State) (w : Wing) (port prio : Nat), Runs s.dev →
    (fget s.dev w FOY_PFC_PFC_EN 0 port).testBit prio = true → s.dev.foy.storm.contains (prioKey w port prio) = false →
    Completes (.pauseFrame w port prio true) s (fun h =>
      h.foy.paused.contains (prioKey w port prio) = true ∧
        (∀ k, k ≠ prioKey w port prio → h.foy.paused.contains k = s.dev.foy.paused.contains k) ∧
        h = { s.dev with foy := { s.dev.foy with paused := h.foy.paused } })) ∧
  (∀ (s : State) (w : Wing) (port prio : Nat), Runs s.dev →
    (fget s.dev w FOY_PFC_PFC_EN 0 port).testBit prio = true → s.dev.foy.storm.contains (prioKey w port prio) = false →
    Completes (.pauseFrame w port prio false) s (fun h =>
      h.foy.paused.contains (prioKey w port prio) = false ∧
        (∀ k, k ≠ prioKey w port prio → h.foy.paused.contains k = s.dev.foy.paused.contains k) ∧
        h.out = s.dev.out ++ (s.dev.foy.pausedOut.filter (fun e => e.1 == prioKey w port prio)).map (·.2) ∧
        h.foy.pausedOut = s.dev.foy.pausedOut.filter (fun e => e.1 != prioKey w port prio) ∧
        h = { s.dev with out := h.out, foy := { s.dev.foy with paused := h.foy.paused, pausedOut := h.foy.pausedOut } })) ∧
  (∀ (s : State) (w : Wing) (port prio : Nat), Runs s.dev → s.dev.foy.paused.contains (prioKey w port prio) = true →
    fget s.dev w FOY_PFC_STORM_MS 0 port ≠ 0 →
    Completes (.pfcStorm w port prio) s (fun h =>
      h.foy.paused.contains (prioKey w port prio) = false ∧ h.foy.storm.contains (prioKey w port prio) = true ∧
        h.out = s.dev.out ++ (s.dev.foy.pausedOut.filter (fun e => e.1 == prioKey w port prio)).map (·.2) ∧
        EventSet h w Ev.FOY_PFC_STORM port ∧ RegsBut s.dev h [(.foy, 0x010)])) ∧
  (∀ (s : State) (w : Wing) (port prio : Nat), Runs s.dev →
    Completes (.pfcStormEnd w port prio) s (fun h =>
      h.foy.storm.contains (prioKey w port prio) = false ∧ h = { s.dev with foy := { s.dev.foy with storm := h.foy.storm } })) ∧
  (∀ (s : State) (w : Wing) (port ctx : Nat), Runs s.dev → ctxType s.dev w ctx = 1 →
    Completes (.ceMarkedPacket w port ctx) s (fun h =>
      h = { s.dev with out := s.dev.out ++ (if fget s.dev w FOY_ECN_CNP_EN 0 port = 1 then [.cnp w port ctx] else []) })) ∧
  (∀ (s : State) (w : Wing) (port ctx : Nat), Runs s.dev → ctxType s.dev w ctx = 2 →
    Completes (.ceMarkedPacket w port ctx) s (fun h =>
      h.out = s.dev.out ++ [.tcpEcho w port ctx] ∧ (ctxInfo h w ctx).ece = true ∧
        h = { s.dev with out := h.out, foy := { s.dev.foy with ctx := h.foy.ctx } })) ∧
  (∀ (s : State) (w : Wing) (port ctx : Nat), Runs s.dev → ctxType s.dev w ctx ≠ 1 → ∀ c ∈ [Instr.cnpReceived w port ctx, .rateRecover w port ctx],
    Completes c s (fun h => h = s.dev)) ∧
  (∀ (s : State) (w : Wing) (port ctx : Nat), Runs s.dev → ctxType s.dev w ctx = 1 →
    Completes (.cnpReceived w port ctx) s (fun h =>
      (ctxInfo h w ctx).rate = (ctxInfo s.dev w ctx).rate * (256 - fget s.dev w FOY_ECN_RATE_CUT 0 port) / 256 ∧
        (ctxInfo h w ctx).port = (ctxInfo s.dev w ctx).port ∧ h = { s.dev with foy := { s.dev.foy with ctx := h.foy.ctx } })) ∧
  (∀ (s : State) (w : Wing) (port ctx : Nat), Runs s.dev → ctxType s.dev w ctx = 1 →
    Completes (.rateRecover w port ctx) s (fun h =>
      (ctxInfo h w ctx).rate = min (linkRate s.dev w port) ((ctxInfo s.dev w ctx).rate + Config.rateStep) ∧
        h = { s.dev with foy := { s.dev.foy with ctx := h.foy.ctx } })) ∧
  (∀ (s : State) (w : Wing) (port time : Nat), Runs s.dev →
    Completes (.ptpEventMessage w port time) s (fun h =>
      h = { s.dev with out := s.dev.out ++ (if fget s.dev w FOY_TS_PTP_TS_EN 0 port = 1 then [.ptpEvent w port time] else []) }))

/-- Transport contexts (R86 to R90, R115): a request that the head supports, on a port that is not fenced, takes a context that was free,
whichever it is, not authenticated; authentication in the lane by a usable credential, in-band or by a TLS handshake that offers what the
head has, sets AUTHENTICATED and COLL, and any failure leaves AUTHENTICATED 0 with AUTH_FAIL, a failed handshake with an alert (R113);
FOQ_CTX_BIND binds a context or, with nothing in flight, frees it; a collection's rate is held pending under its index, and a 257th entry
is ignored. It rests on choices of the model: log entries 40, 41, 195, 196. -/
def Obligations.ContextsAreBoundAndFreed : Prop :=
  (∀ (s : State) (w : Wing) (port type pmtu : Nat), Runs s.dev → hget s.dev (pg .foy w port) STATUS_FENCED = 0 →
    connectable type pmtu = true → (∃ c, c < 32768 ∧ fget s.dev w FOQ_CTX_BIND_TYPE c = 0) →
    Completes (.connectionRequest w port type pmtu) s (fun h => ∃ c, c < 32768 ∧ fget s.dev w FOQ_CTX_BIND_TYPE c = 0 ∧
      fget h w FOQ_CTX_BIND_TYPE c = type ∧ fget h w FOQ_CTX_STATE_AUTHENTICATED c = 0 ∧ (ctxInfo h w c).port = port ∧
        h.out = s.dev.out ++ [.connection w port (some c)] ∧ RegsBut s.dev h [(.foq, 0x05C), (.foq, 0x060)] ∧
        (∀ d, d < 32768 → d ≠ c → rd h (pg .foq w) 0x05C d = rd s.dev (pg .foq w) 0x05C d ∧
          rd h (pg .foq w) 0x060 d = rd s.dev (pg .foq w) 0x060 d))) ∧
  (∀ (s : State) (w : Wing) (port type pmtu : Nat), Runs s.dev →
    hget s.dev (pg .foy w port) STATUS_FENCED = 1 ∨ connectable type pmtu = false →
    Completes (.connectionRequest w port type pmtu) s (fun h => h = { s.dev with out := s.dev.out ++ [.connection w port none] })) ∧
  (∀ (s : State) (w : Wing) (ctx : Nat) (kind : AuthKind), Runs s.dev → authCarried s.dev w ctx kind = true → authOffered kind = true →
    credentialUsable s.dev (fget s.dev w FOQ_CTX_BIND_CRED_SLOT ctx) = true →
    Completes (.authComplete w ctx true kind) s (fun h =>
      fget h w FOQ_CTX_STATE_AUTHENTICATED ctx = 1 ∧
        fget h w FOQ_CTX_STATE_COLL ctx = slotColl s.dev (fget s.dev w FOQ_CTX_BIND_CRED_SLOT ctx) % 4096 ∧
        fget h w FOQ_CTX_STATE_TLS ctx = (if isTls kind then 1 else fget s.dev w FOQ_CTX_STATE_TLS ctx) ∧
        RegsBut s.dev h [(.foq, 0x060)] ∧ SameButRegs s.dev h)) ∧
  (∀ (s : State) (w : Wing) (ctx : Nat) (good : Bool) (kind : AuthKind), Runs s.dev → authCarried s.dev w ctx kind = true →
    good = false ∨ authOffered kind = false ∨ credentialUsable s.dev (fget s.dev w FOQ_CTX_BIND_CRED_SLOT ctx) = false →
    Completes (.authComplete w ctx good kind) s (fun h =>
      let port := (ctxInfo s.dev w ctx).port
      fget h w FOQ_CTX_STATE_AUTHENTICATED ctx = 0 ∧ EventSet h w Ev.FOY_AUTH_FAIL port ∧
        (isTls kind = true → EventSet h w Ev.FOY_TLS_ALERT port) ∧
        h.out = s.dev.out ++ (if isTls kind then [.tlsAlert w port ctx] else []))) ∧
  (∀ (s : State) (ini : Initiator) (w : Wing) (v : Word), Runs s.dev → Writable s.dev ini (pg .foq w) 0x05C →
    bitsOf v 31 30 = 1 ∨ bitsOf v 31 30 = 2 → fget s.dev w FOQ_CTX_STATE_AUTHENTICATED (fget s.dev w FOQ_CTX_INDEX_INDEX) = 0 →
    Completes (.ctxBindWrite ini w v) s (fun h =>
      let ctx := fget s.dev w FOQ_CTX_INDEX_INDEX
      fget h w FOQ_CTX_BIND_TYPE ctx = bitsOf v 31 30 ∧ fget h w FOQ_CTX_BIND_DISCOVERY ctx = bitsOf v 29 29 ∧
        fget h w FOQ_CTX_BIND_CRED_SLOT ctx = bitsOf v 12 0 ∧ RegsBut s.dev h [(.foq, 0x05C)] ∧
        SameButRegs (reply s.dev false) h)) ∧
  (∀ (s : State) (ini : Initiator) (w : Wing) (v : Word), Runs s.dev → Writable s.dev ini (pg .foq w) 0x05C → bitsOf v 31 30 = 0 →
    fget s.dev w FOQ_CTX_STATE_INFLIGHT (fget s.dev w FOQ_CTX_INDEX_INDEX) = 0 →
    fget s.dev w FOQ_CTX_BIND_TYPE (fget s.dev w FOQ_CTX_INDEX_INDEX) ≠ 3 →
    Completes (.ctxBindWrite ini w v) s (fun h =>
      let ctx := fget s.dev w FOQ_CTX_INDEX_INDEX
      fget h w FOQ_CTX_BIND_TYPE ctx = 0 ∧ fget h w FOQ_CTX_STATE_AUTHENTICATED ctx = 0 ∧ fget h w FOQ_CTX_STATE_TLS ctx = 0 ∧
        fget h w FOQ_CTX_STATE_COLL ctx = 0 ∧ RegsBut s.dev h [(.foq, 0x05C), (.foq, 0x060)])) ∧
  (∀ (s : State) (ini : Initiator) (w : Wing) (v : Word), Runs s.dev → Writable s.dev ini (pg .foq w) 0x068 →
    pendingEntries s.dev < 256 →
    Completes (.collEntryWrite ini w false v) s (fun h => ∃ val mask : Word,
      tabGet? h.pend (regKey (pg .foq w) 0x068 (fget s.dev w FOQ_COLL_INDEX_INDEX)) = some (val, mask) ∧
        bitsOf val 15 0 = bitsOf v 15 0 ∧ bitsOf mask 15 0 = 0xFFFF ∧ RegsBut s.dev h [])) ∧
  (∀ (s : State) (ini : Initiator) (w : Wing) (v : Word), Runs s.dev → Writable s.dev ini (pg .foq w) 0x068 →
    256 ≤ pendingEntries s.dev → tabHas s.dev.pend (regKey (pg .foq w) 0x068 (fget s.dev w FOQ_COLL_INDEX_INDEX)) = false →
    Completes (.collEntryWrite ini w false v) s (fun h =>
      h.pend = s.dev.pend ∧ EventSet h w Ev.FOQ_CONFIG ∧
        RegsBut s.dev h [(.foq, 0x010), (.foq, 0x020), (.foq, 0x024), (.foq, 0x028)]))

/-- R104: a capsule whose command identifier equals that of an outstanding command on the same submission queue completes with Command ID
Conflict and raises DUPLICATE_CID; the outstanding commands are not affected: those that wait, those admitted, and those passed to array
software. -/
def Obligations.DuplicateIdentifierIsRefused : Prop :=
  ∀ (s : State) (c : Capsule), Runs s.dev → CapsuleTaken s.dev c → HostListens s.dev c →
    (∃ y : Capsule, ((∃ x ∈ s.dev.foy.waiting, x.cap = y) ∨ (∃ k x, (k, x) ∈ s.dev.foy.cmds ∧ x.via = none ∧ x.cap = y) ∨
        y ∈ s.dev.foy.passed) ∧ y.wing = c.wing ∧ y.ctx = c.ctx ∧ y.queue = c.queue ∧ y.cid = c.cid) →
    ∀ i ∈ [Instr.commandCapsule c, .keepAlive c],
    Completes i s (fun h =>
      h.out = s.dev.out ++ [hostAnswer s.dev c ⟨0, 0x03, true⟩] ∧ EventSet h c.wing Ev.FOY_DUPLICATE_CID c.port ∧
        h.foy.waiting = s.dev.foy.waiting ∧ h.foy.cmds = s.dev.foy.cmds ∧ h.foy.passed = s.dev.foy.passed)

/-- A capsule in order (R93): a read or flush of an authenticated context to a namespace of its collection that this head reaches waits
for admission behind those before it; one to another collection's namespace ends with Invalid Namespace and COLL_REFUSED; a fabrics
command, and an admin command of a context that reaches a controller (R88), pass to array software (R91). A wing at a bound or paused
takes none, and one that the transport does not deliver changes nothing (R89, R90, R99, R102). Keep Alive is answered in hardware (R91).
It rests on choices of the model: log entries 43, 44, 196, 197. -/
def Obligations.CapsulesAreCheckedInOrder : Prop :=
  (∀ (s : State) (c : Capsule) (n : Namespace) (fwd : Bool), Runs s.dev → CapsuleTaken s.dev c → cidInUse s.dev c = false →
    fget s.dev c.wing FOQ_CTX_STATE_AUTHENTICATED c.ctx = 1 → nsGet? s.dev c.nsid = some n →
    n.coll = fget s.dev c.wing FOQ_CTX_STATE_COLL c.ctx → c.op = .read ∨ c.op = .flush → c.count ≤ 512 → c.appTag = false →
    c.reserved = false → anaCheck s.dev n = (none, fwd) →
    Completes (.commandCapsule c) s (fun h =>
      h.foy.waiting = s.dev.foy.waiting ++ [newCmd c n.coll fwd] ∧ h.foy.cmds = s.dev.foy.cmds ∧
        h.out = s.dev.out ∧ h.mem = s.dev.mem ∧ h.vit = s.dev.vit ∧ h.cat = s.dev.cat)) ∧
  (∀ (s : State) (c : Capsule) (n : Namespace), Runs s.dev → CapsuleTaken s.dev c → HostListens s.dev c → cidInUse s.dev c = false →
    c.op ≠ .fabrics → c.op ≠ .admin → fget s.dev c.wing FOQ_CTX_STATE_AUTHENTICATED c.ctx = 1 → nsGet? s.dev c.nsid = some n →
    n.coll ≠ fget s.dev c.wing FOQ_CTX_STATE_COLL c.ctx →
    Completes (.commandCapsule c) s (fun h =>
      h.out = s.dev.out ++ [hostAnswer s.dev c ⟨0, 0x0B, true⟩] ∧
        EventSet h c.wing Ev.FOQ_COLL_REFUSED ∧ h.foy.waiting = s.dev.foy.waiting)) ∧
  (∀ (s : State) (c : Capsule), Runs s.dev → CapsuleTaken s.dev c → cidInUse s.dev c = false →
    c.op = .fabrics ∨ (c.op = .admin ∧ ctxReaches s.dev c = true) →
    Completes (.commandCapsule c) s (fun h =>
      h.foy.passed = s.dev.foy.passed ++ [c] ∧ h.out = s.dev.out ++ [.exception c.wing c] ∧ h.foy.waiting = s.dev.foy.waiting ∧
        h.foy.cmds = s.dev.foy.cmds)) ∧
  (∀ (s : State) (c : Capsule), Runs s.dev → fetchHeld s.dev c.wing = true ∨ notDelivered s.dev c = true →
    ∀ i ∈ [Instr.commandCapsule c, .keepAlive c], Completes i s (fun h => h = s.dev)) ∧
  (∀ (s : State) (c : Capsule), Runs s.dev → CapsuleTaken s.dev c → HostListens s.dev c → cidInUse s.dev c = false →
    Completes (.keepAlive c) s (fun h =>
      h.out = s.dev.out ++ [hostAnswer s.dev c (if ctxReaches s.dev c then ⟨0, 0x00, false⟩ else ⟨0, 0x0B, true⟩)] ∧
        h.foy.waiting = s.dev.foy.waiting ∧ h.foy.cmds = s.dev.foy.cmds))

/-- Admission gives the first waiting command of its collection the least free host tag and counts it (R95, R99), with the data that came
with it; one whose data fails the host protection check ends with that status and PI_ERROR, its tag free again (R92, R93 step 7);
BOUND_LONG is raised after FOQ_STALL_THRESH stalled frames (R101); RESUME clears PAUSED unless the responder acts in the same cycle
(R102). A fused record is deleted on its acknowledgement and at the end of its hold, and only that record (R106). A command whose
condition is met goes to the host, its tag and its context's place are free again (R108); a read's data go before its completion (R111),
and a compare ends by what the head has of its granules (R91); a command that failed carries the NVMe status of its result (R110); array
software completes what it took from the exception ring (R91). It rests on choices of the model: log entries 49, 198, 199, 203. -/
def Obligations.AdmissionAndCompletion : Prop :=
  (∀ (s : State) (w : Wing) (ctx queue cid t : Nat) (c : HostCmd) (before : List HostCmd) (data : List Nat) (pi : List PiTuple),
    Runs s.dev → findWaiting s.dev w ctx queue cid = some (c, before) → inOrder s.dev c before = true →
    admissionClosed s.dev c.cap = false → c.cap.op ≠ .compareWrite → rangeLocked s.dev c.cap = false → c.fwd = false →
    overQuota s.dev c = false → heldBack s.dev w c = false → freeTag s.dev w = some t →
    (takeCredit s.dev w c.coll (cmdCost c.cap)).isSome = true → piFails c.cap data pi = none →
    Completes (.commandAdmit w ctx queue cid data pi) s (fun h =>
      tabGet? h.foy.cmds (tagKey w t) = some { c with data := data } ∧
        (∀ x ∈ h.foy.waiting, ¬ (x.cap.wing = w ∧ x.cap.ctx = ctx ∧ x.cap.queue = queue ∧ x.cap.cid = cid)) ∧
        fget h w FOQ_TAGS_IN_USE = min (fget s.dev w FOQ_TAGS_IN_USE + 1) 65535 ∧
        fget h w FOQ_CTX_STATE_INFLIGHT ctx = min (fget s.dev w FOQ_CTX_STATE_INFLIGHT ctx + 1) 65535 ∧ h.out = s.dev.out ∧
        h.mem = s.dev.mem)) ∧
  (∀ (s : State) (w : Wing) (ctx queue cid t : Nat) (c : HostCmd) (before : List HostCmd) (data : List Nat) (pi : List PiTuple)
      (st : NvmeStatus), Runs s.dev → findWaiting s.dev w ctx queue cid = some (c, before) → inOrder s.dev c before = true →
    admissionClosed s.dev c.cap = false → c.cap.op ≠ .compareWrite → rangeLocked s.dev c.cap = false → overQuota s.dev c = false →
    heldBack s.dev w c = false → freeTag s.dev w = some t → (takeCredit s.dev w c.coll (cmdCost c.cap)).isSome = true →
    piFails c.cap data pi = some st → c.via = none → HostListens s.dev c.cap →
    Completes (.commandAdmit w ctx queue cid data pi) s (fun h =>
      h.out = s.dev.out ++ [hostAnswer s.dev c.cap st] ∧ EventSet h w Ev.FOY_PI_ERROR c.cap.port ∧
        tabGet? h.foy.cmds (tagKey w t) = none ∧
        (∀ x ∈ h.foy.waiting, ¬ (x.cap.wing = w ∧ x.cap.ctx = ctx ∧ x.cap.queue = queue ∧ x.cap.cid = cid)) ∧ h.mem = s.dev.mem)) ∧
  (∀ (s : State) (w : Wing), Runs s.dev → fget s.dev w FOQ_STALL_THRESH_FRAMES ≠ 0 →
    fget s.dev w FOQ_STALL_THRESH_FRAMES ≤ (if w = .east then s.dev.foy.runE else s.dev.foy.runW) →
    Completes (.boundLong w) s (fun h =>
      EventSet h w Ev.FOQ_BOUND_LONG ∧ RegsBut s.dev h [(.foq, 0x010)] ∧ SameButRegs s.dev h)) ∧
  (∀ (s : State) (ini : Initiator) (w : Wing) (again : Bool), Runs s.dev → Writable s.dev ini (pg .foq w) 0x040 →
    Completes (.foqResume ini w again) s (fun h =>
      fget h w FOQ_FETCH_PAUSED = (if again then fget s.dev w FOQ_FETCH_PAUSED else 0) ∧ RegsBut s.dev h [(.foq, 0x044)] ∧
        SameButRegs (reply s.dev false) h)) ∧
  (∀ (s : State) (host nsid slba cid : Nat), Runs s.dev → ∀ c ∈ [Instr.fusedRecordAck host nsid slba cid, .fusedHoldExpiry host nsid slba cid],
    Completes c s (fun h =>
      (∀ r, r ∈ h.foy.fused ↔ r ∈ s.dev.foy.fused ∧ ¬ (r.host = host ∧ r.nsid = nsid ∧ r.slba = slba ∧ r.cid = cid)) ∧
        (∀ w, fget h w FOQ_FUSED_RECORDS = h.foy.fused.length % 65536) ∧ RegsBut s.dev h [(.foq, 0x078)] ∧
        h = { s.dev with regs := h.regs, foy := { s.dev.foy with fused := h.foy.fused } })) ∧
  (∀ (s : State) (w : Wing) (tag : Nat) (c : HostCmd) (n : Namespace), Runs s.dev → CmdEnds s.dev w tag c →
    c.cap.op = .write ∨ c.cap.op = .flush → syncBroken s.dev c.coll = false →
    writeDone s.dev c = true → nsGet? s.dev c.cap.nsid = some n →
    Completes (.hostCompletion w (.tag tag .done)) s (fun h =>
      h.out = s.dev.out ++ [hostAnswer s.dev c.cap ⟨0, 0, false⟩] ∧
        tabGet? h.foy.cmds (tagKey w tag) = none ∧ fget h w FOQ_TAGS_IN_USE = fget s.dev w FOQ_TAGS_IN_USE - 1 ∧
        fget h w FOQ_CTX_STATE_INFLIGHT c.cap.ctx = fget s.dev w FOQ_CTX_STATE_INFLIGHT c.cap.ctx - 1 ∧ h.mem = s.dev.mem ∧
        h.vit = s.dev.vit)) ∧
  (∀ (s : State) (w : Wing) (tag : Nat) (c : HostCmd) (n : Namespace) (data : List Nat), Runs s.dev → CmdEnds s.dev w tag c →
    c.cap.op = .read → c.cap.pract = false → nsGet? s.dev c.cap.nsid = some n → readFailure s.dev c.cap c.coll n = none →
    readData s.dev c.cap c.coll n = some data → data ≠ [] →
    Completes (.hostCompletion w (.tag tag .done)) s (fun h =>
      h.out = s.dev.out ++ [.hostData w c.cap.port (prioOf s.dev w c.cap.port false) c.cap.ctx c.cap.queue c.cap.cid
          (ctxType s.dev w c.cap.ctx == 1) (tlsRecords s.dev w c.cap.ctx (4096 * data.length)) data [],
        hostAnswer s.dev c.cap ⟨0, 0, false⟩] ∧ tabGet? h.foy.cmds (tagKey w tag) = none ∧ h.mem = s.dev.mem)) ∧
  (∀ (s : State) (w : Wing) (tag : Nat) (c : HostCmd) (n : Namespace) (data : List Nat), Runs s.dev → CmdEnds s.dev w tag c →
    c.cap.op = .compare ∨ c.cap.op = .verify → nsGet? s.dev c.cap.nsid = some n → readFailure s.dev c.cap c.coll n = none →
    readData s.dev c.cap c.coll n = some data →
    Completes (.hostCompletion w (.tag tag .done)) s (fun h =>
      h.out = s.dev.out ++ [hostAnswer s.dev c.cap
        (if c.cap.op = .verify ∨ data = c.data then ⟨0, 0, false⟩ else ⟨2, 0x85, true⟩)] ∧
        tabGet? h.foy.cmds (tagKey w tag) = none ∧ h.mem = s.dev.mem)) ∧
  (∀ (s : State) (w : Wing) (tag : Nat) (c : HostCmd) (st : Status), Runs s.dev → CmdEnds s.dev w tag c →
    c.cap.op ≠ .compareWrite → st = .collMismatch ∨ st = .keyInvalid ∨ st = .mediaFail →
    Completes (.hostCompletion w (.tag tag st)) s (fun h =>
      h.out = s.dev.out ++ [hostAnswer s.dev c.cap
        (if st = .collMismatch then ⟨0, 0x0B, true⟩ else if st = .keyInvalid then ⟨2, 0x86, true⟩ else ⟨2, 0x81, true⟩)] ∧
        tabGet? h.foy.cmds (tagKey w tag) = none)) ∧
  (∀ (s : State) (w : Wing) (c : Capsule) (sct sc : Nat) (dnr : Bool), Runs s.dev → c.wing = w → HostListens s.dev c →
    s.dev.foy.passed.find? (sameCid c) = some c →
    Completes (.hostCompletion w (.software c.ctx c.queue c.cid sct sc dnr)) s (fun h =>
      h.out = s.dev.out ++ [hostAnswer s.dev c ⟨sct, sc, dnr⟩] ∧ h.foy.passed = s.dev.foy.passed.filter (fun x => !sameCid c x) ∧
        h.foy.cmds = s.dev.foy.cmds))

/-- MFT_OPEN opens an IDLE context whose peer is bound, authenticated and not this head, whose cache is set and whose port carries its
packets, with CWND at INIT_WIN within MIN_WIN and MAX_WIN (R133, R139). MFT_CLOSE ends what is posted with ABORTED and leaves CLOSING,
which ends in IDLE once nothing is in flight. It rests on choices of the model: log entry 69. -/
def Obligations.MehrorContextsOpenAndClose : Prop :=
  (∀ (s : State) (ini : Initiator) (w : Wing) (ctx : Nat), Runs s.dev → Writable s.dev ini (pg .mft w) 0x078 →
    ctx = fget s.dev w MFT_CTX_INDEX_INDEX → mftState s.dev w ctx = 0 → fget s.dev w FOQ_CTX_BIND_TYPE ctx = 3 →
    fget s.dev w FOQ_CTX_STATE_AUTHENTICATED ctx = 1 → fget s.dev w MFT_CTX_PEER_NODE ctx ≠ fget s.dev .east MFT_NODE_NODE_ID →
    pget s.dev w MFT_CTX_CACHE_LO_ADDR MFT_CTX_CACHE_HI_ADDR ctx ≠ 0 →
    maxPayload s.dev w ctx + 112 ≤ fget s.dev w FOY_MTU_MTU 0 (fget s.dev w MFT_CTX_PATH_PORT ctx) →
    Completes (.mftOpen ini w) s (fun h =>
      mftState h w ctx = 1 ∧ fget h w MFT_CTX_STATE_CWND ctx =
          min 4096 (min (fget s.dev w MFT_CC_MAX_WIN) (max (fget s.dev w MFT_CC_MD_MIN_WIN) (fget s.dev w MFT_CC_INIT_WIN))) ∧
          fget h w MFT_CTX_RECV_POSTED ctx = 0 ∧
        (∀ d, d < 32768 → d ≠ ctx → rd h (pg .mft w) 0x07C d = rd s.dev (pg .mft w) 0x07C d) ∧
        RegsBut s.dev h [(.mft, 0x07C), (.mft, 0x08C)] ∧ h.mem = s.dev.mem ∧ h.eng = s.dev.eng ∧ h.out = s.dev.out)) ∧
  (∀ (s : State) (ini : Initiator) (w : Wing) (ctx : Nat), Runs s.dev → Writable s.dev ini (pg .mft w) 0x078 →
    ctx = fget s.dev w MFT_CTX_INDEX_INDEX → mftState s.dev w ctx = 1 →
    Completes (.mftClose ini w) s (fun h =>
      let c := mftGet s.dev w ctx
      mftState h w ctx = 3 ∧ (mftGet h w ctx).ops = [] ∧ (mftGet h w ctx).posts = [] ∧ (mftGet h w ctx).queue = [] ∧
        (mftGet h w ctx).held = [] ∧ h.eng.ops = s.dev.eng.ops.map (fun o =>
          if o.cls = .mft ∧ o.wing = w ∧ o.tag ∈ c.ops.map (·.tag) ++ c.posts.map (·.tag) ∧ o.ready = false ∧ o.held = false then
            { o with status := .aborted, bytes := 0, word := 0, place := [], ready := true }
          else o) ∧
        RegsBut s.dev h [(.mft, 0x07C), (.mft, 0x08C)] ∧ h.mem = s.dev.mem ∧ h.out = s.dev.out)) ∧
  (∀ (s : State) (w : Wing) (ctx : Nat), Runs s.dev → ctx < 32768 → mftState s.dev w ctx = 3 →
    fget s.dev w FOQ_CTX_STATE_INFLIGHT ctx = 0 →
    Completes (.closeDone w ctx) s (fun h =>
      mftState h w ctx = 0 ∧ (∀ d, d < 32768 → d ≠ ctx → rd h (pg .mft w) 0x07C d = rd s.dev (pg .mft w) 0x07C d) ∧
        RegsBut s.dev h [(.mft, 0x07C)] ∧ SameButRegs s.dev h))

/-- Work posted on a Mehror ring (R138): a WRITE and a SEND are split into packets of MAX_PAYLOAD, a READ into requests of at most 64
chunks, an atomic is one packet; each joins the context's queue, counts in its INFLIGHT, and is sent as the window allows. A receive
buffer joins those posted, up to 1,024 (R135). Memory is unchanged until packets arrive. It rests on choices of the model: log entry 71. -/
def Obligations.MehrorWorkIsPosted : Prop :=
  (∀ (s : State) (w : Wing) (src : Source) (t : Taken) (h' : Head) (a : Nat), Runs s.dev → Starts s.dev w .mft src 1 t h' →
    MftPosted h' w t a → 1 ≤ mdLen t.d → mdLen t.d ≤ 2 ^ 24 →
    Completes (.mftDescWrite w src) s (fun h => ∃ (g : Head) (pkts : List MftOut),
      let ctx := mdCtx t.d
      let mp := maxPayload h' w ctx
      Joined (fadd h' w FOQ_CTX_STATE_INFLIGHT 1 ctx) g { newOp .mft w t with chan := ctx, prio := 1, ready := false } ∧
        pkts.length = (mdLen t.d + mp - 1) / mp ∧
        (∀ i q, pkts[i]? = some q → q.pkt.opcode = 1 ∧ q.n = 1 ∧ q.tag = dTag t.d ∧ q.pkt.rkey = mdRkey t.d ∧
          q.pkt.offset = mdRoff t.d + i * mp ∧ q.pkt.paylen = min mp (mdLen t.d - i * mp) ∧
          q.pkt.data = memRead s.dev (a + i * mp) q.pkt.paylen) ∧
        h = pumpAll (mftUpd g w ctx (fun c => { c with ops := c.ops ++ [⟨dTag t.d, 1, a, mdLen t.d⟩], queue := c.queue ++ pkts })) w ctx ∧
        h.mem = s.dev.mem)) ∧
  (∀ (s : State) (w : Wing) (src : Source) (t : Taken) (h' : Head) (a : Nat), Runs s.dev → Starts s.dev w .mft src 3 t h' →
    MftPosted h' w t a → 1 ≤ mdLen t.d → mdLen t.d ≤ 2 ^ 20 →
    Completes (.mftDescSend w src) s (fun h => ∃ (g : Head) (pkts : List MftOut),
      let ctx := mdCtx t.d
      let mp := maxPayload h' w ctx
      Joined (mftUpd (fadd h' w FOQ_CTX_STATE_INFLIGHT 1 ctx) w ctx (fun c => { c with sndMsg := (c.sndMsg + 1) % 2 ^ 32 })) g
          { newOp .mft w t with chan := ctx, prio := 1, ready := false } ∧
        pkts.length = (mdLen t.d + mp - 1) / mp ∧
        (∀ i q, pkts[i]? = some q → q.pkt.opcode = 4 ∧ q.n = 1 ∧ q.tag = dTag t.d ∧ q.pkt.msgId = (mftGet h' w ctx).sndMsg ∧
          q.pkt.msgLen = mdLen t.d ∧ q.pkt.solicited = dEvent t.d ∧ q.pkt.imm = dBits t.d 40 32 ∧ q.pkt.offset = i * mp ∧
          q.pkt.paylen = min mp (mdLen t.d - i * mp) ∧ q.pkt.data = memRead s.dev (a + i * mp) q.pkt.paylen) ∧
        h = pumpAll (mftUpd g w ctx (fun c => { c with ops := c.ops ++ [⟨dTag t.d, 3, a, mdLen t.d⟩], queue := c.queue ++ pkts })) w ctx ∧
        h.mem = s.dev.mem)) ∧
  (∀ (s : State) (w : Wing) (src : Source) (t : Taken) (h' : Head) (a : Nat), Runs s.dev → Starts s.dev w .mft src 2 t h' →
    MftPosted h' w t a → 1 ≤ mdLen t.d → mdLen t.d ≤ 2 ^ 24 →
    Completes (.mftDescRead w src) s (fun h => ∃ (g : Head) (pkts : List MftOut),
      let ctx := mdCtx t.d
      let chunk := maxPayload h' w ctx
      let mp := 64 * chunk
      Joined (fadd h' w FOQ_CTX_STATE_INFLIGHT 1 ctx) g { newOp .mft w t with chan := ctx, prio := 1, ready := false } ∧
        pkts.length = (mdLen t.d + mp - 1) / mp ∧
        (∀ i q, pkts[i]? = some q → q.pkt.opcode = 2 ∧ q.tag = dTag t.d ∧ q.wait = true ∧ q.pkt.rkey = mdRkey t.d ∧
          q.pkt.offset = mdRoff t.d + i * mp ∧ q.pkt.len = min mp (mdLen t.d - i * mp) ∧ q.n = (q.pkt.len + chunk - 1) / chunk ∧
          q.laddr = a + i * mp) ∧
        h = pumpAll (mftUpd g w ctx (fun c => { c with ops := c.ops ++ [⟨dTag t.d, 2, a, mdLen t.d⟩], queue := c.queue ++ pkts })) w ctx ∧
        h.mem = s.dev.mem)) ∧
  (∀ (s : State) (w : Wing) (src : Source) (t : Taken) (h' : Head) (a : Nat) (cas : Bool), Runs s.dev →
    Starts s.dev w .mft src (if cas then 5 else 4) t h' → MftPosted h' w t a → mdLen t.d = 8 →
    Completes (if cas then .mftDescAtomicCas w src else .mftDescAtomicAdd w src) s (fun h => ∃ (g : Head) (q : MftOut),
      let ctx := mdCtx t.d
      Joined (fadd h' w FOQ_CTX_STATE_INFLIGHT 1 ctx) g { newOp .mft w t with chan := ctx, prio := 1, ready := false } ∧
        q.pkt.opcode = (if cas then 6 else 5) ∧ q.n = 1 ∧ q.tag = dTag t.d ∧ q.wait = true ∧ q.laddr = a ∧ q.pkt.rkey = mdRkey t.d ∧
        q.pkt.offset = mdRoff t.d ∧ q.pkt.addend = dBits t.d 40 64 ∧ (cas = true → q.pkt.swap = dBits t.d 48 64) ∧
        h = pumpAll (mftUpd g w ctx (fun c => { c with
          ops := c.ops ++ [⟨dTag t.d, if cas then 5 else 4, a, 8⟩], queue := c.queue ++ [q] })) w ctx ∧
        h.mem = s.dev.mem)) ∧
  (∀ (s : State) (w : Wing) (src : Source) (t : Taken) (h' : Head) (a : Nat), Runs s.dev → Starts s.dev w .mft src 16 t h' →
    MftPosted h' w t a → 1 ≤ mdLen t.d → mdLen t.d ≤ 2 ^ 24 → (mftGet h' w (mdCtx t.d)).posts.length < 1024 →
    Completes (.postRecv w src) s (fun h =>
      let ctx := mdCtx t.d
      Joined (mftUpd (fadd h' w FOQ_CTX_STATE_INFLIGHT 1 ctx) w ctx (fun c => { c with
          posts := c.posts ++ [⟨dTag t.d, c.rcvMsg, a, mdLen t.d⟩]
          rcvMsg := (c.rcvMsg + 1) % 2 ^ 32 })) h
        { newOp .mft w t with chan := ctx, prio := 1, ready := false } ∧ h.mem = s.dev.mem))

/-- A packet that R124 takes and that R128 has not seen: a WRITE is placed in its region, a READ is answered chunk by chunk, an atomic
waits for the lower PSNs and is recorded as executing (R131), a SEND goes to its message's buffer as far as that holds it; each is then
accepted, and acknowledged where R130 says so. One that its region refuses is answered NAK PROTECTION and places nothing (R127). Responses
place their bytes and complete their operation (R138). It rests on choices of the model: log entries 72, 74. -/
def Obligations.MehrorPacketsArePlaced : Prop :=
  (∀ (s : State) (w : Wing) (p : MftPacket) (ctx a : Nat) (g : Head), Runs s.dev → MftTakes s.dev w p ctx → g = mftSeen s.dev w ctx p →
    MftNew g w p ctx → p.opcode = 1 → 1 ≤ p.paylen → p.paylen ≤ maxPayload g w ctx →
    regionAddr g p.rkey p.offset p.paylen (ctxColl g w ctx) (ctxSystem g w ctx) (some MFT_REGION_ATTR_WRITE) = some a →
    Completes (.mftWritePacket w p) s (fun h => h = acceptPacket (memWrite g a p.paylen p.data) w ctx p 1)) ∧
  (∀ (s : State) (w : Wing) (p : MftPacket) (ctx : Nat) (g : Head), Runs s.dev → MftTakes s.dev w p ctx → g = mftSeen s.dev w ctx p →
    MftNew g w p ctx → p.opcode = 1 → 1 ≤ p.paylen → p.paylen ≤ maxPayload g w ctx →
    regionAddr g p.rkey p.offset p.paylen (ctxColl g w ctx) (ctxSystem g w ctx) (some MFT_REGION_ATTR_WRITE) = none →
    MftListens s.dev w ctx →
    Completes (.mftWritePacket w p) s (fun h => (∃ q : MftPacket, mftMsg s.dev w ctx q ∈ h.out ∧ q.opcode = 9 ∧ q.code = 1 ∧ q.nextPsn = p.psn) ∧
      h = regionRefused g w ctx p 1)) ∧
  (∀ (s : State) (w : Wing) (p : MftPacket) (ctx a : Nat) (g : Head), Runs s.dev → MftTakes s.dev w p ctx → g = mftSeen s.dev w ctx p →
    MftNew g w p ctx → p.opcode = 2 → p.paylen = 0 → 1 ≤ p.len →
    (p.len + maxPayload g w ctx - 1) / maxPayload g w ctx ≤ 64 → readRegion g w ctx p = some a →
    Completes (.mftReadPacket w p) s (fun h =>
      h = acceptPacket (answerRead g w ctx p a) w ctx p ((p.len + maxPayload g w ctx - 1) / maxPayload g w ctx))) ∧
  (∀ (s : State) (w : Wing) (p : MftPacket) (ctx a : Nat) (g : Head) (cas : Bool), Runs s.dev → MftTakes s.dev w p ctx →
    g = mftSeen s.dev w ctx p → MftNew g w p ctx → p.opcode = (if cas then 6 else 5) → p.paylen = 0 → p.offset % 8 = 0 →
    regionAddr g p.rkey p.offset 8 (ctxColl g w ctx) (ctxSystem g w ctx) (some MFT_REGION_ATTR_ATOMIC) = some a →
    Completes (if cas then .mftAtomicCasPacket w p else .mftAtomicAddPacket w p) s (fun h =>
      h = acceptPacket (mftUpd (cachePut g w ctx p.psn 3 0 0) w ctx (fun c => { c with atomics := c.atomics ++ [{ p with offset := a }] }))
        w ctx p 1)) ∧
  (∀ (s : State) (w : Wing) (p : MftPacket) (ctx : Nat) (g : Head) (b : Post), Runs s.dev → MftTakes s.dev w p ctx →
    g = mftSeen s.dev w ctx p → MftNew g w p ctx → p.opcode = 4 → 1 ≤ p.paylen → p.paylen ≤ maxPayload g w ctx → p.msgLen ≤ 2 ^ 20 →
    p.offset + p.paylen ≤ p.msgLen → (mftGet g w ctx).posts.find? (fun x => x.msgId == p.msgId) = some b →
    (mftGet g w ctx).msgs.find? (fun m => m.msgId == p.msgId) = none →
    Completes (.mftSendPacket w p) s (fun h =>
      let n := min p.paylen (b.len - p.offset)
      let placed := mftUpd (memWrite g (b.addr + p.offset) n (p.data % 2 ^ (8 * n))) w ctx (fun c => { c with
        msgs := c.msgs.filter (fun x => x.msgId != p.msgId) ++
          [⟨p.msgId, p.msgLen, min p.msgLen b.len, p.imm, n, p.psn, p.solicited⟩] })
      h = acceptPacket (if n < p.paylen then sendNak placed w ctx p.psn 4 else placed) w ctx p 1)) ∧
  (∀ (s : State) (w : Wing) (p : MftPacket) (ctx : Nat) (g : Head), Runs s.dev → MftTakes s.dev w p ctx → g = mftSeen s.dev w ctx p →
    MftNew g w p ctx → p.opcode = 4 → 1 ≤ p.paylen → p.paylen ≤ maxPayload g w ctx → p.msgLen ≤ 2 ^ 20 → p.offset + p.paylen ≤ p.msgLen →
    (mftGet g w ctx).posts = [] → 0 ≤ psnDiff p.msgId (mftGet g w ctx).rcvMsg → p.ackReq = false → MftListens s.dev w ctx →
    Completes (.mftSendPacket w p) s (fun h => (∃ q : MftPacket, h.out = s.dev.out ++ [mftMsg s.dev w ctx q] ∧ q.opcode = 9 ∧ q.code = 2 ∧
      q.nextPsn = p.psn) ∧ h.mem = s.dev.mem ∧ rcvNext h w ctx = rcvNext s.dev w ctx)) ∧
  (∀ (s : State) (w : Wing) (p : MftPacket) (ctx : Nat) (g : Head) (o : MftOut), Runs s.dev → MftTakes s.dev w p ctx →
    g = mftSeen s.dev w ctx p → p.opcode = 3 →
    (mftGet g w ctx).out.find? (fun o => o.pkt.opcode == 2 && o.live && o.chunks.any (fun k => psnAdd o.pkt.psn k == p.psn)) =
      some o →
    p.paylen = min (maxPayload g w ctx) (o.pkt.len - (psnDiff p.psn o.pkt.psn).toNat * maxPayload g w ctx) →
    Completes (.readResp w p) s (fun h =>
      h.mem = memPut s.dev.mem (o.laddr + (psnDiff p.psn o.pkt.psn).toNat * maxPayload g w ctx) p.paylen p.data ∧ h.keys = s.dev.keys ∧
        h.cat = s.dev.cat ∧ h.vit = s.dev.vit)) ∧
  (∀ (s : State) (w : Wing) (p : MftPacket) (ctx : Nat) (g : Head) (o : MftOut) (x : MftOp), Runs s.dev → MftTakes s.dev w p ctx →
    g = mftSeen s.dev w ctx p → p.opcode = 7 →
    (mftGet g w ctx).out.find? (fun o => (o.pkt.opcode == 5 || o.pkt.opcode == 6) && o.live && o.wait && o.pkt.psn == p.psn) = some o →
    (mftGet g w ctx).ops.find? (fun x => x.tag == o.tag) = some x → p.paylen = 0 →
    Completes (.atomicResp w p) s (fun h =>
      h.eng.ops = s.dev.eng.ops.map (fun e =>
        if e.cls = .mft ∧ e.wing = w ∧ e.tag = o.tag ∧ e.ready = false ∧ e.held = false then
          { e with status := .done, bytes := 8, word := p.data % 2 ^ 64, place := [⟨x.addr, 8, p.data % 2 ^ 64⟩], ready := true }
        else e) ∧
        h.mem = s.dev.mem))

/-- What a context sends again and acknowledges: an ACK takes out what it covers, opens the window and completes the operations left with
nothing outstanding (R130, R132, R133); NAK RNR puts its packet off, another NAK ends its operation (R125, R135); ACK_DELAY, RTO_EXPIRY
and RNR_DELAY send the ACK or the packet again, and past RETRY_MAX the connection fails (R136, R137). It rests on choices of the model:
log entry 68. -/
def Obligations.MehrorAcknowledgesAndRetries : Prop :=
  (∀ (s : State) (w : Wing) (p : MftPacket) (time ctx : Nat) (g : Head) (c : MftCtx), Runs s.dev → MftTakes s.dev w p ctx →
    g = mftSeen s.dev w ctx p → p.opcode = 8 → p.paylen = 0 → p.ceCount = 0 → p.sack = 0 → p.ackReq = false →
    c = rttSample (mftGet g w ctx) ((time + 2 ^ 32 - p.tsEcho % 2 ^ 32) % 2 ^ 32) → c.cutUntil = none →
    Completes (.mftAck w p time) s (fun h =>
      let new := c.out.filter (fun o => !o.acked && decide (psnDiff o.pkt.psn p.nextPsn < 0))
      h = pumpAll (mftDone (mftPut g w ctx { c with
        rwin := p.rwin
        out := keepOut (c.out.map (fun o => if psnDiff o.pkt.psn p.nextPsn < 0 then { o with acked := true } else o))
        cwnd := min (256 * fget g w MFT_CC_MAX_WIN) (max (256 * fget g w MFT_CC_MD_MIN_WIN)
          (c.cwnd + fget g w MFT_CC_AI_STEP * new.length * 256 / max 1 (c.cwnd / 256))) })
        w ctx) w ctx)) ∧
  (∀ (s : State) (w : Wing) (p : MftPacket) (time ctx : Nat) (g : Head) (c : MftCtx) (o : MftOut), Runs s.dev → MftTakes s.dev w p ctx →
    g = mftSeen s.dev w ctx p → p.opcode = 9 → p.code = 2 → p.paylen = 0 → p.ackReq = false →
    c = rttSample (mftGet g w ctx) ((time + 2 ^ 32 - p.tsEcho % 2 ^ 32) % 2 ^ 32) →
    c.out.find? (fun o => o.pkt.psn == p.nextPsn) = some o → o.live = true → o.rnr < fget s.dev w MFT_RETRY_RNR_MAX →
    Completes (.mftNak w p time) s (fun h =>
      (mftGet h w ctx).out = c.out.map (fun x => if x = o then { x with rnr := x.rnr + 1 } else x) ∧ h.eng = s.dev.eng ∧
        h.out = s.dev.out ∧ h.mem = s.dev.mem)) ∧
  (∀ (s : State) (w : Wing) (p : MftPacket) (time ctx : Nat) (g : Head) (c : MftCtx) (o : MftOut), Runs s.dev → MftTakes s.dev w p ctx →
    g = mftSeen s.dev w ctx p → p.opcode = 9 → p.code ≠ 2 → p.paylen = 0 →
    c = rttSample (mftGet g w ctx) ((time + 2 ^ 32 - p.tsEcho % 2 ^ 32) % 2 ^ 32) →
    c.out.find? (fun o => o.pkt.psn == p.nextPsn) = some o → o.live = true →
    Completes (.mftNak w p time) s (fun h =>
      h.eng.ops = s.dev.eng.ops.map (fun e =>
        if e.cls = .mft ∧ e.wing = w ∧ e.tag = o.tag ∧ e.ready = false ∧ e.held = false then
          { e with
            status := if p.code = 1 then .collMismatch else if p.code = 4 then .limit else .protocol
            bytes := 0, word := 0, place := [], ready := true }
        else e) ∧
        (p.code = 1 → EventSet h w Ev.MFT_PROTECTION) ∧ h.mem = s.dev.mem)) ∧
  (∀ (s : State) (w : Wing) (ctx : Nat), Runs s.dev → mftState s.dev w ctx = 1 → 0 < (mftGet s.dev w ctx).accepted →
    MftListens s.dev w ctx →
    Completes (.ackDelay w ctx) s (fun h => ∃ q : MftPacket, h.out = s.dev.out ++ [mftMsg s.dev w ctx q] ∧ q.opcode = 8 ∧
      q.nextPsn = rcvNext s.dev w ctx ∧ q.rwin = (if fetchHeld s.dev w then 0 else 4096) ∧ q.ceCount = (mftGet s.dev w ctx).ceSeen ∧
      (∀ i, i < 256 → q.sack.testBit i = (mftGet s.dev w ctx).marked.contains (psnAdd (rcvNext s.dev w ctx) (1 + i))) ∧
      (mftGet h w ctx).accepted = 0 ∧ (mftGet h w ctx).ceSeen = 0 ∧ RegsBut s.dev h [(.mft, 0x07C), (.mft, 0x08C)] ∧
      h.mem = s.dev.mem ∧ h.eng = s.dev.eng)) ∧
  (∀ (s : State) (w : Wing) (ctx psn : Nat) (o : MftOut), Runs s.dev → mftState s.dev w ctx = 1 → (mftGet s.dev w ctx).rwin ≠ 0 →
    (mftGet s.dev w ctx).out.find? (fun o => o.pkt.psn == psn && (!o.acked || o.wait)) = some o → o.sent < fget s.dev w MFT_RETRY_RETRY_MAX →
    MftListens s.dev w ctx →
    Completes (.rtoExpiry w ctx psn) s (fun h => ∃ q : MftPacket, h.out = s.dev.out ++ [mftMsg s.dev w ctx q] ∧ SentAgain s.dev w ctx o q ∧
      q.retry = min 255 (o.sent + o.rnr) ∧
      fget h w MFT_CNT_RETX_COUNT = min (fget s.dev w MFT_CNT_RETX_COUNT + 1) (2 ^ 32 - 1) ∧ h.mem = s.dev.mem ∧ h.eng = s.dev.eng)) ∧
  (∀ (s : State) (w : Wing) (ctx psn : Nat) (o : MftOut), Runs s.dev → mftState s.dev w ctx = 1 → (mftGet s.dev w ctx).rwin ≠ 0 →
    (mftGet s.dev w ctx).out.find? (fun o => o.pkt.psn == psn && (!o.acked || o.wait)) = some o →
    fget s.dev w MFT_RETRY_RETRY_MAX ≤ o.sent →
    Completes (.rtoExpiry w ctx psn) s (fun h =>
      mftState h w ctx = 2 ∧ EventSet h w Ev.MFT_CONN_FAILED ∧ (mftGet h w ctx).ops = [] ∧ (mftGet h w ctx).posts = [] ∧
        (∀ e ∈ h.eng.ops, e.cls = .mft → e.wing = w → e.tag ∈ (mftGet s.dev w ctx).ops.map (·.tag) → e.ready = true ∨ e.held = true) ∧
        h.out = s.dev.out ∧ h.mem = s.dev.mem)) ∧
  (∀ (s : State) (w : Wing) (ctx psn : Nat) (o : MftOut), Runs s.dev → mftState s.dev w ctx = 1 →
    (mftGet s.dev w ctx).out.find? (fun o => o.pkt.psn == psn && o.rnr != 0) = some o → MftListens s.dev w ctx →
    Completes (.rnrDelay w ctx psn) s (fun h => ∃ q : MftPacket, h.out = s.dev.out ++ [mftMsg s.dev w ctx q] ∧ SentAgain s.dev w ctx o q ∧
      q.retry = min 255 (o.sent + o.rnr - 1) ∧ h.mem = s.dev.mem ∧ h.eng = s.dev.eng))

/-- A granule of an admitted write is placed as DIRTY under the home wing's next write sequence (R144). With no peer it is committed at
once and replaces the older committed copies of its granule; with a peer it stays uncommitted and goes to the peer in a MIRROR message, or
waits while one waits on the port, to be packed with others (R159). A forwarded write's granules are staged, and after the last the
command goes to the owner (R164). A fused pair whose compare finds other data places nothing (R91). It rests on choices of the model: log
entries 75, 76, 212. -/
def Obligations.GranulesArePlaced : Prop :=
  (∀ (s : State) (w : Wing) (tag idx : Nat) (c : HostCmd) (n : Namespace), Runs s.dev → tabGet? s.dev.foy.cmds (tagKey w tag) = some c →
    Placeable s.dev c idx → c.fwd = false → nsGet? s.dev c.cap.nsid = some n → c.cap.op = .write ∨ c.compared = true →
    hasPeer s.dev = false →
    (∀ v ∈ s.dev.vit.slots, isGranule c.cap.nsid (c.cap.slba + idx) v = true →
      seqNum v.wseq < seqNum (wseqNext s.dev (homeOf s.dev c.cap.nsid))) →
    Completes (.granulePlace w tag idx) s (fun h =>
      let home := homeOf s.dev c.cap.nsid
      let g := c.cap.slba + idx
      let seq := wseqNext s.dev home
      let data := writeData c idx
      newSlot home .dirty c.cap.nsid g seq (hostLabel c.coll data) data true ∈ h.vit.slots ∧
        (∀ v ∈ h.vit.slots, isGranule c.cap.nsid g v = true → v.st ≠ .clean ∧ (v.st = .dirty → v.committed = true → v.wseq = seq) ∧
          (v.st = .accession → v.committed = true → v.superseded = true)) ∧
        (∀ v ∈ s.dev.vit.slots, isGranule c.cap.nsid g v = false → v ∈ h.vit.slots) ∧
        wseqNext h home = wingNum home <<< 63 + (seqNum seq + 1) % 2 ^ 63 ∧
        tabGet? h.foy.cmds (tagKey w tag) = some { c with placed := c.placed ++ [(g, seq)] } ∧ h.out = s.dev.out ∧ h.mem = s.dev.mem ∧
        h.cat = s.dev.cat)) ∧
  (∀ (s : State) (w p : Wing) (tag idx : Nat) (c : HostCmd) (n : Namespace), Runs s.dev → tabGet? s.dev.foy.cmds (tagKey w tag) = some c →
    Placeable s.dev c idx → c.fwd = false → nsGet? s.dev c.cap.nsid = some n → c.cap.op = .write ∨ c.compared = true →
    hasPeer s.dev = true → c.via = none → anxPort s.dev (homeOf s.dev c.cap.nsid) = some p →
    (anxLink s.dev p).queue.any (fun m => m.vc == 1) = false →
    (∀ e ∈ s.dev.vit.toMirror, e.1 ≠ homeOf s.dev c.cap.nsid) → (∀ f ∈ s.dev.vit.fusedOut, f.1 ≠ homeOf s.dev c.cap.nsid) →
    (∀ v ∈ s.dev.vit.slots, v.wing = homeOf s.dev c.cap.nsid → isOwnDirty v.st = true →
      v.wseq ≠ wseqNext s.dev (homeOf s.dev c.cap.nsid)) →
    Completes (.granulePlace w tag idx) s (fun h => ∃ t : Nat,
      let home := homeOf s.dev c.cap.nsid
      let g := c.cap.slba + idx
      let seq := wseqNext s.dev home
      let v := newSlot home .dirty c.cap.nsid g seq (hostLabel c.coll (writeData c idx)) (writeData c idx) false
      let b := AnxBody.mirror [entryOf v]
        (if c.cap.op = .compareWrite ∧ c.placed.length + 1 = c.cap.count then [fusedRecord c ⟨0, 0x00, false⟩] else [])
      h.vit.slots = s.dev.vit.slots ++ [v] ∧ AnxSent s.dev h p t c.coll b ∧
        h.vit.unacked = s.dev.vit.unacked ++ [⟨home, t, c.coll, b, false⟩] ∧ h.vit.toMirror = s.dev.vit.toMirror ∧
        tabGet? h.foy.cmds (tagKey w tag) = some { c with placed := c.placed ++ [(g, seq)] } ∧ h.mem = s.dev.mem ∧ h.cat = s.dev.cat)) ∧
  (∀ (s : State) (w p : Wing) (tag idx : Nat) (c : HostCmd) (n : Namespace), Runs s.dev → tabGet? s.dev.foy.cmds (tagKey w tag) = some c →
    Placeable s.dev c idx → c.fwd = false → nsGet? s.dev c.cap.nsid = some n → c.cap.op = .write → hasPeer s.dev = true → c.via = none →
    anxPort s.dev (homeOf s.dev c.cap.nsid) = some p → (anxLink s.dev p).queue.any (fun m => m.vc == 1) = true →
    Completes (.granulePlace w tag idx) s (fun h =>
      let home := homeOf s.dev c.cap.nsid
      let seq := wseqNext s.dev home
      h.vit.toMirror = s.dev.vit.toMirror ++ [(home, seq)] ∧ h.out = s.dev.out ∧ h.vit.unacked = s.dev.vit.unacked ∧
        h.vit.slots = s.dev.vit.slots ++
          [newSlot home .dirty c.cap.nsid (c.cap.slba + idx) seq (hostLabel c.coll (writeData c idx)) (writeData c idx) false])) ∧
  (∀ (s : State) (w p : Wing) (tag idx : Nat) (c : HostCmd), Runs s.dev → tabGet? s.dev.foy.cmds (tagKey w tag) = some c →
    Placeable s.dev c idx → c.fwd = true → c.placed.length + 1 = c.cap.count → anxPort s.dev (homeOf s.dev c.cap.nsid) = some p →
    Completes (.granulePlace w tag idx) s (fun h => ∃ t : Nat,
      let home := homeOf s.dev c.cap.nsid
      let key := tagKey w tag
      h.vit.slots = s.dev.vit.slots ++ [newSlot home .staging c.cap.nsid (c.cap.slba + idx) key
          (hostLabel c.coll (writeData c idx)) (writeData c idx) false] ∧
        AnxSent s.dev h p t c.coll (.forward c.cap c.data) ∧
        h.vit.unacked = s.dev.vit.unacked ++ [⟨home, t, c.coll, .forward c.cap c.data, false⟩] ∧
        tabGet? h.foy.cmds key = some { c with placed := c.placed ++ [(c.cap.slba + idx, key)], mtag := some t } ∧ h.mem = s.dev.mem ∧
        h.cat = s.dev.cat)) ∧
  (∀ (s : State) (w : Wing) (tag idx : Nat) (c : HostCmd) (n : Namespace) (d : List Nat), Runs s.dev →
    tabGet? s.dev.foy.cmds (tagKey w tag) = some c → Placeable s.dev c idx → c.fwd = false → nsGet? s.dev c.cap.nsid = some n →
    c.cap.op = .compareWrite → c.compared = false → readFailure s.dev c.cap c.coll n = none → readData s.dev c.cap c.coll n = some d →
    d ≠ c.data.take c.cap.count →
    Completes (.granulePlace w tag idx) s (fun h =>
      tabGet? h.foy.cmds (tagKey w tag) = some { c with miscompare := true } ∧ h.vit = s.dev.vit ∧ h.out = s.dev.out ∧
        h.mem = s.dev.mem ∧ h.cat = s.dev.cat ∧ RegsBut s.dev h []))

/-- MIRROR and RESILVER: the peer of a pair holds every granule of a message whose labels pass, in its newest version, and acknowledges
with DONE; a label that fails is refused with LABEL_FAIL, want of room with NO_RESOURCE, and nothing is held (R159, R254). A fused pair's
record comes with its MIRROR (R106). MIRROR_ACK commits the granules, or marks the message for MIRROR_RESEND, which sends it again as it
was. The dirty quota's shrink starts with SHRINKING and SHRINK_START, the quota in force unchanged, and ends with SHRINKING 0 (R147); each
write that has waited 1,024 frames on the quota raises OVER_QUOTA once more (R148). Retained content in SOLO is adopted as DIRTY, or
freed, and nothing written since (R177). A slot with an uncorrectable error is retired, and with a peer its version is to come back
(R178). It rests on choices of the model: log entries 76, 80, 202, 214. -/
def Obligations.MirrorsQuotaAndRetention : Prop :=
  (∀ (s : State) (port : Wing) (mtag coll : Nat) (es : List MirrorEntry), Runs s.dev → inPair s.dev = true → inDump s.dev = false →
    (∀ e ∈ es, entryOk s.dev e = true ∧ isLost s.dev e = false) → (∀ w, slotsHeld s.dev w + es.length ≤ slotLimit s.dev w) →
    ∀ c ∈ [Instr.anxMirror port mtag coll es [], .resilver port mtag coll es], Completes c s (fun h =>
      (∀ e ∈ es, ∃ v ∈ h.vit.slots, v.st = .mirror ∧ v.nsid = e.nsid ∧ v.granule = e.granule ∧ seqNum e.wseq ≤ seqNum v.wseq) ∧
        (∀ v ∈ s.dev.vit.slots, (∀ e ∈ es, isGranule e.nsid e.granule v = false) → v ∈ h.vit.slots) ∧
        AnxSent s.dev h port mtag coll (.mirrorAck es.length .done) ∧ RegsBut s.dev h (slotRegs ++ seqRegs) ∧ h.mem = s.dev.mem ∧
        h.cat = s.dev.cat ∧ h.foy = s.dev.foy)) ∧
  (∀ (s : State) (port : Wing) (mtag coll : Nat) (r : FusedRec), Runs s.dev → inPair s.dev = true → inDump s.dev = false →
    (∀ w, slotsHeld s.dev w ≤ slotLimit s.dev w) →
    Completes (.anxMirror port mtag coll [] [r]) s (fun h =>
      r ∈ h.foy.fused ∧ (∀ x ∈ s.dev.foy.fused, samePair r.host r.nsid r.slba r.cid x = false → x ∈ h.foy.fused) ∧
        AnxSent s.dev h port mtag coll (.mirrorAck 0 .done) ∧ h.vit.slots = s.dev.vit.slots)) ∧
  (∀ (s : State) (port : Wing) (mtag coll : Nat) (es : List MirrorEntry), Runs s.dev → inPair s.dev = true → inDump s.dev = false →
    (∃ e ∈ es, entryOk s.dev e = false) →
    ∀ c ∈ [Instr.anxMirror port mtag coll es [], .resilver port mtag coll es], Completes c s (fun h =>
      h.vit.slots = s.dev.vit.slots ∧ AnxSent s.dev h port mtag coll (.mirrorAck es.length .labelFail) ∧ RegsBut s.dev h seqRegs ∧
        h.foy = s.dev.foy)) ∧
  (∀ (s : State) (port w : Wing) (mtag coll : Nat) (es : List MirrorEntry), Runs s.dev → inPair s.dev = true →
    (∀ e ∈ es, entryOk s.dev e = true) →
    slotLimit s.dev w < slotsHeld s.dev w + (es.filter (fun e => homeOf s.dev e.nsid == w && !superseded s.dev e)).length →
    ∀ c ∈ [Instr.anxMirror port mtag coll es [], .resilver port mtag coll es], Completes c s (fun h =>
      h.vit.slots = s.dev.vit.slots ∧ AnxSent s.dev h port mtag coll (.mirrorAck es.length .noResource) ∧ RegsBut s.dev h seqRegs ∧
        h.foy = s.dev.foy)) ∧
  (∀ (s : State) (mtag latency : Nat) (u : Unacked) (es : List MirrorEntry) (fr : List FusedRec), Runs s.dev →
    unackedOf s.dev mtag = some u → u.body = .mirror es fr →
    Completes (.mirrorAck mtag .done latency) s (fun h =>
      (∀ e ∈ es, ∀ v ∈ h.vit.slots, isVersion e.nsid e.granule e.wseq v = true → v.committed = true) ∧
        (∀ e ∈ es, ∀ v ∈ h.vit.slots, isGranule e.nsid e.granule v = true → v.st ≠ .clean) ∧
        h.vit.unacked = s.dev.vit.unacked.filter (fun x => x.mtag != mtag) ∧
        fget h u.wing ANX_COMMIT_MAX_NS = max (fget s.dev u.wing ANX_COMMIT_MAX_NS) (min latency (2 ^ 32 - 1)) ∧ h.out = s.dev.out ∧
        RegsBut s.dev h ((.anx, 0x068) :: slotRegs))) ∧
  (∀ (s : State) (mtag latency : Nat) (u : Unacked) (es : List MirrorEntry), Runs s.dev → unackedOf s.dev mtag = some u →
    u.body = .resilver es →
    Completes (.mirrorAck mtag .done latency) s (fun h =>
      h = { s.dev with vit := { s.dev.vit with unacked := s.dev.vit.unacked.filter (fun x => x.mtag != mtag) } })) ∧
  (∀ (s : State) (mtag latency : Nat) (u : Unacked) (es : List MirrorEntry) (fr : List FusedRec), Runs s.dev →
    unackedOf s.dev mtag = some u → u.body = .mirror es fr →
    Completes (.mirrorAck mtag .noResource latency) s (fun h =>
      h.vit.refused.contains mtag = true ∧ h.vit.slots = s.dev.vit.slots ∧ h.vit.unacked = s.dev.vit.unacked ∧
        EventSet h u.wing Ev.VIT_MIRROR_NACK ∧ RegsBut s.dev h [(.vit, 0x010)])) ∧
  (∀ (s : State) (p : Wing) (mtag : Nat) (u : Unacked), Runs s.dev → unackedOf s.dev mtag = some u →
    s.dev.vit.refused.contains mtag = true → anxPort s.dev u.wing = some p →
    Completes (.mirrorResend mtag) s (fun h =>
      AnxSent s.dev h p u.mtag u.coll u.body ∧ h.vit.refused.contains mtag = false ∧
        h.vit.unacked = s.dev.vit.unacked ∧ h.vit.slots = s.dev.vit.slots ∧ RegsBut s.dev h [])) ∧
  (∀ (s : State) (ini : Initiator) (w : Wing), Runs s.dev → Writable s.dev ini (pg .vit w) 0x040 → shrinking s.dev = false →
    Completes (.shrinkStart ini w) s (fun h =>
      (∀ v, fget h v VIT_CTRL_SHRINKING = 1) ∧ h.vit.shrinkAt = fget s.dev .east VIT_QUOTA_NOW_QUOTA_MIB ∧ h.vit.restoring = false ∧
        EventSet h w Ev.VIT_SHRINK_START ∧ RegsBut s.dev h [(.vit, 0x010), (.vit, 0x040)] ∧ h.vit.slots = s.dev.vit.slots)) ∧
  (∀ (s : State) (ini : Initiator) (w : Wing), Runs s.dev → Writable s.dev ini (pg .vit w) 0x040 → shrinking s.dev = true →
    Completes (.shrinkRestore ini w) s (fun h =>
      (∀ v, fget h v VIT_CTRL_SHRINKING = 0) ∧ RegsBut s.dev h [(.vit, 0x040)] ∧
        SameButRegs { reply s.dev false with vit := { s.dev.vit with restoring := true } } h)) ∧
  (∀ s : State, Runs s.dev →
    (∃ c ∈ s.dev.foy.waiting, c.overLong = false ∧ ∃ f, c.overSince = some f ∧ f + 1024 ≤ frameCount s.dev) →
    Completes .overQuotaLong s (fun h =>
      EventSet h .east Ev.VIT_OVER_QUOTA ∧ RegsBut s.dev h [(.vit, 0x010)] ∧
        SameButRegs { s.dev with foy := { s.dev.foy with waiting := s.dev.foy.waiting.map (fun c =>
          if c.overLong = false ∧ c.overSince.any (fun f => decide (f + 1024 ≤ frameCount s.dev)) = true then { c with overLong := true }
          else c) } } h)) ∧
  (∀ (s : State) (ini : Initiator) (w : Wing), Runs s.dev → Writable s.dev ini (pg .vit w) 0x068 → pairState s.dev = 0 →
    s.dev.vit.retained = true →
    Completes (.retainAdopt ini w) s (fun h =>
      (∀ v ∈ s.dev.vit.slots, v.retained = true → isPairDirty v.st = true →
          (∀ y ∈ s.dev.vit.slots, isGranule v.nsid v.granule y = true → isPairDirty y.st = true → seqNum y.wseq ≤ seqNum v.wseq) →
          { v with st := .dirty, committed := true, retained := false } ∈ h.vit.slots) ∧
        (∀ v ∈ h.vit.slots, v.retained = true → isPairDirty v.st = false) ∧
        (∀ v, fget h v VIT_RETAIN_RETAINED = 0) ∧ h.vit.retained = false ∧ h.cat = s.dev.cat ∧ h.out = s.dev.out)) ∧
  (∀ (s : State) (ini : Initiator) (w : Wing), Runs s.dev → Writable s.dev ini (pg .vit w) 0x068 → s.dev.vit.retained = true →
    Completes (.retainDiscard ini w) s (fun h =>
      h.vit.slots = s.dev.vit.slots.filter (fun v => !v.retained) ∧ (∀ v, fget h v VIT_RETAIN_RETAINED = 0) ∧
        h.vit.retained = false ∧ h.cat = s.dev.cat ∧ h.out = s.dev.out)) ∧
  (∀ (s : State) (w : Wing) (nsid granule seq : Nat) (v : Slot), Runs s.dev →
    s.dev.vit.slots.find? (fun v => v.wing == w && isVersion nsid granule seq v) = some v →
    Completes (.slotEcc w nsid granule seq) s (fun h =>
      h.vit.slots = s.dev.vit.slots.filter (fun v => !(v.wing == w && isVersion nsid granule seq v)) ∧
        slotLimit h w = slotLimit s.dev w - 1 ∧
        h.vit.lost = (if isOwnDirty v.st = true ∧ hasPeer s.dev = true ∧ s.dev.vit.toMirror.contains (w, seq) = false
          then s.dev.vit.lost ++ [(nsid, granule, seq)] else s.dev.vit.lost) ∧
        EventSet h w Ev.VIT_SLOT_ECC ∧ h.out = s.dev.out ∧ h.cat = s.dev.cat)) ∧
  (∀ (s : State) (port : Wing) (mtag coll : Nat) (e : MirrorEntry), Runs s.dev → inPair s.dev = true → inDump s.dev = false →
    entryOk s.dev e = true → isLost s.dev e = true → (∀ w, slotsHeld s.dev w < slotLimit s.dev w) →
    (∀ v ∈ s.dev.vit.slots, isGranule e.nsid e.granule v = true → isOwnDirty v.st = false) →
    Completes (.resilver port mtag coll [e]) s (fun h =>
      newSlot (homeOf s.dev e.nsid) .dirty e.nsid e.granule e.wseq e.label e.data true ∈ h.vit.slots ∧
        h.vit.lost.contains (e.nsid, e.granule, e.wseq) = false ∧ AnxSent s.dev h port mtag coll (.mirrorAck 1 .done)))

/-- The coherence stream: a CAT_UPDATE that applies is recorded and acknowledged with DONE, once no read of a hall it reclaims is under
way (R311); one that does not match changes no map, is answered CHECK_FAIL and raises COHERENCE_FAULT (R165, R166); its acknowledgement
frees the dirty slots it names, or stops accession of its namespaces. A FORWARD is executed once by the owner and answered, a repeat is
answered again from memory (R107, R164); FORWARD_RESP completes the command to its host, and a refusal of the path raises FORWARD_FAIL
(R113). It rests on choices of the model: log entries 78, 81, 204. -/
def Obligations.CoherenceAndForwarding : Prop :=
  (∀ (s : State) (port : Wing) (mtag coll : Nat) (es : List CatEntry) (g : Head) (l : List JournalEntry), Runs s.dev →
    inPair s.dev = true → s.dev.vit.applied.contains mtag = false →
    applyAll (foldHead s.dev (es.filter carriesSeq) (fun h e => raiseSeq h e.wseq)) es = some (g, l) →
    Completes (.catUpdate port mtag coll es) s (fun h =>
      let j := journalAdd g l
      let halls := (reclaimedIn es).filter (readsHall j)
      h.cat = j.cat ∧ h.cur = j.cur ∧ h.vit.slots = j.vit.slots ∧ h.vit.applied = j.vit.applied ++ [mtag] ∧
        (halls = [] → AnxSent j h port mtag coll (.catAck .done) ∧ h.vit.ackWait = j.vit.ackWait) ∧
        (halls ≠ [] → h.out = j.out ∧ h.vit.ackWait = j.vit.ackWait ++ [(port, mtag, halls)]))) ∧
  (∀ (s : State) (port : Wing) (mtag coll : Nat) (es : List CatEntry), Runs s.dev → inPair s.dev = true →
    s.dev.vit.applied.contains mtag = false →
    applyAll (foldHead s.dev (es.filter carriesSeq) (fun h e => raiseSeq h e.wseq)) es = none →
    Completes (.catUpdate port mtag coll es) s (fun h =>
      AnxSent s.dev h port mtag coll (.catAck .checkFail) ∧ EventSet h port Ev.ANX_COHERENCE_FAULT ∧
        h.cat = s.dev.cat ∧ h.vit.slots = s.dev.vit.slots ∧ RegsBut s.dev h ((.anx, 0x010) :: seqRegs))) ∧
  (∀ (s : State) (mtag : Nat) (u : Unacked) (es : List CatEntry), Runs s.dev → unackedOf s.dev mtag = some u → u.body = .catUpdate es →
    Completes (.catAck mtag .done) s (fun h =>
      h.vit.slots = s.dev.vit.slots.filter (fun v => !(isOwnDirty v.st && es.any (fun e =>
        e.wseq != 0 && !e.flags.testBit 1 && e.nsid == v.nsid && e.granule == v.granule && e.wseq == v.wseq))) ∧
        h.vit.unacked = s.dev.vit.unacked.filter (fun x => x.mtag != mtag) ∧ h.cat = s.dev.cat ∧ h.out = s.dev.out)) ∧
  (∀ (s : State) (mtag : Nat) (u : Unacked) (es : List CatEntry), Runs s.dev → unackedOf s.dev mtag = some u → u.body = .catUpdate es →
    Completes (.catAck mtag .checkFail) s (fun h =>
      (∀ e ∈ es, ∀ n, nsGet? h e.nsid = some n → n.accStop = true) ∧ h.vit.slots = s.dev.vit.slots ∧ h.out = s.dev.out ∧
        RegsBut s.dev h [])) ∧
  (∀ (s : State) (port : Wing) (mtag coll : Nat) (c : Capsule) (data : List Nat) (n : Namespace), Runs s.dev →
    ForwardRuns s.dev mtag c n → c.op = .flush →
    Completes (.anxForward port mtag coll c data) s (fun h =>
      AnxSent s.dev h port mtag coll (.forwardResp ⟨0, 0x00, false⟩ [] []) ∧
        h.vit.answered = s.dev.vit.answered ++ [(mtag, .forwardResp ⟨0, 0x00, false⟩ [] [])] ∧ h.vit.slots = s.dev.vit.slots ∧
        h.cat = s.dev.cat ∧ h.mem = s.dev.mem)) ∧
  (∀ (s : State) (port : Wing) (mtag coll : Nat) (c : Capsule) (data : List Nat) (n : Namespace), Runs s.dev →
    ForwardRuns s.dev mtag c n → c.op = .write → hasPeer s.dev = true → rplState s.dev coll ≠ 1 → syncBroken s.dev coll = false →
    running s.dev (pg .vit (homeOf s.dev c.nsid)) = true → mirrorFlits s.dev (homeOf s.dev c.nsid) < 256 →
    slotsHeld s.dev (homeOf s.dev c.nsid) + c.count ≤ slotLimit s.dev (homeOf s.dev c.nsid) → s.dev.vit.unacked = [] →
    s.dev.vit.toMirror = [] → (∀ v ∈ s.dev.vit.slots, seqNum v.wseq < seqNum (wseqNext s.dev (homeOf s.dev c.nsid))) →
    seqNum (wseqNext s.dev (homeOf s.dev c.nsid)) + c.count < 2 ^ 63 →
    Completes (.anxForward port mtag coll c data) s (fun h => ∃ ws : List Nat, ws.length = c.count ∧
      AnxSent s.dev h port mtag coll (.forwardResp ⟨0, 0x00, false⟩ ws []) ∧
      (∀ i q, ws[i]? = some q → ∃ v ∈ h.vit.slots, v.st = .dirty ∧ v.committed = true ∧ v.nsid = c.nsid ∧ v.granule = c.slba + i ∧
        v.wseq = q ∧ v.data = data.getD i 0) ∧
      h.cat = s.dev.cat ∧ h.mem = s.dev.mem)) ∧
  (∀ (s : State) (port : Wing) (mtag coll : Nat) (c : Capsule) (data : List Nat) (b : AnxBody),
    Runs s.dev → inPair s.dev = true → s.dev.vit.answered.find? (fun a => a.1 == mtag) = some (mtag, b) →
    Completes (.anxForward port mtag coll c data) s (fun h =>
      AnxSent s.dev h port mtag coll b ∧ h.vit.slots = s.dev.vit.slots ∧ h.cat = s.dev.cat ∧ RegsBut s.dev h [])) ∧
  (∀ (s : State) (mtag key : Nat) (c : HostCmd) (ws : List Nat), Runs s.dev →
    s.dev.foy.cmds.find? (fun e => e.2.mtag == some mtag) = some (key, c) → c.cap.op = .write → c.via = none → HostListens s.dev c.cap →
    Completes (.forwardResp mtag 0 0 false ws []) s (fun h =>
      h.out = s.dev.out ++ [hostAnswer s.dev c.cap ⟨0, 0x00, false⟩] ∧ tabGet? h.foy.cmds key = none ∧
        (∀ v ∈ h.vit.slots, v.nsid = c.cap.nsid → c.cap.slba ≤ v.granule → v.granule < c.cap.slba + c.cap.count → v.wseq = key →
          v.st ≠ .staging) ∧
        (∀ i, i < c.cap.count → (∃ v ∈ s.dev.vit.slots, v.st = .staging ∧ isVersion c.cap.nsid (c.cap.slba + i) key v = true) →
          ∃ x ∈ h.vit.slots, x.st = .mirror ∧ isGranule c.cap.nsid (c.cap.slba + i) x = true ∧
            seqNum (ws.getD i 0) ≤ seqNum x.wseq) ∧
        h.cat = s.dev.cat ∧ h.mem = s.dev.mem)) ∧
  (∀ (s : State) (mtag key sc : Nat) (dnr : Bool) (c : HostCmd) (ws data : List Nat), Runs s.dev →
    s.dev.foy.cmds.find? (fun e => e.2.mtag == some mtag) = some (key, c) → c.cap.op = .write → c.via = none → HostListens s.dev c.cap →
    Completes (.forwardResp mtag 3 sc dnr ws data) s (fun h =>
      h.out = s.dev.out ++ [hostAnswer s.dev c.cap ⟨3, sc, dnr⟩] ∧ tabGet? h.foy.cmds key = none ∧
        EventSet h c.cap.wing Ev.FOQ_FORWARD_FAIL ∧
        h.vit.slots = s.dev.vit.slots.filter (fun v => !(v.st == .staging && v.wseq == key)) ∧ h.cat = s.dev.cat ∧ h.mem = s.dev.mem))

/-- The pair watches its peer: heartbeats go out on the ports that are up (R168), a lost one leads to SUSPECT and a regained one back
(R171); leases are renewed on every plinth that is up (R169) and polled in SUSPECT; a lapsed lease stops the head and its waiting commands
end with Asymmetric Access Inaccessible (R170); claims in a quorum end in a takeover (R173); ISOLATE_TIMEOUT stops a head without PREFER
(R172). It rests on choices of the model: log entries 82, 83, 84, 85. -/
def Obligations.PairWatchesItsPeer : Prop :=
  (∀ (s : State) (state epoch : Nat) (prefer : Bool), Runs s.dev → pairState s.dev = 4 → state ≠ 7 →
    s.dev.vit.suspectFrom = 2 ∨ s.dev.vit.suspectFrom = 3 →
    Completes (.heartbeat state prefer epoch) s (fun h =>
      pairState h = s.dev.vit.suspectFrom ∧ h.vit = { s.dev.vit with hbLost := false } ∧ RegsBut s.dev h [(.anx, 0x050)] ∧
        fget h .east ANX_PAIR_STATE_EPOCH = fget s.dev .east ANX_PAIR_STATE_EPOCH ∧ h.out = s.dev.out)) ∧
  (∀ (s : State) (state epoch : Nat) (prefer : Bool), Runs s.dev → pairState s.dev = 1 → state ≠ 7 →
    prefer ≠ fbit s.dev .east ANX_PAIR_PREFER → s.dev.vit.joined = true → state = 3 →
    Completes (.heartbeat state prefer epoch) s (fun h =>
      pairState h = 3 ∧ EventSet h .east Ev.ANX_PEER_JOINED ∧ RegsBut s.dev h [(.anx, 0x010), (.anx, 0x050)])) ∧
  (∀ s : State, Runs s.dev → inDump s.dev = false → anxUp s.dev .east = true → anxUp s.dev .west = false →
    Completes .heartbeatSend s (fun h =>
      AnxSent s.dev h .east s.dev.vit.mtagE 0 (heartbeatBody s.dev (pairState s.dev)) ∧ RegsBut s.dev h [] ∧
        h.cat = s.dev.cat ∧ h.vit.slots = s.dev.vit.slots)) ∧
  (∀ s : State, Runs s.dev → pairState s.dev = 2 ∨ pairState s.dev = 3 →
    Completes .heartbeatLoss s (fun h =>
      pairState h = 4 ∧ EventSet h .east Ev.ANX_HB_LOST ∧
        h.vit = { s.dev.vit with hbLost := true, suspectFrom := pairState s.dev, peerExpired := [] } ∧
        RegsBut s.dev h [(.anx, 0x010), (.anx, 0x050)] ∧ h.out = s.dev.out)) ∧
  (∀ s : State, Runs s.dev → s.dev.vit.noRenew = false → pairState s.dev ≠ 7 →
    (∀ o ∈ s.dev.plk.ops, o.purpose ≠ .renew ∧ o.purpose ≠ .poll) →
    Completes .leaseRenew s (fun h => h = foldHead s.dev (upPlinths s.dev) (fun h n => plkMgmt h n { emptyCmd 0x08 true with
      epoch := fget s.dev .east ANX_PAIR_STATE_EPOCH
      arg := fget s.dev .east ANX_LEASE_LEASE_US } .renew))) ∧
  (∀ s : State, Runs s.dev → pairState s.dev ≠ 7 → (∀ c ∈ s.dev.foy.waiting, HostListens s.dev c.cap) →
    (∀ e ∈ s.dev.foy.cmds, e.2.via = none) →
    Completes .leaseLapse s (fun h =>
      pairState h = 7 ∧ EventSet h .east Ev.ANX_LEASE_FAULT ∧ h.foy.waiting = [] ∧ (∀ e ∈ h.foy.cmds, e.2.inaccessible = true) ∧
        h.out = s.dev.out ++ s.dev.foy.waiting.map (fun c => hostAnswer s.dev c.cap ⟨3, 0x02, false⟩) ∧
        RegsBut s.dev h ((.anx, 0x010) :: (.anx, 0x050) :: slotRegs) ∧ h.cat = s.dev.cat ∧
        h.vit.slots = s.dev.vit.slots.filter (fun v => !(v.st == .staging)))) ∧
  (∀ s : State, Runs s.dev → pairState s.dev = 4 →
    Completes .witnessPoll s (fun h =>
      h = checkTakeover (foldHead s.dev (upPlinths s.dev) (fun h n => plkMgmt h n (emptyCmd 0x09 true) .poll)))) ∧
  (∀ (s : State) (micros : Nat), Runs s.dev → pairState s.dev = 5 → quorum s.dev s.dev.vit.claims = true → inDump s.dev = false →
    Completes (.takeover micros) s (fun h =>
      pairState h = 0 ∧ EventSet h .east Ev.ANX_TAKEOVER_DONE ∧ h.frm.masterDue = true ∧ h.cat.replaying = true ∧
        (∀ e ∈ h.cat.nss, e.2.owned = true ∧ e.2.changing = false) ∧ (∀ v ∈ h.vit.slots, v.st ≠ .mirror) ∧
        fget h .east ANX_TAKEOVER_US_MICROS = min micros 65535)) ∧
  (∀ s : State, Runs s.dev → pairState s.dev = 4 →
    fget s.dev .east ANX_WITNESS_QUORUM ≤ fget s.dev .east ANX_WITNESS_PRESENT - s.dev.vit.peerExpired.length →
    Completes .isolateTimeout s (fun h =>
      EventSet h .east Ev.ANX_ISOLATED ∧ pairState h = (if fbit s.dev .east ANX_PAIR_PREFER then 4 else 7) ∧
        (fbit s.dev .east ANX_PAIR_PREFER = false → h.vit.noRenew = true ∧ h.foy.waiting = []) ∧
        (∀ v ∈ s.dev.vit.slots, v.st ≠ .staging → v ∈ h.vit.slots)))

/-- JOIN in SOLO or STOPPED begins JOINING, and a head that owns nothing loads the Catalogue from flash (R175); in another state it is
ignored with CONFIG. RESILVER_DONE completes the pair. GIVEBACK and LEAVE hold the admission of the first batch (R176, R518), whose
OWNERSHIP goes out once nothing of it is in flight; the receiver owns the namespaces, and the giver no longer: at a GIVEBACK its DIRTY
slots of them are the receiver's mirror. With nothing to give GIVEBACK is done at once. It rests on choices of the model: log entries 86,
87, 88. -/
def Obligations.PairJoinsAndGivesBack : Prop :=
  (∀ (s : State) (ini : Initiator), Runs s.dev → Writable s.dev ini (pg .anx .east) 0x04C → pairState s.dev = 0 ∨ pairState s.dev = 7 →
    serves s.dev = true →
    Completes (.pairJoin ini .east) s (fun h =>
      pairState h = 1 ∧ h.vit.joined = false ∧ h.vit.slots = s.dev.vit.slots ∧ h.cat = s.dev.cat ∧
        RegsBut s.dev h [(.anx, 0x050)] ∧ h.out = s.dev.out)) ∧
  (∀ (s : State) (ini : Initiator), Runs s.dev → Writable s.dev ini (pg .anx .east) 0x04C → pairState s.dev = 0 ∨ pairState s.dev = 7 →
    serves s.dev = false →
    Completes (.pairJoin ini .east) s (fun h =>
      pairState h = 1 ∧ h.cat.nss = (Config.joinCatalogue s.dev.freeCtr).nss ∧ h.cat.index = (Config.joinCatalogue s.dev.freeCtr).index ∧
        h.out = s.dev.out)) ∧
  (∀ (s : State) (ini : Initiator), Runs s.dev → Writable s.dev ini (pg .anx .east) 0x04C → pairState s.dev ≠ 0 → pairState s.dev ≠ 7 →
    Completes (.pairJoin ini .east) s (fun h =>
      EventSet h .east Ev.ANX_CONFIG ∧ h.vit = s.dev.vit ∧ h.cat = s.dev.cat ∧
        RegsBut s.dev h [(.anx, 0x010), (.anx, 0x020), (.anx, 0x024), (.anx, 0x028)])) ∧
  (∀ s : State, Runs s.dev → pairState s.dev = 2 → (∀ u ∈ s.dev.vit.unacked, ∀ es, u.body ≠ .resilver es) →
    Completes .resilverDone s (fun h =>
      pairState h = 3 ∧ EventSet h .east Ev.ANX_PEER_JOINED ∧ RegsBut s.dev h [(.anx, 0x010), (.anx, 0x050)] ∧ SameButRegs s.dev h)) ∧
  (∀ (s : State) (ini : Initiator) (leave : Bool) (l : List Nat), Runs s.dev → Writable s.dev ini (pg .anx .east) 0x04C →
    pairState s.dev = 3 → s.dev.vit.batch = [] →
    l = (s.dev.cat.nss.filter (fun e => e.2.owned && (leave || (nsOfColl s.dev e.2.coll).any (fun n => !n.prefThis)))).map
      (fun e => e.2.nsid) → takeBatch s.dev l ≠ [] →
    Completes (if leave then .pairLeave ini .east else .giveback ini .east) s (fun h =>
      h.vit.batch = takeBatch s.dev l ∧ h.vit.batchSent = false ∧ h.vit.giveback = l.filter (fun n => !h.vit.batch.contains n) ∧
        h.vit.leaving = (leave || s.dev.vit.leaving) ∧ pairState h = 3 ∧ RegsBut s.dev h [] ∧ h.cat = s.dev.cat ∧ h.out = s.dev.out)) ∧
  (∀ (s : State) (ini : Initiator), Runs s.dev → Writable s.dev ini (pg .anx .east) 0x04C → pairState s.dev = 3 → s.dev.vit.batch = [] →
    s.dev.vit.leaving = false →
    (∀ e ∈ s.dev.cat.nss, e.2.owned = true → ∀ n ∈ nsOfColl s.dev e.2.coll, n.prefThis = true) →
    Completes (.giveback ini .east) s (fun h =>
      EventSet h .east Ev.ANX_GIVEBACK_DONE ∧ pairState h = 3 ∧ h.vit.batch = [] ∧ RegsBut s.dev h [(.anx, 0x010)] ∧ h.cat = s.dev.cat)) ∧
  (∀ s : State, Runs s.dev → s.dev.vit.batch ≠ [] → s.dev.vit.batchSent = false →
    (∀ e ∈ s.dev.foy.cmds, s.dev.vit.batch.contains e.2.cap.nsid = false) → anxUp s.dev .east = true →
    Completes .givebackBatch s (fun h =>
      h.vit.batchSent = true ∧ AnxSent s.dev h .east s.dev.vit.mtagE 0 (.ownership true s.dev.vit.batch) ∧
        RegsBut s.dev h [] ∧ h.cat = s.dev.cat ∧ h.vit.slots = s.dev.vit.slots)) ∧
  (∀ (s : State) (port : Wing) (mtag coll : Nat) (nsids : List Nat), Runs s.dev → inPair s.dev = true →
    Completes (.ownership port mtag coll true nsids) s (fun h =>
      (∀ e ∈ h.cat.nss, e.2.nsid ∈ nsids → e.2.owned = true ∧ e.2.changing = false) ∧
        (∀ e ∈ s.dev.cat.nss, e.2.nsid ∉ nsids → e ∈ h.cat.nss) ∧
        (∀ v ∈ h.vit.slots, v.st = .mirror → v.nsid ∉ nsids) ∧
        AnxSent s.dev h port mtag coll (.ownershipAck .done) ∧ h.mem = s.dev.mem)) ∧
  (∀ (s : State) (mtag : Nat) (u : Unacked) (give : Bool) (ns : List Nat), Runs s.dev → unackedOf s.dev mtag = some u →
    u.body = .ownership give ns →
    Completes (.ownershipAck mtag .done) s (fun h =>
      (∀ e ∈ h.cat.nss, e.2.nsid ∈ ns → e.2.owned = false ∧ e.2.changing = false) ∧
        (∀ v ∈ h.vit.slots, v.nsid ∈ ns → isOwnDirty v.st = false) ∧ unackedOf h mtag = none))

/-- The Annex links (R149 to R155): a message leaves once each of its flits has had a credit; a payload flit in sequence is accepted,
acknowledged, and its credit returned; a damaged one is answered with one NAK; the replay timer sends the unacknowledged flits again, and
a flit that failed eight times retrains the port. Training brings a port up with its lanes, resumes from the sequence the other end
expects and grants its credits; a timeout takes it down, each with LINK_CHANGE; RETRAIN, ignored while a retrain is under way (R10), and
CLR_STATS act on the port's registers. It rests on choices of the model: log entries 89, 209. -/
def Obligations.AnnexLinksRecover : Prop :=
  (∀ (g h : Head) (port : Wing) (mtag coll : Nat) (b : AnxBody), AnxSent g h port mtag coll b → anxSends g port = true →
    (anxLink g port).queue = [] → anxFlits b ≤ (anxLink g port).credits.getD (anxVc b) 0 →
    (anxLink g port).replay.length + anxFlits b ≤ 512 →
    h.out = g.out ++ [.annex port mtag coll b] ∧ (anxLink h port).queue = [] ∧
      (anxLink h port).replay.length = (anxLink g port).replay.length + anxFlits b ∧
      (anxLink h port).credits.getD (anxVc b) 0 = (anxLink g port).credits.getD (anxVc b) 0 - anxFlits b) ∧
  (∀ (s : State) (w : Wing) (vc ackseq m : Nat) (cr : List Nat), Runs s.dev → anxUp s.dev w = true → 1 ≤ m → m ≤ 10 →
    (anxLink s.dev w).queue = [] → s.dev.vit.toMirror = [] →
    Completes (.anxFlit w true 1 vc (anxLink s.dev w).rxNext 0 ackseq cr (some m)) s (fun h =>
      let l := anxLink s.dev w
      let r := acknowledge anxRule { l with rxNext := (l.rxNext + 1) % 1024, nakSent := false, owed := addAt l.owed vc 1 } w none
      anxLink h w = r.1 ∧ h.out = s.dev.out ++ [r.2] ∧ RegsBut s.dev h [] ∧ h.vit.slots = s.dev.vit.slots)) ∧
  (∀ (s : State) (w : Wing) (ftype vc lseq acktype ackseq : Nat) (cr : List Nat) (mtype : Option Nat), Runs s.dev →
    anxUp s.dev w = true → (anxLink s.dev w).nakSent = false → (anxLink s.dev w).queue = [] → s.dev.vit.toMirror = [] →
    Completes (.anxFlit w false ftype vc lseq acktype ackseq cr mtype) s (fun h =>
      anxLink h w = { anxLink s.dev w with nakSent := true } ∧
        h.out = s.dev.out ++ [.nak w none (anxLink s.dev w).rxNext] ∧ RegsBut s.dev h [])) ∧
  (∀ (s : State) (w : Wing), Runs s.dev → (anxLink s.dev w).replay ≠ [] → fget s.dev w ANX_LINK_STATUS_TRAINING = 0 →
    (∀ e ∈ (anxLink s.dev w).replay, e.2 < 8) → (anxLink s.dev w).queue = [] → s.dev.vit.toMirror = [] →
    Completes (.anxReplayTimer w) s (fun h =>
      h.out = s.dev.out ++ [.replay w none ((anxLink s.dev w).replay.map (·.1))] ∧
        (anxLink h w).replay = (anxLink s.dev w).replay.map (fun e => (e.1, e.2 + 1)) ∧
        fget h w ANX_RETRY_COUNT_COUNT =
          min (fget s.dev w ANX_RETRY_COUNT_COUNT + (anxLink s.dev w).replay.length) (2 ^ 32 - 1) ∧
        EventSet h w Ev.ANX_LINK_RETRY ∧ RegsBut s.dev h [(.anx, 0x010), (.anx, 0x06C)])) ∧
  (∀ (s : State) (w : Wing), Runs s.dev → fget s.dev w ANX_LINK_STATUS_TRAINING = 0 → (∃ e ∈ (anxLink s.dev w).replay, 8 ≤ e.2) →
    s.dev.vit.toMirror = [] →
    Completes (.anxReplayTimer w) s (fun h =>
      fget h w ANX_LINK_STATUS_TRAINING = 1 ∧ EventSet h w Ev.ANX_LINK_RETRAIN ∧
        fget h w ANX_RETRAIN_COUNT_COUNT = min (fget s.dev w ANX_RETRAIN_COUNT_COUNT + 1) (2 ^ 32 - 1) ∧ h.out = s.dev.out ∧
        RegsBut s.dev h [(.anx, 0x010), (.anx, 0x044), (.anx, 0x070)])) ∧
  (∀ (s : State) (w : Wing), Runs s.dev → anxUp s.dev w = true → fget s.dev w ANX_LINK_STATUS_TRAINING = 1 →
    s.dev.vit.toMirror = [] →
    Completes (.anxRetrainTimeout w) s (fun h =>
      fget h w ANX_LINK_STATUS_UP = 0 ∧ fget h w ANX_LINK_STATUS_LANES = 0 ∧ EventSet h w Ev.ANX_LINK_CHANGE ∧
        h.vit.unacked = s.dev.vit.unacked ∧ RegsBut s.dev h [(.anx, 0x010), (.anx, 0x044), (.foq, 0x010)])) ∧
  (∀ (s : State) (w : Wing) (delay lanes expected : Nat), Runs s.dev → fget s.dev w ANX_CTRL_LINK_EN = 1 → delay < 2 ^ 16 →
    lanes = 16 ∨ (lanes = 8 ∧ fget s.dev w ANX_CTRL_HALF_WIDTH_OK = 1) → s.dev.vit.toMirror = [] →
    Completes (.anxTrained w delay lanes expected) s (fun h =>
      fget h w ANX_LINK_STATUS_UP = 1 ∧ fget h w ANX_LINK_STATUS_TRAINING = 0 ∧ fget h w ANX_LINK_STATUS_LANES = lanes ∧
        fget h w ANX_LINK_STATUS_DELAY_NS = delay ∧ (anxUp s.dev w = false → EventSet h w Ev.ANX_LINK_CHANGE ∧
          ∃ lseq seq, .credit w none lseq seq ((List.range 4).map Config.linkBuffers) ∈ h.out) ∧
        (((anxLink s.dev w).trained expected).2 ≠ [] → .replay w none ((anxLink s.dev w).trained expected).2 ∈ h.out) ∧
        h.vit.unacked = s.dev.vit.unacked ∧ RegsBut s.dev h [(.anx, 0x010), (.anx, 0x044), (.anx, 0x06C)])) ∧
  (∀ (s : State) (w : Wing), Runs s.dev → fget s.dev w ANX_CTRL_LINK_EN = 1 → anxUp s.dev w = false →
    Completes (.anxTrainTimeout w) s (fun h =>
      fget h w ANX_LINK_STATUS_TRAINING = 1 ∧ EventSet h w Ev.ANX_LINK_CHANGE ∧ RegsBut s.dev h [(.anx, 0x010), (.anx, 0x044)] ∧
        SameButRegs s.dev h)) ∧
  (∀ (s : State) (ini : Initiator) (w : Wing), Runs s.dev → Writable s.dev ini (pg .anx w) 0x040 → fget s.dev w ANX_CTRL_LINK_EN = 1 →
    fget s.dev w ANX_LINK_STATUS_TRAINING = 0 →
    Completes (.anxRetrainCmd ini w) s (fun h =>
      fget h w ANX_LINK_STATUS_TRAINING = 1 ∧
        fget h w ANX_RETRAIN_COUNT_COUNT = min (fget s.dev w ANX_RETRAIN_COUNT_COUNT + 1) (2 ^ 32 - 1) ∧
        RegsBut s.dev h [(.anx, 0x044), (.anx, 0x070)] ∧ SameButRegs (reply s.dev false) h)) ∧
  (∀ (s : State) (ini : Initiator) (w : Wing), Runs s.dev → Writable s.dev ini (pg .anx w) 0x040 →
    fget s.dev w ANX_LINK_STATUS_TRAINING = 1 →
    Completes (.anxRetrainCmd ini w) s (fun h => RegsBut s.dev h [] ∧ SameButRegs (reply s.dev false) h)) ∧
  (∀ (s : State) (ini : Initiator) (w : Wing), Runs s.dev → Writable s.dev ini (pg .anx w) 0x040 →
    Completes (.anxClrStats ini w) s (fun h =>
      fget h w ANX_COMMIT_MAX_NS = 0 ∧ fget h w ANX_RETRY_COUNT_COUNT = 0 ∧ fget h w ANX_RETRAIN_COUNT_COUNT = 0 ∧
        RegsBut s.dev h [(.anx, 0x068), (.anx, 0x06C), (.anx, 0x070)] ∧ SameButRegs (reply s.dev false) h)) ∧
  (∀ (s : State) (w : Wing), Runs s.dev → anxUp s.dev w = true →
    Completes (.anxLaneFail w) s (fun h =>
      fget h w ANX_LINK_STATUS_TRAINING = 1 ∧ EventSet h w Ev.ANX_LINK_CHANGE ∧
        (fget s.dev w ANX_CTRL_HALF_WIDTH_OK = 1 → fget h w ANX_LINK_STATUS_UP = 1 ∧ fget h w ANX_LINK_STATUS_LANES = 8) ∧
        (fget s.dev w ANX_CTRL_HALF_WIDTH_OK = 0 → fget h w ANX_LINK_STATUS_UP = 0)))

/-- Namespace commands on CAT.E with none running (R183, R184, R195, R212): CREATE enters the namespace, DELETE removes it with its
Vitrine slots, RESIZE changes its size, EXPOSE makes an edition a read-only namespace and UNEXPOSE removes it. Each leaves RESULT at DONE
and raises NS_CMD_DONE, and a change goes to the peer. A command on a namespace that the peer owns ends with FENCED and changes no
namespace. It rests on choices of the model: log entries 90, 91. -/
def Obligations.NamespaceCommandsAct : Prop :=
  (∀ (s : State) (ini : Initiator) (n : Namespace), Runs s.dev → Writable s.dev ini (pg .cat .east) 0x070 → s.dev.cat.busy = none →
    n = newNs (argNsid s.dev) (argAttr s.dev) (argSize s.dev) true ((argAttr s.dev).testBit 28) →
    (∀ x ∈ nsOfColl s.dev n.coll, x.owned = true) → nsFits s.dev n.nsid n.coll n.home n.size = true →
    Completes (.nsCreate ini .east) s (fun h =>
      SameButPages (nsGet? h n.nsid) (some n) ∧ (∀ k, k ≠ n.nsid → SameButPages (nsGet? h k) (nsGet? s.dev k)) ∧
      fget h .east CAT_NS_STATUS_RESULT = 0 ∧
        EventSet h .east Ev.CAT_NS_CMD_DONE ∧ h.mem = s.dev.mem ∧
        (∀ p, hasPeer s.dev = true → anxPort s.dev n.home = some p → ∃ t,
          AnxSent s.dev h p t n.coll (.catUpdate [⟨n.nsid, 0, 2 ^ 64 - 1, argAttr s.dev % 2 ^ 32, n.size, 0⟩])))) ∧
  (∀ (s : State) (ini : Initiator) (n : Namespace), Runs s.dev → Writable s.dev ini (pg .cat .east) 0x070 → s.dev.cat.busy = none →
    nsGet? s.dev (argNsid s.dev) = some n → n.owned = true → n.readOnly = false →
    Completes (.nsDelete ini .east) s (fun h =>
      nsGet? h (argNsid s.dev) = none ∧ (∀ k, k ≠ argNsid s.dev → SameButPages (nsGet? h k) (nsGet? s.dev k)) ∧
        (∀ v ∈ h.vit.slots, v.nsid ≠ argNsid s.dev) ∧ fget h .east CAT_NS_STATUS_RESULT = 0 ∧ EventSet h .east Ev.CAT_NS_CMD_DONE ∧
        h.mem = s.dev.mem)) ∧
  (∀ (s : State) (ini : Initiator) (n : Namespace), Runs s.dev → Writable s.dev ini (pg .cat .east) 0x070 → s.dev.cat.busy = none →
    nsGet? s.dev (argNsid s.dev) = some n → n.owned = true → 1 ≤ argSize s.dev → argSize s.dev ≤ 2 ^ 41 →
    Completes (.nsResize ini .east) s (fun h =>
      SameButPages (nsGet? h (argNsid s.dev)) (some { n with size := argSize s.dev }) ∧
        (∀ k, k ≠ argNsid s.dev → SameButPages (nsGet? h k) (nsGet? s.dev k)) ∧ fget h .east CAT_NS_STATUS_RESULT = 0 ∧
        EventSet h .east Ev.CAT_NS_CMD_DONE ∧ h.mem = s.dev.mem)) ∧
  (∀ (s : State) (ini : Initiator) (n : Namespace) (e : Edition), Runs s.dev → Writable s.dev ini (pg .cat .east) 0x070 →
    s.dev.cat.busy = none → selectedNs s.dev = some n → n.owned = true → editionOf n (argEdition s.dev) = some e → e.exposedAs = none →
    nsFits s.dev (argNsid s.dev) n.coll n.home n.size = true →
    Completes (.nsExpose ini .east) s (fun h =>
      (∃ x : Namespace, nsGet? h (argNsid s.dev) = some x ∧ x.readOnly = true ∧ x.leaves = e.leaves ∧ x.pages = e.pages ∧
      x.coll = n.coll ∧ x.size = n.size ∧
        x.editions = []) ∧
        fget h .east CAT_NS_STATUS_RESULT = 0 ∧ EventSet h .east Ev.CAT_NS_CMD_DONE ∧ h.vit = s.dev.vit ∧ h.out = s.dev.out)) ∧
  (∀ (s : State) (ini : Initiator) (n : Namespace) (e : Edition) (x : Nat), Runs s.dev → Writable s.dev ini (pg .cat .east) 0x070 →
    s.dev.cat.busy = none → selectedNs s.dev = some n → n.owned = true → editionOf n (argEdition s.dev) = some e → e.exposedAs = some x →
    Completes (.nsUnexpose ini .east) s (fun h =>
      nsGet? h x = none ∧ fget h .east CAT_NS_STATUS_RESULT = 0 ∧ EventSet h .east Ev.CAT_NS_CMD_DONE ∧ h.out = s.dev.out)) ∧
  (∀ (s : State) (ini : Initiator) (n : Namespace), Runs s.dev → Writable s.dev ini (pg .cat .east) 0x070 → s.dev.cat.busy = none →
    nsGet? s.dev (argNsid s.dev) = some n → n.owned = false →
    ∀ c ∈ [Instr.nsDelete ini .east, .nsResize ini .east, .nsFreeze ini .east, .editionDelete ini .east], Completes c s (fun h =>
      fget h .east CAT_NS_STATUS_RESULT = 9 ∧ EventSet h .east Ev.CAT_NS_CMD_DONE ∧ h.cat = s.dev.cat ∧
        RegsBut s.dev h [(.cat, 0x010), (.cat, 0x074)]))

/-- FREEZE writes the namespace's dirty pages and makes an edition of the leaves as they stand, with their root, under a number above
every earlier one (R193); EDITION_DELETE starts its walk (R195). A checkpoint starts by CKPT_NOW or its interval with the journal cut and
the dirty pages written, and ends by CKPT_DONE with this head's own entries trimmed up to the cut, what it holds in flash, and its marker
sent (R189, R190, R191). A page-in brings its leaf's page in; one whose seal fails, and its rebuilt page's too, fails the commands that
need it (R187, R188). It rests on choices of the model: log entries 92, 93, 101. -/
def Obligations.EditionsAndCheckpoints : Prop :=
  (∀ (s : State) (ini : Initiator) (n : Namespace), Runs s.dev → Writable s.dev ini (pg .cat .east) 0x070 → s.dev.cat.busy = none →
    nsGet? s.dev (argNsid s.dev) = some n → n.owned = true → n.lastEdition < argEdition s.dev → n.editions.length < 16384 →
    pairEditions s.dev < 1048576 →
    Completes (.nsFreeze ini .east) s (fun h =>
      (∃ (n' : Namespace) (e : Edition), nsGet? h (argNsid s.dev) = some n' ∧ n'.editions = n.editions ++ [e] ∧
        e.number = argEdition s.dev ∧ e.leaves = n.leaves ∧ e.freezeSerial = lastSerial s.dev ∧ e.rootLoc = (rootOf e.pages).loc ∧
        e.rootSeal = (rootOf e.pages).cmac ∧ e.exposedAs = none ∧ n'.leaves = n.leaves ∧ n'.lastEdition = argEdition s.dev) ∧
        (∀ p ∈ h.cat.dirtyPages, p.1 ≠ argNsid s.dev) ∧ (∀ k, k ≠ argNsid s.dev → SameButPages (nsGet? h k) (nsGet? s.dev k)) ∧
        fget h .east CAT_NS_STATUS_RESULT = 0 ∧ h.mem = s.dev.mem)) ∧
  (∀ (s : State) (ini : Initiator) (n : Namespace) (e : Edition), Runs s.dev → Writable s.dev ini (pg .cat .east) 0x070 →
    s.dev.cat.busy = none → nsGet? s.dev (argNsid s.dev) = some n → n.owned = true → editionOf n (argEdition s.dev) = some e →
    e.exposedAs = none → s.dev.cat.heldEditions.contains (n.coll, e.number) = false →
    Completes (.editionDelete ini .east) s (fun h =>
      h.cat = { s.dev.cat with busy := some (n.nsid, e.number) } ∧ fget h .east CAT_NS_STATUS_BUSY = 1 ∧
        RegsBut s.dev h [(.cat, 0x074)] ∧ h.out = s.dev.out)) ∧
  (∀ (s : State) (ini : Initiator) (w : Wing), Runs s.dev → Writable s.dev ini (pg .cat w) 0x040 →
    fget s.dev .east CAT_CKPT_STATUS_IN_PROGRESS = 0 →
    Completes (.ckptNow ini w) s (fun h => CheckpointBegun s.dev h)) ∧
  (∀ s : State, Runs s.dev → fget s.dev .east CAT_CKPT_STATUS_IN_PROGRESS = 0 →
    1000 * fget s.dev .east CAT_CKPT_INTERVAL ≤ s.dev.cat.frames →
    Completes .ckptInterval s (fun h => CheckpointBegun s.dev h)) ∧
  (∀ (s : State) (loc ms : Nat), Runs s.dev → fget s.dev .east CAT_CKPT_STATUS_IN_PROGRESS = 1 →
    Completes (.ckptDone loc ms) s (fun h =>
      fget h .east CAT_CKPT_STATUS_IN_PROGRESS = 0 ∧
        fget h .east CAT_CKPT_LAST_NUMBER = (fget s.dev .east CAT_CKPT_LAST_NUMBER + 1) % 2 ^ 32 ∧
        h.cat.journal = (s.dev.cat.journal.take s.dev.cat.cut).filter isPeerEntry ++ s.dev.cat.journal.drop s.dev.cat.cut ∧
        h.cat.flash = s.dev.cat.cutSnap ∧ h.cat.flashSeal = s.dev.cat.cutSeal ∧ EventSet h .east Ev.CAT_CKPT_DONE ∧
        h.cat.nss = s.dev.cat.nss ∧
        (∀ p, hasPeer s.dev = true → anxPort s.dev .east = some p → ∃ t,
          AnxSent s.dev h p t 0 (.catUpdate [⟨0, 0, (fget s.dev .east CAT_CKPT_LAST_NUMBER + 1) % 2 ^ 32, 0, loc, 0⟩])))) ∧
  (∀ (s : State) (nsid leaf : Nat) (rebuilt : Bool), Runs s.dev →
    Completes (.pageIn nsid leaf true rebuilt) s (fun h =>
      fget h (homeOf s.dev nsid) CAT_CNT_PAGEIN_COUNT = min (fget s.dev (homeOf s.dev nsid) CAT_CNT_PAGEIN_COUNT + 1) (2 ^ 32 - 1) ∧
        h = usePath (fadd s.dev (homeOf s.dev nsid) CAT_CNT_PAGEIN_COUNT) nsid leaf ∧ h.cat.resident.any (isPage nsid 0 leaf) = true ∧
        h.cat.nss = s.dev.cat.nss ∧ h.cat.lines = s.dev.cat.lines ∧ RegsBut s.dev h [(.cat, 0x080)])) ∧
  (∀ (s : State) (nsid leaf : Nat), Runs s.dev →
    Completes (.pageIn nsid leaf false true) s (fun h =>
      EventSet h (homeOf s.dev nsid) Ev.CAT_SEAL_FAIL ∧ h.cat.resident.any (isPage nsid 0 leaf) = true ∧ h.foy = s.dev.foy ∧
        h.cat.nss = s.dev.cat.nss ∧ RegsBut s.dev h [(.cat, 0x010), (.cat, 0x080), (.cat, 0x084)])) ∧
  (∀ (s : State) (nsid leaf : Nat), Runs s.dev →
    Completes (.pageIn nsid leaf false false) s (fun h =>
      EventSet h (homeOf s.dev nsid) Ev.CAT_SEAL_FAIL ∧
        (∀ k c, tabGet? s.dev.foy.cmds k = some c → c.cap.nsid = nsid → c.cap.slba < 512 * (leaf + 1) →
          512 * leaf < c.cap.slba + c.cap.count → tabGet? h.foy.cmds k = some { c with failed := some .checkFail }) ∧
        RegsBut s.dev h [(.cat, 0x010), (.cat, 0x080), (.cat, 0x084)] ∧ h.cat = s.dev.cat))

/-- The ways of a Catalogue cache: CCH_WAY_EN disables ways, which are then cleaned and go dark, and enables them (R197); a way above its
threshold of corrected errors is cleaned and fenced, and an uncorrectable error loses a dirty line (R198). The Registrar takes what is
left of the frame's budget of the oldest granules (R31, R203); a compare read that matches takes the entry's locator, one that differs
marks it COLLIDED (R205); REINDEX and the replay's end (R192, R201). It rests on choices of the model: log entries 98, 100, 217, 222. -/
def Obligations.WaysAndAccession : Prop :=
  (∀ (s : State) (ini : Initiator) (w : Wing) (v : Word), Runs s.dev → Writable s.dev ini (pg .cch w) 0x040 → bitsOf v 15 0 ≠ 0 →
    bitsOf v 15 0 &&& fget s.dev w CCH_FENCED_WAYS = 0 →
    Completes (.wayEnWrite ini w v) s (fun h =>
      fget h w CCH_WAY_EN_WAYS = bitsOf v 15 0 ∧
        (∀ k, k < 16 → (fget s.dev w CCH_WAY_EN_WAYS).testBit k = true → (bitsOf v 15 0).testBit k = false →
          (fget h w CCH_WAY_STATE_CLEANING).testBit k = true) ∧
        (∀ k, k < 16 → (fget s.dev w CCH_WAY_EN_WAYS).testBit k = false → (bitsOf v 15 0).testBit k = true →
          (fget h w CCH_WAY_STATE_DARK).testBit k = false) ∧
        RegsBut s.dev h [(.cch, 0x040), (.cch, 0x044)] ∧ SameButRegs (reply s.dev false) h)) ∧
  (∀ (s : State) (w : Wing) (k micros : Nat), Runs s.dev → k < 16 → (fget s.dev w CCH_WAY_STATE_CLEANING).testBit k = true →
    (fget s.dev w CCH_WAY_EN_WAYS).testBit k = false →
    Completes (.wayCleanDone w k micros) s (fun h =>
      (fget h w CCH_WAY_STATE_CLEANING).testBit k = false ∧ (fget h w CCH_WAY_STATE_DARK).testBit k = true ∧
        EventSet h w Ev.CCH_CLEAN_DONE ∧
        fget h w CCH_CLEAN_MAX_MICROS = max (fget s.dev w CCH_CLEAN_MAX_MICROS) (min micros (2 ^ 32 - 1)) ∧
        RegsBut s.dev h [(.cch, 0x010), (.cch, 0x044), (.cch, 0x05C)] ∧
        (∀ set x, set < cacheSets → x < 16 →
          tabGet? h.cat.lines (lineKey w set x) = if x = k then none else tabGet? s.dev.cat.lines (lineKey w set x)) ∧
        h.cat.nss = s.dev.cat.nss)) ∧
  (∀ (s : State) (w : Wing) (k errors : Nat), Runs s.dev → k < 16 → (fget s.dev w CCH_FENCED_WAYS).testBit k = false →
    fget s.dev w CCH_ECC_THRESH_COUNT < errors →
    Completes (.wayEccFence w k errors) s (fun h =>
      (fget h w CCH_FENCED_WAYS).testBit k = true ∧ (fget h w CCH_WAY_EN_WAYS).testBit k = false ∧
        (fget h w CCH_WAY_STATE_CLEANING).testBit k = true ∧ fget h w CCH_ECC_LAST_WAY = k ∧ EventSet h w Ev.CCH_WAY_FENCED ∧
        RegsBut s.dev h [(.cch, 0x010), (.cch, 0x040), (.cch, 0x044), (.cch, 0x048), (.cch, 0x050)] ∧ h.out = s.dev.out)) ∧
  (∀ (s : State) (w : Wing) (set way : Nat) (l : CacheLine), Runs s.dev → tabGet? s.dev.cat.lines (lineKey w set way) = some l →
    l.dirty = true →
    Completes (.lineEcc w set way) s (fun h =>
      EventSet h w Ev.CCH_LINE_LOST ∧ fget h w CCH_LOST_COUNT = min (fget s.dev w CCH_LOST_COUNT + 1) (2 ^ 32 - 1) ∧
        tabGet? h.cat.lines (lineKey w set way) = none ∧ h.cat.resident = s.dev.cat.resident.filter (fun p => !pageOfLine l.line p) ∧
        h.cat.nss = s.dev.cat.nss ∧ RegsBut s.dev h [(.cch, 0x010), (.cch, 0x060)])) ∧
  (∀ (s : State) (w : Wing) (set way : Nat), Runs s.dev →
    (∀ l, tabGet? s.dev.cat.lines (lineKey w set way) = some l → l.dirty = false) →
    Completes (.lineEcc w set way) s (fun h => h = s.dev)) ∧
  (∀ (s : State) (w : Wing) (l : List Slot) (n : Nat), Runs s.dev → accessionWaits s.dev w = false →
    l = s.dev.vit.slots.filter (accessible s.dev w) → n = frameBudget s.dev 16 (fget s.dev w RGS_BUDGET_GRANULES) - accUsed s.dev w →
    n < l.length →
    Completes (.accessionBatch w) s (fun h => ∃ g : Head,
      accUsed g w = accUsed s.dev w + n ∧ RegsBut s.dev g [] ∧
        g.vit = s.dev.vit ∧ g.cat = { s.dev.cat with
          accE := g.cat.accE, accW := g.cat.accW, accLeftE := g.cat.accLeftE, accLeftW := g.cat.accLeftW } ∧
        (if w = .east then g.cat.accLeftE else g.cat.accLeftW) = l.length - n ∧ (if w = .east then g.frm.carriedE else g.frm.carriedW) = true ∧
        h = foldHead g (l.take n) accessGranule)) ∧
  (∀ (s : State) (w : Wing) (seq fp : Nat) (v : Slot) (e : IndexEntry) (same : Bool), Runs s.dev →
    s.dev.cat.comparing.find? (fun c => c.1 == w && c.2.1 == seq) = some (w, seq, fp) → slotOf s.dev w seq = some v →
    (indexOf s.dev v.label.coll).find? (fun e => e.fp == fp && usable e) = some e →
    Completes (.compareReadDone w seq .done same false) s (fun h =>
      let g := fadd { s.dev with cat := { s.dev.cat with
        comparing := s.dev.cat.comparing.filter (fun c => !(c.1 == w && c.2.1 == seq)) } } v.wing RGS_CNT_COMPARE_COUNT
      h = (if same then takeDup g v e
        else takeUnique (raise (updEntry g v.label.coll e.fp (fun x => { x with collided := true })) v.wing Ev.RGS_COLLIDED) v e.fp))) ∧
  (∀ (s : State) (ini : Initiator) (w : Wing), Runs s.dev → Writable s.dev ini (pg .rgs w) 0x040 →
    Completes (.rgsReindex ini w) s (fun h =>
      h.cat.reindexing.contains (fget s.dev w RGS_COLL_INDEX_INDEX) = true ∧ h.cat.index = s.dev.cat.index ∧
        (∀ c, c ≠ fget s.dev w RGS_COLL_INDEX_INDEX → tabGet? h.cat.filter c = tabGet? s.dev.cat.filter c) ∧
        RegsBut s.dev h [(.rgs, 0x010)] ∧ h.cat.nss = s.dev.cat.nss)) ∧
  (∀ s : State, Runs s.dev → s.dev.cat.replaying = true →
    Completes .replayDone s (fun h =>
      h.cat.replaying = false ∧ (∀ w, EventSet h w Ev.RGS_REPLAY_DONE) ∧
        (∀ j ∈ h.cat.journal, ∀ b e r, j = JournalEntry.update b e r → b = true) ∧
        (∀ k, SameButPages (nsGet? h k) (nsGet? s.dev k)) ∧ h.out = s.dev.out))

/-- A unit that fails leaves with its cause and UNIT_FAILED (R217); FENCE drains a unit, a drained unit is fenced, and UNFENCE puts a
fenced one under test, after which it is a spare; a spare takes the place of a unit that was ACTIVE (R217, R219). A case whose first
granule has waited FLUSH_FRAMES is closed (R232). An operation that ends places its bytes, writes its 16-byte entry at the tail of an
enabled queue with room, and leaves its class; every other byte of memory is unchanged, and EVENT sends the queue's MSI (R64, R66, R371).
With no room its entry is held (R67). It rests on choices of the model: log entries 57, 224, 225. -/
def Obligations.UnitsFailAndOperationsComplete : Prop :=
  (∀ (s : State) (cls : Block) (w : Wing) (u cause : Nat), Runs s.dev → isUnitClass cls = true → u < totalUnits cls → cause < 16 →
    fget s.dev w (unitState cls) u ≠ 3 →
    Completes (.unitFailed cls w u cause) s (fun h =>
      fget h w (unitState cls) u = 3 ∧ fget h w (unitCause cls) u = cause ∧ EventSet h w ⟨cls, 0⟩ ∧
        (∀ o ∈ h.eng.ops, o.cls = cls → o.wing = w → o.unit = u → o.chained = true → o.held = false → o.ready = true ∧ o.place = []) ∧
        (∀ c ∈ h.eng.chains, c.cls = cls → c.wing = w → c.unit = u → c.broken = true) ∧ h.mem = s.dev.mem ∧ h.out = s.dev.out)) ∧
  (∀ (s : State) (ini : Initiator) (cls : Block) (w : Wing) (u : Nat), Runs s.dev → isUnitClass cls = true →
    Writable s.dev ini (pg cls w) 0x050 → u = selectedUnit s.dev cls w → fget s.dev w (unitState cls) u ≠ 3 →
    unitsIn s.dev cls w 0 ≠ [u] →
    Completes (.unitFence ini cls w) s (fun h =>
      fget h w (unitState cls) u = 5 ∧
        (fget s.dev w (unitState cls) u = 0 → fget h w (unitCause cls) u = fget s.dev w (unitCause cls) u) ∧
        RegsBut s.dev h [(cls, 0x044), (cls, 0x04C)] ∧ SameButRegs (reply s.dev false) h)) ∧
  (∀ (s : State) (ini : Initiator) (cls : Block) (w : Wing) (u : Nat), Runs s.dev → isUnitClass cls = true →
    Writable s.dev ini (pg cls w) 0x050 → u = selectedUnit s.dev cls w → fget s.dev w (unitState cls) u = 4 →
    Completes (.unitUnfence ini cls w) s (fun h =>
      fget h w (unitState cls) u = 2 ∧ fget h w (unitCause cls) u = 0 ∧ h.eng.testing = s.dev.eng.testing ++ [(cls, w, u)] ∧
        RegsBut s.dev h [(cls, 0x044), (cls, 0x04C)] ∧
        SameButRegs { reply s.dev false with eng := { s.dev.eng with testing := h.eng.testing } } h)) ∧
  (∀ (h : Head) (cls : Block) (w : Wing) (u : Nat), isUnitClass cls = true → u < totalUnits cls → (cls, w, u) ∈ h.eng.testing →
    fget h w (unitState cls) u = 2 → fget (endTests h) w (unitState cls) u = 1 ∧ (endTests h).eng.testing = []) ∧
  (∀ (s : State) (cls : Block) (w : Wing) (u : Nat), Runs s.dev → isUnitClass cls = true → fget s.dev w (unitState cls) u = 5 →
    unitBusy s.dev cls w u = false → fget s.dev w (unitCause cls) u = 5 →
    Completes (.unitDrained cls w u) s (fun h =>
      fget h w (unitState cls) u = 4 ∧ RegsBut s.dev h [(cls, 0x044), (cls, 0x04C)] ∧ SameButRegs s.dev h)) ∧
  (∀ (s : State) (cls : Block) (w : Wing) (u : Nat), Runs s.dev → isUnitClass cls = true → fget s.dev w (unitState cls) u = 5 →
    unitBusy s.dev cls w u = false → fget s.dev w (unitCause cls) u ≠ 5 →
    Completes (.unitDrained cls w u) s (fun h =>
      fget h w (unitState cls) u = 4 ∧ fget h w (unitCause cls) u = 5 ∧
        (unitsIn s.dev cls w 1 = [] → EventSet h w ⟨cls, 2⟩) ∧
        (spareAuto s.dev cls w = true → unitsIn s.dev cls w 1 ≠ [] →
          EventSet h w ⟨cls, 1⟩ ∧ ∃ v ∈ unitsIn s.dev cls w 1, fget h w (unitState cls) v = 0) ∧
        h.eng = s.dev.eng ∧ h.mem = s.dev.mem)) ∧
  (∀ (s : State) (w : Wing) (stream : Nat) (c : CaseStream), Runs s.dev → openCase s.dev w stream = some c →
    fget s.dev w CDC_STREAM_FLUSH_FRAMES ≤ c.age → unitsIn s.dev .cdc w 0 ≠ [] →
    Completes (.streamFlushTimeout w stream) s (fun h => ∃ u ∈ unitsIn s.dev .cdc w 0,
      h.eng.cases = s.dev.eng.cases.map (fun c =>
        if c.wing = w ∧ c.stream = stream ∧ c.closed = false then { c with closed := true, unit := some u } else c) ∧
        h.eng.ops = s.dev.eng.ops ∧ RegsBut s.dev h [(.cdc, 0x05C)] ∧ h.mem = s.dev.mem)) ∧
  (∀ (s : State) (w : Wing) (stream : Nat) (c : CaseStream), Runs s.dev → openCase s.dev w stream = some c →
    fget s.dev w CDC_STREAM_FLUSH_FRAMES ≤ c.age → unitsIn s.dev .cdc w 0 = [] →
    Completes (.streamFlushTimeout w stream) s (fun h =>
      h.eng.cases = s.dev.eng.cases.map (fun c =>
        if c.wing = w ∧ c.stream = stream ∧ c.closed = false then { c with closed := true, unit := none } else c) ∧
        h.eng.ops = s.dev.eng.ops ∧ RegsBut s.dev h [(.cdc, 0x05C)] ∧ h.mem = s.dev.mem)) ∧
  (∀ (s : State) (cls : Block) (w : Wing) (tag k i : Nat) (o : EngOp), Runs s.dev → cls ≠ .dma →
    (indicesOf s.dev.eng.ops (fun o => o.cls == cls && o.wing == w && o.tag == tag && o.ready && !o.held))[k]? = some i →
    s.dev.eng.ops[i]? = some o → o.quiet = false → o.poison = [] → cqRoom s.dev w o.cq = true →
    Completes (.engineCompletion cls w tag k) s (fun h =>
      let t := fget s.dev w CPU_CQ_PTR_TAIL o.cq
      let e := cqBase s.dev w o.cq + 16 * (t % cqSize s.dev w o.cq)
      h.mem = memPut (placeAll s.dev o.place).mem e 16 (cqEntry s.dev o) ∧
        (∀ a, (∀ p ∈ o.place, a < p.addr ∨ p.addr + p.len ≤ a) → a < e ∨ e + 16 ≤ a → memByte h.mem a = memByte s.dev.mem a) ∧
        fget h w CPU_CQ_PTR_TAIL o.cq = (t + 1) % 65536 ∧ h.eng.ops = s.dev.eng.ops.eraseIdx i ∧
        h.out = s.dev.out ++ (if o.event then
          [.msi (fget s.dev w CPU_CQ_CFG_HART o.cq) (fbit s.dev w CPU_CQ_CFG_MLEVEL o.cq) (fget s.dev w CPU_CQ_CFG_IDENTITY o.cq)]
          else []) ∧
        h.keys = s.dev.keys ∧ h.vit = s.dev.vit ∧ h.cat = s.dev.cat)) ∧
  (∀ (s : State) (cls : Block) (w : Wing) (tag k i : Nat) (o : EngOp), Runs s.dev → cls ≠ .dma →
    (indicesOf s.dev.eng.ops (fun o => o.cls == cls && o.wing == w && o.tag == tag && o.ready && !o.held))[k]? = some i →
    s.dev.eng.ops[i]? = some o → o.quiet = false → o.poison = [] → fget s.dev w CPU_CQ_CFG_ENABLE o.cq = 1 →
    cqRoom s.dev w o.cq = false → (∀ x ∈ s.dev.eng.ops, x.held = true → x.wing = w → x.cq ≠ o.cq) →
    Completes (.engineCompletion cls w tag k) s (fun h =>
      h.eng.ops = s.dev.eng.ops.set i { o with held := true } ∧ EventSet h w Ev.CPU_CQ_FULL ∧
        h.mem = (placeAll s.dev o.place).mem ∧ fget h w CPU_CQ_PTR_TAIL o.cq = fget s.dev w CPU_CQ_PTR_TAIL o.cq ∧ h.out = s.dev.out))

/-- The digest lanes (R223 to R228): HASH gives SHA-2 of its bytes at DST, HMAC the MAC under its key, COMPARE and HMAC_VERIFY say in
completion byte 3 whether their bytes are equal; STATE_SAVE writes the chain's record and ends the chain, STATE_RESTORE loads it;
HKDF_TO_SLOT fills an EMPTY slot, which is then LOADED under a new generation. A measured HASH disarms its register (R229). It rests on
choices of the model: log entries 61, 62, 226. -/
def Obligations.DigestLanesCompute : Prop :=
  (∀ (s : State) (w : Wing) (src : Source) (t : Taken) (h' : Head) (data : Nat), Runs s.dev → Starts s.dev w .dge src 1 t h' →
    chainOf h' .dge w t.ring = none → dFlag t.d 5 = false → dFlag t.d 6 = false → dgLen t.d ≤ 2 ^ 24 →
    engineRead h' (dgSrc t.d) (dgLen t.d) = .ok data → rangeAll (dgDst t.d) (digestLen (dFlag t.d 4)) (engineReach h') = true →
    unitsIn h' .dge w 0 ≠ [] →
    Completes (.dgeHash w src) s (fun h => ∃ (g : Head) (u v : Nat), UnitTaken h' g .dge w u ∧
      v = Config.shaFinish (dFlag t.d 4) (Config.shaInit (dFlag t.d 4)) 0 (dgLen t.d) data % 2 ^ (8 * digestLen (dFlag t.d 4)) ∧
      Joined (setChain g .dge w t.ring none) h { newOp .dge w t with
        unit := u, bytes := digestLen (dFlag t.d 4), word := v % 2 ^ 64, place := [⟨dgDst t.d, digestLen (dFlag t.d 4), v⟩] })) ∧
  (∀ (s : State) (w : Wing) (src : Source) (t : Taken) (h' : Head) (data : Nat), Runs s.dev → Starts s.dev w .dge src 1 t h' →
    chainOf h' .dge w t.ring = none → dFlag t.d 5 = false → dFlag t.d 6 = true → measureOk h' t (dgMsr t.d) = true → dgLen t.d ≤ 2 ^ 24 →
    engineRead h' (dgSrc t.d) (dgLen t.d) = .ok data → rangeAll (dgDst t.d) (digestLen (dFlag t.d 4)) (engineReach h') = true →
    unitsIn h' .dge w 0 ≠ [] →
    Completes (.dgeHash w src) s (fun h =>
      (fget h .east MSR_ARMED_ARMED).testBit (dgMsr t.d - 10) = false ∧ EventSet h .east Ev.MSR_EXTENDED ∧
        fget h w DGE_CNT_MEASURE_COUNT = min (fget s.dev w DGE_CNT_MEASURE_COUNT + 1) (2 ^ 32 - 1) ∧ h.mem = s.dev.mem)) ∧
  (∀ (s : State) (w : Wing) (src : Source) (t : Taken) (h' : Head) (data id : Nat), Runs s.dev → Starts s.dev w .dge src 2 t h' →
    checkKey h' .dge w t (dgKey t.d) 4 = .ok id →
    ¬ (keyUsage h' id = 1 ∧ tabHas h'.bindings (slotColl h' id) = true ∧ h'.eng.fpStates.contains (slotColl h' id) = false) →
    chainOf h' .dge w t.ring = none → dFlag t.d 5 = false → dgLen t.d ≤ 2 ^ 24 →
    engineRead h' (dgSrc t.d) (dgLen t.d) = .ok data → rangeAll (dgDst t.d) (digestLen (dFlag t.d 4)) (engineReach h') = true →
    unitsIn h' .dge w 0 ≠ [] →
    Completes (.dgeHmac w src) s (fun h => ∃ (g : Head) (u v : Nat), UnitTaken h' g .dge w u ∧
      v = Config.hmacFinish (dFlag t.d 4) (keyValue h' id) (Config.hmacInit (dFlag t.d 4) (keyValue h' id)) 0 (dgLen t.d) data %
        2 ^ (8 * digestLen (dFlag t.d 4)) ∧
      Joined (setChain g .dge w t.ring none) h { newOp .dge w t with
        unit := u, key := some id, bytes := digestLen (dFlag t.d 4), word := v % 2 ^ 64
        place := [⟨dgDst t.d, digestLen (dFlag t.d 4), v⟩] })) ∧
  (∀ (s : State) (w : Wing) (src : Source) (t : Taken) (h' : Head) (a b : Nat), Runs s.dev → Starts s.dev w .dge src 3 t h' →
    chainOf h' .dge w t.ring = none → 1 ≤ dgLen t.d → dgLen t.d ≤ 2 ^ 24 → engineRead h' (dgSrc t.d) (dgLen t.d) = .ok a →
    engineRead h' (dgDst t.d) (dgLen t.d) = .ok b →
    unitsIn h' .dge w 0 ≠ [] →
    Completes (.dgeCompare w src none) s (fun h => ∃ (g : Head) (u : Nat),
      UnitTaken (fadd h' w DGE_CNT_COMPARE_COUNT) g .dge w u ∧
      Joined g h { newOp .dge w t with
        unit := u, status := if a = b then .done else .checkFail, extra := if a = b then 1 else 2 })) ∧
  (∀ (s : State) (w : Wing) (src : Source) (t : Taken) (h' : Head) (data exp id : Nat), Runs s.dev → Starts s.dev w .dge src 4 t h' →
    checkKey h' .dge w t (dgKey t.d) 4 = .ok id → keyUsage h' id ≠ 1 → chainOf h' .dge w t.ring = none → dFlag t.d 5 = false →
    dgLen t.d ≤ 2 ^ 24 → engineRead h' (dgSrc t.d) (dgLen t.d) = .ok data →
    engineRead h' (dgDst t.d) (digestLen (dFlag t.d 4)) = .ok exp → unitsIn h' .dge w 0 ≠ [] →
    Completes (.hmacVerify w src none) s (fun h => ∃ (g : Head) (u v : Nat), UnitTaken h' g .dge w u ∧
      v = Config.hmacFinish (dFlag t.d 4) (keyValue h' id) (Config.hmacInit (dFlag t.d 4) (keyValue h' id)) 0 (dgLen t.d) data %
        2 ^ (8 * digestLen (dFlag t.d 4)) ∧
      Joined (fadd (setChain g .dge w t.ring none) w DGE_CNT_COMPARE_COUNT) h { newOp .dge w t with
        unit := u, key := some id, status := if v = exp then .done else .checkFail, extra := if v = exp then 1 else 2 })) ∧
  (∀ (s : State) (w : Wing) (src : Source) (t : Taken) (h' : Head) (c : Chain), Runs s.dev → Starts s.dev w .dge src 5 t h' →
    chainOf h' .dge w t.ring = some c → c.broken = false → c.coll = dColl t.d → c.key = none → dCflag t.d 15 = false →
    rangeAll (dgState t.d) 96 (engineReach h') = true →
    Completes (.stateSave w src) s (fun h =>
      Joined (setChain h' .dge w t.ring none) h { newOp .dge w t with
        unit := c.unit, key := none, bytes := 96, chained := true, place := [⟨dgState t.d, 96, stateRecord c⟩] })) ∧
  (∀ (s : State) (w : Wing) (src : Source) (t : Taken) (h' : Head) (rec : Nat), Runs s.dev → Starts s.dev w .dge src 6 t h' →
    dCflag t.d 15 = false → privateOk t = true → chainOf h' .dge w t.ring = none → engineRead h' (dgState t.d) 104 = .ok rec →
    keyState h' (ctxWrapSlot w) = 2 →
    unitsIn h' .dge w 0 ≠ [] →
    Completes (.stateRestore w src) s (fun h => h.mem = s.dev.mem ∧ h.keys = s.dev.keys ∧
      match Config.keyUnwrap (keyValue h' (ctxWrapSlot w)) 104 rec with
      | some r => if r >>> 16 % 4096 = dColl t.d then r.testBit 8 = false → ∃ c : Chain, chainOf h .dge w t.ring = some c ∧
          c.coll = dColl t.d ∧ c.key = none ∧ c.count = r >>> 64 % 2 ^ 128 ∧ c.value = r >>> 192 % 2 ^ 512 ∧ c.mode = r % 2 ∧
          c.broken = false
        else Joined h' h { newOp .dge w t with status := .collMismatch }
      | none => rec.testBit 8 = true → Joined h' h { newOp .dge w t with status := .checkFail })) ∧
  (∀ (s : State) (w : Wing) (src : Source) (t : Taken) (h' : Head) (data id slot : Nat), Runs s.dev → Starts s.dev w .dge src 8 t h' →
    t.internal = true ∨ t.docent = true → chainOf h' .dge w t.ring = none → checkKey h' .dge w t (dgKey t.d) 4 = .ok id → keyUsage h' id ≠ 1 →
    engineRead h' (dgSrc t.d) (dgLen t.d) = .ok data → slot = dgDst t.d % 8192 → keyState h' slot = 0 → keyKind h' slot ≠ 0 →
    unitsIn h' .dge w 0 ≠ [] →
    Completes (.hkdfToSlot w src) s (fun h =>
      keyState h slot = 1 ∧ keyValue h slot = Config.hkdf (keyValue h' id) (dgLen t.d) data ∧
        keyGen h slot = (keyGen s.dev slot + 1) % 65536 ∧ (∀ k, k ≠ slot → keyValue h k = keyValue s.dev k) ∧ h.mem = s.dev.mem))

/-- The codec tiles (R231 to R236): APPEND, where it reaches its granule and its destination, opens a case or joins the open one, and
stays outstanding until the case is written; FLUSH closes it on one tile; EXPAND and the buffer operations place their result, up to
LIMIT. It rests on choices of the model: log entries 56, 64. -/
def Obligations.CodecTilesCompute : Prop :=
  (∀ (s : State) (w : Wing) (src : Source) (t : Taken) (h' : Head) (a : Appended) (data : Nat), Runs s.dev →
    Starts s.dev w .cdc src 1 t h' → engineRead h' (dBits t.d 8 48) 4096 = .ok data →
    rangeAll (dBits t.d 16 48) 32768 (engineReach h') = true → dBits t.d 8 48 % 64 = 0 → dBits t.d 16 48 % 512 = 0 →
    dBits t.d 1 8 / 16 % 4 ≠ 3 → (labelOf (dBits t.d 28 256)).coll = dColl t.d →
    a = ⟨some (dTag t.d), dBits t.d 8 48, labelOf (dBits t.d 28 256), w, 0, 0, 0, 0⟩ → openCase h' w (dBits t.d 24 9) = none →
    Completes (.cdcAppend w src) s (fun h => ∃ g : Head,
      g.eng = { h'.eng with cases := h'.eng.cases ++
        [⟨w, dBits t.d 24 9, dColl t.d, dBits t.d 16 48, staticTables h' (dColl t.d) (dBits t.d 1 8 / 16 % 4), [a], 0, false, none⟩] } ∧
        RegsBut h' g [(.cdc, 0x05C), (.cdc, 0x068)] ∧ SameButRegs { h' with eng := g.eng } g ∧
        Joined g h { newOp .cdc w t with ready := false })) ∧
  (∀ (s : State) (w : Wing) (src : Source) (t : Taken) (h' : Head) (a : Appended) (c : CaseStream) (data : Nat), Runs s.dev →
    Starts s.dev w .cdc src 1 t h' → engineRead h' (dBits t.d 8 48) 4096 = .ok data →
    rangeAll (dBits t.d 16 48) 32768 (engineReach h') = true → dBits t.d 8 48 % 64 = 0 → dBits t.d 16 48 % 512 = 0 → dBits t.d 1 8 / 16 % 4 ≠ 3 →
    (labelOf (dBits t.d 28 256)).coll = dColl t.d →
    a = ⟨some (dTag t.d), dBits t.d 8 48, labelOf (dBits t.d 28 256), w, 0, 0, 0, 0⟩ → openCase h' w (dBits t.d 24 9) = some c →
    c.coll = dColl t.d → c.items.length < 7 →
    Completes (.cdcAppend w src) s (fun h => ∃ g : Head,
      g.eng = { h'.eng with cases := h'.eng.cases.map (fun x => if x = c then { x with items := x.items ++ [a] } else x) } ∧
        RegsBut h' g [(.cdc, 0x05C), (.cdc, 0x068)] ∧ SameButRegs { h' with eng := g.eng } g ∧
        Joined g h { newOp .cdc w t with ready := false })) ∧
  (∀ (s : State) (w : Wing) (src : Source) (t : Taken) (h' : Head), Runs s.dev → Starts s.dev w .cdc src 2 t h' →
    unitsIn h' .cdc w 0 ≠ [] →
    Completes (.cdcFlush w src) s (fun h => ∃ u ∈ unitsIn h' .cdc w 0,
      h.eng.cases = h'.eng.cases.map (fun c =>
        if c.wing = w ∧ c.stream = dBits t.d 24 9 ∧ c.closed = false then { c with closed := true, unit := some u } else c) ∧
        h.eng.ops = h'.eng.ops ++ [newOp .cdc w t] ∧ h.mem = s.dev.mem)) ∧
  (∀ (s : State) (w : Wing) (src : Source) (t : Taken) (h' : Head) (data n v : Nat) (st : Status), Runs s.dev →
    Starts s.dev w .cdc src 3 t h' → n = (if dFlag t.d 6 then 4096 else dBits t.d 36 32) → engineRead h' (dBits t.d 8 48) n = .ok data →
    rangeAll (dBits t.d 16 48) 4096 (engineReach h') = true →
    (if dFlag t.d 6 then v = data ∧ st = (if Config.guard64 4096 data % 2 ^ 64 = dBits t.d 28 64 then .done else .checkFail)
      else expandCase (dColl t.d) (dBits t.d 24 3) (dBits t.d 28 64) n data = (st, false, some v)) →
    unitsIn h' .cdc w 0 ≠ [] →
    Completes (.cdcExpand w src) s (fun h => ∃ (g : Head) (u : Nat), UnitTaken h' g .cdc w u ∧
      Joined g h { newOp .cdc w t with unit := u, status := st, bytes := 4096, place := [⟨dBits t.d 16 48, 4096, v⟩] })) ∧
  (∀ (s : State) (w : Wing) (src : Source) (t : Taken) (h' : Head) (data : Nat), Runs s.dev → Starts s.dev w .cdc src 4 t h' →
    1 ≤ dBits t.d 24 32 → dBits t.d 24 32 ≤ 2 ^ 20 → dBits t.d 1 8 / 16 % 4 ≠ 3 →
    engineRead h' (dBits t.d 8 48) (dBits t.d 24 32) = .ok data → rangeAll (dBits t.d 16 48) (dBits t.d 28 32) (engineReach h') = true →
    unitsIn h' .cdc w 0 ≠ [] →
    Completes (.bufCompress w src) s (fun h => ∃ (g : Head) (u : Nat), UnitTaken h' g .cdc w u ∧
      let r := Config.deflate (staticTables h' (dColl t.d) (dBits t.d 1 8 / 16 % 4)) (dBits t.d 24 32) data
      let n := min r.1 (dBits t.d 28 32)
      Joined g h { newOp .cdc w t with
        unit := u, bytes := n, status := if dBits t.d 28 32 < r.1 then .limit else .done
        place := [⟨dBits t.d 16 48, n, r.2 % 2 ^ (8 * n)⟩] })) ∧
  (∀ (s : State) (w : Wing) (src : Source) (t : Taken) (h' : Head) (data : Nat), Runs s.dev → Starts s.dev w .cdc src 5 t h' →
    1 ≤ dBits t.d 24 32 → dBits t.d 24 32 ≤ 2 ^ 20 → engineRead h' (dBits t.d 8 48) (dBits t.d 24 32) = .ok data →
    rangeAll (dBits t.d 16 48) (dBits t.d 28 32) (engineReach h') = true →
    unitsIn h' .cdc w 0 ≠ [] →
    Completes (.bufExpand w src) s (fun h => ∃ (g : Head) (u : Nat), UnitTaken h' g .cdc w u ∧
      let r := Config.inflate (dBits t.d 24 32) data (dBits t.d 28 32 + 1)
      let n := min r.1 (dBits t.d 28 32)
      Joined g h (if r.2.2 then { newOp .cdc w t with
        unit := u, bytes := n, status := if r.1 = dBits t.d 28 32 then .done else .limit
        place := [⟨dBits t.d 16 48, n, r.2.1 % 2 ^ (8 * n)⟩] }
        else { newOp .cdc w t with unit := u, status := .checkFail })))

/-- The cipher tiles (R237 to R242), each key loaded into its tile: XTS over one data unit or the sheets of a case, a recrypted case, GCM
with the hardware's nonce (salt and invocation counter) and its tag, CMAC; a GCM tag that does not verify writes nothing. A chain's record
is saved wrapped under the wing's context-wrap key and restored. KEY_WRAP and KEY_UNWRAP work on Docent SRAM, on Docent's rings only. It
rests on choices of the model: log entries 50, 63, 228. -/
def Obligations.CipherTilesCompute : Prop :=
  (∀ (s : State) (w : Wing) (src : Source) (t : Taken) (h' : Head) (enc : Bool) (data id : Nat), Runs s.dev →
    Starts s.dev w .cph src (if enc then 1 else 2) t h' → chainOf h' .cph w t.ring = none → checkKey h' .cph w t (cpKey t.d) 1 = .ok id →
    (if dFlag t.d 4 then 16 ≤ cpLen t.d ∧ cpLen t.d ≤ 2 ^ 24 else mediaOk (dBits t.d 32 64) (cpLen t.d) = true) →
    engineRead h' (cpSrc t.d) (cpLen t.d) = .ok data → rangeAll (cpDst t.d) (cpLen t.d) (engineReach h') = true →
    unitsIn h' .cph w 0 ≠ [] →
    Completes (if enc then .xtsEnc w src else .xtsDec w src) s (fun h => ∃ (g : Head) (u : Nat), UnitTaken h' g .cph w u ∧
      Joined (loadKey g w u id) h { newOp .cph w t with
        unit := u, key := some id, bytes := cpLen t.d
        place := [⟨cpDst t.d, cpLen t.d,
          if dFlag t.d 4 then Config.xts enc (keyValue h' id) (dBits t.d 32 128) (cpLen t.d) data % 2 ^ (8 * cpLen t.d)
          else mediaXts enc (keyValue h' id) (dBits t.d 32 64) (dColl t.d) (cpLen t.d) data⟩] })) ∧
  (∀ (s : State) (w : Wing) (src : Source) (t : Taken) (h' : Head) (data id : Nat), Runs s.dev → Starts s.dev w .cph src 3 t h' →
    chainOf h' .cph w t.ring = none → checkKey h' .cph w t (cpKey t.d) 1 = .ok id → mediaOk (dBits t.d 32 64) (cpLen t.d) = true →
    mediaOk (dBits t.d 40 64) (cpLen t.d) = true → engineRead h' (cpSrc t.d) (cpLen t.d) = .ok data →
    rangeAll (cpDst t.d) (cpLen t.d) (engineReach h') = true → unitsIn h' .cph w 0 ≠ [] →
    Completes (.xtsRecrypt w src) s (fun h => ∃ (g : Head) (u : Nat), UnitTaken h' g .cph w u ∧
      Joined (loadKey g w u id) h { newOp .cph w t with
        unit := u, key := some id, bytes := cpLen t.d
        place := [⟨cpDst t.d, cpLen t.d, mediaXts true (keyValue h' id) (dBits t.d 40 64) (dColl t.d) (cpLen t.d)
          (mediaXts false (keyValue h' id) (dBits t.d 32 64) (dColl t.d) (cpLen t.d) data)⟩] })) ∧
  (∀ (s : State) (w : Wing) (src : Source) (t : Taken) (h' : Head) (data aad id : Nat), Runs s.dev → Starts s.dev w .cph src 4 t h' →
    checkKey h' .cph w t (cpKey t.d) 2 = .ok id → chainOf h' .cph w t.ring = none → tabGet h'.eng.gcmCount 0 id < 2 ^ 48 →
    cpAuxLen t.d ≤ 65536 → dFlag t.d 6 = false → engineRead h' (cpSrc t.d) (cpLen t.d) = .ok data →
    engineRead h' (cpAux t.d) (cpAuxLen t.d) = .ok aad → rangeAll (cpDst t.d) (cpLen t.d + 28) (engineReach h') = true →
    unitsIn h' .cph w 0 ≠ [] →
    Completes (.gcmEnc w src) s (fun h => ∃ o : EngOp,
      let k := gcmKey (keyValue h' id)
      let ctr := tabGet h'.eng.gcmCount 0 id
      let nonce := gcmSalt (keyValue h' id) + ctr <<< 32
      let ct := Config.gcmCrypt k nonce 0 (cpLen t.d) data % 2 ^ (8 * cpLen t.d)
      let acc := Config.gcmHash k (Config.gcmHash k 0 (cpAuxLen t.d) aad) (cpLen t.d) ct
      h.eng.ops = h'.eng.ops ++ [o] ∧ o.tag = dTag t.d ∧ o.status = .done ∧ o.bytes = cpLen t.d + 28 ∧ o.word = nonce >>> 32 ∧
        o.place = [⟨cpDst t.d, 12, nonce⟩, ⟨cpDst t.d + 12, cpLen t.d, ct⟩,
          ⟨cpDst t.d + 12 + cpLen t.d, 16, Config.gcmTag k nonce acc (cpAuxLen t.d) (cpLen t.d) % 2 ^ 128⟩] ∧
        tabGet h.eng.gcmCount 0 id = ctr + 1 ∧ h.mem = s.dev.mem ∧ h.keys = s.dev.keys)) ∧
  (∀ (s : State) (w : Wing) (src : Source) (t : Taken) (h' : Head) (m aad id : Nat), Runs s.dev → Starts s.dev w .cph src 5 t h' →
    cpLen t.d ≤ 16384 → dFlag t.d 6 = false → cpAuxLen t.d ≤ 65536 → chainOf h' .cph w t.ring = none →
    checkKey h' .cph w t (cpKey t.d) 2 = .ok id → engineRead h' (cpSrc t.d) (cpLen t.d + 28) = .ok m →
    engineRead h' (cpAux t.d) (cpAuxLen t.d) = .ok aad →
    rangeAll (cpDst t.d) (cpLen t.d) (engineReach h') = true → unitsIn h' .cph w 0 ≠ [] →
    Completes (.gcmDec w src) s (fun h => ∃ o : EngOp,
      let k := gcmKey (keyValue h' id)
      let nonce := m % 2 ^ 96
      let ct := m >>> 96 % 2 ^ (8 * cpLen t.d)
      let good := decide (Config.gcmTag k nonce (Config.gcmHash k (Config.gcmHash k 0 (cpAuxLen t.d) aad) (cpLen t.d) ct)
        (cpAuxLen t.d) (cpLen t.d) % 2 ^ 128 = m >>> (96 + 8 * cpLen t.d))
      h.eng.ops = h'.eng.ops ++ [o] ∧ o.tag = dTag t.d ∧ o.status = (if good then .done else .checkFail) ∧
        o.place = (if good then [⟨cpDst t.d, cpLen t.d, Config.gcmCrypt k nonce 0 (cpLen t.d) ct % 2 ^ (8 * cpLen t.d)⟩] else []) ∧
        (good = false → fget h w CPH_CNT_TAG_FAIL_COUNT = min (fget s.dev w CPH_CNT_TAG_FAIL_COUNT + 1) (2 ^ 32 - 1)) ∧
        h.mem = s.dev.mem ∧ h.keys = s.dev.keys)) ∧
  (∀ (s : State) (w : Wing) (src : Source) (t : Taken) (h' : Head) (data id : Nat), Runs s.dev → Starts s.dev w .cph src 6 t h' →
    checkKey h' .cph w t (cpKey t.d) 3 = .ok id → chainOf h' .cph w t.ring = none → dFlag t.d 6 = false → dFlag t.d 5 = false →
    engineRead h' (cpSrc t.d) (cpLen t.d) = .ok data → unitsIn h' .cph w 0 ≠ [] →
    Completes (.cphCmac w src) s (fun h => ∃ (g : Head) (u : Nat), UnitTaken h' g .cph w u ∧
      Joined (setChain (loadKey g w u id) .cph w t.ring none) h { newOp .cph w t with
        unit := u, key := some id
        word := Config.cmacFinish (keyValue h' id) 0 (cpLen t.d) data % 2 ^ 128 % 2 ^ 64 })) ∧
  (∀ (s : State) (w : Wing) (src : Source) (t : Taken) (h' : Head) (data exp id n : Nat), Runs s.dev → Starts s.dev w .cph src 7 t h' →
    checkKey h' .cph w t (cpKey t.d) 3 = .ok id → chainOf h' .cph w t.ring = none → dFlag t.d 6 = false →
    n = (if dFlag t.d 5 then 16 else 8) → engineRead h' (cpAux t.d) n = .ok exp →
    engineRead h' (cpSrc t.d) (cpLen t.d) = .ok data → unitsIn h' .cph w 0 ≠ [] →
    Completes (.cmacVerify w src none) s (fun h => ∃ o : EngOp,
      let same := decide (Config.cmacFinish (keyValue h' id) 0 (cpLen t.d) data % 2 ^ 128 % 2 ^ (8 * n) = exp)
      h.eng.ops = h'.eng.ops ++ [o] ∧ o.tag = dTag t.d ∧ o.status = (if same then .done else .checkFail) ∧
        o.extra = (if same then 1 else 2) ∧ o.place = [] ∧
        (same = false → fget h w CPH_CNT_TAG_FAIL_COUNT = min (fget s.dev w CPH_CNT_TAG_FAIL_COUNT + 1) (2 ^ 32 - 1)) ∧
        h.mem = s.dev.mem ∧ h.keys = s.dev.keys)) ∧
  (∀ (s : State) (w : Wing) (src : Source) (t : Taken) (h' : Head) (c : Chain), Runs s.dev → Starts s.dev w .cph src 8 t h' →
    chainOf h' .cph w t.ring = some c → c.broken = false → c.coll = dColl t.d → dCflag t.d 15 = false →
    keyState h' (ctxWrapSlot w) = 2 → rangeAll (cpAux t.d) 88 (engineReach h') = true →
    Completes (.ctxSave w src) s (fun h =>
      Joined (setChain h' .cph w t.ring none) h { newOp .cph w t with
        unit := c.unit, key := some (ctxWrapSlot w), bytes := 88, chained := true
        place := [⟨cpAux t.d, 88, Config.keyWrap (keyValue h' (ctxWrapSlot w)) 80 (ctxRecord c)⟩] })) ∧
  (∀ (s : State) (w : Wing) (src : Source) (t : Taken) (h' : Head) (rec : Nat), Runs s.dev → Starts s.dev w .cph src 9 t h' →
    dCflag t.d 15 = false → privateOk t = true → chainOf h' .cph w t.ring = none → engineRead h' (cpAux t.d) 88 = .ok rec →
    keyState h' (ctxWrapSlot w) = 2 → unitsIn h' .cph w 0 ≠ [] →
    Completes (.ctxRestore w src) s (fun h => h.mem = s.dev.mem ∧ h.keys = s.dev.keys ∧
      match Config.keyUnwrap (keyValue h' (ctxWrapSlot w)) 88 rec with
      | some r =>
        if r >>> 16 % 4096 ≠ dColl t.d ∨ r >>> 32 % 65536 ≠ cpKey t.d then Joined h' h { newOp .cph w t with status := .collMismatch }
        else match checkKey h' .cph w t (cpKey t.d) (if r % 256 = gcmMode then 2 else 3) with
        | .error (st, g) => Joined g h { newOp .cph w t with status := st }
        | .ok id => if keyGen h' id % 65536 ≠ r >>> 48 % 65536 then Joined h' h { newOp .cph w t with status := .keyInvalid }
        else ∃ c : Chain, chainOf h .cph w t.ring = some c ∧ c.coll = dColl t.d ∧ c.key = some id ∧ c.mode = r % 256 ∧
          c.count = r >>> 64 % 2 ^ 64 ∧ c.value = r >>> 320 % 2 ^ 128 ∧ c.nonce = r >>> 192 % 2 ^ 128
      | none => Joined h' h { newOp .cph w t with status := .checkFail })) ∧
  (∀ (s : State) (w : Wing) (src : Source) (t : Taken) (h' : Head) (id : Nat) (wrap : Bool), Runs s.dev →
    Starts s.dev w .cph src (if wrap then 10 else 11) t h' → t.docent = true → chainOf h' .cph w t.ring = none →
    inSram (cpSrc t.d) (cpLen t.d) = true → inSram (cpDst t.d) (if wrap then cpLen t.d + 8 else cpLen t.d - 8) = true →
    checkKey h' .cph w t (cpKey t.d) 5 = .ok id →
    unitsIn h' .cph w 0 ≠ [] →
    Completes (if wrap then .keyWrap w src else .keyUnwrap w src) s (fun h =>
      let v := memNum h'.sram (cpSrc t.d) (cpLen t.d)
      let r := if wrap then some (Config.keyWrap (keyValue h' id) (cpLen t.d) v) else Config.keyUnwrap (keyValue h' id) (cpLen t.d) v
      h.sram = (match r with
        | some x => memPut s.dev.sram (cpDst t.d) (if wrap then cpLen t.d + 8 else cpLen t.d - 8) x
        | none => s.dev.sram) ∧ h.mem = s.dev.mem ∧ h.keys = s.dev.keys ∧
        ∃ o, h.eng.ops = h'.eng.ops ++ [o] ∧ o.tag = dTag t.d ∧ o.status = (if r.isSome then .done else .checkFail) ∧ o.place = []))

/-- A closed case that a tile has is compressed, written and leaves its stream: each APPEND of it ends with where its granule lies,
compressed or raw (R233). A gallery whose first case has waited FLUSH_FRAMES closes, and CLOSE_NOW closes every open gallery of its wing
(R261); a closed gallery's W panels, P and Q among them, wait in the Dispatcher together (R252, R258, R262). A resynchronisation with no
row left ends, and after a mount the head is mounted, its serial counter 1,024 above what it was (R257, R265, R332); the verify follows
and its end is told (R333). A rebuild takes up every gallery with a panel on the plinth (R269) and its end is told. A reshape walks to its
target width, is aborted, or sets the width at its end (R271, R272). It rests on choices of the model: log entries 105, 227, 229. -/
def Obligations.CasesAndGalleries : Prop :=
  (∀ (s : State) (w : Wing) (stream : Nat) (c : CaseStream) (st : Stored) (l : List Nat), Runs s.dev →
    s.dev.eng.cases.find? (fun c => c.wing == w && c.stream == stream && c.closed) = some c → c.unit.isSome = true → c.items ≠ [] →
    (∀ a ∈ c.items, a.tag ≠ none ∧ isPoisoned s.dev a.src 4096 = false) → (c.items.map (·.tag)).Nodup →
    l = c.items.map (fun a => memRead s.dev a.src 4096) → st = compressCase c.coll c.static l →
    Completes (.caseCompressed w stream) s (fun h =>
      h.eng.cases = s.dev.eng.cases.filter (· != c) ∧
        fget h w CDC_CNT_SHEETS_COUNT =
          min (fget s.dev w CDC_CNT_SHEETS_COUNT + (if st.raw then 8 * c.items.length else st.sheets)) (2 ^ 32 - 1) ∧
        (∀ (i tag : Nat) (a : Appended) (o : EngOp), c.items[i]? = some a → a.tag = some tag → o ∈ s.dev.eng.ops → o.cls = .cdc →
          o.wing = w → o.tag = tag → o.ready = false → o.held = false →
          (if st.raw then { o with
              ready := true, status := .doneNote, bytes := 4096, word := appendWord true false 0 (8 * i) 8 }
            else { o with ready := true, bytes := 512 * st.sheets, word := appendWord false c.static i 0 st.sheets }) ∈ h.eng.ops) ∧
        h.mem = (casePlaces c st l).foldl (fun m p => memPut m p.addr p.len p.data) s.dev.mem ∧ h.gal = s.dev.gal ∧ h.out = s.dev.out ∧
        RegsBut s.dev h [(.cdc, 0x05C), (.cdc, 0x06C), (.cdc, 0x070)])) ∧
  (∀ (s : State) (serial : Nat) (g : Gallery) (x : Hall) (d : List Nat), Runs s.dev → galleryOf s.dev serial = some g → g.closed = false →
    g.cases ≠ [] → fget s.dev g.wing GAL_FILL_FLUSH_FRAMES ≤ g.age → tabGet? s.dev.cur.halls g.hall = some x →
    s.dev.gal.opens.filter (fun y => y.hall == g.hall && !y.closed && decide (y.row ≤ g.row)) = [g] →
    d = (List.range g.n).map (panelBytes s.dev g) →
    Completes (.galleryFlushTimeout serial) s (fun h =>
      h.gal.opens = s.dev.gal.opens.map (fun y => if y.serial = serial then { y with closed := true } else y) ∧
        h.dsp.waiting = s.dev.dsp.waiting ++ (d ++ [parityP d, parityQ 65536 d]).zipIdx.map (fun e =>
          let a := panelMember x g.row e.2
          ⟨memPlinth a, { dieCmd 2 a g.row with dlen := 65536, data := e.1 }, .program, .panel serial e.2, 0, false⟩) ∧
        h.cur = s.dev.cur ∧ h.cat = s.dev.cat ∧ h.mem = s.dev.mem ∧ RegsBut s.dev h [(.gal, 0x04C)])) ∧
  (∀ (s : State) (ini : Initiator) (w : Wing), Runs s.dev → Writable s.dev ini (pg .gal w) 0x040 →
    (s.dev.gal.opens.map (·.serial)).Nodup →
    Completes (.closeNow ini w) s (fun h =>
      (∀ g ∈ h.gal.opens, g.wing = w → g.closed = true) ∧ h.gal.opens.map (·.serial) = s.dev.gal.opens.map (·.serial) ∧
        h.cur = s.dev.cur ∧ h.cat = s.dev.cat ∧ h.mem = s.dev.mem ∧ RegsBut s.dev h [(.gal, 0x04C)])) ∧
  (∀ s : State, Runs s.dev → fget s.dev .east GAL_RESYNC_RUNNING = 1 → s.dev.gal.resync = [] → s.dev.cur.mounting = false →
    Completes .resyncDone s (fun h =>
      fget h .east GAL_RESYNC_RUNNING = 0 ∧ fget h .east GAL_RESYNC_VERIFYING = 1 ∧ EventSet h .east Ev.GAL_RESYNC_DONE ∧
        h.gal.verify = (if fget s.dev .east GAL_CTRL_VERIFY_EN = 1 then verifyHalls s.dev else []) ∧ h.cur = s.dev.cur ∧
        h.cat = s.dev.cat ∧ h.mem = s.dev.mem ∧ h.out = s.dev.out)) ∧
  (∀ (s : State) (top : Nat), Runs s.dev → fget s.dev .east GAL_RESYNC_RUNNING = 1 → s.dev.gal.resync = [] → s.dev.cur.mounting = true →
    top = max (serialCounter s.dev) ((s.dev.cur.serials.map (·.1)).foldl max 0 / 2 + 1) + 1024 → top < 2 ^ 47 →
    Completes .resyncDone s (fun h =>
      h.cur.mounted = true ∧ h.cur.mounting = false ∧ serialCounter h = top ∧ EventSet h .east Ev.CUR_MOUNT_DONE ∧
        h.cur.halls = s.dev.cur.halls ∧ h.cur.serials = s.dev.cur.serials ∧ h.mem = s.dev.mem ∧ h.out = s.dev.out)) ∧
  (∀ s : State, Runs s.dev → fget s.dev .east GAL_RESYNC_VERIFYING = 1 →
    (∀ n ∈ s.dev.gal.verify, workBusy s.dev (fun w => w.job == .verify && w.hall == n) = false) →
    Completes .verifyDone s (fun h =>
      fget h .east GAL_RESYNC_VERIFYING = 0 ∧ h.gal.verify = [] ∧ h.cur.verified = true ∧ EventSet h .east Ev.GAL_VERIFY_DONE ∧
        h.cur.halls = s.dev.cur.halls ∧ h.mem = s.dev.mem ∧ h.out = s.dev.out)) ∧
  (∀ (s : State) (ini : Initiator) (n : Nat), Runs s.dev → Writable s.dev ini (pg .gal .east) 0x05C → n < 64 →
    fget s.dev .east GAL_REBUILD_BUSY = 0 →
    Completes (.rebuildStart ini .east n) s (fun h =>
      fget h .east GAL_REBUILD_BUSY = 1 ∧ fget h .east GAL_REBUILD_PLINTH = n ∧ n ∈ h.gal.lostPlinths ∧
        (∀ e ∈ galleriesOn s.dev n, e.1 ∈ h.gal.rebuild ∨ e.1 ∈ h.gal.lost) ∧ h.cur = s.dev.cur ∧ h.cat = s.dev.cat ∧
        h.mem = s.dev.mem ∧ h.out = s.dev.out)) ∧
  (∀ s : State, Runs s.dev → fget s.dev .east GAL_REBUILD_BUSY = 1 → s.dev.gal.rebuild = [] →
    Completes .plinthRebuildDone s (fun h =>
      fget h .east GAL_REBUILD_BUSY = 0 ∧ h.gal.lostPlinths = [] ∧ EventSet h .east Ev.GAL_PLINTH_REBUILD_DONE ∧
        h.cur.halls = s.dev.cur.halls ∧ h.cur.members = s.dev.cur.members ∧ h.mem = s.dev.mem ∧ h.out = s.dev.out)) ∧
  (∀ (s : State) (ini : Initiator) (t : Nat), Runs s.dev → Writable s.dev ini (pg .gal .east) 0x068 →
    fget s.dev .east GAL_RESHAPE_RUNNING = 0 → 4 ≤ t → t ≤ 30 →
    t + 2 ≤ (allPlinths.filter (fun n => plkBit s.dev n PLK_STATUS_PRESENT)).length →
    Completes (.reshapeStart ini .east t) s (fun h =>
      fget h .east GAL_RESHAPE_RUNNING = 1 ∧ fget h .east GAL_RESHAPE_TARGET_N = t ∧
        RegsBut s.dev h [(.gal, 0x068), (.gal, 0x06C)] ∧ SameButRegs (reply s.dev false) h)) ∧
  (∀ (s : State) (ini : Initiator), Runs s.dev → Writable s.dev ini (pg .gal .east) 0x068 →
    Completes (.reshapeAbort ini .east) s (fun h =>
      fget h .east GAL_RESHAPE_RUNNING = 0 ∧ fget h .east GAL_RESHAPE_TARGET_N = fget s.dev .east GAL_RESHAPE_TARGET_N ∧
        RegsBut s.dev h [(.gal, 0x068)] ∧
        SameButRegs { reply s.dev false with gal := { s.dev.gal with reshaping := false } } h)) ∧
  (∀ s : State, Runs s.dev → fget s.dev .east GAL_RESHAPE_RUNNING = 1 →
    (∀ e ∈ ownHalls s.dev, e.2.n = fget s.dev .east GAL_RESHAPE_TARGET_N) →
    Completes .reshapeDone s (fun h =>
      fget h .east GAL_RESHAPE_RUNNING = 0 ∧ fget h .east GAL_WIDTH_N = fget s.dev .east GAL_RESHAPE_TARGET_N ∧
        EventSet h .east Ev.GAL_RESHAPE_DONE ∧ RegsBut s.dev h [(.gal, 0x010), (.gal, 0x044), (.gal, 0x068), (.gal, 0x06C)] ∧
        SameButRegs { s.dev with gal := { s.dev.gal with reshaping := false } } h))

/-- At every 1,024th frame the hall of the highest score other than 0 is reclaimed where none is (R320, R321). EVACUATE, REMOVE and CANCEL
act on a member plinth (R324). VAULT_PREPARE takes its blocks and erases them (R330), MOUNT asks each anchor block of the admitted plinths
whether it is programmed (R332), and a host's read of a readable panel is sent in the first free slot (R266, R316). It rests on choices of
the model: log entries 104, 106, 107. -/
def Obligations.CuratorCommandsAct : Prop :=
  (∀ (s : State) (hall sc : Nat) (x : Hall), Runs s.dev → s.dev.cur.mounted = true → frameCount s.dev % 1024 = 0 →
    running s.dev (pg .cur .east) = true → reclaiming s.dev = none → fget s.dev .east GAL_RESHAPE_RUNNING = 0 →
    Machine.minOn (fun e => [0xFFFFFFFF - e.2.2, e.1]) (scored s.dev) = some (hall, x, sc) → sc ≠ 0 → tabGet? s.dev.cur.halls hall = some x →
    hall < 2 ^ 24 →
    Completes .hallScore s (fun h =>
      tabGet? h.cur.halls hall = some { x with st := 2 } ∧ (∀ k, k ≠ hall → tabGet? h.cur.halls k = tabGet? s.dev.cur.halls k) ∧
        fget h x.wing CUR_RECLAIM_ACTIVE = 1 ∧ fget h x.wing CUR_RECLAIM_HALL = hall ∧
        (∀ k ∈ hallWork hall x .reclaim, k ∈ h.gal.work) ∧ h.cur.blocks = s.dev.cur.blocks ∧ h.cat = s.dev.cat ∧ h.mem = s.dev.mem ∧
        h.out = s.dev.out)) ∧
  (∀ (s : State) (ini : Initiator) (n : Nat), Runs s.dev → Writable s.dev ini (pg .cur .east) 0x07C → n < 64 → n ∈ s.dev.cur.members →
    n ∉ s.dev.cur.evacuating → n ∉ s.dev.cur.evacuated →
    Completes (.curEvacuate ini .east n) s (fun h =>
      h.cur.evacuating = s.dev.cur.evacuating ++ [n] ∧ h.cur.members = s.dev.cur.members ∧
        (∀ e ∈ ownHalls s.dev, ∀ k ∈ memberWork e.1 e.2 .evacuate (fun a => memPlinth a == n), k ∈ h.gal.work) ∧
        fget h .east CUR_PLINTH_PLINTH = n ∧ h.cat = s.dev.cat ∧ h.mem = s.dev.mem ∧ h.dsp = s.dev.dsp)) ∧
  (∀ (s : State) (ini : Initiator) (n : Nat), Runs s.dev → Writable s.dev ini (pg .cur .east) 0x07C → n < 64 →
    n ∈ s.dev.cur.evacuated →
    Completes (.curRemove ini .east n) s (fun h =>
      h.cur.members = s.dev.cur.members.filter (· != n) ∧ n ∉ h.cur.evacuated ∧ (∀ e ∈ h.cur.blocks, memPlinth e.1 ≠ n) ∧
        EventSet h .east Ev.CUR_MEMBER_CHANGE ∧ h.cur.halls = s.dev.cur.halls ∧ h.cat = s.dev.cat ∧ h.mem = s.dev.mem)) ∧
  (∀ (s : State) (ini : Initiator) (n : Nat), Runs s.dev → Writable s.dev ini (pg .cur .east) 0x07C → n < 64 →
    n ∈ s.dev.cur.evacuating ∨ n ∈ s.dev.cur.evacuated →
    Completes (.curCancel ini .east n) s (fun h =>
      n ∉ h.cur.evacuating ∧ n ∉ h.cur.evacuated ∧ h.cur.members = s.dev.cur.members ∧ h.cur.halls = s.dev.cur.halls ∧
        h.cat = s.dev.cat ∧ h.mem = s.dev.mem)) ∧
  (∀ (s : State) (l : List Nat), Runs s.dev → s.dev.cur.mounted = true → fget s.dev .east RSV_DUMP_KEY_FRESH = 1 →
    s.dev.cur.vault = [] → l = (vaultOrder s.dev []).take (vaultCount s.dev) → l.length = vaultCount s.dev → l ≠ [] →
    Completes .vaultPrepare s (fun h =>
      h.cur.vault = l ∧ h.cur.vaultListed = false ∧
        h.dsp.waiting = s.dev.dsp.waiting ++
          l.map (fun a => ⟨memPlinth a, { dieCmd 3 a 0 with slc := true }, .erase, .eraseBlock a true, 0, false⟩) ∧
        h.cur.halls = s.dev.cur.halls ∧ h.cat = s.dev.cat ∧ h.mem = s.dev.mem)) ∧
  (∀ (s : State) (ini : Initiator) (w : Wing) (l : List Nat), Runs s.dev → Writable s.dev ini (pg .cur w) 0x040 →
    fget s.dev .east CUR_GEOM_BLOCKS_BLOCKS ≠ 0 → s.dev.cur.mounting = false → s.dev.cur.mounted = false →
    l = allPlinths.filter (fun n => plkBit s.dev n PLK_STATUS_ADMITTED) → l ≠ [] →
    Completes (.curMount ini w) s (fun h =>
      h.cur.mounting = true ∧ h.cur.verified = false ∧
        h.dsp.waiting = s.dev.dsp.waiting ++ (l.map (fun n => [0, 1].map (fun b =>
          let a := memberAddr n 0 0 (2 * parity s.dev + b)
          ⟨memPlinth a, { dieCmd 4 a 0 with slc := true }, .background, .anchorCheck a 0, 0, false⟩))).flatten ∧
        h.cur.halls = s.dev.cur.halls ∧ h.cat = s.dev.cat ∧ h.mem = s.dev.mem)) ∧
  (∀ (s : State) (loc coll sheets ns a row n sl : Nat) (c : PlkCmd), Runs s.dev →
    panelPlace s.dev (locSerial loc) (locPanel loc) = some (a, row) → panelReadable s.dev a = true → n = memPlinth a →
    c = readCmd a row (locSheet loc) sheets true → (∀ r ∈ s.dev.dsp.waiting, r.cls ≠ .host) → plkTakesDie s.dev n = true →
    s.dev.dsp.failed.contains (dieKey n c) = false → running s.dev (pg .dsp (plkWing n)) = true →
    dieReads s.dev (dieKey n c) < fget s.dev (plkWing n) DSP_CTRL_READ_DEPTH → freeSlot s.dev n false = some sl →
    Completes (.hostReadDispatch loc coll sheets ns) s (fun h => ∃ c' : PlkCmd,
      c' = { c with
        frame := (firstBoundary s.dev n ns).1, start := (firstBoundary s.dev n ns).2, slot := sl
        gen := (tabGet s.dev.plk.gens 0 (slotKey n false sl) + 1) % 256 } ∧
      h.out = s.dev.out ++ [.plk n c'] ∧
      h.plk.ops = s.dev.plk.ops ++ [⟨n, c', .host, false, .hostRead loc coll sheets, nowNs s.dev ns⟩] ∧
      h.dsp.waiting = s.dev.dsp.waiting ∧ h.cur = s.dev.cur ∧ h.cat = s.dev.cat ∧ h.mem = s.dev.mem))

/-- A plinth appears, trains and is asked for its identity, which leaves once the bridge has granted credits (R278, R298); a trained link
says its lanes, delay and port (R276, R279), and one that comes up grants the bridge its credits (R152). RELEASE fences it, and with no
die command outstanding it is released (R299). One removed after its release is forgotten; one removed without is lost (R516). A lane that
fails retrains the link on one lane where that is permitted (R276), and a link that does not retrain in time goes down (R278). It rests on
choices of the model: log entries 166, 169, 209. -/
def Obligations.PlinthLinksComeAndGo : Prop :=
  (∀ (s : State) (n : Nat), Runs s.dev → n < 64 → plkGet s.dev n PLK_STATUS_PRESENT = 0 →
    Completes (.plinthPresent n) s (fun h =>
      plkGet h n PLK_STATUS_PRESENT = 1 ∧ plkGet h n PLK_STATUS_RELEASED = 0 ∧
        (plkGet s.dev n PLK_CTRL_LINK_EN = 1 → plkGet s.dev n PLK_STATUS_UP = 0 → plkGet h n PLK_STATUS_TRAINING = 1) ∧
        EventSet h (plkWing n) ⟨.plk, 0⟩ (plkInst n) ∧ RegsBut s.dev h [(.plk, 0x010), (.plk, 0x044)] ∧ SameButRegs s.dev h)) ∧
  (∀ (s : State) (n lanes delay port expected : Nat) (l : LinkState), Runs s.dev → n < 64 → plkGet s.dev n PLK_CTRL_LINK_EN = 1 →
    plkGet s.dev n PLK_STATUS_PRESENT = 1 → plkGet s.dev n PLK_STATUS_TRAINING = 1 →
    lanes = 2 ∨ (lanes = 1 ∧ plkGet s.dev n PLK_CTRL_HALF_WIDTH_OK = 1) → delay < 65536 → port < 2 →
    plkGet s.dev n PLK_STATUS_ADMITTED = 1 → l = plkLink s.dev n → l.replay = [] → l.queue = [] →
    Completes (.plkTrained n lanes delay port expected) s (fun h =>
      plkGet h n PLK_STATUS_UP = 1 ∧ plkGet h n PLK_STATUS_TRAINING = 0 ∧ plkGet h n PLK_STATUS_LANES = lanes ∧
        plkGet h n PLK_STATUS_DELAY_NS = delay ∧ plkGet h n PLK_STATUS_BRIDGE_PORT = port ∧
        (if port = 0 then (bridge h n).node0 else (bridge h n).node1) = some (fget s.dev .east MFT_NODE_NODE_ID) ∧
        h.out = s.dev.out ++ (if plkGet s.dev n PLK_STATUS_UP = 0 then
          [.credit (plkWing n) (some (plkInst n)) (expected % 1024) ((l.rxNext + 1023) % 1024) ((List.range 4).map Config.linkBuffers)]
          else []) ∧ h.plk.ops = s.dev.plk.ops ∧ h.mem = s.dev.mem ∧ h.cur = s.dev.cur)) ∧
  (∀ (s : State) (n delay port expected : Nat) (l : LinkState) (c : Nat → Nat → PlkCmd), Runs s.dev → n < 64 →
    plkGet s.dev n PLK_CTRL_LINK_EN = 1 → plkGet s.dev n PLK_STATUS_PRESENT = 1 → plkGet s.dev n PLK_STATUS_TRAINING = 1 →
    delay < 65536 → port < 2 → plkGet s.dev n PLK_STATUS_ADMITTED = 0 → slotsUsed s.dev n true = [] → l = plkLink s.dev n →
    l.replay = [] → l.queue = [] → l.credits = [0, 0, 0, 0] → plkGet s.dev n PLK_STATUS_UP = 0 →
    (∀ k a, c k a = { emptyCmd 0x0C true with
      addr := a, slot := k, gen := (tabGet s.dev.plk.gens 0 (slotKey n true k) + 1) % 256 }) →
    Completes (.plkTrained n 2 delay port expected) s (fun h =>
      plkGet h n PLK_STATUS_UP = 1 ∧ (plkLink h n).queue = [⟨0, 1, .plk n (c 0 0)⟩, ⟨0, 1, .plk n (c 1 4)⟩, ⟨0, 1, .plk n (c 2 8)⟩] ∧
        h.out = s.dev.out ++
          [.credit (plkWing n) (some (plkInst n)) (expected % 1024) ((l.rxNext + 1023) % 1024) ((List.range 4).map Config.linkBuffers)] ∧
        h.plk.ops = s.dev.plk.ops ++ [⟨n, c 0 0, .host, false, .identity 0, 0⟩, ⟨n, c 1 4, .host, false, .identity 4, 0⟩,
          ⟨n, c 2 8, .host, false, .identity 8, 0⟩] ∧ h.mem = s.dev.mem ∧ h.cur = s.dev.cur)) ∧
  (∀ (s : State) (ini : Initiator) (n : Nat), Runs s.dev → n < 64 → Writable s.dev ini (pg .plk (plkWing n) (plkInst n)) 0x040 →
    Completes (.plkRelease ini n) s (fun h =>
      plkGet h n PLK_CTRL_RELEASE = 1 ∧ plkTakesDie h n = false ∧ RegsBut s.dev h [(.plk, 0x040)] ∧
        SameButRegs (reply s.dev false) h)) ∧
  (∀ (s : State) (n : Nat), Runs s.dev → n < 64 → plkGet s.dev n PLK_CTRL_RELEASE = 1 → dieOut s.dev n = false →
    Completes (.plkReleased n) s (fun h => ∃ g : Head,
      plkGet g n PLK_CTRL_RELEASE = 0 ∧ plkGet g n PLK_STATUS_RELEASED = 1 ∧ plkGet g n PLK_STATUS_ADMITTED = 0 ∧
        plkGet g n PLK_STATUS_UP = 0 ∧ plkGet g n PLK_STATUS_LANES = 0 ∧ RegsBut s.dev g [(.plk, 0x010), (.plk, 0x040), (.plk, 0x044)] ∧
        PortDown s.dev g n ∧ h = endAll g n .timeout)) ∧
  (∀ (s : State) (n : Nat), Runs s.dev → n < 64 → plkGet s.dev n PLK_STATUS_PRESENT = 1 → plkGet s.dev n PLK_STATUS_RELEASED = 1 →
    Completes (.plinthRemoved n) s (fun h =>
      plkGet h n PLK_STATUS_PRESENT = 0 ∧ plkGet h n PLK_CTRL_RELEASE = 0 ∧ tabGet? h.plk.geom n = none ∧ tabGet? h.plk.links n = none ∧
        (∀ d ∈ h.dsp.failed, d / 128 ≠ n) ∧ h.cur.members = s.dev.cur.members ∧ h.cur.halls = s.dev.cur.halls ∧
        EventSet h (plkWing n) ⟨.plk, 0⟩ (plkInst n) ∧ RegsBut s.dev h [(.plk, 0x010), (.plk, 0x040), (.plk, 0x044)] ∧
        h.mem = s.dev.mem ∧ h.out = s.dev.out)) ∧
  (∀ (s : State) (n : Nat), Runs s.dev → n < 64 → plkGet s.dev n PLK_STATUS_PRESENT = 1 → plkGet s.dev n PLK_STATUS_RELEASED = 0 →
    Completes (.plinthRemoved n) s (fun h => ∃ g : Head,
      plkGet g n PLK_STATUS_PRESENT = 0 ∧ plkGet g n PLK_STATUS_ADMITTED = 0 ∧ plkGet g n PLK_STATUS_UP = 0 ∧
        RegsBut s.dev g [(.plk, 0x010), (.plk, 0x040), (.plk, 0x044)] ∧ PortDown s.dev g n ∧
        h = forgetIdentity (plinthLost (endAll g n .timeout) n) n)) ∧
  (∀ (s : State) (ini : Initiator) (n : Nat), Runs s.dev → n < 64 → Writable s.dev ini (pg .plk (plkWing n) (plkInst n)) 0x040 →
    plkGet s.dev n PLK_STATUS_UP = 1 → plkGet s.dev n PLK_STATUS_TRAINING = 0 →
    Completes (.plkRetrainCmd ini n) s (fun h =>
      plkGet h n PLK_STATUS_TRAINING = 1 ∧
        plkGet h n PLK_CNT_RETRAIN_COUNT = min (plkGet s.dev n PLK_CNT_RETRAIN_COUNT + 1) (2 ^ 32 - 1) ∧
        RegsBut s.dev h [(.plk, 0x044), (.plk, 0x064)] ∧ SameButRegs (reply s.dev false) h)) ∧
  (∀ (s : State) (ini : Initiator) (n : Nat), Runs s.dev → n < 64 → Writable s.dev ini (pg .plk (plkWing n) (plkInst n)) 0x040 →
    plkGet s.dev n PLK_STATUS_UP = 1 → plkGet s.dev n PLK_STATUS_TRAINING = 1 →
    Completes (.plkRetrainCmd ini n) s (fun h => RegsBut s.dev h [] ∧ SameButRegs (reply s.dev false) h)) ∧
  (∀ (s : State) (n : Nat), Runs s.dev → n < 64 → plkGet s.dev n PLK_STATUS_UP = 1 → plkGet s.dev n PLK_STATUS_TRAINING = 1 →
    Completes (.plkRetrainTimeout n) s (fun h =>
      plkGet h n PLK_STATUS_UP = 0 ∧ plkGet h n PLK_STATUS_LANES = 0 ∧ EventSet h (plkWing n) ⟨.plk, 0⟩ (plkInst n) ∧
        (plkGet h n PLK_STATUS_TRAINING = 1 ↔ perstHigh s.dev n = true) ∧
        RegsBut s.dev h [(.plk, 0x010), (.plk, 0x044)] ∧ PortDown s.dev h n)) ∧
  (∀ (s : State) (n : Nat), Runs s.dev → n < 64 → plkGet s.dev n PLK_STATUS_UP = 1 → plkGet s.dev n PLK_CTRL_HALF_WIDTH_OK = 1 →
    Completes (.plkLaneFail n) s (fun h =>
      plkGet h n PLK_STATUS_UP = 1 ∧ plkGet h n PLK_STATUS_LANES = 1 ∧ plkGet h n PLK_STATUS_TRAINING = 1 ∧
        plkGet h n PLK_CNT_RETRAIN_COUNT = min (plkGet s.dev n PLK_CNT_RETRAIN_COUNT + 1) (2 ^ 32 - 1) ∧
        EventSet h (plkWing n) ⟨.plk, 0⟩ (plkInst n) ∧ RegsBut s.dev h [(.plk, 0x010), (.plk, 0x044), (.plk, 0x064)] ∧ SameButRegs s.dev h))

/-- A completion of an outstanding TAG frees its slot and answers what sent it, a READ with many corrected bits as DONE_NOTE; one of no
TAG is discarded (R288, R291, R294). A die command that times out is sent once more, then ends with TIMEOUT (R292). The first alert of a
link is kept (R296). A data flit in order is taken, acknowledged and its credit returned; a LINK flit's credits send what waits for them;
a bad flit is answered with one NAK, and unacknowledged flits are replayed (R278). It rests on choices of the model: log entry 209. -/
def Obligations.PlinthLinksCarryCommands : Prop :=
  (∀ (s : State) (n ns : Nat) (d : PlkDone) (o : PlkOp), Runs s.dev → n < 64 →
    s.dev.plk.ops.find? (fun o => o.plinth == n && o.cmd.mgmt == d.mgmt && o.cmd.slot == d.slot && o.cmd.gen == d.gen) = some o →
    Completes (.plkCompletion n d ns) s (fun h => ∃ (g : Head) (st : Status),
      st = (if o.cmd.mgmt = false ∧ o.cmd.opcode = 1 ∧ d.status = .done ∧ plkGet s.dev n PLK_WARN_BITS ≤ d.maxCw then .doneNote
        else d.status) ∧
      g.plk.ops = s.dev.plk.ops.filter (· != o) ∧
      (d.status = .mediaFail → plkGet g n PLK_CNT_MEDIA_COUNT = min (plkGet s.dev n PLK_CNT_MEDIA_COUNT + 1) (2 ^ 32 - 1)) ∧
      (st = .fenced → (o.cmd.mgmt = true ∨ o.cmd.opcode = 2 ∨ o.cmd.opcode = 3) → plkGet g n PLK_STATUS_FENCED_BY_CLAIM = 1) ∧
      g.mem = s.dev.mem ∧ g.cat = s.dev.cat ∧ g.out = s.dev.out ∧ g.dsp = s.dev.dsp ∧
      h = pumpReads (releaseAcks (purposeDone g o st d.word d.dlen d.data)) ns)) ∧
  (∀ (s : State) (n ns : Nat) (d : PlkDone), Runs s.dev → n < 64 →
    s.dev.plk.ops.find? (fun o => o.plinth == n && o.cmd.mgmt == d.mgmt && o.cmd.slot == d.slot && o.cmd.gen == d.gen) = none →
    Completes (.plkCompletion n d ns) s (fun h => h = s.dev)) ∧
  (∀ (s : State) (n slot : Nat) (o : PlkOp), Runs s.dev → n < 64 →
    s.dev.plk.ops.find? (fun o => o.plinth == n && !o.cmd.mgmt && o.cmd.slot == slot) = some o → o.resent = false →
    Completes (.plkTimeout n slot) s (fun h =>
      h.plk.ops = s.dev.plk.ops.map (fun x => if x = o then { x with resent := true } else x) ∧
        ((.plk n o.cmd ∈ (plkLink h n).queue.map (·.msg)) ∨ (.plk n o.cmd ∈ h.out.drop s.dev.out.length)) ∧
        (∀ m, m ≠ n → plkLink h m = plkLink s.dev m) ∧ h = { s.dev with plk := h.plk, out := h.out })) ∧
  (∀ (s : State) (n slot : Nat) (o : PlkOp) (l : LinkState), Runs s.dev → n < 64 →
    s.dev.plk.ops.find? (fun o => o.plinth == n && !o.cmd.mgmt && o.cmd.slot == slot) = some o → o.resent = false →
    plkGet s.dev n PLK_STATUS_UP = 1 → plkGet s.dev n PLK_STATUS_TRAINING = 0 → l = plkLink s.dev n → l.queue = [] →
    plkFlits o.cmd ≤ l.credits.getD (plkVc o.cmd) 0 → l.replay.length + plkFlits o.cmd ≤ 256 →
    Completes (.plkTimeout n slot) s (fun h =>
      h.out = s.dev.out ++ [.plk n o.cmd] ∧ (plkLink h n).queue = [] ∧
        (plkLink h n).txNext = (l.txNext + plkFlits o.cmd) % 1024 ∧
        (plkLink h n).replay.length = l.replay.length + plkFlits o.cmd ∧
        (plkLink h n).credits.getD (plkVc o.cmd) 0 = l.credits.getD (plkVc o.cmd) 0 - plkFlits o.cmd)) ∧
  (∀ (s : State) (n slot : Nat) (o : PlkOp), Runs s.dev → n < 64 →
    s.dev.plk.ops.find? (fun o => o.plinth == n && !o.cmd.mgmt && o.cmd.slot == slot) = some o → o.resent = true →
    Completes (.plkTimeout n slot) s (fun h => ∃ g : Head,
      g.plk.ops = s.dev.plk.ops.filter (· != o) ∧ g.mem = s.dev.mem ∧ g.out = s.dev.out ∧ g.cat = s.dev.cat ∧ g.cur = s.dev.cur ∧
        h = pumpReads (releaseAcks (purposeDone g o .timeout 0 0 0)) 0)) ∧
  (∀ (s : State) (n code detail : Nat), Runs s.dev → n < 64 → code < 256 → detail < 65536 → code ≠ 4 →
    Completes (.plkAlert n code detail) s (fun h =>
      plkGet h n PLK_ALERT_VALID = 1 ∧
        plkGet h n PLK_ALERT_CODE = (if plkGet s.dev n PLK_ALERT_VALID = 1 then plkGet s.dev n PLK_ALERT_CODE else code) ∧
        plkGet h n PLK_ALERT_DETAIL = (if plkGet s.dev n PLK_ALERT_VALID = 1 then plkGet s.dev n PLK_ALERT_DETAIL else detail) ∧
        EventSet h (plkWing n) ⟨.plk, 2⟩ (plkInst n) ∧ (code = 2 → n ∈ h.cur.noHoldup) ∧
        (code = 6 → plkGet h n PLK_STATUS_FENCED_BY_CLAIM = 1) ∧ RegsBut s.dev h [(.plk, 0x010), (.plk, 0x044), (.plk, 0x058)] ∧
        h.mem = s.dev.mem ∧ h.out = s.dev.out ∧ h.plk = s.dev.plk)) ∧
  (∀ (s : State) (n detail : Nat), Runs s.dev → n < 64 → detail < 65536 →
    Completes (.plkAlert n 4 detail) s (fun h =>
      plkGet h n PLK_ALERT_VALID = 1 ∧ (n * 128 + detail % 128) ∈ h.dsp.failed ∧ EventSet h (plkWing n) ⟨.plk, 2⟩ (plkInst n))) ∧
  (∀ (s : State) (n vc mtype ackseq : Nat) (credits : List Nat) (l : LinkState), Runs s.dev → n < 64 →
    plkGet s.dev n PLK_STATUS_UP = 1 → vc < 3 → 1 ≤ mtype → mtype ≤ 3 → l = plkLink s.dev n → l.queue = [] → l.owed.length = 4 →
    l.replay.length < 256 →
    Completes (.plkFlit n true 1 vc mtype l.rxNext 0 ackseq credits) s (fun h =>
      plkLink h n = { l with
        rxNext := (l.rxNext + 1) % 1024
        txNext := (l.txNext + 1) % 1024
        replay := l.replay ++ [(l.txNext, 1)]
        nakSent := false
        owed := [0, 0, 0, 0] } ∧
        h.out = s.dev.out ++ [.credit (plkWing n) (some (plkInst n)) l.txNext (l.rxNext % 1024) (addAt l.owed vc 1)] ∧
        h = { s.dev with plk := h.plk, out := h.out })) ∧
  (∀ (s : State) (n vc mtype ackseq : Nat) (credits : List Nat) (l : LinkState) (m : LinkMsg), Runs s.dev → n < 64 →
    plkGet s.dev n PLK_STATUS_UP = 1 → plkGet s.dev n PLK_STATUS_TRAINING = 0 → l = plkLink s.dev n → l.queue = [m] → m.vc < 3 →
    m.left = 1 → l.replay = [] → l.credits = [0, 0, 0, 0] → l.owed = [0, 0, 0, 0] → 0 < credits.getD m.vc 0 →
    Completes (.plkFlit n true 3 vc mtype l.rxNext 0 ackseq credits) s (fun h =>
      h.out = s.dev.out ++ [.ack (plkWing n) (some (plkInst n)) (l.rxNext % 1024), m.msg] ∧ (plkLink h n).queue = [] ∧
        (plkLink h n).replay = [(l.txNext, 1)] ∧ (plkLink h n).credits.getD m.vc 0 = credits.getD m.vc 0 - 1 ∧
        h = { s.dev with plk := h.plk, out := h.out })) ∧
  (∀ (s : State) (n ftype vc mtype lseq acktype ackseq : Nat) (good : Bool) (credits : List Nat), Runs s.dev → n < 64 →
    plkGet s.dev n PLK_STATUS_UP = 1 → (plkLink s.dev n).queue = [] → good = false ∨ 4 ≤ ftype ∨ (ftype = 1 ∧ vc = 3) →
    Completes (.plkFlit n good ftype vc mtype lseq acktype ackseq credits) s (fun h =>
      plkLink h n = { plkLink s.dev n with nakSent := true } ∧
        h.out = s.dev.out ++ (if (plkLink s.dev n).nakSent then [] else [.nak (plkWing n) (some (plkInst n)) (plkLink s.dev n).rxNext]) ∧
        h = { s.dev with plk := h.plk, out := h.out })) ∧
  (∀ (s : State) (n : Nat) (l : LinkState), Runs s.dev → n < 64 → plkGet s.dev n PLK_STATUS_TRAINING = 0 → l = plkLink s.dev n →
    l.replay ≠ [] → l.queue = [] → (∀ e ∈ l.replay, e.2 < 8) →
    Completes (.plkReplayTimer n) s (fun h =>
      plkLink h n = { l with replay := l.replay.map (fun e => (e.1, e.2 + 1)) } ∧
        h.out = s.dev.out ++ [.replay (plkWing n) (some (plkInst n)) (l.replay.map (·.1))] ∧
        plkGet h n PLK_CNT_RETRY_COUNT = min (plkGet s.dev n PLK_CNT_RETRY_COUNT + l.replay.length) (2 ^ 32 - 1) ∧
        RegsBut s.dev h [(.plk, 0x060)] ∧ SameButRegs { s.dev with plk := h.plk, out := h.out } h)) ∧
  (∀ (s : State) (n : Nat), Runs s.dev → n < 64 → plkGet s.dev n PLK_STATUS_TRAINING = 0 →
    (∃ e ∈ (plkLink s.dev n).replay, 8 ≤ e.2) →
    Completes (.plkReplayTimer n) s (fun h =>
      plkGet h n PLK_STATUS_TRAINING = 1 ∧ EventSet h (plkWing n) ⟨.plk, 1⟩ (plkInst n) ∧ h.out = s.dev.out ∧
        plkGet h n PLK_CNT_RETRAIN_COUNT = min (plkGet s.dev n PLK_CNT_RETRAIN_COUNT + 1) (2 ^ 32 - 1) ∧
        RegsBut s.dev h [(.plk, 0x010), (.plk, 0x044), (.plk, 0x064)]))

/-- A bridge takes a new die command of fields in range for its slot, a repeat of the last one is answered with a copy of its completion,
and one that programs another row than the one that follows those programmed and accepted, or that writes on a fenced port, completes at
once (R283 to R285, R290, R294). At a slot boundary an idle die starts the one command that is due (R286), and a program that has ended
leaves its panel, and its block's next row (R290, R291). It rests on choices of the model: log entries 110, 111, 112. -/
def Obligations.BridgesRunDieCommands : Prop :=
  (∀ (s : State) (n p : Nat) (c c' : PlkCmd), p < 2 → c' = { c with opcode := 1, mgmt := false } → BrFresh s.dev n p c' →
    dieFieldsOk c' = true →
    Completes (.plkRead n p c) s (fun h =>
      bridge h n = { bridge s.dev n with
        slots := tabPut (bridge s.dev n).slots (brSlotKey p c') ⟨c.gen, none⟩
        jobs := (bridge s.dev n).jobs ++ [⟨p, c', false, false, 0, 0, 0⟩] } ∧ OnlyBridge s.dev h n ∧ h.out = s.dev.out)) ∧
  (∀ (s : State) (n p : Nat) (c c' : PlkCmd), p < 2 → c' = { c with opcode := 4, mgmt := false } → BrFresh s.dev n p c' →
    dieFieldsOk c' = true →
    Completes (.checkErased n p c) s (fun h =>
      bridge h n = { bridge s.dev n with
        slots := tabPut (bridge s.dev n).slots (brSlotKey p c') ⟨c.gen, none⟩
        jobs := (bridge s.dev n).jobs ++ [⟨p, c', false, false, 0, 0, 0⟩] } ∧ OnlyBridge s.dev h n ∧ h.out = s.dev.out)) ∧
  (∀ (s : State) (n p : Nat) (c c' : PlkCmd), p < 2 → c' = { c with opcode := 2, mgmt := false } → BrFresh s.dev n p c' →
    dieFieldsOk c' = true → (wit (bridge s.dev n) p).fenced = false → c.row = (brAfter (bridge s.dev n) c').1 →
    Completes (.plkProgram n p c) s (fun h =>
      bridge h n = { bridge s.dev n with
        slots := tabPut (bridge s.dev n).slots (brSlotKey p c') ⟨c.gen, none⟩
        jobs := (bridge s.dev n).jobs ++ [⟨p, c', false, false, 0, 0, 0⟩] } ∧ OnlyBridge s.dev h n ∧ h.out = s.dev.out)) ∧
  (∀ (s : State) (n p : Nat) (c c' : PlkCmd), p < 2 → c' = { c with opcode := 2, mgmt := false } → BrFresh s.dev n p c' →
    dieFieldsOk c' = true → (wit (bridge s.dev n) p).fenced = false → c.row ≠ (brAfter (bridge s.dev n) c').1 →
    Completes (.plkProgram n p c) s (fun h =>
      h.out = s.dev.out ++ [.bridgeDone n p (plainDone c' .protocol)] ∧ (bridge h n).jobs = (bridge s.dev n).jobs ∧
        (bridge h n).blocks = (bridge s.dev n).blocks ∧ OnlyBridge s.dev h n)) ∧
  (∀ (s : State) (n p : Nat) (c c' : PlkCmd), p < 2 → c' = { c with opcode := 3, mgmt := false } → BrFresh s.dev n p c' →
    dieFieldsOk c' = true → (wit (bridge s.dev n) p).fenced = false →
    Completes (.plkErase n p c) s (fun h =>
      bridge h n = { bridge s.dev n with
        slots := tabPut (bridge s.dev n).slots (brSlotKey p c') ⟨c.gen, none⟩
        jobs := (bridge s.dev n).jobs ++ [⟨p, c', false, false, 0, 0, 0⟩] } ∧ OnlyBridge s.dev h n ∧ h.out = s.dev.out)) ∧
  (∀ (s : State) (n p : Nat) (c c' : PlkCmd) (prog : Bool), p < 2 → c' = { c with opcode := if prog then 2 else 3, mgmt := false } →
    BrFresh s.dev n p c' → dieFieldsOk c' = true → (wit (bridge s.dev n) p).fenced = true →
    Completes (if prog then .plkProgram n p c else .plkErase n p c) s (fun h =>
      h.out = s.dev.out ++ [.bridgeDone n p (plainDone c' .fenced)] ∧ (bridge h n).jobs = (bridge s.dev n).jobs ∧
        (bridge h n).blocks = (bridge s.dev n).blocks ∧ (bridge h n).panels = (bridge s.dev n).panels ∧ OnlyBridge s.dev h n)) ∧
  (∀ (s : State) (n p : Nat) (c : PlkCmd) (d : PlkDone), p < 2 →
    tabGet? (bridge s.dev n).slots (brSlotKey p { c with mgmt := false }) = some ⟨c.gen, some d⟩ →
    ∀ i ∈ [Instr.plkRead n p c, .plkProgram n p c, .plkErase n p c, .checkErased n p c], Completes i s (fun h =>
      h = { s.dev with out := s.dev.out ++ [.bridgeDone n p d] })) ∧
  (∀ (s : State) (n : Nat) (j : BrJob), (bridge s.dev n).jobs = [j] → (bridge s.dev n).slot < 31 → j.started = false →
    jobDue { bridge s.dev n with slot := (bridge s.dev n).slot + 1 } j = true → j.held = false →
    Completes (.bridgeSlotBoundary n []) s (fun h =>
      bridge h n = { bridge s.dev n with
        slot := (bridge s.dev n).slot + 1
        jobs := [{ j with started := true, startFrame := (bridge s.dev n).wire, startSlot := (bridge s.dev n).slot + 1 }] } ∧
      OnlyBridge s.dev h n ∧ h.out = s.dev.out)) ∧
  (∀ (s : State) (n : Nat) (j : BrJob) (e : BrEnd), (bridge s.dev n).jobs = [j] → (bridge s.dev n).slot < 31 → j.started = true →
    j.held = false → j.cmd.opcode = 2 → e.port = j.port → e.slot = j.cmd.slot → e.fail = false →
    Completes (.bridgeSlotBoundary n [e]) s (fun h =>
      (bridge h n).jobs = [] ∧ tabGet? (bridge h n).panels (brPanel j.cmd) = some j.cmd.data ∧
        tabGet? (bridge h n).blocks (brBlock j.cmd) = some (j.cmd.row + 1, (brNext (bridge s.dev n) j.cmd).2) ∧
        (bridge h n).slot = (bridge s.dev n).slot + 1 ∧
        h.out = s.dev.out ++ [.bridgeDone n j.port { plainDone j.cmd .done with
          suspended := decide (0 < j.suspends)
          suspends := min j.suspends 255
          startFrame := j.startFrame
          startSlot := j.startSlot
          busy := e.busy }] ∧ OnlyBridge s.dev h n))

/-- WITNESS_RENEW renews its port's entry and clears the other port's claim, unless a claim of its EPOCH or above is held (R293, R294);
WITNESS_CLAIM fences the other port once its lease has expired, with the programs and erases queued on it, else it is refused (R294);
WITNESS_READ gives both entries and REG_READ a register; REG_WRITE sets the port's alert mask (R297). A lease expires at its tick (R293).
A marker in phase keeps the timebase and says what change of the frame length is announced (R44), and two frames without the master's turn
the bridge to the other port (R41, R280). It rests on choices of the model: log entries 113, 187, 232. -/
def Obligations.BridgesKeepWitnessAndTime : Prop :=
  (∀ (s : State) (n p : Nat) (c c' : PlkCmd) (b : Bridge), p < 2 → c' = { c with opcode := 8, mgmt := true } → BrFresh s.dev n p c' →
    c.slot < 16 → b = bridge s.dev n → (wit b (1 - p)).claim = true → (wit b (1 - p)).claimEpoch < c.epoch →
    Completes (.witnessRenew n p c) s (fun h =>
      wit (bridge h n) p = { wit b p with
        valid := true, expired := false, fenced := false, node := portNode b n p, epoch := c.epoch
        expiry := (b.wire + 1 + (c.arg + frameNs b.len / 1000 - 1) / (frameNs b.len / 1000)) % 65536 } ∧
      wit (bridge h n) (1 - p) = { wit b (1 - p) with claim := false } ∧ (bridge h n).panels = b.panels ∧
      h.out = s.dev.out ++ [.bridgeDone n p (plainDone c' .done)] ∧ OnlyBridge s.dev h n)) ∧
  (∀ (s : State) (n p : Nat) (c c' : PlkCmd) (b : Bridge), p < 2 → c' = { c with opcode := 8, mgmt := true } → BrFresh s.dev n p c' →
    c.slot < 16 → b = bridge s.dev n → (wit b (1 - p)).claim = true → c.epoch ≤ (wit b (1 - p)).claimEpoch →
    Completes (.witnessRenew n p c) s (fun h =>
      (bridge h n).wit0 = b.wit0 ∧ (bridge h n).wit1 = b.wit1 ∧ h.out = s.dev.out ++ [.bridgeDone n p (plainDone c' .fenced)] ∧
        OnlyBridge s.dev h n)) ∧
  (∀ (s : State) (n p : Nat) (c c' : PlkCmd) (b : Bridge), p < 2 → c' = { c with opcode := 9, mgmt := true } → BrFresh s.dev n p c' →
    c.slot < 16 → b = bridge s.dev n →
    Completes (.witnessRead n p c) s (fun h =>
      (bridge h n).wit0 = b.wit0 ∧ (bridge h n).wit1 = b.wit1 ∧
        h.out = s.dev.out ++ [.bridgeDone n p { plainDone c' .done with dlen := 24, data := witNum b.wit0 + witNum b.wit1 <<< 96 }] ∧
        OnlyBridge s.dev h n)) ∧
  (∀ (s : State) (n p : Nat) (c c' : PlkCmd) (b : Bridge) (l : List BrJob), p < 2 → c' = { c with opcode := 10, mgmt := true } →
    BrFresh s.dev n p c' →
    c.slot < 16 → b = bridge s.dev n → (wit b (1 - p)).valid = false ∨ (wit b (1 - p)).expired = true →
    l = b.jobs.filter (fun j => j.port == 1 - p && !j.started && (j.cmd.opcode == 2 || j.cmd.opcode == 3)) →
    Completes (.witnessClaim n p c) s (fun h =>
      wit (bridge h n) (1 - p) = { wit b (1 - p) with fenced := true } ∧
        wit (bridge h n) p = { wit b p with claim := true, claimEpoch := c.epoch } ∧
        (bridge h n).jobs = b.jobs.filter (fun j => !l.contains j) ∧
        h.out = s.dev.out ++ l.map (fun j => .bridgeDone n (1 - p) (plainDone j.cmd .fenced)) ++
          (if (if p = 0 then b.alert1 else b.alert0).testBit 5 then [.bridgeAlert n (1 - p) 6 (portNode b n p)] else []) ++
          [.bridgeDone n p (plainDone c' .done)] ∧ OnlyBridge s.dev h n)) ∧
  (∀ (s : State) (n p : Nat) (c c' : PlkCmd) (b : Bridge), p < 2 → c' = { c with opcode := 10, mgmt := true } → BrFresh s.dev n p c' →
    c.slot < 16 → b = bridge s.dev n → (wit b (1 - p)).valid = true → (wit b (1 - p)).expired = false →
    Completes (.witnessClaim n p c) s (fun h =>
      (bridge h n).wit0 = b.wit0 ∧ (bridge h n).wit1 = b.wit1 ∧ h.out = s.dev.out ++ [.bridgeDone n p (plainDone c' .limit)] ∧
        OnlyBridge s.dev h n)) ∧
  (∀ (s : State) (n p v : Nat) (c c' : PlkCmd), p < 2 → c' = { c with opcode := 12, mgmt := true } → BrFresh s.dev n p c' →
    c.slot < 16 → bridgeReg s.dev n p c.addr = some v →
    Completes (.regRead n p c) s (fun h =>
      h.out = s.dev.out ++ [.bridgeDone n p { plainDone c' .done with word := v }] ∧ (bridge h n).wit0 = (bridge s.dev n).wit0 ∧
        (bridge h n).wit1 = (bridge s.dev n).wit1 ∧ OnlyBridge s.dev h n)) ∧
  (∀ (s : State) (n p : Nat) (c c' : PlkCmd), p < 2 → c' = { c with opcode := 13, mgmt := true } → BrFresh s.dev n p c' →
    c.slot < 16 → c.addr = 0x40 →
    Completes (.regWrite n p c) s (fun h =>
      (if p = 0 then (bridge h n).alert0 else (bridge h n).alert1) = c.arg >>> 1 % 64 ∧
        (if p = 0 then (bridge h n).alert1 = (bridge s.dev n).alert1 else (bridge h n).alert0 = (bridge s.dev n).alert0) ∧
        h.out = s.dev.out ++ [.bridgeDone n p (plainDone c' .done)] ∧ OnlyBridge s.dev h n)) ∧
  (∀ (s : State) (n p : Nat), p < 2 → (wit (bridge s.dev n) p).valid = true → (wit (bridge s.dev n) p).expired = false →
    (wit (bridge s.dev n) p).expiry = (bridge s.dev n).wire →
    Completes (.leaseExpiry n p) s (fun h =>
      bridge h n = setWit (bridge s.dev n) p { wit (bridge s.dev n) p with expired := true } ∧ OnlyBridge s.dev h n ∧
        h.out = s.dev.out)) ∧
  (∀ (s : State) (n p arrival : Nat) (payload : Word) (flagged next : Bool) (phase : Int) (b : Bridge), p < 2 → b = bridge s.dev n →
    b.led = true → b.follow = p → b.tick = 1 → b.wire < 65536 → payload.getLsbD 7 = true → (next, phase) = bridgePlace b n p arrival →
    bitsOf payload 31 16 = (b.wire + ofBool next) % 65536 → flagged = true ∨ 2 * phase.natAbs ≤ frameNs b.len / 32 →
    bitsOf payload 9 8 ≠ 3 →
    Completes (.bridgeTickMarker n p payload flagged arrival) s (fun h =>
      bridge h n = { b with
        quiet := 0
        seen := true
        missed := 0
        phaseErr := if flagged then b.phaseErr else ofSigned 16 phase
        countdown := if bitsOf payload 13 10 = 0 then b.countdown else bitsOf payload 13 10 + ofBool next
        announced := if bitsOf payload 13 10 = 0 then b.announced else bitsOf payload 9 8 } ∧
        OnlyBridge s.dev h n ∧ h.out = s.dev.out)) ∧
  (∀ (s : State) (n : Nat), (bridge s.dev n).led = true → 2 ≤ (bridge s.dev n).quiet →
    Completes (.masterMarkerLoss n) s (fun h =>
      bridge h n = { bridge s.dev n with quiet := 0, follow := 1 - (bridge s.dev n).follow } ∧ OnlyBridge s.dev h n ∧ h.out = s.dev.out))

/-- At the source, on the head that owns the collection: SHIP takes the lock and sends BEGIN (R351, R352); FREEZE_NUMBERED freezes every
namespace at the keeper's number plus 1 (R350); RESUME_SYNC freezes and ships with admission held (R349); PROMOTE takes the lock and makes
the collection ASYNC (R357); DEMOTE makes it a TARGET (R358); ABORT ends a consignment (R356). A SYNC reply frees its request, BEGIN's
starts the consignment, and a message without a reply diverges the collection or ends the consignment with TIMEOUT (R347, R356). It rests
on choices of the model: log entries 115, 116, 117, 120. -/
def Obligations.ReplicationAtTheSource : Prop :=
  (∀ (s : State) (ini : Initiator) (w : Wing) (coll e base seen : Nat) (rest : List (Option Nat)), Runs s.dev →
    Writable s.dev ini (pg .rpl w) 0x068 → coll = fget s.dev w RPL_MAP_INDEX_INDEX → (∀ n ∈ rplNs s.dev coll, n.owned = true) →
    rplOutstanding s.dev coll = false → rplState s.dev coll = 2 ∨ rplState s.dev coll = 4 → e = fget s.dev .east RPL_EDITION_NUMBER coll →
    mayShip s.dev coll e = true → base = fget s.dev .east RPL_MAP_BASE_EDITION coll → seen = (rplColl s.dev coll).lock →
    (lockHeld seen = true → lockMine s.dev seen = true) →
    Completes (.rplShip ini w (some seen :: rest)) s (fun h =>
      h.out = s.dev.out ++ [.keeper coll (fget s.dev .east RPL_MAP_KEEPER_CONTEXT coll) (fget s.dev .east RPL_MAP_RKEY_RKEY coll) true 8 seen
          (lockWord s.dev seen),
        .rpl coll (fget s.dev .east RPL_MAP_CONN_CONTEXT coll) 2 0 0 (rplColl s.dev coll).rtag (.begin e base)] ∧
      (rplColl h coll).lock = lockWord s.dev seen ∧
      (∃ sh : Ship, (rplColl h coll).ship = some sh ∧ sh.edition = e ∧ sh.base = base ∧ sh.resume = false ∧ sh.begun = false) ∧
      h.rpl.reqs = s.dev.rpl.reqs ++ [⟨coll, (rplColl s.dev coll).rtag, 0, .begin e base, false⟩] ∧
      h.cat = { s.dev.cat with heldEditions := s.dev.cat.heldEditions ++ [(coll, base), (coll, e)] } ∧ h.mem = s.dev.mem ∧
      h.vit = s.dev.vit)) ∧
  (∀ (s : State) (ini : Initiator) (w : Wing) (coll o number : Nat), Runs s.dev → Writable s.dev ini (pg .rpl w) 0x068 →
    coll = fget s.dev w RPL_MAP_INDEX_INDEX → (∀ n ∈ rplNs s.dev coll, n.owned = true) → rplMode s.dev coll = 1 ∨ rplMode s.dev coll = 2 →
    number = (o + 1) % 2 ^ 32 → mayFreeze s.dev coll number = .done →
    Completes (.freezeNumbered ini w (some o)) s (fun h =>
      fget h .east RPL_EDITION_NUMBER coll = number ∧ fget h .east RPL_PROGRESS_RESULT coll = 0 ∧
        (∃ l, h.out = s.dev.out ++ .keeper coll (fget s.dev .east RPL_MAP_KEEPER_CONTEXT coll) (fget s.dev .east RPL_MAP_RKEY_RKEY coll)
          false 0 1 0 :: l) ∧
        (∀ n, rplNs s.dev coll = [n] → nsGet? s.dev n.nsid = some n → ∃ (n' : Namespace) (e : Edition), nsGet? h n.nsid = some n' ∧
          n'.editions = n.editions ++ [e] ∧ e.number = number ∧ e.leaves = n.leaves ∧ n'.leaves = n.leaves) ∧ h.mem = s.dev.mem)) ∧
  (∀ (s : State) (ini : Initiator) (w : Wing) (coll : Nat), Runs s.dev → Writable s.dev ini (pg .rpl w) 0x068 →
    coll = fget s.dev w RPL_MAP_INDEX_INDEX → (∀ n ∈ rplNs s.dev coll, n.owned = true) → rplMode s.dev coll = 1 ∨ rplMode s.dev coll = 2 →
    Completes (.freezeNumbered ini w none) s (fun h =>
      fget h .east RPL_PROGRESS_RESULT coll = statusCode .timeout ∧ h.cat = s.dev.cat ∧ h.mem = s.dev.mem ∧
        RegsBut s.dev h [(.rpl, 0x070)])) ∧
  (∀ (s : State) (ini : Initiator) (w : Wing) (coll : Nat) (lock : List (Option Nat)) (original : Option Nat) (g0 g : Head), Runs s.dev →
    Writable s.dev ini (pg .rpl w) 0x068 → coll = fget s.dev w RPL_MAP_INDEX_INDEX → (∀ n ∈ rplNs s.dev coll, n.owned = true) →
    rplOutstanding s.dev coll = false → rplState s.dev coll = 4 → rplMode s.dev coll = 1 →
    takeLock (reply s.dev false) coll false lock = (g0, .done) →
    freezeNumbered (rplUpd g0 coll (fun c => { c with hold := true })) coll original = (g, .done) →
    mayShip g coll (fget g .east RPL_EDITION_NUMBER coll) = true →
    Completes (.resumeSync ini w lock original) s (fun h =>
      (∃ sh : Ship, (rplColl h coll).ship = some sh ∧ sh.edition = fget g .east RPL_EDITION_NUMBER coll ∧ sh.resume = true) ∧
        h = startShip g coll (fget g .east RPL_EDITION_NUMBER coll) true)) ∧
  (∀ (s : State) (ini : Initiator) (w : Wing) (coll seen : Nat) (force : Bool) (rest : List (Option Nat)), Runs s.dev →
    Writable s.dev ini (pg .rpl w) 0x068 → coll = fget s.dev w RPL_MAP_INDEX_INDEX → (∀ n ∈ rplNs s.dev coll, n.owned = true) →
    rplMode s.dev coll = 3 → seen = (rplColl s.dev coll).lock → (lockHeld seen = true → lockMine s.dev seen = true) →
    (rplColl s.dev coll).sync = true → (rplColl s.dev coll).begun = none → (∀ q ∈ s.dev.rpl.incoming, q.1 ≠ coll) →
    newestNumber s.dev coll < 2 ^ 32 →
    Completes (.rplPromote ini w force (some seen :: rest)) s (fun h =>
      rplMode h coll = 2 ∧ fget h .east RPL_MAP_BASE_EDITION coll = newestNumber s.dev coll ∧
        fget h .east RPL_PROGRESS_RESULT coll = 0 ∧ (rplColl h coll).lock = lockWord s.dev seen ∧ (rplColl h coll).sync = false ∧
        EventSet h (collHome s.dev coll) Ev.RPL_PROMOTED ∧ h.cat = s.dev.cat ∧ h.vit = s.dev.vit ∧ h.mem = s.dev.mem ∧
        h.out = s.dev.out ++ [.keeper coll (fget s.dev .east RPL_MAP_KEEPER_CONTEXT coll) (fget s.dev .east RPL_MAP_RKEY_RKEY coll) true 8
          seen (lockWord s.dev seen)])) ∧
  (∀ (s : State) (ini : Initiator) (w : Wing) (coll : Nat), Runs s.dev → Writable s.dev ini (pg .rpl w) 0x068 →
    coll = fget s.dev w RPL_MAP_INDEX_INDEX → (∀ n ∈ rplNs s.dev coll, n.owned = true) → holdsLock s.dev coll = false →
    rplOutstanding s.dev coll = false →
    (∀ n ∈ rplNs s.dev coll, (editionOf n (fget s.dev .east RPL_EDITION_NUMBER coll)).isSome = true) →
    Completes (.rplDemote ini w) s (fun h =>
      rplMode h coll = 3 ∧ fget h .east RPL_PROGRESS_RESULT coll = 0 ∧ (∀ q ∈ h.rpl.queue, q.coll ≠ coll) ∧
        (rplColl h coll).sync = false ∧ (rplColl h coll).begun = none ∧ h.mem = s.dev.mem)) ∧
  (∀ (s : State) (ini : Initiator) (w : Wing) (coll : Nat), Runs s.dev → Writable s.dev ini (pg .rpl w) 0x068 →
    coll = fget s.dev w RPL_MAP_INDEX_INDEX → (∀ n ∈ rplNs s.dev coll, n.owned = true) → (rplColl s.dev coll).ship ≠ none →
    Completes (.rplAbort ini w) s (fun h =>
      (rplColl h coll).ship = none ∧ fget h .east RPL_PROGRESS_RESULT coll = statusCode .aborted ∧
        EventSet h (collHome s.dev coll) Ev.RPL_SHIP_FAIL ∧ (∀ e ∈ h.cat.heldEditions, e.1 ≠ coll) ∧ (∀ r ∈ h.rpl.reqs, r.coll ≠ coll) ∧
        h.mem = s.dev.mem ∧ h.out = s.dev.out)) ∧
  (∀ (s : State) (coll rtag micros : Nat) (r : RplReq) (es : List (Nat × Nat × Nat)) (have' : List Bool), Runs s.dev → coll < 4096 →
    s.dev.rpl.reqs.find? (fun r => r.coll == coll && r.rtag == rtag) = some r → r.body = .syncWrite es →
    (rplColl s.dev coll).ship = none →
    Completes (.rplReply coll rtag .done have' micros) s (fun h =>
      h.rpl.reqs = s.dev.rpl.reqs.filter (fun x => !(x.coll == coll && x.rtag == rtag)) ∧
        h.rpl.flight = s.dev.rpl.flight.filter (fun q => !(q.1 == rtag && q.2.coll == coll)) ∧
        fget h (collHome s.dev coll) RPL_SYNC_MAX_MICROS =
          max (fget s.dev (collHome s.dev coll) RPL_SYNC_MAX_MICROS) (min micros (2 ^ 32 - 1)) ∧
        RegsBut s.dev h [(.rpl, 0x080)] ∧ h.mem = s.dev.mem ∧ h.cat = s.dev.cat ∧ h.vit = s.dev.vit ∧ h.out = s.dev.out)) ∧
  (∀ (s : State) (coll rtag micros e b : Nat) (r : RplReq) (sh : Ship) (have' : List Bool), Runs s.dev → coll < 4096 →
    s.dev.rpl.reqs.find? (fun r => r.coll == coll && r.rtag == rtag) = some r → r.body = .begin e b →
    (rplColl s.dev coll).ship = some sh →
    Completes (.rplReply coll rtag .done have' micros) s (fun h =>
      (rplColl h coll).ship = some { sh with begun := true } ∧
        h.rpl.reqs = s.dev.rpl.reqs.filter (fun x => !(x.coll == coll && x.rtag == rtag)) ∧ h.cat = s.dev.cat ∧ h.out = s.dev.out ∧
        h.mem = s.dev.mem)) ∧
  (∀ (s : State) (coll rtag : Nat), Runs s.dev → coll < 4096 → (∃ r ∈ s.dev.rpl.reqs, r.coll = coll ∧ r.rtag = rtag) →
    (rplColl s.dev coll).ship = none → (rplColl s.dev coll).diverged = false →
    Completes (.syncTimeout coll rtag) s (fun h =>
      (rplColl h coll).diverged = true ∧ EventSet h (collHome s.dev coll) Ev.RPL_SYNC_BROKEN ∧ (∀ r ∈ h.rpl.reqs, r.coll ≠ coll) ∧
        (∀ q ∈ h.rpl.queue, q.coll ≠ coll) ∧ h.cat = s.dev.cat ∧ h.vit = s.dev.vit ∧ h.mem = s.dev.mem ∧ h.out = s.dev.out)) ∧
  (∀ (s : State) (coll rtag : Nat), Runs s.dev → coll < 4096 → (∃ r ∈ s.dev.rpl.reqs, r.coll = coll ∧ r.rtag = rtag) →
    (rplColl s.dev coll).ship ≠ none →
    Completes (.asyncTimeout coll rtag) s (fun h =>
      (rplColl h coll).ship = none ∧ fget h .east RPL_PROGRESS_RESULT coll = statusCode .timeout ∧
        EventSet h (collHome s.dev coll) Ev.RPL_SHIP_FAIL ∧ h.mem = s.dev.mem ∧ h.out = s.dev.out))

/-- At the target, in mode TARGET with ACCEPT 1 on the owner head, a request in form is applied in order and answered: SYNC_WRITE places
its granules and is answered after their commit (R346), BEGIN notes its edition where the base matches, OFFER says which fingerprints it
has (R353), CASE is stored (R354), UNMAP is applied, COMMIT freezes its edition (R355). In any other mode each is answered FENCED (R340).
It rests on choices of the model: log entries 119, 237. -/
def Obligations.ReplicationAtTheTarget : Prop :=
  (∀ (s : State) (coll nsid rtag : Nat) (es : List (Nat × Nat × Nat)), Runs s.dev → coll < 4096 →
    fget s.dev (collHome s.dev coll) RPL_CTRL_ACCEPT = 1 → rplMode s.dev coll = 3 → (∀ n ∈ rplNs s.dev coll, n.owned = true) →
    rplNsCheck s.dev coll nsid (.syncWrite es) = .done → (∀ q ∈ s.dev.rpl.incoming, q.1 ≠ coll) →
    (∀ e ∈ es, Config.guard64 4096 e.2.2 % 2 ^ 64 = e.2.1) → pairDirty s.dev + es.length ≤ quotaGranules s.dev →
    Completes (.syncWrite coll nsid rtag es) s (fun h => ∃ seqs : List Nat, seqs.length = es.length ∧
      h.rpl.acks = s.dev.rpl.acks ++ [(coll, nsid, rtag, seqs)] ∧ (rplColl h coll).sync = true ∧ h.rpl.incoming = s.dev.rpl.incoming)) ∧
  (∀ (s : State) (coll rtag edition base : Nat), Runs s.dev → coll < 4096 →
    fget s.dev (collHome s.dev coll) RPL_CTRL_ACCEPT = 1 → rplMode s.dev coll = 3 → (∀ n ∈ rplNs s.dev coll, n.owned = true) →
    (∀ q ∈ s.dev.rpl.incoming, q.1 ≠ coll) → (∀ n ∈ rplNs s.dev coll, ((newestEdition? n).map (·.number)).getD 0 = base) →
    Completes (.rplBegin coll rtag edition base) s (fun h =>
      (rplColl h coll).begun = some edition ∧ (rplColl h coll).sync = false ∧
        h.out = s.dev.out ++ [.rpl coll (fget s.dev .east RPL_MAP_CONN_CONTEXT coll) 0x82 0 0 rtag (.reply [])] ∧ h.cat = s.dev.cat ∧
        h.vit = s.dev.vit ∧ h.mem = s.dev.mem)) ∧
  (∀ (s : State) (coll nsid rtag edition : Nat) (es : List (Nat × Nat)), Runs s.dev → coll < 4096 →
    fget s.dev (collHome s.dev coll) RPL_CTRL_ACCEPT = 1 → rplMode s.dev coll = 3 → (∀ n ∈ rplNs s.dev coll, n.owned = true) →
    rplNsCheck s.dev coll nsid (.offer edition es) = .done → (∀ q ∈ s.dev.rpl.incoming, q.1 ≠ coll) →
    (∀ e ∈ es, offerMatch s.dev coll e.2 = none) →
    Completes (.rplOffer coll nsid rtag edition es) s (fun h =>
      h = { s.dev with out := s.dev.out ++ [.rpl coll (fget s.dev .east RPL_MAP_CONN_CONTEXT coll) 0x83 0 nsid rtag
        (.reply (es.map (fun _ => false)))] })) ∧
  (∀ (s : State) (coll nsid rtag edition : Nat) (es : List (Nat × Nat)) (g : Head) (bits : List Bool), Runs s.dev → coll < 4096 →
    fget s.dev (collHome s.dev coll) RPL_CTRL_ACCEPT = 1 → rplMode s.dev coll = 3 → (∀ n ∈ rplNs s.dev coll, n.owned = true) →
    rplNsCheck s.dev coll nsid (.offer edition es) = .done → (∀ q ∈ s.dev.rpl.incoming, q.1 ≠ coll) →
    applyOffer s.dev coll nsid es = (g, bits) →
    Completes (.rplOffer coll nsid rtag edition es) s (fun h =>
      bits.length = es.length ∧ h = rplReply g coll nsid rtag 3 .done bits)) ∧
  (∀ (s : State) (coll nsid rtag edition image : Nat) (es : List (Nat × Nat × Nat)) (raw : Bool) (data : List Nat), Runs s.dev →
    coll < 4096 → fget s.dev (collHome s.dev coll) RPL_CTRL_ACCEPT = 1 → rplMode s.dev coll = 3 →
    (∀ n ∈ rplNs s.dev coll, n.owned = true) → rplNsCheck s.dev coll nsid (.case edition es raw image) = .done →
    (∀ q ∈ s.dev.rpl.incoming, q.1 ≠ coll) → caseGranules es raw image = some data → mediaKey s.dev coll ≠ none →
    s.dev.eng.fpStates.contains coll = true →
    Completes (.rplCase coll nsid rtag edition es raw image) s (fun h =>
      h = rplReply (storeCase s.dev coll nsid es raw image data) coll nsid rtag 4 .done)) ∧
  (∀ (s : State) (coll nsid rtag : Nat) (runs : List (Nat × Nat × Nat)), Runs s.dev → coll < 4096 →
    fget s.dev (collHome s.dev coll) RPL_CTRL_ACCEPT = 1 → rplMode s.dev coll = 3 → (∀ n ∈ rplNs s.dev coll, n.owned = true) →
    rplNsCheck s.dev coll nsid (.unmap runs) = .done → (∀ q ∈ s.dev.rpl.incoming, q.1 ≠ coll) →
    Completes (.rplUnmap coll nsid rtag runs) s (fun h => h = rplReply (applyUnmap s.dev coll nsid runs) coll nsid rtag 5 .done)) ∧
  (∀ (s : State) (coll rtag edition base changed : Nat) (g : Head), Runs s.dev → coll < 4096 →
    fget s.dev (collHome s.dev coll) RPL_CTRL_ACCEPT = 1 → rplMode s.dev coll = 3 → (∀ n ∈ rplNs s.dev coll, n.owned = true) →
    (∀ q ∈ s.dev.rpl.incoming, q.1 ≠ coll) → shippedOpen s.dev coll = false → (∀ a ∈ s.dev.rpl.acks, a.1 ≠ coll) →
    newestNumber s.dev coll < edition → freezeColl s.dev coll edition = (g, .done) →
    Completes (.rplCommit coll rtag edition base changed) s (fun h =>
      (rplColl h coll).begun = none ∧ h = rplReply (rplUpd g coll (fun c => { c with begun := none })) coll 0 rtag 6 .done)) ∧
  (∀ (s : State) (coll nsid rtag edition base changed image : Nat) (l : List (Nat × Nat × Nat)) (f : List (Nat × Nat)) (raw : Bool),
    Runs s.dev → coll < 4096 → rplMode s.dev coll ≠ 3 →
    ∀ i ∈ [(Instr.syncWrite coll nsid rtag l, 0x81, nsid), (.rplBegin coll rtag edition base, 0x82, 0),
      (.rplOffer coll nsid rtag edition f, 0x83, nsid), (.rplCase coll nsid rtag edition l raw image, 0x84, nsid),
      (.rplUnmap coll nsid rtag l, 0x85, nsid), (.rplCommit coll rtag edition base changed, 0x86, 0)],
    Completes i.1 s (fun h =>
      h = { s.dev with out := s.dev.out ++ [.rpl coll (fget s.dev .east RPL_MAP_CONN_CONTEXT coll) i.2.1 (statusCode .fenced) i.2.2 rtag
        (.reply [])] }))

/-- HNY.POST writes a descriptor at its ring's tail and answers 0, or answers 1 with the ring full and 2 with it refused (R367 to R369);
HNY.WAIT stops the hart at rung 1 until a cause wakes it, which it answers with the least cause (R372). In the modes U, VS and VU both
raise an illegal-instruction exception (R367). ENABLE and FENCE move a core's state, and its test ends READY or FAILED (R366). An access
that memory refuses raises a precise exception (R375, R377). CQ_HEAD_WRITE frees entries (R371). It rests on choices of the model: log
entries 121, 122. -/
def Obligations.CoresPostAndWait : Prop :=
  (∀ (s : State) (n rs1 a r t e : Nat) (mode : HartMode) (w : Wing), Runs s.dev → hartRuns s.dev n = true → illegalMode mode = false →
    w = (if rs1.testBit 10 then .west else .east) → r = rs1 % 1024 → rangeAll a 64 (coreReach s.dev) = true →
    isPoisoned s.dev a 64 = false → postRefused s.dev w r n = false → ringUsed s.dev w r < ringSize s.dev w r →
    t = fget s.dev w CPU_RING_PTR_TAIL r → e = ringBase s.dev w r + 64 * (t % ringSize s.dev w r) →
    Completes (.hnyPost n mode rs1 (some a)) s (fun h =>
      h.mem = memPut s.dev.mem e 64 (memRead s.dev a 64) ∧
        (∀ x, x < e ∨ e + 64 ≤ x → memByte h.mem x = memByte s.dev.mem x) ∧ fget h w CPU_RING_PTR_TAIL r = (t + 1) % 65536 ∧
        fget h w CPU_CNT_POST_COUNT = min (fget s.dev w CPU_CNT_POST_COUNT + 1) (2 ^ 32 - 1) ∧ h.out = s.dev.out ++ [.hartResult n 0] ∧
        RegsBut s.dev h [(.cpu, 0x064), (.cpu, 0x07C)] ∧ SameButRegs { s.dev with mem := h.mem, poison := h.poison, out := h.out } h)) ∧
  (∀ (s : State) (n rs1 a r : Nat) (mode : HartMode) (w : Wing), Runs s.dev → hartRuns s.dev n = true → illegalMode mode = false →
    w = (if rs1.testBit 10 then .west else .east) → r = rs1 % 1024 → rangeAll a 64 (coreReach s.dev) = true →
    isPoisoned s.dev a 64 = false → postRefused s.dev w r n = true ∨ ringSize s.dev w r ≤ ringUsed s.dev w r →
    Completes (.hnyPost n mode rs1 (some a)) s (fun h =>
      h.mem = s.dev.mem ∧ fget h w CPU_RING_PTR_TAIL r = fget s.dev w CPU_RING_PTR_TAIL r ∧
        h.out = s.dev.out ++ [.hartResult n (if postRefused s.dev w r n then 2 else 1)] ∧
        (postRefused s.dev w r n = true → EventSet h w Ev.CPU_POST_REFUSED))) ∧
  (∀ (s : State) (n rs1 tmo : Nat) (mode : HartMode) (a : Option Nat), Runs s.dev → hartRuns s.dev n = true → mode = .u ∨ mode = .vs ∨ mode = .vu →
    ∀ i ∈ [Instr.hnyPost n mode rs1 a, .hnyWait n mode tmo], Completes i s (fun h =>
      h = { s.dev with out := s.dev.out ++ [.hartTrap n true] })) ∧
  (∀ (s : State) (n tmo : Nat) (mode : HartMode), Runs s.dev → hartRuns s.dev n = true → mode = .m ∨ mode = .s →
    fget s.dev (hartWing n) PWR_CORE_RUNG_REQUEST (hartCore n) < 3 →
    Completes (.hnyWait n mode tmo) s (fun h =>
      tabGet? h.core.waits n = some tmo ∧ coreRung h n = 1 ∧ fget h (hartWing n) CPU_CORE_STATE_RUNG (hartCore n) = 1 ∧
        RegsBut s.dev h [(.cpu, 0x044), (.pwr, 0x04C)] ∧ SameButRegs { s.dev with core := h.core } h)) ∧
  (∀ (s : State) (n : Nat) (irq forced tmo : Bool), Runs s.dev → n < 52 → tabHas s.dev.core.waits n = true → coreDeep s.dev n = false →
    irq = true ∨ forced = true ∨ (tmo = true ∧ tabGet s.dev.core.waits 0 n ≠ 0) →
    Completes (.waitWake n irq forced tmo) s (fun h =>
      tabGet? h.core.waits n = none ∧ coreRung h n = 0 ∧
        h.out = s.dev.out ++ [.hartResult n (if irq then 0 else if forced then 1 else 2)] ∧
        RegsBut s.dev h [(.cpu, 0x044), (.pwr, 0x04C)] ∧ SameButRegs { s.dev with core := h.core, out := h.out } h)) ∧
  (∀ (s : State) (ini : Initiator) (w : Wing) (c : Nat), Runs s.dev → Writable s.dev ini (pg .cpu w) 0x048 →
    c = fget s.dev w CPU_CORE_INDEX_INDEX → coreState s.dev w c = 1 ∨ coreState s.dev w c = 4 →
    Completes (.coreEnable ini w) s (fun h =>
      coreState h w c = 2 ∧ fget h w CPU_CORE_STATE_CAUSE c = 0 ∧ RegsBut s.dev h [(.cpu, 0x044), (.pwr, 0x04C)] ∧
        h.mem = s.dev.mem ∧ h.out = s.dev.out)) ∧
  (∀ (s : State) (ini : Initiator) (w : Wing) (c : Nat), Runs s.dev → Writable s.dev ini (pg .cpu w) 0x048 →
    c = fget s.dev w CPU_CORE_INDEX_INDEX → coreState s.dev w c = 0 → (∀ v, fget s.dev v EVT_CTRL_FALLBACK_HART ≠ hartOf w c) →
    activeCores s.dev ≠ 1 →
    Completes (.coreFence ini w) s (fun h =>
      coreState h w c = 4 ∧ fget h w CPU_CORE_STATE_CAUSE c = 3 ∧ RegsBut s.dev h [(.cpu, 0x044), (.pwr, 0x04C)] ∧
        h.mem = s.dev.mem ∧ h.out = s.dev.out)) ∧
  (∀ (s : State) (w : Wing) (c : Nat), Runs s.dev → c < 26 → coreState s.dev w c = 2 →
    Completes (.coreReady w c) s (fun h =>
      coreState h w c = 0 ∧ EventSet h w Ev.CPU_CORE_READY ∧
        h.out = s.dev.out ++ [.hartStart (hartOf w c) (pget s.dev w CPU_START_LO_ADDR CPU_START_HI_ADDR * 4)] ∧
        RegsBut s.dev h [(.cpu, 0x010), (.cpu, 0x044)] ∧ h.mem = s.dev.mem)) ∧
  (∀ (s : State) (w : Wing) (c cause : Nat), Runs s.dev → c < 26 → coreState s.dev w c ≠ 3 → cause < 16 →
    Completes (.coreFailed w c cause) s (fun h =>
      coreState h w c = 3 ∧ fget h w CPU_CORE_STATE_CAUSE c = cause ∧ EventSet h w Ev.CPU_CORE_FAILED ∧
        tabGet? h.core.waits (hartOf w c) = none ∧ RegsBut s.dev h [(.cpu, 0x010), (.cpu, 0x044), (.pwr, 0x04C)] ∧ h.mem = s.dev.mem ∧
        h.out = s.dev.out)) ∧
  (∀ (s : State) (n a : Nat) (load : Bool), Runs s.dev → hartRuns s.dev n = true → a < 0x40000000 ∨ 0x50000000 ≤ a →
    deviceReach a = false → coreReach s.dev a = false ∨ (load = true ∧ isPoisoned s.dev a 1 = true) →
    Completes (.coreAccessFault n a load) s (fun h => h = { s.dev with out := s.dev.out ++ [.hartTrap n false] })) ∧
  (∀ (s : State) (ini : Initiator) (w : Wing) (v q : Nat), Runs s.dev → Writable s.dev ini (pg .cpu w) 0x078 →
    q = fget s.dev w CPU_CQ_INDEX_INDEX → v < 65536 → (∀ o ∈ s.dev.eng.ops, o.held = true → o.wing = w → o.cq ≠ q) →
    Completes (.cqHeadWrite ini w v) s (fun h =>
      fget h w CPU_CQ_PTR_HEAD q = v ∧ fget h w CPU_CQ_PTR_TAIL q = fget s.dev w CPU_CQ_PTR_TAIL q ∧ RegsBut s.dev h [(.cpu, 0x078)] ∧
        SameButRegs (reply s.dev false) h))

/-- COPY and FILL take a channel with their bytes read once, to be placed at their end (R385 to R389), where no poison is among them
(R68); DISABLE and HALT abort what their channels hold (R390). A segment migrates and ends in its new place (R379); a channel that no
VALID segment uses is fenced (R380). An uncorrectable error poisons its line (R377), and corrected errors retire their page at the
threshold (R381). A pseudo-channel is moved off and fenced, the Vitrine losing clean slots alone (R384); an HBM error fails what it lies
in (R383). It rests on choices of the model: log entries 67, 125, 126, 128. -/
def Obligations.MemoryAndDmaAct : Prop :=
  (∀ (s : State) (w : Wing) (src : Source) (t : Taken) (h' : Head) (copy : Bool) (sp dp bad : List (Nat × Nat)) (prio c v : Nat),
    Runs s.dev → Starts s.dev w .dma src (if copy then 1 else 2) t h' → 1 ≤ dmLen t.d → dmLen t.d ≤ 2 ^ 30 →
    wrapOk (dmDstWrap t.d) (dmDstW t.d) = true → (copy = true → wrapOk (dmSrcWrap t.d) (dmSrcW t.d) = true) →
    (dmDstWrap t.d = true → dmLen t.d ≤ 2 ^ dmDstW t.d) → dp = dmaPieces (dmDst t.d) (dmLen t.d) (dmDstWrap t.d) (dmDstW t.d) →
    sp = dmaPieces (dmSrc t.d) (dmLen t.d) (dmSrcWrap t.d) (dmSrcW t.d) →
    (∀ p ∈ dp, rangeAll p.1 p.2 (coreReach h') = true) →
    (copy = true → ∀ p ∈ sp, if inWindow p.1 then windowReadable h' p.1 p.2 = true else rangeAll p.1 p.2 (coreReach h') = true) →
    prio = (match t.ring with
      | some n => if t.docent then 0 else fget h' w CPU_RING_CFG_PRIO n
      | none => 0) →
    pickChannel h' w prio = some c → bad = (if copy then poisonedIn h' sp else []) →
    v = (if copy then readPieces h' sp else fillBytes (dmPattern t.d) (dmLen t.d)) →
    Completes (if copy then .dmaCopy w src else .dmaFill w src) s (fun h =>
      h.eng.ops.length = h'.eng.ops.length + 1 ∧
        (∃ o ∈ h.eng.ops, o.cls = .dma ∧ o.wing = w ∧ o.tag = dTag t.d ∧ o.chan = c ∧ o.prio = prio ∧
          o.bytes = (if bad = [] then dmLen t.d else 0) ∧ o.status = (if bad = [] then .done else .mediaFail) ∧
          o.place = (if bad = [] then placePieces dp v else []) ∧ o.held = false) ∧
        h.mem = s.dev.mem ∧ h.keys = s.dev.keys ∧ h.vit = s.dev.vit)) ∧
  (∀ (s : State) (ini : Initiator) (w : Wing) (c : Nat), Runs s.dev → Writable s.dev ini (pg .dma w) 0x04C →
    c = fget s.dev w DMA_CHAN_INDEX_INDEX → fget s.dev w DMA_CTRL_HALT = 0 →
    Completes (.dmaDisable ini w) s (fun h =>
      (8 * wingNum w + c) ∈ h.core.dmaOff ∧ fget h w DMA_CHAN_STATE_STATE c = 2 ∧ (∀ o ∈ h.eng.ops, inChannel w c o = false) ∧
        h.eng.ops.length = s.dev.eng.ops.length ∧ ((∃ o ∈ s.dev.eng.ops, inChannel w c o = true) → EventSet h w Ev.DMA_ABORTED) ∧
        RegsBut s.dev h [(.dma, 0x010), (.dma, 0x048)] ∧ h.mem = s.dev.mem ∧ h.out = s.dev.out)) ∧
  (∀ (s : State) (ini : Initiator) (w : Wing) (c : Nat), Runs s.dev → Writable s.dev ini (pg .dma w) 0x04C →
    c = fget s.dev w DMA_CHAN_INDEX_INDEX → fget s.dev w DMA_CTRL_HALT = 0 → (∀ o ∈ s.dev.eng.ops, inChannel w c o = false) →
    Completes (.dmaEnable ini w) s (fun h =>
      (8 * wingNum w + c) ∉ h.core.dmaOff ∧ fget h w DMA_CHAN_STATE_STATE c = 0 ∧ h.eng = s.dev.eng ∧
        RegsBut s.dev h [(.dma, 0x048)] ∧ h.mem = s.dev.mem ∧ h.out = s.dev.out)) ∧
  (∀ (s : State) (ini : Initiator) (w : Wing), Runs s.dev → Writable s.dev ini (pg .dma w) 0x040 →
    Completes (.dmaHalt ini w true) s (fun h =>
      fget h w DMA_CTRL_HALT = 1 ∧ (∀ c, c < 8 → fget h w DMA_CHAN_STATE_STATE c = 3 ∧ ∀ o ∈ h.eng.ops, inChannel w c o = false) ∧
        h.eng.ops.length = s.dev.eng.ops.length ∧ RegsBut s.dev h [(.dma, 0x010), (.dma, 0x040), (.dma, 0x048)] ∧
        h.mem = s.dev.mem ∧ h.out = s.dev.out)) ∧
  (∀ (s : State) (ini : Initiator) (w : Wing) (seg : Nat), Runs s.dev → Writable s.dev ini (pg .mem w) 0x058 → seg < 4096 →
    fget s.dev w MEM_MIGRATE_BUSY = 0 → fget s.dev w MEM_SEG_ENTRY_VALID seg = 1 →
    Completes (.migrateStart ini w seg) s (fun h => fget h w MEM_MIGRATE_SEGMENT = seg ∧
      if placeOkSeg s.dev w seg (fget s.dev w MEM_MIGRATE_TO_SET) (fget s.dev w MEM_MIGRATE_TO_BASE) then
        migration h w = some (seg, fget s.dev w MEM_MIGRATE_TO_SET, fget s.dev w MEM_MIGRATE_TO_BASE) ∧ fget h w MEM_MIGRATE_BUSY = 1 ∧
          fget h w MEM_MIGRATE_BOUND_UNITS = 0 ∧ fget h w MEM_SEG_ENTRY_MIGRATING seg = 1 ∧
          RegsBut s.dev h [(.mem, 0x050), (.mem, 0x058), (.mem, 0x05C)] ∧ SameButRegs { reply s.dev false with core := h.core } h
      else fget h w MEM_MIGRATE_BUSY = 0 ∧ migration h w = migration s.dev w ∧ h.core = s.dev.core ∧ h.mem = s.dev.mem)) ∧
  (∀ (s : State) (w : Wing) (seg set base : Nat), Runs s.dev → migration s.dev w = some (seg, set, base) → set < 256 → base < 4096 →
    Completes (.migrateDone w) s (fun h =>
      migration h w = none ∧ fget h w MEM_SEG_ENTRY_SET seg = set ∧ fget h w MEM_SEG_ENTRY_BASE seg = base ∧
        fget h w MEM_SEG_ENTRY_MIGRATING seg = 0 ∧ fget h w MEM_MIGRATE_BUSY = 0 ∧ EventSet h w Ev.MEM_MIGRATE_DONE ∧
        RegsBut s.dev h [(.mem, 0x010), (.mem, 0x050), (.mem, 0x058)] ∧ h.mem = s.dev.mem ∧ h.out = s.dev.out)) ∧
  (∀ (s : State) (ini : Initiator) (w : Wing) (c : Nat), Runs s.dev → Writable s.dev ini (pg .mem w) 0x048 → c < 8 →
    (∀ k, k < 4096 → fget s.dev w MEM_SEG_ENTRY_VALID k = 1 → (fget s.dev w MEM_SEG_ENTRY_SET k).testBit c = false) →
    Completes (.channelFence ini w c) s (fun h =>
      fget h w MEM_CHAN_STATUS_FENCED = (fget s.dev w MEM_CHAN_STATUS_FENCED ||| 2 ^ c) ∧ EventSet h w Ev.MEM_CHANNEL_FENCED ∧
        RegsBut s.dev h [(.mem, 0x010), (.mem, 0x044)] ∧ SameButRegs (reply s.dev false) h)) ∧
  (∀ (s : State) (ini : Initiator) (w : Wing) (c : Nat), Runs s.dev → Writable s.dev ini (pg .mem w) 0x048 → c < 8 →
    Completes (.channelUnfence ini w c) s (fun h =>
      (∀ k, (fget h w MEM_CHAN_STATUS_FENCED).testBit k = (decide (k ≠ c) && (fget s.dev w MEM_CHAN_STATUS_FENCED).testBit k)) ∧
        RegsBut s.dev h [(.mem, 0x044)] ∧ SameButRegs (reply s.dev false) h)) ∧
  (∀ (s : State) (a seg : Nat) (w : Wing), Runs s.dev → ddrSeg a = some (w, seg) →
    Completes (.ddrUe a) s (fun h =>
      (a / 64) ∈ h.poison ∧ (∀ l ∈ s.dev.poison, l ∈ h.poison) ∧ EventSet h w Ev.MEM_UE ∧
        fget h w MEM_CNT_UE_COUNT = min (fget s.dev w MEM_CNT_UE_COUNT + 1) (2 ^ 32 - 1) ∧
        (spareArea s.dev w ≠ 0 → fget s.dev w MEM_RETIRE_USED < 256 →
          (a / 4096, spareArea s.dev w + 4096 * fget s.dev w MEM_RETIRE_USED) ∈ h.core.retired ∧
            fget h w MEM_RETIRE_USED = fget s.dev w MEM_RETIRE_USED + 1 ∧ EventSet h w Ev.MEM_PAGE_RETIRED) ∧
        h.mem = s.dev.mem ∧ h.out = s.dev.out)) ∧
  (∀ (s : State) (a seg n : Nat) (w : Wing), Runs s.dev → ddrSeg a = some (w, seg) →
    n = ((s.dev.core.ce.filter (fun r => decide (frameCount s.dev < r.2 + 1024))).filter (fun r => r.1 == a / 4096)).length + 1 →
    Completes (.ddrCe a) s (fun h =>
      fget h w MEM_CNT_CE_COUNT = min (fget s.dev w MEM_CNT_CE_COUNT + 1) (2 ^ 32 - 1) ∧
        (fget s.dev w MEM_CE_THRESH_COUNT ≤ n → EventSet h w Ev.MEM_CE_THRESH ∧
          (spareArea s.dev w ≠ 0 → fget s.dev w MEM_RETIRE_USED < 256 →
            (a / 4096, spareArea s.dev w + 4096 * fget s.dev w MEM_RETIRE_USED) ∈ h.core.retired)) ∧
        (n < fget s.dev w MEM_CE_THRESH_COUNT → h.core.retired = s.dev.core.retired ∧ (a / 4096, frameCount s.dev) ∈ h.core.ce) ∧
        h.mem = s.dev.mem ∧ h.poison = s.dev.poison ∧ h.out = s.dev.out)) ∧
  (∀ (s : State) (w : Wing), Runs s.dev → fget s.dev w MEM_CTRL_SCRUB_EN = 1 →
    Completes (.memScrubPass w) s (fun h =>
      EventSet h w Ev.MEM_SCRUB_PASS ∧ RegsBut s.dev h [(.mem, 0x010)] ∧ SameButRegs s.dev h)) ∧
  (∀ (s : State) (ini : Initiator) (w : Wing) (p : Nat), Runs s.dev → Writable s.dev ini (pg .hbm w) 0x04C →
    p = fget s.dev w HBM_PCH_INDEX_INDEX → pchState s.dev w p = 0 → pchGone s.dev w < 2 →
    Completes (.pchFence ini w) s (fun h =>
      pchState h w p = 1 ∧ (∀ v ∈ h.vit.slots, ∃ u ∈ s.dev.vit.slots, v = u ∨ v = { u with used := false }) ∧
        (∀ v ∈ s.dev.vit.slots, v.st ≠ .clean ∨ v.wing ≠ w → v ∈ h.vit.slots) ∧
        h.mem = s.dev.mem ∧ h.out = s.dev.out)) ∧
  (∀ (s : State) (w : Wing) (p errors : Nat), Runs s.dev → p < 96 →
    Completes (.hbmCeFence w p errors) s (fun h =>
      fget h w HBM_CNT_CE_COUNT = min (fget s.dev w HBM_CNT_CE_COUNT + errors) (2 ^ 32 - 1) ∧
        fget h w HBM_PCH_STATE_CORRECTED p = min (fget s.dev w HBM_PCH_STATE_CORRECTED p + errors) 65535 ∧
        (errors < fget s.dev w HBM_CE_THRESH_COUNT → pchState h w p = pchState s.dev w p ∧ h.vit = s.dev.vit) ∧
        (fget s.dev w HBM_CE_THRESH_COUNT ≤ errors → EventSet h w Ev.HBM_CE_THRESH ∧
          (pchState s.dev w p = 0 → pchGone s.dev w < 2 → pchState h w p = 1)) ∧ h.mem = s.dev.mem ∧ h.out = s.dev.out)) ∧
  (∀ (s : State) (w : Wing) (p : Nat), Runs s.dev → p < 96 → pchState s.dev w p = 1 →
    Completes (.pchMoveDone w p) s (fun h =>
      pchState h w p = 2 ∧ EventSet h w Ev.HBM_PCH_FENCED ∧ RegsBut s.dev h [(.hbm, 0x010), (.hbm, 0x048)] ∧ SameButRegs s.dev h)) ∧
  (∀ (s : State) (w : Wing) (a : Nat) (what : HbmUe), Runs s.dev →
    Completes (.hbmUe w a what) s (fun h =>
      EventSet h w Ev.HBM_UE ∧ fget h w HBM_CNT_UE_COUNT = min (fget s.dev w HBM_CNT_UE_COUNT + 1) (2 ^ 32 - 1) ∧ h.mem = s.dev.mem ∧
        (what = .unread → RegsBut s.dev h [(.hbm, 0x010), (.hbm, 0x020), (.hbm, 0x024), (.hbm, 0x028), (.hbm, 0x058)] ∧
          SameButRegs s.dev h) ∧
        (∀ n, what = .core n → hartRuns s.dev n = true → h.out = s.dev.out ++ [.hartTrap n false]) ∧
        (∀ nsid g q, what = .slot nsid g q → ∀ v ∈ h.vit.slots, ¬ (v.wing = w ∧ isVersion nsid g q v = true)) ∧
        (∀ cls tag, what = .engine cls tag → ∀ o ∈ h.eng.ops, o.cls = cls → o.wing = w → o.tag = tag → o.held = false →
          isDone o.status = false)))

/-- RELEASE starts a wing's ACTIVE cores, once, or is held while the head is in Standby (R399, R473). EXTEND and ARM act on the
measurement registers (R400 to R402); SPDM requests are answered while firmware runs (R408). An enabled alarm erases every key, is kept
and holds the head for its reset; a disabled one only shows (R419). A debug challenge is a fresh nonce, and a token that answers it opens
a session after the keys are erased (R421). Docent's chip reset and the alarm's boot the head again (R398, R419). It rests on choices of
the model: log entries 138, 146, 147, 149. -/
def Obligations.DocentMeasuresAndGuards : Prop :=
  (∀ (s : State) (ini : Initiator) (w : Wing), Runs s.dev → Writable s.dev ini (pg .doc .east) 0x040 → released s.dev w = false →
    Completes (if w = .east then .releaseE ini else .releaseW ini) s (fun h =>
      released h w = true ∧ (∀ v, v ≠ w → released h v = released s.dev v) ∧
        (chipMode s.dev = 0 → h.out = s.dev.out ∧ (if w = .east then h.doc.heldE else h.doc.heldW) = true) ∧
        (chipMode s.dev ≠ 0 → h.out = s.dev.out ++ ((List.range 26).filter (fun c => coreState s.dev w c == 0)).map (fun c =>
          .hartStart (hartOf w c) (pget s.dev w CPU_START_LO_ADDR CPU_START_HI_ADDR * 4)) ∧
          (fget s.dev .east DOC_STATUS_STAGE = 1 → fget h .east DOC_STATUS_STAGE = 2 ∧ EventSet h .east Ev.DOC_RELEASED)) ∧
        RegsBut s.dev h [(.doc, 0x010), (.doc, 0x044)] ∧ h.mem = s.dev.mem)) ∧
  (∀ (s : State) (ini : Initiator), Runs s.dev → Writable s.dev ini (pg .doc .east) 0x040 →
    Completes (.docChipReset ini) s (fun h =>
      h.doc.booted = true ∧ h.doc.custodians = s.dev.doc.custodians ∧ h = boot (chipReset (reply s.dev false) .docent true))) ∧
  (∀ s : State, Runs s.dev → s.dev.doc.alarmHold = true →
    Completes .alarmReset s (fun h =>
      h.doc.booted = true ∧ h.doc.custodians = s.dev.doc.custodians ∧ h = boot (chipReset s.dev .alarm true))) ∧
  (∀ (s : State) (ini : Initiator) (r : Nat), Runs s.dev → Writable s.dev ini (pg .msr .east) 0x044 → r = fget s.dev .east MSR_INDEX_REG →
    r ≠ 6 → r ≠ 7 →
    Completes (.msrExtend ini) s (fun h =>
      Extended s.dev h r s.dev.doc.msrInput ∧ (∀ k, k < 32 → k ≠ r → msrValue h k = msrValue s.dev k) ∧
        fget h .east MSR_COUNT_COUNT r = min (fget s.dev .east MSR_COUNT_COUNT r + 1) (2 ^ 32 - 1) ∧
        (fget h .east MSR_USED_USED).testBit r = true ∧ EventSet h .east Ev.MSR_EXTENDED ∧ SameButRegs (reply s.dev false) h)) ∧
  (∀ (s : State) (ini : Initiator) (mask : Nat), Runs s.dev → Writable s.dev ini (pg .msr .east) 0x0A8 →
    Completes (.msrArm ini mask) s (fun h =>
      fget h .east MSR_ARMED_ARMED = (fget s.dev .east MSR_ARMED_ARMED ||| mask >>> 10 % 2 ^ 14) ∧ RegsBut s.dev h [(.msr, 0x0A8)] ∧
        SameButRegs (reply s.dev false) h)) ∧
  (∀ (s : State) (off len : Nat), Runs s.dev → firmwareRuns s.dev = true →
    ∀ i ∈ [(Instr.getVersion, 0, [0x13]), (.getCapabilities, 1, [15, 1, 1, 2]), (.negotiateAlgorithms, 2, [384, 384, 384]),
      (.getDigests, 3, [sha384 4096 (Config.certChain s.dev.doc.attest)]),
      (.getCertificate off len, 4, [Config.certChain s.dev.doc.attest >>> (8 * off) % 2 ^ (8 * min len 4096)])],
    Completes i.1 s (fun h => h = { s.dev with out := s.dev.out ++ [.spdm i.2.1 i.2.2] })) ∧
  (∀ (s : State) (nonce : Nat), Runs s.dev → firmwareRuns s.dev = true →
    Completes (.spdmChallenge nonce) s (fun h => ∃ own : Nat, own < 2 ^ 256 ∧
      h = { s.dev with
        freeCtr := s.dev.freeCtr + 1
        out := s.dev.out ++ [.spdm 5 [own, Config.ecdsaSign s.dev.doc.attest (sha384 64 (nonce % 2 ^ 256 + own <<< 256))]] })) ∧
  (∀ (s : State) (index nonce : Nat), Runs s.dev → firmwareRuns s.dev = true → 1 ≤ index → index ≤ 32 →
    Completes (.getMeasurements index nonce) s (fun h =>
      h = { s.dev with out := s.dev.out ++ [.spdm 6 [msrValue s.dev (index - 1), Config.ecdsaSign s.dev.doc.attest
        (sha384 80 (nonce % 2 ^ 256 + msrValue s.dev (index - 1) <<< 256))]] })) ∧
  (∀ (s : State) (ini : Initiator) (n : Nat) (force : Bool), Runs s.dev → (if force then n = 11 else n < 11) →
    (force = true → Writable s.dev ini (pg .alm .east) 0x054) → (fget s.dev .east ALM_ENABLE_ALARMS).testBit n = true →
    Completes (if force then .almForce ini else .almAlarm n) s (fun h =>
      h.keys = [] ∧ (∀ k, k < 8256 → keyState h k = 0) ∧ fget h .east ALM_LAST_VALID = 1 ∧ fget h .east ALM_LAST_ALARM = n ∧
        h.doc.alarmHold = true ∧ fget h .east ALM_COUNT_COUNT = min (fget s.dev .east ALM_COUNT_COUNT + 1) 65535 ∧
        EventSet h .east Ev.KEY_ERASED ∧ h.bindings = s.dev.bindings ∧ h.mem = s.dev.mem ∧ h.out = s.dev.out)) ∧
  (∀ (s : State) (n : Nat), Runs s.dev → n < 11 → (fget s.dev .east ALM_ENABLE_ALARMS).testBit n = false →
    Completes (.almAlarm n) s (fun h =>
      (fget h .east ALM_STATUS_ACTIVE).testBit n = true ∧ RegsBut s.dev h [(.alm, 0x044)] ∧ SameButRegs s.dev h)) ∧
  (∀ s : State, Runs s.dev → firmwareRuns s.dev = true →
    Completes .debugChallenge s (fun h => ∃ n : Nat, h.doc = { s.dev.doc with nonce := some n } ∧
      h.out = s.dev.out ++ [.debugChallenge (pget s.dev .east CHP_UID_LO_UID CHP_UID_HI_UID) n] ∧ h.regs = s.dev.regs ∧
      h.keys = s.dev.keys ∧ h.mem = s.dev.mem)) ∧
  (∀ (s : State) (nonce digest : Nat), Runs s.dev → firmwareRuns s.dev = true → s.dev.doc.nonce = some nonce → lifecycle s.dev = 2 →
    servesNone s.dev = true →
    Completes (.debugToken (pget s.dev .east CHP_UID_LO_UID CHP_UID_HI_UID) nonce true digest) s (fun h =>
      lifecycle h = 3 ∧ fget h .east CHP_LIFECYCLE_DEBUG_OPEN = 1 ∧ h.keys = [] ∧ h.doc.noKeys = true ∧ h.doc.nonce = none ∧
        Extended s.dev h 31 digest ∧ h.mem = s.dev.mem)) ∧
  (∀ (s : State) (uid nonce digest : Nat) (sigOk : Bool), Runs s.dev → firmwareRuns s.dev = true →
    sigOk = false ∨ s.dev.doc.nonce ≠ some nonce ∨ lifecycle s.dev ≠ 2 ∨ servesNone s.dev = false →
    Completes (.debugToken uid nonce sigOk digest) s (fun h => h = { s.dev with doc := { s.dev.doc with nonce := none } }))

/-- LOAD, GENERATE and UNWRAP fill an EMPTY slot under a new generation, LOAD zeroing its source; ACTIVATE, REVOKE, ZEROISE and EXPORT act
as R411 says (R411 to R413). A staged binding whose slots are the collection's own ACTIVE ones is committed and measured, and removed with
no namespace left (R414). It rests on choices of the model: log entries 139, 141. -/
def Obligations.KeysAndBindingsAct : Prop :=
  (∀ (s : State) (ini : Initiator) (id n : Nat), Runs s.dev → Writable s.dev ini (pg .key .east) 0x058 → keyIndex? s.dev = some id →
    takesKey s.dev id = true → n = keyBytes (keyKind s.dev id) → keySrc s.dev + n ≤ 2 ^ 19 →
    Completes (.keyLoad ini) s (fun h =>
      keyState h id = 1 ∧ keyValue h id % 2 ^ (8 * n) = memNum s.dev.sram (keySrc s.dev) n % 2 ^ (8 * n) ∧
        keyGen h id = (keyGen s.dev id + 1) % 65536 ∧ h.sram = memPut s.dev.sram (keySrc s.dev) n 0 ∧
        (∀ k, k ≠ id → keyValue h k = keyValue s.dev k ∧ keyState h k = keyState s.dev k) ∧ fget h .east KEY_STATUS_RESULT = 0 ∧
        EventSet h .east Ev.KEY_SLOT_CHANGED ∧ h.mem = s.dev.mem ∧ h.bindings = s.dev.bindings)) ∧
  (∀ (s : State) (ini : Initiator) (id : Nat), Runs s.dev → Writable s.dev ini (pg .key .east) 0x058 → keyIndex? s.dev = some id →
    takesKey s.dev id = true →
    Completes (.keyGenerate ini) s (fun h =>
      keyState h id = 1 ∧ keyGen h id = (keyGen s.dev id + 1) % 65536 ∧
        (∀ k, k ≠ id → keyValue h k = keyValue s.dev k ∧ keyState h k = keyState s.dev k) ∧ fget h .east KEY_STATUS_RESULT = 0 ∧
        h.sram = s.dev.sram ∧ h.mem = s.dev.mem ∧ h.bindings = s.dev.bindings)) ∧
  (∀ (s : State) (ini : Initiator) (id n k : Nat), Runs s.dev → Writable s.dev ini (pg .key .east) 0x058 → keyIndex? s.dev = some id →
    takesKey s.dev id = true → n = keyBytes (keyKind s.dev id) → keySrc s.dev + n + 8 ≤ 2 ^ 19 → wrapSlot? s.dev = some k →
    Completes (.keyUnwrapCmd ini) s (fun h =>
      (match Config.keyUnwrap (keyValue s.dev k) (n + 8) (memNum s.dev.sram (keySrc s.dev) (n + 8)) with
      | some v => keyState h id = 1 ∧ keyValue h id % 2 ^ (8 * n) = v % 2 ^ (8 * n) ∧ keyGen h id = (keyGen s.dev id + 1) % 65536 ∧
          fget h .east KEY_STATUS_RESULT = 0
      | none => keyState h id = keyState s.dev id ∧ keyValue h id = keyValue s.dev id ∧
          fget h .east KEY_STATUS_RESULT = statusCode .checkFail) ∧
        (∀ j, j ≠ id → keyValue h j = keyValue s.dev j) ∧ h.sram = s.dev.sram ∧ h.mem = s.dev.mem)) ∧
  (∀ (s : State) (ini : Initiator) (id : Nat), Runs s.dev → Writable s.dev ini (pg .key .east) 0x058 → keyIndex? s.dev = some id →
    keyState s.dev id = 1 →
    Completes (.keyActivate ini) s (fun h =>
      keyState h id = 2 ∧ (∀ e ∈ s.dev.bindings, e.2.fpSlot = id → e.1 ∈ h.eng.fpStates) ∧ fget h .east KEY_STATUS_RESULT = 0 ∧
        h.keys = s.dev.keys ∧ h.sram = s.dev.sram ∧ h.mem = s.dev.mem)) ∧
  (∀ (s : State) (ini : Initiator) (id : Nat), Runs s.dev → Writable s.dev ini (pg .key .east) 0x058 → keyIndex? s.dev = some id →
    keyState s.dev id = 2 → boundSlot s.dev id = false →
    Completes (.keyRevoke ini) s (fun h =>
      keyState h id = 3 ∧ h.keys = s.dev.keys ∧ (∀ c ∈ h.eng.chains, c.key ≠ some id) ∧ fget h .east KEY_STATUS_RESULT = 0 ∧
        h.mem = s.dev.mem)) ∧
  (∀ (s : State) (ini : Initiator) (id : Nat), Runs s.dev → Writable s.dev ini (pg .key .east) 0x058 → keyIndex? s.dev = some id →
    keyState s.dev id ≠ 0 → boundSlot s.dev id = false → (id < 8192 ∨ 8196 < id) →
    Completes (.keyZeroise ini) s (fun h =>
      keyState h id = 0 ∧ keyValue h id = 0 ∧ (∀ k, k ≠ id → keyValue h k = keyValue s.dev k) ∧ fget h .east KEY_STATUS_RESULT = 0 ∧
        h.mem = s.dev.mem)) ∧
  (∀ (s : State) (ini : Initiator) (id n k : Nat), Runs s.dev → Writable s.dev ini (pg .key .east) 0x058 → keyIndex? s.dev = some id →
    keyState s.dev id = 2 → n = keyBytes (keyKind s.dev id) → keySrc s.dev + n + 8 ≤ 2 ^ 19 → wrapSlot? s.dev = some k →
    Completes (.keyExport ini) s (fun h =>
      h.sram = memPut s.dev.sram (keySrc s.dev) (n + 8) (Config.keyWrap (keyValue s.dev k) n (keyValue s.dev id % 2 ^ (8 * n))) ∧
        fget h .east KEY_STATUS_RESULT = 0 ∧ RegsBut s.dev h [(.key, 0x05C)] ∧ h.keys = s.dev.keys ∧ h.mem = s.dev.mem)) ∧
  (∀ (s : State) (ini : Initiator) (i : Nat) (b : Binding), Runs s.dev → Writable s.dev ini (pg .key .east) 0x06C →
    i = fget s.dev .east KEY_BIND_INDEX_INDEX → b = staged s.dev → bindable s.dev i b.mediaSlot 1 0 = true →
    bindable s.dev i b.fpSlot 4 1 = true → tabGet? s.dev.bindings i = none →
    Completes (.bindCommit ini) s (fun h =>
      tabGet? h.bindings i = some b ∧ (∀ k, k ≠ i → tabGet? h.bindings k = tabGet? s.dev.bindings k) ∧ i ∈ h.eng.fpStates ∧
        fget h .east KEY_BIND_ID_VALID i = 1 ∧ fget h .east KEY_BIND_ID_COLL_ID i = b.collId ∧
        Extended s.dev h 24 (sha384 16 (bindEntry i b)) ∧ EventSet h .east Ev.KEY_BIND_CHANGED ∧ fget h .east KEY_STATUS_RESULT = 0 ∧
        h.keys = s.dev.keys ∧ h.mem = s.dev.mem)) ∧
  (∀ (s : State) (ini : Initiator) (i : Nat), Runs s.dev → Writable s.dev ini (pg .key .east) 0x06C →
    i = fget s.dev .east KEY_BIND_INDEX_INDEX → tabHas s.dev.bindings i = true → (∀ e ∈ s.dev.cat.nss, e.2.coll ≠ i) →
    Completes (.keyUnbind ini) s (fun h =>
      tabGet? h.bindings i = none ∧ (∀ k, k ≠ i → tabGet? h.bindings k = tabGet? s.dev.bindings k) ∧ i ∉ h.eng.fpStates ∧
        fget h .east KEY_BIND_ID_VALID i = 0 ∧ EventSet h .east Ev.KEY_BIND_CHANGED ∧ fget h .east KEY_STATUS_RESULT = 0 ∧
        h.keys = s.dev.keys ∧ h.mem = s.dev.mem))

/-- Docent acts on a custodian-signed request that R416 lets through, notes its counter and answers it; one of another UID or an old
counter is answered PROTOCOL, one whose signature fails CHECK_FAIL, and neither changes anything else (R415 to R417, R420, R447). Unsigned
requests arm, quote, agree and configure (R402, R415, R418). It rests on choices of the model: log entries 140, 143, 144, 145, 239, 240. -/
def Obligations.DocentAnswersRequests : Prop :=
  (∀ (s : State) (r : SignedReq) (slot kind usage coll blob k : Nat) (system : Bool), Runs s.dev → SignedTaken s.dev r → slot < 8192 →
    coll < 4096 → kind < 8 → usage < 8 → dataUsage kind usage = true → keyState s.dev slot = 0 → s.dev.doc.noKeys = false →
    s.dev.doc.importKey = some k →
    Completes (.importKey r slot kind usage system coll blob) s (fun h => h.doc.counter = r.counter ∧
      (∀ j, j ≠ slot → keyValue h j = keyValue s.dev j) ∧
      match Config.keyUnwrap k (keyBytes kind + 8) blob with
      | some v => Answers s.dev h r.entry 1 .done noReply ∧ keyState h slot = 2 ∧ keyKind h slot = kind ∧ keyUsage h slot = usage ∧
          keyColl h slot = coll ∧ keyValue h slot % 2 ^ (8 * keyBytes kind) = v % 2 ^ (8 * keyBytes kind) ∧
          h.doc.imageGen = s.dev.doc.imageGen + 1 ∧ Extended s.dev h 25 r.digest
      | none => Answers s.dev h r.entry 1 .checkFail noReply ∧ keyState h slot = 0 ∧ h.doc.imageGen = s.dev.doc.imageGen)) ∧
  (∀ (s : State) (r : SignedReq) (i : Nat) (e : Word × Word) (uids : List Nat) (b : Binding), Runs s.dev → SignedTaken s.dev r → i < 4096 →
    uids.length ≤ 16 → b = staged { s.dev with doc := { s.dev.doc with stageId := e.1, stageSlots := e.2 } } →
    bindable s.dev i b.mediaSlot 1 0 = true → bindable s.dev i b.fpSlot 4 1 = true → tabGet? s.dev.bindings i = none →
    Completes (.reqBind r i e uids) s (fun h =>
      Answers s.dev h r.entry 2 .done noReply ∧ tabGet? h.bindings i = some b ∧ tabGet? h.doc.peers i = some uids ∧
        h.doc.counter = r.counter ∧ Extended s.dev h 24 (sha384 16 (bindEntry i b)))) ∧
  (∀ (s : State) (r : SignedReq) (i : Nat), Runs s.dev → SignedTaken s.dev r → i < 4096 → tabHas s.dev.bindings i = true →
    (∀ e ∈ s.dev.cat.nss, e.2.coll ≠ i) →
    Completes (.reqUnbind r i) s (fun h =>
      Answers s.dev h r.entry 3 .done noReply ∧ tabGet? h.bindings i = none ∧ tabGet? h.doc.peers i = none ∧ h.doc.counter = r.counter)) ∧
  (∀ (s : State) (r : SignedReq) (slot : Nat), Runs s.dev → SignedTaken s.dev r → slot < 8192 → keyState s.dev slot ≠ 0 →
    boundSlot s.dev slot = false →
    Completes (.reqZeroise r slot) s (fun h =>
      Answers s.dev h r.entry 4 .done noReply ∧ keyState h slot = 0 ∧ keyValue h slot = 0 ∧ h.doc.counter = r.counter ∧
        Extended s.dev h 25 r.digest)) ∧
  (∀ (s : State) (entry mask : Nat), Runs s.dev → firmwareRuns s.dev = true → mask % 2 ^ 10 = 0 → mask < 2 ^ 24 →
    Completes (.armMeasure entry mask) s (fun h =>
      Answers s.dev h entry 5 .done noReply ∧ fget h .east MSR_ARMED_ARMED = (fget s.dev .east MSR_ARMED_ARMED ||| mask >>> 10) ∧
        RegsBut s.dev h [(.msr, 0x0A8)] ∧ h.keys = s.dev.keys)) ∧
  (∀ (s : State) (entry nonce : Nat), Runs s.dev → firmwareRuns s.dev = true →
    Completes (.reqQuote entry nonce) s (fun h =>
      Answers s.dev h entry 6 .done
          (raw 96 (Config.ecdsaSign s.dev.doc.attest (sha384 1568 (nonce % 2 ^ 256 + msrAll s.dev <<< 256)))) ∧
        h.regs = s.dev.regs ∧ h.keys = s.dev.keys)) ∧
  (∀ (s : State) (entry ids : Nat) (p : AgreePurpose), Runs s.dev → firmwareRuns s.dev = true →
    Completes (.peerAgree entry (.start p ids)) s (fun h => ∃ a : Agree, h.doc.agree = some a ∧ a.purpose = p ∧ a.ids = ids ∧
      Answers s.dev h entry 7 .done (agreeSent s.dev a) ∧ h.regs = s.dev.regs ∧ h.keys = s.dev.keys)) ∧
  (∀ (s : State) (entry slot epoch c : Nat) (m : AgreeMsg) (a : Agree), Runs s.dev → firmwareRuns s.dev = true →
    s.dev.doc.agree = some a → m.purpose = .collection c → a.purpose = m.purpose → a.ids = m.ids → m.chainOk = true → m.sigOk = true →
    peerPermitted s.dev m = true → slot < 8192 → c < 4096 → keyState s.dev slot = 0 → s.dev.doc.noKeys = false →
    Completes (.peerAgree entry (.finish m slot epoch)) s (fun h =>
      keyState h slot = 2 ∧ keyKind h slot = 2 ∧ keyUsage h slot = 2 ∧ keyColl h slot = c ∧ h.doc.agree = none ∧
        keyValue h slot % 2 ^ 256 = agreedKey (pget s.dev .east CHP_UID_LO_UID CHP_UID_HI_UID) a m % 2 ^ 256 ∧
        h.doc.imageGen = s.dev.doc.imageGen + 1 ∧ Answers s.dev h entry 7 .done noReply)) ∧
  (∀ (s : State) (r : SignedReq), Runs s.dev → SignedTaken s.dev r →
    Completes (.clearRecorder r) s (fun h =>
      Answers s.dev h r.entry 8 .done noReply ∧ h.arc.circ.length = 1 ∧ h.arc.lostNext = 0 ∧ EventSet h .east Ev.PRV_CLEARED ∧
        h.doc.counter = r.counter ∧ Extended s.dev h 31 r.digest)) ∧
  (∀ (s : State) (r : SignedReq) (custodian : Nat), Runs s.dev → SignedTaken s.dev r → lifecycle s.dev = 1 →
    Completes (.reqLifecycle r 2 custodian) s (fun h =>
      Answers s.dev h r.entry 9 .done noReply ∧ lifecycle h = 2 ∧
        h.doc = { s.dev.doc with counter := r.counter, fused := 2, custodians := [custodian] } ∧ Extended s.dev h 31 r.digest)) ∧
  (∀ (s : State) (r : SignedReq) (digest : Nat), Runs s.dev → SignedTaken s.dev r → s.dev.doc.custodians.length < 8 →
    Completes (.reqCustodian r digest) s (fun h =>
      Answers s.dev h r.entry 10 .done noReply ∧
        h.doc = { s.dev.doc with counter := r.counter, custodians := s.dev.doc.custodians ++ [digest] } ∧
        Extended s.dev h 31 r.digest)) ∧
  (∀ (s : State) (r : SignedReq) (uids : List Nat), Runs s.dev → SignedTaken s.dev r →
    Completes (.reqFederation r uids) s (fun h =>
      Answers s.dev h r.entry 11 .done noReply ∧ h.doc = { s.dev.doc with counter := r.counter, federation := uids } ∧
        h.regs = s.dev.regs)) ∧
  (∀ (s : State) (entry mirrors : Nat) (rings : List Nat), Runs s.dev → firmwareRuns s.dev = true →
    mirrors < 512 →
    (∀ n ∈ rings, fget s.dev (wingOf (n / 1024)) CPU_RING_CFG_ENABLE (n % 1024) = 0) →
    Completes (.reqConfigure entry mirrors rings) s (fun h =>
      if Config.configureAllowed mirrors rings then
        Answers s.dev h entry 12 .done noReply ∧ fget h .east DOC_MIRROR_PAGES = mirrors ∧
          (∀ n ∈ rings, fget h (wingOf (n / 1024)) CPU_RING_CFG_SYSTEM (n % 1024) = 1) ∧
          RegsBut s.dev h [(.doc, 0x048), (.cpu, 0x060)]
      else Answers s.dev h entry 12 .protocol noReply ∧ h.regs = s.dev.regs)) ∧
  (∀ (s : State) (r : SignedReq) (a b c d e f : Nat) (sys : Bool) (w : Word × Word) (l : List Nat), Runs s.dev → firmwareRuns s.dev = true →
    r.uid ≠ pget s.dev .east CHP_UID_LO_UID CHP_UID_HI_UID ∨ r.counter ≤ s.dev.doc.counter ∨ r.sigOk = false →
    ∀ i ∈ [(Instr.importKey r a b c sys d e, 1), (.reqBind r a w l, 2), (.reqUnbind r a, 3), (.reqZeroise r a, 4), (.clearRecorder r, 8),
      (.reqLifecycle r a f, 9), (.reqCustodian r a, 10), (.reqFederation r l, 11)],
    Completes i.1 s (fun h =>
      h = docReply s.dev r.entry i.2
        (if r.uid ≠ pget s.dev .east CHP_UID_LO_UID CHP_UID_HI_UID ∨ r.counter ≤ s.dev.doc.counter then .protocol else .checkFail) noReply))

/-- A descriptor that Docent's queue serves starts its operation, or is answered at once with what it asked for or with its refusal (R433,
R436, R437). Operations that end well leave their words programmed, their sectors erased or closed; one whose pulse does not verify is
captured (R431, R432). STOP ends everything (R434), and its causes assert it (R435). Locking an execute-only region adds it to those
refused (R438). It rests on choices of the model: log entries 130, 131, 137. -/
def Obligations.ArchiveOperates : Prop :=
  (∀ (s : State) (d : Desc), Runs s.dev → arcTurn s.dev 1 = some d → dSystem d = true → acLen d ≠ 0 → acLen d ≤ 2 ^ 20 →
    acOffset d + acLen d ≤ 2 ^ 28 → arcMemory s.dev (acAddr d) (acLen d) = true → inXo s.dev (acOffset d) (acLen d) = false →
    Completes .arcRead s (fun h => ∃ g : Head,
      (acAddr d + acLen d ≤ 2 ^ 19 →
        g = { s.dev with sram := memPut s.dev.sram (acAddr d) (acLen d) (arcBytes s.dev (acOffset d) (acLen d)) }) ∧
      (2 ^ 19 < acAddr d + acLen d → g = memWrite s.dev (acAddr d) (acLen d) (arcBytes s.dev (acOffset d) (acLen d))) ∧
        ArcAnswers g h (dTag d) (dQuiet d) .done (acLen d) 0 ∧ h.mem = g.mem ∧
        fget h .east ARC_QUEUE_PTR_HEAD = (fget s.dev .east ARC_QUEUE_PTR_HEAD + 1) % 64 ∧
        RegsBut s.dev h [(.arc, 0x044), (.arc, 0x04C)] ∧ h.arc.words = s.dev.arc.words)) ∧
  (∀ (s : State) (d : Desc), Runs s.dev → arcTurn s.dev 5 = some d → dSystem d = true → acLen d = 0 →
    Completes .sectorState s (fun h =>
      ArcAnswers s.dev h (dTag d) (dQuiet d) .done 0 (sectorState s.dev (acOffset d / 4096)) ∧
        fget h .east ARC_QUEUE_PTR_HEAD = (fget s.dev .east ARC_QUEUE_PTR_HEAD + 1) % 64 ∧
        RegsBut s.dev h [(.arc, 0x044), (.arc, 0x04C)] ∧ h.mem = s.dev.mem ∧ h.arc.words = s.dev.arc.words)) ∧
  (∀ (s : State) (d : Desc) (o : ArcOp), Runs s.dev → recordDue s.dev = false → fbit s.dev .east ARC_STATUS_STOP = false →
    dSystem d = true → arcAsked s.dev d = some o →
    ∀ i ∈ [(Instr.arcProgram, 2), (.arcErase, 3), (.arcClose, 4)], arcTurn s.dev i.2 = some d →
    Completes i.1 s (fun h =>
      o.job = .queue (dTag d) (dQuiet d) ∧ o.offset = acOffset d ∧ h.arc = { s.dev.arc with op := some o } ∧
        fget h .east ARC_STATUS_BUSY = 1 ∧ fget h .east ARC_STATUS_OFFSET = acOffset d ∧
        fget h .east ARC_QUEUE_PTR_HEAD = (fget s.dev .east ARC_QUEUE_PTR_HEAD + 1) % 64 ∧
        RegsBut s.dev h [(.arc, 0x044), (.arc, 0x054)] ∧ SameButRegs { s.dev with arc := h.arc } h)) ∧
  (∀ (s : State) (d : Desc), Runs s.dev → recordDue s.dev = false → fbit s.dev .east ARC_STATUS_STOP = false → dSystem d = true →
    arcAsked s.dev d = none →
    ∀ i ∈ [(Instr.arcProgram, 2), (.arcErase, 3), (.arcClose, 4)], arcTurn s.dev i.2 = some d →
    Completes i.1 s (fun h =>
      ArcAnswers s.dev h (dTag d) (dQuiet d) .protocol 0 0 ∧ h.arc.op = none ∧ h.arc.words = s.dev.arc.words ∧
        h.arc.sectors = s.dev.arc.sectors ∧ h.mem = s.dev.mem ∧ RegsBut s.dev h [(.arc, 0x044), (.arc, 0x04C)])) ∧
  (∀ (s : State) (e : PulseEnd) (o : ArcOp), Runs s.dev → s.dev.arc.op = some o → fbit s.dev .east ARC_STATUS_STOP = false →
    e.fails = none →
    Completes (.arcOperationEnd e) s (fun h => ∃ g : Head, h = arcNext g ∧ h.arc.words = g.arc.words ∧ h.arc.sectors = g.arc.sectors ∧
      (∀ ws : List Nat, o.work = .program ws →
        (∀ (i v : Nat), ws[i]? = some v →
          arcWord g (o.offset / 32 + i) = (arcWord s.dev (o.offset / 32 + i) &&& v) % 2 ^ 256) ∧
        (∀ n, n < o.offset / 32 ∨ o.offset / 32 + ws.length ≤ n → arcWord g n = arcWord s.dev n) ∧ g.arc.sectors = s.dev.arc.sectors) ∧
      (∀ k : Nat, o.work = .erase k →
        (∀ i, i < k → sectorState g (o.offset / 4096 + i) = 1) ∧
        (∀ n, o.offset / 4096 ≤ n / 128 → n / 128 < o.offset / 4096 + k → arcWord g n = erasedWord) ∧
        (∀ n, n / 128 < o.offset / 4096 ∨ o.offset / 4096 + k ≤ n / 128 → arcWord g n = arcWord s.dev n)) ∧
      (o.work = .close → sectorState g (o.offset / 4096) = 2 ∧ g.arc.words = s.dev.arc.words) ∧
      (∀ (tag : Nat) (quiet : Bool), o.job = .queue tag quiet →
        ArcAnswers s.dev g tag quiet .done (arcDone o none)
          (min e.pulses (if isErase o.work then fget s.dev .east ARC_PULSE_ERASE_MAX else fget s.dev .east ARC_PULSE_PROG_MAX)) ∧
        g.mem = s.dev.mem ∧ g.arc.upd = s.dev.arc.upd ∧
        RegsBut s.dev g [(.arc, 0x044), (.arc, 0x04C), (.arc, 0x054), (.arc, 0x068), (.arc, 0x06C), (.upd, 0x054)]) ∧
      (o.job = .upd → ∀ u, s.dev.arc.upd = some u → (∀ v, updNext u = some v → g.arc.upd = some v) ∧
        (updNext u = none → g.arc.upd = none ∧ EventSet g .east Ev.UPD_WRITE_DONE ∧ fget g .east UPD_STATUS_BUSY = 0)) ∧
      g.keys = s.dev.keys ∧ g.arc.recs = s.dev.arc.recs)) ∧
  (∀ (s : State) (e : PulseEnd) (o : ArcOp) (ws : List Nat) (i tag : Nat) (quiet : Bool), Runs s.dev → s.dev.arc.op = some o →
    fbit s.dev .east ARC_STATUS_STOP = false → o.work = .program ws → e.fails = some i → i < ws.length → o.job = .queue tag quiet →
    o.offset + 32 * i < 2 ^ 28 →
    Completes (.arcOperationEnd e) s (fun h => ∃ g : Head, h = arcNext g ∧ h.arc.words = g.arc.words ∧
      EventSet g .east Ev.ARC_PROG_FAIL ∧ ArcAnswers s.dev g tag quiet .mediaFail (32 * i) (o.offset + 32 * i) ∧
        (fget s.dev .east ARC_FAIL_VALID = 0 → fget g .east ARC_FAIL_VALID = 1 ∧ fget g .east ARC_FAIL_ERASE = 0 ∧
          fget g .east ARC_FAIL_OFFSET = o.offset + 32 * i) ∧
        (∀ (j v : Nat), j < i → ws[j]? = some v →
          arcWord g (o.offset / 32 + j) = (arcWord s.dev (o.offset / 32 + j) &&& v) % 2 ^ 256) ∧ g.mem = s.dev.mem)) ∧
  (∀ (s : State) (verified : Nat), Runs s.dev →
    Completes (.arcStop verified) s (fun h =>
      h.arc.op = none ∧ h.arc.upd = none ∧ fget h .east ARC_STATUS_STOPPED = 1 ∧ EventSet h .east Ev.ARC_STOPPED ∧ arcHead? h = none ∧
        (s.dev.arc.op = none → h.arc.words = s.dev.arc.words ∧ h.arc.sectors = s.dev.arc.sectors) ∧
        (∀ (o : ArcOp) (ws : List Nat), s.dev.arc.op = some o → o.work = .program ws → ∀ (i v : Nat), i < verified → ws[i]? = some v →
          arcWord h (o.offset / 32 + i) = (arcWord s.dev (o.offset / 32 + i) &&& v) % 2 ^ 256) ∧
        h.keys = s.dev.keys ∧ h.arc.recs = s.dev.arc.recs)) ∧
  (∀ s : State, Runs s.dev →
    Completes .brownOutDetect s (fun h =>
      fget h .east ARC_STATUS_BOR = 1 ∧ fget h .east ARC_STATUS_STOP = 1 ∧ RegsBut s.dev h [(.arc, 0x054)] ∧ SameButRegs s.dev h)) ∧
  (∀ s : State, Runs s.dev → fbit s.dev .east ARC_STATUS_BOR = true →
    (∀ d, arcHead? s.dev = some d → 1 ≤ dOpcode d ∧ dOpcode d ≤ 5) →
    (∀ u, s.dev.arc.upd = some u → inXo s.dev (updStep s.dev u).offset 1 = false) →
    Completes .borRelease s (fun h =>
      fget h .east ARC_STATUS_BOR = 0 ∧ fget h .east ARC_STATUS_STOP = ofBool s.dev.arc.grace ∧
        RegsBut s.dev h [(.arc, 0x044), (.arc, 0x054)] ∧ SameButRegs { s.dev with arc := h.arc } h ∧
        h.arc = { s.dev.arc with op := h.arc.op })) ∧
  (∀ (s : State) (ini : Initiator) (r : Nat), Runs s.dev → Writable s.dev ini (pg .arc .east) 0x064 →
    r = fget s.dev .east ARC_XO_INDEX_REGION → fbit s.dev .east ARC_XO_CFG_LOCKED r = false → fget s.dev .east ARC_XO_CFG_SECTORS r ≠ 0 →
    Completes (.xoLock ini) s (fun h =>
      fbit h .east ARC_XO_CFG_LOCKED r = true ∧ (∀ k, k < 8 → k ≠ r → fbit h .east ARC_XO_CFG_LOCKED k = fbit s.dev .east ARC_XO_CFG_LOCKED k) ∧
        (∀ a n, inXo s.dev a n = true → inXo h a n = true) ∧ RegsBut s.dev h [(.arc, 0x064)] ∧ SameButRegs (reply s.dev false) h))

/-- An occurrence becomes a record, a repeat of one that still holds, or a loss (R443, R444). A record that holds no more is programmed in
the next slot of its area, and one whose mark does not verify is written again in the next (R441, R442). The hours go on a word at a time
(R445). CLEAR leaves the circulating area with the clear record alone (R447). It rests on choices of the model: log entries 133, 134, 244.
-/
def Obligations.RecorderKeepsItsOrder : Prop :=
  (∀ (s : State) (ev : Nat) (w : Wing), Runs s.dev → ev < 1024 → Recordable s.dev ev 0 →
    Completes (.prvRecord ev w) s (fun h => ∃ payload : Nat,
      Recorded s.dev h ev 0 payload false ∧
        payload % 2 ^ 32 = (rd s.dev (pageOfEvent ev w) 0x010 0).toNat ∧
        payload / 2 ^ 128 % 2 ^ 64 = pget s.dev w FRM_FRAME_LO_FRAME FRM_FRAME_HI_FRAME ∧
        RegsBut s.dev h [(.prv, 0x010), (.prv, 0x04C)] ∧ h.arc.words = s.dev.arc.words ∧ h.mem = s.dev.mem)) ∧
  (∀ (s : State) (ev : Nat) (w : Wing) (r : RecEntry), Runs s.dev → ev < 1024 → s.dev.arc.recs = [r] → r.hold = true → r.source = ev →
    r.code = 0 →
    Completes (.prvRecord ev w) s (fun h =>
      h.arc = { s.dev.arc with recs := [{ r with rep := min (r.rep + 1) 65535 }] } ∧ SameButRegs { s.dev with arc := h.arc } h ∧
        h.regs = s.dev.regs)) ∧
  (∀ (s : State) (ev : Nat) (w : Wing), Runs s.dev → ev < 1024 → 64 ≤ s.dev.arc.recs.length →
    (∀ r ∈ s.dev.arc.recs, r.hold = true → r.source = ev → r.code = 0 → False) →
    Completes (.prvRecord ev w) s (fun h =>
      h.arc = { s.dev.arc with lostNext := min (s.dev.arc.lostNext + 1) 65535 } ∧
        fget h .east PRV_LOST_COUNT = min (fget s.dev .east PRV_LOST_COUNT + 1) (2 ^ 32 - 1) ∧ EventSet h .east Ev.PRV_LOST ∧
        RegsBut s.dev h [(.prv, 0x010), (.prv, 0x050)] ∧ h.mem = s.dev.mem)) ∧
  (∀ (s : State) (ini : Initiator), Runs s.dev → Writable s.dev ini (pg .prv .east) 0x080 → fget s.dev .east PRV_REC_CMD_WRITE = 0 →
    Recordable s.dev (fget s.dev .east PRV_REC_HDR_SOURCE) (fget s.dev .east PRV_REC_HDR_CODE) →
    Completes (.recWrite ini) s (fun h =>
      Recorded s.dev h (fget s.dev .east PRV_REC_HDR_SOURCE) (fget s.dev .east PRV_REC_HDR_CODE) s.dev.arc.recPayload true ∧
        fget h .east PRV_REC_CMD_WRITE = 1 ∧ RegsBut s.dev h [(.prv, 0x010), (.prv, 0x04C), (.prv, 0x080)] ∧
        h.arc.words = s.dev.arc.words ∧ h.mem = s.dev.mem)) ∧
  (∀ (s : State) (seq : Nat), Runs s.dev →
    Completes (.recordHoldExpiry seq) s (fun h =>
      (∀ r ∈ h.arc.recs, r.seq = seq → r.hold = false) ∧ h.arc.recs.map (fun r => { r with hold := false }) =
        s.dev.arc.recs.map (fun r => { r with hold := false }) ∧ h = { s.dev with arc := { s.dev.arc with recs := h.arc.recs } })) ∧
  (∀ (s : State) (r : RecEntry) (l : List RecEntry), Runs s.dev → s.dev.arc.recs = r :: l → r.hold = false → s.dev.arc.op = none →
    fbit s.dev .east ARC_STATUS_STOP = false → s.dev.arc.perm < 4096 → l.length < 64 →
    running s.dev (pg .arc .east) = true →
    (∀ u, s.dev.arc.upd = some u → inXo s.dev (updStep s.dev u).offset 1 = false) →
    Completes (.recordProgram true) s (fun h =>
      h.arc.recs = l ∧ h.arc.perm = s.dev.arc.perm + 1 ∧
        arcWord h (2048 + 2 * s.dev.arc.perm) = (arcWord s.dev (2048 + 2 * s.dev.arc.perm) &&& (recordWords r).1) % 2 ^ 256 ∧
        arcWord h (2049 + 2 * s.dev.arc.perm) = (arcWord s.dev (2049 + 2 * s.dev.arc.perm) &&& (recordWords r).2) % 2 ^ 256 ∧
        (∀ n, n < 2048 + 2 * s.dev.arc.perm ∨ 2049 + 2 * s.dev.arc.perm < n → arcWord h n = arcWord s.dev n) ∧
        fget h .east PRV_NEWEST_SEQ = r.seq % 2 ^ 32 ∧ fget h .east PRV_BUFFER_HELD = l.length ∧
        (r.firmware = true → fget h .east PRV_REC_CMD_WRITE = 0) ∧ h.mem = s.dev.mem)) ∧
  (∀ (s : State) (r : RecEntry) (l : List RecEntry) (c : Nat), Runs s.dev → s.dev.arc.recs = r :: l → r.hold = false →
    s.dev.arc.op = none → fbit s.dev .east ARC_STATUS_STOP = false → 4096 ≤ s.dev.arc.perm → c = s.dev.arc.circNext → c < 4160 →
    running s.dev (pg .arc .east) = true →
    (∀ u, s.dev.arc.upd = some u → inXo s.dev (updStep s.dev u).offset 1 = false) →
    Completes (.recordProgram true) s (fun h =>
      h.arc.recs = l ∧ h.arc.perm = s.dev.arc.perm ∧ h.arc.circNext = (c + 1) % 4160 ∧ tabGet? h.arc.circ c = some r.seq ∧
        (c % 64 ≠ 0 → ∀ k, k ≠ c → tabGet? h.arc.circ k = tabGet? s.dev.arc.circ k) ∧
        (c % 64 = 0 → ∀ k, k ≠ c → k / 64 = c / 64 → tabGet? h.arc.circ k = none) ∧
        arcWord h (0x2800 + 2 * c) = ((if c % 64 = 0 then erasedWord else arcWord s.dev (0x2800 + 2 * c)) &&& (recordWords r).1) % 2 ^ 256 ∧
        fget h .east PRV_NEWEST_SEQ = r.seq % 2 ^ 32 ∧ h.mem = s.dev.mem)) ∧
  (∀ (s : State) (r : RecEntry) (l : List RecEntry), Runs s.dev → s.dev.arc.recs = r :: l → r.hold = false → s.dev.arc.op = none →
    fbit s.dev .east ARC_STATUS_STOP = false → s.dev.arc.perm < 4096 →
    running s.dev (pg .arc .east) = true →
    (∀ u, s.dev.arc.upd = some u → inXo s.dev (updStep s.dev u).offset 1 = false) →
    Completes (.recordProgram false) s (fun h =>
      h.arc.recs = r :: l ∧ h.arc.perm = s.dev.arc.perm + 1 ∧ fget h .east PRV_NEWEST_SEQ = fget s.dev .east PRV_NEWEST_SEQ ∧
        (∀ n, n ≠ 2048 + 2 * s.dev.arc.perm → n ≠ 2049 + 2 * s.dev.arc.perm → arcWord h n = arcWord s.dev n) ∧ h.mem = s.dev.mem)) ∧
  (∀ s : State, Runs s.dev → s.dev.arc.tally < 2 → s.dev.arc.tallyUsed < 127 → arcWord s.dev ((5 + s.dev.arc.tally) * 128) ≠ erasedWord →
    Completes .hourTick s (fun h =>
      h.arc.tallyUsed = s.dev.arc.tallyUsed + 1 ∧ h.arc.tallyBase = s.dev.arc.tallyBase ∧
        fget h .east PRV_HOURS_HOURS = (s.dev.arc.tallyBase + s.dev.arc.tallyUsed + 1) * 256 % 2 ^ 32 ∧
        (∀ n, n ≠ (5 + s.dev.arc.tally) * 128 + 1 + s.dev.arc.tallyUsed → arcWord h n = arcWord s.dev n) ∧
        RegsBut s.dev h [(.arc, 0x068), (.prv, 0x054)] ∧ h.mem = s.dev.mem)) ∧
  (∀ (s : State) (ini : Initiator), Runs s.dev → Writable s.dev ini (pg .prv .east) 0x040 →
    Completes (.prvClear ini) s (fun h =>
      h.arc.recs = [] ∧ h.arc.circ = [(0, s.dev.arc.nextSeq)] ∧ h.arc.circNext = 1 ∧ h.arc.nextSeq = (s.dev.arc.nextSeq + 1) % 2 ^ 32 ∧
        fget h .east PRV_NEWEST_SEQ = s.dev.arc.nextSeq % 2 ^ 32 ∧ fget h .east PRV_OLDEST_SEQ = s.dev.arc.nextSeq % 2 ^ 32 ∧
        (∀ n, 0x2802 ≤ n → n < 0x4880 → arcWord h n = erasedWord) ∧ EventSet h .east Ev.PRV_CLEARED ∧ h.mem = s.dev.mem ∧
        h.keys = s.dev.keys))

/-- A slot write starts for a slot not in force, with no image on trial and a length that fits, and is refused with LIMIT else (R450);
ABORT gives it up (R451). CONFIRM programs the slot's CONFIRMED marker and raises the floor where asked (R453, R454). In RECOVERY bytes
are taken and an image that verifies is run (R455). A watchdog is fed, warns and expires (R456, R457). It rests on choices of the model:
log entries 136, 163, 242. -/
def Obligations.UpdatesAndWatchdogs : Prop :=
  (∀ (s : State) (ini : Initiator) (slot len : Nat), Runs s.dev → Writable s.dev ini (pg .upd .east) 0x040 → slot < 4 →
    fbit s.dev .east UPD_STATUS_BUSY = false → running s.dev (pg .upd .east) = true → len = fget s.dev .east UPD_LENGTH_BYTES →
    (slot = slotInForce s.dev (decide (2 ≤ slot)) → slot < 2 ∧ fbit s.dev .east UPD_STATUS_RECOVERED = true) →
    fbit s.dev .east (if 2 ≤ slot then DOC_STATUS_OS_TRIAL else DOC_STATUS_DOC_TRIAL) = false →
    len ≠ 0 → len % 32 = 0 → len ≤ slotSize slot → inXo s.dev (0x1000 + 0x1000 * slot) 1 = false →
    Completes (.updWrite ini slot) s (fun h =>
      h.arc.upd = some ⟨slot, len, 0, 0, false, nextGen s.dev slot⟩ ∧ fget h .east UPD_STATUS_BUSY = 1 ∧
        fget h .east UPD_CTRL_SLOT = slot ∧ fget h .east UPD_STATUS_SECTORS_LEFT = min ((len + 4095) / 4096) 65535 ∧
        h.arc.words = s.dev.arc.words ∧ h.mem = s.dev.mem ∧
        h.arc.recs = s.dev.arc.recs)) ∧
  (∀ (s : State) (ini : Initiator) (slot len : Nat), Runs s.dev → Writable s.dev ini (pg .upd .east) 0x040 → slot < 4 →
    fbit s.dev .east UPD_STATUS_BUSY = false → running s.dev (pg .upd .east) = true → len = fget s.dev .east UPD_LENGTH_BYTES →
    (slot = slotInForce s.dev (decide (2 ≤ slot)) ∧ (2 ≤ slot ∨ fbit s.dev .east UPD_STATUS_RECOVERED = false)) ∨
      fbit s.dev .east (if 2 ≤ slot then DOC_STATUS_OS_TRIAL else DOC_STATUS_DOC_TRIAL) = true ∨ len = 0 ∨ len % 32 ≠ 0 ∨
      slotSize slot < len →
    Completes (.updWrite ini slot) s (fun h =>
      fget h .east UPD_STATUS_RESULT = statusCode .limit ∧ fget h .east UPD_STATUS_BUSY = 0 ∧ RegsBut s.dev h [(.upd, 0x040), (.upd, 0x050)] ∧
        SameButRegs (reply s.dev false) h)) ∧
  (∀ (s : State) (ini : Initiator) (u : UpdWrite), Runs s.dev → Writable s.dev ini (pg .upd .east) 0x040 → s.dev.arc.upd = some u →
    (∀ o, s.dev.arc.op = some o → o.job ≠ .upd) →
    Completes (.updAbort ini) s (fun h =>
      h.arc = { s.dev.arc with upd := none } ∧ fget h .east UPD_STATUS_BUSY = 0 ∧ fget h .east UPD_STATUS_RESULT = statusCode .aborted ∧
        (u.request = false → h.mem = s.dev.mem) ∧ RegsBut s.dev h [(.upd, 0x050)])) ∧
  (∀ (s : State) (os : Bool) (f slot : Nat), Runs s.dev → firmwareRuns s.dev = true → fbit s.dev .east UPD_STATUS_BUSY = false →
    fbit s.dev .east (if os then DOC_STATUS_OS_TRIAL else DOC_STATUS_DOC_TRIAL) = false →
    f = memRead s.dev (stageAddr s.dev + 4) 4 → f ≠ 0 → f % 32 = 0 → f ≤ (if os then 0x4000000 else 0x100000) →
    slot = (if os then 3 - fget s.dev .east DOC_STATUS_OS_SLOT else 1 - fget s.dev .east DOC_STATUS_DOC_SLOT) →
    inXo s.dev (0x1000 + 0x1000 * slot) 1 = false →
    Completes (if os then .writeOs else .writeDocent) s (fun h =>
      h.arc.upd = some ⟨slot, f, 0, 0, true, nextGen s.dev slot⟩ ∧ fget h .east UPD_STATUS_BUSY = 1 ∧
        h.arc.words = s.dev.arc.words ∧ h.mem = s.dev.mem)) ∧
  (∀ (s : State) (u : UpdWrite), Runs s.dev → firmwareRuns s.dev = true → s.dev.arc.upd = some u →
    Completes .updReqAbort s (fun h =>
      h.arc = { s.dev.arc with upd := none } ∧ fget h .east UPD_STATUS_RESULT = statusCode .aborted ∧
        h.mem = memPut (if u.request then memPut s.dev.mem (stageAddr s.dev + 1) 1 (statusCode .aborted) else s.dev.mem)
          (stageAddr s.dev + 1) 1 (statusCode .done) ∧ RegsBut s.dev h [(.upd, 0x050)])) ∧
  (∀ (s : State) (ini : Initiator) (os up : Bool) (k : Nat), Runs s.dev → Writable s.dev ini (pg .upd .east) 0x058 →
    fbit s.dev .east (if os then DOC_STATUS_OS_TRIAL else DOC_STATUS_DOC_TRIAL) = true → k = controlWord (slotInForce s.dev os) 2 →
    Completes (if os then .updConfirmOs ini up else .updConfirmDoc ini up) s (fun h =>
      fbit h .east (if os then DOC_STATUS_OS_TRIAL else DOC_STATUS_DOC_TRIAL) = false ∧
        arcWord h k = (arcWord s.dev k &&& marker (slotMagic 2) 0) % 2 ^ 256 ∧ EventSet h .east Ev.UPD_CONFIRMED ∧
        floorAt h os = (if up then max (floorAt s.dev os)
          (min 40 (fget s.dev .east (if os then UPD_SVN_OS_SVN else UPD_SVN_DOC_SVN))) else floorAt s.dev os) ∧
        floorAt h (!os) = floorAt s.dev (!os) ∧
        (fbit s.dev .east (if os then DOC_STATUS_DOC_TRIAL else DOC_STATUS_OS_TRIAL) = false → h.arc.trial = false) ∧
        h.mem = s.dev.mem ∧ h.arc.recs = s.dev.arc.recs)) ∧
  (∀ s : State, Runs s.dev → firmwareRuns s.dev = true → fbit s.dev .east DOC_STATUS_OS_TRIAL = true →
    Completes .confirmOs s (fun h =>
      fbit h .east DOC_STATUS_OS_TRIAL = false ∧ EventSet h .east Ev.UPD_CONFIRMED ∧
        h.mem = memPut s.dev.mem (stageAddr s.dev + 1) 1 (statusCode .done))) ∧
  (∀ (s : State) (off len data : Nat), Runs s.dev → fget s.dev .east DOC_STATUS_STAGE = 3 → len ≤ 1024 → off + len ≤ 2 ^ 19 →
    Completes (.recoveryWrite off len data) s (fun h => h = { s.dev with sram := memPut s.dev.sram off len data })) ∧
  (∀ s : State, Runs s.dev → fget s.dev .east DOC_STATUS_STAGE = 3 →
    Completes .recoveryStatus s (fun h =>
      h = { s.dev with out := s.dev.out ++ [.recovery 3 (fget s.dev .east UPD_STATUS_RECOVERED)] })) ∧
  (∀ (s : State) (len : Nat), Runs s.dev → fget s.dev .east DOC_STATUS_STAGE = 3 → len ≤ 448 * 1024 →
    Completes (.recoveryRun len) s (fun h => if (imageFault s.dev false len (memNum s.dev.sram 0 len)).isSome then h = s.dev else ∃ g : Head,
      fget g .east UPD_STATUS_RECOVERED = 1 ∧ EventSet g .east Ev.UPD_RECOVERED ∧ fget g .east DOC_STATUS_FALLBACK = 1 ∧
        fget g .east UPD_SVN_DOC_SVN = min 65535 (Config.imageSvn false len (memNum s.dev.sram 0 len)) ∧
        RegsBut s.dev g [(.upd, 0x010), (.upd, 0x050), (.upd, 0x060), (.doc, 0x044)] ∧ SameButRegs s.dev g ∧
        h = bootFirmware (msrExtend g 2 (sha384 len (memNum s.dev.sram 0 len))))) ∧
  (∀ (s : State) (len : Nat), Runs s.dev → 448 * 1024 < len →
    Completes (.recoveryRun len) s (fun h => h = s.dev)) ∧
  (∀ (s : State) (ini : Initiator) (bits : Nat), Runs s.dev → Writable s.dev ini (pg .wdg .east) 0x048 →
    Completes (.wdgFeed ini bits) s (fun h =>
      (∀ n, n < 3 → fget h .east WDG_LEFT_MICROS n =
        if bits.testBit n then 1000 * fget s.dev .east WDG_CFG_TIMEOUT_MS n else fget s.dev .east WDG_LEFT_MICROS n) ∧
        RegsBut s.dev h [(.wdg, 0x04C)] ∧ SameButRegs (reply s.dev false) h)) ∧
  (∀ (s : State) (n : Nat), Runs s.dev → n < 3 → fbit s.dev .east WDG_CFG_ENABLE n = true →
    Completes (.wdgWarn n) s (fun h =>
      EventSet h .east (wdgWarnEv n) ∧ fget h .east WDG_LEFT_MICROS n = 500 * fget s.dev .east WDG_CFG_TIMEOUT_MS n ∧
        RegsBut s.dev h [(.wdg, 0x010), (.wdg, 0x04C)] ∧ SameButRegs s.dev h)) ∧
  (∀ (s : State) (n : Nat), Runs s.dev → n < 3 → fbit s.dev .east WDG_CFG_ENABLE n = true →
    Completes (.wdgExpiry n) s (fun h =>
      EventSet h .east (wdgExpired n) ∧ fget h .east WDG_LEFT_MICROS n = 0 ∧
        fget h .east WDG_EXPIRED_COUNT = min (fget s.dev .east WDG_EXPIRED_COUNT + 1) (2 ^ 32 - 1) ∧
        (fbit s.dev .east WDG_CFG_RESET n = true → h.arc = { s.dev.arc with grace := true } ∧ fget h .east ARC_STATUS_STOP = 1) ∧
        (fbit s.dev .east WDG_CFG_RESET n = false → h.arc = s.dev.arc) ∧
        RegsBut s.dev h [(.wdg, 0x010), (.wdg, 0x04C), (.wdg, 0x054), (.arc, 0x054)] ∧ h.mem = s.dev.mem))

/-- A quiesced island descends as RUNG.REQUEST asks, a request of 0 wakes it, and a request in an island that is not quiesced is refused
(R467, R470, R471). Entries and exits end where they were to (R467, R469 to R471). Idle engine units and waiting cores descend (R468,
R469), and Signal detect wakes a Foyer port (R470). It rests on choices of the model: log entry 152. -/
def Obligations.IslandsEnterAndLeaveRungs : Prop :=
  (∀ (s : State) (ini : Initiator) (p : Page) (v : Nat), Runs s.dev → Writable s.dev ini p 0x030 → 0 < v → v < 8 →
    rungPermitted p.block v = true → pageNum p ∉ s.dev.pwr.exits → tabGet? s.dev.pwr.entries (pageNum p) = none →
    hget s.dev p STATUS_QUIESCED = 1 → hget s.dev p RUNG_CURRENT < v →
    Completes (.rungRequest ini p v) s (fun h =>
      h.pwr = { s.dev.pwr with entries := tabPut s.dev.pwr.entries (pageNum p) (v, 0) } ∧ hget h p RUNG_REQUEST = v ∧
        hget h p RUNG_IN_TRANSIT = 1 ∧ hget h p RUNG_CURRENT = hget s.dev p RUNG_CURRENT ∧ RegsBut s.dev h [(p.block, 0x030)] ∧
        SameButRegs { reply s.dev false with pwr := h.pwr } h)) ∧
  (∀ (s : State) (ini : Initiator) (p : Page), Runs s.dev → Writable s.dev ini p 0x030 → Sleeps s.dev p →
    Completes (.rungRequest ini p 0) s (fun h =>
      Wakes s.dev h p (if sourceCode ini = 0xFE then 5 else 0) ∧ hget h p RUNG_REQUEST = 0 ∧ RegsBut s.dev h [(p.block, 0x030)] ∧
        SameButRegs { reply s.dev false with pwr := h.pwr } h)) ∧
  (∀ (s : State) (ini : Initiator) (p : Page) (v : Nat), Runs s.dev → Writable s.dev ini p 0x030 → 0 < v → v < 8 →
    rungPermitted p.block v = true → pageNum p ∉ s.dev.pwr.exits → hget s.dev p STATUS_QUIESCED = 0 →
    Completes (.rungRequest ini p v) s (fun h => h.pwr = s.dev.pwr ∧ hget h p RUNG_REQUEST = hget s.dev p RUNG_REQUEST ∧
      hget h p RUNG_CURRENT = hget s.dev p RUNG_CURRENT ∧ SameButRegs (reply s.dev false) h)) ∧
  (∀ (s : State) (p : Page) (r : Nat), Runs s.dev → pageOk p = true → tabGet? s.dev.pwr.entries (pageNum p) = some (r, 0) → 0 < r → r < 4 →
    hget s.dev p RUNG_REQUEST ≤ r →
    Completes (.rungEntryDone (.page p)) s (fun h =>
      hget h p RUNG_CURRENT = r ∧ hget h p RUNG_IN_TRANSIT = 0 ∧ tabGet? h.pwr.entries (pageNum p) = none ∧
        h.pwr = { s.dev.pwr with entries := h.pwr.entries } ∧ RegsBut s.dev h [(p.block, 0x00C), (p.block, 0x030)] ∧
        SameButRegs { s.dev with pwr := h.pwr } h)) ∧
  (∀ (s : State) (p : Page), Runs s.dev → pageOk p = true → tabGet? s.dev.pwr.entries (pageNum p) = some (4, 0) →
    rungPermitted p.block 4 = true → hget s.dev p RUNG_REQUEST ≤ 4 →
    Completes (.rungEntryDone (.page p)) s (fun h => ∃ g : Head,
      g = blockBody (linkDark { s.dev with pwr := { s.dev.pwr with entries := tabDel s.dev.pwr.entries (pageNum p) } } p) p ∧
        hget h p RUNG_CURRENT = 4 ∧ hget h p RUNG_IN_TRANSIT = 0 ∧ RegsBut g h [(p.block, 0x00C), (p.block, 0x030)] ∧
        SameButRegs g h)) ∧
  (∀ (s : State) (p : Page) (r c : Nat), Runs s.dev → pageOk p = true → tabGet? s.dev.pwr.entries (pageNum p) = some (r, c) → 0 < c →
    c < 256 → 0 < r → r < 4 →
    Completes (.rungEntryDone (.page p)) s (fun h =>
      hget h p RUNG_CURRENT = r ∧ hget h p RUNG_IN_TRANSIT = 1 ∧ hget h p RUNG_CAUSE = c ∧ h.pwr.exits = s.dev.pwr.exits ++ [pageNum p] ∧
        tabGet? h.pwr.entries (pageNum p) = none)) ∧
  (∀ (s : State) (n r : Nat), Runs s.dev → n < 52 → tabGet? s.dev.pwr.entries (coreIsland n) = some (r, 0) → r < 5 →
    Completes (.rungEntryDone (.core n)) s (fun h =>
      coreRung h n = r ∧ fget h (hartWing n) PWR_CORE_RUNG_IN_TRANSIT (hartCore n) = 0 ∧
        tabGet? h.pwr.entries (coreIsland n) = none ∧ (∀ k, k < 52 → k ≠ n → coreRung h k = coreRung s.dev k) ∧ h.core = s.dev.core ∧
        h.out = s.dev.out)) ∧
  (∀ (s : State) (p : Page), Runs s.dev → pageOk p = true → pageNum p ∈ s.dev.pwr.exits → hget s.dev p RUNG_CURRENT ≠ 4 →
    tabHas s.dev.pwr.requests (pageNum p) = false →
    Completes (.rungExitDone (.page p)) s (fun h =>
      hget h p RUNG_CURRENT = 0 ∧ hget h p RUNG_IN_TRANSIT = 0 ∧ hget h p RUNG_REQUEST = 0 ∧
        hget h p RUNG_CAUSE = hget s.dev p RUNG_CAUSE ∧ pageNum p ∉ h.pwr.exits ∧ RegsBut s.dev h [(p.block, 0x00C), (p.block, 0x030)] ∧
        SameButRegs { s.dev with pwr := h.pwr } h)) ∧
  (∀ (s : State) (p : Page), Runs s.dev → pageOk p = true → pageNum p ∈ s.dev.pwr.exits → hget s.dev p RUNG_CURRENT = 4 →
    rungPermitted p.block 4 = true → tabHas s.dev.pwr.requests (pageNum p) = false →
    Completes (.rungExitDone (.page p)) s (fun h =>
      hget h p RUNG_CURRENT = 0 ∧ hget h p STATUS_QUIESCED = 1 ∧ hget h p CTRL_QUIESCE = 1 ∧ hget h p STATUS_RUNNING = 0 ∧
        hget h p RUNG_CAUSE = hget s.dev p RUNG_CAUSE ∧ pageNum p ∉ h.pwr.exits ∧ h.mem = s.dev.mem ∧ h.out = s.dev.out)) ∧
  (∀ (s : State) (n : Nat), Runs s.dev → n < 52 → coreIsland n ∈ s.dev.pwr.exits → coreRung s.dev n = 3 → tabHas s.dev.core.waits n = true →
    Completes (.rungExitDone (.core n)) s (fun h =>
      coreRung h n = 0 ∧ h.out = s.dev.out ++ [.hartResult n 0] ∧ tabHas h.core.waits n = false ∧ coreIsland n ∉ h.pwr.exits ∧
        h.mem = s.dev.mem)) ∧
  (∀ (s : State) (n : Nat), Runs s.dev → n < 52 → coreIsland n ∈ s.dev.pwr.exits → coreRung s.dev n = 4 →
    Completes (.rungExitDone (.core n)) s (fun h =>
      coreRung h n = 0 ∧ h.out = s.dev.out ++ [.hartStart n (pget s.dev (hartWing n) CPU_START_LO_ADDR CPU_START_HI_ADDR * 4)] ∧
        tabHas h.core.waits n = false ∧ coreIsland n ∉ h.pwr.exits ∧ h.mem = s.dev.mem)) ∧
  (∀ (s : State) (w : Wing) (port : Nat), Runs s.dev → port < 8 → (fget s.dev .east PWR_WAKE_FOY_SIGNAL).testBit port = true →
    Sleeps s.dev (pg .foy w port) →
    Completes (.signalDetect w port) s (fun h =>
      Wakes s.dev h (pg .foy w port) 1 ∧ RegsBut s.dev h [(.foy, 0x030)] ∧ SameButRegs { s.dev with pwr := h.pwr } h)) ∧
  (∀ (s : State) (cls : Block) (w : Wing) (u : Nat), Runs s.dev → isUnitClass cls = true → u < totalUnits cls →
    fget s.dev w (unitState cls) u = 0 → unitBusy s.dev cls w u = false → tabGet s.dev.pwr.units 0 (unitKey cls w u) = 0 →
    Completes (.unitIdleGate cls w u) s (fun h =>
      h = { s.dev with pwr := { s.dev.pwr with units := tabPut s.dev.pwr.units (unitKey cls w u) 1 } })) ∧
  (∀ (s : State) (cls : Block) (w : Wing) (u : Nat), Runs s.dev → isUnitClass cls = true → u < totalUnits cls →
    fget s.dev w (unitState cls) u = 0 → unitBusy s.dev cls w u = false → tabGet s.dev.pwr.units 0 (unitKey cls w u) = 1 →
    fget s.dev w PWR_IDLE_RETAIN_US ≠ 0 →
    Completes (.unitIdleRetain cls w u) s (fun h =>
      h = { s.dev with pwr := { s.dev.pwr with units := tabPut s.dev.pwr.units (unitKey cls w u) 2 } })) ∧
  (∀ (s : State) (ini : Initiator) (w : Wing) (r c n : Nat), Runs s.dev → Writable s.dev ini (pg .pwr w) 0x04C → r = 3 ∨ r = 4 →
    c = fget s.dev w PWR_CORE_INDEX_CORE → c < 26 → n = hartOf w c → coreRung s.dev n < 3 → fbit s.dev w PWR_CORE_RUNG_IN_TRANSIT c = false →
    Completes (.coreRungRequest ini w r) s (fun h =>
      fget h w PWR_CORE_RUNG_REQUEST c = r ∧ coreRung h n = coreRung s.dev n ∧
        (tabHas s.dev.core.waits n = true → tabGet? h.pwr.entries (coreIsland n) = some (r, 0) ∧ fget h w PWR_CORE_RUNG_IN_TRANSIT c = 1) ∧
        (tabHas s.dev.core.waits n = false → h.pwr = s.dev.pwr) ∧ RegsBut s.dev h [(.pwr, 0x04C)] ∧ h.core = s.dev.core ∧
        h.mem = s.dev.mem)) ∧
  (∀ (s : State) (ini : Initiator) (w : Wing) (c n : Nat), Runs s.dev → Writable s.dev ini (pg .pwr w) 0x04C →
    c = fget s.dev w PWR_CORE_INDEX_CORE → c < 26 → n = hartOf w c → 3 ≤ coreRung s.dev n → coreIsland n ∉ s.dev.pwr.exits →
    tabGet? s.dev.pwr.entries (coreIsland n) = none →
    Completes (.coreRungRequest ini w 0) s (fun h =>
      fget h w PWR_CORE_RUNG_REQUEST c = 0 ∧ h.pwr.exits = s.dev.pwr.exits ++ [coreIsland n] ∧ fget h w PWR_CORE_RUNG_IN_TRANSIT c = 1 ∧
        fget h w PWR_CORE_RUNG_CAUSE c = (if sourceCode ini = 0xFE then 32 else 1) ∧ RegsBut s.dev h [(.pwr, 0x04C)] ∧
        h.core = s.dev.core))

/-- SERVE wakes the islands and STANDBY, where nothing is served or pair dirty, starts; each mode is shown with its event once its command
is done, Standby with the ACTIVE cores at rung 4 (R472, R473, R480). A sag raises the supply, and then lowers operating points down to
FLOOR; recovery goes back the same way (R474 to R476). A sample shows the temperatures, raises THERMAL at WARN_C, and at 125 °C holds the
chip; above THROTTLE_C each step lowers operating points (R478, R479). It rests on choices of the model: log entries 153, 154, 155, 245. -/
def Obligations.ModesSagAndHeat : Prop :=
  (∀ (s : State) (ini : Initiator), Runs s.dev → Writable s.dev ini (pg .pwr .east) 0x040 → chipMode s.dev = 0 →
    fbit s.dev .east PWR_MODE_IN_TRANSIT = false →
    Completes (.pwrServe ini) s (fun h =>
      chipMode h = 0 ∧ fbit h .east PWR_MODE_IN_TRANSIT = true ∧ h.pwr.toServing = some true ∧
        (∀ p ∈ islands, Sleeps s.dev p → pageNum p ∈ h.pwr.exits ∧ hget h p RUNG_IN_TRANSIT = 1 ∧ hget h p RUNG_CAUSE = 16) ∧
        h.mem = s.dev.mem ∧ h.out = s.dev.out)) ∧
  (∀ s : State, Runs s.dev → s.dev.pwr.toServing = some true →
    Completes .serveDone s (fun h =>
      chipMode h = 1 ∧ fbit h .east PWR_MODE_IN_TRANSIT = false ∧ h.pwr.toServing = none ∧ EventSet h .east Ev.PWR_MODE ∧
        h.doc.heldE = false ∧ h.doc.heldW = false)) ∧
  (∀ (s : State) (ini : Initiator), Runs s.dev → Writable s.dev ini (pg .pwr .east) 0x040 → chipMode s.dev = 1 →
    fbit s.dev .east PWR_MODE_IN_TRANSIT = false → pairState s.dev = 0 ∨ pairState s.dev = 7 → (∀ e ∈ s.dev.cat.nss, e.2.owned = false) →
    fget s.dev .east VIT_QUOTA_NOW_PAIR_DIRTY_MIB = 0 →
    Completes (.pwrStandby ini) s (fun h =>
      chipMode h = 1 ∧ fbit h .east PWR_MODE_IN_TRANSIT = true ∧ h.pwr = { s.dev.pwr with toServing := some false } ∧
        RegsBut s.dev h [(.pwr, 0x040)] ∧ SameButRegs { reply s.dev false with pwr := h.pwr } h)) ∧
  (∀ s : State, Runs s.dev → s.dev.pwr.toServing = some false →
    Completes .standbyDone s (fun h => ∃ g : Head,
      (∀ n, n < 52 → coreState s.dev (hartWing n) (hartCore n) = 0 → coreRung g n = 4 ∧ coreIsland n ∉ g.pwr.exits ∧
        tabHas g.core.waits n = true) ∧
      (∀ n, n < 52 → coreState s.dev (hartWing n) (hartCore n) ≠ 0 → coreRung g n = coreRung s.dev n) ∧
        RegsBut s.dev g [(.cpu, CPU_CORE_STATE_RUNG.off), (.pwr, 0x04C)] ∧
        SameButRegs { s.dev with pwr := g.pwr, core := g.core } g ∧ h = setMode (foldHead g islands darken) 0 ∧ chipMode h = 0 ∧
        fbit h .east PWR_MODE_IN_TRANSIT = false ∧ h.pwr.toServing = none ∧ EventSet h .east Ev.PWR_MODE)) ∧
  (∀ (s : State) (w : Wing) (d : Nat), Runs s.dev → d < 64 →
    Completes (.pwrDroop w d) s (fun h =>
      railLow h w (detectorRail d) = true ∧ (64 * wingNum w + d) ∈ h.pwr.droops ∧
        h = { s.dev with pwr := { s.dev.pwr with droops := h.pwr.droops } })) ∧
  (∀ (s : State) (w : Wing) (d core engMesh : Nat), Runs s.dev → d < 64 →
    Completes (.droopEnd w d core engMesh) s (fun h =>
      (64 * wingNum w + d) ∉ h.pwr.droops ∧ (railLow h w (detectorRail d) = false → sagging h w (detectorRail d) = false) ∧
        (∀ r, r < 3 → r ≠ detectorRail d → sagging h w r = sagging s.dev w r) ∧
        fget h w PWR_STRETCH_CORE_PPM = min core 65535 ∧ fget h w PWR_STRETCH_ENG_MESH_PPM = min engMesh 65535 ∧
        RegsBut s.dev h [(.pwr, 0x060)] ∧ SameButRegs { s.dev with pwr := h.pwr } h)) ∧
  (∀ (s : State) (w : Wing) (r : Nat), Runs s.dev → r < 3 → sagging s.dev w r = false → railLow s.dev w r = true →
    Completes (.pwrSag w r) s (fun h =>
      sagging h w r = true ∧ EventSet h w Ev.PWR_SAG ∧ fget h w PWR_CNT_SAG_COUNT = min (fget s.dev w PWR_CNT_SAG_COUNT + 1) (2 ^ 32 - 1) ∧
        (fbit s.dev w PWR_DROOP_AVS_EN = true → fget h w (railOpp r) = fget s.dev w (railOpp r)) ∧
        (fbit s.dev w PWR_DROOP_AVS_EN = true → avsNow s.dev w r < fget s.dev w PWR_AVS_MAX_MV →
          avsNow h w r = min (fget s.dev w PWR_AVS_MAX_MV) (avsNow s.dev w r + fget s.dev w PWR_AVS_STEP_MV)) ∧
        (fbit s.dev w PWR_DROOP_AVS_EN = false → avsNow h w r = avsNow s.dev w r ∧
          (fbit s.dev w PWR_DROOP_OPP_EN = true → fget s.dev w (railOpp r) < fget s.dev w PWR_OPP_FLOOR →
            fget h w (railOpp r) = fget s.dev w (railOpp r) + 1)) ∧
        RegsBut s.dev h [(.pwr, 0x010), (.pwr, 0x05C), (.pwr, 0x06C)] ∧ SameButRegs { s.dev with pwr := h.pwr } h)) ∧
  (∀ (s : State) (w : Wing) (r : Nat), Runs s.dev → r < 3 → sagging s.dev w r = true →
    Completes (.avsWindow w r) s (fun h =>
      (fbit s.dev w PWR_DROOP_AVS_EN = true → avsNow s.dev w r < fget s.dev w PWR_AVS_MAX_MV →
        avsNow h w r = min (fget s.dev w PWR_AVS_MAX_MV) (avsNow s.dev w r + fget s.dev w PWR_AVS_STEP_MV) ∧ h.regs = s.dev.regs) ∧
      (fbit s.dev w PWR_DROOP_AVS_EN = false ∨ fget s.dev w PWR_AVS_MAX_MV ≤ avsNow s.dev w r → h.pwr = s.dev.pwr ∧
        fget h w (railOpp r) = (if fbit s.dev w PWR_DROOP_OPP_EN = true ∧ fget s.dev w (railOpp r) < fget s.dev w PWR_OPP_FLOOR then
          fget s.dev w (railOpp r) + 1 else fget s.dev w (railOpp r)) ∧ RegsBut s.dev h [(.pwr, 0x05C)]) ∧
      SameButRegs { s.dev with pwr := h.pwr } h)) ∧
  (∀ (s : State) (w : Wing) (r : Nat), Runs s.dev → r < 3 → railLow s.dev w r = false →
    Completes (.droopRecover w r) s (fun h =>
      (fget s.dev w (railOpp r) = 0 → avsNow h w r = avsNow s.dev w r - fget s.dev w PWR_AVS_STEP_MV ∧ h.regs = s.dev.regs) ∧
      (0 < fget s.dev w (railOpp r) → h.pwr = s.dev.pwr ∧ fget h w (railOpp r) =
        (if r < 2 ∧ warm s.dev w 1 = true then fget s.dev w (railOpp r) else fget s.dev w (railOpp r) - 1)) ∧
      RegsBut s.dev h [(.pwr, 0x05C)] ∧ SameButRegs { s.dev with pwr := h.pwr } h)) ∧
  (∀ (s : State) (w : Wing) (die hbm : Int) (sensor : Nat), Runs s.dev → -128 ≤ die → die ≤ 127 → -128 ≤ hbm → hbm ≤ 127 → sensor < 32 →
    Completes (.tempSample w die hbm sensor) s (fun h =>
      dieTemp h w = die ∧ hbmTemp h w = hbm ∧ fget h w PWR_TEMP_SENSOR = sensor ∧
        (((fget s.dev w PWR_THERM_WARN_C : Nat) : Int) < die → warm s.dev w 0 = false → EventSet h w Ev.PWR_THERMAL) ∧
        (125 ≤ die → h.pwr.hold = .reset ∧ h.pwr.thermTrip = true) ∧ h.mem = s.dev.mem ∧ h.out = s.dev.out)) ∧
  (∀ (s : State) (w : Wing), Runs s.dev → ((fget s.dev w PWR_THERM_THROTTLE_C : Nat) : Int) < hotDie s.dev →
    Completes (.thermalThrottleStep w) s (fun h =>
      EventSet h w Ev.PWR_THERMAL ∧
        (∀ r, r < 2 → fget h w (railOpp r) = if fget s.dev w (railOpp r) < fget s.dev w PWR_OPP_FLOOR then fget s.dev w (railOpp r) + 1
          else fget s.dev w (railOpp r)) ∧ fget h w PWR_OPP_MESH = fget s.dev w PWR_OPP_MESH ∧
        RegsBut s.dev h [(.pwr, 0x010), (.pwr, 0x05C)] ∧ SameButRegs s.dev h))

/-- A sample in the closed loop shows its four codes and leaves the duties of the control program, within D_MIN and D_MAX; a missing
conversion counts as late (R489 to R492, R494). At its reload a phase takes the duty pending, or refuses a rising command and latches a
fault; the current limit only ends the pulse of the side that the current's sign names (R484 to R487). The mode asked for waits for the
next sample, in OPEN GO commits the duties, and CLEAR_FAULT clears what does not persist (R488, R493, R511). It rests on choices of the
model: log entries 156, 246. -/
def Obligations.SamplesSetDuties : Prop :=
  (∀ (s : State) (v k a b carrier vb vk : Nat), Runs s.dev → s.dev.rsv.due = none → [1, 2, 3, 6].contains (rsvMode s.dev) = true →
    vb = v % 4096 → vk = k % 4096 → vk ≤ 3100 →
    fget (takeSample s.dev (some vb) (some vk) (some (a % 4096)) (some (b % 4096))) .east RSV_STATUS_FROZEN = 0 →
    Completes (.rsvSample (some v) (some k) (some a) (some b) carrier) s (fun h => ∃ p : Program,
      p = controlProgram s.dev vb vk (((a % 4096 : Nat) : Int) - 2048 - ripple s.dev (carrier % 12800 / 400) vk)
        (((b % 4096 : Nat) : Int) - 2048 - ripple s.dev (carrier % 12800 / 400 + 16) vk) ∧
      fget h .east RSV_DUTY_A = p.dA ∧ fget h .east RSV_DUTY_B = p.dB ∧ h.rsv.iv = p.iv ∧ h.rsv.iiA = p.iiA ∧ h.rsv.iiB = p.iiB ∧
        h.rsv.iref = p.iref ∧ fget h .east RSV_ADC_V_VBUS = vb ∧ fget h .east RSV_ADC_V_VBANK = vk ∧
        fget h .east RSV_ADC_I_IA = a % 4096 ∧ fget h .east RSV_ADC_I_IB = b % 4096 ∧ fget h .east RSV_STATUS_STALE = 0 ∧
        fget h .east RSV_CNT_LATE_COUNT = fget s.dev .east RSV_CNT_LATE_COUNT ∧
        (fget s.dev .east RSV_DUTY_LIM_D_MIN ≤ fget s.dev .east RSV_DUTY_LIM_D_MAX →
          fget s.dev .east RSV_DUTY_LIM_D_MIN ≤ fget h .east RSV_DUTY_A ∧ fget h .east RSV_DUTY_A ≤ fget s.dev .east RSV_DUTY_LIM_D_MAX) ∧
        SameButRegs { s.dev with rsv := h.rsv, freeCtr := h.freeCtr } h)) ∧
  (∀ (s : State) (v k a b : Option Nat) (carrier : Nat), Runs s.dev → v = none ∨ k = none ∨ a = none ∨ b = none →
    Completes (.rsvSample v k a b carrier) s (fun h =>
      fget h .east RSV_CNT_LATE_COUNT = min (fget s.dev .east RSV_CNT_LATE_COUNT + 1) (2 ^ 32 - 1) ∧ EventSet h .east Ev.RSV_LATE ∧
        h.rsv.good = 0 ∧ SameButRegs { s.dev with rsv := h.rsv, freeCtr := h.freeCtr } h)) ∧
  (∀ (s : State) (b : Bool), Runs s.dev → phaseOff s.dev b = false →
    Completes (.carrierReload b false) s (fun h =>
      (∀ d, (if b then s.dev.rsv.pendB else s.dev.rsv.pendA) = some (d, false) → (if b then h.rsv.actB else h.rsv.actA) = d) ∧
      ((∀ d, (if b then s.dev.rsv.pendB else s.dev.rsv.pendA) ≠ some (d, false)) →
        (if b then h.rsv.actB else h.rsv.actA) = (if b then s.dev.rsv.actB else s.dev.rsv.actA)) ∧
      (if b then h.rsv.cutB else h.rsv.cutA) = none ∧ (if b then h.rsv.actA else h.rsv.actB) = (if b then s.dev.rsv.actA else s.dev.rsv.actB) ∧
        h = { s.dev with rsv := h.rsv })) ∧
  (∀ (s : State) (b : Bool), Runs s.dev → phaseOff s.dev b = false →
    Completes (.carrierReload b true) s (fun h =>
      phaseOff h b = true ∧ phaseOff h (!b) = phaseOff s.dev (!b) ∧ (rg h RSV_STATUS_FAULTS).testBit (if b then 1 else 0) = true ∧
        EventSet h .east Ev.RSV_FAULT ∧ h.rsv.actA = s.dev.rsv.actA ∧ h.rsv.actB = s.dev.rsv.actB ∧
        RegsBut s.dev h [(.rsv, 0x010), (.rsv, 0x044)] ∧ SameButRegs { s.dev with rsv := h.rsv } h)) ∧
  (∀ (s : State) (b positive : Bool), Runs s.dev → phaseOff s.dev b = false → (if b then s.dev.rsv.cutB else s.dev.rsv.cutA) = none →
    Completes (.currentTrip b positive) s (fun h =>
      h = { s.dev with rsv := if b then { s.dev.rsv with cutB := some positive } else { s.dev.rsv with cutA := some positive } } ∧
      ∀ n, gates h b n = (if positive then (false, (gates s.dev b n).2) else ((gates s.dev b n).1, false)) ∧
        gates h (!b) n = gates s.dev (!b) n)) ∧
  (∀ (s : State) (ini : Initiator) (v : Nat), Runs s.dev → Writable s.dev ini (pg .rsv .east) 0x040 → v ≤ 4 → (v = 4 → chipMode s.dev = 0) →
    (rsvMode s.dev = 5 → 16 ≤ s.dev.rsv.good) →
    Completes (.rsvModeWrite ini v) s (fun h =>
      fget h .east RSV_CTRL_MODE = v ∧ h.rsv.due = some v ∧ rsvMode h = rsvMode s.dev ∧
        (v ≠ rg s.dev RSV_CTRL_MODE → h.rsv = { s.dev.rsv with due := some v, iv := 0, iiA := 0, iiB := 0 }) ∧
        RegsBut s.dev h [(.rsv, 0x040)] ∧ SameButRegs { reply s.dev false with rsv := h.rsv } h)) ∧
  (∀ (s : State) (ini : Initiator), Runs s.dev → Writable s.dev ini (pg .rsv .east) 0x040 → s.dev.rsv.goodK ≤ 3100 → rsvMode s.dev ≠ 5 →
    Completes (.clearFault ini) s (fun h =>
      rg h RSV_STATUS_FAULTS = 0 ∧ phaseOff h false = false ∧ phaseOff h true = false ∧ rsvMode h = rsvMode s.dev ∧
        RegsBut s.dev h [(.rsv, 0x044)] ∧ SameButRegs (reply s.dev false) h)) ∧
  (∀ (s : State) (ini : Initiator), Runs s.dev → Writable s.dev ini (pg .rsv .east) 0x040 → 3100 < s.dev.rsv.goodK →
    Completes (.clearFault ini) s (fun h =>
      (rg h RSV_STATUS_FAULTS).testBit 3 = true ∧ phaseOff h false = true ∧ phaseOff h true = true ∧ EventSet h .east Ev.RSV_FAULT)) ∧
  (∀ (s : State) (ini : Initiator) (pos : Nat), Runs s.dev → Writable s.dev ini (pg .rsv .east) 0x068 → rsvMode s.dev = 4 →
    phaseOff s.dev false = false → phaseOff s.dev true = false →
    Completes (.rsvCommitGo ini pos) s (fun h =>
      h.rsv = { s.dev.rsv with
        pendA := some (rg s.dev RSV_DUTY_A, decide (toReload pos false < rg s.dev RSV_PWM_SETUP))
        pendB := some (rg s.dev RSV_DUTY_B, decide (toReload pos true < rg s.dev RSV_PWM_SETUP)) } ∧
        RegsBut s.dev h [(.rsv, 0x0B8)] ∧ SameButRegs { reply s.dev false with rsv := h.rsv } h))

/-- A bank test runs from STANDBY for its time and then waits for its samples (R508). LIMP that lasts MAX_MS turns both phases off (R495).
The allowance is what the bank's energy lets the dump write (R507). Mains and bus are followed, and a bus trip puts DISCHARGE in force
(R496, R498). The dump ends with its marker, and the erased vault with fresh keys is ready (R502). It rests on choices of the model: log
entries 157, 158, 159. -/
def Obligations.BankPowerFailureAndDump : Prop :=
  (∀ (s : State) (ini : Initiator), Runs s.dev → Writable s.dev ini (pg .rsv .east) 0x0AC → rsvMode s.dev = 2 → s.dev.rsv.health = none →
    Completes (.healthStart ini) s (fun h =>
      rsvMode h = 6 ∧ fget h .east RSV_HEALTH_BUSY = 1 ∧ fget h .east RSV_HEALTH_RESULT_VALID = 0 ∧
        (∃ t : HealthTest, h.rsv.health = some t ∧ t.n = 0 ∧ t.charge = 0 ∧ t.tail = none) ∧
        RegsBut s.dev h [(.rsv, 0x044), (.rsv, 0x0AC), (.rsv, 0x0B0)] ∧ SameButRegs { reply s.dev false with rsv := h.rsv } h)) ∧
  (∀ (s : State) (ini : Initiator), Runs s.dev → Writable s.dev ini (pg .rsv .east) 0x0AC → rsvMode s.dev ≠ 2 →
    Completes (.healthStart ini) s (fun h =>
      rsvMode h = rsvMode s.dev ∧ h.rsv = s.dev.rsv ∧ EventSet h .east Ev.RSV_CONFIG ∧ SameButRegs (reply s.dev false) h)) ∧
  (∀ (s : State) (t : HealthTest), Runs s.dev → rsvMode s.dev = 6 → s.dev.rsv.health = some t →
    Completes .healthEnd s (fun h =>
      rsvMode h = 2 ∧ h.rsv = { s.dev.rsv with health := some { t with tail := some [] } } ∧ RegsBut s.dev h [(.rsv, 0x044)] ∧
        SameButRegs { s.dev with rsv := h.rsv } h)) ∧
  (∀ s : State, Runs s.dev → rsvMode s.dev = 5 →
    Completes .limpTimeout s (fun h =>
      (rg h RSV_STATUS_FAULTS).testBit 2 = true ∧ phaseOff h false = true ∧ phaseOff h true = true ∧ EventSet h .east Ev.RSV_FAULT ∧
        rsvMode h = 5 ∧ h.rsv = { s.dev.rsv with limpOver := true } ∧ RegsBut s.dev h [(.rsv, 0x010), (.rsv, 0x044)] ∧
        SameButRegs { s.dev with rsv := h.rsv } h)) ∧
  (∀ (s : State) (u t : Nat), Runs s.dev → rg s.dev RSV_ALLOW_CFG_POWER_W ≠ 0 →
    u = (s.dev.rsv.vk * 16) ^ 2 - rg s.dev RSV_BANK_VMIN_MV ^ 2 →
    t = (if s.dev.rsv.vk * 16 ≤ rg s.dev RSV_BANK_VMIN_MV then 0 else bankCap s.dev * u / 2000000) / rg s.dev RSV_ALLOW_CFG_POWER_W →
    Completes .allowanceUpdate s (fun h =>
      fget h .east RSV_ALLOW_TIME_MS = min t 65535 ∧
        fget h .east RSV_ALLOW_MIB = min ((t - rg s.dev RSV_ALLOW_CFG_RESERVE_MS) * rg s.dev RSV_ALLOW_CFG_RATE - 1024) 24576 ∧
        (fget h .east RSV_ALLOW_MIB < fget s.dev .east VIT_QUOTA_NOW_QUOTA_MIB → s.dev.rsv.low = false → EventSet h .east Ev.RSV_BANK_LOW) ∧
        RegsBut s.dev h [(.rsv, 0x010), (.rsv, 0x0A0)] ∧ SameButRegs { s.dev with rsv := h.rsv } h)) ∧
  (∀ (s : State) (ok : Bool), Runs s.dev → fbit s.dev .east RSV_STATUS_MAINS_OK = !ok →
    Completes (if ok then .mainsBack else .mainsLost) s (fun h =>
      fbit h .east RSV_STATUS_MAINS_OK = ok ∧ EventSet h .east (if ok then Ev.RSV_MAINS_BACK else Ev.RSV_MAINS_LOST) ∧
        RegsBut s.dev h [(.rsv, 0x010), (.rsv, 0x044)] ∧ SameButRegs s.dev h)) ∧
  (∀ s : State, Runs s.dev →
    Completes .busTrip s (fun h =>
      fget h .east RSV_STATUS_BUS_TRIPPED = 1 ∧ fget h .east RSV_CNT_TRIP_COUNT = min (fget s.dev .east RSV_CNT_TRIP_COUNT + 1) (2 ^ 32 - 1) ∧
        EventSet h .east Ev.RSV_BUS_TRIP ∧ rsvMode h = (if rsvMode s.dev = 5 then 5 else 3) ∧ h.rsv.due = none ∧ h.rsv.health = none ∧
        (if rsvMode s.dev = 5 then h.rsv.limpDis else h.rsv.tripDis) = true ∧
        RegsBut s.dev h [(.rsv, 0x010), (.rsv, 0x044), (.rsv, 0x0AC), (.rsv, 0x0BC)] ∧ SameButRegs { s.dev with rsv := h.rsv } h)) ∧
  (∀ s : State, Runs s.dev → dumpState s.dev = 1 → s.dev.rsv.dumpAcked + 1 = s.dev.rsv.dumpPanels →
    Completes .dumpDone s (fun h =>
      dumpState h = 2 ∧ EventSet h .east Ev.RSV_DUMP_DONE ∧ h.vit.noRenew = true ∧
      h.cur.dump = s.dev.cur.dump.map (fun d => { d with marked := true }) ∧
        fget h .east RSV_DUMP_TIME_MS = min (2 ^ 32 - 1) ((frmTime s.dev - s.dev.rsv.dumpStart) / 1000000) ∧
        RegsBut s.dev h [(.rsv, 0x010), (.rsv, 0x0A4), (.rsv, 0x0A8)] ∧ h.mem = s.dev.mem ∧ h.keys = s.dev.keys)) ∧
  (∀ (s : State) (ini : Initiator), Runs s.dev → Writable s.dev ini (pg .rsv .east) 0x0A4 →
    Completes (.keyFreshWrite ini) s (fun h =>
      fget h .east RSV_DUMP_KEY_FRESH = 1 ∧
        (s.dev.cur.vault ≠ [] → s.dev.cur.vaultErase = [] → s.dev.cur.vaultListed = true → fbit s.dev .east CUR_VAULT_READY = false →
          fbit h .east CUR_VAULT_READY = true ∧ EventSet h .east Ev.CUR_VAULT_READY) ∧
        (s.dev.cur.vault = [] ∨ s.dev.cur.vaultErase ≠ [] ∨ s.dev.cur.vaultListed = false →
          fget h .east CUR_VAULT_READY = fget s.dev .east CUR_VAULT_READY) ∧ SameButRegs (reply s.dev false) h))

/-- A power-on reset holds the chip with its memory lost and its permanent content kept; the reset ball and a brown-out hold it too, with
Vitrine's pair-dirty content where the rails stayed (R81, R177, R528, R529); a release boots it (R398, R528), and so does a reset from
within: a watchdog's grace, a trial's end, the mains back after the dump (R453, R457, R504). Without rails nothing runs (R530). It rests
on choices of the model: log entries 11, 149, 161, 162, 248. -/
def Obligations.ResetsHoldAndBoot : Prop :=
  (∀ s : State, Completes .powerOn s (fun h =>
    h.pwr.hold = .reset ∧ h.pwr.thermTrip = false ∧ h.mem = [] ∧ h.sram = [] ∧ h.keys = [] ∧ h.vit.slots = [] ∧ h.doc.booted = false ∧
      (rd h (pg .chp .east) 0x068 0).toNat = 1 ∧ chipMode h = 0 ∧ h.cat.flash = s.dev.cat.flash ∧ h.cur.dump = s.dev.cur.dump ∧
      h.bridges = s.dev.bridges ∧ h.doc.custodians = s.dev.doc.custodians ∧ h.arc.op = none ∧ h.evq = [])) ∧
  (∀ (s : State) (stayed brown : Bool), s.dev.pwr.hold = .running →
    Completes (if brown then .railBrownOut stayed else .resetAssert stayed) s (fun h =>
      h.pwr.hold = .reset ∧ (rd h (pg .chp .east) 0x068 0).toNat.testBit (if brown then 4 else 1) = true ∧
        h.vit.slots = (if stayed then (s.dev.vit.slots.filter (fun x => isPairDirty x.st)).map (fun x => { x with retained := true })
          else []) ∧ h.doc.booted = false ∧
        h.cat.flash = s.dev.cat.flash ∧ h.cur.dump = s.dev.cur.dump ∧ h.bridges = s.dev.bridges ∧ h.arc.op = none ∧ h.keys = [])) ∧
  (∀ (s : State) (stayed brown : Bool), s.dev.pwr.hold = .reset → (rd s.dev (pg .chp .east) 0x068 0).toNat ≠ 1 →
    Completes (if brown then .railBrownOut stayed else .resetAssert stayed) s (fun h =>
      h.pwr.hold = .reset ∧ (rd h (pg .chp .east) 0x068 0).toNat = (rd s.dev (pg .chp .east) 0x068 0).toNat ||| (if brown then 16 else 2) ∧
        (stayed = true → h.vit = s.dev.vit ∧ h.mem = s.dev.mem) ∧ (stayed = false → h.vit.slots = []))) ∧
  (∀ s : State, s.dev.pwr.hold = .reset → s.dev.pwr.thermTrip = false →
    Completes .resetRelease s (fun h => h = boot { s.dev with pwr := { s.dev.pwr with hold := .running } } ∧ h.doc.booted = true)) ∧
  (∀ s : State, s.dev.pwr.hold = .reset → s.dev.pwr.thermTrip = true → Completes .resetRelease s (fun h => h = s.dev)) ∧
  (∀ s : State, Completes .railsRemoved s (fun h =>
    h.pwr.hold = .off ∧ h.evq = [] ∧ h.arc.op = none ∧ h.cat.flash = s.dev.cat.flash ∧ h.bridges = s.dev.bridges)) ∧
  (∀ s : State, s.dev.pwr.hold ≠ .off →
    Completes .crystalStable s (fun h => h = { s.dev with pwr := { s.dev.pwr with crystal := true } })) ∧
  (∀ s : State, Runs s.dev → s.dev.arc.grace = true →
    Completes .wdgGraceExpiry s (fun h =>
      h = boot (chipReset (if fbit s.dev .east ARC_STATUS_BOR then setCause s.dev .brownOut else s.dev) .watchdog true) ∧
        h.doc.booted = true ∧ h.doc.custodians = s.dev.doc.custodians)) ∧
  (∀ s : State, Runs s.dev → s.dev.arc.trial = true →
    Completes .trialExpiry s (fun h => h = boot (chipReset (raise s.dev .east Ev.UPD_TRIAL_EXPIRED) .watchdog true) ∧
      h.doc.booted = true ∧ h.doc.custodians = s.dev.doc.custodians)) ∧
  (∀ s : State, Runs s.dev → dumpState s.dev = 2 ∨ dumpState s.dev = 3 → fbit s.dev .east RSV_STATUS_MAINS_OK = true →
    Completes .dumpRestart s (fun h => h = boot (chipReset s.dev .docent true) ∧ h.doc.booted = true ∧
      h.doc.custodians = s.dev.doc.custodians))
end

