-- ==== Sys2Proof/Laws/Bits.lean ====
section
/-! SUPPORT. Bit fields of a word: a field read after it is put, and after another is put. -/

namespace Sys2Proof.Laws

open Machine

theorem getLsbD_maskOf (hi lo i : Nat) (h : lo ≤ hi) (hi32 : i < 32) :
    (maskOf hi lo).getLsbD i = decide (lo ≤ i ∧ i ≤ hi) := by
  unfold maskOf
  simp only [BitVec.getLsbD_ofNat, hi32, decide_true, Bool.true_and, Nat.testBit_shiftLeft, ge_iff_le, Nat.testBit_two_pow_sub_one]
  by_cases h1 : lo ≤ i
  · simp only [h1, decide_true, Bool.true_and, true_and, decide_eq_decide]; omega
  · simp [h1]

theorem getLsbD_putBits (w : Word) (hi lo v i : Nat) (h : lo ≤ hi) (hi32 : i < 32) :
    (putBits w hi lo v).getLsbD i = if lo ≤ i ∧ i ≤ hi then v.testBit (i - lo) else w.getLsbD i := by
  unfold putBits
  rw [BitVec.getLsbD_or, BitVec.getLsbD_and, BitVec.getLsbD_not, getLsbD_maskOf _ _ _ h hi32, BitVec.getLsbD_ofNat,
    Nat.testBit_shiftLeft, Nat.testBit_mod_two_pow]
  by_cases hr : lo ≤ i ∧ i ≤ hi
  · have h3 : i - lo < hi - lo + 1 := by omega
    simp only [hr, hi32, h3, and_self, decide_true, Bool.not_true, Bool.and_false, Bool.false_or, Bool.true_and, if_true]
  · have h4 : (decide (i ≥ lo) && (decide (i - lo < hi - lo + 1) && v.testBit (i - lo))) = false := by
      by_cases h1 : lo ≤ i
      · have h3 : ¬ (i - lo < hi - lo + 1) := by omega
        simp [h3]
      · simp [h1]
    simp only [h4, hr, hi32, decide_false, decide_true, Bool.not_false, Bool.and_true, Bool.and_false, Bool.or_false,
      if_false]

theorem testBit_bitsOf (w : Word) (hi lo i : Nat) :
    (bitsOf w hi lo).testBit i = (decide (i < hi - lo + 1) && w.getLsbD (lo + i)) := by
  unfold bitsOf
  rw [Nat.testBit_mod_two_pow, Nat.testBit_shiftRight]
  rfl

/-- A field put is read back, cut to its width. -/
theorem bitsOf_putBits_same (w : Word) (hi lo v : Nat) (h : lo ≤ hi) (h32 : hi < 32) :
    bitsOf (putBits w hi lo v) hi lo = v % 2 ^ (hi - lo + 1) := by
  apply Nat.eq_of_testBit_eq
  intro i
  rw [testBit_bitsOf, Nat.testBit_mod_two_pow]
  by_cases hi' : i < hi - lo + 1
  · rw [getLsbD_putBits _ _ _ _ _ h (by omega)]
    have : lo ≤ lo + i ∧ lo + i ≤ hi := by omega
    simp [this, hi']
  · simp [hi']

/-- A field put leaves the fields it does not touch alone. -/
theorem bitsOf_putBits_other (w : Word) (hi lo v a b : Nat) (h : lo ≤ hi) (ha : a < 32) (hba : b ≤ a) (hd : a < lo ∨ hi < b) :
    bitsOf (putBits w hi lo v) a b = bitsOf w a b := by
  apply Nat.eq_of_testBit_eq
  intro i
  rw [testBit_bitsOf, testBit_bitsOf]
  by_cases hi' : i < a - b + 1
  · rw [getLsbD_putBits _ _ _ _ _ h (by omega), if_neg (by omega)]
  · simp [hi']

theorem bitsOf_lt (w : Word) (hi lo : Nat) : bitsOf w hi lo < 2 ^ (hi - lo + 1) := Nat.mod_lt _ (Nat.two_pow_pos _)

end Sys2Proof.Laws
end

