-- ==== Sys2Proof/Laws/State.lean ====
section
/-! SUPPORT. What the named operations over the register file, the events and the messages leave unchanged: one lemma for each field of
the head and each operation. -/

namespace Sys2Proof.Laws

open Machine

/-! ### wr -/

@[simp] theorem wr_pend (h : Head) (p : Page) (off bank : Nat) (v : Word) : (wr h p off bank v).pend = h.pend := rfl
@[simp] theorem wr_hiHold (h : Head) (p : Page) (off bank : Nat) (v : Word) : (wr h p off bank v).hiHold = h.hiHold := rfl
@[simp] theorem wr_hiLatch (h : Head) (p : Page) (off bank : Nat) (v : Word) : (wr h p off bank v).hiLatch = h.hiLatch := rfl
@[simp] theorem wr_evq (h : Head) (p : Page) (off bank : Nat) (v : Word) : (wr h p off bank v).evq = h.evq := rfl
@[simp] theorem wr_swWest (h : Head) (p : Page) (off bank : Nat) (v : Word) : (wr h p off bank v).swWest = h.swWest := rfl
@[simp] theorem wr_groupTimes (h : Head) (p : Page) (off bank : Nat) (v : Word) : (wr h p off bank v).groupTimes = h.groupTimes := rfl
@[simp] theorem wr_out (h : Head) (p : Page) (off bank : Nat) (v : Word) : (wr h p off bank v).out = h.out := rfl
@[simp] theorem wr_bus (h : Head) (p : Page) (off bank : Nat) (v : Word) : (wr h p off bank v).bus = h.bus := rfl
@[simp] theorem wr_freeCtr (h : Head) (p : Page) (off bank : Nat) (v : Word) : (wr h p off bank v).freeCtr = h.freeCtr := rfl
@[simp] theorem wr_frm (h : Head) (p : Page) (off bank : Nat) (v : Word) : (wr h p off bank v).frm = h.frm := rfl
@[simp] theorem wr_foy (h : Head) (p : Page) (off bank : Nat) (v : Word) : (wr h p off bank v).foy = h.foy := rfl
@[simp] theorem wr_vit (h : Head) (p : Page) (off bank : Nat) (v : Word) : (wr h p off bank v).vit = h.vit := rfl
@[simp] theorem wr_cat (h : Head) (p : Page) (off bank : Nat) (v : Word) : (wr h p off bank v).cat = h.cat := rfl
@[simp] theorem wr_eng (h : Head) (p : Page) (off bank : Nat) (v : Word) : (wr h p off bank v).eng = h.eng := rfl
@[simp] theorem wr_mem (h : Head) (p : Page) (off bank : Nat) (v : Word) : (wr h p off bank v).mem = h.mem := rfl
@[simp] theorem wr_poison (h : Head) (p : Page) (off bank : Nat) (v : Word) : (wr h p off bank v).poison = h.poison := rfl
@[simp] theorem wr_sram (h : Head) (p : Page) (off bank : Nat) (v : Word) : (wr h p off bank v).sram = h.sram := rfl
@[simp] theorem wr_mft (h : Head) (p : Page) (off bank : Nat) (v : Word) : (wr h p off bank v).mft = h.mft := rfl
@[simp] theorem wr_mftTxc (h : Head) (p : Page) (off bank : Nat) (v : Word) : (wr h p off bank v).mftTxc = h.mftTxc := rfl
@[simp] theorem wr_keys (h : Head) (p : Page) (off bank : Nat) (v : Word) : (wr h p off bank v).keys = h.keys := rfl
@[simp] theorem wr_bindings (h : Head) (p : Page) (off bank : Nat) (v : Word) : (wr h p off bank v).bindings = h.bindings := rfl
@[simp] theorem wr_plk (h : Head) (p : Page) (off bank : Nat) (v : Word) : (wr h p off bank v).plk = h.plk := rfl
@[simp] theorem wr_dsp (h : Head) (p : Page) (off bank : Nat) (v : Word) : (wr h p off bank v).dsp = h.dsp := rfl
@[simp] theorem wr_gal (h : Head) (p : Page) (off bank : Nat) (v : Word) : (wr h p off bank v).gal = h.gal := rfl
@[simp] theorem wr_cur (h : Head) (p : Page) (off bank : Nat) (v : Word) : (wr h p off bank v).cur = h.cur := rfl
@[simp] theorem wr_bridges (h : Head) (p : Page) (off bank : Nat) (v : Word) : (wr h p off bank v).bridges = h.bridges := rfl
@[simp] theorem wr_rpl (h : Head) (p : Page) (off bank : Nat) (v : Word) : (wr h p off bank v).rpl = h.rpl := rfl
@[simp] theorem wr_core (h : Head) (p : Page) (off bank : Nat) (v : Word) : (wr h p off bank v).core = h.core := rfl
@[simp] theorem wr_doc (h : Head) (p : Page) (off bank : Nat) (v : Word) : (wr h p off bank v).doc = h.doc := rfl
@[simp] theorem wr_arc (h : Head) (p : Page) (off bank : Nat) (v : Word) : (wr h p off bank v).arc = h.arc := rfl
@[simp] theorem wr_pwr (h : Head) (p : Page) (off bank : Nat) (v : Word) : (wr h p off bank v).pwr = h.pwr := rfl
@[simp] theorem wr_rsv (h : Head) (p : Page) (off bank : Nat) (v : Word) : (wr h p off bank v).rsv = h.rsv := rfl

/-! ### fset -/

@[simp] theorem fset_pend (h : Head) (w : Wing) (f : Fld) (v bank inst : Nat) : (fset h w f v bank inst).pend = h.pend := rfl
@[simp] theorem fset_hiHold (h : Head) (w : Wing) (f : Fld) (v bank inst : Nat) : (fset h w f v bank inst).hiHold = h.hiHold := rfl
@[simp] theorem fset_hiLatch (h : Head) (w : Wing) (f : Fld) (v bank inst : Nat) : (fset h w f v bank inst).hiLatch = h.hiLatch := rfl
@[simp] theorem fset_evq (h : Head) (w : Wing) (f : Fld) (v bank inst : Nat) : (fset h w f v bank inst).evq = h.evq := rfl
@[simp] theorem fset_swWest (h : Head) (w : Wing) (f : Fld) (v bank inst : Nat) : (fset h w f v bank inst).swWest = h.swWest := rfl
@[simp] theorem fset_groupTimes (h : Head) (w : Wing) (f : Fld) (v bank inst : Nat) : (fset h w f v bank inst).groupTimes = h.groupTimes := rfl
@[simp] theorem fset_out (h : Head) (w : Wing) (f : Fld) (v bank inst : Nat) : (fset h w f v bank inst).out = h.out := rfl
@[simp] theorem fset_bus (h : Head) (w : Wing) (f : Fld) (v bank inst : Nat) : (fset h w f v bank inst).bus = h.bus := rfl
@[simp] theorem fset_freeCtr (h : Head) (w : Wing) (f : Fld) (v bank inst : Nat) : (fset h w f v bank inst).freeCtr = h.freeCtr := rfl
@[simp] theorem fset_frm (h : Head) (w : Wing) (f : Fld) (v bank inst : Nat) : (fset h w f v bank inst).frm = h.frm := rfl
@[simp] theorem fset_foy (h : Head) (w : Wing) (f : Fld) (v bank inst : Nat) : (fset h w f v bank inst).foy = h.foy := rfl
@[simp] theorem fset_vit (h : Head) (w : Wing) (f : Fld) (v bank inst : Nat) : (fset h w f v bank inst).vit = h.vit := rfl
@[simp] theorem fset_cat (h : Head) (w : Wing) (f : Fld) (v bank inst : Nat) : (fset h w f v bank inst).cat = h.cat := rfl
@[simp] theorem fset_eng (h : Head) (w : Wing) (f : Fld) (v bank inst : Nat) : (fset h w f v bank inst).eng = h.eng := rfl
@[simp] theorem fset_mem (h : Head) (w : Wing) (f : Fld) (v bank inst : Nat) : (fset h w f v bank inst).mem = h.mem := rfl
@[simp] theorem fset_poison (h : Head) (w : Wing) (f : Fld) (v bank inst : Nat) : (fset h w f v bank inst).poison = h.poison := rfl
@[simp] theorem fset_sram (h : Head) (w : Wing) (f : Fld) (v bank inst : Nat) : (fset h w f v bank inst).sram = h.sram := rfl
@[simp] theorem fset_mft (h : Head) (w : Wing) (f : Fld) (v bank inst : Nat) : (fset h w f v bank inst).mft = h.mft := rfl
@[simp] theorem fset_mftTxc (h : Head) (w : Wing) (f : Fld) (v bank inst : Nat) : (fset h w f v bank inst).mftTxc = h.mftTxc := rfl
@[simp] theorem fset_keys (h : Head) (w : Wing) (f : Fld) (v bank inst : Nat) : (fset h w f v bank inst).keys = h.keys := rfl
@[simp] theorem fset_bindings (h : Head) (w : Wing) (f : Fld) (v bank inst : Nat) : (fset h w f v bank inst).bindings = h.bindings := rfl
@[simp] theorem fset_plk (h : Head) (w : Wing) (f : Fld) (v bank inst : Nat) : (fset h w f v bank inst).plk = h.plk := rfl
@[simp] theorem fset_dsp (h : Head) (w : Wing) (f : Fld) (v bank inst : Nat) : (fset h w f v bank inst).dsp = h.dsp := rfl
@[simp] theorem fset_gal (h : Head) (w : Wing) (f : Fld) (v bank inst : Nat) : (fset h w f v bank inst).gal = h.gal := rfl
@[simp] theorem fset_cur (h : Head) (w : Wing) (f : Fld) (v bank inst : Nat) : (fset h w f v bank inst).cur = h.cur := rfl
@[simp] theorem fset_bridges (h : Head) (w : Wing) (f : Fld) (v bank inst : Nat) : (fset h w f v bank inst).bridges = h.bridges := rfl
@[simp] theorem fset_rpl (h : Head) (w : Wing) (f : Fld) (v bank inst : Nat) : (fset h w f v bank inst).rpl = h.rpl := rfl
@[simp] theorem fset_core (h : Head) (w : Wing) (f : Fld) (v bank inst : Nat) : (fset h w f v bank inst).core = h.core := rfl
@[simp] theorem fset_doc (h : Head) (w : Wing) (f : Fld) (v bank inst : Nat) : (fset h w f v bank inst).doc = h.doc := rfl
@[simp] theorem fset_arc (h : Head) (w : Wing) (f : Fld) (v bank inst : Nat) : (fset h w f v bank inst).arc = h.arc := rfl
@[simp] theorem fset_pwr (h : Head) (w : Wing) (f : Fld) (v bank inst : Nat) : (fset h w f v bank inst).pwr = h.pwr := rfl
@[simp] theorem fset_rsv (h : Head) (w : Wing) (f : Fld) (v bank inst : Nat) : (fset h w f v bank inst).rsv = h.rsv := rfl

/-! ### fadd -/

@[simp] theorem fadd_pend (h : Head) (w : Wing) (f : Fld) (n bank inst : Nat) : (fadd h w f n bank inst).pend = h.pend := rfl
@[simp] theorem fadd_hiHold (h : Head) (w : Wing) (f : Fld) (n bank inst : Nat) : (fadd h w f n bank inst).hiHold = h.hiHold := rfl
@[simp] theorem fadd_hiLatch (h : Head) (w : Wing) (f : Fld) (n bank inst : Nat) : (fadd h w f n bank inst).hiLatch = h.hiLatch := rfl
@[simp] theorem fadd_evq (h : Head) (w : Wing) (f : Fld) (n bank inst : Nat) : (fadd h w f n bank inst).evq = h.evq := rfl
@[simp] theorem fadd_swWest (h : Head) (w : Wing) (f : Fld) (n bank inst : Nat) : (fadd h w f n bank inst).swWest = h.swWest := rfl
@[simp] theorem fadd_groupTimes (h : Head) (w : Wing) (f : Fld) (n bank inst : Nat) : (fadd h w f n bank inst).groupTimes = h.groupTimes := rfl
@[simp] theorem fadd_out (h : Head) (w : Wing) (f : Fld) (n bank inst : Nat) : (fadd h w f n bank inst).out = h.out := rfl
@[simp] theorem fadd_bus (h : Head) (w : Wing) (f : Fld) (n bank inst : Nat) : (fadd h w f n bank inst).bus = h.bus := rfl
@[simp] theorem fadd_freeCtr (h : Head) (w : Wing) (f : Fld) (n bank inst : Nat) : (fadd h w f n bank inst).freeCtr = h.freeCtr := rfl
@[simp] theorem fadd_frm (h : Head) (w : Wing) (f : Fld) (n bank inst : Nat) : (fadd h w f n bank inst).frm = h.frm := rfl
@[simp] theorem fadd_foy (h : Head) (w : Wing) (f : Fld) (n bank inst : Nat) : (fadd h w f n bank inst).foy = h.foy := rfl
@[simp] theorem fadd_vit (h : Head) (w : Wing) (f : Fld) (n bank inst : Nat) : (fadd h w f n bank inst).vit = h.vit := rfl
@[simp] theorem fadd_cat (h : Head) (w : Wing) (f : Fld) (n bank inst : Nat) : (fadd h w f n bank inst).cat = h.cat := rfl
@[simp] theorem fadd_eng (h : Head) (w : Wing) (f : Fld) (n bank inst : Nat) : (fadd h w f n bank inst).eng = h.eng := rfl
@[simp] theorem fadd_mem (h : Head) (w : Wing) (f : Fld) (n bank inst : Nat) : (fadd h w f n bank inst).mem = h.mem := rfl
@[simp] theorem fadd_poison (h : Head) (w : Wing) (f : Fld) (n bank inst : Nat) : (fadd h w f n bank inst).poison = h.poison := rfl
@[simp] theorem fadd_sram (h : Head) (w : Wing) (f : Fld) (n bank inst : Nat) : (fadd h w f n bank inst).sram = h.sram := rfl
@[simp] theorem fadd_mft (h : Head) (w : Wing) (f : Fld) (n bank inst : Nat) : (fadd h w f n bank inst).mft = h.mft := rfl
@[simp] theorem fadd_mftTxc (h : Head) (w : Wing) (f : Fld) (n bank inst : Nat) : (fadd h w f n bank inst).mftTxc = h.mftTxc := rfl
@[simp] theorem fadd_keys (h : Head) (w : Wing) (f : Fld) (n bank inst : Nat) : (fadd h w f n bank inst).keys = h.keys := rfl
@[simp] theorem fadd_bindings (h : Head) (w : Wing) (f : Fld) (n bank inst : Nat) : (fadd h w f n bank inst).bindings = h.bindings := rfl
@[simp] theorem fadd_plk (h : Head) (w : Wing) (f : Fld) (n bank inst : Nat) : (fadd h w f n bank inst).plk = h.plk := rfl
@[simp] theorem fadd_dsp (h : Head) (w : Wing) (f : Fld) (n bank inst : Nat) : (fadd h w f n bank inst).dsp = h.dsp := rfl
@[simp] theorem fadd_gal (h : Head) (w : Wing) (f : Fld) (n bank inst : Nat) : (fadd h w f n bank inst).gal = h.gal := rfl
@[simp] theorem fadd_cur (h : Head) (w : Wing) (f : Fld) (n bank inst : Nat) : (fadd h w f n bank inst).cur = h.cur := rfl
@[simp] theorem fadd_bridges (h : Head) (w : Wing) (f : Fld) (n bank inst : Nat) : (fadd h w f n bank inst).bridges = h.bridges := rfl
@[simp] theorem fadd_rpl (h : Head) (w : Wing) (f : Fld) (n bank inst : Nat) : (fadd h w f n bank inst).rpl = h.rpl := rfl
@[simp] theorem fadd_core (h : Head) (w : Wing) (f : Fld) (n bank inst : Nat) : (fadd h w f n bank inst).core = h.core := rfl
@[simp] theorem fadd_doc (h : Head) (w : Wing) (f : Fld) (n bank inst : Nat) : (fadd h w f n bank inst).doc = h.doc := rfl
@[simp] theorem fadd_arc (h : Head) (w : Wing) (f : Fld) (n bank inst : Nat) : (fadd h w f n bank inst).arc = h.arc := rfl
@[simp] theorem fadd_pwr (h : Head) (w : Wing) (f : Fld) (n bank inst : Nat) : (fadd h w f n bank inst).pwr = h.pwr := rfl
@[simp] theorem fadd_rsv (h : Head) (w : Wing) (f : Fld) (n bank inst : Nat) : (fadd h w f n bank inst).rsv = h.rsv := rfl

/-! ### fmax -/

@[simp] theorem fmax_pend (h : Head) (w : Wing) (f : Fld) (v bank inst : Nat) : (fmax h w f v bank inst).pend = h.pend := rfl
@[simp] theorem fmax_hiHold (h : Head) (w : Wing) (f : Fld) (v bank inst : Nat) : (fmax h w f v bank inst).hiHold = h.hiHold := rfl
@[simp] theorem fmax_hiLatch (h : Head) (w : Wing) (f : Fld) (v bank inst : Nat) : (fmax h w f v bank inst).hiLatch = h.hiLatch := rfl
@[simp] theorem fmax_evq (h : Head) (w : Wing) (f : Fld) (v bank inst : Nat) : (fmax h w f v bank inst).evq = h.evq := rfl
@[simp] theorem fmax_swWest (h : Head) (w : Wing) (f : Fld) (v bank inst : Nat) : (fmax h w f v bank inst).swWest = h.swWest := rfl
@[simp] theorem fmax_groupTimes (h : Head) (w : Wing) (f : Fld) (v bank inst : Nat) : (fmax h w f v bank inst).groupTimes = h.groupTimes := rfl
@[simp] theorem fmax_out (h : Head) (w : Wing) (f : Fld) (v bank inst : Nat) : (fmax h w f v bank inst).out = h.out := rfl
@[simp] theorem fmax_bus (h : Head) (w : Wing) (f : Fld) (v bank inst : Nat) : (fmax h w f v bank inst).bus = h.bus := rfl
@[simp] theorem fmax_freeCtr (h : Head) (w : Wing) (f : Fld) (v bank inst : Nat) : (fmax h w f v bank inst).freeCtr = h.freeCtr := rfl
@[simp] theorem fmax_frm (h : Head) (w : Wing) (f : Fld) (v bank inst : Nat) : (fmax h w f v bank inst).frm = h.frm := rfl
@[simp] theorem fmax_foy (h : Head) (w : Wing) (f : Fld) (v bank inst : Nat) : (fmax h w f v bank inst).foy = h.foy := rfl
@[simp] theorem fmax_vit (h : Head) (w : Wing) (f : Fld) (v bank inst : Nat) : (fmax h w f v bank inst).vit = h.vit := rfl
@[simp] theorem fmax_cat (h : Head) (w : Wing) (f : Fld) (v bank inst : Nat) : (fmax h w f v bank inst).cat = h.cat := rfl
@[simp] theorem fmax_eng (h : Head) (w : Wing) (f : Fld) (v bank inst : Nat) : (fmax h w f v bank inst).eng = h.eng := rfl
@[simp] theorem fmax_mem (h : Head) (w : Wing) (f : Fld) (v bank inst : Nat) : (fmax h w f v bank inst).mem = h.mem := rfl
@[simp] theorem fmax_poison (h : Head) (w : Wing) (f : Fld) (v bank inst : Nat) : (fmax h w f v bank inst).poison = h.poison := rfl
@[simp] theorem fmax_sram (h : Head) (w : Wing) (f : Fld) (v bank inst : Nat) : (fmax h w f v bank inst).sram = h.sram := rfl
@[simp] theorem fmax_mft (h : Head) (w : Wing) (f : Fld) (v bank inst : Nat) : (fmax h w f v bank inst).mft = h.mft := rfl
@[simp] theorem fmax_mftTxc (h : Head) (w : Wing) (f : Fld) (v bank inst : Nat) : (fmax h w f v bank inst).mftTxc = h.mftTxc := rfl
@[simp] theorem fmax_keys (h : Head) (w : Wing) (f : Fld) (v bank inst : Nat) : (fmax h w f v bank inst).keys = h.keys := rfl
@[simp] theorem fmax_bindings (h : Head) (w : Wing) (f : Fld) (v bank inst : Nat) : (fmax h w f v bank inst).bindings = h.bindings := rfl
@[simp] theorem fmax_plk (h : Head) (w : Wing) (f : Fld) (v bank inst : Nat) : (fmax h w f v bank inst).plk = h.plk := rfl
@[simp] theorem fmax_dsp (h : Head) (w : Wing) (f : Fld) (v bank inst : Nat) : (fmax h w f v bank inst).dsp = h.dsp := rfl
@[simp] theorem fmax_gal (h : Head) (w : Wing) (f : Fld) (v bank inst : Nat) : (fmax h w f v bank inst).gal = h.gal := rfl
@[simp] theorem fmax_cur (h : Head) (w : Wing) (f : Fld) (v bank inst : Nat) : (fmax h w f v bank inst).cur = h.cur := rfl
@[simp] theorem fmax_bridges (h : Head) (w : Wing) (f : Fld) (v bank inst : Nat) : (fmax h w f v bank inst).bridges = h.bridges := rfl
@[simp] theorem fmax_rpl (h : Head) (w : Wing) (f : Fld) (v bank inst : Nat) : (fmax h w f v bank inst).rpl = h.rpl := rfl
@[simp] theorem fmax_core (h : Head) (w : Wing) (f : Fld) (v bank inst : Nat) : (fmax h w f v bank inst).core = h.core := rfl
@[simp] theorem fmax_doc (h : Head) (w : Wing) (f : Fld) (v bank inst : Nat) : (fmax h w f v bank inst).doc = h.doc := rfl
@[simp] theorem fmax_arc (h : Head) (w : Wing) (f : Fld) (v bank inst : Nat) : (fmax h w f v bank inst).arc = h.arc := rfl
@[simp] theorem fmax_pwr (h : Head) (w : Wing) (f : Fld) (v bank inst : Nat) : (fmax h w f v bank inst).pwr = h.pwr := rfl
@[simp] theorem fmax_rsv (h : Head) (w : Wing) (f : Fld) (v bank inst : Nat) : (fmax h w f v bank inst).rsv = h.rsv := rfl

/-! ### hset -/

@[simp] theorem hset_pend (h : Head) (p : Page) (f : HBits) (v : Nat) : (hset h p f v).pend = h.pend := rfl
@[simp] theorem hset_hiHold (h : Head) (p : Page) (f : HBits) (v : Nat) : (hset h p f v).hiHold = h.hiHold := rfl
@[simp] theorem hset_hiLatch (h : Head) (p : Page) (f : HBits) (v : Nat) : (hset h p f v).hiLatch = h.hiLatch := rfl
@[simp] theorem hset_evq (h : Head) (p : Page) (f : HBits) (v : Nat) : (hset h p f v).evq = h.evq := rfl
@[simp] theorem hset_swWest (h : Head) (p : Page) (f : HBits) (v : Nat) : (hset h p f v).swWest = h.swWest := rfl
@[simp] theorem hset_groupTimes (h : Head) (p : Page) (f : HBits) (v : Nat) : (hset h p f v).groupTimes = h.groupTimes := rfl
@[simp] theorem hset_out (h : Head) (p : Page) (f : HBits) (v : Nat) : (hset h p f v).out = h.out := rfl
@[simp] theorem hset_bus (h : Head) (p : Page) (f : HBits) (v : Nat) : (hset h p f v).bus = h.bus := rfl
@[simp] theorem hset_freeCtr (h : Head) (p : Page) (f : HBits) (v : Nat) : (hset h p f v).freeCtr = h.freeCtr := rfl
@[simp] theorem hset_frm (h : Head) (p : Page) (f : HBits) (v : Nat) : (hset h p f v).frm = h.frm := rfl
@[simp] theorem hset_foy (h : Head) (p : Page) (f : HBits) (v : Nat) : (hset h p f v).foy = h.foy := rfl
@[simp] theorem hset_vit (h : Head) (p : Page) (f : HBits) (v : Nat) : (hset h p f v).vit = h.vit := rfl
@[simp] theorem hset_cat (h : Head) (p : Page) (f : HBits) (v : Nat) : (hset h p f v).cat = h.cat := rfl
@[simp] theorem hset_eng (h : Head) (p : Page) (f : HBits) (v : Nat) : (hset h p f v).eng = h.eng := rfl
@[simp] theorem hset_mem (h : Head) (p : Page) (f : HBits) (v : Nat) : (hset h p f v).mem = h.mem := rfl
@[simp] theorem hset_poison (h : Head) (p : Page) (f : HBits) (v : Nat) : (hset h p f v).poison = h.poison := rfl
@[simp] theorem hset_sram (h : Head) (p : Page) (f : HBits) (v : Nat) : (hset h p f v).sram = h.sram := rfl
@[simp] theorem hset_mft (h : Head) (p : Page) (f : HBits) (v : Nat) : (hset h p f v).mft = h.mft := rfl
@[simp] theorem hset_mftTxc (h : Head) (p : Page) (f : HBits) (v : Nat) : (hset h p f v).mftTxc = h.mftTxc := rfl
@[simp] theorem hset_keys (h : Head) (p : Page) (f : HBits) (v : Nat) : (hset h p f v).keys = h.keys := rfl
@[simp] theorem hset_bindings (h : Head) (p : Page) (f : HBits) (v : Nat) : (hset h p f v).bindings = h.bindings := rfl
@[simp] theorem hset_plk (h : Head) (p : Page) (f : HBits) (v : Nat) : (hset h p f v).plk = h.plk := rfl
@[simp] theorem hset_dsp (h : Head) (p : Page) (f : HBits) (v : Nat) : (hset h p f v).dsp = h.dsp := rfl
@[simp] theorem hset_gal (h : Head) (p : Page) (f : HBits) (v : Nat) : (hset h p f v).gal = h.gal := rfl
@[simp] theorem hset_cur (h : Head) (p : Page) (f : HBits) (v : Nat) : (hset h p f v).cur = h.cur := rfl
@[simp] theorem hset_bridges (h : Head) (p : Page) (f : HBits) (v : Nat) : (hset h p f v).bridges = h.bridges := rfl
@[simp] theorem hset_rpl (h : Head) (p : Page) (f : HBits) (v : Nat) : (hset h p f v).rpl = h.rpl := rfl
@[simp] theorem hset_core (h : Head) (p : Page) (f : HBits) (v : Nat) : (hset h p f v).core = h.core := rfl
@[simp] theorem hset_doc (h : Head) (p : Page) (f : HBits) (v : Nat) : (hset h p f v).doc = h.doc := rfl
@[simp] theorem hset_arc (h : Head) (p : Page) (f : HBits) (v : Nat) : (hset h p f v).arc = h.arc := rfl
@[simp] theorem hset_pwr (h : Head) (p : Page) (f : HBits) (v : Nat) : (hset h p f v).pwr = h.pwr := rfl
@[simp] theorem hset_rsv (h : Head) (p : Page) (f : HBits) (v : Nat) : (hset h p f v).rsv = h.rsv := rfl

/-! ### pset -/

@[simp] theorem pset_pend (h : Head) (w : Wing) (lo hi : Fld) (v bank : Nat) : (pset h w lo hi v bank).pend = h.pend := rfl
@[simp] theorem pset_hiHold (h : Head) (w : Wing) (lo hi : Fld) (v bank : Nat) : (pset h w lo hi v bank).hiHold = h.hiHold := rfl
@[simp] theorem pset_hiLatch (h : Head) (w : Wing) (lo hi : Fld) (v bank : Nat) : (pset h w lo hi v bank).hiLatch = h.hiLatch := rfl
@[simp] theorem pset_evq (h : Head) (w : Wing) (lo hi : Fld) (v bank : Nat) : (pset h w lo hi v bank).evq = h.evq := rfl
@[simp] theorem pset_swWest (h : Head) (w : Wing) (lo hi : Fld) (v bank : Nat) : (pset h w lo hi v bank).swWest = h.swWest := rfl
@[simp] theorem pset_groupTimes (h : Head) (w : Wing) (lo hi : Fld) (v bank : Nat) : (pset h w lo hi v bank).groupTimes = h.groupTimes := rfl
@[simp] theorem pset_out (h : Head) (w : Wing) (lo hi : Fld) (v bank : Nat) : (pset h w lo hi v bank).out = h.out := rfl
@[simp] theorem pset_bus (h : Head) (w : Wing) (lo hi : Fld) (v bank : Nat) : (pset h w lo hi v bank).bus = h.bus := rfl
@[simp] theorem pset_freeCtr (h : Head) (w : Wing) (lo hi : Fld) (v bank : Nat) : (pset h w lo hi v bank).freeCtr = h.freeCtr := rfl
@[simp] theorem pset_frm (h : Head) (w : Wing) (lo hi : Fld) (v bank : Nat) : (pset h w lo hi v bank).frm = h.frm := rfl
@[simp] theorem pset_foy (h : Head) (w : Wing) (lo hi : Fld) (v bank : Nat) : (pset h w lo hi v bank).foy = h.foy := rfl
@[simp] theorem pset_vit (h : Head) (w : Wing) (lo hi : Fld) (v bank : Nat) : (pset h w lo hi v bank).vit = h.vit := rfl
@[simp] theorem pset_cat (h : Head) (w : Wing) (lo hi : Fld) (v bank : Nat) : (pset h w lo hi v bank).cat = h.cat := rfl
@[simp] theorem pset_eng (h : Head) (w : Wing) (lo hi : Fld) (v bank : Nat) : (pset h w lo hi v bank).eng = h.eng := rfl
@[simp] theorem pset_mem (h : Head) (w : Wing) (lo hi : Fld) (v bank : Nat) : (pset h w lo hi v bank).mem = h.mem := rfl
@[simp] theorem pset_poison (h : Head) (w : Wing) (lo hi : Fld) (v bank : Nat) : (pset h w lo hi v bank).poison = h.poison := rfl
@[simp] theorem pset_sram (h : Head) (w : Wing) (lo hi : Fld) (v bank : Nat) : (pset h w lo hi v bank).sram = h.sram := rfl
@[simp] theorem pset_mft (h : Head) (w : Wing) (lo hi : Fld) (v bank : Nat) : (pset h w lo hi v bank).mft = h.mft := rfl
@[simp] theorem pset_mftTxc (h : Head) (w : Wing) (lo hi : Fld) (v bank : Nat) : (pset h w lo hi v bank).mftTxc = h.mftTxc := rfl
@[simp] theorem pset_keys (h : Head) (w : Wing) (lo hi : Fld) (v bank : Nat) : (pset h w lo hi v bank).keys = h.keys := rfl
@[simp] theorem pset_bindings (h : Head) (w : Wing) (lo hi : Fld) (v bank : Nat) : (pset h w lo hi v bank).bindings = h.bindings := rfl
@[simp] theorem pset_plk (h : Head) (w : Wing) (lo hi : Fld) (v bank : Nat) : (pset h w lo hi v bank).plk = h.plk := rfl
@[simp] theorem pset_dsp (h : Head) (w : Wing) (lo hi : Fld) (v bank : Nat) : (pset h w lo hi v bank).dsp = h.dsp := rfl
@[simp] theorem pset_gal (h : Head) (w : Wing) (lo hi : Fld) (v bank : Nat) : (pset h w lo hi v bank).gal = h.gal := rfl
@[simp] theorem pset_cur (h : Head) (w : Wing) (lo hi : Fld) (v bank : Nat) : (pset h w lo hi v bank).cur = h.cur := rfl
@[simp] theorem pset_bridges (h : Head) (w : Wing) (lo hi : Fld) (v bank : Nat) : (pset h w lo hi v bank).bridges = h.bridges := rfl
@[simp] theorem pset_rpl (h : Head) (w : Wing) (lo hi : Fld) (v bank : Nat) : (pset h w lo hi v bank).rpl = h.rpl := rfl
@[simp] theorem pset_core (h : Head) (w : Wing) (lo hi : Fld) (v bank : Nat) : (pset h w lo hi v bank).core = h.core := rfl
@[simp] theorem pset_doc (h : Head) (w : Wing) (lo hi : Fld) (v bank : Nat) : (pset h w lo hi v bank).doc = h.doc := rfl
@[simp] theorem pset_arc (h : Head) (w : Wing) (lo hi : Fld) (v bank : Nat) : (pset h w lo hi v bank).arc = h.arc := rfl
@[simp] theorem pset_pwr (h : Head) (w : Wing) (lo hi : Fld) (v bank : Nat) : (pset h w lo hi v bank).pwr = h.pwr := rfl
@[simp] theorem pset_rsv (h : Head) (w : Wing) (lo hi : Fld) (v bank : Nat) : (pset h w lo hi v bank).rsv = h.rsv := rfl

/-! ### send -/

@[simp] theorem send_regs (h : Head) (m : Msg) : (send h m).regs = h.regs := rfl
@[simp] theorem send_pend (h : Head) (m : Msg) : (send h m).pend = h.pend := rfl
@[simp] theorem send_hiHold (h : Head) (m : Msg) : (send h m).hiHold = h.hiHold := rfl
@[simp] theorem send_hiLatch (h : Head) (m : Msg) : (send h m).hiLatch = h.hiLatch := rfl
@[simp] theorem send_evq (h : Head) (m : Msg) : (send h m).evq = h.evq := rfl
@[simp] theorem send_swWest (h : Head) (m : Msg) : (send h m).swWest = h.swWest := rfl
@[simp] theorem send_groupTimes (h : Head) (m : Msg) : (send h m).groupTimes = h.groupTimes := rfl
@[simp] theorem send_bus (h : Head) (m : Msg) : (send h m).bus = h.bus := rfl
@[simp] theorem send_freeCtr (h : Head) (m : Msg) : (send h m).freeCtr = h.freeCtr := rfl
@[simp] theorem send_frm (h : Head) (m : Msg) : (send h m).frm = h.frm := rfl
@[simp] theorem send_foy (h : Head) (m : Msg) : (send h m).foy = h.foy := rfl
@[simp] theorem send_vit (h : Head) (m : Msg) : (send h m).vit = h.vit := rfl
@[simp] theorem send_cat (h : Head) (m : Msg) : (send h m).cat = h.cat := rfl
@[simp] theorem send_eng (h : Head) (m : Msg) : (send h m).eng = h.eng := rfl
@[simp] theorem send_mem (h : Head) (m : Msg) : (send h m).mem = h.mem := rfl
@[simp] theorem send_poison (h : Head) (m : Msg) : (send h m).poison = h.poison := rfl
@[simp] theorem send_sram (h : Head) (m : Msg) : (send h m).sram = h.sram := rfl
@[simp] theorem send_mft (h : Head) (m : Msg) : (send h m).mft = h.mft := rfl
@[simp] theorem send_mftTxc (h : Head) (m : Msg) : (send h m).mftTxc = h.mftTxc := rfl
@[simp] theorem send_keys (h : Head) (m : Msg) : (send h m).keys = h.keys := rfl
@[simp] theorem send_bindings (h : Head) (m : Msg) : (send h m).bindings = h.bindings := rfl
@[simp] theorem send_plk (h : Head) (m : Msg) : (send h m).plk = h.plk := rfl
@[simp] theorem send_dsp (h : Head) (m : Msg) : (send h m).dsp = h.dsp := rfl
@[simp] theorem send_gal (h : Head) (m : Msg) : (send h m).gal = h.gal := rfl
@[simp] theorem send_cur (h : Head) (m : Msg) : (send h m).cur = h.cur := rfl
@[simp] theorem send_bridges (h : Head) (m : Msg) : (send h m).bridges = h.bridges := rfl
@[simp] theorem send_rpl (h : Head) (m : Msg) : (send h m).rpl = h.rpl := rfl
@[simp] theorem send_core (h : Head) (m : Msg) : (send h m).core = h.core := rfl
@[simp] theorem send_doc (h : Head) (m : Msg) : (send h m).doc = h.doc := rfl
@[simp] theorem send_arc (h : Head) (m : Msg) : (send h m).arc = h.arc := rfl
@[simp] theorem send_pwr (h : Head) (m : Msg) : (send h m).pwr = h.pwr := rfl
@[simp] theorem send_rsv (h : Head) (m : Msg) : (send h m).rsv = h.rsv := rfl

/-! ### reply -/

@[simp] theorem reply_regs (h : Head) (e : Bool) (d : Word) : (reply h e d).regs = h.regs := rfl
@[simp] theorem reply_pend (h : Head) (e : Bool) (d : Word) : (reply h e d).pend = h.pend := rfl
@[simp] theorem reply_hiHold (h : Head) (e : Bool) (d : Word) : (reply h e d).hiHold = h.hiHold := rfl
@[simp] theorem reply_hiLatch (h : Head) (e : Bool) (d : Word) : (reply h e d).hiLatch = h.hiLatch := rfl
@[simp] theorem reply_evq (h : Head) (e : Bool) (d : Word) : (reply h e d).evq = h.evq := rfl
@[simp] theorem reply_swWest (h : Head) (e : Bool) (d : Word) : (reply h e d).swWest = h.swWest := rfl
@[simp] theorem reply_groupTimes (h : Head) (e : Bool) (d : Word) : (reply h e d).groupTimes = h.groupTimes := rfl
@[simp] theorem reply_out (h : Head) (e : Bool) (d : Word) : (reply h e d).out = h.out := rfl
@[simp] theorem reply_freeCtr (h : Head) (e : Bool) (d : Word) : (reply h e d).freeCtr = h.freeCtr := rfl
@[simp] theorem reply_frm (h : Head) (e : Bool) (d : Word) : (reply h e d).frm = h.frm := rfl
@[simp] theorem reply_foy (h : Head) (e : Bool) (d : Word) : (reply h e d).foy = h.foy := rfl
@[simp] theorem reply_vit (h : Head) (e : Bool) (d : Word) : (reply h e d).vit = h.vit := rfl
@[simp] theorem reply_cat (h : Head) (e : Bool) (d : Word) : (reply h e d).cat = h.cat := rfl
@[simp] theorem reply_eng (h : Head) (e : Bool) (d : Word) : (reply h e d).eng = h.eng := rfl
@[simp] theorem reply_mem (h : Head) (e : Bool) (d : Word) : (reply h e d).mem = h.mem := rfl
@[simp] theorem reply_poison (h : Head) (e : Bool) (d : Word) : (reply h e d).poison = h.poison := rfl
@[simp] theorem reply_sram (h : Head) (e : Bool) (d : Word) : (reply h e d).sram = h.sram := rfl
@[simp] theorem reply_mft (h : Head) (e : Bool) (d : Word) : (reply h e d).mft = h.mft := rfl
@[simp] theorem reply_mftTxc (h : Head) (e : Bool) (d : Word) : (reply h e d).mftTxc = h.mftTxc := rfl
@[simp] theorem reply_keys (h : Head) (e : Bool) (d : Word) : (reply h e d).keys = h.keys := rfl
@[simp] theorem reply_bindings (h : Head) (e : Bool) (d : Word) : (reply h e d).bindings = h.bindings := rfl
@[simp] theorem reply_plk (h : Head) (e : Bool) (d : Word) : (reply h e d).plk = h.plk := rfl
@[simp] theorem reply_dsp (h : Head) (e : Bool) (d : Word) : (reply h e d).dsp = h.dsp := rfl
@[simp] theorem reply_gal (h : Head) (e : Bool) (d : Word) : (reply h e d).gal = h.gal := rfl
@[simp] theorem reply_cur (h : Head) (e : Bool) (d : Word) : (reply h e d).cur = h.cur := rfl
@[simp] theorem reply_bridges (h : Head) (e : Bool) (d : Word) : (reply h e d).bridges = h.bridges := rfl
@[simp] theorem reply_rpl (h : Head) (e : Bool) (d : Word) : (reply h e d).rpl = h.rpl := rfl
@[simp] theorem reply_core (h : Head) (e : Bool) (d : Word) : (reply h e d).core = h.core := rfl
@[simp] theorem reply_doc (h : Head) (e : Bool) (d : Word) : (reply h e d).doc = h.doc := rfl
@[simp] theorem reply_arc (h : Head) (e : Bool) (d : Word) : (reply h e d).arc = h.arc := rfl
@[simp] theorem reply_pwr (h : Head) (e : Bool) (d : Word) : (reply h e d).pwr = h.pwr := rfl
@[simp] theorem reply_rsv (h : Head) (e : Bool) (d : Word) : (reply h e d).rsv = h.rsv := rfl

/-! ### raiseAt -/

@[simp] theorem raiseAt_pend (h : Head) (p : Page) (n : Nat) : (raiseAt h p n).pend = h.pend := by
  unfold raiseAt; dsimp only; repeat' split
  all_goals rfl
@[simp] theorem raiseAt_hiHold (h : Head) (p : Page) (n : Nat) : (raiseAt h p n).hiHold = h.hiHold := by
  unfold raiseAt; dsimp only; repeat' split
  all_goals rfl
@[simp] theorem raiseAt_hiLatch (h : Head) (p : Page) (n : Nat) : (raiseAt h p n).hiLatch = h.hiLatch := by
  unfold raiseAt; dsimp only; repeat' split
  all_goals rfl
@[simp] theorem raiseAt_swWest (h : Head) (p : Page) (n : Nat) : (raiseAt h p n).swWest = h.swWest := by
  unfold raiseAt; dsimp only; repeat' split
  all_goals rfl
@[simp] theorem raiseAt_groupTimes (h : Head) (p : Page) (n : Nat) : (raiseAt h p n).groupTimes = h.groupTimes := by
  unfold raiseAt; dsimp only; repeat' split
  all_goals rfl
@[simp] theorem raiseAt_out (h : Head) (p : Page) (n : Nat) : (raiseAt h p n).out = h.out := by
  unfold raiseAt; dsimp only; repeat' split
  all_goals rfl
@[simp] theorem raiseAt_bus (h : Head) (p : Page) (n : Nat) : (raiseAt h p n).bus = h.bus := by
  unfold raiseAt; dsimp only; repeat' split
  all_goals rfl
@[simp] theorem raiseAt_freeCtr (h : Head) (p : Page) (n : Nat) : (raiseAt h p n).freeCtr = h.freeCtr := by
  unfold raiseAt; dsimp only; repeat' split
  all_goals rfl
@[simp] theorem raiseAt_frm (h : Head) (p : Page) (n : Nat) : (raiseAt h p n).frm = h.frm := by
  unfold raiseAt; dsimp only; repeat' split
  all_goals rfl
@[simp] theorem raiseAt_foy (h : Head) (p : Page) (n : Nat) : (raiseAt h p n).foy = h.foy := by
  unfold raiseAt; dsimp only; repeat' split
  all_goals rfl
@[simp] theorem raiseAt_vit (h : Head) (p : Page) (n : Nat) : (raiseAt h p n).vit = h.vit := by
  unfold raiseAt; dsimp only; repeat' split
  all_goals rfl
@[simp] theorem raiseAt_cat (h : Head) (p : Page) (n : Nat) : (raiseAt h p n).cat = h.cat := by
  unfold raiseAt; dsimp only; repeat' split
  all_goals rfl
@[simp] theorem raiseAt_eng (h : Head) (p : Page) (n : Nat) : (raiseAt h p n).eng = h.eng := by
  unfold raiseAt; dsimp only; repeat' split
  all_goals rfl
@[simp] theorem raiseAt_mem (h : Head) (p : Page) (n : Nat) : (raiseAt h p n).mem = h.mem := by
  unfold raiseAt; dsimp only; repeat' split
  all_goals rfl
@[simp] theorem raiseAt_poison (h : Head) (p : Page) (n : Nat) : (raiseAt h p n).poison = h.poison := by
  unfold raiseAt; dsimp only; repeat' split
  all_goals rfl
@[simp] theorem raiseAt_sram (h : Head) (p : Page) (n : Nat) : (raiseAt h p n).sram = h.sram := by
  unfold raiseAt; dsimp only; repeat' split
  all_goals rfl
@[simp] theorem raiseAt_mft (h : Head) (p : Page) (n : Nat) : (raiseAt h p n).mft = h.mft := by
  unfold raiseAt; dsimp only; repeat' split
  all_goals rfl
@[simp] theorem raiseAt_mftTxc (h : Head) (p : Page) (n : Nat) : (raiseAt h p n).mftTxc = h.mftTxc := by
  unfold raiseAt; dsimp only; repeat' split
  all_goals rfl
@[simp] theorem raiseAt_keys (h : Head) (p : Page) (n : Nat) : (raiseAt h p n).keys = h.keys := by
  unfold raiseAt; dsimp only; repeat' split
  all_goals rfl
@[simp] theorem raiseAt_bindings (h : Head) (p : Page) (n : Nat) : (raiseAt h p n).bindings = h.bindings := by
  unfold raiseAt; dsimp only; repeat' split
  all_goals rfl
@[simp] theorem raiseAt_plk (h : Head) (p : Page) (n : Nat) : (raiseAt h p n).plk = h.plk := by
  unfold raiseAt; dsimp only; repeat' split
  all_goals rfl
@[simp] theorem raiseAt_dsp (h : Head) (p : Page) (n : Nat) : (raiseAt h p n).dsp = h.dsp := by
  unfold raiseAt; dsimp only; repeat' split
  all_goals rfl
@[simp] theorem raiseAt_gal (h : Head) (p : Page) (n : Nat) : (raiseAt h p n).gal = h.gal := by
  unfold raiseAt; dsimp only; repeat' split
  all_goals rfl
@[simp] theorem raiseAt_cur (h : Head) (p : Page) (n : Nat) : (raiseAt h p n).cur = h.cur := by
  unfold raiseAt; dsimp only; repeat' split
  all_goals rfl
@[simp] theorem raiseAt_bridges (h : Head) (p : Page) (n : Nat) : (raiseAt h p n).bridges = h.bridges := by
  unfold raiseAt; dsimp only; repeat' split
  all_goals rfl
@[simp] theorem raiseAt_rpl (h : Head) (p : Page) (n : Nat) : (raiseAt h p n).rpl = h.rpl := by
  unfold raiseAt; dsimp only; repeat' split
  all_goals rfl
@[simp] theorem raiseAt_core (h : Head) (p : Page) (n : Nat) : (raiseAt h p n).core = h.core := by
  unfold raiseAt; dsimp only; repeat' split
  all_goals rfl
@[simp] theorem raiseAt_doc (h : Head) (p : Page) (n : Nat) : (raiseAt h p n).doc = h.doc := by
  unfold raiseAt; dsimp only; repeat' split
  all_goals rfl
@[simp] theorem raiseAt_arc (h : Head) (p : Page) (n : Nat) : (raiseAt h p n).arc = h.arc := by
  unfold raiseAt; dsimp only; repeat' split
  all_goals rfl
@[simp] theorem raiseAt_pwr (h : Head) (p : Page) (n : Nat) : (raiseAt h p n).pwr = h.pwr := by
  unfold raiseAt; dsimp only; repeat' split
  all_goals rfl
@[simp] theorem raiseAt_rsv (h : Head) (p : Page) (n : Nat) : (raiseAt h p n).rsv = h.rsv := by
  unfold raiseAt; dsimp only; repeat' split
  all_goals rfl

/-! ### raise -/

@[simp] theorem raise_pend (h : Head) (w : Wing) (e : EvRef) (inst : Nat) : (raise h w e inst).pend = h.pend := raiseAt_pend h _ _
@[simp] theorem raise_hiHold (h : Head) (w : Wing) (e : EvRef) (inst : Nat) : (raise h w e inst).hiHold = h.hiHold := raiseAt_hiHold h _ _
@[simp] theorem raise_hiLatch (h : Head) (w : Wing) (e : EvRef) (inst : Nat) : (raise h w e inst).hiLatch = h.hiLatch := raiseAt_hiLatch h _ _
@[simp] theorem raise_swWest (h : Head) (w : Wing) (e : EvRef) (inst : Nat) : (raise h w e inst).swWest = h.swWest := raiseAt_swWest h _ _
@[simp] theorem raise_groupTimes (h : Head) (w : Wing) (e : EvRef) (inst : Nat) : (raise h w e inst).groupTimes = h.groupTimes := raiseAt_groupTimes h _ _
@[simp] theorem raise_out (h : Head) (w : Wing) (e : EvRef) (inst : Nat) : (raise h w e inst).out = h.out := raiseAt_out h _ _
@[simp] theorem raise_bus (h : Head) (w : Wing) (e : EvRef) (inst : Nat) : (raise h w e inst).bus = h.bus := raiseAt_bus h _ _
@[simp] theorem raise_freeCtr (h : Head) (w : Wing) (e : EvRef) (inst : Nat) : (raise h w e inst).freeCtr = h.freeCtr := raiseAt_freeCtr h _ _
@[simp] theorem raise_frm (h : Head) (w : Wing) (e : EvRef) (inst : Nat) : (raise h w e inst).frm = h.frm := raiseAt_frm h _ _
@[simp] theorem raise_foy (h : Head) (w : Wing) (e : EvRef) (inst : Nat) : (raise h w e inst).foy = h.foy := raiseAt_foy h _ _
@[simp] theorem raise_vit (h : Head) (w : Wing) (e : EvRef) (inst : Nat) : (raise h w e inst).vit = h.vit := raiseAt_vit h _ _
@[simp] theorem raise_cat (h : Head) (w : Wing) (e : EvRef) (inst : Nat) : (raise h w e inst).cat = h.cat := raiseAt_cat h _ _
@[simp] theorem raise_eng (h : Head) (w : Wing) (e : EvRef) (inst : Nat) : (raise h w e inst).eng = h.eng := raiseAt_eng h _ _
@[simp] theorem raise_mem (h : Head) (w : Wing) (e : EvRef) (inst : Nat) : (raise h w e inst).mem = h.mem := raiseAt_mem h _ _
@[simp] theorem raise_poison (h : Head) (w : Wing) (e : EvRef) (inst : Nat) : (raise h w e inst).poison = h.poison := raiseAt_poison h _ _
@[simp] theorem raise_sram (h : Head) (w : Wing) (e : EvRef) (inst : Nat) : (raise h w e inst).sram = h.sram := raiseAt_sram h _ _
@[simp] theorem raise_mft (h : Head) (w : Wing) (e : EvRef) (inst : Nat) : (raise h w e inst).mft = h.mft := raiseAt_mft h _ _
@[simp] theorem raise_mftTxc (h : Head) (w : Wing) (e : EvRef) (inst : Nat) : (raise h w e inst).mftTxc = h.mftTxc := raiseAt_mftTxc h _ _
@[simp] theorem raise_keys (h : Head) (w : Wing) (e : EvRef) (inst : Nat) : (raise h w e inst).keys = h.keys := raiseAt_keys h _ _
@[simp] theorem raise_bindings (h : Head) (w : Wing) (e : EvRef) (inst : Nat) : (raise h w e inst).bindings = h.bindings := raiseAt_bindings h _ _
@[simp] theorem raise_plk (h : Head) (w : Wing) (e : EvRef) (inst : Nat) : (raise h w e inst).plk = h.plk := raiseAt_plk h _ _
@[simp] theorem raise_dsp (h : Head) (w : Wing) (e : EvRef) (inst : Nat) : (raise h w e inst).dsp = h.dsp := raiseAt_dsp h _ _
@[simp] theorem raise_gal (h : Head) (w : Wing) (e : EvRef) (inst : Nat) : (raise h w e inst).gal = h.gal := raiseAt_gal h _ _
@[simp] theorem raise_cur (h : Head) (w : Wing) (e : EvRef) (inst : Nat) : (raise h w e inst).cur = h.cur := raiseAt_cur h _ _
@[simp] theorem raise_bridges (h : Head) (w : Wing) (e : EvRef) (inst : Nat) : (raise h w e inst).bridges = h.bridges := raiseAt_bridges h _ _
@[simp] theorem raise_rpl (h : Head) (w : Wing) (e : EvRef) (inst : Nat) : (raise h w e inst).rpl = h.rpl := raiseAt_rpl h _ _
@[simp] theorem raise_core (h : Head) (w : Wing) (e : EvRef) (inst : Nat) : (raise h w e inst).core = h.core := raiseAt_core h _ _
@[simp] theorem raise_doc (h : Head) (w : Wing) (e : EvRef) (inst : Nat) : (raise h w e inst).doc = h.doc := raiseAt_doc h _ _
@[simp] theorem raise_arc (h : Head) (w : Wing) (e : EvRef) (inst : Nat) : (raise h w e inst).arc = h.arc := raiseAt_arc h _ _
@[simp] theorem raise_pwr (h : Head) (w : Wing) (e : EvRef) (inst : Nat) : (raise h w e inst).pwr = h.pwr := raiseAt_pwr h _ _
@[simp] theorem raise_rsv (h : Head) (w : Wing) (e : EvRef) (inst : Nat) : (raise h w e inst).rsv = h.rsv := raiseAt_rsv h _ _

/-! ### raiseCounted -/

@[simp] theorem raiseCounted_pend (h : Head) (w : Wing) (e : EvRef) (inst : Nat) : (raiseCounted h w e inst).pend = h.pend := by
  unfold raiseCounted; dsimp only; split <;> rfl
@[simp] theorem raiseCounted_hiHold (h : Head) (w : Wing) (e : EvRef) (inst : Nat) : (raiseCounted h w e inst).hiHold = h.hiHold := by
  unfold raiseCounted; dsimp only; split <;> rfl
@[simp] theorem raiseCounted_hiLatch (h : Head) (w : Wing) (e : EvRef) (inst : Nat) : (raiseCounted h w e inst).hiLatch = h.hiLatch := by
  unfold raiseCounted; dsimp only; split <;> rfl
@[simp] theorem raiseCounted_swWest (h : Head) (w : Wing) (e : EvRef) (inst : Nat) : (raiseCounted h w e inst).swWest = h.swWest := by
  unfold raiseCounted; dsimp only; split <;> rfl
@[simp] theorem raiseCounted_groupTimes (h : Head) (w : Wing) (e : EvRef) (inst : Nat) : (raiseCounted h w e inst).groupTimes = h.groupTimes := by
  unfold raiseCounted; dsimp only; split <;> rfl
@[simp] theorem raiseCounted_out (h : Head) (w : Wing) (e : EvRef) (inst : Nat) : (raiseCounted h w e inst).out = h.out := by
  unfold raiseCounted; dsimp only; split <;> rfl
@[simp] theorem raiseCounted_bus (h : Head) (w : Wing) (e : EvRef) (inst : Nat) : (raiseCounted h w e inst).bus = h.bus := by
  unfold raiseCounted; dsimp only; split <;> rfl
@[simp] theorem raiseCounted_freeCtr (h : Head) (w : Wing) (e : EvRef) (inst : Nat) : (raiseCounted h w e inst).freeCtr = h.freeCtr := by
  unfold raiseCounted; dsimp only; split <;> rfl
@[simp] theorem raiseCounted_frm (h : Head) (w : Wing) (e : EvRef) (inst : Nat) : (raiseCounted h w e inst).frm = h.frm := by
  unfold raiseCounted; dsimp only; split <;> rfl
@[simp] theorem raiseCounted_foy (h : Head) (w : Wing) (e : EvRef) (inst : Nat) : (raiseCounted h w e inst).foy = h.foy := by
  unfold raiseCounted; dsimp only; split <;> rfl
@[simp] theorem raiseCounted_vit (h : Head) (w : Wing) (e : EvRef) (inst : Nat) : (raiseCounted h w e inst).vit = h.vit := by
  unfold raiseCounted; dsimp only; split <;> rfl
@[simp] theorem raiseCounted_cat (h : Head) (w : Wing) (e : EvRef) (inst : Nat) : (raiseCounted h w e inst).cat = h.cat := by
  unfold raiseCounted; dsimp only; split <;> rfl
@[simp] theorem raiseCounted_eng (h : Head) (w : Wing) (e : EvRef) (inst : Nat) : (raiseCounted h w e inst).eng = h.eng := by
  unfold raiseCounted; dsimp only; split <;> rfl
@[simp] theorem raiseCounted_mem (h : Head) (w : Wing) (e : EvRef) (inst : Nat) : (raiseCounted h w e inst).mem = h.mem := by
  unfold raiseCounted; dsimp only; split <;> rfl
@[simp] theorem raiseCounted_poison (h : Head) (w : Wing) (e : EvRef) (inst : Nat) : (raiseCounted h w e inst).poison = h.poison := by
  unfold raiseCounted; dsimp only; split <;> rfl
@[simp] theorem raiseCounted_sram (h : Head) (w : Wing) (e : EvRef) (inst : Nat) : (raiseCounted h w e inst).sram = h.sram := by
  unfold raiseCounted; dsimp only; split <;> rfl
@[simp] theorem raiseCounted_mft (h : Head) (w : Wing) (e : EvRef) (inst : Nat) : (raiseCounted h w e inst).mft = h.mft := by
  unfold raiseCounted; dsimp only; split <;> rfl
@[simp] theorem raiseCounted_mftTxc (h : Head) (w : Wing) (e : EvRef) (inst : Nat) : (raiseCounted h w e inst).mftTxc = h.mftTxc := by
  unfold raiseCounted; dsimp only; split <;> rfl
@[simp] theorem raiseCounted_keys (h : Head) (w : Wing) (e : EvRef) (inst : Nat) : (raiseCounted h w e inst).keys = h.keys := by
  unfold raiseCounted; dsimp only; split <;> rfl
@[simp] theorem raiseCounted_bindings (h : Head) (w : Wing) (e : EvRef) (inst : Nat) : (raiseCounted h w e inst).bindings = h.bindings := by
  unfold raiseCounted; dsimp only; split <;> rfl
@[simp] theorem raiseCounted_plk (h : Head) (w : Wing) (e : EvRef) (inst : Nat) : (raiseCounted h w e inst).plk = h.plk := by
  unfold raiseCounted; dsimp only; split <;> rfl
@[simp] theorem raiseCounted_dsp (h : Head) (w : Wing) (e : EvRef) (inst : Nat) : (raiseCounted h w e inst).dsp = h.dsp := by
  unfold raiseCounted; dsimp only; split <;> rfl
@[simp] theorem raiseCounted_gal (h : Head) (w : Wing) (e : EvRef) (inst : Nat) : (raiseCounted h w e inst).gal = h.gal := by
  unfold raiseCounted; dsimp only; split <;> rfl
@[simp] theorem raiseCounted_cur (h : Head) (w : Wing) (e : EvRef) (inst : Nat) : (raiseCounted h w e inst).cur = h.cur := by
  unfold raiseCounted; dsimp only; split <;> rfl
@[simp] theorem raiseCounted_bridges (h : Head) (w : Wing) (e : EvRef) (inst : Nat) : (raiseCounted h w e inst).bridges = h.bridges := by
  unfold raiseCounted; dsimp only; split <;> rfl
@[simp] theorem raiseCounted_rpl (h : Head) (w : Wing) (e : EvRef) (inst : Nat) : (raiseCounted h w e inst).rpl = h.rpl := by
  unfold raiseCounted; dsimp only; split <;> rfl
@[simp] theorem raiseCounted_core (h : Head) (w : Wing) (e : EvRef) (inst : Nat) : (raiseCounted h w e inst).core = h.core := by
  unfold raiseCounted; dsimp only; split <;> rfl
@[simp] theorem raiseCounted_doc (h : Head) (w : Wing) (e : EvRef) (inst : Nat) : (raiseCounted h w e inst).doc = h.doc := by
  unfold raiseCounted; dsimp only; split <;> rfl
@[simp] theorem raiseCounted_arc (h : Head) (w : Wing) (e : EvRef) (inst : Nat) : (raiseCounted h w e inst).arc = h.arc := by
  unfold raiseCounted; dsimp only; split <;> rfl
@[simp] theorem raiseCounted_pwr (h : Head) (w : Wing) (e : EvRef) (inst : Nat) : (raiseCounted h w e inst).pwr = h.pwr := by
  unfold raiseCounted; dsimp only; split <;> rfl
@[simp] theorem raiseCounted_rsv (h : Head) (w : Wing) (e : EvRef) (inst : Nat) : (raiseCounted h w e inst).rsv = h.rsv := by
  unfold raiseCounted; dsimp only; split <;> rfl

/-! ### raiseBoth -/

@[simp] theorem raiseBoth_pend (h : Head) (e : EvRef) : (raiseBoth h e).pend = h.pend := by
  simp only [raiseBoth, raise_pend]
@[simp] theorem raiseBoth_hiHold (h : Head) (e : EvRef) : (raiseBoth h e).hiHold = h.hiHold := by
  simp only [raiseBoth, raise_hiHold]
@[simp] theorem raiseBoth_hiLatch (h : Head) (e : EvRef) : (raiseBoth h e).hiLatch = h.hiLatch := by
  simp only [raiseBoth, raise_hiLatch]
@[simp] theorem raiseBoth_swWest (h : Head) (e : EvRef) : (raiseBoth h e).swWest = h.swWest := by
  simp only [raiseBoth, raise_swWest]
@[simp] theorem raiseBoth_groupTimes (h : Head) (e : EvRef) : (raiseBoth h e).groupTimes = h.groupTimes := by
  simp only [raiseBoth, raise_groupTimes]
@[simp] theorem raiseBoth_out (h : Head) (e : EvRef) : (raiseBoth h e).out = h.out := by
  simp only [raiseBoth, raise_out]
@[simp] theorem raiseBoth_bus (h : Head) (e : EvRef) : (raiseBoth h e).bus = h.bus := by
  simp only [raiseBoth, raise_bus]
@[simp] theorem raiseBoth_freeCtr (h : Head) (e : EvRef) : (raiseBoth h e).freeCtr = h.freeCtr := by
  simp only [raiseBoth, raise_freeCtr]
@[simp] theorem raiseBoth_frm (h : Head) (e : EvRef) : (raiseBoth h e).frm = h.frm := by
  simp only [raiseBoth, raise_frm]
@[simp] theorem raiseBoth_foy (h : Head) (e : EvRef) : (raiseBoth h e).foy = h.foy := by
  simp only [raiseBoth, raise_foy]
@[simp] theorem raiseBoth_vit (h : Head) (e : EvRef) : (raiseBoth h e).vit = h.vit := by
  simp only [raiseBoth, raise_vit]
@[simp] theorem raiseBoth_cat (h : Head) (e : EvRef) : (raiseBoth h e).cat = h.cat := by
  simp only [raiseBoth, raise_cat]
@[simp] theorem raiseBoth_eng (h : Head) (e : EvRef) : (raiseBoth h e).eng = h.eng := by
  simp only [raiseBoth, raise_eng]
@[simp] theorem raiseBoth_mem (h : Head) (e : EvRef) : (raiseBoth h e).mem = h.mem := by
  simp only [raiseBoth, raise_mem]
@[simp] theorem raiseBoth_poison (h : Head) (e : EvRef) : (raiseBoth h e).poison = h.poison := by
  simp only [raiseBoth, raise_poison]
@[simp] theorem raiseBoth_sram (h : Head) (e : EvRef) : (raiseBoth h e).sram = h.sram := by
  simp only [raiseBoth, raise_sram]
@[simp] theorem raiseBoth_mft (h : Head) (e : EvRef) : (raiseBoth h e).mft = h.mft := by
  simp only [raiseBoth, raise_mft]
@[simp] theorem raiseBoth_mftTxc (h : Head) (e : EvRef) : (raiseBoth h e).mftTxc = h.mftTxc := by
  simp only [raiseBoth, raise_mftTxc]
@[simp] theorem raiseBoth_keys (h : Head) (e : EvRef) : (raiseBoth h e).keys = h.keys := by
  simp only [raiseBoth, raise_keys]
@[simp] theorem raiseBoth_bindings (h : Head) (e : EvRef) : (raiseBoth h e).bindings = h.bindings := by
  simp only [raiseBoth, raise_bindings]
@[simp] theorem raiseBoth_plk (h : Head) (e : EvRef) : (raiseBoth h e).plk = h.plk := by
  simp only [raiseBoth, raise_plk]
@[simp] theorem raiseBoth_dsp (h : Head) (e : EvRef) : (raiseBoth h e).dsp = h.dsp := by
  simp only [raiseBoth, raise_dsp]
@[simp] theorem raiseBoth_gal (h : Head) (e : EvRef) : (raiseBoth h e).gal = h.gal := by
  simp only [raiseBoth, raise_gal]
@[simp] theorem raiseBoth_cur (h : Head) (e : EvRef) : (raiseBoth h e).cur = h.cur := by
  simp only [raiseBoth, raise_cur]
@[simp] theorem raiseBoth_bridges (h : Head) (e : EvRef) : (raiseBoth h e).bridges = h.bridges := by
  simp only [raiseBoth, raise_bridges]
@[simp] theorem raiseBoth_rpl (h : Head) (e : EvRef) : (raiseBoth h e).rpl = h.rpl := by
  simp only [raiseBoth, raise_rpl]
@[simp] theorem raiseBoth_core (h : Head) (e : EvRef) : (raiseBoth h e).core = h.core := by
  simp only [raiseBoth, raise_core]
@[simp] theorem raiseBoth_doc (h : Head) (e : EvRef) : (raiseBoth h e).doc = h.doc := by
  simp only [raiseBoth, raise_doc]
@[simp] theorem raiseBoth_arc (h : Head) (e : EvRef) : (raiseBoth h e).arc = h.arc := by
  simp only [raiseBoth, raise_arc]
@[simp] theorem raiseBoth_pwr (h : Head) (e : EvRef) : (raiseBoth h e).pwr = h.pwr := by
  simp only [raiseBoth, raise_pwr]
@[simp] theorem raiseBoth_rsv (h : Head) (e : EvRef) : (raiseBoth h e).rsv = h.rsv := by
  simp only [raiseBoth, raise_rsv]

/-! ### capture -/

@[simp] theorem capture_pend (h : Head) (p : Page) (e : ErrRec) : (capture h p e).pend = h.pend := by
  unfold capture; split <;> rfl
@[simp] theorem capture_hiHold (h : Head) (p : Page) (e : ErrRec) : (capture h p e).hiHold = h.hiHold := by
  unfold capture; split <;> rfl
@[simp] theorem capture_hiLatch (h : Head) (p : Page) (e : ErrRec) : (capture h p e).hiLatch = h.hiLatch := by
  unfold capture; split <;> rfl
@[simp] theorem capture_evq (h : Head) (p : Page) (e : ErrRec) : (capture h p e).evq = h.evq := by
  unfold capture; split <;> rfl
@[simp] theorem capture_swWest (h : Head) (p : Page) (e : ErrRec) : (capture h p e).swWest = h.swWest := by
  unfold capture; split <;> rfl
@[simp] theorem capture_groupTimes (h : Head) (p : Page) (e : ErrRec) : (capture h p e).groupTimes = h.groupTimes := by
  unfold capture; split <;> rfl
@[simp] theorem capture_out (h : Head) (p : Page) (e : ErrRec) : (capture h p e).out = h.out := by
  unfold capture; split <;> rfl
@[simp] theorem capture_bus (h : Head) (p : Page) (e : ErrRec) : (capture h p e).bus = h.bus := by
  unfold capture; split <;> rfl
@[simp] theorem capture_freeCtr (h : Head) (p : Page) (e : ErrRec) : (capture h p e).freeCtr = h.freeCtr := by
  unfold capture; split <;> rfl
@[simp] theorem capture_frm (h : Head) (p : Page) (e : ErrRec) : (capture h p e).frm = h.frm := by
  unfold capture; split <;> rfl
@[simp] theorem capture_foy (h : Head) (p : Page) (e : ErrRec) : (capture h p e).foy = h.foy := by
  unfold capture; split <;> rfl
@[simp] theorem capture_vit (h : Head) (p : Page) (e : ErrRec) : (capture h p e).vit = h.vit := by
  unfold capture; split <;> rfl
@[simp] theorem capture_cat (h : Head) (p : Page) (e : ErrRec) : (capture h p e).cat = h.cat := by
  unfold capture; split <;> rfl
@[simp] theorem capture_eng (h : Head) (p : Page) (e : ErrRec) : (capture h p e).eng = h.eng := by
  unfold capture; split <;> rfl
@[simp] theorem capture_mem (h : Head) (p : Page) (e : ErrRec) : (capture h p e).mem = h.mem := by
  unfold capture; split <;> rfl
@[simp] theorem capture_poison (h : Head) (p : Page) (e : ErrRec) : (capture h p e).poison = h.poison := by
  unfold capture; split <;> rfl
@[simp] theorem capture_sram (h : Head) (p : Page) (e : ErrRec) : (capture h p e).sram = h.sram := by
  unfold capture; split <;> rfl
@[simp] theorem capture_mft (h : Head) (p : Page) (e : ErrRec) : (capture h p e).mft = h.mft := by
  unfold capture; split <;> rfl
@[simp] theorem capture_mftTxc (h : Head) (p : Page) (e : ErrRec) : (capture h p e).mftTxc = h.mftTxc := by
  unfold capture; split <;> rfl
@[simp] theorem capture_keys (h : Head) (p : Page) (e : ErrRec) : (capture h p e).keys = h.keys := by
  unfold capture; split <;> rfl
@[simp] theorem capture_bindings (h : Head) (p : Page) (e : ErrRec) : (capture h p e).bindings = h.bindings := by
  unfold capture; split <;> rfl
@[simp] theorem capture_plk (h : Head) (p : Page) (e : ErrRec) : (capture h p e).plk = h.plk := by
  unfold capture; split <;> rfl
@[simp] theorem capture_dsp (h : Head) (p : Page) (e : ErrRec) : (capture h p e).dsp = h.dsp := by
  unfold capture; split <;> rfl
@[simp] theorem capture_gal (h : Head) (p : Page) (e : ErrRec) : (capture h p e).gal = h.gal := by
  unfold capture; split <;> rfl
@[simp] theorem capture_cur (h : Head) (p : Page) (e : ErrRec) : (capture h p e).cur = h.cur := by
  unfold capture; split <;> rfl
@[simp] theorem capture_bridges (h : Head) (p : Page) (e : ErrRec) : (capture h p e).bridges = h.bridges := by
  unfold capture; split <;> rfl
@[simp] theorem capture_rpl (h : Head) (p : Page) (e : ErrRec) : (capture h p e).rpl = h.rpl := by
  unfold capture; split <;> rfl
@[simp] theorem capture_core (h : Head) (p : Page) (e : ErrRec) : (capture h p e).core = h.core := by
  unfold capture; split <;> rfl
@[simp] theorem capture_doc (h : Head) (p : Page) (e : ErrRec) : (capture h p e).doc = h.doc := by
  unfold capture; split <;> rfl
@[simp] theorem capture_arc (h : Head) (p : Page) (e : ErrRec) : (capture h p e).arc = h.arc := by
  unfold capture; split <;> rfl
@[simp] theorem capture_pwr (h : Head) (p : Page) (e : ErrRec) : (capture h p e).pwr = h.pwr := by
  unfold capture; split <;> rfl
@[simp] theorem capture_rsv (h : Head) (p : Page) (e : ErrRec) : (capture h p e).rsv = h.rsv := by
  unfold capture; split <;> rfl

/-! ### config -/

@[simp] theorem config_pend (h : Head) (p : Page) (e : ErrRec) : (config h p e).pend = h.pend := by
  unfold config; dsimp only; split <;> simp only [raiseAt_pend, capture_pend]
@[simp] theorem config_hiHold (h : Head) (p : Page) (e : ErrRec) : (config h p e).hiHold = h.hiHold := by
  unfold config; dsimp only; split <;> simp only [raiseAt_hiHold, capture_hiHold]
@[simp] theorem config_hiLatch (h : Head) (p : Page) (e : ErrRec) : (config h p e).hiLatch = h.hiLatch := by
  unfold config; dsimp only; split <;> simp only [raiseAt_hiLatch, capture_hiLatch]
@[simp] theorem config_swWest (h : Head) (p : Page) (e : ErrRec) : (config h p e).swWest = h.swWest := by
  unfold config; dsimp only; split <;> simp only [raiseAt_swWest, capture_swWest]
@[simp] theorem config_groupTimes (h : Head) (p : Page) (e : ErrRec) : (config h p e).groupTimes = h.groupTimes := by
  unfold config; dsimp only; split <;> simp only [raiseAt_groupTimes, capture_groupTimes]
@[simp] theorem config_out (h : Head) (p : Page) (e : ErrRec) : (config h p e).out = h.out := by
  unfold config; dsimp only; split <;> simp only [raiseAt_out, capture_out]
@[simp] theorem config_bus (h : Head) (p : Page) (e : ErrRec) : (config h p e).bus = h.bus := by
  unfold config; dsimp only; split <;> simp only [raiseAt_bus, capture_bus]
@[simp] theorem config_freeCtr (h : Head) (p : Page) (e : ErrRec) : (config h p e).freeCtr = h.freeCtr := by
  unfold config; dsimp only; split <;> simp only [raiseAt_freeCtr, capture_freeCtr]
@[simp] theorem config_frm (h : Head) (p : Page) (e : ErrRec) : (config h p e).frm = h.frm := by
  unfold config; dsimp only; split <;> simp only [raiseAt_frm, capture_frm]
@[simp] theorem config_foy (h : Head) (p : Page) (e : ErrRec) : (config h p e).foy = h.foy := by
  unfold config; dsimp only; split <;> simp only [raiseAt_foy, capture_foy]
@[simp] theorem config_vit (h : Head) (p : Page) (e : ErrRec) : (config h p e).vit = h.vit := by
  unfold config; dsimp only; split <;> simp only [raiseAt_vit, capture_vit]
@[simp] theorem config_cat (h : Head) (p : Page) (e : ErrRec) : (config h p e).cat = h.cat := by
  unfold config; dsimp only; split <;> simp only [raiseAt_cat, capture_cat]
@[simp] theorem config_eng (h : Head) (p : Page) (e : ErrRec) : (config h p e).eng = h.eng := by
  unfold config; dsimp only; split <;> simp only [raiseAt_eng, capture_eng]
@[simp] theorem config_mem (h : Head) (p : Page) (e : ErrRec) : (config h p e).mem = h.mem := by
  unfold config; dsimp only; split <;> simp only [raiseAt_mem, capture_mem]
@[simp] theorem config_poison (h : Head) (p : Page) (e : ErrRec) : (config h p e).poison = h.poison := by
  unfold config; dsimp only; split <;> simp only [raiseAt_poison, capture_poison]
@[simp] theorem config_sram (h : Head) (p : Page) (e : ErrRec) : (config h p e).sram = h.sram := by
  unfold config; dsimp only; split <;> simp only [raiseAt_sram, capture_sram]
@[simp] theorem config_mft (h : Head) (p : Page) (e : ErrRec) : (config h p e).mft = h.mft := by
  unfold config; dsimp only; split <;> simp only [raiseAt_mft, capture_mft]
@[simp] theorem config_mftTxc (h : Head) (p : Page) (e : ErrRec) : (config h p e).mftTxc = h.mftTxc := by
  unfold config; dsimp only; split <;> simp only [raiseAt_mftTxc, capture_mftTxc]
@[simp] theorem config_keys (h : Head) (p : Page) (e : ErrRec) : (config h p e).keys = h.keys := by
  unfold config; dsimp only; split <;> simp only [raiseAt_keys, capture_keys]
@[simp] theorem config_bindings (h : Head) (p : Page) (e : ErrRec) : (config h p e).bindings = h.bindings := by
  unfold config; dsimp only; split <;> simp only [raiseAt_bindings, capture_bindings]
@[simp] theorem config_plk (h : Head) (p : Page) (e : ErrRec) : (config h p e).plk = h.plk := by
  unfold config; dsimp only; split <;> simp only [raiseAt_plk, capture_plk]
@[simp] theorem config_dsp (h : Head) (p : Page) (e : ErrRec) : (config h p e).dsp = h.dsp := by
  unfold config; dsimp only; split <;> simp only [raiseAt_dsp, capture_dsp]
@[simp] theorem config_gal (h : Head) (p : Page) (e : ErrRec) : (config h p e).gal = h.gal := by
  unfold config; dsimp only; split <;> simp only [raiseAt_gal, capture_gal]
@[simp] theorem config_cur (h : Head) (p : Page) (e : ErrRec) : (config h p e).cur = h.cur := by
  unfold config; dsimp only; split <;> simp only [raiseAt_cur, capture_cur]
@[simp] theorem config_bridges (h : Head) (p : Page) (e : ErrRec) : (config h p e).bridges = h.bridges := by
  unfold config; dsimp only; split <;> simp only [raiseAt_bridges, capture_bridges]
@[simp] theorem config_rpl (h : Head) (p : Page) (e : ErrRec) : (config h p e).rpl = h.rpl := by
  unfold config; dsimp only; split <;> simp only [raiseAt_rpl, capture_rpl]
@[simp] theorem config_core (h : Head) (p : Page) (e : ErrRec) : (config h p e).core = h.core := by
  unfold config; dsimp only; split <;> simp only [raiseAt_core, capture_core]
@[simp] theorem config_doc (h : Head) (p : Page) (e : ErrRec) : (config h p e).doc = h.doc := by
  unfold config; dsimp only; split <;> simp only [raiseAt_doc, capture_doc]
@[simp] theorem config_arc (h : Head) (p : Page) (e : ErrRec) : (config h p e).arc = h.arc := by
  unfold config; dsimp only; split <;> simp only [raiseAt_arc, capture_arc]
@[simp] theorem config_pwr (h : Head) (p : Page) (e : ErrRec) : (config h p e).pwr = h.pwr := by
  unfold config; dsimp only; split <;> simp only [raiseAt_pwr, capture_pwr]
@[simp] theorem config_rsv (h : Head) (p : Page) (e : ErrRec) : (config h p e).rsv = h.rsv := by
  unfold config; dsimp only; split <;> simp only [raiseAt_rsv, capture_rsv]

/-! ### setRunning -/

@[simp] theorem setRunning_pend (h : Head) (p : Page) : (setRunning h p).pend = h.pend := by
  unfold setRunning; split <;> rfl
@[simp] theorem setRunning_hiHold (h : Head) (p : Page) : (setRunning h p).hiHold = h.hiHold := by
  unfold setRunning; split <;> rfl
@[simp] theorem setRunning_hiLatch (h : Head) (p : Page) : (setRunning h p).hiLatch = h.hiLatch := by
  unfold setRunning; split <;> rfl
@[simp] theorem setRunning_evq (h : Head) (p : Page) : (setRunning h p).evq = h.evq := by
  unfold setRunning; split <;> rfl
@[simp] theorem setRunning_swWest (h : Head) (p : Page) : (setRunning h p).swWest = h.swWest := by
  unfold setRunning; split <;> rfl
@[simp] theorem setRunning_groupTimes (h : Head) (p : Page) : (setRunning h p).groupTimes = h.groupTimes := by
  unfold setRunning; split <;> rfl
@[simp] theorem setRunning_out (h : Head) (p : Page) : (setRunning h p).out = h.out := by
  unfold setRunning; split <;> rfl
@[simp] theorem setRunning_bus (h : Head) (p : Page) : (setRunning h p).bus = h.bus := by
  unfold setRunning; split <;> rfl
@[simp] theorem setRunning_freeCtr (h : Head) (p : Page) : (setRunning h p).freeCtr = h.freeCtr := by
  unfold setRunning; split <;> rfl
@[simp] theorem setRunning_frm (h : Head) (p : Page) : (setRunning h p).frm = h.frm := by
  unfold setRunning; split <;> rfl
@[simp] theorem setRunning_foy (h : Head) (p : Page) : (setRunning h p).foy = h.foy := by
  unfold setRunning; split <;> rfl
@[simp] theorem setRunning_vit (h : Head) (p : Page) : (setRunning h p).vit = h.vit := by
  unfold setRunning; split <;> rfl
@[simp] theorem setRunning_cat (h : Head) (p : Page) : (setRunning h p).cat = h.cat := by
  unfold setRunning; split <;> rfl
@[simp] theorem setRunning_eng (h : Head) (p : Page) : (setRunning h p).eng = h.eng := by
  unfold setRunning; split <;> rfl
@[simp] theorem setRunning_mem (h : Head) (p : Page) : (setRunning h p).mem = h.mem := by
  unfold setRunning; split <;> rfl
@[simp] theorem setRunning_poison (h : Head) (p : Page) : (setRunning h p).poison = h.poison := by
  unfold setRunning; split <;> rfl
@[simp] theorem setRunning_sram (h : Head) (p : Page) : (setRunning h p).sram = h.sram := by
  unfold setRunning; split <;> rfl
@[simp] theorem setRunning_mft (h : Head) (p : Page) : (setRunning h p).mft = h.mft := by
  unfold setRunning; split <;> rfl
@[simp] theorem setRunning_mftTxc (h : Head) (p : Page) : (setRunning h p).mftTxc = h.mftTxc := by
  unfold setRunning; split <;> rfl
@[simp] theorem setRunning_keys (h : Head) (p : Page) : (setRunning h p).keys = h.keys := by
  unfold setRunning; split <;> rfl
@[simp] theorem setRunning_bindings (h : Head) (p : Page) : (setRunning h p).bindings = h.bindings := by
  unfold setRunning; split <;> rfl
@[simp] theorem setRunning_plk (h : Head) (p : Page) : (setRunning h p).plk = h.plk := by
  unfold setRunning; split <;> rfl
@[simp] theorem setRunning_dsp (h : Head) (p : Page) : (setRunning h p).dsp = h.dsp := by
  unfold setRunning; split <;> rfl
@[simp] theorem setRunning_gal (h : Head) (p : Page) : (setRunning h p).gal = h.gal := by
  unfold setRunning; split <;> rfl
@[simp] theorem setRunning_cur (h : Head) (p : Page) : (setRunning h p).cur = h.cur := by
  unfold setRunning; split <;> rfl
@[simp] theorem setRunning_bridges (h : Head) (p : Page) : (setRunning h p).bridges = h.bridges := by
  unfold setRunning; split <;> rfl
@[simp] theorem setRunning_rpl (h : Head) (p : Page) : (setRunning h p).rpl = h.rpl := by
  unfold setRunning; split <;> rfl
@[simp] theorem setRunning_core (h : Head) (p : Page) : (setRunning h p).core = h.core := by
  unfold setRunning; split <;> rfl
@[simp] theorem setRunning_doc (h : Head) (p : Page) : (setRunning h p).doc = h.doc := by
  unfold setRunning; split <;> rfl
@[simp] theorem setRunning_arc (h : Head) (p : Page) : (setRunning h p).arc = h.arc := by
  unfold setRunning; split <;> rfl
@[simp] theorem setRunning_pwr (h : Head) (p : Page) : (setRunning h p).pwr = h.pwr := by
  unfold setRunning; split <;> rfl
@[simp] theorem setRunning_rsv (h : Head) (p : Page) : (setRunning h p).rsv = h.rsv := by
  unfold setRunning; split <;> rfl

end Sys2Proof.Laws
end

