-- ==== Sys2Proof/Laws/Tab.lean ====
section
/-! SUPPORT. Sparse tables: reads after writes, and the canonical form, which every table operation keeps. -/

namespace Sys2Proof.Laws

open Machine

variable {α : Type}

@[simp] theorem tabGet?_tabPut_same (t : Tab α) (x : Nat) (v : α) : tabGet? (tabPut t x v) x = some v := by
  induction t with
  | nil => simp [tabPut, tabGet?]
  | cons e t ih =>
    obtain ⟨k, u⟩ := e
    unfold tabPut
    split
    · simp [tabGet?]
    · split
      · simp [tabGet?]
      · rename_i h1 h2
        simp [tabGet?, ih, Ne.symm h2]

theorem tabGet?_tabPut_other (t : Tab α) {x y : Nat} (v : α) (h : y ≠ x) : tabGet? (tabPut t x v) y = tabGet? t y := by
  induction t with
  | nil => simp [tabPut, tabGet?, Ne.symm h]
  | cons e t ih =>
    obtain ⟨k, u⟩ := e
    unfold tabPut
    split
    · simp [tabGet?, Ne.symm h]
    · split
      · rename_i h2; subst h2; simp [tabGet?, Ne.symm h]
      · simp [tabGet?, ih]

@[simp] theorem tabGet?_tabDel_same (t : Tab α) (x : Nat) : tabGet? (tabDel t x) x = none := by
  induction t with
  | nil => rfl
  | cons e t ih =>
    obtain ⟨k, u⟩ := e
    unfold tabDel
    split
    · exact ih
    · rename_i h; simp [tabGet?, h, ih]

theorem tabGet?_tabDel_other (t : Tab α) {x y : Nat} (h : y ≠ x) : tabGet? (tabDel t x) y = tabGet? t y := by
  induction t with
  | nil => rfl
  | cons e t ih =>
    obtain ⟨k, u⟩ := e
    unfold tabDel
    split
    · rename_i hk; subst hk; simp [tabGet?, Ne.symm h, ih]
    · simp [tabGet?, ih]

@[simp] theorem tabGet_tabStore_same [DecidableEq α] (t : Tab α) (d : α) (x : Nat) (v : α) :
    tabGet (tabStore t d x v) d x = v := by
  unfold tabStore tabGet
  split <;> simp_all

theorem tabGet_tabStore_other [DecidableEq α] (t : Tab α) (d e : α) {x y : Nat} (v : α) (h : y ≠ x) :
    tabGet (tabStore t d x v) e y = tabGet t e y := by
  unfold tabStore tabGet
  split
  · rw [tabGet?_tabDel_other t h]
  · rw [tabGet?_tabPut_other t v h]

/-! ### The canonical form -/

/-- Keys strictly rising, as a chain. -/
theorem tabSorted_iff (t : Tab α) : tabSorted t = true ↔ (t.map Prod.fst).Pairwise (· < ·) := by
  rw [← List.isChain_iff_pairwise]
  induction t with
  | nil => simp [tabSorted]
  | cons e t ih =>
    cases t with
    | nil => simp [tabSorted]
    | cons e' t => simp only [tabSorted, Bool.and_eq_true, decide_eq_true_eq, ih, List.map_cons, List.isChain_cons_cons]

theorem tabPut_keys (t : Tab α) (x : Nat) (v : α) (k : Nat) (h : k ∈ (tabPut t x v).map Prod.fst) :
    k = x ∨ k ∈ t.map Prod.fst := by
  induction t with
  | nil => simpa [tabPut] using h
  | cons e t ih =>
    obtain ⟨k', u⟩ := e
    unfold tabPut at h
    split at h
    · simpa using h
    · split at h
      · simp only [List.map_cons, List.mem_cons] at h ⊢; tauto
      · simp only [List.map_cons, List.mem_cons] at h ⊢
        rcases h with h | h
        · tauto
        · have := ih h; tauto

theorem tabSorted_tabPut (t : Tab α) (x : Nat) (v : α) (h : tabSorted t = true) : tabSorted (tabPut t x v) = true := by
  rw [tabSorted_iff] at h ⊢
  induction t with
  | nil => simp [tabPut]
  | cons e t ih =>
    obtain ⟨k, u⟩ := e
    simp only [List.map_cons, List.pairwise_cons] at h
    unfold tabPut
    split
    · rename_i hx
      simp only [List.map_cons, List.pairwise_cons, List.mem_cons]
      refine ⟨?_, h⟩
      rintro a (rfl | ha)
      · exact hx
      · exact lt_trans hx (h.1 a ha)
    · split
      · rename_i hx; subst hx; simpa using h
      · rename_i h1 h2
        simp only [List.map_cons, List.pairwise_cons]
        refine ⟨fun a ha => ?_, ih h.2⟩
        rcases tabPut_keys t x v a ha with rfl | ha
        · omega
        · exact h.1 a ha

theorem tabDel_sublist (t : Tab α) (x : Nat) : (tabDel t x).Sublist t := by
  induction t with
  | nil => exact List.Sublist.slnil
  | cons e t ih =>
    obtain ⟨k, u⟩ := e
    unfold tabDel
    split
    · exact ih.cons _
    · exact ih.cons_cons _

theorem tabSorted_tabDel (t : Tab α) (x : Nat) (h : tabSorted t = true) : tabSorted (tabDel t x) = true := by
  rw [tabSorted_iff] at h ⊢
  exact h.sublist ((tabDel_sublist t x).map _)

theorem mem_tabPut (t : Tab α) (x : Nat) (v : α) (e : Nat × α) (h : e ∈ tabPut t x v) : e = (x, v) ∨ e ∈ t := by
  induction t with
  | nil => simpa [tabPut] using h
  | cons f t ih =>
    obtain ⟨k, u⟩ := f
    unfold tabPut at h
    split at h
    · simpa using h
    · split at h
      · simp only [List.mem_cons] at h ⊢; tauto
      · simp only [List.mem_cons] at h ⊢
        rcases h with h | h
        · tauto
        · have := ih h; tauto

/-- A store keeps the canonical form. -/
theorem tabCanon_tabStore [DecidableEq α] (t : Tab α) (d : α) (x : Nat) (v : α) (h : tabCanon (fun _ => d) t = true) :
    tabCanon (fun _ => d) (tabStore t d x v) = true := by
  simp only [tabCanon, Bool.and_eq_true, List.all_eq_true, decide_eq_true_eq] at h ⊢
  unfold tabStore
  split
  · exact ⟨tabSorted_tabDel t x h.1, fun e he => h.2 e ((tabDel_sublist t x).subset he)⟩
  · rename_i hv
    refine ⟨tabSorted_tabPut t x v h.1, fun e he => ?_⟩
    rcases mem_tabPut t x v e he with rfl | he
    · exact hv
    · exact h.2 e he

end Sys2Proof.Laws
end

