-- ==== Sys2Proof/Laws/Registers.lean ====
section
/-! SUPPORT. The register file: a register read after it, or another, is written; a field read after it, or another, is put. -/

namespace Sys2Proof.Laws

open Machine

theorem keyPage_regKey (p : Page) (off bank : Nat) : keyPage (regKey p off bank) = pageNum p := by
  unfold keyPage regKey; omega

theorem keyOff_regKey (p : Page) (off bank : Nat) : keyOff (regKey p off bank) = off % 4096 := by
  unfold keyOff regKey; omega

theorem keyBank_regKey (p : Page) (off bank : Nat) : keyBank (regKey p off bank) = bank % 65536 := by
  unfold keyBank regKey; omega

theorem blockNum_inj {a b : Block} (h : blockNum a = blockNum b) : a = b := by
  cases a <;> cases b <;> first | rfl | (exact absurd h (by decide))

theorem wingNum_inj {a b : Wing} (h : wingNum a = wingNum b) : a = b := by
  cases a <;> cases b <;> first | rfl | (exact absurd h (by decide))

theorem wingNum_lt (w : Wing) : wingNum w < 2 := by cases w <;> decide

/-- Two pages of one number are one page. -/
theorem pageNum_inj {p q : Page} (hp : p.inst < 32) (hq : q.inst < 32) (h : pageNum p = pageNum q) : p = q := by
  unfold pageNum at h
  have h1 := wingNum_lt p.wing
  have h2 := wingNum_lt q.wing
  have hb : blockNum p.block = blockNum q.block := by omega
  have hw : wingNum p.wing = wingNum q.wing := by omega
  have hi : p.inst = q.inst := by omega
  obtain ⟨b, w, i⟩ := p
  obtain ⟨b', w', i'⟩ := q
  simp only at hb hw hi
  rw [blockNum_inj hb, wingNum_inj hw, hi]

theorem pageNum_block {p q : Page} (h : pageNum p = pageNum q) : p.block = q.block := by
  unfold pageNum at h
  have h1 := wingNum_lt p.wing
  have h2 := wingNum_lt q.wing
  exact blockNum_inj (by omega)

@[simp] theorem homePage_block (p : Page) (off : Nat) : (homePage p off).block = p.block := by
  unfold homePage
  split
  · split <;> rfl
  · rfl

@[simp] theorem homePage_inst (p : Page) (off : Nat) : (homePage p off).inst = p.inst := by
  unfold homePage
  split
  · split <;> rfl
  · rfl

/-- A register written is read back. -/
@[simp] theorem rd_wr_same (h : Head) (p : Page) (off bank : Nat) (v : Word) : rd (wr h p off bank v) p off bank = v :=
  tabGet_tabStore_same _ _ _ _

/-- A register of another key is left alone. -/
theorem rd_wr_key (h : Head) (p q : Page) (off o bank b : Nat) (v : Word)
    (hk : regKey (homePage q o) o b ≠ regKey (homePage p off) off bank) : rd (wr h p off bank v) q o b = rd h q o b :=
  tabGet_tabStore_other _ _ _ _ hk

theorem rd_wr_off (h : Head) (p q : Page) (off o bank b : Nat) (v : Word) (hk : o % 4096 ≠ off % 4096) :
    rd (wr h p off bank v) q o b = rd h q o b :=
  rd_wr_key h p q off o bank b v (fun e => hk (by rw [← keyOff_regKey (homePage q o) o b, e, keyOff_regKey]))

theorem rd_wr_block (h : Head) (p q : Page) (off o bank b : Nat) (v : Word) (hk : q.block ≠ p.block) :
    rd (wr h p off bank v) q o b = rd h q o b :=
  rd_wr_key h p q off o bank b v (fun e => hk (by
    have := pageNum_block (by rw [← keyPage_regKey (homePage q o) o b, e, keyPage_regKey] : pageNum (homePage q o) = pageNum (homePage p off))
    simpa using this))

theorem rd_wr_bank (h : Head) (p q : Page) (off o bank b : Nat) (v : Word) (hk : b % 65536 ≠ bank % 65536) :
    rd (wr h p off bank v) q o b = rd h q o b :=
  rd_wr_key h p q off o bank b v (fun e => hk (by rw [← keyBank_regKey (homePage q o) o b, e, keyBank_regKey]))

/-- A field set is read back, cut to its width. -/
theorem fget_fset_same (h : Head) (w : Wing) (f : Fld) (v bank inst : Nat) (hl : f.lo ≤ f.hi) (h32 : f.hi < 32) :
    fget (fset h w f v bank inst) w f bank inst = v % 2 ^ (f.hi - f.lo + 1) := by
  unfold fget fset
  rw [rd_wr_same, bitsOf_putBits_same _ _ _ _ hl h32]

/-- A field of another register is left alone. -/
theorem fget_fset_off (h : Head) (w x : Wing) (f g : Fld) (v bank b inst i : Nat) (hk : g.off % 4096 ≠ f.off % 4096) :
    fget (fset h w f v bank inst) x g b i = fget h x g b i := by
  unfold fget fset
  rw [rd_wr_off _ _ _ _ _ _ _ _ hk]

theorem fget_fset_block (h : Head) (w x : Wing) (f g : Fld) (v bank b inst i : Nat) (hk : g.block ≠ f.block) :
    fget (fset h w f v bank inst) x g b i = fget h x g b i := by
  unfold fget fset
  rw [rd_wr_block _ _ _ _ _ _ _ _ (by exact hk)]

/-- Another field of the same register is left alone. -/
theorem fget_fset_field (h : Head) (w : Wing) (f g : Fld) (v bank inst : Nat) (hb : g.block = f.block) (ho : g.off = f.off)
    (hl : f.lo ≤ f.hi) (hg : g.lo ≤ g.hi) (h32 : g.hi < 32) (hd : g.hi < f.lo ∨ f.hi < g.lo) :
    fget (fset h w f v bank inst) w g bank inst = fget h w g bank inst := by
  unfold fget fset
  rw [hb, ho, rd_wr_same, bitsOf_putBits_other _ _ _ _ _ _ hl h32 hg hd]

theorem hget_hset_same (h : Head) (p : Page) (f : HBits) (v : Nat) (hl : f.lo ≤ f.hi) (h32 : f.hi < 32) :
    hget (hset h p f v) p f = v % 2 ^ (f.hi - f.lo + 1) := by
  unfold hget hset
  rw [rd_wr_same, bitsOf_putBits_same _ _ _ _ hl h32]

theorem hget_hset_off (h : Head) (p q : Page) (f g : HBits) (v : Nat) (hk : g.off % 4096 ≠ f.off % 4096) :
    hget (hset h p f v) q g = hget h q g := by
  unfold hget hset
  rw [rd_wr_off _ _ _ _ _ _ _ _ hk]

theorem hget_hset_field (h : Head) (p : Page) (f g : HBits) (v : Nat) (ho : g.off = f.off)
    (hl : f.lo ≤ f.hi) (hg : g.lo ≤ g.hi) (h32 : g.hi < 32) (hd : g.hi < f.lo ∨ f.hi < g.lo) :
    hget (hset h p f v) p g = hget h p g := by
  unfold hget hset
  rw [ho, rd_wr_same, bitsOf_putBits_other _ _ _ _ _ _ hl h32 hg hd]

theorem fget_lt (h : Head) (w : Wing) (f : Fld) (bank inst : Nat) : fget h w f bank inst < 2 ^ (f.hi - f.lo + 1) :=
  bitsOf_lt _ _ _

/-- Writes and other operations that leave the register file alone leave every register alone. -/
theorem rd_congr {h g : Head} (hr : h.regs = g.regs) (p : Page) (off bank : Nat) : rd h p off bank = rd g p off bank := by
  unfold rd; rw [hr]

theorem fget_congr {h g : Head} (hr : h.regs = g.regs) (w : Wing) (f : Fld) (bank inst : Nat) :
    fget h w f bank inst = fget g w f bank inst := by
  unfold fget; rw [rd_congr hr]

end Sys2Proof.Laws
end

