-- ==== Sys2Proof/Laws/Access.lean ====
section
/-! SUPPORT. Register accesses: an address of a page decodes to it, and a write that the gates let through reaches its register. -/

namespace Sys2Proof.Laws

open Machine Machine.Reg

theorem blockInstances_le (b : Block) : blockInstances b ≤ 32 := by cases b <;> decide

theorem blockCode_lt (b : Block) : blockCode b < 64 := by cases b <;> decide

theorem blockOfArray_code (b : Block) (h : isDocent b = false) : blockOfArray (blockCode b) = some b := by
  cases b <;> first | rfl | (exact absurd h (by decide))

theorem blockOfDocent_code (b : Block) (h : isDocent b = true) : blockOfDocent (blockCode b) = some b := by
  cases b <;> first | rfl | (exact absurd h (by decide))

theorem blockInstances_docent (b : Block) (h : isDocent b = true) : blockInstances b = 1 := by
  cases b <;> first | rfl | (exact absurd h (by decide))

theorem wingOf_wingNum (w : Wing) : wingOf (wingNum w) = w := by cases w <;> rfl

/-- The fields of an address within a window (R50). -/
theorem window_fields (w code inst off : Nat) (hw : w < 2) (hc : code < 64) (hi : inst < 64) (ho : off < 4096) :
    let a := w <<< 24 + code <<< 18 + inst <<< 12 + off
    a < windowSize ∧ a >>> 24 = w ∧ a >>> 18 % 64 = code ∧ a >>> 12 % 64 = inst ∧ a % 4096 = off := by
  simp only [Nat.shiftLeft_eq, Nat.shiftRight_eq_div_pow, windowSize]
  refine ⟨?_, ?_, ?_, ?_, ?_⟩ <;> omega

/-- An address of a page decodes to the page (R50, R51). -/
theorem decodeAddr_pageAddr (p : Page) (off : Nat) (hp : pageOk p = true) (ho : off < 4096) :
    decodeAddr (pageAddr p + off) = .page (if isDocent p.block then .docent else .array) p off := by
  obtain ⟨b, w, i⟩ := p
  simp only [pageOk, Bool.and_eq_true, decide_eq_true_eq] at hp
  have hi := hp.1
  have hle := blockInstances_le b
  obtain ⟨h1, h2, h3, h4, h5⟩ := window_fields (wingNum w) (blockCode b) i off (wingNum_lt w) (blockCode_lt b) (by omega) ho
  generalize hx : wingNum w <<< 24 + blockCode b <<< 18 + i <<< 12 + off = x at h1 h2 h3 h4 h5
  have hws : windowSize = 0x2000000 := rfl
  rw [hws] at h1
  cases hd : isDocent b
  · have ha : pageAddr ⟨b, w, i⟩ + off = 0x00F000000000 + x := by unfold pageAddr; simp only [hd, Bool.false_eq_true, if_false]; omega
    rw [ha]
    unfold decodeAddr
    rw [hws, if_pos ⟨by omega, by omega⟩, Nat.add_sub_cancel_left]
    unfold decodeWindow
    simp only [h2, h3, h4, h5, wingOf_wingNum, blockOfArray_code b hd, if_pos hi]
    rfl
  · have ha : pageAddr ⟨b, w, i⟩ + off = 0x00F400000000 + x := by unfold pageAddr; simp only [hd, if_true]; omega
    have he : w = .east := by simpa [hd] using hp.2
    have h0 : i = 0 := by have := blockInstances_docent b hd; omega
    subst he h0
    rw [ha]
    unfold decodeAddr
    rw [hws, if_neg (by omega), if_pos ⟨by omega, by omega⟩, Nat.add_sub_cancel_left]
    unfold decodeWindow
    simp only [h2, h3, h4, h5, wingOf_wingNum, blockOfDocent_code b hd, and_self, if_true]

theorem gateAccess_write (h : Head) (ini : Initiator) (p : Page) (off : Nat) (hw : Writable h ini p off) :
    gateAccess h ini (pageAddr p + off) 4 true = .pass (if isDocent p.block then .docent else .array) p off (reply h false) := by
  have hal : (pageAddr p + off) % 4 = 0 := by
    have := hw.word
    unfold pageAddr
    simp only [Nat.shiftLeft_eq]
    split <;> omega
  unfold gateAccess
  rw [decodeAddr_pageAddr p off hw.page hw.inPage]
  cases hd : isDocent p.block
  · simp [hal]
  · simp [hal, hw.firewall hd]

theorem gateWrite_ok (h : Head) (ini : Initiator) (p : Page) (off : Nat) (hw : Writable h ini p off) :
    gateWrite (reply h false) ini p off = .pass .array p off (reply h false) := by
  unfold gateWrite
  have ho : ownerRefuses (reply h false) ini p = false := hw.owner
  dsimp only
  rw [if_neg (by rw [ho]; decide), if_neg (fun hc => (hw.live hc.1).1 hc.2), if_neg (fun hc => (hw.live hc.1).2 hc.2)]

/-- A write that the gates let through has its effect on the head with the reply of a completed access. -/
theorem withWrite_ok (h : Head) (ini : Initiator) (p : Page) (off : Nat) (f : Head → Head) (hw : Writable h ini p off) :
    withWrite h ini p off f = f (reply h false) := by
  unfold withWrite
  rw [gateAccess_write h ini p off hw]
  dsimp only
  rw [gateWrite_ok h ini p off hw]

theorem withHeader_ok (h : Head) (ini : Initiator) (p : Page) (off : Nat) (f : Head → Page → Head) (hw : Writable h ini p off) :
    withHeader h ini p off f = f (reply h false) p := by
  unfold withHeader
  rw [gateAccess_write h ini p off hw]
  dsimp only
  rw [gateWrite_ok h ini p off hw]

theorem writeAccess_ok (h : Head) (ini : Initiator) (p : Page) (off : Nat) (v : Word) (hw : Writable h ini p off) :
    writeAccess h ini (pageAddr p + off) v =
      if off < 0x40 then headerWrite (reply h false) ini p off v else pageWrite (reply h false) ini p off v := by
  unfold writeAccess
  rw [gateAccess_write h ini p off hw]
  dsimp only
  rw [gateWrite_ok h ini p off hw]

end Sys2Proof.Laws
end

