-- ==== Sys2Proof/Laws/Frames.lean ====
section
/-! SUPPORT. Frames: what the named operations leave alone, as the statements say it; and the event that a raise sets. -/

namespace Sys2Proof.Laws

open Machine Machine.Reg

variable {h g k : Head} {l : List (Block × Nat)}

theorem regsBut_refl (h : Head) (l : List (Block × Nat)) : RegsBut h h l := fun _ _ _ _ _ => rfl

theorem regsBut_trans (a : RegsBut h g l) (b : RegsBut g k l) : RegsBut h k l :=
  fun p off bank ho hn => (b p off bank ho hn).trans (a p off bank ho hn)

theorem regsBut_congr (hr : g.regs = k.regs) (a : RegsBut h g l) : RegsBut h k l :=
  fun p off bank ho hn => (rd_congr hr p off bank).symm.trans (a p off bank ho hn)

theorem regsBut_wr {p : Page} {off bank : Nat} {v : Word} (a : RegsBut h g l) (hm : (p.block, off % 4096) ∈ l) :
    RegsBut h (wr g p off bank v) l := by
  intro q o b ho hn
  rw [← a q o b ho hn]
  by_cases hb : q.block = p.block
  · refine rd_wr_off _ _ _ _ _ _ _ _ (fun e => hn ?_)
    rw [hb, show o = off % 4096 by omega]; exact hm
  · exact rd_wr_block _ _ _ _ _ _ _ _ hb

theorem regsBut_fset {w : Wing} {f : Fld} {v bank inst : Nat} (a : RegsBut h g l) (hm : (f.block, f.off % 4096) ∈ l) :
    RegsBut h (fset g w f v bank inst) l := regsBut_wr (p := pg f.block w inst) a hm

theorem regsBut_hset {p : Page} {f : HBits} {v : Nat} (a : RegsBut h g l) (hm : (p.block, f.off % 4096) ∈ l) :
    RegsBut h (hset g p f v) l := regsBut_wr a hm

theorem regsBut_raiseAt {p : Page} {n : Nat} (a : RegsBut h g l) (hm : (p.block, 0x010) ∈ l) : RegsBut h (raiseAt g p n) l := by
  unfold Machine.raiseAt
  dsimp only
  split
  · exact a
  · split
    · exact regsBut_congr rfl (regsBut_hset (f := EVT_STATUS_EVENTS) a hm)
    · exact regsBut_hset (f := EVT_STATUS_EVENTS) a hm

theorem regsBut_raise {w : Wing} {e : EvRef} {inst : Nat} (a : RegsBut h g l) (hm : (e.block, 0x010) ∈ l) :
    RegsBut h (raise g w e inst) l := regsBut_raiseAt (p := pg e.block w inst) a hm

theorem sameButRegs_refl (h : Head) : SameButRegs h h := rfl

theorem sameButRegs_trans (a : SameButRegs h g) (b : SameButRegs g k) : SameButRegs h k := by
  unfold SameButRegs at *; rw [b, a]

theorem sameButRegs_wr {p : Page} {off bank : Nat} {v : Word} (a : SameButRegs h g) : SameButRegs h (wr g p off bank v) :=
  sameButRegs_trans a rfl

theorem sameButRegs_fset {w : Wing} {f : Fld} {v bank inst : Nat} (a : SameButRegs h g) : SameButRegs h (fset g w f v bank inst) :=
  sameButRegs_trans a rfl

theorem sameButRegs_hset {p : Page} {f : HBits} {v : Nat} (a : SameButRegs h g) : SameButRegs h (hset g p f v) := sameButRegs_trans a rfl

theorem sameButRegs_raiseAt {p : Page} {n : Nat} (a : SameButRegs h g) : SameButRegs h (raiseAt g p n) := by
  refine sameButRegs_trans a ?_
  unfold Machine.raiseAt SameButRegs
  dsimp only
  split
  · rfl
  · split <;> rfl

theorem sameButRegs_raise {w : Wing} {e : EvRef} {inst : Nat} (a : SameButRegs h g) : SameButRegs h (raise g w e inst) :=
  sameButRegs_raiseAt a

/-- An event raised is set in its page's EVT_STATUS (R70). -/
theorem raiseAt_sets (h : Head) (p : Page) (n : Nat) (hn : n < 32) : (hget (raiseAt h p n) p EVT_STATUS_EVENTS).testBit n = true := by
  unfold Machine.raiseAt
  dsimp only
  split
  · assumption
  · have key : (hget (Machine.hset h p EVT_STATUS_EVENTS (hget h p EVT_STATUS_EVENTS ||| 1 <<< n)) p EVT_STATUS_EVENTS).testBit n = true := by
      rw [hget_hset_same _ _ _ _ (by decide) (by decide), Nat.testBit_mod_two_pow, Nat.testBit_or, Nat.testBit_shiftLeft]
      have : EVT_STATUS_EVENTS.hi - EVT_STATUS_EVENTS.lo + 1 = 32 := by decide
      simp [this, hn]
    split
    · exact key
    · exact key

end Sys2Proof.Laws
end

