-- ==== Sys2Proof/Laws/Memory.lean ====
section
/-! SUPPORT. Memory: a byte read after a byte written, and the canonical form, which every operation over memory keeps. -/

namespace Sys2Proof.Laws

open Machine

@[simp] theorem memByte_memSet_same (m : List Host.Cell) (a : Nat) (b : BitVec 8) : memByte (memSet m a b) a = b :=
  tabGet_tabStore_same m memDefault a b

theorem memByte_memSet_other (m : List Host.Cell) {a c : Nat} (b : BitVec 8) (h : c ≠ a) :
    memByte (memSet m a b) c = memByte m c :=
  tabGet_tabStore_other m memDefault memDefault b h

theorem memSet_wf (m : List Host.Cell) (a : Nat) (b : BitVec 8) (h : Memory.wf m) : Memory.wf (memSet m a b) :=
  tabCanon_tabStore m memDefault a b h

/-- Bytes written outside an address leave its byte alone. -/
theorem memByte_memPut_outside (n : Nat) : ∀ (m : List Host.Cell) (a v c : Nat), (c < a ∨ a + n ≤ c) →
    memByte (memPut m a n v) c = memByte m c := by
  induction n with
  | zero => intro m a v c _; rfl
  | succ n ih =>
    intro m a v c h
    unfold memPut
    rw [ih _ _ _ _ (by omega), memByte_memSet_other _ _ (by omega)]

/-- Bytes written are read back, the lowest first (R4). -/
theorem memByte_memPut_inside (n : Nat) : ∀ (m : List Host.Cell) (a v k : Nat), k < n →
    memByte (memPut m a n v) (a + k) = BitVec.ofNat 8 (v / 256 ^ k) := by
  induction n with
  | zero => intro m a v k h; omega
  | succ n ih =>
    intro m a v k h
    unfold memPut
    cases k with
    | zero => rw [memByte_memPut_outside _ _ _ _ _ (by omega)]; simp
    | succ k =>
      have := ih (memSet m a (BitVec.ofNat 8 v)) (a + 1) (v / 256) k (by omega)
      rw [show a + (k + 1) = a + 1 + k by omega, this, Nat.div_div_eq_div_mul, Nat.pow_succ, Nat.mul_comm]

/-- The canonical form is kept by every write (memPut). -/
theorem memPut_wf (n : Nat) : ∀ (m : List Host.Cell) (a v : Nat), Memory.wf m → Memory.wf (memPut m a n v) := by
  induction n with
  | zero => intro m a v h; exact h
  | succ n ih => intro m a v h; exact ih _ _ _ (memSet_wf _ _ _ h)

theorem memWrite_wf (h : Head) (a n v : Nat) (hm : Memory.wf h.mem) : Memory.wf (memWrite h a n v).mem := memPut_wf n _ _ _ hm

theorem placeAll_wf (l : List Placed) : ∀ (h : Head), Memory.wf h.mem → Memory.wf (placeAll h l).mem := by
  induction l with
  | nil => intro h hm; exact hm
  | cons p l ih => intro h hm; exact ih _ (memWrite_wf h _ _ _ hm)

end Sys2Proof.Laws
end

