-- ==== Sys2Proof/Laws/Step.lean ====
section
/-! SUPPORT. What each command's arm is, and what every step has in common: a meaning is an effect on the head followed by settle; the
queue is its own. -/

namespace Sys2Proof.Laws

open Machine

theorem exec_registerWrite (ini : Initiator) (addr : Nat) (value : Word) :
    exec (.registerWrite ini addr value) = lift (fun h => registerWrite h ini addr value) := rfl
theorem exec_partialAccess (ini : Initiator) (addr : Nat) (size : Nat) (write : Bool) :
    exec (.partialAccess ini addr size write) = lift (fun h => stoppedAccess h ini addr size write) := rfl
theorem exec_pairLoRead (ini : Initiator) (addr : Nat) :
    exec (.pairLoRead ini addr) = lift (fun h => readAccess h ini addr) := rfl
theorem exec_pairHiWrite (ini : Initiator) (addr : Nat) (value : Word) :
    exec (.pairHiWrite ini addr value) = lift (fun h => pairHiWrite h ini addr value) := rfl
theorem exec_undecodedAccess (ini : Initiator) (addr : Nat) (write : Bool) :
    exec (.undecodedAccess ini addr write) = lift (fun h => stoppedAccess h ini addr 4 write) := rfl
theorem exec_firewallAccess (ini : Initiator) (addr : Nat) (write : Bool) :
    exec (.firewallAccess ini addr write) = lift (fun h => stoppedAccess h ini addr 4 write) := rfl
theorem exec_errInfoClear (ini : Initiator) (page : Page) :
    exec (.errInfoClear ini page) = lift (fun h => errInfoClear h ini page) := rfl
theorem exec_commitGo (ini : Initiator) (page : Page) :
    exec (.commitGo ini page) = lift (fun h => commitGo h ini page) := rfl
theorem exec_blockReset (ini : Initiator) (page : Page) :
    exec (.blockReset ini page) = lift (fun h => blockResetCmd h ini page) := rfl
theorem exec_quiesceRequest (ini : Initiator) (page : Page) (enable : Bool) (quiesce : Bool) :
    exec (.quiesceRequest ini page enable quiesce) = lift (fun h => quiesceRequest h ini page enable quiesce) := rfl
theorem exec_quiesceDone (page : Page) :
    exec (.quiesceDone page) = lift (fun h => quiesceDone h page) := rfl
theorem exec_blockEnable (ini : Initiator) (page : Page) :
    exec (.blockEnable ini page) = lift (fun h => blockEnable h ini page) := rfl
theorem exec_instanceFence (ini : Initiator) (page : Page) :
    exec (.instanceFence ini page) = lift (fun h => instanceFence h ini page) := rfl
theorem exec_instanceUnfence (ini : Initiator) (page : Page) :
    exec (.instanceUnfence ini page) = lift (fun h => instanceUnfence h ini page) := rfl
theorem exec_blockFault (page : Page) (tags : List Nat) :
    exec (.blockFault page tags) = lift (fun h => blockFault h page tags) := rfl
theorem exec_evtStatusClear (ini : Initiator) (page : Page) (mask : Word) (again : Word) :
    exec (.evtStatusClear ini page mask again) = lift (fun h => evtStatusClear h ini page mask again) := rfl
theorem exec_evtEnableWrite (ini : Initiator) (page : Page) (value : Word) :
    exec (.evtEnableWrite ini page value) = lift (fun h => evtEnableWrite h ini page value) := rfl
theorem exec_evtForce (ini : Initiator) (page : Page) (mask : Word) :
    exec (.evtForce ini page mask) = lift (fun h => evtForce h ini page mask) := rfl
theorem exec_evtSwRaise (ini : Initiator) (wing : Wing) (value : Word) :
    exec (.evtSwRaise ini wing value) = lift (fun h => swRaise h ini wing value) := rfl
theorem exec_routeDataWrite (ini : Initiator) (wing : Wing) (value : Word) :
    exec (.routeDataWrite ini wing value) = lift (fun h => routeWrite h ini wing value) := rfl
theorem exec_routeError (wing : Wing) (entry : Nat) :
    exec (.routeError wing entry) = lift (fun h => routeError h wing (entry % 1024)) := rfl
theorem exec_wgStall (group : Nat) :
    exec (.wgStall group) = lift (fun h => wgStall h group) := rfl
theorem exec_wgWake (ini : Initiator) (wing : Wing) (value : Word) :
    exec (.wgWake ini wing value) = lift (fun h => wgWake h ini wing value) := rfl
theorem exec_wgMembersWrite (ini : Initiator) (wing : Wing) (lo : Word) (hi : Word) :
    exec (.wgMembersWrite ini wing lo hi) = lift (fun h => wgMembers h ini wing lo hi) := rfl
theorem exec_keyErase : exec .keyErase = lift eraseKeys := rfl
theorem exec_quotaShrink (wing : Wing) :
    exec (.quotaShrink wing) = lift (fun h => shrinkStart h wing) := rfl
theorem exec_foyerPause (wing : Wing) :
    exec (.foyerPause wing) = lift (fun h => foyerPause h wing) := rfl
theorem exec_accessionHold (wing : Wing) :
    exec (.accessionHold wing) = lift (fun h => accessionHold h wing) := rfl
theorem exec_frameTick (lateE : Option Nat) (lateW : Option Nat) :
    exec (.frameTick lateE lateW) = lift (fun h => frameTick h lateE lateW) := rfl
theorem exec_slotBoundary : exec .slotBoundary = lift slotBoundary := rfl
theorem exec_scheduleDeadline (wing : Wing) :
    exec (.scheduleDeadline wing) = lift (fun h => scheduleDeadline h wing) := rfl
theorem exec_tickMarker (port : Wing) (payload : Word) (flagged : Bool) (arrival : Nat) :
    exec (.tickMarker port payload flagged arrival) = lift (fun h => tickMarker h port payload flagged arrival) := rfl
theorem exec_missedTick : exec .missedTick = lift missedTick := rfl
theorem exec_lengthSetChange (ini : Initiator) (wing : Wing) :
    exec (.lengthSetChange ini wing) = lift (fun h => lengthSetChange h ini wing) := rfl
theorem exec_lengthChanged : exec .lengthChanged = lift lengthChanged := rfl
theorem exec_ptpOffsetWrite (ini : Initiator) (value : Word) :
    exec (.ptpOffsetWrite ini value) = lift (fun h => ptpOffsetWrite h ini value) := rfl
theorem exec_clrCounts (ini : Initiator) (wing : Wing) :
    exec (.clrCounts ini wing) = lift (fun h => clrCounts h ini wing) := rfl
theorem exec_foyLinkChange (wing : Wing) (port : Nat) (link : Nat) (up : Bool) :
    exec (.foyLinkChange wing port link up) = lift (fun h => foyLinkChange h wing port link up) := rfl
theorem exec_fecDegraded (wing : Wing) (port : Nat) (link : Nat) :
    exec (.fecDegraded wing port link) = lift (fun h => fecDegraded h wing port link) := rfl
theorem exec_pauseFrame (wing : Wing) (port : Nat) (prio : Nat) (on : Bool) :
    exec (.pauseFrame wing port prio on) = lift (fun h => pauseFrame h wing port prio on) := rfl
theorem exec_pfcStorm (wing : Wing) (port : Nat) (prio : Nat) :
    exec (.pfcStorm wing port prio) = lift (fun h => pfcStorm h wing port prio) := rfl
theorem exec_pfcStormEnd (wing : Wing) (port : Nat) (prio : Nat) :
    exec (.pfcStormEnd wing port prio) = lift (fun h => pfcStormEnd h wing port prio) := rfl
theorem exec_ceMarkedPacket (wing : Wing) (port : Nat) (ctx : Nat) :
    exec (.ceMarkedPacket wing port ctx) = lift (fun h => ceMarkedPacket h wing port ctx) := rfl
theorem exec_cnpReceived (wing : Wing) (port : Nat) (ctx : Nat) :
    exec (.cnpReceived wing port ctx) = lift (fun h => cnpReceived h wing port ctx) := rfl
theorem exec_rateRecover (wing : Wing) (port : Nat) (ctx : Nat) :
    exec (.rateRecover wing port ctx) = lift (fun h => rateRecover h wing port ctx) := rfl
theorem exec_ptpEventMessage (wing : Wing) (port : Nat) (time : Nat) :
    exec (.ptpEventMessage wing port time) = lift (fun h => ptpEventMessage h wing port time) := rfl
theorem exec_connectionRequest (wing : Wing) (port : Nat) (type : Nat) (pmtu : Nat) :
    exec (.connectionRequest wing port type pmtu) = lift (fun h => connectionRequest h wing port type pmtu) := rfl
theorem exec_authComplete (wing : Wing) (ctx : Nat) (good : Bool) (kind : AuthKind) :
    exec (.authComplete wing ctx good kind) = lift (fun h => authComplete h wing ctx good kind) := rfl
theorem exec_ctxBindWrite (ini : Initiator) (wing : Wing) (value : Word) :
    exec (.ctxBindWrite ini wing value) = lift (fun h => ctxBindWrite h ini wing value) := rfl
theorem exec_collEntryWrite (ini : Initiator) (wing : Wing) (burst : Bool) (value : Word) :
    exec (.collEntryWrite ini wing burst value) = lift (fun h => collEntryWrite h ini wing burst value) := rfl
theorem exec_commandCapsule (cap : Capsule) :
    exec (.commandCapsule cap) = lift (fun h => commandCapsule h cap) := rfl
theorem exec_keepAlive (cap : Capsule) :
    exec (.keepAlive cap) = lift (fun h => keepAlive h cap) := rfl
theorem exec_commandAdmit (wing : Wing) (ctx : Nat) (queue : Nat) (cid : Nat) (data : List Nat) (pi : List PiTuple) :
    exec (.commandAdmit wing ctx queue cid data pi) = lift (fun h => commandAdmit h wing ctx queue cid data pi) := rfl
theorem exec_boundLong (wing : Wing) :
    exec (.boundLong wing) = lift (fun h => boundLong h wing) := rfl
theorem exec_foqResume (ini : Initiator) (wing : Wing) (again : Bool) :
    exec (.foqResume ini wing again) = lift (fun h => foqResume h ini wing again) := rfl
theorem exec_fusedRecordAck (host : Nat) (nsid : Nat) (slba : Nat) (cid : Nat) :
    exec (.fusedRecordAck host nsid slba cid) = lift (fun h => dropFused h host nsid slba cid) := rfl
theorem exec_fusedHoldExpiry (host : Nat) (nsid : Nat) (slba : Nat) (cid : Nat) :
    exec (.fusedHoldExpiry host nsid slba cid) = lift (fun h => dropFused h host nsid slba cid) := rfl
theorem exec_hostCompletion (wing : Wing) (fin : HostEnd) :
    exec (.hostCompletion wing fin) = lift (fun h => hostCompletion h wing fin) := rfl
theorem exec_mftDescWrite (wing : Wing) (src : Source) :
    exec (.mftDescWrite wing src) = lift (fun h => mftDescWrite h wing src) := rfl
theorem exec_mftDescRead (wing : Wing) (src : Source) :
    exec (.mftDescRead wing src) = lift (fun h => mftDescRead h wing src) := rfl
theorem exec_mftDescSend (wing : Wing) (src : Source) :
    exec (.mftDescSend wing src) = lift (fun h => mftDescSend h wing src) := rfl
theorem exec_mftDescAtomicAdd (wing : Wing) (src : Source) :
    exec (.mftDescAtomicAdd wing src) = lift (fun h => mftDescAtomic h wing src false) := rfl
theorem exec_mftDescAtomicCas (wing : Wing) (src : Source) :
    exec (.mftDescAtomicCas wing src) = lift (fun h => mftDescAtomic h wing src true) := rfl
theorem exec_postRecv (wing : Wing) (src : Source) :
    exec (.postRecv wing src) = lift (fun h => postRecv h wing src) := rfl
theorem exec_mftWritePacket (wing : Wing) (p : MftPacket) :
    exec (.mftWritePacket wing p) = lift (fun h => mftWritePacket h wing p) := rfl
theorem exec_mftReadPacket (wing : Wing) (p : MftPacket) :
    exec (.mftReadPacket wing p) = lift (fun h => mftReadPacket h wing p) := rfl
theorem exec_readResp (wing : Wing) (p : MftPacket) :
    exec (.readResp wing p) = lift (fun h => mftReadResp h wing p) := rfl
theorem exec_mftSendPacket (wing : Wing) (p : MftPacket) :
    exec (.mftSendPacket wing p) = lift (fun h => mftSendPacket h wing p) := rfl
theorem exec_mftAtomicAddPacket (wing : Wing) (p : MftPacket) :
    exec (.mftAtomicAddPacket wing p) = lift (fun h => mftAtomicPacket h wing p 5) := rfl
theorem exec_mftAtomicCasPacket (wing : Wing) (p : MftPacket) :
    exec (.mftAtomicCasPacket wing p) = lift (fun h => mftAtomicPacket h wing p 6) := rfl
theorem exec_atomicResp (wing : Wing) (p : MftPacket) :
    exec (.atomicResp wing p) = lift (fun h => mftAtomicResp h wing p) := rfl
theorem exec_mftAck (wing : Wing) (p : MftPacket) (time : Nat) :
    exec (.mftAck wing p time) = lift (fun h => mftAck h wing p time) := rfl
theorem exec_mftNak (wing : Wing) (p : MftPacket) (time : Nat) :
    exec (.mftNak wing p time) = lift (fun h => mftNak h wing p time) := rfl
theorem exec_ackDelay (wing : Wing) (ctx : Nat) :
    exec (.ackDelay wing ctx) = lift (fun h => ackDelay h wing ctx) := rfl
theorem exec_rtoExpiry (wing : Wing) (ctx : Nat) (psn : Nat) :
    exec (.rtoExpiry wing ctx psn) = lift (fun h => rtoExpiry h wing ctx psn) := rfl
theorem exec_rnrDelay (wing : Wing) (ctx : Nat) (psn : Nat) :
    exec (.rnrDelay wing ctx psn) = lift (fun h => rnrDelay h wing ctx psn) := rfl
theorem exec_mftOpen (ini : Initiator) (wing : Wing) :
    exec (.mftOpen ini wing) = lift (fun h => mftCommand h ini wing 1) := rfl
theorem exec_mftClose (ini : Initiator) (wing : Wing) :
    exec (.mftClose ini wing) = lift (fun h => mftCommand h ini wing 2) := rfl
theorem exec_closeDone (wing : Wing) (ctx : Nat) :
    exec (.closeDone wing ctx) = lift (fun h => closeDone h wing ctx) := rfl
theorem exec_granulePlace (wing : Wing) (tag : Nat) (idx : Nat) :
    exec (.granulePlace wing tag idx) = lift (fun h => granulePlace h wing tag idx) := rfl
theorem exec_anxMirror (port : Wing) (mtag : Nat) (coll : Nat) (es : List MirrorEntry) (fused : List FusedRec) :
    exec (.anxMirror port mtag coll es fused) = lift (fun h => mirrorMsg h port mtag coll es fused) := rfl
theorem exec_mirrorAck (mtag : Nat) (status : Status) (latency : Nat) :
    exec (.mirrorAck mtag status latency) = lift (fun h => mirrorAck h mtag status latency) := rfl
theorem exec_mirrorResend (mtag : Nat) :
    exec (.mirrorResend mtag) = lift (fun h => mirrorResend h mtag) := rfl
theorem exec_catUpdate (port : Wing) (mtag : Nat) (coll : Nat) (es : List CatEntry) :
    exec (.catUpdate port mtag coll es) = lift (fun h => catUpdateMsg h port mtag coll es) := rfl
theorem exec_catAck (mtag : Nat) (status : Status) :
    exec (.catAck mtag status) = lift (fun h => catAckMsg h mtag status) := rfl
theorem exec_anxForward (port : Wing) (mtag : Nat) (coll : Nat) (cap : Capsule) (data : List Nat) :
    exec (.anxForward port mtag coll cap data) = lift (fun h => anxForward h port mtag coll cap data) := rfl
theorem exec_forwardResp (mtag : Nat) (sct : Nat) (sc : Nat) (dnr : Bool) (wseqs : List Nat) (data : List Nat) :
    exec (.forwardResp mtag sct sc dnr wseqs data) = lift (fun h => forwardRespMsg h mtag ⟨sct, sc, dnr⟩ wseqs data) := rfl
theorem exec_heartbeat (state : Nat) (prefer : Bool) (epoch : Nat) :
    exec (.heartbeat state prefer epoch) = lift (fun h => heartbeatMsg h state prefer epoch) := rfl
theorem exec_heartbeatSend : exec .heartbeatSend = lift heartbeatSend := rfl
theorem exec_heartbeatLoss : exec .heartbeatLoss = lift heartbeatLoss := rfl
theorem exec_ownership (port : Wing) (mtag : Nat) (coll : Nat) (give : Bool) (nsids : List Nat) :
    exec (.ownership port mtag coll give nsids) = lift (fun h => ownershipMsg h port mtag coll give nsids) := rfl
theorem exec_ownershipAck (mtag : Nat) (status : Status) :
    exec (.ownershipAck mtag status) = lift (fun h => ownershipAckMsg h mtag status) := rfl
theorem exec_resilver (port : Wing) (mtag : Nat) (coll : Nat) (es : List MirrorEntry) :
    exec (.resilver port mtag coll es) = lift (fun h => mirrorMsg h port mtag coll es []) := rfl
theorem exec_anxFlit (wing : Wing) (good : Bool) (ftype : Nat) (vc : Nat) (lseq : Nat) (acktype : Nat) (ackseq : Nat) (credits : List Nat) (mtype : Option Nat) :
    exec (.anxFlit wing good ftype vc lseq acktype ackseq credits mtype) = lift (fun h => anxFlit h wing good ftype vc lseq acktype ackseq credits mtype) := rfl
theorem exec_anxReplayTimer (wing : Wing) :
    exec (.anxReplayTimer wing) = lift (fun h => anxReplayTimer h wing) := rfl
theorem exec_anxRetrainTimeout (wing : Wing) :
    exec (.anxRetrainTimeout wing) = lift (fun h => anxRetrainTimeout h wing) := rfl
theorem exec_anxTrained (wing : Wing) (delay : Nat) (lanes : Nat) (expected : Nat) :
    exec (.anxTrained wing delay lanes expected) = lift (fun h => anxTrained h wing delay lanes expected) := rfl
theorem exec_anxTrainTimeout (wing : Wing) :
    exec (.anxTrainTimeout wing) = lift (fun h => anxTrainTimeout h wing) := rfl
theorem exec_anxRetrainCmd (ini : Initiator) (wing : Wing) :
    exec (.anxRetrainCmd ini wing) = lift (fun h => anxCtrlCmd h ini wing anxRetrainEffect) := rfl
theorem exec_anxClrStats (ini : Initiator) (wing : Wing) :
    exec (.anxClrStats ini wing) = lift (fun h => anxCtrlCmd h ini wing anxClrEffect) := rfl
theorem exec_leaseRenew : exec .leaseRenew = lift leaseRenew := rfl
theorem exec_leaseLapse : exec .leaseLapse = lift leaseLapse := rfl
theorem exec_witnessPoll : exec .witnessPoll = lift witnessPoll := rfl
theorem exec_takeover (micros : Nat) :
    exec (.takeover micros) = lift (fun h => takeoverRpl h micros) := rfl
theorem exec_isolateTimeout : exec .isolateTimeout = lift isolateTimeout := rfl
theorem exec_pairJoin (ini : Initiator) (wing : Wing) :
    exec (.pairJoin ini wing) = lift (fun h => pairCmd h ini wing joinEffect) := rfl
theorem exec_resilverDone : exec .resilverDone = lift resilverDone := rfl
theorem exec_giveback (ini : Initiator) (wing : Wing) :
    exec (.giveback ini wing) = lift (fun h => pairCmd h ini wing givebackEffect) := rfl
theorem exec_givebackBatch : exec .givebackBatch = lift givebackBatch := rfl
theorem exec_pairLeave (ini : Initiator) (wing : Wing) :
    exec (.pairLeave ini wing) = lift (fun h => pairCmd h ini wing leaveEffect) := rfl
theorem exec_shrinkStart (ini : Initiator) (wing : Wing) :
    exec (.shrinkStart ini wing) = lift (fun h => shrinkStartCmd h ini wing) := rfl
theorem exec_shrinkRestore (ini : Initiator) (wing : Wing) :
    exec (.shrinkRestore ini wing) = lift (fun h => shrinkRestoreCmd h ini wing) := rfl
theorem exec_overQuotaLong : exec .overQuotaLong = lift overQuotaLong := rfl
theorem exec_retainAdopt (ini : Initiator) (wing : Wing) :
    exec (.retainAdopt ini wing) = lift (fun h => retainAdopt h ini wing) := rfl
theorem exec_retainDiscard (ini : Initiator) (wing : Wing) :
    exec (.retainDiscard ini wing) = lift (fun h => retainDiscard h ini wing) := rfl
theorem exec_slotEcc (wing : Wing) (nsid : Nat) (granule : Nat) (wseq : Nat) :
    exec (.slotEcc wing nsid granule wseq) = lift (fun h => slotEcc h wing nsid granule wseq) := rfl
theorem exec_nsCreate (ini : Initiator) (wing : Wing) :
    exec (.nsCreate ini wing) = lift (fun h => nsCommand h ini wing nsCreate) := rfl
theorem exec_nsDelete (ini : Initiator) (wing : Wing) :
    exec (.nsDelete ini wing) = lift (fun h => nsCommand h ini wing nsDelete) := rfl
theorem exec_nsResize (ini : Initiator) (wing : Wing) :
    exec (.nsResize ini wing) = lift (fun h => nsCommand h ini wing nsResize) := rfl
theorem exec_nsFreeze (ini : Initiator) (wing : Wing) :
    exec (.nsFreeze ini wing) = lift (fun h => nsCommand h ini wing nsFreeze) := rfl
theorem exec_editionDelete (ini : Initiator) (wing : Wing) :
    exec (.editionDelete ini wing) = lift (fun h => nsCommand h ini wing editionDelete) := rfl
theorem exec_nsExpose (ini : Initiator) (wing : Wing) :
    exec (.nsExpose ini wing) = lift (fun h => nsCommand h ini wing nsExpose) := rfl
theorem exec_nsUnexpose (ini : Initiator) (wing : Wing) :
    exec (.nsUnexpose ini wing) = lift (fun h => nsCommand h ini wing nsUnexpose) := rfl
theorem exec_ckptNow (ini : Initiator) (wing : Wing) :
    exec (.ckptNow ini wing) = lift (fun h => ckptNow h ini wing) := rfl
theorem exec_ckptInterval : exec .ckptInterval = lift ckptInterval := rfl
theorem exec_ckptDone (loc : Nat) (ms : Nat) :
    exec (.ckptDone loc ms) = lift (fun h => checkpointDone h loc ms) := rfl
theorem exec_pageIn (nsid : Nat) (leaf : Nat) (sealOk : Bool) (rebuiltOk : Bool) :
    exec (.pageIn nsid leaf sealOk rebuiltOk) = lift (fun h => pageIn h nsid leaf sealOk rebuiltOk) := rfl
theorem exec_wayEnWrite (ini : Initiator) (wing : Wing) (value : Word) :
    exec (.wayEnWrite ini wing value) = lift (fun h => wayEnWrite h ini wing value) := rfl
theorem exec_wayCleanDone (wing : Wing) (way : Nat) (micros : Nat) :
    exec (.wayCleanDone wing way micros) = lift (fun h => wayCleanDone h wing way micros) := rfl
theorem exec_wayEccFence (wing : Wing) (way : Nat) (errors : Nat) :
    exec (.wayEccFence wing way errors) = lift (fun h => wayEccFence h wing way errors) := rfl
theorem exec_lineEcc (wing : Wing) (set : Nat) (way : Nat) :
    exec (.lineEcc wing set way) = lift (fun h => lineEcc h wing set way) := rfl
theorem exec_accessionBatch (wing : Wing) :
    exec (.accessionBatch wing) = lift (fun h => accessionBatch h wing) := rfl
theorem exec_compareReadDone (wing : Wing) (wseq : Nat) (status : Status) (same : Bool) (faulty : Bool) :
    exec (.compareReadDone wing wseq status same faulty) = lift (fun h => compareReadDone h wing wseq status same faulty) := rfl
theorem exec_rgsReindex (ini : Initiator) (wing : Wing) :
    exec (.rgsReindex ini wing) = lift (fun h => rgsReindex h ini wing) := rfl
theorem exec_replayDone : exec .replayDone = lift replayDone := rfl
theorem exec_unitFailed (cls : Block) (wing : Wing) (unit : Nat) (cause : Nat) :
    exec (.unitFailed cls wing unit cause) = lift (fun h => unitFailed h cls wing unit cause) := rfl
theorem exec_unitFence (ini : Initiator) (cls : Block) (wing : Wing) :
    exec (.unitFence ini cls wing) = lift (fun h => unitCommand h ini cls wing 1) := rfl
theorem exec_unitUnfence (ini : Initiator) (cls : Block) (wing : Wing) :
    exec (.unitUnfence ini cls wing) = lift (fun h => unitCommand h ini cls wing 2) := rfl
theorem exec_unitDrained (cls : Block) (wing : Wing) (unit : Nat) :
    exec (.unitDrained cls wing unit) = lift (fun h => unitDrained h cls wing unit) := rfl
theorem exec_dgeHash (wing : Wing) (src : Source) :
    exec (.dgeHash wing src) = lift (fun h => dgeHash h wing src) := rfl
theorem exec_dgeHmac (wing : Wing) (src : Source) :
    exec (.dgeHmac wing src) = lift (fun h => dgeHmac h wing src) := rfl
theorem exec_dgeCompare (wing : Wing) (src : Source) (faulty : Option Bool) :
    exec (.dgeCompare wing src faulty) = lift (fun h => dgeCompare h wing src faulty) := rfl
theorem exec_hmacVerify (wing : Wing) (src : Source) (faulty : Option Bool) :
    exec (.hmacVerify wing src faulty) = lift (fun h => dgeHmacVerify h wing src faulty) := rfl
theorem exec_stateSave (wing : Wing) (src : Source) :
    exec (.stateSave wing src) = lift (fun h => dgeStateSave h wing src) := rfl
theorem exec_stateRestore (wing : Wing) (src : Source) :
    exec (.stateRestore wing src) = lift (fun h => dgeStateRestore h wing src) := rfl
theorem exec_hkdfToSlot (wing : Wing) (src : Source) :
    exec (.hkdfToSlot wing src) = lift (fun h => dgeHkdf h wing src) := rfl
theorem exec_cdcAppend (wing : Wing) (src : Source) :
    exec (.cdcAppend wing src) = lift (fun h => cdcAppend h wing src) := rfl
theorem exec_cdcFlush (wing : Wing) (src : Source) :
    exec (.cdcFlush wing src) = lift (fun h => cdcFlush h wing src) := rfl
theorem exec_cdcExpand (wing : Wing) (src : Source) :
    exec (.cdcExpand wing src) = lift (fun h => cdcExpand h wing src) := rfl
theorem exec_bufCompress (wing : Wing) (src : Source) :
    exec (.bufCompress wing src) = lift (fun h => cdcBufCompress h wing src) := rfl
theorem exec_bufExpand (wing : Wing) (src : Source) :
    exec (.bufExpand wing src) = lift (fun h => cdcBufExpand h wing src) := rfl
theorem exec_streamFlushTimeout (wing : Wing) (stream : Nat) :
    exec (.streamFlushTimeout wing stream) = lift (fun h => streamFlushTimeout h wing stream) := rfl
theorem exec_caseCompressed (wing : Wing) (stream : Nat) :
    exec (.caseCompressed wing stream) = lift (fun h => caseCompressed h wing stream) := rfl
theorem exec_xtsEnc (wing : Wing) (src : Source) :
    exec (.xtsEnc wing src) = lift (fun h => cphXts h wing src true) := rfl
theorem exec_xtsDec (wing : Wing) (src : Source) :
    exec (.xtsDec wing src) = lift (fun h => cphXts h wing src false) := rfl
theorem exec_xtsRecrypt (wing : Wing) (src : Source) :
    exec (.xtsRecrypt wing src) = lift (fun h => cphRecrypt h wing src) := rfl
theorem exec_gcmEnc (wing : Wing) (src : Source) :
    exec (.gcmEnc wing src) = lift (fun h => cphGcmEnc h wing src) := rfl
theorem exec_gcmDec (wing : Wing) (src : Source) :
    exec (.gcmDec wing src) = lift (fun h => cphGcmDec h wing src) := rfl
theorem exec_cphCmac (wing : Wing) (src : Source) :
    exec (.cphCmac wing src) = lift (fun h => cphCmac h wing src) := rfl
theorem exec_cmacVerify (wing : Wing) (src : Source) (faulty : Option Bool) :
    exec (.cmacVerify wing src faulty) = lift (fun h => cphCmacVerify h wing src faulty) := rfl
theorem exec_ctxSave (wing : Wing) (src : Source) :
    exec (.ctxSave wing src) = lift (fun h => cphCtxSave h wing src) := rfl
theorem exec_ctxRestore (wing : Wing) (src : Source) :
    exec (.ctxRestore wing src) = lift (fun h => cphCtxRestore h wing src) := rfl
theorem exec_keyWrap (wing : Wing) (src : Source) :
    exec (.keyWrap wing src) = lift (fun h => cphKeyWrap h wing src true) := rfl
theorem exec_keyUnwrap (wing : Wing) (src : Source) :
    exec (.keyUnwrap wing src) = lift (fun h => cphKeyWrap h wing src false) := rfl
theorem exec_engineCompletion (cls : Block) (wing : Wing) (tag : Nat) (nth : Nat) :
    exec (.engineCompletion cls wing tag nth) = lift (fun h => engineCompletion h cls wing tag nth) := rfl
theorem exec_galleryFlushTimeout (serial : Nat) :
    exec (.galleryFlushTimeout serial) = lift (fun h => galleryFlush h serial) := rfl
theorem exec_closeNow (ini : Initiator) (wing : Wing) :
    exec (.closeNow ini wing) = lift (fun h => closeNow h ini wing) := rfl
theorem exec_resyncDone : exec .resyncDone = lift resyncDone := rfl
theorem exec_verifyDone : exec .verifyDone = lift verifyDone := rfl
theorem exec_rebuildStart (ini : Initiator) (wing : Wing) (plinth : Nat) :
    exec (.rebuildStart ini wing plinth) = lift (fun h => rebuildStart h ini wing plinth) := rfl
theorem exec_plinthRebuildDone : exec .plinthRebuildDone = lift rebuildDone := rfl
theorem exec_reshapeStart (ini : Initiator) (wing : Wing) (target : Nat) :
    exec (.reshapeStart ini wing target) = lift (fun h => reshapeStart h ini wing target) := rfl
theorem exec_reshapeAbort (ini : Initiator) (wing : Wing) :
    exec (.reshapeAbort ini wing) = lift (fun h => reshapeAbort h ini wing) := rfl
theorem exec_reshapeDone : exec .reshapeDone = lift reshapeDone := rfl
theorem exec_plinthPresent (plinth : Nat) :
    exec (.plinthPresent plinth) = lift (fun h => plinthPresent h (plinth % 64)) := rfl
theorem exec_plinthRemoved (plinth : Nat) :
    exec (.plinthRemoved plinth) = lift (fun h => plinthRemoved h (plinth % 64)) := rfl
theorem exec_plkTrained (plinth : Nat) (lanes : Nat) (delay : Nat) (port : Nat) (expected : Nat) :
    exec (.plkTrained plinth lanes delay port expected) = lift (fun h => plkTrained h (plinth % 64) lanes delay port expected) := rfl
theorem exec_plkRelease (ini : Initiator) (plinth : Nat) :
    exec (.plkRelease ini plinth) = lift (fun h => plkCtrlCmd h ini (plinth % 64) plkReleaseEffect) := rfl
theorem exec_plkReleased (plinth : Nat) :
    exec (.plkReleased plinth) = lift (fun h => plkReleased h (plinth % 64)) := rfl
theorem exec_plkCompletion (plinth : Nat) (done : PlkDone) (ns : Nat) :
    exec (.plkCompletion plinth done ns) = lift (fun h => plkCompletion h (plinth % 64) done ns) := rfl
theorem exec_plkTimeout (plinth : Nat) (slot : Nat) :
    exec (.plkTimeout plinth slot) = lift (fun h => plkTimeout h (plinth % 64) slot) := rfl
theorem exec_plkAlert (plinth : Nat) (code : Nat) (detail : Nat) :
    exec (.plkAlert plinth code detail) = lift (fun h => plkAlert h (plinth % 64) code detail) := rfl
theorem exec_plkFlit (plinth : Nat) (good : Bool) (ftype : Nat) (vc : Nat) (mtype : Nat) (lseq : Nat) (acktype : Nat) (ackseq : Nat) (credits : List Nat) :
    exec (.plkFlit plinth good ftype vc mtype lseq acktype ackseq credits) = lift (fun h => plkFlit h (plinth % 64) good ftype vc mtype lseq acktype ackseq credits) := rfl
theorem exec_plkReplayTimer (plinth : Nat) :
    exec (.plkReplayTimer plinth) = lift (fun h => plkReplayTimer h (plinth % 64)) := rfl
theorem exec_plkRetrainTimeout (plinth : Nat) :
    exec (.plkRetrainTimeout plinth) = lift (fun h => plkRetrainTimeout h (plinth % 64)) := rfl
theorem exec_plkRetrainCmd (ini : Initiator) (plinth : Nat) :
    exec (.plkRetrainCmd ini plinth) = lift (fun h => plkCtrlCmd h ini (plinth % 64) plkRetrainEffect) := rfl
theorem exec_plkRead (plinth : Nat) (port : Nat) (cmd : PlkCmd) :
    exec (.plkRead plinth port cmd) = liftAny (fun h => brRead h plinth (port % 2) cmd) := rfl
theorem exec_plkProgram (plinth : Nat) (port : Nat) (cmd : PlkCmd) :
    exec (.plkProgram plinth port cmd) = liftAny (fun h => brProgram h plinth (port % 2) cmd) := rfl
theorem exec_plkErase (plinth : Nat) (port : Nat) (cmd : PlkCmd) :
    exec (.plkErase plinth port cmd) = liftAny (fun h => brErase h plinth (port % 2) cmd) := rfl
theorem exec_checkErased (plinth : Nat) (port : Nat) (cmd : PlkCmd) :
    exec (.checkErased plinth port cmd) = liftAny (fun h => brCheck h plinth (port % 2) cmd) := rfl
theorem exec_witnessRenew (plinth : Nat) (port : Nat) (cmd : PlkCmd) :
    exec (.witnessRenew plinth port cmd) = liftAny (fun h => witnessRenew h plinth (port % 2) cmd) := rfl
theorem exec_witnessRead (plinth : Nat) (port : Nat) (cmd : PlkCmd) :
    exec (.witnessRead plinth port cmd) = liftAny (fun h => witnessRead h plinth (port % 2) cmd) := rfl
theorem exec_witnessClaim (plinth : Nat) (port : Nat) (cmd : PlkCmd) :
    exec (.witnessClaim plinth port cmd) = liftAny (fun h => witnessClaim h plinth (port % 2) cmd) := rfl
theorem exec_regRead (plinth : Nat) (port : Nat) (cmd : PlkCmd) :
    exec (.regRead plinth port cmd) = liftAny (fun h => brRegRead h plinth (port % 2) cmd) := rfl
theorem exec_regWrite (plinth : Nat) (port : Nat) (cmd : PlkCmd) :
    exec (.regWrite plinth port cmd) = liftAny (fun h => brRegWrite h plinth (port % 2) cmd) := rfl
theorem exec_bridgeSlotBoundary (plinth : Nat) (ends : List BrEnd) :
    exec (.bridgeSlotBoundary plinth ends) = liftAny (fun h => bridgeSlotBoundary h plinth ends) := rfl
theorem exec_bridgeTickMarker (plinth : Nat) (port : Nat) (payload : Word) (flagged : Bool) (arrival : Nat) :
    exec (.bridgeTickMarker plinth port payload flagged arrival) = liftAny (fun h => bridgeMarker h plinth (port % 2) payload flagged arrival) := rfl
theorem exec_leaseExpiry (plinth : Nat) (port : Nat) :
    exec (.leaseExpiry plinth port) = liftAny (fun h => leaseExpiry h plinth (port % 2)) := rfl
theorem exec_curMount (ini : Initiator) (wing : Wing) :
    exec (.curMount ini wing) = lift (fun h => curMount h ini wing) := rfl
theorem exec_hallScore : exec .hallScore = lift hallScoring := rfl
theorem exec_curEvacuate (ini : Initiator) (wing : Wing) (plinth : Nat) :
    exec (.curEvacuate ini wing plinth) = lift (fun h => curPlinthCmd h ini wing 1 plinth) := rfl
theorem exec_curRemove (ini : Initiator) (wing : Wing) (plinth : Nat) :
    exec (.curRemove ini wing plinth) = lift (fun h => curPlinthCmd h ini wing 2 plinth) := rfl
theorem exec_curCancel (ini : Initiator) (wing : Wing) (plinth : Nat) :
    exec (.curCancel ini wing plinth) = lift (fun h => curPlinthCmd h ini wing 3 plinth) := rfl
theorem exec_vaultPrepare : exec .vaultPrepare = lift vaultPrepare := rfl
theorem exec_hostReadDispatch (loc : Nat) (coll : Nat) (sheets : Nat) (ns : Nat) :
    exec (.hostReadDispatch loc coll sheets ns) = lift (fun h => hostReadDispatch h loc coll sheets ns) := rfl
theorem exec_rplShip (ini : Initiator) (wing : Wing) (lock : List (Option Nat)) :
    exec (.rplShip ini wing lock) = lift (fun h => rplCommand h ini wing (fun h c => shipCmd h c lock)) := rfl
theorem exec_freezeNumbered (ini : Initiator) (wing : Wing) (original : Option Nat) :
    exec (.freezeNumbered ini wing original) = lift (fun h => rplCommand h ini wing (fun h c => freezeNumberedCmd h c original)) := rfl
theorem exec_resumeSync (ini : Initiator) (wing : Wing) (lock : List (Option Nat)) (original : Option Nat) :
    exec (.resumeSync ini wing lock original) = lift (fun h => rplCommand h ini wing (fun h c => resumeSyncCmd h c lock original)) := rfl
theorem exec_rplPromote (ini : Initiator) (wing : Wing) (force : Bool) (lock : List (Option Nat)) :
    exec (.rplPromote ini wing force lock) = lift (fun h => rplCommand h ini wing (fun h c => promoteCmd h c force lock)) := rfl
theorem exec_rplDemote (ini : Initiator) (wing : Wing) :
    exec (.rplDemote ini wing) = lift (fun h => rplCommand h ini wing demoteCmd) := rfl
theorem exec_rplAbort (ini : Initiator) (wing : Wing) :
    exec (.rplAbort ini wing) = lift (fun h => rplCommand h ini wing abortCmd) := rfl
theorem exec_syncWrite (coll : Nat) (nsid : Nat) (rtag : Nat) (entries : List (Nat × Nat × Nat)) :
    exec (.syncWrite coll nsid rtag entries) = lift (fun h => rplArrives h (coll % 4096) nsid rtag (.syncWrite entries)) := rfl
theorem exec_rplBegin (coll : Nat) (rtag : Nat) (edition : Nat) (base : Nat) :
    exec (.rplBegin coll rtag edition base) = lift (fun h => rplArrives h (coll % 4096) 0 rtag (.begin edition base)) := rfl
theorem exec_rplOffer (coll : Nat) (nsid : Nat) (rtag : Nat) (edition : Nat) (entries : List (Nat × Nat)) :
    exec (.rplOffer coll nsid rtag edition entries) = lift (fun h => rplArrives h (coll % 4096) nsid rtag (.offer edition entries)) := rfl
theorem exec_rplCase (coll : Nat) (nsid : Nat) (rtag : Nat) (edition : Nat) (entries : List (Nat × Nat × Nat)) (raw : Bool) (image : Nat) :
    exec (.rplCase coll nsid rtag edition entries raw image) = lift (fun h => rplArrives h (coll % 4096) nsid rtag (.case edition entries raw image)) := rfl
theorem exec_rplUnmap (coll : Nat) (nsid : Nat) (rtag : Nat) (runs : List (Nat × Nat × Nat)) :
    exec (.rplUnmap coll nsid rtag runs) = lift (fun h => rplArrives h (coll % 4096) nsid rtag (.unmap runs)) := rfl
theorem exec_rplCommit (coll : Nat) (rtag : Nat) (edition : Nat) (base : Nat) (changed : Nat) :
    exec (.rplCommit coll rtag edition base changed) = lift (fun h => rplArrives h (coll % 4096) 0 rtag (.commit edition base changed)) := rfl
theorem exec_rplReply (coll : Nat) (rtag : Nat) (status : Status) (have' : List Bool) (micros : Nat) :
    exec (.rplReply coll rtag status have' micros) = lift (fun h => rplReplyMsg h (coll % 4096) rtag status have' micros) := rfl
theorem exec_syncTimeout (coll : Nat) (rtag : Nat) :
    exec (.syncTimeout coll rtag) = lift (fun h => syncTimeout h (coll % 4096) rtag) := rfl
theorem exec_asyncTimeout (coll : Nat) (rtag : Nat) :
    exec (.asyncTimeout coll rtag) = lift (fun h => asyncTimeout h (coll % 4096) rtag) := rfl
theorem exec_hnyPost (hart : Nat) (mode : HartMode) (rs1 : Nat) (addr : Option Nat) :
    exec (.hnyPost hart mode rs1 addr) = lift (fun h => hnyPost h hart mode rs1 addr) := rfl
theorem exec_hnyWait (hart : Nat) (mode : HartMode) (timeout : Nat) :
    exec (.hnyWait hart mode timeout) = lift (fun h => hnyWait h hart mode timeout) := rfl
theorem exec_waitWake (hart : Nat) (irq : Bool) (forced : Bool) (timeout : Bool) :
    exec (.waitWake hart irq forced timeout) = lift (fun h => waitWake h hart irq forced timeout) := rfl
theorem exec_coreEnable (ini : Initiator) (wing : Wing) :
    exec (.coreEnable ini wing) = lift (fun h => coreCommand h ini wing 1) := rfl
theorem exec_coreFence (ini : Initiator) (wing : Wing) :
    exec (.coreFence ini wing) = lift (fun h => coreCommand h ini wing 2) := rfl
theorem exec_coreReady (wing : Wing) (core : Nat) :
    exec (.coreReady wing core) = lift (fun h => coreReady h wing core) := rfl
theorem exec_coreFailed (wing : Wing) (core : Nat) (cause : Nat) :
    exec (.coreFailed wing core cause) = lift (fun h => coreFailed h wing core cause) := rfl
theorem exec_coreAccessFault (hart : Nat) (addr : Nat) (load : Bool) :
    exec (.coreAccessFault hart addr load) = lift (fun h => coreAccess h hart addr load) := rfl
theorem exec_cqHeadWrite (ini : Initiator) (wing : Wing) (head : Nat) :
    exec (.cqHeadWrite ini wing head) = lift (fun h => cqHeadWrite h ini wing head) := rfl
theorem exec_dmaCopy (wing : Wing) (src : Source) :
    exec (.dmaCopy wing src) = lift (fun h => dmaCopy h wing src) := rfl
theorem exec_dmaFill (wing : Wing) (src : Source) :
    exec (.dmaFill wing src) = lift (fun h => dmaFill h wing src) := rfl
theorem exec_dmaDisable (ini : Initiator) (wing : Wing) :
    exec (.dmaDisable ini wing) = lift (fun h => dmaCommand h ini wing 1) := rfl
theorem exec_dmaEnable (ini : Initiator) (wing : Wing) :
    exec (.dmaEnable ini wing) = lift (fun h => dmaCommand h ini wing 2) := rfl
theorem exec_dmaHalt (ini : Initiator) (wing : Wing) (on : Bool) :
    exec (.dmaHalt ini wing on) = lift (fun h => dmaHalt h ini wing on) := rfl
theorem exec_migrateStart (ini : Initiator) (wing : Wing) (segment : Nat) :
    exec (.migrateStart ini wing segment) = lift (fun h => migrateStart h ini wing segment) := rfl
theorem exec_migrateDone (wing : Wing) :
    exec (.migrateDone wing) = lift (fun h => migrateDone h wing) := rfl
theorem exec_channelFence (ini : Initiator) (wing : Wing) (chan : Nat) :
    exec (.channelFence ini wing chan) = lift (fun h => chanCommand h ini wing 1 chan) := rfl
theorem exec_channelUnfence (ini : Initiator) (wing : Wing) (chan : Nat) :
    exec (.channelUnfence ini wing chan) = lift (fun h => chanCommand h ini wing 2 chan) := rfl
theorem exec_ddrUe (addr : Nat) :
    exec (.ddrUe addr) = lift (fun h => ddrUe h addr) := rfl
theorem exec_ddrCe (addr : Nat) :
    exec (.ddrCe addr) = lift (fun h => ddrCe h addr) := rfl
theorem exec_memScrubPass (wing : Wing) :
    exec (.memScrubPass wing) = lift (fun h => memScrubPass h wing) := rfl
theorem exec_pchFence (ini : Initiator) (wing : Wing) :
    exec (.pchFence ini wing) = lift (fun h => pchFence h ini wing) := rfl
theorem exec_hbmCeFence (wing : Wing) (pch : Nat) (errors : Nat) :
    exec (.hbmCeFence wing pch errors) = lift (fun h => hbmCe h wing pch errors) := rfl
theorem exec_pchMoveDone (wing : Wing) (pch : Nat) :
    exec (.pchMoveDone wing pch) = lift (fun h => pchMoveDone h wing pch) := rfl
theorem exec_hbmUe (wing : Wing) (addr : Nat) (what : HbmUe) :
    exec (.hbmUe wing addr what) = lift (fun h => hbmUe h wing addr what) := rfl
theorem exec_releaseE (ini : Initiator) :
    exec (.releaseE ini) = lift (fun h => releaseCmd h ini .east) := rfl
theorem exec_releaseW (ini : Initiator) :
    exec (.releaseW ini) = lift (fun h => releaseCmd h ini .west) := rfl
theorem exec_docChipReset (ini : Initiator) :
    exec (.docChipReset ini) = lift (fun h => docChipReset h ini) := rfl
theorem exec_msrExtend (ini : Initiator) :
    exec (.msrExtend ini) = lift (fun h => msrExtendCmd h ini) := rfl
theorem exec_msrArm (ini : Initiator) (mask : Nat) :
    exec (.msrArm ini mask) = lift (fun h => msrArm h ini mask) := rfl
theorem exec_getVersion : exec .getVersion = lift spdmVersion := rfl
theorem exec_getCapabilities : exec .getCapabilities = lift spdmCapabilities := rfl
theorem exec_negotiateAlgorithms : exec .negotiateAlgorithms = lift spdmAlgorithms := rfl
theorem exec_getDigests : exec .getDigests = lift spdmDigests := rfl
theorem exec_getCertificate (off : Nat) (len : Nat) :
    exec (.getCertificate off len) = lift (fun h => spdmCertificate h off len) := rfl
theorem exec_spdmChallenge (nonce : Nat) :
    exec (.spdmChallenge nonce) = lift (fun h => spdmChallenge h nonce) := rfl
theorem exec_getMeasurements (index : Nat) (nonce : Nat) :
    exec (.getMeasurements index nonce) = lift (fun h => spdmMeasurements h index nonce) := rfl
theorem exec_keyLoad (ini : Initiator) :
    exec (.keyLoad ini) = lift (fun h => keyCmd h ini 1) := rfl
theorem exec_keyGenerate (ini : Initiator) :
    exec (.keyGenerate ini) = lift (fun h => keyCmd h ini 2) := rfl
theorem exec_keyUnwrapCmd (ini : Initiator) :
    exec (.keyUnwrapCmd ini) = lift (fun h => keyCmd h ini 3) := rfl
theorem exec_keyActivate (ini : Initiator) :
    exec (.keyActivate ini) = lift (fun h => keyCmd h ini 4) := rfl
theorem exec_keyRevoke (ini : Initiator) :
    exec (.keyRevoke ini) = lift (fun h => keyCmd h ini 5) := rfl
theorem exec_keyZeroise (ini : Initiator) :
    exec (.keyZeroise ini) = lift (fun h => keyCmd h ini 6) := rfl
theorem exec_keyExport (ini : Initiator) :
    exec (.keyExport ini) = lift (fun h => keyCmd h ini 7) := rfl
theorem exec_bindCommit (ini : Initiator) :
    exec (.bindCommit ini) = lift (fun h => bindCmd h ini 1) := rfl
theorem exec_keyUnbind (ini : Initiator) :
    exec (.keyUnbind ini) = lift (fun h => bindCmd h ini 2) := rfl
theorem exec_importKey (req : SignedReq) (slot : Nat) (kind : Nat) (usage : Nat) (system : Bool) (coll : Nat) (blob : Nat) :
    exec (.importKey req slot kind usage system coll blob) = lift (fun h => importKey h req slot kind usage system coll blob) := rfl
theorem exec_reqBind (req : SignedReq) (index : Nat) (entry : Word × Word) (uids : List Nat) :
    exec (.reqBind req index entry uids) = lift (fun h => reqBind h req index entry uids) := rfl
theorem exec_reqUnbind (req : SignedReq) (index : Nat) :
    exec (.reqUnbind req index) = lift (fun h => reqUnbind h req index) := rfl
theorem exec_reqZeroise (req : SignedReq) (slot : Nat) :
    exec (.reqZeroise req slot) = lift (fun h => reqZeroise h req slot) := rfl
theorem exec_armMeasure (entry : Nat) (mask : Nat) :
    exec (.armMeasure entry mask) = lift (fun h => reqArm h entry mask) := rfl
theorem exec_reqQuote (entry : Nat) (nonce : Nat) :
    exec (.reqQuote entry nonce) = lift (fun h => reqQuote h entry nonce) := rfl
theorem exec_peerAgree (entry : Nat) (step : AgreeStep) :
    exec (.peerAgree entry step) = lift (fun h => peerAgree h entry step) := rfl
theorem exec_clearRecorder (req : SignedReq) :
    exec (.clearRecorder req) = lift (fun h => reqClear h req) := rfl
theorem exec_reqLifecycle (req : SignedReq) (target : Nat) (custodian : Nat) :
    exec (.reqLifecycle req target custodian) = lift (fun h => reqLifecycle h req target custodian) := rfl
theorem exec_reqCustodian (req : SignedReq) (digest : Nat) :
    exec (.reqCustodian req digest) = lift (fun h => reqCustodian h req digest) := rfl
theorem exec_reqFederation (req : SignedReq) (uids : List Nat) :
    exec (.reqFederation req uids) = lift (fun h => reqFederation h req uids) := rfl
theorem exec_reqConfigure (entry : Nat) (mirrors : Nat) (rings : List Nat) :
    exec (.reqConfigure entry mirrors rings) = lift (fun h => reqConfigure h entry mirrors rings) := rfl
theorem exec_almAlarm (n : Nat) :
    exec (.almAlarm n) = lift (fun h => alarm h n) := rfl
theorem exec_alarmReset : exec .alarmReset = lift alarmReset := rfl
theorem exec_almForce (ini : Initiator) :
    exec (.almForce ini) = lift (fun h => almForce h ini) := rfl
theorem exec_debugChallenge : exec .debugChallenge = lift debugChallenge := rfl
theorem exec_debugToken (uid : Nat) (nonce : Nat) (sigOk : Bool) (digest : Nat) :
    exec (.debugToken uid nonce sigOk digest) = lift (fun h => debugToken h uid nonce sigOk digest) := rfl
theorem exec_arcRead : exec .arcRead = lift arcRead := rfl
theorem exec_arcProgram : exec .arcProgram = lift (fun h => arcOperate h 2) := rfl
theorem exec_arcErase : exec .arcErase = lift (fun h => arcOperate h 3) := rfl
theorem exec_arcClose : exec .arcClose = lift (fun h => arcOperate h 4) := rfl
theorem exec_sectorState : exec .sectorState = lift arcSectorState := rfl
theorem exec_arcStop (verified : Nat) :
    exec (.arcStop verified) = lift (fun h => arcStop h verified) := rfl
theorem exec_brownOutDetect : exec .brownOutDetect = lift brownOutDetect := rfl
theorem exec_borRelease : exec .borRelease = lift borRelease := rfl
theorem exec_xoLock (ini : Initiator) :
    exec (.xoLock ini) = lift (fun h => xoLock h ini) := rfl
theorem exec_prvRecord (ev : Nat) (wing : Wing) :
    exec (.prvRecord ev wing) = lift (fun h => recordEvent h ev wing) := rfl
theorem exec_recWrite (ini : Initiator) :
    exec (.recWrite ini) = lift (fun h => recWrite h ini) := rfl
theorem exec_recordHoldExpiry (seq : Nat) :
    exec (.recordHoldExpiry seq) = lift (fun h => recordHoldExpiry h seq) := rfl
theorem exec_recordProgram (ok : Bool) :
    exec (.recordProgram ok) = lift (fun h => recordProgram h ok) := rfl
theorem exec_hourTick : exec .hourTick = lift hourTick := rfl
theorem exec_prvClear (ini : Initiator) :
    exec (.prvClear ini) = lift (fun h => prvClear h ini) := rfl
theorem exec_updWrite (ini : Initiator) (slot : Nat) :
    exec (.updWrite ini slot) = lift (fun h => updWriteCmd h ini slot) := rfl
theorem exec_updAbort (ini : Initiator) :
    exec (.updAbort ini) = lift (fun h => updAbort h ini) := rfl
theorem exec_writeOs : exec .writeOs = lift (fun h => updRequest h true) := rfl
theorem exec_writeDocent : exec .writeDocent = lift (fun h => updRequest h false) := rfl
theorem exec_confirmOs : exec .confirmOs = lift confirmOs := rfl
theorem exec_updReqAbort : exec .updReqAbort = lift updReqAbort := rfl
theorem exec_updConfirmDoc (ini : Initiator) (up : Bool) :
    exec (.updConfirmDoc ini up) = lift (fun h => updConfirmCmd h ini false up) := rfl
theorem exec_updConfirmOs (ini : Initiator) (up : Bool) :
    exec (.updConfirmOs ini up) = lift (fun h => updConfirmCmd h ini true up) := rfl
theorem exec_trialExpiry : exec .trialExpiry = lift trialExpiry := rfl
theorem exec_recoveryWrite (off : Nat) (len : Nat) (data : Nat) :
    exec (.recoveryWrite off len data) = lift (fun h => recoveryWrite h off len data) := rfl
theorem exec_recoveryRun (len : Nat) :
    exec (.recoveryRun len) = lift (fun h => recoveryRun h len) := rfl
theorem exec_recoveryStatus : exec .recoveryStatus = lift recoveryStatus := rfl
theorem exec_wdgFeed (ini : Initiator) (bits : Nat) :
    exec (.wdgFeed ini bits) = lift (fun h => wdgFeedCmd h ini bits) := rfl
theorem exec_wdgWarn (n : Nat) :
    exec (.wdgWarn n) = lift (fun h => wdgWarn h n) := rfl
theorem exec_wdgExpiry (n : Nat) :
    exec (.wdgExpiry n) = lift (fun h => wdgExpiry h n) := rfl
theorem exec_wdgGraceExpiry : exec .wdgGraceExpiry = lift wdgGrace := rfl
theorem exec_rungRequest (ini : Initiator) (page : Page) (value : Nat) :
    exec (.rungRequest ini page value) = lift (fun h => rungRequest h ini page value) := rfl
theorem exec_rungExitDone (island : Island) :
    exec (.rungExitDone island) = lift (fun h => rungExitDone h island) := rfl
theorem exec_signalDetect (wing : Wing) (port : Nat) :
    exec (.signalDetect wing port) = lift (fun h => signalDetect h wing port) := rfl
theorem exec_unitIdleGate (cls : Block) (wing : Wing) (unit : Nat) :
    exec (.unitIdleGate cls wing unit) = lift (fun h => unitIdle h cls wing unit false) := rfl
theorem exec_unitIdleRetain (cls : Block) (wing : Wing) (unit : Nat) :
    exec (.unitIdleRetain cls wing unit) = lift (fun h => unitIdle h cls wing unit true) := rfl
theorem exec_coreRungRequest (ini : Initiator) (wing : Wing) (value : Nat) :
    exec (.coreRungRequest ini wing value) = lift (fun h => coreRungRequest h ini wing value) := rfl
theorem exec_pwrServe (ini : Initiator) :
    exec (.pwrServe ini) = lift (fun h => modeCmd h ini 1) := rfl
theorem exec_pwrStandby (ini : Initiator) :
    exec (.pwrStandby ini) = lift (fun h => modeCmd h ini 2) := rfl
theorem exec_serveDone : exec .serveDone = lift serveDone := rfl
theorem exec_pwrDroop (wing : Wing) (detector : Nat) :
    exec (.pwrDroop wing detector) = lift (fun h => droop h wing detector) := rfl
theorem exec_pwrSag (wing : Wing) (rail : Nat) :
    exec (.pwrSag wing rail) = lift (fun h => sag h wing rail) := rfl
theorem exec_avsWindow (wing : Wing) (rail : Nat) :
    exec (.avsWindow wing rail) = lift (fun h => avsWindow h wing rail) := rfl
theorem exec_droopRecover (wing : Wing) (rail : Nat) :
    exec (.droopRecover wing rail) = lift (fun h => droopRecover h wing rail) := rfl
theorem exec_tempSample (wing : Wing) (die : Int) (hbm : Int) (sensor : Nat) :
    exec (.tempSample wing die hbm sensor) = lift (fun h => tempSample h wing die hbm sensor) := rfl
theorem exec_thermalThrottleStep (wing : Wing) :
    exec (.thermalThrottleStep wing) = lift (fun h => throttleStep h wing) := rfl
theorem exec_rsvSample (vbus : Option Nat) (vbank : Option Nat) (ia : Option Nat) (ib : Option Nat) (carrier : Nat) :
    exec (.rsvSample vbus vbank ia ib carrier) = lift (fun h => rsvSample h vbus vbank ia ib carrier) := rfl
theorem exec_carrierReload (phaseB : Bool) (clash : Bool) :
    exec (.carrierReload phaseB clash) = lift (fun h => carrierReload h phaseB clash) := rfl
theorem exec_currentTrip (phaseB : Bool) (positive : Bool) :
    exec (.currentTrip phaseB positive) = lift (fun h => currentTrip h phaseB positive) := rfl
theorem exec_rsvModeWrite (ini : Initiator) (mode : Nat) :
    exec (.rsvModeWrite ini mode) = lift (fun h => rsvModeWrite h ini mode) := rfl
theorem exec_clearFault (ini : Initiator) :
    exec (.clearFault ini) = lift (fun h => clearFault h ini) := rfl
theorem exec_rsvCommitGo (ini : Initiator) (carrier : Nat) :
    exec (.rsvCommitGo ini carrier) = lift (fun h => rsvCommit h ini carrier) := rfl
theorem exec_healthStart (ini : Initiator) :
    exec (.healthStart ini) = lift (fun h => healthStart h ini) := rfl
theorem exec_healthEnd : exec .healthEnd = lift healthEnd := rfl
theorem exec_limpTimeout : exec .limpTimeout = lift limpTimeout := rfl
theorem exec_allowanceUpdate : exec .allowanceUpdate = lift allowance := rfl
theorem exec_mainsLost : exec .mainsLost = lift (fun h => mainsChange h false) := rfl
theorem exec_mainsBack : exec .mainsBack = lift (fun h => mainsChange h true) := rfl
theorem exec_busTrip : exec .busTrip = lift busTrip := rfl
theorem exec_dumpDone : exec .dumpDone = lift dumpDone := rfl
theorem exec_dumpRestart : exec .dumpRestart = lift dumpRestart := rfl
theorem exec_keyFreshWrite (ini : Initiator) :
    exec (.keyFreshWrite ini) = lift (fun h => keyFreshWrite h ini) := rfl
theorem exec_powerOn : exec .powerOn = liftAny powerOn := rfl
theorem exec_resetRelease : exec .resetRelease = liftAny resetRelease := rfl
theorem exec_resetAssert (stayed : Bool) :
    exec (.resetAssert stayed) = liftAny (fun h => resetAssert h stayed) := rfl
theorem exec_railBrownOut (stayed : Bool) :
    exec (.railBrownOut stayed) = liftAny (fun h => railBrownOut h stayed) := rfl
theorem exec_anxLaneFail (wing : Wing) :
    exec (.anxLaneFail wing) = lift (fun h => anxLaneFail h wing) := rfl
theorem exec_plkLaneFail (plinth : Nat) :
    exec (.plkLaneFail plinth) = lift (fun h => plkLaneFail h (plinth % 64)) := rfl
theorem exec_masterMarkerLoss (plinth : Nat) :
    exec (.masterMarkerLoss plinth) = liftAny (fun h => masterLoss h plinth) := rfl
theorem exec_rungEntryDone (island : Island) :
    exec (.rungEntryDone island) = lift (fun h => rungEntryDone h island) := rfl
theorem exec_standbyDone : exec .standbyDone = lift standbyDone := rfl
theorem exec_droopEnd (wing : Wing) (detector : Nat) (corePpm : Nat) (engMeshPpm : Nat) :
    exec (.droopEnd wing detector corePpm engMeshPpm) = lift (fun h => droopEnd h wing detector corePpm engMeshPpm) := rfl
theorem exec_railsRemoved : exec .railsRemoved = liftAny railsRemoved := rfl
theorem exec_crystalStable : exec .crystalStable = liftAny crystalStable := rfl
theorem exec_arcOperationEnd (e : PulseEnd) :
    exec (.arcOperationEnd e) = lift (fun h => arcOperationEnd h e) := rfl

/-- Every meaning lifts an effect on the head, of a running chip or of any. -/
theorem exec_lifts (c : Instr) : (∃ f, exec c = lift f) ∨ (∃ f, exec c = liftAny f) := by
  cases c with
  | registerWrite => exact .inl ⟨_, exec_registerWrite ..⟩
  | partialAccess => exact .inl ⟨_, exec_partialAccess ..⟩
  | pairLoRead => exact .inl ⟨_, exec_pairLoRead ..⟩
  | pairHiWrite => exact .inl ⟨_, exec_pairHiWrite ..⟩
  | undecodedAccess => exact .inl ⟨_, exec_undecodedAccess ..⟩
  | firewallAccess => exact .inl ⟨_, exec_firewallAccess ..⟩
  | errInfoClear => exact .inl ⟨_, exec_errInfoClear ..⟩
  | commitGo => exact .inl ⟨_, exec_commitGo ..⟩
  | blockReset => exact .inl ⟨_, exec_blockReset ..⟩
  | quiesceRequest => exact .inl ⟨_, exec_quiesceRequest ..⟩
  | quiesceDone => exact .inl ⟨_, exec_quiesceDone ..⟩
  | blockEnable => exact .inl ⟨_, exec_blockEnable ..⟩
  | instanceFence => exact .inl ⟨_, exec_instanceFence ..⟩
  | instanceUnfence => exact .inl ⟨_, exec_instanceUnfence ..⟩
  | blockFault => exact .inl ⟨_, exec_blockFault ..⟩
  | evtStatusClear => exact .inl ⟨_, exec_evtStatusClear ..⟩
  | evtEnableWrite => exact .inl ⟨_, exec_evtEnableWrite ..⟩
  | evtForce => exact .inl ⟨_, exec_evtForce ..⟩
  | evtSwRaise => exact .inl ⟨_, exec_evtSwRaise ..⟩
  | routeDataWrite => exact .inl ⟨_, exec_routeDataWrite ..⟩
  | routeError => exact .inl ⟨_, exec_routeError ..⟩
  | wgStall => exact .inl ⟨_, exec_wgStall ..⟩
  | wgWake => exact .inl ⟨_, exec_wgWake ..⟩
  | wgMembersWrite => exact .inl ⟨_, exec_wgMembersWrite ..⟩
  | keyErase => exact .inl ⟨_, exec_keyErase⟩
  | quotaShrink => exact .inl ⟨_, exec_quotaShrink ..⟩
  | foyerPause => exact .inl ⟨_, exec_foyerPause ..⟩
  | accessionHold => exact .inl ⟨_, exec_accessionHold ..⟩
  | frameTick => exact .inl ⟨_, exec_frameTick ..⟩
  | slotBoundary => exact .inl ⟨_, exec_slotBoundary⟩
  | scheduleDeadline => exact .inl ⟨_, exec_scheduleDeadline ..⟩
  | tickMarker => exact .inl ⟨_, exec_tickMarker ..⟩
  | missedTick => exact .inl ⟨_, exec_missedTick⟩
  | lengthSetChange => exact .inl ⟨_, exec_lengthSetChange ..⟩
  | lengthChanged => exact .inl ⟨_, exec_lengthChanged⟩
  | ptpOffsetWrite => exact .inl ⟨_, exec_ptpOffsetWrite ..⟩
  | clrCounts => exact .inl ⟨_, exec_clrCounts ..⟩
  | foyLinkChange => exact .inl ⟨_, exec_foyLinkChange ..⟩
  | fecDegraded => exact .inl ⟨_, exec_fecDegraded ..⟩
  | pauseFrame => exact .inl ⟨_, exec_pauseFrame ..⟩
  | pfcStorm => exact .inl ⟨_, exec_pfcStorm ..⟩
  | pfcStormEnd => exact .inl ⟨_, exec_pfcStormEnd ..⟩
  | ceMarkedPacket => exact .inl ⟨_, exec_ceMarkedPacket ..⟩
  | cnpReceived => exact .inl ⟨_, exec_cnpReceived ..⟩
  | rateRecover => exact .inl ⟨_, exec_rateRecover ..⟩
  | ptpEventMessage => exact .inl ⟨_, exec_ptpEventMessage ..⟩
  | connectionRequest => exact .inl ⟨_, exec_connectionRequest ..⟩
  | authComplete => exact .inl ⟨_, exec_authComplete ..⟩
  | ctxBindWrite => exact .inl ⟨_, exec_ctxBindWrite ..⟩
  | collEntryWrite => exact .inl ⟨_, exec_collEntryWrite ..⟩
  | commandCapsule => exact .inl ⟨_, exec_commandCapsule ..⟩
  | keepAlive => exact .inl ⟨_, exec_keepAlive ..⟩
  | commandAdmit => exact .inl ⟨_, exec_commandAdmit ..⟩
  | boundLong => exact .inl ⟨_, exec_boundLong ..⟩
  | foqResume => exact .inl ⟨_, exec_foqResume ..⟩
  | fusedRecordAck => exact .inl ⟨_, exec_fusedRecordAck ..⟩
  | fusedHoldExpiry => exact .inl ⟨_, exec_fusedHoldExpiry ..⟩
  | hostCompletion => exact .inl ⟨_, exec_hostCompletion ..⟩
  | mftDescWrite => exact .inl ⟨_, exec_mftDescWrite ..⟩
  | mftDescRead => exact .inl ⟨_, exec_mftDescRead ..⟩
  | mftDescSend => exact .inl ⟨_, exec_mftDescSend ..⟩
  | mftDescAtomicAdd => exact .inl ⟨_, exec_mftDescAtomicAdd ..⟩
  | mftDescAtomicCas => exact .inl ⟨_, exec_mftDescAtomicCas ..⟩
  | postRecv => exact .inl ⟨_, exec_postRecv ..⟩
  | mftWritePacket => exact .inl ⟨_, exec_mftWritePacket ..⟩
  | mftReadPacket => exact .inl ⟨_, exec_mftReadPacket ..⟩
  | readResp => exact .inl ⟨_, exec_readResp ..⟩
  | mftSendPacket => exact .inl ⟨_, exec_mftSendPacket ..⟩
  | mftAtomicAddPacket => exact .inl ⟨_, exec_mftAtomicAddPacket ..⟩
  | mftAtomicCasPacket => exact .inl ⟨_, exec_mftAtomicCasPacket ..⟩
  | atomicResp => exact .inl ⟨_, exec_atomicResp ..⟩
  | mftAck => exact .inl ⟨_, exec_mftAck ..⟩
  | mftNak => exact .inl ⟨_, exec_mftNak ..⟩
  | ackDelay => exact .inl ⟨_, exec_ackDelay ..⟩
  | rtoExpiry => exact .inl ⟨_, exec_rtoExpiry ..⟩
  | rnrDelay => exact .inl ⟨_, exec_rnrDelay ..⟩
  | mftOpen => exact .inl ⟨_, exec_mftOpen ..⟩
  | mftClose => exact .inl ⟨_, exec_mftClose ..⟩
  | closeDone => exact .inl ⟨_, exec_closeDone ..⟩
  | granulePlace => exact .inl ⟨_, exec_granulePlace ..⟩
  | anxMirror => exact .inl ⟨_, exec_anxMirror ..⟩
  | mirrorAck => exact .inl ⟨_, exec_mirrorAck ..⟩
  | mirrorResend => exact .inl ⟨_, exec_mirrorResend ..⟩
  | catUpdate => exact .inl ⟨_, exec_catUpdate ..⟩
  | catAck => exact .inl ⟨_, exec_catAck ..⟩
  | anxForward => exact .inl ⟨_, exec_anxForward ..⟩
  | forwardResp => exact .inl ⟨_, exec_forwardResp ..⟩
  | heartbeat => exact .inl ⟨_, exec_heartbeat ..⟩
  | heartbeatSend => exact .inl ⟨_, exec_heartbeatSend⟩
  | heartbeatLoss => exact .inl ⟨_, exec_heartbeatLoss⟩
  | ownership => exact .inl ⟨_, exec_ownership ..⟩
  | ownershipAck => exact .inl ⟨_, exec_ownershipAck ..⟩
  | resilver => exact .inl ⟨_, exec_resilver ..⟩
  | anxFlit => exact .inl ⟨_, exec_anxFlit ..⟩
  | anxReplayTimer => exact .inl ⟨_, exec_anxReplayTimer ..⟩
  | anxRetrainTimeout => exact .inl ⟨_, exec_anxRetrainTimeout ..⟩
  | anxTrained => exact .inl ⟨_, exec_anxTrained ..⟩
  | anxTrainTimeout => exact .inl ⟨_, exec_anxTrainTimeout ..⟩
  | anxRetrainCmd => exact .inl ⟨_, exec_anxRetrainCmd ..⟩
  | anxClrStats => exact .inl ⟨_, exec_anxClrStats ..⟩
  | leaseRenew => exact .inl ⟨_, exec_leaseRenew⟩
  | leaseLapse => exact .inl ⟨_, exec_leaseLapse⟩
  | witnessPoll => exact .inl ⟨_, exec_witnessPoll⟩
  | takeover => exact .inl ⟨_, exec_takeover ..⟩
  | isolateTimeout => exact .inl ⟨_, exec_isolateTimeout⟩
  | pairJoin => exact .inl ⟨_, exec_pairJoin ..⟩
  | resilverDone => exact .inl ⟨_, exec_resilverDone⟩
  | giveback => exact .inl ⟨_, exec_giveback ..⟩
  | givebackBatch => exact .inl ⟨_, exec_givebackBatch⟩
  | pairLeave => exact .inl ⟨_, exec_pairLeave ..⟩
  | shrinkStart => exact .inl ⟨_, exec_shrinkStart ..⟩
  | shrinkRestore => exact .inl ⟨_, exec_shrinkRestore ..⟩
  | overQuotaLong => exact .inl ⟨_, exec_overQuotaLong⟩
  | retainAdopt => exact .inl ⟨_, exec_retainAdopt ..⟩
  | retainDiscard => exact .inl ⟨_, exec_retainDiscard ..⟩
  | slotEcc => exact .inl ⟨_, exec_slotEcc ..⟩
  | nsCreate => exact .inl ⟨_, exec_nsCreate ..⟩
  | nsDelete => exact .inl ⟨_, exec_nsDelete ..⟩
  | nsResize => exact .inl ⟨_, exec_nsResize ..⟩
  | nsFreeze => exact .inl ⟨_, exec_nsFreeze ..⟩
  | editionDelete => exact .inl ⟨_, exec_editionDelete ..⟩
  | nsExpose => exact .inl ⟨_, exec_nsExpose ..⟩
  | nsUnexpose => exact .inl ⟨_, exec_nsUnexpose ..⟩
  | ckptNow => exact .inl ⟨_, exec_ckptNow ..⟩
  | ckptInterval => exact .inl ⟨_, exec_ckptInterval⟩
  | ckptDone => exact .inl ⟨_, exec_ckptDone ..⟩
  | pageIn => exact .inl ⟨_, exec_pageIn ..⟩
  | wayEnWrite => exact .inl ⟨_, exec_wayEnWrite ..⟩
  | wayCleanDone => exact .inl ⟨_, exec_wayCleanDone ..⟩
  | wayEccFence => exact .inl ⟨_, exec_wayEccFence ..⟩
  | lineEcc => exact .inl ⟨_, exec_lineEcc ..⟩
  | accessionBatch => exact .inl ⟨_, exec_accessionBatch ..⟩
  | compareReadDone => exact .inl ⟨_, exec_compareReadDone ..⟩
  | rgsReindex => exact .inl ⟨_, exec_rgsReindex ..⟩
  | replayDone => exact .inl ⟨_, exec_replayDone⟩
  | unitFailed => exact .inl ⟨_, exec_unitFailed ..⟩
  | unitFence => exact .inl ⟨_, exec_unitFence ..⟩
  | unitUnfence => exact .inl ⟨_, exec_unitUnfence ..⟩
  | unitDrained => exact .inl ⟨_, exec_unitDrained ..⟩
  | dgeHash => exact .inl ⟨_, exec_dgeHash ..⟩
  | dgeHmac => exact .inl ⟨_, exec_dgeHmac ..⟩
  | dgeCompare => exact .inl ⟨_, exec_dgeCompare ..⟩
  | hmacVerify => exact .inl ⟨_, exec_hmacVerify ..⟩
  | stateSave => exact .inl ⟨_, exec_stateSave ..⟩
  | stateRestore => exact .inl ⟨_, exec_stateRestore ..⟩
  | hkdfToSlot => exact .inl ⟨_, exec_hkdfToSlot ..⟩
  | cdcAppend => exact .inl ⟨_, exec_cdcAppend ..⟩
  | cdcFlush => exact .inl ⟨_, exec_cdcFlush ..⟩
  | cdcExpand => exact .inl ⟨_, exec_cdcExpand ..⟩
  | bufCompress => exact .inl ⟨_, exec_bufCompress ..⟩
  | bufExpand => exact .inl ⟨_, exec_bufExpand ..⟩
  | streamFlushTimeout => exact .inl ⟨_, exec_streamFlushTimeout ..⟩
  | caseCompressed => exact .inl ⟨_, exec_caseCompressed ..⟩
  | xtsEnc => exact .inl ⟨_, exec_xtsEnc ..⟩
  | xtsDec => exact .inl ⟨_, exec_xtsDec ..⟩
  | xtsRecrypt => exact .inl ⟨_, exec_xtsRecrypt ..⟩
  | gcmEnc => exact .inl ⟨_, exec_gcmEnc ..⟩
  | gcmDec => exact .inl ⟨_, exec_gcmDec ..⟩
  | cphCmac => exact .inl ⟨_, exec_cphCmac ..⟩
  | cmacVerify => exact .inl ⟨_, exec_cmacVerify ..⟩
  | ctxSave => exact .inl ⟨_, exec_ctxSave ..⟩
  | ctxRestore => exact .inl ⟨_, exec_ctxRestore ..⟩
  | keyWrap => exact .inl ⟨_, exec_keyWrap ..⟩
  | keyUnwrap => exact .inl ⟨_, exec_keyUnwrap ..⟩
  | engineCompletion => exact .inl ⟨_, exec_engineCompletion ..⟩
  | galleryFlushTimeout => exact .inl ⟨_, exec_galleryFlushTimeout ..⟩
  | closeNow => exact .inl ⟨_, exec_closeNow ..⟩
  | resyncDone => exact .inl ⟨_, exec_resyncDone⟩
  | verifyDone => exact .inl ⟨_, exec_verifyDone⟩
  | rebuildStart => exact .inl ⟨_, exec_rebuildStart ..⟩
  | plinthRebuildDone => exact .inl ⟨_, exec_plinthRebuildDone⟩
  | reshapeStart => exact .inl ⟨_, exec_reshapeStart ..⟩
  | reshapeAbort => exact .inl ⟨_, exec_reshapeAbort ..⟩
  | reshapeDone => exact .inl ⟨_, exec_reshapeDone⟩
  | plinthPresent => exact .inl ⟨_, exec_plinthPresent ..⟩
  | plinthRemoved => exact .inl ⟨_, exec_plinthRemoved ..⟩
  | plkTrained => exact .inl ⟨_, exec_plkTrained ..⟩
  | plkRelease => exact .inl ⟨_, exec_plkRelease ..⟩
  | plkReleased => exact .inl ⟨_, exec_plkReleased ..⟩
  | plkCompletion => exact .inl ⟨_, exec_plkCompletion ..⟩
  | plkTimeout => exact .inl ⟨_, exec_plkTimeout ..⟩
  | plkAlert => exact .inl ⟨_, exec_plkAlert ..⟩
  | plkFlit => exact .inl ⟨_, exec_plkFlit ..⟩
  | plkReplayTimer => exact .inl ⟨_, exec_plkReplayTimer ..⟩
  | plkRetrainTimeout => exact .inl ⟨_, exec_plkRetrainTimeout ..⟩
  | plkRetrainCmd => exact .inl ⟨_, exec_plkRetrainCmd ..⟩
  | plkRead => exact .inr ⟨_, exec_plkRead ..⟩
  | plkProgram => exact .inr ⟨_, exec_plkProgram ..⟩
  | plkErase => exact .inr ⟨_, exec_plkErase ..⟩
  | checkErased => exact .inr ⟨_, exec_checkErased ..⟩
  | witnessRenew => exact .inr ⟨_, exec_witnessRenew ..⟩
  | witnessRead => exact .inr ⟨_, exec_witnessRead ..⟩
  | witnessClaim => exact .inr ⟨_, exec_witnessClaim ..⟩
  | regRead => exact .inr ⟨_, exec_regRead ..⟩
  | regWrite => exact .inr ⟨_, exec_regWrite ..⟩
  | bridgeSlotBoundary => exact .inr ⟨_, exec_bridgeSlotBoundary ..⟩
  | bridgeTickMarker => exact .inr ⟨_, exec_bridgeTickMarker ..⟩
  | leaseExpiry => exact .inr ⟨_, exec_leaseExpiry ..⟩
  | curMount => exact .inl ⟨_, exec_curMount ..⟩
  | hallScore => exact .inl ⟨_, exec_hallScore⟩
  | curEvacuate => exact .inl ⟨_, exec_curEvacuate ..⟩
  | curRemove => exact .inl ⟨_, exec_curRemove ..⟩
  | curCancel => exact .inl ⟨_, exec_curCancel ..⟩
  | vaultPrepare => exact .inl ⟨_, exec_vaultPrepare⟩
  | hostReadDispatch => exact .inl ⟨_, exec_hostReadDispatch ..⟩
  | rplShip => exact .inl ⟨_, exec_rplShip ..⟩
  | freezeNumbered => exact .inl ⟨_, exec_freezeNumbered ..⟩
  | resumeSync => exact .inl ⟨_, exec_resumeSync ..⟩
  | rplPromote => exact .inl ⟨_, exec_rplPromote ..⟩
  | rplDemote => exact .inl ⟨_, exec_rplDemote ..⟩
  | rplAbort => exact .inl ⟨_, exec_rplAbort ..⟩
  | syncWrite => exact .inl ⟨_, exec_syncWrite ..⟩
  | rplBegin => exact .inl ⟨_, exec_rplBegin ..⟩
  | rplOffer => exact .inl ⟨_, exec_rplOffer ..⟩
  | rplCase => exact .inl ⟨_, exec_rplCase ..⟩
  | rplUnmap => exact .inl ⟨_, exec_rplUnmap ..⟩
  | rplCommit => exact .inl ⟨_, exec_rplCommit ..⟩
  | rplReply => exact .inl ⟨_, exec_rplReply ..⟩
  | syncTimeout => exact .inl ⟨_, exec_syncTimeout ..⟩
  | asyncTimeout => exact .inl ⟨_, exec_asyncTimeout ..⟩
  | hnyPost => exact .inl ⟨_, exec_hnyPost ..⟩
  | hnyWait => exact .inl ⟨_, exec_hnyWait ..⟩
  | waitWake => exact .inl ⟨_, exec_waitWake ..⟩
  | coreEnable => exact .inl ⟨_, exec_coreEnable ..⟩
  | coreFence => exact .inl ⟨_, exec_coreFence ..⟩
  | coreReady => exact .inl ⟨_, exec_coreReady ..⟩
  | coreFailed => exact .inl ⟨_, exec_coreFailed ..⟩
  | coreAccessFault => exact .inl ⟨_, exec_coreAccessFault ..⟩
  | cqHeadWrite => exact .inl ⟨_, exec_cqHeadWrite ..⟩
  | dmaCopy => exact .inl ⟨_, exec_dmaCopy ..⟩
  | dmaFill => exact .inl ⟨_, exec_dmaFill ..⟩
  | dmaDisable => exact .inl ⟨_, exec_dmaDisable ..⟩
  | dmaEnable => exact .inl ⟨_, exec_dmaEnable ..⟩
  | dmaHalt => exact .inl ⟨_, exec_dmaHalt ..⟩
  | migrateStart => exact .inl ⟨_, exec_migrateStart ..⟩
  | migrateDone => exact .inl ⟨_, exec_migrateDone ..⟩
  | channelFence => exact .inl ⟨_, exec_channelFence ..⟩
  | channelUnfence => exact .inl ⟨_, exec_channelUnfence ..⟩
  | ddrUe => exact .inl ⟨_, exec_ddrUe ..⟩
  | ddrCe => exact .inl ⟨_, exec_ddrCe ..⟩
  | memScrubPass => exact .inl ⟨_, exec_memScrubPass ..⟩
  | pchFence => exact .inl ⟨_, exec_pchFence ..⟩
  | hbmCeFence => exact .inl ⟨_, exec_hbmCeFence ..⟩
  | pchMoveDone => exact .inl ⟨_, exec_pchMoveDone ..⟩
  | hbmUe => exact .inl ⟨_, exec_hbmUe ..⟩
  | releaseE => exact .inl ⟨_, exec_releaseE ..⟩
  | releaseW => exact .inl ⟨_, exec_releaseW ..⟩
  | docChipReset => exact .inl ⟨_, exec_docChipReset ..⟩
  | msrExtend => exact .inl ⟨_, exec_msrExtend ..⟩
  | msrArm => exact .inl ⟨_, exec_msrArm ..⟩
  | getVersion => exact .inl ⟨_, exec_getVersion⟩
  | getCapabilities => exact .inl ⟨_, exec_getCapabilities⟩
  | negotiateAlgorithms => exact .inl ⟨_, exec_negotiateAlgorithms⟩
  | getDigests => exact .inl ⟨_, exec_getDigests⟩
  | getCertificate => exact .inl ⟨_, exec_getCertificate ..⟩
  | spdmChallenge => exact .inl ⟨_, exec_spdmChallenge ..⟩
  | getMeasurements => exact .inl ⟨_, exec_getMeasurements ..⟩
  | keyLoad => exact .inl ⟨_, exec_keyLoad ..⟩
  | keyGenerate => exact .inl ⟨_, exec_keyGenerate ..⟩
  | keyUnwrapCmd => exact .inl ⟨_, exec_keyUnwrapCmd ..⟩
  | keyActivate => exact .inl ⟨_, exec_keyActivate ..⟩
  | keyRevoke => exact .inl ⟨_, exec_keyRevoke ..⟩
  | keyZeroise => exact .inl ⟨_, exec_keyZeroise ..⟩
  | keyExport => exact .inl ⟨_, exec_keyExport ..⟩
  | bindCommit => exact .inl ⟨_, exec_bindCommit ..⟩
  | keyUnbind => exact .inl ⟨_, exec_keyUnbind ..⟩
  | importKey => exact .inl ⟨_, exec_importKey ..⟩
  | reqBind => exact .inl ⟨_, exec_reqBind ..⟩
  | reqUnbind => exact .inl ⟨_, exec_reqUnbind ..⟩
  | reqZeroise => exact .inl ⟨_, exec_reqZeroise ..⟩
  | armMeasure => exact .inl ⟨_, exec_armMeasure ..⟩
  | reqQuote => exact .inl ⟨_, exec_reqQuote ..⟩
  | peerAgree => exact .inl ⟨_, exec_peerAgree ..⟩
  | clearRecorder => exact .inl ⟨_, exec_clearRecorder ..⟩
  | reqLifecycle => exact .inl ⟨_, exec_reqLifecycle ..⟩
  | reqCustodian => exact .inl ⟨_, exec_reqCustodian ..⟩
  | reqFederation => exact .inl ⟨_, exec_reqFederation ..⟩
  | reqConfigure => exact .inl ⟨_, exec_reqConfigure ..⟩
  | almAlarm => exact .inl ⟨_, exec_almAlarm ..⟩
  | alarmReset => exact .inl ⟨_, exec_alarmReset⟩
  | almForce => exact .inl ⟨_, exec_almForce ..⟩
  | debugChallenge => exact .inl ⟨_, exec_debugChallenge⟩
  | debugToken => exact .inl ⟨_, exec_debugToken ..⟩
  | arcRead => exact .inl ⟨_, exec_arcRead⟩
  | arcProgram => exact .inl ⟨_, exec_arcProgram⟩
  | arcErase => exact .inl ⟨_, exec_arcErase⟩
  | arcClose => exact .inl ⟨_, exec_arcClose⟩
  | sectorState => exact .inl ⟨_, exec_sectorState⟩
  | arcStop => exact .inl ⟨_, exec_arcStop ..⟩
  | brownOutDetect => exact .inl ⟨_, exec_brownOutDetect⟩
  | borRelease => exact .inl ⟨_, exec_borRelease⟩
  | xoLock => exact .inl ⟨_, exec_xoLock ..⟩
  | prvRecord => exact .inl ⟨_, exec_prvRecord ..⟩
  | recWrite => exact .inl ⟨_, exec_recWrite ..⟩
  | recordHoldExpiry => exact .inl ⟨_, exec_recordHoldExpiry ..⟩
  | recordProgram => exact .inl ⟨_, exec_recordProgram ..⟩
  | hourTick => exact .inl ⟨_, exec_hourTick⟩
  | prvClear => exact .inl ⟨_, exec_prvClear ..⟩
  | updWrite => exact .inl ⟨_, exec_updWrite ..⟩
  | updAbort => exact .inl ⟨_, exec_updAbort ..⟩
  | writeOs => exact .inl ⟨_, exec_writeOs⟩
  | writeDocent => exact .inl ⟨_, exec_writeDocent⟩
  | confirmOs => exact .inl ⟨_, exec_confirmOs⟩
  | updReqAbort => exact .inl ⟨_, exec_updReqAbort⟩
  | updConfirmDoc => exact .inl ⟨_, exec_updConfirmDoc ..⟩
  | updConfirmOs => exact .inl ⟨_, exec_updConfirmOs ..⟩
  | trialExpiry => exact .inl ⟨_, exec_trialExpiry⟩
  | recoveryWrite => exact .inl ⟨_, exec_recoveryWrite ..⟩
  | recoveryRun => exact .inl ⟨_, exec_recoveryRun ..⟩
  | recoveryStatus => exact .inl ⟨_, exec_recoveryStatus⟩
  | wdgFeed => exact .inl ⟨_, exec_wdgFeed ..⟩
  | wdgWarn => exact .inl ⟨_, exec_wdgWarn ..⟩
  | wdgExpiry => exact .inl ⟨_, exec_wdgExpiry ..⟩
  | wdgGraceExpiry => exact .inl ⟨_, exec_wdgGraceExpiry⟩
  | rungRequest => exact .inl ⟨_, exec_rungRequest ..⟩
  | rungExitDone => exact .inl ⟨_, exec_rungExitDone ..⟩
  | signalDetect => exact .inl ⟨_, exec_signalDetect ..⟩
  | unitIdleGate => exact .inl ⟨_, exec_unitIdleGate ..⟩
  | unitIdleRetain => exact .inl ⟨_, exec_unitIdleRetain ..⟩
  | coreRungRequest => exact .inl ⟨_, exec_coreRungRequest ..⟩
  | pwrServe => exact .inl ⟨_, exec_pwrServe ..⟩
  | pwrStandby => exact .inl ⟨_, exec_pwrStandby ..⟩
  | serveDone => exact .inl ⟨_, exec_serveDone⟩
  | pwrDroop => exact .inl ⟨_, exec_pwrDroop ..⟩
  | pwrSag => exact .inl ⟨_, exec_pwrSag ..⟩
  | avsWindow => exact .inl ⟨_, exec_avsWindow ..⟩
  | droopRecover => exact .inl ⟨_, exec_droopRecover ..⟩
  | tempSample => exact .inl ⟨_, exec_tempSample ..⟩
  | thermalThrottleStep => exact .inl ⟨_, exec_thermalThrottleStep ..⟩
  | rsvSample => exact .inl ⟨_, exec_rsvSample ..⟩
  | carrierReload => exact .inl ⟨_, exec_carrierReload ..⟩
  | currentTrip => exact .inl ⟨_, exec_currentTrip ..⟩
  | rsvModeWrite => exact .inl ⟨_, exec_rsvModeWrite ..⟩
  | clearFault => exact .inl ⟨_, exec_clearFault ..⟩
  | rsvCommitGo => exact .inl ⟨_, exec_rsvCommitGo ..⟩
  | healthStart => exact .inl ⟨_, exec_healthStart ..⟩
  | healthEnd => exact .inl ⟨_, exec_healthEnd⟩
  | limpTimeout => exact .inl ⟨_, exec_limpTimeout⟩
  | allowanceUpdate => exact .inl ⟨_, exec_allowanceUpdate⟩
  | mainsLost => exact .inl ⟨_, exec_mainsLost⟩
  | mainsBack => exact .inl ⟨_, exec_mainsBack⟩
  | busTrip => exact .inl ⟨_, exec_busTrip⟩
  | dumpDone => exact .inl ⟨_, exec_dumpDone⟩
  | dumpRestart => exact .inl ⟨_, exec_dumpRestart⟩
  | keyFreshWrite => exact .inl ⟨_, exec_keyFreshWrite ..⟩
  | powerOn => exact .inr ⟨_, exec_powerOn⟩
  | resetRelease => exact .inr ⟨_, exec_resetRelease⟩
  | resetAssert => exact .inr ⟨_, exec_resetAssert ..⟩
  | railBrownOut => exact .inr ⟨_, exec_railBrownOut ..⟩
  | anxLaneFail => exact .inl ⟨_, exec_anxLaneFail ..⟩
  | plkLaneFail => exact .inl ⟨_, exec_plkLaneFail ..⟩
  | masterMarkerLoss => exact .inr ⟨_, exec_masterMarkerLoss ..⟩
  | rungEntryDone => exact .inl ⟨_, exec_rungEntryDone ..⟩
  | standbyDone => exact .inl ⟨_, exec_standbyDone⟩
  | droopEnd => exact .inl ⟨_, exec_droopEnd ..⟩
  | railsRemoved => exact .inr ⟨_, exec_railsRemoved⟩
  | crystalStable => exact .inr ⟨_, exec_crystalStable⟩
  | arcOperationEnd => exact .inl ⟨_, exec_arcOperationEnd ..⟩

/-- Every other command lifts an effect of a running chip. -/
theorem exec_lift (c : Instr) (h : reachesHeldChip c = false) : ∃ f, exec c = lift f := by
  cases c with
  | registerWrite => exact ⟨_, exec_registerWrite ..⟩
  | partialAccess => exact ⟨_, exec_partialAccess ..⟩
  | pairLoRead => exact ⟨_, exec_pairLoRead ..⟩
  | pairHiWrite => exact ⟨_, exec_pairHiWrite ..⟩
  | undecodedAccess => exact ⟨_, exec_undecodedAccess ..⟩
  | firewallAccess => exact ⟨_, exec_firewallAccess ..⟩
  | errInfoClear => exact ⟨_, exec_errInfoClear ..⟩
  | commitGo => exact ⟨_, exec_commitGo ..⟩
  | blockReset => exact ⟨_, exec_blockReset ..⟩
  | quiesceRequest => exact ⟨_, exec_quiesceRequest ..⟩
  | quiesceDone => exact ⟨_, exec_quiesceDone ..⟩
  | blockEnable => exact ⟨_, exec_blockEnable ..⟩
  | instanceFence => exact ⟨_, exec_instanceFence ..⟩
  | instanceUnfence => exact ⟨_, exec_instanceUnfence ..⟩
  | blockFault => exact ⟨_, exec_blockFault ..⟩
  | evtStatusClear => exact ⟨_, exec_evtStatusClear ..⟩
  | evtEnableWrite => exact ⟨_, exec_evtEnableWrite ..⟩
  | evtForce => exact ⟨_, exec_evtForce ..⟩
  | evtSwRaise => exact ⟨_, exec_evtSwRaise ..⟩
  | routeDataWrite => exact ⟨_, exec_routeDataWrite ..⟩
  | routeError => exact ⟨_, exec_routeError ..⟩
  | wgStall => exact ⟨_, exec_wgStall ..⟩
  | wgWake => exact ⟨_, exec_wgWake ..⟩
  | wgMembersWrite => exact ⟨_, exec_wgMembersWrite ..⟩
  | keyErase => exact ⟨_, exec_keyErase⟩
  | quotaShrink => exact ⟨_, exec_quotaShrink ..⟩
  | foyerPause => exact ⟨_, exec_foyerPause ..⟩
  | accessionHold => exact ⟨_, exec_accessionHold ..⟩
  | frameTick => exact ⟨_, exec_frameTick ..⟩
  | slotBoundary => exact ⟨_, exec_slotBoundary⟩
  | scheduleDeadline => exact ⟨_, exec_scheduleDeadline ..⟩
  | tickMarker => exact ⟨_, exec_tickMarker ..⟩
  | missedTick => exact ⟨_, exec_missedTick⟩
  | lengthSetChange => exact ⟨_, exec_lengthSetChange ..⟩
  | lengthChanged => exact ⟨_, exec_lengthChanged⟩
  | ptpOffsetWrite => exact ⟨_, exec_ptpOffsetWrite ..⟩
  | clrCounts => exact ⟨_, exec_clrCounts ..⟩
  | foyLinkChange => exact ⟨_, exec_foyLinkChange ..⟩
  | fecDegraded => exact ⟨_, exec_fecDegraded ..⟩
  | pauseFrame => exact ⟨_, exec_pauseFrame ..⟩
  | pfcStorm => exact ⟨_, exec_pfcStorm ..⟩
  | pfcStormEnd => exact ⟨_, exec_pfcStormEnd ..⟩
  | ceMarkedPacket => exact ⟨_, exec_ceMarkedPacket ..⟩
  | cnpReceived => exact ⟨_, exec_cnpReceived ..⟩
  | rateRecover => exact ⟨_, exec_rateRecover ..⟩
  | ptpEventMessage => exact ⟨_, exec_ptpEventMessage ..⟩
  | connectionRequest => exact ⟨_, exec_connectionRequest ..⟩
  | authComplete => exact ⟨_, exec_authComplete ..⟩
  | ctxBindWrite => exact ⟨_, exec_ctxBindWrite ..⟩
  | collEntryWrite => exact ⟨_, exec_collEntryWrite ..⟩
  | commandCapsule => exact ⟨_, exec_commandCapsule ..⟩
  | keepAlive => exact ⟨_, exec_keepAlive ..⟩
  | commandAdmit => exact ⟨_, exec_commandAdmit ..⟩
  | boundLong => exact ⟨_, exec_boundLong ..⟩
  | foqResume => exact ⟨_, exec_foqResume ..⟩
  | fusedRecordAck => exact ⟨_, exec_fusedRecordAck ..⟩
  | fusedHoldExpiry => exact ⟨_, exec_fusedHoldExpiry ..⟩
  | hostCompletion => exact ⟨_, exec_hostCompletion ..⟩
  | mftDescWrite => exact ⟨_, exec_mftDescWrite ..⟩
  | mftDescRead => exact ⟨_, exec_mftDescRead ..⟩
  | mftDescSend => exact ⟨_, exec_mftDescSend ..⟩
  | mftDescAtomicAdd => exact ⟨_, exec_mftDescAtomicAdd ..⟩
  | mftDescAtomicCas => exact ⟨_, exec_mftDescAtomicCas ..⟩
  | postRecv => exact ⟨_, exec_postRecv ..⟩
  | mftWritePacket => exact ⟨_, exec_mftWritePacket ..⟩
  | mftReadPacket => exact ⟨_, exec_mftReadPacket ..⟩
  | readResp => exact ⟨_, exec_readResp ..⟩
  | mftSendPacket => exact ⟨_, exec_mftSendPacket ..⟩
  | mftAtomicAddPacket => exact ⟨_, exec_mftAtomicAddPacket ..⟩
  | mftAtomicCasPacket => exact ⟨_, exec_mftAtomicCasPacket ..⟩
  | atomicResp => exact ⟨_, exec_atomicResp ..⟩
  | mftAck => exact ⟨_, exec_mftAck ..⟩
  | mftNak => exact ⟨_, exec_mftNak ..⟩
  | ackDelay => exact ⟨_, exec_ackDelay ..⟩
  | rtoExpiry => exact ⟨_, exec_rtoExpiry ..⟩
  | rnrDelay => exact ⟨_, exec_rnrDelay ..⟩
  | mftOpen => exact ⟨_, exec_mftOpen ..⟩
  | mftClose => exact ⟨_, exec_mftClose ..⟩
  | closeDone => exact ⟨_, exec_closeDone ..⟩
  | granulePlace => exact ⟨_, exec_granulePlace ..⟩
  | anxMirror => exact ⟨_, exec_anxMirror ..⟩
  | mirrorAck => exact ⟨_, exec_mirrorAck ..⟩
  | mirrorResend => exact ⟨_, exec_mirrorResend ..⟩
  | catUpdate => exact ⟨_, exec_catUpdate ..⟩
  | catAck => exact ⟨_, exec_catAck ..⟩
  | anxForward => exact ⟨_, exec_anxForward ..⟩
  | forwardResp => exact ⟨_, exec_forwardResp ..⟩
  | heartbeat => exact ⟨_, exec_heartbeat ..⟩
  | heartbeatSend => exact ⟨_, exec_heartbeatSend⟩
  | heartbeatLoss => exact ⟨_, exec_heartbeatLoss⟩
  | ownership => exact ⟨_, exec_ownership ..⟩
  | ownershipAck => exact ⟨_, exec_ownershipAck ..⟩
  | resilver => exact ⟨_, exec_resilver ..⟩
  | anxFlit => exact ⟨_, exec_anxFlit ..⟩
  | anxReplayTimer => exact ⟨_, exec_anxReplayTimer ..⟩
  | anxRetrainTimeout => exact ⟨_, exec_anxRetrainTimeout ..⟩
  | anxTrained => exact ⟨_, exec_anxTrained ..⟩
  | anxTrainTimeout => exact ⟨_, exec_anxTrainTimeout ..⟩
  | anxRetrainCmd => exact ⟨_, exec_anxRetrainCmd ..⟩
  | anxClrStats => exact ⟨_, exec_anxClrStats ..⟩
  | leaseRenew => exact ⟨_, exec_leaseRenew⟩
  | leaseLapse => exact ⟨_, exec_leaseLapse⟩
  | witnessPoll => exact ⟨_, exec_witnessPoll⟩
  | takeover => exact ⟨_, exec_takeover ..⟩
  | isolateTimeout => exact ⟨_, exec_isolateTimeout⟩
  | pairJoin => exact ⟨_, exec_pairJoin ..⟩
  | resilverDone => exact ⟨_, exec_resilverDone⟩
  | giveback => exact ⟨_, exec_giveback ..⟩
  | givebackBatch => exact ⟨_, exec_givebackBatch⟩
  | pairLeave => exact ⟨_, exec_pairLeave ..⟩
  | shrinkStart => exact ⟨_, exec_shrinkStart ..⟩
  | shrinkRestore => exact ⟨_, exec_shrinkRestore ..⟩
  | overQuotaLong => exact ⟨_, exec_overQuotaLong⟩
  | retainAdopt => exact ⟨_, exec_retainAdopt ..⟩
  | retainDiscard => exact ⟨_, exec_retainDiscard ..⟩
  | slotEcc => exact ⟨_, exec_slotEcc ..⟩
  | nsCreate => exact ⟨_, exec_nsCreate ..⟩
  | nsDelete => exact ⟨_, exec_nsDelete ..⟩
  | nsResize => exact ⟨_, exec_nsResize ..⟩
  | nsFreeze => exact ⟨_, exec_nsFreeze ..⟩
  | editionDelete => exact ⟨_, exec_editionDelete ..⟩
  | nsExpose => exact ⟨_, exec_nsExpose ..⟩
  | nsUnexpose => exact ⟨_, exec_nsUnexpose ..⟩
  | ckptNow => exact ⟨_, exec_ckptNow ..⟩
  | ckptInterval => exact ⟨_, exec_ckptInterval⟩
  | ckptDone => exact ⟨_, exec_ckptDone ..⟩
  | pageIn => exact ⟨_, exec_pageIn ..⟩
  | wayEnWrite => exact ⟨_, exec_wayEnWrite ..⟩
  | wayCleanDone => exact ⟨_, exec_wayCleanDone ..⟩
  | wayEccFence => exact ⟨_, exec_wayEccFence ..⟩
  | lineEcc => exact ⟨_, exec_lineEcc ..⟩
  | accessionBatch => exact ⟨_, exec_accessionBatch ..⟩
  | compareReadDone => exact ⟨_, exec_compareReadDone ..⟩
  | rgsReindex => exact ⟨_, exec_rgsReindex ..⟩
  | replayDone => exact ⟨_, exec_replayDone⟩
  | unitFailed => exact ⟨_, exec_unitFailed ..⟩
  | unitFence => exact ⟨_, exec_unitFence ..⟩
  | unitUnfence => exact ⟨_, exec_unitUnfence ..⟩
  | unitDrained => exact ⟨_, exec_unitDrained ..⟩
  | dgeHash => exact ⟨_, exec_dgeHash ..⟩
  | dgeHmac => exact ⟨_, exec_dgeHmac ..⟩
  | dgeCompare => exact ⟨_, exec_dgeCompare ..⟩
  | hmacVerify => exact ⟨_, exec_hmacVerify ..⟩
  | stateSave => exact ⟨_, exec_stateSave ..⟩
  | stateRestore => exact ⟨_, exec_stateRestore ..⟩
  | hkdfToSlot => exact ⟨_, exec_hkdfToSlot ..⟩
  | cdcAppend => exact ⟨_, exec_cdcAppend ..⟩
  | cdcFlush => exact ⟨_, exec_cdcFlush ..⟩
  | cdcExpand => exact ⟨_, exec_cdcExpand ..⟩
  | bufCompress => exact ⟨_, exec_bufCompress ..⟩
  | bufExpand => exact ⟨_, exec_bufExpand ..⟩
  | streamFlushTimeout => exact ⟨_, exec_streamFlushTimeout ..⟩
  | caseCompressed => exact ⟨_, exec_caseCompressed ..⟩
  | xtsEnc => exact ⟨_, exec_xtsEnc ..⟩
  | xtsDec => exact ⟨_, exec_xtsDec ..⟩
  | xtsRecrypt => exact ⟨_, exec_xtsRecrypt ..⟩
  | gcmEnc => exact ⟨_, exec_gcmEnc ..⟩
  | gcmDec => exact ⟨_, exec_gcmDec ..⟩
  | cphCmac => exact ⟨_, exec_cphCmac ..⟩
  | cmacVerify => exact ⟨_, exec_cmacVerify ..⟩
  | ctxSave => exact ⟨_, exec_ctxSave ..⟩
  | ctxRestore => exact ⟨_, exec_ctxRestore ..⟩
  | keyWrap => exact ⟨_, exec_keyWrap ..⟩
  | keyUnwrap => exact ⟨_, exec_keyUnwrap ..⟩
  | engineCompletion => exact ⟨_, exec_engineCompletion ..⟩
  | galleryFlushTimeout => exact ⟨_, exec_galleryFlushTimeout ..⟩
  | closeNow => exact ⟨_, exec_closeNow ..⟩
  | resyncDone => exact ⟨_, exec_resyncDone⟩
  | verifyDone => exact ⟨_, exec_verifyDone⟩
  | rebuildStart => exact ⟨_, exec_rebuildStart ..⟩
  | plinthRebuildDone => exact ⟨_, exec_plinthRebuildDone⟩
  | reshapeStart => exact ⟨_, exec_reshapeStart ..⟩
  | reshapeAbort => exact ⟨_, exec_reshapeAbort ..⟩
  | reshapeDone => exact ⟨_, exec_reshapeDone⟩
  | plinthPresent => exact ⟨_, exec_plinthPresent ..⟩
  | plinthRemoved => exact ⟨_, exec_plinthRemoved ..⟩
  | plkTrained => exact ⟨_, exec_plkTrained ..⟩
  | plkRelease => exact ⟨_, exec_plkRelease ..⟩
  | plkReleased => exact ⟨_, exec_plkReleased ..⟩
  | plkCompletion => exact ⟨_, exec_plkCompletion ..⟩
  | plkTimeout => exact ⟨_, exec_plkTimeout ..⟩
  | plkAlert => exact ⟨_, exec_plkAlert ..⟩
  | plkFlit => exact ⟨_, exec_plkFlit ..⟩
  | plkReplayTimer => exact ⟨_, exec_plkReplayTimer ..⟩
  | plkRetrainTimeout => exact ⟨_, exec_plkRetrainTimeout ..⟩
  | plkRetrainCmd => exact ⟨_, exec_plkRetrainCmd ..⟩
  | plkRead => exact absurd h (by simp [reachesHeldChip])
  | plkProgram => exact absurd h (by simp [reachesHeldChip])
  | plkErase => exact absurd h (by simp [reachesHeldChip])
  | checkErased => exact absurd h (by simp [reachesHeldChip])
  | witnessRenew => exact absurd h (by simp [reachesHeldChip])
  | witnessRead => exact absurd h (by simp [reachesHeldChip])
  | witnessClaim => exact absurd h (by simp [reachesHeldChip])
  | regRead => exact absurd h (by simp [reachesHeldChip])
  | regWrite => exact absurd h (by simp [reachesHeldChip])
  | bridgeSlotBoundary => exact absurd h (by simp [reachesHeldChip])
  | bridgeTickMarker => exact absurd h (by simp [reachesHeldChip])
  | leaseExpiry => exact absurd h (by simp [reachesHeldChip])
  | curMount => exact ⟨_, exec_curMount ..⟩
  | hallScore => exact ⟨_, exec_hallScore⟩
  | curEvacuate => exact ⟨_, exec_curEvacuate ..⟩
  | curRemove => exact ⟨_, exec_curRemove ..⟩
  | curCancel => exact ⟨_, exec_curCancel ..⟩
  | vaultPrepare => exact ⟨_, exec_vaultPrepare⟩
  | hostReadDispatch => exact ⟨_, exec_hostReadDispatch ..⟩
  | rplShip => exact ⟨_, exec_rplShip ..⟩
  | freezeNumbered => exact ⟨_, exec_freezeNumbered ..⟩
  | resumeSync => exact ⟨_, exec_resumeSync ..⟩
  | rplPromote => exact ⟨_, exec_rplPromote ..⟩
  | rplDemote => exact ⟨_, exec_rplDemote ..⟩
  | rplAbort => exact ⟨_, exec_rplAbort ..⟩
  | syncWrite => exact ⟨_, exec_syncWrite ..⟩
  | rplBegin => exact ⟨_, exec_rplBegin ..⟩
  | rplOffer => exact ⟨_, exec_rplOffer ..⟩
  | rplCase => exact ⟨_, exec_rplCase ..⟩
  | rplUnmap => exact ⟨_, exec_rplUnmap ..⟩
  | rplCommit => exact ⟨_, exec_rplCommit ..⟩
  | rplReply => exact ⟨_, exec_rplReply ..⟩
  | syncTimeout => exact ⟨_, exec_syncTimeout ..⟩
  | asyncTimeout => exact ⟨_, exec_asyncTimeout ..⟩
  | hnyPost => exact ⟨_, exec_hnyPost ..⟩
  | hnyWait => exact ⟨_, exec_hnyWait ..⟩
  | waitWake => exact ⟨_, exec_waitWake ..⟩
  | coreEnable => exact ⟨_, exec_coreEnable ..⟩
  | coreFence => exact ⟨_, exec_coreFence ..⟩
  | coreReady => exact ⟨_, exec_coreReady ..⟩
  | coreFailed => exact ⟨_, exec_coreFailed ..⟩
  | coreAccessFault => exact ⟨_, exec_coreAccessFault ..⟩
  | cqHeadWrite => exact ⟨_, exec_cqHeadWrite ..⟩
  | dmaCopy => exact ⟨_, exec_dmaCopy ..⟩
  | dmaFill => exact ⟨_, exec_dmaFill ..⟩
  | dmaDisable => exact ⟨_, exec_dmaDisable ..⟩
  | dmaEnable => exact ⟨_, exec_dmaEnable ..⟩
  | dmaHalt => exact ⟨_, exec_dmaHalt ..⟩
  | migrateStart => exact ⟨_, exec_migrateStart ..⟩
  | migrateDone => exact ⟨_, exec_migrateDone ..⟩
  | channelFence => exact ⟨_, exec_channelFence ..⟩
  | channelUnfence => exact ⟨_, exec_channelUnfence ..⟩
  | ddrUe => exact ⟨_, exec_ddrUe ..⟩
  | ddrCe => exact ⟨_, exec_ddrCe ..⟩
  | memScrubPass => exact ⟨_, exec_memScrubPass ..⟩
  | pchFence => exact ⟨_, exec_pchFence ..⟩
  | hbmCeFence => exact ⟨_, exec_hbmCeFence ..⟩
  | pchMoveDone => exact ⟨_, exec_pchMoveDone ..⟩
  | hbmUe => exact ⟨_, exec_hbmUe ..⟩
  | releaseE => exact ⟨_, exec_releaseE ..⟩
  | releaseW => exact ⟨_, exec_releaseW ..⟩
  | docChipReset => exact ⟨_, exec_docChipReset ..⟩
  | msrExtend => exact ⟨_, exec_msrExtend ..⟩
  | msrArm => exact ⟨_, exec_msrArm ..⟩
  | getVersion => exact ⟨_, exec_getVersion⟩
  | getCapabilities => exact ⟨_, exec_getCapabilities⟩
  | negotiateAlgorithms => exact ⟨_, exec_negotiateAlgorithms⟩
  | getDigests => exact ⟨_, exec_getDigests⟩
  | getCertificate => exact ⟨_, exec_getCertificate ..⟩
  | spdmChallenge => exact ⟨_, exec_spdmChallenge ..⟩
  | getMeasurements => exact ⟨_, exec_getMeasurements ..⟩
  | keyLoad => exact ⟨_, exec_keyLoad ..⟩
  | keyGenerate => exact ⟨_, exec_keyGenerate ..⟩
  | keyUnwrapCmd => exact ⟨_, exec_keyUnwrapCmd ..⟩
  | keyActivate => exact ⟨_, exec_keyActivate ..⟩
  | keyRevoke => exact ⟨_, exec_keyRevoke ..⟩
  | keyZeroise => exact ⟨_, exec_keyZeroise ..⟩
  | keyExport => exact ⟨_, exec_keyExport ..⟩
  | bindCommit => exact ⟨_, exec_bindCommit ..⟩
  | keyUnbind => exact ⟨_, exec_keyUnbind ..⟩
  | importKey => exact ⟨_, exec_importKey ..⟩
  | reqBind => exact ⟨_, exec_reqBind ..⟩
  | reqUnbind => exact ⟨_, exec_reqUnbind ..⟩
  | reqZeroise => exact ⟨_, exec_reqZeroise ..⟩
  | armMeasure => exact ⟨_, exec_armMeasure ..⟩
  | reqQuote => exact ⟨_, exec_reqQuote ..⟩
  | peerAgree => exact ⟨_, exec_peerAgree ..⟩
  | clearRecorder => exact ⟨_, exec_clearRecorder ..⟩
  | reqLifecycle => exact ⟨_, exec_reqLifecycle ..⟩
  | reqCustodian => exact ⟨_, exec_reqCustodian ..⟩
  | reqFederation => exact ⟨_, exec_reqFederation ..⟩
  | reqConfigure => exact ⟨_, exec_reqConfigure ..⟩
  | almAlarm => exact ⟨_, exec_almAlarm ..⟩
  | alarmReset => exact ⟨_, exec_alarmReset⟩
  | almForce => exact ⟨_, exec_almForce ..⟩
  | debugChallenge => exact ⟨_, exec_debugChallenge⟩
  | debugToken => exact ⟨_, exec_debugToken ..⟩
  | arcRead => exact ⟨_, exec_arcRead⟩
  | arcProgram => exact ⟨_, exec_arcProgram⟩
  | arcErase => exact ⟨_, exec_arcErase⟩
  | arcClose => exact ⟨_, exec_arcClose⟩
  | sectorState => exact ⟨_, exec_sectorState⟩
  | arcStop => exact ⟨_, exec_arcStop ..⟩
  | brownOutDetect => exact ⟨_, exec_brownOutDetect⟩
  | borRelease => exact ⟨_, exec_borRelease⟩
  | xoLock => exact ⟨_, exec_xoLock ..⟩
  | prvRecord => exact ⟨_, exec_prvRecord ..⟩
  | recWrite => exact ⟨_, exec_recWrite ..⟩
  | recordHoldExpiry => exact ⟨_, exec_recordHoldExpiry ..⟩
  | recordProgram => exact ⟨_, exec_recordProgram ..⟩
  | hourTick => exact ⟨_, exec_hourTick⟩
  | prvClear => exact ⟨_, exec_prvClear ..⟩
  | updWrite => exact ⟨_, exec_updWrite ..⟩
  | updAbort => exact ⟨_, exec_updAbort ..⟩
  | writeOs => exact ⟨_, exec_writeOs⟩
  | writeDocent => exact ⟨_, exec_writeDocent⟩
  | confirmOs => exact ⟨_, exec_confirmOs⟩
  | updReqAbort => exact ⟨_, exec_updReqAbort⟩
  | updConfirmDoc => exact ⟨_, exec_updConfirmDoc ..⟩
  | updConfirmOs => exact ⟨_, exec_updConfirmOs ..⟩
  | trialExpiry => exact ⟨_, exec_trialExpiry⟩
  | recoveryWrite => exact ⟨_, exec_recoveryWrite ..⟩
  | recoveryRun => exact ⟨_, exec_recoveryRun ..⟩
  | recoveryStatus => exact ⟨_, exec_recoveryStatus⟩
  | wdgFeed => exact ⟨_, exec_wdgFeed ..⟩
  | wdgWarn => exact ⟨_, exec_wdgWarn ..⟩
  | wdgExpiry => exact ⟨_, exec_wdgExpiry ..⟩
  | wdgGraceExpiry => exact ⟨_, exec_wdgGraceExpiry⟩
  | rungRequest => exact ⟨_, exec_rungRequest ..⟩
  | rungExitDone => exact ⟨_, exec_rungExitDone ..⟩
  | signalDetect => exact ⟨_, exec_signalDetect ..⟩
  | unitIdleGate => exact ⟨_, exec_unitIdleGate ..⟩
  | unitIdleRetain => exact ⟨_, exec_unitIdleRetain ..⟩
  | coreRungRequest => exact ⟨_, exec_coreRungRequest ..⟩
  | pwrServe => exact ⟨_, exec_pwrServe ..⟩
  | pwrStandby => exact ⟨_, exec_pwrStandby ..⟩
  | serveDone => exact ⟨_, exec_serveDone⟩
  | pwrDroop => exact ⟨_, exec_pwrDroop ..⟩
  | pwrSag => exact ⟨_, exec_pwrSag ..⟩
  | avsWindow => exact ⟨_, exec_avsWindow ..⟩
  | droopRecover => exact ⟨_, exec_droopRecover ..⟩
  | tempSample => exact ⟨_, exec_tempSample ..⟩
  | thermalThrottleStep => exact ⟨_, exec_thermalThrottleStep ..⟩
  | rsvSample => exact ⟨_, exec_rsvSample ..⟩
  | carrierReload => exact ⟨_, exec_carrierReload ..⟩
  | currentTrip => exact ⟨_, exec_currentTrip ..⟩
  | rsvModeWrite => exact ⟨_, exec_rsvModeWrite ..⟩
  | clearFault => exact ⟨_, exec_clearFault ..⟩
  | rsvCommitGo => exact ⟨_, exec_rsvCommitGo ..⟩
  | healthStart => exact ⟨_, exec_healthStart ..⟩
  | healthEnd => exact ⟨_, exec_healthEnd⟩
  | limpTimeout => exact ⟨_, exec_limpTimeout⟩
  | allowanceUpdate => exact ⟨_, exec_allowanceUpdate⟩
  | mainsLost => exact ⟨_, exec_mainsLost⟩
  | mainsBack => exact ⟨_, exec_mainsBack⟩
  | busTrip => exact ⟨_, exec_busTrip⟩
  | dumpDone => exact ⟨_, exec_dumpDone⟩
  | dumpRestart => exact ⟨_, exec_dumpRestart⟩
  | keyFreshWrite => exact ⟨_, exec_keyFreshWrite ..⟩
  | powerOn => exact absurd h (by simp [reachesHeldChip])
  | resetRelease => exact absurd h (by simp [reachesHeldChip])
  | resetAssert => exact absurd h (by simp [reachesHeldChip])
  | railBrownOut => exact absurd h (by simp [reachesHeldChip])
  | anxLaneFail => exact ⟨_, exec_anxLaneFail ..⟩
  | plkLaneFail => exact ⟨_, exec_plkLaneFail ..⟩
  | masterMarkerLoss => exact absurd h (by simp [reachesHeldChip])
  | rungEntryDone => exact ⟨_, exec_rungEntryDone ..⟩
  | standbyDone => exact ⟨_, exec_standbyDone⟩
  | droopEnd => exact ⟨_, exec_droopEnd ..⟩
  | railsRemoved => exact absurd h (by simp [reachesHeldChip])
  | crystalStable => exact absurd h (by simp [reachesHeldChip])
  | arcOperationEnd => exact ⟨_, exec_arcOperationEnd ..⟩

theorem lift_eq (f : Head → Head) : lift f = liftAny (fun h => if h.pwr.hold = .running then f h else h) := rfl

/-- Every meaning is a function on the head, settled; the queue stays. -/
theorem exec_effect (c : Instr) : ∃ f : Head → Head, ∀ s, exec c s = .next { s with dev := settle (f s.dev) } := by
  rcases exec_lifts c with ⟨f, h⟩ | ⟨f, h⟩
  · exact ⟨fun h => if h.pwr.hold = .running then f h else h, fun s => by rw [h]; rfl⟩
  · exact ⟨f, fun s => by rw [h]; rfl⟩

theorem step_empty (s : State) (h : s.pending = []) : step s = .next s := by
  unfold step; rw [h]

theorem step_front (s : State) (c : Instr) (rest : List Instr) (h : s.pending = c :: rest) :
    step s = exec c { s with pending := rest } := by
  unfold step; rw [h]

/-- A head that is not running is left as the effect leaves it. -/
theorem settle_held (h : Head) (hh : h.pwr.hold ≠ .running) : settle h = h := by
  unfold settle; rw [if_neg hh]

theorem lift_running (f : Head → Head) (s : State) (h : Runs s.dev) : lift f s = .next { s with dev := settle (f s.dev) } := by
  unfold lift liftAny; simp only [h, if_true]

theorem lift_held (f : Head → Head) (s : State) (h : ¬ Runs s.dev) : lift f s = .next s := by
  unfold lift liftAny
  simp only [h, if_false]
  rw [settle_held _ h]

/-- A command completes with an effect that its meaning computes. -/
theorem completes_lift {c : Instr} {f : Head → Head} {s : State} {P : Head → Prop} (hx : exec c = lift f) (hr : Runs s.dev)
    (hP : P (f s.dev)) : Completes c s P := ⟨f s.dev, by rw [hx, lift_running f s hr], hP⟩

theorem completes_liftAny {c : Instr} {f : Head → Head} {s : State} {P : Head → Prop} (hx : exec c = liftAny f)
    (hP : P (f s.dev)) : Completes c s P := ⟨f s.dev, by rw [hx]; rfl, hP⟩

end Sys2Proof.Laws
end

