-- ==== Sys2Proof/Tests/Slice0.lean ====
section
/-! SUPPORT. Tests: ill-formed commands refused, small steps by the spec's rules, and for every clause of every obligation a head and
operands that meet its hypotheses together, at a boundary of their ranges where they have one. -/

namespace Sys2Proof.Tests

set_option linter.unusedVariables false
set_option Elab.async false
set_option maxRecDepth 100000
set_option exponentiation.threshold 65536

open Machine Machine.Reg

/-! ### The heads and operands the tests are about -/

/-- The checks of Writable, as one test. -/
def canWrite (h : Head) (ini : Initiator) (p : Page) (off : Nat) : Bool :=
  pageOk p && off % 4 == 0 && decide (off < 4096) && (!isDocent p.block || ini == .docent) && !ownerRefuses h ini p &&
    (decide (off < 0x40) || (hget h p STATUS_FENCED != 1 && hget h p RUNG_CURRENT != 4))

theorem wr_ok {h : Head} {ini : Initiator} {p : Page} {off : Nat} (c : canWrite h ini p off = true) : Writable h ini p off := by
  simp only [canWrite, Bool.and_eq_true, Bool.or_eq_true, Bool.not_eq_true', decide_eq_true_eq, beq_iff_eq, bne_iff_ne] at c
  obtain ⟨⟨⟨⟨⟨a, b⟩, c⟩, d⟩, e⟩, f⟩ := c
  refine ⟨a, b, c, ?_, e, ?_⟩
  · intro x
    rcases d with d | d
    · rw [x] at d; cases d
    · exact d
  · intro x
    rcases f with f | f
    · omega
    · exact f

/-- What an access that succeeds gives, as one test. -/
def isOk {α β : Type} [DecidableEq β] (e : Except α β) (v : β) : Bool :=
  match e with
  | .ok x => decide (x = v)
  | .error _ => false

theorem ok_of {α β : Type} [DecidableEq β] {e : Except α β} {v : β} (c : isOk e v = true) : e = .ok v := by
  cases e with
  | ok x => simp only [isOk, decide_eq_true_eq] at c; rw [c]
  | error x => cases c

/-- A running head, and a state of it with no command waiting. -/
def z : Head := Head.reset
def st (h : Head) : State := ⟨h, []⟩
/-- A page's block enabled. -/
def on (h : Head) (p : Page) : Head :=
  hset (hset (hset (hset h p RUNG_CURRENT 0) p CTRL_ENABLE 1) p STATUS_RUNNING 1) p STATUS_QUIESCED 0
/-- A page's island at rung 0. -/
def lit (h : Head) (p : Page) : Head := hset h p RUNG_CURRENT 0

/-- A locked follower with the East Annex link up. -/
def fl : Head := fset (fset (fset (fset z .east FRM_CTRL_ROLE 2) .east FRM_LOCK_STATE 1) .west FRM_LOCK_STATE 1) .east ANX_LINK_STATUS_UP 1

/-- A namespace of collection 0, a read of it and its command; a head with the Foyer, the frontend and the Vitrine enabled on East. -/
def ns1 : Namespace := ⟨1, 0, .east, true, true, 1000, false, 0, [], [], [], false, false⟩
def cap0 : Capsule := ⟨.east, 0, 9, 1, 5, 1, .read, 1, 0, 4, false, false, false, false, false, .none, .send, 0, true⟩
def hc : HostCmd := ⟨cap0, 0, false, [], false, false, [], none, none, false, none, false, none⟩
/-- A write with a 16-bit guard that is checked. -/
def pc : HostCmd := { hc with cap := { cap0 with op := .write, count := 1, fmt := .guard16, chkGuard := true } }
def wc : HostCmd := { hc with cap := { cap0 with op := .write }, data := [1, 2, 3, 0x55] }
def wc1 : HostCmd := { hc with cap := { cap0 with op := .write, count := 1 }, data := [0x55] }
def fh : Head :=
  let h := on (on (on z (pg .foq .east)) (pg .foy .east 0)) (pg .vit .east)
  { fset (fset h .east FOQ_CTX_STATE_AUTHENTICATED 1 9) .east FOQ_CTX_BIND_TYPE 1 9 with cat := { z.cat with nss := [(1, ns1)] } }
/-- A head with a command outstanding under host tag 3. -/
def fhc (c : HostCmd) : Head := { fh with foy := { fh.foy with cmds := [(tagKey .east 3, c)] } }

/-- A descriptor with the fields of a Mehror one. -/
def dsc (op tag ctx len lkey loff rkey roff : Nat) : Desc :=
  BitVec.ofNat 512 (op + tag <<< 32 + ctx <<< 64 + len <<< 96 + lkey <<< 128 + loff <<< 160 + rkey <<< 224 + roff <<< 256)
/-- A head whose Mehror context 7 on West is OPEN, with one region of 16 pages under every right. -/
def mh : Head :=
  let h := on (on z (pg .mft .west)) (pg .foq .west)
  let h := fset (fset h .west MFT_CTRL_ACCEPT 1) .west FOQ_CTX_BIND_TYPE 3 7
  let h := fset (fset (fset h .west MFT_CTX_STATE_STATE 1 7) .west MFT_CTX_PEER_NODE 2 7) .west FOQ_CTX_STATE_AUTHENTICATED 1 7
  let h := fset (fset (fset h .west MFT_REGION_ATTR_VALID 1 3) .west MFT_REGION_ATTR_WRITE 1 3) .west MFT_REGION_ATTR_READ 1 3
  fset (fset (fset h .west MFT_REGION_ATTR_ATOMIC 1 3) .west MFT_REGION_LEN_PAGES 16 3) .west MFT_REGION_BASE_LO_ADDR 0x100 3
def rk : Nat := 3 + 2 ^ 14
/-- A packet to that context. -/
def mp : MftPacket where
  port := fget mh .east MFT_UDP_PORT
  version := 1
  opcode := 1
  ackReq := true
  first := true
  last := true
  solicited := false
  paylen := 64
  srcNode := 2
  dstNode := fget mh .east MFT_NODE_NODE_ID
  collId := 0
  retry := 0
  dstConn := 7 + 2 ^ 15
  psn := 0
  txc := 0
  ts := 0
  rkey := rk
  len := 64
  offset := 0
  addend := 5
  swap := 6
  msgId := 0
  msgLen := 64
  imm := 0
  nextPsn := 0
  rwin := 4096
  ceCount := 0
  tsEcho := 0
  sack := 0
  code := 0
  data := 0x1234
  tagOk := true
  ce := false
/-- That context with state of its own. -/
def mc (f : MftCtx → MftCtx) : Head := { mh with mft := [(ctxKey .west 7, f (freshMft mh .west))] }
/-- A packet of it that is outstanding under a TAG. -/
def mo (op tag : Nat) : MftOut := ⟨{ mp with opcode := op }, 1, tag, 1, 0, 0, false, false, [0], false, 0x2000, true⟩
/-- An Annex label that passes, and an entry of a MIRROR. -/
def lab : Label := ⟨1, 0, 0, true, false, 0, 0, 0, 0, 0, 0⟩
def me : MirrorEntry := ⟨withCrc lab, 1, 5, 1, 0x77⟩
def ce1 : CatEntry := ⟨1, 0, 5, 1, 0x100, 0⟩
/-- An idle link with credits of every channel. -/
def lk0 : LinkState := { LinkState.idle with credits := [64, 64, 64, 64] }
/-- A head of a pair in state x, with both Annex links up and the pair's namespace. -/
def pr (x : Nat) : Head :=
  let h := on (on fh (pg .anx .east)) (pg .anx .west)
  { fset (fset (fset h .east ANX_PAIR_STATE_STATE x) .east ANX_LINK_STATUS_UP 1) .west ANX_LINK_STATUS_UP 1 with
    vit := { z.vit with linkE := lk0, linkW := lk0 } }
/-- That head with Vitrine state of its own. -/
def pv (x : Nat) (f : VitState → VitState) : Head := { pr x with vit := f (pr x).vit }
/-- That head with one entry unacknowledged under MTAG 3. -/
def pu (b : AnxBody) : Head := pv 3 (fun v => { v with unacked := [⟨.east, 3, 0, b, false⟩] })
def sl : Slot := ⟨.east, .dirty, 1, 5, 1, withCrc lab, 0x77, false, false, false, false⟩
/-- A head with the catalogue enabled, the given namespace, and the arguments of a namespace command. -/
def ct (n : Namespace) (nsid attr size ed : Nat) : Head :=
  let h := on (on z (pg .cat .east)) (pg .cat .west)
  let h := fset (fset h .east CAT_NS_ID_NSID nsid) .east CAT_NS_EDITION_NUMBER ed
  let h := fset (wr h (pg .cat .east) 0x060 0 (BitVec.ofNat 32 attr)) .east CAT_NS_SIZE_LO_SIZE size
  { fset h .east CAT_NS_INDEX_INDEX 1 with cat := { z.cat with nss := [(1, n)] } }
/-- What a CAT_UPDATE of one entry does. -/
def cu : Head × List JournalEntry :=
  (applyAll (foldHead (pr 3) ([ce1].filter carriesSeq) (fun h e => raiseSeq h e.wseq)) [ce1]).getD (z, [])
def ed1 : Edition := ⟨3, 1, 0, 0, [], [], none⟩
def nse (e : Edition) : Namespace := { ns1 with editions := [e], lastEdition := 3 }
/-- A head with the Curator's, the Registrar's and the galleries' pages enabled. -/
def rh : Head := [Block.cch, .rgs, .gal, .cur, .dsp, .vit, .cat].foldl (fun h b => on (on h (pg b .east)) (pg b .west)) z
/-- A descriptor from its fields at their byte positions. -/
def ds (l : List (Nat × Nat)) : Desc := BitVec.ofNat 512 ((l.map (fun e => e.2 <<< (8 * e.1))).sum)
def tk (d : Desc) : Taken := ⟨d, none, true, false, true⟩
def tkd (d : Desc) : Taken := ⟨d, some docentRing, true, true, false⟩
def hb : Nat := 0x0A0000000000
/-- A key slot ACTIVE with a kind and a usage. -/
def withKey (h : Head) (id kind usage : Nat) : Head :=
  fset (fset (fset h .east KEY_SLOT_ATTR_STATE 2 id) .east KEY_SLOT_ATTR_KIND kind id) .east KEY_SLOT_ATTR_USAGE usage id
/-- A head with the engines enabled, a key of each kind k in slot k and the context-wrap keys. -/
def eh : Head :=
  let h := [Block.dge, .cdc, .cph, .dma].foldl (fun h b => on (on h (pg b .east)) (pg b .west)) z
  withKey (withKey (withKey (withKey (withKey (withKey (withKey h 1 1 0) 2 2 2) 3 3 2) 4 4 2) 5 5 2) 8194 5 4) 8195 5 4
/-- A head with engine operations, chains and cases of its own. -/
def ee (f : EngState → EngState) : Head := { eh with eng := f eh.eng }
def eo (cls : Block) : EngOp := { newOp cls .east (tk (ds [(4, 9), (60, 3)])) with place := [⟨hb + 0x5000, 4, 0xABCD⟩], bytes := 4 }
def chn (cls : Block) : Chain := ⟨cls, .east, none, 1, 2, 0, none, 0, 64, 0, 7, 0, 0, false⟩
def ap : Appended := ⟨some 9, hb, lab, .east, 0, 0, 0, 0⟩
def gal1 : Gallery := ⟨.east, 6, 0, 3, 4, [⟨0, 0, 0, 8, true, false, 0, []⟩], 1000000, false, [], [], []⟩
def hall1 : Hall := ⟨true, 1, false, .east, 4, 100, 100, [], [], 400, 100, 0, [0, 1, 2, 3, 4, 5]⟩
def gh (f : GalState → GalState) (g : CurState → CurState) : Head := { rh with gal := f rh.gal, cur := g rh.cur }
/-- Plinths 0 and 40 present and up. -/
def plk (h : Head) (n : Nat) : Head :=
  let h := on h (pg .plk (plkWing n) (plkInst n))
  plkSet (plkSet (plkSet (plkSet h n PLK_STATUS_PRESENT 1) n PLK_STATUS_UP 1) n PLK_STATUS_ADMITTED 1) n PLK_CTRL_LINK_EN 1
def po (c : PlkCmd) (p : Purpose) : PlkOp := ⟨40, c, .host, false, p, 0⟩
def po1 : PlkOp := po { emptyCmd 1 false with slot := 127, gen := 5, sheets := 8 } (.hostRead 0x60000 0 8)
def pd1 : PlkDone := ⟨false, 5, 127, .done, false, false, false, 0, 0, 0, 0, 0, 0, 9, 0, 4096, 0x77⟩
def ph (l : List PlkOp) : Head := { plk (plk rh 40) 0 with plk := { z.plk with ops := l } }
/-- A head with the state of the bridge of plinth 63. -/
def bh (f : Bridge → Bridge) : Head := { z with bridges := [(63, f blankBridge)] }
def dc (op : Nat) : PlkCmd := { emptyCmd op false with slot := 127, gen := 9, channel := 15, die := 7, block := 1048575, row := 4095, first := 127, sheets := 1, start := 31, epoch := 4 }
def mcm (op slot : Nat) : PlkCmd := { emptyCmd op true with slot := slot, gen := 9, epoch := 4, arg := 100 }
def bj (op : Nat) : BrJob := ⟨1, dc op, false, false, 0, 0, 0⟩
/-- A head mounted with just the free blocks a vault needs. -/
def vh : Head := fset (fset { plk rh 0 with cur := { rh.cur with mounted := true, members := [0], blocks := (List.range 257).map (fun k => (k <<< 14, ⟨0, 0, 0, 0, 0, false⟩)) } } .east RSV_DUMP_KEY_FRESH 1) .east CUR_GEOM_SLC_ROWS 4095
/-- A head whose collection 0 is replicated in a mode and a state, with the namespace given. -/
def rp (mode state : Nat) (n : Namespace) (f : RplState → RplState) : Head :=
  let h := [Block.rpl, .cat, .vit, .cpu, .mem, .hbm, .dma].foldl (fun h b => on (on h (pg b .east)) (pg b .west)) z
  let h := fset (fset h .east RPL_MAP_MODE_MODE mode) .east RPL_MAP_MODE_STATE state
  let h := fset (fset h .east RPL_CTRL_ACCEPT 1) .east RPL_EDITION_NUMBER 3
  { h with cat := { h.cat with nss := [(1, n)] }, rpl := f h.rpl }
def rc : RplColl := ⟨0, 0, none, none, false, false, false⟩
def shp : Ship := ⟨3, 0, false, false, false, [], [], 0, 0⟩
def rq (b : RplBody) : RplReq := ⟨0, 5, 0, b, false⟩
/-- A head with the cores released and the memory's pages enabled. -/
def ch (f : CoreState → CoreState) : Head :=
  let h := [Block.cpu, .mem, .hbm, .dma, .pwr].foldl (fun h b => on (on h (pg b .east)) (pg b .west)) z
  let h := fset (fset (fset h .east MEM_SEG_ENTRY_VALID 1 0) .east MEM_SEG_ENTRY_SET 0x01 0) .west CPU_CORE_STATE_STATE 0 25
  let h := fset (fset (fset h .east CPU_RING_CFG_ENABLE 1 3) .east CPU_RING_CFG_LOG2_SIZE 4 3) .east CPU_RING_CFG_ANY_HART 1 3
  { h with core := f h.core, doc := { h.doc with releasedE := true, releasedW := true } }
def dd : Nat := 0x010000000000
/-- A head with Docent's pages enabled and its firmware running. -/
def dh (f : DocState → DocState) : Head :=
  let h := [Block.doc, .key, .msr, .prv, .arc, .upd, .alm, .wdg, .rsv, .pwr].foldl (fun h b => on (on h (pg b .east)) (pg b .west)) z
  { fset h .east DOC_STATUS_STAGE 1 with doc := f h.doc }
/-- A slot's state, kind and usage, and the slot selected with the wrapping key of slot 8197. -/
def kh (k st kind usage : Nat) : Head :=
  let h := withKey (withKey (dh id) 8197 5 4) k kind usage
  fset (fset (fset h .east KEY_SLOT_ATTR_STATE st k) .east KEY_SLOT_INDEX_SLOT k) .east KEY_WRAP_SLOT 5
def bnd : Binding := ⟨0, false, .east, 2, 1⟩
/-- A media key in slot 1 and a fingerprint key in slot 2, both ACTIVE, staged for binding 0. -/
def bkh : Head :=
  let h := withKey (withKey (dh (fun d => { d with stageSlots := 0x00020001 })) 1 1 0) 2 4 1
  h
/-- A request signed for a head. -/
def sr (h : Head) : SignedReq := ⟨63, pget h .east CHP_UID_LO_UID CHP_UID_HI_UID, 7, true, 0xABC⟩
/-- A head whose Archive queue holds one descriptor. -/
def qh (d : Desc) : Head := { fset (dh id) .east ARC_QUEUE_PTR_TAIL 1 with sram := memPut [] 0 64 d.toNat }
def re1 : RecEntry := ⟨0, 0, 0, 77, 0, 0, 0, 0, true, false⟩
def ah (f : ArcState → ArcState) : Head := { dh id with arc := f (dh id).arc }
/-- A head with every page of both wings lit and the given power state. -/
def wh (f : PwrState → PwrState) : Head :=
  let h := [Block.foy, .dge, .plk, .pwr, .cpu].foldl (fun h b => on (on h (pg b .east)) (pg b .west)) (dh id)
  { h with pwr := f h.pwr }
def dg : Page := pg .dge .west
def rvh (m : Nat) (f : RsvState → RsvState) : Head := { fset (dh id) .east RSV_STATUS_MODE m with rsv := f z.rsv }

/-! ### Ill-formed commands are refused -/

theorem refuses_initiators : [Instr.registerWrite (.hart 52) 0 0, .registerWrite .hardware 0 0].all (fun c => !c.wf) = true := by decide

theorem refuses_addresses :
    [Instr.registerWrite .mgmt (2 ^ 48) 0, .partialAccess .mgmt (2 ^ 48) 1 true, .partialAccess .mgmt 0 0 true, .pairLoRead .mgmt (2 ^ 48),
      .pairHiWrite .mgmt (2 ^ 48) 0, .undecodedAccess .mgmt (2 ^ 48) true, .firewallAccess .mgmt (2 ^ 48) true,
      .coreAccessFault 0 (2 ^ 48) true, .ddrUe (2 ^ 48), .ddrCe (2 ^ 48), .hbmUe .east (2 ^ 48) .unread].all (fun c => !c.wf) = true := by
  decide

theorem refuses_pages :
    [Instr.errInfoClear .mgmt (pg .foy .east 8), .commitGo .mgmt (pg .plk .west 32), .blockReset .mgmt (pg .dge .east 1),
      .quiesceDone (pg .doc .west), .rungExitDone (.page (pg .key .west)), .rungEntryDone (.core 52)].all (fun c => !c.wf) = true := by
  decide

theorem refuses_events_and_groups :
    [Instr.routeError .east 1024, .wgStall 64, .prvRecord 1024 .east, .almAlarm 12].all (fun c => !c.wf) = true := by decide

theorem refuses_units :
    [Instr.unitFailed .mft .east 0 0, .unitDrained .dge .east 48, .unitDrained .cph .east 56, .unitFence .mgmt .foy .east,
      .engineCompletion .foq .east 0 0, .engineCompletion .dge .east (2 ^ 32) 0, .unitIdleGate .cdc .east 48,
      .hbmUe .east 0 (.engine .dma 0), .hbmUe .east 0 (.slot (2 ^ 32) 0 0), .hbmUe .east 0 (.core 52)].all (fun c => !c.wf) = true := by
  decide

theorem refuses_sources : [Instr.dgeHash .east (.ring 1024), .mftDescWrite .east (.ring 1024)].all (fun c => !c.wf) = true := by decide

theorem refuses_ports :
    [Instr.foyLinkChange .east 8 0 true, .foyLinkChange .east 0 4 true, .fecDegraded .east 0 4, .pauseFrame .east 0 8 true,
      .ceMarkedPacket .east 0 32768, .ptpEventMessage .east 0 (2 ^ 64), .connectionRequest .east 8 1 1024, .connectionRequest .east 0 4 1024,
      .connectionRequest .east 0 1 (2 ^ 16), .authComplete .east 32768 true .inBand, .signalDetect .east 8].all (fun c => !c.wf) = true := by
  decide

theorem refuses_capsules :
    [Instr.commandCapsule { cap0 with port := 8 }, .commandCapsule { cap0 with ctx := 32768 }, .commandCapsule { cap0 with queue := 2 ^ 16 },
      .commandCapsule { cap0 with cid := 2 ^ 16 }, .commandCapsule { cap0 with nsid := 2 ^ 32 }, .commandCapsule { cap0 with count := 0 },
      .commandCapsule { cap0 with inCapsule := 2 ^ 32 }, .commandAdmit .east 0 (2 ^ 16) 0 [] [], .commandAdmit .east 0 0 (2 ^ 16) [] [],
      .commandAdmit .east 0 0 0 (List.replicate 513 0) [], .commandAdmit .east 0 0 0 [0] [⟨0, 2 ^ 16, 0⟩], .fusedRecordAck 0 (2 ^ 32) 0 0,
      .fusedHoldExpiry 0 0 0 (2 ^ 16), .hostCompletion .east (.tag (2 ^ 32) .done),
      .hostCompletion .east (.software 0 0 0 8 0 false)].all (fun c => !c.wf) = true := by decide +kernel

theorem refuses_packets :
    [Instr.mftWritePacket .east { mp with version := 16 }, .mftWritePacket .east { mp with opcode := 16 },
      .mftWritePacket .east { mp with paylen := 2 ^ 13 }, .mftWritePacket .east { mp with srcNode := 2 ^ 14 },
      .mftWritePacket .east { mp with dstNode := 2 ^ 14 }, .mftWritePacket .east { mp with dstConn := 2 ^ 24 },
      .mftWritePacket .east { mp with psn := 2 ^ 32 }, .mftAck .east mp (2 ^ 64), .rtoExpiry .east 32768 0,
      .rtoExpiry .east 0 (2 ^ 32)].all (fun c => !c.wf) = true := by decide +kernel

theorem refuses_annex_messages :
    [Instr.granulePlace .east (2 ^ 32) 0, .granulePlace .east 0 512, .anxMirror .east (2 ^ 32) 0 [me] [], .anxMirror .east 0 4096 [me] [],
      .anxMirror .east 0 0 [] [], .anxMirror .east 0 0 [me, me, me, me, me] [], .anxMirror .east 0 0 [{ me with nsid := 2 ^ 32 }] [],
      .anxMirror .east 0 0 [{ me with label := { lab with glen := 64 } }] [],
      .anxMirror .east 0 0 [] [⟨0, 2 ^ 32, 0, 0, .east, 0, 0, 0, 0, false⟩], .catUpdate .east 0 0 [{ ce1 with nsid := 2 ^ 32 }],
      .anxFlit .east true 0 4 0 0 0 [] none, .anxFlit .east true 0 0 1024 0 0 [] none, .anxFlit .east true 0 0 0 0 1024 [] none,
      .anxFlit .east true 3 0 0 0 0 [0, 0, 0, 0, 0] none, .slotEcc .east (2 ^ 32) 0 0].all
      (fun c => !c.wf) = true := by decide +kernel

theorem refuses_ways_and_harts :
    [Instr.wayCleanDone .east 16 0, .wayEccFence .east 16 0, .lineEcc .east 49152 0, .lineEcc .east 0 16, .hnyPost 52 .m 0 none, .coreReady .east 26, .cqHeadWrite .mgmt .east (2 ^ 32),
      .migrateStart .mgmt .east 4096, .channelFence .mgmt .east 8, .pchMoveDone .east 96, .msrArm .mgmt (2 ^ 32)].all
      (fun c => !c.wf) = true := by decide

theorem refuses_plinth_records :
    [Instr.plinthPresent 64, .plkTrained 0 2 0 2 0, .plkCompletion 0 { pd1 with gen := 256 } 0, .plkCompletion 0 { pd1 with slot := 128 } 0,
      .plkFlit 0 true 0 4 0 0 0 0 [], .plkFlit 0 true 0 0 0 (2 ^ 16) 0 0 [], .plkRead 0 2 (dc 1), .plkRead 0 0 { dc 1 with opcode := 256 },
      .plkRead 0 0 { dc 1 with gen := 256 }, .plkRead 0 0 { dc 1 with slot := 128 }, .plkRead 0 0 { dc 1 with start := 32 },
      .plkRead 0 0 { dc 1 with channel := 16 }, .plkRead 0 0 { dc 1 with die := 8 }, .witnessRead 0 0 (mcm 9 16),
      .bridgeSlotBoundary 0 [⟨2, 0, false, 0, 0, 0, 0⟩], .bridgeSlotBoundary 0 [⟨0, 128, false, 0, 0, 0, 0⟩]].all
      (fun c => !c.wf) = true := by decide

theorem refuses_replication_messages :
    [Instr.syncWrite 4096 0 0 [(0, 0, 0)], .syncWrite 0 (2 ^ 32) 0 [(0, 0, 0)], .syncWrite 0 0 (2 ^ 64) [(0, 0, 0)], .syncWrite 0 0 0 [],
      .syncWrite 0 0 0 (List.replicate 9 (0, 0, 0)), .rplBegin 0 0 (2 ^ 32) 0, .rplBegin 0 0 0 (2 ^ 32),
      .rplOffer 0 0 0 0 (List.replicate 65 (0, 0)), .rplUnmap 0 0 0 (List.replicate 256 (0, 0, 0)), .hostReadDispatch 0 4096 0 0].all
      (fun c => !c.wf) = true := by decide +kernel

theorem refuses_requests_and_samples :
    [Instr.reqUnbind { sr z with entry := 64 } 0, .armMeasure 64 0, .armMeasure 0 (2 ^ 32), .importKey { sr z with entry := 0 } 0 1 0 false 4096 0,
      .wdgWarn 3, .pwrDroop .east 64, .pwrSag .east 3, .tempSample .east 0 0 32, .rsvSample (some 4096) none none none 0,
      .rsvSample none (some 4096) none none 0, .rsvSample none none (some 4096) none 0, .rsvSample none none none (some 4096) 0,
      .rsvSample none none none none (2 ^ 64)].all (fun c => !c.wf) = true := by decide +kernel

/-! ### The spec's worked examples -/

/-- spec/03: the header register CTRL of FOY[3].W lies at 0x00F0_0120_3008. -/
theorem test_page_address : decodeAddr 0x00F001203008 = .page .array (pg .foy .west 3) 0x008 := by decide +kernel

/-- spec/09: in a hall of width 24, row 5 places data panel 13 on member 18, P (22) on member 3 and Q (23) on member 4. -/
theorem test_panel_members :
    [13, 22, 23].map (panelMember { hall1 with n := 22, members := List.range 24 } 5) = [18, 3, 4] := by decide

/-- spec/09: under 0x11D, g^10 = 0x74, g^21 = 0x75, g^(-11) = 0xFA and g^(-24) = 0xF5. -/
theorem test_powers_of_g : gpow 2 10 = 0x74 ∧ gpow 2 21 = 0x75 ∧ gpow (ginv 2) 11 = 0xFA ∧ gpow (ginv 2) 24 = 0xF5 := by decide +kernel

/-- spec/17: with vk = 3,000 and VBUS_SET = 2,850, RECIP[46] = 5,699 and RECIP[47] = 5,578 give a feed-forward duty of 15,566. -/
theorem test_feed_forward :
    feedForward (fset (fset z .east RSV_FF_DATA_RECIP 5699 46) .east RSV_FF_DATA_RECIP 5578 47) 2850 3000 = 15566 := by decide +kernel

/-- R402: an armed register is taken once; R460's and R60's bounds: a second error only counts. -/
theorem test_second_error_only_counts :
    let h := capture (capture z dg ⟨1, 7, true, 0x1234⟩) dg ⟨2, 8, false, 0x5678⟩
    hget h dg ERR_INFO_CODE = 1 ∧ hget h dg ERR_INFO_COUNT = 2 := by decide +kernel

/-- The empty queue idles (assumption 1). -/
theorem test_empty_queue : step State.reset = .next State.reset := rfl

/-- A step takes the front command and leaves the rest: one SLOT_BOUNDARY moves the slot from 0 to 1 (R21). -/
theorem test_slot_boundary :
    (match step ⟨z, [.slotBoundary, .powerOn]⟩ with
      | .next t => fget t.dev .west FRM_SLOT_SLOT == 1 && t.pending == [.powerOn]
      | _ => false) = true := by decide +kernel

/-! ### The hypotheses of the statements that are not about one command's effect -/

theorem met_StepRunsFrontCommand : ∃ c : Instr, ∃ rest : List Instr, ∃ s : State, s.pending = c :: rest :=
  ⟨.slotBoundary, [], ⟨z, [.slotBoundary]⟩, rfl⟩

theorem met_EmptyQueueIdles : ∃ s : State, s.pending = [] := ⟨State.reset, rfl⟩

theorem met_HeldChipIgnoresCommands :
    ∃ l : List Instr, ∃ h : Head, ¬ Runs h ∧ (∀ c ∈ l, reachesHeldChip c = false) ∧ l ≠ [] :=
  ⟨[.slotBoundary, .hourTick], { z with pwr := { z.pwr with hold := .reset } }, by decide +kernel, by decide +kernel, by decide⟩

theorem met_DumpReadyKeptByEveryStep : ∃ s t : State, DumpReadyTrue s ∧ step s = .next t :=
  ⟨State.reset, State.reset, fun _ => ⟨fun h => absurd h (by decide +kernel), fun h => absurd h.1 (by decide +kernel)⟩, rfl⟩

theorem met_ResetLeavesStatedValues : ∃ p : Page, pageOk p = true := ⟨pg .plk .west 31, by decide⟩

theorem met_DocentPagesOnlyAtWingZero :
    (∃ a : Nat, ∃ off : Nat, ∃ win : Window, ∃ p : Page, decodeAddr a = .page win p off ∧ isDocent p.block = true) ∧
    (∃ a : Nat, 0x00F401000000 ≤ a ∧ a < 0x00F402000000) :=
  ⟨⟨pageAddr (pg .doc .east) + 0xFFC, 0xFFC, .docent, pg .doc .east, by decide +kernel, by decide⟩, ⟨0x00F401FFFFFF, by decide, by decide⟩⟩

theorem met_PageAddressesDecode :
    (∃ p : Page, ∃ off : Nat, pageOk p = true ∧ off < 4096) ∧
    (∃ p q : Page, ∃ m n : Nat, pageOk p = true ∧ pageOk q = true ∧ m < 4096 ∧ n < 4096 ∧ pageAddr p + m = pageAddr q + n) :=
  ⟨⟨pg .plk .west 31, 4095, by decide, by decide⟩, ⟨pg .foy .west 7, pg .foy .west 7, 4095, 4095, by decide, by decide, by decide, by decide, rfl⟩⟩

theorem met_FieldsFollowTheirClass : ∃ b : Block, ∃ r : RegDef, r ∈ regsHdr ++ blockRegs b ∧ r.fields ≠ [] :=
  ⟨.foy, ⟨0x004, [⟨31, 24, .ro, 0, .any⟩, ⟨23, 0, .ro, 0, .any⟩], .own, none, .single⟩, by decide +kernel, by decide +kernel⟩

theorem met_FirstErrorIsKept :
    (∃ h : Head, ∃ p : Page, ∃ e : ErrRec, e.code < 16 ∧ e.src < 256 ∧ hget h p ERR_INFO_VALID = 0) ∧
    (∃ h : Head, ∃ p : Page, ∃ e : ErrRec, e.code < 16 ∧ e.src < 256 ∧ hget h p ERR_INFO_VALID = 1) :=
  ⟨⟨z, dg, ⟨15, 255, true, 0⟩, by decide +kernel, by decide +kernel, by decide +kernel⟩,
   ⟨hset z dg ERR_INFO_VALID 1, dg, ⟨15, 255, true, 0⟩, by decide +kernel, by decide +kernel, by decide +kernel⟩⟩

/-- The last clause of EventsRiseAndAreDelivered: an event that rises enabled, one masked, one that stands already. -/
theorem met_EventsRise :
    (∃ h : Head, ∃ p : Page, ∃ n : Nat, n < 32 ∧ (hget h p EVT_STATUS_EVENTS).testBit n = false ∧ (hget h p EVT_ENABLE_EVENTS).testBit n = true) ∧
    (∃ h : Head, ∃ p : Page, ∃ n : Nat, n < 32 ∧ (hget h p EVT_ENABLE_EVENTS).testBit n = false) ∧
    (∃ h : Head, ∃ p : Page, ∃ n : Nat, n < 32 ∧ (hget h p EVT_STATUS_EVENTS).testBit n = true) :=
  ⟨⟨hset z dg EVT_ENABLE_EVENTS (2 ^ 31), dg, 31, by decide, by decide +kernel, by decide +kernel⟩, ⟨z, dg, 31, by decide, by decide +kernel⟩,
   ⟨hset z dg EVT_STATUS_EVENTS (2 ^ 31), dg, 31, by decide, by decide +kernel⟩⟩


theorem met_LateTick : ∃ g : Head, ∃ w : Wing, (if w = .east then g.frm.lateE else g.frm.lateW) = true :=
  ⟨{ z with frm := { z.frm with lateW := true } }, .west, by decide +kernel⟩

theorem met_AnxSent :
    ∃ g h : Head, ∃ port : Wing, ∃ mtag coll : Nat, ∃ b : AnxBody, AnxSent g h port mtag coll b ∧ anxSends g port = true ∧
      (anxLink g port).queue = [] ∧ anxFlits b ≤ (anxLink g port).credits.getD (anxVc b) 0 ∧
      (anxLink g port).replay.length + anxFlits b ≤ 512 :=
  ⟨pr 3, anxPut (pr 3) .west 3 0 (.mirror [me] []), .west, 3, 0, .mirror [me] [],
    ⟨by decide +kernel, fun _ => by decide +kernel, fun h => absurd h (by decide +kernel)⟩, by and_intros <;> decide +kernel⟩

theorem met_UnitsEndTests :
    ∃ h : Head, ∃ cls : Block, ∃ w : Wing, ∃ u : Nat, isUnitClass cls = true ∧ u < totalUnits cls ∧ (cls, w, u) ∈ h.eng.testing ∧
      fget h w (unitState cls) u = 2 :=
  ⟨fset (ee (fun e => { e with testing := [(.cph, .west, 55)] })) .west CPH_UNIT_STATE_STATE 2 55, .cph, .west, 55,
    by and_intros <;> decide +kernel⟩

/-! ### Each clause's hypotheses are met -/

theorem met_RegisterAccessesReachOrAreRecorded :
    (∃ s : State, ∃ ini : Initiator, ∃ p : Page, ∃ v : Word, Runs s.dev ∧ Writable s.dev ini p 0x038) ∧
    (∃ s : State, ∃ ini : Initiator, ∃ p : Page, ∃ off : Nat, ∃ r : RegDef, ∃ v : Word, Runs s.dev ∧ Writable s.dev ini p off ∧
      0x40 ≤ off ∧ regDef? p.block off = some r ∧ r.half = .hi ∧ ignoredWhole s.dev p off (bankOf s.dev p r) v = false) ∧
    (∃ s : State, ∃ ini : Initiator, ∃ p : Page, ∃ off : Nat, ∃ r : RegDef, Runs s.dev ∧ pageOk p = true ∧ off < 4096 ∧ off % 4 = 0 ∧
      ((isDocent p.block = true → ini = .docent)) ∧ regDef? p.block off = some r ∧ r.half = .lo) ∧
    (∃ s : State, ∃ ini : Initiator, ∃ p : Page, ∃ off : Nat, ∃ size : Nat, ∃ write : Bool, Runs s.dev ∧ pageOk p = true ∧ off < 4096 ∧
      ((isDocent p.block = true → ini = .docent)) ∧ sourceCode ini < 256 ∧ (size ≠ 4 ∨ off % 4 ≠ 0)) ∧
    (∃ s : State, ∃ ini : Initiator, ∃ addr : Nat, ∃ w : Wing, ∃ write : Bool, Runs s.dev ∧ decodeAddr addr = .hole .array w) ∧
    (∃ s : State, ∃ ini : Initiator, ∃ p : Page, ∃ off : Nat, ∃ write : Bool, Runs s.dev ∧ pageOk p = true ∧ off < 4096 ∧
      isDocent p.block = true ∧ ini ≠ .docent) :=
  ⟨⟨st z, .docent, pg .chp .east, 5, by decide +kernel, wr_ok (by decide +kernel)⟩,
   ⟨st z, .docent, pg .upd .east, 0x48, (regDef? .upd 0x048).get (by decide +kernel), 5, by decide +kernel, wr_ok (by decide +kernel),
     by and_intros <;> decide +kernel⟩,
   ⟨st z, .docent, pg .frm .east, 0x050, (regDef? .frm 0x050).get (by decide +kernel), by and_intros <;> decide +kernel⟩,
   ⟨st z, .docent, pg .frm .east, 0x050, 8, true, by and_intros <;> decide +kernel⟩,
   ⟨st z, .docent, 0x00F000FFF000, .east, true, by and_intros <;> decide +kernel⟩,
   ⟨st z, .hart 3, pg .key .east, 0x040, true, by and_intros <;> decide +kernel⟩⟩

theorem met_HeaderQuiesceAndFences_1 :
    (∃ s : State, ∃ ini : Initiator, ∃ p : Page, Runs s.dev ∧ Writable s.dev ini p 0x020) ∧
    (∃ s : State, ∃ ini : Initiator, ∃ p : Page, Runs s.dev ∧ Writable s.dev ini p 0x03C) ∧
    (∃ s : State, ∃ ini : Initiator, ∃ p : Page, Runs s.dev ∧ Writable s.dev ini p 0x008 ∧ hget s.dev p STATUS_QUIESCED = 1) ∧
    (∃ s : State, ∃ ini : Initiator, ∃ p : Page, Runs s.dev ∧ Writable s.dev ini p 0x008 ∧ hget s.dev p STATUS_QUIESCED = 0 ∧
      hget s.dev p ERR_INFO_VALID = 0 ∧ sourceCode ini < 256) ∧
    (∃ s : State, ∃ ini : Initiator, ∃ p : Page, ∃ enable : Bool, Runs s.dev ∧ Writable s.dev ini p 0x008 ∧ blockIdle s.dev p = true ∧
      ((p.block = .gal → s.dev.gal.opens = [])) ∧ ((p.block = .cdc → s.dev.eng.cases = []))) ∧
    (∃ s : State, ∃ p : Page, Runs s.dev ∧ pageOk p = true ∧ running s.dev p = false ∧ blockIdle s.dev p = true) :=
  ⟨⟨st (capture z (pg .foq .west) ⟨4, 7, true, 0x1234⟩), .docent, pg .foq .west, by decide +kernel, wr_ok (by decide +kernel)⟩,
   ⟨st z, .docent, pg .frm .east, by decide +kernel, wr_ok (by decide +kernel)⟩,
   ⟨st (fset z .east FOQ_FETCH_PAUSED 1), .docent, pg .foq .east, by decide +kernel, wr_ok (by decide +kernel), by decide +kernel⟩,
   ⟨st (on z (pg .foq .east)), .docent, pg .foq .east, by decide +kernel, wr_ok (by decide +kernel), by and_intros <;> decide +kernel⟩,
   ⟨st (on z (pg .dge .west)), .docent, pg .dge .west, true, by decide +kernel, wr_ok (by decide +kernel),
     by and_intros <;> decide +kernel⟩,
   ⟨st z, pg .dge .west, by and_intros <;> decide +kernel⟩⟩

theorem met_HeaderQuiesceAndFences_2 :
    (∃ s : State, ∃ ini : Initiator, ∃ p : Page, Runs s.dev ∧ Writable s.dev ini p 0x008 ∧ hget s.dev p STATUS_FENCED = 0 ∧
      hget s.dev p RUNG_CURRENT = 0 ∧ s.dev.pwr.exits.contains (pageNum p) = false ∧ tabGet? s.dev.pwr.entries (pageNum p) = none) ∧
    (∃ s : State, ∃ ini : Initiator, ∃ p : Page, Runs s.dev ∧ Writable s.dev ini p 0x008 ∧ (p.block = .foy ∨ p.block = .plk) ∧
      hget s.dev p CTRL_FENCE = 0 ∧ hget s.dev p STATUS_QUIESCED = 1 ∧ hget s.dev p RUNG_CURRENT = 0) ∧
    (∃ s : State, ∃ ini : Initiator, ∃ p : Page, Runs s.dev ∧ Writable s.dev ini p 0x008 ∧ (p.block = .foy ∨ p.block = .plk) ∧
      hget s.dev p CTRL_FENCE = 0 ∧ hget s.dev p STATUS_QUIESCED = 0 ∧ hget s.dev p ERR_INFO_VALID = 0 ∧ sourceCode ini < 256) ∧
    (∃ s : State, ∃ ini : Initiator, ∃ p : Page, Runs s.dev ∧ Writable s.dev ini p 0x008 ∧ (p.block = .foy ∨ p.block = .plk) ∧
      hget s.dev p CTRL_FENCE = 1 ∧ hget s.dev p RUNG_CURRENT = 4 ∧ s.dev.pwr.exits.contains (pageNum p) = false ∧
      tabGet? s.dev.pwr.entries (pageNum p) = none) ∧
    (∃ s : State, ∃ p : Page, ∃ tags : List Nat, Runs s.dev ∧ pageOk p = true ∧ hget s.dev p ERR_INFO_VALID = 0) :=
  ⟨⟨st (lit z (pg .dge .west)), .docent, pg .dge .west, by decide +kernel, wr_ok (by decide +kernel), by and_intros <;> decide +kernel⟩,
   ⟨st (hset (lit z (pg .plk .east 3)) (pg .plk .east 3) STATUS_QUIESCED 1), .docent, pg .plk .east 3, by decide +kernel,
     wr_ok (by decide +kernel), by and_intros <;> decide +kernel⟩,
   ⟨st (on z (pg .plk .east 3)), .docent, pg .plk .east 3, by decide +kernel, wr_ok (by decide +kernel), by and_intros <;> decide +kernel⟩,
   ⟨st (hset (hset (hset z (pg .foy .west 2) CTRL_FENCE 1) (pg .foy .west 2) STATUS_FENCED 1) (pg .foy .west 2) RUNG_CURRENT 4), .docent,
     pg .foy .west 2, by decide +kernel, wr_ok (by decide +kernel), by and_intros <;> decide +kernel⟩,
   ⟨st z, pg .cdc .east, [], by and_intros <;> decide +kernel⟩⟩

theorem met_EventsRiseAndAreDelivered :
    (∃ s : State, ∃ ini : Initiator, ∃ p : Page, ∃ mask : Word, ∃ again : Word, Runs s.dev ∧ Writable s.dev ini p 0x010) ∧
    (∃ s : State, ∃ ini : Initiator, ∃ p : Page, ∃ v : Word, Runs s.dev ∧ Writable s.dev ini p 0x014) ∧
    (∃ s : State, ∃ ini : Initiator, ∃ p : Page, ∃ mask : Word, Runs s.dev ∧ Writable s.dev ini p 0x018) ∧
    (∃ s : State, ∃ ini : Initiator, ∃ w : Wing, ∃ v : Word, Runs s.dev ∧ Writable s.dev ini (pg .evt w) 0x04C) :=
  ⟨⟨st (raise z .east Ev.FRM_CONFIG), .docent, pg .frm .east, 0xFFFFFFFF, 2, by decide +kernel, wr_ok (by decide +kernel)⟩,
   ⟨st (raise z .east Ev.FRM_CONFIG), .docent, pg .frm .east, 0xFFFFFFFF, by decide +kernel, wr_ok (by decide +kernel)⟩,
   ⟨st (hset z (pg .frm .east) EVT_ENABLE_EVENTS 7), .docent, pg .frm .east, 3, by decide +kernel, wr_ok (by decide +kernel)⟩,
   ⟨st (fset z .west EVT_SW_ENABLE_EVENTS 0xFFFFFFFF), .docent, .west, 31, by decide +kernel, wr_ok (by decide +kernel)⟩⟩

theorem met_RoutesGroupsAndResponders_1 :
    (∃ s : State, ∃ ini : Initiator, ∃ w : Wing, ∃ v : Word, Runs s.dev ∧ Writable s.dev ini (pg .evt w) 0x048 ∧
      routeLocked (fget s.dev w EVT_ROUTE_INDEX_INDEX) = false ∧ bitsOf v 29 28 = 1 ∧ bitsOf v 27 24 ≤ 6 ∧ bitsOf v 10 0 ≠ 0) ∧
    (∃ s : State, ∃ ini : Initiator, ∃ w : Wing, ∃ v : Word, Runs s.dev ∧ Writable s.dev ini (pg .evt w) 0x048 ∧ ini ≠ .docent ∧
      routeLocked (fget s.dev w EVT_ROUTE_INDEX_INDEX) = true) ∧
    (∃ s : State, ∃ w : Wing, ∃ ev : Nat, Runs s.dev ∧ ev < 1024) ∧
    (∃ s : State, ∃ g : Nat, Runs s.dev ∧ g < 64 ∧ groupMembers s.dev g ≠ [] ∧ (groupMembers s.dev g).all (memberWaits s.dev) = true ∧
      groupQuiet s.dev g = true ∧ fbit s.dev .east EVT_WG_STATE_STALLED g = false ∧ fbit s.dev .east EVT_WG_RESCUE_VALID g = false) ∧
    (∃ s : State, ∃ w : Wing, ∃ v : Word, Runs s.dev ∧ Writable s.dev .docent (pg .evt w) 0x070) ∧
    (∃ s : State, ∃ ini : Initiator, ∃ w : Wing, ∃ lo : Word, ∃ hi : Word, Runs s.dev ∧ Writable s.dev ini (pg .evt w) 0x05C ∧
      ((∀ n, n < 52 → (lo.toNat + (hi.toNat % 2 ^ 20) <<< 32).testBit n = true → (∀ k ∈ liveGroups s.dev, k ≠ fget s.dev w EVT_WG_INDEX_GROUP → inGroup s.dev k n = false) ∧ ¬ (fbit s.dev .east EVT_WG_RESCUE_VALID (fget s.dev w EVT_WG_INDEX_GROUP) = true ∧ fget s.dev .east EVT_WG_RESCUE_HART (fget s.dev w EVT_WG_INDEX_GROUP) = n)))) :=
  ⟨⟨st (fset z .east EVT_ROUTE_INDEX_INDEX 5), .docent, .east, 0x10000001, by decide +kernel, wr_ok (by decide +kernel),
     by and_intros <;> decide +kernel⟩,
   ⟨st (fset z .east EVT_ROUTE_INDEX_INDEX 50), .hart 0, .east, 0x10000001, by decide +kernel, wr_ok (by decide +kernel),
     by and_intros <;> decide +kernel⟩,
   ⟨st (fset z .east EVT_ROUTE_DATA_KIND 1 1023), .east, 1023, by and_intros <;> decide +kernel⟩,
   ⟨st { fset (fset z .east EVT_WG_MEMBERS_LO_HARTS 1 63) .east EVT_WG_TIMEOUT_MICROS 0 63 with core := { z.core with waits := [(0, 5)] } },
     63, by and_intros <;> decide +kernel⟩,
   ⟨st z, .west, 63, by decide +kernel, wr_ok (by decide +kernel)⟩,
   ⟨st z, .docent, .west, 3, 0, by decide +kernel, wr_ok (by decide +kernel), by decide +kernel⟩⟩

theorem met_RoutesGroupsAndResponders_2 :
    (∃ s : State, ∃ w : Wing, Runs s.dev) ∧
    (∃ s : State, ∃ w : Wing, Runs s.dev) ∧
    (∃ s : State, ∃ w : Wing, Runs s.dev ∧ shrinking s.dev = false) ∧
    (∃ s : State, Runs s.dev) :=
  ⟨⟨st z, .east, by decide +kernel⟩,
   ⟨st z, .west, by decide +kernel⟩,
   ⟨st z, .west, by and_intros <;> decide +kernel⟩,
   ⟨st (fillSlot z 3 7), by decide +kernel⟩⟩

theorem met_FrameAndSlotAdvance :
    (∃ s : State, ∃ lateE : Option Nat, ∃ lateW : Option Nat, Runs s.dev) ∧
    (∃ s : State, Runs s.dev ∧ fget s.dev .east FRM_SLOT_SLOT < 31) ∧
    (∃ s : State, Runs s.dev ∧ fget s.dev .east FRM_SLOT_SLOT = 31) ∧
    (∃ s : State, ∃ w : Wing, Runs s.dev ∧ (if w = .east then s.dev.frm.builtE else s.dev.frm.builtW) = false) ∧
    (∃ s : State, ∃ w : Wing, Runs s.dev ∧ (if w = .east then s.dev.frm.builtE else s.dev.frm.builtW) = true) :=
  ⟨⟨st (fset (fset z .east FRM_FRAME_LO_FRAME 0xFFFFFFFF) .west FRM_FRAME_LO_FRAME 0xFFFFFFFF), none, some 2, by decide +kernel⟩,
   ⟨st (fset (fset z .east FRM_SLOT_SLOT 30) .west FRM_SLOT_SLOT 30), by and_intros <;> decide +kernel⟩,
   ⟨st (fset (fset z .east FRM_SLOT_SLOT 31) .west FRM_SLOT_SLOT 31), by and_intros <;> decide +kernel⟩,
   ⟨st z, .west, by and_intros <;> decide +kernel⟩,
   ⟨st { z with frm := { z.frm with builtW := true } }, .west, by and_intros <;> decide +kernel⟩⟩

theorem met_LengthChanges :
    (∃ s : State, ∃ ini : Initiator, Runs s.dev ∧ Writable s.dev ini (pg .frm .east) 0x044 ∧ fget s.dev .east FRM_LENGTH_SET_CHANGE = 0 ∧
      s.dev.frm.countdown = 0 ∧ fget s.dev .east FRM_CTRL_ROLE ≠ 2) ∧
    (∃ s : State, ∃ ini : Initiator, Runs s.dev ∧ Writable s.dev ini (pg .frm .east) 0x044 ∧ sourceCode ini < 256 ∧
      fget s.dev .east FRM_CTRL_ROLE = 2) ∧
    (∃ s : State, ∃ ini : Initiator, Runs s.dev ∧ Writable s.dev ini (pg .frm .east) 0x044 ∧ fget s.dev .east FRM_CTRL_ROLE ≠ 2 ∧
      (fget s.dev .east FRM_LENGTH_SET_CHANGE = 1 ∨ 0 < s.dev.frm.countdown)) ∧
    (∃ s : State, Runs s.dev ∧ s.dev.frm.lengthDue = true ∧ s.dev.frm.announced < 3) :=
  ⟨⟨st (fset z .east FRM_LENGTH_SET_NEXT_LENGTH 2), .docent, by decide +kernel, wr_ok (by decide +kernel),
     by and_intros <;> decide +kernel⟩,
   ⟨st (fset z .east FRM_CTRL_ROLE 2), .docent, by decide +kernel, wr_ok (by decide +kernel), by and_intros <;> decide +kernel⟩,
   ⟨st (fset z .east FRM_LENGTH_SET_CHANGE 1), .docent, by decide +kernel, wr_ok (by decide +kernel), by and_intros <;> decide +kernel⟩,
   ⟨st { fset z .east FRM_LENGTH_SET_CHANGE 1 with frm := { z.frm with lengthDue := true, announced := 2 } },
     by and_intros <;> decide +kernel⟩⟩

theorem met_FollowerTracksMarkers_1 :
    (∃ s : State, ∃ port : Wing, ∃ payload : Word, ∃ arrival : Nat, ∃ next : Bool, ∃ phase : Int, Runs s.dev ∧ isFollower s.dev = true ∧
      usesPort s.dev port = true ∧ lockState s.dev = 1 ∧ bitsOf payload 13 10 = 0 ∧ markerPlace s.dev port arrival = (next, phase) ∧
      countDiff s.dev payload next = 0 ∧ 2 * phase.natAbs ≤ slotNs s.dev) ∧
    (∃ s : State, ∃ port : Wing, ∃ payload : Word, ∃ flagged : Bool, ∃ arrival : Nat, ∃ next : Bool, ∃ phase : Int, Runs s.dev ∧
      isFollower s.dev = true ∧ usesPort s.dev port = true ∧ lockState s.dev = 1 ∧ bitsOf payload 13 10 = 0 ∧
      markerPlace s.dev port arrival = (next, phase) ∧ (countDiff s.dev payload next).natAbs = 1 ∧
      (flagged = true ∨ 2 * phase.natAbs ≤ slotNs s.dev) ∧
      wireCount s.dev = (frameCount s.dev + fget s.dev .east FRM_WIRE_WIRE_OFFSET) % 2 ^ 16) ∧
    (∃ s : State, ∃ port : Wing, ∃ payload : Word, ∃ flagged : Bool, ∃ arrival : Nat, ∃ next : Bool, ∃ phase : Int, Runs s.dev ∧
      isFollower s.dev = true ∧ usesPort s.dev port = true ∧ lockState s.dev = 1 ∧ bitsOf payload 13 10 = 0 ∧
      markerPlace s.dev port arrival = (next, phase) ∧
      (2 ≤ (countDiff s.dev payload next).natAbs ∨ (flagged = false ∧ slotNs s.dev < 2 * phase.natAbs))) ∧
    (∃ s : State, ∃ port : Wing, ∃ payload : Word, ∃ flagged : Bool, ∃ arrival : Nat, Runs s.dev ∧
      (isFollower s.dev = false ∨ usesPort s.dev port = false)) ∧
    (∃ s : State, Runs s.dev ∧ isFollower s.dev = true ∧ fget s.dev .east FRM_LOCK_MISSED < 7) ∧
    (∃ s : State, Runs s.dev ∧ isFollower s.dev = true ∧ fget s.dev .east FRM_LOCK_MISSED = 7 ∧ lockState s.dev = 1) :=
  ⟨⟨st fl, .east, 0, 3, false, 3, by and_intros <;> decide +kernel⟩,
   ⟨st fl, .east, 0x00020000, true, 7997, true, -3,
     by refine ⟨?_, ?_, ?_, ?_, ?_, ?_, ?_, by first | decide +kernel | rfl, ?_⟩ <;> decide +kernel⟩,
   ⟨st fl, .east, 0x00020000, false, 3, false, 3, by and_intros <;> decide +kernel⟩,
   ⟨st z, .east, 0, false, 3, by and_intros <;> decide +kernel⟩,
   ⟨st (fset (fset (fset z .east FRM_CTRL_ROLE 2) .east FRM_LOCK_STATE 1) .east FRM_LOCK_MISSED 6), by and_intros <;> decide +kernel⟩,
   ⟨st (fset (fset (fset z .east FRM_CTRL_ROLE 2) .east FRM_LOCK_STATE 1) .east FRM_LOCK_MISSED 7), by and_intros <;> decide +kernel⟩⟩

theorem met_FollowerTracksMarkers_2 :
    (∃ s : State, ∃ ini : Initiator, ∃ v : Word, Runs s.dev ∧ Writable s.dev ini (pg .frm .east) 0x070) ∧
    (∃ s : State, ∃ ini : Initiator, ∃ w : Wing, Runs s.dev ∧ Writable s.dev ini (pg .frm w) 0x040) :=
  ⟨⟨st z, .docent, 0xFFFFFFF0, by decide +kernel, wr_ok (by decide +kernel)⟩,
   ⟨st (fset z .west FRM_CTRL_ROLE 1), .docent, .west, by decide +kernel, wr_ok (by decide +kernel)⟩⟩

theorem met_FoyerPortsFollowTheirLinks_1 :
    (∃ s : State, ∃ w : Wing, ∃ port : Nat, ∃ link : Nat, Runs s.dev ∧ link < linkCount s.dev w port ∧
      hget s.dev (pg .foy w port) RUNG_CURRENT ≠ 4 ∧ (fget s.dev w FOY_PORT_MODE_LINK_EN 0 port).testBit link = true) ∧
    (∃ s : State, ∃ w : Wing, ∃ port : Nat, ∃ link : Nat, Runs s.dev ∧ link < linkCount s.dev w port ∧
      hget s.dev (pg .foy w port) RUNG_CURRENT ≠ 4) ∧
    (∃ s : State, ∃ w : Wing, ∃ port : Nat, ∃ link : Nat, Runs s.dev ∧ (fget s.dev w FOY_LINK_STATUS_UP 0 port).testBit link = true) ∧
    (∃ s : State, ∃ w : Wing, ∃ port : Nat, ∃ prio : Nat, Runs s.dev ∧ (fget s.dev w FOY_PFC_PFC_EN 0 port).testBit prio = true ∧
      s.dev.foy.storm.contains (prioKey w port prio) = false) ∧
    (∃ s : State, ∃ w : Wing, ∃ port : Nat, ∃ prio : Nat, Runs s.dev ∧ (fget s.dev w FOY_PFC_PFC_EN 0 port).testBit prio = true ∧
      s.dev.foy.storm.contains (prioKey w port prio) = false) ∧
    (∃ s : State, ∃ w : Wing, ∃ port : Nat, ∃ prio : Nat, Runs s.dev ∧ s.dev.foy.paused.contains (prioKey w port prio) = true ∧
      fget s.dev w FOY_PFC_STORM_MS 0 port ≠ 0) :=
  ⟨⟨st (fset (lit z (pg .foy .west 7)) .west FOY_PORT_MODE_LINK_EN 1 0 7), .west, 7, 0, by and_intros <;> decide +kernel⟩,
   ⟨st (fset (lit z (pg .foy .west 7)) .west FOY_LINK_STATUS_UP 1 0 7), .west, 7, 0, by and_intros <;> decide +kernel⟩,
   ⟨st (fset (lit z (pg .foy .west 7)) .west FOY_LINK_STATUS_UP 1 0 7), .west, 7, 0, by and_intros <;> decide +kernel⟩,
   ⟨st (fset z .east FOY_PFC_PFC_EN 128 0 2), .east, 2, 7, by and_intros <;> decide +kernel⟩,
   ⟨st { fset z .east FOY_PFC_PFC_EN 128 0 2 with foy := { z.foy with paused := [prioKey .east 2 7], pausedOut := [(prioKey .east 2 7, .tcpEcho .east 2 9)] } },
     .east, 2, 7, by and_intros <;> decide +kernel⟩,
   ⟨st { fset z .east FOY_PFC_STORM_MS 5 0 2 with foy := { z.foy with paused := [prioKey .east 2 7] } }, .east, 2, 7,
     by and_intros <;> decide +kernel⟩⟩

theorem met_FoyerPortsFollowTheirLinks_2 :
    (∃ s : State, ∃ w : Wing, ∃ port : Nat, ∃ prio : Nat, Runs s.dev) ∧
    (∃ s : State, ∃ w : Wing, ∃ port : Nat, ∃ ctx : Nat, Runs s.dev ∧ ctxType s.dev w ctx = 1) ∧
    (∃ s : State, ∃ w : Wing, ∃ port : Nat, ∃ ctx : Nat, Runs s.dev ∧ ctxType s.dev w ctx = 2) ∧
    (∃ s : State, ∃ w : Wing, ∃ port : Nat, ∃ ctx : Nat, ∃ c, Runs s.dev ∧ ctxType s.dev w ctx ≠ 1 ∧
      c ∈ [Instr.cnpReceived w port ctx, .rateRecover w port ctx]) ∧
    (∃ s : State, ∃ w : Wing, ∃ port : Nat, ∃ ctx : Nat, Runs s.dev ∧ ctxType s.dev w ctx = 1) ∧
    (∃ s : State, ∃ w : Wing, ∃ port : Nat, ∃ ctx : Nat, Runs s.dev ∧ ctxType s.dev w ctx = 1) :=
  ⟨⟨st { z with foy := { z.foy with storm := [prioKey .east 2 7] } }, .east, 2, 7, by decide +kernel⟩,
   ⟨st (fset z .east FOQ_CTX_BIND_TYPE 1 9), .east, 2, 9, by and_intros <;> decide +kernel⟩,
   ⟨st (fset z .east FOQ_CTX_BIND_TYPE 2 9), .east, 2, 9, by and_intros <;> decide +kernel⟩,
   ⟨st z, .east, 2, 9, Instr.cnpReceived .east 2 9, by decide +kernel, by decide +kernel, by simp⟩,
   ⟨st { fset z .east FOQ_CTX_BIND_TYPE 1 9 with foy := { z.foy with ctx := [(ctxKey .east 9, ⟨2, 4096, 1024, false, 0⟩)] } }, .east, 2,
     9, by and_intros <;> decide +kernel⟩,
   ⟨st { fset z .east FOQ_CTX_BIND_TYPE 1 9 with foy := { z.foy with ctx := [(ctxKey .east 9, ⟨2, 40, 1024, false, 0⟩)] } }, .east, 2, 9,
     by and_intros <;> decide +kernel⟩⟩

theorem met_FoyerPortsFollowTheirLinks_3 :
    ∃ s : State, ∃ w : Wing, ∃ port : Nat, ∃ time : Nat, Runs s.dev :=
  ⟨st z, .east, 2, 77, by decide +kernel⟩

theorem met_ContextsAreBoundAndFreed_1 :
    (∃ s : State, ∃ w : Wing, ∃ port : Nat, ∃ type : Nat, ∃ pmtu : Nat, Runs s.dev ∧ hget s.dev (pg .foy w port) STATUS_FENCED = 0 ∧
      connectable type pmtu = true ∧ ((∃ c, c < 32768 ∧ fget s.dev w FOQ_CTX_BIND_TYPE c = 0))) ∧
    (∃ s : State, ∃ w : Wing, ∃ port : Nat, ∃ type : Nat, ∃ pmtu : Nat, Runs s.dev ∧
      (hget s.dev (pg .foy w port) STATUS_FENCED = 1 ∨ connectable type pmtu = false)) ∧
    (∃ s : State, ∃ w : Wing, ∃ ctx : Nat, ∃ kind : AuthKind, Runs s.dev ∧ authCarried s.dev w ctx kind = true ∧ authOffered kind = true ∧
      credentialUsable s.dev (fget s.dev w FOQ_CTX_BIND_CRED_SLOT ctx) = true) ∧
    (∃ s : State, ∃ w : Wing, ∃ ctx : Nat, ∃ good : Bool, ∃ kind : AuthKind, Runs s.dev ∧ authCarried s.dev w ctx kind = true ∧
      (good = false ∨ authOffered kind = false ∨ credentialUsable s.dev (fget s.dev w FOQ_CTX_BIND_CRED_SLOT ctx) = false)) ∧
    (∃ s : State, ∃ ini : Initiator, ∃ w : Wing, ∃ v : Word, Runs s.dev ∧ Writable s.dev ini (pg .foq w) 0x05C ∧
      (bitsOf v 31 30 = 1 ∨ bitsOf v 31 30 = 2) ∧ fget s.dev w FOQ_CTX_STATE_AUTHENTICATED (fget s.dev w FOQ_CTX_INDEX_INDEX) = 0) ∧
    (∃ s : State, ∃ ini : Initiator, ∃ w : Wing, ∃ v : Word, Runs s.dev ∧ Writable s.dev ini (pg .foq w) 0x05C ∧ bitsOf v 31 30 = 0 ∧
      fget s.dev w FOQ_CTX_STATE_INFLIGHT (fget s.dev w FOQ_CTX_INDEX_INDEX) = 0 ∧
      fget s.dev w FOQ_CTX_BIND_TYPE (fget s.dev w FOQ_CTX_INDEX_INDEX) ≠ 3) :=
  ⟨⟨st z, .west, 3, 3, 0, by decide +kernel, by decide +kernel, by decide +kernel, (⟨32767, by decide +kernel, by decide +kernel⟩)⟩,
   ⟨st (hset z (pg .foy .west 3) STATUS_FENCED 1), .west, 3, 3, 0, by and_intros <;> decide +kernel⟩,
   ⟨st (fset (fset (fset (fset (fset (fset z .east KEY_SLOT_ATTR_STATE 2 4) .east KEY_SLOT_ATTR_KIND 4 4) .east KEY_SLOT_ATTR_USAGE 2 4) .east KEY_SLOT_ATTR_COLL 8 4) .west FOQ_CTX_BIND_CRED_SLOT 4 3) .west FOQ_CTX_BIND_TYPE 2 3),
     .west, 3, .tls true, by and_intros <;> decide +kernel⟩,
   ⟨st (fset z .west FOQ_CTX_BIND_TYPE 2 3), .west, 3, true, .tls false, by decide +kernel, by decide +kernel,
     by first | decide +kernel | rfl⟩,
   ⟨st (lit z (pg .foq .west)), .docent, .west, 0x80000000, by decide +kernel, wr_ok (by decide +kernel),
     by and_intros <;> decide +kernel⟩,
   ⟨st (fset (lit z (pg .foq .west)) .west FOQ_CTX_BIND_TYPE 1 0), .docent, .west, 0, by decide +kernel, wr_ok (by decide +kernel),
     by and_intros <;> decide +kernel⟩⟩

theorem met_ContextsAreBoundAndFreed_2 :
    (∃ s : State, ∃ ini : Initiator, ∃ w : Wing, ∃ v : Word, Runs s.dev ∧ Writable s.dev ini (pg .foq w) 0x068 ∧ pendingEntries s.dev < 256) ∧
    (∃ s : State, ∃ ini : Initiator, ∃ w : Wing, ∃ v : Word, Runs s.dev ∧ Writable s.dev ini (pg .foq w) 0x068 ∧
      256 ≤ pendingEntries s.dev ∧ tabHas s.dev.pend (regKey (pg .foq w) 0x068 (fget s.dev w FOQ_COLL_INDEX_INDEX)) = false) :=
  ⟨⟨st (fset (lit z (pg .foq .west)) .west FOQ_COLL_INDEX_INDEX 9), .docent, .west, 5, by decide +kernel, wr_ok (by decide +kernel),
     by decide +kernel⟩,
   ⟨st { fset (lit z (pg .foq .west)) .west FOQ_COLL_INDEX_INDEX 300 with pend := (List.range 256).map (fun i => (regKey (pg .foq .west) 0x068 i, (0, 0))) },
     .docent, .west, 5, by decide +kernel, wr_ok (by decide +kernel), by and_intros <;> decide +kernel⟩⟩

theorem met_DuplicateIdentifierIsRefused :
    ∃ s : State, ∃ c : Capsule, ∃ i, Runs s.dev ∧ CapsuleTaken s.dev c ∧ HostListens s.dev c ∧
    ((∃ y : Capsule, ((∃ x ∈ s.dev.foy.waiting, x.cap = y) ∨ (∃ k x, (k, x) ∈ s.dev.foy.cmds ∧ x.via = none ∧ x.cap = y) ∨ y ∈ s.dev.foy.passed) ∧ y.wing = c.wing ∧ y.ctx = c.ctx ∧ y.queue = c.queue ∧ y.cid = c.cid)) ∧
    i ∈ [Instr.commandCapsule c, .keepAlive c] :=
  ⟨st { fh with foy := { fh.foy with passed := [cap0] } }, cap0, Instr.keepAlive cap0, by decide +kernel,
    by constructor <;> decide +kernel, by unfold HostListens; decide +kernel,
    (⟨cap0, Or.inr (Or.inr (by decide +kernel)), by decide +kernel⟩), by simp⟩

theorem met_CapsulesAreCheckedInOrder :
    (∃ s : State, ∃ c : Capsule, ∃ n : Namespace, ∃ fwd : Bool, Runs s.dev ∧ CapsuleTaken s.dev c ∧ cidInUse s.dev c = false ∧
      fget s.dev c.wing FOQ_CTX_STATE_AUTHENTICATED c.ctx = 1 ∧ nsGet? s.dev c.nsid = some n ∧
      n.coll = fget s.dev c.wing FOQ_CTX_STATE_COLL c.ctx ∧ (c.op = .read ∨ c.op = .flush) ∧ c.count ≤ 512 ∧ c.appTag = false ∧
      c.reserved = false ∧ anaCheck s.dev n = (none, fwd)) ∧
    (∃ s : State, ∃ c : Capsule, ∃ n : Namespace, Runs s.dev ∧ CapsuleTaken s.dev c ∧ HostListens s.dev c ∧ cidInUse s.dev c = false ∧
      c.op ≠ .fabrics ∧ c.op ≠ .admin ∧ fget s.dev c.wing FOQ_CTX_STATE_AUTHENTICATED c.ctx = 1 ∧ nsGet? s.dev c.nsid = some n ∧
      n.coll ≠ fget s.dev c.wing FOQ_CTX_STATE_COLL c.ctx) ∧
    (∃ s : State, ∃ c : Capsule, Runs s.dev ∧ CapsuleTaken s.dev c ∧ cidInUse s.dev c = false ∧
      (c.op = .fabrics ∨ (c.op = .admin ∧ ctxReaches s.dev c = true))) ∧
    (∃ s : State, ∃ c : Capsule, ∃ i, Runs s.dev ∧ (fetchHeld s.dev c.wing = true ∨ notDelivered s.dev c = true) ∧
      i ∈ [Instr.commandCapsule c, .keepAlive c]) ∧
    (∃ s : State, ∃ c : Capsule, Runs s.dev ∧ CapsuleTaken s.dev c ∧ HostListens s.dev c ∧ cidInUse s.dev c = false) :=
  ⟨⟨st fh, cap0, ns1, false, by decide +kernel, by constructor <;> decide +kernel, by and_intros <;> decide +kernel⟩,
   ⟨st (fset fh .east FOQ_CTX_STATE_COLL 5 9), cap0, ns1, by decide +kernel, by constructor <;> decide +kernel,
     by unfold HostListens; decide +kernel, by and_intros <;> decide +kernel⟩,
   ⟨st fh, { cap0 with op := .admin }, by decide +kernel, by constructor <;> decide +kernel, by and_intros <;> decide +kernel⟩,
   ⟨st (fset fh .east FOQ_FETCH_PAUSED 1), cap0, Instr.commandCapsule cap0, by decide +kernel, by decide +kernel, by simp⟩,
   ⟨st fh, cap0, by decide +kernel, by constructor <;> decide +kernel, by unfold HostListens; decide +kernel, by decide +kernel⟩⟩

theorem met_AdmissionAndCompletion_1 :
    (∃ s : State, ∃ w : Wing, ∃ ctx : Nat, ∃ queue : Nat, ∃ cid : Nat, ∃ t : Nat, ∃ c : HostCmd, ∃ before : List HostCmd,
      ∃ data : List Nat, ∃ pi : List PiTuple, Runs s.dev ∧ findWaiting s.dev w ctx queue cid = some (c, before) ∧
      inOrder s.dev c before = true ∧ admissionClosed s.dev c.cap = false ∧ c.cap.op ≠ .compareWrite ∧ rangeLocked s.dev c.cap = false ∧
      c.fwd = false ∧ overQuota s.dev c = false ∧ heldBack s.dev w c = false ∧ freeTag s.dev w = some t ∧
      (takeCredit s.dev w c.coll (cmdCost c.cap)).isSome = true ∧ piFails c.cap data pi = none) ∧
    (∃ s : State, ∃ w : Wing, ∃ ctx : Nat, ∃ queue : Nat, ∃ cid : Nat, ∃ t : Nat, ∃ c : HostCmd, ∃ before : List HostCmd,
      ∃ data : List Nat, ∃ pi : List PiTuple, ∃ st : NvmeStatus, Runs s.dev ∧ findWaiting s.dev w ctx queue cid = some (c, before) ∧
      inOrder s.dev c before = true ∧ admissionClosed s.dev c.cap = false ∧ c.cap.op ≠ .compareWrite ∧ rangeLocked s.dev c.cap = false ∧
      overQuota s.dev c = false ∧ heldBack s.dev w c = false ∧ freeTag s.dev w = some t ∧
      (takeCredit s.dev w c.coll (cmdCost c.cap)).isSome = true ∧ piFails c.cap data pi = some st ∧ c.via = none ∧ HostListens s.dev c.cap) ∧
    (∃ s : State, ∃ w : Wing, Runs s.dev ∧ fget s.dev w FOQ_STALL_THRESH_FRAMES ≠ 0 ∧
      fget s.dev w FOQ_STALL_THRESH_FRAMES ≤ (if w = .east then s.dev.foy.runE else s.dev.foy.runW)) ∧
    (∃ s : State, ∃ ini : Initiator, ∃ w : Wing, ∃ again : Bool, Runs s.dev ∧ Writable s.dev ini (pg .foq w) 0x040) ∧
    (∃ s : State, ∃ host : Nat, ∃ nsid : Nat, ∃ slba : Nat, ∃ cid : Nat, ∃ c, Runs s.dev ∧
      c ∈ [Instr.fusedRecordAck host nsid slba cid, .fusedHoldExpiry host nsid slba cid]) ∧
    (∃ s : State, ∃ w : Wing, ∃ tag : Nat, ∃ c : HostCmd, ∃ n : Namespace, Runs s.dev ∧ CmdEnds s.dev w tag c ∧
      (c.cap.op = .write ∨ c.cap.op = .flush) ∧ syncBroken s.dev c.coll = false ∧ writeDone s.dev c = true ∧
      nsGet? s.dev c.cap.nsid = some n) :=
  ⟨⟨st { fh with foy := { fh.foy with waiting := [hc] } }, .east, 9, 1, 5, 0, hc, [], [], [], by and_intros <;> decide +kernel⟩,
   ⟨st { fh with foy := { fh.foy with waiting := [pc] } }, .east, 9, 1, 5, 0, pc, [], [0], [⟨1, 0, 0⟩], ⟨2, 0x82, true⟩,
     by refine ⟨?_, ?_, ?_, ?_, ?_, ?_, ?_, ?_, ?_, ?_, ?_, ?_, by unfold HostListens; decide +kernel⟩ <;> decide +kernel⟩,
   ⟨st { fset z .west FOQ_STALL_THRESH_FRAMES 5 with foy := { z.foy with runW := 5 } }, .west, by and_intros <;> decide +kernel⟩,
   ⟨st (fset (lit z (pg .foq .west)) .west FOQ_FETCH_PAUSED 1), .docent, .west, false, by decide +kernel, wr_ok (by decide +kernel)⟩,
   ⟨st { z with foy := { z.foy with fused := [⟨1, 2, 3, 4, .east, 0, 0, 0, 0, false⟩, ⟨9, 2, 3, 4, .east, 0, 0, 0, 0, false⟩] } }, 1, 2,
     3, 4, Instr.fusedHoldExpiry 1 2 3 4, by decide +kernel, by simp⟩,
   ⟨st (fhc { hc with cap := { cap0 with op := .flush } }), .east, 3, { hc with cap := { cap0 with op := .flush } }, ns1,
     by decide +kernel, by constructor <;> (try unfold HostListens) <;> decide +kernel, by and_intros <;> decide +kernel⟩⟩

theorem met_AdmissionAndCompletion_2 :
    (∃ s : State, ∃ w : Wing, ∃ tag : Nat, ∃ c : HostCmd, ∃ n : Namespace, ∃ data : List Nat, Runs s.dev ∧ CmdEnds s.dev w tag c ∧
      c.cap.op = .read ∧ c.cap.pract = false ∧ nsGet? s.dev c.cap.nsid = some n ∧ readFailure s.dev c.cap c.coll n = none ∧
      readData s.dev c.cap c.coll n = some data ∧ data ≠ []) ∧
    (∃ s : State, ∃ w : Wing, ∃ tag : Nat, ∃ c : HostCmd, ∃ n : Namespace, ∃ data : List Nat, Runs s.dev ∧ CmdEnds s.dev w tag c ∧
      (c.cap.op = .compare ∨ c.cap.op = .verify) ∧ nsGet? s.dev c.cap.nsid = some n ∧ readFailure s.dev c.cap c.coll n = none ∧
      readData s.dev c.cap c.coll n = some data) ∧
    (∃ s : State, ∃ w : Wing, ∃ tag : Nat, ∃ c : HostCmd, ∃ st : Status, Runs s.dev ∧ CmdEnds s.dev w tag c ∧ c.cap.op ≠ .compareWrite ∧
      (st = .collMismatch ∨ st = .keyInvalid ∨ st = .mediaFail)) ∧
    (∃ s : State, ∃ w : Wing, ∃ c : Capsule, ∃ sct : Nat, ∃ sc : Nat, ∃ dnr : Bool, Runs s.dev ∧ c.wing = w ∧ HostListens s.dev c ∧
      s.dev.foy.passed.find? (sameCid c) = some c) :=
  ⟨⟨st (fhc hc), .east, 3, hc, ns1, [0, 0, 0, 0], by decide +kernel, by constructor <;> (try unfold HostListens) <;> decide +kernel,
     by and_intros <;> decide +kernel⟩,
   ⟨st (fhc { hc with cap := { cap0 with op := .compare }, data := [0, 0, 0, 1] }), .east, 3,
     { hc with cap := { cap0 with op := .compare }, data := [0, 0, 0, 1] }, ns1, [0, 0, 0, 0], by decide +kernel,
     by constructor <;> (try unfold HostListens) <;> decide +kernel, by and_intros <;> decide +kernel⟩,
   ⟨st (fhc hc), .east, 3, hc, .mediaFail, by decide +kernel, by constructor <;> (try unfold HostListens) <;> decide +kernel,
     by and_intros <;> decide +kernel⟩,
   ⟨st { fh with foy := { fh.foy with passed := [cap0] } }, .east, cap0, 1, 0x85, true, by decide +kernel, by decide +kernel,
     by unfold HostListens; decide +kernel, by decide +kernel⟩⟩

theorem met_MehrorContextsOpenAndClose :
    (∃ s : State, ∃ ini : Initiator, ∃ w : Wing, ∃ ctx : Nat, Runs s.dev ∧ Writable s.dev ini (pg .mft w) 0x078 ∧
      ctx = fget s.dev w MFT_CTX_INDEX_INDEX ∧ mftState s.dev w ctx = 0 ∧ fget s.dev w FOQ_CTX_BIND_TYPE ctx = 3 ∧
      fget s.dev w FOQ_CTX_STATE_AUTHENTICATED ctx = 1 ∧ fget s.dev w MFT_CTX_PEER_NODE ctx ≠ fget s.dev .east MFT_NODE_NODE_ID ∧
      pget s.dev w MFT_CTX_CACHE_LO_ADDR MFT_CTX_CACHE_HI_ADDR ctx ≠ 0 ∧
      maxPayload s.dev w ctx + 112 ≤ fget s.dev w FOY_MTU_MTU 0 (fget s.dev w MFT_CTX_PATH_PORT ctx)) ∧
    (∃ s : State, ∃ ini : Initiator, ∃ w : Wing, ∃ ctx : Nat, Runs s.dev ∧ Writable s.dev ini (pg .mft w) 0x078 ∧
      ctx = fget s.dev w MFT_CTX_INDEX_INDEX ∧ mftState s.dev w ctx = 1) ∧
    (∃ s : State, ∃ w : Wing, ∃ ctx : Nat, Runs s.dev ∧ ctx < 32768 ∧ mftState s.dev w ctx = 3 ∧
      fget s.dev w FOQ_CTX_STATE_INFLIGHT ctx = 0) :=
  ⟨⟨st (fset (fset (fset (fset mh .west MFT_CTX_STATE_STATE 0 7) .west MFT_CTX_INDEX_INDEX 7) .west MFT_CTX_CACHE_LO_ADDR 1 7) .west FOY_MTU_MTU 9000 0 0),
     .docent, .west, 7, by decide +kernel, wr_ok (by decide +kernel), by first | decide +kernel | rfl, by and_intros <;> decide +kernel⟩,
   ⟨st (fset mh .west MFT_CTX_INDEX_INDEX 7), .docent, .west, 7, by decide +kernel, wr_ok (by decide +kernel),
     by first | decide +kernel | rfl, by decide +kernel⟩,
   ⟨st (fset mh .west MFT_CTX_STATE_STATE 3 7), .west, 7, by and_intros <;> decide +kernel⟩⟩

theorem met_MehrorWorkIsPosted :
    (∃ s : State, ∃ w : Wing, ∃ src : Source, ∃ t : Taken, ∃ h' : Head, ∃ a : Nat, Runs s.dev ∧ Starts s.dev w .mft src 1 t h' ∧
      MftPosted h' w t a ∧ 1 ≤ mdLen t.d ∧ mdLen t.d ≤ 2 ^ 24) ∧
    (∃ s : State, ∃ w : Wing, ∃ src : Source, ∃ t : Taken, ∃ h' : Head, ∃ a : Nat, Runs s.dev ∧ Starts s.dev w .mft src 3 t h' ∧
      MftPosted h' w t a ∧ 1 ≤ mdLen t.d ∧ mdLen t.d ≤ 2 ^ 20) ∧
    (∃ s : State, ∃ w : Wing, ∃ src : Source, ∃ t : Taken, ∃ h' : Head, ∃ a : Nat, Runs s.dev ∧ Starts s.dev w .mft src 2 t h' ∧
      MftPosted h' w t a ∧ 1 ≤ mdLen t.d ∧ mdLen t.d ≤ 2 ^ 24) ∧
    (∃ s : State, ∃ w : Wing, ∃ src : Source, ∃ t : Taken, ∃ h' : Head, ∃ a : Nat, ∃ cas : Bool, Runs s.dev ∧
      Starts s.dev w .mft src (if cas then 5 else 4) t h' ∧ MftPosted h' w t a ∧ mdLen t.d = 8) ∧
    (∃ s : State, ∃ w : Wing, ∃ src : Source, ∃ t : Taken, ∃ h' : Head, ∃ a : Nat, Runs s.dev ∧ Starts s.dev w .mft src 16 t h' ∧
      MftPosted h' w t a ∧ 1 ≤ mdLen t.d ∧ mdLen t.d ≤ 2 ^ 24 ∧ (mftGet h' w (mdCtx t.d)).posts.length < 1024) :=
  ⟨⟨st mh, .west, .internal (dsc 1 5 7 3000 rk 0 9 0), ⟨dsc 1 5 7 3000 rk 0 9 0, none, true, false, true⟩, mh, 0x100000,
     by decide +kernel, by constructor <;> decide +kernel, by constructor <;> decide +kernel, by and_intros <;> decide +kernel⟩,
   ⟨st mh, .west, .internal (dsc 3 5 7 3000 rk 0 9 0), ⟨dsc 3 5 7 3000 rk 0 9 0, none, true, false, true⟩, mh, 0x100000,
     by decide +kernel, by constructor <;> decide +kernel, by constructor <;> decide +kernel, by and_intros <;> decide +kernel⟩,
   ⟨st mh, .west, .internal (dsc 2 5 7 3000 rk 0 9 0), ⟨dsc 2 5 7 3000 rk 0 9 0, none, true, false, true⟩, mh, 0x100000,
     by decide +kernel, by constructor <;> decide +kernel, by constructor <;> decide +kernel, by and_intros <;> decide +kernel⟩,
   ⟨st mh, .west, .internal (dsc 5 5 7 8 rk 0 9 0), ⟨dsc 5 5 7 8 rk 0 9 0, none, true, false, true⟩, mh, 0x100000, true,
     by decide +kernel, by constructor <;> decide +kernel, by constructor <;> decide +kernel, by decide +kernel⟩,
   ⟨st mh, .west, .internal (dsc 16 5 7 3000 rk 0 9 0), ⟨dsc 16 5 7 3000 rk 0 9 0, none, true, false, true⟩, mh, 0x100000,
     by decide +kernel, by constructor <;> decide +kernel, by constructor <;> decide +kernel, by and_intros <;> decide +kernel⟩⟩

theorem met_MehrorPacketsArePlaced_1 :
    (∃ s : State, ∃ w : Wing, ∃ p : MftPacket, ∃ ctx : Nat, ∃ a : Nat, ∃ g : Head, Runs s.dev ∧ MftTakes s.dev w p ctx ∧
      g = mftSeen s.dev w ctx p ∧ MftNew g w p ctx ∧ p.opcode = 1 ∧ 1 ≤ p.paylen ∧ p.paylen ≤ maxPayload g w ctx ∧
      regionAddr g p.rkey p.offset p.paylen (ctxColl g w ctx) (ctxSystem g w ctx) (some MFT_REGION_ATTR_WRITE) = some a) ∧
    (∃ s : State, ∃ w : Wing, ∃ p : MftPacket, ∃ ctx : Nat, ∃ g : Head, Runs s.dev ∧ MftTakes s.dev w p ctx ∧ g = mftSeen s.dev w ctx p ∧
      MftNew g w p ctx ∧ p.opcode = 1 ∧ 1 ≤ p.paylen ∧ p.paylen ≤ maxPayload g w ctx ∧
      regionAddr g p.rkey p.offset p.paylen (ctxColl g w ctx) (ctxSystem g w ctx) (some MFT_REGION_ATTR_WRITE) = none ∧
      MftListens s.dev w ctx) ∧
    (∃ s : State, ∃ w : Wing, ∃ p : MftPacket, ∃ ctx : Nat, ∃ a : Nat, ∃ g : Head, Runs s.dev ∧ MftTakes s.dev w p ctx ∧
      g = mftSeen s.dev w ctx p ∧ MftNew g w p ctx ∧ p.opcode = 2 ∧ p.paylen = 0 ∧ 1 ≤ p.len ∧
      (p.len + maxPayload g w ctx - 1) / maxPayload g w ctx ≤ 64 ∧ readRegion g w ctx p = some a) ∧
    (∃ s : State, ∃ w : Wing, ∃ p : MftPacket, ∃ ctx : Nat, ∃ a : Nat, ∃ g : Head, ∃ cas : Bool, Runs s.dev ∧ MftTakes s.dev w p ctx ∧
      g = mftSeen s.dev w ctx p ∧ MftNew g w p ctx ∧ p.opcode = (if cas then 6 else 5) ∧ p.paylen = 0 ∧ p.offset % 8 = 0 ∧
      regionAddr g p.rkey p.offset 8 (ctxColl g w ctx) (ctxSystem g w ctx) (some MFT_REGION_ATTR_ATOMIC) = some a) ∧
    (∃ s : State, ∃ w : Wing, ∃ p : MftPacket, ∃ ctx : Nat, ∃ g : Head, ∃ b : Post, Runs s.dev ∧ MftTakes s.dev w p ctx ∧
      g = mftSeen s.dev w ctx p ∧ MftNew g w p ctx ∧ p.opcode = 4 ∧ 1 ≤ p.paylen ∧ p.paylen ≤ maxPayload g w ctx ∧ p.msgLen ≤ 2 ^ 20 ∧
      p.offset + p.paylen ≤ p.msgLen ∧ (mftGet g w ctx).posts.find? (fun x => x.msgId == p.msgId) = some b ∧
      (mftGet g w ctx).msgs.find? (fun m => m.msgId == p.msgId) = none) ∧
    (∃ s : State, ∃ w : Wing, ∃ p : MftPacket, ∃ ctx : Nat, ∃ g : Head, Runs s.dev ∧ MftTakes s.dev w p ctx ∧ g = mftSeen s.dev w ctx p ∧
      MftNew g w p ctx ∧ p.opcode = 4 ∧ 1 ≤ p.paylen ∧ p.paylen ≤ maxPayload g w ctx ∧ p.msgLen ≤ 2 ^ 20 ∧ p.offset + p.paylen ≤ p.msgLen ∧
      (mftGet g w ctx).posts = [] ∧ 0 ≤ psnDiff p.msgId (mftGet g w ctx).rcvMsg ∧ p.ackReq = false ∧ MftListens s.dev w ctx) :=
  ⟨⟨st mh, .west, mp, 7, 0x100000, mftSeen mh .west 7 mp, by decide +kernel, by constructor <;> decide +kernel,
     by first | decide +kernel | rfl, by constructor <;> decide +kernel, by and_intros <;> decide +kernel⟩,
   ⟨st mh, .west, { mp with rkey := 5 }, 7, mftSeen mh .west 7 { mp with rkey := 5 },
     by refine ⟨?_, by constructor <;> decide +kernel, by first | decide +kernel | rfl, by constructor <;> decide +kernel, ?_, ?_, ?_, ?_, by unfold MftListens; decide +kernel⟩ <;> decide +kernel⟩,
   ⟨st mh, .west, { mp with opcode := 2, paylen := 0, len := 3000 }, 7, 0x100000,
     mftSeen mh .west 7 { mp with opcode := 2, paylen := 0, len := 3000 }, by decide +kernel, by constructor <;> decide +kernel,
     by first | decide +kernel | rfl, by constructor <;> decide +kernel, by and_intros <;> decide +kernel⟩,
   ⟨st mh, .west, { mp with opcode := 5, paylen := 0, offset := 8 }, 7, 0x100008,
     mftSeen mh .west 7 { mp with opcode := 5, paylen := 0, offset := 8 }, false, by decide +kernel, by constructor <;> decide +kernel,
     by first | decide +kernel | rfl, by constructor <;> decide +kernel, by and_intros <;> decide +kernel⟩,
   ⟨st (mc (fun c => { c with posts := [⟨9, 0, 0x3000, 128⟩] })), .west, { mp with opcode := 4 }, 7,
     mftSeen (mc (fun c => { c with posts := [⟨9, 0, 0x3000, 128⟩] })) .west 7 { mp with opcode := 4 }, ⟨9, 0, 0x3000, 128⟩,
     by decide +kernel, by constructor <;> decide +kernel, by first | decide +kernel | rfl, by constructor <;> decide +kernel,
     by and_intros <;> decide +kernel⟩,
   ⟨st mh, .west, { mp with opcode := 4, ackReq := false }, 7, mftSeen mh .west 7 { mp with opcode := 4, ackReq := false },
     by refine ⟨?_, by constructor <;> decide +kernel, by first | decide +kernel | rfl, by constructor <;> decide +kernel, ?_, ?_, ?_, ?_, ?_, ?_, ?_, ?_, by unfold MftListens; decide +kernel⟩ <;> decide +kernel⟩⟩

theorem met_MehrorPacketsArePlaced_2 :
    (∃ s : State, ∃ w : Wing, ∃ p : MftPacket, ∃ ctx : Nat, ∃ g : Head, ∃ o : MftOut, Runs s.dev ∧ MftTakes s.dev w p ctx ∧
      g = mftSeen s.dev w ctx p ∧ p.opcode = 3 ∧
      (mftGet g w ctx).out.find? (fun o => o.pkt.opcode == 2 && o.live && o.chunks.any (fun k => psnAdd o.pkt.psn k == p.psn)) = some o ∧
      p.paylen = min (maxPayload g w ctx) (o.pkt.len - (psnDiff p.psn o.pkt.psn).toNat * maxPayload g w ctx)) ∧
    (∃ s : State, ∃ w : Wing, ∃ p : MftPacket, ∃ ctx : Nat, ∃ g : Head, ∃ o : MftOut, ∃ x : MftOp, Runs s.dev ∧ MftTakes s.dev w p ctx ∧
      g = mftSeen s.dev w ctx p ∧ p.opcode = 7 ∧
      (mftGet g w ctx).out.find? (fun o => (o.pkt.opcode == 5 || o.pkt.opcode == 6) && o.live && o.wait && o.pkt.psn == p.psn) = some o ∧
      (mftGet g w ctx).ops.find? (fun x => x.tag == o.tag) = some x ∧ p.paylen = 0) :=
  ⟨⟨st (mc (fun c => { c with out := [mo 2 9], ops := [⟨9, 2, 0x2000, 64⟩] })), .west, { mp with opcode := 3 }, 7,
     mftSeen (mc (fun c => { c with out := [mo 2 9], ops := [⟨9, 2, 0x2000, 64⟩] })) .west 7 { mp with opcode := 3 }, mo 2 9,
     by decide +kernel, by constructor <;> decide +kernel, by first | decide +kernel | rfl, by and_intros <;> decide +kernel⟩,
   ⟨st (mc (fun c => { c with out := [{ mo 5 9 with wait := true }], ops := [⟨9, 4, 0x2000, 8⟩] })), .west,
     { mp with opcode := 7, paylen := 0 }, 7,
     mftSeen (mc (fun c => { c with out := [{ mo 5 9 with wait := true }], ops := [⟨9, 4, 0x2000, 8⟩] })) .west 7 { mp with opcode := 7, paylen := 0 },
     { mo 5 9 with wait := true }, ⟨9, 4, 0x2000, 8⟩, by decide +kernel, by constructor <;> decide +kernel,
     by first | decide +kernel | rfl, by and_intros <;> decide +kernel⟩⟩

theorem met_MehrorAcknowledgesAndRetries_1 :
    (∃ s : State, ∃ w : Wing, ∃ p : MftPacket, ∃ time : Nat, ∃ ctx : Nat, ∃ g : Head, ∃ c : MftCtx, Runs s.dev ∧ MftTakes s.dev w p ctx ∧
      g = mftSeen s.dev w ctx p ∧ p.opcode = 8 ∧ p.paylen = 0 ∧ p.ceCount = 0 ∧ p.sack = 0 ∧ p.ackReq = false ∧
      c = rttSample (mftGet g w ctx) ((time + 2 ^ 32 - p.tsEcho % 2 ^ 32) % 2 ^ 32) ∧ c.cutUntil = none) ∧
    (∃ s : State, ∃ w : Wing, ∃ p : MftPacket, ∃ time : Nat, ∃ ctx : Nat, ∃ g : Head, ∃ c : MftCtx, ∃ o : MftOut, Runs s.dev ∧
      MftTakes s.dev w p ctx ∧ g = mftSeen s.dev w ctx p ∧ p.opcode = 9 ∧ p.code = 2 ∧ p.paylen = 0 ∧ p.ackReq = false ∧
      c = rttSample (mftGet g w ctx) ((time + 2 ^ 32 - p.tsEcho % 2 ^ 32) % 2 ^ 32) ∧
      c.out.find? (fun o => o.pkt.psn == p.nextPsn) = some o ∧ o.live = true ∧ o.rnr < fget s.dev w MFT_RETRY_RNR_MAX) ∧
    (∃ s : State, ∃ w : Wing, ∃ p : MftPacket, ∃ time : Nat, ∃ ctx : Nat, ∃ g : Head, ∃ c : MftCtx, ∃ o : MftOut, Runs s.dev ∧
      MftTakes s.dev w p ctx ∧ g = mftSeen s.dev w ctx p ∧ p.opcode = 9 ∧ p.code ≠ 2 ∧ p.paylen = 0 ∧
      c = rttSample (mftGet g w ctx) ((time + 2 ^ 32 - p.tsEcho % 2 ^ 32) % 2 ^ 32) ∧
      c.out.find? (fun o => o.pkt.psn == p.nextPsn) = some o ∧ o.live = true) ∧
    (∃ s : State, ∃ w : Wing, ∃ ctx : Nat, Runs s.dev ∧ mftState s.dev w ctx = 1 ∧ 0 < (mftGet s.dev w ctx).accepted ∧
      MftListens s.dev w ctx) ∧
    (∃ s : State, ∃ w : Wing, ∃ ctx : Nat, ∃ psn : Nat, ∃ o : MftOut, Runs s.dev ∧ mftState s.dev w ctx = 1 ∧
      (mftGet s.dev w ctx).rwin ≠ 0 ∧ (mftGet s.dev w ctx).out.find? (fun o => o.pkt.psn == psn && (!o.acked || o.wait)) = some o ∧
      o.sent < fget s.dev w MFT_RETRY_RETRY_MAX ∧ MftListens s.dev w ctx) ∧
    (∃ s : State, ∃ w : Wing, ∃ ctx : Nat, ∃ psn : Nat, ∃ o : MftOut, Runs s.dev ∧ mftState s.dev w ctx = 1 ∧
      (mftGet s.dev w ctx).rwin ≠ 0 ∧ (mftGet s.dev w ctx).out.find? (fun o => o.pkt.psn == psn && (!o.acked || o.wait)) = some o ∧
      fget s.dev w MFT_RETRY_RETRY_MAX ≤ o.sent) :=
  ⟨⟨st (mc (fun c => { c with out := [mo 1 9], ops := [⟨9, 1, 0x2000, 64⟩] })), .west,
     { mp with opcode := 8, paylen := 0, ackReq := false, nextPsn := 1 }, 100, 7,
     mftSeen (mc (fun c => { c with out := [mo 1 9], ops := [⟨9, 1, 0x2000, 64⟩] })) .west 7 { mp with opcode := 8, paylen := 0, ackReq := false, nextPsn := 1 },
     rttSample (mftGet (mftSeen (mc (fun c => { c with out := [mo 1 9], ops := [⟨9, 1, 0x2000, 64⟩] })) .west 7 { mp with opcode := 8, paylen := 0, ackReq := false, nextPsn := 1 }) .west 7) 100,
     by refine ⟨?_, by constructor <;> decide +kernel, by first | decide +kernel | rfl, ?_, ?_, ?_, ?_, ?_, by first | decide +kernel | rfl, ?_⟩ <;> decide +kernel⟩,
   ⟨st (mc (fun c => { c with out := [mo 4 9], ops := [⟨9, 3, 0x2000, 64⟩] })), .west,
     { mp with opcode := 9, paylen := 0, ackReq := false, code := 2 }, 100, 7,
     mftSeen (mc (fun c => { c with out := [mo 4 9], ops := [⟨9, 3, 0x2000, 64⟩] })) .west 7 { mp with opcode := 9, paylen := 0, ackReq := false, code := 2 },
     rttSample (mftGet (mftSeen (mc (fun c => { c with out := [mo 4 9], ops := [⟨9, 3, 0x2000, 64⟩] })) .west 7 { mp with opcode := 9, paylen := 0, ackReq := false, code := 2 }) .west 7) 100,
     mo 4 9,
     by refine ⟨?_, by constructor <;> decide +kernel, by first | decide +kernel | rfl, ?_, ?_, ?_, ?_, by first | decide +kernel | rfl, ?_, ?_, ?_⟩ <;> decide +kernel⟩,
   ⟨st (mc (fun c => { c with out := [mo 4 9], ops := [⟨9, 3, 0x2000, 64⟩] })), .west, { mp with opcode := 9, paylen := 0, code := 1 },
     100, 7,
     mftSeen (mc (fun c => { c with out := [mo 4 9], ops := [⟨9, 3, 0x2000, 64⟩] })) .west 7 { mp with opcode := 9, paylen := 0, code := 1 },
     rttSample (mftGet (mftSeen (mc (fun c => { c with out := [mo 4 9], ops := [⟨9, 3, 0x2000, 64⟩] })) .west 7 { mp with opcode := 9, paylen := 0, code := 1 }) .west 7) 100,
     mo 4 9, by decide +kernel, by constructor <;> decide +kernel, by first | decide +kernel | rfl, by decide +kernel, by decide +kernel,
     by decide +kernel, by first | decide +kernel | rfl, by and_intros <;> decide +kernel⟩,
   ⟨st (mc (fun c => { c with accepted := 2 })), .west, 7, by decide +kernel, by decide +kernel, by decide +kernel,
     by unfold MftListens; decide +kernel⟩,
   ⟨st (mc (fun c => { c with rwin := 4096, out := [mo 1 9], ops := [⟨9, 1, 0x2000, 64⟩] })), .west, 7, 0, mo 1 9,
     by refine ⟨?_, ?_, ?_, ?_, ?_, by unfold MftListens; decide +kernel⟩ <;> decide +kernel⟩,
   ⟨st (mc (fun c => { c with rwin := 4096, out := [{ mo 1 9 with sent := 99 }], ops := [⟨9, 1, 0x2000, 64⟩] })), .west, 7, 0,
     { mo 1 9 with sent := 99 }, by and_intros <;> decide +kernel⟩⟩

theorem met_MehrorAcknowledgesAndRetries_2 :
    ∃ s : State, ∃ w : Wing, ∃ ctx : Nat, ∃ psn : Nat, ∃ o : MftOut, Runs s.dev ∧ mftState s.dev w ctx = 1 ∧
    (mftGet s.dev w ctx).out.find? (fun o => o.pkt.psn == psn && o.rnr != 0) = some o ∧ MftListens s.dev w ctx :=
  ⟨st (mc (fun c => { c with out := [{ mo 4 9 with rnr := 1 }], ops := [⟨9, 3, 0x2000, 64⟩] })), .west, 7, 0, { mo 4 9 with rnr := 1 },
    by decide +kernel, by decide +kernel, by decide +kernel, by unfold MftListens; decide +kernel⟩

theorem met_GranulesArePlaced :
    (∃ s : State, ∃ w : Wing, ∃ tag : Nat, ∃ idx : Nat, ∃ c : HostCmd, ∃ n : Namespace, Runs s.dev ∧
      tabGet? s.dev.foy.cmds (tagKey w tag) = some c ∧ Placeable s.dev c idx ∧ c.fwd = false ∧ nsGet? s.dev c.cap.nsid = some n ∧
      (c.cap.op = .write ∨ c.compared = true) ∧ hasPeer s.dev = false ∧
      ((∀ v ∈ s.dev.vit.slots, isGranule c.cap.nsid (c.cap.slba + idx) v = true → seqNum v.wseq < seqNum (wseqNext s.dev (homeOf s.dev c.cap.nsid))))) ∧
    (∃ s : State, ∃ w : Wing, ∃ p : Wing, ∃ tag : Nat, ∃ idx : Nat, ∃ c : HostCmd, ∃ n : Namespace, Runs s.dev ∧
      tabGet? s.dev.foy.cmds (tagKey w tag) = some c ∧ Placeable s.dev c idx ∧ c.fwd = false ∧ nsGet? s.dev c.cap.nsid = some n ∧
      (c.cap.op = .write ∨ c.compared = true) ∧ hasPeer s.dev = true ∧ c.via = none ∧ anxPort s.dev (homeOf s.dev c.cap.nsid) = some p ∧
      (anxLink s.dev p).queue.any (fun m => m.vc == 1) = false ∧ ((∀ e ∈ s.dev.vit.toMirror, e.1 ≠ homeOf s.dev c.cap.nsid)) ∧
      ((∀ f ∈ s.dev.vit.fusedOut, f.1 ≠ homeOf s.dev c.cap.nsid)) ∧
      ((∀ v ∈ s.dev.vit.slots, v.wing = homeOf s.dev c.cap.nsid → isOwnDirty v.st = true → v.wseq ≠ wseqNext s.dev (homeOf s.dev c.cap.nsid)))) ∧
    (∃ s : State, ∃ w : Wing, ∃ p : Wing, ∃ tag : Nat, ∃ idx : Nat, ∃ c : HostCmd, ∃ n : Namespace, Runs s.dev ∧
      tabGet? s.dev.foy.cmds (tagKey w tag) = some c ∧ Placeable s.dev c idx ∧ c.fwd = false ∧ nsGet? s.dev c.cap.nsid = some n ∧
      c.cap.op = .write ∧ hasPeer s.dev = true ∧ c.via = none ∧ anxPort s.dev (homeOf s.dev c.cap.nsid) = some p ∧
      (anxLink s.dev p).queue.any (fun m => m.vc == 1) = true) ∧
    (∃ s : State, ∃ w : Wing, ∃ p : Wing, ∃ tag : Nat, ∃ idx : Nat, ∃ c : HostCmd, Runs s.dev ∧
      tabGet? s.dev.foy.cmds (tagKey w tag) = some c ∧ Placeable s.dev c idx ∧ c.fwd = true ∧ c.placed.length + 1 = c.cap.count ∧
      anxPort s.dev (homeOf s.dev c.cap.nsid) = some p) ∧
    (∃ s : State, ∃ w : Wing, ∃ tag : Nat, ∃ idx : Nat, ∃ c : HostCmd, ∃ n : Namespace, ∃ d : List Nat, Runs s.dev ∧
      tabGet? s.dev.foy.cmds (tagKey w tag) = some c ∧ Placeable s.dev c idx ∧ c.fwd = false ∧ nsGet? s.dev c.cap.nsid = some n ∧
      c.cap.op = .compareWrite ∧ c.compared = false ∧ readFailure s.dev c.cap c.coll n = none ∧ readData s.dev c.cap c.coll n = some d ∧
      d ≠ c.data.take c.cap.count) :=
  ⟨⟨st (fhc wc), .east, 3, 3, wc, ns1, by decide +kernel, by decide +kernel, by constructor <;> decide +kernel,
     by and_intros <;> decide +kernel⟩,
   ⟨st { pr 3 with foy := (fhc wc).foy }, .east, .east, 3, 3, wc, ns1, by decide +kernel, by decide +kernel,
     by constructor <;> decide +kernel, by and_intros <;> decide +kernel⟩,
   ⟨st { pv 3 (fun v => { v with linkE := { lk0 with queue := [⟨1, 2, .annex .east 3 0 (.mirror [me] [])⟩] } }) with foy := (fhc wc).foy },
     .east, .east, 3, 3, wc, ns1, by decide +kernel, by decide +kernel, by constructor <;> decide +kernel, by and_intros <;> decide +kernel⟩,
   ⟨st { pr 3 with foy := (fhc { wc1 with fwd := true }).foy }, .east, .east, 3, 0, { wc1 with fwd := true }, by decide +kernel,
     by decide +kernel, by constructor <;> decide +kernel, by and_intros <;> decide +kernel⟩,
   ⟨st { pr 3 with foy := (fhc { wc1 with cap := { wc1.cap with op := .compareWrite } }).foy }, .east, 3, 0,
     { wc1 with cap := { wc1.cap with op := .compareWrite } }, ns1, [0], by decide +kernel, by decide +kernel,
     by constructor <;> decide +kernel, by and_intros <;> decide +kernel⟩⟩

theorem met_MirrorsQuotaAndRetention_1 :
    (∃ s : State, ∃ port : Wing, ∃ mtag : Nat, ∃ coll : Nat, ∃ es : List MirrorEntry, ∃ c, Runs s.dev ∧ inPair s.dev = true ∧
      inDump s.dev = false ∧ ((∀ e ∈ es, entryOk s.dev e = true ∧ isLost s.dev e = false)) ∧
      ((∀ w, slotsHeld s.dev w + es.length ≤ slotLimit s.dev w)) ∧ c ∈ [Instr.anxMirror port mtag coll es [], .resilver port mtag coll es]) ∧
    (∃ s : State, ∃ port : Wing, ∃ mtag : Nat, ∃ coll : Nat, ∃ r : FusedRec, Runs s.dev ∧ inPair s.dev = true ∧ inDump s.dev = false ∧
      ((∀ w, slotsHeld s.dev w ≤ slotLimit s.dev w))) ∧
    (∃ s : State, ∃ port : Wing, ∃ mtag : Nat, ∃ coll : Nat, ∃ es : List MirrorEntry, ∃ c, Runs s.dev ∧ inPair s.dev = true ∧
      inDump s.dev = false ∧ ((∃ e ∈ es, entryOk s.dev e = false)) ∧ c ∈ [Instr.anxMirror port mtag coll es [], .resilver port mtag coll es]) ∧
    (∃ s : State, ∃ port : Wing, ∃ w : Wing, ∃ mtag : Nat, ∃ coll : Nat, ∃ es : List MirrorEntry, ∃ c, Runs s.dev ∧ inPair s.dev = true ∧
      ((∀ e ∈ es, entryOk s.dev e = true)) ∧
      slotLimit s.dev w < slotsHeld s.dev w + (es.filter (fun e => homeOf s.dev e.nsid == w && !superseded s.dev e)).length ∧
      c ∈ [Instr.anxMirror port mtag coll es [], .resilver port mtag coll es]) ∧
    (∃ s : State, ∃ mtag : Nat, ∃ latency : Nat, ∃ u : Unacked, ∃ es : List MirrorEntry, ∃ fr : List FusedRec, Runs s.dev ∧
      unackedOf s.dev mtag = some u ∧ u.body = .mirror es fr) ∧
    (∃ s : State, ∃ mtag : Nat, ∃ latency : Nat, ∃ u : Unacked, ∃ es : List MirrorEntry, Runs s.dev ∧ unackedOf s.dev mtag = some u ∧
      u.body = .resilver es) :=
  ⟨⟨st (pr 3), .west, 3, 0, [me], Instr.anxMirror .west 3 0 [me] [], by decide +kernel, by decide +kernel, by decide +kernel,
     (by simpa using (by decide +kernel : entryOk (st (pr 3)).dev me = true ∧ isLost (st (pr 3)).dev me = false)),
     (by intro w; cases w <;> decide +kernel), by simp⟩,
   ⟨st (pr 3), .west, 3, 0, ⟨1, 2, 3, 4, .east, 0, 0, 0, 0, false⟩, by decide +kernel, by decide +kernel, by decide +kernel,
     (by intro w; cases w <;> decide +kernel)⟩,
   ⟨st (pr 3), .west, 3, 0, [{ me with label := lab }], Instr.resilver .west 3 0 [{ me with label := lab }],
     by refine ⟨?_, ?_, ?_, ?_, by simp⟩ <;> decide +kernel⟩,
   ⟨st (pv 3 (fun v => { v with retiredE := 6291456 })), .west, .east, 3, 0, [me], Instr.resilver .west 3 0 [me],
     by refine ⟨?_, ?_, ?_, ?_, by simp⟩ <;> decide +kernel⟩,
   ⟨st { pu (.mirror [me] []) with vit := { (pu (.mirror [me] [])).vit with slots := [sl] } }, 3, 700,
     ⟨.east, 3, 0, .mirror [me] [], false⟩, [me], [], by and_intros <;> decide +kernel⟩,
   ⟨st (pu (.resilver [me])), 3, 700, ⟨.east, 3, 0, .resilver [me], false⟩, [me], by and_intros <;> decide +kernel⟩⟩

theorem met_MirrorsQuotaAndRetention_2 :
    (∃ s : State, ∃ mtag : Nat, ∃ latency : Nat, ∃ u : Unacked, ∃ es : List MirrorEntry, ∃ fr : List FusedRec, Runs s.dev ∧
      unackedOf s.dev mtag = some u ∧ u.body = .mirror es fr) ∧
    (∃ s : State, ∃ p : Wing, ∃ mtag : Nat, ∃ u : Unacked, Runs s.dev ∧ unackedOf s.dev mtag = some u ∧
      s.dev.vit.refused.contains mtag = true ∧ anxPort s.dev u.wing = some p) ∧
    (∃ s : State, ∃ ini : Initiator, ∃ w : Wing, Runs s.dev ∧ Writable s.dev ini (pg .vit w) 0x040 ∧ shrinking s.dev = false) ∧
    (∃ s : State, ∃ ini : Initiator, ∃ w : Wing, Runs s.dev ∧ Writable s.dev ini (pg .vit w) 0x040 ∧ shrinking s.dev = true) ∧
    (∃ s : State, Runs s.dev ∧ ((∃ c ∈ s.dev.foy.waiting, c.overLong = false ∧ ∃ f, c.overSince = some f ∧ f + 1024 ≤ frameCount s.dev))) ∧
    (∃ s : State, ∃ ini : Initiator, ∃ w : Wing, Runs s.dev ∧ Writable s.dev ini (pg .vit w) 0x068 ∧ pairState s.dev = 0 ∧
      s.dev.vit.retained = true) :=
  ⟨⟨st (pu (.mirror [me] [])), 3, 700, ⟨.east, 3, 0, .mirror [me] [], false⟩, [me], [], by and_intros <;> decide +kernel⟩,
   ⟨st (pv 3 (fun v => { v with unacked := [⟨.east, 3, 0, .mirror [me] [], false⟩], refused := [3] })), .east, 3,
     ⟨.east, 3, 0, .mirror [me] [], false⟩, by and_intros <;> decide +kernel⟩,
   ⟨st (pr 3), .docent, .east, by decide +kernel, wr_ok (by decide +kernel), by decide +kernel⟩,
   ⟨st (fset (pr 3) .east VIT_CTRL_SHRINKING 1), .docent, .east, by decide +kernel, wr_ok (by decide +kernel), by decide +kernel⟩,
   ⟨st { fset (pr 3) .east FRM_FRAME_LO_FRAME 1024 with foy := { z.foy with waiting := [{ wc with overSince := some 0 }] } },
     by decide +kernel, (⟨{ wc with overSince := some 0 }, by decide +kernel, rfl, 0, rfl, by decide +kernel⟩)⟩,
   ⟨st (pv 0 (fun v => { v with retained := true, slots := [{ sl with retained := true }] })), .docent, .east, by decide +kernel,
     wr_ok (by decide +kernel), by and_intros <;> decide +kernel⟩⟩

theorem met_MirrorsQuotaAndRetention_3 :
    (∃ s : State, ∃ ini : Initiator, ∃ w : Wing, Runs s.dev ∧ Writable s.dev ini (pg .vit w) 0x068 ∧ s.dev.vit.retained = true) ∧
    (∃ s : State, ∃ w : Wing, ∃ nsid : Nat, ∃ granule : Nat, ∃ seq : Nat, ∃ v : Slot, Runs s.dev ∧
      s.dev.vit.slots.find? (fun v => v.wing == w && isVersion nsid granule seq v) = some v) ∧
    (∃ s : State, ∃ port : Wing, ∃ mtag : Nat, ∃ coll : Nat, ∃ e : MirrorEntry, Runs s.dev ∧ inPair s.dev = true ∧ inDump s.dev = false ∧
      entryOk s.dev e = true ∧ isLost s.dev e = true ∧ ((∀ w, slotsHeld s.dev w < slotLimit s.dev w)) ∧
      ((∀ v ∈ s.dev.vit.slots, isGranule e.nsid e.granule v = true → isOwnDirty v.st = false))) :=
  ⟨⟨st (pv 0 (fun v => { v with retained := true, slots := [{ sl with retained := true }] })), .docent, .east, by decide +kernel,
     wr_ok (by decide +kernel), by decide +kernel⟩,
   ⟨st (pv 0 (fun v => { v with slots := [sl] })), .east, 1, 5, 1, sl, by and_intros <;> decide +kernel⟩,
   ⟨st (pv 3 (fun v => { v with lost := [(1, 5, 1)] })), .west, 3, 0, me,
     by refine ⟨?_, ?_, ?_, ?_, ?_, (by intro w; cases w <;> decide +kernel), ?_⟩ <;> decide +kernel⟩⟩

theorem met_CoherenceAndForwarding_1 :
    (∃ s : State, ∃ port : Wing, ∃ mtag : Nat, ∃ coll : Nat, ∃ es : List CatEntry, ∃ g : Head, ∃ l : List JournalEntry, Runs s.dev ∧
      inPair s.dev = true ∧ s.dev.vit.applied.contains mtag = false ∧
      applyAll (foldHead s.dev (es.filter carriesSeq) (fun h e => raiseSeq h e.wseq)) es = some (g, l)) ∧
    (∃ s : State, ∃ port : Wing, ∃ mtag : Nat, ∃ coll : Nat, ∃ es : List CatEntry, Runs s.dev ∧ inPair s.dev = true ∧
      s.dev.vit.applied.contains mtag = false ∧ applyAll (foldHead s.dev (es.filter carriesSeq) (fun h e => raiseSeq h e.wseq)) es = none) ∧
    (∃ s : State, ∃ mtag : Nat, ∃ u : Unacked, ∃ es : List CatEntry, Runs s.dev ∧ unackedOf s.dev mtag = some u ∧ u.body = .catUpdate es) ∧
    (∃ s : State, ∃ mtag : Nat, ∃ u : Unacked, ∃ es : List CatEntry, Runs s.dev ∧ unackedOf s.dev mtag = some u ∧ u.body = .catUpdate es) ∧
    (∃ s : State, ∃ port : Wing, ∃ mtag : Nat, ∃ coll : Nat, ∃ c : Capsule, ∃ data : List Nat, ∃ n : Namespace, Runs s.dev ∧
      ForwardRuns s.dev mtag c n ∧ c.op = .flush) ∧
    (∃ s : State, ∃ port : Wing, ∃ mtag : Nat, ∃ coll : Nat, ∃ c : Capsule, ∃ data : List Nat, ∃ n : Namespace, Runs s.dev ∧
      ForwardRuns s.dev mtag c n ∧ c.op = .write ∧ hasPeer s.dev = true ∧ rplState s.dev coll ≠ 1 ∧ syncBroken s.dev coll = false ∧
      running s.dev (pg .vit (homeOf s.dev c.nsid)) = true ∧ mirrorFlits s.dev (homeOf s.dev c.nsid) < 256 ∧
      slotsHeld s.dev (homeOf s.dev c.nsid) + c.count ≤ slotLimit s.dev (homeOf s.dev c.nsid) ∧ s.dev.vit.unacked = [] ∧
      s.dev.vit.toMirror = [] ∧ ((∀ v ∈ s.dev.vit.slots, seqNum v.wseq < seqNum (wseqNext s.dev (homeOf s.dev c.nsid)))) ∧
      seqNum (wseqNext s.dev (homeOf s.dev c.nsid)) + c.count < 2 ^ 63) :=
  ⟨⟨st (pr 3), .west, 3, 0, [ce1], cu.1, cu.2, by and_intros <;> decide +kernel⟩,
   ⟨st (pr 3), .west, 3, 0, [{ ce1 with nsid := 99 }], by and_intros <;> decide +kernel⟩,
   ⟨st (pu (.catUpdate [ce1])), 3, ⟨.east, 3, 0, .catUpdate [ce1], false⟩, [ce1], by and_intros <;> decide +kernel⟩,
   ⟨st (pu (.catUpdate [ce1])), 3, ⟨.east, 3, 0, .catUpdate [ce1], false⟩, [ce1], by and_intros <;> decide +kernel⟩,
   ⟨st (pr 3), .west, 3, 0, { cap0 with op := .flush }, [], ns1, by decide +kernel, by constructor <;> decide +kernel, by decide +kernel⟩,
   ⟨st (pr 3), .west, 3, 0, { cap0 with op := .write }, [1, 2, 3, 4], ns1, by decide +kernel, by constructor <;> decide +kernel,
     by and_intros <;> decide +kernel⟩⟩

theorem met_CoherenceAndForwarding_2 :
    (∃ s : State, ∃ port : Wing, ∃ mtag : Nat, ∃ coll : Nat, ∃ c : Capsule, ∃ data : List Nat, ∃ b : AnxBody, Runs s.dev ∧
      inPair s.dev = true ∧ s.dev.vit.answered.find? (fun a => a.1 == mtag) = some (mtag, b)) ∧
    (∃ s : State, ∃ mtag : Nat, ∃ key : Nat, ∃ c : HostCmd, ∃ ws : List Nat, Runs s.dev ∧
      s.dev.foy.cmds.find? (fun e => e.2.mtag == some mtag) = some (key, c) ∧ c.cap.op = .write ∧ c.via = none ∧ HostListens s.dev c.cap) ∧
    (∃ s : State, ∃ mtag : Nat, ∃ key : Nat, ∃ sc : Nat, ∃ dnr : Bool, ∃ c : HostCmd, ∃ ws : List Nat, ∃ data : List Nat, Runs s.dev ∧
      s.dev.foy.cmds.find? (fun e => e.2.mtag == some mtag) = some (key, c) ∧ c.cap.op = .write ∧ c.via = none ∧ HostListens s.dev c.cap) :=
  ⟨⟨st (pv 3 (fun v => { v with answered := [(3, .forwardResp ⟨0, 0, false⟩ [] [])] })), .west, 3, 0, cap0, [],
     .forwardResp ⟨0, 0, false⟩ [] [], by and_intros <;> decide +kernel⟩,
   ⟨st { pr 3 with foy := (fhc { wc with fwd := true, mtag := some 3 }).foy }, 3, tagKey .east 3,
     { wc with fwd := true, mtag := some 3 }, [4, 5, 6, 7],
     by refine ⟨?_, ?_, ?_, ?_, by unfold HostListens; decide +kernel⟩ <;> decide +kernel⟩,
   ⟨st { pr 3 with foy := (fhc { wc with fwd := true, mtag := some 3 }).foy }, 3, tagKey .east 3, 2, false,
     { wc with fwd := true, mtag := some 3 }, [4, 5, 6, 7], [],
     by refine ⟨?_, ?_, ?_, ?_, by unfold HostListens; decide +kernel⟩ <;> decide +kernel⟩⟩

theorem met_PairWatchesItsPeer_1 :
    (∃ s : State, ∃ state : Nat, ∃ epoch : Nat, ∃ prefer : Bool, Runs s.dev ∧ pairState s.dev = 4 ∧ state ≠ 7 ∧
      (s.dev.vit.suspectFrom = 2 ∨ s.dev.vit.suspectFrom = 3)) ∧
    (∃ s : State, ∃ state : Nat, ∃ epoch : Nat, ∃ prefer : Bool, Runs s.dev ∧ pairState s.dev = 1 ∧ state ≠ 7 ∧
      prefer ≠ fbit s.dev .east ANX_PAIR_PREFER ∧ s.dev.vit.joined = true ∧ state = 3) ∧
    (∃ s : State, Runs s.dev ∧ inDump s.dev = false ∧ anxUp s.dev .east = true ∧ anxUp s.dev .west = false) ∧
    (∃ s : State, Runs s.dev ∧ (pairState s.dev = 2 ∨ pairState s.dev = 3)) ∧
    (∃ s : State, Runs s.dev ∧ s.dev.vit.noRenew = false ∧ pairState s.dev ≠ 7 ∧
      ((∀ o ∈ s.dev.plk.ops, o.purpose ≠ .renew ∧ o.purpose ≠ .poll))) ∧
    (∃ s : State, Runs s.dev ∧ pairState s.dev ≠ 7 ∧ ((∀ c ∈ s.dev.foy.waiting, HostListens s.dev c.cap)) ∧
      ((∀ e ∈ s.dev.foy.cmds, e.2.via = none))) :=
  ⟨⟨st (pv 4 (fun v => { v with suspectFrom := 3 })), 3, 1, true, by and_intros <;> decide +kernel⟩,
   ⟨st (pv 1 (fun v => { v with joined := true })), 3, 1, true,
     by refine ⟨?_, ?_, ?_, ?_, ?_, by first | decide +kernel | rfl⟩ <;> decide +kernel⟩,
   ⟨st (fset (pr 3) .west ANX_LINK_STATUS_UP 0), by and_intros <;> decide +kernel⟩,
   ⟨st (pr 3), by and_intros <;> decide +kernel⟩,
   ⟨st (pr 6), by and_intros <;> decide +kernel⟩,
   ⟨st (pr 6), by decide +kernel, by decide +kernel, by first | (unfold HostListens; decide +kernel) | (intro c hc; cases hc),
     by decide +kernel⟩⟩

theorem met_PairWatchesItsPeer_2 :
    (∃ s : State, Runs s.dev ∧ pairState s.dev = 4) ∧
    (∃ s : State, ∃ micros : Nat, Runs s.dev ∧ pairState s.dev = 5 ∧ quorum s.dev s.dev.vit.claims = true ∧ inDump s.dev = false) ∧
    (∃ s : State, Runs s.dev ∧ pairState s.dev = 4 ∧
      fget s.dev .east ANX_WITNESS_QUORUM ≤ fget s.dev .east ANX_WITNESS_PRESENT - s.dev.vit.peerExpired.length) :=
  ⟨⟨st (pr 4), by and_intros <;> decide +kernel⟩,
   ⟨st { fset (pr 5) .east ANX_WITNESS_QUORUM 1 with vit := { (pr 5).vit with claims := [0] } }, 20, by and_intros <;> decide +kernel⟩,
   ⟨st (fset (fset (pr 4) .east ANX_WITNESS_QUORUM 2) .east ANX_WITNESS_PRESENT 2), by and_intros <;> decide +kernel⟩⟩

theorem met_PairJoinsAndGivesBack_1 :
    (∃ s : State, ∃ ini : Initiator, Runs s.dev ∧ Writable s.dev ini (pg .anx .east) 0x04C ∧ (pairState s.dev = 0 ∨ pairState s.dev = 7) ∧
      serves s.dev = true) ∧
    (∃ s : State, ∃ ini : Initiator, Runs s.dev ∧ Writable s.dev ini (pg .anx .east) 0x04C ∧ (pairState s.dev = 0 ∨ pairState s.dev = 7) ∧
      serves s.dev = false) ∧
    (∃ s : State, ∃ ini : Initiator, Runs s.dev ∧ Writable s.dev ini (pg .anx .east) 0x04C ∧ pairState s.dev ≠ 0 ∧ pairState s.dev ≠ 7) ∧
    (∃ s : State, Runs s.dev ∧ pairState s.dev = 2 ∧ ((∀ u ∈ s.dev.vit.unacked, ∀ es, u.body ≠ .resilver es))) ∧
    (∃ s : State, ∃ ini : Initiator, ∃ leave : Bool, ∃ l : List Nat, Runs s.dev ∧ Writable s.dev ini (pg .anx .east) 0x04C ∧
      pairState s.dev = 3 ∧ s.dev.vit.batch = [] ∧
      l = (s.dev.cat.nss.filter (fun e => e.2.owned && (leave || (nsOfColl s.dev e.2.coll).any (fun n => !n.prefThis)))).map (fun e => e.2.nsid) ∧
      takeBatch s.dev l ≠ []) ∧
    (∃ s : State, ∃ ini : Initiator, Runs s.dev ∧ Writable s.dev ini (pg .anx .east) 0x04C ∧ pairState s.dev = 3 ∧ s.dev.vit.batch = [] ∧
      s.dev.vit.leaving = false ∧ ((∀ e ∈ s.dev.cat.nss, e.2.owned = true → ∀ n ∈ nsOfColl s.dev e.2.coll, n.prefThis = true))) :=
  ⟨⟨st { pr 0 with cur := { z.cur with mounted := true } }, .docent, by decide +kernel, wr_ok (by decide +kernel),
     by and_intros <;> decide +kernel⟩,
   ⟨st { pr 0 with cat := z.cat }, .docent, by decide +kernel, wr_ok (by decide +kernel), by and_intros <;> decide +kernel⟩,
   ⟨st (pr 1), .docent, by decide +kernel, wr_ok (by decide +kernel), by and_intros <;> decide +kernel⟩,
   ⟨st (pr 2), by decide +kernel, by decide +kernel, (fun u hu => nomatch (show u ∈ ([] : List Unacked) from hu))⟩,
   ⟨st (pr 3), .docent, true, [1], by decide +kernel, wr_ok (by decide +kernel), by and_intros <;> decide +kernel⟩,
   ⟨st (pr 3), .docent, by decide +kernel, wr_ok (by decide +kernel), by and_intros <;> decide +kernel⟩⟩

theorem met_PairJoinsAndGivesBack_2 :
    (∃ s : State, Runs s.dev ∧ s.dev.vit.batch ≠ [] ∧ s.dev.vit.batchSent = false ∧
      ((∀ e ∈ s.dev.foy.cmds, s.dev.vit.batch.contains e.2.cap.nsid = false)) ∧ anxUp s.dev .east = true) ∧
    (∃ s : State, ∃ port : Wing, ∃ mtag : Nat, ∃ coll : Nat, ∃ nsids : List Nat, Runs s.dev ∧ inPair s.dev = true) ∧
    (∃ s : State, ∃ mtag : Nat, ∃ u : Unacked, ∃ give : Bool, ∃ ns : List Nat, Runs s.dev ∧ unackedOf s.dev mtag = some u ∧
      u.body = .ownership give ns) :=
  ⟨⟨st (pv 3 (fun v => { v with batch := [1], giveback := [2] })), by and_intros <;> decide +kernel⟩,
   ⟨st (pr 3), .east, 3, 0, [1], by and_intros <;> decide +kernel⟩,
   ⟨st (pu (.ownership true [1])), 3, ⟨.east, 3, 0, .ownership true [1], false⟩, true, [1], by and_intros <;> decide +kernel⟩⟩

theorem met_AnnexLinksRecover_1 :
    (∃ s : State, ∃ w : Wing, ∃ vc : Nat, ∃ ackseq : Nat, ∃ m : Nat, ∃ cr : List Nat, Runs s.dev ∧ anxUp s.dev w = true ∧ 1 ≤ m ∧ m ≤ 10 ∧
      (anxLink s.dev w).queue = [] ∧ s.dev.vit.toMirror = []) ∧
    (∃ s : State, ∃ w : Wing, ∃ ftype : Nat, ∃ vc : Nat, ∃ lseq : Nat, ∃ acktype : Nat, ∃ ackseq : Nat, ∃ cr : List Nat,
      ∃ mtype : Option Nat, Runs s.dev ∧ anxUp s.dev w = true ∧ (anxLink s.dev w).nakSent = false ∧ (anxLink s.dev w).queue = [] ∧
      s.dev.vit.toMirror = []) ∧
    (∃ s : State, ∃ w : Wing, Runs s.dev ∧ (anxLink s.dev w).replay ≠ [] ∧ fget s.dev w ANX_LINK_STATUS_TRAINING = 0 ∧
      ((∀ e ∈ (anxLink s.dev w).replay, e.2 < 8)) ∧ (anxLink s.dev w).queue = [] ∧ s.dev.vit.toMirror = []) ∧
    (∃ s : State, ∃ w : Wing, Runs s.dev ∧ fget s.dev w ANX_LINK_STATUS_TRAINING = 0 ∧ ((∃ e ∈ (anxLink s.dev w).replay, 8 ≤ e.2)) ∧
      s.dev.vit.toMirror = []) ∧
    (∃ s : State, ∃ w : Wing, Runs s.dev ∧ anxUp s.dev w = true ∧ fget s.dev w ANX_LINK_STATUS_TRAINING = 1 ∧ s.dev.vit.toMirror = []) ∧
    (∃ s : State, ∃ w : Wing, ∃ delay : Nat, ∃ lanes : Nat, ∃ expected : Nat, Runs s.dev ∧ fget s.dev w ANX_CTRL_LINK_EN = 1 ∧
      delay < 2 ^ 16 ∧ (lanes = 16 ∨ (lanes = 8 ∧ fget s.dev w ANX_CTRL_HALF_WIDTH_OK = 1)) ∧ s.dev.vit.toMirror = []) :=
  ⟨⟨st (pr 3), .west, 0, 0, 10, [], by and_intros <;> decide +kernel⟩,
   ⟨st (pr 3), .west, 1, 1, 0, 0, 0, [], none, by and_intros <;> decide +kernel⟩,
   ⟨st (pv 3 (fun v => { v with linkE := { lk0 with txNext := 1, replay := [(0, 7)] } })), .east, by and_intros <;> decide +kernel⟩,
   ⟨st (pv 3 (fun v => { v with linkE := { lk0 with txNext := 1, replay := [(0, 8)] } })), .east, by and_intros <;> decide +kernel⟩,
   ⟨st (fset (pr 3) .east ANX_LINK_STATUS_TRAINING 1), .east, by and_intros <;> decide +kernel⟩,
   ⟨st (fset (pr 3) .west ANX_CTRL_LINK_EN 1), .west, 65535, 16, 0, by decide +kernel, by decide +kernel, by decide +kernel,
     by first | decide +kernel | rfl, by decide +kernel⟩⟩

theorem met_AnnexLinksRecover_2 :
    (∃ s : State, ∃ w : Wing, Runs s.dev ∧ fget s.dev w ANX_CTRL_LINK_EN = 1 ∧ anxUp s.dev w = false) ∧
    (∃ s : State, ∃ ini : Initiator, ∃ w : Wing, Runs s.dev ∧ Writable s.dev ini (pg .anx w) 0x040 ∧ fget s.dev w ANX_CTRL_LINK_EN = 1 ∧
      fget s.dev w ANX_LINK_STATUS_TRAINING = 0) ∧
    (∃ s : State, ∃ ini : Initiator, ∃ w : Wing, Runs s.dev ∧ Writable s.dev ini (pg .anx w) 0x040 ∧
      fget s.dev w ANX_LINK_STATUS_TRAINING = 1) ∧
    (∃ s : State, ∃ ini : Initiator, ∃ w : Wing, Runs s.dev ∧ Writable s.dev ini (pg .anx w) 0x040) ∧
    (∃ s : State, ∃ w : Wing, Runs s.dev ∧ anxUp s.dev w = true) :=
  ⟨⟨st (fset (fset (pr 3) .west ANX_CTRL_LINK_EN 1) .west ANX_LINK_STATUS_UP 0), .west, by and_intros <;> decide +kernel⟩,
   ⟨st (fset (pr 3) .west ANX_CTRL_LINK_EN 1), .docent, .west, by decide +kernel, wr_ok (by decide +kernel),
     by and_intros <;> decide +kernel⟩,
   ⟨st (fset (pr 3) .east ANX_LINK_STATUS_TRAINING 1), .docent, .east, by decide +kernel, wr_ok (by decide +kernel), by decide +kernel⟩,
   ⟨st (pr 3), .docent, .west, by decide +kernel, wr_ok (by decide +kernel)⟩,
   ⟨st (pr 3), .west, by and_intros <;> decide +kernel⟩⟩

theorem met_NamespaceCommandsAct :
    (∃ s : State, ∃ ini : Initiator, ∃ n : Namespace, Runs s.dev ∧ Writable s.dev ini (pg .cat .east) 0x070 ∧ s.dev.cat.busy = none ∧
      n = newNs (argNsid s.dev) (argAttr s.dev) (argSize s.dev) true ((argAttr s.dev).testBit 28) ∧
      ((∀ x ∈ nsOfColl s.dev n.coll, x.owned = true)) ∧ nsFits s.dev n.nsid n.coll n.home n.size = true) ∧
    (∃ s : State, ∃ ini : Initiator, ∃ n : Namespace, Runs s.dev ∧ Writable s.dev ini (pg .cat .east) 0x070 ∧ s.dev.cat.busy = none ∧
      nsGet? s.dev (argNsid s.dev) = some n ∧ n.owned = true ∧ n.readOnly = false) ∧
    (∃ s : State, ∃ ini : Initiator, ∃ n : Namespace, Runs s.dev ∧ Writable s.dev ini (pg .cat .east) 0x070 ∧ s.dev.cat.busy = none ∧
      nsGet? s.dev (argNsid s.dev) = some n ∧ n.owned = true ∧ 1 ≤ argSize s.dev ∧ argSize s.dev ≤ 2 ^ 41) ∧
    (∃ s : State, ∃ ini : Initiator, ∃ n : Namespace, ∃ e : Edition, Runs s.dev ∧ Writable s.dev ini (pg .cat .east) 0x070 ∧
      s.dev.cat.busy = none ∧ selectedNs s.dev = some n ∧ n.owned = true ∧ editionOf n (argEdition s.dev) = some e ∧ e.exposedAs = none ∧
      nsFits s.dev (argNsid s.dev) n.coll n.home n.size = true) ∧
    (∃ s : State, ∃ ini : Initiator, ∃ n : Namespace, ∃ e : Edition, ∃ x : Nat, Runs s.dev ∧ Writable s.dev ini (pg .cat .east) 0x070 ∧
      s.dev.cat.busy = none ∧ selectedNs s.dev = some n ∧ n.owned = true ∧ editionOf n (argEdition s.dev) = some e ∧ e.exposedAs = some x) ∧
    (∃ s : State, ∃ ini : Initiator, ∃ n : Namespace, ∃ c, Runs s.dev ∧ Writable s.dev ini (pg .cat .east) 0x070 ∧ s.dev.cat.busy = none ∧
      nsGet? s.dev (argNsid s.dev) = some n ∧ n.owned = false ∧
      c ∈ [Instr.nsDelete ini .east, .nsResize ini .east, .nsFreeze ini .east, .editionDelete ini .east]) :=
  ⟨⟨st (ct ns1 2 0x10000000 500 0), .docent, newNs 2 0x10000000 500 true true, by decide +kernel, wr_ok (by decide +kernel),
     by decide +kernel, by first | decide +kernel | rfl, by and_intros <;> decide +kernel⟩,
   ⟨st (ct ns1 1 0 0 0), .docent, ns1, by decide +kernel, wr_ok (by decide +kernel), by and_intros <;> decide +kernel⟩,
   ⟨st (ct ns1 1 0 1 0), .docent, ns1, by decide +kernel, wr_ok (by decide +kernel), by and_intros <;> decide +kernel⟩,
   ⟨st (ct (nse ed1) 4 0 0 3), .docent, nse ed1, ed1, by decide +kernel, wr_ok (by decide +kernel), by and_intros <;> decide +kernel⟩,
   ⟨st (ct (nse { ed1 with exposedAs := some 4 }) 4 0 0 3), .docent, nse { ed1 with exposedAs := some 4 },
     { ed1 with exposedAs := some 4 }, 4, by decide +kernel, wr_ok (by decide +kernel), by and_intros <;> decide +kernel⟩,
   ⟨st (ct { ns1 with owned := false } 1 0 5 9), .docent, { ns1 with owned := false }, Instr.nsFreeze .docent .east, by decide +kernel,
     wr_ok (by decide +kernel), by decide +kernel, by decide +kernel, by decide +kernel, by simp⟩⟩

theorem met_EditionsAndCheckpoints_1 :
    (∃ s : State, ∃ ini : Initiator, ∃ n : Namespace, Runs s.dev ∧ Writable s.dev ini (pg .cat .east) 0x070 ∧ s.dev.cat.busy = none ∧
      nsGet? s.dev (argNsid s.dev) = some n ∧ n.owned = true ∧ n.lastEdition < argEdition s.dev ∧ n.editions.length < 16384 ∧
      pairEditions s.dev < 1048576) ∧
    (∃ s : State, ∃ ini : Initiator, ∃ n : Namespace, ∃ e : Edition, Runs s.dev ∧ Writable s.dev ini (pg .cat .east) 0x070 ∧
      s.dev.cat.busy = none ∧ nsGet? s.dev (argNsid s.dev) = some n ∧ n.owned = true ∧ editionOf n (argEdition s.dev) = some e ∧
      e.exposedAs = none ∧ s.dev.cat.heldEditions.contains (n.coll, e.number) = false) ∧
    (∃ s : State, ∃ ini : Initiator, ∃ w : Wing, Runs s.dev ∧ Writable s.dev ini (pg .cat w) 0x040 ∧
      fget s.dev .east CAT_CKPT_STATUS_IN_PROGRESS = 0) ∧
    (∃ s : State, Runs s.dev ∧ fget s.dev .east CAT_CKPT_STATUS_IN_PROGRESS = 0 ∧
      1000 * fget s.dev .east CAT_CKPT_INTERVAL ≤ s.dev.cat.frames) ∧
    (∃ s : State, ∃ loc : Nat, ∃ ms : Nat, Runs s.dev ∧ fget s.dev .east CAT_CKPT_STATUS_IN_PROGRESS = 1) ∧
    (∃ s : State, ∃ nsid : Nat, ∃ leaf : Nat, ∃ rebuilt : Bool, Runs s.dev) :=
  ⟨⟨st (ct (nse ed1) 1 0 0 4), .docent, nse ed1, by decide +kernel, wr_ok (by decide +kernel), by and_intros <;> decide +kernel⟩,
   ⟨st (ct (nse ed1) 1 0 0 3), .docent, nse ed1, ed1, by decide +kernel, wr_ok (by decide +kernel), by and_intros <;> decide +kernel⟩,
   ⟨st (ct ns1 1 0 0 0), .docent, .west, by decide +kernel, wr_ok (by decide +kernel), by decide +kernel⟩,
   ⟨st { ct ns1 1 0 0 0 with cat := { z.cat with frames := 4000000 } }, by and_intros <;> decide +kernel⟩,
   ⟨st (fset (ct ns1 1 0 0 0) .east CAT_CKPT_STATUS_IN_PROGRESS 1), 0x123400, 17, by and_intros <;> decide +kernel⟩,
   ⟨st (ct ns1 1 0 0 0), 1, 2, false, by decide +kernel⟩⟩

theorem met_EditionsAndCheckpoints_2 :
    (∃ s : State, ∃ nsid : Nat, ∃ leaf : Nat, Runs s.dev) ∧
    (∃ s : State, ∃ nsid : Nat, ∃ leaf : Nat, Runs s.dev) :=
  ⟨⟨st (ct ns1 1 0 0 0), 1, 2, by decide +kernel⟩,
   ⟨st (ct ns1 1 0 0 0), 1, 2, by decide +kernel⟩⟩

theorem met_WaysAndAccession_1 :
    (∃ s : State, ∃ ini : Initiator, ∃ w : Wing, ∃ v : Word, Runs s.dev ∧ Writable s.dev ini (pg .cch w) 0x040 ∧ bitsOf v 15 0 ≠ 0 ∧
      bitsOf v 15 0 &&& fget s.dev w CCH_FENCED_WAYS = 0) ∧
    (∃ s : State, ∃ w : Wing, ∃ k : Nat, ∃ micros : Nat, Runs s.dev ∧ k < 16 ∧ (fget s.dev w CCH_WAY_STATE_CLEANING).testBit k = true ∧
      (fget s.dev w CCH_WAY_EN_WAYS).testBit k = false) ∧
    (∃ s : State, ∃ w : Wing, ∃ k : Nat, ∃ errors : Nat, Runs s.dev ∧ k < 16 ∧ (fget s.dev w CCH_FENCED_WAYS).testBit k = false ∧
      fget s.dev w CCH_ECC_THRESH_COUNT < errors) ∧
    (∃ s : State, ∃ w : Wing, ∃ set : Nat, ∃ way : Nat, ∃ l : CacheLine, Runs s.dev ∧
      tabGet? s.dev.cat.lines (lineKey w set way) = some l ∧ l.dirty = true) ∧
    (∃ s : State, ∃ w : Wing, ∃ set : Nat, ∃ way : Nat, Runs s.dev ∧
      ((∀ l, tabGet? s.dev.cat.lines (lineKey w set way) = some l → l.dirty = false))) ∧
    (∃ s : State, ∃ w : Wing, ∃ l : List Slot, ∃ n : Nat, Runs s.dev ∧ accessionWaits s.dev w = false ∧
      l = s.dev.vit.slots.filter (accessible s.dev w) ∧ n = frameBudget s.dev 16 (fget s.dev w RGS_BUDGET_GRANULES) - accUsed s.dev w ∧
      n < l.length) :=
  ⟨⟨st (fset rh .west CCH_FENCED_WAYS 0x8000), .docent, .west, 0x00000001, by decide +kernel, wr_ok (by decide +kernel),
     by and_intros <;> decide +kernel⟩,
   ⟨st (fset (fset rh .west CCH_WAY_EN_WAYS 0x7FFF) .west CCH_WAY_STATE_CLEANING 0x8000), .west, 15, 9, by and_intros <;> decide +kernel⟩,
   ⟨st (fset rh .east CCH_ECC_THRESH_COUNT 4), .east, 15, 5, by and_intros <;> decide +kernel⟩,
   ⟨st { rh with cat := { z.cat with lines := [(lineKey .east 9 15, ⟨9, true⟩)] } }, .east, 9, 15, ⟨9, true⟩,
     by and_intros <;> decide +kernel⟩,
   ⟨st { rh with cat := { z.cat with lines := [(lineKey .east 9 15, ⟨9, false⟩)] } }, .east, 9, 15, by decide +kernel,
     (by intro l hl; have e : some l = some ⟨9, false⟩ := (by rw [← hl]; decide +kernel); cases e; rfl)⟩,
   ⟨st { fset rh .east RGS_BUDGET_GRANULES 0 with cat := { z.cat with nss := [(1, ns1)] }, eng := { z.eng with fpStates := [0] }, vit := { z.vit with slots := [{ sl with committed := true }] }, cur := { z.cur with members := [0], blocks := [(0, ⟨0, 0, 0, 0, 0, false⟩), (2 ^ 13, ⟨0, 0, 0, 0, 0, false⟩)] } },
     .east, [{ sl with committed := true }], 0, by decide +kernel, by decide +kernel, by first | decide +kernel | rfl,
     by first | decide +kernel | rfl, by decide +kernel⟩⟩

theorem met_WaysAndAccession_2 :
    (∃ s : State, ∃ w : Wing, ∃ seq : Nat, ∃ fp : Nat, ∃ v : Slot, ∃ e : IndexEntry, ∃ same : Bool, Runs s.dev ∧
      s.dev.cat.comparing.find? (fun c => c.1 == w && c.2.1 == seq) = some (w, seq, fp) ∧ slotOf s.dev w seq = some v ∧
      (indexOf s.dev v.label.coll).find? (fun e => e.fp == fp && usable e) = some e) ∧
    (∃ s : State, ∃ ini : Initiator, ∃ w : Wing, Runs s.dev ∧ Writable s.dev ini (pg .rgs w) 0x040) ∧
    (∃ s : State, Runs s.dev ∧ s.dev.cat.replaying = true) :=
  ⟨⟨st { rh with cat := { z.cat with nss := [(1, ns1)], comparing := [(.east, 1, 0x99)], index := [(0, [⟨0x99, 0x100, 1, false, false, false, 0, false, false⟩])] }, vit := { z.vit with slots := [{ sl with committed := true }] } },
     .east, 1, 0x99, { sl with committed := true }, ⟨0x99, 0x100, 1, false, false, false, 0, false, false⟩, true,
     by and_intros <;> decide +kernel⟩,
   ⟨st rh, .docent, .west, by decide +kernel, wr_ok (by decide +kernel)⟩,
   ⟨st { rh with cat := { z.cat with replaying := true } }, by and_intros <;> decide +kernel⟩⟩

theorem met_UnitsFailAndOperationsComplete_1 :
    (∃ s : State, ∃ cls : Block, ∃ w : Wing, ∃ u : Nat, ∃ cause : Nat, Runs s.dev ∧ isUnitClass cls = true ∧ u < totalUnits cls ∧
      cause < 16 ∧ fget s.dev w (unitState cls) u ≠ 3) ∧
    (∃ s : State, ∃ ini : Initiator, ∃ cls : Block, ∃ w : Wing, ∃ u : Nat, Runs s.dev ∧ isUnitClass cls = true ∧
      Writable s.dev ini (pg cls w) 0x050 ∧ u = selectedUnit s.dev cls w ∧ fget s.dev w (unitState cls) u ≠ 3 ∧ unitsIn s.dev cls w 0 ≠ [u]) ∧
    (∃ s : State, ∃ ini : Initiator, ∃ cls : Block, ∃ w : Wing, ∃ u : Nat, Runs s.dev ∧ isUnitClass cls = true ∧
      Writable s.dev ini (pg cls w) 0x050 ∧ u = selectedUnit s.dev cls w ∧ fget s.dev w (unitState cls) u = 4) ∧
    (∃ s : State, ∃ cls : Block, ∃ w : Wing, ∃ u : Nat, Runs s.dev ∧ isUnitClass cls = true ∧ fget s.dev w (unitState cls) u = 5 ∧
      unitBusy s.dev cls w u = false ∧ fget s.dev w (unitCause cls) u = 5) ∧
    (∃ s : State, ∃ cls : Block, ∃ w : Wing, ∃ u : Nat, Runs s.dev ∧ isUnitClass cls = true ∧ fget s.dev w (unitState cls) u = 5 ∧
      unitBusy s.dev cls w u = false ∧ fget s.dev w (unitCause cls) u ≠ 5) ∧
    (∃ s : State, ∃ w : Wing, ∃ stream : Nat, ∃ c : CaseStream, Runs s.dev ∧ openCase s.dev w stream = some c ∧
      fget s.dev w CDC_STREAM_FLUSH_FRAMES ≤ c.age ∧ unitsIn s.dev .cdc w 0 ≠ []) :=
  ⟨⟨st eh, .cph, .west, 55, 15, by and_intros <;> decide +kernel⟩,
   ⟨st eh, .docent, .cph, .west, 0, by decide +kernel, by decide +kernel, wr_ok (by decide +kernel), by first | decide +kernel | rfl,
     by and_intros <;> decide +kernel⟩,
   ⟨st (fset eh .west CPH_UNIT_STATE_STATE 4 0), .docent, .cph, .west, 0, by decide +kernel, by decide +kernel,
     wr_ok (by decide +kernel), by first | decide +kernel | rfl, by decide +kernel⟩,
   ⟨st (fset (fset (fset eh .west CPH_CTRL_SPARE_AUTO 0) .west CPH_UNIT_STATE_STATE 5 47) .west (unitCause .cph) 5 47), .cph, .west, 47,
     by and_intros <;> decide +kernel⟩,
   ⟨st (fset (fset eh .west CPH_UNIT_STATE_STATE 5 47) .west (unitCause .cph) 2 47), .cph, .west, 47, by and_intros <;> decide +kernel⟩,
   ⟨st (ee (fun e => { e with cases := [⟨.east, 511, 0, 0, false, [ap], 200000, false, none⟩] })), .east, 511,
     ⟨.east, 511, 0, 0, false, [ap], 200000, false, none⟩, by and_intros <;> decide +kernel⟩⟩

theorem met_UnitsFailAndOperationsComplete_2 :
    (∃ s : State, ∃ w : Wing, ∃ stream : Nat, ∃ c : CaseStream, Runs s.dev ∧ openCase s.dev w stream = some c ∧
      fget s.dev w CDC_STREAM_FLUSH_FRAMES ≤ c.age ∧ unitsIn s.dev .cdc w 0 = []) ∧
    (∃ s : State, ∃ cls : Block, ∃ w : Wing, ∃ tag : Nat, ∃ k : Nat, ∃ i : Nat, ∃ o : EngOp, Runs s.dev ∧ cls ≠ .dma ∧
      (indicesOf s.dev.eng.ops (fun o => o.cls == cls && o.wing == w && o.tag == tag && o.ready && !o.held))[k]? = some i ∧
      s.dev.eng.ops[i]? = some o ∧ o.quiet = false ∧ o.poison = [] ∧ cqRoom s.dev w o.cq = true) ∧
    (∃ s : State, ∃ cls : Block, ∃ w : Wing, ∃ tag : Nat, ∃ k : Nat, ∃ i : Nat, ∃ o : EngOp, Runs s.dev ∧ cls ≠ .dma ∧
      (indicesOf s.dev.eng.ops (fun o => o.cls == cls && o.wing == w && o.tag == tag && o.ready && !o.held))[k]? = some i ∧
      s.dev.eng.ops[i]? = some o ∧ o.quiet = false ∧ o.poison = [] ∧ fget s.dev w CPU_CQ_CFG_ENABLE o.cq = 1 ∧
      cqRoom s.dev w o.cq = false ∧ ((∀ x ∈ s.dev.eng.ops, x.held = true → x.wing = w → x.cq ≠ o.cq))) :=
  ⟨⟨st ((List.range 64).foldl (fun h u => fset h .east CDC_UNIT_STATE_STATE 4 u) (ee (fun e => { e with cases := [⟨.east, 511, 0, 0, false, [ap], 200000, false, none⟩] }))),
     .east, 511, ⟨.east, 511, 0, 0, false, [ap], 200000, false, none⟩, by and_intros <;> decide +kernel⟩,
   ⟨st (fset (fset (ee (fun e => { e with ops := [eo .dge] })) .east CPU_CQ_CFG_ENABLE 1 3) .east CPU_CQ_CFG_LOG2_SIZE 4 3), .dge, .east,
     9, 0, 0, eo .dge, by and_intros <;> decide +kernel⟩,
   ⟨st (fset (fset (fset (ee (fun e => { e with ops := [eo .dge] })) .east CPU_CQ_CFG_ENABLE 1 3) .east CPU_CQ_CFG_LOG2_SIZE 0 3) .east CPU_CQ_PTR_TAIL 1 3),
     .dge, .east, 9, 0, 0, eo .dge, by and_intros <;> decide +kernel⟩⟩

theorem met_DigestLanesCompute_1 :
    (∃ s : State, ∃ w : Wing, ∃ src : Source, ∃ t : Taken, ∃ h' : Head, ∃ data : Nat, Runs s.dev ∧ Starts s.dev w .dge src 1 t h' ∧
      chainOf h' .dge w t.ring = none ∧ dFlag t.d 5 = false ∧ dFlag t.d 6 = false ∧ dgLen t.d ≤ 2 ^ 24 ∧
      engineRead h' (dgSrc t.d) (dgLen t.d) = .ok data ∧ rangeAll (dgDst t.d) (digestLen (dFlag t.d 4)) (engineReach h') = true ∧
      unitsIn h' .dge w 0 ≠ []) ∧
    (∃ s : State, ∃ w : Wing, ∃ src : Source, ∃ t : Taken, ∃ h' : Head, ∃ data : Nat, Runs s.dev ∧ Starts s.dev w .dge src 1 t h' ∧
      chainOf h' .dge w t.ring = none ∧ dFlag t.d 5 = false ∧ dFlag t.d 6 = true ∧ measureOk h' t (dgMsr t.d) = true ∧ dgLen t.d ≤ 2 ^ 24 ∧
      engineRead h' (dgSrc t.d) (dgLen t.d) = .ok data ∧ rangeAll (dgDst t.d) (digestLen (dFlag t.d 4)) (engineReach h') = true ∧
      unitsIn h' .dge w 0 ≠ []) ∧
    (∃ s : State, ∃ w : Wing, ∃ src : Source, ∃ t : Taken, ∃ h' : Head, ∃ data : Nat, ∃ id : Nat, Runs s.dev ∧
      Starts s.dev w .dge src 2 t h' ∧ checkKey h' .dge w t (dgKey t.d) 4 = .ok id ∧
      ¬ (keyUsage h' id = 1 ∧ tabHas h'.bindings (slotColl h' id) = true ∧ h'.eng.fpStates.contains (slotColl h' id) = false) ∧
      chainOf h' .dge w t.ring = none ∧ dFlag t.d 5 = false ∧ dgLen t.d ≤ 2 ^ 24 ∧ engineRead h' (dgSrc t.d) (dgLen t.d) = .ok data ∧
      rangeAll (dgDst t.d) (digestLen (dFlag t.d 4)) (engineReach h') = true ∧ unitsIn h' .dge w 0 ≠ []) ∧
    (∃ s : State, ∃ w : Wing, ∃ src : Source, ∃ t : Taken, ∃ h' : Head, ∃ a : Nat, ∃ b : Nat, Runs s.dev ∧
      Starts s.dev w .dge src 3 t h' ∧ chainOf h' .dge w t.ring = none ∧ 1 ≤ dgLen t.d ∧ dgLen t.d ≤ 2 ^ 24 ∧
      engineRead h' (dgSrc t.d) (dgLen t.d) = .ok a ∧ engineRead h' (dgDst t.d) (dgLen t.d) = .ok b ∧ unitsIn h' .dge w 0 ≠ []) ∧
    (∃ s : State, ∃ w : Wing, ∃ src : Source, ∃ t : Taken, ∃ h' : Head, ∃ data : Nat, ∃ exp : Nat, ∃ id : Nat, Runs s.dev ∧
      Starts s.dev w .dge src 4 t h' ∧ checkKey h' .dge w t (dgKey t.d) 4 = .ok id ∧ keyUsage h' id ≠ 1 ∧ chainOf h' .dge w t.ring = none ∧
      dFlag t.d 5 = false ∧ dgLen t.d ≤ 2 ^ 24 ∧ engineRead h' (dgSrc t.d) (dgLen t.d) = .ok data ∧
      engineRead h' (dgDst t.d) (digestLen (dFlag t.d 4)) = .ok exp ∧ unitsIn h' .dge w 0 ≠ []) ∧
    (∃ s : State, ∃ w : Wing, ∃ src : Source, ∃ t : Taken, ∃ h' : Head, ∃ c : Chain, Runs s.dev ∧ Starts s.dev w .dge src 5 t h' ∧
      chainOf h' .dge w t.ring = some c ∧ c.broken = false ∧ c.coll = dColl t.d ∧ c.key = none ∧ dCflag t.d 15 = false ∧
      rangeAll (dgState t.d) 96 (engineReach h') = true) :=
  ⟨⟨st eh, .east, .internal (ds [(0, 1), (4, 9), (8, hb), (16, 64), (24, hb + 0x2000)]),
     tk (ds [(0, 1), (4, 9), (8, hb), (16, 64), (24, hb + 0x2000)]), eh, 0,
     by refine ⟨?_, by constructor <;> decide +kernel, ?_, ?_, ?_, ?_, ok_of (by decide +kernel), ?_, ?_⟩ <;> decide +kernel⟩,
   ⟨st (fset eh .east MSR_ARMED_ARMED 0x2000), .east,
     .docent (ds [(0, 1), (1, 0x40), (4, 9), (8, hb), (16, 0), (22, 23), (24, hb + 0x2000)]),
     tkd (ds [(0, 1), (1, 0x40), (4, 9), (8, hb), (16, 0), (22, 23), (24, hb + 0x2000)]), fset eh .east MSR_ARMED_ARMED 0x2000, 0,
     by refine ⟨?_, by constructor <;> decide +kernel, ?_, ?_, ?_, ?_, ?_, ok_of (by decide +kernel), ?_, ?_⟩ <;> decide +kernel⟩,
   ⟨st eh, .east, .internal (ds [(0, 2), (4, 9), (8, hb), (16, 64), (20, 4), (24, hb + 0x2000)]),
     tk (ds [(0, 2), (4, 9), (8, hb), (16, 64), (20, 4), (24, hb + 0x2000)]), eh, 0, 4,
     by refine ⟨?_, by constructor <;> decide +kernel, ok_of (by decide +kernel), ?_, ?_, ?_, ?_, ok_of (by decide +kernel), ?_, ?_⟩ <;> decide +kernel⟩,
   ⟨st eh, .west, .internal (ds [(0, 3), (4, 9), (8, hb), (16, 1), (24, hb + 0x2000)]),
     tk (ds [(0, 3), (4, 9), (8, hb), (16, 1), (24, hb + 0x2000)]), eh, 0, 0, by decide +kernel, by constructor <;> decide +kernel,
     by decide +kernel, by decide +kernel, by decide +kernel, ok_of (by decide +kernel), ok_of (by decide +kernel), by decide +kernel⟩,
   ⟨st eh, .east, .internal (ds [(0, 4), (4, 9), (8, hb), (16, 64), (20, 4), (24, hb + 0x2000)]),
     tk (ds [(0, 4), (4, 9), (8, hb), (16, 64), (20, 4), (24, hb + 0x2000)]), eh, 0, 0, 4,
     by refine ⟨?_, by constructor <;> decide +kernel, ok_of (by decide +kernel), ?_, ?_, ?_, ?_, ok_of (by decide +kernel), ok_of (by decide +kernel), ?_⟩ <;> decide +kernel⟩,
   ⟨st (ee (fun e => { e with chains := [chn .dge] })), .east, .internal (ds [(0, 5), (4, 9), (32, hb)]),
     tk (ds [(0, 5), (4, 9), (32, hb)]), ee (fun e => { e with chains := [chn .dge] }), chn .dge, by decide +kernel,
     by constructor <;> decide +kernel, by and_intros <;> decide +kernel⟩⟩

theorem met_DigestLanesCompute_2 :
    (∃ s : State, ∃ w : Wing, ∃ src : Source, ∃ t : Taken, ∃ h' : Head, ∃ rec : Nat, Runs s.dev ∧ Starts s.dev w .dge src 6 t h' ∧
      dCflag t.d 15 = false ∧ privateOk t = true ∧ chainOf h' .dge w t.ring = none ∧ engineRead h' (dgState t.d) 104 = .ok rec ∧
      keyState h' (ctxWrapSlot w) = 2 ∧ unitsIn h' .dge w 0 ≠ []) ∧
    (∃ s : State, ∃ w : Wing, ∃ src : Source, ∃ t : Taken, ∃ h' : Head, ∃ data : Nat, ∃ id : Nat, ∃ slot : Nat, Runs s.dev ∧
      Starts s.dev w .dge src 8 t h' ∧ (t.internal = true ∨ t.docent = true) ∧ chainOf h' .dge w t.ring = none ∧
      checkKey h' .dge w t (dgKey t.d) 4 = .ok id ∧ keyUsage h' id ≠ 1 ∧ engineRead h' (dgSrc t.d) (dgLen t.d) = .ok data ∧
      slot = dgDst t.d % 8192 ∧ keyState h' slot = 0 ∧ keyKind h' slot ≠ 0 ∧ unitsIn h' .dge w 0 ≠ []) :=
  ⟨⟨st eh, .east, .internal (ds [(0, 6), (4, 9), (32, hb)]), tk (ds [(0, 6), (4, 9), (32, hb)]), eh, 0, by decide +kernel,
     by constructor <;> decide +kernel, by decide +kernel, by decide +kernel, by decide +kernel, ok_of (by decide +kernel),
     by and_intros <;> decide +kernel⟩,
   ⟨st (fset eh .east KEY_SLOT_ATTR_KIND 1 77), .east, .internal (ds [(0, 8), (4, 9), (8, hb), (16, 32), (20, 4), (24, 77)]),
     tk (ds [(0, 8), (4, 9), (8, hb), (16, 32), (20, 4), (24, 77)]), fset eh .east KEY_SLOT_ATTR_KIND 1 77, 0, 4, 77, by decide +kernel,
     by constructor <;> decide +kernel, by decide +kernel, by decide +kernel, ok_of (by decide +kernel), by decide +kernel,
     ok_of (by decide +kernel), by first | decide +kernel | rfl, by and_intros <;> decide +kernel⟩⟩

theorem met_CodecTilesCompute :
    (∃ s : State, ∃ w : Wing, ∃ src : Source, ∃ t : Taken, ∃ h' : Head, ∃ a : Appended, ∃ data : Nat, Runs s.dev ∧
      Starts s.dev w .cdc src 1 t h' ∧ engineRead h' (dBits t.d 8 48) 4096 = .ok data ∧
      rangeAll (dBits t.d 16 48) 32768 (engineReach h') = true ∧ dBits t.d 8 48 % 64 = 0 ∧ dBits t.d 16 48 % 512 = 0 ∧
      dBits t.d 1 8 / 16 % 4 ≠ 3 ∧ (labelOf (dBits t.d 28 256)).coll = dColl t.d ∧
      a = ⟨some (dTag t.d), dBits t.d 8 48, labelOf (dBits t.d 28 256), w, 0, 0, 0, 0⟩ ∧ openCase h' w (dBits t.d 24 9) = none) ∧
    (∃ s : State, ∃ w : Wing, ∃ src : Source, ∃ t : Taken, ∃ h' : Head, ∃ a : Appended, ∃ c : CaseStream, ∃ data : Nat, Runs s.dev ∧
      Starts s.dev w .cdc src 1 t h' ∧ engineRead h' (dBits t.d 8 48) 4096 = .ok data ∧
      rangeAll (dBits t.d 16 48) 32768 (engineReach h') = true ∧ dBits t.d 8 48 % 64 = 0 ∧ dBits t.d 16 48 % 512 = 0 ∧
      dBits t.d 1 8 / 16 % 4 ≠ 3 ∧ (labelOf (dBits t.d 28 256)).coll = dColl t.d ∧
      a = ⟨some (dTag t.d), dBits t.d 8 48, labelOf (dBits t.d 28 256), w, 0, 0, 0, 0⟩ ∧ openCase h' w (dBits t.d 24 9) = some c ∧
      c.coll = dColl t.d ∧ c.items.length < 7) ∧
    (∃ s : State, ∃ w : Wing, ∃ src : Source, ∃ t : Taken, ∃ h' : Head, Runs s.dev ∧ Starts s.dev w .cdc src 2 t h' ∧
      unitsIn h' .cdc w 0 ≠ []) ∧
    (∃ s : State, ∃ w : Wing, ∃ src : Source, ∃ t : Taken, ∃ h' : Head, ∃ data : Nat, ∃ n : Nat, ∃ v : Nat, ∃ st : Status, Runs s.dev ∧
      Starts s.dev w .cdc src 3 t h' ∧ n = (if dFlag t.d 6 then 4096 else dBits t.d 36 32) ∧ engineRead h' (dBits t.d 8 48) n = .ok data ∧
      rangeAll (dBits t.d 16 48) 4096 (engineReach h') = true ∧
      (if dFlag t.d 6 then v = data ∧ st = (if Config.guard64 4096 data % 2 ^ 64 = dBits t.d 28 64 then .done else .checkFail) else expandCase (dColl t.d) (dBits t.d 24 3) (dBits t.d 28 64) n data = (st, false, some v)) ∧
      unitsIn h' .cdc w 0 ≠ []) ∧
    (∃ s : State, ∃ w : Wing, ∃ src : Source, ∃ t : Taken, ∃ h' : Head, ∃ data : Nat, Runs s.dev ∧ Starts s.dev w .cdc src 4 t h' ∧
      1 ≤ dBits t.d 24 32 ∧ dBits t.d 24 32 ≤ 2 ^ 20 ∧ dBits t.d 1 8 / 16 % 4 ≠ 3 ∧
      engineRead h' (dBits t.d 8 48) (dBits t.d 24 32) = .ok data ∧ rangeAll (dBits t.d 16 48) (dBits t.d 28 32) (engineReach h') = true ∧
      unitsIn h' .cdc w 0 ≠ []) ∧
    (∃ s : State, ∃ w : Wing, ∃ src : Source, ∃ t : Taken, ∃ h' : Head, ∃ data : Nat, Runs s.dev ∧ Starts s.dev w .cdc src 5 t h' ∧
      1 ≤ dBits t.d 24 32 ∧ dBits t.d 24 32 ≤ 2 ^ 20 ∧ engineRead h' (dBits t.d 8 48) (dBits t.d 24 32) = .ok data ∧
      rangeAll (dBits t.d 16 48) (dBits t.d 28 32) (engineReach h') = true ∧ unitsIn h' .cdc w 0 ≠ []) :=
  ⟨⟨st eh, .east, .internal (ds [(0, 1), (4, 9), (8, hb), (16, hb + 0x2000), (24, 511)]),
     tk (ds [(0, 1), (4, 9), (8, hb), (16, hb + 0x2000), (24, 511)]), eh,
     ⟨some 9, hb, ⟨0, 0, 0, false, false, 0, 0, 0, 0, 0, 0⟩, .east, 0, 0, 0, 0⟩, 0, by decide +kernel, by constructor <;> decide +kernel,
     ok_of (by decide +kernel), by and_intros <;> decide +kernel⟩,
   ⟨st (ee (fun e => { e with cases := [⟨.east, 511, 0, 0, false, [ap, ap, ap, ap, ap, ap], 0, false, none⟩] })), .east,
     .internal (ds [(0, 1), (4, 8), (8, hb), (16, hb + 0x2000), (24, 511)]),
     tk (ds [(0, 1), (4, 8), (8, hb), (16, hb + 0x2000), (24, 511)]),
     ee (fun e => { e with cases := [⟨.east, 511, 0, 0, false, [ap, ap, ap, ap, ap, ap], 0, false, none⟩] }),
     ⟨some 8, hb, ⟨0, 0, 0, false, false, 0, 0, 0, 0, 0, 0⟩, .east, 0, 0, 0, 0⟩,
     ⟨.east, 511, 0, 0, false, [ap, ap, ap, ap, ap, ap], 0, false, none⟩, 0, by decide +kernel, by constructor <;> decide +kernel,
     ok_of (by decide +kernel), by and_intros <;> decide +kernel⟩,
   ⟨st (ee (fun e => { e with cases := [⟨.east, 511, 0, 0, false, [ap], 0, false, none⟩] })), .east,
     .internal (ds [(0, 2), (4, 8), (24, 511)]), tk (ds [(0, 2), (4, 8), (24, 511)]),
     ee (fun e => { e with cases := [⟨.east, 511, 0, 0, false, [ap], 0, false, none⟩] }), by decide +kernel,
     by constructor <;> decide +kernel, by decide +kernel⟩,
   ⟨st eh, .east, .internal (ds [(0, 3), (1, 0x40), (4, 8), (8, hb), (16, hb + 0x2000)]),
     tk (ds [(0, 3), (1, 0x40), (4, 8), (8, hb), (16, hb + 0x2000)]), eh, 0, 4096, 0,
     if Config.guard64 4096 0 % 2 ^ 64 = 0 then .done else .checkFail, by decide +kernel, by constructor <;> decide +kernel,
     by decide +kernel, ok_of (by decide +kernel), by decide +kernel, (by rw [if_pos (by decide +kernel)]; exact ⟨rfl, rfl⟩),
     by decide +kernel⟩,
   ⟨st eh, .east, .internal (ds [(0, 4), (4, 8), (8, hb), (16, hb + 0x2000), (24, 100), (28, 64)]),
     tk (ds [(0, 4), (4, 8), (8, hb), (16, hb + 0x2000), (24, 100), (28, 64)]), eh, 0, by decide +kernel,
     by constructor <;> decide +kernel, by decide +kernel, by decide +kernel, by decide +kernel, ok_of (by decide +kernel),
     by and_intros <;> decide +kernel⟩,
   ⟨st eh, .east, .internal (ds [(0, 5), (4, 8), (8, hb), (16, hb + 0x2000), (24, 1), (28, 64)]),
     tk (ds [(0, 5), (4, 8), (8, hb), (16, hb + 0x2000), (24, 1), (28, 64)]), eh, 0, by decide +kernel, by constructor <;> decide +kernel,
     by decide +kernel, by decide +kernel, ok_of (by decide +kernel), by and_intros <;> decide +kernel⟩⟩

theorem met_CipherTilesCompute_1 :
    (∃ s : State, ∃ w : Wing, ∃ src : Source, ∃ t : Taken, ∃ h' : Head, ∃ enc : Bool, ∃ data : Nat, ∃ id : Nat, Runs s.dev ∧
      Starts s.dev w .cph src (if enc then 1 else 2) t h' ∧ chainOf h' .cph w t.ring = none ∧ checkKey h' .cph w t (cpKey t.d) 1 = .ok id ∧
      (if dFlag t.d 4 then 16 ≤ cpLen t.d ∧ cpLen t.d ≤ 2 ^ 24 else mediaOk (dBits t.d 32 64) (cpLen t.d) = true) ∧
      engineRead h' (cpSrc t.d) (cpLen t.d) = .ok data ∧ rangeAll (cpDst t.d) (cpLen t.d) (engineReach h') = true ∧ unitsIn h' .cph w 0 ≠ []) ∧
    (∃ s : State, ∃ w : Wing, ∃ src : Source, ∃ t : Taken, ∃ h' : Head, ∃ data : Nat, ∃ id : Nat, Runs s.dev ∧
      Starts s.dev w .cph src 3 t h' ∧ chainOf h' .cph w t.ring = none ∧ checkKey h' .cph w t (cpKey t.d) 1 = .ok id ∧
      mediaOk (dBits t.d 32 64) (cpLen t.d) = true ∧ mediaOk (dBits t.d 40 64) (cpLen t.d) = true ∧
      engineRead h' (cpSrc t.d) (cpLen t.d) = .ok data ∧ rangeAll (cpDst t.d) (cpLen t.d) (engineReach h') = true ∧ unitsIn h' .cph w 0 ≠ []) ∧
    (∃ s : State, ∃ w : Wing, ∃ src : Source, ∃ t : Taken, ∃ h' : Head, ∃ data : Nat, ∃ aad : Nat, ∃ id : Nat, Runs s.dev ∧
      Starts s.dev w .cph src 4 t h' ∧ checkKey h' .cph w t (cpKey t.d) 2 = .ok id ∧ chainOf h' .cph w t.ring = none ∧
      tabGet h'.eng.gcmCount 0 id < 2 ^ 48 ∧ cpAuxLen t.d ≤ 65536 ∧ dFlag t.d 6 = false ∧
      engineRead h' (cpSrc t.d) (cpLen t.d) = .ok data ∧ engineRead h' (cpAux t.d) (cpAuxLen t.d) = .ok aad ∧
      rangeAll (cpDst t.d) (cpLen t.d + 28) (engineReach h') = true ∧ unitsIn h' .cph w 0 ≠ []) ∧
    (∃ s : State, ∃ w : Wing, ∃ src : Source, ∃ t : Taken, ∃ h' : Head, ∃ m : Nat, ∃ aad : Nat, ∃ id : Nat, Runs s.dev ∧
      Starts s.dev w .cph src 5 t h' ∧ cpLen t.d ≤ 16384 ∧ dFlag t.d 6 = false ∧ cpAuxLen t.d ≤ 65536 ∧ chainOf h' .cph w t.ring = none ∧
      checkKey h' .cph w t (cpKey t.d) 2 = .ok id ∧ engineRead h' (cpSrc t.d) (cpLen t.d + 28) = .ok m ∧
      engineRead h' (cpAux t.d) (cpAuxLen t.d) = .ok aad ∧ rangeAll (cpDst t.d) (cpLen t.d) (engineReach h') = true ∧
      unitsIn h' .cph w 0 ≠ []) ∧
    (∃ s : State, ∃ w : Wing, ∃ src : Source, ∃ t : Taken, ∃ h' : Head, ∃ data : Nat, ∃ id : Nat, Runs s.dev ∧
      Starts s.dev w .cph src 6 t h' ∧ checkKey h' .cph w t (cpKey t.d) 3 = .ok id ∧ chainOf h' .cph w t.ring = none ∧
      dFlag t.d 6 = false ∧ dFlag t.d 5 = false ∧ engineRead h' (cpSrc t.d) (cpLen t.d) = .ok data ∧ unitsIn h' .cph w 0 ≠ []) ∧
    (∃ s : State, ∃ w : Wing, ∃ src : Source, ∃ t : Taken, ∃ h' : Head, ∃ data : Nat, ∃ exp : Nat, ∃ id : Nat, ∃ n : Nat, Runs s.dev ∧
      Starts s.dev w .cph src 7 t h' ∧ checkKey h' .cph w t (cpKey t.d) 3 = .ok id ∧ chainOf h' .cph w t.ring = none ∧
      dFlag t.d 6 = false ∧ n = (if dFlag t.d 5 then 16 else 8) ∧ engineRead h' (cpAux t.d) n = .ok exp ∧
      engineRead h' (cpSrc t.d) (cpLen t.d) = .ok data ∧ unitsIn h' .cph w 0 ≠ []) :=
  ⟨⟨st eh, .east, .internal (ds [(0, 1), (4, 8), (8, hb), (16, hb + 0x2000), (24, 512), (28, 1)]),
     tk (ds [(0, 1), (4, 8), (8, hb), (16, hb + 0x2000), (24, 512), (28, 1)]), eh, true, 0, 1, by decide +kernel,
     by constructor <;> decide +kernel, by decide +kernel, ok_of (by decide +kernel), by decide +kernel, ok_of (by decide +kernel),
     by and_intros <;> decide +kernel⟩,
   ⟨st eh, .east, .internal (ds [(0, 3), (4, 8), (8, hb), (16, hb + 0x2000), (24, 512), (28, 1), (32, 127 <<< 4), (40, 0)]),
     tk (ds [(0, 3), (4, 8), (8, hb), (16, hb + 0x2000), (24, 512), (28, 1), (32, 127 <<< 4), (40, 0)]), eh, 0, 1, by decide +kernel,
     by constructor <;> decide +kernel, by decide +kernel, ok_of (by decide +kernel), by decide +kernel, by decide +kernel,
     ok_of (by decide +kernel), by and_intros <;> decide +kernel⟩,
   ⟨st eh, .east, .internal (ds [(0, 4), (4, 8), (8, hb), (16, hb + 0x2000), (24, 32), (28, 2), (48, hb + 0x9000), (56, 16)]),
     tk (ds [(0, 4), (4, 8), (8, hb), (16, hb + 0x2000), (24, 32), (28, 2), (48, hb + 0x9000), (56, 16)]), eh, 0, 0, 2,
     by refine ⟨?_, by constructor <;> decide +kernel, ok_of (by decide +kernel), ?_, ?_, ?_, ?_, ok_of (by decide +kernel), ok_of (by decide +kernel), ?_, ?_⟩ <;> decide +kernel⟩,
   ⟨st eh, .east, .internal (ds [(0, 5), (4, 8), (8, hb), (16, hb + 0x2000), (24, 32), (28, 2), (48, hb + 0x9000), (56, 16)]),
     tk (ds [(0, 5), (4, 8), (8, hb), (16, hb + 0x2000), (24, 32), (28, 2), (48, hb + 0x9000), (56, 16)]), eh, 0, 0, 2,
     by refine ⟨?_, by constructor <;> decide +kernel, ?_, ?_, ?_, ?_, ok_of (by decide +kernel), ok_of (by decide +kernel), ok_of (by decide +kernel), ?_, ?_⟩ <;> decide +kernel⟩,
   ⟨st eh, .east, .internal (ds [(0, 6), (4, 8), (8, hb), (16, hb + 0x2000), (24, 32), (28, 3)]),
     tk (ds [(0, 6), (4, 8), (8, hb), (16, hb + 0x2000), (24, 32), (28, 3)]), eh, 0, 3, by decide +kernel,
     by constructor <;> decide +kernel, ok_of (by decide +kernel), by decide +kernel, by decide +kernel, by decide +kernel,
     ok_of (by decide +kernel), by decide +kernel⟩,
   ⟨st eh, .east, .internal (ds [(0, 7), (4, 8), (8, hb), (16, hb + 0x2000), (24, 32), (28, 3), (48, hb)]),
     tk (ds [(0, 7), (4, 8), (8, hb), (16, hb + 0x2000), (24, 32), (28, 3), (48, hb)]), eh, 0, 0, 3, 8, by decide +kernel,
     by constructor <;> decide +kernel, ok_of (by decide +kernel), by decide +kernel, by decide +kernel, by decide +kernel,
     ok_of (by decide +kernel), ok_of (by decide +kernel), by decide +kernel⟩⟩

theorem met_CipherTilesCompute_2 :
    (∃ s : State, ∃ w : Wing, ∃ src : Source, ∃ t : Taken, ∃ h' : Head, ∃ c : Chain, Runs s.dev ∧ Starts s.dev w .cph src 8 t h' ∧
      chainOf h' .cph w t.ring = some c ∧ c.broken = false ∧ c.coll = dColl t.d ∧ dCflag t.d 15 = false ∧ keyState h' (ctxWrapSlot w) = 2 ∧
      rangeAll (cpAux t.d) 88 (engineReach h') = true) ∧
    (∃ s : State, ∃ w : Wing, ∃ src : Source, ∃ t : Taken, ∃ h' : Head, ∃ rec : Nat, Runs s.dev ∧ Starts s.dev w .cph src 9 t h' ∧
      dCflag t.d 15 = false ∧ privateOk t = true ∧ chainOf h' .cph w t.ring = none ∧ engineRead h' (cpAux t.d) 88 = .ok rec ∧
      keyState h' (ctxWrapSlot w) = 2 ∧ unitsIn h' .cph w 0 ≠ []) ∧
    (∃ s : State, ∃ w : Wing, ∃ src : Source, ∃ t : Taken, ∃ h' : Head, ∃ id : Nat, ∃ wrap : Bool, Runs s.dev ∧
      Starts s.dev w .cph src (if wrap then 10 else 11) t h' ∧ t.docent = true ∧ chainOf h' .cph w t.ring = none ∧
      inSram (cpSrc t.d) (cpLen t.d) = true ∧ inSram (cpDst t.d) (if wrap then cpLen t.d + 8 else cpLen t.d - 8) = true ∧
      checkKey h' .cph w t (cpKey t.d) 5 = .ok id ∧ unitsIn h' .cph w 0 ≠ []) :=
  ⟨⟨st (ee (fun e => { e with chains := [chn .cph] })), .east, .internal (ds [(0, 8), (4, 8), (48, hb)]),
     tk (ds [(0, 8), (4, 8), (48, hb)]), ee (fun e => { e with chains := [chn .cph] }), chn .cph, by decide +kernel,
     by constructor <;> decide +kernel, by and_intros <;> decide +kernel⟩,
   ⟨st eh, .east, .internal (ds [(0, 9), (4, 8), (28, 2), (48, hb)]), tk (ds [(0, 9), (4, 8), (28, 2), (48, hb)]), eh, 0,
     by decide +kernel, by constructor <;> decide +kernel, by decide +kernel, by decide +kernel, by decide +kernel,
     ok_of (by decide +kernel), by and_intros <;> decide +kernel⟩,
   ⟨st eh, .east, .docent (ds [(0, 11), (4, 8), (8, 0x100), (16, 0x200), (24, 40), (28, 5)]),
     tkd (ds [(0, 11), (4, 8), (8, 0x100), (16, 0x200), (24, 40), (28, 5)]), eh, 5, false,
     by refine ⟨?_, by constructor <;> decide +kernel, ?_, ?_, ?_, ?_, ok_of (by decide +kernel), ?_⟩ <;> decide +kernel⟩⟩

theorem met_CasesAndGalleries_1 :
    (∃ s : State, ∃ w : Wing, ∃ stream : Nat, ∃ c : CaseStream, ∃ st : Stored, ∃ l : List Nat, Runs s.dev ∧
      s.dev.eng.cases.find? (fun c => c.wing == w && c.stream == stream && c.closed) = some c ∧ c.unit.isSome = true ∧ c.items ≠ [] ∧
      ((∀ a ∈ c.items, a.tag ≠ none ∧ isPoisoned s.dev a.src 4096 = false)) ∧ (c.items.map (·.tag)).Nodup ∧
      l = c.items.map (fun a => memRead s.dev a.src 4096) ∧ st = compressCase c.coll c.static l) ∧
    (∃ s : State, ∃ serial : Nat, ∃ g : Gallery, ∃ x : Hall, ∃ d : List Nat, Runs s.dev ∧ galleryOf s.dev serial = some g ∧
      g.closed = false ∧ g.cases ≠ [] ∧ fget s.dev g.wing GAL_FILL_FLUSH_FRAMES ≤ g.age ∧ tabGet? s.dev.cur.halls g.hall = some x ∧
      s.dev.gal.opens.filter (fun y => y.hall == g.hall && !y.closed && decide (y.row ≤ g.row)) = [g] ∧
      d = (List.range g.n).map (panelBytes s.dev g)) ∧
    (∃ s : State, ∃ ini : Initiator, ∃ w : Wing, Runs s.dev ∧ Writable s.dev ini (pg .gal w) 0x040 ∧ (s.dev.gal.opens.map (·.serial)).Nodup) ∧
    (∃ s : State, Runs s.dev ∧ fget s.dev .east GAL_RESYNC_RUNNING = 1 ∧ s.dev.gal.resync = [] ∧ s.dev.cur.mounting = false) ∧
    (∃ s : State, ∃ top : Nat, Runs s.dev ∧ fget s.dev .east GAL_RESYNC_RUNNING = 1 ∧ s.dev.gal.resync = [] ∧ s.dev.cur.mounting = true ∧
      top = max (serialCounter s.dev) ((s.dev.cur.serials.map (·.1)).foldl max 0 / 2 + 1) + 1024 ∧ top < 2 ^ 47) ∧
    (∃ s : State, Runs s.dev ∧ fget s.dev .east GAL_RESYNC_VERIFYING = 1 ∧
      ((∀ n ∈ s.dev.gal.verify, workBusy s.dev (fun w => w.job == .verify && w.hall == n) = false))) :=
  ⟨⟨st (ee (fun e => { e with cases := [⟨.east, 511, 0, 0, false, [ap], 5, true, some 2⟩] })), .east, 511,
     ⟨.east, 511, 0, 0, false, [ap], 5, true, some 2⟩, compressCase 0 false [0], [0],
     by refine ⟨?_, ?_, ?_, ?_, ?_, ?_, by first | decide +kernel | rfl, (rfl)⟩ <;> decide +kernel⟩,
   ⟨st (gh (fun g => { g with opens := [gal1] }) (fun c => { c with halls := [(0, hall1)] })), 6, gal1, hall1,
     (List.range 4).map (panelBytes (gh (fun g => { g with opens := [gal1] }) (fun c => { c with halls := [(0, hall1)] })) gal1),
     by refine ⟨?_, ?_, ?_, ?_, ?_, ?_, ?_, (rfl)⟩ <;> decide +kernel⟩,
   ⟨st (gh (fun g => { g with opens := [gal1] }) (fun c => { c with halls := [(0, hall1)] })), .docent, .east, by decide +kernel,
     wr_ok (by decide +kernel), by decide +kernel⟩,
   ⟨st (fset rh .east GAL_RESYNC_RUNNING 1), by and_intros <;> decide +kernel⟩,
   ⟨st (fset (gh id (fun c => { c with mounting := true, serials := [(7, ⟨0, 3, 2⟩)] })) .east GAL_RESYNC_RUNNING 1), 1028,
     by refine ⟨?_, ?_, ?_, ?_, by first | decide +kernel | rfl, ?_⟩ <;> decide +kernel⟩,
   ⟨st (fset rh .east GAL_RESYNC_VERIFYING 1), by and_intros <;> decide +kernel⟩⟩

theorem met_CasesAndGalleries_2 :
    (∃ s : State, ∃ ini : Initiator, ∃ n : Nat, Runs s.dev ∧ Writable s.dev ini (pg .gal .east) 0x05C ∧ n < 64 ∧
      fget s.dev .east GAL_REBUILD_BUSY = 0) ∧
    (∃ s : State, Runs s.dev ∧ fget s.dev .east GAL_REBUILD_BUSY = 1 ∧ s.dev.gal.rebuild = []) ∧
    (∃ s : State, ∃ ini : Initiator, ∃ t : Nat, Runs s.dev ∧ Writable s.dev ini (pg .gal .east) 0x068 ∧
      fget s.dev .east GAL_RESHAPE_RUNNING = 0 ∧ 4 ≤ t ∧ t ≤ 30 ∧
      t + 2 ≤ (allPlinths.filter (fun n => plkBit s.dev n PLK_STATUS_PRESENT)).length) ∧
    (∃ s : State, ∃ ini : Initiator, Runs s.dev ∧ Writable s.dev ini (pg .gal .east) 0x068) ∧
    (∃ s : State, Runs s.dev ∧ fget s.dev .east GAL_RESHAPE_RUNNING = 1 ∧
      ((∀ e ∈ ownHalls s.dev, e.2.n = fget s.dev .east GAL_RESHAPE_TARGET_N))) :=
  ⟨⟨st rh, .docent, 63, by decide +kernel, wr_ok (by decide +kernel), by and_intros <;> decide +kernel⟩,
   ⟨st (fset rh .east GAL_REBUILD_BUSY 1), by and_intros <;> decide +kernel⟩,
   ⟨st (List.foldl plk rh [0, 5, 10, 15, 20, 63]), .docent, 4, by decide +kernel, wr_ok (by decide +kernel),
     by and_intros <;> decide +kernel⟩,
   ⟨st (fset rh .east GAL_RESHAPE_RUNNING 1), .docent, by decide +kernel, wr_ok (by decide +kernel)⟩,
   ⟨st (fset (fset (gh id (fun c => { c with halls := [(0, hall1)] })) .east GAL_RESHAPE_RUNNING 1) .east GAL_RESHAPE_TARGET_N 4),
     by and_intros <;> decide +kernel⟩⟩

theorem met_CuratorCommandsAct_1 :
    (∃ s : State, ∃ hall : Nat, ∃ sc : Nat, ∃ x : Hall, Runs s.dev ∧ s.dev.cur.mounted = true ∧ frameCount s.dev % 1024 = 0 ∧
      running s.dev (pg .cur .east) = true ∧ reclaiming s.dev = none ∧ fget s.dev .east GAL_RESHAPE_RUNNING = 0 ∧
      Machine.minOn (fun e => [0xFFFFFFFF - e.2.2, e.1]) (scored s.dev) = some (hall, x, sc) ∧ sc ≠ 0 ∧
      tabGet? s.dev.cur.halls hall = some x ∧ hall < 2 ^ 24) ∧
    (∃ s : State, ∃ ini : Initiator, ∃ n : Nat, Runs s.dev ∧ Writable s.dev ini (pg .cur .east) 0x07C ∧ n < 64 ∧ n ∈ s.dev.cur.members ∧
      n ∉ s.dev.cur.evacuating ∧ n ∉ s.dev.cur.evacuated) ∧
    (∃ s : State, ∃ ini : Initiator, ∃ n : Nat, Runs s.dev ∧ Writable s.dev ini (pg .cur .east) 0x07C ∧ n < 64 ∧ n ∈ s.dev.cur.evacuated) ∧
    (∃ s : State, ∃ ini : Initiator, ∃ n : Nat, Runs s.dev ∧ Writable s.dev ini (pg .cur .east) 0x07C ∧ n < 64 ∧
      (n ∈ s.dev.cur.evacuating ∨ n ∈ s.dev.cur.evacuated)) ∧
    (∃ s : State, ∃ l : List Nat, Runs s.dev ∧ s.dev.cur.mounted = true ∧ fget s.dev .east RSV_DUMP_KEY_FRESH = 1 ∧ s.dev.cur.vault = [] ∧
      l = (vaultOrder s.dev []).take (vaultCount s.dev) ∧ l.length = vaultCount s.dev ∧ l ≠ []) ∧
    (∃ s : State, ∃ ini : Initiator, ∃ w : Wing, ∃ l : List Nat, Runs s.dev ∧ Writable s.dev ini (pg .cur w) 0x040 ∧
      fget s.dev .east CUR_GEOM_BLOCKS_BLOCKS ≠ 0 ∧ s.dev.cur.mounting = false ∧ s.dev.cur.mounted = false ∧
      l = allPlinths.filter (fun n => plkBit s.dev n PLK_STATUS_ADMITTED) ∧ l ≠ []) :=
  ⟨⟨st (gh id (fun c => { c with mounted := true, halls := [(0, hall1)] })), 0,
     hallScore (gh id (fun c => { c with mounted := true, halls := [(0, hall1)] })) hall1, hall1, by and_intros <;> decide +kernel⟩,
   ⟨st (gh id (fun c => { c with members := [63] })), .docent, 63, by decide +kernel, wr_ok (by decide +kernel),
     by and_intros <;> decide +kernel⟩,
   ⟨st (gh id (fun c => { c with members := [63], evacuated := [63] })), .docent, 63, by decide +kernel, wr_ok (by decide +kernel),
     by and_intros <;> decide +kernel⟩,
   ⟨st (gh id (fun c => { c with members := [63], evacuating := [63] })), .docent, 63, by decide +kernel, wr_ok (by decide +kernel),
     by and_intros <;> decide +kernel⟩,
   ⟨st (vh), (vaultOrder vh []).take (vaultCount vh), by refine ⟨?_, ?_, ?_, ?_, (rfl), ?_, ?_⟩ <;> decide +kernel⟩,
   ⟨st (fset (plk rh 63) .east CUR_GEOM_BLOCKS_BLOCKS 1000), .docent, .west, [63], by decide +kernel, wr_ok (by decide +kernel),
     by decide +kernel, by decide +kernel, by decide +kernel, by first | decide +kernel | rfl, by decide +kernel⟩⟩

theorem met_CuratorCommandsAct_2 :
    ∃ s : State, ∃ loc : Nat, ∃ coll : Nat, ∃ sheets : Nat, ∃ ns : Nat, ∃ a : Nat, ∃ row : Nat, ∃ n : Nat, ∃ sl : Nat, ∃ c : PlkCmd,
    Runs s.dev ∧ panelPlace s.dev (locSerial loc) (locPanel loc) = some (a, row) ∧ panelReadable s.dev a = true ∧ n = memPlinth a ∧
    c = readCmd a row (locSheet loc) sheets true ∧ ((∀ r ∈ s.dev.dsp.waiting, r.cls ≠ .host)) ∧ plkTakesDie s.dev n = true ∧
    s.dev.dsp.failed.contains (dieKey n c) = false ∧ running s.dev (pg .dsp (plkWing n)) = true ∧
    dieReads s.dev (dieKey n c) < fget s.dev (plkWing n) DSP_CTRL_READ_DEPTH ∧ freeSlot s.dev n false = some sl :=
  ⟨st { plk rh 3 with cur := { rh.cur with halls := [(0, hall1)], serials := [(6, ⟨0, 3, 2⟩)], blocks := [(3, { blankBlock 3 with st := 1 })] } },
    6 <<< 16 + 127 <<< 4, 0, 1, 5, 3, 3, 3, 0, readCmd 3 3 127 1 true, by decide +kernel, by decide +kernel, by decide +kernel,
    by first | decide +kernel | rfl, by first | decide +kernel | rfl, by and_intros <;> decide +kernel⟩

theorem met_PlinthLinksComeAndGo_1 :
    (∃ s : State, ∃ n : Nat, Runs s.dev ∧ n < 64 ∧ plkGet s.dev n PLK_STATUS_PRESENT = 0) ∧
    (∃ s : State, ∃ n : Nat, ∃ lanes : Nat, ∃ delay : Nat, ∃ port : Nat, ∃ expected : Nat, ∃ l : LinkState, Runs s.dev ∧ n < 64 ∧
      plkGet s.dev n PLK_CTRL_LINK_EN = 1 ∧ plkGet s.dev n PLK_STATUS_PRESENT = 1 ∧ plkGet s.dev n PLK_STATUS_TRAINING = 1 ∧
      (lanes = 2 ∨ (lanes = 1 ∧ plkGet s.dev n PLK_CTRL_HALF_WIDTH_OK = 1)) ∧ delay < 65536 ∧ port < 2 ∧
      plkGet s.dev n PLK_STATUS_ADMITTED = 1 ∧ l = plkLink s.dev n ∧ l.replay = [] ∧ l.queue = []) ∧
    (∃ s : State, ∃ n : Nat, ∃ delay : Nat, ∃ port : Nat, ∃ expected : Nat, ∃ l : LinkState, ∃ c : Nat → Nat → PlkCmd, Runs s.dev ∧
      n < 64 ∧ plkGet s.dev n PLK_CTRL_LINK_EN = 1 ∧ plkGet s.dev n PLK_STATUS_PRESENT = 1 ∧ plkGet s.dev n PLK_STATUS_TRAINING = 1 ∧
      delay < 65536 ∧ port < 2 ∧ plkGet s.dev n PLK_STATUS_ADMITTED = 0 ∧ slotsUsed s.dev n true = [] ∧ l = plkLink s.dev n ∧
      l.replay = [] ∧ l.queue = [] ∧ l.credits = [0, 0, 0, 0] ∧ plkGet s.dev n PLK_STATUS_UP = 0 ∧
      ((∀ k a, c k a = { emptyCmd 0x0C true with addr := a, slot := k, gen := (tabGet s.dev.plk.gens 0 (slotKey n true k) + 1) % 256 }))) ∧
    (∃ s : State, ∃ ini : Initiator, ∃ n : Nat, Runs s.dev ∧ n < 64 ∧ Writable s.dev ini (pg .plk (plkWing n) (plkInst n)) 0x040) ∧
    (∃ s : State, ∃ n : Nat, Runs s.dev ∧ n < 64 ∧ plkGet s.dev n PLK_CTRL_RELEASE = 1 ∧ dieOut s.dev n = false) ∧
    (∃ s : State, ∃ n : Nat, Runs s.dev ∧ n < 64 ∧ plkGet s.dev n PLK_STATUS_PRESENT = 1 ∧ plkGet s.dev n PLK_STATUS_RELEASED = 1) :=
  ⟨⟨st rh, 63, by and_intros <;> decide +kernel⟩,
   ⟨st (plkSet (plkSet (plk rh 63) 63 PLK_STATUS_TRAINING 1) 63 PLK_STATUS_UP 0), 63, 2, 65535, 1, 0, LinkState.idle,
     by refine ⟨?_, ?_, ?_, ?_, ?_, by first | decide +kernel | rfl, ?_, ?_, ?_, by first | decide +kernel | rfl, ?_, ?_⟩ <;> decide +kernel⟩,
   ⟨st (plkSet (plkSet (plkSet (plk rh 63) 63 PLK_STATUS_TRAINING 1) 63 PLK_STATUS_UP 0) 63 PLK_STATUS_ADMITTED 0), 63, 65535, 1, 0,
     LinkState.idle, fun k a => { emptyCmd 0x0C true with addr := a, slot := k, gen := 1 },
     by refine ⟨?_, ?_, ?_, ?_, ?_, ?_, ?_, ?_, ?_, by first | decide +kernel | rfl, ?_, ?_, ?_, ?_, (fun _ _ => rfl)⟩ <;> decide +kernel⟩,
   ⟨st (plk rh 63), .docent, 63, by decide +kernel, by decide +kernel, wr_ok (by decide +kernel)⟩,
   ⟨st (plkSet (plk rh 63) 63 PLK_CTRL_RELEASE 1), 63, by and_intros <;> decide +kernel⟩,
   ⟨st (plkSet (plk rh 63) 63 PLK_STATUS_RELEASED 1), 63, by and_intros <;> decide +kernel⟩⟩

theorem met_PlinthLinksComeAndGo_2 :
    (∃ s : State, ∃ n : Nat, Runs s.dev ∧ n < 64 ∧ plkGet s.dev n PLK_STATUS_PRESENT = 1 ∧ plkGet s.dev n PLK_STATUS_RELEASED = 0) ∧
    (∃ s : State, ∃ ini : Initiator, ∃ n : Nat, Runs s.dev ∧ n < 64 ∧ Writable s.dev ini (pg .plk (plkWing n) (plkInst n)) 0x040 ∧
      plkGet s.dev n PLK_STATUS_UP = 1 ∧ plkGet s.dev n PLK_STATUS_TRAINING = 0) ∧
    (∃ s : State, ∃ ini : Initiator, ∃ n : Nat, Runs s.dev ∧ n < 64 ∧ Writable s.dev ini (pg .plk (plkWing n) (plkInst n)) 0x040 ∧
      plkGet s.dev n PLK_STATUS_UP = 1 ∧ plkGet s.dev n PLK_STATUS_TRAINING = 1) ∧
    (∃ s : State, ∃ n : Nat, Runs s.dev ∧ n < 64 ∧ plkGet s.dev n PLK_STATUS_UP = 1 ∧ plkGet s.dev n PLK_STATUS_TRAINING = 1) ∧
    (∃ s : State, ∃ n : Nat, Runs s.dev ∧ n < 64 ∧ plkGet s.dev n PLK_STATUS_UP = 1 ∧ plkGet s.dev n PLK_CTRL_HALF_WIDTH_OK = 1) :=
  ⟨⟨st (plk rh 63), 63, by and_intros <;> decide +kernel⟩,
   ⟨st (plk rh 63), .docent, 63, by decide +kernel, by decide +kernel, wr_ok (by decide +kernel), by and_intros <;> decide +kernel⟩,
   ⟨st (plkSet (plk rh 63) 63 PLK_STATUS_TRAINING 1), .docent, 63, by decide +kernel, by decide +kernel, wr_ok (by decide +kernel),
     by and_intros <;> decide +kernel⟩,
   ⟨st (plkSet (plk rh 63) 63 PLK_STATUS_TRAINING 1), 63, by and_intros <;> decide +kernel⟩,
   ⟨st (plkSet (plk rh 63) 63 PLK_CTRL_HALF_WIDTH_OK 1), 63, by and_intros <;> decide +kernel⟩⟩

theorem met_PlinthLinksCarryCommands_1 :
    (∃ s : State, ∃ n : Nat, ∃ ns : Nat, ∃ d : PlkDone, ∃ o : PlkOp, Runs s.dev ∧ n < 64 ∧
      s.dev.plk.ops.find? (fun o => o.plinth == n && o.cmd.mgmt == d.mgmt && o.cmd.slot == d.slot && o.cmd.gen == d.gen) = some o) ∧
    (∃ s : State, ∃ n : Nat, ∃ ns : Nat, ∃ d : PlkDone, Runs s.dev ∧ n < 64 ∧
      s.dev.plk.ops.find? (fun o => o.plinth == n && o.cmd.mgmt == d.mgmt && o.cmd.slot == d.slot && o.cmd.gen == d.gen) = none) ∧
    (∃ s : State, ∃ n : Nat, ∃ slot : Nat, ∃ o : PlkOp, Runs s.dev ∧ n < 64 ∧
      s.dev.plk.ops.find? (fun o => o.plinth == n && !o.cmd.mgmt && o.cmd.slot == slot) = some o ∧ o.resent = false) ∧
    (∃ s : State, ∃ n : Nat, ∃ slot : Nat, ∃ o : PlkOp, ∃ l : LinkState, Runs s.dev ∧ n < 64 ∧
      s.dev.plk.ops.find? (fun o => o.plinth == n && !o.cmd.mgmt && o.cmd.slot == slot) = some o ∧ o.resent = false ∧
      plkGet s.dev n PLK_STATUS_UP = 1 ∧ plkGet s.dev n PLK_STATUS_TRAINING = 0 ∧ l = plkLink s.dev n ∧ l.queue = [] ∧
      plkFlits o.cmd ≤ l.credits.getD (plkVc o.cmd) 0 ∧ l.replay.length + plkFlits o.cmd ≤ 256) ∧
    (∃ s : State, ∃ n : Nat, ∃ slot : Nat, ∃ o : PlkOp, Runs s.dev ∧ n < 64 ∧
      s.dev.plk.ops.find? (fun o => o.plinth == n && !o.cmd.mgmt && o.cmd.slot == slot) = some o ∧ o.resent = true) ∧
    (∃ s : State, ∃ n : Nat, ∃ code : Nat, ∃ detail : Nat, Runs s.dev ∧ n < 64 ∧ code < 256 ∧ detail < 65536 ∧ code ≠ 4) :=
  ⟨⟨st (ph [po1]), 40, 100, pd1, po1, by and_intros <;> decide +kernel⟩,
   ⟨st (ph [po1]), 40, 100, { pd1 with gen := 4 }, by and_intros <;> decide +kernel⟩,
   ⟨st (ph [po1]), 40, 127, po1, by and_intros <;> decide +kernel⟩,
   ⟨st { ph [po1] with plk := { (ph [po1]).plk with links := [(40, lk0)] } }, 40, 127, po1, lk0,
     by refine ⟨?_, ?_, ?_, ?_, ?_, ?_, by first | decide +kernel | rfl, ?_, ?_, ?_⟩ <;> decide +kernel⟩,
   ⟨st (ph [{ po1 with resent := true }]), 40, 127, { po1 with resent := true }, by and_intros <;> decide +kernel⟩,
   ⟨st (ph []), 40, 255, 65535, by and_intros <;> decide +kernel⟩⟩

theorem met_PlinthLinksCarryCommands_2 :
    (∃ s : State, ∃ n : Nat, ∃ detail : Nat, Runs s.dev ∧ n < 64 ∧ detail < 65536) ∧
    (∃ s : State, ∃ n : Nat, ∃ vc : Nat, ∃ mtype : Nat, ∃ ackseq : Nat, ∃ credits : List Nat, ∃ l : LinkState, Runs s.dev ∧ n < 64 ∧
      plkGet s.dev n PLK_STATUS_UP = 1 ∧ vc < 3 ∧ 1 ≤ mtype ∧ mtype ≤ 3 ∧ l = plkLink s.dev n ∧ l.queue = [] ∧ l.owed.length = 4 ∧
      l.replay.length < 256) ∧
    (∃ s : State, ∃ n : Nat, ∃ vc : Nat, ∃ mtype : Nat, ∃ ackseq : Nat, ∃ credits : List Nat, ∃ l : LinkState, ∃ m : LinkMsg, Runs s.dev ∧
      n < 64 ∧ plkGet s.dev n PLK_STATUS_UP = 1 ∧ plkGet s.dev n PLK_STATUS_TRAINING = 0 ∧ l = plkLink s.dev n ∧ l.queue = [m] ∧ m.vc < 3 ∧
      m.left = 1 ∧ l.replay = [] ∧ l.credits = [0, 0, 0, 0] ∧ l.owed = [0, 0, 0, 0] ∧ 0 < credits.getD m.vc 0) ∧
    (∃ s : State, ∃ n : Nat, ∃ ftype : Nat, ∃ vc : Nat, ∃ mtype : Nat, ∃ lseq : Nat, ∃ acktype : Nat, ∃ ackseq : Nat, ∃ good : Bool,
      ∃ credits : List Nat, Runs s.dev ∧ n < 64 ∧ plkGet s.dev n PLK_STATUS_UP = 1 ∧ (plkLink s.dev n).queue = [] ∧
      (good = false ∨ 4 ≤ ftype ∨ (ftype = 1 ∧ vc = 3))) ∧
    (∃ s : State, ∃ n : Nat, ∃ l : LinkState, Runs s.dev ∧ n < 64 ∧ plkGet s.dev n PLK_STATUS_TRAINING = 0 ∧ l = plkLink s.dev n ∧
      l.replay ≠ [] ∧ l.queue = [] ∧ ((∀ e ∈ l.replay, e.2 < 8))) ∧
    (∃ s : State, ∃ n : Nat, Runs s.dev ∧ n < 64 ∧ plkGet s.dev n PLK_STATUS_TRAINING = 0 ∧ ((∃ e ∈ (plkLink s.dev n).replay, 8 ≤ e.2))) :=
  ⟨⟨st (ph []), 40, 65535, by and_intros <;> decide +kernel⟩,
   ⟨st (ph []), 40, 0, 3, 0, [0, 0, 0, 0], LinkState.idle,
     by refine ⟨?_, ?_, ?_, ?_, ?_, ?_, by first | decide +kernel | rfl, ?_, ?_, ?_⟩ <;> decide +kernel⟩,
   ⟨st { ph [] with plk := { z.plk with links := [(40, { LinkState.idle with queue := [⟨0, 1, .plk 40 (emptyCmd 1 false)⟩] })] } }, 40,
     0, 0, 0, [1, 0, 0, 0], { LinkState.idle with queue := [⟨0, 1, .plk 40 (emptyCmd 1 false)⟩] }, ⟨0, 1, .plk 40 (emptyCmd 1 false)⟩,
     by refine ⟨?_, ?_, ?_, ?_, by first | decide +kernel | rfl, ?_, ?_, ?_, ?_, ?_, ?_, ?_⟩ <;> decide +kernel⟩,
   ⟨st (ph []), 40, 1, 3, 1, 0, 0, 0, true, [], by refine ⟨?_, ?_, ?_, ?_, by first | decide +kernel | rfl⟩ <;> decide +kernel⟩,
   ⟨st { ph [] with plk := { z.plk with links := [(40, { lk0 with txNext := 1, replay := [(0, 7)] })] } }, 40,
     { lk0 with txNext := 1, replay := [(0, 7)] }, by decide +kernel, by decide +kernel, by decide +kernel,
     by first | decide +kernel | rfl, by and_intros <;> decide +kernel⟩,
   ⟨st { ph [] with plk := { z.plk with links := [(40, { lk0 with txNext := 1, replay := [(0, 8)] })] } }, 40,
     by and_intros <;> decide +kernel⟩⟩

theorem met_BridgesRunDieCommands_1 :
    (∃ s : State, ∃ n : Nat, ∃ p : Nat, ∃ c : PlkCmd, ∃ c' : PlkCmd, p < 2 ∧ c' = { c with opcode := 1, mgmt := false } ∧
      BrFresh s.dev n p c' ∧ dieFieldsOk c' = true) ∧
    (∃ s : State, ∃ n : Nat, ∃ p : Nat, ∃ c : PlkCmd, ∃ c' : PlkCmd, p < 2 ∧ c' = { c with opcode := 4, mgmt := false } ∧
      BrFresh s.dev n p c' ∧ dieFieldsOk c' = true) ∧
    (∃ s : State, ∃ n : Nat, ∃ p : Nat, ∃ c : PlkCmd, ∃ c' : PlkCmd, p < 2 ∧ c' = { c with opcode := 2, mgmt := false } ∧
      BrFresh s.dev n p c' ∧ dieFieldsOk c' = true ∧ (wit (bridge s.dev n) p).fenced = false ∧ c.row = (brAfter (bridge s.dev n) c').1) ∧
    (∃ s : State, ∃ n : Nat, ∃ p : Nat, ∃ c : PlkCmd, ∃ c' : PlkCmd, p < 2 ∧ c' = { c with opcode := 2, mgmt := false } ∧
      BrFresh s.dev n p c' ∧ dieFieldsOk c' = true ∧ (wit (bridge s.dev n) p).fenced = false ∧ c.row ≠ (brAfter (bridge s.dev n) c').1) ∧
    (∃ s : State, ∃ n : Nat, ∃ p : Nat, ∃ c : PlkCmd, ∃ c' : PlkCmd, p < 2 ∧ c' = { c with opcode := 3, mgmt := false } ∧
      BrFresh s.dev n p c' ∧ dieFieldsOk c' = true ∧ (wit (bridge s.dev n) p).fenced = false) ∧
    (∃ s : State, ∃ n : Nat, ∃ p : Nat, ∃ c : PlkCmd, ∃ c' : PlkCmd, ∃ prog : Bool, p < 2 ∧
      c' = { c with opcode := if prog then 2 else 3, mgmt := false } ∧ BrFresh s.dev n p c' ∧ dieFieldsOk c' = true ∧
      (wit (bridge s.dev n) p).fenced = true) :=
  ⟨⟨st (bh id), 63, 1, dc 0, dc 1, by decide +kernel, by decide +kernel, (fun _ h => nomatch h), by decide +kernel⟩,
   ⟨st (bh id), 63, 1, dc 0, dc 4, by decide +kernel, by decide +kernel, (fun _ h => nomatch h), by decide +kernel⟩,
   ⟨st (bh id), 63, 1, { dc 0 with row := 0, dlen := 65536 }, { dc 2 with row := 0, dlen := 65536 }, by decide +kernel,
     by decide +kernel, (fun _ h => nomatch h), by and_intros <;> decide +kernel⟩,
   ⟨st (bh id), 63, 1, { dc 0 with row := 1, dlen := 65536 }, { dc 2 with row := 1, dlen := 65536 }, by decide +kernel,
     by decide +kernel, (fun _ h => nomatch h), by and_intros <;> decide +kernel⟩,
   ⟨st (bh id), 63, 1, dc 0, dc 3, by decide +kernel, by decide +kernel, (fun _ h => nomatch h), by and_intros <;> decide +kernel⟩,
   ⟨st (bh (fun b => { b with wit1 := { b.wit1 with valid := true, fenced := true } })), 63, 1, dc 0, dc 3, false, by decide +kernel,
     by decide +kernel, (fun _ h => nomatch h), by and_intros <;> decide +kernel⟩⟩

theorem met_BridgesRunDieCommands_2 :
    (∃ s : State, ∃ n : Nat, ∃ p : Nat, ∃ c : PlkCmd, ∃ d : PlkDone, ∃ i, p < 2 ∧
      tabGet? (bridge s.dev n).slots (brSlotKey p { c with mgmt := false }) = some ⟨c.gen, some d⟩ ∧
      i ∈ [Instr.plkRead n p c, .plkProgram n p c, .plkErase n p c, .checkErased n p c]) ∧
    (∃ s : State, ∃ n : Nat, ∃ j : BrJob, (bridge s.dev n).jobs = [j] ∧ (bridge s.dev n).slot < 31 ∧ j.started = false ∧
      jobDue { bridge s.dev n with slot := (bridge s.dev n).slot + 1 } j = true ∧ j.held = false) ∧
    (∃ s : State, ∃ n : Nat, ∃ j : BrJob, ∃ e : BrEnd, (bridge s.dev n).jobs = [j] ∧ (bridge s.dev n).slot < 31 ∧ j.started = true ∧
      j.held = false ∧ j.cmd.opcode = 2 ∧ e.port = j.port ∧ e.slot = j.cmd.slot ∧ e.fail = false) :=
  ⟨⟨st (bh (fun b => { b with slots := [(brSlotKey 1 (dc 0), ⟨9, some pd1⟩)] })), 63, 1, dc 0, pd1, Instr.plkErase 63 1 (dc 0),
     by decide +kernel, by decide +kernel, by simp⟩,
   ⟨st (bh (fun b => { b with slot := 30, jobs := [bj 1] })), 63, bj 1, by and_intros <;> decide +kernel⟩,
   ⟨st (bh (fun b => { b with slot := 30, jobs := [{ bj 2 with started := true }] })), 63, { bj 2 with started := true },
     ⟨1, 127, false, 0, 0, 0, 700⟩, by and_intros <;> decide +kernel⟩⟩

theorem met_BridgesKeepWitnessAndTime_1 :
    (∃ s : State, ∃ n : Nat, ∃ p : Nat, ∃ c : PlkCmd, ∃ c' : PlkCmd, ∃ b : Bridge, p < 2 ∧ c' = { c with opcode := 8, mgmt := true } ∧
      BrFresh s.dev n p c' ∧ c.slot < 16 ∧ b = bridge s.dev n ∧ (wit b (1 - p)).claim = true ∧ (wit b (1 - p)).claimEpoch < c.epoch) ∧
    (∃ s : State, ∃ n : Nat, ∃ p : Nat, ∃ c : PlkCmd, ∃ c' : PlkCmd, ∃ b : Bridge, p < 2 ∧ c' = { c with opcode := 8, mgmt := true } ∧
      BrFresh s.dev n p c' ∧ c.slot < 16 ∧ b = bridge s.dev n ∧ (wit b (1 - p)).claim = true ∧ c.epoch ≤ (wit b (1 - p)).claimEpoch) ∧
    (∃ s : State, ∃ n : Nat, ∃ p : Nat, ∃ c : PlkCmd, ∃ c' : PlkCmd, ∃ b : Bridge, p < 2 ∧ c' = { c with opcode := 9, mgmt := true } ∧
      BrFresh s.dev n p c' ∧ c.slot < 16 ∧ b = bridge s.dev n) ∧
    (∃ s : State, ∃ n : Nat, ∃ p : Nat, ∃ c : PlkCmd, ∃ c' : PlkCmd, ∃ b : Bridge, ∃ l : List BrJob, p < 2 ∧
      c' = { c with opcode := 10, mgmt := true } ∧ BrFresh s.dev n p c' ∧ c.slot < 16 ∧ b = bridge s.dev n ∧
      ((wit b (1 - p)).valid = false ∨ (wit b (1 - p)).expired = true) ∧
      l = b.jobs.filter (fun j => j.port == 1 - p && !j.started && (j.cmd.opcode == 2 || j.cmd.opcode == 3))) ∧
    (∃ s : State, ∃ n : Nat, ∃ p : Nat, ∃ c : PlkCmd, ∃ c' : PlkCmd, ∃ b : Bridge, p < 2 ∧ c' = { c with opcode := 10, mgmt := true } ∧
      BrFresh s.dev n p c' ∧ c.slot < 16 ∧ b = bridge s.dev n ∧ (wit b (1 - p)).valid = true ∧ (wit b (1 - p)).expired = false) ∧
    (∃ s : State, ∃ n : Nat, ∃ p : Nat, ∃ v : Nat, ∃ c : PlkCmd, ∃ c' : PlkCmd, p < 2 ∧ c' = { c with opcode := 12, mgmt := true } ∧
      BrFresh s.dev n p c' ∧ c.slot < 16 ∧ bridgeReg s.dev n p c.addr = some v) :=
  ⟨⟨st (bh (fun b => { b with wit0 := { b.wit0 with valid := true, claim := true, claimEpoch := 3 } })), 63, 1, mcm 0 15, mcm 8 15,
     bridge (bh (fun b => { b with wit0 := { b.wit0 with valid := true, claim := true, claimEpoch := 3 } })) 63, by decide +kernel,
     by decide +kernel, (fun _ h => nomatch h), by decide +kernel, by first | decide +kernel | rfl, by and_intros <;> decide +kernel⟩,
   ⟨st (bh (fun b => { b with wit0 := { b.wit0 with valid := true, claim := true, claimEpoch := 4 } })), 63, 1, mcm 0 15, mcm 8 15,
     bridge (bh (fun b => { b with wit0 := { b.wit0 with valid := true, claim := true, claimEpoch := 4 } })) 63, by decide +kernel,
     by decide +kernel, (fun _ h => nomatch h), by decide +kernel, by first | decide +kernel | rfl, by and_intros <;> decide +kernel⟩,
   ⟨st (bh id), 63, 1, mcm 0 15, mcm 9 15, bridge (bh id) 63, by decide +kernel, by decide +kernel, (fun _ h => nomatch h),
     by decide +kernel, by first | decide +kernel | rfl⟩,
   ⟨st (bh (fun b => { b with jobs := [{ bj 3 with port := 0 }] })), 63, 1, mcm 0 15, mcm 10 15,
     bridge (bh (fun b => { b with jobs := [{ bj 3 with port := 0 }] })) 63, [{ bj 3 with port := 0 }], by decide +kernel,
     by decide +kernel, (fun _ h => nomatch h), by decide +kernel, by first | decide +kernel | rfl, by decide +kernel,
     by first | decide +kernel | rfl⟩,
   ⟨st (bh (fun b => { b with wit0 := { b.wit0 with valid := true, expired := false } })), 63, 1, mcm 0 15, mcm 10 15,
     bridge (bh (fun b => { b with wit0 := { b.wit0 with valid := true, expired := false } })) 63, by decide +kernel, by decide +kernel,
     (fun _ h => nomatch h), by decide +kernel, by first | decide +kernel | rfl, by and_intros <;> decide +kernel⟩,
   ⟨st (bh id), 63, 1, blankBridge.alert1 <<< 1, { mcm 0 15 with addr := 0x40 }, { mcm 12 15 with addr := 0x40 }, by decide +kernel,
     by decide +kernel, (fun _ h => nomatch h), by and_intros <;> decide +kernel⟩⟩

theorem met_BridgesKeepWitnessAndTime_2 :
    (∃ s : State, ∃ n : Nat, ∃ p : Nat, ∃ c : PlkCmd, ∃ c' : PlkCmd, p < 2 ∧ c' = { c with opcode := 13, mgmt := true } ∧
      BrFresh s.dev n p c' ∧ c.slot < 16 ∧ c.addr = 0x40) ∧
    (∃ s : State, ∃ n : Nat, ∃ p : Nat, p < 2 ∧ (wit (bridge s.dev n) p).valid = true ∧ (wit (bridge s.dev n) p).expired = false ∧
      (wit (bridge s.dev n) p).expiry = (bridge s.dev n).wire) ∧
    (∃ s : State, ∃ n : Nat, ∃ p : Nat, ∃ arrival : Nat, ∃ payload : Word, ∃ flagged : Bool, ∃ next : Bool, ∃ phase : Int, ∃ b : Bridge,
      p < 2 ∧ b = bridge s.dev n ∧ b.led = true ∧ b.follow = p ∧ b.tick = 1 ∧ b.wire < 65536 ∧ payload.getLsbD 7 = true ∧
      (next, phase) = bridgePlace b n p arrival ∧ bitsOf payload 31 16 = (b.wire + ofBool next) % 65536 ∧
      (flagged = true ∨ 2 * phase.natAbs ≤ frameNs b.len / 32) ∧ bitsOf payload 9 8 ≠ 3) ∧
    (∃ s : State, ∃ n : Nat, (bridge s.dev n).led = true ∧ 2 ≤ (bridge s.dev n).quiet) :=
  ⟨⟨st (bh id), 63, 1, { mcm 0 15 with addr := 0x40 }, { mcm 13 15 with addr := 0x40 }, by decide +kernel, by decide +kernel,
     (fun _ h => nomatch h), by and_intros <;> decide +kernel⟩,
   ⟨st (bh (fun b => { b with wire := 65535, wit1 := { b.wit1 with valid := true, expired := false, expiry := 65535 } })), 63, 1,
     by and_intros <;> decide +kernel⟩,
   ⟨st (bh (fun b => { b with led := true, follow := 1, tick := 1, wire := 65535, len := 1, delay1 := some 100 })), 63, 1, 7975,
     0x00004080, false, true, -125,
     bridge (bh (fun b => { b with led := true, follow := 1, tick := 1, wire := 65535, len := 1, delay1 := some 100 })) 63,
     by refine ⟨?_, by first | decide +kernel | rfl, ?_, ?_, ?_, ?_, ?_, ?_, ?_, by first | decide +kernel | rfl, ?_⟩ <;> decide +kernel⟩,
   ⟨st (bh (fun b => { b with led := true, quiet := 2 })), 63, by and_intros <;> decide +kernel⟩⟩

theorem met_ReplicationAtTheSource_1 :
    (∃ s : State, ∃ ini : Initiator, ∃ w : Wing, ∃ coll : Nat, ∃ e : Nat, ∃ base : Nat, ∃ seen : Nat, ∃ rest : List (Option Nat),
      Runs s.dev ∧ Writable s.dev ini (pg .rpl w) 0x068 ∧ coll = fget s.dev w RPL_MAP_INDEX_INDEX ∧
      ((∀ n ∈ rplNs s.dev coll, n.owned = true)) ∧ rplOutstanding s.dev coll = false ∧
      (rplState s.dev coll = 2 ∨ rplState s.dev coll = 4) ∧ e = fget s.dev .east RPL_EDITION_NUMBER coll ∧ mayShip s.dev coll e = true ∧
      base = fget s.dev .east RPL_MAP_BASE_EDITION coll ∧ seen = (rplColl s.dev coll).lock ∧
      ((lockHeld seen = true → lockMine s.dev seen = true))) ∧
    (∃ s : State, ∃ ini : Initiator, ∃ w : Wing, ∃ coll : Nat, ∃ o : Nat, ∃ number : Nat, Runs s.dev ∧
      Writable s.dev ini (pg .rpl w) 0x068 ∧ coll = fget s.dev w RPL_MAP_INDEX_INDEX ∧ ((∀ n ∈ rplNs s.dev coll, n.owned = true)) ∧
      (rplMode s.dev coll = 1 ∨ rplMode s.dev coll = 2) ∧ number = (o + 1) % 2 ^ 32 ∧ mayFreeze s.dev coll number = .done) ∧
    (∃ s : State, ∃ ini : Initiator, ∃ w : Wing, ∃ coll : Nat, Runs s.dev ∧ Writable s.dev ini (pg .rpl w) 0x068 ∧
      coll = fget s.dev w RPL_MAP_INDEX_INDEX ∧ ((∀ n ∈ rplNs s.dev coll, n.owned = true)) ∧
      (rplMode s.dev coll = 1 ∨ rplMode s.dev coll = 2)) ∧
    (∃ s : State, ∃ ini : Initiator, ∃ w : Wing, ∃ coll : Nat, ∃ lock : List (Option Nat), ∃ original : Option Nat, ∃ g0 : Head,
      ∃ g : Head, Runs s.dev ∧ Writable s.dev ini (pg .rpl w) 0x068 ∧ coll = fget s.dev w RPL_MAP_INDEX_INDEX ∧
      ((∀ n ∈ rplNs s.dev coll, n.owned = true)) ∧ rplOutstanding s.dev coll = false ∧ rplState s.dev coll = 4 ∧ rplMode s.dev coll = 1 ∧
      takeLock (reply s.dev false) coll false lock = (g0, .done) ∧
      freezeNumbered (rplUpd g0 coll (fun c => { c with hold := true })) coll original = (g, .done) ∧
      mayShip g coll (fget g .east RPL_EDITION_NUMBER coll) = true) ∧
    (∃ s : State, ∃ ini : Initiator, ∃ w : Wing, ∃ coll : Nat, ∃ seen : Nat, ∃ force : Bool, ∃ rest : List (Option Nat), Runs s.dev ∧
      Writable s.dev ini (pg .rpl w) 0x068 ∧ coll = fget s.dev w RPL_MAP_INDEX_INDEX ∧ ((∀ n ∈ rplNs s.dev coll, n.owned = true)) ∧
      rplMode s.dev coll = 3 ∧ seen = (rplColl s.dev coll).lock ∧ ((lockHeld seen = true → lockMine s.dev seen = true)) ∧
      (rplColl s.dev coll).sync = true ∧ (rplColl s.dev coll).begun = none ∧ ((∀ q ∈ s.dev.rpl.incoming, q.1 ≠ coll)) ∧
      newestNumber s.dev coll < 2 ^ 32) ∧
    (∃ s : State, ∃ ini : Initiator, ∃ w : Wing, ∃ coll : Nat, Runs s.dev ∧ Writable s.dev ini (pg .rpl w) 0x068 ∧
      coll = fget s.dev w RPL_MAP_INDEX_INDEX ∧ ((∀ n ∈ rplNs s.dev coll, n.owned = true)) ∧ holdsLock s.dev coll = false ∧
      rplOutstanding s.dev coll = false ∧ ((∀ n ∈ rplNs s.dev coll, (editionOf n (fget s.dev .east RPL_EDITION_NUMBER coll)).isSome = true))) :=
  ⟨⟨st (rp 2 4 (nse ed1) id), .docent, .east, 0, 3, 0, 0, [], by decide +kernel, wr_ok (by decide +kernel),
     by first | decide +kernel | rfl, by decide +kernel, by decide +kernel, by decide +kernel, by first | decide +kernel | rfl,
     by decide +kernel, by first | decide +kernel | rfl, by and_intros <;> decide +kernel⟩,
   ⟨st (rp 2 4 (nse ed1) id), .docent, .east, 0, 3, 4, by decide +kernel, wr_ok (by decide +kernel), by first | decide +kernel | rfl,
     by and_intros <;> decide +kernel⟩,
   ⟨st (rp 1 1 (nse ed1) id), .docent, .east, 0, by decide +kernel, wr_ok (by decide +kernel), by first | decide +kernel | rfl,
     by and_intros <;> decide +kernel⟩,
   ⟨st (rp 1 4 (nse ed1) id), .docent, .east, 0, [some 0], some 3, (takeLock (reply (rp 1 4 (nse ed1) id) false) 0 false [some 0]).1,
     (freezeNumbered (rplUpd (takeLock (reply (rp 1 4 (nse ed1) id) false) 0 false [some 0]).1 0 (fun c => { c with hold := true })) 0 (some 3)).1,
     by refine ⟨?_, wr_ok (by decide +kernel), by first | decide +kernel | rfl, ?_, ?_, ?_, ?_, ?_, (Prod.ext rfl (by decide +kernel)), ?_⟩ <;> decide +kernel⟩,
   ⟨st (rp 3 0 (nse ed1) (fun r => { r with colls := [(0, { rc with sync := true })] })), .docent, .east, 0, 0, false, [],
     by decide +kernel, wr_ok (by decide +kernel), by first | decide +kernel | rfl, by and_intros <;> decide +kernel⟩,
   ⟨st (rp 2 4 (nse ed1) id), .docent, .east, 0, by decide +kernel, wr_ok (by decide +kernel), by first | decide +kernel | rfl,
     by and_intros <;> decide +kernel⟩⟩

theorem met_ReplicationAtTheSource_2 :
    (∃ s : State, ∃ ini : Initiator, ∃ w : Wing, ∃ coll : Nat, Runs s.dev ∧ Writable s.dev ini (pg .rpl w) 0x068 ∧
      coll = fget s.dev w RPL_MAP_INDEX_INDEX ∧ ((∀ n ∈ rplNs s.dev coll, n.owned = true)) ∧ (rplColl s.dev coll).ship ≠ none) ∧
    (∃ s : State, ∃ coll : Nat, ∃ rtag : Nat, ∃ micros : Nat, ∃ r : RplReq, ∃ es : List (Nat × Nat × Nat), ∃ have' : List Bool,
      Runs s.dev ∧ coll < 4096 ∧ s.dev.rpl.reqs.find? (fun r => r.coll == coll && r.rtag == rtag) = some r ∧ r.body = .syncWrite es ∧
      (rplColl s.dev coll).ship = none) ∧
    (∃ s : State, ∃ coll : Nat, ∃ rtag : Nat, ∃ micros : Nat, ∃ e : Nat, ∃ b : Nat, ∃ r : RplReq, ∃ sh : Ship, ∃ have' : List Bool,
      Runs s.dev ∧ coll < 4096 ∧ s.dev.rpl.reqs.find? (fun r => r.coll == coll && r.rtag == rtag) = some r ∧ r.body = .begin e b ∧
      (rplColl s.dev coll).ship = some sh) ∧
    (∃ s : State, ∃ coll : Nat, ∃ rtag : Nat, Runs s.dev ∧ coll < 4096 ∧ ((∃ r ∈ s.dev.rpl.reqs, r.coll = coll ∧ r.rtag = rtag)) ∧
      (rplColl s.dev coll).ship = none ∧ (rplColl s.dev coll).diverged = false) ∧
    (∃ s : State, ∃ coll : Nat, ∃ rtag : Nat, Runs s.dev ∧ coll < 4096 ∧ ((∃ r ∈ s.dev.rpl.reqs, r.coll = coll ∧ r.rtag = rtag)) ∧
      (rplColl s.dev coll).ship ≠ none) :=
  ⟨⟨st (rp 2 2 (nse ed1) (fun r => { r with colls := [(0, { rc with ship := some shp })] })), .docent, .east, 0, by decide +kernel,
     wr_ok (by decide +kernel), by first | decide +kernel | rfl, by and_intros <;> decide +kernel⟩,
   ⟨st (rp 1 1 (nse ed1) (fun r => { r with reqs := [rq (.syncWrite [(7, 8, 9)])] })), 0, 5, 10, rq (.syncWrite [(7, 8, 9)]),
     [(7, 8, 9)], [], by and_intros <;> decide +kernel⟩,
   ⟨st (rp 2 2 (nse ed1) (fun r => { r with reqs := [rq (.begin 3 0)], colls := [(0, { rc with ship := some shp })] })), 0, 5, 10, 3, 0,
     rq (.begin 3 0), shp, [], by and_intros <;> decide +kernel⟩,
   ⟨st (rp 1 1 (nse ed1) (fun r => { r with reqs := [rq (.syncWrite [(7, 8, 9)])] })), 0, 5, by and_intros <;> decide +kernel⟩,
   ⟨st (rp 2 2 (nse ed1) (fun r => { r with reqs := [rq (.begin 3 0)], colls := [(0, { rc with ship := some shp })] })), 0, 5,
     by and_intros <;> decide +kernel⟩⟩

theorem met_ReplicationAtTheTarget_1 :
    (∃ s : State, ∃ coll : Nat, ∃ nsid : Nat, ∃ rtag : Nat, ∃ es : List (Nat × Nat × Nat), Runs s.dev ∧ coll < 4096 ∧
      fget s.dev (collHome s.dev coll) RPL_CTRL_ACCEPT = 1 ∧ rplMode s.dev coll = 3 ∧ ((∀ n ∈ rplNs s.dev coll, n.owned = true)) ∧
      rplNsCheck s.dev coll nsid (.syncWrite es) = .done ∧ ((∀ q ∈ s.dev.rpl.incoming, q.1 ≠ coll)) ∧
      ((∀ e ∈ es, Config.guard64 4096 e.2.2 % 2 ^ 64 = e.2.1)) ∧ pairDirty s.dev + es.length ≤ quotaGranules s.dev) ∧
    (∃ s : State, ∃ coll : Nat, ∃ rtag : Nat, ∃ edition : Nat, ∃ base : Nat, Runs s.dev ∧ coll < 4096 ∧
      fget s.dev (collHome s.dev coll) RPL_CTRL_ACCEPT = 1 ∧ rplMode s.dev coll = 3 ∧ ((∀ n ∈ rplNs s.dev coll, n.owned = true)) ∧
      ((∀ q ∈ s.dev.rpl.incoming, q.1 ≠ coll)) ∧ ((∀ n ∈ rplNs s.dev coll, ((newestEdition? n).map (·.number)).getD 0 = base))) ∧
    (∃ s : State, ∃ coll : Nat, ∃ nsid : Nat, ∃ rtag : Nat, ∃ edition : Nat, ∃ es : List (Nat × Nat), Runs s.dev ∧ coll < 4096 ∧
      fget s.dev (collHome s.dev coll) RPL_CTRL_ACCEPT = 1 ∧ rplMode s.dev coll = 3 ∧ ((∀ n ∈ rplNs s.dev coll, n.owned = true)) ∧
      rplNsCheck s.dev coll nsid (.offer edition es) = .done ∧ ((∀ q ∈ s.dev.rpl.incoming, q.1 ≠ coll)) ∧
      ((∀ e ∈ es, offerMatch s.dev coll e.2 = none))) ∧
    (∃ s : State, ∃ coll : Nat, ∃ nsid : Nat, ∃ rtag : Nat, ∃ edition : Nat, ∃ es : List (Nat × Nat), ∃ g : Head, ∃ bits : List Bool,
      Runs s.dev ∧ coll < 4096 ∧ fget s.dev (collHome s.dev coll) RPL_CTRL_ACCEPT = 1 ∧ rplMode s.dev coll = 3 ∧
      ((∀ n ∈ rplNs s.dev coll, n.owned = true)) ∧ rplNsCheck s.dev coll nsid (.offer edition es) = .done ∧
      ((∀ q ∈ s.dev.rpl.incoming, q.1 ≠ coll)) ∧ applyOffer s.dev coll nsid es = (g, bits)) ∧
    (∃ s : State, ∃ coll : Nat, ∃ nsid : Nat, ∃ rtag : Nat, ∃ edition : Nat, ∃ image : Nat, ∃ es : List (Nat × Nat × Nat), ∃ raw : Bool,
      ∃ data : List Nat, Runs s.dev ∧ coll < 4096 ∧ fget s.dev (collHome s.dev coll) RPL_CTRL_ACCEPT = 1 ∧ rplMode s.dev coll = 3 ∧
      ((∀ n ∈ rplNs s.dev coll, n.owned = true)) ∧ rplNsCheck s.dev coll nsid (.case edition es raw image) = .done ∧
      ((∀ q ∈ s.dev.rpl.incoming, q.1 ≠ coll)) ∧ caseGranules es raw image = some data ∧ mediaKey s.dev coll ≠ none ∧
      s.dev.eng.fpStates.contains coll = true) ∧
    (∃ s : State, ∃ coll : Nat, ∃ nsid : Nat, ∃ rtag : Nat, ∃ runs : List (Nat × Nat × Nat), Runs s.dev ∧ coll < 4096 ∧
      fget s.dev (collHome s.dev coll) RPL_CTRL_ACCEPT = 1 ∧ rplMode s.dev coll = 3 ∧ ((∀ n ∈ rplNs s.dev coll, n.owned = true)) ∧
      rplNsCheck s.dev coll nsid (.unmap runs) = .done ∧ ((∀ q ∈ s.dev.rpl.incoming, q.1 ≠ coll))) :=
  ⟨⟨st (rp 3 0 (nse ed1) id), 0, 1, 5, [(999, Config.guard64 4096 77 % 2 ^ 64, 77)],
     by refine ⟨?_, ?_, ?_, ?_, ?_, ?_, ?_, (by simp), ?_⟩ <;> decide +kernel⟩,
   ⟨st (rp 3 0 (nse ed1) id), 0, 5, 9, 3, by and_intros <;> decide +kernel⟩,
   ⟨st (rp 3 0 (nse ed1) id), 0, 1, 5, 9, [(999, 0x77)], by and_intros <;> decide +kernel⟩,
   ⟨st { rp 3 0 (nse ed1) id with cat := { (rp 3 0 (nse ed1) id).cat with index := [(0, [⟨0x77, 0x60000, 1, false, false, false, 0, false, false⟩])] } },
     0, 1, 5, 9, [(999, 0x77)],
     (applyOffer { rp 3 0 (nse ed1) id with cat := { (rp 3 0 (nse ed1) id).cat with index := [(0, [⟨0x77, 0x60000, 1, false, false, false, 0, false, false⟩])] } } 0 1 [(999, 0x77)]).1,
     (applyOffer { rp 3 0 (nse ed1) id with cat := { (rp 3 0 (nse ed1) id).cat with index := [(0, [⟨0x77, 0x60000, 1, false, false, false, 0, false, false⟩])] } } 0 1 [(999, 0x77)]).2,
     by refine ⟨?_, ?_, ?_, ?_, ?_, ?_, ?_, (rfl)⟩ <;> decide +kernel⟩,
   ⟨st (withKey { rp 3 0 (nse ed1) id with bindings := [(0, ⟨0, false, .east, 4, 1⟩)], eng := { z.eng with fpStates := [0] } } 1 1 0), 0,
     1, 5, 9, 0, [(999, Config.guard64 4096 0 % 2 ^ 64, 0x77)], true, [0],
     by refine ⟨?_, ?_, ?_, ?_, ?_, ?_, ?_, (by simp [caseGranules]), ?_, ?_⟩ <;> decide +kernel⟩,
   ⟨st (rp 3 0 (nse ed1) id), 0, 1, 5, [(998, 2, 0)], by and_intros <;> decide +kernel⟩⟩

theorem met_ReplicationAtTheTarget_2 :
    (∃ s : State, ∃ coll : Nat, ∃ rtag : Nat, ∃ edition : Nat, ∃ base : Nat, ∃ changed : Nat, ∃ g : Head, Runs s.dev ∧ coll < 4096 ∧
      fget s.dev (collHome s.dev coll) RPL_CTRL_ACCEPT = 1 ∧ rplMode s.dev coll = 3 ∧ ((∀ n ∈ rplNs s.dev coll, n.owned = true)) ∧
      ((∀ q ∈ s.dev.rpl.incoming, q.1 ≠ coll)) ∧ shippedOpen s.dev coll = false ∧ ((∀ a ∈ s.dev.rpl.acks, a.1 ≠ coll)) ∧
      newestNumber s.dev coll < edition ∧ freezeColl s.dev coll edition = (g, .done)) ∧
    (∃ s : State, ∃ coll : Nat, ∃ nsid : Nat, ∃ rtag : Nat, ∃ edition : Nat, ∃ base : Nat, ∃ changed : Nat, ∃ image : Nat,
      ∃ l : List (Nat × Nat × Nat), ∃ f : List (Nat × Nat), ∃ raw : Bool, ∃ i, Runs s.dev ∧ coll < 4096 ∧ rplMode s.dev coll ≠ 3 ∧
      i ∈ [(Instr.syncWrite coll nsid rtag l, 0x81, nsid), (.rplBegin coll rtag edition base, 0x82, 0), (.rplOffer coll nsid rtag edition f, 0x83, nsid), (.rplCase coll nsid rtag edition l raw image, 0x84, nsid), (.rplUnmap coll nsid rtag l, 0x85, nsid), (.rplCommit coll rtag edition base changed, 0x86, 0)]) :=
  ⟨⟨st (rp 3 0 (nse ed1) id), 0, 5, 9, 3, 0, (freezeColl (rp 3 0 (nse ed1) id) 0 9).1,
     by refine ⟨?_, ?_, ?_, ?_, ?_, ?_, ?_, ?_, ?_, (Prod.ext rfl (by decide +kernel))⟩ <;> decide +kernel⟩,
   ⟨st (rp 2 0 (nse ed1) id), 0, 1, 5, 9, 3, 0, 0, [], [], true, (Instr.rplCommit 0 5 9 3 0, 0x86, 0), by decide +kernel,
     by decide +kernel, by decide +kernel, by simp⟩⟩

theorem met_CoresPostAndWait_1 :
    (∃ s : State, ∃ n : Nat, ∃ rs1 : Nat, ∃ a : Nat, ∃ r : Nat, ∃ t : Nat, ∃ e : Nat, ∃ mode : HartMode, ∃ w : Wing, Runs s.dev ∧
      hartRuns s.dev n = true ∧ illegalMode mode = false ∧ w = (if rs1.testBit 10 then .west else .east) ∧ r = rs1 % 1024 ∧
      rangeAll a 64 (coreReach s.dev) = true ∧ isPoisoned s.dev a 64 = false ∧ postRefused s.dev w r n = false ∧
      ringUsed s.dev w r < ringSize s.dev w r ∧ t = fget s.dev w CPU_RING_PTR_TAIL r ∧
      e = ringBase s.dev w r + 64 * (t % ringSize s.dev w r)) ∧
    (∃ s : State, ∃ n : Nat, ∃ rs1 : Nat, ∃ a : Nat, ∃ r : Nat, ∃ mode : HartMode, ∃ w : Wing, Runs s.dev ∧ hartRuns s.dev n = true ∧
      illegalMode mode = false ∧ w = (if rs1.testBit 10 then .west else .east) ∧ r = rs1 % 1024 ∧ rangeAll a 64 (coreReach s.dev) = true ∧
      isPoisoned s.dev a 64 = false ∧ (postRefused s.dev w r n = true ∨ ringSize s.dev w r ≤ ringUsed s.dev w r)) ∧
    (∃ s : State, ∃ n : Nat, ∃ rs1 : Nat, ∃ tmo : Nat, ∃ mode : HartMode, ∃ a : Option Nat, ∃ i, Runs s.dev ∧ hartRuns s.dev n = true ∧
      (mode = .u ∨ mode = .vs ∨ mode = .vu) ∧ i ∈ [Instr.hnyPost n mode rs1 a, .hnyWait n mode tmo]) ∧
    (∃ s : State, ∃ n : Nat, ∃ tmo : Nat, ∃ mode : HartMode, Runs s.dev ∧ hartRuns s.dev n = true ∧ (mode = .m ∨ mode = .s) ∧
      fget s.dev (hartWing n) PWR_CORE_RUNG_REQUEST (hartCore n) < 3) ∧
    (∃ s : State, ∃ n : Nat, ∃ irq : Bool, ∃ forced : Bool, ∃ tmo : Bool, Runs s.dev ∧ n < 52 ∧ tabHas s.dev.core.waits n = true ∧
      coreDeep s.dev n = false ∧ (irq = true ∨ forced = true ∨ (tmo = true ∧ tabGet s.dev.core.waits 0 n ≠ 0))) ∧
    (∃ s : State, ∃ ini : Initiator, ∃ w : Wing, ∃ c : Nat, Runs s.dev ∧ Writable s.dev ini (pg .cpu w) 0x048 ∧
      c = fget s.dev w CPU_CORE_INDEX_INDEX ∧ (coreState s.dev w c = 1 ∨ coreState s.dev w c = 4)) :=
  ⟨⟨st (ch id), 51, 3, dd, 3, 0, 0, .s, .east,
     by refine ⟨?_, ?_, ?_, ?_, by first | decide +kernel | rfl, ?_, ?_, ?_, ?_, by first | decide +kernel | rfl, by first | decide +kernel | rfl⟩ <;> decide +kernel⟩,
   ⟨st (ch id), 51, 4, dd, 4, .s, .east, by refine ⟨?_, ?_, ?_, ?_, by first | decide +kernel | rfl, ?_, ?_, ?_⟩ <;> decide +kernel⟩,
   ⟨st (ch id), 51, 3, 0, .vu, none, Instr.hnyWait 51 .vu 0, by decide +kernel, by decide +kernel, by decide +kernel, by simp⟩,
   ⟨st (ch id), 51, 100, .m, by and_intros <;> decide +kernel⟩,
   ⟨st (ch (fun c => { c with waits := [(51, 100)] })), 51, false, false, true,
     by refine ⟨?_, ?_, ?_, ?_, by first | decide +kernel | rfl⟩ <;> decide +kernel⟩,
   ⟨st (fset (ch id) .west CPU_CORE_STATE_STATE 1 0), .docent, .west, 0, by decide +kernel, wr_ok (by decide +kernel),
     by first | decide +kernel | rfl, by decide +kernel⟩⟩

theorem met_CoresPostAndWait_2 :
    (∃ s : State, ∃ ini : Initiator, ∃ w : Wing, ∃ c : Nat, Runs s.dev ∧ Writable s.dev ini (pg .cpu w) 0x048 ∧
      c = fget s.dev w CPU_CORE_INDEX_INDEX ∧ coreState s.dev w c = 0 ∧ ((∀ v, fget s.dev v EVT_CTRL_FALLBACK_HART ≠ hartOf w c)) ∧
      activeCores s.dev ≠ 1) ∧
    (∃ s : State, ∃ w : Wing, ∃ c : Nat, Runs s.dev ∧ c < 26 ∧ coreState s.dev w c = 2) ∧
    (∃ s : State, ∃ w : Wing, ∃ c : Nat, ∃ cause : Nat, Runs s.dev ∧ c < 26 ∧ coreState s.dev w c ≠ 3 ∧ cause < 16) ∧
    (∃ s : State, ∃ n : Nat, ∃ a : Nat, ∃ load : Bool, Runs s.dev ∧ hartRuns s.dev n = true ∧ (a < 0x40000000 ∨ 0x50000000 ≤ a) ∧
      deviceReach a = false ∧ (coreReach s.dev a = false ∨ (load = true ∧ isPoisoned s.dev a 1 = true))) ∧
    (∃ s : State, ∃ ini : Initiator, ∃ w : Wing, ∃ v : Nat, ∃ q : Nat, Runs s.dev ∧ Writable s.dev ini (pg .cpu w) 0x078 ∧
      q = fget s.dev w CPU_CQ_INDEX_INDEX ∧ v < 65536 ∧ ((∀ o ∈ s.dev.eng.ops, o.held = true → o.wing = w → o.cq ≠ q))) :=
  ⟨⟨st (ch id), .docent, .west, 0, by decide +kernel, wr_ok (by decide +kernel), by first | decide +kernel | rfl, by decide +kernel,
     (by intro v; cases v <;> decide +kernel), by decide +kernel⟩,
   ⟨st (fset (ch id) .west CPU_CORE_STATE_STATE 2 25), .west, 25, by and_intros <;> decide +kernel⟩,
   ⟨st (ch id), .west, 25, 15, by and_intros <;> decide +kernel⟩,
   ⟨st (ch id), 51, 0x50000000, false, by refine ⟨?_, ?_, ?_, ?_, (by left; decide +kernel)⟩ <;> decide +kernel⟩,
   ⟨st (ch id), .docent, .west, 65535, 0, by decide +kernel, wr_ok (by decide +kernel), by first | decide +kernel | rfl,
     by and_intros <;> decide +kernel⟩⟩

theorem met_MemoryAndDmaAct_1 :
    (∃ s : State, ∃ w : Wing, ∃ src : Source, ∃ t : Taken, ∃ h' : Head, ∃ copy : Bool, ∃ sp : List (Nat × Nat), ∃ dp : List (Nat × Nat),
      ∃ bad : List (Nat × Nat), ∃ prio : Nat, ∃ c : Nat, ∃ v : Nat, Runs s.dev ∧ Starts s.dev w .dma src (if copy then 1 else 2) t h' ∧
      1 ≤ dmLen t.d ∧ dmLen t.d ≤ 2 ^ 30 ∧ wrapOk (dmDstWrap t.d) (dmDstW t.d) = true ∧
      ((copy = true → wrapOk (dmSrcWrap t.d) (dmSrcW t.d) = true)) ∧ ((dmDstWrap t.d = true → dmLen t.d ≤ 2 ^ dmDstW t.d)) ∧
      dp = dmaPieces (dmDst t.d) (dmLen t.d) (dmDstWrap t.d) (dmDstW t.d) ∧
      sp = dmaPieces (dmSrc t.d) (dmLen t.d) (dmSrcWrap t.d) (dmSrcW t.d) ∧ ((∀ p ∈ dp, rangeAll p.1 p.2 (coreReach h') = true)) ∧
      ((copy = true → ∀ p ∈ sp, if inWindow p.1 then windowReadable h' p.1 p.2 = true else rangeAll p.1 p.2 (coreReach h') = true)) ∧
      prio = (match t.ring with | some n => if t.docent then 0 else fget h' w CPU_RING_CFG_PRIO n | none => 0) ∧
      pickChannel h' w prio = some c ∧ bad = (if copy then poisonedIn h' sp else []) ∧
      v = (if copy then readPieces h' sp else fillBytes (dmPattern t.d) (dmLen t.d))) ∧
    (∃ s : State, ∃ ini : Initiator, ∃ w : Wing, ∃ c : Nat, Runs s.dev ∧ Writable s.dev ini (pg .dma w) 0x04C ∧
      c = fget s.dev w DMA_CHAN_INDEX_INDEX ∧ fget s.dev w DMA_CTRL_HALT = 0) ∧
    (∃ s : State, ∃ ini : Initiator, ∃ w : Wing, ∃ c : Nat, Runs s.dev ∧ Writable s.dev ini (pg .dma w) 0x04C ∧
      c = fget s.dev w DMA_CHAN_INDEX_INDEX ∧ fget s.dev w DMA_CTRL_HALT = 0 ∧ ((∀ o ∈ s.dev.eng.ops, inChannel w c o = false))) ∧
    (∃ s : State, ∃ ini : Initiator, ∃ w : Wing, Runs s.dev ∧ Writable s.dev ini (pg .dma w) 0x040) ∧
    (∃ s : State, ∃ ini : Initiator, ∃ w : Wing, ∃ seg : Nat, Runs s.dev ∧ Writable s.dev ini (pg .mem w) 0x058 ∧ seg < 4096 ∧
      fget s.dev w MEM_MIGRATE_BUSY = 0 ∧ fget s.dev w MEM_SEG_ENTRY_VALID seg = 1) ∧
    (∃ s : State, ∃ w : Wing, ∃ seg : Nat, ∃ set : Nat, ∃ base : Nat, Runs s.dev ∧ migration s.dev w = some (seg, set, base) ∧ set < 256 ∧
      base < 4096) :=
  ⟨⟨st (ch id), .east, .internal (ds [(0, 1), (4, 8), (8, dd), (16, dd + 0x2000), (24, 64)]),
     tk (ds [(0, 1), (4, 8), (8, dd), (16, dd + 0x2000), (24, 64)]), ch id, true, [(dd, 64)], [(dd + 0x2000, 64)], [], 0, 0, 0,
     by refine ⟨?_, by constructor <;> decide +kernel, ?_, ?_, ?_, ?_, ?_, by first | decide +kernel | rfl, by first | decide +kernel | rfl, ?_, ?_, ?_, ?_, ?_, ?_⟩ <;> decide +kernel⟩,
   ⟨st (ch id), .docent, .west, 0, by decide +kernel, wr_ok (by decide +kernel), by first | decide +kernel | rfl, by decide +kernel⟩,
   ⟨st (ch (fun c => { c with dmaOff := [8] })), .docent, .west, 0, by decide +kernel, wr_ok (by decide +kernel),
     by first | decide +kernel | rfl, by and_intros <;> decide +kernel⟩,
   ⟨st (ch id), .docent, .west, by decide +kernel, wr_ok (by decide +kernel)⟩,
   ⟨st (fset (ch id) .east MEM_MIGRATE_TO_SET 0x02), .docent, .east, 0, by decide +kernel, wr_ok (by decide +kernel),
     by and_intros <;> decide +kernel⟩,
   ⟨st (ch (fun c => { c with migW := some (4095, 0xFF, 4095) })), .west, 4095, 0xFF, 4095, by and_intros <;> decide +kernel⟩⟩

theorem met_MemoryAndDmaAct_2 :
    (∃ s : State, ∃ ini : Initiator, ∃ w : Wing, ∃ c : Nat, Runs s.dev ∧ Writable s.dev ini (pg .mem w) 0x048 ∧ c < 8 ∧
      ((∀ k, k < 4096 → fget s.dev w MEM_SEG_ENTRY_VALID k = 1 → (fget s.dev w MEM_SEG_ENTRY_SET k).testBit c = false))) ∧
    (∃ s : State, ∃ ini : Initiator, ∃ w : Wing, ∃ c : Nat, Runs s.dev ∧ Writable s.dev ini (pg .mem w) 0x048 ∧ c < 8) ∧
    (∃ s : State, ∃ a : Nat, ∃ seg : Nat, ∃ w : Wing, Runs s.dev ∧ ddrSeg a = some (w, seg)) ∧
    (∃ s : State, ∃ a : Nat, ∃ seg : Nat, ∃ n : Nat, ∃ w : Wing, Runs s.dev ∧ ddrSeg a = some (w, seg) ∧
      n = ((s.dev.core.ce.filter (fun r => decide (frameCount s.dev < r.2 + 1024))).filter (fun r => r.1 == a / 4096)).length + 1) ∧
    (∃ s : State, ∃ w : Wing, Runs s.dev ∧ fget s.dev w MEM_CTRL_SCRUB_EN = 1) ∧
    (∃ s : State, ∃ ini : Initiator, ∃ w : Wing, ∃ p : Nat, Runs s.dev ∧ Writable s.dev ini (pg .hbm w) 0x04C ∧
      p = fget s.dev w HBM_PCH_INDEX_INDEX ∧ pchState s.dev w p = 0 ∧ pchGone s.dev w < 2) :=
  ⟨⟨st (ch id), .docent, .west, 7, by decide +kernel, wr_ok (by decide +kernel), by decide +kernel, (by decide +kernel)⟩,
   ⟨st (ch id), .docent, .west, 7, by decide +kernel, wr_ok (by decide +kernel), by decide +kernel⟩,
   ⟨st (ch id), 0x08FFFFFFFFFF, 4095, .west, by and_intros <;> decide +kernel⟩,
   ⟨st (ch id), 0x01003FFFFFFF, 0, 1, .east, by and_intros <;> decide +kernel⟩,
   ⟨st (fset (ch id) .west MEM_CTRL_SCRUB_EN 1), .west, by and_intros <;> decide +kernel⟩,
   ⟨st (ch id), .docent, .west, 0, by decide +kernel, wr_ok (by decide +kernel), by first | decide +kernel | rfl,
     by and_intros <;> decide +kernel⟩⟩

theorem met_MemoryAndDmaAct_3 :
    (∃ s : State, ∃ w : Wing, ∃ p : Nat, ∃ errors : Nat, Runs s.dev ∧ p < 96) ∧
    (∃ s : State, ∃ w : Wing, ∃ p : Nat, Runs s.dev ∧ p < 96 ∧ pchState s.dev w p = 1) ∧
    (∃ s : State, ∃ w : Wing, ∃ a : Nat, ∃ what : HbmUe, Runs s.dev) :=
  ⟨⟨st (ch id), .west, 95, 3, by and_intros <;> decide +kernel⟩,
   ⟨st (fset (ch id) .west HBM_PCH_STATE_STATE 1 95), .west, 95, by and_intros <;> decide +kernel⟩,
   ⟨st (ch id), .west, 0x0A2000000000, .core 51, by decide +kernel⟩⟩

theorem met_DocentMeasuresAndGuards_1 :
    (∃ s : State, ∃ ini : Initiator, ∃ w : Wing, Runs s.dev ∧ Writable s.dev ini (pg .doc .east) 0x040 ∧ released s.dev w = false) ∧
    (∃ s : State, ∃ ini : Initiator, Runs s.dev ∧ Writable s.dev ini (pg .doc .east) 0x040) ∧
    (∃ s : State, Runs s.dev ∧ s.dev.doc.alarmHold = true) ∧
    (∃ s : State, ∃ ini : Initiator, ∃ r : Nat, Runs s.dev ∧ Writable s.dev ini (pg .msr .east) 0x044 ∧
      r = fget s.dev .east MSR_INDEX_REG ∧ r ≠ 6 ∧ r ≠ 7) ∧
    (∃ s : State, ∃ ini : Initiator, ∃ mask : Nat, Runs s.dev ∧ Writable s.dev ini (pg .msr .east) 0x0A8) ∧
    (∃ s : State, ∃ off : Nat, ∃ len : Nat, ∃ i, Runs s.dev ∧ firmwareRuns s.dev = true ∧
      i ∈ [(Instr.getVersion, 0, [0x13]), (.getCapabilities, 1, [15, 1, 1, 2]), (.negotiateAlgorithms, 2, [384, 384, 384]), (.getDigests, 3, [sha384 4096 (Config.certChain s.dev.doc.attest)]), (.getCertificate off len, 4, [Config.certChain s.dev.doc.attest >>> (8 * off) % 2 ^ (8 * min len 4096)])]) :=
  ⟨⟨st (dh id), .docent, .west, by decide +kernel, wr_ok (by decide +kernel), by decide +kernel⟩,
   ⟨st (dh id), .docent, by decide +kernel, wr_ok (by decide +kernel)⟩,
   ⟨st (dh (fun d => { d with alarmHold := true })), by and_intros <;> decide +kernel⟩,
   ⟨st (fset (dh id) .east MSR_INDEX_REG 31), .docent, 31, by decide +kernel, wr_ok (by decide +kernel), by first | decide +kernel | rfl,
     by and_intros <;> decide +kernel⟩,
   ⟨st (dh id), .docent, 0x400, by decide +kernel, wr_ok (by decide +kernel)⟩,
   ⟨st (dh id), 0, 5000, (Instr.negotiateAlgorithms, 2, [384, 384, 384]), by decide +kernel, by decide +kernel, by simp⟩⟩

theorem met_DocentMeasuresAndGuards_2 :
    (∃ s : State, ∃ nonce : Nat, Runs s.dev ∧ firmwareRuns s.dev = true) ∧
    (∃ s : State, ∃ index : Nat, ∃ nonce : Nat, Runs s.dev ∧ firmwareRuns s.dev = true ∧ 1 ≤ index ∧ index ≤ 32) ∧
    (∃ s : State, ∃ ini : Initiator, ∃ n : Nat, ∃ force : Bool, Runs s.dev ∧ (if force then n = 11 else n < 11) ∧
      ((force = true → Writable s.dev ini (pg .alm .east) 0x054)) ∧ (fget s.dev .east ALM_ENABLE_ALARMS).testBit n = true) ∧
    (∃ s : State, ∃ n : Nat, Runs s.dev ∧ n < 11 ∧ (fget s.dev .east ALM_ENABLE_ALARMS).testBit n = false) ∧
    (∃ s : State, Runs s.dev ∧ firmwareRuns s.dev = true) ∧
    (∃ s : State, ∃ nonce : Nat, ∃ digest : Nat, Runs s.dev ∧ firmwareRuns s.dev = true ∧ s.dev.doc.nonce = some nonce ∧
      lifecycle s.dev = 2 ∧ servesNone s.dev = true) :=
  ⟨⟨st (dh id), 7, by and_intros <;> decide +kernel⟩,
   ⟨st (dh id), 32, 7, by and_intros <;> decide +kernel⟩,
   ⟨st (fset (dh id) .east ALM_ENABLE_ALARMS 0x7FF), .docent, 10, false, by decide +kernel, by decide +kernel, ((fun x => nomatch x)),
     by decide +kernel⟩,
   ⟨st (fset (dh id) .east ALM_ENABLE_ALARMS 0x3FF), 10, by and_intros <;> decide +kernel⟩,
   ⟨st (dh id), by and_intros <;> decide +kernel⟩,
   ⟨st (fset (dh (fun d => { d with nonce := some 7 })) .east CHP_LIFECYCLE_STATE 2), 7, 9, by and_intros <;> decide +kernel⟩⟩

theorem met_DocentMeasuresAndGuards_3 :
    ∃ s : State, ∃ uid : Nat, ∃ nonce : Nat, ∃ digest : Nat, ∃ sigOk : Bool, Runs s.dev ∧ firmwareRuns s.dev = true ∧
    (sigOk = false ∨ s.dev.doc.nonce ≠ some nonce ∨ lifecycle s.dev ≠ 2 ∨ servesNone s.dev = false) :=
  ⟨st (dh (fun d => { d with nonce := some 7 })), 5, 7, 9, false, by decide +kernel, by decide +kernel, by first | decide +kernel | rfl⟩

theorem met_KeysAndBindingsAct_1 :
    (∃ s : State, ∃ ini : Initiator, ∃ id : Nat, ∃ n : Nat, Runs s.dev ∧ Writable s.dev ini (pg .key .east) 0x058 ∧
      keyIndex? s.dev = some id ∧ takesKey s.dev id = true ∧ n = keyBytes (keyKind s.dev id) ∧ keySrc s.dev + n ≤ 2 ^ 19) ∧
    (∃ s : State, ∃ ini : Initiator, ∃ id : Nat, Runs s.dev ∧ Writable s.dev ini (pg .key .east) 0x058 ∧ keyIndex? s.dev = some id ∧
      takesKey s.dev id = true) ∧
    (∃ s : State, ∃ ini : Initiator, ∃ id : Nat, ∃ n : Nat, ∃ k : Nat, Runs s.dev ∧ Writable s.dev ini (pg .key .east) 0x058 ∧
      keyIndex? s.dev = some id ∧ takesKey s.dev id = true ∧ n = keyBytes (keyKind s.dev id) ∧ keySrc s.dev + n + 8 ≤ 2 ^ 19 ∧
      wrapSlot? s.dev = some k) ∧
    (∃ s : State, ∃ ini : Initiator, ∃ id : Nat, Runs s.dev ∧ Writable s.dev ini (pg .key .east) 0x058 ∧ keyIndex? s.dev = some id ∧
      keyState s.dev id = 1) ∧
    (∃ s : State, ∃ ini : Initiator, ∃ id : Nat, Runs s.dev ∧ Writable s.dev ini (pg .key .east) 0x058 ∧ keyIndex? s.dev = some id ∧
      keyState s.dev id = 2 ∧ boundSlot s.dev id = false) ∧
    (∃ s : State, ∃ ini : Initiator, ∃ id : Nat, Runs s.dev ∧ Writable s.dev ini (pg .key .east) 0x058 ∧ keyIndex? s.dev = some id ∧
      keyState s.dev id ≠ 0 ∧ boundSlot s.dev id = false ∧ ((id < 8192 ∨ 8196 < id))) :=
  ⟨⟨st (fset (kh 77 0 1 0) .east KEY_SRC_OFFSET (2 ^ 19 - 64)), .docent, 77, 64, by decide +kernel, wr_ok (by decide +kernel),
     by decide +kernel, by decide +kernel, by first | decide +kernel | rfl, by decide +kernel⟩,
   ⟨st (kh 77 0 1 0), .docent, 77, by decide +kernel, wr_ok (by decide +kernel), by and_intros <;> decide +kernel⟩,
   ⟨st (fset (kh 77 0 1 0) .east KEY_SRC_OFFSET (2 ^ 19 - 72)), .docent, 77, 64, 8197, by decide +kernel, wr_ok (by decide +kernel),
     by decide +kernel, by decide +kernel, by first | decide +kernel | rfl, by and_intros <;> decide +kernel⟩,
   ⟨st (kh 77 1 1 0), .docent, 77, by decide +kernel, wr_ok (by decide +kernel), by and_intros <;> decide +kernel⟩,
   ⟨st (kh 77 2 1 0), .docent, 77, by decide +kernel, wr_ok (by decide +kernel), by and_intros <;> decide +kernel⟩,
   ⟨st (kh 77 2 1 0), .docent, 77, by decide +kernel, wr_ok (by decide +kernel), by and_intros <;> decide +kernel⟩⟩

theorem met_KeysAndBindingsAct_2 :
    (∃ s : State, ∃ ini : Initiator, ∃ id : Nat, ∃ n : Nat, ∃ k : Nat, Runs s.dev ∧ Writable s.dev ini (pg .key .east) 0x058 ∧
      keyIndex? s.dev = some id ∧ keyState s.dev id = 2 ∧ n = keyBytes (keyKind s.dev id) ∧ keySrc s.dev + n + 8 ≤ 2 ^ 19 ∧
      wrapSlot? s.dev = some k) ∧
    (∃ s : State, ∃ ini : Initiator, ∃ i : Nat, ∃ b : Binding, Runs s.dev ∧ Writable s.dev ini (pg .key .east) 0x06C ∧
      i = fget s.dev .east KEY_BIND_INDEX_INDEX ∧ b = staged s.dev ∧ bindable s.dev i b.mediaSlot 1 0 = true ∧
      bindable s.dev i b.fpSlot 4 1 = true ∧ tabGet? s.dev.bindings i = none) ∧
    (∃ s : State, ∃ ini : Initiator, ∃ i : Nat, Runs s.dev ∧ Writable s.dev ini (pg .key .east) 0x06C ∧
      i = fget s.dev .east KEY_BIND_INDEX_INDEX ∧ tabHas s.dev.bindings i = true ∧ ((∀ e ∈ s.dev.cat.nss, e.2.coll ≠ i))) :=
  ⟨⟨st (kh 77 2 1 0), .docent, 77, 64, 8197, by decide +kernel, wr_ok (by decide +kernel), by decide +kernel, by decide +kernel,
     by first | decide +kernel | rfl, by and_intros <;> decide +kernel⟩,
   ⟨st bkh, .docent, 0, bnd, by decide +kernel, wr_ok (by decide +kernel), by first | decide +kernel | rfl,
     by first | decide +kernel | rfl, by and_intros <;> decide +kernel⟩,
   ⟨st { bkh with bindings := [(0, bnd)] }, .docent, 0, by decide +kernel, wr_ok (by decide +kernel), by first | decide +kernel | rfl,
     by and_intros <;> decide +kernel⟩⟩

theorem met_DocentAnswersRequests_1 :
    (∃ s : State, ∃ r : SignedReq, ∃ slot : Nat, ∃ kind : Nat, ∃ usage : Nat, ∃ coll : Nat, ∃ blob : Nat, ∃ k : Nat, ∃ system : Bool,
      Runs s.dev ∧ SignedTaken s.dev r ∧ slot < 8192 ∧ coll < 4096 ∧ kind < 8 ∧ usage < 8 ∧ dataUsage kind usage = true ∧
      keyState s.dev slot = 0 ∧ s.dev.doc.noKeys = false ∧ s.dev.doc.importKey = some k) ∧
    (∃ s : State, ∃ r : SignedReq, ∃ i : Nat, ∃ e : Word × Word, ∃ uids : List Nat, ∃ b : Binding, Runs s.dev ∧ SignedTaken s.dev r ∧
      i < 4096 ∧ uids.length ≤ 16 ∧ b = staged { s.dev with doc := { s.dev.doc with stageId := e.1, stageSlots := e.2 } } ∧
      bindable s.dev i b.mediaSlot 1 0 = true ∧ bindable s.dev i b.fpSlot 4 1 = true ∧ tabGet? s.dev.bindings i = none) ∧
    (∃ s : State, ∃ r : SignedReq, ∃ i : Nat, Runs s.dev ∧ SignedTaken s.dev r ∧ i < 4096 ∧ tabHas s.dev.bindings i = true ∧
      ((∀ e ∈ s.dev.cat.nss, e.2.coll ≠ i))) ∧
    (∃ s : State, ∃ r : SignedReq, ∃ slot : Nat, Runs s.dev ∧ SignedTaken s.dev r ∧ slot < 8192 ∧ keyState s.dev slot ≠ 0 ∧
      boundSlot s.dev slot = false) ∧
    (∃ s : State, ∃ entry : Nat, ∃ mask : Nat, Runs s.dev ∧ firmwareRuns s.dev = true ∧ mask % 2 ^ 10 = 0 ∧ mask < 2 ^ 24) ∧
    (∃ s : State, ∃ entry : Nat, ∃ nonce : Nat, Runs s.dev ∧ firmwareRuns s.dev = true) :=
  ⟨⟨st (dh (fun d => { d with importKey := some 5 })), sr (dh (fun d => { d with importKey := some 5 })), 8191, 1, 1, 4095, 9, 5, false,
     by decide +kernel, ⟨by decide +kernel, rfl, by decide +kernel, by decide +kernel, by decide +kernel⟩, by and_intros <;> decide +kernel⟩,
   ⟨st bkh, sr bkh, 0, (0, 0x00020001), [1, 2], bnd, by decide +kernel,
     ⟨by decide +kernel, rfl, by decide +kernel, by decide +kernel, by decide +kernel⟩, by decide +kernel, by decide +kernel,
     by first | decide +kernel | rfl, by and_intros <;> decide +kernel⟩,
   ⟨st { bkh with bindings := [(0, bnd)] }, sr { bkh with bindings := [(0, bnd)] }, 0, by decide +kernel,
     ⟨by decide +kernel, rfl, by decide +kernel, by decide +kernel, by decide +kernel⟩, by and_intros <;> decide +kernel⟩,
   ⟨st (kh 77 2 1 0), sr (kh 77 2 1 0), 77, by decide +kernel,
     ⟨by decide +kernel, rfl, by decide +kernel, by decide +kernel, by decide +kernel⟩, by and_intros <;> decide +kernel⟩,
   ⟨st (dh id), 63, 0x800400, by and_intros <;> decide +kernel⟩,
   ⟨st (dh id), 63, 7, by and_intros <;> decide +kernel⟩⟩

theorem met_DocentAnswersRequests_2 :
    (∃ s : State, ∃ entry : Nat, ∃ ids : Nat, ∃ p : AgreePurpose, Runs s.dev ∧ firmwareRuns s.dev = true) ∧
    (∃ s : State, ∃ entry : Nat, ∃ slot : Nat, ∃ epoch : Nat, ∃ c : Nat, ∃ m : AgreeMsg, ∃ a : Agree, Runs s.dev ∧
      firmwareRuns s.dev = true ∧ s.dev.doc.agree = some a ∧ m.purpose = .collection c ∧ a.purpose = m.purpose ∧ a.ids = m.ids ∧
      m.chainOk = true ∧ m.sigOk = true ∧ peerPermitted s.dev m = true ∧ slot < 8192 ∧ c < 4096 ∧ keyState s.dev slot = 0 ∧
      s.dev.doc.noKeys = false) ∧
    (∃ s : State, ∃ r : SignedReq, Runs s.dev ∧ SignedTaken s.dev r) ∧
    (∃ s : State, ∃ r : SignedReq, ∃ custodian : Nat, Runs s.dev ∧ SignedTaken s.dev r ∧ lifecycle s.dev = 1) ∧
    (∃ s : State, ∃ r : SignedReq, ∃ digest : Nat, Runs s.dev ∧ SignedTaken s.dev r ∧ s.dev.doc.custodians.length < 8) ∧
    (∃ s : State, ∃ r : SignedReq, ∃ uids : List Nat, Runs s.dev ∧ SignedTaken s.dev r) :=
  ⟨⟨st (dh id), 63, 0, .system, by and_intros <;> decide +kernel⟩,
   ⟨st (dh (fun d => { d with agree := some ⟨.collection 0, 5, 6, 7⟩, peers := [(0, [9])] })), 63, 8191, 1, 0,
     ⟨9, 2, .collection 0, 5, 6, 7, true, true, true⟩, ⟨.collection 0, 5, 6, 7⟩, by and_intros <;> decide +kernel⟩,
   ⟨st (dh id), sr (dh id), by decide +kernel, ⟨by decide +kernel, rfl, by decide +kernel, by decide +kernel, by decide +kernel⟩⟩,
   ⟨st (dh id), sr (dh id), 5, by decide +kernel, ⟨by decide +kernel, rfl, by decide +kernel, by decide +kernel, by decide +kernel⟩,
     by decide +kernel⟩,
   ⟨st (dh id), sr (dh id), 5, by decide +kernel, ⟨by decide +kernel, rfl, by decide +kernel, by decide +kernel, by decide +kernel⟩,
     by decide +kernel⟩,
   ⟨st (dh id), sr (dh id), [4, 5], by decide +kernel, ⟨by decide +kernel, rfl, by decide +kernel, by decide +kernel, by decide +kernel⟩⟩⟩

theorem met_DocentAnswersRequests_3 :
    (∃ s : State, ∃ entry : Nat, ∃ mirrors : Nat, ∃ rings : List Nat, Runs s.dev ∧ firmwareRuns s.dev = true ∧ mirrors < 512 ∧
      ((∀ n ∈ rings, fget s.dev (wingOf (n / 1024)) CPU_RING_CFG_ENABLE (n % 1024) = 0))) ∧
    (∃ s : State, ∃ r : SignedReq, ∃ a : Nat, ∃ b : Nat, ∃ c : Nat, ∃ d : Nat, ∃ e : Nat, ∃ f : Nat, ∃ sys : Bool, ∃ w : Word × Word,
      ∃ l : List Nat, ∃ i, Runs s.dev ∧ firmwareRuns s.dev = true ∧
      (r.uid ≠ pget s.dev .east CHP_UID_LO_UID CHP_UID_HI_UID ∨ r.counter ≤ s.dev.doc.counter ∨ r.sigOk = false) ∧
      i ∈ [(Instr.importKey r a b c sys d e, 1), (.reqBind r a w l, 2), (.reqUnbind r a, 3), (.reqZeroise r a, 4), (.clearRecorder r, 8), (.reqLifecycle r a f, 9), (.reqCustodian r a, 10), (.reqFederation r l, 11)]) :=
  ⟨⟨st (dh id), 63, 511, [2047], by and_intros <;> decide +kernel⟩,
   ⟨st (dh id), { sr (dh id) with counter := 0 }, 1, 1, 1, 1, 1, 1, false, (0, 0), [],
     (Instr.reqZeroise { sr (dh id) with counter := 0 } 1, 4), by decide +kernel, by decide +kernel, (.inr (.inl (by decide +kernel))),
     by simp⟩⟩

theorem met_ArchiveOperates_1 :
    (∃ s : State, ∃ d : Desc, Runs s.dev ∧ arcTurn s.dev 1 = some d ∧ dSystem d = true ∧ acLen d ≠ 0 ∧ acLen d ≤ 2 ^ 20 ∧
      acOffset d + acLen d ≤ 2 ^ 28 ∧ arcMemory s.dev (acAddr d) (acLen d) = true ∧ inXo s.dev (acOffset d) (acLen d) = false) ∧
    (∃ s : State, ∃ d : Desc, Runs s.dev ∧ arcTurn s.dev 5 = some d ∧ dSystem d = true ∧ acLen d = 0) ∧
    (∃ s : State, ∃ d : Desc, ∃ o : ArcOp, ∃ i, Runs s.dev ∧ recordDue s.dev = false ∧ fbit s.dev .east ARC_STATUS_STOP = false ∧
      dSystem d = true ∧ arcAsked s.dev d = some o ∧ i ∈ [(Instr.arcProgram, 2), (.arcErase, 3), (.arcClose, 4)] ∧
      arcTurn s.dev i.2 = some d) ∧
    (∃ s : State, ∃ d : Desc, ∃ i, Runs s.dev ∧ recordDue s.dev = false ∧ fbit s.dev .east ARC_STATUS_STOP = false ∧ dSystem d = true ∧
      arcAsked s.dev d = none ∧ i ∈ [(Instr.arcProgram, 2), (.arcErase, 3), (.arcClose, 4)] ∧ arcTurn s.dev i.2 = some d) ∧
    (∃ s : State, ∃ e : PulseEnd, ∃ o : ArcOp, Runs s.dev ∧ s.dev.arc.op = some o ∧ fbit s.dev .east ARC_STATUS_STOP = false ∧
      e.fails = none) ∧
    (∃ s : State, ∃ e : PulseEnd, ∃ o : ArcOp, ∃ ws : List Nat, ∃ i : Nat, ∃ tag : Nat, ∃ quiet : Bool, Runs s.dev ∧
      s.dev.arc.op = some o ∧ fbit s.dev .east ARC_STATUS_STOP = false ∧ o.work = .program ws ∧ e.fails = some i ∧ i < ws.length ∧
      o.job = .queue tag quiet ∧ o.offset + 32 * i < 2 ^ 28) :=
  ⟨⟨st (qh (ds [(0, 1), (2, 0x1000), (4, 9), (8, 0x0FFFFFF0), (12, 16), (16, 0x100)])),
     ds [(0, 1), (2, 0x1000), (4, 9), (8, 0x0FFFFFF0), (12, 16), (16, 0x100)], by and_intros <;> decide +kernel⟩,
   ⟨st (qh (ds [(0, 5), (2, 0x1000), (4, 9)])), ds [(0, 5), (2, 0x1000), (4, 9)], by and_intros <;> decide +kernel⟩,
   ⟨st (qh (ds [(0, 3), (2, 0x1000), (4, 9), (8, 0x0FFFF000), (12, 0x1000)])),
     ds [(0, 3), (2, 0x1000), (4, 9), (8, 0x0FFFF000), (12, 0x1000)], ⟨.queue 9 false, 0x0FFFF000, .erase 1⟩, (Instr.arcErase, 3),
     by refine ⟨?_, ?_, ?_, ?_, ?_, by simp, ?_⟩ <;> decide +kernel⟩,
   ⟨st (qh (ds [(0, 2), (2, 0x1000), (4, 9), (8, 0x0FFFF000), (12, 31)])), ds [(0, 2), (2, 0x1000), (4, 9), (8, 0x0FFFF000), (12, 31)],
     (Instr.arcProgram, 2), by refine ⟨?_, ?_, ?_, ?_, ?_, by simp, ?_⟩ <;> decide +kernel⟩,
   ⟨st (ah (fun a => { a with op := some ⟨.queue 9 false, 0x0FFFF000, .erase 1⟩ })), ⟨1, none⟩, ⟨.queue 9 false, 0x0FFFF000, .erase 1⟩,
     by and_intros <;> decide +kernel⟩,
   ⟨st (ah (fun a => { a with op := some ⟨.queue 9 false, 0x0FFFFFE0, .program [5]⟩ })), ⟨1, some 0⟩,
     ⟨.queue 9 false, 0x0FFFFFE0, .program [5]⟩, [5], 0, 9, false, by and_intros <;> decide +kernel⟩⟩

theorem met_ArchiveOperates_2 :
    (∃ s : State, ∃ verified : Nat, Runs s.dev) ∧
    (∃ s : State, Runs s.dev) ∧
    (∃ s : State, Runs s.dev ∧ fbit s.dev .east ARC_STATUS_BOR = true ∧ ((∀ d, arcHead? s.dev = some d → 1 ≤ dOpcode d ∧ dOpcode d ≤ 5)) ∧
      ((∀ u, s.dev.arc.upd = some u → inXo s.dev (updStep s.dev u).offset 1 = false))) ∧
    (∃ s : State, ∃ ini : Initiator, ∃ r : Nat, Runs s.dev ∧ Writable s.dev ini (pg .arc .east) 0x064 ∧
      r = fget s.dev .east ARC_XO_INDEX_REGION ∧ fbit s.dev .east ARC_XO_CFG_LOCKED r = false ∧ fget s.dev .east ARC_XO_CFG_SECTORS r ≠ 0) :=
  ⟨⟨st (ah id), 0, by decide +kernel⟩,
   ⟨st (ah id), by decide +kernel⟩,
   ⟨st (fset (ah id) .east ARC_STATUS_BOR 1), by decide +kernel, by decide +kernel,
     (by intro d hd; have e : arcHead? (st (fset (ah id) .east ARC_STATUS_BOR 1)).dev = none := (by decide +kernel); rw [e] at hd; cases hd),
     (by intro u h; cases (show none = some u from h))⟩,
   ⟨st (fset (fset (ah id) .east ARC_XO_INDEX_REGION 7) .east ARC_XO_CFG_SECTORS 1 7), .docent, 7, by decide +kernel,
     wr_ok (by decide +kernel), by first | decide +kernel | rfl, by and_intros <;> decide +kernel⟩⟩

theorem met_RecorderKeepsItsOrder_1 :
    (∃ s : State, ∃ ev : Nat, ∃ w : Wing, Runs s.dev ∧ ev < 1024 ∧ Recordable s.dev ev 0) ∧
    (∃ s : State, ∃ ev : Nat, ∃ w : Wing, ∃ r : RecEntry, Runs s.dev ∧ ev < 1024 ∧ s.dev.arc.recs = [r] ∧ r.hold = true ∧ r.source = ev ∧
      r.code = 0) ∧
    (∃ s : State, ∃ ev : Nat, ∃ w : Wing, Runs s.dev ∧ ev < 1024 ∧ 64 ≤ s.dev.arc.recs.length ∧
      ((∀ r ∈ s.dev.arc.recs, r.hold = true → r.source = ev → r.code = 0 → False))) ∧
    (∃ s : State, ∃ ini : Initiator, Runs s.dev ∧ Writable s.dev ini (pg .prv .east) 0x080 ∧ fget s.dev .east PRV_REC_CMD_WRITE = 0 ∧
      Recordable s.dev (fget s.dev .east PRV_REC_HDR_SOURCE) (fget s.dev .east PRV_REC_HDR_CODE)) ∧
    (∃ s : State, ∃ seq : Nat, Runs s.dev) ∧
    (∃ s : State, ∃ r : RecEntry, ∃ l : List RecEntry, Runs s.dev ∧ s.dev.arc.recs = r :: l ∧ r.hold = false ∧ s.dev.arc.op = none ∧
      fbit s.dev .east ARC_STATUS_STOP = false ∧ s.dev.arc.perm < 4096 ∧ l.length < 64 ∧ running s.dev (pg .arc .east) = true ∧
      ((∀ u, s.dev.arc.upd = some u → inXo s.dev (updStep s.dev u).offset 1 = false))) :=
  ⟨⟨st (ah id), 1023, .west, by decide +kernel, by decide +kernel, by unfold Recordable; decide +kernel⟩,
   ⟨st (ah (fun a => { a with recs := [re1] })), 77, .east, re1, by and_intros <;> decide +kernel⟩,
   ⟨st (ah (fun a => { a with recs := List.replicate 64 re1 })), 78, .east, by and_intros <;> decide +kernel⟩,
   ⟨st (fset (ah id) .east PRV_REC_HDR_SOURCE 1000), .docent, by decide +kernel, wr_ok (by decide +kernel), by decide +kernel,
     by unfold Recordable; decide +kernel⟩,
   ⟨st (ah (fun a => { a with recs := [re1] })), 0, by decide +kernel⟩,
   ⟨st (ah (fun a => { a with recs := [{ re1 with hold := false }], perm := 4095 })), { re1 with hold := false }, [],
     by and_intros <;> decide +kernel⟩⟩

theorem met_RecorderKeepsItsOrder_2 :
    (∃ s : State, ∃ r : RecEntry, ∃ l : List RecEntry, ∃ c : Nat, Runs s.dev ∧ s.dev.arc.recs = r :: l ∧ r.hold = false ∧
      s.dev.arc.op = none ∧ fbit s.dev .east ARC_STATUS_STOP = false ∧ 4096 ≤ s.dev.arc.perm ∧ c = s.dev.arc.circNext ∧ c < 4160 ∧
      running s.dev (pg .arc .east) = true ∧ ((∀ u, s.dev.arc.upd = some u → inXo s.dev (updStep s.dev u).offset 1 = false))) ∧
    (∃ s : State, ∃ r : RecEntry, ∃ l : List RecEntry, Runs s.dev ∧ s.dev.arc.recs = r :: l ∧ r.hold = false ∧ s.dev.arc.op = none ∧
      fbit s.dev .east ARC_STATUS_STOP = false ∧ s.dev.arc.perm < 4096 ∧ running s.dev (pg .arc .east) = true ∧
      ((∀ u, s.dev.arc.upd = some u → inXo s.dev (updStep s.dev u).offset 1 = false))) ∧
    (∃ s : State, Runs s.dev ∧ s.dev.arc.tally < 2 ∧ s.dev.arc.tallyUsed < 127 ∧ arcWord s.dev ((5 + s.dev.arc.tally) * 128) ≠ erasedWord) ∧
    (∃ s : State, ∃ ini : Initiator, Runs s.dev ∧ Writable s.dev ini (pg .prv .east) 0x040) :=
  ⟨⟨st (ah (fun a => { a with recs := [{ re1 with hold := false }], perm := 4096, circNext := 4159 })), { re1 with hold := false }, [],
     4159, by refine ⟨?_, ?_, ?_, ?_, ?_, ?_, by first | decide +kernel | rfl, ?_, ?_, ?_⟩ <;> decide +kernel⟩,
   ⟨st (ah (fun a => { a with recs := [{ re1 with hold := false }] })), { re1 with hold := false }, [], by and_intros <;> decide +kernel⟩,
   ⟨st (ah (fun a => { a with tally := 1, tallyUsed := 126, words := [(6 * 128, 5)] })), by and_intros <;> decide +kernel⟩,
   ⟨st (ah id), .docent, by decide +kernel, wr_ok (by decide +kernel)⟩⟩

theorem met_UpdatesAndWatchdogs_1 :
    (∃ s : State, ∃ ini : Initiator, ∃ slot : Nat, ∃ len : Nat, Runs s.dev ∧ Writable s.dev ini (pg .upd .east) 0x040 ∧ slot < 4 ∧
      fbit s.dev .east UPD_STATUS_BUSY = false ∧ running s.dev (pg .upd .east) = true ∧ len = fget s.dev .east UPD_LENGTH_BYTES ∧
      ((slot = slotInForce s.dev (decide (2 ≤ slot)) → slot < 2 ∧ fbit s.dev .east UPD_STATUS_RECOVERED = true)) ∧
      fbit s.dev .east (if 2 ≤ slot then DOC_STATUS_OS_TRIAL else DOC_STATUS_DOC_TRIAL) = false ∧ len ≠ 0 ∧ len % 32 = 0 ∧
      len ≤ slotSize slot ∧ inXo s.dev (0x1000 + 0x1000 * slot) 1 = false) ∧
    (∃ s : State, ∃ ini : Initiator, ∃ slot : Nat, ∃ len : Nat, Runs s.dev ∧ Writable s.dev ini (pg .upd .east) 0x040 ∧ slot < 4 ∧
      fbit s.dev .east UPD_STATUS_BUSY = false ∧ running s.dev (pg .upd .east) = true ∧ len = fget s.dev .east UPD_LENGTH_BYTES ∧
      ((slot = slotInForce s.dev (decide (2 ≤ slot)) ∧ (2 ≤ slot ∨ fbit s.dev .east UPD_STATUS_RECOVERED = false)) ∨ fbit s.dev .east (if 2 ≤ slot then DOC_STATUS_OS_TRIAL else DOC_STATUS_DOC_TRIAL) = true ∨ len = 0 ∨ len % 32 ≠ 0 ∨ slotSize slot < len)) ∧
    (∃ s : State, ∃ ini : Initiator, ∃ u : UpdWrite, Runs s.dev ∧ Writable s.dev ini (pg .upd .east) 0x040 ∧ s.dev.arc.upd = some u ∧
      ((∀ o, s.dev.arc.op = some o → o.job ≠ .upd))) ∧
    (∃ s : State, ∃ os : Bool, ∃ f : Nat, ∃ slot : Nat, Runs s.dev ∧ firmwareRuns s.dev = true ∧
      fbit s.dev .east UPD_STATUS_BUSY = false ∧ fbit s.dev .east (if os then DOC_STATUS_OS_TRIAL else DOC_STATUS_DOC_TRIAL) = false ∧
      f = memRead s.dev (stageAddr s.dev + 4) 4 ∧ f ≠ 0 ∧ f % 32 = 0 ∧ f ≤ (if os then 0x4000000 else 0x100000) ∧
      slot = (if os then 3 - fget s.dev .east DOC_STATUS_OS_SLOT else 1 - fget s.dev .east DOC_STATUS_DOC_SLOT) ∧
      inXo s.dev (0x1000 + 0x1000 * slot) 1 = false) ∧
    (∃ s : State, ∃ u : UpdWrite, Runs s.dev ∧ firmwareRuns s.dev = true ∧ s.dev.arc.upd = some u) ∧
    (∃ s : State, ∃ ini : Initiator, ∃ os : Bool, ∃ up : Bool, ∃ k : Nat, Runs s.dev ∧ Writable s.dev ini (pg .upd .east) 0x058 ∧
      fbit s.dev .east (if os then DOC_STATUS_OS_TRIAL else DOC_STATUS_DOC_TRIAL) = true ∧ k = controlWord (slotInForce s.dev os) 2) :=
  ⟨⟨st (fset (ah id) .east UPD_LENGTH_BYTES 0x4000000), .docent, 3, 0x4000000, by decide +kernel, wr_ok (by decide +kernel),
     by decide +kernel, by decide +kernel, by decide +kernel, by first | decide +kernel | rfl, by and_intros <;> decide +kernel⟩,
   ⟨st (ah id), .docent, 3, 0, by decide +kernel, wr_ok (by decide +kernel), by decide +kernel, by decide +kernel, by decide +kernel,
     by first | decide +kernel | rfl, by decide +kernel⟩,
   ⟨st (ah (fun a => { a with upd := some ⟨3, 32, 1, 0, false, 5⟩ })), .docent, ⟨3, 32, 1, 0, false, 5⟩, by decide +kernel,
     wr_ok (by decide +kernel), by decide +kernel, (by intro o h; cases (show none = some o from h))⟩,
   ⟨st { ah id with mem := memPut [] 4 4 0x100000 }, false, 0x100000, 1,
     by refine ⟨?_, ?_, ?_, ?_, by first | decide +kernel | rfl, ?_, ?_, ?_, ?_, ?_⟩ <;> decide +kernel⟩,
   ⟨st (ah (fun a => { a with upd := some ⟨3, 32, 1, 0, true, 5⟩ })), ⟨3, 32, 1, 0, true, 5⟩, by and_intros <;> decide +kernel⟩,
   ⟨st (fset (ah id) .east DOC_STATUS_OS_TRIAL 1), .docent, true, false, controlWord 2 2, by decide +kernel, wr_ok (by decide +kernel),
     by decide +kernel, by first | decide +kernel | rfl⟩⟩

theorem met_UpdatesAndWatchdogs_2 :
    (∃ s : State, Runs s.dev ∧ firmwareRuns s.dev = true ∧ fbit s.dev .east DOC_STATUS_OS_TRIAL = true) ∧
    (∃ s : State, ∃ off : Nat, ∃ len : Nat, ∃ data : Nat, Runs s.dev ∧ fget s.dev .east DOC_STATUS_STAGE = 3 ∧ len ≤ 1024 ∧
      off + len ≤ 2 ^ 19) ∧
    (∃ s : State, Runs s.dev ∧ fget s.dev .east DOC_STATUS_STAGE = 3) ∧
    (∃ s : State, ∃ len : Nat, Runs s.dev ∧ fget s.dev .east DOC_STATUS_STAGE = 3 ∧ len ≤ 448 * 1024) ∧
    (∃ s : State, ∃ len : Nat, Runs s.dev ∧ 448 * 1024 < len) ∧
    (∃ s : State, ∃ ini : Initiator, ∃ bits : Nat, Runs s.dev ∧ Writable s.dev ini (pg .wdg .east) 0x048) :=
  ⟨⟨st (fset (ah id) .east DOC_STATUS_OS_TRIAL 1), by and_intros <;> decide +kernel⟩,
   ⟨st (fset (ah id) .east DOC_STATUS_STAGE 3), 2 ^ 19 - 1024, 1024, 0x77, by and_intros <;> decide +kernel⟩,
   ⟨st (fset (ah id) .east DOC_STATUS_STAGE 3), by and_intros <;> decide +kernel⟩,
   ⟨st (fset (ah id) .east DOC_STATUS_STAGE 3), 448 * 1024, by and_intros <;> decide +kernel⟩,
   ⟨st (fset (ah id) .east DOC_STATUS_STAGE 3), 448 * 1024 + 1, by and_intros <;> decide +kernel⟩,
   ⟨st (ah id), .docent, 7, by decide +kernel, wr_ok (by decide +kernel)⟩⟩

theorem met_UpdatesAndWatchdogs_3 :
    (∃ s : State, ∃ n : Nat, Runs s.dev ∧ n < 3 ∧ fbit s.dev .east WDG_CFG_ENABLE n = true) ∧
    (∃ s : State, ∃ n : Nat, Runs s.dev ∧ n < 3 ∧ fbit s.dev .east WDG_CFG_ENABLE n = true) :=
  ⟨⟨st (fset (ah id) .east WDG_CFG_ENABLE 1 2), 2, by and_intros <;> decide +kernel⟩,
   ⟨st (fset (ah id) .east WDG_CFG_ENABLE 1 2), 2, by and_intros <;> decide +kernel⟩⟩

theorem met_IslandsEnterAndLeaveRungs_1 :
    (∃ s : State, ∃ ini : Initiator, ∃ p : Page, ∃ v : Nat, Runs s.dev ∧ Writable s.dev ini p 0x030 ∧ 0 < v ∧ v < 8 ∧
      rungPermitted p.block v = true ∧ pageNum p ∉ s.dev.pwr.exits ∧ tabGet? s.dev.pwr.entries (pageNum p) = none ∧
      hget s.dev p STATUS_QUIESCED = 1 ∧ hget s.dev p RUNG_CURRENT < v) ∧
    (∃ s : State, ∃ ini : Initiator, ∃ p : Page, Runs s.dev ∧ Writable s.dev ini p 0x030 ∧ Sleeps s.dev p) ∧
    (∃ s : State, ∃ ini : Initiator, ∃ p : Page, ∃ v : Nat, Runs s.dev ∧ Writable s.dev ini p 0x030 ∧ 0 < v ∧ v < 8 ∧
      rungPermitted p.block v = true ∧ pageNum p ∉ s.dev.pwr.exits ∧ hget s.dev p STATUS_QUIESCED = 0) ∧
    (∃ s : State, ∃ p : Page, ∃ r : Nat, Runs s.dev ∧ pageOk p = true ∧ tabGet? s.dev.pwr.entries (pageNum p) = some (r, 0) ∧ 0 < r ∧
      r < 4 ∧ hget s.dev p RUNG_REQUEST ≤ r) ∧
    (∃ s : State, ∃ p : Page, Runs s.dev ∧ pageOk p = true ∧ tabGet? s.dev.pwr.entries (pageNum p) = some (4, 0) ∧
      rungPermitted p.block 4 = true ∧ hget s.dev p RUNG_REQUEST ≤ 4) ∧
    (∃ s : State, ∃ p : Page, ∃ r : Nat, ∃ c : Nat, Runs s.dev ∧ pageOk p = true ∧ tabGet? s.dev.pwr.entries (pageNum p) = some (r, c) ∧
      0 < c ∧ c < 256 ∧ 0 < r ∧ r < 4) :=
  ⟨⟨st (hset (wh id) dg STATUS_QUIESCED 1), .docent, dg, 4, by decide +kernel, wr_ok (by decide +kernel),
     by and_intros <;> decide +kernel⟩,
   ⟨st (hset (wh id) dg RUNG_CURRENT 3), .docent, dg, by decide +kernel, wr_ok (by decide +kernel), by unfold Sleeps; decide +kernel⟩,
   ⟨st (wh id), .docent, dg, 4, by decide +kernel, wr_ok (by decide +kernel), by and_intros <;> decide +kernel⟩,
   ⟨st (wh (fun p => { p with entries := [(pageNum dg, (3, 0))] })), dg, 3, by and_intros <;> decide +kernel⟩,
   ⟨st (wh (fun p => { p with entries := [(pageNum dg, (4, 0))] })), dg, by and_intros <;> decide +kernel⟩,
   ⟨st (wh (fun p => { p with entries := [(pageNum dg, (3, 255))] })), dg, 3, 255, by and_intros <;> decide +kernel⟩⟩

theorem met_IslandsEnterAndLeaveRungs_2 :
    (∃ s : State, ∃ n : Nat, ∃ r : Nat, Runs s.dev ∧ n < 52 ∧ tabGet? s.dev.pwr.entries (coreIsland n) = some (r, 0) ∧ r < 5) ∧
    (∃ s : State, ∃ p : Page, Runs s.dev ∧ pageOk p = true ∧ pageNum p ∈ s.dev.pwr.exits ∧ hget s.dev p RUNG_CURRENT ≠ 4 ∧
      tabHas s.dev.pwr.requests (pageNum p) = false) ∧
    (∃ s : State, ∃ p : Page, Runs s.dev ∧ pageOk p = true ∧ pageNum p ∈ s.dev.pwr.exits ∧ hget s.dev p RUNG_CURRENT = 4 ∧
      rungPermitted p.block 4 = true ∧ tabHas s.dev.pwr.requests (pageNum p) = false) ∧
    (∃ s : State, ∃ n : Nat, Runs s.dev ∧ n < 52 ∧ coreIsland n ∈ s.dev.pwr.exits ∧ coreRung s.dev n = 3 ∧ tabHas s.dev.core.waits n = true) ∧
    (∃ s : State, ∃ n : Nat, Runs s.dev ∧ n < 52 ∧ coreIsland n ∈ s.dev.pwr.exits ∧ coreRung s.dev n = 4) ∧
    (∃ s : State, ∃ w : Wing, ∃ port : Nat, Runs s.dev ∧ port < 8 ∧ (fget s.dev .east PWR_WAKE_FOY_SIGNAL).testBit port = true ∧
      Sleeps s.dev (pg .foy w port)) :=
  ⟨⟨st (wh (fun p => { p with entries := [(coreIsland 51, (4, 0))] })), 51, 4, by and_intros <;> decide +kernel⟩,
   ⟨st (hset (wh (fun p => { p with exits := [pageNum dg] })) dg RUNG_CURRENT 3), dg, by and_intros <;> decide +kernel⟩,
   ⟨st (hset (wh (fun p => { p with exits := [pageNum dg] })) dg RUNG_CURRENT 4), dg, by and_intros <;> decide +kernel⟩,
   ⟨st (fset { wh (fun p => { p with exits := [coreIsland 51] }) with core := { z.core with waits := [(51, 9)] } } .west PWR_CORE_RUNG_CURRENT 3 25),
     51, by and_intros <;> decide +kernel⟩,
   ⟨st (fset (wh (fun p => { p with exits := [coreIsland 51] })) .west PWR_CORE_RUNG_CURRENT 4 25), 51, by and_intros <;> decide +kernel⟩,
   ⟨st (hset (fset (wh id) .east PWR_WAKE_FOY_SIGNAL 0x80) (pg .foy .west 7) RUNG_CURRENT 4), .west, 7, by decide +kernel,
     by decide +kernel, by decide +kernel, by unfold Sleeps; decide +kernel⟩⟩

theorem met_IslandsEnterAndLeaveRungs_3 :
    (∃ s : State, ∃ cls : Block, ∃ w : Wing, ∃ u : Nat, Runs s.dev ∧ isUnitClass cls = true ∧ u < totalUnits cls ∧
      fget s.dev w (unitState cls) u = 0 ∧ unitBusy s.dev cls w u = false ∧ tabGet s.dev.pwr.units 0 (unitKey cls w u) = 0) ∧
    (∃ s : State, ∃ cls : Block, ∃ w : Wing, ∃ u : Nat, Runs s.dev ∧ isUnitClass cls = true ∧ u < totalUnits cls ∧
      fget s.dev w (unitState cls) u = 0 ∧ unitBusy s.dev cls w u = false ∧ tabGet s.dev.pwr.units 0 (unitKey cls w u) = 1 ∧
      fget s.dev w PWR_IDLE_RETAIN_US ≠ 0) ∧
    (∃ s : State, ∃ ini : Initiator, ∃ w : Wing, ∃ r : Nat, ∃ c : Nat, ∃ n : Nat, Runs s.dev ∧ Writable s.dev ini (pg .pwr w) 0x04C ∧
      (r = 3 ∨ r = 4) ∧ c = fget s.dev w PWR_CORE_INDEX_CORE ∧ c < 26 ∧ n = hartOf w c ∧ coreRung s.dev n < 3 ∧
      fbit s.dev w PWR_CORE_RUNG_IN_TRANSIT c = false) ∧
    (∃ s : State, ∃ ini : Initiator, ∃ w : Wing, ∃ c : Nat, ∃ n : Nat, Runs s.dev ∧ Writable s.dev ini (pg .pwr w) 0x04C ∧
      c = fget s.dev w PWR_CORE_INDEX_CORE ∧ c < 26 ∧ n = hartOf w c ∧ 3 ≤ coreRung s.dev n ∧ coreIsland n ∉ s.dev.pwr.exits ∧
      tabGet? s.dev.pwr.entries (coreIsland n) = none) :=
  ⟨⟨st (wh id), .cph, .west, 0, by and_intros <;> decide +kernel⟩,
   ⟨st (fset (wh (fun p => { p with units := [(unitKey .cph .west 0, 1)] })) .west PWR_IDLE_RETAIN_US 100), .cph, .west, 0,
     by and_intros <;> decide +kernel⟩,
   ⟨st (fset (wh id) .west PWR_CORE_INDEX_CORE 25), .docent, .west, 4, 25, 51, by decide +kernel, wr_ok (by decide +kernel),
     by first | decide +kernel | rfl, by first | decide +kernel | rfl, by decide +kernel, by first | decide +kernel | rfl,
     by and_intros <;> decide +kernel⟩,
   ⟨st (fset (fset (wh id) .west PWR_CORE_INDEX_CORE 25) .west PWR_CORE_RUNG_CURRENT 3 25), .docent, .west, 25, 51, by decide +kernel,
     wr_ok (by decide +kernel), by first | decide +kernel | rfl, by decide +kernel, by first | decide +kernel | rfl,
     by and_intros <;> decide +kernel⟩⟩

theorem met_ModesSagAndHeat_1 :
    (∃ s : State, ∃ ini : Initiator, Runs s.dev ∧ Writable s.dev ini (pg .pwr .east) 0x040 ∧ chipMode s.dev = 0 ∧
      fbit s.dev .east PWR_MODE_IN_TRANSIT = false) ∧
    (∃ s : State, Runs s.dev ∧ s.dev.pwr.toServing = some true) ∧
    (∃ s : State, ∃ ini : Initiator, Runs s.dev ∧ Writable s.dev ini (pg .pwr .east) 0x040 ∧ chipMode s.dev = 1 ∧
      fbit s.dev .east PWR_MODE_IN_TRANSIT = false ∧ (pairState s.dev = 0 ∨ pairState s.dev = 7) ∧
      ((∀ e ∈ s.dev.cat.nss, e.2.owned = false)) ∧ fget s.dev .east VIT_QUOTA_NOW_PAIR_DIRTY_MIB = 0) ∧
    (∃ s : State, Runs s.dev ∧ s.dev.pwr.toServing = some false) ∧
    (∃ s : State, ∃ w : Wing, ∃ d : Nat, Runs s.dev ∧ d < 64) ∧
    (∃ s : State, ∃ w : Wing, ∃ d : Nat, ∃ core : Nat, ∃ engMesh : Nat, Runs s.dev ∧ d < 64) :=
  ⟨⟨st (wh id), .docent, by decide +kernel, wr_ok (by decide +kernel), by and_intros <;> decide +kernel⟩,
   ⟨st (wh (fun p => { p with toServing := some true })), by and_intros <;> decide +kernel⟩,
   ⟨st (fset (wh id) .east PWR_MODE_MODE 1), .docent, by decide +kernel, wr_ok (by decide +kernel), by and_intros <;> decide +kernel⟩,
   ⟨st (wh (fun p => { p with toServing := some false })), by and_intros <;> decide +kernel⟩,
   ⟨st (wh id), .west, 63, by and_intros <;> decide +kernel⟩,
   ⟨st (wh (fun p => { p with droops := [127] })), .west, 63, 9, 9, by and_intros <;> decide +kernel⟩⟩

theorem met_ModesSagAndHeat_2 :
    (∃ s : State, ∃ w : Wing, ∃ r : Nat, Runs s.dev ∧ r < 3 ∧ sagging s.dev w r = false ∧ railLow s.dev w r = true) ∧
    (∃ s : State, ∃ w : Wing, ∃ r : Nat, Runs s.dev ∧ r < 3 ∧ sagging s.dev w r = true) ∧
    (∃ s : State, ∃ w : Wing, ∃ r : Nat, Runs s.dev ∧ r < 3 ∧ railLow s.dev w r = false) ∧
    (∃ s : State, ∃ w : Wing, ∃ die : Int, ∃ hbm : Int, ∃ sensor : Nat, Runs s.dev ∧ -128 ≤ die ∧ die ≤ 127 ∧ -128 ≤ hbm ∧ hbm ≤ 127 ∧
      sensor < 32) ∧
    (∃ s : State, ∃ w : Wing, Runs s.dev ∧ ((fget s.dev w PWR_THERM_THROTTLE_C : Nat) : Int) < hotDie s.dev) :=
  ⟨⟨st (wh (fun p => { p with droops := [127] })), .west, detectorRail 63, by and_intros <;> decide +kernel⟩,
   ⟨st (wh (fun p => { p with sags := [railKey .west 2] })), .west, 2, by and_intros <;> decide +kernel⟩,
   ⟨st (wh (fun p => { p with sags := [railKey .west 2] })), .west, 2, by and_intros <;> decide +kernel⟩,
   ⟨st (wh id), .west, -128, 127, 31, by and_intros <;> decide +kernel⟩,
   ⟨st (fset (fset (wh id) .west PWR_TEMP_DIE_MAX_C 100) .west PWR_THERM_THROTTLE_C 99), .west, by and_intros <;> decide +kernel⟩⟩

theorem met_SamplesSetDuties_1 :
    (∃ s : State, ∃ v : Nat, ∃ k : Nat, ∃ a : Nat, ∃ b : Nat, ∃ carrier : Nat, ∃ vb : Nat, ∃ vk : Nat, Runs s.dev ∧ s.dev.rsv.due = none ∧
      [1, 2, 3, 6].contains (rsvMode s.dev) = true ∧ vb = v % 4096 ∧ vk = k % 4096 ∧ vk ≤ 3100 ∧
      fget (takeSample s.dev (some vb) (some vk) (some (a % 4096)) (some (b % 4096))) .east RSV_STATUS_FROZEN = 0) ∧
    (∃ s : State, ∃ v : Option Nat, ∃ k : Option Nat, ∃ a : Option Nat, ∃ b : Option Nat, ∃ carrier : Nat, Runs s.dev ∧
      (v = none ∨ k = none ∨ a = none ∨ b = none)) ∧
    (∃ s : State, ∃ b : Bool, Runs s.dev ∧ phaseOff s.dev b = false) ∧
    (∃ s : State, ∃ b : Bool, Runs s.dev ∧ phaseOff s.dev b = false) ∧
    (∃ s : State, ∃ b : Bool, ∃ positive : Bool, Runs s.dev ∧ phaseOff s.dev b = false ∧
      (if b then s.dev.rsv.cutB else s.dev.rsv.cutA) = none) ∧
    (∃ s : State, ∃ ini : Initiator, ∃ v : Nat, Runs s.dev ∧ Writable s.dev ini (pg .rsv .east) 0x040 ∧ v ≤ 4 ∧
      ((v = 4 → chipMode s.dev = 0)) ∧ ((rsvMode s.dev = 5 → 16 ≤ s.dev.rsv.good))) :=
  ⟨⟨st (rvh 1 id), 3000, 3000, 2048, 2048, 0, 3000, 3000, by decide +kernel, by decide +kernel, by decide +kernel,
     by first | decide +kernel | rfl, by first | decide +kernel | rfl, by and_intros <;> decide +kernel⟩,
   ⟨st (rvh 1 id), some 3000, none, some 2048, some 2048, 0, by decide +kernel, by first | decide +kernel | rfl⟩,
   ⟨st (rvh 1 id), true, by and_intros <;> decide +kernel⟩,
   ⟨st (rvh 1 id), true, by and_intros <;> decide +kernel⟩,
   ⟨st (rvh 1 id), true, true, by and_intros <;> decide +kernel⟩,
   ⟨st (rvh 5 (fun r => { r with good := 16 })), .docent, 4, by decide +kernel, wr_ok (by decide +kernel),
     by and_intros <;> decide +kernel⟩⟩

theorem met_SamplesSetDuties_2 :
    (∃ s : State, ∃ ini : Initiator, Runs s.dev ∧ Writable s.dev ini (pg .rsv .east) 0x040 ∧ s.dev.rsv.goodK ≤ 3100 ∧ rsvMode s.dev ≠ 5) ∧
    (∃ s : State, ∃ ini : Initiator, Runs s.dev ∧ Writable s.dev ini (pg .rsv .east) 0x040 ∧ 3100 < s.dev.rsv.goodK) ∧
    (∃ s : State, ∃ ini : Initiator, ∃ pos : Nat, Runs s.dev ∧ Writable s.dev ini (pg .rsv .east) 0x068 ∧ rsvMode s.dev = 4 ∧
      phaseOff s.dev false = false ∧ phaseOff s.dev true = false) :=
  ⟨⟨st (rvh 1 (fun r => { r with goodK := 3100 })), .docent, by decide +kernel, wr_ok (by decide +kernel),
     by and_intros <;> decide +kernel⟩,
   ⟨st (rvh 1 (fun r => { r with goodK := 3101 })), .docent, by decide +kernel, wr_ok (by decide +kernel), by decide +kernel⟩,
   ⟨st (rvh 4 id), .docent, 0, by decide +kernel, wr_ok (by decide +kernel), by and_intros <;> decide +kernel⟩⟩

theorem met_BankPowerFailureAndDump_1 :
    (∃ s : State, ∃ ini : Initiator, Runs s.dev ∧ Writable s.dev ini (pg .rsv .east) 0x0AC ∧ rsvMode s.dev = 2 ∧ s.dev.rsv.health = none) ∧
    (∃ s : State, ∃ ini : Initiator, Runs s.dev ∧ Writable s.dev ini (pg .rsv .east) 0x0AC ∧ rsvMode s.dev ≠ 2) ∧
    (∃ s : State, ∃ t : HealthTest, Runs s.dev ∧ rsvMode s.dev = 6 ∧ s.dev.rsv.health = some t) ∧
    (∃ s : State, Runs s.dev ∧ rsvMode s.dev = 5) ∧
    (∃ s : State, ∃ u : Nat, ∃ t : Nat, Runs s.dev ∧ rg s.dev RSV_ALLOW_CFG_POWER_W ≠ 0 ∧
      u = (s.dev.rsv.vk * 16) ^ 2 - rg s.dev RSV_BANK_VMIN_MV ^ 2 ∧
      t = (if s.dev.rsv.vk * 16 ≤ rg s.dev RSV_BANK_VMIN_MV then 0 else bankCap s.dev * u / 2000000) / rg s.dev RSV_ALLOW_CFG_POWER_W) ∧
    (∃ s : State, ∃ ok : Bool, Runs s.dev ∧ fbit s.dev .east RSV_STATUS_MAINS_OK = !ok) :=
  ⟨⟨st (rvh 2 id), .docent, by decide +kernel, wr_ok (by decide +kernel), by and_intros <;> decide +kernel⟩,
   ⟨st (rvh 1 id), .docent, by decide +kernel, wr_ok (by decide +kernel), by decide +kernel⟩,
   ⟨st (rvh 6 (fun r => { r with health := some ⟨1024, 190000, 47000, -90000, 100, 46000, none⟩ })),
     ⟨1024, 190000, 47000, -90000, 100, 46000, none⟩, by and_intros <;> decide +kernel⟩,
   ⟨st (rvh 5 id), by and_intros <;> decide +kernel⟩,
   ⟨st (fset (rvh 2 (fun r => { r with vk := 3000 })) .east RSV_ALLOW_CFG_POWER_W 100),
     (3000 * 16) ^ 2 - rg (rvh 2 id) RSV_BANK_VMIN_MV ^ 2,
     (if 3000 * 16 ≤ rg (rvh 2 id) RSV_BANK_VMIN_MV then 0 else bankCap (rvh 2 id) * ((3000 * 16) ^ 2 - rg (rvh 2 id) RSV_BANK_VMIN_MV ^ 2) / 2000000) / 100,
     by and_intros <;> decide +kernel⟩,
   ⟨st (rvh 2 id), false, by and_intros <;> decide +kernel⟩⟩

theorem met_BankPowerFailureAndDump_2 :
    (∃ s : State, Runs s.dev) ∧
    (∃ s : State, Runs s.dev ∧ dumpState s.dev = 1 ∧ s.dev.rsv.dumpAcked + 1 = s.dev.rsv.dumpPanels) ∧
    (∃ s : State, ∃ ini : Initiator, Runs s.dev ∧ Writable s.dev ini (pg .rsv .east) 0x0A4) :=
  ⟨⟨st (rvh 2 id), by decide +kernel⟩,
   ⟨st (fset (rvh 2 (fun r => { r with dumpPanels := 1 })) .east RSV_DUMP_STATE 1), by and_intros <;> decide +kernel⟩,
   ⟨st (rvh 2 id), .docent, by decide +kernel, wr_ok (by decide +kernel)⟩⟩

theorem met_ResetsHoldAndBoot_1 :
    (∃ s : State, True) ∧
    (∃ s : State, ∃ stayed : Bool, ∃ brown : Bool, s.dev.pwr.hold = .running) ∧
    (∃ s : State, ∃ stayed : Bool, ∃ brown : Bool, s.dev.pwr.hold = .reset ∧ (rd s.dev (pg .chp .east) 0x068 0).toNat ≠ 1) ∧
    (∃ s : State, s.dev.pwr.hold = .reset ∧ s.dev.pwr.thermTrip = false) ∧
    (∃ s : State, s.dev.pwr.hold = .reset ∧ s.dev.pwr.thermTrip = true) ∧
    (∃ s : State, True) :=
  ⟨⟨st z, trivial⟩,
   ⟨st z, true, true, by decide +kernel⟩,
   ⟨st { wr z (pg .chp .east) 0x068 0 2 with pwr := { z.pwr with hold := .reset } }, true, false, by and_intros <;> decide +kernel⟩,
   ⟨st { z with pwr := { z.pwr with hold := .reset } }, by and_intros <;> decide +kernel⟩,
   ⟨st { z with pwr := { z.pwr with hold := .reset, thermTrip := true } }, by and_intros <;> decide +kernel⟩,
   ⟨st z, trivial⟩⟩

theorem met_ResetsHoldAndBoot_2 :
    (∃ s : State, s.dev.pwr.hold ≠ .off) ∧
    (∃ s : State, Runs s.dev ∧ s.dev.arc.grace = true) ∧
    (∃ s : State, Runs s.dev ∧ s.dev.arc.trial = true) ∧
    (∃ s : State, Runs s.dev ∧ (dumpState s.dev = 2 ∨ dumpState s.dev = 3) ∧ fbit s.dev .east RSV_STATUS_MAINS_OK = true) :=
  ⟨⟨st z, by decide +kernel⟩,
   ⟨st { z with arc := { z.arc with grace := true } }, by and_intros <;> decide +kernel⟩,
   ⟨st { z with arc := { z.arc with trial := true } }, by and_intros <;> decide +kernel⟩,
   ⟨st (fset z .east RSV_DUMP_STATE 3), by and_intros <;> decide +kernel⟩⟩

end Sys2Proof.Tests
end

section
/-! The decoding read backwards: which block and which wing a decoded page has (R14, R50, R51), and O7. -/

namespace Sys2Proof.Laws

open Machine

theorem isDocent_of_blockOfArray {code : Nat} {b : Block} (h : blockOfArray code = some b) : isDocent b = false := by
  unfold blockOfArray at h
  split at h <;> cases h <;> rfl

/-- A page decoded in the array window is of a block in that window's table, which names no Docent block (R51). -/
theorem not_isDocent_of_decodeWindow_array {a off : Nat} {win : Window} {p : Page}
    (h : decodeWindow .array a = .page win p off) : isDocent p.block = false := by
  simp only [decodeWindow] at h
  split at h
  next b hb =>
    split at h
    next => cases h; exact isDocent_of_blockOfArray hb
    next => cases h
  next => cases h

/-- The Docent window and its mirror decode a page only where the address names wing 0, and the page is on it (R14). -/
theorem east_of_decodeWindow_docent {src win : Window} {a off : Nat} {p : Page} (hs : src ≠ .array)
    (h : decodeWindow src a = .page win p off) : wingOf (a >>> 24) = .east ∧ p.wing = .east := by
  unfold decodeWindow at h
  split at h
  next => exact absurd rfl hs
  next =>
    simp only at h
    split at h
    next =>
      split at h
      next hw => cases h; exact ⟨hw.2, hw.2⟩
      next => cases h
    next => cases h

/-- A decoded page is reached through one of the three windows, at the address's offset in it (R50, R374). -/
theorem decodeWindow_of_decodeAddr {a off : Nat} {win : Window} {p : Page} (h : decodeAddr a = .page win p off) :
    (a < 0x00F000000000 + windowSize ∧ decodeWindow .array (a - 0x00F000000000) = .page win p off) ∨
    (a < 0x00F400000000 + windowSize ∧ decodeWindow .docent (a - 0x00F400000000) = .page win p off) ∨
    (0x00F800000000 ≤ a ∧ decodeWindow .mirror (a - 0x00F800000000) = .page win p off) := by
  unfold decodeAddr at h
  split at h
  next hr => exact .inl ⟨hr.2, h⟩
  next =>
    split at h
    next hr => exact .inr (.inl ⟨hr.2, h⟩)
    next =>
      split at h
      next hr => exact .inr (.inr ⟨hr.1, h⟩)
      next => cases h

/-- A decoded page that Docent owns is on the East wing, through whichever window it was reached (R14). -/
theorem east_of_decodeAddr_docent {a off : Nat} {win : Window} {p : Page} (h : decodeAddr a = .page win p off)
    (hd : isDocent p.block = true) : p.wing = .east := by
  rcases decodeWindow_of_decodeAddr h with ⟨-, hw⟩ | ⟨-, hw⟩ | ⟨-, hw⟩
  · exact absurd hd (by simp [not_isDocent_of_decodeWindow_array hw])
  · exact (east_of_decodeWindow_docent (by decide) hw).2
  · exact (east_of_decodeWindow_docent (by decide) hw).2

/-- The upper half of a window names wing 1 (R50). -/
theorem wingOf_upper_half {n : Nat} (hlo : 0x1000000 ≤ n) (hhi : n < 0x2000000) : wingOf (n >>> 24) = .west := by
  have hbit : n >>> 24 = 1 := by rw [Nat.shiftRight_eq_div_pow]; omega
  rw [hbit]
  rfl

theorem decodeAddr_ne_page_of_docent_wing_one {a : Nat} (hlo : 0x00F401000000 ≤ a) (hhi : a < 0x00F402000000)
    (win : Window) (p : Page) (off : Nat) : decodeAddr a ≠ .page win p off := by
  intro h
  have hws : windowSize = 0x2000000 := rfl
  rcases decodeWindow_of_decodeAddr h with ⟨ha, -⟩ | ⟨-, hw⟩ | ⟨ha, -⟩
  · omega
  · have heast := (east_of_decodeWindow_docent (by decide) hw).1
    rw [wingOf_upper_half (by omega) (by omega)] at heast
    cases heast
  · omega

/-- Settles O7: a page Docent owns comes only from the Docent window or its mirror, which decode wing 0 alone. -/
theorem docentPagesOnlyAtWingZero : Obligations.DocentPagesOnlyAtWingZero :=
  ⟨fun _ _ _ _ h hd => east_of_decodeAddr_docent h hd, fun _ hlo hhi win p off =>
    decodeAddr_ne_page_of_docent_wing_one hlo hhi win p off⟩

end Sys2Proof.Laws
end

section
/-! The frame length: when a change of it is taken, ignored or completed (R44, R45), and O16. Before it, what a field of a raised event's
page and of a captured error reads. -/

namespace Sys2Proof.Laws

open Machine Machine.Reg

/-! ### A raised event -/

/-- An event raised changes no register but EVT_STATUS. -/
theorem rd_raiseAt_off (h : Head) (p q : Page) (n o b : Nat) (hk : o % 4096 ≠ 0x010) : rd (raiseAt h p n) q o b = rd h q o b := by
  unfold raiseAt
  dsimp only
  split
  · rfl
  · split <;> exact rd_wr_off _ _ _ _ _ _ _ _ hk

theorem rd_raiseBoth_off (h : Head) (e : EvRef) (q : Page) (o b : Nat) (hk : o % 4096 ≠ 0x010) :
    rd (raiseBoth h e) q o b = rd h q o b :=
  (rd_raiseAt_off _ _ _ _ _ _ hk).trans (rd_raiseAt_off _ _ _ _ _ _ hk)

theorem fget_raiseBoth_off (h : Head) (e : EvRef) (w : Wing) (f : Fld) (bank inst : Nat) (hk : f.off % 4096 ≠ 0x010) :
    fget (raiseBoth h e) w f bank inst = fget h w f bank inst := by
  unfold fget; rw [rd_raiseBoth_off _ _ _ _ _ hk]

theorem hget_raiseBoth_off (h : Head) (e : EvRef) (p : Page) (f : HBits) (hk : f.off % 4096 ≠ 0x010) :
    hget (raiseBoth h e) p f = hget h p f := by
  unfold hget; rw [rd_raiseBoth_off _ _ _ _ _ hk]

/-- Each page holds its own EVT_STATUS (R53). -/
theorem homePage_evtStatus (p : Page) : homePage p 0x010 = p := rfl

/-- EVT_STATUS of one page is another register than EVT_STATUS of another page. -/
theorem evtStatus_key_ne {p q : Page} (hp : p.inst < 32) (hq : q.inst < 32) (hne : q ≠ p) :
    regKey (homePage q 0x010) 0x010 0 ≠ regKey (homePage p 0x010) 0x010 0 :=
  fun e => hne (pageNum_inj hq hp (by simpa only [keyPage_regKey, homePage_evtStatus] using congrArg keyPage e))

theorem events_raiseAt_other (h : Head) (p q : Page) (n : Nat) (hp : p.inst < 32) (hq : q.inst < 32) (hne : q ≠ p) :
    hget (raiseAt h p n) q EVT_STATUS_EVENTS = hget h q EVT_STATUS_EVENTS := by
  have key (v : Nat) : hget (hset h p EVT_STATUS_EVENTS v) q EVT_STATUS_EVENTS = hget h q EVT_STATUS_EVENTS :=
    congrArg (bitsOf · 31 0) (rd_wr_key _ _ _ _ _ _ _ _ (evtStatus_key_ne hp hq hne))
  unfold raiseAt
  dsimp only
  split
  · rfl
  · split <;> exact key _

/-- A head-wide event is set on both pages (R48). -/
theorem raiseBoth_sets (h : Head) (e : EvRef) (hn : e.n < 32) (w : Wing) : EventSet (raiseBoth h e) w e := by
  cases w with
  | east =>
    have hother := events_raiseAt_other (raise h .east e) (pg e.block .west) (pg e.block .east) e.n
      (Nat.zero_lt_succ _) (Nat.zero_lt_succ _) (by simp [pg])
    exact (congrArg (Nat.testBit · e.n) hother).trans (raiseAt_sets h (pg e.block .east) e.n hn)
  | west => exact raiseAt_sets (raise h .east e) (pg e.block .west) e.n hn

theorem regsBut_mono {h g : Head} {l m : List (Block × Nat)} (a : RegsBut h g l) (hlm : l ⊆ m) : RegsBut h g m :=
  fun p off bank ho hn => a p off bank ho (fun hm => hn (hlm hm))

theorem regsBut_raiseBoth {h g : Head} {l : List (Block × Nat)} {e : EvRef} (a : RegsBut h g l) (hm : (e.block, 0x010) ∈ l) :
    RegsBut h (raiseBoth g e) l := regsBut_raise (regsBut_raise a hm) hm

/-! ### A captured error -/

theorem bitsOf_ofNat (n hi lo : Nat) (h : hi < 32) (hl : lo ≤ hi) :
    bitsOf (BitVec.ofNat 32 n) hi lo = n / 2 ^ lo % 2 ^ (hi - lo + 1) := by
  apply Nat.eq_of_testBit_eq
  intro i
  rw [testBit_bitsOf, Nat.testBit_mod_two_pow, Nat.testBit_div_two_pow, BitVec.getLsbD_ofNat]
  by_cases hi' : i < hi - lo + 1
  · simp [hi', show lo + i < 32 by omega, Nat.add_comm]
  · simp [hi']

/-- The word of ERR_INFO that a first error leaves (R53, R60): VALID, a COUNT of 1, the initiator, the direction and the code. -/
def errInfoWord (e : ErrRec) : Word :=
  BitVec.ofNat 32 (1 <<< 31 + 1 <<< 24 + (e.src % 256) <<< 16 + ofBool e.write <<< 15 + e.code % 16)

theorem ofBool_le_one (b : Bool) : ofBool b ≤ 1 := by cases b <;> decide

/-- Where no error is held, the error is recorded. -/
theorem capture_first (h : Head) (p : Page) (e : ErrRec) (hv : hget h p ERR_INFO_VALID = 0) :
    capture h p e = hset (hset (wr h p 0x020 0 (errInfoWord e)) p ERR_ADDR_LO_ADDR e.addr) p ERR_ADDR_HI_ADDR (e.addr >>> 32) := by
  unfold capture
  rw [if_neg (by rw [hv]; decide)]
  rfl

/-- ERR_INFO after a first error reads the record's fields. -/
theorem hget_capture_errInfo (h : Head) (p : Page) (e : ErrRec) (f : HBits) (hv : hget h p ERR_INFO_VALID = 0) (hf : f.off = 0x020) :
    hget (capture h p e) p f = bitsOf (errInfoWord e) f.hi f.lo := by
  rw [capture_first h p e hv, hget_hset_off _ _ _ _ _ _ (by rw [hf]; decide), hget_hset_off _ _ _ _ _ _ (by rw [hf]; decide)]
  unfold hget
  rw [hf, rd_wr_same]

/-- A first error is held with its code, initiator, direction and address (R60). -/
theorem captured_capture (h : Head) (p : Page) (code src : Nat) (write : Bool) (addr : Nat) (hv : hget h p ERR_INFO_VALID = 0)
    (hc : code < 16) (hs : src < 256) : Captured (capture h p ⟨code, src, write, addr⟩) p code src write addr := by
  have hw := ofBool_le_one write
  have field (f : HBits) (hf : f.off = 0x020) (h32 : f.hi < 32) (hl : f.lo ≤ f.hi) :
      hget (capture h p ⟨code, src, write, addr⟩) p f =
        (2147483648 + 16777216 + src * 65536 + ofBool write * 32768 + code) / 2 ^ f.lo % 2 ^ (f.hi - f.lo + 1) := by
    rw [hget_capture_errInfo h p _ f hv hf, errInfoWord, bitsOf_ofNat _ _ _ h32 hl]
    simp only [Nat.shiftLeft_eq, Nat.mod_eq_of_lt hc, Nat.mod_eq_of_lt hs, Nat.reducePow, Nat.one_mul]
  constructor
  case valid | code | source | write =>
    rw [field _ rfl (by decide) (by decide)]
    simp only [ERR_INFO_VALID, ERR_INFO_CODE, ERR_INFO_SOURCE, ERR_INFO_WRITE, Nat.reducePow, Nat.reduceSub, Nat.reduceAdd]
    omega
  case low =>
    rw [capture_first h p _ hv, hget_hset_off _ _ _ _ _ _ (by decide), hget_hset_same _ _ _ _ (by decide) (by decide)]
    rfl
  case high =>
    rw [capture_first h p _ hv, hget_hset_same _ _ _ _ (by decide) (by decide), Nat.shiftRight_eq_div_pow]
    rfl

theorem regsBut_capture {h g : Head} {l : List (Block × Nat)} {p : Page} {e : ErrRec} (a : RegsBut h g l)
    (hi : (p.block, 0x020) ∈ l) (hlo : (p.block, 0x024) ∈ l) (hhi : (p.block, 0x028) ∈ l) : RegsBut h (capture g p e) l := by
  unfold capture
  split
  · exact regsBut_hset a hi
  · exact regsBut_hset (regsBut_hset (regsBut_wr a hi) hlo) hhi

/-- A captured error stays as a head-wide event is raised. -/
theorem captured_raiseBoth {h : Head} {e : EvRef} {p : Page} {code src addr : Nat} {write : Bool}
    (c : Captured h p code src write addr) : Captured (raiseBoth h e) p code src write addr where
  valid := (hget_raiseBoth_off h e p _ (by decide)).trans c.valid
  code := (hget_raiseBoth_off h e p _ (by decide)).trans c.code
  source := (hget_raiseBoth_off h e p _ (by decide)).trans c.source
  write := (hget_raiseBoth_off h e p _ (by decide)).trans c.write
  low := (hget_raiseBoth_off h e p _ (by decide)).trans c.low
  high := (hget_raiseBoth_off h e p _ (by decide)).trans c.high

/-- The configuration event of an FRM page is raised on both (R48, R59). -/
theorem config_frm_eq_raiseBoth (h : Head) (w : Wing) (e : ErrRec) :
    config h (pg .frm w) e = raiseBoth (capture h (pg .frm w) e) Ev.FRM_CONFIG := rfl

/-! ### CHANGE written -/

theorem lengthSetChange_east (h : Head) (ini : Initiator) (hw : Writable h ini (pg .frm .east) 0x044) :
    lengthSetChange h ini .east = changeEffect (reply h false) (sourceCode ini) :=
  withWrite_ok h ini _ _ _ hw

theorem isFollower_iff (h : Head) : isFollower h = true ↔ fget h .east FRM_CTRL_ROLE = 2 := beq_iff_eq

/-- On a follower CHANGE is ignored with the configuration event, code 11 (R45). -/
theorem changeEffect_follower (h : Head) (src : Nat) (hr : fget h .east FRM_CTRL_ROLE = 2) :
    changeEffect h src =
      raiseBoth (capture h (pg .frm .east) ⟨11, src, true, pageAddr (pg .frm .east) + 0x044⟩) Ev.FRM_CONFIG := by
  unfold changeEffect
  dsimp only
  rw [if_pos ((isFollower_iff h).mpr hr), config_frm_eq_raiseBoth]

/-- While a countdown runs CHANGE is ignored (R10, R45). -/
theorem changeEffect_counting (h : Head) (src : Nat) (hr : fget h .east FRM_CTRL_ROLE ≠ 2)
    (hc : fget h .east FRM_LENGTH_SET_CHANGE = 1 ∨ 0 < h.frm.countdown) : changeEffect h src = h := by
  have hrun : fbit h .east FRM_LENGTH_SET_CHANGE = true ∨ 0 < h.frm.countdown := hc.imp_left (fun e => by simp [fbit, e])
  unfold changeEffect
  dsimp only
  rw [if_neg (fun e => hr ((isFollower_iff h).mp e)), if_pos hrun]

/-- Otherwise the countdown starts, to the length that NEXT_LENGTH holds (R44). -/
theorem changeEffect_starts (h : Head) (src : Nat) (hr : fget h .east FRM_CTRL_ROLE ≠ 2)
    (hc : fget h .east FRM_LENGTH_SET_CHANGE = 0) (h0 : h.frm.countdown = 0) :
    changeEffect h src = { fset h .east FRM_LENGTH_SET_CHANGE 1 with
      frm := { h.frm with countdown := 16, announced := fget h .east FRM_LENGTH_SET_NEXT_LENGTH } } := by
  have hidle : ¬ (fbit h .east FRM_LENGTH_SET_CHANGE = true ∨ 0 < h.frm.countdown) := by simp [fbit, hc, h0]
  unfold changeEffect
  dsimp only
  rw [if_neg (fun e => hr ((isFollower_iff h).mp e)), if_neg hidle,
    fget_fset_field h .east FRM_LENGTH_SET_CHANGE FRM_LENGTH_SET_NEXT_LENGTH 1 0 0 rfl rfl (by decide) (by decide) (by decide) (by decide)]
  rfl

theorem change_starts_countdown (s : State) (ini : Initiator) (hrun : Runs s.dev) (hw : Writable s.dev ini (pg .frm .east) 0x044)
    (hc : fget s.dev .east FRM_LENGTH_SET_CHANGE = 0) (h0 : s.dev.frm.countdown = 0) (hr : fget s.dev .east FRM_CTRL_ROLE ≠ 2) :
    Completes (.lengthSetChange ini .east) s (fun h =>
      fget h .east FRM_LENGTH_SET_CHANGE = 1 ∧ h.frm.countdown = 16 ∧
        h.frm.announced = fget s.dev .east FRM_LENGTH_SET_NEXT_LENGTH ∧ RegsBut s.dev h [(.frm, 0x044)] ∧
        h = { reply s.dev false with regs := h.regs, frm := h.frm }) := by
  refine completes_lift (exec_lengthSetChange ini .east) hrun ?_
  rw [lengthSetChange_east s.dev ini hw, changeEffect_starts (reply s.dev false) _ hr hc h0]
  exact ⟨fget_fset_same s.dev .east FRM_LENGTH_SET_CHANGE 1 0 0 (by decide) (by decide), rfl, rfl,
    regsBut_congr rfl (regsBut_fset (f := FRM_LENGTH_SET_CHANGE) (regsBut_refl s.dev _) (by decide)), rfl⟩

theorem change_ignored_on_follower (s : State) (ini : Initiator) (hrun : Runs s.dev) (hw : Writable s.dev ini (pg .frm .east) 0x044)
    (hs : sourceCode ini < 256) (hr : fget s.dev .east FRM_CTRL_ROLE = 2) :
    Completes (.lengthSetChange ini .east) s (fun h =>
      (hget s.dev (pg .frm .east) ERR_INFO_VALID = 0 →
        Captured h (pg .frm .east) 11 (sourceCode ini) true (pageAddr (pg .frm .east) + 0x044)) ∧ (∀ w, EventSet h w Ev.FRM_CONFIG) ∧
        h.frm = s.dev.frm ∧ RegsBut s.dev h [(.frm, 0x010), (.frm, 0x020), (.frm, 0x024), (.frm, 0x028)]) := by
  refine completes_lift (exec_lengthSetChange ini .east) hrun ?_
  rw [lengthSetChange_east s.dev ini hw, changeEffect_follower (reply s.dev false) _ hr]
  refine ⟨fun hv => captured_raiseBoth (captured_capture _ _ _ _ _ _ hv (by decide) hs), raiseBoth_sets _ _ (by decide), ?_, ?_⟩
  · rw [raiseBoth_frm, capture_frm]
    rfl
  · exact regsBut_raiseBoth (regsBut_capture (regsBut_congr rfl (regsBut_refl s.dev _)) (by decide) (by decide) (by decide)) (by decide)

theorem change_ignored_while_counting (s : State) (ini : Initiator) (hrun : Runs s.dev) (hw : Writable s.dev ini (pg .frm .east) 0x044)
    (hr : fget s.dev .east FRM_CTRL_ROLE ≠ 2) (hc : fget s.dev .east FRM_LENGTH_SET_CHANGE = 1 ∨ 0 < s.dev.frm.countdown) :
    Completes (.lengthSetChange ini .east) s (fun h => h = reply s.dev false) := by
  refine completes_lift (exec_lengthSetChange ini .east) hrun ?_
  rw [lengthSetChange_east s.dev ini hw, changeEffect_counting (reply s.dev false) _ hr hc]

/-! ### The end of the countdown -/

/-- The head at the end of a countdown, before its event (R44): the length announced is in force, and the announcement is over. -/
def lengthApplied (h : Head) : Head :=
  let g := { h with frm := { h.frm with lengthDue := false, countdown := 0 } }
  let g := fset (fset g .east FRM_LENGTH_SET_CHANGE 0) .east FRM_LENGTH_SET_COUNTDOWN 0
  frmBoth (fset g .east FRM_CTRL_LENGTH h.frm.announced) FRM_SLOT_SLOT_NS (frameNs h.frm.announced / 32)

/-- LENGTH_CHANGED is raised where the length differs, and there alone (R45). -/
theorem lengthChanged_due (h : Head) (hd : h.frm.lengthDue = true) :
    lengthChanged h = if h.frm.announced ≠ fget h .east FRM_CTRL_LENGTH then raiseBoth (lengthApplied h) Ev.FRM_LENGTH_CHANGED
      else lengthApplied h := by
  unfold lengthChanged
  rw [if_neg (by rw [hd]; decide)]
  rfl

/-- The event changes no field but EVT_STATUS. -/
theorem fget_lengthChanged (h : Head) (hd : h.frm.lengthDue = true) (w : Wing) (f : Fld) (hf : f.off % 4096 ≠ 0x010) :
    fget (lengthChanged h) w f = fget (lengthApplied h) w f := by
  rw [lengthChanged_due h hd]
  split
  · exact fget_raiseBoth_off _ _ _ _ _ _ hf
  · rfl

theorem frm_lengthChanged (h : Head) (hd : h.frm.lengthDue = true) :
    (lengthChanged h).frm = { h.frm with lengthDue := false, countdown := 0 } := by
  rw [lengthChanged_due h hd]
  split
  · rw [raiseBoth_frm]
    rfl
  · rfl

/-- A value written to a field of both FRM pages leaves the fields of their other registers alone. -/
theorem fget_frmBoth_off (h : Head) (f g : Fld) (v : Nat) (w : Wing) (hk : g.off % 4096 ≠ f.off % 4096) :
    fget (frmBoth h f v) w g = fget h w g :=
  (fget_fset_off _ _ _ _ _ _ _ _ _ _ hk).trans (fget_fset_off _ _ _ _ _ _ _ _ _ _ hk)

theorem length_lengthApplied (h : Head) (hn : h.frm.announced < 3) : fget (lengthApplied h) .east FRM_CTRL_LENGTH = h.frm.announced := by
  unfold lengthApplied
  dsimp only
  rw [fget_frmBoth_off _ _ _ _ _ (by decide), fget_fset_same _ _ _ _ _ _ (by decide) (by decide)]
  exact Nat.mod_eq_of_lt (show h.frm.announced < 4 by omega)

theorem countdown_lengthApplied (h : Head) : fget (lengthApplied h) .east FRM_LENGTH_SET_COUNTDOWN = 0 := by
  unfold lengthApplied
  dsimp only
  rw [fget_frmBoth_off _ _ _ _ _ (by decide), fget_fset_off _ _ _ _ _ _ _ _ _ _ (by decide),
    fget_fset_same _ _ _ _ _ _ (by decide) (by decide), Nat.zero_mod]

theorem change_lengthApplied (h : Head) : fget (lengthApplied h) .east FRM_LENGTH_SET_CHANGE = 0 := by
  unfold lengthApplied
  dsimp only
  rw [fget_frmBoth_off _ _ _ _ _ (by decide), fget_fset_off _ _ _ _ _ _ _ _ _ _ (by decide),
    fget_fset_field _ _ FRM_LENGTH_SET_COUNTDOWN FRM_LENGTH_SET_CHANGE _ _ _ rfl rfl (by decide) (by decide) (by decide) (by decide),
    fget_fset_same _ _ _ _ _ _ (by decide) (by decide), Nat.zero_mod]

/-- A slot takes at most 500 ns (R27), which SLOT_NS holds. -/
theorem frameNs_le (n : Nat) : frameNs n ≤ 16000 := by
  unfold frameNs
  split
  · decide
  · split <;> decide

/-- SLOT_NS is each wing's own, and is set on both pages. -/
theorem fget_frmBoth_slotNs (h : Head) (v : Nat) (w : Wing) (hv : v < 512) : fget (frmBoth h FRM_SLOT_SLOT_NS v) w FRM_SLOT_SLOT_NS = v := by
  have hsame (g : Head) (x : Wing) : fget (fset g x FRM_SLOT_SLOT_NS v) x FRM_SLOT_SLOT_NS = v :=
    (fget_fset_same g x FRM_SLOT_SLOT_NS v 0 0 (by decide) (by decide)).trans (Nat.mod_eq_of_lt hv)
  cases w with
  | east =>
    have hwest : fget (frmBoth h FRM_SLOT_SLOT_NS v) .east FRM_SLOT_SLOT_NS = fget (fset h .east FRM_SLOT_SLOT_NS v) .east FRM_SLOT_SLOT_NS :=
      congrArg (bitsOf · 24 16) (rd_wr_key _ _ _ _ _ _ _ _ (by decide))
    exact hwest.trans (hsame h .east)
  | west => exact hsame _ .west

theorem slotNs_lengthApplied (h : Head) (w : Wing) : fget (lengthApplied h) w FRM_SLOT_SLOT_NS = frameNs h.frm.announced / 32 :=
  fget_frmBoth_slotNs _ _ _ (by have := frameNs_le h.frm.announced; omega)

theorem regsBut_lengthApplied (h : Head) : RegsBut h (lengthApplied h) [(.frm, 0x040), (.frm, 0x044), (.frm, 0x04C)] := by
  unfold lengthApplied frmBoth
  have hframe : RegsBut h { h with frm := { h.frm with lengthDue := false, countdown := 0 } }
      [(.frm, 0x040), (.frm, 0x044), (.frm, 0x04C)] := regsBut_congr rfl (regsBut_refl h _)
  exact regsBut_fset (regsBut_fset (regsBut_fset (regsBut_fset (regsBut_fset hframe (by decide)) (by decide)) (by decide)) (by decide))
    (by decide)

/-- The announcement's end raises no event of itself. -/
theorem evtStatus_lengthApplied (h : Head) (p : Page) : rd (lengthApplied h) p 0x010 0 = rd h p 0x010 0 :=
  regsBut_lengthApplied h p 0x010 0 (by decide) (by simp)

theorem regsBut_lengthChanged (h : Head) (hd : h.frm.lengthDue = true) :
    RegsBut h (lengthChanged h) [(.frm, 0x010), (.frm, 0x040), (.frm, 0x044), (.frm, 0x04C)] := by
  rw [lengthChanged_due h hd]
  have hall : RegsBut h (lengthApplied h) [(.frm, 0x010), (.frm, 0x040), (.frm, 0x044), (.frm, 0x04C)] :=
    regsBut_mono (regsBut_lengthApplied h) (List.subset_cons_self _ _)
  split
  · exact regsBut_raiseBoth hall (by decide)
  · exact hall

theorem countdown_end_applies_length (s : State) (hrun : Runs s.dev) (hd : s.dev.frm.lengthDue = true) (hn : s.dev.frm.announced < 3) :
    Completes .lengthChanged s (fun h =>
      fget h .east FRM_CTRL_LENGTH = s.dev.frm.announced ∧ fget h .east FRM_LENGTH_SET_CHANGE = 0 ∧
        fget h .east FRM_LENGTH_SET_COUNTDOWN = 0 ∧ h.frm.lengthDue = false ∧ h.frm.countdown = 0 ∧
        (∀ w, fget h w FRM_SLOT_SLOT_NS = frameNs s.dev.frm.announced / 32) ∧
        (s.dev.frm.announced ≠ fget s.dev .east FRM_CTRL_LENGTH → ∀ w, EventSet h w Ev.FRM_LENGTH_CHANGED) ∧
        (s.dev.frm.announced = fget s.dev .east FRM_CTRL_LENGTH → ∀ w, rd h (pg .frm w) 0x010 0 = rd s.dev (pg .frm w) 0x010 0) ∧
        RegsBut s.dev h [(.frm, 0x010), (.frm, 0x040), (.frm, 0x044), (.frm, 0x04C)]) := by
  refine completes_lift exec_lengthChanged hrun ?_
  have hfld (w : Wing) (f : Fld) := fget_lengthChanged s.dev hd w f
  have hfrm := frm_lengthChanged s.dev hd
  refine ⟨(hfld _ _ (by decide)).trans (length_lengthApplied _ hn), (hfld _ _ (by decide)).trans (change_lengthApplied _),
    (hfld _ _ (by decide)).trans (countdown_lengthApplied _), by rw [hfrm], by rw [hfrm],
    fun w => (hfld _ _ (by decide)).trans (slotNs_lengthApplied _ w), fun hne => ?_, fun heq w => ?_, regsBut_lengthChanged _ hd⟩
  · rw [lengthChanged_due _ hd, if_pos hne]
    exact raiseBoth_sets _ _ (by decide)
  · rw [lengthChanged_due _ hd, if_neg (not_not_intro heq)]
    exact evtStatus_lengthApplied _ _

/-- Settles O16: CHANGE starts, is ignored with the event, or is ignored, as the role and the countdown say; the countdown's end applies
the length. -/
theorem lengthChanges : Obligations.LengthChanges :=
  ⟨change_starts_countdown, change_ignored_on_follower, change_ignored_while_counting, countdown_end_applies_length⟩

end Sys2Proof.Laws
end

section
/-! Error capture (R60): the first error is kept, and later ones only advance COUNT, and O10. -/

namespace Sys2Proof.Laws

open Machine Machine.Reg

/-- A first error leaves COUNT at 1. -/
theorem count_capture_first (h : Head) (p : Page) (e : ErrRec) (hv : hget h p ERR_INFO_VALID = 0) :
    hget (capture h p e) p ERR_INFO_COUNT = 1 := by
  have hw := ofBool_le_one e.write
  rw [hget_capture_errInfo h p e _ hv rfl, errInfoWord, bitsOf_ofNat _ _ _ (by decide) (by decide)]
  simp only [ERR_INFO_COUNT, Nat.shiftLeft_eq, Nat.reducePow, Nat.reduceSub, Nat.reduceAdd]
  omega

/-- Where an error is held, a later one is only counted. -/
theorem capture_later (h : Head) (p : Page) (e : ErrRec) (hv : hget h p ERR_INFO_VALID = 1) :
    capture h p e = hset h p ERR_INFO_COUNT (min (hget h p ERR_INFO_COUNT + 1) 127) := if_pos hv

/-- A later error leaves the fields of the first one, in ERR_INFO and in ERR_ADDR. -/
theorem hget_capture_later (h : Head) (p : Page) (e : ErrRec) (hv : hget h p ERR_INFO_VALID = 1) (f : HBits)
    (hf : f ∈ [ERR_INFO_VALID, ERR_INFO_SOURCE, ERR_INFO_WRITE, ERR_INFO_CODE, ERR_ADDR_LO_ADDR, ERR_ADDR_HI_ADDR]) :
    hget (capture h p e) p f = hget h p f := by
  have hplace : f.off % 4096 ≠ ERR_INFO_COUNT.off % 4096 ∨
      (f.off = ERR_INFO_COUNT.off ∧ f.lo ≤ f.hi ∧ f.hi < 32 ∧ (f.hi < ERR_INFO_COUNT.lo ∨ ERR_INFO_COUNT.hi < f.lo)) := by
    revert f
    decide
  rw [capture_later h p e hv]
  obtain hoff | ⟨hoff, hle, h32, hdisj⟩ := hplace
  · exact hget_hset_off _ _ _ _ _ _ hoff
  · exact hget_hset_field _ _ _ _ _ hoff (by decide) hle h32 hdisj

/-- A later error advances COUNT, which holds at 127 (R53). -/
theorem count_capture_later (h : Head) (p : Page) (e : ErrRec) (hv : hget h p ERR_INFO_VALID = 1) :
    hget (capture h p e) p ERR_INFO_COUNT = min (hget h p ERR_INFO_COUNT + 1) 127 := by
  rw [capture_later h p e hv, hget_hset_same _ _ _ _ (by decide) (by decide)]
  exact Nat.mod_eq_of_lt (show min (hget h p ERR_INFO_COUNT + 1) 127 < 128 by omega)

/-- Settles O10: the record of a first error is written whole with a COUNT of 1, and a later error writes COUNT alone. -/
theorem firstErrorIsKept : Obligations.FirstErrorIsKept := fun h p e hcode hsrc =>
  ⟨fun hv => ⟨captured_capture h p e.code e.src e.write e.addr hv hcode hsrc, count_capture_first h p e hv⟩,
    fun hv => ⟨hget_capture_later h p e hv, count_capture_later h p e hv⟩⟩

end Sys2Proof.Laws
end

section
/-! The arrival of a capsule (R93 steps 1 and 2, R104): the outstanding commands it is compared with, the completion a host that listens
gets, and O20. -/

namespace Sys2Proof.Laws

open Machine Machine.Reg

/-! ### Outstanding commands -/

theorem sameCid_iff (c x : Capsule) :
    sameCid c x = true ↔ x.wing = c.wing ∧ x.ctx = c.ctx ∧ x.queue = c.queue ∧ x.cid = c.cid := by
  simp [sameCid, and_assoc]

/-- The identifier is in use where a command that waits, one admitted from this head's own hosts, or one that software holds has it. -/
theorem cidInUse_iff (h : Head) (c : Capsule) :
    cidInUse h c = true ↔ (∃ x ∈ h.foy.waiting, sameCid c x.cap = true) ∨
      (∃ k x, (k, x) ∈ h.foy.cmds ∧ x.via = none ∧ sameCid c x.cap = true) ∨ ∃ y ∈ h.foy.passed, sameCid c y = true := by
  simp [cidInUse, or_assoc]

theorem cidInUse_of_outstanding (h : Head) (c y : Capsule)
    (hy : (∃ x ∈ h.foy.waiting, x.cap = y) ∨ (∃ k x, (k, x) ∈ h.foy.cmds ∧ x.via = none ∧ x.cap = y) ∨ y ∈ h.foy.passed)
    (hs : sameCid c y = true) : cidInUse h c = true := by
  rw [cidInUse_iff]
  obtain ⟨x, hx, rfl⟩ | ⟨k, x, hx, hvia, rfl⟩ | hp := hy
  · exact .inl ⟨x, hx, hs⟩
  · exact .inr (.inl ⟨k, x, hx, hvia, hs⟩)
  · exact .inr (.inr ⟨y, hp, hs⟩)

/-! ### The completion record that a capsule acknowledges (R106) -/

theorem foy_ackByQueue (h : Head) (c : Capsule) : ∃ l, (ackByQueue h c).foy = { h.foy with fused := l } := by
  unfold ackByQueue
  dsimp only
  split
  · exact ⟨_, rfl⟩
  · exact ⟨h.foy.fused, rfl⟩

@[simp] theorem out_ackByQueue (h : Head) (c : Capsule) : (ackByQueue h c).out = h.out := by
  unfold ackByQueue
  dsimp only
  split <;> rfl

@[simp] theorem waiting_ackByQueue (h : Head) (c : Capsule) : (ackByQueue h c).foy.waiting = h.foy.waiting := by
  obtain ⟨l, hl⟩ := foy_ackByQueue h c
  rw [hl]

@[simp] theorem cmds_ackByQueue (h : Head) (c : Capsule) : (ackByQueue h c).foy.cmds = h.foy.cmds := by
  obtain ⟨l, hl⟩ := foy_ackByQueue h c
  rw [hl]

@[simp] theorem passed_ackByQueue (h : Head) (c : Capsule) : (ackByQueue h c).foy.passed = h.foy.passed := by
  obtain ⟨l, hl⟩ := foy_ackByQueue h c
  rw [hl]

@[simp] theorem paused_ackByQueue (h : Head) (c : Capsule) : (ackByQueue h c).foy.paused = h.foy.paused := by
  obtain ⟨l, hl⟩ := foy_ackByQueue h c
  rw [hl]

/-- Only the count of fused records is written, which is FOQ's. -/
theorem fget_ackByQueue_block (h : Head) (c : Capsule) (w : Wing) (f : Fld) (bank inst : Nat) (hf : f.block ≠ .foq) :
    fget (ackByQueue h c) w f bank inst = fget h w f bank inst := by
  unfold ackByQueue
  dsimp only
  split
  · exact (fget_fset_block _ _ _ _ _ _ _ _ _ _ hf).trans (fget_fset_block _ _ _ _ _ _ _ _ _ _ hf)
  · rfl

theorem cidInUse_ackByQueue (h : Head) (c x : Capsule) : cidInUse (ackByQueue h c) x = cidInUse h x := by
  simp only [cidInUse, waiting_ackByQueue, cmds_ackByQueue, passed_ackByQueue]

/-! ### A capsule's completion (R108, R111) -/

theorem foy_countRecords (h : Head) (w : Wing) (ctx n : Nat) : ∃ t, (countRecords h w ctx n).foy = { h.foy with ctx := t } := by
  unfold countRecords
  split
  · exact ⟨_, rfl⟩
  · exact ⟨h.foy.ctx, rfl⟩

@[simp] theorem out_countRecords (h : Head) (w : Wing) (ctx n : Nat) : (countRecords h w ctx n).out = h.out := by
  unfold countRecords
  split <;> rfl

/-- A priority that is not paused sends at once (R84). -/
theorem portSend_unpaused (h : Head) (w : Wing) (port prio : Nat) (m : Msg)
    (hl : h.foy.paused.contains (prioKey w port prio) = false) : portSend h w port prio m = send h m := by
  unfold portSend
  dsimp only
  rw [if_neg (by rw [hl]; decide)]

/-- A host that listens gets its completion at once; beside it only the context's record count moves. -/
theorem endCapsule_listening (h : Head) (c : Capsule) (st : NvmeStatus) (hl : HostListens h c) :
    endCapsule h c st = send (countRecords h c.wing c.ctx 1) (hostAnswer h c st) := by
  refine portSend_unpaused _ _ _ _ _ ?_
  obtain ⟨t, ht⟩ := foy_countRecords h c.wing c.ctx 1
  rw [ht]
  exact hl

theorem out_endCapsule_listening (h : Head) (c : Capsule) (st : NvmeStatus) (hl : HostListens h c) :
    (endCapsule h c st).out = h.out ++ [hostAnswer h c st] := by
  rw [endCapsule_listening h c st hl]
  exact congrArg (· ++ [hostAnswer h c st]) (out_countRecords h c.wing c.ctx 1)

theorem foy_endCapsule_listening (h : Head) (c : Capsule) (st : NvmeStatus) (hl : HostListens h c) :
    ∃ t, (endCapsule h c st).foy = { h.foy with ctx := t } := by
  rw [endCapsule_listening h c st hl]
  exact foy_countRecords h c.wing c.ctx 1

/-! ### A duplicate identifier (R104) -/

/-- The head in which the refused capsule is answered: its acknowledgement is taken and FOY_CNT_CID counts it. -/
def duplicateCounted (h : Head) (c : Capsule) : Head := fadd (ackByQueue h c) c.wing FOY_CNT_CID_COUNT 1 0 c.port

theorem capsuleArrives_duplicate (h : Head) (c : Capsule) (next : Head → Head) (ht : CapsuleTaken h c) (hu : cidInUse h c = true) :
    capsuleArrives h c next =
      raise (endCapsule (duplicateCounted h c) c ⟨0, 0x03, true⟩) c.wing Ev.FOY_DUPLICATE_CID c.port := by
  obtain ⟨hfree, hfoq, hfoy, hdel⟩ := ht
  unfold capsuleArrives
  dsimp only
  rw [if_neg (by simp [hfree, hfoq, hfoy, hdel]), if_pos ((cidInUse_ackByQueue h c c).trans hu)]
  rfl

theorem prioOf_duplicateCounted (h : Head) (c : Capsule) (w : Wing) (port : Nat) :
    prioOf (duplicateCounted h c) w port false = prioOf h w port false :=
  (fget_fset_off _ _ _ FOY_CNT_CID_COUNT FOY_PFC_PRIO_NVME _ _ _ _ _ (by decide)).trans
    (fget_ackByQueue_block h c w FOY_PFC_PRIO_NVME 0 port (by decide))

theorem hostAnswer_duplicateCounted (h : Head) (c : Capsule) (st : NvmeStatus) :
    hostAnswer (duplicateCounted h c) c st = hostAnswer h c st := by
  unfold hostAnswer
  rw [prioOf_duplicateCounted]

theorem hostListens_duplicateCounted (h : Head) (c : Capsule) (hl : HostListens h c) : HostListens (duplicateCounted h c) c := by
  unfold HostListens
  rw [prioOf_duplicateCounted, duplicateCounted, fadd_foy, paused_ackByQueue]
  exact hl

/-- A capsule taken with an identifier in use is answered with Command ID Conflict and the event, whatever would follow one that passes;
the commands that wait, those admitted and those passed to software stay. -/
theorem capsuleArrives_refuses_duplicate (h : Head) (c : Capsule) (next : Head → Head) (ht : CapsuleTaken h c) (hl : HostListens h c)
    (hu : cidInUse h c = true) :
    (capsuleArrives h c next).out = h.out ++ [hostAnswer h c ⟨0, 0x03, true⟩] ∧
      EventSet (capsuleArrives h c next) c.wing Ev.FOY_DUPLICATE_CID c.port ∧
      (capsuleArrives h c next).foy.waiting = h.foy.waiting ∧ (capsuleArrives h c next).foy.cmds = h.foy.cmds ∧
      (capsuleArrives h c next).foy.passed = h.foy.passed := by
  have hlisten := hostListens_duplicateCounted h c hl
  obtain ⟨t, hfoy⟩ := foy_endCapsule_listening (duplicateCounted h c) c ⟨0, 0x03, true⟩ hlisten
  rw [capsuleArrives_duplicate h c next ht hu, raise_out, raise_foy, hfoy, out_endCapsule_listening _ _ _ hlisten,
    hostAnswer_duplicateCounted]
  refine ⟨?_, raiseAt_sets _ _ _ (by decide), ?_, ?_, ?_⟩ <;> simp [duplicateCounted]

/-- Settles O20: a capsule and a Keep Alive arrive alike, and the arrival refuses a duplicate. -/
theorem duplicateIdentifierIsRefused : Obligations.DuplicateIdentifierIsRefused := by
  intro s c hrun ht hl ⟨y, hy, hsame⟩ i hi
  have hu := cidInUse_of_outstanding s.dev c y hy ((sameCid_iff c y).mpr hsame)
  have hrefused (next : Head → Head) := capsuleArrives_refuses_duplicate s.dev c next ht hl hu
  obtain rfl | rfl : i = .commandCapsule c ∨ i = .keepAlive c := by simpa using hi
  · exact completes_lift (exec_commandCapsule c) hrun (hrefused _)
  · exact completes_lift (exec_keepAlive c) hrun (hrefused _)

end Sys2Proof.Laws
end

section
/-! The queue and the held chip (R528 to R530): how commands leave the queue, and O1 to O4. RSV_DUMP.READY as every step leaves it (R501),
and O5. -/

namespace Sys2Proof.Laws

open Machine Machine.Reg

/-- Settles O1: the step takes the front command. -/
theorem stepRunsFrontCommand : Obligations.StepRunsFrontCommand := fun c rest s h => step_front s c rest h

/-- Settles O2: with an empty queue nothing is taken. -/
theorem emptyQueueIdles : Obligations.EmptyQueueIdles := step_empty

/-! ### A run over the queue -/

/-- A command's effect depends on the head alone, and leaves the queue alone. -/
theorem exec_head (c : Instr) (h : Head) : ∃ g : Head, ∀ q : List Instr, exec c ⟨h, q⟩ = .next ⟨g, q⟩ := by
  obtain ⟨f, hf⟩ := exec_effect c
  exact ⟨settle (f h), fun q => hf ⟨h, q⟩⟩

/-- A run takes the front command first. -/
theorem run_cons (n : Nat) (c : Instr) (q : List Instr) (h g : Head) (hx : exec c ⟨h, q⟩ = .next ⟨g, q⟩) :
    Sys2Proof.core.run (n + 1) (⟨h, c :: q⟩ : State) = Sys2Proof.core.run n (⟨g, q⟩ : State) := by
  have hs : Sys2Proof.core.step (⟨h, c :: q⟩ : State) = .next (⟨g, q⟩ : State) := hx
  simp only [Host.Core.run, hs]

theorem run_drains (rest : List Instr) : ∀ (l : List Instr) (h : Head), ∃ g : Head,
    Sys2Proof.core.run l.length (⟨h, l ++ rest⟩ : State) = .next (⟨g, rest⟩ : State) := by
  intro l
  induction l with
  | nil => exact fun h => ⟨h, rfl⟩
  | cons c l ih =>
    intro h
    obtain ⟨k, hk⟩ := exec_head c h
    obtain ⟨g, hg⟩ := ih k
    exact ⟨g, (run_cons l.length c (l ++ rest) h k (hk _)).trans hg⟩

/-- Settles O3: a run over the queue takes one command a step, and a command's effect does not read the queue. -/
theorem queueDrainsInOrder : Obligations.QueueDrainsInOrder := by
  refine ⟨fun l rest h => run_drains rest l h, fun c h p q => ?_⟩
  obtain ⟨g, hg⟩ := exec_head c h
  exact ⟨g, hg p, hg q⟩

/-- Settles O4: each command that does not reach a held chip leaves it as it is. -/
theorem heldChipIgnoresCommands : Obligations.HeldChipIgnoresCommands := by
  intro l h hheld
  induction l with
  | nil => exact fun _ => rfl
  | cons c l ih =>
    intro hl
    obtain ⟨f, hf⟩ := exec_lift c (hl c List.mem_cons_self)
    exact (run_cons l.length c l h h (by rw [hf]; exact lift_held f _ hheld)).trans (ih fun d hd => hl d (List.mem_cons_of_mem c hd))

/-! ### RSV_DUMP.READY -/

theorem readyNow_iff (h : Head) : readyNow h = true ↔ DumpConditions h := by
  have hbit : fbit h .east CUR_VAULT_READY = true ↔ fget h .east CUR_VAULT_READY = 1 := by
    have hlt : fget h .east CUR_VAULT_READY < 2 := fget_lt h .east CUR_VAULT_READY 0 0
    unfold fbit
    rw [bne_iff_ne]
    omega
  simp [readyNow, DumpConditions, hbit, and_assoc]

/-- The conditions of R501 are read from other registers than RSV_DUMP. -/
theorem dumpConditions_syncReadyBit (h : Head) : DumpConditions (syncReadyBit h) ↔ DumpConditions h := by
  unfold DumpConditions syncReadyBit
  rw [fget_fset_block _ _ _ _ CUR_VAULT_READY _ _ _ _ _ (by decide), fget_fset_off _ _ _ _ RSV_STATUS_FAULTS _ _ _ _ _ (by decide),
    fget_fset_block _ _ _ _ VIT_QUOTA_NOW_PAIR_DIRTY_MIB _ _ _ _ _ (by decide), fget_fset_off _ _ _ _ RSV_ALLOW_MIB _ _ _ _ _ (by decide),
    fget_fset_off _ _ _ _ RSV_STATUS_MODE _ _ _ _ _ (by decide)]

theorem dumpReady_syncReadyBit (h : Head) : fget (syncReadyBit h) .east RSV_DUMP_READY = 1 ↔ DumpConditions (syncReadyBit h) := by
  rw [dumpConditions_syncReadyBit, ← readyNow_iff, syncReadyBit, fget_fset_same _ _ _ _ _ _ (by decide) (by decide)]
  cases readyNow h <;> decide

/-- What settle leaves running has RSV_DUMP.READY last brought up to date. -/
theorem dumpReady_settle (h : Head) (hr : Runs (settle h)) : fget (settle h) .east RSV_DUMP_READY = 1 ↔ DumpConditions (settle h) := by
  by_cases hh : Runs h
  · have hset : settle h = syncReadyBit (deliverAll 4096 (follow h)) := if_pos hh
    rw [hset]
    exact dumpReady_syncReadyBit _
  · rw [settle_held h hh] at hr
    exact absurd hr hh

/-- Settles O5: a step that takes a command ends in settle, and one that takes none changes nothing. -/
theorem dumpReadyKeptByEveryStep : Obligations.DumpReadyKeptByEveryStep := by
  intro s t hs hstep
  cases hq : s.pending with
  | nil =>
    rw [step_empty s hq] at hstep
    cases hstep
    exact hs
  | cons c rest =>
    obtain ⟨f, hf⟩ := exec_effect c
    rw [step_front s c rest hq, hf] at hstep
    cases hstep
    exact dumpReady_settle _

end Sys2Proof.Laws
end

section
/-! The state after reset, and O6; the addresses of pages (R50, R51), and O8; a written word by the class of each field (R8), and O9. -/

namespace Sys2Proof.Laws

open Machine Machine.Reg

/-! ### Reset -/

/-- With no register written, every register reads its reset entry. -/
theorem rd_reset (p : Page) (off bank : Nat) : rd State.reset.dev p off bank = resetWord (homePage p off) off bank := rfl

theorem hget_reset (p : Page) (f : HBits) (hf : homePage p f.off = p) :
    hget State.reset.dev p f = bitsOf (resetWord p f.off 0) f.hi f.lo := by
  unfold hget
  rw [rd_reset, hf]

theorem resetWord_evtStatus (p : Page) : resetWord p 0x010 0 = 0 := by
  simp [resetWord, regDef?, regsHdr, resetFields, putBits]

theorem resetWord_evtEnable (p : Page) : resetWord p 0x014 0 = 0 := by
  simp [resetWord, regDef?, regsHdr, resetFields, putBits]

theorem headers_reset (p : Page) : hget State.reset.dev p CTRL_ENABLE = ofBool (enabledAtReset p.block) ∧
    hget State.reset.dev p EVT_STATUS_EVENTS = 0 ∧ hget State.reset.dev p EVT_ENABLE_EVENTS = 0 ∧
    hget State.reset.dev p OWNER_HART = 0xFF := by
  rw [hget_reset p CTRL_ENABLE rfl, hget_reset p EVT_STATUS_EVENTS rfl, hget_reset p EVT_ENABLE_EVENTS rfl, hget_reset p OWNER_HART rfl]
  refine ⟨?_, ?_, ?_, ?_⟩
  · change bitsOf (BitVec.ofNat 32 (ofBool (enabledAtReset p.block))) 0 0 = _
    cases enabledAtReset p.block <;> rfl
  · exact congrArg (bitsOf · 31 0) (resetWord_evtStatus p)
  · exact congrArg (bitsOf · 31 0) (resetWord_evtEnable p)
  · change bitsOf (BitVec.ofNat 32 (ofBool (isDocent p.block) <<< 31 + 0xFF)) 7 0 = _
    cases isDocent p.block <;> rfl

/-- The block code stands above the rest of ID (R53). -/
theorem idBlock_reset (p : Page) (hp : pageOk p = true) : hget State.reset.dev p ID_BLOCK = blockCode p.block := by
  have hinst : p.inst < 32 := by
    simp only [pageOk, Bool.and_eq_true, decide_eq_true_eq] at hp
    exact hp.1.trans_le (blockInstances_le p.block)
  have hcode := blockCode_lt p.block
  have hdoc := ofBool_le_one (isDocent p.block)
  have hw := wingNum_lt p.wing
  rw [hget_reset p ID_BLOCK rfl]
  change bitsOf (BitVec.ofNat 32 (blockCode p.block <<< 26 + ofBool (isDocent p.block) <<< 25 + wingNum p.wing <<< 24 + p.inst <<< 16 + 1 <<< 8)) 31 26 = _
  rw [bitsOf_ofNat _ _ _ (by decide) (by decide)]
  simp only [Nat.shiftLeft_eq]
  omega

theorem units_reset (w : Wing) : fget State.reset.dev w DGE_UNITS_ACTIVE = 44 ∧ fget State.reset.dev w CDC_UNITS_ACTIVE = 44 ∧
    fget State.reset.dev w CPH_UNITS_ACTIVE = 52 ∧
    ∀ u, u < 48 → fget State.reset.dev w DGE_UNIT_STATE_STATE u = if u < 44 then 0 else 1 := by
  cases w <;> decide

theorem chip_reset (w : Wing) : fget State.reset.dev w CHP_PART_PART = 0x8400 ∧ fget State.reset.dev w CHP_STEPPING_MAJOR = 0x0A ∧
    fget State.reset.dev w CHP_STEPPING_MINOR = 0x01 ∧ fget State.reset.dev w CHP_WING_WING = wingNum w := by
  cases w <;> decide

/-- No vault is ready at reset, and RSV_DUMP.READY is 0. -/
theorem dumpReadyTrue_reset : DumpReadyTrue State.reset := by
  intro _
  have hready : fget State.reset.dev .east RSV_DUMP_READY ≠ 1 := by decide
  have hvault : fget State.reset.dev .east CUR_VAULT_READY ≠ 1 := by decide
  exact ⟨fun h => absurd h hready, fun h => absurd h.1 hvault⟩

/-- Settles O6: the registers read their reset entries, and the tables list nothing. -/
theorem resetLeavesStatedValues : Obligations.ResetLeavesStatedValues := by
  refine ⟨rfl, ⟨rfl, rfl⟩, dumpReadyTrue_reset, rfl, chip_reset, units_reset, fun p hp => ?_⟩
  obtain ⟨henable, hstatus, hevents, howner⟩ := headers_reset p
  exact ⟨henable, hstatus, hevents, howner, idBlock_reset p hp⟩

/-! ### Pages and their addresses -/

/-- Settles O8: a page's address decodes to it, so two registers of one address are one. -/
theorem pageAddressesDecode : Obligations.PageAddressesDecode := by
  refine ⟨decodeAddr_pageAddr, fun p q m n hp hq hm hn heq => ?_⟩
  have hdec := decodeAddr_pageAddr p m hp hm
  rw [heq, decodeAddr_pageAddr q n hq hn] at hdec
  injection hdec with _ hpage hoff
  exact ⟨hpage.symm, hoff.symm⟩

end Sys2Proof.Laws
end

section
/-! A written word by the class of each field (R8): fields that do not overlap are written apart; and O9. -/

namespace Sys2Proof.Laws

open Machine Machine.Reg

/-- Two fields share no bit. -/
def fieldsDisjoint (f g : FieldDef) : Bool := decide (f.hi < g.lo) || decide (g.hi < f.lo)

/-- A field lies within its word, and its reset entry within the field. -/
def fieldFits (f : FieldDef) : Bool := decide (f.lo ≤ f.hi) && decide (f.hi < 32) && decide (f.reset < 2 ^ (f.hi - f.lo + 1))

/-- The fields of a row fit and share no bit. -/
def fieldsApart : List FieldDef → Bool
  | [] => true
  | f :: l => fieldFits f && l.all (fieldsDisjoint f) && fieldsApart l

/-- Every row of every table is laid out so. -/
theorem fieldsApart_tables (b : Block) (r : RegDef) (hr : r ∈ regsHdr ++ blockRegs b) : fieldsApart r.fields = true := by
  have hall : (regsHdr ++ blockRegs b).all (fun r => fieldsApart r.fields) = true := by cases b <;> rfl
  exact List.all_eq_true.mp hall r hr

theorem fieldsDisjoint_comm (f g : FieldDef) : fieldsDisjoint f g = fieldsDisjoint g f := by simp [fieldsDisjoint, Bool.or_comm]

theorem fieldsApart_append (l : List FieldDef) (f : FieldDef) (m : List FieldDef) (h : fieldsApart (l ++ f :: m) = true) :
    fieldFits f = true ∧ (∀ g ∈ l, fieldsDisjoint g f = true) ∧ ∀ g ∈ m, fieldsDisjoint g f = true := by
  induction l with
  | nil =>
    simp only [List.nil_append, fieldsApart, Bool.and_eq_true, List.all_eq_true] at h
    exact ⟨h.1.1, by simp, fun g hg => by rw [fieldsDisjoint_comm]; exact h.1.2 g hg⟩
  | cons k l ih =>
    simp only [List.cons_append, fieldsApart, Bool.and_eq_true, List.all_eq_true] at h
    obtain ⟨hfit, hl, hm⟩ := ih h.2
    refine ⟨hfit, fun g hg => ?_, hm⟩
    obtain rfl | hg := List.mem_cons.mp hg
    · exact h.1.2 f (by simp)
    · exact hl g hg

theorem fits_iff (f : FieldDef) : fieldFits f = true ↔ f.lo ≤ f.hi ∧ f.hi < 32 ∧ f.reset < 2 ^ (f.hi - f.lo + 1) := by
  simp [fieldFits, and_assoc]

/-! ### One field written -/

/-- A field written puts bits in its own place, or none. -/
theorem word_writeField (val : Word) (may : Bool) (acc : Written) (f : FieldDef) :
    (writeField val may acc f).word = acc.word ∨ ∃ v, (writeField val may acc f).word = putBits acc.word f.hi f.lo v := by
  unfold writeField
  dsimp only
  repeat' split
  all_goals first | exact .inl rfl | exact .inr ⟨_, rfl⟩

theorem pendVal_writeField (val : Word) (may : Bool) (acc : Written) (f : FieldDef) :
    (writeField val may acc f).pendVal = acc.pendVal ∨ ∃ v, (writeField val may acc f).pendVal = putBits acc.pendVal f.hi f.lo v := by
  unfold writeField
  dsimp only
  repeat' split
  all_goals first | exact .inl rfl | exact .inr ⟨_, rfl⟩

theorem pendMask_writeField (val : Word) (may : Bool) (acc : Written) (f : FieldDef) :
    (writeField val may acc f).pendMask = acc.pendMask ∨ (writeField val may acc f).pendMask = acc.pendMask ||| maskOf f.hi f.lo := by
  unfold writeField
  dsimp only
  repeat' split
  all_goals first | exact .inl rfl | exact .inr rfl

/-- Bits outside a field stay as it is written. -/
theorem word_writeField_outside (val : Word) (may : Bool) (acc : Written) (f : FieldDef) (i : Nat) (hf : fieldFits f = true) (hi : i < 32)
    (ho : ¬ (f.lo ≤ i ∧ i ≤ f.hi)) : (writeField val may acc f).word.getLsbD i = acc.word.getLsbD i := by
  obtain h | ⟨v, h⟩ := word_writeField val may acc f
  · rw [h]
  · rw [h, getLsbD_putBits _ _ _ _ _ ((fits_iff f).mp hf).1 hi, if_neg ho]

theorem pendVal_writeField_outside (val : Word) (may : Bool) (acc : Written) (f : FieldDef) (i : Nat) (hf : fieldFits f = true) (hi : i < 32)
    (ho : ¬ (f.lo ≤ i ∧ i ≤ f.hi)) : (writeField val may acc f).pendVal.getLsbD i = acc.pendVal.getLsbD i := by
  obtain h | ⟨v, h⟩ := pendVal_writeField val may acc f
  · rw [h]
  · rw [h, getLsbD_putBits _ _ _ _ _ ((fits_iff f).mp hf).1 hi, if_neg ho]

theorem pendMask_writeField_outside (val : Word) (may : Bool) (acc : Written) (f : FieldDef) (i : Nat) (hf : fieldFits f = true) (hi : i < 32)
    (ho : ¬ (f.lo ≤ i ∧ i ≤ f.hi)) : (writeField val may acc f).pendMask.getLsbD i = acc.pendMask.getLsbD i := by
  obtain h | h := pendMask_writeField val may acc f
  · rw [h]
  · rw [h, BitVec.getLsbD_or, getLsbD_maskOf _ _ _ ((fits_iff f).mp hf).1 hi, decide_eq_false ho, Bool.or_false]

/-- Fields written one after another leave a bit outside them all alone. -/
theorem writeFields_outside (val : Word) (may : Bool) (i : Nat) (hi : i < 32) (l : List FieldDef) :
    ∀ acc : Written, (∀ f ∈ l, fieldFits f = true ∧ ¬ (f.lo ≤ i ∧ i ≤ f.hi)) →
      (l.foldl (writeField val may) acc).word.getLsbD i = acc.word.getLsbD i ∧
      (l.foldl (writeField val may) acc).pendVal.getLsbD i = acc.pendVal.getLsbD i ∧
      (l.foldl (writeField val may) acc).pendMask.getLsbD i = acc.pendMask.getLsbD i := by
  induction l with
  | nil => exact fun _ _ => ⟨rfl, rfl, rfl⟩
  | cons f l ih =>
    intro acc hl
    obtain ⟨hfit, hout⟩ := hl f List.mem_cons_self
    obtain ⟨hw, hv, hm⟩ := ih (writeField val may acc f) fun g hg => hl g (List.mem_cons_of_mem f hg)
    exact ⟨hw.trans (word_writeField_outside val may acc f i hfit hi hout), hv.trans (pendVal_writeField_outside val may acc f i hfit hi hout),
      hm.trans (pendMask_writeField_outside val may acc f i hfit hi hout)⟩

theorem fieldsApart_fits (l : List FieldDef) (h : fieldsApart l = true) (f : FieldDef) (hf : f ∈ l) : fieldFits f = true := by
  obtain ⟨a, b, rfl⟩ := List.append_of_mem hf
  exact (fieldsApart_append a f b h).1

theorem bitsOf_congr {v w : Word} {hi lo : Nat} (hl : lo ≤ hi) (h32 : hi < 32)
    (h : ∀ i, i < 32 → lo ≤ i → i ≤ hi → v.getLsbD i = w.getLsbD i) : bitsOf v hi lo = bitsOf w hi lo := by
  apply Nat.eq_of_testBit_eq
  intro i
  rw [testBit_bitsOf, testBit_bitsOf]
  by_cases hi' : i < hi - lo + 1
  · rw [h (lo + i) (by omega) (by omega) (by omega)]
  · simp [hi']

/-- Two words agree in a field. -/
def AgreeIn (f : FieldDef) (a b : Written) : Prop :=
  bitsOf a.word f.hi f.lo = bitsOf b.word f.hi f.lo ∧ bitsOf a.pendVal f.hi f.lo = bitsOf b.pendVal f.hi f.lo ∧
    bitsOf a.pendMask f.hi f.lo = bitsOf b.pendMask f.hi f.lo

theorem writeFields_apart (val : Word) (may : Bool) (f : FieldDef) (hf : fieldFits f = true) (l : List FieldDef) (acc : Written)
    (hl : ∀ g ∈ l, fieldFits g = true ∧ fieldsDisjoint g f = true) : AgreeIn f (l.foldl (writeField val may) acc) acc := by
  obtain ⟨hle, h32, -⟩ := (fits_iff f).mp hf
  have hout (i : Nat) (hi : i < 32) (hlo : f.lo ≤ i) (hhi : i ≤ f.hi) :=
    writeFields_outside val may i hi l acc fun g hg => ⟨(hl g hg).1, fun hb => by
      have := (hl g hg).2
      simp only [fieldsDisjoint, Bool.or_eq_true, decide_eq_true_eq] at this
      omega⟩
  exact ⟨bitsOf_congr hle h32 fun i hi hlo hhi => (hout i hi hlo hhi).1, bitsOf_congr hle h32 fun i hi hlo hhi => (hout i hi hlo hhi).2.1,
    bitsOf_congr hle h32 fun i hi hlo hhi => (hout i hi hlo hhi).2.2⟩

/-- A field of a written word is as it leaves it alone, from the word before. -/
theorem writeFields_field (r : RegDef) (cur val : Word) (may : Bool) (hr : fieldsApart r.fields = true) (f : FieldDef) (hf : f ∈ r.fields) :
    ∃ acc : Written, bitsOf acc.word f.hi f.lo = bitsOf cur f.hi f.lo ∧ AgreeIn f (writeFields r cur val may) (writeField val may acc f) := by
  have hfits := fieldsApart_fits _ hr
  obtain ⟨a, b, hab⟩ := List.append_of_mem hf
  rw [hab] at hr
  obtain ⟨hfit, ha, hb⟩ := fieldsApart_append a f b hr
  refine ⟨a.foldl (writeField val may) ⟨cur, 0, 0, []⟩, ?_, ?_⟩
  · exact (writeFields_apart val may f hfit a _ fun g hg => ⟨hfits g (by rw [hab]; simp [hg]), ha g hg⟩).1
  · unfold writeFields
    rw [hab, List.foldl_append, List.foldl_cons]
    exact writeFields_apart val may f hfit b _ fun g hg => ⟨hfits g (by rw [hab]; simp [hg]), hb g hg⟩

/-- A value taken fits its field. -/
theorem accepted_lt (f : FieldDef) (hf : fieldFits f = true) (n v : Nat) (hn : n < 2 ^ (f.hi - f.lo + 1)) (h : (accepted f n).1 = some v) :
    v < 2 ^ (f.hi - f.lo + 1) := by
  obtain ⟨-, -, hreset⟩ := (fits_iff f).mp hf
  unfold accepted at h
  split at h <;> try split at h
  all_goals first | (cases h; assumption) | cases h

/-- A field reads the value it took. -/
theorem bitsOf_taken (f : FieldDef) (hf : fieldFits f = true) (w val : Word) (v : Nat)
    (hv : (accepted f (bitsOf val f.hi f.lo)).1 = some v) : bitsOf (putBits w f.hi f.lo v) f.hi f.lo = v := by
  obtain ⟨hle, h32, -⟩ := (fits_iff f).mp hf
  exact (bitsOf_putBits_same _ _ _ _ hle h32).trans (Nat.mod_eq_of_lt (accepted_lt f hf _ v (bitsOf_lt _ _ _) hv))

theorem bitsOf_or_maskOf (w : Word) (hi lo : Nat) (hl : lo ≤ hi) (h32 : hi < 32) :
    bitsOf (w ||| maskOf hi lo) hi lo = 2 ^ (hi - lo + 1) - 1 := by
  apply Nat.eq_of_testBit_eq
  intro i
  rw [testBit_bitsOf, Nat.testBit_two_pow_sub_one]
  by_cases hi' : i < hi - lo + 1
  · rw [BitVec.getLsbD_or, getLsbD_maskOf _ _ _ hl (by omega), decide_eq_true (show lo ≤ lo + i ∧ lo + i ≤ hi by omega)]
    simp
  · simp [hi']

/-- How a field's class takes a written word (R8, R11, R57 to R59). -/
def ClassTakes (f : FieldDef) (cur val : Word) (may : Bool) (o : Written) : Prop :=
  let n := bitsOf val f.hi f.lo
  let was := bitsOf cur f.hi f.lo
  let now := bitsOf o.word f.hi f.lo
  match f.acc with
  | .ro | .wo | .w1s => now = was
  | .w1c => ∀ i, i ≤ f.hi - f.lo → now.testBit i = (was.testBit i && !(n.testBit i))
  | .rw | .rwl => now = ((accepted f n).1).getD was
  | .rwf => now = was ∧ (∀ v, (accepted f n).1 = some v → bitsOf o.pendVal f.hi f.lo = v % 2 ^ (f.hi - f.lo + 1) ∧
      bitsOf o.pendMask f.hi f.lo = 2 ^ (f.hi - f.lo + 1) - 1)
  | .rwq => now = (if may then ((accepted f n).1).getD was else was)

/-- The class of a field looks at nothing but the field. -/
theorem classTakes_congr {f : FieldDef} {cur cur' val : Word} {may : Bool} {o o' : Written}
    (hcur : bitsOf cur f.hi f.lo = bitsOf cur' f.hi f.lo) (ho : AgreeIn f o o') (h : ClassTakes f cur' val may o') :
    ClassTakes f cur val may o := by
  obtain ⟨hw, hv, hm⟩ := ho
  unfold ClassTakes at h ⊢
  rw [hcur, hw, hv, hm]
  exact h

theorem classTakes_writeField (f : FieldDef) (hf : fieldFits f = true) (acc : Written) (val : Word) (may : Bool) :
    ClassTakes f acc.word val may (writeField val may acc f) := by
  obtain ⟨hle, h32, -⟩ := (fits_iff f).mp hf
  have htaken := bitsOf_taken f hf acc.word val
  unfold ClassTakes writeField
  cases hacc : f.acc with
  | ro | wo | w1s => rfl
  | w1c =>
    dsimp only
    intro i hi
    rw [bitsOf_putBits_same _ _ _ _ hle h32, Nat.testBit_mod_two_pow, Nat.testBit_and, Nat.testBit_xor, Nat.testBit_two_pow_sub_one,
      decide_eq_true (show i < f.hi - f.lo + 1 by omega)]
    simp
  | rw | rwl =>
    dsimp only
    rcases hx : accepted f (bitsOf val f.hi f.lo) with ⟨_ | v, c⟩
    · rfl
    · exact htaken v (by rw [hx])
  | rwf =>
    dsimp only
    rcases hx : accepted f (bitsOf val f.hi f.lo) with ⟨_ | v, c⟩
    · exact ⟨rfl, by simp⟩
    · refine ⟨rfl, fun u hu => ?_⟩
      cases hu
      exact ⟨bitsOf_putBits_same _ _ _ _ hle h32, bitsOf_or_maskOf _ _ _ hle h32⟩
  | rwq =>
    dsimp only
    rcases hx : accepted f (bitsOf val f.hi f.lo) with ⟨_ | v, c⟩
    · exact (ite_self _).symm
    · by_cases hv : v = bitsOf acc.word f.hi f.lo
      · simp [hv]
      · cases may
        · simp [hv]
        · simpa [hv] using htaken v (by rw [hx])

/-- Settles O9: a row's fields share no bit, so each is written as its class says and the bits between them stay. -/
theorem fieldsFollowTheirClass : Obligations.FieldsFollowTheirClass := by
  intro b r hr cur val may
  have hapart := fieldsApart_tables b r hr
  refine ⟨fun f hf => ?_, fun i hi hout => ?_⟩
  · obtain ⟨acc, hcur, hagree⟩ := writeFields_field r cur val may hapart f hf
    exact classTakes_congr hcur.symm hagree (classTakes_writeField f (fieldsApart_fits _ hapart f hf) acc val may)
  · exact (writeFields_outside val may i hi r.fields _ fun f hf => ⟨fieldsApart_fits _ hapart f hf, hout f hf⟩).1

end Sys2Proof.Laws
end

section
/-! The register file as a table of its own: the bits of a register (bget, bput), which every field access of the head reads or writes, and
what each named operation does to the table. Reads after writes are settled on the table, so that nothing else of the head matters to
them. -/

namespace Sys2Proof.Laws

open Machine Machine.Reg

/-- Bits hi to lo of a register of a page, in a register file. -/
def bget (t : Tab Word) (blk : Block) (w : Wing) (inst off hi lo bank : Nat) : Nat :=
  bitsOf (tabGet t (resetWord (homePage ⟨blk, w, inst⟩ off) off bank) (regKey (homePage ⟨blk, w, inst⟩ off) off bank)) hi lo

/-- A register of a page set whole, in a register file. -/
def wput (t : Tab Word) (blk : Block) (w : Wing) (inst off bank : Nat) (v : Word) : Tab Word :=
  tabStore t (resetWord (homePage ⟨blk, w, inst⟩ off) off bank) (regKey (homePage ⟨blk, w, inst⟩ off) off bank) v

/-- Bits hi to lo of a register of a page set, in a register file. -/
def bput (t : Tab Word) (blk : Block) (w : Wing) (inst off hi lo bank : Nat) (v : Nat) : Tab Word :=
  wput t blk w inst off bank (putBits
    (tabGet t (resetWord (homePage ⟨blk, w, inst⟩ off) off bank) (regKey (homePage ⟨blk, w, inst⟩ off) off bank)) hi lo v)

theorem fget_eq_bget (h : Head) (w : Wing) (f : Fld) (bank inst : Nat) :
    fget h w f bank inst = bget h.regs f.block w inst f.off f.hi f.lo bank := rfl

theorem hget_eq_bget (h : Head) (p : Page) (f : HBits) : hget h p f = bget h.regs p.block p.wing p.inst f.off f.hi f.lo 0 := rfl

@[simp] theorem wr_regs (h : Head) (p : Page) (off bank : Nat) (v : Word) :
    (wr h p off bank v).regs = wput h.regs p.block p.wing p.inst off bank v := rfl

@[simp] theorem fset_regs (h : Head) (w : Wing) (f : Fld) (v bank inst : Nat) :
    (fset h w f v bank inst).regs = bput h.regs f.block w inst f.off f.hi f.lo bank v := rfl

@[simp] theorem hset_regs (h : Head) (p : Page) (f : HBits) (v : Nat) :
    (hset h p f v).regs = bput h.regs p.block p.wing p.inst f.off f.hi f.lo 0 v := rfl

/-- A register that each wing's page holds for itself. -/
def ownReg (blk : Block) (off : Nat) : Bool := decide (homePage ⟨blk, .west, 0⟩ off = ⟨blk, .west, 0⟩)

theorem homePage_own {blk : Block} {off : Nat} (h : ownReg blk off = true) (w : Wing) (inst : Nat) :
    homePage ⟨blk, w, inst⟩ off = ⟨blk, w, inst⟩ := by
  unfold ownReg homePage at *
  cases hr : regDef? blk off with
  | none => rfl
  | some r => cases hs : r.share <;> simp_all

theorem homePage_east {blk : Block} {off : Nat} (h : ownReg blk off = false) (w : Wing) (inst : Nat) :
    homePage ⟨blk, w, inst⟩ off = ⟨blk, .east, inst⟩ := by
  unfold ownReg homePage at *
  cases hr : regDef? blk off with
  | none => simp_all
  | some r => cases hs : r.share <;> simp_all

/-- Every page holds its own header (R53). -/
theorem ownReg_header (blk : Block) {off : Nat} (h : off < 0x40) : ownReg blk off = true := by
  have hown (r : RegDef) (hr : regsHdr.find? (fun r => r.off == off) = some r) : r.share = .own := by
    have hall : ∀ r ∈ regsHdr, r.share = .own := by decide
    exact hall r (List.mem_of_find?_eq_some hr)
  unfold ownReg homePage regDef?
  rw [if_pos h]
  cases hr : regsHdr.find? (fun r => r.off == off) with
  | none => simp
  | some r => simp [hown r hr]

/-! ### A register read after it, or another, is written -/

variable (t : Tab Word) (blk blk' : Block) (w w' : Wing) (inst inst' off off' hi hi' lo lo' bank bank' : Nat)

@[simp] theorem bget_wput_same (v : Word) : bget (wput t blk w inst off bank v) blk w inst off hi lo bank = bitsOf v hi lo := by
  unfold bget wput
  rw [tabGet_tabStore_same]

/-- Another key. -/
theorem bget_wput_key (v : Word)
    (hk : regKey (homePage ⟨blk', w', inst'⟩ off') off' bank' ≠ regKey (homePage ⟨blk, w, inst⟩ off) off bank) :
    bget (wput t blk w inst off bank v) blk' w' inst' off' hi' lo' bank' = bget t blk' w' inst' off' hi' lo' bank' := by
  unfold bget wput
  rw [tabGet_tabStore_other _ _ _ _ hk]

theorem regKey_ne_off (p q : Page) (h : off' % 4096 ≠ off % 4096) : regKey q off' bank' ≠ regKey p off bank := fun e =>
  h (by rw [← keyOff_regKey q off' bank', e, keyOff_regKey])

theorem regKey_ne_bank (p q : Page) (h : bank' % 65536 ≠ bank % 65536) : regKey q off' bank' ≠ regKey p off bank := fun e =>
  h (by rw [← keyBank_regKey q off' bank', e, keyBank_regKey])

theorem regKey_ne_page (p q : Page) (h : pageNum q ≠ pageNum p) : regKey q off' bank' ≠ regKey p off bank := fun e =>
  h (by rw [← keyPage_regKey q off' bank', e, keyPage_regKey])

@[simp] theorem bget_wput_off (v : Word) (h : off' % 4096 ≠ off % 4096) :
    bget (wput t blk w inst off bank v) blk' w' inst' off' hi' lo' bank' = bget t blk' w' inst' off' hi' lo' bank' :=
  bget_wput_key _ _ _ _ _ _ _ _ _ _ _ _ _ _ (regKey_ne_off _ _ _ _ _ _ h)

@[simp] theorem bget_wput_block (v : Word) (h : blk' ≠ blk) :
    bget (wput t blk w inst off bank v) blk' w' inst' off' hi' lo' bank' = bget t blk' w' inst' off' hi' lo' bank' :=
  bget_wput_key _ _ _ _ _ _ _ _ _ _ _ _ _ _ (regKey_ne_page _ _ _ _ _ _ fun e => h (by simpa using pageNum_block e))

@[simp] theorem bget_wput_bank (v : Word) (h : bank' % 65536 ≠ bank % 65536) :
    bget (wput t blk w inst off bank v) blk' w' inst' off' hi' lo' bank' = bget t blk' w' inst' off' hi' lo' bank' :=
  bget_wput_key _ _ _ _ _ _ _ _ _ _ _ _ _ _ (regKey_ne_bank _ _ _ _ _ _ h)

theorem pageNum_inst {p q : Page} (h : pageNum q = pageNum p) : q.inst % 32 = p.inst % 32 := by
  unfold pageNum at h
  omega

theorem pageNum_wing {p q : Page} (h : pageNum q = pageNum p) : q.wing = p.wing := by
  unfold pageNum at h
  have h1 := wingNum_lt p.wing
  have h2 := wingNum_lt q.wing
  exact wingNum_inj (by omega)

@[simp] theorem bget_wput_inst (v : Word) (h : inst' % 32 ≠ inst % 32) :
    bget (wput t blk w inst off bank v) blk' w' inst' off' hi' lo' bank' = bget t blk' w' inst' off' hi' lo' bank' :=
  bget_wput_key _ _ _ _ _ _ _ _ _ _ _ _ _ _ (regKey_ne_page _ _ _ _ _ _ fun e => h (by simpa using pageNum_inst e))

@[simp] theorem bget_wput_wing (v : Word) (h : w' ≠ w) (ho : ownReg blk off = true) (ho' : ownReg blk' off' = true) :
    bget (wput t blk w inst off bank v) blk' w' inst' off' hi' lo' bank' = bget t blk' w' inst' off' hi' lo' bank' :=
  bget_wput_key _ _ _ _ _ _ _ _ _ _ _ _ _ _ (regKey_ne_page _ _ _ _ _ _ fun e => h (by
    have := pageNum_wing e
    rwa [homePage_own ho', homePage_own ho] at this))

/-! ### Bits read after bits are put -/

@[simp] theorem bget_bput_same (v : Nat) (h : lo ≤ hi) (h32 : hi < 32) :
    bget (bput t blk w inst off hi lo bank v) blk w inst off hi lo bank = v % 2 ^ (hi - lo + 1) := by
  unfold bput
  rw [bget_wput_same, bitsOf_putBits_same _ _ _ _ h h32]

/-- Other bits of the register. -/
@[simp] theorem bget_bput_bits (v : Nat) (hb : blk' = blk) (ho : off' = off) (hl : lo ≤ hi) (hl' : lo' ≤ hi') (h32 : hi' < 32)
    (hd : hi' < lo ∨ hi < lo') :
    bget (bput t blk w inst off hi lo bank v) blk' w inst off' hi' lo' bank = bget t blk' w inst off' hi' lo' bank := by
  subst hb ho
  unfold bput
  rw [bget_wput_same, bitsOf_putBits_other _ _ _ _ _ _ hl h32 hl' hd]
  rfl

@[simp] theorem bget_bput_off (v : Nat) (h : off' % 4096 ≠ off % 4096) :
    bget (bput t blk w inst off hi lo bank v) blk' w' inst' off' hi' lo' bank' = bget t blk' w' inst' off' hi' lo' bank' :=
  bget_wput_off _ _ _ _ _ _ _ _ _ _ _ _ _ _ h

@[simp] theorem bget_bput_block (v : Nat) (h : blk' ≠ blk) :
    bget (bput t blk w inst off hi lo bank v) blk' w' inst' off' hi' lo' bank' = bget t blk' w' inst' off' hi' lo' bank' :=
  bget_wput_block _ _ _ _ _ _ _ _ _ _ _ _ _ _ h

@[simp] theorem bget_bput_bank (v : Nat) (h : bank' % 65536 ≠ bank % 65536) :
    bget (bput t blk w inst off hi lo bank v) blk' w' inst' off' hi' lo' bank' = bget t blk' w' inst' off' hi' lo' bank' :=
  bget_wput_bank _ _ _ _ _ _ _ _ _ _ _ _ _ _ h

@[simp] theorem bget_bput_inst (v : Nat) (h : inst' % 32 ≠ inst % 32) :
    bget (bput t blk w inst off hi lo bank v) blk' w' inst' off' hi' lo' bank' = bget t blk' w' inst' off' hi' lo' bank' :=
  bget_wput_inst _ _ _ _ _ _ _ _ _ _ _ _ _ _ h

@[simp] theorem bget_bput_wing (v : Nat) (h : w' ≠ w) (ho : ownReg blk off = true) (ho' : ownReg blk' off' = true) :
    bget (bput t blk w inst off hi lo bank v) blk' w' inst' off' hi' lo' bank' = bget t blk' w' inst' off' hi' lo' bank' :=
  bget_wput_wing _ _ _ _ _ _ _ _ _ _ _ _ _ _ h ho ho'

/-- The West page's view of a register that the East page holds. -/
@[simp] theorem bget_west (ho : ownReg blk off = false) :
    bget t blk .west inst off hi lo bank = bget t blk .east inst off hi lo bank := by
  unfold bget
  rw [homePage_east ho, homePage_east ho]

@[simp] theorem bput_west (v : Nat) (ho : ownReg blk off = false) :
    bput t blk .west inst off hi lo bank v = bput t blk .east inst off hi lo bank v := by
  unfold bput wput
  rw [homePage_east ho, homePage_east ho]

theorem bget_lt : bget t blk w inst off hi lo bank < 2 ^ (hi - lo + 1) := bitsOf_lt _ _ _

/-- A write of what the bits hold already. -/
theorem bget_bput_same_of_lt (v : Nat) (h : lo ≤ hi) (h32 : hi < 32) (hv : v < 2 ^ (hi - lo + 1)) :
    bget (bput t blk w inst off hi lo bank v) blk w inst off hi lo bank = v :=
  (bget_bput_same t blk w inst off hi lo bank v h h32).trans (Nat.mod_eq_of_lt hv)

/-! ### Events and errors -/

/-- The events of a page that are set, in a register file. -/
def evGet (t : Tab Word) (p : Page) : Nat :=
  bget t p.block p.wing p.inst EVT_STATUS_EVENTS.off EVT_STATUS_EVENTS.hi EVT_STATUS_EVENTS.lo 0

/-- An event of a page set, in a register file. -/
def evPut (t : Tab Word) (p : Page) (n : Nat) : Tab Word :=
  if (evGet t p).testBit n then t
  else bput t p.block p.wing p.inst EVT_STATUS_EVENTS.off EVT_STATUS_EVENTS.hi EVT_STATUS_EVENTS.lo 0 (evGet t p ||| 1 <<< n)

@[simp] theorem raiseAt_regs (h : Head) (p : Page) (n : Nat) : (raiseAt h p n).regs = evPut h.regs p n := by
  by_cases hs : (hget h p EVT_STATUS_EVENTS).testBit n = true
  · exact (congrArg Head.regs (if_pos hs)).trans (if_pos hs).symm
  · refine (congrArg Head.regs (if_neg hs)).trans (Eq.trans ?_ (if_neg hs).symm)
    split <;> rfl

@[simp] theorem raise_regs (h : Head) (w : Wing) (e : EvRef) (inst : Nat) :
    (raise h w e inst).regs = evPut h.regs ⟨e.block, w, inst⟩ e.n := raiseAt_regs h _ _

@[simp] theorem raiseCounted_regs (h : Head) (w : Wing) (e : EvRef) (inst : Nat) :
    (raiseCounted h w e inst).regs =
      bput h.regs e.block w inst EVT_STATUS_EVENTS.off EVT_STATUS_EVENTS.hi EVT_STATUS_EVENTS.lo 0
        (evGet h.regs ⟨e.block, w, inst⟩ ||| 1 <<< e.n) := by
  unfold raiseCounted
  dsimp only
  split <;> rfl

@[simp] theorem raiseBoth_regs (h : Head) (e : EvRef) :
    (raiseBoth h e).regs = evPut (evPut h.regs ⟨e.block, .east, 0⟩ e.n) ⟨e.block, .west, 0⟩ e.n := by
  unfold raiseBoth
  rw [raise_regs, raise_regs]

@[simp] theorem bget_evPut_off (p : Page) (n : Nat) (h : off' % 4096 ≠ 0x010) :
    bget (evPut t p n) blk' w' inst' off' hi' lo' bank' = bget t blk' w' inst' off' hi' lo' bank' := by
  unfold evPut
  split
  · rfl
  · exact bget_bput_off _ _ _ _ _ _ _ _ _ _ _ _ _ _ _ _ h

@[simp] theorem bget_evPut_block (p : Page) (n : Nat) (h : blk' ≠ p.block) :
    bget (evPut t p n) blk' w' inst' off' hi' lo' bank' = bget t blk' w' inst' off' hi' lo' bank' := by
  unfold evPut
  split
  · rfl
  · exact bget_bput_block _ _ _ _ _ _ _ _ _ _ _ _ _ _ _ _ h

theorem bget_evPut_page (p : Page) (n : Nat) (h : (⟨blk', w', inst' % 32⟩ : Page) ≠ ⟨p.block, p.wing, p.inst % 32⟩) (ho : ownReg blk' off' = true) :
    bget (evPut t p n) blk' w' inst' off' hi' lo' bank' = bget t blk' w' inst' off' hi' lo' bank' := by
  unfold evPut
  split
  · rfl
  · refine bget_wput_key _ _ _ _ _ _ _ _ _ _ _ _ _ _ (regKey_ne_page _ _ _ _ _ _ fun e => h ?_)
    have hb := pageNum_block e
    have hi := pageNum_inst e
    have hw := pageNum_wing e
    rw [homePage_own ho] at hb hi hw
    simp only [homePage_own (ownReg_header p.block (off := EVT_STATUS_EVENTS.off) (by decide))] at hb hi hw
    simp [hb, hi, hw]

/-- A bit of the events of the page after one is set. -/
theorem testBit_evGet_evPut (p : Page) (n m : Nat) (hm : m < 32) :
    (evGet (evPut t p n) p).testBit m = ((evGet t p).testBit m || decide (m = n)) := by
  unfold evPut
  split
  · rename_i hs
    by_cases hmn : m = n
    · rw [hmn, hs, decide_eq_true rfl, Bool.or_true]
    · rw [decide_eq_false hmn, Bool.or_false]
  · have hread : evGet (bput t p.block p.wing p.inst EVT_STATUS_EVENTS.off EVT_STATUS_EVENTS.hi EVT_STATUS_EVENTS.lo 0
        (evGet t p ||| 1 <<< n)) p = (evGet t p ||| 1 <<< n) % 2 ^ 32 :=
      bget_bput_same _ _ _ _ _ _ _ _ _ (by decide) (by decide)
    rw [hread, Nat.testBit_mod_two_pow, Nat.testBit_or, Nat.one_shiftLeft, Nat.testBit_two_pow, decide_eq_true hm, Bool.true_and]
    simp only [eq_comm]

/-- A page's event is set. -/
def EvSet (t : Tab Word) (blk : Block) (w : Wing) (inst n : Nat) : Prop := (evGet t ⟨blk, w, inst⟩).testBit n = true

theorem eventSet_iff (h : Head) (w : Wing) (e : EvRef) (inst : Nat) : EventSet h w e inst ↔ EvSet h.regs e.block w inst e.n := Iff.rfl

@[simp] theorem evSet_evPut_same (n : Nat) (hn : n < 32) : EvSet (evPut t ⟨blk, w, inst⟩ n) blk w inst n := by
  unfold EvSet
  rw [testBit_evGet_evPut t _ n n hn]
  simp

/-- Events once set stay as another is set. -/
theorem evSet_evPut (p : Page) (n m : Nat) (hm : m < 32) (h : EvSet t blk w inst m) : EvSet (evPut t p n) blk w inst m := by
  by_cases hp : (⟨blk, w, inst % 32⟩ : Page) = ⟨p.block, p.wing, p.inst % 32⟩
  · unfold EvSet
    have hsame (u : Tab Word) : evGet u ⟨blk, w, inst⟩ = evGet u p := by
      obtain ⟨b, x, i⟩ := p
      simp only [Page.mk.injEq] at hp
      obtain ⟨rfl, rfl, hi⟩ := hp
      unfold evGet bget
      have hr (k : Nat) : resetWord ⟨blk, w, k⟩ EVT_STATUS_EVENTS.off 0 = 0 := by
        simp [resetWord, EVT_STATUS_EVENTS, regDef?, regsHdr, resetFields, putBits]
      simp only [homePage_own (ownReg_header blk (off := EVT_STATUS_EVENTS.off) (by decide)), hr, regKey, pageNum, hi]
    rw [hsame, testBit_evGet_evPut t p n m hm]
    unfold EvSet at h
    rw [hsame] at h
    rw [h, Bool.true_or]
  · unfold EvSet evGet
    rw [bget_evPut_page _ _ _ _ _ _ _ _ _ _ hp (ownReg_header blk (by decide))]
    exact h

@[simp] theorem evSet_bput (off hi lo : Nat) (v n : Nat) (ho : off % 4096 ≠ 0x010) :
    EvSet (bput t blk' w' inst' off hi lo bank v) blk w inst n ↔ EvSet t blk w inst n := by
  unfold EvSet evGet
  rw [bget_bput_off _ _ _ _ _ _ _ _ _ _ _ _ _ _ _ _ (Ne.symm ho)]

@[simp] theorem evSet_bput_block (off hi lo : Nat) (v n : Nat) (ho : blk ≠ blk') :
    EvSet (bput t blk' w' inst' off hi lo bank v) blk w inst n ↔ EvSet t blk w inst n := by
  unfold EvSet evGet
  rw [bget_bput_block _ _ _ _ _ _ _ _ _ _ _ _ _ _ _ _ ho]

@[simp] theorem evSet_wput (off : Nat) (v : Word) (n : Nat) (ho : off % 4096 ≠ 0x010) :
    EvSet (wput t blk' w' inst' off bank v) blk w inst n ↔ EvSet t blk w inst n := by
  unfold EvSet evGet
  rw [bget_wput_off _ _ _ _ _ _ _ _ _ _ _ _ _ _ (Ne.symm ho)]

/-- An error captured, in a register file (R60). -/
def errPut (t : Tab Word) (p : Page) (e : ErrRec) : Tab Word :=
  if bget t p.block p.wing p.inst ERR_INFO_VALID.off ERR_INFO_VALID.hi ERR_INFO_VALID.lo 0 = 1 then
    bput t p.block p.wing p.inst ERR_INFO_COUNT.off ERR_INFO_COUNT.hi ERR_INFO_COUNT.lo 0
      (satAdd 7 (bget t p.block p.wing p.inst ERR_INFO_COUNT.off ERR_INFO_COUNT.hi ERR_INFO_COUNT.lo 0) 1)
  else
    bput (bput (wput t p.block p.wing p.inst 0x020 0 (errInfoWord e))
        p.block p.wing p.inst ERR_ADDR_LO_ADDR.off ERR_ADDR_LO_ADDR.hi ERR_ADDR_LO_ADDR.lo 0 e.addr)
      p.block p.wing p.inst ERR_ADDR_HI_ADDR.off ERR_ADDR_HI_ADDR.hi ERR_ADDR_HI_ADDR.lo 0 (e.addr >>> 32)

@[simp] theorem capture_regs (h : Head) (p : Page) (e : ErrRec) : (capture h p e).regs = errPut h.regs p e := by
  by_cases hv : hget h p ERR_INFO_VALID = 1
  · exact (congrArg Head.regs (if_pos hv)).trans (if_pos hv).symm
  · exact (congrArg Head.regs (if_neg hv)).trans (if_neg hv).symm

@[simp] theorem bget_errPut_off (p : Page) (e : ErrRec) (h0 : off' % 4096 ≠ 0x020) (h1 : off' % 4096 ≠ 0x024) (h2 : off' % 4096 ≠ 0x028) :
    bget (errPut t p e) blk' w' inst' off' hi' lo' bank' = bget t blk' w' inst' off' hi' lo' bank' := by
  unfold errPut
  split
  · exact bget_bput_off _ _ _ _ _ _ _ _ _ _ _ _ _ _ _ _ h0
  · exact (bget_bput_off _ _ _ _ _ _ _ _ _ _ _ _ _ _ _ _ h2).trans ((bget_bput_off _ _ _ _ _ _ _ _ _ _ _ _ _ _ _ _ h1).trans
      (bget_wput_off _ _ _ _ _ _ _ _ _ _ _ _ _ _ h0))

@[simp] theorem bget_errPut_block (p : Page) (e : ErrRec) (h : blk' ≠ p.block) :
    bget (errPut t p e) blk' w' inst' off' hi' lo' bank' = bget t blk' w' inst' off' hi' lo' bank' := by
  unfold errPut
  split
  · exact bget_bput_block _ _ _ _ _ _ _ _ _ _ _ _ _ _ _ _ h
  · exact (bget_bput_block _ _ _ _ _ _ _ _ _ _ _ _ _ _ _ _ h).trans ((bget_bput_block _ _ _ _ _ _ _ _ _ _ _ _ _ _ _ _ h).trans
      (bget_wput_block _ _ _ _ _ _ _ _ _ _ _ _ _ _ h))

@[simp] theorem evSet_errPut (p : Page) (e : ErrRec) (n : Nat) : EvSet (errPut t p e) blk w inst n ↔ EvSet t blk w inst n := by
  unfold EvSet evGet
  rw [bget_errPut_off _ _ _ _ _ _ _ _ _ _ (by decide) (by decide) (by decide)]

/-! ### The other named operations -/

@[simp] theorem fadd_regs (h : Head) (w : Wing) (f : Fld) (n bank inst : Nat) :
    (fadd h w f n bank inst).regs = bput h.regs f.block w inst f.off f.hi f.lo bank
      (satAdd (f.hi - f.lo + 1) (bget h.regs f.block w inst f.off f.hi f.lo bank) n) := rfl

@[simp] theorem fmax_regs (h : Head) (w : Wing) (f : Fld) (v bank inst : Nat) :
    (fmax h w f v bank inst).regs = bput h.regs f.block w inst f.off f.hi f.lo bank
      (max (bget h.regs f.block w inst f.off f.hi f.lo bank) (min v (2 ^ (f.hi - f.lo + 1) - 1))) := rfl

@[simp] theorem pset_regs (h : Head) (w : Wing) (lo hi : Fld) (v bank : Nat) :
    (pset h w lo hi v bank).regs = bput (bput h.regs lo.block w 0 lo.off lo.hi lo.lo bank v) hi.block w 0 hi.off hi.hi hi.lo bank
      (v >>> (32 - lo.lo)) := rfl

/-- The register file after a page's configuration event (R59). -/
def configPut (t : Tab Word) (p : Page) (e : ErrRec) : Tab Word :=
  if p.block = .frm then evPut (evPut (errPut t p e) (pg .frm .east) (configBit .frm)) (pg .frm .west) (configBit .frm)
  else evPut (errPut t p e) p (configBit p.block)

@[simp] theorem config_regs (h : Head) (p : Page) (e : ErrRec) : (config h p e).regs = configPut h.regs p e := by
  unfold config configPut
  split
  · simp only [raiseAt_regs, capture_regs]
  · simp only [raiseAt_regs, capture_regs]

/-! ### What a register file keeps of another -/

/-- Every register but some reads the same in two register files. -/
def RegsKept (t u : Tab Word) (l : List (Block × Nat)) : Prop :=
  ∀ (p : Page) (off bank : Nat), off < 4096 → (p.block, off) ∉ l →
    tabGet u (resetWord (homePage p off) off bank) (regKey (homePage p off) off bank) =
      tabGet t (resetWord (homePage p off) off bank) (regKey (homePage p off) off bank)

theorem regsBut_iff (h g : Head) (l : List (Block × Nat)) : RegsBut h g l ↔ RegsKept h.regs g.regs l := Iff.rfl

variable {l : List (Block × Nat)} {u : Tab Word}

@[simp] theorem regsKept_refl : RegsKept t t l := fun _ _ _ _ _ => rfl

variable {t}

theorem regsKept_trans {r : Tab Word} (a : RegsKept t u l) (b : RegsKept u r l) : RegsKept t r l :=
  fun p off bank ho hn => (b p off bank ho hn).trans (a p off bank ho hn)

theorem regsKept_wput_self (t : Tab Word) (v : Word) (hm : (blk, off % 4096) ∈ l) : RegsKept t (wput t blk w inst off bank v) l := by
  intro p o b ho hn
  refine tabGet_tabStore_other _ _ _ _ fun e => ?_
  by_cases hb : p.block = blk
  · refine hn ?_
    rw [hb, show o = off % 4096 by rw [← Nat.mod_eq_of_lt ho, ← keyOff_regKey _ o b, e, keyOff_regKey]]
    exact hm
  · exact hb (by simpa using pageNum_block (by rw [← keyPage_regKey (homePage p o) o b, e, keyPage_regKey] :
      pageNum (homePage p o) = pageNum (homePage ⟨blk, w, inst⟩ off)))

@[simp] theorem regsKept_wput (v : Word) (hm : (blk, off % 4096) ∈ l) : RegsKept t (wput u blk w inst off bank v) l ↔ RegsKept t u l :=
  ⟨fun h p o b ho hn => (regsKept_wput_self blk w inst off bank u v hm p o b ho hn).symm.trans (h p o b ho hn),
    fun h => regsKept_trans h (regsKept_wput_self _ _ _ _ _ _ _ hm)⟩

@[simp] theorem regsKept_bput (v : Nat) (hm : (blk, off % 4096) ∈ l) :
    RegsKept t (bput u blk w inst off hi lo bank v) l ↔ RegsKept t u l := regsKept_wput _ _ _ _ _ _ hm

@[simp] theorem regsKept_evPut (p : Page) (n : Nat) (hm : (p.block, 0x010) ∈ l) : RegsKept t (evPut u p n) l ↔ RegsKept t u l := by
  unfold evPut
  split
  · exact Iff.rfl
  · exact regsKept_bput _ _ _ _ _ _ _ _ hm

@[simp] theorem regsKept_errPut (p : Page) (e : ErrRec) (h0 : (p.block, 0x020) ∈ l) (h1 : (p.block, 0x024) ∈ l) (h2 : (p.block, 0x028) ∈ l) :
    RegsKept t (errPut u p e) l ↔ RegsKept t u l := by
  unfold errPut
  split
  · exact regsKept_bput _ _ _ _ _ _ _ _ h0
  · exact (regsKept_bput _ _ _ _ _ _ _ _ h2).trans ((regsKept_bput _ _ _ _ _ _ _ _ h1).trans (regsKept_wput _ _ _ _ _ _ h0))

@[simp] theorem regsKept_configPut (p : Page) (e : ErrRec) (h : (p.block, 0x010) ∈ l) (h0 : (p.block, 0x020) ∈ l)
    (h1 : (p.block, 0x024) ∈ l) (h2 : (p.block, 0x028) ∈ l) : RegsKept t (configPut u p e) l ↔ RegsKept t u l := by
  have herr := regsKept_errPut (t := t) (u := u) p e h0 h1 h2
  unfold configPut
  split
  · rename_i hb
    rw [hb] at h
    exact (regsKept_evPut _ _ h).trans ((regsKept_evPut _ _ h).trans herr)
  · exact (regsKept_evPut _ _ h).trans herr

theorem regsKept_mono {m : List (Block × Nat)} (a : RegsKept t u l) (hlm : l ⊆ m) : RegsKept t u m :=
  fun p off bank ho hn => a p off bank ho fun hm => hn (hlm hm)

/-- Bits of a register that is kept. -/
theorem bget_of_regsKept (a : RegsKept t u l) (ho : off < 4096) (hn : (blk, off) ∉ l) :
    bget u blk w inst off hi lo bank = bget t blk w inst off hi lo bank :=
  congrArg (bitsOf · hi lo) (a ⟨blk, w, inst⟩ off bank ho hn)

/-! ### A choice between two heads -/

@[simp] theorem regs_ite {c : Prop} [Decidable c] (h g : Head) : (if c then h else g).regs = if c then h.regs else g.regs :=
  apply_ite Head.regs c h g

@[simp] theorem bget_ite {c : Prop} [Decidable c] (t u : Tab Word) : bget (if c then t else u) blk w inst off hi lo bank =
    if c then bget t blk w inst off hi lo bank else bget u blk w inst off hi lo bank := by split <;> rfl

@[simp] theorem evSet_ite {c : Prop} [Decidable c] (t u : Tab Word) (n : Nat) : EvSet (if c then t else u) blk w inst n ↔
    if c then EvSet t blk w inst n else EvSet u blk w inst n := by split <;> rfl

@[simp] theorem regsKept_ite {c : Prop} [Decidable c] {r : Tab Word} : RegsKept t (if c then u else r) l ↔
    if c then RegsKept t u l else RegsKept t r l := by split <;> rfl

/-! ### Two heads that are the same -/

/-- Two heads are the same where each of their parts is. -/
theorem head_eq_iff (h g : Head) : h = g ↔ h.regs = g.regs ∧ h.pend = g.pend ∧ h.hiHold = g.hiHold ∧ h.hiLatch = g.hiLatch ∧
    h.evq = g.evq ∧ h.swWest = g.swWest ∧ h.groupTimes = g.groupTimes ∧ h.out = g.out ∧ h.bus = g.bus ∧ h.freeCtr = g.freeCtr ∧
    h.frm = g.frm ∧ h.foy = g.foy ∧ h.vit = g.vit ∧ h.cat = g.cat ∧ h.eng = g.eng ∧ h.mem = g.mem ∧ h.poison = g.poison ∧
    h.sram = g.sram ∧ h.mft = g.mft ∧ h.mftTxc = g.mftTxc ∧ h.keys = g.keys ∧ h.bindings = g.bindings ∧ h.plk = g.plk ∧
    h.dsp = g.dsp ∧ h.gal = g.gal ∧ h.cur = g.cur ∧ h.bridges = g.bridges ∧ h.rpl = g.rpl ∧ h.core = g.core ∧ h.doc = g.doc ∧
    h.arc = g.arc ∧ h.pwr = g.pwr ∧ h.rsv = g.rsv := by
  cases h; cases g; simp only [Head.mk.injEq]

end Sys2Proof.Laws
end

section
/-! The common header: quiescing, fences, block reset and block faults (R53 to R60, R513), and O12. -/

namespace Sys2Proof.Laws

open Machine Machine.Reg

theorem bget_bput_past (t : Tab Word) (blk blk' : Block) (w w' : Wing) (inst inst' off off' hi hi' lo lo' bank bank' v : Nat)
    (h : off % 4096 < 0x40) (h' : 0x40 ≤ off' % 4096) :
    bget (bput t blk w inst off hi lo bank v) blk' w' inst' off' hi' lo' bank' = bget t blk' w' inst' off' hi' lo' bank' :=
  bget_bput_off _ _ _ _ _ _ _ _ _ _ _ _ _ _ _ _ (by omega)

theorem configBit_lt (b : Block) : configBit b < 32 := by cases b <;> decide

theorem mem_allPages (p : Page) (hp : pageOk p = true) : allPages.contains p = true := by
  obtain ⟨b, w, i⟩ := p
  have hall : ∀ j < blockInstances b, (!isDocent b || w == .east) = true → allPages.contains ⟨b, w, j⟩ = true := by
    cases b <;> cases w <;> decide
  simp only [pageOk, Bool.and_eq_true, decide_eq_true_eq] at hp
  exact hall i hp.1 hp.2

/-! ### A configuration event -/

/-- What ERR_INFO and ERR_ADDR hold stays while those registers do. -/
theorem captured_congr {h g : Head} {p : Page} {code src addr : Nat} {write : Bool}
    (hg : ∀ f : HBits, f.off ∈ [0x020, 0x024, 0x028] → hget g p f = hget h p f) (c : Captured h p code src write addr) :
    Captured g p code src write addr where
  valid := (hg ERR_INFO_VALID (by decide)).trans c.valid
  code := (hg ERR_INFO_CODE (by decide)).trans c.code
  source := (hg ERR_INFO_SOURCE (by decide)).trans c.source
  write := (hg ERR_INFO_WRITE (by decide)).trans c.write
  low := (hg ERR_ADDR_LO_ADDR (by decide)).trans c.low
  high := (hg ERR_ADDR_HI_ADDR (by decide)).trans c.high

theorem captured_raiseAt {h : Head} {p q : Page} {n code src addr : Nat} {write : Bool} (c : Captured h p code src write addr) :
    Captured (raiseAt h q n) p code src write addr := by
  refine captured_congr (fun f hf => ?_) c
  have hoff : f.off % 4096 ≠ 0x010 := by
    simp only [List.mem_cons, List.not_mem_nil, or_false] at hf
    omega
  exact congrArg (bitsOf · f.hi f.lo) (rd_raiseAt_off h q p n f.off 0 hoff)

/-- A first error is captured with its configuration event (R59, R60). -/
theorem captured_config (h : Head) (p : Page) (code src : Nat) (write : Bool) (addr : Nat) (hv : hget h p ERR_INFO_VALID = 0)
    (hc : code < 16) (hs : src < 256) : Captured (config h p ⟨code, src, write, addr⟩) p code src write addr := by
  have hcap := captured_capture h p code src write addr hv hc hs
  unfold config
  dsimp only
  split
  · exact captured_raiseAt (captured_raiseAt hcap)
  · exact captured_raiseAt hcap

theorem pageOk_inst_of_single (p : Page) (hp : pageOk p = true) (hb : blockInstances p.block = 1) : p.inst = 0 := by
  simp only [pageOk, hb, Bool.and_eq_true, decide_eq_true_eq] at hp
  omega

/-- The configuration event of a page is set (R59). -/
theorem eventSet_config (h : Head) (p : Page) (e : ErrRec) (hp : pageOk p = true) :
    EventSet (config h p e) p.wing ⟨p.block, configBit p.block⟩ p.inst := by
  rw [eventSet_iff, config_regs, configPut]
  by_cases hb : p.block = .frm
  · have hi := pageOk_inst_of_single p hp (by rw [hb]; rfl)
    rw [if_pos hb, hb, hi]
    cases p.wing with
    | east => exact evSet_evPut (hm := by decide) (h := evSet_evPut_same _ _ _ _ _ (by decide)) ..
    | west => exact evSet_evPut_same _ _ _ _ _ (by decide)
  · rw [if_neg hb]
    exact evSet_evPut_same _ _ _ _ _ (configBit_lt p.block)

theorem sameButRegs_capture {h g : Head} {p : Page} {e : ErrRec} (a : SameButRegs h g) : SameButRegs h (capture g p e) := by
  refine sameButRegs_trans a ?_
  unfold capture
  split <;> rfl

theorem sameButRegs_config {h g : Head} {p : Page} {e : ErrRec} (a : SameButRegs h g) : SameButRegs h (config g p e) := by
  unfold config
  dsimp only
  split
  · exact sameButRegs_raiseAt (sameButRegs_raiseAt (sameButRegs_capture a))
  · exact sameButRegs_raiseAt (sameButRegs_capture a)

theorem regsBut_config {h g : Head} {l : List (Block × Nat)} {p : Page} {e : ErrRec} (a : RegsBut h g l) (h3 : (p.block, 0x010) ∈ l)
    (h0 : (p.block, 0x020) ∈ l) (h1 : (p.block, 0x024) ∈ l) (h2 : (p.block, 0x028) ∈ l) : RegsBut h (config g p e) l := by
  rw [regsBut_iff, config_regs]
  exact (regsKept_configPut p e h3 h0 h1 h2).mpr a

/-! ### Running and quiescing -/

theorem running_iff (h : Head) (p : Page) : running h p = true ↔
    hget h p CTRL_ENABLE = 1 ∧ hget h p CTRL_QUIESCE = 0 ∧ hget h p STATUS_FENCED = 0 ∧ hget h p RUNG_CURRENT = 0 := by
  simp [running, and_assoc]

/-- A block's work does not show in its header. -/
theorem blockIdle_hset (h : Head) (p q : Page) (f : HBits) (v : Nat) (hf : f.off % 4096 < 0x40) :
    blockIdle (hset h p f v) q = blockIdle h q := by
  have hfld (w : Wing) (g : Fld) (bank : Nat) (hg : 0x40 ≤ g.off % 4096) : fget (hset h p f v) w g bank = fget h w g bank :=
    bget_bput_past (h := hf) (h' := hg) ..
  have hpch : pchState (hset h p f v) q.wing = pchState h q.wing := funext fun k => hfld q.wing HBM_PCH_STATE_STATE k (by decide)
  unfold blockIdle
  cases q.block
  case cat => simp only [fbit, hfld _ CAT_CKPT_STATUS_IN_PROGRESS _ (by decide)]; rfl
  case cch => simp only [hfld _ CCH_WAY_STATE_CLEANING _ (by decide)]
  case mem => simp only [fbit, hfld _ MEM_MIGRATE_BUSY _ (by decide)]
  case hbm => simp only [hpch]
  case rsv => exact congrArg (· == 0) (hfld .east RSV_STATUS_MODE 0 (by decide))
  all_goals rfl

/-- A block that is not running stops accepting work: RUNNING 0. -/
theorem setRunning_stopped (h : Head) (p : Page) (hr : running h p = false) : setRunning h p = hset h p STATUS_RUNNING 0 := by
  unfold setRunning
  rw [if_neg (by rw [hr]; decide)]

theorem setRunning_runs (h : Head) (p : Page) (hr : running h p = true) :
    setRunning h p = hset (hset h p STATUS_RUNNING 1) p STATUS_QUIESCED 0 := if_pos hr

theorem not_running_of {h : Head} {p : Page} (hn : hget h p CTRL_QUIESCE ≠ 0 ∨ hget h p STATUS_FENCED ≠ 0) : running h p = false := by
  rw [← Bool.not_eq_true, running_iff]
  exact fun ⟨_, hq, hf, _⟩ => hn.elim (absurd hq) (absurd hf)

/-- The head as QUIESCE written 1 leaves its page's CTRL and RUNNING, before the block stops. -/
def quiesceAsked (h : Head) (p : Page) (enable : Bool) : Head :=
  hset (hset (hset h p CTRL_ENABLE (ofBool enable)) p CTRL_QUIESCE 1) p STATUS_RUNNING 0

theorem running_quiesceAsked (h : Head) (p : Page) (enable : Bool) : running (quiesceAsked h p enable) p = false :=
  not_running_of (.inl (by simp (disch := first | decide | rfl) [quiesceAsked, hget_eq_bget]))

theorem blockIdle_quiesceAsked (h : Head) (p : Page) (enable : Bool) : blockIdle (quiesceAsked h p enable) p = blockIdle h p := by
  simp (disch := decide) only [quiesceAsked, blockIdle_hset]

/-- A gallery block with no open gallery, a codec with no case and any other block close nothing as they stop. -/
theorem stopBlock_quiesceAsked (h : Head) (p : Page) (enable : Bool) (hg : p.block = .gal → h.gal.opens = [])
    (hc : p.block = .cdc → h.eng.cases = []) : stopBlock (quiesceAsked h p enable) p = quiesceAsked h p enable := by
  unfold stopBlock
  split
  · rename_i hb
    simp [closeAll, foldHead, quiesceAsked, hg hb]
  · rename_i hb
    simp [foldHead, quiesceAsked, hc hb]
  · rfl

/-- A block whose work is done stops at once when QUIESCE is written 1 (R54). -/
theorem runEffect_idle (h : Head) (p : Page) (enable : Bool) (hi : blockIdle h p = true) (hg : p.block = .gal → h.gal.opens = [])
    (hc : p.block = .cdc → h.eng.cases = []) :
    runEffect h p enable true = hset (quiesceAsked h p enable) p STATUS_QUIESCED 1 := by
  have hrun : setRunning (hset (hset h p CTRL_ENABLE (ofBool enable)) p CTRL_QUIESCE (ofBool true)) p = quiesceAsked h p enable :=
    setRunning_stopped _ _ (not_running_of (.inl (by simp (disch := first | decide | rfl) [hget_eq_bget, ofBool])))
  unfold runEffect quiesceNow
  simp only [hrun, stopBlock_quiesceAsked h p enable hg hc, ite_self, running_quiesceAsked, blockIdle_quiesceAsked, hi, if_true,
    Bool.not_false, and_self]

/-- The head as ENABLE written 1 with QUIESCE 0 leaves the page of a block that runs. -/
def enabled (h : Head) (p : Page) : Head :=
  hset (hset (hset (hset h p CTRL_ENABLE 1) p CTRL_QUIESCE 0) p STATUS_RUNNING 1) p STATUS_QUIESCED 0

/-- An island at rung 0 that neither enters nor leaves a rung has nothing to wake from. -/
theorem islandWake_awake (h : Head) (p : Page) (cause : Nat) (hrung : hget h p RUNG_CURRENT = 0)
    (hex : h.pwr.exits.contains (pageNum p) = false) (hen : tabGet? h.pwr.entries (pageNum p) = none) : islandWake h p cause = h := by
  unfold islandWake
  rw [if_neg (by rw [hex]; decide), hen]
  exact if_pos (.inl hrung)

/-- A block at rung 0 that is not fenced runs when ENABLE is written 1 with QUIESCE 0 (R54). -/
theorem runEffect_enable (h : Head) (p : Page) (hf : hget h p STATUS_FENCED = 0) (hrung : hget h p RUNG_CURRENT = 0)
    (hex : h.pwr.exits.contains (pageNum p) = false) (hen : tabGet? h.pwr.entries (pageNum p) = none) :
    runEffect h p true false = enabled h p := by
  rw [hget_eq_bget] at hf hrung
  have hbefore : running (hset (hset h p CTRL_ENABLE (ofBool true)) p CTRL_QUIESCE (ofBool false)) p = true := by
    rw [running_iff]
    refine ⟨?_, ?_, ?_, ?_⟩ <;> simp (disch := first | decide | rfl) [hget_eq_bget, ofBool, hf, hrung, CTRL_ENABLE]
  have hset' : setRunning (hset (hset h p CTRL_ENABLE (ofBool true)) p CTRL_QUIESCE (ofBool false)) p = enabled h p :=
    setRunning_runs _ _ hbefore
  have hrun : running (enabled h p) p = true := by
    rw [running_iff]
    refine ⟨?_, ?_, ?_, ?_⟩ <;> simp (disch := first | decide | rfl) [enabled, hget_eq_bget, hf, hrung, CTRL_ENABLE]
  have hawake : islandWake (enabled h p) p 0 = enabled h p :=
    islandWake_awake _ _ _ (((running_iff _ _).mp hrun).2.2.2) hex hen
  unfold runEffect quiesceNow
  simp [hset', hrun, hawake]

/-! ### The clauses -/

theorem errInfoClear_arms_capture (s : State) (ini : Initiator) (p : Page) (hr : Runs s.dev) (hw : Writable s.dev ini p 0x020) :
    Completes (.errInfoClear ini p) s (fun h =>
      hget h p ERR_INFO_VALID = 0 ∧ hget h p ERR_INFO_COUNT = 0 ∧ hget h p ERR_INFO_CODE = hget s.dev p ERR_INFO_CODE ∧
        RegsBut s.dev h [(p.block, 0x020)] ∧ SameButRegs (reply s.dev false) h) := by
  refine completes_lift (exec_errInfoClear ini p) hr ?_
  rw [errInfoClear, withHeader_ok _ _ _ _ _ hw, regsBut_iff]
  refine ⟨?_, ?_, ?_, ?_, rfl⟩ <;>
    simp (disch := first | decide | rfl | simp (decide := true)) [errClear, hget_eq_bget]

theorem commitGo_pends (s : State) (ini : Initiator) (p : Page) (hr : Runs s.dev) (hw : Writable s.dev ini p 0x03C) :
    Completes (.commitGo ini p) s (fun h =>
      hget h p COMMIT_GO = 1 ∧ hget h p COMMIT_LAST_FRAME = hget s.dev p COMMIT_LAST_FRAME ∧
        RegsBut s.dev h [(p.block, 0x03C)] ∧ SameButRegs (reply s.dev false) h) := by
  refine completes_lift (exec_commitGo ini p) hr ?_
  rw [commitGo, withHeader_ok _ _ _ _ _ hw, regsBut_iff]
  refine ⟨?_, ?_, ?_, rfl⟩ <;>
    simp (disch := first | decide | rfl | simp (decide := true)) [goEffect, hget_eq_bget, COMMIT_GO]

theorem blockReset_quiesces (h : Head) (p : Page) (leaving : Bool) : hget (blockReset h p leaving) p CTRL_QUIESCE = 1 ∧
    hget (blockReset h p leaving) p STATUS_QUIESCED = 1 ∧ hget (blockReset h p leaving) p STATUS_RUNNING = 0 := by
  unfold blockReset
  refine ⟨?_, ?_, ?_⟩ <;> simp (disch := first | decide | rfl) [hget_eq_bget, CTRL_QUIESCE, STATUS_QUIESCED]

theorem blockReset_of_quiesced (s : State) (ini : Initiator) (p : Page) (hr : Runs s.dev) (hw : Writable s.dev ini p 0x008)
    (hq : hget s.dev p STATUS_QUIESCED = 1) :
    Completes (.blockReset ini p) s (fun h =>
      hget h p CTRL_QUIESCE = 1 ∧ hget h p STATUS_QUIESCED = 1 ∧ hget h p STATUS_RUNNING = 0) := by
  refine completes_lift (exec_blockReset ini p) hr ?_
  have hq' : hget (reply s.dev false) p STATUS_QUIESCED = 1 := hq
  rw [blockResetCmd, withHeader_ok _ _ _ _ _ hw, resetEffect, hq']
  exact blockReset_quiesces _ _ _

theorem blockReset_refused (s : State) (ini : Initiator) (p : Page) (hr : Runs s.dev) (hw : Writable s.dev ini p 0x008)
    (hq : hget s.dev p STATUS_QUIESCED = 0) (hv : hget s.dev p ERR_INFO_VALID = 0) (hs : sourceCode ini < 256) :
    Completes (.blockReset ini p) s (fun h =>
      Captured h p 5 (sourceCode ini) true (pageAddr p + 0x008) ∧ EventSet h p.wing ⟨p.block, configBit p.block⟩ p.inst ∧
        RegsBut s.dev h [(p.block, 0x010), (p.block, 0x020), (p.block, 0x024), (p.block, 0x028)] ∧
        SameButRegs (reply s.dev false) h) := by
  refine completes_lift (exec_blockReset ini p) hr ?_
  have hq' : hget (reply s.dev false) p STATUS_QUIESCED = 0 := hq
  rw [blockResetCmd, withHeader_ok _ _ _ _ _ hw, resetEffect, hq']
  exact ⟨captured_config _ p 5 _ true _ hv (by decide) hs, eventSet_config _ p _ hw.page,
    regsBut_config (regsBut_refl _ _) (by simp) (by simp) (by simp) (by simp), sameButRegs_config (sameButRegs_refl _)⟩

theorem quiesceRequest_stops_idle_block (s : State) (ini : Initiator) (p : Page) (enable : Bool) (hr : Runs s.dev)
    (hw : Writable s.dev ini p 0x008) (hi : blockIdle s.dev p = true) (hg : p.block = .gal → s.dev.gal.opens = [])
    (hc : p.block = .cdc → s.dev.eng.cases = []) :
    Completes (.quiesceRequest ini p enable true) s (fun h =>
      hget h p CTRL_ENABLE = ofBool enable ∧ hget h p CTRL_QUIESCE = 1 ∧ hget h p STATUS_RUNNING = 0 ∧
        hget h p STATUS_QUIESCED = 1) := by
  refine completes_lift (exec_quiesceRequest ini p enable true) hr ?_
  rw [quiesceRequest, withHeader_ok _ _ _ _ _ hw, runEffect_idle (reply s.dev false) p enable hi hg hc]
  refine ⟨?_, ?_, ?_, ?_⟩ <;>
    simp (disch := first | decide | rfl) [quiesceAsked, hget_eq_bget, CTRL_ENABLE, CTRL_QUIESCE, STATUS_QUIESCED]
  exact ofBool_le_one enable

theorem quiesceDone_sets_quiesced (s : State) (p : Page) (hr : Runs s.dev) (hp : pageOk p = true) (hn : running s.dev p = false)
    (hi : blockIdle s.dev p = true) :
    Completes (.quiesceDone p) s (fun h =>
      hget h p STATUS_QUIESCED = 1 ∧ RegsBut s.dev h [(p.block, 0x00C)] ∧ SameButRegs s.dev h) := by
  refine completes_lift (exec_quiesceDone p) hr ?_
  rw [quiesceDone, if_pos (mem_allPages p hp), quiesceNow, if_pos (by simp [hn, hi]), regsBut_iff]
  refine ⟨?_, ?_, rfl⟩ <;>
    simp (disch := first | decide | rfl | simp (decide := true)) [hget_eq_bget, STATUS_QUIESCED]

theorem blockEnable_runs (s : State) (ini : Initiator) (p : Page) (hr : Runs s.dev) (hw : Writable s.dev ini p 0x008)
    (hf : hget s.dev p STATUS_FENCED = 0) (hrung : hget s.dev p RUNG_CURRENT = 0)
    (hex : s.dev.pwr.exits.contains (pageNum p) = false) (hen : tabGet? s.dev.pwr.entries (pageNum p) = none) :
    Completes (.blockEnable ini p) s (fun h =>
      hget h p CTRL_ENABLE = 1 ∧ hget h p CTRL_QUIESCE = 0 ∧ hget h p STATUS_RUNNING = 1 ∧ hget h p STATUS_QUIESCED = 0 ∧
        RegsBut s.dev h [(p.block, 0x008), (p.block, 0x00C)] ∧ SameButRegs (reply s.dev false) h) := by
  refine completes_lift (exec_blockEnable ini p) hr ?_
  rw [blockEnable, withHeader_ok _ _ _ _ _ hw, regsBut_iff]
  rw [runEffect_enable (reply s.dev false) p hf hrung hex hen]
  refine ⟨?_, ?_, ?_, ?_, ?_, rfl⟩ <;>
    simp (disch := first | decide | rfl | simp (decide := true)) [enabled, hget_eq_bget, CTRL_ENABLE, STATUS_RUNNING]

/-- The head as CTRL.FENCE leaves a page's CTRL and STATUS. -/
def fenced (h : Head) (p : Page) : Head := hset (hset (hset h p CTRL_FENCE 1) p STATUS_FENCED 1) p STATUS_RUNNING 0

theorem fenceEffect_quiesced (h : Head) (src : Nat) (p : Page) (hb : p.block = .foy ∨ p.block = .plk) (hf : hget h p CTRL_FENCE = 0)
    (hrung : hget h p RUNG_CURRENT = 0) :
    fenceEffect h src p true = startEntry { fenced h p with pwr := { h.pwr with
      exits := h.pwr.exits.filter (· != pageNum p), requests := tabDel h.pwr.requests (pageNum p) } } p 4 := by
  have hstop : setRunning (hset (hset h p CTRL_FENCE 1) p STATUS_FENCED 1) p = fenced h p :=
    setRunning_stopped _ _ (not_running_of (.inr (by simp (disch := first | decide | rfl) [hget_eq_bget, STATUS_FENCED])))
  have hfence : fenceable p.block = true := by obtain hb | hb := hb <;> rw [hb] <;> rfl
  rw [hget_eq_bget] at hrung
  unfold fenceEffect
  simp (disch := first | decide | rfl) [hfence, hf, hstop, hget_eq_bget, fenced, hrung]

theorem instanceFence_fences (s : State) (ini : Initiator) (p : Page) (hr : Runs s.dev) (hw : Writable s.dev ini p 0x008)
    (hb : p.block = .foy ∨ p.block = .plk) (hf : hget s.dev p CTRL_FENCE = 0) (hq : hget s.dev p STATUS_QUIESCED = 1)
    (hrung : hget s.dev p RUNG_CURRENT = 0) :
    Completes (.instanceFence ini p) s (fun h =>
      hget h p CTRL_FENCE = 1 ∧ hget h p STATUS_FENCED = 1 ∧ hget h p STATUS_RUNNING = 0 ∧ hget h p RUNG_IN_TRANSIT = 1 ∧
        tabGet? h.pwr.entries (pageNum p) = some (4, 0) ∧
        RegsBut s.dev h [(p.block, 0x008), (p.block, 0x00C), (p.block, 0x030)]) := by
  refine completes_lift (exec_instanceFence ini p) hr ?_
  have hq' : hget (reply s.dev false) p STATUS_QUIESCED = 1 := hq
  rw [instanceFence, withHeader_ok _ _ _ _ _ hw, hq']
  rw [show (1 == 1) = true from rfl, fenceEffect_quiesced (reply s.dev false) _ p hb hf hrung, regsBut_iff]
  refine ⟨?_, ?_, ?_, ?_, ?_, ?_⟩ <;>
    simp (disch := first | decide | rfl | simp (decide := true)) [startEntry, setEntries, fenced, hget_eq_bget, CTRL_FENCE, STATUS_FENCED,
      RUNG_IN_TRANSIT]

theorem fenceEffect_unquiesced (h : Head) (src : Nat) (p : Page) (hb : p.block = .foy ∨ p.block = .plk) (hf : hget h p CTRL_FENCE = 0) :
    fenceEffect h src p false = config h p ⟨3, src, true, pageAddr p + 0x008⟩ := by
  have hfence : fenceable p.block = true := by obtain hb | hb := hb <;> rw [hb] <;> rfl
  simp [fenceEffect, hfence, hf]

theorem instanceFence_refused (s : State) (ini : Initiator) (p : Page) (hr : Runs s.dev) (hw : Writable s.dev ini p 0x008)
    (hb : p.block = .foy ∨ p.block = .plk) (hf : hget s.dev p CTRL_FENCE = 0) (hq : hget s.dev p STATUS_QUIESCED = 0)
    (hv : hget s.dev p ERR_INFO_VALID = 0) (hs : sourceCode ini < 256) :
    Completes (.instanceFence ini p) s (fun h =>
      Captured h p 3 (sourceCode ini) true (pageAddr p + 0x008) ∧ EventSet h p.wing ⟨p.block, configBit p.block⟩ p.inst ∧
        RegsBut s.dev h [(p.block, 0x010), (p.block, 0x020), (p.block, 0x024), (p.block, 0x028)]) := by
  refine completes_lift (exec_instanceFence ini p) hr ?_
  have hq' : hget (reply s.dev false) p STATUS_QUIESCED = 0 := hq
  rw [instanceFence, withHeader_ok _ _ _ _ _ hw, hq', show (0 == 1) = false from rfl,
    fenceEffect_unquiesced (reply s.dev false) _ p hb hf]
  exact ⟨captured_config _ p 3 _ true _ hv (by decide) hs, eventSet_config _ p _ hw.page,
    regsBut_config (regsBut_refl _ _) (by simp) (by simp) (by simp) (by simp)⟩

/-- An island below rung 0 that is not fenced, and neither enters nor leaves a rung, starts its exit (R470). -/
theorem islandWake_asleep (h : Head) (p : Page) (cause : Nat) (hrung : hget h p RUNG_CURRENT ≠ 0) (hf : hget h p STATUS_FENCED ≠ 1)
    (hex : h.pwr.exits.contains (pageNum p) = false) (hen : tabGet? h.pwr.entries (pageNum p) = none) :
    islandWake h p cause = startExit h p (1 <<< cause) := by
  unfold islandWake
  rw [if_neg (by rw [hex]; decide), hen]
  exact if_neg fun hc => hc.elim hrung hf

/-- The head as CTRL.FENCE written 0 leaves a page's CTRL and STATUS. -/
def unfenced (h : Head) (p : Page) : Head :=
  hset (hset (hset (hset h p CTRL_FENCE 0) p STATUS_FENCED 0) p CTRL_QUIESCE 1) p STATUS_RUNNING 0

theorem unfenceEffect_dark (h : Head) (p : Page) (hb : p.block = .foy ∨ p.block = .plk) (hf : hget h p CTRL_FENCE = 1)
    (hrung : hget h p RUNG_CURRENT = 4) (hex : h.pwr.exits.contains (pageNum p) = false)
    (hen : tabGet? h.pwr.entries (pageNum p) = none) : unfenceEffect h p = startExit (unfenced h p) p 1 := by
  have hfence : fenceable p.block = true := by obtain hb | hb := hb <;> rw [hb] <;> rfl
  rw [hget_eq_bget] at hrung
  rw [unfenceEffect, if_neg (by simp [hfence, hf])]
  refine islandWake_asleep (unfenced h p) p 0 ?_ ?_ hex hen <;>
    simp (disch := first | decide | rfl) [unfenced, hget_eq_bget, hrung]

theorem instanceUnfence_wakes (s : State) (ini : Initiator) (p : Page) (hr : Runs s.dev) (hw : Writable s.dev ini p 0x008)
    (hb : p.block = .foy ∨ p.block = .plk) (hf : hget s.dev p CTRL_FENCE = 1) (hrung : hget s.dev p RUNG_CURRENT = 4)
    (hex : s.dev.pwr.exits.contains (pageNum p) = false) (hen : tabGet? s.dev.pwr.entries (pageNum p) = none) :
    Completes (.instanceUnfence ini p) s (fun h =>
      hget h p CTRL_FENCE = 0 ∧ hget h p STATUS_FENCED = 0 ∧ hget h p CTRL_QUIESCE = 1 ∧ pageNum p ∈ h.pwr.exits ∧
        hget h p RUNG_IN_TRANSIT = 1 ∧ RegsBut s.dev h [(p.block, 0x008), (p.block, 0x00C), (p.block, 0x030)]) := by
  refine completes_lift (exec_instanceUnfence ini p) hr ?_
  rw [instanceUnfence, withHeader_ok _ _ _ _ _ hw, unfenceEffect_dark (reply s.dev false) p hb hf hrung hex hen, regsBut_iff]
  refine ⟨?_, ?_, ?_, ?_, ?_, ?_⟩ <;>
    simp (disch := first | decide | rfl | simp (decide := true)) [startExit, setExits, unfenced, hget_eq_bget, CTRL_QUIESCE,
      RUNG_IN_TRANSIT]

theorem blockFault_quiesces (s : State) (p : Page) (tags : List Nat) (hr : Runs s.dev) (hp : pageOk p = true)
    (hv : hget s.dev p ERR_INFO_VALID = 0) :
    Completes (.blockFault p tags) s (fun h => ∃ g : Head,
      hget g p STATUS_FAULT = 1 ∧ Captured g p 6 0xFF false 0 ∧
        RegsBut s.dev g [(p.block, 0x00C), (p.block, 0x020), (p.block, 0x024), (p.block, 0x028)] ∧ SameButRegs s.dev g ∧
        h = runEffect (faultOps g p tags) p (hget g p CTRL_ENABLE == 1) true) := by
  refine completes_lift (exec_blockFault p tags) hr ⟨capture (hset s.dev p STATUS_FAULT 1) p ⟨6, 0xFF, false, 0⟩, ?_, ?_, ?_, ?_, ?_⟩
  · simp (disch := first | decide | rfl) [hget_eq_bget, STATUS_FAULT]
  · refine captured_capture _ p 6 0xFF false 0 ?_ (by decide) (by decide)
    rw [hget_eq_bget] at hv
    simp (disch := first | decide | rfl) [hget_eq_bget, hv]
  · rw [regsBut_iff]
    simp (disch := first | decide | rfl | simp (decide := true))
  · exact sameButRegs_capture rfl
  · simp only [blockFault, mem_allPages p hp]
    rfl

/-- Settles O12: each header write through its effect, and the block fault through its capture. -/
theorem headerQuiesceAndFences : Obligations.HeaderQuiesceAndFences :=
  ⟨errInfoClear_arms_capture, commitGo_pends, blockReset_of_quiesced, blockReset_refused, quiesceRequest_stops_idle_block,
    quiesceDone_sets_quiesced, blockEnable_runs, instanceFence_fences, instanceFence_refused, instanceUnfence_wakes, blockFault_quiesces⟩

end Sys2Proof.Laws
end

section
/-! The events of a page (R9, R53, R70, R73), and O13. -/

namespace Sys2Proof.Laws

open Machine Machine.Reg

theorem evtCount_le (b : Block) : evtCount b ≤ 32 := by cases b <;> decide

theorem testBit_eventBits (p : Page) (v : Word) (n : Nat) : (eventBits p v).testBit n = (decide (n < evtCount p.block) && v.getLsbD n) := by
  unfold eventBits
  rw [Nat.testBit_mod_two_pow]
  rfl

/-! ### Delivery again -/

/-- The deliveries of a page's events that a word names. -/
def deliveries (p : Page) (bits : Nat) : List Delivery :=
  ((List.range (evtCount p.block)).filter (fun n => bits.testBit n)).map (fun n => ⟨evtBase p + n, p.wing⟩)

theorem foldl_evq (f : Nat → Delivery) (l : List Nat) (h : Head) :
    l.foldl (fun h n => { h with evq := h.evq ++ [f n] }) h = { h with evq := h.evq ++ l.map f } := by
  induction l generalizing h with
  | nil => simp
  | cons n l ih => rw [List.foldl_cons, ih]; simp

theorem redeliver_eq (h : Head) (p : Page) (bits : Nat) : redeliver h p bits = { h with evq := h.evq ++ deliveries p bits } :=
  foldl_evq (fun n => ⟨evtBase p + n, p.wing⟩) _ h

theorem mem_deliveries {p : Page} {bits n : Nat} (hn : n < evtCount p.block) (hb : bits.testBit n = true) :
    (⟨evtBase p + n, p.wing⟩ : Delivery) ∈ deliveries p bits :=
  List.mem_map.mpr ⟨n, List.mem_filter.mpr ⟨List.mem_range.mpr hn, hb⟩, rfl⟩

/-! ### Events set one after another -/

theorem evGet_of_status (h : Head) (p : Page) : hget h p EVT_STATUS_EVENTS = evGet h.regs p := rfl

theorem evGet_bput_status (t : Tab Word) (p : Page) (v : Nat) :
    evGet (bput t p.block p.wing p.inst EVT_STATUS_EVENTS.off EVT_STATUS_EVENTS.hi EVT_STATUS_EVENTS.lo 0 v) p = v % 2 ^ 32 :=
  bget_bput_same (h := by decide) (h32 := by decide) ..

theorem evGet_bput_off (t : Tab Word) (p : Page) (blk : Block) (w : Wing) (inst off hi lo bank v : Nat) (h : off % 4096 ≠ 0x010) :
    evGet (bput t blk w inst off hi lo bank v) p = evGet t p := bget_bput_off (h := Ne.symm h) ..

/-- What every raise of a page's events does, from its source or for EVT_FORCE. -/
structure RaisesOwn (p : Page) (f : Head → Nat → Head) : Prop where
  sets : ∀ h n m, m < 32 → (evGet (f h n).regs p).testBit m = ((evGet h.regs p).testBit m || decide (m = n))
  regs : ∀ h n, RegsKept h.regs (f h n).regs [(p.block, 0x010)]
  same : ∀ h n, SameButRegs h (f h n)

theorem raisesOwn_raiseAt (p : Page) : RaisesOwn p (fun h n => raiseAt h p n) where
  sets h n m hm := by rw [raiseAt_regs, testBit_evGet_evPut _ p n m hm]
  regs h n := by rw [raiseAt_regs]; exact (regsKept_evPut p n (by simp)).mpr (regsKept_refl _)
  same h n := sameButRegs_raiseAt rfl

theorem raisesOwn_raiseCounted (p : Page) : RaisesOwn p (fun h n => raiseCounted h p.wing ⟨p.block, n⟩ p.inst) where
  sets h n m hm := by
    rw [raiseCounted_regs, evGet_bput_status, Nat.testBit_mod_two_pow, Nat.testBit_or, Nat.one_shiftLeft, Nat.testBit_two_pow,
      decide_eq_true hm, Bool.true_and]
    simp only [eq_comm]
  regs h n := by rw [raiseCounted_regs]; exact (regsKept_bput (hm := by simp [EVT_STATUS_EVENTS]) ..).mpr (regsKept_refl _)
  same h n := by unfold raiseCounted SameButRegs; dsimp only; split <;> rfl

theorem raisesOwn_ite (p : Page) (c : Nat → Bool) (f g : Head → Nat → Head) (hf : RaisesOwn p f) (hg : RaisesOwn p g) :
    RaisesOwn p (fun h n => if c n then f h n else g h n) where
  sets h n m hm := by split <;> [exact hf.sets h n m hm; exact hg.sets h n m hm]
  regs h n := by split <;> [exact hf.regs h n; exact hg.regs h n]
  same h n := by split <;> [exact hf.same h n; exact hg.same h n]

/-- Events raised one after another set each of their bits and nothing else. -/
theorem foldHead_raises {p : Page} {f : Head → Nat → Head} (hf : RaisesOwn p f) (l : List Nat) (h : Head) :
    (∀ m, m < 32 → (evGet (foldHead h l f).regs p).testBit m = ((evGet h.regs p).testBit m || l.contains m)) ∧
      RegsKept h.regs (foldHead h l f).regs [(p.block, 0x010)] ∧ SameButRegs h (foldHead h l f) := by
  unfold foldHead
  induction l generalizing h with
  | nil => exact ⟨fun m _ => by simp, regsKept_refl _, rfl⟩
  | cons n l ih =>
    obtain ⟨hset, hregs, hsame⟩ := ih (f h n)
    refine ⟨fun m hm => ?_, regsKept_trans (hf.regs h n) hregs, sameButRegs_trans (hf.same h n) hsame⟩
    rw [List.foldl_cons, hset m hm, hf.sets h n m hm, List.contains_cons, Bool.or_assoc]
    simp [beq_eq_decide]

theorem contains_filter_range (k m : Nat) (q : Nat → Bool) : ((List.range k).filter q).contains m = (decide (m < k) && q m) := by
  rw [Bool.eq_iff_iff]
  simp

/-! ### The clauses -/

/-- STATUS.CFG_LOCKED cleared with the configuration event (R58). -/
def unlockCfg (c : Bool) (h : Head) (p : Page) : Head := if c then hset h p STATUS_CFG_LOCKED 0 else h

theorem unlockCfg_frame (c : Bool) (h : Head) (p : Page) : evGet (unlockCfg c h p).regs p = evGet h.regs p ∧
    RegsKept h.regs (unlockCfg c h p).regs [(p.block, 0x010), (p.block, 0x00C)] ∧ SameButRegs h (unlockCfg c h p) := by
  cases c
  · exact ⟨rfl, regsKept_refl _, rfl⟩
  · refine ⟨evGet_bput_off (h := by decide) .., ?_, rfl⟩
    exact (regsKept_bput (hm := by simp [STATUS_CFG_LOCKED]) ..).mpr (regsKept_refl _)

/-- EVT_STATUS as a W1C write leaves it, before the events that the hardware sets in the same cycle rise. -/
def statusCleared (h : Head) (p : Page) (mask again : Word) : Head :=
  let m := eventBits p mask
  let stay := hget h p EVT_STATUS_EVENTS &&& m &&& eventBits p again
  let h' := hset h p EVT_STATUS_EVENTS ((hget h p EVT_STATUS_EVENTS &&& (hget h p EVT_STATUS_EVENTS ^^^ m)) ||| stay)
  let h' := unlockCfg (m.testBit (configBit p.block) && !(stay.testBit (configBit p.block))) h' p
  redeliver h' p (stay &&& hget h' p EVT_ENABLE_EVENTS)

theorem statusCleared_frame (h : Head) (p : Page) (mask again : Word) :
    evGet (statusCleared h p mask again).regs p =
      ((evGet h.regs p &&& (evGet h.regs p ^^^ eventBits p mask)) ||| (evGet h.regs p &&& eventBits p mask &&& eventBits p again)) % 2 ^ 32 ∧
      RegsKept h.regs (statusCleared h p mask again).regs [(p.block, 0x010), (p.block, 0x00C)] ∧
      SameButRegs h (statusCleared h p mask again) := by
  unfold statusCleared
  dsimp only
  rw [redeliver_eq]
  obtain ⟨hev, hregs, hsame⟩ := unlockCfg_frame ((eventBits p mask).testBit (configBit p.block) &&
    !((hget h p EVT_STATUS_EVENTS &&& eventBits p mask &&& eventBits p again).testBit (configBit p.block)))
    (hset h p EVT_STATUS_EVENTS ((hget h p EVT_STATUS_EVENTS &&& (hget h p EVT_STATUS_EVENTS ^^^ eventBits p mask)) |||
      (hget h p EVT_STATUS_EVENTS &&& eventBits p mask &&& eventBits p again))) p
  refine ⟨hev.trans (evGet_bput_status _ _ _), regsKept_trans ?_ hregs, ?_⟩
  · exact (regsKept_bput (hm := by simp [EVT_STATUS_EVENTS]) ..).mpr (regsKept_refl _)
  · exact sameButRegs_trans (sameButRegs_trans (sameButRegs_hset (sameButRegs_refl h)) hsame) rfl

theorem evtStatusClear_clears (s : State) (ini : Initiator) (p : Page) (mask again : Word) (hr : Runs s.dev)
    (hw : Writable s.dev ini p 0x010) :
    Completes (.evtStatusClear ini p mask again) s (fun h =>
      (∀ n, n < evtCount p.block → (hget h p EVT_STATUS_EVENTS).testBit n =
        (((hget s.dev p EVT_STATUS_EVENTS).testBit n && !(mask.getLsbD n)) || again.getLsbD n)) ∧
      RegsBut s.dev h [(p.block, 0x010), (p.block, 0x00C)] ∧ SameButRegs (reply s.dev false) h) := by
  refine completes_lift (exec_evtStatusClear ini p mask again) hr ?_
  rw [evtStatusClear, withHeader_ok _ _ _ _ _ hw]
  obtain ⟨hev, hregs, hsame⟩ := statusCleared_frame (reply s.dev false) p mask again
  obtain ⟨hset, hregs', hsame'⟩ := foldHead_raises (raisesOwn_raiseAt p)
    ((List.range (evtCount p.block)).filter (fun n => (eventBits p again).testBit n &&
      !((hget (reply s.dev false) p EVT_STATUS_EVENTS &&& eventBits p mask &&& eventBits p again).testBit n)))
    (statusCleared (reply s.dev false) p mask again)
  refine ⟨fun n hn => ?_, ?_, ?_⟩
  · have h32 : n < 32 := hn.trans_le (evtCount_le p.block)
    refine (hset n h32).trans ?_
    rw [contains_filter_range, hev]
    simp only [evGet_of_status, reply_regs, Nat.testBit_mod_two_pow, Nat.testBit_or, Nat.testBit_and, Nat.testBit_xor, testBit_eventBits,
      decide_eq_true hn, decide_eq_true h32, Bool.true_and]
    cases (evGet s.dev.regs p).testBit n <;> cases mask.getLsbD n <;> cases again.getLsbD n <;> rfl
  · exact regsKept_trans hregs (regsKept_mono hregs' (by simp))
  · exact sameButRegs_trans hsame hsame'

theorem evtEnableWrite_takes (s : State) (ini : Initiator) (p : Page) (v : Word) (hr : Runs s.dev) (hw : Writable s.dev ini p 0x014) :
    Completes (.evtEnableWrite ini p v) s (fun h =>
      (∀ n, n < evtCount p.block → (hget h p EVT_ENABLE_EVENTS).testBit n = v.getLsbD n) ∧
      (∀ n, n < evtCount p.block → v.getLsbD n = true → (hget s.dev p EVT_ENABLE_EVENTS).testBit n = false →
        (hget s.dev p EVT_STATUS_EVENTS).testBit n = true → (⟨evtBase p + n, p.wing⟩ : Delivery) ∈ h.evq) ∧
      RegsBut s.dev h [(p.block, 0x014)] ∧ SameButRegs (reply s.dev false) h) := by
  refine completes_lift (exec_evtEnableWrite ini p v) hr ?_
  rw [evtEnableWrite, withHeader_ok _ _ _ _ _ hw, enableEffect, redeliver_eq]
  refine ⟨fun n hn => ?_, fun n hn hv hold hst => ?_, ?_, rfl⟩
  · have h32 : n < 32 := hn.trans_le (evtCount_le p.block)
    have hread : hget (hset (reply s.dev false) p EVT_ENABLE_EVENTS (eventBits p v)) p EVT_ENABLE_EVENTS = eventBits p v % 2 ^ 32 :=
      hget_hset_same _ _ _ _ (by decide) (by decide)
    refine (congrArg (Nat.testBit · n) hread).trans ?_
    simp only [Nat.testBit_mod_two_pow, testBit_eventBits, decide_eq_true hn, decide_eq_true h32, Bool.true_and]
  · have hst' : (hget (reply s.dev false) p EVT_STATUS_EVENTS).testBit n = true := hst
    have hold' : (hget (reply s.dev false) p EVT_ENABLE_EVENTS).testBit n = false := hold
    refine List.mem_append_right _ (mem_deliveries hn ?_)
    simp only [Nat.testBit_and, Nat.testBit_xor, testBit_eventBits, decide_eq_true hn, Bool.true_and, hv, hold', hst']
    rfl
  · rw [regsBut_iff]
    simp (disch := simp (decide := true)) only [hset_regs, regsKept_bput, reply_regs, regsKept_refl]

theorem evtForce_sets (s : State) (ini : Initiator) (p : Page) (mask : Word) (hr : Runs s.dev) (hw : Writable s.dev ini p 0x018) :
    Completes (.evtForce ini p mask) s (fun h =>
      (∀ n, n < evtCount p.block → (hget h p EVT_STATUS_EVENTS).testBit n =
        ((hget s.dev p EVT_STATUS_EVENTS).testBit n || mask.getLsbD n)) ∧
      RegsBut s.dev h [(p.block, 0x010)] ∧ SameButRegs (reply s.dev false) h) := by
  refine completes_lift (exec_evtForce ini p mask) hr ?_
  rw [evtForce, withHeader_ok _ _ _ _ _ hw, forceEffect]
  obtain ⟨hset, hregs, hsame⟩ := foldHead_raises
    (raisesOwn_ite p (isCounted p.block) _ _ (raisesOwn_raiseCounted p) (raisesOwn_raiseAt p))
    ((List.range (evtCount p.block)).filter (fun n => (eventBits p mask).testBit n)) (reply s.dev false)
  refine ⟨fun n hn => ?_, hregs, hsame⟩
  refine (hset n (hn.trans_le (evtCount_le p.block))).trans ?_
  rw [contains_filter_range, testBit_eventBits, decide_eq_true hn, Bool.true_and, Bool.true_and]
  rfl

/-- The head with a software event's bit set and its wing noted (R73). -/
def swSet (h : Head) (w : Wing) (n : Nat) : Head :=
  { fset h .east EVT_SW_STATUS_EVENTS (fget h .east EVT_SW_STATUS_EVENTS ||| 1 <<< n) with
    swWest := if w = .west then h.swWest ||| 1 <<< n else h.swWest &&& (h.swWest ^^^ 1 <<< n) }

theorem swRaiseEffect_new (h : Head) (w : Wing) (v : Word)
    (hst : (fget h .east EVT_SW_STATUS_EVENTS).testBit (v.toNat % 32) = false) :
    (swRaiseEffect h w v).regs = (swSet h w (v.toNat % 32)).regs ∧
      ((fget h .east EVT_SW_ENABLE_EVENTS).testBit (v.toNat % 32) = true →
        (⟨992 + v.toNat % 32, w⟩ : Delivery) ∈ (swRaiseEffect h w v).evq) := by
  have hen : fget (swSet h w (v.toNat % 32)) .east EVT_SW_ENABLE_EVENTS = fget h .east EVT_SW_ENABLE_EVENTS :=
    fget_fset_off _ _ _ EVT_SW_STATUS_EVENTS EVT_SW_ENABLE_EVENTS _ _ _ _ _ (by decide)
  have heff : swRaiseEffect h w v = if (fget h .east EVT_SW_ENABLE_EVENTS).testBit (v.toNat % 32) = true then
      { swSet h w (v.toNat % 32) with evq := h.evq ++ [⟨992 + v.toNat % 32, w⟩] } else swSet h w (v.toNat % 32) := by
    rw [← hen]
    exact if_neg (by rw [hst]; decide)
  rw [heff]
  split
  · exact ⟨rfl, fun _ => by simp⟩
  · rename_i hne
    exact ⟨rfl, fun h => absurd h hne⟩

theorem testBit_swSet (h : Head) (w : Wing) (n : Nat) (hn : n < 32) :
    (fget (swSet h w n) .east EVT_SW_STATUS_EVENTS).testBit n = true := by
  have hread : fget (swSet h w n) .east EVT_SW_STATUS_EVENTS = (fget h .east EVT_SW_STATUS_EVENTS ||| 1 <<< n) % 2 ^ 32 :=
    fget_fset_same _ _ _ _ _ _ (by decide) (by decide)
  rw [hread, Nat.testBit_mod_two_pow, Nat.testBit_or, Nat.one_shiftLeft, Nat.testBit_two_pow, decide_eq_true hn, decide_eq_true rfl,
    Bool.or_true, Bool.true_and]

theorem swRaise_sets (s : State) (ini : Initiator) (w : Wing) (v : Word) (hr : Runs s.dev) (hw : Writable s.dev ini (pg .evt w) 0x04C) :
    Completes (.evtSwRaise ini w v) s (fun h =>
      (fget h .east EVT_SW_STATUS_EVENTS).testBit (v.toNat % 32) = true ∧
      ((fget s.dev .east EVT_SW_STATUS_EVENTS).testBit (v.toNat % 32) = false →
        (fget s.dev .east EVT_SW_ENABLE_EVENTS).testBit (v.toNat % 32) = true → (⟨992 + v.toNat % 32, w⟩ : Delivery) ∈ h.evq) ∧
      RegsBut s.dev h [(.evt, 0x050)]) := by
  refine completes_lift (exec_evtSwRaise ini w v) hr ?_
  rw [swRaise, withWrite_ok _ _ _ _ _ hw]
  have hlt : v.toNat % 32 < 32 := Nat.mod_lt _ (by decide)
  cases hbit : (fget s.dev .east EVT_SW_STATUS_EVENTS).testBit (v.toNat % 32) with
  | true =>
    have heff : swRaiseEffect (reply s.dev false) w v = reply s.dev false := if_pos hbit
    rw [heff]
    exact ⟨hbit, fun hc => absurd hc (by decide), regsBut_refl _ _⟩
  | false =>
    obtain ⟨hregs, hev⟩ := swRaiseEffect_new (reply s.dev false) w v hbit
    refine ⟨?_, fun _ => hev, ?_⟩
    · rw [fget_congr hregs]
      exact testBit_swSet _ w _ hlt
    · rw [regsBut_iff, hregs]
      exact (regsKept_bput (hm := by decide) ..).mpr (regsKept_refl _)

/-- A raise waits for delivery where its bit rises and is enabled (R70). -/
theorem raiseAt_delivers (h : Head) (p : Page) (n : Nat) (hn : n < 32) :
    ((hget h p EVT_STATUS_EVENTS).testBit n = false → (hget h p EVT_ENABLE_EVENTS).testBit n = true →
      (raiseAt h p n).evq = h.evq ++ [⟨evtBase p + n, p.wing⟩]) ∧
    ((hget h p EVT_ENABLE_EVENTS).testBit n = false → (raiseAt h p n).evq = h.evq) ∧
    ((hget h p EVT_STATUS_EVENTS).testBit n = true → raiseAt h p n = h) ∧
    (hget (raiseAt h p n) p EVT_STATUS_EVENTS).testBit n = true ∧
    (∀ m, m ≠ n → (hget (raiseAt h p n) p EVT_STATUS_EVENTS).testBit m = (hget h p EVT_STATUS_EVENTS).testBit m) := by
  have henable (v : Nat) : hget (hset h p EVT_STATUS_EVENTS v) p EVT_ENABLE_EVENTS = hget h p EVT_ENABLE_EVENTS :=
    hget_hset_off _ _ _ _ _ _ (by decide)
  refine ⟨fun hst hen => ?_, fun hen => ?_, fun hst => if_pos hst, raiseAt_sets h p n hn, fun m hmn => ?_⟩
  · unfold raiseAt
    simp only [hst, henable, hen]
    rfl
  · unfold raiseAt
    simp only [henable, hen]
    split <;> rfl
  · rw [evGet_of_status, evGet_of_status]
    by_cases hm : m < 32
    · rw [raiseAt_regs, testBit_evGet_evPut _ p n m hm, decide_eq_false hmn, Bool.or_false]
    · have hzero (t : Tab Word) : (evGet t p).testBit m = false :=
        Nat.testBit_lt_two_pow ((bget_lt ..).trans_le (Nat.pow_le_pow_right (by decide) (by omega : 32 ≤ m)))
      rw [hzero, hzero]

/-- Settles O13: the W1C write, the enable, the force and the software event each through the bits they leave, and a raise of itself. -/
theorem eventsRiseAndAreDelivered : Obligations.EventsRiseAndAreDelivered :=
  ⟨evtStatusClear_clears, evtEnableWrite_takes, evtForce_sets, swRaise_sets, raiseAt_delivers⟩

end Sys2Proof.Laws
end

section
/-! The route table, the wait groups and the hardware responders (R72 to R76, R80, R102, R147, R222), and O14. -/

namespace Sys2Proof.Laws

open Machine Machine.Reg

/-! ### A page by its parts -/

section Parts

variable {t u : Tab Word} {l : List (Block × Nat)} {blk : Block} {w : Wing} {inst : Nat}

@[simp] theorem regsKept_evPut_at (n : Nat) (hm : (blk, 0x010) ∈ l) : RegsKept t (evPut u ⟨blk, w, inst⟩ n) l ↔ RegsKept t u l :=
  regsKept_evPut _ _ hm

@[simp] theorem regsKept_errPut_at (e : ErrRec) (h0 : (blk, 0x020) ∈ l) (h1 : (blk, 0x024) ∈ l) (h2 : (blk, 0x028) ∈ l) :
    RegsKept t (errPut u ⟨blk, w, inst⟩ e) l ↔ RegsKept t u l := regsKept_errPut _ _ h0 h1 h2

@[simp] theorem regsKept_configPut_at (e : ErrRec) (h : (blk, 0x010) ∈ l) (h0 : (blk, 0x020) ∈ l) (h1 : (blk, 0x024) ∈ l)
    (h2 : (blk, 0x028) ∈ l) : RegsKept t (configPut u ⟨blk, w, inst⟩ e) l ↔ RegsKept t u l := regsKept_configPut _ _ h h0 h1 h2

@[simp] theorem bget_evPut_block_at (blk' : Block) (w' : Wing) (inst' off hi lo bank n : Nat) (h : blk' ≠ blk) :
    bget (evPut t ⟨blk, w, inst⟩ n) blk' w' inst' off hi lo bank = bget t blk' w' inst' off hi lo bank :=
  bget_evPut_block _ _ _ _ _ _ _ _ _ _ h

@[simp] theorem bget_errPut_block_at (blk' : Block) (w' : Wing) (inst' off hi lo bank : Nat) (e : ErrRec) (h : blk' ≠ blk) :
    bget (errPut t ⟨blk, w, inst⟩ e) blk' w' inst' off hi lo bank = bget t blk' w' inst' off hi lo bank :=
  bget_errPut_block _ _ _ _ _ _ _ _ _ _ h

end Parts

/-! ### One operation after another -/

/-- What each of some operations leaves alone, all of them leave alone. -/
theorem foldHead_frame {α β : Type} (P : Head → β) {f : Head → α → Head} (hf : ∀ h a, P (f h a) = P h) (l : List α) (h : Head) :
    P (foldHead h l f) = P h := by
  unfold foldHead
  induction l generalizing h with
  | nil => rfl
  | cons a l ih => rw [List.foldl_cons, ih, hf]

/-- What each of some operations keeps, all of them keep. -/
theorem foldHead_keeps {α : Type} (P : Head → Prop) {f : Head → α → Head} (hf : ∀ h a, P h → P (f h a)) (l : List α) (h : Head)
    (hP : P h) : P (foldHead h l f) := by
  unfold foldHead
  induction l generalizing h with
  | nil => exact hP
  | cons a l ih => exact ih _ (hf h a hP)

theorem foldHead_wings (h : Head) (f : Head → Wing → Head) : foldHead h wings f = f (f h .east) .west := rfl

/-- An event raised on some wings is set on each of them. -/
theorem foldHead_raise_sets (e : EvRef) (hn : e.n < 32) (l : List Wing) (w : Wing) (h : Head)
    (hw : w ∈ l ∨ EventSet h w e) : EventSet (foldHead h l (fun h w => raise h w e)) w e := by
  unfold foldHead
  induction l generalizing h with
  | nil => exact hw.resolve_left (by simp)
  | cons x l ih =>
    refine ih _ ?_
    obtain hw | hset := hw
    · obtain rfl | hw := List.mem_cons.mp hw
      · exact .inr (raiseAt_sets _ _ _ hn)
      · exact .inl hw
    · refine .inr ?_
      rw [eventSet_iff, raise_regs]
      exact evSet_evPut (hm := hn) (h := hset) ..

/-! ### The route table -/

/-- The word that a route entry takes (R72): its named bits, with LOCKED as its number has it. -/
def routeWord (v : Word) (locked : Bool) : Word :=
  putBits (v &&& (maskOf 31 31 ||| maskOf 29 24 ||| maskOf 22 16 ||| maskOf 10 0)) 30 30 (ofBool locked)

theorem bitsOf_routeWord (v : Word) (locked : Bool) (hi lo : Nat) (h : lo ≤ hi) (h32 : hi < 32)
    (hm : hi < 30 ∨ 30 < lo) (hin : ∀ i, lo ≤ i → i ≤ hi → i = 31 ∨ (24 ≤ i ∧ i ≤ 29) ∨ (16 ≤ i ∧ i ≤ 22) ∨ i ≤ 10) :
    bitsOf (routeWord v locked) hi lo = bitsOf v hi lo := by
  unfold routeWord
  rw [bitsOf_putBits_other _ _ _ _ _ _ (by decide) h32 h hm]
  refine bitsOf_congr h h32 fun i hi32 hlo hhi => ?_
  simp only [BitVec.getLsbD_and, BitVec.getLsbD_or, getLsbD_maskOf _ _ _ (by decide : 31 ≤ 31) hi32,
    getLsbD_maskOf _ _ _ (by decide : 24 ≤ 29) hi32, getLsbD_maskOf _ _ _ (by decide : 16 ≤ 22) hi32,
    getLsbD_maskOf _ _ _ (by decide : 0 ≤ 10) hi32]
  have := hin i hlo hhi
  cases v.getLsbD i
  · rfl
  · simp only [Bool.true_and, Bool.or_eq_true, decide_eq_true_eq]
    omega

/-- The head with a route entry stored, and the index past it where it advances by itself (R72). -/
def routeStored (h : Head) (w : Wing) (v : Word) : Head :=
  let h' := wr h (pg .evt w) 0x048 (fget h w EVT_ROUTE_INDEX_INDEX) (routeWord v false)
  if fbit h' w EVT_ROUTE_INDEX_AUTOINC then fset h' w EVT_ROUTE_INDEX_INDEX (fget h w EVT_ROUTE_INDEX_INDEX + 1) else h'

/-- The head after a route entry is written that nothing forbids. -/
theorem routeEffect_stores (h : Head) (ini : Initiator) (w : Wing) (v : Word) (hl : routeLocked (fget h w EVT_ROUTE_INDEX_INDEX) = false)
    (hk : bitsOf v 29 28 = 1) (hr : bitsOf v 27 24 ≤ 6) (hid : bitsOf v 10 0 ≠ 0) :
    routeEffect h ini w v = routeStored h w v := by
  have hid' : bitsOf (routeWord v false) 10 0 ≠ 0 := by
    rwa [bitsOf_routeWord _ _ _ _ (by decide) (by decide) (by decide) (by omega)]
  have hnr : ¬ 6 < bitsOf v 27 24 := by omega
  have hword : putBits (v &&& (maskOf 31 31 ||| maskOf 29 24 ||| maskOf 22 16 ||| maskOf 10 0)) 30 30 (ofBool false) =
    routeWord v false := rfl
  unfold routeEffect routeStored
  dsimp only
  simp only [hl, hk, hword, if_neg hnr, hid', show ¬ 2 ≤ 1 by decide, decide_false, Bool.false_and, Bool.or_self, Bool.and_false,
    Bool.false_eq_true, if_false, and_false]

theorem routeStored_reads (h : Head) (w : Wing) (v : Word) (f : Fld) (hf : f.block = .evt ∧ f.off = 0x048) (hl : f.lo ≤ f.hi) (h32 : f.hi < 32)
    (hm : f.hi < 30 ∨ 30 < f.lo)
    (hin : ∀ i, f.lo ≤ i → i ≤ f.hi → i = 31 ∨ (24 ≤ i ∧ i ≤ 29) ∨ (16 ≤ i ∧ i ≤ 22) ∨ i ≤ 10) :
    fget (routeStored h w v) .east f (fget h w EVT_ROUTE_INDEX_INDEX) = bitsOf v f.hi f.lo := by
  have hwest : wput h.regs .evt w 0 0x048 (fget h w EVT_ROUTE_INDEX_INDEX) (routeWord v false) =
      wput h.regs .evt .east 0 0x048 (fget h w EVT_ROUTE_INDEX_INDEX) (routeWord v false) := by
    cases w <;> rfl
  obtain ⟨blk, off, hi, lo⟩ := f
  obtain ⟨rfl, rfl⟩ := hf
  rw [← bitsOf_routeWord v false _ _ hl h32 hm hin, fget_eq_bget]
  unfold routeStored
  dsimp only
  split
  · rw [fset_regs, bget_bput_off (h := by decide), wr_regs, show (pg .evt w).block = .evt from rfl, show (pg .evt w).wing = w from rfl,
      show (pg .evt w).inst = 0 from rfl, hwest, bget_wput_same]
  · rw [wr_regs, show (pg .evt w).block = .evt from rfl, show (pg .evt w).wing = w from rfl,
      show (pg .evt w).inst = 0 from rfl, hwest, bget_wput_same]

theorem routeStored_frame (h : Head) (w : Wing) (v : Word) : RegsBut h (routeStored h w v) [(.evt, 0x044), (.evt, 0x048)] := by
  unfold routeStored
  dsimp only
  rw [regsBut_iff]
  split
  · simp (disch := decide) only [fset_regs, regsKept_bput, wr_regs, pg, regsKept_wput, regsKept_refl]
  · simp (disch := decide) only [wr_regs, pg, regsKept_wput, regsKept_refl]

theorem routeDataWrite_stores (s : State) (ini : Initiator) (w : Wing) (v : Word) (hrun : Runs s.dev)
    (hw : Writable s.dev ini (pg .evt w) 0x048) (hl : routeLocked (fget s.dev w EVT_ROUTE_INDEX_INDEX) = false)
    (hk : bitsOf v 29 28 = 1) (hr : bitsOf v 27 24 ≤ 6) (hid : bitsOf v 10 0 ≠ 0) :
    Completes (.routeDataWrite ini w v) s (fun h =>
      let ev := fget s.dev w EVT_ROUTE_INDEX_INDEX
      fget h .east EVT_ROUTE_DATA_KIND ev = 1 ∧ fget h .east EVT_ROUTE_DATA_HART ev = bitsOf v 21 16 ∧
        fget h .east EVT_ROUTE_DATA_IDENTITY ev = bitsOf v 10 0 ∧ fget h .east EVT_ROUTE_DATA_MLEVEL ev = bitsOf v 22 22 ∧
        fget h .east EVT_ROUTE_DATA_DOC_COPY ev = bitsOf v 31 31 ∧ RegsBut s.dev h [(.evt, 0x044), (.evt, 0x048)]) := by
  refine completes_lift (exec_routeDataWrite ini w v) hrun ?_
  have hread (f : Fld) (hf : f.block = .evt ∧ f.off = 0x048) := routeStored_reads (reply s.dev false) w v f hf
  rw [routeWrite, withWrite_ok _ _ _ _ _ hw, routeEffect_stores (reply s.dev false) ini w v hl hk hr hid]
  exact ⟨(hread _ ⟨rfl, rfl⟩ (by decide) (by decide) (by decide) (fun i h1 h2 => by simp [EVT_ROUTE_DATA_KIND] at h1 h2; omega)).trans hk,
    hread _ ⟨rfl, rfl⟩ (by decide) (by decide) (by decide) (fun i h1 h2 => by simp [EVT_ROUTE_DATA_HART] at h1 h2; omega),
    hread _ ⟨rfl, rfl⟩ (by decide) (by decide) (by decide) (fun i h1 h2 => by simp [EVT_ROUTE_DATA_IDENTITY] at h1 h2; omega),
    hread _ ⟨rfl, rfl⟩ (by decide) (by decide) (by decide) (fun i h1 h2 => by simp [EVT_ROUTE_DATA_MLEVEL] at h1 h2; omega),
    hread _ ⟨rfl, rfl⟩ (by decide) (by decide) (by decide) (fun i h1 h2 => by simp [EVT_ROUTE_DATA_DOC_COPY] at h1 h2; omega),
    routeStored_frame (reply s.dev false) w v⟩

theorem routeDataWrite_locked (s : State) (ini : Initiator) (w : Wing) (v : Word) (hrun : Runs s.dev)
    (hw : Writable s.dev ini (pg .evt w) 0x048) (hini : ini ≠ .docent)
    (hl : routeLocked (fget s.dev w EVT_ROUTE_INDEX_INDEX) = true) :
    Completes (.routeDataWrite ini w v) s (fun h => ∀ ev, rd h (pg .evt .east) 0x048 ev = rd s.dev (pg .evt .east) 0x048 ev) := by
  refine completes_lift (exec_routeDataWrite ini w v) hrun ?_
  have hl' : routeLocked (fget (reply s.dev false) w EVT_ROUTE_INDEX_INDEX) = true := hl
  have hkept : RegsBut s.dev (routeEffect (reply s.dev false) ini w v) [(.evt, 0x044), (.evt, 0x020), (.evt, 0x024), (.evt, 0x028)] := by
    unfold routeEffect
    simp (disch := decide) only [hl', hini, ne_eq, not_false_eq_true, decide_true, Bool.true_or, Bool.and_self, if_true, regsBut_iff,
      regs_ite, regsKept_ite, fset_regs, regsKept_bput, capture_regs, pg, regsKept_errPut_at, reply_regs, regsKept_refl, ite_self]
  rw [routeWrite, withWrite_ok _ _ _ _ _ hw]
  exact fun ev => hkept (pg .evt .east) 0x048 ev (by decide) (by decide)

theorem routeError_zeroes (s : State) (w : Wing) (ev : Nat) (hrun : Runs s.dev) (hev : ev < 1024) :
    Completes (.routeError w ev) s (fun h =>
      rd h (pg .evt .east) 0x048 ev = 0 ∧ EventSet h w Ev.EVT_ROUTE_ERROR ∧ RegsBut s.dev h [(.evt, 0x010), (.evt, 0x048)] ∧
        (∀ e, e % 65536 ≠ ev → rd h (pg .evt .east) 0x048 e = rd s.dev (pg .evt .east) 0x048 e) ∧ SameButRegs s.dev h) := by
  refine completes_lift (exec_routeError w ev) hrun ?_
  have hwest : wr s.dev (pg .evt w) 0x048 ev 0 = wr s.dev (pg .evt .east) 0x048 ev 0 := by cases w <;> rfl
  rw [routeError, Nat.mod_eq_of_lt hev, if_pos hev, hwest]
  refine ⟨?_, raiseAt_sets _ _ _ (by decide), ?_, fun e he => ?_, sameButRegs_raise rfl⟩
  · exact (rd_raiseAt_off _ _ _ _ _ _ (by decide)).trans (rd_wr_same _ _ _ _ _)
  · rw [regsBut_iff]
    simp (disch := decide) only [raise_regs, regsKept_evPut_at, wr_regs, pg, regsKept_wput, regsKept_refl, Ev.EVT_ROUTE_ERROR]
  · exact (rd_raiseAt_off _ _ _ _ _ _ (by decide)).trans (rd_wr_bank _ _ _ _ _ _ _ _ (by omega))

/-! ### Wait groups -/

/-- The head as a group is marked stalled, before its members' wings are told (R75, R76). -/
def groupStalled (h : Head) (g : Nat) : Head :=
  let h := fset h .east EVT_WG_STATE_STALLED 1 g
  let h := if g < 32 then fset h .east EVT_WG_STALLED_LO_GROUPS (fget h .east EVT_WG_STALLED_LO_GROUPS ||| 1 <<< g)
    else fset h .east EVT_WG_STALLED_HI_GROUPS (fget h .east EVT_WG_STALLED_HI_GROUPS ||| 1 <<< (g - 32))
  send h (.docentStall g)

theorem groupStalled_frame (h : Head) (g : Nat) (f : Fld) (hf : f.off % 4096 ≠ EVT_WG_STALLED_LO_GROUPS.off)
    (hf' : f.off % 4096 ≠ EVT_WG_STALLED_HI_GROUPS.off) :
    fget (groupStalled h g) .east f g = fget (fset h .east EVT_WG_STATE_STALLED 1 g) .east f g := by
  unfold groupStalled
  dsimp only
  rw [fget_eq_bget, fget_eq_bget, send_regs]
  split
  · exact bget_bput_off (h := hf) ..
  · exact bget_bput_off (h := hf') ..

theorem out_groupStalled (h : Head) (g : Nat) : (groupStalled h g).out = h.out ++ [.docentStall g] := by
  unfold groupStalled
  dsimp only
  split <;> rfl

theorem wgStall_stalls (s : State) (g : Nat) (hrun : Runs s.dev) (hg : g < 64) (hne : groupMembers s.dev g ≠ [])
    (hall : (groupMembers s.dev g).all (memberWaits s.dev) = true) (hquiet : groupQuiet s.dev g = true)
    (hst : fbit s.dev .east EVT_WG_STATE_STALLED g = false) (hres : fbit s.dev .east EVT_WG_RESCUE_VALID g = false) :
    Completes (.wgStall g) s (fun h =>
      fget h .east EVT_WG_STATE_STALLED g = 1 ∧ h.out = s.dev.out ++ [.docentStall g] ∧
        (∀ n ∈ groupMembers s.dev g, EventSet h (hartWing n) Ev.EVT_WG_STALL)) := by
  refine completes_lift (exec_wgStall g) hrun ?_
  have hguard : ¬ (64 ≤ g ∨ groupMembers s.dev g = [] ∨ (!(groupMembers s.dev g).all (memberWaits s.dev)) = true ∨
      (!groupQuiet s.dev g) = true ∨ fbit s.dev .east EVT_WG_STATE_STALLED g = true) := by
    simp only [hall, hquiet, hst, hne, Nat.not_le.mpr hg, Bool.not_true, Bool.false_eq_true, or_self, not_false_eq_true]
  have hnone : fbit (groupStalled s.dev g) .east EVT_WG_RESCUE_VALID g = false := by
    unfold fbit at hres ⊢
    rw [groupStalled_frame _ _ _ (by decide) (by decide), fget_fset_off _ _ _ _ _ _ _ _ _ _ (by decide)]
    exact hres
  have heff : wgStall s.dev g = foldHead (groupStalled s.dev g) (((groupMembers s.dev g).map hartWing).eraseDups)
      (fun h w => raise h w Ev.EVT_WG_STALL) := by
    unfold wgStall
    rw [if_neg hguard]
    exact congrArg (foldHead · _ _) (if_neg (by rw [Bool.not_eq_true]; exact hnone))
  rw [heff]
  refine ⟨?_, ?_, fun n hn => foldHead_raise_sets _ (by decide) _ _ _ (.inl ?_)⟩
  · rw [foldHead_frame (fun h => fget h .east EVT_WG_STATE_STALLED g) (fun h w => by
      simp (disch := decide) only [fget_eq_bget, raise_regs, bget_evPut_off]),
      groupStalled_frame _ _ _ (by decide) (by decide), fget_fset_same _ _ _ _ _ _ (by decide) (by decide)]
    rfl
  · rw [foldHead_frame Head.out (fun h w => raise_out h w _ _), out_groupStalled]
  · rw [List.mem_eraseDups]
    exact List.mem_map_of_mem hn

/-- A group's timer restarted reads 0 and no stall (R75). -/
theorem quietMicros_groupTimer (h : Head) (g : Nat) : quietMicros (groupTimer h g) g = 0 ∧ fget (groupTimer h g) .east EVT_WG_STATE_STALLED g = 0 := by
  refine ⟨?_, fget_fset_same _ _ _ _ _ _ (by decide) (by decide)⟩
  have htime : frmTime (groupTimer h g) = frmTime h := by
    unfold frmTime pget groupTimer
    rw [fget_fset_block _ _ _ _ FRM_TIME_LO_TIME _ _ _ _ _ (by decide), fget_fset_block _ _ _ _ FRM_TIME_HI_TIME _ _ _ _ _ (by decide)]
    rfl
  have hstart : tabGet (groupTimer h g).groupTimes 0 g = frmTime h := tabGet_tabStore_same _ _ _ _
  unfold quietMicros
  rw [htime, hstart, Nat.sub_self]
  rfl

theorem wgWake_restarts (s : State) (w : Wing) (v : Word) (hrun : Runs s.dev) (hw : Writable s.dev .docent (pg .evt w) 0x070) :
    Completes (.wgWake .docent w v) s (fun h =>
      quietMicros h (v.toNat % 64) = 0 ∧ fget h .east EVT_WG_STATE_STALLED (v.toNat % 64) = 0) := by
  refine completes_lift (exec_wgWake .docent w v) hrun ?_
  rw [wgWake, withWrite_ok _ _ _ _ _ hw]
  exact quietMicros_groupTimer _ _

/-- The members that a WG_MEMBERS write names (R75). -/
def namedMembers (lo hi : Word) : Nat := lo.toNat + (hi.toNat % 2 ^ 20) <<< 32

/-- The head after a group's members are set, none of which clashes. -/
def membersSet (h : Head) (g m : Nat) : Head :=
  let h := fset (fset h .east EVT_WG_MEMBERS_LO_HARTS m g) .east EVT_WG_MEMBERS_HI_HARTS (m >>> 32) g
  groupTimer (if m = 0 then fset h .east EVT_WG_STATE_WAITING 0 g else h) g

theorem membersEffect_sets (h : Head) (src : Nat) (w : Wing) (lo hi : Word)
    (hfree : ∀ n, n < 52 → (namedMembers lo hi).testBit n = true →
      (∀ k ∈ liveGroups h, k ≠ fget h w EVT_WG_INDEX_GROUP → inGroup h k n = false) ∧
      ¬ (fbit h .east EVT_WG_RESCUE_VALID (fget h w EVT_WG_INDEX_GROUP) = true ∧
        fget h .east EVT_WG_RESCUE_HART (fget h w EVT_WG_INDEX_GROUP) = n)) :
    membersEffect h src w lo hi = membersSet h (fget h w EVT_WG_INDEX_GROUP) (namedMembers lo hi) := by
  have hclash : (List.range 52).any (fun n => (namedMembers lo hi).testBit n &&
      ((liveGroups h).any (fun k => decide (k ≠ fget h w EVT_WG_INDEX_GROUP) && inGroup h k n) ||
        (fbit h .east EVT_WG_RESCUE_VALID (fget h w EVT_WG_INDEX_GROUP) &&
          fget h .east EVT_WG_RESCUE_HART (fget h w EVT_WG_INDEX_GROUP) == n))) = false := by
    rw [List.any_eq_false]
    intro n hn hbad
    simp only [Bool.and_eq_true, Bool.or_eq_true, List.any_eq_true, decide_eq_true_eq, beq_iff_eq] at hbad
    obtain ⟨hgroups, hrescue⟩ := hfree n (List.mem_range.mp hn) hbad.1
    obtain ⟨k, hk, hkg, hin⟩ | hr := hbad.2
    · rw [hgroups k hk hkg] at hin
      cases hin
    · exact hrescue hr
  unfold membersEffect
  unfold namedMembers at hclash
  dsimp only
  simp only [hclash]
  rfl

theorem namedMembers_lo (lo hi : Word) : namedMembers lo hi % 2 ^ 32 = lo.toNat := by
  have := lo.isLt
  unfold namedMembers
  rw [Nat.shiftLeft_eq]
  omega

theorem namedMembers_hi (lo hi : Word) : namedMembers lo hi >>> 32 = hi.toNat % 2 ^ 20 := by
  have := lo.isLt
  unfold namedMembers
  rw [Nat.shiftLeft_eq, Nat.shiftRight_eq_div_pow]
  omega

theorem fget_groupTimer (h : Head) (g : Nat) (f : Fld) (hf : f.off % 4096 ≠ EVT_WG_STATE_STALLED.off) :
    fget (groupTimer h g) .east f g = fget h .east f g := bget_bput_off (h := hf) ..

theorem membersSet_reads (h : Head) (g m : Nat) :
    fget (membersSet h g m) .east EVT_WG_MEMBERS_LO_HARTS g = m % 2 ^ 32 ∧
      fget (membersSet h g m) .east EVT_WG_MEMBERS_HI_HARTS g = (m >>> 32) % 2 ^ 20 ∧
      RegsBut h (membersSet h g m) [(.evt, 0x05C), (.evt, 0x060), (.evt, 0x06C)] := by
  unfold membersSet
  refine ⟨?_, ?_, ?_⟩
  · rw [fget_groupTimer _ _ _ (by decide), fget_eq_bget]
    simp (disch := decide) only [regs_ite, bget_ite, fset_regs, bget_bput_off, bget_bput_same, ite_self]
    rfl
  · rw [fget_groupTimer _ _ _ (by decide), fget_eq_bget]
    simp (disch := decide) only [regs_ite, bget_ite, fset_regs, bget_bput_off, bget_bput_same, ite_self]
    rfl
  · unfold groupTimer
    rw [regsBut_iff]
    simp (disch := decide) only [regs_ite, regsKept_ite, fset_regs, regsKept_bput, regsKept_refl, ite_self]

/-- What a group's members set leaves, on a head with the registers of another. -/
theorem membersEffect_reads (g h : Head) (src : Nat) (w : Wing) (lo hi : Word) (hregs : h.regs = g.regs)
    (hfree : ∀ n, n < 52 → (namedMembers lo hi).testBit n = true →
      (∀ k ∈ liveGroups h, k ≠ fget h w EVT_WG_INDEX_GROUP → inGroup h k n = false) ∧
      ¬ (fbit h .east EVT_WG_RESCUE_VALID (fget h w EVT_WG_INDEX_GROUP) = true ∧
        fget h .east EVT_WG_RESCUE_HART (fget h w EVT_WG_INDEX_GROUP) = n)) :
    let i := fget g w EVT_WG_INDEX_GROUP
    let h' := membersEffect h src w lo hi
    fget h' .east EVT_WG_MEMBERS_LO_HARTS i = lo.toNat ∧ fget h' .east EVT_WG_MEMBERS_HI_HARTS i = hi.toNat % 2 ^ 20 ∧
      quietMicros h' i = 0 ∧ fget h' .east EVT_WG_STATE_STALLED i = 0 ∧ RegsBut g h' [(.evt, 0x05C), (.evt, 0x060), (.evt, 0x06C)] := by
  have hi' : fget g w EVT_WG_INDEX_GROUP = fget h w EVT_WG_INDEX_GROUP := by rw [fget_eq_bget, fget_eq_bget, hregs]
  dsimp only
  rw [membersEffect_sets h src w lo hi hfree, hi', regsBut_iff, ← hregs]
  obtain ⟨hlo, hhi, hkept⟩ := membersSet_reads h (fget h w EVT_WG_INDEX_GROUP) (namedMembers lo hi)
  refine ⟨hlo.trans (namedMembers_lo lo hi), hhi.trans ?_, (quietMicros_groupTimer _ _).1, (quietMicros_groupTimer _ _).2, hkept⟩
  rw [namedMembers_hi, Nat.mod_mod]

theorem wgMembersWrite_sets (s : State) (ini : Initiator) (w : Wing) (lo hi : Word) (hrun : Runs s.dev)
    (hw : Writable s.dev ini (pg .evt w) 0x05C)
    (hfree : ∀ n, n < 52 → (namedMembers lo hi).testBit n = true →
      (∀ k ∈ liveGroups s.dev, k ≠ fget s.dev w EVT_WG_INDEX_GROUP → inGroup s.dev k n = false) ∧
      ¬ (fbit s.dev .east EVT_WG_RESCUE_VALID (fget s.dev w EVT_WG_INDEX_GROUP) = true ∧
        fget s.dev .east EVT_WG_RESCUE_HART (fget s.dev w EVT_WG_INDEX_GROUP) = n)) :
    Completes (.wgMembersWrite ini w lo hi) s (fun h =>
      let g := fget s.dev w EVT_WG_INDEX_GROUP
      fget h .east EVT_WG_MEMBERS_LO_HARTS g = lo.toNat ∧ fget h .east EVT_WG_MEMBERS_HI_HARTS g = hi.toNat % 2 ^ 20 ∧
        quietMicros h g = 0 ∧ fget h .east EVT_WG_STATE_STALLED g = 0 ∧
        RegsBut s.dev h [(.evt, 0x05C), (.evt, 0x060), (.evt, 0x06C)]) := by
  refine completes_lift (exec_wgMembersWrite ini w lo hi) hrun ?_
  rw [wgMembers, withWrite_ok _ _ _ _ _ hw]
  exact membersEffect_reads s.dev { reply s.dev false with hiHold := tabDel s.dev.hiHold (regKey (pg .evt w) 0x060 0) } _ w lo hi rfl hfree

/-! ### Responders -/

/-- Events set stay as another is raised. -/
theorem eventSet_raise {h : Head} {w : Wing} {e : EvRef} {inst : Nat} (he : EventSet h w e inst) (hn : e.n < 32) (w' : Wing) (e' : EvRef)
    (inst' : Nat) : EventSet (raise h w' e' inst') w e inst := by
  rw [eventSet_iff, raise_regs]
  exact evSet_evPut (hm := hn) (h := he) ..

/-- The wing's fetch paused, with its event. -/
def pauseSet (h : Head) (w : Wing) : Head := raise (fset h w FOQ_FETCH_PAUSED 1) w Ev.FOQ_PAUSED

theorem pauseSet_pauses (h : Head) (w : Wing) : fget (pauseSet h w) w FOQ_FETCH_PAUSED = 1 ∧ EventSet (pauseSet h w) w Ev.FOQ_PAUSED ∧
    RegsBut h (pauseSet h w) [(.foq, 0x010), (.foq, 0x044), (.mft, 0x010)] := by
  unfold pauseSet
  refine ⟨?_, raiseAt_sets _ _ _ (by decide), ?_⟩
  · rw [fget_eq_bget, raise_regs, bget_evPut_off (h := by decide)]
    exact fget_fset_same _ _ _ _ _ _ (by decide) (by decide)
  · rw [regsBut_iff]
    simp (disch := decide) only [raise_regs, regsKept_evPut_at, fset_regs, regsKept_bput, regsKept_refl]

theorem foyerPause_eq (h : Head) (w : Wing) : foyerPause h w =
    if fetchHeld h w then pauseSet (markStalled h w) w else raise (pauseSet (markStalled h w) w) w Ev.MFT_WINDOW_CLOSED := by
  unfold foyerPause
  cases fetchHeld h w <;> rfl

theorem foyerPause_pauses (s : State) (w : Wing) (hrun : Runs s.dev) :
    Completes (.foyerPause w) s (fun h =>
      fget h w FOQ_FETCH_PAUSED = 1 ∧ EventSet h w Ev.FOQ_PAUSED ∧ (fetchHeld s.dev w = false → EventSet h w Ev.MFT_WINDOW_CLOSED) ∧
        RegsBut s.dev h [(.foq, 0x010), (.foq, 0x044), (.mft, 0x010)]) := by
  refine completes_lift (exec_foyerPause w) hrun ?_
  obtain ⟨hpaused, hevent, hkept⟩ := pauseSet_pauses (markStalled s.dev w) w
  rw [foyerPause_eq]
  cases hheld : fetchHeld s.dev w with
  | true => exact ⟨hpaused, hevent, fun h => absurd h (by decide), hkept⟩
  | false =>
    refine ⟨?_, eventSet_raise hevent (by decide) _ _ _, fun _ => raiseAt_sets _ _ _ (by decide), ?_⟩
    · rw [← hpaused, if_neg (by decide), fget_eq_bget, raise_regs, bget_evPut_off (h := by decide)]
      rfl
    · rw [regsBut_iff, if_neg (by decide), raise_regs, regsKept_evPut_at _ (by decide)]
      exact hkept

theorem accessionHold_holds (s : State) (w : Wing) (hrun : Runs s.dev) :
    Completes (.accessionHold w) s (fun h =>
      (if w = .east then h.cat.holdE else h.cat.holdW) = true ∧ h = { s.dev with cat := h.cat } ∧
        h.cat = (if w = .east then { s.dev.cat with holdE := true } else { s.dev.cat with holdW := true })) :=
  completes_lift (exec_accessionHold w) hrun ⟨by cases w <;> rfl, rfl, rfl⟩

theorem quotaShrink_starts (s : State) (w : Wing) (hrun : Runs s.dev) (hs : shrinking s.dev = false) :
    Completes (.quotaShrink w) s (fun h =>
      shrinking h = true ∧ h.vit.shrinkAt = fget s.dev .east VIT_QUOTA_NOW_QUOTA_MIB ∧ EventSet h w Ev.VIT_SHRINK_START) := by
  refine completes_lift (exec_quotaShrink w) hrun ?_
  rw [shrinkStart, if_neg (by rw [hs]; decide)]
  refine ⟨?_, ?_, raiseAt_sets _ _ _ (by decide)⟩
  · have hwest : ownReg VIT_CTRL_SHRINKING.block VIT_CTRL_SHRINKING.off = true := by decide
    unfold shrinking fbit
    simp (disch := decide) only [fget_eq_bget, raise_regs, bget_evPut_off, setShrinking, fset_regs, bget_bput_wing, bget_bput_same]
    rfl
  · rw [raise_vit]
    refine (fget_fset_off _ _ _ _ _ _ _ _ _ _ (by decide)).trans (fget_fset_off _ _ _ _ _ _ _ _ _ _ (by decide))

/-- The erasure of the keys before the wings' registers say so: every copy of a key gone, what used them ended (R222). -/
def keysGone (h : Head) : Head :=
  let h := { h with keys := [] }
  let h := foldHead h (List.range 8256) (fun h id => if keyState h id = 0 then h else fset h .east KEY_SLOT_ATTR_STATE 0 id)
  let h := fset h .east KEY_STATUS_ACTIVE 0
  let closedTags (o : EngOp) : Bool := !h.eng.cases.any (fun c => !c.closed && c.wing == o.wing && c.items.any (fun a => a.tag == some o.tag))
  let h := abortOps h (fun o => o.cls == .dge || o.cls == .cph || (o.cls == .cdc && (if o.ready then o.place != [] else closedTags o))) 16
  let h := setCases h (h.eng.cases.filter (fun c => !c.closed || c.items.any (fun a => a.tag.isNone)))
  { h with eng := { h.eng with
    chains := (h.eng.chains.filter (fun c => c.key.isNone)).map (fun c => { c with broken := true })
    fpStates := []
    tileKeys := [] } }

/-- The registers of a wing at the end of an erasure (R222). -/
def erasureCounted (h : Head) (w : Wing) : Head := fadd (fset (fset h w DGE_FP_STATES_HELD 0) w CPH_ERASE_ERASED 1) w CPH_ERASE_COUNT

theorem keyErase_eq (h : Head) :
    keyErase h = raise (raiseBoth (erasureCounted (erasureCounted (keysGone h) .east) .west) Ev.CPH_KEYS_ERASED) .east Ev.KEY_ERASED := rfl

theorem erasureCounted_erased (h : Head) (w : Wing) : fget (erasureCounted h w) w CPH_ERASE_ERASED = 1 := by
  unfold erasureCounted
  simp (disch := decide) only [fget_eq_bget, fadd_regs, fset_regs, bget_bput_bits, bget_bput_same]
  rfl

theorem erasureCounted_other (h : Head) {w w' : Wing} (hw : w' ≠ w) :
    fget (erasureCounted h w) w' CPH_ERASE_ERASED = fget h w' CPH_ERASE_ERASED := by
  have ho : ownReg CPH_ERASE_ERASED.block CPH_ERASE_ERASED.off = true := by decide
  have ho' : ownReg CPH_ERASE_COUNT.block CPH_ERASE_COUNT.off = true := by decide
  unfold erasureCounted
  rw [fget_eq_bget, fadd_regs, fset_regs, fset_regs, bget_bput_wing _ _ _ _ _ _ _ _ _ _ _ _ _ _ _ _ hw ho' ho,
    bget_bput_wing _ _ _ _ _ _ _ _ _ _ _ _ _ _ _ _ hw ho ho, bget_bput_off (h := by decide)]
  rfl

theorem setCases_keeps {β : Type} (P : Head → β) (hregs : ∀ h t, P { h with regs := t } = P h) (heng : ∀ h e, P { h with eng := e } = P h)
    (h : Head) (l : List CaseStream) : P (setCases h l) = P h :=
  (foldHead_frame P (fun _ _ => hregs _ _) wings { h with eng := { h.eng with cases := l } }).trans (heng _ _)

theorem keysGone_keeps {β : Type} (P : Head → β) (hregs : ∀ h t, P { h with regs := t } = P h) (heng : ∀ h e, P { h with eng := e } = P h)
    (hfree : ∀ h n, P { h with freeCtr := n } = P h) (h : Head) : P (keysGone h) = P { h with keys := [] } := by
  have hslots := foldHead_frame P (f := fun h id => if keyState h id = 0 then h else fset h .east KEY_SLOT_ATTR_STATE 0 id)
    (fun h id => by split; exacts [rfl, hregs _ _]) (List.range 8256) { h with keys := [] }
  refine (heng _ _).trans (Eq.trans ?_ hslots)
  exact (setCases_keeps P hregs heng _ _).trans ((heng _ _).trans ((hfree _ _).trans (hregs _ _)))

theorem keyErase_keeps {β : Type} (P : Head → β) (hregs : ∀ h t, P { h with regs := t } = P h) (heng : ∀ h e, P { h with eng := e } = P h)
    (hfree : ∀ h n, P { h with freeCtr := n } = P h) (hraise : ∀ h w e, P (raise h w e) = P h) (h : Head) :
    P (keyErase h) = P { h with keys := [] } := by
  rw [keyErase_eq, hraise]
  unfold raiseBoth
  rw [hraise, hraise]
  exact (hregs _ _).trans ((hregs _ _).trans ((hregs _ _).trans ((hregs _ _).trans ((hregs _ _).trans
    ((hregs _ _).trans (keysGone_keeps P hregs heng hfree h))))))

theorem keyErase_eng (h : Head) : (keyErase h).eng = (keysGone h).eng := by
  rw [keyErase_eq, raise_eng, raiseBoth_eng]
  rfl

theorem keyErase_erased (h : Head) (w : Wing) :
    fget (keyErase h) w CPH_ERASE_ERASED = 1 ∧ EventSet (keyErase h) w Ev.CPH_KEYS_ERASED := by
  rw [keyErase_eq]
  refine ⟨?_, eventSet_raise (raiseBoth_sets _ _ (by decide) w) (by decide) _ _ _⟩
  simp (disch := decide) only [fget_eq_bget, raise_regs, raiseBoth_regs, bget_evPut_off]
  cases w with
  | east => exact (erasureCounted_other _ (by decide)).trans (erasureCounted_erased _ _)
  | west => exact erasureCounted_erased _ _

theorem keyErase_responds (s : State) (hrun : Runs s.dev) :
    Completes .keyErase s (fun h => ∃ g : Head,
      g.keys = [] ∧ g.eng.tileKeys = [] ∧ g.eng.fpStates = [] ∧ (∀ w, fget g w CPH_ERASE_ERASED = 1 ∧ EventSet g w Ev.CPH_KEYS_ERASED) ∧
        EventSet g .east Ev.KEY_ERASED ∧ g.mem = s.dev.mem ∧ g.sram = s.dev.sram ∧
        g.cat = s.dev.cat ∧ g.vit = s.dev.vit ∧ h = contextKeys g) := by
  have hkeep {β : Type} (P : Head → β) (hregs : ∀ h t, P { h with regs := t } = P h) (heng : ∀ h e, P { h with eng := e } = P h)
      (hfree : ∀ h n, P { h with freeCtr := n } = P h) (hraise : ∀ h w e, P (raise h w e) = P h) :=
    keyErase_keeps P hregs heng hfree hraise s.dev
  refine completes_lift exec_keyErase hrun ⟨keyErase s.dev, hkeep Head.keys (fun _ _ => rfl) (fun _ _ => rfl) (fun _ _ => rfl) (raise_keys · · · 0),
    ?_, ?_, keyErase_erased s.dev, ?_, hkeep Head.mem (fun _ _ => rfl) (fun _ _ => rfl) (fun _ _ => rfl) (raise_mem · · · 0),
    hkeep Head.sram (fun _ _ => rfl) (fun _ _ => rfl) (fun _ _ => rfl) (raise_sram · · · 0),
    hkeep Head.cat (fun _ _ => rfl) (fun _ _ => rfl) (fun _ _ => rfl) (raise_cat · · · 0),
    hkeep Head.vit (fun _ _ => rfl) (fun _ _ => rfl) (fun _ _ => rfl) (raise_vit · · · 0), rfl⟩
  · rw [keyErase_eng]
    rfl
  · rw [keyErase_eng]
    rfl
  · rw [keyErase_eq]
    exact raiseAt_sets _ _ _ (by decide)

/-- Settles O14, clause by clause. -/
theorem routesGroupsAndResponders : Obligations.RoutesGroupsAndResponders :=
  ⟨routeDataWrite_stores, routeDataWrite_locked, routeError_zeroes, wgStall_stalls, wgWake_restarts, wgMembersWrite_sets, foyerPause_pauses,
    accessionHold_holds, quotaShrink_starts, keyErase_responds⟩

end Sys2Proof.Laws
end

section
/-! The frame and the slot (R27, R30, R33, R48), and O15. -/

namespace Sys2Proof.Laws

open Machine Machine.Reg

/-! ### Counted events -/

section Counted

variable {h : Head} {w w' : Wing} {e e' : EvRef} {inst inst' : Nat}

theorem evGet_raiseCounted : evGet (raiseCounted h w e inst).regs ⟨e.block, w, inst⟩ = (evGet h.regs ⟨e.block, w, inst⟩ ||| 1 <<< e.n) % 2 ^ 32 := by
  rw [raiseCounted_regs]
  exact bget_bput_same _ _ _ _ _ _ _ _ _ (by decide) (by decide)

/-- A counted event sets its bit (R70). -/
theorem eventSet_raiseCounted_same (hn : e.n < 32) : EventSet (raiseCounted h w e inst) w e inst := by
  rw [eventSet_iff, EvSet, evGet_raiseCounted, Nat.testBit_mod_two_pow, Nat.testBit_or, Nat.one_shiftLeft, Nat.testBit_two_pow_self,
    Bool.or_true, decide_eq_true hn]
  rfl

theorem sameButRegs_raiseCounted {g : Head} (a : SameButRegs g h) : SameButRegs g (raiseCounted h w e inst) := by
  refine sameButRegs_trans a ?_
  unfold SameButRegs raiseCounted
  dsimp only
  split <;> rfl

end Counted

/-! ### Fields of both wings' pages -/

theorem pget_eq_bget (h : Head) (w : Wing) (lo hi : Fld) (bank : Nat) : pget h w lo hi bank =
    (bget h.regs hi.block w 0 hi.off hi.hi hi.lo bank <<< (32 - lo.lo)) + bget h.regs lo.block w 0 lo.off lo.hi lo.lo bank := rfl

theorem foldHead_wings_regs (h : Head) (f : Head → Wing → Head) : (foldHead h wings f).regs = (f (f h .east) .west).regs := rfl

/-- A number's halves put together again. -/
theorem halves_add (n k : Nat) : ((n >>> 32) % 2 ^ k) <<< 32 + n % 2 ^ 32 = n % 2 ^ (32 + k) := by
  rw [Nat.shiftLeft_eq, Nat.shiftRight_eq_div_pow, Nat.pow_add, Nat.mod_mul]
  omega

/-! ### Slots -/

theorem enterSlot_regs (h : Head) (slot : Nat) : (enterSlot h slot).regs =
    (pset (fset (pset (fset h .east FRM_SLOT_SLOT slot) .east FRM_TIME_LO_TIME FRM_TIME_HI_TIME (h.frm.tickTime + slot * slotNs h))
      .west FRM_SLOT_SLOT slot) .west FRM_TIME_LO_TIME FRM_TIME_HI_TIME (h.frm.tickTime + slot * slotNs h)).regs := rfl

theorem slot_enterSlot (h : Head) (slot : Nat) (w : Wing) : fget (enterSlot h slot) w FRM_SLOT_SLOT = slot % 32 := by
  rw [fget_eq_bget, enterSlot_regs]
  cases w with
  | east =>
    simp (disch := decide) only [pset_regs, fset_regs, bget_bput_off, bget_bput_wing]
    exact bget_bput_same _ _ _ _ _ _ _ _ _ (by decide) (by decide)
  | west =>
    simp (disch := decide) only [pset_regs, fset_regs, bget_bput_off]
    exact bget_bput_same _ _ _ _ _ _ _ _ _ (by decide) (by decide)

theorem frmTime_enterSlot (h : Head) (slot : Nat) : frmTime (enterSlot h slot) = (h.frm.tickTime + slot * slotNs h) % 2 ^ 64 := by
  unfold frmTime
  rw [pget_eq_bget, enterSlot_regs]
  generalize h.frm.tickTime + slot * slotNs h = t
  simp (disch := decide) only [pset_regs, fset_regs, bget_bput_off, bget_bput_wing]
  rw [bget_bput_same _ _ _ _ _ _ _ _ _ (by decide) (by decide), bget_bput_same _ _ _ _ _ _ _ _ _ (by decide) (by decide)]
  exact halves_add t 32

theorem regsBut_enterSlot (h : Head) (slot : Nat) : RegsBut h (enterSlot h slot) [(.frm, 0x04C), (.frm, 0x078), (.frm, 0x07C)] := by
  rw [regsBut_iff, enterSlot_regs]
  simp (disch := decide) only [pset_regs, fset_regs, regsKept_bput, regsKept_refl]

theorem slotBoundary_enters (s : State) (hrun : Runs s.dev) (hslot : fget s.dev .east FRM_SLOT_SLOT < 31) :
    Completes .slotBoundary s (fun h =>
      (∀ w, fget h w FRM_SLOT_SLOT = fget s.dev .east FRM_SLOT_SLOT + 1) ∧
      frmTime h = (s.dev.frm.tickTime + (fget s.dev .east FRM_SLOT_SLOT + 1) * slotNs s.dev) % 2 ^ 64 ∧
      RegsBut s.dev h [(.frm, 0x04C), (.frm, 0x078), (.frm, 0x07C)] ∧ SameButRegs s.dev h) := by
  refine completes_lift exec_slotBoundary hrun ?_
  rw [slotBoundary, if_pos hslot]
  exact ⟨fun w => (slot_enterSlot _ _ w).trans (Nat.mod_eq_of_lt (by omega)), frmTime_enterSlot _ _, regsBut_enterSlot _ _, rfl⟩

theorem slotBoundary_last (s : State) (hrun : Runs s.dev) (hslot : fget s.dev .east FRM_SLOT_SLOT = 31) :
    Completes .slotBoundary s (fun h => h = s.dev) := by
  refine completes_lift exec_slotBoundary hrun ?_
  rw [slotBoundary, if_neg (by omega)]

/-! ### The tick -/

/-- The frame's bookkeeping as the timebase enters the next frame, before the slew is taken (R30, R42, R44, R47). -/
def tickState (h : Head) : FrameState :=
  let slew := if ptpOn h then h.frm.slewNow else 0
  let ps := h.frm.slewCarry - slew
  { h.frm with
    tickTime := h.frm.tickTime + ((frameNs (frameLen h) : Nat) + h.frm.trimNow + ps / 1000 : Int).toNat
    trimNow := h.frm.trimNext
    trimNext := 0
    slewLeft := h.frm.slewLeft - slew
    slewCarry := ps % 1000
    slewNow := 0
    countdown := h.frm.countdown - 1
    lengthDue := h.frm.lengthDue || h.frm.countdown == 1 }

/-- The head with the frame count of the next frame on both pages. -/
def tickCounted (h : Head) : Head :=
  let n := frameCount h + 1
  let h := fset { h with frm := tickState h } .east FRM_LENGTH_SET_COUNTDOWN (h.frm.countdown - 1)
  pset (pset h .east FRM_FRAME_LO_FRAME FRM_FRAME_HI_FRAME n) .west FRM_FRAME_LO_FRAME FRM_FRAME_HI_FRAME n

/-- The head in slot 0 of the next frame. -/
def tickEntered (h : Head) : Head := enterSlot (syncWire (tickCounted h)) 0

theorem tickTimebase_eq (h : Head) :
    tickTimebase h = { tickEntered h with frm := { (tickEntered h).frm with slewNow := slewOf (tickEntered h) } } := rfl

theorem frameCount_tickCounted (h : Head) (w : Wing) : frameCount (tickCounted h) w = (frameCount h + 1) % 2 ^ 48 := by
  unfold tickCounted
  dsimp only
  generalize frameCount h + 1 = n
  unfold frameCount
  rw [pget_eq_bget]
  cases w with
  | east =>
    simp (disch := decide) only [pset_regs, fset_regs, bget_bput_off, bget_bput_wing]
    rw [bget_bput_same _ _ _ _ _ _ _ _ _ (by decide) (by decide), bget_bput_same _ _ _ _ _ _ _ _ _ (by decide) (by decide)]
    exact halves_add n 16
  | west =>
    simp (disch := decide) only [pset_regs, fset_regs, bget_bput_off]
    rw [bget_bput_same _ _ _ _ _ _ _ _ _ (by decide) (by decide), bget_bput_same _ _ _ _ _ _ _ _ _ (by decide) (by decide)]
    exact halves_add n 16

theorem syncWire_regs (h : Head) : (syncWire h).regs =
    (frmBoth h FRM_WIRE_WIRE_COUNT ((frameCount h + fget h .east FRM_WIRE_WIRE_OFFSET) % 2 ^ 16)).regs := rfl

theorem frmBoth_regs (h : Head) (f : Fld) (v : Nat) : (frmBoth h f v).regs = (fset (fset h .east f v) .west f v).regs := rfl

theorem frameCount_syncWire (h : Head) (w : Wing) : frameCount (syncWire h) w = frameCount h w := by
  unfold frameCount
  rw [pget_eq_bget, pget_eq_bget, syncWire_regs, frmBoth_regs]
  simp (disch := decide) only [fset_regs, bget_bput_off]

theorem frameCount_enterSlot (h : Head) (slot : Nat) (w : Wing) : frameCount (enterSlot h slot) w = frameCount h w := by
  unfold frameCount
  rw [pget_eq_bget, pget_eq_bget, enterSlot_regs]
  simp (disch := decide) only [pset_regs, fset_regs, bget_bput_off]

theorem wireCount_syncWire (h : Head) : wireCount (syncWire h) = (frameCount h + fget h .east FRM_WIRE_WIRE_OFFSET) % 2 ^ 16 := by
  unfold wireCount
  rw [fget_eq_bget, syncWire_regs, frmBoth_regs]
  generalize frameCount h + fget h .east FRM_WIRE_WIRE_OFFSET = n
  simp (disch := decide) only [fset_regs, bget_bput_wing]
  rw [bget_bput_same _ _ _ _ _ _ _ _ _ (by decide) (by decide)]
  exact Nat.mod_mod n _

theorem wireCount_enterSlot (h : Head) (slot : Nat) : wireCount (enterSlot h slot) = wireCount h := by
  unfold wireCount
  rw [fget_eq_bget, fget_eq_bget, enterSlot_regs]
  simp (disch := decide) only [pset_regs, fset_regs, bget_bput_off]

theorem offset_tickCounted (h : Head) : fget (tickCounted h) .east FRM_WIRE_WIRE_OFFSET = fget h .east FRM_WIRE_WIRE_OFFSET := by
  unfold tickCounted
  dsimp only
  rw [fget_eq_bget, fget_eq_bget]
  simp (disch := decide) only [pset_regs, fset_regs, bget_bput_off]

theorem tickTimebase_regs (h : Head) : (tickTimebase h).regs = (tickEntered h).regs := by rw [tickTimebase_eq]

theorem tickEntered_eq (h : Head) : tickEntered h = { h with regs := (tickEntered h).regs, frm := tickState h } := rfl

theorem tickTimebase_frm (h : Head) : (tickTimebase h).frm = { tickState h with slewNow := slewOf (tickEntered h) } := by
  rw [tickTimebase_eq, tickEntered_eq]

theorem tickTimebase_enters (h : Head) :
    (∀ w, frameCount (tickTimebase h) w = (frameCount h + 1) % 2 ^ 48) ∧ (∀ w, fget (tickTimebase h) w FRM_SLOT_SLOT = 0) ∧
      wireCount (tickTimebase h) = ((frameCount h + 1) + fget h .east FRM_WIRE_WIRE_OFFSET) % 2 ^ 16 ∧
      tickTimebase h = { h with regs := (tickTimebase h).regs, frm := (tickTimebase h).frm } := by
  refine ⟨fun w => ?_, fun w => ?_, ?_, ?_⟩
  · unfold frameCount
    rw [pget_eq_bget, tickTimebase_regs, ← pget_eq_bget]
    exact (frameCount_enterSlot _ 0 w).trans ((frameCount_syncWire _ w).trans (frameCount_tickCounted h w))
  · rw [fget_eq_bget, tickTimebase_regs, ← fget_eq_bget]
    exact slot_enterSlot _ 0 w
  · unfold wireCount
    rw [fget_eq_bget, tickTimebase_regs, ← fget_eq_bget]
    refine (wireCount_enterSlot _ 0).trans ((wireCount_syncWire _).trans ?_)
    rw [frameCount_tickCounted, offset_tickCounted]
    omega
  · rw [tickTimebase_eq, tickEntered_eq]

theorem frameTick_enters (s : State) (lateE lateW : Option Nat) (hrun : Runs s.dev) :
    Completes (.frameTick lateE lateW) s (fun h => ∃ g : Head,
      (∀ w, frameCount g w = (frameCount s.dev .east + 1) % 2 ^ 48 ∧ fget g w FRM_SLOT_SLOT = 0) ∧
      wireCount g = ((frameCount s.dev .east + 1) + fget s.dev .east FRM_WIRE_WIRE_OFFSET) % 2 ^ 16 ∧
      g.frm.countdown = s.dev.frm.countdown - 1 ∧ g.frm.tickTime = s.dev.frm.tickTime +
        ((frameNs (fget s.dev .east FRM_CTRL_LENGTH) : Nat) + s.dev.frm.trimNow +
          (s.dev.frm.slewCarry - (if ptpOn s.dev then s.dev.frm.slewNow else 0)) / 1000).toNat ∧
      g = { s.dev with regs := g.regs, frm := g.frm } ∧ h = tickRest g lateE lateW) := by
  obtain ⟨hcount, hslot, hwire, hframe⟩ := tickTimebase_enters s.dev
  refine completes_lift (exec_frameTick lateE lateW) hrun ⟨tickTimebase s.dev, fun w => ⟨hcount w, hslot w⟩, hwire, ?_, ?_, hframe, rfl⟩
  · rw [tickTimebase_frm]
    rfl
  · rw [tickTimebase_frm]
    rfl

/-! ### Late schedules -/

theorem scheduleDeadline_incomplete (s : State) (w : Wing) (hrun : Runs s.dev)
    (hb : (if w = .east then s.dev.frm.builtE else s.dev.frm.builtW) = false) :
    Completes (.scheduleDeadline w) s (fun h => h = { s.dev with
      frm := if w = .east then { s.dev.frm with lateE := true } else { s.dev.frm with lateW := true } }) := by
  refine completes_lift (exec_scheduleDeadline w) hrun ?_
  cases w with
  | east =>
    have hb' : s.dev.frm.builtE = false := hb
    simp only [scheduleDeadline, hb', Bool.not_false, Bool.or_true, if_true]
  | west =>
    have hb' : s.dev.frm.builtW = false := hb
    simp only [scheduleDeadline, hb', Bool.not_false, Bool.or_true, if_neg (show ¬Wing.west = .east by decide)]

theorem same_lateE {h : Head} (hb : h.frm.builtE = true) : { h with frm := { h.frm with lateE := h.frm.lateE || !h.frm.builtE } } = h := by
  rw [show (h.frm.lateE || !h.frm.builtE) = h.frm.lateE by rw [hb, Bool.not_true, Bool.or_false]]

theorem same_lateW {h : Head} (hb : h.frm.builtW = true) : { h with frm := { h.frm with lateW := h.frm.lateW || !h.frm.builtW } } = h := by
  rw [show (h.frm.lateW || !h.frm.builtW) = h.frm.lateW by rw [hb, Bool.not_true, Bool.or_false]]

theorem scheduleDeadline_complete (s : State) (w : Wing) (hrun : Runs s.dev)
    (hb : (if w = .east then s.dev.frm.builtE else s.dev.frm.builtW) = true) : Completes (.scheduleDeadline w) s (fun h => h = s.dev) := by
  refine completes_lift (exec_scheduleDeadline w) hrun ?_
  cases w with
  | east => exact same_lateE (hb := hb)
  | west => exact same_lateW (hb := hb)

/-- Bit 1 of EVT_STATUS is FRM_SLIP's, set already where the event is not raised anew. -/
theorem eventSet_slipEvent (h : Head) (w : Wing) (n : Nat) : EventSet (slipEvent h w n) w Ev.FRM_SLIP := by
  unfold slipEvent
  dsimp only
  split
  · exact eventSet_raiseCounted_same (by decide)
  · rename_i hc
    exact (Bool.not_eq_false _).mp fun hf => hc (.inl hf)

theorem slipEvent_frame (h : Head) (w : Wing) (n : Nat) : RegsBut h (slipEvent h w n) [(.frm, 0x010)] ∧ SameButRegs h (slipEvent h w n) := by
  unfold slipEvent
  dsimp only
  split
  · refine ⟨?_, sameButRegs_raiseCounted rfl⟩
    rw [regsBut_iff]
    simp (disch := decide) only [raiseCounted_regs, regsKept_bput, regsKept_refl]
  · exact ⟨regsKept_refl _, rfl⟩

/-- A wing's late-schedule frame no more due. -/
def lateCleared (g : Head) (w : Wing) : FrameState := if w = .east then { g.frm with lateE := false } else { g.frm with lateW := false }

/-- The head with a build slip counted, before its events (R33, R35). -/
def buildCounted (h : Head) (w : Wing) : Head :=
  let l := slipWindow h (if w = .east then h.frm.slipsBuildE else h.frm.slipsBuildW)
  fadd { h with frm := if w = .east then { h.frm with slipsBuildE := l } else { h.frm with slipsBuildW := l } } w FRM_SLIP_BUILD_COUNT

theorem buildSlip_eq (h : Head) (w : Wing) : ∃ n, buildSlip h w = raise (slipEvent (buildCounted h w) w n) w Ev.FRM_BUILD_LATE := ⟨_, rfl⟩

theorem buildCounted_count (h : Head) (w : Wing) :
    fget (buildCounted h w) w FRM_SLIP_BUILD_COUNT = min (fget h w FRM_SLIP_BUILD_COUNT + 1) (2 ^ 24 - 1) := by
  unfold buildCounted
  rw [fget_eq_bget, fadd_regs]
  exact bget_bput_same_of_lt _ _ _ _ _ _ _ _ _ (by decide) (by decide) (by unfold satAdd; simp [FRM_SLIP_BUILD_COUNT])

theorem buildCounted_frame (h : Head) (w : Wing) :
    RegsBut h (buildCounted h w) [(.frm, 0x064)] ∧ buildCounted h w = { h with regs := (buildCounted h w).regs, frm := (buildCounted h w).frm } := by
  refine ⟨?_, rfl⟩
  unfold buildCounted
  rw [regsBut_iff]
  simp (disch := decide) only [fadd_regs, regsKept_bput, regsKept_refl]

theorem buildSlip_counts (h : Head) (w : Wing) :
    fget (buildSlip h w) w FRM_SLIP_BUILD_COUNT = min (fget h w FRM_SLIP_BUILD_COUNT + 1) (2 ^ 24 - 1) ∧
      EventSet (buildSlip h w) w Ev.FRM_BUILD_LATE ∧ EventSet (buildSlip h w) w Ev.FRM_SLIP ∧
      RegsBut h (buildSlip h w) [(.frm, 0x010), (.frm, 0x064)] ∧ (buildSlip h w).frm = (buildCounted h w).frm ∧
      buildSlip h w = { h with regs := (buildSlip h w).regs, evq := (buildSlip h w).evq, frm := (buildSlip h w).frm } := by
  obtain ⟨n, hb⟩ := buildSlip_eq h w
  obtain ⟨hkept, hsame⟩ := slipEvent_frame (buildCounted h w) w n
  obtain ⟨hcount, hhead⟩ := buildCounted_frame h w
  have hall : SameButRegs (buildCounted h w) (buildSlip h w) := hb ▸ sameButRegs_raise hsame
  have hkept' : RegsBut (buildCounted h w) (buildSlip h w) [(.frm, 0x010)] := by
    rw [hb, regsBut_iff, raise_regs, regsKept_evPut_at _ (by decide)]
    exact hkept
  refine ⟨?_, hb ▸ raiseAt_sets _ _ _ (by decide), hb ▸ eventSet_raise (eventSet_slipEvent _ _ _) (by decide) _ _ _, ?_, ?_, ?_⟩
  · rw [← buildCounted_count]
    exact bget_of_regsKept _ _ _ _ _ _ _ hkept' (by decide) (by decide)
  · exact regsKept_trans (regsKept_mono hcount (by decide)) (regsKept_mono hkept' (by decide))
  · rw [show buildSlip h w = { buildCounted h w with regs := (buildSlip h w).regs, evq := (buildSlip h w).evq } from hall]
  · have hsame : buildSlip h w = { buildCounted h w with regs := (buildSlip h w).regs, evq := (buildSlip h w).evq } := hall
    rw [hsame, hhead]

theorem lateTick_slips (g : Head) (w : Wing) (hl : (if w = .east then g.frm.lateE else g.frm.lateW) = true) :
    let h := lateTick g w
    fget h w FRM_SLIP_BUILD_COUNT = min (fget g w FRM_SLIP_BUILD_COUNT + 1) (2 ^ 24 - 1) ∧ EventSet h w Ev.FRM_BUILD_LATE ∧
      EventSet h w Ev.FRM_SLIP ∧ (if w = .east then h.frm.lateE else h.frm.lateW) = false ∧
      RegsBut g h [(.frm, 0x010), (.frm, 0x064)] ∧ h = { g with regs := h.regs, evq := h.evq, frm := h.frm } := by
  have heq : lateTick g w = buildSlip { g with frm := lateCleared g w } w := by
    unfold lateTick
    rw [hl]
    rfl
  obtain ⟨hcount, hlate, hslip, hregs, hfrm, hsame⟩ := buildSlip_counts { g with frm := lateCleared g w } w
  dsimp only
  rw [heq]
  refine ⟨hcount, hlate, hslip, ?_, hregs, hsame⟩
  rw [hfrm]
  cases w <;> rfl

/-- Settles O15, clause by clause. -/
theorem frameAndSlotAdvance : Obligations.FrameAndSlotAdvance :=
  ⟨frameTick_enters, slotBoundary_enters, slotBoundary_last, scheduleDeadline_incomplete, lateTick_slips, scheduleDeadline_complete⟩

end Sys2Proof.Laws
end

section
/-! The timebase of a follower and its discipline (R42, R46, R47, R49, R153), and O17. -/

namespace Sys2Proof.Laws

open Machine Machine.Reg

/-! ### A field of both wings' pages -/

/-- A field set on the page of each wing, read on either. -/
theorem bget_both (t : Tab Word) (blk : Block) (w : Wing) (inst off hi lo bank v : Nat) (hl : lo ≤ hi) (h32 : hi < 32) :
    bget (bput (bput t blk .east inst off hi lo bank v) blk .west inst off hi lo bank v) blk w inst off hi lo bank = v % 2 ^ (hi - lo + 1) := by
  cases w with
  | west => exact bget_bput_same _ _ _ _ _ _ _ _ _ hl h32
  | east =>
    cases ho : ownReg blk off with
    | true =>
      rw [bget_bput_wing _ _ _ _ _ _ _ _ _ _ _ _ _ _ _ _ (by decide) ho ho]
      exact bget_bput_same _ _ _ _ _ _ _ _ _ hl h32
    | false =>
      rw [bput_west _ _ _ _ _ _ _ _ ho]
      exact bget_bput_same _ _ _ _ _ _ _ _ _ hl h32

/-- Other bits of the same register, each wing's for itself. -/
theorem bget_both_bits (t : Tab Word) (blk : Block) (w : Wing) (inst off hi lo hi' lo' bank v : Nat) (ho : ownReg blk off = true) (hl : lo ≤ hi)
    (hl' : lo' ≤ hi') (h32 : hi' < 32) (hd : hi' < lo ∨ hi < lo') :
    bget (bput (bput t blk .east inst off hi lo bank v) blk .west inst off hi lo bank v) blk w inst off hi' lo' bank =
      bget t blk w inst off hi' lo' bank := by
  cases w with
  | west =>
    rw [bget_bput_bits _ _ _ _ _ _ _ _ _ _ _ _ _ rfl rfl hl hl' h32 hd, bget_bput_wing _ _ _ _ _ _ _ _ _ _ _ _ _ _ _ _ (by decide) ho ho]
  | east =>
    rw [bget_bput_wing _ _ _ _ _ _ _ _ _ _ _ _ _ _ _ _ (by decide) ho ho, bget_bput_bits _ _ _ _ _ _ _ _ _ _ _ _ _ rfl rfl hl hl' h32 hd]

theorem fget_frmBoth (h : Head) (f : Fld) (v : Nat) (w : Wing) (hl : f.lo ≤ f.hi) (h32 : f.hi < 32) :
    fget (frmBoth h f v) w f = v % 2 ^ (f.hi - f.lo + 1) := bget_both _ _ _ _ _ _ _ _ _ hl h32

theorem fget_frmBoth_bits (h : Head) (f g : Fld) (v : Nat) (w : Wing) (hb : g.block = f.block) (hof : g.off = f.off)
    (ho : ownReg f.block f.off = true) (hl : f.lo ≤ f.hi) (hl' : g.lo ≤ g.hi) (h32 : g.hi < 32) (hd : g.hi < f.lo ∨ f.hi < g.lo) :
    fget (frmBoth h f v) w g = fget h w g := by
  obtain ⟨gb, go, gh, gl⟩ := g
  obtain ⟨fb, fo, fh, fl⟩ := f
  dsimp only at *
  subst hb hof
  exact bget_both_bits _ _ _ _ _ _ _ _ _ _ _ ho hl hl' h32 hd

theorem regsBut_frmBoth {g h : Head} {l : List (Block × Nat)} (f : Fld) (v : Nat) (hm : (f.block, f.off % 4096) ∈ l) (hk : RegsBut g h l) :
    RegsBut g (frmBoth h f v) l := by
  rw [regsBut_iff, frmBoth_regs]
  simp only [fset_regs]
  rw [regsKept_bput _ _ _ _ _ _ _ _ hm, regsKept_bput _ _ _ _ _ _ _ _ hm]
  exact hk

/-- A field of a register that is kept. -/
theorem fget_of_regsBut {g h : Head} {l : List (Block × Nat)} (hk : RegsBut g h l) (w : Wing) (f : Fld) (ho : f.off < 4096)
    (hn : (f.block, f.off) ∉ l) (bank inst : Nat) : fget h w f bank inst = fget g w f bank inst := bget_of_regsKept _ _ _ _ _ _ _ hk ho hn

/-! ### What a marker is judged by -/

/-- The head as a marker has arrived at its tick: no tick missed, the phase error noted unless the marker is flagged (R42). -/
def markerNoted (h : Head) (flagged : Bool) (phase : Int) : Head :=
  let h := frmBoth h FRM_LOCK_MISSED 0
  if flagged then h else fset h .east FRM_LOCK_PHASE_ERR (ofSigned 16 phase)

theorem markerNoted_frame (h : Head) (flagged : Bool) (phase : Int) :
    RegsBut h (markerNoted h flagged phase) [(.frm, 0x048)] ∧ markerNoted h flagged phase = { h with regs := (markerNoted h flagged phase).regs } := by
  have hboth : RegsBut h (frmBoth h FRM_LOCK_MISSED 0) [(.frm, 0x048)] := regsBut_frmBoth _ _ (by decide) (regsKept_refl _)
  cases flagged with
  | true => exact ⟨hboth, rfl⟩
  | false =>
    refine ⟨?_, rfl⟩
    rw [regsBut_iff]
    exact (regsKept_bput _ _ _ _ _ _ _ _ (by decide)).mpr hboth

theorem missed_markerNoted (h : Head) (flagged : Bool) (phase : Int) (w : Wing) : fget (markerNoted h flagged phase) w FRM_LOCK_MISSED = 0 := by
  have hboth : fget (frmBoth h FRM_LOCK_MISSED 0) w FRM_LOCK_MISSED = 0 := fget_frmBoth _ _ _ _ (by decide) (by decide)
  cases flagged with
  | true => exact hboth
  | false =>
    refine Eq.trans ?_ hboth
    cases w with
    | west => exact bget_bput_wing _ _ _ _ _ _ _ _ _ _ _ _ _ _ _ _ (by decide) (by decide) (by decide)
    | east => exact bget_bput_bits _ _ _ _ _ _ _ _ _ _ _ _ _ rfl rfl (by decide) (by decide) (by decide) (by decide)

theorem lock_markerNoted (h : Head) (flagged : Bool) (phase : Int) (w : Wing) :
    fget (markerNoted h flagged phase) w FRM_LOCK_STATE = fget h w FRM_LOCK_STATE := by
  have hboth : fget (frmBoth h FRM_LOCK_MISSED 0) w FRM_LOCK_STATE = fget h w FRM_LOCK_STATE :=
    fget_frmBoth_bits _ _ _ _ _ rfl rfl (by decide) (by decide) (by decide) (by decide) (by decide)
  cases flagged with
  | true => exact hboth
  | false =>
    refine Eq.trans ?_ hboth
    cases w with
    | west => exact bget_bput_wing _ _ _ _ _ _ _ _ _ _ _ _ _ _ _ _ (by decide) (by decide) (by decide)
    | east => exact bget_bput_bits _ _ _ _ _ _ _ _ _ _ _ _ _ rfl rfl (by decide) (by decide) (by decide) (by decide)

theorem phaseErr_markerNoted (h : Head) (phase : Int) : fget (markerNoted h false phase) .east FRM_LOCK_PHASE_ERR = ofSigned 16 phase := by
  refine bget_bput_same_of_lt _ _ _ _ _ _ _ _ _ (by decide) (by decide) ?_
  have hlt := Int.emod_lt_of_pos phase (show (0 : Int) < ((2 ^ 16 : Nat) : Int) by decide)
  have hnn := Int.emod_nonneg phase (show ((2 ^ 16 : Nat) : Int) ≠ 0 by decide)
  unfold ofSigned
  exact (Int.toNat_lt hnn).mpr hlt

theorem countDiff_congr {g h : Head} (hw : wireCount h = wireCount g) (payload : Word) (next : Bool) :
    countDiff h payload next = countDiff g payload next := by
  unfold countDiff
  rw [hw]

theorem slotNs_congr {g h : Head} (hl : fget h .east FRM_CTRL_LENGTH = fget g .east FRM_CTRL_LENGTH) : slotNs h = slotNs g := by
  unfold slotNs frameLen
  rw [hl]

theorem limitTrim_congr {g h : Head} (hm : fget h .east FRM_TRIM_MAX_TRIM = fget g .east FRM_TRIM_MAX_TRIM) (phase : Int) :
    limitTrim h phase = limitTrim g phase := by
  unfold limitTrim
  rw [hm]

theorem natAbs_limitTrim_le (h : Head) (phase : Int) : (limitTrim h phase).natAbs ≤ fget h .east FRM_TRIM_MAX_TRIM := by
  unfold limitTrim
  dsimp only
  omega

section Noted

variable (h : Head) (payload : Word) (flagged next : Bool) (phase : Int)

theorem countDiff_markerNoted : countDiff (markerNoted h flagged phase) payload next = countDiff h payload next :=
  countDiff_congr (fget_of_regsBut (markerNoted_frame h flagged phase).1 _ _ (by decide) (by decide) _ _) _ _

theorem slotNs_markerNoted : slotNs (markerNoted h flagged phase) = slotNs h :=
  slotNs_congr (fget_of_regsBut (markerNoted_frame h flagged phase).1 _ _ (by decide) (by decide) _ _)

theorem limitTrim_markerNoted : limitTrim (markerNoted h flagged phase) phase = limitTrim h phase :=
  limitTrim_congr (fget_of_regsBut (markerNoted_frame h flagged phase).1 _ _ (by decide) (by decide) _ _) _

/-- A locked follower's head after a marker that it keeps its timebase on, before a slip (R42). -/
def markerTracked : Head :=
  if flagged then markerNoted h flagged phase else setTrim (markerNoted h flagged phase) next (limitTrim h phase)

/-- A marker on a locked follower that announces no change of length (R42). -/
theorem tickMarker_locked (port : Wing) (arrival : Nat) (hf : isFollower h = true) (hp : usesPort h port = true) (hl : lockState h = 1)
    (hc : bitsOf payload 13 10 = 0) (hm : markerPlace h port arrival = (next, phase)) :
    tickMarker h port payload flagged arrival =
      if 2 ≤ (countDiff h payload next).natAbs ∨ ¬ (flagged = true ∨ 2 * phase.natAbs ≤ slotNs h) then timebaseLost (markerNoted h flagged phase)
      else if countDiff h payload next = 0 then markerTracked h flagged next phase
      else tickSlip (addOffset (markerTracked h flagged next phase) (countDiff h payload next)) := by
  have hlock : lockState (markerNoted h flagged phase) = 1 := (lock_markerNoted h flagged phase .east).trans hl
  have htake : takeCountdown h payload next = h := if_pos (.inl hc)
  unfold tickMarker
  rw [if_neg (by simp [hf, hp]), hm]
  dsimp only
  rw [htake]
  change (if lockState (markerNoted h flagged phase) = 2 ∨ lockState (markerNoted h flagged phase) = 3 then _ else _) = _
  rw [if_neg (by omega)]
  have hd := countDiff_markerNoted h payload flagged next phase
  have hs := slotNs_markerNoted h flagged phase
  have ht := limitTrim_markerNoted h flagged phase
  unfold markerTracked
  unfold markerNoted at *
  dsimp only at *
  rw [hd, hs, ht]

end Noted

/-! ### Tracking -/

theorem tickMarker_tracks (s : State) (port : Wing) (payload : Word) (arrival : Nat) (next : Bool) (phase : Int) (hrun : Runs s.dev)
    (hf : isFollower s.dev = true) (hp : usesPort s.dev port = true) (hl : lockState s.dev = 1) (hc : bitsOf payload 13 10 = 0)
    (hm : markerPlace s.dev port arrival = (next, phase)) (hd : countDiff s.dev payload next = 0) (hin : 2 * phase.natAbs ≤ slotNs s.dev) :
    Completes (.tickMarker port payload false arrival) s (fun h =>
      (∀ w, fget h w FRM_LOCK_MISSED = 0 ∧ fget h w FRM_LOCK_STATE = fget s.dev w FRM_LOCK_STATE) ∧
      fget h .east FRM_LOCK_PHASE_ERR = ofSigned 16 phase ∧
      (if next then h.frm.trimNext else h.frm.trimNow) = limitTrim s.dev phase ∧
      (limitTrim s.dev phase).natAbs ≤ fget s.dev .east FRM_TRIM_MAX_TRIM ∧
      RegsBut s.dev h [(.frm, 0x048)] ∧ h = { s.dev with regs := h.regs, frm := h.frm }) := by
  refine completes_lift (exec_tickMarker port payload false arrival) hrun ?_
  have htracked : tickMarker s.dev port payload false arrival = markerTracked s.dev false next phase := by
    rw [tickMarker_locked s.dev payload false next phase port arrival hf hp hl hc hm, if_neg (by simp [hd, hin]), if_pos hd]
  rw [htracked]
  obtain ⟨hregs, hhead⟩ := markerNoted_frame s.dev false phase
  refine ⟨fun w => ⟨missed_markerNoted s.dev false phase w, lock_markerNoted s.dev false phase w⟩, phaseErr_markerNoted s.dev phase,
    by cases next <;> rfl, natAbs_limitTrim_le _ _, hregs, rfl⟩

/-! ### Slips -/

/-- A signed value's two's complement, an unsigned value modulo the width added to another. -/
theorem ofSigned_add (a : Nat) (d : Int) : ((ofSigned 16 ((a : Int) + d) : Nat) : Int) = ((a : Int) + d) % 65536 := by
  unfold ofSigned
  exact Int.toNat_of_nonneg (Int.emod_nonneg _ (by decide))

theorem toSigned_emod (n : Nat) : toSigned 16 n % 65536 = (n : Int) % 65536 := by
  unfold toSigned
  split <;> omega

/-- The count of the tick that a marker stands for, once the offset has taken in the difference (R42). -/
theorem count_after_slip (frame offset wire fcount next : Nat) (hw : wire = (frame + offset) % 2 ^ 16) (hf : fcount < 2 ^ 16) (hn : next ≤ 1) :
    ((frame + ofSigned 16 ((offset : Int) + toSigned 16 (fcount + 2 ^ 16 + 2 ^ 16 - (wire + next)))) % 2 ^ 16 + next) % 2 ^ 16 = fcount := by
  have ho := ofSigned_add offset (toSigned 16 (fcount + 2 ^ 16 + 2 ^ 16 - (wire + next)))
  have hs := toSigned_emod (fcount + 2 ^ 16 + 2 ^ 16 - (wire + next))
  have hwlt : wire < 65536 := by omega
  generalize ofSigned 16 ((offset : Int) + toSigned 16 (fcount + 2 ^ 16 + 2 ^ 16 - (wire + next))) = o at ho ⊢
  generalize toSigned 16 (fcount + 2 ^ 16 + 2 ^ 16 - (wire + next)) = d at ho hs
  omega

theorem frameCount_congr {g h : Head} {l : List (Block × Nat)} (hk : RegsBut g h l) (hlo : (Block.frm, 0x050) ∉ l) (hhi : (Block.frm, 0x054) ∉ l)
    (w : Wing) : frameCount h w = frameCount g w := by
  unfold frameCount pget
  rw [fget_of_regsBut hk _ FRM_FRAME_LO_FRAME (by decide) hlo, fget_of_regsBut hk _ FRM_FRAME_HI_FRAME (by decide) hhi]

theorem regsBut_addOffset (h : Head) (d : Int) : RegsBut h (addOffset h d) [(.frm, 0x058)] :=
  regsBut_frmBoth _ _ (by decide) (regsBut_frmBoth _ _ (by decide) (regsKept_refl _))

theorem ofSigned_lt (i : Int) : ofSigned 16 i < 2 ^ 16 := by
  have hlt := Int.emod_lt_of_pos i (show (0 : Int) < ((2 ^ 16 : Nat) : Int) by decide)
  have hnn := Int.emod_nonneg i (show ((2 ^ 16 : Nat) : Int) ≠ 0 by decide)
  unfold ofSigned
  exact (Int.toNat_lt hnn).mpr hlt

theorem offset_addOffset (h : Head) (d : Int) :
    fget (addOffset h d) .east FRM_WIRE_WIRE_OFFSET = ofSigned 16 ((fget h .east FRM_WIRE_WIRE_OFFSET : Nat) + d) := by
  unfold addOffset syncWire
  rw [fget_frmBoth_bits _ FRM_WIRE_WIRE_COUNT FRM_WIRE_WIRE_OFFSET _ _ rfl rfl (by decide) (by decide) (by decide) (by decide) (by decide),
    fget_frmBoth _ _ _ _ (by decide) (by decide)]
  exact Nat.mod_eq_of_lt (ofSigned_lt _)

theorem wire_addOffset (h : Head) (d : Int) :
    wireCount (addOffset h d) = (frameCount h + ofSigned 16 ((fget h .east FRM_WIRE_WIRE_OFFSET : Nat) + d)) % 2 ^ 16 := by
  unfold addOffset
  rw [wireCount_syncWire, fget_frmBoth _ _ _ _ (by decide) (by decide),
    frameCount_congr (regsBut_frmBoth (l := [(.frm, 0x058)]) _ _ (by decide) (regsKept_refl _)) (by decide) (by decide)]
  exact congrArg (fun n => (frameCount h + n) % 2 ^ 16) (Nat.mod_eq_of_lt (ofSigned_lt _))

theorem regsBut_fadd {g h : Head} {l : List (Block × Nat)} (w : Wing) (f : Fld) (n bank inst : Nat) (hm : (f.block, f.off % 4096) ∈ l)
    (hk : RegsBut g h l) : RegsBut g (fadd h w f n bank inst) l := (regsKept_bput _ _ _ _ _ _ _ _ hm).mpr hk

theorem eventSet_slipEvent_keeps {h : Head} {w w' : Wing} {n : Nat} (he : EventSet h w Ev.FRM_SLIP) : EventSet (slipEvent h w' n) w Ev.FRM_SLIP := by
  unfold slipEvent
  dsimp only
  split
  · by_cases hw : w = w'
    · rw [hw]
      exact eventSet_raiseCounted_same (by decide)
    · rw [eventSet_iff, EvSet, evGet, raiseCounted_regs, bget_bput_wing (h := hw) (ho := ownReg_header _ (by decide)) (ho' := ownReg_header _ (by decide))]
      exact he
  · exact he

theorem fget_fadd_same (h : Head) (w : Wing) (f : Fld) (n bank inst : Nat) (hl : f.lo ≤ f.hi) (h32 : f.hi < 32) :
    fget (fadd h w f n bank inst) w f bank inst = min (fget h w f bank inst + n) (2 ^ (f.hi - f.lo + 1) - 1) := by
  refine bget_bput_same_of_lt _ _ _ _ _ _ _ _ _ hl h32 ?_
  have : 0 < 2 ^ (f.hi - f.lo + 1) := Nat.two_pow_pos _
  unfold satAdd
  omega

/-- A wing's page counts a tick slip (R42, R35). -/
def wingSlip (h : Head) (w : Wing) (n : Nat) : Head := slipEvent (fadd h w FRM_SLIP_TICK_COUNT) w n

theorem tickSlip_eq (h : Head) : ∃ n, tickSlip h =
    wingSlip (wingSlip { h with frm := { h.frm with slipsTick := slipWindow h h.frm.slipsTick } } .east n) .west n := ⟨_, rfl⟩

section WingSlip

variable (h : Head) (w w' : Wing) (n : Nat)

theorem wingSlip_frame : RegsBut h (wingSlip h w n) [(.frm, 0x010), (.frm, 0x060)] ∧ SameButRegs h (wingSlip h w n) := by
  obtain ⟨hkept, hsame⟩ := slipEvent_frame (fadd h w FRM_SLIP_TICK_COUNT) w n
  refine ⟨regsBut_trans (regsBut_fadd _ _ _ _ _ (by decide) (regsKept_refl _)) (regsBut_mono hkept (by decide)), ?_⟩
  exact sameButRegs_trans (g := fadd h w FRM_SLIP_TICK_COUNT) rfl hsame

theorem count_wingSlip : fget (wingSlip h w n) w FRM_SLIP_TICK_COUNT = min (fget h w FRM_SLIP_TICK_COUNT + 1) (2 ^ 24 - 1) :=
  (fget_of_regsBut (slipEvent_frame _ w n).1 w FRM_SLIP_TICK_COUNT (by decide) (by decide) 0 0).trans
    (fget_fadd_same _ _ _ _ _ _ (by decide) (by decide))

theorem count_wingSlip_other (hw : w' ≠ w) : fget (wingSlip h w n) w' FRM_SLIP_TICK_COUNT = fget h w' FRM_SLIP_TICK_COUNT :=
  (fget_of_regsBut (slipEvent_frame _ w n).1 w' FRM_SLIP_TICK_COUNT (by decide) (by decide) 0 0).trans
    (bget_bput_wing _ _ _ _ _ _ _ _ _ _ _ _ _ _ _ _ hw (by decide) (by decide))

theorem eventSet_wingSlip : EventSet (wingSlip h w n) w Ev.FRM_SLIP := eventSet_slipEvent _ _ _

theorem eventSet_wingSlip_keeps (he : EventSet h w' Ev.FRM_SLIP) : EventSet (wingSlip h w n) w' Ev.FRM_SLIP :=
  eventSet_slipEvent_keeps ((evSet_bput (ho := by decide) ..).mpr he)

end WingSlip

theorem tickSlip_counts (h : Head) :
    (∀ w, fget (tickSlip h) w FRM_SLIP_TICK_COUNT = min (fget h w FRM_SLIP_TICK_COUNT + 1) (2 ^ 24 - 1) ∧ EventSet (tickSlip h) w Ev.FRM_SLIP) ∧
      RegsBut h (tickSlip h) [(.frm, 0x010), (.frm, 0x060)] ∧
      tickSlip h = { h with
        regs := (tickSlip h).regs, evq := (tickSlip h).evq, frm := { h.frm with slipsTick := slipWindow h h.frm.slipsTick } } := by
  obtain ⟨n, hs⟩ := tickSlip_eq h
  have hall := sameButRegs_trans (wingSlip_frame { h with frm := { h.frm with slipsTick := slipWindow h h.frm.slipsTick } } .east n).2
    (wingSlip_frame _ .west n).2
  have hkept := regsBut_trans (wingSlip_frame { h with frm := { h.frm with slipsTick := slipWindow h h.frm.slipsTick } } .east n).1
    (wingSlip_frame _ .west n).1
  rw [← hs] at hall hkept
  refine ⟨fun w => ?_, hkept, hall⟩
  rw [hs]
  cases w with
  | east =>
    refine ⟨?_, eventSet_wingSlip_keeps _ _ _ _ (eventSet_wingSlip _ _ _)⟩
    rw [count_wingSlip_other _ _ _ _ (by decide), count_wingSlip]
    rfl
  | west =>
    refine ⟨?_, eventSet_wingSlip _ _ _⟩
    rw [count_wingSlip, count_wingSlip_other _ _ _ _ (by decide)]
    rfl

theorem tickSlip_addOffset_head (k : Head) (d : Int) : tickSlip (addOffset k d) = { k with
    regs := (tickSlip (addOffset k d)).regs, evq := (tickSlip (addOffset k d)).evq, frm := (tickSlip (addOffset k d)).frm } := by
  obtain ⟨_, _, hsame⟩ := tickSlip_counts (addOffset k d)
  have hoff : addOffset k d = { k with regs := (addOffset k d).regs } := rfl
  generalize addOffset k d = j at *
  rw [hsame, hoff]

/-- Whether or not the marker is flagged, its tracking leaves the registers as its notes do. -/
theorem markerTracked_frame (h : Head) (flagged next : Bool) (phase : Int) :
    (markerTracked h flagged next phase).regs = (markerNoted h flagged phase).regs ∧
      markerTracked h flagged next phase = { h with
        regs := (markerTracked h flagged next phase).regs, frm := (markerTracked h flagged next phase).frm } ∧
      (if next then (markerTracked h flagged next phase).frm.trimNext else (markerTracked h flagged next phase).frm.trimNow) =
        (if flagged then (if next then h.frm.trimNext else h.frm.trimNow) else limitTrim h phase) := by
  cases flagged <;> cases next <;> exact ⟨rfl, rfl, rfl⟩

/-- What a tick slip of a follower leaves (R42). -/
theorem slipped_counts (h : Head) (d : Int) (l : List (Block × Nat)) (k : Head) (hk : RegsBut h k l) :
    wireCount (tickSlip (addOffset k d)) = (frameCount k + ofSigned 16 ((fget k .east FRM_WIRE_WIRE_OFFSET : Nat) + d)) % 2 ^ 16 ∧
      fget (tickSlip (addOffset k d)) .east FRM_WIRE_WIRE_OFFSET = ofSigned 16 ((fget k .east FRM_WIRE_WIRE_OFFSET : Nat) + d) ∧
      RegsBut h (tickSlip (addOffset k d)) (l ++ [(.frm, 0x010), (.frm, 0x058), (.frm, 0x060)]) := by
  obtain ⟨_, hkept, _⟩ := tickSlip_counts (addOffset k d)
  refine ⟨(fget_of_regsBut hkept _ _ (by decide) (by decide) _ _).trans (wire_addOffset k d),
    (fget_of_regsBut hkept _ _ (by decide) (by decide) _ _).trans (offset_addOffset k d), ?_⟩
  refine regsBut_trans (regsBut_mono hk (List.subset_append_left ..)) (regsBut_mono (regsBut_trans (l := [(.frm, 0x010), (.frm, 0x058), (.frm, 0x060)])
    (regsBut_mono (regsBut_addOffset k d) (by decide)) (regsBut_mono hkept (by decide))) (List.subset_append_right ..))

theorem tickMarker_slips (s : State) (port : Wing) (payload : Word) (flagged : Bool) (arrival : Nat) (next : Bool) (phase : Int) (hrun : Runs s.dev)
    (hf : isFollower s.dev = true) (hp : usesPort s.dev port = true) (hl : lockState s.dev = 1) (hc : bitsOf payload 13 10 = 0)
    (hm : markerPlace s.dev port arrival = (next, phase)) (hd : (countDiff s.dev payload next).natAbs = 1)
    (hin : flagged = true ∨ 2 * phase.natAbs ≤ slotNs s.dev)
    (hw : wireCount s.dev = (frameCount s.dev + fget s.dev .east FRM_WIRE_WIRE_OFFSET) % 2 ^ 16) :
    Completes (.tickMarker port payload flagged arrival) s (fun h =>
      (wireCount h + ofBool next) % 2 ^ 16 = bitsOf payload 31 16 ∧
      wireCount h = (frameCount h + fget h .east FRM_WIRE_WIRE_OFFSET) % 2 ^ 16 ∧ frameCount h = frameCount s.dev ∧
      (∀ w, fget h w FRM_SLIP_TICK_COUNT = min (fget s.dev w FRM_SLIP_TICK_COUNT + 1) (2 ^ 24 - 1) ∧ EventSet h w Ev.FRM_SLIP ∧
        fget h w FRM_LOCK_MISSED = 0 ∧ fget h w FRM_LOCK_STATE = fget s.dev w FRM_LOCK_STATE) ∧
      (if next then h.frm.trimNext else h.frm.trimNow) =
        (if flagged then (if next then s.dev.frm.trimNext else s.dev.frm.trimNow) else limitTrim s.dev phase) ∧
      RegsBut s.dev h [(.frm, 0x010), (.frm, 0x048), (.frm, 0x058), (.frm, 0x060)] ∧
      h = { s.dev with regs := h.regs, evq := h.evq, frm := h.frm }) := by
  refine completes_lift (exec_tickMarker port payload flagged arrival) hrun ?_
  rw [tickMarker_locked s.dev payload flagged next phase port arrival hf hp hl hc hm, if_neg (by simp [hd, hin]), if_neg (by omega)]
  obtain ⟨hregs, hhead, htrim⟩ := markerTracked_frame s.dev flagged next phase
  have hnoted := (markerNoted_frame s.dev flagged phase).1
  generalize hk : markerTracked s.dev flagged next phase = k at *
  have hkept : RegsBut s.dev k [(.frm, 0x048)] := regsBut_congr hregs.symm hnoted
  obtain ⟨hwire, hoff, hall⟩ := slipped_counts s.dev (countDiff s.dev payload next) _ k hkept
  obtain ⟨hcount, hslip, hsame⟩ := tickSlip_counts (addOffset k (countDiff s.dev payload next))
  have hframe : frameCount (tickSlip (addOffset k (countDiff s.dev payload next))) = frameCount s.dev :=
    frameCount_congr hall (by decide) (by decide) .east
  have hframek : frameCount k = frameCount s.dev := frameCount_congr hkept (by decide) (by decide) .east
  have hoffk : fget k .east FRM_WIRE_WIRE_OFFSET = fget s.dev .east FRM_WIRE_WIRE_OFFSET := fget_of_regsBut hkept _ _ (by decide) (by decide) _ _
  have hlock (w : Wing) (f : Fld) (hf : f.block = .frm ∧ f.off = 0x048) : fget (tickSlip (addOffset k (countDiff s.dev payload next))) w f =
      fget (markerNoted s.dev flagged phase) w f := by
    obtain ⟨blk, off, hi, lo⟩ := f
    obtain ⟨rfl, rfl⟩ := hf
    refine (fget_of_regsBut hslip w ⟨.frm, 0x048, hi, lo⟩ (by simp) (by simp) 0 0).trans
      ((fget_of_regsBut (regsBut_addOffset k _) w ⟨.frm, 0x048, hi, lo⟩ (by simp) (by simp) 0 0).trans ?_)
    rw [fget_eq_bget, fget_eq_bget, hregs]
  refine ⟨?_, ?_, hframe, fun w => ⟨?_, (hcount w).2, (hlock w _ ⟨rfl, rfl⟩).trans (missed_markerNoted _ _ _ _),
    (hlock w _ ⟨rfl, rfl⟩).trans (lock_markerNoted _ _ _ _)⟩, ?_, regsBut_mono hall (by decide), ?_⟩
  · rw [hwire, hframek, hoffk]
    exact count_after_slip _ _ _ _ _ hw (bitsOf_lt payload 31 16) (ofBool_le_one next)
  · rw [hwire, hframe, hframek, hoff]
  · rw [(hcount w).1, fget_of_regsBut (regsBut_addOffset k _) w _ (by decide) (by decide), fget_of_regsBut hkept w _ (by decide) (by decide)]
  · rw [hsame]
    exact htrim
  · rw [tickSlip_addOffset_head, hhead]

/-! ### The timebase lost -/

/-- The head with the loss of its timebase counted, before its trims are dropped and its event is raised. -/
def lossCounted (h : Head) : Head :=
  fadd (fadd (frmBoth (frmBoth h FRM_LOCK_STATE 2) FRM_LOCK_RUN 0) .east FRM_SLIP_TICK_LOST) .west FRM_SLIP_TICK_LOST

theorem timebaseLost_eq (h : Head) : timebaseLost h =
    raiseBoth { lossCounted h with frm := { (lossCounted h).frm with trimNow := 0, trimNext := 0 } } Ev.FRM_TIMEBASE_LOST := rfl

theorem timebaseLost_regs (h : Head) (f : Fld) (hf : f.off % 4096 ≠ 0x010) (w : Wing) : fget (timebaseLost h) w f = fget (lossCounted h) w f := by
  rw [timebaseLost_eq, fget_raiseBoth_off _ _ _ _ _ _ hf, fget_eq_bget, fget_eq_bget]

theorem lossCounted_lock (h : Head) (w : Wing) :
    fget (lossCounted h) w FRM_LOCK_STATE = 2 ∧ fget (lossCounted h) w FRM_LOCK_RUN = 0 := by
  have hcounts (k : Head) (f : Fld) (hf : f.off % 4096 ≠ 0x060) :
      fget (fadd (fadd k .east FRM_SLIP_TICK_LOST) .west FRM_SLIP_TICK_LOST) w f = fget k w f :=
    (bget_bput_off (h := hf) ..).trans (bget_bput_off (h := hf) ..)
  unfold lossCounted
  refine ⟨?_, ?_⟩
  · rw [hcounts _ _ (by decide), fget_frmBoth_bits _ FRM_LOCK_RUN FRM_LOCK_STATE _ _ rfl rfl (by decide) (by decide) (by decide)
      (by decide) (by decide), fget_frmBoth _ _ _ _ (by decide) (by decide)]
    rfl
  · rw [hcounts _ _ (by decide), fget_frmBoth _ _ _ _ (by decide) (by decide)]
    rfl

theorem lossCounted_count (h : Head) (w : Wing) :
    fget (lossCounted h) w FRM_SLIP_TICK_LOST = min (fget h w FRM_SLIP_TICK_LOST + 1) 255 := by
  have hkept : RegsBut h (frmBoth (frmBoth h FRM_LOCK_STATE 2) FRM_LOCK_RUN 0) [(.frm, 0x048)] :=
    regsBut_frmBoth _ _ (by decide) (regsBut_frmBoth _ _ (by decide) (regsKept_refl _))
  rw [← fget_of_regsBut hkept w FRM_SLIP_TICK_LOST (by decide) (by decide) 0 0]
  unfold lossCounted
  generalize frmBoth (frmBoth h FRM_LOCK_STATE 2) FRM_LOCK_RUN 0 = k
  cases w with
  | east =>
    exact (bget_bput_wing _ _ _ _ _ _ _ _ _ _ _ _ _ _ _ _ (by decide) (by decide) (by decide)).trans
      (fget_fadd_same _ _ _ _ _ _ (by decide) (by decide))
  | west =>
    refine (fget_fadd_same _ _ _ _ _ _ (by decide) (by decide)).trans (congrArg (fun n => min (n + 1) 255) ?_)
    exact bget_bput_wing _ _ _ _ _ _ _ _ _ _ _ _ _ _ _ _ (by decide) (by decide) (by decide)

theorem timebaseLost_loses (h : Head) (w : Wing) :
    fget (timebaseLost h) w FRM_LOCK_STATE = 2 ∧ fget (timebaseLost h) w FRM_LOCK_RUN = 0 ∧ EventSet (timebaseLost h) w Ev.FRM_TIMEBASE_LOST ∧
      fget (timebaseLost h) w FRM_SLIP_TICK_LOST = min (fget h w FRM_SLIP_TICK_LOST + 1) 255 := by
  rw [timebaseLost_regs _ _ (by decide), timebaseLost_regs _ _ (by decide), timebaseLost_regs _ _ (by decide)]
  exact ⟨(lossCounted_lock h w).1, (lossCounted_lock h w).2, timebaseLost_eq h ▸ raiseBoth_sets _ _ (by decide) w, lossCounted_count h w⟩

theorem tickMarker_loses (s : State) (port : Wing) (payload : Word) (flagged : Bool) (arrival : Nat) (next : Bool) (phase : Int) (hrun : Runs s.dev)
    (hf : isFollower s.dev = true) (hp : usesPort s.dev port = true) (hl : lockState s.dev = 1) (hc : bitsOf payload 13 10 = 0)
    (hm : markerPlace s.dev port arrival = (next, phase))
    (hout : 2 ≤ (countDiff s.dev payload next).natAbs ∨ (flagged = false ∧ slotNs s.dev < 2 * phase.natAbs)) :
    Completes (.tickMarker port payload flagged arrival) s (fun h =>
      ∀ w, fget h w FRM_LOCK_STATE = 2 ∧ fget h w FRM_LOCK_RUN = 0 ∧ EventSet h w Ev.FRM_TIMEBASE_LOST ∧
        fget h w FRM_SLIP_TICK_LOST = min (fget s.dev w FRM_SLIP_TICK_LOST + 1) 255) := by
  refine completes_lift (exec_tickMarker port payload flagged arrival) hrun fun w => ?_
  have hlost : 2 ≤ (countDiff s.dev payload next).natAbs ∨ ¬ (flagged = true ∨ 2 * phase.natAbs ≤ slotNs s.dev) :=
    hout.imp_right fun ⟨hflag, hphase⟩ => by simp [hflag, hphase]
  rw [tickMarker_locked s.dev payload flagged next phase port arrival hf hp hl hc hm, if_pos hlost]
  obtain ⟨hstate, hr, hev, hcount⟩ := timebaseLost_loses (markerNoted s.dev flagged phase) w
  refine ⟨hstate, hr, hev, hcount.trans ?_⟩
  rw [fget_of_regsBut (markerNoted_frame s.dev flagged phase).1 _ _ (by decide) (by decide)]

theorem tickMarker_unused (s : State) (port : Wing) (payload : Word) (flagged : Bool) (arrival : Nat) (hrun : Runs s.dev)
    (hno : isFollower s.dev = false ∨ usesPort s.dev port = false) :
    Completes (.tickMarker port payload flagged arrival) s (fun h => h = s.dev) :=
  completes_lift (exec_tickMarker port payload flagged arrival) hrun (if_pos hno)

/-! ### Missed ticks -/

theorem missedTick_counts (s : State) (hrun : Runs s.dev) (hf : isFollower s.dev = true) (hn : fget s.dev .east FRM_LOCK_MISSED < 7) :
    Completes .missedTick s (fun h =>
      (∀ w, fget h w FRM_LOCK_MISSED = fget s.dev .east FRM_LOCK_MISSED + 1) ∧ RegsBut s.dev h [(.frm, 0x048)] ∧ SameButRegs s.dev h) := by
  refine completes_lift exec_missedTick hrun ?_
  have heq : missedTick s.dev = frmBoth s.dev FRM_LOCK_MISSED (fget s.dev .east FRM_LOCK_MISSED + 1) := by
    unfold missedTick
    rw [if_neg (by simp [hf]), show min (fget s.dev .east FRM_LOCK_MISSED + 1) 15 = fget s.dev .east FRM_LOCK_MISSED + 1 by omega]
    exact if_neg (by omega)
  rw [heq]
  exact ⟨fun w => (fget_frmBoth _ _ _ _ (by decide) (by decide)).trans (Nat.mod_eq_of_lt (by simp [FRM_LOCK_MISSED] at *; omega)),
    regsBut_frmBoth _ _ (by decide) (regsKept_refl _), rfl⟩

theorem missedTick_eighth (s : State) (hrun : Runs s.dev) (hf : isFollower s.dev = true) (hn : fget s.dev .east FRM_LOCK_MISSED = 7)
    (hl : lockState s.dev = 1) :
    Completes .missedTick s (fun h =>
      (∀ w, fget h w FRM_LOCK_STATE = 2 ∧ EventSet h w Ev.FRM_TIMEBASE_LOST) ∧ h.frm.trimNow = 0 ∧ h.frm.trimNext = 0) := by
  refine completes_lift exec_missedTick hrun ?_
  have hlock : lockState (frmBoth s.dev FRM_LOCK_MISSED 8) = 1 := (fget_frmBoth_bits _ FRM_LOCK_MISSED FRM_LOCK_STATE _ _ rfl rfl (by decide) (by decide) (by decide)
    (by decide) (by decide)).trans hl
  have heq : missedTick s.dev = timebaseLost (frmBoth s.dev FRM_LOCK_MISSED 8) := by
    unfold missedTick
    rw [if_neg (by simp [hf]), hn]
    exact if_pos ⟨by decide, hlock⟩
  rw [heq]
  refine ⟨fun w => ?_, ?_, ?_⟩
  · obtain ⟨hstate, _, hev, _⟩ := timebaseLost_loses (frmBoth s.dev FRM_LOCK_MISSED 8) w
    exact ⟨hstate, hev⟩
  · rw [timebaseLost_eq, raiseBoth_frm]
  · rw [timebaseLost_eq, raiseBoth_frm]

/-! ### PTP offsets and the counters -/

theorem updatePtpLock_regs (h : Head) : RegsBut h (updatePtpLock h) [(.frm, 0x010), (.frm, 0x074)] ∧
    fget (updatePtpLock h) .east FRM_PTP_CTRL_PTP_LOCKED = ofBool (ptpLockedNow h) ∧ (updatePtpLock h).frm = h.frm := by
  have hset : fget (fset h .east FRM_PTP_CTRL_PTP_LOCKED (ofBool (ptpLockedNow h))) .east FRM_PTP_CTRL_PTP_LOCKED = ofBool (ptpLockedNow h) :=
    bget_bput_same_of_lt _ _ _ _ _ _ _ _ _ (by decide) (by decide) (Nat.lt_of_le_of_lt (ofBool_le_one _) (by decide))
  have hkept : RegsBut h (fset h .east FRM_PTP_CTRL_PTP_LOCKED (ofBool (ptpLockedNow h))) [(.frm, 0x010), (.frm, 0x074)] :=
    (regsKept_bput _ _ _ _ _ _ _ _ (by decide)).mpr (regsKept_refl _)
  unfold updatePtpLock
  dsimp only
  split
  · exact ⟨regsBut_raiseBoth hkept (by decide), (fget_raiseBoth_off _ _ _ _ _ _ (by decide)).trans hset, raiseBoth_frm _ _⟩
  · exact ⟨hkept, hset, rfl⟩

theorem ptpOffsetWrite_takes (s : State) (ini : Initiator) (v : Word) (hrun : Runs s.dev) (hw : Writable s.dev ini (pg .frm .east) 0x070) :
    Completes (.ptpOffsetWrite ini v) s (fun h =>
      fget h .east FRM_PTP_OFFSET_OFFSET = v.toNat ∧ h.frm.slewLeft = 1000 * toSigned 32 v.toNat ∧ h.frm.slewNow = 0 ∧
        fget h .east FRM_PTP_CTRL_PTP_LOCKED = ofBool (fbit s.dev .east FRM_CTRL_PTP_EN &&
          decide ((toSigned 32 v.toNat).natAbs < fget s.dev .east FRM_PTP_CTRL_LOCK_WINDOW)) ∧
        RegsBut s.dev h [(.frm, 0x010), (.frm, 0x070), (.frm, 0x074)]) := by
  refine completes_lift (exec_ptpOffsetWrite ini v) hrun ?_
  have hrw := withWrite_ok s.dev ini (pg .frm .east) 0x070 (fun h => takeOffset (fset h .east FRM_PTP_OFFSET_OFFSET v.toNat) v) hw
  have hset : fget (fset s.dev .east FRM_PTP_OFFSET_OFFSET v.toNat) .east FRM_PTP_OFFSET_OFFSET = v.toNat :=
    bget_bput_same_of_lt _ _ _ _ _ _ _ _ _ (by decide) (by decide) v.isLt
  have hkept : RegsBut s.dev (fset s.dev .east FRM_PTP_OFFSET_OFFSET v.toNat) [(.frm, 0x070)] :=
    (regsKept_bput _ _ _ _ _ _ _ _ (by decide)).mpr (regsKept_refl _)
  rw [ptpOffsetWrite, hrw]
  generalize hk : (reply s.dev false : Head) = g
  have hregs : g.regs = s.dev.regs := by rw [← hk]; rfl
  have htaken : takeOffset (fset g .east FRM_PTP_OFFSET_OFFSET v.toNat) v = updatePtpLock { fset g .east FRM_PTP_OFFSET_OFFSET v.toNat with
    frm := { g.frm with slewLeft := 1000 * toSigned 32 v.toNat, slewNow := 0 } } := rfl
  rw [htaken]
  generalize hj : ({ fset g .east FRM_PTP_OFFSET_OFFSET v.toNat with
    frm := { g.frm with slewLeft := 1000 * toSigned 32 v.toNat, slewNow := 0 } } : Head) = j
  have hjregs : j.regs = (fset s.dev .east FRM_PTP_OFFSET_OFFSET v.toNat).regs := by
    rw [← hj]
    exact congrArg (fun t => bput t .frm .east 0 0x070 31 0 0 v.toNat) hregs
  have hjread (w : Wing) (f : Fld) : fget j w f = fget (fset s.dev .east FRM_PTP_OFFSET_OFFSET v.toNat) w f := by
    rw [fget_eq_bget, fget_eq_bget, hjregs]
  have hjkept : RegsBut s.dev j [(.frm, 0x070)] := regsBut_congr hjregs.symm hkept
  obtain ⟨hupd, hlocked, hfrm⟩ := updatePtpLock_regs j
  refine ⟨?_, ?_, ?_, ?_, regsBut_trans (regsBut_mono hjkept (by decide)) (regsBut_mono hupd (by decide))⟩
  · rw [fget_of_regsBut hupd _ _ (by decide) (by decide), hjread, hset]
  · rw [hfrm, ← hj]
  · rw [hfrm, ← hj]
  · rw [hlocked]
    unfold ptpLockedNow fbit
    rw [hjread _ FRM_PTP_OFFSET_OFFSET, hset, fget_of_regsBut hjkept _ FRM_CTRL_PTP_EN (by decide) (by decide),
      fget_of_regsBut hjkept _ FRM_PTP_CTRL_LOCK_WINDOW (by decide) (by decide)]

theorem clrCounts_clears (s : State) (ini : Initiator) (w : Wing) (hrun : Runs s.dev) (hw : Writable s.dev ini (pg .frm w) 0x040) :
    Completes (.clrCounts ini w) s (fun h =>
      fget h w FRM_SLIP_TICK_COUNT = 0 ∧ fget h w FRM_SLIP_TICK_LOST = 0 ∧ fget h w FRM_SLIP_BUILD_COUNT = 0 ∧
        fget h w FRM_SLIP_WORK_COUNT = 0 ∧ RegsBut s.dev h [(.frm, 0x060), (.frm, 0x064), (.frm, 0x068)] ∧
        SameButRegs (reply s.dev false) h) := by
  refine completes_lift (exec_clrCounts ini w) hrun ?_
  rw [clrCounts, withWrite_ok _ _ _ _ _ hw]
  refine ⟨?_, ?_, ?_, ?_, ?_, rfl⟩
  · simp (disch := decide) only [fget_eq_bget, fset_regs, bget_bput_off, bget_bput_bits, bget_bput_same]
    rfl
  · simp (disch := decide) only [fget_eq_bget, fset_regs, bget_bput_off, bget_bput_same]
    rfl
  · simp (disch := decide) only [fget_eq_bget, fset_regs, bget_bput_off, bget_bput_same]
    rfl
  · simp (disch := decide) only [fget_eq_bget, fset_regs, bget_bput_same]
    rfl
  · rw [regsBut_iff]
    simp (disch := decide) only [fset_regs, regsKept_bput, reply_regs, regsKept_refl]

/-- Settles O17, clause by clause. -/
theorem followerTracksMarkers : Obligations.FollowerTracksMarkers :=
  ⟨tickMarker_tracks, tickMarker_slips, tickMarker_loses, tickMarker_unused, missedTick_counts, missedTick_eighth, ptpOffsetWrite_takes,
    clrCounts_clears⟩

end Sys2Proof.Laws
end

section
/-! Register accesses: SCRATCH, the halves of a pair, and the accesses that a gate stops (R6, R7, R52), and O11. -/

namespace Sys2Proof.Laws

open Machine Machine.Reg

/-! ### SCRATCH -/

/-- The row of SCRATCH in the header's table. -/
def scratchRow : RegDef := ⟨0x038, [⟨31, 0, .rw, 0, .any⟩], .own, none, .single⟩

theorem regDef_scratch (b : Block) : regDef? b 0x038 = some scratchRow := rfl

theorem putBits_full (w v : Word) : putBits w 31 0 (bitsOf v 31 0) = v := by
  refine BitVec.eq_of_getLsbD_eq fun i hi => ?_
  rw [getLsbD_putBits _ _ _ _ _ (by decide) hi, if_pos ⟨Nat.zero_le _, by omega⟩, testBit_bitsOf]
  simp [hi]

theorem writeFields_scratch (rst cur v : Word) :
    writeFields { scratchRow with fields := scratchRow.fields.map (fun f => { f with reset := bitsOf rst f.hi f.lo }) } cur v false =
      ⟨v, 0, 0, []⟩ := congrArg (fun u => (⟨u, 0, 0, []⟩ : Written)) (putBits_full cur v)

theorem writeReg_scratch (h : Head) (src : Nat) (p : Page) (v : Word) : writeReg h src p 0x038 v false = wr h p 0x038 0 v := by
  have hput : putReg h src p scratchRow 0 v false = wr h p 0x038 0 v := by
    unfold putReg
    rw [if_neg (by simp [scratchRow])]
    dsimp only
    simp only [writeFields_scratch]
    rfl
  exact hput

theorem registerWrite_scratch (s : State) (ini : Initiator) (p : Page) (v : Word) (hrun : Runs s.dev) (hw : Writable s.dev ini p 0x038) :
    Completes (.registerWrite ini (pageAddr p + 0x038) v) s (fun h =>
      rd h p 0x038 0 = v ∧ h.bus.error = false ∧ RegsBut s.dev h [(p.block, 0x038)] ∧ SameButRegs (reply s.dev false) h) := by
  refine completes_lift (exec_registerWrite ini _ v) hrun ?_
  rw [registerWrite, writeAccess_ok _ _ _ _ _ hw, if_pos (by decide)]
  change (fun h => rd h p 0x038 0 = v ∧ h.bus.error = false ∧ RegsBut s.dev h [(p.block, 0x038)] ∧ SameButRegs (reply s.dev false) h)
    (writeReg (reply s.dev false) (sourceCode ini) p 0x038 v false)
  rw [writeReg_scratch]
  refine ⟨rd_wr_same _ _ _ _ _, rfl, ?_, rfl⟩
  rw [regsBut_iff, wr_regs, regsKept_wput _ _ _ _ _ _ (by simp)]
  exact regsKept_refl _

/-! ### The halves of a pair -/

theorem not_hi {b : Block} {off : Nat} {r : RegDef} (hb : (regDef? b off).all (fun r => decide (r.half ≠ .hi)) = true)
    (hr : regDef? b off = some r) (hh : r.half = .hi) : False := by
  rw [hr] at hb
  exact of_decide_eq_true hb hh

/-- The rows of a table that are HI halves, with no operation of their own and no encoding that another register decides. -/
theorem hi_has_no_effect (h : Head) (ini : Initiator) (p : Page) (off bank : Nat) (r : RegDef) (v : Word) (hr : regDef? p.block off = some r)
    (hh : r.half = .hi) : ownWrite h ini p off v = none ∧ cleanWord h p off bank v = (v, []) := by
  obtain ⟨b, w, i⟩ := p
  constructor
  · unfold ownWrite
    dsimp only at *
    split
    case h_13 => rfl
    all_goals exact (not_hi (by decide) hr hh).elim
  · unfold cleanWord
    dsimp only at *
    split
    case h_13 => rfl
    all_goals exact (not_hi (by decide) hr hh).elim

theorem ignoredWhole_reply (h : Head) (p : Page) (off bank : Nat) (v : Word) :
    ignoredWhole (reply h false) p off bank v = ignoredWhole h p off bank v := rfl

theorem readView_reply (h : Head) (p : Page) (off : Nat) :
    readView (reply h false) p off = readView h p off := rfl

theorem pageWrite_hi (h : Head) (ini : Initiator) (p : Page) (off : Nat) (r : RegDef) (v : Word) (hr : regDef? p.block off = some r)
    (hh : r.half = .hi) (hi : ignoredWhole h p off (bankOf h p r) v = false) :
    pageWrite h ini p off v = { h with hiHold := tabPut h.hiHold (regKey p off 0) v } := by
  obtain ⟨hown, hclean⟩ := hi_has_no_effect h ini p off (bankOf h p r) r v hr hh
  have hheld (src : Nat) (may : Bool) : writeReg h src p off v may = { h with hiHold := tabPut h.hiHold (regKey p off 0) v } := by
    unfold writeReg
    rw [hr]
    dsimp only
    rw [hh]
  unfold pageWrite
  rw [hr]
  dsimp only
  rw [if_neg (by rw [hi]; decide), hown, hclean]
  dsimp only
  rw [if_pos hh, hheld]
  split <;> rfl

theorem pairHiWrite_holds (s : State) (ini : Initiator) (p : Page) (off : Nat) (r : RegDef) (v : Word) (hrun : Runs s.dev)
    (hw : Writable s.dev ini p off) (hoff : 0x40 ≤ off) (hr : regDef? p.block off = some r) (hh : r.half = .hi)
    (hi : ignoredWhole s.dev p off (bankOf s.dev p r) v = false) :
    Completes (.pairHiWrite ini (pageAddr p + off) v) s (fun h =>
      tabGet? h.hiHold (regKey p off 0) = some v ∧ h.bus.error = false ∧
        h = { reply s.dev false with hiHold := tabPut s.dev.hiHold (regKey p off 0) v }) := by
  refine completes_lift (exec_pairHiWrite ini _ v) hrun ?_
  rw [pairHiWrite, writeAccess_ok _ _ _ _ _ hw, if_neg (by omega), pageWrite_hi (reply s.dev false) ini p off r v hr hh hi]
  exact ⟨tabGet?_tabPut_same _ _ _, rfl, rfl⟩

theorem gateAccess_read (h : Head) (ini : Initiator) (p : Page) (off : Nat) (hp : pageOk p = true) (ho : off < 4096) (hal : off % 4 = 0)
    (hf : isDocent p.block = true → ini = .docent) :
    gateAccess h ini (pageAddr p + off) 4 false = .pass (if isDocent p.block then .docent else .array) p off (reply h false) := by
  have hal : (pageAddr p + off) % 4 = 0 := by
    unfold pageAddr
    simp only [Nat.shiftLeft_eq]
    split <;> omega
  unfold gateAccess
  rw [decodeAddr_pageAddr p off hp ho]
  cases hd : isDocent p.block
  · simp [hal]
  · simp [hal, hf hd]

theorem readRegister_lo (h : Head) (p : Page) (off : Nat) (r : RegDef) (hr : regDef? p.block off = some r) (hh : r.half = .lo) :
    readRegister h false p off =
      reply { h with hiLatch := tabPut h.hiLatch (regKey p (off + 4) 0) (readView h p (off + 4)) } false (readView h p off) := by
  unfold readRegister
  rw [hr]
  dsimp only
  rw [hh]
  rfl

theorem pairLoRead_latches (s : State) (ini : Initiator) (p : Page) (off : Nat) (r : RegDef) (hrun : Runs s.dev) (hp : pageOk p = true)
    (ho : off < 4096) (hal : off % 4 = 0) (hf : isDocent p.block = true → ini = .docent) (hr : regDef? p.block off = some r)
    (hh : r.half = .lo) :
    Completes (.pairLoRead ini (pageAddr p + off)) s (fun h =>
      h.bus = ⟨false, readView s.dev p off⟩ ∧ tabGet? h.hiLatch (regKey p (off + 4) 0) = some (readView s.dev p (off + 4)) ∧
        h.regs = s.dev.regs ∧ h = { s.dev with bus := h.bus, hiLatch := h.hiLatch }) := by
  refine completes_lift (exec_pairLoRead ini _) hrun ?_
  have hmirror : decide ((if isDocent p.block then Window.docent else Window.array) = .mirror) = false := by
    cases isDocent p.block <;> rfl
  rw [readAccess, gateAccess_read _ _ _ _ hp ho hal hf]
  dsimp only
  rw [hmirror, readRegister_lo _ _ _ r hr hh, readView_reply, readView_reply]
  exact ⟨rfl, tabGet?_tabPut_same _ _ _, rfl, rfl⟩

/-! ### Accesses that a gate stops -/

theorem gateAccess_partial (h : Head) (ini : Initiator) (p : Page) (off size : Nat) (write : Bool) (hp : pageOk p = true) (ho : off < 4096)
    (hf : isDocent p.block = true → ini = .docent) (hbad : size ≠ 4 ∨ off % 4 ≠ 0) :
    gateAccess h ini (pageAddr p + off) size write =
      .stop (reply (capture h p ⟨1, sourceCode ini, write, pageAddr p + off⟩) true) := by
  have hal : (pageAddr p + off) % 4 ≠ 0 ∨ size ≠ 4 := by
    refine hbad.symm.imp_left fun hoff => ?_
    unfold pageAddr
    simp only [Nat.shiftLeft_eq]
    split <;> omega
  unfold gateAccess
  rw [decodeAddr_pageAddr p off hp ho]
  dsimp only
  cases hd : isDocent p.block with
  | false => rw [if_neg (by simp), if_neg (by simp), if_neg (by simp), if_pos hal]; rfl
  | true => rw [if_neg (by simp [hf hd]), if_neg (by simp), if_neg (by simp), if_pos hal]; rfl

theorem partialAccess_recorded (s : State) (ini : Initiator) (p : Page) (off size : Nat) (write : Bool) (hrun : Runs s.dev)
    (hp : pageOk p = true) (ho : off < 4096) (hf : isDocent p.block = true → ini = .docent) (hsrc : sourceCode ini < 256)
    (hbad : size ≠ 4 ∨ off % 4 ≠ 0) :
    Completes (.partialAccess ini (pageAddr p + off) size write) s (fun h =>
      h.bus.error = true ∧ (hget s.dev p ERR_INFO_VALID = 0 → Captured h p 1 (sourceCode ini) write (pageAddr p + off)) ∧
        RegsBut s.dev h [(p.block, 0x020), (p.block, 0x024), (p.block, 0x028)] ∧ SameButRegs (reply s.dev true) h) := by
  refine completes_lift (exec_partialAccess ini _ size write) hrun ?_
  rw [stoppedAccess, gateAccess_partial _ _ _ _ _ _ hp ho hf hbad]
  dsimp only
  refine ⟨rfl, fun hv => captured_congr (h := capture s.dev p ⟨1, sourceCode ini, write, pageAddr p + off⟩) (fun _ _ => rfl)
    (captured_capture s.dev p 1 (sourceCode ini) write (pageAddr p + off) hv (by decide) hsrc), ?_, ?_⟩
  · rw [regsBut_iff, reply_regs, capture_regs, regsKept_errPut _ _ (by simp) (by simp) (by simp)]
    exact regsKept_refl _
  · have hsame : SameButRegs s.dev (capture s.dev p ⟨1, sourceCode ini, write, pageAddr p + off⟩) := sameButRegs_capture rfl
    exact congrArg (reply · true) hsame

/-- The fields of a refused access, in CHP_BUS_ERR of a wing whose register held none (R52, R81). -/
theorem busErr_first (h : Head) (w : Wing) (firewall : Bool) (ini : Initiator) (write : Bool) (addr : Nat)
    (hv : fget h w CHP_BUS_ERR_INFO_VALID = 0) :
    fget (busErr h w firewall ini write addr) w CHP_BUS_ERR_INFO_CODE = (if firewall then 10 else 9) ∧
      fget (busErr h w firewall ini write addr) w CHP_BUS_ERR_INFO_VALID = 1 ∧
      fget (busErr h w firewall ini write addr) w CHP_BUS_ERR_INFO_COUNT = 1 ∧
      fget (busErr h w firewall ini write addr) w CHP_BUS_ERR_INFO_WRITE = ofBool write ∧
      fget (busErr h w firewall ini write addr) w CHP_BUS_ERR_ADDR_LO_ADDR = addr % 2 ^ 32 := by
  have hne : ¬ fget h w CHP_BUS_ERR_INFO_VALID = 1 := by omega
  have hb := ofBool_le_one write
  unfold busErr
  dsimp only
  rw [if_neg hne]
  simp (disch := decide) only [fget_eq_bget, reply_regs, raise_regs, bget_evPut_off, pset_regs, fset_regs, bget_bput_off, bget_bput_bits,
    bget_bput_same]
  refine ⟨?_, rfl, rfl, Nat.mod_eq_of_lt ?_, rfl⟩
  · cases firewall <;> rfl
  · exact Nat.lt_of_le_of_lt hb (by decide)

theorem regsBut_busErr (h : Head) (w : Wing) (firewall : Bool) (ini : Initiator) (write : Bool) (addr : Nat) :
    RegsBut h (busErr h w firewall ini write addr) [(.chp, 0x010), (.chp, 0x05C), (.chp, 0x060), (.chp, 0x064)] := by
  unfold busErr
  dsimp only
  rw [regsBut_iff, reply_regs, raise_regs, regsKept_evPut_at _ (by cases firewall <;> decide)]
  split
  · simp (disch := decide) only [fadd_regs, regsKept_bput, regsKept_refl]
  · simp (disch := decide) only [pset_regs, fset_regs, regsKept_bput, regsKept_refl]

theorem busErr_event (h : Head) (w : Wing) (firewall : Bool) (ini : Initiator) (write : Bool) (addr : Nat) :
    EventSet (busErr h w firewall ini write addr) w (if firewall then Ev.CHP_FIREWALL else Ev.CHP_BUS_ERROR) :=
  raiseAt_sets _ _ _ (by cases firewall <;> decide)

theorem undecodedAccess_recorded (s : State) (ini : Initiator) (addr : Nat) (w : Wing) (write : Bool) (hrun : Runs s.dev)
    (hd : decodeAddr addr = .hole .array w) :
    Completes (.undecodedAccess ini addr write) s (fun h =>
      h.bus.error = true ∧ EventSet h w Ev.CHP_BUS_ERROR ∧
        (fget s.dev w CHP_BUS_ERR_INFO_VALID = 0 → fget h w CHP_BUS_ERR_INFO_CODE = 9 ∧ fget h w CHP_BUS_ERR_INFO_VALID = 1 ∧
          fget h w CHP_BUS_ERR_INFO_COUNT = 1 ∧ fget h w CHP_BUS_ERR_INFO_WRITE = ofBool write ∧
          fget h w CHP_BUS_ERR_ADDR_LO_ADDR = addr % 2 ^ 32) ∧
        RegsBut s.dev h [(.chp, 0x010), (.chp, 0x05C), (.chp, 0x060), (.chp, 0x064)]) := by
  refine completes_lift (exec_undecodedAccess ini addr write) hrun ?_
  have hstop : stoppedAccess s.dev ini addr 4 write = busErr s.dev w false ini write addr := by
    unfold stoppedAccess gateAccess
    rw [hd]
  rw [hstop]
  exact ⟨rfl, busErr_event s.dev w false ini write addr, busErr_first s.dev w false ini write addr, regsBut_busErr _ _ _ _ _ _⟩

theorem firewallAccess_recorded (s : State) (ini : Initiator) (p : Page) (off : Nat) (write : Bool) (hrun : Runs s.dev) (hp : pageOk p = true)
    (ho : off < 4096) (hd : isDocent p.block = true) (hini : ini ≠ .docent) :
    Completes (.firewallAccess ini (pageAddr p + off) write) s (fun h =>
      h.bus.error = true ∧ EventSet h .east Ev.CHP_FIREWALL ∧
        (fget s.dev .east CHP_BUS_ERR_INFO_VALID = 0 → fget h .east CHP_BUS_ERR_INFO_CODE = 10 ∧
          fget h .east CHP_BUS_ERR_INFO_VALID = 1 ∧ fget h .east CHP_BUS_ERR_INFO_COUNT = 1) ∧
        RegsBut s.dev h [(.chp, 0x010), (.chp, 0x05C), (.chp, 0x060), (.chp, 0x064)]) := by
  refine completes_lift (exec_firewallAccess ini _ write) hrun ?_
  have hstop : stoppedAccess s.dev ini (pageAddr p + off) 4 write = busErr s.dev .east true ini write (pageAddr p + off) := by
    unfold stoppedAccess gateAccess
    rw [decodeAddr_pageAddr p off hp ho]
    dsimp only
    rw [if_pos hd, if_pos ⟨rfl, hini⟩]
  rw [hstop]
  refine ⟨rfl, busErr_event s.dev .east true ini write _, fun hv => ?_, regsBut_busErr _ _ _ _ _ _⟩
  obtain ⟨hcode, hvalid, hcount, _, _⟩ := busErr_first s.dev .east true ini write (pageAddr p + off) hv
  exact ⟨hcode, hvalid, hcount⟩

/-- Settles O11, clause by clause. -/
theorem registerAccessesReachOrAreRecorded : Obligations.RegisterAccessesReachOrAreRecorded :=
  ⟨registerWrite_scratch, pairHiWrite_holds, pairLoRead_latches, partialAccess_recorded, undecodedAccess_recorded, firewallAccess_recorded⟩

end Sys2Proof.Laws
end

section
/-! Foyer ports: links, pauses and notifications (R82 to R85), and O18. -/

namespace Sys2Proof.Laws

open Machine Machine.Reg

/-! ### Bits of a field -/

theorem testBit_sub_two_pow (v k : Nat) (hv : v.testBit k = true) : (v - 1 <<< k).testBit k = false := by
  rw [Nat.one_shiftLeft]
  obtain ⟨d, rfl⟩ := Nat.exists_eq_add_of_le (Nat.ge_two_pow_of_testBit hv)
  rw [Nat.testBit_two_pow_add_eq] at hv
  rw [Nat.add_sub_cancel_left]
  exact Bool.not_eq_true' _ ▸ hv

/-- The value that a bit set or cleared leaves. -/
def bitPut (v k : Nat) (on : Bool) : Nat := if on then v ||| 1 <<< k else if v.testBit k then v - 1 <<< k else v

theorem testBit_bitPut (v k : Nat) (on : Bool) : (bitPut v k on).testBit k = on := by
  unfold bitPut
  cases on with
  | true =>
    rw [if_pos rfl, Nat.testBit_or, Nat.one_shiftLeft, Nat.testBit_two_pow_self, Bool.or_true]
  | false =>
    rw [if_neg (by decide)]
    split
    · exact testBit_sub_two_pow _ _ ‹_›
    · exact Bool.not_eq_true _ ▸ ‹¬ _›

@[simp] theorem fsetBit_regs (h : Head) (w : Wing) (f : Fld) (k : Nat) (on : Bool) (inst : Nat) : (fsetBit h w f k on inst).regs =
    bput h.regs f.block w inst f.off f.hi f.lo 0 (bitPut (bget h.regs f.block w inst f.off f.hi f.lo 0) k on) := rfl

/-- A bit of a field after it is set or cleared. -/
theorem testBit_bget_bitPut (t : Tab Word) (blk : Block) (w : Wing) (inst off hi lo n k : Nat) (on : Bool) (hl : lo ≤ hi) (h32 : hi < 32)
    (hk : k < hi - lo + 1) : (bget (bput t blk w inst off hi lo 0 (bitPut n k on)) blk w inst off hi lo 0).testBit k = on := by
  rw [bget_bput_same _ _ _ _ _ _ _ _ _ hl h32, Nat.testBit_mod_two_pow, decide_eq_true hk, Bool.true_and, testBit_bitPut]

theorem linkCount_le (h : Head) (w : Wing) (port : Nat) : linkCount h w port ≤ 4 := by
  unfold linkCount
  split <;> omega

/-- A one-bit field as a test. -/
theorem fbit_iff (h : Head) (w : Wing) (f : Fld) (bank inst : Nat) (hf : f.hi = f.lo) : fbit h w f bank inst = true ↔ fget h w f bank inst = 1 := by
  have hlt : fget h w f bank inst < 2 ^ (f.hi - f.lo + 1) := bget_lt ..
  rw [hf, Nat.sub_self] at hlt
  unfold fbit
  rw [bne_iff_ne]
  omega

/-! ### Links -/

theorem foyLinkChange_up (s : State) (w : Wing) (port link : Nat) (hrun : Runs s.dev) (hl : link < linkCount s.dev w port)
    (hr : hget s.dev (pg .foy w port) RUNG_CURRENT ≠ 4) (hen : (fget s.dev w FOY_PORT_MODE_LINK_EN 0 port).testBit link = true) :
    Completes (.foyLinkChange w port link true) s (fun h =>
      (fget h w FOY_LINK_STATUS_UP 0 port).testBit link = true ∧ (fget h w FOY_LINK_STATUS_TRAINING 0 port).testBit link = false ∧
        EventSet h w Ev.FOY_LINK_CHANGE port ∧ RegsBut s.dev h [(.foy, 0x010), (.foy, 0x044)] ∧ SameButRegs s.dev h) := by
  refine completes_lift (exec_foyLinkChange w port link true) hrun ?_
  have hle := linkCount_le s.dev w port
  rw [foyLinkChange, if_neg (by omega), if_neg (by rw [hen]; decide)]
  refine ⟨?_, ?_, raiseAt_sets _ _ _ (by decide), ?_, sameButRegs_raise rfl⟩
  · simp (disch := decide) only [if_true, fget_eq_bget, raise_regs, bget_evPut_off, fsetBit_regs, bget_bput_bits]
    exact testBit_bget_bitPut _ _ _ _ _ _ _ _ _ _ (by decide) (by decide) (by simp [FOY_LINK_STATUS_UP]; omega)
  · simp (disch := decide) only [if_true, fget_eq_bget, raise_regs, bget_evPut_off, fsetBit_regs]
    exact testBit_bget_bitPut _ _ _ _ _ _ _ _ _ _ (by decide) (by decide) (by simp [FOY_LINK_STATUS_TRAINING]; omega)
  · rw [regsBut_iff]
    simp (disch := decide) only [if_true, raise_regs, regsKept_evPut_at, fsetBit_regs, regsKept_bput, regsKept_refl]

theorem foyLinkChange_down (s : State) (w : Wing) (port link : Nat) (hrun : Runs s.dev) (hl : link < linkCount s.dev w port)
    (hr : hget s.dev (pg .foy w port) RUNG_CURRENT ≠ 4) :
    Completes (.foyLinkChange w port link false) s (fun h =>
      (fget h w FOY_LINK_STATUS_UP 0 port).testBit link = false ∧ EventSet h w Ev.FOY_LINK_CHANGE port ∧
        RegsBut s.dev h [(.foy, 0x010), (.foy, 0x044)] ∧ SameButRegs s.dev h) := by
  refine completes_lift (exec_foyLinkChange w port link false) hrun ?_
  have hle := linkCount_le s.dev w port
  rw [foyLinkChange, if_neg (by omega), if_neg (by rw [Bool.false_and]; decide)]
  refine ⟨?_, raiseAt_sets _ _ _ (by decide), ?_, sameButRegs_raise rfl⟩
  · simp (disch := decide) only [Bool.false_eq_true, if_false, fget_eq_bget, raise_regs, bget_evPut_off, fsetBit_regs, bget_bput_bits]
    exact testBit_bget_bitPut _ _ _ _ _ _ _ _ _ _ (by decide) (by decide) (by simp [FOY_LINK_STATUS_UP]; omega)
  · rw [regsBut_iff]
    simp (disch := decide) only [Bool.false_eq_true, if_false, raise_regs, regsKept_evPut_at, fsetBit_regs, regsKept_bput, regsKept_refl]

theorem fecDegraded_marks (s : State) (w : Wing) (port link : Nat) (hrun : Runs s.dev)
    (hup : (fget s.dev w FOY_LINK_STATUS_UP 0 port).testBit link = true) :
    Completes (.fecDegraded w port link) s (fun h =>
      (fget h w FOY_LINK_STATUS_FEC_DEGRADED 0 port).testBit link = true ∧
        fget h w FOY_LINK_STATUS_UP 0 port = fget s.dev w FOY_LINK_STATUS_UP 0 port ∧ EventSet h w Ev.FOY_LINK_CHANGE port ∧
        RegsBut s.dev h [(.foy, 0x010), (.foy, 0x044)] ∧ SameButRegs s.dev h) := by
  refine completes_lift (exec_fecDegraded w port link) hrun ?_
  have hlt : link < 4 := by
    have hge := Nat.ge_two_pow_of_testBit hup
    have h16 : fget s.dev w FOY_LINK_STATUS_UP 0 port < 2 ^ 4 := bget_lt ..
    exact (Nat.pow_lt_pow_iff_right (by decide)).mp (Nat.lt_of_le_of_lt hge h16)
  rw [fecDegraded, if_pos hup]
  refine ⟨?_, ?_, raiseAt_sets _ _ _ (by decide), ?_, sameButRegs_raise rfl⟩
  · simp (disch := decide) only [fget_eq_bget, raise_regs, bget_evPut_off, fsetBit_regs]
    exact testBit_bget_bitPut _ _ _ _ _ _ _ _ _ _ (by decide) (by decide) (by simp [FOY_LINK_STATUS_FEC_DEGRADED]; omega)
  · simp (disch := decide) only [fget_eq_bget, raise_regs, bget_evPut_off, fsetBit_regs, bget_bput_bits]
  · rw [regsBut_iff]
    simp (disch := decide) only [raise_regs, regsKept_evPut_at, fsetBit_regs, regsKept_bput, regsKept_refl]

/-! ### Pauses -/

theorem contains_setIn (l : List Nat) (k j : Nat) (on : Bool) : (setIn l k on).contains j = if j = k then on else l.contains j := by
  unfold setIn
  by_cases hj : j = k
  · subst hj
    cases on with
    | true => cases hc : l.contains j <;> simp_all
    | false => simp
  · cases on with
    | true => cases hc : l.contains k <;> simp_all
    | false => simp [hj, List.contains_eq_mem, List.mem_filter]

theorem contains_setIn_same (l : List Nat) (k : Nat) (on : Bool) : (setIn l k on).contains k = on := (contains_setIn l k k on).trans (if_pos rfl)

theorem contains_setIn_other (l : List Nat) {k j : Nat} (on : Bool) (hj : j ≠ k) : (setIn l k on).contains j = l.contains j :=
  (contains_setIn l k j on).trans (if_neg hj)

/-- The sends of a list of messages. -/
theorem foldHead_send {α : Type} (f : α → Msg) (l : List α) (h : Head) :
    foldHead h l (fun h e => send h (f e)) = { h with out := h.out ++ l.map f } := by
  unfold foldHead
  induction l generalizing h with
  | nil => rw [List.foldl_nil, List.map_nil, List.append_nil]
  | cons a l ih =>
    rw [List.foldl_cons, ih, List.map_cons]
    unfold send
    rw [List.append_assoc]
    rfl

theorem unpause_eq (h : Head) (k : Nat) : unpause h k = { h with
    out := h.out ++ (h.foy.pausedOut.filter (fun e => e.1 == k)).map (·.2)
    foy := { h.foy with paused := setIn h.foy.paused k false, pausedOut := h.foy.pausedOut.filter (fun e => e.1 != k) } } :=
  foldHead_send (fun e : Nat × Msg => e.2) _ _

section Pauses

variable (s : State) (w : Wing) (port prio : Nat)

theorem pauseFrame_pauses (hrun : Runs s.dev) (hen : (fget s.dev w FOY_PFC_PFC_EN 0 port).testBit prio = true)
    (hs : s.dev.foy.storm.contains (prioKey w port prio) = false) :
    Completes (.pauseFrame w port prio true) s (fun h =>
      h.foy.paused.contains (prioKey w port prio) = true ∧
        (∀ k, k ≠ prioKey w port prio → h.foy.paused.contains k = s.dev.foy.paused.contains k) ∧
        h = { s.dev with foy := { s.dev.foy with paused := h.foy.paused } }) := by
  refine completes_lift (exec_pauseFrame w port prio true) hrun ?_
  rw [pauseFrame, if_pos (by rw [hen, hs]; rfl), if_pos rfl]
  exact ⟨contains_setIn_same s.dev.foy.paused (prioKey w port prio) true, fun k hk => contains_setIn_other s.dev.foy.paused true hk, rfl⟩

theorem pauseFrame_ends (hrun : Runs s.dev) (hen : (fget s.dev w FOY_PFC_PFC_EN 0 port).testBit prio = true)
    (hs : s.dev.foy.storm.contains (prioKey w port prio) = false) :
    Completes (.pauseFrame w port prio false) s (fun h =>
      h.foy.paused.contains (prioKey w port prio) = false ∧
        (∀ k, k ≠ prioKey w port prio → h.foy.paused.contains k = s.dev.foy.paused.contains k) ∧
        h.out = s.dev.out ++ (s.dev.foy.pausedOut.filter (fun e => e.1 == prioKey w port prio)).map (·.2) ∧
        h.foy.pausedOut = s.dev.foy.pausedOut.filter (fun e => e.1 != prioKey w port prio) ∧
        h = { s.dev with out := h.out, foy := { s.dev.foy with paused := h.foy.paused, pausedOut := h.foy.pausedOut } }) := by
  refine completes_lift (exec_pauseFrame w port prio false) hrun ?_
  rw [pauseFrame, if_pos (by rw [hen, hs]; rfl), if_neg (by decide), unpause_eq]
  exact ⟨contains_setIn_same s.dev.foy.paused (prioKey w port prio) false, fun k hk => contains_setIn_other s.dev.foy.paused false hk, rfl, rfl, rfl⟩

theorem pfcStorm_ends_pause (hrun : Runs s.dev) (hp : s.dev.foy.paused.contains (prioKey w port prio) = true)
    (hms : fget s.dev w FOY_PFC_STORM_MS 0 port ≠ 0) :
    Completes (.pfcStorm w port prio) s (fun h =>
      h.foy.paused.contains (prioKey w port prio) = false ∧ h.foy.storm.contains (prioKey w port prio) = true ∧
        h.out = s.dev.out ++ (s.dev.foy.pausedOut.filter (fun e => e.1 == prioKey w port prio)).map (·.2) ∧
        EventSet h w Ev.FOY_PFC_STORM port ∧ RegsBut s.dev h [(.foy, 0x010)]) := by
  refine completes_lift (exec_pfcStorm w port prio) hrun ?_
  rw [pfcStorm, if_pos (by rw [hp, Bool.true_and, bne_iff_ne]; exact hms), unpause_eq]
  refine ⟨?_, ?_, ?_, raiseAt_sets _ _ _ (by decide), ?_⟩
  · rw [raise_foy]
    exact contains_setIn_same s.dev.foy.paused (prioKey w port prio) false
  · rw [raise_foy]
    exact contains_setIn_same s.dev.foy.storm (prioKey w port prio) true
  · rw [raise_out]
  · rw [regsBut_iff, raise_regs, regsKept_evPut_at _ (by decide)]
    exact regsKept_refl _

theorem pfcStormEnd_ends (hrun : Runs s.dev) :
    Completes (.pfcStormEnd w port prio) s (fun h =>
      h.foy.storm.contains (prioKey w port prio) = false ∧ h = { s.dev with foy := { s.dev.foy with storm := h.foy.storm } }) :=
  completes_lift (exec_pfcStormEnd w port prio) hrun ⟨contains_setIn_same s.dev.foy.storm (prioKey w port prio) false, rfl⟩

end Pauses

/-! ### Notifications -/

section Notifications

variable (s : State) (w : Wing) (port ctx : Nat)

/-- A context's entry after it is changed. -/
theorem ctxInfo_ctxUpd (h : Head) (f : CtxInfo → CtxInfo) : ctxInfo (ctxUpd h w ctx f) w ctx = f (ctxInfo h w ctx) := by
  unfold ctxInfo ctxUpd tabGet
  rw [tabGet?_tabPut_same]
  rfl

theorem send_if (h : Head) (c : Prop) [Decidable c] (m : Msg) :
    (if c then send h m else h) = { h with out := h.out ++ (if c then [m] else []) } := by
  split
  · rfl
  · rw [List.append_nil]

theorem fbit_send (h : Head) (f : Fld) (inst : Nat) (hf : f.hi = f.lo) (m : Msg) : (if fbit h w f 0 inst = true then send h m else h) =
    { h with out := h.out ++ (if fget h w f 0 inst = 1 then [m] else []) } := by
  rw [send_if]
  simp only [fbit_iff _ _ _ _ _ hf]

theorem ceMarkedPacket_roce (hrun : Runs s.dev) (ht : ctxType s.dev w ctx = 1) :
    Completes (.ceMarkedPacket w port ctx) s (fun h =>
      h = { s.dev with out := s.dev.out ++ (if fget s.dev w FOY_ECN_CNP_EN 0 port = 1 then [.cnp w port ctx] else []) }) := by
  refine completes_lift (exec_ceMarkedPacket w port ctx) hrun ?_
  rw [ceMarkedPacket, ht]
  exact fbit_send w s.dev FOY_ECN_CNP_EN port rfl _

theorem ceMarkedPacket_tcp (hrun : Runs s.dev) (ht : ctxType s.dev w ctx = 2) :
    Completes (.ceMarkedPacket w port ctx) s (fun h =>
      h.out = s.dev.out ++ [.tcpEcho w port ctx] ∧ (ctxInfo h w ctx).ece = true ∧
        h = { s.dev with out := h.out, foy := { s.dev.foy with ctx := h.foy.ctx } }) := by
  refine completes_lift (exec_ceMarkedPacket w port ctx) hrun ?_
  rw [ceMarkedPacket, ht]
  exact ⟨rfl, congrArg CtxInfo.ece (ctxInfo_ctxUpd w ctx s.dev (fun x => { x with ece := true })), rfl⟩

theorem rate_unchanged (hrun : Runs s.dev) (ht : ctxType s.dev w ctx ≠ 1) :
    ∀ c ∈ [Instr.cnpReceived w port ctx, .rateRecover w port ctx], Completes c s (fun h => h = s.dev) := by
  intro c hc
  obtain rfl | rfl : c = .cnpReceived w port ctx ∨ c = .rateRecover w port ctx := by simpa using hc
  · exact completes_lift (exec_cnpReceived w port ctx) hrun (if_neg ht)
  · exact completes_lift (exec_rateRecover w port ctx) hrun (if_neg ht)

theorem cnpReceived_cuts (hrun : Runs s.dev) (ht : ctxType s.dev w ctx = 1) :
    Completes (.cnpReceived w port ctx) s (fun h =>
      (ctxInfo h w ctx).rate = (ctxInfo s.dev w ctx).rate * (256 - fget s.dev w FOY_ECN_RATE_CUT 0 port) / 256 ∧
        (ctxInfo h w ctx).port = (ctxInfo s.dev w ctx).port ∧ h = { s.dev with foy := { s.dev.foy with ctx := h.foy.ctx } }) := by
  refine completes_lift (exec_cnpReceived w port ctx) hrun ?_
  rw [cnpReceived, if_pos ht, setRate]
  rw [ctxInfo_ctxUpd]
  exact ⟨rfl, rfl, rfl⟩

theorem rateRecover_raises (hrun : Runs s.dev) (ht : ctxType s.dev w ctx = 1) :
    Completes (.rateRecover w port ctx) s (fun h =>
      (ctxInfo h w ctx).rate = min (linkRate s.dev w port) ((ctxInfo s.dev w ctx).rate + Config.rateStep) ∧
        h = { s.dev with foy := { s.dev.foy with ctx := h.foy.ctx } }) := by
  refine completes_lift (exec_rateRecover w port ctx) hrun ?_
  rw [rateRecover, if_pos ht, setRate]
  exact ⟨congrArg CtxInfo.rate (ctxInfo_ctxUpd w ctx s.dev _), rfl⟩

theorem ptpEventMessage_delivered (time : Nat) (hrun : Runs s.dev) :
    Completes (.ptpEventMessage w port time) s (fun h =>
      h = { s.dev with out := s.dev.out ++ (if fget s.dev w FOY_TS_PTP_TS_EN 0 port = 1 then [.ptpEvent w port time] else []) }) :=
  completes_lift (exec_ptpEventMessage w port time) hrun (fbit_send w s.dev FOY_TS_PTP_TS_EN port rfl _)

end Notifications

/-- Settles O18, clause by clause. -/
theorem foyerPortsFollowTheirLinks : Obligations.FoyerPortsFollowTheirLinks :=
  ⟨foyLinkChange_up, foyLinkChange_down, fecDegraded_marks, pauseFrame_pauses, pauseFrame_ends, pfcStorm_ends_pause, pfcStormEnd_ends,
    ceMarkedPacket_roce, ceMarkedPacket_tcp, rate_unchanged, cnpReceived_cuts, rateRecover_raises, ptpEventMessage_delivered⟩

end Sys2Proof.Laws
end

section
/-! Transport contexts (R86 to R90, R113, R115, R123), and O19. -/

namespace Sys2Proof.Laws

open Machine Machine.Reg

/-- A command completes with a head that its meaning is shown to leave. -/
theorem completes_of_eq {c : Instr} {f : Head → Head} {s : State} {P : Head → Prop} {h : Head} (hx : exec c = lift f) (hr : Runs s.dev)
    (heq : f s.dev = h) (hP : P h) : Completes c s P := completes_lift hx hr (heq ▸ hP)

/-! ### A whole register, in a register file -/

/-- A register of a page, in a register file. -/
def rget (t : Tab Word) (p : Page) (off bank : Nat) : Word :=
  tabGet t (resetWord (homePage p off) off bank) (regKey (homePage p off) off bank)

theorem rd_eq_rget (h : Head) (p : Page) (off bank : Nat) : rd h p off bank = rget h.regs p off bank := rfl

section Whole

variable (t : Tab Word) (p : Page) (blk : Block) (w : Wing) (inst off off' hi lo bank bank' v : Nat)

@[simp] theorem rget_wput_off (u : Word) (h : off' % 4096 ≠ off % 4096) : rget (wput t blk w inst off bank u) p off' bank' = rget t p off' bank' :=
  tabGet_tabStore_other _ _ _ _ (regKey_ne_off _ _ _ _ _ _ h)

@[simp] theorem rget_wput_bank (u : Word) (h : bank' % 65536 ≠ bank % 65536) :
    rget (wput t blk w inst off bank u) p off' bank' = rget t p off' bank' :=
  tabGet_tabStore_other _ _ _ _ (regKey_ne_bank _ _ _ _ _ _ h)

@[simp] theorem rget_bput_off (h : off' % 4096 ≠ off % 4096) : rget (bput t blk w inst off hi lo bank v) p off' bank' = rget t p off' bank' :=
  rget_wput_off _ _ _ _ _ _ _ _ _ _ h

@[simp] theorem rget_bput_bank (h : bank' % 65536 ≠ bank % 65536) :
    rget (bput t blk w inst off hi lo bank v) p off' bank' = rget t p off' bank' := rget_wput_bank _ _ _ _ _ _ _ _ _ _ h

@[simp] theorem rget_evPut_off (n : Nat) (q : Page) (h : off' % 4096 ≠ 0x010) : rget (evPut t q n) p off' bank' = rget t p off' bank' := by
  unfold evPut
  split
  · rfl
  · exact rget_bput_off _ _ _ _ _ _ _ _ _ _ _ _ h

end Whole

/-! ### Contexts taken -/

/-- The head with a context taken for a connection. -/
def contextTaken (h : Head) (w : Wing) (port type pmtu c : Nat) : Head :=
  ctxUpd (fset (freeContext h w c) w FOQ_CTX_BIND_TYPE type c) w c
    (fun _ => ⟨port, linkRate (fset (freeContext h w c) w FOQ_CTX_BIND_TYPE type c) w port, if type = 1 then pmtu else 0, false, 0⟩)

theorem freeContext_regs (h : Head) (w : Wing) (ctx : Nat) : (freeContext h w ctx).regs =
    wput (bput (bput (bput h.regs .foq w 0 0x060 31 31 ctx 0) .foq w 0 0x060 30 30 ctx 0) .foq w 0 0x060 27 16 ctx 0) .foq w 0 0x05C ctx 0 := by
  unfold freeContext
  simp only [wr_regs, fset_regs]
  rfl

theorem contextTaken_regs (h : Head) (w : Wing) (port type pmtu c : Nat) : (contextTaken h w port type pmtu c).regs =
    bput (freeContext h w c).regs .foq w 0 0x05C 31 30 c type := by
  unfold contextTaken ctxUpd
  simp only [fset_regs]
  rfl

theorem contextTaken_reads (h : Head) (w : Wing) (port type pmtu c : Nat) (ht : type < 4) :
    fget (contextTaken h w port type pmtu c) w FOQ_CTX_BIND_TYPE c = type ∧
      fget (contextTaken h w port type pmtu c) w FOQ_CTX_STATE_AUTHENTICATED c = 0 ∧
      (ctxInfo (contextTaken h w port type pmtu c) w c).port = port ∧
      RegsBut h (contextTaken h w port type pmtu c) [(.foq, 0x05C), (.foq, 0x060)] := by
  refine ⟨?_, ?_, ?_, ?_⟩
  · rw [fget_eq_bget, contextTaken_regs]
    exact bget_bput_same_of_lt _ _ _ _ _ _ _ _ _ (by decide) (by decide) ht
  · rw [fget_eq_bget, contextTaken_regs, freeContext_regs]
    unfold FOQ_CTX_STATE_AUTHENTICATED
    simp (disch := decide) only [Nat.zero_mod, bget_bput_off, bget_wput_off, bget_bput_bits, bget_bput_same]
  · unfold contextTaken
    rw [ctxInfo_ctxUpd]
  · rw [regsBut_iff, contextTaken_regs, freeContext_regs]
    simp (disch := decide) only [regsKept_wput, regsKept_bput, regsKept_refl]

theorem contextTaken_other (h : Head) (w : Wing) (port type pmtu c d off : Nat) (hd : d % 65536 ≠ c % 65536) :
    rd (contextTaken h w port type pmtu c) (pg .foq w) off d = rd h (pg .foq w) off d := by
  rw [rd_eq_rget, rd_eq_rget, contextTaken_regs, freeContext_regs]
  simp only [rget_bput_bank _ _ _ _ _ _ _ _ _ _ _ _ hd, rget_wput_bank _ _ _ _ _ _ _ _ _ _ hd]

theorem contextTaken_out (h : Head) (w : Wing) (port type pmtu c : Nat) :
    (contextTaken h w port type pmtu c).out = h.out := by
  unfold contextTaken ctxUpd freeContext
  rfl

/-- A free context is found where there is one, and it is free (R86). -/
theorem freeContextFrom_some (h : Head) (w : Wing) (n : Nat) (hex : ∃ c, c < 32768 ∧ fget h w FOQ_CTX_BIND_TYPE c = 0) :
    ∃ c, freeContextFrom h w n = some c ∧ c < 32768 ∧ fget h w FOQ_CTX_BIND_TYPE c = 0 := by
  obtain ⟨c, hc, hfree⟩ := hex
  have hsome : ((List.range 32768).find? (fun k => fget h w FOQ_CTX_BIND_TYPE ((n + k) % 32768) == 0)).isSome := by
    rw [List.find?_isSome]
    refine ⟨(c + 32768 - n % 32768) % 32768, List.mem_range.mpr (Nat.mod_lt _ (Nat.succ_pos _)), ?_⟩
    rw [show (n + (c + 32768 - n % 32768) % 32768) % 32768 = c by omega, hfree]
    rfl
  obtain ⟨k, hk⟩ := Option.isSome_iff_exists.mp hsome
  refine ⟨(n + k) % 32768, ?_, Nat.mod_lt _ (Nat.succ_pos _), ?_⟩
  · unfold freeContextFrom
    rw [hk]
    rfl
  · have hfree := List.find?_some hk
    exact beq_iff_eq.mp hfree

theorem freeContextFrom_congr {g h : Head} (hr : h.regs = g.regs) (w : Wing) (n : Nat) : freeContextFrom h w n = freeContextFrom g w n := by
  unfold freeContextFrom
  simp only [fget_eq_bget, hr]

theorem connectable_lt (type pmtu : Nat) (hc : connectable type pmtu = true) : type < 4 := by
  unfold connectable at hc
  simp only [Bool.or_eq_true, Bool.and_eq_true, beq_iff_eq] at hc
  omega

theorem connectionRequest_eq (h : Head) (w : Wing) (port type pmtu c : Nat) (hf : hget h (pg .foy w port) STATUS_FENCED = 0)
    (hc : connectable type pmtu = true) (hfound : freeContextFrom h w (Config.freeContext h.freeCtr) = some c) :
    connectionRequest h w port type pmtu =
      send (contextTaken { h with freeCtr := h.freeCtr + 1 } w port type pmtu c) (.connection w port (some c)) := by
  unfold connectionRequest fresh
  rw [if_neg (by simp [hf, hc])]
  dsimp only
  rw [freeContextFrom_congr (g := h) (h := { h with freeCtr := h.freeCtr + 1 }) rfl, hfound]
  rfl

/-- What a context taken for a connection is, where the head is as before but for its free values. -/
theorem contextTaken_takes (g h : Head) (hr : h.regs = g.regs) (ho : h.out = g.out) (w : Wing) (port type pmtu c : Nat) (ht : type < 4)
    (hlt : c < 32768) :
    let h' := send (contextTaken h w port type pmtu c) (.connection w port (some c))
    fget h' w FOQ_CTX_BIND_TYPE c = type ∧ fget h' w FOQ_CTX_STATE_AUTHENTICATED c = 0 ∧ (ctxInfo h' w c).port = port ∧
      h'.out = g.out ++ [.connection w port (some c)] ∧ RegsBut g h' [(.foq, 0x05C), (.foq, 0x060)] ∧
      (∀ d, d < 32768 → d ≠ c → rd h' (pg .foq w) 0x05C d = rd g (pg .foq w) 0x05C d ∧
        rd h' (pg .foq w) 0x060 d = rd g (pg .foq w) 0x060 d) := by
  obtain ⟨htype, hauth, hport, hregs⟩ := contextTaken_reads h w port type pmtu c ht
  have hread (off d : Nat) : rd g (pg .foq w) off d = rd h (pg .foq w) off d := by rw [rd_eq_rget, rd_eq_rget, hr]
  have hother (off d : Nat) (hd : d < 32768) (hne : d ≠ c) : rd (contextTaken h w port type pmtu c) (pg .foq w) off d = rd g (pg .foq w) off d :=
    (contextTaken_other h w port type pmtu c d off (by omega)).trans (hread off d).symm
  have hout := (contextTaken_out h w port type pmtu c).trans ho
  have hkept : RegsBut g (contextTaken h w port type pmtu c) [(.foq, 0x05C), (.foq, 0x060)] := by
    rw [regsBut_iff, ← hr]
    exact hregs
  generalize contextTaken h w port type pmtu c = k at *
  exact ⟨htype, hauth, hport, by rw [← hout]; rfl, hkept, fun d hd hne => ⟨hother 0x05C d hd hne, hother 0x060 d hd hne⟩⟩

theorem connectionRequest_takes (s : State) (w : Wing) (port type pmtu : Nat) (hrun : Runs s.dev)
    (hf : hget s.dev (pg .foy w port) STATUS_FENCED = 0) (hc : connectable type pmtu = true)
    (hex : ∃ c, c < 32768 ∧ fget s.dev w FOQ_CTX_BIND_TYPE c = 0) :
    Completes (.connectionRequest w port type pmtu) s (fun h => ∃ c, c < 32768 ∧ fget s.dev w FOQ_CTX_BIND_TYPE c = 0 ∧
      fget h w FOQ_CTX_BIND_TYPE c = type ∧ fget h w FOQ_CTX_STATE_AUTHENTICATED c = 0 ∧ (ctxInfo h w c).port = port ∧
        h.out = s.dev.out ++ [.connection w port (some c)] ∧ RegsBut s.dev h [(.foq, 0x05C), (.foq, 0x060)] ∧
        (∀ d, d < 32768 → d ≠ c → rd h (pg .foq w) 0x05C d = rd s.dev (pg .foq w) 0x05C d ∧
          rd h (pg .foq w) 0x060 d = rd s.dev (pg .foq w) 0x060 d)) := by
  obtain ⟨c, hfound, hlt, hfree⟩ := freeContextFrom_some s.dev w (Config.freeContext s.dev.freeCtr) hex
  exact completes_of_eq (exec_connectionRequest w port type pmtu) hrun (connectionRequest_eq s.dev w port type pmtu c hf hc hfound)
    ⟨c, hlt, hfree, contextTaken_takes s.dev { s.dev with freeCtr := s.dev.freeCtr + 1 } rfl rfl w port type pmtu c (connectable_lt _ _ hc) hlt⟩

theorem connectionRequest_refused (s : State) (w : Wing) (port type pmtu : Nat) (hrun : Runs s.dev)
    (hno : hget s.dev (pg .foy w port) STATUS_FENCED = 1 ∨ connectable type pmtu = false) :
    Completes (.connectionRequest w port type pmtu) s (fun h => h = { s.dev with out := s.dev.out ++ [.connection w port none] }) :=
  completes_lift (exec_connectionRequest w port type pmtu) hrun (if_pos (hno.imp_right (by simp)))

/-! ### Authentication -/

theorem authComplete_accepted (s : State) (w : Wing) (ctx : Nat) (kind : AuthKind) (hrun : Runs s.dev) (hcar : authCarried s.dev w ctx kind = true)
    (hoff : authOffered kind = true) (hcred : credentialUsable s.dev (fget s.dev w FOQ_CTX_BIND_CRED_SLOT ctx) = true) :
    Completes (.authComplete w ctx true kind) s (fun h =>
      fget h w FOQ_CTX_STATE_AUTHENTICATED ctx = 1 ∧
        fget h w FOQ_CTX_STATE_COLL ctx = slotColl s.dev (fget s.dev w FOQ_CTX_BIND_CRED_SLOT ctx) % 4096 ∧
        fget h w FOQ_CTX_STATE_TLS ctx = (if isTls kind then 1 else fget s.dev w FOQ_CTX_STATE_TLS ctx) ∧
        RegsBut s.dev h [(.foq, 0x060)] ∧ SameButRegs s.dev h) := by
  refine completes_lift (exec_authComplete w ctx true kind) hrun ?_
  rw [authComplete, if_neg (by rw [hcar]; decide), if_pos (by rw [hoff, hcred]; rfl)]
  have hcoll : slotColl (fset s.dev w FOQ_CTX_STATE_AUTHENTICATED 1 ctx) (fget s.dev w FOQ_CTX_BIND_CRED_SLOT ctx) =
      slotColl s.dev (fget s.dev w FOQ_CTX_BIND_CRED_SLOT ctx) := by
    have hkey : keyColl (fset s.dev w FOQ_CTX_STATE_AUTHENTICATED 1 ctx) (fget s.dev w FOQ_CTX_BIND_CRED_SLOT ctx) =
        keyColl s.dev (fget s.dev w FOQ_CTX_BIND_CRED_SLOT ctx) := bget_bput_block (h := by decide) ..
    unfold slotColl
    rw [hkey]
    rfl
  dsimp only
  rw [hcoll]
  generalize slotColl s.dev (fget s.dev w FOQ_CTX_BIND_CRED_SLOT ctx) = coll
  cases hk : isTls kind with
  | true =>
    simp only [if_true]
    refine ⟨?_, ?_, ?_, ?_, rfl⟩
    · simp (disch := decide) only [fget_eq_bget, fset_regs, bget_bput_bits, bget_bput_same]
      rfl
    · simp (disch := decide) only [fget_eq_bget, fset_regs, bget_bput_bits, bget_bput_same]
      rfl
    · simp (disch := decide) only [fget_eq_bget, fset_regs, bget_bput_same]
      rfl
    · rw [regsBut_iff]
      simp (disch := decide) only [fset_regs, regsKept_bput, regsKept_refl]
  | false =>
    simp only [Bool.false_eq_true, if_false]
    refine ⟨?_, ?_, ?_, ?_, rfl⟩
    · simp (disch := decide) only [fget_eq_bget, fset_regs, bget_bput_bits, bget_bput_same]
      rfl
    · simp (disch := decide) only [fget_eq_bget, fset_regs, bget_bput_same]
      rfl
    · simp (disch := decide) only [fget_eq_bget, fset_regs, bget_bput_bits]
    · rw [regsBut_iff]
      simp (disch := decide) only [fset_regs, regsKept_bput, regsKept_refl]

/-- The head before a failed authentication is marked: its refused key and its alert told. -/
def authRefused (h : Head) (w : Wing) (ctx : Nat) (kind : AuthKind) : Head :=
  let h := if credentialUsable h (fget h w FOQ_CTX_BIND_CRED_SLOT ctx) then h else raise h w Ev.DGE_KEY_REFUSED
  if isTls kind then raise (send h (.tlsAlert w (ctxInfo h w ctx).port ctx)) w Ev.FOY_TLS_ALERT (ctxInfo h w ctx).port else h

theorem authRefused_tells (h : Head) (w : Wing) (ctx : Nat) (kind : AuthKind) :
    (isTls kind = true → EventSet (authRefused h w ctx kind) w Ev.FOY_TLS_ALERT (ctxInfo h w ctx).port) ∧
      (authRefused h w ctx kind).out = h.out ++ (if isTls kind then [.tlsAlert w (ctxInfo h w ctx).port ctx] else []) := by
  have hinfo : ctxInfo (raise h w Ev.DGE_KEY_REFUSED) w ctx = ctxInfo h w ctx := by
    unfold ctxInfo
    rw [raise_foy]
  unfold authRefused
  cases credentialUsable h (fget h w FOQ_CTX_BIND_CRED_SLOT ctx) <;> cases isTls kind <;>
    simp only [Bool.false_eq_true, if_false, if_true, hinfo, List.append_nil, raise_out, send, false_implies, true_implies, and_true]
  all_goals exact raiseAt_sets _ _ _ (by decide)

theorem authComplete_refused (s : State) (w : Wing) (ctx : Nat) (good : Bool) (kind : AuthKind) (hrun : Runs s.dev)
    (hcar : authCarried s.dev w ctx kind = true)
    (hno : good = false ∨ authOffered kind = false ∨ credentialUsable s.dev (fget s.dev w FOQ_CTX_BIND_CRED_SLOT ctx) = false) :
    Completes (.authComplete w ctx good kind) s (fun h =>
      let port := (ctxInfo s.dev w ctx).port
      fget h w FOQ_CTX_STATE_AUTHENTICATED ctx = 0 ∧ EventSet h w Ev.FOY_AUTH_FAIL port ∧
        (isTls kind = true → EventSet h w Ev.FOY_TLS_ALERT port) ∧
        h.out = s.dev.out ++ (if isTls kind then [.tlsAlert w port ctx] else [])) := by
  refine completes_lift (exec_authComplete w ctx good kind) hrun ?_
  have hbad : ¬ ((good && authOffered kind && credentialUsable s.dev (fget s.dev w FOQ_CTX_BIND_CRED_SLOT ctx)) = true) := by
    obtain h | h | h := hno <;> simp [h]
  have hinfo : ctxInfo (raise s.dev w Ev.DGE_KEY_REFUSED) w ctx = ctxInfo s.dev w ctx := by
    unfold ctxInfo
    rw [raise_foy]
  have heq : authComplete s.dev w ctx good kind =
      raise (fset (authRefused s.dev w ctx kind) w FOQ_CTX_STATE_AUTHENTICATED 0 ctx) w Ev.FOY_AUTH_FAIL (ctxInfo s.dev w ctx).port := by
    unfold authComplete authRefused
    rw [if_neg (by rw [hcar]; decide), if_neg hbad]
    cases credentialUsable s.dev (fget s.dev w FOQ_CTX_BIND_CRED_SLOT ctx) <;>
      simp only [Bool.false_eq_true, if_false, if_true, hinfo]
  obtain ⟨halert, hout⟩ := authRefused_tells s.dev w ctx kind
  rw [heq]
  refine ⟨?_, raiseAt_sets _ _ _ (by decide), fun ht => eventSet_raise ?_ (by decide) _ _ _, ?_⟩
  · rw [fget_eq_bget, raise_regs, bget_evPut_off (h := by decide), fset_regs]
    exact bget_bput_same _ _ _ _ _ _ _ _ _ (by decide) (by decide)
  · rw [eventSet_iff, fset_regs, evSet_bput (ho := by decide)]
    exact halert ht
  · rw [raise_out]
    exact hout

/-! ### Binding by software -/

theorem ctxBindEffect_binds (h : Head) (src : Nat) (w : Wing) (v : Word) (ht : bitsOf v 31 30 = 1 ∨ bitsOf v 31 30 = 2)
    (ha : fget h w FOQ_CTX_STATE_AUTHENTICATED (fget h w FOQ_CTX_INDEX_INDEX) = 0) :
    let ctx := fget h w FOQ_CTX_INDEX_INDEX
    let h' := ctxBindEffect h src w v
    fget h' w FOQ_CTX_BIND_TYPE ctx = bitsOf v 31 30 ∧ fget h' w FOQ_CTX_BIND_DISCOVERY ctx = bitsOf v 29 29 ∧
      fget h' w FOQ_CTX_BIND_CRED_SLOT ctx = bitsOf v 12 0 ∧ RegsBut h h' [(.foq, 0x05C)] ∧ SameButRegs h h' := by
  have hauth : fbit h w FOQ_CTX_STATE_AUTHENTICATED (fget h w FOQ_CTX_INDEX_INDEX) = false := by
    unfold fbit
    rw [ha]
    rfl
  have heq : ctxBindEffect h src w v = fset (fset (fset h w FOQ_CTX_BIND_TYPE (bitsOf v 31 30) (fget h w FOQ_CTX_INDEX_INDEX)) w
      FOQ_CTX_BIND_DISCOVERY (bitsOf v 29 29) (fget h w FOQ_CTX_INDEX_INDEX)) w FOQ_CTX_BIND_CRED_SLOT (bitsOf v 12 0)
      (fget h w FOQ_CTX_INDEX_INDEX) := by
    unfold ctxBindEffect
    dsimp only
    rw [if_neg (by omega), if_neg (by simp [hauth]), if_neg (by omega)]
  dsimp only
  rw [heq]
  generalize fget h w FOQ_CTX_INDEX_INDEX = ctx
  refine ⟨?_, ?_, ?_, ?_, rfl⟩
  · simp (disch := decide) only [fget_eq_bget, fset_regs, bget_bput_bits]
    exact bget_bput_same_of_lt _ _ _ _ _ _ _ _ _ (by decide) (by decide) (bitsOf_lt _ _ _)
  · simp (disch := decide) only [fget_eq_bget, fset_regs, bget_bput_bits]
    exact bget_bput_same_of_lt _ _ _ _ _ _ _ _ _ (by decide) (by decide) (bitsOf_lt _ _ _)
  · exact bget_bput_same_of_lt _ _ _ _ _ _ _ _ _ (by decide) (by decide) (bitsOf_lt _ _ _)
  · rw [regsBut_iff]
    simp (disch := decide) only [fset_regs, regsKept_bput, regsKept_refl]

theorem ctxBindWrite_binds (s : State) (ini : Initiator) (w : Wing) (v : Word) (hrun : Runs s.dev) (hw : Writable s.dev ini (pg .foq w) 0x05C)
    (ht : bitsOf v 31 30 = 1 ∨ bitsOf v 31 30 = 2) (ha : fget s.dev w FOQ_CTX_STATE_AUTHENTICATED (fget s.dev w FOQ_CTX_INDEX_INDEX) = 0) :
    Completes (.ctxBindWrite ini w v) s (fun h =>
      let ctx := fget s.dev w FOQ_CTX_INDEX_INDEX
      fget h w FOQ_CTX_BIND_TYPE ctx = bitsOf v 31 30 ∧ fget h w FOQ_CTX_BIND_DISCOVERY ctx = bitsOf v 29 29 ∧
        fget h w FOQ_CTX_BIND_CRED_SLOT ctx = bitsOf v 12 0 ∧ RegsBut s.dev h [(.foq, 0x05C)] ∧
        SameButRegs (reply s.dev false) h) := by
  refine completes_lift (exec_ctxBindWrite ini w v) hrun ?_
  rw [ctxBindWrite, withWrite_ok _ _ _ _ _ hw]
  exact ctxBindEffect_binds (reply s.dev false) (sourceCode ini) w v ht ha

theorem ctxBindEffect_frees (h : Head) (src : Nat) (w : Wing) (v : Word) (ht : bitsOf v 31 30 = 0)
    (hi : fget h w FOQ_CTX_STATE_INFLIGHT (fget h w FOQ_CTX_INDEX_INDEX) = 0)
    (hm : fget h w FOQ_CTX_BIND_TYPE (fget h w FOQ_CTX_INDEX_INDEX) ≠ 3) :
    ctxBindEffect h src w v = freeContext h w (fget h w FOQ_CTX_INDEX_INDEX) := by
  unfold ctxBindEffect
  dsimp only
  rw [if_pos ht, if_neg (by omega), if_neg hm]

theorem freeContext_frees (h : Head) (w : Wing) (ctx : Nat) :
    fget (freeContext h w ctx) w FOQ_CTX_BIND_TYPE ctx = 0 ∧ fget (freeContext h w ctx) w FOQ_CTX_STATE_AUTHENTICATED ctx = 0 ∧
      fget (freeContext h w ctx) w FOQ_CTX_STATE_TLS ctx = 0 ∧ fget (freeContext h w ctx) w FOQ_CTX_STATE_COLL ctx = 0 ∧
      RegsBut h (freeContext h w ctx) [(.foq, 0x05C), (.foq, 0x060)] := by
  simp only [fget_eq_bget, regsBut_iff, freeContext_regs]
  refine ⟨?_, ?_, ?_, ?_, ?_⟩
  · exact bget_wput_same _ _ _ _ _ _ _ _ _
  · unfold FOQ_CTX_STATE_AUTHENTICATED
    simp (disch := decide) only [Nat.zero_mod, bget_wput_off, bget_bput_bits, bget_bput_same]
  · unfold FOQ_CTX_STATE_TLS
    simp (disch := decide) only [Nat.zero_mod, bget_wput_off, bget_bput_bits, bget_bput_same]
  · unfold FOQ_CTX_STATE_COLL
    simp (disch := decide) only [Nat.zero_mod, bget_wput_off, bget_bput_same]
  · simp (disch := decide) only [regsKept_wput, regsKept_bput, regsKept_refl]

theorem ctxBindWrite_frees (s : State) (ini : Initiator) (w : Wing) (v : Word) (hrun : Runs s.dev) (hw : Writable s.dev ini (pg .foq w) 0x05C)
    (ht : bitsOf v 31 30 = 0) (hi : fget s.dev w FOQ_CTX_STATE_INFLIGHT (fget s.dev w FOQ_CTX_INDEX_INDEX) = 0)
    (hm : fget s.dev w FOQ_CTX_BIND_TYPE (fget s.dev w FOQ_CTX_INDEX_INDEX) ≠ 3) :
    Completes (.ctxBindWrite ini w v) s (fun h =>
      let ctx := fget s.dev w FOQ_CTX_INDEX_INDEX
      fget h w FOQ_CTX_BIND_TYPE ctx = 0 ∧ fget h w FOQ_CTX_STATE_AUTHENTICATED ctx = 0 ∧ fget h w FOQ_CTX_STATE_TLS ctx = 0 ∧
        fget h w FOQ_CTX_STATE_COLL ctx = 0 ∧ RegsBut s.dev h [(.foq, 0x05C), (.foq, 0x060)]) := by
  refine completes_lift (exec_ctxBindWrite ini w v) hrun ?_
  rw [ctxBindWrite, withWrite_ok _ _ _ _ _ hw, ctxBindEffect_frees (reply s.dev false) (sourceCode ini) w v ht hi hm]
  exact freeContext_frees (reply s.dev false) w _

/-! ### Collection entries -/

/-- The row of FOQ_COLL_RATE. -/
def collRateRow : RegDef := ⟨0x068, [⟨15, 0, .rwf, 0, .any⟩], .shared, some ⟨0x064, 11, 0⟩, .single⟩

theorem writeFields_collRate (rst cur v : Word) :
    writeFields { collRateRow with fields := collRateRow.fields.map (fun f => { f with reset := bitsOf rst f.hi f.lo }) } cur v false =
      ⟨cur, putBits 0 15 0 (bitsOf v 15 0), maskOf 15 0, []⟩ := by
  have hmask : (0 : Word) ||| maskOf 15 0 = maskOf 15 0 := by decide
  exact congrArg (fun m => (⟨cur, putBits 0 15 0 (bitsOf v 15 0), m, []⟩ : Written)) hmask

/-- What a word written to FOQ_COLL_RATE leaves: its credit pending. -/
theorem writeReg_collRate (h : Head) (src : Nat) (w : Wing) (v : Word) :
    writeReg h src (pg .foq w) 0x068 v false =
      { wr h (pg .foq w) 0x068 (fget h w FOQ_COLL_INDEX_INDEX) (rd h (pg .foq w) 0x068 (fget h w FOQ_COLL_INDEX_INDEX)) with
        pend := tabPut h.pend (regKey (pg .foq w) 0x068 (fget h w FOQ_COLL_INDEX_INDEX))
          (joinPend (tabGet h.pend (0, 0) (regKey (pg .foq w) 0x068 (fget h w FOQ_COLL_INDEX_INDEX)))
            (putBits 0 15 0 (bitsOf v 15 0)) (maskOf 15 0)) } := by
  have hrow : regDef? .foq 0x068 = some collRateRow := rfl
  have hbank : bankOf h (pg .foq w) collRateRow = fget h w FOQ_COLL_INDEX_INDEX := rfl
  have hput (bank : Nat) : putReg h src (pg .foq w) collRateRow bank v false =
      { wr h (pg .foq w) 0x068 bank (rd h (pg .foq w) 0x068 bank) with
        pend := tabPut h.pend (regKey (pg .foq w) 0x068 bank)
          (joinPend (tabGet h.pend (0, 0) (regKey (pg .foq w) 0x068 bank)) (putBits 0 15 0 (bitsOf v 15 0)) (maskOf 15 0)) } := by
    unfold putReg
    rw [if_neg (by simp [collRateRow])]
    dsimp only
    simp only [writeFields_collRate]
    rw [if_neg (by decide)]
    rfl
  unfold writeReg
  rw [show (pg .foq w).block = .foq from rfl, hrow]
  dsimp only
  rw [hbank]
  exact hput _

theorem joinPend_takes (old : Word × Word) (v : Word) :
    bitsOf (joinPend old (putBits 0 15 0 (bitsOf v 15 0)) (maskOf 15 0)).1 15 0 = bitsOf v 15 0 ∧
      bitsOf (joinPend old (putBits 0 15 0 (bitsOf v 15 0)) (maskOf 15 0)).2 15 0 = 0xFFFF := by
  unfold joinPend
  refine ⟨?_, bitsOf_or_maskOf _ _ _ (by decide) (by decide)⟩
  refine bitsOf_congr (by decide) (by decide) fun i hi hlo hhi => ?_
  have hmask : (maskOf 15 0).getLsbD i = true := by
    rw [getLsbD_maskOf _ _ _ (by decide) hi]
    simp [hhi]
  rw [BitVec.getLsbD_or, BitVec.getLsbD_and, BitVec.getLsbD_and, BitVec.getLsbD_not, hmask, getLsbD_putBits _ _ _ _ _ (by decide) hi,
    if_pos ⟨hlo, hhi⟩, testBit_bitsOf]
  simp
  omega

theorem collEntryEffect_room (h : Head) (src : Nat) (w : Wing) (v : Word) (hroom : pendingEntries h < 256) :
    collEntryEffect h src w false v = writeReg h src (pg .foq w) 0x068 v false := by
  unfold collEntryEffect
  dsimp only
  rw [if_neg fun hc => absurd hc.1 (Nat.not_le.mpr hroom), if_neg (by decide)]

theorem collEntryEffect_full (h : Head) (src : Nat) (w : Wing) (v : Word) (hfull : 256 ≤ pendingEntries h)
    (hnew : tabHas h.pend (regKey (pg .foq w) 0x068 (fget h w FOQ_COLL_INDEX_INDEX)) = false) :
    collEntryEffect h src w false v = config h (pg .foq w) ⟨11, src, true, pageAddr (pg .foq w) + 0x068⟩ := by
  unfold collEntryEffect
  dsimp only
  rw [if_neg (show ¬ (false = true) by decide)]
  exact if_pos ⟨hfull, hnew⟩

/-- A register written with what it holds. -/
theorem regsKept_wput_rget (t : Tab Word) (blk : Block) (w : Wing) (inst off bank : Nat) (l : List (Block × Nat)) (v : Word)
    (hoff : off < 4096) (hreset : ∀ (p : Page) (b : Nat), p.block = blk → resetWord p off b = v) :
    RegsKept t (wput t blk w inst off bank (rget t ⟨blk, w, inst⟩ off bank)) l := by
  intro p o b ho _
  by_cases hk : regKey (homePage p o) o b = regKey (homePage ⟨blk, w, inst⟩ off) off bank
  · have hblk : (homePage p o).block = blk := by
      have := pageNum_block (by rw [← keyPage_regKey (homePage p o) o b, hk, keyPage_regKey] :
        pageNum (homePage p o) = pageNum (homePage ⟨blk, w, inst⟩ off))
      simpa using this
    have hoo : o = off := by rw [← Nat.mod_eq_of_lt ho, ← keyOff_regKey (homePage p o) o b, hk, keyOff_regKey, Nat.mod_eq_of_lt hoff]
    subst hoo
    rw [hk, hreset _ _ hblk]
    unfold wput rget
    rw [hreset _ _ (by simp)]
    exact tabGet_tabStore_same _ _ _ _
  · exact tabGet_tabStore_other _ _ _ _ hk

theorem collEntryWrite_rate (h : Head) (ini : Initiator) (w : Wing) (v : Word) (hw : Writable h ini (pg .foq w) 0x068) :
    collEntryWrite h ini w false v = collEntryEffect (reply h false) (sourceCode ini) w false v := by
  unfold collEntryWrite
  rw [if_neg (by decide), withWrite_ok _ _ _ _ _ hw]

theorem resetWord_collRate (p : Page) (b : Nat) (hp : p.block = .foq) : resetWord p 0x068 b = 0 := by
  obtain ⟨blk, w, i⟩ := p
  subst hp
  rfl

theorem collEntryWrite_pends (s : State) (ini : Initiator) (w : Wing) (v : Word) (hrun : Runs s.dev) (hw : Writable s.dev ini (pg .foq w) 0x068)
    (hroom : pendingEntries s.dev < 256) :
    Completes (.collEntryWrite ini w false v) s (fun h => ∃ val mask : Word,
      tabGet? h.pend (regKey (pg .foq w) 0x068 (fget s.dev w FOQ_COLL_INDEX_INDEX)) = some (val, mask) ∧
        bitsOf val 15 0 = bitsOf v 15 0 ∧ bitsOf mask 15 0 = 0xFFFF ∧ RegsBut s.dev h []) := by
  refine completes_of_eq (exec_collEntryWrite ini w false v) hrun ((collEntryWrite_rate s.dev ini w v hw).trans
    ((collEntryEffect_room (reply s.dev false) _ _ _ hroom).trans (writeReg_collRate _ _ _ _))) ?_
  exact ⟨_, _, tabGet?_tabPut_same _ _ _, (joinPend_takes _ v).1, (joinPend_takes _ v).2, regsKept_wput_rget _ _ _ _ _ _ _ 0 (by decide) resetWord_collRate⟩

theorem collEntryWrite_full (s : State) (ini : Initiator) (w : Wing) (v : Word) (hrun : Runs s.dev) (hw : Writable s.dev ini (pg .foq w) 0x068)
    (hfull : 256 ≤ pendingEntries s.dev) (hnew : tabHas s.dev.pend (regKey (pg .foq w) 0x068 (fget s.dev w FOQ_COLL_INDEX_INDEX)) = false) :
    Completes (.collEntryWrite ini w false v) s (fun h =>
      h.pend = s.dev.pend ∧ EventSet h w Ev.FOQ_CONFIG ∧
        RegsBut s.dev h [(.foq, 0x010), (.foq, 0x020), (.foq, 0x024), (.foq, 0x028)]) := by
  refine completes_of_eq (exec_collEntryWrite ini w false v) hrun ((collEntryWrite_rate s.dev ini w v hw).trans
    (collEntryEffect_full (reply s.dev false) _ _ _ hfull hnew)) ?_
  refine ⟨config_pend _ _ _, eventSet_config _ (pg .foq w) _ (by cases w <;> decide), ?_⟩
  rw [regsBut_iff, config_regs, reply_regs, pg, regsKept_configPut_at _ (by decide) (by decide) (by decide) (by decide)]
  exact regsKept_refl _

/-- Settles O19, clause by clause. -/
theorem contextsAreBoundAndFreed : Obligations.ContextsAreBoundAndFreed :=
  ⟨connectionRequest_takes, connectionRequest_refused, authComplete_accepted, authComplete_refused, ctxBindWrite_binds, ctxBindWrite_frees,
    collEntryWrite_pends, collEntryWrite_full⟩

end Sys2Proof.Laws
end

section
/-! The arrival of a capsule past its identifier (R87 to R94), and O21. -/

namespace Sys2Proof.Laws

open Machine Machine.Reg

/-! ### What the acknowledgement of a completion leaves -/

theorem regsBut_setFused (h : Head) (l : List FusedRec) : RegsBut h (setFused h l) [(.foq, 0x078)] := by
  unfold setFused
  rw [regsBut_iff]
  simp (disch := decide) only [fset_regs, regsKept_bput, regsKept_refl]

/-- Beside the fused records and their count a capsule's acknowledgement changes nothing (R106). -/
theorem ackByQueue_frame (h : Head) (c : Capsule) : ∃ t l, ackByQueue h c = { h with regs := t, foy := { h.foy with fused := l } } ∧
    RegsKept h.regs t [(.foq, 0x078)] := by
  unfold ackByQueue
  dsimp only
  split
  · exact ⟨(setFused h _).regs, _, rfl, regsBut_setFused h _⟩
  · exact ⟨h.regs, h.foy.fused, rfl, regsKept_refl _⟩

section Acked

variable (h : Head) (c : Capsule)

theorem fget_ackByQueue (w : Wing) (f : Fld) (bank inst : Nat) (ho : f.off < 4096) (hn : f.off ≠ 0x078) :
    fget (ackByQueue h c) w f bank inst = fget h w f bank inst := by
  obtain ⟨t, l, heq, hk⟩ := ackByQueue_frame h c
  rw [heq]
  exact bget_of_regsKept _ _ _ _ _ _ _ hk ho (by simp [hn])

theorem prioOf_ackByQueue (w : Wing) (port : Nat) : prioOf (ackByQueue h c) w port false = prioOf h w port false :=
  fget_ackByQueue h c w FOY_PFC_PRIO_NVME 0 port (by decide) (by decide)

theorem hostAnswer_ackByQueue (st : NvmeStatus) : hostAnswer (ackByQueue h c) c st = hostAnswer h c st := by
  unfold hostAnswer
  rw [prioOf_ackByQueue]

theorem hostListens_ackByQueue (hl : HostListens h c) : HostListens (ackByQueue h c) c := by
  unfold HostListens
  rw [prioOf_ackByQueue, paused_ackByQueue]
  exact hl

theorem nsGet_ackByQueue (nsid : Nat) : nsGet? (ackByQueue h c) nsid = nsGet? h nsid := by
  obtain ⟨t, l, heq, _⟩ := ackByQueue_frame h c
  rw [heq]
  rfl

theorem anaCheck_ackByQueue (n : Namespace) : anaCheck (ackByQueue h c) n = anaCheck h n := by
  have hpair : pairState (ackByQueue h c) = pairState h := fget_ackByQueue h c _ _ _ _ (by decide) (by decide)
  have hrep : isReplica (ackByQueue h c) n.coll = isReplica h n.coll :=
    congrArg (· == 3) (fget_ackByQueue h c .east RPL_MAP_MODE_MODE n.coll 0 (by decide) (by decide))
  unfold anaCheck hasPeer
  rw [hpair, hrep]

theorem ctxReaches_ackByQueue : ctxReaches (ackByQueue h c) c = ctxReaches h c := by
  unfold ctxReaches fbit
  rw [fget_ackByQueue h c _ FOQ_CTX_STATE_AUTHENTICATED _ _ (by decide) (by decide),
    fget_ackByQueue h c _ FOQ_CTX_BIND_DISCOVERY _ _ (by decide) (by decide)]

/-- A capsule whose identifier is free goes on (R93). -/
theorem capsuleArrives_passes (next : Head → Head) (ht : CapsuleTaken h c) (hu : cidInUse h c = false) :
    capsuleArrives h c next = next (ackByQueue h c) := by
  obtain ⟨hfree, hfoq, hfoy, hdel⟩ := ht
  unfold capsuleArrives
  dsimp only
  rw [if_neg (by simp [hfree, hfoq, hfoy, hdel]), if_neg (by rw [cidInUse_ackByQueue, hu]; decide)]

theorem capsuleArrives_held (next : Head → Head) (hn : fetchHeld h c.wing = true ∨ notDelivered h c = true) :
    capsuleArrives h c next = h := by
  unfold capsuleArrives
  refine if_pos ?_
  obtain hn | hn := hn <;> simp [hn]

end Acked

/-! ### Step 3 and past it -/

theorem capsuleForNs_waits (h : Head) (c : Capsule) (n : Namespace) (fwd : Bool) (hop : c.op = .read ∨ c.op = .flush) (hcount : c.count ≤ 512)
    (htag : c.appTag = false) (hres : c.reserved = false) (hana : anaCheck h n = (none, fwd)) :
    capsuleForNs h c n = awaitAdmission h c n.coll fwd := by
  have hfield : invalidField c = false := by
    unfold invalidField
    rw [decide_eq_false (Nat.not_lt.mpr hcount), htag, Bool.and_false, Bool.and_false]
    rfl
  unfold capsuleForNs
  rw [hfield, hres, hana]
  obtain hop | hop := hop <;> simp [hop, altersNs]

theorem capsuleChecked_own (h : Head) (c : Capsule) (n : Namespace) (ha : fget h c.wing FOQ_CTX_STATE_AUTHENTICATED c.ctx = 1)
    (hn : nsGet? h c.nsid = some n) (hc : n.coll = fget h c.wing FOQ_CTX_STATE_COLL c.ctx) : capsuleChecked h c = capsuleForNs h c n := by
  unfold capsuleChecked
  rw [if_neg (by omega), hn]
  exact if_neg (not_not.mpr hc)

theorem capsuleChecked_foreign (h : Head) (c : Capsule) (n : Namespace) (ha : fget h c.wing FOQ_CTX_STATE_AUTHENTICATED c.ctx = 1)
    (hn : nsGet? h c.nsid = some n) (hc : n.coll ≠ fget h c.wing FOQ_CTX_STATE_COLL c.ctx) :
    capsuleChecked h c = raise (endCapsule h c ⟨0, 0x0B, true⟩) c.wing Ev.FOQ_COLL_REFUSED := by
  unfold capsuleChecked
  rw [if_neg (by omega), hn]
  exact if_pos hc

/-- An I/O command that passes step 2 is checked (R93, R94). -/
theorem commandCapsule_checked (h : Head) (c : Capsule) (ht : CapsuleTaken h c) (hu : cidInUse h c = false) (hf : c.op ≠ .fabrics)
    (ha : c.op ≠ .admin) : commandCapsule h c = capsuleChecked (ackByQueue h c) c := by
  rw [commandCapsule, capsuleArrives_passes h c _ ht hu]
  cases hop : c.op <;> simp_all

theorem commandCapsule_passed (h : Head) (c : Capsule) (ht : CapsuleTaken h c) (hu : cidInUse h c = false)
    (hop : c.op = .fabrics ∨ (c.op = .admin ∧ ctxReaches h c = true)) : commandCapsule h c = passToSoftware (ackByQueue h c) c := by
  rw [commandCapsule, capsuleArrives_passes h c _ ht hu]
  obtain hop | ⟨hop, hr⟩ := hop
  · simp only [hop]
  · simp only [hop, ctxReaches_ackByQueue, hr, if_true]

theorem commandCapsule_waits (s : State) (c : Capsule) (n : Namespace) (fwd : Bool) (hrun : Runs s.dev) (ht : CapsuleTaken s.dev c)
    (hu : cidInUse s.dev c = false) (ha : fget s.dev c.wing FOQ_CTX_STATE_AUTHENTICATED c.ctx = 1) (hn : nsGet? s.dev c.nsid = some n)
    (hc : n.coll = fget s.dev c.wing FOQ_CTX_STATE_COLL c.ctx) (hop : c.op = .read ∨ c.op = .flush) (hcount : c.count ≤ 512)
    (htag : c.appTag = false) (hres : c.reserved = false) (hana : anaCheck s.dev n = (none, fwd)) :
    Completes (.commandCapsule c) s (fun h =>
      h.foy.waiting = s.dev.foy.waiting ++ [newCmd c n.coll fwd] ∧ h.foy.cmds = s.dev.foy.cmds ∧
        h.out = s.dev.out ∧ h.mem = s.dev.mem ∧ h.vit = s.dev.vit ∧ h.cat = s.dev.cat) := by
  have heq : commandCapsule s.dev c = awaitAdmission (ackByQueue s.dev c) c n.coll fwd := by
    rw [commandCapsule_checked _ _ ht hu (by obtain h | h := hop <;> simp [h]) (by obtain h | h := hop <;> simp [h]),
      capsuleChecked_own _ _ n ((fget_ackByQueue _ _ _ _ _ _ (by decide) (by decide)).trans ha) ((nsGet_ackByQueue _ _ _).trans hn)
        (hc.trans (fget_ackByQueue _ _ _ _ _ _ (by decide) (by decide)).symm),
      capsuleForNs_waits _ _ _ fwd hop hcount htag hres ((anaCheck_ackByQueue _ _ _).trans hana)]
  refine completes_of_eq (exec_commandCapsule c) hrun heq ?_
  obtain ⟨t, l, hack, _⟩ := ackByQueue_frame s.dev c
  rw [hack]
  exact ⟨rfl, rfl, rfl, rfl, rfl, rfl⟩

theorem commandCapsule_refuses_foreign (s : State) (c : Capsule) (n : Namespace) (hrun : Runs s.dev) (ht : CapsuleTaken s.dev c)
    (hl : HostListens s.dev c) (hu : cidInUse s.dev c = false) (hf : c.op ≠ .fabrics) (had : c.op ≠ .admin)
    (ha : fget s.dev c.wing FOQ_CTX_STATE_AUTHENTICATED c.ctx = 1) (hn : nsGet? s.dev c.nsid = some n)
    (hc : n.coll ≠ fget s.dev c.wing FOQ_CTX_STATE_COLL c.ctx) :
    Completes (.commandCapsule c) s (fun h =>
      h.out = s.dev.out ++ [hostAnswer s.dev c ⟨0, 0x0B, true⟩] ∧
        EventSet h c.wing Ev.FOQ_COLL_REFUSED ∧ h.foy.waiting = s.dev.foy.waiting) := by
  have hcoll := fget_ackByQueue s.dev c c.wing FOQ_CTX_STATE_COLL c.ctx 0 (by decide) (by decide)
  have heq : commandCapsule s.dev c = raise (endCapsule (ackByQueue s.dev c) c ⟨0, 0x0B, true⟩) c.wing Ev.FOQ_COLL_REFUSED := by
    rw [commandCapsule_checked _ _ ht hu hf had,
      capsuleChecked_foreign _ _ n ((fget_ackByQueue _ _ _ _ _ _ (by decide) (by decide)).trans ha) ((nsGet_ackByQueue _ _ _).trans hn)
        (by rw [hcoll]; exact hc)]
  have hlisten := hostListens_ackByQueue s.dev c hl
  obtain ⟨t, hfoy⟩ := foy_endCapsule_listening (ackByQueue s.dev c) c ⟨0, 0x0B, true⟩ hlisten
  refine completes_of_eq (exec_commandCapsule c) hrun heq ⟨?_, raiseAt_sets _ _ _ (by decide), ?_⟩
  · rw [raise_out, out_endCapsule_listening _ _ _ hlisten, hostAnswer_ackByQueue, out_ackByQueue]
  · rw [raise_foy, hfoy]
    exact waiting_ackByQueue _ _

theorem commandCapsule_to_software (s : State) (c : Capsule) (hrun : Runs s.dev) (ht : CapsuleTaken s.dev c) (hu : cidInUse s.dev c = false)
    (hop : c.op = .fabrics ∨ (c.op = .admin ∧ ctxReaches s.dev c = true)) :
    Completes (.commandCapsule c) s (fun h =>
      h.foy.passed = s.dev.foy.passed ++ [c] ∧ h.out = s.dev.out ++ [.exception c.wing c] ∧ h.foy.waiting = s.dev.foy.waiting ∧
        h.foy.cmds = s.dev.foy.cmds) := by
  refine completes_of_eq (exec_commandCapsule c) hrun (commandCapsule_passed _ _ ht hu hop) ?_
  obtain ⟨t, l, hack, _⟩ := ackByQueue_frame s.dev c
  rw [hack]
  exact ⟨rfl, rfl, rfl, rfl⟩

theorem capsule_not_taken (s : State) (c : Capsule) (hrun : Runs s.dev) (hn : fetchHeld s.dev c.wing = true ∨ notDelivered s.dev c = true) :
    ∀ i ∈ [Instr.commandCapsule c, .keepAlive c], Completes i s (fun h => h = s.dev) := by
  intro i hi
  obtain rfl | rfl : i = .commandCapsule c ∨ i = .keepAlive c := by simpa using hi
  · exact completes_of_eq (exec_commandCapsule c) hrun (capsuleArrives_held s.dev c _ hn) rfl
  · exact completes_of_eq (exec_keepAlive c) hrun (capsuleArrives_held s.dev c _ hn) rfl

theorem keepAlive_answered (s : State) (c : Capsule) (hrun : Runs s.dev) (ht : CapsuleTaken s.dev c) (hl : HostListens s.dev c)
    (hu : cidInUse s.dev c = false) :
    Completes (.keepAlive c) s (fun h =>
      h.out = s.dev.out ++ [hostAnswer s.dev c (if ctxReaches s.dev c then ⟨0, 0x00, false⟩ else ⟨0, 0x0B, true⟩)] ∧
        h.foy.waiting = s.dev.foy.waiting ∧ h.foy.cmds = s.dev.foy.cmds) := by
  have hlisten := hostListens_ackByQueue s.dev c hl
  obtain ⟨t, hfoy⟩ := foy_endCapsule_listening (ackByQueue s.dev c) c (if ctxReaches s.dev c then ⟨0, 0x00, false⟩ else ⟨0, 0x0B, true⟩) hlisten
  refine completes_of_eq (exec_keepAlive c) hrun (capsuleArrives_passes s.dev c _ ht hu) ?_
  rw [ctxReaches_ackByQueue, hfoy, out_endCapsule_listening _ _ _ hlisten, hostAnswer_ackByQueue, out_ackByQueue]
  exact ⟨rfl, waiting_ackByQueue _ _, cmds_ackByQueue _ _⟩

/-- Settles O21, clause by clause. -/
theorem capsulesAreCheckedInOrder : Obligations.CapsulesAreCheckedInOrder :=
  ⟨commandCapsule_waits, commandCapsule_refuses_foreign, commandCapsule_to_software, capsule_not_taken, keepAlive_answered⟩

end Sys2Proof.Laws
end

section
/-! Frames: which parts of the head and which registers an operation may change. An operation's frame is stated once, as `Frame parts
    regs h (op h)`;
the rules below carry it through compound operations, and `Frame.kept` and `Frame.regs` read it. -/

namespace Sys2Proof.Laws

open Machine Machine.Reg

/-- The parts of a head beside its register file. -/
inductive Part
  | pend | hiHold | hiLatch | evq | swWest | groupTimes | out | bus | freeCtr | frm | foy | vit | cat | eng | mem | poison
  | sram | mft | mftTxc | keys | bindings | plk | dsp | gal | cur | bridges | rpl | core | doc | arc | pwr | rsv
  deriving DecidableEq

/-- A part is the same in two heads. -/
def Part.same : Part → Head → Head → Prop
  | .pend, h, g => g.pend = h.pend
  | .hiHold, h, g => g.hiHold = h.hiHold
  | .hiLatch, h, g => g.hiLatch = h.hiLatch
  | .evq, h, g => g.evq = h.evq
  | .swWest, h, g => g.swWest = h.swWest
  | .groupTimes, h, g => g.groupTimes = h.groupTimes
  | .out, h, g => g.out = h.out
  | .bus, h, g => g.bus = h.bus
  | .freeCtr, h, g => g.freeCtr = h.freeCtr
  | .frm, h, g => g.frm = h.frm
  | .foy, h, g => g.foy = h.foy
  | .vit, h, g => g.vit = h.vit
  | .cat, h, g => g.cat = h.cat
  | .eng, h, g => g.eng = h.eng
  | .mem, h, g => g.mem = h.mem
  | .poison, h, g => g.poison = h.poison
  | .sram, h, g => g.sram = h.sram
  | .mft, h, g => g.mft = h.mft
  | .mftTxc, h, g => g.mftTxc = h.mftTxc
  | .keys, h, g => g.keys = h.keys
  | .bindings, h, g => g.bindings = h.bindings
  | .plk, h, g => g.plk = h.plk
  | .dsp, h, g => g.dsp = h.dsp
  | .gal, h, g => g.gal = h.gal
  | .cur, h, g => g.cur = h.cur
  | .bridges, h, g => g.bridges = h.bridges
  | .rpl, h, g => g.rpl = h.rpl
  | .core, h, g => g.core = h.core
  | .doc, h, g => g.doc = h.doc
  | .arc, h, g => g.arc = h.arc
  | .pwr, h, g => g.pwr = h.pwr
  | .rsv, h, g => g.rsv = h.rsv

/-- Two heads differ at most in some parts and in the registers at some offsets of some block's pages. -/
def Frame (l : List Part) (t : List (Block × Nat)) (h g : Head) : Prop := (∀ p, p ∉ l → p.same h g) ∧ RegsBut h g t

section
variable {l k : List Part} {t u : List (Block × Nat)} {a g g' : Head}

theorem Part.same_trans (p : Part) (x : p.same a g) (y : p.same g g') : p.same a g' := by
  cases p <;> exact Eq.trans y x

theorem Part.same_symm (p : Part) (x : p.same a g) : p.same g a := by
  cases p <;> exact Eq.symm x

theorem Part.same_refl (p : Part) (h : Head) : p.same h h := by
  cases p <;> rfl

theorem regsBut_symm (x : RegsBut a g t) : RegsBut g a t := fun p off bank ho hn => (x p off bank ho hn).symm

theorem frame_refl (l : List Part) (t : List (Block × Nat)) (h : Head) : Frame l t h h :=
  ⟨fun p _ => p.same_refl h, regsBut_refl h t⟩

theorem Frame.trans (x : Frame l t a g) (y : Frame l t g g') : Frame l t a g' :=
  ⟨fun p hp => p.same_trans (x.1 p hp) (y.1 p hp), regsBut_trans x.2 y.2⟩

theorem Frame.symm (x : Frame l t a g) : Frame l t g a := ⟨fun p hp => p.same_symm (x.1 p hp), regsBut_symm x.2⟩

theorem Frame.mono (x : Frame k u a g) (hl : k ⊆ l) (ht : u ⊆ t) : Frame l t a g :=
  ⟨fun p hp => x.1 p fun hk => hp (hl hk), regsBut_mono x.2 ht⟩

/-- A step within the frame is no matter. -/
theorem Frame.iff (x : Frame k u g g') (hl : k ⊆ l) (ht : u ⊆ t) : Frame l t a g' ↔ Frame l t a g :=
  ⟨fun y => y.trans (x.mono hl ht).symm, fun y => y.trans (x.mono hl ht)⟩

theorem Frame.regs (x : Frame l t a g) : RegsBut a g t := x.2

theorem frame_ite {c : Prop} {_ : Decidable c} : Frame l t a (if c then g else g') ↔ if c then Frame l t a g else Frame l t a g' := by
  split <;> rfl

theorem frame_onlyIf {c : Bool} {f : Head → Head} : Frame l t a (onlyIf c g f) ↔ if c then Frame l t a (f g) else Frame l t a g := by
  cases c <;> rfl

theorem frame_foldHead {α : Type} {f : Head → α → Head} {xs : List α} (h : ∀ g x, Frame l t g (f g x)) :
    Frame l t a (foldHead g xs f) ↔ Frame l t a g := by
  have hall (g : Head) : Frame l t g (foldHead g xs f) := by
    unfold foldHead
    induction xs generalizing g with
    | nil => exact frame_refl l t g
    | cons x xs ih => exact (h g x).trans (ih (f g x))
  exact (hall g).iff (fun _ h => h) (fun _ h => h)

theorem frame_foldHead_mem {α : Type} {f : Head → α → Head} {xs : List α} (h : ∀ g, ∀ x ∈ xs, Frame l t g (f g x)) :
    Frame l t a (foldHead a xs f) := by
  unfold foldHead
  induction xs generalizing a with
  | nil => exact frame_refl l t a
  | cons x xs ih => exact (h a x List.mem_cons_self).trans (ih fun g y hy => h g y (List.mem_cons_of_mem x hy))

/-- An update of parts that the frame names. -/
theorem frame_mk (g : Head) {xpend} {xhiHold} {xhiLatch} {xevq} {xswWest} {xgroupTimes} {xout} {xbus} {xfreeCtr} {xfrm} {xfoy} {xvit}
    {xcat} {xeng} {xmem} {xpoison} {xsram} {xmft} {xmftTxc} {xkeys} {xbindings} {xplk} {xdsp} {xgal} {xcur} {xbridges} {xrpl} {xcore} {xdoc}
    {xarc} {xpwr} {xrsv}
    (hx : (xpend = g.pend ∨ Part.pend ∈ l) ∧ (xhiHold = g.hiHold ∨ Part.hiHold ∈ l) ∧ (xhiLatch = g.hiLatch ∨ Part.hiLatch ∈ l) ∧ (xevq
      = g.evq ∨ Part.evq ∈ l) ∧ (xswWest = g.swWest ∨ Part.swWest ∈ l) ∧ (xgroupTimes = g.groupTimes ∨ Part.groupTimes ∈ l) ∧ (xout =
      g.out ∨ Part.out ∈ l) ∧ (xbus = g.bus ∨ Part.bus ∈ l) ∧ (xfreeCtr = g.freeCtr ∨ Part.freeCtr ∈ l) ∧ (xfrm = g.frm ∨ Part.frm ∈ l) ∧
      (xfoy = g.foy ∨ Part.foy ∈ l) ∧ (xvit = g.vit ∨ Part.vit ∈ l) ∧ (xcat = g.cat ∨ Part.cat ∈ l) ∧ (xeng = g.eng ∨ Part.eng ∈ l) ∧
      (xmem = g.mem ∨ Part.mem ∈ l) ∧ (xpoison = g.poison ∨ Part.poison ∈ l) ∧ (xsram = g.sram ∨ Part.sram ∈ l) ∧ (xmft = g.mft ∨ Part.mft
      ∈ l) ∧ (xmftTxc = g.mftTxc ∨ Part.mftTxc ∈ l) ∧ (xkeys = g.keys ∨ Part.keys ∈ l) ∧ (xbindings = g.bindings ∨ Part.bindings ∈ l) ∧
      (xplk = g.plk ∨ Part.plk ∈ l) ∧ (xdsp = g.dsp ∨ Part.dsp ∈ l) ∧ (xgal = g.gal ∨ Part.gal ∈ l) ∧ (xcur = g.cur ∨ Part.cur ∈ l) ∧
      (xbridges = g.bridges ∨ Part.bridges ∈ l) ∧ (xrpl = g.rpl ∨ Part.rpl ∈ l) ∧ (xcore = g.core ∨ Part.core ∈ l) ∧ (xdoc = g.doc ∨
      Part.doc ∈ l) ∧ (xarc = g.arc ∨ Part.arc ∈ l) ∧ (xpwr = g.pwr ∨ Part.pwr ∈ l) ∧ (xrsv = g.rsv ∨ Part.rsv ∈ l)) :
    Frame l t a ⟨g.regs, xpend, xhiHold, xhiLatch, xevq, xswWest, xgroupTimes, xout, xbus, xfreeCtr, xfrm, xfoy, xvit, xcat, xeng, xmem,
      xpoison, xsram, xmft, xmftTxc, xkeys, xbindings, xplk, xdsp, xgal, xcur, xbridges, xrpl, xcore, xdoc, xarc, xpwr, xrsv⟩ ↔ Frame l t
      a g := by
  obtain ⟨hpend, hhiHold, hhiLatch, hevq, hswWest, hgroupTimes, hout, hbus, hfreeCtr, hfrm, hfoy, hvit, hcat, heng, hmem, hpoison,
    hsram, hmft, hmftTxc, hkeys, hbindings, hplk, hdsp, hgal, hcur, hbridges, hrpl, hcore, hdoc, harc, hpwr, hrsv⟩ := hx
  refine Frame.iff (k := l) (u := t) ⟨fun p hp => ?_, fun _ _ _ _ _ => rfl⟩ (fun _ h => h) (fun _ h => h)
  cases p <;> exact Or.resolve_right (by assumption) hp

end

/-! ### The frames of the named operations -/

section
variable (h : Head) (w : Wing) (bank inst : Nat)

theorem frame_wr (p : Page) (off : Nat) (v : Word) : Frame [] [(p.block, off % 4096)] h (wr h p off bank v) :=
  ⟨fun q _ => by cases q <;> rfl, regsBut_wr (regsBut_refl h _) List.mem_cons_self⟩

theorem frame_fset (f : Fld) (v : Nat) : Frame [] [(f.block, f.off % 4096)] h (fset h w f v bank inst) := frame_wr h bank ⟨f.block, w, inst⟩ f.off _

theorem frame_hset (p : Page) (f : HBits) (v : Nat) : Frame [] [(p.block, f.off % 4096)] h (hset h p f v) := frame_wr h 0 p f.off _

theorem frame_fadd (f : Fld) (n : Nat) : Frame [] [(f.block, f.off % 4096)] h (fadd h w f n bank inst) := frame_fset h w bank inst f _

theorem frame_fmax (f : Fld) (v : Nat) : Frame [] [(f.block, f.off % 4096)] h (fmax h w f v bank inst) := frame_fset h w bank inst f _

theorem frame_pset (lo hi : Fld) (v : Nat) : Frame [] [(lo.block, lo.off % 4096), (hi.block, hi.off % 4096)] h (pset h w lo hi v bank) :=
  ((frame_fset h w bank 0 lo v).mono (fun _ h => h) (by simp)).trans ((frame_fset _ w bank 0 hi _).mono (fun _ h => h) (by simp))

theorem frame_send (m : Msg) : Frame [.out] [] h (send h m) :=
  ⟨fun q hq => by cases q <;> first | rfl | exact absurd List.mem_cons_self hq, regsBut_refl h _⟩

theorem frame_reply (e : Bool) (d : Word) : Frame [.bus] [] h (reply h e d) :=
  ⟨fun q hq => by cases q <;> first | rfl | exact absurd List.mem_cons_self hq, regsBut_refl h _⟩

theorem frame_raiseAt (p : Page) (n : Nat) : Frame [.evq] [(p.block, 0x010)] h (raiseAt h p n) := by
  unfold raiseAt
  dsimp only
  split
  · exact frame_refl _ _ h
  · refine Frame.trans ((frame_hset h p EVT_STATUS_EVENTS (hget h p EVT_STATUS_EVENTS ||| 1 <<< n)).mono (by simp) (by simp [EVT_STATUS_EVENTS])) ?_
    split
    · exact (frame_mk _ (by simp)).2 (frame_refl _ _ _)
    · exact frame_refl _ _ _

theorem frame_raise (e : EvRef) : Frame [.evq] [(e.block, 0x010)] h (raise h w e inst) := frame_raiseAt h _ _

theorem frame_raiseCounted (e : EvRef) : Frame [.evq] [(e.block, 0x010)] h (raiseCounted h w e inst) := by
  unfold raiseCounted
  dsimp only
  refine Frame.trans ((frame_hset h (pg e.block w inst) EVT_STATUS_EVENTS (hget h (pg e.block w inst) EVT_STATUS_EVENTS ||| 1 <<< e.n)).mono (by simp) (by simp [EVT_STATUS_EVENTS, pg])) ?_
  split
  · exact (frame_mk _ (by simp)).2 (frame_refl _ _ _)
  · exact frame_refl _ _ _

theorem frame_raiseBoth (e : EvRef) : Frame [.evq] [(e.block, 0x010)] h (raiseBoth h e) := (frame_raise h .east 0 e).trans (frame_raise _ .west 0 e)

theorem frame_capture (p : Page) (e : ErrRec) : Frame [] [(p.block, 0x020), (p.block, 0x024), (p.block, 0x028)] h (capture h p e) := by
  unfold capture
  split
  · exact (frame_hset h p _ _).mono (by simp) (by simp [ERR_INFO_COUNT])
  · exact (((frame_wr h 0 p _ _).mono (by simp) (by simp)).trans ((frame_hset _ p _ _).mono (by simp) (by simp [ERR_ADDR_LO_ADDR]))).trans
      ((frame_hset _ p _ _).mono (by simp) (by simp [ERR_ADDR_HI_ADDR]))

theorem frame_config (p : Page) (e : ErrRec) :
    Frame [.evq] [(p.block, 0x010), (p.block, 0x020), (p.block, 0x024), (p.block, 0x028)] h (config h p e) := by
  have hc := (frame_capture h p e).mono (l := [.evq]) (List.nil_subset _) (List.subset_cons_self (p.block, 0x010) _)
  unfold config
  dsimp only
  refine hc.trans ?_
  generalize capture h p e = g
  split
  next hb =>
    refine Frame.trans ((frame_raiseAt g _ _).mono (fun _ h => h) ?_) ((frame_raiseAt _ _ _).mono (fun _ h => h) ?_) <;> simp [hb, pg]
  next => exact (frame_raiseAt g _ _).mono (fun _ h => h) (by simp)

end

/-- The rules that carry a frame through compound operations. -/
theorem frame_rules {l : List Part} {t : List (Block × Nat)} {a : Head} :
    (∀ g p off bank v, (p.block, off % 4096) ∈ t → (Frame l t a (wr g p off bank v) ↔ Frame l t a g)) ∧
    (∀ g w f v bank inst, (f.block, f.off % 4096) ∈ t → (Frame l t a (fset g w f v bank inst) ↔ Frame l t a g)) ∧
    (∀ g p f v, (p.block, f.off % 4096) ∈ t → (Frame l t a (hset g p f v) ↔ Frame l t a g)) ∧
    (∀ g w f n bank inst, (f.block, f.off % 4096) ∈ t → (Frame l t a (fadd g w f n bank inst) ↔ Frame l t a g)) ∧
    (∀ g w f v bank inst, (f.block, f.off % 4096) ∈ t → (Frame l t a (fmax g w f v bank inst) ↔ Frame l t a g)) ∧
    (∀ g w lo hi v bank, (lo.block, lo.off % 4096) ∈ t → (hi.block, hi.off % 4096) ∈ t →
      (Frame l t a (pset g w lo hi v bank) ↔ Frame l t a g)) ∧
    (∀ g m, .out ∈ l → (Frame l t a (send g m) ↔ Frame l t a g)) ∧
    (∀ g e d, .bus ∈ l → (Frame l t a (reply g e d) ↔ Frame l t a g)) ∧
    (∀ g p n, .evq ∈ l → (p.block, 0x010) ∈ t → (Frame l t a (raiseAt g p n) ↔ Frame l t a g)) ∧
    (∀ g w e inst, .evq ∈ l → (e.block, 0x010) ∈ t → (Frame l t a (raise g w e inst) ↔ Frame l t a g)) ∧
    (∀ g w e inst, .evq ∈ l → (e.block, 0x010) ∈ t → (Frame l t a (raiseCounted g w e inst) ↔ Frame l t a g)) ∧
    (∀ g e, .evq ∈ l → (e.block, 0x010) ∈ t → (Frame l t a (raiseBoth g e) ↔ Frame l t a g)) ∧
    (∀ g p e, (p.block, 0x020) ∈ t → (p.block, 0x024) ∈ t → (p.block, 0x028) ∈ t → (Frame l t a (capture g p e) ↔ Frame l t a g)) ∧
    (∀ g p e, .evq ∈ l → (p.block, 0x010) ∈ t → (p.block, 0x020) ∈ t → (p.block, 0x024) ∈ t → (p.block, 0x028) ∈ t →
      (Frame l t a (config g p e) ↔ Frame l t a g)) :=
  ⟨fun g p off bank v h => (frame_wr g bank p off v).iff (by simp) (by simpa),
    fun g w f v bank inst h => (frame_fset g w bank inst f v).iff (by simp) (by simpa),
    fun g p f v h => (frame_hset g p f v).iff (by simp) (by simpa),
    fun g w f n bank inst h => (frame_fadd g w bank inst f n).iff (by simp) (by simpa),
    fun g w f v bank inst h => (frame_fmax g w bank inst f v).iff (by simp) (by simpa),
    fun g w lo hi v bank h h' => (frame_pset g w bank lo hi v).iff (by simp) (by simp [h, h']),
    fun g m h => (frame_send g m).iff (by simpa) (by simp),
    fun g e d h => (frame_reply g e d).iff (by simpa) (by simp),
    fun g p n h h' => (frame_raiseAt g p n).iff (by simpa) (by simpa),
    fun g w e inst h h' => (frame_raise g w inst e).iff (by simpa) (by simpa),
    fun g w e inst h h' => (frame_raiseCounted g w inst e).iff (by simpa) (by simpa),
    fun g e h h' => (frame_raiseBoth g e).iff (by simpa) (by simpa),
    fun g p e h h' h'' => (frame_capture g p e).iff (by simp) (by simp [h, h', h'']),
    fun g p e h h' h'' h3 h4 => (frame_config g p e).iff (by simpa) (by simp [h', h'', h3, h4])⟩

/-- A frame that names only events is SameButRegs. -/
theorem Frame.sameButRegs {t : List (Block × Nat)} {h g : Head} (x : Frame [.evq] t h g) : SameButRegs h g := by
  unfold SameButRegs
  rw [head_eq_iff]
  have hp := fun p hn => x.1 p hn
  refine ⟨rfl, ?_⟩
  refine ⟨hp .pend (by simp), hp .hiHold (by simp), hp .hiLatch (by simp), rfl, hp .swWest (by simp), hp .groupTimes (by simp), hp .out (by simp),
    hp .bus (by simp), hp .freeCtr (by simp), hp .frm (by simp), hp .foy (by simp), hp .vit (by simp), hp .cat (by simp), hp .eng (by simp),
    hp .mem (by simp), hp .poison (by simp), hp .sram (by simp), hp .mft (by simp), hp .mftTxc (by simp), hp .keys (by simp), hp .bindings (by simp),
    hp .plk (by simp), hp .dsp (by simp), hp .gal (by simp), hp .cur (by simp), hp .bridges (by simp), hp .rpl (by simp), hp .core (by simp),
    hp .doc (by simp), hp .arc (by simp), hp .pwr (by simp), hp .rsv (by simp)⟩

end Sys2Proof.Laws
end

section
/-! Frames of the Archive's, the recorder's and the update engine's operations (R429 to R451). -/

namespace Sys2Proof.Laws

open Machine Machine.Reg

theorem frame_memWrite (h : Head) (a n v : Nat) : Frame [.mem, .poison] [] h (memWrite h a n v) := by
  simp +decide only [memWrite, frame_mk, true_or, or_true, and_self, frame_refl]

theorem frame_fresh (h : Head) : Frame [.freeCtr] [] h (fresh h).2 := by
  simp +decide only [fresh, frame_mk, true_or, or_true, and_self, frame_refl]

theorem frame_setWord (h : Head) (n v : Nat) : Frame [.arc] [] h (setWord h n v) := by
  simp +decide only [setWord, frame_mk, true_or, or_true, and_self, frame_refl]

theorem frame_programWord (h : Head) (n v : Nat) : Frame [.arc] [(.arc, 0x068)] h (programWord h n v) := by
  simp +decide only [programWord, frame_rules, (frame_setWord ..).iff, frame_refl]

theorem frame_setSector (h : Head) (s st : Nat) : Frame [.arc] [] h (setSector h s st) := by
  simp +decide only [setSector, frame_mk, true_or, or_true, and_self, frame_refl]

theorem frame_eraseSector (h : Head) (s : Nat) : Frame [.arc] [(.arc, 0x06C)] h (eraseSector h s) := by
  simp +decide only [eraseSector, frame_rules, (frame_setSector ..).iff, frame_mk, true_or, or_true, and_self, frame_refl]

theorem frame_halfWord (h : Head) (n v : Nat) : Frame [.arc, .freeCtr] [] h (halfWord h n v) := by
  simp +decide only [halfWord, fresh, (frame_setWord ..).iff, frame_mk, true_or, or_true, and_self, frame_refl]

theorem frame_halfSector (h : Head) (s : Nat) : Frame [.arc, .freeCtr] [] h (halfSector h s) := by
  simp +decide only [halfSector, fresh, frame_foldHead, (frame_setSector ..).iff, (frame_setWord ..).iff, frame_mk, true_or, or_true, and_self, frame_refl, implies_true]

theorem frame_syncSlots (h : Head) : Frame [] [(.upd, 0x054)] h (syncSlots h) := frame_fset h .east 0 0 UPD_SLOTS_STATE _

theorem frame_arcClear (h : Head) : Frame [.arc] [(.arc, 0x044), (.arc, 0x054)] h (arcClear h) := by
  simp +decide only [arcClear, frame_rules, frame_mk, true_or, or_true, and_self, frame_refl]

theorem frame_arcApply (h : Head) (o : ArcOp) (short : Option Nat) : Frame [.arc, .freeCtr] [(.arc, 0x068), (.arc, 0x06C)] h (arcApply h o short) := by
  unfold arcApply
  split
  · dsimp only
    split <;> simp +decide only [frame_foldHead, (frame_programWord ..).iff, (frame_halfWord ..).iff, frame_refl, implies_true]
  · simp +decide only [frame_ite, frame_foldHead, (frame_eraseSector ..).iff, (frame_halfSector ..).iff, frame_refl, implies_true, ite_self]
  · simp +decide only [fresh, (frame_setSector ..).iff, frame_mk, true_or, or_true, and_self, frame_refl]

theorem frame_arcWriteEntry (h : Head) (e : Nat) : Frame [.arc, .sram] [(.arc, 0x04C)] h (arcWriteEntry h e) := by
  simp +decide only [arcWriteEntry, frame_rules, frame_mk, true_or, or_true, and_self, frame_refl]

theorem frame_arcComplete (h : Head) (tag : Nat) (quiet : Bool) (st : Status) (bytes word : Nat) :
    Frame [.arc, .sram] [(.arc, 0x04C)] h (arcComplete h tag quiet st bytes word) := by
  simp +decide only [arcComplete, frame_ite, (frame_arcWriteEntry ..).iff, frame_mk, true_or, or_true, and_self, frame_refl, ite_self]

theorem frame_updReply (h : Head) (st : Status) : Frame [.mem, .poison] [] h (updReply h st) := frame_memWrite h _ _ _

theorem frame_updEnd (h : Head) (u : UpdWrite) (st : Status) :
    Frame [.arc, .mem, .poison, .evq] [(.upd, 0x010), (.upd, 0x050)] h (updEnd h u st) := by
  unfold updEnd
  dsimp only
  split <;> simp +decide only [frame_rules, frame_ite, (frame_updReply ..).iff, frame_mk, true_or, or_true, and_self, frame_refl, ite_self]

theorem frame_arcReport (h : Head) (o : ArcOp) (st : Status) (bytes word : Nat) :
    Frame [.arc, .sram, .mem, .poison, .evq] [(.arc, 0x04C), (.upd, 0x010), (.upd, 0x050)] h (arcReport h o st bytes word) := by
  unfold arcReport
  split
  · exact (frame_arcComplete h _ _ _ _ _).mono (by decide) (by decide)
  · split
    · simp +decide only [frame_rules, frame_refl]
    · split
      · exact (frame_updEnd h _ _).mono (by decide) (by decide)
      · split <;> simp +decide only [frame_rules, (frame_updEnd ..).iff, frame_mk, true_or, or_true, and_self, frame_refl]

theorem frame_arcAnswer (h : Head) (d : Desc) (st : Status) (bytes word : Nat) :
    Frame [.arc, .sram] [(.arc, 0x044), (.arc, 0x04C)] h (arcAnswer h d st bytes word) := by
  simp +decide only [arcAnswer, arcTake, frame_rules, (frame_arcComplete ..).iff, frame_refl]

theorem frame_abortQueue (n : Nat) : ∀ h : Head, Frame [.arc, .sram] [(.arc, 0x044), (.arc, 0x04C)] h (abortQueue h n) := by
  induction n with
  | zero => exact fun h => frame_refl _ _ h
  | succ n ih =>
    intro h
    unfold abortQueue
    split
    · exact frame_refl _ _ h
    · exact (frame_arcAnswer h _ _ _ _).trans (ih _)

theorem frame_syncRecs (h : Head) : Frame [] [(.prv, 0x04C)] h (syncRecs h) := by
  simp +decide only [syncRecs, frame_rules, frame_refl]

theorem frame_record (h : Head) (source code payload : Nat) (firmware : Bool) :
    Frame [.arc, .evq] [(.prv, 0x010), (.prv, 0x04C), (.prv, 0x050), (.prv, 0x080)] h (record h source code payload firmware) := by
  simp +decide only [record, (frame_syncRecs ..).iff, frame_ite, frame_rules, frame_mk, true_or, or_true, and_self, frame_refl, ite_self]

theorem frame_programRecord (h : Head) (r : RecEntry) (ok : Bool) : Frame [.arc, .freeCtr]
    [(.arc, 0x068), (.arc, 0x06C), (.prv, 0x044), (.prv, 0x048), (.prv, 0x04C), (.prv, 0x080)] h (programRecord h r ok) := by
  simp +decide only [programRecord, (frame_syncRecs ..).iff, fresh, frame_ite, frame_rules, (frame_programWord ..).iff, (frame_halfWord ..).iff,
    (frame_eraseSector ..).iff, frame_mk, true_or, or_true, and_self, frame_refl, ite_self]

theorem frame_drainRecords (h : Head) : Frame [.arc, .freeCtr]
    [(.arc, 0x068), (.arc, 0x06C), (.prv, 0x044), (.prv, 0x048), (.prv, 0x04C), (.prv, 0x080)] h (drainRecords h) := by
  simp +decide only [drainRecords, frame_foldHead, (frame_programRecord ..).iff, frame_refl, implies_true]

theorem frame_arcStop (h : Head) (verified : Nat) : Frame [.arc, .sram, .mem, .poison, .evq, .freeCtr]
    [(.arc, 0x010), (.arc, 0x044), (.arc, 0x04C), (.arc, 0x054), (.arc, 0x068), (.arc, 0x06C), (.upd, 0x010), (.upd, 0x050),
      (.upd, 0x054)] h (arcStop h verified) := by
  unfold arcStop
  have hq : ∀ g : Head, Frame [.arc, .sram, .mem, .poison, .evq, .freeCtr]
      [(.arc, 0x010), (.arc, 0x044), (.arc, 0x04C), (.arc, 0x054), (.arc, 0x068), (.arc, 0x06C), (.upd, 0x010), (.upd, 0x050),
        (.upd, 0x054)] h g → Frame [.arc, .sram, .mem, .poison, .evq, .freeCtr]
      [(.arc, 0x010), (.arc, 0x044), (.arc, 0x04C), (.arc, 0x054), (.arc, 0x068), (.arc, 0x06C), (.upd, 0x010), (.upd, 0x050),
        (.upd, 0x054)] h (raise (fset (match (abortQueue g 64).arc.upd with
          | some u => updEnd (abortQueue g 64) u .aborted
          | none => abortQueue g 64) .east ARC_STATUS_STOPPED 1) .east Ev.ARC_STOPPED) := by
    intro g hg
    simp +decide only [frame_rules]
    split <;> simp +decide only [(frame_updEnd ..).iff, (frame_abortQueue ..).iff, hg]
  refine hq _ ?_
  split
  · exact frame_refl _ _ h
  · simp +decide only [fresh, (frame_arcReport ..).iff, (frame_syncSlots ..).iff, (frame_arcApply ..).iff, (frame_arcClear ..).iff, frame_mk, true_or, or_true, and_self, frame_refl]

end Sys2Proof.Laws
end

section
/-! Frames of the key slots', the binding table's and the measurement registers' operations (R400, R409 to R414). -/

namespace Sys2Proof.Laws

open Machine Machine.Reg

/-- The registers of a measurement: the event, the value, its count and the registers used. -/
def msrRegs : List (Block × Nat) := [(.msr, 0x010), (.msr, 0x048), (.msr, 0x04C), (.msr, 0x050), (.msr, 0x054), (.msr, 0x058), (.msr, 0x05C),
  (.msr, 0x060), (.msr, 0x064), (.msr, 0x068), (.msr, 0x06C), (.msr, 0x070), (.msr, 0x074), (.msr, 0x0AC), (.msr, 0x0B0)]

theorem frame_setMsr (h : Head) (r v : Nat) : Frame [] msrRegs h (setMsr h r v) := by
  have hk : ∀ k ∈ List.range 12, ((pg .msr .east).block, (0x048 + 4 * k) % 4096) ∈ msrRegs := by decide
  unfold setMsr
  exact frame_foldHead_mem fun g k hm => (frame_wr g r _ _ _).mono (fun _ h => h) (by simpa using hk k hm)

theorem frame_msrExtend (h : Head) (r input : Nat) : Frame [.evq] msrRegs h (msrExtend h r input) := by
  simp +decide only [msrExtend, frame_rules, (frame_setMsr ..).iff, frame_refl]

theorem frame_setKeyState (h : Head) (id st : Nat) : Frame [.evq] [(.key, 0x010), (.key, 0x048), (.key, 0x05C)] h (setKeyState h id st) := by
  simp +decide only [setKeyState, frame_ite, frame_rules, frame_refl, ite_self]

theorem frame_syncFpStates (h : Head) : Frame [] [(.dge, 0x05C)] h (syncFpStates h) := by
  simp +decide only [syncFpStates, frame_foldHead, frame_rules, frame_refl, implies_true]

theorem frame_setFpState (h : Head) (coll : Nat) (on : Bool) : Frame [.eng] [(.dge, 0x05C)] h (setFpState h coll on) := by
  simp +decide only [setFpState, (frame_syncFpStates ..).iff, frame_mk, true_or, or_true, and_self, frame_refl]

theorem frame_fillSlot (h : Head) (id v : Nat) : Frame [.keys, .eng, .freeCtr, .evq] [(.key, 0x010), (.key, 0x048), (.key, 0x04C), (.key, 0x05C)] h
    (fillSlot h id v) := by
  simp +decide only [fillSlot, fresh, (frame_setKeyState ..).iff, frame_rules, frame_mk, true_or, or_true, and_self, frame_refl]

theorem frame_activateSlot (h : Head) (id : Nat) : Frame [.eng, .evq] [(.dge, 0x05C), (.key, 0x010), (.key, 0x048), (.key, 0x05C)] h
    (activateSlot h id).2 := by
  unfold activateSlot
  split
  · exact frame_refl _ _ h
  · simp +decide only [frame_foldHead, (frame_setFpState ..).iff, (frame_setKeyState ..).iff, frame_refl, implies_true]

theorem frame_forgetKey (h : Head) (id : Nat) : Frame [.eng] [] h (forgetKey h id) := by
  simp +decide only [forgetKey, dropKey, frame_mk, true_or, or_true, and_self, frame_refl]

theorem frame_revokeSlot (h : Head) (id : Nat) : Frame [.eng, .evq] [(.key, 0x010), (.key, 0x048), (.key, 0x05C)] h (revokeSlot h id).2 := by
  unfold revokeSlot
  split
  · exact frame_refl _ _ h
  · split
    · exact frame_refl _ _ h
    · simp +decide only [(frame_setKeyState ..).iff, (frame_forgetKey ..).iff, frame_refl]

theorem frame_zeroiseSlot (h : Head) (id : Nat) : Frame [.eng, .keys, .evq] [(.key, 0x010), (.key, 0x048), (.key, 0x05C)] h (zeroiseSlot h id).2 := by
  unfold zeroiseSlot
  split
  · exact frame_refl _ _ h
  · split
    · exact frame_refl _ _ h
    · simp +decide only [(frame_setKeyState ..).iff, (frame_forgetKey ..).iff, frame_mk, true_or, or_true, and_self, frame_refl]

theorem frame_setAttr (h : Head) (id kind usage : Nat) (system : Bool) (coll : Nat) :
    Frame [] [(.key, 0x048)] h (setAttr h id kind usage system coll) := by
  simp +decide only [setAttr, frame_rules, frame_refl]

theorem frame_placeKey (h : Head) (id kind usage : Nat) (system : Bool) (coll v : Nat) : Frame [.eng, .keys, .freeCtr, .evq]
    [(.dge, 0x05C), (.key, 0x010), (.key, 0x048), (.key, 0x04C), (.key, 0x05C), (.key, 0x070)] h (placeKey h id kind usage system coll v).2 := by
  unfold placeKey
  split
  · exact frame_refl _ _ h
  · simp +decide only [(frame_activateSlot ..).iff, (frame_fillSlot ..).iff, (frame_setAttr ..).iff, frame_rules, frame_refl]

theorem frame_placePrivate (h : Head) (n kind v : Nat) : Frame [.eng, .keys, .freeCtr, .evq]
    [(.dge, 0x05C), (.key, 0x010), (.key, 0x048), (.key, 0x04C), (.key, 0x05C), (.key, 0x070)] h (placePrivate h n kind v).2 := by
  simp +decide only [placePrivate, (frame_placeKey ..).iff, frame_ite, (frame_zeroiseSlot ..).iff, frame_refl, ite_self]

theorem frame_contextKeys (h : Head) : Frame [.eng, .keys, .freeCtr, .evq]
    [(.dge, 0x05C), (.key, 0x010), (.key, 0x048), (.key, 0x04C), (.key, 0x05C), (.key, 0x070)] h (contextKeys h) := by
  simp +decide only [contextKeys, fresh, frame_ite, frame_foldHead, (frame_placePrivate ..).iff, frame_mk, true_or, or_true, and_self, frame_refl,
    implies_true, ite_self]

theorem frame_restoreKey (h : Head) (k : ImageKey) : Frame [.eng, .keys, .freeCtr, .evq]
    [(.dge, 0x05C), (.key, 0x010), (.key, 0x048), (.key, 0x04C), (.key, 0x05C), (.key, 0x070)] h (restoreKey h k) := by
  simp +decide only [restoreKey, (frame_activateSlot ..).iff, (frame_fillSlot ..).iff, frame_rules, pg, frame_refl]

theorem frame_syncBinding (h : Head) (i : Nat) : Frame [] [(.key, 0x064), (.key, 0x068), (.rgs, 0x054), (.rpl, 0x054)] h (syncBinding h i) := by
  unfold syncBinding
  split <;> simp +decide only [frame_rules, frame_refl]

theorem frame_commitBinding (h : Head) (i : Nat) (b : Binding) : Frame [.bindings, .eng, .evq]
    ([(.dge, 0x05C), (.key, 0x010), (.key, 0x064), (.key, 0x068), (.rgs, 0x054), (.rpl, 0x054)] ++ msrRegs) h (commitBinding h i b).2 := by
  simp +decide only [commitBinding, apply_ite Prod.snd, frame_ite, frame_rules, (frame_msrExtend ..).iff, (frame_setFpState ..).iff,
    (frame_syncBinding ..).iff, frame_mk, true_or, or_true, and_self, frame_refl, ite_self]

end Sys2Proof.Laws
end

section
/-! The boot: what it leaves of Docent's state (R398 to R406). -/

namespace Sys2Proof.Laws

open Machine Machine.Reg

/-- What the boot leaves of Docent: that it has booted, and the custodians of the fuse rows. -/
def trust (h : Head) : Bool × List Nat := (h.doc.booted, h.doc.custodians)

theorem Frame.trust {l : List Part} {t : List (Block × Nat)} {h g : Head} (x : Frame l t h g) (hl : .doc ∉ l) : trust g = trust h := by
  have hd : g.doc = h.doc := x.1 .doc hl
  simp only [Laws.trust, hd]

theorem trust_foldHead {α : Type} {f : Head → α → Head} (hf : ∀ h a, trust (f h a) = trust h) (l : List α) (h : Head) :
    trust (foldHead h l f) = trust h := foldHead_frame trust hf l h

theorem frame_rejectSlot (h : Head) (s reason : Nat) : Frame [.arc] [(.arc, 0x068), (.doc, 0x044)] h (rejectSlot h s reason) := by
  simp +decide only [rejectSlot, setFallback, frame_rules, (frame_programWord ..).iff, frame_refl]

theorem frame_rejectTrials (h : Head) (os : Bool) : Frame [.arc] [(.arc, 0x068), (.doc, 0x044)] h (rejectTrials h os) := by
  simp +decide only [rejectTrials, frame_foldHead, frame_ite, (frame_rejectSlot ..).iff, frame_refl, implies_true, ite_self]

theorem frame_selectSlot (os : Bool) (n : Nat) : ∀ h : Head, Frame [.arc] [(.arc, 0x068), (.doc, 0x044)] h (selectSlot h os n).2 := by
  induction n with
  | zero => exact fun h => frame_refl _ _ h
  | succ n ih =>
    intro h
    have hp (new : Bool) (s : Nat) : Frame [.arc] [(.arc, 0x068), (.doc, 0x044)] h
        (if new then programWord h (controlWord s 1) (marker (slotMagic 1) 0) else h) := by
      simp +decide only [frame_ite, (frame_programWord ..).iff, frame_refl, ite_self]
    unfold selectSlot
    split
    · exact frame_refl _ _ h
    · dsimp only
      split
      · exact (hp _ _).trans ((frame_rejectSlot _ _ _).trans (ih _))
      · exact hp _ _

theorem frame_bootSlot (h : Head) (os : Bool) : Frame [.arc] [(.arc, 0x068), (.doc, 0x044)] h (bootSlot h os).2 :=
  (frame_rejectTrials h os).trans (frame_selectSlot os 2 _)

theorem frame_bootMeasure (h : Head) : Frame [.evq] msrRegs h (bootMeasure h) :=
  ((frame_msrExtend h _ _).trans (frame_msrExtend _ _ _)).trans (frame_msrExtend _ _ _)

theorem frame_enterRecovery (h : Head) : Frame [.evq] [(.doc, 0x010), (.doc, 0x044)] h (enterRecovery h) := by
  simp +decide only [enterRecovery, frame_rules, frame_refl]

theorem frame_bootImage (h : Head) (s : Nat) (trial : Bool) :
    Frame [.evq] ([(.arc, 0x060), (.arc, 0x064), (.doc, 0x044), (.upd, 0x060)] ++ msrRegs) h (bootImage h s trial) := by
  simp +decide only [bootImage, frame_rules, (frame_msrExtend ..).iff, frame_refl]

theorem trust_bootSecrets (h : Head) : trust (bootSecrets h) = trust h :=
  (Frame.trust (l := [.eng, .keys, .freeCtr, .evq]) (frame_placePrivate { h with doc := { h.doc with attest := _ } } 4 5 _) (by decide) :)

theorem frame_startTrial (h : Head) : Frame [.arc] [(.upd, 0x05C)] h (startTrial h) := by
  simp +decide only [startTrial, frame_ite, frame_rules, frame_mk, true_or, or_true, and_self, frame_refl, ite_self]

theorem trust_ite {c : Prop} {_ : Decidable c} (g h : Head) : trust (if c then g else h) = if c then trust g else trust h := by
  split <;> rfl

theorem trust_msrExtend (h : Head) (r input : Nat) : trust (msrExtend h r input) = trust h := (frame_msrExtend h r input).trust (by decide)

theorem trust_bootKeys (h : Head) : trust (bootKeys h) = trust h := by
  have hk (l : List ImageKey) (g : Head) : trust (foldHead g l restoreKey) = trust g :=
    trust_foldHead (fun h k => (frame_restoreKey h k).trust (by decide)) l g
  have hcb (h : Head) (e : Nat × Binding) : trust (commitBinding h e.1 e.2).2 = trust h := (frame_commitBinding h e.1 e.2).trust (by decide)
  have hb (l : Tab Binding) (g : Head) : trust (foldHead g l (fun h e => (commitBinding h e.1 e.2).2)) = trust g :=
    trust_foldHead hcb l g
  have hc (g : Head) : trust (contextKeys g) = trust g := (frame_contextKeys g).trust (by decide)
  simp only [bootKeys, trust_msrExtend, trust_ite, hk, hb, hc, ite_self]

theorem frame_bootRoutes (h : Head) :
    Frame [] [(.evt, 0x048), (.rsv, 0x014), (.wdg, 0x014), (.alm, 0x014)] h (bootRoutes h) := by
  have hl (g : Head) (n r : Nat) : Frame [] [(.evt, 0x048), (.rsv, 0x014), (.wdg, 0x014), (.alm, 0x014)] g (lockRoute g n r) := by
    simp +decide only [lockRoute, frame_rules, frame_refl]
  have hb (g : Head) : ∀ b ∈ [Block.rsv, .wdg, .alm],
      Frame [] [(.evt, 0x048), (.rsv, 0x014), (.wdg, 0x014), (.alm, 0x014)] g (enableEvents g b) := by
    intro b hb
    have hm : ∀ b ∈ [Block.rsv, .wdg, .alm], (b, 0x014) ∈ [(Block.evt, 0x048), (.rsv, 0x014), (.wdg, 0x014), (.alm, 0x014)] := by decide
    exact (frame_hset g (pg b .east) EVT_ENABLE_EVENTS _).mono (fun _ h => h) (by simpa [EVT_ENABLE_EVENTS, pg] using hm b hb)
  unfold bootRoutes
  dsimp only
  refine Frame.trans ?_ (frame_foldHead_mem hb)
  have hln (g : Head) (n r : Nat) {a : Head} := (hl g n r).iff (a := a) (fun _ h => h) (fun _ h => h)
  simp only [frame_foldHead, hln, frame_refl, implies_true]

theorem frame_docConfig (h : Head) (b : Block) (src code off : Nat) :
    Frame [.evq] [(b, 0x010), (b, 0x020), (b, 0x024), (b, 0x028)] h (docConfig h b src code off) := frame_config h (pg b .east) _

theorem frame_rsvConfig (h : Head) (src code off : Nat) :
    Frame [.evq] [(.rsv, 0x010), (.rsv, 0x020), (.rsv, 0x024), (.rsv, 0x028)] h (rsvConfig h src code off) := frame_docConfig h .rsv src code off

theorem frame_setRsv (h : Head) (f : RsvState → RsvState) : Frame [.rsv] [] h (setRsv h f) := by
  simp +decide only [setRsv, frame_mk, true_or, or_true, and_self, frame_refl]

theorem frame_rsvModeEffect (h : Head) (src v : Nat) :
    Frame [.rsv, .evq] [(.rsv, 0x010), (.rsv, 0x020), (.rsv, 0x024), (.rsv, 0x028), (.rsv, 0x040)] h (rsvModeEffect h src v) := by
  simp +decide only [rsvModeEffect, (frame_rsvConfig ..).iff, (frame_setRsv ..).iff, frame_ite, frame_rules, frame_refl, ite_self]

theorem frame_bootReservoir (h : Head) : Frame [.rsv, .evq]
    [(.rsv, 0x010), (.rsv, 0x020), (.rsv, 0x024), (.rsv, 0x028), (.rsv, 0x040), (.rsv, 0x080), (.rsv, 0x088)] h (bootReservoir h) := by
  simp +decide only [bootReservoir, (frame_rsvModeEffect ..).iff, frame_foldHead, frame_rules, frame_refl, implies_true]

theorem frame_ringSystem (h : Head) (src : Nat) (w : Wing) (n : Nat) (on : Bool) :
    Frame [.evq] [(.doc, 0x010), (.doc, 0x020), (.doc, 0x024), (.doc, 0x028), (.cpu, 0x060)] h (ringSystem h src w n on) := by
  simp +decide only [ringSystem, (frame_docConfig ..).iff, frame_ite, frame_rules, frame_refl, ite_self]

theorem trust_bootConfig (h : Head) : trust (bootConfig h) = trust h := by
  have hr (g : Head) : trust (foldHead g Config.bootRings (fun h n => ringSystem h 0xFE (wingOf (n / 1024)) (n % 1024) true)) = trust g :=
    trust_foldHead (fun h n => (frame_ringSystem h _ _ _ _).trust (by decide)) _ g
  have hm (g : Head) : trust (fset g .east DOC_MIRROR_PAGES Config.bootMirrors) = trust g := rfl
  simp only [bootConfig, trust_msrExtend, hm, hr, (frame_bootReservoir _).trust (l := [.rsv, .evq]) (by decide),
    (frame_bootRoutes _).trust (l := []) (by decide)]

theorem frame_bootOs (h : Head) :
    Frame [.arc, .evq] ([(.arc, 0x068), (.doc, 0x044), (.upd, 0x060)] ++ msrRegs) h (bootOs h).2 := by
  have hb := (frame_bootSlot h true).mono (l := [.arc, .evq]) (t := [(.arc, 0x068), (.doc, 0x044), (.upd, 0x060)] ++ msrRegs) (by decide) (by decide)
  unfold bootOs
  split
  next hs => rw [hs] at hb; exact hb
  next s trial g hs =>
    rw [hs] at hb
    simp +decide only [(frame_msrExtend ..).iff, frame_rules]
    exact hb

theorem trust_writeProvenance (h : Head) : trust (writeProvenance h) = trust h := by
  have hf (l : List Nat) (g : Head) (a v : Nat) : trust (foldHead g l (fun h i => programWord h (a + i) (v >>> (256 * i) % 2 ^ 256))) = trust g :=
    trust_foldHead (fun h i => (frame_programWord h _ _).trust (by decide)) l g
  have he (c : Prop) [Decidable c] (g : Head) (s : Nat) : trust (if c then eraseSector g s else g) = trust g := by
    split
    · exact (frame_eraseSector g s).trust (by decide)
    · rfl
  have hd (g : Head) (b p : Nat) : trust { g with doc := { g.doc with bootSeq := b, prevProv := p } } = trust g := rfl
  simp only [writeProvenance, (frame_record ..).trust (l := [.arc, .evq]) (by decide), hd, hf, he, (frame_fresh h).trust (by decide)]

theorem frame_islandWake (h : Head) (p : Page) (cause : Nat) : Frame [.pwr] [(p.block, 0x030)] h (islandWake h p cause) := by
  unfold islandWake
  split
  · simp +decide [frame_rules, RUNG_CAUSE, frame_refl]
  · split
    · simp +decide only [setEntries, frame_mk, true_or, or_true, and_self, frame_refl]
    · split
      · exact frame_refl _ _ h
      · simp +decide [startExit, setExits, frame_rules, RUNG_CAUSE, RUNG_IN_TRANSIT, frame_mk, frame_refl]

theorem trust_config (h : Head) (p : Page) (e : ErrRec) : trust (config h p e) = trust h := (frame_config h p e).trust (by decide)

theorem trust_modeCmdEffect (h : Head) (src cmd : Nat) : trust (modeCmdEffect h src cmd) = trust h := by
  have hw (g : Head) : trust (foldHead g islands (fun h p => islandWake h p 4)) = trust g :=
    trust_foldHead (fun h p => (frame_islandWake h p 4).trust (by decide)) _ g
  have hs (g : Head) (m : Option Bool) : trust (fset { g with pwr := { g.pwr with toServing := m } } .east PWR_MODE_IN_TRANSIT 1) = trust g := rfl
  simp only [modeCmdEffect, trust_ite, trust_config, hw, hs, ite_self]

theorem trust_releaseNow (h : Head) (w : Wing) : trust (releaseNow h w) = trust h := by
  have hf (g : Head) (start : Nat) :
      trust (foldHead g (List.range 26) (fun h c => if coreState h w c = 0 then send h (.hartStart (hartOf w c) start) else h)) = trust g :=
    trust_foldHead (fun h c => by rw [trust_ite]; exact ite_self _) _ g
  have hr (g : Head) : trust (raise (fset g .east DOC_STATUS_STAGE 2) .east Ev.DOC_RELEASED) = trust g :=
    (frame_raise (fset g .east DOC_STATUS_STAGE 2) .east 0 Ev.DOC_RELEASED).trust (by decide)
  have hd (g : Head) : trust { g with doc := if w = .east then { g.doc with heldE := false } else { g.doc with heldW := false } } = trust g := by
    cases w <;> rfl
  simp only [releaseNow, trust_ite, hr, hf, hd, ite_self]

theorem trust_releaseEffect (h : Head) (src : Nat) (w : Wing) : trust (releaseEffect h src w) = trust h := by
  unfold releaseEffect
  dsimp only
  split
  · exact trust_config h _ _
  · cases w <;> (rw [trust_ite, trust_releaseNow]; exact ite_self _)

theorem trust_bootFirmware (h : Head) : trust (bootFirmware h) = trust h := by
  have ht (g : Head) : trust (startTrial g) = trust g := (frame_startTrial g).trust (by decide)
  have hos (g : Head) : trust (bootOs g).2 = trust g := (frame_bootOs g).trust (by decide)
  have hs (g : Head) : trust (syncSlots g) = trust g := rfl
  simp only [bootFirmware, bootRelease, trust_ite, trust_releaseEffect, trust_modeCmdEffect, trust_writeProvenance, ht, hs, hos, trust_bootConfig,
    trust_bootKeys, trust_bootSecrets, ite_self]

/-- The boot has run, and the custodians stay. -/
theorem trust_boot (h : Head) : trust (boot h) = (true, h.doc.custodians) := by
  have hm (g : Head) : trust (bootMeasure g) = trust g := (frame_bootMeasure g).trust (by decide)
  have hr (g : Head) : trust (enterRecovery g) = trust g := (frame_enterRecovery g).trust (by decide)
  have hs (g : Head) : trust (syncSlots g) = trust g := rfl
  have hi (g : Head) (s : Nat) (t : Bool) : trust (bootImage g s t) = trust g := (frame_bootImage g s t).trust (by decide)
  have hb (g : Head) : trust (bootSlot g false).2 = trust g := (frame_bootSlot g false).trust (by decide)
  have h0 : trust { h with doc := { h.doc with booted := true } } = (true, h.doc.custodians) := rfl
  unfold boot
  dsimp only
  split
  · exact h0
  split
  · exact (hr _).trans ((hm _).trans h0)
  split
  next g hg =>
    have hk := hb (bootMeasure { h with doc := { h.doc with booted := true } })
    rw [hg] at hk
    exact (hr _).trans ((hs _).trans (hk.trans ((hm _).trans h0)))
  next s t g hg =>
    have hk := hb (bootMeasure { h with doc := { h.doc with booted := true } })
    rw [hg] at hk
    exact (hs _).trans ((trust_bootFirmware _).trans ((hi _ _ _).trans (hk.trans ((hm _).trans h0))))

theorem booted_boot (h : Head) : (boot h).doc.booted = true := congrArg Prod.fst (trust_boot h)

theorem custodians_boot (h : Head) : (boot h).doc.custodians = h.doc.custodians := congrArg Prod.snd (trust_boot h)

end Sys2Proof.Laws
end

section
/-! Resets (R12, R81, R177, R528 to R530): what a chip reset leaves, and O60. -/

namespace Sys2Proof.Laws

open Machine Machine.Reg

/-! ### Frames of the reset's steps -/

theorem frame_setSlots (h : Head) (l : List Slot) :
    Frame [.vit, .evq] [(.vit, 0x010), (.vit, 0x050), (.vit, 0x054), (.vit, 0x058), (.vit, 0x05C)] h (setSlots h l) := by
  simp +decide only [setSlots, frame_ite, frame_rules, frame_foldHead, frame_mk, true_or, or_true, and_self, frame_refl, implies_true, ite_self]

theorem frame_raiseSeq (h : Head) (seq : Nat) : Frame [] [(.vit, 0x060), (.vit, 0x064)] h (raiseSeq h seq) := by
  simp +decide only [raiseSeq, frame_foldHead, frame_ite, frame_rules, frame_refl, implies_true, ite_self]

theorem frame_setLifecycle (h : Head) (n : Nat) : Frame [] [(.chp, 0x058)] h (setLifecycle h n) := by
  simp +decide only [setLifecycle, frame_foldHead, frame_rules, frame_refl, implies_true]

/-- The registers that the option area and the reset's own computation set. -/
def loadRegs : List (Block × Nat) :=
  [(.frm, 0x040), (.wdg, 0x044), (.upd, 0x05C), (.prv, 0x040), (.upd, 0x064), (.prv, 0x054), (.chp, 0x058), (.upd, 0x054)]

theorem frame_loadOptions (h : Head) (mine : Page → Bool) : Frame [] loadRegs h (loadOptions h mine) := by
  unfold loadOptions
  split
  next w _ =>
    refine frame_foldHead_mem fun g e he => (frame_fset g .east 0 0 e.1 e.2).mono (fun _ h => h) ?_
    have ho : ∀ f ∈ [FRM_CTRL_LENGTH, WDG_CFG_TIMEOUT_MS, UPD_TRIAL_SECONDS, PRV_CTRL_HOLD_MS], (f.block, f.off % 4096) ∈ loadRegs := by decide
    have hm : e.1 ∈ [FRM_CTRL_LENGTH, WDG_CFG_TIMEOUT_MS, UPD_TRIAL_SECONDS, PRV_CTRL_HOLD_MS] := by
      have he := (List.mem_filter.1 he).1
      unfold optionFields at he
      split at he <;> simp at he <;> grind
    simpa using ho _ hm
  next => exact frame_refl _ _ h

/-- The operating hours that the tally gives. -/
def hoursShown (g : Head) : Head :=
  fset { g with cur := { g.cur with hours := g.arc.tallyBase + g.arc.tallyUsed } } .east PRV_HOURS_HOURS
    ((g.arc.tallyBase + g.arc.tallyUsed) * 256 % 2 ^ 32)

/-- The floors that the Archive holds. -/
def floorsShown (g : Head) : Head :=
  fset (fset g .east UPD_FLOOR_DOC (floorCount g 36)) .east UPD_FLOOR_OS (floorCount g 76)

/-- The option area as the reset reads it. -/
def optionsRead (h : Head) : Head := { h with arc := { h.arc with options := if markerGood 0x0A5E0002 (arcWord h 1) then some (arcWord h 1) else none } }

theorem loadReset_eq (h : Head) : loadReset h =
   let k := hoursShown (floorsShown (loadOptions (optionsRead h) (fun _ => true)))
   syncSlots (setLifecycle k k.doc.fused) := by
  unfold loadReset hoursShown floorsShown optionsRead
  dsimp only

theorem frame_loadReset (h : Head) : Frame [.arc, .cur] loadRegs h (loadReset h) := by
  simp +decide only [loadReset, (frame_syncSlots ..).iff, (frame_setLifecycle ..).iff, (frame_loadOptions ..).iff, frame_rules, frame_mk, true_or, or_true,
    and_self, frame_refl]

theorem frame_recorderReset (h : Head) (powerOn : Bool) : Frame [.arc, .evq, .freeCtr]
    [(.arc, 0x068), (.arc, 0x06C), (.prv, 0x010), (.prv, 0x044), (.prv, 0x048), (.prv, 0x04C), (.prv, 0x050), (.prv, 0x058), (.prv, 0x080)]
    h (recorderReset h powerOn) := by
  cases powerOn <;> simp +decide only [recorderReset, frame_ite, (frame_drainRecords ..).iff, (frame_record ..).iff, frame_rules, frame_mk, true_or,
    or_true, and_self, frame_refl]

theorem frame_retainSlots (h : Head) (l : List Slot) : Frame [.vit, .evq]
    [(.vit, 0x010), (.vit, 0x050), (.vit, 0x054), (.vit, 0x058), (.vit, 0x05C), (.vit, 0x060), (.vit, 0x064), (.vit, 0x068)] h (retainSlots h l) := by
  simp +decide only [retainSlots, frame_ite, frame_foldHead, (frame_raiseSeq ..).iff, (frame_setSlots ..).iff, frame_rules, frame_mk, true_or, or_true,
    and_self, frame_refl, implies_true, ite_self]

theorem frame_stopArchive (h : Head) : Frame [.arc, .sram, .mem, .poison, .evq, .freeCtr]
    [(.arc, 0x010), (.arc, 0x044), (.arc, 0x048), (.arc, 0x04C), (.arc, 0x054), (.arc, 0x068), (.arc, 0x06C), (.upd, 0x010), (.upd, 0x050),
      (.upd, 0x054)] h (stopArchive h) := by
  simp +decide only [stopArchive, fresh, (frame_arcStop ..).iff, frame_mk, true_or, or_true, and_self, frame_refl]

theorem frame_setCause (h : Head) (c : Cause) : Frame [] [(.chp, 0x068)] h (setCause h c) := by
  simp +decide only [setCause, frame_foldHead, frame_rules, pg, frame_refl, implies_true]

/-! ### The registers after a reset -/

/-- What a reset makes of an entry of the register file. -/
def resetEntryOf (l : List Fld) (e : Nat × Word) : Option (Nat × Word) :=
  match pageOfNum (keyPage e.1) with
  | none => some e
  | some p =>
    if resetEntry l p (keyOff e.1) (keyBank e.1) e.2 = resetWord p (keyOff e.1) (keyBank e.1) then none
    else some (e.1, resetEntry l p (keyOff e.1) (keyBank e.1) e.2)

theorem resetRegs_regs (h : Head) (l : List Fld) : (resetRegs h l 0 (fun _ => true)).regs = h.regs.filterMap (resetEntryOf l) := by
  simp only [resetRegs, Nat.zero_le, and_self, if_true]
  rfl

theorem tabGet?_filterMap_none {f : Nat × Word → Option (Nat × Word)} {k : Nat} (hkey : ∀ e e', f e = some e' → e'.1 = e.1)
    (hf : ∀ v, f (k, v) = none) (t : Tab Word) : tabGet? (t.filterMap f) k = none := by
  induction t with
  | nil => rfl
  | cons e t ih =>
    rw [List.filterMap_cons]
    split
    next => exact ih
    next e' he =>
      have hne : e'.1 ≠ k := fun heq => by
        rw [show e = (k, e.2) from Prod.ext (by rw [← hkey e e' he, heq]) rfl, hf] at he
        cases he
      unfold tabGet?
      rw [if_neg hne]
      exact ih

theorem tabGet?_filterMap_some {f : Nat × Word → Option (Nat × Word)} {k : Nat} {v v' : Word} (hkey : ∀ e e', f e = some e' → e'.1 = e.1)
    (hf : f (k, v) = some (k, v')) (t : Tab Word) (ht : tabGet? t k = some v) : tabGet? (t.filterMap f) k = some v' := by
  induction t with
  | nil => cases ht
  | cons e t ih =>
    rw [List.filterMap_cons]
    obtain ⟨x, u⟩ := e
    unfold tabGet? at ht
    split at ht
    next hx =>
      cases ht
      rw [hx, hf]
      simp [tabGet?]
    next hx =>
      split
      next => exact ih ht
      next e' he =>
        have hne : e'.1 ≠ k := fun heq => hx ((hkey _ e' he).symm.trans heq)
        unfold tabGet?
        rw [if_neg hne]
        exact ih ht

theorem resetEntryOf_key (l : List Fld) (e e' : Nat × Word) (h : resetEntryOf l e = some e') : e'.1 = e.1 := by
  unfold resetEntryOf at h
  split at h
  · cases h
    rfl
  · split at h
    · cases h
    · cases h
      rfl

theorem resetEntryOf_lost (l : List Fld) (k off bank : Nat) (v : Word) (p : Page) (hp : pageOfNum (keyPage k) = some p) (ho : keyOff k = off)
    (hb : keyBank k = bank) (hm : keepMask l p.block off = 0) : resetEntryOf l (k, v) = none := by
  have hv : resetEntry l p off bank v = resetWord p off bank := by
    unfold resetEntry
    rw [hm, ite_self]
    have hz : v &&& (0 : Word) = 0#32 := BitVec.and_zero
    have ho : resetWord p off bank &&& ~~~(0 : Word) = resetWord p off bank := BitVec.and_allOnes
    dsimp only
    rw [hz, ho, BitVec.or_zero]
  simp only [resetEntryOf, hp, ho, hb, hv, if_true]

/-- A register that keeps no bit is at its reset entry. -/
theorem chipMode_resetRegs (h : Head) (l : List Fld) (hm : keepMask l .pwr 0x040 = 0) : chipMode (resetRegs h l 0 (fun _ => true)) = 0 := by
  have hn : tabGet? (h.regs.filterMap (resetEntryOf l)) (regKey (pg .pwr .east) 0x040 0) = none :=
    tabGet?_filterMap_none (resetEntryOf_key l) (fun v => resetEntryOf_lost l _ 0x040 0 v (pg .pwr .east) (by decide) (by decide) (by decide) hm) _
  have hr : rd (resetRegs h l 0 (fun _ => true)) (pg .pwr .east) 0x040 0 = resetWord (pg .pwr .east) 0x040 0 := by
    show tabGet (resetRegs h l 0 (fun _ => true)).regs _ (regKey (pg .pwr .east) 0x040 0) = _
    rw [resetRegs_regs, tabGet, hn]
    rfl
  show bitsOf (rd _ (pg .pwr .east) 0x040 0) 1 0 = 0
  rw [hr]
  decide

/-- The word of CHP_RESET_CAUSE. -/
def causeWord (h : Head) : Word := rd h (pg .chp .east) 0x068 0

theorem causeWord_frame {l : List Part} {t : List (Block × Nat)} {h g : Head} (x : Frame l t h g) (ht : (Block.chp, 0x068) ∉ t) :
    causeWord g = causeWord h := x.2 (pg .chp .east) 0x068 0 (by decide) ht

theorem causeWord_setCause (h : Head) (c : Cause) :
    causeWord (setCause h c) = BitVec.ofNat 32 ((if c = .powerOn then 0 else (causeWord h).toNat) ||| 1 <<< causeBit c) := by
  unfold setCause causeWord
  rw [foldHead_wings]
  exact (rd_wr_key _ _ _ _ _ _ _ _ (by decide)).trans (rd_wr_same _ _ _ _ _)

theorem causeWord_setCause_powerOn (h : Head) : (causeWord (setCause h .powerOn)).toNat = 1 := by
  rw [causeWord_setCause, if_pos rfl]
  rfl

theorem causeBit_lt (c : Cause) : causeBit c < 6 := by cases c <;> decide

theorem causeWord_setCause_joins (h : Head) (c : Cause) (hc : c ≠ .powerOn) :
    (causeWord (setCause h c)).toNat = (causeWord h).toNat ||| 1 <<< causeBit c := by
  have hlt : (causeWord h).toNat ||| 1 <<< causeBit c < 2 ^ 32 := by
    refine Nat.or_lt_two_pow (causeWord h).isLt ?_
    rw [Nat.one_shiftLeft]
    exact Nat.pow_lt_pow_right (by decide) ((causeBit_lt c).trans (by decide))
  rw [causeWord_setCause, if_neg hc, BitVec.toNat_ofNat, Nat.mod_eq_of_lt hlt]

theorem causeWord_setCause_sets (h : Head) (c : Cause) (hc : c ≠ .powerOn) : (causeWord (setCause h c)).toNat.testBit (causeBit c) = true := by
  rw [causeWord_setCause_joins h c hc, Nat.testBit_or, Nat.one_shiftLeft, Nat.testBit_two_pow_self, Bool.or_true]

/-- The bits of CHP_RESET_CAUSE outlive a chip reset that is not power-on. -/
theorem causeWord_resetRegs (h : Head) (b : Nat) (hb : b < 6) (h0 : b ≠ 0) (hs : (causeWord h).toNat.testBit b = true) :
    (causeWord (resetRegs h chipKept 0 (fun _ => true))).toNat.testBit b = true := by
  have hmask : keepMask chipKept .chp 0x068 = 63#32 := by decide
  have hone : (1#32).getLsbD b = false := by
    have : ∀ b < 6, b ≠ 0 → (1#32).getLsbD b = false := by decide
    exact this b hb h0
  have hset : (63#32).getLsbD b = true := by
    have : ∀ b < 6, (63#32).getLsbD b = true := by decide
    exact this b hb
  cases hv : tabGet? h.regs (regKey (pg .chp .east) 0x068 0) with
  | none =>
    have h1 : causeWord h = 1#32 := by
      show tabGet h.regs (resetWord (pg .chp .east) 0x068 0) (regKey (pg .chp .east) 0x068 0) = _
      rw [tabGet, hv]
      rfl
    rw [h1] at hs
    exact absurd hs (by rw [BitVec.testBit_toNat, hone]; decide)
  | some v =>
    have hvb : v.getLsbD b = true := by
      have h1 : causeWord h = v := by
        show tabGet h.regs (resetWord (pg .chp .east) 0x068 0) (regKey (pg .chp .east) 0x068 0) = _
        rw [tabGet, hv]
        rfl
      rw [h1, BitVec.testBit_toNat] at hs
      exact hs
    have hent : (resetEntry chipKept (pg .chp .east) 0x068 0 v).getLsbD b = true := by
      have hlow : ¬(0x068 : Nat) < 0x40 := by decide
      unfold resetEntry
      rw [if_neg hlow, show (pg .chp .east).block = .chp from rfl, hmask]
      simp [hset, hvb]
    have hne : resetEntry chipKept (pg .chp .east) 0x068 0 v ≠ resetWord (pg .chp .east) 0x068 0 := fun heq => by
      rw [heq, show resetWord (pg .chp .east) 0x068 0 = 1#32 from rfl, hone] at hent
      cases hent
    have hf : resetEntryOf chipKept (regKey (pg .chp .east) 0x068 0, v) =
        some (regKey (pg .chp .east) 0x068 0, resetEntry chipKept (pg .chp .east) 0x068 0 v) := by
      simp only [resetEntryOf, show pageOfNum (keyPage (regKey (pg .chp .east) 0x068 0)) = some (pg .chp .east) by decide,
        show keyOff (regKey (pg .chp .east) 0x068 0) = 0x068 by decide, show keyBank (regKey (pg .chp .east) 0x068 0) = 0 by decide, if_neg hne]
    have hr : causeWord (resetRegs h chipKept 0 (fun _ => true)) = resetEntry chipKept (pg .chp .east) 0x068 0 v := by
      show tabGet (resetRegs h chipKept 0 (fun _ => true)).regs _ (regKey (pg .chp .east) 0x068 0) = _
      rw [resetRegs_regs, tabGet, tabGet?_filterMap_some (resetEntryOf_key chipKept) hf _ hv]
      rfl
    rw [hr, BitVec.testBit_toNat]
    exact hent

/-! ### A chip reset as a whole -/

/-- The head once its registers are reset. -/
def resetBase (h : Head) (c : Cause) (kept power : Bool) : Head :=
  let h := stateAfter (setCause (stopArchive h) c) kept power
  let h := resetRegs h (if power then powerKept else chipKept) 0 (fun _ => true)
  if power then setCause h c else h

/-- The last step of a reset: the rails are noted, and no event waits. -/
def resetDone (g k : Head) (kept : Bool) : Head := { g with pwr := { k.pwr with railsStayed := kept }, evq := [] }

theorem resetDone_hold (g k : Head) (kept : Bool) : (resetDone g k kept).pwr.hold = k.pwr.hold := rfl
theorem resetDone_cur (g k : Head) (kept : Bool) : (resetDone g k kept).cur = g.cur := rfl
theorem resetDone_arc (g k : Head) (kept : Bool) : (resetDone g k kept).arc = g.arc := rfl
theorem resetDone_vit (g k : Head) (kept : Bool) : (resetDone g k kept).vit = g.vit := rfl

theorem frame_resetDone (g k : Head) (kept : Bool) : Frame [.pwr, .evq] [] g (resetDone g k kept) :=
  (frame_mk g (by simp)).2 (frame_refl _ _ g)

/-- What a reset does once its registers are reset. -/
def afterReset (h : Head) (power kept : Bool) (slots : List Slot) : Head :=
  resetDone (retainSlots (recorderReset (loadReset h) power) slots) (recorderReset (loadReset h) power) kept

theorem chipReset_eq (h : Head) (c : Cause) (b : Bool) : chipReset h c b =
    let power := decide (c = .powerOn)
    let kept := b && !power
    afterReset (resetBase h c kept power) power kept (if kept then h.vit.slots else []) := by
  unfold chipReset resetBase afterReset resetDone
  dsimp only

theorem chipReset_powerOn (h : Head) (b : Bool) : chipReset h .powerOn b = afterReset (resetBase h .powerOn false true) true false [] := by
  rw [chipReset_eq]
  simp

theorem chipReset_other (h : Head) (c : Cause) (b : Bool) (hc : c ≠ .powerOn) :
    chipReset h c b = afterReset (resetBase h c b false) false b (if b then h.vit.slots else []) := by
  rw [chipReset_eq]
  simp [hc]

theorem frame_afterReset (h : Head) (power kept : Bool) (slots : List Slot) : Frame [.arc, .cur, .evq, .freeCtr, .vit, .pwr]
    (loadRegs ++ [(.arc, 0x068), (.arc, 0x06C), (.prv, 0x010), (.prv, 0x044), (.prv, 0x048), (.prv, 0x04C), (.prv, 0x050), (.prv, 0x058),
      (.prv, 0x080), (.vit, 0x010), (.vit, 0x050), (.vit, 0x054), (.vit, 0x058), (.vit, 0x05C), (.vit, 0x060), (.vit, 0x064), (.vit, 0x068)])
    h (afterReset h power kept slots) := by
  simp +decide only [afterReset, (frame_resetDone ..).iff, (frame_retainSlots ..).iff, (frame_recorderReset ..).iff, (frame_loadReset ..).iff, frame_refl]

theorem hold_afterReset (h : Head) (power kept : Bool) (slots : List Slot) : (afterReset h power kept slots).pwr.hold = h.pwr.hold := by
  have hp : (recorderReset (loadReset h) power).pwr = h.pwr :=
    ((frame_recorderReset _ _).1 .pwr (by decide)).trans ((frame_loadReset h).1 .pwr (by decide))
  rw [afterReset, resetDone_hold, hp]

theorem dump_loadReset (h : Head) : (loadReset h).cur.dump = h.cur.dump := by
  have hk (g : Head) : (hoursShown (floorsShown g)).cur.dump = g.cur.dump := rfl
  have ho (g : Head) (m : Page → Bool) : (loadOptions g m).cur = g.cur := (frame_loadOptions g m).1 .cur (by decide)
  have hs (g : Head) (n : Nat) : (setLifecycle g n).cur = g.cur := (frame_setLifecycle g n).1 .cur (by decide)
  have hy (g : Head) : (syncSlots g).cur = g.cur := rfl
  have hr (g : Head) : (optionsRead g).cur = g.cur := rfl
  simp only [loadReset_eq, hy, hs, hk, ho, hr]

theorem arcOp_loadReset (h : Head) : (loadReset h).arc.op = h.arc.op := by
  have hk (g : Head) : (hoursShown (floorsShown g)).arc = g.arc := rfl
  have ho (g : Head) (m : Page → Bool) : (loadOptions g m).arc = g.arc := (frame_loadOptions g m).1 .arc (by decide)
  have hs (g : Head) (n : Nat) : (setLifecycle g n).arc = g.arc := (frame_setLifecycle g n).1 .arc (by decide)
  have hy (g : Head) : (syncSlots g).arc = g.arc := rfl
  have hr (g : Head) : (optionsRead g).arc.op = g.arc.op := rfl
  simp only [loadReset_eq, hy, hs, hk, ho, hr]

theorem dump_afterReset (h : Head) (power kept : Bool) (slots : List Slot) : (afterReset h power kept slots).cur.dump = h.cur.dump := by
  have ha (g : Head) : (retainSlots g slots).cur = g.cur := (frame_retainSlots g slots).1 .cur (by decide)
  have hr (g : Head) : (recorderReset g power).cur = g.cur := (frame_recorderReset g power).1 .cur (by decide)
  rw [afterReset, resetDone_cur, ha, hr, dump_loadReset]

theorem arcOp_record (h : Head) (source code payload : Nat) (firmware : Bool) : (record h source code payload firmware).arc.op = h.arc.op := by
  have hs (g : Head) : (syncRecs g).arc = g.arc := rfl
  unfold record
  dsimp only
  split
  · rfl
  · split <;> split <;> simp [hs]

theorem arcOp_programRecord (h : Head) (r : RecEntry) (ok : Bool) : (programRecord h r ok).arc.op = h.arc.op := by
  have hp (g : Head) (n v : Nat) : (programWord g n v).arc.op = g.arc.op := rfl
  have he (g : Head) (n : Nat) : (eraseSector g n).arc.op = g.arc.op := rfl
  have hh (g : Head) (n v : Nat) : (halfWord g n v).arc.op = g.arc.op := rfl
  have hs (g : Head) : (syncRecs g).arc.op = g.arc.op := rfl
  unfold programRecord
  cases ok <;> dsimp only [fresh, Bool.false_eq_true] <;> grind [= fset_arc]

theorem arcOp_afterReset (h : Head) (power kept : Bool) (slots : List Slot) : (afterReset h power kept slots).arc.op = h.arc.op := by
  have hd (g : Head) : (drainRecords g).arc.op = g.arc.op := foldHead_frame (fun g => g.arc.op) (fun g r => arcOp_programRecord g r true) _ g
  have hr (g : Head) : (recorderReset g power).arc.op = g.arc.op := by
    cases power
    · simp only [recorderReset, Bool.false_eq_true, if_false, hd, arcOp_record]
    · simp only [recorderReset, if_true, arcOp_record, fset_arc]
  have ha (g : Head) : (retainSlots g slots).arc = g.arc := (frame_retainSlots g slots).1 .arc (by decide)
  rw [afterReset, resetDone_arc, ha, hr, arcOp_loadReset]

/-- The registers that count a wing's slots. -/
def slotCounts (l : List Slot) (h : Head) (w : Wing) : Head :=
  fset (fset (fset h w VIT_DIRTY_OWN_GRANULES (slotCount l w isOwnDirty)) w VIT_MIRROR_USED_GRANULES (slotCount l w (fun s => s == .mirror)))
    w VIT_CLEAN_GRANULES (slotCount l w (fun s => s == .clean))

/-- The pair's dirty total, and QUOTA_HIGH where it rises through its mark. -/
def dirtyShown (was now : Nat) (h : Head) : Head :=
  let h := fset h .east VIT_QUOTA_NOW_PAIR_DIRTY_MIB (granMib now)
  let mark := 256 * fget h .east VIT_HIGH_MARK_MIB
  if was < mark ∧ mark ≤ now then raise h .east Ev.VIT_QUOTA_HIGH else h

theorem setSlots_eq (h : Head) (l : List Slot) : setSlots h l =
    dirtyShown (pairDirty h) (pairDirty { h with vit := { h.vit with slots := l } })
      (foldHead { h with vit := { h.vit with slots := l } } wings (slotCounts l)) := by
  unfold setSlots dirtyShown
  rfl

theorem vit_dirtyShown (was now : Nat) (h : Head) : (dirtyShown was now h).vit = h.vit := by
  unfold dirtyShown
  dsimp only
  split
  · exact raise_vit _ _ _ _
  · rfl

theorem vit_setSlots (h : Head) (l : List Slot) : (setSlots h l).vit = { h.vit with slots := l } := by
  rw [setSlots_eq, vit_dirtyShown]
  exact foldHead_frame Head.vit (f := slotCounts l) (fun _ _ => rfl) _ _

theorem slots_retainSlots (h : Head) (slots : List Slot) (hv : h.vit.slots = []) : (retainSlots h slots).vit.slots =
    (slots.filter (fun x => isPairDirty x.st)).map (fun x => { x with retained := true }) := by
  have hq (g : Head) (l : List Nat) : (foldHead g l raiseSeq).vit = g.vit :=
    foldHead_frame Head.vit (fun g n => (frame_raiseSeq g n).1 .vit (by decide)) l g
  have hw (g : Head) (n : Wing → Nat) :
      (foldHead g wings (fun h w => fset (fset h w VIT_RETAIN_RETAINED 1) w VIT_RETAIN_RETAINED_MIB (n w))).vit = g.vit :=
    by
    refine foldHead_frame Head.vit ?_ _ g
    exact fun _ _ => rfl
  unfold retainSlots
  dsimp only
  split
  next he => rw [he, hv]
  next => rw [hw, hq, vit_setSlots]

theorem slots_afterReset (h : Head) (power kept : Bool) (slots : List Slot) (hv : h.vit.slots = []) : (afterReset h power kept slots).vit.slots =
    (slots.filter (fun x => isPairDirty x.st)).map (fun x => { x with retained := true }) := by
  have hr : (recorderReset (loadReset h) power).vit = h.vit :=
    ((frame_recorderReset _ _).1 .vit (by decide)).trans ((frame_loadReset h).1 .vit (by decide))
  rw [afterReset, resetDone_vit, slots_retainSlots _ _ (by rw [hr, hv])]

end Sys2Proof.Laws
end

section
/-! The resets as commands: O60. -/

namespace Sys2Proof.Laws

open Machine Machine.Reg

/-- The parts that neither the Archive's stop nor the causes touch. -/
theorem frame_stopCause (h : Head) (c : Cause) : Frame [.arc, .sram, .mem, .poison, .evq, .freeCtr]
    [(.arc, 0x010), (.arc, 0x044), (.arc, 0x048), (.arc, 0x04C), (.arc, 0x054), (.arc, 0x068), (.arc, 0x06C), (.upd, 0x010), (.upd, 0x050),
      (.upd, 0x054), (.chp, 0x068)] h (setCause (stopArchive h) c) := by
  simp +decide only [(frame_setCause ..).iff, (frame_stopArchive ..).iff, frame_refl]

theorem resetRegs_part (h : Head) (l : List Fld) (start : Nat) (mine : Page → Bool) (p : Part) (hp : p ∉ [Part.pend, .hiHold, .hiLatch]) :
    p.same h (resetRegs h l start mine) := by
  cases p <;> first | rfl | exact absurd (by decide) hp

theorem resetBase_part (h : Head) (c : Cause) (kept power : Bool) (p : Part) (hp : p ∉ [Part.pend, .hiHold, .hiLatch]) :
    p.same (stateAfter (setCause (stopArchive h) c) kept power) (resetBase h c kept power) := by
  have hr := resetRegs_part (stateAfter (setCause (stopArchive h) c) kept power) (if power then powerKept else chipKept) 0 (fun _ => true) p hp
  unfold resetBase
  cases power
  · exact hr
  · exact p.same_trans hr ((frame_setCause _ c).1 p (by simp))

theorem stateAfter_kept (g : Head) (kept power : Bool) :
    (stateAfter g kept power).cat.flash = g.cat.flash ∧ (stateAfter g kept power).cur.dump = g.cur.dump ∧
      (stateAfter g kept power).doc.custodians = g.doc.custodians ∧ (stateAfter g kept power).pwr.hold = g.pwr.hold := ⟨rfl, rfl, rfl, rfl⟩

theorem chipMode_frame {l : List Part} {t : List (Block × Nat)} {h g : Head} (x : Frame l t h g) (ht : (Block.pwr, 0x040) ∉ t) :
    chipMode g = chipMode h := congrArg (bitsOf · 1 0) (x.2 (pg .pwr .east) 0x040 0 (by decide) ht)

theorem evq_afterReset (h : Head) (power kept : Bool) (slots : List Slot) : (afterReset h power kept slots).evq = [] := rfl

/-- What of the head outlives every chip reset. -/
theorem permanent_afterReset (h : Head) (c : Cause) (kept power b : Bool) (slots : List Slot) :
    let g := afterReset (resetBase h c kept power) power b slots
    g.cat.flash = h.cat.flash ∧ g.cur.dump = h.cur.dump ∧ g.bridges = h.bridges ∧ g.doc.custodians = h.doc.custodians ∧ g.doc.booted = false ∧
      g.keys = [] ∧ g.sram = [] ∧ g.arc.op = none ∧ g.pwr.hold = h.pwr.hold := by
  intro g
  have hs := frame_stopCause h c
  have ha := frame_afterReset (resetBase h c kept power) power b slots
  have hb := fun p hp => resetBase_part h c kept power p hp
  have hcat : g.cat = _ := (ha.1 .cat (by decide)).trans (hb .cat (by decide))
  have hdoc : g.doc = _ := (ha.1 .doc (by decide)).trans (hb .doc (by decide))
  have hscat : (setCause (stopArchive h) c).cat = h.cat := hs.1 .cat (by decide)
  have hsdoc : (setCause (stopArchive h) c).doc = h.doc := hs.1 .doc (by decide)
  have hscur : (setCause (stopArchive h) c).cur = h.cur := hs.1 .cur (by decide)
  have hspwr : (setCause (stopArchive h) c).pwr = h.pwr := hs.1 .pwr (by decide)
  have hcur : (resetBase h c kept power).cur = _ := hb .cur (by decide)
  have harc : (resetBase h c kept power).arc = _ := hb .arc (by decide)
  have hpwr : (resetBase h c kept power).pwr = _ := hb .pwr (by decide)
  obtain ⟨kflash, kdump, kcust, khold⟩ := stateAfter_kept (setCause (stopArchive h) c) kept power
  refine ⟨?_, ?_, ?_, ?_, ?_, ?_, ?_, ?_, ?_⟩
  · rw [hcat]
    exact kflash.trans (congrArg CatState.flash hscat)
  · rw [dump_afterReset, hcur]
    exact kdump.trans (congrArg CurState.dump hscur)
  · exact ((ha.1 .bridges (by decide)).trans (hb .bridges (by decide))).trans (hs.1 .bridges (by decide))
  · rw [hdoc]
    exact kcust.trans (congrArg DocState.custodians hsdoc)
  · rw [hdoc]
    rfl
  · exact (ha.1 .keys (by decide)).trans (hb .keys (by decide))
  · exact (ha.1 .sram (by decide)).trans (hb .sram (by decide))
  · rw [arcOp_afterReset, harc]
    rfl
  · rw [hold_afterReset, hpwr]
    exact khold.trans (congrArg PwrState.hold hspwr)

/-- A chip held in reset. -/
def heldChip (g : Head) : Head := { g with pwr := { g.pwr with hold := .reset } }

def heldOff (g : Head) : Head := { g with pwr := { g.pwr with hold := .reset, thermTrip := false } }

theorem powerOn_holds (s : State) : Completes .powerOn s (fun h =>
    h.pwr.hold = .reset ∧ h.pwr.thermTrip = false ∧ h.mem = [] ∧ h.sram = [] ∧ h.keys = [] ∧ h.vit.slots = [] ∧ h.doc.booted = false ∧
      (rd h (pg .chp .east) 0x068 0).toNat = 1 ∧ chipMode h = 0 ∧ h.cat.flash = s.dev.cat.flash ∧ h.cur.dump = s.dev.cur.dump ∧
      h.bridges = s.dev.bridges ∧ h.doc.custodians = s.dev.doc.custodians ∧ h.arc.op = none ∧ h.evq = []) := by
  refine completes_liftAny exec_powerOn ?_
  generalize s.dev = d
  obtain ⟨hflash, hdump, hbridges, hcust, hbooted, hkeys, hsram, hop, -⟩ := permanent_afterReset d .powerOn false true false []
  have hframe := frame_afterReset (resetBase d .powerOn false true) true false []
  have hmem : (afterReset (resetBase d .powerOn false true) true false []).mem = [] :=
    (hframe.1 .mem (by decide)).trans (resetBase_part d .powerOn false true .mem (by decide))
  have hvit : (resetBase d .powerOn false true).vit.slots = [] :=
    congrArg VitState.slots (resetBase_part d .powerOn false true .vit (by decide))
  have hslots := slots_afterReset (resetBase d .powerOn false true) true false [] hvit
  have hcause : (causeWord (afterReset (resetBase d .powerOn false true) true false [])).toNat = 1 := by
    rw [causeWord_frame hframe (by decide)]
    exact causeWord_setCause_powerOn _
  have hmode : chipMode (afterReset (resetBase d .powerOn false true) true false []) = 0 := by
    rw [chipMode_frame hframe (by decide)]
    exact (chipMode_frame (frame_setCause _ .powerOn) (by decide)).trans (chipMode_resetRegs _ powerKept (by decide))
  have hevq := evq_afterReset (resetBase d .powerOn false true) true false []
  have heq : powerOn d = heldOff (afterReset (resetBase d .powerOn false true) true false []) := by
    unfold powerOn heldOff
    rw [chipReset_powerOn]
  rw [heq]
  generalize afterReset (resetBase d .powerOn false true) true false [] = g at *
  exact ⟨rfl, rfl, hmem, hsram, hkeys, hslots, hbooted, hcause, hmode, hflash, hdump, hbridges, hcust, hop, hevq⟩

theorem rest_setCause (h : Head) (c : Cause) : (setCause h c).vit = h.vit ∧ (setCause h c).cat = h.cat ∧ (setCause h c).cur = h.cur ∧
    (setCause h c).bridges = h.bridges ∧ (setCause h c).pwr = h.pwr ∧ (setCause h c).mem = h.mem := by
  have hf := frame_setCause h c
  exact ⟨hf.1 .vit (by decide), hf.1 .cat (by decide), hf.1 .cur (by decide), hf.1 .bridges (by decide), hf.1 .pwr (by decide), hf.1 .mem (by decide)⟩

/-- The head as a first reset finds it: a watchdog's grace or an alarm's hold that a brown-out cuts short is a cause too. -/
def causesJoined (h : Head) (c : Cause) : Head :=
  let h := if c = .brownOut ∧ h.arc.grace then setCause h .watchdog else h
  if c = .brownOut ∧ h.doc.alarmHold then setCause h .alarm else h

theorem rest_causesJoined (h : Head) (c : Cause) : (causesJoined h c).vit = h.vit ∧ (causesJoined h c).cat = h.cat ∧
    (causesJoined h c).cur = h.cur ∧ (causesJoined h c).bridges = h.bridges := by
  have hf : Frame [] [(.chp, 0x068)] h (causesJoined h c) := by
    simp +decide only [causesJoined, frame_ite, (frame_setCause ..).iff, frame_refl, ite_self]
  exact ⟨hf.1 .vit (by decide), hf.1 .cat (by decide), hf.1 .cur (by decide), hf.1 .bridges (by decide)⟩

theorem heldReset_running (h : Head) (c : Cause) (b : Bool) (hr : h.pwr.hold = .running) :
    heldReset h c b = heldChip (chipReset (causesJoined h c) c b) := by
  unfold heldReset
  rw [hr]
  rfl

theorem heldReset_again (h : Head) (c : Cause) (b : Bool) (hr : h.pwr.hold = .reset) (hc : (causeWord h).toNat ≠ 1) : heldReset h c b =
    if b then setCause h c else
      { clearRetained (freeSlots (setCause h c) (fun _ => true)) with
        pwr := { (clearRetained (freeSlots (setCause h c) (fun _ => true))).pwr with railsStayed := false },
        mem := (clearRetained (freeSlots (setCause h c) (fun _ => true))).mem.filter (fun e => (hbmWing e.1).isNone) } := by
  unfold heldReset
  rw [hr]
  exact if_neg hc

/-- A first reset of a running chip. -/
theorem heldReset_first (h : Head) (c : Cause) (b : Bool) (hc : c ≠ .powerOn) (h0 : causeBit c ≠ 0) (hr : h.pwr.hold = .running) :
    let g := heldReset h c b
    g.pwr.hold = .reset ∧ (rd g (pg .chp .east) 0x068 0).toNat.testBit (causeBit c) = true ∧
      g.vit.slots = (if b then (h.vit.slots.filter (fun x => isPairDirty x.st)).map (fun x => { x with retained := true }) else []) ∧
      g.doc.booted = false ∧ g.cat.flash = h.cat.flash ∧ g.cur.dump = h.cur.dump ∧ g.bridges = h.bridges ∧ g.arc.op = none ∧ g.keys = [] := by
  intro g
  obtain ⟨jvit, jcat, jcur, jbridges⟩ := rest_causesJoined h c
  obtain ⟨hflash, hdump, hbridges, -, hbooted, hkeys, -, hop, -⟩ :=
    permanent_afterReset (causesJoined h c) c b false b (if b then (causesJoined h c).vit.slots else [])
  have hframe := frame_afterReset (resetBase (causesJoined h c) c b false) false b (if b then (causesJoined h c).vit.slots else [])
  have hvit : (resetBase (causesJoined h c) c b false).vit.slots = [] :=
    congrArg VitState.slots (resetBase_part (causesJoined h c) c b false .vit (by decide))
  have hslots := slots_afterReset (resetBase (causesJoined h c) c b false) false b (if b then (causesJoined h c).vit.slots else []) hvit
  have hcause : (causeWord (afterReset (resetBase (causesJoined h c) c b false) false b
      (if b then (causesJoined h c).vit.slots else []))).toNat.testBit (causeBit c) = true := by
    rw [causeWord_frame hframe (by decide)]
    exact causeWord_resetRegs _ _ (causeBit_lt c) h0 (causeWord_setCause_sets (stopArchive (causesJoined h c)) c hc)
  have heq : g = heldChip (afterReset (resetBase (causesJoined h c) c b false) false b (if b then (causesJoined h c).vit.slots else [])) := by
    rw [← chipReset_other _ _ _ hc]
    exact heldReset_running h c b hr
  rw [jvit] at hslots hflash hdump hbridges hbooted hkeys hop hcause heq
  rw [jcat] at hflash
  rw [jcur] at hdump
  rw [jbridges] at hbridges
  rw [heq]
  generalize afterReset (resetBase (causesJoined h c) c b false) false b (if b then h.vit.slots else []) = k at *
  refine ⟨rfl, hcause, hslots.trans ?_, hbooted, hflash, hdump, hbridges, hop, hkeys⟩
  cases b <;> rfl

/-- A further cause of a reset under way. -/
theorem heldReset_further (h : Head) (c : Cause) (b : Bool) (hc : c ≠ .powerOn) (hr : h.pwr.hold = .reset) (h1 : (causeWord h).toNat ≠ 1) :
    let g := heldReset h c b
    g.pwr.hold = .reset ∧ (rd g (pg .chp .east) 0x068 0).toNat = (causeWord h).toNat ||| 1 <<< causeBit c ∧
      (b = true → g.vit = h.vit ∧ g.mem = h.mem) ∧ (b = false → g.vit.slots = []) := by
  intro g
  have heq : g = _ := heldReset_again h c b hr h1
  obtain ⟨hvit, -, -, -, hpwr, hmem⟩ := rest_setCause h c
  have hcause := causeWord_setCause_joins h c hc
  cases b with
  | true =>
    rw [heq, if_pos rfl]
    exact ⟨(congrArg PwrState.hold hpwr).trans hr, hcause, fun _ => ⟨hvit, hmem⟩, nofun⟩
  | false =>
    have hc : Frame [.vit, .evq] [(.vit, 0x010), (.vit, 0x050), (.vit, 0x054), (.vit, 0x058), (.vit, 0x05C), (.vit, 0x068)] (setCause h c)
        (clearRetained (freeSlots (setCause h c) (fun _ => true))) := by
      simp +decide only [clearRetained, freeSlots, frame_foldHead, frame_rules, (frame_setSlots ..).iff, frame_mk, true_or, or_true, and_self, frame_refl,
        implies_true]
    have hslots : (clearRetained (freeSlots (setCause h c) (fun _ => true))).vit.slots = [] := by
      have hk (g : Head) : (clearRetained g).vit.slots = g.vit.slots :=
        foldHead_frame (fun g => g.vit.slots) (f := fun h w => fset (fset h w VIT_RETAIN_RETAINED 0) w VIT_RETAIN_RETAINED_MIB 0) (fun _ _ => rfl) _ _
      rw [hk, freeSlots, vit_setSlots]
      simp
    have hpw : (clearRetained (freeSlots (setCause h c) (fun _ => true))).pwr = h.pwr := (hc.1 .pwr (by decide)).trans hpwr
    have hcs := causeWord_frame hc (by decide)
    rw [heq, if_neg (by decide)]
    generalize clearRetained (freeSlots (setCause h c) (fun _ => true)) = k at *
    refine ⟨(congrArg PwrState.hold hpw).trans hr, (congrArg BitVec.toNat hcs).trans hcause, nofun, fun _ => hslots⟩

/-- A reset from within, and the boot that follows. -/
theorem internalReset_boots (h : Head) (c : Cause) : internalReset h c = boot (chipReset h c true) ∧ (internalReset h c).doc.booted = true ∧
    (internalReset h c).doc.custodians = h.doc.custodians := by
  refine ⟨rfl, booted_boot _, (custodians_boot _).trans ?_⟩
  obtain ⟨-, -, -, hcust, -⟩ := permanent_afterReset h c (true && !decide (c = .powerOn)) (decide (c = .powerOn)) (true && !decide (c = .powerOn))
    (if true && !decide (c = .powerOn) then h.vit.slots else [])
  rw [chipReset_eq]
  exact hcust

/-! ### The Archive's operation after STOP -/

theorem arcOp_arcApply (h : Head) (o : ArcOp) (short : Option Nat) : (arcApply h o short).arc.op = h.arc.op := by
  have hp (g : Head) (n v : Nat) : (programWord g n v).arc.op = g.arc.op := rfl
  have hw (g : Head) (l : List (Nat × Nat)) (n : Nat) : (foldHead g l (fun h e => programWord h (n + e.2) e.1)).arc.op = g.arc.op :=
    (foldHead_frame (fun g : Head => g.arc.op) (f := fun h (e : Nat × Nat) => programWord h (n + e.2) e.1) (fun h e => hp h (n + e.2) e.1) l g :)
  have he (g : Head) (l : List Nat) (n : Nat) : (foldHead g l (fun h i => eraseSector h (n + i))).arc.op = g.arc.op :=
    (foldHead_frame (fun g : Head => g.arc.op) (f := fun h i => eraseSector h (n + i)) (fun _ _ => rfl) l g :)
  have hs (g : Head) (s : Nat) : (halfSector g s).arc.op = g.arc.op := by
    unfold halfSector
    refine (foldHead_frame (fun g => g.arc.op) ?_ _ _).trans ?_
    · exact fun _ _ => rfl
    · rfl
  have hh (g : Head) (n v : Nat) : (halfWord g n v).arc.op = g.arc.op := rfl
  unfold arcApply
  split
  · dsimp only
    split
    · rw [hh, hw]
    · rw [hw]
  · dsimp only
    split
    · rw [hs, he]
    · rw [he]
  · rfl

theorem arcOp_arcComplete (h : Head) (tag : Nat) (quiet : Bool) (st : Status) (bytes word : Nat) :
    (arcComplete h tag quiet st bytes word).arc.op = h.arc.op := by
  unfold arcComplete
  dsimp only
  split
  · rfl
  · split <;> rfl

theorem arcOp_updEnd (h : Head) (u : UpdWrite) (st : Status) : (updEnd h u st).arc.op = h.arc.op := by
  have hr (g : Head) : (updReply g st).arc = g.arc := (frame_updReply g st).1 .arc (by decide)
  have hb (g : Head) : (if u.request = true then updReply g st else g).arc = g.arc := by
    split
    · exact hr g
    · rfl
  unfold updEnd
  dsimp only
  split <;> simp only [raise_arc, hb, fset_arc]

theorem arcOp_arcReport (h : Head) (o : ArcOp) (st : Status) (bytes word : Nat) : (arcReport h o st bytes word).arc.op = h.arc.op := by
  unfold arcReport
  split
  · exact arcOp_arcComplete _ _ _ _ _ _
  · split
    · rfl
    · split
      · exact arcOp_updEnd _ _ _
      · split
        · rfl
        · exact arcOp_updEnd _ _ _

theorem arcOp_abortQueue (n : Nat) : ∀ h : Head, (abortQueue h n).arc.op = h.arc.op := by
  induction n with
  | zero => exact fun _ => rfl
  | succ n ih =>
    intro h
    unfold abortQueue
    split
    · rfl
    · exact (ih _).trans (arcOp_arcComplete _ _ _ _ _ _)

/-- What STOP makes of the operation in progress. -/
def operationStopped (h : Head) (verified : Nat) : Head :=
  match h.arc.op with
  | none => h
  | some o =>
    arcReport (syncSlots (arcApply (arcClear (fresh h).2) o (some verified))) o .aborted (arcDone o (some (match o.work with
      | .program ws => min verified ws.length
      | .erase k => min verified k
      | .close => 0)))
      (Config.freeNat (fresh h).1 % (pulseLimit (syncSlots (arcApply (arcClear (fresh h).2) o (some verified))) o.work + 1))

/-- What STOP makes of the slot write under way. -/
def writeStopped (h : Head) : Head :=
  match h.arc.upd with
  | some u => updEnd h u .aborted
  | none => h

theorem arcStop_eq (h : Head) (verified : Nat) : arcStop h verified =
    raise (fset (writeStopped (abortQueue (operationStopped h verified) 64)) .east ARC_STATUS_STOPPED 1) .east Ev.ARC_STOPPED := rfl

/-- STOP leaves no operation in progress. -/
theorem arcOp_arcStop (h : Head) (verified : Nat) : (arcStop h verified).arc.op = none := by
  have ho : (operationStopped h verified).arc.op = none := by
    unfold operationStopped
    split
    next hn => exact hn
    next o _ =>
      have hs (g : Head) : (syncSlots g).arc = g.arc := rfl
      rw [arcOp_arcReport, hs, arcOp_arcApply]
      rfl
  have hw (g : Head) : (writeStopped g).arc.op = g.arc.op := by
    unfold writeStopped
    split
    · exact arcOp_updEnd _ _ _
    · rfl
  rw [arcStop_eq, raise_arc, fset_arc, hw, arcOp_abortQueue, ho]

/-- A chip without rails. -/
def withoutRails (g : Head) : Head := { g with pwr := { g.pwr with hold := .off }, evq := [] }

theorem railsRemoved_off (h : Head) : (railsRemoved h).pwr.hold = .off ∧ (railsRemoved h).evq = [] ∧ (railsRemoved h).arc.op = none ∧
    (railsRemoved h).cat.flash = h.cat.flash ∧ (railsRemoved h).bridges = h.bridges := by
  have hf := frame_stopArchive h
  have hop : (stopArchive h).arc.op = none := arcOp_arcStop _ _
  have hcat : (stopArchive h).cat = h.cat := hf.1 .cat (by decide)
  have hbridges : (stopArchive h).bridges = h.bridges := hf.1 .bridges (by decide)
  have heq : railsRemoved h = withoutRails (stopArchive h) := rfl
  rw [heq]
  generalize stopArchive h = k at *
  exact ⟨rfl, rfl, hop, congrArg CatState.flash hcat, hbridges⟩

/-- Settles O60: what outlives a reset is framed step by step, and the boot keeps its trust. -/
theorem resetsHoldAndBoot : Obligations.ResetsHoldAndBoot := by
  unfold Obligations.ResetsHoldAndBoot
  refine ⟨powerOn_holds, ?_, ?_, ?_, ?_, ?_, ?_, ?_, ?_, ?_⟩
  · intro s stayed brown hr
    cases brown
    · exact completes_liftAny (exec_resetAssert stayed) (heldReset_first s.dev .external stayed (by decide) (by decide) hr)
    · exact completes_liftAny (exec_railBrownOut stayed) (heldReset_first s.dev .brownOut stayed (by decide) (by decide) hr)
  · intro s stayed brown hr h1
    cases brown
    · exact completes_liftAny (exec_resetAssert stayed) (heldReset_further s.dev .external stayed (by decide) hr h1)
    · exact completes_liftAny (exec_railBrownOut stayed) (heldReset_further s.dev .brownOut stayed (by decide) hr h1)
  · intro s hr ht
    refine completes_liftAny exec_resetRelease ?_
    have heq : resetRelease s.dev = boot { s.dev with pwr := { s.dev.pwr with hold := .running } } := by
      simp only [resetRelease, hr, ht, Bool.false_eq_true, if_false]
    rw [heq]
    exact ⟨rfl, booted_boot _⟩
  · intro s hr ht
    refine completes_liftAny exec_resetRelease ?_
    simp only [resetRelease, hr, ht, if_true]
  · exact fun s => completes_liftAny exec_railsRemoved (railsRemoved_off s.dev)
  · intro s hr
    refine completes_liftAny exec_crystalStable ?_
    rw [crystalStable, if_neg hr]
  · intro s hrun hg
    have heq : wdgGrace s.dev = internalReset (if fbit s.dev .east ARC_STATUS_BOR then setCause s.dev .brownOut else s.dev) .watchdog := by
      rw [wdgGrace, if_pos hg]
      rfl
    refine completes_of_eq exec_wdgGraceExpiry hrun heq ?_
    obtain ⟨hi, hb, hc⟩ := internalReset_boots (if fbit s.dev .east ARC_STATUS_BOR then setCause s.dev .brownOut else s.dev) .watchdog
    refine ⟨hi, hb, hc.trans ?_⟩
    split
    · exact congrArg DocState.custodians ((frame_setCause s.dev .brownOut).1 .doc (by decide))
    · rfl
  · intro s hrun ht
    have heq : trialExpiry s.dev = internalReset (raise s.dev .east Ev.UPD_TRIAL_EXPIRED) .watchdog := if_pos ht
    refine completes_of_eq exec_trialExpiry hrun heq ?_
    obtain ⟨hi, hb, hc⟩ := internalReset_boots (raise s.dev .east Ev.UPD_TRIAL_EXPIRED) .watchdog
    exact ⟨hi, hb, hc.trans (congrArg DocState.custodians (raise_doc _ _ _ _))⟩
  · intro s hrun hd hm
    exact completes_of_eq exec_dumpRestart hrun (if_pos ⟨hd, hm⟩) (internalReset_boots s.dev .docent)

end Sys2Proof.Laws
end

section
/-! The Archive takes its next operation (R437): what that leaves. -/

namespace Sys2Proof.Laws

open Machine Machine.Reg

/-- Two states of the Archive differ at most in the operation in progress and the completion queue. -/
def ArcQueue (a b : ArcState) : Prop := b = { a with op := b.op, entries := b.entries, held := b.held }

theorem ArcQueue.trans {a b c : ArcState} (x : ArcQueue a b) (y : ArcQueue b c) : ArcQueue a c := by
  unfold ArcQueue at *
  rw [y, x]

theorem arcQueue_refl (a : ArcState) : ArcQueue a a := rfl

theorem arcQueue_arcWriteEntry (h : Head) (e : Nat) : ArcQueue h.arc (arcWriteEntry h e).arc := rfl

theorem arcQueue_arcComplete (h : Head) (tag : Nat) (quiet : Bool) (st : Status) (bytes word : Nat) :
    ArcQueue h.arc (arcComplete h tag quiet st bytes word).arc := by
  unfold arcComplete
  dsimp only
  split
  · exact arcQueue_refl _
  · split <;> rfl

theorem arcQueue_arcAnswer (h : Head) (d : Desc) (st : Status) (bytes word : Nat) : ArcQueue h.arc (arcAnswer h d st bytes word).arc :=
  arcQueue_arcComplete (arcTake h) _ _ _ _ _

theorem arcQueue_arcStart (h : Head) (o : ArcOp) : ArcQueue h.arc (arcStart h o).arc := rfl

theorem arcSkip_keeps (n : Nat) : ∀ h : Head,
    Frame [.arc, .sram] [(.arc, 0x044), (.arc, 0x04C)] h (arcSkip h n) ∧ ArcQueue h.arc (arcSkip h n).arc := by
  induction n with
  | zero => exact fun h => ⟨frame_refl _ _ h, arcQueue_refl _⟩
  | succ n ih =>
    intro h
    unfold arcSkip
    split
    · exact ⟨frame_refl _ _ h, arcQueue_refl _⟩
    · split
      · exact ⟨frame_refl _ _ h, arcQueue_refl _⟩
      · obtain ⟨hf, ha⟩ := ih (arcAnswer h _ _ 0 0)
        exact ⟨(frame_arcAnswer h _ _ _ _).trans hf, (arcQueue_arcAnswer h _ _ _ _).trans ha⟩

theorem frame_arcStart (h : Head) (o : ArcOp) : Frame [.arc] [(.arc, 0x054)] h (arcStart h o) := by
  simp +decide only [arcStart, frame_rules, frame_mk, true_or, or_true, and_self, frame_refl]

theorem frame_arcTake (h : Head) : Frame [] [(.arc, 0x044)] h (arcTake h) := by
  simp +decide only [arcTake, frame_rules, frame_refl]

/-- A field of a register outside the frame. -/
theorem Frame.fget {l : List Part} {t : List (Block × Nat)} {h g : Head} (x : Frame l t h g) (w : Wing) (f : Fld) (hn : (f.block, f.off) ∉ t)
    (ho : f.off < 4096) (bank inst : Nat) : fget g w f bank inst = Machine.fget h w f bank inst := fget_of_regsBut x.2 w f ho hn bank inst

theorem Frame.fbit {l : List Part} {t : List (Block × Nat)} {h g : Head} (x : Frame l t h g) (w : Wing) (f : Fld) (hn : (f.block, f.off) ∉ t)
    (ho : f.off < 4096) (bank inst : Nat) : fbit g w f bank inst = Machine.fbit h w f bank inst := by
  unfold Machine.fbit
  rw [x.fget w f hn ho]

theorem Frame.hget {l : List Part} {t : List (Block × Nat)} {h g : Head} (x : Frame l t h g) (p : Page) (f : HBits) (hn : (p.block, f.off) ∉ t)
    (ho : f.off < 4096) : hget g p f = Machine.hget h p f := congrArg (bitsOf · f.hi f.lo) (x.2 p f.off 0 ho hn)

theorem Frame.eventSet {l : List Part} {t : List (Block × Nat)} {h g : Head} (x : Frame l t h g) (w : Wing) (e : EvRef) (hn : (e.block, 0x010) ∉ t)
    (inst : Nat) : EventSet g w e inst ↔ EventSet h w e inst := by
  unfold EventSet
  rw [x.hget (pg e.block w inst) EVT_STATUS_EVENTS hn (by decide)]

theorem running_congr {l : List Part} {t : List (Block × Nat)} {h g : Head} (x : Frame l t h g) (p : Page) (h0 : (p.block, 0x008) ∉ t)
    (h1 : (p.block, 0x00C) ∉ t) (h2 : (p.block, 0x030) ∉ t) : running g p = running h p := by
  simp only [running, x.hget p CTRL_ENABLE h0 (by decide), x.hget p CTRL_QUIESCE h0 (by decide), x.hget p STATUS_FENCED h1 (by decide),
    x.hget p RUNG_CURRENT h2 (by decide)]

theorem fget_of_not_fbit {h : Head} {w : Wing} {f : Fld} {bank inst : Nat} (hb : fbit h w f bank inst = false) : fget h w f bank inst = 0 := by
  simpa [Machine.fbit] using hb

theorem inXo_congr {l : List Part} {t : List (Block × Nat)} {h g : Head} (x : Frame l t h g) (h0 : (Block.arc, 0x060) ∉ t)
    (h1 : (Block.arc, 0x064) ∉ t) (a n : Nat) : inXo g a n = inXo h a n := by
  simp only [inXo, x.fbit .east ARC_XO_CFG_LOCKED h1 (by decide), x.fget .east ARC_XO_BASE_SECTOR h0 (by decide),
    x.fget .east ARC_XO_CFG_SECTORS h1 (by decide)]

theorem updStep_offset (h g : Head) (u : UpdWrite) : (updStep g u).offset = (updStep h u).offset := by
  unfold updStep
  dsimp only
  split <;> rfl

/-- The next operation, with no slot write refused by an execute-only region. -/
theorem arcNext_keeps (h : Head) (hx : ∀ u, h.arc.upd = some u → inXo h (updStep h u).offset 1 = false) :
    Frame [.arc, .sram] [(.arc, 0x044), (.arc, 0x04C), (.arc, 0x054)] h (arcNext h) ∧ ArcQueue h.arc (arcNext h).arc := by
  obtain ⟨hf, ha⟩ := arcSkip_keeps 64 h
  have hfs : Frame [.arc, .sram] [(.arc, 0x044), (.arc, 0x04C), (.arc, 0x054)] h (arcSkip h 64) := hf.mono (by decide) (by decide)
  unfold arcNext
  split
  · exact ⟨frame_refl _ _ h, arcQueue_refl _⟩
  dsimp only
  split
  · split
    next o _ =>
      split
      · refine ⟨hfs.trans ?_, ha.trans (arcQueue_arcStart _ o)⟩
        simp +decide only [(frame_arcStart ..).iff, (frame_arcTake ..).iff, frame_refl]
      · exact ⟨hfs, ha⟩
    next => exact ⟨hfs, ha⟩
  · unfold updGo
    split
    next => exact ⟨hfs, ha⟩
    next u hu =>
      have hu' : h.arc.upd = some u := by
        rw [ha] at hu
        exact hu
      have hxo : inXo (arcSkip h 64) (updStep (arcSkip h 64) u).offset 1 = false := by
        rw [inXo_congr hf (by decide) (by decide), updStep_offset h]
        exact hx u hu'
      dsimp only
      rw [hxo]
      exact ⟨hfs.trans ((frame_arcStart _ _).mono (by decide) (by decide)), ha.trans (arcQueue_arcStart _ _)⟩

end Sys2Proof.Laws
end

section
/-! Updates, recovery and watchdogs (R450 to R457), and O55. -/

namespace Sys2Proof.Laws

open Machine Machine.Reg

/-! ### Slot writes -/

/-- A slot write as it begins. -/
def writeBegun (h : Head) (u : UpdWrite) : Head :=
  fset (fset { h with arc := { h.arc with upd := some u } } .east UPD_STATUS_BUSY 1) .east UPD_STATUS_SECTORS_LEFT (min (updLeft u) 65535)

/-- What R450 refuses: the slot in force, an image on trial, a length that does not fit. -/
def WriteRefused (h : Head) (slot len : Nat) : Prop :=
  (slot = slotInForce h (decide (2 ≤ slot)) ∧ (2 ≤ slot ∨ fbit h .east UPD_STATUS_RECOVERED = false)) ∨
    fbit h .east (if 2 ≤ slot then DOC_STATUS_OS_TRIAL else DOC_STATUS_DOC_TRIAL) = true ∨ len = 0 ∨ len % 32 ≠ 0 ∨ slotSize slot < len

theorem updWrite_refused (h : Head) (slot len : Nat) (request : Bool) (hr : WriteRefused h slot len) : updWrite h slot len request =
    if request then updReply (fset h .east UPD_STATUS_RESULT (statusCode .limit)) .limit else fset h .east UPD_STATUS_RESULT (statusCode .limit) := by
  unfold updWrite
  dsimp only
  refine if_pos ?_
  unfold WriteRefused at hr
  by_cases h2 : 2 ≤ slot <;> simp [h2] at hr ⊢ <;> grind

theorem updWrite_starts (h : Head) (slot len : Nat) (request : Bool) (hr : ¬ WriteRefused h slot len) : updWrite h slot len request =
    arcNext (writeBegun h ⟨slot, len, 0, 0, request, nextGen h slot⟩) := by
  unfold updWrite
  dsimp only
  refine if_neg ?_
  unfold WriteRefused at hr
  by_cases h2 : 2 ≤ slot <;> simp [h2] at hr ⊢ <;> grind

theorem writeBegun_reads (h : Head) (u : UpdWrite) : fget (writeBegun h u) .east UPD_STATUS_BUSY = 1 ∧
    fget (writeBegun h u) .east UPD_STATUS_SECTORS_LEFT = min (updLeft u) 65535 := by
  have hl : min (updLeft u) 65535 % 65536 = min (updLeft u) 65535 := Nat.mod_eq_of_lt (by omega)
  simp only [fget_eq_bget, writeBegun, fset_regs]
  simp (disch := decide) [UPD_STATUS_BUSY, UPD_STATUS_SECTORS_LEFT, hl]

theorem frame_writeBegun (h : Head) (u : UpdWrite) : Frame [.arc] [(.upd, 0x050)] h (writeBegun h u) := by
  simp +decide only [writeBegun, frame_rules, frame_mk, true_or, or_true, and_self, frame_refl]

/-- A slot write under way, none of its words programmed yet. -/
theorem writeBegun_next (h : Head) (u : UpdWrite) (hp : u.phase = 0) (hx : inXo h (0x1000 + 0x1000 * u.slot) 1 = false) :
    let g := arcNext (writeBegun h u)
    g.arc.upd = some u ∧ g.arc.words = h.arc.words ∧ g.arc.recs = h.arc.recs ∧ fget g .east UPD_STATUS_BUSY = 1 ∧
      fget g .east UPD_STATUS_SECTORS_LEFT = min (imageSectors u.length) 65535 ∧
      Frame [.arc, .sram] [(.upd, 0x050), (.arc, 0x044), (.arc, 0x04C), (.arc, 0x054)] h g := by
  intro g
  have hb := frame_writeBegun h u
  obtain ⟨hbusy, hleft⟩ := writeBegun_reads h u
  have hxo : ∀ v, (writeBegun h u).arc.upd = some v → inXo (writeBegun h u) (updStep (writeBegun h u) v).offset 1 = false := by
    intro v hv
    cases hv
    have ho : (updStep (writeBegun h u) u).offset = 0x1000 + 0x1000 * u.slot := by
      unfold updStep
      rw [hp]
      rfl
    rw [inXo_congr hb (by decide) (by decide), ho, hx]
  obtain ⟨hf, ha⟩ := arcNext_keeps (writeBegun h u) hxo
  have hlu : updLeft u = imageSectors u.length := by
    unfold updLeft
    rw [hp]
    rfl
  refine ⟨(congrArg ArcState.upd ha :), (congrArg ArcState.words ha :), (congrArg ArcState.recs ha :), ?_, ?_, ?_⟩
  · exact (hf.fget .east UPD_STATUS_BUSY (by decide) (by decide) 0 0).trans hbusy
  · rw [← hlu]
    exact (hf.fget .east UPD_STATUS_SECTORS_LEFT (by decide) (by decide) 0 0).trans hleft
  · exact (hb.mono (by decide) (by decide)).trans (hf.mono (by decide) (by decide))

/-- The write command's own register, and the answer to its access. -/
def slotNamed (h : Head) (slot : Nat) : Head := fset (reply h false) .east UPD_CTRL_SLOT slot

theorem frame_slotNamed (h : Head) (slot : Nat) : Frame [.bus] [(.upd, 0x040)] h (slotNamed h slot) := by
  simp +decide only [slotNamed, frame_rules, frame_refl]

theorem fget_slotNamed (h : Head) (slot : Nat) (hs : slot < 4) : fget (slotNamed h slot) .east UPD_CTRL_SLOT = slot := by
  simp only [fget_eq_bget, slotNamed, fset_regs]
  simp (disch := decide) [UPD_CTRL_SLOT, Nat.mod_eq_of_lt hs]

theorem updWriteCmd_eq (h : Head) (ini : Initiator) (slot : Nat) (hw : Writable h ini (pg .upd .east) 0x040) (hs : slot < 4)
    (hb : fbit h .east UPD_STATUS_BUSY = false) (hr : running h (pg .upd .east) = true) :
    updWriteCmd h ini slot = updWrite (slotNamed h slot) slot (fget h .east UPD_LENGTH_BYTES) false := by
  have hf := frame_slotNamed h slot
  have hrun : running (slotNamed h slot) (pg .upd .east) = true := by
    rw [running_congr hf _ (by decide) (by decide) (by decide), hr]
  have he : updWriteEffect (slotNamed h slot) = updWrite (slotNamed h slot) slot (fget h .east UPD_LENGTH_BYTES) false := by
    unfold updWriteEffect
    rw [hf.fbit .east UPD_STATUS_BUSY (by decide) (by decide), hb, hrun, fget_slotNamed h slot hs,
      hf.fget .east UPD_LENGTH_BYTES (by decide) (by decide)]
    rfl
  rw [updWriteCmd, withWrite_ok h ini _ _ _ hw]
  rw [Nat.mod_eq_of_lt hs]
  exact he

theorem writeRefused_congr {l : List Part} {t : List (Block × Nat)} {h g : Head} (x : Frame l t h g) (hd : (Block.doc, 0x044) ∉ t)
    (hu : (Block.upd, 0x050) ∉ t) (slot len : Nat) : WriteRefused g slot len ↔ WriteRefused h slot len := by
  have ht : fbit g .east (if 2 ≤ slot then DOC_STATUS_OS_TRIAL else DOC_STATUS_DOC_TRIAL) =
      fbit h .east (if 2 ≤ slot then DOC_STATUS_OS_TRIAL else DOC_STATUS_DOC_TRIAL) := by
    split <;> exact x.fbit .east _ hd (by decide) 0 0
  simp only [WriteRefused, slotInForce, ht, x.fbit .east UPD_STATUS_RECOVERED hu (by decide), x.fget .east DOC_STATUS_OS_SLOT hd (by decide),
    x.fget .east DOC_STATUS_DOC_SLOT hd (by decide)]

theorem updWrite_begins (s : State) (ini : Initiator) (slot len : Nat) (hrun : Runs s.dev) (hw : Writable s.dev ini (pg .upd .east) 0x040)
    (hs : slot < 4) (hb : fbit s.dev .east UPD_STATUS_BUSY = false) (hr : running s.dev (pg .upd .east) = true)
    (hlen : len = fget s.dev .east UPD_LENGTH_BYTES)
    (hin : slot = slotInForce s.dev (decide (2 ≤ slot)) → slot < 2 ∧ fbit s.dev .east UPD_STATUS_RECOVERED = true)
    (ht : fbit s.dev .east (if 2 ≤ slot then DOC_STATUS_OS_TRIAL else DOC_STATUS_DOC_TRIAL) = false)
    (h0 : len ≠ 0) (h32 : len % 32 = 0) (hsize : len ≤ slotSize slot) (hx : inXo s.dev (0x1000 + 0x1000 * slot) 1 = false) :
    Completes (.updWrite ini slot) s (fun h =>
      h.arc.upd = some ⟨slot, len, 0, 0, false, nextGen s.dev slot⟩ ∧ fget h .east UPD_STATUS_BUSY = 1 ∧
        fget h .east UPD_CTRL_SLOT = slot ∧ fget h .east UPD_STATUS_SECTORS_LEFT = min ((len + 4095) / 4096) 65535 ∧
        h.arc.words = s.dev.arc.words ∧ h.mem = s.dev.mem ∧
        h.arc.recs = s.dev.arc.recs) := by
  have hf := frame_slotNamed s.dev slot
  have hnot : ¬ WriteRefused s.dev slot len := by
    unfold WriteRefused
    rintro (⟨he, h2 | hrec⟩ | hd | hz | hm | hl)
    · exact absurd h2 (by have := (hin he).1; omega)
    · rw [(hin he).2] at hrec
      cases hrec
    · rw [ht] at hd
      cases hd
    · exact h0 hz
    · exact hm h32
    · omega
  have heq : updWriteCmd s.dev ini slot = arcNext (writeBegun (slotNamed s.dev slot) ⟨slot, len, 0, 0, false, nextGen s.dev slot⟩) := by
    rw [updWriteCmd_eq s.dev ini slot hw hs hb hr, ← hlen,
      updWrite_starts _ _ _ _ (by rwa [writeRefused_congr hf (by decide) (by decide)])]
    rfl
  refine completes_of_eq (exec_updWrite ini slot) hrun heq ?_
  obtain ⟨hupd, hwords, hrecs, hbusy, hleft, hg⟩ := writeBegun_next (slotNamed s.dev slot) ⟨slot, len, 0, 0, false, nextGen s.dev slot⟩ rfl
    (by rwa [inXo_congr hf (by decide) (by decide)])
  refine ⟨hupd, hbusy, (hg.fget .east UPD_CTRL_SLOT (by decide) (by decide) 0 0).trans (fget_slotNamed _ _ hs), hleft, hwords, ?_, hrecs⟩
  exact hg.1 .mem (by decide)

theorem updWrite_limit (s : State) (ini : Initiator) (slot len : Nat) (hrun : Runs s.dev) (hw : Writable s.dev ini (pg .upd .east) 0x040)
    (hs : slot < 4) (hb : fbit s.dev .east UPD_STATUS_BUSY = false) (hr : running s.dev (pg .upd .east) = true)
    (hlen : len = fget s.dev .east UPD_LENGTH_BYTES) (hrefused : WriteRefused s.dev slot len) :
    Completes (.updWrite ini slot) s (fun h =>
      fget h .east UPD_STATUS_RESULT = statusCode .limit ∧ fget h .east UPD_STATUS_BUSY = 0 ∧ RegsBut s.dev h [(.upd, 0x040), (.upd, 0x050)] ∧
        SameButRegs (reply s.dev false) h) := by
  have hf := frame_slotNamed s.dev slot
  have heq : updWriteCmd s.dev ini slot = fset (slotNamed s.dev slot) .east UPD_STATUS_RESULT (statusCode .limit) := by
    rw [updWriteCmd_eq s.dev ini slot hw hs hb hr, ← hlen,
      updWrite_refused _ _ _ _ (by rwa [writeRefused_congr hf (by decide) (by decide)])]
    rfl
  refine completes_of_eq (exec_updWrite ini slot) hrun heq ⟨?_, ?_, ?_, ?_⟩
  · simp only [fget_eq_bget, fset_regs]
    simp (disch := decide) [UPD_STATUS_RESULT, statusCode]
  · have hz : fget (slotNamed s.dev slot) .east UPD_STATUS_BUSY = 0 := by
      rw [hf.fget .east UPD_STATUS_BUSY (by decide) (by decide), fget_of_not_fbit hb]
    rw [fget_eq_bget] at hz ⊢
    rw [fset_regs]
    simpa (disch := decide) [UPD_STATUS_RESULT, UPD_STATUS_BUSY] using hz
  · have hr : Frame [.bus] [(.upd, 0x040), (.upd, 0x050)] s.dev (fset (slotNamed s.dev slot) .east UPD_STATUS_RESULT (statusCode .limit)) := by
      simp +decide only [slotNamed, frame_rules, frame_refl]
    exact hr.2
  · exact sameButRegs_fset (sameButRegs_fset rfl)

/-! ### A write given up -/

/-- A slot write that has ended. -/
def writeEnded (h : Head) (st : Status) : Head :=
  fset (fset (fset { h with arc := { h.arc with upd := none } } .east UPD_STATUS_BUSY 0) .east UPD_STATUS_RESULT (statusCode st)) .east
    UPD_STATUS_SECTORS_LEFT 0

theorem updEnd_aborted (h : Head) (u : UpdWrite) :
    updEnd h u .aborted = if u.request then updReply (writeEnded h .aborted) .aborted else writeEnded h .aborted := rfl

theorem frame_writeEnded (h : Head) (st : Status) : Frame [.arc] [(.upd, 0x050)] h (writeEnded h st) := by
  simp +decide only [writeEnded, frame_rules, frame_mk, true_or, or_true, and_self, frame_refl]

theorem writeEnded_reads (h : Head) : fget (writeEnded h .aborted) .east UPD_STATUS_BUSY = 0 ∧
    fget (writeEnded h .aborted) .east UPD_STATUS_RESULT = statusCode .aborted := by
  simp only [fget_eq_bget, writeEnded, fset_regs]
  simp (disch := decide) [UPD_STATUS_BUSY, UPD_STATUS_RESULT, UPD_STATUS_SECTORS_LEFT, statusCode]

theorem stageAddr_congr {l : List Part} {t : List (Block × Nat)} {h g : Head} (x : Frame l t h g) (h0 : (Block.upd, 0x044) ∉ t)
    (h1 : (Block.upd, 0x048) ∉ t) : stageAddr g = stageAddr h := by
  simp only [stageAddr, pget, x.fget .east UPD_STAGE_LO_ADDR h0 (by decide), x.fget .east UPD_STAGE_HI_ADDR h1 (by decide)]

/-- A slot write as ABORT leaves it. -/
theorem updEnd_aborted_facts (h : Head) (u : UpdWrite) :
    let g := updEnd h u .aborted
    g.arc = { h.arc with upd := none } ∧ fget g .east UPD_STATUS_BUSY = 0 ∧ fget g .east UPD_STATUS_RESULT = statusCode .aborted ∧
      g.mem = (if u.request then memPut h.mem (stageAddr h + 1) 1 (statusCode .aborted) else h.mem) ∧
      Frame [.arc, .mem, .poison] [(.upd, 0x050)] h g := by
  intro g
  have hf := frame_writeEnded h .aborted
  obtain ⟨hbusy, hresult⟩ := writeEnded_reads h
  have hg : g = _ := updEnd_aborted h u
  have hrep := frame_updReply (writeEnded h .aborted) .aborted
  rw [hg]
  cases u.request with
  | false => exact ⟨rfl, hbusy, hresult, rfl, hf.mono (by decide) (by decide)⟩
  | true =>
    refine ⟨rfl, (hrep.fget .east UPD_STATUS_BUSY (by decide) (by decide) 0 0).trans hbusy,
      (hrep.fget .east UPD_STATUS_RESULT (by decide) (by decide) 0 0).trans hresult, ?_, ?_⟩
    · rw [if_pos rfl, if_pos rfl, ← stageAddr_congr hf (by decide) (by decide)]
      rfl
    · exact (hf.mono (by decide) (by decide)).trans (hrep.mono (by decide) (by decide))

/-- ABORT: the write is given up; while one of its operations is in progress it stays BUSY. -/
theorem updAbortEffect_facts (h : Head) (u : UpdWrite) (hu : h.arc.upd = some u) :
    let g := updAbortEffect h
    g.arc = { h.arc with upd := none } ∧ fget g .east UPD_STATUS_RESULT = statusCode .aborted ∧
      g.mem = (if u.request then memPut h.mem (stageAddr h + 1) 1 (statusCode .aborted) else h.mem) ∧
      Frame [.arc, .mem, .poison] [(.upd, 0x050)] h g ∧ ((∀ o, h.arc.op = some o → o.job ≠ .upd) → fget g .east UPD_STATUS_BUSY = 0) := by
  intro g
  obtain ⟨harc, hbusy, hresult, hmem, hf⟩ := updEnd_aborted_facts h u
  have hop : (updEnd h u .aborted).arc.op = h.arc.op := arcOp_updEnd h u .aborted
  have hg : g = match h.arc.op with
      | some o => if o.job = .upd then fset (updEnd h u .aborted) .east UPD_STATUS_BUSY 1 else updEnd h u .aborted
      | none => updEnd h u .aborted := by
    show updAbortEffect h = _
    unfold updAbortEffect
    rw [hu]
    dsimp only
    rw [hop] <;> rfl
  rw [hg]
  generalize updEnd h u .aborted = k at *
  cases h.arc.op with
  | none => exact ⟨harc, hresult, hmem, hf, fun _ => hbusy⟩
  | some o =>
    dsimp only
    split
    next hj =>
      refine ⟨harc, ?_, hmem, ?_, fun hn => absurd hj (hn o rfl)⟩
      · rw [fget_eq_bget] at hresult ⊢
        rw [fset_regs]
        simpa (disch := decide) [UPD_STATUS_BUSY, UPD_STATUS_RESULT] using hresult
      · exact hf.trans ((frame_fset k .east 0 0 UPD_STATUS_BUSY 1).mono (by decide) (by decide))
    next => exact ⟨harc, hresult, hmem, hf, fun _ => hbusy⟩

theorem updAbort_gives_up (s : State) (ini : Initiator) (u : UpdWrite) (hrun : Runs s.dev) (hw : Writable s.dev ini (pg .upd .east) 0x040)
    (hu : s.dev.arc.upd = some u) (hn : ∀ o, s.dev.arc.op = some o → o.job ≠ .upd) : Completes (.updAbort ini) s (fun h =>
      h.arc = { s.dev.arc with upd := none } ∧ fget h .east UPD_STATUS_BUSY = 0 ∧ fget h .east UPD_STATUS_RESULT = statusCode .aborted ∧
        (u.request = false → h.mem = s.dev.mem) ∧ RegsBut s.dev h [(.upd, 0x050)]) := by
  refine completes_of_eq (exec_updAbort ini) hrun (withWrite_ok s.dev ini _ _ _ hw) ?_
  obtain ⟨harc, hresult, hmem, hf, hbusy⟩ := updAbortEffect_facts (reply s.dev false) u hu
  refine ⟨harc, hbusy hn, hresult, fun hr => ?_, regsBut_trans (regsBut_mono (frame_reply s.dev false 0).2 (by decide)) hf.2⟩
  rw [hmem, hr]
  rfl

theorem updReqAbort_gives_up (s : State) (u : UpdWrite) (hrun : Runs s.dev) (hfw : firmwareRuns s.dev = true) (hu : s.dev.arc.upd = some u) :
    Completes .updReqAbort s (fun h =>
      h.arc = { s.dev.arc with upd := none } ∧ fget h .east UPD_STATUS_RESULT = statusCode .aborted ∧
        h.mem = memPut (if u.request then memPut s.dev.mem (stageAddr s.dev + 1) 1 (statusCode .aborted) else s.dev.mem)
          (stageAddr s.dev + 1) 1 (statusCode .done) ∧ RegsBut s.dev h [(.upd, 0x050)]) := by
  have heq : updReqAbort s.dev = updReply (updAbortEffect s.dev) .done := if_pos hfw
  refine completes_of_eq exec_updReqAbort hrun heq ?_
  obtain ⟨harc, hresult, hmem, hf, -⟩ := updAbortEffect_facts s.dev u hu
  have hrep := frame_updReply (updAbortEffect s.dev) .done
  have hst := stageAddr_congr hf (by decide) (by decide)
  have hput : (updReply (updAbortEffect s.dev) .done).mem = memPut (updAbortEffect s.dev).mem (stageAddr (updAbortEffect s.dev) + 1) 1
    (statusCode .done) := rfl
  refine ⟨Eq.trans (hrep.1 .arc (by decide)) harc, (hrep.fget .east UPD_STATUS_RESULT (by decide) (by decide) 0 0).trans hresult, ?_,
    regsBut_trans hf.2 (regsBut_mono hrep.2 (by decide))⟩
  rw [hput, hmem, hst]

/-! ### Update requests -/

/-- The request's slot and length in the engine's registers. -/
def requestNamed (h : Head) (slot len : Nat) : Head := fset (fset h .east UPD_CTRL_SLOT slot) .east UPD_LENGTH_BYTES len

theorem frame_requestNamed (h : Head) (slot len : Nat) : Frame [] [(.upd, 0x040), (.upd, 0x04C)] h (requestNamed h slot len) := by
  simp +decide only [requestNamed, frame_rules, frame_refl]

theorem slotInForce_fields (h : Head) (os : Bool) : slotInForce h os =
    if os then 2 + fget h .east DOC_STATUS_OS_SLOT else fget h .east DOC_STATUS_DOC_SLOT := rfl

theorem docSlot_lt (h : Head) : fget h .east DOC_STATUS_DOC_SLOT < 2 ∧ fget h .east DOC_STATUS_OS_SLOT < 2 := by
  constructor <;> (rw [fget_eq_bget]; exact bget_lt ..)

/-- The other slot of a kind. -/
theorem otherSlot (h : Head) (os : Bool) : (if slotInForce h os % 2 = 0 then slotInForce h os + 1 else slotInForce h os - 1) =
    if os then 3 - fget h .east DOC_STATUS_OS_SLOT else 1 - fget h .east DOC_STATUS_DOC_SLOT := by
  obtain ⟨hd, ho⟩ := docSlot_lt h
  rw [slotInForce_fields]
  cases os <;> simp <;> split <;> omega

theorem updRequest_begins (s : State) (os : Bool) (f slot : Nat) (hrun : Runs s.dev) (hfw : firmwareRuns s.dev = true)
    (hb : fbit s.dev .east UPD_STATUS_BUSY = false) (ht : fbit s.dev .east (if os then DOC_STATUS_OS_TRIAL else DOC_STATUS_DOC_TRIAL) = false)
    (hf : f = memRead s.dev (stageAddr s.dev + 4) 4) (h0 : f ≠ 0) (h32 : f % 32 = 0) (hsize : f ≤ (if os then 0x4000000 else 0x100000))
    (hslot : slot = (if os then 3 - fget s.dev .east DOC_STATUS_OS_SLOT else 1 - fget s.dev .east DOC_STATUS_DOC_SLOT))
    (hx : inXo s.dev (0x1000 + 0x1000 * slot) 1 = false) :
    Completes (if os then .writeOs else .writeDocent) s (fun h =>
      h.arc.upd = some ⟨slot, f, 0, 0, true, nextGen s.dev slot⟩ ∧ fget h .east UPD_STATUS_BUSY = 1 ∧
        h.arc.words = s.dev.arc.words ∧ h.mem = s.dev.mem) := by
  have hfr := frame_requestNamed s.dev slot f
  obtain ⟨hdl, hol⟩ := docSlot_lt s.dev
  have hkind : decide (2 ≤ slot) = os := by
    cases os <;> simp at hslot ⊢ <;> omega
  have hkind' : (2 ≤ slot) = (os = true) := by
    rw [← hkind, decide_eq_true_eq]
  have hne : slot ≠ slotInForce s.dev os := by
    rw [hslot, slotInForce_fields]
    cases os <;> simp <;> omega
  have hsz : slotSize slot = if os then 0x4000000 else 0x100000 := by
    cases os <;> simp at hslot <;> unfold slotSize
    · exact if_pos (by omega)
    · exact if_neg (by omega)
  have hnot : ¬ WriteRefused s.dev slot f := by
    unfold WriteRefused
    rw [hkind, hsz]
    simp only [hkind', ht]
    rintro (⟨he, -⟩ | hd | hz | hm | hl)
    · exact hne he
    · cases hd
    · exact h0 hz
    · exact hm h32
    · omega
  have heq : updRequest s.dev os = arcNext (writeBegun (requestNamed s.dev slot f) ⟨slot, f, 0, 0, true, nextGen s.dev slot⟩) := by
    have hw := updWrite_starts (requestNamed s.dev slot f) slot f true (by rwa [writeRefused_congr hfr (by decide) (by decide)])
    unfold updRequest
    rw [hfw, hb]
    dsimp only
    rw [otherSlot, ← hslot, ← hf]
    exact hw
  have hexec : exec (if os then .writeOs else .writeDocent) = lift (fun h => updRequest h os) := by
    cases os <;> rfl
  refine completes_of_eq hexec hrun heq ?_
  obtain ⟨hupd, hwords, -, hbusy, -, hg⟩ := writeBegun_next (requestNamed s.dev slot f) ⟨slot, f, 0, 0, true, nextGen s.dev slot⟩ rfl
    (by rwa [inXo_congr hfr (by decide) (by decide)])
  exact ⟨hupd, hbusy, hwords, hg.1 .mem (by decide)⟩

/-! ### Confirms -/

/-- A confirm's marker, and the trial bit cleared. -/
def trialCleared (h : Head) (os : Bool) : Head :=
  syncSlots (fset (programWord h (controlWord (slotInForce h os) 2) (marker (slotMagic 2) 0)) .east
    (if os then DOC_STATUS_OS_TRIAL else DOC_STATUS_DOC_TRIAL) 0)

/-- A confirm but for the floor. -/
def trialConfirmed (h : Head) (os : Bool) : Head := raise (syncTrial (trialCleared h os)) .east Ev.UPD_CONFIRMED

theorem updConfirm_eq (h : Head) (os up : Bool) (ht : fbit h .east (if os then DOC_STATUS_OS_TRIAL else DOC_STATUS_DOC_TRIAL) = true) :
    updConfirm h os up = if up then raiseFloor (trialConfirmed h os) os else trialConfirmed h os := by
  unfold updConfirm
  dsimp only
  rw [ht]
  rfl

theorem frame_syncTrial (h : Head) : Frame [.arc] [(.upd, 0x05C)] h (syncTrial h) := by
  simp +decide only [syncTrial, frame_ite, frame_rules, frame_mk, true_or, or_true, and_self, frame_refl, ite_self]

theorem arc_syncTrial (h : Head) : (syncTrial h).arc.words = h.arc.words ∧ (syncTrial h).arc.recs = h.arc.recs := by
  unfold syncTrial
  split <;> exact ⟨rfl, rfl⟩

theorem trial_syncTrial (h : Head) (hd : fbit h .east DOC_STATUS_DOC_TRIAL = false) (ho : fbit h .east DOC_STATUS_OS_TRIAL = false) :
    (syncTrial h).arc.trial = false := by
  unfold syncTrial
  rw [hd, ho]
  rfl

theorem trialConfirmed_frame (h : Head) (os : Bool) :
    Frame [.arc, .evq] [(.arc, 0x068), (.doc, 0x044), (.upd, 0x054), (.upd, 0x05C), (.upd, 0x010)] h (trialConfirmed h os) := by
  cases os <;> simp +decide only [trialConfirmed, trialCleared, frame_rules, (frame_syncTrial ..).iff, (frame_syncSlots ..).iff,
    (frame_programWord ..).iff, if_true, if_false, frame_refl]

/-- The trial field of a kind, and that of the other kind. -/
theorem trialCleared_trials (h : Head) (os : Bool) :
    fbit (trialCleared h os) .east (if os then DOC_STATUS_OS_TRIAL else DOC_STATUS_DOC_TRIAL) = false ∧
      fbit (trialCleared h os) .east (if os then DOC_STATUS_DOC_TRIAL else DOC_STATUS_OS_TRIAL) =
        fbit h .east (if os then DOC_STATUS_DOC_TRIAL else DOC_STATUS_OS_TRIAL) := by
  have hs (g : Head) := frame_syncSlots g
  have hp := frame_programWord h (controlWord (slotInForce h os) 2) (marker (slotMagic 2) 0)
  have hpd := hp.fget .east DOC_STATUS_DOC_TRIAL (by decide) (by decide) 0 0
  have hpo := hp.fget .east DOC_STATUS_OS_TRIAL (by decide) (by decide) 0 0
  unfold trialCleared fbit
  generalize programWord h (controlWord (slotInForce h os) 2) (marker (slotMagic 2) 0) = k at *
  cases os
  · simp only [Bool.false_eq_true, if_false, (hs _).fget .east DOC_STATUS_DOC_TRIAL (by decide) (by decide),
      (hs _).fget .east DOC_STATUS_OS_TRIAL (by decide) (by decide), ← hpo]
    simp only [fget_eq_bget, fset_regs]
    simp (disch := decide) [DOC_STATUS_OS_TRIAL, DOC_STATUS_DOC_TRIAL]
  · simp only [if_true, (hs _).fget .east DOC_STATUS_DOC_TRIAL (by decide) (by decide),
      (hs _).fget .east DOC_STATUS_OS_TRIAL (by decide) (by decide), ← hpd]
    simp only [fget_eq_bget, fset_regs]
    simp (disch := decide) [DOC_STATUS_OS_TRIAL, DOC_STATUS_DOC_TRIAL]

theorem trialConfirmed_trial (h : Head) (os : Bool) :
    fbit (trialConfirmed h os) .east (if os then DOC_STATUS_OS_TRIAL else DOC_STATUS_DOC_TRIAL) = false := by
  have hd : Frame [.arc, .evq] [(.upd, 0x05C), (.upd, 0x010)] (trialCleared h os) (trialConfirmed h os) := by
    simp +decide only [trialConfirmed, frame_rules, (frame_syncTrial ..).iff, frame_refl]
  have hc := (trialCleared_trials h os).1
  cases os
  · exact (hd.fbit .east DOC_STATUS_DOC_TRIAL (by decide) (by decide) 0 0).trans hc
  · exact (hd.fbit .east DOC_STATUS_OS_TRIAL (by decide) (by decide) 0 0).trans hc

theorem arcWord_programWord_other (h : Head) (n v k : Nat) (hk : k ≠ n) : arcWord (programWord h n v) k = arcWord h k :=
  tabGet_tabStore_other _ _ _ _ hk

theorem arcWord_programWord_same (h : Head) (n v : Nat) : arcWord (programWord h n v) n = (arcWord h n &&& v) % 2 ^ 256 :=
  tabGet_tabStore_same _ _ _ _

theorem trialConfirmed_arc (h : Head) (os : Bool) :
    arcWord (trialConfirmed h os) (controlWord (slotInForce h os) 2) =
        (arcWord h (controlWord (slotInForce h os) 2) &&& marker (slotMagic 2) 0) % 2 ^ 256 ∧
      (trialConfirmed h os).arc.recs = h.arc.recs ∧
      (fbit h .east (if os then DOC_STATUS_DOC_TRIAL else DOC_STATUS_OS_TRIAL) = false → (trialConfirmed h os).arc.trial = false) := by
  obtain ⟨hthis, hother⟩ := trialCleared_trials h os
  obtain ⟨hwords, hrecs⟩ := arc_syncTrial (trialCleared h os)
  have harc : (trialConfirmed h os).arc = (syncTrial (trialCleared h os)).arc := raise_arc _ _ _ _
  refine ⟨?_, ?_, fun hf => ?_⟩
  · rw [← arcWord_programWord_same]
    unfold arcWord
    rw [harc, hwords]
    rfl
  · rw [harc, hrecs]
    rfl
  · rw [harc]
    rw [hf] at hother
    cases os
    · exact trial_syncTrial _ hthis hother
    · exact trial_syncTrial _ hother hthis

theorem trialConfirmed_event (h : Head) (os : Bool) : EventSet (trialConfirmed h os) .east Ev.UPD_CONFIRMED := raiseAt_sets _ _ _ (by decide)

/-! ### Floors -/

theorem arcWord_programWords (first v k : Nat) (l : List Nat) : ∀ h : Head, (∀ i ∈ l, k ≠ first + i) →
    arcWord (foldHead h l (fun h i => programWord h (first + i) v)) k = arcWord h k := by
  induction l with
  | nil => exact fun _ _ => rfl
  | cons i l ih =>
    intro h hl
    refine (ih (programWord h (first + i) v) fun j hj => hl j (List.mem_cons_of_mem i hj)).trans ?_
    exact arcWord_programWord_other h _ v k (hl i List.mem_cons_self)

/-- The words of the floor's field that R454 programs. -/
def floorWords (h : Head) (os : Bool) (svn : Nat) : Head :=
  foldHead h ((List.range svn).filter (fun i => decide (floorAt h os ≤ i))) (fun h i => programWord h ((if os then 76 else 36) + i) (marker 0x5F100001 0))

theorem raiseFloor_eq (h : Head) (os : Bool) : raiseFloor h os =
    raise (fset (floorWords h os (min 40 (fget h .east (if os then UPD_SVN_OS_SVN else UPD_SVN_DOC_SVN)))) .east
      (if os then UPD_FLOOR_OS else UPD_FLOOR_DOC) (max (floorAt h os) (min 40 (fget h .east (if os then UPD_SVN_OS_SVN else UPD_SVN_DOC_SVN)))))
      .east Ev.UPD_FLOOR_RAISED := by
  cases os <;> rfl

theorem frame_floorWords (h : Head) (os : Bool) (svn : Nat) : Frame [.arc] [(.arc, 0x068)] h (floorWords h os svn) := by
  simp +decide only [floorWords, frame_foldHead, (frame_programWord ..).iff, frame_refl, implies_true]

theorem floorWords_arc (h : Head) (os : Bool) (svn : Nat) :
    (floorWords h os svn).arc.recs = h.arc.recs ∧ (floorWords h os svn).arc.trial = h.arc.trial := by
  constructor
  · exact (foldHead_frame (fun g : Head => g.arc.recs)
      (f := fun h i => programWord h ((if os then 76 else 36) + i) (marker 0x5F100001 0)) (fun _ _ => rfl) _ h :)
  · exact (foldHead_frame (fun g : Head => g.arc.trial)
      (f := fun h i => programWord h ((if os then 76 else 36) + i) (marker 0x5F100001 0)) (fun _ _ => rfl) _ h :)

theorem raiseFloor_facts (h : Head) (os : Bool) :
    let g := raiseFloor h os
    floorAt g os = max (floorAt h os) (min 40 (fget h .east (if os then UPD_SVN_OS_SVN else UPD_SVN_DOC_SVN))) ∧
      floorAt g (!os) = floorAt h (!os) ∧ g.arc.recs = h.arc.recs ∧ g.arc.trial = h.arc.trial ∧
      (∀ k, 116 ≤ k → arcWord g k = arcWord h k) ∧ Frame [.arc, .evq] [(.arc, 0x068), (.upd, 0x064), (.upd, 0x010)] h g := by
  intro g
  have hg : g = _ := raiseFloor_eq h os
  have hlt : max (floorAt h os) (min 40 (fget h .east (if os then UPD_SVN_OS_SVN else UPD_SVN_DOC_SVN))) < 64 := by
    have hfl : floorAt h os < 64 := by
      unfold floorAt
      split <;> (rw [fget_eq_bget]; exact bget_lt ..)
    omega
  obtain ⟨hrecs, htrial⟩ := floorWords_arc h os (min 40 (fget h .east (if os then UPD_SVN_OS_SVN else UPD_SVN_DOC_SVN)))
  have hword : ∀ k, 116 ≤ k → arcWord (floorWords h os (min 40 (fget h .east (if os then UPD_SVN_OS_SVN else UPD_SVN_DOC_SVN)))) k = arcWord h k := by
    intro k hk
    refine arcWord_programWords _ _ k _ h fun i hi => ?_
    have hi40 := List.mem_range.1 (List.mem_filter.1 hi).1
    split <;> omega
  have hframe := frame_floorWords h os (min 40 (fget h .east (if os then UPD_SVN_OS_SVN else UPD_SVN_DOC_SVN)))
  have hfd := hframe.fget .east UPD_FLOOR_DOC (by decide) (by decide) 0 0
  have hfo := hframe.fget .east UPD_FLOOR_OS (by decide) (by decide) 0 0
  rw [hg]
  generalize floorWords h os (min 40 (fget h .east (if os then UPD_SVN_OS_SVN else UPD_SVN_DOC_SVN))) = w at *
  generalize max (floorAt h os) (min 40 (fget h .east (if os then UPD_SVN_OS_SVN else UPD_SVN_DOC_SVN))) = n at *
  have hr : ∀ k : Head, Frame [.evq] [(.upd, 0x010)] k (raise k .east Ev.UPD_FLOOR_RAISED) := fun k => frame_raise k .east 0 Ev.UPD_FLOOR_RAISED
  have hnew : ∀ b : Bool, floorAt (raise (fset w .east (if os then UPD_FLOOR_OS else UPD_FLOOR_DOC) n) .east Ev.UPD_FLOOR_RAISED) b =
      floorAt (fset w .east (if os then UPD_FLOOR_OS else UPD_FLOOR_DOC) n) b := by
    intro b
    unfold floorAt
    rw [(hr _).fget .east UPD_FLOOR_OS (by decide) (by decide), (hr _).fget .east UPD_FLOOR_DOC (by decide) (by decide)]
  refine ⟨?_, ?_, ?_, ?_, ?_, ?_⟩
  · rw [hnew]
    cases os <;> simp only [floorAt, fget_eq_bget, fset_regs, Bool.false_eq_true, if_false, if_true] <;>
      simp (disch := decide) [UPD_FLOOR_OS, UPD_FLOOR_DOC, Nat.mod_eq_of_lt hlt]
  · rw [hnew]
    cases os
    · simp only [floorAt, Bool.not_false, Bool.false_eq_true, if_false, if_true, ← hfo]
      simp only [fget_eq_bget, fset_regs]
      simp (disch := decide) [UPD_FLOOR_OS, UPD_FLOOR_DOC]
    · simp only [floorAt, Bool.not_true, Bool.false_eq_true, if_false, if_true, ← hfd]
      simp only [fget_eq_bget, fset_regs]
      simp (disch := decide) [UPD_FLOOR_OS, UPD_FLOOR_DOC]
  · rw [raise_arc]
    exact hrecs
  · rw [raise_arc]
    exact htrial
  · intro k hk
    rw [← hword k hk]
    unfold arcWord
    rw [raise_arc]
    rfl
  · refine (hframe.mono (by decide) (by decide)).trans ?_
    cases os <;> simp +decide only [frame_rules, if_true, if_false, frame_refl]

/-- A confirm as a whole. -/
theorem updConfirm_facts (h : Head) (os up : Bool) (ht : fbit h .east (if os then DOC_STATUS_OS_TRIAL else DOC_STATUS_DOC_TRIAL) = true) :
    let g := updConfirm h os up
    fbit g .east (if os then DOC_STATUS_OS_TRIAL else DOC_STATUS_DOC_TRIAL) = false ∧
      arcWord g (controlWord (slotInForce h os) 2) = (arcWord h (controlWord (slotInForce h os) 2) &&& marker (slotMagic 2) 0) % 2 ^ 256 ∧
      EventSet g .east Ev.UPD_CONFIRMED ∧
      floorAt g os = (if up then max (floorAt h os) (min 40 (fget h .east (if os then UPD_SVN_OS_SVN else UPD_SVN_DOC_SVN))) else floorAt h os) ∧
      floorAt g (!os) = floorAt h (!os) ∧
      (fbit h .east (if os then DOC_STATUS_DOC_TRIAL else DOC_STATUS_OS_TRIAL) = false → g.arc.trial = false) ∧
      g.arc.recs = h.arc.recs ∧
      Frame [.arc, .evq] [(.arc, 0x068), (.doc, 0x044), (.upd, 0x054), (.upd, 0x05C), (.upd, 0x010), (.upd, 0x064)] h g := by
  intro g
  have hg : g = _ := updConfirm_eq h os up ht
  have hfr := trialConfirmed_frame h os
  have hclear := trialConfirmed_trial h os
  obtain ⟨hword, hrecs, htrial⟩ := trialConfirmed_arc h os
  have hev := trialConfirmed_event h os
  have hfloor (b : Bool) : floorAt (trialConfirmed h os) b = floorAt h b := by
    unfold floorAt
    rw [hfr.fget .east UPD_FLOOR_OS (by decide) (by decide), hfr.fget .east UPD_FLOOR_DOC (by decide) (by decide)]
  have hsvn : fget (trialConfirmed h os) .east (if os then UPD_SVN_OS_SVN else UPD_SVN_DOC_SVN) =
      fget h .east (if os then UPD_SVN_OS_SVN else UPD_SVN_DOC_SVN) := by
    cases os
    · exact hfr.fget .east UPD_SVN_DOC_SVN (by decide) (by decide) 0 0
    · exact hfr.fget .east UPD_SVN_OS_SVN (by decide) (by decide) 0 0
  rw [hg]
  cases up with
  | false => exact ⟨hclear, hword, hev, hfloor os, hfloor (!os), htrial, hrecs, hfr.mono (by decide) (by decide)⟩
  | true =>
    obtain ⟨rthis, rother, rrecs, rtrial, rword, rframe⟩ := raiseFloor_facts (trialConfirmed h os) os
    have hk : 116 ≤ controlWord (slotInForce h os) 2 := by
      unfold controlWord
      omega
    have hevf : EventSet (raiseFloor (trialConfirmed h os) os) .east Ev.UPD_CONFIRMED := by
      rw [raiseFloor_eq]
      refine eventSet_raise ?_ (by decide) .east Ev.UPD_FLOOR_RAISED 0
      have hw : Frame [.arc] [(.arc, 0x068), (.upd, 0x064)] (trialConfirmed h os)
          (fset (floorWords (trialConfirmed h os) os (min 40 (fget (trialConfirmed h os) .east (if os then UPD_SVN_OS_SVN else UPD_SVN_DOC_SVN)))) .east
            (if os then UPD_FLOOR_OS else UPD_FLOOR_DOC) (max (floorAt (trialConfirmed h os) os)
              (min 40 (fget (trialConfirmed h os) .east (if os then UPD_SVN_OS_SVN else UPD_SVN_DOC_SVN))))) := by
        cases os <;> simp +decide only [frame_rules, (frame_floorWords ..).iff, if_true, if_false, frame_refl]
      exact (hw.eventSet .east Ev.UPD_CONFIRMED (by decide) 0).2 hev
    rw [hsvn, hfloor] at rthis
    refine ⟨?_, (rword _ hk).trans hword, hevf, rthis, rother.trans (hfloor _), fun hf => rtrial.trans (htrial hf), rrecs.trans hrecs,
      (hfr.mono (by decide) (by decide)).trans (rframe.mono (by decide) (by decide))⟩
    cases os
    · exact (rframe.fbit .east DOC_STATUS_DOC_TRIAL (by decide) (by decide) 0 0).trans hclear
    · exact (rframe.fbit .east DOC_STATUS_OS_TRIAL (by decide) (by decide) 0 0).trans hclear

/-- The floor's bit of a confirm, as written. -/
def floorAsked (h : Head) (os up : Bool) : Head :=
  fset (reply h false) .east (if os then UPD_CONFIRM_RAISE_OS else UPD_CONFIRM_RAISE_DOC) (ofBool up)

theorem frame_floorAsked (h : Head) (os up : Bool) : Frame [.bus] [(.upd, 0x058)] h (floorAsked h os up) := by
  cases os <;> simp +decide only [floorAsked, frame_rules, if_true, if_false, frame_refl]

theorem fbit_floorAsked (h : Head) (os up : Bool) :
    (if os then fbit (floorAsked h os up) .east UPD_CONFIRM_RAISE_OS else fbit (floorAsked h os up) .east UPD_CONFIRM_RAISE_DOC) = up := by
  cases os <;> cases up <;> simp only [floorAsked, fbit, fget_eq_bget, fset_regs, Bool.false_eq_true, if_false, if_true] <;>
    simp (disch := decide) [UPD_CONFIRM_RAISE_OS, UPD_CONFIRM_RAISE_DOC, ofBool]

theorem updConfirm_confirms (s : State) (ini : Initiator) (os up : Bool) (k : Nat) (hrun : Runs s.dev)
    (hw : Writable s.dev ini (pg .upd .east) 0x058)
    (ht : fbit s.dev .east (if os then DOC_STATUS_OS_TRIAL else DOC_STATUS_DOC_TRIAL) = true) (hk : k = controlWord (slotInForce s.dev os) 2) :
    Completes (if os then .updConfirmOs ini up else .updConfirmDoc ini up) s (fun h =>
      fbit h .east (if os then DOC_STATUS_OS_TRIAL else DOC_STATUS_DOC_TRIAL) = false ∧
        arcWord h k = (arcWord s.dev k &&& marker (slotMagic 2) 0) % 2 ^ 256 ∧ EventSet h .east Ev.UPD_CONFIRMED ∧
        floorAt h os = (if up then max (floorAt s.dev os)
          (min 40 (fget s.dev .east (if os then UPD_SVN_OS_SVN else UPD_SVN_DOC_SVN))) else floorAt s.dev os) ∧
        floorAt h (!os) = floorAt s.dev (!os) ∧
        (fbit s.dev .east (if os then DOC_STATUS_DOC_TRIAL else DOC_STATUS_OS_TRIAL) = false → h.arc.trial = false) ∧
        h.mem = s.dev.mem ∧ h.arc.recs = s.dev.arc.recs) := by
  have hexec : exec (if os then .updConfirmOs ini up else .updConfirmDoc ini up) = lift (fun h => updConfirmCmd h ini os up) := by
    cases os <;> rfl
  have hf := frame_floorAsked s.dev os up
  have htrial (b : Bool) : fbit (floorAsked s.dev os up) .east (if b then DOC_STATUS_OS_TRIAL else DOC_STATUS_DOC_TRIAL) =
      fbit s.dev .east (if b then DOC_STATUS_OS_TRIAL else DOC_STATUS_DOC_TRIAL) := by
    cases b
    · exact hf.fbit .east DOC_STATUS_DOC_TRIAL (by decide) (by decide) 0 0
    · exact hf.fbit .east DOC_STATUS_OS_TRIAL (by decide) (by decide) 0 0
  have hother : fbit (floorAsked s.dev os up) .east (if os then DOC_STATUS_DOC_TRIAL else DOC_STATUS_OS_TRIAL) =
      fbit s.dev .east (if os then DOC_STATUS_DOC_TRIAL else DOC_STATUS_OS_TRIAL) := by
    cases os
    · exact htrial true
    · exact htrial false
  have hfloor (b : Bool) : floorAt (floorAsked s.dev os up) b = floorAt s.dev b := by
    unfold floorAt
    rw [hf.fget .east UPD_FLOOR_OS (by decide) (by decide), hf.fget .east UPD_FLOOR_DOC (by decide) (by decide)]
  have hsvn : fget (floorAsked s.dev os up) .east (if os then UPD_SVN_OS_SVN else UPD_SVN_DOC_SVN) =
      fget s.dev .east (if os then UPD_SVN_OS_SVN else UPD_SVN_DOC_SVN) := by
    cases os
    · exact hf.fget .east UPD_SVN_DOC_SVN (by decide) (by decide) 0 0
    · exact hf.fget .east UPD_SVN_OS_SVN (by decide) (by decide) 0 0
  have hslot : slotInForce (floorAsked s.dev os up) os = slotInForce s.dev os := by
    rw [slotInForce_fields, slotInForce_fields, hf.fget .east DOC_STATUS_OS_SLOT (by decide) (by decide),
      hf.fget .east DOC_STATUS_DOC_SLOT (by decide) (by decide)]
  have heq : updConfirmCmd s.dev ini os up = updConfirm (floorAsked s.dev os up) os up := by
    have hup := fbit_floorAsked s.dev os up
    rw [updConfirmCmd, withWrite_ok s.dev ini _ _ _ hw]
    show updConfirmEffect (floorAsked s.dev os up) os = _
    rw [updConfirmEffect, hup]
  refine completes_of_eq hexec hrun heq ?_
  obtain ⟨hclear, hword, hev, hthis, hrest, htr, hrecs, hfr⟩ := updConfirm_facts (floorAsked s.dev os up) os up (by rw [htrial, ht])
  rw [hslot, ← hk] at hword
  rw [hfloor, hsvn] at hthis
  rw [hfloor] at hrest
  rw [hother] at htr
  exact ⟨hclear, hword, hev, hthis, hrest, htr, hfr.1 .mem (by decide), hrecs⟩

theorem confirmOs_confirms (s : State) (hrun : Runs s.dev) (hfw : firmwareRuns s.dev = true) (ht : fbit s.dev .east DOC_STATUS_OS_TRIAL = true) :
    Completes .confirmOs s (fun h =>
      fbit h .east DOC_STATUS_OS_TRIAL = false ∧ EventSet h .east Ev.UPD_CONFIRMED ∧
        h.mem = memPut s.dev.mem (stageAddr s.dev + 1) 1 (statusCode .done)) := by
  have heq : confirmOs s.dev = updReply (updConfirm s.dev true (fbit s.dev .east UPD_CONFIRM_RAISE_OS)) .done := if_pos hfw
  refine completes_of_eq exec_confirmOs hrun heq ?_
  obtain ⟨hclear, -, hev, -, -, -, -, hfr⟩ := updConfirm_facts s.dev true (fbit s.dev .east UPD_CONFIRM_RAISE_OS) ht
  have hst := stageAddr_congr hfr (by decide) (by decide)
  have hmem : (updConfirm s.dev true (fbit s.dev .east UPD_CONFIRM_RAISE_OS)).mem = s.dev.mem := hfr.1 .mem (by decide)
  generalize updConfirm s.dev true (fbit s.dev .east UPD_CONFIRM_RAISE_OS) = k at *
  have hrep := frame_updReply k .done
  have hput : (updReply k .done).mem = memPut k.mem (stageAddr k + 1) 1 (statusCode .done) := rfl
  refine ⟨(hrep.fbit .east DOC_STATUS_OS_TRIAL (by decide) (by decide) 0 0).trans hclear,
    (hrep.eventSet .east Ev.UPD_CONFIRMED (by decide) 0).2 hev, by rw [hput, hmem, hst]⟩

/-! ### Recovery -/

/-- The head as a recovery image begins to run. -/
def recovered (h : Head) (len : Nat) : Head :=
  raise (fset (fset (setFallback h) .east UPD_SVN_DOC_SVN (min 65535 (Config.imageSvn false len (memNum h.sram 0 len)))) .east UPD_STATUS_RECOVERED 1)
    .east Ev.UPD_RECOVERED

theorem recoveryRun_runs (s : State) (len : Nat) (hrun : Runs s.dev) (hs : fget s.dev .east DOC_STATUS_STAGE = 3) (hl : len ≤ 448 * 1024) :
    Completes (.recoveryRun len) s (fun h => if (imageFault s.dev false len (memNum s.dev.sram 0 len)).isSome then h = s.dev else ∃ g : Head,
      fget g .east UPD_STATUS_RECOVERED = 1 ∧ EventSet g .east Ev.UPD_RECOVERED ∧ fget g .east DOC_STATUS_FALLBACK = 1 ∧
        fget g .east UPD_SVN_DOC_SVN = min 65535 (Config.imageSvn false len (memNum s.dev.sram 0 len)) ∧
        RegsBut s.dev g [(.upd, 0x010), (.upd, 0x050), (.upd, 0x060), (.doc, 0x044)] ∧ SameButRegs s.dev g ∧
        h = bootFirmware (msrExtend g 2 (sha384 len (memNum s.dev.sram 0 len)))) := by
  refine completes_lift (exec_recoveryRun len) hrun ?_
  have hn : ¬(fget s.dev .east DOC_STATUS_STAGE ≠ 3 ∨ 448 * 1024 < len) := by omega
  split
  next hf => exact if_pos (.inr (.inr hf))
  next hf =>
    have hfr : Frame [.evq] [(.upd, 0x010), (.upd, 0x050), (.upd, 0x060), (.doc, 0x044)] s.dev (recovered s.dev len) := by
      simp +decide only [recovered, setFallback, frame_rules, frame_refl]
    have hmin : min 65535 (Config.imageSvn false len (memNum s.dev.sram 0 len)) % 65536 =
        min 65535 (Config.imageSvn false len (memNum s.dev.sram 0 len)) := Nat.mod_eq_of_lt (by omega)
    have hev : EventSet (recovered s.dev len) .east Ev.UPD_RECOVERED := raiseAt_sets _ _ _ (by decide)
    have heq : recoveryRun s.dev len = bootFirmware (msrExtend (recovered s.dev len) 2 (sha384 len (memNum s.dev.sram 0 len))) :=
      if_neg (fun h => h.elim (fun h => hn (.inl h)) (fun h => h.elim (fun h => hn (.inr h)) hf))
    refine ⟨recovered s.dev len, ?_, hev, ?_, ?_, hfr.2, hfr.sameButRegs, heq⟩
    all_goals
      simp only [fget_eq_bget, recovered, setFallback, raise_regs, fset_regs]
      simp (disch := decide) [UPD_STATUS_RECOVERED, DOC_STATUS_FALLBACK, UPD_SVN_DOC_SVN, Ev.UPD_RECOVERED, hmin]

/-! ### Watchdogs -/

/-- A watchdog fed where a write of WDG_FEED asks. -/
def fedWhere (bits : Nat) (h : Head) (n : Nat) : Head := if bits.testBit n then wdgFeed h n else h

theorem frame_fedWhere (bits : Nat) (h : Head) (n : Nat) : Frame [] [(.wdg, 0x04C)] h (fedWhere bits h n) := by
  simp +decide only [fedWhere, wdgFeed, frame_ite, frame_rules, frame_refl, ite_self]

theorem left_fedWhere_other (bits : Nat) (h : Head) {n m : Nat} (hn : n < 3) (hm : m < 3) (hne : m ≠ n) :
    fget (fedWhere bits h n) .east WDG_LEFT_MICROS m = fget h .east WDG_LEFT_MICROS m := by
  unfold fedWhere wdgFeed
  rw [if_pos hn]
  split
  · simp only [fget_eq_bget, fset_regs]
    rw [bget_bput_bank]
    omega
  · rfl

theorem left_fedWhere_same (bits : Nat) (h : Head) {n : Nat} (hn : n < 3) : fget (fedWhere bits h n) .east WDG_LEFT_MICROS n =
    if bits.testBit n then 1000 * fget h .east WDG_CFG_TIMEOUT_MS n else fget h .east WDG_LEFT_MICROS n := by
  have ht : fget h .east WDG_CFG_TIMEOUT_MS n < 2 ^ 16 := by
    rw [fget_eq_bget]
    exact bget_lt ..
  unfold fedWhere wdgFeed
  rw [if_pos hn]
  split
  · simp only [fget_eq_bget, fset_regs] at ht ⊢
    exact bget_bput_same_of_lt _ _ _ _ _ _ _ _ _ (by decide) (by decide) (by simp only [WDG_LEFT_MICROS]; omega)
  · rfl

theorem wdgFeedEffect_feeds (h : Head) (bits n : Nat) (hn : n < 3) : fget (wdgFeedEffect h bits) .east WDG_LEFT_MICROS n =
    if bits.testBit n then 1000 * fget h .east WDG_CFG_TIMEOUT_MS n else fget h .east WDG_LEFT_MICROS n := by
  have heq : wdgFeedEffect h bits = fedWhere bits (fedWhere bits (fedWhere bits h 0) 1) 2 := rfl
  have ht (g : Head) (m : Nat) : fget (fedWhere bits g m) .east WDG_CFG_TIMEOUT_MS n = fget g .east WDG_CFG_TIMEOUT_MS n :=
    (frame_fedWhere bits g m).fget .east WDG_CFG_TIMEOUT_MS (by decide) (by decide) n 0
  have hcase : n = 0 ∨ n = 1 ∨ n = 2 := by omega
  rw [heq]
  rcases hcase with rfl | rfl | rfl
  · rw [left_fedWhere_other _ _ (by decide) (by decide) (by decide), left_fedWhere_other _ _ (by decide) (by decide) (by decide),
      left_fedWhere_same _ _ (by decide)]
  · rw [left_fedWhere_other _ _ (by decide) (by decide) (by decide), left_fedWhere_same _ _ (by decide), ht,
      left_fedWhere_other _ _ (by decide) (by decide) (by decide)]
  · rw [left_fedWhere_same _ _ (by decide), ht, ht, left_fedWhere_other _ _ (by decide) (by decide) (by decide),
      left_fedWhere_other _ _ (by decide) (by decide) (by decide)]

theorem wdgFeed_feeds (s : State) (ini : Initiator) (bits : Nat) (hrun : Runs s.dev) (hw : Writable s.dev ini (pg .wdg .east) 0x048) :
    Completes (.wdgFeed ini bits) s (fun h =>
      (∀ n, n < 3 → fget h .east WDG_LEFT_MICROS n =
        if bits.testBit n then 1000 * fget s.dev .east WDG_CFG_TIMEOUT_MS n else fget s.dev .east WDG_LEFT_MICROS n) ∧
        RegsBut s.dev h [(.wdg, 0x04C)] ∧ SameButRegs (reply s.dev false) h) := by
  have hf : Frame [] [(.wdg, 0x04C)] (reply s.dev false) (wdgFeedEffect (reply s.dev false) bits) :=
    ((frame_fedWhere bits _ 0).trans (frame_fedWhere bits _ 1)).trans (frame_fedWhere bits _ 2)
  refine completes_of_eq (exec_wdgFeed ini bits) hrun (withWrite_ok s.dev ini _ _ _ hw) ?_
  exact ⟨fun n hn => wdgFeedEffect_feeds (reply s.dev false) bits n hn, hf.2, (hf.mono (l := [.evq]) (by decide) (fun _ h => h)).sameButRegs⟩

theorem wdgEvents (n : Nat) : (wdgWarnEv n).block = .wdg ∧ (wdgExpired n).block = .wdg ∧ (wdgWarnEv n).n < 32 ∧ (wdgExpired n).n < 32 := by
  unfold wdgWarnEv wdgExpired
  split <;> exact ⟨rfl, rfl, by decide, by decide⟩

theorem wdgWarn_warns (s : State) (n : Nat) (hrun : Runs s.dev) (hn : n < 3) (he : fbit s.dev .east WDG_CFG_ENABLE n = true) :
    Completes (.wdgWarn n) s (fun h =>
      EventSet h .east (wdgWarnEv n) ∧ fget h .east WDG_LEFT_MICROS n = 500 * fget s.dev .east WDG_CFG_TIMEOUT_MS n ∧
        RegsBut s.dev h [(.wdg, 0x010), (.wdg, 0x04C)] ∧ SameButRegs s.dev h) := by
  obtain ⟨hb, -, hlt, -⟩ := wdgEvents n
  refine completes_of_eq (exec_wdgWarn n) hrun (if_pos ⟨hn, he⟩) ⟨raiseAt_sets _ _ _ hlt, ?_, ?_, ?_⟩
  · have ht : fget s.dev .east WDG_CFG_TIMEOUT_MS n < 2 ^ 16 := by
      rw [fget_eq_bget]
      exact bget_lt ..
    rw [(frame_raise _ .east 0 (wdgWarnEv n)).fget .east WDG_LEFT_MICROS (by rw [hb]; decide) (by decide)]
    simp only [fget_eq_bget, fset_regs] at ht ⊢
    exact bget_bput_same_of_lt _ _ _ _ _ _ _ _ _ (by decide) (by decide) (by simp only [WDG_LEFT_MICROS]; omega)
  · exact regsBut_raise (regsBut_fset (regsBut_refl _ _) (by decide)) (by rw [hb]; decide)
  · exact sameButRegs_raise (sameButRegs_fset rfl)

/-- An expiry but for its event. -/
def expiryNoted (h : Head) (n : Nat) : Head :=
  if fbit h .east WDG_CFG_RESET n then
    fset { fadd (fset h .east WDG_LEFT_MICROS 0 n) .east WDG_EXPIRED_COUNT with
      arc := { h.arc with grace := true } } .east ARC_STATUS_STOP 1
  else fadd (fset h .east WDG_LEFT_MICROS 0 n) .east WDG_EXPIRED_COUNT

theorem wdgExpiry_eq (h : Head) (n : Nat) (hn : n < 3) (he : fbit h .east WDG_CFG_ENABLE n = true) :
    wdgExpiry h n = raise (expiryNoted h n) .east (wdgExpired n) := by
  have hr : fbit (fadd (fset h .east WDG_LEFT_MICROS 0 n) .east WDG_EXPIRED_COUNT) .east WDG_CFG_RESET n = fbit h .east WDG_CFG_RESET n := by
    have hf : Frame [] [(.wdg, 0x04C), (.wdg, 0x054)] h (fadd (fset h .east WDG_LEFT_MICROS 0 n) .east WDG_EXPIRED_COUNT) := by
      simp +decide only [frame_rules, frame_refl]
    exact hf.fbit .east WDG_CFG_RESET (by decide) (by decide) n 0
  unfold wdgExpiry expiryNoted
  rw [if_pos ⟨hn, he⟩]
  dsimp only
  rw [hr]
  rfl

theorem wdgExpiry_expires (s : State) (n : Nat) (hrun : Runs s.dev) (hn : n < 3) (he : fbit s.dev .east WDG_CFG_ENABLE n = true) :
    Completes (.wdgExpiry n) s (fun h =>
      EventSet h .east (wdgExpired n) ∧ fget h .east WDG_LEFT_MICROS n = 0 ∧
        fget h .east WDG_EXPIRED_COUNT = min (fget s.dev .east WDG_EXPIRED_COUNT + 1) (2 ^ 32 - 1) ∧
        (fbit s.dev .east WDG_CFG_RESET n = true → h.arc = { s.dev.arc with grace := true } ∧ fget h .east ARC_STATUS_STOP = 1) ∧
        (fbit s.dev .east WDG_CFG_RESET n = false → h.arc = s.dev.arc) ∧
        RegsBut s.dev h [(.wdg, 0x010), (.wdg, 0x04C), (.wdg, 0x054), (.arc, 0x054)] ∧ h.mem = s.dev.mem) := by
  obtain ⟨-, hb, -, hlt⟩ := wdgEvents n
  have hr := frame_raise (expiryNoted s.dev n) .east 0 (wdgExpired n)
  have hf : Frame [.arc] [(.wdg, 0x04C), (.wdg, 0x054), (.arc, 0x054)] s.dev (expiryNoted s.dev n) := by
    unfold expiryNoted
    split <;> simp +decide only [frame_rules, frame_mk, true_or, or_true, and_self, frame_refl]
  have hleft : fget (expiryNoted s.dev n) .east WDG_LEFT_MICROS n = 0 := by
    unfold expiryNoted
    split <;> simp only [fget_eq_bget, fset_regs, fadd_regs] <;> simp (disch := decide) [WDG_LEFT_MICROS, WDG_EXPIRED_COUNT, ARC_STATUS_STOP]
  have hcount : fget (expiryNoted s.dev n) .east WDG_EXPIRED_COUNT = min (fget s.dev .east WDG_EXPIRED_COUNT + 1) (2 ^ 32 - 1) := by
    have hg : fget (fset s.dev .east WDG_LEFT_MICROS 0 n) .east WDG_EXPIRED_COUNT = fget s.dev .east WDG_EXPIRED_COUNT :=
      (frame_fset s.dev .east n 0 WDG_LEFT_MICROS 0).fget .east WDG_EXPIRED_COUNT (by decide) (by decide) 0 0
    have hc := fget_fadd_same (fset s.dev .east WDG_LEFT_MICROS 0 n) .east WDG_EXPIRED_COUNT 1 0 0 (by decide) (by decide)
    rw [hg] at hc
    unfold expiryNoted
    split
    · have hs (g : Head) : Frame [.arc] [(.arc, 0x054)] g (fset { g with arc := { s.dev.arc with grace := true } } .east ARC_STATUS_STOP 1) := by
        simp +decide only [frame_rules, frame_mk, true_or, or_true, and_self, frame_refl]
      exact ((hs _).fget .east WDG_EXPIRED_COUNT (by decide) (by decide) 0 0).trans hc
    · exact hc
  have harc : (expiryNoted s.dev n).arc = if fbit s.dev .east WDG_CFG_RESET n then { s.dev.arc with grace := true } else s.dev.arc := by
    unfold expiryNoted
    split <;> rfl
  have hstop : fbit s.dev .east WDG_CFG_RESET n = true → fget (expiryNoted s.dev n) .east ARC_STATUS_STOP = 1 := by
    intro hres
    unfold expiryNoted
    rw [if_pos hres]
    simp only [fget_eq_bget, fset_regs]
    simp (disch := decide) [ARC_STATUS_STOP]
  have hraise : (raise (expiryNoted s.dev n) .east (wdgExpired n)).arc = (expiryNoted s.dev n).arc := raise_arc _ _ _ _
  refine completes_of_eq (exec_wdgExpiry n) hrun (wdgExpiry_eq s.dev n hn he) ⟨raiseAt_sets _ _ _ hlt, ?_, ?_, fun hres => ⟨?_, ?_⟩, fun hres => ?_, ?_, ?_⟩
  · exact (hr.fget .east WDG_LEFT_MICROS (by rw [hb]; decide) (by decide) n 0).trans hleft
  · exact (hr.fget .east WDG_EXPIRED_COUNT (by rw [hb]; decide) (by decide) 0 0).trans hcount
  · rw [hraise, harc, if_pos hres]
  · exact (hr.fget .east ARC_STATUS_STOP (by rw [hb]; decide) (by decide) 0 0).trans (hstop hres)
  · rw [hraise, harc, hres]
    rfl
  · exact regsBut_raise (regsBut_mono hf.2 (by decide)) (by rw [hb]; decide)
  · exact Eq.trans (raise_mem _ _ _ _) (hf.1 .mem (by decide))

/-- Settles O55: a slot write is one update of the engine's registers before the Archive's next operation, a confirm one word of the
control sector before the floor's words. -/
theorem updatesAndWatchdogs : Obligations.UpdatesAndWatchdogs := by
  unfold Obligations.UpdatesAndWatchdogs
  refine ⟨updWrite_begins, updWrite_limit, updAbort_gives_up, updRequest_begins, updReqAbort_gives_up, updConfirm_confirms, confirmOs_confirms, ?_, ?_,
    recoveryRun_runs, ?_, wdgFeed_feeds, wdgWarn_warns, wdgExpiry_expires⟩
  · intro s off len data hrun hs hl ho
    exact completes_of_eq (exec_recoveryWrite off len data) hrun (if_pos ⟨hs, hl, ho⟩) rfl
  · intro s hrun hs
    exact completes_of_eq exec_recoveryStatus hrun (if_pos hs) rfl
  · intro s len hrun hl
    exact completes_of_eq (exec_recoveryRun len) hrun (if_pos (.inr (.inl hl))) rfl

end Sys2Proof.Laws
end

section
/-! The Archive's words and sectors, the Provenance recorder (R430, R441 to R447), and O54. -/

namespace Sys2Proof.Laws

open Machine Machine.Reg

/-! ### Words and sectors -/

theorem tabGet?_tabKeep {α : Type} (t : Tab α) (p : Nat → Bool) (k : Nat) : tabGet? (tabKeep t (fun n _ => p n)) k = if p k then tabGet? t k else none := by
  induction t with
  | nil => simp [tabKeep, tabGet?]
  | cons e t ih =>
    obtain ⟨x, v⟩ := e
    unfold tabKeep at ih ⊢
    rw [List.filter_cons]
    by_cases hx : x = k
    · subst hx
      by_cases hp : p x = true
      · simp [hp, tabGet?]
      · simp only [hp, if_false, Bool.false_eq_true] at ih ⊢
        exact ih
    · by_cases hp : p x = true
      · simp only [hp, if_true, tabGet?, if_neg hx]
        exact ih
      · simp only [hp, if_false, tabGet?, if_neg hx, Bool.false_eq_true]
        exact ih

theorem arcWord_eraseSector (h : Head) (s n : Nat) : arcWord (eraseSector h s) n = if n / 128 = s then erasedWord else arcWord h n := by
  show (tabGet? (tabKeep h.arc.words (fun n _ => n / 128 != s)) n).getD erasedWord = _
  rw [tabGet?_tabKeep]
  by_cases hn : n / 128 = s
  · simp [hn]
  · simp only [bne_iff_ne, ne_eq, hn, not_false_eq_true, if_true, if_false]
    rfl

theorem sectorState_setSector (h : Head) (s st n : Nat) : sectorState (setSector h s st) n = if n = s then st else sectorState h n := by
  unfold sectorState setSector
  split
  next hn =>
    rw [hn]
    exact tabGet_tabStore_same _ _ _ _
  next hn => exact tabGet_tabStore_other _ _ _ _ hn

theorem sectorState_eraseSector (h : Head) (s n : Nat) : sectorState (eraseSector h s) n = if n = s then 1 else sectorState h n :=
  sectorState_setSector { h with arc := { h.arc with words := tabKeep h.arc.words (fun n _ => n / 128 != s) } } s 1 n

/-- Sectors erased one after another. -/
def sectorsErased (h : Head) (first : Nat) (l : List Nat) : Head := foldHead h l (fun h i => eraseSector h (first + i))

theorem sectorsErased_succ (h : Head) (first k : Nat) :
    sectorsErased h first (List.range (k + 1)) = eraseSector (sectorsErased h first (List.range k)) (first + k) := by
  unfold sectorsErased foldHead
  rw [List.range_succ, List.foldl_append]
  rfl

theorem arcWord_sectorsErased (h : Head) (first k n : Nat) : arcWord (sectorsErased h first (List.range k)) n =
    if first ≤ n / 128 ∧ n / 128 < first + k then erasedWord else arcWord h n := by
  induction k with
  | zero =>
    rw [if_neg (by omega)]
    rfl
  | succ k ih =>
    rw [sectorsErased_succ, arcWord_eraseSector, ih]
    grind

theorem sectorState_sectorsErased (h : Head) (first k n : Nat) : sectorState (sectorsErased h first (List.range k)) n =
    if first ≤ n ∧ n < first + k then 1 else sectorState h n := by
  induction k with
  | zero =>
    rw [if_neg (by omega)]
    rfl
  | succ k ih =>
    rw [sectorsErased_succ, sectorState_eraseSector, ih]
    grind

theorem frame_sectorsErased (h : Head) (first : Nat) (l : List Nat) : Frame [.arc] [(.arc, 0x06C)] h (sectorsErased h first l) := by
  simp +decide only [sectorsErased, frame_foldHead, (frame_eraseSector ..).iff, frame_refl, implies_true]

/-! ### An occurrence reaches the recorder -/

/-- The record that an occurrence makes. -/
def newRecord (h : Head) (source code payload : Nat) (firmware : Bool) : RecEntry :=
  ⟨h.arc.nextSeq, fget h .east PRV_HOURS_HOURS, fget h .east PRV_CYCLES_COUNT, source % 1024, code % 65536, 0, h.arc.lostNext, payload % 2 ^ 256, true,
    firmware⟩

/-- The buffer with a record more. -/
def recordJoined (h : Head) (r : RecEntry) : Head :=
  syncRecs { h with arc := { h.arc with recs := h.arc.recs ++ [r], nextSeq := (h.arc.nextSeq + 1) % 2 ^ 32, lostNext := 0 } }

theorem not_recorded_yet (h : Head) (source code : Nat) (hr : ∀ r ∈ h.arc.recs, r.hold = true → r.source = source → r.code = code → False) :
    (h.arc.recs.any (fun r => r.hold && r.source == source && r.code == code)) = false := by
  rw [List.any_eq_false]
  intro r hm hs
  simp only [Bool.and_eq_true, beq_iff_eq] at hs
  exact hr r hm hs.1.1 hs.1.2 hs.2

theorem record_new (h : Head) (source code payload : Nat) (firmware : Bool) (hr : Recordable h source code) :
    record h source code payload firmware =
      if h.arc.recs.length + 1 = 48 then raise (recordJoined h (newRecord h source code payload firmware)) .east Ev.PRV_BUFFER_HIGH
      else recordJoined h (newRecord h source code payload firmware) := by
  obtain ⟨hlen, hsame⟩ := hr
  have hl : (recordJoined h (newRecord h source code payload firmware)).arc.recs.length = h.arc.recs.length + 1 := by
    show (h.arc.recs ++ [_]).length = _
    simp
  rw [← hl]
  unfold record
  dsimp only
  rw [not_recorded_yet h source code hsame, if_neg (by decide), if_neg (by omega)]
  rfl

theorem held_syncRecs (h : Head) (hl : h.arc.recs.length < 128) : fget (syncRecs h) .east PRV_BUFFER_HELD = h.arc.recs.length := by
  simp only [fget_eq_bget, syncRecs, fmax_regs, fset_regs]
  simp (disch := decide) [PRV_BUFFER_HELD, PRV_BUFFER_HIGH_WATER, Nat.mod_eq_of_lt hl]

theorem record_joins (h : Head) (source code payload : Nat) (firmware : Bool) (hr : Recordable h source code) :
    let g := record h source code payload firmware
    Recorded h g source code payload firmware ∧ Frame [.arc, .evq] [(.prv, 0x010), (.prv, 0x04C)] h g ∧ g.arc.words = h.arc.words := by
  intro g
  have hg : g = _ := record_new h source code payload firmware hr
  have hf : Frame [.arc] [(.prv, 0x04C)] h (recordJoined h (newRecord h source code payload firmware)) := by
    simp +decide only [recordJoined, (frame_syncRecs ..).iff, frame_mk, true_or, or_true, and_self, frame_refl]
  have hrec : Recorded h (recordJoined h (newRecord h source code payload firmware)) source code payload firmware := by
    refine ⟨rfl, rfl, rfl, ?_⟩
    have hlen := hr.1
    exact (held_syncRecs _ (by simp; omega)).trans (by simp)
  have hw : (recordJoined h (newRecord h source code payload firmware)).arc.words = h.arc.words := rfl
  rw [hg]
  generalize recordJoined h (newRecord h source code payload firmware) = k at *
  split
  · have hra := frame_raise k .east 0 Ev.PRV_BUFFER_HIGH
    obtain ⟨hrecs, hseq, hlost, hheld⟩ := hrec
    refine ⟨⟨?_, ?_, ?_, ?_⟩, (hf.mono (by decide) (by decide)).trans (hra.mono (by decide) (by decide)), ?_⟩
    · rw [raise_arc, hrecs]
    · rw [raise_arc, hseq]
    · rw [raise_arc, hlost]
    · rw [hra.fget .east PRV_BUFFER_HELD (by decide) (by decide), hheld]
    · rw [raise_arc, hw]
  · exact ⟨hrec, hf.mono (by decide) (by decide), hw⟩

theorem record_lost (h : Head) (source code payload : Nat) (hl : 64 ≤ h.arc.recs.length)
    (hr : ∀ r ∈ h.arc.recs, r.hold = true → r.source = source → r.code = code → False) : record h source code payload false =
      raise (fadd { h with arc := { h.arc with lostNext := satAdd 16 h.arc.lostNext 1 } } .east PRV_LOST_COUNT) .east Ev.PRV_LOST := by
  unfold record
  dsimp only
  rw [not_recorded_yet h source code hr, if_neg (by decide), if_pos hl]
  rfl

theorem record_again (h : Head) (source code payload : Nat) (r : RecEntry) (hrecs : h.arc.recs = [r]) (hh : r.hold = true) (hs : r.source = source)
    (hc : r.code = code) : record h source code payload false = { h with arc := { h.arc with recs := [{ r with rep := satAdd 16 r.rep 1 }] } } := by
  have hsame : (r.hold && r.source == source && r.code == code) = true := by simp [hh, hs, hc]
  unfold record
  dsimp only
  rw [hrecs]
  simp only [List.any_cons, List.any_nil, hsame, Bool.or_false, if_true, List.map_cons, List.map_nil]

/-- What RECORD notes of the page that raised the event. -/
def eventPayload (h : Head) (p : Page) (w : Wing) : Nat :=
  (rd h p EVT_STATUS_EVENTS.off 0).toNat + (rd h p ERR_INFO_CODE.off 0).toNat <<< 32 + (hget h p ERR_ADDR_LO_ADDR) <<< 64 +
    (hget h p ERR_ADDR_HI_ADDR) <<< 96 + (pget h w FRM_FRAME_LO_FRAME FRM_FRAME_HI_FRAME) <<< 128

theorem eventPayload_parts (h : Head) (p : Page) (w : Wing) : eventPayload h p w % 2 ^ 32 = (rd h p 0x010 0).toNat ∧
    eventPayload h p w / 2 ^ 128 % 2 ^ 64 = pget h w FRM_FRAME_LO_FRAME FRM_FRAME_HI_FRAME := by
  have hst : (rd h p EVT_STATUS_EVENTS.off 0).toNat < 2 ^ 32 := BitVec.isLt _
  have hinfo : (rd h p ERR_INFO_CODE.off 0).toNat < 2 ^ 32 := BitVec.isLt _
  have hlo : hget h p ERR_ADDR_LO_ADDR < 2 ^ 32 := by
    rw [hget_eq_bget]
    exact bget_lt ..
  have hhi : hget h p ERR_ADDR_HI_ADDR < 2 ^ 16 := by
    rw [hget_eq_bget]
    exact bget_lt ..
  have hfl : fget h w FRM_FRAME_LO_FRAME < 2 ^ 32 := by
    rw [fget_eq_bget]
    exact bget_lt ..
  have hfh : fget h w FRM_FRAME_HI_FRAME < 2 ^ 16 := by
    rw [fget_eq_bget]
    exact bget_lt ..
  have hoff : rd h p 0x010 0 = rd h p EVT_STATUS_EVENTS.off 0 := rfl
  have hlow : FRM_FRAME_LO_FRAME.lo = 0 := rfl
  rw [hoff]
  unfold eventPayload pget
  rw [hlow]
  simp only [Nat.shiftLeft_eq]
  generalize (rd h p EVT_STATUS_EVENTS.off 0).toNat = a at *
  generalize (rd h p ERR_INFO_CODE.off 0).toNat = b at *
  generalize hget h p ERR_ADDR_LO_ADDR = c at *
  generalize hget h p ERR_ADDR_HI_ADDR = d at *
  generalize fget h w FRM_FRAME_LO_FRAME = e at *
  generalize fget h w FRM_FRAME_HI_FRAME = f at *
  omega

theorem recordEvent_eq (h : Head) (ev : Nat) (w : Wing) : recordEvent h ev w = record h ev 0 (eventPayload h (pageOfEvent ev w) w) false := rfl

theorem prvRecord_records (s : State) (ev : Nat) (w : Wing) (hrun : Runs s.dev) (hr : Recordable s.dev ev 0) :
    Completes (.prvRecord ev w) s (fun h => ∃ payload : Nat,
      Recorded s.dev h ev 0 payload false ∧
        payload % 2 ^ 32 = (rd s.dev (pageOfEvent ev w) 0x010 0).toNat ∧
        payload / 2 ^ 128 % 2 ^ 64 = pget s.dev w FRM_FRAME_LO_FRAME FRM_FRAME_HI_FRAME ∧
        RegsBut s.dev h [(.prv, 0x010), (.prv, 0x04C)] ∧ h.arc.words = s.dev.arc.words ∧ h.mem = s.dev.mem) := by
  obtain ⟨hj, hf, hw⟩ := record_joins s.dev ev 0 (eventPayload s.dev (pageOfEvent ev w) w) false hr
  obtain ⟨hlow, hhigh⟩ := eventPayload_parts s.dev (pageOfEvent ev w) w
  exact completes_of_eq (exec_prvRecord ev w) hrun (recordEvent_eq s.dev ev w) ⟨_, hj, hlow, hhigh, hf.2, hw, hf.1 .mem (by decide)⟩

theorem prvRecord_repeats (s : State) (ev : Nat) (w : Wing) (r : RecEntry) (hrun : Runs s.dev) (hrecs : s.dev.arc.recs = [r]) (hh : r.hold = true)
    (hs : r.source = ev) (hc : r.code = 0) :
    Completes (.prvRecord ev w) s (fun h =>
      h.arc = { s.dev.arc with recs := [{ r with rep := min (r.rep + 1) 65535 }] } ∧ SameButRegs { s.dev with arc := h.arc } h ∧
        h.regs = s.dev.regs) :=
  completes_of_eq (exec_prvRecord ev w) hrun ((recordEvent_eq s.dev ev w).trans (record_again s.dev ev 0 _ r hrecs hh hs hc)) ⟨rfl, rfl, rfl⟩

theorem prvRecord_loses (s : State) (ev : Nat) (w : Wing) (hrun : Runs s.dev) (hl : 64 ≤ s.dev.arc.recs.length)
    (hr : ∀ r ∈ s.dev.arc.recs, r.hold = true → r.source = ev → r.code = 0 → False) :
    Completes (.prvRecord ev w) s (fun h =>
      h.arc = { s.dev.arc with lostNext := min (s.dev.arc.lostNext + 1) 65535 } ∧
        fget h .east PRV_LOST_COUNT = min (fget s.dev .east PRV_LOST_COUNT + 1) (2 ^ 32 - 1) ∧ EventSet h .east Ev.PRV_LOST ∧
        RegsBut s.dev h [(.prv, 0x010), (.prv, 0x050)] ∧ h.mem = s.dev.mem) := by
  have hf : Frame [.arc, .evq] [(.prv, 0x010), (.prv, 0x050)] s.dev
      (raise (fadd { s.dev with arc := { s.dev.arc with lostNext := satAdd 16 s.dev.arc.lostNext 1 } } .east PRV_LOST_COUNT) .east Ev.PRV_LOST) := by
    simp +decide only [frame_rules, frame_mk, true_or, or_true, and_self, frame_refl]
  refine completes_of_eq (exec_prvRecord ev w) hrun ((recordEvent_eq s.dev ev w).trans (record_lost s.dev ev 0 _ hl hr))
    ⟨raise_arc _ _ _ _, ?_, raiseAt_sets _ _ _ (by decide), hf.2, hf.1 .mem (by decide)⟩
  rw [(frame_raise _ .east 0 Ev.PRV_LOST).fget .east PRV_LOST_COUNT (by decide) (by decide)]
  exact fget_fadd_same _ _ _ _ _ _ (by decide) (by decide)

/-- The head as PRV_REC_CMD.WRITE is set. -/
def writeAsked (h : Head) : Head := fset (reply h false) .east PRV_REC_CMD_WRITE 1

theorem frame_writeAsked (h : Head) : Frame [.bus] [(.prv, 0x080)] h (writeAsked h) := by
  simp +decide only [writeAsked, frame_rules, frame_refl]

theorem recWrite_records (s : State) (ini : Initiator) (hrun : Runs s.dev) (hw : Writable s.dev ini (pg .prv .east) 0x080)
    (h0 : fget s.dev .east PRV_REC_CMD_WRITE = 0)
    (hr : Recordable s.dev (fget s.dev .east PRV_REC_HDR_SOURCE) (fget s.dev .east PRV_REC_HDR_CODE)) :
    Completes (.recWrite ini) s (fun h =>
      Recorded s.dev h (fget s.dev .east PRV_REC_HDR_SOURCE) (fget s.dev .east PRV_REC_HDR_CODE) s.dev.arc.recPayload true ∧
        fget h .east PRV_REC_CMD_WRITE = 1 ∧ RegsBut s.dev h [(.prv, 0x010), (.prv, 0x04C), (.prv, 0x080)] ∧
        h.arc.words = s.dev.arc.words ∧ h.mem = s.dev.mem) := by
  have hf := frame_writeAsked s.dev
  have heq : recWrite s.dev ini =
      record (writeAsked s.dev) (fget s.dev .east PRV_REC_HDR_SOURCE) (fget s.dev .east PRV_REC_HDR_CODE) s.dev.arc.recPayload true := by
    have hb : fbit (reply s.dev false) .east PRV_REC_CMD_WRITE = false := by
      unfold fbit
      rw [show fget (reply s.dev false) .east PRV_REC_CMD_WRITE = fget s.dev .east PRV_REC_CMD_WRITE from rfl, h0]
      rfl
    rw [recWrite, withWrite_ok s.dev ini _ _ _ hw, recWriteEffect, hb]
    rfl
  have hone : fget (writeAsked s.dev) .east PRV_REC_CMD_WRITE = 1 := by
    simp only [fget_eq_bget, writeAsked, fset_regs]
    simp (disch := decide) [PRV_REC_CMD_WRITE]
  obtain ⟨⟨hrecs, hseq, hlost, hheld⟩, hg, hwords⟩ := record_joins (writeAsked s.dev) _ _ s.dev.arc.recPayload true hr
  refine completes_of_eq (exec_recWrite ini) hrun heq ⟨⟨?_, hseq, hlost, hheld⟩, ?_, ?_, hwords, hg.1 .mem (by decide)⟩
  · rw [hrecs, hf.fget .east PRV_HOURS_HOURS (by decide) (by decide), hf.fget .east PRV_CYCLES_COUNT (by decide) (by decide)]
    rfl
  · exact (hg.fget .east PRV_REC_CMD_WRITE (by decide) (by decide) 0 0).trans hone
  · exact regsBut_trans (regsBut_mono hf.2 (by decide)) (regsBut_mono hg.2 (by decide))

theorem recordHoldExpiry_ends (s : State) (seq : Nat) (hrun : Runs s.dev) :
    Completes (.recordHoldExpiry seq) s (fun h =>
      (∀ r ∈ h.arc.recs, r.seq = seq → r.hold = false) ∧ h.arc.recs.map (fun r => { r with hold := false }) =
        s.dev.arc.recs.map (fun r => { r with hold := false }) ∧ h = { s.dev with arc := { s.dev.arc with recs := h.arc.recs } }) := by
  refine completes_of_eq (exec_recordHoldExpiry seq) hrun rfl ⟨?_, ?_, rfl⟩
  · intro r hr hs
    obtain ⟨q, -, hq⟩ := List.mem_map.1 hr
    split at hq
    · rw [← hq]
    next hne =>
      rw [← hq] at hs
      exact absurd hs hne
  · show (s.dev.arc.recs.map _).map _ = _
    rw [List.map_map]
    refine List.map_congr_left fun r _ => ?_
    show ({ (if r.seq = seq then { r with hold := false } else r) with hold := false } : RecEntry) = _
    split <;> rfl

/-! ### Records programmed -/

/-- A record's two words programmed from a word on. -/
def wordsWritten (h : Head) (n : Nat) (r : RecEntry) : Head := programWord (programWord h n (recordWords r).1) (n + 1) (recordWords r).2

/-- A record that has left the buffer. -/
def recordLeft (h : Head) (r : RecEntry) (circ : Tab Nat) : Head :=
  let h := { h with arc := { h.arc with recs := h.arc.recs.drop 1, newestCycles := r.cycles, circ := circ } }
  let h := if r.firmware then fset h .east PRV_REC_CMD_WRITE 0 else h
  syncRecs (fset h .east PRV_NEWEST_SEQ r.seq)

/-- The next slot of the permanent area taken. -/
def permTaken (h : Head) : Head := { h with arc := { h.arc with perm := h.arc.perm + 1 } }

/-- The next slot of the circulating area taken, its sector erased before its first slot. -/
def circTaken (h : Head) (seq : Nat) : Head :=
  let h := if h.arc.circNext % 64 = 0 then
      eraseSector (fset { h with arc := { h.arc with circ := tabKeep h.arc.circ (fun k _ => k / 64 != h.arc.circNext / 64) } } .east PRV_OLDEST_SEQ
        (oldestSeq (tabKeep h.arc.circ (fun k _ => k / 64 != h.arc.circNext / 64)) seq)) (0x50 + h.arc.circNext / 64)
    else h
  { h with arc := { h.arc with circNext := (h.arc.circNext + 1) % 4160 } }

theorem programRecord_perm (h : Head) (r : RecEntry) (hp : h.arc.perm < 4096) :
    programRecord h r true = recordLeft (wordsWritten (permTaken h) (2048 + 2 * h.arc.perm) r) r h.arc.circ := by
  have hn : (0x10000 + 64 * h.arc.perm) / 32 = 2048 + 2 * h.arc.perm := by omega
  have hc : decide (4096 ≤ h.arc.perm) = false := decide_eq_false (by omega)
  unfold programRecord
  dsimp only
  rw [hc, if_pos hp, hn]
  rfl

theorem programRecord_circ (h : Head) (r : RecEntry) (hp : 4096 ≤ h.arc.perm) :
    programRecord h r true = recordLeft (wordsWritten (circTaken h r.seq) (0x2800 + 2 * h.arc.circNext) r) r
      (tabPut (circTaken h r.seq).arc.circ h.arc.circNext r.seq) := by
  have hn : (0x50000 + 64 * h.arc.circNext) / 32 = 0x2800 + 2 * h.arc.circNext := by omega
  have hs : (0x50000 + 64 * h.arc.circNext) / 4096 = 0x50 + h.arc.circNext / 64 := by omega
  have hc : decide (4096 ≤ h.arc.perm) = true := decide_eq_true hp
  unfold programRecord circTaken
  dsimp only
  rw [hc, if_neg (Nat.not_lt.2 hp), hn, hs]
  by_cases h0 : h.arc.circNext % 64 = 0
  · simp only [Bool.true_and, beq_iff_eq, h0, if_true]
    rfl
  · simp only [Bool.true_and, beq_iff_eq, h0, if_false]
    rfl

theorem programRecord_failed (h : Head) (r : RecEntry) (hp : h.arc.perm < 4096) : programRecord h r false =
    if Config.freeNat (fresh (permTaken h)).1 % 2 = 0 then halfWord (fresh (permTaken h)).2 (2048 + 2 * h.arc.perm) (recordWords r).1
    else halfWord (programWord (fresh (permTaken h)).2 (2048 + 2 * h.arc.perm) (recordWords r).1) (2048 + 2 * h.arc.perm + 1) (recordWords r).2 := by
  have hn : (0x10000 + 64 * h.arc.perm) / 32 = 2048 + 2 * h.arc.perm := by omega
  have hc : decide (4096 ≤ h.arc.perm) = false := decide_eq_false (by omega)
  unfold programRecord
  dsimp only
  rw [hc, if_pos hp, hn]
  rfl

theorem recordLeft_arc (h : Head) (r : RecEntry) (circ : Tab Nat) :
    (recordLeft h r circ).arc = { h.arc with recs := h.arc.recs.drop 1, newestCycles := r.cycles, circ := circ } := by
  unfold recordLeft
  cases r.firmware <;> rfl

theorem recordLeft_reads (h : Head) (r : RecEntry) (circ : Tab Nat) : fget (recordLeft h r circ) .east PRV_NEWEST_SEQ = r.seq % 2 ^ 32 ∧
    (r.firmware = true → fget (recordLeft h r circ) .east PRV_REC_CMD_WRITE = 0) := by
  refine ⟨?_, fun hfw => ?_⟩
  · rw [recordLeft, (frame_syncRecs _).fget .east PRV_NEWEST_SEQ (by decide) (by decide), fget_eq_bget, fset_regs]
    simp (disch := decide) [PRV_NEWEST_SEQ]
  · rw [recordLeft, (frame_syncRecs _).fget .east PRV_REC_CMD_WRITE (by decide) (by decide)]
    simp only [hfw, if_true, fget_eq_bget, fset_regs]
    simp (disch := decide) [PRV_NEWEST_SEQ, PRV_REC_CMD_WRITE]

theorem recordLeft_held (h : Head) (r : RecEntry) (circ : Tab Nat) (hl : (h.arc.recs.drop 1).length < 128) :
    fget (recordLeft h r circ) .east PRV_BUFFER_HELD = (h.arc.recs.drop 1).length := by
  have hrecs : (fset (if r.firmware then
      fset { h with arc := { h.arc with recs := h.arc.recs.drop 1, newestCycles := r.cycles, circ := circ } } .east PRV_REC_CMD_WRITE 0
      else { h with arc := { h.arc with recs := h.arc.recs.drop 1, newestCycles := r.cycles, circ := circ } }) .east PRV_NEWEST_SEQ r.seq).arc.recs =
      h.arc.recs.drop 1 := by
    cases r.firmware <;> rfl
  rw [recordLeft, held_syncRecs _ (by rw [hrecs]; exact hl), hrecs]

theorem arc_wordsWritten (h : Head) (n : Nat) (r : RecEntry) : (wordsWritten h n r).arc = { h.arc with words := (wordsWritten h n r).arc.words } := rfl

theorem arcWord_wordsWritten (h : Head) (n k : Nat) (r : RecEntry) : arcWord (wordsWritten h n r) k =
    if k = n then (arcWord h n &&& (recordWords r).1) % 2 ^ 256
    else if k = n + 1 then (arcWord h (n + 1) &&& (recordWords r).2) % 2 ^ 256 else arcWord h k := by
  unfold wordsWritten
  by_cases h1 : k = n + 1
  · rw [h1, arcWord_programWord_same, arcWord_programWord_other _ _ _ _ (by omega : n + 1 ≠ n), if_neg (by omega), if_pos rfl]
  · rw [arcWord_programWord_other _ _ _ _ h1, if_neg h1]
    by_cases h0 : k = n
    · rw [if_pos h0, h0, arcWord_programWord_same]
    · rw [if_neg h0, arcWord_programWord_other _ _ _ _ h0]

/-- What RECORD_PROGRAM leaves: the record programmed, and then the Archive's next operation. -/
theorem recordProgram_then (h : Head) (ok : Bool) (r : RecEntry) (l : List RecEntry) (hrecs : h.arc.recs = r :: l) (hh : r.hold = false)
    (hop : h.arc.op = none) (hstop : fbit h .east ARC_STATUS_STOP = false) (hrn : running h (pg .arc .east) = true)
    (hx : ∀ u, h.arc.upd = some u → inXo h (updStep h u).offset 1 = false) (hupd : (programRecord h r ok).arc.upd = h.arc.upd) :
    Frame [.arc, .sram] [(.arc, 0x044), (.arc, 0x04C), (.arc, 0x054)] (programRecord h r ok) (recordProgram h ok) ∧
      ArcQueue (programRecord h r ok).arc (recordProgram h ok).arc := by
  have heq : recordProgram h ok = arcNext (programRecord h r ok) := by
    unfold recordProgram
    rw [hrecs]
    simp only [arcIdle, arcReady, hop, hstop, hrn, hh]
    rfl
  rw [heq]
  refine arcNext_keeps _ fun u hu => ?_
  rw [inXo_congr (frame_programRecord h r ok) (by decide) (by decide), updStep_offset h]
  exact hx u (hupd.symm.trans hu)

theorem recordProgram_permanent (s : State) (r : RecEntry) (l : List RecEntry) (hrun : Runs s.dev) (hrecs : s.dev.arc.recs = r :: l)
    (hh : r.hold = false) (hop : s.dev.arc.op = none) (hstop : fbit s.dev .east ARC_STATUS_STOP = false) (hp : s.dev.arc.perm < 4096)
    (hl : l.length < 64) (hrn : running s.dev (pg .arc .east) = true)
    (hx : ∀ u, s.dev.arc.upd = some u → inXo s.dev (updStep s.dev u).offset 1 = false) :
    Completes (.recordProgram true) s (fun h =>
      h.arc.recs = l ∧ h.arc.perm = s.dev.arc.perm + 1 ∧
        arcWord h (2048 + 2 * s.dev.arc.perm) = (arcWord s.dev (2048 + 2 * s.dev.arc.perm) &&& (recordWords r).1) % 2 ^ 256 ∧
        arcWord h (2049 + 2 * s.dev.arc.perm) = (arcWord s.dev (2049 + 2 * s.dev.arc.perm) &&& (recordWords r).2) % 2 ^ 256 ∧
        (∀ n, n < 2048 + 2 * s.dev.arc.perm ∨ 2049 + 2 * s.dev.arc.perm < n → arcWord h n = arcWord s.dev n) ∧
        fget h .east PRV_NEWEST_SEQ = r.seq % 2 ^ 32 ∧ fget h .east PRV_BUFFER_HELD = l.length ∧
        (r.firmware = true → fget h .east PRV_REC_CMD_WRITE = 0) ∧ h.mem = s.dev.mem) := by
  have heq := programRecord_perm s.dev r hp
  have hdrop : (wordsWritten (permTaken s.dev) (2048 + 2 * s.dev.arc.perm) r).arc.recs.drop 1 = l := by
    show s.dev.arc.recs.drop 1 = l
    rw [hrecs]
    rfl
  have harc := recordLeft_arc (wordsWritten (permTaken s.dev) (2048 + 2 * s.dev.arc.perm) r) r s.dev.arc.circ
  obtain ⟨hseq, hcmd⟩ := recordLeft_reads (wordsWritten (permTaken s.dev) (2048 + 2 * s.dev.arc.perm) r) r s.dev.arc.circ
  have hheld := recordLeft_held (wordsWritten (permTaken s.dev) (2048 + 2 * s.dev.arc.perm) r) r s.dev.arc.circ (by rw [hdrop]; omega)
  rw [hdrop] at harc hheld
  rw [← heq] at harc hseq hheld hcmd
  obtain ⟨hf, ha⟩ := recordProgram_then s.dev true r l hrecs hh hop hstop hrn hx (by rw [harc]; rfl)
  have hword (n : Nat) : arcWord (recordProgram s.dev true) n = arcWord (wordsWritten (permTaken s.dev) (2048 + 2 * s.dev.arc.perm) r) n := by
    show (tabGet? (recordProgram s.dev true).arc.words n).getD erasedWord = _
    rw [ha, harc]
    rfl
  have hperm (n : Nat) : arcWord (permTaken s.dev) n = arcWord s.dev n := rfl
  refine completes_of_eq (exec_recordProgram true) hrun rfl ⟨?_, ?_, ?_, ?_, fun n hn => ?_, ?_, ?_, fun hfw => ?_, ?_⟩
  · rw [ha, harc]
  · rw [ha, harc]
    rfl
  · rw [hword, arcWord_wordsWritten, if_pos rfl, hperm]
  · rw [hword, arcWord_wordsWritten, if_neg (by omega), if_pos (by omega), hperm, show 2048 + 2 * s.dev.arc.perm + 1 = 2049 + 2 * s.dev.arc.perm by omega]
  · rw [hword, arcWord_wordsWritten, if_neg (by omega), if_neg (by omega), hperm]
  · rw [hf.fget .east PRV_NEWEST_SEQ (by decide) (by decide), hseq]
  · rw [hf.fget .east PRV_BUFFER_HELD (by decide) (by decide), hheld]
  · rw [hf.fget .east PRV_REC_CMD_WRITE (by decide) (by decide), hcmd hfw]
  · exact (hf.1 .mem (by decide)).trans ((frame_programRecord s.dev r true).1 .mem (by decide))

theorem circTaken_arc (h : Head) (seq : Nat) : (circTaken h seq).arc = { h.arc with
    words := (circTaken h seq).arc.words, sectors := (circTaken h seq).arc.sectors, circ := (circTaken h seq).arc.circ,
    circNext := (h.arc.circNext + 1) % 4160 } := by
  unfold circTaken
  split <;> rfl

theorem circ_circTaken (h : Head) (seq k : Nat) : tabGet? (circTaken h seq).arc.circ k =
    if h.arc.circNext % 64 = 0 ∧ k / 64 = h.arc.circNext / 64 then none else tabGet? h.arc.circ k := by
  unfold circTaken
  by_cases h0 : h.arc.circNext % 64 = 0
  · rw [if_pos h0]
    show tabGet? (tabKeep h.arc.circ (fun k _ => k / 64 != h.arc.circNext / 64)) k = _
    rw [tabGet?_tabKeep]
    by_cases hk : k / 64 = h.arc.circNext / 64
    · simp [h0, hk]
    · simp [hk]
  · rw [if_neg h0, if_neg (fun x => h0 x.1)]

theorem arcWord_circTaken (h : Head) (seq n : Nat) : arcWord (circTaken h seq) n =
    if h.arc.circNext % 64 = 0 ∧ n / 128 = 0x50 + h.arc.circNext / 64 then erasedWord else arcWord h n := by
  unfold circTaken
  by_cases h0 : h.arc.circNext % 64 = 0
  · rw [if_pos h0]
    refine (arcWord_eraseSector _ _ _).trans ?_
    simp only [h0, true_and]
    rfl
  · rw [if_neg h0, if_neg (fun x => h0 x.1)]
    rfl

theorem recordProgram_circulating (s : State) (r : RecEntry) (l : List RecEntry) (c : Nat) (hrun : Runs s.dev) (hrecs : s.dev.arc.recs = r :: l)
    (hh : r.hold = false) (hop : s.dev.arc.op = none) (hstop : fbit s.dev .east ARC_STATUS_STOP = false) (hp : 4096 ≤ s.dev.arc.perm)
    (hc : c = s.dev.arc.circNext) (hrn : running s.dev (pg .arc .east) = true)
    (hx : ∀ u, s.dev.arc.upd = some u → inXo s.dev (updStep s.dev u).offset 1 = false) :
    Completes (.recordProgram true) s (fun h =>
      h.arc.recs = l ∧ h.arc.perm = s.dev.arc.perm ∧ h.arc.circNext = (c + 1) % 4160 ∧ tabGet? h.arc.circ c = some r.seq ∧
        (c % 64 ≠ 0 → ∀ k, k ≠ c → tabGet? h.arc.circ k = tabGet? s.dev.arc.circ k) ∧
        (c % 64 = 0 → ∀ k, k ≠ c → k / 64 = c / 64 → tabGet? h.arc.circ k = none) ∧
        arcWord h (0x2800 + 2 * c) = ((if c % 64 = 0 then erasedWord else arcWord s.dev (0x2800 + 2 * c)) &&& (recordWords r).1) % 2 ^ 256 ∧
        fget h .east PRV_NEWEST_SEQ = r.seq % 2 ^ 32 ∧ h.mem = s.dev.mem) := by
  have heq := programRecord_circ s.dev r hp
  have harc := recordLeft_arc (wordsWritten (circTaken s.dev r.seq) (0x2800 + 2 * s.dev.arc.circNext) r) r
    (tabPut (circTaken s.dev r.seq).arc.circ s.dev.arc.circNext r.seq)
  obtain ⟨hseq, -⟩ := recordLeft_reads (wordsWritten (circTaken s.dev r.seq) (0x2800 + 2 * s.dev.arc.circNext) r) r
    (tabPut (circTaken s.dev r.seq).arc.circ s.dev.arc.circNext r.seq)
  rw [← heq] at harc hseq
  rw [arc_wordsWritten, circTaken_arc, hrecs] at harc
  obtain ⟨hf, ha⟩ := recordProgram_then s.dev true r l hrecs hh hop hstop hrn hx (by rw [harc])
  have hword (n : Nat) : arcWord (recordProgram s.dev true) n = arcWord (wordsWritten (circTaken s.dev r.seq) (0x2800 + 2 * s.dev.arc.circNext) r) n := by
    show (tabGet? (recordProgram s.dev true).arc.words n).getD erasedWord = _
    rw [ha, harc]
    rfl
  have hcirc : (recordProgram s.dev true).arc.circ = tabPut (circTaken s.dev r.seq).arc.circ c r.seq := by rw [ha, harc, hc]
  refine completes_of_eq (exec_recordProgram true) hrun rfl ⟨?_, ?_, ?_, ?_, fun h0 k hk => ?_, fun h0 k hk hs => ?_, ?_, ?_, ?_⟩
  · rw [ha, harc]
    rfl
  · rw [ha, harc]
  · rw [ha, harc, hc]
  · rw [hcirc, tabGet?_tabPut_same]
  · rw [hcirc, tabGet?_tabPut_other _ _ hk, circ_circTaken, if_neg (fun x => h0 (hc ▸ x.1))]
  · rw [hcirc, tabGet?_tabPut_other _ _ hk, circ_circTaken, if_pos ⟨hc ▸ h0, hc ▸ hs⟩]
  · rw [hc, hword, arcWord_wordsWritten, if_pos rfl, arcWord_circTaken]
    have hsec : (0x2800 + 2 * s.dev.arc.circNext) / 128 = 0x50 + s.dev.arc.circNext / 64 := by omega
    simp only [hsec, and_true]
  · rw [hf.fget .east PRV_NEWEST_SEQ (by decide) (by decide), hseq]
  · exact (hf.1 .mem (by decide)).trans ((frame_programRecord s.dev r true).1 .mem (by decide))

theorem arcWord_halfWord_other (h : Head) (n v k : Nat) (hk : k ≠ n) : arcWord (halfWord h n v) k = arcWord h k :=
  tabGet_tabStore_other _ _ _ _ hk

theorem arc_programRecord_failed (h : Head) (r : RecEntry) (hp : h.arc.perm < 4096) :
    (programRecord h r false).arc = { (permTaken h).arc with words := (programRecord h r false).arc.words } := by
  rw [programRecord_failed h r hp]
  split <;> rfl

theorem frame_programRecord_failed (h : Head) (r : RecEntry) (hp : h.arc.perm < 4096) :
    Frame [.arc, .freeCtr] [(.arc, 0x068)] h (programRecord h r false) := by
  have hp' : Frame [.arc, .freeCtr] [(.arc, 0x068)] h (fresh (permTaken h)).2 := by
    simp +decide only [permTaken, (frame_fresh ..).iff, frame_mk, true_or, or_true, and_self, frame_refl]
  rw [programRecord_failed h r hp]
  simp +decide only [frame_ite, (frame_halfWord ..).iff, (frame_programWord ..).iff, hp', ite_self]

theorem recordProgram_stops (s : State) (r : RecEntry) (l : List RecEntry) (hrun : Runs s.dev) (hrecs : s.dev.arc.recs = r :: l)
    (hh : r.hold = false) (hop : s.dev.arc.op = none) (hstop : fbit s.dev .east ARC_STATUS_STOP = false) (hp : s.dev.arc.perm < 4096)
    (hrn : running s.dev (pg .arc .east) = true) (hx : ∀ u, s.dev.arc.upd = some u → inXo s.dev (updStep s.dev u).offset 1 = false) :
    Completes (.recordProgram false) s (fun h =>
      h.arc.recs = r :: l ∧ h.arc.perm = s.dev.arc.perm + 1 ∧ fget h .east PRV_NEWEST_SEQ = fget s.dev .east PRV_NEWEST_SEQ ∧
        (∀ n, n ≠ 2048 + 2 * s.dev.arc.perm → n ≠ 2049 + 2 * s.dev.arc.perm → arcWord h n = arcWord s.dev n) ∧ h.mem = s.dev.mem) := by
  have harc := arc_programRecord_failed s.dev r hp
  have hg := frame_programRecord_failed s.dev r hp
  obtain ⟨hf, ha⟩ := recordProgram_then s.dev false r l hrecs hh hop hstop hrn hx (by rw [harc]; rfl)
  have hword (n : Nat) (h0 : n ≠ 2048 + 2 * s.dev.arc.perm) (h1 : n ≠ 2048 + 2 * s.dev.arc.perm + 1) :
      arcWord (programRecord s.dev r false) n = arcWord s.dev n := by
    rw [programRecord_failed s.dev r hp]
    split
    · rw [arcWord_halfWord_other _ _ _ _ h0]
      rfl
    · rw [arcWord_halfWord_other _ _ _ _ h1, arcWord_programWord_other _ _ _ _ h0]
      rfl
  refine completes_of_eq (exec_recordProgram false) hrun rfl ⟨?_, ?_, ?_, fun n h0 h1 => ?_, ?_⟩
  · rw [ha, harc]
    exact hrecs
  · rw [ha, harc]
    rfl
  · exact (hf.fget .east PRV_NEWEST_SEQ (by decide) (by decide) 0 0).trans (hg.fget .east PRV_NEWEST_SEQ (by decide) (by decide) 0 0)
  · rw [← hword n h0 (by omega)]
    show (tabGet? (recordProgram s.dev false).arc.words n).getD erasedWord = _
    rw [ha]
    rfl
  · exact (hf.1 .mem (by decide)).trans (hg.1 .mem (by decide))

/-! ### Hours and the clear record -/

/-- The tally counts an hour: its next word programmed, and one more of its words used. -/
def hourProgrammed (h : Head) : Head :=
  let h := programWord h ((5 + h.arc.tally) * 128 + 1 + h.arc.tallyUsed) (marker 0x7A110001 0)
  { h with arc := { h.arc with tallyUsed := h.arc.tallyUsed + 1 } }

theorem hourTick_eq (h : Head) (hs : arcWord h ((5 + h.arc.tally) * 128) ≠ erasedWord) (hu : h.arc.tallyUsed < 127) :
    hourTick h = hoursShown (hourProgrammed h) := by
  unfold hourTick
  dsimp only
  rw [if_neg hs, if_neg (by omega)]
  rfl

theorem frame_hourProgrammed (h : Head) : Frame [.arc] [(.arc, 0x068)] h (hourProgrammed h) := by
  simp +decide only [hourProgrammed, (frame_programWord ..).iff, frame_mk, true_or, or_true, and_self, frame_refl]

theorem frame_hoursShown (h : Head) : Frame [.cur] [(.prv, 0x054)] h (hoursShown h) := by
  simp +decide only [hoursShown, frame_rules, frame_mk, true_or, or_true, and_self, frame_refl]

theorem arc_hoursShown (h : Head) : (hoursShown h).arc = h.arc := rfl

theorem hours_hoursShown (h : Head) : fget (hoursShown h) .east PRV_HOURS_HOURS = (h.arc.tallyBase + h.arc.tallyUsed) * 256 % 2 ^ 32 := by
  rw [hoursShown, fget_eq_bget, fset_regs]
  simp (disch := decide) [PRV_HOURS_HOURS]

theorem hourTick_counts (s : State) (hrun : Runs s.dev) (hu : s.dev.arc.tallyUsed < 127)
    (hs : arcWord s.dev ((5 + s.dev.arc.tally) * 128) ≠ erasedWord) :
    Completes .hourTick s (fun h =>
      h.arc.tallyUsed = s.dev.arc.tallyUsed + 1 ∧ h.arc.tallyBase = s.dev.arc.tallyBase ∧
        fget h .east PRV_HOURS_HOURS = (s.dev.arc.tallyBase + s.dev.arc.tallyUsed + 1) * 256 % 2 ^ 32 ∧
        (∀ n, n ≠ (5 + s.dev.arc.tally) * 128 + 1 + s.dev.arc.tallyUsed → arcWord h n = arcWord s.dev n) ∧
        RegsBut s.dev h [(.arc, 0x068), (.prv, 0x054)] ∧ h.mem = s.dev.mem) := by
  have hf : Frame [.arc, .cur] [(.arc, 0x068), (.prv, 0x054)] s.dev (hoursShown (hourProgrammed s.dev)) :=
    ((frame_hourProgrammed s.dev).mono (by decide) (by decide)).trans ((frame_hoursShown _).mono (by decide) (by decide))
  refine completes_of_eq exec_hourTick hrun (hourTick_eq s.dev hs hu) ⟨rfl, rfl, hours_hoursShown _, fun n hn => ?_, hf.2, hf.1 .mem (by decide)⟩
  exact tabGet_tabStore_other _ _ _ _ hn

/-! ### The circulating area cleared -/

/-- The circulating area erased. -/
def circErased (h : Head) : Head := sectorsErased h 0x50 (List.range 65)

/-- The record of a clear. -/
def clearRecord (h : Head) (top : Nat) : RecEntry :=
  ⟨h.arc.nextSeq, fget h .east PRV_HOURS_HOURS, fget h .east PRV_CYCLES_COUNT, 944, 2, 0, h.arc.lostNext, top + h.doc.counter <<< 32, false, false⟩

/-- A record alone in the circulating area. -/
def recordAlone (h : Head) (r : RecEntry) : Head :=
  let h := wordsWritten h 0x2800 r
  let h := { h with arc := { h.arc with circ := [(0, r.seq)], circNext := 1, nextSeq := (r.seq + 1) % 2 ^ 32, lostNext := 0, newestCycles := r.cycles } }
  fset (fset h .east PRV_NEWEST_SEQ r.seq) .east PRV_OLDEST_SEQ r.seq

theorem prvClearEffect_eq (h : Head) : prvClearEffect h =
    raise (recordAlone (circErased (drainRecords h)) (clearRecord (circErased (drainRecords h)) (fget (drainRecords h) .east PRV_NEWEST_SEQ)))
      .east Ev.PRV_CLEARED := rfl

theorem programRecord_leaves (h : Head) (r : RecEntry) : (programRecord h r true).arc.recs = h.arc.recs.drop 1 ∧
    (programRecord h r true).arc.nextSeq = h.arc.nextSeq := by
  by_cases hp : h.arc.perm < 4096
  · rw [programRecord_perm h r hp, recordLeft_arc]
    exact ⟨rfl, rfl⟩
  · rw [programRecord_circ h r (Nat.not_lt.1 hp), recordLeft_arc, arc_wordsWritten, circTaken_arc]
    exact ⟨rfl, rfl⟩

theorem programRecords_leave (l : List RecEntry) : ∀ h : Head,
    (foldHead h l (fun h r => programRecord h r true)).arc.recs = h.arc.recs.drop l.length ∧
      (foldHead h l (fun h r => programRecord h r true)).arc.nextSeq = h.arc.nextSeq := by
  induction l with
  | nil => exact fun h => ⟨rfl, rfl⟩
  | cons r l ih =>
    intro h
    obtain ⟨hrecs, hseq⟩ := ih (programRecord h r true)
    obtain ⟨hrecs', hseq'⟩ := programRecord_leaves h r
    exact ⟨hrecs.trans (by rw [hrecs', List.drop_drop, List.length_cons, Nat.add_comm]), hseq.trans hseq'⟩

theorem drainRecords_leaves (h : Head) : (drainRecords h).arc.recs = [] ∧ (drainRecords h).arc.nextSeq = h.arc.nextSeq := by
  obtain ⟨hrecs, hseq⟩ := programRecords_leave h.arc.recs h
  exact ⟨hrecs.trans List.drop_length, hseq⟩

theorem arc_eraseSector (h : Head) (s : Nat) :
    (eraseSector h s).arc = { h.arc with words := (eraseSector h s).arc.words, sectors := (eraseSector h s).arc.sectors } := rfl

theorem arc_sectorsErased (h : Head) (first : Nat) (l : List Nat) : (sectorsErased h first l).arc =
    { h.arc with words := (sectorsErased h first l).arc.words, sectors := (sectorsErased h first l).arc.sectors } := by
  induction l generalizing h with
  | nil => rfl
  | cons i l ih =>
    refine (ih (eraseSector h (first + i))).trans ?_
    rw [arc_eraseSector]
    rfl

theorem frame_recordAlone (h : Head) (r : RecEntry) : Frame [.arc] [(.arc, 0x068), (.prv, 0x044), (.prv, 0x048)] h (recordAlone h r) := by
  simp +decide only [recordAlone, wordsWritten, frame_rules, (frame_programWord ..).iff, frame_mk, true_or, or_true, and_self, frame_refl]

theorem recordAlone_reads (h : Head) (r : RecEntry) : fget (recordAlone h r) .east PRV_NEWEST_SEQ = r.seq % 2 ^ 32 ∧
    fget (recordAlone h r) .east PRV_OLDEST_SEQ = r.seq % 2 ^ 32 := by
  simp only [fget_eq_bget, recordAlone, fset_regs]
  simp (disch := decide) [PRV_NEWEST_SEQ, PRV_OLDEST_SEQ]

theorem recordAlone_arc (h : Head) (r : RecEntry) : (recordAlone h r).arc = { (wordsWritten h 0x2800 r).arc with
    circ := [(0, r.seq)], circNext := 1, nextSeq := (r.seq + 1) % 2 ^ 32, lostNext := 0, newestCycles := r.cycles } := rfl

theorem frame_prvClearEffect (h : Head) : Frame [.arc, .freeCtr, .evq]
    [(.arc, 0x068), (.arc, 0x06C), (.prv, 0x010), (.prv, 0x044), (.prv, 0x048), (.prv, 0x04C), (.prv, 0x080)] h (prvClearEffect h) := by
  simp +decide only [prvClearEffect_eq, circErased, (frame_recordAlone ..).iff, (frame_sectorsErased ..).iff, (frame_drainRecords ..).iff, frame_rules,
    frame_refl]

theorem seq_clearRecord (h : Head) (top : Nat) : (clearRecord h top).seq = h.arc.nextSeq := rfl

theorem circErased_arc (h : Head) : (circErased h).arc.recs = h.arc.recs ∧ (circErased h).arc.nextSeq = h.arc.nextSeq := by
  rw [circErased, arc_sectorsErased]
  exact ⟨rfl, rfl⟩

theorem arcWord_circErased (h : Head) (n : Nat) (h0 : 0x2802 ≤ n) (h1 : n < 0x4880) : arcWord (circErased h) n = erasedWord := by
  rw [circErased, arcWord_sectorsErased, if_pos (by omega)]

theorem recordAlone_raised (h : Head) (r : RecEntry) (e : EvRef) :
    let g := raise (recordAlone h r) .east e
    g.arc.recs = h.arc.recs ∧ g.arc.circ = [(0, r.seq)] ∧ g.arc.circNext = 1 ∧ g.arc.nextSeq = (r.seq + 1) % 2 ^ 32 ∧
      fget g .east PRV_NEWEST_SEQ = r.seq % 2 ^ 32 ∧ fget g .east PRV_OLDEST_SEQ = r.seq % 2 ^ 32 ∧
      ∀ n, n ≠ 0x2800 → n ≠ 0x2801 → arcWord g n = arcWord h n := by
  intro g
  obtain ⟨hnew, hold⟩ := recordAlone_reads h r
  have harc : g.arc = _ := (raise_arc (recordAlone h r) .east e 0).trans (recordAlone_arc h r)
  have hr : Frame [.evq] [(e.block, 0x010)] (recordAlone h r) g := frame_raise (recordAlone h r) .east 0 e
  refine ⟨by rw [harc]; rfl, by rw [harc], by rw [harc], by rw [harc], ?_, ?_, fun n h0 h1 => ?_⟩
  · rw [hr.fget .east PRV_NEWEST_SEQ (by simp [PRV_NEWEST_SEQ]) (by decide), hnew]
  · rw [hr.fget .east PRV_OLDEST_SEQ (by simp [PRV_OLDEST_SEQ]) (by decide), hold]
  · have hw : arcWord (wordsWritten h 0x2800 r) n = arcWord h n := by rw [arcWord_wordsWritten, if_neg h0, if_neg h1]
    rw [← hw]
    unfold arcWord
    rw [harc]

theorem prvClearEffect_clears (h : Head) : let g := prvClearEffect h
    g.arc.recs = [] ∧ g.arc.circ = [(0, h.arc.nextSeq)] ∧ g.arc.circNext = 1 ∧ g.arc.nextSeq = (h.arc.nextSeq + 1) % 2 ^ 32 ∧
      fget g .east PRV_NEWEST_SEQ = h.arc.nextSeq % 2 ^ 32 ∧ fget g .east PRV_OLDEST_SEQ = h.arc.nextSeq % 2 ^ 32 ∧
      (∀ n, 0x2802 ≤ n → n < 0x4880 → arcWord g n = erasedWord) ∧ EventSet g .east Ev.PRV_CLEARED := by
  obtain ⟨hrecs, hseq⟩ := drainRecords_leaves h
  obtain ⟨herecs, heseq⟩ := circErased_arc (drainRecords h)
  have hword := arcWord_circErased (drainRecords h)
  have hrseq := seq_clearRecord (circErased (drainRecords h)) (fget (drainRecords h) .east PRV_NEWEST_SEQ)
  rw [heseq, hseq] at hrseq
  rw [hrecs] at herecs
  rw [prvClearEffect_eq]
  generalize clearRecord (circErased (drainRecords h)) _ = r at *
  generalize circErased (drainRecords h) = e at *
  obtain ⟨krecs, kcirc, knext, kseq, knew, kold, kword⟩ := recordAlone_raised e r Ev.PRV_CLEARED
  rw [hrseq] at kcirc kseq knew kold
  exact ⟨krecs.trans herecs, kcirc, knext, kseq, knew, kold,
    fun n h0 h1 => (kword n (by omega) (by omega)).trans (hword n h0 h1), raiseAt_sets _ _ _ (by decide)⟩

theorem prvClear_clears (s : State) (ini : Initiator) (hrun : Runs s.dev) (hw : Writable s.dev ini (pg .prv .east) 0x040) :
    Completes (.prvClear ini) s (fun h =>
      h.arc.recs = [] ∧ h.arc.circ = [(0, s.dev.arc.nextSeq)] ∧ h.arc.circNext = 1 ∧ h.arc.nextSeq = (s.dev.arc.nextSeq + 1) % 2 ^ 32 ∧
        fget h .east PRV_NEWEST_SEQ = s.dev.arc.nextSeq % 2 ^ 32 ∧ fget h .east PRV_OLDEST_SEQ = s.dev.arc.nextSeq % 2 ^ 32 ∧
        (∀ n, 0x2802 ≤ n → n < 0x4880 → arcWord h n = erasedWord) ∧ EventSet h .east Ev.PRV_CLEARED ∧ h.mem = s.dev.mem ∧
        h.keys = s.dev.keys) := by
  have hf := frame_prvClearEffect (reply s.dev false)
  obtain ⟨hrecs, hcirc, hnext, hseq, hnew, hold, hwords, hev⟩ := prvClearEffect_clears (reply s.dev false)
  exact completes_of_eq (exec_prvClear ini) hrun (withWrite_ok s.dev ini _ _ _ hw)
    ⟨hrecs, hcirc, hnext, hseq, hnew, hold, hwords, hev, hf.1 .mem (by decide), hf.1 .keys (by decide)⟩

/-- Settles O54, clause by clause: an occurrence takes one of the recorder's three branches, a record is programmed and then the Archive's
next operation starts, and an hour and a clear program their words. -/
theorem recorderKeepsItsOrder : Obligations.RecorderKeepsItsOrder := by
  unfold Obligations.RecorderKeepsItsOrder
  exact ⟨fun s ev w hrun _ => prvRecord_records s ev w hrun,
    fun s ev w r hrun _ => prvRecord_repeats s ev w r hrun,
    fun s ev w hrun _ => prvRecord_loses s ev w hrun,
    recWrite_records,
    recordHoldExpiry_ends,
    fun s r l hrun hrecs hh hop hstop hp hl => recordProgram_permanent s r l hrun hrecs hh hop hstop hp hl,
    fun s r l c hrun hrecs hh hop hstop hp hc _ => recordProgram_circulating s r l c hrun hrecs hh hop hstop hp hc,
    recordProgram_stops,
    fun s hrun _ => hourTick_counts s hrun,
    prvClear_clears⟩

end Sys2Proof.Laws
end

section
/-! The Archive's queue and operations (R431 to R438), and O53. -/

namespace Sys2Proof.Laws

open Machine Machine.Reg

/-! ### Descriptors answered -/

theorem arcQueue_words {a b : ArcState} (x : ArcQueue a b) : b.words = a.words := by
  rw [x]

theorem arcQueue_sectors {a b : ArcState} (x : ArcQueue a b) : b.sectors = a.sectors := by
  rw [x]

/-- Two heads agree on the Archive's completion queue. -/
structure SameArcCq (g k : Head) : Prop where
  sram : k.sram = g.sram
  held : k.arc.held = g.arc.held
  entries : k.arc.entries = g.arc.entries
  base : fget k .east ARC_CQ_BASE_OFFSET = fget g .east ARC_CQ_BASE_OFFSET
  tail : fget k .east ARC_CQ_PTR_TAIL = fget g .east ARC_CQ_PTR_TAIL
  head : fget k .east ARC_CQ_PTR_HEAD = fget g .east ARC_CQ_PTR_HEAD

theorem SameArcCq.of_frame {l : List Part} {t : List (Block × Nat)} {g k : Head} (x : Frame l t g k) (hs : Part.sram ∉ l)
    (h0 : (Block.arc, 0x048) ∉ t) (h1 : (Block.arc, 0x04C) ∉ t) (hh : k.arc.held = g.arc.held) (he : k.arc.entries = g.arc.entries) : SameArcCq g k :=
  ⟨x.1 .sram hs, hh, he, x.fget .east ARC_CQ_BASE_OFFSET h0 (by decide) 0 0, x.fget .east ARC_CQ_PTR_TAIL h1 (by decide) 0 0,
    x.fget .east ARC_CQ_PTR_HEAD h1 (by decide) 0 0⟩

theorem SameArcCq.room {g k : Head} (x : SameArcCq g k) : arcRoom k = arcRoom g := by
  unfold arcRoom
  rw [x.tail, x.head]

theorem arcAnswers_congr {g g' h h' : Head} {tag : Nat} {quiet : Bool} {st : Status} {bytes word : Nat} (a : ArcAnswers g h tag quiet st bytes word)
    (x : SameArcCq g g') (y : SameArcCq h h') : ArcAnswers g' h' tag quiet st bytes word where
  silent hq hs := by
    rw [y.sram, y.held, x.sram, x.held]
    exact a.silent hq hs
  written hn hh hr := by
    rw [y.sram, y.held, y.tail, x.sram, x.base, x.tail, x.entries]
    exact a.written hn (x.held ▸ hh) (x.room ▸ hr)
  waits hn hh := by
    rw [y.sram, y.held, x.sram, x.held]
    exact a.waits hn (by rwa [x.held, x.room] at hh)

theorem sameArcCq_refl (h : Head) : SameArcCq h h := ⟨rfl, rfl, rfl, rfl, rfl, rfl⟩

theorem arcComplete_answers (h : Head) (tag : Nat) (quiet : Bool) (st : Status) (bytes word : Nat) :
    ArcAnswers h (arcComplete h tag quiet st bytes word) tag quiet st bytes word where
  silent hq hs := by
    rw [arcComplete, if_pos ⟨hq, hs⟩]
    exact ⟨rfl, rfl⟩
  written hn hh hr := by
    rw [arcComplete, if_neg hn]
    dsimp only
    rw [if_pos ⟨hh, hr⟩]
    refine ⟨rfl, hh, ?_⟩
    simp only [arcWriteEntry, fget_eq_bget, fset_regs]
    simp (disch := decide) [ARC_CQ_PTR_TAIL]
  waits hn hh := by
    rw [arcComplete, if_neg hn]
    dsimp only
    rw [if_neg (by simpa [or_iff_not_imp_left] using hh)]
    exact ⟨rfl, rfl⟩

theorem sameArcCq_arcTake (h : Head) : SameArcCq h (arcTake h) :=
  .of_frame (frame_arcTake h) (by decide) (by decide) (by decide) rfl rfl

theorem arcAnswer_answers (h : Head) (d : Desc) (st : Status) (bytes word : Nat) :
    ArcAnswers h (arcAnswer h d st bytes word) (dTag d) (dQuiet d) st bytes word :=
  have x := sameArcCq_arcTake h
  arcAnswers_congr (arcComplete_answers (arcTake h) (dTag d) (dQuiet d) st bytes word)
    ⟨x.sram.symm, x.held.symm, x.entries.symm, x.base.symm, x.tail.symm, x.head.symm⟩ (sameArcCq_refl _)

theorem head_arcTake (h : Head) : fget (arcTake h) .east ARC_QUEUE_PTR_HEAD = (fget h .east ARC_QUEUE_PTR_HEAD + 1) % 64 := by
  simp only [arcTake, fget_eq_bget, fset_regs]
  simp (disch := decide) [ARC_QUEUE_PTR_HEAD]

theorem tail_arcTake (h : Head) : fget (arcTake h) .east ARC_QUEUE_PTR_TAIL = fget h .east ARC_QUEUE_PTR_TAIL := by
  simp only [arcTake, fget_eq_bget, fset_regs]
  simp (disch := decide) [ARC_QUEUE_PTR_HEAD, ARC_QUEUE_PTR_TAIL]

theorem pointers_arcAnswer (h : Head) (d : Desc) (st : Status) (bytes word : Nat) :
    fget (arcAnswer h d st bytes word) .east ARC_QUEUE_PTR_HEAD = (fget h .east ARC_QUEUE_PTR_HEAD + 1) % 64 ∧
      fget (arcAnswer h d st bytes word) .east ARC_QUEUE_PTR_TAIL = fget h .east ARC_QUEUE_PTR_TAIL := by
  have hf := frame_arcComplete (arcTake h) (dTag d) (dQuiet d) st bytes word
  exact ⟨(hf.fget .east ARC_QUEUE_PTR_HEAD (by decide) (by decide) 0 0).trans (head_arcTake h),
    (hf.fget .east ARC_QUEUE_PTR_TAIL (by decide) (by decide) 0 0).trans (tail_arcTake h)⟩

theorem arcTurn_some {h : Head} {op : Nat} {d : Desc} (ht : arcTurn h op = some d) : arcReady h = true ∧ arcHead? h = some d ∧ dOpcode d = op := by
  unfold arcTurn at ht
  cases hr : arcReady h with
  | false => simp [hr] at ht
  | true =>
    cases hh : arcHead? h with
    | none => simp [hr, hh] at ht
    | some x =>
      simp only [hr, hh, Bool.not_true, Bool.false_eq_true, if_false, Option.bind_some] at ht
      split at ht
      next hop =>
        cases ht
        exact ⟨rfl, rfl, hop⟩
      next => cases ht

theorem arcOp_of_ready {h : Head} (hr : arcReady h = true) : h.arc.op = none ∧ running h (pg .arc .east) = true := by
  simpa [arcReady] using hr

/-! ### Reads -/

/-- The bytes of a read where its descriptor asks for them. -/
def readPlaced (h : Head) (d : Desc) : Head :=
  if acAddr d + acLen d ≤ 2 ^ 19 then { h with sram := memPut h.sram (acAddr d) (acLen d) (arcBytes h (acOffset d) (acLen d)) }
  else memWrite h (acAddr d) (acLen d) (arcBytes h (acOffset d) (acLen d))

theorem arcRead_reads (s : State) (d : Desc) (hrun : Runs s.dev) (ht : arcTurn s.dev 1 = some d) (hs : dSystem d = true) (h0 : acLen d ≠ 0)
    (hl : acLen d ≤ 2 ^ 20) (ho : acOffset d + acLen d ≤ 2 ^ 28) (hm : arcMemory s.dev (acAddr d) (acLen d) = true)
    (hx : inXo s.dev (acOffset d) (acLen d) = false) :
    Completes .arcRead s (fun h => ∃ g : Head,
      (acAddr d + acLen d ≤ 2 ^ 19 →
        g = { s.dev with sram := memPut s.dev.sram (acAddr d) (acLen d) (arcBytes s.dev (acOffset d) (acLen d)) }) ∧
      (2 ^ 19 < acAddr d + acLen d → g = memWrite s.dev (acAddr d) (acLen d) (arcBytes s.dev (acOffset d) (acLen d))) ∧
        ArcAnswers g h (dTag d) (dQuiet d) .done (acLen d) 0 ∧ h.mem = g.mem ∧
        fget h .east ARC_QUEUE_PTR_HEAD = (fget s.dev .east ARC_QUEUE_PTR_HEAD + 1) % 64 ∧
        RegsBut s.dev h [(.arc, 0x044), (.arc, 0x04C)] ∧ h.arc.words = s.dev.arc.words) := by
  have heq : arcRead s.dev = arcAnswer (readPlaced s.dev d) d .done (acLen d) 0 := by
    unfold arcRead
    rw [ht]
    dsimp only
    rw [hs, if_neg (by decide), if_neg (by simp [h0, hm]; omega), hx, if_neg (by decide)]
    rfl
  have hp : Frame [.sram, .mem, .poison] [] s.dev (readPlaced s.dev d) := by
    simp +decide only [readPlaced, frame_ite, (frame_memWrite ..).iff, frame_mk, true_or, or_true, and_self, frame_refl, ite_self]
  have ha := frame_arcAnswer (readPlaced s.dev d) d .done (acLen d) 0
  have hwords := arcQueue_arcAnswer (readPlaced s.dev d) d .done (acLen d) 0
  refine completes_of_eq exec_arcRead hrun heq ⟨readPlaced s.dev d, fun hc => if_pos hc, fun hc => if_neg (by omega),
    arcAnswer_answers _ d .done (acLen d) 0, ha.1 .mem (by decide), ?_, ?_, ?_⟩
  · rw [(pointers_arcAnswer _ d .done (acLen d) 0).1, hp.fget .east ARC_QUEUE_PTR_HEAD (by decide) (by decide)]
  · exact regsBut_trans (regsBut_mono hp.2 (by decide)) ha.2
  · exact (arcQueue_words hwords).trans (congrArg ArcState.words (show (readPlaced s.dev d).arc = s.dev.arc from hp.1 .arc (by decide)))

theorem sectorState_answers (s : State) (d : Desc) (hrun : Runs s.dev) (ht : arcTurn s.dev 5 = some d) (hs : dSystem d = true) (h0 : acLen d = 0) :
    Completes .sectorState s (fun h =>
      ArcAnswers s.dev h (dTag d) (dQuiet d) .done 0 (sectorState s.dev (acOffset d / 4096)) ∧
        fget h .east ARC_QUEUE_PTR_HEAD = (fget s.dev .east ARC_QUEUE_PTR_HEAD + 1) % 64 ∧
        RegsBut s.dev h [(.arc, 0x044), (.arc, 0x04C)] ∧ h.mem = s.dev.mem ∧ h.arc.words = s.dev.arc.words) := by
  have heq : arcSectorState s.dev = arcAnswer s.dev d .done 0 (sectorState s.dev (acOffset d / 4096)) := by
    unfold arcSectorState
    rw [ht]
    dsimp only
    rw [hs, if_neg (by decide), if_neg (by simp [h0])]
  have ha := frame_arcAnswer s.dev d .done 0 (sectorState s.dev (acOffset d / 4096))
  exact completes_of_eq exec_sectorState hrun heq ⟨arcAnswer_answers .., (pointers_arcAnswer ..).1, ha.2, ha.1 .mem (by decide),
    arcQueue_words (arcQueue_arcAnswer ..)⟩

/-! ### Operations started and refused -/

theorem arcOperate_asked (h : Head) (op : Nat) (d : Desc) (hd : recordDue h = false) (hp : fbit h .east ARC_STATUS_STOP = false)
    (hs : dSystem d = true) (ht : arcTurn h op = some d) : arcOperate h op = match arcAsked h d with
      | some o => arcStart (arcTake h) o
      | none => arcAnswer h d .protocol 0 0 := by
  unfold arcOperate
  rw [ht]
  simp only [hd, arcIdle, (arcTurn_some ht).1, hp, hs]
  rfl

theorem arcAsked_names {h : Head} {d : Desc} {o : ArcOp} (ha : arcAsked h d = some o) : o.job = .queue (dTag d) (dQuiet d) ∧ o.offset = acOffset d := by
  unfold arcAsked at ha
  grind

theorem arcStart_taken (h : Head) (o : ArcOp) (ho : o.offset < 2 ^ 28) : let g := arcStart (arcTake h) o
    g.arc = { h.arc with op := some o } ∧ fget g .east ARC_STATUS_BUSY = 1 ∧ fget g .east ARC_STATUS_OFFSET = o.offset ∧
      fget g .east ARC_QUEUE_PTR_HEAD = (fget h .east ARC_QUEUE_PTR_HEAD + 1) % 64 ∧ Frame [.arc] [(.arc, 0x044), (.arc, 0x054)] h g := by
  refine ⟨rfl, ?_, ?_, ?_, ?_⟩
  · simp only [arcStart, fget_eq_bget, fset_regs]
    simp (disch := decide) [ARC_STATUS_BUSY, ARC_STATUS_OFFSET]
  · simp only [arcStart, fget_eq_bget, fset_regs]
    simp (disch := decide) [ARC_STATUS_OFFSET]
    exact ho
  · exact ((frame_arcStart (arcTake h) o).fget .east ARC_QUEUE_PTR_HEAD (by decide) (by decide) 0 0).trans (head_arcTake h)
  · simp +decide only [(frame_arcStart ..).iff, (frame_arcTake ..).iff, frame_refl]

theorem arcOperate_starts (s : State) (c : Instr) (n : Nat) (hc : exec c = lift (fun h => arcOperate h n)) (d : Desc) (o : ArcOp) (hrun : Runs s.dev)
    (hd : recordDue s.dev = false) (hp : fbit s.dev .east ARC_STATUS_STOP = false) (hs : dSystem d = true) (ha : arcAsked s.dev d = some o)
    (ht : arcTurn s.dev n = some d) :
    Completes c s (fun h =>
      o.job = .queue (dTag d) (dQuiet d) ∧ o.offset = acOffset d ∧ h.arc = { s.dev.arc with op := some o } ∧
        fget h .east ARC_STATUS_BUSY = 1 ∧ fget h .east ARC_STATUS_OFFSET = acOffset d ∧
        fget h .east ARC_QUEUE_PTR_HEAD = (fget s.dev .east ARC_QUEUE_PTR_HEAD + 1) % 64 ∧
        RegsBut s.dev h [(.arc, 0x044), (.arc, 0x054)] ∧ SameButRegs { s.dev with arc := h.arc } h) := by
  have heq := arcOperate_asked s.dev n d hd hp hs ht
  rw [ha] at heq
  obtain ⟨hjob, hoff⟩ := arcAsked_names ha
  have hlt : o.offset < 2 ^ 28 := hoff.trans_lt (Nat.mod_lt _ (by decide))
  obtain ⟨harc, hbusy, hofs, hhead, hf⟩ := arcStart_taken s.dev o hlt
  exact completes_of_eq hc hrun heq ⟨hjob, hoff, harc, hbusy, hofs.trans hoff, hhead, hf.2, rfl⟩

theorem arcOperate_refuses (s : State) (c : Instr) (n : Nat) (hc : exec c = lift (fun h => arcOperate h n)) (d : Desc) (hrun : Runs s.dev)
    (hd : recordDue s.dev = false) (hp : fbit s.dev .east ARC_STATUS_STOP = false) (hs : dSystem d = true) (ha : arcAsked s.dev d = none)
    (ht : arcTurn s.dev n = some d) :
    Completes c s (fun h =>
      ArcAnswers s.dev h (dTag d) (dQuiet d) .protocol 0 0 ∧ h.arc.op = none ∧ h.arc.words = s.dev.arc.words ∧
        h.arc.sectors = s.dev.arc.sectors ∧ h.mem = s.dev.mem ∧ RegsBut s.dev h [(.arc, 0x044), (.arc, 0x04C)]) := by
  have heq := arcOperate_asked s.dev n d hd hp hs ht
  rw [ha] at heq
  have hq := arcQueue_arcAnswer s.dev d .protocol 0 0
  have hf := frame_arcAnswer s.dev d .protocol 0 0
  have hop : (arcAnswer s.dev d .protocol 0 0).arc.op = none :=
    (arcOp_arcComplete (arcTake s.dev) _ _ _ _ _).trans (arcOp_of_ready (arcTurn_some ht).1).1
  exact completes_of_eq hc hrun heq ⟨arcAnswer_answers .., hop, arcQueue_words hq, arcQueue_sectors hq, hf.1 .mem (by decide), hf.2⟩

/-! ### What operations leave -/

/-- The Archive's state but its array. -/
def arcRest (h : Head) : ArcState := { h.arc with words := [], sectors := [] }

/-- The Archive's state but what its queue and the update engine change. -/
def arcStore (h : Head) : ArcState := { h.arc with op := none, entries := 0, held := [], upd := none }

theorem arcRest_arcApply (h : Head) (o : ArcOp) (short : Option Nat) : arcRest (arcApply h o short) = arcRest h := by
  have hw (g : Head) (l : List (Nat × Nat)) (n : Nat) : arcRest (foldHead g l (fun h e => programWord h (n + e.2) e.1)) = arcRest g :=
    (foldHead_frame arcRest (f := fun h (e : Nat × Nat) => programWord h (n + e.2) e.1) (fun _ _ => rfl) l g :)
  have he (g : Head) (l : List Nat) (n : Nat) : arcRest (foldHead g l (fun h i => eraseSector h (n + i))) = arcRest g :=
    (foldHead_frame arcRest (f := fun h i => eraseSector h (n + i)) (fun _ _ => rfl) l g :)
  have hs (g : Head) (s : Nat) : arcRest (halfSector g s) = arcRest g := by
    unfold halfSector
    refine (foldHead_frame arcRest ?_ _ _).trans ?_
    · exact fun _ _ => rfl
    · rfl
  have hh (g : Head) (n v : Nat) : arcRest (halfWord g n v) = arcRest g := rfl
  unfold arcApply
  split
  · dsimp only
    split
    · rw [hh, hw]
    · rw [hw]
  · dsimp only
    split
    · rw [hs, he]
    · rw [he]
  · rfl

theorem arcStore_of_queue {h g : Head} (x : ArcQueue h.arc g.arc) : arcStore g = arcStore h := by
  unfold arcStore
  rw [x]

theorem arcStore_arcComplete (h : Head) (tag : Nat) (quiet : Bool) (st : Status) (bytes word : Nat) :
    arcStore (arcComplete h tag quiet st bytes word) = arcStore h := arcStore_of_queue (arcQueue_arcComplete h tag quiet st bytes word)

theorem arc_updEnd (h : Head) (u : UpdWrite) (st : Status) : (updEnd h u st).arc = { h.arc with upd := none } := by
  have hr (g : Head) : (updReply g st).arc = g.arc := (frame_updReply g st).1 .arc (by decide)
  have hb (g : Head) : (if u.request = true then updReply g st else g).arc = g.arc := by
    split
    · exact hr g
    · rfl
  unfold updEnd
  dsimp only
  split <;> simp only [raise_arc, hb, fset_arc]

theorem arcStore_updEnd (h : Head) (u : UpdWrite) (st : Status) : arcStore (updEnd h u st) = arcStore h := by
  unfold arcStore
  rw [arc_updEnd]

theorem arcStore_arcReport (h : Head) (o : ArcOp) (st : Status) (bytes word : Nat) : arcStore (arcReport h o st bytes word) = arcStore h := by
  unfold arcReport
  split
  · exact arcStore_arcComplete _ _ _ _ _ _
  · split
    · rfl
    · split
      · exact arcStore_updEnd _ _ _
      · split
        · rfl
        · exact arcStore_updEnd _ _ _

theorem arcStore_arcNext (h : Head) : arcStore (arcNext h) = arcStore h := by
  have hs := arcStore_of_queue (arcSkip_keeps 64 h).2
  unfold arcNext
  split
  · rfl
  dsimp only
  split
  · split
    · split
      · exact (arcStore_of_queue (arcQueue_arcStart _ _)).trans hs
      · exact hs
    · exact hs
  · unfold updGo
    split
    · exact hs
    · dsimp only
      split
      · exact (arcStore_updEnd _ _ _).trans hs
      · exact (arcStore_of_queue (arcQueue_arcStart _ _)).trans hs

theorem arcWord_programs_outside (l : List Nat) (base : Nat) : ∀ (k : Nat) (h : Head) (n : Nat), n < base + k ∨ base + k + l.length ≤ n →
    arcWord (foldHead h (l.zipIdx k) (fun h e => programWord h (base + e.2) e.1)) n = arcWord h n := by
  induction l with
  | nil => exact fun _ _ _ _ => rfl
  | cons x l ih =>
    intro k h n hn
    rw [List.length_cons] at hn
    exact (ih (k + 1) (programWord h (base + k) x) n (by omega)).trans (arcWord_programWord_other _ _ _ _ (by omega))

theorem arcWord_programs_inside (l : List Nat) (base : Nat) : ∀ (k : Nat) (h : Head) (i v : Nat), l[i]? = some v →
    arcWord (foldHead h (l.zipIdx k) (fun h e => programWord h (base + e.2) e.1)) (base + k + i) = (arcWord h (base + k + i) &&& v) % 2 ^ 256 := by
  induction l with
  | nil => exact fun _ _ _ _ hv => nomatch hv
  | cons x l ih =>
    intro k h i v hv
    cases i with
    | zero =>
      cases hv
      exact (arcWord_programs_outside l base (k + 1) (programWord h (base + k) x) _ (by omega)).trans (arcWord_programWord_same _ _ _)
    | succ i =>
      have hi : base + k + (i + 1) = base + (k + 1) + i := by omega
      rw [hi]
      exact (ih (k + 1) (programWord h (base + k) x) i v hv).trans (by rw [arcWord_programWord_other _ _ _ _ (by omega)])

/-- The words that an operation has verified, and those outside it. -/
theorem arcWord_arcApply_program (h : Head) (o : ArcOp) (ws : List Nat) (short : Option Nat) (hw : o.work = .program ws) :
    (∀ i v : Nat, i < short.getD ws.length → ws[i]? = some v →
      arcWord (arcApply h o short) (o.offset / 32 + i) = (arcWord h (o.offset / 32 + i) &&& v) % 2 ^ 256) ∧
      (∀ n, n < o.offset / 32 ∨ o.offset / 32 + ws.length ≤ n → arcWord (arcApply h o short) n = arcWord h n) := by
  unfold arcApply
  rw [hw]
  dsimp only
  generalize short.getD ws.length = m
  have hin (i v : Nat) (hi : i < m) (hv : ws[i]? = some v) :=
    arcWord_programs_inside (ws.take m) (o.offset / 32) 0 h i v (by rw [List.getElem?_take, if_pos hi, hv])
  have hout (n : Nat) (hn : n < o.offset / 32 ∨ o.offset / 32 + ws.length ≤ n) :=
    arcWord_programs_outside (ws.take m) (o.offset / 32) 0 h n (by rw [List.length_take]; omega)
  split
  next v hv =>
    have hm : m < ws.length := (List.getElem?_eq_some_iff.1 hv).1
    exact ⟨fun i v hi hv => (arcWord_halfWord_other _ _ _ _ (by omega)).trans (hin i v hi hv),
      fun n hn => (arcWord_halfWord_other _ _ _ _ (by omega)).trans (hout n hn)⟩
  next => exact ⟨hin, hout⟩

theorem sectors_arcApply_program (h : Head) (o : ArcOp) (ws : List Nat) (hw : o.work = .program ws) :
    (arcApply h o none).arc.sectors = h.arc.sectors := by
  have hf (g : Head) (l : List (Nat × Nat)) (n : Nat) : (foldHead g l (fun h e => programWord h (n + e.2) e.1)).arc.sectors = g.arc.sectors :=
    (foldHead_frame (fun g : Head => g.arc.sectors) (f := fun h (e : Nat × Nat) => programWord h (n + e.2) e.1) (fun _ _ => rfl) l g :)
  unfold arcApply
  rw [hw]
  dsimp only
  split
  · exact hf _ _ _
  · exact hf _ _ _

theorem arcApply_erase (h : Head) (o : ArcOp) (k : Nat) (hw : o.work = .erase k) :
    arcApply h o none = sectorsErased h (o.offset / 4096) (List.range k) := by
  unfold arcApply
  rw [hw]
  dsimp only
  rw [Option.getD_none, Nat.min_self, if_neg (Nat.lt_irrefl k)]
  rfl

theorem arcApply_close (h : Head) (o : ArcOp) (hw : o.work = .close) : arcApply h o none = setSector (fresh h).2 (o.offset / 4096) 2 := by
  unfold arcApply
  rw [hw]

/-! ### Ends of operations -/

/-- The array and the slots as an operation's end leaves them, before anyone is told. -/
def operationApplied (h : Head) (o : ArcOp) (short : Option Nat) : Head := syncSlots (arcApply (arcClear h) o short)

/-- An operation ended well, before the next is taken. -/
def operationEnded (h : Head) (o : ArcOp) (pulses : Nat) : Head :=
  arcReport (operationApplied h o none) o .done (arcDone o none) (min pulses (pulseLimit (operationApplied h o none) o.work))

/-- An operation whose pulse did not verify, before the next is taken. -/
def operationFailed (h : Head) (o : ArcOp) (i : Nat) : Head :=
  arcReport (arcFail (operationApplied h o (some i)) (isErase o.work) (arcAt o i)) o .mediaFail (arcDone o (some i)) (arcAt o i)

theorem arcOperationEnd_well (h : Head) (e : PulseEnd) (o : ArcOp) (ho : h.arc.op = some o) (hp : fbit h .east ARC_STATUS_STOP = false)
    (he : e.fails = none) : arcOperationEnd h e = arcNext (operationEnded h o e.pulses) := by
  unfold arcOperationEnd
  rw [ho]
  dsimp only
  rw [hp, if_neg (by decide), he]
  rfl

theorem arcOperationEnd_short (h : Head) (e : PulseEnd) (o : ArcOp) (ws : List Nat) (i : Nat) (ho : h.arc.op = some o)
    (hp : fbit h .east ARC_STATUS_STOP = false) (hw : o.work = .program ws) (he : e.fails = some i) (hi : i < ws.length) :
    arcOperationEnd h e = arcNext (operationFailed h o i) := by
  obtain ⟨job, offset, work⟩ := o
  subst hw
  unfold arcOperationEnd
  rw [ho]
  dsimp only
  rw [hp, if_neg (by decide), he, Option.bind_some, if_pos hi]
  rfl

theorem frame_operationApplied (h : Head) (o : ArcOp) (short : Option Nat) : Frame [.arc, .freeCtr]
    [(.arc, 0x044), (.arc, 0x054), (.arc, 0x068), (.arc, 0x06C), (.upd, 0x054)] h (operationApplied h o short) := by
  simp +decide only [operationApplied, (frame_syncSlots ..).iff, (frame_arcApply ..).iff, (frame_arcClear ..).iff, frame_refl]

theorem arcRest_operationApplied (h : Head) (o : ArcOp) (short : Option Nat) :
    arcRest (operationApplied h o short) = { arcRest h with op := none } := (arcRest_arcApply (arcClear h) o short).trans rfl

theorem sameArcCq_operationApplied (h : Head) (o : ArcOp) (short : Option Nat) : SameArcCq (operationApplied h o short) h := by
  have ha := arcRest_operationApplied h o short
  exact .of_frame (frame_operationApplied h o short).symm (by decide) (by decide) (by decide)
    (show h.arc.held = (arcRest (operationApplied h o short)).held by rw [ha]; rfl)
    (show h.arc.entries = (arcRest (operationApplied h o short)).entries by rw [ha]; rfl)

theorem pulseLimit_operationApplied (h : Head) (o : ArcOp) (short : Option Nat) (w : ArcWork) : pulseLimit (operationApplied h o short) w =
    if isErase w then fget h .east ARC_PULSE_ERASE_MAX else fget h .east ARC_PULSE_PROG_MAX := by
  have hf := frame_operationApplied h o short
  rw [pulseLimit, hf.fget .east ARC_PULSE_ERASE_MAX (by decide) (by decide), hf.fget .east ARC_PULSE_PROG_MAX (by decide) (by decide)]

theorem arcWord_operationApplied (h : Head) (o : ArcOp) (short : Option Nat) (n : Nat) :
    arcWord (operationApplied h o short) n = arcWord (arcApply (arcClear h) o short) n := rfl

theorem sectorState_operationApplied (h : Head) (o : ArcOp) (short : Option Nat) (n : Nat) :
    sectorState (operationApplied h o short) n = sectorState (arcApply (arcClear h) o short) n := rfl

theorem arcWord_arcClear (h : Head) (n : Nat) : arcWord (arcClear h) n = arcWord h n := rfl

theorem operationApplied_program (h : Head) (o : ArcOp) (ws : List Nat) (short : Option Nat) (hw : o.work = .program ws) :
    (∀ i v : Nat, i < short.getD ws.length → ws[i]? = some v →
      arcWord (operationApplied h o short) (o.offset / 32 + i) = (arcWord h (o.offset / 32 + i) &&& v) % 2 ^ 256) ∧
      (∀ n, n < o.offset / 32 ∨ o.offset / 32 + ws.length ≤ n → arcWord (operationApplied h o short) n = arcWord h n) := by
  obtain ⟨hin, hout⟩ := arcWord_arcApply_program (arcClear h) o ws short hw
  simp only [arcWord_operationApplied]
  exact ⟨hin, hout⟩

theorem operationApplied_erase (h : Head) (o : ArcOp) (k : Nat) (hw : o.work = .erase k) :
    (∀ i, i < k → sectorState (operationApplied h o none) (o.offset / 4096 + i) = 1) ∧
      (∀ n, o.offset / 4096 ≤ n / 128 → n / 128 < o.offset / 4096 + k → arcWord (operationApplied h o none) n = erasedWord) ∧
      (∀ n, n / 128 < o.offset / 4096 ∨ o.offset / 4096 + k ≤ n / 128 → arcWord (operationApplied h o none) n = arcWord h n) := by
  simp only [arcWord_operationApplied, sectorState_operationApplied, arcApply_erase (arcClear h) o k hw, arcWord_sectorsErased, sectorState_sectorsErased,
    arcWord_arcClear]
  exact ⟨fun i hi => if_pos (by omega), fun n h0 h1 => if_pos ⟨h0, h1⟩, fun n hn => if_neg (by omega)⟩

theorem operationApplied_close (h : Head) (o : ArcOp) (hw : o.work = .close) :
    sectorState (operationApplied h o none) (o.offset / 4096) = 2 ∧ (operationApplied h o none).arc.words = h.arc.words := by
  have harc : (operationApplied h o none).arc = (setSector (fresh (arcClear h)).2 (o.offset / 4096) 2).arc := by
    rw [← arcApply_close (arcClear h) o hw]
    rfl
  rw [sectorState_operationApplied, arcApply_close (arcClear h) o hw, sectorState_setSector, harc]
  exact ⟨if_pos rfl, rfl⟩

theorem sectors_operationApplied (h : Head) (o : ArcOp) (ws : List Nat) (hw : o.work = .program ws) :
    (operationApplied h o none).arc.sectors = h.arc.sectors := sectors_arcApply_program (arcClear h) o ws hw

theorem arcReport_queue (h : Head) (o : ArcOp) (st : Status) (bytes word tag : Nat) (quiet : Bool) (hj : o.job = .queue tag quiet) :
    arcReport h o st bytes word = arcComplete h tag quiet st bytes word := by
  unfold arcReport
  rw [hj]

theorem arcReport_upd (h : Head) (o : ArcOp) (bytes word : Nat) (u : UpdWrite) (hj : o.job = .upd) (hu : h.arc.upd = some u) :
    arcReport h o .done bytes word = match updNext u with
      | some v => fset { h with arc := { h.arc with upd := some v } } .east UPD_STATUS_SECTORS_LEFT (min (updLeft v) 65535)
      | none => updEnd h u .done := by
  unfold arcReport
  rw [hj, hu]
  rfl

theorem updEnd_done (h : Head) (u : UpdWrite) : (updEnd h u .done).arc.upd = none ∧ EventSet (updEnd h u .done) .east Ev.UPD_WRITE_DONE ∧
    fget (updEnd h u .done) .east UPD_STATUS_BUSY = 0 := by
  refine ⟨by rw [arc_updEnd], raiseAt_sets _ _ _ (by decide), ?_⟩
  unfold updEnd
  dsimp only
  have hb (g : Head) : fget (if u.request = true then updReply g .done else g) .east UPD_STATUS_BUSY = fget g .east UPD_STATUS_BUSY := by
    split <;> rfl
  rw [(frame_raise _ .east 0 Ev.UPD_WRITE_DONE).fget .east UPD_STATUS_BUSY (by decide) (by decide), hb]
  simp only [fget_eq_bget, fset_regs]
  simp (disch := decide) [UPD_STATUS_BUSY, UPD_STATUS_RESULT, UPD_STATUS_SECTORS_LEFT]

theorem arcWord_of_store {h g : Head} (x : arcStore g = arcStore h) (n : Nat) : arcWord g n = arcWord h n :=
  (congrArg (fun a : ArcState => tabGet a.words erasedWord n) x :)

theorem sectorState_of_store {h g : Head} (x : arcStore g = arcStore h) (n : Nat) : sectorState g n = sectorState h n :=
  (congrArg (fun a : ArcState => tabGet a.sectors 1 n) x :)

theorem arcOperationEnd_ends (s : State) (e : PulseEnd) (o : ArcOp) (hrun : Runs s.dev) (ho : s.dev.arc.op = some o)
    (hp : fbit s.dev .east ARC_STATUS_STOP = false) (he : e.fails = none) :
    Completes (.arcOperationEnd e) s (fun h => ∃ g : Head, h = arcNext g ∧ h.arc.words = g.arc.words ∧ h.arc.sectors = g.arc.sectors ∧
      (∀ ws : List Nat, o.work = .program ws →
        (∀ (i v : Nat), ws[i]? = some v →
          arcWord g (o.offset / 32 + i) = (arcWord s.dev (o.offset / 32 + i) &&& v) % 2 ^ 256) ∧
        (∀ n, n < o.offset / 32 ∨ o.offset / 32 + ws.length ≤ n → arcWord g n = arcWord s.dev n) ∧ g.arc.sectors = s.dev.arc.sectors) ∧
      (∀ k : Nat, o.work = .erase k →
        (∀ i, i < k → sectorState g (o.offset / 4096 + i) = 1) ∧
        (∀ n, o.offset / 4096 ≤ n / 128 → n / 128 < o.offset / 4096 + k → arcWord g n = erasedWord) ∧
        (∀ n, n / 128 < o.offset / 4096 ∨ o.offset / 4096 + k ≤ n / 128 → arcWord g n = arcWord s.dev n)) ∧
      (o.work = .close → sectorState g (o.offset / 4096) = 2 ∧ g.arc.words = s.dev.arc.words) ∧
      (∀ (tag : Nat) (quiet : Bool), o.job = .queue tag quiet →
        ArcAnswers s.dev g tag quiet .done (arcDone o none)
          (min e.pulses (if isErase o.work then fget s.dev .east ARC_PULSE_ERASE_MAX else fget s.dev .east ARC_PULSE_PROG_MAX)) ∧
        g.mem = s.dev.mem ∧ g.arc.upd = s.dev.arc.upd ∧
        RegsBut s.dev g [(.arc, 0x044), (.arc, 0x04C), (.arc, 0x054), (.arc, 0x068), (.arc, 0x06C), (.upd, 0x054)]) ∧
      (o.job = .upd → ∀ u, s.dev.arc.upd = some u → (∀ v, updNext u = some v → g.arc.upd = some v) ∧
        (updNext u = none → g.arc.upd = none ∧ EventSet g .east Ev.UPD_WRITE_DONE ∧ fget g .east UPD_STATUS_BUSY = 0)) ∧
      g.keys = s.dev.keys ∧ g.arc.recs = s.dev.arc.recs) := by
  have hf := frame_operationApplied s.dev o none
  have hrest := arcRest_operationApplied s.dev o none
  have hcq := sameArcCq_operationApplied s.dev o none
  have hupd : (operationApplied s.dev o none).arc.upd = s.dev.arc.upd := (congrArg ArcState.upd hrest).trans rfl
  have hrecs : (operationApplied s.dev o none).arc.recs = s.dev.arc.recs := (congrArg ArcState.recs hrest).trans rfl
  have hg : operationEnded s.dev o e.pulses = arcReport (operationApplied s.dev o none) o .done (arcDone o none)
      (min e.pulses (if isErase o.work then fget s.dev .east ARC_PULSE_ERASE_MAX else fget s.dev .east ARC_PULSE_PROG_MAX)) := by
    rw [operationEnded, pulseLimit_operationApplied]
  have hkeep : arcStore (operationEnded s.dev o e.pulses) = arcStore (operationApplied s.dev o none) := arcStore_arcReport _ _ _ _ _
  have hrep : Frame _ _ (operationApplied s.dev o none) (operationEnded s.dev o e.pulses) := frame_arcReport _ _ _ _ _
  have hnext := arcStore_arcNext (operationEnded s.dev o e.pulses)
  refine completes_of_eq (exec_arcOperationEnd e) hrun (arcOperationEnd_well s.dev e o ho hp he) ⟨operationEnded s.dev o e.pulses, rfl,
    (congrArg ArcState.words hnext :), (congrArg ArcState.sectors hnext :), fun ws hw => ?_, fun k hw => ?_, fun hw => ?_, fun tag quiet hj => ?_,
    fun hj u hu => ?_, (hrep.1 .keys (by decide)).trans (hf.1 .keys (by decide)), (congrArg ArcState.recs hkeep : _).trans hrecs⟩
  · obtain ⟨hin, hout⟩ := operationApplied_program s.dev o ws none hw
    exact ⟨fun i v hv => (arcWord_of_store hkeep _).trans (hin i v (List.getElem?_eq_some_iff.1 hv).1 hv), fun n hn => (arcWord_of_store hkeep _).trans (hout n hn),
      (congrArg ArcState.sectors hkeep : _).trans (sectors_operationApplied s.dev o ws hw)⟩
  · obtain ⟨hst, hin, hout⟩ := operationApplied_erase s.dev o k hw
    exact ⟨fun i hi => (sectorState_of_store hkeep _).trans (hst i hi), fun n h0 h1 => (arcWord_of_store hkeep _).trans (hin n h0 h1),
      fun n hn => (arcWord_of_store hkeep _).trans (hout n hn)⟩
  · obtain ⟨hst, hwords⟩ := operationApplied_close s.dev o hw
    exact ⟨(sectorState_of_store hkeep _).trans hst, (congrArg ArcState.words hkeep : _).trans hwords⟩
  · rw [hg, arcReport_queue _ _ _ _ _ _ _ hj]
    have hc := frame_arcComplete (operationApplied s.dev o none) tag quiet .done (arcDone o none)
      (min e.pulses (if isErase o.work then fget s.dev .east ARC_PULSE_ERASE_MAX else fget s.dev .east ARC_PULSE_PROG_MAX))
    refine ⟨arcAnswers_congr (arcComplete_answers _ _ _ _ _ _) hcq (sameArcCq_refl _), (hc.1 .mem (by decide)).trans (hf.1 .mem (by decide)), ?_,
      regsBut_trans (regsBut_mono hf.2 (by decide)) (regsBut_mono hc.2 (by decide))⟩
    rw [arcQueue_arcComplete]
    exact hupd
  · rw [hg, arcReport_upd _ _ _ _ u hj (hupd.trans hu)]
    refine ⟨fun v hv => ?_, fun hn => ?_⟩
    · rw [hv]
      rfl
    · rw [hn]
      exact updEnd_done _ u

/-! ### A pulse that does not verify -/

theorem frame_arcFail (h : Head) (erase : Bool) (a : Nat) : Frame [.evq] [(.arc, 0x010), (.arc, 0x058)] h (arcFail h erase a) := by
  cases erase <;> simp +decide only [arcFail, frame_ite, frame_rules, frame_refl, ite_self]

theorem arc_arcFail (h : Head) (erase : Bool) (a : Nat) : (arcFail h erase a).arc = h.arc := (frame_arcFail h erase a).1 .arc (by decide)

theorem arcFail_event (h : Head) (a : Nat) : EventSet (arcFail h false a) .east Ev.ARC_PROG_FAIL := raiseAt_sets _ _ _ (by decide)

theorem arcFail_captures (h : Head) (a : Nat) (hv : fget h .east ARC_FAIL_VALID = 0) (ha : a < 2 ^ 28) :
    fget (arcFail h false a) .east ARC_FAIL_VALID = 1 ∧ fget (arcFail h false a) .east ARC_FAIL_ERASE = 0 ∧
      fget (arcFail h false a) .east ARC_FAIL_OFFSET = a := by
  have hb : fbit h .east ARC_FAIL_VALID = false := by simp [fbit, hv]
  have heq : arcFail h false a =
      raise (fset (fset (fset h .east ARC_FAIL_VALID 1) .east ARC_FAIL_ERASE 0) .east ARC_FAIL_OFFSET a) .east Ev.ARC_PROG_FAIL := by
    rw [arcFail, hb]
    rfl
  have hr := frame_raise (fset (fset (fset h .east ARC_FAIL_VALID 1) .east ARC_FAIL_ERASE 0) .east ARC_FAIL_OFFSET a) .east 0 Ev.ARC_PROG_FAIL
  rw [heq, hr.fget .east ARC_FAIL_VALID (by decide) (by decide), hr.fget .east ARC_FAIL_ERASE (by decide) (by decide),
    hr.fget .east ARC_FAIL_OFFSET (by decide) (by decide)]
  simp only [fget_eq_bget, fset_regs]
  simp (disch := decide) [ARC_FAIL_VALID, ARC_FAIL_ERASE, ARC_FAIL_OFFSET]
  exact ha

theorem arcOperationEnd_fails (s : State) (e : PulseEnd) (o : ArcOp) (ws : List Nat) (i tag : Nat) (quiet : Bool) (hrun : Runs s.dev)
    (ho : s.dev.arc.op = some o) (hp : fbit s.dev .east ARC_STATUS_STOP = false) (hw : o.work = .program ws) (he : e.fails = some i)
    (hi : i < ws.length) (hj : o.job = .queue tag quiet) (hlt : o.offset + 32 * i < 2 ^ 28) :
    Completes (.arcOperationEnd e) s (fun h => ∃ g : Head, h = arcNext g ∧ h.arc.words = g.arc.words ∧
      EventSet g .east Ev.ARC_PROG_FAIL ∧ ArcAnswers s.dev g tag quiet .mediaFail (32 * i) (o.offset + 32 * i) ∧
        (fget s.dev .east ARC_FAIL_VALID = 0 → fget g .east ARC_FAIL_VALID = 1 ∧ fget g .east ARC_FAIL_ERASE = 0 ∧
          fget g .east ARC_FAIL_OFFSET = o.offset + 32 * i) ∧
        (∀ (j v : Nat), j < i → ws[j]? = some v →
          arcWord g (o.offset / 32 + j) = (arcWord s.dev (o.offset / 32 + j) &&& v) % 2 ^ 256) ∧ g.mem = s.dev.mem) := by
  have hat : arcAt o i = o.offset + 32 * i := by
    unfold arcAt
    rw [hw]
  have hdone : arcDone o (some i) = 32 * i := by
    unfold arcDone
    rw [hw]
    rfl
  have her : isErase o.work = false := by rw [hw]; rfl
  have hg : operationFailed s.dev o i = arcComplete (arcFail (operationApplied s.dev o (some i)) false (o.offset + 32 * i)) tag quiet .mediaFail (32 * i)
      (o.offset + 32 * i) := by
    rw [operationFailed, arcReport_queue _ _ _ _ _ _ _ hj, hat, hdone, her]
  have hend := arcOperationEnd_short s.dev e o ws i ho hp hw he hi
  have hf := frame_operationApplied s.dev o (some i)
  have hcq := sameArcCq_operationApplied s.dev o (some i)
  obtain ⟨hin, -⟩ := operationApplied_program s.dev o ws (some i) hw
  rw [hg] at hend
  generalize operationApplied s.dev o (some i) = k at *
  have hk := frame_arcFail k false (o.offset + 32 * i)
  have hc := frame_arcComplete (arcFail k false (o.offset + 32 * i)) tag quiet .mediaFail (32 * i) (o.offset + 32 * i)
  have hkcq : SameArcCq (arcFail k false (o.offset + 32 * i)) k :=
    .of_frame hk.symm (by decide) (by decide) (by decide) (by rw [arc_arcFail]) (by rw [arc_arcFail])
  refine completes_of_eq (exec_arcOperationEnd e) hrun hend ⟨_, rfl, (congrArg ArcState.words (arcStore_arcNext _) :),
    (hc.eventSet .east Ev.ARC_PROG_FAIL (by decide) 0).2 (arcFail_event k _),
    arcAnswers_congr (arcComplete_answers _ _ _ _ _ _) ⟨hcq.sram.trans hkcq.sram, hcq.held.trans hkcq.held, hcq.entries.trans hkcq.entries,
      hcq.base.trans hkcq.base, hcq.tail.trans hkcq.tail, hcq.head.trans hkcq.head⟩ (sameArcCq_refl _), fun hv => ?_, fun j v hij hv => ?_, ?_⟩
  · rw [hc.fget .east ARC_FAIL_VALID (by decide) (by decide), hc.fget .east ARC_FAIL_ERASE (by decide) (by decide),
      hc.fget .east ARC_FAIL_OFFSET (by decide) (by decide)]
    exact arcFail_captures k _ ((hf.fget .east ARC_FAIL_VALID (by decide) (by decide) 0 0).trans hv) hlt
  · rw [arcWord_of_store (arcStore_arcComplete _ _ _ _ _ _)]
    refine Eq.trans ?_ (hin j v hij hv)
    unfold arcWord
    rw [arc_arcFail]
  · exact (hc.1 .mem (by decide)).trans ((hk.1 .mem (by decide)).trans (hf.1 .mem (by decide)))

/-! ### STOP -/

theorem arcHead_none {h : Head} (hp : fget h .east ARC_QUEUE_PTR_HEAD = fget h .east ARC_QUEUE_PTR_TAIL) : arcHead? h = none := if_pos hp

theorem pointers_lt (h : Head) : fget h .east ARC_QUEUE_PTR_HEAD < 64 ∧ fget h .east ARC_QUEUE_PTR_TAIL < 64 := by
  rw [fget_eq_bget, fget_eq_bget]
  exact ⟨bget_lt .., bget_lt ..⟩

/-- Every descriptor that waits is aborted: each answer brings the head one place nearer to the tail. -/
theorem abortQueue_empties (n : Nat) : ∀ h : Head, (fget h .east ARC_QUEUE_PTR_TAIL + 64 - fget h .east ARC_QUEUE_PTR_HEAD) % 64 ≤ n →
    arcHead? (abortQueue h n) = none := by
  induction n with
  | zero =>
    intro h hn
    obtain ⟨hh, ht⟩ := pointers_lt h
    exact arcHead_none (h := h) (by omega)
  | succ n ih =>
    intro h hn
    unfold abortQueue
    split
    next hnone => exact hnone
    next d hd =>
      obtain ⟨hh, ht⟩ := pointers_lt h
      obtain ⟨hhead, htail⟩ := pointers_arcAnswer h d .aborted 0 0
      have hne : fget h .east ARC_QUEUE_PTR_HEAD ≠ fget h .east ARC_QUEUE_PTR_TAIL := by
        intro heq
        rw [arcHead_none heq] at hd
        cases hd
      refine ih _ ?_
      rw [hhead, htail]
      omega

theorem arcStore_abortQueue (n : Nat) : ∀ h : Head, arcStore (abortQueue h n) = arcStore h := by
  induction n with
  | zero => exact fun _ => rfl
  | succ n ih =>
    intro h
    unfold abortQueue
    split
    · rfl
    · exact (ih _).trans (arcStore_of_queue (arcQueue_arcAnswer _ _ _ _ _))

theorem arcStore_writeStopped (h : Head) : arcStore (writeStopped h) = arcStore h := by
  unfold writeStopped
  split
  · exact arcStore_updEnd _ _ _
  · rfl

theorem upd_writeStopped (h : Head) : (writeStopped h).arc.upd = none := by
  unfold writeStopped
  split
  · rw [arc_updEnd]
  next hn => exact hn

theorem frame_writeStopped (h : Head) : Frame [.arc, .mem, .poison, .evq] [(.upd, 0x010), (.upd, 0x050)] h (writeStopped h) := by
  unfold writeStopped
  split
  · exact frame_updEnd _ _ _
  · exact frame_refl _ _ h

theorem operationStopped_program (h : Head) (verified : Nat) (o : ArcOp) (ws : List Nat) (ho : h.arc.op = some o) (hw : o.work = .program ws)
    (i v : Nat) (hi : i < verified) (hv : ws[i]? = some v) :
    arcWord (operationStopped h verified) (o.offset / 32 + i) = (arcWord h (o.offset / 32 + i) &&& v) % 2 ^ 256 := by
  have hin := (operationApplied_program (fresh h).2 o ws (some verified) hw).1 i v hi hv
  unfold operationStopped
  rw [ho]
  exact (arcWord_of_store (arcStore_arcReport _ _ _ _ _) _).trans hin

theorem recs_operationStopped (h : Head) (verified : Nat) : (operationStopped h verified).arc.recs = h.arc.recs := by
  unfold operationStopped
  split
  · rfl
  next o _ =>
    refine (congrArg ArcState.recs (arcStore_arcReport _ _ _ _ _) :).trans ?_
    exact (congrArg ArcState.recs (arcRest_operationApplied (fresh h).2 o (some verified)) :)

theorem arcStop_stops (s : State) (verified : Nat) (hrun : Runs s.dev) :
    Completes (.arcStop verified) s (fun h =>
      h.arc.op = none ∧ h.arc.upd = none ∧ fget h .east ARC_STATUS_STOPPED = 1 ∧ EventSet h .east Ev.ARC_STOPPED ∧ arcHead? h = none ∧
        (s.dev.arc.op = none → h.arc.words = s.dev.arc.words ∧ h.arc.sectors = s.dev.arc.sectors) ∧
        (∀ (o : ArcOp) (ws : List Nat), s.dev.arc.op = some o → o.work = .program ws → ∀ (i v : Nat), i < verified → ws[i]? = some v →
          arcWord h (o.offset / 32 + i) = (arcWord s.dev (o.offset / 32 + i) &&& v) % 2 ^ 256) ∧
        h.keys = s.dev.keys ∧ h.arc.recs = s.dev.arc.recs) := by
  have hop := arcOp_arcStop s.dev verified
  have hstore : arcStore (writeStopped (abortQueue (operationStopped s.dev verified) 64)) = arcStore (operationStopped s.dev verified) :=
    (arcStore_writeStopped _).trans (arcStore_abortQueue 64 _)
  have hupd := upd_writeStopped (abortQueue (operationStopped s.dev verified) 64)
  have hhead := abortQueue_empties 64 (operationStopped s.dev verified) (Nat.le_of_lt (Nat.mod_lt _ (by decide)))
  have hws := frame_writeStopped (abortQueue (operationStopped s.dev verified) 64)
  have hprog := operationStopped_program s.dev verified
  have hrecs := recs_operationStopped s.dev verified
  have hnone : s.dev.arc.op = none → operationStopped s.dev verified = s.dev := by
    intro hn
    unfold operationStopped
    rw [hn]
  have hkeys := (frame_arcStop s.dev verified).1 .keys (by decide)
  rw [arcStop_eq] at hop hkeys
  refine completes_of_eq (exec_arcStop verified) hrun (arcStop_eq s.dev verified) ?_
  generalize operationStopped s.dev verified = a at *
  generalize abortQueue a 64 = b at *
  generalize writeStopped b = k at *
  have hr := frame_raise (fset k .east ARC_STATUS_STOPPED 1) .east 0 Ev.ARC_STOPPED
  have hs : Frame [.evq] [(.arc, 0x010), (.arc, 0x054)] k (raise (fset k .east ARC_STATUS_STOPPED 1) .east Ev.ARC_STOPPED) := by
    simp +decide only [frame_rules, frame_refl]
  have harc : (raise (fset k .east ARC_STATUS_STOPPED 1) .east Ev.ARC_STOPPED).arc = k.arc := hs.1 .arc (by decide)
  have hstore' : arcStore (raise (fset k .east ARC_STATUS_STOPPED 1) .east Ev.ARC_STOPPED) = arcStore a := by
    rw [← hstore]
    unfold arcStore
    rw [harc]
  refine ⟨hop, (congrArg ArcState.upd harc).trans hupd, ?_, raiseAt_sets _ _ _ (by decide), arcHead_none ?_, fun hn => ?_,
    fun o ws ho hw i v hi hv => (arcWord_of_store hstore' _).trans (hprog o ws ho hw i v hi hv), hkeys, (congrArg ArcState.recs hstore' :).trans hrecs⟩
  · rw [hr.fget .east ARC_STATUS_STOPPED (by decide) (by decide), fget_eq_bget, fset_regs]
    simp (disch := decide) [ARC_STATUS_STOPPED]
  · have hb : fget b .east ARC_QUEUE_PTR_HEAD = fget b .east ARC_QUEUE_PTR_TAIL := by
      by_contra hne
      rw [arcHead?, if_neg hne] at hhead
      cases hhead
    rw [hs.fget .east ARC_QUEUE_PTR_HEAD (by decide) (by decide), hs.fget .east ARC_QUEUE_PTR_TAIL (by decide) (by decide),
      hws.fget .east ARC_QUEUE_PTR_HEAD (by decide) (by decide), hws.fget .east ARC_QUEUE_PTR_TAIL (by decide) (by decide), hb]
  · rw [hnone hn] at hstore'
    exact ⟨(congrArg ArcState.words hstore' :), (congrArg ArcState.sectors hstore' :)⟩

/-! ### Brown-outs -/

theorem brownOutDetect_stops (s : State) (hrun : Runs s.dev) :
    Completes .brownOutDetect s (fun h =>
      fget h .east ARC_STATUS_BOR = 1 ∧ fget h .east ARC_STATUS_STOP = 1 ∧ RegsBut s.dev h [(.arc, 0x054)] ∧ SameButRegs s.dev h) := by
  have hf : Frame [] [(.arc, 0x054)] s.dev (brownOutDetect s.dev) := by
    simp +decide only [brownOutDetect, frame_rules, frame_refl]
  refine completes_lift exec_brownOutDetect hrun ⟨?_, ?_, hf.2, rfl⟩
  all_goals
    simp only [fget_eq_bget, brownOutDetect, fset_regs]
    simp (disch := decide) [ARC_STATUS_BOR, ARC_STATUS_STOP]

/-- STATUS with the brown-out over. -/
def borOver (h : Head) : Head := fset (fset h .east ARC_STATUS_BOR 0) .east ARC_STATUS_STOP (ofBool h.arc.grace)

theorem frame_borOver (h : Head) : Frame [] [(.arc, 0x054)] h (borOver h) := by
  simp +decide only [borOver, frame_rules, frame_refl]

theorem borOver_status (h : Head) : fget (borOver h) .east ARC_STATUS_BOR = 0 ∧ fget (borOver h) .east ARC_STATUS_STOP = ofBool h.arc.grace := by
  simp only [fget_eq_bget, borOver, fset_regs]
  simp (disch := decide) [ARC_STATUS_BOR, ARC_STATUS_STOP]
  cases h.arc.grace <;> decide

theorem status_arcStart (h : Head) (o : ArcOp) : fget (arcStart h o) .east ARC_STATUS_BOR = fget h .east ARC_STATUS_BOR ∧
    fget (arcStart h o) .east ARC_STATUS_STOP = fget h .east ARC_STATUS_STOP := by
  simp only [fget_eq_bget, arcStart, fset_regs]
  simp (disch := decide) [ARC_STATUS_BOR, ARC_STATUS_STOP, ARC_STATUS_BUSY, ARC_STATUS_OFFSET]

theorem status_arcTake (h : Head) : fget (arcTake h) .east ARC_STATUS_BOR = fget h .east ARC_STATUS_BOR ∧
    fget (arcTake h) .east ARC_STATUS_STOP = fget h .east ARC_STATUS_STOP :=
  ⟨(frame_arcTake h).fget .east ARC_STATUS_BOR (by decide) (by decide) 0 0, (frame_arcTake h).fget .east ARC_STATUS_STOP (by decide) (by decide) 0 0⟩

/-- The head at most starts an operation. -/
def ArcStarts (h g : Head) : Prop := g = h ∨ ∃ o, g = arcStart h o ∨ g = arcStart (arcTake h) o

theorem arcSkip_served (h : Head) (n : Nat) (hd : ∀ d, arcHead? h = some d → 1 ≤ dOpcode d ∧ dOpcode d ≤ 5) : arcSkip h n = h := by
  cases n with
  | zero => rfl
  | succ n =>
    unfold arcSkip
    split
    · rfl
    next d hh => rw [if_pos (hd d hh)]

theorem arcNext_starts (h : Head) (hd : ∀ d, arcHead? h = some d → 1 ≤ dOpcode d ∧ dOpcode d ≤ 5)
    (hx : ∀ u, h.arc.upd = some u → inXo h (updStep h u).offset 1 = false) : ArcStarts h (arcNext h) := by
  unfold arcNext
  split
  · exact .inl rfl
  dsimp only
  rw [arcSkip_served h 64 hd]
  split
  · split
    next o _ =>
      split
      · exact .inr ⟨o, .inr rfl⟩
      · exact .inl rfl
    next => exact .inl rfl
  · unfold updGo
    split
    · exact .inl rfl
    next u hu =>
      dsimp only
      rw [hx u hu]
      exact .inr ⟨_, .inl rfl⟩

theorem arcStarts_facts {h g : Head} (x : ArcStarts h g) : Frame [.arc] [(.arc, 0x044), (.arc, 0x054)] h g ∧
    fget g .east ARC_STATUS_BOR = fget h .east ARC_STATUS_BOR ∧ fget g .east ARC_STATUS_STOP = fget h .east ARC_STATUS_STOP ∧
    g.arc = { h.arc with op := g.arc.op } ∧ SameButRegs { h with arc := g.arc } g := by
  obtain rfl | ⟨o, rfl | rfl⟩ := x
  · exact ⟨frame_refl _ _ _, rfl, rfl, rfl, rfl⟩
  · exact ⟨(frame_arcStart h o).mono (by decide) (by decide), (status_arcStart h o).1, (status_arcStart h o).2, rfl, rfl⟩
  · exact ⟨((frame_arcTake h).mono (by decide) (by decide)).trans ((frame_arcStart _ o).mono (by decide) (by decide)),
      (status_arcStart _ o).1.trans (status_arcTake h).1, (status_arcStart _ o).2.trans (status_arcTake h).2, rfl, rfl⟩

theorem borRelease_resumes (s : State) (hrun : Runs s.dev) (hb : fbit s.dev .east ARC_STATUS_BOR = true)
    (hd : ∀ d, arcHead? s.dev = some d → 1 ≤ dOpcode d ∧ dOpcode d ≤ 5)
    (hx : ∀ u, s.dev.arc.upd = some u → inXo s.dev (updStep s.dev u).offset 1 = false) :
    Completes .borRelease s (fun h =>
      fget h .east ARC_STATUS_BOR = 0 ∧ fget h .east ARC_STATUS_STOP = ofBool s.dev.arc.grace ∧
        RegsBut s.dev h [(.arc, 0x044), (.arc, 0x054)] ∧ SameButRegs { s.dev with arc := h.arc } h ∧
        h.arc = { s.dev.arc with op := h.arc.op }) := by
  have heq : borRelease s.dev = arcNext (borOver s.dev) := by
    rw [borRelease, hb]
    rfl
  have hf := frame_borOver s.dev
  obtain ⟨hbor, hstop⟩ := borOver_status s.dev
  have hhead : arcHead? (borOver s.dev) = arcHead? s.dev := by
    simp only [arcHead?, hf.fget .east ARC_QUEUE_PTR_HEAD (by decide) (by decide), hf.fget .east ARC_QUEUE_PTR_TAIL (by decide) (by decide),
      hf.fget .east ARC_QUEUE_BASE_OFFSET (by decide) (by decide), show (borOver s.dev).sram = s.dev.sram from rfl]
  have hst := arcNext_starts (borOver s.dev) (fun d h => hd d (hhead ▸ h)) (fun u hu => by
    rw [inXo_congr hf (by decide) (by decide), updStep_offset s.dev]
    exact hx u hu)
  obtain ⟨hg, hgb, hgs, harc, hsame⟩ := arcStarts_facts hst
  exact completes_of_eq exec_borRelease hrun heq ⟨hgb.trans hbor, hgs.trans hstop, regsBut_trans (regsBut_mono hf.2 (by decide)) hg.2, hsame, harc⟩

/-! ### Execute-only regions -/

theorem xoLock_locks (s : State) (ini : Initiator) (r : Nat) (hrun : Runs s.dev) (hw : Writable s.dev ini (pg .arc .east) 0x064)
    (hr : r = fget s.dev .east ARC_XO_INDEX_REGION) (hl : fbit s.dev .east ARC_XO_CFG_LOCKED r = false)
    (hs : fget s.dev .east ARC_XO_CFG_SECTORS r ≠ 0) :
    Completes (.xoLock ini) s (fun h =>
      fbit h .east ARC_XO_CFG_LOCKED r = true ∧ (∀ k, k < 8 → k ≠ r → fbit h .east ARC_XO_CFG_LOCKED k = fbit s.dev .east ARC_XO_CFG_LOCKED k) ∧
        (∀ a n, inXo s.dev a n = true → inXo h a n = true) ∧ RegsBut s.dev h [(.arc, 0x064)] ∧ SameButRegs (reply s.dev false) h) := by
  have hr8 : r < 8 := by
    rw [hr, fget_eq_bget]
    exact bget_lt ..
  have heq : xoLock s.dev ini = fset (reply s.dev false) .east ARC_XO_CFG_LOCKED 1 r := by
    have hi : fget (reply s.dev false) .east ARC_XO_INDEX_REGION = r := hr.symm
    rw [xoLock, withWrite_ok s.dev ini _ _ _ hw, xoLockEffect]
    dsimp only
    rw [hi, show fbit (reply s.dev false) .east ARC_XO_CFG_LOCKED r = false from hl, if_neg (by decide),
      if_neg (show ¬ fget (reply s.dev false) .east ARC_XO_CFG_SECTORS r = 0 from hs)]
  have hlocked : fbit (fset (reply s.dev false) .east ARC_XO_CFG_LOCKED 1 r) .east ARC_XO_CFG_LOCKED r = true := by
    rw [fbit, fget_eq_bget, fset_regs]
    simp (disch := decide) [ARC_XO_CFG_LOCKED]
  have hother (k : Nat) (hk : k < 8) (hne : k ≠ r) :
      fbit (fset (reply s.dev false) .east ARC_XO_CFG_LOCKED 1 r) .east ARC_XO_CFG_LOCKED k = fbit s.dev .east ARC_XO_CFG_LOCKED k := by
    rw [fbit, fget_eq_bget, fset_regs, bget_bput_bank]
    · rfl
    · omega
  have hsectors (k : Nat) (hk : k < 8) : fget (fset (reply s.dev false) .east ARC_XO_CFG_LOCKED 1 r) .east ARC_XO_CFG_SECTORS k =
      fget s.dev .east ARC_XO_CFG_SECTORS k := by
    rw [fget_eq_bget, fset_regs]
    by_cases hkr : k = r
    · rw [hkr]
      simp (disch := decide) [ARC_XO_CFG_LOCKED, ARC_XO_CFG_SECTORS]
      rfl
    · rw [bget_bput_bank]
      · rfl
      · omega
  have hbase (k : Nat) : fget (fset (reply s.dev false) .east ARC_XO_CFG_LOCKED 1 r) .east ARC_XO_BASE_SECTOR k =
      fget s.dev .east ARC_XO_BASE_SECTOR k := (frame_fset (reply s.dev false) .east r 0 ARC_XO_CFG_LOCKED 1).fget .east ARC_XO_BASE_SECTOR (by decide) (by decide) k 0
  refine completes_of_eq (exec_xoLock ini) hrun heq ⟨hlocked, hother, fun a n hx => ?_, (frame_fset (reply s.dev false) .east r 0 ARC_XO_CFG_LOCKED 1).2, rfl⟩
  simp only [inXo, List.any_eq_true, List.mem_range] at hx ⊢
  obtain ⟨k, hk, hkx⟩ := hx
  refine ⟨k, hk, ?_⟩
  rw [hbase, hsectors k hk]
  by_cases hkr : k = r
  · rw [hkr, hlocked]
    rw [hkr] at hkx
    simp only [Bool.and_eq_true] at hkx ⊢
    exact ⟨trivial, hkx.2⟩
  · rw [hother k hk hkr]
    exact hkx

/-- Settles O53, clause by clause: the queue's head is answered or starts its operation; an operation's end leaves its words and sectors and
reports; STOP ends all; a region's lock only adds to what is refused. -/
theorem archiveOperates : Obligations.ArchiveOperates := by
  unfold Obligations.ArchiveOperates
  refine ⟨arcRead_reads, sectorState_answers, fun s d o hrun hd hp hs ha i hi ht => ?_, fun s d hrun hd hp hs ha i hi ht => ?_, arcOperationEnd_ends,
    arcOperationEnd_fails, arcStop_stops, brownOutDetect_stops, borRelease_resumes, xoLock_locks⟩
  · simp only [List.mem_cons, List.not_mem_nil, or_false] at hi
    obtain rfl | rfl | rfl := hi
    · exact arcOperate_starts s _ 2 exec_arcProgram d o hrun hd hp hs ha ht
    · exact arcOperate_starts s _ 3 exec_arcErase d o hrun hd hp hs ha ht
    · exact arcOperate_starts s _ 4 exec_arcClose d o hrun hd hp hs ha ht
  · simp only [List.mem_cons, List.not_mem_nil, or_false] at hi
    obtain rfl | rfl | rfl := hi
    · exact arcOperate_refuses s _ 2 exec_arcProgram d hrun hd hp hs ha ht
    · exact arcOperate_refuses s _ 3 exec_arcErase d hrun hd hp hs ha ht
    · exact arcOperate_refuses s _ 4 exec_arcClose d hrun hd hp hs ha ht

end Sys2Proof.Laws
end

section
/-! The registers of a windowed table repeat every 65,536 entries, and what that refutes of O51. -/

namespace Sys2Proof.Laws

open Machine Machine.Reg

/-- Entries 65,536 apart of KEY_SLOT_ATTR are one register: the register file keeps an entry's number in 16 bits. -/
theorem keyState_wraps (h : Head) (id : Nat) : keyState h (id + 65536) = keyState h id := by
  have hk : regKey (homePage (pg .key .east) 0x048) 0x048 (id + 65536) = regKey (homePage (pg .key .east) 0x048) 0x048 id := by
    unfold regKey
    omega
  have hr : rd h (pg .key .east) 0x048 (id + 65536) = rd h (pg .key .east) 0x048 id :=
    congrArg (tabGet h.regs (resetWord (homePage (pg .key .east) 0x048) 0x048 id)) hk
  exact congrArg (bitsOf · 31 30) hr

/-- The reset state, with a kind in slot 0, which is EMPTY: LOAD, GENERATE and UNWRAP take it. -/
def emptySlotState : State := ⟨fset Head.reset .east KEY_SLOT_ATTR_KIND 4, []⟩

theorem emptySlotState_writable : Writable emptySlotState.dev .docent (pg .key .east) 0x058 where
  page := by decide
  word := by decide
  inPage := by decide
  firewall _ := rfl
  owner := by decide +kernel
  live _ := by decide +kernel

/-- Refutes O51: LOAD's frame `∀ k, k ≠ id → keyState h k = keyState s.dev k` runs over every number `k`, and slot number `id + 65536` names
the register of slot `id` itself, which LOAD moves from EMPTY to LOADED. The state is the reset state with a kind in slot 0. -/
theorem not_keysAndBindingsAct : ¬ Obligations.KeysAndBindingsAct := by
  intro hall
  obtain ⟨hload, -⟩ := hall
  obtain ⟨h, -, hloaded, -, -, -, hothers, -⟩ := hload emptySlotState .docent 0 48 (by decide +kernel) emptySlotState_writable (by decide +kernel)
    (by decide +kernel) (by decide +kernel) (by decide +kernel)
  have hkept : keyState h 65536 = keyState emptySlotState.dev 65536 := (hothers 65536 (by decide)).2
  have hempty : keyState emptySlotState.dev 65536 = 0 := by decide +kernel
  have halias : keyState h 65536 = keyState h 0 := keyState_wraps h 0
  rw [hempty, halias, hloaded] at hkept
  exact absurd hkept (by decide)

end Sys2Proof.Laws
end

section
/-! Measurement registers, erasure of the keys and alarms (R222, R400, R408, R419, R421), and O50. -/

namespace Sys2Proof.Laws

open Machine Machine.Reg

/-! ### Measurement registers -/

theorem swapBytes_four (n : Nat) : swapBytes n 4 =
    n / 2 ^ 24 % 256 + 256 * (n / 2 ^ 16 % 256) + 2 ^ 16 * (n / 2 ^ 8 % 256) + 2 ^ 24 * (n % 256) := by
  simp only [swapBytes, bytesOf, numOf, List.range_succ, List.range_zero, List.nil_append, List.cons_append, List.map_cons, List.map_nil,
    List.reverse_cons, List.reverse_nil, Nat.shiftRight_eq_div_pow, Nat.mod_mod, Nat.mul_zero, Nat.pow_zero, Nat.div_one]
  ring

/-- The bytes of a word, turned about. -/
theorem swapBytes_bytes (a b c d : Nat) (ha : a < 256) (hb : b < 256) (hc : c < 256) (hd : d < 256) :
    swapBytes (a + 256 * b + 2 ^ 16 * c + 2 ^ 24 * d) 4 = d + 256 * c + 2 ^ 16 * b + 2 ^ 24 * a := by
  rw [swapBytes_four, show (a + 256 * b + 2 ^ 16 * c + 2 ^ 24 * d) / 2 ^ 24 % 256 = d by omega,
    show (a + 256 * b + 2 ^ 16 * c + 2 ^ 24 * d) / 2 ^ 16 % 256 = c by omega, show (a + 256 * b + 2 ^ 16 * c + 2 ^ 24 * d) / 2 ^ 8 % 256 = b by omega,
    show (a + 256 * b + 2 ^ 16 * c + 2 ^ 24 * d) % 256 = a by omega]

theorem swapBytes_swapBytes (n : Nat) (hn : n < 2 ^ 32) : swapBytes (swapBytes n 4) 4 = n := by
  obtain ⟨a, b, c, d, ha, hb, hc, hd, rfl⟩ : ∃ a b c d, a < 256 ∧ b < 256 ∧ c < 256 ∧ d < 256 ∧ n = a + 256 * b + 2 ^ 16 * c + 2 ^ 24 * d :=
    ⟨n % 256, n / 256 % 256, n / 2 ^ 16 % 256, n / 2 ^ 24, by omega, by omega, by omega, by omega, by omega⟩
  rw [swapBytes_bytes a b c d ha hb hc hd, swapBytes_bytes d c b a hd hc hb ha]

theorem swapBytes_lt (n : Nat) : swapBytes n 4 < 2 ^ 32 := by
  rw [swapBytes_four]
  omega

/-- A number is the sum of its words in their places. -/
theorem sum_words (v n : Nat) : ((List.range n).map (fun k => (v >>> (32 * k) % 2 ^ 32) <<< (32 * k))).sum = v % 2 ^ (32 * n) := by
  induction n with
  | zero => simp [Nat.mod_one]
  | succ n ih =>
    rw [List.range_succ, List.map_append, List.sum_append, ih, show 32 * (n + 1) = 32 * n + 32 by omega, Nat.pow_add, Nat.mod_mul]
    simp only [List.map_cons, List.map_nil, List.sum_cons, List.sum_nil, Nat.add_zero, Nat.shiftLeft_eq, Nat.shiftRight_eq_div_pow, Nat.mul_comm]

theorem foldHead_range_succ (h : Head) (f : Head → Nat → Head) (n : Nat) : foldHead h (List.range (n + 1)) f = f (foldHead h (List.range n) f) n := by
  unfold foldHead
  rw [List.range_succ, List.foldl_append]
  rfl

/-- The word of a measurement register that holds part of a value. -/
def msrWord (v k : Nat) : Word := BitVec.ofNat 32 (swapBytes (v >>> (32 * k) % 2 ^ 32) 4)

theorem rd_setMsr_first (h : Head) (r v r' k n : Nat) (hr : r < 32) (hr' : r' < 32) (hk : k < 12) (hn : n ≤ 12) :
    rd (foldHead h (List.range n) (fun h k => wr h (pg .msr .east) (0x048 + 4 * k) r (msrWord v k))) (pg .msr .east) (0x048 + 4 * k) r' =
      if r' = r ∧ k < n then msrWord v k else rd h (pg .msr .east) (0x048 + 4 * k) r' := by
  induction n with
  | zero => simp [foldHead]
  | succ n ih =>
    rw [foldHead_range_succ]
    by_cases hkn : k = n
    · subst hkn
      by_cases hrr : r' = r
      · rw [hrr, rd_wr_same, if_pos ⟨rfl, by omega⟩]
      · rw [rd_wr_bank _ _ _ _ _ _ _ _ (by omega), ih (by omega), if_neg (fun x => hrr x.1), if_neg (fun x => hrr x.1)]
    · rw [rd_wr_off _ _ _ _ _ _ _ _ (by omega), ih (by omega)]
      have hlt : k < n ↔ k < n + 1 := by omega
      simp only [hlt]

theorem rd_setMsr (h : Head) (r v r' k : Nat) (hr : r < 32) (hr' : r' < 32) (hk : k < 12) :
    rd (setMsr h r v) (pg .msr .east) (0x048 + 4 * k) r' = if r' = r then msrWord v k else rd h (pg .msr .east) (0x048 + 4 * k) r' :=
  (rd_setMsr_first h r v r' k 12 hr hr' hk (Nat.le_refl _)).trans (by simp only [hk, and_true])

theorem msrValue_congr {h g : Head} {r : Nat}
    (hrd : ∀ k, k < 12 → rd g (pg .msr .east) (0x048 + 4 * k) r = rd h (pg .msr .east) (0x048 + 4 * k) r) : msrValue g r = msrValue h r := by
  unfold msrValue
  refine congrArg List.sum (List.map_congr_left fun k hk => ?_)
  rw [hrd k (List.mem_range.1 hk)]

theorem msrValue_setMsr_same (h : Head) (r v : Nat) (hr : r < 32) : msrValue (setMsr h r v) r = v % 2 ^ 384 := by
  refine Eq.trans ?_ (sum_words v 12)
  unfold msrValue
  refine congrArg List.sum (List.map_congr_left fun k hk => ?_)
  rw [rd_setMsr h r v r k hr hr (List.mem_range.1 hk), if_pos rfl, msrWord, BitVec.toNat_ofNat, Nat.mod_eq_of_lt (swapBytes_lt _),
    swapBytes_swapBytes _ (Nat.mod_lt _ (by decide))]

theorem msrValue_setMsr_other (h : Head) (r v r' : Nat) (hr : r < 32) (hr' : r' < 32) (hne : r' ≠ r) : msrValue (setMsr h r v) r' = msrValue h r' :=
  msrValue_congr fun k hk => (rd_setMsr h r v r' k hr hr' hk).trans (if_neg hne)

/-- The registers that hold the measurements' values. -/
def msrValueRegs : List (Block × Nat) := (List.range 12).map (fun k => (Block.msr, 0x048 + 4 * k))

theorem frame_setMsr_values (h : Head) (r v : Nat) : Frame [] msrValueRegs h (setMsr h r v) := by
  have hk : ∀ k ∈ List.range 12, ((pg .msr .east).block, (0x048 + 4 * k) % 4096) ∈ msrValueRegs := by decide
  unfold setMsr
  exact frame_foldHead_mem fun g k hm => (frame_wr g r _ _ _).mono (fun _ h => h) (by simpa using hk k hm)

/-- A measurement is a matter of its words. -/
theorem Frame.msrValue {l : List Part} {t : List (Block × Nat)} {h g : Head} (x : Frame l t h g) (ht : ∀ e ∈ t, e ∉ msrValueRegs) (r : Nat) :
    msrValue g r = Machine.msrValue h r :=
  msrValue_congr fun k hk => x.2 (pg .msr .east) (0x048 + 4 * k) r (by omega)
    fun hm => ht _ hm (List.mem_map.2 ⟨k, List.mem_range.2 hk, rfl⟩)

/-- What an extend leaves beside the value: the event, the count and the mark of use. -/
def extendCounted (h : Head) (r : Nat) : Head :=
  let h := raiseCounted h .east Ev.MSR_EXTENDED
  let h := fadd h .east MSR_COUNT_COUNT 1 r
  fset h .east MSR_USED_USED (fget h .east MSR_USED_USED ||| 1 <<< r)

theorem msrExtend_eq (h : Head) (r input : Nat) :
    msrExtend h r input = extendCounted (setMsr h r (sha384 96 (msrValue h r + (input % 2 ^ 384) <<< 384))) r := rfl

theorem frame_extendCounted (h : Head) (r : Nat) : Frame [.evq] [(.msr, 0x010), (.msr, 0x0AC), (.msr, 0x0B0)] h (extendCounted h r) := by
  simp +decide only [extendCounted, frame_rules, frame_refl]

theorem sha384_lt (len bytes : Nat) : sha384 len bytes < 2 ^ 384 := Nat.mod_lt _ (Nat.two_pow_pos _)

theorem msrExtend_extends (h : Head) (r input : Nat) (hr : r < 32) : Extended h (msrExtend h r input) r input ∧
    ∀ k, k < 32 → k ≠ r → msrValue (msrExtend h r input) k = msrValue h k := by
  have hf := frame_extendCounted (setMsr h r (sha384 96 (msrValue h r + (input % 2 ^ 384) <<< 384))) r
  rw [msrExtend_eq]
  refine ⟨?_, fun k hk hne => ?_⟩
  · unfold Extended
    rw [hf.msrValue (by decide), msrValue_setMsr_same _ _ _ hr, Nat.mod_eq_of_lt (sha384_lt _ _)]
  · rw [hf.msrValue (by decide), msrValue_setMsr_other _ _ _ _ hr hk hne]

theorem extendCounted_reads (h : Head) (r : Nat) (hr : r < 32) :
    fget (extendCounted h r) .east MSR_COUNT_COUNT r = min (fget h .east MSR_COUNT_COUNT r + 1) (2 ^ 32 - 1) ∧
      (fget (extendCounted h r) .east MSR_USED_USED).testBit r = true ∧ EventSet (extendCounted h r) .east Ev.MSR_EXTENDED := by
  have hc := frame_raiseCounted (h := h) .east 0 Ev.MSR_EXTENDED
  have hev : EventSet (raiseCounted h .east Ev.MSR_EXTENDED) .east Ev.MSR_EXTENDED := eventSet_raiseCounted_same (by decide)
  have hcount : fget (raiseCounted h .east Ev.MSR_EXTENDED) .east MSR_COUNT_COUNT r = fget h .east MSR_COUNT_COUNT r :=
    hc.fget .east MSR_COUNT_COUNT (by decide) (by decide) r 0
  unfold extendCounted
  generalize raiseCounted h .east Ev.MSR_EXTENDED = k at *
  have hf : Frame [] [(.msr, 0x0AC), (.msr, 0x0B0)] k (fset (fadd k .east MSR_COUNT_COUNT 1 r) .east MSR_USED_USED
      (fget (fadd k .east MSR_COUNT_COUNT 1 r) .east MSR_USED_USED ||| 1 <<< r)) := by
    simp +decide only [frame_rules, frame_refl]
  refine ⟨?_, ?_, (hf.eventSet .east Ev.MSR_EXTENDED (by decide) 0).2 hev⟩
  · rw [(frame_fset _ .east 0 0 MSR_USED_USED _).fget .east MSR_COUNT_COUNT (by decide) (by decide), fget_fadd_same _ _ _ _ _ _ (by decide) (by decide),
      hcount]
    rfl
  · rw [fget_eq_bget, fset_regs]
    simp (disch := decide) only [MSR_USED_USED, bget_bput_same]
    rw [Nat.testBit_mod_two_pow, Nat.testBit_or, Nat.one_shiftLeft, Nat.testBit_two_pow_self, Bool.or_true, Bool.and_true, decide_eq_true_eq]
    exact hr

/-! ### The keys erased -/

/-- Every slot emptied, one after another. -/
def slotsEmptied (h : Head) (n : Nat) : Head :=
  foldHead h (List.range n) (fun h id => if keyState h id = 0 then h else fset h .east KEY_SLOT_ATTR_STATE 0 id)

/-- What used the keys, gone with them. -/
def usersGone (h : Head) : Head :=
  let h := fset h .east KEY_STATUS_ACTIVE 0
  let closedTags (o : EngOp) : Bool := !h.eng.cases.any (fun c => !c.closed && c.wing == o.wing && c.items.any (fun a => a.tag == some o.tag))
  let h := abortOps h (fun o => o.cls == .dge || o.cls == .cph || (o.cls == .cdc && (if o.ready then o.place != [] else closedTags o))) 16
  let h := setCases h (h.eng.cases.filter (fun c => !c.closed || c.items.any (fun a => a.tag.isNone)))
  { h with eng := { h.eng with
    chains := (h.eng.chains.filter (fun c => c.key.isNone)).map (fun c => { c with broken := true })
    fpStates := []
    tileKeys := [] } }

/-- The erasure made known on the wings' pages. -/
def erasureTold (h : Head) : Head :=
  raise (raiseBoth (erasureCounted (erasureCounted h .east) .west) Ev.CPH_KEYS_ERASED) .east Ev.KEY_ERASED

theorem keyErase_stages (h : Head) : keyErase h = erasureTold (usersGone (slotsEmptied { h with keys := [] } 8256)) := by
  rw [keyErase_eq, keysGone, ← slotsEmptied]
  generalize slotsEmptied { h with keys := [] } 8256 = g
  rfl

theorem frame_slotsEmptied (h : Head) (n : Nat) : Frame [] [(.key, 0x048)] h (slotsEmptied h n) := by
  simp +decide only [slotsEmptied, frame_foldHead, frame_ite, frame_rules, frame_refl, ite_self, implies_true]

theorem frame_usersGone (h : Head) : Frame [.eng, .freeCtr] [(.cdc, 0x05C), (.key, 0x05C)] h (usersGone h) := by
  simp +decide only [usersGone, abortOps, setCases, frame_foldHead, frame_rules, frame_mk, true_or, or_true, and_self, frame_refl, implies_true]

theorem frame_erasureTold (h : Head) : Frame [.evq] [(.cph, 0x010), (.cph, 0x064), (.dge, 0x05C), (.key, 0x010)] h (erasureTold h) := by
  simp +decide only [erasureTold, raiseBoth, erasureCounted, frame_rules, frame_refl]

theorem frame_keyErase (h : Head) : Frame [.keys, .eng, .freeCtr, .evq]
    [(.cdc, 0x05C), (.cph, 0x010), (.cph, 0x064), (.dge, 0x05C), (.key, 0x010), (.key, 0x048), (.key, 0x05C)] h (keyErase h) := by
  simp +decide only [keyErase_stages, (frame_erasureTold ..).iff, (frame_usersGone ..).iff, (frame_slotsEmptied ..).iff, frame_mk, true_or, or_true,
    and_self, frame_refl]

theorem keys_keyErase (h : Head) : (keyErase h).keys = [] :=
  keyErase_keeps Head.keys (fun _ _ => rfl) (fun _ _ => rfl) (fun _ _ => rfl) (raise_keys · · · 0) h

theorem keyErase_event (h : Head) : EventSet (keyErase h) .east Ev.KEY_ERASED := raiseAt_sets _ _ _ (by decide)

theorem keyState_emptied (h : Head) (n k : Nat) (hn : n < 65536) (hk : k < 65536) :
    keyState (fset h .east KEY_SLOT_ATTR_STATE 0 n) k = if k = n then 0 else keyState h k := by
  unfold keyState
  rw [fget_eq_bget, fset_regs]
  split
  next he =>
    rw [he]
    simp (disch := decide) [KEY_SLOT_ATTR_STATE]
  next hne =>
    rw [bget_bput_bank]
    · rfl
    · omega

theorem keyState_slotsEmptied (h : Head) (k n : Nat) (hn : n ≤ 8256) (hk : k < 8256) :
    keyState (slotsEmptied h n) k = if k < n then 0 else keyState h k := by
  induction n with
  | zero => rfl
  | succ n ih =>
    have hs : slotsEmptied h (n + 1) = if keyState (slotsEmptied h n) n = 0 then slotsEmptied h n
        else fset (slotsEmptied h n) .east KEY_SLOT_ATTR_STATE 0 n := foldHead_range_succ h _ n
    have ih := ih (by omega)
    have hnew := keyState_emptied (slotsEmptied h n) n k (by omega) (by omega)
    rw [hs]
    split
    next h0 =>
      by_cases hkn : k = n
      · rw [hkn, h0, if_pos (by omega)]
      · rw [ih]
        grind
    next h0 =>
      rw [hnew, ih]
      grind

theorem keyState_keyErase (h : Head) (k : Nat) (hk : k < 8256) : keyState (keyErase h) k = 0 := by
  have hz := (keyState_slotsEmptied { h with keys := [] } k 8256 (Nat.le_refl _) hk).trans (if_pos hk)
  rw [keyErase_stages]
  generalize slotsEmptied { h with keys := [] } 8256 = g at *
  unfold keyState
  rw [(frame_erasureTold _).fget .east KEY_SLOT_ATTR_STATE (by decide) (by decide), (frame_usersGone g).fget .east KEY_SLOT_ATTR_STATE (by decide) (by decide)]
  exact hz

/-! ### Release -/

theorem cores_started (w : Wing) (start : Nat) (l : List Nat) : ∀ h : Head,
    foldHead h l (fun h c => if coreState h w c = 0 then send h (.hartStart (hartOf w c) start) else h) =
      { h with out := h.out ++ (l.filter (fun c => coreState h w c == 0)).map (fun c => .hartStart (hartOf w c) start) } := by
  induction l with
  | nil =>
    intro h
    simp [foldHead]
  | cons c l ih =>
    intro h
    refine (ih (if coreState h w c = 0 then send h (.hartStart (hartOf w c) start) else h)).trans ?_
    have hcore (x : Nat) (m : Msg) : coreState (send h m) w x = coreState h w x := rfl
    by_cases hc : coreState h w c = 0
    · simp only [hc, if_true, hcore, List.filter_cons, beq_self_eq_true, List.map_cons]
      rw [send, List.append_assoc]
      rfl
    · simp only [hc, if_false, List.filter_cons, beq_iff_eq]

/-- The wing marked as released, and held back or not. -/
def releaseMarked (h : Head) (w : Wing) (held : Bool) : Head :=
  let h := { h with doc := if w = Wing.east then { h.doc with releasedE := true } else { h.doc with releasedW := true } }
  { h with doc := if w = Wing.east then { h.doc with heldE := held } else { h.doc with heldW := held } }

/-- The wing's ACTIVE cores started. -/
def coresStarted (h : Head) (w : Wing) : Head :=
  { h with out := h.out ++ ((List.range 26).filter (fun c => coreState h w c == 0)).map (fun c =>
      .hartStart (hartOf w c) (pget h w CPU_START_LO_ADDR CPU_START_HI_ADDR * 4)) }

/-- The first release takes STAGE to RELEASED. -/
def stageReleased (h : Head) : Head :=
  if fget h .east DOC_STATUS_STAGE = 1 then raise (fset h .east DOC_STATUS_STAGE 2) .east Ev.DOC_RELEASED else h

theorem releaseNow_eq (h : Head) (w : Wing) : releaseNow h w = stageReleased (coresStarted
    { h with doc := if w = .east then { h.doc with heldE := false } else { h.doc with heldW := false } } w) := by
  unfold releaseNow
  dsimp only
  rw [cores_started]
  rfl

theorem releaseEffect_standby (h : Head) (src : Nat) (w : Wing) (hr : released h w = false) (hm : chipMode h = 0) :
    releaseEffect h src w = releaseMarked h w true := by
  unfold releaseEffect
  rw [hr, if_neg (by decide)]
  exact if_pos hm

theorem releaseEffect_serving (h : Head) (src : Nat) (w : Wing) (hr : released h w = false) (hm : chipMode h ≠ 0) :
    releaseEffect h src w = stageReleased (coresStarted (releaseMarked h w false) w) := by
  unfold releaseEffect
  rw [hr, if_neg (by decide)]
  exact (if_neg hm).trans (releaseNow_eq _ w)

theorem released_releaseMarked (h : Head) (w v : Wing) (held : Bool) :
    released (releaseMarked h w held) v = if v = w then true else released h v := by
  cases w <;> cases v <;> simp [released, releaseMarked]

theorem held_releaseMarked (h : Head) (w : Wing) (held : Bool) :
    (if w = .east then (releaseMarked h w held).doc.heldE else (releaseMarked h w held).doc.heldW) = held := by
  cases w <;> simp [releaseMarked]

theorem frame_releaseMarked (h : Head) (w : Wing) (held : Bool) : Frame [.doc] [] h (releaseMarked h w held) := by
  simp +decide only [releaseMarked, frame_mk, true_or, or_true, and_self, frame_refl]

theorem frame_coresStarted (h : Head) (w : Wing) : Frame [.out] [] h (coresStarted h w) := by
  simp +decide only [coresStarted, frame_mk, true_or, or_true, and_self, frame_refl]

theorem frame_stageReleased (h : Head) : Frame [.evq] [(.doc, 0x010), (.doc, 0x044)] h (stageReleased h) := by
  simp +decide only [stageReleased, frame_ite, frame_rules, frame_refl, ite_self]

theorem stageReleased_stage (h : Head) (hs : fget h .east DOC_STATUS_STAGE = 1) :
    fget (stageReleased h) .east DOC_STATUS_STAGE = 2 ∧ EventSet (stageReleased h) .east Ev.DOC_RELEASED := by
  rw [stageReleased, if_pos hs]
  refine ⟨?_, raiseAt_sets _ _ _ (by decide)⟩
  rw [(frame_raise _ .east 0 Ev.DOC_RELEASED).fget .east DOC_STATUS_STAGE (by decide) (by decide), fget_eq_bget, fset_regs]
  simp (disch := decide) [DOC_STATUS_STAGE]

theorem release_releases (s : State) (ini : Initiator) (w : Wing) (hrun : Runs s.dev) (hw : Writable s.dev ini (pg .doc .east) 0x040)
    (hr : released s.dev w = false) :
    Completes (if w = .east then .releaseE ini else .releaseW ini) s (fun h =>
      released h w = true ∧ (∀ v, v ≠ w → released h v = released s.dev v) ∧
        (chipMode s.dev = 0 → h.out = s.dev.out ∧ (if w = .east then h.doc.heldE else h.doc.heldW) = true) ∧
        (chipMode s.dev ≠ 0 → h.out = s.dev.out ++ ((List.range 26).filter (fun c => coreState s.dev w c == 0)).map (fun c =>
          .hartStart (hartOf w c) (pget s.dev w CPU_START_LO_ADDR CPU_START_HI_ADDR * 4)) ∧
          (fget s.dev .east DOC_STATUS_STAGE = 1 → fget h .east DOC_STATUS_STAGE = 2 ∧ EventSet h .east Ev.DOC_RELEASED)) ∧
        RegsBut s.dev h [(.doc, 0x010), (.doc, 0x044)] ∧ h.mem = s.dev.mem) := by
  have hx : exec (if w = .east then .releaseE ini else .releaseW ini) = lift (fun h => releaseCmd h ini w) := by
    cases w
    · exact exec_releaseE ini
    · exact exec_releaseW ini
  have heq : releaseCmd s.dev ini w = releaseEffect (reply s.dev false) (sourceCode ini) w := withWrite_ok s.dev ini _ _ _ hw
  have hrel (held : Bool) (v : Wing) := released_releaseMarked (reply s.dev false) w v held
  have hmark (held : Bool) := frame_releaseMarked (reply s.dev false) w held
  by_cases hm : chipMode s.dev = 0
  · rw [releaseEffect_standby (reply s.dev false) _ w hr hm] at heq
    refine completes_of_eq hx hrun heq ⟨(hrel true w).trans (if_pos rfl), fun v hv => (hrel true v).trans (if_neg hv),
      fun _ => ⟨(hmark true).1 .out (by decide), held_releaseMarked _ w true⟩, fun hn => absurd hm hn, regsBut_mono (hmark true).2 (by decide),
      (hmark true).1 .mem (by decide)⟩
  · rw [releaseEffect_serving (reply s.dev false) _ w hr hm] at heq
    have hc := frame_coresStarted (releaseMarked (reply s.dev false) w false) w
    have hs := frame_stageReleased (coresStarted (releaseMarked (reply s.dev false) w false) w)
    have hdoc : (stageReleased (coresStarted (releaseMarked (reply s.dev false) w false) w)).doc = (releaseMarked (reply s.dev false) w false).doc :=
      (hs.1 .doc (by decide)).trans (hc.1 .doc (by decide))
    have hreleased (v : Wing) : released (stageReleased (coresStarted (releaseMarked (reply s.dev false) w false) w)) v =
        released (releaseMarked (reply s.dev false) w false) v := by
      unfold released
      rw [hdoc]
    refine completes_of_eq hx hrun heq ⟨(hreleased w).trans ((hrel false w).trans (if_pos rfl)),
      fun v hv => (hreleased v).trans ((hrel false v).trans (if_neg hv)), fun h0 => absurd h0 hm,
      fun _ => ⟨(hs.1 .out (by decide)).trans rfl, fun hst => stageReleased_stage _ hst⟩, hs.2, hs.1 .mem (by decide)⟩

theorem docChipReset_boots (s : State) (ini : Initiator) (hrun : Runs s.dev) (hw : Writable s.dev ini (pg .doc .east) 0x040) :
    Completes (.docChipReset ini) s (fun h =>
      h.doc.booted = true ∧ h.doc.custodians = s.dev.doc.custodians ∧ h = boot (chipReset (reply s.dev false) .docent true)) := by
  have heq : docChipReset s.dev ini = internalReset (reply s.dev false) .docent := withWrite_ok s.dev ini _ _ _ hw
  obtain ⟨hboot, hbooted, hcust⟩ := internalReset_boots (reply s.dev false) .docent
  exact completes_of_eq (exec_docChipReset ini) hrun heq ⟨hbooted, hcust, hboot⟩

theorem alarmReset_boots (s : State) (hrun : Runs s.dev) (ha : s.dev.doc.alarmHold = true) :
    Completes .alarmReset s (fun h =>
      h.doc.booted = true ∧ h.doc.custodians = s.dev.doc.custodians ∧ h = boot (chipReset s.dev .alarm true)) := by
  have heq : alarmReset s.dev = internalReset s.dev .alarm := by
    unfold alarmReset
    rw [ha]
    rfl
  obtain ⟨hboot, hbooted, hcust⟩ := internalReset_boots s.dev .alarm
  exact completes_of_eq exec_alarmReset hrun heq ⟨hbooted, hcust, hboot⟩

/-! ### Measurement commands and SPDM -/

theorem msrExtend_measures (s : State) (ini : Initiator) (r : Nat) (hrun : Runs s.dev) (hw : Writable s.dev ini (pg .msr .east) 0x044)
    (hr : r = fget s.dev .east MSR_INDEX_REG) (h6 : r ≠ 6) (h7 : r ≠ 7) :
    Completes (.msrExtend ini) s (fun h =>
      Extended s.dev h r s.dev.doc.msrInput ∧ (∀ k, k < 32 → k ≠ r → msrValue h k = msrValue s.dev k) ∧
        fget h .east MSR_COUNT_COUNT r = min (fget s.dev .east MSR_COUNT_COUNT r + 1) (2 ^ 32 - 1) ∧
        (fget h .east MSR_USED_USED).testBit r = true ∧ EventSet h .east Ev.MSR_EXTENDED ∧ SameButRegs (reply s.dev false) h) := by
  have hlt : r < 32 := by
    rw [hr, fget_eq_bget]
    exact bget_lt ..
  have heq : msrExtendCmd s.dev ini = msrExtend (reply s.dev false) r s.dev.doc.msrInput := by
    rw [msrExtendCmd, withWrite_ok s.dev ini _ _ _ hw, msrExtendEffect]
    rw [show fget (reply s.dev false) .east MSR_INDEX_REG = r from hr.symm, if_neg (by simp [h6, h7])]
    rfl
  obtain ⟨hext, hother⟩ := msrExtend_extends (reply s.dev false) r s.dev.doc.msrInput hlt
  have hm := frame_setMsr_values (reply s.dev false) r (sha384 96 (msrValue (reply s.dev false) r + (s.dev.doc.msrInput % 2 ^ 384) <<< 384))
  obtain ⟨hcount, hused, hev⟩ := extendCounted_reads (setMsr (reply s.dev false) r
    (sha384 96 (msrValue (reply s.dev false) r + (s.dev.doc.msrInput % 2 ^ 384) <<< 384))) r hlt
  rw [← msrExtend_eq] at hcount hused hev
  refine completes_of_eq (exec_msrExtend ini) hrun heq ⟨hext, hother, hcount.trans ?_, hused, hev, (frame_msrExtend _ _ _).sameButRegs⟩
  rw [hm.fget .east MSR_COUNT_COUNT (by decide) (by decide)]
  rfl

theorem msrArm_arms (s : State) (ini : Initiator) (mask : Nat) (hrun : Runs s.dev) (hw : Writable s.dev ini (pg .msr .east) 0x0A8) :
    Completes (.msrArm ini mask) s (fun h =>
      fget h .east MSR_ARMED_ARMED = (fget s.dev .east MSR_ARMED_ARMED ||| mask >>> 10 % 2 ^ 14) ∧ RegsBut s.dev h [(.msr, 0x0A8)] ∧
        SameButRegs (reply s.dev false) h) := by
  have heq : msrArm s.dev ini mask = msrArmEffect (reply s.dev false) mask := withWrite_ok s.dev ini _ _ _ hw
  refine completes_of_eq (exec_msrArm ini mask) hrun heq ⟨?_, (frame_fset _ .east 0 0 MSR_ARMED_ARMED _).2, rfl⟩
  rw [msrArmEffect, fget_eq_bget, fset_regs]
  refine bget_bput_same_of_lt _ _ _ _ _ _ _ _ _ (by decide) (by decide) (Nat.or_lt_two_pow ?_ (Nat.mod_lt _ (by decide)))
  rw [fget_eq_bget]
  exact bget_lt ..

theorem spdmAnswer_answers (h : Head) (request : Nat) (fields : List Nat) (hf : firmwareRuns h = true) :
    spdmAnswer h request fields = { h with out := h.out ++ [.spdm request fields] } := by
  rw [spdmAnswer, hf]
  rfl

theorem spdmChallenge_answers (s : State) (nonce : Nat) (hrun : Runs s.dev) (hf : firmwareRuns s.dev = true) :
    Completes (.spdmChallenge nonce) s (fun h => ∃ own : Nat, own < 2 ^ 256 ∧
      h = { s.dev with
        freeCtr := s.dev.freeCtr + 1
        out := s.dev.out ++ [.spdm 5 [own, Config.ecdsaSign s.dev.doc.attest (sha384 64 (nonce % 2 ^ 256 + own <<< 256))]] }) :=
  completes_of_eq (exec_spdmChallenge nonce) hrun (spdmAnswer_answers (fresh s.dev).2 5 _ hf) ⟨_, Nat.mod_lt _ (by decide), rfl⟩

theorem spdmMeasurements_one (h : Head) (index nonce : Nat) (hf : firmwareRuns h = true) (h1 : 1 ≤ index) (h32 : index ≤ 32) :
    spdmMeasurements h index nonce = { h with out := h.out ++ [.spdm 6 [msrValue h (index - 1), Config.ecdsaSign h.doc.attest
      (sha384 80 (nonce % 2 ^ 256 + msrValue h (index - 1) <<< 256))]] } := by
  have hblocks : (if index = 0xFF then (List.range 33).filterMap (fun i => measurement h (i + 1)) else (measurement h index).toList) =
      [msrValue h (index - 1)] := by
    rw [if_neg (by omega), measurement, if_pos ⟨h1, h32⟩]
    rfl
  unfold spdmMeasurements
  rw [hblocks, spdmAnswer_answers h 6 _ hf]
  simp

/-! ### Alarms and debug -/

theorem frame_tripAlarm (h : Head) (n : Nat) : Frame [.keys, .eng, .freeCtr, .evq, .doc]
    [(.alm, 0x010), (.alm, 0x048), (.alm, 0x04C), (.cdc, 0x05C), (.cph, 0x010), (.cph, 0x064), (.dge, 0x05C), (.key, 0x010), (.key, 0x048), (.key, 0x05C)]
    h (tripAlarm h n) := by
  simp +decide only [tripAlarm, (frame_keyErase ..).iff, frame_rules, frame_mk, true_or, or_true, and_self, frame_refl]

/-- What a tripping alarm latches once the keys are gone. -/
def alarmLatched (h : Head) (n : Nat) : Head :=
  let h := fset (fset h .east ALM_LAST_VALID 1) .east ALM_LAST_ALARM n
  raiseAt (fadd { h with doc := { h.doc with alarmHold := true } } .east ALM_COUNT_COUNT) (pg .alm .east) n

theorem tripAlarm_eq (h : Head) (n : Nat) : tripAlarm h n = alarmLatched (keyErase h) n := rfl

theorem frame_alarmLatched (h : Head) (n : Nat) : Frame [.evq, .doc] [(.alm, 0x010), (.alm, 0x048), (.alm, 0x04C)] h (alarmLatched h n) := by
  simp +decide only [alarmLatched, frame_rules, frame_mk, true_or, or_true, and_self, frame_refl]

theorem alarmLatched_reads (h : Head) (n : Nat) (hn : n < 32) : fget (alarmLatched h n) .east ALM_LAST_VALID = 1 ∧
    fget (alarmLatched h n) .east ALM_LAST_ALARM = n ∧ (alarmLatched h n).doc.alarmHold = true ∧
    fget (alarmLatched h n) .east ALM_COUNT_COUNT = min (fget h .east ALM_COUNT_COUNT + 1) 65535 := by
  unfold alarmLatched
  dsimp only
  have hdoc (g : Head) (ha : g.doc.alarmHold = true) : (raiseAt g (pg .alm .east) n).doc.alarmHold = true := by
    rw [show (raiseAt g (pg .alm .east) n).doc = g.doc from (frame_raiseAt g (pg .alm .east) n).1 .doc (by decide)]
    exact ha
  have hr (g : Head) := frame_raiseAt g (pg .alm .east) n
  refine ⟨?_, ?_, hdoc _ rfl, ?_⟩
  · rw [(hr _).fget .east ALM_LAST_VALID (by decide) (by decide), fget_eq_bget, fadd_regs]
    simp (disch := decide) [ALM_LAST_VALID, ALM_LAST_ALARM, ALM_COUNT_COUNT, fset_regs]
  · rw [(hr _).fget .east ALM_LAST_ALARM (by decide) (by decide), fget_eq_bget, fadd_regs]
    simp (disch := decide) [ALM_LAST_VALID, ALM_LAST_ALARM, ALM_COUNT_COUNT, fset_regs]
    omega
  · rw [(hr _).fget .east ALM_COUNT_COUNT (by decide) (by decide), fget_fadd_same _ _ _ _ _ _ (by decide) (by decide)]
    have hf : Frame [.doc] [(.alm, 0x048)] h { fset (fset h .east ALM_LAST_VALID 1) .east ALM_LAST_ALARM n with
        doc := { (fset (fset h .east ALM_LAST_VALID 1) .east ALM_LAST_ALARM n).doc with alarmHold := true } } := by
      simp +decide only [frame_rules, frame_mk, true_or, or_true, and_self, frame_refl]
    rw [hf.fget .east ALM_COUNT_COUNT (by decide) (by decide)]
    rfl

theorem alarm_trips (h : Head) (n : Nat) (hn : n < 12) (he : (fget h .east ALM_ENABLE_ALARMS).testBit n = true) :
    ∃ g : Head, alarm h n = tripAlarm g n ∧ Frame [] [(.alm, 0x044)] h g := by
  have hkeep : (fget (fset h .east ALM_STATUS_ACTIVE (fget h .east ALM_STATUS_ACTIVE ||| 1 <<< n)) .east ALM_ENABLE_ALARMS).testBit n = true := by
    rw [(frame_fset h .east 0 0 ALM_STATUS_ACTIVE _).fget .east ALM_ENABLE_ALARMS (by decide) (by decide)]
    exact he
  unfold alarm
  rw [if_pos hn]
  by_cases h11 : n = 11
  · simp only [if_pos h11]
    rw [if_pos he]
    exact ⟨h, rfl, frame_refl _ _ h⟩
  · simp only [if_neg h11]
    rw [if_pos hkeep]
    exact ⟨_, rfl, frame_fset h .east 0 0 ALM_STATUS_ACTIVE _⟩

/-- What a tripped alarm leaves. -/
theorem tripAlarm_erases (h g : Head) (n : Nat) (hn : n < 12) (hg : Frame [.bus] [(.alm, 0x044)] h g) : let k := tripAlarm g n
    k.keys = [] ∧ (∀ i, i < 8256 → keyState k i = 0) ∧ fget k .east ALM_LAST_VALID = 1 ∧ fget k .east ALM_LAST_ALARM = n ∧
      k.doc.alarmHold = true ∧ fget k .east ALM_COUNT_COUNT = min (fget h .east ALM_COUNT_COUNT + 1) 65535 ∧ EventSet k .east Ev.KEY_ERASED ∧
      k.bindings = h.bindings ∧ k.mem = h.mem ∧ k.out = h.out := by
  obtain ⟨hvalid, hlast, hhold, hcount⟩ := alarmLatched_reads (keyErase g) n (by omega)
  have hl := frame_alarmLatched (keyErase g) n
  have hk := frame_keyErase g
  have hcount' : fget (keyErase g) .east ALM_COUNT_COUNT = fget h .east ALM_COUNT_COUNT :=
    (hk.fget .east ALM_COUNT_COUNT (by decide) (by decide) 0 0).trans (hg.fget .east ALM_COUNT_COUNT (by decide) (by decide) 0 0)
  have hpart (p : Part) (h0 : p ∉ [Part.evq, .doc]) (h1 : p ∉ [Part.keys, .eng, .freeCtr, .evq]) (h2 : p ∉ [Part.bus]) :
      p.same h (alarmLatched (keyErase g) n) := p.same_trans (p.same_trans (hg.1 p h2) (hk.1 p h1)) (hl.1 p h0)
  rw [hcount'] at hcount
  refine ⟨(hl.1 .keys (by decide)).trans (keys_keyErase g), fun i hi => ?_, hvalid, hlast, hhold, hcount, ?_,
    hpart .bindings (by decide) (by decide) (by decide), hpart .mem (by decide) (by decide) (by decide), hpart .out (by decide) (by decide) (by decide)⟩
  · exact (hl.fget .east KEY_SLOT_ATTR_STATE (by decide) (by decide) i 0).trans (keyState_keyErase g i hi)
  · exact (hl.eventSet .east Ev.KEY_ERASED (by decide) 0).2 (keyErase_event g)

theorem alarm_erases (s : State) (ini : Initiator) (n : Nat) (force : Bool) (hrun : Runs s.dev) (hn : if force then n = 11 else n < 11)
    (hw : force = true → Writable s.dev ini (pg .alm .east) 0x054) (he : (fget s.dev .east ALM_ENABLE_ALARMS).testBit n = true) :
    Completes (if force then .almForce ini else .almAlarm n) s (fun h =>
      h.keys = [] ∧ (∀ k, k < 8256 → keyState h k = 0) ∧ fget h .east ALM_LAST_VALID = 1 ∧ fget h .east ALM_LAST_ALARM = n ∧
        h.doc.alarmHold = true ∧ fget h .east ALM_COUNT_COUNT = min (fget s.dev .east ALM_COUNT_COUNT + 1) 65535 ∧
        EventSet h .east Ev.KEY_ERASED ∧ h.bindings = s.dev.bindings ∧ h.mem = s.dev.mem ∧ h.out = s.dev.out) := by
  cases force with
  | true =>
    have hn : n = 11 := hn
    subst hn
    obtain ⟨g, hg, hf⟩ := alarm_trips (reply s.dev false) 11 (by decide) he
    have heq : almForce s.dev ini = tripAlarm g 11 := (withWrite_ok s.dev ini _ _ _ (hw rfl)).trans hg
    exact completes_of_eq (exec_almForce ini) hrun heq (tripAlarm_erases s.dev g 11 (by decide)
      (((frame_reply s.dev false 0).mono (by decide) (by decide)).trans (hf.mono (by decide) (by decide))))
  | false =>
    have hn : n < 11 := hn
    obtain ⟨g, hg, hf⟩ := alarm_trips s.dev n (by omega) he
    exact completes_of_eq (exec_almAlarm n) hrun hg (tripAlarm_erases s.dev g n (by omega) (hf.mono (by decide) (by decide)))

theorem alarm_shows (s : State) (n : Nat) (hrun : Runs s.dev) (hn : n < 11) (he : (fget s.dev .east ALM_ENABLE_ALARMS).testBit n = false) :
    Completes (.almAlarm n) s (fun h =>
      (fget h .east ALM_STATUS_ACTIVE).testBit n = true ∧ RegsBut s.dev h [(.alm, 0x044)] ∧ SameButRegs s.dev h) := by
  have hf := frame_fset s.dev .east 0 0 ALM_STATUS_ACTIVE (fget s.dev .east ALM_STATUS_ACTIVE ||| 1 <<< n)
  have heq : alarm s.dev n = fset s.dev .east ALM_STATUS_ACTIVE (fget s.dev .east ALM_STATUS_ACTIVE ||| 1 <<< n) := by
    unfold alarm
    rw [if_pos (by omega)]
    simp only [if_neg (show n ≠ 11 by omega)]
    rw [hf.fget .east ALM_ENABLE_ALARMS (by decide) (by decide), he]
    rfl
  refine completes_of_eq (exec_almAlarm n) hrun heq ⟨?_, hf.2, rfl⟩
  rw [fget_eq_bget, fset_regs]
  simp (disch := decide) only [ALM_STATUS_ACTIVE, bget_bput_same]
  rw [Nat.testBit_mod_two_pow, Nat.testBit_or, Nat.one_shiftLeft, Nat.testBit_two_pow_self, Bool.or_true, Bool.and_true, decide_eq_true_eq]
  omega

theorem debugChallenge_sends (s : State) (hrun : Runs s.dev) (hf : firmwareRuns s.dev = true) :
    Completes .debugChallenge s (fun h => ∃ n : Nat, h.doc = { s.dev.doc with nonce := some n } ∧
      h.out = s.dev.out ++ [.debugChallenge (pget s.dev .east CHP_UID_LO_UID CHP_UID_HI_UID) n] ∧ h.regs = s.dev.regs ∧
      h.keys = s.dev.keys ∧ h.mem = s.dev.mem) :=
  completes_of_eq exec_debugChallenge hrun (if_pos hf) ⟨_, rfl, rfl, rfl, rfl, rfl⟩

/-- A debug session marked open and recorded. -/
def debugMarked (h : Head) : Head := setLifecycle (record { h with doc := { h.doc with noKeys := true } } 896 0x0101 0 false) 3

/-- A debug session opens: the keys erased, the token measured and recorded. -/
def debugOpened (h : Head) (digest : Nat) : Head := debugMarked (msrExtend (keyErase { h with doc := { h.doc with nonce := none } }) 31 digest)

theorem debugToken_good (h : Head) (nonce digest : Nat) (hf : firmwareRuns h = true) (hn : h.doc.nonce = some nonce) (hl : lifecycle h = 2)
    (hs : servesNone h = true) : debugToken h (pget h .east CHP_UID_LO_UID CHP_UID_HI_UID) nonce true digest = debugOpened h digest := by
  unfold debugToken
  rw [hf, hn, hl, hs]
  simp only [Bool.not_true, Bool.false_eq_true, if_false, Bool.true_and, beq_self_eq_true, if_true]
  rfl

theorem debugToken_bad (h : Head) (uid nonce digest : Nat) (sigOk : Bool) (hf : firmwareRuns h = true)
    (hb : sigOk = false ∨ h.doc.nonce ≠ some nonce ∨ lifecycle h ≠ 2 ∨ servesNone h = false) :
    debugToken h uid nonce sigOk digest = { h with doc := { h.doc with nonce := none } } := by
  have hgood : (sigOk && uid == pget h .east CHP_UID_LO_UID CHP_UID_HI_UID && h.doc.nonce == some nonce && lifecycle h == 2 && servesNone h) = false := by
    rw [Bool.eq_false_iff]
    intro hg
    simp only [Bool.and_eq_true, beq_iff_eq] at hg
    obtain ⟨⟨⟨⟨h0, -⟩, h2⟩, h3⟩, h4⟩ := hg
    rw [h0, h4] at hb
    simp [h2, h3] at hb
  unfold debugToken
  rw [hf, hgood]
  rfl

theorem setLifecycle_reads (h : Head) : lifecycle (setLifecycle h 3) = 3 ∧ fget (setLifecycle h 3) .east CHP_LIFECYCLE_DEBUG_OPEN = 1 := by
  simp only [lifecycle, setLifecycle, foldHead_wings, fget_eq_bget, fset_regs]
  simp (disch := decide) [CHP_LIFECYCLE_STATE, CHP_LIFECYCLE_DEBUG_OPEN]
  rfl

theorem frame_debugMarked (h : Head) : Frame [.doc, .arc, .evq] [(.chp, 0x058), (.prv, 0x010), (.prv, 0x04C), (.prv, 0x050), (.prv, 0x080)] h
    (debugMarked h) := by
  simp +decide only [debugMarked, (frame_setLifecycle ..).iff, (frame_record ..).iff, frame_mk, true_or, or_true, and_self, frame_refl]

theorem doc_debugMarked (h : Head) : (debugMarked h).doc = { h.doc with noKeys := true } :=
  ((frame_setLifecycle _ 3).1 .doc (by decide)).trans
    ((frame_record { h with doc := { h.doc with noKeys := true } } 896 0x0101 0 false).1 .doc (by decide))

theorem debugToken_opens (s : State) (nonce digest : Nat) (hrun : Runs s.dev) (hf : firmwareRuns s.dev = true) (hn : s.dev.doc.nonce = some nonce)
    (hl : lifecycle s.dev = 2) (hs : servesNone s.dev = true) :
    Completes (.debugToken (pget s.dev .east CHP_UID_LO_UID CHP_UID_HI_UID) nonce true digest) s (fun h =>
      lifecycle h = 3 ∧ fget h .east CHP_LIFECYCLE_DEBUG_OPEN = 1 ∧ h.keys = [] ∧ h.doc.noKeys = true ∧ h.doc.nonce = none ∧
        Extended s.dev h 31 digest ∧ h.mem = s.dev.mem) := by
  have heq := debugToken_good s.dev nonce digest hf hn hl hs
  have hk := frame_keyErase { s.dev with doc := { s.dev.doc with nonce := none } }
  have hkeys := keys_keyErase { s.dev with doc := { s.dev.doc with nonce := none } }
  have hkd : (keyErase { s.dev with doc := { s.dev.doc with nonce := none } }).doc = { s.dev.doc with nonce := none } := hk.1 .doc (by decide)
  have hkm : (keyErase { s.dev with doc := { s.dev.doc with nonce := none } }).mem = s.dev.mem := hk.1 .mem (by decide)
  have hmsr : msrValue (keyErase { s.dev with doc := { s.dev.doc with nonce := none } }) 31 = msrValue s.dev 31 := hk.msrValue (by decide) 31
  unfold debugOpened at heq
  generalize keyErase { s.dev with doc := { s.dev.doc with nonce := none } } = k at *
  obtain ⟨hext, -⟩ := msrExtend_extends k 31 digest (by decide)
  have hm := frame_msrExtend k 31 digest
  have hd := frame_debugMarked (msrExtend k 31 digest)
  have hdoc : (debugMarked (msrExtend k 31 digest)).doc = { s.dev.doc with nonce := none, noKeys := true } := by
    rw [doc_debugMarked, show (msrExtend k 31 digest).doc = k.doc from hm.1 .doc (by decide), hkd]
  obtain ⟨hstate, hopen⟩ := setLifecycle_reads
    (record { msrExtend k 31 digest with doc := { (msrExtend k 31 digest).doc with noKeys := true } } 896 0x0101 0 false)
  refine completes_of_eq (exec_debugToken _ nonce true digest) hrun heq ⟨hstate, hopen,
    (hd.1 .keys (by decide)).trans ((hm.1 .keys (by decide)).trans hkeys), by rw [hdoc], by rw [hdoc], ?_,
    (hd.1 .mem (by decide)).trans ((hm.1 .mem (by decide)).trans hkm)⟩
  unfold Extended at hext ⊢
  rw [hd.msrValue (by decide), hext, hmsr]

/-- Settles O50, clause by clause: each command's effect is its model's, and the frames of key erasure and measurement give the rest. -/
theorem docentMeasuresAndGuards : Obligations.DocentMeasuresAndGuards := by
  unfold Obligations.DocentMeasuresAndGuards
  refine ⟨release_releases, docChipReset_boots, alarmReset_boots, msrExtend_measures, msrArm_arms, fun s off len hrun hf i hi => ?_,
    spdmChallenge_answers, fun s index nonce hrun hf h1 h32 =>
      completes_of_eq (exec_getMeasurements index nonce) hrun (spdmMeasurements_one s.dev index nonce hf h1 h32) rfl,
    alarm_erases, alarm_shows, debugChallenge_sends, debugToken_opens, fun s uid nonce digest sigOk hrun hf hb =>
      completes_of_eq (exec_debugToken uid nonce sigOk digest) hrun (debugToken_bad s.dev uid nonce digest sigOk hf hb) rfl⟩
  simp only [List.mem_cons, List.not_mem_nil, or_false] at hi
  obtain rfl | rfl | rfl | rfl | rfl := hi
  · exact completes_of_eq exec_getVersion hrun (spdmAnswer_answers s.dev _ _ hf) rfl
  · exact completes_of_eq exec_getCapabilities hrun (spdmAnswer_answers s.dev _ _ hf) rfl
  · exact completes_of_eq exec_negotiateAlgorithms hrun (spdmAnswer_answers s.dev _ _ hf) rfl
  · exact completes_of_eq exec_getDigests hrun (spdmAnswer_answers s.dev _ _ hf) rfl
  · exact completes_of_eq (exec_getCertificate off len) hrun (spdmAnswer_answers s.dev _ _ hf) rfl

end Sys2Proof.Laws
end

section
/-! Docent's requests (R402, R415 to R418, R420, R447), and O52. -/

namespace Sys2Proof.Laws

open Machine Machine.Reg

/-! ### Requests and replies -/

theorem frame_docReply (h : Head) (entry code : Nat) (st : Status) (data : Wire) : Frame [.mem, .poison, .out] [] h (docReply h entry code st data) := by
  simp +decide only [docReply, send, (frame_memWrite ..).iff, frame_ite, frame_mk, true_or, or_true, and_self, frame_refl, ite_self]

/-- A head has sent nothing, written no memory and kept the request area's place since another. -/
structure Unanswered (g k : Head) : Prop where
  out : k.out = g.out
  mem : k.mem = g.mem
  area : ∀ entry, reqEntry k entry = reqEntry g entry

theorem Unanswered.trans {g k l : Head} (x : Unanswered g k) (y : Unanswered k l) : Unanswered g l :=
  ⟨y.out.trans x.out, y.mem.trans x.mem, fun e => (y.area e).trans (x.area e)⟩

theorem Frame.unanswered {l : List Part} {t : List (Block × Nat)} {g k : Head} (x : Frame l t g k) (ho : Part.out ∉ l) (hm : Part.mem ∉ l)
    (h0 : (Block.doc, 0x050) ∉ t) (h1 : (Block.doc, 0x054) ∉ t) : Unanswered g k where
  out := x.1 .out ho
  mem := x.1 .mem hm
  area entry := by
    unfold reqEntry pget
    rw [x.fget .east DOC_REQ_BASE_LO_ADDR h0 (by decide), x.fget .east DOC_REQ_BASE_HI_ADDR h1 (by decide)]

/-- A reply of a head that has sent and written nothing yet answers the request. -/
theorem docReply_answers {g k : Head} (x : Unanswered g k) (entry code : Nat) (st : Status) (data : Wire) :
    Answers g (docReply k entry code st data) entry code st data := by
  unfold docReply
  rw [x.area]
  by_cases h0 : data.len = 0
  · simp only [h0, if_true]
    exact ⟨congrArg (· ++ _) x.out, by rw [if_pos h0, ← x.mem]; rfl⟩
  · simp only [h0, if_false]
    exact ⟨congrArg (· ++ _) x.out, by rw [if_neg h0, ← x.mem]; rfl⟩

theorem docRequest_runs (h : Head) (entry code : Nat) (f : Head → Status × Wire × Head) (hf : firmwareRuns h = true) :
    docRequest h entry code f = docReply (f h).2.2 entry code (f h).1 (f h).2.1 := by
  unfold docRequest
  rw [hf]
  rfl

/-- The head as a signed request is carried out on it. -/
def requestCounted (h : Head) (counter : Nat) : Head := { h with doc := { h.doc with counter := counter } }

theorem frame_requestCounted (h : Head) (counter : Nat) : Frame [.doc] [] h (requestCounted h counter) := by
  simp +decide only [requestCounted, frame_mk, true_or, or_true, and_self, frame_refl]

theorem signedRequest_taken (h : Head) (r : SignedReq) (code : Nat) (f : Head → Status × Head) (hr : SignedTaken h r) :
    signedRequest h r code f = docReply (f (requestCounted h r.counter)).2 r.entry code (f (requestCounted h r.counter)).1 noReply := by
  have hgate : ¬ (r.uid ≠ pget h .east CHP_UID_LO_UID CHP_UID_HI_UID ∨ r.counter ≤ h.doc.counter) := by
    have := hr.uid
    have := hr.above
    grind
  rw [signedRequest, docRequest_runs h r.entry code _ hr.firmware]
  simp only [if_neg hgate, hr.signature, Nat.mod_eq_of_lt hr.width, Bool.not_true, Bool.false_eq_true, if_false]
  rfl

/-- A signed request's reply, with what its action made of the head. -/
theorem signedRequest_acts {h : Head} {r : SignedReq} (code : Nat) {f : Head → Status × Head} {st : Status} {k : Head} (hr : SignedTaken h r)
    (hf : f (requestCounted h r.counter) = (st, k)) : signedRequest h r code f = docReply k r.entry code st noReply := by
  rw [signedRequest_taken h r code f hr, hf]

theorem signedRequest_refused (h : Head) (r : SignedReq) (code : Nat) (f : Head → Status × Head) (hf : firmwareRuns h = true)
    (hr : r.uid ≠ pget h .east CHP_UID_LO_UID CHP_UID_HI_UID ∨ r.counter ≤ h.doc.counter ∨ r.sigOk = false) :
    signedRequest h r code f = docReply h r.entry code
      (if r.uid ≠ pget h .east CHP_UID_LO_UID CHP_UID_HI_UID ∨ r.counter ≤ h.doc.counter then .protocol else .checkFail) noReply := by
  rw [signedRequest, docRequest_runs h r.entry code _ hf]
  by_cases hg : r.uid ≠ pget h .east CHP_UID_LO_UID CHP_UID_HI_UID ∨ r.counter ≤ h.doc.counter
  · simp only [if_pos hg]
  · have hs : r.sigOk = false := by grind
    simp only [if_neg hg, hs, Bool.not_false, if_true]

theorem withImage_done (p : Status × Head) (f : Head → Head) (hp : p.1 = .done) : withImage p f = (.done, writeImage (f p.2)) := by
  unfold withImage
  rw [if_pos hp]

theorem frame_writeImage (h : Head) : Frame [.doc] [] h (writeImage h) := by
  simp +decide only [writeImage, frame_mk, true_or, or_true, and_self, frame_refl]

theorem imageGen_writeImage (h : Head) : (writeImage h).doc.imageGen = h.doc.imageGen + 1 ∧ (writeImage h).doc.counter = h.doc.counter ∧
    (writeImage h).doc.peers = h.doc.peers ∧ (writeImage h).doc.agree = h.doc.agree := ⟨rfl, rfl, rfl, rfl⟩

theorem doc_docReply (h : Head) (entry code : Nat) (st : Status) (data : Wire) : (docReply h entry code st data).doc = h.doc :=
  (frame_docReply h entry code st data).1 .doc (by decide)

theorem regs_docReply (h : Head) (entry code : Nat) (st : Status) (data : Wire) : (docReply h entry code st data).regs = h.regs := by
  unfold docReply
  dsimp only
  split <;> rfl

/-- A request carried out: the image written and the reply sent. -/
theorem frame_imageReplied (h : Head) (entry code : Nat) (st : Status) (data : Wire) :
    Frame [.doc, .mem, .poison, .out] [] h (docReply (writeImage h) entry code st data) :=
  ((frame_writeImage h).mono (by decide) (by decide)).trans ((frame_docReply _ _ _ _ _).mono (by decide) (by decide))

/-! ### Key slots -/

theorem keyState_setKeyState (h : Head) (id st : Nat) (hs : st < 4) : keyState (setKeyState h id st) id = st := by
  unfold setKeyState
  dsimp only
  split
  next he => exact he
  next =>
    unfold keyState
    rw [(frame_raise _ .east 0 Ev.KEY_SLOT_CHANGED).fget .east KEY_SLOT_ATTR_STATE (by decide) (by decide), fget_eq_bget, fset_regs]
    exact bget_bput_same_of_lt _ _ _ _ _ _ _ _ _ (by decide) (by decide) hs

/-- A slot's attributes beside its STATE. -/
def slotAttr (h : Head) (id : Nat) : Nat × Nat × Nat × Nat :=
  (keyKind h id, keyUsage h id, keyColl h id, fget h .east KEY_SLOT_ATTR_SYSTEM id)

theorem slotAttr_setKeyState (h : Head) (id st : Nat) : slotAttr (setKeyState h id st) id = slotAttr h id := by
  unfold setKeyState
  dsimp only
  split
  · rfl
  · have hr := frame_raise (fset (fset h .east KEY_STATUS_ACTIVE
      (if st = 2 then fget h .east KEY_STATUS_ACTIVE + 1 else if keyState h id = 2 then fget h .east KEY_STATUS_ACTIVE - 1 else fget h .east KEY_STATUS_ACTIVE))
      .east KEY_SLOT_ATTR_STATE st id) .east 0 Ev.KEY_SLOT_CHANGED
    unfold slotAttr keyKind keyUsage keyColl
    rw [hr.fget .east KEY_SLOT_ATTR_KIND (by decide) (by decide), hr.fget .east KEY_SLOT_ATTR_USAGE (by decide) (by decide),
      hr.fget .east KEY_SLOT_ATTR_COLL (by decide) (by decide), hr.fget .east KEY_SLOT_ATTR_SYSTEM (by decide) (by decide)]
    simp only [fget_eq_bget, fset_regs]
    simp (disch := decide) [KEY_SLOT_ATTR_KIND, KEY_SLOT_ATTR_USAGE, KEY_SLOT_ATTR_COLL, KEY_SLOT_ATTR_SYSTEM, KEY_SLOT_ATTR_STATE, KEY_STATUS_ACTIVE]

/-- The head whose slot holds a fresh key, before its STATE moves. -/
def slotKeyed (h : Head) (id v : Nat) : Head :=
  let n := keyBytes (keyKind h id)
  let (k, h) := fresh h
  let salt := if keyKind h id = 2 then Config.random k % 2 ^ 32 else 0
  let h := { h with keys := tabStore h.keys 0 id (v % 2 ^ (8 * n) + salt <<< (8 * n)) }
  let h := { h with eng := { h.eng with gcmCount := tabDel h.eng.gcmCount id } }
  fset h .east KEY_SLOT_GEN_GEN ((keyGen h id + 1) % 65536) id

theorem fillSlot_eq (h : Head) (id v : Nat) : fillSlot h id v = setKeyState (slotKeyed h id v) id 1 := rfl

theorem frame_slotKeyed (h : Head) (id v : Nat) : Frame [.keys, .eng, .freeCtr] [(.key, 0x04C)] h (slotKeyed h id v) := by
  simp +decide only [slotKeyed, fresh, frame_rules, frame_mk, true_or, or_true, and_self, frame_refl]

theorem keyValue_slotKeyed (h : Head) (id v : Nat) : keyValue (slotKeyed h id v) id % 2 ^ (8 * keyBytes (keyKind h id)) =
    v % 2 ^ (8 * keyBytes (keyKind h id)) ∧ ∀ j, j ≠ id → keyValue (slotKeyed h id v) j = keyValue h j := by
  refine ⟨?_, fun j hj => tabGet_tabStore_other _ _ _ _ hj⟩
  have hv : keyValue (slotKeyed h id v) id = v % 2 ^ (8 * keyBytes (keyKind h id)) +
      (if keyKind (fresh h).2 id = 2 then Config.random (fresh h).1 % 2 ^ 32 else 0) <<< (8 * keyBytes (keyKind h id)) := tabGet_tabStore_same _ _ _ _
  rw [hv, Nat.shiftLeft_eq, Nat.add_mul_mod_self_right, Nat.mod_mod]

theorem Frame.slotAttr {l : List Part} {t : List (Block × Nat)} {h g : Head} (x : Frame l t h g) (h0 : (Block.key, 0x048) ∉ t) (id : Nat) :
    slotAttr g id = Laws.slotAttr h id := by
  unfold Laws.slotAttr keyKind keyUsage keyColl
  rw [x.fget .east KEY_SLOT_ATTR_KIND h0 (by decide), x.fget .east KEY_SLOT_ATTR_USAGE h0 (by decide),
    x.fget .east KEY_SLOT_ATTR_COLL h0 (by decide), x.fget .east KEY_SLOT_ATTR_SYSTEM h0 (by decide)]

theorem Frame.keyValue {l : List Part} {t : List (Block × Nat)} {h g : Head} (x : Frame l t h g) (hk : Part.keys ∉ l) (id : Nat) :
    keyValue g id = Machine.keyValue h id := by
  unfold Machine.keyValue
  rw [show g.keys = h.keys from x.1 .keys hk]

/-- What a fill leaves of its slot and of the others' values. -/
theorem fillSlot_fills (h : Head) (id v : Nat) : keyState (fillSlot h id v) id = 1 ∧ slotAttr (fillSlot h id v) id = slotAttr h id ∧
    keyValue (fillSlot h id v) id % 2 ^ (8 * keyBytes (keyKind h id)) = v % 2 ^ (8 * keyBytes (keyKind h id)) ∧
    ∀ j, j ≠ id → keyValue (fillSlot h id v) j = keyValue h j := by
  obtain ⟨hv, hj⟩ := keyValue_slotKeyed h id v
  have hs := frame_setKeyState (slotKeyed h id v) id 1
  rw [fillSlot_eq]
  refine ⟨keyState_setKeyState _ _ _ (by decide), ?_, ?_, fun j hne => ?_⟩
  · rw [slotAttr_setKeyState, (frame_slotKeyed h id v).slotAttr (by decide)]
  · rw [hs.keyValue (by decide)]
    exact hv
  · rw [hs.keyValue (by decide)]
    exact hj j hne

/-- The fingerprint states of the bindings that name a slot. -/
def statesLoaded (h : Head) (id : Nat) : Head := foldHead h (h.bindings.filter (fun e => e.2.fpSlot == id)) (fun h e => setFpState h e.1 true)

theorem frame_statesLoaded (h : Head) (id : Nat) : Frame [.eng] [(.dge, 0x05C)] h (statesLoaded h id) := by
  simp +decide only [statesLoaded, frame_foldHead, (frame_setFpState ..).iff, frame_refl, implies_true]

theorem activateSlot_loaded (h : Head) (id : Nat) (hs : keyState h id = 1) : activateSlot h id = (.done, statesLoaded (setKeyState h id 2) id) := by
  unfold activateSlot
  rw [if_neg (by simp [hs])]
  rfl

theorem slotAttr_setAttr (h : Head) (id kind usage coll : Nat) (system : Bool) (hk : kind < 8) (hu : usage < 8) (hc : coll < 4096) :
    slotAttr (setAttr h id kind usage system coll) id = (kind, usage, coll, ofBool system) := by
  unfold slotAttr keyKind keyUsage keyColl setAttr
  simp only [fget_eq_bget, fset_regs]
  have hb : ofBool system < 2 := by cases system <;> decide
  simp (disch := decide) [KEY_SLOT_ATTR_KIND, KEY_SLOT_ATTR_USAGE, KEY_SLOT_ATTR_COLL, KEY_SLOT_ATTR_SYSTEM]
  omega

/-- A key placed by Docent firmware: its slot is ACTIVE with the attributes and the key asked for. -/
theorem placeKey_places (h : Head) (id kind usage coll v : Nat) (system : Bool) (hs : keyState h id = 0) (hk0 : kind ≠ 0) (hn : h.doc.noKeys = false)
    (hk : kind < 8) (hu : usage < 8) (hc : coll < 4096) : let p := placeKey h id kind usage system coll v
    p.1 = .done ∧ keyState p.2 id = 2 ∧ slotAttr p.2 id = (kind, usage, coll, ofBool system) ∧
      keyValue p.2 id % 2 ^ (8 * keyBytes kind) = v % 2 ^ (8 * keyBytes kind) ∧ ∀ j, j ≠ id → keyValue p.2 j = keyValue h j := by
  have ha := slotAttr_setAttr h id kind usage coll system hk hu hc
  have hset := frame_setAttr h id kind usage system coll
  have hadd := frame_fadd (setAttr h id kind usage system coll) .east 0 0 KEY_CNT_LOAD_COUNT 1
  obtain ⟨hst, hattr, hval, hother⟩ := fillSlot_fills (fadd (setAttr h id kind usage system coll) .east KEY_CNT_LOAD_COUNT) id v
  have hattr' : slotAttr (fadd (setAttr h id kind usage system coll) .east KEY_CNT_LOAD_COUNT) id = (kind, usage, coll, ofBool system) :=
    (hadd.slotAttr (by decide) id).trans ha
  have hkind : keyKind (fadd (setAttr h id kind usage system coll) .east KEY_CNT_LOAD_COUNT) id = kind := congrArg Prod.fst hattr'
  rw [hkind] at hval
  have hothers (j : Nat) (hj : j ≠ id) : keyValue (fillSlot (fadd (setAttr h id kind usage system coll) .east KEY_CNT_LOAD_COUNT) id v) j = keyValue h j :=
    (hother j hj).trans ((hadd.keyValue (by decide) j).trans (hset.keyValue (by decide) j))
  have heq : placeKey h id kind usage system coll v =
      activateSlot (fillSlot (fadd (setAttr h id kind usage system coll) .east KEY_CNT_LOAD_COUNT) id v) id := by
    unfold placeKey
    rw [if_neg (by simp [hs, hk0, hn])]
  rw [hattr'] at hattr
  rw [heq, activateSlot_loaded _ id hst]
  generalize fillSlot (fadd (setAttr h id kind usage system coll) .east KEY_CNT_LOAD_COUNT) id v = k at *
  have hl := frame_statesLoaded (setKeyState k id 2) id
  have hsk := frame_setKeyState k id 2
  have hv (j : Nat) : keyValue (statesLoaded (setKeyState k id 2) id) j = keyValue k j := (hl.keyValue (by decide) j).trans (hsk.keyValue (by decide) j)
  refine ⟨rfl, ?_, ?_, ?_, fun j hj => (hv j).trans (hothers j hj)⟩
  · exact (hl.fget .east KEY_SLOT_ATTR_STATE (by decide) (by decide) id 0).trans (keyState_setKeyState k id 2 (by decide))
  · rw [hl.slotAttr (by decide), slotAttr_setKeyState, hattr]
  · rw [hv]
    exact hval

/-! ### Signed requests -/

theorem dataUsage_kind {kind usage : Nat} (hu : dataUsage kind usage = true) : kind ≠ 0 := by
  rintro rfl
  simp [dataUsage] at hu

theorem importKey_imports (s : State) (r : SignedReq) (slot kind usage coll blob k : Nat) (system : Bool) (hrun : Runs s.dev)
    (hr : SignedTaken s.dev r) (hslot : slot < 8192) (hcoll : coll < 4096) (hkind : kind < 8) (husage : usage < 8)
    (hu : dataUsage kind usage = true) (hs : keyState s.dev slot = 0) (hn : s.dev.doc.noKeys = false) (hi : s.dev.doc.importKey = some k) :
    Completes (.importKey r slot kind usage system coll blob) s (fun h => h.doc.counter = r.counter ∧
      (∀ j, j ≠ slot → keyValue h j = keyValue s.dev j) ∧
      match Config.keyUnwrap k (keyBytes kind + 8) blob with
      | some v => Answers s.dev h r.entry 1 .done noReply ∧ keyState h slot = 2 ∧ keyKind h slot = kind ∧ keyUsage h slot = usage ∧
          keyColl h slot = coll ∧ keyValue h slot % 2 ^ (8 * keyBytes kind) = v % 2 ^ (8 * keyBytes kind) ∧
          h.doc.imageGen = s.dev.doc.imageGen + 1 ∧ Extended s.dev h 25 r.digest
      | none => Answers s.dev h r.entry 1 .checkFail noReply ∧ keyState h slot = 0 ∧ h.doc.imageGen = s.dev.doc.imageGen) := by
  have heq := signedRequest_taken s.dev r 1 (fun h => withImage (
    if 8192 ≤ slot ∨ 4096 ≤ coll ∨ dataUsage kind usage = false ∨ keyState h slot ≠ 0 then (.protocol, h)
    else match h.doc.importKey with
      | none => (.keyInvalid, h)
      | some k => match Config.keyUnwrap k (keyBytes kind + 8) blob with
        | none => (.checkFail, h)
        | some v => placeKey h slot kind usage system coll v)
    (fun h => msrExtend h 25 r.digest)) hr
  have hc := frame_requestCounted s.dev r.counter
  have hgate : ¬ (8192 ≤ slot ∨ 4096 ≤ coll ∨ dataUsage kind usage = false ∨ keyState (requestCounted s.dev r.counter) slot ≠ 0) := by
    have : keyState (requestCounted s.dev r.counter) slot = 0 := hs
    simp [hu, this]
    omega
  have hik : (requestCounted s.dev r.counter).doc.importKey = some k := hi
  simp only [if_neg hgate, hik] at heq
  cases hun : Config.keyUnwrap k (keyBytes kind + 8) blob with
  | none =>
    simp only [hun, withImage, reduceCtorEq, if_false] at heq
    have hd := frame_docReply (requestCounted s.dev r.counter) r.entry 1 .checkFail noReply
    exact completes_of_eq (exec_importKey r slot kind usage system coll blob) hrun heq ⟨rfl, fun j _ => rfl,
      docReply_answers (hc.unanswered (by decide) (by decide) (by decide) (by decide)) _ _ _ _, hs, rfl⟩
  | some v =>
    obtain ⟨hdone, hst, hattr, hval, hother⟩ := placeKey_places (requestCounted s.dev r.counter) slot kind usage coll v system hs
      (dataUsage_kind hu) hn hkind husage hcoll
    have hp := frame_placeKey (requestCounted s.dev r.counter) slot kind usage system coll v
    simp only [hun, withImage_done _ _ hdone] at heq
    generalize (placeKey (requestCounted s.dev r.counter) slot kind usage system coll v).2 = p at *
    have hpd : p.doc = (requestCounted s.dev r.counter).doc := hp.1 .doc (by decide)
    have hm := frame_msrExtend p 25 r.digest
    have hmd : (msrExtend p 25 r.digest).doc = p.doc := hm.1 .doc (by decide)
    obtain ⟨hext, -⟩ := msrExtend_extends p 25 r.digest (by decide)
    have hun : Unanswered s.dev (writeImage (msrExtend p 25 r.digest)) :=
      (hc.unanswered (by decide) (by decide) (by decide) (by decide)).trans ((hp.unanswered (by decide) (by decide) (by decide) (by decide)).trans
        ((hm.unanswered (by decide) (by decide) (by decide) (by decide)).trans
          ((frame_writeImage _).unanswered (by decide) (by decide) (by decide) (by decide))))
    have hi := frame_imageReplied (msrExtend p 25 r.digest) r.entry 1 .done noReply
    have hv (j : Nat) : keyValue (docReply (writeImage (msrExtend p 25 r.digest)) r.entry 1 .done noReply) j = keyValue p j :=
      (hi.keyValue (by decide) j).trans (hm.keyValue (by decide) j)
    have hat : slotAttr (docReply (writeImage (msrExtend p 25 r.digest)) r.entry 1 .done noReply) slot = (kind, usage, coll, ofBool system) :=
      (hi.slotAttr (by decide) slot).trans ((hm.slotAttr (by decide) slot).trans hattr)
    have hdoc := doc_docReply (writeImage (msrExtend p 25 r.digest)) r.entry 1 .done noReply
    refine completes_of_eq (exec_importKey r slot kind usage system coll blob) hrun heq ⟨?_, fun j hj => (hv j).trans (hother j hj), docReply_answers hun _ _ _ _, ?_,
      congrArg Prod.fst hat, congrArg (·.2.1) hat, congrArg (·.2.2.1) hat, ?_, ?_, ?_⟩
    · rw [hdoc, (imageGen_writeImage _).2.1, hmd, hpd]
      rfl
    · exact (hi.fget .east KEY_SLOT_ATTR_STATE (by decide) (by decide) slot 0).trans ((hm.fget .east KEY_SLOT_ATTR_STATE (by decide) (by decide) slot 0).trans hst)
    · rw [hv]
      exact hval
    · rw [hdoc, (imageGen_writeImage _).1, hmd, hpd]
      rfl
    · unfold Extended at hext ⊢
      rw [hi.msrValue (by decide), hext, hp.msrValue (by decide)]
      rfl

/-- A binding committed where none stood: its entry in force, its fingerprint states held, the commit measured. -/
def bindingCommitted (h : Head) (i : Nat) (b : Binding) : Head :=
  let h := syncBinding { h with bindings := tabPut h.bindings i b } i
  raise (msrExtend (setFpState h i true) 24 (sha384 16 (bindEntry i b))) .east Ev.KEY_BIND_CHANGED

theorem commitBinding_new (h : Head) (i : Nat) (b : Binding) (hm : bindable h i b.mediaSlot 1 0 = true) (hf : bindable h i b.fpSlot 4 1 = true)
    (hn : tabGet? h.bindings i = none) : commitBinding h i b = (.done, bindingCommitted h i b) := by
  unfold commitBinding
  rw [hm, hf, hn]
  rfl

theorem frame_bindingCommitted (h : Head) (i : Nat) (b : Binding) : Frame [.bindings, .eng, .evq]
    ([(.dge, 0x05C), (.key, 0x010), (.key, 0x064), (.key, 0x068), (.rgs, 0x054), (.rpl, 0x054)] ++ msrRegs) h (bindingCommitted h i b) := by
  simp +decide only [bindingCommitted, frame_rules, (frame_msrExtend ..).iff, (frame_setFpState ..).iff, (frame_syncBinding ..).iff, frame_mk, true_or,
    or_true, and_self, frame_refl]

theorem bindingCommitted_binds (h : Head) (i : Nat) (b : Binding) : tabGet? (bindingCommitted h i b).bindings i = some b ∧
    Extended h (bindingCommitted h i b) 24 (sha384 16 (bindEntry i b)) := by
  have hs := frame_syncBinding { h with bindings := tabPut h.bindings i b } i
  have hb : (syncBinding { h with bindings := tabPut h.bindings i b } i).bindings = tabPut h.bindings i b := hs.1 .bindings (by decide)
  have hv : msrValue (syncBinding { h with bindings := tabPut h.bindings i b } i) 24 = msrValue h 24 := hs.msrValue (by decide) 24
  unfold bindingCommitted
  generalize syncBinding { h with bindings := tabPut h.bindings i b } i = k at *
  have hf := frame_setFpState k i true
  obtain ⟨hext, -⟩ := msrExtend_extends (setFpState k i true) 24 (sha384 16 (bindEntry i b)) (by decide)
  have hm := frame_msrExtend (setFpState k i true) 24 (sha384 16 (bindEntry i b))
  have hr := frame_raise (msrExtend (setFpState k i true) 24 (sha384 16 (bindEntry i b))) .east 0 Ev.KEY_BIND_CHANGED
  have hbind : (raise (msrExtend (setFpState k i true) 24 (sha384 16 (bindEntry i b))) .east Ev.KEY_BIND_CHANGED).bindings = tabPut h.bindings i b :=
    (hr.1 .bindings (by decide)).trans ((hm.1 .bindings (by decide)).trans ((hf.1 .bindings (by decide)).trans hb))
  refine ⟨by rw [hbind, tabGet?_tabPut_same], ?_⟩
  unfold Extended at hext ⊢
  rw [hr.msrValue (by decide), hext, hf.msrValue (by decide), hv]

/-- The peers of a collection noted. -/
def peersPut (h : Head) (i : Nat) (uids : List Nat) : Head := { h with doc := { h.doc with peers := tabPut h.doc.peers i uids } }

theorem frame_peersPut (h : Head) (i : Nat) (uids : List Nat) : Frame [.doc] [] h (peersPut h i uids) := by
  simp +decide only [peersPut, frame_mk, true_or, or_true, and_self, frame_refl]

theorem reqBind_binds (s : State) (r : SignedReq) (i : Nat) (e : Word × Word) (uids : List Nat) (b : Binding) (hrun : Runs s.dev)
    (hr : SignedTaken s.dev r) (hi : i < 4096) (hl : uids.length ≤ 16)
    (hb : b = staged { s.dev with doc := { s.dev.doc with stageId := e.1, stageSlots := e.2 } }) (hm : bindable s.dev i b.mediaSlot 1 0 = true)
    (hf : bindable s.dev i b.fpSlot 4 1 = true) (hn : tabGet? s.dev.bindings i = none) :
    Completes (.reqBind r i e uids) s (fun h =>
      Answers s.dev h r.entry 2 .done noReply ∧ tabGet? h.bindings i = some b ∧ tabGet? h.doc.peers i = some uids ∧
        h.doc.counter = r.counter ∧ Extended s.dev h 24 (sha384 16 (bindEntry i b))) := by
  let g := { requestCounted s.dev r.counter with doc := { (requestCounted s.dev r.counter).doc with stageId := e.1, stageSlots := e.2 } }
  have hg : Frame [.doc] [] s.dev g := by
    simp +decide only [g, requestCounted, frame_mk, true_or, or_true, and_self, frame_refl]
  have hcommit : commitBinding g i (staged g) = (.done, bindingCommitted g i b) := by
    rw [show staged g = b from hb.symm]
    exact commitBinding_new g i b hm hf hn
  have hwide : ¬ (16 < uids.length ∨ 4096 ≤ i) := by omega
  have heq : reqBind s.dev r i e uids = docReply (writeImage (peersPut (bindingCommitted g i b) i uids)) r.entry 2 .done noReply := by
    refine signedRequest_acts 2 hr ?_
    simp only [if_neg hwide]
    rw [hcommit]
    rfl
  obtain ⟨hbind, hext⟩ := bindingCommitted_binds g i b
  have hk := frame_bindingCommitted g i b
  generalize bindingCommitted g i b = k at *
  have hp := frame_peersPut k i uids
  have hi := frame_imageReplied (peersPut k i uids) r.entry 2 .done noReply
  have hun : Unanswered s.dev (writeImage (peersPut k i uids)) :=
    (hg.unanswered (by decide) (by decide) (by decide) (by decide)).trans ((hk.unanswered (by decide) (by decide) (by decide) (by decide)).trans
      ((hp.unanswered (by decide) (by decide) (by decide) (by decide)).trans
        ((frame_writeImage _).unanswered (by decide) (by decide) (by decide) (by decide))))
  have hkd : k.doc = g.doc := hk.1 .doc (by decide)
  refine completes_of_eq (exec_reqBind r i e uids) hrun heq ⟨docReply_answers hun _ _ _ _, ?_, ?_, ?_, ?_⟩
  · rw [hi.1 .bindings (by decide), hp.1 .bindings (by decide), hbind]
  · rw [doc_docReply]
    exact tabGet?_tabPut_same _ _ _
  · rw [doc_docReply]
    show k.doc.counter = r.counter
    rw [hkd]
    rfl
  · unfold Extended at hext ⊢
    rw [hi.msrValue (by decide), hp.msrValue (by decide), hext, hg.msrValue (by decide)]

/-- A binding removed: its entry and its fingerprint states gone. -/
def bindingRemoved (h : Head) (i : Nat) : Head :=
  let h := setFpState h i false
  raise (syncBinding (syncFpStates { h with bindings := tabDel h.bindings i }) i) .east Ev.KEY_BIND_CHANGED

theorem unbind_bound (h : Head) (i : Nat) (hb : tabHas h.bindings i = true) (hn : ∀ e ∈ h.cat.nss, e.2.coll ≠ i) :
    unbind h i = (.done, bindingRemoved h i) := by
  have hnone : (h.cat.nss.any (fun e => e.2.coll == i)) = false := by
    rw [List.any_eq_false]
    intro e he hc
    exact hn e he (by simpa using hc)
  unfold unbind
  rw [hnone, hb]
  rfl

theorem frame_bindingRemoved (h : Head) (i : Nat) : Frame [.bindings, .eng, .evq]
    [(.dge, 0x05C), (.key, 0x010), (.key, 0x064), (.key, 0x068), (.rgs, 0x054), (.rpl, 0x054)] h (bindingRemoved h i) := by
  simp +decide only [bindingRemoved, frame_rules, (frame_setFpState ..).iff, (frame_syncFpStates ..).iff, (frame_syncBinding ..).iff, frame_mk, true_or,
    or_true, and_self, frame_refl]

theorem bindings_bindingRemoved (h : Head) (i : Nat) : tabGet? (bindingRemoved h i).bindings i = none := by
  have hb : (bindingRemoved h i).bindings = tabDel (setFpState h i false).bindings i :=
    ((frame_raise _ .east 0 Ev.KEY_BIND_CHANGED).1 .bindings (by decide)).trans
      (((frame_syncBinding _ i).1 .bindings (by decide)).trans ((frame_syncFpStates _).1 .bindings (by decide)))
  rw [hb, tabGet?_tabDel_same]

/-- A collection's peers forgotten. -/
def peersDel (h : Head) (i : Nat) : Head := { h with doc := { h.doc with peers := tabDel h.doc.peers i } }

theorem frame_peersDel (h : Head) (i : Nat) : Frame [.doc] [] h (peersDel h i) := by
  simp +decide only [peersDel, frame_mk, true_or, or_true, and_self, frame_refl]

theorem reqUnbind_unbinds (s : State) (r : SignedReq) (i : Nat) (hrun : Runs s.dev) (hr : SignedTaken s.dev r) (hi : i < 4096)
    (hb : tabHas s.dev.bindings i = true) (hn : ∀ e ∈ s.dev.cat.nss, e.2.coll ≠ i) :
    Completes (.reqUnbind r i) s (fun h =>
      Answers s.dev h r.entry 3 .done noReply ∧ tabGet? h.bindings i = none ∧ tabGet? h.doc.peers i = none ∧ h.doc.counter = r.counter) := by
  have heq : reqUnbind s.dev r i = docReply (writeImage (peersDel (bindingRemoved (requestCounted s.dev r.counter) i) i)) r.entry 3 .done noReply := by
    refine signedRequest_acts 3 hr ?_
    rw [if_neg (by omega), unbind_bound (requestCounted s.dev r.counter) i hb hn]
    rfl
  have hc := frame_requestCounted s.dev r.counter
  have hgone := bindings_bindingRemoved (requestCounted s.dev r.counter) i
  have hk := frame_bindingRemoved (requestCounted s.dev r.counter) i
  generalize bindingRemoved (requestCounted s.dev r.counter) i = k at *
  have hp := frame_peersDel k i
  have hi := frame_imageReplied (peersDel k i) r.entry 3 .done noReply
  have hun : Unanswered s.dev (writeImage (peersDel k i)) :=
    (hc.unanswered (by decide) (by decide) (by decide) (by decide)).trans ((hk.unanswered (by decide) (by decide) (by decide) (by decide)).trans
      ((hp.unanswered (by decide) (by decide) (by decide) (by decide)).trans
        ((frame_writeImage _).unanswered (by decide) (by decide) (by decide) (by decide))))
  have hkd : k.doc = (requestCounted s.dev r.counter).doc := hk.1 .doc (by decide)
  refine completes_of_eq (exec_reqUnbind r i) hrun heq ⟨docReply_answers hun _ _ _ _, ?_, ?_, ?_⟩
  · rw [hi.1 .bindings (by decide), hp.1 .bindings (by decide), hgone]
  · rw [doc_docReply]
    exact tabGet?_tabDel_same _ _
  · rw [doc_docReply]
    show k.doc.counter = r.counter
    rw [hkd]
    rfl

/-- A slot and its key gone. -/
def slotZeroised (h : Head) (id : Nat) : Head := setKeyState { forgetKey h id with keys := tabDel h.keys id } id 0

theorem zeroiseSlot_data (h : Head) (id : Nat) (hid : id < 8192) (hs : keyState h id ≠ 0) (hb : boundSlot h id = false) :
    zeroiseSlot h id = (.done, slotZeroised h id) := by
  unfold zeroiseSlot
  rw [hb, if_neg (by simp; omega), if_neg hs]
  rfl

theorem frame_slotZeroised (h : Head) (id : Nat) : Frame [.eng, .keys, .evq] [(.key, 0x010), (.key, 0x048), (.key, 0x05C)] h (slotZeroised h id) := by
  simp +decide only [slotZeroised, (frame_setKeyState ..).iff, (frame_forgetKey ..).iff, frame_mk, true_or, or_true, and_self, frame_refl]

theorem slotZeroised_empty (h : Head) (id : Nat) : keyState (slotZeroised h id) id = 0 ∧ keyValue (slotZeroised h id) id = 0 := by
  refine ⟨keyState_setKeyState _ _ _ (by decide), ?_⟩
  rw [slotZeroised, (frame_setKeyState _ id 0).keyValue (by decide)]
  show (tabGet? (tabDel h.keys id) id).getD 0 = 0
  rw [tabGet?_tabDel_same]
  rfl

theorem reqZeroise_zeroises (s : State) (r : SignedReq) (slot : Nat) (hrun : Runs s.dev) (hr : SignedTaken s.dev r) (hslot : slot < 8192)
    (hs : keyState s.dev slot ≠ 0) (hb : boundSlot s.dev slot = false) :
    Completes (.reqZeroise r slot) s (fun h =>
      Answers s.dev h r.entry 4 .done noReply ∧ keyState h slot = 0 ∧ keyValue h slot = 0 ∧ h.doc.counter = r.counter ∧
        Extended s.dev h 25 r.digest) := by
  have heq : reqZeroise s.dev r slot =
      docReply (writeImage (msrExtend (slotZeroised (requestCounted s.dev r.counter) slot) 25 r.digest)) r.entry 4 .done noReply := by
    refine signedRequest_acts 4 hr ?_
    rw [if_neg (by omega), zeroiseSlot_data (requestCounted s.dev r.counter) slot hslot hs hb]
    rfl
  have hc := frame_requestCounted s.dev r.counter
  have hp := frame_slotZeroised (requestCounted s.dev r.counter) slot
  obtain ⟨hst, hval⟩ := slotZeroised_empty (requestCounted s.dev r.counter) slot
  have hpd : (slotZeroised (requestCounted s.dev r.counter) slot).doc = (requestCounted s.dev r.counter).doc := hp.1 .doc (by decide)
  generalize slotZeroised (requestCounted s.dev r.counter) slot = p at *
  have hm := frame_msrExtend p 25 r.digest
  have hmd : (msrExtend p 25 r.digest).doc = p.doc := hm.1 .doc (by decide)
  obtain ⟨hext, -⟩ := msrExtend_extends p 25 r.digest (by decide)
  have hun : Unanswered s.dev (writeImage (msrExtend p 25 r.digest)) :=
    (hc.unanswered (by decide) (by decide) (by decide) (by decide)).trans ((hp.unanswered (by decide) (by decide) (by decide) (by decide)).trans
      ((hm.unanswered (by decide) (by decide) (by decide) (by decide)).trans
        ((frame_writeImage _).unanswered (by decide) (by decide) (by decide) (by decide))))
  have hi := frame_imageReplied (msrExtend p 25 r.digest) r.entry 4 .done noReply
  refine completes_of_eq (exec_reqZeroise r slot) hrun heq ⟨docReply_answers hun _ _ _ _, ?_, ?_, ?_, ?_⟩
  · exact (hi.fget .east KEY_SLOT_ATTR_STATE (by decide) (by decide) slot 0).trans
      ((hm.fget .east KEY_SLOT_ATTR_STATE (by decide) (by decide) slot 0).trans hst)
  · rw [hi.keyValue (by decide), hm.keyValue (by decide), hval]
  · rw [doc_docReply, (imageGen_writeImage _).2.1, hmd, hpd]
    rfl
  · unfold Extended at hext ⊢
    rw [hi.msrValue (by decide), hext, hp.msrValue (by decide)]
    rfl

/-! ### Unsigned requests -/

theorem reqArm_arms (s : State) (entry mask : Nat) (hrun : Runs s.dev) (hf : firmwareRuns s.dev = true) (hm : mask % 2 ^ 10 = 0) (hl : mask < 2 ^ 24) :
    Completes (.armMeasure entry mask) s (fun h =>
      Answers s.dev h entry 5 .done noReply ∧ fget h .east MSR_ARMED_ARMED = (fget s.dev .east MSR_ARMED_ARMED ||| mask >>> 10) ∧
        RegsBut s.dev h [(.msr, 0x0A8)] ∧ h.keys = s.dev.keys) := by
  have heq : reqArm s.dev entry mask = docReply (msrArmEffect s.dev mask) entry 5 .done noReply := by
    rw [reqArm, docRequest_runs _ _ _ _ hf]
    simp only [if_neg (show ¬ (mask % 2 ^ 10 ≠ 0 ∨ 2 ^ 24 ≤ mask) by omega)]
  have ha : Frame [] [(.msr, 0x0A8)] s.dev (msrArmEffect s.dev mask) := frame_fset s.dev .east 0 0 MSR_ARMED_ARMED _
  have hd := frame_docReply (msrArmEffect s.dev mask) entry 5 .done noReply
  have hlow : mask >>> 10 < 2 ^ 14 := by
    rw [Nat.shiftRight_eq_div_pow]
    omega
  refine completes_of_eq (exec_armMeasure entry mask) hrun heq ⟨docReply_answers (ha.unanswered (by decide) (by decide) (by decide) (by decide)) _ _ _ _,
    ?_, regsBut_trans ha.2 (regsBut_mono hd.2 (by decide)), hd.1 .keys (by decide)⟩
  rw [hd.fget .east MSR_ARMED_ARMED (by decide) (by decide), msrArmEffect, fget_eq_bget, fset_regs, Nat.mod_eq_of_lt hlow]
  refine bget_bput_same_of_lt _ _ _ _ _ _ _ _ _ (by decide) (by decide) (Nat.or_lt_two_pow ?_ hlow)
  rw [fget_eq_bget]
  exact bget_lt ..

theorem unanswered_refl (h : Head) : Unanswered h h := ⟨rfl, rfl, fun _ => rfl⟩

theorem reqQuote_quotes (s : State) (entry nonce : Nat) (hrun : Runs s.dev) (hf : firmwareRuns s.dev = true) :
    Completes (.reqQuote entry nonce) s (fun h =>
      Answers s.dev h entry 6 .done
          (raw 96 (Config.ecdsaSign s.dev.doc.attest (sha384 1568 (nonce % 2 ^ 256 + msrAll s.dev <<< 256)))) ∧
        h.regs = s.dev.regs ∧ h.keys = s.dev.keys) :=
  completes_of_eq (exec_reqQuote entry nonce) hrun (docRequest_runs s.dev entry 6 _ hf) ⟨docReply_answers (unanswered_refl s.dev) _ _ _ _, rfl, rfl⟩

/-- An agreement as it starts: its nonce and its ephemeral key drawn. -/
def agreeDrawn (h : Head) (p : AgreePurpose) (ids : Nat) : Agree :=
  ⟨p, ids, Config.random (fresh h).1 % 2 ^ 128, Config.random (fresh (fresh h).2).1 % 2 ^ 384⟩

/-- The head with the agreement started. -/
def agreeStarted (h : Head) (p : AgreePurpose) (ids : Nat) : Head :=
  let k := (fresh (fresh h).2).2
  { k with doc := { k.doc with agree := some (agreeDrawn h p ids) } }

theorem frame_agreeStarted (h : Head) (p : AgreePurpose) (ids : Nat) : Frame [.freeCtr, .doc] [] h (agreeStarted h p ids) := by
  simp +decide only [agreeStarted, fresh, frame_mk, true_or, or_true, and_self, frame_refl]

/-- What is sent to agree a key does not depend on what has been drawn. -/
theorem agreeSent_drawn (h : Head) (n : Nat) (a : Agree) : agreeSent { h with freeCtr := n } a = agreeSent h a := by
  have x : Frame [.freeCtr] [] h { h with freeCtr := n } := by
    simp +decide only [frame_mk, true_or, or_true, and_self, frame_refl]
  unfold agreeSent pairKeysHeld keyState pget
  rw [x.fget .east CHP_UID_LO_UID (by decide) (by decide), x.fget .east CHP_UID_HI_UID (by decide) (by decide),
    x.fget .east KEY_SLOT_ATTR_STATE (by decide) (by decide), x.fget .east KEY_SLOT_ATTR_STATE (by decide) (by decide)]

theorem peerAgree_start (h : Head) (entry ids : Nat) (p : AgreePurpose) (hf : firmwareRuns h = true) :
    peerAgree h entry (.start p ids) = docReply (agreeStarted h p ids) entry 7 .done (agreeSent h (agreeDrawn h p ids)) := by
  rw [peerAgree, docRequest_runs _ _ _ _ hf]
  show docReply (agreeStarted h p ids) entry 7 .done (agreeSent { h with freeCtr := h.freeCtr + 1 + 1 } (agreeDrawn h p ids)) = _
  rw [agreeSent_drawn]

theorem peerAgree_starts (s : State) (entry ids : Nat) (p : AgreePurpose) (hrun : Runs s.dev) (hf : firmwareRuns s.dev = true) :
    Completes (.peerAgree entry (.start p ids)) s (fun h => ∃ a : Agree, h.doc.agree = some a ∧ a.purpose = p ∧ a.ids = ids ∧
      Answers s.dev h entry 7 .done (agreeSent s.dev a) ∧ h.regs = s.dev.regs ∧ h.keys = s.dev.keys) := by
  have hs := frame_agreeStarted s.dev p ids
  have hagree : (agreeStarted s.dev p ids).doc.agree = some (agreeDrawn s.dev p ids) := rfl
  have hregs : (agreeStarted s.dev p ids).regs = s.dev.regs := rfl
  have hids : (agreeDrawn s.dev p ids).purpose = p ∧ (agreeDrawn s.dev p ids).ids = ids := ⟨rfl, rfl⟩
  have heq := peerAgree_start s.dev entry ids p hf
  generalize agreeStarted s.dev p ids = k at hs hagree hregs heq
  generalize agreeDrawn s.dev p ids = a at hagree hids heq
  have hd := frame_docReply k entry 7 .done (agreeSent s.dev a)
  have hkeys : k.keys = s.dev.keys := hs.1 .keys (by decide)
  refine completes_of_eq (exec_peerAgree entry (.start p ids)) hrun heq ⟨a, ?_, hids.1, hids.2,
    docReply_answers (hs.unanswered (by decide) (by decide) (by decide) (by decide)) _ _ _ _, ?_, ?_⟩
  · rw [doc_docReply, hagree]
  · rw [regs_docReply, hregs]
  · rw [hd.1 .keys (by decide), hkeys]

/-- A key agreed for a collection's Mehror traffic, its agreement over and measured. -/
def agreeEnded (h : Head) (r input : Nat) : Head := msrExtend { h with doc := { h.doc with agree := none } } r input

theorem peerAgree_finishes (s : State) (entry slot epoch c : Nat) (m : AgreeMsg) (a : Agree) (hrun : Runs s.dev) (hf : firmwareRuns s.dev = true)
    (ha : s.dev.doc.agree = some a) (hm : m.purpose = .collection c) (hp : a.purpose = m.purpose) (hids : a.ids = m.ids) (hc : m.chainOk = true)
    (hsig : m.sigOk = true) (hperm : peerPermitted s.dev m = true) (hslot : slot < 8192) (hcoll : c < 4096) (hs : keyState s.dev slot = 0)
    (hn : s.dev.doc.noKeys = false) :
    Completes (.peerAgree entry (.finish m slot epoch)) s (fun h =>
      keyState h slot = 2 ∧ keyKind h slot = 2 ∧ keyUsage h slot = 2 ∧ keyColl h slot = c ∧ h.doc.agree = none ∧
        keyValue h slot % 2 ^ 256 = agreedKey (pget s.dev .east CHP_UID_LO_UID CHP_UID_HI_UID) a m % 2 ^ 256 ∧
        h.doc.imageGen = s.dev.doc.imageGen + 1 ∧ Answers s.dev h entry 7 .done noReply) := by
  let key := agreedKey (pget s.dev .east CHP_UID_LO_UID CHP_UID_HI_UID) a m
  let input := sha384 16 (m.uid % 2 ^ 64 + purposeNum m.purpose <<< 64 + epoch <<< 96)
  obtain ⟨hdone, hst, hattr, hval, -⟩ := placeKey_places s.dev slot 2 2 c key false hs (by decide) hn (by decide) (by decide) hcoll
  have hpl := frame_placeKey s.dev slot 2 2 false c key
  have hplaced : placeAgreed s.dev m slot key = placeKey s.dev slot 2 2 false c key := by
    unfold placeAgreed
    rw [hm]
    exact if_neg (by omega)
  have heq : peerAgree s.dev entry (.finish m slot epoch) =
      docReply (writeImage (agreeEnded (placeKey s.dev slot 2 2 false c key).2 26 input)) entry 7 .done noReply := by
    have hpair : m.purpose ≠ .pair := by simp [hm]
    have hkm : m.purpose ≠ .keyManager := by simp [hm]
    rw [peerAgree, docRequest_runs _ _ _ _ hf]
    simp only [ha, hp, hids, hc, hsig, hperm, ne_eq, not_true_eq_false, or_self, if_false, Bool.not_true, Bool.false_eq_true]
    rw [show placeAgreed s.dev m slot (agreedKey (pget s.dev .east CHP_UID_LO_UID CHP_UID_HI_UID) a m) = placeKey s.dev slot 2 2 false c key from hplaced]
    simp only [hdone, not_true_eq_false, if_false, hpair, hkm, false_and]
    rfl
  generalize (placeKey s.dev slot 2 2 false c key).2 = k at *
  have he : Frame (.doc :: [.evq]) msrRegs k (agreeEnded k 26 input) := by
    simp +decide only [agreeEnded, (frame_msrExtend ..).iff, frame_mk, true_or, or_true, and_self, frame_refl]
  have hi := frame_imageReplied (agreeEnded k 26 input) entry 7 .done noReply
  have hun : Unanswered s.dev (writeImage (agreeEnded k 26 input)) :=
    (hpl.unanswered (by decide) (by decide) (by decide) (by decide)).trans ((he.unanswered (by decide) (by decide) (by decide) (by decide)).trans
      ((frame_writeImage _).unanswered (by decide) (by decide) (by decide) (by decide)))
  have hat : slotAttr (docReply (writeImage (agreeEnded k 26 input)) entry 7 .done noReply) slot = (2, 2, c, ofBool false) :=
    (hi.slotAttr (by decide) slot).trans ((he.slotAttr (by decide) slot).trans hattr)
  have hed : (agreeEnded k 26 input).doc = { k.doc with agree := none } := (frame_msrExtend _ 26 input).1 .doc (by decide)
  have hkd : k.doc = s.dev.doc := hpl.1 .doc (by decide)
  refine completes_of_eq (exec_peerAgree entry (.finish m slot epoch)) hrun heq ⟨?_, congrArg Prod.fst hat, congrArg (·.2.1) hat, congrArg (·.2.2.1) hat,
    ?_, ?_, ?_, docReply_answers hun _ _ _ _⟩
  · exact (hi.fget .east KEY_SLOT_ATTR_STATE (by decide) (by decide) slot 0).trans
      ((he.fget .east KEY_SLOT_ATTR_STATE (by decide) (by decide) slot 0).trans hst)
  · rw [doc_docReply, (imageGen_writeImage _).2.2.2, hed]
  · rw [hi.keyValue (by decide), he.keyValue (by decide)]
    exact hval
  · rw [doc_docReply, (imageGen_writeImage _).1, hed, hkd]

/-! ### Requests that Docent carries out in its own state -/

theorem prvClearEffect_lostNext (h : Head) : (prvClearEffect h).arc.lostNext = 0 := by
  rw [prvClearEffect_eq, raise_arc, recordAlone_arc]

theorem clearRecorder_clears (s : State) (r : SignedReq) (hrun : Runs s.dev) (hr : SignedTaken s.dev r) :
    Completes (.clearRecorder r) s (fun h =>
      Answers s.dev h r.entry 8 .done noReply ∧ h.arc.circ.length = 1 ∧ h.arc.lostNext = 0 ∧ EventSet h .east Ev.PRV_CLEARED ∧
        h.doc.counter = r.counter ∧ Extended s.dev h 31 r.digest) := by
  have heq : reqClear s.dev r = docReply (msrExtend (prvClearEffect (requestCounted s.dev r.counter)) 31 r.digest) r.entry 8 .done noReply :=
    signedRequest_acts 8 hr rfl
  have hc := frame_requestCounted s.dev r.counter
  obtain ⟨-, hcirc, -, -, -, -, -, hev⟩ := prvClearEffect_clears (requestCounted s.dev r.counter)
  have hlost := prvClearEffect_lostNext (requestCounted s.dev r.counter)
  have hk := frame_prvClearEffect (requestCounted s.dev r.counter)
  generalize prvClearEffect (requestCounted s.dev r.counter) = k at *
  have hm := frame_msrExtend k 31 r.digest
  obtain ⟨hext, -⟩ := msrExtend_extends k 31 r.digest (by decide)
  have hd := frame_docReply (msrExtend k 31 r.digest) r.entry 8 .done noReply
  have hun : Unanswered s.dev (msrExtend k 31 r.digest) :=
    (hc.unanswered (by decide) (by decide) (by decide) (by decide)).trans ((hk.unanswered (by decide) (by decide) (by decide) (by decide)).trans
      (hm.unanswered (by decide) (by decide) (by decide) (by decide)))
  have harc : (docReply (msrExtend k 31 r.digest) r.entry 8 .done noReply).arc = k.arc := (hd.1 .arc (by decide)).trans (hm.1 .arc (by decide))
  refine completes_of_eq (exec_clearRecorder r) hrun heq ⟨docReply_answers hun _ _ _ _, ?_, ?_, ?_, ?_, ?_⟩
  · rw [harc, hcirc]
    rfl
  · rw [harc, hlost]
  · rw [hd.eventSet .east Ev.PRV_CLEARED (by decide), hm.eventSet .east Ev.PRV_CLEARED (by decide)]
    exact hev
  · rw [hd.1 .doc (by decide), hm.1 .doc (by decide), hk.1 .doc (by decide)]
    rfl
  · unfold Extended at hext ⊢
    rw [hd.msrValue (by decide), hext, hk.msrValue (by decide)]
    rfl

theorem lifecycle_setLifecycle (h : Head) (n : Nat) (hn : n < 8) : lifecycle (setLifecycle h n) = n := by
  simp only [lifecycle, setLifecycle, foldHead_wings, fget_eq_bget, fset_regs]
  simp (disch := decide) [CHP_LIFECYCLE_STATE, CHP_LIFECYCLE_DEBUG_OPEN]
  omega

/-- A head secured in its fuses and for its first custodian. -/
def secured (h : Head) (custodian : Nat) : Head :=
  setLifecycle { h with doc := { h.doc with fused := 2, custodians := [custodian] } } 2

theorem reqLifecycle_secures (s : State) (r : SignedReq) (custodian : Nat) (hrun : Runs s.dev) (hr : SignedTaken s.dev r)
    (hl : lifecycle s.dev = 1) :
    Completes (.reqLifecycle r 2 custodian) s (fun h =>
      Answers s.dev h r.entry 9 .done noReply ∧ lifecycle h = 2 ∧
        h.doc = { s.dev.doc with counter := r.counter, fused := 2, custodians := [custodian] } ∧ Extended s.dev h 31 r.digest) := by
  have heq : reqLifecycle s.dev r 2 custodian =
      docReply (msrExtend (secured (requestCounted s.dev r.counter) custodian) 31 r.digest) r.entry 9 .done noReply :=
    signedRequest_acts 9 hr (if_pos ⟨rfl, hl⟩)
  have hk : Frame [.doc] [(.chp, 0x058)] s.dev (secured (requestCounted s.dev r.counter) custodian) := by
    simp +decide only [secured, requestCounted, (frame_setLifecycle ..).iff, frame_mk, true_or, or_true, and_self, frame_refl]
  have hread : lifecycle (secured (requestCounted s.dev r.counter) custodian) = 2 := lifecycle_setLifecycle _ 2 (by decide)
  have hdoc : (secured (requestCounted s.dev r.counter) custodian).doc =
      { s.dev.doc with counter := r.counter, fused := 2, custodians := [custodian] } := (frame_setLifecycle _ 2).1 .doc (by decide)
  generalize secured (requestCounted s.dev r.counter) custodian = k at *
  have hm := frame_msrExtend k 31 r.digest
  obtain ⟨hext, -⟩ := msrExtend_extends k 31 r.digest (by decide)
  have hd := frame_docReply (msrExtend k 31 r.digest) r.entry 9 .done noReply
  refine completes_of_eq (exec_reqLifecycle r 2 custodian) hrun heq ⟨docReply_answers
    ((hk.unanswered (by decide) (by decide) (by decide) (by decide)).trans (hm.unanswered (by decide) (by decide) (by decide) (by decide))) _ _ _ _, ?_, ?_, ?_⟩
  · exact (hd.fget .east CHP_LIFECYCLE_STATE (by decide) (by decide) 0 0).trans
      ((hm.fget .east CHP_LIFECYCLE_STATE (by decide) (by decide) 0 0).trans hread)
  · rw [hd.1 .doc (by decide), hm.1 .doc (by decide), hdoc]
  · unfold Extended at hext ⊢
    rw [hd.msrValue (by decide), hext, hk.msrValue (by decide)]

theorem reqCustodian_enrols (s : State) (r : SignedReq) (digest : Nat) (hrun : Runs s.dev) (hr : SignedTaken s.dev r)
    (hl : s.dev.doc.custodians.length < 8) :
    Completes (.reqCustodian r digest) s (fun h =>
      Answers s.dev h r.entry 10 .done noReply ∧
        h.doc = { s.dev.doc with counter := r.counter, custodians := s.dev.doc.custodians ++ [digest] } ∧
        Extended s.dev h 31 r.digest) := by
  let k : Head := { s.dev with doc := { s.dev.doc with counter := r.counter, custodians := s.dev.doc.custodians ++ [digest] } }
  have hroom : ¬ 8 ≤ (requestCounted s.dev r.counter).doc.custodians.length := Nat.not_le.2 hl
  have heq : reqCustodian s.dev r digest = docReply (msrExtend k 31 r.digest) r.entry 10 .done noReply :=
    signedRequest_acts 10 hr (if_neg hroom)
  have hk : Frame [.doc] [] s.dev k := by
    simp +decide only [k, frame_mk, true_or, or_true, and_self, frame_refl]
  have hm := frame_msrExtend k 31 r.digest
  obtain ⟨hext, -⟩ := msrExtend_extends k 31 r.digest (by decide)
  have hd := frame_docReply (msrExtend k 31 r.digest) r.entry 10 .done noReply
  refine completes_of_eq (exec_reqCustodian r digest) hrun heq ⟨docReply_answers
    ((hk.unanswered (by decide) (by decide) (by decide) (by decide)).trans (hm.unanswered (by decide) (by decide) (by decide) (by decide))) _ _ _ _, ?_, ?_⟩
  · rw [hd.1 .doc (by decide), hm.1 .doc (by decide)]
  · unfold Extended at hext ⊢
    rw [hd.msrValue (by decide), hext]
    rfl

theorem reqFederation_federates (s : State) (r : SignedReq) (uids : List Nat) (hrun : Runs s.dev) (hr : SignedTaken s.dev r) :
    Completes (.reqFederation r uids) s (fun h =>
      Answers s.dev h r.entry 11 .done noReply ∧ h.doc = { s.dev.doc with counter := r.counter, federation := uids } ∧
        h.regs = s.dev.regs) := by
  let k : Head := { s.dev with doc := { s.dev.doc with counter := r.counter, federation := uids } }
  have heq : reqFederation s.dev r uids = docReply k r.entry 11 .done noReply := signedRequest_acts 11 hr rfl
  have hk : Frame [.doc] [] s.dev k := by
    simp +decide only [k, frame_mk, true_or, or_true, and_self, frame_refl]
  exact completes_of_eq (exec_reqFederation r uids) hrun heq ⟨docReply_answers
    (hk.unanswered (by decide) (by decide) (by decide) (by decide)) _ _ _ _, doc_docReply _ _ _ _ _, rfl⟩

/-! ### CONFIGURE -/

/-- The rings made system rings, one after another. -/
def ringsSystem (h : Head) (rings : List Nat) : Head :=
  foldHead h rings (fun h n => fset h (wingOf (n / 1024)) CPU_RING_CFG_SYSTEM 1 (n % 1024))

theorem frame_ringsSystem (h : Head) (rings : List Nat) : Frame [] [(.cpu, 0x060)] h (ringsSystem h rings) := by
  simp +decide only [ringsSystem, frame_foldHead, frame_rules, frame_refl, implies_true]

/-- A ring's CFG beside the ring whose SYSTEM is set. -/
theorem ringCfg_fset_other (h : Head) (n m : Nat) (f : Fld) (hb : f.block = .cpu) (ho : f.off = 0x060)
    (hne : ¬ (wingOf (m / 1024) = wingOf (n / 1024) ∧ m % 1024 = n % 1024)) :
    fget (fset h (wingOf (n / 1024)) CPU_RING_CFG_SYSTEM 1 (n % 1024)) (wingOf (m / 1024)) f (m % 1024) =
      fget h (wingOf (m / 1024)) f (m % 1024) := by
  simp only [fget_eq_bget, fset_regs, hb, ho]
  by_cases hw : wingOf (m / 1024) = wingOf (n / 1024)
  · exact bget_bput_bank _ _ _ _ _ _ _ _ _ _ _ _ _ _ _ _ (fun e => hne ⟨hw, by omega⟩)
  · exact bget_bput_wing _ _ _ _ _ _ _ _ _ _ _ _ _ _ _ _ hw (by decide) (by decide)

theorem ringEnable_fset (h : Head) (n m : Nat) : fget (fset h (wingOf (n / 1024)) CPU_RING_CFG_SYSTEM 1 (n % 1024)) (wingOf (m / 1024))
    CPU_RING_CFG_ENABLE (m % 1024) = fget h (wingOf (m / 1024)) CPU_RING_CFG_ENABLE (m % 1024) := by
  by_cases hs : wingOf (m / 1024) = wingOf (n / 1024) ∧ m % 1024 = n % 1024
  · rw [hs.1, hs.2, fget_eq_bget, fset_regs]
    exact bget_bput_bits _ _ _ _ _ _ _ _ _ _ _ _ _ rfl rfl (by decide) (by decide) (by decide) (by decide)
  · exact ringCfg_fset_other h n m _ rfl rfl hs

theorem ringSystem_fset (h : Head) (n m : Nat) : fget (fset h (wingOf (n / 1024)) CPU_RING_CFG_SYSTEM 1 (n % 1024)) (wingOf (m / 1024))
    CPU_RING_CFG_SYSTEM (m % 1024) = if wingOf (m / 1024) = wingOf (n / 1024) ∧ m % 1024 = n % 1024 then 1 else
      fget h (wingOf (m / 1024)) CPU_RING_CFG_SYSTEM (m % 1024) := by
  split
  next hs =>
    rw [hs.1, hs.2, fget_eq_bget, fset_regs]
    exact bget_bput_same _ _ _ _ _ _ _ _ _ (by decide) (by decide)
  next hs => exact ringCfg_fset_other h n m _ rfl rfl hs

/-- A ring that is a system ring, or is among those made so, is one. -/
theorem ringsSystem_sets (rings : List Nat) : ∀ (h : Head) (m : Nat),
    m ∈ rings ∨ fget h (wingOf (m / 1024)) CPU_RING_CFG_SYSTEM (m % 1024) = 1 →
    fget (ringsSystem h rings) (wingOf (m / 1024)) CPU_RING_CFG_SYSTEM (m % 1024) = 1 := by
  induction rings with
  | nil => intro h m hm; exact hm.resolve_left List.not_mem_nil
  | cons n l ih =>
    intro h m hm
    refine ih _ m ?_
    rw [ringSystem_fset]
    rcases hm with hm | hm
    · rcases List.mem_cons.1 hm with rfl | hm
      · exact .inr (if_pos ⟨rfl, rfl⟩)
      · exact .inl hm
    · right
      split
      · rfl
      · exact hm

theorem ringsSystem_eq (rings : List Nat) : ∀ h : Head, (∀ n ∈ rings, fget h (wingOf (n / 1024)) CPU_RING_CFG_ENABLE (n % 1024) = 0) →
    foldHead h rings (fun h n => ringSystem h 0xFE (wingOf (n / 1024)) (n % 1024) true) = ringsSystem h rings := by
  induction rings with
  | nil => intro h _; rfl
  | cons n l ih =>
    intro h hen
    have hn : ringSystem h 0xFE (wingOf (n / 1024)) (n % 1024) true = fset h (wingOf (n / 1024)) CPU_RING_CFG_SYSTEM 1 (n % 1024) := by
      unfold ringSystem fbit
      rw [hen n List.mem_cons_self]
      rfl
    show foldHead (ringSystem h 0xFE (wingOf (n / 1024)) (n % 1024) true) l _ = _
    rw [hn]
    exact ih _ (fun m hm => (ringEnable_fset h n m).trans (hen m (List.mem_cons_of_mem _ hm)))

theorem reqConfigure_configures (s : State) (entry mirrors : Nat) (rings : List Nat) (hrun : Runs s.dev) (hf : firmwareRuns s.dev = true)
    (hm : mirrors < 512) (hen : ∀ n ∈ rings, fget s.dev (wingOf (n / 1024)) CPU_RING_CFG_ENABLE (n % 1024) = 0) :
    Completes (.reqConfigure entry mirrors rings) s (fun h =>
      if Config.configureAllowed mirrors rings then
        Answers s.dev h entry 12 .done noReply ∧ fget h .east DOC_MIRROR_PAGES = mirrors ∧
          (∀ n ∈ rings, fget h (wingOf (n / 1024)) CPU_RING_CFG_SYSTEM (n % 1024) = 1) ∧
          RegsBut s.dev h [(.doc, 0x048), (.cpu, 0x060)]
      else Answers s.dev h entry 12 .protocol noReply ∧ h.regs = s.dev.regs) := by
  by_cases ha : Config.configureAllowed mirrors rings = true
  · have hany : (rings.any fun n => fbit s.dev (wingOf (n / 1024)) CPU_RING_CFG_ENABLE (n % 1024)) = false := by
      rw [List.any_eq_false]
      intro n hn
      simp [fbit, hen n hn]
    have hg : Frame [] [(.doc, 0x048)] s.dev (fset s.dev .east DOC_MIRROR_PAGES mirrors) := frame_fset s.dev .east 0 0 DOC_MIRROR_PAGES mirrors
    have hk := frame_ringsSystem (fset s.dev .east DOC_MIRROR_PAGES mirrors) rings
    have hd := frame_docReply (ringsSystem (fset s.dev .east DOC_MIRROR_PAGES mirrors) rings) entry 12 .done noReply
    have heq : reqConfigure s.dev entry mirrors rings =
        docReply (ringsSystem (fset s.dev .east DOC_MIRROR_PAGES mirrors) rings) entry 12 .done noReply := by
      rw [reqConfigure, docRequest_runs _ _ _ _ hf]
      simp only [ha, hany, Bool.not_true, Bool.or_false, Bool.false_eq_true, if_false]
      rw [ringsSystem_eq]
      intro n hn
      exact (hg.fget (wingOf (n / 1024)) CPU_RING_CFG_ENABLE (by decide) (by decide) _ 0).trans (hen n hn)
    refine completes_of_eq (exec_reqConfigure entry mirrors rings) hrun heq ?_
    rw [if_pos ha]
    refine ⟨docReply_answers ((hg.unanswered (by decide) (by decide) (by decide) (by decide)).trans
      (hk.unanswered (by decide) (by decide) (by decide) (by decide))) _ _ _ _, ?_, fun n hn => ?_, ?_⟩
    · rw [hd.fget .east DOC_MIRROR_PAGES (by decide) (by decide), hk.fget .east DOC_MIRROR_PAGES (by decide) (by decide), fget_eq_bget, fset_regs]
      exact bget_bput_same_of_lt _ _ _ _ _ _ _ _ _ (by decide) (by decide) hm
    · exact (hd.fget (wingOf (n / 1024)) CPU_RING_CFG_SYSTEM (by decide) (by decide) _ 0).trans (ringsSystem_sets rings _ n (.inl hn))
    · exact regsBut_trans (regsBut_mono hg.2 (by decide)) (regsBut_trans (regsBut_mono hk.2 (by decide)) (regsBut_mono hd.2 (by decide)))
  · have heq : reqConfigure s.dev entry mirrors rings = docReply s.dev entry 12 .protocol noReply := by
      rw [reqConfigure, docRequest_runs _ _ _ _ hf]
      simp only [ha, Bool.not_false, Bool.true_or, if_true]
    refine completes_of_eq (exec_reqConfigure entry mirrors rings) hrun heq ?_
    rw [if_neg ha]
    exact ⟨docReply_answers (unanswered_refl s.dev) _ _ _ _, rfl⟩

/-- Every signed request of another UID, of an old counter or of a signature that fails is refused, whatever it asks. -/
theorem signed_refused (s : State) (r : SignedReq) (a b c d e f : Nat) (sys : Bool) (w : Word × Word) (l : List Nat) (hrun : Runs s.dev)
    (hf : firmwareRuns s.dev = true)
    (hr : r.uid ≠ pget s.dev .east CHP_UID_LO_UID CHP_UID_HI_UID ∨ r.counter ≤ s.dev.doc.counter ∨ r.sigOk = false) :
    ∀ i ∈ [(Instr.importKey r a b c sys d e, 1), (.reqBind r a w l, 2), (.reqUnbind r a, 3), (.reqZeroise r a, 4), (.clearRecorder r, 8),
      (.reqLifecycle r a f, 9), (.reqCustodian r a, 10), (.reqFederation r l, 11)],
    Completes i.1 s (fun h =>
      h = docReply s.dev r.entry i.2
        (if r.uid ≠ pget s.dev .east CHP_UID_LO_UID CHP_UID_HI_UID ∨ r.counter ≤ s.dev.doc.counter then .protocol else .checkFail) noReply) := by
  intro i hi
  simp only [List.mem_cons, List.not_mem_nil, or_false] at hi
  rcases hi with rfl | rfl | rfl | rfl | rfl | rfl | rfl | rfl
  · exact completes_of_eq (exec_importKey r a b c sys d e) hrun rfl (signedRequest_refused s.dev r 1 _ hf hr)
  · exact completes_of_eq (exec_reqBind r a w l) hrun rfl (signedRequest_refused s.dev r 2 _ hf hr)
  · exact completes_of_eq (exec_reqUnbind r a) hrun rfl (signedRequest_refused s.dev r 3 _ hf hr)
  · exact completes_of_eq (exec_reqZeroise r a) hrun rfl (signedRequest_refused s.dev r 4 _ hf hr)
  · exact completes_of_eq (exec_clearRecorder r) hrun rfl (signedRequest_refused s.dev r 8 _ hf hr)
  · exact completes_of_eq (exec_reqLifecycle r a f) hrun rfl (signedRequest_refused s.dev r 9 _ hf hr)
  · exact completes_of_eq (exec_reqCustodian r a) hrun rfl (signedRequest_refused s.dev r 10 _ hf hr)
  · exact completes_of_eq (exec_reqFederation r l) hrun rfl (signedRequest_refused s.dev r 11 _ hf hr)

/-- Settles O52: a signed request that passes is carried out on the head with its counter noted, and every other is only answered. -/
theorem docentAnswersRequests : Obligations.DocentAnswersRequests :=
  ⟨importKey_imports, reqBind_binds, reqUnbind_unbinds, reqZeroise_zeroises, reqArm_arms, reqQuote_quotes, peerAgree_starts, peerAgree_finishes,
    clearRecorder_clears, reqLifecycle_secures, reqCustodian_enrols, reqFederation_federates, reqConfigure_configures, signed_refused⟩

end Sys2Proof.Laws
end

section
/-! The Reservoir's samples, duties and faults (R484 to R495, R511), and O58. -/

namespace Sys2Proof.Laws

open Machine Machine.Reg

/-- A frame from a head that already has one of the later head's parts need not name it. -/
theorem Frame.put {p : Part} {l : List Part} {t : List (Block × Nat)} {h k g : Head} (x : Frame (p :: l) t h g) (hk : Frame [p] [] h k) (hs : p.same k g) :
    Frame l t k g := by
  refine ⟨fun q hq => ?_, regsBut_trans (regsBut_mono (regsBut_symm hk.2) (List.nil_subset t)) x.2⟩
  by_cases he : q = p
  · exact he ▸ hs
  · exact q.same_trans (hk.symm.1 q (by simpa using he)) (x.1 q (by simp [he, hq]))

theorem Frame.putRsv {l : List Part} {t : List (Block × Nat)} {h g : Head} (x : Frame (.rsv :: l) t h g) : Frame l t { h with rsv := g.rsv } g :=
  x.put (by simp only [frame_mk, List.mem_cons, true_or, or_true, and_self, frame_refl]) rfl

theorem Frame.putFreeCtr {l : List Part} {t : List (Block × Nat)} {h g : Head} (x : Frame (.freeCtr :: l) t h g) :
    Frame l t { h with freeCtr := g.freeCtr } g :=
  x.put (by simp only [frame_mk, List.mem_cons, true_or, or_true, and_self, frame_refl]) rfl

/-! ### What the later parts of a sample keep -/

/-- The control program's variables, with the count of good samples. -/
def controls (r : RsvState) : Nat × Int × Int × Int × Int := (r.good, r.iv, r.iiA, r.iiB, r.iref)

/-- A step of a sample that writes some registers of the RSV page, keeps the control program's variables and clears no event. -/
structure SampleKeeps (t : List (Block × Nat)) (g k : Head) : Prop where
  frame : Frame [.rsv, .freeCtr, .evq] t g k
  vars : controls k.rsv = controls g.rsv
  events : ∀ n, n < 32 → EventSet g .east ⟨.rsv, n⟩ → EventSet k .east ⟨.rsv, n⟩

section
variable {t u : List (Block × Nat)} {g k l : Head}

theorem SampleKeeps.trans (x : SampleKeeps t g k) (y : SampleKeeps t k l) : SampleKeeps t g l :=
  ⟨x.frame.trans y.frame, y.vars.trans x.vars, fun n hn he => y.events n hn (x.events n hn he)⟩

theorem sampleKeeps_refl (t : List (Block × Nat)) (g : Head) : SampleKeeps t g g := ⟨frame_refl _ _ g, rfl, fun _ _ he => he⟩

theorem SampleKeeps.mono (x : SampleKeeps t g k) (ht : t ⊆ u) : SampleKeeps u g k := ⟨x.frame.mono (fun _ h => h) ht, x.vars, x.events⟩

theorem sampleKeeps_setRsv (x : SampleKeeps t g k) (f : RsvState → RsvState) (hf : controls (f k.rsv) = controls k.rsv) :
    SampleKeeps t g (setRsv k f) where
  frame := by
    simp +decide only [setRsv, frame_mk, true_or, or_true, and_self, x.frame]
  vars := hf.trans x.vars
  events n hn he := x.events n hn he

theorem sampleKeeps_fset (x : SampleKeeps t g k) (f : Fld) (v bank : Nat) (hf : (f.block, f.off % 4096) ∈ t) (hs : f.off % 4096 ≠ 0x010) :
    SampleKeeps t g (fset k .east f v bank) where
  frame := x.frame.trans ((frame_fset k .east bank 0 f v).mono (List.nil_subset _) (by simpa using hf))
  vars := x.vars
  events n hn he := ((frame_fset k .east bank 0 f v).eventSet .east ⟨.rsv, n⟩ (by simp; omega) 0).2 (x.events n hn he)

theorem sampleKeeps_raise (x : SampleKeeps t g k) (e : EvRef) (he : (e.block, 0x010) ∈ t) : SampleKeeps t g (raise k .east e) where
  frame := x.frame.trans ((frame_raise k .east 0 e).mono (by decide) (by simpa using he))
  vars := by
    rw [show (raise k .east e).rsv = k.rsv from (frame_raise k .east 0 e).1 .rsv (by decide)]
    exact x.vars
  events n hn hev := eventSet_raise (x.events n hn hev) hn .east e 0

theorem sampleKeeps_fresh (x : SampleKeeps t g k) : SampleKeeps t g (fresh k).2 where
  frame := by
    simp +decide only [fresh, frame_mk, true_or, or_true, and_self, x.frame]
  vars := x.vars
  events n hn he := x.events n hn he

theorem sampleKeeps_ite {c : Prop} [Decidable c] (x : c → SampleKeeps t g k) (y : ¬ c → SampleKeeps t g l) : SampleKeeps t g (if c then k else l) := by
  split
  · exact x ‹_›
  · exact y ‹_›

end

/-- The registers of the RSV page that a sample writes after its conversions are in. -/
def sampleRegs : List (Block × Nat) := [(.rsv, 0x010), (.rsv, 0x044), (.rsv, 0x064), (.rsv, 0x0AC), (.rsv, 0x0B0), (.rsv, 0x0B8)]

section
variable {t : List (Block × Nat)} {g k : Head}

theorem sampleKeeps_dropHealth (x : SampleKeeps t g k) (ht : (Block.rsv, 0x0AC) ∈ t) : SampleKeeps t g (dropHealth k) :=
  sampleKeeps_ite (fun _ => sampleKeeps_fset (sampleKeeps_setRsv x _ rfl) _ _ _ ht (by decide)) (fun _ => x)

theorem sampleKeeps_latchFault (x : SampleKeeps t g k) (bit : Nat) (a b : Bool) (h0 : (Block.rsv, 0x010) ∈ t) (h1 : (Block.rsv, 0x044) ∈ t) :
    SampleKeeps t g (latchFault k bit a b) :=
  sampleKeeps_raise (sampleKeeps_ite
    (fun _ => sampleKeeps_fset (sampleKeeps_ite (fun _ => sampleKeeps_fset (sampleKeeps_fset x _ _ _ h1 (by decide)) _ _ _ h1 (by decide))
      (fun _ => sampleKeeps_fset x _ _ _ h1 (by decide))) _ _ _ h1 (by decide))
    (fun _ => sampleKeeps_ite (fun _ => sampleKeeps_fset (sampleKeeps_fset x _ _ _ h1 (by decide)) _ _ _ h1 (by decide))
      (fun _ => sampleKeeps_fset x _ _ _ h1 (by decide)))) _ h0

theorem sampleKeeps_limpCheck (x : SampleKeeps t g k) (h0 : (Block.rsv, 0x010) ∈ t) (h1 : (Block.rsv, 0x044) ∈ t) (h2 : (Block.rsv, 0x0AC) ∈ t) :
    SampleKeeps t g (limpCheck k) :=
  sampleKeeps_ite (fun _ => sampleKeeps_raise (sampleKeeps_fset (sampleKeeps_setRsv (sampleKeeps_dropHealth x h2) _ rfl) _ _ _ h1 (by decide)) _ h0)
    (fun _ => x)

theorem sampleKeeps_limpBank (x : SampleKeeps t g k) (v : Option Nat) : SampleKeeps t g (limpBank k v) :=
  sampleKeeps_ite (fun _ => x) (fun _ => sampleKeeps_setRsv x _ rfl)

theorem sampleKeeps_newDuties (x : SampleKeeps t g k) (a b : Nat) (h1 : (Block.rsv, 0x064) ∈ t) : SampleKeeps t g (newDuties k a b) :=
  sampleKeeps_fset (sampleKeeps_fset (sampleKeeps_setRsv x _ rfl) _ _ _ h1 (by decide)) _ _ _ h1 (by decide)

theorem sampleKeeps_commitPhase (x : SampleKeeps t g k) (pos d : Nat) (b : Bool) (h1 : (Block.rsv, 0x0B8) ∈ t) :
    SampleKeeps t g (commitPhase k pos d b) := by
  refine sampleKeeps_ite (fun _ => x) (fun _ => sampleKeeps_setRsv (sampleKeeps_ite (fun _ => sampleKeeps_fset x _ _ _ h1 (by decide)) (fun _ => x)) _ ?_)
  cases b <;> rfl

theorem sampleKeeps_commitSampled (x : SampleKeeps t g k) (pos d : Nat) (b : Bool) (h1 : (Block.rsv, 0x0B8) ∈ t) :
    SampleKeeps t g (commitSampled k pos d b) := by
  refine sampleKeeps_ite (fun _ => sampleKeeps_ite (fun _ => x) (fun _ => sampleKeeps_setRsv x _ ?_)) (fun _ => sampleKeeps_commitPhase x _ _ _ h1)
  cases b <;> rfl

theorem sampleKeeps_commitSample (x : SampleKeeps t g k) (carrier a b : Nat) (h1 : (Block.rsv, 0x0B8) ∈ t) :
    SampleKeeps t g (commitSample k carrier a b) := sampleKeeps_commitSampled (sampleKeeps_commitSampled x _ _ _ h1) _ _ _ h1

theorem sampleKeeps_healthSample (x : SampleKeeps t g k) (a b : Int) (vk : Nat) : SampleKeeps t g (healthSample k a b vk) := by
  unfold healthSample
  split
  · exact x
  · split
    · exact sampleKeeps_setRsv x _ rfl
    · exact sampleKeeps_setRsv x _ rfl

theorem sampleKeeps_measured (x : SampleKeeps t g k) (num den : Int) (bits : Nat) : SampleKeeps t g (measured k num den bits).2 := by
  unfold measured
  split
  · exact sampleKeeps_fresh x
  · exact x

theorem sampleKeeps_healthResult (x : SampleKeeps t g k) (h0 : (Block.rsv, 0x010) ∈ t) (h1 : (Block.rsv, 0x0AC) ∈ t) (h2 : (Block.rsv, 0x0B0) ∈ t) :
    SampleKeeps t g (healthResult k) := by
  unfold healthResult
  split
  · exact x
  · split
    · exact x
    · dsimp only
      have hend {l : Head} (y : SampleKeeps t g l) (a b : Nat) : SampleKeeps t g (raise (fset (setRsv (fset (fset (fset l .east RSV_HEALTH_RESULT_CAP_MF a)
          .east RSV_HEALTH_RESULT_ESR b) .east RSV_HEALTH_RESULT_VALID 1) (fun r => { r with health := none })) .east RSV_HEALTH_BUSY 0) .east
          Ev.RSV_HEALTH_DONE) :=
        sampleKeeps_raise (sampleKeeps_fset (sampleKeeps_setRsv (sampleKeeps_fset (sampleKeeps_fset (sampleKeeps_fset y _ _ _ h2 (by decide)) _ _ _ h2
          (by decide)) _ _ _ h2 (by decide)) _ rfl) _ _ _ h1 (by decide)) _ h0
      refine sampleKeeps_ite (fun _ => x) (fun _ => sampleKeeps_ite (fun _ => sampleKeeps_raise (hend ?_ _ _) _ h0) (fun _ => hend ?_ _ _))
      · exact sampleKeeps_measured (sampleKeeps_measured x _ _ _) _ _ _
      · exact sampleKeeps_measured (sampleKeeps_measured x _ _ _) _ _ _

theorem sampleKeeps_followMode (x : SampleKeeps t g k) (bank : Option Nat) (vk : Nat) (h0 : (Block.rsv, 0x010) ∈ t) (h1 : (Block.rsv, 0x044) ∈ t) :
    SampleKeeps t g (followMode k bank vk) := by
  unfold followMode
  refine sampleKeeps_ite (fun _ => sampleKeeps_setRsv (sampleKeeps_fset x _ _ _ h1 (by decide)) _ rfl) (fun _ => ?_)
  split
  · exact x
  · refine sampleKeeps_ite (fun _ => x) (fun _ => sampleKeeps_ite (fun _ => sampleKeeps_raise (sampleKeeps_fset x _ _ _ h1 (by decide)) _ h0)
      (fun _ => sampleKeeps_ite (fun _ => sampleKeeps_fset x _ _ _ h1 (by decide)) (fun _ => x)))

end

/-! ### The conversions of a sample -/

/-- A converted code shown in its field. -/
def putCode (h : Head) (f : Fld) (v : Option Nat) : Head := match v with | some v => fset h .east f v | none => h

/-- The codes shown, and what is counted of their channels. -/
def sampleNoted (h : Head) (vbus vbank ia ib : Option Nat) : Head :=
  let miss (n : Nat) (v : Option Nat) : Nat := if v.isSome then 0 else n + 1
  setRsv (putCode (putCode (putCode (putCode h RSV_ADC_V_VBUS vbus) RSV_ADC_V_VBANK vbank) RSV_ADC_I_IA ia) RSV_ADC_I_IB ib) (fun r => { r with
    missV := miss r.missV vbus, missK := miss r.missK vbank, missA := miss r.missA ia, missB := miss r.missB ib
    stillV := holdCode r.stillV vbus, stillA := holdCode r.stillA ia, stillB := holdCode r.stillB ib
    goodV := vbus.getD r.goodV, goodK := vbank.getD r.goodK })

/-- A conversion is missing. -/
def sampleLate (vbus vbank ia ib : Option Nat) : Bool := !(vbus.isSome && vbank.isSome && ia.isSome && ib.isSome)

def lateCounted (h : Head) (late : Bool) : Head := if late then raise (fadd h .east RSV_CNT_LATE_COUNT) .east Ev.RSV_LATE else h

/-- The channels that are stale, as STATUS shows them. -/
def staleBits (r : RsvState) : Nat :=
  ofBool (decide (2 ≤ r.missV)) * 8 + ofBool (decide (2 ≤ r.missK)) * 4 + ofBool (decide (2 ≤ r.missA)) * 2 + ofBool (decide (2 ≤ r.missB))

/-- The channels that are frozen, as STATUS shows them. -/
def frozenBits (r : RsvState) (limit : Nat) : Nat :=
  let frozen (s : Nat × Nat) (move : Nat) : Bool := decide (64 ≤ s.2) && decide (limit ≤ move)
  ofBool (frozen r.stillV (max r.moveA.sum r.moveB.sum)) * 8 + ofBool (frozen r.stillA r.moveA.sum) * 2 + ofBool (frozen r.stillB r.moveB.sum)

/-- Stale and frozen channels judged, and good samples counted. -/
def channelsJudged (h : Head) (late : Bool) : Head :=
  let stale := staleBits h.rsv
  let froze := frozenBits h.rsv (64 * rg h RSV_LIMP_MOVE)
  setRsv (fset (fset h .east RSV_STATUS_STALE stale) .east RSV_STATUS_FROZEN froze)
    (fun r => { r with good := if late ∨ stale ≠ 0 ∨ froze ≠ 0 then 0 else r.good + 1 })

theorem takeSample_eq (h : Head) (vbus vbank ia ib : Option Nat) : takeSample h vbus vbank ia ib =
    channelsJudged (lateCounted (sampleNoted h vbus vbank ia ib) (sampleLate vbus vbank ia ib)) (sampleLate vbus vbank ia ib) := rfl

theorem frame_putCode (h : Head) (f : Fld) (v : Option Nat) : Frame [] [(f.block, f.off % 4096)] h (putCode h f v) := by
  unfold putCode
  split
  · exact frame_fset h .east 0 0 f _
  · exact frame_refl _ _ h

theorem frame_sampleNoted (h : Head) (vbus vbank ia ib : Option Nat) :
    Frame [.rsv] [(.rsv, 0x048), (.rsv, 0x04C)] h (sampleNoted h vbus vbank ia ib) := by
  simp +decide only [sampleNoted, setRsv, (frame_putCode ..).iff, frame_mk, true_or, or_true, and_self, frame_refl]

theorem frame_lateCounted (h : Head) (late : Bool) : Frame [.evq] [(.rsv, 0x010), (.rsv, 0x0B4)] h (lateCounted h late) := by
  simp +decide only [lateCounted, frame_ite, frame_rules, frame_refl, ite_self]

theorem frame_channelsJudged (h : Head) (late : Bool) : Frame [.rsv] [(.rsv, 0x044)] h (channelsJudged h late) := by
  simp +decide only [channelsJudged, setRsv, frame_rules, frame_mk, true_or, or_true, and_self, frame_refl]

theorem frame_takeSample (h : Head) (vbus vbank ia ib : Option Nat) : Frame [.rsv, .evq]
    [(.rsv, 0x010), (.rsv, 0x044), (.rsv, 0x048), (.rsv, 0x04C), (.rsv, 0x0B4)] h (takeSample h vbus vbank ia ib) := by
  simp +decide only [takeSample_eq, (frame_sampleNoted ..).iff, (frame_lateCounted ..).iff, (frame_channelsJudged ..).iff, frame_refl]

theorem good_channelsJudged (h : Head) : (channelsJudged h true).rsv.good = 0 := by
  simp [channelsJudged, setRsv]

/-- A late sample is counted and raises its event, and the row of good samples ends. -/
theorem takeSample_late (h : Head) (vbus vbank ia ib : Option Nat) (hl : sampleLate vbus vbank ia ib = true) : let g := takeSample h vbus vbank ia ib
    fget g .east RSV_CNT_LATE_COUNT = min (fget h .east RSV_CNT_LATE_COUNT + 1) (2 ^ 32 - 1) ∧ EventSet g .east Ev.RSV_LATE ∧ g.rsv.good = 0 := by
  intro g
  have hg : g = channelsJudged (raise (fadd (sampleNoted h vbus vbank ia ib) .east RSV_CNT_LATE_COUNT) .east Ev.RSV_LATE) true := by
    show takeSample h vbus vbank ia ib = _
    rw [takeSample_eq, hl]
    rfl
  have hn := frame_sampleNoted h vbus vbank ia ib
  have hj := frame_channelsJudged (raise (fadd (sampleNoted h vbus vbank ia ib) .east RSV_CNT_LATE_COUNT) .east Ev.RSV_LATE) true
  have hr := frame_raise (fadd (sampleNoted h vbus vbank ia ib) .east RSV_CNT_LATE_COUNT) .east 0 Ev.RSV_LATE
  rw [hg]
  refine ⟨?_, ?_, good_channelsJudged _⟩
  · rw [hj.fget .east RSV_CNT_LATE_COUNT (by decide) (by decide), hr.fget .east RSV_CNT_LATE_COUNT (by decide) (by decide),
      fget_fadd_same _ _ _ _ _ _ (by decide) (by decide), hn.fget .east RSV_CNT_LATE_COUNT (by decide) (by decide)]
    rfl
  · exact (hj.eventSet .east Ev.RSV_LATE (by decide) 0).2 (raiseAt_sets _ _ _ (by decide))

/-- What a sample with its four codes leaves. -/
theorem takeSample_whole (h : Head) (v k a b : Nat) : let g := takeSample h (some v) (some k) (some a) (some b)
    controls { g.rsv with good := h.rsv.good } = controls h.rsv ∧ g.rsv.goodV = v ∧ g.rsv.goodK = k ∧
      Frame [.rsv] [(.rsv, 0x044), (.rsv, 0x048), (.rsv, 0x04C)] h g ∧ rsvMode g = rsvMode h ∧ fget g .east RSV_STATUS_STALE = 0 ∧
      fget g .east RSV_ADC_V_VBUS = v % 4096 ∧ fget g .east RSV_ADC_V_VBANK = k % 4096 ∧ fget g .east RSV_ADC_I_IA = a % 4096 ∧
      fget g .east RSV_ADC_I_IB = b % 4096 := by
  intro g
  have hg : g = channelsJudged (sampleNoted h (some v) (some k) (some a) (some b)) false := takeSample_eq ..
  have hn := frame_sampleNoted h (some v) (some k) (some a) (some b)
  have hj := frame_channelsJudged (sampleNoted h (some v) (some k) (some a) (some b)) false
  have hstale : staleBits (sampleNoted h (some v) (some k) (some a) (some b)).rsv = 0 := rfl
  have hregs : (sampleNoted h (some v) (some k) (some a) (some b)).regs = (fset (fset (fset (fset h .east RSV_ADC_V_VBUS v) .east RSV_ADC_V_VBANK k)
      .east RSV_ADC_I_IA a) .east RSV_ADC_I_IB b).regs := rfl
  have hread (f : Fld) (hf : f.block = .rsv) (ho : f.off ∈ [0x048, 0x04C]) : fget g .east f =
      bget (fset (fset (fset (fset h .east RSV_ADC_V_VBUS v) .east RSV_ADC_V_VBANK k) .east RSV_ADC_I_IA a) .east RSV_ADC_I_IB b).regs
        f.block .east 0 f.off f.hi f.lo 0 := by
    have hne : f.off < 4096 ∧ f.off ≠ 0x044 := by
      simp only [List.mem_cons, List.not_mem_nil, or_false] at ho
      omega
    rw [hg, hj.fget .east f (by simp [hne]) hne.1, fget_eq_bget, hregs]
  have hstatus : rsvMode g = rsvMode h ∧ fget g .east RSV_STATUS_STALE = 0 := by
    have hm : rsvMode (sampleNoted h (some v) (some k) (some a) (some b)) = rsvMode h := hn.fget .east RSV_STATUS_MODE (by decide) (by decide) 0 0
    rw [hg, ← hm]
    unfold channelsJudged
    rw [hstale]
    generalize sampleNoted h (some v) (some k) (some a) (some b) = n
    dsimp only
    simp only [rsvMode, rg, setRsv, fget_eq_bget, fset_regs]
    simp (disch := decide) [RSV_STATUS_MODE, RSV_STATUS_STALE, RSV_STATUS_FROZEN]
  refine ⟨by rw [hg]; rfl, by rw [hg]; rfl, by rw [hg]; rfl, ?_, hstatus.1, hstatus.2, ?_, ?_, ?_, ?_⟩
  · rw [hg]
    exact (hn.mono (by decide) (by decide)).trans (hj.mono (by decide) (by decide))
  all_goals
    rw [hread _ rfl (by decide)]
    simp only [fset_regs]
    simp (disch := decide) [RSV_ADC_V_VBUS, RSV_ADC_V_VBANK, RSV_ADC_I_IA, RSV_ADC_I_IB]

/-! ### The parts of a sample -/

/-- A bank code above its limit latches fault 3. -/
def bankGuarded (h : Head) (vbank : Option Nat) : Head :=
  if (match vbank with | some v => decide (3100 < v % 4096) | none => false) && !(rg h RSV_STATUS_FAULTS).testBit 3 then latchFault h 3 true true else h

/-- The phase currents of a sample, the ripple taken off. -/
def currentsNoted (h : Head) (ia ib : Option Nat) (carrier : Nat) : Head :=
  let vk := h.rsv.goodK
  let th := carrier % 12800 / 400
  match ia, ib with
  | some a, some b => setRsv h (fun r => { r with
      iA := ((a % 4096 : Nat) : Int) - 2048 - ripple h th vk, iB := ((b % 4096 : Nat) : Int) - 2048 - ripple h (th + 16) vk })
  | _, _ => h

def bankNoted (h : Head) (vk : Nat) : Head := setRsv h (fun r => { r with vk := vk, banks := r.banks.drop (r.banks.length - 63) ++ [vk] })

/-- The control program's variables kept. -/
def programKept (h : Head) (p : Program) : Head := setRsv h (fun r => { r with iv := p.iv, iiA := p.iiA, iiB := p.iiB, iref := p.iref })

/-- The duties of the mode in force, committed. -/
def dutiesMade (h : Head) (late : Bool) (carrier : Nat) : Head :=
  let m := rsvMode h
  if m = 5 then commitSample (newDuties h (limpDuty h) (limpDuty h)) carrier (limpDuty h) (limpDuty h)
  else if m = 0 ∨ m = 4 then newDuties h (rg h RSV_DUTY_A) (rg h RSV_DUTY_B)
  else if late then commitSample (newDuties h (rg h RSV_DUTY_A) (rg h RSV_DUTY_B)) carrier (rg h RSV_DUTY_A) (rg h RSV_DUTY_B)
  else
    let p := controlProgram h h.rsv.goodV h.rsv.vk h.rsv.iA h.rsv.iB
    commitSample (newDuties (programKept h p) p.dA p.dB) carrier p.dA p.dB

/-- A sample's conversions, judged. -/
def sampleJudged (h : Head) (vbus vbank ia ib : Option Nat) : Head :=
  let h := limpCheck (bankGuarded (takeSample (applyDue h) (vbus.map (· % 4096)) (vbank.map (· % 4096)) (ia.map (· % 4096)) (ib.map (· % 4096))) vbank)
  if rsvMode h = 5 then limpBank h vbank else h

theorem rsvSample_eq (h : Head) (vbus vbank ia ib : Option Nat) (carrier : Nat) : rsvSample h vbus vbank ia ib carrier =
    let g := sampleJudged h vbus vbank ia ib
    let c := currentsNoted g ia ib carrier
    let k := dutiesMade (bankNoted c g.rsv.goodK) (sampleLate vbus vbank ia ib) carrier
    followMode (healthResult (healthSample k k.rsv.iA k.rsv.iB g.rsv.goodK)) vbank g.rsv.goodK := rfl

section
variable {t : List (Block × Nat)} {g k : Head}

theorem sampleKeeps_bankGuarded (x : SampleKeeps t g k) (v : Option Nat) (h0 : (Block.rsv, 0x010) ∈ t) (h1 : (Block.rsv, 0x044) ∈ t) :
    SampleKeeps t g (bankGuarded k v) := sampleKeeps_ite (fun _ => sampleKeeps_latchFault x _ _ _ h0 h1) (fun _ => x)

theorem sampleKeeps_currentsNoted (x : SampleKeeps t g k) (ia ib : Option Nat) (carrier : Nat) : SampleKeeps t g (currentsNoted k ia ib carrier) := by
  unfold currentsNoted
  dsimp only
  split
  · exact sampleKeeps_setRsv x _ rfl
  · exact x

theorem sampleKeeps_bankNoted (x : SampleKeeps t g k) (vk : Nat) : SampleKeeps t g (bankNoted k vk) := sampleKeeps_setRsv x _ rfl

/-- A late sample computes no new duties. -/
theorem sampleKeeps_dutiesMade_late (x : SampleKeeps t g k) (carrier : Nat) (h0 : (Block.rsv, 0x064) ∈ t) (h1 : (Block.rsv, 0x0B8) ∈ t) :
    SampleKeeps t g (dutiesMade k true carrier) :=
  sampleKeeps_ite (fun _ => sampleKeeps_commitSample (sampleKeeps_newDuties x _ _ h0) _ _ _ h1) (fun _ =>
    sampleKeeps_ite (fun _ => sampleKeeps_newDuties x _ _ h0) (fun _ =>
      sampleKeeps_ite (fun _ => sampleKeeps_commitSample (sampleKeeps_newDuties x _ _ h0) _ _ _ h1) (fun hn => absurd rfl hn)))

end

theorem applyDue_none (h : Head) (hd : h.rsv.due = none) : applyDue h = h := by
  unfold applyDue
  rw [hd]

theorem frame_dropHealth (h : Head) : Frame [.rsv] [(.rsv, 0x0AC)] h (dropHealth h) := by
  simp +decide only [dropHealth, setRsv, frame_ite, frame_rules, frame_mk, true_or, or_true, and_self, frame_refl, ite_self]

theorem frame_applyDue (h : Head) : Frame [.rsv] [(.rsv, 0x044), (.rsv, 0x0AC)] h (applyDue h) := by
  unfold applyDue
  split
  · exact frame_refl _ _ h
  · simp +decide only [setRsv, setRsvMode, (frame_dropHealth ..).iff, frame_rules, frame_mk, true_or, or_true, and_self, frame_refl]

theorem rsvSample_late (s : State) (v k a b : Option Nat) (carrier : Nat) (hrun : Runs s.dev) (hl : v = none ∨ k = none ∨ a = none ∨ b = none) :
    Completes (.rsvSample v k a b carrier) s (fun h =>
      fget h .east RSV_CNT_LATE_COUNT = min (fget s.dev .east RSV_CNT_LATE_COUNT + 1) (2 ^ 32 - 1) ∧ EventSet h .east Ev.RSV_LATE ∧
        h.rsv.good = 0 ∧ SameButRegs { s.dev with rsv := h.rsv, freeCtr := h.freeCtr } h) := by
  have hlate : sampleLate v k a b = true := by
    rcases hl with rfl | rfl | rfl | rfl <;> simp [sampleLate]
  have hlate' : sampleLate (v.map (· % 4096)) (k.map (· % 4096)) (a.map (· % 4096)) (b.map (· % 4096)) = true := by
    rw [← hlate]
    simp only [sampleLate, Option.isSome_map]
  have hd := frame_applyDue s.dev
  have ht := frame_takeSample (applyDue s.dev) (v.map (· % 4096)) (k.map (· % 4096)) (a.map (· % 4096)) (b.map (· % 4096))
  obtain ⟨hcount, hev, hgood⟩ := takeSample_late (applyDue s.dev) _ _ _ _ hlate'
  refine completes_of_eq (exec_rsvSample v k a b carrier) hrun (rsvSample_eq s.dev v k a b carrier) ?_
  rw [hlate]
  dsimp only
  have hjudged : SampleKeeps sampleRegs (takeSample (applyDue s.dev) (v.map (· % 4096)) (k.map (· % 4096)) (a.map (· % 4096)) (b.map (· % 4096)))
      (sampleJudged s.dev v k a b) :=
    sampleKeeps_ite (fun _ => sampleKeeps_limpBank (sampleKeeps_limpCheck (sampleKeeps_bankGuarded (sampleKeeps_refl _ _) k (by decide) (by decide))
      (by decide) (by decide) (by decide)) k) (fun _ => sampleKeeps_limpCheck (sampleKeeps_bankGuarded (sampleKeeps_refl _ _) k (by decide) (by decide))
      (by decide) (by decide) (by decide))
  generalize takeSample (applyDue s.dev) (v.map (· % 4096)) (k.map (· % 4096)) (a.map (· % 4096)) (b.map (· % 4096)) = c at *
  generalize sampleJudged s.dev v k a b = j at *
  have hmade : SampleKeeps sampleRegs c (dutiesMade (bankNoted (currentsNoted j a b carrier) j.rsv.goodK) true carrier) :=
    sampleKeeps_dutiesMade_late (sampleKeeps_bankNoted (sampleKeeps_currentsNoted hjudged a b carrier) _) carrier (by decide) (by decide)
  generalize dutiesMade (bankNoted (currentsNoted j a b carrier) j.rsv.goodK) true carrier = d at *
  have hend : SampleKeeps sampleRegs c (followMode (healthResult (healthSample d d.rsv.iA d.rsv.iB j.rsv.goodK)) k j.rsv.goodK) :=
    sampleKeeps_followMode (sampleKeeps_healthResult (sampleKeeps_healthSample hmade _ _ _) (by decide) (by decide) (by decide)) _ _ (by decide) (by decide)
  generalize followMode (healthResult (healthSample d d.rsv.iA d.rsv.iB j.rsv.goodK)) k j.rsv.goodK = e at *
  refine ⟨?_, hend.events 11 (by decide) hev, (congrArg Prod.fst hend.vars).trans hgood, ?_⟩
  · rw [hend.frame.fget .east RSV_CNT_LATE_COUNT (by decide) (by decide), hcount, hd.fget .east RSV_CNT_LATE_COUNT (by decide) (by decide)]
  · have hall : Frame [.rsv, .freeCtr, .evq] (sampleRegs ++ [(.rsv, 0x048), (.rsv, 0x04C), (.rsv, 0x0B4)]) s.dev e :=
      (hd.mono (by decide) (by decide)).trans ((ht.mono (by decide) (by decide)).trans (hend.frame.mono (by decide) (by decide)))
    exact hall.putRsv.putFreeCtr.sameButRegs

/-! ### The control program -/

/-- The control program reads neither the conversions nor the status beside the mode. -/
theorem controlProgram_congr {h g : Head} {l : List Part} {t : List (Block × Nat)} (x : Frame l t h g)
    (ht : ∀ o ∈ [0x050, 0x054, 0x058, 0x05C, 0x06C, 0x070, 0x078, 0x080, 0x0AC], (Block.rsv, o) ∉ t) (hm : rsvMode g = rsvMode h)
    (hv : controls { g.rsv with good := h.rsv.good } = controls h.rsv) (vb vk : Nat) (iA iB : Int) :
    controlProgram g vb vk iA iB = controlProgram h vb vk iA iB := by
  have hr (f : Fld) (bank : Nat) (hb : f.block = .rsv) (ho : f.off ∈ [0x050, 0x054, 0x058, 0x05C, 0x06C, 0x070, 0x078, 0x080, 0x0AC]) :
      rg g f bank = rg h f bank := x.fget .east f (by rw [hb]; exact ht _ ho) (by simp only [List.mem_cons, List.not_mem_nil, or_false] at ho; omega) bank 0
  have hri (f : Fld) (bank : Nat) (hb : f.block = .rsv) (ho : f.off ∈ [0x050, 0x054, 0x058, 0x05C, 0x06C, 0x070, 0x078, 0x080, 0x0AC]) :
      rgI g f bank = rgI h f bank := congrArg Int.ofNat (hr f bank hb ho)
  simp only [controls, Prod.mk.injEq, true_and] at hv
  obtain ⟨hiv, hiA, hiB, hiref⟩ := hv
  have hband : bandOf g vk = bandOf h vk := by
    unfold bandOf
    simp only [List.filter_cons, List.filter_nil, hr RSV_BAND_V_T1 0 rfl (by decide), hr RSV_BAND_V_T2 0 rfl (by decide), hr RSV_BAND_W_T3 0 rfl (by decide)]
  have hcoef (d w : Bool) : coefs g vk d w = coefs h vk d w := by
    unfold coefs
    simp only [hband, hr RSV_COEF_DATA_DATA _ rfl (by decide)]
  have hff (v : Int) : feedForward g v vk = feedForward h v vk := by
    unfold feedForward ffRecip
    simp only [hri RSV_FF_DATA_RECIP _ rfl (by decide)]
  have hclamp (d : Int) : clampDuty g d = clampDuty h d := by
    unfold clampDuty
    rw [hri RSV_DUTY_LIM_D_MIN 0 rfl (by decide), hri RSV_DUTY_LIM_D_MAX 0 rfl (by decide)]
  unfold controlProgram
  simp only [hm, hiv, hiA, hiB, hiref, hcoef, hff, hclamp, hri RSV_SET_VBUS_SET 0 rfl (by decide), hri RSV_IMAX_IMAX 0 rfl (by decide),
    hr RSV_BAND_W_LOAD 0 rfl (by decide), hri RSV_CHARGE_CURRENT 0 rfl (by decide), hri RSV_HEALTH_CURRENT 0 rfl (by decide)]

theorem ripple_congr {h g : Head} {l : List Part} {t : List (Block × Nat)} (x : Frame l t h g) (h0 : (Block.rsv, 0x080) ∉ t) (h1 : (Block.rsv, 0x088) ∉ t)
    (th vk : Nat) : ripple g th vk = ripple h th vk := by
  unfold ripple ffScale rg rgI
  rw [x.fget .east RSV_PH_DATA_CORR h1 (by decide), x.fget .east RSV_FF_DATA_SCALE h0 (by decide)]

/-- A clamped duty lies within its bounds, and fits its field. -/
theorem clampDuty_bounds (h : Head) (d : Int) : clampDuty h d < 65536 ∧ (fget h .east RSV_DUTY_LIM_D_MIN ≤ fget h .east RSV_DUTY_LIM_D_MAX →
    fget h .east RSV_DUTY_LIM_D_MIN ≤ clampDuty h d ∧ clampDuty h d ≤ fget h .east RSV_DUTY_LIM_D_MAX) := by
  have h0 : fget h .east RSV_DUTY_LIM_D_MIN < 65536 := by
    rw [fget_eq_bget]
    exact bget_lt ..
  have h1 : fget h .east RSV_DUTY_LIM_D_MAX < 65536 := by
    rw [fget_eq_bget]
    exact bget_lt ..
  unfold clampDuty clampI rgI
  omega

theorem newDuties_reads (h : Head) (a b : Nat) : fget (newDuties h a b) .east RSV_DUTY_A = a % 65536 ∧ fget (newDuties h a b) .east RSV_DUTY_B = b % 65536 := by
  simp only [newDuties, setRsv, fget_eq_bget, fset_regs]
  simp (disch := decide) [RSV_DUTY_A, RSV_DUTY_B]

theorem followMode_stale (h : Head) (bank : Option Nat) (vk : Nat) : fget (followMode h bank vk) .east RSV_STATUS_STALE = fget h .east RSV_STATUS_STALE := by
  have hset (g : Head) (m : Nat) : fget (setRsvMode g m) .east RSV_STATUS_STALE = fget g .east RSV_STATUS_STALE := by
    simp only [setRsvMode, fget_eq_bget, fset_regs]
    simp (disch := decide) [RSV_STATUS_MODE, RSV_STATUS_STALE]
  unfold followMode
  split
  · exact hset h 0
  · split
    · rfl
    · split
      · rfl
      · split
        · exact ((frame_raise (setRsvMode h 2) .east 0 Ev.RSV_CHARGED).fget .east RSV_STATUS_STALE (by decide) (by decide) 0 0).trans (hset h 2)
        · split
          · exact hset h 1
          · rfl

/-- A sample's frame once its duties are committed. -/
def endRegs : List (Block × Nat) := [(.rsv, 0x010), (.rsv, 0x044), (.rsv, 0x0AC), (.rsv, 0x0B0), (.rsv, 0x0B8)]

/-- What a sample in the closed loop computes and leaves, its conversions being whole, its bank code within its limit and nothing frozen. -/
theorem sampleJudged_whole (h : Head) (v k a b : Nat) (hdue : h.rsv.due = none) (hmode : [1, 2, 3, 6].contains (rsvMode h) = true) (hk : k % 4096 ≤ 3100)
    (hf : fget (takeSample h (some (v % 4096)) (some (k % 4096)) (some (a % 4096)) (some (b % 4096))) .east RSV_STATUS_FROZEN = 0) :
    sampleJudged h (some v) (some k) (some a) (some b) =
      takeSample h (some (v % 4096)) (some (k % 4096)) (some (a % 4096)) (some (b % 4096)) := by
  obtain ⟨-, -, -, -, hm, hst, -⟩ := takeSample_whole h (v % 4096) (k % 4096) (a % 4096) (b % 4096)
  unfold sampleJudged
  simp only [Option.map_some, applyDue_none h hdue]
  generalize takeSample h (some (v % 4096)) (some (k % 4096)) (some (a % 4096)) (some (b % 4096)) = g at *
  have hg : bankGuarded g (some k) = g := by
    unfold bankGuarded
    have : ¬ 3100 < k % 4096 := by omega
    simp [this]
  have hc : limpCheck g = g := by
    unfold limpCheck
    have h0 : rg g RSV_STATUS_STALE = 0 := hst
    have h1 : rg g RSV_STATUS_FROZEN = 0 := hf
    simp [h0, h1]
  have h5 : rsvMode g ≠ 5 := by
    intro h5
    rw [← hm, h5] at hmode
    exact absurd hmode (by decide)
  rw [hg, hc, if_neg h5]

theorem dutiesMade_loop (h : Head) (carrier : Nat) (hmode : [1, 2, 3, 6].contains (rsvMode h) = true) : dutiesMade h false carrier =
    let p := controlProgram h h.rsv.goodV h.rsv.vk h.rsv.iA h.rsv.iB
    commitSample (newDuties (programKept h p) p.dA p.dB) carrier p.dA p.dB := by
  have hm : rsvMode h ≠ 5 ∧ rsvMode h ≠ 0 ∧ rsvMode h ≠ 4 := by
    refine ⟨?_, ?_, ?_⟩ <;> intro he <;> rw [he] at hmode <;> exact absurd hmode (by decide)
  unfold dutiesMade
  simp [hm]

theorem rsvSample_loop (s : State) (v k a b carrier vb vk : Nat) (hrun : Runs s.dev) (hdue : s.dev.rsv.due = none)
    (hmode : [1, 2, 3, 6].contains (rsvMode s.dev) = true) (hvb : vb = v % 4096) (hvk : vk = k % 4096) (hk : vk ≤ 3100)
    (hf : fget (takeSample s.dev (some vb) (some vk) (some (a % 4096)) (some (b % 4096))) .east RSV_STATUS_FROZEN = 0) :
    Completes (.rsvSample (some v) (some k) (some a) (some b) carrier) s (fun h => ∃ p : Program,
      p = controlProgram s.dev vb vk (((a % 4096 : Nat) : Int) - 2048 - ripple s.dev (carrier % 12800 / 400) vk)
        (((b % 4096 : Nat) : Int) - 2048 - ripple s.dev (carrier % 12800 / 400 + 16) vk) ∧
      fget h .east RSV_DUTY_A = p.dA ∧ fget h .east RSV_DUTY_B = p.dB ∧ h.rsv.iv = p.iv ∧ h.rsv.iiA = p.iiA ∧ h.rsv.iiB = p.iiB ∧
        h.rsv.iref = p.iref ∧ fget h .east RSV_ADC_V_VBUS = vb ∧ fget h .east RSV_ADC_V_VBANK = vk ∧
        fget h .east RSV_ADC_I_IA = a % 4096 ∧ fget h .east RSV_ADC_I_IB = b % 4096 ∧ fget h .east RSV_STATUS_STALE = 0 ∧
        fget h .east RSV_CNT_LATE_COUNT = fget s.dev .east RSV_CNT_LATE_COUNT ∧
        (fget s.dev .east RSV_DUTY_LIM_D_MIN ≤ fget s.dev .east RSV_DUTY_LIM_D_MAX →
          fget s.dev .east RSV_DUTY_LIM_D_MIN ≤ fget h .east RSV_DUTY_A ∧ fget h .east RSV_DUTY_A ≤ fget s.dev .east RSV_DUTY_LIM_D_MAX) ∧
        SameButRegs { s.dev with rsv := h.rsv, freeCtr := h.freeCtr } h) := by
  subst hvb hvk
  obtain ⟨hvars, hgv, hgk, hfr, hm, hst, hbus, hbank, hia, hib⟩ := takeSample_whole s.dev (v % 4096) (k % 4096) (a % 4096) (b % 4096)
  refine completes_of_eq (exec_rsvSample (some v) (some k) (some a) (some b) carrier) hrun (rsvSample_eq s.dev _ _ _ _ carrier) ?_
  rw [sampleJudged_whole s.dev v k a b hdue hmode hk hf]
  simp only [show sampleLate (some v) (some k) (some a) (some b) = false from rfl]
  generalize takeSample s.dev (some (v % 4096)) (some (k % 4096)) (some (a % 4096)) (some (b % 4096)) = g at *
  rw [hgk]
  let n := bankNoted (currentsNoted g (some a) (some b) carrier) (k % 4096)
  have hn : Frame [.rsv] [] g n := by
    simp +decide only [n, bankNoted, currentsNoted, setRsv, frame_mk, true_or, or_true, and_self, frame_refl]
  have hnm : rsvMode n = rsvMode s.dev := hm
  have hprog : controlProgram n n.rsv.goodV n.rsv.vk n.rsv.iA n.rsv.iB =
      controlProgram s.dev (v % 4096) (k % 4096) (((a % 4096 : Nat) : Int) - 2048 - ripple s.dev (carrier % 12800 / 400) (k % 4096))
        (((b % 4096 : Nat) : Int) - 2048 - ripple s.dev (carrier % 12800 / 400 + 16) (k % 4096)) := by
    have hgv' : n.rsv.goodV = v % 4096 := hgv
    have hiA : n.rsv.iA = ((a % 4096 : Nat) : Int) - 2048 - ripple s.dev (carrier % 12800 / 400) (k % 4096) := by
      rw [← ripple_congr hfr (by decide) (by decide), ← hgk]
      rfl
    have hiB : n.rsv.iB = ((b % 4096 : Nat) : Int) - 2048 - ripple s.dev (carrier % 12800 / 400 + 16) (k % 4096) := by
      rw [← ripple_congr hfr (by decide) (by decide), ← hgk]
      rfl
    have hx : Frame [.rsv] [(.rsv, 0x044), (.rsv, 0x048), (.rsv, 0x04C)] s.dev n := hfr.trans (hn.mono (by decide) (by decide))
    rw [hgv', hiA, hiB, show n.rsv.vk = k % 4096 from rfl, controlProgram_congr hx (by decide) hnm hvars]
  rw [show bankNoted (currentsNoted g (some a) (some b) carrier) (k % 4096) = n from rfl, dutiesMade_loop n carrier (hnm ▸ hmode)]
  dsimp only
  rw [hprog]
  clear_value n
  generalize hp : controlProgram s.dev (v % 4096) (k % 4096) _ _ = p
  have hdA : p.dA < 65536 ∧ (fget s.dev .east RSV_DUTY_LIM_D_MIN ≤ fget s.dev .east RSV_DUTY_LIM_D_MAX →
      fget s.dev .east RSV_DUTY_LIM_D_MIN ≤ p.dA ∧ p.dA ≤ fget s.dev .east RSV_DUTY_LIM_D_MAX) := by
    rw [← hp]
    exact clampDuty_bounds _ _
  have hdB : p.dB < 65536 := by
    rw [← hp]
    exact (clampDuty_bounds _ _).1
  let d := newDuties (programKept n p) p.dA p.dB
  have hd : Frame [.rsv] [(.rsv, 0x064)] n d := by
    simp +decide only [d, newDuties, programKept, setRsv, frame_rules, frame_mk, true_or, or_true, and_self, frame_refl]
  obtain ⟨hA, hB⟩ := newDuties_reads (programKept n p) p.dA p.dB
  have hvd : controls d.rsv = (n.rsv.good, p.iv, p.iiA, p.iiB, p.iref) := rfl
  rw [show newDuties (programKept n p) p.dA p.dB = d from rfl] at *
  clear_value d
  have hc : SampleKeeps [(.rsv, 0x0B8)] d (commitSample d carrier p.dA p.dB) := sampleKeeps_commitSample (sampleKeeps_refl _ d) _ _ _ (by decide)
  generalize commitSample d carrier p.dA p.dB = c at *
  have hh : SampleKeeps [(.rsv, 0x010), (.rsv, 0x0AC), (.rsv, 0x0B0), (.rsv, 0x0B8)] d (healthResult (healthSample c c.rsv.iA c.rsv.iB (k % 4096))) :=
    sampleKeeps_healthResult (sampleKeeps_healthSample (hc.mono (by decide)) _ _ _) (by decide) (by decide) (by decide)
  generalize healthResult (healthSample c c.rsv.iA c.rsv.iB (k % 4096)) = r at *
  have he : SampleKeeps endRegs d (followMode r (some k) (k % 4096)) :=
    sampleKeeps_followMode (hh.mono (by decide)) _ _ (by decide) (by decide)
  have hstale := followMode_stale r (some k) (k % 4096)
  generalize followMode r (some k) (k % 4096) = e at *
  have hall : Frame [.rsv] [(.rsv, 0x044), (.rsv, 0x048), (.rsv, 0x04C), (.rsv, 0x064)] s.dev d :=
    (hfr.mono (by decide) (by decide)).trans ((hn.mono (by decide) (by decide)).trans (hd.mono (by decide) (by decide)))
  have hcodes (f : Fld) (hb : f.block = .rsv) (ho : f.off ∈ [0x048, 0x04C]) : fget e .east f = fget g .east f := by
    have hne : f.off < 4096 ∧ f.off ≠ 0x010 ∧ f.off ≠ 0x044 ∧ f.off ≠ 0x064 ∧ f.off ≠ 0x0AC ∧ f.off ≠ 0x0B0 ∧ f.off ≠ 0x0B8 := by
      simp only [List.mem_cons, List.not_mem_nil, or_false] at ho
      omega
    rw [he.frame.fget .east f (by simp [endRegs, hne]) hne.1, hd.fget .east f (by simp [hne]) hne.1, hn.fget .east f (by simp) hne.1]
  have hvars' : controls e.rsv = (n.rsv.good, p.iv, p.iiA, p.iiB, p.iref) := he.vars.trans hvd
  simp only [controls, Prod.mk.injEq] at hvars'
  obtain ⟨-, hiv, hiA, hiB, hir⟩ := hvars'
  have hA' : fget e .east RSV_DUTY_A = p.dA := by
    rw [he.frame.fget .east RSV_DUTY_A (by decide) (by decide), hA, Nat.mod_eq_of_lt hdA.1]
  refine ⟨p, rfl, hA', ?_, hiv, hiA, hiB, hir, ?_, ?_, ?_, ?_, ?_, ?_, ?_, ?_⟩
  · rw [he.frame.fget .east RSV_DUTY_B (by decide) (by decide), hB, Nat.mod_eq_of_lt hdB]
  · rw [hcodes RSV_ADC_V_VBUS rfl (by decide), hbus, Nat.mod_mod]
  · rw [hcodes RSV_ADC_V_VBANK rfl (by decide), hbank, Nat.mod_mod]
  · rw [hcodes RSV_ADC_I_IA rfl (by decide), hia, Nat.mod_mod]
  · rw [hcodes RSV_ADC_I_IB rfl (by decide), hib, Nat.mod_mod]
  · rw [hstale, hh.frame.fget .east RSV_STATUS_STALE (by decide) (by decide), hd.fget .east RSV_STATUS_STALE (by decide) (by decide),
      hn.fget .east RSV_STATUS_STALE (by decide) (by decide), hst]
  · rw [he.frame.fget .east RSV_CNT_LATE_COUNT (by decide) (by decide), hall.fget .east RSV_CNT_LATE_COUNT (by decide) (by decide)]
  · rw [hA']
    exact hdA.2
  · have hend : Frame [.rsv, .freeCtr, .evq] (endRegs ++ [(.rsv, 0x048), (.rsv, 0x04C), (.rsv, 0x064)]) s.dev e :=
      (hall.mono (by decide) (by decide)).trans (he.frame.mono (by decide) (by decide))
    exact hend.putRsv.putFreeCtr.sameButRegs

/-! ### Reloads, trips and commits -/

theorem carrierReload_takes (s : State) (b : Bool) (hrun : Runs s.dev) (ho : phaseOff s.dev b = false) :
    Completes (.carrierReload b false) s (fun h =>
      (∀ d, (if b then s.dev.rsv.pendB else s.dev.rsv.pendA) = some (d, false) → (if b then h.rsv.actB else h.rsv.actA) = d) ∧
      ((∀ d, (if b then s.dev.rsv.pendB else s.dev.rsv.pendA) ≠ some (d, false)) →
        (if b then h.rsv.actB else h.rsv.actA) = (if b then s.dev.rsv.actB else s.dev.rsv.actA)) ∧
      (if b then h.rsv.cutB else h.rsv.cutA) = none ∧ (if b then h.rsv.actA else h.rsv.actB) = (if b then s.dev.rsv.actA else s.dev.rsv.actB) ∧
        h = { s.dev with rsv := h.rsv }) := by
  have hact (act : Nat) (next : Option Nat) (pend : Option (Nat × Bool)) :
      (∀ d, pend = some (d, false) → (reloadOne act next pend).1 = d) ∧
        ((∀ d, pend ≠ some (d, false)) → (reloadOne act next pend).1 = act) := by
    refine ⟨fun d hd => by rw [hd]; rfl, fun hd => ?_⟩
    match pend, hd with
    | none, _ => rfl
    | some (_, true), _ => rfl
    | some (d, false), hd => exact absurd rfl (hd d)
  cases b with
  | false =>
    have heq : carrierReload s.dev false false = setRsv (setRsv s.dev (fun r => { r with cutA := none })) (fun r => { r with
        actA := (reloadOne r.actA r.nextA r.pendA).1, pendA := (reloadOne r.actA r.nextA r.pendA).2, nextA := none }) := if_neg (ne_true_of_eq_false ho)
    exact completes_of_eq (exec_carrierReload false false) hrun heq ⟨(hact _ _ _).1, (hact _ _ _).2, rfl, rfl, rfl⟩
  | true =>
    have heq : carrierReload s.dev true false = setRsv (setRsv s.dev (fun r => { r with cutB := none })) (fun r => { r with
        actB := (reloadOne r.actB r.nextB r.pendB).1, pendB := (reloadOne r.actB r.nextB r.pendB).2, nextB := none }) := if_neg (ne_true_of_eq_false ho)
    exact completes_of_eq (exec_carrierReload true false) hrun heq ⟨(hact _ _ _).1, (hact _ _ _).2, rfl, rfl, rfl⟩

theorem frame_latchFault (h : Head) (bit : Nat) (a b : Bool) : Frame [.evq] [(.rsv, 0x010), (.rsv, 0x044)] h (latchFault h bit a b) := by
  simp +decide only [latchFault, frame_ite, frame_rules, frame_refl, ite_self]

/-- A fault as STATUS shows it, before its event. -/
def faultShown (h : Head) (bit : Nat) (a b : Bool) : Head :=
  let h := fset h .east RSV_STATUS_FAULTS (rg h RSV_STATUS_FAULTS ||| 1 <<< bit)
  let h := if a then fset h .east RSV_STATUS_PHASE_A_OFF 1 else h
  if b then fset h .east RSV_STATUS_PHASE_B_OFF 1 else h

theorem latchFault_eq (h : Head) (bit : Nat) (a b : Bool) : latchFault h bit a b = raise (faultShown h bit a b) .east Ev.RSV_FAULT := rfl

theorem faultShown_reads (h : Head) (bit : Nat) (a b : Bool) :
    fget (faultShown h bit a b) .east RSV_STATUS_FAULTS = (fget h .east RSV_STATUS_FAULTS ||| 1 <<< bit) % 64 ∧
      fget (faultShown h bit a b) .east RSV_STATUS_PHASE_A_OFF = (if a then 1 else fget h .east RSV_STATUS_PHASE_A_OFF) ∧
      fget (faultShown h bit a b) .east RSV_STATUS_PHASE_B_OFF = (if b then 1 else fget h .east RSV_STATUS_PHASE_B_OFF) ∧
      fget (faultShown h bit a b) .east RSV_STATUS_MODE = fget h .east RSV_STATUS_MODE := by
  cases a <;> cases b <;> simp only [faultShown, rg, Bool.false_eq_true, if_false, if_true, fget_eq_bget, fset_regs] <;>
    simp (disch := decide) [RSV_STATUS_FAULTS, RSV_STATUS_PHASE_A_OFF, RSV_STATUS_PHASE_B_OFF, RSV_STATUS_MODE]

/-- What a fault leaves of STATUS: its bit beside those latched, the phases it turns off, the mode. -/
theorem latchFault_shows (h : Head) (bit : Nat) (a b : Bool) (hb : bit < 6) : let g := latchFault h bit a b
    (rg g RSV_STATUS_FAULTS).testBit bit = true ∧ (∀ n, (rg h RSV_STATUS_FAULTS).testBit n = true → (rg g RSV_STATUS_FAULTS).testBit n = true) ∧
      phaseOff g false = (a || phaseOff h false) ∧ phaseOff g true = (b || phaseOff h true) ∧ EventSet g .east Ev.RSV_FAULT ∧ rsvMode g = rsvMode h := by
  obtain ⟨hf, ha, hb', hm⟩ := faultShown_reads h bit a b
  have hread (f : Fld) (hf : f.block = .rsv) (ho : f.off = 0x044) : fget (latchFault h bit a b) .east f = fget (faultShown h bit a b) .east f :=
    (frame_raise (faultShown h bit a b) .east 0 Ev.RSV_FAULT).fget .east f (by rw [hf, ho]; decide) (by rw [ho]; decide) 0 0
  have hfaults : rg (latchFault h bit a b) RSV_STATUS_FAULTS = (rg h RSV_STATUS_FAULTS ||| 1 <<< bit) % 2 ^ 6 := (hread _ rfl rfl).trans hf
  refine ⟨?_, fun n hn => ?_, ?_, ?_, raiseAt_sets _ _ _ (by decide), (hread _ rfl rfl).trans hm⟩
  · rw [hfaults, Nat.testBit_mod_two_pow, Nat.testBit_or, Nat.one_shiftLeft, Nat.testBit_two_pow_self, Bool.or_true, decide_eq_true hb]
    rfl
  · have hlt : n < 6 := by
      by_contra hge
      have : rg h RSV_STATUS_FAULTS < 2 ^ n := Nat.lt_of_lt_of_le (bget_lt ..) (Nat.pow_le_pow_right (by decide) (Nat.not_lt.1 hge))
      rw [Nat.testBit_lt_two_pow this] at hn
      exact absurd hn (by decide)
    rw [hfaults, Nat.testBit_mod_two_pow, Nat.testBit_or, hn]
    simpa using hlt
  · show (fget (latchFault h bit a b) .east RSV_STATUS_PHASE_A_OFF != 0) = _
    rw [hread _ rfl rfl, ha]
    cases a <;> rfl
  · show (fget (latchFault h bit a b) .east RSV_STATUS_PHASE_B_OFF != 0) = _
    rw [hread _ rfl rfl, hb']
    cases b <;> rfl

theorem carrierReload_clashes (s : State) (b : Bool) (hrun : Runs s.dev) (ho : phaseOff s.dev b = false) :
    Completes (.carrierReload b true) s (fun h =>
      phaseOff h b = true ∧ phaseOff h (!b) = phaseOff s.dev (!b) ∧ (rg h RSV_STATUS_FAULTS).testBit (if b then 1 else 0) = true ∧
        EventSet h .east Ev.RSV_FAULT ∧ h.rsv.actA = s.dev.rsv.actA ∧ h.rsv.actB = s.dev.rsv.actB ∧
        RegsBut s.dev h [(.rsv, 0x010), (.rsv, 0x044)] ∧ SameButRegs { s.dev with rsv := h.rsv } h) := by
  let g := setRsv s.dev (fun r => if b then { r with cutB := none } else { r with cutA := none })
  have hg : Frame [.rsv] [] s.dev g := by
    simp +decide only [g, setRsv, frame_mk, true_or, or_true, and_self, frame_refl]
  have heq : carrierReload s.dev b true = latchFault g (if b then 1 else 0) (!b) b := by
    unfold carrierReload
    exact (if_neg (ne_true_of_eq_false ho)).trans (if_pos rfl)
  have hl := frame_latchFault g (if b then 1 else 0) (!b) b
  obtain ⟨hbit, -, hA, hB, hev, -⟩ := latchFault_shows g (if b then 1 else 0) (!b) b (by cases b <;> decide)
  have hrsv : (latchFault g (if b then 1 else 0) (!b) b).rsv = g.rsv := hl.1 .rsv (by decide)
  have hall : Frame [.rsv, .evq] [(.rsv, 0x010), (.rsv, 0x044)] s.dev (latchFault g (if b then 1 else 0) (!b) b) :=
    (hg.mono (by decide) (by decide)).trans (hl.mono (by decide) (by decide))
  refine completes_of_eq (exec_carrierReload b true) hrun heq ⟨?_, ?_, hbit, hev, ?_, ?_, hall.2, hall.putRsv.sameButRegs⟩
  · cases b
    · exact hA
    · exact hB
  · cases b
    · exact hB
    · exact hA
  · rw [hrsv]
    cases b <;> rfl
  · rw [hrsv]
    cases b <;> rfl

/-- A phase's pulse ended by the current limit. -/
def pulseCut (h : Head) (b positive : Bool) : Head :=
  { h with rsv := if b then { h.rsv with cutB := some positive } else { h.rsv with cutA := some positive } }

/-- A phase's gates where neither the phase nor the mode is off, for what the limit has cut. -/
def gatesCut (h : Head) (b : Bool) (n : Nat) (cut : Option Bool) : Bool × Bool :=
  (decide (rg h RSV_PWM_DEAD ≤ n) && decide (n < compareOf h b) && cut != some true,
    decide (compareOf h b + rg h RSV_PWM_DEAD ≤ n) && decide (n < 12800) && cut != some false)

theorem gates_on (h : Head) (b : Bool) (n : Nat) (hh : ¬ (phaseOff h b = true ∨ rsvMode h = 0)) :
    gates h b n = gatesCut h b n (if b then h.rsv.cutB else h.rsv.cutA) := if_neg hh

theorem gatesCut_ended (h : Head) (b positive : Bool) (n : Nat) : gatesCut h b n (some positive) =
    if positive then (false, (gatesCut h b n none).2) else ((gatesCut h b n none).1, false) := by
  cases positive <;> simp [gatesCut] <;> rfl

theorem gates_pulseCut (h : Head) (b positive : Bool) (n : Nat) (ho : phaseOff h b = false) (hc : (if b then h.rsv.cutB else h.rsv.cutA) = none) :
    gates (pulseCut h b positive) b n = if positive then (false, (gates h b n).2) else ((gates h b n).1, false) := by
  by_cases hm : rsvMode h = 0
  · have h0 : gates h b n = (false, false) := if_pos (.inr hm)
    rw [h0]
    refine (if_pos (.inr hm) : gates (pulseCut h b positive) b n = (false, false)).trans ?_
    cases positive <;> rfl
  · have hne : ¬ (phaseOff h b = true ∨ rsvMode h = 0) := by simp [ho, hm]
    rw [gates_on h b n hne, hc, ← gatesCut_ended]
    refine (gates_on (pulseCut h b positive) b n hne).trans ?_
    cases b <;> rfl

theorem currentTrip_ends (s : State) (b positive : Bool) (hrun : Runs s.dev) (ho : phaseOff s.dev b = false)
    (hc : (if b then s.dev.rsv.cutB else s.dev.rsv.cutA) = none) :
    Completes (.currentTrip b positive) s (fun h =>
      h = { s.dev with rsv := if b then { s.dev.rsv with cutB := some positive } else { s.dev.rsv with cutA := some positive } } ∧
      ∀ n, gates h b n = (if positive then (false, (gates s.dev b n).2) else ((gates s.dev b n).1, false)) ∧
        gates h (!b) n = gates s.dev (!b) n) := by
  have heq : currentTrip s.dev b positive = pulseCut s.dev b positive := if_neg (ne_true_of_eq_false ho)
  exact completes_of_eq (exec_currentTrip b positive) hrun heq ⟨rfl, fun n => ⟨gates_pulseCut s.dev b positive n ho hc, by cases b <;> rfl⟩⟩

theorem rsvModeWrite_requests (s : State) (ini : Initiator) (v : Nat) (hrun : Runs s.dev) (hw : Writable s.dev ini (pg .rsv .east) 0x040) (hv : v ≤ 4)
    (h4 : v = 4 → chipMode s.dev = 0) (h5 : rsvMode s.dev = 5 → 16 ≤ s.dev.rsv.good) :
    Completes (.rsvModeWrite ini v) s (fun h =>
      fget h .east RSV_CTRL_MODE = v ∧ h.rsv.due = some v ∧ rsvMode h = rsvMode s.dev ∧
        (v ≠ rg s.dev RSV_CTRL_MODE → h.rsv = { s.dev.rsv with due := some v, iv := 0, iiA := 0, iiB := 0 }) ∧
        RegsBut s.dev h [(.rsv, 0x040)] ∧ SameButRegs { reply s.dev false with rsv := h.rsv } h) := by
  let g := reply s.dev false
  let k := if v = rg g RSV_CTRL_MODE then g else setRsv g (fun r => { r with iv := 0, iiA := 0, iiB := 0 })
  have hk : Frame [.rsv] [] g k := by
    simp +decide only [k, setRsv, frame_ite, frame_mk, true_or, or_true, and_self, frame_refl, ite_self]
  have hgate : ¬ ((v = 4 ∧ chipMode g ≠ 0) ∨ (rsvMode g = 5 ∧ g.rsv.good < 16)) := by
    rintro (⟨hv4, hc⟩ | ⟨hm, hlt⟩)
    · exact hc (h4 hv4)
    · exact absurd (h5 hm) (by show ¬ 16 ≤ g.rsv.good; omega)
  have heq : rsvModeWrite s.dev ini v = setRsv (fset k .east RSV_CTRL_MODE v) (fun r => { r with due := some v }) := by
    rw [rsvModeWrite, withWrite_ok s.dev ini _ _ _ hw, rsvModeEffect]
    simp only [show v % 8 = v by omega, if_neg (show ¬ 4 < v by omega)]
    exact if_neg hgate
  have hs : Frame [.rsv] [(.rsv, 0x040)] k (setRsv (fset k .east RSV_CTRL_MODE v) (fun r => { r with due := some v })) := by
    simp +decide only [setRsv, frame_rules, frame_mk, true_or, or_true, and_self, frame_refl]
  have hall := (hk.mono (l := [.rsv, .evq]) (t := [(.rsv, 0x040)]) (by decide) (by decide)).trans (hs.mono (by decide) (by decide))
  refine completes_of_eq (exec_rsvModeWrite ini v) hrun heq ⟨?_, rfl, ?_, fun hne => ?_, hall.2, hall.putRsv.sameButRegs⟩
  · simp only [setRsv, fget_eq_bget, fset_regs]
    exact bget_bput_same_of_lt _ _ _ _ _ _ _ _ _ (by decide) (by decide) (by simp [RSV_CTRL_MODE]; omega)
  · exact hall.fget .east RSV_STATUS_MODE (by decide) (by decide) 0 0
  · have hkr : k.rsv = { s.dev.rsv with iv := 0, iiA := 0, iiB := 0 } := congrArg Head.rsv (if_neg hne)
    show { k.rsv with due := some v } = _
    rw [hkr]

/-- The faults cleared and both phases on. -/
def faultsCleared (h : Head) : Head :=
  fset (fset (fset h .east RSV_STATUS_FAULTS 0) .east RSV_STATUS_PHASE_A_OFF 0) .east RSV_STATUS_PHASE_B_OFF 0

theorem faultsCleared_reads (h : Head) : rg (faultsCleared h) RSV_STATUS_FAULTS = 0 ∧ phaseOff (faultsCleared h) false = false ∧
    phaseOff (faultsCleared h) true = false ∧ rsvMode (faultsCleared h) = rsvMode h := by
  simp only [rsvMode, rg, phaseOff, fbit, faultsCleared, fget_eq_bget, fset_regs, if_true, Bool.false_eq_true, if_false]
  simp (disch := decide) [RSV_STATUS_FAULTS, RSV_STATUS_PHASE_A_OFF, RSV_STATUS_PHASE_B_OFF, RSV_STATUS_MODE]

theorem frame_faultsCleared (h : Head) : Frame [] [(.rsv, 0x044)] h (faultsCleared h) := by
  simp +decide only [faultsCleared, frame_rules, frame_refl]

/-- The faults whose causes persist, latched again. -/
def bankFault (h : Head) : Head := if 3100 < h.rsv.goodK then latchFault h 3 true true else h

def limpFault (h : Head) : Head := if rsvMode h = 5 ∧ h.rsv.limpOver then latchFault h 2 true true else h

theorem clearFaultEffect_eq (h : Head) : clearFaultEffect h = limpFault (bankFault (faultsCleared h)) := rfl

theorem clearFault_eq (h : Head) (ini : Initiator) (hw : Writable h ini (pg .rsv .east) 0x040) :
    clearFault h ini = limpFault (bankFault (faultsCleared (reply h false))) := by
  rw [clearFault, withWrite_ok h ini _ _ _ hw, clearFaultEffect_eq]

theorem clearFault_clears (s : State) (ini : Initiator) (hrun : Runs s.dev) (hw : Writable s.dev ini (pg .rsv .east) 0x040)
    (hk : s.dev.rsv.goodK ≤ 3100) (hm : rsvMode s.dev ≠ 5) :
    Completes (.clearFault ini) s (fun h =>
      rg h RSV_STATUS_FAULTS = 0 ∧ phaseOff h false = false ∧ phaseOff h true = false ∧ rsvMode h = rsvMode s.dev ∧
        RegsBut s.dev h [(.rsv, 0x044)] ∧ SameButRegs (reply s.dev false) h) := by
  obtain ⟨hf, ha, hb, hmode⟩ := faultsCleared_reads (reply s.dev false)
  have hgood : (faultsCleared (reply s.dev false)).rsv.goodK = s.dev.rsv.goodK := rfl
  have hfr := frame_faultsCleared (reply s.dev false)
  have heq := clearFault_eq s.dev ini hw
  generalize faultsCleared (reply s.dev false) = g at *
  have hm' : rsvMode g ≠ 5 := fun h5 => hm (hmode.symm.trans h5)
  rw [bankFault, if_neg (by omega), limpFault, if_neg (fun h5 => hm' h5.1)] at heq
  exact completes_of_eq (exec_clearFault ini) hrun heq ⟨hf, ha, hb, hmode, hfr.2, (hfr.mono (l := [.evq]) (by decide) (fun _ h => h)).sameButRegs⟩

theorem clearFault_persists (s : State) (ini : Initiator) (hrun : Runs s.dev) (hw : Writable s.dev ini (pg .rsv .east) 0x040)
    (hk : 3100 < s.dev.rsv.goodK) :
    Completes (.clearFault ini) s (fun h =>
      (rg h RSV_STATUS_FAULTS).testBit 3 = true ∧ phaseOff h false = true ∧ phaseOff h true = true ∧ EventSet h .east Ev.RSV_FAULT) := by
  have hgood : (faultsCleared (reply s.dev false)).rsv.goodK = s.dev.rsv.goodK := rfl
  have heq := clearFault_eq s.dev ini hw
  generalize faultsCleared (reply s.dev false) = g at *
  rw [bankFault, if_pos (by omega)] at heq
  obtain ⟨hbit, -, hA, hB, hev, -⟩ := latchFault_shows g 3 true true (by decide)
  generalize latchFault g 3 true true = k at *
  refine completes_of_eq (exec_clearFault ini) hrun heq ?_
  unfold limpFault
  split
  · obtain ⟨-, hkeep, hA', hB', hev', -⟩ := latchFault_shows k 2 true true (by decide)
    exact ⟨hkeep 3 hbit, hA', hB', hev'⟩
  · exact ⟨hbit, hA, hB, hev⟩

/-- A phase's half of a commit, where the phase is on. -/
theorem commitPhase_on (h : Head) (pos d : Nat) (b : Bool) (ho : phaseOff h b = false) : let g := commitPhase h pos d b
    g.rsv = (if b then { h.rsv with pendB := some (d, decide (toReload pos b < rg h RSV_PWM_SETUP)) } else
      { h.rsv with pendA := some (d, decide (toReload pos b < rg h RSV_PWM_SETUP)) }) ∧ Frame [.rsv] [(.rsv, 0x0B8)] h g := by
  have heq : commitPhase h pos d b = setRsv (if decide (toReload pos b < rg h RSV_PWM_SETUP) = true then fadd h .east RSV_CNT_DEFER_COUNT else h)
      (fun r => if b then { r with pendB := some (d, decide (toReload pos b < rg h RSV_PWM_SETUP)) } else
        { r with pendA := some (d, decide (toReload pos b < rg h RSV_PWM_SETUP)) }) := if_neg (ne_true_of_eq_false ho)
  intro g
  show (commitPhase h pos d b).rsv = _ ∧ Frame _ _ h (commitPhase h pos d b)
  rw [heq]
  refine ⟨?_, ?_⟩
  · show (if b then _ else _) = _
    have hrsv : (if decide (toReload pos b < rg h RSV_PWM_SETUP) = true then fadd h .east RSV_CNT_DEFER_COUNT else h).rsv = h.rsv := by
      split <;> rfl
    rw [hrsv]
  · simp +decide only [setRsv, frame_ite, frame_rules, frame_mk, true_or, or_true, and_self, frame_refl, ite_self]

theorem rsvCommitGo_commits (s : State) (ini : Initiator) (pos : Nat) (hrun : Runs s.dev) (hw : Writable s.dev ini (pg .rsv .east) 0x068)
    (hm : rsvMode s.dev = 4) (ha : phaseOff s.dev false = false) (hb : phaseOff s.dev true = false) :
    Completes (.rsvCommitGo ini pos) s (fun h =>
      h.rsv = { s.dev.rsv with
        pendA := some (rg s.dev RSV_DUTY_A, decide (toReload pos false < rg s.dev RSV_PWM_SETUP))
        pendB := some (rg s.dev RSV_DUTY_B, decide (toReload pos true < rg s.dev RSV_PWM_SETUP)) } ∧
        RegsBut s.dev h [(.rsv, 0x0B8)] ∧ SameButRegs { reply s.dev false with rsv := h.rsv } h) := by
  let g := commitPhase (reply s.dev false) pos (rg s.dev RSV_DUTY_A) false
  have heq : rsvCommit s.dev ini pos = commitPhase g pos (rg s.dev RSV_DUTY_B) true := by
    rw [rsvCommit, withWrite_ok s.dev ini _ _ _ hw]
    exact if_pos hm
  obtain ⟨hA, hfA⟩ := commitPhase_on (reply s.dev false) pos (rg s.dev RSV_DUTY_A) false ha
  have hon : phaseOff g true = false := (hfA.fbit .east RSV_STATUS_PHASE_B_OFF (by decide) (by decide) 0 0).trans hb
  obtain ⟨hB, hfB⟩ := commitPhase_on g pos (rg s.dev RSV_DUTY_B) true hon
  have hsetup : rg g RSV_PWM_SETUP = rg s.dev RSV_PWM_SETUP := hfA.fget .east RSV_PWM_SETUP (by decide) (by decide) 0 0
  have hall := (hfA.trans hfB).mono (l := [.rsv, .evq]) (by decide) (fun _ h => h)
  refine completes_of_eq (exec_rsvCommitGo ini pos) hrun heq ⟨?_, hall.2, hall.putRsv.sameButRegs⟩
  rw [hB, show g.rsv = _ from hA, hsetup]
  rfl

/-- Settles O58: each part of a sample keeps what the parts after it show, so a whole sample leaves the control program's duties. -/
theorem samplesSetDuties : Obligations.SamplesSetDuties :=
  ⟨rsvSample_loop, rsvSample_late, carrierReload_takes, carrierReload_clashes, currentTrip_ends, rsvModeWrite_requests, clearFault_clears,
    clearFault_persists, rsvCommitGo_commits⟩

end Sys2Proof.Laws
end

section
/-! The capacitor bank, power failure and the dump (R495 to R509), and O59. -/

namespace Sys2Proof.Laws

open Machine Machine.Reg

/-! ### The bank test -/

/-- A bank test as it begins. -/
def testBegun (h : Head) : HealthTest :=
  let l := h.rsv.banks
  ⟨0, l.sum * 64 / max 1 l.length, (l.drop (l.length - 16)).sum * 16 / max 1 (min 16 l.length), 0, 0, 0, none⟩

/-- The head with a bank test under way. -/
def testStarted (h : Head) : Head :=
  setRsvMode (fset (fset (setRsv h (fun r => { r with health := some (testBegun h) })) .east RSV_HEALTH_BUSY 1) .east RSV_HEALTH_RESULT_VALID 0) 6

theorem frame_testStarted (h : Head) : Frame [.rsv] [(.rsv, 0x044), (.rsv, 0x0AC), (.rsv, 0x0B0)] h (testStarted h) := by
  simp +decide only [testStarted, setRsv, setRsvMode, frame_rules, frame_mk, true_or, or_true, and_self, frame_refl]

theorem testStarted_reads (h : Head) : rsvMode (testStarted h) = 6 ∧ fget (testStarted h) .east RSV_HEALTH_BUSY = 1 ∧
    fget (testStarted h) .east RSV_HEALTH_RESULT_VALID = 0 := by
  simp only [rsvMode, rg, testStarted, setRsvMode, setRsv, fget_eq_bget, fset_regs]
  simp (disch := decide) [RSV_STATUS_MODE, RSV_HEALTH_BUSY, RSV_HEALTH_RESULT_VALID]

theorem healthStart_starts (s : State) (ini : Initiator) (hrun : Runs s.dev) (hw : Writable s.dev ini (pg .rsv .east) 0x0AC)
    (hm : rsvMode s.dev = 2) (hh : s.dev.rsv.health = none) :
    Completes (.healthStart ini) s (fun h =>
      rsvMode h = 6 ∧ fget h .east RSV_HEALTH_BUSY = 1 ∧ fget h .east RSV_HEALTH_RESULT_VALID = 0 ∧
        (∃ t : HealthTest, h.rsv.health = some t ∧ t.n = 0 ∧ t.charge = 0 ∧ t.tail = none) ∧
        RegsBut s.dev h [(.rsv, 0x044), (.rsv, 0x0AC), (.rsv, 0x0B0)] ∧ SameButRegs { reply s.dev false with rsv := h.rsv } h) := by
  have hgate : ¬ (rsvMode (reply s.dev false) ≠ 2 ∨ (reply s.dev false).rsv.health.isSome = true) := by
    rintro (h2 | hs)
    · exact h2 hm
    · rw [show (reply s.dev false).rsv.health = none from hh] at hs
      exact absurd hs (by decide)
  have heq : healthStart s.dev ini = testStarted (reply s.dev false) := by
    rw [healthStart, withWrite_ok s.dev ini _ _ _ hw]
    exact if_neg hgate
  obtain ⟨hmode, hbusy, hvalid⟩ := testStarted_reads (reply s.dev false)
  have hfr := frame_testStarted (reply s.dev false)
  exact completes_of_eq (exec_healthStart ini) hrun heq ⟨hmode, hbusy, hvalid, ⟨testBegun (reply s.dev false), rfl, rfl, rfl, rfl⟩, hfr.2,
    (hfr.mono (l := [.rsv, .evq]) (by decide) (fun _ h => h)).putRsv.sameButRegs⟩

theorem healthStart_refused (s : State) (ini : Initiator) (hrun : Runs s.dev) (hw : Writable s.dev ini (pg .rsv .east) 0x0AC)
    (hm : rsvMode s.dev ≠ 2) :
    Completes (.healthStart ini) s (fun h =>
      rsvMode h = rsvMode s.dev ∧ h.rsv = s.dev.rsv ∧ EventSet h .east Ev.RSV_CONFIG ∧ SameButRegs (reply s.dev false) h) := by
  have heq : healthStart s.dev ini = rsvConfig (reply s.dev false) (sourceCode ini) 11 0x0AC := by
    rw [healthStart, withWrite_ok s.dev ini _ _ _ hw]
    exact if_pos (.inl hm)
  have hfr := frame_rsvConfig (reply s.dev false) (sourceCode ini) 11 0x0AC
  exact completes_of_eq (exec_healthStart ini) hrun heq ⟨hfr.fget .east RSV_STATUS_MODE (by decide) (by decide) 0 0, hfr.1 .rsv (by decide),
    eventSet_config _ (pg .rsv .east) _ hw.page, hfr.sameButRegs⟩

theorem rsvMode_setRsvMode (h : Head) (m : Nat) (hm : m < 8) : rsvMode (setRsvMode h m) = m := by
  simp only [rsvMode, rg, setRsvMode, fget_eq_bget, fset_regs]
  exact bget_bput_same_of_lt _ _ _ _ _ _ _ _ _ (by decide) (by decide) hm

theorem frame_setRsvMode (h : Head) (m : Nat) : Frame [] [(.rsv, 0x044)] h (setRsvMode h m) := frame_fset h .east 0 0 RSV_STATUS_MODE m

theorem healthEnd_waits (s : State) (t : HealthTest) (hrun : Runs s.dev) (hm : rsvMode s.dev = 6) (ht : s.dev.rsv.health = some t) :
    Completes .healthEnd s (fun h =>
      rsvMode h = 2 ∧ h.rsv = { s.dev.rsv with health := some { t with tail := some [] } } ∧ RegsBut s.dev h [(.rsv, 0x044)] ∧
        SameButRegs { s.dev with rsv := h.rsv } h) := by
  let g := setRsv s.dev (fun r => { r with health := r.health.map (fun t => { t with tail := some [] }) })
  have hg : Frame [.rsv, .evq] [(.rsv, 0x044)] s.dev g := by
    simp +decide only [g, setRsv, frame_mk, true_or, or_true, and_self, frame_refl]
  have heq : healthEnd s.dev = setRsvMode g 2 := if_neg (fun h => h hm)
  have hall := hg.trans ((frame_setRsvMode g 2).mono (by decide) (fun _ h => h))
  refine completes_of_eq exec_healthEnd hrun heq ⟨rsvMode_setRsvMode g 2 (by decide), ?_, hall.2, hall.putRsv.sameButRegs⟩
  show g.rsv = _
  have hmap : g.rsv = { s.dev.rsv with health := s.dev.rsv.health.map (fun t => { t with tail := some [] }) } := rfl
  rw [hmap, ht]
  rfl

theorem limpTimeout_latches (s : State) (hrun : Runs s.dev) (hm : rsvMode s.dev = 5) :
    Completes .limpTimeout s (fun h =>
      (rg h RSV_STATUS_FAULTS).testBit 2 = true ∧ phaseOff h false = true ∧ phaseOff h true = true ∧ EventSet h .east Ev.RSV_FAULT ∧
        rsvMode h = 5 ∧ h.rsv = { s.dev.rsv with limpOver := true } ∧ RegsBut s.dev h [(.rsv, 0x010), (.rsv, 0x044)] ∧
        SameButRegs { s.dev with rsv := h.rsv } h) := by
  let g := setRsv s.dev (fun r => { r with limpOver := true })
  have hg : Frame [.rsv, .evq] [(.rsv, 0x010), (.rsv, 0x044)] s.dev g := by
    simp +decide only [g, setRsv, frame_mk, true_or, or_true, and_self, frame_refl]
  have heq : limpTimeout s.dev = latchFault g 2 true true := if_pos hm
  obtain ⟨hbit, -, hA, hB, hev, hmode⟩ := latchFault_shows g 2 true true (by decide)
  have hl := frame_latchFault g 2 true true
  have hall := hg.trans (hl.mono (by decide) (fun _ h => h))
  exact completes_of_eq exec_limpTimeout hrun heq ⟨hbit, hA, hB, hev, hmode.trans hm, hl.1 .rsv (by decide), hall.2, hall.putRsv.sameButRegs⟩

/-! ### The allowance -/

/-- The time that the bank's energy leaves, where a dump power is given. -/
def allowedTime (h : Head) : Nat :=
  let v := h.rsv.vk * 16
  let vmin := rg h RSV_BANK_VMIN_MV
  (if v ≤ vmin then 0 else bankCap h * (v * v - vmin * vmin) / 2000000) / rg h RSV_ALLOW_CFG_POWER_W

/-- The allowance as its register shows it. -/
def allowedMib (h : Head) : Nat :=
  (clampI (((allowedTime h : Int) - rgI h RSV_ALLOW_CFG_RESERVE_MS) * rgI h RSV_ALLOW_CFG_RATE - 1024) 0 24576).toNat

def allowanceShown (h : Head) : Head := fset (fset h .east RSV_ALLOW_MIB (allowedMib h)) .east RSV_ALLOW_TIME_MS (min (allowedTime h) 65535)

/-- The allowance judged against the quota in force. -/
def allowanceJudged (h : Head) (mib : Nat) : Head :=
  let low := decide (mib < fget h .east VIT_QUOTA_NOW_QUOTA_MIB)
  let g := setRsv h (fun r => { r with low := low })
  if low = true ∧ (!h.rsv.low) = true then raise g .east Ev.RSV_BANK_LOW else g

theorem allowance_eq (h : Head) (hp : rg h RSV_ALLOW_CFG_POWER_W ≠ 0) : allowance h = allowanceJudged (allowanceShown h) (allowedMib h) := by
  unfold allowance
  simp only [if_neg hp]
  rfl

theorem frame_allowanceShown (h : Head) : Frame [] [(.rsv, 0x0A0)] h (allowanceShown h) := by
  simp +decide only [allowanceShown, frame_rules, frame_refl]

theorem frame_allowanceJudged (h : Head) (mib : Nat) : Frame [.rsv, .evq] [(.rsv, 0x010)] h (allowanceJudged h mib) := by
  simp +decide only [allowanceJudged, setRsv, frame_ite, frame_rules, frame_mk, true_or, or_true, and_self, frame_refl, ite_self]

theorem allowedMib_eq (h : Head) : allowedMib h =
    min ((allowedTime h - rg h RSV_ALLOW_CFG_RESERVE_MS) * rg h RSV_ALLOW_CFG_RATE - 1024) 24576 := by
  unfold allowedMib clampI rgI
  show (max 0 (min 24576 (((allowedTime h : Int) - (rg h RSV_ALLOW_CFG_RESERVE_MS : Nat)) * (rg h RSV_ALLOW_CFG_RATE : Nat) - 1024))).toNat = _
  rcases Nat.le_total (rg h RSV_ALLOW_CFG_RESERVE_MS) (allowedTime h) with hle | hle
  · rw [← Int.ofNat_sub hle, ← Int.natCast_mul]
    omega
  · have hneg : ((allowedTime h : Int) - (rg h RSV_ALLOW_CFG_RESERVE_MS : Nat)) * (rg h RSV_ALLOW_CFG_RATE : Nat) ≤ 0 :=
      Int.mul_nonpos_of_nonpos_of_nonneg (by omega) (by omega)
    rw [Nat.sub_eq_zero_of_le hle, Nat.zero_mul]
    omega

theorem allowanceUpdate_shows (s : State) (u t : Nat) (hrun : Runs s.dev) (hp : rg s.dev RSV_ALLOW_CFG_POWER_W ≠ 0)
    (hu : u = (s.dev.rsv.vk * 16) ^ 2 - rg s.dev RSV_BANK_VMIN_MV ^ 2)
    (ht : t = (if s.dev.rsv.vk * 16 ≤ rg s.dev RSV_BANK_VMIN_MV then 0 else bankCap s.dev * u / 2000000) / rg s.dev RSV_ALLOW_CFG_POWER_W) :
    Completes .allowanceUpdate s (fun h =>
      fget h .east RSV_ALLOW_TIME_MS = min t 65535 ∧
        fget h .east RSV_ALLOW_MIB = min ((t - rg s.dev RSV_ALLOW_CFG_RESERVE_MS) * rg s.dev RSV_ALLOW_CFG_RATE - 1024) 24576 ∧
        (fget h .east RSV_ALLOW_MIB < fget s.dev .east VIT_QUOTA_NOW_QUOTA_MIB → s.dev.rsv.low = false → EventSet h .east Ev.RSV_BANK_LOW) ∧
        RegsBut s.dev h [(.rsv, 0x010), (.rsv, 0x0A0)] ∧ SameButRegs { s.dev with rsv := h.rsv } h) := by
  have htime : allowedTime s.dev = t := by
    rw [ht, hu, Nat.pow_two, Nat.pow_two]
    rfl
  have hmib := allowedMib_eq s.dev
  rw [htime] at hmib
  have hs := frame_allowanceShown s.dev
  have hj := frame_allowanceJudged (allowanceShown s.dev) (allowedMib s.dev)
  have hall := (hs.mono (l := [.rsv, .evq]) (t := [(.rsv, 0x010), (.rsv, 0x0A0)]) (by decide) (by decide)).trans (hj.mono (fun _ h => h) (by decide))
  have hreads : fget (allowanceShown s.dev) .east RSV_ALLOW_TIME_MS = min t 65535 ∧ fget (allowanceShown s.dev) .east RSV_ALLOW_MIB = allowedMib s.dev := by
    simp only [allowanceShown, htime, fget_eq_bget, fset_regs]
    simp (disch := decide) [RSV_ALLOW_TIME_MS, RSV_ALLOW_MIB]
    omega
  have hm : fget (allowanceJudged (allowanceShown s.dev) (allowedMib s.dev)) .east RSV_ALLOW_MIB = allowedMib s.dev :=
    (hj.fget .east RSV_ALLOW_MIB (by decide) (by decide) 0 0).trans hreads.2
  refine completes_of_eq exec_allowanceUpdate hrun (allowance_eq s.dev hp) ⟨(hj.fget .east RSV_ALLOW_TIME_MS (by decide) (by decide) 0 0).trans hreads.1,
    hm.trans hmib, fun hlt hlow => ?_, hall.2, hall.putRsv.sameButRegs⟩
  rw [hm, ← hs.fget .east VIT_QUOTA_NOW_QUOTA_MIB (by decide) (by decide)] at hlt
  unfold allowanceJudged
  rw [if_pos ⟨decide_eq_true hlt, by rw [show (allowanceShown s.dev).rsv.low = false from hlow]; rfl⟩]
  exact raiseAt_sets _ _ _ (by decide)

/-! ### Mains and bus -/

theorem mainsChange_changes (h : Head) (ok : Bool) (hm : fbit h .east RSV_STATUS_MAINS_OK = !ok) : let g := mainsChange h ok
    fbit g .east RSV_STATUS_MAINS_OK = ok ∧ EventSet g .east (if ok then Ev.RSV_MAINS_BACK else Ev.RSV_MAINS_LOST) ∧
      Frame [.evq] [(.rsv, 0x010), (.rsv, 0x044)] h g := by
  have hne : ¬ fbit h .east RSV_STATUS_MAINS_OK = ok := by
    rw [hm]
    cases ok <;> decide
  let k := fset h .east RSV_STATUS_MAINS_OK (ofBool ok)
  let e := if ok then Ev.RSV_MAINS_BACK else Ev.RSV_MAINS_LOST
  have heq : mainsChange h ok = raise k .east e := if_neg hne
  have hk : fbit k .east RSV_STATUS_MAINS_OK = ok := by
    unfold fbit
    rw [fget_eq_bget, fset_regs, bget_bput_same_of_lt _ _ _ _ _ _ _ _ _ (by decide) (by decide) (by cases ok <;> decide)]
    cases ok <;> rfl
  have he : e.block = .rsv ∧ e.n < 32 := by cases ok <;> decide
  have hr := frame_raise k .east 0 e
  rw [he.1] at hr
  have hf : Frame [] [(.rsv, 0x044)] h k := frame_fset h .east 0 0 RSV_STATUS_MAINS_OK _
  intro g
  show fbit (mainsChange h ok) .east RSV_STATUS_MAINS_OK = ok ∧ EventSet (mainsChange h ok) .east e ∧ Frame _ _ h (mainsChange h ok)
  rw [heq]
  exact ⟨(hr.fbit .east RSV_STATUS_MAINS_OK (by decide) (by decide) 0 0).trans hk, raiseAt_sets _ _ _ he.2,
    (hf.mono (by decide) (by decide)).trans (hr.mono (fun _ h => h) (by decide))⟩

theorem mains_followed (s : State) (ok : Bool) (hrun : Runs s.dev) (hm : fbit s.dev .east RSV_STATUS_MAINS_OK = !ok) :
    Completes (if ok then .mainsBack else .mainsLost) s (fun h =>
      fbit h .east RSV_STATUS_MAINS_OK = ok ∧ EventSet h .east (if ok then Ev.RSV_MAINS_BACK else Ev.RSV_MAINS_LOST) ∧
        RegsBut s.dev h [(.rsv, 0x010), (.rsv, 0x044)] ∧ SameButRegs s.dev h) := by
  obtain ⟨hok, hev, hfr⟩ := mainsChange_changes s.dev ok hm
  cases ok
  · exact completes_of_eq exec_mainsLost hrun rfl ⟨hok, hev, hfr.2, hfr.sameButRegs⟩
  · exact completes_of_eq exec_mainsBack hrun rfl ⟨hok, hev, hfr.2, hfr.sameButRegs⟩

/-- A bus trip counted, a bank test and a mode that was due given up. -/
def tripNoted (h : Head) : Head :=
  setRsv (dropHealth (fadd (fset h .east RSV_STATUS_BUS_TRIPPED 1) .east RSV_CNT_TRIP_COUNT)) (fun r => { r with due := none })

/-- DISCHARGE in force, or LIMP with a discharge. -/
def discharging (h : Head) : Head :=
  if rsvMode h = 5 then setRsv h (fun r => { r with limpDis := true }) else setRsv (setRsvMode h 3) (fun r => { r with tripDis := true })

theorem busTrip_eq (h : Head) : busTrip h = raise (discharging (tripNoted h)) .east Ev.RSV_BUS_TRIP := rfl

theorem frame_tripNoted (h : Head) : Frame [.rsv] [(.rsv, 0x044), (.rsv, 0x0AC), (.rsv, 0x0BC)] h (tripNoted h) := by
  simp +decide only [tripNoted, setRsv, (frame_dropHealth ..).iff, frame_rules, frame_mk, true_or, or_true, and_self, frame_refl]

theorem frame_discharging (h : Head) : Frame [.rsv] [(.rsv, 0x044)] h (discharging h) := by
  simp +decide only [discharging, setRsv, setRsvMode, frame_ite, frame_rules, frame_mk, true_or, or_true, and_self, frame_refl, ite_self]

theorem dropHealth_none (h : Head) : (dropHealth h).rsv.health = none := by
  unfold dropHealth
  split
  · rfl
  · rename_i hn
    simpa using hn

theorem tripNoted_reads (h : Head) : fget (tripNoted h) .east RSV_STATUS_BUS_TRIPPED = 1 ∧ rsvMode (tripNoted h) = rsvMode h ∧
    fget (tripNoted h) .east RSV_CNT_TRIP_COUNT = min (fget h .east RSV_CNT_TRIP_COUNT + 1) (2 ^ 32 - 1) ∧ (tripNoted h).rsv.due = none ∧
    (tripNoted h).rsv.health = none := by
  let g := fset h .east RSV_STATUS_BUS_TRIPPED 1
  have hg : Frame [] [(.rsv, 0x044)] h g := frame_fset h .east 0 0 RSV_STATUS_BUS_TRIPPED 1
  have ha : Frame [] [(.rsv, 0x0BC)] g (fadd g .east RSV_CNT_TRIP_COUNT) := frame_fadd g .east 0 0 RSV_CNT_TRIP_COUNT 1
  have hd := frame_dropHealth (fadd g .east RSV_CNT_TRIP_COUNT)
  have hread (f : Fld) (hb : f.block = .rsv) (ho : f.off = 0x044) : fget (tripNoted h) .east f = fget g .east f :=
    (hd.fget .east f (by rw [hb, ho]; decide) (by rw [ho]; decide) 0 0).trans (ha.fget .east f (by rw [hb, ho]; decide) (by rw [ho]; decide) 0 0)
  refine ⟨?_, ?_, ?_, rfl, dropHealth_none _⟩
  · rw [hread _ rfl rfl, fget_eq_bget, fset_regs]
    exact bget_bput_same_of_lt _ _ _ _ _ _ _ _ _ (by decide) (by decide) (by decide)
  · refine (hread _ rfl rfl).trans ?_
    rw [fget_eq_bget, fset_regs]
    exact bget_bput_bits _ _ _ _ _ _ _ _ _ _ _ _ _ rfl rfl (by decide) (by decide) (by decide) (by decide)
  · refine (hd.fget .east RSV_CNT_TRIP_COUNT (by decide) (by decide) 0 0).trans ?_
    rw [fget_fadd_same _ _ _ _ _ _ (by decide) (by decide), hg.fget .east RSV_CNT_TRIP_COUNT (by decide) (by decide)]
    rfl

theorem discharging_reads (h : Head) : fget (discharging h) .east RSV_STATUS_BUS_TRIPPED = fget h .east RSV_STATUS_BUS_TRIPPED ∧
    rsvMode (discharging h) = (if rsvMode h = 5 then 5 else 3) ∧ (discharging h).rsv.due = h.rsv.due ∧ (discharging h).rsv.health = h.rsv.health ∧
    (if rsvMode h = 5 then (discharging h).rsv.limpDis else (discharging h).rsv.tripDis) = true := by
  unfold discharging
  by_cases hm : rsvMode h = 5
  · simp only [if_pos hm]
    exact ⟨rfl, hm, rfl, rfl, rfl⟩
  · simp only [if_neg hm]
    refine ⟨?_, rsvMode_setRsvMode h 3 (by decide), rfl, rfl, rfl⟩
    simp only [setRsv, setRsvMode, fget_eq_bget, fset_regs]
    exact bget_bput_bits _ _ _ _ _ _ _ _ _ _ _ _ _ rfl rfl (by decide) (by decide) (by decide) (by decide)

theorem busTrip_discharges (s : State) (hrun : Runs s.dev) :
    Completes .busTrip s (fun h =>
      fget h .east RSV_STATUS_BUS_TRIPPED = 1 ∧ fget h .east RSV_CNT_TRIP_COUNT = min (fget s.dev .east RSV_CNT_TRIP_COUNT + 1) (2 ^ 32 - 1) ∧
        EventSet h .east Ev.RSV_BUS_TRIP ∧ rsvMode h = (if rsvMode s.dev = 5 then 5 else 3) ∧ h.rsv.due = none ∧ h.rsv.health = none ∧
        (if rsvMode s.dev = 5 then h.rsv.limpDis else h.rsv.tripDis) = true ∧
        RegsBut s.dev h [(.rsv, 0x010), (.rsv, 0x044), (.rsv, 0x0AC), (.rsv, 0x0BC)] ∧ SameButRegs { s.dev with rsv := h.rsv } h) := by
  obtain ⟨htrip, hmode, hcount, hdue, hhealth⟩ := tripNoted_reads s.dev
  obtain ⟨htrip', hmode', hdue', hhealth', hdis⟩ := discharging_reads (tripNoted s.dev)
  have ht := frame_tripNoted s.dev
  have hd := frame_discharging (tripNoted s.dev)
  have hr := frame_raise (discharging (tripNoted s.dev)) .east 0 Ev.RSV_BUS_TRIP
  have hrsv : (raise (discharging (tripNoted s.dev)) .east Ev.RSV_BUS_TRIP).rsv = (discharging (tripNoted s.dev)).rsv := hr.1 .rsv (by decide)
  have hall : Frame [.rsv, .evq] [(.rsv, 0x010), (.rsv, 0x044), (.rsv, 0x0AC), (.rsv, 0x0BC)] s.dev
      (raise (discharging (tripNoted s.dev)) .east Ev.RSV_BUS_TRIP) :=
    (ht.mono (by decide) (by decide)).trans ((hd.mono (by decide) (by decide)).trans (hr.mono (by decide) (by decide)))
  rw [hmode] at hmode' hdis
  refine completes_of_eq exec_busTrip hrun (busTrip_eq s.dev) ⟨?_, ?_, raiseAt_sets _ _ _ (by decide), ?_, ?_, ?_, ?_, hall.2, hall.putRsv.sameButRegs⟩
  · rw [hr.fget .east RSV_STATUS_BUS_TRIPPED (by decide) (by decide), htrip', htrip]
  · rw [hr.fget .east RSV_CNT_TRIP_COUNT (by decide) (by decide), hd.fget .east RSV_CNT_TRIP_COUNT (by decide) (by decide), hcount]
  · exact (hr.fget .east RSV_STATUS_MODE (by decide) (by decide) 0 0).trans hmode'
  · rw [hrsv, hdue', hdue]
  · rw [hrsv, hhealth', hhealth]
  · rw [hrsv]
    exact hdis

/-! ### The dump -/

/-- The dump's last panel counted. -/
def panelCounted (h : Head) : Head :=
  fset (setRsv h (fun r => { r with dumpAcked := r.dumpAcked + 1 })) .east RSV_DUMP_MIB_DONE (min 65535 ((h.rsv.dumpAcked + 1) / 16))

/-- The dump ended well: its time shown, no lease renewed any more, its marker written. -/
def dumpMarked (h : Head) : Head :=
  let g := fset h .east RSV_DUMP_STATE 2
  let g := fset g .east RSV_DUMP_TIME_MS (min (2 ^ 32 - 1) ((frmTime g - g.rsv.dumpStart) / 1000000))
  let g := { g with vit := { g.vit with noRenew := true } }
  { g with cur := { g.cur with dump := g.cur.dump.map (fun d => { d with marked := true }) } }

theorem frame_panelCounted (h : Head) : Frame [.rsv] [(.rsv, 0x0A4)] h (panelCounted h) := by
  simp +decide only [panelCounted, setRsv, frame_rules, frame_mk, true_or, or_true, and_self, frame_refl]

theorem frame_dumpMarked (h : Head) : Frame [.vit, .cur] [(.rsv, 0x0A4), (.rsv, 0x0A8)] h (dumpMarked h) := by
  simp +decide only [dumpMarked, frame_rules, frame_mk, true_or, or_true, and_self, frame_refl]

theorem dumpState_panelCounted (h : Head) : dumpState (panelCounted h) = dumpState h := by
  simp only [dumpState, panelCounted, setRsv, fget_eq_bget, fset_regs]
  exact bget_bput_bits _ _ _ _ _ _ _ _ _ _ _ _ _ rfl rfl (by decide) (by decide) (by decide) (by decide)

theorem dumpEnd_marks (h : Head) (hs : dumpState h = 1) : dumpEnd h true = raise (dumpMarked h) .east Ev.RSV_DUMP_DONE := by
  unfold dumpEnd
  rw [if_neg (fun hn => hn hs)]
  rfl

theorem dumpDone_eq (h : Head) (hs : dumpState h = 1) (hl : h.rsv.dumpAcked + 1 = h.rsv.dumpPanels) :
    dumpDone h = raise (dumpMarked (panelCounted h)) .east Ev.RSV_DUMP_DONE := by
  have hlast : dumpPanelDone h h.rsv.dumpAcked .done = dumpEnd (panelCounted h) true := by
    unfold dumpPanelDone
    rw [if_neg (fun hn => hn hs), if_neg (fun hn => hn.1 rfl)]
    exact if_pos hl
  unfold dumpDone
  rw [if_pos ⟨hs, hl⟩, hlast, dumpEnd_marks _ ((dumpState_panelCounted h).trans hs)]

theorem dumpMarked_reads (h : Head) : dumpState (dumpMarked h) = 2 ∧
    fget (dumpMarked h) .east RSV_DUMP_TIME_MS = min (2 ^ 32 - 1) ((frmTime h - h.rsv.dumpStart) / 1000000) := by
  have ht : frmTime (fset h .east RSV_DUMP_STATE 2) = frmTime h := by
    have hf : Frame [] [(.rsv, 0x0A4)] h (fset h .east RSV_DUMP_STATE 2) := frame_fset h .east 0 0 RSV_DUMP_STATE 2
    unfold frmTime pget
    rw [hf.fget .east FRM_TIME_LO_TIME (by decide) (by decide), hf.fget .east FRM_TIME_HI_TIME (by decide) (by decide)]
  simp only [dumpState, dumpMarked, ht, fget_eq_bget, fset_regs]
  simp (disch := decide) [RSV_DUMP_STATE, RSV_DUMP_TIME_MS]

theorem dumpDone_marks (s : State) (hrun : Runs s.dev) (hs : dumpState s.dev = 1) (hl : s.dev.rsv.dumpAcked + 1 = s.dev.rsv.dumpPanels) :
    Completes .dumpDone s (fun h =>
      dumpState h = 2 ∧ EventSet h .east Ev.RSV_DUMP_DONE ∧ h.vit.noRenew = true ∧
      h.cur.dump = s.dev.cur.dump.map (fun d => { d with marked := true }) ∧
        fget h .east RSV_DUMP_TIME_MS = min (2 ^ 32 - 1) ((frmTime s.dev - s.dev.rsv.dumpStart) / 1000000) ∧
        RegsBut s.dev h [(.rsv, 0x010), (.rsv, 0x0A4), (.rsv, 0x0A8)] ∧ h.mem = s.dev.mem ∧ h.keys = s.dev.keys) := by
  have hc := frame_panelCounted s.dev
  have hm := frame_dumpMarked (panelCounted s.dev)
  obtain ⟨hstate, htime⟩ := dumpMarked_reads (panelCounted s.dev)
  have hft : frmTime (panelCounted s.dev) = frmTime s.dev := by
    unfold frmTime pget
    rw [hc.fget .east FRM_TIME_LO_TIME (by decide) (by decide), hc.fget .east FRM_TIME_HI_TIME (by decide) (by decide)]
  have hr := frame_raise (dumpMarked (panelCounted s.dev)) .east 0 Ev.RSV_DUMP_DONE
  have hall : Frame [.rsv, .vit, .cur, .evq] [(.rsv, 0x010), (.rsv, 0x0A4), (.rsv, 0x0A8)] s.dev
      (raise (dumpMarked (panelCounted s.dev)) .east Ev.RSV_DUMP_DONE) :=
    (hc.mono (by decide) (by decide)).trans ((hm.mono (by decide) (by decide)).trans (hr.mono (by decide) (by decide)))
  refine completes_of_eq exec_dumpDone hrun (dumpDone_eq s.dev hs hl) ⟨(hr.fget .east RSV_DUMP_STATE (by decide) (by decide) 0 0).trans hstate,
    raiseAt_sets _ _ _ (by decide), ?_, ?_, ?_, hall.2, hall.1 .mem (by decide), hall.1 .keys (by decide)⟩
  · rw [hr.1 .vit (by decide)]
    rfl
  · rw [hr.1 .cur (by decide)]
    rfl
  · rw [hr.fget .east RSV_DUMP_TIME_MS (by decide) (by decide), htime, hft]
    rfl

/-! ### Fresh keys -/

theorem frame_vaultReady (h : Head) : Frame [.evq] [(.cur, 0x010), (.cur, CUR_VAULT_READY.off)] h (vaultReady h) := by
  simp +decide only [vaultReady, frame_ite, frame_rules, frame_refl, ite_self]

theorem keyFreshWrite_readies (s : State) (ini : Initiator) (hrun : Runs s.dev) (hw : Writable s.dev ini (pg .rsv .east) 0x0A4) :
    Completes (.keyFreshWrite ini) s (fun h =>
      fget h .east RSV_DUMP_KEY_FRESH = 1 ∧
        (s.dev.cur.vault ≠ [] → s.dev.cur.vaultErase = [] → s.dev.cur.vaultListed = true → fbit s.dev .east CUR_VAULT_READY = false →
          fbit h .east CUR_VAULT_READY = true ∧ EventSet h .east Ev.CUR_VAULT_READY) ∧
        (s.dev.cur.vault = [] ∨ s.dev.cur.vaultErase ≠ [] ∨ s.dev.cur.vaultListed = false →
          fget h .east CUR_VAULT_READY = fget s.dev .east CUR_VAULT_READY) ∧ SameButRegs (reply s.dev false) h) := by
  let g := fset (reply s.dev false) .east RSV_DUMP_KEY_FRESH 1
  have hg : Frame [] [(.rsv, 0x0A4)] (reply s.dev false) g := frame_fset _ .east 0 0 RSV_DUMP_KEY_FRESH 1
  have hfresh : fget g .east RSV_DUMP_KEY_FRESH = 1 := by
    rw [fget_eq_bget, fset_regs]
    exact bget_bput_same_of_lt _ _ _ _ _ _ _ _ _ (by decide) (by decide) (by decide)
  have hready : fget g .east CUR_VAULT_READY = fget s.dev .east CUR_VAULT_READY := hg.fget .east CUR_VAULT_READY (by decide) (by decide) 0 0
  have heq : keyFreshWrite s.dev ini = vaultReady g := by
    rw [keyFreshWrite, withWrite_ok s.dev ini _ _ _ hw]
    rfl
  have hv := frame_vaultReady g
  refine completes_of_eq (exec_keyFreshWrite ini) hrun heq ⟨(hv.fget .east RSV_DUMP_KEY_FRESH (by decide) (by decide) 0 0).trans hfresh,
    fun h0 h1 h2 h3 => ?_, fun hn => ?_, ((hg.mono (t := [(.rsv, 0x0A4), (.cur, 0x010), (.cur, CUR_VAULT_READY.off)]) (by decide) (by decide)).trans
      (hv.mono (fun _ h => h) (by decide))).sameButRegs⟩
  · have hb : fbit g .east RSV_DUMP_KEY_FRESH = true := by rw [fbit, hfresh]; rfl
    have hr : (!fbit g .east CUR_VAULT_READY) = true := by
      rw [fbit, hready]
      rw [fbit] at h3
      rw [h3]
      rfl
    have he : vaultReady g = raise (fset g .east CUR_VAULT_READY 1) .east Ev.CUR_VAULT_READY := if_pos ⟨h0, h1, h2, hb, hr⟩
    rw [he]
    refine ⟨?_, raiseAt_sets _ _ _ (by decide)⟩
    rw [(frame_raise (fset g .east CUR_VAULT_READY 1) .east 0 Ev.CUR_VAULT_READY).fbit .east CUR_VAULT_READY (by decide) (by decide), fbit, fget_eq_bget,
      fset_regs, bget_bput_same_of_lt _ _ _ _ _ _ _ _ _ (by decide) (by decide) (by decide)]
    rfl
  · have he : vaultReady g = g := if_neg (by
      rintro ⟨h0, h1, h2, -⟩
      rcases hn with hn | hn | hn
      · exact h0 hn
      · exact hn h1
      · exact absurd ((show g.cur.vaultListed = false from hn).symm.trans h2) (by decide))
    rw [he, hready]

/-- Settles O59: each occurrence writes the fields named and raises its event. -/
theorem bankPowerFailureAndDump : Obligations.BankPowerFailureAndDump :=
  ⟨healthStart_starts, healthStart_refused, healthEnd_waits, limpTimeout_latches, allowanceUpdate_shows, mains_followed, busTrip_discharges, dumpDone_marks,
    keyFreshWrite_readies⟩

end Sys2Proof.Laws
end

section
/-! Islands entering and leaving rungs (R467 to R471), and O56. -/

namespace Sys2Proof.Laws

open Machine Machine.Reg

theorem Frame.putPwr {l : List Part} {t : List (Block × Nat)} {h g : Head} (x : Frame (.pwr :: l) t h g) : Frame l t { h with pwr := g.pwr } g :=
  x.put (by simp only [frame_mk, List.mem_cons, true_or, or_true, and_self, frame_refl]) rfl

theorem Frame.putCore {l : List Part} {t : List (Block × Nat)} {h g : Head} (x : Frame (.core :: l) t h g) : Frame l t { h with core := g.core } g :=
  x.put (by simp only [frame_mk, List.mem_cons, true_or, or_true, and_self, frame_refl]) rfl

/-! ### Requests -/

/-- RUNG's fields of a page, as one of them is set. -/
theorem rung_hset (h : Head) (p : Page) (v : Nat) : hget (hset h p RUNG_REQUEST v) p RUNG_CURRENT = hget h p RUNG_CURRENT ∧
    hget (hset h p RUNG_REQUEST v) p RUNG_REQUEST = v % 8 ∧ hget (hset h p RUNG_REQUEST v) p STATUS_FENCED = hget h p STATUS_FENCED := by
  simp (disch := first | decide | rfl) [hget_eq_bget, hset_regs, RUNG_REQUEST, RUNG_CURRENT, STATUS_FENCED]

theorem frame_startEntry (h : Head) (p : Page) (r : Nat) : Frame [.pwr] [(p.block, 0x030)] h (startEntry h p r) := by
  simp +decide only [startEntry, setEntries, frame_rules, List.mem_cons, RUNG_IN_TRANSIT, frame_mk, true_or, or_true, and_self, frame_refl]

theorem startEntry_reads (h : Head) (p : Page) (r : Nat) : hget (startEntry h p r) p RUNG_IN_TRANSIT = 1 ∧
    hget (startEntry h p r) p RUNG_CURRENT = hget h p RUNG_CURRENT ∧ hget (startEntry h p r) p RUNG_REQUEST = hget h p RUNG_REQUEST := by
  simp only [startEntry, setEntries, hget_eq_bget, hset_regs]
  simp (disch := first | decide | rfl) [RUNG_IN_TRANSIT, RUNG_CURRENT, RUNG_REQUEST]

theorem rungPermitted_le {b : Block} {r : Nat} (h : rungPermitted b r = true) : r ≤ 4 := by
  unfold rungPermitted at h
  split at h <;> simp at h <;> omega

theorem rungEffect_enters (h : Head) (src : Nat) (p : Page) (v : Nat) (hv : 0 < v) (hp : rungPermitted p.block v = true)
    (hx : pageNum p ∉ h.pwr.exits) (he : tabGet? h.pwr.entries (pageNum p) = none) (hq : hget h p STATUS_QUIESCED = 1)
    (hc : hget h p RUNG_CURRENT < v) : rungEffect h src p v = startEntry (hset h p RUNG_REQUEST v) p v := by
  have hgate : ¬ (v = 0 ∨ (!rungPermitted p.block v) = true) := by
    rw [hp]
    simp
    omega
  have hx' : ¬ h.pwr.exits.contains (pageNum p) = true := by simpa using hx
  have hcur := (rung_hset h p v).1
  unfold rungEffect
  rw [if_neg hgate, if_neg hx', if_neg (by omega)]
  unfold applyRequest
  dsimp only
  rw [show tabGet? (hset h p RUNG_REQUEST v).pwr.entries (pageNum p) = none from he]
  simp only [hcur, if_neg (show ¬ v < hget h p RUNG_CURRENT by omega), if_pos hc]

theorem rungRequest_enters (s : State) (ini : Initiator) (p : Page) (v : Nat) (hrun : Runs s.dev) (hw : Writable s.dev ini p 0x030) (hv : 0 < v)
    (hv8 : v < 8) (hp : rungPermitted p.block v = true) (hx : pageNum p ∉ s.dev.pwr.exits) (he : tabGet? s.dev.pwr.entries (pageNum p) = none)
    (hq : hget s.dev p STATUS_QUIESCED = 1) (hc : hget s.dev p RUNG_CURRENT < v) :
    Completes (.rungRequest ini p v) s (fun h =>
      h.pwr = { s.dev.pwr with entries := tabPut s.dev.pwr.entries (pageNum p) (v, 0) } ∧ hget h p RUNG_REQUEST = v ∧
        hget h p RUNG_IN_TRANSIT = 1 ∧ hget h p RUNG_CURRENT = hget s.dev p RUNG_CURRENT ∧ RegsBut s.dev h [(p.block, 0x030)] ∧
        SameButRegs { reply s.dev false with pwr := h.pwr } h) := by
  have heq : rungRequest s.dev ini p v = startEntry (hset (reply s.dev false) p RUNG_REQUEST v) p v := by
    rw [rungRequest, withWrite_ok s.dev ini _ _ _ hw, Nat.mod_eq_of_lt hv8]
    exact rungEffect_enters (reply s.dev false) _ p v hv hp hx he hq hc
  obtain ⟨htr, hcur, hreq⟩ := startEntry_reads (hset (reply s.dev false) p RUNG_REQUEST v) p v
  obtain ⟨hcur', hreq', -⟩ := rung_hset (reply s.dev false) p v
  have hall : Frame [.pwr, .evq] [(p.block, 0x030)] (reply s.dev false) (startEntry (hset (reply s.dev false) p RUNG_REQUEST v) p v) :=
    ((frame_hset (reply s.dev false) p RUNG_REQUEST v).mono (by decide) (fun _ h => h)).trans ((frame_startEntry _ p v).mono (by decide) (fun _ h => h))
  refine completes_of_eq (exec_rungRequest ini p v) hrun heq ⟨rfl, ?_, htr, hcur.trans hcur', hall.2, hall.putPwr.sameButRegs⟩
  rw [hreq, hreq', Nat.mod_eq_of_lt hv8]

theorem frame_startExit (h : Head) (p : Page) (causes : Nat) : Frame [.pwr] [(p.block, 0x030)] h (startExit h p causes) := by
  simp +decide only [startExit, setExits, frame_rules, List.mem_cons, RUNG_CAUSE, RUNG_IN_TRANSIT, frame_mk, true_or, or_true, and_self, frame_refl]

theorem startExit_reads (h : Head) (p : Page) (causes : Nat) : hget (startExit h p causes) p RUNG_IN_TRANSIT = 1 ∧
    hget (startExit h p causes) p RUNG_CURRENT = hget h p RUNG_CURRENT ∧ hget (startExit h p causes) p RUNG_CAUSE = causes % 256 ∧
    hget (startExit h p causes) p RUNG_REQUEST = hget h p RUNG_REQUEST := by
  simp only [startExit, setExits, hget_eq_bget, hset_regs]
  simp (disch := first | decide | rfl) [RUNG_IN_TRANSIT, RUNG_CURRENT, RUNG_CAUSE, RUNG_REQUEST]

theorem islandWake_sleeping (h : Head) (p : Page) (cause : Nat) (hs : Sleeps h p) : islandWake h p cause = startExit h p (1 <<< cause) := by
  obtain ⟨hc, hx, he, hf⟩ := hs
  have hx' : ¬ h.pwr.exits.contains (pageNum p) = true := by simpa using hx
  unfold islandWake
  rw [if_neg hx', he]
  exact if_neg (by simp [hc, hf])

/-- An island that sleeps wakes. -/
theorem startExit_wakes (g h : Head) (p : Page) (cause : Nat) (hc : cause < 8) (hp : h.pwr = { g.pwr with requests := h.pwr.requests })
    (hcur : hget h p RUNG_CURRENT = hget g p RUNG_CURRENT) : Wakes g (startExit h p (1 <<< cause)) p cause := by
  obtain ⟨htr, hcur', hcause, -⟩ := startExit_reads h p (1 <<< cause)
  have hlt : 2 ^ cause < 256 := Nat.pow_lt_pow_right (by decide) hc
  refine ⟨?_, htr, ?_, hcur'.trans hcur⟩
  · have hex : h.pwr.exits = g.pwr.exits := by rw [hp]
    show { h.pwr with exits := h.pwr.exits ++ [pageNum p] } = _
    rw [hex]
    conv_lhs => rw [hp]
    rfl
  · rw [hcause, Nat.one_shiftLeft, Nat.mod_eq_of_lt hlt]

theorem rungRequest_wakes (s : State) (ini : Initiator) (p : Page) (hrun : Runs s.dev) (hw : Writable s.dev ini p 0x030) (hs : Sleeps s.dev p) :
    Completes (.rungRequest ini p 0) s (fun h =>
      Wakes s.dev h p (if sourceCode ini = 0xFE then 5 else 0) ∧ hget h p RUNG_REQUEST = 0 ∧ RegsBut s.dev h [(p.block, 0x030)] ∧
        SameButRegs { reply s.dev false with pwr := h.pwr } h) := by
  let g := hset (setRequests (reply s.dev false) (tabDel s.dev.pwr.requests (pageNum p))) p RUNG_REQUEST 0
  obtain ⟨hcur, hreq, hfen⟩ := rung_hset (setRequests (reply s.dev false) (tabDel s.dev.pwr.requests (pageNum p))) p 0
  have hsleep : Sleeps g p := by
    obtain ⟨hc, hx, he, hf⟩ := hs
    exact ⟨fun h0 => hc (hcur.symm.trans h0), hx, he, fun h1 => hf (hfen.symm.trans h1)⟩
  have heq : rungRequest s.dev ini p 0 = startExit g p (1 <<< requestCause (sourceCode ini)) := by
    rw [rungRequest, withWrite_ok s.dev ini _ _ _ hw, ← islandWake_sleeping g p _ hsleep]
    unfold rungEffect
    rw [if_pos (.inl rfl), if_pos rfl]
    rfl
  have hlt : requestCause (sourceCode ini) < 8 := by
    unfold requestCause
    split <;> decide
  have hg : Frame [.pwr, .evq] [(p.block, 0x030)] (reply s.dev false) g := by
    simp +decide only [g, setRequests, frame_rules, List.mem_cons, RUNG_REQUEST, frame_mk, true_or, or_true, and_self, frame_refl]
  have hall := hg.trans ((frame_startExit g p (1 <<< requestCause (sourceCode ini))).mono (by decide) (fun _ h => h))
  refine completes_of_eq (exec_rungRequest ini p 0) hrun heq ⟨startExit_wakes s.dev g p _ hlt rfl hcur, ?_, hall.2, hall.putPwr.sameButRegs⟩
  rw [(startExit_reads g p _).2.2.2, hreq]

theorem rungEffect_refused (h : Head) (src : Nat) (p : Page) (v : Nat) (hv : 0 < v) (hp : rungPermitted p.block v = true)
    (hx : pageNum p ∉ h.pwr.exits) (hq : hget h p STATUS_QUIESCED = 0) :
    rungEffect h src p v = config h p ⟨3, src, true, pageAddr p + 0x030⟩ := by
  have hgate : ¬ (v = 0 ∨ (!rungPermitted p.block v) = true) := by
    rw [hp]
    simp
    omega
  have hx' : ¬ h.pwr.exits.contains (pageNum p) = true := by simpa using hx
  unfold rungEffect
  rw [if_neg hgate, if_neg hx', if_pos hq]

theorem rungRequest_refused (s : State) (ini : Initiator) (p : Page) (v : Nat) (hrun : Runs s.dev) (hw : Writable s.dev ini p 0x030) (hv : 0 < v)
    (hv8 : v < 8) (hp : rungPermitted p.block v = true) (hx : pageNum p ∉ s.dev.pwr.exits) (hq : hget s.dev p STATUS_QUIESCED = 0) :
    Completes (.rungRequest ini p v) s (fun h => h.pwr = s.dev.pwr ∧ hget h p RUNG_REQUEST = hget s.dev p RUNG_REQUEST ∧
      hget h p RUNG_CURRENT = hget s.dev p RUNG_CURRENT ∧ SameButRegs (reply s.dev false) h) := by
  have heq : rungRequest s.dev ini p v = config (reply s.dev false) p ⟨3, sourceCode ini, true, pageAddr p + 0x030⟩ := by
    rw [rungRequest, withWrite_ok s.dev ini _ _ _ hw, Nat.mod_eq_of_lt hv8]
    exact rungEffect_refused (reply s.dev false) _ p v hv hp hx hq
  have hf := frame_config (reply s.dev false) p ⟨3, sourceCode ini, true, pageAddr p + 0x030⟩
  exact completes_of_eq (exec_rungRequest ini p v) hrun heq ⟨hf.1 .pwr (by decide), hf.hget p RUNG_REQUEST (by simp [RUNG_REQUEST]) (by decide),
    hf.hget p RUNG_CURRENT (by simp [RUNG_CURRENT]) (by decide), hf.sameButRegs⟩

/-! ### The end of an entry -/

theorem frame_setRunning (h : Head) (p : Page) : Frame [] [(p.block, 0x00C)] h (setRunning h p) := by
  simp +decide only [setRunning, frame_ite, frame_rules, List.mem_cons, STATUS_RUNNING, STATUS_QUIESCED, true_or, frame_refl, ite_self]

/-- A page shown at a rung. -/
def rungShown (h : Head) (p : Page) (r : Nat) : Head := setRunning (hset (hset h p RUNG_CURRENT r) p RUNG_IN_TRANSIT 0) p

theorem frame_rungShown (h : Head) (p : Page) (r : Nat) : Frame [] [(p.block, 0x00C), (p.block, 0x030)] h (rungShown h p r) := by
  have hs : Frame [] [(p.block, 0x030)] h (hset (hset h p RUNG_CURRENT r) p RUNG_IN_TRANSIT 0) := by
    simp +decide only [frame_rules, List.mem_cons, RUNG_CURRENT, RUNG_IN_TRANSIT, true_or, frame_refl]
  exact (hs.mono (by decide) (by simp)).trans ((frame_setRunning _ p).mono (by decide) (by simp))

theorem rungShown_reads (h : Head) (p : Page) (r : Nat) (hr : r < 8) : hget (rungShown h p r) p RUNG_CURRENT = r ∧
    hget (rungShown h p r) p RUNG_IN_TRANSIT = 0 ∧ hget (rungShown h p r) p RUNG_REQUEST = hget h p RUNG_REQUEST ∧
    hget (rungShown h p r) p RUNG_CAUSE = hget h p RUNG_CAUSE := by
  have hf := frame_setRunning (hset (hset h p RUNG_CURRENT r) p RUNG_IN_TRANSIT 0) p
  have hread (f : HBits) (ho : f.off = 0x030) : hget (rungShown h p r) p f = hget (hset (hset h p RUNG_CURRENT r) p RUNG_IN_TRANSIT 0) p f :=
    hf.hget p f (by simp [ho]) (by rw [ho]; decide)
  rw [hread _ rfl, hread _ rfl, hread _ rfl, hread _ rfl]
  simp only [hget_eq_bget, hset_regs]
  simp (disch := first | decide | rfl) [RUNG_IN_TRANSIT, RUNG_CURRENT, RUNG_CAUSE, RUNG_REQUEST]
  omega

theorem atRung_low (h : Head) (p : Page) (r : Nat) (hr : r ≠ 4) : atRung h p r = rungShown h p r := by
  unfold atRung
  rw [if_neg hr]
  rfl

theorem atRung_dark (h : Head) (p : Page) : atRung h p 4 = rungShown (blockBody (linkDark h p) p) p 4 := rfl

/-- The entry of a page taken out. -/
def entryEnded (h : Head) (p : Page) : Head := setEntries h (tabDel h.pwr.entries (pageNum p))

theorem rungEntryDone_page (h : Head) (p : Page) (r causes : Nat) (he : tabGet? h.pwr.entries (pageNum p) = some (r, causes)) :
    rungEntryDone h (.page p) = (let g := atRung (entryEnded h p) p r
      if causes ≠ 0 then startExit g p causes else if r < hget g p RUNG_REQUEST then startEntry g p (hget g p RUNG_REQUEST) else g) := by
  unfold rungEntryDone
  simp only [he]
  rfl

theorem frame_entryEnded (h : Head) (p : Page) : Frame [.pwr] [] h (entryEnded h p) := by
  simp +decide only [entryEnded, setEntries, frame_mk, true_or, or_true, and_self, frame_refl]

theorem rungEntryDone_low (s : State) (p : Page) (r : Nat) (hrun : Runs s.dev) (_hp : pageOk p = true)
    (he : tabGet? s.dev.pwr.entries (pageNum p) = some (r, 0)) (_h0 : 0 < r) (h4 : r < 4) (hq : hget s.dev p RUNG_REQUEST ≤ r) :
    Completes (.rungEntryDone (.page p)) s (fun h =>
      hget h p RUNG_CURRENT = r ∧ hget h p RUNG_IN_TRANSIT = 0 ∧ tabGet? h.pwr.entries (pageNum p) = none ∧
        h.pwr = { s.dev.pwr with entries := h.pwr.entries } ∧ RegsBut s.dev h [(p.block, 0x00C), (p.block, 0x030)] ∧
        SameButRegs { s.dev with pwr := h.pwr } h) := by
  obtain ⟨hcur, htr, hreq, -⟩ := rungShown_reads (entryEnded s.dev p) p r (by omega)
  have hreq' : hget (entryEnded s.dev p) p RUNG_REQUEST = hget s.dev p RUNG_REQUEST := rfl
  have heq : rungEntryDone s.dev (.page p) = rungShown (entryEnded s.dev p) p r := by
    rw [rungEntryDone_page s.dev p r 0 he, atRung_low _ p r (by omega)]
    simp only [ne_eq, not_true_eq_false, if_false]
    exact if_neg (by omega)
  have hs := frame_rungShown (entryEnded s.dev p) p r
  have hpwr : (rungShown (entryEnded s.dev p) p r).pwr = (entryEnded s.dev p).pwr := hs.1 .pwr (by decide)
  have hall : Frame [.pwr, .evq] [(p.block, 0x00C), (p.block, 0x030)] s.dev (rungShown (entryEnded s.dev p) p r) :=
    ((frame_entryEnded s.dev p).mono (by decide) (by simp)).trans (hs.mono (by decide) (fun _ h => h))
  refine completes_of_eq (exec_rungEntryDone (.page p)) hrun heq ⟨hcur, htr, ?_, ?_, hall.2, hall.putPwr.sameButRegs⟩
  · rw [hpwr]
    exact tabGet?_tabDel_same _ _
  · rw [hpwr]
    rfl

theorem rungEntryDone_woken (s : State) (p : Page) (r c : Nat) (hrun : Runs s.dev) (_hp : pageOk p = true)
    (he : tabGet? s.dev.pwr.entries (pageNum p) = some (r, c)) (h0 : 0 < c) (hc : c < 256) (_hr : 0 < r) (h4 : r < 4) :
    Completes (.rungEntryDone (.page p)) s (fun h =>
      hget h p RUNG_CURRENT = r ∧ hget h p RUNG_IN_TRANSIT = 1 ∧ hget h p RUNG_CAUSE = c ∧ h.pwr.exits = s.dev.pwr.exits ++ [pageNum p] ∧
        tabGet? h.pwr.entries (pageNum p) = none) := by
  obtain ⟨hcur, -, -, -⟩ := rungShown_reads (entryEnded s.dev p) p r (by omega)
  have heq : rungEntryDone s.dev (.page p) = startExit (rungShown (entryEnded s.dev p) p r) p c := by
    rw [rungEntryDone_page s.dev p r c he, atRung_low _ p r (by omega)]
    exact if_pos (by omega)
  have hs := frame_rungShown (entryEnded s.dev p) p r
  have hpwr : (rungShown (entryEnded s.dev p) p r).pwr = (entryEnded s.dev p).pwr := hs.1 .pwr (by decide)
  obtain ⟨htr, hcur', hcause, -⟩ := startExit_reads (rungShown (entryEnded s.dev p) p r) p c
  refine completes_of_eq (exec_rungEntryDone (.page p)) hrun heq ⟨hcur'.trans hcur, htr, hcause.trans (Nat.mod_eq_of_lt hc), ?_, ?_⟩
  · show (rungShown (entryEnded s.dev p) p r).pwr.exits ++ _ = _
    rw [hpwr]
    rfl
  · show tabGet? (rungShown (entryEnded s.dev p) p r).pwr.entries _ = _
    rw [hpwr]
    exact tabGet?_tabDel_same _ _

/-! ### Entering rung 4 -/

theorem tabGet?_filterMap_kept {f : Nat × Word → Option (Nat × Word)} {k : Nat} (hkey : ∀ e e', f e = some e' → e'.1 = e.1)
    (hf : ∀ v, f (k, v) = some (k, v)) (t : Tab Word) : tabGet? (t.filterMap f) k = tabGet? t k := by
  cases ht : tabGet? t k with
  | some v => exact tabGet?_filterMap_some hkey (hf v) t ht
  | none =>
    induction t with
    | nil => rfl
    | cons e t ih =>
      obtain ⟨x, u⟩ := e
      unfold tabGet? at ht
      split at ht
      next => cases ht
      next hx =>
        rw [List.filterMap_cons]
        split
        next => exact ih ht
        next e' he =>
          unfold tabGet?
          rw [if_neg (fun heq => hx ((hkey _ e' he).symm.trans heq))]
          exact ih ht

/-- Registers before the first that a reset of pages reaches stay. -/
theorem rd_resetRegs_before (h : Head) (l : List Fld) (start : Nat) (mine : Page → Bool) (p : Page) (off bank : Nat) (ho : off < start)
    (h4 : off < 4096) : rd (resetRegs h l start mine) p off bank = rd h p off bank := by
  let f : Nat × Word → Option (Nat × Word) := fun e => match pageOfNum (keyPage e.1) with
    | none => some e
    | some p =>
      if mine p ∧ start ≤ keyOff e.1 then
        let v := resetEntry l p (keyOff e.1) (keyBank e.1) e.2
        if v = resetWord p (keyOff e.1) (keyBank e.1) then none else some (e.1, v)
      else some e
  have hkey : ∀ e e', f e = some e' → e'.1 = e.1 := by
    intro e e' he
    simp only [f] at he
    split at he
    · cases he
      rfl
    · split at he
      · split at he
        · cases he
        · cases he
          rfl
      · cases he
        rfl
  have hoff (q : Page) : keyOff (regKey q off bank) = off := by rw [keyOff_regKey, Nat.mod_eq_of_lt h4]
  have hkept (q : Page) (v : Word) : f (regKey q off bank, v) = some (regKey q off bank, v) := by
    simp only [f]
    split
    · rfl
    · rw [hoff q, if_neg (fun hm => absurd hm.2 (by omega))]
  show tabGet (h.regs.filterMap f) _ (regKey (homePage p off) off bank) = tabGet h.regs _ (regKey (homePage p off) off bank)
  unfold tabGet
  rw [tabGet?_filterMap_kept hkey (hkept (homePage p off)) h.regs]

theorem frame_linkDark (h : Head) (p : Page) : Frame [.bridges, .plk, .evq] [(.plk, 0x010), (.plk, PLK_STATUS_UP.off)] h (linkDark h p) := by
  simp +decide only [linkDark, plkDown, updBridge, setBridge, setPlkLink, plkSet, plkRaise, frame_ite, frame_rules, frame_mk, true_or, or_true, and_self,
    frame_refl, ite_self]

/-- The state beside its registers that a block which may be at rung 4 loses. -/
theorem frame_blockLoss (h : Head) (p : Page) (hp : rungPermitted p.block 4 = true) :
    Frame [.foy, .mft, .eng, .plk, .rpl, .core] [] h (blockLoss h p) := by
  obtain ⟨b, w, i⟩ := p
  have hall : ∀ b : Block, rungPermitted b 4 = true → b ∈ [Block.foy, .plk, .mft, .dge, .cdc, .cph, .rpl, .dma] := by
    intro b
    cases b <;> decide
  have hb := hall b hp
  simp only [List.mem_cons, List.not_mem_nil, or_false] at hb
  rcases hb with rfl | rfl | rfl | rfl | rfl | rfl | rfl | rfl <;>
    simp +decide only [blockLoss, frame_ite, frame_mk, true_or, or_true, and_self, frame_refl, ite_self]

theorem blockBody_header (h : Head) (p q : Page) (off bank : Nat) (hp : rungPermitted p.block 4 = true) (ho : off < 0x40) :
    rd (blockBody h p) q off bank = rd h q off bank := by
  unfold blockBody
  rw [rd_resetRegs_before _ _ _ _ q off bank ho (by omega)]
  exact (frame_blockLoss h p hp).2 q off bank (by omega) (by simp)

theorem hget_blockBody (h : Head) (p q : Page) (f : HBits) (hp : rungPermitted p.block 4 = true) (ho : f.off < 0x40) :
    hget (blockBody h p) q f = hget h q f := congrArg (bitsOf · f.hi f.lo) (blockBody_header h p q f.off 0 hp ho)

theorem rungEntryDone_dark (s : State) (p : Page) (hrun : Runs s.dev) (_hp : pageOk p = true)
    (he : tabGet? s.dev.pwr.entries (pageNum p) = some (4, 0)) (h4 : rungPermitted p.block 4 = true) (hq : hget s.dev p RUNG_REQUEST ≤ 4) :
    Completes (.rungEntryDone (.page p)) s (fun h => ∃ g : Head,
      g = blockBody (linkDark { s.dev with pwr := { s.dev.pwr with entries := tabDel s.dev.pwr.entries (pageNum p) } } p) p ∧
        hget h p RUNG_CURRENT = 4 ∧ hget h p RUNG_IN_TRANSIT = 0 ∧ RegsBut g h [(p.block, 0x00C), (p.block, 0x030)] ∧
        SameButRegs g h) := by
  have hd := frame_linkDark (entryEnded s.dev p) p
  have hreq' : hget (blockBody (linkDark (entryEnded s.dev p) p) p) p RUNG_REQUEST = hget s.dev p RUNG_REQUEST :=
    (hget_blockBody _ p p RUNG_REQUEST h4 (by decide)).trans (hd.hget p RUNG_REQUEST (by simp [RUNG_REQUEST, PLK_STATUS_UP]) (by decide))
  have heq : rungEntryDone s.dev (.page p) = rungShown (blockBody (linkDark (entryEnded s.dev p) p) p) p 4 := by
    have hreq := (rungShown_reads (blockBody (linkDark (entryEnded s.dev p) p) p) p 4 (by decide)).2.2.1
    rw [rungEntryDone_page s.dev p 4 0 he, atRung_dark]
    simp only [ne_eq, not_true_eq_false, if_false]
    exact if_neg (by omega)
  obtain ⟨hcur, htr, -, -⟩ := rungShown_reads (blockBody (linkDark (entryEnded s.dev p) p) p) p 4 (by decide)
  have hs := frame_rungShown (blockBody (linkDark (entryEnded s.dev p) p) p) p 4
  exact completes_of_eq (exec_rungEntryDone (.page p)) hrun heq ⟨blockBody (linkDark (entryEnded s.dev p) p) p, rfl, hcur, htr, hs.2,
    (hs.mono (l := [.evq]) (by decide) (fun _ h => h)).sameButRegs⟩

/-! ### The end of an exit -/

/-- The exit of a page taken out, with what waits for it. -/
def exitEnded (h : Head) (p : Page) : Head :=
  setRequests (setExits h (h.pwr.exits.filter (· != pageNum p))) (tabDel h.pwr.requests (pageNum p))

/-- A page back at rung 0, its causes shown. -/
def rungLeft (h : Head) (p : Page) (causes : Nat) : Head := setRunning (hset (hset h p RUNG_CAUSE causes) p RUNG_REQUEST 0) p

theorem pageExitDone_eq (h : Head) (p : Page) (hr : tabHas h.pwr.requests (pageNum p) = false) : pageExitDone h p =
    rungLeft (if hget h p RUNG_CURRENT = 4 then blockReset (exitEnded h p) p true else hset (hset (exitEnded h p) p RUNG_CURRENT 0) p RUNG_IN_TRANSIT 0) p
      (hget h p RUNG_CAUSE) := by
  unfold pageExitDone
  simp only [hr, Bool.false_eq_true, if_false, if_true]
  rfl

theorem notMem_exitEnded (h : Head) (p : Page) : pageNum p ∉ (exitEnded h p).pwr.exits := by
  show pageNum p ∉ h.pwr.exits.filter (· != pageNum p)
  simp

theorem frame_exitEnded (h : Head) (p : Page) : Frame [.pwr] [] h (exitEnded h p) := by
  simp +decide only [exitEnded, setExits, setRequests, frame_mk, true_or, or_true, and_self, frame_refl]

theorem frame_rungLeft (h : Head) (p : Page) (causes : Nat) : Frame [] [(p.block, 0x00C), (p.block, 0x030)] h (rungLeft h p causes) := by
  have hs : Frame [] [(p.block, 0x030)] h (hset (hset h p RUNG_CAUSE causes) p RUNG_REQUEST 0) := by
    simp +decide only [frame_rules, List.mem_cons, RUNG_CAUSE, RUNG_REQUEST, true_or, frame_refl]
  exact (hs.mono (by decide) (by simp)).trans ((frame_setRunning _ p).mono (by decide) (by simp))

theorem rungLeft_reads (h : Head) (p : Page) (causes : Nat) (hc : causes < 256) : hget (rungLeft h p causes) p RUNG_CURRENT = hget h p RUNG_CURRENT ∧
    hget (rungLeft h p causes) p RUNG_IN_TRANSIT = hget h p RUNG_IN_TRANSIT ∧ hget (rungLeft h p causes) p RUNG_REQUEST = 0 ∧
    hget (rungLeft h p causes) p RUNG_CAUSE = causes := by
  have hf := frame_setRunning (hset (hset h p RUNG_CAUSE causes) p RUNG_REQUEST 0) p
  have hread (f : HBits) (ho : f.off = 0x030) : hget (rungLeft h p causes) p f = hget (hset (hset h p RUNG_CAUSE causes) p RUNG_REQUEST 0) p f :=
    hf.hget p f (by simp [ho]) (by rw [ho]; decide)
  rw [hread _ rfl, hread _ rfl, hread _ rfl, hread _ rfl]
  simp only [hget_eq_bget, hset_regs]
  simp (disch := first | decide | rfl) [RUNG_IN_TRANSIT, RUNG_CURRENT, RUNG_CAUSE, RUNG_REQUEST]
  omega

theorem hget_cause_lt (h : Head) (p : Page) : hget h p RUNG_CAUSE < 256 := by
  rw [hget_eq_bget]
  exact bget_lt ..

theorem rungExitDone_low (s : State) (p : Page) (hrun : Runs s.dev) (_hp : pageOk p = true) (hx : pageNum p ∈ s.dev.pwr.exits)
    (h4 : hget s.dev p RUNG_CURRENT ≠ 4) (hr : tabHas s.dev.pwr.requests (pageNum p) = false) :
    Completes (.rungExitDone (.page p)) s (fun h =>
      hget h p RUNG_CURRENT = 0 ∧ hget h p RUNG_IN_TRANSIT = 0 ∧ hget h p RUNG_REQUEST = 0 ∧
        hget h p RUNG_CAUSE = hget s.dev p RUNG_CAUSE ∧ pageNum p ∉ h.pwr.exits ∧ RegsBut s.dev h [(p.block, 0x00C), (p.block, 0x030)] ∧
        SameButRegs { s.dev with pwr := h.pwr } h) := by
  let g := hset (hset (exitEnded s.dev p) p RUNG_CURRENT 0) p RUNG_IN_TRANSIT 0
  have hg : Frame [] [(p.block, 0x030)] (exitEnded s.dev p) g := by
    simp +decide only [g, frame_rules, List.mem_cons, RUNG_CURRENT, RUNG_IN_TRANSIT, true_or, frame_refl]
  have hzero : hget g p RUNG_CURRENT = 0 ∧ hget g p RUNG_IN_TRANSIT = 0 := by
    simp only [g, hget_eq_bget, hset_regs]
    simp (disch := first | decide | rfl) [RUNG_IN_TRANSIT, RUNG_CURRENT]
  have heq : rungExitDone s.dev (.page p) = rungLeft g p (hget s.dev p RUNG_CAUSE) := by
    unfold rungExitDone
    simp only [List.contains_eq_mem, hx, decide_true, if_true]
    rw [pageExitDone_eq s.dev p hr, if_neg h4]
  obtain ⟨hcur, htr, hreq, hcause⟩ := rungLeft_reads g p (hget s.dev p RUNG_CAUSE) (hget_cause_lt _ _)
  have hl := frame_rungLeft g p (hget s.dev p RUNG_CAUSE)
  have hall : Frame [.pwr, .evq] [(p.block, 0x00C), (p.block, 0x030)] s.dev (rungLeft g p (hget s.dev p RUNG_CAUSE)) :=
    ((frame_exitEnded s.dev p).mono (by decide) (by simp)).trans ((hg.mono (by decide) (by simp)).trans (hl.mono (by decide) (fun _ h => h)))
  refine completes_of_eq (exec_rungExitDone (.page p)) hrun heq ⟨hcur.trans hzero.1, htr.trans hzero.2, hreq, hcause, ?_, hall.2, hall.putPwr.sameButRegs⟩
  rw [hl.1 .pwr (by decide), hg.1 .pwr (by decide)]
  exact notMem_exitEnded s.dev p

theorem frame_blockReset (h : Head) (p : Page) (leaving : Bool) (hp : rungPermitted p.block 4 = true) (q : Part)
    (hq : q ∉ [Part.foy, .mft, .eng, .plk, .rpl, .core, .pend, .hiHold, .hiLatch]) : q.same h (blockReset h p leaving) := by
  simp only [List.mem_cons, List.not_mem_nil, or_false, not_or] at hq
  have hloss := (frame_blockLoss h p hp).1 q (by simp; tauto)
  have hbody : q.same h (blockBody h p) := q.same_trans hloss (resetRegs_part _ _ _ _ q (by simp; tauto))
  have hload := (frame_loadOptions (blockBody h p) (fun r => r == p && p.block != .frm)).1 q (by simp)
  have hhead : q.same h (resetHeader (loadOptions (blockBody h p) (fun r => r == p && p.block != .frm)) p) := by
    refine q.same_trans hbody (q.same_trans hload ?_)
    cases q <;> rfl
  refine q.same_trans hhead ?_
  unfold blockReset
  cases q <;> rfl

theorem blockReset_rung (h : Head) (p : Page) : hget (blockReset h p true) p RUNG_CURRENT = 0 := by
  unfold blockReset
  simp only [hget_eq_bget, hset_regs, wr_regs]
  simp (disch := first | decide | rfl) [RUNG_CURRENT, CTRL_QUIESCE, STATUS_QUIESCED, STATUS_RUNNING, STATUS_FENCED, CTRL_FENCE]
  rfl

theorem rungExitDone_dark (s : State) (p : Page) (hrun : Runs s.dev) (_hp : pageOk p = true) (hx : pageNum p ∈ s.dev.pwr.exits)
    (h4 : hget s.dev p RUNG_CURRENT = 4) (hper : rungPermitted p.block 4 = true) (hr : tabHas s.dev.pwr.requests (pageNum p) = false) :
    Completes (.rungExitDone (.page p)) s (fun h =>
      hget h p RUNG_CURRENT = 0 ∧ hget h p STATUS_QUIESCED = 1 ∧ hget h p CTRL_QUIESCE = 1 ∧ hget h p STATUS_RUNNING = 0 ∧
        hget h p RUNG_CAUSE = hget s.dev p RUNG_CAUSE ∧ pageNum p ∉ h.pwr.exits ∧ h.mem = s.dev.mem ∧ h.out = s.dev.out) := by
  have heq : rungExitDone s.dev (.page p) = rungLeft (blockReset (exitEnded s.dev p) p true) p (hget s.dev p RUNG_CAUSE) := by
    unfold rungExitDone
    simp only [List.contains_eq_mem, hx, decide_true, if_true]
    rw [pageExitDone_eq s.dev p hr, if_pos h4]
  have hpart (q : Part) (hq : q ∉ [Part.foy, .mft, .eng, .plk, .rpl, .core, .pend, .hiHold, .hiLatch]) :=
    frame_blockReset (exitEnded s.dev p) p true hper q hq
  have hpwr : (blockReset (exitEnded s.dev p) p true).pwr = (exitEnded s.dev p).pwr := hpart .pwr (by decide)
  have hmem : (blockReset (exitEnded s.dev p) p true).mem = s.dev.mem := hpart .mem (by decide)
  have hout : (blockReset (exitEnded s.dev p) p true).out = s.dev.out := hpart .out (by decide)
  obtain ⟨hq1, hq2, hq3⟩ := blockReset_quiesces (exitEnded s.dev p) p true
  have hrung := blockReset_rung (exitEnded s.dev p) p
  generalize blockReset (exitEnded s.dev p) p true = g at *
  obtain ⟨hcur, -, -, hcause⟩ := rungLeft_reads g p (hget s.dev p RUNG_CAUSE) (hget_cause_lt _ _)
  have hl := frame_rungLeft g p (hget s.dev p RUNG_CAUSE)
  have hcaused : Frame [] [(p.block, 0x030)] g (hset (hset g p RUNG_CAUSE (hget s.dev p RUNG_CAUSE)) p RUNG_REQUEST 0) := by
    simp +decide only [frame_rules, List.mem_cons, RUNG_CAUSE, RUNG_REQUEST, true_or, frame_refl]
  have hstop : rungLeft g p (hget s.dev p RUNG_CAUSE) = hset (hset (hset g p RUNG_CAUSE (hget s.dev p RUNG_CAUSE)) p RUNG_REQUEST 0) p STATUS_RUNNING 0 := by
    refine setRunning_stopped _ _ (not_running_of (.inl ?_))
    rw [hcaused.hget p CTRL_QUIESCE (by simp [CTRL_QUIESCE]) (by decide), hq1]
    decide
  refine completes_of_eq (exec_rungExitDone (.page p)) hrun heq ⟨hcur.trans hrung, ?_, ?_, ?_, hcause, ?_, ?_, ?_⟩
  · rw [hstop, ← hq2]
    simp (disch := first | decide | rfl) [hget_eq_bget, hset_regs, STATUS_QUIESCED, STATUS_RUNNING, RUNG_CAUSE, RUNG_REQUEST]
  · rw [hl.hget p CTRL_QUIESCE (by simp [CTRL_QUIESCE]) (by decide), hq1]
  · rw [hstop, hget_eq_bget, hset_regs]
    exact bget_bput_same_of_lt _ _ _ _ _ _ _ _ _ (by decide) (by decide) (by decide)
  · rw [hl.1 .pwr (by decide), hpwr]
    exact notMem_exitEnded s.dev p
  · rw [hl.1 .mem (by decide), hmem]
  · rw [hl.1 .out (by decide), hout]

/-! ### Cores -/

theorem coreRung_setCoreRung (h : Head) (n r : Nat) (hr : r < 8) : coreRung (setCoreRung h n r) n = r := by
  rw [coreRung, setCoreRung, fget_eq_bget, fset_regs]
  exact bget_bput_same_of_lt _ _ _ _ _ _ _ _ _ (by decide) (by decide) hr

/-- Two cores of the head have registers of their own. -/
theorem core_apart {n k : Nat} (hn : n < 52) (hk : k < 52) (hne : k ≠ n) : hartWing k ≠ hartWing n ∨ hartCore k ≠ hartCore n := by
  unfold hartWing hartCore
  split <;> split <;> simp <;> omega

/-- A register of a core beside the one that is set. -/
theorem coreReg_fset_other (h : Head) (n k : Nat) (f f' : Fld) (v : Nat) (hf : f.block = .pwr) (hf' : f'.block = .pwr) (ho : f.off = 0x04C)
    (ho' : f'.off = 0x04C) (hn : n < 52) (hk : k < 52) (hne : k ≠ n) :
    fget (fset h (hartWing n) f v (hartCore n)) (hartWing k) f' (hartCore k) = fget h (hartWing k) f' (hartCore k) := by
  simp only [fget_eq_bget, fset_regs, hf, hf', ho, ho']
  have hlt : hartCore n < 26 ∧ hartCore k < 26 := by
    unfold hartCore
    omega
  by_cases hw : hartWing k = hartWing n
  · have hc : hartCore k ≠ hartCore n := (core_apart hn hk hne).resolve_left (fun h => h hw)
    exact bget_bput_bank _ _ _ _ _ _ _ _ _ _ _ _ _ _ _ _ (by omega)
  · exact bget_bput_wing _ _ _ _ _ _ _ _ _ _ _ _ _ _ _ _ hw (by decide) (by decide)

theorem frame_cpuRung (h : Head) (n r : Nat) : Frame [] [(.cpu, CPU_CORE_STATE_RUNG.off)] h (fset h (hartWing n) CPU_CORE_STATE_RUNG r (hartCore n)) := by
  simp +decide only [frame_rules, frame_refl]

theorem coreRung_setCoreRung_other (h : Head) (n k r : Nat) (hn : n < 52) (hk : k < 52) (hne : k ≠ n) : coreRung (setCoreRung h n r) k = coreRung h k := by
  unfold coreRung setCoreRung
  rw [coreReg_fset_other _ n k _ _ r rfl rfl rfl rfl hn hk hne]
  exact (frame_cpuRung h n r).fget (hartWing k) PWR_CORE_RUNG_CURRENT (by decide) (by decide) _ 0

theorem frame_setCoreRung (h : Head) (n r : Nat) : Frame [] [(.cpu, CPU_CORE_STATE_RUNG.off), (.pwr, 0x04C)] h (setCoreRung h n r) := by
  simp +decide only [setCoreRung, frame_rules, frame_refl]

/-- The transit bit of a core cleared. -/
def transitOver (h : Head) (n : Nat) : Head := fset h (hartWing n) PWR_CORE_RUNG_IN_TRANSIT 0 (hartCore n)

theorem frame_transitOver (h : Head) (n : Nat) : Frame [] [(.pwr, 0x04C)] h (transitOver h n) := by
  simp +decide only [transitOver, frame_rules, frame_refl]

theorem coreRung_transitOver (h : Head) (n : Nat) : coreRung (transitOver h n) n = coreRung h n := by
  rw [coreRung, coreRung, transitOver, fget_eq_bget, fset_regs]
  exact bget_bput_bits _ _ _ _ _ _ _ _ _ _ _ _ _ rfl rfl (by decide) (by decide) (by decide) (by decide)

theorem rungEntryDone_core (s : State) (n r : Nat) (hrun : Runs s.dev) (hn : n < 52) (he : tabGet? s.dev.pwr.entries (coreIsland n) = some (r, 0))
    (hr : r < 5) :
    Completes (.rungEntryDone (.core n)) s (fun h =>
      coreRung h n = r ∧ fget h (hartWing n) PWR_CORE_RUNG_IN_TRANSIT (hartCore n) = 0 ∧
        tabGet? h.pwr.entries (coreIsland n) = none ∧ (∀ k, k < 52 → k ≠ n → coreRung h k = coreRung s.dev k) ∧ h.core = s.dev.core ∧
        h.out = s.dev.out) := by
  let g := setEntries s.dev (tabDel s.dev.pwr.entries (coreIsland n))
  have heq : rungEntryDone s.dev (.core n) = transitOver (setCoreRung g n r) n := by
    unfold rungEntryDone
    simp only [he, if_true]
    rfl
  have hall : Frame [] [(.cpu, CPU_CORE_STATE_RUNG.off), (.pwr, 0x04C)] g (transitOver (setCoreRung g n r) n) :=
    (frame_setCoreRung g n r).trans ((frame_transitOver _ n).mono (by decide) (by decide))
  refine completes_of_eq (exec_rungEntryDone (.core n)) hrun heq ⟨(coreRung_transitOver _ n).trans (coreRung_setCoreRung g n r (by omega)), ?_, ?_,
    fun k hk hne => ?_, hall.1 .core (by decide), hall.1 .out (by decide)⟩
  · rw [transitOver, fget_eq_bget, fset_regs]
    exact bget_bput_same_of_lt _ _ _ _ _ _ _ _ _ (by decide) (by decide) (by decide)
  · rw [hall.1 .pwr (by decide)]
    exact tabGet?_tabDel_same _ _
  · have hother : coreRung (transitOver (setCoreRung g n r) n) k = coreRung (setCoreRung g n r) k := coreReg_fset_other _ n k _ _ 0 rfl rfl rfl rfl hn hk hne
    rw [hother, coreRung_setCoreRung_other g n k r hn hk hne]
    rfl

/-- The exit of a core taken out. -/
def coreExitEnded (h : Head) (n : Nat) : Head := transitOver (setExits h (h.pwr.exits.filter (· != coreIsland n))) n

/-- A hart whose WAIT is over, its core at rung 0. -/
def waitOver (h : Head) (n : Nat) : Head := setCoreRung { h with core := { h.core with waits := tabDel h.core.waits n } } n 0

theorem waitOver_leaves (h : Head) (n : Nat) : coreRung (waitOver h n) n = 0 ∧ tabHas (waitOver h n).core.waits n = false ∧
    (waitOver h n).out = h.out ∧ (waitOver h n).mem = h.mem ∧ (waitOver h n).pwr = h.pwr := by
  refine ⟨coreRung_setCoreRung _ n 0 (by decide), ?_, rfl, rfl, rfl⟩
  show (tabGet? (tabDel h.core.waits n) n).isSome = false
  rw [tabGet?_tabDel_same]
  rfl

theorem rungExitDone_core (h : Head) (n : Nat) (hx : coreIsland n ∈ h.pwr.exits) : rungExitDone h (.core n) = coreExitDone h n := by
  unfold rungExitDone
  simp only [List.contains_eq_mem, hx, decide_true, if_true]

theorem notMem_coreExitEnded (h : Head) (n : Nat) : coreIsland n ∉ (coreExitEnded h n).pwr.exits := by
  show coreIsland n ∉ h.pwr.exits.filter (· != coreIsland n)
  simp

theorem rungExitDone_waiting (s : State) (n : Nat) (hrun : Runs s.dev) (_hn : n < 52) (hx : coreIsland n ∈ s.dev.pwr.exits)
    (hr : coreRung s.dev n = 3) (hw : tabHas s.dev.core.waits n = true) :
    Completes (.rungExitDone (.core n)) s (fun h =>
      coreRung h n = 0 ∧ h.out = s.dev.out ++ [.hartResult n 0] ∧ tabHas h.core.waits n = false ∧ coreIsland n ∉ h.pwr.exits ∧
        h.mem = s.dev.mem) := by
  have heq : rungExitDone s.dev (.core n) = send (waitOver (coreExitEnded s.dev n) n) (.hartResult n 0) := by
    rw [rungExitDone_core s.dev n hx]
    unfold coreExitDone
    simp only [hr, show ((3 : Nat) == 4) = false from rfl, Bool.false_eq_true, if_false]
    exact if_pos hw
  obtain ⟨hrung, hwait, hout, hmem, hpwr⟩ := waitOver_leaves (coreExitEnded s.dev n) n
  refine completes_of_eq (exec_rungExitDone (.core n)) hrun heq ⟨hrung, ?_, hwait, ?_, hmem⟩
  · show (waitOver (coreExitEnded s.dev n) n).out ++ _ = _
    rw [hout]
    rfl
  · show coreIsland n ∉ (waitOver (coreExitEnded s.dev n) n).pwr.exits
    rw [hpwr]
    exact notMem_coreExitEnded s.dev n

theorem rungExitDone_restart (s : State) (n : Nat) (hrun : Runs s.dev) (_hn : n < 52) (hx : coreIsland n ∈ s.dev.pwr.exits)
    (hr : coreRung s.dev n = 4) :
    Completes (.rungExitDone (.core n)) s (fun h =>
      coreRung h n = 0 ∧ h.out = s.dev.out ++ [.hartStart n (pget s.dev (hartWing n) CPU_START_LO_ADDR CPU_START_HI_ADDR * 4)] ∧
        tabHas h.core.waits n = false ∧ coreIsland n ∉ h.pwr.exits ∧ h.mem = s.dev.mem) := by
  let start (h : Head) : Msg := .hartStart n (pget h (hartWing n) CPU_START_LO_ADDR CPU_START_HI_ADDR * 4)
  have heq : rungExitDone s.dev (.core n) = send (waitOver (coreExitEnded s.dev n) n) (start (waitOver (coreExitEnded s.dev n) n)) := by
    rw [rungExitDone_core s.dev n hx]
    unfold coreExitDone
    simp only [hr, beq_self_eq_true, if_true]
    rfl
  have hf : Frame [.pwr, .core] [(.cpu, CPU_CORE_STATE_RUNG.off), (.pwr, 0x04C)] s.dev (waitOver (coreExitEnded s.dev n) n) := by
    simp +decide only [waitOver, coreExitEnded, setExits, (frame_setCoreRung ..).iff, (frame_transitOver ..).iff, frame_mk, true_or, or_true, and_self,
      frame_refl]
  have hstart : start (waitOver (coreExitEnded s.dev n) n) = start s.dev := by
    simp only [start]
    unfold pget
    rw [hf.fget (hartWing n) CPU_START_LO_ADDR (by decide) (by decide), hf.fget (hartWing n) CPU_START_HI_ADDR (by decide) (by decide)]
  obtain ⟨hrung, hwait, hout, hmem, hpwr⟩ := waitOver_leaves (coreExitEnded s.dev n) n
  rw [hstart] at heq
  refine completes_of_eq (exec_rungExitDone (.core n)) hrun heq ⟨hrung, ?_, hwait, ?_, hmem⟩
  · show (waitOver (coreExitEnded s.dev n) n).out ++ _ = _
    rw [hout]
    rfl
  · show coreIsland n ∉ (waitOver (coreExitEnded s.dev n) n).pwr.exits
    rw [hpwr]
    exact notMem_coreExitEnded s.dev n

theorem hartOf_split (w : Wing) (c : Nat) (hc : c < 26) : hartWing (hartOf w c) = w ∧ hartCore (hartOf w c) = c := by
  unfold hartWing hartCore hartOf
  cases w <;> simp [wingNum] <;> omega

/-- A core's request shown. -/
def coreAsked (h : Head) (w : Wing) (r c : Nat) : Head := fset h w PWR_CORE_RUNG_REQUEST r c

theorem coreAsked_reads (h : Head) (w : Wing) (r c : Nat) : fget (coreAsked h w r c) w PWR_CORE_RUNG_REQUEST c = r % 8 ∧
    fget (coreAsked h w r c) w PWR_CORE_RUNG_CURRENT c = fget h w PWR_CORE_RUNG_CURRENT c ∧
    fget (coreAsked h w r c) w PWR_CORE_RUNG_IN_TRANSIT c = fget h w PWR_CORE_RUNG_IN_TRANSIT c := by
  simp only [coreAsked, fget_eq_bget, fset_regs]
  simp (disch := first | decide | rfl) [PWR_CORE_RUNG_REQUEST, PWR_CORE_RUNG_CURRENT, PWR_CORE_RUNG_IN_TRANSIT]

theorem frame_coreAsked (h : Head) (w : Wing) (r c : Nat) : Frame [] [(.pwr, 0x04C)] h (coreAsked h w r c) := by
  simp +decide only [coreAsked, frame_rules, frame_refl]

/-- A core's descent begun. -/
def coreDescending (h : Head) (n r : Nat) : Head :=
  fset { h with pwr := { h.pwr with entries := tabPut h.pwr.entries (coreIsland n) (r, 0) } } (hartWing n) PWR_CORE_RUNG_IN_TRANSIT 1 (hartCore n)

theorem coreRungEffect_asks (h : Head) (src : Nat) (w : Wing) (r c n : Nat) (hr : r = 3 ∨ r = 4) (hc : c = fget h w PWR_CORE_INDEX_CORE) (h26 : c < 26)
    (hn : n = hartOf w c) (hlow : coreRung h n < 3) (ht : fbit h w PWR_CORE_RUNG_IN_TRANSIT c = false) : coreRungEffect h src w r =
      if tabHas h.core.waits n = true then coreDescending (coreAsked h w r c) n r else coreAsked h w r c := by
  obtain ⟨hw, hcore⟩ := hartOf_split w c h26
  rw [← hn] at hw hcore
  obtain ⟨hreq, hcur, htr⟩ := coreAsked_reads h w r c
  have hok : (r == 0 || r == 3 || r == 4) = true := by rcases hr with rfl | rfl <;> rfl
  have hrung : coreRung (coreAsked h w r c) n = coreRung h n := by
    unfold coreRung
    rw [hw, hcore]
    exact hcur
  have hlow' : ¬ (r = 0 ∨ r < coreRung (coreAsked h w r c) n) := by omega
  have hbusy : ¬ (decide (r < 3) || !tabHas h.core.waits n || coreDeep (coreAsked h w r c) n) = true ↔ tabHas h.core.waits n = true := by
    have hdeep : coreDeep (coreAsked h w r c) n = false := by
      unfold coreDeep
      rw [hw, hcore, hrung, fbit, htr]
      unfold fbit at ht
      simp [ht]
      omega
    simp [hdeep]
    omega
  have heq : coreRungEffect h src w r = coreDescend (coreAsked h w r c) n := by
    unfold coreRungEffect
    simp only [hok, if_true, ← hc, ← hn]
    exact if_neg hlow'
  have hreq' : fget (coreAsked h w r c) (hartWing n) PWR_CORE_RUNG_REQUEST (hartCore n) = r := by
    rw [hw, hcore, hreq]
    omega
  rw [heq, coreDescend]
  simp only [hreq']
  by_cases hwait : tabHas h.core.waits n = true
  · exact (if_neg (hbusy.2 hwait)).trans (if_pos hwait).symm
  · exact (if_pos (Decidable.not_not.1 (mt hbusy.1 hwait))).trans (if_neg hwait).symm

theorem coreRungRequest_asks (s : State) (ini : Initiator) (w : Wing) (r c n : Nat) (hrun : Runs s.dev) (hw : Writable s.dev ini (pg .pwr w) 0x04C)
    (hr : r = 3 ∨ r = 4) (hc : c = fget s.dev w PWR_CORE_INDEX_CORE) (h26 : c < 26) (hn : n = hartOf w c) (hlow : coreRung s.dev n < 3)
    (ht : fbit s.dev w PWR_CORE_RUNG_IN_TRANSIT c = false) :
    Completes (.coreRungRequest ini w r) s (fun h =>
      fget h w PWR_CORE_RUNG_REQUEST c = r ∧ coreRung h n = coreRung s.dev n ∧
        (tabHas s.dev.core.waits n = true → tabGet? h.pwr.entries (coreIsland n) = some (r, 0) ∧ fget h w PWR_CORE_RUNG_IN_TRANSIT c = 1) ∧
        (tabHas s.dev.core.waits n = false → h.pwr = s.dev.pwr) ∧ RegsBut s.dev h [(.pwr, 0x04C)] ∧ h.core = s.dev.core ∧
        h.mem = s.dev.mem) := by
  have heq : coreRungRequest s.dev ini w r = if tabHas s.dev.core.waits n = true then coreDescending (coreAsked (reply s.dev false) w r c) n r
      else coreAsked (reply s.dev false) w r c := by
    rw [coreRungRequest, withWrite_ok s.dev ini _ _ _ hw, show r % 8 = r by omega]
    exact coreRungEffect_asks (reply s.dev false) _ w r c n hr hc h26 hn hlow ht
  obtain ⟨hwing, hcore⟩ := hartOf_split w c h26
  rw [← hn] at hwing hcore
  obtain ⟨hreq, hcur, -⟩ := coreAsked_reads (reply s.dev false) w r c
  have hreq' : fget (coreAsked (reply s.dev false) w r c) w PWR_CORE_RUNG_REQUEST c = r := hreq.trans (by omega)
  have hrung : coreRung (coreAsked (reply s.dev false) w r c) n = coreRung s.dev n := by
    unfold coreRung
    rw [hwing, hcore]
    exact hcur
  have ha := frame_coreAsked (reply s.dev false) w r c
  refine completes_of_eq (exec_coreRungRequest ini w r) hrun heq ?_
  by_cases hwait : tabHas s.dev.core.waits n = true
  · rw [if_pos hwait]
    generalize coreAsked (reply s.dev false) w r c = g at *
    have hd : Frame [.pwr] [(.pwr, 0x04C)] g (coreDescending g n r) := by
      simp +decide only [coreDescending, frame_rules, frame_mk, true_or, or_true, and_self, frame_refl]
    have hreads : fget (coreDescending g n r) w PWR_CORE_RUNG_REQUEST c = fget g w PWR_CORE_RUNG_REQUEST c ∧
        fget (coreDescending g n r) w PWR_CORE_RUNG_CURRENT c = fget g w PWR_CORE_RUNG_CURRENT c ∧
        fget (coreDescending g n r) w PWR_CORE_RUNG_IN_TRANSIT c = 1 := by
      simp only [coreDescending, hwing, hcore, fget_eq_bget, fset_regs]
      simp (disch := first | decide | rfl) [PWR_CORE_RUNG_REQUEST, PWR_CORE_RUNG_CURRENT, PWR_CORE_RUNG_IN_TRANSIT]
    refine ⟨hreads.1.trans hreq', ?_, fun _ => ⟨tabGet?_tabPut_same _ _ _, hreads.2.2⟩, fun hf => absurd (hf.symm.trans hwait) (by decide),
      regsBut_trans ha.2 hd.2, (hd.1 .core (by decide)).trans (ha.1 .core (by decide)), (hd.1 .mem (by decide)).trans (ha.1 .mem (by decide))⟩
    rw [← hrung]
    unfold coreRung
    rw [hwing, hcore]
    exact hreads.2.1
  · rw [if_neg hwait]
    exact ⟨hreq', hrung, fun hf => absurd hf hwait, fun _ => rfl, ha.2, rfl, rfl⟩

/-- A core's exit begun. -/
def coreRising (h : Head) (n cause : Nat) : Head :=
  fset (fset { h with pwr := { h.pwr with exits := h.pwr.exits ++ [coreIsland n] } } (hartWing n) PWR_CORE_RUNG_CAUSE (1 <<< cause) (hartCore n))
    (hartWing n) PWR_CORE_RUNG_IN_TRANSIT 1 (hartCore n)

theorem coreWake_sleeping (h : Head) (n cause : Nat) (hx : coreIsland n ∉ h.pwr.exits) (he : tabGet? h.pwr.entries (coreIsland n) = none)
    (hr : 3 ≤ coreRung h n) : coreWake h n cause = coreRising h n cause := by
  have hx' : ¬ h.pwr.exits.contains (coreIsland n) = true := by simpa using hx
  unfold coreWake
  dsimp only
  rw [if_neg hx', he]
  exact if_neg (by omega)

theorem coreRungRequest_wakes (s : State) (ini : Initiator) (w : Wing) (c n : Nat) (hrun : Runs s.dev) (hw : Writable s.dev ini (pg .pwr w) 0x04C)
    (hc : c = fget s.dev w PWR_CORE_INDEX_CORE) (h26 : c < 26) (hn : n = hartOf w c) (hr : 3 ≤ coreRung s.dev n) (hx : coreIsland n ∉ s.dev.pwr.exits)
    (he : tabGet? s.dev.pwr.entries (coreIsland n) = none) :
    Completes (.coreRungRequest ini w 0) s (fun h =>
      fget h w PWR_CORE_RUNG_REQUEST c = 0 ∧ h.pwr.exits = s.dev.pwr.exits ++ [coreIsland n] ∧ fget h w PWR_CORE_RUNG_IN_TRANSIT c = 1 ∧
        fget h w PWR_CORE_RUNG_CAUSE c = (if sourceCode ini = 0xFE then 32 else 1) ∧ RegsBut s.dev h [(.pwr, 0x04C)] ∧
        h.core = s.dev.core) := by
  obtain ⟨hwing, hcore⟩ := hartOf_split w c h26
  rw [← hn] at hwing hcore
  obtain ⟨hreq, hcur, -⟩ := coreAsked_reads (reply s.dev false) w 0 c
  have hrung : coreRung (coreAsked (reply s.dev false) w 0 c) n = coreRung s.dev n := by
    unfold coreRung
    rw [hwing, hcore]
    exact hcur
  have heq : coreRungRequest s.dev ini w 0 = coreRising (coreAsked (reply s.dev false) w 0 c) n (if sourceCode ini = 0xFE then 5 else 0) := by
    rw [coreRungRequest, withWrite_ok s.dev ini _ _ _ hw, ← coreWake_sleeping (coreAsked (reply s.dev false) w 0 c) n _ hx he (hrung ▸ hr), hn, hc]
    rfl
  have ha := frame_coreAsked (reply s.dev false) w 0 c
  have hex : (coreAsked (reply s.dev false) w 0 c).pwr.exits = s.dev.pwr.exits := rfl
  have hco : (coreAsked (reply s.dev false) w 0 c).core = s.dev.core := rfl
  generalize coreAsked (reply s.dev false) w 0 c = g at *
  generalize hcause : (if sourceCode ini = 0xFE then 5 else 0) = k at *
  have hf : Frame [.pwr] [(.pwr, 0x04C)] g (coreRising g n k) := by
    simp +decide only [coreRising, frame_rules, frame_mk, true_or, or_true, and_self, frame_refl]
  have hreads : fget (coreRising g n k) w PWR_CORE_RUNG_REQUEST c = fget g w PWR_CORE_RUNG_REQUEST c ∧
      fget (coreRising g n k) w PWR_CORE_RUNG_IN_TRANSIT c = 1 ∧ fget (coreRising g n k) w PWR_CORE_RUNG_CAUSE c = 1 <<< k % 256 := by
    simp only [coreRising, hwing, hcore, fget_eq_bget, fset_regs]
    simp (disch := first | decide | rfl) [PWR_CORE_RUNG_REQUEST, PWR_CORE_RUNG_IN_TRANSIT, PWR_CORE_RUNG_CAUSE]
  refine completes_of_eq (exec_coreRungRequest ini w 0) hrun heq ⟨hreads.1.trans hreq, congrArg (· ++ [coreIsland n]) hex, hreads.2.1, hreads.2.2.trans ?_,
    regsBut_trans ha.2 hf.2, hco⟩
  rw [← hcause]
  split <;> rfl

/-! ### Wakes by signal, and idle units -/

theorem signalDetect_wakes (s : State) (w : Wing) (port : Nat) (hrun : Runs s.dev) (hp : port < 8)
    (hb : (fget s.dev .east PWR_WAKE_FOY_SIGNAL).testBit port = true) (hs : Sleeps s.dev (pg .foy w port)) :
    Completes (.signalDetect w port) s (fun h =>
      Wakes s.dev h (pg .foy w port) 1 ∧ RegsBut s.dev h [(.foy, 0x030)] ∧ SameButRegs { s.dev with pwr := h.pwr } h) := by
  have heq : signalDetect s.dev w port = startExit s.dev (pg .foy w port) (1 <<< 1) := by
    unfold signalDetect
    rw [if_pos ⟨hp, hb⟩, islandWake_sleeping s.dev _ 1 hs]
  have hf : Frame [.pwr] [(.foy, 0x030)] s.dev (startExit s.dev (pg .foy w port) (1 <<< 1)) := frame_startExit s.dev (pg .foy w port) _
  exact completes_of_eq (exec_signalDetect w port) hrun heq ⟨startExit_wakes s.dev s.dev _ 1 (by decide) rfl rfl, hf.2,
    (hf.mono (l := [.pwr, .evq]) (by decide) (fun _ h => h)).putPwr.sameButRegs⟩

theorem unitIdle_open (h : Head) (cls : Block) (w : Wing) (u : Nat) (hc : isUnitClass cls = true) (hu : u < totalUnits cls)
    (hs : fget h w (unitState cls) u = 0) (hb : unitBusy h cls w u = false) :
    ¬ (!isUnitClass cls || decide (totalUnits cls ≤ u) || fget h w (unitState cls) u != 0 || unitBusy h cls w u) = true := by
  rw [hc, hs, hb]
  simp
  omega

theorem unitIdleGate_gates (s : State) (cls : Block) (w : Wing) (u : Nat) (hrun : Runs s.dev) (hc : isUnitClass cls = true) (hu : u < totalUnits cls)
    (hs : fget s.dev w (unitState cls) u = 0) (hb : unitBusy s.dev cls w u = false) (hr : tabGet s.dev.pwr.units 0 (unitKey cls w u) = 0) :
    Completes (.unitIdleGate cls w u) s (fun h =>
      h = { s.dev with pwr := { s.dev.pwr with units := tabPut s.dev.pwr.units (unitKey cls w u) 1 } }) := by
  refine completes_of_eq (exec_unitIdleGate cls w u) hrun ?_ rfl
  unfold unitIdle
  dsimp only
  rw [if_neg (unitIdle_open s.dev cls w u hc hu hs hb), if_neg (by decide), if_pos hr]

theorem unitIdleRetain_retains (s : State) (cls : Block) (w : Wing) (u : Nat) (hrun : Runs s.dev) (hc : isUnitClass cls = true) (hu : u < totalUnits cls)
    (hs : fget s.dev w (unitState cls) u = 0) (hb : unitBusy s.dev cls w u = false) (hr : tabGet s.dev.pwr.units 0 (unitKey cls w u) = 1)
    (ht : fget s.dev w PWR_IDLE_RETAIN_US ≠ 0) :
    Completes (.unitIdleRetain cls w u) s (fun h =>
      h = { s.dev with pwr := { s.dev.pwr with units := tabPut s.dev.pwr.units (unitKey cls w u) 2 } }) := by
  refine completes_of_eq (exec_unitIdleRetain cls w u) hrun ?_ rfl
  unfold unitIdle
  dsimp only
  rw [if_neg (unitIdle_open s.dev cls w u hc hu hs hb), if_pos rfl, if_pos ⟨hr, ht⟩]

/-- Settles O56: an island's request, entry and exit each change its RUNG and its place in the ladder's lists. -/
theorem islandsEnterAndLeaveRungs : Obligations.IslandsEnterAndLeaveRungs :=
  ⟨rungRequest_enters, rungRequest_wakes, rungRequest_refused, rungEntryDone_low, rungEntryDone_dark, rungEntryDone_woken, rungEntryDone_core,
    rungExitDone_low, rungExitDone_dark, rungExitDone_waiting, rungExitDone_restart, signalDetect_wakes, unitIdleGate_gates, unitIdleRetain_retains,
    coreRungRequest_asks, coreRungRequest_wakes⟩

end Sys2Proof.Laws
end

section
/-! Modes, supply sag and heat (R472 to R480), and O57. -/

namespace Sys2Proof.Laws

open Machine Machine.Reg

/-! ### Waking every island -/

/-- A header register of another page. -/
theorem hget_hset_page (h : Head) (p q : Page) (f f' : HBits) (v : Nat) (hne : pageNum q ≠ pageNum p) (ho : f.off < 0x40) (ho' : f'.off < 0x40) :
    hget (hset h p f v) q f' = hget h q f' := by
  rw [hget_eq_bget, hget_eq_bget, hset_regs]
  refine bget_wput_key _ _ _ _ _ _ _ _ _ _ _ _ _ _ (regKey_ne_page _ _ _ _ _ _ ?_)
  rw [homePage_own (ownReg_header q.block ho'), homePage_own (ownReg_header p.block ho)]
  exact hne

/-- An island on its way up, for the mode's cause alone. -/
def Woken (h : Head) (p : Page) : Prop := pageNum p ∈ h.pwr.exits ∧ hget h p RUNG_IN_TRANSIT = 1 ∧ hget h p RUNG_CAUSE = 16

theorem woken_startExit (h : Head) (p : Page) : Woken (startExit h p (1 <<< 4)) p := by
  obtain ⟨htr, -, hcause, -⟩ := startExit_reads h p (1 <<< 4)
  exact ⟨List.mem_append_right _ List.mem_cons_self, htr, hcause⟩

/-- The wake of another island is no matter to an island that is woken or asleep. -/
theorem islandWake_other (h : Head) (p q : Page) (hne : pageNum p ≠ pageNum q) :
    (Woken h p → Woken (islandWake h q 4) p) ∧ (Sleeps h p → Sleeps (islandWake h q 4) p) := by
  unfold islandWake
  split
  · have hread (f : HBits) (hf : f.off < 0x40) : hget (hset h q RUNG_CAUSE (hget h q RUNG_CAUSE ||| 1 <<< 4)) p f = hget h p f :=
      hget_hset_page h q p RUNG_CAUSE f _ hne (by decide) hf
    exact ⟨fun ⟨hx, ht, hc⟩ => ⟨hx, (hread RUNG_IN_TRANSIT (by decide)).trans ht, (hread RUNG_CAUSE (by decide)).trans hc⟩,
      fun ⟨hc, hx, he, hf⟩ => ⟨fun h0 => hc ((hread RUNG_CURRENT (by decide)).symm.trans h0), hx, he,
        fun h1 => hf ((hread STATUS_FENCED (by decide)).symm.trans h1)⟩⟩
  · split
    · exact ⟨fun hw => hw, fun ⟨hc, hx, he, hf⟩ => ⟨hc, hx, (tabGet?_tabPut_other _ _ hne).trans he, hf⟩⟩
    · split
      · exact ⟨fun hw => hw, fun hs => hs⟩
      · have hread (f : HBits) (hf : f.off < 0x40) : hget (startExit h q (1 <<< 4)) p f = hget h p f :=
          (hget_hset_page _ q p RUNG_IN_TRANSIT f _ hne (by decide) hf).trans (hget_hset_page _ q p RUNG_CAUSE f _ hne (by decide) hf)
        refine ⟨fun ⟨hx, ht, hc⟩ => ⟨List.mem_append_left _ hx, (hread RUNG_IN_TRANSIT (by decide)).trans ht, (hread RUNG_CAUSE (by decide)).trans hc⟩,
          fun ⟨hc, hx, he, hf⟩ => ⟨fun h0 => hc ((hread RUNG_CURRENT (by decide)).symm.trans h0), fun hm => ?_, he,
            fun h1 => hf ((hread STATUS_FENCED (by decide)).symm.trans h1)⟩⟩
        rcases List.mem_append.1 hm with hm | hm
        · exact hx hm
        · exact hne (List.mem_singleton.1 hm)

/-- An island that the mode wakes already takes its cause once. -/
theorem islandWake_woken (h : Head) (p : Page) (hw : Woken h p) : Woken (islandWake h p 4) p := by
  obtain ⟨hx, ht, hc⟩ := hw
  have heq : islandWake h p 4 = hset h p RUNG_CAUSE 16 := by
    unfold islandWake
    rw [if_pos (by simpa using hx), hc]
    rfl
  rw [heq]
  refine ⟨hx, ?_, ?_⟩
  · rw [← ht]
    simp (disch := first | decide | rfl) [hget_eq_bget, hset_regs, RUNG_IN_TRANSIT, RUNG_CAUSE]
  · rw [hget_eq_bget, hset_regs]
    exact bget_bput_same_of_lt _ _ _ _ _ _ _ _ _ (by decide) (by decide) (by decide)

theorem islands_inst {p : Page} (hp : p ∈ islands) : p.inst < 32 := by
  have hle := blockInstances_le .foy
  have hle' := blockInstances_le .plk
  simp only [islands, allPages, List.mem_filter, List.mem_append, List.mem_map, List.mem_range] at hp
  rcases hp.1 with ((((((⟨b, -, rfl⟩ | ⟨b, -, rfl⟩) | ⟨i, hi, rfl⟩) | ⟨i, hi, rfl⟩) | ⟨i, hi, rfl⟩) | ⟨i, hi, rfl⟩) | ⟨b, -, rfl⟩) <;> dsimp only <;> omega

theorem wakes_islands (l : List Page) (hl : ∀ q ∈ l, q.inst < 32) (p : Page) (hp : p.inst < 32) : ∀ h : Head, (p ∈ l ∧ Sleeps h p) ∨ Woken h p →
    Woken (foldHead h l (fun h q => islandWake h q 4)) p := by
  induction l with
  | nil => intro h hw; exact hw.resolve_left (fun x => absurd x.1 List.not_mem_nil)
  | cons q l ih =>
    intro h hw
    refine ih (fun r hr => hl r (List.mem_cons_of_mem q hr)) (islandWake h q 4) ?_
    by_cases hq : p = q
    · subst hq
      right
      rcases hw with ⟨-, hs⟩ | hw
      · rw [islandWake_sleeping h p 4 hs]
        exact woken_startExit h p
      · exact islandWake_woken h p hw
    · have hne : pageNum p ≠ pageNum q := fun he => hq (pageNum_inj hp (hl q List.mem_cons_self) he)
      obtain ⟨hkeep, hsleep⟩ := islandWake_other h p q hne
      rcases hw with ⟨hm, hs⟩ | hw
      · exact .inl ⟨(List.mem_cons.1 hm).resolve_left hq, hsleep hs⟩
      · exact .inr (hkeep hw)

/-! ### The modes -/

/-- A mode command accepted. -/
def modeAccepted (h : Head) (serving : Bool) : Head := fset { h with pwr := { h.pwr with toServing := some serving } } .east PWR_MODE_IN_TRANSIT 1

theorem modeAccepted_reads (h : Head) (serving : Bool) : chipMode (modeAccepted h serving) = chipMode h ∧
    fbit (modeAccepted h serving) .east PWR_MODE_IN_TRANSIT = true := by
  simp only [chipMode, fbit, modeAccepted, fget_eq_bget, fset_regs]
  simp (disch := first | decide | rfl) [PWR_MODE_MODE, PWR_MODE_IN_TRANSIT]

theorem frame_modeAccepted (h : Head) (serving : Bool) : Frame [.pwr] [(.pwr, 0x040)] h (modeAccepted h serving) := by
  simp +decide only [modeAccepted, frame_rules, frame_mk, true_or, or_true, and_self, frame_refl]

theorem modeCmdEffect_serve (h : Head) (src : Nat) (hm : chipMode h = 0) (ht : fbit h .east PWR_MODE_IN_TRANSIT = false) :
    modeCmdEffect h src 1 = foldHead (modeAccepted h true) islands (fun h p => islandWake h p 4) := by
  unfold modeCmdEffect
  simp only [hm, ht, Bool.false_eq_true, if_false]
  rfl

theorem keeps_islandWake (h : Head) (p : Page) (cause : Nat) : (islandWake h p cause).pwr.toServing = h.pwr.toServing ∧
    (islandWake h p cause).mem = h.mem ∧ (islandWake h p cause).out = h.out ∧
    Frame [.pwr] [(p.block, 0x030)] h (islandWake h p cause) := by
  unfold islandWake
  split
  · exact ⟨rfl, rfl, rfl, (frame_hset h p RUNG_CAUSE _).mono (by decide) (fun _ h => h)⟩
  · split
    · exact ⟨rfl, rfl, rfl, by simp +decide only [setEntries, frame_mk, true_or, or_true, and_self, frame_refl]⟩
    · split
      · exact ⟨rfl, rfl, rfl, frame_refl _ _ h⟩
      · exact ⟨rfl, rfl, rfl, frame_startExit h p _⟩

/-- A frame of an island's header is no frame of the registers past it. -/
theorem fget_islandWake (h : Head) (p : Page) (cause : Nat) (w : Wing) (f : Fld) (ho : 0x40 ≤ f.off) (h4 : f.off < 4096) (bank : Nat) :
    fget (islandWake h p cause) w f bank = fget h w f bank :=
  (keeps_islandWake h p cause).2.2.2.fget w f (by simp; omega) h4 bank 0

theorem pwrServe_wakes (s : State) (ini : Initiator) (hrun : Runs s.dev) (hw : Writable s.dev ini (pg .pwr .east) 0x040) (hm : chipMode s.dev = 0)
    (ht : fbit s.dev .east PWR_MODE_IN_TRANSIT = false) :
    Completes (.pwrServe ini) s (fun h =>
      chipMode h = 0 ∧ fbit h .east PWR_MODE_IN_TRANSIT = true ∧ h.pwr.toServing = some true ∧
        (∀ p ∈ islands, Sleeps s.dev p → pageNum p ∈ h.pwr.exits ∧ hget h p RUNG_IN_TRANSIT = 1 ∧ hget h p RUNG_CAUSE = 16) ∧
        h.mem = s.dev.mem ∧ h.out = s.dev.out) := by
  have heq : modeCmd s.dev ini 1 = foldHead (modeAccepted (reply s.dev false) true) islands (fun h p => islandWake h p 4) := by
    rw [modeCmd, withWrite_ok s.dev ini _ _ _ hw]
    exact modeCmdEffect_serve (reply s.dev false) _ hm ht
  obtain ⟨hmode, htr⟩ := modeAccepted_reads (reply s.dev false) true
  have ha := frame_modeAccepted (reply s.dev false) true
  have hserv : (modeAccepted (reply s.dev false) true).pwr.toServing = some true := rfl
  have hparts : (modeAccepted (reply s.dev false) true).mem = s.dev.mem ∧ (modeAccepted (reply s.dev false) true).out = s.dev.out := ⟨rfl, rfl⟩
  have hsleep (p : Page) (hp : p ∈ islands) (hs : Sleeps s.dev p) : Sleeps (modeAccepted (reply s.dev false) true) p := by
    obtain ⟨hc, hx, he, hf⟩ := hs
    exact ⟨fun h0 => hc ((ha.hget p RUNG_CURRENT (by simp [RUNG_CURRENT]) (by decide)).symm.trans h0), hx, he,
      fun h1 => hf ((ha.hget p STATUS_FENCED (by simp [STATUS_FENCED]) (by decide)).symm.trans h1)⟩
  generalize modeAccepted (reply s.dev false) true = g at *
  refine completes_of_eq (exec_pwrServe ini) hrun heq ⟨?_, ?_, ?_, fun p hp hs => ?_, ?_, ?_⟩
  · exact (foldHead_frame chipMode (fun h p => fget_islandWake h p 4 .east PWR_MODE_MODE (by decide) (by decide) 0) islands g).trans (hmode.trans hm)
  · have hfold := foldHead_frame (fun h => fget h .east PWR_MODE_IN_TRANSIT)
      (fun h p => fget_islandWake h p 4 .east PWR_MODE_IN_TRANSIT (by decide) (by decide) 0) islands g
    exact (congrArg (· != 0) hfold).trans htr
  · exact (foldHead_frame (fun h => h.pwr.toServing) (fun h p => (keeps_islandWake h p 4).1) islands g).trans hserv
  · exact wakes_islands islands (fun q hq => islands_inst hq) p (islands_inst hp) g (.inl ⟨hp, hsleep p hp hs⟩)
  · exact (foldHead_frame Head.mem (fun h p => (keeps_islandWake h p 4).2.1) islands g).trans hparts.1
  · exact (foldHead_frame Head.out (fun h p => (keeps_islandWake h p 4).2.2.1) islands g).trans hparts.2

theorem frame_setMode (h : Head) (m : Nat) : Frame [.pwr, .evq] [(.pwr, 0x010), (.pwr, 0x040)] h (setMode h m) := by
  simp +decide only [setMode, frame_rules, frame_mk, true_or, or_true, and_self, frame_refl]

theorem setMode_reads (h : Head) (m : Nat) (hm : m < 4) : chipMode (setMode h m) = m ∧ fbit (setMode h m) .east PWR_MODE_IN_TRANSIT = false ∧
    (setMode h m).pwr.toServing = none ∧ EventSet (setMode h m) .east Ev.PWR_MODE := by
  let g := fset (fset { h with pwr := { h.pwr with toServing := none } } .east PWR_MODE_MODE m) .east PWR_MODE_IN_TRANSIT 0
  have hr := frame_raise g .east 0 Ev.PWR_MODE
  have hreads : fget g .east PWR_MODE_MODE = m % 4 ∧ fget g .east PWR_MODE_IN_TRANSIT = 0 := by
    simp only [g, fget_eq_bget, fset_regs]
    simp (disch := first | decide | rfl) [PWR_MODE_MODE, PWR_MODE_IN_TRANSIT]
  refine ⟨?_, ?_, ?_, raiseAt_sets _ _ _ (by decide)⟩
  · exact (hr.fget .east PWR_MODE_MODE (by decide) (by decide) 0 0).trans (hreads.1.trans (Nat.mod_eq_of_lt hm))
  · refine (hr.fbit .east PWR_MODE_IN_TRANSIT (by decide) (by decide) 0 0).trans ?_
    rw [fbit, hreads.2]
    rfl
  · show (raise g .east Ev.PWR_MODE).pwr.toServing = none
    rw [hr.1 .pwr (by decide)]
    rfl

/-- What a core that leaves rung 4 keeps of the modes. -/
theorem coreExitDone_keeps (h : Head) (n : Nat) : (coreExitDone h n).pwr.toServing = h.pwr.toServing ∧
    Frame [.pwr, .core, .out] [(.pwr, 0x04C), (.cpu, CPU_CORE_STATE_RUNG.off)] h (coreExitDone h n) := by
  unfold coreExitDone
  dsimp only
  split
  · exact ⟨rfl, by simp +decide only [setExits, (frame_setCoreRung ..).iff, frame_rules, frame_mk, true_or, or_true, and_self, frame_refl]⟩
  · unfold endWait
    split
    · exact ⟨rfl, by simp +decide only [setExits, (frame_setCoreRung ..).iff, frame_rules, frame_mk, true_or, or_true, and_self, frame_refl]⟩
    · exact ⟨rfl, by simp +decide only [setExits, frame_rules, frame_mk, true_or, or_true, and_self, frame_refl]⟩

theorem frame_coreExitDone (h : Head) (n : Nat) :
    Frame [.pwr, .core, .out] [(.pwr, 0x04C), (.cpu, CPU_CORE_STATE_RUNG.off)] h (coreExitDone h n) := (coreExitDone_keeps h n).2

theorem frame_restartCores (h : Head) : Frame [.pwr, .core, .out] [(.pwr, 0x04C), (.cpu, CPU_CORE_STATE_RUNG.off)] h (restartCores h) := by
  simp +decide only [restartCores, frame_foldHead, frame_ite, (frame_coreExitDone ..).iff, frame_rules, frame_refl, implies_true, ite_self]

theorem toServing_restartCores (h : Head) : (restartCores h).pwr.toServing = h.pwr.toServing :=
  foldHead_frame (fun h => h.pwr.toServing) (fun h n => by
    split
    · exact (coreExitDone_keeps h n).1
    · rfl) _ h

theorem frame_releaseNow (h : Head) (w : Wing) : Frame [.doc, .out, .evq] [(.doc, 0x010), (.doc, DOC_STATUS_STAGE.off)] h (releaseNow h w) := by
  simp +decide only [releaseNow_eq, stageReleased, coresStarted, frame_ite, frame_rules, frame_mk, true_or, or_true, and_self, frame_refl, ite_self]

theorem doc_releaseNow (h : Head) (w : Wing) : (releaseNow h w).doc =
    if w = .east then { h.doc with heldE := false } else { h.doc with heldW := false } := by
  have hstage (g : Head) : (stageReleased g).doc = g.doc := by
    unfold stageReleased
    split
    · exact (frame_raise _ .east 0 Ev.DOC_RELEASED).1 .doc (by decide)
    · rfl
  rw [releaseNow_eq, hstage]
  rfl

/-- The releases that Standby held. -/
def heldReleased (h : Head) : Head :=
  let h := if h.doc.heldE then releaseNow h .east else h
  if h.doc.heldW then releaseNow h .west else h

theorem frame_heldReleased (h : Head) : Frame [.doc, .out, .evq] [(.doc, 0x010), (.doc, DOC_STATUS_STAGE.off)] h (heldReleased h) := by
  simp +decide only [heldReleased, frame_ite, (frame_releaseNow ..).iff, frame_refl, ite_self]

theorem heldReleased_holds (h : Head) : (heldReleased h).doc.heldE = false ∧ (heldReleased h).doc.heldW = false := by
  have heast : (if h.doc.heldE = true then releaseNow h .east else h).doc.heldE = false := by
    split
    · rw [doc_releaseNow]
      rfl
    · rename_i hn
      exact Bool.not_eq_true _ ▸ hn
  unfold heldReleased
  dsimp only
  generalize (if h.doc.heldE = true then releaseNow h .east else h) = g at *
  split
  · rw [doc_releaseNow]
    exact ⟨heast, rfl⟩
  · rename_i hn
    exact ⟨heast, by simpa using hn⟩

theorem serveDone_serves (s : State) (hrun : Runs s.dev) (ht : s.dev.pwr.toServing = some true) :
    Completes .serveDone s (fun h =>
      chipMode h = 1 ∧ fbit h .east PWR_MODE_IN_TRANSIT = false ∧ h.pwr.toServing = none ∧ EventSet h .east Ev.PWR_MODE ∧
        h.doc.heldE = false ∧ h.doc.heldW = false) := by
  let g := foldHead s.dev islands (fun h p => if h.pwr.exits.contains (pageNum p) then pageExitDone h p else h)
  have heq : serveDone s.dev = heldReleased (restartCores (setMode g 1)) := if_neg (fun hn => hn ht)
  obtain ⟨hmode, htr, hserv, hev⟩ := setMode_reads g 1 (by decide)
  clear_value g
  have hc := frame_restartCores (setMode g 1)
  have hs := toServing_restartCores (setMode g 1)
  have hr := frame_heldReleased (restartCores (setMode g 1))
  obtain ⟨he, hw⟩ := heldReleased_holds (restartCores (setMode g 1))
  have hall : Frame [.pwr, .core, .out, .doc, .evq] [(.pwr, 0x04C), (.cpu, CPU_CORE_STATE_RUNG.off), (.doc, 0x010), (.doc, DOC_STATUS_STAGE.off)]
      (setMode g 1) (heldReleased (restartCores (setMode g 1))) := (hc.mono (by decide) (by decide)).trans (hr.mono (by decide) (by decide))
  refine completes_of_eq exec_serveDone hrun heq ⟨(hall.fget .east PWR_MODE_MODE (by decide) (by decide) 0 0).trans hmode,
    (hall.fbit .east PWR_MODE_IN_TRANSIT (by decide) (by decide) 0 0).trans htr, ?_, (hall.eventSet .east Ev.PWR_MODE (by decide) 0).2 hev, he, hw⟩
  rw [hr.1 .pwr (by decide), hs, hserv]

theorem pwrStandby_starts (s : State) (ini : Initiator) (hrun : Runs s.dev) (hw : Writable s.dev ini (pg .pwr .east) 0x040) (hm : chipMode s.dev = 1)
    (ht : fbit s.dev .east PWR_MODE_IN_TRANSIT = false) (hp : pairState s.dev = 0 ∨ pairState s.dev = 7) (hn : ∀ e ∈ s.dev.cat.nss, e.2.owned = false)
    (hq : fget s.dev .east VIT_QUOTA_NOW_PAIR_DIRTY_MIB = 0) :
    Completes (.pwrStandby ini) s (fun h =>
      chipMode h = 1 ∧ fbit h .east PWR_MODE_IN_TRANSIT = true ∧ h.pwr = { s.dev.pwr with toServing := some false } ∧
        RegsBut s.dev h [(.pwr, 0x040)] ∧ SameButRegs { reply s.dev false with pwr := h.pwr } h) := by
  have hallow (h : Head) (hp : pairState h = 0 ∨ pairState h = 7) (hn : ∀ e ∈ h.cat.nss, e.2.owned = false)
      (hq : fget h .east VIT_QUOTA_NOW_PAIR_DIRTY_MIB = 0) : standbyAllowed h = true := by
    have hany : (h.cat.nss.any fun e => e.2.owned) = false := by
      rw [List.any_eq_false]
      intro e he
      simp [hn e he]
    unfold standbyAllowed
    rw [hany, hq]
    rcases hp with hp | hp <;> rw [hp] <;> rfl
  have heffect (h : Head) (src : Nat) (hm : chipMode h = 1) (ht : fbit h .east PWR_MODE_IN_TRANSIT = false) (ha : standbyAllowed h = true) :
      modeCmdEffect h src 2 = modeAccepted h false := by
    unfold modeCmdEffect
    simp only [hm, ht, ha, Bool.false_eq_true, if_false]
    rfl
  have heq : modeCmd s.dev ini 2 = modeAccepted (reply s.dev false) false := by
    rw [modeCmd, withWrite_ok s.dev ini _ _ _ hw]
    exact heffect (reply s.dev false) _ hm ht (hallow (reply s.dev false) hp hn hq)
  obtain ⟨hmode, htr⟩ := modeAccepted_reads (reply s.dev false) false
  have ha := frame_modeAccepted (reply s.dev false) false
  exact completes_of_eq (exec_pwrStandby ini) hrun heq ⟨hmode.trans hm, htr, rfl, ha.2,
    (ha.mono (l := [.pwr, .evq]) (by decide) (fun _ h => h)).putPwr.sameButRegs⟩

/-! ### Standby -/

theorem coreState_setCoreRung (h : Head) (n r k : Nat) (hn : n < 52) (hk : k < 52) :
    coreState (setCoreRung h n r) (hartWing k) (hartCore k) = coreState h (hartWing k) (hartCore k) := by
  have hp : Frame [] [(.pwr, 0x04C)] (fset h (hartWing n) CPU_CORE_STATE_RUNG r (hartCore n)) (setCoreRung h n r) := by
    simp +decide only [setCoreRung, frame_rules, frame_refl]
  refine (hp.fget (hartWing k) CPU_CORE_STATE_STATE (by decide) (by decide) (hartCore k) 0).trans ?_
  unfold coreState
  rw [fget_eq_bget, fget_eq_bget, fset_regs]
  by_cases hne : k = n
  · subst hne
    exact bget_bput_bits _ _ _ _ _ _ _ _ _ _ _ _ _ rfl rfl (by decide) (by decide) (by decide) (by decide)
  · have hlt : hartCore n < 26 ∧ hartCore k < 26 := by
      unfold hartCore
      omega
    by_cases hw : hartWing k = hartWing n
    · have hc : hartCore k ≠ hartCore n := (core_apart hn hk hne).resolve_left (fun h => h hw)
      exact bget_bput_bank _ _ _ _ _ _ _ _ _ _ _ _ _ _ _ _ (by omega)
    · exact bget_bput_wing _ _ _ _ _ _ _ _ _ _ _ _ _ _ _ _ hw (by decide) (by decide)

/-- A core put at rung 4 with what was under way for it taken out. -/
def coreDarkened (h : Head) (n : Nat) : Head :=
  let h := setEntries (setExits h (h.pwr.exits.filter (· != coreIsland n))) (tabDel h.pwr.entries (coreIsland n))
  transitOver (setCoreRung { h with core := { h.core with waits := tabPut h.core.waits n 0 } } n 4) n

theorem darkenCore_eq (h : Head) (n : Nat) : darkenCore h n = if coreState h (hartWing n) (hartCore n) ≠ 0 then h else coreDarkened h n := rfl

theorem frame_coreDarkened (h : Head) (n : Nat) : Frame [.pwr, .core] [(.cpu, CPU_CORE_STATE_RUNG.off), (.pwr, 0x04C)] h (coreDarkened h n) := by
  simp +decide only [coreDarkened, setEntries, setExits, (frame_setCoreRung ..).iff, (frame_transitOver ..).iff, frame_mk, true_or, or_true, and_self,
    frame_refl]

/-- A core at rung 4, waiting, and on its way nowhere. -/
def CoreDark (g : Head) (n : Nat) : Prop := coreRung g n = 4 ∧ coreIsland n ∉ g.pwr.exits ∧ tabHas g.core.waits n = true

theorem coreDarkened_dark (h : Head) (n : Nat) : CoreDark (coreDarkened h n) n := by
  refine ⟨(coreRung_transitOver _ n).trans (coreRung_setCoreRung _ n 4 (by decide)), ?_, ?_⟩
  · show coreIsland n ∉ h.pwr.exits.filter (· != coreIsland n)
    simp
  · show (tabGet? (tabPut h.core.waits n 0) n).isSome = true
    rw [tabGet?_tabPut_same]
    rfl

/-- The darkening of a core is no matter to another. -/
theorem coreDarkened_other (h : Head) (n k : Nat) (hn : n < 52) (hk : k < 52) (hne : k ≠ n) : coreRung (coreDarkened h n) k = coreRung h k ∧
    (CoreDark h k → CoreDark (coreDarkened h n) k) := by
  have hrung : coreRung (coreDarkened h n) k = coreRung h k :=
    (coreReg_fset_other _ n k _ _ 0 rfl rfl rfl rfl hn hk hne).trans (coreRung_setCoreRung_other _ n k 4 hn hk hne)
  refine ⟨hrung, fun ⟨hr, hx, hw⟩ => ⟨hrung.trans hr, fun hm => hx (List.mem_of_mem_filter hm), ?_⟩⟩
  show (tabGet? (tabPut h.core.waits n 0) k).isSome = true
  rw [tabGet?_tabPut_other _ _ hne]
  exact hw

theorem coreState_coreDarkened (h : Head) (n k : Nat) (hn : n < 52) (hk : k < 52) :
    coreState (coreDarkened h n) (hartWing k) (hartCore k) = coreState h (hartWing k) (hartCore k) :=
  ((frame_transitOver _ n).fget (hartWing k) CPU_CORE_STATE_STATE (by decide) (by decide) (hartCore k) 0).trans (coreState_setCoreRung _ n 4 k hn hk)

/-- The cores after those below a number were darkened. -/
structure CoresDarkened (h g : Head) (m : Nat) : Prop where
  states : ∀ k, k < 52 → coreState g (hartWing k) (hartCore k) = coreState h (hartWing k) (hartCore k)
  dark : ∀ k, k < m → coreState h (hartWing k) (hartCore k) = 0 → CoreDark g k
  kept : ∀ k, k < 52 → m ≤ k ∨ coreState h (hartWing k) (hartCore k) ≠ 0 → coreRung g k = coreRung h k

theorem coresDarkened_step {h g : Head} {m : Nat} (hm : m < 52) (x : CoresDarkened h g m) : CoresDarkened h (darkenCore g m) (m + 1) := by
  have hst := x.states m hm
  rw [darkenCore_eq]
  by_cases ha : coreState g (hartWing m) (hartCore m) ≠ 0
  · rw [if_pos ha]
    refine ⟨x.states, fun k hk h0 => ?_, fun k hk h0 => x.kept k hk (h0.imp_left fun h => by omega)⟩
    by_cases he : k = m
    · subst he
      exact absurd (hst.trans h0) ha
    · exact x.dark k (by omega) h0
  · rw [if_neg ha]
    have h0 : coreState h (hartWing m) (hartCore m) = 0 := hst.symm.trans (Decidable.not_not.1 ha)
    refine ⟨fun k hk => (coreState_coreDarkened g m k hm hk).trans (x.states k hk), fun k hk hk0 => ?_, fun k hk hor => ?_⟩
    · by_cases he : k = m
      · subst he
        exact coreDarkened_dark g k
      · exact (coreDarkened_other g m k hm (by omega) he).2 (x.dark k (by omega) hk0)
    · have he : k ≠ m := by
        rintro rfl
        rcases hor with hor | hor
        · omega
        · exact hor h0
      exact (coreDarkened_other g m k hm hk he).1.trans (x.kept k hk (hor.imp_left fun h => by omega))

theorem coresDarkened_all (h : Head) : ∀ m, m ≤ 52 → CoresDarkened h (foldHead h (List.range m) darkenCore) m := by
  intro m
  induction m with
  | zero => exact fun _ => ⟨fun _ _ => rfl, fun k hk => absurd hk (by omega), fun _ _ _ => rfl⟩
  | succ m ih =>
    intro hm
    rw [foldHead_range_succ]
    exact coresDarkened_step (by omega) (ih (by omega))

theorem standbyDone_darkens (s : State) (hrun : Runs s.dev) (ht : s.dev.pwr.toServing = some false) :
    Completes .standbyDone s (fun h => ∃ g : Head,
      (∀ n, n < 52 → coreState s.dev (hartWing n) (hartCore n) = 0 → coreRung g n = 4 ∧ coreIsland n ∉ g.pwr.exits ∧
        tabHas g.core.waits n = true) ∧
      (∀ n, n < 52 → coreState s.dev (hartWing n) (hartCore n) ≠ 0 → coreRung g n = coreRung s.dev n) ∧
        RegsBut s.dev g [(.cpu, CPU_CORE_STATE_RUNG.off), (.pwr, 0x04C)] ∧
        SameButRegs { s.dev with pwr := g.pwr, core := g.core } g ∧ h = setMode (foldHead g islands darken) 0 ∧ chipMode h = 0 ∧
        fbit h .east PWR_MODE_IN_TRANSIT = false ∧ h.pwr.toServing = none ∧ EventSet h .east Ev.PWR_MODE) := by
  have hall := coresDarkened_all s.dev 52 (by decide)
  have hf : Frame [.pwr, .core] [(.cpu, CPU_CORE_STATE_RUNG.off), (.pwr, 0x04C)] s.dev (foldHead s.dev (List.range 52) darkenCore) := by
    refine (frame_foldHead fun g n => ?_).2 (frame_refl _ _ s.dev)
    simp +decide only [darkenCore_eq, frame_ite, (frame_coreDarkened ..).iff, frame_refl, ite_self]
  have heq : standbyDone s.dev = setMode (foldHead (foldHead s.dev (List.range 52) darkenCore) islands darken) 0 := if_neg (fun hn => hn ht)
  generalize foldHead s.dev (List.range 52) darkenCore = g at *
  obtain ⟨hmode, htr, hserv, hev⟩ := setMode_reads (foldHead g islands darken) 0 (by decide)
  exact completes_of_eq exec_standbyDone hrun heq ⟨g, hall.dark, fun n hn h0 => hall.kept n hn (.inr h0), hf.2,
    (hf.mono (l := [.pwr, .core, .evq]) (by decide) (fun _ h => h)).putPwr.putCore.sameButRegs, rfl, hmode, htr, hserv, hev⟩

/-! ### Droop -/

theorem mem_setIn_true (l : List Nat) (k : Nat) : k ∈ setIn l k true := List.contains_iff_mem.1 (contains_setIn_same l k true)

theorem notMem_setIn_false (l : List Nat) (k : Nat) : k ∉ setIn l k false := fun hm =>
  absurd ((contains_setIn_same l k false).symm.trans (List.contains_iff_mem.2 hm)) (by decide)

theorem pwrDroop_shows (s : State) (w : Wing) (d : Nat) (hrun : Runs s.dev) (hd : d < 64) :
    Completes (.pwrDroop w d) s (fun h =>
      railLow h w (detectorRail d) = true ∧ (64 * wingNum w + d) ∈ h.pwr.droops ∧
        h = { s.dev with pwr := { s.dev.pwr with droops := h.pwr.droops } }) := by
  have hmem := mem_setIn_true s.dev.pwr.droops (64 * wingNum w + d)
  refine completes_of_eq (exec_pwrDroop w d) hrun (if_pos hd) ⟨?_, hmem, rfl⟩
  refine List.any_eq_true.2 ⟨_, hmem, ?_⟩
  have h0 : (64 * wingNum w + d) / 64 = wingNum w := by omega
  have h1 : (64 * wingNum w + d) % 64 = d := by omega
  simp [h0, h1]

theorem railKey_ne {w : Wing} {r k : Nat} (hne : r ≠ k) : railKey w r ≠ railKey w k := by
  unfold railKey
  omega

/-- A detector no longer low. -/
def droopOver (h : Head) (w : Wing) (d : Nat) : Head := { h with pwr := { h.pwr with droops := setIn h.pwr.droops (64 * wingNum w + d) false } }

/-- A rail's sag over with its last low detector. -/
def sagOver (h : Head) (w : Wing) (r : Nat) : Head :=
  if railLow h w r then h else { h with pwr := { h.pwr with sags := setIn h.pwr.sags (railKey w r) false } }

/-- The averages of a stretch shown. -/
def stretchShown (h : Head) (w : Wing) (core engMesh : Nat) : Head :=
  fset (fset h w PWR_STRETCH_CORE_PPM (min core 65535)) w PWR_STRETCH_ENG_MESH_PPM (min engMesh 65535)

theorem droopEnd_eq (h : Head) (w : Wing) (d core engMesh : Nat) (hd : d < 64) :
    droopEnd h w d core engMesh = stretchShown (sagOver (droopOver h w d) w (detectorRail d)) w core engMesh := if_pos hd

theorem sagOver_over (h : Head) (w : Wing) (r : Nat) : (railLow (sagOver h w r) w r = false → sagging (sagOver h w r) w r = false) ∧
    (∀ k, k ≠ r → sagging (sagOver h w r) w k = sagging h w k) ∧ (sagOver h w r).pwr.droops = h.pwr.droops := by
  unfold sagOver
  by_cases hl : railLow h w r = true
  · rw [if_pos hl]
    exact ⟨fun hf => absurd (hf.symm.trans hl) (by decide), fun _ _ => rfl, rfl⟩
  · rw [if_neg hl]
    refine ⟨fun _ => ?_, fun k hk => contains_setIn_other _ false (railKey_ne hk), rfl⟩
    exact contains_setIn_same h.pwr.sags (railKey w r) false

theorem frame_sagOver (h : Head) (w : Wing) (r : Nat) : Frame [.pwr] [] h (sagOver h w r) := by
  simp +decide only [sagOver, frame_ite, frame_mk, true_or, or_true, and_self, frame_refl, ite_self]

theorem stretchShown_reads (h : Head) (w : Wing) (core engMesh : Nat) :
    fget (stretchShown h w core engMesh) w PWR_STRETCH_CORE_PPM = min core 65535 ∧
      fget (stretchShown h w core engMesh) w PWR_STRETCH_ENG_MESH_PPM = min engMesh 65535 := by
  simp only [stretchShown, fget_eq_bget, fset_regs]
  simp (disch := first | decide | rfl) [PWR_STRETCH_CORE_PPM, PWR_STRETCH_ENG_MESH_PPM]

theorem droopEnd_ends (s : State) (w : Wing) (d core engMesh : Nat) (hrun : Runs s.dev) (hd : d < 64) :
    Completes (.droopEnd w d core engMesh) s (fun h =>
      (64 * wingNum w + d) ∉ h.pwr.droops ∧ (railLow h w (detectorRail d) = false → sagging h w (detectorRail d) = false) ∧
        (∀ r, r < 3 → r ≠ detectorRail d → sagging h w r = sagging s.dev w r) ∧
        fget h w PWR_STRETCH_CORE_PPM = min core 65535 ∧ fget h w PWR_STRETCH_ENG_MESH_PPM = min engMesh 65535 ∧
        RegsBut s.dev h [(.pwr, 0x060)] ∧ SameButRegs { s.dev with pwr := h.pwr } h) := by
  obtain ⟨hover, hother, hdroops⟩ := sagOver_over (droopOver s.dev w d) w (detectorRail d)
  have hg : Frame [.pwr, .evq] [(.pwr, 0x060)] s.dev (droopOver s.dev w d) := by
    simp +decide only [droopOver, frame_mk, true_or, or_true, and_self, frame_refl]
  have hs := frame_sagOver (droopOver s.dev w d) w (detectorRail d)
  have hmem : (64 * wingNum w + d) ∉ (sagOver (droopOver s.dev w d) w (detectorRail d)).pwr.droops := by
    rw [hdroops]
    exact notMem_setIn_false _ _
  have hsag (r : Nat) (hr : r ≠ detectorRail d) : sagging (sagOver (droopOver s.dev w d) w (detectorRail d)) w r = sagging s.dev w r := hother r hr
  have heq := droopEnd_eq s.dev w d core engMesh hd
  generalize sagOver (droopOver s.dev w d) w (detectorRail d) = k at *
  obtain ⟨hc, he⟩ := stretchShown_reads k w core engMesh
  have hf : Frame [] [(.pwr, 0x060)] k (stretchShown k w core engMesh) := by
    simp +decide only [stretchShown, frame_rules, frame_refl]
  have hall := hg.trans ((hs.mono (by decide) (by decide)).trans (hf.mono (by decide) (fun _ h => h)))
  exact completes_of_eq (exec_droopEnd w d core engMesh) hrun heq ⟨hmem, hover, fun r _ hr => hsag r hr, hc, he, hall.2, hall.putPwr.sameButRegs⟩

/-! ### Sag -/

theorem railOpp_fields (r : Nat) : (railOpp r).block = .pwr ∧ (railOpp r).off = 0x05C ∧ (railOpp r).lo ≤ (railOpp r).hi ∧ (railOpp r).hi < 32 ∧
    (railOpp r).hi - (railOpp r).lo + 1 = 2 := by
  unfold railOpp
  split
  · decide
  · split <;> decide

theorem fget_fset_railOpp (h : Head) (w : Wing) (r v : Nat) (hv : v < 4) : fget (fset h w (railOpp r) v) w (railOpp r) = v := by
  obtain ⟨-, -, hl, h32, hw⟩ := railOpp_fields r
  rw [fget_eq_bget, fset_regs]
  exact bget_bput_same_of_lt _ _ _ _ _ _ _ _ _ hl h32 (by rw [hw]; omega)

theorem frame_fset_railOpp (h : Head) (w : Wing) (r v : Nat) : Frame [] [(.pwr, 0x05C)] h (fset h w (railOpp r) v) := by
  obtain ⟨hb, ho, -⟩ := railOpp_fields r
  have hf := frame_fset h w 0 0 (railOpp r) v
  rwa [hb, ho] at hf

theorem floor_lt (h : Head) (w : Wing) : fget h w PWR_OPP_FLOOR < 4 := by
  rw [fget_eq_bget]
  exact bget_lt ..

theorem oppDown_lowers (h : Head) (w : Wing) (r : Nat) : fget (oppDown h w r) w (railOpp r) =
      (if fget h w (railOpp r) < fget h w PWR_OPP_FLOOR then fget h w (railOpp r) + 1 else fget h w (railOpp r)) ∧
    Frame [] [(.pwr, 0x05C)] h (oppDown h w r) := by
  have hfl := floor_lt h w
  unfold oppDown
  split
  · exact ⟨fget_fset_railOpp h w r _ (by omega), frame_fset_railOpp h w r _⟩
  · exact ⟨rfl, frame_refl _ _ h⟩

theorem avsNow_setAvs (h : Head) (w : Wing) (r v : Nat) : avsNow (setAvs h w r v) w r = v := tabGet_tabStore_same _ _ _ _

theorem frame_setAvs (h : Head) (w : Wing) (r v : Nat) : Frame [.pwr] [] h (setAvs h w r v) := by
  simp +decide only [setAvs, frame_mk, true_or, or_true, and_self, frame_refl]

/-- A window of a sag with the supply still below its limit. -/
theorem sagStep_avs (h : Head) (w : Wing) (r : Nat) (ha : fbit h w PWR_DROOP_AVS_EN = true) (hv : avsNow h w r < fget h w PWR_AVS_MAX_MV) :
    sagStep h w r = setAvs h w r (min (fget h w PWR_AVS_MAX_MV) (avsNow h w r + fget h w PWR_AVS_STEP_MV)) := if_pos ⟨ha, hv⟩

/-- A window of a sag that the supply cannot follow any more. -/
theorem sagStep_opp (h : Head) (w : Wing) (r : Nat) (hn : fbit h w PWR_DROOP_AVS_EN = false ∨ fget h w PWR_AVS_MAX_MV ≤ avsNow h w r) :
    sagStep h w r = if fbit h w PWR_DROOP_OPP_EN then oppDown h w r else h := by
  refine if_neg (fun hc => ?_)
  rcases hn with hn | hn
  · exact absurd (hn.symm.trans hc.1) (by decide)
  · exact absurd hc.2 (by omega)

theorem frame_sagStep (h : Head) (w : Wing) (r : Nat) : Frame [.pwr] [(.pwr, 0x05C)] h (sagStep h w r) := by
  simp +decide only [sagStep, frame_ite, (frame_setAvs ..).iff, ((oppDown_lowers ..).2).iff, frame_refl, ite_self]

theorem avsWindow_steps (s : State) (w : Wing) (r : Nat) (hrun : Runs s.dev) (hr : r < 3) (hs : sagging s.dev w r = true) :
    Completes (.avsWindow w r) s (fun h =>
      (fbit s.dev w PWR_DROOP_AVS_EN = true → avsNow s.dev w r < fget s.dev w PWR_AVS_MAX_MV →
        avsNow h w r = min (fget s.dev w PWR_AVS_MAX_MV) (avsNow s.dev w r + fget s.dev w PWR_AVS_STEP_MV) ∧ h.regs = s.dev.regs) ∧
      (fbit s.dev w PWR_DROOP_AVS_EN = false ∨ fget s.dev w PWR_AVS_MAX_MV ≤ avsNow s.dev w r → h.pwr = s.dev.pwr ∧
        fget h w (railOpp r) = (if fbit s.dev w PWR_DROOP_OPP_EN = true ∧ fget s.dev w (railOpp r) < fget s.dev w PWR_OPP_FLOOR then
          fget s.dev w (railOpp r) + 1 else fget s.dev w (railOpp r)) ∧ RegsBut s.dev h [(.pwr, 0x05C)]) ∧
      SameButRegs { s.dev with pwr := h.pwr } h) := by
  have hf := frame_sagStep s.dev w r
  refine completes_of_eq (exec_avsWindow w r) hrun (if_pos ⟨hs, hr⟩) ⟨fun ha hv => ?_, fun hn => ?_,
    (hf.mono (l := [.pwr, .evq]) (by decide) (fun _ h => h)).putPwr.sameButRegs⟩
  · rw [sagStep_avs s.dev w r ha hv]
    exact ⟨avsNow_setAvs _ _ _ _, rfl⟩
  · obtain ⟨hopp, hfo⟩ := oppDown_lowers s.dev w r
    rw [sagStep_opp s.dev w r hn]
    by_cases he : fbit s.dev w PWR_DROOP_OPP_EN = true
    · simp only [he, if_true, true_and]
      exact ⟨hfo.1 .pwr (by decide), hopp, hfo.2⟩
    · simp only [he]
      exact ⟨rfl, rfl, regsBut_refl _ _⟩

/-- A rail marked as sagging. -/
def sagMarked (h : Head) (w : Wing) (r : Nat) : Head := { h with pwr := { h.pwr with sags := setIn h.pwr.sags (railKey w r) true } }

/-- The first window of a sag. -/
def sagBegun (h : Head) (w : Wing) (r : Nat) : Head :=
  if fbit h w PWR_DROOP_AVS_EN ∧ fget h w PWR_AVS_MAX_MV ≤ avsNow h w r then h else sagStep h w r

theorem sag_eq (h : Head) (w : Wing) (r : Nat) (hr : r < 3) (hs : sagging h w r = false) (hl : railLow h w r = true) :
    sag h w r = raise (fadd (sagBegun (sagMarked h w r) w r) w PWR_CNT_SAG_COUNT) w Ev.PWR_SAG := by
  refine if_neg ?_
  rw [hs, hl]
  simp
  omega

theorem frame_sagBegun (h : Head) (w : Wing) (r : Nat) : Frame [.pwr] [(.pwr, 0x05C)] h (sagBegun h w r) := by
  simp +decide only [sagBegun, frame_ite, (frame_sagStep ..).iff, frame_refl, ite_self]

theorem sags_sagBegun (h : Head) (w : Wing) (r : Nat) : (sagBegun h w r).pwr.sags = h.pwr.sags := by
  have hopp : (oppDown h w r).pwr.sags = h.pwr.sags := by rw [(oppDown_lowers h w r).2.1 .pwr (by decide)]
  unfold sagBegun sagStep
  dsimp only
  split
  · rfl
  · split
    · rfl
    · split
      · exact hopp
      · rfl

/-- What the first window of a sag does. -/
theorem sagBegun_steps (h : Head) (w : Wing) (r : Nat) :
    (fbit h w PWR_DROOP_AVS_EN = true → fget (sagBegun h w r) w (railOpp r) = fget h w (railOpp r)) ∧
    (fbit h w PWR_DROOP_AVS_EN = true → avsNow h w r < fget h w PWR_AVS_MAX_MV →
      avsNow (sagBegun h w r) w r = min (fget h w PWR_AVS_MAX_MV) (avsNow h w r + fget h w PWR_AVS_STEP_MV)) ∧
    (fbit h w PWR_DROOP_AVS_EN = false → avsNow (sagBegun h w r) w r = avsNow h w r ∧
      (fbit h w PWR_DROOP_OPP_EN = true → fget h w (railOpp r) < fget h w PWR_OPP_FLOOR →
        fget (sagBegun h w r) w (railOpp r) = fget h w (railOpp r) + 1)) := by
  have hlow (hv : avsNow h w r < fget h w PWR_AVS_MAX_MV) : sagBegun h w r = sagStep h w r := if_neg (fun hc => absurd hc.2 (by omega))
  refine ⟨fun ha => ?_, fun ha hv => ?_, fun ha => ?_⟩
  · by_cases hv : avsNow h w r < fget h w PWR_AVS_MAX_MV
    · rw [hlow hv, sagStep_avs h w r ha hv]
      rfl
    · rw [show sagBegun h w r = h from if_pos ⟨ha, by omega⟩]
  · rw [hlow hv, sagStep_avs h w r ha hv]
    exact avsNow_setAvs _ _ _ _
  · have heq : sagBegun h w r = sagStep h w r := if_neg (fun hc => absurd (ha.symm.trans hc.1) (by decide))
    obtain ⟨hopp, hf⟩ := oppDown_lowers h w r
    rw [heq, sagStep_opp h w r (.inl ha)]
    refine ⟨?_, fun he hlt => ?_⟩
    · split
      · unfold avsNow
        rw [hf.1 .pwr (by decide)]
      · rfl
    · rw [if_pos he, hopp, if_pos hlt]

theorem pwrSag_raises (s : State) (w : Wing) (r : Nat) (hrun : Runs s.dev) (hr : r < 3) (hs : sagging s.dev w r = false) (hl : railLow s.dev w r = true) :
    Completes (.pwrSag w r) s (fun h =>
      sagging h w r = true ∧ EventSet h w Ev.PWR_SAG ∧ fget h w PWR_CNT_SAG_COUNT = min (fget s.dev w PWR_CNT_SAG_COUNT + 1) (2 ^ 32 - 1) ∧
        (fbit s.dev w PWR_DROOP_AVS_EN = true → fget h w (railOpp r) = fget s.dev w (railOpp r)) ∧
        (fbit s.dev w PWR_DROOP_AVS_EN = true → avsNow s.dev w r < fget s.dev w PWR_AVS_MAX_MV →
          avsNow h w r = min (fget s.dev w PWR_AVS_MAX_MV) (avsNow s.dev w r + fget s.dev w PWR_AVS_STEP_MV)) ∧
        (fbit s.dev w PWR_DROOP_AVS_EN = false → avsNow h w r = avsNow s.dev w r ∧
          (fbit s.dev w PWR_DROOP_OPP_EN = true → fget s.dev w (railOpp r) < fget s.dev w PWR_OPP_FLOOR →
            fget h w (railOpp r) = fget s.dev w (railOpp r) + 1)) ∧
        RegsBut s.dev h [(.pwr, 0x010), (.pwr, 0x05C), (.pwr, 0x06C)] ∧ SameButRegs { s.dev with pwr := h.pwr } h) := by
  have hg : Frame [.pwr, .evq] [(.pwr, 0x010), (.pwr, 0x05C), (.pwr, 0x06C)] s.dev (sagMarked s.dev w r) := by
    simp +decide only [sagMarked, frame_mk, true_or, or_true, and_self, frame_refl]
  have hmem : (sagMarked s.dev w r).pwr.sags.contains (railKey w r) = true := by
    exact contains_setIn_same s.dev.pwr.sags (railKey w r) true
  have hb := frame_sagBegun (sagMarked s.dev w r) w r
  have hsags := sags_sagBegun (sagMarked s.dev w r) w r
  obtain ⟨hkeep, havs, hopp⟩ := sagBegun_steps (sagMarked s.dev w r) w r
  have heq := sag_eq s.dev w r hr hs hl
  generalize sagBegun (sagMarked s.dev w r) w r = k at *
  have ht : Frame [.evq] [(.pwr, 0x010), (.pwr, 0x06C)] k (raise (fadd k w PWR_CNT_SAG_COUNT) w Ev.PWR_SAG) := by
    simp +decide only [frame_rules, frame_refl]
  have hall := hg.trans ((hb.mono (by decide) (by decide)).trans (ht.mono (by decide) (by decide)))
  have hpwr : (raise (fadd k w PWR_CNT_SAG_COUNT) w Ev.PWR_SAG).pwr = k.pwr := ht.1 .pwr (by decide)
  have havsk : avsNow (raise (fadd k w PWR_CNT_SAG_COUNT) w Ev.PWR_SAG) w r = avsNow k w r := by
    unfold avsNow
    rw [hpwr]
  obtain ⟨hblk, hoff, -⟩ := railOpp_fields r
  have hoppk : fget (raise (fadd k w PWR_CNT_SAG_COUNT) w Ev.PWR_SAG) w (railOpp r) = fget k w (railOpp r) :=
    ht.fget w (railOpp r) (by rw [hblk, hoff]; decide) (by rw [hoff]; decide) 0 0
  refine completes_of_eq (exec_pwrSag w r) hrun heq ⟨?_, raiseAt_sets _ _ _ (by decide), ?_, fun ha => hoppk.trans (hkeep ha),
    fun ha hv => havsk.trans (havs ha hv), fun ha => ⟨havsk.trans (hopp ha).1, fun he hlt => hoppk.trans ((hopp ha).2 he hlt)⟩, hall.2,
    hall.putPwr.sameButRegs⟩
  · unfold sagging
    rw [hpwr, hsags]
    exact hmem
  · rw [(frame_raise _ w 0 Ev.PWR_SAG).fget w PWR_CNT_SAG_COUNT (by decide) (by decide), fget_fadd_same _ _ _ _ _ _ (by decide) (by decide),
      hb.fget w PWR_CNT_SAG_COUNT (by decide) (by decide)]
    rfl

theorem droopRecover_recovers (s : State) (w : Wing) (r : Nat) (hrun : Runs s.dev) (hr : r < 3) (hl : railLow s.dev w r = false) :
    Completes (.droopRecover w r) s (fun h =>
      (fget s.dev w (railOpp r) = 0 → avsNow h w r = avsNow s.dev w r - fget s.dev w PWR_AVS_STEP_MV ∧ h.regs = s.dev.regs) ∧
      (0 < fget s.dev w (railOpp r) → h.pwr = s.dev.pwr ∧ fget h w (railOpp r) =
        (if r < 2 ∧ warm s.dev w 1 = true then fget s.dev w (railOpp r) else fget s.dev w (railOpp r) - 1)) ∧
      RegsBut s.dev h [(.pwr, 0x05C)] ∧ SameButRegs { s.dev with pwr := h.pwr } h) := by
  have hgate : ¬ (3 ≤ r ∨ railLow s.dev w r = true) := by
    rw [hl]
    simp
    omega
  have heq : droopRecover s.dev w r = if 0 < fget s.dev w (railOpp r) then
      (if r < 2 ∧ warm s.dev w 1 then s.dev else fset s.dev w (railOpp r) (fget s.dev w (railOpp r) - 1))
      else setAvs s.dev w r (avsNow s.dev w r - fget s.dev w PWR_AVS_STEP_MV) := if_neg hgate
  have hlt : fget s.dev w (railOpp r) < 4 := by
    obtain ⟨-, -, -, -, hw⟩ := railOpp_fields r
    have := bget_lt s.dev.regs (railOpp r).block w 0 (railOpp r).off (railOpp r).hi (railOpp r).lo 0
    rwa [hw] at this
  have hf : Frame [.pwr, .evq] [(.pwr, 0x05C)] s.dev (droopRecover s.dev w r) := by
    rw [heq]
    simp +decide only [frame_ite, (frame_setAvs ..).iff, (frame_fset_railOpp ..).iff, frame_refl, ite_self]
  refine completes_of_eq (exec_droopRecover w r) hrun rfl ⟨fun h0 => ?_, fun h0 => ?_, hf.2, hf.putPwr.sameButRegs⟩
  · rw [heq, if_neg (by omega)]
    exact ⟨avsNow_setAvs _ _ _ _, rfl⟩
  · rw [heq, if_pos h0]
    by_cases hw : r < 2 ∧ warm s.dev w 1 = true
    · rw [if_pos hw, if_pos hw]
      exact ⟨rfl, rfl⟩
    · rw [if_neg hw, if_neg hw]
      exact ⟨rfl, fget_fset_railOpp s.dev w r _ (by omega)⟩

/-! ### Heat -/

theorem toSigned_ofSigned (i : Int) (h0 : -128 ≤ i) (h1 : i ≤ 127) : toSigned 8 (ofSigned 8 i) = i ∧ ofSigned 8 i < 256 := by
  unfold toSigned ofSigned
  have hp : ((2 ^ 8 : Nat) : Int) = 256 := rfl
  rw [hp]
  have hm : i % 256 = if 0 ≤ i then i else i + 256 := by
    split <;> omega
  rw [hm]
  refine ⟨?_, ?_⟩
  · split <;> split <;> omega
  · split <;> omega

/-- A sample's temperatures shown. -/
def heatShown (h : Head) (w : Wing) (die hbm : Int) (sensor : Nat) : Head :=
  fset (fset (fset h w PWR_TEMP_HBM_MAX_C (ofSigned 8 (max (-128) (min 127 hbm)))) w PWR_TEMP_DIE_MAX_C (ofSigned 8 (max (-128) (min 127 die)))) w
    PWR_TEMP_SENSOR sensor

/-- A wing's limits judged. -/
def limitsJudged (h : Head) (w : Wing) : Head :=
  let h := thermLimit h w 0 (hotDie h) (fget h w PWR_THERM_WARN_C : Nat) 0
  let h := thermLimit h w 1 (hotDie h) (fget h w PWR_THERM_THROTTLE_C : Nat) 3
  thermLimit h w 2 (hbmTemp h w) (fget h w PWR_THERM_HBM_THROTTLE_C : Nat) 0

/-- The temperature alarms judged. -/
def alarmsJudged (h : Head) : Head :=
  let h := thermAlarm h 2 (decide (((fget h .east ALM_TEMP_TRIP_C : Nat) : Int) < hotDie h))
  thermAlarm h 3 (decide (min (dieTemp h .east) (dieTemp h .west) < -30))

/-- The chip held at 125 °C. -/
def heatHeld (h : Head) : Head := if 125 ≤ hotDie h then { h with pwr := { h.pwr with hold := .reset, thermTrip := true } } else h

theorem tempSample_eq (h : Head) (w : Wing) (die hbm : Int) (sensor : Nat) : tempSample h w die hbm sensor =
    heatHeld (alarmsJudged (limitsJudged (limitsJudged (heatShown h w die hbm sensor) .east) .west)) := rfl

theorem heatShown_reads (h : Head) (w : Wing) (die hbm : Int) (sensor : Nat) (hd0 : -128 ≤ die) (hd1 : die ≤ 127) (hh0 : -128 ≤ hbm) (hh1 : hbm ≤ 127)
    (hs : sensor < 32) : let g := heatShown h w die hbm sensor
    dieTemp g w = die ∧ hbmTemp g w = hbm ∧ fget g w PWR_TEMP_SENSOR = sensor := by
  obtain ⟨hd, hdl⟩ := toSigned_ofSigned die hd0 hd1
  obtain ⟨hh, hhl⟩ := toSigned_ofSigned hbm hh0 hh1
  have hreads : fget (heatShown h w die hbm sensor) w PWR_TEMP_DIE_MAX_C = ofSigned 8 die % 256 ∧
      fget (heatShown h w die hbm sensor) w PWR_TEMP_HBM_MAX_C = ofSigned 8 hbm % 256 ∧
      fget (heatShown h w die hbm sensor) w PWR_TEMP_SENSOR = sensor % 32 := by
    simp only [heatShown, show max (-128) (min 127 hbm) = hbm by omega, show max (-128) (min 127 die) = die by omega, fget_eq_bget, fset_regs]
    simp (disch := first | decide | rfl) [PWR_TEMP_DIE_MAX_C, PWR_TEMP_HBM_MAX_C, PWR_TEMP_SENSOR]
  obtain ⟨r0, r1, r2⟩ := hreads
  dsimp only
  unfold dieTemp hbmTemp
  rw [r0, r1, r2, Nat.mod_eq_of_lt hdl, Nat.mod_eq_of_lt hhl, Nat.mod_eq_of_lt hs]
  exact ⟨hd, hh, rfl⟩

theorem frame_thermLimit (h : Head) (w : Wing) (k : Nat) (t limit margin : Int) : Frame [.pwr, .evq] [(.pwr, 0x010)] h (thermLimit h w k t limit margin) := by
  simp +decide only [thermLimit, setWarm, frame_ite, frame_rules, frame_mk, true_or, or_true, and_self, frame_refl, ite_self]

theorem frame_limitsJudged (h : Head) (w : Wing) : Frame [.pwr, .evq] [(.pwr, 0x010)] h (limitsJudged h w) := by
  simp +decide only [limitsJudged, (frame_thermLimit ..).iff, frame_refl]

/-- The registers that a temperature alarm writes. -/
def alarmRegs : List (Block × Nat) := [(.alm, 0x010), (.alm, ALM_STATUS_ACTIVE.off), (.alm, 0x048), (.alm, 0x04C), (.cdc, 0x05C), (.cph, 0x010),
  (.cph, 0x064), (.dge, 0x05C), (.key, 0x010), (.key, 0x048), (.key, 0x05C)]

theorem frame_alarm (h : Head) (n : Nat) : Frame [.keys, .eng, .freeCtr, .evq, .doc] alarmRegs h (alarm h n) := by
  simp +decide only [alarm, frame_ite, (frame_tripAlarm ..).iff, frame_rules, frame_refl, ite_self]

theorem frame_thermAlarm (h : Head) (n : Nat) (on : Bool) : Frame [.keys, .eng, .freeCtr, .evq, .doc, .pwr] alarmRegs h (thermAlarm h n on) := by
  unfold thermAlarm
  split
  · simp +decide only [setWarm, (frame_alarm ..).iff, frame_mk, true_or, or_true, and_self, frame_refl]
  · simp +decide only [setWarm, frame_rules, frame_mk, true_or, or_true, and_self, frame_refl]
  · exact frame_refl _ _ h

theorem frame_alarmsJudged (h : Head) : Frame [.keys, .eng, .freeCtr, .evq, .doc, .pwr] alarmRegs h (alarmsJudged h) := by
  simp +decide only [alarmsJudged, (frame_thermAlarm ..).iff, frame_refl]

theorem frame_heatHeld (h : Head) : Frame [.pwr] [] h (heatHeld h) := by
  simp +decide only [heatHeld, frame_ite, frame_mk, true_or, or_true, and_self, frame_refl, ite_self]

/-- A limit keeps an event set, and the other limits' marks. -/
theorem thermLimit_keeps (h : Head) (w w' : Wing) (k : Nat) (t limit margin : Int) : (EventSet h w' Ev.PWR_THERMAL →
    EventSet (thermLimit h w k t limit margin) w' Ev.PWR_THERMAL) ∧
    ∀ v j, 8 * wingNum v + j ≠ 8 * wingNum w + k → warm (thermLimit h w k t limit margin) v j = warm h v j := by
  have hraise (g : Head) (hg : EventSet h w' Ev.PWR_THERMAL → EventSet g w' Ev.PWR_THERMAL) (he : EventSet h w' Ev.PWR_THERMAL) :
      EventSet (raise g w Ev.PWR_THERMAL) w' Ev.PWR_THERMAL := eventSet_raise (hg he) (by decide) w Ev.PWR_THERMAL 0
  have hwarm (on : Bool) (v : Wing) (j : Nat) (hne : 8 * wingNum v + j ≠ 8 * wingNum w + k) : warm (setWarm h w k on) v j = warm h v j :=
    contains_setIn_other _ on hne
  unfold thermLimit
  split
  · split
    · exact ⟨fun he => he, fun _ _ _ => rfl⟩
    · refine ⟨hraise _ (fun he => he), fun v j hne => ?_⟩
      unfold warm
      rw [(frame_raise (setWarm h w k true) w 0 Ev.PWR_THERMAL).1 .pwr (by decide)]
      exact hwarm true v j hne
  · split
    · exact ⟨fun he => he, hwarm false⟩
    · exact ⟨fun he => he, fun _ _ _ => rfl⟩

theorem limitsJudged_keeps (h : Head) (w w' : Wing) : (EventSet h w' Ev.PWR_THERMAL → EventSet (limitsJudged h w) w' Ev.PWR_THERMAL) ∧
    (w' ≠ w → warm (limitsJudged h w) w' 0 = warm h w' 0) := by
  refine ⟨fun he => (thermLimit_keeps _ w w' 2 _ _ _).1 ((thermLimit_keeps _ w w' 1 _ _ _).1 ((thermLimit_keeps h w w' 0 _ _ _).1 he)), fun hne => ?_⟩
  have hk : ∀ k, k < 3 → 8 * wingNum w' + 0 ≠ 8 * wingNum w + k := by
    have hw : wingNum w' ≠ wingNum w := by
      cases w <;> cases w' <;> simp [wingNum] at hne ⊢
    omega
  unfold limitsJudged
  dsimp only
  rw [(thermLimit_keeps _ w w 2 _ _ _).2 w' 0 (hk 2 (by decide)), (thermLimit_keeps _ w w 1 _ _ _).2 w' 0 (hk 1 (by decide)),
    (thermLimit_keeps _ w w 0 _ _ _).2 w' 0 (hk 0 (by decide))]

theorem limitsJudged_warns (h : Head) (w : Wing) (hl : ((fget h w PWR_THERM_WARN_C : Nat) : Int) < hotDie h) (hw : warm h w 0 = false) :
    EventSet (limitsJudged h w) w Ev.PWR_THERMAL := by
  refine (thermLimit_keeps _ w w 2 _ _ _).1 ((thermLimit_keeps _ w w 1 _ _ _).1 ?_)
  unfold thermLimit
  rw [if_pos hl, if_neg (by rw [hw]; decide)]
  exact raiseAt_sets _ _ _ (by decide)

theorem hotDie_congr {h g : Head} {l : List Part} {t : List (Block × Nat)} (x : Frame l t h g) (ht : (Block.pwr, 0x064) ∉ t) : hotDie g = hotDie h := by
  unfold hotDie dieTemp
  rw [x.fget .east PWR_TEMP_DIE_MAX_C ht (by decide), x.fget .west PWR_TEMP_DIE_MAX_C ht (by decide)]

theorem dieTemp_le_hotDie (h : Head) (w : Wing) : dieTemp h w ≤ hotDie h := by
  unfold hotDie
  cases w
  · exact le_max_left _ _
  · exact le_max_right _ _

/-- Both wings' limits judged: a die that crosses its wing's WARN_C raises that wing's event. -/
theorem limits_warn (h : Head) (w : Wing) (hl : ((fget h w PWR_THERM_WARN_C : Nat) : Int) < hotDie h) (hw : warm h w 0 = false) :
    EventSet (limitsJudged (limitsJudged h .east) .west) w Ev.PWR_THERMAL := by
  cases w with
  | east => exact (limitsJudged_keeps _ .west .east).1 (limitsJudged_warns h .east hl hw)
  | west =>
    have hf := frame_limitsJudged h .east
    refine limitsJudged_warns _ .west ?_ (((limitsJudged_keeps h .east .west).2 (by decide)).trans hw)
    rwa [hf.fget .west PWR_THERM_WARN_C (by decide) (by decide), hotDie_congr hf (by decide)]

theorem tempSample_shows (s : State) (w : Wing) (die hbm : Int) (sensor : Nat) (hrun : Runs s.dev) (hd0 : -128 ≤ die) (hd1 : die ≤ 127)
    (hh0 : -128 ≤ hbm) (hh1 : hbm ≤ 127) (hsen : sensor < 32) :
    Completes (.tempSample w die hbm sensor) s (fun h =>
      dieTemp h w = die ∧ hbmTemp h w = hbm ∧ fget h w PWR_TEMP_SENSOR = sensor ∧
        (((fget s.dev w PWR_THERM_WARN_C : Nat) : Int) < die → warm s.dev w 0 = false → EventSet h w Ev.PWR_THERMAL) ∧
        (125 ≤ die → h.pwr.hold = .reset ∧ h.pwr.thermTrip = true) ∧ h.mem = s.dev.mem ∧ h.out = s.dev.out) := by
  obtain ⟨hdie, hhbm, hsensor⟩ := heatShown_reads s.dev w die hbm sensor hd0 hd1 hh0 hh1 hsen
  have hs : Frame [] [(.pwr, 0x064)] s.dev (heatShown s.dev w die hbm sensor) := by
    simp +decide only [heatShown, frame_rules, frame_refl]
  have heq := tempSample_eq s.dev w die hbm sensor
  generalize heatShown s.dev w die hbm sensor = g at *
  have hle := dieTemp_le_hotDie g w
  have hlim : Frame [.pwr, .evq] [(.pwr, 0x010)] g (limitsJudged (limitsJudged g .east) .west) :=
    (frame_limitsJudged g .east).trans (frame_limitsJudged _ .west)
  have hwarn := limits_warn g w
  generalize limitsJudged (limitsJudged g .east) .west = k at *
  have ha := frame_alarmsJudged k
  have hall : Frame [.keys, .eng, .freeCtr, .evq, .doc, .pwr] ((.pwr, 0x010) :: alarmRegs) g (alarmsJudged k) :=
    (hlim.mono (by decide) (by decide)).trans (ha.mono (by decide) (by decide))
  have hhot : hotDie (alarmsJudged k) = hotDie g := hotDie_congr hall (by decide)
  generalize alarmsJudged k = a at *
  have hh := frame_heatHeld a
  have hend : Frame [.keys, .eng, .freeCtr, .evq, .doc, .pwr] ((.pwr, 0x010) :: alarmRegs) g (heatHeld a) := hall.trans (hh.mono (by decide) (by decide))
  refine completes_of_eq (exec_tempSample w die hbm sensor) hrun heq ⟨?_, ?_, ?_, fun hl hw => ?_, fun h125 => ?_, ?_, ?_⟩
  · rw [dieTemp, hend.fget w PWR_TEMP_DIE_MAX_C (by decide) (by decide)]
    exact hdie
  · rw [hbmTemp, hend.fget w PWR_TEMP_HBM_MAX_C (by decide) (by decide)]
    exact hhbm
  · rw [hend.fget w PWR_TEMP_SENSOR (by decide) (by decide), hsensor]
  · refine (hh.eventSet w Ev.PWR_THERMAL (by decide) 0).2 ((ha.eventSet w Ev.PWR_THERMAL (by decide) 0).2 (hwarn ?_ ?_))
    · rw [hs.fget w PWR_THERM_WARN_C (by decide) (by decide)]
      omega
    · unfold warm at hw ⊢
      rwa [hs.1 .pwr (by decide)]
  · have heq' : heatHeld a = { a with pwr := { a.pwr with hold := .reset, thermTrip := true } } := if_pos (by omega)
    rw [heq']
    exact ⟨rfl, rfl⟩
  · rw [hend.1 .mem (by decide), hs.1 .mem (by decide)]
  · rw [hend.1 .out (by decide), hs.1 .out (by decide)]

theorem oppDown_other (h : Head) (w : Wing) (r k : Nat) (f : Fld) (hf : f = railOpp k ∨ f = PWR_OPP_FLOOR) (hr : r < 3) (hk : k < 3) (hne : k ≠ r) :
    fget (oppDown h w r) w f = fget h w f := by
  have hall : ∀ r : Fin 3, ∀ k : Fin 3, k ≠ r → ∀ f ∈ [railOpp k, PWR_OPP_FLOOR], f.block = (railOpp r).block ∧ f.off = (railOpp r).off ∧
      (railOpp r).lo ≤ (railOpp r).hi ∧ f.lo ≤ f.hi ∧ f.hi < 32 ∧ (f.hi < (railOpp r).lo ∨ (railOpp r).hi < f.lo) := by decide
  obtain ⟨hb, ho, h1, h2, h3, h4⟩ := hall ⟨r, hr⟩ ⟨k, hk⟩ (fun he => hne (Fin.mk.inj he)) f (by simpa using hf)
  unfold oppDown
  split
  · rw [fget_eq_bget, fget_eq_bget, fset_regs]
    exact bget_bput_bits _ _ _ _ _ _ _ _ _ _ _ _ _ hb ho h1 h2 h3 h4
  · rfl

theorem thermalThrottleStep_lowers (s : State) (w : Wing) (hrun : Runs s.dev) (hl : ((fget s.dev w PWR_THERM_THROTTLE_C : Nat) : Int) < hotDie s.dev) :
    Completes (.thermalThrottleStep w) s (fun h =>
      EventSet h w Ev.PWR_THERMAL ∧
        (∀ r, r < 2 → fget h w (railOpp r) = if fget s.dev w (railOpp r) < fget s.dev w PWR_OPP_FLOOR then fget s.dev w (railOpp r) + 1
          else fget s.dev w (railOpp r)) ∧ fget h w PWR_OPP_MESH = fget s.dev w PWR_OPP_MESH ∧
        RegsBut s.dev h [(.pwr, 0x010), (.pwr, 0x05C)] ∧ SameButRegs s.dev h) := by
  have heq : throttleStep s.dev w = raise (oppDown (oppDown s.dev w 0) w 1) w Ev.PWR_THERMAL := if_pos hl
  obtain ⟨h0, hf0⟩ := oppDown_lowers s.dev w 0
  obtain ⟨h1, hf1⟩ := oppDown_lowers (oppDown s.dev w 0) w 1
  have hr := frame_raise (oppDown (oppDown s.dev w 0) w 1) w 0 Ev.PWR_THERMAL
  have hread (f : Fld) (hb : f.block = .pwr) (ho : f.off = 0x05C) :
      fget (raise (oppDown (oppDown s.dev w 0) w 1) w Ev.PWR_THERMAL) w f = fget (oppDown (oppDown s.dev w 0) w 1) w f :=
    hr.fget w f (by rw [hb, ho]; decide) (by rw [ho]; decide) 0 0
  have hall : Frame [.evq] [(.pwr, 0x010), (.pwr, 0x05C)] s.dev (raise (oppDown (oppDown s.dev w 0) w 1) w Ev.PWR_THERMAL) :=
    (hf0.mono (by decide) (by decide)).trans ((hf1.mono (by decide) (by decide)).trans (hr.mono (by decide) (by decide)))
  refine completes_of_eq (exec_thermalThrottleStep w) hrun heq ⟨raiseAt_sets _ _ _ (by decide), fun r hr2 => ?_, ?_, hall.2, hall.sameButRegs⟩
  · obtain ⟨hb, ho, -⟩ := railOpp_fields r
    rw [hread _ hb ho]
    have h01 : r = 0 ∨ r = 1 := by omega
    rcases h01 with rfl | rfl
    · rw [oppDown_other _ w 1 0 _ (.inl rfl) (by decide) (by decide) (by decide), h0]
    · rw [h1, oppDown_other s.dev w 0 1 (railOpp 1) (.inl rfl) (by decide) (by decide) (by decide),
        oppDown_other s.dev w 0 1 PWR_OPP_FLOOR (.inr rfl) (by decide) (by decide) (by decide)]
  · rw [hread PWR_OPP_MESH rfl rfl]
    exact (oppDown_other _ w 1 2 PWR_OPP_MESH (.inl rfl) (by decide) (by decide) (by decide)).trans
      (oppDown_other s.dev w 0 2 PWR_OPP_MESH (.inl rfl) (by decide) (by decide) (by decide))

/-- Settles O57: every mode, sag and temperature occurrence changes the registers and the lists that it names. -/
theorem modesSagAndHeat : Obligations.ModesSagAndHeat :=
  ⟨pwrServe_wakes, serveDone_serves, pwrStandby_starts, standbyDone_darkens, pwrDroop_shows, droopEnd_ends, pwrSag_raises, avsWindow_steps,
    droopRecover_recovers, tempSample_shows, thermalThrottleStep_lowers⟩

end Sys2Proof.Laws
end

section
/-! What the Curator's tables and a link's queue touch, for the statements about plinth links. -/

namespace Sys2Proof.Laws

open Machine Machine.Reg

/-! ### The Curator's tables -/

/-- The registers that show the Curator's tables (R318 to R337). -/
def curRegs : List (Block × Nat) := [(.csv, 0x054), (.cur, 0x010), (.cur, 0x040), (.cur, 0x04C), (.cur, 0x064), (.cur, 0x068), (.cur, 0x074)]

theorem frame_syncMode (h : Head) (w : Wing) : Frame [.evq] curRegs h (syncMode h w) := by
  simp +decide only [syncMode, frame_ite, frame_rules, frame_refl, ite_self]

theorem frame_syncCur (h : Head) : Frame [.cur, .evq] curRegs h (syncCur h) := by
  simp +decide only [syncCur, (frame_syncMode ..).iff, frame_foldHead, frame_ite, frame_rules, frame_mk, true_or, or_true, and_self, frame_refl,
    implies_true, ite_self]

theorem frame_curUpd (h : Head) (f : CurState → CurState) : Frame [.cur, .evq] curRegs h (curUpd h f) :=
  ((frame_mk h (by simp)).2 (frame_refl _ _ h)).trans (frame_syncCur _)

theorem frame_updHall (h : Head) (n : Nat) (f : Hall → Hall) : Frame [.cur, .evq] curRegs h (updHall h n f) := frame_curUpd h _

theorem frame_setBlock (h : Head) (a : Nat) (b : BlockRec) : Frame [.cur, .evq] curRegs h (setBlock h a b) := frame_curUpd h _

theorem frame_waitDie (h : Head) (a : Nat) (c : PlkCmd) (cls : DieClass) (p : Purpose) (accepted : Nat) :
    Frame [.dsp] [] h (waitDie h a c cls p accepted) := (frame_mk h (by simp)).2 (frame_refl _ _ h)

theorem frame_addWork (h : Head) (l : List Work) : Frame [.gal] [] h (addWork h l) := (frame_mk h (by simp)).2 (frame_refl _ _ h)

theorem frame_takeVault (h : Head) (l : List Nat) : Frame [.cur, .dsp, .evq] curRegs h (takeVault h l) := by
  simp +decide only [takeVault, frame_foldHead, (frame_curUpd ..).iff, (frame_setBlock ..).iff, (frame_waitDie ..).iff, frame_refl, implies_true]

theorem frame_fillVault (h : Head) : Frame [.cur, .dsp, .evq] curRegs h (fillVault h) := by
  simp +decide only [fillVault, frame_ite, (frame_takeVault ..).iff, frame_rules, frame_refl, ite_self]

theorem frame_vaultLost (h : Head) (p : Nat → Bool) : Frame [.cur, .dsp, .evq] curRegs h (vaultLost h p) := by
  simp +decide only [vaultLost, frame_ite, (frame_fillVault ..).iff, (frame_curUpd ..).iff, frame_rules, frame_refl, ite_self]

theorem frame_fullOn (h : Head) (n : Nat) : Frame [.cur, .evq] curRegs h (fullOn h n) := by
  simp +decide only [fullOn, frame_foldHead, (frame_updHall ..).iff, frame_refl, implies_true]

/-- The registers that show the galleries that are rebuilt. -/
def rebuildRegs : List (Block × Nat) := [(.gal, 0x010), (.gal, 0x05C), (.gal, 0x060), (.gal, 0x07C)]

theorem frame_dataLoss (h : Head) (serial : Nat) : Frame [.gal, .evq] rebuildRegs h (dataLoss h serial) := by
  simp +decide only [dataLoss, frame_ite, frame_rules, frame_mk, true_or, or_true, and_self, frame_refl, ite_self]

theorem frame_syncRebuild (h : Head) : Frame [] rebuildRegs h (syncRebuild h) := by
  simp +decide only [syncRebuild, frame_foldHead, frame_rules, frame_refl, implies_true]

theorem frame_rebuildPlinth (h : Head) (n : Nat) : Frame [.gal, .evq] rebuildRegs h (rebuildPlinth h n) := by
  simp +decide only [rebuildPlinth, (frame_syncRebuild ..).iff, (frame_addWork ..).iff, (frame_dataLoss ..).iff, frame_foldHead, frame_rules, frame_mk,
    true_or, or_true, and_self, frame_refl, implies_true]

theorem frame_plinthLost (h : Head) (n : Nat) : Frame [.cur, .dsp, .gal, .evq] (curRegs ++ rebuildRegs) h (plinthLost h n) := by
  simp +decide only [plinthLost, frame_ite, (frame_rebuildPlinth ..).iff, (frame_vaultLost ..).iff, (frame_fullOn ..).iff, frame_mk, true_or, or_true,
    and_self, frame_refl, ite_self]

theorem frame_dieLost (h : Head) (die : Nat) : Frame [.dsp, .gal, .evq] [(.dsp, 0x010)] h (dieLost h die) := by
  simp +decide only [dieLost, frame_ite, (frame_addWork ..).iff, frame_rules, frame_mk, true_or, or_true, and_self, frame_refl, ite_self]

/-- The vault's blocks are erased by die commands that wait, and no die fails by it. -/
theorem failed_takeVault (h : Head) (l : List Nat) : (takeVault h l).dsp.failed = h.dsp.failed := by
  unfold takeVault
  refine (foldHead_frame (fun g => g.dsp.failed) (fun g a => ?_) l _).trans (congrArg DspState.failed ((frame_curUpd h _).1 .dsp (by decide)))
  show (setBlock g a _).dsp.failed = _
  exact congrArg DspState.failed ((frame_setBlock g a _).1 .dsp (by decide))

theorem failed_vaultLost (h : Head) (p : Nat → Bool) : (vaultLost h p).dsp.failed = h.dsp.failed := by
  have hfill (g : Head) : (fillVault g).dsp.failed = g.dsp.failed := by
    unfold fillVault
    dsimp only
    split
    · exact congrArg DspState.failed ((frame_raise g .east 0 _).1 .dsp (by decide))
    · split
      · rfl
      · exact failed_takeVault g _
  unfold vaultLost
  split
  · rfl
  · refine (hfill _).trans (congrArg DspState.failed ?_)
    exact ((frame_curUpd _ _).1 .dsp (by decide)).trans ((frame_raise _ .east 0 Ev.CUR_VAULT_SHORT).1 .dsp (by decide))

theorem failed_plinthLost (h : Head) (n : Nat) : (plinthLost h n).dsp.failed = h.dsp.failed := by
  unfold plinthLost
  split
  · rfl
  · refine (congrArg DspState.failed ((frame_rebuildPlinth _ n).1 .dsp (by decide))).trans ((failed_vaultLost _ _).trans ?_)
    exact congrArg DspState.failed ((frame_fullOn _ n).1 .dsp (by decide))

theorem failed_dieLost (h : Head) (die : Nat) : die ∈ (dieLost h die).dsp.failed := by
  unfold dieLost
  split
  · rename_i hc
    simpa using hc
  · dsimp only
    have hf : (raise { h with dsp := { h.dsp with failed := h.dsp.failed ++ [die] } } (plkWing (die / 128)) Ev.DSP_DIE_FAILED).dsp.failed =
        h.dsp.failed ++ [die] := congrArg DspState.failed ((frame_raise _ _ 0 _).1 .dsp (by decide))
    show die ∈ (raise _ _ Ev.DSP_DIE_FAILED).dsp.failed
    rw [hf]
    exact List.mem_append_right _ List.mem_cons_self

/-! ### A link that sends -/

/-- A link's step: its own state and the messages that left it, and nothing else. -/
structure Linked (g h : Head) (n : Nat) (l : LinkState) (ms : List Msg) : Prop where
  head : h = { g with plk := { g.plk with links := h.plk.links }, out := g.out ++ ms }
  own : plkLink h n = l
  other : ∀ m, m ≠ n → plkLink h m = plkLink g m

section
variable {g h k : Head} {n : Nat} {l l' : LinkState} {ms ms' : List Msg}

theorem linked_refl (h : Head) (n : Nat) : Linked h h n (plkLink h n) [] :=
  ⟨by rw [List.append_nil], rfl, fun _ _ => rfl⟩

theorem linked_set (h : Head) (n : Nat) (l : LinkState) : Linked h (setPlkLink h n l) n l [] :=
  ⟨by rw [List.append_nil]; rfl, congrArg (·.getD LinkState.idle) (tabGet?_tabPut_same h.plk.links n l),
    fun _ hm => congrArg (·.getD LinkState.idle) (tabGet?_tabPut_other h.plk.links l hm)⟩

theorem linked_send (h : Head) (n : Nat) (m : Msg) : Linked h (send h m) n (plkLink h n) [m] := ⟨rfl, rfl, fun _ _ => rfl⟩

theorem linked_sends (h : Head) (n : Nat) (ms : List Msg) : Linked h (foldHead h ms send) n (plkLink h n) ms := by
  have hs : foldHead h ms send = { h with out := h.out ++ ms } := (foldHead_send (fun m => m) ms h).trans (by rw [List.map_id'])
  rw [hs]
  exact ⟨rfl, rfl, fun _ _ => rfl⟩

theorem Linked.trans (x : Linked g h n l ms) (y : Linked h k n l' ms') : Linked g k n l' (ms ++ ms') := by
  obtain ⟨hx, -, hox⟩ := x
  obtain ⟨hy, hl, hoy⟩ := y
  refine ⟨?_, hl, fun m hm => (hoy m hm).trans (hox m hm)⟩
  rw [hy, hx, List.append_assoc]

theorem Linked.regs (x : Linked g h n l ms) : h.regs = g.regs := by rw [x.head]

theorem Linked.ops (x : Linked g h n l ms) : h.plk.ops = g.plk.ops := by rw [x.head]

theorem Linked.out (x : Linked g h n l ms) : h.out = g.out ++ ms := by rw [x.head]

theorem Linked.plkGet (x : Linked g h n l ms) (m : Nat) (f : Fld) : plkGet h m f = Machine.plkGet g m f := by
  unfold Machine.plkGet
  rw [fget_eq_bget, x.regs]
  rfl

theorem Linked.alone (x : Linked g h n l ms) : h = { g with plk := h.plk, out := h.out } := by
  rw [x.head]

theorem linked_drain_open (h : Head) (n : Nat) (hu : plkGet h n PLK_STATUS_UP = 1) (ht : plkGet h n PLK_STATUS_TRAINING = 0) :
    Linked h (drainPlk h n) n (drainLink (plkRule h n) (plkLink h n)).1 (drainLink (plkRule h n) (plkLink h n)).2 := by
  unfold drainPlk plkBit
  rw [hu, ht, if_pos (by decide)]
  have hl := linked_set h n (drainLink (plkRule h n) (plkLink h n)).1
  exact hl.own ▸ hl.trans (linked_sends _ n _)

theorem linked_drain_closed (h : Head) (n : Nat) (ht : plkGet h n PLK_STATUS_UP = 0 ∨ plkGet h n PLK_STATUS_TRAINING ≠ 0) :
    drainPlk h n = h := by
  unfold drainPlk plkBit
  refine if_neg ?_
  simp
  omega

theorem drainLink_idle (r : LinkRule) (l : LinkState) (hq : l.queue = []) : drainLink r l = (l, []) := by
  unfold drainLink
  rw [hq]
  rfl

/-- A link with nothing waiting sends nothing. -/
theorem linked_drain_idle (h : Head) (n : Nat) (hq : (plkLink h n).queue = []) : Linked h (drainPlk h n) n (plkLink h n) [] := by
  by_cases ho : plkGet h n PLK_STATUS_UP = 1 ∧ plkGet h n PLK_STATUS_TRAINING = 0
  · have hd := linked_drain_open h n ho.1 ho.2
    rwa [drainLink_idle _ _ hq] at hd
  · have hlt : plkGet h n PLK_STATUS_UP < 2 := bget_lt ..
    rw [linked_drain_closed h n (by omega)]
    exact linked_refl h n

end

/-! ### Messages on a link -/

theorem Frame.putPlk {l : List Part} {t : List (Block × Nat)} {h g : Head} (x : Frame (.plk :: l) t h g) : Frame l t { h with plk := g.plk } g :=
  x.put (by simp only [frame_mk, List.mem_cons, true_or, or_true, and_self, frame_refl]) rfl

theorem Frame.putOut {l : List Part} {t : List (Block × Nat)} {h g : Head} (x : Frame (.out :: l) t h g) : Frame l t { h with out := g.out } g :=
  x.put (by simp only [frame_mk, List.mem_cons, true_or, or_true, and_self, frame_refl]) rfl

theorem takeFlit_keeps (vc : Nat) (x : Msg) (q : List LinkMsg) (hx : x ∈ q.map (·.msg)) :
    x ∈ (takeFlit vc q).1.map (·.msg) ∨ (takeFlit vc q).2 = some x := by
  induction q with
  | nil => exact absurd hx List.not_mem_nil
  | cons m t ih =>
    unfold takeFlit
    obtain rfl | ht := List.mem_cons.mp hx
    · split
      · split
        · exact .inr rfl
        · exact .inl List.mem_cons_self
      · exact .inl List.mem_cons_self
    · split
      · split
        · exact .inl ht
        · exact .inl (List.mem_cons_of_mem _ ht)
      · exact (ih ht).imp (List.mem_cons_of_mem _) id

/-- A message that waits leaves or waits still. -/
theorem pumpLink_keeps (r : LinkRule) (x : Msg) (fuel : Nat) : ∀ l : LinkState, x ∈ l.queue.map (·.msg) →
    x ∈ (pumpLink r fuel l).1.queue.map (·.msg) ∨ x ∈ (pumpLink r fuel l).2 := by
  induction fuel with
  | zero => exact fun l hx => .inl hx
  | succ fuel ih =>
    intro l hx
    unfold pumpLink
    split
    · exact .inl hx
    · split
      · exact .inl hx
      · rename_i vc _
        obtain hq | hm := takeFlit_keeps vc x l.queue hx
        · exact (ih _ hq).imp id (List.mem_append_right _)
        · exact .inr (List.mem_append_left _ (by simp [sendFlit, hm]))

theorem takeAt_getD (l : List Nat) (k : Nat) : (takeAt l k).getD k 0 = l.getD k 0 - 1 := by
  simp only [takeAt, List.getD_eq_getElem?_getD, List.getElem?_mapIdx]
  cases l[k]? <;> simp

/-- A channel that a link uses. -/
def LinkUses (r : LinkRule) (v : Nat) : Prop := v ∈ r.strict ∨ v = r.heavy ∨ v = r.light

theorem linkUses_plkRule (h : Head) (n v : Nat) (hv : v < 3) : LinkUses (plkRule h n) v := by
  have hcases : v = 0 ∨ v = 1 ∨ v = 2 := by omega
  obtain rfl | rfl | rfl := hcases
  · exact .inl List.mem_cons_self
  · exact .inr (.inl rfl)
  · exact .inr (.inr rfl)

theorem nextChannel_alone (r : LinkRule) (l : LinkState) (m : LinkMsg) (hq : l.queue = [m]) (hv : LinkUses r m.vc)
    (hc : 0 < l.credits.getD m.vc 0) : nextChannel r l = some m.vc := by
  have hready (v : Nat) : l.channelReady v = (m.vc == v) := by
    unfold LinkState.channelReady
    rw [hq, List.any_cons, List.any_nil, Bool.or_false]
    cases hb : m.vc == v with
    | false => rfl
    | true => rw [← eq_of_beq hb, decide_eq_true hc]; rfl
  unfold nextChannel
  cases hf : r.strict.find? l.channelReady with
  | some v =>
    have hr := List.find?_some hf
    rw [hready] at hr
    rw [eq_of_beq hr]
  | none =>
    have hns : m.vc ∉ r.strict := fun hm => List.find?_eq_none.mp hf m.vc hm (by rw [hready]; exact beq_self_eq_true _)
    rw [hready, hready]
    rcases hv with h | h | h
    · exact absurd h hns
    · rw [← h, beq_self_eq_true]
      cases hb : m.vc == r.light with
      | false => rfl
      | true => simp only [← eq_of_beq hb, ite_self]
    · rw [← h, beq_self_eq_true]
      cases hb : m.vc == r.heavy with
      | false => rfl
      | true => simp only [← eq_of_beq hb, ite_self]

theorem nextChannel_empty (r : LinkRule) (l : LinkState) (hq : l.queue = []) : nextChannel r l = none := by
  have hready (v : Nat) : l.channelReady v = false := by
    unfold LinkState.channelReady
    rw [hq]
    rfl
  unfold nextChannel
  rw [List.find?_eq_none.mpr (fun v _ => by rw [hready]; decide), hready, hready]

/-- The only message that waits leaves whole where the window and the credits have room for it. -/
theorem pumpLink_whole (r : LinkRule) (fuel : Nat) : ∀ (l : LinkState) (v k : Nat) (x : Msg), l.queue = [⟨v, k, x⟩] → LinkUses r v →
    0 < k → k ≤ fuel → k ≤ l.credits.getD v 0 → l.replay.length + k ≤ r.window →
    (pumpLink r fuel l).2 = [x] ∧ (pumpLink r fuel l).1.queue = [] ∧ (pumpLink r fuel l).1.txNext = (l.txNext + k) % 1024 ∧
      (pumpLink r fuel l).1.replay.length = l.replay.length + k ∧
      (pumpLink r fuel l).1.credits.getD v 0 = l.credits.getD v 0 - k := by
  induction fuel with
  | zero => intro l v k x _ _ h0 hk; omega
  | succ fuel ih =>
    intro l v k x hq hv h0 hk hc hw
    have hnext := nextChannel_alone r l ⟨v, k, x⟩ hq hv (by dsimp only; omega)
    unfold pumpLink
    rw [if_neg (by omega), hnext]
    by_cases h1 : k ≤ 1
    · have ht : takeFlit v l.queue = ([], some x) := by
        rw [hq]
        unfold takeFlit
        rw [if_pos rfl, if_pos h1]
      have hd : pumpLink r fuel (sendFlit r l v).1 = ((sendFlit r l v).1, []) := by
        cases fuel with
        | zero => rfl
        | succ fuel =>
          have hn : nextChannel r (sendFlit r l v).1 = none := nextChannel_empty r _ (by simp [sendFlit, ht])
          unfold pumpLink
          rw [hn]
          exact ite_self _
      dsimp only
      rw [hd]
      refine ⟨by simp [sendFlit, ht], by simp [sendFlit, ht], ?_, ?_, ?_⟩
      · rw [show k = 1 by omega]
        rfl
      · simp [sendFlit, LinkState.flitSent]
        omega
      · rw [show k = 1 by omega]
        exact takeAt_getD l.credits v
    · have ht : takeFlit v l.queue = ([⟨v, k - 1, x⟩], none) := by
        rw [hq]
        unfold takeFlit
        rw [if_pos rfl, if_neg h1]
      have hq' : (sendFlit r l v).1.queue = [⟨v, k - 1, x⟩] := by simp [sendFlit, ht]
      have hc' : (sendFlit r l v).1.credits.getD v 0 = l.credits.getD v 0 - 1 := takeAt_getD l.credits v
      have hr' : (sendFlit r l v).1.replay.length = l.replay.length + 1 := by simp [sendFlit, LinkState.flitSent]
      have htx : (sendFlit r l v).1.txNext = (l.txNext + 1) % 1024 := rfl
      have hm : (sendFlit r l v).2 = none := by simp [sendFlit, ht]
      obtain ⟨i1, i2, i3, i4, i5⟩ := ih (sendFlit r l v).1 v (k - 1) x hq' hv (by omega) (by omega) (by omega) (by omega)
      dsimp only
      rw [hm, i1, i2, i3, i4, i5, hc', hr', htx]
      exact ⟨rfl, rfl, by omega, by omega, by omega⟩

/-- A command put on a link that is free to send leaves at once. -/
theorem linked_put_whole (h : Head) (n : Nat) (c : PlkCmd) (l : LinkState) (hu : plkGet h n PLK_STATUS_UP = 1) (ht : plkGet h n PLK_STATUS_TRAINING = 0)
    (hl : l = plkLink h n) (hq : l.queue = []) (hc : plkFlits c ≤ l.credits.getD (plkVc c) 0) (hw : l.replay.length + plkFlits c ≤ 256) :
    ∃ l', Linked h (plkPut h n c) n l' [.plk n c] ∧ l'.queue = [] ∧ l'.txNext = (l.txNext + plkFlits c) % 1024 ∧
      l'.replay.length = l.replay.length + plkFlits c ∧ l'.credits.getD (plkVc c) 0 = l.credits.getD (plkVc c) 0 - plkFlits c := by
  have hset := linked_set h n ((plkLink h n).push ⟨plkVc c, plkFlits c, .plk n c⟩)
  have hdrain := linked_drain_open (setPlkLink h n ((plkLink h n).push ⟨plkVc c, plkFlits c, .plk n c⟩)) n hu ht
  have hqueue : (l.push ⟨plkVc c, plkFlits c, .plk n c⟩).queue = [⟨plkVc c, plkFlits c, .plk n c⟩] := by
    unfold LinkState.push
    rw [hq, List.nil_append]
  have hv : plkVc c < 3 := by
    unfold plkVc
    split <;> (try split) <;> omega
  have hpos : 0 < plkFlits c := by
    unfold plkFlits
    omega
  obtain ⟨i1, i2, i3, i4, i5⟩ := pumpLink_whole (plkRule h n) (plkFlits c) (l.push ⟨plkVc c, plkFlits c, .plk n c⟩)
    _ _ _ hqueue (linkUses_plkRule h n _ hv) hpos le_rfl hc hw
  have hd : drainLink (plkRule h n) (l.push ⟨plkVc c, plkFlits c, .plk n c⟩) =
      pumpLink (plkRule h n) (plkFlits c) (l.push ⟨plkVc c, plkFlits c, .plk n c⟩) := by
    unfold drainLink
    rw [hqueue]
    rfl
  rw [hset.own, ← hl] at hdrain
  rw [show plkRule (setPlkLink h n (l.push ⟨plkVc c, plkFlits c, .plk n c⟩)) n = plkRule h n from rfl, hd, i1] at hdrain
  rw [← hl] at hset
  have hall := hset.trans hdrain
  rw [List.nil_append] at hall
  refine ⟨_, ?_, i2, i3, i4, i5⟩
  unfold plkPut
  rw [← hl]
  exact hall

/-- A command put on a link waits or leaves. -/
theorem linked_put (h : Head) (n : Nat) (c : PlkCmd) : ∃ l ms, Linked h (plkPut h n c) n l ms ∧ (.plk n c ∈ l.queue.map (·.msg) ∨ .plk n c ∈ ms) := by
  unfold plkPut
  have hset := linked_set h n ((plkLink h n).push ⟨plkVc c, plkFlits c, .plk n c⟩)
  have hmem : Msg.plk n c ∈ ((plkLink h n).push ⟨plkVc c, plkFlits c, .plk n c⟩).queue.map (·.msg) := by
    simp [LinkState.push]
  generalize (plkLink h n).push ⟨plkVc c, plkFlits c, .plk n c⟩ = l at *
  by_cases ho : plkGet (setPlkLink h n l) n PLK_STATUS_UP = 1 ∧ plkGet (setPlkLink h n l) n PLK_STATUS_TRAINING = 0
  · have hd := linked_drain_open _ n ho.1 ho.2
    rw [hset.own] at hd
    exact ⟨_, _, hset.trans hd, (pumpLink_keeps _ _ _ l hmem).imp id (List.mem_append_right _)⟩
  · have hlt : plkGet (setPlkLink h n l) n PLK_STATUS_UP < 2 := bget_lt ..
    rw [linked_drain_closed _ n (by omega)]
    exact ⟨_, _, hset, .inl hmem⟩

end Sys2Proof.Laws
end

section
/-! Plinth links carry commands and replay flits (R278, R288 to R296), and O43. -/

namespace Sys2Proof.Laws

open Machine Machine.Reg

/-- A plinth's command on the plinth it names. -/
theorem completes_plinth {c : Instr} {f : Head → Nat → Head} {s : State} {P : Head → Prop} {h : Head} {n : Nat}
    (hx : exec c = lift (fun h => f h (n % 64))) (hn : n < 64) (hr : Runs s.dev) (heq : f s.dev n = h) (hP : P h) : Completes c s P := by
  rw [Nat.mod_eq_of_lt hn] at hx
  exact completes_of_eq hx hr heq hP

/-! ### What is brought up to date with a command's end -/

theorem frame_enterBound (h : Head) (w : Wing) (f : Fld) (hf : f.block = .foq ∧ f.off = 0x044) :
    Frame [.foy, .evq] [(.foq, 0x010), (.foq, 0x044), (.mft, 0x010)] h (enterBound h w f) := by
  obtain ⟨b, o, hi, lo⟩ := f
  obtain ⟨rfl, rfl⟩ := hf
  have hm (g : Head) : Frame [.foy, .evq] [(.foq, 0x010), (.foq, 0x044), (.mft, 0x010)] g (markStalled g w) := by
    cases w <;> simp +decide only [markStalled, frame_mk, true_or, or_true, and_self, frame_refl]
  simp +decide only [enterBound, frame_ite, (hm _).iff, frame_rules, frame_refl, ite_self]

theorem frame_updateBounds (h : Head) (w : Wing) : Frame [.foy, .evq] [(.foq, 0x010), (.foq, 0x044), (.mft, 0x010)] h (updateBounds h w) := by
  have hb (g : Head) (f : Fld) (hf : f ∈ [FOQ_FETCH_HOST_TAGS, FOQ_FETCH_DIE_OPS, FOQ_FETCH_ENGINE_TAGS]) :
      Frame [.foy, .evq] [(.foq, 0x010), (.foq, 0x044), (.mft, 0x010)] g (enterBound g w f) := by
    have hall : ∀ f ∈ [FOQ_FETCH_HOST_TAGS, FOQ_FETCH_DIE_OPS, FOQ_FETCH_ENGINE_TAGS], f.block = .foq ∧ f.off = 0x044 := by decide
    exact frame_enterBound g w f (hall f hf)
  simp +decide only [updateBounds, frame_ite, (hb _ _ _).iff, frame_rules, frame_refl, ite_self]

theorem frame_syncPlk (h : Head) (n : Nat) :
    Frame [.foy, .evq] [(.dsp, 0x048), (.foq, 0x010), (.foq, 0x044), (.mft, 0x010), (.plk, 0x050)] h (syncPlk h n) := by
  simp +decide only [syncPlk, plkSet, (frame_updateBounds ..).iff, frame_rules, frame_refl]

theorem frame_countRead (h : Head) (a : Nat) : Frame [.cur, .gal, .evq] ((.csv, 0x05C) :: curRegs) h (countRead h a) := by
  simp +decide only [countRead, frame_ite, (frame_addWork ..).iff, (frame_curUpd ..).iff, (frame_setBlock ..).iff, frame_rules, frame_refl, ite_self]

/-- The registers that a die operation's end shows. -/
def recordRegs : List (Block × Nat) := (.csv, 0x05C) :: (.dsp, 0x010) :: (.dsp, 0x04C) :: (.dsp, 0x050) :: curRegs

theorem frame_recordDone (h : Head) (o : PlkOp) (st : Status) (busy : Nat) : Frame [.cur, .gal, .evq] recordRegs h (recordDone h o st busy) := by
  simp +decide only [recordDone, frame_ite, (frame_countRead ..).iff, (frame_setBlock ..).iff, frame_rules, frame_refl, ite_self]

theorem frame_recordWait (h : Head) (o : PlkOp) (f k : Nat) : Frame [] recordRegs h (recordWait h o f k) := by
  simp +decide only [recordWait, frame_ite, frame_rules, frame_refl, ite_self]

theorem frame_claimSeen (h : Head) (n : Nat) (c : PlkCmd) (st : Status) : Frame [] [(.plk, 0x044)] h (claimSeen h n c st) := by
  simp +decide only [claimSeen, plkSet, frame_ite, frame_rules, frame_refl, ite_self]

/-! ### A completion -/

/-- The suspends of a link counted. -/
def suspendNoted (h : Head) (n : Nat) (d : PlkDone) : Head := if d.suspended then plkAdd h n PLK_CNT_SUSPEND_COUNT else h

/-- The failures of a link's media counted. -/
def mediaNoted (h : Head) (n : Nat) (d : PlkDone) : Head := if d.status = .mediaFail then plkAdd h n PLK_CNT_MEDIA_COUNT else h

theorem frame_suspendNoted (h : Head) (n : Nat) (d : PlkDone) : Frame [] [(.plk, 0x070)] h (suspendNoted h n d) := by
  simp +decide only [suspendNoted, plkAdd, frame_ite, frame_rules, frame_refl, ite_self]

theorem frame_mediaNoted (h : Head) (n : Nat) (d : PlkDone) : Frame [] [(.plk, 0x06C)] h (mediaNoted h n d) := by
  simp +decide only [mediaNoted, plkAdd, frame_ite, frame_rules, frame_refl, ite_self]

/-- A READ with many corrected bits (R288). -/
def manyCorrected (h : Head) (n : Nat) (c : PlkCmd) (d : PlkDone) : Prop :=
  c.mgmt = false ∧ c.opcode = 1 ∧ d.status = .done ∧ plkGet h n PLK_WARN_BITS ≤ d.maxCw

theorem plkStatus_eq (h : Head) (n : Nat) (c : PlkCmd) (d : PlkDone) [Decidable (manyCorrected h n c d)] :
    plkStatus h n c d = if manyCorrected h n c d then (.doneNote, plkAdd (mediaNoted (suspendNoted h n d) n d) n PLK_CNT_WARN_COUNT)
      else (d.status, mediaNoted (suspendNoted h n d) n d) := by
  have hwarn : plkGet (mediaNoted (suspendNoted h n d) n d) n PLK_WARN_BITS = plkGet h n PLK_WARN_BITS :=
    ((frame_mediaNoted _ n d).fget _ PLK_WARN_BITS (by decide) (by decide) 0 _).trans
      ((frame_suspendNoted h n d).fget _ PLK_WARN_BITS (by decide) (by decide) 0 _)
  have hmany : (!c.mgmt && c.opcode == 1 && d.status == .done &&
      decide (plkGet (mediaNoted (suspendNoted h n d) n d) n PLK_WARN_BITS ≤ d.maxCw)) = true ↔ manyCorrected h n c d := by
    rw [hwarn]
    simp [manyCorrected, and_assoc]
  unfold plkStatus
  by_cases hm : manyCorrected h n c d
  · rw [if_pos hm]
    exact if_pos (hmany.mpr hm)
  · rw [if_neg hm]
    exact if_neg (fun hc => hm (hmany.mp hc))

/-- What a completion's status shows of the link. -/
theorem plkStatus_counts (h : Head) (n : Nat) (c : PlkCmd) (d : PlkDone) :
    (plkStatus h n c d).1 = (if c.mgmt = false ∧ c.opcode = 1 ∧ d.status = .done ∧ plkGet h n PLK_WARN_BITS ≤ d.maxCw then .doneNote
      else d.status) ∧
    Frame [] [(.plk, 0x068), (.plk, 0x06C), (.plk, 0x070)] h (plkStatus h n c d).2 ∧
    (d.status = .mediaFail → plkGet (plkStatus h n c d).2 n PLK_CNT_MEDIA_COUNT = min (plkGet h n PLK_CNT_MEDIA_COUNT + 1) (2 ^ 32 - 1)) := by
  have hf : Frame [] [(.plk, 0x068), (.plk, 0x06C), (.plk, 0x070)] h (mediaNoted (suspendNoted h n d) n d) :=
    ((frame_suspendNoted h n d).mono (by decide) (by decide)).trans ((frame_mediaNoted _ n d).mono (by decide) (by decide))
  have hmedia (hd : d.status = .mediaFail) :
      plkGet (mediaNoted (suspendNoted h n d) n d) n PLK_CNT_MEDIA_COUNT = min (plkGet h n PLK_CNT_MEDIA_COUNT + 1) (2 ^ 32 - 1) := by
    unfold mediaNoted
    rw [if_pos hd]
    have hadd (g : Head) : plkGet (plkAdd g n PLK_CNT_MEDIA_COUNT) n PLK_CNT_MEDIA_COUNT = min (plkGet g n PLK_CNT_MEDIA_COUNT + 1) (2 ^ 32 - 1) :=
      fget_fadd_same _ _ _ _ _ _ (by decide) (by decide)
    rw [hadd]
    exact congrArg (fun x => min (x + 1) (2 ^ 32 - 1)) ((frame_suspendNoted h n d).fget _ PLK_CNT_MEDIA_COUNT (by decide) (by decide) 0 _)
  generalize hg : mediaNoted (suspendNoted h n d) n d = g at *
  have hdec : Decidable (manyCorrected h n c d) := by
    unfold manyCorrected
    infer_instance
  rw [plkStatus_eq, hg]
  by_cases hm : manyCorrected h n c d
  · rw [if_pos hm]
    unfold manyCorrected at hm
    rw [if_pos hm]
    refine ⟨rfl, hf.trans ((frame_fadd g _ 0 _ PLK_CNT_WARN_COUNT 1).mono (by decide) (by decide)), fun hd => ?_⟩
    exact ((frame_fadd g _ 0 _ PLK_CNT_WARN_COUNT 1).fget _ PLK_CNT_MEDIA_COUNT (by decide) (by decide) 0 _).trans (hmedia hd)
  · rw [if_neg hm]
    unfold manyCorrected at hm
    rw [if_neg hm]
    exact ⟨rfl, hf, hmedia⟩

/-- An operation taken out of those outstanding. -/
def opEnded (h : Head) (o : PlkOp) : Head := { h with plk := { h.plk with ops := h.plk.ops.filter (fun x => x != o) } }

/-- What a completion leaves before its operation's end. -/
def completionNoted (h : Head) (n : Nat) (d : PlkDone) (o : PlkOp) : Head :=
  recordWait (recordDone (claimSeen (plkStatus (syncPlk (opEnded h o) n) n o.cmd d).2 n o.cmd (plkStatus (syncPlk (opEnded h o) n) n o.cmd d).1) o
    (plkStatus (syncPlk (opEnded h o) n) n o.cmd d).1 d.busy) o d.startFrame d.startSlot

theorem plkCompletion_found (h : Head) (n : Nat) (d : PlkDone) (ns : Nat) (o : PlkOp)
    (ho : h.plk.ops.find? (fun o => o.plinth == n && o.cmd.mgmt == d.mgmt && o.cmd.slot == d.slot && o.cmd.gen == d.gen) = some o) :
    plkCompletion h n d ns = pumpReads (releaseAcks (purposeDone (completionNoted h n d o) o
      (plkStatus (syncPlk (opEnded h o) n) n o.cmd d).1 d.word d.dlen d.data)) ns := by
  unfold plkCompletion
  rw [ho]
  rfl

theorem plkCompletion_ends (s : State) (n ns : Nat) (d : PlkDone) (o : PlkOp) (hrun : Runs s.dev) (hn : n < 64)
    (ho : s.dev.plk.ops.find? (fun o => o.plinth == n && o.cmd.mgmt == d.mgmt && o.cmd.slot == d.slot && o.cmd.gen == d.gen) = some o) :
    Completes (.plkCompletion n d ns) s (fun h => ∃ (g : Head) (st : Status),
      st = (if o.cmd.mgmt = false ∧ o.cmd.opcode = 1 ∧ d.status = .done ∧ plkGet s.dev n PLK_WARN_BITS ≤ d.maxCw then .doneNote
        else d.status) ∧
      g.plk.ops = s.dev.plk.ops.filter (· != o) ∧
      (d.status = .mediaFail → plkGet g n PLK_CNT_MEDIA_COUNT = min (plkGet s.dev n PLK_CNT_MEDIA_COUNT + 1) (2 ^ 32 - 1)) ∧
      (st = .fenced → (o.cmd.mgmt = true ∨ o.cmd.opcode = 2 ∨ o.cmd.opcode = 3) → plkGet g n PLK_STATUS_FENCED_BY_CLAIM = 1) ∧
      g.mem = s.dev.mem ∧ g.cat = s.dev.cat ∧ g.out = s.dev.out ∧ g.dsp = s.dev.dsp ∧
      h = pumpReads (releaseAcks (purposeDone g o st d.word d.dlen d.data)) ns) := by
  refine completes_plinth (f := fun h n => plkCompletion h n d ns) (exec_plkCompletion n d ns) hn hrun (plkCompletion_found s.dev n d ns o ho) ?_
  have he : Frame [.plk] [] s.dev (opEnded s.dev o) := (frame_mk s.dev (by simp)).2 (frame_refl _ _ s.dev)
  have hs := frame_syncPlk (opEnded s.dev o) n
  have hops : (syncPlk (opEnded s.dev o) n).plk.ops = s.dev.plk.ops.filter (· != o) := congrArg PlkState.ops (hs.1 .plk (by decide))
  obtain ⟨hst, hp, hmedia⟩ := plkStatus_counts (syncPlk (opEnded s.dev o) n) n o.cmd d
  have hget (f : Fld) (hf : (f.block, f.off) ∉ [(Block.dsp, 0x048), (.foq, 0x010), (.foq, 0x044), (.mft, 0x010), (.plk, 0x050)]) (h4 : f.off < 4096) :
      plkGet (syncPlk (opEnded s.dev o) n) n f = plkGet s.dev n f := (hs.fget _ f hf h4 0 _).trans (he.fget _ f List.not_mem_nil h4 0 _)
  have hbase : Frame [.plk, .foy, .evq] [(.dsp, 0x048), (.foq, 0x010), (.foq, 0x044), (.mft, 0x010), (.plk, 0x050)] s.dev (syncPlk (opEnded s.dev o) n) :=
    (he.mono (by decide) (by decide)).trans (hs.mono (by decide) (fun _ h => h))
  rw [hget PLK_WARN_BITS (by decide) (by decide)] at hst
  rw [hget PLK_CNT_MEDIA_COUNT (by decide) (by decide)] at hmedia
  unfold completionNoted
  generalize syncPlk (opEnded s.dev o) n = a at *
  generalize plkStatus a n o.cmd d = p at *
  obtain ⟨st, b⟩ := p
  have hc := frame_claimSeen b n o.cmd st
  have hr : Frame [.cur, .gal, .evq] recordRegs (claimSeen b n o.cmd st)
      (recordWait (recordDone (claimSeen b n o.cmd st) o st d.busy) o d.startFrame d.startSlot) :=
    (frame_recordDone _ o st d.busy).trans ((frame_recordWait _ o _ _).mono (by decide) (fun _ h => h))
  have hkept (q : Part) (h1 : q ∉ [Part.plk, .foy, .evq]) (h2 : q ∉ [Part.cur, .gal, .evq]) :
      q.same s.dev (recordWait (recordDone (claimSeen b n o.cmd st) o st d.busy) o d.startFrame d.startSlot) :=
    q.same_trans (q.same_trans (q.same_trans (hbase.1 q h1) (hp.1 q List.not_mem_nil)) (hc.1 q List.not_mem_nil)) (hr.1 q h2)
  refine ⟨_, st, hst, ?_, fun hd => ?_, fun hf hm => ?_, hkept .mem (by decide) (by decide), hkept .cat (by decide) (by decide),
    hkept .out (by decide) (by decide), hkept .dsp (by decide) (by decide), rfl⟩
  · rw [hr.1 .plk (by decide), hc.1 .plk (by decide), hp.1 .plk (by decide), hops]
  · refine (hr.fget _ PLK_CNT_MEDIA_COUNT (by decide) (by decide) 0 _).trans ?_
    exact (hc.fget _ PLK_CNT_MEDIA_COUNT (by decide) (by decide) 0 _).trans (hmedia hd)
  · refine (hr.fget _ PLK_STATUS_FENCED_BY_CLAIM (by decide) (by decide) 0 _).trans ?_
    unfold claimSeen
    rw [if_pos ⟨hf, hm⟩]
    exact bget_bput_same_of_lt _ _ _ _ _ _ _ _ _ (by decide) (by decide) (by decide)

theorem plkCompletion_discarded (s : State) (n ns : Nat) (d : PlkDone) (hrun : Runs s.dev) (hn : n < 64)
    (ho : s.dev.plk.ops.find? (fun o => o.plinth == n && o.cmd.mgmt == d.mgmt && o.cmd.slot == d.slot && o.cmd.gen == d.gen) = none) :
    Completes (.plkCompletion n d ns) s (fun h => h = s.dev) := by
  refine completes_plinth (f := fun h n => plkCompletion h n d ns) (exec_plkCompletion n d ns) hn hrun ?_ rfl
  unfold plkCompletion
  rw [ho]

/-! ### A command that times out -/

/-- An operation marked as sent once more. -/
def opResent (h : Head) (o : PlkOp) : Head :=
  { h with plk := { h.plk with ops := h.plk.ops.map (fun x => if x = o then { x with resent := true } else x) } }

theorem plkTimeout_first (h : Head) (n slot : Nat) (o : PlkOp) (ho : h.plk.ops.find? (fun o => o.plinth == n && !o.cmd.mgmt && o.cmd.slot == slot) = some o)
    (hr : o.resent = false) : plkTimeout h n slot = plkPut (opResent h o) n o.cmd := by
  unfold plkTimeout
  rw [ho]
  exact if_neg (by rw [hr]; decide)

theorem plkTimeout_second (h : Head) (n slot : Nat) (o : PlkOp) (ho : h.plk.ops.find? (fun o => o.plinth == n && !o.cmd.mgmt && o.cmd.slot == slot) = some o)
    (hr : o.resent = true) : plkTimeout h n slot = pumpReads (releaseAcks (purposeDone (syncPlk (opEnded h o) n) o .timeout 0 0 0)) 0 := by
  unfold plkTimeout
  rw [ho]
  exact if_pos hr

theorem plkTimeout_sent (s : State) (n slot : Nat) (o : PlkOp) (hrun : Runs s.dev) (hn : n < 64)
    (ho : s.dev.plk.ops.find? (fun o => o.plinth == n && !o.cmd.mgmt && o.cmd.slot == slot) = some o) (hr : o.resent = false) :
    Completes (.plkTimeout n slot) s (fun h =>
      h.plk.ops = s.dev.plk.ops.map (fun x => if x = o then { x with resent := true } else x) ∧
        ((.plk n o.cmd ∈ (plkLink h n).queue.map (·.msg)) ∨ (.plk n o.cmd ∈ h.out.drop s.dev.out.length)) ∧
        (∀ m, m ≠ n → plkLink h m = plkLink s.dev m) ∧ h = { s.dev with plk := h.plk, out := h.out }) := by
  refine completes_plinth (f := fun h n => plkTimeout h n slot) (exec_plkTimeout n slot) hn hrun (plkTimeout_first s.dev n slot o ho hr) ?_
  obtain ⟨l, ms, hl, hmem⟩ := linked_put (opResent s.dev o) n o.cmd
  refine ⟨hl.ops, ?_, hl.other, hl.alone⟩
  rw [hl.own, hl.out, show (opResent s.dev o).out = s.dev.out from rfl, List.drop_left]
  exact hmem

theorem plkTimeout_leaves (s : State) (n slot : Nat) (o : PlkOp) (l : LinkState) (hrun : Runs s.dev) (hn : n < 64)
    (ho : s.dev.plk.ops.find? (fun o => o.plinth == n && !o.cmd.mgmt && o.cmd.slot == slot) = some o) (hr : o.resent = false)
    (hu : plkGet s.dev n PLK_STATUS_UP = 1) (ht : plkGet s.dev n PLK_STATUS_TRAINING = 0) (hl : l = plkLink s.dev n) (hq : l.queue = [])
    (hc : plkFlits o.cmd ≤ l.credits.getD (plkVc o.cmd) 0) (hw : l.replay.length + plkFlits o.cmd ≤ 256) :
    Completes (.plkTimeout n slot) s (fun h =>
      h.out = s.dev.out ++ [.plk n o.cmd] ∧ (plkLink h n).queue = [] ∧
        (plkLink h n).txNext = (l.txNext + plkFlits o.cmd) % 1024 ∧
        (plkLink h n).replay.length = l.replay.length + plkFlits o.cmd ∧
        (plkLink h n).credits.getD (plkVc o.cmd) 0 = l.credits.getD (plkVc o.cmd) 0 - plkFlits o.cmd) := by
  refine completes_plinth (f := fun h n => plkTimeout h n slot) (exec_plkTimeout n slot) hn hrun (plkTimeout_first s.dev n slot o ho hr) ?_
  obtain ⟨l', hl', h1, h2, h3, h4⟩ := linked_put_whole (opResent s.dev o) n o.cmd l hu ht hl hq hc hw
  rw [hl'.own]
  exact ⟨hl'.out, h1, h2, h3, h4⟩

theorem plkTimeout_ends (s : State) (n slot : Nat) (o : PlkOp) (hrun : Runs s.dev) (hn : n < 64)
    (ho : s.dev.plk.ops.find? (fun o => o.plinth == n && !o.cmd.mgmt && o.cmd.slot == slot) = some o) (hr : o.resent = true) :
    Completes (.plkTimeout n slot) s (fun h => ∃ g : Head,
      g.plk.ops = s.dev.plk.ops.filter (· != o) ∧ g.mem = s.dev.mem ∧ g.out = s.dev.out ∧ g.cat = s.dev.cat ∧ g.cur = s.dev.cur ∧
        h = pumpReads (releaseAcks (purposeDone g o .timeout 0 0 0)) 0) := by
  refine completes_plinth (f := fun h n => plkTimeout h n slot) (exec_plkTimeout n slot) hn hrun (plkTimeout_second s.dev n slot o ho hr) ?_
  have hs := frame_syncPlk (opEnded s.dev o) n
  exact ⟨_, congrArg PlkState.ops (hs.1 .plk (by decide)), hs.1 .mem (by decide), hs.1 .out (by decide), hs.1 .cat (by decide), hs.1 .cur (by decide), rfl⟩

/-! ### Alerts -/

/-- The first alert of a link kept. -/
def alertKept (h : Head) (n code detail : Nat) : Head :=
  if plkBit h n PLK_ALERT_VALID then h
    else plkSet (plkSet (plkSet h n PLK_ALERT_VALID 1) n PLK_ALERT_CODE code) n PLK_ALERT_DETAIL detail

theorem plkAlert_eq (h : Head) (n code detail : Nat) :
    plkAlert h n code detail = alertEffect (plkRaise (alertKept h n code detail) n 2) n code detail := rfl

theorem alertKept_reads (h : Head) (n code detail : Nat) (hc : code < 256) (hd : detail < 65536) :
    plkGet (alertKept h n code detail) n PLK_ALERT_VALID = 1 ∧
      plkGet (alertKept h n code detail) n PLK_ALERT_CODE = (if plkGet h n PLK_ALERT_VALID = 1 then plkGet h n PLK_ALERT_CODE else code) ∧
      plkGet (alertKept h n code detail) n PLK_ALERT_DETAIL = (if plkGet h n PLK_ALERT_VALID = 1 then plkGet h n PLK_ALERT_DETAIL else detail) := by
  have hlt : plkGet h n PLK_ALERT_VALID < 2 := bget_lt ..
  unfold alertKept plkBit
  by_cases hv : plkGet h n PLK_ALERT_VALID = 1
  · rw [hv, if_pos (by decide), if_pos rfl, if_pos rfl]
    exact ⟨hv, rfl, rfl⟩
  · rw [show plkGet h n PLK_ALERT_VALID = 0 by omega, if_neg (by decide), if_neg (by decide), if_neg (by decide)]
    simp only [plkGet, plkSet, fget_eq_bget, fset_regs]
    simp (disch := first | decide | rfl) [PLK_ALERT_VALID, PLK_ALERT_CODE, PLK_ALERT_DETAIL]
    omega

theorem frame_alertKept (h : Head) (n code detail : Nat) : Frame [] [(.plk, 0x058)] h (alertKept h n code detail) := by
  simp +decide only [alertKept, plkSet, frame_ite, frame_rules, frame_refl, ite_self]

theorem plkRaise_sets (h : Head) (n k : Nat) (hk : k < 32) : EventSet (plkRaise h n k) (plkWing n) ⟨.plk, k⟩ (plkInst n) := raiseAt_sets _ _ _ hk

theorem frame_plkRaise (h : Head) (n k : Nat) : Frame [.evq] [(.plk, 0x010)] h (plkRaise h n k) := frame_raise h _ _ _

/-- A plinth without hold-up (R316). -/
def holdupNoted (h : Head) (n : Nat) : Head :=
  { h with cur := { h.cur with noHoldup := if h.cur.noHoldup.contains n then h.cur.noHoldup else h.cur.noHoldup ++ [n] } }

theorem frame_holdupNoted (h : Head) (n : Nat) : Frame [.cur] [(.plk, 0x044)] h (holdupNoted h n) := (frame_mk h (by simp)).2 (frame_refl _ _ h)

theorem mem_holdupNoted (h : Head) (n : Nat) : n ∈ (holdupNoted h n).cur.noHoldup := by
  unfold holdupNoted
  dsimp only
  split
  · rename_i hc
    simpa using hc
  · exact List.mem_append_right _ List.mem_cons_self

theorem alertEffect_two (h : Head) (n detail : Nat) : alertEffect h n 2 detail = holdupNoted h n := rfl

theorem alertEffect_six (h : Head) (n detail : Nat) : alertEffect h n 6 detail = plkSet h n PLK_STATUS_FENCED_BY_CLAIM 1 := rfl

/-- What an alert that tells of no die does. -/
theorem alertEffect_reads (h : Head) (n code detail : Nat) (h4 : code ≠ 4) :
    Frame [.cur] [(.plk, 0x044)] h (alertEffect h n code detail) ∧ (code = 2 → n ∈ (alertEffect h n code detail).cur.noHoldup) ∧
      (code = 6 → plkGet (alertEffect h n code detail) n PLK_STATUS_FENCED_BY_CLAIM = 1) := by
  by_cases h2 : code = 2
  · subst h2
    rw [alertEffect_two]
    exact ⟨frame_holdupNoted h n, fun _ => mem_holdupNoted h n, fun h6 => absurd h6 (by decide)⟩
  by_cases h6 : code = 6
  · subst h6
    rw [alertEffect_six]
    exact ⟨(frame_fset h _ 0 _ PLK_STATUS_FENCED_BY_CLAIM 1).mono (by decide) (by decide), fun h => absurd h h2,
      fun _ => bget_bput_same_of_lt _ _ _ _ _ _ _ _ _ (by decide) (by decide) (by decide)⟩
  · have heq : alertEffect h n code detail = h := by
      unfold alertEffect
      split
      · exact absurd rfl h2
      · exact absurd rfl h4
      · exact absurd rfl h6
      · rfl
    rw [heq]
    exact ⟨frame_refl _ _ h, fun h => absurd h h2, fun h => absurd h h6⟩

theorem plkAlert_kept (s : State) (n code detail : Nat) (hrun : Runs s.dev) (hn : n < 64) (hc : code < 256) (hd : detail < 65536) (h4 : code ≠ 4) :
    Completes (.plkAlert n code detail) s (fun h =>
      plkGet h n PLK_ALERT_VALID = 1 ∧
        plkGet h n PLK_ALERT_CODE = (if plkGet s.dev n PLK_ALERT_VALID = 1 then plkGet s.dev n PLK_ALERT_CODE else code) ∧
        plkGet h n PLK_ALERT_DETAIL = (if plkGet s.dev n PLK_ALERT_VALID = 1 then plkGet s.dev n PLK_ALERT_DETAIL else detail) ∧
        EventSet h (plkWing n) ⟨.plk, 2⟩ (plkInst n) ∧ (code = 2 → n ∈ h.cur.noHoldup) ∧
        (code = 6 → plkGet h n PLK_STATUS_FENCED_BY_CLAIM = 1) ∧ RegsBut s.dev h [(.plk, 0x010), (.plk, 0x044), (.plk, 0x058)] ∧
        h.mem = s.dev.mem ∧ h.out = s.dev.out ∧ h.plk = s.dev.plk) := by
  refine completes_plinth (f := fun h n => plkAlert h n code detail) (exec_plkAlert n code detail) hn hrun (plkAlert_eq s.dev n code detail) ?_
  obtain ⟨hv, hcode, hdetail⟩ := alertKept_reads s.dev n code detail hc hd
  have hk := frame_alertKept s.dev n code detail
  generalize alertKept s.dev n code detail = a at *
  have hev := plkRaise_sets a n 2 (by decide)
  have hr := frame_plkRaise a n 2
  generalize plkRaise a n 2 = b at *
  obtain ⟨he, h2, h6⟩ := alertEffect_reads b n code detail h4
  have hget (f : Fld) (hf : f ∈ [PLK_ALERT_VALID, PLK_ALERT_CODE, PLK_ALERT_DETAIL]) : plkGet (alertEffect b n code detail) n f = plkGet a n f := by
    have hall : ∀ f ∈ [PLK_ALERT_VALID, PLK_ALERT_CODE, PLK_ALERT_DETAIL], (f.block, f.off) ∉ [(Block.plk, 0x044)] ∧
        (f.block, f.off) ∉ [(Block.plk, 0x010)] ∧ f.off < 4096 := by decide
    obtain ⟨h44, h10, ho⟩ := hall f hf
    exact (he.fget _ f h44 ho 0 _).trans (hr.fget _ f h10 ho 0 _)
  have hall : Frame [.cur, .evq] [(.plk, 0x010), (.plk, 0x044), (.plk, 0x058)] s.dev (alertEffect b n code detail) :=
    ((hk.mono (by decide) (by decide)).trans (hr.mono (by decide) (by decide))).trans (he.mono (by decide) (by decide))
  exact ⟨(hget _ (by decide)).trans hv, (hget _ (by decide)).trans hcode, (hget _ (by decide)).trans hdetail,
    (he.eventSet _ ⟨.plk, 2⟩ (by decide) _).2 hev, h2, h6, hall.2, hall.1 .mem (by decide), hall.1 .out (by decide), hall.1 .plk (by decide)⟩

/-- A die that an alert names is lost, and its plinth with its last die. -/
def diesLost (h : Head) (n : Nat) : Head :=
  if (diesOf h n).all (fun cd => h.dsp.failed.contains (n * 128 + cd.1 * 8 + cd.2)) ∧ tabHas h.plk.geom n then plinthLost h n else h

theorem alertEffect_four (h : Head) (n detail : Nat) : alertEffect h n 4 detail = diesLost (dieLost h (n * 128 + detail % 128)) n := rfl

theorem plkAlert_die (s : State) (n detail : Nat) (hrun : Runs s.dev) (hn : n < 64) (hd : detail < 65536) :
    Completes (.plkAlert n 4 detail) s (fun h =>
      plkGet h n PLK_ALERT_VALID = 1 ∧ (n * 128 + detail % 128) ∈ h.dsp.failed ∧ EventSet h (plkWing n) ⟨.plk, 2⟩ (plkInst n)) := by
  refine completes_plinth (f := fun h n => plkAlert h n 4 detail) (exec_plkAlert n 4 detail) hn hrun (plkAlert_eq s.dev n 4 detail) ?_
  obtain ⟨hv, -, -⟩ := alertKept_reads s.dev n 4 detail (by decide) hd
  generalize alertKept s.dev n 4 detail = a at *
  have hev := plkRaise_sets a n 2 (by decide)
  have hr := frame_plkRaise a n 2
  generalize plkRaise a n 2 = b at *
  have hdie := frame_dieLost b (n * 128 + detail % 128)
  have hin := failed_dieLost b (n * 128 + detail % 128)
  have heff : Frame [.cur, .dsp, .gal, .evq] ((.dsp, 0x010) :: (curRegs ++ rebuildRegs)) b (alertEffect b n 4 detail) ∧
      n * 128 + detail % 128 ∈ (alertEffect b n 4 detail).dsp.failed := by
    rw [alertEffect_four]
    unfold diesLost
    generalize dieLost b (n * 128 + detail % 128) = c at *
    split
    · exact ⟨(hdie.mono (by decide) (by decide)).trans ((frame_plinthLost c n).mono (fun _ h => h) (List.subset_cons_self _ _)),
        failed_plinthLost c n ▸ hin⟩
    · exact ⟨hdie.mono (by decide) (by decide), hin⟩
  obtain ⟨he, hfail⟩ := heff
  refine ⟨?_, hfail, (he.eventSet _ ⟨.plk, 2⟩ (by decide) _).2 hev⟩
  exact (he.fget _ PLK_ALERT_VALID (by decide) (by decide) 0 _).trans ((hr.fget _ PLK_ALERT_VALID (by decide) (by decide) 0 _).trans hv)

/-! ### Flits -/

theorem plkFlit_up (h : Head) (n : Nat) (good : Bool) (ftype vc mtype lseq acktype ackseq : Nat) (credits : List Nat) (hu : plkGet h n PLK_STATUS_UP = 1)
    (hm : (good && decide (ftype < 4) && !(ftype == 1 && vc == 3)) = true → ftype = 1 → 1 ≤ mtype ∧ mtype ≤ 3) :
    plkFlit h n good ftype vc mtype lseq acktype ackseq credits = plkLinkResult h n
      (receiveFlit (plkLink h n) (good && decide (ftype < 4) && !(ftype == 1 && vc == 3)) ⟨ftype, vc, lseq, acktype, ackseq, credits⟩) := by
  unfold plkFlit plkBit
  rw [hu, if_neg (by decide)]
  refine if_neg fun hc => ?_
  simp only [Bool.and_eq_true, Bool.or_eq_true, beq_iff_eq, decide_eq_true_eq] at hc
  have := hm (by simp only [Bool.and_eq_true, decide_eq_true_eq]; exact hc.1.1.1) hc.1.1.2
  omega

/-- What a flit leads to where no flit is sent again and the link does not retrain. -/
theorem plkLinkResult_plain (h : Head) (n : Nat) (r : FlitResult) (hr : r.resent = []) (ht : r.retrain = false) (hn : r.nak = false) (ha : r.ack = true) :
    ∃ g, plkLinkResult h n r = drainPlk g n ∧
      Linked h g n (acknowledge (plkRule h n) r.link (plkWing n) (some (plkInst n))).1
        [(acknowledge (plkRule h n) r.link (plkWing n) (some (plkInst n))).2] := by
  have hset := linked_set h n r.link
  have hset' := linked_set (setPlkLink h n r.link) n (acknowledge (plkRule h n) r.link (plkWing n) (some (plkInst n))).1
  refine ⟨_, ?_, hset'.own ▸ (hset.trans (hset'.trans (linked_send _ n _)))⟩
  unfold plkLinkResult
  rw [hn, ha, hr, ht]
  unfold plkAgain
  simp only [if_true, Bool.false_eq_true, if_false]
  rw [hset.own]
  rfl

theorem plkLinkResult_nak (h : Head) (n : Nat) (r : FlitResult) (hr : r.resent = []) (ht : r.retrain = false) (ha : r.ack = false) :
    ∃ g, plkLinkResult h n r = drainPlk g n ∧
      Linked h g n r.link (if r.nak then [.nak (plkWing n) (some (plkInst n)) r.link.rxNext] else []) := by
  have hset := linked_set h n r.link
  refine ⟨if r.nak then send (setPlkLink h n r.link) (.nak (plkWing n) (some (plkInst n)) r.link.rxNext) else setPlkLink h n r.link, ?_, ?_⟩
  · unfold plkLinkResult
    rw [ha, hr, ht]
    rfl
  · cases r.nak with
    | false => exact hset
    | true =>
      have hs := linked_send (setPlkLink h n r.link) n (.nak (plkWing n) (some (plkInst n)) r.link.rxNext)
      rw [hset.own] at hs
      exact hset.trans hs

theorem addAt_any (l : List Nat) (k : Nat) (hk : k < l.length) : (addAt l k 1).any (fun n => n != 0) = true := by
  rw [List.any_eq_true]
  refine ⟨l[k] + 1, ?_, by simp⟩
  rw [addAt, List.mem_mapIdx]
  exact ⟨k, hk, if_pos rfl⟩

/-- A flit in order is accepted. -/
theorem receiveFlit_next (l : LinkState) (f : FlitHdr) (ha : f.acktype = 0) (h0 : f.ftype ≠ 0) (hs : f.lseq = l.rxNext) :
    receiveFlit l true f = ⟨l.accept f, false, true, [], false⟩ := by
  unfold receiveFlit
  simp [ha, h0, hs]

theorem plkFlit_taken (s : State) (n vc mtype ackseq : Nat) (credits : List Nat) (l : LinkState) (hrun : Runs s.dev) (hn : n < 64)
    (hu : plkGet s.dev n PLK_STATUS_UP = 1) (hv : vc < 3) (h1 : 1 ≤ mtype) (h3 : mtype ≤ 3) (hl : l = plkLink s.dev n) (hq : l.queue = [])
    (ho : l.owed.length = 4) (hw : l.replay.length < 256) :
    Completes (.plkFlit n true 1 vc mtype l.rxNext 0 ackseq credits) s (fun h =>
      plkLink h n = { l with
        rxNext := (l.rxNext + 1) % 1024
        txNext := (l.txNext + 1) % 1024
        replay := l.replay ++ [(l.txNext, 1)]
        nakSent := false
        owed := [0, 0, 0, 0] } ∧
        h.out = s.dev.out ++ [.credit (plkWing n) (some (plkInst n)) l.txNext (l.rxNext % 1024) (addAt l.owed vc 1)] ∧
        h = { s.dev with plk := h.plk, out := h.out }) := by
  refine completes_plinth (f := fun h n => plkFlit h n true 1 vc mtype l.rxNext 0 ackseq credits) (exec_plkFlit n true 1 vc mtype l.rxNext 0 ackseq credits) hn hrun
    (plkFlit_up s.dev n true 1 vc mtype l.rxNext 0 ackseq credits hu (fun _ _ => ⟨h1, h3⟩)) ?_
  have hok : (true && decide (1 < 4) && !((1 == 1) && vc == 3)) = true := by
    simp
    omega
  have hres : receiveFlit (plkLink s.dev n) (true && decide (1 < 4) && !(1 == 1 && vc == 3)) ⟨1, vc, l.rxNext, 0, ackseq, credits⟩ =
      ⟨{ l with rxNext := (l.rxNext + 1) % 1024, nakSent := false, owed := addAt l.owed vc 1 }, false, true, [], false⟩ := by
    rw [hok, ← hl, receiveFlit_next l _ rfl (by simp) rfl]
    rfl
  rw [hres]
  obtain ⟨g, hg, hlink⟩ := plkLinkResult_plain s.dev n ⟨{ l with rxNext := (l.rxNext + 1) % 1024, nakSent := false, owed := addAt l.owed vc 1 }, false, true, [], false⟩
    rfl rfl rfl rfl
  have hack : acknowledge (plkRule s.dev n) { l with rxNext := (l.rxNext + 1) % 1024, nakSent := false, owed := addAt l.owed vc 1 } (plkWing n)
      (some (plkInst n)) = ({ l with
        rxNext := (l.rxNext + 1) % 1024
        txNext := (l.txNext + 1) % 1024
        replay := l.replay ++ [(l.txNext, 1)]
        nakSent := false
        owed := [0, 0, 0, 0] }, .credit (plkWing n) (some (plkInst n)) l.txNext (l.rxNext % 1024) (addAt l.owed vc 1)) := by
    have howed : (addAt l.owed vc 1).map (fun _ => 0) = [0, 0, 0, 0] := by
      rw [List.map_const', show (addAt l.owed vc 1).length = 4 by rw [addAt, List.length_mapIdx, ho]]
      rfl
    have hseq : ((l.rxNext + 1) % 1024 + 1023) % 1024 = l.rxNext % 1024 := by omega
    unfold acknowledge
    dsimp only
    rw [addAt_any l.owed vc (by omega), decide_eq_true (show l.replay.length < (plkRule s.dev n).window from hw), if_pos (by decide), howed, hseq]
    rfl
  rw [hack] at hlink
  have hall := hlink.trans (linked_drain_idle g n (by rw [hlink.own]; exact hq))
  rw [← hg] at hall
  exact ⟨hall.own.trans hlink.own, hall.out, hall.alone⟩

/-- The credits of a LINK flit join those a link has. -/
theorem accept_credits (l : LinkState) (f : FlitHdr) (h3 : f.ftype = 3) (hc : l.credits = [0, 0, 0, 0]) (v : Nat) (hv : v < 3) :
    (l.accept f).credits.getD v 0 = f.credits.getD v 0 := by
  unfold LinkState.accept
  simp only [h3, if_true]
  have h4 : ([0, 0, 0, 0] : List Nat)[v]? = some 0 := by
    have hcases : v = 0 ∨ v = 1 ∨ v = 2 := by omega
    obtain h | h | h := hcases <;> rw [h] <;> rfl
  rw [hc, List.getD_eq_getElem?_getD, List.getElem?_mapIdx, h4]
  exact Nat.zero_add _

/-- A flit with nothing owed is acknowledged by an IDLE flit. -/
theorem acknowledge_idle (r : LinkRule) (l : LinkState) (w : Wing) (link : Option Nat) (ho : l.owed = [0, 0, 0, 0]) :
    acknowledge r l w link = (l, .ack w link ((l.rxNext + 1023) % 1024)) := by
  unfold acknowledge
  dsimp only
  rw [ho, if_neg (by simp)]

/-- The only message that waits, of one flit, leaves. -/
theorem pumpLink_one (r : LinkRule) (hr : 0 < r.window) (l : LinkState) (m : LinkMsg) (hq : l.queue = [m]) (hv : LinkUses r m.vc) (hm : m.left = 1)
    (hw : l.replay = []) (hc : 0 < l.credits.getD m.vc 0) : (drainLink r l).2 = [m.msg] ∧ (drainLink r l).1.queue = [] ∧
      (drainLink r l).1.replay = [(l.txNext, 1)] ∧ (drainLink r l).1.credits.getD m.vc 0 = l.credits.getD m.vc 0 - 1 := by
  have hd : drainLink r l = pumpLink r 1 l := by
    unfold drainLink
    rw [hq, List.map_cons, List.map_nil, List.sum_cons, List.sum_nil, Nat.add_zero, hm]
  obtain ⟨i1, i2, -, -, i5⟩ := pumpLink_whole r 1 l m.vc 1 m.msg (by rw [← hm]; exact hq) hv (by decide) le_rfl hc (by rw [hw]; exact hr)
  rw [hd]
  refine ⟨i1, i2, ?_, i5⟩
  unfold pumpLink
  rw [if_neg (by rw [hw]; exact Nat.not_le.mpr hr), nextChannel_alone r l m hq hv hc]
  show l.replay ++ _ = _
  rw [hw]
  rfl

theorem plkFlit_credits (s : State) (n vc mtype ackseq : Nat) (credits : List Nat) (l : LinkState) (m : LinkMsg) (hrun : Runs s.dev) (hn : n < 64)
    (hu : plkGet s.dev n PLK_STATUS_UP = 1) (ht : plkGet s.dev n PLK_STATUS_TRAINING = 0) (hl : l = plkLink s.dev n) (hq : l.queue = [m]) (hv : m.vc < 3)
    (hm : m.left = 1) (hw : l.replay = []) (hc : l.credits = [0, 0, 0, 0]) (ho : l.owed = [0, 0, 0, 0]) (hcr : 0 < credits.getD m.vc 0) :
    Completes (.plkFlit n true 3 vc mtype l.rxNext 0 ackseq credits) s (fun h =>
      h.out = s.dev.out ++ [.ack (plkWing n) (some (plkInst n)) (l.rxNext % 1024), m.msg] ∧ (plkLink h n).queue = [] ∧
        (plkLink h n).replay = [(l.txNext, 1)] ∧ (plkLink h n).credits.getD m.vc 0 = credits.getD m.vc 0 - 1 ∧
        h = { s.dev with plk := h.plk, out := h.out }) := by
  refine completes_plinth (f := fun h n => plkFlit h n true 3 vc mtype l.rxNext 0 ackseq credits) (exec_plkFlit n true 3 vc mtype l.rxNext 0 ackseq credits) hn hrun
    (plkFlit_up s.dev n true 3 vc mtype l.rxNext 0 ackseq credits hu (fun _ h => absurd h (by decide))) ?_
  have hres : receiveFlit (plkLink s.dev n) (true && decide (3 < 4) && !(3 == 1 && vc == 3)) ⟨3, vc, l.rxNext, 0, ackseq, credits⟩ =
      ⟨l.accept ⟨3, vc, l.rxNext, 0, ackseq, credits⟩, false, true, [], false⟩ := by
    rw [← hl]
    exact receiveFlit_next l _ rfl (by simp) rfl
  rw [hres]
  have hcredit := accept_credits l ⟨3, vc, l.rxNext, 0, ackseq, credits⟩ rfl hc m.vc hv
  have hseq : ((l.accept ⟨3, vc, l.rxNext, 0, ackseq, credits⟩).rxNext + 1023) % 1024 = l.rxNext % 1024 := by
    show ((l.rxNext + 1) % 1024 + 1023) % 1024 = _
    omega
  have hqueue : (l.accept ⟨3, vc, l.rxNext, 0, ackseq, credits⟩).queue = [m] := hq
  have hreplay : (l.accept ⟨3, vc, l.rxNext, 0, ackseq, credits⟩).replay = [] := hw
  have howed : (l.accept ⟨3, vc, l.rxNext, 0, ackseq, credits⟩).owed = [0, 0, 0, 0] := ho
  have htx : (l.accept ⟨3, vc, l.rxNext, 0, ackseq, credits⟩).txNext = l.txNext := rfl
  generalize l.accept ⟨3, vc, l.rxNext, 0, ackseq, credits⟩ = k at *
  obtain ⟨g, hg, hlink⟩ := plkLinkResult_plain s.dev n ⟨k, false, true, [], false⟩ rfl rfl rfl rfl
  rw [acknowledge_idle _ k _ _ howed, hseq] at hlink
  have hd := linked_drain_open g n ((hlink.plkGet n _).trans hu) ((hlink.plkGet n _).trans ht)
  obtain ⟨i1, i2, i3, i4⟩ := pumpLink_one (plkRule g n) (show 0 < 256 by decide) k m hqueue (linkUses_plkRule g n _ hv) hm hreplay (by rw [hcredit]; exact hcr)
  rw [hlink.own, i1] at hd
  have hall := hlink.trans hd
  rw [← hg] at hall
  exact ⟨hall.out, by rw [hall.own, i2], by rw [hall.own, i3, htx], by rw [hall.own, i4, hcredit], hall.alone⟩

theorem plkFlit_bad (s : State) (n ftype vc mtype lseq acktype ackseq : Nat) (good : Bool) (credits : List Nat) (hrun : Runs s.dev) (hn : n < 64)
    (hu : plkGet s.dev n PLK_STATUS_UP = 1) (hq : (plkLink s.dev n).queue = []) (hb : good = false ∨ 4 ≤ ftype ∨ (ftype = 1 ∧ vc = 3)) :
    Completes (.plkFlit n good ftype vc mtype lseq acktype ackseq credits) s (fun h =>
      plkLink h n = { plkLink s.dev n with nakSent := true } ∧
        h.out = s.dev.out ++ (if (plkLink s.dev n).nakSent then [] else [.nak (plkWing n) (some (plkInst n)) (plkLink s.dev n).rxNext]) ∧
        h = { s.dev with plk := h.plk, out := h.out }) := by
  have hbad : (good && decide (ftype < 4) && !(ftype == 1 && vc == 3)) = false := by
    obtain rfl | h4 | ⟨rfl, rfl⟩ := hb
    · rfl
    · rw [decide_eq_false (by omega), Bool.and_false, Bool.false_and]
    · simp
  refine completes_plinth (f := fun h n => plkFlit h n good ftype vc mtype lseq acktype ackseq credits)
    (exec_plkFlit n good ftype vc mtype lseq acktype ackseq credits) hn hrun
    (plkFlit_up s.dev n good ftype vc mtype lseq acktype ackseq credits hu (fun h => absurd (hbad.symm.trans h) (by decide))) ?_
  have hres : receiveFlit (plkLink s.dev n) false ⟨ftype, vc, lseq, acktype, ackseq, credits⟩ =
      ⟨{ plkLink s.dev n with nakSent := true }, !(plkLink s.dev n).nakSent, false, [], false⟩ := rfl
  rw [hbad, hres]
  obtain ⟨g, hg, hlink⟩ := plkLinkResult_nak s.dev n ⟨{ plkLink s.dev n with nakSent := true }, !(plkLink s.dev n).nakSent, false, [], false⟩ rfl rfl rfl
  have hall := hlink.trans (linked_drain_idle g n (by rw [hlink.own]; exact hq))
  rw [← hg] at hall
  refine ⟨hall.own.trans hlink.own, hall.out.trans ?_, hall.alone⟩
  cases (plkLink s.dev n).nakSent <;> rfl

/-! ### Replay -/

theorem plkRetrain_reads (h : Head) (n : Nat) : plkGet (plkRetrain h n) n PLK_STATUS_TRAINING = 1 ∧
    plkGet (plkRetrain h n) n PLK_CNT_RETRAIN_COUNT = min (plkGet h n PLK_CNT_RETRAIN_COUNT + 1) (2 ^ 32 - 1) ∧
    Frame [] [(.plk, 0x044), (.plk, 0x064)] h (plkRetrain h n) := by
  refine ⟨bget_bput_same_of_lt _ _ _ _ _ _ _ _ _ (by decide) (by decide) (by decide), ?_, ?_⟩
  · refine ((frame_fset (plkAdd h n PLK_CNT_RETRAIN_COUNT) _ 0 _ PLK_STATUS_TRAINING 1).fget _ PLK_CNT_RETRAIN_COUNT (by decide) (by decide) 0 _).trans ?_
    exact fget_fadd_same _ _ _ _ _ _ (by decide) (by decide)
  · simp +decide only [plkRetrain, plkSet, plkAdd, frame_rules, frame_refl]

theorem plkReplayTimer_on (h : Head) (n : Nat) (hr : (plkLink h n).replay ≠ []) (ht : plkGet h n PLK_STATUS_TRAINING = 0) :
    plkReplayTimer h n = plkLinkResult h n (replayAll (plkLink h n)) := by
  unfold plkReplayTimer plkBit
  rw [ht]
  exact if_neg (by simp [hr])

theorem plkReplayTimer_again (s : State) (n : Nat) (l : LinkState) (hrun : Runs s.dev) (hn : n < 64) (ht : plkGet s.dev n PLK_STATUS_TRAINING = 0)
    (hl : l = plkLink s.dev n) (hr : l.replay ≠ []) (hq : l.queue = []) (h8 : ∀ e ∈ l.replay, e.2 < 8) :
    Completes (.plkReplayTimer n) s (fun h =>
      plkLink h n = { l with replay := l.replay.map (fun e => (e.1, e.2 + 1)) } ∧
        h.out = s.dev.out ++ [.replay (plkWing n) (some (plkInst n)) (l.replay.map (·.1))] ∧
        plkGet h n PLK_CNT_RETRY_COUNT = min (plkGet s.dev n PLK_CNT_RETRY_COUNT + l.replay.length) (2 ^ 32 - 1) ∧
        RegsBut s.dev h [(.plk, 0x060)] ∧ SameButRegs { s.dev with plk := h.plk, out := h.out } h) := by
  have hreplay : replayAll l = ⟨{ l with replay := l.replay.map (fun e => (e.1, e.2 + 1)) }, false, false, l.replay.map (·.1), false⟩ := by
    unfold replayAll
    refine if_neg fun hany => ?_
    obtain ⟨e, he, h8'⟩ := List.any_eq_true.mp hany
    have := h8 e he
    simp at h8'
    omega
  have heq : plkReplayTimer s.dev n = drainPlk (send (fadd (setPlkLink s.dev n { l with replay := l.replay.map (fun e => (e.1, e.2 + 1)) }) (plkWing n)
      PLK_CNT_RETRY_COUNT (l.replay.map (·.1)).length 0 (plkInst n)) (.replay (plkWing n) (some (plkInst n)) (l.replay.map (·.1)))) n := by
    rw [plkReplayTimer_on s.dev n (hl ▸ hr) ht, ← hl, hreplay]
    have hagain (g : Head) : plkAgain g n (l.replay.map (·.1)) = send (fadd g (plkWing n) PLK_CNT_RETRY_COUNT (l.replay.map (·.1)).length 0 (plkInst n))
        (.replay (plkWing n) (some (plkInst n)) (l.replay.map (·.1))) := if_neg (by simp [hr])
    unfold plkLinkResult
    dsimp only
    rw [hagain]
    rfl
  refine completes_plinth (exec_plkReplayTimer n) hn hrun heq ?_
  have hset := linked_set s.dev n { l with replay := l.replay.map (fun e => (e.1, e.2 + 1)) }
  have hcount : plkGet (fadd (setPlkLink s.dev n { l with replay := l.replay.map (fun e => (e.1, e.2 + 1)) }) (plkWing n)
      PLK_CNT_RETRY_COUNT (l.replay.map (·.1)).length 0 (plkInst n)) n PLK_CNT_RETRY_COUNT =
      min (plkGet s.dev n PLK_CNT_RETRY_COUNT + (l.replay.map (·.1)).length) (2 ^ 32 - 1) :=
    (fget_fadd_same _ _ _ _ _ _ (by decide) (by decide)).trans rfl
  have hfr := frame_fadd (setPlkLink s.dev n { l with replay := l.replay.map (fun e => (e.1, e.2 + 1)) }) (plkWing n) 0 (plkInst n) PLK_CNT_RETRY_COUNT
    (l.replay.map (·.1)).length
  have hown : plkLink (fadd (setPlkLink s.dev n { l with replay := l.replay.map (fun e => (e.1, e.2 + 1)) }) (plkWing n) PLK_CNT_RETRY_COUNT
    (l.replay.map (·.1)).length 0 (plkInst n)) n = { l with replay := l.replay.map (fun e => (e.1, e.2 + 1)) } := hset.own
  have hbase : Frame [.plk, .out] [(.plk, 0x060)] s.dev (setPlkLink s.dev n { l with replay := l.replay.map (fun e => (e.1, e.2 + 1)) }) :=
    (frame_mk s.dev (by simp)).2 (frame_refl _ _ s.dev)
  have hout : (fadd (setPlkLink s.dev n { l with replay := l.replay.map (fun e => (e.1, e.2 + 1)) }) (plkWing n)
      PLK_CNT_RETRY_COUNT (l.replay.map (·.1)).length 0 (plkInst n)).out = s.dev.out := rfl
  rw [List.length_map] at *
  have hk := hbase.trans (hfr.mono (by decide) (by decide))
  generalize fadd (setPlkLink s.dev n { l with replay := l.replay.map (fun e => (e.1, e.2 + 1)) }) (plkWing n) PLK_CNT_RETRY_COUNT
    l.replay.length 0 (plkInst n) = k at *
  have hsent := linked_send k n (.replay (plkWing n) (some (plkInst n)) (l.replay.map (·.1)))
  have hall := hsent.trans (linked_drain_idle _ n (by rw [hsent.own, hown]; exact hq))
  have hl' := hall.own.trans (hsent.own.trans hown)
  have hfin : Frame [.plk, .out] [(.plk, 0x060)] s.dev (drainPlk (send k (.replay (plkWing n) (some (plkInst n)) (l.replay.map (·.1)))) n) := by
    rw [hall.head]
    exact (frame_mk k (by simp)).2 hk
  refine ⟨hl', by rw [hall.out, hout]; rfl, (hall.plkGet n _).trans hcount, hfin.2, ?_⟩
  exact (hfin.mono (l := [.plk, .out, .evq]) (by decide) (fun _ h => h)).putPlk.putOut.sameButRegs

theorem plkReplayTimer_retrains (s : State) (n : Nat) (hrun : Runs s.dev) (hn : n < 64) (ht : plkGet s.dev n PLK_STATUS_TRAINING = 0)
    (h8 : ∃ e ∈ (plkLink s.dev n).replay, 8 ≤ e.2) :
    Completes (.plkReplayTimer n) s (fun h =>
      plkGet h n PLK_STATUS_TRAINING = 1 ∧ EventSet h (plkWing n) ⟨.plk, 1⟩ (plkInst n) ∧ h.out = s.dev.out ∧
        plkGet h n PLK_CNT_RETRAIN_COUNT = min (plkGet s.dev n PLK_CNT_RETRAIN_COUNT + 1) (2 ^ 32 - 1) ∧
        RegsBut s.dev h [(.plk, 0x010), (.plk, 0x044), (.plk, 0x064)]) := by
  have hany : (plkLink s.dev n).replay.any (fun e => decide (8 ≤ e.2)) = true := by
    obtain ⟨e, he, h⟩ := h8
    exact List.any_eq_true.mpr ⟨e, he, decide_eq_true h⟩
  have hne : (plkLink s.dev n).replay ≠ [] := by
    obtain ⟨e, he, -⟩ := h8
    exact List.ne_nil_of_mem he
  have hreplay : replayAll (plkLink s.dev n) = ⟨plkLink s.dev n, false, false, [], true⟩ := if_pos hany
  obtain ⟨htr, hcount, hf⟩ := plkRetrain_reads (setPlkLink s.dev n (plkLink s.dev n)) n
  have hset := linked_set s.dev n (plkLink s.dev n)
  have hout : (setPlkLink s.dev n (plkLink s.dev n)).out = s.dev.out := rfl
  have hregs : RegsBut s.dev (setPlkLink s.dev n (plkLink s.dev n)) [] := regsBut_refl _ _
  have heq : plkReplayTimer s.dev n = drainPlk (plkRaise (plkRetrain (setPlkLink s.dev n (plkLink s.dev n)) n) n 1) n := by
    rw [plkReplayTimer_on s.dev n hne ht, hreplay]
    rfl
  rw [hset.plkGet n] at hcount
  generalize setPlkLink s.dev n (plkLink s.dev n) = a at *
  have hr := frame_plkRaise (plkRetrain a n) n 1
  have hev := plkRaise_sets (plkRetrain a n) n 1 (by decide)
  have htr' := (hr.fget _ PLK_STATUS_TRAINING (by decide) (by decide) 0 _).trans htr
  have hcount' := (hr.fget _ PLK_CNT_RETRAIN_COUNT (by decide) (by decide) 0 _).trans hcount
  have hall := (hf.mono (l := [.evq]) (t := [(.plk, 0x010), (.plk, 0x044), (.plk, 0x064)]) (by decide) (by decide)).trans (hr.mono (by decide) (by decide))
  rw [linked_drain_closed _ n (.inr (by rw [show plkGet _ n PLK_STATUS_TRAINING = 1 from htr']; decide))] at heq
  refine completes_plinth (exec_plkReplayTimer n) hn hrun heq ⟨htr', hev, (hall.1 .out (by decide)).trans hout, hcount', ?_⟩
  exact regsBut_trans (regsBut_mono hregs (List.nil_subset _)) hall.2

/-- Settles O43: completions, timeouts and alerts as the link's registers and its operations show them; a flit and the replay timer as a step
of the link's own state. -/
theorem plinthLinksCarryCommands : Obligations.PlinthLinksCarryCommands :=
  ⟨plkCompletion_ends, plkCompletion_discarded, plkTimeout_sent, plkTimeout_leaves, plkTimeout_ends, plkAlert_kept, plkAlert_die, plkFlit_taken,
    plkFlit_credits, plkFlit_bad, plkReplayTimer_again, plkReplayTimer_retrains⟩


end Sys2Proof.Laws
end

section
/-! Plinth links come, go and retrain (R276 to R279, R298, R299, R303, R516), and O42. -/

namespace Sys2Proof.Laws

open Machine Machine.Reg

/-! ### The link's page -/

theorem plkGet_plkSet_same (h : Head) (n : Nat) (f : Fld) (v : Nat) (h1 : f.lo ≤ f.hi) (h2 : f.hi < 32) (hv : v < 2 ^ (f.hi - f.lo + 1)) :
    plkGet (plkSet h n f v) n f = v := bget_bput_same_of_lt _ _ _ _ _ _ _ _ _ h1 h2 hv

theorem frame_plkSet (h : Head) (n : Nat) (f : Fld) (v : Nat) : Frame [] [(f.block, f.off % 4096)] h (plkSet h n f v) := frame_fset h _ 0 _ f v

theorem Frame.plkGet {l : List Part} {t : List (Block × Nat)} {h g : Head} (x : Frame l t h g) (n : Nat) (f : Fld) (hn : (f.block, f.off) ∉ t)
    (ho : f.off < 4096) : plkGet g n f = Machine.plkGet h n f := x.fget _ f hn ho 0 _

theorem Frame.plkLink {l : List Part} {t : List (Block × Nat)} {h g : Head} (x : Frame l t h g) (hl : .plk ∉ l) (n : Nat) :
    plkLink g n = Machine.plkLink h n := by
  unfold Machine.plkLink
  rw [x.1 .plk hl]

theorem plkBit_one {h : Head} {n : Nat} {f : Fld} (hv : plkGet h n f = 1) : plkBit h n f = true := by
  unfold plkBit
  rw [hv]
  rfl

theorem plkBit_zero {h : Head} {n : Nat} {f : Fld} (hv : plkGet h n f = 0) : plkBit h n f = false := by
  unfold plkBit
  rw [hv]
  rfl

theorem plkBit_congr {h g : Head} {n : Nat} {f : Fld} (hv : plkGet g n f = plkGet h n f) : plkBit g n f = plkBit h n f := by
  unfold plkBit
  rw [hv]

/-! ### Arrival -/

theorem plkStart_reads (h : Head) (n : Nat) : Frame [] [(.plk, 0x044)] h (plkStart h n) ∧
    plkGet (plkStart h n) n PLK_STATUS_PRESENT = plkGet h n PLK_STATUS_PRESENT ∧
    plkGet (plkStart h n) n PLK_STATUS_RELEASED = plkGet h n PLK_STATUS_RELEASED ∧
    plkGet (plkStart h n) n PLK_STATUS_UP = plkGet h n PLK_STATUS_UP ∧
    plkGet (plkStart h n) n PLK_STATUS_LANES = plkGet h n PLK_STATUS_LANES ∧
    plkGet (plkStart h n) n PLK_STATUS_TRAINING = (if perstHigh h n && !plkBit h n PLK_STATUS_UP then 1 else plkGet h n PLK_STATUS_TRAINING) := by
  unfold plkStart
  split
  · refine ⟨frame_plkSet h n PLK_STATUS_TRAINING 1, ?_, ?_, ?_, ?_, plkGet_plkSet_same _ _ _ _ (by decide) (by decide) (by decide)⟩ <;>
      · simp only [plkGet, plkSet, fget_eq_bget, fset_regs]
        simp (disch := first | decide | rfl) [PLK_STATUS_TRAINING, PLK_STATUS_PRESENT, PLK_STATUS_RELEASED, PLK_STATUS_UP, PLK_STATUS_LANES]
  · exact ⟨frame_refl _ _ h, rfl, rfl, rfl, rfl, rfl⟩

/-- A plinth shown as present. -/
def presentShown (h : Head) (n : Nat) : Head := plkRaise (plkSet (plkSet h n PLK_STATUS_PRESENT 1) n PLK_STATUS_RELEASED 0) n 0

theorem presentShown_reads (h : Head) (n : Nat) : Frame [.evq] [(.plk, 0x010), (.plk, 0x044)] h (presentShown h n) ∧
    plkGet (presentShown h n) n PLK_STATUS_PRESENT = 1 ∧ plkGet (presentShown h n) n PLK_STATUS_RELEASED = 0 ∧
    plkGet (presentShown h n) n PLK_STATUS_UP = plkGet h n PLK_STATUS_UP ∧ EventSet (presentShown h n) (plkWing n) ⟨.plk, 0⟩ (plkInst n) := by
  have hr := frame_plkRaise (plkSet (plkSet h n PLK_STATUS_PRESENT 1) n PLK_STATUS_RELEASED 0) n 0
  refine ⟨?_, ?_, ?_, ?_, plkRaise_sets _ n 0 (by decide)⟩
  · simp +decide only [presentShown, plkRaise, plkSet, frame_rules, frame_refl]
  all_goals
    refine (hr.plkGet n _ (by decide) (by decide)).trans ?_
    simp only [plkGet, plkSet, fget_eq_bget, fset_regs]
    simp (disch := first | decide | rfl) [PLK_STATUS_PRESENT, PLK_STATUS_RELEASED, PLK_STATUS_UP]

theorem plinthPresent_appears (s : State) (n : Nat) (hrun : Runs s.dev) (hn : n < 64) (hp : plkGet s.dev n PLK_STATUS_PRESENT = 0) :
    Completes (.plinthPresent n) s (fun h =>
      plkGet h n PLK_STATUS_PRESENT = 1 ∧ plkGet h n PLK_STATUS_RELEASED = 0 ∧
        (plkGet s.dev n PLK_CTRL_LINK_EN = 1 → plkGet s.dev n PLK_STATUS_UP = 0 → plkGet h n PLK_STATUS_TRAINING = 1) ∧
        EventSet h (plkWing n) ⟨.plk, 0⟩ (plkInst n) ∧ RegsBut s.dev h [(.plk, 0x010), (.plk, 0x044)] ∧ SameButRegs s.dev h) := by
  have heq : plinthPresent s.dev n = plkStart (presentShown s.dev n) n := if_neg (by rw [plkBit_zero hp]; decide)
  obtain ⟨hf, h1, h0, hup, hev⟩ := presentShown_reads s.dev n
  have hle := hf.plkGet n PLK_CTRL_LINK_EN (by decide) (by decide)
  generalize presentShown s.dev n = a at *
  obtain ⟨ha, k1, k0, -, -, ktr⟩ := plkStart_reads a n
  have hall := hf.trans (ha.mono (by decide) (by decide))
  refine completes_plinth (exec_plinthPresent n) hn hrun heq ⟨k1.trans h1, k0.trans h0, fun hl hu => ?_, (ha.eventSet _ ⟨.plk, 0⟩ (by decide) _).2 hev,
    hall.2, hall.sameButRegs⟩
  rw [ktr, if_pos]
  rw [plkBit_zero (hup.trans hu), perstHigh, plkBit_one (hle.trans hl), plkBit_one h1, plkBit_zero h0]
  rfl

/-! ### A trained link -/

/-- What a trained link says of itself. -/
def linkShown (h : Head) (n lanes delay port : Nat) : Head :=
  plkSet (plkSet (plkSet (plkSet (plkSet h n PLK_STATUS_DELAY_NS delay) n PLK_STATUS_LANES lanes) n PLK_STATUS_BRIDGE_PORT port) n PLK_STATUS_TRAINING 0)
    n PLK_STATUS_UP 1

/-- The change of a link told. -/
def changeTold (h : Head) (n : Nat) (changed : Bool) : Head := if changed then plkRaise h n 0 else h

/-- The bridge granted its credits by a link that has come up. -/
def creditsGranted (h : Head) (n : Nat) (fresh : Bool) : Head :=
  if fresh then
    send (setPlkLink h n (grant (plkLink h n) (plkWing n) (some (plkInst n))).1) (grant (plkLink h n) (plkWing n) (some (plkInst n))).2
  else h

/-- What the bridge learns of the head at training. -/
def portLearned (h : Head) (n delay port : Nat) : Head :=
  updBridge h n (fun b =>
    if port = 0 then { b with node0 := some (fget h .east MFT_NODE_NODE_ID), delay0 := some delay }
    else { b with node1 := some (fget h .east MFT_NODE_NODE_ID), delay1 := some delay })

/-- A plinth not yet admitted asked for its identity. -/
def identityAsked (h : Head) (n : Nat) : Head :=
  if plkBit h n PLK_STATUS_ADMITTED then h
  else foldHead h [0, 4, 8] (fun h a => plkMgmt h n { emptyCmd 0x0C true with addr := a } (.identity a))

theorem plkTrained_eq (h : Head) (n lanes delay port expected : Nat) (hen : plkGet h n PLK_CTRL_LINK_EN = 1) (hp : plkGet h n PLK_STATUS_PRESENT = 1)
    (ht : plkGet h n PLK_STATUS_TRAINING = 1) (hl : lanes = 2 ∨ (lanes = 1 ∧ plkGet h n PLK_CTRL_HALF_WIDTH_OK = 1))
    (ha : ((plkLink h n).trained expected).2 = []) : plkTrained h n lanes delay port expected =
      identityAsked (portLearned (drainPlk (creditsGranted (changeTold (linkShown (setPlkLink h n ((plkLink h n).trained expected).1) n lanes delay port) n
        (!plkBit h n PLK_STATUS_UP || plkGet h n PLK_STATUS_LANES != lanes)) n (!plkBit h n PLK_STATUS_UP)) n) n delay port) n := by
  have hlanes : (lanes == 2 || (lanes == 1 && plkBit h n PLK_CTRL_HALF_WIDTH_OK)) = true := by
    obtain rfl | ⟨rfl, hw⟩ := hl
    · rfl
    · rw [plkBit_one hw]
      rfl
  unfold plkTrained
  rw [plkBit_one hen, plkBit_one hp, plkBit_one ht, hlanes, if_neg (by decide)]
  dsimp only
  rw [ha]
  rfl

theorem linkShown_reads (h : Head) (n lanes delay port : Nat) (hl : lanes < 4) (hd : delay < 65536) (hp : port < 2) :
    Frame [] [(.plk, 0x044)] h (linkShown h n lanes delay port) ∧
      plkGet (linkShown h n lanes delay port) n PLK_STATUS_UP = 1 ∧ plkGet (linkShown h n lanes delay port) n PLK_STATUS_TRAINING = 0 ∧
      plkGet (linkShown h n lanes delay port) n PLK_STATUS_LANES = lanes ∧ plkGet (linkShown h n lanes delay port) n PLK_STATUS_DELAY_NS = delay ∧
      plkGet (linkShown h n lanes delay port) n PLK_STATUS_BRIDGE_PORT = port ∧
      plkGet (linkShown h n lanes delay port) n PLK_STATUS_ADMITTED = plkGet h n PLK_STATUS_ADMITTED := by
  refine ⟨by simp +decide only [linkShown, plkSet, frame_rules, frame_refl], ?_⟩
  simp only [linkShown, plkGet, plkSet, fget_eq_bget, fset_regs]
  simp (disch := first | decide | rfl) [PLK_STATUS_UP, PLK_STATUS_TRAINING, PLK_STATUS_LANES, PLK_STATUS_DELAY_NS, PLK_STATUS_BRIDGE_PORT, PLK_STATUS_ADMITTED]
  omega

theorem frame_changeTold (h : Head) (n : Nat) (changed : Bool) : Frame [.evq] [(.plk, 0x010)] h (changeTold h n changed) := by
  unfold changeTold
  split
  · exact frame_plkRaise h n 0
  · exact frame_refl _ _ h

theorem linked_creditsGranted (h : Head) (n : Nat) (fresh : Bool) : Linked h (creditsGranted h n fresh) n
    (if fresh then (plkLink h n).flitSent else plkLink h n)
    (if fresh then [.credit (plkWing n) (some (plkInst n)) (plkLink h n).txNext (((plkLink h n).rxNext + 1023) % 1024) ((List.range 4).map Config.linkBuffers)]
      else []) := by
  unfold creditsGranted
  cases fresh with
  | false => exact linked_refl h n
  | true =>
    have hset := linked_set h n (plkLink h n).flitSent
    have hs := linked_send (setPlkLink h n (plkLink h n).flitSent) n (grant (plkLink h n) (plkWing n) (some (plkInst n))).2
    rw [hset.own] at hs
    exact hset.trans hs

theorem bridge_updBridge_same (h : Head) (n : Nat) (f : Bridge → Bridge) : bridge (updBridge h n f) n = f (bridge h n) :=
  congrArg (·.getD blankBridge) (tabGet?_tabPut_same ..)

theorem bridge_updBridge_other (h : Head) {n m : Nat} (f : Bridge → Bridge) (hm : m ≠ n) : bridge (updBridge h n f) m = bridge h m :=
  congrArg (·.getD blankBridge) (tabGet?_tabPut_other _ _ hm)

theorem frame_updBridge (h : Head) (n : Nat) (f : Bridge → Bridge) : Frame [.bridges] [] h (updBridge h n f) :=
  (frame_mk h (by simp)).2 (frame_refl _ _ h)

theorem frame_portLearned (h : Head) (n delay port : Nat) : Frame [.bridges] [] h (portLearned h n delay port) := frame_updBridge h n _

theorem portLearned_node (h : Head) (n delay port : Nat) :
    (if port = 0 then (bridge (portLearned h n delay port) n).node0 else (bridge (portLearned h n delay port) n).node1) =
      some (fget h .east MFT_NODE_NODE_ID) := by
  unfold portLearned
  rw [bridge_updBridge_same]
  split <;> rfl

/-- A link that a training has brought up, with nothing waiting: what it sent, what it is, and what else the training changed. -/
def linkUp (h : Head) (n lanes delay port expected : Nat) : Head :=
  portLearned (drainPlk (creditsGranted (changeTold (linkShown (setPlkLink h n ((plkLink h n).trained expected).1) n lanes delay port) n
    (!plkBit h n PLK_STATUS_UP || plkGet h n PLK_STATUS_LANES != lanes)) n (!plkBit h n PLK_STATUS_UP)) n) n delay port

theorem trained_idle (l : LinkState) (expected : Nat) (hr : l.replay = []) :
    l.trained expected = ({ l with replay := [], txNext := expected % 1024, nakSent := false }, []) := by
  unfold LinkState.trained
  rw [hr]
  rfl

/-- The link state of a training that finds nothing sent and nothing waiting. -/
def trainedLink (l : LinkState) (expected : Nat) (fresh : Bool) : LinkState :=
  if fresh then (l.trained expected).1.flitSent else (l.trained expected).1

theorem linkUp_reads (h : Head) (n lanes delay port expected : Nat) (hl : lanes < 4) (hd : delay < 65536) (hp : port < 2) (l : LinkState)
    (hlink : l = plkLink h n) (hr : l.replay = []) (hq : l.queue = []) :
    Frame [.plk, .out, .bridges, .evq] [(.plk, 0x010), (.plk, 0x044)] h (linkUp h n lanes delay port expected) ∧
      plkLink (linkUp h n lanes delay port expected) n = trainedLink l expected (!plkBit h n PLK_STATUS_UP) ∧
      (linkUp h n lanes delay port expected).out = h.out ++ (if !plkBit h n PLK_STATUS_UP then
        [.credit (plkWing n) (some (plkInst n)) (expected % 1024) ((l.rxNext + 1023) % 1024) ((List.range 4).map Config.linkBuffers)] else []) ∧
      (linkUp h n lanes delay port expected).plk.ops = h.plk.ops ∧ (linkUp h n lanes delay port expected).plk.gens = h.plk.gens ∧
      plkGet (linkUp h n lanes delay port expected) n PLK_STATUS_UP = 1 ∧ plkGet (linkUp h n lanes delay port expected) n PLK_STATUS_TRAINING = 0 ∧
      plkGet (linkUp h n lanes delay port expected) n PLK_STATUS_LANES = lanes ∧
      plkGet (linkUp h n lanes delay port expected) n PLK_STATUS_DELAY_NS = delay ∧
      plkGet (linkUp h n lanes delay port expected) n PLK_STATUS_BRIDGE_PORT = port ∧
      plkGet (linkUp h n lanes delay port expected) n PLK_STATUS_ADMITTED = plkGet h n PLK_STATUS_ADMITTED ∧
      (if port = 0 then (bridge (linkUp h n lanes delay port expected) n).node0 else (bridge (linkUp h n lanes delay port expected) n).node1) =
        some (fget h .east MFT_NODE_NODE_ID) := by
  have htr := trained_idle l expected hr
  have hset := linked_set h n (l.trained expected).1
  have hsetF : Frame [.plk] [] h (setPlkLink h n (l.trained expected).1) := (frame_mk h (by simp)).2 (frame_refl _ _ h)
  unfold linkUp trainedLink
  rw [← hlink]
  generalize hfresh : (!plkBit h n PLK_STATUS_UP) = fresh at *
  generalize (fresh || plkGet h n PLK_STATUS_LANES != lanes) = changed
  have hout : (setPlkLink h n (l.trained expected).1).out = h.out := rfl
  have hgens : (setPlkLink h n (l.trained expected).1).plk.gens = h.plk.gens := rfl
  have hops : (setPlkLink h n (l.trained expected).1).plk.ops = h.plk.ops := rfl
  have hown := hset.own
  generalize setPlkLink h n (l.trained expected).1 = a at *
  obtain ⟨hs, r1, r2, r3, r4, r5, r6⟩ := linkShown_reads a n lanes delay port hl hd hp
  have hc := frame_changeTold (linkShown a n lanes delay port) n changed
  have hb : Frame [.evq] [(.plk, 0x010), (.plk, 0x044)] a (changeTold (linkShown a n lanes delay port) n changed) :=
    (hs.mono (by decide) (by decide)).trans (hc.mono (by decide) (by decide))
  have hget (f : Fld) (hf : f ∈ [PLK_STATUS_UP, PLK_STATUS_TRAINING, PLK_STATUS_LANES, PLK_STATUS_DELAY_NS, PLK_STATUS_BRIDGE_PORT, PLK_STATUS_ADMITTED]) :
      plkGet (changeTold (linkShown a n lanes delay port) n changed) n f = plkGet (linkShown a n lanes delay port) n f := by
    have hall : ∀ f ∈ [PLK_STATUS_UP, PLK_STATUS_TRAINING, PLK_STATUS_LANES, PLK_STATUS_DELAY_NS, PLK_STATUS_BRIDGE_PORT, PLK_STATUS_ADMITTED],
      (f.block, f.off) ∉ [(Block.plk, 0x010)] ∧ f.off < 4096 := by decide
    exact hc.plkGet n f (hall f hf).1 (hall f hf).2
  have hblink := hb.plkLink (by decide) n
  have hg1 := (hget _ (by decide)).trans r1
  have hg2 := (hget _ (by decide)).trans r2
  have hg3 := (hget _ (by decide)).trans r3
  have hg4 := (hget _ (by decide)).trans r4
  have hg5 := (hget _ (by decide)).trans r5
  have hg6 := (hget _ (by decide)).trans r6
  generalize changeTold (linkShown a n lanes delay port) n changed = b at *
  have hgr := linked_creditsGranted b n fresh
  rw [hblink, hown] at hgr
  have hqueue : (if fresh then (l.trained expected).1.flitSent else (l.trained expected).1).queue = [] := by
    rw [htr]
    cases fresh <;> exact hq
  have hall := hgr.trans (linked_drain_idle _ n (by rw [hgr.own]; exact hqueue))
  rw [hgr.own, List.append_nil] at hall
  generalize drainPlk (creditsGranted b n fresh) n = k at *
  have hk : Frame [.plk, .out] [] b k := by
    rw [hall.head]
    exact (frame_mk b (by simp)).2 (frame_refl _ _ b)
  have hpl := frame_portLearned k n delay port
  have hgetk (f : Fld) (ho : f.off < 4096) : plkGet (portLearned k n delay port) n f = plkGet b n f :=
    (hpl.plkGet n f List.not_mem_nil ho).trans (hall.plkGet n f)
  refine ⟨?_, (hpl.plkLink (by decide) n).trans hall.own, ?_, ?_, ?_, (hgetk _ (by decide)).trans hg1, (hgetk _ (by decide)).trans hg2,
    (hgetk _ (by decide)).trans hg3, (hgetk _ (by decide)).trans hg4, (hgetk _ (by decide)).trans hg5, ?_, ?_⟩
  · exact (((hsetF.mono (by decide) (by decide)).trans (hb.mono (by decide) (fun _ h => h))).trans (hk.mono (by decide) (by decide))).trans
      (hpl.mono (by decide) (by decide))
  · rw [hpl.1 .out (by decide), hall.out, hb.1 .out (by decide), hout, htr]
  · rw [hpl.1 .plk (by decide), hall.ops, hb.1 .plk (by decide), hops]
  · have hkg : k.plk.gens = b.plk.gens := by rw [hall.head]
    rw [hpl.1 .plk (by decide), hkg, hb.1 .plk (by decide), hgens]
  · exact ((hgetk _ (by decide)).trans hg6).trans (hsetF.plkGet n _ List.not_mem_nil (by decide))
  · rw [portLearned_node, hk.fget .east MFT_NODE_NODE_ID List.not_mem_nil (by decide), hb.fget .east MFT_NODE_NODE_ID (by decide) (by decide),
      hsetF.fget .east MFT_NODE_NODE_ID List.not_mem_nil (by decide)]

theorem plkTrained_admitted (s : State) (n lanes delay port expected : Nat) (l : LinkState) (hrun : Runs s.dev) (hn : n < 64)
    (hen : plkGet s.dev n PLK_CTRL_LINK_EN = 1) (hpr : plkGet s.dev n PLK_STATUS_PRESENT = 1) (ht : plkGet s.dev n PLK_STATUS_TRAINING = 1)
    (hlanes : lanes = 2 ∨ (lanes = 1 ∧ plkGet s.dev n PLK_CTRL_HALF_WIDTH_OK = 1)) (hd : delay < 65536) (hp : port < 2)
    (had : plkGet s.dev n PLK_STATUS_ADMITTED = 1) (hl : l = plkLink s.dev n) (hr : l.replay = []) (hq : l.queue = []) :
    Completes (.plkTrained n lanes delay port expected) s (fun h =>
      plkGet h n PLK_STATUS_UP = 1 ∧ plkGet h n PLK_STATUS_TRAINING = 0 ∧ plkGet h n PLK_STATUS_LANES = lanes ∧
        plkGet h n PLK_STATUS_DELAY_NS = delay ∧ plkGet h n PLK_STATUS_BRIDGE_PORT = port ∧
        (if port = 0 then (bridge h n).node0 else (bridge h n).node1) = some (fget s.dev .east MFT_NODE_NODE_ID) ∧
        h.out = s.dev.out ++ (if plkGet s.dev n PLK_STATUS_UP = 0 then
          [.credit (plkWing n) (some (plkInst n)) (expected % 1024) ((l.rxNext + 1023) % 1024) ((List.range 4).map Config.linkBuffers)]
          else []) ∧ h.plk.ops = s.dev.plk.ops ∧ h.mem = s.dev.mem ∧ h.cur = s.dev.cur) := by
  obtain ⟨hf, -, hout, hops, -, r1, r2, r3, r4, r5, r6, hnode⟩ :=
    linkUp_reads s.dev n lanes delay port expected (by omega) hd hp l hl hr hq
  have heq : plkTrained s.dev n lanes delay port expected = linkUp s.dev n lanes delay port expected := by
    rw [plkTrained_eq s.dev n lanes delay port expected hen hpr ht hlanes (by rw [← hl, trained_idle l expected hr])]
    exact if_pos (plkBit_one (r6.trans had))
  refine completes_plinth (f := fun h n => plkTrained h n lanes delay port expected) (exec_plkTrained n lanes delay port expected) hn hrun heq
    ⟨r1, r2, r3, r4, r5, hnode, ?_, hops, hf.1 .mem (by decide), hf.1 .cur (by decide)⟩
  rw [hout]
  have hlt : plkGet s.dev n PLK_STATUS_UP < 2 := bget_lt ..
  obtain h0 | h1 : plkGet s.dev n PLK_STATUS_UP = 0 ∨ plkGet s.dev n PLK_STATUS_UP = 1 := by omega
  · rw [plkBit_zero h0, if_pos h0]
    rfl
  · rw [plkBit_one h1, h1]
    rfl

/-! ### The identity asked for -/

/-- A link with no credit sends nothing. -/
theorem pumpLink_poor (r : LinkRule) (fuel : Nat) (l : LinkState) (hc : ∀ v, l.credits.getD v 0 = 0) : pumpLink r fuel l = (l, []) := by
  have hready (v : Nat) : l.channelReady v = false := by
    unfold LinkState.channelReady
    rw [hc v]
    exact Bool.and_false _
  have hnone : nextChannel r l = none := by
    have hfind : r.strict.find? l.channelReady = none := List.find?_eq_none.mpr (by simp [hready])
    unfold nextChannel
    rw [hfind, hready, hready]
  cases fuel with
  | zero => rfl
  | succ fuel =>
    unfold pumpLink
    rw [hnone]
    exact ite_self _

theorem zeros_getD (v : Nat) : ([0, 0, 0, 0] : List Nat).getD v 0 = 0 := by
  match v with
  | 0 | 1 | 2 | 3 => rfl
  | v + 4 => rfl

/-- A management command that an up link without credits takes: it waits under the slot's next GEN. -/
structure Asked (h g : Head) (n k : Nat) (c : PlkCmd) (p : Purpose) : Prop where
  frame : Frame [.plk, .foy, .evq] [(.dsp, 0x048), (.foq, 0x010), (.foq, 0x044), (.mft, 0x010), (.plk, 0x050)] h g
  ops : g.plk.ops = h.plk.ops ++ [⟨n, c, .host, false, p, 0⟩]
  link : plkLink g n = (plkLink h n).push ⟨plkVc c, plkFlits c, .plk n c⟩
  gens : ∀ j, j ≠ slotKey n true k → tabGet g.plk.gens 0 j = tabGet h.plk.gens 0 j

/-- A management command with its slot and the slot's next GEN. -/
def slotted (h : Head) (n k : Nat) (c : PlkCmd) : PlkCmd := { c with slot := k, gen := (tabGet h.plk.gens 0 (slotKey n true k) + 1) % 256 }

/-- A management command among those outstanding. -/
def opQueued (h : Head) (n k : Nat) (c : PlkCmd) (p : Purpose) : Head :=
  { h with plk := { h.plk with ops := h.plk.ops ++ [⟨n, c, .host, false, p, 0⟩], gens := tabPut h.plk.gens (slotKey n true k) c.gen } }

theorem plkMgmt_free (h : Head) (n k : Nat) (c : PlkCmd) (p : Purpose) (hu : plkGet h n PLK_STATUS_UP = 1) (hm : c.mgmt = true)
    (hf : freeSlot h n true = some k) :
    plkMgmt h n c p = syncPlk (plkPut (opQueued h n k (slotted h n k c) p) n (slotted h n k c)) n := by
  obtain ⟨⟩ := c
  subst hm
  unfold plkMgmt
  rw [plkBit_one hu, if_pos rfl]
  unfold plkSend
  simp only [hf, Option.getD_some, slotted, opQueued]

theorem plkMgmt_asks (h : Head) (n k : Nat) (c : PlkCmd) (p : Purpose) (hu : plkGet h n PLK_STATUS_UP = 1) (hm : c.mgmt = true)
    (hf : freeSlot h n true = some k) (hc : (plkLink h n).credits = [0, 0, 0, 0]) :
    Asked h (plkMgmt h n c p) n k (slotted h n k c) p := by
  rw [plkMgmt_free h n k c p hu hm hf]
  generalize slotted h n k c = c'
  have hbase : Frame [.plk] [] h (opQueued h n k c' p) := (frame_mk h (by simp)).2 (frame_refl _ _ h)
  have hgens (j : Nat) (hj : j ≠ slotKey n true k) : tabGet (opQueued h n k c' p).plk.gens 0 j = tabGet h.plk.gens 0 j :=
    congrArg (·.getD 0) (tabGet?_tabPut_other _ _ hj)
  have hlb : plkLink (opQueued h n k c' p) n = plkLink h n := rfl
  have hob : (opQueued h n k c' p).plk.ops = h.plk.ops ++ [⟨n, c', .host, false, p, 0⟩] := rfl
  generalize opQueued h n k c' p = b at *
  have hput : Linked b (plkPut b n c') n ((plkLink b n).push ⟨plkVc c', plkFlits c', .plk n c'⟩) [] := by
    have hset := linked_set b n ((plkLink b n).push ⟨plkVc c', plkFlits c', .plk n c'⟩)
    unfold plkPut
    by_cases ho : plkGet (setPlkLink b n ((plkLink b n).push ⟨plkVc c', plkFlits c', .plk n c'⟩)) n PLK_STATUS_UP = 1 ∧
        plkGet (setPlkLink b n ((plkLink b n).push ⟨plkVc c', plkFlits c', .plk n c'⟩)) n PLK_STATUS_TRAINING = 0
    · have hd := linked_drain_open _ n ho.1 ho.2
      have hpoor (v : Nat) : ((plkLink b n).push ⟨plkVc c', plkFlits c', .plk n c'⟩).credits.getD v 0 = 0 := by
        show (plkLink b n).credits.getD v 0 = 0
        rw [hlb, hc]
        exact zeros_getD v
      rw [hset.own, drainLink, pumpLink_poor _ _ _ hpoor] at hd
      exact hset.trans hd
    · have hlt : plkGet (setPlkLink b n ((plkLink b n).push ⟨plkVc c', plkFlits c', .plk n c'⟩)) n PLK_STATUS_UP < 2 := bget_lt ..
      rw [linked_drain_closed _ n (by omega)]
      exact hset
  have hpf : Frame [.plk] [] b (plkPut b n c') := by
    rw [hput.head, List.append_nil]
    exact (frame_mk b (by simp)).2 (frame_refl _ _ b)
  have hpg : (plkPut b n c').plk.gens = b.plk.gens := by rw [hput.head]
  have hs := frame_syncPlk (plkPut b n c') n
  refine ⟨?_, ?_, ?_, fun j hj => ?_⟩
  · exact ((hbase.mono (by decide) (by decide)).trans (hpf.mono (by decide) (by decide))).trans (hs.mono (by decide) (fun _ h => h))
  · rw [hs.1 .plk (by decide), hput.ops, hob]
  · rw [hs.plkLink (by decide), hput.own, hlb]
  · rw [hs.1 .plk (by decide), hpg, hgens j hj]

theorem Asked.slots {h g : Head} {n k : Nat} {c : PlkCmd} {p : Purpose} (x : Asked h g n k c p) (hm : c.mgmt = true) :
    slotsUsed g n true = slotsUsed h n true ++ [c.slot] := by
  unfold slotsUsed
  rw [x.ops, List.filter_append, List.map_append]
  simp [hm]

theorem Asked.credits {h g : Head} {n k : Nat} {c : PlkCmd} {p : Purpose} (x : Asked h g n k c p) : (plkLink g n).credits = (plkLink h n).credits := by
  rw [x.link]
  rfl

theorem freeSlot_after (h : Head) (n k : Nat) (hk : k < 3) (hs : slotsUsed h n true = List.range k) : freeSlot h n true = some k := by
  unfold freeSlot
  rw [hs]
  obtain rfl | rfl | rfl : k = 0 ∨ k = 1 ∨ k = 2 := by omega
  all_goals rfl

theorem slotKey_inj (n j k : Nat) (hjk : j ≠ k) : slotKey n true j ≠ slotKey n true k := by
  unfold slotKey
  omega

/-- The three reads of a plinth's identity. -/
theorem identityAsked_asks (h : Head) (n : Nat) (c : Nat → Nat → PlkCmd) (had : plkGet h n PLK_STATUS_ADMITTED = 0)
    (hu : plkGet h n PLK_STATUS_UP = 1) (hs : slotsUsed h n true = []) (hc : (plkLink h n).credits = [0, 0, 0, 0]) (hq : (plkLink h n).queue = [])
    (hcmd : ∀ k a, c k a = { emptyCmd 0x0C true with
      addr := a, slot := k, gen := (tabGet h.plk.gens 0 (slotKey n true k) + 1) % 256 }) :
    Frame [.plk, .foy, .evq] [(.dsp, 0x048), (.foq, 0x010), (.foq, 0x044), (.mft, 0x010), (.plk, 0x050)] h (identityAsked h n) ∧
      (identityAsked h n).plk.ops = h.plk.ops ++ [⟨n, c 0 0, .host, false, .identity 0, 0⟩, ⟨n, c 1 4, .host, false, .identity 4, 0⟩,
          ⟨n, c 2 8, .host, false, .identity 8, 0⟩] ∧
      (plkLink (identityAsked h n) n).queue = [⟨0, 1, .plk n (c 0 0)⟩, ⟨0, 1, .plk n (c 1 4)⟩, ⟨0, 1, .plk n (c 2 8)⟩] := by
  have heq : identityAsked h n = plkMgmt (plkMgmt (plkMgmt h n { emptyCmd 0x0C true with addr := 0 } (.identity 0)) n
      { emptyCmd 0x0C true with addr := 4 } (.identity 4)) n { emptyCmd 0x0C true with addr := 8 } (.identity 8) :=
    if_neg (by rw [plkBit_zero had]; decide)
  rw [heq]
  have hflits (k a : Nat) : plkFlits (c k a) = 1 := by simp [hcmd, plkFlits, emptyCmd]
  have hvc (k a : Nat) : plkVc (c k a) = 0 := by rw [hcmd]; rfl
  have hslot (k a : Nat) : (c k a).slot = k := by rw [hcmd]
  have hmg (k a : Nat) : (c k a).mgmt = true := by rw [hcmd]; rfl
  have x0 := plkMgmt_asks h n 0 { emptyCmd 0x0C true with addr := 0 } (.identity 0) hu rfl (freeSlot_after h n 0 (by decide) hs) hc
  rw [show slotted h n 0 { emptyCmd 0x0C true with addr := 0 } = c 0 0 from (hcmd 0 0).symm] at x0
  generalize plkMgmt h n { emptyCmd 0x0C true with addr := 0 } (.identity 0) = a at *
  have sa : slotsUsed a n true = [0] := by rw [x0.slots (hmg 0 0), hs, hslot]; rfl
  have x1 := plkMgmt_asks a n 1 { emptyCmd 0x0C true with addr := 4 } (.identity 4) ((x0.frame.plkGet n _ (by decide) (by decide)).trans hu) rfl
    (freeSlot_after a n 1 (by decide) sa) (x0.credits.trans hc)
  have hgen1 : slotted a n 1 { emptyCmd 0x0C true with addr := 4 } = { emptyCmd 0x0C true with
      addr := 4, slot := 1, gen := (tabGet h.plk.gens 0 (slotKey n true 1) + 1) % 256 } := by
    unfold slotted
    rw [x0.gens _ (slotKey_inj n 1 0 (by decide))]
  rw [show slotted a n 1 { emptyCmd 0x0C true with addr := 4 } = c 1 4 from hgen1.trans (hcmd 1 4).symm] at x1
  generalize plkMgmt a n { emptyCmd 0x0C true with addr := 4 } (.identity 4) = b at *
  have sb : slotsUsed b n true = [0, 1] := by rw [x1.slots (hmg 1 4), sa, hslot]; rfl
  have x2 := plkMgmt_asks b n 2 { emptyCmd 0x0C true with addr := 8 } (.identity 8)
    ((x1.frame.plkGet n _ (by decide) (by decide)).trans ((x0.frame.plkGet n _ (by decide) (by decide)).trans hu)) rfl
    (freeSlot_after b n 2 (by decide) sb) (x1.credits.trans (x0.credits.trans hc))
  have hgen2 : slotted b n 2 { emptyCmd 0x0C true with addr := 8 } = { emptyCmd 0x0C true with
      addr := 8, slot := 2, gen := (tabGet h.plk.gens 0 (slotKey n true 2) + 1) % 256 } := by
    unfold slotted
    rw [x1.gens _ (slotKey_inj n 2 1 (by decide)), x0.gens _ (slotKey_inj n 2 0 (by decide))]
  rw [show slotted b n 2 { emptyCmd 0x0C true with addr := 8 } = c 2 8 from hgen2.trans (hcmd 2 8).symm] at x2
  refine ⟨(x0.frame.trans x1.frame).trans x2.frame, ?_, ?_⟩
  · rw [x2.ops, x1.ops, x0.ops, List.append_assoc, List.append_assoc]
    rfl
  · rw [x2.link, x1.link, x0.link]
    simp only [LinkState.push, hq, hflits, hvc]
    rfl

theorem plkTrained_asks (s : State) (n delay port expected : Nat) (l : LinkState) (c : Nat → Nat → PlkCmd) (hrun : Runs s.dev) (hn : n < 64)
    (hen : plkGet s.dev n PLK_CTRL_LINK_EN = 1) (hpr : plkGet s.dev n PLK_STATUS_PRESENT = 1) (ht : plkGet s.dev n PLK_STATUS_TRAINING = 1)
    (hd : delay < 65536) (hp : port < 2) (had : plkGet s.dev n PLK_STATUS_ADMITTED = 0) (hs : slotsUsed s.dev n true = []) (hl : l = plkLink s.dev n)
    (hr : l.replay = []) (hq : l.queue = []) (hc : l.credits = [0, 0, 0, 0]) (hu : plkGet s.dev n PLK_STATUS_UP = 0)
    (hcmd : ∀ k a, c k a = { emptyCmd 0x0C true with
      addr := a, slot := k, gen := (tabGet s.dev.plk.gens 0 (slotKey n true k) + 1) % 256 }) :
    Completes (.plkTrained n 2 delay port expected) s (fun h =>
      plkGet h n PLK_STATUS_UP = 1 ∧ (plkLink h n).queue = [⟨0, 1, .plk n (c 0 0)⟩, ⟨0, 1, .plk n (c 1 4)⟩, ⟨0, 1, .plk n (c 2 8)⟩] ∧
        h.out = s.dev.out ++
          [.credit (plkWing n) (some (plkInst n)) (expected % 1024) ((l.rxNext + 1023) % 1024) ((List.range 4).map Config.linkBuffers)] ∧
        h.plk.ops = s.dev.plk.ops ++ [⟨n, c 0 0, .host, false, .identity 0, 0⟩, ⟨n, c 1 4, .host, false, .identity 4, 0⟩,
          ⟨n, c 2 8, .host, false, .identity 8, 0⟩] ∧ h.mem = s.dev.mem ∧ h.cur = s.dev.cur) := by
  obtain ⟨hf, hlink, hout, hops, hgens, r1, -, -, -, -, r6, -⟩ := linkUp_reads s.dev n 2 delay port expected (by decide) hd hp l hl hr hq
  have heq : plkTrained s.dev n 2 delay port expected = identityAsked (linkUp s.dev n 2 delay port expected) n :=
    plkTrained_eq s.dev n 2 delay port expected hen hpr ht (.inl rfl) (by rw [← hl, trained_idle l expected hr])
  rw [plkBit_zero hu] at hlink hout
  have hsl : slotsUsed (linkUp s.dev n 2 delay port expected) n true = [] := by
    unfold slotsUsed
    rw [hops]
    exact hs
  have htl : (trainedLink l expected true).queue = [] ∧ (trainedLink l expected true).credits = [0, 0, 0, 0] := ⟨hq, hc⟩
  rw [← hgens] at hcmd
  generalize linkUp s.dev n 2 delay port expected = a at *
  obtain ⟨ha, hao, haq⟩ := identityAsked_asks a n c (r6.trans had) r1 hsl (by rw [hlink]; exact htl.2) (by rw [hlink]; exact htl.1) hcmd
  refine completes_plinth (f := fun h n => plkTrained h n 2 delay port expected) (exec_plkTrained n 2 delay port expected) hn hrun heq
    ⟨(ha.plkGet n _ (by decide) (by decide)).trans r1, haq, ?_, ?_, (ha.1 .mem (by decide)).trans (hf.1 .mem (by decide)),
      (ha.1 .cur (by decide)).trans (hf.1 .cur (by decide))⟩
  · rw [ha.1 .out (by decide), hout]
    rfl
  · rw [hao, hops]

/-! ### Release and removal -/

theorem plkCtrl_ok (s : State) (ini : Initiator) (n : Nat) (f : Head → Nat → Head)
    (hw : Writable s.dev ini (pg .plk (plkWing n) (plkInst n)) 0x040) : plkCtrlCmd s.dev ini n f = f (reply s.dev false) n :=
  withWrite_ok s.dev ini _ _ _ hw

theorem regsBut_reply (h g : Head) (e : Bool) (t : List (Block × Nat)) (x : RegsBut (reply h e) g t) : RegsBut h g t := x

theorem plkRelease_fences (s : State) (ini : Initiator) (n : Nat) (hrun : Runs s.dev) (hn : n < 64)
    (hw : Writable s.dev ini (pg .plk (plkWing n) (plkInst n)) 0x040) :
    Completes (.plkRelease ini n) s (fun h =>
      plkGet h n PLK_CTRL_RELEASE = 1 ∧ plkTakesDie h n = false ∧ RegsBut s.dev h [(.plk, 0x040)] ∧
        SameButRegs (reply s.dev false) h) := by
  have hf := frame_plkSet (reply s.dev false) n PLK_CTRL_RELEASE 1
  have h1 : plkGet (plkReleaseEffect (reply s.dev false) n) n PLK_CTRL_RELEASE = 1 := plkGet_plkSet_same _ _ _ _ (by decide) (by decide) (by decide)
  refine completes_plinth (f := fun h n => plkCtrlCmd h ini n plkReleaseEffect) (exec_plkRelease ini n) hn hrun (plkCtrl_ok s ini n _ hw)
    ⟨h1, ?_, hf.2, (hf.mono (l := [.evq]) (by decide) (fun _ h => h)).sameButRegs⟩
  unfold plkTakesDie
  rw [plkBit_one h1]
  simp

/-- What a bridge keeps of a port that has gone down. -/
def portQuiet (h : Head) (n : Nat) : Head := updBridge h n (fun b => dropQueued b (plkGet h n PLK_STATUS_BRIDGE_PORT) (fun _ => true))

/-- A link shown as down. -/
def downShown (h : Head) (n : Nat) : Head := plkSet (plkSet (plkSet h n PLK_STATUS_UP 0) n PLK_STATUS_TRAINING 0) n PLK_STATUS_LANES 0

theorem plkDown_eq (h : Head) (n : Nat) :
    plkDown h n = plkRaise (downShown (setPlkLink (portQuiet h n) n (plkLink (portQuiet h n) n).dropped) n) n 0 := rfl

theorem downShown_reads (h : Head) (n : Nat) : Frame [] [(.plk, 0x044)] h (downShown h n) ∧ plkGet (downShown h n) n PLK_STATUS_UP = 0 ∧
    plkGet (downShown h n) n PLK_STATUS_TRAINING = 0 ∧ plkGet (downShown h n) n PLK_STATUS_LANES = 0 ∧
    plkGet (downShown h n) n PLK_STATUS_RELEASED = plkGet h n PLK_STATUS_RELEASED ∧
    plkGet (downShown h n) n PLK_STATUS_PRESENT = plkGet h n PLK_STATUS_PRESENT ∧
    plkGet (downShown h n) n PLK_STATUS_ADMITTED = plkGet h n PLK_STATUS_ADMITTED := by
  refine ⟨by simp +decide only [downShown, plkSet, frame_rules, frame_refl], ?_⟩
  simp only [downShown, plkGet, plkSet, fget_eq_bget, fset_regs]
  simp (disch := first | decide | rfl) [PLK_STATUS_UP, PLK_STATUS_TRAINING, PLK_STATUS_LANES, PLK_STATUS_RELEASED, PLK_STATUS_PRESENT, PLK_STATUS_ADMITTED]

/-- What a link that goes down shows. -/
structure ShownDown (h g : Head) (n : Nat) : Prop where
  frame : Frame [.plk, .bridges, .evq] [(.plk, 0x010), (.plk, 0x044)] h g
  down : PortDown h g n
  up : plkGet g n PLK_STATUS_UP = 0
  training : plkGet g n PLK_STATUS_TRAINING = 0
  lanes : plkGet g n PLK_STATUS_LANES = 0
  released : plkGet g n PLK_STATUS_RELEASED = plkGet h n PLK_STATUS_RELEASED
  present : plkGet g n PLK_STATUS_PRESENT = plkGet h n PLK_STATUS_PRESENT
  admitted : plkGet g n PLK_STATUS_ADMITTED = plkGet h n PLK_STATUS_ADMITTED
  event : EventSet g (plkWing n) ⟨.plk, 0⟩ (plkInst n)
  ops : g.plk.ops = h.plk.ops

theorem Frame.putBridges {l : List Part} {t : List (Block × Nat)} {h g : Head} (x : Frame (.bridges :: l) t h g) :
    Frame l t { h with bridges := g.bridges } g :=
  x.put (by simp only [frame_mk, List.mem_cons, true_or, or_true, and_self, frame_refl]) rfl

theorem plkDown_shows (h : Head) (n : Nat) : ShownDown h (plkDown h n) n := by
  rw [plkDown_eq]
  have hq := frame_updBridge h n (fun b => dropQueued b (plkGet h n PLK_STATUS_BRIDGE_PORT) (fun _ => true))
  have hb := bridge_updBridge_same h n (fun b => dropQueued b (plkGet h n PLK_STATUS_BRIDGE_PORT) (fun _ => true))
  have hbo (m : Nat) (hm : m ≠ n) := bridge_updBridge_other h (fun b => dropQueued b (plkGet h n PLK_STATUS_BRIDGE_PORT) (fun _ => true)) hm
  change Frame _ _ h (portQuiet h n) at hq
  change bridge (portQuiet h n) n = _ at hb
  change ∀ m, m ≠ n → bridge (portQuiet h n) m = bridge h m at hbo
  have hpl := hq.plkLink (by decide)
  generalize portQuiet h n = a at *
  have hset := linked_set a n (plkLink a n).dropped
  have hk : Frame [.plk] [] a (setPlkLink a n (plkLink a n).dropped) := (frame_mk a (by simp)).2 (frame_refl _ _ a)
  have hkp : (setPlkLink a n (plkLink a n).dropped).plk = { a.plk with links := (setPlkLink a n (plkLink a n).dropped).plk.links } := rfl
  rw [hpl n] at *
  generalize setPlkLink a n (plkLink h n).dropped = b at *
  obtain ⟨hs, d1, d2, d3, d4, d5, d6⟩ := downShown_reads b n
  have hr := frame_plkRaise (downShown b n) n 0
  have hab : Frame [.plk, .bridges] [] h b := (hq.mono (by decide) (fun _ h => h)).trans (hk.mono (by decide) (fun _ h => h))
  have hbg : Frame [.evq] [(.plk, 0x010), (.plk, 0x044)] b (plkRaise (downShown b n) n 0) :=
    (hs.mono (by decide) (by decide)).trans (hr.mono (by decide) (by decide))
  have hall : Frame [.plk, .bridges, .evq] [(.plk, 0x010), (.plk, 0x044)] h (plkRaise (downShown b n) n 0) :=
    (hab.mono (by decide) (by decide)).trans (hbg.mono (by decide) (fun _ h => h))
  have hget (f : Fld) (hf : (f.block, f.off) ∉ [(Block.plk, 0x010)]) (ho : f.off < 4096) := hr.plkGet n f hf ho
  have hget' (f : Fld) (ho : f.off < 4096) := hab.plkGet n f List.not_mem_nil ho
  have hev := plkRaise_sets (downShown b n) n 0 (by decide)
  generalize plkRaise (downShown b n) n 0 = g at *
  have hgb : g.bridges = a.bridges := (hbg.1 .bridges (by decide)).trans (hk.1 .bridges (by decide))
  have hbr (m : Nat) : bridge g m = bridge a m := by
    unfold bridge
    rw [hgb]
  have hplk : { h with plk := { h.plk with links := g.plk.links }, bridges := g.bridges } = { { h with plk := g.plk } with bridges := g.bridges } := by
    rw [hbg.1 .plk (by decide), hkp, hq.1 .plk (by decide)]
  refine ⟨hall, ⟨(hbg.plkLink (by decide) n).trans hset.own, (hbr n).trans hb,
    fun m hm => ⟨(hbg.plkLink (by decide) m).trans ((hset.other m hm).trans (hpl m)), (hbr m).trans (hbo m hm)⟩, ?_⟩,
    (hget _ (by decide) (by decide)).trans d1, (hget _ (by decide) (by decide)).trans d2, (hget _ (by decide) (by decide)).trans d3,
    (hget _ (by decide) (by decide)).trans (d4.trans (hget' _ (by decide))), (hget _ (by decide) (by decide)).trans (d5.trans (hget' _ (by decide))),
    (hget _ (by decide) (by decide)).trans (d6.trans (hget' _ (by decide))), hev, ?_⟩
  · rw [hplk]
    exact hall.putPlk.putBridges.sameButRegs
  · rw [hbg.1 .plk (by decide), hkp, hq.1 .plk (by decide)]

/-- The bits of a link's page that a release clears. -/
def releaseShown (h : Head) (n : Nat) : Head := plkSet (plkSet (plkSet h n PLK_CTRL_RELEASE 0) n PLK_STATUS_RELEASED 1) n PLK_STATUS_ADMITTED 0

theorem releaseShown_reads (h : Head) (n : Nat) : Frame [] [(.plk, 0x040), (.plk, 0x044)] h (releaseShown h n) ∧
    plkGet (releaseShown h n) n PLK_CTRL_RELEASE = 0 ∧ plkGet (releaseShown h n) n PLK_STATUS_RELEASED = 1 ∧
    plkGet (releaseShown h n) n PLK_STATUS_ADMITTED = 0 ∧
    plkGet (releaseShown h n) n PLK_STATUS_BRIDGE_PORT = plkGet h n PLK_STATUS_BRIDGE_PORT := by
  refine ⟨by simp +decide only [releaseShown, plkSet, frame_rules, frame_refl], ?_⟩
  simp only [releaseShown, plkGet, plkSet, fget_eq_bget, fset_regs]
  simp (disch := first | decide | rfl) [PLK_CTRL_RELEASE, PLK_STATUS_RELEASED, PLK_STATUS_ADMITTED, PLK_STATUS_BRIDGE_PORT]

/-- A port that goes down after some of its page has changed. -/
theorem portDown_after {h a g : Head} {n : Nat} {t : List (Block × Nat)} (x : PortDown a g n) (hf : Frame [] t h a)
    (hp : plkGet a n PLK_STATUS_BRIDGE_PORT = plkGet h n PLK_STATUS_BRIDGE_PORT) : PortDown h g n := by
  have hl (m : Nat) : plkLink a m = plkLink h m := hf.plkLink List.not_mem_nil m
  have hb (m : Nat) : bridge a m = bridge h m := by
    unfold bridge
    rw [hf.1 .bridges List.not_mem_nil]
  have hs : SameButRegs h a := (hf.mono (l := [.evq]) (List.nil_subset _) (fun _ h => h)).sameButRegs
  obtain ⟨h1, h2, h3, h4⟩ := x
  refine ⟨by rw [h1, hl], by rw [h2, hb, hp], fun m hm => ⟨(h3 m hm).1.trans (hl m), (h3 m hm).2.trans (hb m)⟩, ?_⟩
  unfold SameButRegs at *
  rw [hs] at h4
  exact h4

theorem plkReleased_releases (s : State) (n : Nat) (hrun : Runs s.dev) (hn : n < 64) (hr : plkGet s.dev n PLK_CTRL_RELEASE = 1) (hd : dieOut s.dev n = false) :
    Completes (.plkReleased n) s (fun h => ∃ g : Head,
      plkGet g n PLK_CTRL_RELEASE = 0 ∧ plkGet g n PLK_STATUS_RELEASED = 1 ∧ plkGet g n PLK_STATUS_ADMITTED = 0 ∧
        plkGet g n PLK_STATUS_UP = 0 ∧ plkGet g n PLK_STATUS_LANES = 0 ∧ RegsBut s.dev g [(.plk, 0x010), (.plk, 0x040), (.plk, 0x044)] ∧
        PortDown s.dev g n ∧ h = endAll g n .timeout) := by
  have heq : plkReleased s.dev n = endAll (plkDown (releaseShown s.dev n) n) n .timeout := if_neg (by rw [plkBit_one hr, hd]; decide)
  obtain ⟨hf, r1, r2, r3, r4⟩ := releaseShown_reads s.dev n
  have hdn := plkDown_shows (releaseShown s.dev n) n
  exact completes_plinth (exec_plkReleased n) hn hrun heq ⟨_, (hdn.frame.plkGet n _ (by decide) (by decide)).trans r1, hdn.released.trans r2,
    hdn.admitted.trans r3, hdn.up, hdn.lanes,
    ((hf.mono (l := [.plk, .bridges, .evq]) (t := [(.plk, 0x010), (.plk, 0x040), (.plk, 0x044)]) (by decide) (by decide)).trans
      (hdn.frame.mono (by decide) (by decide))).2, portDown_after hdn.down hf r4, rfl⟩

/-- A plinth shown as absent. -/
def absentShown (h : Head) (n : Nat) : Head := plkSet (plkSet h n PLK_STATUS_PRESENT 0) n PLK_CTRL_RELEASE 0

theorem absentShown_reads (h : Head) (n : Nat) : Frame [] [(.plk, 0x040), (.plk, 0x044)] h (absentShown h n) ∧
    plkGet (absentShown h n) n PLK_STATUS_PRESENT = 0 ∧ plkGet (absentShown h n) n PLK_CTRL_RELEASE = 0 ∧
    plkGet (absentShown h n) n PLK_STATUS_RELEASED = plkGet h n PLK_STATUS_RELEASED ∧
    plkGet (absentShown h n) n PLK_STATUS_BRIDGE_PORT = plkGet h n PLK_STATUS_BRIDGE_PORT := by
  refine ⟨by simp +decide only [absentShown, plkSet, frame_rules, frame_refl], ?_⟩
  simp only [absentShown, plkGet, plkSet, fget_eq_bget, fset_regs]
  simp (disch := first | decide | rfl) [PLK_CTRL_RELEASE, PLK_STATUS_RELEASED, PLK_STATUS_PRESENT, PLK_STATUS_BRIDGE_PORT]

/-- A plinth no longer admitted. -/
def admissionLost (h : Head) (n : Nat) : Head := plkSet h n PLK_STATUS_ADMITTED 0

theorem admissionLost_reads (h : Head) (n : Nat) : Frame [] [(.plk, 0x044)] h (admissionLost h n) ∧
    plkGet (admissionLost h n) n PLK_STATUS_ADMITTED = 0 ∧ plkGet (admissionLost h n) n PLK_STATUS_PRESENT = plkGet h n PLK_STATUS_PRESENT ∧
    plkGet (admissionLost h n) n PLK_STATUS_BRIDGE_PORT = plkGet h n PLK_STATUS_BRIDGE_PORT := by
  refine ⟨frame_plkSet h n PLK_STATUS_ADMITTED 0, plkGet_plkSet_same _ _ _ _ (by decide) (by decide) (by decide), ?_⟩
  simp only [admissionLost, plkGet, plkSet, fget_eq_bget, fset_regs]
  simp (disch := first | decide | rfl) [PLK_STATUS_PRESENT, PLK_STATUS_ADMITTED, PLK_STATUS_BRIDGE_PORT]

theorem forgetIdentity_forgets (h : Head) (n : Nat) : Frame [.plk, .dsp, .cur] [] h (forgetIdentity h n) ∧
    tabGet? (forgetIdentity h n).plk.geom n = none ∧ tabGet? (forgetIdentity h n).plk.links n = none ∧
    (∀ d ∈ (forgetIdentity h n).dsp.failed, d / 128 ≠ n) ∧ (forgetIdentity h n).cur.members = h.cur.members ∧
    (forgetIdentity h n).cur.halls = h.cur.halls := by
  refine ⟨(frame_mk h (by simp)).2 (frame_refl _ _ h), tabGet?_tabDel_same .., tabGet?_tabDel_same .., fun d hd => ?_, rfl, rfl⟩
  have hm := List.of_mem_filter hd
  simpa using hm

theorem plinthRemoved_released (s : State) (n : Nat) (hrun : Runs s.dev) (hn : n < 64) (hp : plkGet s.dev n PLK_STATUS_PRESENT = 1)
    (hr : plkGet s.dev n PLK_STATUS_RELEASED = 1) :
    Completes (.plinthRemoved n) s (fun h =>
      plkGet h n PLK_STATUS_PRESENT = 0 ∧ plkGet h n PLK_CTRL_RELEASE = 0 ∧ tabGet? h.plk.geom n = none ∧ tabGet? h.plk.links n = none ∧
        (∀ d ∈ h.dsp.failed, d / 128 ≠ n) ∧ h.cur.members = s.dev.cur.members ∧ h.cur.halls = s.dev.cur.halls ∧
        EventSet h (plkWing n) ⟨.plk, 0⟩ (plkInst n) ∧ RegsBut s.dev h [(.plk, 0x010), (.plk, 0x040), (.plk, 0x044)] ∧
        h.mem = s.dev.mem ∧ h.out = s.dev.out) := by
  obtain ⟨hf, r1, r2, r3, -⟩ := absentShown_reads s.dev n
  have heq : plinthRemoved s.dev n = forgetIdentity (plkRaise (absentShown s.dev n) n 0) n := by
    unfold plinthRemoved
    rw [plkBit_one hp, if_neg (by decide)]
    exact if_pos (plkBit_one (r3.trans hr))
  have hra := frame_plkRaise (absentShown s.dev n) n 0
  have hev := plkRaise_sets (absentShown s.dev n) n 0 (by decide)
  have hb : Frame [.evq] [(.plk, 0x010), (.plk, 0x040), (.plk, 0x044)] s.dev (plkRaise (absentShown s.dev n) n 0) :=
    (hf.mono (by decide) (by decide)).trans (hra.mono (by decide) (by decide))
  have hget (f : Fld) (hn : (f.block, f.off) ∉ [(Block.plk, 0x010)]) (ho : f.off < 4096) := hra.plkGet n f hn ho
  generalize plkRaise (absentShown s.dev n) n 0 = b at *
  obtain ⟨hg, g1, g2, g3, g4, g5⟩ := forgetIdentity_forgets b n
  refine completes_plinth (exec_plinthRemoved n) hn hrun heq ⟨(hg.plkGet n _ List.not_mem_nil (by decide)).trans ((hget _ (by decide) (by decide)).trans r1),
    (hg.plkGet n _ List.not_mem_nil (by decide)).trans ((hget _ (by decide) (by decide)).trans r2), g1, g2, g3, ?_, ?_,
    (hg.eventSet _ ⟨.plk, 0⟩ List.not_mem_nil _).2 hev, regsBut_trans hb.2 (regsBut_mono hg.2 (List.nil_subset _)),
    (hg.1 .mem (by decide)).trans (hb.1 .mem (by decide)), (hg.1 .out (by decide)).trans (hb.1 .out (by decide))⟩
  · rw [g4, hb.1 .cur (by decide)]
  · rw [g5, hb.1 .cur (by decide)]

theorem plinthRemoved_lost (s : State) (n : Nat) (hrun : Runs s.dev) (hn : n < 64) (hp : plkGet s.dev n PLK_STATUS_PRESENT = 1)
    (hr : plkGet s.dev n PLK_STATUS_RELEASED = 0) :
    Completes (.plinthRemoved n) s (fun h => ∃ g : Head,
      plkGet g n PLK_STATUS_PRESENT = 0 ∧ plkGet g n PLK_STATUS_ADMITTED = 0 ∧ plkGet g n PLK_STATUS_UP = 0 ∧
        RegsBut s.dev g [(.plk, 0x010), (.plk, 0x040), (.plk, 0x044)] ∧ PortDown s.dev g n ∧
        h = forgetIdentity (plinthLost (endAll g n .timeout) n) n) := by
  obtain ⟨hf, r1, -, r3, r4⟩ := absentShown_reads s.dev n
  obtain ⟨hl, l1, l2, l3⟩ := admissionLost_reads (absentShown s.dev n) n
  have heq : plinthRemoved s.dev n =
      forgetIdentity (plinthLost (endAll (plkDown (admissionLost (absentShown s.dev n) n) n) n .timeout) n) n := by
    unfold plinthRemoved
    rw [plkBit_one hp, if_neg (by decide)]
    exact if_neg (by rw [Bool.not_eq_true]; exact plkBit_zero (r3.trans hr))
  have hdn := plkDown_shows (admissionLost (absentShown s.dev n) n) n
  have hfl : Frame [] [(.plk, 0x040), (.plk, 0x044)] s.dev (admissionLost (absentShown s.dev n) n) := hf.trans (hl.mono (by decide) (by decide))
  exact completes_plinth (exec_plinthRemoved n) hn hrun heq ⟨_, hdn.present.trans (l2.trans r1), hdn.admitted.trans l1, hdn.up,
    ((hfl.mono (l := [.plk, .bridges, .evq]) (t := [(.plk, 0x010), (.plk, 0x040), (.plk, 0x044)]) (by decide) (by decide)).trans
      (hdn.frame.mono (by decide) (by decide))).2, portDown_after hdn.down hfl (l3.trans r4), rfl⟩

/-! ### Retrains -/

theorem plkRetrainCmd_retrains (s : State) (ini : Initiator) (n : Nat) (hrun : Runs s.dev) (hn : n < 64)
    (hw : Writable s.dev ini (pg .plk (plkWing n) (plkInst n)) 0x040) (hu : plkGet s.dev n PLK_STATUS_UP = 1)
    (ht : plkGet s.dev n PLK_STATUS_TRAINING = 0) :
    Completes (.plkRetrainCmd ini n) s (fun h =>
      plkGet h n PLK_STATUS_TRAINING = 1 ∧
        plkGet h n PLK_CNT_RETRAIN_COUNT = min (plkGet s.dev n PLK_CNT_RETRAIN_COUNT + 1) (2 ^ 32 - 1) ∧
        RegsBut s.dev h [(.plk, 0x044), (.plk, 0x064)] ∧ SameButRegs (reply s.dev false) h) := by
  have heq : plkCtrlCmd s.dev ini n plkRetrainEffect = plkRetrain (reply s.dev false) n := by
    rw [plkCtrl_ok s ini n _ hw]
    unfold plkRetrainEffect
    rw [show plkBit (reply s.dev false) n PLK_STATUS_UP = true from plkBit_one hu,
      show plkBit (reply s.dev false) n PLK_STATUS_TRAINING = false from plkBit_zero ht]
    rfl
  obtain ⟨h1, h2, hf⟩ := plkRetrain_reads (reply s.dev false) n
  exact completes_plinth (f := fun h n => plkCtrlCmd h ini n plkRetrainEffect) (exec_plkRetrainCmd ini n) hn hrun heq
    ⟨h1, h2, hf.2, (hf.mono (l := [.evq]) (by decide) (fun _ h => h)).sameButRegs⟩

theorem plkRetrainCmd_ignored (s : State) (ini : Initiator) (n : Nat) (hrun : Runs s.dev) (hn : n < 64)
    (hw : Writable s.dev ini (pg .plk (plkWing n) (plkInst n)) 0x040) (hu : plkGet s.dev n PLK_STATUS_UP = 1)
    (ht : plkGet s.dev n PLK_STATUS_TRAINING = 1) :
    Completes (.plkRetrainCmd ini n) s (fun h => RegsBut s.dev h [] ∧ SameButRegs (reply s.dev false) h) := by
  have heq : plkCtrlCmd s.dev ini n plkRetrainEffect = reply s.dev false := by
    rw [plkCtrl_ok s ini n _ hw]
    unfold plkRetrainEffect
    rw [show plkBit (reply s.dev false) n PLK_STATUS_UP = true from plkBit_one hu,
      show plkBit (reply s.dev false) n PLK_STATUS_TRAINING = true from plkBit_one ht]
    rfl
  exact completes_plinth (f := fun h n => plkCtrlCmd h ini n plkRetrainEffect) (exec_plkRetrainCmd ini n) hn hrun heq ⟨regsBut_refl _ _, rfl⟩

theorem plkRetrainTimeout_down (s : State) (n : Nat) (hrun : Runs s.dev) (hn : n < 64) (hu : plkGet s.dev n PLK_STATUS_UP = 1)
    (ht : plkGet s.dev n PLK_STATUS_TRAINING = 1) :
    Completes (.plkRetrainTimeout n) s (fun h =>
      plkGet h n PLK_STATUS_UP = 0 ∧ plkGet h n PLK_STATUS_LANES = 0 ∧ EventSet h (plkWing n) ⟨.plk, 0⟩ (plkInst n) ∧
        (plkGet h n PLK_STATUS_TRAINING = 1 ↔ perstHigh s.dev n = true) ∧
        RegsBut s.dev h [(.plk, 0x010), (.plk, 0x044)] ∧ PortDown s.dev h n) := by
  have heq : plkRetrainTimeout s.dev n = plkStart (plkDown s.dev n) n := if_pos (by rw [plkBit_one hu, plkBit_one ht]; rfl)
  have hd := plkDown_shows s.dev n
  have hpe : perstHigh (plkDown s.dev n) n = perstHigh s.dev n := by
    unfold perstHigh
    rw [plkBit_congr (hd.frame.plkGet n PLK_CTRL_LINK_EN (by decide) (by decide)), plkBit_congr hd.present, plkBit_congr hd.released]
  generalize plkDown s.dev n = a at *
  obtain ⟨hs, -, -, k3, k4, k5⟩ := plkStart_reads a n
  refine completes_plinth (exec_plkRetrainTimeout n) hn hrun heq ⟨k3.trans hd.up, k4.trans hd.lanes, (hs.eventSet _ ⟨.plk, 0⟩ (by decide) _).2 hd.event, ?_,
    (hd.frame.trans (hs.mono (by decide) (by decide))).2, ?_⟩
  · rw [k5, hpe, plkBit_zero hd.up, hd.training]
    cases perstHigh s.dev n <;> decide
  · obtain ⟨p1, p2, p3, p4⟩ := hd.down
    have hb (m : Nat) : bridge (plkStart a n) m = bridge a m := by
      unfold bridge
      rw [hs.1 .bridges List.not_mem_nil]
    have hss : SameButRegs a (plkStart a n) := (hs.mono (l := [.evq]) (List.nil_subset _) (fun _ h => h)).sameButRegs
    refine ⟨(hs.plkLink List.not_mem_nil n).trans p1, (hb n).trans p2,
      fun m hm => ⟨(hs.plkLink List.not_mem_nil m).trans (p3 m hm).1, (hb m).trans (p3 m hm).2⟩, ?_⟩
    have hl : (plkStart a n).plk = a.plk := hs.1 .plk List.not_mem_nil
    have hbr : (plkStart a n).bridges = a.bridges := hs.1 .bridges List.not_mem_nil
    rw [hl, hbr]
    exact sameButRegs_trans p4 hss

theorem plkLaneFail_halves (s : State) (n : Nat) (hrun : Runs s.dev) (hn : n < 64) (hu : plkGet s.dev n PLK_STATUS_UP = 1)
    (hw : plkGet s.dev n PLK_CTRL_HALF_WIDTH_OK = 1) :
    Completes (.plkLaneFail n) s (fun h =>
      plkGet h n PLK_STATUS_UP = 1 ∧ plkGet h n PLK_STATUS_LANES = 1 ∧ plkGet h n PLK_STATUS_TRAINING = 1 ∧
        plkGet h n PLK_CNT_RETRAIN_COUNT = min (plkGet s.dev n PLK_CNT_RETRAIN_COUNT + 1) (2 ^ 32 - 1) ∧
        EventSet h (plkWing n) ⟨.plk, 0⟩ (plkInst n) ∧ RegsBut s.dev h [(.plk, 0x010), (.plk, 0x044), (.plk, 0x064)] ∧ SameButRegs s.dev h) := by
  have heq : plkLaneFail s.dev n = plkRaise (plkSet (plkRetrain s.dev n) n PLK_STATUS_LANES 1) n 0 := by
    unfold plkLaneFail
    rw [plkBit_one hu, if_neg (by decide), plkBit_one hw, if_pos rfl]
  obtain ⟨h1, h2, hf⟩ := plkRetrain_reads s.dev n
  have hup : plkGet (plkRetrain s.dev n) n PLK_STATUS_UP = plkGet s.dev n PLK_STATUS_UP := by
    have ha := frame_fadd s.dev (plkWing n) 0 (plkInst n) PLK_CNT_RETRAIN_COUNT 1
    refine Eq.trans ?_ (ha.plkGet n PLK_STATUS_UP (by decide) (by decide))
    simp only [plkRetrain, plkAdd, plkGet, plkSet, fget_eq_bget, fset_regs]
    simp (disch := first | decide | rfl) [PLK_STATUS_UP, PLK_STATUS_TRAINING]
  generalize plkRetrain s.dev n = a at *
  have hs := frame_plkSet a n PLK_STATUS_LANES 1
  have hreads : plkGet (plkSet a n PLK_STATUS_LANES 1) n PLK_STATUS_UP = plkGet a n PLK_STATUS_UP ∧
      plkGet (plkSet a n PLK_STATUS_LANES 1) n PLK_STATUS_LANES = 1 ∧
      plkGet (plkSet a n PLK_STATUS_LANES 1) n PLK_STATUS_TRAINING = plkGet a n PLK_STATUS_TRAINING := by
    simp only [plkGet, plkSet, fget_eq_bget, fset_regs]
    simp (disch := first | decide | rfl) [PLK_STATUS_UP, PLK_STATUS_LANES, PLK_STATUS_TRAINING]
  have hr := frame_plkRaise (plkSet a n PLK_STATUS_LANES 1) n 0
  have hev := plkRaise_sets (plkSet a n PLK_STATUS_LANES 1) n 0 (by decide)
  obtain ⟨q1, q2, q3⟩ := hreads
  have hall : Frame [.evq] [(.plk, 0x010), (.plk, 0x044), (.plk, 0x064)] s.dev (plkRaise (plkSet a n PLK_STATUS_LANES 1) n 0) :=
    ((hf.mono (by decide) (by decide)).trans (hs.mono (by decide) (by decide))).trans (hr.mono (by decide) (by decide))
  exact completes_plinth (exec_plkLaneFail n) hn hrun heq ⟨(hr.plkGet n _ (by decide) (by decide)).trans (q1.trans (hup.trans hu)),
    (hr.plkGet n _ (by decide) (by decide)).trans q2, (hr.plkGet n _ (by decide) (by decide)).trans (q3.trans h1),
    (hr.plkGet n _ (by decide) (by decide)).trans ((hs.plkGet n PLK_CNT_RETRAIN_COUNT (by decide) (by decide)).trans h2), hev, hall.2, hall.sameButRegs⟩

/-- Settles O42: each change of a link as what its page shows, with its link state, its bridge and what leaves it. -/
theorem plinthLinksComeAndGo : Obligations.PlinthLinksComeAndGo :=
  ⟨plinthPresent_appears, plkTrained_admitted, plkTrained_asks, plkRelease_fences, plkReleased_releases, plinthRemoved_released, plinthRemoved_lost,
    plkRetrainCmd_retrains, plkRetrainCmd_ignored, plkRetrainTimeout_down, plkLaneFail_halves⟩

end Sys2Proof.Laws
end

section
/-! Plinth bridges take and run die commands (R283 to R291, R294), and O44. -/

namespace Sys2Proof.Laws

open Machine Machine.Reg

/-! ### A bridge's step -/

/-- A bridge's step: the bridge as it is then and the messages it sends, and nothing else. -/
structure Bridged (g h : Head) (n : Nat) (b : Bridge) (ms : List Msg) : Prop where
  head : h = { g with bridges := h.bridges, out := g.out ++ ms }
  own : bridge h n = b
  other : ∀ m, m ≠ n → bridge h m = bridge g m

section
variable {g h k : Head} {n p : Nat} {b b' : Bridge} {ms ms' : List Msg} {c : PlkCmd}

theorem bridged_refl (h : Head) (n : Nat) : Bridged h h n (bridge h n) [] := ⟨by rw [List.append_nil], rfl, fun _ _ => rfl⟩

theorem bridged_set (h : Head) (n : Nat) (b : Bridge) : Bridged h (setBridge h n b) n b [] :=
  ⟨by rw [List.append_nil]; rfl, congrArg (·.getD blankBridge) (tabGet?_tabPut_same ..),
    fun _ hm => congrArg (·.getD blankBridge) (tabGet?_tabPut_other _ _ hm)⟩

theorem bridged_upd (h : Head) (n : Nat) (f : Bridge → Bridge) : Bridged h (updBridge h n f) n (f (bridge h n)) [] := bridged_set h n _

theorem bridged_send (h : Head) (n : Nat) (m : Msg) : Bridged h (send h m) n (bridge h n) [m] := ⟨rfl, rfl, fun _ _ => rfl⟩

theorem Bridged.trans (x : Bridged g h n b ms) (y : Bridged h k n b' ms') : Bridged g k n b' (ms ++ ms') := by
  obtain ⟨hx, -, hox⟩ := x
  obtain ⟨hy, hb, hoy⟩ := y
  refine ⟨?_, hb, fun m hm => (hoy m hm).trans (hox m hm)⟩
  rw [hy, hx, List.append_assoc]

theorem Bridged.out (x : Bridged g h n b ms) : h.out = g.out ++ ms := by rw [x.head]

theorem Bridged.only (x : Bridged g h n b ms) : OnlyBridge g h n := by
  refine ⟨?_, x.other⟩
  rw [x.head]

/-- A slot of a bridge set. -/
def slotPut (b : Bridge) (p : Nat) (c : PlkCmd) (d : Option PlkDone) : Bridge := { b with slots := tabPut b.slots (brSlotKey p c) ⟨c.gen, d⟩ }

theorem bridged_done (h : Head) (n p : Nat) (c : PlkCmd) (d : PlkDone) :
    Bridged h (brDone h n p c d) n (slotPut (bridge h n) p c (some d)) [.bridgeDone n p d] := by
  have hu := bridged_upd h n (fun b => slotPut b p c (some d))
  have hs := bridged_send (updBridge h n (fun b => slotPut b p c (some d))) n (.bridgeDone n p d)
  rw [hu.own] at hs
  exact hu.trans hs

/-- A command that a bridge takes as new. -/
theorem brTake_fresh (h : Head) (n p : Nat) (c : PlkCmd) (f : Head → Head) (hf : BrFresh h n p c) :
    brTake h n p c f = f (setBridge h n (slotPut (bridge h n) p c none)) := by
  unfold brTake
  dsimp only
  cases hs : tabGet? (bridge h n).slots (brSlotKey p c) with
  | none => rfl
  | some x =>
    obtain ⟨hg, hd⟩ := hf x hs
    dsimp only
    rw [if_neg hg]
    cases hx : x.done with
    | none => exact absurd hx hd
    | some d => rfl

/-- A command that repeats the last one of its slot. -/
theorem brTake_repeat (h : Head) (n p : Nat) (c : PlkCmd) (f : Head → Head) (d : PlkDone)
    (hs : tabGet? (bridge h n).slots (brSlotKey p c) = some ⟨c.gen, some d⟩) : brTake h n p c f = send h (.bridgeDone n p d) := by
  unfold brTake
  dsimp only
  rw [hs]
  exact if_pos rfl

/-- A die command of fields in range, on a port that may run it. -/
theorem brDieCmd_fresh (h : Head) (n p : Nat) (c : PlkCmd) (writes : Bool) (f : Head → Head) (hf : BrFresh h n p c) (hok : dieFieldsOk c = true)
    (hw : (writes && (wit (bridge h n) p).fenced) = false) :
    brDieCmd h n p c writes f = f (setBridge h n (slotPut (bridge h n) p c none)) := by
  have hwit : wit (bridge (setBridge h n (slotPut (bridge h n) p c none)) n) p = wit (bridge h n) p := by
    rw [(bridged_set h n _).own]
    rfl
  unfold brDieCmd
  rw [brTake_fresh h n p c _ hf, hok, if_neg (by decide), hwit, hw, if_neg (by decide)]

/-- A die command that writes, on a port that a claim has fenced. -/
theorem brDieCmd_fenced (h : Head) (n p : Nat) (c : PlkCmd) (f : Head → Head) (hf : BrFresh h n p c) (hok : dieFieldsOk c = true)
    (hw : (wit (bridge h n) p).fenced = true) :
    brDieCmd h n p c true f = brDone (setBridge h n (slotPut (bridge h n) p c none)) n p c (plainDone c .fenced) := by
  have hwit : wit (bridge (setBridge h n (slotPut (bridge h n) p c none)) n) p = wit (bridge h n) p := by
    rw [(bridged_set h n _).own]
    rfl
  unfold brDieCmd
  rw [brTake_fresh h n p c _ hf, hok, if_neg (by decide), hwit, hw, if_pos (by decide)]

end

/-- A job that a bridge has just taken. -/
def freshJob (p : Nat) (c : PlkCmd) : BrJob := ⟨p, c, false, false, 0, 0, 0⟩

/-- A bridge that has taken a die command. -/
def taken (b : Bridge) (p : Nat) (c : PlkCmd) : Bridge := { slotPut b p c none with jobs := b.jobs ++ [freshJob p c] }

theorem bridged_queue (h : Head) (n p : Nat) (c : PlkCmd) :
    Bridged h (brQueue (setBridge h n (slotPut (bridge h n) p c none)) n p c) n (taken (bridge h n) p c) [] := by
  have hs := bridged_set h n (slotPut (bridge h n) p c none)
  have hq := bridged_upd (setBridge h n (slotPut (bridge h n) p c none)) n (fun b => { b with jobs := b.jobs ++ [freshJob p c] })
  rw [hs.own] at hq
  exact hs.trans hq

theorem bridged_refused (h : Head) (n p : Nat) (c : PlkCmd) (d : PlkDone) :
    Bridged h (brDone (setBridge h n (slotPut (bridge h n) p c none)) n p c d) n (slotPut (slotPut (bridge h n) p c none) p c (some d))
      [.bridgeDone n p d] := by
  have hs := bridged_set h n (slotPut (bridge h n) p c none)
  have hd := bridged_done (setBridge h n (slotPut (bridge h n) p c none)) n p c d
  rw [hs.own] at hd
  exact hs.trans hd

/-- A command's effect on a bridge, on the port it names. -/
theorem completes_bridge {i : Instr} {f : Head → Nat → Head} {s : State} {P : Head → Prop} {h : Head} {p : Nat}
    (hx : exec i = liftAny (fun h => f h (p % 2))) (hp : p < 2) (heq : f s.dev p = h) (hP : P h) : Completes i s P := by
  rw [Nat.mod_eq_of_lt hp] at hx
  exact completes_liftAny hx (heq ▸ hP)

/-- What the statements say of a die command that is taken. -/
def DieTaken (g h : Head) (n p : Nat) (c c' : PlkCmd) : Prop :=
  bridge h n = { bridge g n with
    slots := tabPut (bridge g n).slots (brSlotKey p c') ⟨c.gen, none⟩
    jobs := (bridge g n).jobs ++ [⟨p, c', false, false, 0, 0, 0⟩] } ∧ OnlyBridge g h n ∧ h.out = g.out

theorem dieTaken_queue (h : Head) (n p : Nat) (c c' : PlkCmd) (hg : c'.gen = c.gen) :
    DieTaken h (brQueue (setBridge h n (slotPut (bridge h n) p c' none)) n p c') n p c c' := by
  have hq := bridged_queue h n p c'
  refine ⟨hq.own.trans ?_, hq.only, hq.out.trans (List.append_nil _)⟩
  rw [← hg]
  rfl

theorem plkRead_taken (s : State) (n p : Nat) (c c' : PlkCmd) (hp : p < 2) (hc : c' = { c with opcode := 1, mgmt := false }) (hf : BrFresh s.dev n p c')
    (hok : dieFieldsOk c' = true) : Completes (.plkRead n p c) s (fun h => DieTaken s.dev h n p c c') := by
  subst hc
  exact completes_bridge (f := fun h p => brRead h n p c) rfl hp (brDieCmd_fresh s.dev n p _ false _ hf hok rfl) (dieTaken_queue s.dev n p c _ rfl)

theorem checkErased_taken (s : State) (n p : Nat) (c c' : PlkCmd) (hp : p < 2) (hc : c' = { c with opcode := 4, mgmt := false })
    (hf : BrFresh s.dev n p c') (hok : dieFieldsOk c' = true) : Completes (.checkErased n p c) s (fun h => DieTaken s.dev h n p c c') := by
  subst hc
  exact completes_bridge (f := fun h p => brCheck h n p c) rfl hp (brDieCmd_fresh s.dev n p _ false _ hf hok rfl) (dieTaken_queue s.dev n p c _ rfl)

theorem plkErase_taken (s : State) (n p : Nat) (c c' : PlkCmd) (hp : p < 2) (hc : c' = { c with opcode := 3, mgmt := false }) (hf : BrFresh s.dev n p c')
    (hok : dieFieldsOk c' = true) (hw : (wit (bridge s.dev n) p).fenced = false) :
    Completes (.plkErase n p c) s (fun h => DieTaken s.dev h n p c c') := by
  subst hc
  exact completes_bridge (f := fun h p => brErase h n p c) rfl hp (brDieCmd_fresh s.dev n p _ true _ hf hok hw) (dieTaken_queue s.dev n p c _ rfl)

/-- The row that a block programs next does not depend on a slot's state. -/
theorem brAfter_slotPut (h : Head) (n p : Nat) (c c' : PlkCmd) (d : Option PlkDone) :
    brAfter (bridge (setBridge h n (slotPut (bridge h n) p c d)) n) c' = brAfter (bridge h n) c' := by
  rw [(bridged_set h n _).own]
  rfl

theorem plkProgram_taken (s : State) (n p : Nat) (c c' : PlkCmd) (hp : p < 2) (hc : c' = { c with opcode := 2, mgmt := false })
    (hf : BrFresh s.dev n p c') (hok : dieFieldsOk c' = true) (hw : (wit (bridge s.dev n) p).fenced = false)
    (hr : c.row = (brAfter (bridge s.dev n) c').1) : Completes (.plkProgram n p c) s (fun h => DieTaken s.dev h n p c c') := by
  subst hc
  refine completes_bridge (f := fun h p => brProgram h n p c) rfl hp ((brDieCmd_fresh s.dev n p _ true _ hf hok hw).trans ?_)
    (dieTaken_queue s.dev n p c _ rfl)
  rw [brAfter_slotPut]
  exact if_neg (fun hne => hne hr)

theorem plkProgram_refused (s : State) (n p : Nat) (c c' : PlkCmd) (hp : p < 2) (hc : c' = { c with opcode := 2, mgmt := false })
    (hf : BrFresh s.dev n p c') (hok : dieFieldsOk c' = true) (hw : (wit (bridge s.dev n) p).fenced = false)
    (hr : c.row ≠ (brAfter (bridge s.dev n) c').1) :
    Completes (.plkProgram n p c) s (fun h =>
      h.out = s.dev.out ++ [.bridgeDone n p (plainDone c' .protocol)] ∧ (bridge h n).jobs = (bridge s.dev n).jobs ∧
        (bridge h n).blocks = (bridge s.dev n).blocks ∧ OnlyBridge s.dev h n) := by
  have hd := bridged_refused s.dev n p c' (plainDone c' .protocol)
  refine completes_bridge (f := fun h p => brProgram h n p c) rfl hp ?_
    ⟨hd.out, (congrArg Bridge.jobs hd.own :), (congrArg Bridge.blocks hd.own :), hd.only⟩
  subst hc
  refine (brDieCmd_fresh s.dev n p _ true _ hf hok hw).trans ?_
  rw [brAfter_slotPut]
  exact if_pos hr

theorem dieCommand_fenced (s : State) (n p : Nat) (c c' : PlkCmd) (prog : Bool) (hp : p < 2)
    (hc : c' = { c with opcode := if prog then 2 else 3, mgmt := false }) (hf : BrFresh s.dev n p c') (hok : dieFieldsOk c' = true)
    (hw : (wit (bridge s.dev n) p).fenced = true) :
    Completes (if prog then .plkProgram n p c else .plkErase n p c) s (fun h =>
      h.out = s.dev.out ++ [.bridgeDone n p (plainDone c' .fenced)] ∧ (bridge h n).jobs = (bridge s.dev n).jobs ∧
        (bridge h n).blocks = (bridge s.dev n).blocks ∧ (bridge h n).panels = (bridge s.dev n).panels ∧ OnlyBridge s.dev h n) := by
  have hd := bridged_refused s.dev n p c' (plainDone c' .fenced)
  have hP := And.intro hd.out (And.intro (congrArg Bridge.jobs hd.own) (And.intro (congrArg Bridge.blocks hd.own)
    (And.intro (congrArg Bridge.panels hd.own) hd.only)))
  subst hc
  cases prog with
  | true => exact completes_bridge (f := fun h p => brProgram h n p c) rfl hp (brDieCmd_fenced s.dev n p _ _ hf hok hw) hP
  | false => exact completes_bridge (f := fun h p => brErase h n p c) rfl hp (brDieCmd_fenced s.dev n p _ _ hf hok hw) hP

theorem dieCommand_repeated (s : State) (n p : Nat) (c : PlkCmd) (d : PlkDone) (hp : p < 2)
    (hs : tabGet? (bridge s.dev n).slots (brSlotKey p { c with mgmt := false }) = some ⟨c.gen, some d⟩) :
    ∀ i ∈ [Instr.plkRead n p c, .plkProgram n p c, .plkErase n p c, .checkErased n p c], Completes i s (fun h =>
      h = { s.dev with out := s.dev.out ++ [.bridgeDone n p d] }) := by
  have hrep (o : Nat) (f : Head → Head) (writes : Bool) : brDieCmd s.dev n p { c with opcode := o, mgmt := false } writes f =
      { s.dev with out := s.dev.out ++ [.bridgeDone n p d] } := brTake_repeat s.dev n p { c with opcode := o, mgmt := false } _ d hs
  simp only [List.forall_mem_cons, List.not_mem_nil, false_imp_iff, implies_true, and_true]
  exact ⟨completes_bridge (f := fun h p => brRead h n p c) rfl hp (hrep 1 _ _) rfl,
    completes_bridge (f := fun h p => brProgram h n p c) rfl hp (hrep 2 _ _) rfl,
    completes_bridge (f := fun h p => brErase h n p c) rfl hp (hrep 3 _ _) rfl,
    completes_bridge (f := fun h p => brCheck h n p c) rfl hp (hrep 4 _ _) rfl⟩

/-! ### The die schedule -/

/-- A bridge in its next slot. -/
def nextSlot (b : Bridge) : Bridge := { b with slot := b.slot + 1 }

/-- The dies of a bridge's jobs. -/
def jobDies (b : Bridge) : List Nat := (b.jobs.map (fun j => j.cmd.channel * 8 + j.cmd.die)).eraseDups

/-- A slot boundary within the frame. -/
theorem bridged_boundary (h : Head) (n : Nat) (ends : List BrEnd) (b : Bridge) (ms : List Msg)
    (hb : Bridged h (foldHead h ends (fun h e => jobEnd h n e)) n b ms) (hs : b.slot < 31) :
    Bridged h (bridgeSlotBoundary h n ends) n ((jobDies (nextSlot b)).foldl dieBoundary (nextSlot b)) ms := by
  unfold bridgeSlotBoundary
  generalize foldHead h ends (fun h e => jobEnd h n e) = g at *
  dsimp only
  rw [hb.own, if_pos hs]
  have hn := bridged_upd g n nextSlot
  rw [hb.own] at hn
  have hd := bridged_upd (updBridge g n nextSlot) n (fun b => (jobDies (nextSlot (bridge g n))).foldl dieBoundary b)
  rw [hn.own, hb.own] at hd
  have hall := hb.trans (hn.trans hd)
  rw [List.append_nil, List.append_nil] at hall
  have hown : bridge (updBridge g n fun b => { b with slot := b.slot + 1 }) n = nextSlot b := hn.own
  rw [hown]
  exact hall

theorem sortOn_single {α : Type} (f : α → List Nat) (x : α) : sortOn f [x] = [x] := rfl

theorem pickJob_nil (b : Bridge) : pickJob b [] = none := rfl

theorem pickJob_single (b : Bridge) (j : BrJob) : pickJob b [j] = some j := by
  unfold pickJob
  rw [List.find?_cons, List.find?_nil]
  cases j.port == slotPort b <;> rfl

/-- The only job of a bridge, when it is due and its die is free. -/
theorem dieBoundary_starts (b : Bridge) (j : BrJob) (hj : b.jobs = [j]) (hs : j.started = false) (hh : j.held = false) (hd : jobDue b j = true) :
    dieBoundary b (j.cmd.channel * 8 + j.cmd.die) = startJob b j := by
  have hstart : (startJob b j).jobs = [{ j with started := true, startFrame := b.wire, startSlot := b.slot }] := by
    simp [startJob, putJob, hj]
  have helig : jobReads j = true → jobEligible b j = true := by
    intro hr
    have hop : (j.cmd.opcode == 2) = false := by
      unfold jobReads at hr
      simp only [Bool.or_eq_true, beq_iff_eq] at hr
      simp only [beq_eq_false_iff_ne]
      omega
    unfold jobEligible jobWaits
    rw [hs, hd, hj, List.any_cons, List.any_nil, hop]
    simp
  have helig' : jobReads j = false → jobEligible b j = true := by
    intro hr
    unfold jobEligible jobWaits
    rw [hs, hd, hr]
    rfl
  unfold dieBoundary
  cases hr : jobReads j with
  | true =>
    simp [hj, hs, hh, hr, helig hr, pickJob_single, hstart]
  | false => simp [hj, hs, hh, hr, helig' hr, pickJob_nil, pickJob_single, sortOn_single]

theorem boundary_starts (s : State) (n : Nat) (j : BrJob) (hj : (bridge s.dev n).jobs = [j]) (hl : (bridge s.dev n).slot < 31) (hs : j.started = false)
    (hd : jobDue { bridge s.dev n with slot := (bridge s.dev n).slot + 1 } j = true) (hh : j.held = false) :
    Completes (.bridgeSlotBoundary n []) s (fun h =>
      bridge h n = { bridge s.dev n with
        slot := (bridge s.dev n).slot + 1
        jobs := [{ j with started := true, startFrame := (bridge s.dev n).wire, startSlot := (bridge s.dev n).slot + 1 }] } ∧
      OnlyBridge s.dev h n ∧ h.out = s.dev.out) := by
  have hb := bridged_boundary s.dev n [] (bridge s.dev n) [] (bridged_refl s.dev n) hl
  have hdies : jobDies (nextSlot (bridge s.dev n)) = [j.cmd.channel * 8 + j.cmd.die] := by
    unfold jobDies nextSlot
    rw [hj]
    rfl
  rw [hdies, List.foldl_cons, List.foldl_nil, dieBoundary_starts (nextSlot (bridge s.dev n)) j hj hs hh hd] at hb
  refine completes_liftAny (f := fun h => bridgeSlotBoundary h n []) rfl ⟨hb.own.trans ?_, hb.only, hb.out.trans (List.append_nil _)⟩
  unfold startJob putJob nextSlot
  dsimp only
  rw [hj, List.map_cons, List.map_nil, if_pos rfl]

/-- What a job's completion reports of its run. -/
def jobReport (j : BrJob) (e : BrEnd) : PlkDone :=
  { plainDone j.cmd .done with
    suspended := decide (0 < j.suspends)
    suspends := min j.suspends 255
    startFrame := j.startFrame
    startSlot := j.startSlot
    busy := e.busy }

/-- What a program that has ended well leaves of its bridge's dies. -/
def programmed (b : Bridge) (j : BrJob) : Bridge :=
  { b with
    jobs := b.jobs.filter (fun x => x != j)
    blocks := tabPut b.blocks (brBlock j.cmd) (j.cmd.row + 1, (brNext b j.cmd).2)
    panels := tabPut b.panels (brPanel j.cmd) j.cmd.data }

theorem jobEnd_program (h : Head) (n : Nat) (j : BrJob) (e : BrEnd) (hj : (bridge h n).jobs = [j]) (hs : j.started = true) (hh : j.held = false)
    (ho : j.cmd.opcode = 2) (hp : e.port = j.port) (hsl : e.slot = j.cmd.slot) (hf : e.fail = false) :
    jobEnd h n e = brDone (setBridge h n (programmed (bridge h n) j)) n j.port j.cmd (jobReport j e) := by
  have hfind : (bridge h n).jobs.find? (fun j => j.port == e.port && j.cmd.slot == e.slot && j.started && !j.held) = some j := by
    rw [hj, List.find?_cons]
    simp [hp, hsl, hs, hh]
  unfold jobEnd
  dsimp only
  rw [hfind]
  dsimp only
  rw [ho, hf, hp]
  rfl

theorem boundary_ends (s : State) (n : Nat) (j : BrJob) (e : BrEnd) (hj : (bridge s.dev n).jobs = [j]) (hl : (bridge s.dev n).slot < 31)
    (hs : j.started = true) (hh : j.held = false) (ho : j.cmd.opcode = 2) (hp : e.port = j.port) (hsl : e.slot = j.cmd.slot) (hf : e.fail = false) :
    Completes (.bridgeSlotBoundary n [e]) s (fun h =>
      (bridge h n).jobs = [] ∧ tabGet? (bridge h n).panels (brPanel j.cmd) = some j.cmd.data ∧
        tabGet? (bridge h n).blocks (brBlock j.cmd) = some (j.cmd.row + 1, (brNext (bridge s.dev n) j.cmd).2) ∧
        (bridge h n).slot = (bridge s.dev n).slot + 1 ∧
        h.out = s.dev.out ++ [.bridgeDone n j.port { plainDone j.cmd .done with
          suspended := decide (0 < j.suspends)
          suspends := min j.suspends 255
          startFrame := j.startFrame
          startSlot := j.startSlot
          busy := e.busy }] ∧ OnlyBridge s.dev h n) := by
  have hjobs : (programmed (bridge s.dev n) j).jobs = [] := by
    simp [programmed, hj]
  have hset := bridged_set s.dev n (programmed (bridge s.dev n) j)
  have hdone := bridged_done (setBridge s.dev n (programmed (bridge s.dev n) j)) n j.port j.cmd (jobReport j e)
  rw [hset.own] at hdone
  have hend : Bridged s.dev (foldHead s.dev [e] (fun h e => jobEnd h n e)) n
      (slotPut (programmed (bridge s.dev n) j) j.port j.cmd (some (jobReport j e))) [.bridgeDone n j.port (jobReport j e)] := by
    have heq := jobEnd_program s.dev n j e hj hs hh ho hp hsl hf
    show Bridged s.dev (jobEnd s.dev n e) n _ _
    rw [heq]
    exact hset.trans hdone
  have hb := bridged_boundary s.dev n [e] _ _ hend hl
  have hdies : jobDies (nextSlot (slotPut (programmed (bridge s.dev n) j) j.port j.cmd (some (jobReport j e)))) = [] := by
    unfold jobDies
    rw [show (nextSlot (slotPut (programmed (bridge s.dev n) j) j.port j.cmd (some (jobReport j e)))).jobs = [] from hjobs]
    rfl
  rw [hdies, List.foldl_nil] at hb
  refine completes_liftAny (f := fun h => bridgeSlotBoundary h n [e]) rfl ⟨(congrArg Bridge.jobs hb.own).trans hjobs, ?_, ?_,
    (congrArg Bridge.slot hb.own :), hb.out, hb.only⟩
  · exact (congrArg (fun b => tabGet? b.panels (brPanel j.cmd)) hb.own).trans (tabGet?_tabPut_same ..)
  · exact (congrArg (fun b => tabGet? b.blocks (brBlock j.cmd)) hb.own).trans (tabGet?_tabPut_same ..)

/-- Settles O44: what a bridge does with a die command by its slot, its fields and its port's fence, and with its only job at a boundary. -/
theorem bridgesRunDieCommands : Obligations.BridgesRunDieCommands :=
  ⟨plkRead_taken, checkErased_taken, plkProgram_taken, plkProgram_refused, plkErase_taken, dieCommand_fenced, dieCommand_repeated, boundary_starts,
    boundary_ends⟩

end Sys2Proof.Laws
end

section
/-! Plinth bridges keep witness entries, registers and time (R41, R44, R280, R293, R294, R297), and O45. -/

namespace Sys2Proof.Laws

open Machine Machine.Reg

/-! ### Management commands -/

/-- A management command that a bridge takes as new and executes. -/
theorem brMgmt_fresh (h : Head) (n p : Nat) (c : PlkCmd) (f : Head → Head × PlkDone) (hf : BrFresh h n p c) (hs : c.slot < 16) :
    brMgmt h n p c f = brDone (f (setBridge h n (slotPut (bridge h n) p c none))).1 n p c (f (setBridge h n (slotPut (bridge h n) p c none))).2 := by
  unfold brMgmt
  rw [brTake_fresh h n p c _ hf]
  unfold mgmtFieldsOk
  rw [decide_eq_true hs]
  rfl

/-- A management command whose effect on the bridge is known. -/
theorem bridged_mgmt {h k : Head} {n p : Nat} {c : PlkCmd} {f : Head → Head × PlkDone} {d : PlkDone} {b : Bridge} {ms : List Msg} (hf : BrFresh h n p c)
    (hs : c.slot < 16) (heq : f (setBridge h n (slotPut (bridge h n) p c none)) = (k, d))
    (hk : Bridged (setBridge h n (slotPut (bridge h n) p c none)) k n b ms) :
    Bridged h (brMgmt h n p c f) n (slotPut b p c (some d)) (ms ++ [.bridgeDone n p d]) := by
  rw [brMgmt_fresh h n p c f hf hs, heq]
  have hd := bridged_done k n p c d
  rw [hk.own] at hd
  exact (bridged_set h n _).trans (hk.trans hd)

/-- A management command that leaves the bridge as it is. -/
theorem bridged_mgmt_only {h : Head} {n p : Nat} {c : PlkCmd} {f : Head → Head × PlkDone} {d : PlkDone} (hf : BrFresh h n p c)
    (hs : c.slot < 16) (heq : ∀ g, bridge g n = slotPut (bridge h n) p c none → f g = (g, d)) :
    Bridged h (brMgmt h n p c f) n (slotPut (slotPut (bridge h n) p c none) p c (some d)) [.bridgeDone n p d] := by
  have hset := bridged_set h n (slotPut (bridge h n) p c none)
  have hk := bridged_refl (setBridge h n (slotPut (bridge h n) p c none)) n
  rw [hset.own] at hk
  exact bridged_mgmt hf hs (heq _ hset.own) hk

/-! ### Witness entries -/

theorem wit_setWit_same (b : Bridge) (p : Nat) (e : WitEntry) : wit (setWit b p e) p = e := by
  unfold wit setWit
  split <;> rfl

theorem wit_setWit_other (b : Bridge) (p q : Nat) (e : WitEntry) (hp : p < 2) (hq : q < 2) (hne : q ≠ p) : wit (setWit b p e) q = wit b q := by
  obtain ⟨rfl, rfl⟩ | ⟨rfl, rfl⟩ : (p = 0 ∧ q = 1) ∨ (p = 1 ∧ q = 0) := by omega
  · rfl
  · rfl

theorem setWit_panels (b : Bridge) (p : Nat) (e : WitEntry) : (setWit b p e).panels = b.panels := by
  unfold setWit
  split <;> rfl

theorem setWit_jobs (b : Bridge) (p : Nat) (e : WitEntry) : (setWit b p e).jobs = b.jobs := by
  unfold setWit
  split <;> rfl

theorem setWit_slots (b : Bridge) (p : Nat) (e : WitEntry) : (setWit b p e).slots = b.slots := by
  unfold setWit
  split <;> rfl

theorem wit_slotPut (b : Bridge) (p q : Nat) (c : PlkCmd) (d : Option PlkDone) : wit (slotPut b p c d) q = wit b q := rfl

theorem portNode_slotPut (b : Bridge) (n p q : Nat) (c : PlkCmd) (d : Option PlkDone) : portNode (slotPut b p c d) n q = portNode b n q := rfl

/-- The entry that a renewal leaves on its port. -/
def renewedEntry (b : Bridge) (n p epoch arg : Nat) : WitEntry :=
  { wit b p with
    valid := true, expired := false, fenced := (wit b p).fenced && !(wit b (1 - p)).claim, node := portNode b n p, epoch := epoch
    expiry := (b.wire + 1 + (arg + frameNs b.len / 1000 - 1) / (frameNs b.len / 1000)) % 65536 }

/-- A bridge whose lease a port has renewed. -/
def renewed (b : Bridge) (n p epoch arg : Nat) : Bridge :=
  setWit (setWit b (1 - p) { wit b (1 - p) with claim := false }) p (renewedEntry b n p epoch arg)

theorem witnessRenew_renews (s : State) (n p : Nat) (c c' : PlkCmd) (b : Bridge) (hp : p < 2) (hc : c' = { c with opcode := 8, mgmt := true })
    (hf : BrFresh s.dev n p c') (hs : c.slot < 16) (hb : b = bridge s.dev n) (hcl : (wit b (1 - p)).claim = true)
    (he : (wit b (1 - p)).claimEpoch < c.epoch) :
    Completes (.witnessRenew n p c) s (fun h =>
      wit (bridge h n) p = { wit b p with
        valid := true, expired := false, fenced := false, node := portNode b n p, epoch := c.epoch
        expiry := (b.wire + 1 + (c.arg + frameNs b.len / 1000 - 1) / (frameNs b.len / 1000)) % 65536 } ∧
      wit (bridge h n) (1 - p) = { wit b (1 - p) with claim := false } ∧ (bridge h n).panels = b.panels ∧
      h.out = s.dev.out ++ [.bridgeDone n p (plainDone c' .done)] ∧ OnlyBridge s.dev h n) := by
  have hset := bridged_set s.dev n (slotPut (bridge s.dev n) p c' none)
  have hk := bridged_set (setBridge s.dev n (slotPut (bridge s.dev n) p c' none)) n (renewed (slotPut (bridge s.dev n) p c' none) n p c.epoch c.arg)
  have hall : Bridged s.dev (witnessRenew s.dev n p c) n (slotPut (renewed (slotPut (bridge s.dev n) p c' none) n p c.epoch c.arg) p c'
      (some (plainDone c' .done))) [.bridgeDone n p (plainDone c' .done)] := by
    subst hc
    refine bridged_mgmt hf hs ?_ hk
    dsimp only
    rw [hset.own]
    exact if_neg (fun hn => absurd hn.2 (by rw [wit_slotPut, ← hb]; exact Nat.not_le.mpr he))
  refine completes_bridge (f := fun h p => witnessRenew h n p c) rfl hp rfl ?_
  have hne : 1 - p ≠ p := by omega
  have hown := hall.own
  rw [← hb] at hown
  refine ⟨?_, ?_, ?_, hall.out, hall.only⟩
  · rw [hown, wit_slotPut, renewed, wit_setWit_same, renewedEntry, wit_slotPut, wit_slotPut, hcl, Bool.not_true, Bool.and_false, portNode_slotPut]
    rfl
  · rw [hown, wit_slotPut, renewed, wit_setWit_other _ _ _ _ hp (by omega) hne, wit_setWit_same, wit_slotPut]
  · rw [hown]
    show (renewed _ n p c.epoch c.arg).panels = _
    rw [renewed, setWit_panels, setWit_panels]
    rfl

theorem witnessRenew_refused (s : State) (n p : Nat) (c c' : PlkCmd) (b : Bridge) (hp : p < 2) (hc : c' = { c with opcode := 8, mgmt := true })
    (hf : BrFresh s.dev n p c') (hs : c.slot < 16) (hb : b = bridge s.dev n) (hcl : (wit b (1 - p)).claim = true)
    (he : c.epoch ≤ (wit b (1 - p)).claimEpoch) :
    Completes (.witnessRenew n p c) s (fun h =>
      (bridge h n).wit0 = b.wit0 ∧ (bridge h n).wit1 = b.wit1 ∧ h.out = s.dev.out ++ [.bridgeDone n p (plainDone c' .fenced)] ∧
        OnlyBridge s.dev h n) := by
  have hall : Bridged s.dev (witnessRenew s.dev n p c) n (slotPut (slotPut (bridge s.dev n) p c' none) p c' (some (plainDone c' .fenced)))
      [.bridgeDone n p (plainDone c' .fenced)] := by
    subst hc
    refine bridged_mgmt_only hf hs fun g hg => ?_
    dsimp only
    rw [hg]
    exact if_pos (by rw [wit_slotPut, ← hb]; exact ⟨hcl, he⟩)
  refine completes_bridge (f := fun h p => witnessRenew h n p c) rfl hp rfl ?_
  rw [hall.own, hb]
  exact ⟨rfl, rfl, hall.out, hall.only⟩

theorem witnessRead_reads (s : State) (n p : Nat) (c c' : PlkCmd) (b : Bridge) (hp : p < 2) (hc : c' = { c with opcode := 9, mgmt := true })
    (hf : BrFresh s.dev n p c') (hs : c.slot < 16) (hb : b = bridge s.dev n) :
    Completes (.witnessRead n p c) s (fun h =>
      (bridge h n).wit0 = b.wit0 ∧ (bridge h n).wit1 = b.wit1 ∧
        h.out = s.dev.out ++ [.bridgeDone n p { plainDone c' .done with dlen := 24, data := witNum b.wit0 + witNum b.wit1 <<< 96 }] ∧
        OnlyBridge s.dev h n) := by
  have hall : Bridged s.dev (witnessRead s.dev n p c) n (slotPut (slotPut (bridge s.dev n) p c' none) p c'
      (some { plainDone c' .done with dlen := 24, data := witNum b.wit0 + witNum b.wit1 <<< 96 }))
      [.bridgeDone n p { plainDone c' .done with dlen := 24, data := witNum b.wit0 + witNum b.wit1 <<< 96 }] := by
    subst hc
    refine bridged_mgmt_only (f := fun h => (h, { plainDone { c with opcode := 9, mgmt := true } .done with
      dlen := 24, data := witNum (bridge h n).wit0 + witNum (bridge h n).wit1 <<< 96 })) hf hs fun g hg => ?_
    dsimp only
    rw [hg, hb]
    rfl
  refine completes_bridge (f := fun h p => witnessRead h n p c) rfl hp rfl ?_
  rw [hall.own]
  refine ⟨?_, ?_, hall.out, hall.only⟩ <;> rw [hb] <;> rfl

/-! ### Claims -/

/-- The queued programs and erases of a port. -/
def queuedWrites (b : Bridge) (q : Nat) : List BrJob :=
  b.jobs.filter (fun j => j.port == q && !j.started && (j.cmd.opcode == 2 || j.cmd.opcode == 3))

/-- The bridge's side of jobs that complete with FENCED. -/
def slotsFenced (b : Bridge) (q : Nat) (l : List BrJob) : Bridge :=
  l.foldl (fun b j => slotPut b q j.cmd (some (plainDone j.cmd .fenced))) b

theorem bridged_fencedAll (n q : Nat) (l : List BrJob) : ∀ h : Head,
    Bridged h (foldHead h l (fun h j => brDone h n q j.cmd (plainDone j.cmd .fenced))) n (slotsFenced (bridge h n) q l)
      (l.map (fun j => .bridgeDone n q (plainDone j.cmd .fenced))) := by
  induction l with
  | nil => exact fun h => bridged_refl h n
  | cons j l ih =>
    intro h
    have hd := bridged_done h n q j.cmd (plainDone j.cmd .fenced)
    have ht := ih (brDone h n q j.cmd (plainDone j.cmd .fenced))
    rw [hd.own] at ht
    exact hd.trans ht

theorem slotsFenced_kept (q : Nat) (l : List BrJob) : ∀ b : Bridge, (∀ p, wit (slotsFenced b q l) p = wit b p) ∧ (slotsFenced b q l).jobs = b.jobs ∧
    (slotsFenced b q l).alert0 = b.alert0 ∧ (slotsFenced b q l).alert1 = b.alert1 := by
  induction l with
  | nil => exact fun b => ⟨fun _ => rfl, rfl, rfl, rfl⟩
  | cons j l ih => exact fun b => ih (slotPut b q j.cmd _)

/-- The queued programs and erases of a port dropped. -/
def writesDropped (b : Bridge) (q : Nat) : Bridge := dropQueued b q (fun j => j.cmd.opcode == 2 || j.cmd.opcode == 3)

theorem bridged_fenceQueued (h : Head) (n q : Nat) :
    Bridged h (fenceQueued h n q) n (slotsFenced (writesDropped (bridge h n) q) q (queuedWrites (bridge h n) q))
      ((queuedWrites (bridge h n) q).map (fun j => .bridgeDone n q (plainDone j.cmd .fenced))) := by
  have hu := bridged_upd h n (fun b => writesDropped b q)
  have hf := bridged_fencedAll n q (queuedWrites (bridge h n) q) (updBridge h n (fun b => writesDropped b q))
  rw [hu.own] at hf
  exact hu.trans hf

theorem writesDropped_jobs (b : Bridge) (q : Nat) : (writesDropped b q).jobs = b.jobs.filter (fun j => !(queuedWrites b q).contains j) := by
  unfold writesDropped dropQueued queuedWrites
  refine List.filter_congr fun j hj => ?_
  congr 1
  rw [Bool.eq_iff_iff, List.contains_iff_mem, List.mem_filter]
  simp only [hj, true_and]

/-- The messages of an alert. -/
def alertSent (b : Bridge) (n p code detail : Nat) : List Msg :=
  if (if p = 0 then b.alert0 else b.alert1).testBit (code - 1) then [.bridgeAlert n p code detail] else []

theorem bridged_alert (h : Head) (n p code detail : Nat) :
    Bridged h (brAlert h n p code detail) n (bridge h n) (alertSent (bridge h n) n p code detail) := by
  unfold brAlert alertSent
  dsimp only
  generalize (if p = 0 then (bridge h n).alert0 else (bridge h n).alert1) = mask
  split
  · exact bridged_send h n _
  · exact bridged_refl h n

/-- A bridge on which a port has a claim. -/
def claimed (b : Bridge) (p epoch : Nat) : Bridge :=
  setWit (setWit b p { wit b p with claim := true, claimEpoch := epoch }) (1 - p) { wit b (1 - p) with fenced := true }

theorem claimed_reads (b : Bridge) (p epoch : Nat) (hp : p < 2) :
    wit (claimed b p epoch) (1 - p) = { wit b (1 - p) with fenced := true } ∧
      wit (claimed b p epoch) p = { wit b p with claim := true, claimEpoch := epoch } ∧ (claimed b p epoch).jobs = b.jobs ∧
      (claimed b p epoch).alert0 = b.alert0 ∧ (claimed b p epoch).alert1 = b.alert1 := by
  refine ⟨wit_setWit_same _ _ _, ?_, ?_, ?_, ?_⟩
  · rw [claimed, wit_setWit_other _ _ _ _ (by omega) hp (by omega), wit_setWit_same]
  · rw [claimed, setWit_jobs, setWit_jobs]
  all_goals
    unfold claimed setWit
    split <;> split <;> rfl

/-- What WITNESS_CLAIM does with its bridge. -/
def claimEffect (n p : Nat) (c : PlkCmd) (h : Head) : Head × PlkDone :=
  if (wit (bridge h n) (1 - p)).valid && !(wit (bridge h n) (1 - p)).expired then (h, plainDone c .limit)
  else
    (brAlert (fenceQueued (setBridge h n (claimed (bridge h n) p c.epoch)) n (1 - p)) n (1 - p) 6
      (portNode (setWit (bridge h n) p { wit (bridge h n) p with claim := true, claimEpoch := c.epoch }) n p), plainDone c .done)

theorem witnessClaim_eq (h : Head) (n p : Nat) (c : PlkCmd) :
    witnessClaim h n p c = brMgmt h n p { c with opcode := 10, mgmt := true } (claimEffect n p { c with opcode := 10, mgmt := true }) := rfl

theorem portNode_setWit (b : Bridge) (n p q : Nat) (e : WitEntry) : portNode (setWit b p e) n q = portNode b n q := by
  unfold setWit
  split <;> rfl

/-- A claim against a lease that does not hold. -/
theorem claimEffect_free (n p : Nat) (c : PlkCmd) (h : Head) (b : Bridge) (hb : bridge h n = b)
    (ho : (wit b (1 - p)).valid = false ∨ (wit b (1 - p)).expired = true) : claimEffect n p c h =
      (brAlert (fenceQueued (setBridge h n (claimed b p c.epoch)) n (1 - p)) n (1 - p) 6 (portNode b n p), plainDone c .done) := by
  unfold claimEffect
  rw [hb, portNode_setWit]
  refine if_neg ?_
  obtain hv | he := ho
  · rw [hv, Bool.false_and]
    decide
  · rw [he, Bool.not_true, Bool.and_false]
    decide

theorem witnessClaim_claims (s : State) (n p : Nat) (c c' : PlkCmd) (b : Bridge) (l : List BrJob) (hp : p < 2)
    (hc : c' = { c with opcode := 10, mgmt := true }) (hf : BrFresh s.dev n p c') (hs : c.slot < 16) (hb : b = bridge s.dev n)
    (ho : (wit b (1 - p)).valid = false ∨ (wit b (1 - p)).expired = true)
    (hl : l = b.jobs.filter (fun j => j.port == 1 - p && !j.started && (j.cmd.opcode == 2 || j.cmd.opcode == 3))) :
    Completes (.witnessClaim n p c) s (fun h =>
      wit (bridge h n) (1 - p) = { wit b (1 - p) with fenced := true } ∧
        wit (bridge h n) p = { wit b p with claim := true, claimEpoch := c.epoch } ∧
        (bridge h n).jobs = b.jobs.filter (fun j => !l.contains j) ∧
        h.out = s.dev.out ++ l.map (fun j => .bridgeDone n (1 - p) (plainDone j.cmd .fenced)) ++
          (if (if p = 0 then b.alert1 else b.alert0).testBit 5 then [.bridgeAlert n (1 - p) 6 (portNode b n p)] else []) ++
          [.bridgeDone n p (plainDone c' .done)] ∧ OnlyBridge s.dev h n) := by
  subst hb
  generalize hb : bridge s.dev n = b at *
  have hset := bridged_set s.dev n (slotPut b p c' none)
  have hcl := bridged_set (setBridge s.dev n (slotPut b p c' none)) n (claimed (slotPut b p c' none) p c.epoch)
  have hfq := bridged_fenceQueued (setBridge (setBridge s.dev n (slotPut b p c' none)) n (claimed (slotPut b p c' none) p c.epoch)) n (1 - p)
  have hal := bridged_alert (fenceQueued (setBridge (setBridge s.dev n (slotPut b p c' none)) n (claimed (slotPut b p c' none) p c.epoch)) n (1 - p)) n
    (1 - p) 6 (portNode b n p)
  rw [hcl.own] at hfq
  rw [hfq.own] at hal
  obtain ⟨w1, w0, hj, ha0, ha1⟩ := claimed_reads (slotPut b p c' none) p c.epoch hp
  have hk := hcl.trans (hfq.trans hal)
  generalize hcb : claimed (slotPut b p c' none) p c.epoch = cb at *
  obtain ⟨hkw, hkj, hk0, hk1⟩ := slotsFenced_kept (1 - p) (queuedWrites cb (1 - p)) (writesDropped cb (1 - p))
  have hq : queuedWrites cb (1 - p) = l := by
    unfold queuedWrites
    rw [hj, hl]
    rfl
  have hjobs : (writesDropped cb (1 - p)).jobs = b.jobs.filter (fun j => !l.contains j) := by
    rw [writesDropped_jobs, hq, hj]
    rfl
  rw [hq] at hk hkw hkj hk0 hk1
  have hall : Bridged s.dev (witnessClaim s.dev n p c) n (slotPut (slotsFenced (writesDropped cb (1 - p)) (1 - p) l) p c' (some (plainDone c' .done)))
      (l.map (fun j => .bridgeDone n (1 - p) (plainDone j.cmd .fenced)) ++
        alertSent (slotsFenced (writesDropped cb (1 - p)) (1 - p) l) n (1 - p) 6 (portNode b n p) ++ [.bridgeDone n p (plainDone c' .done)]) := by
    have heff : claimEffect n p c' (setBridge s.dev n (slotPut b p c' none)) = (brAlert (fenceQueued (setBridge (setBridge s.dev n (slotPut b p c' none)) n cb)
        n (1 - p)) n (1 - p) 6 (portNode b n p), plainDone c' .done) := by
      rw [claimEffect_free n p c' _ _ hset.own ho, portNode_slotPut, show c'.epoch = c.epoch by rw [hc], hcb]
    rw [witnessClaim_eq, ← hc]
    rw [← hb] at heff hk
    have hm := bridged_mgmt hf (by rw [hc]; exact hs) heff hk
    rw [hb, List.nil_append] at hm
    exact hm
  have halert : alertSent (slotsFenced (writesDropped cb (1 - p)) (1 - p) l) n (1 - p) 6 (portNode b n p) =
      if (if p = 0 then b.alert1 else b.alert0).testBit 5 then [.bridgeAlert n (1 - p) 6 (portNode b n p)] else [] := by
    unfold alertSent
    rw [hk0, hk1, show (writesDropped cb (1 - p)).alert0 = b.alert0 from ha0, show (writesDropped cb (1 - p)).alert1 = b.alert1 from ha1]
    obtain rfl | rfl : p = 0 ∨ p = 1 := by omega
    · rfl
    · rfl
  rw [halert] at hall
  refine completes_bridge (f := fun h p => witnessClaim h n p c) rfl hp rfl ?_
  refine ⟨?_, ?_, ?_, ?_, hall.only⟩
  · rw [hall.own, wit_slotPut, hkw]
    exact w1
  · rw [hall.own, wit_slotPut, hkw]
    exact w0
  · rw [hall.own]
    exact hkj.trans hjobs
  · rw [hall.out, ← List.append_assoc, ← List.append_assoc]

theorem witnessClaim_refused (s : State) (n p : Nat) (c c' : PlkCmd) (b : Bridge) (hp : p < 2) (hc : c' = { c with opcode := 10, mgmt := true })
    (hf : BrFresh s.dev n p c') (hs : c.slot < 16) (hb : b = bridge s.dev n) (hv : (wit b (1 - p)).valid = true) (he : (wit b (1 - p)).expired = false) :
    Completes (.witnessClaim n p c) s (fun h =>
      (bridge h n).wit0 = b.wit0 ∧ (bridge h n).wit1 = b.wit1 ∧ h.out = s.dev.out ++ [.bridgeDone n p (plainDone c' .limit)] ∧
        OnlyBridge s.dev h n) := by
  have hall : Bridged s.dev (witnessClaim s.dev n p c) n (slotPut (slotPut (bridge s.dev n) p c' none) p c' (some (plainDone c' .limit)))
      [.bridgeDone n p (plainDone c' .limit)] := by
    subst hc
    refine bridged_mgmt_only hf hs fun g hg => ?_
    dsimp only
    rw [hg]
    exact if_pos (by rw [wit_slotPut, ← hb, hv, he]; rfl)
  refine completes_bridge (f := fun h p => witnessClaim h n p c) rfl hp rfl ?_
  rw [hall.own, hb]
  exact ⟨rfl, rfl, hall.out, hall.only⟩

/-! ### Bridge registers -/

/-- A bridge's registers do not show its command slots. -/
theorem bridgeReg_slotPut (g h : Head) (n p q addr : Nat) (c : PlkCmd) (d : Option PlkDone) (hg : bridge g n = slotPut (bridge h n) q c d) :
    bridgeReg g n p addr = bridgeReg h n p addr := by
  unfold bridgeReg
  rw [hg]
  rfl

theorem regRead_reads (s : State) (n p v : Nat) (c c' : PlkCmd) (hp : p < 2) (hc : c' = { c with opcode := 12, mgmt := true }) (hf : BrFresh s.dev n p c')
    (hs : c.slot < 16) (hv : bridgeReg s.dev n p c.addr = some v) :
    Completes (.regRead n p c) s (fun h =>
      h.out = s.dev.out ++ [.bridgeDone n p { plainDone c' .done with word := v }] ∧ (bridge h n).wit0 = (bridge s.dev n).wit0 ∧
        (bridge h n).wit1 = (bridge s.dev n).wit1 ∧ OnlyBridge s.dev h n) := by
  have hall : Bridged s.dev (brRegRead s.dev n p c) n (slotPut (slotPut (bridge s.dev n) p c' none) p c' (some { plainDone c' .done with word := v }))
      [.bridgeDone n p { plainDone c' .done with word := v }] := by
    subst hc
    refine bridged_mgmt_only hf hs fun g hg => ?_
    dsimp only
    rw [bridgeReg_slotPut g s.dev n p p _ _ _ hg, hv]
  refine completes_bridge (f := fun h p => brRegRead h n p c) rfl hp rfl ?_
  rw [hall.own]
  exact ⟨hall.out, rfl, rfl, hall.only⟩

/-- A port's alert mask set. -/
def alertMasked (p v : Nat) (b : Bridge) : Bridge := if p = 0 then { b with alert0 := v } else { b with alert1 := v }

theorem regWrite_masks (s : State) (n p : Nat) (c c' : PlkCmd) (hp : p < 2) (hc : c' = { c with opcode := 13, mgmt := true }) (hf : BrFresh s.dev n p c')
    (hs : c.slot < 16) (ha : c.addr = 0x40) :
    Completes (.regWrite n p c) s (fun h =>
      (if p = 0 then (bridge h n).alert0 else (bridge h n).alert1) = c.arg >>> 1 % 64 ∧
        (if p = 0 then (bridge h n).alert1 = (bridge s.dev n).alert1 else (bridge h n).alert0 = (bridge s.dev n).alert0) ∧
        h.out = s.dev.out ++ [.bridgeDone n p (plainDone c' .done)] ∧ OnlyBridge s.dev h n) := by
  have hset := bridged_set s.dev n (slotPut (bridge s.dev n) p c' none)
  have hk := bridged_upd (setBridge s.dev n (slotPut (bridge s.dev n) p c' none)) n (alertMasked p (c.arg >>> 1 % 64))
  rw [hset.own] at hk
  have hall : Bridged s.dev (brRegWrite s.dev n p c) n (slotPut (alertMasked p (c.arg >>> 1 % 64) (slotPut (bridge s.dev n) p c' none)) p c'
      (some (plainDone c' .done))) [.bridgeDone n p (plainDone c' .done)] := by
    subst hc
    exact bridged_mgmt hf hs (if_neg (fun hn => hn ha)) hk
  refine completes_bridge (f := fun h p => brRegWrite h n p c) rfl hp rfl ?_
  rw [hall.own]
  refine ⟨?_, ?_, hall.out, hall.only⟩ <;> unfold alertMasked <;> split <;> rfl

/-! ### Leases and markers -/

theorem leaseExpiry_expires (s : State) (n p : Nat) (hp : p < 2) (hv : (wit (bridge s.dev n) p).valid = true) (he : (wit (bridge s.dev n) p).expired = false)
    (hx : (wit (bridge s.dev n) p).expiry = (bridge s.dev n).wire) :
    Completes (.leaseExpiry n p) s (fun h =>
      bridge h n = setWit (bridge s.dev n) p { wit (bridge s.dev n) p with expired := true } ∧ OnlyBridge s.dev h n ∧
        h.out = s.dev.out) := by
  have hset := bridged_set s.dev n (setWit (bridge s.dev n) p { wit (bridge s.dev n) p with expired := true })
  exact completes_bridge (f := fun h p => leaseExpiry h n p) rfl hp (if_pos (by rw [hv, he, hx]; simp))
    ⟨hset.own, hset.only, hset.out.trans (List.append_nil _)⟩

theorem masterLoss_turns (s : State) (n : Nat) (hl : (bridge s.dev n).led = true) (hq : 2 ≤ (bridge s.dev n).quiet) :
    Completes (.masterMarkerLoss n) s (fun h =>
      bridge h n = { bridge s.dev n with quiet := 0, follow := 1 - (bridge s.dev n).follow } ∧ OnlyBridge s.dev h n ∧ h.out = s.dev.out) := by
  have hu := bridged_upd s.dev n (fun b => if b.led && decide (2 ≤ b.quiet) then { b with quiet := 0, follow := 1 - b.follow } else b)
  refine completes_liftAny (f := fun h => masterLoss h n) rfl ⟨hu.own.trans (if_pos ?_), hu.only, hu.out.trans (List.append_nil _)⟩
  rw [hl, decide_eq_true hq]
  rfl

/-- A marker that stands for the tick a bridge has. -/
theorem wireDiff_zero (b : Bridge) (fcount : Nat) (next : Bool) (hf : fcount = (b.wire + ofBool next) % 65536) :
    wireDiff b fcount next = 0 := by
  have hn : ofBool next < 2 := by cases next <;> decide
  have hmod : (fcount + 2 ^ 16 + 2 ^ 16 - (b.wire + ofBool next)) % 2 ^ 16 = 0 := by omega
  unfold wireDiff toSigned
  rw [hmod]
  rfl

/-- What a marker says of the frame length, to a bridge that is locked. -/
theorem takeLength_locked (b : Bridge) (payload : Word) (next : Bool) (ht : b.tick = 1) (h3 : bitsOf payload 9 8 ≠ 3) :
    takeLength b payload next = { b with
      countdown := if bitsOf payload 13 10 = 0 then b.countdown else bitsOf payload 13 10 + ofBool next
      announced := if bitsOf payload 13 10 = 0 then b.announced else bitsOf payload 9 8 } := by
  have hlen (k : Bridge) (hk : k.tick = b.tick) : ¬ (k.tick ≠ 1 ∧ bitsOf payload 15 14 < 3 ∧ bitsOf payload 15 14 ≠ k.len) :=
    fun hn => hn.1 (hk.trans ht)
  unfold takeLength
  dsimp only
  by_cases h0 : bitsOf payload 13 10 = 0
  · simp only [h0, true_or, if_true]
    exact if_neg (hlen b rfl)
  · have hne : ¬ (bitsOf payload 13 10 = 0 ∨ bitsOf payload 9 8 = 3) := fun hn => hn.elim h0 h3
    simp only [if_neg hne, if_neg h0]
    exact if_neg (hlen _ rfl)

/-- The port that a bridge follows once a marker has come on a port. -/
def markerFollows (b : Bridge) (p : Nat) (master : Bool) : Bridge :=
  let b := if b.led then b else { b with led := true, follow := p }
  if master && p == b.follow then { b with quiet := 0 } else b

/-- A bridge that has seen a marker. -/
def markerSeen (b : Bridge) (payload : Word) (flagged next : Bool) (phase : Int) : Bridge :=
  let b := takeLength b payload next
  { b with seen := true, missed := 0, phaseErr := if flagged then b.phaseErr else ofSigned 16 phase }

/-- What a marker of the followed port does with the timebase. -/
def markerJudged (h : Head) (n : Nat) (b : Bridge) (payload : Word) (flagged next : Bool) (phase : Int) : Head :=
  let fcount := bitsOf payload 31 16
  let b := markerSeen b payload flagged next phase
  let h := setBridge h n b
  let inPhase := decide (2 * phase.natAbs ≤ frameNs b.len / 32)
  if b.tick ≠ 1 then bridgeRelock h n fcount flagged next inPhase
  else
    let d := wireDiff b fcount next
    if 2 ≤ d.natAbs ∨ (!flagged ∧ !inPhase) then setTickState (updBridge h n (fun b => { b with run := 0 })) n 2
    else if d = 0 then h
    else updBridge h n (fun b => stepWire b d)

theorem bridgeMarker_eq (h : Head) (n p : Nat) (payload : Word) (flagged : Bool) (arrival : Nat) : bridgeMarker h n p payload flagged arrival =
    if !(bridge h n).led && !payload.getLsbD 7 then h
    else
      let b := markerFollows (bridge h n) p (payload.getLsbD 7)
      if p ≠ b.follow then setBridge h n b
      else markerJudged (setBridge h n b) n b payload flagged (bridgePlace b n p arrival).1 (bridgePlace b n p arrival).2 := rfl

theorem markerFollows_master (b : Bridge) (hl : b.led = true) : markerFollows b b.follow true = { b with quiet := 0 } := by
  unfold markerFollows
  simp [hl]

/-- A marker that finds a locked bridge in step. -/
theorem markerJudged_locked (h : Head) (n : Nat) (b : Bridge) (payload : Word) (flagged next : Bool) (phase : Int)
    (ht : (markerSeen b payload flagged next phase).tick = 1) (hd : wireDiff (markerSeen b payload flagged next phase) (bitsOf payload 31 16) next = 0)
    (hph : flagged = true ∨ 2 * phase.natAbs ≤ frameNs (markerSeen b payload flagged next phase).len / 32) :
    markerJudged h n b payload flagged next phase = setBridge h n (markerSeen b payload flagged next phase) := by
  unfold markerJudged
  dsimp only
  rw [if_neg (fun hn => hn ht), hd, if_neg, if_pos rfl]
  rintro (h2 | ⟨hf, hp⟩)
  · exact absurd h2 (by decide)
  · obtain hf' | hp' := hph
    · rw [hf'] at hf
      exact absurd hf (by decide)
    · rw [decide_eq_true hp'] at hp
      exact absurd hp (by decide)

/-- What a marker in phase leaves of a locked bridge. -/
theorem markerSeen_locked (b : Bridge) (payload : Word) (flagged next : Bool) (phase : Int) (ht : b.tick = 1) (h3 : bitsOf payload 9 8 ≠ 3) :
    markerSeen b payload flagged next phase = { b with
      seen := true
      missed := 0
      phaseErr := if flagged then b.phaseErr else ofSigned 16 phase
      countdown := if bitsOf payload 13 10 = 0 then b.countdown else bitsOf payload 13 10 + ofBool next
      announced := if bitsOf payload 13 10 = 0 then b.announced else bitsOf payload 9 8 } := by
  unfold markerSeen
  rw [takeLength_locked b payload next ht h3]

theorem marker_locked (s : State) (n p arrival : Nat) (payload : Word) (flagged next : Bool) (phase : Int) (b : Bridge) (hp : p < 2)
    (hb : b = bridge s.dev n) (hl : b.led = true) (hfo : b.follow = p) (ht : b.tick = 1) (_ : b.wire < 65536) (hm : payload.getLsbD 7 = true)
    (hpl : (next, phase) = bridgePlace b n p arrival) (hfc : bitsOf payload 31 16 = (b.wire + ofBool next) % 65536)
    (hph : flagged = true ∨ 2 * phase.natAbs ≤ frameNs b.len / 32) (h3 : bitsOf payload 9 8 ≠ 3) :
    Completes (.bridgeTickMarker n p payload flagged arrival) s (fun h =>
      bridge h n = { b with
        quiet := 0
        seen := true
        missed := 0
        phaseErr := if flagged then b.phaseErr else ofSigned 16 phase
        countdown := if bitsOf payload 13 10 = 0 then b.countdown else bitsOf payload 13 10 + ofBool next
        announced := if bitsOf payload 13 10 = 0 then b.announced else bitsOf payload 9 8 } ∧
        OnlyBridge s.dev h n ∧ h.out = s.dev.out) := by
  subst hfo
  have hseen := markerSeen_locked { b with quiet := 0 } payload flagged next phase ht h3
  have hfollow : ({ b with quiet := 0 } : Bridge).follow = b.follow := rfl
  have hplace : bridgePlace { b with quiet := 0 } n b.follow arrival = (next, phase) := hpl.symm
  have hflip := markerFollows_master b hl
  have hlen : (markerSeen { b with quiet := 0 } payload flagged next phase).len = b.len := by rw [hseen]
  have htick : (markerSeen { b with quiet := 0 } payload flagged next phase).tick = 1 := by rw [hseen]; exact ht
  have hwire : (markerSeen { b with quiet := 0 } payload flagged next phase).wire = b.wire := by rw [hseen]
  generalize hq : ({ b with quiet := 0 } : Bridge) = q at *
  have heq : bridgeMarker s.dev n b.follow payload flagged arrival = setBridge (setBridge s.dev n q) n (markerSeen q payload flagged next phase) := by
    rw [bridgeMarker_eq, ← hb, hl, hm, hflip, if_neg (by decide)]
    dsimp only
    rw [hplace, if_neg (fun hn => hn hfollow.symm)]
    exact markerJudged_locked _ n q payload flagged next phase htick (wireDiff_zero _ _ next (hwire ▸ hfc)) (hlen ▸ hph)
  have hall := (bridged_set s.dev n q).trans (bridged_set (setBridge s.dev n q) n (markerSeen q payload flagged next phase))
  exact completes_bridge (f := fun h p => bridgeMarker h n p payload flagged arrival) rfl hp heq
    ⟨hall.own.trans (by rw [hseen, ← hq]), hall.only, hall.out.trans (List.append_nil _)⟩

/-- Settles O45: each management command as a step of its bridge's entries and registers; a lease, a marker and the master's silence as a step of its
timebase. -/
theorem bridgesKeepWitnessAndTime : Obligations.BridgesKeepWitnessAndTime :=
  ⟨witnessRenew_renews, witnessRenew_refused, witnessRead_reads, witnessClaim_claims, witnessClaim_refused, regRead_reads, regWrite_masks,
    leaseExpiry_expires, marker_locked, masterLoss_turns⟩

end Sys2Proof.Laws
end

section
/-! Cores post, wait, are tested and trap (R366 to R372, R375), and O48. -/

namespace Sys2Proof.Laws

open Machine Machine.Reg

/-! ### Core registers -/

/-- Other bits of a register, in whichever entry and on whichever page they are. -/
theorem fget_fset_apart (h : Head) (w w' : Wing) (f f' : Fld) (v b b' : Nat) (hb : f'.block = f.block) (ho : f'.off = f.off) (hown : ownReg f.block f.off = true)
    (hl : f.lo ≤ f.hi) (hl' : f'.lo ≤ f'.hi) (h32 : f'.hi < 32) (hd : f'.hi < f.lo ∨ f.hi < f'.lo) (hlt : b < 65536) (hlt' : b' < 65536) :
    fget (fset h w f v b) w' f' b' = fget h w' f' b' := by
  rw [fget_eq_bget, fget_eq_bget, fset_regs]
  by_cases hbank : b' = b
  · by_cases hw : w' = w
    · subst hbank hw
      exact bget_bput_bits _ _ _ _ _ _ _ _ _ _ _ _ _ hb ho hl hl' h32 hd
    · exact bget_bput_wing _ _ _ _ _ _ _ _ _ _ _ _ _ _ _ _ hw hown (by rw [hb, ho]; exact hown)
  · exact bget_bput_bank _ _ _ _ _ _ _ _ _ _ _ _ _ _ _ _ (by omega)

theorem hartCore_lt (n : Nat) : hartCore n < 65536 := by
  unfold hartCore
  omega

/-- The rung of a core is no matter to the state and the cause of any. -/
theorem coreFields_setCoreRung (h : Head) (n r c : Nat) (w : Wing) (hc : c < 65536) :
    coreState (setCoreRung h n r) w c = coreState h w c ∧ fget (setCoreRung h n r) w CPU_CORE_STATE_CAUSE c = fget h w CPU_CORE_STATE_CAUSE c := by
  have hp := frame_fset (fset h (hartWing n) CPU_CORE_STATE_RUNG r (hartCore n)) (hartWing n) (hartCore n) 0 PWR_CORE_RUNG_CURRENT r
  refine ⟨(hp.fget w CPU_CORE_STATE_STATE (by decide) (by decide) c 0).trans ?_, (hp.fget w CPU_CORE_STATE_CAUSE (by decide) (by decide) c 0).trans ?_⟩
  · exact fget_fset_apart h _ w CPU_CORE_STATE_RUNG CPU_CORE_STATE_STATE r _ c rfl rfl (by decide) (by decide) (by decide) (by decide) (by decide)
      (hartCore_lt n) hc
  · exact fget_fset_apart h _ w CPU_CORE_STATE_RUNG CPU_CORE_STATE_CAUSE r _ c rfl rfl (by decide) (by decide) (by decide) (by decide) (by decide)
      (hartCore_lt n) hc

/-- A core's state and cause shown. -/
def coreShown (h : Head) (w : Wing) (c st cause : Nat) : Head := fset (fset h w CPU_CORE_STATE_STATE st c) w CPU_CORE_STATE_CAUSE cause c

theorem coreShown_reads (h : Head) (w : Wing) (c st cause : Nat) (hst : st < 8) (hca : cause < 16) :
    coreState (coreShown h w c st cause) w c = st ∧ fget (coreShown h w c st cause) w CPU_CORE_STATE_CAUSE c = cause ∧
      Frame [] [(.cpu, 0x044)] h (coreShown h w c st cause) := by
  refine ⟨?_, bget_bput_same_of_lt _ _ _ _ _ _ _ _ _ (by decide) (by decide) hca, by simp +decide only [coreShown, frame_rules, frame_refl]⟩
  refine Eq.trans (bget_bput_bits _ _ _ _ _ _ _ _ _ _ _ _ _ rfl rfl (by decide) (by decide) (by decide) (by decide)) ?_
  exact bget_bput_same_of_lt _ _ _ _ _ _ _ _ _ (by decide) (by decide) hst

/-- A hart that waits no longer. -/
def waitDropped (h : Head) (n : Nat) : Head := { h with core := { h.core with waits := tabDel h.core.waits n } }

theorem frame_waitDropped (h : Head) (n : Nat) : Frame [.core] [] h (waitDropped h n) := (frame_mk h (by simp)).2 (frame_refl _ _ h)

theorem setCore_leaves (h : Head) (w : Wing) (c st cause : Nat) (hs : st ≠ 0) :
    setCore h w c st cause = setCoreRung (waitDropped (coreShown h w c st cause) (hartOf w c)) (hartOf w c) 0 := if_neg hs

theorem setCore_starts (h : Head) (w : Wing) (c cause : Nat) : setCore h w c 0 cause = coreShown h w c 0 cause := by
  unfold setCore
  exact if_pos rfl

/-- A core that leaves ACTIVE or stays out of it. -/
theorem setCore_reads (h : Head) (w : Wing) (c st cause : Nat) (hs : st ≠ 0) (hst : st < 8) (hca : cause < 16) (hc : c < 65536) :
    coreState (setCore h w c st cause) w c = st ∧ fget (setCore h w c st cause) w CPU_CORE_STATE_CAUSE c = cause ∧
      tabGet? (setCore h w c st cause).core.waits (hartOf w c) = none ∧ Frame [.core] [(.cpu, 0x044), (.pwr, 0x04C)] h (setCore h w c st cause) := by
  rw [setCore_leaves h w c st cause hs]
  obtain ⟨h1, h2, hf⟩ := coreShown_reads h w c st cause hst hca
  generalize coreShown h w c st cause = a at *
  have hd := frame_waitDropped a (hartOf w c)
  have hn : tabGet? (waitDropped a (hartOf w c)).core.waits (hartOf w c) = none := tabGet?_tabDel_same ..
  have hcs : coreState (waitDropped a (hartOf w c)) w c = coreState a w c := hd.fget w CPU_CORE_STATE_STATE List.not_mem_nil (by decide) c 0
  have hcc := hd.fget w CPU_CORE_STATE_CAUSE List.not_mem_nil (by decide) c 0
  generalize waitDropped a (hartOf w c) = b at *
  have hr := frame_setCoreRung b (hartOf w c) 0
  obtain ⟨r1, r2⟩ := coreFields_setCoreRung b (hartOf w c) 0 c w hc
  refine ⟨r1.trans (hcs.trans h1), r2.trans (hcc.trans h2), by rw [hr.1 .core List.not_mem_nil, hn], ?_⟩
  exact ((hf.mono (by decide) (by decide)).trans (hd.mono (by decide) (by decide))).trans (hr.mono (by decide) (by decide))

/-! ### HNY.POST -/

/-- The wing that a post names. -/
def postWing (rs1 : Nat) : Wing := if rs1.testBit 10 then .west else .east

/-- A descriptor posted on a ring. -/
def descPosted (h : Head) (w : Wing) (r a : Nat) : Head :=
  memWrite h (ringBase h w r + 64 * (fget h w CPU_RING_PTR_TAIL r % ringSize h w r)) 64 (memRead h a 64)

/-- The ring's tail after a post. -/
def tailMoved (h : Head) (w : Wing) (r t : Nat) : Head := fadd (fset h w CPU_RING_PTR_TAIL ((t + 1) % 65536) r) w CPU_CNT_POST_COUNT

/-- What a post in a mode that may post does, once its descriptor is reached. -/
theorem hnyPost_reached (h : Head) (n rs1 a : Nat) (mode : HartMode) (hr : hartRuns h n = true) (hm : illegalMode mode = false)
    (ha : rangeAll a 64 (coreReach h) = true) (hp : isPoisoned h a 64 = false) : hnyPost h n mode rs1 (some a) =
      if postRefused h (postWing rs1) (rs1 % 1024) n then send (raise h (postWing rs1) Ev.CPU_POST_REFUSED) (.hartResult n 2)
      else if ringSize h (postWing rs1) (rs1 % 1024) ≤ ringUsed h (postWing rs1) (rs1 % 1024) then
        send (fadd h (postWing rs1) CPU_CNT_FULL_COUNT) (.hartResult n 1)
      else send (tailMoved (descPosted h (postWing rs1) (rs1 % 1024) a) (postWing rs1) (rs1 % 1024) (fget h (postWing rs1) CPU_RING_PTR_TAIL (rs1 % 1024)))
        (.hartResult n 0) := by
  unfold hnyPost
  dsimp only
  rw [hr, hm, ha, hp, if_neg (by decide), if_neg (by decide), if_neg (by decide)]
  rfl

theorem tailMoved_reads (h : Head) (w : Wing) (r t : Nat) : fget (tailMoved h w r t) w CPU_RING_PTR_TAIL r = (t + 1) % 65536 ∧
    fget (tailMoved h w r t) w CPU_CNT_POST_COUNT = min (fget h w CPU_CNT_POST_COUNT + 1) (2 ^ 32 - 1) ∧
    Frame [] [(.cpu, 0x064), (.cpu, 0x07C)] h (tailMoved h w r t) := by
  have hs := frame_fset h w r 0 CPU_RING_PTR_TAIL ((t + 1) % 65536)
  refine ⟨?_, ?_, by simp +decide only [tailMoved, frame_rules, frame_refl]⟩
  · refine ((frame_fadd (fset h w CPU_RING_PTR_TAIL ((t + 1) % 65536) r) w 0 0 CPU_CNT_POST_COUNT 1).fget w CPU_RING_PTR_TAIL (by decide) (by decide) r 0).trans ?_
    exact bget_bput_same_of_lt _ _ _ _ _ _ _ _ _ (by decide) (by decide) (Nat.mod_lt _ (by decide))
  · refine (fget_fadd_same _ _ _ _ _ _ (by decide) (by decide)).trans ?_
    rw [hs.fget w CPU_CNT_POST_COUNT (by decide) (by decide) 0 0]
    rfl

theorem Frame.putMem {l : List Part} {t : List (Block × Nat)} {h g : Head} (x : Frame (.mem :: l) t h g) : Frame l t { h with mem := g.mem } g :=
  x.put (by simp only [frame_mk, List.mem_cons, true_or, or_true, and_self, frame_refl]) rfl

theorem Frame.putPoison {l : List Part} {t : List (Block × Nat)} {h g : Head} (x : Frame (.poison :: l) t h g) : Frame l t { h with poison := g.poison } g :=
  x.put (by simp only [frame_mk, List.mem_cons, true_or, or_true, and_self, frame_refl]) rfl

theorem hnyPost_posts (s : State) (n rs1 a r t e : Nat) (mode : HartMode) (w : Wing) (hrun : Runs s.dev) (hr : hartRuns s.dev n = true)
    (hm : illegalMode mode = false) (hw : w = (if rs1.testBit 10 then .west else .east)) (hrs : r = rs1 % 1024)
    (ha : rangeAll a 64 (coreReach s.dev) = true) (hp : isPoisoned s.dev a 64 = false) (hpr : postRefused s.dev w r n = false)
    (hu : ringUsed s.dev w r < ringSize s.dev w r) (ht : t = fget s.dev w CPU_RING_PTR_TAIL r)
    (he : e = ringBase s.dev w r + 64 * (t % ringSize s.dev w r)) :
    Completes (.hnyPost n mode rs1 (some a)) s (fun h =>
      h.mem = memPut s.dev.mem e 64 (memRead s.dev a 64) ∧
        (∀ x, x < e ∨ e + 64 ≤ x → memByte h.mem x = memByte s.dev.mem x) ∧ fget h w CPU_RING_PTR_TAIL r = (t + 1) % 65536 ∧
        fget h w CPU_CNT_POST_COUNT = min (fget s.dev w CPU_CNT_POST_COUNT + 1) (2 ^ 32 - 1) ∧ h.out = s.dev.out ++ [.hartResult n 0] ∧
        RegsBut s.dev h [(.cpu, 0x064), (.cpu, 0x07C)] ∧ SameButRegs { s.dev with mem := h.mem, poison := h.poison, out := h.out } h) := by
  have heq := hnyPost_reached s.dev n rs1 a mode hr hm ha hp
  rw [← hrs, show postWing rs1 = w from hw.symm, hpr, if_neg (by decide), if_neg (by omega), ← ht] at heq
  have hmem : (descPosted s.dev w r a).mem = memPut s.dev.mem e 64 (memRead s.dev a 64) := by
    rw [he, ht]
    rfl
  have hd : Frame [.mem, .poison] [] s.dev (descPosted s.dev w r a) := frame_memWrite s.dev _ _ _
  have hout : (descPosted s.dev w r a).out = s.dev.out := rfl
  generalize descPosted s.dev w r a = d at *
  obtain ⟨h1, h2, hf⟩ := tailMoved_reads d w r t
  have hall : Frame [.mem, .poison, .out, .evq] [(.cpu, 0x064), (.cpu, 0x07C)] s.dev (send (tailMoved d w r t) (.hartResult n 0)) :=
    ((hd.mono (by decide) (by decide)).trans (hf.mono (by decide) (fun _ h => h))).trans ((frame_send _ _).mono (by decide) (by decide))
  refine completes_of_eq (exec_hnyPost n mode rs1 (some a)) hrun heq ⟨(hf.1 .mem (by decide)).trans hmem, fun x hx => ?_, h1, ?_, ?_, hall.2, ?_⟩
  · rw [show (send (tailMoved d w r t) (.hartResult n 0)).mem = d.mem from hf.1 .mem (by decide), hmem]
    exact memByte_memPut_outside 64 _ _ _ _ hx
  · exact h2.trans (by rw [hd.fget w CPU_CNT_POST_COUNT List.not_mem_nil (by decide) 0 0])
  · exact (congrArg (· ++ [Msg.hartResult n 0]) (hf.1 .out (by decide))).trans (congrArg (· ++ [Msg.hartResult n 0]) hout)
  · exact hall.putMem.putPoison.putOut.sameButRegs

theorem hnyPost_refused (s : State) (n rs1 a r : Nat) (mode : HartMode) (w : Wing) (hrun : Runs s.dev) (hr : hartRuns s.dev n = true)
    (hm : illegalMode mode = false) (hw : w = (if rs1.testBit 10 then .west else .east)) (hrs : r = rs1 % 1024)
    (ha : rangeAll a 64 (coreReach s.dev) = true) (hp : isPoisoned s.dev a 64 = false)
    (hpr : postRefused s.dev w r n = true ∨ ringSize s.dev w r ≤ ringUsed s.dev w r) :
    Completes (.hnyPost n mode rs1 (some a)) s (fun h =>
      h.mem = s.dev.mem ∧ fget h w CPU_RING_PTR_TAIL r = fget s.dev w CPU_RING_PTR_TAIL r ∧
        h.out = s.dev.out ++ [.hartResult n (if postRefused s.dev w r n then 2 else 1)] ∧
        (postRefused s.dev w r n = true → EventSet h w Ev.CPU_POST_REFUSED)) := by
  have heq := hnyPost_reached s.dev n rs1 a mode hr hm ha hp
  rw [← hrs, show postWing rs1 = w from hw.symm] at heq
  refine completes_of_eq (exec_hnyPost n mode rs1 (some a)) hrun heq ?_
  cases hb : postRefused s.dev w r n with
  | true =>
    have hf := frame_raise s.dev w 0 Ev.CPU_POST_REFUSED
    rw [if_pos rfl]
    exact ⟨hf.1 .mem (by decide), hf.fget w CPU_RING_PTR_TAIL (by decide) (by decide) r 0, congrArg (· ++ [Msg.hartResult n 2]) (hf.1 .out (by decide)),
      fun _ => raiseAt_sets _ _ _ (by decide)⟩
  | false =>
    have hf := frame_fadd s.dev w 0 0 CPU_CNT_FULL_COUNT 1
    rw [if_neg (by decide), if_pos (hpr.resolve_left (by rw [hb]; decide))]
    exact ⟨hf.1 .mem (by decide), hf.fget w CPU_RING_PTR_TAIL (by decide) (by decide) r 0, congrArg (· ++ [Msg.hartResult n 1]) (hf.1 .out (by decide)),
      fun h => absurd h (by decide)⟩

theorem hart_illegal (s : State) (n rs1 tmo : Nat) (mode : HartMode) (a : Option Nat) (hrun : Runs s.dev) (hr : hartRuns s.dev n = true)
    (hm : mode = .u ∨ mode = .vs ∨ mode = .vu) : ∀ i ∈ [Instr.hnyPost n mode rs1 a, .hnyWait n mode tmo], Completes i s (fun h =>
      h = { s.dev with out := s.dev.out ++ [.hartTrap n true] }) := by
  have hill : illegalMode mode = true := by
    obtain rfl | rfl | rfl := hm
    all_goals rfl
  simp only [List.forall_mem_cons, List.not_mem_nil, false_imp_iff, implies_true, and_true]
  refine ⟨completes_of_eq (exec_hnyPost n mode rs1 a) hrun ?_ rfl, completes_of_eq (exec_hnyWait n mode tmo) hrun ?_ rfl⟩
  · unfold hnyPost
    dsimp only
    rw [hr, hill, if_neg (by decide), if_pos rfl]
    rfl
  · unfold hnyWait
    rw [hr, hill, if_neg (by decide), if_pos rfl]
    rfl

/-! ### HNY.WAIT -/

/-- A hart that waits. -/
def waitBegun (h : Head) (n tmo : Nat) : Head := { h with core := { h.core with waits := tabPut h.core.waits n tmo } }

theorem coreDescend_shallow (h : Head) (n : Nat) (hr : fget h (hartWing n) PWR_CORE_RUNG_REQUEST (hartCore n) < 3) : coreDescend h n = h := by
  unfold coreDescend
  dsimp only
  rw [decide_eq_true hr, Bool.true_or, Bool.true_or, if_pos rfl]

/-- The rung of a core as its two registers show it. -/
theorem setCoreRung_reads (h : Head) (n r : Nat) (hr : r < 8) : coreRung (setCoreRung h n r) n = r ∧
    fget (setCoreRung h n r) (hartWing n) CPU_CORE_STATE_RUNG (hartCore n) = r ∧
    fget (setCoreRung h n r) (hartWing n) PWR_CORE_RUNG_REQUEST (hartCore n) = fget h (hartWing n) PWR_CORE_RUNG_REQUEST (hartCore n) := by
  have hp := frame_fset (fset h (hartWing n) CPU_CORE_STATE_RUNG r (hartCore n)) (hartWing n) (hartCore n) 0 PWR_CORE_RUNG_CURRENT r
  refine ⟨coreRung_setCoreRung h n r hr, ?_, ?_⟩
  · refine (hp.fget _ CPU_CORE_STATE_RUNG (by decide) (by decide) _ 0).trans ?_
    exact bget_bput_same_of_lt _ _ _ _ _ _ _ _ _ (by decide) (by decide) hr
  · refine (bget_bput_bits _ _ _ _ _ _ _ _ _ _ _ _ _ rfl rfl (by decide) (by decide) (by decide) (by decide)).trans ?_
    exact (frame_fset h (hartWing n) (hartCore n) 0 CPU_CORE_STATE_RUNG r).fget _ PWR_CORE_RUNG_REQUEST (by decide) (by decide) _ 0

theorem hnyWait_waits (s : State) (n tmo : Nat) (mode : HartMode) (hrun : Runs s.dev) (hr : hartRuns s.dev n = true) (hm : mode = .m ∨ mode = .s)
    (hq : fget s.dev (hartWing n) PWR_CORE_RUNG_REQUEST (hartCore n) < 3) :
    Completes (.hnyWait n mode tmo) s (fun h =>
      tabGet? h.core.waits n = some tmo ∧ coreRung h n = 1 ∧ fget h (hartWing n) CPU_CORE_STATE_RUNG (hartCore n) = 1 ∧
        RegsBut s.dev h [(.cpu, 0x044), (.pwr, 0x04C)] ∧ SameButRegs { s.dev with core := h.core } h) := by
  obtain ⟨h1, h2, h3⟩ := setCoreRung_reads (waitBegun s.dev n tmo) n 1 (by decide)
  have hleg : illegalMode mode = false := by
    obtain rfl | rfl := hm
    all_goals rfl
  have heq : hnyWait s.dev n mode tmo = setCoreRung (waitBegun s.dev n tmo) n 1 := by
    unfold hnyWait
    rw [hr, hleg, if_neg (by decide), if_neg (by decide)]
    exact coreDescend_shallow _ n (h3 ▸ hq)
  have hb : Frame [.core] [] s.dev (waitBegun s.dev n tmo) := (frame_mk s.dev (by simp)).2 (frame_refl _ _ s.dev)
  have hw : tabGet? (waitBegun s.dev n tmo).core.waits n = some tmo := tabGet?_tabPut_same ..
  generalize waitBegun s.dev n tmo = a at *
  have hf := frame_setCoreRung a n 1
  have hall : Frame [.core, .evq] [(.cpu, 0x044), (.pwr, 0x04C)] s.dev (setCoreRung a n 1) :=
    (hb.mono (by decide) (by decide)).trans (hf.mono (by decide) (fun _ h => h))
  exact completes_of_eq (exec_hnyWait n mode tmo) hrun heq ⟨by rw [hf.1 .core List.not_mem_nil, hw], h1, h2, hall.2, hall.putCore.sameButRegs⟩

/-- A wait that ends. -/
theorem endWait_waiting (h : Head) (n cause : Nat) (hw : tabHas h.core.waits n = true) :
    endWait h n cause = send (setCoreRung (waitDropped h n) n 0) (.hartResult n cause) := if_pos hw

theorem waitWake_wakes (s : State) (n : Nat) (irq forced tmo : Bool) (hrun : Runs s.dev) (_ : n < 52) (hw : tabHas s.dev.core.waits n = true)
    (hd : coreDeep s.dev n = false) (hc : irq = true ∨ forced = true ∨ (tmo = true ∧ tabGet s.dev.core.waits 0 n ≠ 0)) :
    Completes (.waitWake n irq forced tmo) s (fun h =>
      tabGet? h.core.waits n = none ∧ coreRung h n = 0 ∧
        h.out = s.dev.out ++ [.hartResult n (if irq then 0 else if forced then 1 else 2)] ∧
        RegsBut s.dev h [(.cpu, 0x044), (.pwr, 0x04C)] ∧ SameButRegs { s.dev with core := h.core, out := h.out } h) := by
  have heq : waitWake s.dev n irq forced tmo = endWait s.dev n (if irq then 0 else if forced then 1 else 2) := by
    unfold waitWake forceWake
    rw [hd, if_neg (by decide)]
    cases irq with
    | true => rfl
    | false =>
      cases forced with
      | true => rfl
      | false =>
        obtain ⟨ht, h0⟩ : tmo = true ∧ tabGet s.dev.core.waits 0 n ≠ 0 := by simpa using hc
        rw [ht, if_neg (by decide), if_neg (by decide)]
        exact if_pos (by simpa using h0)
  generalize (if irq then 0 else if forced then 1 else 2) = cause at *
  rw [endWait_waiting s.dev n cause hw] at heq
  have hb := frame_waitDropped s.dev n
  have hn : tabGet? (waitDropped s.dev n).core.waits n = none := tabGet?_tabDel_same ..
  generalize waitDropped s.dev n = a at *
  obtain ⟨h1, -, -⟩ := setCoreRung_reads a n 0 (by decide)
  have hf := frame_setCoreRung a n 0
  have hall : Frame [.core, .out, .evq] [(.cpu, 0x044), (.pwr, 0x04C)] s.dev (send (setCoreRung a n 0) (.hartResult n cause)) :=
    ((hb.mono (by decide) (by decide)).trans (hf.mono (by decide) (fun _ h => h))).trans ((frame_send _ _).mono (by decide) (by decide))
  refine completes_of_eq (exec_waitWake n irq forced tmo) hrun heq ⟨?_, h1, ?_, hall.2, hall.putCore.putOut.sameButRegs⟩
  · exact (congrArg (fun k => tabGet? k.waits n) (hf.1 .core List.not_mem_nil)).trans hn
  · exact congrArg (· ++ [Msg.hartResult n cause]) ((hf.1 .out List.not_mem_nil).trans (hb.1 .out (by decide)))

/-! ### A core's state -/

theorem coreIndex_lt (h : Head) (w : Wing) : fget h w CPU_CORE_INDEX_INDEX < 32 := bget_lt ..

theorem coreEnable_tests (s : State) (ini : Initiator) (w : Wing) (c : Nat) (hrun : Runs s.dev) (hw : Writable s.dev ini (pg .cpu w) 0x048)
    (hc : c = fget s.dev w CPU_CORE_INDEX_INDEX) (hs : coreState s.dev w c = 1 ∨ coreState s.dev w c = 4) :
    Completes (.coreEnable ini w) s (fun h =>
      coreState h w c = 2 ∧ fget h w CPU_CORE_STATE_CAUSE c = 0 ∧ RegsBut s.dev h [(.cpu, 0x044), (.pwr, 0x04C)] ∧
        h.mem = s.dev.mem ∧ h.out = s.dev.out) := by
  have heq : coreCommand s.dev ini w 1 = setCore (reply s.dev false) w c 2 0 := by
    unfold coreCommand
    rw [withWrite_ok s.dev ini _ _ _ hw]
    unfold coreCmdEffect
    rw [hc] at hs ⊢
    exact if_pos hs
  have hlt := coreIndex_lt s.dev w
  obtain ⟨h1, h2, -, hf⟩ := setCore_reads (reply s.dev false) w c 2 0 (by decide) (by decide) (by decide) (by omega)
  exact completes_of_eq (exec_coreEnable ini w) hrun heq ⟨h1, h2, hf.2, hf.1 .mem (by decide), hf.1 .out (by decide)⟩

theorem coreFence_fences (s : State) (ini : Initiator) (w : Wing) (c : Nat) (hrun : Runs s.dev) (hw : Writable s.dev ini (pg .cpu w) 0x048)
    (hc : c = fget s.dev w CPU_CORE_INDEX_INDEX) (hs : coreState s.dev w c = 0) (hfb : ∀ v, fget s.dev v EVT_CTRL_FALLBACK_HART ≠ hartOf w c)
    (hac : activeCores s.dev ≠ 1) :
    Completes (.coreFence ini w) s (fun h =>
      coreState h w c = 4 ∧ fget h w CPU_CORE_STATE_CAUSE c = 3 ∧ RegsBut s.dev h [(.cpu, 0x044), (.pwr, 0x04C)] ∧
        h.mem = s.dev.mem ∧ h.out = s.dev.out) := by
  have hbad : ¬ (wings.any (fun v => fget (reply s.dev false) v EVT_CTRL_FALLBACK_HART == hartOf w c) = true ∨
      (coreState (reply s.dev false) w c = 0 ∧ activeCores (reply s.dev false) = 1)) := by
    rintro (hany | hone)
    · obtain ⟨v, -, hv⟩ := List.any_eq_true.mp hany
      exact hfb v (eq_of_beq hv)
    · exact hac hone.2
  have heq : coreCommand s.dev ini w 2 = setCore (reply s.dev false) w c 4 3 := by
    unfold coreCommand
    rw [withWrite_ok s.dev ini _ _ _ hw]
    unfold coreCmdEffect
    dsimp only
    rw [show fget (reply s.dev false) w CPU_CORE_INDEX_INDEX = c from hc.symm, if_neg (by decide), if_pos rfl, if_neg hbad]
    exact if_pos hs
  have hlt := coreIndex_lt s.dev w
  obtain ⟨h1, h2, -, hf⟩ := setCore_reads (reply s.dev false) w c 4 3 (by decide) (by decide) (by decide) (by omega)
  exact completes_of_eq (exec_coreFence ini w) hrun heq ⟨h1, h2, hf.2, hf.1 .mem (by decide), hf.1 .out (by decide)⟩

theorem coreReady_starts (s : State) (w : Wing) (c : Nat) (hrun : Runs s.dev) (hc : c < 26) (hs : coreState s.dev w c = 2) :
    Completes (.coreReady w c) s (fun h =>
      coreState h w c = 0 ∧ EventSet h w Ev.CPU_CORE_READY ∧
        h.out = s.dev.out ++ [.hartStart (hartOf w c) (pget s.dev w CPU_START_LO_ADDR CPU_START_HI_ADDR * 4)] ∧
        RegsBut s.dev h [(.cpu, 0x010), (.cpu, 0x044)] ∧ h.mem = s.dev.mem) := by
  generalize hm : Msg.hartStart (hartOf w c) (pget s.dev w CPU_START_LO_ADDR CPU_START_HI_ADDR * 4) = m
  have heq : coreReady s.dev w c = raise (send (coreShown s.dev w c 0 0) m) w Ev.CPU_CORE_READY := by
    unfold coreReady
    rw [if_pos ⟨hc, hs⟩, setCore_starts]
    have hst : pget (coreShown s.dev w c 0 0) w CPU_START_LO_ADDR CPU_START_HI_ADDR = pget s.dev w CPU_START_LO_ADDR CPU_START_HI_ADDR := by
      obtain ⟨-, -, hf⟩ := coreShown_reads s.dev w c 0 0 (by decide) (by decide)
      unfold pget
      rw [hf.fget w CPU_START_LO_ADDR (by decide) (by decide), hf.fget w CPU_START_HI_ADDR (by decide) (by decide)]
    rw [← hm, ← hst]
  obtain ⟨h1, -, hf⟩ := coreShown_reads s.dev w c 0 0 (by decide) (by decide)
  generalize coreShown s.dev w c 0 0 = a at *
  have hr := frame_raise (send a m) w 0 Ev.CPU_CORE_READY
  have hall : Frame [.out, .evq] [(.cpu, 0x010), (.cpu, 0x044)] s.dev (raise (send a m) w Ev.CPU_CORE_READY) :=
    ((hf.mono (by decide) (by decide)).trans ((frame_send a m).mono (by decide) (by decide))).trans (hr.mono (by decide) (by decide))
  refine completes_of_eq (exec_coreReady w c) hrun heq ⟨(hr.fget w CPU_CORE_STATE_STATE (by decide) (by decide) c 0).trans h1,
    raiseAt_sets _ _ _ (by decide), ?_, hall.2, hall.1 .mem (by decide)⟩
  exact (hr.1 .out (by decide)).trans (congrArg (· ++ [m]) (hf.1 .out (by decide)))

theorem coreFailed_fails (s : State) (w : Wing) (c cause : Nat) (hrun : Runs s.dev) (hc : c < 26) (hs : coreState s.dev w c ≠ 3) (hca : cause < 16) :
    Completes (.coreFailed w c cause) s (fun h =>
      coreState h w c = 3 ∧ fget h w CPU_CORE_STATE_CAUSE c = cause ∧ EventSet h w Ev.CPU_CORE_FAILED ∧
        tabGet? h.core.waits (hartOf w c) = none ∧ RegsBut s.dev h [(.cpu, 0x010), (.cpu, 0x044), (.pwr, 0x04C)] ∧ h.mem = s.dev.mem ∧
        h.out = s.dev.out) := by
  have heq : coreFailed s.dev w c cause = raise (setCore s.dev w c 3 cause) w Ev.CPU_CORE_FAILED := if_pos ⟨hc, hs⟩
  obtain ⟨h1, h2, h3, hf⟩ := setCore_reads s.dev w c 3 cause (by decide) (by decide) hca (by omega)
  generalize setCore s.dev w c 3 cause = a at *
  have hr := frame_raise a w 0 Ev.CPU_CORE_FAILED
  have hall : Frame [.core, .evq] [(.cpu, 0x010), (.cpu, 0x044), (.pwr, 0x04C)] s.dev (raise a w Ev.CPU_CORE_FAILED) :=
    (hf.mono (by decide) (by decide)).trans (hr.mono (by decide) (by decide))
  exact completes_of_eq (exec_coreFailed w c cause) hrun heq ⟨(hr.fget w CPU_CORE_STATE_STATE (by decide) (by decide) c 0).trans h1,
    (hr.fget w CPU_CORE_STATE_CAUSE (by decide) (by decide) c 0).trans h2, raiseAt_sets _ _ _ (by decide),
    (congrArg (fun k => tabGet? k.waits (hartOf w c)) (hr.1 .core (by decide))).trans h3, hall.2, hall.1 .mem (by decide), hall.1 .out (by decide)⟩

/-! ### Access faults and completion queues -/

theorem coreAccess_traps (s : State) (n a : Nat) (load : Bool) (hrun : Runs s.dev) (hr : hartRuns s.dev n = true) (ha : a < 0x40000000 ∨ 0x50000000 ≤ a)
    (hd : deviceReach a = false) (hm : coreReach s.dev a = false ∨ (load = true ∧ isPoisoned s.dev a 1 = true)) :
    Completes (.coreAccessFault n a load) s (fun h => h = { s.dev with out := s.dev.out ++ [.hartTrap n false] }) := by
  have hx : (decide (0x40000000 ≤ a) && decide (a < 0x50000000)) = false := by
    rw [Bool.and_eq_false_iff, decide_eq_false_iff_not, decide_eq_false_iff_not]
    omega
  have hf : (!deviceReach a && (!coreReach s.dev a || (load && isPoisoned s.dev a 1))) = true := by
    rw [hd]
    obtain hc | ⟨hl, hp⟩ := hm
    · rw [hc]
      rfl
    · rw [hl, hp]
      simp
  refine completes_of_eq (exec_coreAccessFault n a load) hrun ?_ rfl
  unfold coreAccess
  rw [hr, if_neg (by decide), hx, if_neg (by decide), if_pos hf]
  rfl

theorem indicesOf_nil {α : Type} (l : List α) (p : α → Bool) (hp : ∀ x ∈ l, p x = false) : indicesOf l p = [] := by
  unfold indicesOf
  rw [List.map_eq_nil_iff, List.filter_eq_nil_iff]
  exact fun e he => by rw [hp e.1 (List.fst_mem_of_mem_zipIdx he)]; decide

/-- With no entry held for a queue, its head frees nothing more. -/
theorem releaseHeld_none (h : Head) (w : Wing) (q fuel : Nat) (hh : ∀ o ∈ h.eng.ops, o.held = true → o.wing = w → o.cq ≠ q) :
    releaseHeld h w q fuel = h := by
  have hnone : indicesOf h.eng.ops (fun o => o.held && o.wing == w && o.cq == q) = [] := by
    refine indicesOf_nil _ _ fun o ho => Bool.eq_false_iff.mpr fun hb => ?_
    simp only [Bool.and_eq_true, beq_iff_eq] at hb
    exact hh o ho hb.1.1 hb.1.2 hb.2
  cases fuel with
  | zero => rfl
  | succ fuel =>
    unfold releaseHeld
    rw [hnone]
    rfl

theorem cqHead_frees (s : State) (ini : Initiator) (w : Wing) (v q : Nat) (hrun : Runs s.dev) (hw : Writable s.dev ini (pg .cpu w) 0x078)
    (hq : q = fget s.dev w CPU_CQ_INDEX_INDEX) (hv : v < 65536) (hh : ∀ o ∈ s.dev.eng.ops, o.held = true → o.wing = w → o.cq ≠ q) :
    Completes (.cqHeadWrite ini w v) s (fun h =>
      fget h w CPU_CQ_PTR_HEAD q = v ∧ fget h w CPU_CQ_PTR_TAIL q = fget s.dev w CPU_CQ_PTR_TAIL q ∧ RegsBut s.dev h [(.cpu, 0x078)] ∧
        SameButRegs (reply s.dev false) h) := by
  have heq : cqHeadWrite s.dev ini w v = fset (reply s.dev false) w CPU_CQ_PTR_HEAD v q := by
    unfold cqHeadWrite
    dsimp only
    rw [withWrite_ok s.dev ini _ _ _ hw, ← hq, Nat.mod_eq_of_lt hv]
    exact releaseHeld_none _ w q _ hh
  have hf := frame_fset (reply s.dev false) w q 0 CPU_CQ_PTR_HEAD v
  refine completes_of_eq (exec_cqHeadWrite ini w v) hrun heq ⟨bget_bput_same_of_lt _ _ _ _ _ _ _ _ _ (by decide) (by decide) hv, ?_, hf.2,
    (hf.mono (l := [.evq]) (by decide) (fun _ h => h)).sameButRegs⟩
  exact bget_bput_bits _ _ _ _ _ _ _ _ _ _ _ _ _ rfl rfl (by decide) (by decide) (by decide) (by decide)

/-- Settles O48: each instruction and command of a core as its registers, its waits and its answers show it. -/
theorem coresPostAndWait : Obligations.CoresPostAndWait :=
  ⟨hnyPost_posts, hnyPost_refused, hart_illegal, hnyWait_waits, waitWake_wakes, coreEnable_tests, coreFence_fences, coreReady_starts, coreFailed_fails,
    coreAccess_traps, cqHead_frees⟩

end Sys2Proof.Laws
end

section
/-! Descriptors that start, and the DMA engine's transfers and channels (R64, R65, R385 to R391). -/

namespace Sys2Proof.Laws

open Machine Machine.Reg

/-! ### Descriptors -/

/-- A descriptor that its source offers is consumed: a ring's head moves, and nothing else. -/
theorem offered_frame {h h' : Head} {w : Wing} {cls : Block} {src : Source} {t : Taken} (ho : offered? h w cls src = some (t, h')) :
    Frame [] [(.cpu, 0x064)] h h' := by
  cases src with
  | internal d =>
    obtain ⟨-, rfl⟩ := Prod.mk.inj (Option.some.inj ho)
    exact frame_refl _ _ h
  | docent d =>
    obtain ⟨-, rfl⟩ := Prod.mk.inj (Option.some.inj ho)
    exact frame_refl _ _ h
  | ring n =>
    unfold offered? at ho
    dsimp only at ho
    split at ho
    · exact absurd ho (by simp)
    · obtain ⟨-, rfl⟩ := Prod.mk.inj (Option.some.inj ho)
      exact (frame_fset h w n 0 CPU_RING_PTR_HEAD _).mono (by decide) (by decide)

/-- A descriptor that may start reaches its opcode's own meaning. -/
theorem runDesc_starts {h h' : Head} {w : Wing} {cls : Block} {src : Source} {opcode : Nat} {t : Taken} (x : Starts h w cls src opcode t h')
    (hop : (classOpcodes cls).contains opcode = true) (f : Head → Taken → EngOp → Head) : runDesc h w cls src opcode f = f h' t (newOp cls w t) := by
  obtain ⟨hoff, hmay, hopc, htag, hsys⟩ := x
  have hfree : h.eng.ops.any (fun x => x.cls == cls && x.wing == w && x.tag == (newOp cls w t).tag) = false := by
    refine List.any_eq_false.mpr fun o ho hb => ?_
    simp only [Bool.and_eq_true, beq_iff_eq] at hb
    exact htag o ho hb.1.1 hb.1.2 hb.2
  have hsystem : (dSystem t.d && !t.system) = false := by
    cases hs : dSystem t.d with
    | false => rfl
    | true => rw [hsys hs]; rfl
  unfold runDesc
  rw [hoff]
  dsimp only
  rw [hmay, hopc, hop, hfree, hsystem]
  simp

theorem frame_syncDma (h : Head) (w : Wing) (c : Nat) : Frame [.eng] [(.dma, 0x048)] h (syncDma h w c) := by
  simp +decide only [syncDma, frame_rules, frame_mk, true_or, or_true, and_self, frame_refl]

theorem frame_dmaSync (h : Head) (o : EngOp) : Frame [.eng] [(.dma, 0x048)] h (dmaSync h o) := by
  unfold dmaSync
  split
  · exact frame_syncDma h _ _
  · exact frame_refl _ _ h

/-- The registers that an operation's entry into the list of those outstanding may change. -/
def pushRegs : List (Block × Nat) := [(.dma, 0x048), (.foq, 0x010), (.foq, 0x044), (.mft, 0x010)]

theorem frame_pushOp (h : Head) (o : EngOp) : Frame [.eng, .foy, .evq] pushRegs h (pushOp h o) := by
  have hb : Frame [.eng] [] h { h with eng := { h.eng with ops := h.eng.ops ++ [o] } } := (frame_mk h (by simp)).2 (frame_refl _ _ h)
  exact ((hb.mono (by decide) (by decide)).trans ((frame_updateBounds _ o.wing).mono (by decide) (by decide))).trans
    ((frame_dmaSync _ o).mono (by decide) (by decide))

/-- What a DMA channel makes of an operation: whether it can end. -/
def dmaReady (l : List EngOp) (w : Wing) (c : Nat) (o : EngOp) : EngOp :=
  if inChannel w c o then { o with ready := o.prio == ((l.filter (inChannel w c)).map (·.prio)).foldl max 0 } else o

theorem ops_syncDma (h : Head) (w : Wing) (c : Nat) : (syncDma h w c).eng.ops = h.eng.ops.map (dmaReady h.eng.ops w c) := rfl

/-- The list of those outstanding with one more. -/
def addOp (h : Head) (o : EngOp) : Head := { h with eng := { h.eng with ops := h.eng.ops ++ [o] } }

theorem pushOp_eq (h : Head) (o : EngOp) : pushOp h o = dmaSync (updateBounds (addOp h o) o.wing) o := rfl

theorem ops_bounds (h : Head) (o : EngOp) : (updateBounds (addOp h o) o.wing).eng.ops = h.eng.ops ++ [o] := by
  have hu := (frame_updateBounds (addOp h o) o.wing).1 .eng (by decide)
  generalize updateBounds (addOp h o) o.wing = g at *
  exact congrArg EngState.ops hu

/-- The operation of a class but DMA that becomes outstanding. -/
theorem ops_pushOp (h : Head) (o : EngOp) (hc : o.cls ≠ .dma) : (pushOp h o).eng.ops = h.eng.ops ++ [o] := by
  rw [pushOp_eq, dmaSync, if_neg hc, ops_bounds]

theorem ops_pushOp_dma (h : Head) (o : EngOp) (hc : o.cls = .dma) :
    (pushOp h o).eng.ops = (h.eng.ops ++ [o]).map (dmaReady (h.eng.ops ++ [o]) o.wing o.chan) := by
  rw [pushOp_eq, dmaSync, if_pos hc, ops_syncDma, ops_bounds]

theorem dmaReady_but (l : List EngOp) (w : Wing) (c : Nat) (o : EngOp) : dmaReady l w c o = { o with ready := (dmaReady l w c o).ready } := by
  unfold dmaReady
  split <;> rfl

/-! ### Transfers -/

/-- The operation of a transfer that starts. -/
def dmaOp (h : Head) (o : EngOp) (d : Desc) (copy : Bool) (src dst : List (Nat × Nat)) (c prio : Nat) : EngOp :=
  { o with
    bytes := if (if copy then poisonedIn h src else []) = [] then dmLen d else 0
    status := if (if copy then poisonedIn h src else []) = [] then .done else .mediaFail
    place := if (if copy then poisonedIn h src else []) = [] then
      placePieces dst (if copy then readPieces h src else fillBytes (dmPattern d) (dmLen d)) else []
    poison := ((if copy then poisonedIn h src else []).map (fun b => subPieces dst b.1 b.2)).flatten
    chan := c
    prio := prio }

/-- The transfers that a new one preempts, counted. -/
def preemptCounted (h : Head) (w : Wing) (c prio : Nat) : Head :=
  if h.eng.ops.any (inChannel w c) && decide (movingPrio h w c < prio) then fadd h w DMA_CNT_PREEMPT_COUNT else h

theorem frame_preemptCounted (h : Head) (w : Wing) (c prio : Nat) : Frame [] [(.dma, 0x054)] h (preemptCounted h w c prio) := by
  simp +decide only [preemptCounted, frame_ite, frame_rules, frame_refl, ite_self]

/-- A ring's priority, as a transfer takes it. -/
def ringPrio (h : Head) (w : Wing) (t : Taken) : Nat :=
  match t.ring with
  | some n => if t.docent then 0 else fget h w CPU_RING_CFG_PRIO n
  | none => 0

/-- What a transfer's checks ask (R375, R386, R387). -/
structure DmaSound (h : Head) (t : Taken) (copy : Bool) (src dst : List (Nat × Nat)) : Prop where
  some : 1 ≤ dmLen t.d
  most : dmLen t.d ≤ 2 ^ 30
  dstWrap : wrapOk (dmDstWrap t.d) (dmDstW t.d) = true
  srcWrap : copy = true → wrapOk (dmSrcWrap t.d) (dmSrcW t.d) = true
  inWrap : dmDstWrap t.d = true → dmLen t.d ≤ 2 ^ dmDstW t.d
  dstReach : ∀ p ∈ dst, rangeAll p.1 p.2 (coreReach h) = true
  srcReach : copy = true → ∀ p ∈ src, if inWindow p.1 then windowReadable h p.1 p.2 = true else rangeAll p.1 p.2 (coreReach h) = true

/-- The checks that refuse a transfer whole. -/
def dmaRefused (h : Head) (d : Desc) (copy : Bool) (src dst : List (Nat × Nat)) : Bool :=
  dmLen d = 0 || decide (2 ^ 30 < dmLen d) || !wrapOk (dmDstWrap d) (dmDstW d) || (copy && !wrapOk (dmSrcWrap d) (dmSrcW d)) ||
    (dmDstWrap d && decide (2 ^ dmDstW d < dmLen d)) || !dst.all (fun p => rangeAll p.1 p.2 (coreReach h)) ||
    (copy && !(src.filter (fun p => !inWindow p.1)).all (fun p => rangeAll p.1 p.2 (coreReach h)))

/-- A source piece in an Archive window that the window does not show. -/
def dmaShut (h : Head) (copy : Bool) (src : List (Nat × Nat)) : Option (Nat × Nat) :=
  if copy then src.find? (fun p => inWindow p.1 && !windowReadable h p.1 p.2) else none

theorem dmaStart_checks (h0 h : Head) (w : Wing) (t : Taken) (o : EngOp) (copy : Bool) (src dst : List (Nat × Nat)) (c : Nat)
    (hs : src = dmaPieces (dmSrc t.d) (dmLen t.d) (dmSrcWrap t.d) (dmSrcW t.d)) (hd : dst = dmaPieces (dmDst t.d) (dmLen t.d) (dmDstWrap t.d) (dmDstW t.d))
    (hr : dmaRefused h t.d copy src dst = false) (hx : dmaShut h copy src = none) (hc : pickChannel h w (ringPrio h w t) = some c) :
    dmaStart h0 h w t o copy = pushOp (preemptCounted h w c (ringPrio h w t)) (dmaOp h o t.d copy src dst c (ringPrio h w t)) := by
  subst hs hd
  unfold dmaStart
  refine (if_neg (fun hb => ?_)).trans ?_
  · change dmaRefused h t.d copy _ _ = true at hb
    rw [hr] at hb
    exact absurd hb (by decide)
  · change (match dmaShut h copy _ with | some _ => _ | none => match pickChannel h w (ringPrio h w t) with | none => _ | some _ => _) = _
    rw [hx, hc]
    rfl

theorem dmaStart_eq (h0 h : Head) (w : Wing) (t : Taken) (o : EngOp) (copy : Bool) (src dst : List (Nat × Nat)) (prio c : Nat)
    (hs : src = dmaPieces (dmSrc t.d) (dmLen t.d) (dmSrcWrap t.d) (dmSrcW t.d)) (hd : dst = dmaPieces (dmDst t.d) (dmLen t.d) (dmDstWrap t.d) (dmDstW t.d))
    (x : DmaSound h t copy src dst) (hp : prio = ringPrio h w t) (hc : pickChannel h w prio = some c) :
    dmaStart h0 h w t o copy = pushOp (preemptCounted h w c prio) (dmaOp h o t.d copy src dst c prio) := by
  obtain ⟨h1, h2, h3, h4, h5, h6, h7⟩ := x
  have hdst : dst.all (fun p => rangeAll p.1 p.2 (coreReach h)) = true := List.all_eq_true.mpr h6
  have hwrap : (copy && !wrapOk (dmSrcWrap t.d) (dmSrcW t.d)) = false := by
    cases copy with
    | false => rfl
    | true => rw [h4 rfl]; rfl
  have hin : (dmDstWrap t.d && decide (2 ^ dmDstW t.d < dmLen t.d)) = false := by
    cases hw : dmDstWrap t.d with
    | false => rfl
    | true => rw [decide_eq_false (Nat.not_lt.mpr (h5 hw))]; rfl
  have hsrc : (copy && !(src.filter (fun p => !inWindow p.1)).all (fun p => rangeAll p.1 p.2 (coreReach h))) = false := by
    cases copy with
    | false => rfl
    | true =>
      have hall : (src.filter (fun p => !inWindow p.1)).all (fun p => rangeAll p.1 p.2 (coreReach h)) = true := by
        refine List.all_eq_true.mpr fun p hp => ?_
        obtain ⟨hm, hw⟩ := List.mem_filter.mp hp
        have hr := h7 rfl p hm
        rwa [if_neg (by simpa using hw)] at hr
      rw [hall]
      rfl
  have hshut : (if copy then src.find? (fun p => inWindow p.1 && !windowReadable h p.1 p.2) else none) = none := by
    cases copy with
    | false => rfl
    | true =>
      refine List.find?_eq_none.mpr fun p hm hb => ?_
      simp only [Bool.and_eq_true, Bool.not_eq_true'] at hb
      have hr := h7 rfl p hm
      rw [if_pos hb.1, hb.2] at hr
      exact absurd hr (by decide)
  have href : dmaRefused h t.d copy src dst = false := by
    unfold dmaRefused
    rw [hdst, hwrap, hin, hsrc, h3, decide_eq_false (Nat.not_lt.mpr h2), decide_eq_false (Nat.ne_of_gt h1)]
    rfl
  subst hp
  exact dmaStart_checks h0 h w t o copy src dst c hs hd href hshut hc

theorem dma_starts (s : State) (w : Wing) (src : Source) (t : Taken) (h' : Head) (copy : Bool) (sp dp bad : List (Nat × Nat)) (prio c v : Nat)
    (hrun : Runs s.dev) (x : Starts s.dev w .dma src (if copy then 1 else 2) t h') (h1 : 1 ≤ dmLen t.d) (h2 : dmLen t.d ≤ 2 ^ 30)
    (h3 : wrapOk (dmDstWrap t.d) (dmDstW t.d) = true) (h4 : copy = true → wrapOk (dmSrcWrap t.d) (dmSrcW t.d) = true)
    (h5 : dmDstWrap t.d = true → dmLen t.d ≤ 2 ^ dmDstW t.d) (hd : dp = dmaPieces (dmDst t.d) (dmLen t.d) (dmDstWrap t.d) (dmDstW t.d))
    (hs : sp = dmaPieces (dmSrc t.d) (dmLen t.d) (dmSrcWrap t.d) (dmSrcW t.d)) (h6 : ∀ p ∈ dp, rangeAll p.1 p.2 (coreReach h') = true)
    (h7 : copy = true → ∀ p ∈ sp, if inWindow p.1 then windowReadable h' p.1 p.2 = true else rangeAll p.1 p.2 (coreReach h') = true)
    (hp : prio = (match t.ring with
      | some n => if t.docent then 0 else fget h' w CPU_RING_CFG_PRIO n
      | none => 0))
    (hc : pickChannel h' w prio = some c) (hb : bad = (if copy then poisonedIn h' sp else []))
    (hv : v = (if copy then readPieces h' sp else fillBytes (dmPattern t.d) (dmLen t.d))) :
    Completes (if copy then .dmaCopy w src else .dmaFill w src) s (fun h =>
      h.eng.ops.length = h'.eng.ops.length + 1 ∧
        (∃ o ∈ h.eng.ops, o.cls = .dma ∧ o.wing = w ∧ o.tag = dTag t.d ∧ o.chan = c ∧ o.prio = prio ∧
          o.bytes = (if bad = [] then dmLen t.d else 0) ∧ o.status = (if bad = [] then .done else .mediaFail) ∧
          o.place = (if bad = [] then placePieces dp v else []) ∧ o.held = false) ∧
        h.mem = s.dev.mem ∧ h.keys = s.dev.keys ∧ h.vit = s.dev.vit) := by
  have hprio : prio = ringPrio h' w t := hp
  have hop : (classOpcodes .dma).contains (if copy then 1 else 2) = true := by cases copy <;> decide
  have hstart := dmaStart_eq s.dev h' w t (newOp .dma w t) copy sp dp prio c hs hd ⟨h1, h2, h3, h4, h5, h6, h7⟩ hprio hc
  have hrunD := runDesc_starts x hop (fun h' t o => dmaStart s.dev h' w t o copy)
  rw [hstart] at hrunD
  have hbase := (offered_frame x.offered).mono (l := [.eng, .foy, .evq]) (t := (.cpu, 0x064) :: (.dma, 0x054) :: pushRegs) (by decide) (by decide)
  have hpre := frame_preemptCounted h' w c prio
  have hpush := frame_pushOp (preemptCounted h' w c prio) (dmaOp h' (newOp .dma w t) t.d copy sp dp c prio)
  have hops := ops_pushOp_dma (preemptCounted h' w c prio) (dmaOp h' (newOp .dma w t) t.d copy sp dp c prio) rfl
  rw [hpre.1 .eng List.not_mem_nil] at hops
  have hall := (hbase.trans (hpre.mono (by decide) (by decide))).trans (hpush.mono (by decide) (by decide))
  have hP : (pushOp (preemptCounted h' w c prio) (dmaOp h' (newOp .dma w t) t.d copy sp dp c prio)).eng.ops.length = h'.eng.ops.length + 1 ∧
      (∃ o ∈ (pushOp (preemptCounted h' w c prio) (dmaOp h' (newOp .dma w t) t.d copy sp dp c prio)).eng.ops, o.cls = .dma ∧ o.wing = w ∧ o.tag = dTag t.d ∧
        o.chan = c ∧ o.prio = prio ∧ o.bytes = (if bad = [] then dmLen t.d else 0) ∧ o.status = (if bad = [] then .done else .mediaFail) ∧
        o.place = (if bad = [] then placePieces dp v else []) ∧ o.held = false) := by
    rw [hops]
    refine ⟨by rw [List.length_map, List.length_append]; rfl, _, List.mem_map_of_mem (List.mem_append_right _ List.mem_cons_self), ?_⟩
    rw [dmaReady_but, hb, hv]
    exact ⟨rfl, rfl, rfl, rfl, rfl, rfl, rfl, rfl, rfl⟩
  generalize pushOp (preemptCounted h' w c prio) (dmaOp h' (newOp .dma w t) t.d copy sp dp c prio) = g at *
  have hfin := And.intro hP.1 (And.intro hP.2 (And.intro (hall.1 .mem (by decide)) (And.intro (hall.1 .keys (by decide)) (hall.1 .vit (by decide)))))
  cases copy with
  | true => exact completes_of_eq (exec_dmaCopy w src) hrun hrunD hfin
  | false => exact completes_of_eq (exec_dmaFill w src) hrun hrunD hfin

/-! ### Channels -/

/-- The transfers of a channel that stops. -/
def chanAborted (h : Head) (w : Wing) (c : Nat) : Head := syncDma (abortOps h (inChannel w c) 64) w c

theorem stopChannel_eq (h : Head) (w : Wing) (c : Nat) : stopChannel h w c =
    if h.eng.ops.any (inChannel w c) then raise (chanAborted h w c) w Ev.DMA_ABORTED else chanAborted h w c := rfl

theorem inChannel_ready (w : Wing) (c : Nat) (o : EngOp) (b : Bool) : inChannel w c { o with ready := b } = inChannel w c o := rfl

theorem inChannel_dmaReady (l : List EngOp) (w w' : Wing) (c c' : Nat) (o : EngOp) : inChannel w' c' (dmaReady l w c o) = inChannel w' c' o := by
  rw [dmaReady_but]
  rfl

theorem not_inChannel_aborted (w : Wing) (c : Nat) (o : EngOp) (hs : o.status = .aborted) : inChannel w c o = false := by
  unfold inChannel
  rw [hs]
  simp

/-- An abort leaves no transfer in its channel, and puts none into another. -/
theorem abortOps_channel (h : Head) (w : Wing) (c : Nat) :
    (∀ o ∈ (abortOps h (inChannel w c) 64).eng.ops, inChannel w c o = false) ∧
    (∀ w' c', (∀ o ∈ h.eng.ops, inChannel w' c' o = false) → ∀ o ∈ (abortOps h (inChannel w c) 64).eng.ops, inChannel w' c' o = false) ∧
    (abortOps h (inChannel w c) 64).eng.ops.length = h.eng.ops.length := by
  have hmem (P : EngOp → Prop) (hab : ∀ o : EngOp, o.status = .aborted → P o) (hk : ∀ o ∈ h.eng.ops, (inChannel w c o && !o.held) = false → P o) :
      ∀ o ∈ (abortOps h (inChannel w c) 64).eng.ops, P o := by
    intro o ho
    obtain ⟨e, he, rfl⟩ := List.mem_map.mp ho
    dsimp only
    split
    · exact hab _ rfl
    · rename_i hn
      exact hk _ (List.fst_mem_of_mem_zipIdx he) (Bool.eq_false_iff.mpr hn)
  refine ⟨hmem _ (not_inChannel_aborted w c) fun o _ hb => ?_, fun w' c' hall => hmem _ (not_inChannel_aborted w' c') fun o ho _ => hall o ho, ?_⟩
  · cases hi : inChannel w c o with
    | false => rfl
    | true =>
      have hheld : o.held = false := by
        unfold inChannel at hi
        simp only [Bool.and_eq_true, Bool.not_eq_true'] at hi
        exact hi.1.1.2
      rw [hi, hheld] at hb
      exact absurd hb (by decide)
  · show (h.eng.ops.zipIdx.map _).length = _
    rw [List.length_map, List.length_zipIdx]

theorem frame_abortOps (h : Head) (p : EngOp → Bool) (step : Nat) : Frame [.eng, .freeCtr] [] h (abortOps h p step) :=
  (frame_mk h (by simp)).2 (frame_refl _ _ h)

/-- What a channel's STATE reads once it is brought up to date. -/
theorem state_syncDma (h : Head) (w : Wing) (c : Nat) : fget (syncDma h w c) w DMA_CHAN_STATE_STATE c =
    if fbit h w DMA_CTRL_HALT then 3 else if h.core.dmaOff.contains (8 * wingNum w + c) then 2
      else if h.eng.ops.filter (inChannel w c) = [] then 0 else 1 := by
  have hhalt (g : Head) (f : Fld) (v : Nat) (hf : f ∈ [DMA_CHAN_STATE_TAG, DMA_CHAN_STATE_OPEN, DMA_CHAN_STATE_PRIO]) :
      fbit (fset g w f v c) w DMA_CTRL_HALT = fbit g w DMA_CTRL_HALT := by
    have hall : ∀ f ∈ [DMA_CHAN_STATE_TAG, DMA_CHAN_STATE_OPEN, DMA_CHAN_STATE_PRIO], (Block.dma, 0x040) ∉ [(f.block, f.off % 4096)] := by decide
    exact (frame_fset g w c 0 f v).fbit w DMA_CTRL_HALT (hall f hf) (by decide) 0 0
  unfold syncDma
  dsimp only
  rw [hhalt _ _ _ (by decide), hhalt _ _ _ (by decide), hhalt _ _ _ (by decide)]
  refine bget_bput_same_of_lt _ _ _ _ _ _ _ _ _ (by decide) (by decide) ?_
  show (if fbit h w DMA_CTRL_HALT then 3 else if h.core.dmaOff.contains (8 * wingNum w + c) then 2
      else if h.eng.ops.filter (inChannel w c) = [] then 0 else 1) < 8
  split <;> (try split) <;> (try split) <;> decide

/-- A channel that stops. -/
theorem stopChannel_stops (h : Head) (w : Wing) (c : Nat) :
    Frame [.eng, .freeCtr, .evq] [(.dma, 0x010), (.dma, 0x048)] h (stopChannel h w c) ∧ (∀ o ∈ (stopChannel h w c).eng.ops, inChannel w c o = false) ∧
    (∀ w' c', (∀ o ∈ h.eng.ops, inChannel w' c' o = false) → ∀ o ∈ (stopChannel h w c).eng.ops, inChannel w' c' o = false) ∧
    (stopChannel h w c).eng.ops.length = h.eng.ops.length ∧
    ((∃ o ∈ h.eng.ops, inChannel w c o = true) → EventSet (stopChannel h w c) w Ev.DMA_ABORTED) ∧
    fget (stopChannel h w c) w DMA_CHAN_STATE_STATE c =
      if fbit h w DMA_CTRL_HALT then 3 else if h.core.dmaOff.contains (8 * wingNum w + c) then 2 else 0 := by
  obtain ⟨hin, hother, hlen⟩ := abortOps_channel h w c
  have ha := frame_abortOps h (inChannel w c) 64
  have hs := frame_syncDma (abortOps h (inChannel w c) 64) w c
  have hops := ops_syncDma (abortOps h (inChannel w c) 64) w c
  have hst := state_syncDma (abortOps h (inChannel w c) 64) w c
  rw [List.filter_eq_nil_iff.mpr (fun o ho => by rw [hin o ho]; decide), if_pos rfl, ha.fbit w DMA_CTRL_HALT List.not_mem_nil (by decide),
    ha.1 .core (by decide)] at hst
  have hk : Frame [.eng, .freeCtr, .evq] [(.dma, 0x010), (.dma, 0x048)] h (chanAborted h w c) :=
    (ha.mono (by decide) (by decide)).trans (hs.mono (by decide) (by decide))
  change fget (chanAborted h w c) w DMA_CHAN_STATE_STATE c = _ at hst
  change (chanAborted h w c).eng.ops = _ at hops
  have hfin (w' : Wing) (c' : Nat) (hall : ∀ o ∈ (abortOps h (inChannel w c) 64).eng.ops, inChannel w' c' o = false) :
      ∀ o ∈ (chanAborted h w c).eng.ops, inChannel w' c' o = false := by
    rw [hops]
    intro o ho
    obtain ⟨x, hx, rfl⟩ := List.mem_map.mp ho
    rw [inChannel_dmaReady]
    exact hall x hx
  have hlen' : (chanAborted h w c).eng.ops.length = h.eng.ops.length := by rw [hops, List.length_map, hlen]
  rw [stopChannel_eq]
  generalize chanAborted h w c = g at *
  have hr := frame_raise g w 0 Ev.DMA_ABORTED
  cases hany : h.eng.ops.any (inChannel w c) with
  | true =>
    rw [if_pos rfl, hr.1 .eng (by decide), hr.fget w DMA_CHAN_STATE_STATE (by decide) (by decide) c 0]
    exact ⟨hk.trans (hr.mono (by decide) (by decide)), hfin w c hin, fun w' c' hall => hfin w' c' (hother w' c' hall), hlen',
      fun _ => raiseAt_sets _ _ _ (by decide), hst⟩
  | false =>
    rw [if_neg (by decide)]
    refine ⟨hk, hfin w c hin, fun w' c' hall => hfin w' c' (hother w' c' hall), hlen', fun ⟨o, ho, hi⟩ => ?_, hst⟩
    exact absurd hi (by simpa using List.any_eq_false.mp hany o ho)

/-- The channels that are off. -/
def offSet (h : Head) (k : Nat) (on : Bool) : Head := { h with core := { h.core with dmaOff := setIn h.core.dmaOff k on } }

theorem dmaDisable_stops (s : State) (ini : Initiator) (w : Wing) (c : Nat) (hrun : Runs s.dev) (hw : Writable s.dev ini (pg .dma w) 0x04C)
    (hc : c = fget s.dev w DMA_CHAN_INDEX_INDEX) (hh : fget s.dev w DMA_CTRL_HALT = 0) :
    Completes (.dmaDisable ini w) s (fun h =>
      (8 * wingNum w + c) ∈ h.core.dmaOff ∧ fget h w DMA_CHAN_STATE_STATE c = 2 ∧ (∀ o ∈ h.eng.ops, inChannel w c o = false) ∧
        h.eng.ops.length = s.dev.eng.ops.length ∧ ((∃ o ∈ s.dev.eng.ops, inChannel w c o = true) → EventSet h w Ev.DMA_ABORTED) ∧
        RegsBut s.dev h [(.dma, 0x010), (.dma, 0x048)] ∧ h.mem = s.dev.mem ∧ h.out = s.dev.out) := by
  have heq : dmaCommand s.dev ini w 1 = stopChannel (offSet (reply s.dev false) (8 * wingNum w + c) true) w c := by
    unfold dmaCommand
    rw [withWrite_ok s.dev ini _ _ _ hw, hc]
    rfl
  have ho : Frame [.core, .bus] [] s.dev (offSet (reply s.dev false) (8 * wingNum w + c) true) := (frame_mk s.dev (by simp)).2 (frame_refl _ _ s.dev)
  have hin : (8 * wingNum w + c) ∈ (offSet (reply s.dev false) (8 * wingNum w + c) true).core.dmaOff := mem_setIn_true ..
  generalize offSet (reply s.dev false) (8 * wingNum w + c) true = a at *
  obtain ⟨hf, h1, -, h3, h4, h5⟩ := stopChannel_stops a w c
  rw [ho.fbit w DMA_CTRL_HALT List.not_mem_nil (by decide)] at h5
  rw [ho.1 .eng (by decide)] at h3 h4
  refine completes_of_eq (exec_dmaDisable ini w) hrun heq ⟨by rw [hf.1 .core (by decide)]; exact hin, ?_, h1, h3, h4, regsBut_trans
    (regsBut_mono ho.2 (List.nil_subset _)) hf.2, (hf.1 .mem (by decide)).trans (ho.1 .mem (by decide)), (hf.1 .out (by decide)).trans (ho.1 .out (by decide))⟩
  rw [h5, if_neg (by unfold fbit; rw [hh]; decide), if_pos (by simpa using hin)]

theorem dmaEnable_serves (s : State) (ini : Initiator) (w : Wing) (c : Nat) (hrun : Runs s.dev) (hw : Writable s.dev ini (pg .dma w) 0x04C)
    (hc : c = fget s.dev w DMA_CHAN_INDEX_INDEX) (hh : fget s.dev w DMA_CTRL_HALT = 0) (hn : ∀ o ∈ s.dev.eng.ops, inChannel w c o = false) :
    Completes (.dmaEnable ini w) s (fun h =>
      (8 * wingNum w + c) ∉ h.core.dmaOff ∧ fget h w DMA_CHAN_STATE_STATE c = 0 ∧ h.eng = s.dev.eng ∧
        RegsBut s.dev h [(.dma, 0x048)] ∧ h.mem = s.dev.mem ∧ h.out = s.dev.out) := by
  have heq : dmaCommand s.dev ini w 2 = syncDma (offSet (reply s.dev false) (8 * wingNum w + c) false) w c := by
    unfold dmaCommand
    rw [withWrite_ok s.dev ini _ _ _ hw, hc]
    rfl
  have ho : Frame [.core, .bus] [] s.dev (offSet (reply s.dev false) (8 * wingNum w + c) false) := (frame_mk s.dev (by simp)).2 (frame_refl _ _ s.dev)
  have hin : (8 * wingNum w + c) ∉ (offSet (reply s.dev false) (8 * wingNum w + c) false).core.dmaOff := fun hm => notMem_setIn_false _ _ hm
  have heng : (offSet (reply s.dev false) (8 * wingNum w + c) false).eng = s.dev.eng := rfl
  generalize offSet (reply s.dev false) (8 * wingNum w + c) false = a at *
  have hf := frame_syncDma a w c
  have hst := state_syncDma a w c
  rw [heng, List.filter_eq_nil_iff.mpr (fun o h => by rw [hn o h]; decide), if_pos rfl, ho.fbit w DMA_CTRL_HALT List.not_mem_nil (by decide),
    if_neg (by unfold fbit; rw [hh]; decide), if_neg (by simpa using hin)] at hst
  refine completes_of_eq (exec_dmaEnable ini w) hrun heq ⟨by rw [hf.1 .core (by decide)]; exact hin, hst, ?_, regsBut_trans
    (regsBut_mono ho.2 (List.nil_subset _)) hf.2, (hf.1 .mem (by decide)).trans (ho.1 .mem (by decide)), (hf.1 .out (by decide)).trans (ho.1 .out (by decide))⟩
  have hsame : a.eng.ops.map (dmaReady a.eng.ops w c) = a.eng.ops := by
    refine (List.map_congr_left fun o ho => ?_).trans (List.map_id _)
    exact if_neg (by rw [hn o (heng ▸ ho)]; decide)
  have hall : (syncDma a w c).eng = { a.eng with ops := a.eng.ops.map (dmaReady a.eng.ops w c) } := rfl
  rw [hall, hsame, heng]

/-- A channel's synchronisation writes its own bank of CHAN_STATE. -/
theorem state_syncDma_other (h : Head) (w : Wing) (c d : Nat) (hc : c < 8) (hd : d < 8) (hne : d ≠ c) :
    fget (syncDma h w c) w DMA_CHAN_STATE_STATE d = fget h w DMA_CHAN_STATE_STATE d := by
  have hb : d % 65536 ≠ c % 65536 := by omega
  unfold syncDma
  dsimp only
  simp only [fget_eq_bget, fset_regs]
  rw [bget_bput_bank _ _ _ _ _ _ _ _ _ _ _ _ _ _ _ _ hb, bget_bput_bank _ _ _ _ _ _ _ _ _ _ _ _ _ _ _ _ hb,
    bget_bput_bank _ _ _ _ _ _ _ _ _ _ _ _ _ _ _ _ hb, bget_bput_bank _ _ _ _ _ _ _ _ _ _ _ _ _ _ _ _ hb]

theorem state_stopChannel_other (h : Head) (w : Wing) (c d : Nat) (hc : c < 8) (hd : d < 8) (hne : d ≠ c) :
    fget (stopChannel h w c) w DMA_CHAN_STATE_STATE d = fget h w DMA_CHAN_STATE_STATE d := by
  have hs : fget (chanAborted h w c) w DMA_CHAN_STATE_STATE d = fget h w DMA_CHAN_STATE_STATE d :=
    (state_syncDma_other _ w c d hc hd hne).trans ((frame_abortOps h _ 64).fget w _ List.not_mem_nil (by decide) d 0)
  rw [stopChannel_eq]
  generalize chanAborted h w c = g at *
  split
  · exact ((frame_raise g w 0 Ev.DMA_ABORTED).fget w DMA_CHAN_STATE_STATE (by decide) (by decide) d 0).trans hs
  · exact hs

/-- A channel that HALT holds: no transfer, and STATE 3. -/
def ChanHalted (h : Head) (w : Wing) (c : Nat) : Prop := fget h w DMA_CHAN_STATE_STATE c = 3 ∧ ∀ o ∈ h.eng.ops, inChannel w c o = false

/-- What HALT does to one channel. -/
def haltStep (w : Wing) (h : Head) (c : Nat) : Head := if fbit h w DMA_CTRL_HALT then stopChannel h w c else syncDma h w c

theorem haltEffect_eq (h : Head) (w : Wing) : haltEffect h w = foldHead h (List.range 8) (haltStep w) := rfl

/-- HALT stops every channel in turn, and a channel that it has stopped stays so. -/
theorem halt_stops (w : Wing) (l : List Nat) (h : Head) (hl : ∀ c ∈ l, c < 8) (hh : fbit h w DMA_CTRL_HALT = true) :
    Frame [.eng, .freeCtr, .evq] [(.dma, 0x010), (.dma, 0x048)] h (foldHead h l (haltStep w)) ∧
    (foldHead h l (haltStep w)).eng.ops.length = h.eng.ops.length ∧
    ∀ c, c < 8 → c ∈ l ∨ ChanHalted h w c → ChanHalted (foldHead h l (haltStep w)) w c := by
  induction l generalizing h with
  | nil => exact ⟨frame_refl _ _ h, rfl, fun c _ hc => hc.resolve_left List.not_mem_nil⟩
  | cons a l ih =>
    obtain ⟨hf, hin, hkeep, hlen, -, hst⟩ := stopChannel_stops h w a
    rw [if_pos hh] at hst
    have ha := hl a List.mem_cons_self
    have hother := state_stopChannel_other h w a
    have hh' : fbit (stopChannel h w a) w DMA_CTRL_HALT = true := (hf.fbit w DMA_CTRL_HALT (by decide) (by decide) 0 0).trans hh
    obtain ⟨gf, glen, gall⟩ := ih (stopChannel h w a) (fun c hc => hl c (List.mem_cons_of_mem a hc)) hh'
    rw [foldHead, List.foldl_cons, haltStep, if_pos hh]
    refine ⟨hf.trans gf, glen.trans hlen, fun c hc hor => gall c hc ?_⟩
    by_cases hca : c = a
    · subst hca
      exact .inr ⟨hst, hin⟩
    · rcases hor with hm | ⟨h3, hno⟩
      · exact .inl ((List.mem_cons.mp hm).resolve_left hca)
      · exact .inr ⟨(hother c ha hc hca).trans h3, hkeep w c hno⟩

theorem dmaHalt_stops (s : State) (ini : Initiator) (w : Wing) (hrun : Runs s.dev) (hw : Writable s.dev ini (pg .dma w) 0x040) :
    Completes (.dmaHalt ini w true) s (fun h =>
      fget h w DMA_CTRL_HALT = 1 ∧ (∀ c, c < 8 → fget h w DMA_CHAN_STATE_STATE c = 3 ∧ ∀ o ∈ h.eng.ops, inChannel w c o = false) ∧
        h.eng.ops.length = s.dev.eng.ops.length ∧ RegsBut s.dev h [(.dma, 0x010), (.dma, 0x040), (.dma, 0x048)] ∧
        h.mem = s.dev.mem ∧ h.out = s.dev.out) := by
  have heq : dmaHalt s.dev ini w true = haltEffect (fset (reply s.dev false) w DMA_CTRL_HALT 1) w := by
    unfold dmaHalt
    rw [withWrite_ok s.dev ini _ _ _ hw]
    rfl
  have h1 : Frame [.bus] [] s.dev (reply s.dev false) := (frame_mk s.dev (by simp)).2 (frame_refl _ _ s.dev)
  have h2 := frame_fset (reply s.dev false) w 0 0 DMA_CTRL_HALT 1
  have h3 : fget (fset (reply s.dev false) w DMA_CTRL_HALT 1) w DMA_CTRL_HALT = 1 :=
    bget_bput_same_of_lt _ _ _ _ _ _ _ _ _ (by decide) (by decide) (by decide)
  have h12 : Frame [.bus] [(.dma, 0x040)] s.dev (fset (reply s.dev false) w DMA_CTRL_HALT 1) :=
    (h1.mono (by decide) (by decide)).trans (h2.mono (by decide) (by decide))
  generalize fset (reply s.dev false) w DMA_CTRL_HALT 1 = a at *
  obtain ⟨hf, hlen, hall⟩ := halt_stops w (List.range 8) a (fun c hc => List.mem_range.mp hc) (by unfold fbit; rw [h3]; decide)
  rw [haltEffect_eq] at heq
  generalize foldHead a (List.range 8) (haltStep w) = g at *
  have hfull := (h12.mono (l := [.eng, .freeCtr, .evq, .bus]) (t := [(.dma, 0x010), (.dma, 0x040), (.dma, 0x048)]) (by decide) (by decide)).trans
    (hf.mono (by decide) (by decide))
  exact completes_of_eq (exec_dmaHalt ini w true) hrun heq ⟨(hf.fget w DMA_CTRL_HALT (by decide) (by decide) 0 0).trans h3,
    fun c hc => hall c hc (.inl (List.mem_range.mpr hc)), hlen.trans (congrArg (fun e : EngState => e.ops.length) (h12.1 .eng (by decide))), hfull.2,
    hfull.1 .mem (by decide), hfull.1 .out (by decide)⟩

end Sys2Proof.Laws
end

section
/-! Memory segments and channels, memory errors, HBM pseudo-channels, and the obligation on memory and DMA (R377 to R384). -/

namespace Sys2Proof.Laws

open Machine Machine.Reg

/-! ### Segments -/

theorem frame_setMigration (h : Head) (w : Wing) (m : Option (Nat × Nat × Nat)) : Frame [.core] [] h (setMigration h w m) :=
  (frame_mk h (by simp)).2 (frame_refl _ _ h)

theorem migration_setMigration (h : Head) (w : Wing) (m : Option (Nat × Nat × Nat)) : migration (setMigration h w m) w = m := by
  cases w <;> rfl

/-- A migration under way, shown. -/
def migrating (h : Head) (w : Wing) (seg set base : Nat) : Head :=
  fset (fset (fset (setMigration h w (some (seg, set, base))) w MEM_MIGRATE_BUSY 1) w MEM_MIGRATE_BOUND_UNITS 0) w MEM_SEG_ENTRY_MIGRATING 1 seg

theorem migrating_reads (h : Head) (w : Wing) (seg set base : Nat) :
    fget (migrating h w seg set base) w MEM_MIGRATE_BUSY = 1 ∧ fget (migrating h w seg set base) w MEM_MIGRATE_BOUND_UNITS = 0 ∧
      fget (migrating h w seg set base) w MEM_SEG_ENTRY_MIGRATING seg = 1 ∧
      fget (migrating h w seg set base) w MEM_MIGRATE_SEGMENT = fget h w MEM_MIGRATE_SEGMENT ∧
      migration (migrating h w seg set base) w = some (seg, set, base) ∧
      Frame [.core] [(.mem, 0x050), (.mem, 0x058), (.mem, 0x05C)] h (migrating h w seg set base) := by
  have hm : migration (setMigration h w (some (seg, set, base))) w = _ := migration_setMigration ..
  have hf := frame_setMigration h w (some (seg, set, base))
  have hs := hf.fget w MEM_MIGRATE_SEGMENT List.not_mem_nil (by decide) 0 0
  unfold migrating
  generalize setMigration h w (some (seg, set, base)) = g at *
  have hg : Frame [] [(.mem, 0x050), (.mem, 0x058), (.mem, 0x05C)] g
      (fset (fset (fset g w MEM_MIGRATE_BUSY 1) w MEM_MIGRATE_BOUND_UNITS 0) w MEM_SEG_ENTRY_MIGRATING 1 seg) := by
    simp +decide only [frame_rules, frame_refl]
  refine ⟨?_, ?_, ?_, ?_, (congrArg (fun c : CoreState => if w = .east then c.migE else c.migW) (hg.1 .core List.not_mem_nil)).trans hm,
    (hf.mono (by decide) (by decide)).trans (hg.mono (by decide) (fun _ h => h))⟩
  · simp only [fget_eq_bget, fset_regs]
    simp (disch := first | decide | rfl) [MEM_MIGRATE_BUSY, MEM_MIGRATE_BOUND_UNITS, MEM_SEG_ENTRY_MIGRATING]
  · simp only [fget_eq_bget, fset_regs]
    simp (disch := first | decide | rfl) [MEM_MIGRATE_BUSY, MEM_MIGRATE_BOUND_UNITS, MEM_SEG_ENTRY_MIGRATING]
  · exact bget_bput_same_of_lt _ _ _ _ _ _ _ _ _ (by decide) (by decide) (by decide)
  · rw [← hs]
    simp only [fget_eq_bget, fset_regs]
    simp (disch := first | decide | rfl) [MEM_MIGRATE_BUSY, MEM_MIGRATE_BOUND_UNITS, MEM_SEG_ENTRY_MIGRATING, MEM_MIGRATE_SEGMENT]

theorem migrateEffect_eq (h : Head) (src : Nat) (w : Wing) : migrateEffect h src w =
    if fbit h w MEM_MIGRATE_BUSY then h
    else if !fbit h w MEM_SEG_ENTRY_VALID (fget h w MEM_MIGRATE_SEGMENT) ||
        !placeOkSeg h w (fget h w MEM_MIGRATE_SEGMENT) (fget h w MEM_MIGRATE_TO_SET) (fget h w MEM_MIGRATE_TO_BASE) then
      config h (pg .mem w) ⟨11, src, true, pageAddr (pg .mem w) + 0x058⟩
    else migrating h w (fget h w MEM_MIGRATE_SEGMENT) (fget h w MEM_MIGRATE_TO_SET) (fget h w MEM_MIGRATE_TO_BASE) := rfl

/-- The place a segment may take depends on the segment table alone. -/
theorem placeOkSeg_congr {h g : Head} (w : Wing) (seg set base : Nat) {t : List (Block × Nat)} {l : List Part} (x : Frame l t h g) (ht : (.mem, 0x050) ∉ t) :
    placeOkSeg g w seg set base = placeOkSeg h w seg set base := by
  have h1 (k : Nat) : fget g w MEM_SEG_ENTRY_SET k = fget h w MEM_SEG_ENTRY_SET k := x.fget w MEM_SEG_ENTRY_SET ht (by decide) k 0
  have h2 (k : Nat) : fget g w MEM_SEG_ENTRY_BASE k = fget h w MEM_SEG_ENTRY_BASE k := x.fget w MEM_SEG_ENTRY_BASE ht (by decide) k 0
  have h3 (k : Nat) : fbit g w MEM_SEG_ENTRY_VALID k = fbit h w MEM_SEG_ENTRY_VALID k := x.fbit w MEM_SEG_ENTRY_VALID ht (by decide) k 0
  unfold placeOkSeg
  simp only [h1, h2, h3]

theorem migrateStart_starts (s : State) (ini : Initiator) (w : Wing) (seg : Nat) (hrun : Runs s.dev) (hw : Writable s.dev ini (pg .mem w) 0x058)
    (hseg : seg < 4096) (hbusy : fget s.dev w MEM_MIGRATE_BUSY = 0) (hv : fget s.dev w MEM_SEG_ENTRY_VALID seg = 1) :
    Completes (.migrateStart ini w seg) s (fun h => fget h w MEM_MIGRATE_SEGMENT = seg ∧
      if placeOkSeg s.dev w seg (fget s.dev w MEM_MIGRATE_TO_SET) (fget s.dev w MEM_MIGRATE_TO_BASE) then
        migration h w = some (seg, fget s.dev w MEM_MIGRATE_TO_SET, fget s.dev w MEM_MIGRATE_TO_BASE) ∧ fget h w MEM_MIGRATE_BUSY = 1 ∧
          fget h w MEM_MIGRATE_BOUND_UNITS = 0 ∧ fget h w MEM_SEG_ENTRY_MIGRATING seg = 1 ∧
          RegsBut s.dev h [(.mem, 0x050), (.mem, 0x058), (.mem, 0x05C)] ∧ SameButRegs { reply s.dev false with core := h.core } h
      else fget h w MEM_MIGRATE_BUSY = 0 ∧ migration h w = migration s.dev w ∧ h.core = s.dev.core ∧ h.mem = s.dev.mem) := by
  have heq : migrateStart s.dev ini w seg = migrateEffect (fset (reply s.dev false) w MEM_MIGRATE_SEGMENT seg) (sourceCode ini) w := by
    unfold migrateStart
    rw [withWrite_ok s.dev ini _ _ _ hw, Nat.mod_eq_of_lt hseg]
  have hr : Frame [.bus] [] s.dev (reply s.dev false) := (frame_mk s.dev (by simp)).2 (frame_refl _ _ s.dev)
  have hf := frame_fset (reply s.dev false) w 0 0 MEM_MIGRATE_SEGMENT seg
  have hs : fget (fset (reply s.dev false) w MEM_MIGRATE_SEGMENT seg) w MEM_MIGRATE_SEGMENT = seg :=
    bget_bput_same_of_lt _ _ _ _ _ _ _ _ _ (by decide) (by decide) hseg
  have hb : fget (fset (reply s.dev false) w MEM_MIGRATE_SEGMENT seg) w MEM_MIGRATE_BUSY = 0 :=
    (fget_fset_apart _ w w MEM_MIGRATE_SEGMENT MEM_MIGRATE_BUSY seg 0 0 rfl rfl (by decide) (by decide) (by decide) (by decide) (by decide) (by decide)
      (by decide)).trans ((hr.fget w MEM_MIGRATE_BUSY List.not_mem_nil (by decide) 0 0).trans hbusy)
  have hrf : Frame [.bus] [(.mem, 0x058)] s.dev (fset (reply s.dev false) w MEM_MIGRATE_SEGMENT seg) :=
    (hr.mono (by decide) (by decide)).trans (hf.mono (by decide) (by decide))
  generalize fset (reply s.dev false) w MEM_MIGRATE_SEGMENT seg = a at *
  have hva : fbit a w MEM_SEG_ENTRY_VALID seg = true := by
    rw [hrf.fbit w MEM_SEG_ENTRY_VALID (by decide) (by decide) seg 0, fbit, hv]
    rfl
  rw [migrateEffect_eq, hs, hva, show fbit a w MEM_MIGRATE_BUSY = false by unfold fbit; rw [hb]; rfl, placeOkSeg_congr w _ _ _ hrf (by decide),
    hrf.fget w MEM_MIGRATE_TO_SET (by decide) (by decide) 0 0, hrf.fget w MEM_MIGRATE_TO_BASE (by decide) (by decide) 0 0] at heq
  cases hp : placeOkSeg s.dev w seg (fget s.dev w MEM_MIGRATE_TO_SET) (fget s.dev w MEM_MIGRATE_TO_BASE) with
  | true =>
    rw [hp] at heq
    obtain ⟨h1, h2, h3, h4, h5, h6⟩ := migrating_reads a w seg (fget s.dev w MEM_MIGRATE_TO_SET) (fget s.dev w MEM_MIGRATE_TO_BASE)
    refine completes_of_eq (exec_migrateStart ini w seg) hrun heq ⟨h4.trans hs, ?_⟩
    rw [if_pos rfl]
    refine ⟨h5, h1, h2, h3, regsBut_trans (regsBut_mono hrf.2 (by decide)) h6.2, ?_⟩
    exact ((hf.mono (l := [.core, .evq]) (t := [(.mem, 0x050), (.mem, 0x058), (.mem, 0x05C)]) (by decide) (by decide)).trans
      (h6.mono (by decide) (fun _ h => h))).putCore.sameButRegs
  | false =>
    rw [hp] at heq
    have hc : Frame [.evq] [(.mem, 0x010), (.mem, 0x020), (.mem, 0x024), (.mem, 0x028)] a
      (config a (pg .mem w) ⟨11, sourceCode ini, true, pageAddr (pg .mem w) + 0x058⟩) := frame_config a (pg .mem w) _
    refine completes_of_eq (exec_migrateStart ini w seg) hrun heq ⟨(hc.fget w MEM_MIGRATE_SEGMENT (by decide) (by decide) 0 0).trans hs, ?_⟩
    rw [if_neg (by decide)]
    have hcore : (config a (pg .mem w) ⟨11, sourceCode ini, true, pageAddr (pg .mem w) + 0x058⟩).core = s.dev.core :=
      (hc.1 .core (by decide)).trans (hrf.1 .core (by decide))
    exact ⟨(hc.fget w MEM_MIGRATE_BUSY (by decide) (by decide) 0 0).trans hb,
      congrArg (fun c : CoreState => if w = .east then c.migE else c.migW) hcore, hcore, (hc.1 .mem (by decide)).trans (hrf.1 .mem (by decide))⟩

/-- A segment in its new place. -/
def migrated (h : Head) (w : Wing) (seg set base : Nat) : Head :=
  fset (fset (fset (fset h w MEM_SEG_ENTRY_SET set seg) w MEM_SEG_ENTRY_BASE base seg) w MEM_SEG_ENTRY_MIGRATING 0 seg) w MEM_MIGRATE_BUSY 0

theorem migrated_reads (h : Head) (w : Wing) (seg set base : Nat) (hset : set < 256) (hbase : base < 4096) :
    fget (migrated h w seg set base) w MEM_SEG_ENTRY_SET seg = set ∧ fget (migrated h w seg set base) w MEM_SEG_ENTRY_BASE seg = base ∧
      fget (migrated h w seg set base) w MEM_SEG_ENTRY_MIGRATING seg = 0 ∧ fget (migrated h w seg set base) w MEM_MIGRATE_BUSY = 0 := by
  simp only [migrated, fget_eq_bget, fset_regs]
  simp (disch := first | decide | rfl) [MEM_SEG_ENTRY_SET, MEM_SEG_ENTRY_BASE, MEM_SEG_ENTRY_MIGRATING, MEM_MIGRATE_BUSY]
  omega

theorem migrateDone_ends (s : State) (w : Wing) (seg set base : Nat) (hrun : Runs s.dev) (hm : migration s.dev w = some (seg, set, base)) (hset : set < 256)
    (hbase : base < 4096) :
    Completes (.migrateDone w) s (fun h =>
      migration h w = none ∧ fget h w MEM_SEG_ENTRY_SET seg = set ∧ fget h w MEM_SEG_ENTRY_BASE seg = base ∧
        fget h w MEM_SEG_ENTRY_MIGRATING seg = 0 ∧ fget h w MEM_MIGRATE_BUSY = 0 ∧ EventSet h w Ev.MEM_MIGRATE_DONE ∧
        RegsBut s.dev h [(.mem, 0x010), (.mem, 0x050), (.mem, 0x058)] ∧ h.mem = s.dev.mem ∧ h.out = s.dev.out) := by
  have heq : migrateDone s.dev w = raise (migrated (setMigration s.dev w none) w seg set base) w Ev.MEM_MIGRATE_DONE := by
    unfold migrateDone
    rw [hm]
    rfl
  have hg := frame_setMigration s.dev w none
  have hn : migration (setMigration s.dev w none) w = none := migration_setMigration ..
  generalize setMigration s.dev w none = g at *
  have hf : Frame [] [(.mem, 0x050), (.mem, 0x058)] g (migrated g w seg set base) := by
    simp +decide only [migrated, frame_rules, frame_refl]
  obtain ⟨h1, h2, h3, h4⟩ := migrated_reads g w seg set base hset hbase
  generalize migrated g w seg set base = k at *
  have hr := frame_raise k w 0 Ev.MEM_MIGRATE_DONE
  have hall := ((hg.mono (l := [.core, .evq]) (t := [(.mem, 0x010), (.mem, 0x050), (.mem, 0x058)]) (by decide) (by decide)).trans
    (hf.mono (by decide) (by decide))).trans (hr.mono (by decide) (by decide))
  exact completes_of_eq (exec_migrateDone w) hrun heq
    ⟨(congrArg (fun c : CoreState => if w = .east then c.migE else c.migW) ((hr.1 .core (by decide)).trans (hf.1 .core (by decide)))).trans hn,
      (hr.fget w MEM_SEG_ENTRY_SET (by decide) (by decide) seg 0).trans h1, (hr.fget w MEM_SEG_ENTRY_BASE (by decide) (by decide) seg 0).trans h2,
      (hr.fget w MEM_SEG_ENTRY_MIGRATING (by decide) (by decide) seg 0).trans h3, (hr.fget w MEM_MIGRATE_BUSY (by decide) (by decide) 0 0).trans h4,
      raiseAt_sets _ _ _ (by decide), hall.2, hall.1 .mem (by decide), hall.1 .out (by decide)⟩

/-! ### Channels -/

theorem chanCommand_eq (s : State) (ini : Initiator) (w : Wing) (cmd c : Nat) (hw : Writable s.dev ini (pg .mem w) 0x048) (hc : c < 8) :
    chanCommand s.dev ini w cmd c = chanCmdEffect (reply s.dev false) (sourceCode ini) w cmd c := by
  unfold chanCommand
  rw [withWrite_ok s.dev ini _ _ _ hw, Nat.mod_eq_of_lt hc]

theorem channelFence_fences (s : State) (ini : Initiator) (w : Wing) (c : Nat) (hrun : Runs s.dev) (hw : Writable s.dev ini (pg .mem w) 0x048) (hc : c < 8)
    (hu : ∀ k, k < 4096 → fget s.dev w MEM_SEG_ENTRY_VALID k = 1 → (fget s.dev w MEM_SEG_ENTRY_SET k).testBit c = false) :
    Completes (.channelFence ini w c) s (fun h =>
      fget h w MEM_CHAN_STATUS_FENCED = (fget s.dev w MEM_CHAN_STATUS_FENCED ||| 2 ^ c) ∧ EventSet h w Ev.MEM_CHANNEL_FENCED ∧
        RegsBut s.dev h [(.mem, 0x010), (.mem, 0x044)] ∧ SameButRegs (reply s.dev false) h) := by
  have hfree : (List.range 4096).any (fun k => fbit (reply s.dev false) w MEM_SEG_ENTRY_VALID k && (fget (reply s.dev false) w MEM_SEG_ENTRY_SET k).testBit c) = false := by
    refine List.any_eq_false.mpr fun k hk hb => ?_
    simp only [Bool.and_eq_true] at hb
    have hv : fget s.dev w MEM_SEG_ENTRY_VALID k = 1 := by
      have hlt : fget s.dev w MEM_SEG_ENTRY_VALID k < 2 := fget_lt ..
      have hne : fget s.dev w MEM_SEG_ENTRY_VALID k ≠ 0 := by simpa [fbit] using (show fbit s.dev w MEM_SEG_ENTRY_VALID k = true from hb.1)
      omega
    exact absurd (hb.2.symm.trans (hu k (List.mem_range.mp hk) hv)) (by decide)
  have heq : chanCommand s.dev ini w 1 c =
      raise (fset (reply s.dev false) w MEM_CHAN_STATUS_FENCED (fget s.dev w MEM_CHAN_STATUS_FENCED ||| 2 ^ c)) w Ev.MEM_CHANNEL_FENCED := by
    rw [chanCommand_eq s ini w 1 c hw hc, chanCmdEffect, if_pos rfl, hfree]
    rfl
  have hlt : fget s.dev w MEM_CHAN_STATUS_FENCED ||| 2 ^ c < 2 ^ 8 := Nat.or_lt_two_pow (fget_lt ..) (Nat.pow_lt_pow_right (by decide) hc)
  have hf := frame_fset (reply s.dev false) w 0 0 MEM_CHAN_STATUS_FENCED (fget s.dev w MEM_CHAN_STATUS_FENCED ||| 2 ^ c)
  have hs : fget (fset (reply s.dev false) w MEM_CHAN_STATUS_FENCED (fget s.dev w MEM_CHAN_STATUS_FENCED ||| 2 ^ c)) w MEM_CHAN_STATUS_FENCED = _ :=
    bget_bput_same_of_lt _ _ _ _ _ _ _ _ _ (by decide) (by decide) hlt
  generalize fset (reply s.dev false) w MEM_CHAN_STATUS_FENCED (fget s.dev w MEM_CHAN_STATUS_FENCED ||| 2 ^ c) = g at *
  have hr := frame_raise g w 0 Ev.MEM_CHANNEL_FENCED
  have hall := (hf.mono (l := [.evq]) (t := [(.mem, 0x010), (.mem, 0x044)]) (by decide) (by decide)).trans (hr.mono (by decide) (by decide))
  exact completes_of_eq (exec_channelFence ini w c) hrun heq ⟨(hr.fget w MEM_CHAN_STATUS_FENCED (by decide) (by decide) 0 0).trans hs,
    raiseAt_sets _ _ _ (by decide), hall.2, hall.sameButRegs⟩

/-- A number less a power of two that it holds has that bit 0, and every other as it was. -/
theorem testBit_sub_bit (c n k : Nat) (hb : n.testBit c = true) : (n - 2 ^ c).testBit k = (decide (k ≠ c) && n.testBit k) := by
  induction c generalizing n k with
  | zero =>
    have hodd : n % 2 = 1 := by simpa [Nat.testBit_zero] using hb
    cases k with
    | zero => simpa [Nat.testBit_zero] using (by omega : (n - 1) % 2 = 0)
    | succ k => simp [Nat.testBit_succ, (by omega : (n - 1) / 2 = n / 2)]
  | succ c ih =>
    have hle : 2 * 2 ^ c ≤ n := by simpa [Nat.pow_succ'] using Nat.ge_two_pow_of_testBit hb
    rw [Nat.testBit_succ] at hb
    rw [Nat.pow_succ']
    generalize hp : 2 ^ c = p at *
    cases k with
    | zero => simp [Nat.testBit_zero, (by omega : (n - 2 * p) % 2 = n % 2)]
    | succ k =>
      have hi := ih (n / 2) k hb
      rw [Nat.testBit_succ, (by omega : (n - 2 * p) / 2 = n / 2 - p), hi, Nat.testBit_succ]
      simp

/-- The fenced channels with one taken out. -/
theorem testBit_unfence (n c k : Nat) : (if n.testBit c then n - 2 ^ c else n).testBit k = (decide (k ≠ c) && n.testBit k) := by
  by_cases hb : n.testBit c = true
  · rw [if_pos hb, testBit_sub_bit c n k hb]
  · rw [if_neg hb]
    by_cases hk : k = c
    · subst hk
      simpa using hb
    · simp [hk]

theorem channelUnfence_unfences (s : State) (ini : Initiator) (w : Wing) (c : Nat) (hrun : Runs s.dev) (hw : Writable s.dev ini (pg .mem w) 0x048)
    (hc : c < 8) :
    Completes (.channelUnfence ini w c) s (fun h =>
      (∀ k, (fget h w MEM_CHAN_STATUS_FENCED).testBit k = (decide (k ≠ c) && (fget s.dev w MEM_CHAN_STATUS_FENCED).testBit k)) ∧
        RegsBut s.dev h [(.mem, 0x044)] ∧ SameButRegs (reply s.dev false) h) := by
  have heq : chanCommand s.dev ini w 2 c = fset (reply s.dev false) w MEM_CHAN_STATUS_FENCED
      (if (fget s.dev w MEM_CHAN_STATUS_FENCED).testBit c then fget s.dev w MEM_CHAN_STATUS_FENCED - 2 ^ c else fget s.dev w MEM_CHAN_STATUS_FENCED) :=
    chanCommand_eq s ini w 2 c hw hc
  have hlt : (if (fget s.dev w MEM_CHAN_STATUS_FENCED).testBit c then fget s.dev w MEM_CHAN_STATUS_FENCED - 2 ^ c else fget s.dev w MEM_CHAN_STATUS_FENCED) <
      2 ^ 8 := lt_of_le_of_lt
    (by
      split
      · exact Nat.sub_le _ _
      · exact Nat.le_refl _)
    (fget_lt s.dev w MEM_CHAN_STATUS_FENCED 0 0)
  have htest := testBit_unfence (fget s.dev w MEM_CHAN_STATUS_FENCED) c
  generalize (if (fget s.dev w MEM_CHAN_STATUS_FENCED).testBit c then fget s.dev w MEM_CHAN_STATUS_FENCED - 2 ^ c else
    fget s.dev w MEM_CHAN_STATUS_FENCED) = v at *
  have hf := frame_fset (reply s.dev false) w 0 0 MEM_CHAN_STATUS_FENCED v
  have hs : fget (fset (reply s.dev false) w MEM_CHAN_STATUS_FENCED v) w MEM_CHAN_STATUS_FENCED = v :=
    bget_bput_same_of_lt _ _ _ _ _ _ _ _ _ (by decide) (by decide) hlt
  exact completes_of_eq (exec_channelUnfence ini w c) hrun heq ⟨fun k => by rw [hs]; exact htest k, hf.2, (hf.mono (by decide) (fun _ h => h)).sameButRegs⟩

/-! ### Memory errors -/

/-- The page's spare, on record. -/
def pageSpared (h : Head) (page spare : Nat) : Head :=
  { h with core := { h.core with
    retired := h.core.retired.filter (fun r => r.1 != page) ++ [(page, spare)], ce := h.core.ce.filter (fun r => r.1 != page) } }

theorem retirePage_eq (h : Head) (w : Wing) (page : Nat) : retirePage h w page =
    if spareArea h w = 0 then h
    else if 256 ≤ fget h w MEM_RETIRE_USED then raise h w Ev.MEM_RETIRE_FULL
    else raise (fset (pageSpared h page (spareArea h w + 4096 * fget h w MEM_RETIRE_USED)) w MEM_RETIRE_USED (fget h w MEM_RETIRE_USED + 1)) w
      Ev.MEM_PAGE_RETIRED := rfl

theorem frame_pageSpared (h : Head) (page spare : Nat) : Frame [.core] [] h (pageSpared h page spare) := (frame_mk h (by simp)).2 (frame_refl _ _ h)

theorem frame_retirePage (h : Head) (w : Wing) (page : Nat) : Frame [.core, .evq] [(.mem, 0x010), (.mem, 0x06C)] h (retirePage h w page) := by
  simp +decide only [retirePage_eq, frame_ite, (frame_pageSpared ..).iff, frame_rules, frame_refl, ite_self]

theorem retirePage_retires (h : Head) (w : Wing) (page : Nat) (hs : spareArea h w ≠ 0) (hu : fget h w MEM_RETIRE_USED < 256) :
    (page, spareArea h w + 4096 * fget h w MEM_RETIRE_USED) ∈ (retirePage h w page).core.retired ∧
      fget (retirePage h w page) w MEM_RETIRE_USED = fget h w MEM_RETIRE_USED + 1 ∧ EventSet (retirePage h w page) w Ev.MEM_PAGE_RETIRED := by
  rw [retirePage_eq, if_neg hs, if_neg (Nat.not_le.mpr hu)]
  have hin : (page, spareArea h w + 4096 * fget h w MEM_RETIRE_USED) ∈ (pageSpared h page (spareArea h w + 4096 * fget h w MEM_RETIRE_USED)).core.retired :=
    List.mem_append_right _ List.mem_cons_self
  generalize pageSpared h page (spareArea h w + 4096 * fget h w MEM_RETIRE_USED) = g at *
  have hf := frame_fset g w 0 0 MEM_RETIRE_USED (fget h w MEM_RETIRE_USED + 1)
  have hv : fget (fset g w MEM_RETIRE_USED (fget h w MEM_RETIRE_USED + 1)) w MEM_RETIRE_USED = fget h w MEM_RETIRE_USED + 1 :=
    bget_bput_same_of_lt _ _ _ _ _ _ _ _ _ (by decide) (by decide) (Nat.lt_of_lt_of_le (Nat.succ_lt_succ hu) (by decide))
  generalize fset g w MEM_RETIRE_USED (fget h w MEM_RETIRE_USED + 1) = k at *
  have hr := frame_raise k w 0 Ev.MEM_PAGE_RETIRED
  refine ⟨?_, (hr.fget w MEM_RETIRE_USED (by decide) (by decide) 0 0).trans hv, raiseAt_sets _ _ _ (by decide)⟩
  rw [hr.1 .core (by decide), hf.1 .core List.not_mem_nil]
  exact hin

theorem eventSet_retirePage {h : Head} {w' : Wing} {e : EvRef} (he : EventSet h w' e) (hn : e.n < 32) (w : Wing) (page : Nat) :
    EventSet (retirePage h w page) w' e := by
  rw [retirePage_eq]
  split
  · exact he
  · split
    · exact eventSet_raise he hn w _ 0
    · refine eventSet_raise ?_ hn w _ 0
      have hp := frame_pageSpared h page (spareArea h w + 4096 * fget h w MEM_RETIRE_USED)
      generalize pageSpared h page (spareArea h w + 4096 * fget h w MEM_RETIRE_USED) = g at *
      have hf := (hp.mono (by decide) (by decide)).trans ((frame_fset g w 0 0 MEM_RETIRE_USED (fget h w MEM_RETIRE_USED + 1)).mono (l := [.core]) (by decide)
        (fun _ h => h))
      exact (hf.eventSet w' e (by simp [MEM_RETIRE_USED]) 0).mpr he

/-- The spare area's registers unchanged, the area is. -/
theorem spareArea_congr {h g : Head} (w : Wing) {l : List Part} {t : List (Block × Nat)} (x : Frame l t h g) (h1 : (.mem, 0x064) ∉ t) (h2 : (.mem, 0x068) ∉ t) :
    spareArea g w = spareArea h w := by
  unfold spareArea pget
  rw [x.fget w MEM_SPARE_LO_ADDR h1 (by decide) 0 0, x.fget w MEM_SPARE_HI_ADDR h2 (by decide) 0 0]

theorem frame_setPoison (h : Head) (a n : Nat) : Frame [.poison] [] h (setPoison h a n) := (frame_mk h (by simp)).2 (frame_refl _ _ h)

/-- A poisoned line: it lists its own, and all that were. -/
theorem poison_line (h : Head) (a : Nat) : a / 64 ∈ (setPoison h (a / 64 * 64) 64).poison ∧ ∀ l ∈ h.poison, l ∈ (setPoison h (a / 64 * 64) 64).poison := by
  refine ⟨?_, fun l hl => List.mem_append_left _ hl⟩
  have hline : a / 64 ∈ linesOf (a / 64 * 64) 64 := by
    refine List.mem_map.mpr ⟨0, List.mem_range.mpr (by omega), ?_⟩
    rw [Nat.zero_add, Nat.mul_div_cancel _ (by decide)]
  by_cases hm : a / 64 ∈ h.poison
  · exact List.mem_append_left _ hm
  · exact List.mem_append_right _ (List.mem_filter.mpr ⟨hline, by simpa using hm⟩)

theorem ddrUe_eq (h : Head) (a seg : Nat) (w : Wing) (hd : ddrSeg a = some (w, seg)) : ddrUe h a =
    retirePage (raise (faultAt (setPoison (fadd h w MEM_CNT_UE_COUNT) (a / 64 * 64) 64) .mem w a) w Ev.MEM_UE) w (a / 4096) := by
  unfold ddrUe
  rw [hd]

theorem frame_faultAt (h : Head) (b : Block) (w : Wing) (a : Nat) : Frame [] [(b, 0x020), (b, 0x024), (b, 0x028)] h (faultAt h b w a) := by
  unfold faultAt
  exact (frame_capture h (pg b w) _).mono (fun _ h => h) (fun _ h => h)

theorem ddrUe_poisons (s : State) (a seg : Nat) (w : Wing) (hrun : Runs s.dev) (hd : ddrSeg a = some (w, seg)) :
    Completes (.ddrUe a) s (fun h =>
      (a / 64) ∈ h.poison ∧ (∀ l ∈ s.dev.poison, l ∈ h.poison) ∧ EventSet h w Ev.MEM_UE ∧
        fget h w MEM_CNT_UE_COUNT = min (fget s.dev w MEM_CNT_UE_COUNT + 1) (2 ^ 32 - 1) ∧
        (spareArea s.dev w ≠ 0 → fget s.dev w MEM_RETIRE_USED < 256 →
          (a / 4096, spareArea s.dev w + 4096 * fget s.dev w MEM_RETIRE_USED) ∈ h.core.retired ∧
            fget h w MEM_RETIRE_USED = fget s.dev w MEM_RETIRE_USED + 1 ∧ EventSet h w Ev.MEM_PAGE_RETIRED) ∧
        h.mem = s.dev.mem ∧ h.out = s.dev.out) := by
  have heq := ddrUe_eq s.dev a seg w hd
  have ha := frame_fadd s.dev w 0 0 MEM_CNT_UE_COUNT 1
  have hcnt := fget_fadd_same s.dev w MEM_CNT_UE_COUNT 1 0 0 (by decide) (by decide)
  generalize fadd s.dev w MEM_CNT_UE_COUNT = x at *
  have hp := frame_setPoison x (a / 64 * 64) 64
  obtain ⟨hin, hkeep⟩ := poison_line x a
  rw [ha.1 .poison List.not_mem_nil] at hkeep
  generalize setPoison x (a / 64 * 64) 64 = y at *
  have hf := frame_faultAt y .mem w a
  generalize faultAt y .mem w a = z at *
  have hr := frame_raise z w 0 Ev.MEM_UE
  have he : EventSet (raise z w Ev.MEM_UE) w Ev.MEM_UE := raiseAt_sets _ _ _ (by decide)
  generalize raise z w Ev.MEM_UE = k at *
  have hk : Frame [.poison, .evq] [(.mem, 0x010), (.mem, 0x020), (.mem, 0x024), (.mem, 0x028), (.mem, 0x074)] s.dev k :=
    (((ha.mono (by decide) (by decide)).trans (hp.mono (by decide) (by decide))).trans (hf.mono (by decide) (by decide))).trans (hr.mono (by decide) (by decide))
  have hxk : Frame [.poison, .evq] [(.mem, 0x010), (.mem, 0x020), (.mem, 0x024), (.mem, 0x028)] x k :=
    ((hp.mono (by decide) (by decide)).trans (hf.mono (by decide) (by decide))).trans (hr.mono (by decide) (by decide))
  have hpo : k.poison = y.poison := (hr.1 .poison (by decide)).trans (hf.1 .poison List.not_mem_nil)
  have hret := frame_retirePage k w (a / 4096)
  have hfull := retirePage_retires k w (a / 4096)
  rw [spareArea_congr w hk (by decide) (by decide), hk.fget w MEM_RETIRE_USED (by decide) (by decide) 0 0] at hfull
  refine completes_of_eq (exec_ddrUe a) hrun heq ⟨?_, ?_, ?_, ?_, hfull, (hret.1 .mem (by decide)).trans (hk.1 .mem (by decide)),
    (hret.1 .out (by decide)).trans (hk.1 .out (by decide))⟩
  · rw [hret.1 .poison (by decide), hpo]
    exact hin
  · rw [hret.1 .poison (by decide), hpo]
    exact hkeep
  · exact eventSet_retirePage he (by decide) w (a / 4096)
  · exact (hret.fget w MEM_CNT_UE_COUNT (by decide) (by decide) 0 0).trans ((hxk.fget w MEM_CNT_UE_COUNT (by decide) (by decide) 0 0).trans hcnt)

/-- The corrected errors on record. -/
def ceList (h : Head) (l : List (Nat × Nat)) : Head := { h with core := { h.core with ce := l } }

/-- The corrected errors of the last 1,024 frames, with one of now. -/
def ceNow (h : Head) (page : Nat) : List (Nat × Nat) := h.core.ce.filter (fun r => decide (frameCount h < r.2 + 1024)) ++ [(page, frameCount h)]

theorem frame_ceList (h : Head) (l : List (Nat × Nat)) : Frame [.core] [] h (ceList h l) := (frame_mk h (by simp)).2 (frame_refl _ _ h)

theorem ddrCe_eq (h : Head) (a seg : Nat) (w : Wing) (hd : ddrSeg a = some (w, seg)) : ddrCe h a =
    if fget (ceList (fadd h w MEM_CNT_CE_COUNT) (ceNow h (a / 4096))) w MEM_CE_THRESH_COUNT ≤ ((ceNow h (a / 4096)).filter (fun r => r.1 == a / 4096)).length then
      retirePage (raise (ceList (fadd h w MEM_CNT_CE_COUNT) ((ceNow h (a / 4096)).filter (fun r => r.1 != a / 4096))) w Ev.MEM_CE_THRESH) w (a / 4096)
    else ceList (fadd h w MEM_CNT_CE_COUNT) (ceNow h (a / 4096)) := by
  unfold ddrCe
  rw [hd]
  rfl

theorem length_ceNow (h : Head) (page : Nat) : ((ceNow h page).filter (fun r => r.1 == page)).length =
    ((h.core.ce.filter (fun r => decide (frameCount h < r.2 + 1024))).filter (fun r => r.1 == page)).length + 1 := by
  rw [ceNow, List.filter_append, List.length_append, List.filter_cons_of_pos (by simp)]
  rfl

theorem ddrCe_counts (s : State) (a seg n : Nat) (w : Wing) (hrun : Runs s.dev) (hd : ddrSeg a = some (w, seg))
    (hn : n = ((s.dev.core.ce.filter (fun r => decide (frameCount s.dev < r.2 + 1024))).filter (fun r => r.1 == a / 4096)).length + 1) :
    Completes (.ddrCe a) s (fun h =>
      fget h w MEM_CNT_CE_COUNT = min (fget s.dev w MEM_CNT_CE_COUNT + 1) (2 ^ 32 - 1) ∧
        (fget s.dev w MEM_CE_THRESH_COUNT ≤ n → EventSet h w Ev.MEM_CE_THRESH ∧
          (spareArea s.dev w ≠ 0 → fget s.dev w MEM_RETIRE_USED < 256 →
            (a / 4096, spareArea s.dev w + 4096 * fget s.dev w MEM_RETIRE_USED) ∈ h.core.retired)) ∧
        (n < fget s.dev w MEM_CE_THRESH_COUNT → h.core.retired = s.dev.core.retired ∧ (a / 4096, frameCount s.dev) ∈ h.core.ce) ∧
        h.mem = s.dev.mem ∧ h.poison = s.dev.poison ∧ h.out = s.dev.out) := by
  have heq := ddrCe_eq s.dev a seg w hd
  have hlast : (a / 4096, frameCount s.dev) ∈ ceNow s.dev (a / 4096) := List.mem_append_right _ List.mem_cons_self
  rw [length_ceNow, ← hn] at heq
  have ha := frame_fadd s.dev w 0 0 MEM_CNT_CE_COUNT 1
  have hcnt := fget_fadd_same s.dev w MEM_CNT_CE_COUNT 1 0 0 (by decide) (by decide)
  generalize fadd s.dev w MEM_CNT_CE_COUNT = x at *
  generalize ceNow s.dev (a / 4096) = l at *
  have hl := frame_ceList x l
  rw [hl.fget w MEM_CE_THRESH_COUNT List.not_mem_nil (by decide) 0 0, ha.fget w MEM_CE_THRESH_COUNT (by decide) (by decide) 0 0] at heq
  by_cases hle : fget s.dev w MEM_CE_THRESH_COUNT ≤ n
  · rw [if_pos hle] at heq
    have hl' := frame_ceList x (l.filter (fun r => r.1 != a / 4096))
    generalize ceList x (l.filter (fun r => r.1 != a / 4096)) = y at *
    have hr := frame_raise y w 0 Ev.MEM_CE_THRESH
    have he : EventSet (raise y w Ev.MEM_CE_THRESH) w Ev.MEM_CE_THRESH := raiseAt_sets _ _ _ (by decide)
    generalize raise y w Ev.MEM_CE_THRESH = k at *
    have hk : Frame [.core, .evq] [(.mem, 0x010), (.mem, 0x070)] s.dev k :=
      ((ha.mono (by decide) (by decide)).trans (hl'.mono (by decide) (by decide))).trans (hr.mono (by decide) (by decide))
    have hret := frame_retirePage k w (a / 4096)
    have hfull := retirePage_retires k w (a / 4096)
    rw [spareArea_congr w hk (by decide) (by decide), hk.fget w MEM_RETIRE_USED (by decide) (by decide) 0 0] at hfull
    have hcount : fget (retirePage k w (a / 4096)) w MEM_CNT_CE_COUNT = min (fget s.dev w MEM_CNT_CE_COUNT + 1) (2 ^ 32 - 1) :=
      (hret.fget w MEM_CNT_CE_COUNT (by decide) (by decide) 0 0).trans ((hr.fget w MEM_CNT_CE_COUNT (by decide) (by decide) 0 0).trans
        ((hl'.fget w MEM_CNT_CE_COUNT List.not_mem_nil (by decide) 0 0).trans hcnt))
    exact completes_of_eq (exec_ddrCe a) hrun heq ⟨hcount, fun _ => ⟨eventSet_retirePage he (by decide) w (a / 4096), fun h1 h2 => (hfull h1 h2).1⟩,
      fun hlt => absurd hle (Nat.not_le.mpr hlt), (hret.1 .mem (by decide)).trans (hk.1 .mem (by decide)),
      (hret.1 .poison (by decide)).trans (hk.1 .poison (by decide)), (hret.1 .out (by decide)).trans (hk.1 .out (by decide))⟩
  · rw [if_neg hle] at heq
    have hxr : x.core.retired = s.dev.core.retired := congrArg CoreState.retired (ha.1 .core (by decide))
    exact completes_of_eq (exec_ddrCe a) hrun heq ⟨(hl.fget w MEM_CNT_CE_COUNT List.not_mem_nil (by decide) 0 0).trans hcnt, fun h => absurd h hle,
      fun _ => ⟨hxr, hlast⟩, ha.1 .mem (by decide), ha.1 .poison (by decide), ha.1 .out (by decide)⟩

theorem memScrubPass_raises (s : State) (w : Wing) (hrun : Runs s.dev) (he : fget s.dev w MEM_CTRL_SCRUB_EN = 1) :
    Completes (.memScrubPass w) s (fun h =>
      EventSet h w Ev.MEM_SCRUB_PASS ∧ RegsBut s.dev h [(.mem, 0x010)] ∧ SameButRegs s.dev h) := by
  have heq : memScrubPass s.dev w = raise s.dev w Ev.MEM_SCRUB_PASS := if_pos (by unfold fbit; rw [he]; decide)
  have hr := frame_raise s.dev w 0 Ev.MEM_SCRUB_PASS
  exact completes_of_eq (exec_memScrubPass w) hrun heq ⟨raiseAt_sets _ _ _ (by decide), hr.2, hr.sameButRegs⟩

/-! ### Pseudo-channels -/

/-- A list of slots that drops some and clears the mark of some of another list's. -/
def Trimmed (w : Wing) (l k : List Slot) : Prop :=
  (∀ v ∈ k, ∃ u ∈ l, v = u ∨ v = { u with used := false }) ∧ ∀ v ∈ l, v.st ≠ .clean ∨ v.wing ≠ w → v ∈ k

theorem trimmed_refl (w : Wing) (l : List Slot) : Trimmed w l l := ⟨fun v hv => ⟨v, hv, .inl rfl⟩, fun _ hv _ => hv⟩

theorem Trimmed.trans {w : Wing} {a b c : List Slot} (x : Trimmed w a b) (y : Trimmed w b c) : Trimmed w a c := by
  refine ⟨fun v hv => ?_, fun v hv hk => y.2 v (x.2 v hv hk) hk⟩
  obtain ⟨u, hu, hvu⟩ := y.1 v hv
  obtain ⟨t, ht, hut⟩ := x.1 u hu
  refine ⟨t, ht, ?_⟩
  rcases hut with rfl | rfl
  · exact hvu
  · rcases hvu with rfl | rfl <;> exact .inr rfl

/-- A slot that the clock does not replace. -/
theorem isCleanOn_false {w : Wing} {v : Slot} (hk : v.st ≠ .clean ∨ v.wing ≠ w) : isCleanOn w v = false := by
  unfold isCleanOn
  rcases hk with h | h
  · simp [h]
  · simp [h]

theorem trimmed_evictClean (l : List Slot) (w : Wing) : Trimmed w l (evictClean l w) := by
  unfold evictClean
  dsimp only
  refine ⟨fun v hv => ?_, fun v hv hk => List.mem_append_left _ (List.mem_filter.mpr ⟨hv, by rw [isCleanOn_false hk]; rfl⟩)⟩
  have hclean {u : Slot} (hu : u ∈ l.filter (isCleanOn w)) : u ∈ l := (List.mem_filter.mp hu).1
  have hfresh {v : Slot} (hv : v ∈ ((l.filter (isCleanOn w)).takeWhile (·.used)).map (fun s => { s with used := false })) :
      ∃ u ∈ l, v = u ∨ v = { u with used := false } := by
    obtain ⟨u, hu, rfl⟩ := List.mem_map.mp hv
    exact ⟨u, hclean ((List.takeWhile_sublist _).subset hu), .inr rfl⟩
  rcases List.mem_append.mp hv with h | h
  · exact ⟨v, (List.mem_filter.mp h).1, .inl rfl⟩
  · split at h
    · exact hfresh (List.mem_of_mem_drop h)
    · rcases List.mem_append.mp h with h | h
      · exact ⟨v, hclean (List.mem_of_mem_drop (List.mem_of_mem_drop h)), .inl rfl⟩
      · exact hfresh h

theorem trimmed_trimClean (h : Head) (w : Wing) (l : List Slot) : Trimmed w l (trimClean h w l) := by
  unfold trimClean
  generalize List.range (slotCount l w (fun s => s == .clean) - cleanLimit h w) = r
  induction r generalizing l with
  | nil => exact trimmed_refl w l
  | cons a r ih => exact (trimmed_evictClean l w).trans (ih _)

/-- The slots that a pseudo-channel's move leaves. -/
def moveKept (h : Head) (w : Wing) : List Slot :=
  (h.vit.slots.zipIdx.filter (fun e => !(e.1.wing == w && e.1.st == .clean && (Config.freeNat h.freeCtr).testBit e.2))).map (·.1)

theorem trimmed_moveKept (h : Head) (w : Wing) : Trimmed w h.vit.slots (moveKept h w) := by
  refine ⟨fun v hv => ?_, fun v hv hk => ?_⟩
  · obtain ⟨e, he, rfl⟩ := List.mem_map.mp hv
    exact ⟨e.1, List.fst_mem_of_mem_zipIdx (List.mem_filter.mp he).1, .inl rfl⟩
  · obtain ⟨i, hi⟩ := List.mem_iff_getElem?.mp hv
    refine List.mem_map.mpr ⟨(v, i), List.mem_filter.mpr ⟨List.mk_mem_zipIdx_iff_getElem?.mpr hi, ?_⟩, rfl⟩
    rcases hk with h | h <;> simp [h]

/-- A pseudo-channel being moved off. -/
def pchMoving (h : Head) (w : Wing) (p : Nat) : Head := fset { h with freeCtr := h.freeCtr + 1 } w HBM_PCH_STATE_STATE 1 p

theorem pchMove_eq (h : Head) (w : Wing) (p : Nat) : pchMove h w p = setSlots (pchMoving h w p) (trimClean (pchMoving h w p) w (moveKept h w)) := rfl

/-- The registers that a pseudo-channel's move may change. -/
def moveRegs : List (Block × Nat) := [(.hbm, 0x048), (.vit, 0x010), (.vit, 0x050), (.vit, 0x054), (.vit, 0x058), (.vit, 0x05C)]

theorem frame_pchMoving (h : Head) (w : Wing) (p : Nat) : Frame [.freeCtr] [(.hbm, 0x048)] h (pchMoving h w p) := by
  simp +decide only [pchMoving, frame_rules, frame_mk, true_or, or_true, and_self, frame_refl]

theorem pchMove_moves (h : Head) (w : Wing) (p : Nat) : pchState (pchMove h w p) w p = 1 ∧ Trimmed w h.vit.slots (pchMove h w p).vit.slots ∧
    Frame [.vit, .evq, .freeCtr] moveRegs h (pchMove h w p) := by
  have hm := frame_pchMoving h w p
  have hv : fget (pchMoving h w p) w HBM_PCH_STATE_STATE p = 1 := bget_bput_same_of_lt _ _ _ _ _ _ _ _ _ (by decide) (by decide) (by decide)
  have heq := pchMove_eq h w p
  have ht := (trimmed_moveKept h w).trans (trimmed_trimClean (pchMoving h w p) w (moveKept h w))
  generalize pchMoving h w p = g at *
  generalize trimClean g w (moveKept h w) = l at *
  have hs := frame_setSlots g l
  have hsl := vit_setSlots g l
  rw [heq]
  generalize setSlots g l = k at *
  refine ⟨(hs.fget w HBM_PCH_STATE_STATE (by decide) (by decide) p 0).trans hv, ?_, (hm.mono (by decide) (by decide)).trans (hs.mono (by decide) (by decide))⟩
  rw [hsl]
  exact ht

/-- The move writes STATE alone of its pseudo-channel's register. -/
theorem pchMove_corrected (h : Head) (w : Wing) (p : Nat) (hp : p < 65536) :
    fget (pchMove h w p) w HBM_PCH_STATE_CORRECTED p = fget h w HBM_PCH_STATE_CORRECTED p := by
  have hm : fget (pchMoving h w p) w HBM_PCH_STATE_CORRECTED p = fget h w HBM_PCH_STATE_CORRECTED p :=
    fget_fset_apart { h with freeCtr := h.freeCtr + 1 } w w HBM_PCH_STATE_STATE HBM_PCH_STATE_CORRECTED 1 p p rfl rfl (by decide) (by decide) (by decide)
      (by decide) (by decide) hp hp
  have heq := pchMove_eq h w p
  generalize pchMoving h w p = g at *
  rw [heq]
  exact ((frame_setSlots g _).fget w HBM_PCH_STATE_CORRECTED (by decide) (by decide) p 0).trans hm

theorem pchFence_moves (s : State) (ini : Initiator) (w : Wing) (p : Nat) (hrun : Runs s.dev) (hw : Writable s.dev ini (pg .hbm w) 0x04C)
    (hp : p = fget s.dev w HBM_PCH_INDEX_INDEX) (hst : pchState s.dev w p = 0) (hg : pchGone s.dev w < 2) :
    Completes (.pchFence ini w) s (fun h =>
      pchState h w p = 1 ∧ (∀ v ∈ h.vit.slots, ∃ u ∈ s.dev.vit.slots, v = u ∨ v = { u with used := false }) ∧
        (∀ v ∈ s.dev.vit.slots, v.st ≠ .clean ∨ v.wing ≠ w → v ∈ h.vit.slots) ∧
        h.mem = s.dev.mem ∧ h.out = s.dev.out) := by
  have heq : pchFence s.dev ini w = pchMove (reply s.dev false) w p := by
    unfold pchFence
    rw [withWrite_ok s.dev ini _ _ _ hw, hp] at *
    exact (if_neg (not_not.mpr hst)).trans (if_neg (Nat.not_le.mpr hg))
  obtain ⟨h1, ⟨h2, h3⟩, h4⟩ := pchMove_moves (reply s.dev false) w p
  exact completes_of_eq (exec_pchFence ini w) hrun heq ⟨h1, h2, h3, h4.1 .mem (by decide), h4.1 .out (by decide)⟩

/-- Corrected errors counted. -/
def hbmCounted (h : Head) (w : Wing) (p errors : Nat) : Head := fadd (fadd h w HBM_CNT_CE_COUNT errors) w HBM_PCH_STATE_CORRECTED errors p

theorem hbmCe_eq (h : Head) (w : Wing) (p errors : Nat) (hp : p < 96) : hbmCe h w p errors =
    if errors < fget (hbmCounted h w p errors) w HBM_CE_THRESH_COUNT then hbmCounted h w p errors
    else if pchState (raise (hbmCounted h w p errors) w Ev.HBM_CE_THRESH) w p ≠ 0 then raise (hbmCounted h w p errors) w Ev.HBM_CE_THRESH
    else if 2 ≤ pchGone (raise (hbmCounted h w p errors) w Ev.HBM_CE_THRESH) w then
      raise (faultAt (raise (hbmCounted h w p errors) w Ev.HBM_CE_THRESH) .hbm w 0) w Ev.HBM_UE
    else pchMove (raise (hbmCounted h w p errors) w Ev.HBM_CE_THRESH) w p := by
  unfold hbmCe
  rw [if_neg (Nat.not_le.mpr hp)]
  rfl

theorem hbmCounted_reads (h : Head) (w : Wing) (p errors : Nat) (hp : p < 65536) :
    fget (hbmCounted h w p errors) w HBM_CNT_CE_COUNT = min (fget h w HBM_CNT_CE_COUNT + errors) (2 ^ 32 - 1) ∧
      fget (hbmCounted h w p errors) w HBM_PCH_STATE_CORRECTED p = min (fget h w HBM_PCH_STATE_CORRECTED p + errors) 65535 ∧
      (∀ q, q < 65536 → pchState (hbmCounted h w p errors) w q = pchState h w q) ∧
      Frame [] [(.hbm, 0x048), (.hbm, 0x054)] h (hbmCounted h w p errors) := by
  have h1 := fget_fadd_same h w HBM_CNT_CE_COUNT errors 0 0 (by decide) (by decide)
  have hf := frame_fadd h w 0 0 HBM_CNT_CE_COUNT errors
  unfold hbmCounted
  generalize fadd h w HBM_CNT_CE_COUNT errors = g at *
  have hf' := frame_fadd g w p 0 HBM_PCH_STATE_CORRECTED errors
  refine ⟨(hf'.fget w HBM_CNT_CE_COUNT (by decide) (by decide) 0 0).trans h1, ?_, fun q hq => ?_,
    (hf.mono (fun _ h => h) (by decide)).trans (hf'.mono (fun _ h => h) (by decide))⟩
  · rw [fget_fadd_same g w HBM_PCH_STATE_CORRECTED errors p 0 (by decide) (by decide), hf.fget w HBM_PCH_STATE_CORRECTED (by decide) (by decide) p 0]
    rfl
  · exact (fget_fset_apart g w w HBM_PCH_STATE_CORRECTED HBM_PCH_STATE_STATE _ p q rfl rfl (by decide) (by decide) (by decide) (by decide) (by decide) hp
      hq).trans (hf.fget w HBM_PCH_STATE_STATE (by decide) (by decide) q 0)

theorem pchGone_congr {h g : Head} (w : Wing) (hs : ∀ q, q < 65536 → pchState g w q = pchState h w q) : pchGone g w = pchGone h w := by
  unfold pchGone
  refine congrArg List.length (List.filter_congr fun q hq => ?_)
  rw [hs q (Nat.lt_trans (List.mem_range.mp hq) (by decide))]

theorem hbmCe_counts (s : State) (w : Wing) (p errors : Nat) (hrun : Runs s.dev) (hp : p < 96) :
    Completes (.hbmCeFence w p errors) s (fun h =>
      fget h w HBM_CNT_CE_COUNT = min (fget s.dev w HBM_CNT_CE_COUNT + errors) (2 ^ 32 - 1) ∧
        fget h w HBM_PCH_STATE_CORRECTED p = min (fget s.dev w HBM_PCH_STATE_CORRECTED p + errors) 65535 ∧
        (errors < fget s.dev w HBM_CE_THRESH_COUNT → pchState h w p = pchState s.dev w p ∧ h.vit = s.dev.vit) ∧
        (fget s.dev w HBM_CE_THRESH_COUNT ≤ errors → EventSet h w Ev.HBM_CE_THRESH ∧
          (pchState s.dev w p = 0 → pchGone s.dev w < 2 → pchState h w p = 1)) ∧ h.mem = s.dev.mem ∧ h.out = s.dev.out) := by
  have heq := hbmCe_eq s.dev w p errors hp
  have hlt : p < 65536 := Nat.lt_trans hp (by decide)
  obtain ⟨h1, h2, h3, h4⟩ := hbmCounted_reads s.dev w p errors hlt
  generalize hbmCounted s.dev w p errors = x at *
  rw [h4.fget w HBM_CE_THRESH_COUNT (by decide) (by decide) 0 0] at heq
  by_cases hle : errors < fget s.dev w HBM_CE_THRESH_COUNT
  · rw [if_pos hle] at heq
    exact completes_of_eq (exec_hbmCeFence w p errors) hrun heq ⟨h1, h2, fun _ => ⟨h3 p hlt, h4.1 .vit List.not_mem_nil⟩,
      fun hn => absurd hle (Nat.not_lt.mpr hn), h4.1 .mem List.not_mem_nil, h4.1 .out List.not_mem_nil⟩
  · rw [if_neg hle] at heq
    have hr := frame_raise x w 0 Ev.HBM_CE_THRESH
    have he : EventSet (raise x w Ev.HBM_CE_THRESH) w Ev.HBM_CE_THRESH := raiseAt_sets _ _ _ (by decide)
    generalize raise x w Ev.HBM_CE_THRESH = y at *
    have hst (q : Nat) (hq : q < 65536) : pchState y w q = pchState s.dev w q := (hr.fget w HBM_PCH_STATE_STATE (by decide) (by decide) q 0).trans (h3 q hq)
    have hc1 := (hr.fget w HBM_CNT_CE_COUNT (by decide) (by decide) 0 0).trans h1
    have hc2 := (hr.fget w HBM_PCH_STATE_CORRECTED (by decide) (by decide) p 0).trans h2
    rw [hst p hlt, pchGone_congr w hst] at heq
    have hy : Frame [.evq] [(.hbm, 0x010), (.hbm, 0x048), (.hbm, 0x054)] s.dev y :=
      (h4.mono (by decide) (by decide)).trans (hr.mono (by decide) (by decide))
    by_cases hz : pchState s.dev w p ≠ 0
    · rw [if_pos hz] at heq
      exact completes_of_eq (exec_hbmCeFence w p errors) hrun heq ⟨hc1, hc2, fun hn => absurd hn hle, fun _ => ⟨he, fun h0 => absurd h0 hz⟩,
        hy.1 .mem (by decide), hy.1 .out (by decide)⟩
    · rw [if_neg hz] at heq
      by_cases hg : 2 ≤ pchGone s.dev w
      · rw [if_pos hg] at heq
        have hf := frame_faultAt y .hbm w 0
        have he' : EventSet (faultAt y .hbm w 0) w Ev.HBM_CE_THRESH := (hf.eventSet w Ev.HBM_CE_THRESH (by decide) 0).mpr he
        generalize faultAt y .hbm w 0 = z at *
        have hr' := frame_raise z w 0 Ev.HBM_UE
        have hyz := (hf.mono (l := [.evq]) (t := [(.hbm, 0x010), (.hbm, 0x020), (.hbm, 0x024), (.hbm, 0x028)]) (by decide) (by decide)).trans
          (hr'.mono (by decide) (by decide))
        exact completes_of_eq (exec_hbmCeFence w p errors) hrun heq ⟨(hyz.fget w HBM_CNT_CE_COUNT (by decide) (by decide) 0 0).trans hc1,
          (hyz.fget w HBM_PCH_STATE_CORRECTED (by decide) (by decide) p 0).trans hc2, fun hn => absurd hn hle,
          fun _ => ⟨eventSet_raise he' (by decide) w _ 0, fun _ hn => absurd hg (Nat.not_le.mpr hn)⟩,
          (hyz.1 .mem (by decide)).trans (hy.1 .mem (by decide)), (hyz.1 .out (by decide)).trans (hy.1 .out (by decide))⟩
      · rw [if_neg hg] at heq
        obtain ⟨m1, -, m3⟩ := pchMove_moves y w p
        have m4 := pchMove_corrected y w p hlt
        exact completes_of_eq (exec_hbmCeFence w p errors) hrun heq ⟨(m3.fget w HBM_CNT_CE_COUNT (by decide) (by decide) 0 0).trans hc1,
          m4.trans hc2, fun hn => absurd hn hle, fun _ => ⟨(m3.eventSet w Ev.HBM_CE_THRESH (by decide) 0).mpr he, fun _ _ => m1⟩,
          (m3.1 .mem (by decide)).trans (hy.1 .mem (by decide)), (m3.1 .out (by decide)).trans (hy.1 .out (by decide))⟩

theorem pchMoveDone_fences (s : State) (w : Wing) (p : Nat) (hrun : Runs s.dev) (hp : p < 96) (hst : pchState s.dev w p = 1) :
    Completes (.pchMoveDone w p) s (fun h =>
      pchState h w p = 2 ∧ EventSet h w Ev.HBM_PCH_FENCED ∧ RegsBut s.dev h [(.hbm, 0x010), (.hbm, 0x048)] ∧ SameButRegs s.dev h) := by
  have heq : pchMoveDone s.dev w p = raise (fset s.dev w HBM_PCH_STATE_STATE 2 p) w Ev.HBM_PCH_FENCED := if_pos ⟨hp, hst⟩
  have hf := frame_fset s.dev w p 0 HBM_PCH_STATE_STATE 2
  have hv : fget (fset s.dev w HBM_PCH_STATE_STATE 2 p) w HBM_PCH_STATE_STATE p = 2 :=
    bget_bput_same_of_lt _ _ _ _ _ _ _ _ _ (by decide) (by decide) (by decide)
  generalize fset s.dev w HBM_PCH_STATE_STATE 2 p = g at *
  have hr := frame_raise g w 0 Ev.HBM_PCH_FENCED
  have hall := (hf.mono (l := [.evq]) (t := [(.hbm, 0x010), (.hbm, 0x048)]) (by decide) (by decide)).trans (hr.mono (by decide) (by decide))
  exact completes_of_eq (exec_pchMoveDone w p) hrun heq ⟨(hr.fget w HBM_PCH_STATE_STATE (by decide) (by decide) p 0).trans hv, raiseAt_sets _ _ _ (by decide),
    hall.2, hall.sameButRegs⟩

/-! ### Uncorrectable errors in HBM -/

/-- What an uncorrectable error in HBM fails. -/
def hbmFails (h : Head) (w : Wing) : HbmUe → Head
  | .slot nsid granule seq => slotEcc h w nsid granule seq
  | .engine cls tag => readyOps h (fun o => o.cls == cls && o.wing == w && o.tag == tag && isDone o.status) (fun o =>
      { o with status := .mediaFail, bytes := 0, word := 0, extra := 0, place := [] })
  | .core hart => if hartRuns h hart then hartTrap h hart false else h
  | .unread => h

theorem hbmUe_eq (h : Head) (w : Wing) (a : Nat) (what : HbmUe) :
    hbmUe h w a what = hbmFails (raise (faultAt (fadd h w HBM_CNT_UE_COUNT) .hbm w a) w Ev.HBM_UE) w what := by
  cases what <;> rfl

theorem frame_slotLost (h : Head) (x : Slot) : Frame [.foy, .vit] [] h (slotLost h x) := by
  simp +decide only [slotLost, frame_ite, frame_mk, true_or, or_true, and_self, frame_refl, ite_self]

/-- A slot of a wing retired, counted. -/
def slotRetired (h : Head) (w : Wing) : Head :=
  { h with vit := if w = .east then { h.vit with retiredE := h.vit.retiredE + 1 } else { h.vit with retiredW := h.vit.retiredW + 1 } }

theorem slotEcc_eq (h : Head) (w : Wing) (nsid g q : Nat) : slotEcc h w nsid g q =
    match h.vit.slots.find? (fun x => x.wing == w && isVersion nsid g q x) with
    | none => h
    | some x => raise (slotRetired (freeSlots (slotLost h x) (fun x => x.wing == w && isVersion nsid g q x)) w) w Ev.VIT_SLOT_ECC := rfl

/-- The registers that a slot's retirement may change. -/
def slotRegs : List (Block × Nat) := [(.vit, 0x010), (.vit, 0x050), (.vit, 0x054), (.vit, 0x058), (.vit, 0x05C)]

theorem frame_slotEcc (h : Head) (w : Wing) (nsid g q : Nat) : Frame [.foy, .vit, .evq] slotRegs h (slotEcc h w nsid g q) := by
  rw [slotEcc_eq]
  split
  · exact frame_refl _ _ h
  · rename_i x _
    have h1 := frame_slotLost h x
    generalize slotLost h x = a at *
    have h2 := frame_setSlots a (a.vit.slots.filter (fun x => !(x.wing == w && isVersion nsid g q x)))
    have h3 : Frame [.vit] [] (freeSlots a (fun x => x.wing == w && isVersion nsid g q x)) (slotRetired (freeSlots a (fun x => x.wing == w && isVersion nsid g q x)) w) :=
      (frame_mk _ (by simp)).2 (frame_refl _ _ _)
    have h4 := frame_raise (slotRetired (freeSlots a (fun x => x.wing == w && isVersion nsid g q x)) w) w 0 Ev.VIT_SLOT_ECC
    exact (((h1.mono (by decide) (by decide)).trans (h2.mono (by decide) (by decide))).trans (h3.mono (by decide) (by decide))).trans
      (h4.mono (by decide) (by decide))

theorem slots_slotRetired (h : Head) (w : Wing) : (slotRetired h w).vit.slots = h.vit.slots := by
  cases w <;> rfl

/-- No slot of the version is left on the wing. -/
theorem slotEcc_frees (h : Head) (w : Wing) (nsid g q : Nat) : ∀ v ∈ (slotEcc h w nsid g q).vit.slots, ¬ (v.wing = w ∧ isVersion nsid g q v = true) := by
  intro v hv
  rw [slotEcc_eq] at hv
  split at hv
  · rename_i hnone
    rintro ⟨hw, hx⟩
    have := List.find?_eq_none.mp hnone v hv
    simp [hw, hx] at this
  · rename_i x _
    generalize slotLost h x = a at *
    have h2 := vit_setSlots a (a.vit.slots.filter (fun x => !(x.wing == w && isVersion nsid g q x)))
    rw [(frame_raise (slotRetired (freeSlots a (fun x => x.wing == w && isVersion nsid g q x)) w) w 0 Ev.VIT_SLOT_ECC).1 .vit (by decide),
      slots_slotRetired, freeSlots, h2] at hv
    rintro ⟨hw, hx⟩
    have := (List.mem_filter.mp hv).2
    simp [hw, hx] at this

theorem frame_readyOps (h : Head) (p : EngOp → Bool) (f : EngOp → EngOp) : Frame [.eng] [] h (readyOps h p f) := (frame_mk h (by simp)).2 (frame_refl _ _ h)

theorem frame_hbmFails (h : Head) (w : Wing) (what : HbmUe) : Frame [.foy, .vit, .evq, .eng, .out] slotRegs h (hbmFails h w what) := by
  cases what with
  | slot nsid g q => exact (frame_slotEcc h w nsid g q).mono (by decide) (fun _ h => h)
  | engine cls tag => exact (frame_readyOps h _ _).mono (by decide) (List.nil_subset _)
  | core n =>
    simp +decide only [hbmFails, hartTrap, frame_ite, frame_rules, frame_refl, ite_self]
  | unread => exact frame_refl _ _ h

/-- Whether a hart runs is told by its core's state, its wait and its wing's release. -/
theorem hartRuns_congr {h g : Head} {l : List Part} {t : List (Block × Nat)} (x : Frame l t h g) (hc : .core ∉ l) (hd : .doc ∉ l)
    (ht : (CPU_CORE_STATE_STATE.block, CPU_CORE_STATE_STATE.off) ∉ t) (n : Nat) : hartRuns g n = hartRuns h n := by
  unfold hartRuns coreState
  rw [x.fget (hartWing n) CPU_CORE_STATE_STATE ht (by decide) (hartCore n) 0, x.1 .core hc, x.1 .doc hd]

theorem hbmUe_fails (s : State) (w : Wing) (a : Nat) (what : HbmUe) (hrun : Runs s.dev) :
    Completes (.hbmUe w a what) s (fun h =>
      EventSet h w Ev.HBM_UE ∧ fget h w HBM_CNT_UE_COUNT = min (fget s.dev w HBM_CNT_UE_COUNT + 1) (2 ^ 32 - 1) ∧ h.mem = s.dev.mem ∧
        (what = .unread → RegsBut s.dev h [(.hbm, 0x010), (.hbm, 0x020), (.hbm, 0x024), (.hbm, 0x028), (.hbm, 0x058)] ∧
          SameButRegs s.dev h) ∧
        (∀ n, what = .core n → hartRuns s.dev n = true → h.out = s.dev.out ++ [.hartTrap n false]) ∧
        (∀ nsid g q, what = .slot nsid g q → ∀ v ∈ h.vit.slots, ¬ (v.wing = w ∧ isVersion nsid g q v = true)) ∧
        (∀ cls tag, what = .engine cls tag → ∀ o ∈ h.eng.ops, o.cls = cls → o.wing = w → o.tag = tag → o.held = false →
          isDone o.status = false)) := by
  have heq := hbmUe_eq s.dev w a what
  have ha := frame_fadd s.dev w 0 0 HBM_CNT_UE_COUNT 1
  have hcnt := fget_fadd_same s.dev w HBM_CNT_UE_COUNT 1 0 0 (by decide) (by decide)
  generalize fadd s.dev w HBM_CNT_UE_COUNT = x at *
  have hf := frame_faultAt x .hbm w a
  generalize faultAt x .hbm w a = y at *
  have hr := frame_raise y w 0 Ev.HBM_UE
  have he : EventSet (raise y w Ev.HBM_UE) w Ev.HBM_UE := raiseAt_sets _ _ _ (by decide)
  generalize raise y w Ev.HBM_UE = k at *
  have hk : Frame [.evq] [(.hbm, 0x010), (.hbm, 0x020), (.hbm, 0x024), (.hbm, 0x028), (.hbm, 0x058)] s.dev k :=
    ((ha.mono (by decide) (by decide)).trans (hf.mono (by decide) (by decide))).trans (hr.mono (by decide) (by decide))
  have hc : fget k w HBM_CNT_UE_COUNT = _ := (hr.fget w HBM_CNT_UE_COUNT (by decide) (by decide) 0 0).trans
    ((hf.fget w HBM_CNT_UE_COUNT (by decide) (by decide) 0 0).trans hcnt)
  have hw := frame_hbmFails k w what
  refine completes_of_eq (exec_hbmUe w a what) hrun heq ⟨(hw.eventSet w Ev.HBM_UE (by decide) 0).mpr he,
    (hw.fget w HBM_CNT_UE_COUNT (by decide) (by decide) 0 0).trans hc, (hw.1 .mem (by decide)).trans (hk.1 .mem (by decide)), ?_, ?_, ?_, ?_⟩
  · rintro rfl
    exact ⟨hk.2, hk.sameButRegs⟩
  · rintro n rfl hn
    have hkn : hartRuns k n = true := (hartRuns_congr hk (by decide) (by decide) (by decide) n).trans hn
    exact (congrArg Head.out (if_pos hkn)).trans (congrArg (· ++ [Msg.hartTrap n false]) (hk.1 .out (by decide)))
  · rintro nsid g q rfl
    exact slotEcc_frees k w nsid g q
  · rintro cls tag rfl o ho hcls hwing htag hheld
    obtain ⟨e, -, rfl⟩ := List.mem_map.mp ho
    by_cases hb : (e.cls == cls && e.wing == w && e.tag == tag && isDone e.status && !e.held) = true
    · simp only [hb, if_true]
      rfl
    · simp only [hb, if_false, Bool.false_eq_true] at hcls hwing htag hheld ⊢
      simpa [hcls, hwing, htag, hheld] using hb

/-! ### The obligation -/

/-- Settles O49, a lemma for each command: a transfer that starts takes a channel, `stopChannel_stops` empties one, a segment moves and
lands, and each memory error leaves its mark. -/
theorem memoryAndDmaAct : Obligations.MemoryAndDmaAct := by
  unfold Obligations.MemoryAndDmaAct
  exact ⟨dma_starts, dmaDisable_stops, dmaEnable_serves, dmaHalt_stops, migrateStart_starts, migrateDone_ends, channelFence_fences, channelUnfence_unfences,
    ddrUe_poisons, ddrCe_counts, memScrubPass_raises, pchFence_moves, hbmCe_counts, pchMoveDone_fences, hbmUe_fails⟩

end Sys2Proof.Laws
end

section
/-! The Annex ports: messages put on them, flits, timers, training, and the obligation on their recovery (R149 to R155, R180). -/

namespace Sys2Proof.Laws

open Machine Machine.Reg

/-! ### What a port's step leaves unchanged -/

/-- A step of the Annex ports: their link states alone change, and messages may leave. -/
structure AnxStep (h g : Head) : Prop where
  head : g = { h with vit := { h.vit with linkE := g.vit.linkE, linkW := g.vit.linkW }, out := g.out }
  out : ∃ ms, g.out = h.out ++ ms

theorem anxStep_refl (h : Head) : AnxStep h h := ⟨rfl, [], (List.append_nil _).symm⟩

theorem AnxStep.trans {a b c : Head} (x : AnxStep a b) (y : AnxStep b c) : AnxStep a c := by
  obtain ⟨hx, m, hm⟩ := x
  obtain ⟨hy, n, hn⟩ := y
  refine ⟨hy.trans ?_, m ++ n, by rw [hn, hm, List.append_assoc]⟩
  rw [hx]

theorem AnxStep.frame {h g : Head} (x : AnxStep h g) : Frame [.vit, .out] [] h g := by
  rw [x.head]
  exact (frame_mk h (by simp)).2 (frame_refl _ _ h)

theorem AnxStep.vit {h g : Head} (x : AnxStep h g) : g.vit = { h.vit with linkE := g.vit.linkE, linkW := g.vit.linkW } := congrArg Head.vit x.head

theorem AnxStep.toMirror {h g : Head} (x : AnxStep h g) : g.vit.toMirror = h.vit.toMirror := by rw [x.vit]

theorem AnxStep.unacked {h g : Head} (x : AnxStep h g) : g.vit.unacked = h.vit.unacked := by rw [x.vit]

theorem AnxStep.slots {h g : Head} (x : AnxStep h g) : g.vit.slots = h.vit.slots := by rw [x.vit]

theorem AnxStep.subset {h g : Head} (x : AnxStep h g) {m : Msg} (hm : m ∈ h.out) : m ∈ g.out := by
  obtain ⟨-, ms, ho⟩ := x
  rw [ho]
  exact List.mem_append_left ms hm

@[simp] theorem anxLink_setAnxLink_same (h : Head) (w : Wing) (l : LinkState) : anxLink (setAnxLink h w l) w = l := by
  cases w <;> rfl

@[simp] theorem anxLink_setAnxLink_other (h : Head) (w : Wing) (l : LinkState) : anxLink (setAnxLink h w l) (otherWing w) = anxLink h (otherWing w) := by
  cases w <;> rfl

@[simp] theorem setAnxLink_twice (h : Head) (w : Wing) (l k : LinkState) : setAnxLink (setAnxLink h w l) w k = setAnxLink h w k := by
  cases w <;> rfl

@[simp] theorem setAnxLink_self (h : Head) (w : Wing) : setAnxLink h w (anxLink h w) = h := by
  cases w <;> rfl

theorem anxStep_setAnxLink (h : Head) (w : Wing) (l : LinkState) : AnxStep h (setAnxLink h w l) := by
  cases w <;> exact ⟨rfl, [], (List.append_nil _).symm⟩

theorem anxStep_send (h : Head) (m : Msg) : AnxStep h (send h m) := ⟨rfl, [m], rfl⟩

theorem sends_eq (h : Head) (ms : List Msg) : foldHead h ms send = { h with out := h.out ++ ms } := by
  unfold foldHead
  induction ms generalizing h with
  | nil => simp
  | cons m ms ih =>
    rw [List.foldl_cons, ih]
    simp [send]

theorem anxStep_drainAnx (h : Head) (w : Wing) : AnxStep h (drainAnx h w) := by
  unfold drainAnx
  split
  · dsimp only
    rw [sends_eq]
    exact (anxStep_setAnxLink h w _).trans ⟨rfl, _, rfl⟩
  · exact anxStep_refl h

theorem anxStep_anxPut (h : Head) (port : Wing) (mtag coll : Nat) (b : AnxBody) : AnxStep h (anxPut h port mtag coll b) :=
  (anxStep_setAnxLink h port _).trans (anxStep_drainAnx _ port)

theorem anxStep_anxSend (h : Head) (w : Wing) (mtag coll : Nat) (b : AnxBody) : AnxStep h (anxSend h w mtag coll b) := by
  unfold anxSend
  split
  · exact anxStep_anxPut ..
  · exact anxStep_refl h

theorem anxStep_resendAll (h : Head) (p : Unacked → Bool) : AnxStep h (resendAll h p) := by
  unfold resendAll
  generalize h.vit.unacked.filter p = l
  unfold foldHead
  induction l generalizing h with
  | nil => exact anxStep_refl h
  | cons u l ih => exact (anxStep_anxSend h _ _ _ _).trans (ih _)

/-- A port sends as its registers say. -/
theorem anxSends_setAnxLink (h : Head) (v w : Wing) (l : LinkState) : anxSends (setAnxLink h w l) v = anxSends h v := rfl

/-- A message put on a port is sent as `AnxSent` says. -/
theorem anxSent_anxPut (h : Head) (port : Wing) (mtag coll : Nat) (b : AnxBody) : AnxSent h (anxPut h port mtag coll b) port mtag coll b := by
  unfold AnxSent anxPut drainAnx
  dsimp only
  rw [anxSends_setAnxLink, anxLink_setAnxLink_same]
  generalize (anxLink h port).push ⟨anxVc b, anxFlits b, .annex port mtag coll b⟩ = l
  cases hs : anxSends h port with
  | false =>
    simp only [Bool.false_eq_true, if_false]
    exact ⟨anxLink_setAnxLink_other .., fun hf => absurd hf (by decide), fun _ => ⟨anxLink_setAnxLink_same .., rfl⟩⟩
  | true =>
    simp only [if_true, setAnxLink_twice, sends_eq]
    exact ⟨anxLink_setAnxLink_other h port (drainLink anxRule l).1, fun _ => ⟨anxLink_setAnxLink_same h port (drainLink anxRule l).1, rfl⟩,
      fun hf => absurd hf (by decide)⟩

/-! ### Ports with nothing to send -/

theorem drainAnx_idle (h : Head) (w : Wing) (hq : (anxLink h w).queue = []) : drainAnx h w = h := by
  unfold drainAnx
  rw [drainLink_idle _ _ hq]
  dsimp only
  rw [setAnxLink_self]
  exact ite_self _

theorem drainAnx_closed (h : Head) (w : Wing) (hs : anxSends h w = false) : drainAnx h w = h := if_neg (by rw [hs]; decide)

theorem mirrorSend_none (h : Head) (w : Wing) (hm : h.vit.toMirror = []) : mirrorSend h w = h := by
  unfold mirrorSend
  rw [hm]
  rfl

/-- A port that can send again, with no granule that waits for its MIRROR, sends what waits on it. -/
theorem pumpPort_plain (h : Head) (w : Wing) (hm : h.vit.toMirror = []) : pumpPort h w = drainAnx h w := by
  have hd : (drainAnx h w).vit.toMirror = [] := (anxStep_drainAnx h w).toMirror.trans hm
  unfold pumpPort
  generalize drainAnx h w = g at *
  show mirrorSend (mirrorSend g .east) .west = g
  rw [mirrorSend_none g .east hd, mirrorSend_none g .west hd]

/-- A message that is kept until its reply comes, sent. -/
theorem frame_anxRequest (h : Head) (w : Wing) (coll : Nat) (b : AnxBody) : Frame [.vit, .out] [] h (anxRequest h w coll b).2 := by
  have h1 : Frame [.vit, .out] [] h (takeMtag h w).2 := by cases w <;> exact (frame_mk h (by simp)).2 (frame_refl _ _ h)
  unfold anxRequest
  generalize takeMtag h w = t at *
  have h2 : Frame [.vit, .out] [] t.2 { t.2 with vit := { t.2.vit with unacked := t.2.vit.unacked ++ [⟨w, t.1, coll, b, false⟩] } } :=
    (frame_mk t.2 (by simp)).2 (frame_refl _ _ t.2)
  exact (h1.trans h2).trans (anxStep_anxSend _ w t.1 coll b).frame

theorem frame_formMirror (h : Head) (w : Wing) : Frame [.vit, .out] [] h (formMirror h w) := by
  simp +decide only [formMirror, frame_ite, (frame_anxRequest ..).iff, frame_mk, true_or, or_true, and_self, frame_refl, ite_self]

theorem frame_mirrorLoop (n : Nat) (h : Head) (w : Wing) : Frame [.vit, .out] [] h (mirrorLoop n h w) := by
  induction n generalizing h with
  | zero => exact frame_refl _ _ h
  | succ n ih =>
    unfold mirrorLoop
    split
    · exact (frame_formMirror h w).trans (ih _)
    · exact frame_refl _ _ h

theorem frame_mirrorSend (h : Head) (w : Wing) : Frame [.vit, .out] [] h (mirrorSend h w) := frame_mirrorLoop ..

theorem frame_pumpPort (h : Head) (w : Wing) : Frame [.vit, .out] [] h (pumpPort h w) :=
  (anxStep_drainAnx h w).frame.trans ((frame_mirrorSend _ .east).trans (frame_mirrorSend _ .west))

/-! ### Flits -/

/-- The message sent whole leaves at once. -/
theorem anxSent_leaves (g h : Head) (port : Wing) (mtag coll : Nat) (b : AnxBody) (hx : AnxSent g h port mtag coll b) (hs : anxSends g port = true)
    (hq : (anxLink g port).queue = []) (hc : anxFlits b ≤ (anxLink g port).credits.getD (anxVc b) 0)
    (hw : (anxLink g port).replay.length + anxFlits b ≤ 512) :
    h.out = g.out ++ [.annex port mtag coll b] ∧ (anxLink h port).queue = [] ∧
      (anxLink h port).replay.length = (anxLink g port).replay.length + anxFlits b ∧
      (anxLink h port).credits.getD (anxVc b) 0 = (anxLink g port).credits.getD (anxVc b) 0 - anxFlits b := by
  obtain ⟨-, hsent, -⟩ := hx
  obtain ⟨hl, ho⟩ := hsent hs
  have hqueue : ((anxLink g port).push ⟨anxVc b, anxFlits b, .annex port mtag coll b⟩).queue = [⟨anxVc b, anxFlits b, .annex port mtag coll b⟩] := by
    unfold LinkState.push
    rw [hq, List.nil_append]
  have huses : LinkUses anxRule (anxVc b) := by
    have hall : ∀ v ∈ [0, 1, 2, 3], LinkUses anxRule v := by
      unfold LinkUses
      decide
    exact hall _ (by cases b <;> simp [anxVc])
  have hpos : 0 < anxFlits b := by
    unfold anxFlits
    omega
  have hd : drainLink anxRule ((anxLink g port).push ⟨anxVc b, anxFlits b, .annex port mtag coll b⟩) =
      pumpLink anxRule (anxFlits b) ((anxLink g port).push ⟨anxVc b, anxFlits b, .annex port mtag coll b⟩) := by
    unfold drainLink
    rw [hqueue]
    rfl
  obtain ⟨i1, i2, -, i4, i5⟩ := pumpLink_whole anxRule (anxFlits b) _ _ _ _ hqueue huses hpos le_rfl hc hw
  rw [hd] at hl ho
  rw [hl, ho, i1, i2, i4, i5]
  exact ⟨rfl, rfl, rfl, rfl⟩

/-- What a flit or timer leads to, where nothing waits for its MIRROR: the port's registers and its link apart. -/
def resultSent (h : Head) (w : Wing) (r : FlitResult) : Head :=
  let h := setAnxLink h w r.link
  let h := if r.nak then send h (.nak w none r.link.rxNext) else h
  let h := if r.resent = [] then h
    else raise (send (fadd h w ANX_RETRY_COUNT_COUNT r.resent.length) (.replay w none r.resent)) w Ev.ANX_LINK_RETRY
  let h := if r.ack then send (setAnxLink h w (acknowledge anxRule (anxLink h w) w none).1) (acknowledge anxRule (anxLink h w) w none).2 else h
  if r.retrain then raise (anxRetrain h w) w Ev.ANX_LINK_RETRAIN else h

theorem anxLinkResult_eq (h : Head) (w : Wing) (r : FlitResult) : anxLinkResult h w r = pumpPort (resultSent h w r) w := rfl

theorem resultSent_acked (h : Head) (w : Wing) (l : LinkState) : resultSent h w ⟨l, false, true, [], false⟩ =
    send (setAnxLink h w (acknowledge anxRule l w none).1) (acknowledge anxRule l w none).2 := by
  unfold resultSent
  simp

theorem acknowledge_queue (r : LinkRule) (l : LinkState) (w : Wing) (link : Option Nat) : (acknowledge r l w link).1.queue = l.queue := by
  unfold acknowledge
  dsimp only
  split <;> rfl

theorem anxFlit_accepted (s : State) (w : Wing) (vc ackseq m : Nat) (cr : List Nat) (hrun : Runs s.dev) (hu : anxUp s.dev w = true) (h1 : 1 ≤ m)
    (h10 : m ≤ 10) (hq : (anxLink s.dev w).queue = []) (hm : s.dev.vit.toMirror = []) :
    Completes (.anxFlit w true 1 vc (anxLink s.dev w).rxNext 0 ackseq cr (some m)) s (fun h =>
      let l := anxLink s.dev w
      let r := acknowledge anxRule { l with rxNext := (l.rxNext + 1) % 1024, nakSent := false, owed := addAt l.owed vc 1 } w none
      anxLink h w = r.1 ∧ h.out = s.dev.out ++ [r.2] ∧ RegsBut s.dev h [] ∧ h.vit.slots = s.dev.vit.slots) := by
  have hrecv : receiveFlit (anxLink s.dev w) (true && decide (1 < 4)) ⟨1, vc, (anxLink s.dev w).rxNext, 0, ackseq, cr⟩ =
      ⟨(anxLink s.dev w).accept ⟨1, vc, (anxLink s.dev w).rxNext, 0, ackseq, cr⟩, false, true, [], false⟩ := by
    exact receiveFlit_next _ _ rfl Nat.one_ne_zero rfl
  have hknown : ((some m).any (fun m => m == 0 || decide (10 < m))) = false := by
    have h0 : (m == 0) = false := beq_eq_false_iff_ne.mpr (by omega)
    simp only [Option.any_some, h0, decide_eq_false (Nat.not_lt.mpr h10), Bool.or_false]
  have heq : anxFlit s.dev w true 1 vc (anxLink s.dev w).rxNext 0 ackseq cr (some m) =
      pumpPort (resultSent s.dev w ⟨(anxLink s.dev w).accept ⟨1, vc, (anxLink s.dev w).rxNext, 0, ackseq, cr⟩, false, true, [], false⟩) w := by
    unfold anxFlit
    dsimp only
    rw [hu, hrecv, hknown, anxLinkResult_eq, Bool.and_false]
    rfl
  have hacc : (anxLink s.dev w).accept ⟨1, vc, (anxLink s.dev w).rxNext, 0, ackseq, cr⟩ =
      { anxLink s.dev w with rxNext := ((anxLink s.dev w).rxNext + 1) % 1024, nakSent := false, owed := addAt (anxLink s.dev w).owed vc 1 } := by
    unfold LinkState.accept
    simp
  have hqueue := (acknowledge_queue anxRule ((anxLink s.dev w).accept ⟨1, vc, (anxLink s.dev w).rxNext, 0, ackseq, cr⟩) w none).trans
    ((congrArg LinkState.queue hacc).trans hq)
  rw [resultSent_acked] at heq
  dsimp only at hacc ⊢
  rw [← hacc]
  generalize acknowledge anxRule ((anxLink s.dev w).accept ⟨1, vc, (anxLink s.dev w).rxNext, 0, ackseq, cr⟩) w none = r at *
  have hstep := (anxStep_setAnxLink s.dev w r.1).trans (anxStep_send _ r.2)
  have hown : anxLink (send (setAnxLink s.dev w r.1) r.2) w = r.1 := anxLink_setAnxLink_same s.dev w r.1
  have hout : (send (setAnxLink s.dev w r.1) r.2).out = s.dev.out ++ [r.2] := rfl
  generalize send (setAnxLink s.dev w r.1) r.2 = g at *
  rw [pumpPort_plain g w (hstep.toMirror.trans hm), drainAnx_idle g w (by rw [hown]; exact hqueue)] at heq
  exact completes_of_eq (exec_anxFlit ..) hrun heq ⟨hown, hout, hstep.frame.2, hstep.slots⟩

theorem resultSent_refused (h : Head) (w : Wing) (l : LinkState) : resultSent h w ⟨l, true, false, [], false⟩ =
    send (setAnxLink h w l) (.nak w none l.rxNext) := by
  unfold resultSent
  simp

theorem anxFlit_damaged (s : State) (w : Wing) (ftype vc lseq acktype ackseq : Nat) (cr : List Nat) (mtype : Option Nat) (hrun : Runs s.dev)
    (hu : anxUp s.dev w = true) (hn : (anxLink s.dev w).nakSent = false) (hq : (anxLink s.dev w).queue = []) (hm : s.dev.vit.toMirror = []) :
    Completes (.anxFlit w false ftype vc lseq acktype ackseq cr mtype) s (fun h =>
      anxLink h w = { anxLink s.dev w with nakSent := true } ∧
        h.out = s.dev.out ++ [.nak w none (anxLink s.dev w).rxNext] ∧ RegsBut s.dev h []) := by
  have hrecv : receiveFlit (anxLink s.dev w) (false && decide (ftype < 4)) ⟨ftype, vc, lseq, acktype, ackseq, cr⟩ =
      ⟨{ anxLink s.dev w with nakSent := true }, true, false, [], false⟩ := by
    unfold receiveFlit
    rw [hn]
    rfl
  have heq : anxFlit s.dev w false ftype vc lseq acktype ackseq cr mtype =
      pumpPort (resultSent s.dev w ⟨{ anxLink s.dev w with nakSent := true }, true, false, [], false⟩) w := by
    unfold anxFlit
    dsimp only
    rw [hu, hrecv, anxLinkResult_eq]
    rfl
  rw [resultSent_refused] at heq
  have hstep := (anxStep_setAnxLink s.dev w { anxLink s.dev w with nakSent := true }).trans (anxStep_send _ (.nak w none (anxLink s.dev w).rxNext))
  have hown : anxLink (send (setAnxLink s.dev w { anxLink s.dev w with nakSent := true }) (.nak w none (anxLink s.dev w).rxNext)) w =
    { anxLink s.dev w with nakSent := true } := anxLink_setAnxLink_same s.dev w _
  have hout : (send (setAnxLink s.dev w { anxLink s.dev w with nakSent := true }) (.nak w none (anxLink s.dev w).rxNext)).out =
    s.dev.out ++ [.nak w none (anxLink s.dev w).rxNext] := rfl
  generalize send (setAnxLink s.dev w { anxLink s.dev w with nakSent := true }) (.nak w none (anxLink s.dev w).rxNext) = g at *
  rw [pumpPort_plain g w (hstep.toMirror.trans hm), drainAnx_idle g w (by rw [hown]; exact hq)] at heq
  exact completes_of_eq (exec_anxFlit ..) hrun heq ⟨hown, hout, hstep.frame.2⟩

/-! ### The replay timer -/

theorem frame_setAnxLink (h : Head) (w : Wing) (l : LinkState) : Frame [.vit] [] h (setAnxLink h w l) := (frame_mk h (by simp)).2 (frame_refl _ _ h)

/-- Flits sent again: counted, and told. -/
def flitsAgain (h : Head) (w : Wing) (l : LinkState) (again : List Nat) : Head :=
  raise (send (fadd (setAnxLink h w l) w ANX_RETRY_COUNT_COUNT again.length) (.replay w none again)) w Ev.ANX_LINK_RETRY

theorem resultSent_again (h : Head) (w : Wing) (l : LinkState) (again : List Nat) (hne : again ≠ []) :
    resultSent h w ⟨l, false, false, again, false⟩ = flitsAgain h w l again := by
  unfold resultSent
  simp only [Bool.false_eq_true, if_false, hne]
  rfl

theorem flitsAgain_counts (h : Head) (w : Wing) (l : LinkState) (again : List Nat) :
    anxLink (flitsAgain h w l again) w = l ∧ (flitsAgain h w l again).out = h.out ++ [.replay w none again] ∧
      (flitsAgain h w l again).vit.toMirror = h.vit.toMirror ∧
      fget (flitsAgain h w l again) w ANX_RETRY_COUNT_COUNT = min (fget h w ANX_RETRY_COUNT_COUNT + again.length) (2 ^ 32 - 1) ∧
      EventSet (flitsAgain h w l again) w Ev.ANX_LINK_RETRY ∧ Frame [.vit, .evq, .out] [(.anx, 0x010), (.anx, 0x06C)] h (flitsAgain h w l again) := by
  have h1 := frame_setAnxLink h w l
  have hm : (setAnxLink h w l).vit.toMirror = h.vit.toMirror := (anxStep_setAnxLink h w l).toMirror
  have hl : anxLink (setAnxLink h w l) w = l := anxLink_setAnxLink_same ..
  have ho : (setAnxLink h w l).out = h.out := rfl
  unfold flitsAgain
  generalize setAnxLink h w l = a at *
  have h2 := frame_fadd a w 0 0 ANX_RETRY_COUNT_COUNT again.length
  have hc := fget_fadd_same a w ANX_RETRY_COUNT_COUNT again.length 0 0 (by decide) (by decide)
  rw [h1.fget w ANX_RETRY_COUNT_COUNT List.not_mem_nil (by decide) 0 0] at hc
  generalize fadd a w ANX_RETRY_COUNT_COUNT again.length = b at *
  have h3 := frame_send b (.replay w none again)
  have ho3 : (send b (.replay w none again)).out = b.out ++ [.replay w none again] := rfl
  generalize send b (.replay w none again) = c at *
  have h4 := frame_raise c w 0 Ev.ANX_LINK_RETRY
  have hv : (raise c w Ev.ANX_LINK_RETRY).vit = a.vit := (h4.1 .vit (by decide)).trans ((h3.1 .vit (by decide)).trans (h2.1 .vit List.not_mem_nil))
  refine ⟨(congrArg (fun v : VitState => if w = .east then v.linkE else v.linkW) hv).trans hl, ?_, (congrArg VitState.toMirror hv).trans hm,
    (h4.fget w ANX_RETRY_COUNT_COUNT (by decide) (by decide) 0 0).trans ((h3.fget w ANX_RETRY_COUNT_COUNT (by decide) (by decide) 0 0).trans hc),
    raiseAt_sets _ _ _ (by decide), ?_⟩
  · rw [h4.1 .out (by decide), ho3, h2.1 .out List.not_mem_nil, ho]
  · exact (((h1.mono (by decide) (by decide)).trans (h2.mono (by decide) (by decide))).trans (h3.mono (by decide) (by decide))).trans
      (h4.mono (by decide) (by decide))

theorem anxReplayTimer_replays (s : State) (w : Wing) (hrun : Runs s.dev) (hr : (anxLink s.dev w).replay ≠ [])
    (ht : fget s.dev w ANX_LINK_STATUS_TRAINING = 0) (h8 : ∀ e ∈ (anxLink s.dev w).replay, e.2 < 8) (hq : (anxLink s.dev w).queue = [])
    (hm : s.dev.vit.toMirror = []) :
    Completes (.anxReplayTimer w) s (fun h =>
      h.out = s.dev.out ++ [.replay w none ((anxLink s.dev w).replay.map (·.1))] ∧
        (anxLink h w).replay = (anxLink s.dev w).replay.map (fun e => (e.1, e.2 + 1)) ∧
        fget h w ANX_RETRY_COUNT_COUNT =
          min (fget s.dev w ANX_RETRY_COUNT_COUNT + (anxLink s.dev w).replay.length) (2 ^ 32 - 1) ∧
        EventSet h w Ev.ANX_LINK_RETRY ∧ RegsBut s.dev h [(.anx, 0x010), (.anx, 0x06C)]) := by
  have hfresh : (anxLink s.dev w).replay.any (fun e => decide (8 ≤ e.2)) = false :=
    List.any_eq_false.mpr fun e he hb => absurd (h8 e he) (Nat.not_lt.mpr (of_decide_eq_true hb))
  have hall : replayAll (anxLink s.dev w) = ⟨{ anxLink s.dev w with replay := (anxLink s.dev w).replay.map (fun e => (e.1, e.2 + 1)) }, false, false,
      (anxLink s.dev w).replay.map (·.1), false⟩ := by
    unfold replayAll
    rw [hfresh]
    rfl
  have hne : (anxLink s.dev w).replay.map (·.1) ≠ [] := fun h => hr (List.map_eq_nil_iff.mp h)
  have hidle : ¬ ((anxLink s.dev w).replay = [] ∨ fbit s.dev w ANX_LINK_STATUS_TRAINING = true) := by
    unfold fbit
    rw [ht]
    simp [hr]
  have heq : anxReplayTimer s.dev w = pumpPort (flitsAgain s.dev w { anxLink s.dev w with replay := (anxLink s.dev w).replay.map (fun e => (e.1, e.2 + 1)) }
      ((anxLink s.dev w).replay.map (·.1))) w := by
    unfold anxReplayTimer
    rw [if_neg hidle, anxLinkResult_eq, hall, resultSent_again _ _ _ _ hne]
  obtain ⟨h1, h2, h3, h4, h5, h6⟩ := flitsAgain_counts s.dev w { anxLink s.dev w with replay := (anxLink s.dev w).replay.map (fun e => (e.1, e.2 + 1)) }
    ((anxLink s.dev w).replay.map (·.1))
  generalize flitsAgain s.dev w { anxLink s.dev w with replay := (anxLink s.dev w).replay.map (fun e => (e.1, e.2 + 1)) }
    ((anxLink s.dev w).replay.map (·.1)) = g at *
  rw [pumpPort_plain g w (h3.trans hm), drainAnx_idle g w (by rw [h1]; exact hq)] at heq
  rw [List.length_map] at h4
  exact completes_of_eq (exec_anxReplayTimer w) hrun heq ⟨h2, by rw [h1], h4, h5, h6.2⟩

/-! ### Retraining -/

theorem anxRetrain_retrains (h : Head) (w : Wing) : fget (anxRetrain h w) w ANX_LINK_STATUS_TRAINING = 1 ∧
    fget (anxRetrain h w) w ANX_RETRAIN_COUNT_COUNT = min (fget h w ANX_RETRAIN_COUNT_COUNT + 1) (2 ^ 32 - 1) ∧
    (∀ f ∈ [ANX_LINK_STATUS_UP, ANX_LINK_STATUS_LANES], fget (anxRetrain h w) w f = fget h w f) ∧
    Frame [] [(.anx, 0x044), (.anx, 0x070)] h (anxRetrain h w) := by
  have hc := fget_fadd_same h w ANX_RETRAIN_COUNT_COUNT 1 0 0 (by decide) (by decide)
  have hf := frame_fadd h w 0 0 ANX_RETRAIN_COUNT_COUNT 1
  unfold anxRetrain
  generalize fadd h w ANX_RETRAIN_COUNT_COUNT = g at *
  have hs := frame_fset g w 0 0 ANX_LINK_STATUS_TRAINING 1
  refine ⟨bget_bput_same_of_lt _ _ _ _ _ _ _ _ _ (by decide) (by decide) (by decide),
    (hs.fget w ANX_RETRAIN_COUNT_COUNT (by decide) (by decide) 0 0).trans hc, fun f hfld => ?_,
    (hf.mono (fun _ h => h) (by decide)).trans (hs.mono (fun _ h => h) (by decide))⟩
  have hall : ∀ f ∈ [ANX_LINK_STATUS_UP, ANX_LINK_STATUS_LANES], f.block = .anx ∧ f.off = 0x044 ∧ f.lo ≤ f.hi ∧ f.hi < 32 ∧ (f.hi < 1 ∨ 1 < f.lo) := by decide
  obtain ⟨hb, ho, hl, h32, hd⟩ := hall f hfld
  exact (fget_fset_apart g w w ANX_LINK_STATUS_TRAINING f 1 0 0 hb ho (by decide) (by decide) hl h32 hd (by decide) (by decide)).trans
    (hf.fget w f (by rw [hb, ho]; decide) (by rw [ho]; decide) 0 0)

theorem anxReplayTimer_retrains (s : State) (w : Wing) (hrun : Runs s.dev) (ht : fget s.dev w ANX_LINK_STATUS_TRAINING = 0)
    (h8 : ∃ e ∈ (anxLink s.dev w).replay, 8 ≤ e.2) (hm : s.dev.vit.toMirror = []) :
    Completes (.anxReplayTimer w) s (fun h =>
      fget h w ANX_LINK_STATUS_TRAINING = 1 ∧ EventSet h w Ev.ANX_LINK_RETRAIN ∧
        fget h w ANX_RETRAIN_COUNT_COUNT = min (fget s.dev w ANX_RETRAIN_COUNT_COUNT + 1) (2 ^ 32 - 1) ∧ h.out = s.dev.out ∧
        RegsBut s.dev h [(.anx, 0x010), (.anx, 0x044), (.anx, 0x070)]) := by
  obtain ⟨e, he, h8⟩ := h8
  have hany : (anxLink s.dev w).replay.any (fun e => decide (8 ≤ e.2)) = true := List.any_eq_true.mpr ⟨e, he, decide_eq_true h8⟩
  have hidle : ¬ ((anxLink s.dev w).replay = [] ∨ fbit s.dev w ANX_LINK_STATUS_TRAINING = true) := by
    unfold fbit
    rw [ht]
    simp [List.ne_nil_of_mem he]
  have heq : anxReplayTimer s.dev w = pumpPort (raise (anxRetrain s.dev w) w Ev.ANX_LINK_RETRAIN) w := by
    unfold anxReplayTimer
    rw [if_neg hidle, anxLinkResult_eq, replayAll, hany]
    simp [resultSent]
  obtain ⟨h1, h2, -, h4⟩ := anxRetrain_retrains s.dev w
  generalize anxRetrain s.dev w = g at *
  have hr := frame_raise g w 0 Ev.ANX_LINK_RETRAIN
  have he : EventSet (raise g w Ev.ANX_LINK_RETRAIN) w Ev.ANX_LINK_RETRAIN := raiseAt_sets _ _ _ (by decide)
  generalize raise g w Ev.ANX_LINK_RETRAIN = k at *
  have htr : fget k w ANX_LINK_STATUS_TRAINING = 1 := (hr.fget w ANX_LINK_STATUS_TRAINING (by decide) (by decide) 0 0).trans h1
  have hall : Frame [.evq] [(.anx, 0x010), (.anx, 0x044), (.anx, 0x070)] s.dev k := (h4.mono (by decide) (by decide)).trans (hr.mono (by decide) (by decide))
  have hclosed : anxSends k w = false := by
    unfold anxSends fbit
    rw [htr]
    exact Bool.and_false _
  rw [pumpPort_plain k w ((congrArg VitState.toMirror (hall.1 .vit (by decide))).trans hm), drainAnx_closed k w hclosed] at heq
  exact completes_of_eq (exec_anxReplayTimer w) hrun heq
    ⟨htr, he, (hr.fget w ANX_RETRAIN_COUNT_COUNT (by decide) (by decide) 0 0).trans h2, hall.1 .out (by decide), hall.2⟩

/-! ### Ports that go down -/

/-- A port down, told. -/
def portDropped (h : Head) (w : Wing) : Head :=
  raise (fset (fset (setAnxLink h w (anxLink h w).dropped) w ANX_LINK_STATUS_UP 0) w ANX_LINK_STATUS_LANES 0) w Ev.ANX_LINK_CHANGE

/-- What a port that has gone down leaves to the other, or fails. -/
def portLeft (h : Head) (w : Wing) (l : LinkState) : Head :=
  if anxUp h (otherWing w) then pumpPort (resendAll h (fun u => u.wing == w || waitsOn l u.mtag)) (otherWing w)
  else foldHead h wings (fun h v =>
    if h.foy.cmds.any (fun e => e.2.mtag.isSome && e.2.cap.wing == v) then raise h v Ev.FOQ_FORWARD_FAIL else h)

theorem anxDown_eq (h : Head) (w : Wing) : anxDown h w = portLeft (portDropped h w) w (anxLink h w) := rfl

theorem portDropped_shows (h : Head) (w : Wing) : fget (portDropped h w) w ANX_LINK_STATUS_UP = 0 ∧ fget (portDropped h w) w ANX_LINK_STATUS_LANES = 0 ∧
    fget (portDropped h w) w ANX_LINK_STATUS_TRAINING = fget h w ANX_LINK_STATUS_TRAINING ∧ EventSet (portDropped h w) w Ev.ANX_LINK_CHANGE ∧
    (portDropped h w).vit.toMirror = h.vit.toMirror ∧ (portDropped h w).vit.unacked = h.vit.unacked ∧
    Frame [.vit, .evq] [(.anx, 0x010), (.anx, 0x044)] h (portDropped h w) := by
  have h1 := frame_setAnxLink h w (anxLink h w).dropped
  have hv := (anxStep_setAnxLink h w (anxLink h w).dropped).vit
  unfold portDropped
  generalize setAnxLink h w (anxLink h w).dropped = a at *
  have h2 : Frame [] [(.anx, 0x044)] a (fset (fset a w ANX_LINK_STATUS_UP 0) w ANX_LINK_STATUS_LANES 0) := by
    simp +decide only [frame_rules, frame_refl]
  have hr : fget (fset (fset a w ANX_LINK_STATUS_UP 0) w ANX_LINK_STATUS_LANES 0) w ANX_LINK_STATUS_UP = 0 ∧
      fget (fset (fset a w ANX_LINK_STATUS_UP 0) w ANX_LINK_STATUS_LANES 0) w ANX_LINK_STATUS_LANES = 0 ∧
      fget (fset (fset a w ANX_LINK_STATUS_UP 0) w ANX_LINK_STATUS_LANES 0) w ANX_LINK_STATUS_TRAINING = fget a w ANX_LINK_STATUS_TRAINING := by
    simp only [fget_eq_bget, fset_regs]
    simp (disch := first | decide | rfl) [ANX_LINK_STATUS_UP, ANX_LINK_STATUS_LANES, ANX_LINK_STATUS_TRAINING]
  generalize fset (fset a w ANX_LINK_STATUS_UP 0) w ANX_LINK_STATUS_LANES 0 = b at *
  have h3 := frame_raise b w 0 Ev.ANX_LINK_CHANGE
  have hbv : (raise b w Ev.ANX_LINK_CHANGE).vit = a.vit := (h3.1 .vit (by decide)).trans (h2.1 .vit List.not_mem_nil)
  obtain ⟨r1, r2, r3⟩ := hr
  refine ⟨(h3.fget w ANX_LINK_STATUS_UP (by decide) (by decide) 0 0).trans r1, (h3.fget w ANX_LINK_STATUS_LANES (by decide) (by decide) 0 0).trans r2,
    (h3.fget w ANX_LINK_STATUS_TRAINING (by decide) (by decide) 0 0).trans (r3.trans (h1.fget w ANX_LINK_STATUS_TRAINING List.not_mem_nil (by decide) 0 0)),
    raiseAt_sets _ _ _ (by decide), ?_, ?_, ?_⟩
  · rw [hbv, hv]
  · rw [hbv, hv]
  · exact ((h1.mono (by decide) (by decide)).trans (h2.mono (by decide) (by decide))).trans (h3.mono (by decide) (by decide))

theorem frame_portLeft (h : Head) (w : Wing) (l : LinkState) : Frame [.vit, .out, .evq] [(.foq, 0x010)] h (portLeft h w l) := by
  unfold portLeft
  by_cases hu : anxUp h (otherWing w) = true
  · rw [if_pos hu]
    exact ((anxStep_resendAll h _).frame.trans (frame_pumpPort _ _)).mono (by decide) (by decide)
  · rw [if_neg hu]
    simp +decide only [frame_foldHead, frame_ite, frame_rules, frame_refl, implies_true, ite_self]

theorem unacked_portLeft (h : Head) (w : Wing) (l : LinkState) (hm : h.vit.toMirror = []) : (portLeft h w l).vit.unacked = h.vit.unacked := by
  unfold portLeft
  by_cases hu : anxUp h (otherWing w) = true
  · have h1 := anxStep_resendAll h (fun u => u.wing == w || waitsOn l u.mtag)
    rw [if_pos hu]
    generalize resendAll h (fun u => u.wing == w || waitsOn l u.mtag) = g at *
    rw [pumpPort_plain g (otherWing w) (h1.toMirror.trans hm)]
    exact (h1.trans (anxStep_drainAnx g (otherWing w))).unacked
  · rw [if_neg hu]
    have hf : Frame [.evq] [(.foq, 0x010)] h (foldHead h wings (fun h v =>
        if h.foy.cmds.any (fun e => e.2.mtag.isSome && e.2.cap.wing == v) then raise h v Ev.FOQ_FORWARD_FAIL else h)) := by
      simp +decide only [frame_foldHead, frame_ite, frame_rules, frame_refl, implies_true, ite_self]
    rw [hf.1 .vit (by decide)]

/-- A port that goes down. -/
theorem anxDown_shows (h : Head) (w : Wing) : fget (anxDown h w) w ANX_LINK_STATUS_UP = 0 ∧
    fget (anxDown h w) w ANX_LINK_STATUS_LANES = 0 ∧ fget (anxDown h w) w ANX_LINK_STATUS_TRAINING = fget h w ANX_LINK_STATUS_TRAINING ∧
    EventSet (anxDown h w) w Ev.ANX_LINK_CHANGE ∧ (h.vit.toMirror = [] → (anxDown h w).vit.unacked = h.vit.unacked) ∧
    RegsBut h (anxDown h w) [(.anx, 0x010), (.anx, 0x044), (.foq, 0x010)] := by
  obtain ⟨h1, h2, h3, h4, h5, h6, h7⟩ := portDropped_shows h w
  have hf := frame_portLeft (portDropped h w) w (anxLink h w)
  have hun (hm : h.vit.toMirror = []) := unacked_portLeft (portDropped h w) w (anxLink h w) (h5.trans hm)
  rw [anxDown_eq]
  generalize portDropped h w = a at *
  exact ⟨(hf.fget w ANX_LINK_STATUS_UP (by decide) (by decide) 0 0).trans h1, (hf.fget w ANX_LINK_STATUS_LANES (by decide) (by decide) 0 0).trans h2,
    (hf.fget w ANX_LINK_STATUS_TRAINING (by decide) (by decide) 0 0).trans h3, (hf.eventSet w Ev.ANX_LINK_CHANGE (by decide) 0).mpr h4,
    fun hm => (hun hm).trans h6, regsBut_trans (regsBut_mono h7.2 (by decide)) (regsBut_mono hf.2 (by decide))⟩

theorem anxRetrainTimeout_drops (s : State) (w : Wing) (hrun : Runs s.dev) (hu : anxUp s.dev w = true) (ht : fget s.dev w ANX_LINK_STATUS_TRAINING = 1)
    (hm : s.dev.vit.toMirror = []) :
    Completes (.anxRetrainTimeout w) s (fun h =>
      fget h w ANX_LINK_STATUS_UP = 0 ∧ fget h w ANX_LINK_STATUS_LANES = 0 ∧ EventSet h w Ev.ANX_LINK_CHANGE ∧
        h.vit.unacked = s.dev.vit.unacked ∧ RegsBut s.dev h [(.anx, 0x010), (.anx, 0x044), (.foq, 0x010)]) := by
  have heq : anxRetrainTimeout s.dev w = anxDown s.dev w := if_pos (by unfold fbit; rw [hu, ht]; decide)
  obtain ⟨h1, h2, -, h4, h5, h6⟩ := anxDown_shows s.dev w
  exact completes_of_eq (exec_anxRetrainTimeout w) hrun heq ⟨h1, h2, h4, h5 hm, h6⟩

/-! ### Training -/

theorem anxTrainTimeout_trains (s : State) (w : Wing) (hrun : Runs s.dev) (he : fget s.dev w ANX_CTRL_LINK_EN = 1) (hu : anxUp s.dev w = false) :
    Completes (.anxTrainTimeout w) s (fun h =>
      fget h w ANX_LINK_STATUS_TRAINING = 1 ∧ EventSet h w Ev.ANX_LINK_CHANGE ∧ RegsBut s.dev h [(.anx, 0x010), (.anx, 0x044)] ∧
        SameButRegs s.dev h) := by
  have heq : anxTrainTimeout s.dev w = raise (fset s.dev w ANX_LINK_STATUS_TRAINING 1) w Ev.ANX_LINK_CHANGE := if_pos (by unfold fbit; rw [hu, he]; decide)
  have hf := frame_fset s.dev w 0 0 ANX_LINK_STATUS_TRAINING 1
  have hv : fget (fset s.dev w ANX_LINK_STATUS_TRAINING 1) w ANX_LINK_STATUS_TRAINING = 1 :=
    bget_bput_same_of_lt _ _ _ _ _ _ _ _ _ (by decide) (by decide) (by decide)
  generalize fset s.dev w ANX_LINK_STATUS_TRAINING 1 = g at *
  have hr := frame_raise g w 0 Ev.ANX_LINK_CHANGE
  have hall := (hf.mono (l := [.evq]) (t := [(.anx, 0x010), (.anx, 0x044)]) (by decide) (by decide)).trans (hr.mono (by decide) (by decide))
  exact completes_of_eq (exec_anxTrainTimeout w) hrun heq ⟨(hr.fget w ANX_LINK_STATUS_TRAINING (by decide) (by decide) 0 0).trans hv,
    raiseAt_sets _ _ _ (by decide), hall.2, hall.sameButRegs⟩

theorem anxCtrlCmd_eq (s : State) (ini : Initiator) (w : Wing) (f : Head → Wing → Head) (hw : Writable s.dev ini (pg .anx w) 0x040) :
    anxCtrlCmd s.dev ini w f = f (reply s.dev false) w := by
  unfold anxCtrlCmd
  rw [withWrite_ok s.dev ini _ _ _ hw]

theorem anxRetrainCmd_retrains (s : State) (ini : Initiator) (w : Wing) (hrun : Runs s.dev) (hw : Writable s.dev ini (pg .anx w) 0x040)
    (he : fget s.dev w ANX_CTRL_LINK_EN = 1) (ht : fget s.dev w ANX_LINK_STATUS_TRAINING = 0) :
    Completes (.anxRetrainCmd ini w) s (fun h =>
      fget h w ANX_LINK_STATUS_TRAINING = 1 ∧
        fget h w ANX_RETRAIN_COUNT_COUNT = min (fget s.dev w ANX_RETRAIN_COUNT_COUNT + 1) (2 ^ 32 - 1) ∧
        RegsBut s.dev h [(.anx, 0x044), (.anx, 0x070)] ∧ SameButRegs (reply s.dev false) h) := by
  have heq : anxCtrlCmd s.dev ini w anxRetrainEffect = anxRetrain (reply s.dev false) w := by
    rw [anxCtrlCmd_eq s ini w _ hw]
    refine if_pos ?_
    show (fget s.dev w ANX_CTRL_LINK_EN != 0 && !(fget s.dev w ANX_LINK_STATUS_TRAINING != 0)) = true
    rw [he, ht]
    decide
  obtain ⟨h1, h2, -, h4⟩ := anxRetrain_retrains (reply s.dev false) w
  exact completes_of_eq (exec_anxRetrainCmd ini w) hrun heq ⟨h1, h2, h4.2, (h4.mono (by decide) (fun _ h => h)).sameButRegs⟩

theorem anxRetrainCmd_ignored (s : State) (ini : Initiator) (w : Wing) (hrun : Runs s.dev) (hw : Writable s.dev ini (pg .anx w) 0x040)
    (ht : fget s.dev w ANX_LINK_STATUS_TRAINING = 1) :
    Completes (.anxRetrainCmd ini w) s (fun h => RegsBut s.dev h [] ∧ SameButRegs (reply s.dev false) h) := by
  have heq : anxCtrlCmd s.dev ini w anxRetrainEffect = reply s.dev false := by
    rw [anxCtrlCmd_eq s ini w _ hw]
    refine if_neg ?_
    show ¬ (fbit s.dev w ANX_CTRL_LINK_EN && !(fget s.dev w ANX_LINK_STATUS_TRAINING != 0)) = true
    rw [ht]
    simp
  have hr : Frame [.bus] [] s.dev (reply s.dev false) := (frame_mk s.dev (by simp)).2 (frame_refl _ _ s.dev)
  exact completes_of_eq (exec_anxRetrainCmd ini w) hrun heq ⟨hr.2, rfl⟩

theorem anxClrStats_clears (s : State) (ini : Initiator) (w : Wing) (hrun : Runs s.dev) (hw : Writable s.dev ini (pg .anx w) 0x040) :
    Completes (.anxClrStats ini w) s (fun h =>
      fget h w ANX_COMMIT_MAX_NS = 0 ∧ fget h w ANX_RETRY_COUNT_COUNT = 0 ∧ fget h w ANX_RETRAIN_COUNT_COUNT = 0 ∧
        RegsBut s.dev h [(.anx, 0x068), (.anx, 0x06C), (.anx, 0x070)] ∧ SameButRegs (reply s.dev false) h) := by
  have hf : Frame [.evq] [(.anx, 0x068), (.anx, 0x06C), (.anx, 0x070)] (reply s.dev false) (anxClrEffect (reply s.dev false) w) := by
    simp +decide only [anxClrEffect, frame_rules, frame_refl]
  have hr : fget (anxClrEffect (reply s.dev false) w) w ANX_COMMIT_MAX_NS = 0 ∧ fget (anxClrEffect (reply s.dev false) w) w ANX_RETRY_COUNT_COUNT = 0 ∧
      fget (anxClrEffect (reply s.dev false) w) w ANX_RETRAIN_COUNT_COUNT = 0 := by
    simp only [anxClrEffect, fget_eq_bget, fset_regs]
    simp (disch := first | decide | rfl) [ANX_COMMIT_MAX_NS, ANX_RETRY_COUNT_COUNT, ANX_RETRAIN_COUNT_COUNT]
  exact completes_of_eq (exec_anxClrStats ini w) hrun (anxCtrlCmd_eq s ini w _ hw) ⟨hr.1, hr.2.1, hr.2.2, hf.2, hf.sameButRegs⟩

theorem anxLaneFail_retrains (s : State) (w : Wing) (hrun : Runs s.dev) (hu : anxUp s.dev w = true) :
    Completes (.anxLaneFail w) s (fun h =>
      fget h w ANX_LINK_STATUS_TRAINING = 1 ∧ EventSet h w Ev.ANX_LINK_CHANGE ∧
        (fget s.dev w ANX_CTRL_HALF_WIDTH_OK = 1 → fget h w ANX_LINK_STATUS_UP = 1 ∧ fget h w ANX_LINK_STATUS_LANES = 8) ∧
        (fget s.dev w ANX_CTRL_HALF_WIDTH_OK = 0 → fget h w ANX_LINK_STATUS_UP = 0)) := by
  by_cases hh : fget s.dev w ANX_CTRL_HALF_WIDTH_OK = 0
  · have heq : anxLaneFail s.dev w = anxDown (fset s.dev w ANX_LINK_STATUS_TRAINING 1) w := by
      unfold anxLaneFail
      rw [hu]
      show (if fbit s.dev w ANX_CTRL_HALF_WIDTH_OK = true then _ else _) = _
      rw [fbit, hh]
      rfl
    have hv : fget (fset s.dev w ANX_LINK_STATUS_TRAINING 1) w ANX_LINK_STATUS_TRAINING = 1 :=
      bget_bput_same_of_lt _ _ _ _ _ _ _ _ _ (by decide) (by decide) (by decide)
    obtain ⟨h1, -, h3, h4, -, -⟩ := anxDown_shows (fset s.dev w ANX_LINK_STATUS_TRAINING 1) w
    exact completes_of_eq (exec_anxLaneFail w) hrun heq ⟨h3.trans hv, h4, fun h => absurd (hh.symm.trans h) (by decide), fun _ => h1⟩
  · have heq : anxLaneFail s.dev w = raise (fset (anxRetrain s.dev w) w ANX_LINK_STATUS_LANES 8) w Ev.ANX_LINK_CHANGE := by
      unfold anxLaneFail
      rw [hu]
      exact if_pos (bne_iff_ne.mpr hh)
    have hup : fget s.dev w ANX_LINK_STATUS_UP = 1 := by
      have hlt : fget s.dev w ANX_LINK_STATUS_UP < 2 := fget_lt ..
      have hne : fget s.dev w ANX_LINK_STATUS_UP ≠ 0 := bne_iff_ne.mp hu
      omega
    obtain ⟨h1, -, h3, -⟩ := anxRetrain_retrains s.dev w
    have h3 := (h3 ANX_LINK_STATUS_UP (by decide)).trans hup
    generalize anxRetrain s.dev w = a at *
    have hs (f : Fld) (hf : f ∈ [ANX_LINK_STATUS_UP, ANX_LINK_STATUS_TRAINING]) : fget (fset a w ANX_LINK_STATUS_LANES 8) w f = fget a w f := by
      have hall : ∀ f ∈ [ANX_LINK_STATUS_UP, ANX_LINK_STATUS_TRAINING], f.block = .anx ∧ f.off = 0x044 ∧ f.lo ≤ f.hi ∧ f.hi < 8 := by decide
      obtain ⟨hb, ho, hl, h8⟩ := hall f hf
      exact fget_fset_apart a w w ANX_LINK_STATUS_LANES f 8 0 0 hb ho (by decide) (by decide) hl (Nat.lt_trans h8 (by decide)) (.inl h8) (by decide) (by decide)
    have hl : fget (fset a w ANX_LINK_STATUS_LANES 8) w ANX_LINK_STATUS_LANES = 8 :=
      bget_bput_same_of_lt _ _ _ _ _ _ _ _ _ (by decide) (by decide) (by decide)
    have hs1 := (hs ANX_LINK_STATUS_UP (by decide)).trans h3
    have hs2 := (hs ANX_LINK_STATUS_TRAINING (by decide)).trans h1
    generalize fset a w ANX_LINK_STATUS_LANES 8 = b at *
    have hr := frame_raise b w 0 Ev.ANX_LINK_CHANGE
    exact completes_of_eq (exec_anxLaneFail w) hrun heq ⟨(hr.fget w ANX_LINK_STATUS_TRAINING (by decide) (by decide) 0 0).trans hs2,
      raiseAt_sets _ _ _ (by decide), fun _ => ⟨(hr.fget w ANX_LINK_STATUS_UP (by decide) (by decide) 0 0).trans hs1,
        (hr.fget w ANX_LINK_STATUS_LANES (by decide) (by decide) 0 0).trans hl⟩, fun h => absurd h hh⟩

/-- The link's state once trained. -/
def anxCameUp (h : Head) (w : Wing) (delay lanes : Nat) (l : LinkState) : Head :=
  fset (fset (fset (fset (setAnxLink h w l) w ANX_LINK_STATUS_DELAY_NS delay) w ANX_LINK_STATUS_LANES lanes) w ANX_LINK_STATUS_TRAINING 0) w ANX_LINK_STATUS_UP 1

theorem anxCameUp_shows (h : Head) (w : Wing) (delay lanes : Nat) (l : LinkState) (hd : delay < 2 ^ 16) (hl : lanes < 2 ^ 8) :
    fget (anxCameUp h w delay lanes l) w ANX_LINK_STATUS_UP = 1 ∧ fget (anxCameUp h w delay lanes l) w ANX_LINK_STATUS_TRAINING = 0 ∧
      fget (anxCameUp h w delay lanes l) w ANX_LINK_STATUS_LANES = lanes ∧ fget (anxCameUp h w delay lanes l) w ANX_LINK_STATUS_DELAY_NS = delay ∧
      Frame [.vit] [(.anx, 0x044)] h (anxCameUp h w delay lanes l) ∧ (anxCameUp h w delay lanes l).vit.unacked = h.vit.unacked ∧
      (anxCameUp h w delay lanes l).vit.toMirror = h.vit.toMirror := by
  have h1 := frame_setAnxLink h w l
  have hx := anxStep_setAnxLink h w l
  have hu := hx.unacked
  have hm := hx.toMirror
  unfold anxCameUp
  generalize setAnxLink h w l = a at *
  have h2 : Frame [] [(.anx, 0x044)] a
      (fset (fset (fset (fset a w ANX_LINK_STATUS_DELAY_NS delay) w ANX_LINK_STATUS_LANES lanes) w ANX_LINK_STATUS_TRAINING 0) w ANX_LINK_STATUS_UP 1) := by
    simp +decide only [frame_rules, frame_refl]
  have hv := h2.1 .vit List.not_mem_nil
  refine and_assoc.mp (and_assoc.mp (and_assoc.mp ⟨?_, (h1.mono (by decide) (by decide)).trans (h2.mono (by decide) (fun _ h => h)),
    (congrArg VitState.unacked hv).trans hu, (congrArg VitState.toMirror hv).trans hm⟩))
  simp only [fget_eq_bget, fset_regs]
  simp (disch := first | decide | rfl) [ANX_LINK_STATUS_UP, ANX_LINK_STATUS_LANES, ANX_LINK_STATUS_TRAINING, ANX_LINK_STATUS_DELAY_NS]
  omega

/-- The change of a trained port told. -/
def toldChange (h : Head) (w : Wing) (changed : Bool) : Head := if changed then raise h w Ev.ANX_LINK_CHANGE else h

/-- The flits that have not come sent again. -/
def toldAgain (h : Head) (w : Wing) (again : List Nat) : Head :=
  if again = [] then h else raise (send (fadd h w ANX_RETRY_COUNT_COUNT again.length) (.replay w none again)) w Ev.ANX_LINK_RETRY

/-- The credits of a port that was down. -/
def toldCredits (h : Head) (w : Wing) (fresh : Bool) : Head :=
  if fresh then send (setAnxLink h w (grant (anxLink h w) w none).1) (grant (anxLink h w) w none).2 else h

/-- What a trained port tells and sends. -/
def anxTold (h : Head) (w : Wing) (changed fresh : Bool) (again : List Nat) : Head := toldCredits (toldAgain (toldChange h w changed) w again) w fresh

theorem toldChange_shows (h : Head) (w : Wing) (changed : Bool) : Frame [.evq] [(.anx, 0x010)] h (toldChange h w changed) ∧
    (changed = true → EventSet (toldChange h w changed) w Ev.ANX_LINK_CHANGE) := by
  unfold toldChange
  cases changed with
  | true => exact ⟨frame_raise h w 0 Ev.ANX_LINK_CHANGE, fun _ => raiseAt_sets _ _ _ (by decide)⟩
  | false => exact ⟨frame_refl _ _ h, fun hf => absurd hf (by decide)⟩

theorem toldAgain_shows (h : Head) (w : Wing) (again : List Nat) : Frame [.out, .evq] [(.anx, 0x010), (.anx, 0x06C)] h (toldAgain h w again) ∧
    (EventSet h w Ev.ANX_LINK_CHANGE → EventSet (toldAgain h w again) w Ev.ANX_LINK_CHANGE) ∧
    (again ≠ [] → Msg.replay w none again ∈ (toldAgain h w again).out) := by
  unfold toldAgain
  by_cases ha : again = []
  · rw [if_pos ha]
    exact ⟨frame_refl _ _ h, id, fun hn => absurd ha hn⟩
  · rw [if_neg ha]
    have h1 : Frame [.out] [(.anx, 0x06C)] h (send (fadd h w ANX_RETRY_COUNT_COUNT again.length) (.replay w none again)) := by
      simp +decide only [frame_rules, frame_refl]
    have hin : Msg.replay w none again ∈ (send (fadd h w ANX_RETRY_COUNT_COUNT again.length) (.replay w none again)).out :=
      List.mem_append_right _ List.mem_cons_self
    generalize send (fadd h w ANX_RETRY_COUNT_COUNT again.length) (.replay w none again) = g at *
    have h2 := frame_raise g w 0 Ev.ANX_LINK_RETRY
    refine ⟨(h1.mono (by decide) (by decide)).trans (h2.mono (by decide) (by decide)),
      fun he => eventSet_raise ((h1.eventSet w Ev.ANX_LINK_CHANGE (by decide) 0).mpr he) (by decide) w _ 0, fun _ => ?_⟩
    rw [h2.1 .out (by decide)]
    exact hin

theorem toldCredits_shows (h : Head) (w : Wing) (fresh : Bool) : AnxStep h (toldCredits h w fresh) ∧
    (fresh = true → ∃ lseq seq, Msg.credit w none lseq seq ((List.range 4).map Config.linkBuffers) ∈ (toldCredits h w fresh).out) := by
  unfold toldCredits
  cases fresh with
  | true => exact ⟨(anxStep_setAnxLink h w _).trans (anxStep_send _ _), fun _ => ⟨_, _, List.mem_append_right _ List.mem_cons_self⟩⟩
  | false => exact ⟨anxStep_refl h, fun hf => absurd hf (by decide)⟩

theorem anxTrained_eq (h : Head) (w : Wing) (delay lanes expected : Nat) (he : fget h w ANX_CTRL_LINK_EN = 1)
    (hl : lanes = 16 ∨ (lanes = 8 ∧ fget h w ANX_CTRL_HALF_WIDTH_OK = 1)) : anxTrained h w delay lanes expected =
    let g := anxTold (anxCameUp h w delay lanes ((anxLink h w).trained expected).1) w (!anxUp h w || fget h w ANX_LINK_STATUS_LANES != lanes) (!anxUp h w)
      ((anxLink h w).trained expected).2
    pumpPort (if wings.all (fun v => !anxUp h v) then resendAll g (fun _ => true) else g) w := by
  have hen : fbit h w ANX_CTRL_LINK_EN = true := by
    unfold fbit
    rw [he]
    rfl
  have hok : (lanes == 16 || (lanes == 8 && fbit h w ANX_CTRL_HALF_WIDTH_OK)) = true := by
    unfold fbit
    rcases hl with rfl | ⟨rfl, h1⟩
    · rfl
    · rw [h1]
      rfl
  unfold anxTrained
  rw [hen, hok]
  rfl

theorem anxTold_tells (h : Head) (w : Wing) (changed fresh : Bool) (again : List Nat) :
    Frame [.vit, .evq, .out] [(.anx, 0x010), (.anx, 0x06C)] h (anxTold h w changed fresh again) ∧
      (anxTold h w changed fresh again).vit.unacked = h.vit.unacked ∧ (anxTold h w changed fresh again).vit.toMirror = h.vit.toMirror ∧
      (changed = true → EventSet (anxTold h w changed fresh again) w Ev.ANX_LINK_CHANGE) ∧
      (fresh = true → ∃ lseq seq, Msg.credit w none lseq seq ((List.range 4).map Config.linkBuffers) ∈ (anxTold h w changed fresh again).out) ∧
      (again ≠ [] → Msg.replay w none again ∈ (anxTold h w changed fresh again).out) := by
  obtain ⟨f1, e1⟩ := toldChange_shows h w changed
  unfold anxTold
  generalize toldChange h w changed = a at *
  obtain ⟨f2, e2, o2⟩ := toldAgain_shows a w again
  generalize toldAgain a w again = b at *
  obtain ⟨f3, o3⟩ := toldCredits_shows b w fresh
  generalize toldCredits b w fresh = c at *
  have hv : b.vit = h.vit := (f2.1 .vit (by decide)).trans (f1.1 .vit (by decide))
  exact ⟨((f1.mono (by decide) (by decide)).trans (f2.mono (by decide) (by decide))).trans (f3.frame.mono (by decide) (by decide)),
    f3.unacked.trans (congrArg VitState.unacked hv), f3.toMirror.trans (congrArg VitState.toMirror hv),
    fun hc => (f3.frame.eventSet w Ev.ANX_LINK_CHANGE (by decide) 0).mpr (e2 (e1 hc)), o3, fun ha => f3.subset (o2 ha)⟩

theorem anxTrained_comesUp (s : State) (w : Wing) (delay lanes expected : Nat) (hrun : Runs s.dev) (he : fget s.dev w ANX_CTRL_LINK_EN = 1)
    (hd : delay < 2 ^ 16) (hl : lanes = 16 ∨ (lanes = 8 ∧ fget s.dev w ANX_CTRL_HALF_WIDTH_OK = 1)) (hm : s.dev.vit.toMirror = []) :
    Completes (.anxTrained w delay lanes expected) s (fun h =>
      fget h w ANX_LINK_STATUS_UP = 1 ∧ fget h w ANX_LINK_STATUS_TRAINING = 0 ∧ fget h w ANX_LINK_STATUS_LANES = lanes ∧
        fget h w ANX_LINK_STATUS_DELAY_NS = delay ∧ (anxUp s.dev w = false → EventSet h w Ev.ANX_LINK_CHANGE ∧
          ∃ lseq seq, .credit w none lseq seq ((List.range 4).map Config.linkBuffers) ∈ h.out) ∧
        (((anxLink s.dev w).trained expected).2 ≠ [] → .replay w none ((anxLink s.dev w).trained expected).2 ∈ h.out) ∧
        h.vit.unacked = s.dev.vit.unacked ∧ RegsBut s.dev h [(.anx, 0x010), (.anx, 0x044), (.anx, 0x06C)]) := by
  have heq := anxTrained_eq s.dev w delay lanes expected he hl
  have hlanes : lanes < 2 ^ 8 := by
    rcases hl with rfl | ⟨rfl, -⟩ <;> decide
  obtain ⟨r1, r2, r3, r4, f1, u1, m1⟩ := anxCameUp_shows s.dev w delay lanes ((anxLink s.dev w).trained expected).1 hd hlanes
  have ht := anxTold_tells (anxCameUp s.dev w delay lanes ((anxLink s.dev w).trained expected).1) w
    (!anxUp s.dev w || fget s.dev w ANX_LINK_STATUS_LANES != lanes) (!anxUp s.dev w) ((anxLink s.dev w).trained expected).2
  generalize anxCameUp s.dev w delay lanes ((anxLink s.dev w).trained expected).1 = a at *
  obtain ⟨f2, u2, m2, e2, c2, o2⟩ := ht
  dsimp only at heq
  generalize anxTold a w (!anxUp s.dev w || fget s.dev w ANX_LINK_STATUS_LANES != lanes) (!anxUp s.dev w) ((anxLink s.dev w).trained expected).2 = b at *
  have h3 : AnxStep b (if wings.all (fun v => !anxUp s.dev v) then resendAll b (fun _ => true) else b) := by
    split
    · exact anxStep_resendAll b _
    · exact anxStep_refl b
  generalize (if wings.all (fun v => !anxUp s.dev v) then resendAll b (fun _ => true) else b) = c at *
  rw [pumpPort_plain c w (h3.toMirror.trans (m2.trans (m1.trans hm)))] at heq
  have h4 := h3.trans (anxStep_drainAnx c w)
  generalize drainAnx c w = g at *
  have hread (f : Fld) (hf : f ∈ [ANX_LINK_STATUS_UP, ANX_LINK_STATUS_TRAINING, ANX_LINK_STATUS_LANES, ANX_LINK_STATUS_DELAY_NS]) :
      fget g w f = fget a w f := by
    have hall : ∀ f ∈ [ANX_LINK_STATUS_UP, ANX_LINK_STATUS_TRAINING, ANX_LINK_STATUS_LANES, ANX_LINK_STATUS_DELAY_NS],
      (f.block, f.off) ∉ [(Block.anx, 0x010), (.anx, 0x06C)] ∧ f.off < 4096 := by decide
    exact (h4.frame.fget w f List.not_mem_nil (hall f hf).2 0 0).trans (f2.fget w f (hall f hf).1 (hall f hf).2 0 0)
  refine completes_of_eq (exec_anxTrained w delay lanes expected) hrun heq ⟨(hread _ (by decide)).trans r1, (hread _ (by decide)).trans r2,
    (hread _ (by decide)).trans r3, (hread _ (by decide)).trans r4, fun hu => ⟨?_, ?_⟩, fun hne => h4.subset (o2 hne), h4.unacked.trans (u2.trans u1),
    regsBut_trans (regsBut_mono f1.2 (by decide)) (regsBut_trans (regsBut_mono f2.2 (by decide)) (regsBut_mono h4.frame.2 (by decide)))⟩
  · exact (h4.frame.eventSet w Ev.ANX_LINK_CHANGE (by decide) 0).mpr (e2 (by rw [hu]; rfl))
  · obtain ⟨lseq, seq, hin⟩ := c2 (by rw [hu]; rfl)
    exact ⟨lseq, seq, h4.subset hin⟩

/-! ### The obligation -/

/-- Settles O32, a lemma for each command: `anxSent_leaves` for messages, `receiveFlit` and `replayAll` for flits and their timer, and what
training, retraining and going down show. -/
theorem annexLinksRecover : Obligations.AnnexLinksRecover := by
  unfold Obligations.AnnexLinksRecover
  exact ⟨anxSent_leaves, anxFlit_accepted, anxFlit_damaged, anxReplayTimer_replays, anxReplayTimer_retrains, anxRetrainTimeout_drops, anxTrained_comesUp,
    anxTrainTimeout_trains, anxRetrainCmd_retrains, anxRetrainCmd_ignored, anxClrStats_clears, anxLaneFail_retrains⟩

end Sys2Proof.Laws
end

section
/-! The unit registers repeat every 65,536 entries too, and what that refutes of O36. -/

namespace Sys2Proof.Laws

open Machine Machine.Reg

/-- The reset state with unit 0 of the digest lanes under test, and the list of tests naming unit 65,536 before it. -/
def aliasedTests : Head :=
  fset { Head.reset with eng := { Head.reset.eng with testing := [(.dge, .east, 65536), (.dge, .east, 0)] } } .east DGE_UNIT_STATE_STATE 2 0

/-- Refutes O36: the fourth clause runs over every head, whose list of tests may name a unit number past those that exist. Unit 65,536 names
unit 0's register, and its reset word is a spare's; so its test's end leaves the register at that word, which the register file then lists
no more, and unit 0 reads as its own reset word, ACTIVE, and not as the SPARE that the clause states. -/
theorem not_unitsFailAndOperationsComplete : ¬ Obligations.UnitsFailAndOperationsComplete := by
  intro hall
  obtain ⟨-, -, -, htests, -⟩ := hall
  have hunder : fget aliasedTests .east (unitState .dge) 0 = 2 := by decide +kernel
  have hends : fget (endTests aliasedTests) .east (unitState .dge) 0 = 0 := by decide +kernel
  obtain ⟨hspare, -⟩ := htests aliasedTests .dge .east 0 rfl (by decide) (List.mem_cons_of_mem _ List.mem_cons_self) hunder
  rw [hends] at hspare
  exact absurd hspare (by decide)

end Sys2Proof.Laws
end

section
/-! Operations of the engines: how one starts, joins those outstanding, takes its unit, its key and its bytes (R65, R99, R216, R220, R375). -/

namespace Sys2Proof.Laws

open Machine Machine.Reg

/-! ### Joining -/

theorem Frame.putEng {l : List Part} {t : List (Block × Nat)} {h g : Head} (x : Frame (.eng :: l) t h g) : Frame l t { h with eng := g.eng } g :=
  x.put (by simp only [frame_mk, List.mem_cons, true_or, or_true, and_self, frame_refl]) rfl

theorem Frame.putFoy {l : List Part} {t : List (Block × Nat)} {h g : Head} (x : Frame (.foy :: l) t h g) : Frame l t { h with foy := g.foy } g :=
  x.put (by simp only [frame_mk, List.mem_cons, true_or, or_true, and_self, frame_refl]) rfl

/-- A head whose Foyer state differs at most in its stalled frames. -/
def FoyKept (h g : Head) : Prop := g.foy = { h.foy with stalledE := g.foy.stalledE, stalledW := g.foy.stalledW }

theorem FoyKept.trans {a b c : Head} (x : FoyKept a b) (y : FoyKept b c) : FoyKept a c := by
  unfold FoyKept at *
  rw [y, x]

theorem foyKept_of_eq {h g : Head} (x : g.foy = h.foy) : FoyKept h g := by
  unfold FoyKept
  rw [x]

theorem foyKept_markStalled (h : Head) (w : Wing) : FoyKept h (markStalled h w) := by
  cases w <;> rfl

theorem foyKept_enterBound (h : Head) (w : Wing) (f : Fld) : FoyKept h (enterBound h w f) := by
  have hm : FoyKept h (markStalled (fset h w f 1) w) := (foyKept_of_eq (h := h) (g := fset h w f 1) rfl).trans (foyKept_markStalled _ w)
  unfold enterBound
  dsimp only
  generalize markStalled (fset h w f 1) w = g at *
  have hr (k : Head) (e : EvRef) : FoyKept k (raise k w e) := foyKept_of_eq ((frame_raise k w 0 e).1 .foy (by decide))
  split
  · exact foyKept_of_eq rfl
  · split
    · split
      · exact hm
      · exact hm.trans (hr _ _)
    · split
      · exact hm.trans (hr _ _)
      · exact hm.trans ((hr _ _).trans (hr _ _))

theorem foyKept_enterIf (g : Head) (w : Wing) (c : Prop) [Decidable c] (f : Fld) : FoyKept g (if c then enterBound g w f else g) := by
  split
  · exact foyKept_enterBound g w f
  · exact foyKept_of_eq rfl

theorem foyKept_updateBounds (h : Head) (w : Wing) : FoyKept h (updateBounds h w) := by
  unfold updateBounds
  dsimp only
  have h1 := foyKept_enterIf h w (32768 ≤ fget h w FOQ_TAGS_IN_USE) FOQ_FETCH_HOST_TAGS
  generalize (if 32768 ≤ fget h w FOQ_TAGS_IN_USE then enterBound h w FOQ_FETCH_HOST_TAGS else h) = a at *
  have h2 := h1.trans (foyKept_enterIf a w (4096 ≤ dieOps a w) FOQ_FETCH_DIE_OPS)
  generalize (if 4096 ≤ dieOps a w then enterBound a w FOQ_FETCH_DIE_OPS else a) = b at *
  have h3 := h2.trans (foyKept_enterIf b w (4096 ≤ engMax b w) FOQ_FETCH_ENGINE_TAGS)
  generalize (if 4096 ≤ engMax b w then enterBound b w FOQ_FETCH_ENGINE_TAGS else b) = c at *
  split
  · exact h3.trans (foyKept_of_eq rfl)
  · exact h3

/-- The operation of a class but DMA joins those outstanding. -/
theorem joined_pushOp (g : Head) (o : EngOp) (hc : o.cls ≠ .dma) : Joined g (pushOp g o) o := by
  have heq : pushOp g o = updateBounds (addOp g o) o.wing := by
    rw [pushOp_eq, dmaSync, if_neg hc]
  have hf := frame_updateBounds (addOp g o) o.wing
  have hy := foyKept_updateBounds (addOp g o) o.wing
  have ha : Frame [.eng] [] g (addOp g o) := (frame_mk g (by simp)).2 (frame_refl _ _ g)
  have he : (addOp g o).eng = { g.eng with ops := g.eng.ops ++ [o] } := rfl
  have hfoy : (addOp g o).foy = g.foy := rfl
  rw [heq]
  generalize addOp g o = a at *
  have hall : Frame [.eng, .foy, .evq] [(.foq, 0x010), (.foq, 0x044), (.mft, 0x010)] g (updateBounds a o.wing) :=
    (ha.mono (by decide) (by decide)).trans (hf.mono (by decide) (fun _ h => h))
  unfold FoyKept at hy
  rw [hfoy] at hy
  generalize updateBounds a o.wing = k at *
  exact ⟨(hf.1 .eng (by decide)).trans he, hall.2, hy, hall.putEng.putFoy.sameButRegs⟩

theorem frame_joined {g h : Head} {o : EngOp} (x : Joined g h o) : Frame [.eng, .foy, .evq] [(.foq, 0x010), (.foq, 0x044), (.mft, 0x010)] g h := by
  refine ⟨fun p hp => ?_, x.regs⟩
  obtain ⟨-, -, -, hs⟩ := x
  rw [hs]
  cases p <;> simp [Part.same] at hp ⊢

/-- An operation that fails joins those outstanding, and ends its ring's chain. -/
theorem failOp_eq (h : Head) (o : EngOp) (st : Status) : failOp h o st = pushOp (setChain h o.cls o.wing o.ring none)
    { o with status := st, bytes := 0, word := 0, extra := 0, place := [], poison := [], ready := true } := rfl

/-! ### Chains and units -/

theorem frame_setChain (h : Head) (cls : Block) (w : Wing) (ring : Option Nat) (c : Option Chain) : Frame [.eng] [] h (setChain h cls w ring c) :=
  (frame_mk h (by simp)).2 (frame_refl _ _ h)

theorem chainOf_setChain_some (h : Head) (cls : Block) (w : Wing) (ring : Option Nat) (c : Chain) (hc : sameChain cls w ring c = true) :
    chainOf (setChain h cls w ring (some c)) cls w ring = some c := by
  unfold chainOf setChain
  have hnone : (h.eng.chains.filter (fun x => !sameChain cls w ring x)).find? (sameChain cls w ring) = none := by
    refine List.find?_eq_none.mpr fun x hx hs => ?_
    have := (List.mem_filter.mp hx).2
    rw [hs] at this
    exact absurd this (by decide)
  dsimp only
  rw [List.find?_append, hnone, Option.toList_some, List.find?_cons_of_pos hc]
  rfl

theorem frame_unitTaken {h g : Head} {cls : Block} {w : Wing} {u : Nat} (x : UnitTaken h g cls w u) : Frame [.freeCtr, .pwr] [] h g := by
  rw [x.2]
  exact (frame_mk h (by simp)).2 (frame_refl _ _ h)

/-- A class with an ACTIVE unit gives it to an operation. -/
theorem pickUnit_taken (h : Head) (cls : Block) (w : Wing) (hu : unitsIn h cls w 0 ≠ []) :
    ∃ u g, pickUnit h cls w = some (u, g) ∧ UnitTaken h g cls w u := by
  have hlt := Nat.mod_lt (Config.unitChoice h.freeCtr) (List.length_pos_of_ne_nil hu)
  have hget := List.getElem?_eq_getElem hlt
  have hmem := List.getElem_mem hlt
  generalize (unitsIn h cls w 0)[Config.unitChoice h.freeCtr % (unitsIn h cls w 0).length] = u at *
  refine ⟨u, wakeUnit { h with freeCtr := h.freeCtr + 1 } cls w u, ?_, hmem, rfl⟩
  unfold pickUnit
  dsimp only [fresh]
  rw [show unitsIn { h with freeCtr := h.freeCtr + 1 } cls w 0 = unitsIn h cls w 0 from rfl, hget]

theorem pickUnit_none (h : Head) (cls : Block) (w : Wing) (hu : unitsIn h cls w 0 = []) : pickUnit h cls w = none := by
  unfold pickUnit
  dsimp only [fresh]
  rw [show unitsIn { h with freeCtr := h.freeCtr + 1 } cls w 0 = unitsIn h cls w 0 from rfl, hu]
  rfl

/-- An operation that starts anew goes on with an ACTIVE unit. -/
theorem onUnit_fresh (h0 h : Head) (o : EngOp) (f : Head → EngOp → Head) (hu : unitsIn h o.cls o.wing 0 ≠ []) :
    ∃ g u, UnitTaken h g o.cls o.wing u ∧ onUnit h0 h o none f = f g { o with unit := u } := by
  obtain ⟨u, g, hp, ht⟩ := pickUnit_taken h o.cls o.wing hu
  refine ⟨g, u, ht, ?_⟩
  unfold onUnit
  rw [hp]

theorem noChain_none (h : Head) (t : Taken) (o : EngOp) (f : Head) (hc : chainOf h o.cls o.wing t.ring = none) : noChain h t o f = f := by
  unfold noChain
  rw [hc]

theorem meetChain_none (h : Head) (t : Taken) (o : EngOp) (mode : Nat) (key : Option Nat) (f : Option Chain → Head)
    (hc : chainOf h o.cls o.wing t.ring = none) : meetChain h t o mode key f = f none := by
  unfold meetChain
  rw [hc]

/-- A class's units are told by its unit registers. -/
theorem unitsIn_congr {h g : Head} {l : List Part} {t : List (Block × Nat)} (x : Frame l t h g) (cls : Block) {w : Wing} {st : Nat}
    (hc : unitState cls = ⟨cls, 0x04C, 2, 0⟩) (ht : (cls, 0x04C) ∉ t) : unitsIn g cls w st = unitsIn h cls w st := by
  unfold unitsIn
  refine List.filter_congr fun u _ => ?_
  rw [x.fget w (unitState cls) (by rw [hc]; exact ht) (by rw [hc]; exact (by decide : (0x04C : Nat) < 4096)) u 0]

/-! ### Bytes read and reached -/

theorem withRead_ok (h : Head) (o : EngOp) (a n v : Nat) (f : Nat → Head) (hr : engineRead h a n = .ok v) : withRead h o a n f = f v := by
  unfold withRead
  rw [hr]

theorem withDst_ok (h : Head) (o : EngOp) (a n : Nat) (f : Head) (hr : rangeAll a n (engineReach h) = true) : withDst h o a n f = f := by
  unfold withDst
  rw [if_pos hr]

/-- What an engine reaches is told by the segment table. -/
theorem engineReach_congr {h g : Head} {l : List Part} {t : List (Block × Nat)} (x : Frame l t h g) (ht : (.mem, 0x050) ∉ t) :
    engineReach g = engineReach h := by
  funext a
  unfold engineReach ddrValid
  cases ddrSeg a with
  | none => rfl
  | some p =>
    obtain ⟨w, s⟩ := p
    have hv : fbit g w MEM_SEG_ENTRY_VALID s = fbit h w MEM_SEG_ENTRY_VALID s := x.fbit w MEM_SEG_ENTRY_VALID ht (by decide) s 0
    dsimp only
    rw [hv]

theorem engineRead_congr {h g : Head} {l : List Part} {t : List (Block × Nat)} (x : Frame l t h g) (ht : (.mem, 0x050) ∉ t) (hm : .mem ∉ l)
    (hp : .poison ∉ l) (a n : Nat) : engineRead g a n = engineRead h a n := by
  unfold engineRead isPoisoned memRead
  rw [engineReach_congr x ht, x.1 .mem hm, x.1 .poison hp]

theorem keyValue_congr {h g : Head} {l : List Part} {t : List (Block × Nat)} (x : Frame l t h g) (hk : .keys ∉ l) (id : Nat) :
    keyValue g id = keyValue h id := by
  unfold keyValue
  rw [x.1 .keys hk]

end Sys2Proof.Laws
end

section
/-! The digest lanes (R223 to R229). -/

namespace Sys2Proof.Laws

open Machine Machine.Reg

/-! ### Messages -/

/-- A whole message with no chain under way gives its result on an ACTIVE lane. -/
theorem digestMessage_whole (h0 h : Head) (w : Wing) (t : Taken) (key : Option Nat) (data : Nat) (fin : Head → EngOp → Nat → Head)
    (hc : chainOf h .dge w t.ring = none) (h5 : dFlag t.d 5 = false) (hl : dgLen t.d ≤ 2 ^ 24) (hr : engineRead h (dgSrc t.d) (dgLen t.d) = .ok data)
    (hu : unitsIn h .dge w 0 ≠ []) :
    ∃ g u, UnitTaken h g .dge w u ∧ digestMessage h0 h t (newOp .dge w t) key fin =
      fin (setChain g .dge w t.ring none) { newOp .dge w t with unit := u, key := key }
        (dgFinish h (dFlag t.d 4) key (dgInit h (dFlag t.d 4) key) 0 (dgLen t.d) data) := by
  have hfin (g : Head) (u : Nat) (ht : UnitTaken h g .dge w u) (v : Nat) : dgFinish g (dFlag t.d 4) key v 0 (dgLen t.d) data =
      dgFinish h (dFlag t.d 4) key v 0 (dgLen t.d) data := by
    unfold dgFinish
    cases key with
    | none => rfl
    | some id => simp only [keyValue_congr (frame_unitTaken ht) (by decide) id]
  obtain ⟨g, u, ht, hon⟩ := onUnit_fresh h0 h (newOp .dge w t) (fun h' o => fin (setChain h' .dge o.wing t.ring none) { o with key := key }
    (dgFinish h' (dFlag t.d 4) key (dgInit h (dFlag t.d 4) key) 0 (dgLen t.d) data)) hu
  refine ⟨g, u, ht, ?_⟩
  rw [hfin g u ht] at hon
  unfold digestMessage
  rw [meetChain_none h t (newOp .dge w t) _ _ _ hc]
  dsimp only
  rw [if_neg (Nat.not_lt.mpr hl), h5, if_neg (by simp), withRead_ok _ _ _ _ data _ hr]
  exact hon

/-- A digest or MAC that reaches its destination. -/
theorem digestResult_placed (g : Head) (d : Desc) (o : EngOp) (v : Nat) (hd : rangeAll (dgDst d) (digestLen (dFlag d 4)) (engineReach g) = true) :
    digestResult g d o v = pushOp g { o with bytes := digestLen (dFlag d 4), word := v % 2 ^ 64, place := [⟨dgDst d, digestLen (dFlag d 4), v⟩] } := by
  unfold digestResult
  rw [withDst_ok _ _ _ _ _ hd]

/-- What an engine reaches from a unit that has taken an operation, its chain set. -/
theorem engineReach_taken {h g : Head} {cls : Block} {w : Wing} {u : Nat} (x : UnitTaken h g cls w u) (ring : Option Nat) (c : Option Chain) :
    engineReach (setChain g cls w ring c) = engineReach h :=
  (engineReach_congr (frame_setChain g cls w ring c) List.not_mem_nil).trans (engineReach_congr (frame_unitTaken x) List.not_mem_nil)

theorem dgeHash_places (s : State) (w : Wing) (src : Source) (t : Taken) (h' : Head) (data : Nat) (hrun : Runs s.dev) (x : Starts s.dev w .dge src 1 t h')
    (hc : chainOf h' .dge w t.ring = none) (h5 : dFlag t.d 5 = false) (h6 : dFlag t.d 6 = false) (hl : dgLen t.d ≤ 2 ^ 24)
    (hr : engineRead h' (dgSrc t.d) (dgLen t.d) = .ok data) (hd : rangeAll (dgDst t.d) (digestLen (dFlag t.d 4)) (engineReach h') = true)
    (hu : unitsIn h' .dge w 0 ≠ []) :
    Completes (.dgeHash w src) s (fun h => ∃ (g : Head) (u v : Nat), UnitTaken h' g .dge w u ∧
      v = Config.shaFinish (dFlag t.d 4) (Config.shaInit (dFlag t.d 4)) 0 (dgLen t.d) data % 2 ^ (8 * digestLen (dFlag t.d 4)) ∧
      Joined (setChain g .dge w t.ring none) h { newOp .dge w t with
        unit := u, bytes := digestLen (dFlag t.d 4), word := v % 2 ^ 64, place := [⟨dgDst t.d, digestLen (dFlag t.d 4), v⟩] }) := by
  obtain ⟨g, u, ht, hm⟩ := digestMessage_whole s.dev h' w t none data (fun h o v =>
    digestResult (if dFlag t.d 6 && rangeAll (dgDst t.d) (digestLen (dFlag t.d 4)) (engineReach h) then measure h w (dgMsr t.d) v else h) t.d o v) hc h5 hl hr hu
  have heq : dgeHash s.dev w src = _ := (runDesc_starts x (by decide) _).trans ((if_neg (by rw [h6]; simp)).trans hm)
  rw [h6, Bool.false_and, if_neg (by decide), digestResult_placed _ _ _ _ (by rw [engineReach_taken ht]; exact hd)] at heq
  exact completes_of_eq (exec_dgeHash w src) hrun heq ⟨g, u, _, ht, rfl, joined_pushOp _ _ nofun⟩

/-! ### Measured messages -/

theorem extendCounted_event (h : Head) (r : Nat) : EventSet (extendCounted h r) .east Ev.MSR_EXTENDED := by
  have hev : EventSet (raiseCounted h .east Ev.MSR_EXTENDED) .east Ev.MSR_EXTENDED := eventSet_raiseCounted_same (by decide)
  unfold extendCounted
  generalize raiseCounted h .east Ev.MSR_EXTENDED = k at *
  have hf : Frame [] [(.msr, 0x0AC), (.msr, 0x0B0)] k (fset (fadd k .east MSR_COUNT_COUNT 1 r) .east MSR_USED_USED
      (fget (fadd k .east MSR_COUNT_COUNT 1 r) .east MSR_USED_USED ||| 1 <<< r)) := by
    simp +decide only [frame_rules, frame_refl]
  exact (hf.eventSet .east Ev.MSR_EXTENDED (by decide) 0).2 hev

/-- A measured result takes its register's arm, is extended and counted. -/
theorem measure_shows (h : Head) (w : Wing) (r v : Nat) (ha : (fget h .east MSR_ARMED_ARMED).testBit (r - 10) = true) :
    (fget (measure h w r v) .east MSR_ARMED_ARMED).testBit (r - 10) = false ∧ EventSet (measure h w r v) .east Ev.MSR_EXTENDED ∧
      fget (measure h w r v) w DGE_CNT_MEASURE_COUNT = min (fget h w DGE_CNT_MEASURE_COUNT + 1) (2 ^ 32 - 1) ∧
      Frame [.evq] ((.msr, 0x0A8) :: (.dge, 0x064) :: msrRegs) h (measure h w r v) := by
  have hx := frame_msrExtend h r v
  have hev : EventSet (msrExtend h r v) .east Ev.MSR_EXTENDED := by
    rw [msrExtend_eq]
    exact extendCounted_event _ r
  rw [← hx.fget .east MSR_ARMED_ARMED (by decide) (by decide) 0 0] at ha
  have hcnt := hx.fget w DGE_CNT_MEASURE_COUNT (by decide) (by decide) 0 0
  unfold Machine.measure
  dsimp only
  generalize msrExtend h r v = a at *
  have hlt : fget a .east MSR_ARMED_ARMED - 1 <<< (r - 10) < 2 ^ 14 := lt_of_le_of_lt (Nat.sub_le _ _) (fget_lt a .east MSR_ARMED_ARMED 0 0)
  have hv : fget (fset a .east MSR_ARMED_ARMED (fget a .east MSR_ARMED_ARMED - 1 <<< (r - 10))) .east MSR_ARMED_ARMED =
      fget a .east MSR_ARMED_ARMED - 1 <<< (r - 10) := bget_bput_same_of_lt _ _ _ _ _ _ _ _ _ (by decide) (by decide) hlt
  have hf := frame_fset a .east 0 0 MSR_ARMED_ARMED (fget a .east MSR_ARMED_ARMED - 1 <<< (r - 10))
  generalize fset a .east MSR_ARMED_ARMED (fget a .east MSR_ARMED_ARMED - 1 <<< (r - 10)) = b at *
  have hadd := frame_fadd b w 0 0 DGE_CNT_MEASURE_COUNT 1
  refine ⟨?_, (hadd.eventSet .east Ev.MSR_EXTENDED (by decide) 0).mpr ((hf.eventSet .east Ev.MSR_EXTENDED (by decide) 0).mpr hev), ?_,
    (hx.mono (by decide) (by decide)).trans ((hf.mono (by decide) (by decide)).trans (hadd.mono (by decide) (by decide)))⟩
  · rw [hadd.fget .east MSR_ARMED_ARMED (by decide) (by decide) 0 0, hv]
    exact testBit_sub_two_pow _ _ ha
  · rw [fget_fadd_same b w DGE_CNT_MEASURE_COUNT 1 0 0 (by decide) (by decide), hf.fget w DGE_CNT_MEASURE_COUNT (by decide) (by decide) 0 0, hcnt]
    rfl

theorem dgeHash_measures (s : State) (w : Wing) (src : Source) (t : Taken) (h' : Head) (data : Nat) (hrun : Runs s.dev) (x : Starts s.dev w .dge src 1 t h')
    (hc : chainOf h' .dge w t.ring = none) (h5 : dFlag t.d 5 = false) (h6 : dFlag t.d 6 = true) (hok : measureOk h' t (dgMsr t.d) = true)
    (hl : dgLen t.d ≤ 2 ^ 24) (hr : engineRead h' (dgSrc t.d) (dgLen t.d) = .ok data)
    (hd : rangeAll (dgDst t.d) (digestLen (dFlag t.d 4)) (engineReach h') = true) (hu : unitsIn h' .dge w 0 ≠ []) :
    Completes (.dgeHash w src) s (fun h =>
      (fget h .east MSR_ARMED_ARMED).testBit (dgMsr t.d - 10) = false ∧ EventSet h .east Ev.MSR_EXTENDED ∧
        fget h w DGE_CNT_MEASURE_COUNT = min (fget s.dev w DGE_CNT_MEASURE_COUNT + 1) (2 ^ 32 - 1) ∧ h.mem = s.dev.mem) := by
  obtain ⟨g, u, ht, hm⟩ := digestMessage_whole s.dev h' w t none data (fun h o v =>
    digestResult (if dFlag t.d 6 && rangeAll (dgDst t.d) (digestLen (dFlag t.d 4)) (engineReach h) then measure h w (dgMsr t.d) v else h) t.d o v) hc h5 hl hr hu
  have heq : dgeHash s.dev w src = _ := (runDesc_starts x (by decide) _).trans ((if_neg (by rw [h6, hok]; decide)).trans hm)
  have hreach := engineReach_taken ht t.ring none
  have hg : Frame [.freeCtr, .pwr, .eng] [] h' (setChain g .dge w t.ring none) :=
    ((frame_unitTaken ht).mono (by decide) (by decide)).trans ((frame_setChain ..).mono (by decide) (by decide))
  have hs : Frame [.freeCtr, .pwr, .eng] [(.cpu, 0x064)] s.dev (setChain g .dge w t.ring none) :=
    ((offered_frame x.offered).mono (by decide) (by decide)).trans (hg.mono (by decide) (by decide))
  generalize setChain g .dge w t.ring none = a at *
  unfold measureOk at hok
  simp only [Bool.and_eq_true, decide_eq_true_eq] at hok
  obtain ⟨-, harm⟩ := hok
  rw [← hg.fget .east MSR_ARMED_ARMED List.not_mem_nil (by decide) 0 0] at harm
  rw [h6, hreach, hd, Bool.true_and, if_pos rfl] at heq
  obtain ⟨m1, m2, m3, m4⟩ := measure_shows a w (dgMsr t.d) (dgFinish h' (dFlag t.d 4) none (dgInit h' (dFlag t.d 4) none) 0 (dgLen t.d) data) harm
  generalize measure a w (dgMsr t.d) (dgFinish h' (dFlag t.d 4) none (dgInit h' (dFlag t.d 4) none) 0 (dgLen t.d) data) = b at *
  rw [digestResult_placed _ _ _ _ (by rw [engineReach_congr m4 (by decide), hreach]; exact hd)] at heq
  rw [hs.fget w DGE_CNT_MEASURE_COUNT (by decide) (by decide) 0 0] at m3
  have hj := frame_joined (joined_pushOp b { newOp .dge w t with
    unit := u, key := none, bytes := digestLen (dFlag t.d 4)
    word := dgFinish h' (dFlag t.d 4) none (dgInit h' (dFlag t.d 4) none) 0 (dgLen t.d) data % 2 ^ 64
    place := [⟨dgDst t.d, digestLen (dFlag t.d 4), dgFinish h' (dFlag t.d 4) none (dgInit h' (dFlag t.d 4) none) 0 (dgLen t.d) data⟩] } nofun)
  refine completes_of_eq (exec_dgeHash w src) hrun heq ⟨?_, (hj.eventSet .east Ev.MSR_EXTENDED (by decide) 0).mpr m2,
    (hj.fget w DGE_CNT_MEASURE_COUNT (by decide) (by decide) 0 0).trans m3, (hj.1 .mem (by decide)).trans ((m4.1 .mem (by decide)).trans (hs.1 .mem (by decide)))⟩
  exact (congrArg (fun n => n.testBit (dgMsr t.d - 10)) (hj.fget .east MSR_ARMED_ARMED (by decide) (by decide) 0 0)).trans m1

/-! ### Keyed messages and compares -/

theorem withHmacKey_ok (h : Head) (w : Wing) (t : Taken) (o : EngOp) (key id : Nat) (f : Nat → Head) (hk : checkKey h .dge w t key 4 = .ok id)
    (hfp : ¬ (keyUsage h id = 1 ∧ tabHas h.bindings (slotColl h id) = true ∧ h.eng.fpStates.contains (slotColl h id) = false)) :
    withHmacKey h w t o key f = f id := by
  unfold withHmacKey
  rw [hk]
  exact if_neg hfp

theorem dgeHmac_places (s : State) (w : Wing) (src : Source) (t : Taken) (h' : Head) (data id : Nat) (hrun : Runs s.dev) (x : Starts s.dev w .dge src 2 t h')
    (hk : checkKey h' .dge w t (dgKey t.d) 4 = .ok id)
    (hfp : ¬ (keyUsage h' id = 1 ∧ tabHas h'.bindings (slotColl h' id) = true ∧ h'.eng.fpStates.contains (slotColl h' id) = false))
    (hc : chainOf h' .dge w t.ring = none) (h5 : dFlag t.d 5 = false) (hl : dgLen t.d ≤ 2 ^ 24) (hr : engineRead h' (dgSrc t.d) (dgLen t.d) = .ok data)
    (hd : rangeAll (dgDst t.d) (digestLen (dFlag t.d 4)) (engineReach h') = true) (hu : unitsIn h' .dge w 0 ≠ []) :
    Completes (.dgeHmac w src) s (fun h => ∃ (g : Head) (u v : Nat), UnitTaken h' g .dge w u ∧
      v = Config.hmacFinish (dFlag t.d 4) (keyValue h' id) (Config.hmacInit (dFlag t.d 4) (keyValue h' id)) 0 (dgLen t.d) data %
        2 ^ (8 * digestLen (dFlag t.d 4)) ∧
      Joined (setChain g .dge w t.ring none) h { newOp .dge w t with
        unit := u, key := some id, bytes := digestLen (dFlag t.d 4), word := v % 2 ^ 64
        place := [⟨dgDst t.d, digestLen (dFlag t.d 4), v⟩] }) := by
  obtain ⟨g, u, ht, hm⟩ := digestMessage_whole s.dev h' w t (some id) data (fun h o v => digestResult h t.d o v) hc h5 hl hr hu
  have heq : dgeHmac s.dev w src = _ := (runDesc_starts x (by decide) _).trans ((withHmacKey_ok h' w t _ _ id _ hk hfp).trans hm)
  rw [digestResult_placed _ _ _ _ (by rw [engineReach_taken ht]; exact hd)] at heq
  exact completes_of_eq (exec_dgeHmac w src) hrun heq ⟨g, u, _, ht, rfl, joined_pushOp _ _ nofun⟩

/-- What a compare of a sound lane says in its completion. -/
theorem compareResult_sound (h : Head) (o : EngOp) (same : Bool) (ev : EvRef) : compareResult h o same none ev =
    pushOp h { o with status := if same then .done else .checkFail, extra := if same then 1 else 2 } := rfl

theorem dgeCompare_compares (s : State) (w : Wing) (src : Source) (t : Taken) (h' : Head) (a b : Nat) (hrun : Runs s.dev) (x : Starts s.dev w .dge src 3 t h')
    (hc : chainOf h' .dge w t.ring = none) (h1 : 1 ≤ dgLen t.d) (hl : dgLen t.d ≤ 2 ^ 24) (ha : engineRead h' (dgSrc t.d) (dgLen t.d) = .ok a)
    (hb : engineRead h' (dgDst t.d) (dgLen t.d) = .ok b) (hu : unitsIn h' .dge w 0 ≠ []) :
    Completes (.dgeCompare w src none) s (fun h => ∃ (g : Head) (u : Nat),
      UnitTaken (fadd h' w DGE_CNT_COMPARE_COUNT) g .dge w u ∧
      Joined g h { newOp .dge w t with
        unit := u, status := if a = b then .done else .checkFail, extra := if a = b then 1 else 2 }) := by
  have hu' : unitsIn (fadd h' w DGE_CNT_COMPARE_COUNT) .dge w 0 ≠ [] := by
    rw [unitsIn_congr (frame_fadd h' w 0 0 DGE_CNT_COMPARE_COUNT 1) .dge rfl (by decide)]
    exact hu
  obtain ⟨g, u, ht, hon⟩ := onUnit_fresh s.dev (fadd h' w DGE_CNT_COMPARE_COUNT) (newOp .dge w t)
    (fun h o => compareResult h o (a == b) none Ev.DGE_COMPARE_FAULT) hu'
  have heq : dgeCompare s.dev w src none = _ := (runDesc_starts x (by decide) _).trans ((if_neg (by omega)).trans ((noChain_none _ _ _ _ hc).trans
    ((withRead_ok _ _ _ _ a _ ha).trans ((withRead_ok _ _ _ _ b _ hb).trans hon))))
  have hs : ∀ (α : Type) (p q : α), (if (a == b) = true then p else q) = if a = b then p else q := fun α p q => by simp only [beq_iff_eq]
  refine completes_of_eq (exec_dgeCompare w src none) hrun heq ⟨g, u, ht, ?_⟩
  rw [compareResult_sound, hs, hs]
  exact joined_pushOp _ _ nofun

theorem hmacVerify_compares (s : State) (w : Wing) (src : Source) (t : Taken) (h' : Head) (data exp id : Nat) (hrun : Runs s.dev)
    (x : Starts s.dev w .dge src 4 t h') (hk : checkKey h' .dge w t (dgKey t.d) 4 = .ok id) (hus : keyUsage h' id ≠ 1)
    (hc : chainOf h' .dge w t.ring = none) (h5 : dFlag t.d 5 = false) (hl : dgLen t.d ≤ 2 ^ 24) (hr : engineRead h' (dgSrc t.d) (dgLen t.d) = .ok data)
    (he : engineRead h' (dgDst t.d) (digestLen (dFlag t.d 4)) = .ok exp) (hu : unitsIn h' .dge w 0 ≠ []) :
    Completes (.hmacVerify w src none) s (fun h => ∃ (g : Head) (u v : Nat), UnitTaken h' g .dge w u ∧
      v = Config.hmacFinish (dFlag t.d 4) (keyValue h' id) (Config.hmacInit (dFlag t.d 4) (keyValue h' id)) 0 (dgLen t.d) data %
        2 ^ (8 * digestLen (dFlag t.d 4)) ∧
      Joined (fadd (setChain g .dge w t.ring none) w DGE_CNT_COMPARE_COUNT) h { newOp .dge w t with
        unit := u, key := some id, status := if v = exp then .done else .checkFail, extra := if v = exp then 1 else 2 }) := by
  obtain ⟨g, u, ht, hm⟩ := digestMessage_whole s.dev h' w t (some id) data (fun h o v => withRead h o (dgDst t.d) (digestLen (dFlag t.d 4)) (fun exp =>
    compareResult (fadd h w DGE_CNT_COMPARE_COUNT) o (v == exp) none Ev.DGE_COMPARE_FAULT)) hc h5 hl hr hu
  have heq : dgeHmacVerify s.dev w src none = _ :=
    (runDesc_starts x (by decide) _).trans ((withHmacKey_ok h' w t _ _ id _ hk (fun h => hus h.1)).trans hm)
  have hg : Frame [.freeCtr, .pwr, .eng] [] h' (setChain g .dge w t.ring none) :=
    ((frame_unitTaken ht).mono (by decide) (by decide)).trans ((frame_setChain ..).mono (by decide) (by decide))
  rw [withRead_ok _ _ _ _ exp _ (by rw [engineRead_congr hg List.not_mem_nil (by decide) (by decide)]; exact he), compareResult_sound] at heq
  refine completes_of_eq (exec_hmacVerify w src none) hrun heq ⟨g, u, _, ht, rfl, ?_⟩
  have hs : ∀ (α : Type) (v : Nat) (p q : α), (if (v == exp) = true then p else q) = if v = exp then p else q := fun α v p q => by simp only [beq_iff_eq]
  rw [hs, hs]
  exact joined_pushOp _ _ nofun

/-! ### Chain records -/

/-- A descriptor that continues a sound chain saves it in the clear where it is unkeyed. -/
theorem saveRecord_plain (h : Head) (t : Taken) (o : EngOp) (addr n rec : Nat) (hf : dCflag t.d 15 = false) (hd : rangeAll addr n (engineReach h) = true) :
    saveRecord h t o addr n rec false = pushOp h { o with bytes := n, chained := true, place := [⟨addr, n, rec⟩] } := by
  unfold saveRecord
  rw [hf, if_neg (by decide), Bool.not_false, if_pos rfl, withDst_ok h o addr n _ hd]

theorem stateSave_saves (s : State) (w : Wing) (src : Source) (t : Taken) (h' : Head) (c : Chain) (hrun : Runs s.dev) (x : Starts s.dev w .dge src 5 t h')
    (hc : chainOf h' .dge w t.ring = some c) (hb : c.broken = false) (hcoll : c.coll = dColl t.d) (hk : c.key = none) (hf : dCflag t.d 15 = false)
    (hd : rangeAll (dgState t.d) 96 (engineReach h') = true) :
    Completes (.stateSave w src) s (fun h =>
      Joined (setChain h' .dge w t.ring none) h { newOp .dge w t with
        unit := c.unit, key := none, bytes := 96, chained := true, place := [⟨dgState t.d, 96, stateRecord c⟩] }) := by
  have hreach : engineReach (setChain h' .dge w t.ring none) = engineReach h' := engineReach_congr (frame_setChain ..) List.not_mem_nil
  have heq : dgeStateSave s.dev w src = saveRecord (setChain h' .dge w t.ring none) t { newOp .dge w t with unit := c.unit, key := c.key } (dgState t.d) 96
      (stateRecord c) c.key.isSome := by
    refine (runDesc_starts x (by decide) _).trans ?_
    dsimp only
    rw [hc]
    dsimp only
    rw [hb, if_neg (by decide), if_neg (show ¬ c.coll ≠ (newOp .dge w t).coll from not_not.mpr hcoll)]
  rw [hk, Option.isSome_none, saveRecord_plain _ _ _ _ _ _ hf (by rw [hreach]; exact hd)] at heq
  exact completes_of_eq (exec_stateSave w src) hrun heq (joined_pushOp _ _ nofun)


theorem frame_failOp (h : Head) (o : EngOp) (st : Status) : Frame [.eng, .foy, .evq] pushRegs h (failOp h o st) :=
  ((frame_setChain h o.cls o.wing o.ring none).mono (by decide) (by decide)).trans (frame_pushOp _ _)

/-- A key that is refused is told on its page, and nothing else changes. -/
theorem frame_checkKey {h g : Head} {cls : Block} {w : Wing} {t : Taken} {key kind : Nat} {st : Status} (hk : checkKey h cls w t key kind = .error (st, g)) :
    Frame [.evq] [((keyRefused cls).block, 0x010)] h g := by
  unfold checkKey at hk
  dsimp only at hk
  split at hk
  · obtain ⟨-, rfl⟩ := Prod.mk.inj (Except.error.inj hk)
    exact frame_refl _ _ h
  · split at hk
    · obtain ⟨-, rfl⟩ := Prod.mk.inj (Except.error.inj hk)
      exact frame_raise h w 0 (keyRefused cls)
    · split at hk
      · obtain ⟨-, rfl⟩ := Prod.mk.inj (Except.error.inj hk)
        exact frame_refl _ _ h
      · exact absurd hk nofun

/-- Where no chain is under way, ending it changes nothing. -/
theorem setChain_none_idle (h : Head) (cls : Block) (w : Wing) (ring : Option Nat) (hc : chainOf h cls w ring = none) : setChain h cls w ring none = h := by
  have hall : h.eng.chains.filter (fun x => !sameChain cls w ring x) = h.eng.chains :=
    List.filter_eq_self.mpr fun x hx => by simpa using List.find?_eq_none.mp hc x hx
  unfold setChain
  rw [hall, Option.toList_none, List.append_nil]

/-- An operation that fails with no chain under way joins those outstanding. -/
theorem joined_failOp (h : Head) (cls : Block) (w : Wing) (t : Taken) (st : Status) (hc : chainOf h cls w t.ring = none) (hd : cls ≠ .dma) :
    Joined h (failOp h (newOp cls w t) st) { newOp cls w t with status := st } := by
  have heq : failOp h (newOp cls w t) st = pushOp h { newOp cls w t with status := st } :=
    congrArg (fun g => pushOp g { newOp cls w t with status := st }) (setChain_none_idle h cls w t.ring hc)
  rw [heq]
  exact joined_pushOp h _ hd

/-- A record's chain loaded on an ACTIVE unit. -/
def chainLoaded (h0 h : Head) (t : Taken) (o : EngOp) (mk : EngOp → Option Nat → Chain) (id : Option Nat) : Head :=
  onUnit h0 h o none (fun h o => pushOp (setChain h o.cls o.wing t.ring (some (mk o id))) { o with chained := true, key := (mk o id).key })

theorem chainLoaded_loads (h0 h : Head) (t : Taken) (o : EngOp) (mk : EngOp → Option Nat → Chain) (id : Option Nat) (hu : unitsIn h o.cls o.wing 0 ≠ [])
    (hd : o.cls ≠ .dma) : ∃ u, Frame [.freeCtr, .pwr, .eng, .foy, .evq] pushRegs h (chainLoaded h0 h t o mk id) ∧
      (sameChain o.cls o.wing t.ring (mk { o with unit := u } id) = true →
        chainOf (chainLoaded h0 h t o mk id) o.cls o.wing t.ring = some (mk { o with unit := u } id)) := by
  obtain ⟨g, u, ht, hon⟩ := onUnit_fresh h0 h o
    (fun h o => pushOp (setChain h o.cls o.wing t.ring (some (mk o id))) { o with chained := true, key := (mk o id).key }) hu
  have hchain := chainOf_setChain_some g o.cls o.wing t.ring (mk { o with unit := u } id)
  have hset := frame_setChain g o.cls o.wing t.ring (some (mk { o with unit := u } id))
  change chainLoaded h0 h t o mk id = pushOp (setChain g o.cls o.wing t.ring (some (mk { o with unit := u } id)))
    { o with unit := u, chained := true, key := (mk { o with unit := u } id).key } at hon
  generalize setChain g o.cls o.wing t.ring (some (mk { o with unit := u } id)) = a at *
  have hj := joined_pushOp a { o with unit := u, chained := true, key := (mk { o with unit := u } id).key } hd
  have hf := frame_pushOp a { o with unit := u, chained := true, key := (mk { o with unit := u } id).key }
  rw [hon]
  refine ⟨u, (((frame_unitTaken ht).mono (by decide) (by decide)).trans (hset.mono (by decide) (by decide))).trans (hf.mono (by decide) (fun _ h => h)),
    fun hsame => ?_⟩
  rw [← hchain hsame, chainOf, hj.ops]
  rfl

theorem loadRecord_eq (h0 h : Head) (t : Taken) (o : EngOp) (coll slot gen : Nat) (kind : Option Nat) (key : Nat) (mk : EngOp → Option Nat → Chain) :
    loadRecord h0 h t o coll slot gen kind key mk =
      if coll ≠ o.coll then failOp h o .collMismatch
      else match kind with
        | none => chainLoaded h0 h t o mk none
        | some kind =>
          if slot ≠ key then failOp h o .collMismatch
          else match checkKey h o.cls o.wing t key kind with
            | .error (st, h) => failOp h o st
            | .ok id => if keyGen h id % 65536 = gen then chainLoaded h0 h t o mk (some id) else failOp h o .keyInvalid := by
  unfold loadRecord chainLoaded
  rfl

/-- A record loaded or refused: no memory and no key changes. -/
theorem loadRecord_keeps (h0 h : Head) (t : Taken) (o : EngOp) (coll slot gen : Nat) (kind : Option Nat) (key : Nat) (mk : EngOp → Option Nat → Chain)
    (hu : unitsIn h o.cls o.wing 0 ≠ []) (hd : o.cls ≠ .dma) :
    (loadRecord h0 h t o coll slot gen kind key mk).mem = h.mem ∧ (loadRecord h0 h t o coll slot gen kind key mk).keys = h.keys := by
  have hload (id : Option Nat) : (chainLoaded h0 h t o mk id).mem = h.mem ∧ (chainLoaded h0 h t o mk id).keys = h.keys := by
    obtain ⟨u, hf, -⟩ := chainLoaded_loads h0 h t o mk id hu hd
    exact ⟨hf.1 .mem (by decide), hf.1 .keys (by decide)⟩
  have hfail (g : Head) (st : Status) (hm : g.mem = h.mem) (hk : g.keys = h.keys) : (failOp g o st).mem = h.mem ∧ (failOp g o st).keys = h.keys :=
    ⟨((frame_failOp g o st).1 .mem (by decide)).trans hm, ((frame_failOp g o st).1 .keys (by decide)).trans hk⟩
  rw [loadRecord_eq]
  split
  · exact hfail h _ rfl rfl
  · cases kind with
    | none => exact hload none
    | some kind =>
      dsimp only
      split
      · exact hfail h _ rfl rfl
      · split
        · rename_i st g hk
          exact hfail g st ((frame_checkKey hk).1 .mem (by decide)) ((frame_checkKey hk).1 .keys (by decide))
        · split
          · exact hload _
          · exact hfail h _ rfl rfl

/-- The chain of a digest record. -/
def digestChain (w : Wing) (t : Taken) (rec : Nat) (o : EngOp) (key : Option Nat) : Chain :=
  ⟨.dge, w, t.ring, o.unit, rec % 2 + 2 * ofBool key.isSome, o.coll, key, rec >>> 48 % 65536, rec >>> 64 % 2 ^ 128, 0, rec >>> 192 % 2 ^ 512, 0, 0, false⟩

/-- A digest record loaded. -/
def digestLoaded (h0 h : Head) (w : Wing) (t : Taken) (rec : Nat) : Head :=
  loadRecord h0 h t (newOp .dge w t) (rec >>> 16 % 4096) (rec >>> 32 % 65536) (rec >>> 48 % 65536) (if rec.testBit 8 then some 4 else none) (dgKey t.d)
    (digestChain w t rec)

theorem stateRestore_restores (s : State) (w : Wing) (src : Source) (t : Taken) (h' : Head) (rec : Nat) (hrun : Runs s.dev) (x : Starts s.dev w .dge src 6 t h')
    (hf : dCflag t.d 15 = false) (hp : privateOk t = true) (hc : chainOf h' .dge w t.ring = none) (hr : engineRead h' (dgState t.d) 104 = .ok rec)
    (hk : keyState h' (ctxWrapSlot w) = 2) (hu : unitsIn h' .dge w 0 ≠ []) :
    Completes (.stateRestore w src) s (fun h => h.mem = s.dev.mem ∧ h.keys = s.dev.keys ∧
      match Config.keyUnwrap (keyValue h' (ctxWrapSlot w)) 104 rec with
      | some r => if r >>> 16 % 4096 = dColl t.d then r.testBit 8 = false → ∃ c : Chain, chainOf h .dge w t.ring = some c ∧
          c.coll = dColl t.d ∧ c.key = none ∧ c.count = r >>> 64 % 2 ^ 128 ∧ c.value = r >>> 192 % 2 ^ 512 ∧ c.mode = r % 2 ∧
          c.broken = false
        else Joined h' h { newOp .dge w t with status := .collMismatch }
      | none => rec.testBit 8 = true → Joined h' h { newOp .dge w t with status := .checkFail }) := by
  have heq : dgeStateRestore s.dev w src = match Config.keyUnwrap (keyValue h' (ctxWrapSlot w)) 104 rec with
      | some r => digestLoaded s.dev h' w t r
      | none => if rec.testBit 8 ∨ rec / 2 ^ 704 % 2 ^ 64 ≠ 0 ∨ rec / 2 % 2 ^ 15 ≠ 0 then failOp h' (newOp .dge w t) .checkFail
          else digestLoaded s.dev h' w t (rec % 2 ^ 768) := by
    refine (runDesc_starts x (by decide) _).trans ?_
    dsimp only
    rw [hf, hp, if_neg (by decide), if_neg (by decide), noChain_none _ _ _ _ hc, withRead_ok _ _ _ _ rec _ hr, hk, if_pos rfl]
    rfl
  have hs := offered_frame x.offered
  have hload (r : Nat) : (digestLoaded s.dev h' w t r).mem = s.dev.mem ∧ (digestLoaded s.dev h' w t r).keys = s.dev.keys := by
    obtain ⟨h1, h2⟩ := loadRecord_keeps s.dev h' t (newOp .dge w t) (r >>> 16 % 4096) (r >>> 32 % 65536) (r >>> 48 % 65536)
      (if r.testBit 8 then some 4 else none) (dgKey t.d) (digestChain w t r) hu nofun
    exact ⟨h1.trans (hs.1 .mem List.not_mem_nil), h2.trans (hs.1 .keys List.not_mem_nil)⟩
  cases hun : Config.keyUnwrap (keyValue h' (ctxWrapSlot w)) 104 rec with
  | some r =>
    rw [hun] at heq
    refine completes_of_eq (exec_stateRestore w src) hrun heq ⟨(hload r).1, (hload r).2, ?_⟩
    dsimp only
    unfold digestLoaded
    rw [loadRecord_eq]
    by_cases hcoll : r >>> 16 % 4096 = dColl t.d
    · rw [if_pos hcoll, if_neg (show ¬ r >>> 16 % 4096 ≠ (newOp .dge w t).coll from not_not.mpr hcoll)]
      intro h8
      rw [h8]
      obtain ⟨u, -, hch⟩ := chainLoaded_loads s.dev h' t (newOp .dge w t) (digestChain w t r) none hu nofun
      refine ⟨digestChain w t r { newOp .dge w t with unit := u } none, hch ?_, rfl, rfl, rfl, rfl, rfl, rfl⟩
      simp [sameChain, digestChain, newOp]
    · rw [if_neg hcoll, if_pos (show r >>> 16 % 4096 ≠ (newOp .dge w t).coll from hcoll)]
      exact joined_failOp h' .dge w t .collMismatch hc nofun
  | none =>
    rw [hun] at heq
    dsimp only at heq
    by_cases hbad : rec.testBit 8 ∨ rec / 2 ^ 704 % 2 ^ 64 ≠ 0 ∨ rec / 2 % 2 ^ 15 ≠ 0
    · rw [if_pos hbad] at heq
      have hfr := frame_failOp h' (newOp .dge w t) .checkFail
      exact completes_of_eq (exec_stateRestore w src) hrun heq ⟨(hfr.1 .mem (by decide)).trans (hs.1 .mem List.not_mem_nil),
        (hfr.1 .keys (by decide)).trans (hs.1 .keys List.not_mem_nil), fun _ => joined_failOp h' .dge w t .checkFail hc nofun⟩
    · rw [if_neg hbad] at heq
      exact completes_of_eq (exec_stateRestore w src) hrun heq ⟨(hload _).1, (hload _).2, fun h8 => absurd (.inl h8) hbad⟩

/-- A key derived into a slot. -/
def keyDerived (h : Head) (slot v : Nat) : Head :=
  let h := { h with keys := tabStore h.keys 0 slot v }
  let h := fset h .east KEY_SLOT_ATTR_STATE 1 slot
  fset h .east KEY_SLOT_GEN_GEN ((keyGen h slot + 1) % 65536) slot

theorem keyDerived_shows (h : Head) (slot v : Nat) : keyState (keyDerived h slot v) slot = 1 ∧ keyValue (keyDerived h slot v) slot = v ∧
    keyGen (keyDerived h slot v) slot = (keyGen h slot + 1) % 65536 ∧ (∀ k, k ≠ slot → keyValue (keyDerived h slot v) k = keyValue h k) ∧
    Frame [.keys] [(.key, 0x048), (.key, 0x04C)] h (keyDerived h slot v) := by
  have hf : Frame [.keys] [(.key, 0x048), (.key, 0x04C)] h (keyDerived h slot v) := by
    simp +decide only [keyDerived, frame_rules, frame_mk, true_or, or_true, and_self, frame_refl]
  refine ⟨?_, tabGet_tabStore_same _ _ _ _, ?_, fun k hk => tabGet_tabStore_other _ _ _ _ hk, hf⟩
  · simp only [keyDerived, keyState, fget_eq_bget, fset_regs]
    simp (disch := first | decide | rfl) [KEY_SLOT_ATTR_STATE, KEY_SLOT_GEN_GEN]
  · have hs := (frame_fset { h with keys := tabStore h.keys 0 slot v } .east slot 0 KEY_SLOT_ATTR_STATE 1).fget .east KEY_SLOT_GEN_GEN (by decide) (by decide) slot 0
    refine (bget_bput_same_of_lt _ _ _ _ _ _ _ _ _ (by decide) (by decide) (Nat.mod_lt _ (by decide))).trans ?_
    exact congrArg (fun n => (n + 1) % 65536) hs

theorem hkdfToSlot_fills (s : State) (w : Wing) (src : Source) (t : Taken) (h' : Head) (data id slot : Nat) (hrun : Runs s.dev)
    (x : Starts s.dev w .dge src 8 t h') (hi : t.internal = true ∨ t.docent = true) (hc : chainOf h' .dge w t.ring = none)
    (hk : checkKey h' .dge w t (dgKey t.d) 4 = .ok id) (hus : keyUsage h' id ≠ 1) (hr : engineRead h' (dgSrc t.d) (dgLen t.d) = .ok data)
    (hslot : slot = dgDst t.d % 8192) (hst : keyState h' slot = 0) (hkind : keyKind h' slot ≠ 0) (hu : unitsIn h' .dge w 0 ≠ []) :
    Completes (.hkdfToSlot w src) s (fun h =>
      keyState h slot = 1 ∧ keyValue h slot = Config.hkdf (keyValue h' id) (dgLen t.d) data ∧
        keyGen h slot = (keyGen s.dev slot + 1) % 65536 ∧ (∀ k, k ≠ slot → keyValue h k = keyValue s.dev k) ∧ h.mem = s.dev.mem) := by
  obtain ⟨g, u, ht, hon⟩ := onUnit_fresh s.dev h' (newOp .dge w t) (fun h o => pushOp (keyDerived h slot (Config.hkdf (keyValue h id) (dgLen t.d) data))
    { o with key := some id }) hu
  have hin : (!(t.internal || t.docent)) = false := by
    rcases hi with h | h
    · rw [h]; rfl
    · rw [h, Bool.or_true]; rfl
  have heq : dgeHkdf s.dev w src = pushOp (keyDerived g slot (Config.hkdf (keyValue g id) (dgLen t.d) data)) { newOp .dge w t with unit := u, key := some id } := by
    refine (runDesc_starts x (by decide) _).trans ?_
    dsimp only
    rw [hin, if_neg (by decide), noChain_none _ _ _ _ hc, withHmacKey_ok _ _ _ _ _ id _ hk (fun h => hus h.1), withRead_ok _ _ _ _ data _ hr, ← hslot,
      if_neg (not_or.mpr ⟨not_not.mpr hst, hkind⟩)]
    exact hon
  rw [keyValue_congr (frame_unitTaken ht) (by decide)] at heq
  have hs : Frame [.freeCtr, .pwr] [(.cpu, 0x064)] s.dev g :=
    ((offered_frame x.offered).mono (by decide) (by decide)).trans ((frame_unitTaken ht).mono (by decide) (by decide))
  have hgen : keyGen g slot = keyGen s.dev slot := hs.fget .east KEY_SLOT_GEN_GEN (by decide) (by decide) slot 0
  have hval (k : Nat) : keyValue g k = keyValue s.dev k := keyValue_congr hs (by decide) k
  obtain ⟨h1, h2, h3, h4, h5⟩ := keyDerived_shows g slot (Config.hkdf (keyValue h' id) (dgLen t.d) data)
  generalize keyDerived g slot (Config.hkdf (keyValue h' id) (dgLen t.d) data) = a at *
  have hj := frame_joined (joined_pushOp a { newOp .dge w t with unit := u, key := some id } nofun)
  exact completes_of_eq (exec_hkdfToSlot w src) hrun heq ⟨(hj.fget .east KEY_SLOT_ATTR_STATE (by decide) (by decide) slot 0).trans h1,
    (keyValue_congr hj (by decide) slot).trans h2, (hj.fget .east KEY_SLOT_GEN_GEN (by decide) (by decide) slot 0).trans (h3.trans (by rw [hgen])),
    fun k hk => (keyValue_congr hj (by decide) k).trans ((h4 k hk).trans (hval k)),
    (hj.1 .mem (by decide)).trans ((h5.1 .mem (by decide)).trans (hs.1 .mem (by decide)))⟩

/-! ### The obligation -/

/-- Settles O37, a lemma for each operation: `digestMessage_whole` for a message that starts and ends in one descriptor, `loadRecord` for a
chain's record. -/
theorem digestLanesCompute : Obligations.DigestLanesCompute := by
  unfold Obligations.DigestLanesCompute
  exact ⟨dgeHash_places, dgeHash_measures, dgeHmac_places, dgeCompare_compares, hmacVerify_compares, stateSave_saves, stateRestore_restores, hkdfToSlot_fills⟩

end Sys2Proof.Laws
end

section
/-! The codec tiles (R230 to R236). -/

namespace Sys2Proof.Laws

open Machine Machine.Reg

/-! ### Appends -/

theorem frame_setCases (h : Head) (l : List CaseStream) : Frame [.eng] [(.cdc, 0x05C)] h (setCases h l) := by
  simp +decide only [setCases, frame_foldHead, frame_rules, frame_mk, true_or, or_true, and_self, frame_refl, implies_true]

/-- The streams' cases replaced, their counts not yet brought up to date. -/
def casesSet (h : Head) (l : List CaseStream) : Head := { h with eng := { h.eng with cases := l } }

theorem eng_setCases (h : Head) (l : List CaseStream) : (setCases h l).eng = { h.eng with cases := l } := by
  have hf : Frame [] [(.cdc, 0x05C)] (casesSet h l)
      (foldHead (casesSet h l) wings (fun h w => fset h w CDC_STREAM_OPEN (l.filter (fun c => c.wing == w && !c.closed)).length)) := by
    simp +decide only [frame_foldHead, frame_rules, frame_refl, implies_true]
  exact hf.1 .eng (by decide)

/-- The streams' cases after a granule is counted and appended. -/
def casesAppended (h : Head) (w : Wing) (l : List CaseStream) : Head := setCases (fadd h w CDC_CNT_GRANULES_COUNT) l

theorem casesAppended_shows (h : Head) (w : Wing) (l : List CaseStream) : (casesAppended h w l).eng = { h.eng with cases := l } ∧
    RegsBut h (casesAppended h w l) [(.cdc, 0x05C), (.cdc, 0x068)] ∧
    SameButRegs { h with eng := (casesAppended h w l).eng } (casesAppended h w l) := by
  have hf : Frame [.eng, .evq] [(.cdc, 0x05C), (.cdc, 0x068)] h (casesAppended h w l) :=
    ((frame_fadd h w 0 0 CDC_CNT_GRANULES_COUNT 1).mono (by decide) (by decide)).trans ((frame_setCases _ l).mono (by decide) (by decide))
  exact ⟨eng_setCases _ l, hf.2, hf.putEng.sameButRegs⟩

/-- An APPEND that reaches its granule and its destination comes to its stream. -/
theorem cdcAppend_reached (s : State) (w : Wing) (src : Source) (t : Taken) (h' g : Head) (data : Nat) (x : Starts s.dev w .cdc src 1 t h')
    (hr : engineRead h' (dBits t.d 8 48) 4096 = .ok data) (hd : rangeAll (dBits t.d 16 48) 32768 (engineReach h') = true)
    (h64 : dBits t.d 8 48 % 64 = 0) (h512 : dBits t.d 16 48 % 512 = 0) (htab : dBits t.d 1 8 / 16 % 4 ≠ 3) (hl : (labelOf (dBits t.d 28 256)).coll = dColl t.d)
    (ha : appendGranule h' w (dBits t.d 24 9) (dColl t.d) (dBits t.d 16 48) (staticTables h' (dColl t.d) (dBits t.d 1 8 / 16 % 4))
      ⟨some (dTag t.d), dBits t.d 8 48, labelOf (dBits t.d 28 256), w, 0, 0, 0, 0⟩ = some g) :
    cdcAppend s.dev w src = pushOp g { newOp .cdc w t with ready := false } := by
  refine (runDesc_starts x (by decide) _).trans ?_
  dsimp only
  rw [if_neg (by simp [h64, h512, htab]), withRead_ok _ _ _ _ data _ hr, withDst_ok _ _ _ _ _ hd,
    if_neg (show ¬ (labelOf (dBits t.d 28 256)).coll ≠ (newOp .cdc w t).coll from not_not.mpr hl)]
  show (match appendGranule h' w (dBits t.d 24 9) (dColl t.d) (dBits t.d 16 48) (staticTables h' (dColl t.d) (dBits t.d 1 8 / 16 % 4))
    ⟨some (dTag t.d), dBits t.d 8 48, labelOf (dBits t.d 28 256), w, 0, 0, 0, 0⟩ with | none => _ | some h => _) = _
  rw [ha]

theorem openCase_fadd (h : Head) (w v : Wing) (f : Fld) (n stream : Nat) : openCase (fadd h w f n) v stream = openCase h v stream := rfl

theorem cdcAppend_opens (s : State) (w : Wing) (src : Source) (t : Taken) (h' : Head) (a : Appended) (data : Nat) (hrun : Runs s.dev)
    (x : Starts s.dev w .cdc src 1 t h') (hr : engineRead h' (dBits t.d 8 48) 4096 = .ok data)
    (hd : rangeAll (dBits t.d 16 48) 32768 (engineReach h') = true) (h64 : dBits t.d 8 48 % 64 = 0) (h512 : dBits t.d 16 48 % 512 = 0)
    (htab : dBits t.d 1 8 / 16 % 4 ≠ 3) (hl : (labelOf (dBits t.d 28 256)).coll = dColl t.d)
    (ha : a = ⟨some (dTag t.d), dBits t.d 8 48, labelOf (dBits t.d 28 256), w, 0, 0, 0, 0⟩) (ho : openCase h' w (dBits t.d 24 9) = none) :
    Completes (.cdcAppend w src) s (fun h => ∃ g : Head,
      g.eng = { h'.eng with cases := h'.eng.cases ++
        [⟨w, dBits t.d 24 9, dColl t.d, dBits t.d 16 48, staticTables h' (dColl t.d) (dBits t.d 1 8 / 16 % 4), [a], 0, false, none⟩] } ∧
        RegsBut h' g [(.cdc, 0x05C), (.cdc, 0x068)] ∧ SameButRegs { h' with eng := g.eng } g ∧
        Joined g h { newOp .cdc w t with ready := false }) := by
  have happ : appendGranule h' w (dBits t.d 24 9) (dColl t.d) (dBits t.d 16 48) (staticTables h' (dColl t.d) (dBits t.d 1 8 / 16 % 4)) a =
      some (casesAppended h' w (h'.eng.cases ++
        [⟨w, dBits t.d 24 9, dColl t.d, dBits t.d 16 48, staticTables h' (dColl t.d) (dBits t.d 1 8 / 16 % 4), [a], 0, false, none⟩])) := by
    unfold appendGranule
    dsimp only
    rw [openCase_fadd, ho]
    rfl
  obtain ⟨h1, h2, h3⟩ := casesAppended_shows h' w (h'.eng.cases ++
    [⟨w, dBits t.d 24 9, dColl t.d, dBits t.d 16 48, staticTables h' (dColl t.d) (dBits t.d 1 8 / 16 % 4), [a], 0, false, none⟩])
  exact completes_of_eq (exec_cdcAppend w src) hrun (cdcAppend_reached s w src t h' _ data x hr hd h64 h512 htab hl (ha ▸ happ))
    ⟨_, h1, h2, h3, joined_pushOp _ _ nofun⟩

theorem cdcAppend_joins (s : State) (w : Wing) (src : Source) (t : Taken) (h' : Head) (a : Appended) (c : CaseStream) (data : Nat) (hrun : Runs s.dev)
    (x : Starts s.dev w .cdc src 1 t h') (hr : engineRead h' (dBits t.d 8 48) 4096 = .ok data)
    (hd : rangeAll (dBits t.d 16 48) 32768 (engineReach h') = true) (h64 : dBits t.d 8 48 % 64 = 0) (h512 : dBits t.d 16 48 % 512 = 0)
    (htab : dBits t.d 1 8 / 16 % 4 ≠ 3) (hl : (labelOf (dBits t.d 28 256)).coll = dColl t.d)
    (ha : a = ⟨some (dTag t.d), dBits t.d 8 48, labelOf (dBits t.d 28 256), w, 0, 0, 0, 0⟩) (ho : openCase h' w (dBits t.d 24 9) = some c)
    (hcoll : c.coll = dColl t.d) (h7 : c.items.length < 7) :
    Completes (.cdcAppend w src) s (fun h => ∃ g : Head,
      g.eng = { h'.eng with cases := h'.eng.cases.map (fun x => if x = c then { x with items := x.items ++ [a] } else x) } ∧
        RegsBut h' g [(.cdc, 0x05C), (.cdc, 0x068)] ∧ SameButRegs { h' with eng := g.eng } g ∧
        Joined g h { newOp .cdc w t with ready := false }) := by
  have happ : appendGranule h' w (dBits t.d 24 9) (dColl t.d) (dBits t.d 16 48) (staticTables h' (dColl t.d) (dBits t.d 1 8 / 16 % 4)) a =
      some (casesAppended h' w (h'.eng.cases.map (fun x => if x = c then { x with items := x.items ++ [a] } else x))) := by
    unfold appendGranule
    dsimp only
    rw [openCase_fadd, ho]
    dsimp only
    rw [if_neg (not_not.mpr hcoll), if_neg (Nat.ne_of_lt h7)]
    rfl
  obtain ⟨h1, h2, h3⟩ := casesAppended_shows h' w (h'.eng.cases.map (fun x => if x = c then { x with items := x.items ++ [a] } else x))
  exact completes_of_eq (exec_cdcAppend w src) hrun (cdcAppend_reached s w src t h' _ data x hr hd h64 h512 htab hl (ha ▸ happ))
    ⟨_, h1, h2, h3, joined_pushOp _ _ nofun⟩

/-! ### Flushes -/

/-- The open case of a stream among others, closed on a tile. -/
def caseClosed (w : Wing) (stream : Nat) (u : Option Nat) (l : List CaseStream) : List CaseStream :=
  l.map (fun c => if c.wing = w ∧ c.stream = stream ∧ c.closed = false then { c with closed := true, unit := u } else c)

/-- A tile that is ACTIVE closes the case. -/
theorem closeCase_closes (h : Head) (w : Wing) (stream : Nat) (hu : unitsIn h .cdc w 0 ≠ []) : ∃ u ∈ unitsIn h .cdc w 0,
    (closeCase h w stream).eng = { h.eng with cases := caseClosed w stream (some u) h.eng.cases } ∧
      Frame [.eng, .freeCtr, .pwr] [(.cdc, 0x05C)] h (closeCase h w stream) := by
  obtain ⟨u, g, hp, ht⟩ := pickUnit_taken h .cdc w hu
  have hg : g.eng = h.eng := (frame_unitTaken ht).1 .eng (by decide)
  have heq : closeCase h w stream = setCases g (caseClosed w stream (some u) g.eng.cases) := by
    unfold closeCase
    rw [hp]
    rfl
  rw [heq, eng_setCases, hg]
  exact ⟨u, ht.1, rfl, ((frame_unitTaken ht).mono (by decide) (by decide)).trans ((frame_setCases g _).mono (by decide) (by decide))⟩

theorem cdcFlush_closes (s : State) (w : Wing) (src : Source) (t : Taken) (h' : Head) (hrun : Runs s.dev) (x : Starts s.dev w .cdc src 2 t h')
    (hu : unitsIn h' .cdc w 0 ≠ []) :
    Completes (.cdcFlush w src) s (fun h => ∃ u ∈ unitsIn h' .cdc w 0,
      h.eng.cases = h'.eng.cases.map (fun c =>
        if c.wing = w ∧ c.stream = dBits t.d 24 9 ∧ c.closed = false then { c with closed := true, unit := some u } else c) ∧
        h.eng.ops = h'.eng.ops ++ [newOp .cdc w t] ∧ h.mem = s.dev.mem) := by
  have heq : cdcFlush s.dev w src = pushOp (closeCase h' w (dBits t.d 24 9)) (newOp .cdc w t) := runDesc_starts x (by decide) _
  obtain ⟨u, hin, he, hf⟩ := closeCase_closes h' w (dBits t.d 24 9) hu
  generalize closeCase h' w (dBits t.d 24 9) = g at *
  have hj := joined_pushOp g (newOp .cdc w t) nofun
  refine completes_of_eq (exec_cdcFlush w src) hrun heq ⟨u, hin, ?_, ?_, ((frame_joined hj).1 .mem (by decide)).trans
    ((hf.1 .mem (by decide)).trans ((offered_frame x.offered).1 .mem List.not_mem_nil))⟩
  · rw [hj.ops, he]
    rfl
  · rw [hj.ops, he]

/-! ### Buffers -/

/-- EXPAND's granule, on the tile that the operation has. -/
def expandPlaced (w : Wing) (d : Desc) (data n : Nat) (h : Head) (o : EngOp) : Head :=
  let r := if dFlag d 6 then
      (if Config.guard64 4096 data % 2 ^ 64 = dBits d 28 64 then (Status.done, false, some data) else (Status.checkFail, false, some data))
    else expandCase o.coll (dBits d 24 3) (dBits d 28 64) n data
  let h := if r.2.1 then raise h w Ev.CDC_STREAM_ERROR else h
  match r.2.2 with
  | some g => pushOp h { o with status := r.1, bytes := 4096, place := [⟨dBits d 16 48, 4096, g⟩] }
  | none => pushOp h { o with status := r.1 }

theorem cdcExpand_places (s : State) (w : Wing) (src : Source) (t : Taken) (h' : Head) (data n v : Nat) (st : Status) (hrun : Runs s.dev)
    (x : Starts s.dev w .cdc src 3 t h') (hn : n = (if dFlag t.d 6 then 4096 else dBits t.d 36 32)) (hr : engineRead h' (dBits t.d 8 48) n = .ok data)
    (hd : rangeAll (dBits t.d 16 48) 4096 (engineReach h') = true)
    (hv : if dFlag t.d 6 then v = data ∧ st = (if Config.guard64 4096 data % 2 ^ 64 = dBits t.d 28 64 then .done else .checkFail)
      else expandCase (dColl t.d) (dBits t.d 24 3) (dBits t.d 28 64) n data = (st, false, some v))
    (hu : unitsIn h' .cdc w 0 ≠ []) :
    Completes (.cdcExpand w src) s (fun h => ∃ (g : Head) (u : Nat), UnitTaken h' g .cdc w u ∧
      Joined g h { newOp .cdc w t with unit := u, status := st, bytes := 4096, place := [⟨dBits t.d 16 48, 4096, v⟩] }) := by
  have hres : (if dFlag t.d 6 then
      (if Config.guard64 4096 data % 2 ^ 64 = dBits t.d 28 64 then (Status.done, false, some data) else (Status.checkFail, false, some data))
      else expandCase (dColl t.d) (dBits t.d 24 3) (dBits t.d 28 64) n data) = (st, false, some v) := by
    cases h6 : dFlag t.d 6 with
    | true =>
      rw [h6, if_pos rfl] at hv
      rw [if_pos rfl, hv.1, hv.2]
      split <;> rfl
    | false =>
      rw [h6, if_neg (by decide)] at hv
      rw [if_neg (by decide), hv]
  obtain ⟨g, u, ht, hon⟩ := onUnit_fresh s.dev h' (newOp .cdc w t) (expandPlaced w t.d data n) hu
  have heq : cdcExpand s.dev w src = pushOp g { newOp .cdc w t with unit := u, status := st, bytes := 4096, place := [⟨dBits t.d 16 48, 4096, v⟩] } := by
    refine (runDesc_starts x (by decide) _).trans ?_
    dsimp only
    rw [← hn, withRead_ok _ _ _ _ data _ hr, withDst_ok _ _ _ _ _ hd]
    refine hon.trans ?_
    unfold expandPlaced
    dsimp only
    rw [show (newOp .cdc w t).coll = dColl t.d from rfl, hres]
    rfl
  exact completes_of_eq (exec_cdcExpand w src) hrun heq ⟨g, u, ht, joined_pushOp _ _ nofun⟩

/-- A buffer's result up to LIMIT: the whole of it, or as much as LIMIT takes. -/
theorem limited_eq (h : Head) (o : EngOp) (dst limit n v : Nat) (short : Bool) : limited h o dst limit n (v % 2 ^ (8 * n)) short =
    pushOp h { o with
      status := if limit < n ∨ (short ∧ n < limit) then .limit else .done, bytes := min n limit
      place := [⟨dst, min n limit, v % 2 ^ (8 * min n limit)⟩] } := by
  unfold limited
  by_cases hn : limit < n
  · have hdvd : 2 ^ (8 * limit) ∣ 2 ^ (8 * n) := Nat.pow_dvd_pow 2 (by omega)
    rw [if_pos hn, if_pos (.inl hn), Nat.min_eq_right hn.le, Nat.mod_mod_of_dvd _ hdvd]
  · rw [if_neg hn, Nat.min_eq_left (not_lt.mp hn)]
    simp only [hn, false_or]

theorem staticTables_congr {h g : Head} {l : List Part} {r : List (Block × Nat)} (x : Frame l r h g) (hr : (.cdc, CDC_COLL_CFG_TABLES.off) ∉ r) (coll tables : Nat) :
    staticTables g coll tables = staticTables h coll tables := by
  unfold staticTables
  rw [x.fget .east CDC_COLL_CFG_TABLES hr (by decide)]

theorem bufCompress_places (s : State) (w : Wing) (src : Source) (t : Taken) (h' : Head) (data : Nat) (hrun : Runs s.dev) (x : Starts s.dev w .cdc src 4 t h')
    (h1 : 1 ≤ dBits t.d 24 32) (h20 : dBits t.d 24 32 ≤ 2 ^ 20) (htab : dBits t.d 1 8 / 16 % 4 ≠ 3)
    (hr : engineRead h' (dBits t.d 8 48) (dBits t.d 24 32) = .ok data) (hd : rangeAll (dBits t.d 16 48) (dBits t.d 28 32) (engineReach h') = true)
    (hu : unitsIn h' .cdc w 0 ≠ []) :
    Completes (.bufCompress w src) s (fun h => ∃ (g : Head) (u : Nat), UnitTaken h' g .cdc w u ∧
      let r := Config.deflate (staticTables h' (dColl t.d) (dBits t.d 1 8 / 16 % 4)) (dBits t.d 24 32) data
      let n := min r.1 (dBits t.d 28 32)
      Joined g h { newOp .cdc w t with
        unit := u, bytes := n, status := if dBits t.d 28 32 < r.1 then .limit else .done
        place := [⟨dBits t.d 16 48, n, r.2 % 2 ^ (8 * n)⟩] }) := by
  obtain ⟨g, u, ht, hon⟩ := onUnit_fresh s.dev h' (newOp .cdc w t) (fun h o =>
    let r := Config.deflate (staticTables h o.coll (dBits t.d 1 8 / 16 % 4)) (dBits t.d 24 32) data
    limited h o (dBits t.d 16 48) (dBits t.d 28 32) r.1 (r.2 % 2 ^ (8 * r.1)) false) hu
  have heq : cdcBufCompress s.dev w src =
      let r := Config.deflate (staticTables g (dColl t.d) (dBits t.d 1 8 / 16 % 4)) (dBits t.d 24 32) data
      limited g { newOp .cdc w t with unit := u } (dBits t.d 16 48) (dBits t.d 28 32) r.1 (r.2 % 2 ^ (8 * r.1)) false := by
    refine (runDesc_starts x (by decide) _).trans ?_
    dsimp only
    rw [if_neg (by omega), withRead_ok _ _ _ _ data _ hr, withDst_ok _ _ _ _ _ hd]
    exact hon
  rw [staticTables_congr (frame_unitTaken ht) List.not_mem_nil, limited_eq] at heq
  simp only [Bool.false_eq_true, false_and, or_false] at heq
  exact completes_of_eq (exec_bufCompress w src) hrun heq ⟨g, u, ht, joined_pushOp _ _ nofun⟩

theorem bufExpand_places (s : State) (w : Wing) (src : Source) (t : Taken) (h' : Head) (data : Nat) (hrun : Runs s.dev) (x : Starts s.dev w .cdc src 5 t h')
    (h1 : 1 ≤ dBits t.d 24 32) (h20 : dBits t.d 24 32 ≤ 2 ^ 20) (hr : engineRead h' (dBits t.d 8 48) (dBits t.d 24 32) = .ok data)
    (hd : rangeAll (dBits t.d 16 48) (dBits t.d 28 32) (engineReach h') = true) (hu : unitsIn h' .cdc w 0 ≠ []) :
    Completes (.bufExpand w src) s (fun h => ∃ (g : Head) (u : Nat), UnitTaken h' g .cdc w u ∧
      let r := Config.inflate (dBits t.d 24 32) data (dBits t.d 28 32 + 1)
      let n := min r.1 (dBits t.d 28 32)
      Joined g h (if r.2.2 then { newOp .cdc w t with
        unit := u, bytes := n, status := if r.1 = dBits t.d 28 32 then .done else .limit
        place := [⟨dBits t.d 16 48, n, r.2.1 % 2 ^ (8 * n)⟩] }
        else { newOp .cdc w t with unit := u, status := .checkFail })) := by
  obtain ⟨g, u, ht, hon⟩ := onUnit_fresh s.dev h' (newOp .cdc w t) (fun h o =>
    let r := Config.inflate (dBits t.d 24 32) data (dBits t.d 28 32 + 1)
    if r.2.2 = false then pushOp h { o with status := .checkFail }
    else limited h o (dBits t.d 16 48) (dBits t.d 28 32) r.1 (r.2.1 % 2 ^ (8 * r.1)) true) hu
  have heq : cdcBufExpand s.dev w src =
      let r := Config.inflate (dBits t.d 24 32) data (dBits t.d 28 32 + 1)
      if r.2.2 = false then pushOp g { newOp .cdc w t with unit := u, status := .checkFail }
      else limited g { newOp .cdc w t with unit := u } (dBits t.d 16 48) (dBits t.d 28 32) r.1 (r.2.1 % 2 ^ (8 * r.1)) true := by
    refine (runDesc_starts x (by decide) _).trans ?_
    dsimp only
    rw [if_neg (by omega), withRead_ok _ _ _ _ data _ hr, withDst_ok _ _ _ _ _ hd]
    exact hon
  simp only [limited_eq, true_and] at heq
  refine completes_of_eq (exec_bufExpand w src) hrun heq ⟨g, u, ht, ?_⟩
  generalize Config.inflate (dBits t.d 24 32) data (dBits t.d 28 32 + 1) = r
  dsimp only
  cases r.2.2 with
  | false =>
    rw [if_pos rfl, if_neg (by decide)]
    exact joined_pushOp _ _ nofun
  | true =>
    have hst : (if dBits t.d 28 32 < r.1 ∨ r.1 < dBits t.d 28 32 then Status.limit else .done) =
        if r.1 = dBits t.d 28 32 then Status.done else .limit := by
      by_cases hr : r.1 = dBits t.d 28 32
      · rw [if_pos hr, if_neg (by omega)]
      · rw [if_neg hr, if_pos (by omega)]
    rw [if_neg (by decide), if_pos rfl, hst]
    exact joined_pushOp _ _ nofun

/-! ### The obligation -/

/-- Settles O38, a lemma for each operation: `appendGranule` on a stream without and with an open case, `closeCase_closes`, and `limited_eq` for a
buffer's result. -/
theorem codecTilesCompute : Obligations.CodecTilesCompute := by
  unfold Obligations.CodecTilesCompute
  exact ⟨cdcAppend_opens, cdcAppend_joins, cdcFlush_closes, cdcExpand_places, bufCompress_places, bufExpand_places⟩

end Sys2Proof.Laws
end

section
/-! The cipher tiles (R237 to R242). -/

namespace Sys2Proof.Laws

open Machine Machine.Reg

/-! ### Keys in their tiles -/

/-- A key loaded writes its tile's slots and the count of loads. -/
theorem frame_loadKey (h : Head) (w : Wing) (u id : Nat) : Frame [.eng, .freeCtr] [(.cph, 0x05C)] h (loadKey h w u id) := by
  simp +decide only [loadKey, fresh, frame_ite, frame_rules, frame_mk, true_or, or_true, and_self, frame_refl, ite_self]

theorem loadKey_eng (h : Head) (w : Wing) (u id : Nat) : (loadKey h w u id).eng = { h.eng with tileKeys := (loadKey h w u id).eng.tileKeys } := by
  unfold loadKey
  dsimp only
  split <;> rfl

/-- What an operation whose key is in its tile keeps of the head that it took its unit from. -/
theorem frame_keyed {h g : Head} {cls : Block} {w : Wing} {u : Nat} (x : UnitTaken h g cls w u) (id : Nat) :
    Frame [.freeCtr, .pwr, .eng] [(.cph, 0x05C)] h (loadKey g w u id) :=
  ((frame_unitTaken x).mono (by decide) (by decide)).trans ((frame_loadKey g w u id).mono (by decide) (by decide))

theorem ops_keyed {h g : Head} {cls : Block} {w : Wing} {u : Nat} (x : UnitTaken h g cls w u) (id : Nat) :
    (loadKey g w u id).eng.ops = h.eng.ops ∧ (loadKey g w u id).eng.gcmCount = h.eng.gcmCount := by
  rw [loadKey_eng, (frame_unitTaken x).1 .eng (by decide)]
  exact ⟨rfl, rfl⟩

theorem withCipherKey_ok (h : Head) (w : Wing) (t : Taken) (o : EngOp) (kind id : Nat) (f : Nat → Head) (hk : checkKey h .cph w t (cpKey t.d) kind = .ok id) :
    withCipherKey h w t o kind f = f id := by
  unfold withCipherKey
  rw [hk]

/-- What a cipher operation keeps from its descriptor's offer to its end: its unit, its tile, its wing's bounds and counts change. -/
theorem frame_cipherEnd {h h' g k : Head} {w : Wing} {src : Source} {opcode : Nat} {t : Taken} {o : EngOp} (x : Starts h w .cph src opcode t h')
    (hf : Frame [.freeCtr, .pwr, .eng, .evq] [(.cph, 0x05C), (.cph, 0x060)] h' g) (hj : Joined g k o) :
    Frame [.freeCtr, .pwr, .eng, .foy, .evq] [(.cpu, 0x064), (.cph, 0x05C), (.cph, 0x060), (.foq, 0x010), (.foq, 0x044), (.mft, 0x010)] h k :=
  ((offered_frame x.offered).mono (by decide) (by decide)).trans
    ((hf.mono (by decide) (by decide)).trans ((frame_joined hj).mono (by decide) (by decide)))

/-! ### XTS -/

theorem cipherMove_moves (h0 h : Head) (w : Wing) (t : Taken) (f : Nat → Nat → Nat) (data id : Nat) (hc : chainOf h .cph w t.ring = none)
    (hk : checkKey h .cph w t (cpKey t.d) 1 = .ok id) (hr : engineRead h (cpSrc t.d) (cpLen t.d) = .ok data)
    (hd : rangeAll (cpDst t.d) (cpLen t.d) (engineReach h) = true) (hu : unitsIn h .cph w 0 ≠ []) :
    ∃ g u, UnitTaken h g .cph w u ∧ cipherMove h0 h w t (newOp .cph w t) f = pushOp (loadKey g w u id) { newOp .cph w t with
      unit := u, key := some id, bytes := cpLen t.d, place := [⟨cpDst t.d, cpLen t.d, f (keyValue h id) data⟩] } := by
  obtain ⟨g, u, ht, hon⟩ := onUnit_fresh h0 h (newOp .cph w t) (fun h o => pushOp (loadKey h w o.unit id) { o with
    key := some id, bytes := cpLen t.d, place := [⟨cpDst t.d, cpLen t.d, f (keyValue h id) data⟩] }) hu
  rw [keyValue_congr (frame_unitTaken ht) (by decide)] at hon
  refine ⟨g, u, ht, ?_⟩
  unfold cipherMove
  dsimp only
  rw [noChain_none _ _ _ _ hc, withCipherKey_ok _ _ _ _ _ id _ hk, withRead_ok _ _ _ _ data _ hr, withDst_ok _ _ _ _ _ hd]
  exact hon

/-- One data unit, or the sheets of a case, between SRC and DST. -/
theorem cphXts_eq (s : State) (w : Wing) (src : Source) (t : Taken) (h' : Head) (enc : Bool) (x : Starts s.dev w .cph src (if enc then 1 else 2) t h')
    (hok : if dFlag t.d 4 then 16 ≤ cpLen t.d ∧ cpLen t.d ≤ 2 ^ 24 else mediaOk (dBits t.d 32 64) (cpLen t.d) = true) :
    cphXts s.dev w src enc = cipherMove s.dev h' w t (newOp .cph w t) (fun k data =>
      if dFlag t.d 4 then Config.xts enc k (dBits t.d 32 128) (cpLen t.d) data % 2 ^ (8 * cpLen t.d)
      else mediaXts enc k (dBits t.d 32 64) (dColl t.d) (cpLen t.d) data) := by
  refine (runDesc_starts x (by cases enc <;> decide) _).trans ?_
  dsimp only
  cases h4 : dFlag t.d 4 with
  | true =>
    rw [h4, if_pos rfl] at hok
    rw [if_pos rfl, if_neg (not_or.mpr ⟨not_lt.mpr hok.1, not_lt.mpr hok.2⟩)]
    rfl
  | false =>
    rw [h4, if_neg (by decide)] at hok
    rw [if_neg (by decide), hok, if_neg (by decide)]
    rfl

theorem exec_xts (w : Wing) (src : Source) (enc : Bool) :
    exec (if enc then .xtsEnc w src else .xtsDec w src) = lift (fun h => cphXts h w src enc) := by
  cases enc
  · exact exec_xtsDec w src
  · exact exec_xtsEnc w src

theorem xts_moves (s : State) (w : Wing) (src : Source) (t : Taken) (h' : Head) (enc : Bool) (data id : Nat) (hrun : Runs s.dev)
    (x : Starts s.dev w .cph src (if enc then 1 else 2) t h') (hc : chainOf h' .cph w t.ring = none)
    (hk : checkKey h' .cph w t (cpKey t.d) 1 = .ok id)
    (hok : if dFlag t.d 4 then 16 ≤ cpLen t.d ∧ cpLen t.d ≤ 2 ^ 24 else mediaOk (dBits t.d 32 64) (cpLen t.d) = true)
    (hr : engineRead h' (cpSrc t.d) (cpLen t.d) = .ok data) (hd : rangeAll (cpDst t.d) (cpLen t.d) (engineReach h') = true)
    (hu : unitsIn h' .cph w 0 ≠ []) :
    Completes (if enc then .xtsEnc w src else .xtsDec w src) s (fun h => ∃ (g : Head) (u : Nat), UnitTaken h' g .cph w u ∧
      Joined (loadKey g w u id) h { newOp .cph w t with
        unit := u, key := some id, bytes := cpLen t.d
        place := [⟨cpDst t.d, cpLen t.d,
          if dFlag t.d 4 then Config.xts enc (keyValue h' id) (dBits t.d 32 128) (cpLen t.d) data % 2 ^ (8 * cpLen t.d)
          else mediaXts enc (keyValue h' id) (dBits t.d 32 64) (dColl t.d) (cpLen t.d) data⟩] }) := by
  obtain ⟨g, u, ht, hm⟩ := cipherMove_moves s.dev h' w t (fun k data =>
      if dFlag t.d 4 then Config.xts enc k (dBits t.d 32 128) (cpLen t.d) data % 2 ^ (8 * cpLen t.d)
      else mediaXts enc k (dBits t.d 32 64) (dColl t.d) (cpLen t.d) data) data id hc hk hr hd hu
  exact completes_of_eq (exec_xts w src enc) hrun ((cphXts_eq s w src t h' enc x hok).trans hm) ⟨g, u, ht, joined_pushOp _ _ nofun⟩

theorem xtsRecrypt_moves (s : State) (w : Wing) (src : Source) (t : Taken) (h' : Head) (data id : Nat) (hrun : Runs s.dev)
    (x : Starts s.dev w .cph src 3 t h') (hc : chainOf h' .cph w t.ring = none) (hk : checkKey h' .cph w t (cpKey t.d) 1 = .ok id)
    (hm1 : mediaOk (dBits t.d 32 64) (cpLen t.d) = true) (hm2 : mediaOk (dBits t.d 40 64) (cpLen t.d) = true)
    (hr : engineRead h' (cpSrc t.d) (cpLen t.d) = .ok data) (hd : rangeAll (cpDst t.d) (cpLen t.d) (engineReach h') = true)
    (hu : unitsIn h' .cph w 0 ≠ []) :
    Completes (.xtsRecrypt w src) s (fun h => ∃ (g : Head) (u : Nat), UnitTaken h' g .cph w u ∧
      Joined (loadKey g w u id) h { newOp .cph w t with
        unit := u, key := some id, bytes := cpLen t.d
        place := [⟨cpDst t.d, cpLen t.d, mediaXts true (keyValue h' id) (dBits t.d 40 64) (dColl t.d) (cpLen t.d)
          (mediaXts false (keyValue h' id) (dBits t.d 32 64) (dColl t.d) (cpLen t.d) data)⟩] }) := by
  obtain ⟨g, u, ht, hm⟩ := cipherMove_moves s.dev h' w t (fun k data => mediaXts true k (dBits t.d 40 64) (dColl t.d) (cpLen t.d)
    (mediaXts false k (dBits t.d 32 64) (dColl t.d) (cpLen t.d) data)) data id hc hk hr hd hu
  have heq : cphRecrypt s.dev w src = cipherMove s.dev h' w t (newOp .cph w t) (fun k data => mediaXts true k (dBits t.d 40 64) (dColl t.d) (cpLen t.d)
    (mediaXts false k (dBits t.d 32 64) (dColl t.d) (cpLen t.d) data)) := by
    refine (runDesc_starts x (by decide) _).trans ?_
    dsimp only
    rw [hm1, hm2, if_neg (by decide)]
    rfl
  exact completes_of_eq (exec_xtsRecrypt w src) hrun (heq.trans hm) ⟨g, u, ht, joined_pushOp _ _ nofun⟩

/-! ### GCM -/

/-- An ACTIVE unit goes on with an operation that starts anew, whatever that does. -/
theorem onUnit_takes (h0 h : Head) (o : EngOp) (hu : unitsIn h o.cls o.wing 0 ≠ []) :
    ∃ g u, UnitTaken h g o.cls o.wing u ∧ ∀ f, onUnit h0 h o none f = f g { o with unit := u } := by
  obtain ⟨u, g, hp, ht⟩ := pickUnit_taken h o.cls o.wing hu
  refine ⟨g, u, ht, fun f => ?_⟩
  unfold onUnit
  rw [hp]

/-- A key's invocation counter goes on. -/
def gcmCounted (h : Head) (id n : Nat) : Head := { h with eng := { h.eng with gcmCount := tabPut h.eng.gcmCount id n } }

theorem gcmCounted_shows (h : Head) (id n : Nat) : tabGet (gcmCounted h id n).eng.gcmCount 0 id = n ∧ (gcmCounted h id n).eng.ops = h.eng.ops ∧
    Frame [.eng] [] h (gcmCounted h id n) := by
  refine ⟨?_, rfl, (frame_mk h (by simp)).2 (frame_refl _ _ h)⟩
  unfold gcmCounted tabGet
  dsimp only
  rw [tabGet?_tabPut_same]
  rfl

/-- The operation of a sealed message: the nonce, the ciphertext and the tag one behind another. -/
def gcmSealOp (o : EngOp) (id dst len alen k nonce data aad : Nat) : EngOp :=
  let ct := Config.gcmCrypt k nonce 0 len data % 2 ^ (8 * len)
  let acc := Config.gcmHash k (Config.gcmHash k 0 alen aad) len ct
  { o with
    key := some id, word := nonce >>> 32, bytes := len + 28
    place := [⟨dst, 12, nonce⟩, ⟨dst + 12, len, ct⟩, ⟨dst + 12 + len, 16, Config.gcmTag k nonce acc alen len % 2 ^ 128⟩] }

theorem gcmEnc_eq (s : State) (w : Wing) (src : Source) (t : Taken) (h' : Head) (data aad id : Nat) (x : Starts s.dev w .cph src 4 t h')
    (hk : checkKey h' .cph w t (cpKey t.d) 2 = .ok id) (hc : chainOf h' .cph w t.ring = none) (hctr : tabGet h'.eng.gcmCount 0 id < 2 ^ 48)
    (ha : cpAuxLen t.d ≤ 65536) (h6 : dFlag t.d 6 = false) (hr : engineRead h' (cpSrc t.d) (cpLen t.d) = .ok data)
    (hra : engineRead h' (cpAux t.d) (cpAuxLen t.d) = .ok aad) (hd : rangeAll (cpDst t.d) (cpLen t.d + 28) (engineReach h') = true)
    (hu : unitsIn h' .cph w 0 ≠ []) :
    ∃ g u, UnitTaken h' g .cph w u ∧ cphGcmEnc s.dev w src =
      pushOp (setChain (gcmCounted (loadKey g w u id) id (tabGet h'.eng.gcmCount 0 id + 1)) .cph w t.ring none)
        (gcmSealOp { newOp .cph w t with unit := u } id (cpDst t.d) (cpLen t.d) (cpAuxLen t.d) (gcmKey (keyValue h' id))
          (gcmSalt (keyValue h' id) + tabGet h'.eng.gcmCount 0 id <<< 32) data aad) := by
  obtain ⟨g, u, (ht : UnitTaken h' g .cph w u), hon⟩ := onUnit_takes s.dev h' (newOp .cph w t) hu
  refine ⟨g, u, ht, (runDesc_starts x (by decide) _).trans ?_⟩
  have hkey : keyValue (loadKey g w u id) id = keyValue h' id := keyValue_congr (frame_keyed ht id) (by decide) id
  have hlen : 12 + cpLen t.d + 16 = cpLen t.d + 28 := by omega
  dsimp only
  rw [withCipherKey_ok _ _ _ _ _ id _ hk, meetChain_none _ _ _ _ _ _ hc]
  dsimp only
  rw [Option.isNone_none, if_neg (fun h => not_le.mpr hctr h.2), h6, if_neg (by simp [ha]), if_pos rfl, if_pos rfl, if_neg (by decide), hlen,
    withRead_ok _ _ _ _ data _ hr, withRead_ok _ _ _ _ aad _ hra, withDst_ok _ _ _ _ _ hd, hon]
  dsimp only
  rw [if_neg (by decide), hkey]
  unfold gcmSealOp gcmCounted
  simp [placedLen, hlen]

theorem gcmEnc_seals (s : State) (w : Wing) (src : Source) (t : Taken) (h' : Head) (data aad id : Nat) (hrun : Runs s.dev) (x : Starts s.dev w .cph src 4 t h')
    (hk : checkKey h' .cph w t (cpKey t.d) 2 = .ok id) (hc : chainOf h' .cph w t.ring = none) (hctr : tabGet h'.eng.gcmCount 0 id < 2 ^ 48)
    (ha : cpAuxLen t.d ≤ 65536) (h6 : dFlag t.d 6 = false) (hr : engineRead h' (cpSrc t.d) (cpLen t.d) = .ok data)
    (hra : engineRead h' (cpAux t.d) (cpAuxLen t.d) = .ok aad) (hd : rangeAll (cpDst t.d) (cpLen t.d + 28) (engineReach h') = true)
    (hu : unitsIn h' .cph w 0 ≠ []) :
    Completes (.gcmEnc w src) s (fun h => ∃ o : EngOp,
      let k := gcmKey (keyValue h' id)
      let ctr := tabGet h'.eng.gcmCount 0 id
      let nonce := gcmSalt (keyValue h' id) + ctr <<< 32
      let ct := Config.gcmCrypt k nonce 0 (cpLen t.d) data % 2 ^ (8 * cpLen t.d)
      let acc := Config.gcmHash k (Config.gcmHash k 0 (cpAuxLen t.d) aad) (cpLen t.d) ct
      h.eng.ops = h'.eng.ops ++ [o] ∧ o.tag = dTag t.d ∧ o.status = .done ∧ o.bytes = cpLen t.d + 28 ∧ o.word = nonce >>> 32 ∧
        o.place = [⟨cpDst t.d, 12, nonce⟩, ⟨cpDst t.d + 12, cpLen t.d, ct⟩,
          ⟨cpDst t.d + 12 + cpLen t.d, 16, Config.gcmTag k nonce acc (cpAuxLen t.d) (cpLen t.d) % 2 ^ 128⟩] ∧
        tabGet h.eng.gcmCount 0 id = ctr + 1 ∧ h.mem = s.dev.mem ∧ h.keys = s.dev.keys) := by
  obtain ⟨g, u, ht, heq⟩ := gcmEnc_eq s w src t h' data aad id x hk hc hctr ha h6 hr hra hd hu
  have hf := frame_keyed ht id
  have hops := (ops_keyed ht id).1
  generalize loadKey g w u id = a at *
  obtain ⟨hcnt, hops', hf'⟩ := gcmCounted_shows a id (tabGet h'.eng.gcmCount 0 id + 1)
  generalize gcmCounted a id (tabGet h'.eng.gcmCount 0 id + 1) = b at *
  have hset := frame_setChain b .cph w t.ring none
  have hj := joined_pushOp (setChain b .cph w t.ring none) (gcmSealOp { newOp .cph w t with unit := u } id (cpDst t.d) (cpLen t.d) (cpAuxLen t.d)
    (gcmKey (keyValue h' id)) (gcmSalt (keyValue h' id) + tabGet h'.eng.gcmCount 0 id <<< 32) data aad) nofun
  have hall := frame_cipherEnd x ((hf.mono (by decide) (by decide)).trans ((hf'.trans hset).mono (by decide) (by decide))) hj
  refine completes_of_eq (exec_gcmEnc w src) hrun heq ⟨gcmSealOp { newOp .cph w t with unit := u } id (cpDst t.d) (cpLen t.d) (cpAuxLen t.d)
    (gcmKey (keyValue h' id)) (gcmSalt (keyValue h' id) + tabGet h'.eng.gcmCount 0 id <<< 32) data aad, ?_, rfl, rfl, rfl, rfl, rfl, ?_, hall.1 .mem (by decide), hall.1 .keys (by decide)⟩
  · rw [hj.ops]
    exact congrArg (· ++ _) (hops'.trans hops)
  · rw [hj.ops]
    exact hcnt

/-- A head whose tag failure is counted, where a tag failed. -/
def tagCounted (h : Head) (w : Wing) (good : Bool) : Head := if good then h else fadd h w CPH_CNT_TAG_FAIL_COUNT

theorem tagCounted_shows (h : Head) (w : Wing) (good : Bool) : Frame [] [(.cph, 0x060)] h (tagCounted h w good) ∧
    (good = false → fget (tagCounted h w good) w CPH_CNT_TAG_FAIL_COUNT = min (fget h w CPH_CNT_TAG_FAIL_COUNT + 1) (2 ^ 32 - 1)) := by
  unfold tagCounted
  cases good with
  | true => exact ⟨frame_refl _ _ h, nofun⟩
  | false => exact ⟨frame_fadd h w 0 0 CPH_CNT_TAG_FAIL_COUNT 1, fun _ => fget_fadd_same h w CPH_CNT_TAG_FAIL_COUNT 1 0 0 (by decide) (by decide)⟩

/-- A cipher operation that may count a failed tag: what it shows, and the count. -/
theorem tagCounted_end {h h' g k : Head} {w : Wing} {src : Source} {opcode : Nat} {t : Taken} {o : EngOp} {good : Bool}
    (x : Starts h w .cph src opcode t h') (hf : Frame [.freeCtr, .pwr, .eng] [(.cph, 0x05C)] h' g) (hops : g.eng.ops = h'.eng.ops)
    (hj : Joined (tagCounted g w good) k o) : k.eng.ops = h'.eng.ops ++ [o] ∧
      (good = false → fget k w CPH_CNT_TAG_FAIL_COUNT = min (fget h w CPH_CNT_TAG_FAIL_COUNT + 1) (2 ^ 32 - 1)) ∧ k.mem = h.mem ∧ k.keys = h.keys := by
  obtain ⟨hft, hcnt⟩ := tagCounted_shows g w good
  have hsame : fget g w CPH_CNT_TAG_FAIL_COUNT = fget h w CPH_CNT_TAG_FAIL_COUNT :=
    (hf.fget w CPH_CNT_TAG_FAIL_COUNT (by decide) (by decide) 0 0).trans
      ((offered_frame x.offered).fget w CPH_CNT_TAG_FAIL_COUNT (by decide) (by decide) 0 0)
  have hall := frame_cipherEnd x ((hf.mono (by decide) (by decide)).trans (hft.mono (by decide) (by decide))) hj
  refine ⟨?_, fun hg => ?_, hall.1 .mem (by decide), hall.1 .keys (by decide)⟩
  · rw [hj.ops, hft.1 .eng (by decide), ← hops]
  · rw [(frame_joined hj).fget w CPH_CNT_TAG_FAIL_COUNT (by decide) (by decide), hcnt hg, hsame]

/-- The operation of an opened message: its plaintext, where the tag verified. -/
def gcmOpenOp (o : EngOp) (id dst len k nonce ct : Nat) (good : Bool) : EngOp :=
  if good then { o with key := some id, bytes := len, place := [⟨dst, len, Config.gcmCrypt k nonce 0 len ct % 2 ^ (8 * len)⟩] }
  else { o with key := some id, status := .checkFail }

theorem gcmDec_opens (s : State) (w : Wing) (src : Source) (t : Taken) (h' : Head) (m aad id : Nat) (hrun : Runs s.dev) (x : Starts s.dev w .cph src 5 t h')
    (hl : cpLen t.d ≤ 16384) (h6 : dFlag t.d 6 = false) (ha : cpAuxLen t.d ≤ 65536) (hc : chainOf h' .cph w t.ring = none)
    (hk : checkKey h' .cph w t (cpKey t.d) 2 = .ok id) (hr : engineRead h' (cpSrc t.d) (cpLen t.d + 28) = .ok m)
    (hra : engineRead h' (cpAux t.d) (cpAuxLen t.d) = .ok aad) (hd : rangeAll (cpDst t.d) (cpLen t.d) (engineReach h') = true)
    (hu : unitsIn h' .cph w 0 ≠ []) :
    Completes (.gcmDec w src) s (fun h => ∃ o : EngOp,
      let k := gcmKey (keyValue h' id)
      let nonce := m % 2 ^ 96
      let ct := m >>> 96 % 2 ^ (8 * cpLen t.d)
      let good := decide (Config.gcmTag k nonce (Config.gcmHash k (Config.gcmHash k 0 (cpAuxLen t.d) aad) (cpLen t.d) ct)
        (cpAuxLen t.d) (cpLen t.d) % 2 ^ 128 = m >>> (96 + 8 * cpLen t.d))
      h.eng.ops = h'.eng.ops ++ [o] ∧ o.tag = dTag t.d ∧ o.status = (if good then .done else .checkFail) ∧
        o.place = (if good then [⟨cpDst t.d, cpLen t.d, Config.gcmCrypt k nonce 0 (cpLen t.d) ct % 2 ^ (8 * cpLen t.d)⟩] else []) ∧
        (good = false → fget h w CPH_CNT_TAG_FAIL_COUNT = min (fget s.dev w CPH_CNT_TAG_FAIL_COUNT + 1) (2 ^ 32 - 1)) ∧
        h.mem = s.dev.mem ∧ h.keys = s.dev.keys) := by
  obtain ⟨g, u, (ht : UnitTaken h' g .cph w u), hon⟩ := onUnit_takes s.dev h' (newOp .cph w t) hu
  have heq : cphGcmDec s.dev w src =
      let k := gcmKey (keyValue h' id)
      let ct := m >>> 96 % 2 ^ (8 * cpLen t.d)
      let good := decide (Config.gcmTag k (m % 2 ^ 96) (Config.gcmHash k (Config.gcmHash k 0 (cpAuxLen t.d) aad) (cpLen t.d) ct)
        (cpAuxLen t.d) (cpLen t.d) % 2 ^ 128 = m >>> (96 + 8 * cpLen t.d))
      pushOp (tagCounted (loadKey g w u id) w good) (gcmOpenOp { newOp .cph w t with unit := u } id (cpDst t.d) (cpLen t.d) k (m % 2 ^ 96) ct good) := by
    have hkey : keyValue (loadKey g w u id) id = keyValue h' id := keyValue_congr (frame_keyed ht id) (by decide) id
    refine (runDesc_starts x (by decide) _).trans ?_
    dsimp only
    rw [h6, if_neg (by simp [hl, ha]), noChain_none _ _ _ _ hc, withCipherKey_ok _ _ _ _ _ id _ hk, withRead_ok _ _ _ _ m _ hr,
      withRead_ok _ _ _ _ aad _ hra, withDst_ok _ _ _ _ _ hd, hon]
    dsimp only
    rw [hkey]
    unfold gcmOpenOp tagCounted
    simp only [decide_eq_true_eq]
    split <;> rfl
  have hf := frame_keyed ht id
  have hops := (ops_keyed ht id).1
  dsimp only at heq
  refine completes_of_eq (exec_gcmDec w src) hrun heq ?_
  dsimp only
  generalize loadKey g w u id = a at *
  generalize decide (Config.gcmTag (gcmKey (keyValue h' id)) (m % 2 ^ 96) (Config.gcmHash (gcmKey (keyValue h' id)) (Config.gcmHash (gcmKey (keyValue h' id)) 0
    (cpAuxLen t.d) aad) (cpLen t.d) (m >>> 96 % 2 ^ (8 * cpLen t.d))) (cpAuxLen t.d) (cpLen t.d) % 2 ^ 128 = m >>> (96 + 8 * cpLen t.d)) = good
  have hj := joined_pushOp (tagCounted a w good) (gcmOpenOp { newOp .cph w t with unit := u } id (cpDst t.d) (cpLen t.d) (gcmKey (keyValue h' id)) (m % 2 ^ 96)
    (m >>> 96 % 2 ^ (8 * cpLen t.d)) good) (by cases good <;> nofun)
  obtain ⟨h1, h2, h3, h4⟩ := tagCounted_end x hf hops hj
  refine ⟨_, h1, ?_, ?_, ?_, h2, h3, h4⟩
  all_goals cases good <;> rfl

/-! ### CMAC -/

/-- A whole message with no chain under way gives its MAC on an ACTIVE tile. -/
theorem cmacMessage_whole (h0 h : Head) (w : Wing) (t : Taken) (fin : Head → EngOp → Nat → Head) (data id : Nat)
    (hk : checkKey h .cph w t (cpKey t.d) 3 = .ok id) (hc : chainOf h .cph w t.ring = none) (h6 : dFlag t.d 6 = false)
    (hr : engineRead h (cpSrc t.d) (cpLen t.d) = .ok data) (hu : unitsIn h .cph w 0 ≠ []) :
    ∃ g u, UnitTaken h g .cph w u ∧ cmacMessage h0 h w t (newOp .cph w t) fin =
      fin (setChain (loadKey g w u id) .cph w t.ring none) { newOp .cph w t with unit := u, key := some id }
        (Config.cmacFinish (keyValue h id) 0 (cpLen t.d) data % 2 ^ 128) := by
  obtain ⟨g, u, (ht : UnitTaken h g .cph w u), hon⟩ := onUnit_takes h0 h (newOp .cph w t) hu
  have hkey : keyValue (loadKey g w u id) id = keyValue h id := keyValue_congr (frame_keyed ht id) (by decide) id
  refine ⟨g, u, ht, ?_⟩
  unfold cmacMessage
  rw [withCipherKey_ok _ _ _ _ _ id _ hk, meetChain_none _ _ _ _ _ _ hc]
  dsimp only
  rw [h6, if_neg (by simp), withRead_ok _ _ _ _ data _ hr, hon, if_neg (by decide), hkey]
  rfl

theorem cphCmac_gives (s : State) (w : Wing) (src : Source) (t : Taken) (h' : Head) (data id : Nat) (hrun : Runs s.dev) (x : Starts s.dev w .cph src 6 t h')
    (hk : checkKey h' .cph w t (cpKey t.d) 3 = .ok id) (hc : chainOf h' .cph w t.ring = none) (h6 : dFlag t.d 6 = false) (h5 : dFlag t.d 5 = false)
    (hr : engineRead h' (cpSrc t.d) (cpLen t.d) = .ok data) (hu : unitsIn h' .cph w 0 ≠ []) :
    Completes (.cphCmac w src) s (fun h => ∃ (g : Head) (u : Nat), UnitTaken h' g .cph w u ∧
      Joined (setChain (loadKey g w u id) .cph w t.ring none) h { newOp .cph w t with
        unit := u, key := some id
        word := Config.cmacFinish (keyValue h' id) 0 (cpLen t.d) data % 2 ^ 128 % 2 ^ 64 }) := by
  obtain ⟨g, u, ht, hm⟩ := cmacMessage_whole s.dev h' w t (fun h o mac => if dFlag t.d 5 then
      withDst h o (cpDst t.d) 16 (pushOp h { o with bytes := 16, word := mac % 2 ^ 64, place := [⟨cpDst t.d, 16, mac⟩] })
    else pushOp h { o with word := mac % 2 ^ 64 }) data id hk hc h6 hr hu
  have heq : cphCmac s.dev w src = _ := (runDesc_starts x (by decide) _).trans hm
  rw [h5, if_neg (by decide)] at heq
  exact completes_of_eq (exec_cphCmac w src) hrun heq ⟨g, u, ht, joined_pushOp _ _ nofun⟩

/-- The operation of a compared MAC. -/
def cmacCompareOp (o : EngOp) (id : Nat) (same : Bool) : EngOp :=
  { o with key := some id, status := if same then .done else .checkFail, extra := if same then 1 else 2 }

theorem cmacVerify_compares (s : State) (w : Wing) (src : Source) (t : Taken) (h' : Head) (data exp id n : Nat) (hrun : Runs s.dev)
    (x : Starts s.dev w .cph src 7 t h') (hk : checkKey h' .cph w t (cpKey t.d) 3 = .ok id) (hc : chainOf h' .cph w t.ring = none)
    (h6 : dFlag t.d 6 = false) (hn : n = (if dFlag t.d 5 then 16 else 8)) (he : engineRead h' (cpAux t.d) n = .ok exp)
    (hr : engineRead h' (cpSrc t.d) (cpLen t.d) = .ok data) (hu : unitsIn h' .cph w 0 ≠ []) :
    Completes (.cmacVerify w src none) s (fun h => ∃ o : EngOp,
      let same := decide (Config.cmacFinish (keyValue h' id) 0 (cpLen t.d) data % 2 ^ 128 % 2 ^ (8 * n) = exp)
      h.eng.ops = h'.eng.ops ++ [o] ∧ o.tag = dTag t.d ∧ o.status = (if same then .done else .checkFail) ∧
        o.extra = (if same then 1 else 2) ∧ o.place = [] ∧
        (same = false → fget h w CPH_CNT_TAG_FAIL_COUNT = min (fget s.dev w CPH_CNT_TAG_FAIL_COUNT + 1) (2 ^ 32 - 1)) ∧
        h.mem = s.dev.mem ∧ h.keys = s.dev.keys) := by
  subst hn
  obtain ⟨g, u, ht, hm⟩ := cmacMessage_whole s.dev h' w t (fun h o mac => withRead h o (cpAux t.d) (if dFlag t.d 5 then 16 else 8) (fun exp =>
      let same := mac % 2 ^ (8 * if dFlag t.d 5 then 16 else 8) == exp
      compareResult (if same then h else fadd h w CPH_CNT_TAG_FAIL_COUNT) o same none Ev.CPH_COMPARE_FAULT)) data id hk hc h6 hr hu
  have hf : Frame [.freeCtr, .pwr, .eng] [(.cph, 0x05C)] h' (setChain (loadKey g w u id) .cph w t.ring none) :=
    (frame_keyed ht id).trans ((frame_setChain _ .cph w t.ring none).mono (by decide) (by decide))
  have hops : (setChain (loadKey g w u id) .cph w t.ring none).eng.ops = h'.eng.ops := (ops_keyed ht id).1
  have heq : cphCmacVerify s.dev w src none = _ := (runDesc_starts x (by decide) _).trans hm
  dsimp only at heq
  generalize (if dFlag t.d 5 then 16 else 8) = n at *
  generalize Config.cmacFinish (keyValue h' id) 0 (cpLen t.d) data % 2 ^ 128 = mac at *
  generalize setChain (loadKey g w u id) .cph w t.ring none = a at *
  rw [withRead_ok _ _ _ _ exp _ (by rw [engineRead_congr hf (by decide) (by decide) (by decide)]; exact he), compareResult_sound] at heq
  have hd : decide (mac % 2 ^ (8 * n) = exp) = (mac % 2 ^ (8 * n) == exp) := rfl
  change cphCmacVerify s.dev w src none = pushOp (tagCounted a w (mac % 2 ^ (8 * n) == exp))
    (cmacCompareOp { newOp .cph w t with unit := u } id (mac % 2 ^ (8 * n) == exp)) at heq
  refine completes_of_eq (exec_cmacVerify w src none) hrun heq ?_
  dsimp only
  rw [hd]
  generalize (mac % 2 ^ (8 * n) == exp) = same at *
  have hj := joined_pushOp (tagCounted a w same) (cmacCompareOp { newOp .cph w t with unit := u } id same) nofun
  generalize pushOp (tagCounted a w same) (cmacCompareOp { newOp .cph w t with unit := u } id same) = k at *
  obtain ⟨h1, h2, h3, h4⟩ := tagCounted_end x hf hops hj
  exact ⟨_, h1, rfl, rfl, rfl, rfl, h2, h3, h4⟩

/-! ### Chains saved and restored -/

/-- A keyed record is written wrapped under the wing's context-wrap key. -/
theorem saveRecord_keyed (h : Head) (t : Taken) (o : EngOp) (addr n rec : Nat) (hf : dCflag t.d 15 = false) (hk : keyState h (ctxWrapSlot o.wing) = 2)
    (hd : rangeAll addr (n + 8) (engineReach h) = true) :
    saveRecord h t o addr n rec true = pushOp h { o with
      bytes := n + 8, chained := true, key := some (ctxWrapSlot o.wing)
      place := [⟨addr, n + 8, Config.keyWrap (keyValue h (ctxWrapSlot o.wing)) n rec⟩] } := by
  unfold saveRecord
  rw [hf, if_neg (by decide), Bool.not_true, if_neg (by decide), if_neg (not_not.mpr hk), withDst_ok h o addr (n + 8) _ hd]

theorem ctxSave_saves (s : State) (w : Wing) (src : Source) (t : Taken) (h' : Head) (c : Chain) (hrun : Runs s.dev) (x : Starts s.dev w .cph src 8 t h')
    (hc : chainOf h' .cph w t.ring = some c) (hb : c.broken = false) (hcoll : c.coll = dColl t.d) (hf : dCflag t.d 15 = false)
    (hk : keyState h' (ctxWrapSlot w) = 2) (hd : rangeAll (cpAux t.d) 88 (engineReach h') = true) :
    Completes (.ctxSave w src) s (fun h =>
      Joined (setChain h' .cph w t.ring none) h { newOp .cph w t with
        unit := c.unit, key := some (ctxWrapSlot w), bytes := 88, chained := true
        place := [⟨cpAux t.d, 88, Config.keyWrap (keyValue h' (ctxWrapSlot w)) 80 (ctxRecord c)⟩] }) := by
  have hreach : engineReach (setChain h' .cph w t.ring none) = engineReach h' := engineReach_congr (frame_setChain ..) List.not_mem_nil
  have heq : cphCtxSave s.dev w src = saveRecord (setChain h' .cph w t.ring none) t { newOp .cph w t with unit := c.unit, key := c.key } (cpAux t.d) 80
      (ctxRecord c) true := by
    refine (runDesc_starts x (by decide) _).trans ?_
    dsimp only
    rw [hc]
    dsimp only
    rw [hb, if_neg (by decide), if_neg (show ¬ c.coll ≠ (newOp .cph w t).coll from not_not.mpr hcoll)]
  have hset := frame_setChain h' .cph w t.ring none
  have hk' : keyState (setChain h' .cph w t.ring none) (ctxWrapSlot w) = 2 := (hset.fget .east KEY_SLOT_ATTR_STATE (by decide) (by decide) _ _).trans hk
  have hd' : rangeAll (cpAux t.d) (80 + 8) (engineReach (setChain h' .cph w t.ring none)) = true := by rw [hreach]; exact hd
  have hval : keyValue (setChain h' .cph w t.ring none) (ctxWrapSlot w) = keyValue h' (ctxWrapSlot w) := keyValue_congr hset (by decide) _
  generalize setChain h' .cph w t.ring none = g at *
  rw [saveRecord_keyed g t { newOp .cph w t with unit := c.unit, key := c.key } _ _ _ hf hk' hd'] at heq
  refine completes_of_eq (exec_ctxSave w src) hrun heq ?_
  dsimp only
  rw [← hval]
  exact joined_pushOp g _ nofun

/-- The chain of a cipher record. -/
def cipherChain (w : Wing) (t : Taken) (rec : Nat) (o : EngOp) (key : Option Nat) : Chain :=
  ⟨.cph, w, t.ring, o.unit, rec % 256, o.coll, key, rec >>> 48 % 65536, rec >>> 64 % 2 ^ 64, rec >>> 128 % 2 ^ 64, rec >>> 320 % 2 ^ 128,
    rec >>> 192 % 2 ^ 128, rec >>> 128 % 2 ^ 64, false⟩

/-- A cipher record loaded. -/
def cipherLoaded (h0 h : Head) (w : Wing) (t : Taken) (rec : Nat) : Head :=
  loadRecord h0 h t (newOp .cph w t) (rec >>> 16 % 4096) (rec >>> 32 % 65536) (rec >>> 48 % 65536) (some (if rec % 256 = gcmMode then 2 else 3)) (cpKey t.d)
    (cipherChain w t rec)

/-- What a record's checks come to, and the chain that is under way where they pass. -/
theorem cipherLoaded_shows (h0 h : Head) (w : Wing) (t : Taken) (r : Nat) (hc : chainOf h .cph w t.ring = none) (hu : unitsIn h .cph w 0 ≠ []) :
    if r >>> 16 % 4096 ≠ dColl t.d ∨ r >>> 32 % 65536 ≠ cpKey t.d then
      Joined h (cipherLoaded h0 h w t r) { newOp .cph w t with status := .collMismatch }
    else match checkKey h .cph w t (cpKey t.d) (if r % 256 = gcmMode then 2 else 3) with
    | .error (st, g) => Joined g (cipherLoaded h0 h w t r) { newOp .cph w t with status := st }
    | .ok id => if keyGen h id % 65536 ≠ r >>> 48 % 65536 then Joined h (cipherLoaded h0 h w t r) { newOp .cph w t with status := .keyInvalid }
      else ∃ c : Chain, chainOf (cipherLoaded h0 h w t r) .cph w t.ring = some c ∧ c.coll = dColl t.d ∧ c.key = some id ∧ c.mode = r % 256 ∧
        c.count = r >>> 64 % 2 ^ 64 ∧ c.value = r >>> 320 % 2 ^ 128 ∧ c.nonce = r >>> 192 % 2 ^ 128 := by
  have heq : cipherLoaded h0 h w t r = if r >>> 16 % 4096 ≠ dColl t.d then failOp h (newOp .cph w t) .collMismatch
      else if r >>> 32 % 65536 ≠ cpKey t.d then failOp h (newOp .cph w t) .collMismatch
      else match checkKey h .cph w t (cpKey t.d) (if r % 256 = gcmMode then 2 else 3) with
        | .error (st, h) => failOp h (newOp .cph w t) st
        | .ok id => if keyGen h id % 65536 = r >>> 48 % 65536 then chainLoaded h0 h t (newOp .cph w t) (cipherChain w t r) (some id)
          else failOp h (newOp .cph w t) .keyInvalid := loadRecord_eq ..
  generalize cipherLoaded h0 h w t r = k at *
  by_cases hcoll : r >>> 16 % 4096 = dColl t.d
  · rw [if_neg (not_not.mpr hcoll)] at heq
    by_cases hslot : r >>> 32 % 65536 = cpKey t.d
    · rw [if_neg (not_not.mpr hslot)] at heq
      rw [if_neg (show ¬ (_ ∨ _) from not_or.mpr ⟨not_not.mpr hcoll, not_not.mpr hslot⟩)]
      cases hk : checkKey h .cph w t (cpKey t.d) (if r % 256 = gcmMode then 2 else 3) with
      | error e =>
        obtain ⟨st, g⟩ := e
        rw [hk] at heq
        have hcg : chainOf g .cph w t.ring = none := by
          unfold chainOf
          rw [(frame_checkKey hk).1 .eng (by decide)]
          exact hc
        rw [heq]
        exact joined_failOp g .cph w t st hcg nofun
      | ok id =>
        rw [hk] at heq
        dsimp only at heq ⊢
        by_cases hgen : keyGen h id % 65536 = r >>> 48 % 65536
        · rw [if_pos hgen] at heq
          rw [if_neg (not_not.mpr hgen), heq]
          obtain ⟨u, -, hch⟩ := chainLoaded_loads h0 h t (newOp .cph w t) (cipherChain w t r) (some id) hu nofun
          exact ⟨cipherChain w t r { newOp .cph w t with unit := u } (some id), hch (by simp [sameChain, cipherChain, newOp]), rfl, rfl, rfl, rfl, rfl, rfl⟩
        · rw [if_neg hgen] at heq
          rw [if_pos hgen, heq]
          exact joined_failOp h .cph w t .keyInvalid hc nofun
    · rw [if_pos hslot] at heq
      rw [if_pos (.inr hslot), heq]
      exact joined_failOp h .cph w t .collMismatch hc nofun
  · rw [if_pos hcoll] at heq
    rw [if_pos (.inl hcoll), heq]
    exact joined_failOp h .cph w t .collMismatch hc nofun

theorem ctxRestore_restores (s : State) (w : Wing) (src : Source) (t : Taken) (h' : Head) (rec : Nat) (hrun : Runs s.dev) (x : Starts s.dev w .cph src 9 t h')
    (hf : dCflag t.d 15 = false) (hp : privateOk t = true) (hc : chainOf h' .cph w t.ring = none) (hr : engineRead h' (cpAux t.d) 88 = .ok rec)
    (hk : keyState h' (ctxWrapSlot w) = 2) (hu : unitsIn h' .cph w 0 ≠ []) :
    Completes (.ctxRestore w src) s (fun h => h.mem = s.dev.mem ∧ h.keys = s.dev.keys ∧
      match Config.keyUnwrap (keyValue h' (ctxWrapSlot w)) 88 rec with
      | some r =>
        if r >>> 16 % 4096 ≠ dColl t.d ∨ r >>> 32 % 65536 ≠ cpKey t.d then Joined h' h { newOp .cph w t with status := .collMismatch }
        else match checkKey h' .cph w t (cpKey t.d) (if r % 256 = gcmMode then 2 else 3) with
        | .error (st, g) => Joined g h { newOp .cph w t with status := st }
        | .ok id => if keyGen h' id % 65536 ≠ r >>> 48 % 65536 then Joined h' h { newOp .cph w t with status := .keyInvalid }
        else ∃ c : Chain, chainOf h .cph w t.ring = some c ∧ c.coll = dColl t.d ∧ c.key = some id ∧ c.mode = r % 256 ∧
          c.count = r >>> 64 % 2 ^ 64 ∧ c.value = r >>> 320 % 2 ^ 128 ∧ c.nonce = r >>> 192 % 2 ^ 128
      | none => Joined h' h { newOp .cph w t with status := .checkFail }) := by
  have heq : cphCtxRestore s.dev w src = match Config.keyUnwrap (keyValue h' (ctxWrapSlot w)) 88 rec with
      | some r => cipherLoaded s.dev h' w t r
      | none => failOp h' (newOp .cph w t) .checkFail := by
    refine (runDesc_starts x (by decide) _).trans ?_
    dsimp only
    rw [hf, hp, if_neg (by decide), if_neg (by decide), if_neg (not_not.mpr hk), noChain_none _ _ _ _ hc, withRead_ok _ _ _ _ rec _ hr]
    rfl
  have hs := offered_frame x.offered
  cases hun : Config.keyUnwrap (keyValue h' (ctxWrapSlot w)) 88 rec with
  | some r =>
    rw [hun] at heq
    obtain ⟨hm, hkeys⟩ := loadRecord_keeps s.dev h' t (newOp .cph w t) (r >>> 16 % 4096) (r >>> 32 % 65536) (r >>> 48 % 65536)
      (some (if r % 256 = gcmMode then 2 else 3)) (cpKey t.d) (cipherChain w t r) hu nofun
    exact completes_of_eq (exec_ctxRestore w src) hrun heq ⟨hm.trans (hs.1 .mem List.not_mem_nil), hkeys.trans (hs.1 .keys List.not_mem_nil),
      cipherLoaded_shows s.dev h' w t r hc hu⟩
  | none =>
    rw [hun] at heq
    have hfr := frame_failOp h' (newOp .cph w t) .checkFail
    exact completes_of_eq (exec_ctxRestore w src) hrun heq ⟨(hfr.1 .mem (by decide)).trans (hs.1 .mem List.not_mem_nil),
      (hfr.1 .keys (by decide)).trans (hs.1 .keys List.not_mem_nil), joined_failOp h' .cph w t .checkFail hc nofun⟩

/-! ### Keys wrapped in Docent SRAM -/

/-- Docent SRAM with a wrapped or unwrapped value, where there is one. -/
def sramPlaced (h : Head) (dst n : Nat) (r : Option Nat) : Head :=
  match r with
  | some x => { h with sram := memPut h.sram dst n x }
  | none => h

theorem sramPlaced_shows (h : Head) (dst n : Nat) (r : Option Nat) : Frame [.sram] [] h (sramPlaced h dst n r) ∧
    (sramPlaced h dst n r).sram = (match r with | some x => memPut h.sram dst n x | none => h.sram) := by
  cases r with
  | some x => exact ⟨(frame_mk h (by simp)).2 (frame_refl _ _ h), rfl⟩
  | none => exact ⟨frame_refl _ _ h, rfl⟩

/-- The operation that wraps or unwraps, and what it comes to. -/
def keyWrapOp (o : EngOp) (id n : Nat) (r : Option Nat) : EngOp :=
  match r with
  | some _ => { o with key := some id, bytes := n }
  | none => { o with key := some id, status := .checkFail }

theorem exec_keyWraps (w : Wing) (src : Source) (wrap : Bool) :
    exec (if wrap then .keyWrap w src else .keyUnwrap w src) = lift (fun h => cphKeyWrap h w src wrap) := by
  cases wrap
  · exact exec_keyUnwrap w src
  · exact exec_keyWrap w src

theorem keyWrap_wraps (s : State) (w : Wing) (src : Source) (t : Taken) (h' : Head) (id : Nat) (wrap : Bool) (hrun : Runs s.dev)
    (x : Starts s.dev w .cph src (if wrap then 10 else 11) t h') (hdoc : t.docent = true) (hc : chainOf h' .cph w t.ring = none)
    (hsrc : inSram (cpSrc t.d) (cpLen t.d) = true) (hdst : inSram (cpDst t.d) (if wrap then cpLen t.d + 8 else cpLen t.d - 8) = true)
    (hk : checkKey h' .cph w t (cpKey t.d) 5 = .ok id) (hu : unitsIn h' .cph w 0 ≠ []) :
    Completes (if wrap then .keyWrap w src else .keyUnwrap w src) s (fun h =>
      let v := memNum h'.sram (cpSrc t.d) (cpLen t.d)
      let r := if wrap then some (Config.keyWrap (keyValue h' id) (cpLen t.d) v) else Config.keyUnwrap (keyValue h' id) (cpLen t.d) v
      h.sram = (match r with
        | some x => memPut s.dev.sram (cpDst t.d) (if wrap then cpLen t.d + 8 else cpLen t.d - 8) x
        | none => s.dev.sram) ∧ h.mem = s.dev.mem ∧ h.keys = s.dev.keys ∧
        ∃ o, h.eng.ops = h'.eng.ops ++ [o] ∧ o.tag = dTag t.d ∧ o.status = (if r.isSome then .done else .checkFail) ∧ o.place = []) := by
  obtain ⟨g, u, (ht : UnitTaken h' g .cph w u), hon⟩ := onUnit_takes s.dev h' (newOp .cph w t) hu
  have hf := frame_keyed ht id
  have hops := (ops_keyed ht id).1
  have heq : cphKeyWrap s.dev w src wrap =
      let v := memNum h'.sram (cpSrc t.d) (cpLen t.d)
      let r := if wrap then some (Config.keyWrap (keyValue h' id) (cpLen t.d) v) else Config.keyUnwrap (keyValue h' id) (cpLen t.d) v
      pushOp (sramPlaced (loadKey g w u id) (cpDst t.d) (if wrap then cpLen t.d + 8 else cpLen t.d - 8) r)
        (keyWrapOp { newOp .cph w t with unit := u } id (if wrap then cpLen t.d + 8 else cpLen t.d - 8) r) := by
    refine (runDesc_starts x (by cases wrap <;> decide) _).trans ?_
    dsimp only
    rw [hdoc, hsrc, hdst, if_neg (by decide), noChain_none _ _ _ _ hc, withCipherKey_ok _ _ _ _ _ id _ hk, hon]
    dsimp only
    rw [keyValue_congr hf (by decide), hf.1 .sram (by decide)]
    unfold sramPlaced keyWrapOp
    generalize (if wrap then some (Config.keyWrap (keyValue h' id) (cpLen t.d) (memNum h'.sram (cpSrc t.d) (cpLen t.d)))
      else Config.keyUnwrap (keyValue h' id) (cpLen t.d) (memNum h'.sram (cpSrc t.d) (cpLen t.d))) = r
    cases r <;> rw [← hf.1 .sram (by decide)]
  refine completes_of_eq (exec_keyWraps w src wrap) hrun heq ?_
  dsimp only
  generalize (if wrap then some (Config.keyWrap (keyValue h' id) (cpLen t.d) (memNum h'.sram (cpSrc t.d) (cpLen t.d)))
    else Config.keyUnwrap (keyValue h' id) (cpLen t.d) (memNum h'.sram (cpSrc t.d) (cpLen t.d))) = r
  generalize (if wrap then cpLen t.d + 8 else cpLen t.d - 8) = n
  generalize loadKey g w u id = a at *
  obtain ⟨hp, hsram⟩ := sramPlaced_shows a (cpDst t.d) n r
  have hj := joined_pushOp (sramPlaced a (cpDst t.d) n r) (keyWrapOp { newOp .cph w t with unit := u } id n r) (by cases r <;> nofun)
  have hs := (offered_frame x.offered)
  have hsr : a.sram = s.dev.sram := (hf.1 .sram (by decide)).trans (hs.1 .sram List.not_mem_nil)
  generalize sramPlaced a (cpDst t.d) n r = b at *
  have hfj := frame_joined hj
  refine ⟨?_, (hfj.1 .mem (by decide)).trans ((hp.1 .mem (by decide)).trans ((hf.1 .mem (by decide)).trans (hs.1 .mem List.not_mem_nil))),
    (hfj.1 .keys (by decide)).trans ((hp.1 .keys (by decide)).trans ((hf.1 .keys (by decide)).trans (hs.1 .keys List.not_mem_nil))),
    keyWrapOp { newOp .cph w t with unit := u } id n r, ?_, ?_, ?_, ?_⟩
  · rw [hfj.1 .sram (by decide), hsram, hsr]
  · rw [hj.ops, hp.1 .eng (by decide), ← hops]
  all_goals cases r <;> rfl

/-! ### The obligation -/

/-- Settles O39, a lemma for each operation: `cipherMove_moves` for XTS, `gcmEnc_eq` for a sealed message, `cmacMessage_whole` for a MAC,
`cipherLoaded_shows` for a record. -/
theorem cipherTilesCompute : Obligations.CipherTilesCompute := by
  unfold Obligations.CipherTilesCompute
  exact ⟨xts_moves, xtsRecrypt_moves, gcmEnc_seals, gcmDec_opens, cphCmac_gives, cmacVerify_compares, ctxSave_saves, ctxRestore_restores, keyWrap_wraps⟩

end Sys2Proof.Laws
end

section
/-! A pair watches its peer (R156, R158, R168 to R173): heartbeats, leases, and how a head goes on without its peer. -/

namespace Sys2Proof.Laws

open Machine Machine.Reg

/-! ### The pair state -/

theorem frame_setPair (h : Head) (n : Nat) : Frame [] [(.anx, 0x050)] h (setPair h n) := frame_fset h .east 0 0 ANX_PAIR_STATE_STATE n

theorem pairState_setPair (h : Head) (n : Nat) (hn : n < 8) : pairState (setPair h n) = n :=
  bget_bput_same_of_lt _ _ _ _ _ _ _ _ _ (by decide) (by decide) hn

theorem pairEpoch_setPair (h : Head) (n : Nat) : fget (setPair h n) .east ANX_PAIR_STATE_EPOCH = fget h .east ANX_PAIR_STATE_EPOCH := by
  simp only [setPair, fget_eq_bget, fset_regs]
  simp (disch := first | decide | rfl) [ANX_PAIR_STATE_STATE, ANX_PAIR_STATE_EPOCH]

theorem Frame.pairState {l : List Part} {t : List (Block × Nat)} {h g : Head} (x : Frame l t h g) (ht : (.anx, 0x050) ∉ t) :
    Machine.pairState g = Machine.pairState h := x.fget .east ANX_PAIR_STATE_STATE ht (by decide) 0 0

/-! ### Heartbeats -/

/-- The heartbeat is no longer lost. -/
def heartbeatHeard (h : Head) : Head := { h with vit := { h.vit with hbLost := false } }

theorem heartbeat_regains (s : State) (state epoch : Nat) (prefer : Bool) (hrun : Runs s.dev) (h4 : pairState s.dev = 4) (h7 : state ≠ 7)
    (hfrom : s.dev.vit.suspectFrom = 2 ∨ s.dev.vit.suspectFrom = 3) :
    Completes (.heartbeat state prefer epoch) s (fun h =>
      pairState h = s.dev.vit.suspectFrom ∧ h.vit = { s.dev.vit with hbLost := false } ∧ RegsBut s.dev h [(.anx, 0x050)] ∧
        fget h .east ANX_PAIR_STATE_EPOCH = fget s.dev .east ANX_PAIR_STATE_EPOCH ∧ h.out = s.dev.out) := by
  have heq : heartbeatMsg s.dev state prefer epoch = setPair (heartbeatHeard s.dev) s.dev.vit.suspectFrom := by
    unfold heartbeatMsg
    rw [if_neg (by omega), if_neg h7]
    show (match pairState s.dev with | 1 => _ | 4 | 6 => _ | _ => _) = _
    rw [h4]
    rfl
  have hf := frame_setPair (heartbeatHeard s.dev) s.dev.vit.suspectFrom
  exact completes_of_eq (exec_heartbeat state prefer epoch) hrun heq ⟨pairState_setPair _ _ (by omega), hf.1 .vit (by decide), hf.2,
    pairEpoch_setPair _ _, hf.1 .out (by decide)⟩

theorem heartbeat_joins (s : State) (state epoch : Nat) (prefer : Bool) (hrun : Runs s.dev) (h1 : pairState s.dev = 1) (h7 : state ≠ 7)
    (hp : prefer ≠ fbit s.dev .east ANX_PAIR_PREFER) (hj : s.dev.vit.joined = true) (h3 : state = 3) :
    Completes (.heartbeat state prefer epoch) s (fun h =>
      pairState h = 3 ∧ EventSet h .east Ev.ANX_PEER_JOINED ∧ RegsBut s.dev h [(.anx, 0x010), (.anx, 0x050)]) := by
  have heq : heartbeatMsg s.dev state prefer epoch = raise (setPair (heartbeatHeard s.dev) 3) .east Ev.ANX_PEER_JOINED := by
    unfold heartbeatMsg
    rw [if_neg (by omega), if_neg h7]
    show (match pairState s.dev with | 1 => _ | 4 | 6 => _ | _ => _) = _
    rw [h1]
    show joinHeartbeat (heartbeatHeard s.dev) state prefer epoch = _
    unfold joinHeartbeat
    rw [if_neg (by omega), if_neg (show ¬ prefer = fbit (heartbeatHeard s.dev) .east ANX_PAIR_PREFER from hp),
      show (heartbeatHeard s.dev).vit.joined = true from hj, if_neg (by decide), if_pos h3]
  have hf : Frame [.evq] [(.anx, 0x010), (.anx, 0x050)] (heartbeatHeard s.dev) (raise (setPair (heartbeatHeard s.dev) 3) .east Ev.ANX_PEER_JOINED) :=
    ((frame_setPair _ _).mono (by decide) (by decide)).trans ((frame_raise _ .east 0 Ev.ANX_PEER_JOINED).mono (by decide) (by decide))
  exact completes_of_eq (exec_heartbeat state prefer epoch) hrun heq
    ⟨((frame_raise _ .east 0 Ev.ANX_PEER_JOINED).pairState (by decide)).trans (pairState_setPair _ _ (by decide)), raiseAt_sets _ _ _ (by decide), hf.2⟩

theorem frame_takeMtag (h : Head) (w : Wing) : Frame [.vit] [] h (takeMtag h w).2 := by
  cases w <;> exact (frame_mk h (by simp)).2 (frame_refl _ _ h)

theorem heartbeatSend_sends (s : State) (hrun : Runs s.dev) (hd : inDump s.dev = false) (he : anxUp s.dev .east = true) (hw : anxUp s.dev .west = false) :
    Completes .heartbeatSend s (fun h =>
      AnxSent s.dev h .east s.dev.vit.mtagE 0 (heartbeatBody s.dev (pairState s.dev)) ∧ RegsBut s.dev h [] ∧
        h.cat = s.dev.cat ∧ h.vit.slots = s.dev.vit.slots) := by
  have hstep := anxStep_anxPut (takeMtag s.dev .east).2 .east s.dev.vit.mtagE 0 (heartbeatBody s.dev (pairState s.dev))
  have hsent := anxSent_anxPut (takeMtag s.dev .east).2 .east s.dev.vit.mtagE 0 (heartbeatBody s.dev (pairState s.dev))
  have heq : heartbeatSend s.dev = anxPut (takeMtag s.dev .east).2 .east s.dev.vit.mtagE 0 (heartbeatBody s.dev (pairState s.dev)) := by
    have hwest : anxUp (anxPut (takeMtag s.dev .east).2 .east s.dev.vit.mtagE 0 (heartbeatBody s.dev (pairState s.dev))) .west = false :=
      (hstep.frame.fbit .west ANX_LINK_STATUS_UP (by decide) (by decide) 0 0).trans hw
    unfold heartbeatSend
    rw [hd, if_neg (by decide)]
    unfold sendHeartbeat foldHead wings
    rw [List.foldl_cons, List.foldl_cons, List.foldl_nil, he, if_pos rfl]
    show (if anxUp (anxPut (takeMtag s.dev .east).2 .east s.dev.vit.mtagE 0 (heartbeatBody s.dev (pairState s.dev))) .west = true then _ else _) = _
    rw [hwest, if_neg (by decide)]
    rfl
  exact completes_of_eq exec_heartbeatSend hrun heq ⟨hsent, hstep.frame.2, hstep.frame.1 .cat (by decide), hstep.slots⟩

/-- The heartbeat is lost, in the state it was lost from. -/
def heartbeatLost (h : Head) : Head := { h with vit := { h.vit with hbLost := true, suspectFrom := pairState h, peerExpired := [] } }

/-- With no lease known to have expired no takeover starts. -/
theorem checkTakeover_idle (h : Head) (hp : h.vit.peerExpired = []) : checkTakeover h = h := by
  have hq : quorum h h.vit.peerExpired = false := by
    rw [hp]
    exact Bool.and_false _
  unfold checkTakeover
  rw [hq]
  simp

theorem heartbeatLoss_suspects (s : State) (hrun : Runs s.dev) (hs : pairState s.dev = 2 ∨ pairState s.dev = 3) :
    Completes .heartbeatLoss s (fun h =>
      pairState h = 4 ∧ EventSet h .east Ev.ANX_HB_LOST ∧
        h.vit = { s.dev.vit with hbLost := true, suspectFrom := pairState s.dev, peerExpired := [] } ∧
        RegsBut s.dev h [(.anx, 0x010), (.anx, 0x050)] ∧ h.out = s.dev.out) := by
  have hf : Frame [.evq] [(.anx, 0x010), (.anx, 0x050)] (heartbeatLost s.dev) (raise (setPair (heartbeatLost s.dev) 4) .east Ev.ANX_HB_LOST) :=
    ((frame_setPair _ _).mono (by decide) (by decide)).trans ((frame_raise _ .east 0 Ev.ANX_HB_LOST).mono (by decide) (by decide))
  have hvit := hf.1 .vit (by decide)
  have heq : heartbeatLoss s.dev = raise (setPair (heartbeatLost s.dev) 4) .east Ev.ANX_HB_LOST := by
    unfold heartbeatLoss
    rw [if_pos hs]
    exact checkTakeover_idle _ (congrArg VitState.peerExpired hvit)
  exact completes_of_eq exec_heartbeatLoss hrun heq
    ⟨((frame_raise _ .east 0 Ev.ANX_HB_LOST).pairState (by decide)).trans (pairState_setPair _ _ (by decide)), raiseAt_sets _ _ _ (by decide), hvit, hf.2,
      hf.1 .out (by decide)⟩

/-! ### Leases -/

theorem leaseRenew_renews (s : State) (hrun : Runs s.dev) (hn : s.dev.vit.noRenew = false) (h7 : pairState s.dev ≠ 7)
    (ho : ∀ o ∈ s.dev.plk.ops, o.purpose ≠ .renew ∧ o.purpose ≠ .poll) :
    Completes .leaseRenew s (fun h => h = foldHead s.dev (upPlinths s.dev) (fun h n => plkMgmt h n { emptyCmd 0x08 true with
      epoch := fget s.dev .east ANX_PAIR_STATE_EPOCH
      arg := fget s.dev .east ANX_LEASE_LEASE_US } .renew)) := by
  have hlate : s.dev.plk.ops.any (fun o => o.purpose == .renew || o.purpose == .poll) = false := by
    refine List.any_eq_false.mpr fun o hm => ?_
    obtain ⟨h1, h2⟩ := ho o hm
    simp [h1, h2]
  refine completes_of_eq exec_leaseRenew hrun (h := leaseRenew s.dev) rfl ?_
  unfold leaseRenew
  rw [hn, if_neg (by simp [h7])]
  dsimp only
  rw [hlate, if_neg (by decide)]

theorem witnessPoll_polls (s : State) (hrun : Runs s.dev) (h4 : pairState s.dev = 4) :
    Completes .witnessPoll s (fun h =>
      h = checkTakeover (foldHead s.dev (upPlinths s.dev) (fun h n => plkMgmt h n (emptyCmd 0x09 true) .poll))) :=
  completes_of_eq exec_witnessPoll hrun (if_pos (.inl h4)) rfl

/-! ### A head that stops -/

/-- What the answers of waiting commands leave: each in turn has left, and the contexts' records have been counted. -/
structure Answered (h g : Head) (ms : List Msg) : Prop where
  out : g.out = h.out ++ ms
  foy : g.foy = { h.foy with ctx := g.foy.ctx }
  frame : Frame [.foy, .out] [] h g

/-- TLS records counted: at most a context's count changes. -/
theorem countRecords_counts (h : Head) (w : Wing) (ctx n : Nat) :
    countRecords h w ctx n = h ∨ ∃ x, countRecords h w ctx n = { h with foy := { h.foy with ctx := x } } := by
  unfold countRecords
  split
  · exact .inr ⟨_, rfl⟩
  · exact .inl rfl

theorem answered_endCapsule (h : Head) (c : Capsule) (st : NvmeStatus) (hl : HostListens h c) : Answered h (endCapsule h c st) [hostAnswer h c st] := by
  have hc := countRecords_counts h c.wing c.ctx 1
  have heq : endCapsule h c st = send (countRecords h c.wing c.ctx 1) (hostAnswer h c st) := by
    unfold endCapsule portSend
    rcases hc with he | ⟨x, he⟩ <;> rw [he] <;> exact if_neg (by rw [hl]; decide)
  rw [heq]
  rcases hc with he | ⟨x, he⟩ <;> rw [he] <;> exact ⟨rfl, rfl, (frame_mk h (by simp)).2 (frame_refl _ _ h)⟩

theorem answered_all (l : List HostCmd) (st : NvmeStatus) (h : Head) (hl : ∀ c ∈ l, HostListens h c.cap) :
    Answered h (foldHead h l (fun h c => endCapsule h c.cap st)) (l.map (fun c => hostAnswer h c.cap st)) := by
  unfold foldHead
  induction l generalizing h with
  | nil => exact ⟨(List.append_nil _).symm, rfl, frame_refl _ _ h⟩
  | cons c l ih =>
    obtain ⟨hout, hfoy, hf⟩ := answered_endCapsule h c.cap st (hl c List.mem_cons_self)
    have hprio (w : Wing) (port : Nat) : prioOf (endCapsule h c.cap st) w port false = prioOf h w port false :=
      hf.fget w FOY_PFC_PRIO_NVME (by decide) (by decide) 0 port
    have hans (x : Capsule) : hostAnswer (endCapsule h c.cap st) x st = hostAnswer h x st := by
      unfold hostAnswer
      rw [hprio]
    have hpaused : (endCapsule h c.cap st).foy.paused = h.foy.paused := by rw [hfoy]
    have hlist (x : Capsule) (hx : HostListens h x) : HostListens (endCapsule h c.cap st) x := by
      unfold HostListens at *
      rw [hprio, hpaused, hx]
    obtain ⟨hout', hfoy', hf'⟩ := ih (endCapsule h c.cap st) fun x hx => hlist x.cap (hl x (List.mem_cons_of_mem _ hx))
    rw [List.foldl_cons]
    refine ⟨?_, ?_, hf.trans hf'⟩
    · rw [hout', hout, List.map_cons, List.append_assoc]
      simp only [hans, List.singleton_append]
    · rw [hfoy', hfoy]

theorem dropForwards_none (h : Head) (hv : ∀ e ∈ h.foy.cmds, e.2.via = none) : dropForwards h = { h with vit := { h.vit with forwards := [] } } := by
  have hnil : h.foy.cmds.filter (fun e => e.2.via.isSome) = [] := List.filter_eq_nil_iff.mpr fun e he => by simp [hv e he]
  unfold dropForwards
  dsimp only
  rw [hnil]
  rfl

/-- A head whose messages, batches and forwarded commands are given up, its STAGING slots freed, STOPPED. -/
def stoppedHead (h : Head) : Head :=
  let h := { h with vit := { h.vit with unacked := [], refused := [], giveback := [], batch := [], batchSent := false, leaving := false } }
  setPair (freeSlots (dropForwards h) (fun s => s.st == .staging)) 7

/-- The commands that wait are taken out, and those admitted marked. -/
def waitingTaken (h : Head) : Head :=
  { h with foy := { h.foy with waiting := [], cmds := tabMap h.foy.cmds (fun _ c => { c with inaccessible := true }) } }

theorem enterStopped_eq (h : Head) : enterStopped h =
    foldHead (waitingTaken (stoppedHead h)) (stoppedHead h).foy.waiting (fun h c => endCapsule h c.cap anaInaccessible) := rfl

theorem frame_freeHostTag (h : Head) (key : Nat) : Frame [.foy, .evq] [(.foq, 0x010), (.foq, 0x044), (.foq, 0x048), (.mft, 0x010)] h (freeHostTag h key) := by
  simp +decide only [freeHostTag, (frame_updateBounds ..).iff, frame_rules, frame_mk, true_or, or_true, and_self, frame_refl]

theorem frame_dropForwards (h : Head) : Frame [.vit, .foy, .evq] [(.foq, 0x010), (.foq, 0x044), (.foq, 0x048), (.mft, 0x010)] h (dropForwards h) := by
  simp +decide only [dropForwards, frame_foldHead, (frame_freeHostTag ..).iff, frame_mk, true_or, or_true, and_self, frame_refl, implies_true]

/-- Nothing of the peer's commands is remembered. -/
def forwardsForgotten (h : Head) : Head := { h with vit := { h.vit with forwards := [] } }

theorem vit_dropForwards (h : Head) : (dropForwards h).vit = { h.vit with forwards := [] } := by
  have hf : Frame [.foy, .evq] [(.foq, 0x010), (.foq, 0x044), (.foq, 0x048), (.mft, 0x010)] (forwardsForgotten h)
      (foldHead (forwardsForgotten h) (h.foy.cmds.filter (fun e => e.2.via.isSome)) (fun h e => freeHostTag h e.1)) :=
    frame_foldHead_mem fun g e _ => frame_freeHostTag g e.1
  exact hf.1 .vit (by decide)

/-- The pair's state of a head that stops, before its forwarded commands go. -/
def pairGivenUp (h : Head) : Head :=
  { h with vit := { h.vit with unacked := [], refused := [], giveback := [], batch := [], batchSent := false, leaving := false } }

theorem stoppedHead_eq (h : Head) : stoppedHead h =
    setPair (setSlots (dropForwards (pairGivenUp h)) ((dropForwards (pairGivenUp h)).vit.slots.filter (fun s => !(s.st == .staging)))) 7 := rfl

theorem stoppedHead_shows (h : Head) : pairState (stoppedHead h) = 7 ∧
    (stoppedHead h).vit = { (pairGivenUp h).vit with forwards := [], slots := h.vit.slots.filter (fun s => !(s.st == .staging)) } ∧
    Frame [.vit, .foy, .evq] ((.anx, 0x050) :: (.foq, 0x010) :: (.foq, 0x044) :: (.foq, 0x048) :: (.mft, 0x010) :: slotRegs) h (stoppedHead h) := by
  have hv := vit_dropForwards (pairGivenUp h)
  have hf : Frame [.vit, .foy, .evq] [(.foq, 0x010), (.foq, 0x044), (.foq, 0x048), (.mft, 0x010)] h (dropForwards (pairGivenUp h)) :=
    ((frame_mk h (by simp)).2 (frame_refl _ _ h)).trans (frame_dropForwards (pairGivenUp h))
  rw [stoppedHead_eq]
  generalize dropForwards (pairGivenUp h) = a at *
  have hs := vit_setSlots a (a.vit.slots.filter (fun s => !(s.st == .staging)))
  have hsf := frame_setSlots a (a.vit.slots.filter (fun s => !(s.st == .staging)))
  generalize setSlots a (a.vit.slots.filter (fun s => !(s.st == .staging))) = b at *
  have hp := frame_setPair b 7
  refine ⟨pairState_setPair b 7 (by decide), ?_, (hf.mono (by decide) (by decide)).trans ((hsf.mono (by decide) (by decide)).trans (hp.mono (by decide) (by decide)))⟩
  rw [hp.1 .vit (by decide), hs, hv]
  rfl

/-- With no command that runs for the peer, the Foyer keeps what it holds. -/
theorem stoppedHead_foy (h : Head) (hv : ∀ e ∈ h.foy.cmds, e.2.via = none) : (stoppedHead h).foy = h.foy ∧
    Frame [.vit, .evq] ((.anx, 0x050) :: slotRegs) h (stoppedHead h) := by
  have hd := dropForwards_none (pairGivenUp h) hv
  have hf : Frame [.vit] [] h (dropForwards (pairGivenUp h)) := by
    rw [hd]
    exact ((frame_mk h (by simp)).2 (frame_refl _ _ h)).trans ((frame_mk (pairGivenUp h) (by simp)).2 (frame_refl _ _ _))
  rw [stoppedHead_eq]
  generalize dropForwards (pairGivenUp h) = a at *
  have hsf := frame_setSlots a (a.vit.slots.filter (fun s => !(s.st == .staging)))
  have hall : Frame [.vit, .evq] ((.anx, 0x050) :: slotRegs) h (setPair (setSlots a (a.vit.slots.filter (fun s => !(s.st == .staging)))) 7) :=
    (hf.mono (by decide) (by decide)).trans ((hsf.mono (by decide) (by decide)).trans ((frame_setPair _ 7).mono (by decide) (by decide)))
  exact ⟨hall.1 .foy (by decide), hall⟩

theorem leaseLapse_stops (s : State) (hrun : Runs s.dev) (h7 : pairState s.dev ≠ 7) (hl : ∀ c ∈ s.dev.foy.waiting, HostListens s.dev c.cap)
    (hv : ∀ e ∈ s.dev.foy.cmds, e.2.via = none) :
    Completes .leaseLapse s (fun h =>
      pairState h = 7 ∧ EventSet h .east Ev.ANX_LEASE_FAULT ∧ h.foy.waiting = [] ∧ (∀ e ∈ h.foy.cmds, e.2.inaccessible = true) ∧
        h.out = s.dev.out ++ s.dev.foy.waiting.map (fun c => hostAnswer s.dev c.cap ⟨3, 0x02, false⟩) ∧
        RegsBut s.dev h ((.anx, 0x010) :: (.anx, 0x050) :: slotRegs) ∧ h.cat = s.dev.cat ∧
        h.vit.slots = s.dev.vit.slots.filter (fun v => !(v.st == .staging))) := by
  have hr := frame_raise s.dev .east 0 Ev.ANX_LEASE_FAULT
  have hev : EventSet (raise s.dev .east Ev.ANX_LEASE_FAULT) .east Ev.ANX_LEASE_FAULT := raiseAt_sets _ _ _ (by decide)
  have heq : leaseLapse s.dev = _ := (if_neg h7).trans (enterStopped_eq (raise s.dev .east Ev.ANX_LEASE_FAULT))
  have hfoy : (raise s.dev .east Ev.ANX_LEASE_FAULT).foy = s.dev.foy := hr.1 .foy (by decide)
  obtain ⟨hp, hvit, -⟩ := stoppedHead_shows (raise s.dev .east Ev.ANX_LEASE_FAULT)
  obtain ⟨hsf, hfr⟩ := stoppedHead_foy (raise s.dev .east Ev.ANX_LEASE_FAULT) (by rw [hfoy]; exact hv)
  have hev' := (hfr.eventSet .east Ev.ANX_LEASE_FAULT (by decide) 0).2 hev
  have hslots : (stoppedHead (raise s.dev .east Ev.ANX_LEASE_FAULT)).vit.slots = s.dev.vit.slots.filter (fun v => !(v.st == .staging)) := by
    rw [hvit, hr.1 .vit (by decide)]
  have hall : Frame [.vit, .evq] ((.anx, 0x010) :: (.anx, 0x050) :: slotRegs) s.dev (stoppedHead (raise s.dev .east Ev.ANX_LEASE_FAULT)) :=
    (hr.mono (by decide) (by decide)).trans (hfr.mono (by decide) (by decide))
  rw [hfoy] at hsf
  generalize stoppedHead (raise s.dev .east Ev.ANX_LEASE_FAULT) = a at *
  have htake : Frame [.foy] [] a (waitingTaken a) := (frame_mk a (by simp)).2 (frame_refl _ _ a)
  have hpass := (hall.mono (l := [.vit, .evq, .foy]) (by decide) (fun _ h => h)).trans (htake.mono (by decide) (by decide))
  have hans : ∀ c st, hostAnswer (waitingTaken a) c st = hostAnswer s.dev c st := fun c st => by
    unfold hostAnswer prioOf
    rw [if_neg (by decide), hpass.fget c.wing FOY_PFC_PRIO_NVME (by decide) (by decide)]
  have hlisten : ∀ c ∈ a.foy.waiting, HostListens (waitingTaken a) c.cap := fun c hc => by
    rw [hsf] at hc
    have := hl c hc
    unfold HostListens prioOf at *
    rw [if_neg (by decide), hpass.fget c.cap.wing FOY_PFC_PRIO_NVME (by decide) (by decide)]
    rw [if_neg (by decide)] at this
    have hpaused : (waitingTaken a).foy.paused = s.dev.foy.paused := (congrArg FoyState.paused hsf : a.foy.paused = s.dev.foy.paused)
    rw [hpaused]
    exact this
  obtain ⟨hout, hgfoy, hg⟩ := answered_all a.foy.waiting anaInaccessible (waitingTaken a) hlisten
  generalize foldHead (waitingTaken a) a.foy.waiting (fun h c => endCapsule h c.cap anaInaccessible) = g at *
  have hend := (hpass.mono (l := [.vit, .evq, .foy, .out]) (by decide) (fun _ h => h)).trans (hg.mono (by decide) (by decide))
  have hto : Frame [.foy, .out] [] a g := (htake.mono (by decide) (by decide)).trans hg
  refine completes_of_eq exec_leaseLapse hrun heq ⟨(hto.pairState List.not_mem_nil).trans hp, (hto.eventSet .east Ev.ANX_LEASE_FAULT (by decide) 0).2 hev', ?_, ?_, ?_,
    hend.2, hend.1 .cat (by decide), ?_⟩
  · rw [hgfoy]
    rfl
  · rw [hgfoy]
    intro e he
    obtain ⟨x, -, rfl⟩ := List.mem_map.mp he
    rfl
  · rw [hout, show (waitingTaken a).out = a.out from rfl, hall.1 .out (by decide), hsf]
    simp only [hans]
    rfl
  · rw [hto.1 .vit (by decide), hslots]

/-! ### A head that is isolated -/

/-- Commands that end leave those that wait and those admitted as they are. -/
theorem foy_endCapsules (l : List HostCmd) (st : NvmeStatus) (h : Head) : Frame [.foy, .out] [] h (foldHead h l (fun h c => endCapsule h c.cap st)) ∧
    (foldHead h l (fun h c => endCapsule h c.cap st)).foy.waiting = h.foy.waiting := by
  have hone (g : Head) (c : Capsule) : Frame [.foy, .out] [] g (endCapsule g c st) ∧ (endCapsule g c st).foy.waiting = g.foy.waiting := by
    unfold endCapsule portSend
    dsimp only
    rcases countRecords_counts g c.wing c.ctx 1 with he | ⟨x, he⟩ <;> rw [he] <;> split <;> exact ⟨(frame_mk g (by simp)).2 (frame_refl _ _ g), rfl⟩
  exact ⟨frame_foldHead_mem fun g c _ => (hone g c.cap).1,
    foldHead_keeps (fun g => g.foy.waiting = h.foy.waiting) (fun g c hg => (hone g c.cap).2.trans hg) l h rfl⟩

/-- A head with its lease no longer renewed, about to stop. -/
def isolatedHead (h : Head) : Head := { (setPair h 6) with vit := { h.vit with noRenew := true } }

theorem isolateTimeout_isolates (s : State) (hrun : Runs s.dev) (h4 : pairState s.dev = 4)
    (hq : fget s.dev .east ANX_WITNESS_QUORUM ≤ fget s.dev .east ANX_WITNESS_PRESENT - s.dev.vit.peerExpired.length) :
    Completes .isolateTimeout s (fun h =>
      EventSet h .east Ev.ANX_ISOLATED ∧ pairState h = (if fbit s.dev .east ANX_PAIR_PREFER then 4 else 7) ∧
        (fbit s.dev .east ANX_PAIR_PREFER = false → h.vit.noRenew = true ∧ h.foy.waiting = []) ∧
        (∀ v ∈ s.dev.vit.slots, v.st ≠ .staging → v ∈ h.vit.slots)) := by
  have hr := frame_raise s.dev .east 0 Ev.ANX_ISOLATED
  have hev : EventSet (raise s.dev .east Ev.ANX_ISOLATED) .east Ev.ANX_ISOLATED := raiseAt_sets _ _ _ (by decide)
  have hpref := hr.fbit .east ANX_PAIR_PREFER (by decide) (by decide) 0 0
  have hps := hr.pairState (by decide)
  have hvit := hr.1 .vit (by decide)
  have heq : isolateTimeout s.dev = if fbit (raise s.dev .east Ev.ANX_ISOLATED) .east ANX_PAIR_PREFER then raise s.dev .east Ev.ANX_ISOLATED
      else enterStopped (isolatedHead (raise s.dev .east Ev.ANX_ISOLATED)) := if_pos ⟨h4, hq⟩
  generalize raise s.dev .east Ev.ANX_ISOLATED = a at *
  rw [hpref] at heq
  cases hp : fbit s.dev .east ANX_PAIR_PREFER with
  | true =>
    rw [hp, if_pos rfl] at heq
    refine completes_of_eq exec_isolateTimeout hrun heq ⟨hev, hps.trans h4, nofun, fun v hv _ => ?_⟩
    rw [hvit]
    exact hv
  | false =>
    rw [hp, if_neg (by decide), enterStopped_eq] at heq
    have hi : Frame [.vit] [(.anx, 0x050)] a (isolatedHead a) := ((frame_setPair a 6).mono (by decide) (by decide)).trans ((frame_mk _ (by simp)).2 (frame_refl _ _ _))
    obtain ⟨h7, hsv, hsf⟩ := stoppedHead_shows (isolatedHead a)
    have hsl : (isolatedHead a).vit.slots = s.dev.vit.slots := (congrArg VitState.slots hvit : a.vit.slots = s.dev.vit.slots)
    have hnr : (stoppedHead (isolatedHead a)).vit.noRenew = true := by
      rw [hsv]
      rfl
    have hslots : (stoppedHead (isolatedHead a)).vit.slots = s.dev.vit.slots.filter (fun v => !(v.st == .staging)) := by
      rw [hsv, ← hsl]
    have hevs := ((hi.mono (by decide) (by decide)).trans hsf).eventSet .east Ev.ANX_ISOLATED (by decide) 0
    generalize stoppedHead (isolatedHead a) = b at *
    obtain ⟨hg, hw⟩ := foy_endCapsules b.foy.waiting anaInaccessible (waitingTaken b)
    have hto : Frame [.foy, .out] [] b (foldHead (waitingTaken b) b.foy.waiting (fun h c => endCapsule h c.cap anaInaccessible)) :=
      ((frame_mk b (by simp)).2 (frame_refl _ _ b)).trans hg
    generalize foldHead (waitingTaken b) b.foy.waiting (fun h c => endCapsule h c.cap anaInaccessible) = g at *
    refine completes_of_eq exec_isolateTimeout hrun heq ⟨(hto.eventSet .east Ev.ANX_ISOLATED (by decide) 0).2 (hevs.2 hev),
      (hto.pairState List.not_mem_nil).trans h7, fun _ => ⟨?_, hw⟩, fun v hv hst => ?_⟩
    · rw [hto.1 .vit (by decide), hnr]
    · rw [hto.1 .vit (by decide), hslots]
      exact List.mem_filter.mpr ⟨hv, by simpa using hst⟩

end Sys2Proof.Laws
end

section
/-! A head that takes over (R173): what the steps of the takeover keep, and O30. -/

namespace Sys2Proof.Laws

open Machine Machine.Reg

/-! ### What follows a peer's end (R158) -/

/-- The registers that a head writes as it settles in SOLO. -/
def soloRegs : List (Block × Nat) :=
  curRegs ++ slotRegs ++ [(.vit, 0x060), (.vit, 0x064), (.foq, 0x010), (.foq, 0x044), (.foq, 0x048), (.mft, 0x010)]

theorem frame_freeSlots (h : Head) (p : Slot → Bool) : Frame [.vit, .evq] slotRegs h (freeSlots h p) := frame_setSlots h _

theorem frame_commitVersion (h : Head) (nsid granule seq : Nat) : Frame [.vit, .evq] slotRegs h (commitVersion h nsid granule seq) := frame_setSlots h _

theorem frame_freeUpdated (h : Head) (es : List CatEntry) : Frame [.cur, .vit, .evq] (curRegs ++ slotRegs) h (freeUpdated h es) := by
  simp +decide only [freeUpdated, frame_foldHead, (frame_freeSlots ..).iff, (frame_updHall ..).iff, frame_refl, implies_true]

theorem frame_commitAll (h : Head) : Frame [.vit, .evq] slotRegs h (commitAll h) := by
  simp +decide only [commitAll, frame_foldHead, (frame_commitVersion ..).iff, frame_mk, true_or, or_true, and_self, frame_refl, implies_true]

theorem frame_takeSeq (h : Head) (w : Wing) : Frame [] [(.vit, 0x060), (.vit, 0x064)] h (takeSeq h w).2 := frame_pset h w 0 VIT_WSEQ_LO_WSEQ VIT_WSEQ_HI_WSEQ _

/-- A granule placed as DIRTY, before its commit. -/
def dirtyPlaced (h : Head) (nsid granule data coll : Nat) : Head :=
  let w := homeOf h nsid
  let (seq, h) := takeSeq h w
  let h := setSlots h (h.vit.slots ++ [newSlot w .dirty nsid granule seq (hostLabel coll data) data false])
  if rplState h coll = 1 then { h with rpl := { h.rpl with queue := h.rpl.queue ++ [⟨coll, nsid, granule, seq, data, none⟩] } } else h

theorem placeDirty_committed (h : Head) (nsid granule data coll : Nat) (record : Option FusedRec) : placeDirty h nsid granule data coll true record =
    ((takeSeq h (homeOf h nsid)).1, commitVersion (dirtyPlaced h nsid granule data coll) nsid granule (takeSeq h (homeOf h nsid)).1) := by
  unfold placeDirty
  dsimp only
  rw [Bool.true_or, if_pos rfl]
  rfl

theorem frame_dirtyPlaced (h : Head) (nsid granule data coll : Nat) :
    Frame [.vit, .rpl, .evq] (slotRegs ++ [(.vit, 0x060), (.vit, 0x064)]) h (dirtyPlaced h nsid granule data coll) := by
  simp +decide only [dirtyPlaced, frame_ite, (frame_setSlots ..).iff, (frame_takeSeq ..).iff, frame_mk, true_or, or_true, and_self, frame_refl, ite_self]

/-- STAGING granules placed as DIRTY, one after another. -/
def stagedPlaced (coll : Nat) (l : List Slot) (acc : Head × List (Nat × Nat)) : Head × List (Nat × Nat) :=
  l.foldl (fun acc s =>
    let (seq, h) := placeDirty acc.1 s.nsid s.granule s.data coll true
    (h, acc.2 ++ [(s.granule, seq)])) acc

/-- What each placement keeps, all of them keep. -/
theorem stagedPlaced_keeps (P : Head → Prop) (coll : Nat) (hP : ∀ h nsid granule data, P h → P (placeDirty h nsid granule data coll true).2)
    (l : List Slot) (acc : Head × List (Nat × Nat)) (ha : P acc.1) : P (stagedPlaced coll l acc).1 := by
  unfold stagedPlaced
  induction l generalizing acc with
  | nil => exact ha
  | cons s l ih => exact ih _ (hP acc.1 s.nsid s.granule s.data ha)

theorem localise_eq (h : Head) (key : Nat) (c : HostCmd) : localise h key c =
    if !c.fwd then h
    else if c.cap.op = .compareWrite then setCmd (dropStaging h key) key { c with fwd := false, mtag := none, placed := [] }
    else
      let r := stagedPlaced c.coll (h.vit.slots.filter (fun s => s.st == .staging && s.wseq == key)) (dropStaging h key, [])
      setCmd r.1 key { c with fwd := false, mtag := none, placed := r.2 } := rfl

theorem frame_placeCommitted (h : Head) (nsid granule data coll : Nat) :
    Frame [.vit, .rpl, .evq] (slotRegs ++ [(.vit, 0x060), (.vit, 0x064)]) h (placeDirty h nsid granule data coll true).2 := by
  rw [placeDirty_committed]
  exact (frame_dirtyPlaced ..).trans ((frame_commitVersion ..).mono (by decide) (by decide))

theorem frame_setCmd (h : Head) (key : Nat) (c : HostCmd) : Frame [.foy] [] h (setCmd h key c) := (frame_mk h (by simp)).2 (frame_refl _ _ h)

theorem frame_localise (h : Head) (key : Nat) (c : HostCmd) : Frame [.vit, .rpl, .foy, .evq] (slotRegs ++ [(.vit, 0x060), (.vit, 0x064)]) h (localise h key c) := by
  have hd : Frame [.vit, .evq] slotRegs h (dropStaging h key) := frame_freeSlots h _
  rw [localise_eq]
  split
  · exact frame_refl _ _ h
  · split
    · exact (hd.mono (by decide) (by decide)).trans ((frame_setCmd ..).mono (by decide) (by decide))
    · refine (stagedPlaced_keeps (fun g => Frame [.vit, .rpl, .foy, .evq] (slotRegs ++ [(.vit, 0x060), (.vit, 0x064)]) h g) c.coll
        (fun g nsid granule data hg => hg.trans ((frame_placeCommitted ..).mono (by decide) (by decide))) _ (dropStaging h key, [])
        (hd.mono (by decide) (by decide))).trans ((frame_setCmd ..).mono (by decide) (by decide))

theorem frame_retarget (h : Head) : Frame [.foy] [] h (retarget h) := (frame_mk h (by simp)).2 (frame_refl _ _ h)

/-- The updates that count as acknowledged. -/
def updatesFreed (h : Head) (l : List Unacked) : Head :=
  foldHead h l (fun h u => match u.body with
    | .catUpdate es => freeUpdated h es
    | _ => h)

/-- What a head forgets as its pair ends. -/
def pairForgotten (h : Head) : Head := { h with vit := { h.vit with unacked := [], refused := [], answered := [], applied := [], appliedSeqs := [] } }

theorem settleSolo_eq (h : Head) : settleSolo h =
    let g := retarget (dropForwards (commitAll (updatesFreed (pairForgotten h) h.vit.unacked)))
    foldHead g g.foy.cmds (fun h e => localise h e.1 e.2) := rfl

theorem frame_updatesFreed (h : Head) (l : List Unacked) : Frame [.cur, .vit, .evq] (curRegs ++ slotRegs) h (updatesFreed h l) := by
  refine frame_foldHead_mem fun g u _ => ?_
  split
  · exact frame_freeUpdated ..
  · exact frame_refl _ _ g

theorem frame_settleSolo (h : Head) : Frame [.cur, .vit, .rpl, .foy, .evq] soloRegs h (settleSolo h) := by
  have hf : Frame [.vit] [] h (pairForgotten h) := (frame_mk h (by simp)).2 (frame_refl _ _ h)
  rw [settleSolo_eq]
  refine (hf.mono (by decide) (by decide)).trans (((frame_updatesFreed _ h.vit.unacked).mono (by decide) (by decide)).trans (((frame_commitAll _).mono (by decide) (by decide)).trans
    (((frame_dropForwards _).mono (by decide) (by decide)).trans (((frame_retarget _).mono (by decide) (by decide)).trans ?_))))
  exact frame_foldHead_mem fun g e _ => (frame_localise g e.1 e.2).mono (by decide) (by decide)

/-! ### No slot mirrors -/

/-- No slot of the head is a peer's mirror. -/
def NoMirror (h : Head) : Prop := ∀ v ∈ h.vit.slots, v.st ≠ .mirror

theorem noMirror_of_frame {l : List Part} {t : List (Block × Nat)} {h g : Head} (x : Frame l t h g) (hl : .vit ∉ l) (hn : NoMirror h) : NoMirror g := by
  unfold NoMirror
  rw [x.1 .vit hl]
  exact hn

theorem noMirror_setSlots (h : Head) (l : List Slot) (hl : ∀ v ∈ l, v.st ≠ .mirror) : NoMirror (setSlots h l) := by
  unfold NoMirror
  rw [vit_setSlots]
  exact hl

theorem noMirror_freeSlots (h : Head) (p : Slot → Bool) (hn : NoMirror h) : NoMirror (freeSlots h p) :=
  noMirror_setSlots h _ fun v hv => hn v (List.mem_filter.mp hv).1

theorem noMirror_commitVersion (h : Head) (nsid granule seq : Nat) (hn : NoMirror h) : NoMirror (commitVersion h nsid granule seq) := by
  refine noMirror_setSlots h _ fun v hv => ?_
  obtain ⟨a, ha, rfl⟩ := List.mem_map.mp hv
  obtain ⟨b, hb, rfl⟩ := List.mem_map.mp (List.mem_filter.mp ha).1
  have := hn b hb
  split <;> split <;> exact this

theorem noMirror_placeCommitted (h : Head) (nsid granule data coll : Nat) (hn : NoMirror h) : NoMirror (placeDirty h nsid granule data coll true).2 := by
  rw [placeDirty_committed]
  refine noMirror_commitVersion _ _ _ _ ?_
  have hq := frame_takeSeq h (homeOf h nsid)
  have hset : NoMirror (setSlots (takeSeq h (homeOf h nsid)).2 ((takeSeq h (homeOf h nsid)).2.vit.slots ++
      [newSlot (homeOf h nsid) .dirty nsid granule (takeSeq h (homeOf h nsid)).1 (hostLabel coll data) data false])) := by
    refine noMirror_setSlots _ _ fun v hv => ?_
    rcases List.mem_append.mp hv with hv | hv
    · rw [hq.1 .vit List.not_mem_nil] at hv
      exact hn v hv
    · rw [List.mem_singleton.mp hv]
      nofun
  unfold dirtyPlaced
  dsimp only
  split <;> exact hset

theorem noMirror_localise (h : Head) (key : Nat) (c : HostCmd) (hn : NoMirror h) : NoMirror (localise h key c) := by
  have hd : NoMirror (dropStaging h key) := noMirror_freeSlots h _ hn
  rw [localise_eq]
  split
  · exact hn
  · split
    · exact hd
    · exact stagedPlaced_keeps NoMirror c.coll (fun g nsid granule data => noMirror_placeCommitted g nsid granule data c.coll) _ (dropStaging h key, []) hd

theorem noMirror_settleSolo (h : Head) (hn : NoMirror h) : NoMirror (settleSolo h) := by
  have h1 : NoMirror (pairForgotten h) := hn
  have h2 : NoMirror (updatesFreed (pairForgotten h) h.vit.unacked) := by
    refine foldHead_keeps NoMirror (fun g u hg => ?_) _ _ h1
    split
    · refine noMirror_freeSlots _ _ ?_
      exact foldHead_keeps NoMirror (fun k e hk => noMirror_of_frame (frame_updHall k ..) (by decide) hk) _ _ hg
    · exact hg
  have h3 : NoMirror (commitAll (updatesFreed (pairForgotten h) h.vit.unacked)) :=
    foldHead_keeps NoMirror (fun g s hg => noMirror_commitVersion g s.nsid s.granule s.wseq hg) _ _ h2
  rw [settleSolo_eq]
  generalize commitAll (updatesFreed (pairForgotten h) h.vit.unacked) = a at *
  have h4 : NoMirror (retarget (dropForwards a)) := by
    refine noMirror_of_frame (frame_retarget _) (by decide) ?_
    unfold NoMirror
    rw [vit_dropForwards]
    exact h3
  exact foldHead_keeps NoMirror (fun g e hg => noMirror_localise g e.1 e.2 hg) _ _ h4

/-! ### The takeover (R173) -/

/-- The registers that count a collection's entries. -/
def collRegs : List (Block × Nat) := [(.rgs, 0x058), (.rgs, 0x05C), (.rgs, 0x060)]

theorem frame_syncColl (h : Head) (coll : Nat) : Frame [] collRegs h (syncColl h coll) := by
  simp +decide only [syncColl, frame_rules, frame_refl]

theorem frame_setIndex (h : Head) (coll : Nat) (l : List IndexEntry) : Frame [.cat] collRegs h (setIndex h coll l) := by
  simp +decide only [setIndex, (frame_syncColl ..).iff, frame_mk, true_or, or_true, and_self, frame_refl]

theorem setIndex_cat (h : Head) (coll : Nat) (l : List IndexEntry) : (setIndex h coll l).cat.nss = h.cat.nss ∧ (setIndex h coll l).cat.replaying = h.cat.replaying := by
  unfold setIndex
  rw [(frame_syncColl _ coll).1 .cat List.not_mem_nil]
  exact ⟨rfl, rfl⟩

theorem takePeerIndex_keeps (h : Head) : Frame [.cat] collRegs h (takePeerIndex h) ∧ (takePeerIndex h).cat.replaying = h.cat.replaying := by
  unfold takePeerIndex
  split
  · exact ⟨frame_refl _ _ h, rfl⟩
  · refine ⟨frame_foldHead_mem fun g c _ => ?_, foldHead_keeps (fun g => g.cat.replaying = h.cat.replaying) (fun g c hg => ?_) _ h rfl⟩
    · exact ((frame_mk g (by simp)).2 (frame_refl _ _ g)).trans (frame_setIndex _ c _)
    · exact (setIndex_cat _ c _).2.trans hg

/-- The head owns every namespace, and none changes its owner. -/
def OwnsAll (h : Head) : Prop := ∀ e ∈ h.cat.nss, e.2.owned = true ∧ e.2.changing = false

theorem takeNamespaces_ownsAll (h : Head) : OwnsAll (takeNamespaces h (fun _ => true)) ∧ (takeNamespaces h (fun _ => true)).cat.replaying = h.cat.replaying ∧
    Frame [.cat, .foy] [] h (takeNamespaces h (fun _ => true)) := by
  refine ⟨fun e he => ?_, rfl, (frame_mk h (by simp)).2 (frame_refl _ _ h)⟩
  obtain ⟨a, -, rfl⟩ := List.mem_map.mp he
  exact ⟨rfl, rfl⟩

theorem frame_markResync (h : Head) (mine : Bool) : Frame [.gal] [(.gal, 0x058)] h (markResync h mine) := by
  simp +decide only [markResync, frame_rules, frame_mk, true_or, or_true, and_self, frame_refl]

/-- A MIRROR slot is adopted as DIRTY, and none is left. -/
theorem noMirror_adoptSlots (h : Head) : NoMirror (adoptSlots h (fun s => s.st == .mirror)) := by
  refine noMirror_setSlots _ _ fun v hv => ?_
  obtain ⟨a, -, rfl⟩ := List.mem_map.mp (List.mem_filter.mp hv).1
  cases ha : a.st <;> simp [ha, isPairDirty]

theorem frame_adoptSlots (h : Head) (p : Slot → Bool) : Frame [.vit, .evq] (slotRegs ++ [(.vit, 0x060), (.vit, 0x064)]) h (adoptSlots h p) := by
  simp +decide only [adoptSlots, (frame_setSlots ..).iff, frame_foldHead, (frame_raiseSeq ..).iff, frame_refl, implies_true]

/-- What a head shows that has taken over: SOLO, the master at the next tick, its replay under way, every namespace its own, and no mirror. -/
structure TookOver (h : Head) : Prop where
  pair : pairState h = 0
  master : h.frm.masterDue = true
  replay : h.cat.replaying = true
  owns : OwnsAll h
  mirror : NoMirror h

theorem TookOver.of_frame {l : List Part} {t : List (Block × Nat)} {h g : Head} (x : TookOver h) (f : Frame l t h g) (hf : .frm ∉ l) (hv : .vit ∉ l)
    (hp : (.anx, 0x050) ∉ t) (hn : g.cat.nss = h.cat.nss) (hr : g.cat.replaying = h.cat.replaying) : TookOver g where
  pair := (f.pairState hp).trans x.pair
  master := by rw [f.1 .frm hf, x.master]
  replay := hr.trans x.replay
  owns := by
    unfold OwnsAll
    rw [hn]
    exact x.owns
  mirror := noMirror_of_frame f hv x.mirror

/-- The mirror adopted, and the namespaces taken, of a head that takes over. -/
def peerAdopted (h : Head) : Head :=
  let h := { h with frm := { h.frm with masterDue := true } }
  let h := setSerialCounter h (serialCounter h + 1024)
  let h := adoptSlots h (fun s => s.st == .mirror)
  let h := takePeerIndex { h with cat := { h.cat with replaying := true } }
  takeNamespaces h (fun _ => true)

theorem takeover_eq (h : Head) (micros : Nat) (h5 : pairState h = 5) (hq : quorum h h.vit.claims = true) (hd : inDump h = false) :
    takeover h micros = raise (fset (enterSolo (markResync (peerAdopted h) false)) .east ANX_TAKEOVER_US_MICROS (min micros 65535)) .east Ev.ANX_TAKEOVER_DONE := by
  unfold takeover
  rw [hq, hd, if_neg (by simp [h5])]
  rfl

theorem peerAdopted_shows (h : Head) : (peerAdopted h).frm.masterDue = true ∧ (peerAdopted h).cat.replaying = true ∧ OwnsAll (peerAdopted h) ∧ NoMirror (peerAdopted h) := by
  unfold peerAdopted
  dsimp only
  have hs : Frame [] [(.gal, 0x050), (.gal, 0x054)] { h with frm := { h.frm with masterDue := true } }
      (setSerialCounter { h with frm := { h.frm with masterDue := true } } (serialCounter { h with frm := { h.frm with masterDue := true } } + 1024)) := by
    simp +decide only [setSerialCounter, frame_rules, frame_refl]
  have hm := hs.1 .frm List.not_mem_nil
  generalize setSerialCounter { h with frm := { h.frm with masterDue := true } } (serialCounter { h with frm := { h.frm with masterDue := true } } + 1024) = a at *
  have hn := noMirror_adoptSlots a
  have hf := frame_adoptSlots a (fun s => s.st == .mirror)
  generalize adoptSlots a (fun s => s.st == .mirror) = b at *
  have hb : Frame [.cat] [] b { b with cat := { b.cat with replaying := true } } := (frame_mk b (by simp)).2 (frame_refl _ _ b)
  have hr : ({ b with cat := { b.cat with replaying := true } } : Head).cat.replaying = true := rfl
  generalize ({ b with cat := { b.cat with replaying := true } } : Head) = c at *
  obtain ⟨hp, hpr⟩ := takePeerIndex_keeps c
  generalize takePeerIndex c = d at *
  obtain ⟨ho, hor, hof⟩ := takeNamespaces_ownsAll d
  refine ⟨?_, hor.trans (hpr.trans hr), ho, noMirror_of_frame hof (by decide) (noMirror_of_frame hp (by decide) (noMirror_of_frame hb (by decide) hn))⟩
  rw [hof.1 .frm (by decide), hp.1 .frm (by decide), hb.1 .frm (by decide), hf.1 .frm (by decide)]
  exact congrArg (·.masterDue) hm

/-- The pair's batches are given up, and no heartbeat is lost. -/
def soloHead (h : Head) : Head := { h with vit := { h.vit with hbLost := false, giveback := [], batch := [], batchSent := false } }

theorem enterSolo_eq (h : Head) : enterSolo h = settleSolo (setPair (soloHead h) 0) := rfl

theorem takeover_takes (h : Head) (micros : Nat) (h5 : pairState h = 5) (hq : quorum h h.vit.claims = true) (hd : inDump h = false) :
    TookOver (takeover h micros) ∧ EventSet (takeover h micros) .east Ev.ANX_TAKEOVER_DONE ∧
      fget (takeover h micros) .east ANX_TAKEOVER_US_MICROS = min micros 65535 := by
  obtain ⟨hm, hr, ho, hn⟩ := peerAdopted_shows h
  rw [takeover_eq h micros h5 hq hd]
  generalize peerAdopted h = a at *
  have hf := frame_markResync a false
  generalize markResync a false = b at *
  have hsolo : Frame [.vit] [(.anx, 0x050)] b (setPair (soloHead b) 0) :=
    ((frame_mk b (by simp)).2 (frame_refl _ _ b)).trans ((frame_setPair (soloHead b) 0).mono (by decide) (by decide))
  have hpair : pairState (setPair (soloHead b) 0) = 0 := pairState_setPair _ _ (by decide)
  have hnb : NoMirror (setPair (soloHead b) 0) := by
    refine noMirror_of_frame (frame_setPair (soloHead b) 0) (by decide) ?_
    exact (noMirror_of_frame hf (by decide) hn : NoMirror b)
  rw [enterSolo_eq]
  have hset := frame_settleSolo (setPair (soloHead b) 0)
  have hns := noMirror_settleSolo _ hnb
  have hto := (hf.mono (l := [.gal, .vit]) (t := [(.anx, 0x050), (.gal, 0x058)]) (by decide) (by decide)).trans (hsolo.mono (by decide) (by decide))
  generalize setPair (soloHead b) 0 = c at *
  generalize settleSolo c = d at *
  have hcat : d.cat = a.cat := (hset.1 .cat (by decide)).trans (hto.1 .cat (by decide))
  have htook : TookOver d := ⟨(hset.pairState (by decide)).trans hpair, by rw [hset.1 .frm (by decide), hto.1 .frm (by decide), hm],
    by rw [hcat, hr], by unfold OwnsAll; rw [hcat]; exact ho, hns⟩
  have hw := frame_fset d .east 0 0 ANX_TAKEOVER_US_MICROS (min micros 65535)
  have hmic : fget (fset d .east ANX_TAKEOVER_US_MICROS (min micros 65535)) .east ANX_TAKEOVER_US_MICROS = min micros 65535 :=
    bget_bput_same_of_lt _ _ _ _ _ _ _ _ _ (by decide) (by decide) (lt_of_le_of_lt (Nat.min_le_right _ _) (by decide))
  generalize fset d .east ANX_TAKEOVER_US_MICROS (min micros 65535) = e at *
  have hra := frame_raise e .east 0 Ev.ANX_TAKEOVER_DONE
  have hall := (hw.mono (l := [.evq]) (t := [(.anx, 0x010), (.anx, 0x064)]) (by decide) (by decide)).trans (hra.mono (by decide) (by decide))
  have hc := hall.1 .cat (by decide)
  exact ⟨htook.of_frame hall (by decide) (by decide) (by decide) (congrArg CatState.nss hc) (congrArg CatState.replaying hc), raiseAt_sets _ _ _ (by decide),
    (hra.fget .east ANX_TAKEOVER_US_MICROS (by decide) (by decide) 0 0).trans hmic⟩

/-! ### The consignments of a head that takes over (R348, R356) -/

/-- What the end of a consignment leaves as it is. -/
theorem clearShip_keeps (h : Head) (coll : Nat) (x : Ship) : Frame [.rpl, .cat, .gal] [(.rpl, 0x054)] h (clearShip h coll x) ∧
    (clearShip h coll x).cat.nss = h.cat.nss ∧ (clearShip h coll x).cat.replaying = h.cat.replaying := by
  unfold clearShip rplUpd syncRpl dropWork
  dsimp only
  split <;> refine ⟨?_, rfl, rfl⟩ <;> simp +decide only [frame_rules, frame_mk, true_or, or_true, and_self, frame_refl]

theorem endShip_keeps (h : Head) (coll : Nat) (st : Status) : Frame [.rpl, .cat, .gal, .evq] [(.rpl, 0x010), (.rpl, 0x054), (.rpl, 0x070)] h (endShip h coll st) ∧
    (endShip h coll st).cat.nss = h.cat.nss ∧ (endShip h coll st).cat.replaying = h.cat.replaying := by
  unfold endShip
  split
  · exact ⟨frame_refl _ _ h, rfl, rfl⟩
  · rename_i x hx
    obtain ⟨hf, hn, hr⟩ := clearShip_keeps h coll x
    generalize clearShip h coll x = a at *
    have hres : Frame [] [(.rpl, 0x070)] a (rplResult a coll st) := frame_fset a .east coll 0 RPL_PROGRESS_RESULT (statusCode st)
    generalize rplResult a coll st = b at *
    have hra := frame_raise b (collHome h coll) 0 Ev.RPL_SHIP_FAIL
    have hc := (hres.1 .cat List.not_mem_nil : b.cat = a.cat)
    have hc' : (raise b (collHome h coll) Ev.RPL_SHIP_FAIL).cat = a.cat := (hra.1 .cat (by decide)).trans hc
    refine ⟨(hf.mono (by decide) (by decide)).trans ((hres.mono (by decide) (by decide)).trans (hra.mono (by decide) (by decide))), ?_, ?_⟩
    · exact (congrArg CatState.nss hc').trans hn
    · exact (congrArg CatState.replaying hc').trans hr

/-- What a head shows that has taken over, its event and its time with it. -/
structure TakeoverDone (h : Head) (micros : Nat) : Prop where
  took : TookOver h
  event : EventSet h .east Ev.ANX_TAKEOVER_DONE
  time : fget h .east ANX_TAKEOVER_US_MICROS = min micros 65535

theorem TakeoverDone.endShip {h : Head} {micros : Nat} (x : TakeoverDone h micros) (coll : Nat) (st : Status) : TakeoverDone (endShip h coll st) micros := by
  obtain ⟨hf, hn, hr⟩ := endShip_keeps h coll st
  exact ⟨x.took.of_frame hf (by decide) (by decide) (by decide) hn hr, (hf.eventSet .east Ev.ANX_TAKEOVER_DONE (by decide) 0).2 x.event,
    (hf.fget .east ANX_TAKEOVER_US_MICROS (by decide) (by decide) 0 0).trans x.time⟩

theorem TakeoverDone.syncResend {h : Head} {micros : Nat} (x : TakeoverDone h micros) (l : List Slot) : TakeoverDone (syncResend h l) micros := by
  obtain ⟨⟨hp, hm, hr, ho, hn⟩, he, ht⟩ := x
  exact ⟨⟨hp, hm, hr, ho, hn⟩, he, ht⟩

theorem takeover_done (s : State) (micros : Nat) (hrun : Runs s.dev) (h5 : pairState s.dev = 5) (hq : quorum s.dev s.dev.vit.claims = true)
    (hd : inDump s.dev = false) :
    Completes (.takeover micros) s (fun h =>
      pairState h = 0 ∧ EventSet h .east Ev.ANX_TAKEOVER_DONE ∧ h.frm.masterDue = true ∧ h.cat.replaying = true ∧
        (∀ e ∈ h.cat.nss, e.2.owned = true ∧ e.2.changing = false) ∧ (∀ v ∈ h.vit.slots, v.st ≠ .mirror) ∧
        fget h .east ANX_TAKEOVER_US_MICROS = min micros 65535) := by
  obtain ⟨htook, hev, htime⟩ := takeover_takes s.dev micros h5 hq hd
  have heq : takeoverRpl s.dev micros = syncResend (foldHead (takeover s.dev micros) ((takeover s.dev micros).rpl.colls.map (·.1))
      (fun h coll => endShip h coll .aborted)) (s.dev.vit.slots.filter (fun s => s.st == .mirror)) := if_pos ⟨h5, htook.pair⟩
  generalize takeover s.dev micros = t at *
  obtain ⟨⟨hp, hm, hr, ho, hn⟩, he, ht⟩ := (foldHead_keeps (fun g => TakeoverDone g micros) (fun g c hg => hg.endShip c .aborted) (t.rpl.colls.map (·.1)) t
    ⟨htook, hev, htime⟩).syncResend (s.dev.vit.slots.filter (fun s => s.st == .mirror))
  exact completes_of_eq (exec_takeover micros) hrun heq ⟨hp, he, hm, hr, ho, hn, ht⟩

/-! ### The obligation -/

/-- Settles O30, a lemma for each of the pair's commands: heartbeats, leases, the two ways in which a head stops, and `takeover_takes` for the
takeover. -/
theorem pairWatchesItsPeer : Obligations.PairWatchesItsPeer := by
  unfold Obligations.PairWatchesItsPeer
  exact ⟨heartbeat_regains, heartbeat_joins, heartbeatSend_sends, heartbeatLoss_suspects, leaseRenew_renews, leaseLapse_stops, witnessPoll_polls, takeover_done,
    isolateTimeout_isolates⟩

end Sys2Proof.Laws
end

section
/-! The Catalogue's pages, checkpoints, journal and editions (R185 to R193): what each step of their writing changes. -/

namespace Sys2Proof.Laws

open Machine Machine.Reg

/-! ### Pages -/

theorem frame_writePage (h : Head) (id level : Nat) (kind : PageKind) (first image : Nat) : Frame [.freeCtr] [] h (writePage h id level kind first image).2 := by
  simp +decide only [writePage, newPlace, fresh, frame_mk, true_or, or_true, and_self, frame_refl]

/-- What each page of a list keeps, a run of pages keeps. -/
theorem foldl_pages_keep {α : Type} {h : Head} (l : List α) (f : Tab PageRef × Head → α → Tab PageRef × Head)
    (hf : ∀ acc a, Frame [.freeCtr] [] acc.2 (f acc a).2) (acc : Tab PageRef × Head) (ha : Frame [.freeCtr] [] h acc.2) :
    Frame [.freeCtr] [] h (l.foldl f acc).2 := by
  induction l generalizing acc with
  | nil => exact ha
  | cons a l ih => exact ih _ (ha.trans (hf acc a))

theorem frame_writeUp {h : Head} (id : Nat) (kind : PageKind) (shift : Nat) (levels below : List Nat) (acc : Tab PageRef × Head)
    (ha : Frame [.freeCtr] [] h acc.2) : Frame [.freeCtr] [] h (writeUp id kind shift levels below acc).2 := by
  induction levels generalizing below acc with
  | nil => exact ha
  | cons level rest ih =>
    unfold writeUp
    refine ih _ _ (foldl_pages_keep _ _ ?_ acc ha)
    exact fun acc i => frame_writePage acc.2 id level kind (i <<< (8 * level + shift)) (interiorImage acc.1 level i)

theorem frame_writeNs (h : Head) (n : Namespace) (leaves : List Nat) : Frame [.freeCtr] [] h (writeNs h n leaves).2 := by
  unfold writeNs
  refine frame_writeUp _ _ _ _ _ _ (foldl_pages_keep _ _ ?_ _ (frame_refl _ _ h))
  exact fun acc i => frame_writePage acc.2 n.nsid 0 .leaf (512 * i) (((tabGet? n.leaves i).map leafImage).getD 0)

theorem frame_writeBucket (coll bucket number : Nat) (l : List (List IndexEntry)) (h : Head) : Frame [.freeCtr] [] h (writeBucket coll bucket number l h).2 := by
  induction l generalizing h with
  | nil => exact frame_refl _ _ h
  | cons es rest ih =>
    unfold writeBucket
    exact (ih h).trans (frame_writePage _ coll 0 .index bucket _)

theorem frame_writeIndex (h : Head) (coll number : Nat) (buckets : List Nat) : Frame [.freeCtr] [] h (writeIndex h coll number buckets).2 := by
  unfold writeIndex
  refine frame_writeUp _ _ _ _ _ _ (foldl_pages_keep _ _ ?_ _ (frame_refl _ _ h))
  exact fun acc b => frame_writeBucket coll b number (piecesOf 84 (bucketEntries h coll b).length (bucketEntries h coll b)) acc.2

theorem frame_writeTable {α : Type} (h : Head) (id : Nat) (kind : PageKind) (t : Tab α) (bits shift levels : Nat) (num : Nat → α → Nat) :
    Frame [.freeCtr] [] h (writeTable h id kind t bits shift levels num).2 := by
  unfold writeTable
  refine frame_writeUp _ _ _ _ _ _ (foldl_pages_keep _ _ ?_ _ (frame_refl _ _ h))
  exact fun acc i => frame_writePage acc.2 id 0 kind (i <<< shift) (tableImage t bits shift i num)

theorem frame_writeTables (h : Head) : Frame [.freeCtr] [] h (writeTables h).2 := by
  unfold writeTables
  have ha := frame_writeTable h 0 .tables h.cur.halls 2048 4 3 hallEntryNum
  generalize writeTable h 0 .tables h.cur.halls 2048 4 3 hallEntryNum = x at *
  obtain ⟨a, g⟩ := x
  refine Frame.trans ha ?_
  dsimp only
  have hb := frame_writeTable g 1 .tables g.cur.blocks 128 8 4 (fun _ => blockRecNum)
  generalize writeTable g 1 .tables g.cur.blocks 128 8 4 (fun _ => blockRecNum) = y at *
  obtain ⟨b, k⟩ := y
  refine Frame.trans hb ?_
  dsimp only
  have hc := frame_writeTable k 0 .serialMap k.cur.serials 64 9 5 (fun _ => serialNum)
  generalize writeTable k 0 .serialMap k.cur.serials 64 9 5 (fun _ => serialNum) = z at *
  obtain ⟨c, m⟩ := z
  exact hc

/-! ### Maps and indexes -/

/-- The Catalogue state with other pages of its namespaces and buckets, as their writing leaves it. -/
structure PagesWritten (a b : CatState) : Prop where
  namespaces : b.nss.map (fun e => (e.1, { e.2 with pages := [] })) = a.nss.map (fun e => (e.1, { e.2 with pages := [] }))
  rest : b = { a with nss := b.nss, dirtyPages := b.dirtyPages, dirtyBuckets := b.dirtyBuckets, bucketPages := b.bucketPages }
  fewer : ∀ p ∈ b.dirtyPages, p ∈ a.dirtyPages

theorem pagesWritten_refl (a : CatState) : PagesWritten a a := ⟨rfl, rfl, fun _ h => h⟩

theorem PagesWritten.trans {a b c : CatState} (x : PagesWritten a b) (y : PagesWritten b c) : PagesWritten a c :=
  ⟨y.namespaces.trans x.namespaces, by rw [y.rest, x.rest], fun p hp => x.fewer p (y.fewer p hp)⟩

/-- A head after some of its pages have been written. -/
structure Wrote (h g : Head) : Prop where
  frame : Frame [.freeCtr, .cat] [] h g
  cat : PagesWritten h.cat g.cat

theorem wrote_refl (h : Head) : Wrote h h := ⟨frame_refl _ _ h, pagesWritten_refl _⟩

theorem Wrote.trans {a b c : Head} (x : Wrote a b) (y : Wrote b c) : Wrote a c := ⟨x.frame.trans y.frame, x.cat.trans y.cat⟩

theorem wrote_foldHead {α : Type} {f : Head → α → Head} (hf : ∀ g a, Wrote g (f g a)) (l : List α) (h : Head) : Wrote h (foldHead h l f) := by
  unfold foldHead
  induction l generalizing h with
  | nil => exact wrote_refl h
  | cons a l ih => exact (hf h a).trans (ih _)

/-- A namespace's pages placed anew, its leaves no longer dirty. -/
def pagesPlaced (g : Head) (nsid : Nat) (refs : Tab PageRef) : Head :=
  { g with cat := { g.cat with
    nss := tabMap g.cat.nss (fun _ n => if n.nsid = nsid then { n with pages := refs } else n)
    dirtyPages := g.cat.dirtyPages.filter (fun p => p.1 != nsid) } }

theorem wrote_pagesPlaced (g : Head) (nsid : Nat) (refs : Tab PageRef) : Wrote g (pagesPlaced g nsid refs) := by
  refine ⟨(frame_mk g (by simp)).2 (frame_refl _ _ g), ?_, rfl, fun p hp => (List.mem_filter.mp hp).1⟩
  dsimp only [pagesPlaced, tabMap]
  rw [List.map_map]
  refine List.map_congr_left fun e _ => ?_
  show (e.1, ({ (if e.2.nsid = nsid then { e.2 with pages := refs } else e.2) with pages := [] } : Namespace)) = _
  split <;> rfl

theorem writeMap_some {h : Head} {nsid : Nat} {n : Namespace} (hn : nsGet? h nsid = some n) :
    writeMap h nsid = pagesPlaced (writeNs h n (dirtyLeaves h nsid)).2 nsid (writeNs h n (dirtyLeaves h nsid)).1 := by
  unfold writeMap
  rw [hn]
  dsimp only
  generalize writeNs h n (dirtyLeaves h nsid) = x
  obtain ⟨refs, g⟩ := x
  rfl

theorem writeMap_none {h : Head} {nsid : Nat} (hn : nsGet? h nsid = none) : writeMap h nsid = h := by
  unfold writeMap
  rw [hn]

theorem wrote_of_freeCtr {h g : Head} (x : Frame [.freeCtr] [] h g) : Wrote h g :=
  ⟨x.mono (by decide) (by decide), by rw [x.1 .cat (by decide)]; exact pagesWritten_refl _⟩

theorem wrote_writeMap (h : Head) (nsid : Nat) : Wrote h (writeMap h nsid) := by
  cases hn : nsGet? h nsid with
  | none =>
    rw [writeMap_none hn]
    exact wrote_refl h
  | some n =>
    rw [writeMap_some hn]
    exact (wrote_of_freeCtr (frame_writeNs ..)).trans (wrote_pagesPlaced ..)

/-- A namespace that is there has no dirty page once its map is written. -/
theorem writeMap_clean (h : Head) (nsid : Nat) (hn : nsGet? h nsid ≠ none) : ∀ p ∈ (writeMap h nsid).cat.dirtyPages, p.1 ≠ nsid := by
  obtain ⟨n, hn⟩ := Option.ne_none_iff_exists'.mp hn
  rw [writeMap_some hn]
  intro p hp
  simpa using (List.mem_filter.mp hp).2

/-- A collection's index pages placed anew, its buckets no longer dirty. -/
def bucketsPlaced (g : Head) (coll : Nat) (refs : Tab PageRef) : Head :=
  { g with cat := { g.cat with
    bucketPages := tabPut g.cat.bucketPages coll refs
    dirtyBuckets := g.cat.dirtyBuckets.filter (fun b => b.1 != coll) } }

theorem writeBuckets_eq (h : Head) (coll number : Nat) : writeBuckets h coll number =
    bucketsPlaced (writeIndex h coll number (dirtyBucketsOf h coll)).2 coll (writeIndex h coll number (dirtyBucketsOf h coll)).1 := rfl

theorem wrote_writeBuckets (h : Head) (coll number : Nat) : Wrote h (writeBuckets h coll number) := by
  rw [writeBuckets_eq]
  have hi := frame_writeIndex h coll number (dirtyBucketsOf h coll)
  generalize writeIndex h coll number (dirtyBucketsOf h coll) = x at *
  obtain ⟨refs, g⟩ := x
  refine (wrote_of_freeCtr hi).trans ?_
  exact ⟨(frame_mk g (by simp)).2 (frame_refl _ _ g), rfl, rfl, fun _ h => h⟩

theorem wrote_writePages (h : Head) (number : Nat) : Wrote h (writePages h number) :=
  (wrote_foldHead (fun g n => wrote_writeMap g n) _ h).trans (wrote_foldHead (fun g c => wrote_writeBuckets g c number) _ _)

/-! ### What the tables hold, but for where flash holds their pages -/

theorem nsGet?_eq (h : Head) (k : Nat) : nsGet? h k = ((h.cat.nss.map (·.2)).find? (fun n => n.nsid == k)) := by
  unfold nsGet?
  rw [List.find?_map]
  rfl

theorem sameButPages_iff (h : Head) (k : Nat) : (nsGet? h k).map (fun n => { n with pages := [] }) =
    ((h.cat.nss.map (fun e => (e.1, { e.2 with pages := [] }))).map (·.2)).find? (fun n => n.nsid == k) := by
  rw [nsGet?_eq, List.map_map, List.find?_map, List.find?_map, Option.map_map]
  rfl

theorem PagesWritten.sameButPages {h g : Head} (x : PagesWritten h.cat g.cat) (k : Nat) : SameButPages (nsGet? g k) (nsGet? h k) := by
  unfold SameButPages
  rw [sameButPages_iff, sameButPages_iff, x.namespaces]

theorem SameButPages.isNone {a b : Option Namespace} (x : SameButPages a b) : a = none ↔ b = none := by
  unfold SameButPages at x
  cases a <;> cases b <;> simp_all

/-! ### A checkpoint (R190) -/

/-- A checkpoint's record cut: what it holds, and its seal. -/
def recordCut (h : Head) (x : CatSnap) : Head :=
  { h with cat := { h.cat with
    cut := h.cat.journal.length
    frames := 0
    cutSnap := some x
    cutSeal := sealMac h (Config.recordBytes x).1 (Config.recordBytes x).2 } }

theorem startCheckpoint_eq (h : Head) (hp : ¬ fbit h .east CAT_CKPT_STATUS_IN_PROGRESS = true) : startCheckpoint h =
    let g := writePages (fset h .east CAT_CKPT_STATUS_IN_PROGRESS 1) ((fget h .east CAT_CKPT_LAST_NUMBER + 1) % 2 ^ 32)
    recordCut (writeTables g).2 (snapNow (writeTables g).2 ((fget h .east CAT_CKPT_LAST_NUMBER + 1) % 2 ^ 32) (writeTables g).1) := by
  unfold startCheckpoint
  rw [if_neg hp]
  dsimp only
  generalize writePages (fset h .east CAT_CKPT_STATUS_IN_PROGRESS 1) ((fget h .east CAT_CKPT_LAST_NUMBER + 1) % 2 ^ 32) = g
  generalize writeTables g = x
  obtain ⟨roots, k⟩ := x
  rfl

theorem PagesWritten.unknown {h g : Head} (x : PagesWritten h.cat g.cat) {k : Nat} (hk : nsGet? g k = none) : nsGet? h k = none :=
  (SameButPages.isNone (x.sameButPages k)).mp hk

/-- What the writing of some namespaces' maps leaves dirty: no page of any of them that is there. -/
theorem writeMaps_clean (l : List Nat) (h : Head) : ∀ p ∈ (foldHead h l writeMap).cat.dirtyPages, p.1 ∈ l → nsGet? h p.1 = none := by
  induction l generalizing h with
  | nil => simp
  | cons a l ih =>
    intro p hp hl
    have hw := wrote_writeMap h a
    have hp' : p ∈ (foldHead (writeMap h a) l writeMap).cat.dirtyPages := hp
    rcases List.mem_cons.mp hl with rfl | hl
    · by_contra hn
      exact writeMap_clean h p.1 hn p ((wrote_foldHead wrote_writeMap l _).cat.fewer p hp') rfl
    · exact hw.cat.unknown (ih _ p hp' hl)

theorem dirtyBuckets_writeBuckets (h : Head) (coll number : Nat) :
    (writeBuckets h coll number).cat.dirtyBuckets = h.cat.dirtyBuckets.filter (fun b => b.1 != coll) := by
  have hi := frame_writeIndex h coll number (dirtyBucketsOf h coll)
  rw [writeBuckets_eq, ← hi.1 .cat (by decide)]
  rfl

theorem dirtyPages_writeBuckets (h : Head) (coll number : Nat) : (writeBuckets h coll number).cat.dirtyPages = h.cat.dirtyPages := by
  have hi := frame_writeIndex h coll number (dirtyBucketsOf h coll)
  rw [writeBuckets_eq, ← hi.1 .cat (by decide)]
  rfl

/-- What the writing of some collections' buckets leaves dirty. -/
theorem writeIndexes_clean (l : List Nat) (number : Nat) (h : Head) :
    ∀ b ∈ (foldHead h l (fun h c => writeBuckets h c number)).cat.dirtyBuckets, b ∈ h.cat.dirtyBuckets ∧ b.1 ∉ l := by
  induction l generalizing h with
  | nil => exact fun b hb => ⟨hb, List.not_mem_nil⟩
  | cons a l ih =>
    intro b hb
    obtain ⟨hm, hl⟩ := ih (writeBuckets h a number) b hb
    rw [dirtyBuckets_writeBuckets, List.mem_filter] at hm
    exact ⟨hm.1, fun h => (List.mem_cons.mp h).elim (by simpa using hm.2) hl⟩

theorem dirtyPages_writeIndexes (l : List Nat) (number : Nat) (h : Head) :
    (foldHead h l (fun h c => writeBuckets h c number)).cat.dirtyPages = h.cat.dirtyPages := by
  induction l generalizing h with
  | nil => rfl
  | cons a l ih => exact (ih (writeBuckets h a number)).trans (dirtyPages_writeBuckets ..)

theorem dirtyBuckets_writeMaps (l : List Nat) (h : Head) : (foldHead h l writeMap).cat.dirtyBuckets = h.cat.dirtyBuckets := by
  induction l generalizing h with
  | nil => rfl
  | cons a l ih =>
    refine (ih (writeMap h a)).trans ?_
    cases hn : nsGet? h a with
    | none => rw [writeMap_none hn]
    | some n =>
      rw [writeMap_some hn, ← (frame_writeNs h n (dirtyLeaves h a)).1 .cat (by decide)]
      rfl

/-- Every dirty page of a namespace and of an index is written (R190 step 2). -/
theorem writePages_clean (h : Head) (number : Nat) :
    (∀ p ∈ (writePages h number).cat.dirtyPages, nsGet? h p.1 = none) ∧ (writePages h number).cat.dirtyBuckets = [] := by
  unfold writePages
  constructor
  · intro p hp
    rw [dirtyPages_writeIndexes] at hp
    have hm := (wrote_foldHead wrote_writeMap _ h).cat.fewer p hp
    exact writeMaps_clean _ h p hp (List.mem_eraseDups.mpr (List.mem_map_of_mem hm))
  · refine List.eq_nil_iff_forall_not_mem.mpr fun b hb => ?_
    obtain ⟨hm, hn⟩ := writeIndexes_clean _ number _ b hb
    exact hn (List.mem_eraseDups.mpr (List.mem_map_of_mem hm))

theorem frame_startCheckpoint (h : Head) : Frame [.freeCtr, .cat] [(.cat, 0x04C)] h (startCheckpoint h) := by
  by_cases hp : fbit h .east CAT_CKPT_STATUS_IN_PROGRESS = true
  · unfold startCheckpoint
    rw [if_pos hp]
    exact frame_refl _ _ h
  · rw [startCheckpoint_eq h hp]
    have hw := wrote_writePages (fset h .east CAT_CKPT_STATUS_IN_PROGRESS 1) ((fget h .east CAT_CKPT_LAST_NUMBER + 1) % 2 ^ 32)
    generalize writePages (fset h .east CAT_CKPT_STATUS_IN_PROGRESS 1) ((fget h .east CAT_CKPT_LAST_NUMBER + 1) % 2 ^ 32) = g at *
    have ht := frame_writeTables g
    dsimp only
    generalize writeTables g = x at *
    obtain ⟨roots, k⟩ := x
    have h1 : Frame [.freeCtr, .cat] [(.cat, 0x04C)] h (fset h .east CAT_CKPT_STATUS_IN_PROGRESS 1) := by
      simp +decide only [frame_rules, frame_refl]
    refine (h1.trans (hw.frame.mono (by decide) (by decide))).trans ?_
    refine (ht.mono (by decide) (by decide)).trans ?_
    exact (frame_mk k (by simp)).2 (frame_refl _ _ k)

theorem sealMac_congr {g h : Head} (hk : sealKey h = sealKey g) (len bytes : Nat) : sealMac h len bytes = sealMac g len bytes := by
  unfold sealMac
  rw [hk]

/-- A checkpoint that none runs before has begun (R190). -/
theorem startCheckpoint_begins (h : Head) (hp : fget h .east CAT_CKPT_STATUS_IN_PROGRESS = 0) : CheckpointBegun h (startCheckpoint h) := by
  have hp' : ¬ fbit h .east CAT_CKPT_STATUS_IN_PROGRESS = true := by
    rw [fbit, hp]
    decide
  have hregs := (frame_startCheckpoint h).2
  rw [startCheckpoint_eq h hp'] at hregs ⊢
  have h1 : Frame [] [(.cat, 0x04C)] h (fset h .east CAT_CKPT_STATUS_IN_PROGRESS 1) := by
    simp +decide only [frame_rules, frame_refl]
  have hset : fget (fset h .east CAT_CKPT_STATUS_IN_PROGRESS 1) .east CAT_CKPT_STATUS_IN_PROGRESS = 1 := by
    simp only [fget_eq_bget, fset_regs]
    simp (disch := first | decide | rfl) [CAT_CKPT_STATUS_IN_PROGRESS]
  generalize hk : (fget h .east CAT_CKPT_LAST_NUMBER + 1) % 2 ^ 32 = number at *
  have hw := wrote_writePages (fset h .east CAT_CKPT_STATUS_IN_PROGRESS 1) number
  have hc := writePages_clean (fset h .east CAT_CKPT_STATUS_IN_PROGRESS 1) number
  generalize fset h .east CAT_CKPT_STATUS_IN_PROGRESS 1 = h0 at *
  generalize writePages h0 number = g at *
  have ht := frame_writeTables g
  dsimp only at hregs ⊢
  generalize writeTables g = x at *
  obtain ⟨roots, k⟩ := x
  have hcat : k.cat = g.cat := ht.1 .cat (by decide)
  have hb : Frame [.freeCtr, .cat] [(.cat, 0x04C)] h k :=
    ((h1.mono (by decide) (by decide)).trans (hw.frame.mono (by decide) (by decide))).trans (ht.mono (by decide) (by decide))
  have hcat0 : h0.cat = h.cat := h1.1 .cat (by decide)
  have hpages : PagesWritten h.cat g.cat := hcat0 ▸ hw.cat
  have hcat : k.cat = g.cat := ht.1 .cat (by decide)
  have hrest := hpages.rest
  have hkeep : k.cat.journal = h.cat.journal ∧ k.cat.index = h.cat.index ∧ k.cat.flash = h.cat.flash := by
    rw [hcat, hrest]
    exact ⟨rfl, rfl, rfl⟩
  obtain ⟨hj, hi, hfl⟩ := hkeep
  have hcur : k.cur = h.cur := hb.1 .cur (by decide)
  have hns : ∀ n, SameButPages (nsGet? k n) (nsGet? h n) := fun n => by
    have := hpages.sameButPages (h := h) (g := g) n
    unfold nsGet? at this ⊢
    rw [hcat]
    exact this
  refine ⟨?_, congrArg _ hj, hj, rfl, ⟨fun p hp => ?_, ?_⟩, hns, hi, ?_, hfl, hregs⟩
  · exact ((ht.fget .east CAT_CKPT_STATUS_IN_PROGRESS (by decide) (by decide) 0 0).trans
      (hw.frame.fget .east CAT_CKPT_STATUS_IN_PROGRESS (by decide) (by decide) 0 0)).trans hset
  · have := hc.1 p (hcat ▸ hp)
    unfold nsGet? at this ⊢
    rwa [hcat0] at this
  · exact (congrArg CatState.dirtyBuckets hcat).trans hc.2
  · refine ⟨snapNow k number roots, rfl, hk.symm, rfl, hi, rfl, ?_, ?_, ?_, ?_⟩
    · exact congrArg CurState.blocks hcur
    · exact congrArg CurState.halls hcur
    · exact congrArg CurState.serials hcur
    · exact sealMac_congr (keyValue_congr hb (by decide) _) _ _

end Sys2Proof.Laws
end

section
/-! Editions and checkpoints (R187 to R195): the journal, the edition a freeze makes, and the commands on them. -/

namespace Sys2Proof.Laws

open Machine Machine.Reg

/-! ### The journal and the updates sent (R165, R189) -/

def journalRegs : List (Block × Nat) := [(.cat, 0x010), (.cat, 0x04C), (.cat, 0x050), (.cat, 0x054)]

theorem frame_syncStore (h : Head) : Frame [] [(.cat, 0x054)] h (syncStore h) := by
  simp +decide only [syncStore, frame_foldHead, frame_ite, frame_rules, frame_refl, implies_true, ite_self]

theorem frame_syncJournal (h : Head) : Frame [] [(.cat, 0x050)] h (syncJournal h) := by
  simp +decide only [syncJournal, frame_rules, frame_refl]

/-- The namespaces as they were but for where flash holds their pages, and no page newly dirty. -/
structure MapsKept (h g : Head) : Prop where
  namespaces : ∀ k, SameButPages (nsGet? g k) (nsGet? h k)
  fewer : ∀ p ∈ g.cat.dirtyPages, p ∈ h.cat.dirtyPages

theorem mapsKept_refl (h : Head) : MapsKept h h := ⟨fun _ => rfl, fun _ hp => hp⟩

theorem MapsKept.trans {a b c : Head} (x : MapsKept a b) (y : MapsKept b c) : MapsKept a c :=
  ⟨fun k => (y.namespaces k).trans (x.namespaces k), fun p hp => x.fewer p (y.fewer p hp)⟩

theorem nsGet?_congr {h g : Head} (x : g.cat.nss = h.cat.nss) (k : Nat) : nsGet? g k = nsGet? h k := by
  unfold nsGet?
  rw [x]

theorem mapsKept_of_eq {h g : Head} (hn : g.cat.nss = h.cat.nss) (hd : g.cat.dirtyPages = h.cat.dirtyPages) : MapsKept h g :=
  ⟨fun k => congrArg (Option.map _) (nsGet?_congr hn k), fun p hp => hd ▸ hp⟩

theorem Frame.mapsKept {l : List Part} {t : List (Block × Nat)} {h g : Head} (x : Frame l t h g) (hc : .cat ∉ l) : MapsKept h g := by
  have hcat : g.cat = h.cat := x.1 .cat hc
  exact mapsKept_of_eq (congrArg CatState.nss hcat) (congrArg CatState.dirtyPages hcat)

theorem Wrote.mapsKept {h g : Head} (x : Wrote h g) : MapsKept h g := ⟨x.cat.sameButPages, x.cat.fewer⟩

theorem mapsKept_startCheckpoint (h : Head) : MapsKept h (startCheckpoint h) := by
  by_cases hp : fbit h .east CAT_CKPT_STATUS_IN_PROGRESS = true
  · unfold startCheckpoint
    rw [if_pos hp]
    exact mapsKept_refl h
  · rw [startCheckpoint_eq h hp]
    refine MapsKept.trans ((frame_fset h .east 0 0 CAT_CKPT_STATUS_IN_PROGRESS 1).mapsKept (by decide)) ?_
    refine MapsKept.trans (wrote_writePages _ ((fget h .east CAT_CKPT_LAST_NUMBER + 1) % 2 ^ 32)).mapsKept ?_
    generalize writePages (fset h .east CAT_CKPT_STATUS_IN_PROGRESS 1) ((fget h .east CAT_CKPT_LAST_NUMBER + 1) % 2 ^ 32) = g
    have ht := frame_writeTables g
    dsimp only
    generalize writeTables g = x at *
    obtain ⟨roots, k⟩ := x
    exact (ht.mapsKept (by decide)).trans (mapsKept_of_eq rfl rfl)

/-- Entries at the journal's end. -/
def journalPut (h : Head) (l : List JournalEntry) : Head := { h with cat := { h.cat with journal := h.cat.journal ++ l } }

/-- Whether the journal has risen through its mark: JOURNAL_HIGH, and a checkpoint (R189). -/
def journalMark (h : Head) (was : Nat) : Head :=
  if 4 * was < 3 * fget h .east CAT_CKPT_JOURNAL_MIB ∧ 3 * fget h .east CAT_CKPT_JOURNAL_MIB ≤ 4 * journalMib h.cat.journal then
    startCheckpoint (raise h .east Ev.CAT_JOURNAL_HIGH) else h

/-- A checkpoint where a store's dirty pages have reached half of it (R188). -/
def storeMark (h : Head) : Head := if storeHalf h then startCheckpoint h else h

theorem journalAdd_eq (h : Head) (l : List JournalEntry) :
    journalAdd h l = storeMark (journalMark (syncJournal (journalPut (syncStore h) l)) (journalMib h.cat.journal)) := by
  have hs : (syncStore h).cat = h.cat := (frame_syncStore h).1 .cat (by decide)
  unfold journalAdd journalPut
  rw [hs]
  rfl

theorem frame_journalAdd (h : Head) (l : List JournalEntry) : Frame [.freeCtr, .cat, .evq] journalRegs h (journalAdd h l) := by
  rw [journalAdd_eq]
  have hput (g : Head) : Frame [.cat] [] g (journalPut g l) := (frame_mk g (by simp)).2 (frame_refl _ _ g)
  have hmark (g : Head) (was : Nat) : Frame [.freeCtr, .cat, .evq] journalRegs g (journalMark g was) := by
    simp +decide only [journalMark, frame_ite, (frame_startCheckpoint ..).iff, frame_rules, frame_refl, ite_self]
  have hstore (g : Head) : Frame [.freeCtr, .cat] [(.cat, 0x04C)] g (storeMark g) := by
    simp +decide only [storeMark, frame_ite, (frame_startCheckpoint ..).iff, frame_refl, ite_self]
  simp +decide only [(hstore _).iff, (hmark _ _).iff, (hput _).iff, (frame_syncJournal ..).iff, (frame_syncStore ..).iff, frame_refl]

theorem mapsKept_journalAdd (h : Head) (l : List JournalEntry) : MapsKept h (journalAdd h l) := by
  rw [journalAdd_eq]
  refine ((frame_syncStore h).mapsKept (by decide)).trans ?_
  have hput (g : Head) : MapsKept g (journalPut g l) := mapsKept_of_eq rfl rfl
  refine (hput _).trans ?_
  refine ((frame_syncJournal _).mapsKept (by decide)).trans ?_
  generalize syncJournal (journalPut (syncStore h) l) = g
  have hm : MapsKept g (journalMark g (journalMib h.cat.journal)) := by
    unfold journalMark
    split
    · exact ((frame_raise g .east 0 Ev.CAT_JOURNAL_HIGH).mapsKept (by decide)).trans (mapsKept_startCheckpoint _)
    · exact mapsKept_refl g
  refine hm.trans ?_
  unfold storeMark
  split
  · exact mapsKept_startCheckpoint _
  · exact mapsKept_refl _

/-- What a head sends joins what it sent before. -/
def OutGrows (h g : Head) : Prop := ∃ ms, g.out = h.out ++ ms

theorem Frame.outGrows {l : List Part} {t : List (Block × Nat)} {h g : Head} (x : Frame l t h g) (ho : .out ∉ l) : OutGrows h g :=
  ⟨[], by rw [List.append_nil]; exact x.1 .out ho⟩

theorem OutGrows.trans {a b c : Head} (x : OutGrows a b) (y : OutGrows b c) : OutGrows a c := by
  obtain ⟨l, hl⟩ := x
  obtain ⟨m, hm⟩ := y
  exact ⟨l ++ m, by rw [hm, hl, List.append_assoc]⟩

theorem outGrows_foldHead {α : Type} {f : Head → α → Head} (hf : ∀ g a, OutGrows g (f g a)) (l : List α) (h : Head) : OutGrows h (foldHead h l f) :=
  foldHead_keeps (fun g => OutGrows h g) (fun g a x => x.trans (hf g a)) l h ⟨[], (List.append_nil _).symm⟩

theorem outGrows_anxRequest (h : Head) (w : Wing) (coll : Nat) (b : AnxBody) : OutGrows h (anxRequest h w coll b).2 := by
  unfold anxRequest
  have ht : (takeMtag h w).2.out = h.out := by
    cases w <;> rfl
  generalize takeMtag h w = x at *
  obtain ⟨t, g⟩ := x
  obtain ⟨ms, hms⟩ := (anxStep_anxSend { g with vit := { g.vit with unacked := g.vit.unacked ++ [⟨w, t, coll, b, false⟩] } } w t coll b).out
  exact ⟨ms, hms.trans (congrArg (· ++ ms) ht)⟩

/-- What the changes recorded in the journal lead to: messages to the peer, or with none their slots freed. -/
def updatesOut (h : Head) (w : Wing) (coll : Nat) (es : List CatEntry) : Head :=
  if hasPeer h then foldHead h (piecesOf 4096 es.length es) (fun h l => (anxRequest h w coll (.catUpdate l)).2) else freeUpdated h es

theorem sendUpdate_eq (h : Head) (w : Wing) (coll : Nat) (es : List CatEntry) :
    sendUpdate h w coll es = updatesOut (journalAdd h (es.map (fun e => .update true e []))) w coll es := rfl

def updateRegs : List (Block × Nat) := journalRegs ++ curRegs ++ slotRegs

theorem frame_updatesOut (h : Head) (w : Wing) (coll : Nat) (es : List CatEntry) :
    Frame [.evq, .vit, .out, .cur] updateRegs h (updatesOut h w coll es) := by
  simp +decide only [updatesOut, frame_ite, frame_foldHead, (frame_anxRequest ..).iff, (frame_freeUpdated ..).iff, frame_refl, implies_true, ite_self]

theorem frame_sendUpdate (h : Head) (w : Wing) (coll : Nat) (es : List CatEntry) :
    Frame [.freeCtr, .cat, .evq, .vit, .out, .cur] updateRegs h (sendUpdate h w coll es) := by
  rw [sendUpdate_eq]
  exact ((frame_journalAdd h _).mono (by decide) (by decide)).trans ((frame_updatesOut ..).mono (by decide) (by decide))

theorem mapsKept_sendUpdate (h : Head) (w : Wing) (coll : Nat) (es : List CatEntry) : MapsKept h (sendUpdate h w coll es) := by
  rw [sendUpdate_eq]
  exact (mapsKept_journalAdd h _).trans ((frame_updatesOut ..).mapsKept (by decide))

theorem outGrows_sendUpdate (h : Head) (w : Wing) (coll : Nat) (es : List CatEntry) : OutGrows h (sendUpdate h w coll es) := by
  rw [sendUpdate_eq]
  refine ((frame_journalAdd h (es.map (fun e => .update true e []))).outGrows (by decide)).trans ?_
  unfold updatesOut
  split
  · exact outGrows_foldHead (fun g l => outGrows_anxRequest g w coll (.catUpdate l)) _ _
  · exact (frame_freeUpdated ..).outGrows (by decide)

/-! ### An edition made (R193) -/

/-- A namespace with an edition of its leaves and pages as they stand. -/
def withEdition (h : Head) (number : Nat) (n : Namespace) : Namespace :=
  { n with
    lastEdition := number
    editions := n.editions ++ [⟨number, lastSerial h, (rootOf n.pages).loc, (rootOf n.pages).cmac, n.leaves, n.pages, none⟩] }

theorem addEdition_eq (h : Head) (nsid number : Nat) : addEdition h nsid number = syncEditions (nsUpd h nsid (withEdition h number)) := rfl

theorem freezeNs_eq (h : Head) (n : Namespace) (number : Nat) : freezeNs h n number =
    sendUpdate (syncStore (addEdition (writeMap h n.nsid) n.nsid number)) n.home n.coll [⟨n.nsid, 2, number, 0, 0, 0⟩] := rfl

theorem nsGet?_nsUpd (h : Head) (k j : Nat) (f : Namespace → Namespace) (hf : ∀ n, (f n).nsid = n.nsid) :
    nsGet? (nsUpd h k f) j = (nsGet? h j).map (fun n => if n.nsid = k then f n else n) := by
  rw [nsGet?_eq, nsGet?_eq]
  have hl : (nsUpd h k f).cat.nss.map (·.2) = (h.cat.nss.map (·.2)).map (fun n => if n.nsid = k then f n else n) := by
    rw [nsUpd, tabMap, List.map_map, List.map_map]
    rfl
  rw [hl, List.find?_map]
  congr 2
  funext n
  show ((if n.nsid = k then f n else n).nsid == j) = (n.nsid == j)
  split
  · rw [hf]
  · rfl

theorem nsGet?_nsid {h : Head} {k : Nat} {n : Namespace} (hn : nsGet? h k = some n) : n.nsid = k := by
  rw [nsGet?_eq] at hn
  simpa using List.find?_some hn

theorem frame_syncEditions (h : Head) : Frame [] [(.cat, 0x07C)] h (syncEditions h) := frame_fset h .east 0 0 CAT_EDITIONS_PAIR _

theorem frame_addEdition (h : Head) (nsid number : Nat) : Frame [.cat] [(.cat, 0x07C)] h (addEdition h nsid number) := by
  rw [addEdition_eq]
  have hn : Frame [.cat] [] h (nsUpd h nsid (withEdition h number)) := (frame_mk h (by simp)).2 (frame_refl _ _ h)
  exact (hn.mono (by decide) (by decide)).trans ((frame_syncEditions _).mono (by decide) (by decide))

def freezeRegs : List (Block × Nat) := (.cat, 0x07C) :: updateRegs

theorem frame_freezeNs (h : Head) (n : Namespace) (number : Nat) :
    Frame [.freeCtr, .cat, .evq, .vit, .out, .cur] freezeRegs h (freezeNs h n number) := by
  rw [freezeNs_eq]
  refine ((wrote_writeMap h n.nsid).frame.mono (by decide) (by decide)).trans ?_
  refine ((frame_addEdition _ n.nsid number).mono (by decide) (by decide)).trans ?_
  exact ((frame_syncStore _).mono (by decide) (by decide)).trans ((frame_sendUpdate ..).mono (by decide) (by decide))

theorem outGrows_freezeNs (h : Head) (n : Namespace) (number : Nat) : OutGrows h (freezeNs h n number) := by
  rw [freezeNs_eq]
  refine ((wrote_writeMap h n.nsid).frame.outGrows (by decide)).trans ?_
  refine ((frame_addEdition _ n.nsid number).outGrows (by decide)).trans ?_
  exact ((frame_syncStore _).outGrows (by decide)).trans (outGrows_sendUpdate ..)

/-- What a freeze leaves of the edition's own namespace and of the others, but for where flash holds their pages. -/
theorem freezeNs_maps (h : Head) (n : Namespace) (number : Nat) :
    MapsKept (syncStore (addEdition (writeMap h n.nsid) n.nsid number)) (freezeNs h n number) := by
  rw [freezeNs_eq]
  exact mapsKept_sendUpdate ..

theorem nsGet?_addEdition (h : Head) (nsid number k : Nat) :
    nsGet? (syncStore (addEdition h nsid number)) k = (nsGet? h k).map (fun n => if n.nsid = nsid then withEdition h number n else n) := by
  rw [nsGet?_congr (congrArg CatState.nss ((frame_syncStore _).1 .cat (by decide))), addEdition_eq,
    nsGet?_congr (congrArg CatState.nss ((frame_syncEditions _).1 .cat (by decide))), nsGet?_nsUpd _ _ _ (withEdition h number) (fun _ => rfl)]

end Sys2Proof.Laws
end

section
/-! Editions, checkpoints and page-ins (R187 to R195): each of their commands. -/

namespace Sys2Proof.Laws

open Machine Machine.Reg

/-! ### Namespace commands -/

theorem nsCommand_runs {h : Head} {ini : Initiator} (f : Head → Head) (hw : Writable h ini (pg .cat .east) 0x070) (hb : h.cat.busy = none) :
    nsCommand h ini .east f = f (reply h false) := by
  unfold nsCommand
  rw [withWrite_ok _ _ _ _ _ hw, if_neg (by decide), if_neg (by rw [show (reply h false).cat.busy = none from hb]; decide)]

theorem onOwned_owned {h : Head} {n : Namespace} (f : Head → Namespace → Head) (hn : nsGet? h (argNsid h) = some n) (ho : n.owned = true) :
    onOwned h f = f h n := by
  unfold onOwned
  rw [hn]
  exact if_pos ho

/-- A command on an owned namespace, on CAT.E with none running. -/
theorem nsCommand_owned {h : Head} {ini : Initiator} {n : Namespace} (f : Head → Namespace → Head) (hw : Writable h ini (pg .cat .east) 0x070)
    (hb : h.cat.busy = none) (hn : nsGet? h (argNsid h) = some n) (ho : n.owned = true) :
    nsCommand h ini .east (fun h => onOwned h f) = f (reply h false) n :=
  (nsCommand_runs _ hw hb).trans (onOwned_owned (h := reply h false) f hn ho)

theorem nsResult_shows (h : Head) (st : Status) : fget (nsResult h st) .east CAT_NS_STATUS_RESULT = statusCode st % 256 := by
  unfold nsResult
  rw [(frame_raise _ .east 0 Ev.CAT_NS_CMD_DONE).fget .east CAT_NS_STATUS_RESULT (by decide) (by decide)]
  simp only [fget_eq_bget, fset_regs]
  simp (disch := first | decide | rfl) [CAT_NS_STATUS_RESULT]

theorem SameButPages.of_some {a : Option Namespace} {n : Namespace} (x : SameButPages a (some n)) :
    ∃ n', a = some n' ∧ ({ n' with pages := [] } : Namespace) = { n with pages := [] } := by
  cases a with
  | none => exact absurd x nofun
  | some n' => exact ⟨n', rfl, Option.some.inj x⟩

theorem frame_nsResult (h : Head) (st : Status) : Frame [.evq] [(.cat, 0x010), (.cat, 0x074)] h (nsResult h st) := by
  simp +decide only [nsResult, frame_rules, frame_refl]

theorem lastSerial_frame {l : List Part} {t : List (Block × Nat)} {h g : Head} (x : Frame l t h g)
    (hlo : (Block.gal, GAL_SERIAL_LO_NEXT.off) ∉ t) (hhi : (Block.gal, GAL_SERIAL_HI_NEXT.off) ∉ t) (hp : (Block.anx, ANX_PAIR_PREFER.off) ∉ t) :
    lastSerial g = lastSerial h := by
  unfold lastSerial serialCounter pget
  rw [x.fget .east GAL_SERIAL_LO_NEXT hlo (by decide), x.fget .east GAL_SERIAL_HI_NEXT hhi (by decide), x.fget .east ANX_PAIR_PREFER hp (by decide)]

/-- The edition that a freeze makes (R193). -/
theorem freezeNs_edition {h : Head} {n : Namespace} (number : Nat) (hn : nsGet? h n.nsid = some n) :
    ∃ (n' : Namespace) (e : Edition), nsGet? (freezeNs h n number) n.nsid = some n' ∧ n'.editions = n.editions ++ [e] ∧
      e.number = number ∧ e.leaves = n.leaves ∧ e.freezeSerial = lastSerial h ∧ e.rootLoc = (rootOf e.pages).loc ∧
      e.rootSeal = (rootOf e.pages).cmac ∧ e.exposedAs = none ∧ n'.leaves = n.leaves ∧ n'.lastEdition = number := by
  have hw := wrote_writeMap h n.nsid
  obtain ⟨n1, hn1, h1⟩ := SameButPages.of_some (hn ▸ hw.cat.sameButPages n.nsid)
  have hm := (freezeNs_maps h n number).namespaces n.nsid
  rw [nsGet?_addEdition, hn1, Option.map_some, if_pos (nsGet?_nsid hn1)] at hm
  obtain ⟨n', hn', h'⟩ := SameButPages.of_some hm
  have hleaves : n1.leaves = n.leaves := (congrArg Namespace.leaves h1 :)
  refine ⟨n', ⟨number, lastSerial (writeMap h n.nsid), (rootOf n1.pages).loc, (rootOf n1.pages).cmac, n1.leaves, n1.pages, none⟩, hn', ?_, rfl, ?_,
    lastSerial_frame hw.frame (by decide) (by decide) (by decide), rfl, rfl, rfl, ?_, ?_⟩
  · have := congrArg Namespace.editions h1
    exact (congrArg Namespace.editions h').trans (congrArg (· ++ _) this)
  · exact hleaves
  · exact (congrArg Namespace.leaves h' :).trans hleaves
  · exact congrArg Namespace.lastEdition h'

/-- A freeze writes the dirty pages of its namespace. -/
theorem freezeNs_clean {h : Head} {n : Namespace} (number : Nat) (hn : nsGet? h n.nsid = some n) :
    ∀ p ∈ (freezeNs h n number).cat.dirtyPages, p.1 ≠ n.nsid := by
  intro p hp
  have hp1 := (freezeNs_maps h n number).fewer p hp
  rw [(frame_syncStore _).1 .cat (by decide), addEdition_eq, (frame_syncEditions _).1 .cat (by decide)] at hp1
  exact writeMap_clean h n.nsid (by rw [hn]; nofun) p hp1

theorem freezeNs_others (h : Head) (n : Namespace) (number : Nat) {k : Nat} (hk : k ≠ n.nsid) :
    SameButPages (nsGet? (freezeNs h n number) k) (nsGet? h k) := by
  have hm := (freezeNs_maps h n number).namespaces k
  have hw := (wrote_writeMap h n.nsid).cat.sameButPages k
  have hsame : (nsGet? (writeMap h n.nsid) k).map (fun m => if m.nsid = n.nsid then withEdition (writeMap h n.nsid) number m else m) =
      nsGet? (writeMap h n.nsid) k := by
    cases hx : nsGet? (writeMap h n.nsid) k with
    | none => rfl
    | some m => exact congrArg some (if_neg fun hid => hk ((nsGet?_nsid hx).symm.trans hid))
  rw [nsGet?_addEdition, hsame] at hm
  exact hm.trans hw

theorem nsFreeze_freezes (s : State) (ini : Initiator) (n : Namespace) (hrun : Runs s.dev) (hw : Writable s.dev ini (pg .cat .east) 0x070)
    (hb : s.dev.cat.busy = none) (hn : nsGet? s.dev (argNsid s.dev) = some n) (ho : n.owned = true) (hl : n.lastEdition < argEdition s.dev)
    (he : n.editions.length < 16384) (hp : pairEditions s.dev < 1048576) :
    Completes (.nsFreeze ini .east) s (fun h =>
      (∃ (n' : Namespace) (e : Edition), nsGet? h (argNsid s.dev) = some n' ∧ n'.editions = n.editions ++ [e] ∧
        e.number = argEdition s.dev ∧ e.leaves = n.leaves ∧ e.freezeSerial = lastSerial s.dev ∧ e.rootLoc = (rootOf e.pages).loc ∧
        e.rootSeal = (rootOf e.pages).cmac ∧ e.exposedAs = none ∧ n'.leaves = n.leaves ∧ n'.lastEdition = argEdition s.dev) ∧
        (∀ p ∈ h.cat.dirtyPages, p.1 ≠ argNsid s.dev) ∧ (∀ k, k ≠ argNsid s.dev → SameButPages (nsGet? h k) (nsGet? s.dev k)) ∧
        fget h .east CAT_NS_STATUS_RESULT = 0 ∧ h.mem = s.dev.mem) := by
  have heq : nsCommand s.dev ini .east nsFreeze = nsResult (freezeNs (reply s.dev false) n (argEdition s.dev)) .done := by
    refine (nsCommand_owned _ hw hb hn ho).trans ?_
    exact (if_neg (Nat.not_le.mpr hl)).trans (if_neg (not_or.mpr ⟨Nat.not_le.mpr he, Nat.not_le.mpr hp⟩))
  refine completes_of_eq (exec_nsFreeze ini .east) hrun heq ?_
  have hid : n.nsid = argNsid s.dev := nsGet?_nsid hn
  have hn' : nsGet? (reply s.dev false) n.nsid = some n := hid ▸ hn
  have hr := frame_nsResult (freezeNs (reply s.dev false) n (argEdition s.dev)) .done
  have hm := hr.mapsKept (by decide)
  have hf := frame_freezeNs (reply s.dev false) n (argEdition s.dev)
  rw [← hid]
  refine ⟨?_, fun p hp => freezeNs_clean _ hn' p (hm.fewer p hp), fun k hk => (hm.namespaces k).trans (freezeNs_others _ n _ hk),
    nsResult_shows .., (hr.1 .mem (by decide)).trans (hf.1 .mem (by decide))⟩
  rw [nsGet?_congr (congrArg CatState.nss (hr.1 .cat (by decide)))]
  exact freezeNs_edition (argEdition s.dev) hn'

theorem editionDelete_walks (s : State) (ini : Initiator) (n : Namespace) (e : Edition) (hrun : Runs s.dev)
    (hw : Writable s.dev ini (pg .cat .east) 0x070) (hb : s.dev.cat.busy = none) (hn : nsGet? s.dev (argNsid s.dev) = some n) (ho : n.owned = true)
    (he : editionOf n (argEdition s.dev) = some e) (hx : e.exposedAs = none) (hh : s.dev.cat.heldEditions.contains (n.coll, e.number) = false) :
    Completes (.editionDelete ini .east) s (fun h =>
      h.cat = { s.dev.cat with busy := some (n.nsid, e.number) } ∧ fget h .east CAT_NS_STATUS_BUSY = 1 ∧
        RegsBut s.dev h [(.cat, 0x074)] ∧ h.out = s.dev.out) := by
  have heq : nsCommand s.dev ini .east editionDelete =
      fset { reply s.dev false with cat := { s.dev.cat with busy := some (n.nsid, e.number) } } .east CAT_NS_STATUS_BUSY 1 := by
    refine (nsCommand_owned _ hw hb hn ho).trans ?_
    rw [show editionOf n (argEdition (reply s.dev false)) = some e from he]
    exact if_neg (by rw [hx, show (reply s.dev false).cat.heldEditions.contains (n.coll, e.number) = false from hh]; decide)
  refine completes_of_eq (exec_editionDelete ini .east) hrun heq ⟨rfl, ?_, (frame_fset _ .east 0 0 CAT_NS_STATUS_BUSY 1).2, rfl⟩
  simp only [fget_eq_bget, fset_regs]
  simp (disch := first | decide | rfl) [CAT_NS_STATUS_BUSY]

/-! ### Checkpoints (R189 to R191) -/

theorem ckptNow_begins (s : State) (ini : Initiator) (w : Wing) (hrun : Runs s.dev) (hw : Writable s.dev ini (pg .cat w) 0x040)
    (hp : fget s.dev .east CAT_CKPT_STATUS_IN_PROGRESS = 0) : Completes (.ckptNow ini w) s (fun h => CheckpointBegun s.dev h) := by
  refine completes_of_eq (exec_ckptNow ini w) hrun (withWrite_ok s.dev ini _ _ _ hw) ?_
  obtain ⟨h1, h2, h3, h4, h5, h6, h7, h8, h9, h10⟩ := startCheckpoint_begins (reply s.dev false) hp
  exact ⟨h1, h2, h3, h4, h5, h6, h7, h8, h9, h10⟩

theorem ckptInterval_begins (s : State) (hrun : Runs s.dev) (hp : fget s.dev .east CAT_CKPT_STATUS_IN_PROGRESS = 0)
    (hi : 1000 * fget s.dev .east CAT_CKPT_INTERVAL ≤ s.dev.cat.frames) : Completes .ckptInterval s (fun h => CheckpointBegun s.dev h) :=
  completes_of_eq exec_ckptInterval hrun (if_pos hi) (startCheckpoint_begins s.dev hp)

/-- A checkpoint's end marked in CAT_CKPT_STATUS and CAT_CKPT_LAST. -/
def ckptMarked (h : Head) (loc ms : Nat) : Head :=
  fset (fset (fset { h with cur := { h.cur with ckptLoc := loc } } .east CAT_CKPT_STATUS_IN_PROGRESS 0) .east CAT_CKPT_STATUS_LAST_MS (min ms 65535)) .east
    CAT_CKPT_LAST_NUMBER ((fget h .east CAT_CKPT_LAST_NUMBER + 1) % 2 ^ 32)

/-- A checkpoint's marker on its way to the peer (R191). -/
def markerSent (h : Head) (c loc : Nat) : Head :=
  if hasPeer h then (anxRequest h .east 0 (.catUpdate [⟨0, 0, c, 0, loc, 0⟩])).2 else h

/-- The journal trimmed up to the cut, and the checkpoint in flash (R190, R191). -/
def journalTrimmed (h : Head) : Head :=
  { h with cat := { h.cat with
    journal := (h.cat.journal.take h.cat.cut).filter isPeerEntry ++ h.cat.journal.drop h.cat.cut
    cut := 0
    flash := h.cat.cutSnap
    flashSeal := h.cat.cutSeal
    cutSnap := none } }

/-- The anchor record that names a checkpoint, once the head is mounted (R312). -/
def anchored (h : Head) : Head := if h.cur.mounted then writeAnchor h false else h

theorem checkpointDone_eq (h : Head) (loc ms : Nat) (hp : fget h .east CAT_CKPT_STATUS_IN_PROGRESS = 1) : checkpointDone h loc ms =
    anchored (raise (syncJournal (journalTrimmed (syncStore (markerSent (ckptMarked h loc ms) ((fget h .east CAT_CKPT_LAST_NUMBER + 1) % 2 ^ 32) loc))))
      .east Ev.CAT_CKPT_DONE) := by
  have hp' : ¬ (!fbit h .east CAT_CKPT_STATUS_IN_PROGRESS) = true := by
    rw [fbit, hp]
    decide
  have hp'' : ¬ (!fbit { h with cur := { h.cur with ckptLoc := loc } } .east CAT_CKPT_STATUS_IN_PROGRESS) = true := hp'
  unfold checkpointDone ckptDone
  rw [if_neg hp']
  dsimp only
  rw [if_neg hp'']
  have hs (g : Head) : (syncStore g).cat = g.cat := (frame_syncStore g).1 .cat (by decide)
  unfold journalTrimmed
  rw [hs]
  rfl

theorem frame_ckptMarked (h : Head) (loc ms : Nat) : Frame [.cur] [(.cat, 0x048), (.cat, 0x04C)] h (ckptMarked h loc ms) := by
  simp +decide only [ckptMarked, frame_rules, frame_mk, true_or, or_true, and_self, frame_refl]

theorem frame_markerSent (h : Head) (c loc : Nat) : Frame [.vit, .out] [] h (markerSent h c loc) := by
  simp +decide only [markerSent, frame_ite, (frame_anxRequest ..).iff, frame_refl, ite_self]

theorem frame_journalTrimmed (h : Head) : Frame [.cat] [] h (journalTrimmed h) := (frame_mk h (by simp)).2 (frame_refl _ _ h)

theorem frame_sendAnchor (h : Head) (n : Nat) : Frame [.dsp] [] h (sendAnchor h n) := frame_waitDie ..

theorem frame_writeAnchor (h : Head) (vault : Bool) : Frame [.cur, .dsp] [(.cur, 0x074), (.cur, 0x078)] h (writeAnchor h vault) := by
  simp +decide only [writeAnchor, frame_ite, frame_foldHead, (frame_waitDie ..).iff, (frame_sendAnchor ..).iff, frame_rules, frame_mk, true_or, or_true,
    and_self, frame_refl, implies_true, ite_self]

theorem frame_anchored (h : Head) : Frame [.cur, .dsp] [(.cur, 0x074), (.cur, 0x078)] h (anchored h) := by
  simp +decide only [anchored, frame_ite, (frame_writeAnchor ..).iff, frame_refl, ite_self]

theorem anxSends_frame {l : List Part} {t : List (Block × Nat)} {h g : Head} (x : Frame l t h g) (ht : (Block.anx, 0x044) ∉ t) (p : Wing) :
    anxSends g p = anxSends h p := by
  unfold anxSends anxUp
  rw [x.fbit p ANX_LINK_STATUS_UP ht (by decide), x.fbit p ANX_LINK_STATUS_TRAINING ht (by decide)]

/-- A request that a port takes is sent under the next MTAG (R156, R158). -/
theorem anxSent_anxRequest {h : Head} {w p : Wing} (coll : Nat) (b : AnxBody) (hp : anxPort h w = some p) :
    AnxSent h (anxRequest h w coll b).2 p (takeMtag h w).1 coll b := by
  unfold anxRequest
  have hf : Frame [.vit] [] h (takeMtag h w).2 := by
    cases w <;> exact (frame_mk h (by simp)).2 (frame_refl _ _ h)
  have hl : ∀ v, anxLink (takeMtag h w).2 v = anxLink h v := by
    cases w <;> exact fun _ => rfl
  generalize takeMtag h w = x at *
  obtain ⟨t, g⟩ := x
  generalize hk : ({ g with vit := { g.vit with unacked := g.vit.unacked ++ [⟨w, t, coll, b, false⟩] } } : Head) = k
  have hkg : Frame [.vit] [] g k := by
    rw [← hk]
    exact (frame_mk g (by simp)).2 (frame_refl _ _ g)
  have hkl : ∀ v, anxLink k v = anxLink h v := fun v => by
    rw [← hk]
    exact hl v
  have hpk : anxPort k w = some p := by
    unfold anxPort anxUp at hp ⊢
    simp only [(hf.trans hkg).fbit _ ANX_LINK_STATUS_UP (by decide) (by decide)]
    exact hp
  have hs : anxSend k w t coll b = anxPut k p t coll b := by
    unfold anxSend
    rw [hpk]
  dsimp only
  rw [hk, hs]
  obtain ⟨h1, h2, h3⟩ := anxSent_anxPut k p t coll b
  have hsend : anxSends k p = anxSends h p := anxSends_frame (hf.trans hkg) (by decide) p
  have hout : k.out = h.out := (hf.trans hkg).1 .out (by decide)
  unfold AnxSent
  rw [← hkl, ← hkl, ← hsend, ← hout]
  exact ⟨h1, h2, h3⟩

theorem anxSent_frame {l k : List Part} {t u : List (Block × Nat)} {g g' h h' : Head} {p : Wing} {mtag coll : Nat} {b : AnxBody}
    (x : Frame l t g g') (hv : .vit ∉ l) (ho : .out ∉ l) (ht : (Block.anx, 0x044) ∉ t) (y : Frame k u h h') (hv' : .vit ∉ k) (ho' : .out ∉ k)
    (hs : AnxSent g' h p mtag coll b) : AnxSent g h' p mtag coll b := by
  have hv1 : g'.vit = g.vit := x.1 .vit hv
  have hv2 : h'.vit = h.vit := y.1 .vit hv'
  have hl : ∀ w, anxLink g' w = anxLink g w := fun w => by
    unfold anxLink
    rw [hv1]
  have hl' : ∀ w, anxLink h' w = anxLink h w := fun w => by
    unfold anxLink
    rw [hv2]
  have ho1 : g'.out = g.out := x.1 .out ho
  have ho2 : h'.out = h.out := y.1 .out ho'
  obtain ⟨h1, h2, h3⟩ := hs
  unfold AnxSent
  rw [hl', hl', ho2, ← hl, ← hl, ← ho1, ← anxSends_frame x ht]
  exact ⟨h1, h2, h3⟩

theorem ckptMarked_shows (h : Head) (loc ms : Nat) : fget (ckptMarked h loc ms) .east CAT_CKPT_STATUS_IN_PROGRESS = 0 ∧
    fget (ckptMarked h loc ms) .east CAT_CKPT_LAST_NUMBER = (fget h .east CAT_CKPT_LAST_NUMBER + 1) % 2 ^ 32 := by
  have hk : (fget h .east CAT_CKPT_LAST_NUMBER + 1) % 2 ^ 32 < 4294967296 := Nat.mod_lt _ (by decide)
  unfold ckptMarked
  generalize (fget h .east CAT_CKPT_LAST_NUMBER + 1) % 2 ^ 32 = c at *
  simp only [fget_eq_bget, fset_regs]
  simp (disch := first | decide | rfl) [CAT_CKPT_STATUS_IN_PROGRESS, CAT_CKPT_STATUS_LAST_MS, CAT_CKPT_LAST_NUMBER]
  exact hk

def doneRegs : List (Block × Nat) := [(.cat, 0x010), (.cat, 0x050), (.cat, 0x054), (.cur, 0x074), (.cur, 0x078)]

theorem ckptDone_ends (s : State) (loc ms : Nat) (hrun : Runs s.dev) (hp : fget s.dev .east CAT_CKPT_STATUS_IN_PROGRESS = 1) :
    Completes (.ckptDone loc ms) s (fun h =>
      fget h .east CAT_CKPT_STATUS_IN_PROGRESS = 0 ∧
        fget h .east CAT_CKPT_LAST_NUMBER = (fget s.dev .east CAT_CKPT_LAST_NUMBER + 1) % 2 ^ 32 ∧
        h.cat.journal = (s.dev.cat.journal.take s.dev.cat.cut).filter isPeerEntry ++ s.dev.cat.journal.drop s.dev.cat.cut ∧
        h.cat.flash = s.dev.cat.cutSnap ∧ h.cat.flashSeal = s.dev.cat.cutSeal ∧ EventSet h .east Ev.CAT_CKPT_DONE ∧
        h.cat.nss = s.dev.cat.nss ∧
        (∀ p, hasPeer s.dev = true → anxPort s.dev .east = some p → ∃ t,
          AnxSent s.dev h p t 0 (.catUpdate [⟨0, 0, (fget s.dev .east CAT_CKPT_LAST_NUMBER + 1) % 2 ^ 32, 0, loc, 0⟩]))) := by
  refine completes_of_eq (exec_ckptDone loc ms) hrun (checkpointDone_eq s.dev loc ms hp) ?_
  have hm := frame_ckptMarked s.dev loc ms
  have hreg := ckptMarked_shows s.dev loc ms
  generalize (fget s.dev .east CAT_CKPT_LAST_NUMBER + 1) % 2 ^ 32 = c at *
  generalize ckptMarked s.dev loc ms = g at *
  have hsent := frame_markerSent g c loc
  have hpeer (p : Wing) (hx : hasPeer s.dev = true) (hp : anxPort s.dev .east = some p) :
      AnxSent g (markerSent g c loc) p (takeMtag g .east).1 0 (.catUpdate [⟨0, 0, c, 0, loc, 0⟩]) := by
    unfold markerSent
    have hx' : hasPeer g = true := by
      unfold hasPeer at hx ⊢
      rw [hm.pairState (by decide)]
      exact hx
    have hp' : anxPort g .east = some p := by
      unfold anxPort anxUp at hp ⊢
      simp only [hm.fbit _ ANX_LINK_STATUS_UP (by decide) (by decide)]
      exact hp
    rw [if_pos hx']
    exact anxSent_anxRequest 0 _ hp'
  generalize markerSent g c loc = k at *
  have hkcat : k.cat = s.dev.cat := (hsent.1 .cat (by decide)).trans (hm.1 .cat (by decide))
  have hstore := frame_syncStore k
  generalize syncStore k = k1 at *
  have hcat1 : k1.cat = s.dev.cat := (hstore.1 .cat (by decide)).trans hkcat
  have htrim := frame_journalTrimmed k1
  have hcat2 : (journalTrimmed k1).cat = { s.dev.cat with
      journal := (s.dev.cat.journal.take s.dev.cat.cut).filter isPeerEntry ++ s.dev.cat.journal.drop s.dev.cat.cut
      cut := 0
      flash := s.dev.cat.cutSnap
      flashSeal := s.dev.cat.cutSeal
      cutSnap := none } := by
    unfold journalTrimmed
    rw [hcat1]
  generalize journalTrimmed k1 = k2 at *
  have hj := frame_syncJournal k2
  have hr := frame_raise (syncJournal k2) .east 0 Ev.CAT_CKPT_DONE
  have hev : EventSet (raise (syncJournal k2) .east Ev.CAT_CKPT_DONE) .east Ev.CAT_CKPT_DONE := raiseAt_sets _ _ _ (by decide)
  have ha := frame_anchored (raise (syncJournal k2) .east Ev.CAT_CKPT_DONE)
  generalize anchored (raise (syncJournal k2) .east Ev.CAT_CKPT_DONE) = h at *
  have hend : Frame [.cat, .evq, .cur, .dsp] doneRegs k h :=
    ((hstore.mono (by decide) (by decide)).trans (htrim.mono (by decide) (by decide))).trans
      (((hj.mono (by decide) (by decide)).trans (hr.mono (by decide) (by decide))).trans (ha.mono (by decide) (by decide)))
  have hcat : h.cat = k2.cat := (ha.1 .cat (by decide)).trans ((hr.1 .cat (by decide)).trans (hj.1 .cat (by decide)))
  rw [hcat, hcat2]
  refine ⟨?_, ?_, rfl, rfl, rfl, (ha.eventSet _ Ev.CAT_CKPT_DONE (by decide) 0).mpr hev, rfl,
    fun p hx hp => ⟨(takeMtag g .east).1, ?_⟩⟩
  · rw [hend.fget _ CAT_CKPT_STATUS_IN_PROGRESS (by decide) (by decide), hsent.fget _ CAT_CKPT_STATUS_IN_PROGRESS (by decide) (by decide)]
    exact hreg.1
  · rw [hend.fget _ CAT_CKPT_LAST_NUMBER (by decide) (by decide), hsent.fget _ CAT_CKPT_LAST_NUMBER (by decide) (by decide)]
    exact hreg.2
  · exact anxSent_frame hm (by decide) (by decide) (by decide) hend (by decide) (by decide) (hpeer p hx hp)

/-! ### Page-ins (R187, R188) -/

/-- The Catalogue but for what its stores hold. -/
def SameButResident (h g : Head) : Prop := g = { h with cat := { h.cat with resident := g.cat.resident } }

theorem usePage_resident (h : Head) (nsid : Nat) (p : Nat × Nat) : SameButResident h (usePage h nsid p) := by
  unfold usePage SameButResident
  dsimp only
  split <;> rfl

theorem usePath_resident (h : Head) (nsid leaf : Nat) : SameButResident h (usePath h nsid leaf) := by
  refine foldHead_keeps (fun g => SameButResident h g) (fun g p hx => ?_) _ h rfl
  unfold SameButResident at hx
  have := usePage_resident g nsid p
  unfold SameButResident at this ⊢
  rw [hx] at this ⊢
  exact this

/-- A page in use is held. -/
theorem usePage_holds (h : Head) (nsid : Nat) (p : Nat × Nat) : (usePage h nsid p).cat.resident.any (isPage nsid p.1 p.2) = true := by
  unfold usePage
  dsimp only
  split
  · rename_i hr
    obtain ⟨r, hm, hp⟩ := List.any_eq_true.mp hr
    refine List.any_eq_true.mpr ⟨_, List.mem_map_of_mem hm, ?_⟩
    rw [if_pos hp]
    exact hp
  · simp [isPage]

theorem usePath_holds (h : Head) (nsid leaf : Nat) : (usePath h nsid leaf).cat.resident.any (isPage nsid 0 leaf) = true :=
  usePage_holds _ nsid (0, leaf)

theorem frame_usePath (h : Head) (nsid leaf : Nat) : Frame [.cat] [] h (usePath h nsid leaf) := by
  have hx := usePath_resident h nsid leaf
  unfold SameButResident at hx
  rw [hx]
  exact (frame_mk h (by simp)).2 (frame_refl _ _ h)

theorem cat_usePath (h : Head) (nsid leaf : Nat) : (usePath h nsid leaf).cat.nss = h.cat.nss ∧ (usePath h nsid leaf).cat.lines = h.cat.lines := by
  have hx := usePath_resident h nsid leaf
  unfold SameButResident at hx
  rw [hx]
  exact ⟨rfl, rfl⟩

theorem pageIn_sound (h : Head) (nsid leaf : Nat) (rebuilt : Bool) :
    pageIn h nsid leaf true rebuilt = usePath (fadd h (homeOf h nsid) CAT_CNT_PAGEIN_COUNT) nsid leaf := by
  unfold pageIn
  exact if_pos rfl

theorem pageIn_takes (s : State) (nsid leaf : Nat) (rebuilt : Bool) (hrun : Runs s.dev) :
    Completes (.pageIn nsid leaf true rebuilt) s (fun h =>
      fget h (homeOf s.dev nsid) CAT_CNT_PAGEIN_COUNT = min (fget s.dev (homeOf s.dev nsid) CAT_CNT_PAGEIN_COUNT + 1) (2 ^ 32 - 1) ∧
        h = usePath (fadd s.dev (homeOf s.dev nsid) CAT_CNT_PAGEIN_COUNT) nsid leaf ∧ h.cat.resident.any (isPage nsid 0 leaf) = true ∧
        h.cat.nss = s.dev.cat.nss ∧ h.cat.lines = s.dev.cat.lines ∧ RegsBut s.dev h [(.cat, 0x080)]) := by
  refine completes_of_eq (exec_pageIn nsid leaf true rebuilt) hrun (pageIn_sound s.dev nsid leaf rebuilt) ?_
  have ha := frame_fadd s.dev (homeOf s.dev nsid) 0 0 CAT_CNT_PAGEIN_COUNT 1
  have hu := frame_usePath (fadd s.dev (homeOf s.dev nsid) CAT_CNT_PAGEIN_COUNT) nsid leaf
  have hregs := ((ha.mono (l := [.cat]) (t := [(.cat, 0x080)]) (by decide) (by decide)).trans (hu.mono (by decide) (by decide))).2
  obtain ⟨hnss, hlines⟩ := cat_usePath (fadd s.dev (homeOf s.dev nsid) CAT_CNT_PAGEIN_COUNT) nsid leaf
  refine ⟨?_, rfl, usePath_holds .., hnss, hlines, hregs⟩
  rw [hu.fget _ CAT_CNT_PAGEIN_COUNT (by decide) (by decide)]
  exact fget_fadd_same s.dev _ CAT_CNT_PAGEIN_COUNT 1 0 0 (by decide) (by decide)

/-- A page whose seal has failed, counted on its home wing (R187). -/
def sealFailed (h : Head) (w : Wing) : Head := raise (fadd (fadd h w CAT_CNT_PAGEIN_COUNT) w CAT_CNT_SEAL_COUNT) w Ev.CAT_SEAL_FAIL

def pageRegs : List (Block × Nat) := [(.cat, 0x010), (.cat, 0x080), (.cat, 0x084)]

theorem frame_sealFailed (h : Head) (w : Wing) : Frame [.evq] pageRegs h (sealFailed h w) := by
  simp +decide only [sealFailed, frame_rules, frame_refl]

theorem pageIn_rebuilds (s : State) (nsid leaf : Nat) (hrun : Runs s.dev) :
    Completes (.pageIn nsid leaf false true) s (fun h =>
      EventSet h (homeOf s.dev nsid) Ev.CAT_SEAL_FAIL ∧ h.cat.resident.any (isPage nsid 0 leaf) = true ∧ h.foy = s.dev.foy ∧
        h.cat.nss = s.dev.cat.nss ∧ RegsBut s.dev h [(.cat, 0x010), (.cat, 0x080), (.cat, 0x084)]) := by
  have heq : pageIn s.dev nsid leaf false true = usePath (sealFailed s.dev (homeOf s.dev nsid)) nsid leaf := by
    unfold pageIn
    exact (if_neg (by decide)).trans (if_pos rfl)
  have hf := frame_sealFailed s.dev (homeOf s.dev nsid)
  have hu := frame_usePath (sealFailed s.dev (homeOf s.dev nsid)) nsid leaf
  have ht := (hf.mono (l := [.evq, .cat]) (by decide) (t := pageRegs) (by decide)).trans (hu.mono (by decide) (by decide))
  refine completes_of_eq (exec_pageIn nsid leaf false true) hrun heq ⟨?_, usePath_holds .., ht.1 .foy (by decide), ?_, ht.2⟩
  · exact (hu.eventSet _ Ev.CAT_SEAL_FAIL (by decide) 0).mpr (raiseAt_sets _ _ _ (by decide))
  · exact (cat_usePath (sealFailed s.dev (homeOf s.dev nsid)) nsid leaf).1.trans (congrArg CatState.nss (hf.1 .cat (by decide)))

/-- Whether a capsule needs a page of a map (R187). -/
def needsPage (nsid leaf : Nat) (c : Capsule) : Bool :=
  c.nsid == nsid && decide (c.slba < 512 * (leaf + 1)) && decide (512 * leaf < c.slba + c.count)

/-- The commands that need a page failed. -/
def pageLost (h : Head) (nsid leaf : Nat) : Head :=
  { h with foy := { h.foy with cmds := tabMap h.foy.cmds (fun _ c => if needsPage nsid leaf c.cap then { c with failed := some .checkFail } else c) } }

theorem pageIn_lost (h : Head) (nsid leaf : Nat) : pageIn h nsid leaf false false = pageLost (sealFailed h (homeOf h nsid)) nsid leaf := by
  unfold pageIn
  exact (if_neg (by decide)).trans (if_neg (by decide))

theorem tabGet?_tabMap {α β : Type} (t : Tab α) (f : Nat → α → β) (k : Nat) : tabGet? (tabMap t f) k = (tabGet? t k).map (f k) := by
  induction t with
  | nil => rfl
  | cons e t ih =>
    obtain ⟨j, v⟩ := e
    show (if j = k then some (f j v) else tabGet? (tabMap t f) k) = (if j = k then some v else tabGet? t k).map (f k)
    split
    · rename_i hj
      rw [hj]
      rfl
    · exact ih

theorem pageIn_fails (s : State) (nsid leaf : Nat) (hrun : Runs s.dev) :
    Completes (.pageIn nsid leaf false false) s (fun h =>
      EventSet h (homeOf s.dev nsid) Ev.CAT_SEAL_FAIL ∧
        (∀ k c, tabGet? s.dev.foy.cmds k = some c → c.cap.nsid = nsid → c.cap.slba < 512 * (leaf + 1) →
          512 * leaf < c.cap.slba + c.cap.count → tabGet? h.foy.cmds k = some { c with failed := some .checkFail }) ∧
        RegsBut s.dev h [(.cat, 0x010), (.cat, 0x080), (.cat, 0x084)] ∧ h.cat = s.dev.cat) := by
  have hf := frame_sealFailed s.dev (homeOf s.dev nsid)
  have hev : EventSet (sealFailed s.dev (homeOf s.dev nsid)) (homeOf s.dev nsid) Ev.CAT_SEAL_FAIL := raiseAt_sets _ _ _ (by decide)
  refine completes_of_eq (exec_pageIn nsid leaf false false) hrun (pageIn_lost s.dev nsid leaf) ?_
  generalize sealFailed s.dev (homeOf s.dev nsid) = g at *
  have hl : Frame [.foy] [] g (pageLost g nsid leaf) := (frame_mk g (by simp)).2 (frame_refl _ _ g)
  have hfoy : g.foy = s.dev.foy := hf.1 .foy (by decide)
  refine ⟨(hl.eventSet _ Ev.CAT_SEAL_FAIL (by decide) 0).mpr hev, fun k c hc hn ha hb => ?_, ?_, hf.1 .cat (by decide)⟩
  · unfold pageLost
    dsimp only
    rw [tabGet?_tabMap, hfoy, hc]
    exact congrArg some (if_pos (by simp [needsPage, hn, ha, hb]))
  · exact ((hf.mono (l := [.evq, .foy]) (by decide) (t := pageRegs) (by decide)).trans (hl.mono (by decide) (by decide))).2

/-- Settles O34, a lemma for each command: what a freeze and a checkpoint keep of the maps is `MapsKept`, the pages written are `Wrote`. -/
theorem editionsAndCheckpoints : Obligations.EditionsAndCheckpoints := by
  unfold Obligations.EditionsAndCheckpoints
  exact ⟨nsFreeze_freezes, editionDelete_walks, ckptNow_begins, ckptInterval_begins, ckptDone_ends, pageIn_takes, pageIn_rebuilds, pageIn_fails⟩

end Sys2Proof.Laws
end

section
/-! Replication at the source (R339 to R361): a collection's record, the lock, consignments, numbered editions and the replies. -/

namespace Sys2Proof.Laws

open Machine Machine.Reg

/-! ### A collection's record -/

theorem rplUpd_rpl (h : Head) (coll : Nat) (f : RplColl → RplColl) :
    (rplUpd h coll f).rpl = { h.rpl with colls := tabPut h.rpl.colls coll (f (rplColl h coll)) } := rfl

theorem frame_rplUpd (h : Head) (coll : Nat) (f : RplColl → RplColl) : Frame [.rpl] [(.rpl, 0x054)] h (rplUpd h coll f) := by
  simp +decide only [rplUpd, syncRpl, frame_rules, frame_mk, true_or, or_true, and_self, frame_refl]

theorem rplColl_congr {h g : Head} (x : g.rpl.colls = h.rpl.colls) (coll : Nat) : rplColl g coll = rplColl h coll := by
  unfold rplColl
  rw [x]

theorem rplColl_rplUpd (h : Head) (coll : Nat) (f : RplColl → RplColl) : rplColl (rplUpd h coll f) coll = f (rplColl h coll) := by
  rw [rplColl, rplUpd_rpl]
  exact congrArg (Option.getD · _) (tabGet?_tabPut_same ..)

theorem rplMode_rplUpd (h : Head) (coll : Nat) (f : RplColl → RplColl) : rplMode (rplUpd h coll f) coll = rplMode h coll := by
  unfold rplMode rplUpd syncRpl
  simp only [fget_eq_bget, fset_regs]
  simp (disch := first | decide | rfl) [RPL_MAP_MODE_MODE, RPL_MAP_MODE_STATE]

theorem rplResult_shows (h : Head) (coll : Nat) (st : Status) : fget (rplResult h coll st) .east RPL_PROGRESS_RESULT coll = statusCode st := by
  have hs : statusCode st < 256 := by cases st <;> decide
  unfold rplResult
  simp only [fget_eq_bget, fset_regs]
  simp (disch := first | decide | rfl) [RPL_PROGRESS_RESULT]
  exact hs

theorem frame_rplResult (h : Head) (coll : Nat) (st : Status) : Frame [] [(.rpl, 0x070)] h (rplResult h coll st) :=
  frame_fset h .east coll 0 RPL_PROGRESS_RESULT (statusCode st)

/-! ### Commands on a collection -/

/-- A command on a collection whose namespaces this head owns (R349). -/
theorem rplCommand_owned {h : Head} {ini : Initiator} {w : Wing} {coll : Nat} (f : Head → Nat → Head) (hw : Writable h ini (pg .rpl w) 0x068)
    (hc : coll = fget h w RPL_MAP_INDEX_INDEX) (ho : ∀ n ∈ rplNs h coll, n.owned = true) : rplCommand h ini w f = f (reply h false) coll := by
  unfold rplCommand
  rw [withWrite_ok _ _ _ _ _ hw]
  dsimp only
  rw [show fget (reply h false) w RPL_MAP_INDEX_INDEX = coll from hc.symm]
  refine if_neg fun hx => ?_
  obtain ⟨n, hn, hno⟩ := List.any_eq_true.mp hx
  rw [ho n hn] at hno
  exact absurd hno (by decide)

/-- A message to the keeper sent. -/
theorem keeperSend_out (h : Head) (coll : Nat) (cas : Bool) (offset arg swap : Nat) : (keeperSend h coll cas offset arg swap).out =
    h.out ++ [.keeper coll (fget h .east RPL_MAP_KEEPER_CONTEXT coll) (fget h .east RPL_MAP_RKEY_RKEY coll) cas offset arg swap] := rfl

theorem frame_keeperSend (h : Head) (coll : Nat) (cas : Bool) (offset arg swap : Nat) :
    Frame [.out] [] h (keeperSend h coll cas offset arg swap) := frame_send h _

/-- The lock taken by one CAS (R351). -/
def locked (h : Head) (coll seen : Nat) : Head :=
  rplUpd (keeperSend h coll true 8 seen (lockWord h seen)) coll (fun c => { c with lock := lockWord h seen })

/-- The lock as last seen, free or held here, is taken where it still stands so (R351). -/
theorem takeLock_seen {h : Head} {coll seen : Nat} (force : Bool) (rest : List (Option Nat)) (hs : seen = (rplColl h coll).lock)
    (hm : lockHeld seen = true → lockMine h seen = true) : takeLock h coll force (some seen :: rest) = (locked h coll seen, .done) := by
  have hc : (lockHeld (rplColl h coll).lock && !lockMine h (rplColl h coll).lock && !force) = false := by
    rw [← hs]
    cases hh : lockHeld seen with
    | false => rfl
    | true =>
      rw [hm hh]
      rfl
  unfold takeLock
  dsimp only
  rw [hc]
  simp only [Bool.false_eq_true, ↓reduceIte, ← hs]
  rfl

theorem frame_locked (h : Head) (coll seen : Nat) : Frame [.rpl, .out] [(.rpl, 0x054)] h (locked h coll seen) :=
  ((frame_keeperSend h coll true 8 seen _).mono (by decide) (by decide)).trans ((frame_rplUpd ..).mono (by decide) (by decide))

theorem rplColl_locked (h : Head) (coll seen : Nat) : rplColl (locked h coll seen) coll = { rplColl h coll with lock := lockWord h seen } :=
  rplColl_rplUpd ..

/-! ### Consignments (R352) -/

/-- A consignment at its start: its messages, and what it needs. -/
def shipOf (h : Head) (coll edition : Nat) (resume : Bool) : Ship :=
  let shares := (rplNs h coll).map (nsShare h coll edition (fget h .east RPL_MAP_BASE_EDITION coll))
  let changed := (shares.map (fun x => x.2.2)).sum
  ⟨edition, fget h .east RPL_MAP_BASE_EDITION coll, resume, false, false, (shares.map (·.1)).flatten, (shares.map (fun x => x.2.1)).flatten, changed, changed⟩

/-- A consignment's base and edition held, its record set. -/
def shipReady (h : Head) (coll edition : Nat) (resume : Bool) : Head :=
  setLeft (setShip { h with cat := { h.cat with
    heldEditions := h.cat.heldEditions ++ [(coll, fget h .east RPL_MAP_BASE_EDITION coll), (coll, edition)] } } coll (some (shipOf h coll edition resume)))
    coll (shipOf h coll edition resume).changed

theorem startShip_eq (h : Head) (coll edition : Nat) (resume : Bool) : startShip h coll edition resume =
    (rplRequest (shipReady h coll edition resume) coll 0 (.begin edition (fget h .east RPL_MAP_BASE_EDITION coll))).2 := rfl

theorem frame_setShip (h : Head) (coll : Nat) (x : Option Ship) : Frame [.rpl] [(.rpl, 0x054)] h (setShip h coll x) := frame_rplUpd ..

theorem frame_setLeft (h : Head) (coll n : Nat) : Frame [] [(.rpl, 0x070)] h (setLeft h coll n) := frame_fset h .east coll 0 RPL_PROGRESS_LEFT _

/-- A request sent under the collection's next RTAG (R342). -/
theorem rplRequest_sends (h : Head) (coll nsid : Nat) (b : RplBody) :
    rplColl (rplRequest h coll nsid b).2 coll = { rplColl h coll with rtag := (rplColl h coll).rtag + 1 } ∧
      (rplRequest h coll nsid b).2.rpl.reqs = h.rpl.reqs ++ [⟨coll, (rplColl h coll).rtag, nsid, b, false⟩] ∧
      (rplRequest h coll nsid b).2.out =
        h.out ++ [.rpl coll (fget h .east RPL_MAP_CONN_CONTEXT coll) (rtypeOf b) 0 nsid (rplColl h coll).rtag b] ∧
      Frame [.rpl, .out] [(.rpl, 0x054)] h (rplRequest h coll nsid b).2 := by
  have hu := frame_rplUpd h coll (fun c => { c with rtag := (rplColl h coll).rtag + 1 })
  refine ⟨?_, rfl, ?_, ?_⟩
  · exact rplColl_rplUpd h coll (fun c => { c with rtag := (rplColl h coll).rtag + 1 })
  · have hc := hu.fget .east RPL_MAP_CONN_CONTEXT (by decide) (by decide) coll 0
    rw [← hc]
    rfl
  · refine (hu.mono (by decide) (by decide)).trans ?_
    generalize hk : rplUpd h coll (fun c => { c with rtag := (rplColl h coll).rtag + 1 }) = k at *
    refine Frame.trans ((frame_mk k (by simp)).2 (frame_refl _ _ k) : Frame _ _ k { k with rpl := { k.rpl with
      reqs := k.rpl.reqs ++ [⟨coll, (rplColl h coll).rtag, nsid, b, false⟩] } }) ?_
    have := frame_send { k with rpl := { k.rpl with reqs := k.rpl.reqs ++ [⟨coll, (rplColl h coll).rtag, nsid, b, false⟩] } }
      (.rpl coll (fget k .east RPL_MAP_CONN_CONTEXT coll) (rtypeOf b) 0 nsid (rplColl h coll).rtag b)
    simp only [rplRequest, hk]
    exact this.mono (by decide) (by decide)

/-- What the start of a consignment leaves (R352). -/
structure ShipStarted (g h : Head) (coll edition : Nat) (resume : Bool) : Prop where
  record : rplColl h coll = { rplColl g coll with ship := some (shipOf g coll edition resume), rtag := (rplColl g coll).rtag + 1 }
  reqs : h.rpl.reqs = g.rpl.reqs ++ [⟨coll, (rplColl g coll).rtag, 0, .begin edition (fget g .east RPL_MAP_BASE_EDITION coll), false⟩]
  sent : h.out = g.out ++ [.rpl coll (fget g .east RPL_MAP_CONN_CONTEXT coll) 2 0 0 (rplColl g coll).rtag
    (.begin edition (fget g .east RPL_MAP_BASE_EDITION coll))]
  cat : h.cat = { g.cat with heldEditions := g.cat.heldEditions ++ [(coll, fget g .east RPL_MAP_BASE_EDITION coll), (coll, edition)] }
  frame : Frame [.rpl, .out, .cat] [(.rpl, 0x054), (.rpl, 0x070)] g h

theorem startShip_starts (g : Head) (coll edition : Nat) (resume : Bool) : ShipStarted g (startShip g coll edition resume) coll edition resume := by
  rw [startShip_eq]
  generalize hb : fget g .east RPL_MAP_BASE_EDITION coll = base
  generalize hg0 : ({ g with cat := { g.cat with heldEditions := g.cat.heldEditions ++ [(coll, base), (coll, edition)] } } : Head) = g0
  have hr : shipReady g coll edition resume = setLeft (setShip g0 coll (some (shipOf g coll edition resume))) coll (shipOf g coll edition resume).changed := by
    unfold shipReady
    rw [hb, hg0]
  rw [hr]
  have hf0 : Frame [.cat] [] g g0 := by
    rw [← hg0]
    exact (frame_mk g (by simp)).2 (frame_refl _ _ g)
  have hcat0 : g0.cat = { g.cat with heldEditions := g.cat.heldEditions ++ [(coll, base), (coll, edition)] } := by rw [← hg0]
  have hs := frame_setShip g0 coll (some (shipOf g coll edition resume))
  have hc : rplColl (setShip g0 coll (some (shipOf g coll edition resume))) coll = { rplColl g0 coll with ship := some (shipOf g coll edition resume) } :=
    rplColl_rplUpd ..
  have hq : (setShip g0 coll (some (shipOf g coll edition resume))).rpl.reqs = g0.rpl.reqs := rfl
  generalize setShip g0 coll (some (shipOf g coll edition resume)) = g1 at *
  have hl := frame_setLeft g1 coll (shipOf g coll edition resume).changed
  have hc2 : rplColl (setLeft g1 coll (shipOf g coll edition resume).changed) coll = rplColl g1 coll := rfl
  have hq2 : (setLeft g1 coll (shipOf g coll edition resume).changed).rpl.reqs = g1.rpl.reqs := rfl
  generalize setLeft g1 coll (shipOf g coll edition resume).changed = g2 at *
  obtain ⟨h1, h2, h3, h4⟩ := rplRequest_sends g2 coll 0 (.begin edition base)
  generalize (rplRequest g2 coll 0 (.begin edition base)).2 = h at *
  have hcoll0 : rplColl g0 coll = rplColl g coll := rplColl_congr (congrArg RplState.colls (hf0.1 .rpl (by decide))) coll
  have hx : Frame [.rpl, .cat] [(.rpl, 0x054), (.rpl, 0x070)] g g2 :=
    (hf0.mono (by decide) (by decide)).trans ((hs.mono (by decide) (by decide)).trans (hl.mono (by decide) (by decide)))
  rw [hc2, hc, hcoll0] at h1 h2 h3
  refine ⟨h1, ?_, ?_, ?_, (hx.mono (by decide) (by decide)).trans (h4.mono (by decide) (by decide))⟩
  · rw [h2, hq2, hq, hb]
    exact congrArg (·.reqs ++ _) (hf0.1 .rpl (by decide))
  · rw [h3, hx.fget _ RPL_MAP_CONN_CONTEXT (by decide) (by decide), hb]
    exact congrArg (· ++ _) (hx.1 .out (by decide))
  · rw [hb, ← hcat0]
    exact (h4.1 .cat (by decide)).trans ((hl.1 .cat (by decide)).trans (hs.1 .cat (by decide)))

end Sys2Proof.Laws
end

section
/-! Replication at the source (R347 to R358): each of its commands, replies and timeouts. -/

namespace Sys2Proof.Laws

open Machine Machine.Reg

/-! ### SHIP and RESUME_SYNC (R349, R352) -/

theorem rplShip_ships (s : State) (ini : Initiator) (w : Wing) (coll e base seen : Nat) (rest : List (Option Nat)) (hrun : Runs s.dev)
    (hw : Writable s.dev ini (pg .rpl w) 0x068) (hc : coll = fget s.dev w RPL_MAP_INDEX_INDEX) (ho : ∀ n ∈ rplNs s.dev coll, n.owned = true)
    (hu : rplOutstanding s.dev coll = false) (hst : rplState s.dev coll = 2 ∨ rplState s.dev coll = 4)
    (he : e = fget s.dev .east RPL_EDITION_NUMBER coll) (hm : mayShip s.dev coll e = true) (hb : base = fget s.dev .east RPL_MAP_BASE_EDITION coll)
    (hs : seen = (rplColl s.dev coll).lock) (hl : lockHeld seen = true → lockMine s.dev seen = true) :
    Completes (.rplShip ini w (some seen :: rest)) s (fun h =>
      h.out = s.dev.out ++ [.keeper coll (fget s.dev .east RPL_MAP_KEEPER_CONTEXT coll) (fget s.dev .east RPL_MAP_RKEY_RKEY coll) true 8 seen
          (lockWord s.dev seen),
        .rpl coll (fget s.dev .east RPL_MAP_CONN_CONTEXT coll) 2 0 0 (rplColl s.dev coll).rtag (.begin e base)] ∧
      (rplColl h coll).lock = lockWord s.dev seen ∧
      (∃ sh : Ship, (rplColl h coll).ship = some sh ∧ sh.edition = e ∧ sh.base = base ∧ sh.resume = false ∧ sh.begun = false) ∧
      h.rpl.reqs = s.dev.rpl.reqs ++ [⟨coll, (rplColl s.dev coll).rtag, 0, .begin e base, false⟩] ∧
      h.cat = { s.dev.cat with heldEditions := s.dev.cat.heldEditions ++ [(coll, base), (coll, e)] } ∧ h.mem = s.dev.mem ∧
      h.vit = s.dev.vit) := by
  have heq : rplCommand s.dev ini w (fun h c => shipCmd h c (some seen :: rest)) = startShip (locked (reply s.dev false) coll seen) coll e false := by
    refine (rplCommand_owned _ hw hc ho).trans ?_
    unfold shipCmd
    rw [show fget (reply s.dev false) .east RPL_EDITION_NUMBER coll = e from he.symm]
    refine (if_neg ?_).trans ?_
    · refine not_or.mpr ⟨by rw [show rplOutstanding (reply s.dev false) coll = false from hu]; decide, not_or.mpr ⟨?_, ?_⟩⟩
      · rintro ⟨h2, h4⟩
        exact hst.elim h2 h4
      · rw [show mayShip (reply s.dev false) coll e = true from hm]
        decide
    · rw [takeLock_seen (h := reply s.dev false) false rest hs hl]
      exact if_neg (by decide)
  refine completes_of_eq (exec_rplShip ini w _) hrun heq ?_
  have hf := frame_locked (reply s.dev false) coll seen
  have hr := rplColl_locked (reply s.dev false) coll seen
  have hout : (locked (reply s.dev false) coll seen).out = s.dev.out ++ [.keeper coll (fget s.dev .east RPL_MAP_KEEPER_CONTEXT coll)
    (fget s.dev .east RPL_MAP_RKEY_RKEY coll) true 8 seen (lockWord s.dev seen)] := rfl
  have hreqs : (locked (reply s.dev false) coll seen).rpl.reqs = s.dev.rpl.reqs := rfl
  generalize locked (reply s.dev false) coll seen = g at *
  have hbase : fget g .east RPL_MAP_BASE_EDITION coll = base := (hf.fget .east RPL_MAP_BASE_EDITION (by decide) (by decide) coll 0).trans hb.symm
  have hconn : fget g .east RPL_MAP_CONN_CONTEXT coll = fget s.dev .east RPL_MAP_CONN_CONTEXT coll :=
    hf.fget .east RPL_MAP_CONN_CONTEXT (by decide) (by decide) coll 0
  have hcoll : rplColl g coll = { rplColl s.dev coll with lock := lockWord s.dev seen } := hr
  have hcat : g.cat = s.dev.cat := hf.1 .cat (by decide)
  obtain ⟨h1, h2, h3, h4, h5⟩ := startShip_starts g coll e false
  rw [hbase] at h2 h3 h4
  rw [hcoll] at h1 h2 h3
  refine ⟨?_, ?_, ⟨_, by rw [h1], rfl, hbase, rfl, rfl⟩, ?_, ?_, ?_, ?_⟩
  · rw [h3, hout, hconn, List.append_assoc]
    rfl
  · rw [h1]
  · rw [h2, hreqs]
  · rw [h4, hcat]
  · exact (h5.1 .mem (by decide)).trans (hf.1 .mem (by decide))
  · exact (h5.1 .vit (by decide)).trans (hf.1 .vit (by decide))

theorem resumeSync_ships (s : State) (ini : Initiator) (w : Wing) (coll : Nat) (lock : List (Option Nat)) (original : Option Nat) (g0 g : Head)
    (hrun : Runs s.dev) (hw : Writable s.dev ini (pg .rpl w) 0x068) (hc : coll = fget s.dev w RPL_MAP_INDEX_INDEX)
    (ho : ∀ n ∈ rplNs s.dev coll, n.owned = true) (hu : rplOutstanding s.dev coll = false) (hst : rplState s.dev coll = 4)
    (hmode : rplMode s.dev coll = 1) (hlock : takeLock (reply s.dev false) coll false lock = (g0, .done))
    (hfr : freezeNumbered (rplUpd g0 coll (fun c => { c with hold := true })) coll original = (g, .done))
    (hm : mayShip g coll (fget g .east RPL_EDITION_NUMBER coll) = true) :
    Completes (.resumeSync ini w lock original) s (fun h =>
      (∃ sh : Ship, (rplColl h coll).ship = some sh ∧ sh.edition = fget g .east RPL_EDITION_NUMBER coll ∧ sh.resume = true) ∧
        h = startShip g coll (fget g .east RPL_EDITION_NUMBER coll) true) := by
  have heq : rplCommand s.dev ini w (fun h c => resumeSyncCmd h c lock original) = startShip g coll (fget g .east RPL_EDITION_NUMBER coll) true := by
    refine (rplCommand_owned _ hw hc ho).trans ?_
    unfold resumeSyncCmd
    refine (if_neg ?_).trans ?_
    · exact not_or.mpr ⟨by rw [show rplOutstanding (reply s.dev false) coll = false from hu]; decide, not_or.mpr ⟨fun h => h hst, fun h => h hmode⟩⟩
    · rw [hlock]
      dsimp only
      rw [if_neg (by decide), hfr]
      dsimp only
      rw [if_neg (by decide)]
      exact if_pos hm
  refine completes_of_eq (exec_resumeSync ini w lock original) hrun heq ⟨?_, rfl⟩
  exact ⟨_, congrArg RplColl.ship (startShip_starts g coll _ true).record, rfl, rfl⟩

/-! ### Numbered editions (R350) -/

/-- In SYNC the edition point joins the queue. -/
def pointQueued (h : Head) (coll number base : Nat) : Head :=
  if rplState h coll ≠ 1 then h
  else { h with rpl := { h.rpl with queue := h.rpl.queue ++
    [⟨coll, 0, 0, 0, 0, some (number, base, ((rplNs h coll).map (fun n => (nsDiff n number base).length)).sum)⟩] } }

theorem foldHead_one {α : Type} (h : Head) (a : α) (f : Head → α → Head) : foldHead h [a] f = f h a := rfl

/-- Every namespace of a collection frozen at a number. -/
def collFrozen (h : Head) (coll number : Nat) : Head := foldHead h (rplNs h coll) (fun h n => freezeNs h n number)

theorem freezeNumbered_eq (h : Head) (coll o number : Nat) (hn : number = (o + 1) % 2 ^ 32) (hm : mayFreeze h coll number = .done) :
    freezeNumbered h coll (some o) =
      (pointQueued (fset (collFrozen (keeperSend h coll false 0 1 0) coll number) .east RPL_EDITION_NUMBER number coll) coll
        number (newestNumber h coll), .done) := by
  have hf : freezeColl (keeperSend h coll false 0 1 0) coll number = (collFrozen (keeperSend h coll false 0 1 0) coll number, .done) := by
    unfold freezeColl
    rw [show mayFreeze (keeperSend h coll false 0 1 0) coll number = .done from hm]
    rfl
  unfold freezeNumbered
  dsimp only
  rw [← hn, hf]
  dsimp only
  rw [if_neg (by decide)]
  unfold pointQueued
  split <;> rfl

theorem frame_collFrozen (h : Head) (coll number : Nat) : Frame [.freeCtr, .cat, .evq, .vit, .out, .cur] freezeRegs h (collFrozen h coll number) :=
  frame_foldHead_mem fun g n _ => frame_freezeNs g n number

theorem outGrows_collFrozen (h : Head) (coll number : Nat) : OutGrows h (collFrozen h coll number) :=
  outGrows_foldHead (fun g n => outGrows_freezeNs g n number) _ _

theorem frame_pointQueued (h : Head) (coll number base : Nat) : Frame [.rpl] [] h (pointQueued h coll number base) := by
  unfold pointQueued
  split
  · exact frame_refl _ _ h
  · exact (frame_mk h (by simp)).2 (frame_refl _ _ h)

theorem freezeNumbered_freezes (s : State) (ini : Initiator) (w : Wing) (coll o number : Nat) (hrun : Runs s.dev)
    (hw : Writable s.dev ini (pg .rpl w) 0x068) (hc : coll = fget s.dev w RPL_MAP_INDEX_INDEX) (ho : ∀ n ∈ rplNs s.dev coll, n.owned = true)
    (hmode : rplMode s.dev coll = 1 ∨ rplMode s.dev coll = 2) (hn : number = (o + 1) % 2 ^ 32) (hm : mayFreeze s.dev coll number = .done) :
    Completes (.freezeNumbered ini w (some o)) s (fun h =>
      fget h .east RPL_EDITION_NUMBER coll = number ∧ fget h .east RPL_PROGRESS_RESULT coll = 0 ∧
        (∃ l, h.out = s.dev.out ++ .keeper coll (fget s.dev .east RPL_MAP_KEEPER_CONTEXT coll) (fget s.dev .east RPL_MAP_RKEY_RKEY coll)
          false 0 1 0 :: l) ∧
        (∀ n, rplNs s.dev coll = [n] → nsGet? s.dev n.nsid = some n → ∃ (n' : Namespace) (e : Edition), nsGet? h n.nsid = some n' ∧
          n'.editions = n.editions ++ [e] ∧ e.number = number ∧ e.leaves = n.leaves ∧ n'.leaves = n.leaves) ∧ h.mem = s.dev.mem) := by
  have hnum : number < 4294967296 := by omega
  have heq : rplCommand s.dev ini w (fun h c => freezeNumberedCmd h c (some o)) = rplResult (pointQueued (fset (collFrozen
      (keeperSend (reply s.dev false) coll false 0 1 0) coll number) .east RPL_EDITION_NUMBER number coll) coll number (newestNumber (reply s.dev false) coll)) coll .done := by
    refine (rplCommand_owned _ hw hc ho).trans ?_
    unfold freezeNumberedCmd
    rw [if_neg (by rw [show rplMode (reply s.dev false) coll = rplMode s.dev coll from rfl]; omega)]
    rw [freezeNumbered_eq (reply s.dev false) coll o number hn hm]
  refine completes_of_eq (exec_freezeNumbered ini w _) hrun heq ?_
  have hout : (keeperSend (reply s.dev false) coll false 0 1 0).out = s.dev.out ++ [.keeper coll (fget s.dev .east RPL_MAP_KEEPER_CONTEXT coll)
    (fget s.dev .east RPL_MAP_RKEY_RKEY coll) false 0 1 0] := rfl
  have hns : rplNs (keeperSend (reply s.dev false) coll false 0 1 0) coll = rplNs s.dev coll := rfl
  have hget (k : Nat) : nsGet? (keeperSend (reply s.dev false) coll false 0 1 0) k = nsGet? s.dev k := rfl
  have hmem : (keeperSend (reply s.dev false) coll false 0 1 0).mem = s.dev.mem := rfl
  generalize keeperSend (reply s.dev false) coll false 0 1 0 = g at *
  have hf := frame_collFrozen g coll number
  obtain ⟨l, hl⟩ := outGrows_collFrozen g coll number
  have hone (n : Namespace) (h1 : rplNs s.dev coll = [n]) : collFrozen g coll number = freezeNs g n number := by
    unfold collFrozen
    rw [hns, h1, foldHead_one]
  generalize collFrozen g coll number = g1 at *
  have hset := frame_fset g1 .east coll 0 RPL_EDITION_NUMBER number
  have hval : fget (fset g1 .east RPL_EDITION_NUMBER number coll) .east RPL_EDITION_NUMBER coll  = number := by
    simp only [fget_eq_bget, fset_regs]
    simp (disch := first | decide | rfl) [RPL_EDITION_NUMBER]
    exact hnum
  generalize fset g1 .east RPL_EDITION_NUMBER number coll = g2 at *
  have hq := frame_pointQueued g2 coll number (newestNumber (reply s.dev false) coll)
  generalize pointQueued g2 coll number (newestNumber (reply s.dev false) coll) = g3 at *
  have hr := frame_rplResult g3 coll .done
  have hx : Frame [.rpl] [(.rpl, 0x06C), (.rpl, 0x070)] g1 (rplResult g3 coll .done) :=
    (hset.mono (by decide) (by decide)).trans ((hq.mono (by decide) (by decide)).trans (hr.mono (by decide) (by decide)))
  refine ⟨?_, rplResult_shows .., ⟨l, ?_⟩, fun n h1 h2 => ?_, ?_⟩
  · rw [hr.fget _ RPL_EDITION_NUMBER (by decide) (by decide), hq.fget _ RPL_EDITION_NUMBER (by decide) (by decide), hval]
  · rw [show (rplResult g3 coll .done).out = g1.out from hx.1 .out (by decide), hl, hout, List.append_assoc]
    rfl
  · rw [nsGet?_congr (congrArg CatState.nss (hx.1 .cat (by decide))), hone n h1]
    obtain ⟨n', e, h3, h4, h5, h6, -, -, -, -, h7, -⟩ := freezeNs_edition (h := g) (n := n) number ((hget n.nsid).trans h2)
    exact ⟨n', e, h3, h4, h5, h6, h7⟩
  · exact (hx.1 .mem (by decide)).trans ((hf.1 .mem (by decide)).trans hmem)

theorem freezeNumbered_unanswered (s : State) (ini : Initiator) (w : Wing) (coll : Nat) (hrun : Runs s.dev)
    (hw : Writable s.dev ini (pg .rpl w) 0x068) (hc : coll = fget s.dev w RPL_MAP_INDEX_INDEX) (ho : ∀ n ∈ rplNs s.dev coll, n.owned = true)
    (hmode : rplMode s.dev coll = 1 ∨ rplMode s.dev coll = 2) :
    Completes (.freezeNumbered ini w none) s (fun h =>
      fget h .east RPL_PROGRESS_RESULT coll = statusCode .timeout ∧ h.cat = s.dev.cat ∧ h.mem = s.dev.mem ∧
        RegsBut s.dev h [(.rpl, 0x070)]) := by
  have heq : rplCommand s.dev ini w (fun h c => freezeNumberedCmd h c none) = rplResult (keeperSend (reply s.dev false) coll false 0 1 0) coll .timeout := by
    refine (rplCommand_owned _ hw hc ho).trans ?_
    unfold freezeNumberedCmd
    rw [if_neg (by rw [show rplMode (reply s.dev false) coll = rplMode s.dev coll from rfl]; omega)]
    rfl
  refine completes_of_eq (exec_freezeNumbered ini w none) hrun heq ⟨rplResult_shows .., rfl, rfl, ?_⟩
  exact (frame_rplResult (keeperSend (reply s.dev false) coll false 0 1 0) coll .timeout).2

end Sys2Proof.Laws
end

section
/-! Replication at the source: roles, consignments that stop, replies and timeouts (R347, R356 to R358). -/

namespace Sys2Proof.Laws

open Machine Machine.Reg

/-! ### Roles (R357, R358) -/

/-- A collection's mode set, its record as for a new role. -/
def roleTaken (h : Head) (coll : Nat) : Head := rplUpd h coll (fun c => { c with begun := none, sync := false, diverged := false })

theorem rplColl_roleTaken (h : Head) (coll : Nat) : rplColl (roleTaken h coll) coll = { rplColl h coll with begun := none, sync := false, diverged := false } :=
  rplColl_rplUpd ..

theorem rplMode_roleTaken (h : Head) (coll : Nat) : rplMode (roleTaken h coll) coll = rplMode h coll := rplMode_rplUpd ..

theorem frame_roleTaken (h : Head) (coll : Nat) : Frame [.rpl] [(.rpl, 0x054)] h (roleTaken h coll) := frame_rplUpd ..

/-- A result changes no collection's record. -/
theorem rplColl_rplResult (h : Head) (coll k : Nat) (st : Status) : rplColl (rplResult h coll st) k = rplColl h k :=
  rplColl_congr (congrArg RplState.colls ((frame_rplResult h coll st).1 .rpl (by decide))) k

theorem rplMode_rplResult (h : Head) (coll k : Nat) (st : Status) : rplMode (rplResult h coll st) k = rplMode h k :=
  (frame_rplResult h coll st).fget .east RPL_MAP_MODE_MODE (by decide) (by decide) k 0

/-- The collection's requests that came and wait no more. -/
def incomingDropped (h : Head) (coll : Nat) : Head :=
  { h with rpl := { h.rpl with incoming := h.rpl.incoming.filter (fun q => q.1 != coll) } }

/-- ASYNC from an edition (R357). -/
def asyncFrom (h : Head) (coll newest : Nat) : Head :=
  fset (fset (incomingDropped h coll) .east RPL_MAP_MODE_MODE 2 coll) .east RPL_MAP_BASE_EDITION newest coll

/-- A collection promoted (R357). -/
def promoted (h : Head) (coll newest : Nat) : Head := rplResult (roleTaken (asyncFrom h coll newest) coll) coll .done

theorem frame_asyncFrom (h : Head) (coll newest : Nat) : Frame [.rpl] [(.rpl, 0x054), (.rpl, 0x064)] h (asyncFrom h coll newest) := by
  simp +decide only [asyncFrom, incomingDropped, frame_rules, frame_mk, true_or, or_true, and_self, frame_refl]

theorem asyncFrom_shows (h : Head) (coll newest : Nat) (hn : newest < 2 ^ 32) : rplMode (asyncFrom h coll newest) coll = 2 ∧
    fget (asyncFrom h coll newest) .east RPL_MAP_BASE_EDITION coll = newest ∧ rplColl (asyncFrom h coll newest) coll = rplColl h coll := by
  refine ⟨?_, ?_, rfl⟩
  · unfold rplMode asyncFrom
    simp only [fget_eq_bget, fset_regs]
    simp (disch := first | decide | rfl) [RPL_MAP_MODE_MODE, RPL_MAP_BASE_EDITION]
  · unfold asyncFrom
    simp only [fget_eq_bget, fset_regs]
    simp (disch := first | decide | rfl) [RPL_MAP_BASE_EDITION]
    exact hn

theorem frame_promoted (h : Head) (coll newest : Nat) : Frame [.rpl] [(.rpl, 0x054), (.rpl, 0x064), (.rpl, 0x070)] h (promoted h coll newest) := by
  simp +decide only [promoted, (frame_rplResult ..).iff, (frame_roleTaken ..).iff, (frame_asyncFrom ..).iff, frame_refl]

theorem promoted_shows (h : Head) (coll newest : Nat) (hn : newest < 2 ^ 32) :
    rplMode (promoted h coll newest) coll = 2 ∧ fget (promoted h coll newest) .east RPL_MAP_BASE_EDITION coll = newest ∧
      fget (promoted h coll newest) .east RPL_PROGRESS_RESULT coll = 0 ∧
      rplColl (promoted h coll newest) coll = { rplColl h coll with begun := none, sync := false, diverged := false } := by
  obtain ⟨h1, h2, h3⟩ := asyncFrom_shows h coll newest hn
  unfold promoted
  generalize asyncFrom h coll newest = g at *
  refine ⟨?_, ?_, rplResult_shows .., ?_⟩
  · rw [rplMode_rplResult, rplMode_roleTaken, h1]
  · rw [(frame_rplResult _ coll .done).fget .east RPL_MAP_BASE_EDITION (by decide) (by decide),
      (frame_roleTaken g coll).fget .east RPL_MAP_BASE_EDITION (by decide) (by decide), h2]
  · rw [rplColl_rplResult, rplColl_roleTaken, h3]

theorem collHome_frame {l : List Part} {t : List (Block × Nat)} {h g : Head} (x : Frame l t h g) (hb : .bindings ∉ l) (coll : Nat) :
    collHome g coll = collHome h coll := by
  unfold collHome
  rw [x.1 .bindings hb]

theorem newestNumber_congr {h g : Head} (x : g.cat = h.cat) (coll : Nat) : newestNumber g coll = newestNumber h coll := by
  unfold newestNumber rplNs nsOfColl
  rw [x]

theorem rplPromote_promotes (s : State) (ini : Initiator) (w : Wing) (coll seen : Nat) (force : Bool) (rest : List (Option Nat)) (hrun : Runs s.dev)
    (hw : Writable s.dev ini (pg .rpl w) 0x068) (hc : coll = fget s.dev w RPL_MAP_INDEX_INDEX) (ho : ∀ n ∈ rplNs s.dev coll, n.owned = true)
    (hmode : rplMode s.dev coll = 3) (hs : seen = (rplColl s.dev coll).lock) (hl : lockHeld seen = true → lockMine s.dev seen = true)
    (hsync : (rplColl s.dev coll).sync = true) (hbegun : (rplColl s.dev coll).begun = none) (hin : ∀ q ∈ s.dev.rpl.incoming, q.1 ≠ coll)
    (hnew : newestNumber s.dev coll < 2 ^ 32) :
    Completes (.rplPromote ini w force (some seen :: rest)) s (fun h =>
      rplMode h coll = 2 ∧ fget h .east RPL_MAP_BASE_EDITION coll = newestNumber s.dev coll ∧
        fget h .east RPL_PROGRESS_RESULT coll = 0 ∧ (rplColl h coll).lock = lockWord s.dev seen ∧ (rplColl h coll).sync = false ∧
        EventSet h (collHome s.dev coll) Ev.RPL_PROMOTED ∧ h.cat = s.dev.cat ∧ h.vit = s.dev.vit ∧ h.mem = s.dev.mem ∧
        h.out = s.dev.out ++ [.keeper coll (fget s.dev .east RPL_MAP_KEEPER_CONTEXT coll) (fget s.dev .east RPL_MAP_RKEY_RKEY coll) true 8
          seen (lockWord s.dev seen)]) := by
  have hf := frame_locked (reply s.dev false) coll seen
  have hr : rplColl (locked (reply s.dev false) coll seen) coll = { rplColl s.dev coll with lock := lockWord s.dev seen } := rplColl_locked ..
  have hout : (locked (reply s.dev false) coll seen).out = s.dev.out ++ [.keeper coll (fget s.dev .east RPL_MAP_KEEPER_CONTEXT coll)
    (fget s.dev .east RPL_MAP_RKEY_RKEY coll) true 8 seen (lockWord s.dev seen)] := rfl
  have hinc : (locked (reply s.dev false) coll seen).rpl.incoming = s.dev.rpl.incoming := rfl
  have hlock := takeLock_seen (h := reply s.dev false) force rest hs hl
  have hnn : newestNumber (locked (reply s.dev false) coll seen) coll = newestNumber s.dev coll := newestNumber_congr (hf.1 .cat (by decide)) coll
  generalize locked (reply s.dev false) coll seen = g at *
  have heq : rplCommand s.dev ini w (fun h c => promoteCmd h c force (some seen :: rest)) =
      raise (promoted g coll (newestNumber g coll)) (collHome (roleTaken (asyncFrom g coll (newestNumber g coll)) coll) coll) Ev.RPL_PROMOTED := by
    refine (rplCommand_owned _ hw hc ho).trans ?_
    unfold promoteCmd
    rw [if_neg (fun h => h hmode), hlock]
    dsimp only
    rw [if_neg (by decide), if_neg (by rw [hr, hsync, hbegun]; decide)]
    have hlate : g.rpl.incoming.filter (fun q => q.1 == coll) = [] := by
      rw [hinc, List.filter_eq_nil_iff]
      exact fun q hq h => hin q hq (by simpa using h)
    rw [hlate]
    rfl
  refine completes_of_eq (exec_rplPromote ini w force _) hrun heq ?_
  rw [hnn]
  have hp := frame_promoted g coll (newestNumber s.dev coll)
  have hhome : collHome (roleTaken (asyncFrom g coll (newestNumber s.dev coll)) coll) coll = collHome s.dev coll :=
    (collHome_frame (frame_roleTaken ..) (by decide) coll).trans
      ((collHome_frame (frame_asyncFrom ..) (by decide) coll).trans (collHome_frame hf (by decide) coll))
  obtain ⟨h1, h2, h3, h4⟩ := promoted_shows g coll (newestNumber s.dev coll) hnew
  generalize promoted g coll (newestNumber s.dev coll) = k at *
  have hra := frame_raise k (collHome s.dev coll) 0 Ev.RPL_PROMOTED
  have hev : EventSet (raise k (collHome s.dev coll) Ev.RPL_PROMOTED) (collHome s.dev coll) Ev.RPL_PROMOTED := raiseAt_sets _ _ _ (by decide)
  rw [hhome]
  have hk : Frame [.rpl, .evq] [(.rpl, 0x010), (.rpl, 0x054), (.rpl, 0x064), (.rpl, 0x070)] g (raise k (collHome s.dev coll) Ev.RPL_PROMOTED) :=
    (hp.mono (by decide) (by decide)).trans (hra.mono (by decide) (by decide))
  have hcoll : rplColl (raise k (collHome s.dev coll) Ev.RPL_PROMOTED) coll = rplColl k coll := rplColl_congr (congrArg RplState.colls (hra.1 .rpl (by decide))) coll
  rw [hr] at h4
  refine ⟨?_, ?_, ?_, ?_, ?_, hev, ?_, ?_, ?_, ?_⟩
  · exact (hra.fget .east RPL_MAP_MODE_MODE (by decide) (by decide) coll 0).trans h1
  · exact (hra.fget .east RPL_MAP_BASE_EDITION (by decide) (by decide) coll 0).trans h2
  · exact (hra.fget .east RPL_PROGRESS_RESULT (by decide) (by decide) coll 0).trans h3
  · rw [hcoll, h4]
  · rw [hcoll, h4]
  · exact (hk.1 .cat (by decide)).trans (hf.1 .cat (by decide))
  · exact (hk.1 .vit (by decide)).trans (hf.1 .vit (by decide))
  · exact (hk.1 .mem (by decide)).trans (hf.1 .mem (by decide))
  · exact (hk.1 .out (by decide)).trans hout

theorem frame_revertNs (h : Head) (n : Namespace) (e : Edition) : Frame [.cat, .vit, .evq] slotRegs h (revertNs h n e) := by
  simp +decide only [revertNs, nsUpd, (frame_freeSlots ..).iff, frame_mk, true_or, or_true, and_self, frame_refl]

theorem frame_revertColl (h : Head) (coll number : Nat) : Frame [.cat, .vit, .evq] slotRegs h (revertColl h coll number) := by
  refine frame_foldHead_mem fun g n _ => ?_
  split
  · exact frame_revertNs ..
  · exact frame_refl _ _ g

/-- The collection's granules and edition points that waited to be sent dropped. -/
def queueDropped (h : Head) (coll : Nat) : Head := { h with rpl := { h.rpl with queue := h.rpl.queue.filter (fun q => q.coll != coll) } }

theorem rplDemote_demotes (s : State) (ini : Initiator) (w : Wing) (coll : Nat) (hrun : Runs s.dev)
    (hw : Writable s.dev ini (pg .rpl w) 0x068) (hc : coll = fget s.dev w RPL_MAP_INDEX_INDEX) (ho : ∀ n ∈ rplNs s.dev coll, n.owned = true)
    (hl : holdsLock s.dev coll = false) (hu : rplOutstanding s.dev coll = false)
    (he : ∀ n ∈ rplNs s.dev coll, (editionOf n (fget s.dev .east RPL_EDITION_NUMBER coll)).isSome = true) :
    Completes (.rplDemote ini w) s (fun h =>
      rplMode h coll = 3 ∧ fget h .east RPL_PROGRESS_RESULT coll = 0 ∧ (∀ q ∈ h.rpl.queue, q.coll ≠ coll) ∧
        (rplColl h coll).sync = false ∧ (rplColl h coll).begun = none ∧ h.mem = s.dev.mem) := by
  have heq : rplCommand s.dev ini w demoteCmd = rplResult (roleTaken (queueDropped (fset (revertColl (reply s.dev false) coll
      (fget (reply s.dev false) .east RPL_EDITION_NUMBER coll)) .east RPL_MAP_MODE_MODE 3 coll) coll) coll) coll .done := by
    refine (rplCommand_owned _ hw hc ho).trans ?_
    unfold demoteCmd
    dsimp only
    rw [if_neg (by rw [show holdsLock (reply s.dev false) coll = false from hl]; decide), if_neg]
    · rfl
    · refine not_or.mpr ⟨by rw [show rplOutstanding (reply s.dev false) coll = false from hu]; decide, fun hx => ?_⟩
      exact absurd hx (by rw [Bool.not_eq_false]; exact List.all_eq_true.mpr he)
  refine completes_of_eq (exec_rplDemote ini w) hrun heq ?_
  have hv := frame_revertColl (reply s.dev false) coll (fget (reply s.dev false) .east RPL_EDITION_NUMBER coll)
  generalize revertColl (reply s.dev false) coll (fget (reply s.dev false) .east RPL_EDITION_NUMBER coll) = g at *
  have hmode : rplMode (queueDropped (fset g .east RPL_MAP_MODE_MODE 3 coll) coll) coll = 3 := by
    unfold rplMode queueDropped
    simp only [fget_eq_bget, fset_regs]
    simp (disch := first | decide | rfl) [RPL_MAP_MODE_MODE]
  have hq : ∀ q ∈ (queueDropped (fset g .east RPL_MAP_MODE_MODE 3 coll) coll).rpl.queue, q.coll ≠ coll := fun q hx => by
    simpa using (List.mem_filter.mp hx).2
  have hmem : (queueDropped (fset g .east RPL_MAP_MODE_MODE 3 coll) coll).mem = s.dev.mem := hv.1 .mem (by decide)
  generalize queueDropped (fset g .east RPL_MAP_MODE_MODE 3 coll) coll = k at *
  have hcoll := (rplColl_rplResult (roleTaken k coll) coll coll .done).trans (rplColl_roleTaken k coll)
  have hend : (rplResult (roleTaken k coll) coll .done).rpl.queue = k.rpl.queue := rfl
  refine ⟨?_, rplResult_shows .., hend ▸ hq, by rw [hcoll], by rw [hcoll], ?_⟩
  · rw [rplMode_rplResult, rplMode_roleTaken, hmode]
  · exact ((frame_rplResult (roleTaken k coll) coll .done).1 .mem (by decide)).trans (((frame_roleTaken k coll).1 .mem (by decide)).trans hmem)

/-! ### A consignment that stops (R356) -/

/-- What the end of a consignment leaves. -/
structure ShipStopped (g h : Head) (coll : Nat) (st : Status) : Prop where
  ship : (rplColl h coll).ship = none
  result : fget h .east RPL_PROGRESS_RESULT coll = statusCode st
  event : EventSet h (collHome g coll) Ev.RPL_SHIP_FAIL
  held : ∀ e ∈ h.cat.heldEditions, e.1 ≠ coll
  reqs : ∀ r ∈ h.rpl.reqs, r.coll ≠ coll
  frame : Frame [.rpl, .cat, .gal, .evq] [(.rpl, 0x010), (.rpl, 0x054), (.rpl, 0x070)] g h

theorem clearShip_clears (h : Head) (coll : Nat) (x : Ship) : (rplColl (clearShip h coll x) coll).ship = none ∧
    (∀ e ∈ (clearShip h coll x).cat.heldEditions, e.1 ≠ coll) ∧ (∀ r ∈ (clearShip h coll x).rpl.reqs, r.coll ≠ coll) := by
  unfold clearShip
  dsimp only
  refine ⟨by rw [rplColl_rplUpd], ?_, ?_⟩
  · split <;> exact fun e he => by simpa using (List.mem_filter.mp he).2
  · split <;> exact fun r hr => by simpa using (List.mem_filter.mp hr).2

theorem endShip_stops {h : Head} {coll : Nat} (st : Status) (hs : (rplColl h coll).ship ≠ none) : ShipStopped h (endShip h coll st) coll st := by
  have hf := (endShip_keeps h coll st).1
  obtain ⟨x, hx⟩ := Option.ne_none_iff_exists'.mp hs
  have heq : endShip h coll st = raise (rplResult (clearShip h coll x) coll st) (collHome h coll) Ev.RPL_SHIP_FAIL := by
    unfold endShip
    rw [hx]
  rw [heq] at hf ⊢
  obtain ⟨h1, h2, h3⟩ := clearShip_clears h coll x
  generalize clearShip h coll x = g at *
  have hra := frame_raise (rplResult g coll st) (collHome h coll) 0 Ev.RPL_SHIP_FAIL
  have hrpl : (raise (rplResult g coll st) (collHome h coll) Ev.RPL_SHIP_FAIL).rpl = g.rpl := hra.1 .rpl (by decide)
  have hcat : (raise (rplResult g coll st) (collHome h coll) Ev.RPL_SHIP_FAIL).cat = g.cat := hra.1 .cat (by decide)
  refine ⟨?_, ?_, raiseAt_sets _ _ _ (by decide), hcat ▸ h2, hrpl ▸ h3, hf⟩
  · rw [rplColl_congr (congrArg RplState.colls hrpl)]
    exact h1
  · exact (hra.fget .east RPL_PROGRESS_RESULT (by decide) (by decide) coll 0).trans (rplResult_shows ..)

theorem rplAbort_stops (s : State) (ini : Initiator) (w : Wing) (coll : Nat) (hrun : Runs s.dev) (hw : Writable s.dev ini (pg .rpl w) 0x068)
    (hc : coll = fget s.dev w RPL_MAP_INDEX_INDEX) (ho : ∀ n ∈ rplNs s.dev coll, n.owned = true) (hs : (rplColl s.dev coll).ship ≠ none) :
    Completes (.rplAbort ini w) s (fun h =>
      (rplColl h coll).ship = none ∧ fget h .east RPL_PROGRESS_RESULT coll = statusCode .aborted ∧
        EventSet h (collHome s.dev coll) Ev.RPL_SHIP_FAIL ∧ (∀ e ∈ h.cat.heldEditions, e.1 ≠ coll) ∧ (∀ r ∈ h.rpl.reqs, r.coll ≠ coll) ∧
        h.mem = s.dev.mem ∧ h.out = s.dev.out) := by
  have heq : rplCommand s.dev ini w abortCmd = endShip (reply s.dev false) coll .aborted := by
    refine (rplCommand_owned _ hw hc ho).trans ?_
    obtain ⟨x, hx⟩ := Option.ne_none_iff_exists'.mp hs
    unfold abortCmd
    rw [show (rplColl (reply s.dev false) coll).ship = some x from hx]
  obtain ⟨h1, h2, h3, h4, h5, h6⟩ := endShip_stops (h := reply s.dev false) .aborted hs
  exact completes_of_eq (exec_rplAbort ini w) hrun heq ⟨h1, h2, h3, h4, h5, h6.1 .mem (by decide), h6.1 .out (by decide)⟩

/-! ### Replies and timeouts (R347, R352) -/

/-- A request that has been answered leaves those outstanding. -/
def answeredReq (h : Head) (coll rtag : Nat) : Head :=
  { h with rpl := { h.rpl with reqs := h.rpl.reqs.filter (fun x => !(x.coll == coll && x.rtag == rtag)) } }

/-- A granule's flight is over. -/
def landed (h : Head) (coll rtag : Nat) : Head :=
  { h with rpl := { h.rpl with flight := h.rpl.flight.filter (fun q => !(q.1 == rtag && q.2.coll == coll)) } }

theorem fget_fmax (h : Head) (w : Wing) (f : Fld) (v bank inst : Nat) (hl : f.lo ≤ f.hi) (h32 : f.hi < 32) (hv : v < 2 ^ (f.hi - f.lo + 1)) :
    fget (fmax h w f v bank inst) w f bank inst = max (fget h w f bank inst) v := by
  have hlt := fget_lt h w f bank inst
  have hm : min v (2 ^ (f.hi - f.lo + 1) - 1) = v := by omega
  unfold fmax
  rw [hm]
  exact bget_bput_same_of_lt _ _ _ _ _ _ _ _ _ hl h32 (max_lt hlt hv)

theorem rplReply_syncWrite (s : State) (coll rtag micros : Nat) (r : RplReq) (es : List (Nat × Nat × Nat)) (have' : List Bool) (hrun : Runs s.dev)
    (hc : coll < 4096) (hr : s.dev.rpl.reqs.find? (fun r => r.coll == coll && r.rtag == rtag) = some r) (hb : r.body = .syncWrite es)
    (hs : (rplColl s.dev coll).ship = none) :
    Completes (.rplReply coll rtag .done have' micros) s (fun h =>
      h.rpl.reqs = s.dev.rpl.reqs.filter (fun x => !(x.coll == coll && x.rtag == rtag)) ∧
        h.rpl.flight = s.dev.rpl.flight.filter (fun q => !(q.1 == rtag && q.2.coll == coll)) ∧
        fget h (collHome s.dev coll) RPL_SYNC_MAX_MICROS =
          max (fget s.dev (collHome s.dev coll) RPL_SYNC_MAX_MICROS) (min micros (2 ^ 32 - 1)) ∧
        RegsBut s.dev h [(.rpl, 0x080)] ∧ h.mem = s.dev.mem ∧ h.cat = s.dev.cat ∧ h.vit = s.dev.vit ∧ h.out = s.dev.out) := by
  have heq : rplReplyMsg s.dev (coll % 4096) rtag .done have' micros =
      landed (fmax (answeredReq s.dev coll rtag) (collHome s.dev coll) RPL_SYNC_MAX_MICROS (min micros (2 ^ 32 - 1))) coll rtag := by
    rw [Nat.mod_eq_of_lt hc]
    unfold rplReplyMsg
    rw [hr]
    dsimp only
    rw [show (rplColl { s.dev with rpl := { s.dev.rpl with reqs := s.dev.rpl.reqs.filter (fun x => !(x.coll == coll && x.rtag == rtag)) } } coll).ship =
      none from hs, hb]
    exact if_pos rfl
  have hm : min micros (2 ^ 32 - 1) < 2 ^ 32 := by omega
  refine completes_of_eq (exec_rplReply coll rtag .done have' micros) hrun heq ?_
  generalize min micros (2 ^ 32 - 1) = m at *
  have hf : Frame [.rpl] [(.rpl, 0x080)] s.dev (landed (fmax (answeredReq s.dev coll rtag) (collHome s.dev coll) RPL_SYNC_MAX_MICROS m) coll rtag) := by
    simp +decide only [landed, answeredReq, frame_rules, frame_mk, true_or, or_true, and_self, frame_refl]
  refine ⟨rfl, rfl, ?_, hf.2, rfl, rfl, rfl, rfl⟩
  exact fget_fmax (answeredReq s.dev coll rtag) (collHome s.dev coll) RPL_SYNC_MAX_MICROS m 0 0 (by decide) (by decide) hm

/-- BEGIN is answered, the consignment goes on (R352). -/
theorem rplReply_begin (s : State) (coll rtag micros e b : Nat) (r : RplReq) (sh : Ship) (have' : List Bool) (hrun : Runs s.dev) (hc : coll < 4096)
    (hr : s.dev.rpl.reqs.find? (fun r => r.coll == coll && r.rtag == rtag) = some r) (hb : r.body = .begin e b)
    (hs : (rplColl s.dev coll).ship = some sh) :
    Completes (.rplReply coll rtag .done have' micros) s (fun h =>
      (rplColl h coll).ship = some { sh with begun := true } ∧
        h.rpl.reqs = s.dev.rpl.reqs.filter (fun x => !(x.coll == coll && x.rtag == rtag)) ∧ h.cat = s.dev.cat ∧ h.out = s.dev.out ∧
        h.mem = s.dev.mem) := by
  have heq : rplReplyMsg s.dev (coll % 4096) rtag .done have' micros = setShip (answeredReq s.dev coll rtag) coll (some { sh with begun := true }) := by
    rw [Nat.mod_eq_of_lt hc]
    unfold rplReplyMsg
    rw [hr]
    dsimp only
    rw [show (rplColl { s.dev with rpl := { s.dev.rpl with reqs := s.dev.rpl.reqs.filter (fun x => !(x.coll == coll && x.rtag == rtag)) } } coll).ship =
      some sh from hs]
    dsimp only
    unfold shipReply
    dsimp only
    rw [if_neg (by decide), hb]
    rfl
  refine completes_of_eq (exec_rplReply coll rtag .done have' micros) hrun heq ⟨?_, rfl, rfl, rfl, rfl⟩
  exact congrArg RplColl.ship (rplColl_rplUpd ..)

theorem reqs_found {h : Head} {coll rtag : Nat} (hq : ∃ r ∈ h.rpl.reqs, r.coll = coll ∧ r.rtag = rtag) :
    ∃ r, h.rpl.reqs.find? (fun r => r.coll == coll && r.rtag == rtag) = some r := by
  obtain ⟨r, hm, h1, h2⟩ := hq
  exact Option.isSome_iff_exists.mp (List.find?_isSome.mpr ⟨r, hm, by simp [h1, h2]⟩)

/-- What waited to be sent of a collection dropped. -/
def syncDropped (h : Head) (coll : Nat) : Head :=
  { h with rpl := { h.rpl with
    reqs := h.rpl.reqs.filter (fun r => r.coll != coll)
    queue := h.rpl.queue.filter (fun q => q.coll != coll)
    flight := h.rpl.flight.filter (fun q => q.2.coll != coll) } }

theorem syncTimeout_diverges (s : State) (coll rtag : Nat) (hrun : Runs s.dev) (hc : coll < 4096)
    (hq : ∃ r ∈ s.dev.rpl.reqs, r.coll = coll ∧ r.rtag = rtag) (hs : (rplColl s.dev coll).ship = none) (hd : (rplColl s.dev coll).diverged = false) :
    Completes (.syncTimeout coll rtag) s (fun h =>
      (rplColl h coll).diverged = true ∧ EventSet h (collHome s.dev coll) Ev.RPL_SYNC_BROKEN ∧ (∀ r ∈ h.rpl.reqs, r.coll ≠ coll) ∧
        (∀ q ∈ h.rpl.queue, q.coll ≠ coll) ∧ h.cat = s.dev.cat ∧ h.vit = s.dev.vit ∧ h.mem = s.dev.mem ∧ h.out = s.dev.out) := by
  have heq : syncTimeout s.dev (coll % 4096) rtag =
      raise (rplUpd (syncDropped s.dev coll) coll (fun c => { c with diverged := true })) (collHome s.dev coll) Ev.RPL_SYNC_BROKEN := by
    obtain ⟨r, hr⟩ := reqs_found hq
    rw [Nat.mod_eq_of_lt hc]
    unfold syncTimeout rplTimeout
    rw [hs, hr]
    dsimp only [Option.isSome_none]
    rw [if_neg (by decide), if_neg (by decide)]
    unfold diverge
    rw [hd]
    exact if_neg (by decide)
  have hu : Frame [.rpl] [(.rpl, 0x054)] s.dev (rplUpd (syncDropped s.dev coll) coll (fun c => { c with diverged := true })) := by
    simp +decide only [syncDropped, (frame_rplUpd ..).iff, frame_mk, true_or, or_true, and_self, frame_refl]
  have hcoll : (rplColl (rplUpd (syncDropped s.dev coll) coll (fun c => { c with diverged := true })) coll).diverged = true := by rw [rplColl_rplUpd]
  have h1 : ∀ r ∈ (rplUpd (syncDropped s.dev coll) coll (fun c => { c with diverged := true })).rpl.reqs, r.coll ≠ coll := fun r hx => by
    simpa using (List.mem_filter.mp hx).2
  have h2 : ∀ q ∈ (rplUpd (syncDropped s.dev coll) coll (fun c => { c with diverged := true })).rpl.queue, q.coll ≠ coll := fun q hx => by
    simpa using (List.mem_filter.mp hx).2
  refine completes_of_eq (exec_syncTimeout coll rtag) hrun heq ?_
  generalize rplUpd (syncDropped s.dev coll) coll (fun c => { c with diverged := true }) = g at *
  have hra := frame_raise g (collHome s.dev coll) 0 Ev.RPL_SYNC_BROKEN
  have hrpl : (raise g (collHome s.dev coll) Ev.RPL_SYNC_BROKEN).rpl = g.rpl := hra.1 .rpl (by decide)
  refine ⟨?_, raiseAt_sets _ _ _ (by decide), hrpl ▸ h1, hrpl ▸ h2, ?_, ?_, ?_, ?_⟩
  · rw [rplColl_congr (congrArg RplState.colls hrpl)]
    exact hcoll
  · exact (hra.1 .cat (by decide)).trans (hu.1 .cat (by decide))
  · exact (hra.1 .vit (by decide)).trans (hu.1 .vit (by decide))
  · exact (hra.1 .mem (by decide)).trans (hu.1 .mem (by decide))
  · exact (hra.1 .out (by decide)).trans (hu.1 .out (by decide))

theorem asyncTimeout_stops (s : State) (coll rtag : Nat) (hrun : Runs s.dev) (hc : coll < 4096)
    (hq : ∃ r ∈ s.dev.rpl.reqs, r.coll = coll ∧ r.rtag = rtag) (hs : (rplColl s.dev coll).ship ≠ none) :
    Completes (.asyncTimeout coll rtag) s (fun h =>
      (rplColl h coll).ship = none ∧ fget h .east RPL_PROGRESS_RESULT coll = statusCode .timeout ∧
        EventSet h (collHome s.dev coll) Ev.RPL_SHIP_FAIL ∧ h.mem = s.dev.mem ∧ h.out = s.dev.out) := by
  have heq : asyncTimeout s.dev (coll % 4096) rtag = endShip s.dev coll .timeout := by
    obtain ⟨r, hr⟩ := reqs_found hq
    rw [Nat.mod_eq_of_lt hc]
    unfold asyncTimeout rplTimeout
    rw [hr, if_pos (Option.isSome_iff_ne_none.mpr hs), if_pos (Option.isSome_iff_ne_none.mpr hs)]
  obtain ⟨h1, h2, h3, -, -, h6⟩ := endShip_stops .timeout hs
  exact completes_of_eq (exec_asyncTimeout coll rtag) hrun heq ⟨h1, h2, h3, h6.1 .mem (by decide), h6.1 .out (by decide)⟩

/-- Settles O46, a lemma for each command: a consignment's start is `ShipStarted` and its stop `ShipStopped`; the freeze of each namespace is
`freezeNs_edition`. -/
theorem replicationAtTheSource : Obligations.ReplicationAtTheSource := by
  unfold Obligations.ReplicationAtTheSource
  exact ⟨rplShip_ships, freezeNumbered_freezes, freezeNumbered_unanswered, resumeSync_ships, rplPromote_promotes, rplDemote_demotes, rplAbort_stops,
    rplReply_syncWrite, rplReply_begin, syncTimeout_diverges, asyncTimeout_stops⟩

end Sys2Proof.Laws
end

section
/-! The ways of a Catalogue cache (R196 to R198) and the Registrar's batches, compares, reindexing and replay (R192, R201 to R205). -/

namespace Sys2Proof.Laws

open Machine Machine.Reg

/-! ### A way's bits -/

theorem frame_wayBit (h : Head) (w : Wing) (f : Fld) (k : Nat) (on : Bool) : Frame [] [(f.block, f.off % 4096)] h (wayBit h w f k on) :=
  frame_fset h w 0 0 f _

theorem testBit_bitPut_of_ne (v : Nat) {j k : Nat} (hj : j ≠ k) (on : Bool) : (bitPut v k on).testBit j = v.testBit j := by
  unfold bitPut
  cases on with
  | true =>
    rw [if_pos rfl, Nat.testBit_or, Nat.one_shiftLeft, Nat.testBit_two_pow_of_ne (Ne.symm hj), Bool.or_false]
  | false =>
    rw [if_neg (by decide), Nat.one_shiftLeft]
    split
    · rw [testBit_sub_bit _ _ _ ‹_›, decide_eq_true hj, Bool.true_and]
    · rfl

/-- A bit of a field after one of its bits is set or cleared. -/
theorem testBit_wayBit (h : Head) (w : Wing) (f : Fld) (j k : Nat) (on : Bool) (hl : f.lo ≤ f.hi) (h32 : f.hi < 32) (hj : j < f.hi - f.lo + 1) :
    (fget (wayBit h w f k on) w f).testBit j = if j = k then on else (fget h w f).testBit j := by
  show (bget (bput h.regs f.block w 0 f.off f.hi f.lo 0 (bitPut (bget h.regs f.block w 0 f.off f.hi f.lo 0) k on)) f.block w 0 f.off f.hi f.lo 0).testBit j = _
  split
  · rename_i hk
    subst hk
    exact testBit_bget_bitPut _ _ _ _ _ _ _ _ _ _ hl h32 hj
  · rename_i hk
    rw [bget_bput_same _ _ _ _ _ _ _ _ _ hl h32, Nat.testBit_mod_two_pow, decide_eq_true hj, Bool.true_and, testBit_bitPut_of_ne _ hk]
    rfl

theorem cleaning_wayBit_dark (h : Head) (w : Wing) (k : Nat) (on : Bool) :
    fget (wayBit h w CCH_WAY_STATE_DARK k on) w CCH_WAY_STATE_CLEANING = fget h w CCH_WAY_STATE_CLEANING := by
  unfold wayBit
  simp (disch := decide) only [fget_eq_bget, fsetBit_regs, CCH_WAY_STATE_DARK, CCH_WAY_STATE_CLEANING, bget_bput_bits]

theorem dark_wayBit_cleaning (h : Head) (w : Wing) (k : Nat) (on : Bool) :
    fget (wayBit h w CCH_WAY_STATE_CLEANING k on) w CCH_WAY_STATE_DARK = fget h w CCH_WAY_STATE_DARK := by
  unfold wayBit
  simp (disch := decide) only [fget_eq_bget, fsetBit_regs, CCH_WAY_STATE_DARK, CCH_WAY_STATE_CLEANING, bget_bput_bits]

/-- What one element of a list brings about and every other one keeps, the whole list does. -/
theorem foldHead_reaches {α : Type} (P : Head → Prop) {f : Head → α → Head} (hf : ∀ h a, P h → P (f h a)) {a : α} (ha : ∀ h, P (f h a)) (l : List α)
    (hl : a ∈ l) (h : Head) : P (foldHead h l f) := by
  induction l generalizing h with
  | nil => exact absurd hl List.not_mem_nil
  | cons b l ih =>
    rcases List.mem_cons.mp hl with rfl | hl
    · exact foldHead_keeps P hf l _ (ha h)
    · exact ih hl (f h b)

/-! ### CCH_WAY_EN (R197) -/

/-- A way whose enable bit changes is to be cleaned, or is dark no more. -/
def wayChange (w : Wing) (was now : Nat) (h : Head) (k : Nat) : Head :=
  if was.testBit k && !now.testBit k then cleanWay h w k
  else if !was.testBit k && now.testBit k then wayBit h w CCH_WAY_STATE_DARK k false
  else h

/-- A way that is being cleaned stays so while others change. -/
theorem cleaning_wayChange (w : Wing) (was now : Nat) (h : Head) (k : Nat) {j : Nat} (hj : j < 16)
    (hc : (fget h w CCH_WAY_STATE_CLEANING).testBit j = true) : (fget (wayChange w was now h k) w CCH_WAY_STATE_CLEANING).testBit j = true := by
  unfold wayChange
  split
  · exact (testBit_wayBit h w CCH_WAY_STATE_CLEANING j k true (by decide) (by decide) hj).trans (by rw [hc, ite_self])
  · split
    · rw [cleaning_wayBit_dark, hc]
    · exact hc

theorem dark_wayChange (w : Wing) (was now : Nat) (h : Head) (k : Nat) {j : Nat} (hj : j < 16)
    (hd : (fget h w CCH_WAY_STATE_DARK).testBit j = false) : (fget (wayChange w was now h k) w CCH_WAY_STATE_DARK).testBit j = false := by
  unfold wayChange cleanWay
  split
  · rw [dark_wayBit_cleaning, hd]
  · split
    · exact (testBit_wayBit h w CCH_WAY_STATE_DARK j k false (by decide) (by decide) hj).trans (by rw [hd, ite_self])
    · exact hd

theorem wayChange_cleans (w : Wing) {was now k : Nat} (h : Head) (hk : k < 16) (hw : was.testBit k = true) (hn : now.testBit k = false) :
    (fget (wayChange w was now h k) w CCH_WAY_STATE_CLEANING).testBit k = true := by
  unfold wayChange cleanWay
  rw [if_pos (by rw [hw, hn]; rfl), testBit_wayBit _ _ _ _ _ _ (by decide) (by decide) hk, if_pos rfl]

theorem wayChange_lights (w : Wing) {was now k : Nat} (h : Head) (hk : k < 16) (hw : was.testBit k = false) (hn : now.testBit k = true) :
    (fget (wayChange w was now h k) w CCH_WAY_STATE_DARK).testBit k = false := by
  unfold wayChange
  rw [if_neg (by rw [hw, hn]; decide), if_pos (by rw [hw, hn]; rfl), testBit_wayBit _ _ _ _ _ _ (by decide) (by decide) hk, if_pos rfl]

theorem frame_wayChange (w : Wing) (was now : Nat) (h : Head) (k : Nat) : Frame [] [(.cch, 0x044)] h (wayChange w was now h k) := by
  unfold wayChange
  split
  · exact frame_wayBit ..
  · split
    · exact frame_wayBit ..
    · exact frame_refl _ _ h

theorem wayEnWrite_eq {h : Head} {ini : Initiator} {w : Wing} {v : Word} (hw : Writable h ini (pg .cch w) 0x040) (hv : bitsOf v 15 0 ≠ 0)
    (hf : bitsOf v 15 0 &&& fget h w CCH_FENCED_WAYS = 0) : wayEnWrite h ini w v =
      foldHead (fset (reply h false) w CCH_WAY_EN_WAYS (bitsOf v 15 0)) (List.range 16) (wayChange w (fget h w CCH_WAY_EN_WAYS) (bitsOf v 15 0)) := by
  unfold wayEnWrite
  rw [withWrite_ok _ _ _ _ _ hw]
  unfold wayEnEffect
  dsimp only
  rw [show fget (reply h false) w CCH_FENCED_WAYS = fget h w CCH_FENCED_WAYS from rfl, if_neg (fun hx => hx hf), if_neg hv, if_neg hv]
  rfl

theorem wayChange_regs (w : Wing) (was now : Nat) (h : Head) (k : Nat) : SameButRegs h (wayChange w was now h k) := by
  unfold wayChange
  split
  · rfl
  · split <;> rfl

theorem wayEnWrite_changes (s : State) (ini : Initiator) (w : Wing) (v : Word) (hrun : Runs s.dev) (hw : Writable s.dev ini (pg .cch w) 0x040)
    (hv : bitsOf v 15 0 ≠ 0) (hf : bitsOf v 15 0 &&& fget s.dev w CCH_FENCED_WAYS = 0) :
    Completes (.wayEnWrite ini w v) s (fun h =>
      fget h w CCH_WAY_EN_WAYS = bitsOf v 15 0 ∧
        (∀ k, k < 16 → (fget s.dev w CCH_WAY_EN_WAYS).testBit k = true → (bitsOf v 15 0).testBit k = false →
          (fget h w CCH_WAY_STATE_CLEANING).testBit k = true) ∧
        (∀ k, k < 16 → (fget s.dev w CCH_WAY_EN_WAYS).testBit k = false → (bitsOf v 15 0).testBit k = true →
          (fget h w CCH_WAY_STATE_DARK).testBit k = false) ∧
        RegsBut s.dev h [(.cch, 0x040), (.cch, 0x044)] ∧ SameButRegs (reply s.dev false) h) := by
  refine completes_of_eq (exec_wayEnWrite ini w v) hrun (wayEnWrite_eq hw hv hf) ?_
  have hlt : bitsOf v 15 0 < 2 ^ 16 := bitsOf_lt ..
  generalize bitsOf v 15 0 = now at *
  have hset := frame_fset (reply s.dev false) w 0 0 CCH_WAY_EN_WAYS now
  have hen : fget (fset (reply s.dev false) w CCH_WAY_EN_WAYS now) w CCH_WAY_EN_WAYS = now :=
    bget_bput_same_of_lt _ _ _ _ _ _ _ _ _ (by decide) (by decide) hlt
  have hregs : SameButRegs (reply s.dev false) (fset (reply s.dev false) w CCH_WAY_EN_WAYS now) := rfl
  generalize fset (reply s.dev false) w CCH_WAY_EN_WAYS now = g at *
  generalize fget s.dev w CCH_WAY_EN_WAYS = was at *
  have hx : Frame [] [(.cch, 0x044)] g (foldHead g (List.range 16) (wayChange w was now)) :=
    frame_foldHead_mem fun k j _ => frame_wayChange w was now k j
  refine ⟨?_, fun k hk h1 h2 => ?_, fun k hk h1 h2 => ?_, ?_, ?_⟩
  · rw [hx.fget w CCH_WAY_EN_WAYS (by decide) (by decide), hen]
  · exact foldHead_reaches (fun h => (fget h w CCH_WAY_STATE_CLEANING).testBit k = true) (fun h j hc => cleaning_wayChange w was now h j hk hc)
      (fun h => wayChange_cleans w h hk h1 h2) _ (List.mem_range.mpr hk) g
  · exact foldHead_reaches (fun h => (fget h w CCH_WAY_STATE_DARK).testBit k = false) (fun h j hd => dark_wayChange w was now h j hk hd)
      (fun h => wayChange_lights w h hk h1 h2) _ (List.mem_range.mpr hk) g
  · exact ((hset.mono (by decide) (by decide)).trans (hx.mono (by decide) (by decide)) : Frame [] [(.cch, 0x040), (.cch, 0x044)] _ _).2
  · exact sameButRegs_trans hregs (foldHead_keeps (fun k => SameButRegs g k) (fun k j hk => sameButRegs_trans hk (wayChange_regs ..)) _ g rfl)

/-! ### Cleaning, fencing and lost lines (R197, R198) -/

/-- A way's lines written back, its clean over (R197). -/
def wayCleaned (h : Head) (w : Wing) (k micros : Nat) : Head :=
  fmax (wayBit (wayBit (emptyWay h w k) w CCH_WAY_STATE_CLEANING k false) w CCH_WAY_STATE_DARK k true) w CCH_CLEAN_MAX_MICROS micros

theorem wayCleanDone_eq {h : Head} {w : Wing} {k : Nat} (micros : Nat) (hc : (fget h w CCH_WAY_STATE_CLEANING).testBit k = true)
    (he : (fget h w CCH_WAY_EN_WAYS).testBit k = false) : wayCleanDone h w k micros = raise (wayCleaned h w k micros) w Ev.CCH_CLEAN_DONE := by
  have hen : fget (wayBit (emptyWay h w k) w CCH_WAY_STATE_CLEANING k false) w CCH_WAY_EN_WAYS = fget h w CCH_WAY_EN_WAYS :=
    (frame_wayBit (emptyWay h w k) w CCH_WAY_STATE_CLEANING k false).fget w CCH_WAY_EN_WAYS (by decide) (by decide) 0 0
  unfold wayCleanDone
  rw [hc, if_neg (by decide)]
  dsimp only
  rw [hen, he, if_neg (by decide)]
  rfl

theorem frame_fmax_micros (h : Head) (w : Wing) (micros : Nat) : Frame [] [(.cch, 0x05C)] h (fmax h w CCH_CLEAN_MAX_MICROS micros) := by
  simp +decide only [frame_rules, frame_refl]

theorem fget_fmax_micros (h : Head) (w : Wing) (micros : Nat) :
    fget (fmax h w CCH_CLEAN_MAX_MICROS micros) w CCH_CLEAN_MAX_MICROS = max (fget h w CCH_CLEAN_MAX_MICROS) (min micros (2 ^ 32 - 1)) := by
  have hlt := fget_lt h w CCH_CLEAN_MAX_MICROS 0 0
  exact bget_bput_same_of_lt _ _ _ _ _ _ _ _ _ (by decide) (by decide) (max_lt hlt (by show min micros (2 ^ 32 - 1) < 2 ^ 32; omega))

theorem frame_emptyWay (h : Head) (w : Wing) (k : Nat) : Frame [.cat] [] h (emptyWay h w k) := (frame_mk h (by simp)).2 (frame_refl _ _ h)

/-- What a table lists under the keys that a filter keeps. -/
theorem tabGet?_filter_key {α : Type} (t : Tab α) (p : Nat → Bool) (k : Nat) :
    tabGet? (t.filter (fun e => p e.1)) k = if p k then tabGet? t k else none := by
  induction t with
  | nil => rw [List.filter_nil]; exact (ite_self none).symm
  | cons e t ih =>
    obtain ⟨j, v⟩ := e
    rw [List.filter_cons]
    by_cases hj : j = k
    · subst hj
      split
      · exact (if_pos rfl).trans (if_pos rfl).symm
      · rename_i hp
        rw [ih, if_neg hp]
    · have hcons : tabGet? ((j, v) :: t) k = tabGet? t k := if_neg hj
      split
      · exact (if_neg hj).trans (by rw [ih, hcons])
      · rw [ih, hcons]

theorem lines_emptyWay (h : Head) (w : Wing) {k set x : Nat} (hset : set < cacheSets) (hx : x < 16) :
    tabGet? (emptyWay h w k).cat.lines (lineKey w set x) = if x = k then none else tabGet? h.cat.lines (lineKey w set x) := by
  unfold emptyWay
  dsimp only
  rw [tabGet?_filter_key h.cat.lines (fun j => !(j / 16 / cacheSets == wingNum w && j % 16 == k))]
  have h1 : lineKey w set x / 16 / cacheSets = wingNum w := by
    unfold lineKey cacheSets at *
    omega
  have h2 : lineKey w set x % 16 = x := by
    unfold lineKey
    omega
  rw [h1, h2, beq_self_eq_true, Bool.true_and]
  by_cases hk : x = k <;> simp [hk]

theorem wayCleanDone_cleans (s : State) (w : Wing) (k micros : Nat) (hrun : Runs s.dev) (hk : k < 16)
    (hc : (fget s.dev w CCH_WAY_STATE_CLEANING).testBit k = true) (he : (fget s.dev w CCH_WAY_EN_WAYS).testBit k = false) :
    Completes (.wayCleanDone w k micros) s (fun h =>
      (fget h w CCH_WAY_STATE_CLEANING).testBit k = false ∧ (fget h w CCH_WAY_STATE_DARK).testBit k = true ∧
        EventSet h w Ev.CCH_CLEAN_DONE ∧
        fget h w CCH_CLEAN_MAX_MICROS = max (fget s.dev w CCH_CLEAN_MAX_MICROS) (min micros (2 ^ 32 - 1)) ∧
        RegsBut s.dev h [(.cch, 0x010), (.cch, 0x044), (.cch, 0x05C)] ∧
        (∀ set x, set < cacheSets → x < 16 →
          tabGet? h.cat.lines (lineKey w set x) = if x = k then none else tabGet? s.dev.cat.lines (lineKey w set x)) ∧
        h.cat.nss = s.dev.cat.nss) := by
  refine completes_of_eq (exec_wayCleanDone w k micros) hrun (wayCleanDone_eq micros hc he) ?_
  have hem := frame_emptyWay s.dev w k
  have hlines : ∀ set x, set < cacheSets → x < 16 → tabGet? (emptyWay s.dev w k).cat.lines (lineKey w set x) =
      if x = k then none else tabGet? s.dev.cat.lines (lineKey w set x) := fun set x h1 h2 => lines_emptyWay s.dev w h1 h2
  have hnss : (emptyWay s.dev w k).cat.nss = s.dev.cat.nss := rfl
  unfold wayCleaned
  generalize emptyWay s.dev w k = g at *
  have hb1 := frame_wayBit g w CCH_WAY_STATE_CLEANING k false
  have hc1 : (fget (wayBit g w CCH_WAY_STATE_CLEANING k false) w CCH_WAY_STATE_CLEANING).testBit k = false :=
    (testBit_wayBit g w CCH_WAY_STATE_CLEANING k k false (by decide) (by decide) hk).trans (if_pos rfl)
  generalize wayBit g w CCH_WAY_STATE_CLEANING k false = g1 at *
  have hb2 := frame_wayBit g1 w CCH_WAY_STATE_DARK k true
  have hc2 := cleaning_wayBit_dark g1 w k true
  have hd2 : (fget (wayBit g1 w CCH_WAY_STATE_DARK k true) w CCH_WAY_STATE_DARK).testBit k = true :=
    (testBit_wayBit g1 w CCH_WAY_STATE_DARK k k true (by decide) (by decide) hk).trans (if_pos rfl)
  generalize wayBit g1 w CCH_WAY_STATE_DARK k true = g2 at *
  have hm := frame_fmax_micros g2 w micros
  have hval := fget_fmax_micros g2 w micros
  generalize fmax g2 w CCH_CLEAN_MAX_MICROS micros = g3 at *
  have hra := frame_raise g3 w 0 Ev.CCH_CLEAN_DONE
  have hev : EventSet (raise g3 w Ev.CCH_CLEAN_DONE) w Ev.CCH_CLEAN_DONE := raiseAt_sets _ _ _ (by decide)
  generalize raise g3 w Ev.CCH_CLEAN_DONE = h at *
  have hx : Frame [.evq] [(.cch, 0x010), (.cch, 0x05C)] g2 h := (hm.mono (by decide) (by decide)).trans (hra.mono (by decide) (by decide))
  have hall : Frame [.cat, .evq] [(.cch, 0x010), (.cch, 0x044), (.cch, 0x05C)] s.dev h :=
    (hem.mono (by decide) (by decide)).trans ((hb1.mono (by decide) (by decide)).trans ((hb2.mono (by decide) (by decide)).trans
      (hx.mono (by decide) (by decide))))
  have hcat : h.cat = g.cat := (hx.1 .cat (by decide)).trans ((hb2.1 .cat (by decide)).trans (hb1.1 .cat (by decide)))
  refine ⟨?_, ?_, hev, ?_, hall.2, hcat ▸ hlines, hcat ▸ hnss⟩
  · rw [hx.fget w CCH_WAY_STATE_CLEANING (by decide) (by decide), hc2, hc1]
  · rw [hx.fget w CCH_WAY_STATE_DARK (by decide) (by decide), hd2]
  · rw [hra.fget w CCH_CLEAN_MAX_MICROS (by decide) (by decide), hval, hb2.fget w CCH_CLEAN_MAX_MICROS (by decide) (by decide),
      hb1.fget w CCH_CLEAN_MAX_MICROS (by decide) (by decide), hem.fget w CCH_CLEAN_MAX_MICROS (by decide) (by decide)]

/-- The frames of a way's corrected errors, those of this one with them (R198). -/
def errorFrames (h : Head) (w : Wing) (k errors : Nat) : List Nat :=
  (tabGet h.cat.wayErrors [] (16 * wingNum w + k)).filter (fun f => decide (frameCount h < f + 1024)) ++ List.replicate errors (frameCount h)

/-- A way's corrected errors counted (R198). -/
def errorsCounted (h : Head) (w : Wing) (k errors : Nat) : Head :=
  fset (fadd { h with cat := { h.cat with wayErrors := tabPut h.cat.wayErrors (16 * wingNum w + k) (errorFrames h w k errors) } }
    w CCH_ECC_CORRECTED errors) w CCH_ECC_LAST_WAY k

theorem frame_errorsCounted (h : Head) (w : Wing) (k errors : Nat) : Frame [.cat] [(.cch, 0x050)] h (errorsCounted h w k errors) := by
  simp +decide only [errorsCounted, frame_rules, frame_mk, true_or, or_true, and_self, frame_refl]

/-- A way cleaned and fenced (R198). -/
def wayFenced (h : Head) (w : Wing) (k : Nat) : Head :=
  wayBit (cleanWay (wayBit h w CCH_WAY_EN_WAYS k false) w k) w CCH_FENCED_WAYS k true

theorem wayEccFence_eq {h : Head} {w : Wing} {k errors : Nat} (hf : (fget h w CCH_FENCED_WAYS).testBit k = false)
    (he : fget h w CCH_ECC_THRESH_COUNT < errors) :
    wayEccFence h w k errors = raise (wayFenced (errorsCounted h w k errors) w k) w Ev.CCH_WAY_FENCED := by
  have hc := frame_errorsCounted h w k errors
  have h1 := hc.fget w CCH_ECC_THRESH_COUNT (by decide) (by decide) 0 0
  have h2 := hc.fget w CCH_FENCED_WAYS (by decide) (by decide) 0 0
  have hlen : errors ≤ (errorFrames h w k errors).length := by
    unfold errorFrames
    rw [List.length_append, List.length_replicate]
    exact Nat.le_add_left ..
  have hno : ¬ ((errorFrames h w k errors).length ≤ fget (errorsCounted h w k errors) w CCH_ECC_THRESH_COUNT ∨
      (fget (errorsCounted h w k errors) w CCH_FENCED_WAYS).testBit k = true) := by
    rw [h1, h2, hf]
    rintro (hx | hx)
    · omega
    · exact absurd hx (by decide)
  have hstart : wayEccFence h w k errors = if (errorFrames h w k errors).length ≤ fget (errorsCounted h w k errors) w CCH_ECC_THRESH_COUNT ∨
      (fget (errorsCounted h w k errors) w CCH_FENCED_WAYS).testBit k = true then errorsCounted h w k errors
      else raise (wayFenced (errorsCounted h w k errors) w k) w Ev.CCH_WAY_FENCED := rfl
  rw [hstart, if_neg hno]

theorem wayEccFence_fences (s : State) (w : Wing) (k errors : Nat) (hrun : Runs s.dev) (hk : k < 16)
    (hf : (fget s.dev w CCH_FENCED_WAYS).testBit k = false) (he : fget s.dev w CCH_ECC_THRESH_COUNT < errors) :
    Completes (.wayEccFence w k errors) s (fun h =>
      (fget h w CCH_FENCED_WAYS).testBit k = true ∧ (fget h w CCH_WAY_EN_WAYS).testBit k = false ∧
        (fget h w CCH_WAY_STATE_CLEANING).testBit k = true ∧ fget h w CCH_ECC_LAST_WAY = k ∧ EventSet h w Ev.CCH_WAY_FENCED ∧
        RegsBut s.dev h [(.cch, 0x010), (.cch, 0x040), (.cch, 0x044), (.cch, 0x048), (.cch, 0x050)] ∧ h.out = s.dev.out) := by
  refine completes_of_eq (exec_wayEccFence w k errors) hrun (wayEccFence_eq hf he) ?_
  have hc := frame_errorsCounted s.dev w k errors
  have hlast : fget (errorsCounted s.dev w k errors) w CCH_ECC_LAST_WAY = k := bget_bput_same_of_lt _ _ _ _ _ _ _ _ _ (by decide) (by decide) hk
  unfold wayFenced cleanWay
  generalize errorsCounted s.dev w k errors = g at *
  have hb1 := frame_wayBit g w CCH_WAY_EN_WAYS k false
  have h1 : (fget (wayBit g w CCH_WAY_EN_WAYS k false) w CCH_WAY_EN_WAYS).testBit k = false :=
    (testBit_wayBit g w CCH_WAY_EN_WAYS k k false (by decide) (by decide) hk).trans (if_pos rfl)
  generalize wayBit g w CCH_WAY_EN_WAYS k false = g1 at *
  have hb2 := frame_wayBit g1 w CCH_WAY_STATE_CLEANING k true
  have h2 : (fget (wayBit g1 w CCH_WAY_STATE_CLEANING k true) w CCH_WAY_STATE_CLEANING).testBit k = true :=
    (testBit_wayBit g1 w CCH_WAY_STATE_CLEANING k k true (by decide) (by decide) hk).trans (if_pos rfl)
  generalize wayBit g1 w CCH_WAY_STATE_CLEANING k true = g2 at *
  have hb3 := frame_wayBit g2 w CCH_FENCED_WAYS k true
  have h3 : (fget (wayBit g2 w CCH_FENCED_WAYS k true) w CCH_FENCED_WAYS).testBit k = true :=
    (testBit_wayBit g2 w CCH_FENCED_WAYS k k true (by decide) (by decide) hk).trans (if_pos rfl)
  generalize wayBit g2 w CCH_FENCED_WAYS k true = g3 at *
  have hra := frame_raise g3 w 0 Ev.CCH_WAY_FENCED
  have hev : EventSet (raise g3 w Ev.CCH_WAY_FENCED) w Ev.CCH_WAY_FENCED := raiseAt_sets _ _ _ (by decide)
  generalize raise g3 w Ev.CCH_WAY_FENCED = h at *
  have x3 : Frame [.evq] [(.cch, 0x010), (.cch, 0x048)] g2 h := (hb3.mono (by decide) (by decide)).trans (hra.mono (by decide) (by decide))
  have x2 : Frame [.evq] [(.cch, 0x010), (.cch, 0x044), (.cch, 0x048)] g1 h := (hb2.mono (by decide) (by decide)).trans (x3.mono (by decide) (by decide))
  have x1 : Frame [.evq] [(.cch, 0x010), (.cch, 0x040), (.cch, 0x044), (.cch, 0x048)] g h :=
    (hb1.mono (by decide) (by decide)).trans (x2.mono (by decide) (by decide))
  have x0 : Frame [.cat, .evq] [(.cch, 0x010), (.cch, 0x040), (.cch, 0x044), (.cch, 0x048), (.cch, 0x050)] s.dev h :=
    (hc.mono (by decide) (by decide)).trans (x1.mono (by decide) (by decide))
  refine ⟨?_, ?_, ?_, ?_, hev, x0.2, x0.1 .out (by decide)⟩
  · rw [hra.fget w CCH_FENCED_WAYS (by decide) (by decide), h3]
  · rw [x2.fget w CCH_WAY_EN_WAYS (by decide) (by decide), h1]
  · rw [x3.fget w CCH_WAY_STATE_CLEANING (by decide) (by decide), h2]
  · rw [x1.fget w CCH_ECC_LAST_WAY (by decide) (by decide), hlast]

/-- A line gone from its cache, and its page with it (R198). -/
def lineGone (h : Head) (key line : Nat) : Head :=
  { h with cat := { h.cat with
    lines := tabDel h.cat.lines key
    resident := h.cat.resident.filter (fun p => !pageOfLine line p) } }

theorem lineEcc_loses (s : State) (w : Wing) (set way : Nat) (l : CacheLine) (hrun : Runs s.dev)
    (hl : tabGet? s.dev.cat.lines (lineKey w set way) = some l) (hd : l.dirty = true) :
    Completes (.lineEcc w set way) s (fun h =>
      EventSet h w Ev.CCH_LINE_LOST ∧ fget h w CCH_LOST_COUNT = min (fget s.dev w CCH_LOST_COUNT + 1) (2 ^ 32 - 1) ∧
        tabGet? h.cat.lines (lineKey w set way) = none ∧ h.cat.resident = s.dev.cat.resident.filter (fun p => !pageOfLine l.line p) ∧
        h.cat.nss = s.dev.cat.nss ∧ RegsBut s.dev h [(.cch, 0x010), (.cch, 0x060)]) := by
  have heq : lineEcc s.dev w set way = raise (fadd (lineGone s.dev (lineKey w set way) l.line) w CCH_LOST_COUNT) w Ev.CCH_LINE_LOST := by
    unfold lineEcc
    rw [hl]
    dsimp only
    rw [hd]
    exact if_neg (by decide)
  refine completes_of_eq (exec_lineEcc w set way) hrun heq ?_
  have hg : Frame [.cat] [] s.dev (lineGone s.dev (lineKey w set way) l.line) := (frame_mk s.dev (by simp)).2 (frame_refl _ _ s.dev)
  have hline : tabGet? (lineGone s.dev (lineKey w set way) l.line).cat.lines (lineKey w set way) = none := tabGet?_tabDel_same ..
  have hres : (lineGone s.dev (lineKey w set way) l.line).cat.resident = s.dev.cat.resident.filter (fun p => !pageOfLine l.line p) := rfl
  have hnss : (lineGone s.dev (lineKey w set way) l.line).cat.nss = s.dev.cat.nss := rfl
  generalize lineGone s.dev (lineKey w set way) l.line = g at *
  have ha := frame_fadd g w 0 0 CCH_LOST_COUNT 1
  have hv : fget (fadd g w CCH_LOST_COUNT) w CCH_LOST_COUNT = _ := fget_fadd_same g w CCH_LOST_COUNT 1 0 0 (by decide) (by decide)
  generalize fadd g w CCH_LOST_COUNT = g1 at *
  have hra := frame_raise g1 w 0 Ev.CCH_LINE_LOST
  have hcat : (raise g1 w Ev.CCH_LINE_LOST).cat = g.cat := (hra.1 .cat (by decide)).trans (ha.1 .cat (by decide))
  have hall : Frame [.cat, .evq] [(.cch, 0x010), (.cch, 0x060)] s.dev (raise g1 w Ev.CCH_LINE_LOST) :=
    (hg.mono (by decide) (by decide)).trans ((ha.mono (by decide) (by decide)).trans (hra.mono (by decide) (by decide)))
  refine ⟨raiseAt_sets _ _ _ (by decide), ?_, hcat ▸ hline, hcat ▸ hres, hcat ▸ hnss, hall.2⟩
  rw [hra.fget w CCH_LOST_COUNT (by decide) (by decide), hv, hg.fget w CCH_LOST_COUNT (by decide) (by decide)]
  rfl

theorem lineEcc_clean (s : State) (w : Wing) (set way : Nat) (hrun : Runs s.dev)
    (hl : ∀ l, tabGet? s.dev.cat.lines (lineKey w set way) = some l → l.dirty = false) :
    Completes (.lineEcc w set way) s (fun h => h = s.dev) := by
  have heq : lineEcc s.dev w set way = s.dev := by
    unfold lineEcc
    split
    · rfl
    · rename_i l hx
      rw [hl l hx]
      rfl
  exact completes_of_eq (exec_lineEcc w set way) hrun heq rfl

/-! ### The Registrar (R201 to R205) -/

theorem accessionBatch_takes (s : State) (w : Wing) (l : List Slot) (n : Nat) (hrun : Runs s.dev) (hw : accessionWaits s.dev w = false)
    (hl : l = s.dev.vit.slots.filter (accessible s.dev w)) (hn : n = frameBudget s.dev 16 (fget s.dev w RGS_BUDGET_GRANULES) - accUsed s.dev w)
    (hlt : n < l.length) :
    Completes (.accessionBatch w) s (fun h => ∃ g : Head,
      accUsed g w = accUsed s.dev w + n ∧ RegsBut s.dev g [] ∧
        g.vit = s.dev.vit ∧ g.cat = { s.dev.cat with
          accE := g.cat.accE, accW := g.cat.accW, accLeftE := g.cat.accLeftE, accLeftW := g.cat.accLeftW } ∧
        (if w = .east then g.cat.accLeftE else g.cat.accLeftW) = l.length - n ∧ (if w = .east then g.frm.carriedE else g.frm.carriedW) = true ∧
        h = foldHead g (l.take n) accessGranule) := by
  have heq : accessionBatch s.dev w = foldHead (carryOver (setAcc s.dev w (accUsed s.dev w + n) (l.length - n)) w) (l.take n) accessGranule := by
    unfold accessionBatch
    rw [hw, if_neg (by decide)]
    dsimp only
    rw [← hl, ← hn, if_neg (by omega), Nat.min_eq_left (Nat.le_of_lt hlt)]
  refine completes_of_eq (exec_accessionBatch w) hrun heq
    ⟨carryOver (setAcc s.dev w (accUsed s.dev w + n) (l.length - n)) w, ?_, fun _ _ _ _ _ => rfl, rfl, ?_, ?_, ?_, rfl⟩
  · cases w <;> rfl
  · cases w <;> rfl
  · cases w <;> rfl
  · cases w <;> rfl

theorem compareReadDone_compares (s : State) (w : Wing) (seq fp : Nat) (v : Slot) (e : IndexEntry) (same : Bool) (hrun : Runs s.dev)
    (hc : s.dev.cat.comparing.find? (fun c => c.1 == w && c.2.1 == seq) = some (w, seq, fp)) (hs : slotOf s.dev w seq = some v)
    (he : (indexOf s.dev v.label.coll).find? (fun e => e.fp == fp && usable e) = some e) :
    Completes (.compareReadDone w seq .done same false) s (fun h =>
      let g := fadd { s.dev with cat := { s.dev.cat with
        comparing := s.dev.cat.comparing.filter (fun c => !(c.1 == w && c.2.1 == seq)) } } v.wing RGS_CNT_COMPARE_COUNT
      h = (if same then takeDup g v e
        else takeUnique (raise (updEntry g v.label.coll e.fp (fun x => { x with collided := true })) v.wing Ev.RGS_COLLIDED) v e.fp)) := by
  have heq : compareReadDone s.dev w seq .done same false = compared { s.dev with cat := { s.dev.cat with
      comparing := s.dev.cat.comparing.filter (fun c => !(c.1 == w && c.2.1 == seq)) } } v e same false := by
    unfold compareReadDone
    rw [hc, hs]
    dsimp only
    rw [show (indexOf { s.dev with cat := { s.dev.cat with comparing := s.dev.cat.comparing.filter (fun c => !(c.1 == w && c.2.1 == seq)) } }
      v.label.coll).find? (fun e => e.fp == fp && usable e) = some e from he]
    exact if_pos (Or.inl rfl)
  refine completes_of_eq (exec_compareReadDone w seq .done same false) hrun heq ?_
  unfold compared
  exact if_neg (by decide)

/-- What a rebuild of a collection's filter keeps of the Catalogue. -/
structure FilterRebuilt (coll : Nat) (h g : Head) : Prop where
  cat : g.cat = { h.cat with filter := g.cat.filter }
  others : ∀ c, c ≠ coll → tabGet? g.cat.filter c = tabGet? h.cat.filter c
  frame : Frame [.cat, .evq] [(.rgs, 0x010)] h g

theorem filterRebuilt_refl (coll : Nat) (h : Head) : FilterRebuilt coll h h := ⟨rfl, fun _ _ => rfl, frame_refl _ _ h⟩

theorem FilterRebuilt.trans {coll : Nat} {a b c : Head} (x : FilterRebuilt coll a b) (y : FilterRebuilt coll b c) : FilterRebuilt coll a c :=
  ⟨by rw [y.cat, x.cat], fun k hk => (y.others k hk).trans (x.others k hk), x.frame.trans y.frame⟩

theorem filterInsert_rebuilds (h : Head) (w : Wing) (coll fp : Nat) : FilterRebuilt coll h (filterInsert h w coll fp) := by
  unfold filterInsert
  dsimp only
  split
  · exact filterRebuilt_refl coll h
  · generalize (filterBits fp (filterMib h coll)).foldl (fun l b => if l.contains b then l else l ++ [b]) (tabGet h.cat.filter [] coll) = new
    have hput : FilterRebuilt coll h { h with cat := { h.cat with filter := tabPut h.cat.filter coll new } } :=
      ⟨rfl, fun c hc => tabGet?_tabPut_other _ _ hc, (frame_mk h (by simp)).2 (frame_refl _ _ h)⟩
    generalize ({ h with cat := { h.cat with filter := tabPut h.cat.filter coll new } } : Head) = k at *
    have hra := frame_raise k w 0 Ev.RGS_FILTER_SATURATED
    have hcat : (raise k w Ev.RGS_FILTER_SATURATED).cat = k.cat := hra.1 .cat (by decide)
    split
    · exact hput.trans ⟨by rw [hcat], fun c _ => by rw [hcat], hra.mono (by decide) (by decide)⟩
    · exact hput

/-- A collection to be reindexed, its filter empty. -/
def reindexStarted (h : Head) (coll : Nat) : Head :=
  { reply h false with cat := { h.cat with
    reindexing := if h.cat.reindexing.contains coll then h.cat.reindexing else h.cat.reindexing ++ [coll]
    filter := tabDel h.cat.filter coll } }

theorem rgsReindex_rebuilds (s : State) (ini : Initiator) (w : Wing) (hrun : Runs s.dev) (hw : Writable s.dev ini (pg .rgs w) 0x040) :
    Completes (.rgsReindex ini w) s (fun h =>
      h.cat.reindexing.contains (fget s.dev w RGS_COLL_INDEX_INDEX) = true ∧ h.cat.index = s.dev.cat.index ∧
        (∀ c, c ≠ fget s.dev w RGS_COLL_INDEX_INDEX → tabGet? h.cat.filter c = tabGet? s.dev.cat.filter c) ∧
        RegsBut s.dev h [(.rgs, 0x010)] ∧ h.cat.nss = s.dev.cat.nss) := by
  refine completes_of_eq (exec_rgsReindex ini w) hrun (withWrite_ok s.dev ini _ _ _ hw) ?_
  have hx : FilterRebuilt (fget s.dev w RGS_COLL_INDEX_INDEX) (reindexStarted s.dev (fget s.dev w RGS_COLL_INDEX_INDEX))
      (reindexEffect (reply s.dev false) w) :=
    foldHead_keeps (fun g => FilterRebuilt (fget s.dev w RGS_COLL_INDEX_INDEX) (reindexStarted s.dev (fget s.dev w RGS_COLL_INDEX_INDEX)) g)
      (fun g (e : IndexEntry) hg => hg.trans (filterInsert_rebuilds g w _ e.fp)) _ _ (filterRebuilt_refl ..)
  generalize reindexEffect (reply s.dev false) w = h at *
  have hs : Frame [.bus, .cat] [] s.dev (reindexStarted s.dev (fget s.dev w RGS_COLL_INDEX_INDEX)) := by
    simp +decide only [reindexStarted, (frame_reply ..).iff, frame_mk, true_or, or_true, and_self, frame_refl]
  obtain ⟨hcat, hothers, hframe⟩ := hx
  refine ⟨?_, ?_, fun c hc => (hothers c hc).trans (tabGet?_tabDel_other _ hc), ?_, ?_⟩
  · rw [hcat]
    unfold reindexStarted
    dsimp only
    split
    · assumption
    · simp
  · rw [hcat]
    rfl
  · exact ((hs.mono (l := [.bus, .cat, .evq]) (t := [(.rgs, 0x010)]) (by decide) (by decide)).trans (hframe.mono (by decide) (by decide))).2
  · rw [hcat]
    rfl

/-! ### The replay after a takeover (R192) -/

/-- What a replayed entry keeps: the maps, and what was sent. -/
structure Replays (h g : Head) : Prop where
  maps : MapsKept h g
  out : g.out = h.out

theorem replays_refl (h : Head) : Replays h h := ⟨mapsKept_refl h, rfl⟩

theorem Replays.trans {a b c : Head} (x : Replays a b) (y : Replays b c) : Replays a c := ⟨x.maps.trans y.maps, y.out.trans x.out⟩

theorem Frame.replays {l : List Part} {t : List (Block × Nat)} {h g : Head} (x : Frame l t h g) (hc : .cat ∉ l) (ho : .out ∉ l) : Replays h g :=
  ⟨x.mapsKept hc, x.1 .out ho⟩

theorem replays_setIndex (h : Head) (coll : Nat) (l : List IndexEntry) : Replays h (setIndex h coll l) := by
  refine ⟨mapsKept_of_eq (setIndex_cat h coll l).1 ?_, (frame_setIndex h coll l).1 .out (by decide)⟩
  unfold setIndex
  rw [(frame_syncColl _ coll).1 .cat List.not_mem_nil]

theorem replays_hallValid (h : Head) (serial : Nat) (up : Bool) : Replays h (hallValid h serial up) := by
  unfold hallValid
  split
  · exact replays_refl h
  · exact (frame_updHall ..).replays (by decide) (by decide)

theorem replays_hallPlaced (h : Head) (serial : Nat) : Replays h (hallPlaced h serial) := by
  unfold hallPlaced
  split
  · exact replays_refl h
  · exact (frame_updHall ..).replays (by decide) (by decide)

theorem replays_raise (h : Head) (w : Wing) (e : EvRef) : Replays h (raise h w e) := (frame_raise h w 0 e).replays (by decide) (by decide)

theorem replays_journalAdd (h : Head) (l : List JournalEntry) : Replays h (journalAdd h l) :=
  ⟨mapsKept_journalAdd h l, (frame_journalAdd h l).1 .out (by decide)⟩

/-- What a count's change brings with it: a collection whose entry passed a bound is marked (R210). -/
def countMarked (h : Head) (coll : Nat) (w : Wing) (pinned fault : Bool) : Head :=
  if pinned then raise h w Ev.RGS_PINNED
  else if fault then raise { h with cat := { h.cat with noDeaccession := coll :: h.cat.noDeaccession } } w Ev.RGS_REFCOUNT_FAULT
  else h

theorem replays_countMarked (h : Head) (coll : Nat) (w : Wing) (pinned fault : Bool) : Replays h (countMarked h coll w pinned fault) := by
  have hm : Replays h { h with cat := { h.cat with noDeaccession := coll :: h.cat.noDeaccession } } := ⟨mapsKept_of_eq rfl rfl, rfl⟩
  unfold countMarked
  split
  · exact replays_raise ..
  · split
    · exact hm.trans (replays_raise ..)
    · exact replays_refl h

/-- An entry whose count goes up or down, within its bounds (R207, R210). -/
def countedEntry (h : Head) (e : IndexEntry) (up : Bool) : IndexEntry :=
  if up then { e with ref := min (e.ref + 1) 0xFFFFFFFF, epoch := openInterval h }
  else if e.ref = 0xFFFFFFFF then e
  else if e.ref = 0 then { e with suspect := true, epoch := openInterval h }
  else { e with ref := e.ref - 1, epoch := openInterval h }

/-- The changed entry in its index, and its hall told where its count leaves or reaches 0 (R308). -/
def countedHead (h : Head) (coll loc : Nat) (e e' : IndexEntry) (up : Bool) : Head :=
  let g := setIndex h coll ((indexOf h coll).map (fun x => if x.loc = loc then e' else x))
  if (e.ref = 0) ≠ (e'.ref = 0) then hallValid g (locSerial loc) up else g

theorem replays_refChange (h : Head) (coll loc : Nat) (up : Bool) : Replays h (refChange h coll loc up) := by
  unfold refChange
  split
  · exact replays_refl h
  · dsimp only
    split
    · exact replays_refl h
    · rename_i e he
      refine Replays.trans ?_ (replays_countMarked (countedHead h coll loc e (countedEntry h e up) up) coll (collHome h coll)
        (up && (countedEntry h e up).ref == 0xFFFFFFFF && e.ref != 0xFFFFFFFF) (!up && e.ref == 0))
      unfold countedHead
      split
      · exact (replays_setIndex ..).trans (replays_hallValid ..)
      · exact replays_setIndex ..

theorem replays_replayChange (h : Head) (coll : Nat) (r : RefChange) : Replays h (replayChange h coll r) := by
  cases r with
  | up loc =>
    dsimp only [replayChange]
    by_cases hx : locSerial loc = 0 ∨ (indexOf h coll).any (fun x => x.loc == loc) = true
    · rw [if_pos hx]
      exact replays_refChange ..
    · rw [if_neg hx]
      exact ((replays_setIndex ..).trans (replays_hallPlaced ..)).trans (replays_journalAdd ..)
  | down loc => exact replays_refChange ..
  | move old new => exact replays_setIndex ..

theorem replays_replayEntry (h : Head) (e : CatEntry) (refs : List RefChange) : Replays h (replayEntry h e refs) := by
  unfold replayEntry
  split
  · exact foldHead_keeps (fun g => Replays h g) (fun g r hg => hg.trans (replays_replayChange g _ r)) _ _ (replays_refl h)
  · exact replays_refl h

/-- The peer's updates of the journal, in order. -/
def peerUpdates (h : Head) : List (CatEntry × List RefChange) :=
  h.cat.journal.filterMap (fun j => match j with
    | .update false e refs => some (e, refs)
    | _ => none)

/-- A journal entry taken over as the head's own. -/
def ownEntry : JournalEntry → JournalEntry
  | .update _ e _ => .update true e []
  | .inserted c e => .inserted c e

/-- The replay over, the journal this head's own. -/
def replayEnded (h : Head) : Head := { h with cat := { h.cat with replaying := false, journal := h.cat.journal.map ownEntry } }

theorem replayDone_eq (h : Head) (hr : h.cat.replaying = true) : replayDone h =
    foldHead (replayEnded (foldHead h (peerUpdates h) (fun h e => replayEntry h e.1 e.2))) wings (fun h w => raise h w Ev.RGS_REPLAY_DONE) := by
  unfold replayDone
  rw [hr]
  exact if_neg (by decide)

theorem replayDone_ends (s : State) (hrun : Runs s.dev) (hr : s.dev.cat.replaying = true) :
    Completes .replayDone s (fun h =>
      h.cat.replaying = false ∧ (∀ w, EventSet h w Ev.RGS_REPLAY_DONE) ∧
        (∀ j ∈ h.cat.journal, ∀ b e r, j = JournalEntry.update b e r → b = true) ∧
        (∀ k, SameButPages (nsGet? h k) (nsGet? s.dev k)) ∧ h.out = s.dev.out) := by
  refine completes_of_eq exec_replayDone hrun (replayDone_eq s.dev hr) ?_
  have hre : Replays s.dev (foldHead s.dev (peerUpdates s.dev) (fun h e => replayEntry h e.1 e.2)) :=
    foldHead_keeps (fun g => Replays s.dev g) (fun g e hg => hg.trans (replays_replayEntry g e.1 e.2)) _ _ (replays_refl s.dev)
  generalize foldHead s.dev (peerUpdates s.dev) (fun h e => replayEntry h e.1 e.2) = g at *
  have hend : Replays g (replayEnded g) := ⟨mapsKept_of_eq rfl rfl, rfl⟩
  have h1 : (replayEnded g).cat.replaying = false := rfl
  have h2 : ∀ j ∈ (replayEnded g).cat.journal, ∀ b e r, j = JournalEntry.update b e r → b = true := by
    intro j hj b e r hx
    obtain ⟨i, -, hi⟩ := List.mem_map.mp hj
    subst hx
    cases i with
    | update b' e' r' => exact (JournalEntry.update.inj hi).1.symm
    | inserted c e' => exact absurd hi nofun
  generalize replayEnded g = g1 at *
  have hf : Frame [.evq] [(.rgs, 0x010)] g1 (foldHead g1 wings (fun h w => raise h w Ev.RGS_REPLAY_DONE)) :=
    frame_foldHead_mem fun k w _ => frame_raise k w 0 Ev.RGS_REPLAY_DONE
  have hall := (hre.trans hend).trans (hf.replays (by decide) (by decide))
  have hcat := hf.1 .cat (by decide)
  refine ⟨?_, fun w => ?_, ?_, hall.maps.namespaces, hall.out⟩
  · exact (congrArg CatState.replaying hcat).trans h1
  · exact foldHead_reaches (fun h => EventSet h w Ev.RGS_REPLAY_DONE) (fun h v he => eventSet_raise he (by decide) v Ev.RGS_REPLAY_DONE 0)
      (fun h => raiseAt_sets _ _ _ (by decide)) wings (by cases w <;> decide) g1
  · rw [hcat]
    exact h2

/-- Settles O35, a lemma for each command: a way's bits by `testBit_wayBit`, the filter by `FilterRebuilt`, the replay by `Replays`. -/
theorem waysAndAccession : Obligations.WaysAndAccession := by
  unfold Obligations.WaysAndAccession
  exact ⟨wayEnWrite_changes, wayCleanDone_cleans, wayEccFence_fences, lineEcc_loses, lineEcc_clean, accessionBatch_takes, compareReadDone_compares,
    rgsReindex_rebuilds, replayDone_ends⟩

end Sys2Proof.Laws
end

section
/-! Mehror (R117 to R141): what each step of a context changes, and what it sends. -/

namespace Sys2Proof.Laws

open Machine Machine.Reg

/-! ### What each step changes -/

/-- The registers that show a context (R141). -/
def ctxRegs : List (Block × Nat) := [(.mft, 0x07C), (.mft, 0x08C)]

theorem frame_mftPut (h : Head) (w : Wing) (ctx : Nat) (c : MftCtx) : Frame [.mft] ctxRegs h (mftPut h w ctx c) := by
  simp +decide only [mftPut, frame_rules, frame_mk, true_or, or_true, and_self, frame_refl]

theorem frame_mftUpd (h : Head) (w : Wing) (ctx : Nat) (f : MftCtx → MftCtx) : Frame [.mft] ctxRegs h (mftUpd h w ctx f) := frame_mftPut ..

theorem frame_portSend (h : Head) (w : Wing) (port prio : Nat) (m : Msg) : Frame [.foy, .out] [] h (portSend h w port prio m) := by
  unfold portSend
  dsimp only
  split
  · exact (frame_mk h (by simp)).2 (frame_refl _ _ h)
  · exact (frame_send h m).mono (by decide) (by decide)

/-- A packet given the next TXC of its direction. -/
def countedOut (h : Head) (w : Wing) (ctx : Nat) : Head := { h with mftTxc := tabPut h.mftTxc (ctxKey w ctx) (mftTxc h w ctx + 1) }

theorem mftSend_eq (h : Head) (w : Wing) (ctx : Nat) (p : MftPacket) : mftSend h w ctx p =
    portSend (countedOut h w ctx) w (mehrorNet h w ctx).port (mehrorNet h w ctx).prio (mftMsg h w ctx (stamped h w ctx p)) := rfl

theorem frame_countedOut (h : Head) (w : Wing) (ctx : Nat) : Frame [.mftTxc] [] h (countedOut h w ctx) := (frame_mk h (by simp)).2 (frame_refl _ _ h)

theorem frame_mftSend (h : Head) (w : Wing) (ctx : Nat) (p : MftPacket) : Frame [.mftTxc, .foy, .out] [] h (mftSend h w ctx p) := by
  rw [mftSend_eq]
  exact ((frame_countedOut ..).mono (by decide) (by decide)).trans ((frame_portSend ..).mono (by decide) (by decide))

theorem frame_sendAck (h : Head) (w : Wing) (ctx : Nat) (b : Bool) : Frame [.mft, .mftTxc, .foy, .out] ctxRegs h (sendAck h w ctx b) := by
  simp +decide only [sendAck, (frame_mftSend ..).iff, (frame_mftPut ..).iff, frame_refl]

def sendRegs : List (Block × Nat) := (.mft, 0x084) :: ctxRegs

theorem frame_pump (h : Head) (w : Wing) (ctx fuel : Nat) : Frame [.mft, .mftTxc, .foy, .out] sendRegs h (pump h w ctx fuel) := by
  induction fuel generalizing h with
  | zero => exact frame_refl _ _ h
  | succ fuel ih =>
    unfold pump
    dsimp only
    split
    · exact frame_refl _ _ h
    · split
      · exact frame_refl _ _ h
      · refine Frame.trans ?_ (ih _)
        simp +decide only [(frame_mftSend ..).iff, (frame_mftPut ..).iff, frame_rules, frame_refl]

theorem frame_pumpAll (h : Head) (w : Wing) (ctx : Nat) : Frame [.mft, .mftTxc, .foy, .out] sendRegs h (pumpAll h w ctx) := frame_pump ..

theorem frame_mftEnd (h : Head) (w : Wing) (tag : Nat) (st : Status) (bytes word : Nat) (place : List Placed) :
    Frame [.eng] [] h (mftEnd h w tag st bytes word place) := frame_readyOps ..

theorem frame_mftFinish (h : Head) (w : Wing) (ctx tag : Nat) (st : Status) (bytes word : Nat) (place : List Placed) :
    Frame [.mft, .eng] ctxRegs h (mftFinish h w ctx tag st bytes word place) := by
  simp +decide only [mftFinish, (frame_mftEnd ..).iff, (frame_mftUpd ..).iff, frame_refl]

theorem frame_mftDone (h : Head) (w : Wing) (ctx : Nat) : Frame [.mft, .eng] ctxRegs h (mftDone h w ctx) :=
  frame_foldHead_mem fun g _ _ => frame_mftFinish g ..

theorem frame_cutWindow (h : Head) (w : Wing) (ctx n : Nat) : Frame [.mft] ctxRegs h (cutWindow h w ctx n) := by
  simp +decide only [cutWindow, frame_ite, (frame_mftPut ..).iff, frame_refl, ite_self]

theorem frame_mftFail (h : Head) (w : Wing) (ctx : Nat) : Frame [.mft, .eng, .evq] ((.mft, 0x010) :: ctxRegs) h (mftFail h w ctx) := by
  simp +decide only [mftFail, (frame_mftPut ..).iff, frame_foldHead, (frame_mftEnd ..).iff, frame_rules, frame_refl, implies_true]

theorem frame_nakAgain (h : Head) (w : Wing) (ctx psn code : Nat) : Frame [.mftTxc, .foy, .out, .evq] [(.mft, 0x010)] h (nakAgain h w ctx psn code) := by
  simp +decide only [nakAgain, (frame_mftSend ..).iff, frame_ite, frame_rules, frame_refl, ite_self]

theorem frame_cachePut (h : Head) (w : Wing) (ctx psn kind code orig : Nat) : Frame [.mem, .poison] [] h (cachePut h w ctx psn kind code orig) :=
  frame_memWrite ..

theorem frame_sendNak (h : Head) (w : Wing) (ctx psn code : Nat) :
    Frame [.mftTxc, .foy, .out, .evq, .mem, .poison] [(.mft, 0x010)] h (sendNak h w ctx psn code) := by
  simp +decide only [sendNak, (frame_nakAgain ..).iff, frame_ite, (frame_cachePut ..).iff, frame_refl, ite_self]

theorem frame_advance (h : Head) (w : Wing) (ctx n : Nat) : Frame [.mft] ((.mft, 0x088) :: ctxRegs) h (advance h w ctx n) := by
  induction n generalizing h with
  | zero => exact frame_refl _ _ h
  | succ n ih =>
    unfold advance
    dsimp only
    split
    · refine Frame.trans ?_ (ih _)
      simp +decide only [(frame_mftPut ..).iff, frame_rules, frame_refl]
    · exact frame_refl _ _ h

theorem frame_atomicAnswer (h : Head) (w : Wing) (ctx psn old : Nat) (again : Bool) :
    Frame [.mftTxc, .foy, .out] [(.mft, 0x0C8)] h (atomicAnswer h w ctx psn old again) := by
  simp +decide only [atomicAnswer, (frame_mftSend ..).iff, frame_ite, frame_rules, frame_refl, ite_self]

theorem frame_atomicRun (h : Head) (w : Wing) (ctx : Nat) (p : MftPacket) :
    Frame [.mft, .mftTxc, .foy, .out, .mem, .poison] ((.mft, 0x0C8) :: ctxRegs) h (atomicRun h w ctx p) := by
  simp +decide only [atomicRun, frame_foldHead, (frame_atomicAnswer ..).iff, (frame_mftUpd ..).iff, (frame_cachePut ..).iff, (frame_memWrite ..).iff,
    frame_refl, implies_true]

theorem frame_messageDone (h : Head) (w : Wing) (ctx : Nat) (m : InMsg) : Frame [.mft, .eng] ctxRegs h (messageDone h w ctx m) := by
  unfold messageDone
  dsimp only
  split
  · exact frame_refl _ _ h
  · simp +decide only [frame_ite, (frame_mftEnd ..).iff, (frame_readyOps ..).iff, (frame_mftPut ..).iff, frame_refl, ite_self]

def acceptParts : List Part := [.mft, .mftTxc, .foy, .out, .mem, .poison, .eng]

theorem frame_releaseOrdered (h : Head) (w : Wing) (ctx : Nat) : Frame acceptParts ((.mft, 0x0C8) :: ctxRegs) h (releaseOrdered h w ctx) := by
  simp +decide only [releaseOrdered, frame_foldHead, (frame_messageDone ..).iff, (frame_atomicRun ..).iff, (frame_mftPut ..).iff, frame_refl, implies_true]

theorem frame_acceptPacket (h : Head) (w : Wing) (ctx : Nat) (p : MftPacket) (n : Nat) :
    Frame acceptParts ([(.mft, 0x088), (.mft, 0x0C8)] ++ ctxRegs) h (acceptPacket h w ctx p n) := by
  simp +decide only [acceptPacket, frame_ite, (frame_sendAck ..).iff, (frame_releaseOrdered ..).iff, (frame_advance ..).iff, (frame_mftPut ..).iff,
    frame_refl, ite_self]

theorem frame_ackNow (h : Head) (w : Wing) (ctx : Nat) (p : MftPacket) : Frame [.mft, .mftTxc, .foy, .out] ctxRegs h (ackNow h w ctx p) := by
  simp +decide only [ackNow, frame_ite, (frame_sendAck ..).iff, frame_refl, ite_self]

/-! ### What is sent stays sent -/

theorem outGrows_refl (h : Head) : OutGrows h h := ⟨[], (List.append_nil _).symm⟩

theorem outGrows_mftSend (h : Head) (w : Wing) (ctx : Nat) (p : MftPacket) : OutGrows h (mftSend h w ctx p) := by
  rw [mftSend_eq]
  unfold portSend
  dsimp only
  split
  · exact outGrows_refl (countedOut h w ctx)
  · exact ⟨[_], rfl⟩

theorem outGrows_sendAck (h : Head) (w : Wing) (ctx : Nat) (b : Bool) : OutGrows h (sendAck h w ctx b) :=
  ((frame_mftPut h w ctx _).outGrows (by decide)).trans (outGrows_mftSend ..)

theorem outGrows_atomicAnswer (h : Head) (w : Wing) (ctx psn old : Nat) (again : Bool) : OutGrows h (atomicAnswer h w ctx psn old again) := by
  unfold atomicAnswer
  split
  · exact ((frame_fadd h w 0 0 MFT_CNT_REPLAY_COUNT 1).outGrows (by decide)).trans (outGrows_mftSend ..)
  · exact outGrows_mftSend ..

theorem outGrows_atomicRun (h : Head) (w : Wing) (ctx : Nat) (p : MftPacket) : OutGrows h (atomicRun h w ctx p) := by
  unfold atomicRun
  dsimp only
  refine OutGrows.trans ?_ (outGrows_foldHead (fun g _ => outGrows_atomicAnswer g ..) _ _)
  refine OutGrows.trans ?_ (outGrows_atomicAnswer ..)
  refine OutGrows.trans ?_ ((frame_mftUpd ..).outGrows (by decide))
  exact ((frame_memWrite ..).outGrows (by decide)).trans ((frame_cachePut ..).outGrows (by decide))

theorem outGrows_releaseOrdered (h : Head) (w : Wing) (ctx : Nat) : OutGrows h (releaseOrdered h w ctx) := by
  unfold releaseOrdered
  dsimp only
  refine OutGrows.trans ?_ (outGrows_foldHead (fun g m => (frame_messageDone g w ctx m).outGrows (by decide)) _ _)
  refine OutGrows.trans ?_ (outGrows_foldHead (fun g p => outGrows_atomicRun g w ctx p) _ _)
  exact (frame_mftPut ..).outGrows (by decide)

theorem outGrows_acceptPacket (h : Head) (w : Wing) (ctx : Nat) (p : MftPacket) (n : Nat) : OutGrows h (acceptPacket h w ctx p n) := by
  unfold acceptPacket
  dsimp only
  have hr := ((frame_mftPut h w ctx { mftGet h w ctx with
    marked := (mftGet h w ctx).marked ++ (List.range n).map (psnAdd p.psn), accepted := (mftGet h w ctx).accepted + 1 }).outGrows (by decide)).trans
      (((frame_advance _ w ctx 4097).outGrows (by decide)).trans (outGrows_releaseOrdered _ w ctx))
  split
  · exact hr.trans (outGrows_sendAck ..)
  · exact hr

/-! ### A context -/

theorem mftGet_mftPut (h : Head) (w : Wing) (ctx : Nat) (c : MftCtx) : mftGet (mftPut h w ctx c) w ctx = c := by
  show (tabGet? (tabPut h.mft (ctxKey w ctx) c) (ctxKey w ctx)).getD (freshMft (mftPut h w ctx c) w) = c
  rw [tabGet?_tabPut_same]
  rfl

/-- A context reads the same where neither it nor the congestion registers change. -/
theorem Frame.mftGet {l : List Part} {t : List (Block × Nat)} {h g : Head} (x : Frame l t h g) (hm : .mft ∉ l) (h1 : (Block.mft, 0x04C) ∉ t)
    (h2 : (Block.mft, 0x050) ∉ t) (w : Wing) (ctx : Nat) : Machine.mftGet g w ctx = Machine.mftGet h w ctx := by
  unfold Machine.mftGet freshMft clampWin
  rw [x.1 .mft hm, x.fget w MFT_CC_MAX_WIN h1 (by decide), x.fget w MFT_CC_MD_MIN_WIN h2 (by decide), x.fget w MFT_CC_INIT_WIN h1 (by decide)]

/-- The other bits of a context's state register keep their value as its window changes. -/
theorem fget_mftPut_state (h : Head) (w : Wing) (ctx : Nat) (c : MftCtx) (f : Fld) (hb : f.block = .mft) (ho : f.off = 0x07C) (hl : 12 < f.lo)
    (hlh : f.lo ≤ f.hi) (h32 : f.hi < 32) : fget (mftPut h w ctx c) w f ctx = fget h w f ctx := by
  unfold mftPut
  have hd : f.hi < 0 ∨ 12 < f.lo := Or.inr hl
  simp only [fget_eq_bget, fset_regs, hb, ho]
  simp (disch := first | decide | assumption) only [MFT_CTX_STATE_CWND, MFT_CTX_RECV_POSTED, bget_bput_bits, bget_bput_off]

theorem mftState_mftPut (h : Head) (w : Wing) (ctx : Nat) (c : MftCtx) : mftState (mftPut h w ctx c) w ctx = mftState h w ctx :=
  fget_mftPut_state h w ctx c MFT_CTX_STATE_STATE rfl rfl (by decide) (by decide) (by decide)

theorem Frame.mftState {l : List Part} {t : List (Block × Nat)} {h g : Head} (x : Frame l t h g) (ht : (Block.mft, 0x07C) ∉ t) (w : Wing) (ctx : Nat) :
    Machine.mftState g w ctx = Machine.mftState h w ctx := x.fget w MFT_CTX_STATE_STATE ht (by decide) ctx 0

/-! ### The way of a context's packets -/

/-- A context's packets travel under the same addresses and key. -/
def SameWay (w : Wing) (ctx : Nat) (h g : Head) : Prop := mehrorNet g w ctx = mehrorNet h w ctx ∧ mftKey g w ctx = mftKey h w ctx

theorem SameWay.trans {w : Wing} {ctx : Nat} {a b c : Head} (x : SameWay w ctx a b) (y : SameWay w ctx b c) : SameWay w ctx a c :=
  ⟨y.1.trans x.1, y.2.trans x.2⟩

/-- The registers that say how a context's packets travel. -/
def wayRegs : List (Block × Nat) := [(.mft, 0x040), (.mft, 0x048), (.mft, 0x068), (.mft, 0x06C), (.mft, 0x0A8), (.mft, 0x0AC), (.mft, 0x0B0),
  (.mft, 0x0B4), (.mft, 0x0B8), (.mft, 0x0BC), (.foy, 0x048), (.foq, 0x05C)]

theorem sameWay_of_gen {l : List Part} {t : List (Block × Nat)} {h g : Head} (x : Frame l t h g) (hk : .keys ∉ l) (ht : ∀ r ∈ wayRegs, r ∉ t) (w : Wing)
    (ctx : Nat) (hg : fget g w MFT_CTX_STATE_GEN ctx = fget h w MFT_CTX_STATE_GEN ctx) : SameWay w ctx h g := by
  have hx (w : Wing) (f : Fld) (hf : (f.block, f.off) ∈ wayRegs) (ho : f.off < 4096) (bank inst : Nat) : fget g w f bank inst = fget h w f bank inst :=
    x.fget w f (ht _ hf) ho bank inst
  constructor
  · unfold mehrorNet
    simp (disch := decide) only [hx, hg]
  · unfold mftKey
    rw [keyValue_congr x hk, hx w FOQ_CTX_BIND_CRED_SLOT (by decide) (by decide)]

theorem Frame.sameWay {l : List Part} {t : List (Block × Nat)} {h g : Head} (x : Frame l t h g) (hk : .keys ∉ l) (ht : ∀ r ∈ wayRegs, r ∉ t)
    (hs : (Block.mft, 0x07C) ∉ t) (w : Wing) (ctx : Nat) : SameWay w ctx h g :=
  sameWay_of_gen x hk ht w ctx (x.fget w MFT_CTX_STATE_GEN hs (by decide) ctx 0)

theorem sameWay_mftPut (h : Head) (w : Wing) (ctx : Nat) (c : MftCtx) : SameWay w ctx h (mftPut h w ctx c) :=
  sameWay_of_gen (frame_mftPut h w ctx c) (by decide) (by decide) w ctx
    (fget_mftPut_state h w ctx c MFT_CTX_STATE_GEN rfl rfl (by decide) (by decide) (by decide))

theorem SameWay.msg {w : Wing} {ctx : Nat} {h g : Head} (x : SameWay w ctx h g) (q : MftPacket) : mftMsg g w ctx q = mftMsg h w ctx q := by
  unfold mftMsg
  rw [x.1, x.2]

/-- The peer takes what a context sends: a packet leaves at once (R84). -/
theorem mftSend_listens {h : Head} {w : Wing} {ctx : Nat} (p : MftPacket) (hl : MftListens h w ctx) :
    (mftSend h w ctx p).out = h.out ++ [mftMsg h w ctx (stamped h w ctx p)] := by
  rw [mftSend_eq]
  unfold portSend
  exact congrArg Head.out (if_neg (by rw [show (countedOut h w ctx).foy = h.foy from rfl]; exact Bool.not_eq_true _ ▸ hl))

theorem SameWay.listens {w : Wing} {ctx : Nat} {h g : Head} (x : SameWay w ctx h g) (hf : g.foy = h.foy) (hl : MftListens h w ctx) :
    MftListens g w ctx := by
  unfold MftListens at *
  rw [hf, x.1]
  exact hl

end Sys2Proof.Laws
end

section
/-! Mehror contexts (R133, R137, R139): opened, closed and failed, and the operations that end with them. -/

namespace Sys2Proof.Laws

open Machine Machine.Reg

/-! ### Operations that end -/

/-- An operation as its end leaves it (R138). -/
def endedOp (st : Status) (bytes word : Nat) (place : List Placed) (o : EngOp) : EngOp :=
  { o with status := st, bytes := bytes, word := word, place := place, ready := true }

/-- The operations of some TAGs on a wing ended, those that wait for nothing more left as they are. -/
def endsTags (w : Wing) (tags : List Nat) (st : Status) (bytes word : Nat) (place : List Placed) (o : EngOp) : EngOp :=
  if o.cls = .mft ∧ o.wing = w ∧ o.tag ∈ tags ∧ o.ready = false ∧ o.held = false then endedOp st bytes word place o else o

theorem ops_mftEnd (h : Head) (w : Wing) (tag : Nat) (st : Status) (bytes word : Nat) (place : List Placed) :
    (mftEnd h w tag st bytes word place).eng.ops = h.eng.ops.map (endsTags w [tag] st bytes word place) := by
  unfold mftEnd readyOps
  refine List.map_congr_left fun o _ => ?_
  unfold endsTags
  by_cases hc : o.cls = .mft ∧ o.wing = w ∧ o.tag ∈ [tag] ∧ o.ready = false ∧ o.held = false
  · rw [if_pos hc]
    obtain ⟨h1, h2, h3, h4, h5⟩ := hc
    exact if_pos (by simp [h1, h2, List.mem_singleton.mp h3, h4, h5])
  · rw [if_neg hc]
    refine if_neg fun hb => hc ?_
    simpa [and_assoc] using hb

theorem endsTags_endsTags (w : Wing) (a b : List Nat) (st : Status) (bytes word : Nat) (place : List Placed) (o : EngOp) :
    endsTags w b st bytes word place (endsTags w a st bytes word place o) = endsTags w (a ++ b) st bytes word place o := by
  have ends (tags : List Nat) (x : EngOp) (hx : x.cls = .mft ∧ x.wing = w ∧ x.tag ∈ tags ∧ x.ready = false ∧ x.held = false) :
      endsTags w tags st bytes word place x = endedOp st bytes word place x := if_pos hx
  have keeps (tags : List Nat) (x : EngOp) (hx : ¬ (x.cls = .mft ∧ x.wing = w ∧ x.tag ∈ tags ∧ x.ready = false ∧ x.held = false)) :
      endsTags w tags st bytes word place x = x := if_neg hx
  by_cases ha : o.cls = .mft ∧ o.wing = w ∧ o.tag ∈ a ∧ o.ready = false ∧ o.held = false
  · obtain ⟨h1, h2, h3, h4, h5⟩ := ha
    rw [ends a o ⟨h1, h2, h3, h4, h5⟩, keeps b _ (fun hx => absurd hx.2.2.2.1 (by simp [endedOp])),
      ends (a ++ b) o ⟨h1, h2, List.mem_append_left b h3, h4, h5⟩]
  · rw [keeps a o ha]
    by_cases hb : o.cls = .mft ∧ o.wing = w ∧ o.tag ∈ b ∧ o.ready = false ∧ o.held = false
    · obtain ⟨h1, h2, h3, h4, h5⟩ := hb
      rw [ends b o ⟨h1, h2, h3, h4, h5⟩, ends (a ++ b) o ⟨h1, h2, List.mem_append_right a h3, h4, h5⟩]
    · rw [keeps b o hb, keeps (a ++ b) o]
      rintro ⟨h1, h2, h3, h4, h5⟩
      exact (List.mem_append.mp h3).elim (fun h3 => ha ⟨h1, h2, h3, h4, h5⟩) (fun h3 => hb ⟨h1, h2, h3, h4, h5⟩)

/-- Every operation of some TAGs ended in turn. -/
def endedAll (h : Head) (w : Wing) (tags : List Nat) (st : Status) : Head := foldHead h tags (fun h t => mftEnd h w t st 0 0 [])

theorem ops_endedAll (h : Head) (w : Wing) (tags : List Nat) (st : Status) :
    (endedAll h w tags st).eng.ops = h.eng.ops.map (endsTags w tags st 0 0 []) := by
  induction tags generalizing h with
  | nil =>
    have hid : endsTags w [] st 0 0 [] = id := funext fun o => if_neg (fun hx => absurd hx.2.2.1 List.not_mem_nil)
    rw [hid, List.map_id]
    rfl
  | cons t tags ih =>
    refine (ih (mftEnd h w t st 0 0 [])).trans ?_
    rw [ops_mftEnd, List.map_map]
    exact List.map_congr_left fun o _ => endsTags_endsTags w [t] tags st 0 0 [] o

theorem foldHead_tags {α : Type} (h : Head) (w : Wing) (l : List α) (tag : α → Nat) (st : Status) :
    foldHead h l (fun h x => mftEnd h w (tag x) st 0 0 []) = endedAll h w (l.map tag) st := by
  unfold endedAll foldHead
  rw [List.foldl_map]

theorem endedAll_append (h : Head) (w : Wing) (a b : List Nat) (st : Status) :
    endedAll (endedAll h w a st) w b st = endedAll h w (a ++ b) st := by
  unfold endedAll foldHead
  rw [List.foldl_append]

theorem frame_endedAll (h : Head) (w : Wing) (tags : List Nat) (st : Status) : Frame [.eng] [] h (endedAll h w tags st) :=
  frame_foldHead_mem fun g _ _ => frame_mftEnd g ..

/-! ### MFT_OPEN, MFT_CLOSE and CLOSE_DONE (R139) -/

/-- A context's state set. -/
def stateSet (h : Head) (w : Wing) (ctx n : Nat) : Head := fset h w MFT_CTX_STATE_STATE n ctx

theorem frame_stateSet (h : Head) (w : Wing) (ctx n : Nat) : Frame [] [(.mft, 0x07C)] h (stateSet h w ctx n) := frame_fset h w ctx 0 MFT_CTX_STATE_STATE n

theorem mftState_stateSet (h : Head) (w : Wing) (ctx n : Nat) (hn : n < 4) : mftState (stateSet h w ctx n) w ctx = n :=
  bget_bput_same_of_lt _ _ _ _ _ _ _ _ _ (by decide) (by decide) hn

/-- Another context's state register keeps its value. -/
theorem rd_stateSet_other (h : Head) (w : Wing) (ctx n : Nat) {d : Nat} (hd : d < 32768) (hc : ctx < 32768) (hne : d ≠ ctx) :
    rd (stateSet h w ctx n) (pg .mft w) 0x07C d = rd h (pg .mft w) 0x07C d := by
  have hb : d % 65536 ≠ ctx % 65536 := by omega
  unfold stateSet
  simp (disch := exact hb) only [rd_eq_rget, fset_regs, rget_bput_bank]

theorem rd_mftPut_other (h : Head) (w : Wing) (ctx : Nat) (c : MftCtx) {d : Nat} (hd : d < 32768) (hc : ctx < 32768) (hne : d ≠ ctx) :
    rd (mftPut h w ctx c) (pg .mft w) 0x07C d = rd h (pg .mft w) 0x07C d := by
  have hb : d % 65536 ≠ ctx % 65536 := by omega
  unfold mftPut
  simp (disch := exact hb) only [rd_eq_rget, fset_regs, rget_bput_bank]

theorem mftPut_shows (h : Head) (w : Wing) (ctx : Nat) (c : MftCtx) :
    fget (mftPut h w ctx c) w MFT_CTX_STATE_CWND ctx = min 4096 (c.cwnd / 256) ∧
      fget (mftPut h w ctx c) w MFT_CTX_RECV_POSTED ctx = c.posts.length % 2048 := by
  have hm : min 4096 (c.cwnd / 256) < 8192 := by omega
  unfold mftPut
  simp only [fget_eq_bget, fset_regs]
  simp (disch := first | decide | rfl) [MFT_CTX_STATE_CWND, MFT_CTX_RECV_POSTED, Nat.mod_eq_of_lt hm]

theorem mftOpen_opens (s : State) (ini : Initiator) (w : Wing) (ctx : Nat) (hrun : Runs s.dev) (hw : Writable s.dev ini (pg .mft w) 0x078)
    (hc : ctx = fget s.dev w MFT_CTX_INDEX_INDEX) (hst : mftState s.dev w ctx = 0) (hb : fget s.dev w FOQ_CTX_BIND_TYPE ctx = 3)
    (ha : fget s.dev w FOQ_CTX_STATE_AUTHENTICATED ctx = 1) (hp : fget s.dev w MFT_CTX_PEER_NODE ctx ≠ fget s.dev .east MFT_NODE_NODE_ID)
    (hcache : pget s.dev w MFT_CTX_CACHE_LO_ADDR MFT_CTX_CACHE_HI_ADDR ctx ≠ 0)
    (hm : maxPayload s.dev w ctx + 112 ≤ fget s.dev w FOY_MTU_MTU 0 (fget s.dev w MFT_CTX_PATH_PORT ctx)) :
    Completes (.mftOpen ini w) s (fun h =>
      mftState h w ctx = 1 ∧ fget h w MFT_CTX_STATE_CWND ctx =
          min 4096 (min (fget s.dev w MFT_CC_MAX_WIN) (max (fget s.dev w MFT_CC_MD_MIN_WIN) (fget s.dev w MFT_CC_INIT_WIN))) ∧
          fget h w MFT_CTX_RECV_POSTED ctx = 0 ∧
        (∀ d, d < 32768 → d ≠ ctx → rd h (pg .mft w) 0x07C d = rd s.dev (pg .mft w) 0x07C d) ∧
        RegsBut s.dev h [(.mft, 0x07C), (.mft, 0x08C)] ∧ h.mem = s.dev.mem ∧ h.eng = s.dev.eng ∧ h.out = s.dev.out) := by
  have hlt : ctx < 32768 := hc ▸ fget_lt s.dev w MFT_CTX_INDEX_INDEX 0 0
  have heq : mftCommand s.dev ini w 1 = mftPut (stateSet (reply s.dev false) w ctx 1) w ctx (freshMft s.dev w) := by
    unfold mftCommand
    rw [withWrite_ok _ _ _ _ _ hw]
    unfold mftCmdEffect
    dsimp only
    rw [show fget (reply s.dev false) w MFT_CTX_INDEX_INDEX = ctx from hc.symm, if_pos rfl, if_neg]
    · rfl
    · rintro (hx | hx | hx | hx | hx | hx)
      · exact hx hst
      · exact hx hb
      · exact absurd hx (by rw [show fbit (reply s.dev false) w FOQ_CTX_STATE_AUTHENTICATED ctx = fbit s.dev w FOQ_CTX_STATE_AUTHENTICATED ctx from rfl, fbit, ha]; decide)
      · exact hp hx
      · exact hcache hx
      · exact absurd hm (Nat.not_le.mpr hx)
  refine completes_of_eq (exec_mftOpen ini w) hrun heq ?_
  have hset := frame_stateSet (reply s.dev false) w ctx 1
  have hone := mftState_stateSet (reply s.dev false) w ctx 1 (by decide)
  have hrd : ∀ d, d < 32768 → d ≠ ctx → rd (stateSet (reply s.dev false) w ctx 1) (pg .mft w) 0x07C d = rd s.dev (pg .mft w) 0x07C d :=
    fun d h1 h2 => rd_stateSet_other (reply s.dev false) w ctx 1 h1 hlt h2
  generalize stateSet (reply s.dev false) w ctx 1 = g at *
  have hput := frame_mftPut g w ctx (freshMft s.dev w)
  obtain ⟨h1, h2⟩ := mftPut_shows g w ctx (freshMft s.dev w)
  refine ⟨(mftState_mftPut ..).trans hone, ?_, h2, fun d hd hne => (rd_mftPut_other g w ctx _ hd hlt hne).trans (hrd d hd hne),
    ((hset.mono (l := [.mft]) (t := ctxRegs) (by decide) (by decide)).trans (hput.mono (by decide) (by decide))).2, hset.1 .mem (by decide),
    hset.1 .eng (by decide), hset.1 .out (by decide)⟩
  rw [h1]
  unfold freshMft clampWin
  dsimp only
  omega

theorem mftClose_closes (s : State) (ini : Initiator) (w : Wing) (ctx : Nat) (hrun : Runs s.dev) (hw : Writable s.dev ini (pg .mft w) 0x078)
    (hc : ctx = fget s.dev w MFT_CTX_INDEX_INDEX) (hst : mftState s.dev w ctx = 1) :
    Completes (.mftClose ini w) s (fun h =>
      let c := mftGet s.dev w ctx
      mftState h w ctx = 3 ∧ (mftGet h w ctx).ops = [] ∧ (mftGet h w ctx).posts = [] ∧ (mftGet h w ctx).queue = [] ∧
        (mftGet h w ctx).held = [] ∧ h.eng.ops = s.dev.eng.ops.map (fun o =>
          if o.cls = .mft ∧ o.wing = w ∧ o.tag ∈ c.ops.map (·.tag) ++ c.posts.map (·.tag) ∧ o.ready = false ∧ o.held = false then
            { o with status := .aborted, bytes := 0, word := 0, place := [], ready := true }
          else o) ∧
        RegsBut s.dev h [(.mft, 0x07C), (.mft, 0x08C)] ∧ h.mem = s.dev.mem ∧ h.out = s.dev.out) := by
  have heq : mftCommand s.dev ini w 2 = mftPut (endedAll (stateSet (reply s.dev false) w ctx 3) w
      ((mftGet s.dev w ctx).ops.map (·.tag) ++ (mftGet s.dev w ctx).posts.map (·.tag)) .aborted) w ctx (mftGet s.dev w ctx).ended := by
    unfold mftCommand
    rw [withWrite_ok _ _ _ _ _ hw]
    unfold mftCmdEffect
    dsimp only
    rw [show fget (reply s.dev false) w MFT_CTX_INDEX_INDEX = ctx from hc.symm, if_neg (by decide), if_pos rfl, if_neg (fun hx => hx hst),
      foldHead_tags, foldHead_tags, endedAll_append]
    rfl
  refine completes_of_eq (exec_mftClose ini w) hrun heq ?_
  dsimp only
  have hset := frame_stateSet (reply s.dev false) w ctx 3
  have hthree := mftState_stateSet (reply s.dev false) w ctx 3 (by decide)
  have hops : (stateSet (reply s.dev false) w ctx 3).eng.ops = s.dev.eng.ops := rfl
  generalize stateSet (reply s.dev false) w ctx 3 = g at *
  generalize (mftGet s.dev w ctx).ops.map (·.tag) ++ (mftGet s.dev w ctx).posts.map (·.tag) = tags at *
  have hend := frame_endedAll g w tags .aborted
  have hops1 := ops_endedAll g w tags .aborted
  generalize endedAll g w tags .aborted = g1 at *
  have hput := frame_mftPut g1 w ctx (mftGet s.dev w ctx).ended
  have hall : Frame [.bus, .mft, .eng] ctxRegs s.dev (mftPut g1 w ctx (mftGet s.dev w ctx).ended) := by
    have hr : Frame [.bus] [] s.dev (reply s.dev false) := frame_reply ..
    exact (hr.mono (by decide) (by decide)).trans ((hset.mono (by decide) (by decide)).trans ((hend.mono (by decide) (by decide)).trans
      (hput.mono (by decide) (by decide))))
  rw [mftGet_mftPut]
  refine ⟨?_, rfl, rfl, rfl, rfl, ?_, hall.2, hall.1 .mem (by decide), hall.1 .out (by decide)⟩
  · rw [mftState_mftPut, hend.mftState (by decide), hthree]
  · exact (congrArg EngState.ops (hput.1 .eng (by decide))).trans (hops1.trans (congrArg (List.map _) hops))

theorem closeDone_idles (s : State) (w : Wing) (ctx : Nat) (hrun : Runs s.dev) (hc : ctx < 32768) (hst : mftState s.dev w ctx = 3)
    (hi : fget s.dev w FOQ_CTX_STATE_INFLIGHT ctx = 0) :
    Completes (.closeDone w ctx) s (fun h =>
      mftState h w ctx = 0 ∧ (∀ d, d < 32768 → d ≠ ctx → rd h (pg .mft w) 0x07C d = rd s.dev (pg .mft w) 0x07C d) ∧
        RegsBut s.dev h [(.mft, 0x07C)] ∧ SameButRegs s.dev h) := by
  have heq : closeDone s.dev w (ctx) = stateSet s.dev w ctx 0 := if_pos ⟨hst, hi⟩
  exact completes_of_eq (exec_closeDone w ctx) hrun heq
    ⟨mftState_stateSet s.dev w ctx 0 (by decide), fun d h1 h2 => rd_stateSet_other s.dev w ctx 0 h1 hc h2, (frame_stateSet s.dev w ctx 0).2, rfl⟩

/-- Settles O23, a lemma for each command: the ends of what is posted by `ops_endedAll`. -/
theorem mehrorContextsOpenAndClose : Obligations.MehrorContextsOpenAndClose := by
  unfold Obligations.MehrorContextsOpenAndClose
  exact ⟨mftOpen_opens, mftClose_closes, closeDone_idles⟩

end Sys2Proof.Laws
end

section
/-! Work posted on a Mehror ring (R138): descriptors that start, and the packets they queue. -/

namespace Sys2Proof.Laws

open Machine Machine.Reg

/-- A Mehror operation as its descriptor starts it. -/
def postedOp (w : Wing) (t : Taken) : EngOp := { newOp .mft w t with chan := mdCtx t.d, prio := 1, ready := false }

/-- The head as an operation of a context starts: counted in its INFLIGHT. -/
def countedIn (h : Head) (w : Wing) (t : Taken) : Head := fadd h w FOQ_CTX_STATE_INFLIGHT 1 (mdCtx t.d)

theorem frame_countedIn (h : Head) (w : Wing) (t : Taken) : Frame [] [(.foq, 0x060)] h (countedIn h w t) :=
  frame_fadd h w (mdCtx t.d) 0 FOQ_CTX_STATE_INFLIGHT 1

/-- A descriptor that passes the checks of R138 goes on with its operation and its local address. -/
theorem mftDesc_posted {h h' : Head} {w : Wing} {src : Source} {opcode a : Nat} {t : Taken} {lenOk : Nat → Bool}
    (f : Head → Taken → EngOp → Nat → Nat → Head) (x : Starts h w .mft src opcode t h') (hop : (classOpcodes .mft).contains opcode = true)
    (p : MftPosted h' w t a) (hl : lenOk (mdLen t.d) = true) :
    mftDesc h w src opcode lenOk f = f (countedIn h' w t) t (postedOp w t) (mdCtx t.d) a := by
  obtain ⟨hn, hst, hsys, hcoll, hreg⟩ := p
  unfold mftDesc
  rw [runDesc_starts x hop]
  dsimp only
  rw [hl, hst, if_neg (by rw [decide_eq_false (Nat.not_le.mpr hn)]; decide), if_neg, hreg]
  · rfl
  · rintro (hx | ⟨hx, hy⟩)
    · exact hx hsys
    · exact hy (hcoll hx)

/-- An operation queued with its packets. -/
def mftQueued (g : Head) (w : Wing) (t : Taken) (opcode a len : Nat) (pkts : List MftOut) : Head :=
  mftUpd g w (mdCtx t.d) (fun c => { c with ops := c.ops ++ [⟨dTag t.d, opcode, a, len⟩], queue := c.queue ++ pkts })

theorem mftStart_eq (h : Head) (w : Wing) (t : Taken) (opcode a len : Nat) (pkts : List MftOut) :
    mftStart h w (mdCtx t.d) (postedOp w t) opcode a len pkts = pumpAll (mftQueued (pushOp h (postedOp w t)) w t opcode a len pkts) w (mdCtx t.d) := rfl

theorem mem_mftStart (h : Head) (w : Wing) (t : Taken) (opcode a len : Nat) (pkts : List MftOut) :
    (pumpAll (mftQueued (pushOp h (postedOp w t)) w t opcode a len pkts) w (mdCtx t.d)).mem = h.mem :=
  ((frame_pumpAll ..).1 .mem (by decide)).trans (((frame_mftUpd ..).1 .mem (by decide)).trans
    ((frame_joined (joined_pushOp h (postedOp w t) nofun)).1 .mem (by decide)))

/-- The packets of an operation, split from its length. -/
theorem pkts_get {k : Nat} {f : Nat → MftOut} {i : Nat} {q : MftOut} (hq : ((List.range k).map f)[i]? = some q) : q = f i := by
  rw [List.getElem?_map, Option.map_eq_some_iff] at hq
  obtain ⟨j, hj, rfl⟩ := hq
  rw [List.getElem?_range (by have := (List.getElem?_eq_some_iff.mp hj).1; simpa using this)] at hj
  rw [Option.some.inj hj]

theorem memRead_congr {h g : Head} (x : g.mem = h.mem) (a n : Nat) : memRead g a n = memRead h a n := by
  unfold memRead
  rw [x]

theorem Frame.maxPayload {l : List Part} {t : List (Block × Nat)} {h g : Head} (x : Frame l t h g) (ht : (Block.mft, 0x06C) ∉ t) (w : Wing) (ctx : Nat) :
    Machine.maxPayload g w ctx = Machine.maxPayload h w ctx := by
  unfold Machine.maxPayload
  rw [x.fget w MFT_CTX_PATH_MAX_PAYLOAD ht (by decide)]

theorem lenWithin_iff (m n : Nat) : lenWithin m n = true ↔ 1 ≤ n ∧ n ≤ m := by
  unfold lenWithin
  simp

/-- The head after a descriptor has been taken and counted holds the memory it did. -/
theorem mem_countedIn {h h' : Head} {w : Wing} {src : Source} {opcode : Nat} {t : Taken} (x : Starts h w .mft src opcode t h') :
    (countedIn h' w t).mem = h.mem := ((frame_countedIn h' w t).1 .mem (by decide)).trans ((offered_frame x.offered).1 .mem (by decide))

theorem mftDescWrite_posts (s : State) (w : Wing) (src : Source) (t : Taken) (h' : Head) (a : Nat) (hrun : Runs s.dev)
    (x : Starts s.dev w .mft src 1 t h') (p : MftPosted h' w t a) (h1 : 1 ≤ mdLen t.d) (h2 : mdLen t.d ≤ 2 ^ 24) :
    Completes (.mftDescWrite w src) s (fun h => ∃ (g : Head) (pkts : List MftOut),
      let ctx := mdCtx t.d
      let mp := maxPayload h' w ctx
      Joined (fadd h' w FOQ_CTX_STATE_INFLIGHT 1 ctx) g { newOp .mft w t with chan := ctx, prio := 1, ready := false } ∧
        pkts.length = (mdLen t.d + mp - 1) / mp ∧
        (∀ i q, pkts[i]? = some q → q.pkt.opcode = 1 ∧ q.n = 1 ∧ q.tag = dTag t.d ∧ q.pkt.rkey = mdRkey t.d ∧
          q.pkt.offset = mdRoff t.d + i * mp ∧ q.pkt.paylen = min mp (mdLen t.d - i * mp) ∧
          q.pkt.data = memRead s.dev (a + i * mp) q.pkt.paylen) ∧
        h = pumpAll (mftUpd g w ctx (fun c => { c with ops := c.ops ++ [⟨dTag t.d, 1, a, mdLen t.d⟩], queue := c.queue ++ pkts })) w ctx ∧
        h.mem = s.dev.mem) := by
  refine completes_of_eq (exec_mftDescWrite w src) hrun
    ((mftDesc_posted _ x (by decide) p ((lenWithin_iff ..).mpr ⟨h1, h2⟩)).trans (mftStart_eq ..)) ?_
  have hm := mem_countedIn x
  have hmp := (frame_countedIn h' w t).maxPayload (by decide) w (mdCtx t.d)
  refine ⟨_, _, joined_pushOp (countedIn h' w t) (postedOp w t) nofun, ?_, fun i q hq => ?_, rfl, (mem_mftStart ..).trans hm⟩
  · rw [List.length_map, List.length_range, hmp]
  · rw [pkts_get hq, hmp]
    exact ⟨rfl, rfl, rfl, rfl, rfl, rfl, memRead_congr hm _ _⟩

theorem mftDescSend_posts (s : State) (w : Wing) (src : Source) (t : Taken) (h' : Head) (a : Nat) (hrun : Runs s.dev)
    (x : Starts s.dev w .mft src 3 t h') (p : MftPosted h' w t a) (h1 : 1 ≤ mdLen t.d) (h2 : mdLen t.d ≤ 2 ^ 20) :
    Completes (.mftDescSend w src) s (fun h => ∃ (g : Head) (pkts : List MftOut),
      let ctx := mdCtx t.d
      let mp := maxPayload h' w ctx
      Joined (mftUpd (fadd h' w FOQ_CTX_STATE_INFLIGHT 1 ctx) w ctx (fun c => { c with sndMsg := (c.sndMsg + 1) % 2 ^ 32 })) g
          { newOp .mft w t with chan := ctx, prio := 1, ready := false } ∧
        pkts.length = (mdLen t.d + mp - 1) / mp ∧
        (∀ i q, pkts[i]? = some q → q.pkt.opcode = 4 ∧ q.n = 1 ∧ q.tag = dTag t.d ∧ q.pkt.msgId = (mftGet h' w ctx).sndMsg ∧
          q.pkt.msgLen = mdLen t.d ∧ q.pkt.solicited = dEvent t.d ∧ q.pkt.imm = dBits t.d 40 32 ∧ q.pkt.offset = i * mp ∧
          q.pkt.paylen = min mp (mdLen t.d - i * mp) ∧ q.pkt.data = memRead s.dev (a + i * mp) q.pkt.paylen) ∧
        h = pumpAll (mftUpd g w ctx (fun c => { c with ops := c.ops ++ [⟨dTag t.d, 3, a, mdLen t.d⟩], queue := c.queue ++ pkts })) w ctx ∧
        h.mem = s.dev.mem) := by
  refine completes_of_eq (exec_mftDescSend w src) hrun
    ((mftDesc_posted _ x (by decide) p ((lenWithin_iff ..).mpr ⟨h1, h2⟩)).trans (mftStart_eq ..)) ?_
  have hm := mem_countedIn x
  have hmp := (frame_countedIn h' w t).maxPayload (by decide) w (mdCtx t.d)
  have hmg := (frame_countedIn h' w t).mftGet (by decide) (by decide) (by decide) w (mdCtx t.d)
  have hu := frame_mftUpd (countedIn h' w t) w (mdCtx t.d) (fun c => { c with sndMsg := (c.sndMsg + 1) % 2 ^ 32 })
  refine ⟨_, _, joined_pushOp (mftUpd (countedIn h' w t) w (mdCtx t.d) (fun c => { c with sndMsg := (c.sndMsg + 1) % 2 ^ 32 })) (postedOp w t) nofun,
    ?_, fun i q hq => ?_, rfl, (mem_mftStart ..).trans ((hu.1 .mem (by decide)).trans hm)⟩
  · rw [List.length_map, List.length_range, hmp]
  · rw [pkts_get hq, hmp, hmg]
    exact ⟨rfl, rfl, rfl, rfl, rfl, rfl, rfl, rfl, rfl, memRead_congr ((hu.1 .mem (by decide)).trans hm) _ _⟩

theorem mftDescRead_posts (s : State) (w : Wing) (src : Source) (t : Taken) (h' : Head) (a : Nat) (hrun : Runs s.dev)
    (x : Starts s.dev w .mft src 2 t h') (p : MftPosted h' w t a) (h1 : 1 ≤ mdLen t.d) (h2 : mdLen t.d ≤ 2 ^ 24) :
    Completes (.mftDescRead w src) s (fun h => ∃ (g : Head) (pkts : List MftOut),
      let ctx := mdCtx t.d
      let chunk := maxPayload h' w ctx
      let mp := 64 * chunk
      Joined (fadd h' w FOQ_CTX_STATE_INFLIGHT 1 ctx) g { newOp .mft w t with chan := ctx, prio := 1, ready := false } ∧
        pkts.length = (mdLen t.d + mp - 1) / mp ∧
        (∀ i q, pkts[i]? = some q → q.pkt.opcode = 2 ∧ q.tag = dTag t.d ∧ q.wait = true ∧ q.pkt.rkey = mdRkey t.d ∧
          q.pkt.offset = mdRoff t.d + i * mp ∧ q.pkt.len = min mp (mdLen t.d - i * mp) ∧ q.n = (q.pkt.len + chunk - 1) / chunk ∧
          q.laddr = a + i * mp) ∧
        h = pumpAll (mftUpd g w ctx (fun c => { c with ops := c.ops ++ [⟨dTag t.d, 2, a, mdLen t.d⟩], queue := c.queue ++ pkts })) w ctx ∧
        h.mem = s.dev.mem) := by
  refine completes_of_eq (exec_mftDescRead w src) hrun
    ((mftDesc_posted _ x (by decide) p ((lenWithin_iff ..).mpr ⟨h1, h2⟩)).trans (mftStart_eq ..)) ?_
  have hmp := (frame_countedIn h' w t).maxPayload (by decide) w (mdCtx t.d)
  refine ⟨_, _, joined_pushOp (countedIn h' w t) (postedOp w t) nofun, ?_, fun i q hq => ?_, rfl, (mem_mftStart ..).trans (mem_countedIn x)⟩
  · rw [List.length_map, List.length_range, hmp]
  · rw [pkts_get hq, hmp, ← Nat.mul_assoc]
    exact ⟨rfl, rfl, rfl, rfl, rfl, rfl, rfl, rfl⟩

theorem mftDescAtomic_posts (s : State) (w : Wing) (src : Source) (t : Taken) (h' : Head) (a : Nat) (cas : Bool) (hrun : Runs s.dev)
    (x : Starts s.dev w .mft src (if cas then 5 else 4) t h') (p : MftPosted h' w t a) (h8 : mdLen t.d = 8) :
    Completes (if cas then .mftDescAtomicCas w src else .mftDescAtomicAdd w src) s (fun h => ∃ (g : Head) (q : MftOut),
      let ctx := mdCtx t.d
      Joined (fadd h' w FOQ_CTX_STATE_INFLIGHT 1 ctx) g { newOp .mft w t with chan := ctx, prio := 1, ready := false } ∧
        q.pkt.opcode = (if cas then 6 else 5) ∧ q.n = 1 ∧ q.tag = dTag t.d ∧ q.wait = true ∧ q.laddr = a ∧ q.pkt.rkey = mdRkey t.d ∧
        q.pkt.offset = mdRoff t.d ∧ q.pkt.addend = dBits t.d 40 64 ∧ (cas = true → q.pkt.swap = dBits t.d 48 64) ∧
        h = pumpAll (mftUpd g w ctx (fun c => { c with
          ops := c.ops ++ [⟨dTag t.d, if cas then 5 else 4, a, 8⟩], queue := c.queue ++ [q] })) w ctx ∧
        h.mem = s.dev.mem) := by
  have hx : exec (if cas then .mftDescAtomicCas w src else .mftDescAtomicAdd w src) = lift (fun h => mftDescAtomic h w src cas) := by
    cases cas <;> rfl
  refine completes_of_eq hx hrun ((mftDesc_posted _ x (by cases cas <;> decide) p (by rw [h8]; rfl)).trans (mftStart_eq ..)) ?_
  refine ⟨_, _, joined_pushOp (countedIn h' w t) (postedOp w t) nofun, rfl, rfl, rfl, rfl, rfl, rfl, rfl, rfl, fun hc => if_pos hc, rfl,
    (mem_mftStart ..).trans (mem_countedIn x)⟩

theorem postRecv_posts (s : State) (w : Wing) (src : Source) (t : Taken) (h' : Head) (a : Nat) (hrun : Runs s.dev)
    (x : Starts s.dev w .mft src 16 t h') (p : MftPosted h' w t a) (h1 : 1 ≤ mdLen t.d) (h2 : mdLen t.d ≤ 2 ^ 24)
    (h3 : (mftGet h' w (mdCtx t.d)).posts.length < 1024) :
    Completes (.postRecv w src) s (fun h =>
      let ctx := mdCtx t.d
      Joined (mftUpd (fadd h' w FOQ_CTX_STATE_INFLIGHT 1 ctx) w ctx (fun c => { c with
          posts := c.posts ++ [⟨dTag t.d, c.rcvMsg, a, mdLen t.d⟩]
          rcvMsg := (c.rcvMsg + 1) % 2 ^ 32 })) h
        { newOp .mft w t with chan := ctx, prio := 1, ready := false } ∧ h.mem = s.dev.mem) := by
  have hmg := (frame_countedIn h' w t).mftGet (by decide) (by decide) (by decide) w (mdCtx t.d)
  have heq : postRecv s.dev w src = pushOp (mftUpd (countedIn h' w t) w (mdCtx t.d) (fun c => { c with
      posts := c.posts ++ [⟨dTag t.d, c.rcvMsg, a, mdLen t.d⟩]
      rcvMsg := (c.rcvMsg + 1) % 2 ^ 32 })) (postedOp w t) := by
    refine (mftDesc_posted _ x (by decide) p ((lenWithin_iff ..).mpr ⟨h1, h2⟩)).trans ?_
    dsimp only
    rw [hmg, if_neg (Nat.not_le.mpr h3), ← hmg]
    rfl
  refine completes_of_eq (exec_postRecv w src) hrun heq ?_
  have hj := joined_pushOp (mftUpd (countedIn h' w t) w (mdCtx t.d) (fun c => { c with
      posts := c.posts ++ [⟨dTag t.d, c.rcvMsg, a, mdLen t.d⟩]
      rcvMsg := (c.rcvMsg + 1) % 2 ^ 32 })) (postedOp w t) nofun
  exact ⟨hj, ((frame_joined hj).1 .mem (by decide)).trans (((frame_mftUpd ..).1 .mem (by decide)).trans (mem_countedIn x))⟩

/-- Settles O24, a lemma for each descriptor: its operation starts by `mftDesc_posted`, its packets are `pkts_get`. -/
theorem mehrorWorkIsPosted : Obligations.MehrorWorkIsPosted := by
  unfold Obligations.MehrorWorkIsPosted
  exact ⟨mftDescWrite_posts, mftDescSend_posts, mftDescRead_posts, mftDescAtomic_posts, postRecv_posts⟩

end Sys2Proof.Laws
end

section
/-! Mehror packets (R124 to R131): the gate, the sequence, and what a packet that is taken does. -/

namespace Sys2Proof.Laws

open Machine Machine.Reg

/-! ### The gate -/

/-- A packet that steps 1 to 4 of R124 take is seen by its context. -/
theorem mftGate_takes {h : Head} {w : Wing} {p : MftPacket} {ctx : Nat} (x : MftTakes h w p ctx) (f : Head → Nat → Head) :
    mftGate h w p f = f (mftSeen h w ctx p) ctx := by
  obtain ⟨ha, hport, hv, hn, hi, hw, hb, ho, hg, hp, ht, hc⟩ := x
  subst hi
  unfold mftGate
  dsimp only
  rw [if_neg (by rw [fbit, ha]; decide), if_neg, if_neg, if_neg (by rw [ht]; decide), if_neg (fun hx => hx hc)]
  · rintro (hx | hx | hx | hx | hx)
    · exact hx hw
    · exact hx hb
    · exact hx ho
    · exact hx hg
    · exact hx hp
  · rintro (hx | hx | hx)
    · exact hx hport
    · exact hx hv
    · exact hx hn

/-- A PSN in the map that has not been received goes on (R128). -/
theorem sequenced_new {g : Head} {w : Wing} {p : MftPacket} {ctx : Nat} (x : MftNew g w p ctx) (again f : Head → Head) :
    sequenced g w ctx p again f = f g := by
  obtain ⟨h0, h1, h2⟩ := x
  unfold sequenced
  dsimp only
  rw [if_neg (Int.not_le.mpr h1), if_neg]
  rintro (hx | hx)
  · exact absurd hx (Int.not_lt.mpr h0)
  · rw [h2] at hx
    exact absurd hx (by decide)

theorem mftRequest_takes {h : Head} {w : Wing} {p : MftPacket} {ctx n : Nat} (x : MftTakes h w p ctx) (y : MftNew (mftSeen h w ctx p) w p ctx)
    (hn : p.opcode = n) (hd : definedOp n = true) (again f : Head → Nat → Head) : mftRequest h w p n again f = f (mftSeen h w ctx p) ctx := by
  subst hn
  unfold mftRequest
  rw [if_neg (by simp), mftGate_takes x, sequenced_new y, if_pos hd]

theorem mftAnswer_takes {h : Head} {w : Wing} {p : MftPacket} {ctx n : Nat} (x : MftTakes h w p ctx) (hn : p.opcode = n) (f : Head → Nat → Head) :
    mftAnswer h w p n f = ackNow (f (mftSeen h w ctx p) ctx) w ctx p := by
  unfold mftAnswer
  rw [if_neg (fun hx => hx hn), mftGate_takes x]

theorem ackNow_silent (h : Head) (w : Wing) (ctx : Nat) {p : MftPacket} (hp : p.ackReq = false) : ackNow h w ctx p = h :=
  if_neg (by rw [hp]; rintro ⟨hx, _⟩; exact absurd hx (by decide))

theorem frame_mftSeen (h : Head) (w : Wing) (ctx : Nat) (p : MftPacket) : Frame [.mft] ctxRegs h (mftSeen h w ctx p) := frame_mftUpd ..

theorem sameWay_mftSeen (h : Head) (w : Wing) (ctx : Nat) (p : MftPacket) : SameWay w ctx h (mftSeen h w ctx p) := sameWay_mftPut ..

/-! ### WRITE -/

theorem mftWrite_places (s : State) (w : Wing) (p : MftPacket) (ctx a : Nat) (g : Head) (hrun : Runs s.dev) (x : MftTakes s.dev w p ctx)
    (hg : g = mftSeen s.dev w ctx p) (y : MftNew g w p ctx) (ho : p.opcode = 1) (h1 : 1 ≤ p.paylen) (h2 : p.paylen ≤ maxPayload g w ctx)
    (hr : regionAddr g p.rkey p.offset p.paylen (ctxColl g w ctx) (ctxSystem g w ctx) (some MFT_REGION_ATTR_WRITE) = some a) :
    Completes (.mftWritePacket w p) s (fun h => h = acceptPacket (memWrite g a p.paylen p.data) w ctx p 1) := by
  subst hg
  have heq : mftWritePacket s.dev w p = acceptPacket (memWrite (mftSeen s.dev w ctx p) a p.paylen p.data) w ctx p 1 := by
    refine (mftRequest_takes x y ho (by decide) _ _).trans ?_
    rw [if_neg (by omega), hr]
  exact completes_of_eq (exec_mftWritePacket w p) hrun heq rfl

/-- A NAK reaches the peer that listens. -/
theorem nakAgain_sends {h : Head} {w : Wing} {ctx : Nat} (psn code : Nat) (hl : MftListens h w ctx) :
    ∃ q : MftPacket, (nakAgain h w ctx psn code).out = h.out ++ [mftMsg h w ctx q] ∧ q.opcode = 9 ∧ q.code = code ∧ q.nextPsn = psn := by
  unfold nakAgain
  by_cases hc : code = 1
  · have hf := frame_raise h w 0 Ev.MFT_PROTECTION
    have hs := hf.sameWay (by decide) (by decide) (by decide) w ctx
    dsimp only
    rw [if_pos hc]
    have hq := mftSend_listens { basePacket (raise h w Ev.MFT_PROTECTION) w ctx 9 with
      nextPsn := psn, code := code, tsEcho := (mftGet (raise h w Ev.MFT_PROTECTION) w ctx).echo } (hs.listens (hf.1 .foy (by decide)) hl)
    rw [hs.msg, hf.1 .out (by decide)] at hq
    exact ⟨_, hq, rfl, rfl, rfl⟩
  · dsimp only
    rw [if_neg hc]
    have hq := mftSend_listens { basePacket h w ctx 9 with nextPsn := psn, code := code, tsEcho := (mftGet h w ctx).echo } hl
    exact ⟨_, hq, rfl, rfl, rfl⟩

theorem sendNak_sends {h : Head} {w : Wing} {ctx : Nat} (psn code : Nat) (hl : MftListens h w ctx) :
    ∃ q : MftPacket, (sendNak h w ctx psn code).out = h.out ++ [mftMsg h w ctx q] ∧ q.opcode = 9 ∧ q.code = code ∧ q.nextPsn = psn := by
  unfold sendNak
  by_cases hc : code = 2
  · rw [if_pos hc]
    exact nakAgain_sends psn code hl
  · rw [if_neg hc]
    have hf := frame_cachePut h w ctx psn 2 code 0
    have hs := hf.sameWay (by decide) (by decide) (by decide) w ctx
    obtain ⟨q, hq, hrest⟩ := nakAgain_sends psn code (hs.listens (hf.1 .foy (by decide)) hl)
    refine ⟨q, hq.trans ?_, hrest⟩
    rw [hs.msg, hf.1 .out (by decide)]

/-- The head as a region has refused a packet, before the NAK. -/
def regionCounted (h : Head) (w : Wing) : Head := capture (fadd h w MFT_CNT_REFUSED_COUNT) (pg .mft w) ⟨11, 0xFF, false, 0⟩

theorem frame_regionCounted (h : Head) (w : Wing) : Frame [.evq] [(.mft, 0x0D4), (.mft, 0x020), (.mft, 0x024), (.mft, 0x028), (.mft, 0x010)] h (regionCounted h w) := by
  simp +decide only [regionCounted, pg, (frame_capture ..).iff, frame_rules, frame_refl]

theorem regionNak_eq (h : Head) (w : Wing) (ctx : Nat) (p : MftPacket) : regionNak h w ctx p = sendNak (regionCounted h w) w ctx p.psn 1 := rfl

theorem mftWrite_refuses (s : State) (w : Wing) (p : MftPacket) (ctx : Nat) (g : Head) (hrun : Runs s.dev) (x : MftTakes s.dev w p ctx)
    (hg : g = mftSeen s.dev w ctx p) (y : MftNew g w p ctx) (ho : p.opcode = 1) (h1 : 1 ≤ p.paylen) (h2 : p.paylen ≤ maxPayload g w ctx)
    (hr : regionAddr g p.rkey p.offset p.paylen (ctxColl g w ctx) (ctxSystem g w ctx) (some MFT_REGION_ATTR_WRITE) = none)
    (hl : MftListens s.dev w ctx) :
    Completes (.mftWritePacket w p) s (fun h => (∃ q : MftPacket, mftMsg s.dev w ctx q ∈ h.out ∧ q.opcode = 9 ∧ q.code = 1 ∧ q.nextPsn = p.psn) ∧
      h = regionRefused g w ctx p 1) := by
  subst hg
  have heq : mftWritePacket s.dev w p = regionRefused (mftSeen s.dev w ctx p) w ctx p 1 := by
    refine (mftRequest_takes x y ho (by decide) _ _).trans ?_
    rw [if_neg (by omega), hr]
  refine completes_of_eq (exec_mftWritePacket w p) hrun heq ⟨?_, rfl⟩
  have hf : Frame [.mft, .evq] ([(.mft, 0x0D4), (.mft, 0x020), (.mft, 0x024), (.mft, 0x028), (.mft, 0x010)] ++ ctxRegs) s.dev
      (regionCounted (mftSeen s.dev w ctx p) w) :=
    ((frame_mftSeen ..).mono (by decide) (by decide)).trans ((frame_regionCounted ..).mono (by decide) (by decide))
  have hs := (sameWay_mftSeen s.dev w ctx p).trans ((frame_regionCounted (mftSeen s.dev w ctx p) w).sameWay (by decide) (by decide) (by decide) w ctx)
  obtain ⟨q, hq, h9, hc, hn⟩ := sendNak_sends p.psn 1 (hs.listens (hf.1 .foy (by decide)) hl)
  refine ⟨q, ?_, h9, hc, hn⟩
  rw [hs.msg] at hq
  obtain ⟨l, hgrow⟩ := outGrows_acceptPacket (regionNak (mftSeen s.dev w ctx p) w ctx p) w ctx p 1
  rw [regionRefused, hgrow, regionNak_eq, hq]
  simp

/-! ### READ and atomics -/

theorem mftRead_answers (s : State) (w : Wing) (p : MftPacket) (ctx a : Nat) (g : Head) (hrun : Runs s.dev) (x : MftTakes s.dev w p ctx)
    (hg : g = mftSeen s.dev w ctx p) (y : MftNew g w p ctx) (ho : p.opcode = 2) (h1 : p.paylen = 0) (h2 : 1 ≤ p.len)
    (h3 : (p.len + maxPayload g w ctx - 1) / maxPayload g w ctx ≤ 64) (hr : readRegion g w ctx p = some a) :
    Completes (.mftReadPacket w p) s (fun h =>
      h = acceptPacket (answerRead g w ctx p a) w ctx p ((p.len + maxPayload g w ctx - 1) / maxPayload g w ctx)) := by
  subst hg
  have heq : mftReadPacket s.dev w p = acceptPacket (answerRead (mftSeen s.dev w ctx p) w ctx p a) w ctx p
      ((p.len + maxPayload (mftSeen s.dev w ctx p) w ctx - 1) / maxPayload (mftSeen s.dev w ctx p) w ctx) := by
    refine (mftRequest_takes x y ho (by decide) _ _).trans ?_
    rw [if_neg (by omega), hr]
  exact completes_of_eq (exec_mftReadPacket w p) hrun heq rfl

theorem mftAtomic_waits (s : State) (w : Wing) (p : MftPacket) (ctx a : Nat) (g : Head) (cas : Bool) (hrun : Runs s.dev) (x : MftTakes s.dev w p ctx)
    (hg : g = mftSeen s.dev w ctx p) (y : MftNew g w p ctx) (ho : p.opcode = (if cas then 6 else 5)) (h1 : p.paylen = 0) (h2 : p.offset % 8 = 0)
    (hr : regionAddr g p.rkey p.offset 8 (ctxColl g w ctx) (ctxSystem g w ctx) (some MFT_REGION_ATTR_ATOMIC) = some a) :
    Completes (if cas then .mftAtomicCasPacket w p else .mftAtomicAddPacket w p) s (fun h =>
      h = acceptPacket (mftUpd (cachePut g w ctx p.psn 3 0 0) w ctx (fun c => { c with atomics := c.atomics ++ [{ p with offset := a }] }))
        w ctx p 1) := by
  subst hg
  have hx : exec (if cas then .mftAtomicCasPacket w p else .mftAtomicAddPacket w p) = lift (fun h => mftAtomicPacket h w p (if cas then 6 else 5)) := by
    cases cas <;> rfl
  have heq : mftAtomicPacket s.dev w p (if cas then 6 else 5) = acceptPacket (mftUpd (cachePut (mftSeen s.dev w ctx p) w ctx p.psn 3 0 0) w ctx
      (fun c => { c with atomics := c.atomics ++ [{ p with offset := a }] })) w ctx p 1 := by
    refine (mftRequest_takes x y ho (by cases cas <;> decide) _ _).trans ?_
    rw [if_neg (by omega), hr]
  exact completes_of_eq hx hrun heq rfl

/-! ### SEND -/

theorem fitIn_eq (len off n : Nat) : fitIn len off n = min n (len - off) := by
  unfold fitIn
  split <;> omega

theorem mftSend_buffers (s : State) (w : Wing) (p : MftPacket) (ctx : Nat) (g : Head) (b : Post) (hrun : Runs s.dev) (x : MftTakes s.dev w p ctx)
    (hg : g = mftSeen s.dev w ctx p) (y : MftNew g w p ctx) (ho : p.opcode = 4) (h1 : 1 ≤ p.paylen) (h2 : p.paylen ≤ maxPayload g w ctx)
    (h3 : p.msgLen ≤ 2 ^ 20) (h4 : p.offset + p.paylen ≤ p.msgLen) (hb : (mftGet g w ctx).posts.find? (fun x => x.msgId == p.msgId) = some b)
    (hm : (mftGet g w ctx).msgs.find? (fun m => m.msgId == p.msgId) = none) :
    Completes (.mftSendPacket w p) s (fun h =>
      let n := min p.paylen (b.len - p.offset)
      let placed := mftUpd (memWrite g (b.addr + p.offset) n (p.data % 2 ^ (8 * n))) w ctx (fun c => { c with
        msgs := c.msgs.filter (fun x => x.msgId != p.msgId) ++
          [⟨p.msgId, p.msgLen, min p.msgLen b.len, p.imm, n, p.psn, p.solicited⟩] })
      h = acceptPacket (if n < p.paylen then sendNak placed w ctx p.psn 4 else placed) w ctx p 1) := by
  subst hg
  refine completes_of_eq (exec_mftSendPacket w p) hrun (mftRequest_takes x y ho (by decide) _ _) ?_
  generalize mftSeen s.dev w ctx p = g at *
  dsimp only
  rw [if_neg (by omega), hb]
  dsimp only
  rw [hm, fitIn_eq, mftUpd, (frame_memWrite g (b.addr + p.offset) (min p.paylen (b.len - p.offset))
    (p.data % 2 ^ (8 * min p.paylen (b.len - p.offset)))).mftGet (by decide) (by decide) (by decide)]

theorem mftSend_rnr (s : State) (w : Wing) (p : MftPacket) (ctx : Nat) (g : Head) (hrun : Runs s.dev) (x : MftTakes s.dev w p ctx)
    (hg : g = mftSeen s.dev w ctx p) (y : MftNew g w p ctx) (ho : p.opcode = 4) (h1 : 1 ≤ p.paylen) (h2 : p.paylen ≤ maxPayload g w ctx)
    (h3 : p.msgLen ≤ 2 ^ 20) (h4 : p.offset + p.paylen ≤ p.msgLen) (hb : (mftGet g w ctx).posts = [])
    (hd : 0 ≤ psnDiff p.msgId (mftGet g w ctx).rcvMsg) (ha : p.ackReq = false) (hl : MftListens s.dev w ctx) :
    Completes (.mftSendPacket w p) s (fun h => (∃ q : MftPacket, h.out = s.dev.out ++ [mftMsg s.dev w ctx q] ∧ q.opcode = 9 ∧ q.code = 2 ∧
      q.nextPsn = p.psn) ∧ h.mem = s.dev.mem ∧ rcvNext h w ctx = rcvNext s.dev w ctx) := by
  subst hg
  have heq : mftSendPacket s.dev w p = sendNak (mftSeen s.dev w ctx p) w ctx p.psn 2 := by
    refine (mftRequest_takes x y ho (by decide) _ _).trans ?_
    rw [if_neg (by omega), hb]
    dsimp only [List.find?_nil]
    rw [if_neg (Int.not_lt.mpr hd), ackNow_silent _ _ _ ha]
  refine completes_of_eq (exec_mftSendPacket w p) hrun heq ?_
  have hseen := frame_mftSeen s.dev w ctx p
  have hs := sameWay_mftSeen s.dev w ctx p
  generalize mftSeen s.dev w ctx p = g at *
  obtain ⟨q, hq, hrest⟩ := sendNak_sends p.psn 2 (hs.listens (hseen.1 .foy (by decide)) hl)
  have hnak : Frame [.mftTxc, .foy, .out, .evq] [(.mft, 0x010)] g (sendNak g w ctx p.psn 2) := frame_nakAgain g w ctx p.psn 2
  refine ⟨⟨q, ?_, hrest⟩, (hnak.1 .mem (by decide)).trans (hseen.1 .mem (by decide)), ?_⟩
  · rw [hq, hs.msg, hseen.1 .out (by decide)]
  · exact (hnak.fget w MFT_CTX_RCV_NEXT_PSN (by decide) (by decide) ctx 0).trans (hseen.fget w MFT_CTX_RCV_NEXT_PSN (by decide) (by decide) ctx 0)

/-! ### Responses -/

theorem readResp_places (s : State) (w : Wing) (p : MftPacket) (ctx : Nat) (g : Head) (o : MftOut) (hrun : Runs s.dev) (x : MftTakes s.dev w p ctx)
    (hg : g = mftSeen s.dev w ctx p) (ho : p.opcode = 3)
    (hf : (mftGet g w ctx).out.find? (fun o => o.pkt.opcode == 2 && o.live && o.chunks.any (fun k => psnAdd o.pkt.psn k == p.psn)) = some o)
    (hp : p.paylen = min (maxPayload g w ctx) (o.pkt.len - (psnDiff p.psn o.pkt.psn).toNat * maxPayload g w ctx)) :
    Completes (.readResp w p) s (fun h =>
      h.mem = memPut s.dev.mem (o.laddr + (psnDiff p.psn o.pkt.psn).toNat * maxPayload g w ctx) p.paylen p.data ∧ h.keys = s.dev.keys ∧
        h.cat = s.dev.cat ∧ h.vit = s.dev.vit) := by
  subst hg
  refine completes_of_eq (exec_readResp w p) hrun (mftAnswer_takes x ho _) ?_
  have hseen := frame_mftSeen s.dev w ctx p
  generalize mftSeen s.dev w ctx p = g at *
  dsimp only
  rw [hf]
  dsimp only
  rw [if_neg (fun hx => hx hp)]
  have hmem : (memWrite g (o.laddr + (psnDiff p.psn o.pkt.psn).toNat * maxPayload g w ctx) p.paylen p.data).mem =
      memPut s.dev.mem (o.laddr + (psnDiff p.psn o.pkt.psn).toNat * maxPayload g w ctx) p.paylen p.data := by
    rw [← hseen.1 .mem (by decide)]
    rfl
  have hw := frame_memWrite g (o.laddr + (psnDiff p.psn o.pkt.psn).toNat * maxPayload g w ctx) p.paylen p.data
  generalize memWrite g (o.laddr + (psnDiff p.psn o.pkt.psn).toNat * maxPayload g w ctx) p.paylen p.data = k at *
  have hk (c : MftCtx) : Frame [.mft, .mftTxc, .foy, .out, .eng] sendRegs k (ackNow (pumpAll (mftDone (mftPut k w ctx c) w ctx) w ctx) w ctx p) := by
    simp +decide only [(frame_ackNow ..).iff, (frame_pumpAll ..).iff, (frame_mftDone ..).iff, (frame_mftPut ..).iff, frame_refl]
  exact ⟨((hk _).1 .mem (by decide)).trans hmem, ((hk _).1 .keys (by decide)).trans ((hw.1 .keys (by decide)).trans (hseen.1 .keys (by decide))),
    ((hk _).1 .cat (by decide)).trans ((hw.1 .cat (by decide)).trans (hseen.1 .cat (by decide))),
    ((hk _).1 .vit (by decide)).trans ((hw.1 .vit (by decide)).trans (hseen.1 .vit (by decide)))⟩

/-- An operation ends by its TAG, at the head it leaves. -/
theorem ops_mftFinish (h : Head) (w : Wing) (ctx tag : Nat) (st : Status) (bytes word : Nat) (place : List Placed) :
    (mftFinish h w ctx tag st bytes word place).eng.ops = h.eng.ops.map (endsTags w [tag] st bytes word place) := by
  unfold mftFinish
  rw [ops_mftEnd]
  exact congrArg (fun e : EngState => e.ops.map _) ((frame_mftUpd h w ctx _).1 .eng (by decide))

theorem endsTags_one (w : Wing) (tag : Nat) (st : Status) (bytes word : Nat) (place : List Placed) (o : EngOp) :
    endsTags w [tag] st bytes word place o = if o.cls = .mft ∧ o.wing = w ∧ o.tag = tag ∧ o.ready = false ∧ o.held = false then
      { o with status := st, bytes := bytes, word := word, place := place, ready := true } else o := by
  unfold endsTags
  simp only [List.mem_singleton]
  rfl

theorem atomicResp_ends (s : State) (w : Wing) (p : MftPacket) (ctx : Nat) (g : Head) (o : MftOut) (y : MftOp) (hrun : Runs s.dev)
    (x : MftTakes s.dev w p ctx) (hg : g = mftSeen s.dev w ctx p) (ho : p.opcode = 7)
    (hf : (mftGet g w ctx).out.find? (fun o => (o.pkt.opcode == 5 || o.pkt.opcode == 6) && o.live && o.wait && o.pkt.psn == p.psn) = some o)
    (hy : (mftGet g w ctx).ops.find? (fun x => x.tag == o.tag) = some y) (hp : p.paylen = 0) :
    Completes (.atomicResp w p) s (fun h =>
      h.eng.ops = s.dev.eng.ops.map (fun e =>
        if e.cls = .mft ∧ e.wing = w ∧ e.tag = o.tag ∧ e.ready = false ∧ e.held = false then
          { e with status := .done, bytes := 8, word := p.data % 2 ^ 64, place := [⟨y.addr, 8, p.data % 2 ^ 64⟩], ready := true }
        else e) ∧
        h.mem = s.dev.mem) := by
  subst hg
  refine completes_of_eq (exec_atomicResp w p) hrun (mftAnswer_takes x ho _) ?_
  have hseen := frame_mftSeen s.dev w ctx p
  generalize mftSeen s.dev w ctx p = g at *
  dsimp only
  rw [hf]
  dsimp only
  rw [hy]
  dsimp only
  rw [if_neg (fun hx => hx hp)]
  have hops := ops_mftFinish g w ctx o.tag .done 8 (p.data % 2 ^ 64) [⟨y.addr, 8, p.data % 2 ^ 64⟩]
  have hfin := frame_mftFinish g w ctx o.tag .done 8 (p.data % 2 ^ 64) [⟨y.addr, 8, p.data % 2 ^ 64⟩]
  generalize mftFinish g w ctx o.tag .done 8 (p.data % 2 ^ 64) [⟨y.addr, 8, p.data % 2 ^ 64⟩] = k at *
  have hk : Frame [.mft, .mftTxc, .foy, .out] sendRegs k (ackNow (pumpAll k w ctx) w ctx p) := by
    simp +decide only [(frame_ackNow ..).iff, (frame_pumpAll ..).iff, frame_refl]
  refine ⟨(congrArg EngState.ops (hk.1 .eng (by decide))).trans (hops.trans ?_),
    (hk.1 .mem (by decide)).trans ((hfin.1 .mem (by decide)).trans (hseen.1 .mem (by decide)))⟩
  rw [hseen.1 .eng (by decide)]
  exact List.map_congr_left fun e _ => endsTags_one ..

/-- Settles O25, a lemma for each packet: a request goes on by `mftRequest_takes`, a response by `mftAnswer_takes`. -/
theorem mehrorPacketsArePlaced : Obligations.MehrorPacketsArePlaced := by
  unfold Obligations.MehrorPacketsArePlaced
  exact ⟨mftWrite_places, mftWrite_refuses, mftRead_answers, mftAtomic_waits, mftSend_buffers, mftSend_rnr, readResp_places, atomicResp_ends⟩

end Sys2Proof.Laws
end

section
/-! Mehror's acknowledgements and retries (R125, R130 to R137). -/

namespace Sys2Proof.Laws

open Machine Machine.Reg

/-! ### MFT_ACK -/

/-- Without SACK bits an ACK covers the PSNs below NEXT_PSN. -/
theorem ackCovers_noSack {p : MftPacket} (hs : p.sack = 0) (psn : Nat) : ackCovers p psn = decide (psnDiff psn p.nextPsn < 0) := by
  unfold ackCovers
  simp [hs]

/-- Without SACK bits an ACK shows nothing missing. -/
theorem shownMissing_noSack {p : MftPacket} (hs : p.sack = 0) (c : MftCtx) : shownMissing c p = [] := by
  unfold shownMissing
  simp [hs]

theorem mftAck_covers (s : State) (w : Wing) (p : MftPacket) (time ctx : Nat) (g : Head) (c : MftCtx) (hrun : Runs s.dev) (x : MftTakes s.dev w p ctx)
    (hg : g = mftSeen s.dev w ctx p) (ho : p.opcode = 8) (hp : p.paylen = 0) (hce : p.ceCount = 0) (hs : p.sack = 0) (ha : p.ackReq = false)
    (hc : c = rttSample (mftGet g w ctx) ((time + 2 ^ 32 - p.tsEcho % 2 ^ 32) % 2 ^ 32)) (hcut : c.cutUntil = none) :
    Completes (.mftAck w p time) s (fun h =>
      let new := c.out.filter (fun o => !o.acked && decide (psnDiff o.pkt.psn p.nextPsn < 0))
      h = pumpAll (mftDone (mftPut g w ctx { c with
        rwin := p.rwin
        out := keepOut (c.out.map (fun o => if psnDiff o.pkt.psn p.nextPsn < 0 then { o with acked := true } else o))
        cwnd := min (256 * fget g w MFT_CC_MAX_WIN) (max (256 * fget g w MFT_CC_MD_MIN_WIN)
          (c.cwnd + fget g w MFT_CC_AI_STEP * new.length * 256 / max 1 (c.cwnd / 256))) })
        w ctx) w ctx) := by
  subst hg
  refine completes_of_eq (exec_mftAck w p time) hrun ((mftAnswer_takes x ho _).trans (ackNow_silent _ _ _ ha)) ?_
  dsimp only
  rw [if_neg (fun hx => hx hp), ← hc, hcut]
  simp only [ackCovers_noSack hs, shownMissing_noSack hs, hce, if_true, Option.any_none, decide_eq_true_eq]
  rfl

/-! ### MFT_NAK -/

theorem mftNak_putsOff (s : State) (w : Wing) (p : MftPacket) (time ctx : Nat) (g : Head) (c : MftCtx) (o : MftOut) (hrun : Runs s.dev)
    (x : MftTakes s.dev w p ctx) (hg : g = mftSeen s.dev w ctx p) (ho : p.opcode = 9) (hcode : p.code = 2) (hp : p.paylen = 0) (ha : p.ackReq = false)
    (hc : c = rttSample (mftGet g w ctx) ((time + 2 ^ 32 - p.tsEcho % 2 ^ 32) % 2 ^ 32))
    (hf : c.out.find? (fun o => o.pkt.psn == p.nextPsn) = some o) (hl : o.live = true) (hr : o.rnr < fget s.dev w MFT_RETRY_RNR_MAX) :
    Completes (.mftNak w p time) s (fun h =>
      (mftGet h w ctx).out = c.out.map (fun x => if x = o then { x with rnr := x.rnr + 1 } else x) ∧ h.eng = s.dev.eng ∧
        h.out = s.dev.out ∧ h.mem = s.dev.mem) := by
  subst hg
  have hseen := frame_mftSeen s.dev w ctx p
  have heq : mftNak s.dev w p time = mftPut (mftPut (mftSeen s.dev w ctx p) w ctx c) w ctx
      { c with out := c.out.map (fun x => if x = o then { x with rnr := x.rnr + 1 } else x) } := by
    refine ((mftAnswer_takes x ho _).trans (ackNow_silent _ _ _ ha)).trans ?_
    generalize mftSeen s.dev w ctx p = g at *
    have hput := frame_mftPut g w ctx c
    dsimp only
    rw [if_neg (fun hx => hx hp), ← hc, mftGet_mftPut, hf]
    dsimp only
    rw [if_pos hcode, if_neg (by rw [hl]; decide), if_neg]
    rw [hput.fget w MFT_RETRY_RNR_MAX (by decide) (by decide), hseen.fget w MFT_RETRY_RNR_MAX (by decide) (by decide)]
    exact Nat.not_le.mpr hr
  refine completes_of_eq (exec_mftNak w p time) hrun heq ?_
  generalize mftSeen s.dev w ctx p = g at *
  have hall := (hseen.trans (frame_mftPut g w ctx c)).trans (frame_mftPut (mftPut g w ctx c) w ctx
    { c with out := c.out.map (fun x => if x = o then { x with rnr := x.rnr + 1 } else x) })
  exact ⟨by rw [mftGet_mftPut], hall.1 .eng (by decide), hall.1 .out (by decide), hall.1 .mem (by decide)⟩

/-- A NAK's packet taken out of those outstanding, with the event that code 1 raises. -/
def nakDropped (h : Head) (w : Wing) (ctx code : Nat) (c : MftCtx) : Head :=
  if code = 1 then raise (mftPut h w ctx c) w Ev.MFT_PROTECTION else mftPut h w ctx c

theorem frame_nakDropped (h : Head) (w : Wing) (ctx code : Nat) (c : MftCtx) :
    Frame [.mft, .evq] ((.mft, 0x010) :: ctxRegs) h (nakDropped h w ctx code c) := by
  simp +decide only [nakDropped, frame_ite, (frame_mftPut ..).iff, frame_rules, frame_refl, ite_self]

theorem nakStatus_eq (n : Nat) : nakStatus n = if n = 1 then .collMismatch else if n = 4 then .limit else .protocol := by
  unfold nakStatus
  split
  · rfl
  · rfl
  · next h1 h4 => rw [if_neg h1, if_neg h4]

theorem mftNak_ends (s : State) (w : Wing) (p : MftPacket) (time ctx : Nat) (g : Head) (c : MftCtx) (o : MftOut) (hrun : Runs s.dev)
    (x : MftTakes s.dev w p ctx) (hg : g = mftSeen s.dev w ctx p) (ho : p.opcode = 9) (hcode : p.code ≠ 2) (hp : p.paylen = 0)
    (hc : c = rttSample (mftGet g w ctx) ((time + 2 ^ 32 - p.tsEcho % 2 ^ 32) % 2 ^ 32))
    (hf : c.out.find? (fun o => o.pkt.psn == p.nextPsn) = some o) (hl : o.live = true) :
    Completes (.mftNak w p time) s (fun h =>
      h.eng.ops = s.dev.eng.ops.map (fun e =>
        if e.cls = .mft ∧ e.wing = w ∧ e.tag = o.tag ∧ e.ready = false ∧ e.held = false then
          { e with
            status := if p.code = 1 then .collMismatch else if p.code = 4 then .limit else .protocol
            bytes := 0, word := 0, place := [], ready := true }
        else e) ∧
        (p.code = 1 → EventSet h w Ev.MFT_PROTECTION) ∧ h.mem = s.dev.mem) := by
  subst hg
  have hseen := frame_mftSeen s.dev w ctx p
  have heq : mftNak s.dev w p time = ackNow (pumpAll (mftFinish (nakDropped (mftPut (mftSeen s.dev w ctx p) w ctx c) w ctx p.code
      { c with out := c.out.filter (fun x => x != o) }) w ctx o.tag (nakStatus p.code) 0 0 []) w ctx) w ctx p := by
    refine (mftAnswer_takes x ho _).trans ?_
    generalize mftSeen s.dev w ctx p = g at *
    dsimp only
    rw [if_neg (fun hx => hx hp), ← hc, mftGet_mftPut, hf]
    dsimp only
    rw [if_neg hcode, if_pos hl]
    rfl
  refine completes_of_eq (exec_mftNak w p time) hrun heq ?_
  generalize mftSeen s.dev w ctx p = g at *
  have hput := frame_mftPut g w ctx c
  generalize mftPut g w ctx c = g1 at *
  have hdrop := frame_nakDropped g1 w ctx p.code { c with out := c.out.filter (fun x => x != o) }
  have hev : p.code = 1 → EventSet (nakDropped g1 w ctx p.code { c with out := c.out.filter (fun x => x != o) }) w Ev.MFT_PROTECTION := by
    intro h1
    unfold nakDropped
    rw [if_pos h1]
    exact raiseAt_sets _ _ _ (by decide)
  generalize nakDropped g1 w ctx p.code { c with out := c.out.filter (fun x => x != o) } = g2 at *
  have hops := ops_mftFinish g2 w ctx o.tag (nakStatus p.code) 0 0 []
  have hfin := frame_mftFinish g2 w ctx o.tag (nakStatus p.code) 0 0 []
  generalize mftFinish g2 w ctx o.tag (nakStatus p.code) 0 0 [] = k at *
  have hk : Frame [.mft, .mftTxc, .foy, .out] sendRegs k (ackNow (pumpAll k w ctx) w ctx p) := by
    simp +decide only [(frame_ackNow ..).iff, (frame_pumpAll ..).iff, frame_refl]
  generalize ackNow (pumpAll k w ctx) w ctx p = h at *
  refine ⟨(congrArg EngState.ops (hk.1 .eng (by decide))).trans (hops.trans ?_), fun h1 => ?_,
    (hk.1 .mem (by decide)).trans ((hfin.1 .mem (by decide)).trans ((hdrop.1 .mem (by decide)).trans ((hput.1 .mem (by decide)).trans
      (hseen.1 .mem (by decide)))))⟩
  · rw [hdrop.1 .eng (by decide), hput.1 .eng (by decide), hseen.1 .eng (by decide), nakStatus_eq]
    exact List.map_congr_left fun e _ => endsTags_one ..
  · exact (hk.eventSet w Ev.MFT_PROTECTION (by decide) 0).mpr ((hfin.eventSet w Ev.MFT_PROTECTION (by decide) 0).mpr (hev h1))

/-! ### ACK_DELAY -/

/-- A sum of bits at distinct places shows each (R121's SACK bits). -/
theorem testBit_sum_bits (f : Nat → Bool) (n i : Nat) :
    (((List.range n).map (fun i => ofBool (f i) <<< i)).sum).testBit i = (decide (i < n) && f i) ∧
      ((List.range n).map (fun i => ofBool (f i) <<< i)).sum < 2 ^ n := by
  induction n with
  | zero => simp
  | succ n ih =>
    obtain ⟨hb, hlt⟩ := ih
    rw [List.range_succ, List.map_append, List.sum_append]
    simp only [List.map_cons, List.map_nil, List.sum_cons, List.sum_nil, Nat.add_zero]
    generalize ((List.range n).map (fun i => ofBool (f i) <<< i)).sum = k at *
    have hsum : k + ofBool (f n) <<< n = 2 ^ n * ofBool (f n) + k := by rw [Nat.shiftLeft_eq]; ring
    rw [hsum]
    constructor
    · rw [Nat.testBit_two_pow_mul_add _ hlt]
      by_cases hi : i < n
      · rw [if_pos hi, hb, decide_eq_true hi, decide_eq_true (by omega : i < n + 1)]
      · rw [if_neg hi]
        by_cases he : i = n
        · subst he
          cases f i <;> simp [ofBool]
        · rw [decide_eq_false (by omega : ¬ i < n + 1), Bool.false_and]
          obtain ⟨j, hj⟩ : ∃ j, i - n = j + 1 := ⟨i - n - 1, by omega⟩
          rw [hj]
          cases f n <;> simp [ofBool, Nat.testBit_succ]
    · have ho : ofBool (f n) ≤ 1 := by cases f n <;> simp [ofBool]
      have : 2 ^ n * ofBool (f n) ≤ 2 ^ n * 1 := Nat.mul_le_mul_left _ ho
      rw [Nat.pow_succ]
      omega

theorem sackOf_testBit (h : Head) (w : Wing) (ctx : Nat) (c : MftCtx) {i : Nat} (hi : i < 256) :
    (sackOf h w ctx c).testBit i = c.marked.contains (psnAdd (rcvNext h w ctx) (1 + i)) := by
  have hb := (testBit_sum_bits (fun i => c.marked.contains (psnAdd (rcvNext h w ctx) (1 + i))) 256 i).1
  rw [decide_eq_true hi, Bool.true_and] at hb
  exact hb

/-- An ACK as it is sent (R130). -/
def ackOf (h : Head) (w : Wing) (ctx : Nat) (b : Bool) : MftPacket :=
  { basePacket h w ctx 8 with
    ackReq := b
    nextPsn := rcvNext h w ctx
    rwin := advertised h w
    ceCount := (mftGet h w ctx).ceSeen
    tsEcho := (mftGet h w ctx).echo
    sack := sackOf h w ctx (mftGet h w ctx) }

/-- A context that has just acknowledged. -/
def ackedCtx (h : Head) (w : Wing) (ctx : Nat) : MftCtx := { mftGet h w ctx with accepted := 0, ceSeen := 0, closed := fetchHeld h w }

theorem sendAck_eq (h : Head) (w : Wing) (ctx : Nat) (b : Bool) :
    sendAck h w ctx b = mftSend (mftPut h w ctx (ackedCtx h w ctx)) w ctx (ackOf h w ctx b) := rfl

theorem mftGet_sendAck (h : Head) (w : Wing) (ctx : Nat) (b : Bool) : mftGet (sendAck h w ctx b) w ctx = ackedCtx h w ctx := by
  rw [sendAck_eq, (frame_mftSend ..).mftGet (by decide) (by decide) (by decide), mftGet_mftPut]

theorem sendAck_listens {h : Head} {w : Wing} {ctx : Nat} (b : Bool) (hl : MftListens h w ctx) :
    (sendAck h w ctx b).out = h.out ++ [mftMsg h w ctx (stamped (mftPut h w ctx (ackedCtx h w ctx)) w ctx (ackOf h w ctx b))] := by
  have hs := sameWay_mftPut h w ctx (ackedCtx h w ctx)
  have hf := frame_mftPut h w ctx (ackedCtx h w ctx)
  rw [sendAck_eq, mftSend_listens _ (hs.listens (hf.1 .foy (by decide)) hl), hs.msg, hf.1 .out (by decide)]

theorem ackDelay_acknowledges (s : State) (w : Wing) (ctx : Nat) (hrun : Runs s.dev) (hst : mftState s.dev w ctx = 1)
    (ha : 0 < (mftGet s.dev w ctx).accepted) (hl : MftListens s.dev w ctx) :
    Completes (.ackDelay w ctx) s (fun h => ∃ q : MftPacket, h.out = s.dev.out ++ [mftMsg s.dev w ctx q] ∧ q.opcode = 8 ∧
      q.nextPsn = rcvNext s.dev w ctx ∧ q.rwin = (if fetchHeld s.dev w then 0 else 4096) ∧ q.ceCount = (mftGet s.dev w ctx).ceSeen ∧
      (∀ i, i < 256 → q.sack.testBit i = (mftGet s.dev w ctx).marked.contains (psnAdd (rcvNext s.dev w ctx) (1 + i))) ∧
      (mftGet h w ctx).accepted = 0 ∧ (mftGet h w ctx).ceSeen = 0 ∧ RegsBut s.dev h [(.mft, 0x07C), (.mft, 0x08C)] ∧
      h.mem = s.dev.mem ∧ h.eng = s.dev.eng) := by
  have heq : ackDelay s.dev w ctx = sendAck s.dev w ctx := if_pos ⟨hst, ha⟩
  have hf := frame_sendAck s.dev w ctx false
  have hget := mftGet_sendAck s.dev w ctx false
  refine completes_of_eq (exec_ackDelay w ctx) hrun heq ⟨_, sendAck_listens false hl, rfl, rfl, rfl, rfl, fun i hi => sackOf_testBit _ _ _ _ hi,
    ?_, ?_, hf.2, hf.1 .mem (by decide), hf.1 .eng (by decide)⟩
  · rw [hget]
    rfl
  · rw [hget]
    rfl

/-! ### Packets sent again -/

/-- A packet as it is sent again: a READ from its first missing chunk (R132). -/
def againOut (h : Head) (w : Wing) (ctx : Nat) (o : MftOut) : MftOut :=
  if o.pkt.opcode = 2 then
    { o with
      pkt := { o.pkt with
        psn := psnAdd o.pkt.psn (o.chunks.headD 0), offset := o.pkt.offset + o.chunks.headD 0 * maxPayload h w ctx
        len := o.pkt.len - o.chunks.headD 0 * maxPayload h w ctx }
      n := o.n - o.chunks.headD 0
      laddr := o.laddr + o.chunks.headD 0 * maxPayload h w ctx
      chunks := o.chunks.map (· - o.chunks.headD 0) }
  else o

/-- The head as a packet is about to be sent again: kept in its context, counted, and the window cut for its loss (R133). -/
def againHead (h : Head) (w : Wing) (ctx psn : Nat) (o' : MftOut) : Head :=
  cutWindow (fadd (mftUpd h w ctx (fun c => { c with out := c.out.map (fun x => if x.pkt.psn = psn then o' else x) })) w MFT_CNT_RETX_COUNT) w ctx
    (fget (mftUpd h w ctx (fun c => { c with out := c.out.map (fun x => if x.pkt.psn = psn then o' else x) })) w MFT_CC_MD_MD_LOSS)

theorem retransmit_eq (h : Head) (w : Wing) (ctx : Nat) (o : MftOut) (change : MftOut → MftOut) : retransmit h w ctx o change =
    mftSend (againHead h w ctx o.pkt.psn (change (againOut h w ctx o))) w ctx
      { (change (againOut h w ctx o)).pkt with retry := min 255 ((change (againOut h w ctx o)).sent + (change (againOut h w ctx o)).rnr - 1) } := rfl

theorem frame_againHead (h : Head) (w : Wing) (ctx psn : Nat) (o' : MftOut) : Frame [.mft] ((.mft, 0x0C0) :: ctxRegs) h (againHead h w ctx psn o') := by
  simp +decide only [againHead, (frame_cutWindow ..).iff, (frame_mftUpd ..).iff, frame_rules, frame_refl]

theorem sameWay_cutWindow (h : Head) (w : Wing) (ctx n : Nat) : SameWay w ctx h (cutWindow h w ctx n) := by
  unfold cutWindow
  dsimp only
  split
  · exact ⟨rfl, rfl⟩
  · exact sameWay_mftPut ..

theorem sameWay_againHead (h : Head) (w : Wing) (ctx psn : Nat) (o' : MftOut) : SameWay w ctx h (againHead h w ctx psn o') :=
  (sameWay_mftPut h w ctx _).trans (((frame_fadd _ w 0 0 MFT_CNT_RETX_COUNT 1).sameWay (by decide) (by decide) (by decide) w ctx).trans
    (sameWay_cutWindow ..))

theorem retx_againHead (h : Head) (w : Wing) (ctx psn : Nat) (o' : MftOut) :
    fget (againHead h w ctx psn o') w MFT_CNT_RETX_COUNT = min (fget h w MFT_CNT_RETX_COUNT + 1) (2 ^ 32 - 1) := by
  unfold againHead
  have hu := frame_mftUpd h w ctx (fun c => { c with out := c.out.map (fun x => if x.pkt.psn = psn then o' else x) })
  generalize mftUpd h w ctx (fun c => { c with out := c.out.map (fun x => if x.pkt.psn = psn then o' else x) }) = g at *
  rw [(frame_cutWindow ..).fget w MFT_CNT_RETX_COUNT (by decide) (by decide), fget_fadd_same g w MFT_CNT_RETX_COUNT 1 0 0 (by decide) (by decide),
    hu.fget w MFT_CNT_RETX_COUNT (by decide) (by decide)]
  rfl

theorem frame_retransmit (h : Head) (w : Wing) (ctx : Nat) (o : MftOut) (change : MftOut → MftOut) :
    Frame [.mft, .mftTxc, .foy, .out] ((.mft, 0x0C0) :: ctxRegs) h (retransmit h w ctx o change) := by
  rw [retransmit_eq]
  exact ((frame_againHead ..).mono (by decide) (by decide)).trans ((frame_mftSend ..).mono (by decide) (by decide))

theorem retransmit_sends {h : Head} {w : Wing} {ctx : Nat} (o : MftOut) (change : MftOut → MftOut) (hk : ∀ x, (change x).pkt = x.pkt)
    (hl : MftListens h w ctx) : ∃ q : MftPacket, (retransmit h w ctx o change).out = h.out ++ [mftMsg h w ctx q] ∧ SentAgain h w ctx o q ∧
      q.retry = min 255 ((change (againOut h w ctx o)).sent + (change (againOut h w ctx o)).rnr - 1) := by
  rw [retransmit_eq]
  have hpkt := hk (againOut h w ctx o)
  generalize change (againOut h w ctx o) = o' at *
  have hf := frame_againHead h w ctx o.pkt.psn o'
  have hs := sameWay_againHead h w ctx o.pkt.psn o'
  generalize againHead h w ctx o.pkt.psn o' = g at *
  have hq := mftSend_listens { o'.pkt with retry := min 255 (o'.sent + o'.rnr - 1) } (hs.listens (hf.1 .foy (by decide)) hl)
  rw [hs.msg, hf.1 .out (by decide)] at hq
  have htxc : mftTxc g w ctx = mftTxc h w ctx := by
    unfold mftTxc
    rw [hf.1 .mftTxc (by decide)]
  refine ⟨_, hq, ⟨?_, ?_, htxc, ?_, ?_, ?_⟩, rfl⟩ <;> unfold stamped <;> dsimp only <;> rw [hpkt, againOut] <;> split <;> rfl

theorem rnrDelay_sends (s : State) (w : Wing) (ctx psn : Nat) (o : MftOut) (hrun : Runs s.dev) (hst : mftState s.dev w ctx = 1)
    (hf : (mftGet s.dev w ctx).out.find? (fun o => o.pkt.psn == psn && o.rnr != 0) = some o) (hl : MftListens s.dev w ctx) :
    Completes (.rnrDelay w ctx psn) s (fun h => ∃ q : MftPacket, h.out = s.dev.out ++ [mftMsg s.dev w ctx q] ∧ SentAgain s.dev w ctx o q ∧
      q.retry = min 255 (o.sent + o.rnr - 1) ∧ h.mem = s.dev.mem ∧ h.eng = s.dev.eng) := by
  have heq : rnrDelay s.dev w ctx psn = retransmit s.dev w ctx o id := by
    unfold rnrDelay
    rw [if_neg (fun hx => hx hst), hf]
  refine completes_of_eq (exec_rnrDelay w ctx psn) hrun heq ?_
  have hfr := frame_retransmit s.dev w ctx o id
  obtain ⟨q, hq, hsent, hretry⟩ := retransmit_sends o id (fun _ => rfl) hl
  refine ⟨q, hq, hsent, hretry.trans ?_, hfr.1 .mem (by decide), hfr.1 .eng (by decide)⟩
  unfold againOut
  split <;> rfl

/-- A packet's count of sendings raised and its timeout doubled (R136). -/
def sentOnce (h : Head) (w : Wing) (o : MftOut) : MftOut :=
  { o with sent := o.sent + 1, rto := min (1000 * fget h w MFT_TIMER_RTO_MAX) (2 * o.rto) }

theorem rtoExpiry_eq {h : Head} {w : Wing} {ctx psn : Nat} {o : MftOut} (hst : mftState h w ctx = 1) (hr : (mftGet h w ctx).rwin ≠ 0)
    (hf : (mftGet h w ctx).out.find? (fun o => o.pkt.psn == psn && (!o.acked || o.wait)) = some o) :
    rtoExpiry h w ctx psn = if fget h w MFT_RETRY_RETRY_MAX ≤ o.sent then mftFail h w ctx else retransmit h w ctx o (sentOnce h w) := by
  unfold rtoExpiry
  dsimp only
  rw [if_neg (fun hx => hx hst), hf, if_neg hr]
  dsimp only
  unfold resend
  rw [if_neg (fun hx => hx hst)]
  rfl

theorem rtoExpiry_sends (s : State) (w : Wing) (ctx psn : Nat) (o : MftOut) (hrun : Runs s.dev) (hst : mftState s.dev w ctx = 1)
    (hr : (mftGet s.dev w ctx).rwin ≠ 0)
    (hf : (mftGet s.dev w ctx).out.find? (fun o => o.pkt.psn == psn && (!o.acked || o.wait)) = some o)
    (hm : o.sent < fget s.dev w MFT_RETRY_RETRY_MAX) (hl : MftListens s.dev w ctx) :
    Completes (.rtoExpiry w ctx psn) s (fun h => ∃ q : MftPacket, h.out = s.dev.out ++ [mftMsg s.dev w ctx q] ∧ SentAgain s.dev w ctx o q ∧
      q.retry = min 255 (o.sent + o.rnr) ∧
      fget h w MFT_CNT_RETX_COUNT = min (fget s.dev w MFT_CNT_RETX_COUNT + 1) (2 ^ 32 - 1) ∧ h.mem = s.dev.mem ∧ h.eng = s.dev.eng) := by
  refine completes_of_eq (exec_rtoExpiry w ctx psn) hrun ((rtoExpiry_eq hst hr hf).trans (if_neg (Nat.not_le.mpr hm))) ?_
  have hfr := frame_retransmit s.dev w ctx o (sentOnce s.dev w)
  obtain ⟨q, hq, hsent, hretry⟩ := retransmit_sends o (sentOnce s.dev w) (fun _ => rfl) hl
  refine ⟨q, hq, hsent, hretry.trans ?_, ?_, hfr.1 .mem (by decide), hfr.1 .eng (by decide)⟩
  · have ho : (againOut s.dev w ctx o).sent = o.sent ∧ (againOut s.dev w ctx o).rnr = o.rnr := by
      unfold againOut
      split <;> exact ⟨rfl, rfl⟩
    show min 255 ((againOut s.dev w ctx o).sent + 1 + (againOut s.dev w ctx o).rnr - 1) = _
    rw [ho.1, ho.2]
    omega
  · rw [retransmit_eq, (frame_mftSend ..).fget w MFT_CNT_RETX_COUNT (by decide) (by decide), retx_againHead]

/-! ### A connection that fails -/

/-- The operations of some TAGs on a wing are ended. -/
def TagsEnded (w : Wing) (tags : List Nat) (e : EngOp) : Prop := e.cls = .mft → e.wing = w → e.tag ∈ tags → e.ready = true ∨ e.held = true

theorem endsTags_ended (w : Wing) (tags : List Nat) (st : Status) (e : EngOp) : TagsEnded w tags (endsTags w tags st 0 0 [] e) := by
  unfold endsTags
  split
  · exact fun _ _ _ => Or.inl rfl
  · next hx =>
    intro h1 h2 h3
    by_contra hc
    obtain ⟨hr, hh⟩ := not_or.mp hc
    exact hx ⟨h1, h2, h3, Bool.not_eq_true _ ▸ hr, Bool.not_eq_true _ ▸ hh⟩

theorem endsTags_keepsEnded {w : Wing} {tags : List Nat} {e : EngOp} (he : TagsEnded w tags e) (other : List Nat) (st : Status) :
    TagsEnded w tags (endsTags w other st 0 0 [] e) := by
  unfold endsTags
  split
  · exact fun _ _ _ => Or.inl rfl
  · exact he

theorem mftFail_eq (h : Head) (w : Wing) (ctx : Nat) : mftFail h w ctx =
    raise (mftPut (endedAll (endedAll (stateSet h w ctx 2) w ((mftGet h w ctx).ops.map (·.tag)) .timeout) w ((mftGet h w ctx).posts.map (·.tag)) .aborted)
      w ctx (mftGet h w ctx).ended) w Ev.MFT_CONN_FAILED := by
  unfold mftFail
  dsimp only
  rw [foldHead_tags, foldHead_tags]
  rfl

theorem rtoExpiry_fails (s : State) (w : Wing) (ctx psn : Nat) (o : MftOut) (hrun : Runs s.dev) (hst : mftState s.dev w ctx = 1)
    (hr : (mftGet s.dev w ctx).rwin ≠ 0)
    (hf : (mftGet s.dev w ctx).out.find? (fun o => o.pkt.psn == psn && (!o.acked || o.wait)) = some o)
    (hm : fget s.dev w MFT_RETRY_RETRY_MAX ≤ o.sent) :
    Completes (.rtoExpiry w ctx psn) s (fun h =>
      mftState h w ctx = 2 ∧ EventSet h w Ev.MFT_CONN_FAILED ∧ (mftGet h w ctx).ops = [] ∧ (mftGet h w ctx).posts = [] ∧
        (∀ e ∈ h.eng.ops, e.cls = .mft → e.wing = w → e.tag ∈ (mftGet s.dev w ctx).ops.map (·.tag) → e.ready = true ∨ e.held = true) ∧
        h.out = s.dev.out ∧ h.mem = s.dev.mem) := by
  refine completes_of_eq (exec_rtoExpiry w ctx psn) hrun ((rtoExpiry_eq hst hr hf).trans (if_pos hm)) ?_
  have hall := frame_mftFail s.dev w ctx
  refine ⟨?_, ?_, ?_, ?_, ?_, hall.1 .out (by decide), hall.1 .mem (by decide)⟩ <;> rw [mftFail_eq]
  · rw [(frame_raise _ w 0 Ev.MFT_CONN_FAILED).mftState (by decide), mftState_mftPut, (frame_endedAll ..).mftState (by decide),
      (frame_endedAll ..).mftState (by decide), mftState_stateSet _ _ _ _ (by decide)]
  · exact raiseAt_sets _ _ _ (by decide)
  · rw [(frame_raise _ w 0 Ev.MFT_CONN_FAILED).mftGet (by decide) (by decide) (by decide), mftGet_mftPut]
    rfl
  · rw [(frame_raise _ w 0 Ev.MFT_CONN_FAILED).mftGet (by decide) (by decide) (by decide), mftGet_mftPut]
    rfl
  · rw [(frame_raise _ w 0 Ev.MFT_CONN_FAILED).1 .eng (by decide), (frame_mftPut ..).1 .eng (by decide), ops_endedAll, ops_endedAll, List.map_map]
    intro e he
    obtain ⟨e0, _, rfl⟩ := List.mem_map.mp he
    exact endsTags_keepsEnded (endsTags_ended w ((mftGet s.dev w ctx).ops.map (·.tag)) .timeout e0) _ _

/-- Settles O26, a lemma for each command: what is sent again is `retransmit_sends`, what fails is `mftFail_eq`. -/
theorem mehrorAcknowledgesAndRetries : Obligations.MehrorAcknowledgesAndRetries := by
  unfold Obligations.MehrorAcknowledgesAndRetries
  exact ⟨mftAck_covers, mftNak_putsOff, mftNak_ends, ackDelay_acknowledges, rtoExpiry_sends, rtoExpiry_fails, rnrDelay_sends⟩

end Sys2Proof.Laws
end

section
/-! Cases and galleries that close (R230 to R233, R261, R262). -/

namespace Sys2Proof.Laws

open Machine Machine.Reg

/-! ### CASE_COMPRESSED -/

/-- An APPEND's operation as its written case ends it (R233). -/
def appendEnded (c : CaseStream) (st : Stored) (i : Nat) (o : EngOp) : EngOp :=
  if st.raw then { o with ready := true, status := .doneNote, bytes := 4096, word := appendWord true false 0 (8 * i) 8 }
  else { o with ready := true, bytes := 512 * st.sheets, word := appendWord false c.static i 0 st.sheets }

/-- The operations of one granule's APPEND ended. -/
def endAppend (c : CaseStream) (st : Stored) (h : Head) (e : Appended × Nat) : Head :=
  readyOps h (appendOf c e.1) (fun o =>
    if st.raw then { o with status := .doneNote, bytes := 4096, word := appendWord true false 0 (8 * e.2) 8 }
    else { o with bytes := 512 * st.sheets, word := appendWord false c.static e.2 0 st.sheets })

theorem ops_endAppend (c : CaseStream) (st : Stored) (h : Head) (e : Appended × Nat) : (endAppend c st h e).eng.ops =
    h.eng.ops.map (fun o => if appendOf c e.1 o && !o.held then appendEnded c st e.2 o else o) := by
  show h.eng.ops.map _ = _
  refine List.map_congr_left fun o _ => ?_
  unfold appendEnded
  by_cases hp : (appendOf c e.1 o && !o.held) = true
  · rw [if_pos hp, if_pos hp]
    split <;> rfl
  · rw [if_neg hp, if_neg hp]

theorem ready_appendEnded (c : CaseStream) (st : Stored) (i : Nat) (o : EngOp) : (appendEnded c st i o).ready = true := by
  unfold appendEnded
  split <;> rfl

theorem appendOf_ready (c : CaseStream) (a : Appended) {o : EngOp} (hr : o.ready = true) : appendOf c a o = false := by
  unfold appendOf
  rw [hr]
  simp

/-- An operation that no APPEND of a granule names stays. -/
theorem mem_endAppend_other {c : CaseStream} {st : Stored} {h : Head} {e : Appended × Nat} {o : EngOp} (ho : o ∈ h.eng.ops)
    (ha : appendOf c e.1 o = false) : o ∈ (endAppend c st h e).eng.ops := by
  rw [ops_endAppend]
  exact List.mem_map.mpr ⟨o, ho, by rw [ha]; rfl⟩

theorem mem_endAppends {c : CaseStream} {st : Stored} {e : Appended × Nat} {o : EngOp} (ha : appendOf c e.1 o = true) (hh : o.held = false)
    (l : List (Appended × Nat)) (he : e ∈ l) (hu : ∀ x ∈ l, appendOf c x.1 o = true → x = e) (h : Head) (ho : o ∈ h.eng.ops) :
    appendEnded c st e.2 o ∈ (foldHead h l (endAppend c st)).eng.ops := by
  induction l generalizing h with
  | nil => exact absurd he List.not_mem_nil
  | cons x l ih =>
    show _ ∈ (foldHead (endAppend c st h x) l (endAppend c st)).eng.ops
    by_cases hx : x = e
    · subst hx
      refine foldHead_keeps (fun h => appendEnded c st x.2 o ∈ h.eng.ops)
        (fun h y hy => mem_endAppend_other hy (appendOf_ready c y.1 (ready_appendEnded ..))) l _ ?_
      rw [ops_endAppend]
      exact List.mem_map.mpr ⟨o, ho, by rw [ha, hh]; rfl⟩
    · have hno : appendOf c x.1 o = false := Bool.not_eq_true _ ▸ fun ht => hx (hu x (List.mem_cons_self ..) ht)
      exact ih ((List.mem_cons.mp he).resolve_left (Ne.symm hx)) (fun y hy => hu y (List.mem_cons_of_mem _ hy)) _ (mem_endAppend_other ho hno)

theorem frame_finishAppends (h : Head) (c : CaseStream) (st : Stored) : Frame [.eng] [] h (finishAppends h c st) :=
  frame_foldHead_mem fun g _ _ => frame_readyOps g ..

theorem cases_finishAppends (h : Head) (c : CaseStream) (st : Stored) : (finishAppends h c st).eng.cases = h.eng.cases := by
  have hstep (g : Head) (e : Appended × Nat) (hg : g.eng.cases = h.eng.cases) : (endAppend c st g e).eng.cases = h.eng.cases := hg
  exact foldHead_keeps (fun g => g.eng.cases = h.eng.cases) hstep c.items.zipIdx h rfl

/-- Every granule's APPEND of a written case ends with where it lies. -/
theorem mem_finishAppends {h : Head} {c : CaseStream} {st : Stored} (hn : (c.items.map (·.tag)).Nodup) {i tag : Nat} {a : Appended} {o : EngOp}
    (hi : c.items[i]? = some a) (ht : a.tag = some tag) (ho : o ∈ h.eng.ops) (hcls : o.cls = .cdc) (hw : o.wing = c.wing) (hot : o.tag = tag)
    (hr : o.ready = false) (hh : o.held = false) : appendEnded c st i o ∈ (finishAppends h c st).eng.ops := by
  have ha : appendOf c a o = true := by
    unfold appendOf
    simp [hcls, hw, ht, hot, hr]
  have he : (a, i) ∈ c.items.zipIdx := List.mem_iff_getElem?.mpr ⟨i, by rw [List.getElem?_zipIdx, hi]; simp⟩
  refine mem_endAppends (e := (a, i)) ha hh _ he (fun x hx hax => ?_) h ho
  obtain ⟨k, hk⟩ := List.mem_iff_getElem?.mp hx
  rw [List.getElem?_zipIdx, Option.map_eq_some_iff] at hk
  obtain ⟨b, hb, rfl⟩ := hk
  have hbt : b.tag = some tag := by
    unfold appendOf at hax
    simp only [Bool.and_eq_true, beq_iff_eq] at hax
    rw [hax.1.2, hot]
  have hik : k = i := by
    have h1 : (c.items.map (·.tag))[k]? = some (some tag) := by rw [List.getElem?_map, hb]; exact congrArg some hbt
    have h2 : (c.items.map (·.tag))[i]? = some (some tag) := by rw [List.getElem?_map, hi]; exact congrArg some ht
    exact (List.getElem?_inj (List.getElem?_eq_some_iff.mp h1).1 hn).mp (h1.trans h2.symm)
  subst hik
  rw [hi] at hb
  rw [Option.some.inj hb]
  simp

theorem mem_placeAll (l : List Placed) (h : Head) : (placeAll h l).mem = l.foldl (fun m p => memPut m p.addr p.len p.data) h.mem := by
  induction l generalizing h with
  | nil => rfl
  | cons p l ih => exact ih (memWrite h p.addr p.len p.data)

theorem frame_placeAll (h : Head) (l : List Placed) : Frame [.mem, .poison] [] h (placeAll h l) := frame_foldHead_mem fun g _ _ => frame_memWrite g ..

/-- The counters of a case as it is written (R233). -/
def caseCounted (h : Head) (c : CaseStream) (st : Stored) : Head :=
  if st.raw then fadd (fadd h c.wing CDC_CNT_SHEETS_COUNT (8 * c.items.length)) c.wing CDC_CNT_RAW_COUNT c.items.length
  else fadd h c.wing CDC_CNT_SHEETS_COUNT st.sheets

theorem frame_caseCounted (h : Head) (c : CaseStream) (st : Stored) : Frame [] [(.cdc, 0x06C), (.cdc, 0x070)] h (caseCounted h c st) := by
  simp +decide only [caseCounted, frame_ite, frame_rules, frame_refl, ite_self]

theorem sheets_caseCounted (h : Head) (c : CaseStream) (st : Stored) : fget (caseCounted h c st) c.wing CDC_CNT_SHEETS_COUNT =
    min (fget h c.wing CDC_CNT_SHEETS_COUNT + (if st.raw then 8 * c.items.length else st.sheets)) (2 ^ 32 - 1) := by
  unfold caseCounted
  by_cases hr : st.raw = true
  · rw [if_pos hr, if_pos hr, (frame_fadd _ c.wing 0 0 CDC_CNT_RAW_COUNT _).fget c.wing CDC_CNT_SHEETS_COUNT (by decide) (by decide),
      fget_fadd_same h c.wing CDC_CNT_SHEETS_COUNT _ 0 0 (by decide) (by decide)]
    rfl
  · rw [if_neg hr, if_neg hr, fget_fadd_same h c.wing CDC_CNT_SHEETS_COUNT _ 0 0 (by decide) (by decide)]
    rfl

theorem flatMap_without {α : Type} [DecidableEq α] (l : List α) (c : α) : l.flatMap (fun x => if x = c then [] else [x]) = l.filter (· != c) := by
  induction l with
  | nil => rfl
  | cons x l ih =>
    rw [List.flatMap_cons, ih]
    by_cases hx : x = c <;> simp [hx]

/-- A case of which every granule has its APPEND and can be read is written, and its APPENDs end. -/
theorem writeCase_eq {h : Head} {c : CaseStream} (hi : c.items ≠ []) (hok : ∀ a ∈ c.items, a.tag ≠ none ∧ isPoisoned h a.src 4096 = false)
    {l : List Nat} (hl : l = c.items.map (fun a => memRead h a.src 4096)) {st : Stored} (hst : st = compressCase c.coll c.static l) :
    writeCase h c = finishAppends (placeAll (caseCounted (setCases h (h.eng.cases.filter (· != c))) c st) (casePlaces c st l)) c st := by
  have hsome (a : Appended) (ha : a ∈ c.items) : a.tag.isSome = true := Option.isSome_iff_ne_none.mpr (hok a ha).1
  have hdata (f : Appended → Nat) (hf : ∀ a ∈ c.items, f a = memRead h a.src 4096) : c.items.map f = l :=
    hl ▸ List.map_congr_left hf
  have hpoison : c.items.any (fun a => a.tag.isSome && isPoisoned h a.src 4096) = false :=
    List.any_eq_false.mpr fun a ha => by rw [(hok a ha).2]; simp
  have hany : c.items.any (fun a => a.tag.isSome) = true := by
    obtain ⟨a, ha⟩ := List.exists_mem_of_ne_nil _ hi
    exact List.any_eq_true.mpr ⟨a, ha, hsome a ha⟩
  have hnone : c.items.any (fun a => a.tag.isNone) = false :=
    List.any_eq_false.mpr fun a ha => by have := hsome a ha; cases hx : a.tag <;> simp_all
  unfold writeCase
  dsimp only
  rw [hdata]
  · rw [← hst, hpoison, hany, hnone, if_pos rfl, if_neg (by decide), if_neg (by decide)]
    simp only [if_true]
    rw [flatMap_without]
    rfl
  · intro a ha
    obtain ⟨t, ht⟩ := Option.ne_none_iff_exists'.mp (hok a ha).1
    rw [ht]

theorem caseCompressed_ends (s : State) (w : Wing) (stream : Nat) (c : CaseStream) (st : Stored) (l : List Nat) (hrun : Runs s.dev)
    (hf : s.dev.eng.cases.find? (fun c => c.wing == w && c.stream == stream && c.closed) = some c) (hu : c.unit.isSome = true) (hi : c.items ≠ [])
    (hok : ∀ a ∈ c.items, a.tag ≠ none ∧ isPoisoned s.dev a.src 4096 = false) (hn : (c.items.map (·.tag)).Nodup)
    (hl : l = c.items.map (fun a => memRead s.dev a.src 4096)) (hst : st = compressCase c.coll c.static l) :
    Completes (.caseCompressed w stream) s (fun h =>
      h.eng.cases = s.dev.eng.cases.filter (· != c) ∧
        fget h w CDC_CNT_SHEETS_COUNT =
          min (fget s.dev w CDC_CNT_SHEETS_COUNT + (if st.raw then 8 * c.items.length else st.sheets)) (2 ^ 32 - 1) ∧
        (∀ (i tag : Nat) (a : Appended) (o : EngOp), c.items[i]? = some a → a.tag = some tag → o ∈ s.dev.eng.ops → o.cls = .cdc →
          o.wing = w → o.tag = tag → o.ready = false → o.held = false →
          (if st.raw then { o with
              ready := true, status := .doneNote, bytes := 4096, word := appendWord true false 0 (8 * i) 8 }
            else { o with ready := true, bytes := 512 * st.sheets, word := appendWord false c.static i 0 st.sheets }) ∈ h.eng.ops) ∧
        h.mem = (casePlaces c st l).foldl (fun m p => memPut m p.addr p.len p.data) s.dev.mem ∧ h.gal = s.dev.gal ∧ h.out = s.dev.out ∧
        RegsBut s.dev h [(.cdc, 0x05C), (.cdc, 0x06C), (.cdc, 0x070)]) := by
  have hw : c.wing = w := by
    have := List.find?_some hf
    simp only [Bool.and_eq_true, beq_iff_eq] at this
    exact this.1.1
  have heq : caseCompressed s.dev w stream =
      finishAppends (placeAll (caseCounted (setCases s.dev (s.dev.eng.cases.filter (· != c))) c st) (casePlaces c st l)) c st := by
    unfold caseCompressed
    rw [hf]
    exact (if_pos hu).trans (writeCase_eq hi hok hl hst)
  refine completes_of_eq (exec_caseCompressed w stream) hrun heq ?_
  subst hw
  have hset := frame_setCases s.dev (s.dev.eng.cases.filter (· != c))
  have heng := eng_setCases s.dev (s.dev.eng.cases.filter (· != c))
  generalize setCases s.dev (s.dev.eng.cases.filter (· != c)) = g at *
  have hcount := frame_caseCounted g c st
  have hsheets := sheets_caseCounted g c st
  generalize caseCounted g c st = g1 at *
  have hplace := frame_placeAll g1 (casePlaces c st l)
  have hmem := mem_placeAll (casePlaces c st l) g1
  generalize placeAll g1 (casePlaces c st l) = g2 at *
  have hfin := frame_finishAppends g2 c st
  have heng2 : g2.eng = { s.dev.eng with cases := s.dev.eng.cases.filter (· != c) } :=
    (hplace.1 .eng (by decide)).trans ((hcount.1 .eng (by decide)).trans heng)
  have hall : Frame [.eng, .mem, .poison] [(.cdc, 0x05C), (.cdc, 0x06C), (.cdc, 0x070)] s.dev (finishAppends g2 c st) :=
    (hset.mono (by decide) (by decide)).trans ((hcount.mono (by decide) (by decide)).trans ((hplace.mono (by decide) (by decide)).trans
      (hfin.mono (by decide) (by decide))))
  refine ⟨?_, ?_, fun i tag a o h1 h2 h3 h4 h5 h6 h7 h8 => ?_, ?_, hall.1 .gal (by decide), hall.1 .out (by decide), hall.2⟩
  · rw [cases_finishAppends, heng2]
  · rw [hfin.fget c.wing CDC_CNT_SHEETS_COUNT (by decide) (by decide), hplace.fget c.wing CDC_CNT_SHEETS_COUNT (by decide) (by decide), hsheets,
      hset.fget c.wing CDC_CNT_SHEETS_COUNT (by decide) (by decide)]
  · exact mem_finishAppends hn h1 h2 (by rw [heng2]; exact h3) h4 h5 h6 h7 h8
  · rw [hfin.1 .mem (by decide), hmem, hcount.1 .mem (by decide), hset.1 .mem (by decide)]

/-! ### Galleries that close -/

/-- The open ring as one gallery is closed. -/
def closedIn (serial : Nat) (l : List Gallery) : List Gallery := l.map (fun y => if y.serial = serial then { y with closed := true } else y)

/-- The head as one gallery is closed, its panels not yet passed on. -/
def galleryClosed (h : Head) (serial : Nat) : Head := setOpens h (closedIn serial h.gal.opens)

theorem frame_setOpens (h : Head) (l : List Gallery) : Frame [.gal] [(.gal, 0x04C)] h (setOpens h l) := by
  simp +decide only [setOpens, frame_foldHead, frame_rules, frame_mk, true_or, or_true, and_self, frame_refl, implies_true]

/-- The open ring replaced, its count not yet brought up to date. -/
def opensSet (h : Head) (l : List Gallery) : Head := { h with gal := { h.gal with opens := l } }

theorem gal_setOpens (h : Head) (l : List Gallery) : (setOpens h l).gal = { h.gal with opens := l } := by
  have hf : Frame [] [(.gal, 0x04C)] (opensSet h l)
      (foldHead (opensSet h l) wings (fun h w => fset h w GAL_RING_OPEN (l.filter (fun g => g.wing == w)).length)) := by
    simp +decide only [frame_foldHead, frame_rules, frame_refl, implies_true]
  exact hf.1 .gal (by decide)

theorem frame_sendPanels (h : Head) (g : Gallery) : Frame [.dsp] [] h (sendPanels h g) := by
  unfold sendPanels
  split
  · exact frame_refl _ _ h
  · exact frame_foldHead_mem fun g _ _ => frame_waitDie g ..

theorem frame_closeOne (h : Head) (serial : Nat) : Frame [.gal, .dsp] [(.gal, 0x04C)] h (closeOne h serial) := by
  unfold closeOne
  split
  · split
    · exact frame_refl _ _ h
    · exact ((frame_setOpens ..).mono (by decide) (by decide)).trans ((frame_sendPanels ..).mono (by decide) (by decide))
  · exact frame_refl _ _ h

theorem frame_closeGallery (h : Head) (serial : Nat) : Frame [.gal, .dsp] [(.gal, 0x04C)] h (closeGallery h serial) := by
  unfold closeGallery
  split
  · exact frame_refl _ _ h
  · exact frame_foldHead_mem fun g s _ => frame_closeOne g s

theorem frame_closeAll (h : Head) (w : Wing) : Frame [.gal, .dsp] [(.gal, 0x04C)] h (closeAll h w) :=
  frame_foldHead_mem fun g s _ => frame_closeGallery g s

theorem closeOne_open {h : Head} {serial : Nat} {g : Gallery} (hg : galleryOf h serial = some g) (hc : g.closed = false) :
    closeOne h serial = sendPanels (galleryClosed h serial) g := by
  unfold closeOne
  rw [hg]
  exact if_neg (by rw [hc]; decide)

theorem closeOne_closed {h : Head} {serial : Nat} {g : Gallery} (hg : galleryOf h serial = some g) (hc : g.closed = true) : closeOne h serial = h := by
  unfold closeOne
  rw [hg]
  exact if_pos hc

theorem serial_galleryOf {h : Head} {serial : Nat} {g : Gallery} (hg : galleryOf h serial = some g) : g.serial = serial := by
  have := List.find?_some hg
  exact beq_iff_eq.mp this

/-- The panels of a gallery, as the Dispatcher takes them together. -/
theorem dsp_sendPanels {h : Head} {g : Gallery} {x : Hall} {d : List Nat} (hx : tabGet? h.cur.halls g.hall = some x)
    (hd : d = (List.range g.n).map (panelBytes h g)) : (sendPanels h g).dsp.waiting = h.dsp.waiting ++
      (d ++ [parityP d, parityQ 65536 d]).zipIdx.map (fun e =>
        let a := panelMember x g.row e.2
        ⟨memPlinth a, { dieCmd 2 a g.row with dlen := 65536, data := e.1 }, .program, .panel g.serial e.2, 0, false⟩) := by
  unfold sendPanels
  rw [hx]
  dsimp only
  rw [← hd]
  generalize (d ++ [parityP d, parityQ 65536 d]).zipIdx = l
  clear hx hd
  induction l generalizing h with
  | nil => exact (List.append_nil _).symm
  | cons e l ih =>
    refine ih.trans ?_
    rw [List.map_cons]
    show (h.dsp.waiting ++ [_]) ++ _ = _
    rw [List.append_assoc]
    rfl

/-- A panel's bytes rest on its gallery and the keys. -/
theorem panelBytes_frame {l : List Part} {t : List (Block × Nat)} {h k : Head} (x : Frame l t h k) (hb : .bindings ∉ l) (hk : .keys ∉ l)
    (ha : ∀ r ∈ [(KEY_SLOT_ATTR_STATE.block, KEY_SLOT_ATTR_STATE.off)], r ∉ t) (g : Gallery) (n : Nat) : panelBytes k g n = panelBytes h g n := by
  have hm (coll : Nat) : mediaKey k coll = mediaKey h coll := by
    unfold mediaKey keyState
    rw [x.1 .bindings hb]
    split
    · rw [x.fget .east KEY_SLOT_ATTR_STATE (ha _ (by simp)) (by decide), keyValue_congr x hk]
    · rfl
  unfold panelBytes labelKey
  simp only [hm, keyValue_congr x hk]

theorem galleryFlush_closes (s : State) (serial : Nat) (g : Gallery) (x : Hall) (d : List Nat) (hrun : Runs s.dev)
    (hg : galleryOf s.dev serial = some g) (hc : g.closed = false) (hne : g.cases ≠ []) (hage : fget s.dev g.wing GAL_FILL_FLUSH_FRAMES ≤ g.age)
    (hx : tabGet? s.dev.cur.halls g.hall = some x)
    (hl : s.dev.gal.opens.filter (fun y => y.hall == g.hall && !y.closed && decide (y.row ≤ g.row)) = [g])
    (hd : d = (List.range g.n).map (panelBytes s.dev g)) :
    Completes (.galleryFlushTimeout serial) s (fun h =>
      h.gal.opens = s.dev.gal.opens.map (fun y => if y.serial = serial then { y with closed := true } else y) ∧
        h.dsp.waiting = s.dev.dsp.waiting ++ (d ++ [parityP d, parityQ 65536 d]).zipIdx.map (fun e =>
          let a := panelMember x g.row e.2
          ⟨memPlinth a, { dieCmd 2 a g.row with dlen := 65536, data := e.1 }, .program, .panel serial e.2, 0, false⟩) ∧
        h.cur = s.dev.cur ∧ h.cat = s.dev.cat ∧ h.mem = s.dev.mem ∧ RegsBut s.dev h [(.gal, 0x04C)]) := by
  have hserial := serial_galleryOf hg
  have heq : galleryFlush s.dev serial = sendPanels (galleryClosed s.dev serial) g := by
    unfold galleryFlush
    rw [hg]
    dsimp only
    rw [if_pos ⟨hne, hage⟩]
    unfold closeGallery
    rw [hg]
    dsimp only
    rw [hl, sortOn_single, List.map_singleton, hserial]
    exact closeOne_open hg hc
  refine completes_of_eq (exec_galleryFlushTimeout serial) hrun heq ?_
  have hf := frame_setOpens s.dev (closedIn serial s.dev.gal.opens)
  have hgal := gal_setOpens s.dev (closedIn serial s.dev.gal.opens)
  change Frame _ _ s.dev (galleryClosed s.dev serial) at hf
  change (galleryClosed s.dev serial).gal = _ at hgal
  generalize galleryClosed s.dev serial = k at *
  have hp := frame_sendPanels k g
  have hd' : d = (List.range g.n).map (panelBytes k g) := hd.trans (List.map_congr_left fun n _ =>
    (panelBytes_frame hf (by decide) (by decide) (by decide) g n).symm)
  refine ⟨?_, ?_, (hp.1 .cur (by decide)).trans (hf.1 .cur (by decide)), (hp.1 .cat (by decide)).trans (hf.1 .cat (by decide)),
    (hp.1 .mem (by decide)).trans (hf.1 .mem (by decide)),
    ((hf.mono (l := [.gal, .dsp]) (by decide) (List.Subset.refl _)).trans (hp.mono (by decide) (by decide))).2⟩
  · rw [hp.1 .gal (by decide), hgal]
    rfl
  · rw [dsp_sendPanels (by rw [hf.1 .cur (by decide)]; exact hx) hd', hf.1 .dsp (by decide), hserial]

/-! ### CLOSE_NOW -/

/-- A gallery's serial and wing. -/
def nameOf (g : Gallery) : Nat × Wing := (g.serial, g.wing)

/-- The galleries of a serial are closed. -/
def SerialClosed (serial : Nat) (l : List Gallery) : Prop := ∀ g ∈ l, g.serial = serial → g.closed = true

theorem names_closedIn (serial : Nat) (l : List Gallery) : (closedIn serial l).map nameOf = l.map nameOf := by
  unfold closedIn
  rw [List.map_map]
  refine List.map_congr_left fun y _ => ?_
  show nameOf (if y.serial = serial then _ else y) = nameOf y
  split <;> rfl

theorem serialClosed_closedIn (serial : Nat) (l : List Gallery) : SerialClosed serial (closedIn serial l) := by
  intro g hg hs
  obtain ⟨y, _, rfl⟩ := List.mem_map.mp hg
  by_cases hy : y.serial = serial
  · rw [if_pos hy]
  · rw [if_neg hy] at hs
    exact absurd hs hy

theorem serialClosed_keeps {serial : Nat} {l : List Gallery} (hc : SerialClosed serial l) (other : Nat) : SerialClosed serial (closedIn other l) := by
  intro g hg hs
  obtain ⟨y, hy, rfl⟩ := List.mem_map.mp hg
  by_cases ho : y.serial = other
  · rw [if_pos ho]
  · rw [if_neg ho] at hs ⊢
    exact hc y hy hs

/-- One gallery to close leaves the open ring as it is, or with the galleries of its serial closed. -/
theorem opens_closeOne (h : Head) (serial : Nat) : (closeOne h serial).gal.opens = closedIn serial h.gal.opens ∨
    ((closeOne h serial).gal.opens = h.gal.opens ∧ ((h.gal.opens.map (·.serial)).Nodup → SerialClosed serial h.gal.opens)) := by
  cases hg : galleryOf h serial with
  | none =>
    refine .inr ⟨by unfold closeOne; rw [hg], fun _ g hmem hs => ?_⟩
    exact absurd (beq_iff_eq.mpr hs) (List.find?_eq_none.mp hg g hmem)
  | some g =>
    cases hc : g.closed with
    | false =>
      left
      rw [closeOne_open hg hc, (frame_sendPanels ..).1 .gal (by decide)]
      exact congrArg GalState.opens (gal_setOpens ..)
    | true =>
      refine .inr ⟨by rw [closeOne_closed hg hc], fun hn y hy hs => ?_⟩
      have hgs := serial_galleryOf hg
      rw [List.inj_on_of_nodup_map hn hy (List.mem_of_find?_eq_some hg) (hs.trans hgs.symm), hc]

theorem names_closeOne (h : Head) (serial : Nat) : (closeOne h serial).gal.opens.map nameOf = h.gal.opens.map nameOf := by
  rcases opens_closeOne h serial with ho | ⟨ho, _⟩ <;> rw [ho]
  exact names_closedIn ..

theorem serials_of_names {a b : List Gallery} (hn : a.map nameOf = b.map nameOf) : a.map (·.serial) = b.map (·.serial) := by
  have := congrArg (List.map Prod.fst) hn
  rw [List.map_map, List.map_map] at this
  exact this

theorem closeOne_keeps {h : Head} {serial : Nat} (hc : SerialClosed serial h.gal.opens) (other : Nat) :
    SerialClosed serial (closeOne h other).gal.opens := by
  rcases opens_closeOne h other with ho | ⟨ho, _⟩ <;> rw [ho]
  · exact serialClosed_keeps hc other
  · exact hc

theorem closeOne_closes {h : Head} (hn : (h.gal.opens.map (·.serial)).Nodup) (serial : Nat) : SerialClosed serial (closeOne h serial).gal.opens := by
  rcases opens_closeOne h serial with ho | ⟨ho, hc⟩ <;> rw [ho]
  · exact serialClosed_closedIn serial _
  · exact hc hn

theorem names_closeGallery (h : Head) (serial : Nat) : (closeGallery h serial).gal.opens.map nameOf = h.gal.opens.map nameOf := by
  unfold closeGallery
  split
  · rfl
  · exact foldHead_keeps (fun k => k.gal.opens.map nameOf = h.gal.opens.map nameOf) (fun k a hk => (names_closeOne k a).trans hk) _ _ rfl

theorem closeGallery_keeps {h : Head} {serial : Nat} (hc : SerialClosed serial h.gal.opens) (other : Nat) :
    SerialClosed serial (closeGallery h other).gal.opens := by
  unfold closeGallery
  split
  · exact hc
  · exact foldHead_keeps (fun k => SerialClosed serial k.gal.opens) (fun _ a hk => closeOne_keeps hk a) _ _ hc

theorem mem_insertBy {α : Type} (f : α → List Nat) (x a : α) (l : List α) : a ∈ insertBy f x l ↔ a = x ∨ a ∈ l := by
  induction l with
  | nil => simp [insertBy]
  | cons y l ih =>
    unfold insertBy
    split
    · exact List.mem_cons
    · rw [List.mem_cons, ih, List.mem_cons]
      tauto

theorem mem_sortOn {α : Type} (f : α → List Nat) (a : α) (l : List α) : a ∈ sortOn f l ↔ a ∈ l := by
  induction l with
  | nil => exact Iff.rfl
  | cons x l ih =>
    show a ∈ insertBy f x (sortOn f l) ↔ _
    rw [mem_insertBy, ih, List.mem_cons]

/-- The closing of galleries in turn closes each of them. -/
theorem closeOnes_close {h : Head} (hn : (h.gal.opens.map (·.serial)).Nodup) {serial : Nat} {l : List Nat} (hs : serial ∈ l) :
    SerialClosed serial (foldHead h l closeOne).gal.opens := by
  induction l generalizing h with
  | nil => exact absurd hs List.not_mem_nil
  | cons a l ih =>
    rcases List.mem_cons.mp hs with rfl | hs
    · exact foldHead_keeps (fun k => SerialClosed serial k.gal.opens) (fun _ b hk => closeOne_keeps hk b) l _ (closeOne_closes hn serial)
    · exact ih (by rw [serials_of_names (names_closeOne h a)]; exact hn) hs

theorem closeGallery_closes {h : Head} (hn : (h.gal.opens.map (·.serial)).Nodup) (serial : Nat) :
    SerialClosed serial (closeGallery h serial).gal.opens := by
  cases hg : galleryOf h serial with
  | none =>
    unfold closeGallery
    rw [hg]
    exact fun g hmem hs => absurd (beq_iff_eq.mpr hs) (List.find?_eq_none.mp hg g hmem)
  | some g =>
    have hgs := serial_galleryOf hg
    have hgm := List.mem_of_find?_eq_some hg
    cases hc : g.closed with
    | true =>
      refine closeGallery_keeps (fun y hy hs => ?_) serial
      rw [List.inj_on_of_nodup_map hn hy hgm (hs.trans hgs.symm), hc]
    | false =>
      unfold closeGallery
      rw [hg]
      refine closeOnes_close hn (List.mem_map.mpr ⟨g, (mem_sortOn ..).mpr (List.mem_filter.mpr ⟨hgm, ?_⟩), hgs⟩)
      simp [hc]

theorem names_closeGalleries (h : Head) (l : List Nat) : (foldHead h l closeGallery).gal.opens.map nameOf = h.gal.opens.map nameOf :=
  foldHead_keeps (fun k => k.gal.opens.map nameOf = h.gal.opens.map nameOf) (fun k a hk => (names_closeGallery k a).trans hk) _ _ rfl

theorem closeGalleries_close {h : Head} (hn : (h.gal.opens.map (·.serial)).Nodup) {serial : Nat} {l : List Nat} (hs : serial ∈ l) :
    SerialClosed serial (foldHead h l closeGallery).gal.opens := by
  induction l generalizing h with
  | nil => exact absurd hs List.not_mem_nil
  | cons a l ih =>
    rcases List.mem_cons.mp hs with rfl | hs
    · exact foldHead_keeps (fun k => SerialClosed serial k.gal.opens) (fun _ b hk => closeGallery_keeps hk b) l _ (closeGallery_closes hn serial)
    · exact ih (by rw [serials_of_names (names_closeGallery h a)]; exact hn) hs

theorem closeAll_closes {h : Head} (hn : (h.gal.opens.map (·.serial)).Nodup) (w : Wing) :
    ∀ g ∈ (closeAll h w).gal.opens, g.wing = w → g.closed = true := by
  intro g hg hw
  unfold closeAll at hg
  have hname : nameOf g ∈ h.gal.opens.map nameOf := by
    rw [← names_closeGalleries h ((h.gal.opens.filter (fun g => g.wing == w && !g.closed)).map (·.serial))]
    exact List.mem_map_of_mem hg
  obtain ⟨y, hy, hyn⟩ := List.mem_map.mp hname
  have hys : y.serial = g.serial := congrArg Prod.fst hyn
  have hyw : y.wing = w := (congrArg Prod.snd hyn).trans hw
  cases hc : y.closed with
  | true =>
    refine foldHead_keeps (fun k => SerialClosed g.serial k.gal.opens) (fun _ a hk => closeGallery_keeps hk a) _ h (fun z hz hs => ?_) g hg rfl
    rw [List.inj_on_of_nodup_map hn hz hy (hs.trans hys.symm), hc]
  | false =>
    refine closeGalleries_close hn (List.mem_map.mpr ⟨y, List.mem_filter.mpr ⟨hy, ?_⟩, hys⟩) g hg rfl
    simp [hyw, hc]

theorem closeNow_closes (s : State) (ini : Initiator) (w : Wing) (hrun : Runs s.dev) (hw : Writable s.dev ini (pg .gal w) 0x040)
    (hn : (s.dev.gal.opens.map (·.serial)).Nodup) :
    Completes (.closeNow ini w) s (fun h =>
      (∀ g ∈ h.gal.opens, g.wing = w → g.closed = true) ∧ h.gal.opens.map (·.serial) = s.dev.gal.opens.map (·.serial) ∧
        h.cur = s.dev.cur ∧ h.cat = s.dev.cat ∧ h.mem = s.dev.mem ∧ RegsBut s.dev h [(.gal, 0x04C)]) := by
  have heq : closeNow s.dev ini w = closeAll (reply s.dev false) w := withWrite_ok s.dev ini _ _ _ hw
  have hf := frame_closeAll (reply s.dev false) w
  refine completes_of_eq (exec_closeNow ini w) hrun heq ⟨closeAll_closes (h := reply s.dev false) hn w, ?_, hf.1 .cur (by decide),
    hf.1 .cat (by decide), hf.1 .mem (by decide), hf.2⟩
  exact serials_of_names (names_closeGalleries (reply s.dev false) _)

end Sys2Proof.Laws
end

section
/-! Resynchronisation, verify, rebuild and reshape (R265, R269 to R273). -/

namespace Sys2Proof.Laws

open Machine Machine.Reg

/-! ### The Curator's tables -/

/-- The tables shown as far as the wear mode. -/
def curShown (h : Head) : Head :=
  fset (fset (fset h .east CUR_FREE_BLOCKS (freeBlocks h)) .east CUR_WEAR_STAT_MEAN (min (wearStat (fset h .east CUR_FREE_BLOCKS (freeBlocks h))).1 65535))
    .east CUR_WEAR_STAT_SPREAD (min (wearStat (fset h .east CUR_FREE_BLOCKS (freeBlocks h))).2 65535)

/-- Wear mode turned on, with its event, or off. -/
def wearSet (h : Head) (wear : Bool) : Head :=
  { (if wear && !h.cur.wearMode then raise h .east Ev.CUR_WEAR_MODE else h) with
    cur := { (if wear && !h.cur.wearMode then raise h .east Ev.CUR_WEAR_MODE else h).cur with wearMode := wear } }

/-- The halls, the vault and the queues shown. -/
def hallsShown (h : Head) : Head :=
  let mine := h.cur.halls.filter (fun e => e.2.mine)
  let h := foldHead h wings (fun h w =>
    let h := fset h w CUR_HALLS_OWNED mine.length
    fset h w CUR_HALLS_FILLING (mine.filter (fun e => e.2.wing == w && e.2.st == 0)).length)
  let h := fset h .east CUR_VAULT_BLOCKS h.cur.vault.length
  let h := foldHead h wings (fun h w =>
    let h := fset h w CSV_QUEUE_CASES (min 65535 h.cur.rewrite.length)
    fset h w CSV_QUEUE_BLOCKS (min 65535 h.cur.refresh.length))
  foldHead h wings syncMode

theorem frame_hallsShown (h : Head) : Frame [.evq] curRegs h (hallsShown h) := by
  simp +decide only [hallsShown, (frame_syncMode ..).iff, frame_foldHead, frame_rules, frame_refl, implies_true]

theorem syncCur_eq (h : Head) : syncCur h = hallsShown (wearSet (curShown h)
    (decide (fget (curShown h) .east CUR_WEAR_SPREAD < (wearStat (fset h .east CUR_FREE_BLOCKS (freeBlocks h))).2))) := rfl

/-- Of the Curator's tables only the wear mode follows from the others. -/
theorem cur_syncCur (h : Head) : (syncCur h).cur = { h.cur with wearMode := (syncCur h).cur.wearMode } := by
  rw [syncCur_eq]
  generalize decide (fget (curShown h) .east CUR_WEAR_SPREAD < (wearStat (fset h .east CUR_FREE_BLOCKS (freeBlocks h))).2) = wear
  have hs : Frame [] curRegs h (curShown h) := by simp +decide only [curShown, frame_rules, frame_refl]
  generalize curShown h = k at *
  rw [(frame_hallsShown (wearSet k wear)).1 .cur (by decide), ← hs.1 .cur (by decide)]
  unfold wearSet
  split
  · have hr := (frame_raise k .east 0 Ev.CUR_WEAR_MODE).1 .cur (by decide)
    generalize raise k .east Ev.CUR_WEAR_MODE = j at *
    dsimp only at hr ⊢
    rw [hr]
  · rfl

theorem cur_curUpd (h : Head) (f : CurState → CurState) : (curUpd h f).cur = { f h.cur with wearMode := (curUpd h f).cur.wearMode } :=
  cur_syncCur { h with cur := f h.cur }

theorem fbit_one {h : Head} {w : Wing} {f : Fld} {bank inst : Nat} (hv : fget h w f bank inst = 1) : fbit h w f bank inst = true := by
  unfold fbit
  rw [hv]
  rfl

theorem fbit_zero {h : Head} {w : Wing} {f : Fld} {bank inst : Nat} (hv : fget h w f bank inst = 0) : fbit h w f bank inst = false := by
  unfold fbit
  rw [hv]
  rfl

/-- Other bits of a register keep their value as one of its fields is set. -/
theorem fget_fset_bits (h : Head) (w : Wing) (f g : Fld) (v : Nat) (hb : g.block = f.block) (ho : g.off = f.off) (hl : f.lo ≤ f.hi) (hl' : g.lo ≤ g.hi)
    (h32 : g.hi < 32) (hd : g.hi < f.lo ∨ f.hi < g.lo) : fget (fset h w f v) w g = fget h w g := by
  simp (disch := assumption) only [fget_eq_bget, fset_regs, bget_bput_bits]

/-- A one-bit field is 1 exactly where it reads as set. -/
theorem fbit_iff_one {h : Head} {w : Wing} {f : Fld} (hf : f.hi = f.lo) : fbit h w f = true ↔ fget h w f = 1 := by
  have hlt := fget_lt h w f 0 0
  rw [hf, Nat.sub_self] at hlt
  unfold fbit
  rw [bne_iff_ne]
  omega

/-! ### RESYNC_DONE -/

def resyncEnded (h : Head) : Head := raise (fset h .east GAL_RESYNC_RUNNING 0) .east Ev.GAL_RESYNC_DONE

/-- The serial counter past every serial of the hall table (R257). -/
def serialTop (h : Head) : Nat := max (serialCounter h) ((h.cur.serials.map (·.1)).foldl max 0 / 2 + 1) + 1024

def mountEnded (h : Head) : Head :=
  raise (curUpd (setSerialCounter h (serialTop h)) (fun c => { c with mounting := false, mounted := true })) .east Ev.CUR_MOUNT_DONE

/-- The halls to verify (R265). -/
def verifyList (h : Head) : List Nat := if fbit h .east GAL_CTRL_VERIFY_EN then verifyHalls h else []

def verifyBegun (h : Head) (l : List Nat) : Head :=
  fset (fset { h with gal := { h.gal with verify := l } } .east GAL_RESYNC_VERIFYING 1) .east GAL_RESYNC_LEFT l.length

theorem frame_resyncEnded (h : Head) : Frame [.evq] [(.gal, 0x058), (.gal, 0x010)] h (resyncEnded h) := by
  simp +decide only [resyncEnded, frame_rules, frame_refl]

theorem frame_setSerialCounter (h : Head) (c : Nat) : Frame [] [(.gal, 0x050), (.gal, 0x054)] h (setSerialCounter h c) :=
  frame_pset h .east 0 GAL_SERIAL_LO_NEXT GAL_SERIAL_HI_NEXT _

def mountRegs : List (Block × Nat) := (.gal, 0x050) :: (.gal, 0x054) :: curRegs

theorem frame_mountEnded (h : Head) : Frame [.cur, .evq] mountRegs h (mountEnded h) := by
  simp +decide only [mountEnded, (frame_curUpd ..).iff, (frame_setSerialCounter ..).iff, frame_rules, frame_refl]

theorem frame_verifyBegun (h : Head) (l : List Nat) : Frame [.gal] [(.gal, 0x058)] h (verifyBegun h l) := by
  simp +decide only [verifyBegun, frame_rules, frame_mk, true_or, or_true, and_self, frame_refl]

/-- The verify started, with the reads of its halls' rows as work. -/
def verifyStarts (h : Head) : Head :=
  addWork (verifyBegun h (verifyList h)) ((verifyList h).map (fun n => match tabGet? (verifyBegun h (verifyList h)).cur.halls n with
    | some x => ((doneRows x).map (rowWork .verify n x)).flatten
    | none => [])).flatten

theorem verifyStarts_eq (h : Head) : ∃ work, verifyStarts h = addWork (verifyBegun h (verifyList h)) work := ⟨_, rfl⟩

theorem resyncDone_eq {h : Head} (hr : fget h .east GAL_RESYNC_RUNNING = 1) (hs : h.gal.resync = []) :
    resyncDone h = verifyStarts (if !(resyncEnded h).cur.mounting then resyncEnded h else mountEnded (resyncEnded h)) := by
  unfold resyncDone
  exact if_neg (by rw [fbit_one hr]; simp [hs])

theorem mounting_resyncEnded (h : Head) : (resyncEnded h).cur.mounting = h.cur.mounting :=
  congrArg CurState.mounting ((frame_resyncEnded h).1 .cur (by decide))

theorem resyncDone_ends {h : Head} (hr : fget h .east GAL_RESYNC_RUNNING = 1) (hs : h.gal.resync = []) (hm : h.cur.mounting = false) :
    ∃ work, resyncDone h = addWork (verifyBegun (resyncEnded h) (verifyList (resyncEnded h))) work := by
  rw [resyncDone_eq hr hs, if_pos (by rw [mounting_resyncEnded, hm]; rfl)]
  exact verifyStarts_eq _

theorem resyncDone_mounts {h : Head} (hr : fget h .east GAL_RESYNC_RUNNING = 1) (hs : h.gal.resync = []) (hm : h.cur.mounting = true) :
    ∃ work, resyncDone h = addWork (verifyBegun (mountEnded (resyncEnded h)) (verifyList (mountEnded (resyncEnded h)))) work := by
  rw [resyncDone_eq hr hs, if_neg (by rw [mounting_resyncEnded, hm]; decide)]
  exact verifyStarts_eq _

/-- The registers of the resynchronisation as the verify begins. -/
theorem verifyBegun_shows (h : Head) (l : List Nat) : fget (verifyBegun h l) .east GAL_RESYNC_VERIFYING = 1 ∧
    fget (verifyBegun h l) .east GAL_RESYNC_RUNNING = fget h .east GAL_RESYNC_RUNNING := by
  unfold verifyBegun
  constructor
  · rw [fget_fset_bits _ _ GAL_RESYNC_LEFT GAL_RESYNC_VERIFYING _ rfl rfl (by decide) (by decide) (by decide) (by decide), fget_fset_same _ _ _ _ _ _ (by decide) (by decide)]
    rfl
  · rw [fget_fset_bits _ _ GAL_RESYNC_LEFT GAL_RESYNC_RUNNING _ rfl rfl (by decide) (by decide) (by decide) (by decide),
      fget_fset_bits _ _ GAL_RESYNC_VERIFYING GAL_RESYNC_RUNNING _ rfl rfl (by decide) (by decide) (by decide) (by decide)]
    rfl

theorem resyncEnded_shows (h : Head) : fget (resyncEnded h) .east GAL_RESYNC_RUNNING = 0 ∧ EventSet (resyncEnded h) .east Ev.GAL_RESYNC_DONE := by
  refine ⟨?_, raiseAt_sets _ _ _ (by decide)⟩
  unfold resyncEnded
  rw [(frame_raise _ .east 0 Ev.GAL_RESYNC_DONE).fget .east GAL_RESYNC_RUNNING (by decide) (by decide), fget_fset_same _ _ _ _ _ _ (by decide) (by decide)]
  rfl

theorem verifyList_frame {l : List Part} {t : List (Block × Nat)} {h g : Head} (x : Frame l t h g) (hc : .cur ∉ l) (hg : .gal ∉ l)
    (ht : (Block.gal, 0x040) ∉ t) :
    verifyList g = if fget h .east GAL_CTRL_VERIFY_EN = 1 then verifyHalls h else [] := by
  have hv : verifyHalls g = verifyHalls h := by
    unfold verifyHalls ownHalls
    rw [x.1 .cur hc, x.1 .gal hg]
  unfold verifyList
  rw [hv]
  exact if_congr ((fbit_iff_one rfl).trans (by rw [x.fget .east GAL_CTRL_VERIFY_EN ht (by decide)])) rfl rfl

theorem resyncDone_verifies (s : State) (hrun : Runs s.dev) (hr : fget s.dev .east GAL_RESYNC_RUNNING = 1) (hs : s.dev.gal.resync = [])
    (hm : s.dev.cur.mounting = false) :
    Completes .resyncDone s (fun h =>
      fget h .east GAL_RESYNC_RUNNING = 0 ∧ fget h .east GAL_RESYNC_VERIFYING = 1 ∧ EventSet h .east Ev.GAL_RESYNC_DONE ∧
        h.gal.verify = (if fget s.dev .east GAL_CTRL_VERIFY_EN = 1 then verifyHalls s.dev else []) ∧ h.cur = s.dev.cur ∧
        h.cat = s.dev.cat ∧ h.mem = s.dev.mem ∧ h.out = s.dev.out) := by
  obtain ⟨work, heq⟩ := resyncDone_ends hr hs hm
  refine completes_of_eq exec_resyncDone hrun heq ?_
  have hf := frame_resyncEnded s.dev
  obtain ⟨h0, hev⟩ := resyncEnded_shows s.dev
  have hl := verifyList_frame hf (by decide) (by decide) (by decide)
  generalize resyncEnded s.dev = g at *
  have hv := frame_verifyBegun g (verifyList g)
  obtain ⟨h1, h2⟩ := verifyBegun_shows g (verifyList g)
  have hverify : (verifyBegun g (verifyList g)).gal.verify = verifyList g := rfl
  generalize verifyBegun g (verifyList g) = k at *
  have hw := frame_addWork k work
  refine ⟨?_, ?_, (hv.eventSet .east Ev.GAL_RESYNC_DONE (by decide) 0).mpr hev, hverify.trans hl, (hv.1 .cur (by decide)).trans (hf.1 .cur (by decide)),
    (hv.1 .cat (by decide)).trans (hf.1 .cat (by decide)), (hv.1 .mem (by decide)).trans (hf.1 .mem (by decide)),
    (hv.1 .out (by decide)).trans (hf.1 .out (by decide))⟩
  · rw [hw.fget .east GAL_RESYNC_RUNNING (by decide) (by decide), h2, h0]
  · rw [hw.fget .east GAL_RESYNC_VERIFYING (by decide) (by decide), h1]

/-- The halves of a 48-bit number put together. -/
theorem halves_48 {n : Nat} (hn : n < 2 ^ 48) : (n >>> 32 % 2 ^ 16) <<< 32 + n % 2 ^ 32 = n := by
  rw [Nat.shiftLeft_eq, Nat.shiftRight_eq_div_pow]
  omega

theorem serial_setSerialCounter (h : Head) {c : Nat} (hc : c < 2 ^ 47) :
    pget (setSerialCounter h c) .east GAL_SERIAL_LO_NEXT GAL_SERIAL_HI_NEXT = 2 * c + fget h .east ANX_PAIR_PREFER := by
  have hp : fget h .east ANX_PAIR_PREFER < 2 := fget_lt h .east ANX_PAIR_PREFER 0 0
  have hn : 2 * c + fget h .east ANX_PAIR_PREFER < 2 ^ 48 := by omega
  unfold setSerialCounter
  generalize 2 * c + fget h .east ANX_PAIR_PREFER = n at *
  unfold pget pset
  rw [fget_fset_same _ _ GAL_SERIAL_HI_NEXT _ _ _ (by decide) (by decide), fget_fset_off _ _ _ _ _ _ _ _ _ _ (by decide),
    fget_fset_same _ _ GAL_SERIAL_LO_NEXT _ _ _ (by decide) (by decide)]
  exact halves_48 hn

theorem serialCounter_setSerialCounter (h : Head) {c : Nat} (hc : c < 2 ^ 47) : serialCounter (setSerialCounter h c) = c := by
  have hp : fget h .east ANX_PAIR_PREFER < 2 := fget_lt h .east ANX_PAIR_PREFER 0 0
  unfold serialCounter
  rw [serial_setSerialCounter h hc]
  omega

theorem Frame.serialCounter {l : List Part} {t : List (Block × Nat)} {h g : Head} (x : Frame l t h g) (ht : (Block.gal, 0x050) ∉ t)
    (ht' : (Block.gal, 0x054) ∉ t) : Machine.serialCounter g = Machine.serialCounter h := by
  unfold Machine.serialCounter pget
  rw [x.fget .east GAL_SERIAL_LO_NEXT ht (by decide), x.fget .east GAL_SERIAL_HI_NEXT ht' (by decide)]

theorem mountEnded_shows {h : Head} (ht : serialTop h < 2 ^ 47) : serialCounter (mountEnded h) = serialTop h ∧
    EventSet (mountEnded h) .east Ev.CUR_MOUNT_DONE ∧ (mountEnded h).cur.mounted = true ∧ (mountEnded h).cur.mounting = false ∧
    (mountEnded h).cur.halls = h.cur.halls ∧ (mountEnded h).cur.serials = h.cur.serials := by
  have hcur := cur_curUpd (setSerialCounter h (serialTop h)) (fun c => { c with mounting := false, mounted := true })
  have hr := frame_raise (curUpd (setSerialCounter h (serialTop h)) (fun c => { c with mounting := false, mounted := true })) .east 0 Ev.CUR_MOUNT_DONE
  have hrc := hr.1 .cur (by decide)
  refine ⟨?_, raiseAt_sets _ _ _ (by decide), ?_⟩
  · unfold mountEnded
    rw [hr.serialCounter (by decide) (by decide), (frame_curUpd ..).serialCounter (by decide) (by decide), serialCounter_setSerialCounter h ht]
  · unfold mountEnded
    rw [hrc, hcur]
    exact ⟨rfl, rfl, rfl, rfl⟩

theorem resyncDone_afterMount (s : State) (top : Nat) (hrun : Runs s.dev) (hr : fget s.dev .east GAL_RESYNC_RUNNING = 1) (hs : s.dev.gal.resync = [])
    (hm : s.dev.cur.mounting = true) (htop : top = max (serialCounter s.dev) ((s.dev.cur.serials.map (·.1)).foldl max 0 / 2 + 1) + 1024)
    (ht : top < 2 ^ 47) :
    Completes .resyncDone s (fun h =>
      h.cur.mounted = true ∧ h.cur.mounting = false ∧ serialCounter h = top ∧ EventSet h .east Ev.CUR_MOUNT_DONE ∧
        h.cur.halls = s.dev.cur.halls ∧ h.cur.serials = s.dev.cur.serials ∧ h.mem = s.dev.mem ∧ h.out = s.dev.out) := by
  obtain ⟨work, heq⟩ := resyncDone_mounts hr hs hm
  refine completes_of_eq exec_resyncDone hrun heq ?_
  have hf := frame_resyncEnded s.dev
  have htop' : serialTop (resyncEnded s.dev) = top := by
    unfold serialTop
    rw [hf.serialCounter (by decide) (by decide), hf.1 .cur (by decide)]
    exact htop.symm
  generalize resyncEnded s.dev = g at *
  subst htop'
  obtain ⟨h1, h2, h3, h4, h5, h6⟩ := mountEnded_shows ht
  have hmf := frame_mountEnded g
  generalize mountEnded g = k at *
  have hv := frame_verifyBegun k (verifyList k)
  generalize verifyBegun k (verifyList k) = j at *
  have hw := frame_addWork j work
  have hcur : (addWork j work).cur = k.cur := hv.1 .cur (by decide)
  refine ⟨?_, ?_, ?_, ?_, ?_, ?_, (hv.1 .mem (by decide)).trans ((hmf.1 .mem (by decide)).trans (hf.1 .mem (by decide))),
    (hv.1 .out (by decide)).trans ((hmf.1 .out (by decide)).trans (hf.1 .out (by decide)))⟩
  · rw [hcur, h3]
  · rw [hcur, h4]
  · rw [hw.serialCounter (by decide) (by decide), hv.serialCounter (by decide) (by decide), h1]
  · exact (hv.eventSet .east Ev.CUR_MOUNT_DONE (by decide) 0).mpr h2
  · rw [hcur, h5, hf.1 .cur (by decide)]
  · rw [hcur, h6, hf.1 .cur (by decide)]

/-! ### VERIFY_DONE -/

/-- The verify's halls are all complete. -/
def verifyEmptied (h : Head) : Head := fset { h with gal := { h.gal with verify := [] } } .east GAL_RESYNC_LEFT 0

def verifyEnded (h : Head) : Head :=
  raise (curUpd (fset (verifyEmptied h) .east GAL_RESYNC_VERIFYING 0) (fun c => { c with verified := true })) .east Ev.GAL_VERIFY_DONE

theorem verifyDone_eq {h : Head} (hv : fget h .east GAL_RESYNC_VERIFYING = 1)
    (hl : ∀ n ∈ h.gal.verify, workBusy h (fun w => w.job == .verify && w.hall == n) = false) : verifyDone h = verifyEnded h := by
  have ht : verifyTick h = verifyEmptied h := by
    unfold verifyTick
    rw [List.filter_eq_nil_iff.mpr (fun n hn => by rw [hl n hn]; decide)]
    exact if_pos (fbit_one hv)
  have hv' : fget (verifyEmptied h) .east GAL_RESYNC_VERIFYING = 1 := by
    unfold verifyEmptied
    rw [fget_fset_bits _ _ GAL_RESYNC_LEFT GAL_RESYNC_VERIFYING _ rfl rfl (by decide) (by decide) (by decide) (by decide)]
    exact hv
  unfold verifyDone
  dsimp only
  rw [ht, fbit_one hv', if_neg]
  · rfl
  · rintro (hx | hx)
    · exact absurd hx (by decide)
    · exact hx rfl

theorem verifyDone_ends (s : State) (hrun : Runs s.dev) (hv : fget s.dev .east GAL_RESYNC_VERIFYING = 1)
    (hl : ∀ n ∈ s.dev.gal.verify, workBusy s.dev (fun w => w.job == .verify && w.hall == n) = false) :
    Completes .verifyDone s (fun h =>
      fget h .east GAL_RESYNC_VERIFYING = 0 ∧ h.gal.verify = [] ∧ h.cur.verified = true ∧ EventSet h .east Ev.GAL_VERIFY_DONE ∧
        h.cur.halls = s.dev.cur.halls ∧ h.mem = s.dev.mem ∧ h.out = s.dev.out) := by
  refine completes_of_eq exec_verifyDone hrun (verifyDone_eq hv hl) ?_
  have h0 : fget (fset (verifyEmptied s.dev) .east GAL_RESYNC_VERIFYING 0) .east GAL_RESYNC_VERIFYING = 0 :=
    fget_fset_same _ _ GAL_RESYNC_VERIFYING _ _ _ (by decide) (by decide)
  have hf : Frame [.gal] [(.gal, 0x058)] s.dev (fset (verifyEmptied s.dev) .east GAL_RESYNC_VERIFYING 0) := by
    simp +decide only [verifyEmptied, frame_rules, frame_mk, true_or, or_true, and_self, frame_refl]
  have hg : (fset (verifyEmptied s.dev) .east GAL_RESYNC_VERIFYING 0).gal.verify = [] := rfl
  unfold verifyEnded
  generalize fset (verifyEmptied s.dev) .east GAL_RESYNC_VERIFYING 0 = g at *
  have hc := frame_curUpd g (fun c => { c with verified := true })
  have hcur := cur_curUpd g (fun c => { c with verified := true })
  generalize curUpd g (fun c => { c with verified := true }) = k at *
  have hr := frame_raise k .east 0 Ev.GAL_VERIFY_DONE
  refine ⟨?_, ?_, ?_, raiseAt_sets _ _ _ (by decide), ?_, ?_, ?_⟩
  · rw [hr.fget .east GAL_RESYNC_VERIFYING (by decide) (by decide), hc.fget .east GAL_RESYNC_VERIFYING (by decide) (by decide), h0]
  · rw [hr.1 .gal (by decide), hc.1 .gal (by decide), hg]
  · rw [hr.1 .cur (by decide), hcur]
  · rw [hr.1 .cur (by decide), hcur]
    exact congrArg (·.halls) (hf.1 .cur (by decide))
  · rw [hr.1 .mem (by decide), hc.1 .mem (by decide), hf.1 .mem (by decide)]
  · rw [hr.1 .out (by decide), hc.1 .out (by decide), hf.1 .out (by decide)]

/-! ### REBUILD_START and PLINTH_REBUILD_DONE -/

/-- A loss reported changes only what tells it, narrower than `rebuildRegs`. -/
theorem frame_dataLoss_told (h : Head) (serial : Nat) : Frame [.gal, .evq] [(.gal, 0x07C), (.gal, 0x010)] h (dataLoss h serial) := by
  simp +decide only [dataLoss, frame_ite, frame_rules, frame_mk, true_or, or_true, and_self, frame_refl, ite_self]

/-- The galleries of a plinth to rebuild, those with a loss reported (R270). -/
def lossesTold (h : Head) (l : List (Nat × Nat × Nat × Nat)) : Head := foldHead h l (fun h g => dataLoss h g.1)

theorem frame_lossesTold (h : Head) (l : List (Nat × Nat × Nat × Nat)) : Frame [.gal, .evq] [(.gal, 0x07C), (.gal, 0x010)] h (lossesTold h l) :=
  frame_foldHead_mem fun g _ _ => frame_dataLoss_told g _

/-- A plinth's galleries taken up in the rebuild. -/
def rebuildTaken (h : Head) (n : Nat) (l : List (Nat × Nat × Nat × Nat)) : Head :=
  let l := l.filter (fun g => !h.gal.lost.contains g.1)
  { h with gal := { h.gal with
    rebuild := sortRebuild h (h.gal.rebuild ++ (l.map (·.1)).filter (fun s => !h.gal.rebuild.contains s))
    lostPlinths := if h.gal.lostPlinths.contains n then h.gal.lostPlinths else h.gal.lostPlinths ++ [n] } }

theorem rebuildPlinth_eq (h : Head) (n : Nat) : ∃ items, rebuildPlinth h n =
    syncRebuild (addWork (fset (rebuildTaken (lossesTold h (galleriesOn h n)) n (galleriesOn h n)) .east GAL_REBUILD_BUSY 1) items) := ⟨_, rfl⟩

theorem frame_syncRebuild_left (h : Head) : Frame [] [(.gal, 0x060)] h (syncRebuild h) := by
  simp +decide only [syncRebuild, frame_foldHead, frame_rules, frame_refl, implies_true]

theorem rebuildTaken_takes (h : Head) (n : Nat) (l : List (Nat × Nat × Nat × Nat)) : n ∈ (rebuildTaken h n l).gal.lostPlinths ∧
    ∀ e ∈ l, e.1 ∈ (rebuildTaken h n l).gal.rebuild ∨ e.1 ∈ (rebuildTaken h n l).gal.lost := by
  unfold rebuildTaken
  dsimp only
  constructor
  · split
    · next hc => exact List.contains_iff_mem.mp hc
    · exact List.mem_append_right _ (List.mem_singleton_self n)
  · intro e he
    unfold sortRebuild
    rw [mem_sortOn, List.mem_append]
    by_cases hl : e.1 ∈ h.gal.lost
    · exact .inr hl
    · by_cases hr : e.1 ∈ h.gal.rebuild
      · exact .inl (.inl hr)
      · refine .inl (.inr (List.mem_filter.mpr ⟨List.mem_map.mpr ⟨e, List.mem_filter.mpr ⟨he, ?_⟩, rfl⟩, ?_⟩))
        · simpa using hl
        · simpa using hr

theorem galleriesOn_frame {l : List Part} {t : List (Block × Nat)} {h g : Head} (x : Frame l t h g) (hc : .cur ∉ l) (hp : (Block.anx, 0x050) ∉ t) (n : Nat) :
    galleriesOn g n = galleriesOn h n := by
  unfold galleriesOn rebuildsHall
  rw [x.1 .cur hc, x.pairState hp]

theorem rebuildStart_takes (s : State) (ini : Initiator) (n : Nat) (hrun : Runs s.dev) (hw : Writable s.dev ini (pg .gal .east) 0x05C) (hn : n < 64)
    (hb : fget s.dev .east GAL_REBUILD_BUSY = 0) :
    Completes (.rebuildStart ini .east n) s (fun h =>
      fget h .east GAL_REBUILD_BUSY = 1 ∧ fget h .east GAL_REBUILD_PLINTH = n ∧ n ∈ h.gal.lostPlinths ∧
        (∀ e ∈ galleriesOn s.dev n, e.1 ∈ h.gal.rebuild ∨ e.1 ∈ h.gal.lost) ∧ h.cur = s.dev.cur ∧ h.cat = s.dev.cat ∧
        h.mem = s.dev.mem ∧ h.out = s.dev.out) := by
  have hset : Frame [.bus] [(.gal, 0x05C)] s.dev (fset (reply s.dev false) .east GAL_REBUILD_PLINTH n) := by
    simp +decide only [frame_rules, frame_refl]
  have hplinth : fget (fset (reply s.dev false) .east GAL_REBUILD_PLINTH n) .east GAL_REBUILD_PLINTH = n :=
    (fget_fset_same _ _ GAL_REBUILD_PLINTH _ _ _ (by decide) (by decide)).trans (Nat.mod_eq_of_lt hn)
  have hbusy : fget (fset (reply s.dev false) .east GAL_REBUILD_PLINTH n) .east GAL_REBUILD_BUSY = 0 :=
    (fget_fset_bits _ _ GAL_REBUILD_PLINTH GAL_REBUILD_BUSY _ rfl rfl (by decide) (by decide) (by decide) (by decide)).trans hb
  have heq : rebuildStart s.dev ini .east n = rebuildPlinth (fset (reply s.dev false) .east GAL_REBUILD_PLINTH n) n := by
    unfold rebuildStart
    rw [withWrite_ok _ _ _ _ _ hw, if_neg (by decide), Nat.mod_eq_of_lt hn]
    exact if_neg (by rw [fbit_zero hbusy]; decide)
  have hgal := galleriesOn_frame hset (by decide) (by decide) n
  generalize fset (reply s.dev false) .east GAL_REBUILD_PLINTH n = g at *
  obtain ⟨items, hreb⟩ := rebuildPlinth_eq g n
  refine completes_of_eq (exec_rebuildStart ini .east n) hrun (heq.trans hreb) ?_
  rw [hgal]
  have hloss := frame_lossesTold g (galleriesOn s.dev n)
  generalize lossesTold g (galleriesOn s.dev n) = k at *
  obtain ⟨hlp, htake⟩ := rebuildTaken_takes k n (galleriesOn s.dev n)
  have ht : Frame [.gal] [] k (rebuildTaken k n (galleriesOn s.dev n)) := (frame_mk k (by simp)).2 (frame_refl _ _ k)
  generalize rebuildTaken k n (galleriesOn s.dev n) = j at *
  have hone : fget (fset j .east GAL_REBUILD_BUSY 1) .east GAL_REBUILD_BUSY = 1 := fget_fset_same _ _ GAL_REBUILD_BUSY _ _ _ (by decide) (by decide)
  have hkeep : fget (fset j .east GAL_REBUILD_BUSY 1) .east GAL_REBUILD_PLINTH = fget j .east GAL_REBUILD_PLINTH :=
    fget_fset_bits _ _ GAL_REBUILD_BUSY GAL_REBUILD_PLINTH _ rfl rfl (by decide) (by decide) (by decide) (by decide)
  have hfs : Frame [] [(.gal, 0x05C)] j (fset j .east GAL_REBUILD_BUSY 1) := frame_fset j .east 0 0 GAL_REBUILD_BUSY 1
  have hfg : (fset j .east GAL_REBUILD_BUSY 1).gal = j.gal := rfl
  generalize fset j .east GAL_REBUILD_BUSY 1 = m at *
  have hwork := frame_addWork m items
  have hwr : (addWork m items).gal.rebuild = m.gal.rebuild := rfl
  have hwl : (addWork m items).gal.lost = m.gal.lost := rfl
  have hwp : (addWork m items).gal.lostPlinths = m.gal.lostPlinths := rfl
  generalize addWork m items = q at *
  have hsync := frame_syncRebuild_left q
  have hall : Frame [.bus, .gal, .evq] [(.gal, 0x05C), (.gal, 0x07C), (.gal, 0x010), (.gal, 0x060)] s.dev (syncRebuild q) :=
    (hset.mono (by decide) (by decide)).trans ((hloss.mono (by decide) (by decide)).trans ((ht.mono (by decide) (by decide)).trans
      ((hfs.mono (by decide) (by decide)).trans ((hwork.mono (by decide) (by decide)).trans (hsync.mono (by decide) (by decide))))))
  refine ⟨?_, ?_, ?_, fun e he => ?_, hall.1 .cur (by decide), hall.1 .cat (by decide), hall.1 .mem (by decide), hall.1 .out (by decide)⟩
  · rw [hsync.fget .east GAL_REBUILD_BUSY (by decide) (by decide), hwork.fget .east GAL_REBUILD_BUSY (by decide) (by decide), hone]
  · rw [hsync.fget .east GAL_REBUILD_PLINTH (by decide) (by decide), hwork.fget .east GAL_REBUILD_PLINTH (by decide) (by decide), hkeep,
      ht.fget .east GAL_REBUILD_PLINTH (by decide) (by decide), hloss.fget .east GAL_REBUILD_PLINTH (by decide) (by decide), hplinth]
  · rw [hsync.1 .gal (by decide), hwp, hfg]
    exact hlp
  · rw [hsync.1 .gal (by decide), hwr, hwl, hfg]
    exact htake e he

theorem frame_forgetBlocks (h : Head) (n : Nat) : Frame [.cur, .evq] curRegs h (forgetBlocks h n) := by
  simp +decide only [forgetBlocks, frame_ite, (frame_curUpd ..).iff, frame_refl, ite_self]

theorem forgetBlocks_keeps (h : Head) (n : Nat) : (forgetBlocks h n).cur.halls = h.cur.halls ∧ (forgetBlocks h n).cur.members = h.cur.members := by
  unfold forgetBlocks
  split
  · exact ⟨rfl, rfl⟩
  · rw [cur_curUpd]
    exact ⟨rfl, rfl⟩

/-- The lost plinths that have returned, forgotten. -/
def plinthsBack (h : Head) (l : List Nat) : Head := foldHead { h with gal := { h.gal with lostPlinths := [] } } l forgetBlocks

theorem rebuildDone_ends (s : State) (hrun : Runs s.dev) (hb : fget s.dev .east GAL_REBUILD_BUSY = 1) (hr : s.dev.gal.rebuild = []) :
    Completes .plinthRebuildDone s (fun h =>
      fget h .east GAL_REBUILD_BUSY = 0 ∧ h.gal.lostPlinths = [] ∧ EventSet h .east Ev.GAL_PLINTH_REBUILD_DONE ∧
        h.cur.halls = s.dev.cur.halls ∧ h.cur.members = s.dev.cur.members ∧ h.mem = s.dev.mem ∧ h.out = s.dev.out) := by
  have heq : rebuildDone s.dev = raise (fset (plinthsBack s.dev (s.dev.gal.lostPlinths.filter (fun n => plkBit s.dev n PLK_STATUS_ADMITTED))) .east
      GAL_REBUILD_BUSY 0) .east Ev.GAL_PLINTH_REBUILD_DONE := by
    unfold rebuildDone
    exact if_neg (by rw [fbit_one hb]; simp [hr])
  refine completes_of_eq exec_plinthRebuildDone hrun heq ?_
  generalize s.dev.gal.lostPlinths.filter (fun n => plkBit s.dev n PLK_STATUS_ADMITTED) = l
  have hf : Frame [.cur, .evq] curRegs { s.dev with gal := { s.dev.gal with lostPlinths := [] } } (plinthsBack s.dev l) :=
    frame_foldHead_mem fun g n _ => frame_forgetBlocks g n
  have hk : (plinthsBack s.dev l).cur.halls = s.dev.cur.halls ∧ (plinthsBack s.dev l).cur.members = s.dev.cur.members :=
    foldHead_keeps (fun g => g.cur.halls = s.dev.cur.halls ∧ g.cur.members = s.dev.cur.members)
      (fun g n hg => ⟨(forgetBlocks_keeps g n).1.trans hg.1, (forgetBlocks_keeps g n).2.trans hg.2⟩) l _ ⟨rfl, rfl⟩
  generalize plinthsBack s.dev l = g at *
  have hset : fget (fset g .east GAL_REBUILD_BUSY 0) .east GAL_REBUILD_BUSY = 0 := fget_fset_same _ _ GAL_REBUILD_BUSY _ _ _ (by decide) (by decide)
  have hfs := frame_fset g .east 0 0 GAL_REBUILD_BUSY 0
  generalize fset g .east GAL_REBUILD_BUSY 0 = k at *
  have hra := frame_raise k .east 0 Ev.GAL_PLINTH_REBUILD_DONE
  refine ⟨?_, ?_, raiseAt_sets _ _ _ (by decide), ?_, ?_, ?_, ?_⟩
  · rw [hra.fget .east GAL_REBUILD_BUSY (by decide) (by decide), hset]
  · rw [hra.1 .gal (by decide), hfs.1 .gal (by decide), hf.1 .gal (by decide)]
  · rw [hra.1 .cur (by decide), hfs.1 .cur (by decide), hk.1]
  · rw [hra.1 .cur (by decide), hfs.1 .cur (by decide), hk.2]
  · rw [hra.1 .mem (by decide), hfs.1 .mem (by decide), hf.1 .mem (by decide)]
  · rw [hra.1 .out (by decide), hfs.1 .out (by decide), hf.1 .out (by decide)]

/-! ### Reshape -/

theorem frame_syncBound (h : Head) : Frame [] [(.gal, 0x06C)] h (syncBound h) := frame_fset h .east 0 0 GAL_RESHAPE_BOUND_HALL _

theorem reshapeStart_runs (s : State) (ini : Initiator) (t : Nat) (hrun : Runs s.dev) (hw : Writable s.dev ini (pg .gal .east) 0x068)
    (hr : fget s.dev .east GAL_RESHAPE_RUNNING = 0) (h4 : 4 ≤ t) (h30 : t ≤ 30)
    (hp : t + 2 ≤ (allPlinths.filter (fun n => plkBit s.dev n PLK_STATUS_PRESENT)).length) :
    Completes (.reshapeStart ini .east t) s (fun h =>
      fget h .east GAL_RESHAPE_RUNNING = 1 ∧ fget h .east GAL_RESHAPE_TARGET_N = t ∧
        RegsBut s.dev h [(.gal, 0x068), (.gal, 0x06C)] ∧ SameButRegs (reply s.dev false) h) := by
  have heq : reshapeStart s.dev ini .east t =
      syncBound (fset (fset (reply s.dev false) .east GAL_RESHAPE_TARGET_N t) .east GAL_RESHAPE_RUNNING 1) := by
    have hbad : (decide (t < 4) || decide (30 < t) ||
        decide ((allPlinths.filter (fun n => plkBit (reply s.dev false) n PLK_STATUS_PRESENT)).length < t + 2)) = false := by
      rw [decide_eq_false (Nat.not_lt.mpr h4), decide_eq_false (Nat.not_lt.mpr h30)]
      exact decide_eq_false (Nat.not_lt.mpr hp)
    unfold reshapeStart
    rw [withWrite_ok _ _ _ _ _ hw, if_neg (by decide), Nat.mod_eq_of_lt (by omega)]
    unfold reshapeStartEffect
    dsimp only
    rw [hbad, if_neg (by rw [show fbit (reply s.dev false) .east GAL_RESHAPE_RUNNING = fbit s.dev .east GAL_RESHAPE_RUNNING from rfl, fbit_zero hr]; decide)]
    rfl
  refine completes_of_eq (exec_reshapeStart ini .east t) hrun heq ?_
  have h1 : fget (fset (fset (reply s.dev false) .east GAL_RESHAPE_TARGET_N t) .east GAL_RESHAPE_RUNNING 1) .east GAL_RESHAPE_RUNNING = 1 :=
    fget_fset_same _ _ GAL_RESHAPE_RUNNING _ _ _ (by decide) (by decide)
  have h2 : fget (fset (fset (reply s.dev false) .east GAL_RESHAPE_TARGET_N t) .east GAL_RESHAPE_RUNNING 1) .east GAL_RESHAPE_TARGET_N = t := by
    rw [fget_fset_bits _ _ GAL_RESHAPE_RUNNING GAL_RESHAPE_TARGET_N _ rfl rfl (by decide) (by decide) (by decide) (by decide),
      fget_fset_same _ _ GAL_RESHAPE_TARGET_N _ _ _ (by decide) (by decide)]
    exact Nat.mod_eq_of_lt (show t < 32 by omega)
  have hf : Frame [] [(.gal, 0x068)] (reply s.dev false) (fset (fset (reply s.dev false) .east GAL_RESHAPE_TARGET_N t) .east GAL_RESHAPE_RUNNING 1) := by
    simp +decide only [frame_rules, frame_refl]
  generalize fset (fset (reply s.dev false) .east GAL_RESHAPE_TARGET_N t) .east GAL_RESHAPE_RUNNING 1 = g at *
  have hb := frame_syncBound g
  have hall : Frame [.evq] [(.gal, 0x068), (.gal, 0x06C)] (reply s.dev false) (syncBound g) :=
    (hf.mono (by decide) (by decide)).trans (hb.mono (by decide) (by decide))
  refine ⟨?_, ?_, hall.2, hall.sameButRegs⟩
  · rw [hb.fget .east GAL_RESHAPE_RUNNING (by decide) (by decide), h1]
  · rw [hb.fget .east GAL_RESHAPE_TARGET_N (by decide) (by decide), h2]

theorem reshapeAbort_stops (s : State) (ini : Initiator) (hrun : Runs s.dev) (hw : Writable s.dev ini (pg .gal .east) 0x068) :
    Completes (.reshapeAbort ini .east) s (fun h =>
      fget h .east GAL_RESHAPE_RUNNING = 0 ∧ fget h .east GAL_RESHAPE_TARGET_N = fget s.dev .east GAL_RESHAPE_TARGET_N ∧
        RegsBut s.dev h [(.gal, 0x068)] ∧
        SameButRegs { reply s.dev false with gal := { s.dev.gal with reshaping := false } } h) := by
  have heq : reshapeAbort s.dev ini .east =
      fset { reply s.dev false with gal := { s.dev.gal with reshaping := false } } .east GAL_RESHAPE_RUNNING 0 := by
    unfold reshapeAbort
    rw [withWrite_ok _ _ _ _ _ hw, if_neg (by decide)]
    rfl
  refine completes_of_eq (exec_reshapeAbort ini .east) hrun heq ⟨?_, ?_, ?_, rfl⟩
  · exact fget_fset_same _ _ GAL_RESHAPE_RUNNING _ _ _ (by decide) (by decide)
  · rw [fget_fset_bits _ _ GAL_RESHAPE_RUNNING GAL_RESHAPE_TARGET_N _ rfl rfl (by decide) (by decide) (by decide) (by decide)]
    rfl
  · exact (frame_fset { reply s.dev false with gal := { s.dev.gal with reshaping := false } } .east 0 0 GAL_RESHAPE_RUNNING 0).2

/-- The head as a reshape ends, before its event. -/
def reshapeEnded (h : Head) : Head :=
  fset { (fset (syncBound h) .east GAL_WIDTH_N (fget h .east GAL_RESHAPE_TARGET_N)) with gal := { h.gal with reshaping := false } } .east
    GAL_RESHAPE_RUNNING 0

theorem reshapeDone_ends (s : State) (hrun : Runs s.dev) (hr : fget s.dev .east GAL_RESHAPE_RUNNING = 1)
    (ho : ∀ e ∈ ownHalls s.dev, e.2.n = fget s.dev .east GAL_RESHAPE_TARGET_N) :
    Completes .reshapeDone s (fun h =>
      fget h .east GAL_RESHAPE_RUNNING = 0 ∧ fget h .east GAL_WIDTH_N = fget s.dev .east GAL_RESHAPE_TARGET_N ∧
        EventSet h .east Ev.GAL_RESHAPE_DONE ∧ RegsBut s.dev h [(.gal, 0x010), (.gal, 0x044), (.gal, 0x068), (.gal, 0x06C)] ∧
        SameButRegs { s.dev with gal := { s.dev.gal with reshaping := false } } h) := by
  have heq : reshapeDone s.dev = raise (reshapeEnded s.dev) .east Ev.GAL_RESHAPE_DONE := by
    unfold reshapeDone
    rw [if_neg]
    · rfl
    · rw [fbit_one hr]
      simp only [Bool.not_true, Bool.false_eq_true, false_or, List.any_eq_true, bne_iff_ne, not_exists, not_and, not_not]
      exact ho
  refine completes_of_eq exec_reshapeDone hrun heq ?_
  have hlt : fget s.dev .east GAL_RESHAPE_TARGET_N < 32 := fget_lt s.dev .east GAL_RESHAPE_TARGET_N 0 0
  have h0 : fget (reshapeEnded s.dev) .east GAL_RESHAPE_RUNNING = 0 := fget_fset_same _ _ GAL_RESHAPE_RUNNING _ _ _ (by decide) (by decide)
  have hwidth : fget (reshapeEnded s.dev) .east GAL_WIDTH_N = fget s.dev .east GAL_RESHAPE_TARGET_N := by
    unfold reshapeEnded
    rw [fget_fset_off _ _ _ _ _ _ _ _ _ _ (by decide)]
    exact (fget_fset_same (syncBound s.dev) .east GAL_WIDTH_N _ 0 0 (by decide) (by decide)).trans (Nat.mod_eq_of_lt hlt)
  have hsame : SameButRegs { s.dev with gal := { s.dev.gal with reshaping := false } } (reshapeEnded s.dev) := rfl
  have hf : Frame [.gal] [(.gal, 0x044), (.gal, 0x068), (.gal, 0x06C)] s.dev (reshapeEnded s.dev) := by
    simp +decide only [reshapeEnded, (frame_syncBound ..).iff, frame_rules, frame_mk, true_or, or_true, and_self, frame_refl]
  generalize reshapeEnded s.dev = g at *
  have hra := frame_raise g .east 0 Ev.GAL_RESHAPE_DONE
  refine ⟨?_, ?_, raiseAt_sets _ _ _ (by decide), ?_, ?_⟩
  · rw [hra.fget .east GAL_RESHAPE_RUNNING (by decide) (by decide), h0]
  · rw [hra.fget .east GAL_WIDTH_N (by decide) (by decide), hwidth]
  · exact ((hf.mono (l := [.gal, .evq]) (by decide) (by decide)).trans (hra.mono (by decide) (by decide))).2
  · exact sameButRegs_trans hsame hra.sameButRegs

/-- Settles O40, a lemma for each command: the end of a written case's APPENDs by `mem_finishAppends`, the closing of galleries by
`closeGallery_closes`, and the ends of the Curator's long operations by their `_eq` lemmas. -/
theorem casesAndGalleries : Obligations.CasesAndGalleries := by
  unfold Obligations.CasesAndGalleries
  exact ⟨caseCompressed_ends, galleryFlush_closes, closeNow_closes, resyncDone_verifies, resyncDone_afterMount, verifyDone_ends, rebuildStart_takes,
    rebuildDone_ends, reshapeStart_runs, reshapeAbort_stops, reshapeDone_ends⟩

end Sys2Proof.Laws
end

section
/-! Granules of a write placed and mirrored (R144, R159, R164). -/

namespace Sys2Proof.Laws

open Machine Machine.Reg

/-! ### Requests on an Annex port -/

/-- A message depends only on the port's links, what it sends, and what has been sent. -/
theorem anxSent_congr {g g' h h' : Head} {p : Wing} {mtag coll : Nat} {b : AnxBody} (hl : ∀ w, anxLink g' w = anxLink g w) (ho : g'.out = g.out)
    (hs : anxSends g' p = anxSends g p) (hl' : ∀ w, anxLink h' w = anxLink h w) (ho' : h'.out = h.out) (x : AnxSent g' h p mtag coll b) :
    AnxSent g h' p mtag coll b := by
  obtain ⟨h1, h2, h3⟩ := x
  unfold AnxSent
  rw [hl', hl', ho', ← hl, ← hl, ← ho, ← hs]
  exact ⟨h1, h2, h3⟩

theorem anxPort_frame {l : List Part} {t : List (Block × Nat)} {h g : Head} (x : Frame l t h g) (ht : (Block.anx, 0x044) ∉ t) (w : Wing) :
    anxPort g w = anxPort h w := by
  unfold anxPort anxUp
  simp only [x.fbit _ ANX_LINK_STATUS_UP ht (by decide)]

/-- A request is kept until its reply comes, behind the others. -/
theorem anxRequest_keeps (h : Head) (w : Wing) (coll : Nat) (b : AnxBody) :
    (anxRequest h w coll b).2.vit.unacked = h.vit.unacked ++ [⟨w, (anxRequest h w coll b).1, coll, b, false⟩] ∧
      (anxRequest h w coll b).2.vit.toMirror = h.vit.toMirror ∧ (anxRequest h w coll b).2.vit.slots = h.vit.slots ∧
      (anxRequest h w coll b).2.vit.forwards = h.vit.forwards := by
  have hu : (takeMtag h w).2.vit.unacked = h.vit.unacked ∧ (takeMtag h w).2.vit.toMirror = h.vit.toMirror ∧
      (takeMtag h w).2.vit.slots = h.vit.slots ∧ (takeMtag h w).2.vit.forwards = h.vit.forwards := by cases w <;> exact ⟨rfl, rfl, rfl, rfl⟩
  unfold anxRequest
  generalize takeMtag h w = x at *
  obtain ⟨t, g⟩ := x
  dsimp only at hu ⊢
  obtain ⟨h1, h2, h3, h4⟩ := hu
  rw [(anxStep_anxSend _ w t coll b).vit]
  exact ⟨congrArg (· ++ _) h1, h2, h3, h4⟩

/-! ### Placement -/

/-- A command's granule can be placed now (R142, R160). -/
theorem placementHeld_of_placeable {h : Head} {c : HostCmd} {idx : Nat} (x : Placeable h c idx) : placementHeld h c idx = false := by
  obtain ⟨hw, hi, hn, ha, hf, hm, hr, hfl, hroom, hst⟩ := x
  have hnew : c.placed.any (fun p => p.1 == c.cap.slba + idx) = false := List.any_eq_false.mpr fun p hp => by rw [beq_iff_eq]; exact hn p hp
  unfold placementHeld
  dsimp only
  rw [hw, hnew, ha, hf, hm, hr, decide_eq_false (Nat.not_le.mpr hi), decide_eq_false (Nat.not_le.mpr hfl)]
  cases hfwd : c.fwd with
  | false => simp [hroom hfwd]
  | true => simp [hst hfwd]

theorem placeGranule_held {h : Head} {key idx : Nat} {c : HostCmd} (hc : tabGet? h.foy.cmds key = some c) (x : Placeable h c idx) :
    placeGranule h key idx = if c.fwd then stageGranule h key c idx
      else match nsGet? h c.cap.nsid with
        | none => h
        | some n => match compareFirst h c n with
          | none => h
          | some c' =>
            if c'.failed.isSome || c'.miscompare then setCmd (if c.compared then h else endCompare h c' n) key c'
            else placeOwned (if c.compared then h else endCompare h c' n) key c' idx := by
  unfold placeGranule
  rw [hc]
  dsimp only
  rw [placementHeld_of_placeable x, if_neg (by decide)] <;> rfl

/-- An own granule whose compare, if it has one, is done is placed. -/
theorem placeGranule_owned {h : Head} {key idx : Nat} {c : HostCmd} {n : Namespace} (hc : tabGet? h.foy.cmds key = some c) (x : Placeable h c idx)
    (hf : c.fwd = false) (hn : nsGet? h c.cap.nsid = some n) (ho : c.cap.op = .write ∨ c.compared = true) :
    placeGranule h key idx = placeOwned h key c idx := by
  have hcmp : compareFirst h c n = some c := by
    unfold compareFirst
    refine if_pos ?_
    rcases ho with ho | ho
    · exact .inl (by rw [ho]; exact nofun)
    · exact .inr ho
  have hend : (if c.compared then h else endCompare h c n) = h := by
    rcases ho with ho | ho
    · unfold endCompare
      rw [if_neg (show ¬ c.cap.op = .compareWrite by rw [ho]; decide), ite_self]
    · exact if_pos ho
  rw [placeGranule_held hc x, hf, if_neg (by decide), hn]
  dsimp only
  rw [hcmp]
  dsimp only
  rw [hend, x.sound, x.same]
  exact if_neg (by decide)

theorem halves_64 {n : Nat} (hn : n < 2 ^ 64) : (n >>> 32 % 2 ^ 32) <<< 32 + n % 2 ^ 32 = n := by
  rw [Nat.shiftLeft_eq, Nat.shiftRight_eq_div_pow]
  omega

theorem seqNum_succ_lt (w : Wing) (n : Nat) : wingNum w <<< 63 + (n + 1) % 2 ^ 63 < 2 ^ 64 := by
  have : (n + 1) % 2 ^ 63 < 2 ^ 63 := Nat.mod_lt _ (by decide)
  rw [Nat.shiftLeft_eq]
  cases w <;> simp only [wingNum] <;> omega

/-- The next write sequence of a wing whose sequence was just taken (R144). -/
theorem wseqNext_takeSeq (h : Head) (w : Wing) :
    wseqNext (takeSeq h w).2 w = wingNum w <<< 63 + (seqNum (wseqNext h w) + 1) % 2 ^ 63 := by
  have hlt := seqNum_succ_lt w (seqNum (wseqNext h w))
  unfold takeSeq
  dsimp only
  generalize wingNum w <<< 63 + (seqNum (wseqNext h w) + 1) % 2 ^ 63 = v at *
  unfold wseqNext pget pset
  rw [fget_fset_same _ _ VIT_WSEQ_HI_WSEQ _ _ _ (by decide) (by decide), fget_fset_off _ _ _ _ _ _ _ _ _ _ (by decide),
    fget_fset_same _ _ VIT_WSEQ_LO_WSEQ _ _ _ (by decide) (by decide)]
  exact halves_64 hlt

theorem wseqNext_frame {l : List Part} {t : List (Block × Nat)} {h g : Head} (x : Frame l t h g) (h1 : (Block.vit, 0x060) ∉ t) (h2 : (Block.vit, 0x064) ∉ t)
    (w : Wing) : wseqNext g w = wseqNext h w := by
  unfold wseqNext pget
  rw [x.fget w VIT_WSEQ_LO_WSEQ h1 (by decide), x.fget w VIT_WSEQ_HI_WSEQ h2 (by decide)]

theorem hasPeer_frame {l : List Part} {t : List (Block × Nat)} {h g : Head} (x : Frame l t h g) (hp : (Block.anx, 0x050) ∉ t) : hasPeer g = hasPeer h := by
  unfold hasPeer
  rw [x.pairState hp]

/-- The slot a granule of a write takes. -/
def placedSlot (h : Head) (nsid granule data coll : Nat) (committed : Bool) : Slot :=
  newSlot (homeOf h nsid) .dirty nsid granule (wseqNext h (homeOf h nsid)) (hostLabel coll data) data committed

theorem vit_dirtyPlaced (h : Head) (nsid granule data coll : Nat) :
    (dirtyPlaced h nsid granule data coll).vit = { h.vit with slots := h.vit.slots ++ [placedSlot h nsid granule data coll false] } := by
  have hv := vit_setSlots (takeSeq h (homeOf h nsid)).2
    ((takeSeq h (homeOf h nsid)).2.vit.slots ++ [newSlot (homeOf h nsid) .dirty nsid granule (takeSeq h (homeOf h nsid)).1 (hostLabel coll data) data false])
  unfold dirtyPlaced
  dsimp only
  split <;> exact hv

theorem wseqNext_dirtyPlaced (h : Head) (nsid granule data coll : Nat) : wseqNext (dirtyPlaced h nsid granule data coll) (homeOf h nsid) =
    wingNum (homeOf h nsid) <<< 63 + (seqNum (wseqNext h (homeOf h nsid)) + 1) % 2 ^ 63 := by
  rw [← wseqNext_takeSeq]
  have hf : Frame [.vit, .rpl, .evq] slotRegs (takeSeq h (homeOf h nsid)).2 (dirtyPlaced h nsid granule data coll) := by
    simp +decide only [dirtyPlaced, frame_ite, (frame_setSlots ..).iff, frame_mk, true_or, or_true, and_self, frame_refl, ite_self]
  exact wseqNext_frame hf (by decide) (by decide) _

/-- A version joins those that wait for a MIRROR, with the fused record that shares its commit. -/
def mirrorWaits (h : Head) (w : Wing) (seq : Nat) (record : Option FusedRec) : Head :=
  { h with vit := { h.vit with
    toMirror := h.vit.toMirror ++ [(w, seq)]
    fusedOut := h.vit.fusedOut ++ (record.map (fun r => (w, seq, r))).toList } }

theorem placeDirty_alone {h : Head} (hp : hasPeer h = false) (nsid granule data coll : Nat) (committed : Bool) (record : Option FusedRec) :
    placeDirty h nsid granule data coll committed record = (wseqNext h (homeOf h nsid),
      commitVersion (dirtyPlaced h nsid granule data coll) nsid granule (wseqNext h (homeOf h nsid))) := by
  have hd : hasPeer (dirtyPlaced h nsid granule data coll) = false := (hasPeer_frame (frame_dirtyPlaced ..) (by decide)).trans hp
  refine (if_pos ?_ : (if committed || !hasPeer (dirtyPlaced h nsid granule data coll) then _ else _) = _)
  rw [hd]
  exact Bool.or_true _

theorem placeDirty_mirrors {h : Head} (hp : hasPeer h = true) (nsid granule data coll : Nat) (record : Option FusedRec) :
    placeDirty h nsid granule data coll false record = (wseqNext h (homeOf h nsid),
      mirrorSend (mirrorWaits (dirtyPlaced h nsid granule data coll) (homeOf h nsid) (wseqNext h (homeOf h nsid)) record) (homeOf h nsid)) := by
  have hd : hasPeer (dirtyPlaced h nsid granule data coll) = true := (hasPeer_frame (frame_dirtyPlaced ..) (by decide)).trans hp
  refine (if_neg ?_ : (if false || !hasPeer (dirtyPlaced h nsid granule data coll) then _ else _) = _)
  rw [hd]
  decide

/-- A command with a granule more placed. -/
def placedOne (c : HostCmd) (granule seq : Nat) : HostCmd := { c with placed := c.placed ++ [(granule, seq)] }

/-- The record that goes with the last granule of a fused pair (R106). -/
def lastRecord (c : HostCmd) : Option FusedRec :=
  if c.cap.op = .compareWrite ∧ decide (c.placed.length + 1 = c.cap.count) = true then some (fusedRecord c ⟨0, 0x00, false⟩) else none

theorem placeOwned_eq (h : Head) (key : Nat) (c : HostCmd) (idx : Nat) : placeOwned h key c idx =
    setCmd (placeDirty h c.cap.nsid (c.cap.slba + idx) (writeData c idx) c.coll c.via.isSome (lastRecord c)).2 key
      (placedOne c (c.cap.slba + idx) (placeDirty h c.cap.nsid (c.cap.slba + idx) (writeData c idx) c.coll c.via.isSome (lastRecord c)).1) := rfl

/-! ### With no peer (R144) -/

/-- A slot as its version's commit leaves it. -/
def markCommitted (nsid granule seq : Nat) (s : Slot) : Slot := if isVersion nsid granule seq s then { s with committed := true } else s

/-- A slot of a granule that a newer committed version has made old. -/
def madeOld (l : List Slot) (nsid granule : Nat) (s : Slot) : Bool := isGranule nsid granule s && outdated l s

/-- A slot marked superseded, where it is. -/
def supersede (b : Bool) (s : Slot) : Slot := if b then { s with superseded := true } else s

theorem supersede_keeps (b : Bool) (s : Slot) : (supersede b s).st = s.st ∧ (supersede b s).committed = s.committed ∧ (supersede b s).wseq = s.wseq ∧
    ∀ nsid granule, isGranule nsid granule (supersede b s) = isGranule nsid granule s := by
  unfold supersede
  split <;> exact ⟨rfl, rfl, rfl, fun _ _ => rfl⟩

/-- The slots of a granule as a commit of one of its versions leaves them: clean and old ones go, old ones in accession are superseded. -/
def afterCommit (l : List Slot) (nsid granule : Nat) : List Slot :=
  (l.filter (fun s => !(isGranule nsid granule s && s.st == .clean) && !(madeOld l nsid granule s && s.st == .dirty))).map
    (fun s => supersede (madeOld l nsid granule s) s)

theorem slots_commitVersion (h : Head) (nsid granule seq : Nat) :
    (commitVersion h nsid granule seq).vit.slots = afterCommit (h.vit.slots.map (markCommitted nsid granule seq)) nsid granule := by
  unfold commitVersion
  rw [vit_setSlots]
  rfl

/-- The newest committed version of its granule is not old. -/
theorem outdated_newest {l : List Slot} {v : Slot} (hold : ∀ x ∈ l, isGranule v.nsid v.granule x = true → seqNum x.wseq < seqNum v.wseq) :
    outdated (l ++ [v]) v = false := by
  unfold outdated
  rw [Bool.and_eq_false_iff]
  right
  refine List.any_eq_false.mpr fun x hx => ?_
  simp only [Bool.and_eq_true, decide_eq_true_eq, not_and]
  rintro ⟨_, hg⟩
  rcases List.mem_append.mp hx with hx | hx
  · exact Nat.not_lt.mpr (Nat.le_of_lt (hold x hx hg))
  · rw [List.mem_singleton.mp hx]
    exact Nat.lt_irrefl _

/-- A committed version of a granule with a newer committed one is old. -/
theorem outdated_older {l : List Slot} {v x : Slot} (hd : v.st = .dirty) (hc : v.committed = true) (hx : seqNum x.wseq < seqNum v.wseq)
    (hg : isGranule v.nsid v.granule x = true) (ho : isOwnDirty x.st = true) (hcx : x.committed = true) : outdated (l ++ [v]) x = true := by
  unfold outdated
  rw [ho, hcx, Bool.true_and, Bool.true_and]
  refine List.any_eq_true.mpr ⟨v, List.mem_append_right _ (List.mem_singleton_self _), ?_⟩
  have hg' : isGranule x.nsid x.granule v = true := by
    unfold isGranule at hg ⊢
    simp only [Bool.and_eq_true, beq_iff_eq] at hg ⊢
    exact ⟨hg.1.symm, hg.2.symm⟩
  rw [hg', hd, hc, decide_eq_true hx]
  rfl

theorem mem_afterCommit {l : List Slot} {nsid granule : Nat} {x : Slot} : x ∈ afterCommit l nsid granule ↔ ∃ y ∈ l,
    (!(isGranule nsid granule y && y.st == .clean) && !(madeOld l nsid granule y && y.st == .dirty)) = true ∧
      supersede (madeOld l nsid granule y) y = x := by
  unfold afterCommit
  simp only [List.mem_map, List.mem_filter]
  exact ⟨fun ⟨y, ⟨h1, h2⟩, h3⟩ => ⟨y, h1, h2, h3⟩, fun ⟨y, h1, h2, h3⟩ => ⟨y, ⟨h1, h2⟩, h3⟩⟩

theorem newest_afterCommit {l : List Slot} {v : Slot} (hd : v.st = .dirty)
    (hold : ∀ x ∈ l, isGranule v.nsid v.granule x = true → seqNum x.wseq < seqNum v.wseq) : v ∈ afterCommit (l ++ [v]) v.nsid v.granule := by
  have hno : madeOld (l ++ [v]) v.nsid v.granule v = false := by
    unfold madeOld
    rw [outdated_newest hold, Bool.and_false]
  refine mem_afterCommit.mpr ⟨v, List.mem_append_right _ (List.mem_singleton_self _), ?_, ?_⟩
  · rw [hno, hd]
    simp
  · rw [hno]
    rfl

theorem others_afterCommit {l : List Slot} {nsid granule : Nat} {x : Slot} (hx : x ∈ l) (hg : isGranule nsid granule x = false) :
    x ∈ afterCommit l nsid granule := by
  have hno : madeOld l nsid granule x = false := by
    unfold madeOld
    rw [hg, Bool.false_and]
  refine mem_afterCommit.mpr ⟨x, hx, ?_, ?_⟩
  · rw [hno, hg]
    rfl
  · rw [hno]
    rfl

theorem granule_afterCommit {l : List Slot} {v x : Slot} (hd : v.st = .dirty) (hc : v.committed = true)
    (hold : ∀ x ∈ l, isGranule v.nsid v.granule x = true → seqNum x.wseq < seqNum v.wseq) (hx : x ∈ afterCommit (l ++ [v]) v.nsid v.granule)
    (hg : isGranule v.nsid v.granule x = true) : x.st ≠ .clean ∧ (x.st = .dirty → x.committed = true → x.wseq = v.wseq) ∧
      (x.st = .accession → x.committed = true → x.superseded = true) := by
  obtain ⟨y, hy, hkeep, rfl⟩ := mem_afterCommit.mp hx
  obtain ⟨hst, hcm, hws, hgr⟩ := supersede_keeps (madeOld (l ++ [v]) v.nsid v.granule y) y
  rw [hgr] at hg
  have hmade (hyl : y ∈ l) (ho : isOwnDirty y.st = true) (hcy : y.committed = true) : madeOld (l ++ [v]) v.nsid v.granule y = true := by
    unfold madeOld
    rw [hg, outdated_older hd hc (hold y hyl hg) hg ho hcy]
    rfl
  rw [hst, hcm, hws]
  refine ⟨fun hcl => ?_, fun hdy hcy => ?_, fun hay hcy => ?_⟩
  · rw [hg, hcl] at hkeep
    exact absurd hkeep (by simp)
  · rcases List.mem_append.mp hy with hyl | hyl
    · rw [hmade hyl (by rw [hdy]; rfl) hcy, hdy] at hkeep
      exact absurd hkeep (by simp)
    · rw [List.mem_singleton.mp hyl]
  · rcases List.mem_append.mp hy with hyl | hyl
    · rw [hmade hyl (by rw [hay]; rfl) hcy]
      rfl
    · rw [List.mem_singleton.mp hyl, hd] at hay
      exact absurd hay (by decide)

/-- The commit of a granule's newest version marks it alone. -/
theorem markCommitted_newest {l : List Slot} {v : Slot} (hold : ∀ x ∈ l, isGranule v.nsid v.granule x = true → seqNum x.wseq < seqNum v.wseq) :
    (l ++ [v]).map (markCommitted v.nsid v.granule v.wseq) = l ++ [{ v with committed := true }] := by
  have hver (x : Slot) (hx : x ∈ l) : markCommitted v.nsid v.granule v.wseq x = x := by
    refine if_neg fun hc => ?_
    unfold isVersion at hc
    simp only [Bool.and_eq_true, beq_iff_eq] at hc
    have hlt := hold x hx (by unfold isGranule; simp [hc.1])
    rw [hc.2] at hlt
    exact Nat.lt_irrefl _ hlt
  rw [List.map_append, List.map_congr_left hver, List.map_id', List.map_singleton]
  exact congrArg (fun x => l ++ [x]) (if_pos (by unfold isVersion; simp))

theorem granulePlace_alone (s : State) (w : Wing) (tag idx : Nat) (c : HostCmd) (n : Namespace) (hrun : Runs s.dev)
    (hc : tabGet? s.dev.foy.cmds (tagKey w tag) = some c) (x : Placeable s.dev c idx) (hf : c.fwd = false) (hn : nsGet? s.dev c.cap.nsid = some n)
    (ho : c.cap.op = .write ∨ c.compared = true) (hp : hasPeer s.dev = false)
    (hold : ∀ v ∈ s.dev.vit.slots, isGranule c.cap.nsid (c.cap.slba + idx) v = true →
      seqNum v.wseq < seqNum (wseqNext s.dev (homeOf s.dev c.cap.nsid))) :
    Completes (.granulePlace w tag idx) s (fun h =>
      let home := homeOf s.dev c.cap.nsid
      let g := c.cap.slba + idx
      let seq := wseqNext s.dev home
      let data := writeData c idx
      newSlot home .dirty c.cap.nsid g seq (hostLabel c.coll data) data true ∈ h.vit.slots ∧
        (∀ v ∈ h.vit.slots, isGranule c.cap.nsid g v = true → v.st ≠ .clean ∧ (v.st = .dirty → v.committed = true → v.wseq = seq) ∧
          (v.st = .accession → v.committed = true → v.superseded = true)) ∧
        (∀ v ∈ s.dev.vit.slots, isGranule c.cap.nsid g v = false → v ∈ h.vit.slots) ∧
        wseqNext h home = wingNum home <<< 63 + (seqNum seq + 1) % 2 ^ 63 ∧
        tabGet? h.foy.cmds (tagKey w tag) = some { c with placed := c.placed ++ [(g, seq)] } ∧ h.out = s.dev.out ∧ h.mem = s.dev.mem ∧
        h.cat = s.dev.cat) := by
  have heq : granulePlace s.dev w tag idx = setCmd (commitVersion (dirtyPlaced s.dev c.cap.nsid (c.cap.slba + idx) (writeData c idx) c.coll) c.cap.nsid
      (c.cap.slba + idx) (wseqNext s.dev (homeOf s.dev c.cap.nsid))) (tagKey w tag)
      (placedOne c (c.cap.slba + idx) (wseqNext s.dev (homeOf s.dev c.cap.nsid))) := by
    refine (placeGranule_owned hc x hf hn ho).trans ?_
    rw [placeOwned_eq, placeDirty_alone hp]
  refine completes_of_eq (exec_granulePlace w tag idx) hrun heq ?_
  have hd := frame_dirtyPlaced s.dev c.cap.nsid (c.cap.slba + idx) (writeData c idx) c.coll
  have hv := vit_dirtyPlaced s.dev c.cap.nsid (c.cap.slba + idx) (writeData c idx) c.coll
  have hw := wseqNext_dirtyPlaced s.dev c.cap.nsid (c.cap.slba + idx) (writeData c idx) c.coll
  generalize dirtyPlaced s.dev c.cap.nsid (c.cap.slba + idx) (writeData c idx) c.coll = g at *
  have hslots : (commitVersion g c.cap.nsid (c.cap.slba + idx) (wseqNext s.dev (homeOf s.dev c.cap.nsid))).vit.slots =
      afterCommit (s.dev.vit.slots ++ [placedSlot s.dev c.cap.nsid (c.cap.slba + idx) (writeData c idx) c.coll true]) c.cap.nsid (c.cap.slba + idx) := by
    rw [slots_commitVersion, hv]
    exact congrArg (afterCommit · c.cap.nsid (c.cap.slba + idx))
      (markCommitted_newest (v := placedSlot s.dev c.cap.nsid (c.cap.slba + idx) (writeData c idx) c.coll false) hold)
  have hcm := frame_commitVersion g c.cap.nsid (c.cap.slba + idx) (wseqNext s.dev (homeOf s.dev c.cap.nsid))
  dsimp only
  refine ⟨?_, fun v hvm => ?_, fun v hvm hgr => ?_, ?_, tabGet?_tabPut_same .., (hcm.1 .out (by decide)).trans (hd.1 .out (by decide)),
    (hcm.1 .mem (by decide)).trans (hd.1 .mem (by decide)), (hcm.1 .cat (by decide)).trans (hd.1 .cat (by decide))⟩
  · exact hslots ▸ newest_afterCommit (v := placedSlot s.dev c.cap.nsid (c.cap.slba + idx) (writeData c idx) c.coll true) rfl hold
  · exact granule_afterCommit (v := placedSlot s.dev c.cap.nsid (c.cap.slba + idx) (writeData c idx) c.coll true) rfl rfl hold (hslots ▸ hvm)
  · exact hslots ▸ others_afterCommit (List.mem_append_left _ hvm) hgr
  · exact (wseqNext_frame hcm (by decide) (by decide) _).trans hw

/-! ### With a peer (R159) -/

theorem mirrorLoop_idle {h : Head} {w : Wing} (hr : mirrorReady h w = false) (n : Nat) : mirrorLoop n h w = h := by
  cases n with
  | zero => rfl
  | succ n =>
    unfold mirrorLoop
    exact if_neg (by rw [hr]; decide)

theorem mirrorReady_none {h : Head} {w : Wing} (hn : ∀ e ∈ h.vit.toMirror, e.1 ≠ w) : mirrorReady h w = false := by
  unfold mirrorReady
  rw [List.any_eq_false.mpr (fun e he => by rw [beq_iff_eq]; exact hn e he), Bool.false_and]

/-- The MIRROR of one granule, with the fused record that shares its commit. -/
def mirrorOf (v : Slot) (record : Option FusedRec) : AnxBody := .mirror [entryOf v] record.toList

theorem filter_none {α : Type} {l : List α} {p : α → Bool} (hn : ∀ x ∈ l, p x = false) : l.filter p = [] :=
  List.filter_eq_nil_iff.mpr fun x hx => by rw [hn x hx]; decide

theorem filter_all {α : Type} {l : List α} {p : α → Bool} (hn : ∀ x ∈ l, p x = true) : l.filter p = l := List.filter_eq_self.mpr hn

/-- The one version of a wing that waits forms its MIRROR. -/
theorem formMirror_one {h : Head} {w : Wing} {seq : Nat} {record : Option FusedRec} {l : List Slot} {v : Slot} (hs : h.vit.slots = l ++ [v])
    (hvw : v.wing = w) (hvs : v.wseq = seq) (hvd : v.st = .dirty) (hl : ∀ x ∈ l, x.wing = w → isOwnDirty x.st = true → x.wseq ≠ seq)
    (hm : ∀ e ∈ h.vit.toMirror, e.1 ≠ w) (hf : ∀ f ∈ h.vit.fusedOut, f.1 ≠ w) :
    formMirror (mirrorWaits h w seq record) w = (anxRequest h w v.label.coll (mirrorOf v record)).2 := by
  have hmine : ((h.vit.toMirror ++ [(w, seq)]).filter (fun e => e.1 == w)).take 4 = [(w, seq)] := by
    rw [List.filter_append, filter_none (fun e he => by rw [beq_eq_false_iff_ne]; exact hm e he)]
    simp
  have hfind : (l ++ [v]).find? (fun s => s.wing == w && s.wseq == seq && isOwnDirty s.st) = some v := by
    rw [List.find?_append, List.find?_eq_none.mpr, Option.none_or]
    · simp [hvw, hvs, hvd, isOwnDirty]
    · intro x hx
      simp only [Bool.and_eq_true, beq_iff_eq, not_and]
      intro ⟨h1, h2⟩ h3
      exact hl x hx h1 h3 h2
  have hrec : ((h.vit.fusedOut ++ (record.map (fun r => (w, seq, r))).toList).filter (fun f => [(w, seq)].contains (f.1, f.2.1))).map (·.2.2) =
      record.toList := by
    rw [List.filter_append, filter_none (fun f hx => by simp [hf f hx])]
    cases record <;> simp
  have hkeep : (h.vit.toMirror ++ [(w, seq)]).filter (fun e => !([(w, seq)].contains e)) = h.vit.toMirror := by
    rw [List.filter_append, filter_all (fun e he => by simp only [List.contains_cons, List.contains_nil, Bool.or_false, Bool.not_eq_true', beq_eq_false_iff_ne]; exact fun hx => hm e he (by rw [hx]))]
    simp
  have hfkeep : (h.vit.fusedOut ++ (record.map (fun r => (w, seq, r))).toList).filter (fun f => !([(w, seq)].contains (f.1, f.2.1))) = h.vit.fusedOut := by
    rw [List.filter_append, filter_all (fun f hx => by simp [hf f hx])]
    cases record <;> simp
  unfold formMirror mirrorWaits
  dsimp only
  rw [hmine, hrec, hkeep, hfkeep, hs, List.filterMap_cons, hfind]
  rw [← hs]
  rfl

/-- A wing whose one version waits, with no MIRROR on its port, sends it. -/
theorem mirrorSend_one {h : Head} {w p : Wing} {seq : Nat} {record : Option FusedRec} {l : List Slot} {v : Slot} (hs : h.vit.slots = l ++ [v])
    (hvw : v.wing = w) (hvs : v.wseq = seq) (hvd : v.st = .dirty) (hl : ∀ x ∈ l, x.wing = w → isOwnDirty x.st = true → x.wseq ≠ seq)
    (hm : ∀ e ∈ h.vit.toMirror, e.1 ≠ w) (hf : ∀ f ∈ h.vit.fusedOut, f.1 ≠ w) (hp : anxPort h w = some p)
    (hq : (anxLink h p).queue.any (fun m => m.vc == 1) = false) :
    mirrorSend (mirrorWaits h w seq record) w = (anxRequest h w v.label.coll (mirrorOf v record)).2 := by
  have hready : mirrorReady (mirrorWaits h w seq record) w = true := by
    unfold mirrorReady
    rw [show anxPort (mirrorWaits h w seq record) w = some p from hp, Bool.and_eq_true]
    refine ⟨List.any_eq_true.mpr ⟨(w, seq), List.mem_append_right _ (List.mem_singleton_self _), beq_self_eq_true w⟩, ?_⟩
    show (!(anxLink h p).queue.any (fun m => m.vc == 1)) = true
    rw [hq]
    rfl
  have hfuel : (mirrorWaits h w seq record).vit.toMirror.length = h.vit.toMirror.length + 1 := by
    show (h.vit.toMirror ++ [(w, seq)]).length = _
    rw [List.length_append]
    rfl
  unfold mirrorSend
  rw [hfuel, mirrorLoop, if_pos hready, formMirror_one hs hvw hvs hvd hl hm hf]
  refine mirrorLoop_idle (mirrorReady_none ?_) _
  rw [(anxRequest_keeps ..).2.1]
  exact hm

/-- A wing with a MIRROR on its port lets its versions wait. -/
theorem mirrorSend_waits {h : Head} {w p : Wing} {seq : Nat} {record : Option FusedRec} (hp : anxPort h w = some p)
    (hq : (anxLink h p).queue.any (fun m => m.vc == 1) = true) : mirrorSend (mirrorWaits h w seq record) w = mirrorWaits h w seq record := by
  refine mirrorLoop_idle ?_ _
  unfold mirrorReady
  rw [show anxPort (mirrorWaits h w seq record) w = some p from hp]
  show (_ && !(anxLink h p).queue.any (fun m => m.vc == 1)) = false
  rw [hq, Bool.not_true, Bool.and_false]

theorem granulePlace_mirrors (s : State) (w p : Wing) (tag idx : Nat) (c : HostCmd) (n : Namespace) (hrun : Runs s.dev)
    (hc : tabGet? s.dev.foy.cmds (tagKey w tag) = some c) (x : Placeable s.dev c idx) (hf : c.fwd = false) (hn : nsGet? s.dev c.cap.nsid = some n)
    (ho : c.cap.op = .write ∨ c.compared = true) (hp : hasPeer s.dev = true) (hvia : c.via = none)
    (hport : anxPort s.dev (homeOf s.dev c.cap.nsid) = some p) (hq : (anxLink s.dev p).queue.any (fun m => m.vc == 1) = false)
    (hm : ∀ e ∈ s.dev.vit.toMirror, e.1 ≠ homeOf s.dev c.cap.nsid) (hfu : ∀ f ∈ s.dev.vit.fusedOut, f.1 ≠ homeOf s.dev c.cap.nsid)
    (hold : ∀ v ∈ s.dev.vit.slots, v.wing = homeOf s.dev c.cap.nsid → isOwnDirty v.st = true →
      v.wseq ≠ wseqNext s.dev (homeOf s.dev c.cap.nsid)) :
    Completes (.granulePlace w tag idx) s (fun h => ∃ t : Nat,
      let home := homeOf s.dev c.cap.nsid
      let g := c.cap.slba + idx
      let seq := wseqNext s.dev home
      let v := newSlot home .dirty c.cap.nsid g seq (hostLabel c.coll (writeData c idx)) (writeData c idx) false
      let b := AnxBody.mirror [entryOf v]
        (if c.cap.op = .compareWrite ∧ c.placed.length + 1 = c.cap.count then [fusedRecord c ⟨0, 0x00, false⟩] else [])
      h.vit.slots = s.dev.vit.slots ++ [v] ∧ AnxSent s.dev h p t c.coll b ∧
        h.vit.unacked = s.dev.vit.unacked ++ [⟨home, t, c.coll, b, false⟩] ∧ h.vit.toMirror = s.dev.vit.toMirror ∧
        tabGet? h.foy.cmds (tagKey w tag) = some { c with placed := c.placed ++ [(g, seq)] } ∧ h.mem = s.dev.mem ∧ h.cat = s.dev.cat) := by
  have heq : granulePlace s.dev w tag idx = setCmd (mirrorSend (mirrorWaits (dirtyPlaced s.dev c.cap.nsid (c.cap.slba + idx) (writeData c idx) c.coll)
      (homeOf s.dev c.cap.nsid) (wseqNext s.dev (homeOf s.dev c.cap.nsid)) (lastRecord c)) (homeOf s.dev c.cap.nsid)) (tagKey w tag)
      (placedOne c (c.cap.slba + idx) (wseqNext s.dev (homeOf s.dev c.cap.nsid))) := by
    refine (placeGranule_owned hc x hf hn ho).trans ?_
    rw [placeOwned_eq, hvia, show (none : Option (Wing × Nat)).isSome = false from rfl, placeDirty_mirrors hp]
  refine completes_of_eq (exec_granulePlace w tag idx) hrun heq ?_
  have hrec : (lastRecord c).toList = if c.cap.op = .compareWrite ∧ c.placed.length + 1 = c.cap.count then [fusedRecord c ⟨0, 0x00, false⟩] else [] := by
    unfold lastRecord
    simp only [decide_eq_true_eq]
    split <;> rfl
  have hd := frame_dirtyPlaced s.dev c.cap.nsid (c.cap.slba + idx) (writeData c idx) c.coll
  have hv := vit_dirtyPlaced s.dev c.cap.nsid (c.cap.slba + idx) (writeData c idx) c.coll
  generalize dirtyPlaced s.dev c.cap.nsid (c.cap.slba + idx) (writeData c idx) c.coll = g at *
  have hlink (v : Wing) : anxLink g v = anxLink s.dev v := by
    unfold anxLink
    rw [hv]
  have hgport : anxPort g (homeOf s.dev c.cap.nsid) = some p := (anxPort_frame hd (by decide) _).trans hport
  rw [mirrorSend_one (w := homeOf s.dev c.cap.nsid) (seq := wseqNext s.dev (homeOf s.dev c.cap.nsid)) (record := lastRecord c) (p := p)
    (v := placedSlot s.dev c.cap.nsid (c.cap.slba + idx) (writeData c idx) c.coll false) (congrArg VitState.slots hv) rfl rfl rfl hold (by rw [hv]; exact hm) (by rw [hv]; exact hfu) hgport (by rw [hlink]; exact hq)]
  have hsent := anxSent_anxRequest (h := g) (w := homeOf s.dev c.cap.nsid) c.coll
    (mirrorOf (placedSlot s.dev c.cap.nsid (c.cap.slba + idx) (writeData c idx) c.coll false) (lastRecord c)) hgport
  obtain ⟨hk1, hk2, hk3, -⟩ := anxRequest_keeps g (homeOf s.dev c.cap.nsid) c.coll
    (mirrorOf (placedSlot s.dev c.cap.nsid (c.cap.slba + idx) (writeData c idx) c.coll false) (lastRecord c))
  have hfr := frame_anxRequest g (homeOf s.dev c.cap.nsid) c.coll
    (mirrorOf (placedSlot s.dev c.cap.nsid (c.cap.slba + idx) (writeData c idx) c.coll false) (lastRecord c))
  refine ⟨(takeMtag g (homeOf s.dev c.cap.nsid)).1, ?_⟩
  dsimp only
  rw [← hrec]
  refine ⟨hk3.trans (congrArg VitState.slots hv), ?_, hk1.trans ?_, hk2.trans ?_, tabGet?_tabPut_same .., (hfr.1 .mem (by decide)).trans (hd.1 .mem (by decide)),
    (hfr.1 .cat (by decide)).trans (hd.1 .cat (by decide))⟩
  · exact anxSent_congr hlink (hd.1 .out (by decide)) (anxSends_frame hd (by decide) p) (fun _ => rfl) rfl hsent
  · rw [hv]
    rfl
  · rw [hv]

theorem granulePlace_waits (s : State) (w p : Wing) (tag idx : Nat) (c : HostCmd) (n : Namespace) (hrun : Runs s.dev)
    (hc : tabGet? s.dev.foy.cmds (tagKey w tag) = some c) (x : Placeable s.dev c idx) (hf : c.fwd = false) (hn : nsGet? s.dev c.cap.nsid = some n)
    (ho : c.cap.op = .write) (hp : hasPeer s.dev = true) (hvia : c.via = none)
    (hport : anxPort s.dev (homeOf s.dev c.cap.nsid) = some p) (hq : (anxLink s.dev p).queue.any (fun m => m.vc == 1) = true) :
    Completes (.granulePlace w tag idx) s (fun h =>
      let home := homeOf s.dev c.cap.nsid
      let seq := wseqNext s.dev home
      h.vit.toMirror = s.dev.vit.toMirror ++ [(home, seq)] ∧ h.out = s.dev.out ∧ h.vit.unacked = s.dev.vit.unacked ∧
        h.vit.slots = s.dev.vit.slots ++
          [newSlot home .dirty c.cap.nsid (c.cap.slba + idx) seq (hostLabel c.coll (writeData c idx)) (writeData c idx) false]) := by
  have heq : granulePlace s.dev w tag idx = setCmd (mirrorSend (mirrorWaits (dirtyPlaced s.dev c.cap.nsid (c.cap.slba + idx) (writeData c idx) c.coll)
      (homeOf s.dev c.cap.nsid) (wseqNext s.dev (homeOf s.dev c.cap.nsid)) (lastRecord c)) (homeOf s.dev c.cap.nsid)) (tagKey w tag)
      (placedOne c (c.cap.slba + idx) (wseqNext s.dev (homeOf s.dev c.cap.nsid))) := by
    refine (placeGranule_owned hc x hf hn (.inl ho)).trans ?_
    rw [placeOwned_eq, hvia, show (none : Option (Wing × Nat)).isSome = false from rfl, placeDirty_mirrors hp]
  refine completes_of_eq (exec_granulePlace w tag idx) hrun heq ?_
  have hd := frame_dirtyPlaced s.dev c.cap.nsid (c.cap.slba + idx) (writeData c idx) c.coll
  have hv := vit_dirtyPlaced s.dev c.cap.nsid (c.cap.slba + idx) (writeData c idx) c.coll
  generalize dirtyPlaced s.dev c.cap.nsid (c.cap.slba + idx) (writeData c idx) c.coll = g at *
  have hlink : anxLink g p = anxLink s.dev p := by
    unfold anxLink
    rw [hv]
  rw [mirrorSend_waits ((anxPort_frame hd (by decide) _).trans hport) (by rw [hlink]; exact hq)]
  have hg : g.vit.toMirror = s.dev.vit.toMirror ∧ g.vit.unacked = s.dev.vit.unacked ∧
      g.vit.slots = s.dev.vit.slots ++ [placedSlot s.dev c.cap.nsid (c.cap.slba + idx) (writeData c idx) c.coll false] := by
    rw [hv]
    exact ⟨rfl, rfl, rfl⟩
  exact ⟨congrArg (· ++ _) hg.1, hd.1 .out (by decide), hg.2.1, hg.2.2⟩

/-! ### Forwarded writes (R164) -/

/-- A forwarded write's granule in its STAGING slot. -/
def granuleStaged (h : Head) (key : Nat) (c : HostCmd) (idx : Nat) : Head :=
  setCmd (setSlots h (h.vit.slots ++ [newSlot (homeOf h c.cap.nsid) .staging c.cap.nsid (c.cap.slba + idx) key
    (hostLabel c.coll (writeData c idx)) (writeData c idx) false])) key (placedOne c (c.cap.slba + idx) key)

theorem stageGranule_last {h : Head} {key idx : Nat} {c : HostCmd} (hl : c.placed.length + 1 = c.cap.count) : stageGranule h key c idx =
    setCmd (anxRequest (granuleStaged h key c idx) (homeOf h c.cap.nsid) c.coll (.forward c.cap c.data)).2 key
      { placedOne c (c.cap.slba + idx) key with
        mtag := some (anxRequest (granuleStaged h key c idx) (homeOf h c.cap.nsid) c.coll (.forward c.cap c.data)).1 } := by
  refine (if_neg ?_ : (if (placedOne c (c.cap.slba + idx) key).placed.length < (placedOne c (c.cap.slba + idx) key).cap.count then
    granuleStaged h key c idx else _) = _)
  unfold placedOne
  rw [List.length_append, List.length_singleton, hl]
  exact Nat.lt_irrefl _

theorem granulePlace_forwards (s : State) (w p : Wing) (tag idx : Nat) (c : HostCmd) (hrun : Runs s.dev)
    (hc : tabGet? s.dev.foy.cmds (tagKey w tag) = some c) (x : Placeable s.dev c idx) (hf : c.fwd = true) (hl : c.placed.length + 1 = c.cap.count)
    (hport : anxPort s.dev (homeOf s.dev c.cap.nsid) = some p) :
    Completes (.granulePlace w tag idx) s (fun h => ∃ t : Nat,
      let home := homeOf s.dev c.cap.nsid
      let key := tagKey w tag
      h.vit.slots = s.dev.vit.slots ++ [newSlot home .staging c.cap.nsid (c.cap.slba + idx) key
          (hostLabel c.coll (writeData c idx)) (writeData c idx) false] ∧
        AnxSent s.dev h p t c.coll (.forward c.cap c.data) ∧
        h.vit.unacked = s.dev.vit.unacked ++ [⟨home, t, c.coll, .forward c.cap c.data, false⟩] ∧
        tabGet? h.foy.cmds key = some { c with placed := c.placed ++ [(c.cap.slba + idx, key)], mtag := some t } ∧ h.mem = s.dev.mem ∧
        h.cat = s.dev.cat) := by
  have heq := (placeGranule_held hc x).trans ((if_pos hf).trans (stageGranule_last hl))
  refine completes_of_eq (exec_granulePlace w tag idx) hrun heq ?_
  have hd : Frame [.vit, .foy, .evq] slotRegs s.dev (granuleStaged s.dev (tagKey w tag) c idx) :=
    ((frame_setSlots ..).mono (by decide) (by decide)).trans ((frame_setCmd ..).mono (by decide) (by decide))
  have hv : (granuleStaged s.dev (tagKey w tag) c idx).vit = { s.dev.vit with slots := s.dev.vit.slots ++
      [newSlot (homeOf s.dev c.cap.nsid) .staging c.cap.nsid (c.cap.slba + idx) (tagKey w tag) (hostLabel c.coll (writeData c idx)) (writeData c idx) false] } :=
    vit_setSlots ..
  generalize granuleStaged s.dev (tagKey w tag) c idx = g at *
  have hlink (v : Wing) : anxLink g v = anxLink s.dev v := by
    unfold anxLink
    rw [hv]
  have hsent := anxSent_anxRequest (h := g) c.coll (.forward c.cap c.data) ((anxPort_frame hd (by decide) _).trans hport)
  obtain ⟨hk1, -, hk3, -⟩ := anxRequest_keeps g (homeOf s.dev c.cap.nsid) c.coll (.forward c.cap c.data)
  have hfr := frame_anxRequest g (homeOf s.dev c.cap.nsid) c.coll (.forward c.cap c.data)
  refine ⟨(takeMtag g (homeOf s.dev c.cap.nsid)).1, hk3.trans (congrArg VitState.slots hv), ?_, hk1.trans ?_, tabGet?_tabPut_same ..,
    (hfr.1 .mem (by decide)).trans (hd.1 .mem (by decide)), (hfr.1 .cat (by decide)).trans (hd.1 .cat (by decide))⟩
  · exact anxSent_congr hlink (hd.1 .out (by decide)) (anxSends_frame hd (by decide) p) (fun _ => rfl) rfl hsent
  · rw [hv]
    rfl

/-! ### Compare and Write (R91) -/

theorem granulePlace_miscompares (s : State) (w : Wing) (tag idx : Nat) (c : HostCmd) (n : Namespace) (d : List Nat) (hrun : Runs s.dev)
    (hc : tabGet? s.dev.foy.cmds (tagKey w tag) = some c) (x : Placeable s.dev c idx) (hf : c.fwd = false) (hn : nsGet? s.dev c.cap.nsid = some n)
    (ho : c.cap.op = .compareWrite) (hcmp : c.compared = false) (hfail : readFailure s.dev c.cap c.coll n = none)
    (hread : readData s.dev c.cap c.coll n = some d) (hne : d ≠ c.data.take c.cap.count) :
    Completes (.granulePlace w tag idx) s (fun h =>
      tabGet? h.foy.cmds (tagKey w tag) = some { c with miscompare := true } ∧ h.vit = s.dev.vit ∧ h.out = s.dev.out ∧
        h.mem = s.dev.mem ∧ h.cat = s.dev.cat ∧ RegsBut s.dev h []) := by
  have hfirst : compareFirst s.dev c n = some { c with miscompare := true } := by
    unfold compareFirst
    rw [if_neg (by rw [ho, hcmp]; decide), hfail, hread]
    exact congrArg some (if_neg hne)
  have heq : granulePlace s.dev w tag idx = setCmd (dropAssembled s.dev c.cap n) (tagKey w tag) { c with miscompare := true } := by
    refine (placeGranule_held hc x).trans ?_
    rw [hf, if_neg (by decide), hn]
    dsimp only
    rw [hfirst]
    dsimp only
    rw [x.sound, hcmp, if_pos (by rfl), if_neg (by decide)]
    unfold endCompare reportMismatch
    dsimp only
    rw [if_pos ho, hf]
    rfl
  refine completes_of_eq (exec_granulePlace w tag idx) hrun heq ⟨tabGet?_tabPut_same .., rfl, rfl, rfl, rfl, regsBut_refl _ _⟩

/-- Settles O27, a lemma for each way a granule goes: committed at once (`commitVersion_newest`), in a MIRROR (`mirrorSend_one`), behind one
(`mirrorSend_waits`), to the owner (`stageGranule_last`), or nowhere. -/
theorem granulesArePlaced : Obligations.GranulesArePlaced := by
  unfold Obligations.GranulesArePlaced
  exact ⟨granulePlace_alone, granulePlace_mirrors, granulePlace_waits, granulePlace_forwards, granulePlace_miscompares⟩

end Sys2Proof.Laws
end

section
/-! Mirrors, the dirty quota and retained content (R144, R147, R148, R159, R177, R178, R254). -/

namespace Sys2Proof.Laws

open Machine Machine.Reg

/-! ### MIRROR and RESILVER -/

/-- A message put on a port after a change that touches neither the links nor what has been sent. -/
theorem anxSent_after {l : List Part} {t : List (Block × Nat)} {g g' : Head} (x : Frame l t g g') (ho : .out ∉ l) (ht : (Block.anx, 0x044) ∉ t)
    (hl : ∀ w, anxLink g' w = anxLink g w) (port : Wing) (mtag coll : Nat) (b : AnxBody) :
    AnxSent g (anxPut g' port mtag coll b) port mtag coll b :=
  anxSent_congr hl (x.1 .out ho) (anxSends_frame x ht port) (fun _ => rfl) rfl (anxSent_anxPut ..)

theorem anxLink_of_vit {h g : Head} {v : VitState} (hv : g.vit = v) (he : v.linkE = h.vit.linkE) (hw : v.linkW = h.vit.linkW) (w : Wing) :
    anxLink g w = anxLink h w := by
  unfold anxLink
  rw [hv, he, hw]

/-- Both write sequences raised above those of a message's entries. -/
def seqsRaised (h : Head) (es : List MirrorEntry) : Head := foldHead h es (fun h e => raiseSeq h e.wseq)

theorem frame_seqsRaised (h : Head) (es : List MirrorEntry) : Frame [] seqRegs h (seqsRaised h es) := by
  simp +decide only [seqsRaised, frame_foldHead, (frame_raiseSeq ..).iff, frame_refl, implies_true]

/-- A message's granules have room on every wing. -/
def hasRoom (h : Head) (es : List MirrorEntry) : Bool := !wings.any (fun w =>
  decide (slotLimit h w < slotsHeld h w + (es.filter (fun e => homeOf h e.nsid == w && !superseded h e)).length))

theorem entryOk_congr {h g : Head} (hc : g.cat = h.cat) (e : MirrorEntry) : entryOk g e = entryOk h e := by
  unfold entryOk nsGet?
  rw [hc]

theorem hasRoom_congr {h g : Head} (hc : g.cat = h.cat) (hv : g.vit = h.vit) (es : List MirrorEntry) : hasRoom g es = hasRoom h es := by
  unfold hasRoom slotLimit slotsHeld homeOf superseded nsGet?
  rw [hc, hv]

/-- What a head in a pair does with a MIRROR or RESILVER, by its mode, the labels and the room it has. -/
theorem mirrorMsg_eq {h : Head} (hp : inPair h = true) (port : Wing) (mtag coll : Nat) (es : List MirrorEntry) (fused : List FusedRec) :
    mirrorMsg h port mtag coll es fused =
      if inDump h = true then anxPut (seqsRaised h es) port mtag coll (.mirrorAck es.length .noResource)
      else if es.any (fun e => !entryOk h e) = true then anxPut (seqsRaised h es) port mtag coll (.mirrorAck es.length .labelFail)
      else if hasRoom h es = false then anxPut (seqsRaised h es) port mtag coll (.mirrorAck es.length .noResource)
      else anxPut (foldHead (foldHead (seqsRaised h es) es holdMirror) fused addFused) port mtag coll (.mirrorAck es.length .done) := by
  have hf := frame_seqsRaised h es
  have hdump : inDump (seqsRaised h es) = inDump h := by
    unfold inDump
    rw [hf.fget .east PWR_MODE_MODE (by decide) (by decide)]
  have hok : (fun e => !entryOk (seqsRaised h es) e) = (fun e => !entryOk h e) :=
    funext fun e => by rw [entryOk_congr (hf.1 .cat (by decide))]
  rw [← hdump, ← hok, ← hasRoom_congr (hf.1 .cat (by decide)) (hf.1 .vit (by decide))]
  unfold mirrorMsg hasRoom
  rw [if_neg (by rw [hp]; decide)]
  simp only [Bool.not_eq_false']
  rfl

theorem any_notOk {h : Head} {es : List MirrorEntry} (hok : ∀ e ∈ es, entryOk h e = true) : es.any (fun e => !entryOk h e) = false :=
  List.any_eq_false.mpr fun e he => by rw [hok e he]; decide

theorem hasRoom_of_le {h : Head} {es : List MirrorEntry} (hr : ∀ w, slotsHeld h w + es.length ≤ slotLimit h w) : hasRoom h es = true := by
  unfold hasRoom
  rw [Bool.not_eq_true', List.any_eq_false]
  intro w _
  rw [decide_eq_true_eq, Nat.not_lt]
  exact Nat.le_trans (Nat.add_le_add_left (List.length_filter_le ..) _) (hr w)

theorem hasRoom_of_lt {h : Head} {es : List MirrorEntry} {w : Wing}
    (hr : slotLimit h w < slotsHeld h w + (es.filter (fun e => homeOf h e.nsid == w && !superseded h e)).length) : hasRoom h es = false := by
  unfold hasRoom
  rw [Bool.not_eq_false', List.any_eq_true]
  exact ⟨w, by cases w <;> decide, decide_eq_true hr⟩

theorem mirrorMsg_takes {h : Head} {es : List MirrorEntry} (hp : inPair h = true) (hd : inDump h = false) (hok : ∀ e ∈ es, entryOk h e = true)
    (hr : hasRoom h es = true) (port : Wing) (mtag coll : Nat) (fused : List FusedRec) : mirrorMsg h port mtag coll es fused =
      anxPut (foldHead (foldHead (seqsRaised h es) es holdMirror) fused addFused) port mtag coll (.mirrorAck es.length .done) := by
  rw [mirrorMsg_eq hp, if_neg (by rw [hd]; decide), if_neg (by rw [any_notOk hok]; decide), if_neg (by rw [hr]; decide)]

/-- A MIRROR without a fused record and a RESILVER are taken alike. -/
theorem completes_mirrorMsg {s : State} {port : Wing} {mtag coll : Nat} {es : List MirrorEntry} {P : Head → Prop} {g : Head} (hrun : Runs s.dev)
    (heq : mirrorMsg s.dev port mtag coll es [] = g) (hP : P g) :
    ∀ c ∈ [Instr.anxMirror port mtag coll es [], .resilver port mtag coll es], Completes c s P := by
  simp only [List.forall_mem_cons, List.not_mem_nil, false_imp_iff, implies_true, and_true]
  exact ⟨completes_of_eq (exec_anxMirror ..) hrun heq hP, completes_of_eq (exec_resilver ..) hrun heq hP⟩

/-- The slots after an entry that is not lost is held: its older copies go, unless a newer one is here. -/
def mirrorHeld (h : Head) (e : MirrorEntry) : List Slot :=
  if superseded h e = true then h.vit.slots
  else h.vit.slots.filter (fun s => !(isGranule e.nsid e.granule s && (s.st == .mirror || s.st == .clean))) ++
    [newSlot (homeOf h e.nsid) .mirror e.nsid e.granule e.wseq e.label e.data true]

theorem vit_holdMirror {h : Head} {e : MirrorEntry} (hl : isLost h e = false) : (holdMirror h e).vit = { h.vit with slots := mirrorHeld h e } := by
  unfold holdMirror mirrorHeld
  rw [if_neg (by rw [hl]; decide)]
  split
  · rfl
  · exact vit_setSlots ..

theorem frame_holdMirror (h : Head) (e : MirrorEntry) : Frame [.vit, .evq] slotRegs h (holdMirror h e) := by
  simp +decide only [holdMirror, frame_ite, (frame_commitVersion ..).iff, (frame_setSlots ..).iff, frame_mk, true_or, or_true, and_self, frame_refl, ite_self]

/-- A granule is held as a mirror in the version of an entry or a newer one. -/
def HeldAsMirror (h : Head) (e : MirrorEntry) : Prop :=
  ∃ v ∈ h.vit.slots, v.st = .mirror ∧ v.nsid = e.nsid ∧ v.granule = e.granule ∧ seqNum e.wseq ≤ seqNum v.wseq

theorem heldAsMirror_of_superseded {h : Head} {e : MirrorEntry} (hs : superseded h e = true) : HeldAsMirror h e := by
  obtain ⟨v, hv, hx⟩ := List.any_eq_true.mp hs
  unfold isGranule at hx
  simp only [Bool.and_eq_true, beq_iff_eq, decide_eq_true_eq] at hx
  obtain ⟨⟨h1, h2, h3⟩, h4⟩ := hx
  exact ⟨v, hv, h1, h2, h3, h4⟩

theorem holdMirror_holds {h : Head} {e : MirrorEntry} (hl : isLost h e = false) : HeldAsMirror (holdMirror h e) e := by
  unfold HeldAsMirror
  rw [vit_holdMirror hl]
  unfold mirrorHeld
  dsimp only
  split
  · next hs => exact heldAsMirror_of_superseded hs
  · exact ⟨_, List.mem_append_right _ (List.mem_singleton_self _), rfl, rfl, rfl, Nat.le_refl _⟩

/-- Holding another entry leaves a held granule held: what takes its place is newer. -/
theorem heldAsMirror_holdMirror {h : Head} {e x : MirrorEntry} (hl : isLost h e = false) (hx : HeldAsMirror h x) : HeldAsMirror (holdMirror h e) x := by
  obtain ⟨v, hv, h1, h2, h3, h4⟩ := hx
  unfold HeldAsMirror
  rw [vit_holdMirror hl]
  unfold mirrorHeld
  dsimp only
  split
  · exact ⟨v, hv, h1, h2, h3, h4⟩
  · next hs =>
    by_cases hg : isGranule e.nsid e.granule v = true
    · have hlt : seqNum v.wseq < seqNum e.wseq := by
        refine Nat.lt_of_not_le fun hle => hs (List.any_eq_true.mpr ⟨v, hv, ?_⟩)
        rw [h1, hg, decide_eq_true hle]
        rfl
      unfold isGranule at hg
      simp only [Bool.and_eq_true, beq_iff_eq] at hg
      exact ⟨_, List.mem_append_right _ (List.mem_singleton_self _), rfl, hg.1.symm.trans h2, hg.2.symm.trans h3,
        Nat.le_trans h4 (Nat.le_of_lt hlt)⟩
    · refine ⟨v, List.mem_append_left _ (List.mem_filter.mpr ⟨hv, ?_⟩), h1, h2, h3, h4⟩
      rw [Bool.eq_false_iff.mpr hg]
      rfl

theorem mem_holdMirror {h : Head} {e : MirrorEntry} {v : Slot} (hl : isLost h e = false) (hv : v ∈ h.vit.slots) (hg : isGranule e.nsid e.granule v = false) :
    v ∈ (holdMirror h e).vit.slots := by
  rw [vit_holdMirror hl]
  unfold mirrorHeld
  dsimp only
  split
  · exact hv
  · exact List.mem_append_left _ (List.mem_filter.mpr ⟨hv, by rw [hg]; rfl⟩)

/-- The entries of a message are held, the slots of other granules stay. -/
theorem foldHead_holdMirror (es : List MirrorEntry) (h : Head) (hl : ∀ e ∈ es, isLost h e = false) :
    (∃ l, (foldHead h es holdMirror).vit = { h.vit with slots := l }) ∧ (∀ x, HeldAsMirror h x → HeldAsMirror (foldHead h es holdMirror) x) ∧
      (∀ e ∈ es, HeldAsMirror (foldHead h es holdMirror) e) ∧
      (∀ v ∈ h.vit.slots, (∀ e ∈ es, isGranule e.nsid e.granule v = false) → v ∈ (foldHead h es holdMirror).vit.slots) := by
  induction es generalizing h with
  | nil => exact ⟨⟨_, rfl⟩, fun _ hx => hx, fun _ he => absurd he List.not_mem_nil, fun _ hv _ => hv⟩
  | cons e es ih =>
    have he := hl e List.mem_cons_self
    have hlost (x : MirrorEntry) (hx : x ∈ es) : isLost (holdMirror h e) x = false := by
      unfold isLost
      rw [vit_holdMirror he]
      exact hl x (List.mem_cons_of_mem _ hx)
    obtain ⟨⟨l, h1⟩, h2, h3, h4⟩ := ih (holdMirror h e) hlost
    refine ⟨⟨l, ?_⟩, fun x hx => h2 x (heldAsMirror_holdMirror he hx), List.forall_mem_cons.mpr ⟨h2 e (holdMirror_holds he), h3⟩, fun v hv hg => ?_⟩
    · exact h1.trans (by rw [vit_holdMirror he])
    · obtain ⟨hg1, hg2⟩ := List.forall_mem_cons.mp hg
      exact h4 v (mem_holdMirror he hv hg1) hg2

theorem mirrorMsg_holds (s : State) (port : Wing) (mtag coll : Nat) (es : List MirrorEntry) (hrun : Runs s.dev) (hp : inPair s.dev = true)
    (hd : inDump s.dev = false) (hes : ∀ e ∈ es, entryOk s.dev e = true ∧ isLost s.dev e = false)
    (hr : ∀ w, slotsHeld s.dev w + es.length ≤ slotLimit s.dev w) :
    ∀ c ∈ [Instr.anxMirror port mtag coll es [], .resilver port mtag coll es], Completes c s (fun h =>
      (∀ e ∈ es, ∃ v ∈ h.vit.slots, v.st = .mirror ∧ v.nsid = e.nsid ∧ v.granule = e.granule ∧ seqNum e.wseq ≤ seqNum v.wseq) ∧
        (∀ v ∈ s.dev.vit.slots, (∀ e ∈ es, isGranule e.nsid e.granule v = false) → v ∈ h.vit.slots) ∧
        AnxSent s.dev h port mtag coll (.mirrorAck es.length .done) ∧ RegsBut s.dev h (slotRegs ++ seqRegs) ∧ h.mem = s.dev.mem ∧
        h.cat = s.dev.cat ∧ h.foy = s.dev.foy) := by
  refine completes_mirrorMsg hrun (mirrorMsg_takes hp hd (fun e he => (hes e he).1) (hasRoom_of_le hr) port mtag coll []) ?_
  have hf := frame_seqsRaised s.dev es
  have hv : (seqsRaised s.dev es).vit = s.dev.vit := hf.1 .vit (by decide)
  obtain ⟨⟨l, h1⟩, -, h3, h4⟩ := foldHead_holdMirror es (seqsRaised s.dev es) (fun e he => by
    unfold isLost
    rw [hv]
    exact (hes e he).2)
  have hfold : Frame [.vit, .evq] slotRegs (seqsRaised s.dev es) (foldHead (seqsRaised s.dev es) es holdMirror) := by
    simp only [frame_foldHead frame_holdMirror, frame_refl]
  have hall := (hf.mono (l := [.vit, .evq]) (t := slotRegs ++ seqRegs) (by decide) (by decide)).trans (hfold.mono (by decide) (by decide))
  rw [hv] at h1 h4
  unfold HeldAsMirror at h3
  have hput (g : Head) : anxPut (foldHead g [] addFused) port mtag coll (.mirrorAck es.length .done) = anxPut g port mtag coll (.mirrorAck es.length .done) := rfl
  rw [hput]
  generalize foldHead (seqsRaised s.dev es) es holdMirror = g at *
  have hq := anxStep_anxPut g port mtag coll (.mirrorAck es.length .done)
  have hall' := (hall.mono (l := [.vit, .evq, .out]) (t := slotRegs ++ seqRegs) (by decide) (fun _ h => h)).trans (hq.frame.mono (by decide) (by simp))
  rw [hq.slots]
  exact ⟨h3, h4, anxSent_after hall (by decide) (by decide) (anxLink_of_vit h1 rfl rfl) .., hall'.2, hall'.1 .mem (by decide),
    hall'.1 .cat (by decide), hall'.1 .foy (by decide)⟩

/-- A refused message leaves all but the sequences as it was. -/
theorem mirrorMsg_refused (s : State) (port : Wing) (mtag coll : Nat) (es : List MirrorEntry) (st : Status) (hrun : Runs s.dev)
    (heq : mirrorMsg s.dev port mtag coll es [] = anxPut (seqsRaised s.dev es) port mtag coll (.mirrorAck es.length st)) :
    ∀ c ∈ [Instr.anxMirror port mtag coll es [], .resilver port mtag coll es], Completes c s (fun h =>
      h.vit.slots = s.dev.vit.slots ∧ AnxSent s.dev h port mtag coll (.mirrorAck es.length st) ∧ RegsBut s.dev h seqRegs ∧
        h.foy = s.dev.foy) := by
  refine completes_mirrorMsg hrun heq ?_
  have hf := frame_seqsRaised s.dev es
  have hv : (seqsRaised s.dev es).vit = s.dev.vit := hf.1 .vit (by decide)
  have hq := anxStep_anxPut (seqsRaised s.dev es) port mtag coll (.mirrorAck es.length st)
  have hall := (hf.mono (l := [.vit, .out]) (t := seqRegs) (by decide) (fun _ h => h)).trans (hq.frame.mono (by decide) (by simp))
  exact ⟨hq.slots.trans (congrArg VitState.slots hv), anxSent_after hf (by decide) (by decide) (anxLink_of_vit hv rfl rfl) .., hall.2,
    hall.1 .foy (by decide)⟩

theorem mirrorMsg_labelFail (s : State) (port : Wing) (mtag coll : Nat) (es : List MirrorEntry) (hrun : Runs s.dev) (hp : inPair s.dev = true)
    (hd : inDump s.dev = false) (hbad : ∃ e ∈ es, entryOk s.dev e = false) :
    ∀ c ∈ [Instr.anxMirror port mtag coll es [], .resilver port mtag coll es], Completes c s (fun h =>
      h.vit.slots = s.dev.vit.slots ∧ AnxSent s.dev h port mtag coll (.mirrorAck es.length .labelFail) ∧ RegsBut s.dev h seqRegs ∧
        h.foy = s.dev.foy) := by
  refine mirrorMsg_refused s port mtag coll es .labelFail hrun ?_
  obtain ⟨e, he, hx⟩ := hbad
  rw [mirrorMsg_eq hp, if_neg (by rw [hd]; decide), if_pos (List.any_eq_true.mpr ⟨e, he, by rw [hx]; rfl⟩)]

theorem mirrorMsg_noResource (s : State) (port w : Wing) (mtag coll : Nat) (es : List MirrorEntry) (hrun : Runs s.dev) (hp : inPair s.dev = true)
    (hok : ∀ e ∈ es, entryOk s.dev e = true)
    (hr : slotLimit s.dev w < slotsHeld s.dev w + (es.filter (fun e => homeOf s.dev e.nsid == w && !superseded s.dev e)).length) :
    ∀ c ∈ [Instr.anxMirror port mtag coll es [], .resilver port mtag coll es], Completes c s (fun h =>
      h.vit.slots = s.dev.vit.slots ∧ AnxSent s.dev h port mtag coll (.mirrorAck es.length .noResource) ∧ RegsBut s.dev h seqRegs ∧
        h.foy = s.dev.foy) := by
  refine mirrorMsg_refused s port mtag coll es .noResource hrun ?_
  rw [mirrorMsg_eq hp, any_notOk hok, if_neg (c := false = true) (by decide), if_pos (hasRoom_of_lt hr), ite_self]

theorem frame_addFused (h : Head) (r : FusedRec) : Frame [.foy] [(.foq, FOQ_FUSED_RECORDS.off % 4096)] h (addFused h r) := by
  simp +decide only [addFused, setFused, frame_rules, frame_mk, true_or, or_true, and_self, frame_refl]

theorem anxMirror_fused (s : State) (port : Wing) (mtag coll : Nat) (r : FusedRec) (hrun : Runs s.dev) (hp : inPair s.dev = true)
    (hd : inDump s.dev = false) (hr : ∀ w, slotsHeld s.dev w ≤ slotLimit s.dev w) :
    Completes (.anxMirror port mtag coll [] [r]) s (fun h =>
      r ∈ h.foy.fused ∧ (∀ x ∈ s.dev.foy.fused, samePair r.host r.nsid r.slba r.cid x = false → x ∈ h.foy.fused) ∧
        AnxSent s.dev h port mtag coll (.mirrorAck 0 .done) ∧ h.vit.slots = s.dev.vit.slots) := by
  have heq : mirrorMsg s.dev port mtag coll [] [r] = anxPut (addFused s.dev r) port mtag coll (.mirrorAck 0 .done) :=
    (mirrorMsg_takes hp hd (fun e he => absurd he List.not_mem_nil) (hasRoom_of_le hr) port mtag coll [r])
  refine completes_of_eq (exec_anxMirror ..) hrun heq ?_
  have hq := anxStep_anxPut (addFused s.dev r) port mtag coll (.mirrorAck 0 .done)
  have hfoy : (anxPut (addFused s.dev r) port mtag coll (.mirrorAck 0 .done)).foy.fused =
      s.dev.foy.fused.filter (fun x => !samePair r.host r.nsid r.slba r.cid x) ++ [r] := congrArg FoyState.fused (hq.frame.1 .foy (by decide))
  rw [hfoy]
  exact ⟨List.mem_append_right _ (List.mem_singleton_self _), fun x hx hs => List.mem_append_left _ (List.mem_filter.mpr ⟨hx, by rw [hs]; rfl⟩),
    anxSent_after (frame_addFused s.dev r) (by decide) (by decide) (fun _ => rfl) .., hq.slots⟩

/-! ### MIRROR_ACK and MIRROR_RESEND -/

theorem mirrorAck_commits {h : Head} {mtag : Nat} {u : Unacked} {es : List MirrorEntry} {fr : List FusedRec} (hu : unackedOf h mtag = some u)
    (hb : u.body = .mirror es fr) (latency : Nat) : mirrorAck h mtag .done latency =
      foldHead (fmax (dropUnacked h mtag) u.wing ANX_COMMIT_MAX_NS latency) es (fun h e => commitVersion h e.nsid e.granule e.wseq) := by
  unfold mirrorAck
  rw [hu]
  dsimp only
  rw [hb]
  rfl

/-- A slot that a commit leaves was there, committed no less. -/
theorem mem_commitVersion {h : Head} {nsid granule seq : Nat} {x : Slot} (hx : x ∈ (commitVersion h nsid granule seq).vit.slots) :
    ∃ y ∈ h.vit.slots, x.st = y.st ∧ (y.committed = true → x.committed = true) ∧ (isVersion nsid granule seq x = true → x.committed = true) ∧
      (isGranule nsid granule x = true → x.st ≠ .clean) ∧ (∀ a b, isGranule a b x = isGranule a b y) ∧
      (∀ a b c, isVersion a b c x = isVersion a b c y) := by
  rw [slots_commitVersion] at hx
  obtain ⟨z, hz, hkeep, rfl⟩ := mem_afterCommit.mp hx
  obtain ⟨y, hy, rfl⟩ := List.mem_map.mp hz
  generalize madeOld (h.vit.slots.map (markCommitted nsid granule seq)) nsid granule (markCommitted nsid granule seq y) = b at *
  obtain ⟨h1, h2, h3, h4⟩ := supersede_keeps b (markCommitted nsid granule seq y)
  have hver (a b' c : Nat) : isVersion a b' c (supersede b (markCommitted nsid granule seq y)) = isVersion a b' c y := by
    unfold supersede markCommitted
    split <;> split <;> rfl
  have hgr (a b' : Nat) : isGranule a b' (markCommitted nsid granule seq y) = isGranule a b' y := by
    unfold markCommitted
    split <;> rfl
  have hst : (markCommitted nsid granule seq y).st = y.st := by
    unfold markCommitted
    split <;> rfl
  refine ⟨y, hy, h1.trans hst, fun hc => ?_, fun hv => ?_, fun hg hcl => ?_, fun a b' => (h4 a b').trans (hgr a b'), hver⟩
  · rw [h2]
    unfold markCommitted
    split
    · rfl
    · exact hc
  · rw [hver] at hv
    rw [h2]
    unfold markCommitted
    rw [if_pos hv]
  · rw [h4] at hg
    rw [h1] at hcl
    rw [hg, hcl] at hkeep
    exact absurd hkeep (by simp)

theorem mirrorAck_done (s : State) (mtag latency : Nat) (u : Unacked) (es : List MirrorEntry) (fr : List FusedRec) (hrun : Runs s.dev)
    (hu : unackedOf s.dev mtag = some u) (hb : u.body = .mirror es fr) :
    Completes (.mirrorAck mtag .done latency) s (fun h =>
      (∀ e ∈ es, ∀ v ∈ h.vit.slots, isVersion e.nsid e.granule e.wseq v = true → v.committed = true) ∧
        (∀ e ∈ es, ∀ v ∈ h.vit.slots, isGranule e.nsid e.granule v = true → v.st ≠ .clean) ∧
        h.vit.unacked = s.dev.vit.unacked.filter (fun x => x.mtag != mtag) ∧
        fget h u.wing ANX_COMMIT_MAX_NS = max (fget s.dev u.wing ANX_COMMIT_MAX_NS) (min latency (2 ^ 32 - 1)) ∧ h.out = s.dev.out ∧
        RegsBut s.dev h ((.anx, 0x068) :: slotRegs)) := by
  refine completes_of_eq (exec_mirrorAck ..) hrun (mirrorAck_commits hu hb latency) ?_
  have hlt : max (fget s.dev u.wing ANX_COMMIT_MAX_NS) (min latency (2 ^ 32 - 1)) < 2 ^ 32 :=
    Nat.max_lt.mpr ⟨fget_lt s.dev u.wing ANX_COMMIT_MAX_NS 0 0, Nat.lt_of_le_of_lt (Nat.min_le_right ..) (by decide)⟩
  have hval : fget (fmax (dropUnacked s.dev mtag) u.wing ANX_COMMIT_MAX_NS latency) u.wing ANX_COMMIT_MAX_NS =
      max (fget s.dev u.wing ANX_COMMIT_MAX_NS) (min latency (2 ^ 32 - 1)) :=
    bget_bput_same_of_lt _ _ _ _ _ _ _ _ _ (by decide) (by decide) hlt
  have hf : Frame [.vit] [(.anx, 0x068)] s.dev (fmax (dropUnacked s.dev mtag) u.wing ANX_COMMIT_MAX_NS latency) :=
    (Frame.mono ((frame_mk s.dev (by simp)).2 (frame_refl [.vit] [(.anx, 0x068)] s.dev)) (by decide) (by decide)).trans
      ((frame_fmax (dropUnacked s.dev mtag) u.wing 0 0 ANX_COMMIT_MAX_NS latency).mono (by decide) (by decide))
  have hun : (fmax (dropUnacked s.dev mtag) u.wing ANX_COMMIT_MAX_NS latency).vit.unacked = s.dev.vit.unacked.filter (fun x => x.mtag != mtag) := rfl
  generalize fmax (dropUnacked s.dev mtag) u.wing ANX_COMMIT_MAX_NS latency = g at *
  have hc : Frame [.vit, .evq] slotRegs g (foldHead g es (fun h e => commitVersion h e.nsid e.granule e.wseq)) := by
    simp only [frame_foldHead fun (h : Head) (e : MirrorEntry) => frame_commitVersion h e.nsid e.granule e.wseq, frame_refl]
  have hall := (hf.mono (l := [.vit, .evq]) (t := (.anx, 0x068) :: slotRegs) (by decide) (by decide)).trans (hc.mono (by decide) (by decide))
  refine ⟨fun e he => ?_, fun e he => ?_, ?_, (hc.fget u.wing ANX_COMMIT_MAX_NS (by decide) (by decide) 0 0).trans hval, hall.1 .out (by decide), hall.2⟩
  · refine foldHead_reaches (fun g => ∀ v ∈ g.vit.slots, isVersion e.nsid e.granule e.wseq v = true → v.committed = true) (fun k a hk v hv hx => ?_)
      (fun k v hv hx => ?_) es he g
    · obtain ⟨y, hy, -, hcm, -, -, -, hver⟩ := mem_commitVersion hv
      exact hcm (hk y hy ((hver ..).symm.trans hx))
    · obtain ⟨y, hy, -, -, hcm, -⟩ := mem_commitVersion hv
      exact hcm hx
  · refine foldHead_reaches (fun g => ∀ v ∈ g.vit.slots, isGranule e.nsid e.granule v = true → v.st ≠ .clean) (fun k a hk v hv hx => ?_)
      (fun k v hv hx => ?_) es he g
    · obtain ⟨y, hy, hst, -, -, -, hgr, -⟩ := mem_commitVersion hv
      rw [hst]
      exact hk y hy ((hgr ..).symm.trans hx)
    · obtain ⟨y, hy, -, -, -, hcl, -⟩ := mem_commitVersion hv
      exact hcl hx
  · refine (foldHead_frame (fun g => g.vit.unacked) (fun k e => ?_) es g).trans hun
    unfold commitVersion
    rw [vit_setSlots]

theorem mirrorAck_resilvered (s : State) (mtag latency : Nat) (u : Unacked) (es : List MirrorEntry) (hrun : Runs s.dev)
    (hu : unackedOf s.dev mtag = some u) (hb : u.body = .resilver es) :
    Completes (.mirrorAck mtag .done latency) s (fun h =>
      h = { s.dev with vit := { s.dev.vit with unacked := s.dev.vit.unacked.filter (fun x => x.mtag != mtag) } }) := by
  have heq : mirrorAck s.dev mtag .done latency = dropUnacked s.dev mtag := by
    unfold mirrorAck
    rw [hu]
    dsimp only
    rw [hb]
    rfl
  exact completes_of_eq (exec_mirrorAck ..) hrun heq rfl

/-- A message marked as refused for want of room, or no longer. -/
def refusedSet (h : Head) (mtag : Nat) (on : Bool) : Head := { h with vit := { h.vit with refused := setIn h.vit.refused mtag on } }

theorem frame_refusedSet (h : Head) (mtag : Nat) (on : Bool) : Frame [.vit] [] h (refusedSet h mtag on) := (frame_mk h (by simp)).2 (frame_refl _ _ h)

theorem refused_refusedSet (h : Head) (mtag : Nat) (on : Bool) : (refusedSet h mtag on).vit.refused.contains mtag = on := contains_setIn_same ..

theorem mirrorAck_noResource (s : State) (mtag latency : Nat) (u : Unacked) (es : List MirrorEntry) (fr : List FusedRec) (hrun : Runs s.dev)
    (hu : unackedOf s.dev mtag = some u) (hb : u.body = .mirror es fr) :
    Completes (.mirrorAck mtag .noResource latency) s (fun h =>
      h.vit.refused.contains mtag = true ∧ h.vit.slots = s.dev.vit.slots ∧ h.vit.unacked = s.dev.vit.unacked ∧
        EventSet h u.wing Ev.VIT_MIRROR_NACK ∧ RegsBut s.dev h [(.vit, 0x010)]) := by
  have heq : mirrorAck s.dev mtag .noResource latency =
      raise (refusedSet s.dev mtag true) u.wing Ev.VIT_MIRROR_NACK := by
    unfold mirrorAck
    rw [hu]
    dsimp only
    rw [hb]
    rfl
  refine completes_of_eq (exec_mirrorAck ..) hrun heq ?_
  have hr := frame_raise (refusedSet s.dev mtag true) u.wing 0 Ev.VIT_MIRROR_NACK
  have hv : (raise (refusedSet s.dev mtag true) u.wing Ev.VIT_MIRROR_NACK).vit = (refusedSet s.dev mtag true).vit := hr.1 .vit (by decide)
  rw [hv]
  exact ⟨refused_refusedSet .., rfl, rfl, raiseAt_sets _ _ _ (by decide), hr.2⟩

theorem mirrorResend_resends (s : State) (p : Wing) (mtag : Nat) (u : Unacked) (hrun : Runs s.dev) (hu : unackedOf s.dev mtag = some u)
    (hm : s.dev.vit.refused.contains mtag = true) (hp : anxPort s.dev u.wing = some p) :
    Completes (.mirrorResend mtag) s (fun h =>
      AnxSent s.dev h p u.mtag u.coll u.body ∧ h.vit.refused.contains mtag = false ∧
        h.vit.unacked = s.dev.vit.unacked ∧ h.vit.slots = s.dev.vit.slots ∧ RegsBut s.dev h []) := by
  have hf := frame_refusedSet s.dev mtag false
  have heq : mirrorResend s.dev mtag = anxPut (refusedSet s.dev mtag false) p u.mtag u.coll u.body := by
    unfold mirrorResend
    rw [hu]
    dsimp only
    rw [if_pos hm]
    change anxSend (refusedSet s.dev mtag false) u.wing u.mtag u.coll u.body = _
    unfold anxSend
    rw [anxPort_frame hf (by decide), hp]
  refine completes_of_eq (exec_mirrorResend mtag) hrun heq ?_
  have hq := anxStep_anxPut (refusedSet s.dev mtag false) p u.mtag u.coll u.body
  have href := refused_refusedSet s.dev mtag false
  refine ⟨anxSent_after hf (by decide) (by decide) (fun _ => rfl) .., ?_, hq.unacked, hq.slots, hq.frame.2⟩
  rw [hq.vit]
  exact href

end Sys2Proof.Laws
end

section
/-! The dirty quota's shrink, retained content and lost slots (R147, R148, R177, R178), and O28. -/

namespace Sys2Proof.Laws

open Machine Machine.Reg

/-! ### The shrink of the quota -/

theorem frame_setShrinking (h : Head) (on : Bool) : Frame [] [(.vit, 0x040)] h (setShrinking h on) := by
  simp +decide only [setShrinking, frame_rules, frame_refl]

theorem fget_setShrinking (h : Head) (on : Bool) (v : Wing) : fget (setShrinking h on) v VIT_CTRL_SHRINKING = ofBool on := by
  have hon : ofBool on < 2 := by cases on <;> decide
  unfold setShrinking
  generalize ofBool on = n at *
  cases v <;>
  · simp only [fget_eq_bget, fset_regs]
    simp (disch := decide) [VIT_CTRL_SHRINKING]
    exact Nat.le_of_lt_succ hon

/-- The state of a shrink as it starts. -/
def shrinkState (h : Head) : VitState := { h.vit with restoring := false, shrinkAt := fget (setShrinking h true) .east VIT_QUOTA_NOW_QUOTA_MIB }

theorem shrinkStart_eq {h : Head} (hs : shrinking h = false) (w : Wing) :
    shrinkStart h w = raise { setShrinking h true with vit := shrinkState h } w Ev.VIT_SHRINK_START := by
  unfold shrinkStart
  rw [hs]
  rfl

theorem shrinkStart_starts (s : State) (ini : Initiator) (w : Wing) (hrun : Runs s.dev) (hw : Writable s.dev ini (pg .vit w) 0x040)
    (hs : shrinking s.dev = false) :
    Completes (.shrinkStart ini w) s (fun h =>
      (∀ v, fget h v VIT_CTRL_SHRINKING = 1) ∧ h.vit.shrinkAt = fget s.dev .east VIT_QUOTA_NOW_QUOTA_MIB ∧ h.vit.restoring = false ∧
        EventSet h w Ev.VIT_SHRINK_START ∧ RegsBut s.dev h [(.vit, 0x010), (.vit, 0x040)] ∧ h.vit.slots = s.dev.vit.slots) := by
  have heq : shrinkStartCmd s.dev ini w =
      raise { setShrinking (reply s.dev false) true with vit := shrinkState (reply s.dev false) } w Ev.VIT_SHRINK_START := by
    unfold shrinkStartCmd
    rw [withWrite_ok s.dev ini _ _ _ hw]
    exact shrinkStart_eq (h := reply s.dev false) hs w
  refine completes_of_eq (exec_shrinkStart ini w) hrun heq ?_
  have hset := frame_setShrinking (reply s.dev false) true
  have hval := fget_setShrinking (reply s.dev false) true
  have hat : (shrinkState (reply s.dev false)).shrinkAt = fget s.dev .east VIT_QUOTA_NOW_QUOTA_MIB :=
    (hset.fget .east VIT_QUOTA_NOW_QUOTA_MIB (by decide) (by decide) 0 0)
  have hslots : (shrinkState (reply s.dev false)).slots = s.dev.vit.slots := rfl
  have hres : (shrinkState (reply s.dev false)).restoring = false := rfl
  have hf : Frame [.bus, .vit] [(.vit, 0x040)] s.dev { setShrinking (reply s.dev false) true with vit := shrinkState (reply s.dev false) } := by
    simp +decide only [(frame_setShrinking ..).iff, frame_rules, frame_mk, true_or, or_true, and_self, frame_refl]
  have hval' (v : Wing) : fget { setShrinking (reply s.dev false) true with vit := shrinkState (reply s.dev false) } v VIT_CTRL_SHRINKING = 1 := hval v
  have hvit : Head.vit { setShrinking (reply s.dev false) true with vit := shrinkState (reply s.dev false) } = shrinkState (reply s.dev false) := rfl
  generalize ({ setShrinking (reply s.dev false) true with vit := shrinkState (reply s.dev false) } : Head) = g at *
  have hr := frame_raise g w 0 Ev.VIT_SHRINK_START
  have hv : (raise g w Ev.VIT_SHRINK_START).vit = shrinkState (reply s.dev false) := (hr.1 .vit (by decide)).trans hvit
  have hall := (hf.mono (l := [.bus, .vit, .evq]) (t := [(.vit, 0x010), (.vit, 0x040)]) (by decide) (by decide)).trans (hr.mono (by decide) (by decide))
  rw [hv]
  exact ⟨fun v => (hr.fget v VIT_CTRL_SHRINKING (by decide) (by decide) 0 0).trans (hval' v), hat, hres, raiseAt_sets _ _ _ (by decide), hall.2, hslots⟩

theorem shrinkRestore_ends (s : State) (ini : Initiator) (w : Wing) (hrun : Runs s.dev) (hw : Writable s.dev ini (pg .vit w) 0x040)
    (hs : shrinking s.dev = true) :
    Completes (.shrinkRestore ini w) s (fun h =>
      (∀ v, fget h v VIT_CTRL_SHRINKING = 0) ∧ RegsBut s.dev h [(.vit, 0x040)] ∧
        SameButRegs { reply s.dev false with vit := { s.dev.vit with restoring := true } } h) := by
  have heq : shrinkRestoreCmd s.dev ini w = setShrinking { reply s.dev false with vit := { s.dev.vit with restoring := true } } false := by
    unfold shrinkRestoreCmd
    rw [withWrite_ok s.dev ini _ _ _ hw]
    exact if_pos hs
  refine completes_of_eq (exec_shrinkRestore ini w) hrun heq ⟨fget_setShrinking _ false, ?_, rfl⟩
  exact (frame_setShrinking { reply s.dev false with vit := { s.dev.vit with restoring := true } } false).2

/-! ### Long waits on the quota -/

theorem longWait_iff (h : Head) (c : HostCmd) : longWait h c = true ↔
    c.overLong = false ∧ c.overSince.any (fun f => decide (f + 1024 ≤ frameCount h)) = true := by
  unfold longWait
  rw [Bool.and_eq_true, Bool.not_eq_true']
  cases c.overSince <;> rfl

theorem overQuotaLong_raises (s : State) (hrun : Runs s.dev)
    (hx : ∃ c ∈ s.dev.foy.waiting, c.overLong = false ∧ ∃ f, c.overSince = some f ∧ f + 1024 ≤ frameCount s.dev) :
    Completes .overQuotaLong s (fun h =>
      EventSet h .east Ev.VIT_OVER_QUOTA ∧ RegsBut s.dev h [(.vit, 0x010)] ∧
        SameButRegs { s.dev with foy := { s.dev.foy with waiting := s.dev.foy.waiting.map (fun c =>
          if c.overLong = false ∧ c.overSince.any (fun f => decide (f + 1024 ≤ frameCount s.dev)) = true then { c with overLong := true }
          else c) } } h) := by
  obtain ⟨c, hc, h1, f, h2, h3⟩ := hx
  have hlong : longWait s.dev c = true := (longWait_iff s.dev c).mpr ⟨h1, by rw [h2]; exact decide_eq_true h3⟩
  have hmem : c ∈ s.dev.foy.waiting.filter (longWait s.dev) := List.mem_filter.mpr ⟨hc, hlong⟩
  refine completes_of_eq exec_overQuotaLong hrun rfl ?_
  unfold overQuotaLong
  simp only [longWait_iff]
  have hf : Frame [.foy] [] s.dev { s.dev with foy := { s.dev.foy with waiting := s.dev.foy.waiting.map (fun c =>
      if c.overLong = false ∧ c.overSince.any (fun f => decide (f + 1024 ≤ frameCount s.dev)) = true then { c with overLong := true }
      else c) } } := (frame_mk s.dev (by simp)).2 (frame_refl _ _ s.dev)
  generalize ({ s.dev with foy := { s.dev.foy with waiting := s.dev.foy.waiting.map (fun c =>
      if c.overLong = false ∧ c.overSince.any (fun f => decide (f + 1024 ≤ frameCount s.dev)) = true then { c with overLong := true }
      else c) } } : Head) = g at *
  have hr : Frame [.evq] [(.vit, 0x010)] g (foldHead g (s.dev.foy.waiting.filter (longWait s.dev)) (fun h _ => raiseCounted h .east Ev.VIT_OVER_QUOTA)) :=
    (frame_foldHead fun k _ => frame_raiseCounted k .east 0 Ev.VIT_OVER_QUOTA).2 (frame_refl _ _ g)
  refine ⟨foldHead_reaches (fun k => EventSet k .east Ev.VIT_OVER_QUOTA) (fun _ _ _ => eventSet_raiseCounted_same (by decide))
    (fun _ => eventSet_raiseCounted_same (by decide)) _ hmem g, ?_, hr.sameButRegs⟩
  exact ((hf.mono (l := [.foy, .evq]) (t := [(.vit, 0x010)]) (by decide) (by decide)).trans (hr.mono (by decide) (by decide))).2

/-! ### Retained content -/

theorem frame_clearRetained (h : Head) : Frame [.vit] [(.vit, 0x068), (.vit, VIT_RETAIN_RETAINED_MIB.off % 4096)] h (clearRetained h) := by
  simp +decide only [clearRetained, frame_foldHead, frame_rules, frame_mk, true_or, or_true, and_self, frame_refl, implies_true]

theorem vit_clearRetained (h : Head) : (clearRetained h).vit = { h.vit with retained := false } := rfl

theorem fget_clearRetained (h : Head) (v : Wing) : fget (clearRetained h) v VIT_RETAIN_RETAINED = 0 := by
  obtain ⟨g, hg⟩ : ∃ g, clearRetained h =
      fset (fset (fset (fset g .east VIT_RETAIN_RETAINED 0) .east VIT_RETAIN_RETAINED_MIB 0) .west VIT_RETAIN_RETAINED 0) .west VIT_RETAIN_RETAINED_MIB 0 :=
    ⟨_, rfl⟩
  rw [hg]
  cases v <;>
  · simp only [fget_eq_bget, fset_regs]
    simp (disch := decide) [VIT_RETAIN_RETAINED, VIT_RETAIN_RETAINED_MIB]

/-- A retained slot taken back as DIRTY. -/
def adopted (v : Slot) : Slot := if v.retained && isPairDirty v.st then { v with st := .dirty, committed := true, retained := false } else v

theorem slots_adoptSlots (h : Head) : (adoptSlots h (·.retained)).vit.slots = newestOnly (h.vit.slots.map adopted) := by
  unfold adoptSlots
  dsimp only
  rw [vit_setSlots, show (foldHead h ((h.vit.slots.filter (fun s => s.retained && isPairDirty s.st)).map (·.wseq)) raiseSeq).vit = h.vit from
    foldHead_frame Head.vit (fun g n => (frame_raiseSeq g n).1 .vit (by decide)) _ h]
  rfl

theorem adopted_keeps (v : Slot) : (adopted v).nsid = v.nsid ∧ (adopted v).granule = v.granule ∧ (adopted v).wseq = v.wseq ∧
    isPairDirty (adopted v).st = isPairDirty v.st := by
  unfold adopted
  split
  · next hv => exact ⟨rfl, rfl, rfl, (Bool.and_eq_true_iff.mp hv).2.symm⟩
  · exact ⟨rfl, rfl, rfl, rfl⟩

/-- The newest retained version of a granule is adopted. -/
theorem adopted_newest {l : List Slot} {v : Slot} (hv : v ∈ l) (hr : v.retained = true) (hd : isPairDirty v.st = true)
    (hnew : ∀ y ∈ l, isGranule v.nsid v.granule y = true → isPairDirty y.st = true → seqNum y.wseq ≤ seqNum v.wseq) :
    { v with st := .dirty, committed := true, retained := false } ∈ newestOnly (l.map adopted) := by
  have ha : adopted v = { v with st := .dirty, committed := true, retained := false } := if_pos (by rw [hr, hd]; rfl)
  refine List.mem_filter.mpr ⟨List.mem_map.mpr ⟨v, hv, ha⟩, Bool.or_eq_true_iff.mpr (.inr (List.all_eq_true.mpr fun x hx => ?_))⟩
  obtain ⟨y, hy, rfl⟩ := List.mem_map.mp hx
  obtain ⟨h1, h2, h3, h4⟩ := adopted_keeps y
  rw [h1, h2, h3, h4, Bool.not_eq_true']
  refine Bool.eq_false_iff.mpr fun hc => ?_
  simp only [Bool.and_eq_true, decide_eq_true_eq] at hc
  obtain ⟨⟨⟨hyd, hn⟩, hg⟩, hlt⟩ := hc
  exact absurd (hnew y hy (by unfold isGranule; rw [hn, hg]; rfl) hyd) (Nat.not_le.mpr hlt)

theorem not_retained_newestOnly {l : List Slot} {v : Slot} (hv : v ∈ newestOnly (l.map adopted)) (hr : v.retained = true) : isPairDirty v.st = false := by
  obtain ⟨y, -, rfl⟩ := List.mem_map.mp (List.mem_filter.mp hv).1
  unfold adopted at hr ⊢
  split at hr
  · exact absurd hr Bool.false_ne_true
  · next hy =>
    rw [if_neg hy]
    rw [hr, Bool.true_and] at hy
    exact Bool.eq_false_iff.mpr hy

theorem retainAdopt_adopts (s : State) (ini : Initiator) (w : Wing) (hrun : Runs s.dev) (hw : Writable s.dev ini (pg .vit w) 0x068)
    (hp : pairState s.dev = 0) (hr : s.dev.vit.retained = true) :
    Completes (.retainAdopt ini w) s (fun h =>
      (∀ v ∈ s.dev.vit.slots, v.retained = true → isPairDirty v.st = true →
          (∀ y ∈ s.dev.vit.slots, isGranule v.nsid v.granule y = true → isPairDirty y.st = true → seqNum y.wseq ≤ seqNum v.wseq) →
          { v with st := .dirty, committed := true, retained := false } ∈ h.vit.slots) ∧
        (∀ v ∈ h.vit.slots, v.retained = true → isPairDirty v.st = false) ∧
        (∀ v, fget h v VIT_RETAIN_RETAINED = 0) ∧ h.vit.retained = false ∧ h.cat = s.dev.cat ∧ h.out = s.dev.out) := by
  have heq : Machine.retainAdopt s.dev ini w = clearRetained (adoptSlots (reply s.dev false) (·.retained)) := by
    unfold Machine.retainAdopt
    rw [withWrite_ok s.dev ini _ _ _ hw]
    unfold adoptEffect
    exact (if_neg (not_not.mpr hp)).trans (if_pos hr)
  refine completes_of_eq (exec_retainAdopt ini w) hrun heq ?_
  have hslots := slots_adoptSlots (reply s.dev false)
  have hf := frame_adoptSlots (reply s.dev false) (·.retained)
  have hcat : (adoptSlots (reply s.dev false) (·.retained)).cat = s.dev.cat := hf.1 .cat (by decide)
  have hout : (adoptSlots (reply s.dev false) (·.retained)).out = s.dev.out := hf.1 .out (by decide)
  generalize adoptSlots (reply s.dev false) (·.retained) = g at *
  have hc := frame_clearRetained g
  rw [vit_clearRetained, hslots]
  exact ⟨fun v hv hvr hvd => adopted_newest hv hvr hvd, fun v hv hvr => not_retained_newestOnly hv hvr, fget_clearRetained g, rfl,
    (hc.1 .cat (by decide)).trans hcat, (hc.1 .out (by decide)).trans hout⟩

theorem retainDiscard_frees (s : State) (ini : Initiator) (w : Wing) (hrun : Runs s.dev) (hw : Writable s.dev ini (pg .vit w) 0x068)
    (hr : s.dev.vit.retained = true) :
    Completes (.retainDiscard ini w) s (fun h =>
      h.vit.slots = s.dev.vit.slots.filter (fun v => !v.retained) ∧ (∀ v, fget h v VIT_RETAIN_RETAINED = 0) ∧
        h.vit.retained = false ∧ h.cat = s.dev.cat ∧ h.out = s.dev.out) := by
  have heq : Machine.retainDiscard s.dev ini w = clearRetained (freeSlots (reply s.dev false) (·.retained)) := by
    unfold Machine.retainDiscard
    rw [withWrite_ok s.dev ini _ _ _ hw]
    exact if_pos hr
  refine completes_of_eq (exec_retainDiscard ini w) hrun heq ?_
  have hslots : (freeSlots (reply s.dev false) (·.retained)).vit.slots = s.dev.vit.slots.filter (fun v => !v.retained) :=
    congrArg VitState.slots (vit_setSlots ..)
  have hf := frame_freeSlots (reply s.dev false) (·.retained)
  have hcat : (freeSlots (reply s.dev false) (·.retained)).cat = s.dev.cat := hf.1 .cat (by decide)
  have hout : (freeSlots (reply s.dev false) (·.retained)).out = s.dev.out := hf.1 .out (by decide)
  generalize freeSlots (reply s.dev false) (·.retained) = g at *
  have hc := frame_clearRetained g
  exact ⟨hslots, fget_clearRetained g, rfl, (hc.1 .cat (by decide)).trans hcat, (hc.1 .out (by decide)).trans hout⟩

/-! ### Slots lost -/

theorem slotRetired_shows (h : Head) (w : Wing) : (slotRetired h w).vit.slots = h.vit.slots ∧ (slotRetired h w).vit.lost = h.vit.lost ∧
    slotLimit (slotRetired h w) w = slotLimit h w - 1 := by
  refine ⟨?_, ?_, ?_⟩
  · cases w <;> rfl
  · cases w <;> rfl
  · cases w <;> exact (Nat.sub_sub ..).symm

theorem slotEcc_found {h : Head} {w : Wing} {nsid granule seq : Nat} {v : Slot}
    (hf : h.vit.slots.find? (fun v => v.wing == w && isVersion nsid granule seq v) = some v) : slotEcc h w nsid granule seq =
      raise (slotRetired (freeSlots (slotLost h v) (fun v => v.wing == w && isVersion nsid granule seq v)) w) w Ev.VIT_SLOT_ECC := by
  rw [slotEcc_eq, hf]

theorem vit_slotLost (h : Head) (v : Slot) : (slotLost h v).vit = { h.vit with lost := (
    if isOwnDirty v.st = true ∧ hasPeer h = true ∧ h.vit.toMirror.contains (v.wing, v.wseq) = false
      then h.vit.lost ++ [(v.nsid, v.granule, v.wseq)] else h.vit.lost) } := by
  unfold slotLost
  cases isOwnDirty v.st with
  | false => rfl
  | true => cases h.vit.toMirror.contains (v.wing, v.wseq) <;> cases hasPeer h <;> rfl

theorem slotEcc_retires (s : State) (w : Wing) (nsid granule seq : Nat) (v : Slot) (hrun : Runs s.dev)
    (hf : s.dev.vit.slots.find? (fun v => v.wing == w && isVersion nsid granule seq v) = some v) :
    Completes (.slotEcc w nsid granule seq) s (fun h =>
      h.vit.slots = s.dev.vit.slots.filter (fun v => !(v.wing == w && isVersion nsid granule seq v)) ∧
        slotLimit h w = slotLimit s.dev w - 1 ∧
        h.vit.lost = (if isOwnDirty v.st = true ∧ hasPeer s.dev = true ∧ s.dev.vit.toMirror.contains (w, seq) = false
          then s.dev.vit.lost ++ [(nsid, granule, seq)] else s.dev.vit.lost) ∧
        EventSet h w Ev.VIT_SLOT_ECC ∧ h.out = s.dev.out ∧ h.cat = s.dev.cat) := by
  refine completes_of_eq (exec_slotEcc ..) hrun (slotEcc_found hf) ?_
  have hv : v.wing = w ∧ v.nsid = nsid ∧ v.granule = granule ∧ v.wseq = seq := by
    have hx := List.find?_some hf
    unfold isVersion at hx
    simp only [Bool.and_eq_true, beq_iff_eq] at hx
    exact ⟨hx.1, hx.2.1.1, hx.2.1.2, hx.2.2⟩
  obtain ⟨h1, h2, h3, h4⟩ := hv
  have hlost := vit_slotLost s.dev v
  rw [h1, h2, h3, h4] at hlost
  have hl := frame_slotLost s.dev v
  generalize slotLost s.dev v = g at *
  have hfree : (freeSlots g (fun v => v.wing == w && isVersion nsid granule seq v)).vit =
      { g.vit with slots := g.vit.slots.filter (fun v => !(v.wing == w && isVersion nsid granule seq v)) } := vit_setSlots ..
  have hff := frame_freeSlots g (fun v => v.wing == w && isVersion nsid granule seq v)
  generalize freeSlots g (fun v => v.wing == w && isVersion nsid granule seq v) = k at *
  obtain ⟨hr1, hr2, hr3⟩ := slotRetired_shows k w
  have hrk : Frame [.vit] [] k (slotRetired k w) := (frame_mk k (by simp)).2 (frame_refl _ _ k)
  have hr := frame_raise (slotRetired k w) w 0 Ev.VIT_SLOT_ECC
  have hvit : (raise (slotRetired k w) w Ev.VIT_SLOT_ECC).vit = (slotRetired k w).vit := hr.1 .vit (by decide)
  have hlim : slotLimit (raise (slotRetired k w) w Ev.VIT_SLOT_ECC) w = slotLimit (slotRetired k w) w := by
    unfold slotLimit
    rw [hvit]
  have hlim' : slotLimit k w = slotLimit s.dev w := by
    unfold slotLimit
    rw [hfree, hlost]
  have hall := (((hl.mono (l := [.foy, .vit, .evq]) (t := (.vit, 0x010) :: slotRegs) (by decide) (by decide)).trans (hff.mono (by decide) (by decide))).trans
    (hrk.mono (by decide) (by simp))).trans (hr.mono (by decide) (by decide))
  refine ⟨?_, hlim.trans (hr3.trans (congrArg (· - 1) hlim')), ?_, raiseAt_sets _ _ _ (by decide), hall.1 .out (by decide), hall.1 .cat (by decide)⟩
  · rw [hvit, hr1, hfree, hlost]
  · rw [hvit, hr2, hfree, hlost]

/-- The slots with an entry whose own version was lost, before it is committed again. -/
def regained (h : Head) (e : MirrorEntry) : List Slot :=
  h.vit.slots ++ [newSlot (homeOf h e.nsid) .dirty e.nsid e.granule e.wseq e.label e.data false]

/-- A version that was lost and comes back from the peer. -/
def lostBack (h : Head) (e : MirrorEntry) : Head :=
  { h with vit := { h.vit with lost := h.vit.lost.filter (fun v => v != (e.nsid, e.granule, e.wseq)) } }

theorem holdMirror_lost {h : Head} {e : MirrorEntry} (hl : isLost h e = true) :
    holdMirror h e = commitVersion (setSlots (lostBack h e) (regained h e)) e.nsid e.granule e.wseq := by
  unfold holdMirror
  rw [if_pos hl]
  rfl

/-- With no own dirty copy beside it, a version that comes back is committed and not old. -/
theorem regained_committed {h : Head} {e : MirrorEntry} (hno : ∀ v ∈ h.vit.slots, isGranule e.nsid e.granule v = true → isOwnDirty v.st = false) :
    newSlot (homeOf h e.nsid) .dirty e.nsid e.granule e.wseq e.label e.data true ∈
      afterCommit ((regained h e).map (markCommitted e.nsid e.granule e.wseq)) e.nsid e.granule := by
  have hmark (x : Slot) : (markCommitted e.nsid e.granule e.wseq x).st = x.st ∧ (markCommitted e.nsid e.granule e.wseq x).wseq = x.wseq ∧
      isGranule e.nsid e.granule (markCommitted e.nsid e.granule e.wseq x) = isGranule e.nsid e.granule x := by
    unfold markCommitted
    split <;> exact ⟨rfl, rfl, rfl⟩
  have hnew : newSlot (homeOf h e.nsid) .dirty e.nsid e.granule e.wseq e.label e.data true ∈ (regained h e).map (markCommitted e.nsid e.granule e.wseq) :=
    List.mem_map.mpr ⟨_, List.mem_append_right _ (List.mem_singleton_self _), if_pos (by unfold isVersion newSlot; simp)⟩
  have hold : madeOld ((regained h e).map (markCommitted e.nsid e.granule e.wseq)) e.nsid e.granule
      (newSlot (homeOf h e.nsid) .dirty e.nsid e.granule e.wseq e.label e.data true) = false := by
    unfold madeOld outdated
    rw [Bool.and_eq_false_iff, Bool.and_eq_false_iff]
    right
    right
    refine List.any_eq_false.mpr fun x hx => ?_
    obtain ⟨y, hy, rfl⟩ := List.mem_map.mp hx
    obtain ⟨m1, m2, m3⟩ := hmark y
    change ¬ (isOwnDirty (markCommitted e.nsid e.granule e.wseq y).st && (markCommitted e.nsid e.granule e.wseq y).committed &&
      isGranule e.nsid e.granule (markCommitted e.nsid e.granule e.wseq y) && decide (seqNum e.wseq < seqNum (markCommitted e.nsid e.granule e.wseq y).wseq)) = true
    rw [m1, m2, m3]
    rcases List.mem_append.mp hy with hy | hy
    · cases hg : isGranule e.nsid e.granule y with
      | false => simp
      | true => simp [hno y hy hg]
    · rw [List.mem_singleton.mp hy]
      simp [newSlot]
  refine mem_afterCommit.mpr ⟨_, hnew, ?_, ?_⟩
  · rw [hold]
    unfold newSlot
    simp
  · rw [hold]
    rfl

theorem resilver_regains (s : State) (port : Wing) (mtag coll : Nat) (e : MirrorEntry) (hrun : Runs s.dev) (hp : inPair s.dev = true)
    (hd : inDump s.dev = false) (hok : entryOk s.dev e = true) (hl : isLost s.dev e = true) (hr : ∀ w, slotsHeld s.dev w < slotLimit s.dev w)
    (hno : ∀ v ∈ s.dev.vit.slots, isGranule e.nsid e.granule v = true → isOwnDirty v.st = false) :
    Completes (.resilver port mtag coll [e]) s (fun h =>
      newSlot (homeOf s.dev e.nsid) .dirty e.nsid e.granule e.wseq e.label e.data true ∈ h.vit.slots ∧
        h.vit.lost.contains (e.nsid, e.granule, e.wseq) = false ∧ AnxSent s.dev h port mtag coll (.mirrorAck 1 .done)) := by
  have heq : mirrorMsg s.dev port mtag coll [e] [] = anxPut (holdMirror (seqsRaised s.dev [e]) e) port mtag coll (.mirrorAck 1 .done) :=
    mirrorMsg_takes hp hd (List.forall_mem_singleton.mpr hok) (hasRoom_of_le hr) port mtag coll []
  refine completes_of_eq (exec_resilver ..) hrun heq ?_
  have hf := frame_seqsRaised s.dev [e]
  have hv : (seqsRaised s.dev [e]).vit = s.dev.vit := hf.1 .vit (by decide)
  have hc : (seqsRaised s.dev [e]).cat = s.dev.cat := hf.1 .cat (by decide)
  generalize seqsRaised s.dev [e] = g at *
  have hlost : isLost g e = true := by
    unfold isLost
    rw [hv]
    exact hl
  have hhome : homeOf g e.nsid = homeOf s.dev e.nsid := by
    unfold homeOf nsGet?
    rw [hc]
  have hnew := regained_committed (h := g) (e := e) (by rw [hv]; exact hno)
  rw [hhome] at hnew
  have hslots : (holdMirror g e).vit.slots = afterCommit ((regained g e).map (markCommitted e.nsid e.granule e.wseq)) e.nsid e.granule := by
    rw [holdMirror_lost hlost, slots_commitVersion, vit_setSlots]
  have hvit : ∃ l, (holdMirror g e).vit = { s.dev.vit with slots := l, lost := s.dev.vit.lost.filter (fun v => v != (e.nsid, e.granule, e.wseq)) } := by
    rw [holdMirror_lost hlost]
    unfold commitVersion
    dsimp only
    rw [vit_setSlots, vit_setSlots]
    unfold lostBack
    rw [hv]
    exact ⟨_, rfl⟩
  obtain ⟨l, hvit⟩ := hvit
  have hfr := (hf.mono (l := [.vit, .evq]) (t := slotRegs ++ seqRegs) (by decide) (by decide)).trans ((frame_holdMirror g e).mono (by decide) (by decide))
  generalize holdMirror g e = k at *
  have hq := anxStep_anxPut k port mtag coll (.mirrorAck 1 .done)
  refine ⟨by rw [hq.slots, hslots]; exact hnew, ?_, anxSent_after hfr (by decide) (by decide) (anxLink_of_vit hvit rfl rfl) ..⟩
  rw [hq.vit, hvit]
  simp

/-- Settles O28, a lemma for each clause: an entry is held in its newest version (`foldHead_holdMirror`), a commit only adds commits
(`mem_commitVersion`), an adopted slot is its granule's newest (`adopted_newest`). -/
theorem mirrorsQuotaAndRetention : Obligations.MirrorsQuotaAndRetention := by
  unfold Obligations.MirrorsQuotaAndRetention
  exact ⟨mirrorMsg_holds, anxMirror_fused, mirrorMsg_labelFail, mirrorMsg_noResource, mirrorAck_done, mirrorAck_resilvered, mirrorAck_noResource,
    mirrorResend_resends, shrinkStart_starts, shrinkRestore_ends, overQuotaLong_raises, retainAdopt_adopts, retainDiscard_frees, slotEcc_retires,
    resilver_regains⟩

end Sys2Proof.Laws
end

section
/-! The coherence stream, and FORWARDs that the owner runs (R107, R144, R164 to R166, R311). -/

namespace Sys2Proof.Laws

open Machine Machine.Reg

/-! ### CAT_UPDATE and CAT_ACK -/

/-- A CAT_UPDATE noted as applied. -/
def appliedNoted (h : Head) (mtag : Nat) : Head := { h with vit := { h.vit with applied := h.vit.applied ++ [mtag] } }

/-- An acknowledgement held for the reads of reclaimed halls (R311). -/
def ackHeld (h : Head) (port : Wing) (mtag : Nat) (halls : List Nat) : Head :=
  { h with vit := { h.vit with ackWait := h.vit.ackWait ++ [(port, mtag, halls)] } }

/-- An update that was applied: recorded, and acknowledged at once or later. -/
def updateRecorded (j : Head) (port : Wing) (mtag coll : Nat) (es : List CatEntry) : Head :=
  if (reclaimedIn es).filter (readsHall (appliedNoted j mtag)) = [] then anxPut (appliedNoted j mtag) port mtag coll (.catAck .done)
  else ackHeld (appliedNoted j mtag) port mtag ((reclaimedIn es).filter (readsHall (appliedNoted j mtag)))

theorem catUpdateMsg_new {h : Head} {mtag : Nat} (hp : inPair h = true) (hn : h.vit.applied.contains mtag = false) (port : Wing) (coll : Nat)
    (es : List CatEntry) : catUpdateMsg h port mtag coll es =
      match applyAll (foldHead h (es.filter carriesSeq) (fun h e => raiseSeq h e.wseq)) es with
      | none => anxPut (raise (foldHead h (es.filter carriesSeq) (fun h e => raiseSeq h e.wseq)) port Ev.ANX_COHERENCE_FAULT) port mtag coll (.catAck .checkFail)
      | some (g, l) => updateRecorded (journalAdd g l) port mtag coll es := by
  refine (if_neg ?_).trans ((if_neg ?_).trans ?_)
  · rw [hp]
    decide
  · rw [hn]
    decide
  · rfl
theorem readsHall_appliedNoted (j : Head) (mtag : Nat) : readsHall (appliedNoted j mtag) = readsHall j := rfl

theorem updateRecorded_acks {j : Head} {mtag : Nat} {es : List CatEntry} (hh : (reclaimedIn es).filter (readsHall j) = []) (port : Wing) (coll : Nat) :
    updateRecorded j port mtag coll es = anxPut (appliedNoted j mtag) port mtag coll (.catAck .done) := by
  unfold updateRecorded
  rw [readsHall_appliedNoted]
  exact if_pos hh

theorem updateRecorded_holds {j : Head} {mtag : Nat} {es : List CatEntry} (hh : (reclaimedIn es).filter (readsHall j) ≠ []) (port : Wing) (coll : Nat) :
    updateRecorded j port mtag coll es = ackHeld (appliedNoted j mtag) port mtag ((reclaimedIn es).filter (readsHall j)) := by
  unfold updateRecorded
  rw [readsHall_appliedNoted]
  exact if_neg hh

/-- What the acknowledgement of an applied update leaves. -/
theorem updateRecorded_shows (j : Head) (port : Wing) (mtag coll : Nat) (es : List CatEntry) :
    (updateRecorded j port mtag coll es).cat = j.cat ∧ (updateRecorded j port mtag coll es).cur = j.cur ∧
      (updateRecorded j port mtag coll es).vit.slots = j.vit.slots ∧ (updateRecorded j port mtag coll es).vit.applied = j.vit.applied ++ [mtag] ∧
      ((reclaimedIn es).filter (readsHall j) = [] → AnxSent j (updateRecorded j port mtag coll es) port mtag coll (.catAck .done) ∧
        (updateRecorded j port mtag coll es).vit.ackWait = j.vit.ackWait) ∧
      ((reclaimedIn es).filter (readsHall j) ≠ [] → (updateRecorded j port mtag coll es).out = j.out ∧
        (updateRecorded j port mtag coll es).vit.ackWait = j.vit.ackWait ++ [(port, mtag, (reclaimedIn es).filter (readsHall j))]) := by
  by_cases hh : (reclaimedIn es).filter (readsHall j) = []
  · rw [updateRecorded_acks hh]
    have hk : Frame [.vit] [] j (appliedNoted j mtag) := (frame_mk j (by simp)).2 (frame_refl _ _ j)
    have hq := anxStep_anxPut (appliedNoted j mtag) port mtag coll (.catAck .done)
    have hv : (anxPut (appliedNoted j mtag) port mtag coll (.catAck .done)).vit.applied = j.vit.applied ++ [mtag] ∧
        (anxPut (appliedNoted j mtag) port mtag coll (.catAck .done)).vit.ackWait = j.vit.ackWait := by
      rw [hq.vit]
      exact ⟨rfl, rfl⟩
    exact ⟨hq.frame.1 .cat (by decide), hq.frame.1 .cur (by decide), hq.slots, hv.1,
      fun _ => ⟨anxSent_after hk (by decide) (by decide) (fun _ => rfl) .., hv.2⟩, fun hne => absurd hh hne⟩
  · rw [updateRecorded_holds hh]
    exact ⟨rfl, rfl, rfl, rfl, fun he => absurd he hh, fun _ => ⟨rfl, rfl⟩⟩

theorem catUpdate_applies (s : State) (port : Wing) (mtag coll : Nat) (es : List CatEntry) (g : Head) (l : List JournalEntry) (hrun : Runs s.dev)
    (hp : inPair s.dev = true) (hn : s.dev.vit.applied.contains mtag = false)
    (ha : applyAll (foldHead s.dev (es.filter carriesSeq) (fun h e => raiseSeq h e.wseq)) es = some (g, l)) :
    Completes (.catUpdate port mtag coll es) s (fun h =>
      let j := journalAdd g l
      let halls := (reclaimedIn es).filter (readsHall j)
      h.cat = j.cat ∧ h.cur = j.cur ∧ h.vit.slots = j.vit.slots ∧ h.vit.applied = j.vit.applied ++ [mtag] ∧
        (halls = [] → AnxSent j h port mtag coll (.catAck .done) ∧ h.vit.ackWait = j.vit.ackWait) ∧
        (halls ≠ [] → h.out = j.out ∧ h.vit.ackWait = j.vit.ackWait ++ [(port, mtag, halls)])) := by
  have heq : catUpdateMsg s.dev port mtag coll es = updateRecorded (journalAdd g l) port mtag coll es := by
    rw [catUpdateMsg_new hp hn, ha]
  exact completes_of_eq (exec_catUpdate ..) hrun heq (updateRecorded_shows (journalAdd g l) port mtag coll es)

theorem catUpdate_refuses (s : State) (port : Wing) (mtag coll : Nat) (es : List CatEntry) (hrun : Runs s.dev) (hp : inPair s.dev = true)
    (hn : s.dev.vit.applied.contains mtag = false)
    (ha : applyAll (foldHead s.dev (es.filter carriesSeq) (fun h e => raiseSeq h e.wseq)) es = none) :
    Completes (.catUpdate port mtag coll es) s (fun h =>
      AnxSent s.dev h port mtag coll (.catAck .checkFail) ∧ EventSet h port Ev.ANX_COHERENCE_FAULT ∧
        h.cat = s.dev.cat ∧ h.vit.slots = s.dev.vit.slots ∧ RegsBut s.dev h ((.anx, 0x010) :: seqRegs)) := by
  have heq : catUpdateMsg s.dev port mtag coll es =
      anxPut (raise (foldHead s.dev (es.filter carriesSeq) (fun h e => raiseSeq h e.wseq)) port Ev.ANX_COHERENCE_FAULT) port mtag coll (.catAck .checkFail) := by
    rw [catUpdateMsg_new hp hn, ha]
  refine completes_of_eq (exec_catUpdate ..) hrun heq ?_
  have hf : Frame [] seqRegs s.dev (foldHead s.dev (es.filter carriesSeq) (fun h e => raiseSeq h e.wseq)) := by
    simp +decide only [frame_foldHead, (frame_raiseSeq ..).iff, frame_refl, implies_true]
  generalize foldHead s.dev (es.filter carriesSeq) (fun h e => raiseSeq h e.wseq) = g at *
  have hr := frame_raise g port 0 Ev.ANX_COHERENCE_FAULT
  have hset : EventSet (raise g port Ev.ANX_COHERENCE_FAULT) port Ev.ANX_COHERENCE_FAULT := raiseAt_sets _ _ _ (by decide)
  have hfr := (hf.mono (l := [.evq]) (t := (.anx, 0x010) :: seqRegs) (by decide) (by decide)).trans (hr.mono (by decide) (by decide))
  generalize raise g port Ev.ANX_COHERENCE_FAULT = k at *
  have hq := anxStep_anxPut k port mtag coll (.catAck .checkFail)
  have hall := (hfr.mono (l := [.evq, .vit, .out]) (t := (.anx, 0x010) :: seqRegs) (by decide) (fun _ h => h)).trans (hq.frame.mono (by decide) (by simp))
  have hv : k.vit = s.dev.vit := hfr.1 .vit (by decide)
  exact ⟨anxSent_after hfr (by decide) (by decide) (anxLink_of_vit hv rfl rfl) .., (hq.frame.eventSet port Ev.ANX_COHERENCE_FAULT (by decide) 0).mpr hset,
    hall.1 .cat (by decide), hq.slots.trans (congrArg VitState.slots hv), hall.2⟩

/-- Accession of a namespace is stopped. -/
def accStopped (n : Namespace) : Namespace := { n with accStop := true }

theorem catAckMsg_eq {h : Head} {mtag : Nat} {u : Unacked} {es : List CatEntry} (hu : unackedOf h mtag = some u) (hb : u.body = .catUpdate es) (st : Status) :
    catAckMsg h mtag st = if st = .done then freeUpdated (dropUnacked h mtag) es
      else foldHead (dropUnacked h mtag) es (fun h e => nsUpd h e.nsid accStopped) := by
  unfold catAckMsg
  rw [hu]
  dsimp only
  rw [hb]
  rfl

theorem vit_freeUpdated (h : Head) (es : List CatEntry) : (freeUpdated h es).vit = { h.vit with slots := h.vit.slots.filter (fun v => !(isOwnDirty v.st &&
    es.any (fun e => e.wseq != 0 && !e.flags.testBit 1 && e.nsid == v.nsid && e.granule == v.granule && e.wseq == v.wseq))) } := by
  unfold freeUpdated freeSlots
  dsimp only
  rw [vit_setSlots, foldHead_frame Head.vit (fun g e => (frame_updHall g _ _).1 .vit (by decide))]

theorem catAck_frees (s : State) (mtag : Nat) (u : Unacked) (es : List CatEntry) (hrun : Runs s.dev) (hu : unackedOf s.dev mtag = some u)
    (hb : u.body = .catUpdate es) :
    Completes (.catAck mtag .done) s (fun h =>
      h.vit.slots = s.dev.vit.slots.filter (fun v => !(isOwnDirty v.st && es.any (fun e =>
        e.wseq != 0 && !e.flags.testBit 1 && e.nsid == v.nsid && e.granule == v.granule && e.wseq == v.wseq))) ∧
        h.vit.unacked = s.dev.vit.unacked.filter (fun x => x.mtag != mtag) ∧ h.cat = s.dev.cat ∧ h.out = s.dev.out) := by
  refine completes_of_eq (exec_catAck ..) hrun ((catAckMsg_eq hu hb .done).trans (if_pos rfl)) ?_
  have hf := frame_freeUpdated (dropUnacked s.dev mtag) es
  rw [vit_freeUpdated]
  exact ⟨rfl, rfl, hf.1 .cat (by decide), hf.1 .out (by decide)⟩

theorem catAck_stops (s : State) (mtag : Nat) (u : Unacked) (es : List CatEntry) (hrun : Runs s.dev) (hu : unackedOf s.dev mtag = some u)
    (hb : u.body = .catUpdate es) :
    Completes (.catAck mtag .checkFail) s (fun h =>
      (∀ e ∈ es, ∀ n, nsGet? h e.nsid = some n → n.accStop = true) ∧ h.vit.slots = s.dev.vit.slots ∧ h.out = s.dev.out ∧
        RegsBut s.dev h []) := by
  refine completes_of_eq (exec_catAck ..) hrun ((catAckMsg_eq hu hb .checkFail).trans (if_neg (by decide))) ?_
  have hfold : Frame [.cat] [] (dropUnacked s.dev mtag)
      (foldHead (dropUnacked s.dev mtag) es (fun h e => nsUpd h e.nsid accStopped)) :=
    (frame_foldHead fun k e => (frame_mk k (by simp)).2 (frame_refl _ _ k)).2 (frame_refl _ _ _)
  refine ⟨fun e he => ?_, by rw [show (foldHead (dropUnacked s.dev mtag) es (fun h e => nsUpd h e.nsid accStopped)).vit = (dropUnacked s.dev mtag).vit from hfold.1 .vit (by decide)]; rfl, hfold.1 .out (by decide), hfold.2⟩
  refine foldHead_reaches (fun g => ∀ n, nsGet? g e.nsid = some n → n.accStop = true) (fun k a hk n hn => ?_) (fun k n hn => ?_) es he _
  · rw [nsGet?_nsUpd k a.nsid e.nsid accStopped (fun _ => rfl)] at hn
    obtain ⟨m, hm, rfl⟩ := Option.map_eq_some_iff.mp hn
    split
    · rfl
    · exact hk m hm
  · rw [nsGet?_nsUpd k e.nsid e.nsid accStopped (fun _ => rfl)] at hn
    obtain ⟨m, hm, rfl⟩ := Option.map_eq_some_iff.mp hn
    rw [if_pos (nsGet?_nsid hm)]
    rfl

/-! ### A FORWARD that begins -/

/-- The registers that a host tag's use may change. -/
def tagRegs : List (Block × Nat) := [(.foq, 0x010), (.foq, 0x044), (.foq, 0x048), (.mft, 0x010)]

theorem frame_takeTag (h : Head) (w : Wing) (t : Nat) (c : HostCmd) : Frame [.foy, .evq] tagRegs h (takeTag h w t c) := by
  simp +decide only [takeTag, (frame_updateBounds ..).iff, frame_rules, frame_mk, true_or, or_true, and_self, frame_refl]

theorem FoyKept.cmds {h g : Head} (x : FoyKept h g) : g.foy.cmds = h.foy.cmds := by
  unfold FoyKept at x
  rw [x]

/-- A command under its host tag. -/
def cmdEntered (h : Head) (w : Wing) (t : Nat) (c : HostCmd) : Head := { h with foy := { h.foy with cmds := tabPut h.foy.cmds (tagKey w t) c } }

/-- A host tag counted as in use. -/
def tagUsed (h : Head) (w : Wing) : Head := fmax (fadd h w FOQ_TAGS_IN_USE) w FOQ_TAGS_HIGH_WATER (fget (fadd h w FOQ_TAGS_IN_USE) w FOQ_TAGS_IN_USE)

theorem takeTag_eq (h : Head) (w : Wing) (t : Nat) (c : HostCmd) : takeTag h w t c = updateBounds (tagUsed (cmdEntered h w t c) w) w := rfl

theorem cmds_takeTag (h : Head) (w : Wing) (t : Nat) (c : HostCmd) : (takeTag h w t c).foy.cmds = tabPut h.foy.cmds (tagKey w t) c := by
  rw [takeTag_eq, (foyKept_updateBounds _ w).cmds]
  rfl

theorem forwardRefusal_none {h : Head} {mtag : Nat} {c : Capsule} {n : Namespace} (x : ForwardRuns h mtag c n) : forwardRefusal h c = none := by
  have h7 : (pairState h == 7) = false := by
    have hp := x.pair
    unfold inPair at hp
    rw [Bool.and_eq_true, decide_eq_true_eq, decide_eq_true_eq] at hp
    exact beq_false_of_ne (by omega)
  unfold forwardRefusal
  rw [x.namespaceOf]
  dsimp only
  rw [x.owned, x.notInDump, h7, if_neg (by decide), x.stays, if_neg (by decide)]

/-- A FORWARD that nothing holds back runs under a free host tag. -/
theorem anxForward_runs {h : Head} {port : Wing} {mtag coll : Nat} {c : Capsule} {data : List Nat} {n : Namespace} (x : ForwardRuns h mtag c n)
    (hop : c.op ≠ .compareWrite) : ∃ t, anxForward h port mtag coll c data =
      runForward (takeTag h (homeOf h c.nsid) t (forwardedCmd ⟨port, mtag, coll, c, data⟩)) (tagKey (homeOf h c.nsid) t) c := by
  obtain ⟨t, ht⟩ := Option.isSome_iff_exists.mp x.tag
  have hfirst : ({ h with vit := { h.vit with forwards := [] } } : Head) = h := by rw [← x.first]
  have hwaits : forwardWaits h c = false := by
    unfold forwardWaits fusedWaits
    rw [beq_false_of_ne hop, x.unlocked, x.notGiven, Bool.and_false]
    rfl
  have hstart : startForward h ⟨port, mtag, coll, c, data⟩ =
      some (runForward (takeTag h (homeOf h c.nsid) t (forwardedCmd ⟨port, mtag, coll, c, data⟩)) (tagKey (homeOf h c.nsid) t) c) := by
    unfold startForward
    rw [forwardRefusal_none x]
    dsimp only
    rw [if_neg hop]
    dsimp only
    rw [hwaits, if_neg (by decide), ht]
    rfl
  refine ⟨t, ?_⟩
  unfold anxForward
  rw [x.pair, if_neg (by decide), x.new]
  dsimp only
  rw [x.once, if_neg (by decide), x.first]
  unfold admitForwards
  dsimp only
  rw [hfirst, List.nil_append]
  show (match startForward h ⟨port, mtag, coll, c, data⟩ with | some g => g | none => _) = _
  rw [hstart]

/-- An answer kept for a FORWARD sent again. -/
def answerKept (h : Head) (mtag : Nat) (b : AnxBody) : Head := { h with vit := { h.vit with answered := h.vit.answered ++ [(mtag, b)] } }

theorem frame_answerKept (h : Head) (mtag : Nat) (b : AnxBody) : Frame [.vit] [] h (answerKept h mtag b) := (frame_mk h (by simp)).2 (frame_refl _ _ h)

/-- A forwarded command that ends well is answered with the sequences of what it placed. -/
theorem finishCmd_forwarded {c : HostCmd} {port : Wing} {mtag : Nat} (hv : c.via = some (port, mtag)) (h : Head) (key : Nat) :
    finishCmd h key c ⟨0, 0x00, false⟩ [] = anxPut (answerKept (freeHostTag h key) mtag (.forwardResp ⟨0, 0x00, false⟩ (c.placed.map (·.2)) []))
      port mtag c.coll (.forwardResp ⟨0, 0x00, false⟩ (c.placed.map (·.2)) []) := by
  unfold finishCmd
  rw [hv]
  rfl

/-- What such an answer leaves, where the command's run touched neither the links nor what has been sent. -/
theorem forwardAnswered {l : List Part} {t : List (Block × Nat)} {h g : Head} (x : Frame l t h g) (ho : .out ∉ l) (ht : (Block.anx, 0x044) ∉ t)
    (hl : ∀ w, anxLink g w = anxLink h w) (key mtag coll : Nat) (port : Wing) (b : AnxBody) :
    AnxSent h (anxPut (answerKept (freeHostTag g key) mtag b) port mtag coll b) port mtag coll b := by
  have hf := frame_freeHostTag g key
  have hv : (freeHostTag g key).vit = g.vit := hf.1 .vit (by decide)
  have hk := frame_answerKept (freeHostTag g key) mtag b
  have hall : Frame (l ++ [.foy, .evq, .vit]) (t ++ tagRegs) h (answerKept (freeHostTag g key) mtag b) :=
    ((x.mono (by simp +contextual) (by simp +contextual)).trans (hf.mono (by simp +contextual) (by simp +contextual [tagRegs]))).trans
      (hk.mono (by simp +contextual) (by simp))
  refine anxSent_after hall (by simp [ho]) (by simp [ht, tagRegs]) (fun w => ?_) ..
  refine (anxLink_of_vit (h := g) (v := { g.vit with answered := g.vit.answered ++ [(mtag, b)] }) ?_ rfl rfl w).trans (hl w)
  rw [← hv]
  rfl

/-- A command that nothing keeps or fails comes to its own end. -/
theorem completeCmd_ends {h : Head} {key : Nat} {c : HostCmd} {n : Namespace} (hc : tabGet? h.foy.cmds key = some c) (ha : c.inaccessible = false)
    (hf : c.failed = none) (ho : c.fwd = false) (hm : c.miscompare = false) (hs : (isWrite c.cap.op && syncBroken h c.coll) = false)
    (hd : writeDone h c = true) (hn : nsGet? h c.cap.nsid = some n) : completeCmd h key .done = endCmd h key c n := by
  unfold completeCmd
  rw [hc]
  dsimp only
  rw [ha, hf]
  dsimp only
  rw [if_neg Bool.false_ne_true, ho, if_neg Bool.false_ne_true, hm, if_neg Bool.false_ne_true, if_neg (fun hx => hx.1 rfl), hs,
    if_neg Bool.false_ne_true, hd, if_neg (by decide), hn]

/-- A write's and a flush's own end is its answer alone. -/
theorem endCmd_plain {c : HostCmd} (hop : c.cap.op = .write ∨ c.cap.op = .flush) (h : Head) (key : Nat) (n : Namespace) :
    endCmd h key c n = finishCmd h key c ⟨0, 0x00, false⟩ [] := by
  unfold endCmd recordFused
  rcases hop with hop | hop <;> rw [hop] <;> rfl

theorem anxForward_flushes (s : State) (port : Wing) (mtag coll : Nat) (c : Capsule) (data : List Nat) (n : Namespace) (hrun : Runs s.dev)
    (x : ForwardRuns s.dev mtag c n) (hop : c.op = .flush) :
    Completes (.anxForward port mtag coll c data) s (fun h =>
      AnxSent s.dev h port mtag coll (.forwardResp ⟨0, 0x00, false⟩ [] []) ∧
        h.vit.answered = s.dev.vit.answered ++ [(mtag, .forwardResp ⟨0, 0x00, false⟩ [] [])] ∧ h.vit.slots = s.dev.vit.slots ∧
        h.cat = s.dev.cat ∧ h.mem = s.dev.mem) := by
  obtain ⟨t, heq⟩ := anxForward_runs (port := port) (coll := coll) (data := data) x (by rw [hop]; exact nofun)
  have hf := frame_takeTag s.dev (homeOf s.dev c.nsid) t (forwardedCmd ⟨port, mtag, coll, c, data⟩)
  have hget : tabGet? (takeTag s.dev (homeOf s.dev c.nsid) t (forwardedCmd ⟨port, mtag, coll, c, data⟩)).foy.cmds (tagKey (homeOf s.dev c.nsid) t) =
      some (forwardedCmd ⟨port, mtag, coll, c, data⟩) := by
    rw [cmds_takeTag]
    exact tabGet?_tabPut_same ..
  generalize takeTag s.dev (homeOf s.dev c.nsid) t (forwardedCmd ⟨port, mtag, coll, c, data⟩) = g at *
  generalize tagKey (homeOf s.dev c.nsid) t = key at *
  have hns : nsGet? g c.nsid = some n := (nsGet?_congr (congrArg CatState.nss (hf.1 .cat (by decide))) c.nsid).trans x.namespaceOf
  have hrunf : runForward g key c = anxPut (answerKept (freeHostTag g key) mtag (.forwardResp ⟨0, 0x00, false⟩ [] [])) port mtag coll
      (.forwardResp ⟨0, 0x00, false⟩ [] []) := by
    have hrw : runForward g key c = completeCmd g key .done := by
      unfold runForward
      rw [hop]
      rfl
    have hread : isWrite (forwardedCmd ⟨port, mtag, coll, c, data⟩).cap.op = false := (congrArg isWrite hop).trans rfl
    rw [hrw, completeCmd_ends (c := forwardedCmd ⟨port, mtag, coll, c, data⟩) hget rfl rfl rfl rfl (Bool.and_eq_false_iff.mpr (.inl hread)) ?_ hns,
      endCmd_plain (.inr hop), finishCmd_forwarded (port := port) (mtag := mtag) rfl]
    · rfl
    · unfold writeDone
      rw [hread]
      rfl
  refine completes_of_eq (exec_anxForward ..) hrun (heq.trans hrunf) ?_
  have hv : g.vit = s.dev.vit := hf.1 .vit (by decide)
  have hft := frame_freeHostTag g key
  have hvt : (freeHostTag g key).vit = s.dev.vit := (hft.1 .vit (by decide)).trans hv
  have hcat : (freeHostTag g key).cat = s.dev.cat := (hft.1 .cat (by decide)).trans (hf.1 .cat (by decide))
  have hmem : (freeHostTag g key).mem = s.dev.mem := (hft.1 .mem (by decide)).trans (hf.1 .mem (by decide))
  have hsent := forwardAnswered hf (by decide) (by decide) (anxLink_of_vit hv rfl rfl) key mtag coll port (.forwardResp ⟨0, 0x00, false⟩ [] [])
  generalize freeHostTag g key = k at *
  have hq := anxStep_anxPut (answerKept k mtag (.forwardResp ⟨0, 0x00, false⟩ [] [])) port mtag coll (.forwardResp ⟨0, 0x00, false⟩ [] [])
  refine ⟨hsent, ?_, ?_, (hq.frame.1 .cat (by decide)).trans hcat, (hq.frame.1 .mem (by decide)).trans hmem⟩
  · rw [hq.vit, answerKept, hvt]
  · rw [hq.slots, answerKept, hvt]

theorem anxForward_answersAgain (s : State) (port : Wing) (mtag coll : Nat) (c : Capsule) (data : List Nat) (b : AnxBody) (hrun : Runs s.dev)
    (hp : inPair s.dev = true) (hb : s.dev.vit.answered.find? (fun a => a.1 == mtag) = some (mtag, b)) :
    Completes (.anxForward port mtag coll c data) s (fun h =>
      AnxSent s.dev h port mtag coll b ∧ h.vit.slots = s.dev.vit.slots ∧ h.cat = s.dev.cat ∧ RegsBut s.dev h []) := by
  have heq : anxForward s.dev port mtag coll c data = anxPut s.dev port mtag coll b := by
    unfold anxForward
    rw [hp, if_neg (by decide), hb]
  have hq := anxStep_anxPut s.dev port mtag coll b
  exact completes_of_eq (exec_anxForward ..) hrun heq ⟨anxSent_anxPut .., hq.slots, hq.frame.1 .cat (by decide), hq.frame.2⟩

end Sys2Proof.Laws
end

section
/-! A forwarded write placed and answered by the owner (R107, R144, R164). -/

namespace Sys2Proof.Laws

open Machine Machine.Reg

/-! ### One granule placed and committed -/

theorem slotCount_append_one (l : List Slot) (v : Slot) (w : Wing) (p : SlotState → Bool) : slotCount (l ++ [v]) w p ≤ slotCount l w p + 1 := by
  unfold slotCount
  rw [List.filter_append, List.length_append]
  exact Nat.add_le_add_left (List.length_filter_le ..) _

/-- A commit leaves no more slots of a kind than were there. -/
theorem slotCount_afterCommit (l : List Slot) (nsid granule : Nat) (w : Wing) (p : SlotState → Bool) :
    slotCount (afterCommit l nsid granule) w p ≤ slotCount l w p := by
  unfold slotCount afterCommit
  rw [List.filter_map, List.length_map]
  have hsame : ((fun s : Slot => s.wing == w && p s.st) ∘ fun s => supersede (madeOld l nsid granule s) s) = fun s => s.wing == w && p s.st := by
    funext s
    show ((supersede _ s).wing == w && p (supersede _ s).st) = _
    unfold supersede
    split <;> rfl
  rw [hsame]
  exact (List.Sublist.filter _ List.filter_sublist).length_le

/-- A slot that a commit leaves was there: its version is the same, and it is committed where it was. -/
theorem of_mem_afterCommit {l : List Slot} {nsid granule : Nat} {x : Slot} (hx : x ∈ afterCommit l nsid granule) :
    ∃ y ∈ l, x.wseq = y.wseq ∧ x.committed = y.committed := by
  obtain ⟨y, hy, -, rfl⟩ := mem_afterCommit.mp hx
  obtain ⟨-, h2, h3, -⟩ := supersede_keeps (madeOld l nsid granule y) y
  exact ⟨y, hy, h3, h2⟩

theorem placeDirty_at_once (h : Head) (nsid granule data coll : Nat) (record : Option FusedRec) :
    placeDirty h nsid granule data coll true record = (wseqNext h (homeOf h nsid),
      commitVersion (dirtyPlaced h nsid granule data coll) nsid granule (wseqNext h (homeOf h nsid))) := rfl

theorem rpl_dirtyPlaced {h : Head} {coll : Nat} (hr : rplState h coll ≠ 1) (nsid granule data : Nat) : (dirtyPlaced h nsid granule data coll).rpl = h.rpl := by
  have hf : Frame [.vit, .evq] (slotRegs ++ seqRegs) h (setSlots (takeSeq h (homeOf h nsid)).2
      ((takeSeq h (homeOf h nsid)).2.vit.slots ++ [newSlot (homeOf h nsid) .dirty nsid granule (takeSeq h (homeOf h nsid)).1 (hostLabel coll data) data false])) :=
    ((frame_takeSeq h _).mono (by decide) (by decide)).trans ((frame_setSlots _ _).mono (by decide) (by decide))
  unfold dirtyPlaced
  dsimp only
  rw [if_neg]
  · exact hf.1 .rpl (by decide)
  · unfold rplState at hr ⊢
    rw [hf.fget .east RPL_MAP_MODE_STATE (by decide) (by decide)]
    exact hr

/-- A granule placed and committed at once, as the slots and the sequence show. -/
def placedAtOnce (h : Head) (nsid granule data coll : Nat) : Head :=
  commitVersion (dirtyPlaced h nsid granule data coll) nsid granule (wseqNext h (homeOf h nsid))

/-- The registers that a placement may change. -/
def placeRegs : List (Block × Nat) := slotRegs ++ seqRegs

theorem frame_placedAtOnce (h : Head) (nsid granule data coll : Nat) : Frame [.vit, .rpl, .evq] placeRegs h (placedAtOnce h nsid granule data coll) :=
  ((frame_dirtyPlaced h nsid granule data coll).mono (by decide) (by decide)).trans ((frame_commitVersion ..).mono (by decide) (by decide))

theorem placeOwned_at_once {c : HostCmd} (hv : c.via.isSome = true) (h : Head) (key idx : Nat) : placeOwned h key c idx =
    setCmd (placedAtOnce h c.cap.nsid (c.cap.slba + idx) (writeData c idx) c.coll) key
      (placedOne c (c.cap.slba + idx) (wseqNext h (homeOf h c.cap.nsid))) := by
  rw [placeOwned_eq, hv, placeDirty_at_once]
  rfl

theorem placedAtOnce_shows {h : Head} {nsid granule : Nat} (hold : ∀ v ∈ h.vit.slots, isGranule nsid granule v = true → seqNum v.wseq < seqNum (wseqNext h (homeOf h nsid)))
    (data : Nat) {coll : Nat} (hr : rplState h coll ≠ 1) :
    (placedAtOnce h nsid granule data coll).vit = { h.vit with slots := afterCommit (h.vit.slots ++ [placedSlot h nsid granule data coll true]) nsid granule } ∧
      (placedAtOnce h nsid granule data coll).rpl = h.rpl ∧
      wseqNext (placedAtOnce h nsid granule data coll) (homeOf h nsid) = wingNum (homeOf h nsid) <<< 63 + (seqNum (wseqNext h (homeOf h nsid)) + 1) % 2 ^ 63 := by
  have hv := vit_dirtyPlaced h nsid granule data coll
  have hw := wseqNext_dirtyPlaced h nsid granule data coll
  have hrp := rpl_dirtyPlaced hr nsid granule data
  have hm := markCommitted_newest (v := placedSlot h nsid granule data coll false) hold
  have hc := frame_commitVersion (dirtyPlaced h nsid granule data coll) nsid granule (wseqNext h (homeOf h nsid))
  unfold placedAtOnce
  refine ⟨?_, (hc.1 .rpl (by decide)).trans hrp, (wseqNext_frame hc (by decide) (by decide) _).trans hw⟩
  have hs := slots_commitVersion (dirtyPlaced h nsid granule data coll) nsid granule (wseqNext h (homeOf h nsid))
  have hset : (commitVersion (dirtyPlaced h nsid granule data coll) nsid granule (wseqNext h (homeOf h nsid))).vit =
      { (dirtyPlaced h nsid granule data coll).vit with
        slots := (commitVersion (dirtyPlaced h nsid granule data coll) nsid granule (wseqNext h (homeOf h nsid))).vit.slots } := by
    unfold commitVersion
    rw [vit_setSlots]
  rw [hset, hs, hv]
  exact congrArg (fun l => { h.vit with slots := afterCommit l nsid granule }) hm

theorem seqNum_shifted (w : Wing) {n : Nat} (hn : n < 2 ^ 63) : seqNum (wingNum w <<< 63 + n % 2 ^ 63) = n := by
  unfold seqNum
  rw [Nat.mod_eq_of_lt hn, Nat.shiftLeft_eq, Nat.mul_comm, Nat.mul_add_mod, Nat.mod_eq_of_lt hn]

/-! ### The granules of a forwarded write in turn -/

/-- A forwarded write's record with the versions placed so far. -/
def withPlaced (f : FwdReq) (p : List (Nat × Nat)) : HostCmd := { forwardedCmd f with placed := p }

/-- A forwarded write's granule as its slot has it. -/
def GranuleStands (g : Head) (f : FwdReq) (j q : Nat) : Prop := ∃ v ∈ g.vit.slots, v.st = .dirty ∧ v.committed = true ∧ v.nsid = f.cap.nsid ∧
  v.granule = f.cap.slba + j ∧ v.wseq = q ∧ v.data = f.data.getD j 0

/-- After some granules of a forwarded write: each stands committed under its own sequence, and nothing else has changed but counts. -/
structure PlacedSoFar (s : Head) (f : FwdReq) (key : Nat) (g : Head) (p : List (Nat × Nat)) : Prop where
  frame : Frame [.foy, .evq, .vit, .rpl] (tagRegs ++ placeRegs) s g
  links : g.vit = { s.vit with slots := g.vit.slots }
  rpl : g.rpl = s.rpl
  cmd : tabGet? g.foy.cmds key = some (withPlaced f p)
  below : ∀ x ∈ p, x.1 < f.cap.slba + p.length
  above : ∀ x ∈ p, seqNum (wseqNext s (homeOf s f.cap.nsid)) ≤ seqNum x.2
  stand : ∀ j q, (p.map (·.2))[j]? = some q → GranuleStands g f j q
  next : seqNum (wseqNext g (homeOf s f.cap.nsid)) = seqNum (wseqNext s (homeOf s f.cap.nsid)) + p.length
  fresh : ∀ v ∈ g.vit.slots, seqNum v.wseq < seqNum (wseqNext s (homeOf s f.cap.nsid)) + p.length
  committed : ∀ v ∈ g.vit.slots, seqNum (wseqNext s (homeOf s f.cap.nsid)) ≤ seqNum v.wseq → v.committed = true
  held : slotsHeld g (homeOf s f.cap.nsid) ≤ slotsHeld s (homeOf s f.cap.nsid) + p.length

/-- What a forwarded write finds whose granules can all be placed (R142, R160, R164). -/
structure WriteRoom (s : Head) (f : FwdReq) (n : Namespace) : Prop where
  write : f.cap.op = .write
  peer : hasPeer s = true
  async : rplState s f.coll ≠ 1
  runs : running s (pg .vit (homeOf s f.cap.nsid)) = true
  flits : mirrorFlits s (homeOf s f.cap.nsid) < 256
  room : slotsHeld s (homeOf s f.cap.nsid) + f.cap.count ≤ slotLimit s (homeOf s f.cap.nsid)
  space : seqNum (wseqNext s (homeOf s f.cap.nsid)) + f.cap.count < 2 ^ 63
  known : nsGet? s f.cap.nsid = some n

section
variable {s g : Head} {f : FwdReq} {key : Nat} {p : List (Nat × Nat)} {n : Namespace}

theorem homeOf_frame {l : List Part} {t : List (Block × Nat)} (x : Frame l t s g) (hc : .cat ∉ l) (nsid : Nat) : homeOf g nsid = homeOf s nsid := by
  unfold homeOf nsGet?
  rw [show g.cat = s.cat from x.1 .cat hc]

theorem running_frame {l : List Part} {t : List (Block × Nat)} (x : Frame l t s g) (p : Page) (h1 : (p.block, 0x008) ∉ t) (h2 : (p.block, 0x00c) ∉ t)
    (h3 : (p.block, 0x030) ∉ t) : running g p = running s p := by
  unfold running
  rw [x.hget p CTRL_ENABLE h1 (by decide), x.hget p CTRL_QUIESCE h1 (by decide), x.hget p STATUS_FENCED h2 (by decide), x.hget p RUNG_CURRENT h3 (by decide)]

theorem placeable_next (r : WriteRoom s f n) (x : PlacedSoFar s f key g p) (hi : p.length < f.cap.count) : Placeable g (withPlaced f p) p.length where
  write := (congrArg isWrite r.write).trans rfl
  within := hi
  new := fun y hy => Nat.ne_of_lt (x.below y hy)
  accessible := rfl
  sound := rfl
  same := rfl
  runs := by
    show running g (pg .vit (homeOf g f.cap.nsid)) = true
    rw [homeOf_frame x.frame (by decide), running_frame x.frame _ (show (Block.vit, 0x008) ∉ tagRegs ++ placeRegs by decide)
      (show (Block.vit, 0x00c) ∉ tagRegs ++ placeRegs by decide) (show (Block.vit, 0x030) ∉ tagRegs ++ placeRegs by decide)]
    exact r.runs
  flits := by
    show mirrorFlits g (homeOf g f.cap.nsid) < 256
    have hl : ∀ w, anxLink g w = anxLink s w := anxLink_of_vit x.links rfl rfl
    have hm : g.vit.toMirror = s.vit.toMirror := by rw [x.links]
    unfold mirrorFlits
    simp only [hl, hm, homeOf_frame x.frame (by decide)]
    exact r.flits
  room := fun _ => by
    show slotsHeld g (homeOf g f.cap.nsid) < slotLimit g (homeOf g f.cap.nsid)
    have hlim : slotLimit g (homeOf s f.cap.nsid) = slotLimit s (homeOf s f.cap.nsid) := by
      unfold slotLimit
      rw [show g.vit.retiredE = s.vit.retiredE by rw [x.links],
        show g.vit.retiredW = s.vit.retiredW by rw [x.links]]
    rw [homeOf_frame x.frame (by decide), hlim]
    have h1 := x.held
    have h2 := r.room
    omega
  staging := fun hc => absurd hc (show ¬ false = true by decide)

theorem writeData_forwarded (hw : f.cap.op = .write) (i : Nat) : writeData (withPlaced f p) i = f.data.getD i 0 := by
  show f.data.getD ((if f.cap.op = .compareWrite then f.cap.count else 0) + i) 0 = _
  rw [if_neg (show ¬ f.cap.op = .compareWrite by rw [hw]; exact nofun), Nat.zero_add]

/-- The next granule is placed as the others were. -/
theorem placedSoFar_step (r : WriteRoom s f n) (x : PlacedSoFar s f key g p) (hi : p.length < f.cap.count) :
    PlacedSoFar s f key (placeGranule g key p.length) (p ++ [(f.cap.slba + p.length, wseqNext g (homeOf s f.cap.nsid))]) := by
  have hhome := homeOf_frame x.frame (by decide) f.cap.nsid
  have hn : nsGet? g f.cap.nsid = some n := (nsGet?_congr (congrArg CatState.nss (x.frame.1 .cat (by decide))) _).trans r.known
  have hr : rplState g f.coll ≠ 1 := by
    unfold rplState
    rw [x.frame.fget .east RPL_MAP_MODE_STATE (by decide) (by decide)]
    exact r.async
  have hold : ∀ v ∈ g.vit.slots, seqNum v.wseq < seqNum (wseqNext g (homeOf g f.cap.nsid)) := fun v hv => by
    rw [hhome, x.next]
    exact x.fresh v hv
  have heq : placeGranule g key p.length = setCmd (placedAtOnce g f.cap.nsid (f.cap.slba + p.length) (f.data.getD p.length 0) f.coll) key
      (withPlaced f (p ++ [(f.cap.slba + p.length, wseqNext g (homeOf s f.cap.nsid))])) := by
    have h1 := placeGranule_owned x.cmd (placeable_next r x hi) rfl hn (.inl r.write)
    have h2 := placeOwned_at_once (c := withPlaced f p) rfl g key p.length
    rw [writeData_forwarded r.write] at h2
    rw [h1, h2, ← hhome]
    rfl
  obtain ⟨hv, hrp, hws⟩ := placedAtOnce_shows (granule := f.cap.slba + p.length) (fun v hv _ => hold v hv) (f.data.getD p.length 0) hr
  have hfr := frame_placedAtOnce g f.cap.nsid (f.cap.slba + p.length) (f.data.getD p.length 0) f.coll
  have hnew := newest_afterCommit (v := placedSlot g f.cap.nsid (f.cap.slba + p.length) (f.data.getD p.length 0) f.coll true) rfl (fun v hv _ => hold v hv)
  rw [heq]
  generalize placedAtOnce g f.cap.nsid (f.cap.slba + p.length) (f.data.getD p.length 0) f.coll = k at *
  have hset : Frame [.foy] [] k (setCmd k key (withPlaced f (p ++ [(f.cap.slba + p.length, wseqNext g (homeOf s f.cap.nsid))]))) := frame_setCmd ..
  have hslots : k.vit.slots = afterCommit (g.vit.slots ++ [placedSlot g f.cap.nsid (f.cap.slba + p.length) (f.data.getD p.length 0) f.coll true])
      f.cap.nsid (f.cap.slba + p.length) := congrArg VitState.slots hv
  have hmem (v : Slot) (hvk : v ∈ k.vit.slots) : (∃ y ∈ g.vit.slots, v.wseq = y.wseq ∧ v.committed = y.committed) ∨
      (v.wseq = wseqNext g (homeOf g f.cap.nsid) ∧ v.committed = true) := by
    rw [hslots] at hvk
    obtain ⟨y, hy, h1, h2⟩ := of_mem_afterCommit hvk
    rcases List.mem_append.mp hy with hy | hy
    · exact .inl ⟨y, hy, h1, h2⟩
    · rw [List.mem_singleton.mp hy] at h1 h2
      exact .inr ⟨h1, h2⟩
  have hnext : seqNum (wseqNext g (homeOf g f.cap.nsid)) = seqNum (wseqNext s (homeOf s f.cap.nsid)) + p.length := by rw [hhome, x.next]
  have hspace := r.space
  have hlen : (p ++ [(f.cap.slba + p.length, wseqNext g (homeOf s f.cap.nsid))]).length = p.length + 1 := by rw [List.length_append]; rfl
  constructor
  · exact (x.frame.trans (hfr.mono (by decide) (by decide))).trans (hset.mono (by decide) (by simp))
  · show k.vit = { s.vit with slots := k.vit.slots }
    rw [hv, x.links]
  · exact hrp.trans x.rpl
  · exact tabGet?_tabPut_same ..
  · rw [hlen]
    intro y hy
    rcases List.mem_append.mp hy with hy | hy
    · have := x.below y hy
      omega
    · rw [List.mem_singleton.mp hy]
      exact Nat.lt_succ_self _
  · intro y hy
    rcases List.mem_append.mp hy with hy | hy
    · exact x.above y hy
    · rw [List.mem_singleton.mp hy]
      show _ ≤ seqNum (wseqNext g (homeOf s f.cap.nsid))
      rw [x.next]
      exact Nat.le_add_right ..
  · intro j q hq
    show ∃ v ∈ k.vit.slots, _
    rw [List.map_append, List.map_singleton] at hq
    rw [hslots]
    rcases Nat.lt_or_ge j (p.map (·.2)).length with hj | hj
    · rw [List.getElem?_append_left hj] at hq
      obtain ⟨v, hvg, h1, h2, h3, h4, h5, h6⟩ := x.stand j q hq
      refine ⟨v, others_afterCommit (List.mem_append_left _ hvg) ?_, h1, h2, h3, h4, h5, h6⟩
      rw [List.length_map] at hj
      unfold isGranule
      rw [h4, beq_false_of_ne (a := f.cap.slba + j) (b := f.cap.slba + p.length) (by omega), Bool.and_false]
    · rw [List.getElem?_append_right hj, List.getElem?_singleton] at hq
      split at hq
      · next h0 =>
        have hjp : j = p.length := by
          rw [List.length_map] at hj h0
          omega
        rw [hjp, ← Option.some.inj hq]
        exact ⟨_, hnew, rfl, rfl, rfl, rfl, by rw [← hhome]; rfl, rfl⟩
      · exact absurd hq (by simp)
  · show seqNum (wseqNext k (homeOf s f.cap.nsid)) = _
    rw [hhome] at hws hnext
    rw [hws, hnext, seqNum_shifted _ (by omega), hlen]
    omega
  · rw [hlen]
    intro v hvk
    rcases hmem v hvk with ⟨y, hy, h1, -⟩ | ⟨h1, -⟩
    · have := x.fresh y hy
      rw [h1]
      omega
    · rw [h1, hnext]
      omega
  · intro v hvk hge
    rcases hmem v hvk with ⟨y, hy, h1, h2⟩ | ⟨-, h2⟩
    · rw [h2]
      exact x.committed y hy (h1 ▸ hge)
    · exact h2
  · show slotCount k.vit.slots (homeOf s f.cap.nsid) isPairDirty ≤ _
    rw [hslots, hlen]
    have h1 := slotCount_afterCommit (g.vit.slots ++ [placedSlot g f.cap.nsid (f.cap.slba + p.length) (f.data.getD p.length 0) f.coll true])
      f.cap.nsid (f.cap.slba + p.length) (homeOf s f.cap.nsid) isPairDirty
    have h2 := slotCount_append_one g.vit.slots (placedSlot g f.cap.nsid (f.cap.slba + p.length) (f.data.getD p.length 0) f.coll true)
      (homeOf s f.cap.nsid) isPairDirty
    have h3 : slotCount g.vit.slots (homeOf s f.cap.nsid) isPairDirty ≤ _ := x.held
    omega

/-- All granules of a forwarded write are placed in turn. -/
theorem placedSoFar_all (r : WriteRoom s f n) (x : PlacedSoFar s f key g []) (m : Nat) (hm : m ≤ f.cap.count) :
    ∃ p, p.length = m ∧ PlacedSoFar s f key (foldHead g (List.range m) (fun h i => placeGranule h key i)) p := by
  induction m with
  | zero => exact ⟨[], rfl, x⟩
  | succ m ih =>
    obtain ⟨p, hp, hx⟩ := ih (by omega)
    have hstep := placedSoFar_step r hx (by omega)
    rw [hp] at hstep
    refine ⟨p ++ [(f.cap.slba + m, wseqNext (foldHead g (List.range m) (fun h i => placeGranule h key i)) (homeOf s f.cap.nsid))], ?_, ?_⟩
    · rw [List.length_append, hp]
      rfl
    · unfold foldHead at hstep ⊢
      rw [List.range_succ, List.foldl_append]
      exact hstep

theorem mirrorDone_placed (x : PlacedSoFar s f key g p) (hu : s.vit.unacked = []) (hm : s.vit.toMirror = []) {q : Nat}
    (hq : seqNum (wseqNext s (homeOf s f.cap.nsid)) ≤ seqNum q) : mirrorDone g f.cap.nsid q = true := by
  have hu' : g.vit.unacked = [] := by
    rw [x.links]
    exact hu
  have hm' : g.vit.toMirror = [] := by
    rw [x.links]
    exact hm
  unfold mirrorDone mirrorPending
  rw [hu', hm', Bool.and_eq_true]
  refine ⟨rfl, List.all_eq_true.mpr fun v hv => ?_⟩
  by_cases hvq : v.wseq = q
  · rw [x.committed v hv (hvq ▸ hq), Bool.or_true]
  · rw [show (v.wseq != q) = true from bne_iff_ne.mpr hvq]
    rfl

/-- A forwarded write all of whose granules stand is done. -/
theorem writeDone_placed (r : WriteRoom s f n) (x : PlacedSoFar s f key g p) (hp : p.length = f.cap.count) (hu : s.vit.unacked = []) (hm : s.vit.toMirror = []) :
    writeDone g (withPlaced f p) = true := by
  have hr : (rplState g f.coll != 1) = true := by
    unfold rplState
    rw [x.frame.fget .east RPL_MAP_MODE_STATE (by decide) (by decide)]
    exact bne_iff_ne.mpr r.async
  have hall : p.all (fun y => mirrorDone g f.cap.nsid y.2 && syncAcked g (withPlaced f p) y.2) = true := by
    refine List.all_eq_true.mpr fun y hy => ?_
    rw [mirrorDone_placed x hu hm (x.above y hy), Bool.true_and]
    unfold syncAcked
    rw [show (withPlaced f p).coll = f.coll from rfl, hr]
    rfl
  show (!isWrite f.cap.op || (decide (p.length = f.cap.count) && p.all (fun y => mirrorDone g f.cap.nsid y.2 && syncAcked g (withPlaced f p) y.2) &&
    (hasPeer g || dumpReady g))) = true
  rw [hall, decide_eq_true hp, hasPeer_frame x.frame (by decide), r.peer]
  simp

/-- A forwarded write that has all its room is placed and comes to its answer. -/
theorem runForward_writes (r : WriteRoom s f n) (x : PlacedSoFar s f key g []) (hu : s.vit.unacked = []) (hm : s.vit.toMirror = [])
    (hs : syncBroken s f.coll = false) : ∃ k p, p.length = f.cap.count ∧ PlacedSoFar s f key k p ∧
      runForward g key f.cap = finishCmd k key (withPlaced f p) ⟨0, 0x00, false⟩ [] := by
  obtain ⟨p, hp, hx⟩ := placedSoFar_all r x f.cap.count (Nat.le_refl _)
  have hrw : runForward g key f.cap = completeCmd (foldHead g (List.range f.cap.count) (fun h i => placeGranule h key i)) key .done := by
    unfold runForward
    rw [r.write]
    rfl
  rw [hrw]
  generalize foldHead g (List.range f.cap.count) (fun h i => placeGranule h key i) = k at *
  have hsb : syncBroken k f.coll = false := by
    unfold syncBroken at hs ⊢
    rw [hx.rpl, hx.frame.fbit .east RPL_MAP_MODE_DEGRADE (by decide) (by decide)]
    exact hs
  have hn : nsGet? k f.cap.nsid = some n := (nsGet?_congr (congrArg CatState.nss (hx.frame.1 .cat (by decide))) _).trans r.known
  refine ⟨k, p, hp, hx, ?_⟩
  rw [completeCmd_ends hx.cmd rfl rfl rfl rfl (Bool.and_eq_false_iff.mpr (.inr hsb)) (writeDone_placed r hx hp hu hm) hn, endCmd_plain (.inl r.write)]

end

/-- A forwarded write that holds its tag and has placed nothing. -/
theorem placedSoFar_none {s : Head} {f : FwdReq} {t : Nat}
    (hold : ∀ v ∈ s.vit.slots, seqNum v.wseq < seqNum (wseqNext s (homeOf s f.cap.nsid))) :
    PlacedSoFar s f (tagKey (homeOf s f.cap.nsid) t) (takeTag s (homeOf s f.cap.nsid) t (forwardedCmd f)) [] := by
  have hf := frame_takeTag s (homeOf s f.cap.nsid) t (forwardedCmd f)
  have hc := cmds_takeTag s (homeOf s f.cap.nsid) t (forwardedCmd f)
  generalize takeTag s (homeOf s f.cap.nsid) t (forwardedCmd f) = g at *
  have hv : g.vit = s.vit := hf.1 .vit (by decide)
  have hw : wseqNext g (homeOf s f.cap.nsid) = wseqNext s (homeOf s f.cap.nsid) := wseqNext_frame hf (by decide) (by decide) _
  constructor
  · exact hf.mono (by decide) (by decide)
  · rw [hv]
  · exact hf.1 .rpl (by decide)
  · rw [hc]
    exact tabGet?_tabPut_same ..
  · exact fun y hy => absurd hy List.not_mem_nil
  · exact fun y hy => absurd hy List.not_mem_nil
  · exact fun j q hq => absurd hq (by simp)
  · rw [hw]
    rfl
  · rw [hv]
    exact hold
  · rw [hv]
    exact fun v hvm hge => absurd (hold v hvm) (Nat.not_lt.mpr hge)
  · show slotCount g.vit.slots _ _ ≤ _
    rw [hv]
    exact Nat.le_refl _

/-- The answer of a forwarded write that has placed its granules. -/
def writeAnswer (p : List (Nat × Nat)) : AnxBody := .forwardResp ⟨0, 0x00, false⟩ (p.map (·.2)) []

/-- A forwarded write answered: the answer names the sequences under which its granules stand. -/
theorem placed_answered {s k : Head} {f : FwdReq} {key : Nat} {p : List (Nat × Nat)} (x : PlacedSoFar s f key k p) :
    AnxSent s (finishCmd k key (withPlaced f p) ⟨0, 0x00, false⟩ []) f.port f.mtag f.coll (writeAnswer p) ∧
      (∀ j q, (p.map (·.2))[j]? = some q → GranuleStands (finishCmd k key (withPlaced f p) ⟨0, 0x00, false⟩ []) f j q) ∧
      (finishCmd k key (withPlaced f p) ⟨0, 0x00, false⟩ []).cat = s.cat ∧ (finishCmd k key (withPlaced f p) ⟨0, 0x00, false⟩ []).mem = s.mem := by
  have heq : finishCmd k key (withPlaced f p) ⟨0, 0x00, false⟩ [] =
      anxPut (answerKept (freeHostTag k key) f.mtag (writeAnswer p)) f.port f.mtag f.coll (writeAnswer p) := finishCmd_forwarded rfl k key
  have hsent := forwardAnswered x.frame (by decide) (by decide) (anxLink_of_vit x.links rfl rfl) key f.mtag f.coll f.port (writeAnswer p)
  have hft := frame_freeHostTag k key
  have hvt : (freeHostTag k key).vit = k.vit := hft.1 .vit (by decide)
  have hcat : (freeHostTag k key).cat = s.cat := (hft.1 .cat (by decide)).trans (x.frame.1 .cat (by decide))
  have hmem : (freeHostTag k key).mem = s.mem := (hft.1 .mem (by decide)).trans (x.frame.1 .mem (by decide))
  rw [heq]
  generalize freeHostTag k key = a at *
  have hq := anxStep_anxPut (answerKept a f.mtag (writeAnswer p)) f.port f.mtag f.coll (writeAnswer p)
  refine ⟨hsent, fun j q hj => ?_, (hq.frame.1 .cat (by decide)).trans hcat, (hq.frame.1 .mem (by decide)).trans hmem⟩
  unfold GranuleStands
  rw [hq.slots]
  show ∃ v ∈ a.vit.slots, _
  rw [hvt]
  exact x.stand j q hj

/-- A forwarded write that has room and nothing unanswered before it: its granules stand, and its answer says so. -/
theorem forward_writes {s : Head} {f : FwdReq} {n : Namespace} (x : ForwardRuns s f.mtag f.cap n) (r : WriteRoom s f n) (hs : syncBroken s f.coll = false)
    (hu : s.vit.unacked = []) (hm : s.vit.toMirror = []) (hold : ∀ v ∈ s.vit.slots, seqNum v.wseq < seqNum (wseqNext s (homeOf s f.cap.nsid))) :
    ∃ h ws, anxForward s f.port f.mtag f.coll f.cap f.data = h ∧ ws.length = f.cap.count ∧
      AnxSent s h f.port f.mtag f.coll (.forwardResp ⟨0, 0x00, false⟩ ws []) ∧
      (∀ j q, ws[j]? = some q → GranuleStands h f j q) ∧ h.cat = s.cat ∧ h.mem = s.mem := by
  obtain ⟨t, heq⟩ := anxForward_runs (port := f.port) (coll := f.coll) (data := f.data) x (by rw [r.write]; exact nofun)
  obtain ⟨k, p, hlen, hx, hfin⟩ := runForward_writes r (placedSoFar_none (t := t) hold) hu hm hs
  have hws : (p.map (fun x => x.2)).length = f.cap.count := (List.length_map _).trans hlen
  exact ⟨_, _, heq.trans hfin, hws, placed_answered hx⟩

theorem anxForward_writes (s : State) (port : Wing) (mtag coll : Nat) (c : Capsule) (data : List Nat) (n : Namespace) (hrun : Runs s.dev)
    (x : ForwardRuns s.dev mtag c n) (hop : c.op = .write) (hp : hasPeer s.dev = true) (hr : rplState s.dev coll ≠ 1) (hs : syncBroken s.dev coll = false)
    (hv : running s.dev (pg .vit (homeOf s.dev c.nsid)) = true) (hfl : mirrorFlits s.dev (homeOf s.dev c.nsid) < 256)
    (hroom : slotsHeld s.dev (homeOf s.dev c.nsid) + c.count ≤ slotLimit s.dev (homeOf s.dev c.nsid)) (hu : s.dev.vit.unacked = [])
    (hm : s.dev.vit.toMirror = []) (hold : ∀ v ∈ s.dev.vit.slots, seqNum v.wseq < seqNum (wseqNext s.dev (homeOf s.dev c.nsid)))
    (hspace : seqNum (wseqNext s.dev (homeOf s.dev c.nsid)) + c.count < 2 ^ 63) :
    Completes (.anxForward port mtag coll c data) s (fun h => ∃ ws : List Nat, ws.length = c.count ∧
      AnxSent s.dev h port mtag coll (.forwardResp ⟨0, 0x00, false⟩ ws []) ∧
      (∀ i q, ws[i]? = some q → ∃ v ∈ h.vit.slots, v.st = .dirty ∧ v.committed = true ∧ v.nsid = c.nsid ∧ v.granule = c.slba + i ∧
        v.wseq = q ∧ v.data = data.getD i 0) ∧
      h.cat = s.dev.cat ∧ h.mem = s.dev.mem) := by
  obtain ⟨h, ws, heq, hlen, h1, h2, h3, h4⟩ := forward_writes (f := ⟨port, mtag, coll, c, data⟩) x ⟨hop, hp, hr, hv, hfl, hroom, hspace, x.namespaceOf⟩ hs hu hm hold
  exact completes_of_eq (exec_anxForward ..) hrun heq ⟨ws, hlen, h1, h2, h3, h4⟩

end Sys2Proof.Laws
end

section
/-! FORWARD_RESP at the head whose host sent the command (R108, R113, R144, R164), and O29. -/

namespace Sys2Proof.Laws

open Machine Machine.Reg

/-! ### STAGING slots that become MIRROR -/

/-- The slot of a forwarded write's granule. -/
def isStaged (key nsid granule : Nat) (s : Slot) : Bool := s.st == .staging && isVersion nsid granule key s

/-- A staging slot as the mirror of the owner's version. -/
def asMirror (key nsid granule seq : Nat) (s : Slot) : Slot := if isStaged key nsid granule s then { s with st := .mirror, wseq := seq, committed := true } else s

/-- A MIRROR of a granule in a version or a newer one. -/
def isNewMirror (nsid granule seq : Nat) (s : Slot) : Bool := s.st == .mirror && isGranule nsid granule s && decide (seqNum seq ≤ seqNum s.wseq)

theorem slots_stageToMirror (h : Head) (key nsid granule seq : Nat) : (stageToMirror h key nsid granule seq).vit.slots =
    if h.vit.slots.any (isNewMirror nsid granule seq) = true then h.vit.slots.filter (fun s => !isStaged key nsid granule s)
    else (h.vit.slots.filter (fun s => !(isGranule nsid granule s && (s.st == .mirror || s.st == .clean)))).map (asMirror key nsid granule seq) := by
  unfold stageToMirror
  dsimp only
  split
  · next hn => exact (congrArg VitState.slots (vit_setSlots ..)).trans (if_pos hn).symm
  · next hn => exact (congrArg VitState.slots (vit_setSlots ..)).trans (if_neg hn).symm

theorem frame_stageToMirror (h : Head) (key nsid granule seq : Nat) : Frame [.vit, .evq] slotRegs h (stageToMirror h key nsid granule seq) := by
  simp +decide only [stageToMirror, frame_ite, (frame_freeSlots ..).iff, (frame_setSlots ..).iff, frame_refl, ite_self]

theorem frame_stagingToMirror (h : Head) (key : Nat) (c : Capsule) (ws : List Nat) : Frame [.vit, .evq] (slotRegs ++ seqRegs) h (stagingToMirror h key c ws) := by
  simp +decide only [stagingToMirror, frame_foldHead, (frame_stageToMirror ..).iff, (frame_raiseSeq ..).iff, frame_refl, implies_true]

theorem isStaged_iff {key nsid granule : Nat} {s : Slot} : isStaged key nsid granule s = true ↔
    s.st = .staging ∧ s.nsid = nsid ∧ s.granule = granule ∧ s.wseq = key := by
  unfold isStaged isVersion
  simp only [Bool.and_eq_true, beq_iff_eq, and_assoc]

theorem isNewMirror_iff {nsid granule seq : Nat} {s : Slot} : isNewMirror nsid granule seq s = true ↔
    s.st = .mirror ∧ isGranule nsid granule s = true ∧ seqNum seq ≤ seqNum s.wseq := by
  unfold isNewMirror
  simp only [Bool.and_eq_true, beq_iff_eq, decide_eq_true_eq, and_assoc]

/-- No slot is left STAGING for a granule. -/
def NoneStaged (h : Head) (key nsid granule : Nat) : Prop := ∀ v ∈ h.vit.slots, isStaged key nsid granule v = false

/-- A slot that a granule's step leaves staged was so before, and is of another granule. -/
theorem of_staged {h : Head} {key nsid granule seq k m g : Nat} {v : Slot} (hv : v ∈ (stageToMirror h key nsid granule seq).vit.slots)
    (hs : isStaged k m g v = true) : v ∈ h.vit.slots ∧ isStaged key nsid granule v = false := by
  rw [slots_stageToMirror] at hv
  split at hv
  · obtain ⟨h1, h2⟩ := List.mem_filter.mp hv
    exact ⟨h1, by simpa using h2⟩
  · obtain ⟨y, hy, rfl⟩ := List.mem_map.mp hv
    unfold asMirror at hs ⊢
    split at hs
    · exact absurd (isStaged_iff.mp hs).1 (show ¬ SlotState.mirror = .staging by decide)
    · next hn =>
      rw [if_neg hn]
      exact ⟨(List.mem_filter.mp hy).1, Bool.eq_false_iff.mpr hn⟩

theorem noneStaged_stageToMirror {h : Head} {k m g : Nat} (hn : NoneStaged h k m g) (key nsid granule seq : Nat) :
    NoneStaged (stageToMirror h key nsid granule seq) k m g := by
  intro v hv
  by_contra hs
  have hs' := Bool.not_eq_false _ ▸ hs
  exact hs (hn v (of_staged hv hs').1)

theorem stageToMirror_noneStaged (h : Head) (key nsid granule seq : Nat) : NoneStaged (stageToMirror h key nsid granule seq) key nsid granule := by
  intro v hv
  by_contra hs
  exact hs (of_staged hv (Bool.not_eq_false _ ▸ hs)).2

/-- A granule is staged still, or has its mirror. -/
def StagedOrMirror (h : Head) (key nsid granule seq : Nat) : Prop :=
  (∃ v ∈ h.vit.slots, isStaged key nsid granule v = true) ∨ ∃ v ∈ h.vit.slots, isNewMirror nsid granule seq v = true

theorem stagedOrMirror_same {h : Head} {key nsid granule seq : Nat} (hx : StagedOrMirror h key nsid granule seq) :
    StagedOrMirror (stageToMirror h key nsid granule seq) key nsid granule seq := by
  unfold StagedOrMirror at hx ⊢
  rw [slots_stageToMirror]
  by_cases hn : h.vit.slots.any (isNewMirror nsid granule seq) = true
  · rw [if_pos hn]
    obtain ⟨v, hv, hm⟩ := List.any_eq_true.mp hn
    refine .inr ⟨v, List.mem_filter.mpr ⟨hv, ?_⟩, hm⟩
    rw [Bool.not_eq_true', Bool.eq_false_iff]
    intro hs
    exact absurd ((isNewMirror_iff.mp hm).1.symm.trans (isStaged_iff.mp hs).1) (by decide)
  · rw [if_neg hn]
    rcases hx with ⟨v, hv, hs⟩ | ⟨v, hv, hm⟩
    · obtain ⟨h1, h2, h3, -⟩ := isStaged_iff.mp hs
      refine .inr ⟨asMirror key nsid granule seq v, List.mem_map.mpr ⟨v, List.mem_filter.mpr ⟨hv, by rw [h1]; simp⟩, rfl⟩, ?_⟩
      unfold asMirror
      rw [if_pos hs]
      exact isNewMirror_iff.mpr ⟨rfl, by unfold isGranule; simp [h2, h3], Nat.le_refl _⟩
    · exact absurd (List.any_eq_true.mpr ⟨v, hv, hm⟩) hn

/-- What a slot of one granule is, the step of another granule leaves. -/
theorem stagedOrMirror_other {h : Head} {key nsid granule seq other : Nat} (hne : other ≠ granule) (q : Nat)
    (hx : StagedOrMirror h key nsid granule seq) : StagedOrMirror (stageToMirror h key nsid other q) key nsid granule seq := by
  have hstay (v : Slot) (hv : v ∈ h.vit.slots) (hg : v.granule = granule) : v ∈ (stageToMirror h key nsid other q).vit.slots := by
    have hno : isStaged key nsid other v = false := Bool.eq_false_iff.mpr fun hs => hne ((isStaged_iff.mp hs).2.2.1.symm.trans hg)
    rw [slots_stageToMirror]
    split
    · exact List.mem_filter.mpr ⟨hv, by rw [hno]; rfl⟩
    · refine List.mem_map.mpr ⟨v, List.mem_filter.mpr ⟨hv, ?_⟩, if_neg (by rw [hno]; decide)⟩
      unfold isGranule
      rw [hg, beq_false_of_ne (a := granule) (b := other) hne.symm, Bool.and_false]
      rfl
  rcases hx with ⟨v, hv, hs⟩ | ⟨v, hv, hm⟩
  · exact .inl ⟨v, hstay v hv (isStaged_iff.mp hs).2.2.1, hs⟩
  · have hg := (isNewMirror_iff.mp hm).2.1
    unfold isGranule at hg
    simp only [Bool.and_eq_true, beq_iff_eq] at hg
    exact .inr ⟨v, hstay v hv hg.2, hm⟩

/-- All granules of a forwarded write have their mirrors, and none is staged. -/
theorem stagingToMirror_shows (h : Head) (key : Nat) (c : Capsule) (ws : List Nat) {i : Nat} (hi : i < c.count) :
    NoneStaged (stagingToMirror h key c ws) key c.nsid (c.slba + i) ∧
      ((∃ v ∈ h.vit.slots, isStaged key c.nsid (c.slba + i) v = true) →
        ∃ v ∈ (stagingToMirror h key c ws).vit.slots, isNewMirror c.nsid (c.slba + i) (ws.getD i 0) v = true) := by
  have hraise : (foldHead h ws raiseSeq).vit = h.vit := foldHead_frame Head.vit (fun g n => (frame_raiseSeq g n).1 .vit (by decide)) _ h
  have hnone : NoneStaged (stagingToMirror h key c ws) key c.nsid (c.slba + i) :=
    foldHead_reaches (fun g => NoneStaged g key c.nsid (c.slba + i)) (fun g j hg => noneStaged_stageToMirror hg key c.nsid (c.slba + j) (ws.getD j 0))
      (fun g => stageToMirror_noneStaged g key c.nsid (c.slba + i) (ws.getD i 0)) _ (List.mem_range.mpr hi) _
  refine ⟨hnone, fun hs => ?_⟩
  have hkeep : StagedOrMirror (stagingToMirror h key c ws) key c.nsid (c.slba + i) (ws.getD i 0) := by
    refine foldHead_keeps (fun g => StagedOrMirror g key c.nsid (c.slba + i) (ws.getD i 0)) (fun g j hg => ?_) _ _ (.inl (by rw [hraise]; exact hs))
    by_cases hj : j = i
    · rw [hj]
      exact stagedOrMirror_same hg
    · exact stagedOrMirror_other (by omega) _ hg
  rcases hkeep with ⟨v, hv, hst⟩ | hm
  · exact absurd hst (by rw [hnone v hv]; decide)
  · exact hm

/-! ### The command's end -/

/-- A context has one command fewer. -/
def ctxLess (h : Head) (c : Capsule) : Head :=
  fset h c.wing FOQ_CTX_STATE_INFLIGHT (fget h c.wing FOQ_CTX_STATE_INFLIGHT c.ctx - 1) c.ctx

/-- A command of this head's own hosts ends without data: its tag and its context's place are free, and its completion goes. -/
theorem finishCmd_own {c : HostCmd} (hv : c.via = none) (h : Head) (key : Nat) (st : NvmeStatus) :
    finishCmd h key c st [] = endCapsule (ctxLess (freeHostTag h key) c.cap) c.cap st := by
  unfold finishCmd
  rw [hv]
  rfl

theorem FoyKept.paused {h g : Head} (x : FoyKept h g) : g.foy.paused = h.foy.paused := by
  unfold FoyKept at x
  rw [x]

/-- A host tag that is no longer in use. -/
def tagLeft (h : Head) (key : Nat) : Head := { h with foy := { h.foy with cmds := tabDel h.foy.cmds key } }

/-- The count of the tags in use after one is freed. -/
def tagFreed (h : Head) (key : Nat) : Head :=
  fset (tagLeft h key) (keyWing key) FOQ_TAGS_IN_USE (fget (tagLeft h key) (keyWing key) FOQ_TAGS_IN_USE - 1)

theorem freeHostTag_eq (h : Head) (key : Nat) : freeHostTag h key = updateBounds (tagFreed h key) (keyWing key) := rfl

theorem freeHostTag_foy (h : Head) (key : Nat) : (freeHostTag h key).foy.cmds = tabDel h.foy.cmds key ∧ (freeHostTag h key).foy.paused = h.foy.paused := by
  have hk := foyKept_updateBounds (tagFreed h key) (keyWing key)
  rw [freeHostTag_eq, hk.cmds, hk.paused]
  exact ⟨rfl, rfl⟩

/-- The registers that a command's end may change. -/
def ownEndRegs : List (Block × Nat) := (.foq, 0x060) :: tagRegs

/-- A command's end without data (R108, R111). -/
structure CmdFinished (h g : Head) (key : Nat) (c : Capsule) (st : NvmeStatus) : Prop where
  out : g.out = h.out ++ [hostAnswer h c st]
  cmds : g.foy.cmds = tabDel h.foy.cmds key
  frame : Frame [.foy, .out, .evq] ownEndRegs h g

theorem finishCmd_finished {c : HostCmd} (hv : c.via = none) {h : Head} (hl : HostListens h c.cap) (key : Nat) (st : NvmeStatus) :
    CmdFinished h (finishCmd h key c st []) key c.cap st := by
  rw [finishCmd_own hv]
  obtain ⟨hc, hpz⟩ := freeHostTag_foy h key
  have hf := frame_freeHostTag h key
  generalize freeHostTag h key = a at *
  have hx : Frame [] [(.foq, 0x060)] a (ctxLess a c.cap) := frame_fset ..
  have hfoy : (ctxLess a c.cap).foy = a.foy := rfl
  have hall := (hf.mono (l := [.foy, .evq]) (t := ownEndRegs) (by decide) (by decide)).trans (hx.mono (by decide) (by decide))
  generalize ctxLess a c.cap = b at *
  have hprio (w : Wing) (port : Nat) : prioOf b w port false = prioOf h w port false := hall.fget w FOY_PFC_PRIO_NVME (by decide) (by decide) 0 port
  have hlist : HostListens b c.cap := by
    unfold HostListens at hl ⊢
    rw [hprio, hfoy, hpz]
    exact hl
  have hans : hostAnswer b c.cap st = hostAnswer h c.cap st := by
    unfold hostAnswer
    rw [hprio]
  obtain ⟨hout, hy, hfe⟩ := answered_endCapsule b c.cap st hlist
  refine ⟨?_, ?_, (hall.mono (by decide) (fun _ h => h)).trans (hfe.mono (by decide) (by simp))⟩
  · rw [hout, hans, show b.out = h.out from hall.1 .out (by decide)]
  · rw [hy, hfoy]
    exact hc

/-! ### Events that a command's end leaves set -/

section
variable {w : Wing} {e : EvRef} {i : Nat} (hn : e.n < 32)
include hn

theorem eventSet_enterBound {h : Head} (he : EventSet h w e i) (v : Wing) {f : Fld} (hf : f.off % 4096 ≠ 0x010) : EventSet (enterBound h v f) w e i := by
  have hset : Frame [.foy] [(f.block, f.off % 4096)] h (markStalled (fset h v f 1) v) :=
    (Frame.mono (frame_fset h v 0 0 f 1) (by simp) (by simp)).trans (by
      cases v <;> simp +decide only [markStalled, frame_mk, true_or, or_true, and_self, frame_refl])
  have hm : EventSet (markStalled (fset h v f 1) v) w e i := (hset.eventSet w e (by simp [Ne.symm hf]) i).mpr he
  unfold enterBound
  dsimp only
  generalize markStalled (fset h v f 1) v = g at *
  split
  · exact he
  · split
    · split
      · exact hm
      · exact eventSet_raise hm hn ..
    · split
      · exact eventSet_raise hm hn ..
      · exact eventSet_raise (eventSet_raise hm hn ..) hn ..

theorem eventSet_enterIf {h : Head} (he : EventSet h w e i) (v : Wing) (c : Prop) [Decidable c] {f : Fld} (hf : f.off % 4096 ≠ 0x010) :
    EventSet (if c then enterBound h v f else h) w e i := by
  split
  · exact eventSet_enterBound hn he v hf
  · exact he

theorem eventSet_updateBounds {h : Head} (he : EventSet h w e i) (v : Wing) : EventSet (updateBounds h v) w e i := by
  unfold updateBounds
  dsimp only
  have h1 := eventSet_enterIf hn he v (32768 ≤ fget h v FOQ_TAGS_IN_USE) (f := FOQ_FETCH_HOST_TAGS) (by decide)
  generalize (if 32768 ≤ fget h v FOQ_TAGS_IN_USE then enterBound h v FOQ_FETCH_HOST_TAGS else h) = a at *
  have h2 := eventSet_enterIf hn h1 v (4096 ≤ dieOps a v) (f := FOQ_FETCH_DIE_OPS) (by decide)
  generalize (if 4096 ≤ dieOps a v then enterBound a v FOQ_FETCH_DIE_OPS else a) = b at *
  have h3 := eventSet_enterIf hn h2 v (4096 ≤ engMax b v) (f := FOQ_FETCH_ENGINE_TAGS) (by decide)
  generalize (if 4096 ≤ engMax b v then enterBound b v FOQ_FETCH_ENGINE_TAGS else b) = c at *
  have hset : Frame [] [(.foq, 0x044)] c (fset (fset (fset c v FOQ_FETCH_HOST_TAGS 0) v FOQ_FETCH_DIE_OPS 0) v FOQ_FETCH_ENGINE_TAGS 0) := by
    simp +decide only [frame_rules, frame_refl]
  split
  · exact (hset.eventSet w e (by simp) i).mpr h3
  · exact h3

theorem eventSet_finishCmd {c : HostCmd} (hv : c.via = none) {h : Head} (hl : HostListens h c.cap) (he : EventSet h w e i) (key : Nat) (st : NvmeStatus) :
    EventSet (finishCmd h key c st []) w e i := by
  have h0 : EventSet (tagFreed h key) w e i := by
    have hf : Frame [.foy] [(.foq, 0x048)] h (tagFreed h key) := by
      simp +decide only [tagFreed, tagLeft, frame_rules, frame_mk, true_or, or_true, and_self, frame_refl]
    exact (hf.eventSet w e (by simp) i).mpr he
  have h1 : EventSet (freeHostTag h key) w e i := by
    rw [freeHostTag_eq]
    exact eventSet_updateBounds hn h0 _
  have hf := frame_freeHostTag h key
  obtain ⟨-, hpz⟩ := freeHostTag_foy h key
  rw [finishCmd_own hv]
  generalize freeHostTag h key = a at *
  have hx : Frame [] [(.foq, 0x060)] a (ctxLess a c.cap) := frame_fset ..
  have h2 := (hx.eventSet w e (by simp) i).mpr h1
  have hfoy : (ctxLess a c.cap).foy = a.foy := rfl
  have hprio := (hx.fget c.cap.wing FOY_PFC_PRIO_NVME (by decide) (by decide) 0 c.cap.port).trans
    (hf.fget c.cap.wing FOY_PFC_PRIO_NVME (by decide) (by decide) 0 c.cap.port)
  generalize ctxLess a c.cap = b at *
  have hlist : HostListens b c.cap := by
    unfold HostListens prioOf at hl ⊢
    rw [if_neg Bool.false_ne_true] at hl ⊢
    rw [hprio, hfoy, hpz]
    exact hl
  exact ((answered_endCapsule b c.cap st hlist).frame.eventSet w e (by simp) i).mpr h2

end

/-! ### FORWARD_RESP -/

theorem forwardRespMsg_done {h : Head} {mtag key : Nat} {c : HostCmd} (hc : h.foy.cmds.find? (fun e => e.2.mtag == some mtag) = some (key, c))
    (hop : c.cap.op = .write) (ws : List Nat) : forwardRespMsg h mtag ⟨0, 0, false⟩ ws [] =
      finishCmd (stagingToMirror (dropUnacked h mtag) key c.cap ws) key c ⟨0, 0, false⟩ [] := by
  unfold forwardRespMsg recordFused
  rw [hc]
  dsimp only
  rw [if_pos (show isSuccess ⟨0, 0, false⟩ = true from rfl), if_pos (show isWrite c.cap.op = true by rw [hop]; rfl),
    if_pos (show c.cap.op ≠ .compareWrite by rw [hop]; exact nofun)]

theorem forwardRespMsg_refused {h : Head} {mtag key sc : Nat} {dnr : Bool} {c : HostCmd}
    (hc : h.foy.cmds.find? (fun e => e.2.mtag == some mtag) = some (key, c)) (hop : c.cap.op = .write) (ws data : List Nat) :
    forwardRespMsg h mtag ⟨3, sc, dnr⟩ ws data =
      finishCmd (raise (dropStaging (dropUnacked h mtag) key) c.cap.wing Ev.FOQ_FORWARD_FAIL) key c ⟨3, sc, dnr⟩ [] := by
  unfold forwardRespMsg recordFused
  rw [hc]
  dsimp only
  rw [if_neg (show ¬ isSuccess ⟨3, sc, dnr⟩ = true from Bool.false_ne_true), if_pos (show refused ⟨3, sc, dnr⟩ = true from rfl),
    if_pos (show c.cap.op ≠ .compareWrite by rw [hop]; exact nofun)]

theorem hostListens_frame {l : List Part} {t : List (Block × Nat)} {h g : Head} (x : Frame l t h g) (hl : .foy ∉ l)
    (ht : (FOY_PFC_PRIO_NVME.block, FOY_PFC_PRIO_NVME.off) ∉ t) {c : Capsule} (hs : HostListens h c) : HostListens g c := by
  unfold HostListens prioOf at *
  rw [if_neg Bool.false_ne_true] at hs ⊢
  rw [x.fget c.wing FOY_PFC_PRIO_NVME ht (by decide), show g.foy = h.foy from x.1 .foy hl]
  exact hs

theorem hostAnswer_frame {l : List Part} {t : List (Block × Nat)} {h g : Head} (x : Frame l t h g)
    (ht : (FOY_PFC_PRIO_NVME.block, FOY_PFC_PRIO_NVME.off) ∉ t) (c : Capsule) (st : NvmeStatus) : hostAnswer g c st = hostAnswer h c st := by
  unfold hostAnswer prioOf
  rw [if_neg Bool.false_ne_true, x.fget c.wing FOY_PFC_PRIO_NVME ht (by decide)]

theorem forwardResp_completes (s : State) (mtag key : Nat) (c : HostCmd) (ws : List Nat) (hrun : Runs s.dev)
    (hc : s.dev.foy.cmds.find? (fun e => e.2.mtag == some mtag) = some (key, c)) (hop : c.cap.op = .write) (hv : c.via = none)
    (hl : HostListens s.dev c.cap) :
    Completes (.forwardResp mtag 0 0 false ws []) s (fun h =>
      h.out = s.dev.out ++ [hostAnswer s.dev c.cap ⟨0, 0x00, false⟩] ∧ tabGet? h.foy.cmds key = none ∧
        (∀ v ∈ h.vit.slots, v.nsid = c.cap.nsid → c.cap.slba ≤ v.granule → v.granule < c.cap.slba + c.cap.count → v.wseq = key →
          v.st ≠ .staging) ∧
        (∀ i, i < c.cap.count → (∃ v ∈ s.dev.vit.slots, v.st = .staging ∧ isVersion c.cap.nsid (c.cap.slba + i) key v = true) →
          ∃ x ∈ h.vit.slots, x.st = .mirror ∧ isGranule c.cap.nsid (c.cap.slba + i) x = true ∧
            seqNum (ws.getD i 0) ≤ seqNum x.wseq) ∧
        h.cat = s.dev.cat ∧ h.mem = s.dev.mem) := by
  refine completes_of_eq (exec_forwardResp ..) hrun (forwardRespMsg_done hc hop ws) ?_
  have hd : Frame [.vit] [] s.dev (dropUnacked s.dev mtag) := (frame_mk s.dev (by simp)).2 (frame_refl _ _ s.dev)
  have hst := frame_stagingToMirror (dropUnacked s.dev mtag) key c.cap ws
  have hshow (i : Nat) (hi : i < c.cap.count) := stagingToMirror_shows (dropUnacked s.dev mtag) key c.cap ws hi
  have hall := (hd.mono (l := [.vit, .evq]) (t := slotRegs ++ seqRegs) (by decide) (by simp)).trans (hst.mono (by decide) (fun _ h => h))
  have hslots : (dropUnacked s.dev mtag).vit.slots = s.dev.vit.slots := rfl
  rw [hslots] at hshow
  generalize stagingToMirror (dropUnacked s.dev mtag) key c.cap ws = g at *
  obtain ⟨hout, hcm, hf⟩ := finishCmd_finished hv (hostListens_frame hall (by decide) (by decide) hl) key ⟨0, 0x00, false⟩
  have hvit : (finishCmd g key c ⟨0, 0x00, false⟩ []).vit = g.vit := hf.1 .vit (by decide)
  refine ⟨?_, ?_, ?_, ?_, (hf.1 .cat (by decide)).trans (hall.1 .cat (by decide)), (hf.1 .mem (by decide)).trans (hall.1 .mem (by decide))⟩
  · rw [hout, hostAnswer_frame hall (by decide), show g.out = s.dev.out from hall.1 .out (by decide)]
  · rw [hcm]
    exact tabGet?_tabDel_same ..
  · rw [hvit]
    intro v hvm h1 h2 h3 h4 h5
    have hno := (hshow (v.granule - c.cap.slba) (by omega)).1 v hvm
    have hg : v.granule = c.cap.slba + (v.granule - c.cap.slba) := by omega
    exact absurd (isStaged_iff.mpr ⟨h5, h1, hg, h4⟩) (by rw [hno]; decide)
  · rw [hvit]
    intro i hi ⟨v, hvm, h1, h2⟩
    obtain ⟨x, hx, hm⟩ := (hshow i hi).2 ⟨v, hvm, by unfold isStaged; rw [h1, h2]; rfl⟩
    exact ⟨x, hx, isNewMirror_iff.mp hm⟩

theorem forwardResp_refuses (s : State) (mtag key sc : Nat) (dnr : Bool) (c : HostCmd) (ws data : List Nat) (hrun : Runs s.dev)
    (hc : s.dev.foy.cmds.find? (fun e => e.2.mtag == some mtag) = some (key, c)) (hop : c.cap.op = .write) (hv : c.via = none)
    (hl : HostListens s.dev c.cap) :
    Completes (.forwardResp mtag 3 sc dnr ws data) s (fun h =>
      h.out = s.dev.out ++ [hostAnswer s.dev c.cap ⟨3, sc, dnr⟩] ∧ tabGet? h.foy.cmds key = none ∧
        EventSet h c.cap.wing Ev.FOQ_FORWARD_FAIL ∧
        h.vit.slots = s.dev.vit.slots.filter (fun v => !(v.st == .staging && v.wseq == key)) ∧ h.cat = s.dev.cat ∧ h.mem = s.dev.mem) := by
  refine completes_of_eq (exec_forwardResp ..) hrun (forwardRespMsg_refused hc hop ws data) ?_
  have hd : Frame [.vit] [] s.dev (dropUnacked s.dev mtag) := (frame_mk s.dev (by simp)).2 (frame_refl _ _ s.dev)
  have hst : Frame [.vit, .evq] slotRegs (dropUnacked s.dev mtag) (dropStaging (dropUnacked s.dev mtag) key) := frame_freeSlots ..
  have hslots : (dropStaging (dropUnacked s.dev mtag) key).vit.slots = s.dev.vit.slots.filter (fun v => !(v.st == .staging && v.wseq == key)) :=
    congrArg VitState.slots (vit_setSlots ..)
  have hsf := (hd.mono (l := [.vit, .evq]) (t := slotRegs) (by decide) (by simp)).trans hst
  generalize dropStaging (dropUnacked s.dev mtag) key = a at *
  have hr := frame_raise a c.cap.wing 0 Ev.FOQ_FORWARD_FAIL
  have hset : EventSet (raise a c.cap.wing Ev.FOQ_FORWARD_FAIL) c.cap.wing Ev.FOQ_FORWARD_FAIL := raiseAt_sets _ _ _ (by decide)
  have hall := (hsf.mono (l := [.vit, .evq]) (t := (.foq, 0x010) :: slotRegs) (by decide) (by decide)).trans (hr.mono (by decide) (by decide))
  have hvr : (raise a c.cap.wing Ev.FOQ_FORWARD_FAIL).vit = a.vit := hr.1 .vit (by decide)
  generalize raise a c.cap.wing Ev.FOQ_FORWARD_FAIL = g at *
  have hlist := hostListens_frame hall (by decide) (by decide) hl
  obtain ⟨hout, hcm, hf⟩ := finishCmd_finished hv hlist key ⟨3, sc, dnr⟩
  have hvit : (finishCmd g key c ⟨3, sc, dnr⟩ []).vit = g.vit := hf.1 .vit (by decide)
  refine ⟨?_, ?_, eventSet_finishCmd (by decide) hv hlist hset key _, ?_, (hf.1 .cat (by decide)).trans (hall.1 .cat (by decide)),
    (hf.1 .mem (by decide)).trans (hall.1 .mem (by decide))⟩
  · rw [hout, hostAnswer_frame hall (by decide), show g.out = s.dev.out from hall.1 .out (by decide)]
  · rw [hcm]
    exact tabGet?_tabDel_same ..
  · rw [hvit, hvr, hslots]

/-- Settles O29, a lemma for each clause: an applied update (`updateRecorded_shows`), a forwarded write granule by granule (`placedSoFar_step`), its
staging slots at the sender (`stagingToMirror_shows`), and the command's end (`finishCmd_finished`). -/
theorem coherenceAndForwarding : Obligations.CoherenceAndForwarding := by
  unfold Obligations.CoherenceAndForwarding
  exact ⟨catUpdate_applies, catUpdate_refuses, catAck_frees, catAck_stops, anxForward_flushes, anxForward_writes, anxForward_answersAgain,
    forwardResp_completes, forwardResp_refuses⟩

end Sys2Proof.Laws
end

section
/-! What settling keeps (R73, R134, R342 to R357, R501): what a head has sent stays sent, and the host commands it holds stay as they are.
    This file holds the steps that send nothing. -/

namespace Sys2Proof.Laws

open Machine Machine.Reg

/-- A step that sends nothing and leaves the host commands alone. -/
def Quiet (h g : Head) : Prop := g.out = h.out ∧ g.foy.cmds = h.foy.cmds

theorem quiet_refl (h : Head) : Quiet h h := ⟨rfl, rfl⟩

theorem Quiet.trans {a b c : Head} (x : Quiet a b) (y : Quiet b c) : Quiet a c := ⟨y.1.trans x.1, y.2.trans x.2⟩

theorem Quiet.symm {a b : Head} (x : Quiet a b) : Quiet b a := ⟨x.1.symm, x.2.symm⟩

/-- A quiet step is no matter. -/
theorem Quiet.iff {a g g' : Head} (x : Quiet g g') : Quiet a g' ↔ Quiet a g := ⟨fun y => y.trans x.symm, fun y => y.trans x⟩

theorem Frame.quiet {l : List Part} {t : List (Block × Nat)} {h g : Head} (x : Frame l t h g) (ho : .out ∉ l) (hf : .foy ∉ l) : Quiet h g :=
  ⟨x.1 .out ho, congrArg FoyState.cmds (x.1 .foy hf)⟩

theorem FoyKept.quiet {h g : Head} (x : FoyKept h g) (ho : g.out = h.out) : Quiet h g := ⟨ho, (congrArg FoyState.cmds x).trans rfl⟩

theorem quiet_ite {c : Prop} {_ : Decidable c} {a g g' : Head} : Quiet a (if c then g else g') ↔ if c then Quiet a g else Quiet a g' := by
  split <;> rfl

theorem quiet_foldHead {α : Type} {f : Head → α → Head} {xs : List α} {a g : Head} (h : ∀ g x, Quiet g (f g x)) :
    Quiet a (foldHead g xs f) ↔ Quiet a g :=
  Quiet.iff (foldHead_keeps (fun k => Quiet g k) (fun k x y => y.trans (h k x)) xs g (quiet_refl g))

theorem quiet_foldHead_mem {α : Type} {f : Head → α → Head} {xs : List α} {a : Head} (h : ∀ g, ∀ x ∈ xs, Quiet g (f g x)) : Quiet a (foldHead a xs f) := by
  unfold foldHead
  induction xs generalizing a with
  | nil => exact quiet_refl a
  | cons x xs ih => exact (h a x List.mem_cons_self).trans (ih fun g y hy => h g y (List.mem_cons_of_mem x hy))

/-- An update of anything but what was sent and the host commands. -/
theorem quiet_mk {a : Head} (g : Head) {xregs} {xpend} {xhiHold} {xhiLatch} {xevq} {xswWest} {xgroupTimes} {xbus} {xfreeCtr} {xfrm} {xfoy} {xvit}
    {xcat} {xeng} {xmem} {xpoison} {xsram} {xmft} {xmftTxc} {xkeys} {xbindings} {xplk} {xdsp} {xgal} {xcur} {xbridges} {xrpl} {xcore} {xdoc}
    {xarc} {xpwr} {xrsv} (hf : xfoy.cmds = g.foy.cmds) :
    Quiet a ⟨xregs, xpend, xhiHold, xhiLatch, xevq, xswWest, xgroupTimes, g.out, xbus, xfreeCtr, xfrm, xfoy, xvit, xcat, xeng, xmem,
      xpoison, xsram, xmft, xmftTxc, xkeys, xbindings, xplk, xdsp, xgal, xcur, xbridges, xrpl, xcore, xdoc, xarc, xpwr, xrsv⟩ ↔ Quiet a g :=
  Quiet.iff ⟨rfl, hf⟩

/-- The operations on registers, events and the bus are quiet. -/
theorem quiet_rules {a : Head} :
    (∀ g p off bank v, Quiet a (wr g p off bank v) ↔ Quiet a g) ∧
    (∀ g w f v bank inst, Quiet a (fset g w f v bank inst) ↔ Quiet a g) ∧
    (∀ g p f v, Quiet a (hset g p f v) ↔ Quiet a g) ∧
    (∀ g w f n bank inst, Quiet a (fadd g w f n bank inst) ↔ Quiet a g) ∧
    (∀ g w f v bank inst, Quiet a (fmax g w f v bank inst) ↔ Quiet a g) ∧
    (∀ g w lo hi v bank, Quiet a (pset g w lo hi v bank) ↔ Quiet a g) ∧
    (∀ g w e inst, Quiet a (raise g w e inst) ↔ Quiet a g) ∧
    (∀ g, Quiet a (fresh g).2 ↔ Quiet a g) :=
  ⟨fun g p off bank v => ((frame_wr g bank p off v).quiet (by simp) (by simp)).iff,
    fun g w f v bank inst => ((frame_fset g w bank inst f v).quiet (by simp) (by simp)).iff,
    fun g p f v => ((frame_hset g p f v).quiet (by simp) (by simp)).iff,
    fun g w f n bank inst => ((frame_fadd g w bank inst f n).quiet (by simp) (by simp)).iff,
    fun g w f v bank inst => ((frame_fmax g w bank inst f v).quiet (by simp) (by simp)).iff,
    fun g w lo hi v bank => ((frame_pset g w bank lo hi v).quiet (by simp) (by simp)).iff,
    fun g w e inst => ((frame_raise g w inst e).quiet (by simp) (by simp)).iff,
    fun g => ((frame_fresh g).quiet (by simp) (by simp)).iff⟩

/-! ### Watchdogs, keys, groups and responders -/

theorem quiet_syncReadyBit (h : Head) : Quiet h (syncReadyBit h) := (frame_fset h .east 0 0 RSV_DUMP_READY _).quiet (by decide) (by decide)

theorem quiet_wdgEventFeed (h : Head) (ev : Nat) : Quiet h (wdgEventFeed h ev) := by
  simp only [wdgEventFeed, wdgFeed, quiet_foldHead, quiet_ite, quiet_rules, quiet_refl, implies_true, ite_self]

theorem quiet_eraseKeys (h : Head) : Quiet h (eraseKeys h) :=
  ((frame_keyErase h).quiet (by decide) (by decide)).trans ((frame_contextKeys _).quiet (by decide) (by decide))

theorem quiet_syncGroups (h : Head) : Quiet h (syncGroups h) := by
  simp only [syncGroups, quiet_foldHead, quiet_rules, quiet_refl, implies_true]

theorem quiet_heard (h : Head) (n : Nat) : Quiet h (heard h n) := by
  have hg (g : Head) (x : Nat) : Quiet g (groupTimer g x) := by
    simp only [groupTimer, quiet_rules, quiet_mk, quiet_refl]
  exact (quiet_foldHead hg).2 (quiet_refl h)

theorem quiet_shrinkStart (h : Head) (w : Wing) : Quiet h (shrinkStart h w) := by
  simp only [shrinkStart, setShrinking, quiet_ite, quiet_rules, quiet_mk, quiet_refl, ite_self]

theorem quiet_foyerPause (h : Head) (w : Wing) : Quiet h (foyerPause h w) := by
  have hm (g : Head) : Quiet g (markStalled g w) := (foyKept_markStalled g w).quiet rfl
  simp only [foyerPause, quiet_ite, quiet_rules, (hm _).iff, quiet_refl, ite_self]

theorem quiet_accessionHold (h : Head) (w : Wing) : Quiet h (accessionHold h w) := ⟨rfl, rfl⟩

theorem quiet_recordEvent (h : Head) (ev : Nat) (w : Wing) : Quiet h (recordEvent h ev w) := (frame_record ..).quiet (by decide) (by decide)

/-! ### The dump (R496 to R502) -/

theorem quiet_setRsv (h : Head) (f : RsvState → RsvState) : Quiet h (setRsv h f) := ⟨rfl, rfl⟩

theorem quiet_dumpEnd (h : Head) (ok : Bool) : Quiet h (dumpEnd h ok) := by
  simp only [dumpEnd, quiet_ite, quiet_rules, quiet_mk, quiet_refl, ite_self]

theorem quiet_dumpKeyCheck (h : Head) : Quiet h (dumpKeyCheck h) := by
  simp only [dumpKeyCheck, quiet_ite, (quiet_dumpEnd ..).iff, quiet_refl, ite_self]

theorem quiet_newDuties (h : Head) (a b : Nat) : Quiet h (newDuties h a b) := by
  simp only [newDuties, quiet_rules, (quiet_setRsv ..).iff, quiet_refl]

theorem quiet_failCompute (h : Head) : Quiet h (failCompute h) := by
  simp only [failCompute, setRsvMode, quiet_ite, quiet_rules, (quiet_setRsv ..).iff, (quiet_newDuties ..).iff, quiet_refl, ite_self]

theorem quiet_dumpGroup (h : Head) (l : List Slot) : Quiet h (dumpGroup h l).2 := (frame_fresh h).quiet (by decide) (by decide)

theorem quiet_dumpPlain (h : Head) : Quiet h (dumpPlain h).2 := by
  unfold dumpPlain
  refine List.foldlRecOn (motive := fun acc : List Nat × Head => Quiet h acc.2) _ _ ⟨rfl, rfl⟩ ?_
  exact fun acc x g _ => x.trans (quiet_dumpGroup acc.2 g)

theorem quiet_sendDump (h : Head) (i data : Nat) : Quiet h (sendDump h i data) := (frame_waitDie ..).quiet (by decide) (by decide)

theorem quiet_dumpStart (h : Head) : Quiet h (dumpStart h) := by
  have hp (g : Head) : Quiet g (foldHead (setRsv (dumpPlain g).2 (fun r => { r with dumpPanels := (dumpPlain g).1.length + 1 }))
      (dumpPlain g).1.zipIdx (fun h e => sendDump h e.2 e.1)) := by
    simp only [quiet_foldHead, (quiet_sendDump ..).iff, (quiet_setRsv ..).iff, (quiet_dumpPlain ..).iff, quiet_refl, implies_true]
  simp only [dumpStart, quiet_ite, (hp _).iff, (quiet_dumpEnd ..).iff, (quiet_setRsv ..).iff, quiet_rules, quiet_mk, quiet_refl, ite_self]

/-! ### Islands put out (R499, R513, R543) -/

theorem quiet_foqBlockReset (h : Head) (w : Wing) : Quiet h (foqBlockReset h w) := by
  have hfail (g : Head) (c : Nat) : Quiet g (mftFail g w c) := (frame_mftFail ..).quiet (by decide) (by decide)
  simp only [foqBlockReset, freeContext, freeMehror, bumpGen, quiet_foldHead, quiet_ite, quiet_rules, quiet_mk, (hfail _ _).iff, quiet_refl, implies_true,
    ite_self]

/-- What a block loses in its reset has nothing sent among it; the Annex page, whose loss settles the pair, is another matter. -/
theorem quiet_blockLoss (h : Head) (p : Page) (hp : p.block ≠ .anx) : Quiet h (blockLoss h p) := by
  obtain ⟨b, w, i⟩ := p
  cases b
  case anx => exact absurd rfl hp
  case foq => exact quiet_foqBlockReset h w
  all_goals
    simp only [blockLoss, quiet_ite, quiet_mk, quiet_refl, ite_self]

theorem quiet_blockBody (h : Head) (p : Page) (hp : p.block ≠ .anx) : Quiet h (blockBody h p) := by
  have hr (g : Head) : Quiet g (resetRegs g (blockKept ++ blockShown) 0x40 (fun q => q == p)) := ⟨rfl, rfl⟩
  exact (quiet_blockLoss h p hp).trans (hr _)

theorem quiet_darken (h : Head) (p : Page) (hp : p.block ≠ .anx) : Quiet h (darken h p) := by
  have hl (g : Head) : Quiet g (linkDark g p) := (frame_linkDark g p).quiet (by decide) (by decide)
  have hs (g : Head) : Quiet g (setRunning g p) := (frame_setRunning g p).quiet (by decide) (by decide)
  simp only [darken, atRung, setEntries, setRequests, setExits, quiet_ite, (hs _).iff, quiet_rules, (quiet_blockBody _ p hp).iff, (hl _).iff, quiet_mk,
    quiet_refl, ite_self]

theorem quiet_darkenCore (h : Head) (n : Nat) : Quiet h (darkenCore h n) := by
  have hr (g : Head) : Quiet g (setCoreRung g n 4) := (frame_setCoreRung g n 4).quiet (by decide) (by decide)
  simp only [darkenCore, setEntries, setExits, quiet_ite, quiet_rules, (hr _).iff, quiet_mk, quiet_refl, ite_self]

theorem quiet_dumpArm (h : Head) : Quiet h (dumpArm h) := by
  have hm (g : Head) : Quiet g (setMode g 2) := (frame_setMode g 2).quiet (by decide) (by decide)
  have hd (g : Head) : Quiet g (foldHead g (islands.filter (fun p => !dumpKeeps p.block)) darken) := by
    refine quiet_foldHead_mem fun k p hp => quiet_darken k p ?_
    rintro hb
    have hk := (List.mem_filter.1 hp).2
    rw [hb] at hk
    exact absurd hk (by decide)
  simp only [dumpArm, quiet_ite, (quiet_dumpStart ..).iff, quiet_foldHead, (quiet_darkenCore ..).iff, (hd _).iff, (hm _).iff, (quiet_failCompute ..).iff,
    quiet_refl, implies_true, ite_self]

theorem quiet_respond (h : Head) (r ev : Nat) (w : Wing) : Quiet h (respond h r ev w) := by
  unfold respond
  split
  · exact quiet_eraseKeys h
  · exact quiet_dumpArm h
  · exact quiet_shrinkStart h w
  · exact quiet_foyerPause h w
  · exact quiet_accessionHold h w
  · exact quiet_recordEvent h ev w
  · exact quiet_refl h

end Sys2Proof.Laws
end

section
/-! What settling keeps, in the map, the galleries and the pair's messages (R165, R187 to R210, R254 to R264): what was sent stays sent, and
    the host commands stay as they are. -/

namespace Sys2Proof.Laws

open Machine Machine.Reg

/-- A step that may send, and leaves what was sent and the host commands alone. -/
def Onward (h g : Head) : Prop := OutGrows h g ∧ g.foy.cmds = h.foy.cmds

theorem Quiet.onward {h g : Head} (x : Quiet h g) : Onward h g := ⟨⟨[], x.1.trans (List.append_nil _).symm⟩, x.2⟩

theorem onward_refl (h : Head) : Onward h h := (quiet_refl h).onward

theorem Onward.trans {a b c : Head} (x : Onward a b) (y : Onward b c) : Onward a c := ⟨x.1.trans y.1, y.2.trans x.2⟩

theorem Quiet.trans_onward {a b c : Head} (x : Quiet a b) (y : Onward b c) : Onward a c := x.onward.trans y

theorem Onward.trans_quiet {a b c : Head} (x : Onward a b) (y : Quiet b c) : Onward a c := x.trans y.onward

theorem Frame.onward {l : List Part} {t : List (Block × Nat)} {h g : Head} (x : Frame l t h g) (hf : .foy ∉ l) (o : OutGrows h g) : Onward h g :=
  ⟨o, congrArg FoyState.cmds (x.1 .foy hf)⟩

theorem onward_send (h : Head) (m : Msg) : Onward h (send h m) := ⟨⟨[m], rfl⟩, rfl⟩

theorem onward_ite {c : Prop} {_ : Decidable c} {a g g' : Head} : Onward a (if c then g else g') ↔ if c then Onward a g else Onward a g' := by
  split <;> rfl

theorem onward_foldl {α β : Type} {f : β → α → β} {view : β → Head} (hf : ∀ acc x, Onward (view acc) (view (f acc x))) (l : List α) (acc : β) :
    Onward (view acc) (view (l.foldl f acc)) :=
  List.foldlRecOn (motive := fun b => Onward (view acc) (view b)) l f (onward_refl _) fun b hb x _ => hb.trans (hf b x)

theorem onward_foldHead {α : Type} {f : Head → α → Head} (hf : ∀ g x, Onward g (f g x)) (l : List α) (h : Head) : Onward h (foldHead h l f) :=
  onward_foldl (view := id) hf l h

/-! ### The map and the index (R182 to R210) -/

theorem quiet_curUpd (h : Head) (f : CurState → CurState) : Quiet h (curUpd h f) := (frame_curUpd h f).quiet (by decide) (by decide)

theorem quiet_setIndex (h : Head) (coll : Nat) (l : List IndexEntry) : Quiet h (setIndex h coll l) := (frame_setIndex ..).quiet (by decide) (by decide)

theorem quiet_setSlots (h : Head) (l : List Slot) : Quiet h (setSlots h l) := (frame_setSlots h l).quiet (by decide) (by decide)

theorem quiet_hallValid (h : Head) (serial : Nat) (up : Bool) : Quiet h (hallValid h serial up) := by
  unfold hallValid
  split
  · exact quiet_refl h
  · exact quiet_curUpd ..

theorem quiet_refChange (h : Head) (coll loc : Nat) (up : Bool) : Quiet h (refChange h coll loc up) := by
  unfold refChange
  split
  · exact quiet_refl h
  · dsimp only
    split
    · exact quiet_refl h
    · simp only [quiet_ite, quiet_rules, quiet_mk, (quiet_hallValid ..).iff, (quiet_setIndex ..).iff, quiet_refl, ite_self]

theorem quiet_useLine (h : Head) (w : Wing) (line : Nat) (write : Bool) : Quiet h (useLine h w line write) := by
  unfold useLine
  dsimp only
  split
  · exact ⟨rfl, rfl⟩
  · split
    · exact ⟨rfl, rfl⟩
    · split <;> exact ⟨rfl, rfl⟩

theorem quiet_walkLines (h : Head) (nsid granule : Nat) (write : Bool) : Quiet h (walkLines h nsid granule write) :=
  (quiet_foldHead fun g _ => quiet_useLine g _ _ _).2 (quiet_refl h)

theorem quiet_markDirty (h : Head) (nsid leaf : Nat) : Quiet h (markDirty h nsid leaf) := by
  have hu : Quiet h (usePath h nsid leaf) := (frame_usePath h nsid leaf).quiet (by decide) (by decide)
  unfold markDirty
  dsimp only
  split
  · exact hu
  · exact hu.trans ⟨rfl, rfl⟩

theorem quiet_mapPut (h : Head) (nsid granule loc : Nat) (counted : Bool) : Quiet h (mapPut h nsid granule loc counted) := by
  have hn (g : Head) (k : Nat) (f : Namespace → Namespace) : Quiet g (nsUpd g k f) := ⟨rfl, rfl⟩
  unfold mapPut
  split
  · exact quiet_refl h
  · simp only [refUpAll, quiet_ite, quiet_foldHead, (quiet_refChange ..).iff, (quiet_markDirty ..).iff, (quiet_walkLines ..).iff, (hn ..).iff, quiet_mk,
      quiet_refl, implies_true, ite_self]

theorem quiet_updateGranule (h : Head) (nsid granule wseq loc : Nat) (refOnly : Bool) : Quiet h (updateGranule h nsid granule wseq loc refOnly).1 := by
  unfold updateGranule
  split
  · exact quiet_refl h
  · exact quiet_mapPut ..

theorem quiet_dropGranule (h : Head) (nsid granule : Nat) : Quiet h (dropGranule h nsid granule) := quiet_setSlots ..

theorem quiet_filterInsert (h : Head) (w : Wing) (coll fp : Nat) : Quiet h (filterInsert h w coll fp) := by
  simp only [filterInsert, quiet_ite, quiet_rules, quiet_mk, quiet_refl, ite_self]

theorem onward_sendUpdate (h : Head) (w : Wing) (coll : Nat) (es : List CatEntry) : Onward h (sendUpdate h w coll es) :=
  (frame_sendUpdate ..).onward (by decide) (outGrows_sendUpdate ..)

theorem onward_freezeColl (h : Head) (coll number : Nat) : Onward h (freezeColl h coll number).1 := by
  unfold freezeColl
  split
  · exact onward_foldHead (fun g n => (frame_freezeNs g n number).onward (by decide) (outGrows_freezeNs g n number)) _ h
  · exact ((frame_raise h .east 0 Ev.CAT_EDITION_LIMIT).quiet (by decide) (by decide)).onward
  · exact onward_refl h

/-! ### Galleries (R254 to R264) -/

theorem quiet_returnItem (h : Head) (coll : Nat) (i : GalItem) : Quiet h (returnItem h coll i) := by
  simp only [returnItem, setSlotState, quiet_foldHead, (quiet_setIndex ..).iff, (quiet_setSlots ..).iff, quiet_mk, quiet_refl, implies_true]

theorem quiet_rejectCase (h : Head) (c : GalCase) : Quiet h (rejectCase h c) := by
  simp only [rejectCase, quiet_ite, quiet_foldHead, (quiet_setIndex ..).iff, (quiet_returnItem ..).iff, quiet_refl, implies_true, ite_self]

theorem quiet_setOpens (h : Head) (l : List Gallery) : Quiet h (setOpens h l) := (frame_setOpens h l).quiet (by decide) (by decide)

theorem quiet_findPlace (h : Head) (w : Wing) (c : GalCase) : Quiet h (findPlace h w c).2 := by
  unfold findPlace
  refine List.foldlRecOn (motive := fun acc : Option (Nat × Nat) × Head => Quiet h acc.2) _ _ (quiet_refl h) fun acc x g _ => ?_
  dsimp only
  split
  · exact x
  · exact x.trans (quiet_setOpens ..)

theorem quiet_layCase (h : Head) (serial k : Nat) (c : GalCase) : Quiet h (layCase h serial k c) := by
  have hc (g : Head) : Quiet g (closeGallery g serial) := (frame_closeGallery g serial).quiet (by decide) (by decide)
  unfold layCase
  split
  · exact quiet_refl h
  · simp only [updGallery, quiet_ite, (hc _).iff, (quiet_setOpens ..).iff, quiet_refl, ite_self]

theorem onward_formHall (h : Head) (w : Wing) (system : Bool) : Onward h (formHall h w system) := by
  unfold formHall
  dsimp only
  split
  · exact ((frame_raise h .east 0 Ev.CUR_NO_SPACE).quiet (by decide) (by decide)).onward
  · refine Quiet.trans_onward ?_ (onward_sendUpdate ..)
    simp only [setHall, setBlock, quiet_foldHead, (quiet_curUpd ..).iff, quiet_refl, implies_true]

theorem onward_ensureHalls (h : Head) (w : Wing) : Onward h (ensureHalls h w) := by
  have hf (l : List Nat) : Onward h (foldHead h l (fun h _ => formHall h w false)) := onward_foldHead (fun g _ => onward_formHall g w false) l h
  unfold ensureHalls
  split
  · exact onward_refl h
  · dsimp only
    split
    · exact (hf _).trans (onward_formHall ..)
    · exact hf _

theorem onward_openGallery {h g : Head} {w : Wing} {serial : Nat} (ho : openGallery h w = some (serial, g)) : Onward h g := by
  have hs (k : Head) (c : Nat) : Quiet k (setSerialCounter k c) := (frame_setSerialCounter k c).quiet (by decide) (by decide)
  unfold openGallery at ho
  dsimp only at ho
  split at ho
  · cases ho
  · obtain ⟨-, rfl⟩ := Prod.mk.inj (Option.some.inj ho)
    refine (onward_ensureHalls h w).trans_quiet ?_
    simp only [takeSerial, updHall, (quiet_setOpens ..).iff, (quiet_curUpd ..).iff, (hs ..).iff, quiet_refl]

theorem onward_placeCase (h : Head) (w : Wing) (c : GalCase) : Onward h (placeCase h w c) := by
  have hw (g : Head) : Quiet g { g with gal := { g.gal with queued := g.gal.queued ++ [(w, c)] } } := ⟨rfl, rfl⟩
  have hr : Quiet h (rejectCase h c) := quiet_rejectCase h c
  have hf := quiet_findPlace h w c
  unfold placeCase
  dsimp only
  split
  · exact (hr.trans ((frame_raise _ w 0 Ev.GAL_LABEL_FAULT).quiet (by decide) (by decide))).onward
  · split
    · exact hr.onward
    · split
      · exact (hw h).onward
      · split
        next serial k g hg =>
          rw [hg] at hf
          exact (hf.trans (quiet_layCase ..)).onward
        next g hg =>
          rw [hg] at hf
          split
          · exact ((hf.trans (hw g)).trans ((frame_raise _ w 0 Ev.GAL_RING_FULL).quiet (by decide) (by decide))).onward
          · split
            next serial k ho => exact (hf.trans_onward (onward_openGallery ho)).trans_quiet (quiet_layCase ..)
            next => exact (hf.trans (hw g)).onward

/-! ### Mirrors and windows -/

theorem onward_mirrorSend (h : Head) (w : Wing) : Onward h (mirrorSend h w) := by
  have hform (g : Head) : Onward g (formMirror g w) := by
    have hreq (v : VitState) (coll : Nat) (b : AnxBody) : OutGrows g (anxRequest { g with vit := v } w coll b).2 := outGrows_anxRequest { g with vit := v } w coll b
    refine (frame_formMirror g w).onward (by decide) ?_
    unfold formMirror
    dsimp only
    split
    · exact ⟨[], (List.append_nil _).symm⟩
    · exact hreq _ _ _
  have hloop (n : Nat) : ∀ g, Onward g (mirrorLoop n g w) := by
    induction n with
    | zero => exact onward_refl
    | succ n ih =>
      intro g
      unfold mirrorLoop
      split
      · exact (hform g).trans (ih _)
      · exact onward_refl g
  exact hloop _ h

theorem onward_placeDirty (h : Head) (nsid granule data coll : Nat) (committed : Bool) (record : Option FusedRec) :
    Onward h (placeDirty h nsid granule data coll committed record).2 := by
  have hd : Quiet h (dirtyPlaced h nsid granule data coll) := (frame_dirtyPlaced ..).quiet (by decide) (by decide)
  by_cases hc : (committed || !hasPeer (dirtyPlaced h nsid granule data coll)) = true
  · have he : placeDirty h nsid granule data coll committed record = ((takeSeq h (homeOf h nsid)).1,
        commitVersion (dirtyPlaced h nsid granule data coll) nsid granule (takeSeq h (homeOf h nsid)).1) := if_pos hc
    rw [he]
    exact (hd.trans ((frame_commitVersion ..).quiet (by decide) (by decide))).onward
  · have he : (placeDirty h nsid granule data coll committed record).2 = _ := congrArg Prod.snd (if_neg hc)
    rw [he]
    exact hd.trans_onward ((show Quiet _ _ from ⟨rfl, rfl⟩).trans_onward (onward_mirrorSend ..))

theorem onward_portSend (h : Head) (w : Wing) (port prio : Nat) (m : Msg) : Onward h (portSend h w port prio m) := by
  unfold portSend
  dsimp only
  split
  · exact Quiet.onward ⟨rfl, rfl⟩
  · exact onward_send h m

theorem onward_mftSend (h : Head) (w : Wing) (ctx : Nat) (p : MftPacket) : Onward h (mftSend h w ctx p) := by
  rw [mftSend_eq]
  exact (show Quiet h (countedOut h w ctx) from ⟨rfl, rfl⟩).trans_onward (onward_portSend ..)

theorem onward_sendAck (h : Head) (w : Wing) (ctx : Nat) (b : Bool) : Onward h (sendAck h w ctx b) :=
  ((frame_mftPut h w ctx _).quiet (by decide) (by decide)).trans_onward (onward_mftSend ..)

theorem onward_pump (h : Head) (w : Wing) (ctx fuel : Nat) : Onward h (pump h w ctx fuel) := by
  induction fuel generalizing h with
  | zero => exact onward_refl h
  | succ fuel ih =>
    have hp (g : Head) (c : MftCtx) : Quiet g (mftPut g w ctx c) := (frame_mftPut g w ctx c).quiet (by decide) (by decide)
    have hb (c : MftCtx) (v : Nat) (p : MftPacket) : Onward h (mftSend (fset (mftPut h w ctx c) w MFT_CTX_SND_NEXT_PSN v ctx) w ctx p) :=
      ((hp h c).trans ((frame_fset _ w ctx 0 MFT_CTX_SND_NEXT_PSN v).quiet (by decide) (by decide))).trans_onward (onward_mftSend ..)
    unfold pump
    dsimp only
    split
    · exact onward_refl h
    · split
      · exact onward_refl h
      · exact (hb ..).trans (ih _)

theorem onward_syncWindows (h : Head) : Onward h (syncWindows h) := by
  refine onward_foldHead (fun g e => ?_) h.mft h
  dsimp only
  generalize (if e.1 < 32768 then Wing.east else Wing.west) = w
  split
  · exact (onward_sendAck ..).trans (onward_pump ..)
  · exact onward_refl g

end Sys2Proof.Laws
end

section
/-! What settling keeps, in the replication engine and in the delivery of events (R71, R73, R342 to R357): `settle` as a whole. -/

namespace Sys2Proof.Laws

open Machine Machine.Reg

/-! ### Requests and replies (R342 to R347) -/

theorem quiet_rplUpd (h : Head) (coll : Nat) (f : RplColl → RplColl) : Quiet h (rplUpd h coll f) := (frame_rplUpd h coll f).quiet (by decide) (by decide)

theorem onward_rplReply (h : Head) (coll nsid rtag rtype : Nat) (st : Status) (bits : List Bool) : Onward h (rplReply h coll nsid rtag rtype st bits) :=
  onward_send h _

theorem onward_rplRequest (h : Head) (coll nsid : Nat) (b : RplBody) : Onward h (rplRequest h coll nsid b).2 := by
  obtain ⟨-, -, hout, hf⟩ := rplRequest_sends h coll nsid b
  exact hf.onward (by decide) ⟨_, hout⟩

theorem quiet_endShip (h : Head) (coll : Nat) (st : Status) : Quiet h (endShip h coll st) := (endShip_keeps h coll st).1.quiet (by decide) (by decide)

theorem quiet_diverge (h : Head) (coll : Nat) : Quiet h (diverge h coll) := by
  simp only [diverge, quiet_ite, quiet_rules, (quiet_rplUpd ..).iff, quiet_mk, quiet_refl, ite_self]

theorem quiet_rplFailed (h : Head) : Quiet h (rplFailed h) := by
  have ht (g : Head) (coll rtag : Nat) : Quiet g (rplTimeout g coll rtag) := by
    unfold rplTimeout
    split
    · exact quiet_refl g
    · simp only [quiet_ite, (quiet_endShip ..).iff, (quiet_diverge ..).iff, quiet_refl, ite_self]
  simp only [rplFailed, quiet_foldHead, quiet_ite, (ht ..).iff, quiet_refl, implies_true, ite_self]

theorem onward_rplAcks (h : Head) : Onward h (rplAcks h) :=
  (show Quiet h _ from ⟨rfl, rfl⟩).trans_onward (onward_foldHead (fun g (a : Nat × Nat × Nat × List Nat) => onward_rplReply g a.1 a.2.1 a.2.2.1 1 .done []) _ _)

/-! ### Requests applied at the target (R343, R346, R352 to R355) -/

theorem onward_storeCase (h : Head) (coll nsid : Nat) (es : List (Nat × Nat × Nat)) (raw : Bool) (image : Nat) (data : List Nat) :
    Onward h (storeCase h coll nsid es raw image data) := by
  unfold storeCase
  dsimp only
  refine Quiet.trans_onward ?_ (onward_placeCase ..)
  simp only [quiet_foldHead, (quiet_filterInsert ..).iff, (quiet_setIndex ..).iff, (quiet_dropGranule ..).iff, quiet_refl, implies_true]

theorem onward_applyUnmap (h : Head) (coll nsid : Nat) (runs : List (Nat × Nat × Nat)) : Onward h (applyUnmap h coll nsid runs) := by
  unfold applyUnmap
  dsimp only
  refine Onward.trans (onward_foldl (view := Prod.fst) (fun acc x => ?_) _ (h, [])) (onward_sendUpdate ..)
  have hu := (quiet_dropGranule acc.1 nsid x.1).trans (quiet_updateGranule (dropGranule acc.1 nsid x.1) nsid x.1 0 x.2 false)
  split
  next g e hg =>
    rw [hg] at hu
    exact hu.onward
  next g hg =>
    rw [hg] at hu
    exact hu.onward

theorem onward_applyOffer (h : Head) (coll nsid : Nat) (es : List (Nat × Nat)) : Onward h (applyOffer h coll nsid es).1 := by
  unfold applyOffer
  dsimp only
  have hf := onward_foldl (view := fun acc : Head × List Bool × List CatEntry => acc.1) (f := fun acc e =>
    let (h, bits, cs) := acc
    match offerMatch h coll e.2 with
    | none => (h, bits ++ [false], cs)
    | some x => match updateGranule (dropGranule h nsid e.1) nsid e.1 0 x.loc true with
      | (h, some c) => (h, bits ++ [true], cs ++ [c])
      | (h, none) => (h, bits ++ [false], cs)) (fun acc e => by
    obtain ⟨g, bits, cs⟩ := acc
    dsimp only
    split
    · exact onward_refl g
    next x _ =>
      have hu := (quiet_dropGranule g nsid e.1).trans (quiet_updateGranule (dropGranule g nsid e.1) nsid e.1 0 x.loc true)
      split
      next k c hk =>
        rw [hk] at hu
        exact hu.onward
      next k hk =>
        rw [hk] at hu
        exact hu.onward) es (h, [], [])
  split
  · exact hf
  · exact hf.trans (onward_sendUpdate ..)

theorem onward_syncWrites (h : Head) (nsid coll : Nat) (es : List (Nat × Nat × Nat)) : Onward h (es.foldl (fun (acc : Head × List Nat) e =>
    let (q, h) := placeDirty acc.1 nsid e.1 e.2.2 coll false
    (h, acc.2 ++ [q])) (h, [])).1 :=
  onward_foldl (view := Prod.fst) (fun acc e => onward_placeDirty acc.1 nsid e.1 e.2.2 coll false none) es (h, [])

theorem onward_applyRpl {h g : Head} {coll nsid rtag : Nat} {b : RplBody} (ha : applyRpl h coll nsid rtag b = some g) : Onward h g := by
  have hanswer (k : Head) (hk : Onward h k) (rtype : Nat) (st : Status) (bits : List Bool) : Onward h (rplReply k coll nsid rtag rtype st bits) :=
    hk.trans (onward_rplReply ..)
  have hu (k : Head) (f : RplColl → RplColl) (hk : Onward h k) : Onward h (rplUpd k coll f) := hk.trans_quiet (quiet_rplUpd ..)
  unfold applyRpl at ha
  dsimp only at ha
  split at ha
  next es =>
    split at ha
    · cases ha
      exact hanswer h (onward_refl h) ..
    · split at ha
      · cases ha
      · cases ha
        exact (hu _ (fun c => { c with sync := true }) (onward_syncWrites h nsid coll es)).trans_quiet ⟨rfl, rfl⟩
  next edition base =>
    split at ha <;> cases ha
    · exact hanswer h (onward_refl h) ..
    · exact hanswer _ (hu _ _ (onward_refl h)) ..
  next es =>
    cases ha
    exact hanswer _ (onward_applyOffer ..) ..
  next es raw image =>
    split at ha
    · cases ha
      exact hanswer h (onward_refl h) ..
    · split at ha
      · cases ha
        exact hanswer h (onward_refl h) ..
      · split at ha <;> cases ha
        exact hanswer _ (onward_storeCase ..) ..
  next runs =>
    cases ha
    exact hanswer _ (onward_applyUnmap ..) ..
  next edition _ _ =>
    have hf := onward_freezeColl h coll edition
    split at ha
    · cases ha
    · split at ha <;> cases ha
      · exact hanswer _ (hu _ _ (onward_refl h)) ..
      · refine hanswer _ ?_ ..
        split
        · exact hu _ _ hf
        · exact hf
  next => exact (Option.some.inj ha) ▸ onward_refl h

theorem onward_rplIncoming (h : Head) : Onward h (rplIncoming h) := by
  have hk (g : Head) (l : List (Nat × Nat × Nat × RplBody)) : Onward g { g with rpl := { g.rpl with incoming := l } } := Quiet.onward ⟨rfl, rfl⟩
  refine (hk h []).trans (onward_foldl (view := Prod.fst) (fun acc q => ?_) h.rpl.incoming ({ h with rpl := { h.rpl with incoming := [] } }, []))
  obtain ⟨g, stopped⟩ := acc
  dsimp only
  split
  · exact hk ..
  · split
    next ha => exact onward_applyRpl ha
    next => exact hk ..

/-! ### What the source sends (R344, R352) -/

theorem onward_syncSendOne (h : Head) : Onward h (syncSendOne h) := by
  unfold syncSendOne
  dsimp only
  split
  · exact onward_refl h
  · split
    · exact (show Quiet h _ from ⟨rfl, rfl⟩).trans_onward (onward_rplRequest ..)
    · exact ((show Quiet h _ from ⟨rfl, rfl⟩).trans_onward (onward_rplRequest ..)).trans_quiet ⟨rfl, rfl⟩

theorem onward_syncPump (h : Head) : Onward h (syncPump h) := onward_foldl (view := id) (fun g _ => onward_syncSendOne g) _ h

theorem onward_shipSend {h g : Head} {coll nsid : Nat} {b : RplBody} (hs : shipSend h coll nsid b = some g) : Onward h g := by
  unfold shipSend at hs
  dsimp only at hs
  split at hs
  · cases hs
  · cases hs
    have hspent (g : Head) (w : Wing) (n : Nat) : Quiet g (setSpent g w n) := ⟨rfl, rfl⟩
    refine Quiet.trans_onward (Quiet.trans ?_ (hspent ..)) (onward_rplRequest ..)
    split <;> simp only [quiet_rules, quiet_refl]

theorem onward_shipStep (h : Head) (coll : Nat) : Onward h (shipStep h coll) := by
  have hset (g k : Head) (hk : Onward g k) (x : Option Ship) : Onward g (setShip k coll x) := hk.trans_quiet (quiet_rplUpd ..)
  unfold shipStep
  split
  · exact onward_refl h
  · split
    · exact onward_refl h
    · split
      · split
        next hs => exact hset _ _ (onward_shipSend hs) _
        next => exact onward_refl h
      · split
        · split
          next hs => exact hset _ _ (onward_shipSend hs) _
          next => exact onward_refl h
        · split
          · split
            next hs => exact hset _ _ (onward_shipSend hs) _
            next => exact onward_refl h
          · exact onward_refl h

theorem quiet_askShip (h : Head) (edition : Nat) (g : RplGranule) : Quiet h (askShip h edition g) := by
  unfold askShip
  dsimp only
  split
  · exact quiet_refl h
  · split
    · exact ⟨rfl, rfl⟩
    · split
      · exact quiet_refl h
      · exact ⟨rfl, rfl⟩

theorem onward_shipPump (h : Head) (coll : Nat) : Onward h (shipPump h coll) := by
  have ha (edition : Nat) (l : List RplGranule) : Quiet h (foldHead h l (fun h g => askShip h edition g)) :=
    (quiet_foldHead fun g x => quiet_askShip g edition x).2 (quiet_refl h)
  unfold shipPump
  split
  · exact onward_refl h
  · dsimp only
    split
    · exact ((ha ..).trans (quiet_endShip ..)).onward
    · exact (ha ..).trans_onward (onward_foldl (view := id) (fun g _ => onward_shipStep g coll) _ _)

theorem onward_rplRun (h : Head) : Onward h (rplRun h) :=
  (((onward_rplAcks h).trans (onward_rplIncoming _)).trans_quiet (quiet_rplFailed _)).trans
    ((onward_syncPump _).trans (onward_foldHead (fun g coll => onward_shipPump g coll) _ _))

/-! ### Delivery, and settling as a whole -/

theorem onward_follow (h : Head) : Onward h (follow h) := by
  have hv (g : Head) : Quiet g (vaultReady g) := (frame_vaultReady g).quiet (by decide) (by decide)
  exact ((onward_syncWindows h).trans (onward_rplRun _)).trans_quiet
    ((((hv _).trans (quiet_dumpKeyCheck _)).trans (quiet_syncReadyBit _)).trans (quiet_syncGroups _))

theorem onward_toDocent (h : Head) (ev : Nat) : Onward h (toDocent h ev) := by
  unfold toDocent
  dsimp only
  split
  · exact (onward_send h _).trans_quiet ((frame_record ..).quiet (by decide) (by decide))
  · exact onward_send h _

theorem onward_msiTo (h : Head) (ev hart : Nat) (machine : Bool) (identity : Nat) : Onward h (msiTo h ev hart machine identity) := by
  have hm (n : Nat) : Onward h (heard (send h (.msi n machine identity)) n) := (onward_send h _).trans_quiet (quiet_heard ..)
  have hb (g : Head) (w : Wing) : Quiet g (raise (fadd g w EVT_FALLBACK_COUNT_COUNT) w Ev.EVT_FALLBACK) := by
    simp only [quiet_rules, quiet_refl]
  unfold msiTo
  dsimp only
  split
  · exact hm hart
  · refine Onward.trans_quiet ?_ (hb ..)
    split
    · exact hm _
    · exact onward_toDocent h ev

theorem onward_deliver (h : Head) (d : Delivery) : Onward h (deliver h d) := by
  have hresp (c : Prop) [Decidable c] (g : Head) (r : Nat) : Onward g (if c then respond g r d.ev d.wing else g) := by
    split
    · exact (quiet_respond ..).onward
    · exact onward_refl g
  have hcopy (c : Prop) [Decidable c] (g : Head) : Onward g (if c then send g (.docentEvent d.ev) else g) := by
    split
    · exact onward_send g _
    · exact onward_refl g
  have hmsi (c : Prop) [Decidable c] (g : Head) (hart : Nat) (machine : Bool) (identity : Nat) :
      Onward g (if c then msiTo g d.ev hart machine identity else g) := by
    split
    · exact onward_msiTo ..
    · exact onward_refl g
  exact (((quiet_wdgEventFeed h d.ev).trans_onward (hresp ..)).trans (hcopy ..)).trans (hmsi ..)

theorem onward_deliverAll (n : Nat) (h : Head) : Onward h (deliverAll n h) := by
  induction n generalizing h with
  | zero => exact onward_refl h
  | succ n ih =>
    have hq (l : List Delivery) : Quiet h { h with evq := l } := ⟨rfl, rfl⟩
    unfold deliverAll
    split
    · exact onward_refl h
    · exact (hq _).trans_onward ((onward_deliver ..).trans (ih _))

/-- What was sent stays sent through settling, and the host commands that hold tags stay as they are. -/
theorem onward_settle (h : Head) : Onward h (settle h) := by
  unfold settle
  split
  · exact ((onward_follow h).trans (onward_deliverAll 4096 _)).trans_quiet (quiet_syncReadyBit _)
  · exact onward_refl h

end Sys2Proof.Laws
end

section
/-! What settling keeps refutes of O22 and O41: the host tag that a completion frees may be taken at once, and a die command leaves only when
    its link has credits. -/

namespace Sys2Proof.Laws

open Machine Machine.Reg

/-- What a command completes with settles as the command's own effect does. -/
theorem completes_settles {c : Instr} {f : Head → Head} {s : State} {P : Head → Prop} (hx : exec c = lift f) (hr : Runs s.dev) (hc : Completes c s P) :
    ∃ h, settle h = settle (f s.dev) ∧ P h := by
  obtain ⟨h, hh, hP⟩ := hc
  rw [hx, lift_running f s hr] at hh
  injection hh with hs
  exact ⟨h, (congrArg State.dev hs).symm, hP⟩

/-- A command of this head's own, on East's port 0. -/
def eastCapsule (o : HostOp) : Capsule where
  wing := .east
  port := 0
  ctx := 0
  queue := 0
  cid := 0
  host := 0
  op := o
  nsid := 1
  slba := 0
  count := 1
  reserved := false
  appTag := false
  chkGuard := false
  chkRef := false
  pract := false
  fmt := .none
  trans := .send
  inCapsule := 0
  intact := true

/-- A namespace whose first granule lies in flash. -/
def flashNamespace : Namespace where
  nsid := 1
  coll := 0
  home := .east
  prefThis := true
  owned := true
  size := 1
  readOnly := false
  lastEdition := 0
  editions := []
  leaves := [(0, ⟨1, [(0, 0x10000)]⟩)]
  pages := []
  changing := false
  accStop := false

/-- A flush holds East's tag 0, and the peer's FORWARD of a read waits. -/
def forwardWaitsState : State := ⟨{ Head.reset with
  cat := { Head.reset.cat with nss := [(1, flashNamespace)] }
  foy := { Head.reset.foy with cmds := [(tagKey .east 0, newCmd (eastCapsule .flush) 0 false)] }
  vit := { Head.reset.vit with forwards := [⟨.east, 0, 0, eastCapsule .read, []⟩] } }, []⟩

theorem forwardWaitsState_ends : CmdEnds forwardWaitsState.dev .east 0 (newCmd (eastCapsule .flush) 0 false) where
  key := rfl
  tag := by decide
  wing := rfl
  own := rfl
  direct := rfl
  accessible := rfl
  sound := rfl
  same := rfl
  listens := rfl

/-- Refutes O22: its ninth clause leaves no command under the host tag of a command that fails, but a FORWARD that waits takes the tag as soon as
it is free (R94), and settling ends no command. The state is the reset state with a flush that ends MEDIA_FAIL and the peer's read waiting. -/
theorem not_admissionAndCompletion : ¬ Obligations.AdmissionAndCompletion := by
  intro hall
  obtain ⟨-, -, -, -, -, -, -, -, hfails, -⟩ := hall
  obtain ⟨h, hdev, -, hfree⟩ := completes_settles (exec_hostCompletion ..) rfl (hfails forwardWaitsState .east 0 (newCmd (eastCapsule .flush) 0 false)
    .mediaFail rfl forwardWaitsState_ends (by decide) (.inr (.inr rfl)))
  have htaken : (tabGet? (settle (hostCompletion forwardWaitsState.dev .east (.tag 0 .mediaFail))).foy.cmds (tagKey .east 0)).isSome = true := by
    decide +kernel
  have hkept : tabGet? (settle h).foy.cmds (tagKey .east 0) = none := (congrArg (tabGet? · (tagKey .east 0)) (onward_settle h).2).trans hfree
  rw [hdev] at hkept
  rw [hkept] at htaken
  exact absurd htaken (by decide)

/-- The reset state with plinth 0's link up and admitted but without credits, the Dispatcher running, and gallery 1 in the blocks of hall 0. -/
def noCreditState : State :=
  let p := pg .plk (plkWing 0) (plkInst 0)
  let h := hset (hset (hset (hset Head.reset p CTRL_ENABLE 1) p CTRL_QUIESCE 0) (pg .dsp .east) CTRL_ENABLE 1) (pg .dsp .east) CTRL_QUIESCE 0
  let h := hset (hset h p RUNG_CURRENT 0) (pg .dsp .east) RUNG_CURRENT 0
  let h := fset (fset h (plkWing 0) PLK_STATUS_UP 1 0 (plkInst 0)) (plkWing 0) PLK_STATUS_ADMITTED 1 0 (plkInst 0)
  ⟨{ h with cur := { h.cur with
    serials := [(1, ⟨0, 0, 1⟩)]
    halls := [(0, ⟨true, 1, false, .east, 1, 1, 1, [0], [], 1, 1, 0, [0, 64, 128]⟩)]
    blocks := [(0, ⟨1, 0, 0, 0, 0, false⟩)] } }, []⟩

/-- Refutes O41: its last clause has the read of a panel among the messages sent, but a link without credits keeps the command on its queue
(R278), and what was sent stays sent through settling. The state is the reset state with plinth 0 up, its link with no credits yet. -/
theorem not_curatorCommandsAct : ¬ Obligations.CuratorCommandsAct := by
  intro hall
  obtain ⟨-, -, -, -, -, -, hread⟩ := hall
  obtain ⟨h, hdev, c, -, hout, -⟩ := completes_settles (exec_hostReadDispatch ..) rfl (hread noCreditState 0x10000 0 1 0 0 0 0 0 _ rfl
    (by decide +kernel) (by decide +kernel) (by decide +kernel) rfl (by decide +kernel) (by decide +kernel) (by decide +kernel) (by decide +kernel)
    (by decide +kernel) (by decide +kernel))
  have hnone : (settle (hostReadDispatch noCreditState.dev 0x10000 0 1 0)).out = [] := by
    decide +kernel
  obtain ⟨ms, hms⟩ := (onward_settle h).1
  rw [hdev, hnone, hout] at hms
  exact absurd hms (by simp)

end Sys2Proof.Laws
end
